-- ==== Sys2Proof/Word.lean ====
section
/-! DEFINITION. The words the manual treats as bits: 32-bit bus words, bytes, and the bit fields of a word. -/

namespace Sys2Proof

/-- A 32-bit bus word: register contents and bus data (00, "Conventions"). -/
abbrev Word := BitVec 32

/-- One byte. -/
abbrev Byte := BitVec 8

/-- A word from a number, its low 32 bits. -/
abbrev word (n : Nat) : Word := BitVec.ofNat 32 n

/-- A byte from a number, its low 8 bits. -/
abbrev byte (n : Nat) : Byte := BitVec.ofNat 8 n

end Sys2Proof
end

