-- ==== Sys2Proof/Syntax.lean ====
section
/-! DEFINITION. The block's commands: one constructor per row of spec/opcode_table.json, in the table's order, with
its operands. A row's docstring names the rule the table gives it. -/

namespace Sys2Proof

/-- The masters of the core interconnect (01, "Masters"). -/
inductive Master where
  | core | custodian | mover | link | queue | host | debug
  deriving DecidableEq, Repr

/-- The two far dies, each across its own spine (01, "The spine links"). -/
inductive Die where
  | front | store
  deriving DecidableEq, Repr

/-- The front-end states a strobe or RADIO_FSM_CMD names (08, table "Front-end states"). -/
structure FsmTarget where
  state : Fin 8
  lanes : Bool
  path24 : Bool
  deriving DecidableEq, Repr

/-- What the supply and the pads give a start: the steps whose own check fails for reasons outside the digital state
(an oscillator, a spine training, the self-test, a lock, a calibration), the BOOT_SEL level, the loop and other tamper
inputs that trip and before which step, in order (R105), the steps whose signature request the custodian refuses, and
what the temperature sensor reads at step 11. -/
structure BootEnv where
  fails    : List (Fin 14)      -- steps that fail on the path they take
  bootSel  : Option Bool        -- the level driven on BOOT_SEL at step 0; none: undriven, the pull-down decides (R69)
  tamper   : List (Fin 14 × Fin 8)     -- the tamper inputs that trip during a step
  refused  : List (Fin 14)      -- steps 7 and 12: the custodian refuses the signature request (R48, check 8)
  temp     : Int                -- sensor reading at step 11, 0.01 °C
  deriving DecidableEq, Repr

/-- The supply at the end of a power-on reset: whether it lies below the warning level (R674). -/
structure SupplyEnv where
  low : Bool
  deriving DecidableEq, Repr

/-- The recallable resources (16, table "Recallable resources"). -/
inductive Recallable where
  | plane (p : Fin 2)          -- 0x01
  | spineS (noFlit : Bool)     -- 0x02; whether the store die answers no flit
  | spineF                     -- 0x03
  | port (m : Master)          -- 0x04: the master's outstanding transaction
  | custodian                  -- 0x05
  deriving DecidableEq, Repr

/-- What the receiver measures on a frame: the SNR and the residual EVM of each data carrier, the IQ and DC corrections,
the carrier offset, the mean header SNR, the Gen 1 eye width, and the received power (signed, 0.5 dBm steps). -/
structure RxMeas where
  snr    : List (Fin 256)
  evm    : List (Fin 256)
  iq     : Word
  dc     : Word
  cfo    : Int
  hdrSnr : Fin 256
  eye    : Fin 101
  rssi   : Int
  deriving DecidableEq, Repr

/-- How a controller transfer of an I²C unit ends on the bus (18, table "I²C statuses"). -/
inductive I2cEnd where
  | ok | nackAddr | nackData (i : Fin 255)
  deriving DecidableEq, Repr

/-- A queue command as a port submits it (12, table "Queue commands"): `cmd` 1 to 7, FLAG, CLASS, QUEUE and ARG. -/
structure QCmd where
  cmd   : Nat
  flag  : Bool := false
  cls   : Nat := 0
  queue : Nat
  arg   : Nat := 0
  deriving DecidableEq, Repr

/-- A command that a port submits to the queue engine, on the CPU port by a master. -/
structure PortCmd where
  port : Fin 4
  m    : Master
  cmd  : QCmd
  deriving DecidableEq, Repr

/-- The commands the block takes: the rows of the opcode table. A queue command names beside it those that other ports
submit in the same SYSCLK cycle (R372, R396, R397). -/
inductive Instr where
  | absentUnitRead (m : Master) (addr : Word)   -- ABSENT_UNIT_READ (R6)
  | absentUnitWrite (m : Master) (addr : Word) (v : Word)   -- ABSENT_UNIT_WRITE (R7)
  | rcRegisterRead (m : Master) (addr : Word)   -- RC_REGISTER_READ (R12)
  | registerWrite (m : Master) (addr : Word) (v : Word)   -- REGISTER_WRITE (R12)
  | unmappedAccess (m : Master) (write : Bool) (addr : Word)   -- UNMAPPED_ACCESS (R28)
  | queueMemoryWrite (m : Master) (addr : Word) (v : Word)   -- QUEUE_MEMORY_WRITE (R365)
  | bufferLinkWordWrite (m : Master) (addr : Word) (v : Word)   -- BUFFER_LINK_WORD_WRITE (R364)
  | farDieAccess (m : Master) (write : Bool) (addr : Word) (v : Word)   -- FAR_DIE_ACCESS (R20)
  | farDieResponse (die : Die)   -- FAR_DIE_RESPONSE (R20)
  | storeStatusRead (m : Master) (addr : Word)   -- STORE_STATUS_READ (R670)
  | spineRequestRepresented (m : Master)   -- SPINE_REQUEST_REPRESENTED (R36)
  | spinePacketReceived (die : Die) (far : Bool) (seq : Byte) (crcOk : Bool)   -- SPINE_PACKET_RECEIVED (R16)
  | spineNakReceived (die : Die) (far : Bool) (seq : Byte)   -- SPINE_NAK_RECEIVED (R15)
  | spineAckTimeout (die : Die) (far : Bool)   -- SPINE_ACK_TIMEOUT (R15)
  | timingStrobe (target : FsmTarget)   -- TIMING_STROBE (R14)
  | sbrF   -- SBR_F (R31)
  | sbrFRelease   -- SBR_F_RELEASE (R31)
  | frontPllLocked   -- FRONT_PLL_LOCKED (R31)
  | spineTrainingDone (die : Die)   -- SPINE_TRAINING_DONE (R31)
  | sbrS   -- SBR_S (R32)
  | sbrSHold   -- SBR_S_HOLD (R32)
  | retrainF   -- RETRAIN_F (R669)
  | retrainS   -- RETRAIN_S (R669)
  | catlVerify   -- CATL_VERIFY (R48)
  | catlApply   -- CATL_APPLY (R48)
  | catlSignatureDone (refused : Bool)   -- CATL_SIGNATURE_DONE (R48)
  | catlStageFolio   -- CATL_STAGE_FOLIO (R52)
  | catlSwitch   -- CATL_SWITCH (R53)
  | catlSetActive (app : Bool) (slot : Bool)   -- CATL_SET_ACTIVE (R57)
  | catlRecordWritten   -- CATL_RECORD_WRITTEN (R57)
  | catlCommit   -- CATL_COMMIT (R59)
  | catlRetire   -- CATL_RETIRE (R60)
  | powerOnReset (env : SupplyEnv)   -- POWER_ON_RESET (R64)
  | brownOutReset   -- BROWN_OUT_RESET (R64)
  | rstNPulse (ns : Nat)   -- RST_N_PULSE (R67)
  | softwareReset (key : Word)   -- SOFTWARE_RESET (R64)
  | debugReset   -- DEBUG_RESET (R64)
  | resetHoldEnd   -- RESET_HOLD_END (R66)
  | bootStart (env : BootEnv)   -- BOOT_START (R73)
  | bootStepTimeout (env : BootEnv) (step : Fin 14)   -- BOOT_STEP_TIMEOUT (R74)
  | bootOk (key : Word)   -- BOOT_OK (R90)
  | errataClr (v : Word)   -- ERRATA_CLR (R88)
  | errataMirrorRewrite   -- ERRATA_MIRROR_REWRITE (R88)
  | gpioHoldRelease   -- GPIO_HOLD_RELEASE (R71)
  | annexHello (line : List Byte)   -- ANNEX_HELLO (R100)
  | annexBegin (line : List Byte)   -- ANNEX_BEGIN (R100)
  | annexBeginErased (failed : Bool)   -- ANNEX_BEGIN_ERASED (R100)
  | annexData (line : List Byte) (failed : Bool)   -- ANNEX_DATA (R100)
  | annexEnd (line : List Byte) (refused : Bool)   -- ANNEX_END (R96)
  | annexReset (line : List Byte)   -- ANNEX_RESET (R100)
  | annexResetDelayExpiry   -- ANNEX_RESET_DELAY_EXPIRY (R104)
  | rescueBlockReceived (payload : List Byte) (refused : Bool)   -- RESCUE_BLOCK_RECEIVED (R103)
  | rescueEraseDone   -- RESCUE_ERASE_DONE (R104)
  | brownOutWarning   -- BROWN_OUT_WARNING (R112)
  | brownOutRelease   -- BROWN_OUT_RELEASE (R110)
  | wfiDoze   -- WFI_DOZE (R118)
  | wfiNap   -- WFI_NAP (R118)
  | wfiHibernate   -- WFI_HIBERNATE (R118)
  | sleepBlockersClear   -- SLEEP_BLOCKERS_CLEAR (R120)
  | napEntryAbort   -- NAP_ENTRY_ABORT (R673)
  | wakeInstantReached   -- WAKE_INSTANT_REACHED (R116)
  | napWakeResume (pllLocked : Bool)   -- NAP_WAKE_RESUME (R122)
  | hibernateWake   -- HIBERNATE_WAKE (R125)
  | pwrAlarmHiWrite (v : Word)   -- PWR_ALARM_HI_WRITE (R127)
  | alarmFire   -- ALARM_FIRE (R675)
  | clkCtrlWrite (v : Word)   -- CLK_CTRL_WRITE (R133)
  | corePllLock   -- CORE_PLL_LOCK (R133)
  | corePllLockLoss   -- CORE_PLL_LOCK_LOSS (R135)
  | rootMonitorFail (count : Nat)   -- ROOT_MONITOR_FAIL (R136)
  | slowFail   -- SLOW_FAIL (R137)
  | tickMonitorExpiry   -- TICK_MONITOR_EXPIRY (R676)
  | chronicleTrimStep   -- CHRONICLE_TRIM_STEP (R142)
  | sleepMeasurementDone (count : Nat)   -- SLEEP_MEASUREMENT_DONE (R143)
  | chronStepArm   -- CHRON_STEP_ARM (R146)
  | chronStepNow   -- CHRON_STEP_NOW (R147)
  | chronStepCancel   -- CHRON_STEP_CANCEL (R147)
  | chronStepReached   -- CHRON_STEP_REACHED (R146)
  | disciplineStep   -- DISCIPLINE_STEP (R149)
  | chronResync   -- CHRON_RESYNC (R152)
  | chronRateWrite (v : Word)   -- CHRON_RATE_WRITE (R158)
  | chronLost (openAt : Nat)   -- CHRON_LOST (R154)
  | timerPrescaleExpiry (t : Fin 8)   -- TIMER_PRESCALE_EXPIRY (R161)
  | timerStart (t : Fin 8)   -- TIMER_START (R187)
  | timerStop (t : Fin 8)   -- TIMER_STOP (R187)
  | timerClear (t : Fin 8)   -- TIMER_CLEAR (R166)
  | timerCapture (t : Fin 8) (ch : Fin 4)   -- TIMER_CAPTURE (R169)
  | timerCntWrite (t : Fin 8) (v : Word)   -- TIMER_CNT_WRITE (R166)
  | actionEntryWrite (m : Master) (i : Fin 512) (w : Fin 4) (v : Word)   -- ACTION_ENTRY_WRITE (R171)
  | actArm (m : Master) (v : Word)   -- ACT_ARM (R172)
  | actCancel (m : Master) (v : Word)   -- ACT_CANCEL (R177)
  | actRelease (m : Master) (v : Word)   -- ACT_RELEASE (R178)
  | actTmpl (m : Master) (v : Word)   -- ACT_TMPL (R179)
  | actionFire   -- ACTION_FIRE (R173)
  | actionCatchUp   -- ACTION_CATCH_UP (R183)
  | fabricChannelFire   -- FABRIC_CHANNEL_FIRE (R191)
  | fabFire (v : Word)   -- FAB_FIRE (R199)
  | fabSwev (v : Word)   -- FAB_SWEV (R199)
  | fabTaskWrite (c : Fin 128) (second : Bool) (v : Word)   -- FAB_TASK_WRITE (R195)
  | fabCfgWrite (c : Fin 128) (v : Word)   -- FAB_CFG_WRITE (R195)
  | backupCellRise   -- BACKUP_CELL_RISE (R206)
  | intcClaim (m : Master)   -- INTC_CLAIM (R211)
  | samplerOverload   -- SAMPLER_OVERLOAD (R220)
  | rangingCaptureEnd (samples : List Byte)   -- RANGING_CAPTURE_END (R222)
  | radioFreqWrite (tx : Bool) (v : Word)   -- RADIO_FREQ_WRITE (R217)
  | radioFsmCmd (v : Word)   -- RADIO_FSM_CMD (R233)
  | strobeReceived (parityOk : Bool)   -- STROBE_RECEIVED (R231)
  | frontTransitionEnd   -- FRONT_TRANSITION_END (R232)
  | returnLossLow (path24 : Bool) (rl : Fin 256)   -- RETURN_LOSS_LOW (R226)
  | tuningGapGrant (power : Int)   -- TUNING_GAP_GRANT (R354)
  | retuneDone (first : Fin 256) (rest : List (Fin 64 × Fin 64 × Fin 256))   -- RETUNE_DONE (R228)
  | detectStage1 (power : Int)   -- DETECT_STAGE1 (R265)
  | preambleQualified (corr : Fin 256)   -- PREAMBLE_QUALIFIED (R265)
  | detectStage2Timeout   -- DETECT_STAGE2_TIMEOUT (R266)
  | gen1SyncFound (errors : Fin 33) (ref : Nat)   -- GEN1_SYNC_FOUND (R242)
  | headerDecoded (header : BitVec 48) (ref : Nat)   -- HEADER_DECODED (R250)
  | payloadEnd (psdu : List Byte) (meas : RxMeas)   -- PAYLOAD_END (R272)
  | ltsWrite (rate : Bool) (id : Fin 1024)   -- LTS_WRITE (R263)
  | ltsRead (id : Fin 1024)   -- LTS_READ (R284)
  | ltsRemove (id : Fin 1024)   -- LTS_REMOVE (R284)
  | ltsDerive (rate : Bool)   -- LTS_DERIVE (R264)
  | ltsDeriveDone   -- LTS_DERIVE_DONE (R284)
  | laneEstimateUpdate (lanes : List Word) (spur : Fin 256)   -- LANE_ESTIMATE_UPDATE (R289)
  | temperatureEvaluation (raw : Int)   -- TEMPERATURE_EVALUATION (R294)
  | calRequest   -- CAL_REQUEST (R308)
  | calForce   -- CAL_FORCE (R308)
  | calWaitExpiry   -- CAL_WAIT_EXPIRY (R303)
  | blackoutGrant   -- BLACKOUT_GRANT (R299)
  | forcedBlackoutStart   -- FORCED_BLACKOUT_START (R304)
  | calFolioEnd (ok : Bool) (lanes : List Word) (spur : Fin 256)   -- CAL_FOLIO_END (R297)
  | slotBoundary   -- SLOT_BOUNDARY (R312)
  | beaconSend   -- BEACON_SEND (R345)
  | beaconAccepted (psdu : List Byte) (ref : Nat)   -- BEACON_ACCEPTED (R344)
  | airopStart   -- AIROP_START (R359)
  | airopFabricTask (k : Fin 32)   -- AIROP_FABRIC_TASK (R359)
  | lbtListenEnd (power : Int)   -- LBT_LISTEN_END (R330)
  | transmissionOpen   -- TRANSMISSION_OPEN (R331)
  | budgetBucketAdvance (band : Fin 8)   -- BUDGET_BUCKET_ADVANCE (R332)
  | receiveWindowClose   -- RECEIVE_WINDOW_CLOSE (R320)
  | ackReceived (seq : Fin 65536)   -- ACK_RECEIVED (R326)
  | ackTimeout   -- ACK_TIMEOUT (R321)
  | linkFcntWrite (k : Fin 2) (v : Word)   -- LINK_FCNT_WRITE (R339)
  | macAssign (src : Fin 65536) (body : List Byte)   -- MAC_ASSIGN (R319)
  | macLtSet (src : Fin 65536) (body : List Byte)   -- MAC_LT_SET (R319)
  | macLtUse (src : Fin 65536) (body : List Byte)   -- MAC_LT_USE (R319)
  | joinSend   -- JOIN_SEND (R319)
  | joinRetry   -- JOIN_RETRY (R319)
  | floodRelay   -- FLOOD_RELAY (R352)
  | linkOpSubmit (m : Master)   -- LINK_OP_SUBMIT (R360)
  | linkOpCancel (m : Master) (k : Fin 32)   -- LINK_OP_CANCEL (R360)
  | linkOpRelease (m : Master) (k : Fin 32)   -- LINK_OP_RELEASE (R360)
  | nbrAdd   -- NBR_ADD (R343)
  | nbrRead (key : Fin 65536)   -- NBR_READ (R341)
  | nbrRemove (key : Fin 65536)   -- NBR_REMOVE (R341)
  | nbrReadIdx (key : Fin 65536)   -- NBR_READ_IDX (R341)
  | qeEnqueue (port : Fin 4) (m : Master) (queue : Fin 65536) (cell : Fin 65536) (beside : List PortCmd)   -- QE_ENQUEUE (R373)
  | qeDequeue (port : Fin 4) (m : Master) (queue : Fin 65536) (keep : Bool) (beside : List PortCmd)   -- QE_DEQUEUE (R373)
  | qePeek (port : Fin 4) (m : Master) (queue : Fin 65536) (beside : List PortCmd)   -- QE_PEEK (R373)
  | qeMove (port : Fin 4) (m : Master) (queue : Fin 65536) (dstq : Fin 65536) (beside : List PortCmd)   -- QE_MOVE (R373)
  | qeFlush (port : Fin 4) (m : Master) (queue : Fin 65536) (beside : List PortCmd)   -- QE_FLUSH (R373)
  | qePause (port : Fin 4) (m : Master) (queue : Fin 65536) (drain : Bool) (beside : List PortCmd)   -- QE_PAUSE (R373)
  | qeResume (port : Fin 4) (m : Master) (queue : Fin 65536) (cls : Fin 16) (clr : Bool) (beside : List PortCmd)   -- QE_RESUME (R373)
  | qeCompletionPosted (port : Fin 4)   -- QE_COMPLETION_POSTED (R379)
  | qeRingCiWrite (v : Word)   -- QE_RING_CI_WRITE (R370)
  | qeAlloc (m : Master) (v : Word)   -- QE_ALLOC (R367)
  | qeRelease (m : Master) (v : Word)   -- QE_RELEASE (R368)
  | qeInit (v : Word)   -- QE_INIT (R385)
  | qeBankRestored (bank : Fin 16)   -- QE_BANK_RESTORED (R387)
  | moverStart (m : Master) (ch : Fin 16)   -- MOVER_START (R389)
  | moverStop (ch : Fin 16)   -- MOVER_STOP (R395)
  | moverPacedRequest (ch : Fin 16) (stalled : Bool)   -- MOVER_PACED_REQUEST (R391)
  | moverDescriptorDone (ch : Fin 16)   -- MOVER_DESCRIPTOR_DONE (R394)
  | moverBusError (ch : Fin 16) (addr : Word)   -- MOVER_BUS_ERROR (R395)
  | storeErase (m : Master) (addr : Word)   -- STORE_ERASE (R415)
  | storeProgram (m : Master) (addr : Word) (len : Word)   -- STORE_PROGRAM (R415)
  | storeCheck (m : Master) (addr : Word)   -- STORE_CHECK (R415)
  | storeRefresh (m : Master) (addr : Word)   -- STORE_REFRESH (R415)
  | psCommit (m : Master) (slot : Word)   -- PS_COMMIT (R446)
  | psRetire (m : Master) (slot : Word)   -- PS_RETIRE (R448)
  | storeDataPortWrite (plane : Fin 2) (v : Word)   -- STORE_DATA_PORT_WRITE (R416)
  | storeDoneClear (v : Word)   -- STORE_DONE_CLEAR (R414)
  | storeAbort (v : Word)   -- STORE_ABORT (R418)
  | storePulseEnd (plane : Fin 2) (pass : Bool)   -- STORE_PULSE_END (R421)
  | storeResume (plane : Fin 2)   -- STORE_RESUME (R422)
  | xipLineRead (m : Master) (addr : Word) (decay : List (Nat × Bool))   -- XIP_LINE_READ (R411)
  | patrolReadDue   -- PATROL_READ_DUE (R434)
  | patrolReadDone (decay : List (Nat × Bool))   -- PATROL_READ_DONE (R438)
  | patrolRefreshResume   -- PATROL_REFRESH_RESUME (R663)
  | storPsCfgWrite (v : Word)   -- STOR_PS_CFG_WRITE (R443)
  | secmbDoorbell (m : Master) (v : Word)   -- SECMB_DOORBELL (R459)
  | aesEcb (k : Fin 4)   -- AES_ECB (R466)
  | aesCbc (k : Fin 4)   -- AES_CBC (R466)
  | aesCtr (k : Fin 4)   -- AES_CTR (R466)
  | aesCcm (k : Fin 4)   -- AES_CCM (R468)
  | aesCmac (k : Fin 4)   -- AES_CMAC (R466)
  | sha256 (k : Fin 4)   -- SHA256 (R467)
  | hmac (k : Fin 4)   -- HMAC (R467)
  | ecdsaSign (k : Fin 4)   -- ECDSA_SIGN (R466)
  | ecdsaVerify (k : Fin 4)   -- ECDSA_VERIFY (R468)
  | ecdh (k : Fin 4)   -- ECDH (R466)
  | ecKeygen (k : Fin 4)   -- EC_KEYGEN (R469)
  | keyDerive (k : Fin 4)   -- KEY_DERIVE (R469)
  | random (k : Fin 4)   -- RANDOM (R472)
  | keyImport (k : Fin 4)   -- KEY_IMPORT (R471)
  | keyExport (k : Fin 4)   -- KEY_EXPORT (R455)
  | keyPurge (k : Fin 4)   -- KEY_PURGE (R466)
  | keyInfo (k : Fin 4)   -- KEY_INFO (R466)
  | keyRestrict (k : Fin 4)   -- KEY_RESTRICT (R456)
  | idChallenge (k : Fin 4)   -- ID_CHALLENGE (R482)
  | attest (k : Fin 4)   -- ATTEST (R484)
  | lifecycle (k : Fin 4)   -- LIFECYCLE (R476)
  | unlockNonce (k : Fin 4)   -- UNLOCK_NONCE (R478)
  | unlock (k : Fin 4)   -- UNLOCK (R478)
  | mailboxRequestDone (k : Fin 4)   -- MAILBOX_REQUEST_DONE (R461)
  | refusalWindowEnd (k : Fin 4)   -- REFUSAL_WINDOW_END (R462)
  | secmbDoneClear (v : Word)   -- SECMB_DONE_CLEAR (R460)
  | trngHealthFail   -- TRNG_HEALTH_FAIL (R472)
  | tamperTrip (i : Fin 8)   -- TAMPER_TRIP (R489)
  | temperatureTamperCheck (temp : Int)   -- TEMPERATURE_TAMPER_CHECK (R486)
  | supplyGlitch   -- SUPPLY_GLITCH (R651)
  | relStart (src : Option Master) (ch : Fin 2)   -- REL_START (R501)
  | relDrop (src : Option Master) (ch : Fin 2)   -- REL_DROP (R500)
  | relRendezvous (ch : Fin 2) (power : Int) (join : Option (Fin 65536 × BitVec 128))   -- REL_RENDEZVOUS (R498)
  | relOpenReceived (ch : Fin 2) (desk : Fin 256) (src : Fin 65536) (target : Fin 65536) (nd : BitVec 128) (challenge : BitVec 96) (ranging : BitVec 16) (delta : List Int)   -- REL_OPEN_RECEIVED (R513)
  | relDecision (ch : Fin 2) (resp : BitVec 96) (offset : Int) (replies : List (Option Bool)) (times : List Int) (confirm : Option (List Byte))   -- REL_DECISION (R514)
  | relVerdictReceived (ch : Fin 2) (verdict : Option (List Byte))   -- REL_VERDICT_RECEIVED (R517)
  | lockLineMessageEnd (ch : Fin 2)   -- LOCK_LINE_MESSAGE_END (R519)
  | relSessionEnd (ch : Fin 2)   -- REL_SESSION_END (R524)
  | doorInEdge (n : Fin 2) (level : Bool)   -- DOOR_IN_EDGE (R524)
  | relFailclr (v : Word)   -- REL_FAILCLR (R515)
  | slipIntake (src : Fin 128)   -- SLIP_INTAKE (R533)
  | stickyClear (j : Fin 4) (v : Word)   -- STICKY_CLEAR (R534)
  | graceExpiry   -- GRACE_EXPIRY (R536)
  | faultInject (v : Word)   -- FAULT_INJECT (R543)
  | traceSlipRead (m : Master)   -- TRACE_SLIP_READ (R542)
  | traceStatWrite (m : Master)   -- TRACE_STAT_WRITE (R542)
  | recallHolder (res : Recallable)   -- RECALL (R544)
  | recallOutcomeCheck (res : Recallable)   -- RECALL_OUTCOME_CHECK (R546)
  | frontPllUnlock   -- FRONT_PLL_UNLOCK (R531)
  | regulatorOutOfRange (r : Fin 3)   -- REGULATOR_OUT_OF_RANGE (R531)
  | wdogFeed (key : Word)   -- WDOG_FEED (R548)
  | wdogWarning   -- WDOG_WARNING (R549)
  | wdogReset   -- WDOG_RESET (R550)
  | wdogLimitWrite (limit : Bool) (v : Word)   -- WDOG_LIMIT_WRITE (R551)
  | wdogLock   -- WDOG_LOCK (R552)
  | hif1Hello (line : List Byte)   -- HIF1_HELLO (R558)
  | hif1Read (line : List Byte)   -- HIF1_READ (R558)
  | hif1Write (line : List Byte)   -- HIF1_WRITE (R559)
  | hif1Enqueue (line : List Byte)   -- HIF1_ENQUEUE (R558)
  | hif1SoftwareFrame (line : List Byte)   -- HIF1_SOFTWARE_FRAME (R560)
  | hif1Rxdone (v : Word)   -- HIF1_RXDONE (R560)
  | hif1Txctrl (v : Word)   -- HIF1_TXCTRL (R561)
  | hif1TxDone   -- HIF1_TX_DONE (R561)
  | hif2Write (addr : Fin 65536) (data : List Byte)   -- HIF2_WRITE (R563)
  | hif2Read (addr : Fin 65536) (count : Fin 256) (slow : Bool)   -- HIF2_READ (R564)
  | hif2Status   -- HIF2_STATUS (R562)
  | hif2Window (base : Word)   -- HIF2_WINDOW (R562)
  | hifDbInWrite (third : Bool) (v : Word)   -- HIF_DB_IN_WRITE (R565)
  | hifDbOutWrite (m : Master) (v : Word)   -- HIF_DB_OUT_WRITE (R576)
  | hif3Write (addr : Word) (data : List Byte)   -- HIF3_WRITE (R566)
  | hif3Read (addr : Word) (n : Fin 4097)   -- HIF3_READ (R566)
  | hif3Status   -- HIF3_STATUS (R566)
  | ringSqTailWrite (r : Fin 4) (v : Word)   -- RING_SQ_TAIL_WRITE (R569)
  | ringEnqueue   -- RING_ENQUEUE (R571)
  | ringFetch   -- RING_FETCH (R571)
  | ringFlush   -- RING_FLUSH (R571)
  | ringPause   -- RING_PAUSE (R571)
  | ringResume   -- RING_RESUME (R571)
  | ringMove   -- RING_MOVE (R571)
  | ringCompletionPost   -- RING_COMPLETION_POST (R574)
  | hifHostBusError   -- HIF_HOST_BUS_ERROR (R577)
  | panelFlip   -- PANEL_FLIP (R587)
  | panelRefresh   -- PANEL_REFRESH (R588)
  | panelPowerOn   -- PANEL_POWER_ON (R589)
  | panelPowerOff   -- PANEL_POWER_OFF (R589)
  | panelPowerDelayEnd   -- PANEL_POWER_DELAY_END (R587)
  | panelDelayEnd   -- PANEL_DELAY_END (R580)
  | panelBusyInactive   -- PANEL_BUSY_INACTIVE (R580)
  | panelBusyTimeout   -- PANEL_BUSY_TIMEOUT (R580)
  | panelScriptEnd   -- PANEL_SCRIPT_END (R587)
  | panelDeferredFlip   -- PANEL_DEFERRED_FLIP (R593)
  | panelHoldExpiry   -- PANEL_HOLD_EXPIRY (R593)
  | spiStart (n : Fin 2) (task : Bool)   -- SPI_START (R602)
  | spiTargetFrame (n : Fin 2) (data : Fin 65536)   -- SPI_TARGET_FRAME (R604)
  | spiTransferEnd (n : Fin 2) (rx : List (Fin 65536))   -- SPI_TRANSFER_END (R602)
  | uartByteReceived (n : Fin 2) (b : Byte) (ferr : Bool) (perr : Bool) (brk : Bool)   -- UART_BYTE_RECEIVED (R608)
  | uartRxTimeout (n : Fin 2)   -- UART_RX_TIMEOUT (R607)
  | uartDataWrite (n : Fin 2) (v : Word)   -- UART_DATA_WRITE (R609)
  | uartSendTask (n : Fin 2)   -- UART_SEND_TASK (R606)
  | uartTxEmpty (n : Fin 2)   -- UART_TX_EMPTY (R607)
  | i2cXfer (n : Fin 2) (v : Word) (lost : Option (Fin 258 × Fin 8)) (asTarget : Bool)   -- I2C_XFER (R611)
  | i2cClear (n : Fin 2) (free : Bool)   -- I2C_CLEAR (R620)
  | i2cBusBusyTimeout (n : Fin 2)   -- I2C_BUS_BUSY_TIMEOUT (R612)
  | i2cSclTimeout (n : Fin 2)   -- I2C_SCL_TIMEOUT (R621)
  | i2cSdaStuckTimeout (n : Fin 2) (free : Bool)   -- I2C_SDA_STUCK_TIMEOUT (R620)
  | i2cStopSeen (n : Fin 2) (at_ : Fin 258 × Fin 8) (data : List Byte) (taken : Fin 256)   -- I2C_STOP_SEEN (R612)
  | gpioEdge (pin : Fin 40) (ext : Option Bool)   -- GPIO_EDGE (R623)
  | gpioSet (j : Fin 2) (v : Word)   -- GPIO_SET (R622)
  | gpioClr (j : Fin 2) (v : Word)   -- GPIO_CLR (R622)
  | gpioTgl (j : Fin 2) (v : Word)   -- GPIO_TGL (R622)
  | gpioTaskPort (k : Fin 8)   -- GPIO_TASK_PORT (R625)
  | adcStart   -- ADC_START (R627)
  | adcSeq   -- ADC_SEQ (R627)
  | adcStop   -- ADC_STOP (R627)
  | adcConversionDone (code : Fin 4096)   -- ADC_CONVERSION_DONE (R628)
  | spineAckReceived (die : Die) (far : Bool) (seq : Byte)   -- SPINE_ACK_RECEIVED (R15)
  | transmitEnded   -- TRANSMIT_ENDED (R361)
  | relExchangeEnd (ch : Fin 2)   -- REL_EXCHANGE_END (R511)
  | i2cTransferDone (n : Fin 2) (rx : List Byte) (how : I2cEnd)   -- I2C_TRANSFER_DONE (R611)
  | i2cStartSeen (n : Fin 2) (at_ : Fin 258 × Fin 8) (addr : Byte)   -- I2C_START_SEEN (R612)
  | psCommitReadDone (plane : Fin 2)   -- PS_COMMIT_READ_DONE (R446)
  | trngRestartDone   -- TRNG_RESTART_DONE (R472)
  | debugHalt   -- DEBUG_HALT (R553)
  | debugResume   -- DEBUG_RESUME (R553)
  | sleepCrystalEdge   -- SLEEP_CRYSTAL_EDGE (R676)
  deriving DecidableEq, Repr

end Sys2Proof
end

