-- ==== Sys2Proof/Decode.lean ====
section
/-! DEFINITION. The commands that words spell by the opcode table's bits. -/

namespace Sys2Proof

/-- The command a word spells by the bits of spec/opcode_table.json: none, because no row of that table gives bits. -/
def decodeTableWord (_nbits _w : Nat) : Option Instr := none

end Sys2Proof
end

