-- ==== Sys2Proof/Config.lean ====
section
/-! DEFINITION. What the part's manufacture fixes, and the free values: opaque constants without a body, so that
nothing can evaluate them or prove a value of them. -/

namespace Sys2Proof.Config

/-- The silicon step letter, 1 = A (00 R2): the step B1 of the manual's own example (notes/assumptions/1.md). -/
def stepLetter : Nat := 2

/-- The silicon step digit (00 R2). -/
def stepDigit : Nat := 1

/-- The part's 64-bit unique number (01, SYSCTL_UID). -/
opaque uid : BitVec 64

/-- The two fused catalogue public keys, false primary and true rotation, as affine P-256 coordinates (02, "Model"). -/
opaque imageKey : Bool → Nat × Nat

/-- The hardware unique key from which the storage and wrapping keys derive (14). -/
opaque hardwareKey : BitVec 256

/-- What KEY_DERIVE makes of a key and a label: the manual gives no derivation function. The arguments are the key, the
label, and the number of the byte. -/
opaque derived : List Byte → List Byte → Nat → Byte

/-- The contents of the mask-programmed boot ROM, by address: the manual gives none. -/
opaque romByte : Nat → Byte

/-- The PA drive code where the factory record gives none: between its points, and the nominal curve of the built-in
defaults (R285, R287). The arguments are the path, true 2.4 GHz, and the power in 0.5 dBm. -/
opaque paCode : Bool → Int → Nat

/-- A free byte: contents the manual leaves undefined. The argument is the state's counter of free values taken, or the
address of a byte whose contents a sleep without power left undefined (R115). -/
opaque freeByte : Nat → Byte

/-- A free number: a choice or a value the manual leaves open. -/
opaque freeNat : Nat → Nat

end Sys2Proof.Config
end

