-- ==== Sys2Proof/Machine/RegNames.lean ====
section
/-! DEFINITION. The registers' bus addresses by the manual's names, an index where a register repeats. -/

namespace Sys2Proof.Machine.Reg

abbrev ID : Nat := 0x40000000
abbrev PRESENT : Nat := 0x40000004
abbrev UID_LO : Nat := 0x40000008
abbrev UID_HI : Nat := 0x4000000C
abbrev SPINE_CTRL : Nat := 0x40000010
abbrev SPINE_F_STAT : Nat := 0x40000014
abbrev SPINE_S_STAT : Nat := 0x40000018
abbrev SPINE_F_ERR : Nat := 0x4000001C
abbrev SPINE_S_ERR : Nat := 0x40000020
abbrev BUS_ADDR : Nat := 0x40000024
abbrev BUS_INFO : Nat := 0x40000028
abbrev RSTC_CAUSE : Nat := 0x40001000
abbrev RSTC_HIST : Nat := 0x40001004
abbrev RSTC_SWRST : Nat := 0x40001008
abbrev RSTC_BOOT_STEP : Nat := 0x4000100C
abbrev RSTC_BOOT_OK : Nat := 0x40001010
abbrev RSTC_CIRC : Nat := 0x40001014
abbrev RSTC_ERRATA : Nat := 0x40001018
abbrev RSTC_ERRATA_CLR : Nat := 0x4000101C
abbrev RSTC_LASTFAIL : Nat := 0x40001020
abbrev RSTC_BOOTCFG : Nat := 0x40001024
abbrev RSTC_BKP (i : Nat) : Nat := 0x40001040 + 0x4 * i
abbrev PWR_CTRL : Nat := 0x40002000
abbrev PWR_RETAIN : Nat := 0x40002004
abbrev PWR_STATUS : Nat := 0x40002008
abbrev PWR_BLOCK : Nat := 0x4000200C
abbrev PWR_WAKE_CAUSE : Nat := 0x40002010
abbrev PWR_WAKE_AT_LO : Nat := 0x40002014
abbrev PWR_WAKE_AT_HI : Nat := 0x40002018
abbrev PWR_ALARM_LO : Nat := 0x4000201C
abbrev PWR_ALARM_HI : Nat := 0x40002020
abbrev PWR_WAKE_LEAD : Nat := 0x40002024
abbrev PWR_COUNT : Nat := 0x40002028
abbrev PWR_FORCED : Nat := 0x4000202C
abbrev CLK_CTRL : Nat := 0x40003000
abbrev CLK_STATUS : Nat := 0x40003004
abbrev CLK_MON : Nat := 0x40003008
abbrev FAULT_STICKY (i : Nat) : Nat := 0x40004000 + 0x4 * i
abbrev FAULT_SEVPEND (i : Nat) : Nat := 0x40004010 + 0x4 * i
abbrev FAULT_STATUS : Nat := 0x40004020
abbrev FAULT_CFG : Nat := 0x40004024
abbrev FAULT_COUNT : Nat := 0x40004028
abbrev FAULT_RECALL : Nat := 0x4000402C
abbrev FAULT_GRAVE : Nat := 0x40004030
abbrev FAULT_INJECT : Nat := 0x40004034
abbrev FAULT_TRACE_STAT : Nat := 0x40004038
abbrev FAULT_TRACE_TIME : Nat := 0x4000403C
abbrev FAULT_TRACE_SLIP : Nat := 0x40004040
abbrev FAULT_MAP (i : Nat) : Nat := 0x40004100 + 0x4 * i
abbrev INTC_PRIO (i : Nat) : Nat := 0x40005000 + 0x4 * i
abbrev INTC_EN (i : Nat) : Nat := 0x40005080 + 0x4 * i
abbrev INTC_PEND (i : Nat) : Nat := 0x400050A0 + 0x4 * i
abbrev INTC_PSET (i : Nat) : Nat := 0x400050C0 + 0x4 * i
abbrev INTC_THRESH : Nat := 0x40005100
abbrev INTC_CLAIM : Nat := 0x40005104
abbrev INTC_TOP : Nat := 0x40005108
abbrev INTC_OVR : Nat := 0x4000510C
abbrev FAB_FIRE : Nat := 0x40006000
abbrev FAB_SWEV : Nat := 0x40006004
abbrev FAB_MERGED : Nat := 0x40006008
abbrev FAB_LAST : Nat := 0x4000600C
abbrev FAB_STATUS : Nat := 0x40006010
abbrev FAB_BK_PEND : Nat := 0x40006014
abbrev FAB_SEEN (i : Nat) : Nat := 0x40006020 + 0x4 * i
abbrev FAB_CELL_CFG (i : Nat) : Nat := 0x40006100 + 0x10 * i
abbrev FAB_CELL_IN01 (i : Nat) : Nat := 0x40006104 + 0x10 * i
abbrev FAB_CELL_IN23 (i : Nat) : Nat := 0x40006108 + 0x10 * i
abbrev FAB_CH_CFG (i : Nat) : Nat := 0x40006400 + 0x10 * i
abbrev FAB_CH_TASK01 (i : Nat) : Nat := 0x40006404 + 0x10 * i
abbrev FAB_CH_TASK23 (i : Nat) : Nat := 0x40006408 + 0x10 * i
abbrev CHRON_NOW_LO : Nat := 0x40008000
abbrev CHRON_NOW_HI : Nat := 0x40008004
abbrev CHRON_RATE : Nat := 0x40008008
abbrev CHRON_SLEEP_ADJ : Nat := 0x4000800C
abbrev CHRON_STEP_LO : Nat := 0x40008010
abbrev CHRON_STEP_HI : Nat := 0x40008014
abbrev CHRON_STEP_AT_LO : Nat := 0x40008018
abbrev CHRON_STEP_AT_HI : Nat := 0x4000801C
abbrev CHRON_STEP_CTRL : Nat := 0x40008020
abbrev CHRON_DISC : Nat := 0x40008024
abbrev CHRON_EPS : Nat := 0x40008028
abbrev CHRON_BCN_TX_LO : Nat := 0x4000802C
abbrev CHRON_BCN_TX_HI : Nat := 0x40008030
abbrev CHRON_BCN_RX_LO : Nat := 0x40008034
abbrev CHRON_BCN_RX_HI : Nat := 0x40008038
abbrev CHRON_OFFSET : Nat := 0x4000803C
abbrev CHRON_BCN_SEQ : Nat := 0x40008040
abbrev CHRON_GUARD : Nat := 0x40008044
abbrev CHRON_SLEEP_WIN : Nat := 0x40008048
abbrev CHRON_STATUS : Nat := 0x4000804C
abbrev CHRON_EVEN : Nat := 0x40008050
abbrev ACT_ARM : Nat := 0x40008100
abbrev ACT_CANCEL : Nat := 0x40008104
abbrev ACT_RELEASE : Nat := 0x40008108
abbrev ACT_TMPL : Nat := 0x4000810C
abbrev ACT_BASE_LO : Nat := 0x40008110
abbrev ACT_BASE_HI : Nat := 0x40008114
abbrev ACT_RESULT : Nat := 0x40008118
abbrev ACT_WITHDRAWN_COUNT : Nat := 0x4000811C
abbrev ACT_COUNTS : Nat := 0x40008120
abbrev ACT_ARMED : Nat := 0x40008124
abbrev ACT_EVEN : Nat := 0x40008130
abbrev ACT_FREE_IDX : Nat := 0x40008134
abbrev ACT_FIRED (i : Nat) : Nat := 0x40008140 + 0x4 * i
abbrev WDOG_CTRL : Nat := 0x4000C000
abbrev WDOG_WARN : Nat := 0x4000C004
abbrev WDOG_LIMIT : Nat := 0x4000C008
abbrev WDOG_FEED : Nat := 0x4000C00C
abbrev WDOG_COUNT : Nat := 0x4000C010
abbrev WDOG_STATUS : Nat := 0x4000C014
abbrev TMR_CTRL (i : Nat) : Nat := 0x40010000 + 0x1000 * i
abbrev TMR_CNT (i : Nat) : Nat := 0x40010004 + 0x1000 * i
abbrev TMR_PRECNT (i : Nat) : Nat := 0x40010008 + 0x1000 * i
abbrev TMR_FLAGS (i : Nat) : Nat := 0x4001000C + 0x1000 * i
abbrev TMR_CC0_CFG (i : Nat) : Nat := 0x40010010 + 0x1000 * i
abbrev TMR_CC0 (i : Nat) : Nat := 0x40010014 + 0x1000 * i
abbrev TMR_CC0_STRIDE (i : Nat) : Nat := 0x40010018 + 0x1000 * i
abbrev TMR_CC1_CFG (i : Nat) : Nat := 0x40010020 + 0x1000 * i
abbrev TMR_CC1 (i : Nat) : Nat := 0x40010024 + 0x1000 * i
abbrev TMR_CC1_STRIDE (i : Nat) : Nat := 0x40010028 + 0x1000 * i
abbrev TMR_CC2_CFG (i : Nat) : Nat := 0x40010030 + 0x1000 * i
abbrev TMR_CC2 (i : Nat) : Nat := 0x40010034 + 0x1000 * i
abbrev TMR_CC2_STRIDE (i : Nat) : Nat := 0x40010038 + 0x1000 * i
abbrev TMR_CC3_CFG (i : Nat) : Nat := 0x40010040 + 0x1000 * i
abbrev TMR_CC3 (i : Nat) : Nat := 0x40010044 + 0x1000 * i
abbrev TMR_CC3_STRIDE (i : Nat) : Nat := 0x40010048 + 0x1000 * i
abbrev QE_CFG : Nat := 0x40020000
abbrev QE_INIT_RANGE : Nat := 0x40020004
abbrev QE_INIT_CTRL : Nat := 0x40020008
abbrev QE_CELLS : Nat := 0x4002000C
abbrev QE_CPU_CMD0 : Nat := 0x40020010
abbrev QE_CPU_CMD1 : Nat := 0x40020014
abbrev QE_CPU_SUBMIT : Nat := 0x40020018
abbrev QE_CPU_ACCEPT : Nat := 0x4002001C
abbrev QE_CPU_RING_PI : Nat := 0x40020020
abbrev QE_CPU_RING_CI : Nat := 0x40020024
abbrev QE_PORT_TAGS : Nat := 0x40020028
abbrev QE_CPU_ALLOC : Nat := 0x40020040
abbrev QE_CPU_CELL_RES : Nat := 0x40020044
abbrev QE_CPU_RELEASE : Nat := 0x40020048
abbrev QE_COUNT : Nat := 0x40020050
abbrev QE_CLASS (i : Nat) : Nat := 0x40020100 + 0x4 * i
abbrev QE_WEIGHT (i : Nat) : Nat := 0x40020140 + 0x4 * i
abbrev MOVER_RESULT : Nat := 0x40030000
abbrev MOVER_CH_CTRL (i : Nat) : Nat := 0x40030100 + 0x20 * i
abbrev MOVER_CH_DESC (i : Nat) : Nat := 0x40030104 + 0x20 * i
abbrev MOVER_CH_STATUS (i : Nat) : Nat := 0x40030108 + 0x20 * i
abbrev MOVER_CH_CUR (i : Nat) : Nat := 0x4003010C + 0x20 * i
abbrev MOVER_CH_LEFT (i : Nat) : Nat := 0x40030110 + 0x20 * i
abbrev MOVER_CH_ERRADDR (i : Nat) : Nat := 0x40030114 + 0x20 * i
abbrev LINK_CTRL : Nat := 0x40034000
abbrev LINK_STATUS : Nat := 0x40034004
abbrev LINK_SLOT_LO : Nat := 0x40034008
abbrev LINK_SLOT_HI : Nat := 0x4003400C
abbrev LINK_CFG0 : Nat := 0x40034010
abbrev LINK_CFG1 : Nat := 0x40034014
abbrev LINK_CFG2 : Nat := 0x40034018
abbrev LINK_ADDR : Nat := 0x4003401C
abbrev LINK_RANGE : Nat := 0x40034020
abbrev LINK_PARENT : Nat := 0x40034024
abbrev LINK_RXQ : Nat := 0x40034028
abbrev LINK_TXPWR : Nat := 0x4003402C
abbrev LINK_OPD (i : Nat) : Nat := 0x40034030 + 0x4 * i
abbrev LINK_OP_CMD : Nat := 0x40034040
abbrev LINK_OP_RESULT : Nat := 0x40034044
abbrev LINK_OP_ENDED : Nat := 0x40034048
abbrev LINK_KEYMAP : Nat := 0x4003404C
abbrev LINK_FCNT0 : Nat := 0x40034050
abbrev LINK_FCNT1 : Nat := 0x40034054
abbrev LINK_FLOOD : Nat := 0x40034058
abbrev LINK_TXDEF : Nat := 0x4003405C
abbrev LINK_NBR_CMD : Nat := 0x40034060
abbrev LINK_NBR_RESULT : Nat := 0x40034064
abbrev LINK_NBR_DATA (i : Nat) : Nat := 0x40034070 + 0x4 * i
abbrev LINK_BUDGET_WARN : Nat := 0x40034090
abbrev LINK_BAND_USED (i : Nat) : Nat := 0x40034100 + 0x4 * i
abbrev LINK_BAND_CNT (i : Nat) : Nat := 0x40034120 + 0x4 * i
abbrev LINK_BAND_ALLOW (i : Nat) : Nat := 0x40034140 + 0x4 * i
abbrev LINK_COUNT_TX : Nat := 0x40034160
abbrev LINK_COUNT_RX : Nat := 0x40034164
abbrev LINK_COUNT_MESH : Nat := 0x40034168
abbrev LINK_LAST : Nat := 0x4003416C
abbrev LTS_CMD : Nat := 0x40037000
abbrev LTS_RESULT : Nat := 0x40037004
abbrev LTS_DATA (i : Nat) : Nat := 0x40037010 + 0x4 * i
abbrev LTS_COUNT : Nat := 0x40037040
abbrev STOR_CFG : Nat := 0x40038000
abbrev STOR_STATE : Nat := 0x40038004
abbrev STOR_CMD_OP : Nat := 0x40038010
abbrev STOR_CMD_ADDR : Nat := 0x40038014
abbrev STOR_CMD_LEN : Nat := 0x40038018
abbrev STOR_SUBMIT : Nat := 0x4003801C
abbrev STOR_ACCEPT : Nat := 0x40038020
abbrev STOR_DONE : Nat := 0x40038024
abbrev STOR_ABORT : Nat := 0x40038028
abbrev STOR_WDATA0 : Nat := 0x40038030
abbrev STOR_WDATA1 : Nat := 0x40038034
abbrev STOR_RESULT (i : Nat) : Nat := 0x40038040 + 0x4 * i
abbrev STOR_PATROL : Nat := 0x40038060
abbrev STOR_SPARE : Nat := 0x40038064
abbrev STOR_COUNT : Nat := 0x40038068
abbrev STOR_COUNT2 : Nat := 0x4003806C
abbrev STOR_ECC_ADDR : Nat := 0x40038070
abbrev STOR_PS_CFG : Nat := 0x40038080
abbrev STOR_PS_STATE : Nat := 0x40038084
abbrev SECMB_FREE : Nat := 0x4003C000
abbrev SECMB_DOORBELL : Nat := 0x4003C004
abbrev SECMB_DB_RESULT : Nat := 0x4003C008
abbrev SECMB_DONE : Nat := 0x4003C00C
abbrev SECMB_LIFE : Nat := 0x4003C010
abbrev SECMB_TAMP_LATCH : Nat := 0x4003C020
abbrev SECMB_TAMP_CLASS : Nat := 0x4003C024
abbrev SECMB_TAMP_FIRST_LO : Nat := 0x4003C028
abbrev SECMB_TAMP_FIRST_HI : Nat := 0x4003C02C
abbrev SECMB_TAMP_PIN : Nat := 0x4003C030
abbrev SECMB_TAMP_COUNT : Nat := 0x4003C034
abbrev SECMB_S_CMD (i : Nat) : Nat := 0x4003C040 + 0x40 * i
abbrev SECMB_S_LEN (i : Nat) : Nat := 0x4003C044 + 0x40 * i
abbrev SECMB_S_PARAM0 (i : Nat) : Nat := 0x4003C048 + 0x40 * i
abbrev SECMB_S_PARAM1 (i : Nat) : Nat := 0x4003C04C + 0x40 * i
abbrev SECMB_S_PARAM2 (i : Nat) : Nat := 0x4003C050 + 0x40 * i
abbrev SECMB_S_PARAM3 (i : Nat) : Nat := 0x4003C054 + 0x40 * i
abbrev SECMB_S_PARAM4 (i : Nat) : Nat := 0x4003C058 + 0x40 * i
abbrev SECMB_S_PARAM5 (i : Nat) : Nat := 0x4003C05C + 0x40 * i
abbrev SECMB_S_PARAM6 (i : Nat) : Nat := 0x4003C060 + 0x40 * i
abbrev SECMB_S_PARAM7 (i : Nat) : Nat := 0x4003C064 + 0x40 * i
abbrev SECMB_S_STATUS (i : Nat) : Nat := 0x4003C070 + 0x40 * i
abbrev REL_CTRL : Nat := 0x40040000
abbrev REL_RESULT : Nat := 0x40040004
abbrev REL_FAILCOUNT : Nat := 0x40040008
abbrev REL_FAILCLR : Nat := 0x4004000C
abbrev REL_DOOR : Nat := 0x40040010
abbrev REL_CH_CTRL (i : Nat) : Nat := 0x40040100 + 0x40 * i
abbrev REL_CH_CFG (i : Nat) : Nat := 0x40040104 + 0x40 * i
abbrev REL_CH_POLICY (i : Nat) : Nat := 0x40040108 + 0x40 * i
abbrev REL_CH_TIMES (i : Nat) : Nat := 0x4004010C + 0x40 * i
abbrev REL_CH_STATUS (i : Nat) : Nat := 0x40040110 + 0x40 * i
abbrev REL_CH_LOCKCNT (i : Nat) : Nat := 0x40040114 + 0x40 * i
abbrev REL_CH_DIST (i : Nat) : Nat := 0x40040118 + 0x40 * i
abbrev REL_CH_COUNT (i : Nat) : Nat := 0x4004011C + 0x40 * i
abbrev PANEL_CTRL : Nat := 0x40044000
abbrev PANEL_STAGE : Nat := 0x40044004
abbrev PANEL_SHOWN : Nat := 0x40044008
abbrev PANEL_SCRIPT : Nat := 0x4004400C
abbrev PANEL_HOLD : Nat := 0x40044010
abbrev PANEL_STATUS : Nat := 0x40044014
abbrev PANEL_COUNT : Nat := 0x40044018
abbrev PANEL_PROF0 : Nat := 0x40044020
abbrev PANEL_PROF1 : Nat := 0x40044024
abbrev HIF_CFG : Nat := 0x40048000
abbrev HIF_ERR : Nat := 0x40048004
abbrev HIF_IRQ_PEND : Nat := 0x40048008
abbrev HIF_IRQ_MASK : Nat := 0x4004800C
abbrev HIF_DB_IN : Nat := 0x40048010
abbrev HIF_DB_OUT : Nat := 0x40048014
abbrev HIF2_WIN : Nat := 0x40048018
abbrev HIF1_RXINFO : Nat := 0x40048020
abbrev HIF1_RXDONE : Nat := 0x40048024
abbrev HIF1_TXCTRL : Nat := 0x40048028
abbrev HIF1_TXSTAT : Nat := 0x4004802C
abbrev RING_SQ_BASE (i : Nat) : Nat := 0x40048100 + 0x20 * i
abbrev RING_CQ_BASE (i : Nat) : Nat := 0x40048104 + 0x20 * i
abbrev RING_SQ_TAIL (i : Nat) : Nat := 0x40048108 + 0x20 * i
abbrev RING_SQ_HEAD (i : Nat) : Nat := 0x4004810C + 0x20 * i
abbrev RING_CQ_TAIL (i : Nat) : Nat := 0x40048110 + 0x20 * i
abbrev RING_CQ_HEAD (i : Nat) : Nat := 0x40048114 + 0x20 * i
abbrev RING_CFG (i : Nat) : Nat := 0x40048118 + 0x20 * i
abbrev SPI_CFG (i : Nat) : Nat := 0x4004C000 + 0x1000 * i
abbrev SPI_CTRL (i : Nat) : Nat := 0x4004C004 + 0x1000 * i
abbrev SPI_LEN (i : Nat) : Nat := 0x4004C008 + 0x1000 * i
abbrev SPI_DATA (i : Nat) : Nat := 0x4004C00C + 0x1000 * i
abbrev SPI_STATUS (i : Nat) : Nat := 0x4004C010 + 0x1000 * i
abbrev I2C_TIMING (i : Nat) : Nat := 0x4004E000 + 0x1000 * i
abbrev I2C_XFER (i : Nat) : Nat := 0x4004E004 + 0x1000 * i
abbrev I2C_DATA (i : Nat) : Nat := 0x4004E008 + 0x1000 * i
abbrev I2C_TADDR (i : Nat) : Nat := 0x4004E00C + 0x1000 * i
abbrev I2C_STATUS (i : Nat) : Nat := 0x4004E010 + 0x1000 * i
abbrev I2C_ARBLOST (i : Nat) : Nat := 0x4004E014 + 0x1000 * i
abbrev UART_CFG (i : Nat) : Nat := 0x40050000 + 0x1000 * i
abbrev UART_BAUD (i : Nat) : Nat := 0x40050004 + 0x1000 * i
abbrev UART_DATA (i : Nat) : Nat := 0x40050008 + 0x1000 * i
abbrev UART_STATUS (i : Nat) : Nat := 0x4005000C + 0x1000 * i
abbrev ADC_CFG : Nat := 0x40052000
abbrev ADC_CTRL : Nat := 0x40052004
abbrev ADC_SEQ : Nat := 0x40052008
abbrev ADC_WIN : Nat := 0x4005200C
abbrev ADC_STATUS : Nat := 0x40052010
abbrev ADC_TEMP : Nat := 0x40052014
abbrev ADC_RES (i : Nat) : Nat := 0x40052020 + 0x4 * i
abbrev GPIO_IN (i : Nat) : Nat := 0x40053000 + 0x4 * i
abbrev GPIO_OUT (i : Nat) : Nat := 0x40053008 + 0x4 * i
abbrev GPIO_OE (i : Nat) : Nat := 0x40053010 + 0x4 * i
abbrev GPIO_SET (i : Nat) : Nat := 0x40053018 + 0x4 * i
abbrev GPIO_CLR (i : Nat) : Nat := 0x40053020 + 0x4 * i
abbrev GPIO_TGL (i : Nat) : Nat := 0x40053028 + 0x4 * i
abbrev GPIO_EDGE (i : Nat) : Nat := 0x40053040 + 0x4 * i
abbrev GPIO_FLAG (i : Nat) : Nat := 0x40053050 + 0x4 * i
abbrev GPIO_TP_CFG (i : Nat) : Nat := 0x40053060 + 0x4 * i
abbrev GPIO_HOLD : Nat := 0x40053080
abbrev CATL_CTRL : Nat := 0x40054000
abbrev CATL_SRC : Nat := 0x40054004
abbrev CATL_AT_LO : Nat := 0x40054008
abbrev CATL_AT_HI : Nat := 0x4005400C
abbrev CATL_STATUS : Nat := 0x40054010
abbrev CATL_INFO : Nat := 0x40054014
abbrev CATL_BUILD : Nat := 0x40054018
abbrev CATL_MIN_BUILD : Nat := 0x4005401C
abbrev CATL_APPLIED : Nat := 0x40054020
abbrev CATL_FOLIOS : Nat := 0x40054024
abbrev RADIO_FSM : Nat := 0x50000000
abbrev RADIO_FSM_CMD : Nat := 0x50000004
abbrev RADIO_RX_FREQ : Nat := 0x50000008
abbrev RADIO_TX_FREQ : Nat := 0x5000000C
abbrev RADIO_SYNTH_OFS : Nat := 0x50000010
abbrev RADIO_LNA : Nat := 0x50000014
abbrev RADIO_PA : Nat := 0x50000018
abbrev RADIO_STATUS : Nat := 0x5000001C
abbrev RADIO_COUNT : Nat := 0x50000020
abbrev RADIO_RSSI : Nat := 0x50000024
abbrev MODEM_CFG : Nat := 0x50004000
abbrev MODEM_LAST : Nat := 0x50004004
abbrev MODEM_HDR_LO : Nat := 0x50004008
abbrev MODEM_HDR_HI : Nat := 0x5000400C
abbrev MODEM_CFO : Nat := 0x50004010
abbrev MODEM_QUAL : Nat := 0x50004014
abbrev MODEM_COUNT_DET : Nat := 0x50004020
abbrev MODEM_COUNT_ERR : Nat := 0x50004024
abbrev MODEM_COUNT_CHORUS : Nat := 0x50004028
abbrev MODEM_SNR (i : Nat) : Nat := 0x50004100 + 0x4 * i
abbrev CAL_CTRL : Nat := 0x50008000
abbrev CAL_STATUS : Nat := 0x50008004
abbrev CAL_POLICY : Nat := 0x50008008
abbrev CAL_WAITR : Nat := 0x5000800C
abbrev CAL_TEMP : Nat := 0x50008010
abbrev CAL_COUNT : Nat := 0x50008014
abbrev CAL_LANE (i : Nat) : Nat := 0x50008020 + 0x4 * i
abbrev CAL_SPUR : Nat := 0x50008030
abbrev CAL_IQ : Nat := 0x50008034
abbrev CAL_DC : Nat := 0x50008038
abbrev CAL_EYE : Nat := 0x5000803C
abbrev CAL_EVM (i : Nat) : Nat := 0x50008100 + 0x4 * i
abbrev TUNER_SG : Nat := 0x50009000
abbrev TUNER_24 : Nat := 0x50009004
abbrev TUNER_THRESH : Nat := 0x50009008
abbrev TUNER_COUNT : Nat := 0x5000900C
abbrev STORD_INFO : Nat := 0x58000000
abbrev STORD_OP (i : Nat) : Nat := 0x58000004 + 0x4 * i

end Sys2Proof.Machine.Reg
end

