-- ==== Sys2Proof/Machine/Registers.lean ====
section
/-! DEFINITION. The register map: every register the chapters introduce, with its address, how often it repeats,
its reset value and its fields' access kinds (R12), taken from the chapters' register tables. The bus addresses are the
unit bases of the table "Core-die units" (R26) plus the offsets. Registers whose value comes from the catalogue image,
the boot ROM, the fuses or the pads have 0 here (notes/assumptions/2.md). -/

namespace Sys2Proof.Machine

/-- One row of the register map: `count` registers `stride` bytes apart from `base`. The masks name the bits of each
access kind of R12 (bits in none of them are RO or reserved); `keep` names the bits in the
backup domain, which only power-on clears. -/
structure RegRow where
  base   : Nat
  count  : Nat := 1
  stride : Nat := 4
  reset  : Nat := 0
  rw     : Nat := 0
  wo     : Nat := 0
  w1c    : Nat := 0
  w1s    : Nat := 0
  rc     : Nat := 0
  keep   : Nat := 0
  deriving DecidableEq, Repr

/-- The row gives a register at address `a`. -/
def RegRow.covers (r : RegRow) (a : Nat) : Bool :=
  decide (r.base ≤ a) && (a - r.base) % r.stride == 0 && decide ((a - r.base) / r.stride < r.count)

/-- The registers of SYSCTL (00). -/
def regsSYSCTL : List RegRow := [
  -- SYSCTL_ID
  { base := 0x40000000 },
  -- SYSCTL_PRESENT
  { base := 0x40000004 },
  -- SYSCTL_UID_LO
  { base := 0x40000008 },
  -- SYSCTL_UID_HI
  { base := 0x4000000C },
  -- SYSCTL_SPINE_CTRL
  { base := 0x40000010, rw := 0x30, w1s := 0xF },
  -- SYSCTL_SPINE_F_STAT
  { base := 0x40000014 },
  -- SYSCTL_SPINE_S_STAT
  { base := 0x40000018 },
  -- SYSCTL_SPINE_F_ERR
  { base := 0x4000001C, rc := 0xFFFFFFFF },
  -- SYSCTL_SPINE_S_ERR
  { base := 0x40000020, rc := 0xFFFFFFFF },
  -- SYSCTL_BUS_ADDR
  { base := 0x40000024 },
  -- SYSCTL_BUS_INFO
  { base := 0x40000028, w1c := 0x80000000 }
]

/-- The registers of RSTC (03). -/
def regsRSTC : List RegRow := [
  -- RSTC_CAUSE
  { base := 0x40001000 },
  -- RSTC_HIST
  { base := 0x40001004, reset := 0x1, w1c := 0x7F, keep := 0xFFFFFFFF },
  -- RSTC_SWRST
  { base := 0x40001008, wo := 0xFFFFFFFF },
  -- RSTC_BOOT_STEP
  { base := 0x4000100C, keep := 0xFFFFFFFF },
  -- RSTC_BOOT_OK
  { base := 0x40001010, wo := 0xFFFFFFFF },
  -- RSTC_CIRC
  { base := 0x40001014, reset := 0x400, keep := 0xFFFFFFFF },
  -- RSTC_ERRATA
  { base := 0x40001018, keep := 0xFFFFFFFF },
  -- RSTC_ERRATA_CLR
  { base := 0x4000101C, wo := 0x3FFF },
  -- RSTC_LASTFAIL
  { base := 0x40001020, w1c := 0x80000000, keep := 0xFFFFFFFF },
  -- RSTC_BOOTCFG
  { base := 0x40001024, keep := 0xFFFFFFFF },
  -- RSTC_BKP
  { base := 0x40001040, count := 8, stride := 0x4, rw := 0xFFFFFFFF, keep := 0xFFFFFFFF }
]

/-- The registers of PWR (04). -/
def regsPWR : List RegRow := [
  -- PWR_CTRL
  { base := 0x40002000, reset := 0x100, rw := 0x103 },
  -- PWR_RETAIN
  { base := 0x40002004, reset := 0x101, rw := 0xFFFF3F, keep := 0xFFFFFFFF },
  -- PWR_STATUS
  { base := 0x40002008, w1c := 0x2, keep := 0x2 },
  -- PWR_BLOCK
  { base := 0x4000200C },
  -- PWR_WAKE_CAUSE
  { base := 0x40002010, w1c := 0x7F, keep := 0xFFFFFFFF },
  -- PWR_WAKE_AT_LO
  { base := 0x40002014 },
  -- PWR_WAKE_AT_HI
  { base := 0x40002018 },
  -- PWR_ALARM_LO
  { base := 0x4000201C, rw := 0xFFFFFFFF, keep := 0xFFFFFFFF },
  -- PWR_ALARM_HI
  { base := 0x40002020, rw := 0x8000FFFF, keep := 0xFFFFFFFF },
  -- PWR_WAKE_LEAD
  { base := 0x40002024, reset := 0xF },
  -- PWR_COUNT
  { base := 0x40002028, rc := 0xFFFFFFFF },
  -- PWR_FORCED
  { base := 0x4000202C }
]

/-- The registers of CLK (05). -/
def regsCLK : List RegRow := [
  -- CLK_CTRL
  { base := 0x40003000, reset := 0x1, rw := 0x3 },
  -- CLK_STATUS
  { base := 0x40003004, w1c := 0x8 },
  -- CLK_MON
  { base := 0x40003008, rc := 0xFF0000 }
]

/-- The registers of FAULT (16). -/
def regsFAULT : List RegRow := [
  -- FAULT_STICKY
  { base := 0x40004000, count := 4, stride := 0x4, w1c := 0xFFFFFFFF },
  -- FAULT_SEVPEND
  { base := 0x40004010, count := 4, stride := 0x4 },
  -- FAULT_STATUS
  { base := 0x40004020, rc := 0xFF00 },
  -- FAULT_CFG
  { base := 0x40004024, reset := 0x1E012C },
  -- FAULT_COUNT
  { base := 0x40004028, rc := 0xFFFFFFFF },
  -- FAULT_RECALL
  { base := 0x4000402C, w1c := 0x80000000 },
  -- FAULT_GRAVE
  { base := 0x40004030 },
  -- FAULT_INJECT
  { base := 0x40004034, wo := 0xFFFF6000 },
  -- FAULT_TRACE_STAT
  { base := 0x40004038 },
  -- FAULT_TRACE_TIME
  { base := 0x4000403C },
  -- FAULT_TRACE_SLIP
  { base := 0x40004040 },
  -- FAULT_MAP
  { base := 0x40004100, count := 32, stride := 0x4 }
]

/-- The registers of INTC (07). -/
def regsINTC : List RegRow := [
  -- INTC_PRIO
  { base := 0x40005000, count := 32, stride := 0x4, rw := 0x77777777 },
  -- INTC_EN
  { base := 0x40005080, count := 8, stride := 0x4, rw := 0xFFFFFFFF },
  -- INTC_PEND
  { base := 0x400050A0, count := 8, stride := 0x4, w1c := 0xFFFFFFFF },
  -- INTC_PSET
  { base := 0x400050C0, count := 8, stride := 0x4, w1s := 0xFFFFFFFF },
  -- INTC_THRESH
  { base := 0x40005100, rw := 0xF },
  -- INTC_CLAIM
  { base := 0x40005104, reset := 0x80000000 },
  -- INTC_TOP
  { base := 0x40005108, reset := 0x80000000 },
  -- INTC_OVR
  { base := 0x4000510C, rc := 0xFFFF }
]

/-- The registers of FAB (07). -/
def regsFAB : List RegRow := [
  -- FAB_FIRE
  { base := 0x40006000, wo := 0x7F },
  -- FAB_SWEV
  { base := 0x40006004, wo := 0x3F },
  -- FAB_MERGED
  { base := 0x40006008, rc := 0xFFFFFFFF },
  -- FAB_LAST
  { base := 0x4000600C },
  -- FAB_STATUS
  { base := 0x40006010, rc := 0xFFFF },
  -- FAB_BK_PEND
  { base := 0x40006014, w1c := 0xF, keep := 0xFFFFFFFF },
  -- FAB_SEEN
  { base := 0x40006020, count := 4, stride := 0x4, w1c := 0xFFFFFFFF },
  -- FAB_CELLi_CFG
  { base := 0x40006100, count := 28, stride := 0x10 },
  -- FAB_CELLi_IN01
  { base := 0x40006104, count := 28, stride := 0x10, reset := 0xFFFFFFFF },
  -- FAB_CELLi_IN23
  { base := 0x40006108, count := 28, stride := 0x10, reset := 0xFFFFFFFF },
  -- FAB_CELLi_CFG_backup
  { base := 0x400062C0, count := 4, stride := 0x10, keep := 0xFFFFFFFF },
  -- FAB_CELLi_IN01_backup
  { base := 0x400062C4, count := 4, stride := 0x10, reset := 0xFFFFFFFF, keep := 0xFFFFFFFF },
  -- FAB_CELLi_IN23_backup
  { base := 0x400062C8, count := 4, stride := 0x10, reset := 0xFFFFFFFF, keep := 0xFFFFFFFF },
  -- FAB_CHc_CFG
  { base := 0x40006400, count := 128, stride := 0x10, reset := 0xFFFF, rw := 0x1FFFF },
  -- FAB_CHc_TASK01
  { base := 0x40006404, count := 128, stride := 0x10, reset := 0xFFFFFFFF, rw := 0xFFFFFFFF },
  -- FAB_CHc_TASK23
  { base := 0x40006408, count := 128, stride := 0x10, reset := 0xFFFFFFFF, rw := 0xFFFFFFFF }
]

/-- The registers of CHRON (05). -/
def regsCHRON : List RegRow := [
  -- CHRON_NOW_LO
  { base := 0x40008000, keep := 0xFFFFFFFF },
  -- CHRON_NOW_HI
  { base := 0x40008004, keep := 0xFFFFFFFF },
  -- CHRON_RATE
  { base := 0x40008008, rw := 0xFFFFFF, keep := 0xFFFFFFFF },
  -- CHRON_SLEEP_ADJ
  { base := 0x4000800C, keep := 0xFFFFFFFF },
  -- CHRON_STEP_LO
  { base := 0x40008010, rw := 0xFFFFFFFF },
  -- CHRON_STEP_HI
  { base := 0x40008014, rw := 0x3FFFFFF },
  -- CHRON_STEP_AT_LO
  { base := 0x40008018, rw := 0xFFFFFFFF },
  -- CHRON_STEP_AT_HI
  { base := 0x4000801C, rw := 0x3FFFFFF },
  -- CHRON_STEP_CTRL
  { base := 0x40008020, w1s := 0x7 },
  -- CHRON_DISC
  { base := 0x40008024, reset := 0xC000002, rw := 0xFFFF000F, w1s := 0x10, keep := 0xFFFFFFFF },
  -- CHRON_EPS
  { base := 0x40008028, reset := 0x9607D0, rw := 0xFFFFFFFF, keep := 0xFFFFFFFF },
  -- CHRON_BCN_TX_LO, CHRON_BCN_TX_HI, CHRON_BCN_RX_LO, CHRON_BCN_RX_HI
  { base := 0x4000802C, count := 4, stride := 0x4 },
  -- CHRON_OFFSET
  { base := 0x4000803C },
  -- CHRON_BCN_SEQ
  { base := 0x40008040 },
  -- CHRON_GUARD
  { base := 0x40008044, reset := 0xC00 },
  -- CHRON_SLEEP_WIN
  { base := 0x40008048, reset := 0x7530, rw := 0x7FFFF },
  -- CHRON_STATUS
  { base := 0x4000804C, w1c := 0xF0008, keep := 0x1 },
  -- CHRON_EVEN
  { base := 0x40008050, rw := 0xF },
  -- ACT_ARM
  { base := 0x40008100, wo := 0x1FF },
  -- ACT_CANCEL
  { base := 0x40008104, wo := 0x1FF },
  -- ACT_RELEASE
  { base := 0x40008108, wo := 0x1FF },
  -- ACT_TMPL
  { base := 0x4000810C, wo := 0x1F01FF },
  -- ACT_BASE_LO
  { base := 0x40008110, rw := 0xFFFFFFFF },
  -- ACT_BASE_HI
  { base := 0x40008114, rw := 0x3FFFFFF },
  -- ACT_RESULT
  { base := 0x40008118 },
  -- ACT_WITHDRAWN_COUNT
  { base := 0x4000811C, rc := 0xFFFF },
  -- ACT_COUNTS
  { base := 0x40008120, rc := 0xFFFFFFFF },
  -- ACT_ARMED
  { base := 0x40008124 },
  -- ACT_EVEN
  { base := 0x40008130, rw := 0xFFFF },
  -- ACT_FREE_IDX
  { base := 0x40008134 },
  -- ACT_FIRED
  { base := 0x40008140, count := 16, stride := 0x4, w1c := 0xFFFFFFFF }
]

/-- The registers of WDOG (16). -/
def regsWDOG : List RegRow := [
  -- WDOG_CTRL
  { base := 0x4000C000, rw := 0x4, w1s := 0x2, keep := 0xFFFFFFFF },
  -- WDOG_WARN
  { base := 0x4000C004, rw := 0xFFFFFF, keep := 0xFFFFFFFF },
  -- WDOG_LIMIT
  { base := 0x4000C008, reset := 0xEA60, rw := 0xFFFFFF, keep := 0xFFFFFFFF },
  -- WDOG_FEED
  { base := 0x4000C00C, wo := 0xFFFFFFFF, keep := 0xFFFFFFFF },
  -- WDOG_COUNT
  { base := 0x4000C010, keep := 0xFFFFFFFF },
  -- WDOG_STATUS
  { base := 0x4000C014, w1c := 0x1, rc := 0xFFFF00, keep := 0xFFFFFFFF }
]

/-- The registers of TMR (06). -/
def regsTMR : List RegRow := [
  -- TMRn_CTRL
  { base := 0x40010000, count := 8, stride := 0x1000, rw := 0x3F },
  -- TMRn_CNT
  { base := 0x40010004, count := 8, stride := 0x1000, rw := 0xFFFFFFFF },
  -- TMRn_PRECNT
  { base := 0x40010008, count := 8, stride := 0x1000 },
  -- TMRn_FLAGS
  { base := 0x4001000C, count := 8, stride := 0x1000, w1c := 0x1FF },
  -- TMRn_CC0_CFG
  { base := 0x40010010, count := 8, stride := 0x1000, rw := 0x3 },
  -- TMRn_CC0
  { base := 0x40010014, count := 8, stride := 0x1000, rw := 0xFFFFFFFF },
  -- TMRn_CC0_STRIDE
  { base := 0x40010018, count := 8, stride := 0x1000, rw := 0xFFFFFFFF },
  -- TMRn_CC1_CFG
  { base := 0x40010020, count := 8, stride := 0x1000, rw := 0x3 },
  -- TMRn_CC1
  { base := 0x40010024, count := 8, stride := 0x1000, rw := 0xFFFFFFFF },
  -- TMRn_CC1_STRIDE
  { base := 0x40010028, count := 8, stride := 0x1000, rw := 0xFFFFFFFF },
  -- TMRn_CC2_CFG
  { base := 0x40010030, count := 8, stride := 0x1000, rw := 0x3 },
  -- TMRn_CC2
  { base := 0x40010034, count := 8, stride := 0x1000, rw := 0xFFFFFFFF },
  -- TMRn_CC2_STRIDE
  { base := 0x40010038, count := 8, stride := 0x1000, rw := 0xFFFFFFFF },
  -- TMRn_CC3_CFG
  { base := 0x40010040, count := 8, stride := 0x1000, rw := 0x3 },
  -- TMRn_CC3
  { base := 0x40010044, count := 8, stride := 0x1000, rw := 0xFFFFFFFF },
  -- TMRn_CC3_STRIDE
  { base := 0x40010048, count := 8, stride := 0x1000, rw := 0xFFFFFFFF }
]

/-- The registers of QE (12). -/
def regsQE : List RegRow := [
  -- QE_CFG
  { base := 0x40020000, reset := 0xFFF, rw := 0xFFF },
  -- QE_INIT_RANGE
  { base := 0x40020004, rw := 0xFFFFFFFF },
  -- QE_INIT_CTRL
  { base := 0x40020008, rw := 0x3F, w1s := 0x100 },
  -- QE_CELLS
  { base := 0x4002000C },
  -- QE_CPU_CMD0
  { base := 0x40020010, rw := 0xFFFF00FF },
  -- QE_CPU_CMD1
  { base := 0x40020014, rw := 0xFFFF },
  -- QE_CPU_SUBMIT
  { base := 0x40020018, wo := 0x1 },
  -- QE_CPU_ACCEPT
  { base := 0x4002001C },
  -- QE_CPU_RING_PI
  { base := 0x40020020 },
  -- QE_CPU_RING_CI
  { base := 0x40020024, rw := 0x7F },
  -- QE_PORT_TAGS
  { base := 0x40020028 },
  -- QE_CPU_ALLOC
  { base := 0x40020040, wo := 0xFFFFF },
  -- QE_CPU_CELL_RES
  { base := 0x40020044 },
  -- QE_CPU_RELEASE
  { base := 0x40020048, wo := 0xFFFF },
  -- QE_COUNT
  { base := 0x40020050, rc := 0xFFFFFFFF },
  -- QE_CLASSc
  { base := 0x40020100, count := 16, stride := 0x4 },
  -- QE_WEIGHTc
  { base := 0x40020140, count := 16, stride := 0x4 }
]

/-- The registers of MOVER (12). -/
def regsMOVER : List RegRow := [
  -- MOVER_RESULT
  { base := 0x40030000 },
  -- MOVER_CHk_CTRL
  { base := 0x40030100, count := 16, stride := 0x20, rw := 0x10, w1s := 0x3 },
  -- MOVER_CHk_DESC
  { base := 0x40030104, count := 16, stride := 0x20, rw := 0xFFFFFFF0 },
  -- MOVER_CHk_STATUS
  { base := 0x40030108, count := 16, stride := 0x20, rc := 0xFF000000 },
  -- MOVER_CHk_CUR
  { base := 0x4003010C, count := 16, stride := 0x20 },
  -- MOVER_CHk_LEFT
  { base := 0x40030110, count := 16, stride := 0x20 },
  -- MOVER_CHk_ERRADDR
  { base := 0x40030114, count := 16, stride := 0x20 }
]

/-- The registers of LINK (11). -/
def regsLINK : List RegRow := [
  -- LINK_CTRL
  { base := 0x40034000, rw := 0x3 },
  -- LINK_STATUS
  { base := 0x40034004 },
  -- LINK_SLOT_LO
  { base := 0x40034008 },
  -- LINK_SLOT_HI
  { base := 0x4003400C },
  -- LINK_CFG0
  { base := 0x40034010 },
  -- LINK_CFG1
  { base := 0x40034014 },
  -- LINK_CFG2
  { base := 0x40034018 },
  -- LINK_ADDR
  { base := 0x4003401C, reset := 0xFFFFFFFE, rw := 0xFFFFFFFF },
  -- LINK_RANGE
  { base := 0x40034020, reset := 0xFFF0001, rw := 0xFFF0FFF },
  -- LINK_PARENT
  { base := 0x40034024, reset := 0xFFFF, rw := 0x10000 },
  -- LINK_RXQ
  { base := 0x40034028, reset := 0x10000, rw := 0xFFFFFFFF },
  -- LINK_TXPWR
  { base := 0x4003402C, reset := 0x7F, rw := 0xFF },
  -- LINK_OPD: the reserved bits of the layout of R359 read 0
  { base := 0x40034030, rw := 0xF7FF3F },
  { base := 0x40034034, rw := 0xFFFFFFFF },
  { base := 0x40034038, rw := 0x3FFFFF },
  { base := 0x4003403C, rw := 0xFFFFFFF },
  -- LINK_OP_CMD
  { base := 0x40034040, wo := 0x1F03 },
  -- LINK_OP_RESULT
  { base := 0x40034044 },
  -- LINK_OP_ENDED
  { base := 0x40034048, w1c := 0xFFFFFFFF },
  -- LINK_KEYMAP
  { base := 0x4003404C, rw := 0x33F3F, keep := 0xF000000 },
  -- LINK_FCNT0
  { base := 0x40034050, rw := 0xFFFFFFFF, keep := 0xFFFFFFFF },
  -- LINK_FCNT1
  { base := 0x40034054, rw := 0xFFFFFFFF, keep := 0xFFFFFFFF },
  -- LINK_FLOOD
  { base := 0x40034058, rw := 0xFF7FFF },
  -- LINK_TXDEF
  { base := 0x4003405C, rw := 0x3FF },
  -- LINK_NBR_CMD
  { base := 0x40034060, wo := 0xFFFF0007 },
  -- LINK_NBR_RESULT
  { base := 0x40034064 },
  -- LINK_NBR_DATA
  { base := 0x40034070, count := 8, stride := 0x4, rw := 0xFFFFFFFF },
  -- LINK_BUDGET_WARN
  { base := 0x40034090, reset := 0x2EE, rw := 0x3FF },
  -- LINK_BANDn_USED
  { base := 0x40034100, count := 8, stride := 0x4, keep := 0xFFFFFFFF },
  -- LINK_BANDn_CNT
  { base := 0x40034120, count := 8, stride := 0x4, rc := 0xFFFFFFFF, keep := 0xFFFFFFFF },
  -- LINK_BANDn_ALLOW
  { base := 0x40034140, count := 8, stride := 0x4 },
  -- LINK_COUNT_TX, LINK_COUNT_RX, LINK_COUNT_MESH
  { base := 0x40034160, count := 3, stride := 0x4, rc := 0xFFFFFFFF },
  -- LINK_LAST
  { base := 0x4003416C }
]

/-- The registers of LTS (09). -/
def regsLTS : List RegRow := [
  -- LTS_CMD
  { base := 0x40037000, wo := 0x3FF0107 },
  -- LTS_RESULT
  { base := 0x40037004 },
  -- LTS_DATA
  { base := 0x40037010, count := 9, stride := 0x4, rw := 0xFFFFFFFF },
  -- LTS_COUNT
  { base := 0x40037040 }
]

/-- The registers of STOR (13). -/
def regsSTOR : List RegRow := [
  -- STOR_CFG
  { base := 0x40038000, reset := 0x8041C04, rw := 0x3FFFFF1F, keep := 0xFFFFFFFF },
  -- STOR_STATE
  { base := 0x40038004, w1c := 0x800 },
  -- STOR_CMD_OP
  { base := 0x40038010, rw := 0xF },
  -- STOR_CMD_ADDR
  { base := 0x40038014, rw := 0x7FFFFF },
  -- STOR_CMD_LEN
  { base := 0x40038018, rw := 0xFFF },
  -- STOR_SUBMIT
  { base := 0x4003801C, wo := 0x1 },
  -- STOR_ACCEPT
  { base := 0x40038020 },
  -- STOR_DONE
  { base := 0x40038024, w1c := 0xFF },
  -- STOR_ABORT
  { base := 0x40038028, wo := 0x7 },
  -- STOR_WDATA0
  { base := 0x40038030, wo := 0xFFFFFFFF },
  -- STOR_WDATA1
  { base := 0x40038034, wo := 0xFFFFFFFF },
  -- STOR_RESULT
  { base := 0x40038040, count := 8, stride := 0x4 },
  -- STOR_PATROL
  { base := 0x40038060, keep := 0xFFFFFFFF },
  -- STOR_SPARE
  { base := 0x40038064 },
  -- STOR_COUNT
  { base := 0x40038068, rc := 0xFFFFFFFF },
  -- STOR_COUNT2
  { base := 0x4003806C, rc := 0xFFFFFFFF },
  -- STOR_ECC_ADDR
  { base := 0x40038070, w1c := 0x80000000 },
  -- STOR_PS_CFG
  { base := 0x40038080, rw := 0x1F0FFF },
  -- STOR_PS_STATE
  { base := 0x40038084 }
]

/-- The registers of SECMB (14). -/
def regsSECMB : List RegRow := [
  -- SECMB_FREE
  { base := 0x4003C000, reset := 0xF },
  -- SECMB_DOORBELL
  { base := 0x4003C004, wo := 0x3 },
  -- SECMB_DB_RESULT
  { base := 0x4003C008 },
  -- SECMB_DONE
  { base := 0x4003C00C, w1c := 0xF },
  -- SECMB_LIFE
  { base := 0x4003C010 },
  -- SECMB_TAMP_LATCH
  { base := 0x4003C020, w1c := 0xFF, keep := 0xFFFFFFFF },
  -- SECMB_TAMP_CLASS
  { base := 0x4003C024 },
  -- SECMB_TAMP_FIRST_LO
  { base := 0x4003C028, keep := 0xFFFFFFFF },
  -- SECMB_TAMP_FIRST_HI
  { base := 0x4003C02C, keep := 0xFFFFFFFF },
  -- SECMB_TAMP_PIN
  { base := 0x4003C030 },
  -- SECMB_TAMP_COUNT
  { base := 0x4003C034, rc := 0xFFFF, keep := 0xFFFFFFFF },
  -- SECMB_Sk_CMD
  { base := 0x4003C040, count := 4, stride := 0x40, rw := 0xF3F3FFF },
  -- SECMB_Sk_LEN
  { base := 0x4003C044, count := 4, stride := 0x40, rw := 0x3FF03FF },
  -- SECMB_Sk_PARAM0
  { base := 0x4003C048, count := 4, stride := 0x40, rw := 0xFFFFFFFF },
  -- SECMB_Sk_PARAM1
  { base := 0x4003C04C, count := 4, stride := 0x40, rw := 0xFFFFFFFF },
  -- SECMB_Sk_PARAM2
  { base := 0x4003C050, count := 4, stride := 0x40, rw := 0xFFFFFFFF },
  -- SECMB_Sk_PARAM3
  { base := 0x4003C054, count := 4, stride := 0x40, rw := 0xFFFFFFFF },
  -- SECMB_Sk_PARAM4
  { base := 0x4003C058, count := 4, stride := 0x40, rw := 0xFFFFFFFF },
  -- SECMB_Sk_PARAM5
  { base := 0x4003C05C, count := 4, stride := 0x40, rw := 0xFFFFFFFF },
  -- SECMB_Sk_PARAM6
  { base := 0x4003C060, count := 4, stride := 0x40, rw := 0xFFFFFFFF },
  -- SECMB_Sk_PARAM7
  { base := 0x4003C064, count := 4, stride := 0x40, rw := 0xFFFFFFFF },
  -- SECMB_Sk_STATUS
  { base := 0x4003C070, count := 4, stride := 0x40 }
]

/-- The registers of REL (15). -/
def regsREL : List RegRow := [
  -- REL_CTRL
  { base := 0x40040000 },
  -- REL_RESULT
  { base := 0x40040004 },
  -- REL_FAILCOUNT
  { base := 0x40040008, keep := 0xFFFFFFFF },
  -- REL_FAILCLR
  { base := 0x4004000C, wo := 0x1 },
  -- REL_DOOR
  { base := 0x40040010, w1c := 0xC },
  -- REL_CHn_CTRL
  { base := 0x40040100, count := 2, stride := 0x40, w1s := 0x3 },
  -- REL_CHn_CFG
  { base := 0x40040104, count := 2, stride := 0x40, rw := 0x7FFF7FFF },
  -- REL_CHn_POLICY
  { base := 0x40040108, count := 2, stride := 0x40 },
  -- REL_CHn_TIMES
  { base := 0x4004010C, count := 2, stride := 0x40 },
  -- REL_CHn_STATUS
  { base := 0x40040110, count := 2, stride := 0x40 },
  -- REL_CHn_LOCKCNT
  { base := 0x40040114, count := 2, stride := 0x40, rw := 0xFFFFFFFF, keep := 0xFFFFFFFF },
  -- REL_CHn_DIST
  { base := 0x40040118, count := 2, stride := 0x40 },
  -- REL_CHn_COUNT
  { base := 0x4004011C, count := 2, stride := 0x40, rc := 0xFFFFFFFF }
]

/-- The registers of PANEL (17). -/
def regsPANEL : List RegRow := [
  -- PANEL_CTRL
  { base := 0x40044000, w1s := 0x1 },
  -- PANEL_STAGE
  { base := 0x40044004, rw := 0x1F },
  -- PANEL_SHOWN
  { base := 0x40044008 },
  -- PANEL_SCRIPT
  { base := 0x4004400C, rw := 0xFFFFFFFF },
  -- PANEL_HOLD
  { base := 0x40044010, reset := 0x3E8, rw := 0xFFFF },
  -- PANEL_STATUS
  { base := 0x40044014 },
  -- PANEL_COUNT
  { base := 0x40044018, rc := 0xFFFFFFFF },
  -- PANEL_PROF0
  { base := 0x40044020 },
  -- PANEL_PROF1
  { base := 0x40044024 }
]

/-- The registers of HIF (17). -/
def regsHIF : List RegRow := [
  -- HIF_CFG
  { base := 0x40048000, reset := 0x40000, rw := 0xFFF0000 },
  -- HIF_ERR
  { base := 0x40048004, rc := 0xFFFFFFFF },
  -- HIF_IRQ_PEND
  { base := 0x40048008, w1c := 0x3F },
  -- HIF_IRQ_MASK
  { base := 0x4004800C, rw := 0x3F },
  -- HIF_DB_IN
  { base := 0x40048010, rw := 0xFFFFFFFF },
  -- HIF_DB_OUT
  { base := 0x40048014, rw := 0xFFFFFFFF },
  -- HIF2_WIN
  { base := 0x40048018, reset := 0x40040000 },
  -- HIF1_RXINFO
  { base := 0x40048020 },
  -- HIF1_RXDONE
  { base := 0x40048024, wo := 0x1 },
  -- HIF1_TXCTRL
  { base := 0x40048028, wo := 0xFFFF07FF },
  -- HIF1_TXSTAT
  { base := 0x4004802C },
  -- RINGn_SQ_BASE
  { base := 0x40048100, count := 4, stride := 0x20, rw := 0xFFFFFFF0 },
  -- RINGn_CQ_BASE
  { base := 0x40048104, count := 4, stride := 0x20, rw := 0xFFFFFFF0 },
  -- RINGn_SQ_TAIL
  { base := 0x40048108, count := 4, stride := 0x20, rw := 0x3FF },
  -- RINGn_SQ_HEAD
  { base := 0x4004810C, count := 4, stride := 0x20 },
  -- RINGn_CQ_TAIL
  { base := 0x40048110, count := 4, stride := 0x20 },
  -- RINGn_CQ_HEAD
  { base := 0x40048114, count := 4, stride := 0x20, rw := 0x3FF },
  -- RINGn_CFG
  { base := 0x40048118, count := 4, stride := 0x20, reset := 0x4, rw := 0x10F }
]

/-- The registers of SPI (18). -/
def regsSPI : List RegRow := [
  -- SPIn_CFG
  { base := 0x4004C000, count := 2, stride := 0x1000, reset := 0x10070, rw := 0x1FFFF },
  -- SPIn_CTRL
  { base := 0x4004C004, count := 2, stride := 0x1000, w1s := 0x1 },
  -- SPIn_LEN
  { base := 0x4004C008, count := 2, stride := 0x1000, reset := 0x1, rw := 0xFFFF },
  -- SPIn_DATA
  { base := 0x4004C00C, count := 2, stride := 0x1000, rw := 0xFFFF },
  -- SPIn_STATUS
  { base := 0x4004C010, count := 2, stride := 0x1000, w1c := 0x600, rc := 0xFF0000 }
]

/-- The registers of I2C (18). -/
def regsI2C : List RegRow := [
  -- I2Cn_TIMING
  { base := 0x4004E000, count := 2, stride := 0x1000, reset := 0x13E84A50, rw := 0x1FFFFFFF },
  -- I2Cn_XFER
  { base := 0x4004E004, count := 2, stride := 0x1000, wo := 0x80FF1FFF },
  -- I2Cn_DATA
  { base := 0x4004E008, count := 2, stride := 0x1000, rw := 0xFF },
  -- I2Cn_TADDR
  { base := 0x4004E00C, count := 2, stride := 0x1000, rw := 0xFF },
  -- I2Cn_STATUS
  { base := 0x4004E010, count := 2, stride := 0x1000, rc := 0xFF0000 },
  -- I2Cn_ARBLOST
  { base := 0x4004E014, count := 2, stride := 0x1000, w1c := 0x80000000 }
]

/-- The registers of UART (18). -/
def regsUART : List RegRow := [
  -- UARTn_CFG
  { base := 0x40050000, count := 2, stride := 0x1000, rw := 0xF3 },
  -- UARTn_BAUD
  { base := 0x40050004, count := 2, stride := 0x1000, reset := 0x855, rw := 0xFFFF },
  -- UARTn_DATA
  { base := 0x40050008, count := 2, stride := 0x1000, rw := 0xFF },
  -- UARTn_STATUS
  { base := 0x4005000C, count := 2, stride := 0x1000, w1c := 0x7800, rc := 0xFF0000 }
]

/-- The registers of ADC (18). -/
def regsADC : List RegRow := [
  -- ADC_CFG
  { base := 0x40052000, reset := 0x402, rw := 0x13F0F },
  -- ADC_CTRL
  { base := 0x40052004, rw := 0x70, w1s := 0x7 },
  -- ADC_SEQ
  { base := 0x40052008, rw := 0xFFFFFFFF },
  -- ADC_WIN
  { base := 0x4005200C, reset := 0xFFF0000, rw := 0xFFFF0FFF },
  -- ADC_STATUS
  { base := 0x40052010, rc := 0xFFFF },
  -- ADC_TEMP
  { base := 0x40052014 },
  -- ADC_RES
  { base := 0x40052020, count := 8, stride := 0x4 }
]

/-- The registers of GPIO (18). -/
def regsGPIO : List RegRow := [
  -- GPIO_IN
  { base := 0x40053000, count := 2, stride := 0x4 },
  -- GPIO_OUT
  { base := 0x40053008, count := 2, stride := 0x4, rw := 0xFFFFFFFF },
  -- GPIO_OE
  { base := 0x40053010, count := 2, stride := 0x4, rw := 0xFFFFFFFF },
  -- GPIO_SET
  { base := 0x40053018, count := 2, stride := 0x4, wo := 0xFFFFFFFF },
  -- GPIO_CLR
  { base := 0x40053020, count := 2, stride := 0x4, wo := 0xFFFFFFFF },
  -- GPIO_TGL
  { base := 0x40053028, count := 2, stride := 0x4, wo := 0xFFFFFFFF },
  -- GPIO_EDGE
  { base := 0x40053040, count := 3, stride := 0x4, rw := 0xFFFFFFFF },
  -- GPIO_FLAG
  { base := 0x40053050, count := 2, stride := 0x4, w1c := 0xFFFFFFFF, keep := 0xFFFFFFFF },
  -- GPIO_TPk_CFG
  { base := 0x40053060, count := 8, stride := 0x4, rw := 0x33F },
  -- GPIO_HOLD
  { base := 0x40053080, wo := 0x2 }
]

/-- The registers of CATL (02). -/
def regsCATL : List RegRow := [
  -- CATL_CTRL
  { base := 0x40054000, rw := 0x310, wo := 0xF },
  -- CATL_SRC
  { base := 0x40054004, rw := 0xFFFFFFFF },
  -- CATL_AT_LO
  { base := 0x40054008, rw := 0xFFFFFFFF },
  -- CATL_AT_HI
  { base := 0x4005400C, rw := 0x3FFFFFF },
  -- CATL_STATUS
  { base := 0x40054010, w1c := 0x10000 },
  -- CATL_INFO
  { base := 0x40054014 },
  -- CATL_BUILD
  { base := 0x40054018 },
  -- CATL_MIN_BUILD
  { base := 0x4005401C },
  -- CATL_APPLIED
  { base := 0x40054020 },
  -- CATL_FOLIOS
  { base := 0x40054024 }
]

/-- The registers of RADIO (08). -/
def regsRADIO : List RegRow := [
  -- RADIO_FSM
  { base := 0x50000000 },
  -- RADIO_FSM_CMD
  { base := 0x50000004, wo := 0x1F },
  -- RADIO_RX_FREQ
  { base := 0x50000008, rw := 0x3FFFFF },
  -- RADIO_TX_FREQ
  { base := 0x5000000C, rw := 0x3FFFFF },
  -- RADIO_SYNTH_OFS
  { base := 0x50000010, rw := 0xFFFFFF },
  -- RADIO_LNA
  { base := 0x50000014, reset := 0x6, rw := 0x7 },
  -- RADIO_PA
  { base := 0x50000018, rw := 0xFF },
  -- RADIO_STATUS
  { base := 0x5000001C, w1c := 0x7 },
  -- RADIO_COUNT
  { base := 0x50000020, rc := 0xFFFFFFFF },
  -- RADIO_RSSI
  { base := 0x50000024 }
]

/-- The registers of MODEM (09). -/
def regsMODEM : List RegRow := [
  -- MODEM_CFG
  { base := 0x50004000, reset := 0x100000, rw := 0x300000 },
  -- MODEM_LAST
  { base := 0x50004004 },
  -- MODEM_HDR_LO
  { base := 0x50004008 },
  -- MODEM_HDR_HI
  { base := 0x5000400C },
  -- MODEM_CFO
  { base := 0x50004010 },
  -- MODEM_QUAL
  { base := 0x50004014 },
  -- MODEM_COUNT_DET
  { base := 0x50004020, rc := 0xFFFFFFFF },
  -- MODEM_COUNT_ERR
  { base := 0x50004024, rc := 0xFFFFFFFF },
  -- MODEM_COUNT_CHORUS
  { base := 0x50004028, rc := 0xFFFFFFFF },
  -- MODEM_SNR
  { base := 0x50004100, count := 24, stride := 0x4 }
]

/-- The registers of CAL (10). -/
def regsCAL : List RegRow := [
  -- CAL_CTRL
  { base := 0x50008000, reset := 0xC, rw := 0xC, w1s := 0x3 },
  -- CAL_STATUS
  { base := 0x50008004, w1c := 0x10000 },
  -- CAL_POLICY
  { base := 0x50008008, reset := 0x1408 },
  -- CAL_WAITR
  { base := 0x5000800C, reset := 0xBB8 },
  -- CAL_TEMP
  { base := 0x50008010 },
  -- CAL_COUNT
  { base := 0x50008014, rc := 0xFFFFFFFF },
  -- CAL_LANE
  { base := 0x50008020, count := 4, stride := 0x4, reset := 0x4000 },
  -- CAL_SPUR
  { base := 0x50008030 },
  -- CAL_IQ
  { base := 0x50008034 },
  -- CAL_DC
  { base := 0x50008038 },
  -- CAL_EYE
  { base := 0x5000803C },
  -- CAL_EVM
  { base := 0x50008100, count := 96, stride := 0x4 }
]

/-- The registers of TUNER (08). -/
def regsTUNER : List RegRow := [
  -- TUNER_SG
  { base := 0x50009000, rw := 0x3F3F },
  -- TUNER_24
  { base := 0x50009004, rw := 0x3F3F },
  -- TUNER_THRESH
  { base := 0x50009008, reset := 0x14 },
  -- TUNER_COUNT
  { base := 0x5000900C, rc := 0xFFFFFF }
]

/-- The registers of STORD (13). -/
def regsSTORD : List RegRow := [
  -- STORD_INFO
  { base := 0x58000000 },
  -- STORD_OP
  { base := 0x58000004, count := 2, stride := 0x4 }
]

/-- The register rows of the 4 KiB page that holds an address. -/
def pageRows (a : Nat) : List RegRow :=
  match a / 0x1000 with
  | 0x40000 => regsSYSCTL
  | 0x40001 => regsRSTC
  | 0x40002 => regsPWR
  | 0x40003 => regsCLK
  | 0x40004 => regsFAULT
  | 0x40005 => regsINTC
  | 0x40006 => regsFAB
  | 0x40008 => regsCHRON
  | 0x4000C => regsWDOG
  | 0x40010 => regsTMR
  | 0x40011 => regsTMR
  | 0x40012 => regsTMR
  | 0x40013 => regsTMR
  | 0x40014 => regsTMR
  | 0x40015 => regsTMR
  | 0x40016 => regsTMR
  | 0x40017 => regsTMR
  | 0x40020 => regsQE
  | 0x40030 => regsMOVER
  | 0x40034 => regsLINK
  | 0x40037 => regsLTS
  | 0x40038 => regsSTOR
  | 0x4003C => regsSECMB
  | 0x40040 => regsREL
  | 0x40044 => regsPANEL
  | 0x40048 => regsHIF
  | 0x4004C => regsSPI
  | 0x4004D => regsSPI
  | 0x4004E => regsI2C
  | 0x4004F => regsI2C
  | 0x40050 => regsUART
  | 0x40051 => regsUART
  | 0x40052 => regsADC
  | 0x40053 => regsGPIO
  | 0x40054 => regsCATL
  | 0x50000 => regsRADIO
  | 0x50004 => regsMODEM
  | 0x50008 => regsCAL
  | 0x50009 => regsTUNER
  | 0x58000 => regsSTORD
  | _ => []

/-- The register row of an address, none where no register stands (R27). -/
def rowOf (a : Nat) : Option RegRow := (pageRows a).find? (fun r => r.covers a)

/-- What a register that nothing has written holds: its reset value. -/
def resetOf (a : Nat) : Word :=
  match rowOf a with
  | some r => word r.reset
  | none => 0

/-- The bits of a register that are in the backup domain, which only power-on clears. -/
def keepOf (a : Nat) : Word :=
  match rowOf a with
  | some r => word r.keep
  | none => 0

end Sys2Proof.Machine
end

