-- ==== Sys2Proof/Machine/State.lean ====
section
/-! DEFINITION. The block's state as plain data, and the state right after reset. Registers are held by bus address in
`State.regs`; a register not listed holds the reset value of the register map (Machine/Registers.lean). What the spec
gives the machine beyond its registers is in one structure per unit. -/

namespace Sys2Proof.Machine

/-- The three variants of the family (00, "The family"). -/
inductive Variant where
  | anchor   -- OCV96-A
  | label    -- OCV96-L
  | keeper   -- OCV96-K
  deriving DecidableEq, Repr

/-- What the interconnect last answered a master: the data word, whether it was an error response, and whether the
access still waits (R6, R28, R33, R34). -/
structure Answer where
  value   : Word := 0
  error   : Bool := false
  waiting : Bool := false
  deriving DecidableEq, Repr

/-- A transaction a master put to a far die; for a response packet `data` is the word read. -/
structure SpineReq where
  master : Master
  write  : Bool
  addr   : Nat
  data   : Word
  deriving DecidableEq, Repr

/-- A packet in a replay buffer: its sequence number, how often it has been sent, and what it carries (R15, R18). -/
structure Packet where
  seq   : Byte
  sends : Nat
  req   : SpineReq
  deriving DecidableEq, Repr

/-- One spine link (01, "The spine links"): at the core end the next sequence number, the replay buffer, the accepted
transactions not yet retired and the requests held in the masters' ports; at the far end the same for responses; and
the last sequence number each end has accepted (R16). Its STATE, HALF and LANES are register fields. -/
structure Spine where
  txSeq     : Byte := 0
  replay    : List Packet := []
  outst     : List SpineReq := []
  waiting   : List SpineReq := []
  arrived   : List SpineReq := []
  coreRx    : Option Byte := none
  farSeq    : Byte := 0
  farReplay : List Packet := []
  farRx     : Option Byte := none
  resetReq  : Bool := false       -- the side-band reset wire is asserted or, for SBR_S, waits for the pulse in progress (R32)
  deriving DecidableEq, Repr

/-- The catalogue: the payloads in force, by section type (the tables of 02 read their values there); the command in
progress, whether it still waits to read its image (R34, R423), the image it checks, its target, the folios still to stage, and whether the custodian writes the
active-slot record. -/
structure CatSt where
  sections : List (Nat × List Byte) := []
  cmd      : Nat := 0
  reading  : Bool := false
  image    : List Byte := []
  slot     : Bool := false
  app      : Bool := false
  folios   : Nat := 0
  deriving DecidableEq, Repr

/-- Where a start stands (03, "Model"). -/
inductive BootPhase where
  | held       -- the core die is held in reset (R66)
  | start      -- the hold has ended; step 0 is about to run
  | annex      -- annex mode runs (R93)
  | app        -- step 13 has run; the application runs (R79)
  | sealed     -- a T2 tamper has sealed the part (R491)
  | grave      -- a grave slip holds the part (R538)
  deriving DecidableEq, Repr

/-- The active-slot record (R56), as a valid copy in the front matter gives it: its sequence number, and the catalogue and
application slots it names (false A, true B). -/
structure SlotRecord where
  seq   : Nat := 0
  cat   : Bool := false
  app   : Bool := false
  deriving DecidableEq, Repr

/-- An annex image write in progress (R96, R100): target, length, whether its sectors are erased, whether END has
answered OK, and the sequence number of the BEGIN whose reply is due. -/
structure AnnexWrite where
  target : Nat
  len    : Nat
  erased : Bool := false
  ended  : Bool := false
  seq    : Byte := 0
  deriving DecidableEq, Repr

/-- A rescue collection (R103, R104): the image it collects, the blocks received, and whether the target is erased. -/
structure Rescue where
  target : Nat
  build  : Nat
  len    : Nat
  blocks : List Nat := []
  erased : Bool := false
  deriving DecidableEq, Repr

/-- What a pad is held at (R70, R121): the level it drives, none when its output is off, and its pull, drive and slew as in
a pin-map CFG byte. -/
structure PadHold where
  out : Option Bool := none
  cfg : Nat := 0
  deriving DecidableEq, Repr

/-- Reset and start: the phase, the minimum accepted build and the primary-key-retired fuse. The active-slot record and the
errata mirror are in the flash (R56, R86). `bypassOk` is BYPASS_OK of the last applied clock plan
(notes/assumptions/20.md). -/
structure BootSt where
  phase     : BootPhase := .held
  minBuild  : Nat := 0
  retired   : Bool := false
  coldMirror : Bool := true           -- a power-on reset has happened since the mirror was last restored (R87)
  bypassOk  : Bool := true
  annexW    : Option AnnexWrite := none
  rescue    : Option Rescue := none
  resetDue  : Bool := false           -- a software reset follows 1 ms after the reply (R100, R104)
  padHold   : List (Nat × PadHold) := []      -- by GPIO pin, what GPIO_HOLD holds (R70)
  deriving DecidableEq, Repr

/-- The four modes (04, "Modes"). -/
inductive PowerMode where
  | run | doze | nap | hibernate
  deriving DecidableEq, Repr

/-- Power control: the mode, the sleep entry that waits on blockers (`some true` for Hibernate), whether the buck and
crystal have started for a wake from Nap, the causes of that wake (bit numbers of PWR_WAKE_CAUSE) and the pad that
woke the part, what the pads are latched at in sleep (R121), the memory areas whose contents are undefined (main SRAM banks 0 to 5 after a Nap without retention, R115;
area 16, the first 16 KiB, which the boot ROM overwrites, R64), and the warning that began in Nap (event 1 due at t2). -/
structure PwrSt where
  mode      : PowerMode := .run
  entry     : Option Bool := none
  resumeAt  : Option Nat := none      -- Doze until this instant, under R119
  waking    : Bool := false
  causes    : List Nat := []
  padNum    : Nat := 0
  padLatch  : List (Nat × PadHold) := []
  lost      : List (Nat × Nat) := []  -- areas whose contents are undefined, with the loss they stem from
  losses    : Nat := 0                -- how many losses of contents there have been
  dark      : List Nat := []          -- queue (0-7) and pool (8-15) banks not yet restored after Nap (R387)
  bowEvent  : Bool := false           -- event 1 is due: the warning began in Nap, or before step 13 (R674)
  alarm     : Nat := 0                -- the wake alarm as the last write of PWR_ALARM_HI loaded it, in ticks (R127)
  deriving DecidableEq, Repr

/-- The chronicle and the clock monitors (05): the 58-bit instant in fraction steps, the trim accumulator (R142), the
armed discipline step, the previous captured beacon and how CHRON processed it (R148 to R157), and the monitors'
state (R136, R676). `slow` counts ROOT cycles modulo 1,024, for SLOWCLK and PERCLK; `lag` counts the ROOT cycles on which
the fraction is still to be held (R142); `rateW` says that software has written CHRON_RATE in the running cycle (R158);
`rootBad` counts consecutive bad periods. -/
structure ChronSt where
  now        : Nat := 0
  acc        : Int := 0
  discStep   : Option Int := none
  lastRx     : Option Nat := none      -- BCN_RX of the last captured beacon
  prevSynced : Bool := false           -- SYNCED was 1 once CHRON had processed it
  stepHold   : Bool := false           -- a beacon came while a software step was pending (R157)
  slow       : Nat := 0
  lag        : Nat := 0
  rateW      : Bool := false
  rootBad    : Nat := 0
  clockless  : Bool := false           -- the fallback of R676 runs
  deriving DecidableEq, Repr

/-- The states of an action-table entry (06, "Action table"). -/
inductive ActState where
  | free | armed | fired | withdrawn
  deriving DecidableEq, Repr

/-- An action-table entry (R170); `passed` says its instant had already passed when it was armed (R175), `ending` that a
cancel came in the cycle that reached its instant, while it waits for its firing (R182). -/
structure ActEntry where
  at_     : Nat := 0
  rep     : Nat := 0
  chan    : Nat := 0
  state   : ActState := .free
  late    : Bool := false
  tmpl    : Bool := false
  skipped : Nat := 0
  passed  : Bool := false
  ending  : Bool := false
  deriving DecidableEq, Repr

/-- An action template of section 0x09. -/
structure Template where
  id     : Nat
  chan   : Nat
  offset : Int
  rep    : Nat
  deriving DecidableEq, Repr

/-- The action table: the entries that differ from a FREE entry of zeros, by index, and the skipped entries that wait
for the catch-up of R183; and the action templates in force (section 0x09). -/
structure ActSt where
  entries   : List (Nat × ActEntry) := []
  catchUp   : List Nat := []
  templates : List Template := []
  deriving DecidableEq, Repr

/-- The timers beside their registers: for a timer whose new PRESCALE is not yet in force the old one (R164), and the
timers whose CC0 match clears CNT in the next cycle (R168). -/
structure TmrSt where
  oldPresc : List (Nat × Nat) := []
  c0Due    : List Nat := []
  deriving DecidableEq, Repr

/-- A pulse in delivery on a channel (R192): the PERCLK cycles left and the route it took at entry (R214). -/
structure Delivery where
  left  : Nat
  tasks : List Nat
  deriving DecidableEq, Repr

/-- The inside of a logic cell: its flip-flop, the value before the filter, and for how many consecutive periods the
filter has seen that value (R200, R201). The output is FAB_CELLi_CFG.Q. -/
structure CellSt where
  ff   : Bool := false
  pre  : Bool := false
  held : Nat := 0
  deriving DecidableEq, Repr

/-- The task words held for a channel until its next CFG write (R195), and a refused move not yet closed (R677). -/
structure HeldRoute where
  t01     : Option Word := none
  t23     : Option Word := none
  refused : Bool := false
  deriving DecidableEq, Repr

/-- The event fabric: the source pulses of the running PERCLK cycle, the pulses in delivery by channel, the tasks that
receive a pulse in the running cycle, the held routes, the cells' inner state, the latched inputs of cells 28 to 31 as
(cell, input) pairs (R203), and the backup cells that rose and that no channel has seen yet. -/
structure FabSt where
  pulses   : List Nat := []
  ovr      : List (Nat × Word) := []   -- sources whose pulse of this cycle was an overrun, with INTC_OVR before it (R215)
  delivery : List (Nat × Delivery) := []
  taskNow  : List Nat := []
  held     : List (Nat × HeldRoute) := []
  cells    : List (Nat × CellSt) := []
  latched  : List (Nat × Nat) := []
  bkRise   : List Nat := []
  bkSlept  : List Nat := []            -- backup cells whose BK_PEND bit was set during this Nap (R207)
  deriving DecidableEq, Repr

/-- What the running cycle has seen, where commands of one cycle meet under a rule of their own; the cycle's end clears
it. Of the PERCLK cycle: the timers whose CNT software wrote, those that CLEAR cleared with CNT before, those that R168
cleared, those stopped, the channel values that software wrote with the values before, and those captured, by register
(R187); the re-routed channels with the CFG, TASK01 and TASK23 before (R214); the pulses that cells 28 to 31 have
sampled (R203); GPIO_OUT as software alone would have it, and the task ports (R630); the sources of slips taken (R534).
Of the SYSCLK cycle: the entries that an ARM or TMPL met, with the master and what it found (0 an armed entry, 1 a free one
that ARM armed, 2 one that TMPL armed), and those cancelled, with the master (R181, R186); the STARTs with REL_RESULT
before them, and the DROPs, by channel and origin (R525); the words the host interfaces wrote (R578); the service rings with
the class and grants of the round from before a PAUSE (R400); whether software cleared a severe-pending bit (R536); the mover channels that ignored a request (12, "What if a
mover channel is started by software and a fabric request in the same cycle?"). -/
structure CycSt where
  cntWritten : List Nat := []
  cleared    : List (Nat × Word) := []
  c0Cleared  : List Nat := []
  stopped    : List Nat := []
  ccWritten  : List (Nat × Word) := []
  captured   : List Nat := []
  routes     : List (Nat × List Word) := []
  sampled    : List Nat := []
  gpioBase   : List (Nat × Word) := []
  ports      : List Nat := []
  slips      : List Nat := []
  armed      : List (Nat × Master × Nat) := []
  cancelled  : List (Nat × Master) := []
  relStarts  : List (Nat × Option Master × Word) := []
  relDrops   : List (Nat × Option Master) := []
  hifWrites  : List (Nat × Nat) := []              -- (interface, word address)
  rings      : Option (List (Nat × List Nat) × Nat × Nat) := none
  requests   : List Nat := []
  severe     : Bool := false
  deriving DecidableEq, Repr

/-- A loading table: its RATE (false 1/2, true 3/4) and its 36 bytes as a number (R259). -/
structure LoadTable where
  rate : Bool
  data : Nat
  deriving DecidableEq, Repr

/-- The value a subcarrier carries (R248, R249, R258): (i + q√-1)/√n, or for 8-PSK the unit value at the angle
(2m + 1)·π/8. -/
inductive AirPoint where
  | grid (i q : Int) (n : Nat)
  | psk (m : Nat)
  deriving DecidableEq, Repr

/-- A Gen 2 symbol as it is sent: the subcarriers it loads with their values; every other carries zero (R245). -/
structure AirSymbol where
  carriers : List (Int × AirPoint)
  deriving DecidableEq, Repr

/-- A 2-GFSK modulation (R237): the bit rate in b/s, the Gaussian filter's BT and the modulation index in tenths, and the
frequency offset from the channel centre in Hz for a 0 bit and for a 1 bit. -/
structure Gfsk where
  rate  : Nat
  bt    : Nat
  index : Nat
  zero  : Int
  one   : Int
  deriving DecidableEq, Repr

/-- A transmission: its format, its 48-bit header (Gen 2), its PSDU, the bits on the air and their modulation (Gen 1), the
symbols from P1 on (Gen 2), a ranging chirp's bit (R510), its power in 0.5 dBm steps and the PA drive code (R285). -/
structure AirFrame where
  gen2    : Bool
  header  : Nat := 0
  psdu    : List Byte
  bits    : List Bool := []
  gfsk    : Option Gfsk := none
  symbols : List AirSymbol := []
  chirp   : Option Bool := none
  power   : Int := 0
  drive   : Nat := 0
  deriving DecidableEq, Repr

/-- The front die beside its registers: the strobes sent and not yet received, the transition in progress and the states
it still passes on its way (R231), the strobe kept (R235), the LNA step chosen for RX entry, how far the detection of a frame has come (0 nothing, 1 stage 1 passed,
2 preamble qualified or sync found, 3 header decoded), the frame's header, timing reference and latched table, the
transmission in progress, the port whose retune a gap has been granted to, the one whose retune runs, and
the tuning tone: its frequency in kHz and its power in 0.5 dBm (R228). -/
structure FrontSt where
  strobes : List FsmTarget := []
  going   : Option FsmTarget := none
  legs    : List FsmTarget := []
  held    : Option FsmTarget := none
  lnaStep : Nat := 2
  stage   : Nat := 0
  gen2    : Bool := false
  header  : Nat := 0
  ref     : Nat := 0
  table   : Option LoadTable := none
  tx      : Option AirFrame := none
  tuneGrant : Option Bool := none
  tuning  : Option Bool := none
  tone    : Option (Nat × Int) := none
  deriving DecidableEq, Repr

/-- The calibration engine beside its registers, which are the calibration shadow (R288): the ticks waited since the
request and the CAL_WAIT they run against, the folios granted, whether a grant has started, whether a forced
blackout waits for the end of an air operation (R305), the factory record loaded at boot step 9 (R286), and of the shadow
(R288) what has no register on the calibration page: the folios that the running recalibration takes, each folio's last
results, and the return loss of each port (0 sub-GHz, 1 2.4 GHz). -/
structure CalSt where
  waited  : Nat := 0
  limit   : Nat := 0
  granted : Nat := 0
  began   : Bool := false
  due     : Bool := false
  record  : List Byte := []
  folios  : Nat := 0
  results : List (Nat × List Word) := []
  losses  : List (Nat × Nat) := []
  deriving DecidableEq, Repr

/-- An entry of the air-operation table (R359): `slot` is SLOT as submitted, `first` the full slot number it named then. -/
structure AirOp where
  kind    : Nat := 0
  repeat_ : Bool := false
  fabric  : Bool := false
  chan    : Nat := 0
  state   : Nat := 0          -- 0 FREE, 1 WAITING, 2 ACTIVE, 3 ENDED
  result  : Nat := 0
  slot    : Nat := 0
  first   : Nat := 0
  offset  : Nat := 0
  addr    : Nat := 0
  len     : Nat := 0
  started : Bool := false     -- its fabric task has arrived
  deriving DecidableEq, Repr

/-- A neighbour entry (R341). -/
structure Nbr where
  addr   : Nat
  flags  : Nat := 1
  next   : Nat := 0
  queue  : Nat := 0
  lt     : Nat := 0
  depth  : Nat := 0
  rssi   : Nat := 0
  bcnPos : Nat := 0
  seqH   : Nat := 0
  seqMap : Nat := 0
  fcnt0  : Nat := 0
  fcnt1  : Nat := 0
  deriving DecidableEq, Repr

/-- What runs on the radio: a beacon, a flood frame, a copy of a flood frame, a call of a queue's head, a table entry,
a join, or a listen that the sequence makes (to the parent's beacon, to a call, to a flood level). -/
inductive OpRef where
  | beacon | flood (j : Nat) | relay | call (queue : Nat) | table (k : Nat) | join
  | hearBeacon | hearCall | hearFlood
  deriving DecidableEq, Repr

/-- Where the running operation stands: powering up (or listening, or receiving), ready to open after a clear
listen, on the air, waiting for an acknowledgement. -/
inductive OpPhase where
  | power | ready | onAir | ackWait
  deriving DecidableEq, Repr

/-- The running air operation: what it is, its slot, its opening instant, its plan index, its phase, and the SEQ and
whether an acknowledgement is due. -/
structure RunOp where
  ref    : OpRef
  slot   : Nat
  openAt : Nat
  chan   : Nat
  phase  : OpPhase := .power
  seq    : Nat := 0
  ackReq : Bool := false
  deriving DecidableEq, Repr

/-- A call announced for a data slot of the period (R325). -/
structure Call where
  queue  : Nat
  callee : Nat
  pos    : Nat
  deriving DecidableEq, Repr

/-- What a beacon announces (R316). -/
structure BeaconInfo where
  src      : Nat
  period   : Nat
  joinOpen : Bool
  calls    : List (Nat × Nat)     -- (CALLEE, POS)
  floodN   : Nat
  floodPos : Nat
  floodDepth : Nat
  deriving DecidableEq, Repr

/-- A flood copy to be relayed (R352): its header, its PSDU and its opening instant. -/
structure RelayFrame where
  header : Nat
  psdu   : List Byte
  openAt : Nat
  deriving DecidableEq, Repr

/-- The join of a node: the periods still to back off, and the periods left to wait for an ASSIGN once the join frame
has been sent. -/
structure JoinSt where
  backoff : Option Nat := none
  waiting : Option Nat := none
  deriving DecidableEq, Repr

/-- The link controller beside its registers: the air-operation table, the neighbour table, the loading-table store,
a DERIVE in progress (its RATE and LOAD_MARGIN), the running operation, the operations already served by slot, the
period's calls, the retries of each queue's head frame and the cells of heads already secured, what the parent's beacon
and the node's own beacon announced, the flood frames relayed last and those to relay, the join, the port whose tuner asks
for a gap, the slot before which no retune is asked for again (R230), the budget buckets by band (oldest first) with the ticks of the running bucket and
the bands past their warning share, the frames transmitted last, and the sequence number of the node's own frames. -/
structure LinkSt where
  ops      : List (Nat × AirOp) := []
  opsFull  : Bool := false
  nbr      : List (Nat × Nbr) := []          -- by table index
  lts      : List (Nat × LoadTable) := []
  derive_  : Option Bool := none
  run      : Option RunOp := none
  served   : List (Nat × OpRef) := []
  calls    : List Call := []
  retries  : List (Nat × Nat) := []
  secured  : List Nat := []
  heard    : Option BeaconInfo := none
  sent     : Option BeaconInfo := none
  recent   : List (Nat × Nat) := []          -- (SRC, SEQ)
  relays   : List RelayFrame := []
  join     : JoinSt := {}
  tuneReq  : Option Bool := none
  tuneSlot : Nat := 0
  buckets  : List (Nat × List Nat) := []
  bandTicks : List (Nat × Nat) := []
  warned   : List Nat := []
  seq      : Nat := 0
  deriving DecidableEq, Repr

/-- The states of a queue (R362). -/
inductive QState where
  | disabled | enabled | paused | draining
  deriving DecidableEq, Repr

/-- A queue descriptor (R362). -/
structure QDesc where
  head  : Nat := 0xFFFF
  tail  : Nat := 0xFFFF
  depth : Nat := 0
  cls   : Nat := 0
  state : QState := .disabled
  ovf   : Bool := false
  inRing : Bool := false
  deriving DecidableEq, Repr

/-- Who owns a cell (R363). -/
inductive Owner where
  | free | owned | queued
  deriving DecidableEq, Repr

/-- A cell's link word (R363). -/
structure Cell where
  next : Nat := 0xFFFF
  used : Nat := 0
  end_ : Bool := false
  own  : Owner := .free
  deriving DecidableEq, Repr

/-- A running INIT: the queues it has still to reach, first and last, and the CLASS and STATE it sets (R385). -/
structure InitRun where
  next  : Nat
  last  : Nat
  cls   : Nat
  state : Nat
  deriving DecidableEq, Repr

/-- A command that a port has submitted and whose completion is not yet posted: its tag, status and word 1. -/
structure QDone where
  port   : Nat
  tag    : Nat
  cmd    : QCmd
  status : Nat
  word1  : Nat
  deriving DecidableEq, Repr

/-- The queue engine: descriptors that differ from an empty DISABLED queue, cells that are not FREE, the service rings
by class (R381), the round's class and its grants left, the tags held by (port, tag), completions to be posted, the
completion rings by 64·port + index, the ports' producer indexes, the tags awaiting consumption on the CPU port with
their ring index, the queues whose head the LINK port holds (R398), those with a FLUSH waiting for that hold (R399),
the commands, the allocation and the INIT that wait for a bank to be restored (R387), and QBANK_EN. `lost`: a cold reset
has left queue memory and the link words undefined until boot step 8 (R64). -/
structure QeSt where
  desc     : List (Nat × QDesc) := []
  cells    : List (Nat × Cell) := []
  rings    : List (Nat × List Nat) := []
  roundCls : Nat := 0
  roundLeft : Nat := 0
  tags     : List (Nat × Nat) := []
  done     : List QDone := []
  ringMem  : List (Nat × (Word × Word)) := []
  pis      : List (Nat × Nat) := []
  unread   : List (Nat × Nat) := []      -- (ring index modulo 128, tag) of the CPU port
  holds    : List Nat := []
  flushDue : List Nat := []
  waitCmd  : List (Nat × Nat × QCmd) := []   -- (port, tag, command)
  waitAlloc : Option (Master × Nat) := none
  init     : Option InitRun := none
  qbankEn  : Nat := 0
  lost     : Bool := false
  deriving DecidableEq, Repr

/-- A mover descriptor as loaded (R388). -/
structure MvDesc where
  src   : Nat
  dst   : Nat
  len   : Nat
  width : Nat
  sinc  : Bool
  dinc  : Bool
  paced : Bool
  burst : Nat
  qmode : Nat
  next  : Nat
  deriving DecidableEq, Repr

/-- The mover: the descriptor each channel runs; state, requests and bytes left are in its registers. -/
structure MvSt where
  desc : List (Nat × MvDesc) := []
  deriving DecidableEq, Repr

/-- How a word of the store die reads against its check bits (R408, R412): good; corrected only at the patrol's margin
level; corrected at both levels; uncorrectable; or undefined after a cut pulse (R426), with the free value it stems from. -/
inductive Ecc where
  | good | margin | corrected | uncorr | undef (tag : Nat)
  deriving DecidableEq, Repr

/-- A 64-bit word of the store die. -/
structure FlashWord where
  data : BitVec 64 := BitVec.allOnes 64
  ecc  : Ecc := .good
  deriving DecidableEq, Repr

/-- A map entry (R429). -/
structure MapEntry where
  logical   : Nat
  physical  : Nat
  bad       : Bool
  refreshed : Bool
  deriving DecidableEq, Repr

/-- A sector map as a copy of it in the flash holds it (R430): its sequence number and its entries. -/
structure MapCopy where
  seq     : Nat
  entries : List MapEntry
  deriving DecidableEq, Repr

/-- What is left of a long operation: words to program into a physical sector, a physical sector to erase, a map entry
to switch to a new physical sector (R438). -/
inductive Stage where
  | prog (phys : Nat) (words : List (Nat × BitVec 64))
  | erase (phys : Nat)
  | switch (logical phys : Nat)
  deriving DecidableEq, Repr

/-- Where a long operation stands (R421, R446). -/
inductive LongState where
  | loading | reading | running | suspended
  deriving DecidableEq, Repr

/-- A long operation of a plane (13, "Model"): its command (0 for a refresh that patrol starts), the command slot it
holds, the logical sector and the physical plane, where it stands, the word data still to come and the words loaded
(PROGRAM), the stages left, the pulses of the current word or sector, whether any pulse has been made, the pulses of
the folio, the line reads served in the suspend, whether it completes on a spare (R427), the master that feeds it, and
whether the brown-out inhibit has come during its pulse, which then is its last (R424). -/
structure LongOp where
  op      : Nat
  slot    : Option Nat
  sector  : Nat
  plane   : Nat
  state   : LongState
  addr    : Nat := 0
  len     : Nat := 0
  data    : List Word := []
  stages  : List Stage := []
  pulses  : Nat := 0
  anyPulse : Bool := false
  folio   : Nat := 0
  served  : Nat := 0
  inPlace : Bool := false
  master  : Master := .core
  cut     : Bool := false
  deriving DecidableEq, Repr

/-- A patrol read that has fallen due or runs, of a physical sector (R435). -/
structure PatrolRead where
  sector  : Nat
  running : Bool
  deriving DecidableEq, Repr

/-- The store die: its words by physical word number (an unlisted word is erased), the factory bad-sector map and the grown
map in force, the physical sectors marked grown-bad (notes/assumptions/31.md), the long operations, the CHECK commands and line reads that wait for a
suspend, the command slots held, the patrol read, when the next is due and the instant before which patrol that is behind
reads nothing (R436), the sectors whose refresh waits (R663), and the place of the next record in the patrol log. -/
structure StoreSt where
  flash    : List (Nat × FlashWord) := []
  factory  : List MapEntry := []
  map      : List MapEntry := []
  bad      : List Nat := []
  ops      : List LongOp := []
  held     : List Nat := []
  checks   : List (Nat × Nat) := []             -- (slot, logical sector)
  reads    : List (Master × Nat) := []          -- (master, byte offset of the line)
  patrol   : Option PatrolRead := none
  patrolAt : Nat := 0
  patrolGate : Option Nat := none
  refresh  : List Nat := []                     -- logical sectors
  logNext  : Nat := 0                           -- next record of the patrol log, 0 to 511
  deriving DecidableEq, Repr

/-- A filled key slot: its policy word (R454) and its key bytes. -/
structure KeySlot where
  policy : Word
  key    : List Byte
  deriving DecidableEq, Repr

/-- Where a mailbox slot stands: free to write, waiting for its turn, in execution with its outcome ready, in a refusal
window (R463), or completed and not yet cleared. -/
inductive MbPhase where
  | free | waiting | running | refusing | done
  deriving DecidableEq, Repr

/-- The SHA-256 context a mailbox slot keeps (R467): the chaining value, the bytes hashed, and the key of an HMAC. -/
structure ShaCtx where
  h    : List Nat
  len  : Nat
  hmac : Option (List Byte)
  deriving DecidableEq, Repr

/-- A mailbox slot: its phase, the outcome of the request it runs, the new PARAM0 to PARAM3, and its SHA context. -/
structure MbSlot where
  phase  : MbPhase := .free
  result : Nat := 0
  out    : List Byte := []
  param  : Option (List Byte) := none
  ctx    : Option ShaCtx := none
  deriving DecidableEq, Repr

/-- The custodian: mailbox slots, the accepted requests in doorbell order, the key slots of the enclave and the slots of
the non-volatile key store, the audit counters (R465), the lifecycle fuse, the ZEROISED fuse, whether debug is unlocked,
the unlock nonce, the TRNG's restart, consecutive failures and end, a tamper event due after step 13 (R494), and the slots
of 0 and 1 whose one generation is spent (R453, R476). -/
structure CustSt where
  slots    : List (Nat × MbSlot) := []
  order    : List Nat := []
  keys     : List (Nat × KeySlot) := []
  store    : List (Nat × KeySlot) := []
  audit    : List (Nat × Nat) := []
  life     : Nat := 0
  zeroised : Bool := false
  unlocked : Bool := false
  nonce    : Option (List Byte) := none
  trngWait : Bool := false
  trngBad  : Nat := 0
  trngDead : Bool := false
  eventDue : Bool := false
  made     : List Nat := []
  deriving DecidableEq, Repr

/-- An exchange of a release channel in progress (R511): its rendezvous instant, the nonces, the other side's address, the
desk's channel number, which the bodies carry (R506),
whether a JOIN has been received (desk) or sent (card), the challenge and ranging bits, whether the custodian refused a
request of it, whether a DROP arrived in it (R526), and the bodies of the frames and the symbol bits this side has sent,
in order. -/
structure RelExch where
  startAt   : Nat
  nd        : List Byte := []
  nc        : List Byte := []
  peer      : Nat := 0
  desk      : Nat := 0
  joined    : Bool := false
  challenge : List Byte := []
  ranging   : List Byte := []
  refused   : Bool := false
  dropped   : Bool := false
  decided   : Bool := false
  sent      : List (List Byte) := []
  deriving DecidableEq, Repr

/-- The release unit beside its registers, by channel: the exchange in progress; the channels started since the last
reset (R518) and those whose LOCKCNT has been written since power-on (R501, backup domain); the session end instants
(R524); the rendezvous taken last; the channels whose rendezvous runs without an exchange, a desk's OPEN or a card's
window; the card channels without a VERDICT after their last JOIN (R513); and the lock-line
messages, the first of them on the line (R519). -/
structure RelSt where
  exch      : List (Nat × RelExch) := []
  started   : List Nat := []
  lockSet   : List Nat := []
  sessions  : List (Nat × Nat) := []
  lastRv    : List (Nat × Nat) := []
  window    : List Nat := []
  noVerdict : List Nat := []
  lines     : List (Nat × List (List Byte)) := []
  deriving DecidableEq, Repr

/-- An entry of the debug trace: the slip with its promoted class and the arrival ticks (R541). -/
structure TraceEntry where
  slip  : Word
  ticks : Word
  deriving DecidableEq, Repr

/-- The fault collector: the slips their sources hold until intake, in order (R533); the trace FIFO; the resources
recalled, with the ticks since; those not to be recalled again until the escalation is cleared (R546); the waits for held
resources, with what shows the holder's progress and the ticks without any (R544); the
watchdog's held WARN and LIMIT (R551); and whether the application core is halted for debug (R553). -/
structure FaultSt where
  waiting    : List Word := []
  trace      : List TraceEntry := []
  recalled   : List (Recallable × Nat) := []
  noRecall   : List Nat := []                            -- by recallKey
  waits      : List (Nat × List Nat × Nat) := []         -- by recallKey
  heldWarn   : Option Word := none
  heldLimit  : Option Word := none
  halted     : Bool := false
  deriving DecidableEq, Repr

/-- A ring completion that waits to be posted (R570, R574). -/
structure RingPost where
  ring   : Nat
  cookie : Nat
  status : Nat
  op     : Nat
  word1  : Nat
  deriving DecidableEq, Repr

/-- The host interface beside its registers: the bytes last sent on HIF1_TXD and the PERCLK cycles of a bit there (R557), the
bytes last sent by the HIF-2 or HIF-3 target, the
interfaces whose access ended with an error response and whose slip is due (R577), whether an error came since the last
STATUS (R562), the completions to be posted, and the ring whose turn is next (R573). -/
structure HifSt where
  txd     : List Byte := []
  txBit   : Nat := 16
  spi     : List Byte := []
  errDue  : List Nat := []
  errSeen : Bool := false
  posts   : List RingPost := []
  turn    : Nat := 0
  deriving DecidableEq, Repr

/-- What a panel sequence waits for: panel power, BUSY, a delay, the staged slot to become VALID, or nothing (it ends). -/
inductive PanelWait where
  | power | busy | delay | page | ended
  deriving DecidableEq, Repr

/-- A running panel sequence (R586 to R588): a flip or a refresh, its slot, what it waits for, the script bytes left, the
decoded pixels of the page and of the shown page, and the profile it took at its start. -/
structure PanelRun where
  flip    : Bool
  slot    : Nat
  wait    : PanelWait
  script  : List Byte := []
  pixels  : List Nat := []
  prev    : List Nat := []
  profile : List Byte := []
  deriving DecidableEq, Repr

/-- The panel port beside its registers: the running sequence, a task 86 that waits for its end (R589), and the bytes
last sent to the panel, each with its D/C bit (true data). -/
structure PanelSt where
  run    : Option PanelRun := none
  offDue : Bool := false
  sent   : List (Bool × Byte) := []
  deriving DecidableEq, Repr

/-- An SPI unit beside its registers: its FIFOs, the frames left in a controller transfer, the frames last sent as they go
over the line, the first bit of each its highest, and the clock of the last controller transfer: its mode and the PERCLK
cycles of a bit (R599, R602). -/
structure SpiSt where
  tx   : List Nat := []
  rx   : List Nat := []
  left : Nat := 0
  sent : List Nat := []
  mode : Nat := 0
  sck  : Nat := 0
  deriving DecidableEq, Repr

/-- A character that a UART sends: its data, its parity bit if it has one, and the sixteenths of a PERCLK cycle that a bit
takes (R599, R605). -/
structure UartChar where
  data   : Byte
  parity : Option Bool
  bit    : Nat
  deriving DecidableEq, Repr

/-- A UART beside its registers: its FIFOs, the bytes that a task has let go under TXGATE (R606), and the characters last
sent. -/
structure UartSt where
  tx    : List Byte := []
  rx    : List Byte := []
  gated : Nat := 0
  sent  : List UartChar := []
  deriving DecidableEq, Repr

/-- A controller transfer of an I²C unit (R611): its XFER word, the data bytes left, whether it waits for the bus, the
bit at which it loses arbitration if it does, whether the winner addresses this unit (R618), and the PERCLK cycles for
which it holds SCL low and leaves it high (R599). -/
structure I2cRun where
  xfer     : Word
  left     : Nat
  waiting  : Bool
  lost     : Option (Nat × Nat) := none
  asTarget : Bool := false
  scl      : Nat × Nat := (4, 4)
  deriving DecidableEq, Repr

/-- An I²C unit beside its registers: its FIFOs, the controller transfer in progress, whether a transfer addresses the
unit as target, and reads (R614), and whether the unit itself holds the bus after a repeated START (R611). -/
structure I2cSt where
  tx     : List Byte := []
  rx     : List Byte := []
  run    : Option I2cRun := none
  target : Option Bool := none
  owns   : Bool := false
  deriving DecidableEq, Repr

/-- A run of the ADC: the sequence entry that converts, the last entry, whether the run is a sequence (R627), and the PERCLK
cycles of a conversion (R626). -/
structure AdcRun where
  entry  : Nat
  last   : Nat
  seq    : Bool
  cycles : Nat
  deriving DecidableEq, Repr

/-- The serial units, by unit number, the ADC with the start it holds (R629; true a sequence), and the pads: the levels that outside sources drive on GPIO pins, and
whether PERCLK has sampled the pads since the last cold reset (R680). -/
structure SerialSt where
  spi     : List (Nat × SpiSt) := []
  uart    : List (Nat × UartSt) := []
  i2c     : List (Nat × I2cSt) := []
  adc     : Option AdcRun := none
  adcHeld : Option Bool := none
  pads    : List (Nat × Bool) := []
  sampled : Bool := false
  deriving DecidableEq, Repr

/-- A command whose access waits for a far die, or for a bank of the queue engine (R34, R387): frames and a write of the
host, what the panel port is to do, and a delivery and a dequeue of the link controller. -/
inductive HeldCmd where
  | hif1Read (line : List Byte) | hif1Write (line : List Byte) | hif1Enqueue (line : List Byte)
  | hif2Write (addr : Fin 65536) (data : List Byte)
  | panelFlip | panelRefresh | panelPowerDelay | panelDeferred
  | linkPut (queue : Nat) (bytes : List Byte) (sec : Bool) | linkDequeue (queue : Nat)
  deriving DecidableEq, Repr

/-- The whole block. `pending` is the queue of commands that wait, first in first out. `regs` lists the registers that
differ from their reset value, by bus address, addresses rising; `mem` lists the bytes of the addressed memories (main
SRAM, buffer-pool payload, mailbox and host buffers, ranging capture) that differ from 0, addresses rising
(notes/assumptions/3.md). `freeCtr` is the model's own field: it counts the free values taken so far. `held` lists the
commands whose access waits for a far die and is presented again as time passes (R34; notes/assumptions/47.md). `cyc` is
what the running cycle has seen (notes/assumptions/50.md). -/
structure State where
  pending : List Instr := []
  variant : Variant := .anchor
  regs    : List (Nat × Word) := []
  mem     : List Host.Cell := []
  freeCtr : Nat := 0
  ans     : Answer := {}
  spineF  : Spine := {}
  spineS  : Spine := {}
  boot    : BootSt := {}
  pwr     : PwrSt := {}
  chron   : ChronSt := {}
  act     : ActSt := {}
  fab     : FabSt := {}
  fault   : FaultSt := {}
  tmr     : TmrSt := {}
  qe      : QeSt := {}
  mover   : MvSt := {}
  cat     : CatSt := {}
  store   : StoreSt := {}
  front   : FrontSt := {}
  cal     : CalSt := {}
  link    : LinkSt := {}
  cust    : CustSt := {}
  rel     : RelSt := {}
  hif     : HifSt := {}
  panel   : PanelSt := {}
  ser     : SerialSt := {}
  held    : List HeldCmd := []
  cyc     : CycSt := {}
  deriving DecidableEq, Repr

/-- The machine right after a power-on reset: every register at its reset value, RSTC_CAUSE.LAST naming power-on (03),
every memory as listed empty, queue memory undefined (R64), both side-band resets asserted (R65), the core die held in
reset until RESET_HOLD_END (R66), no command waiting. -/
def State.reset : State :=
  { regs := [(0x40001000, 1)], spineF := { resetReq := true }, spineS := { resetReq := true }, qe := { lost := true } }

/-- Why a command stops with a fault. No command of this block does: the manual gives every error an answer, a status
or a slip. Safe. -/
inductive Fault where
  | none_
  deriving DecidableEq, Repr

/-- Why a command is refused. `notModelled`: an arm of exec whose command has no meaning yet (safe). -/
inductive Refusal where
  | notModelled (mnemonic : String)
  deriving DecidableEq, Repr

/-- What a meaning answers. -/
abbrev Out : Type := Host.Outcome State Fault Refusal

end Sys2Proof.Machine
end

