-- ==== Sys2Proof/Machine/Ops.lean ====
section
/-! DEFINITION. The named operations the meanings share: canonical maps, bit fields, registers, memory bytes, chronicle
instants, free values and the answer to a master. -/

namespace Sys2Proof.Machine

/-! ### Canonical maps: key and value pairs, keys rising, no value equal to the default -/

/-- The value listed for a key. -/
def mapGet {V : Type} (m : List (Nat × V)) (k : Nat) : Option V :=
  match m with
  | [] => none
  | (k', v) :: t => if k' = k then some v else mapGet t k

/-- The map without a key. -/
def mapErase {V : Type} (m : List (Nat × V)) (k : Nat) : List (Nat × V) :=
  match m with
  | [] => []
  | (k', v) :: t => if k' = k then mapErase t k else (k', v) :: mapErase t k

/-- The map with one pair placed before the first greater key. -/
def mapIns {V : Type} (m : List (Nat × V)) (k : Nat) (v : V) : List (Nat × V) :=
  match m with
  | [] => [(k, v)]
  | (k', v') :: t => if k < k' then (k, v) :: (k', v') :: t else (k', v') :: mapIns t k v

/-- Store a value; a value equal to what an unlisted key reads as removes the entry, so that equal maps are equal. -/
def mapPut {V : Type} [DecidableEq V] (dflt : V) (m : List (Nat × V)) (k : Nat) (v : V) : List (Nat × V) :=
  if v = dflt then mapErase m k else mapIns (mapErase m k) k v

/-- Keys strictly rising. -/
def keysRise {V : Type} (m : List (Nat × V)) : Bool :=
  match m with
  | [] => true
  | [_] => true
  | (k, _) :: (k', v') :: t => decide (k < k') && keysRise ((k', v') :: t)

/-- The canonical form of a map whose unlisted keys read as `dflt k`. -/
def mapWf {V : Type} [DecidableEq V] (dflt : Nat → V) (m : List (Nat × V)) : Bool :=
  keysRise m && m.all (fun e => decide (e.2 ≠ dflt e.1))

/-! ### Bit fields of a word -/

/-- Bits [lo+len-1:lo] of a word, as a number. -/
def fld (w : Word) (lo len : Nat) : Nat := (w.toNat >>> lo) % 2 ^ len

/-- Bit `i` of a word. -/
def bitOf (w : Word) (i : Nat) : Bool := w.getLsbD i

/-- The word whose bits [lo+len-1:lo] are 1. -/
def fldMask (lo len : Nat) : Word := word ((2 ^ len - 1) <<< lo)

/-- The word with bits [lo+len-1:lo] replaced by the low bits of `n`. -/
def setFld (w : Word) (lo len n : Nat) : Word :=
  (w &&& ~~~ fldMask lo len) ||| word ((n % 2 ^ len) <<< lo)

/-- A number as 1 or 0. -/
def b2n (b : Bool) : Nat := if b then 1 else 0

/-- The low `len` bits of a number read as a signed value. -/
def signed (len n : Nat) : Int :=
  if n % 2 ^ len < 2 ^ (len - 1) then (n % 2 ^ len : Nat) else (n % 2 ^ len : Nat) - (2 ^ len : Nat)

/-- A signed value as its low `len` bits. -/
def unsigned (len : Nat) (i : Int) : Nat := (i % (2 ^ len : Nat)).toNat

/-- A signed value held within ±(2^(len-1)) - the saturation the manual gives signed fields. -/
def clampSigned (len : Nat) (i : Int) : Int :=
  max (-(2 ^ (len - 1) : Nat)) (min i ((2 ^ (len - 1) : Nat) - 1))

/-! ### Registers -/

/-- The value a register holds. -/
def State.rd (s : State) (a : Nat) : Word := (mapGet s.regs a).getD (resetOf a)

/-- Give a register a value. -/
def State.wr (s : State) (a : Nat) (v : Word) : State :=
  { s with regs := mapPut (resetOf a) s.regs a v }

/-- A field of a register. -/
def State.rdF (s : State) (a lo len : Nat) : Nat := fld (s.rd a) lo len

/-- Give a field of a register a value. -/
def State.wrF (s : State) (a lo len n : Nat) : State := s.wr a (setFld (s.rd a) lo len n)

/-- A bit of a register. -/
def State.bit (s : State) (a i : Nat) : Bool := bitOf (s.rd a) i

/-- Give a bit of a register a value. -/
def State.setB (s : State) (a i : Nat) (b : Bool) : State := s.wrF a i 1 (b2n b)

/-- Add to a saturating counter field. -/
def State.satAdd (s : State) (a lo len : Nat) (n : Nat := 1) : State :=
  s.wrF a lo len (min (s.rdF a lo len + n) (2 ^ len - 1))

/-! ### Memory bytes -/

/-- The areas that hold an address: the banks 0 to 5 of main SRAM, area 16 for its first 16 KiB (R64), and areas 24 to
31 for the banks of the buffer pool. -/
def memAreas (a : Nat) : List Nat :=
  if 0x20000000 ≤ a && a < 0x20060000 then
    ((a - 0x20000000) / 0x10000) :: (if a < 0x20004000 then [16] else [])
  else if 0x22000000 ≤ a && a < 0x22080000 then [24 + (a - 0x22000000) / 0x10000]
  else []

/-- What a byte that nothing has written reads as: 0 (notes/assumptions/3.md), or a free value where a sleep or the boot
ROM has left the contents undefined (R64, R115). -/
def State.memDflt (s : State) (a : Nat) : Byte :=
  match s.pwr.lost.find? (fun p => (memAreas a).contains p.1) with
  | some p => Config.freeByte (p.2 * 2 ^ 32 + a)
  | none => 0

/-- The byte at an address of the addressed memories. -/
def State.byteAt (s : State) (a : Nat) : Byte := (mapGet s.mem a).getD (s.memDflt a)

/-- Store one byte. -/
def State.putByte (s : State) (a : Nat) (v : Byte) : State :=
  { s with mem := mapPut (s.memDflt a) s.mem a v }

/-- An area loses its contents. -/
def State.loseArea (s : State) (area : Nat) : State :=
  { s with
    mem := s.mem.filter (fun e => !(memAreas e.1).contains area),
    pwr := { s.pwr with lost := (area, s.pwr.losses) :: s.pwr.lost.filter (fun p => p.1 != area), losses := s.pwr.losses + 1 } }

/-- `n` bytes from an address upward. -/
def State.bytesAt (s : State) (a n : Nat) : List Byte := (List.range n).map (fun i => s.byteAt (a + i))

/-- Store bytes from an address upward. -/
def State.putBytes (s : State) (a : Nat) : List Byte → State
  | [] => s
  | b :: t => (s.putByte a b).putBytes (a + 1) t

/-- The memory is in its canonical form: addresses rising, no entry equal to what an unlisted address reads as. -/
def Memory.wf (dflt : Nat → Byte) (m : List Host.Cell) : Bool := mapWf dflt m

/-! ### Chronicle instants (05) -/

/-- An instant keeps 58 bits. -/
def instant (n : Nat) : Nat := n % 2 ^ 58

/-- The signed distance from instant `i` to instant `c`, modulo 2^58 (R671). -/
def since (c i : Nat) : Int := signed 58 (c + 2 ^ 58 - i % 2 ^ 58)

/-- The chronicle is at or past an instant (R671). -/
def State.reached (s : State) (i : Nat) : Bool := decide (0 ≤ since s.chron.now i)

/-- An instant lies before the chronicle (R671). -/
def State.passed (s : State) (i : Nat) : Bool := decide (0 < since s.chron.now i)

/-- The ticks of the chronicle. -/
def State.ticks (s : State) : Nat := s.chron.now / 1024

/-- The instant held by a LO and HI register pair of the layout of CHRON_NOW. -/
def State.rdInstant (s : State) (lo hi : Nat) : Nat :=
  (s.rd lo).toNat + (s.rdF hi 0 26) * 2 ^ 32

/-- Write an instant to such a pair. -/
def State.wrInstant (s : State) (lo hi i : Nat) : State :=
  (s.wr lo (word i)).wr hi (word (instant i >>> 32))

/-! ### Answers, free values, the part -/

/-- Answer a master with data. -/
def State.answer (s : State) (v : Word) : State := { s with ans := { value := v } }

/-- Answer a master with an error response. -/
def State.answerError (s : State) : State := { s with ans := { value := 0, error := true } }

/-- The master's access waits. -/
def State.answerWait (s : State) : State := { s with ans := { value := 0, waiting := true } }

/-- The next free number, and the state that has taken it. -/
def State.takeFree (s : State) : Nat × State :=
  (Config.freeNat s.freeCtr, { s with freeCtr := s.freeCtr + 1 })

/-- A field the spec states a value for only when `stated` holds: the value, or a free number below `n`
(notes/assumptions/51.md). -/
def State.openVal (s : State) (stated : Bool) (v n : Nat) : Nat := if stated then v else Config.freeNat s.freeCtr % n

/-- The state after `openVal`: a free number is taken when it is used. -/
def State.openTaken (s : State) (stated : Bool) : State := if stated then s else s.takeFree.2

/-- Free bytes, `n` of them. -/
def State.takeFreeBytes (s : State) (n : Nat) : List Byte × State :=
  ((List.range n).map (fun i => Config.freeByte (s.freeCtr + i)), { s with freeCtr := s.freeCtr + n })

/-- The number that names a master on the bus (01, "Masters"). -/
def masterId : Master → Nat
  | .core => 0 | .custodian => 1 | .mover => 2 | .link => 3 | .queue => 4 | .host => 5 | .debug => 6

/-- SYSCTL_PRESENT of the variant (R4). -/
def Variant.present : Variant → Word
  | .anchor => 0x1F3FFFFF
  | .label => 0x1C0F0303
  | .keeper => 0x050F0101

/-- The VARIANT code of SYSCTL_ID (R2). -/
def Variant.code : Variant → Nat
  | .anchor => 1 | .label => 2 | .keeper => 3

/-- SYSCTL_ID (R2). -/
def State.sysctlId (s : State) : Word :=
  word (0x0C96 * 2 ^ 16 + s.variant.code * 2 ^ 12 + Config.stepLetter * 2 ^ 8 + Config.stepDigit * 2 ^ 4)

/-- A bit of SYSCTL_PRESENT (R3). -/
def State.present (s : State) (i : Nat) : Bool := bitOf s.variant.present i

/-- A command whose access waits for a far die is kept, to be presented again (R34; notes/assumptions/47.md). -/
def State.holdCmd (s : State) (c : HeldCmd) : State := { s with held := s.held ++ [c] }

/-- A kept command of the panel port. -/
def isPanelCmd : HeldCmd → Bool
  | .panelFlip | .panelRefresh | .panelPowerDelay | .panelDeferred => true
  | _ => false

/-- A command of a host on HIF-1 or HIF-2 is kept: later ones keep behind it (R23). -/
def State.hostHeld (s : State) : Bool :=
  s.held.any (fun c => match c with | .hif1Read _ | .hif1Write _ | .hif2Write _ _ => true | _ => false)

/-- Apply a function for each number below `n`, in rising order. -/
def forRange (n : Nat) (s : State) (f : State → Nat → State) : State := (List.range n).foldl f s

end Sys2Proof.Machine
end

