-- ==== Sys2Proof/Machine/Codes.lean ====
section
/-! DEFINITION. Checksums and byte order: the CRCs the chapters name, and little-endian fields of byte strings. -/

namespace Sys2Proof.Machine

/-- `n` steps of a reflected CRC register with a polynomial. -/
def crcReflStep (poly : Nat) : Nat → Nat → Nat
  | 0, c => c
  | n + 1, c => crcReflStep poly n (if c % 2 == 1 then (c / 2) ^^^ poly else c / 2)

/-- A reflected CRC over bytes from a register value. -/
def crcRefl (poly init : Nat) (bytes : List Byte) : Nat :=
  bytes.foldl (fun c b => crcReflStep poly 8 (c ^^^ b.toNat)) init

/-- The CRC-32 of R272. -/
def crc32 (bytes : List Byte) : Nat := crcRefl 0xEDB88320 0xFFFFFFFF bytes ^^^ 0xFFFFFFFF

/-- The Gen 1 CRC-16 of R240. -/
def crcX25 (bytes : List Byte) : Nat := crcRefl 0x8408 0xFFFF bytes ^^^ 0xFFFF

/-- `n` steps of an unreflected 16-bit CRC register with the polynomial 0x1021. -/
def crcMsbStep : Nat → Nat → Nat
  | 0, c => c
  | n + 1, c => crcMsbStep n (if 0x8000 ≤ c then ((c * 2) % 65536) ^^^ 0x1021 else c * 2)

/-- The CRC-16 of R99: polynomial 0x1021, initial value 0xFFFF, no reflection and no final XOR. -/
def crc16 (bytes : List Byte) : Nat :=
  bytes.foldl (fun c b => crcMsbStep 8 (c ^^^ (b.toNat * 256))) 0xFFFF

/-- The number that bytes spell, the first least significant. -/
def leNat : List Byte → Nat
  | [] => 0
  | b :: t => b.toNat + 256 * leNat t

/-- The `n` low bytes of a number, the least significant first. -/
def leBytes : Nat → Nat → List Byte
  | 0, _ => []
  | n + 1, v => byte v :: leBytes n (v / 256)

/-- The number that bytes spell, the first most significant. -/
def beNat (l : List Byte) : Nat := l.foldl (fun a b => 256 * a + b.toNat) 0

/-- The `n` low bytes of a number, the most significant first. -/
def beBytes (n v : Nat) : List Byte := (leBytes n v).reverse

/-- The little-endian field of `n` bytes at an offset. -/
def field (l : List Byte) (off n : Nat) : Nat := leNat ((l.drop off).take n)

/-- A byte of a byte string. -/
def b1 (l : List Byte) (off : Nat) : Nat := field l off 1
/-- A little-endian half-word of a byte string. -/
def b2 (l : List Byte) (off : Nat) : Nat := field l off 2
/-- A little-endian word of a byte string. -/
def b4 (l : List Byte) (off : Nat) : Nat := field l off 4

/-- `n` bytes from an offset are zero. -/
def zeros (l : List Byte) (off n : Nat) : Bool := field l off n == 0

/-- The signed little-endian field of `n` bytes at an offset. -/
def sfield (l : List Byte) (off n : Nat) : Int := signed (8 * n) (field l off n)

end Sys2Proof.Machine
end

