-- ==== Sys2Proof/Machine/Crypto.lean ====
section
/-! DEFINITION. The cryptographic functions the custodian performs (14): AES, its modes, SHA-256, HMAC, and P-256. -/

namespace Sys2Proof.Machine

/-! ### AES (FIPS 197) -/

/-- Multiplication by x in GF(2⁸). -/
def xtime (a : Nat) : Nat := if 128 ≤ a then (2 * a % 256) ^^^ 0x1B else 2 * a

/-- Multiplication in GF(2⁸), `n` bits of the second factor. -/
def gfMulN : Nat → Nat → Nat → Nat
  | 0, _, _ => 0
  | n + 1, a, b => (if b % 2 == 1 then a else 0) ^^^ gfMulN n (xtime a) (b / 2)

/-- Multiplication in GF(2⁸). -/
def gfMul (a b : Nat) : Nat := gfMulN 8 a b

/-- The inverse in GF(2⁸), 0 for 0: the power 254. -/
def gfInv (a : Nat) : Nat :=
  let sq (x : Nat) := gfMul x x
  let a2 := sq a
  let a4 := sq a2
  let a8 := sq a4
  let a16 := sq a8
  let a32 := sq a16
  let a64 := sq a32
  let a128 := sq a64
  gfMul a2 (gfMul a4 (gfMul a8 (gfMul a16 (gfMul a32 (gfMul a64 a128)))))

/-- A byte rotated left. -/
def rotl8 (a n : Nat) : Nat := (a * 2 ^ n % 256) + a / 2 ^ (8 - n)

/-- The S-box. -/
def sbox (a : Nat) : Nat :=
  let b := gfInv a
  b ^^^ rotl8 b 1 ^^^ rotl8 b 2 ^^^ rotl8 b 3 ^^^ rotl8 b 4 ^^^ 0x63

/-- The inverse S-box. -/
def sboxInv (a : Nat) : Nat :=
  gfInv (rotl8 a 1 ^^^ rotl8 a 3 ^^^ rotl8 a 6 ^^^ 0x05)

/-- The round-key words: from the words so far, `n` more; `i` counts words, `rc` is the round constant. -/
def expandKey (nk : Nat) : Nat → Nat → Nat → List (List Nat) → List (List Nat)
  | 0, _, _, ws => ws
  | n + 1, i, rc, ws =>
    let prev := (ws.getLast?).getD []
    let back := (ws[i - nk]?).getD []
    let rot := (prev.drop 1 ++ prev.take 1).map sbox
    let t := if i % nk == 0 then (match rot with | a :: r => (a ^^^ rc) :: r | [] => [])
      else if 6 < nk && i % nk == 4 then prev.map sbox else prev
    expandKey nk n (i + 1) (if i % nk == 0 then xtime rc else rc) (ws ++ [(t.zip back).map (fun p => p.1 ^^^ p.2)])

/-- The round keys of a key of 16 or 32 bytes, 16 bytes each. -/
def roundKeys (key : List Byte) : List (List Nat) :=
  let k := key.map (·.toNat)
  let nk := key.length / 4
  let ws := (List.range nk).map (fun i => (k.drop (4 * i)).take 4)
  let all := expandKey nk (4 * (nk + 7) - nk) nk 1 ws
  (List.range (nk + 7)).map (fun r => ((all.drop (4 * r)).take 4).flatten)

/-- Exclusive or of two lists. -/
def xorList (a b : List Nat) : List Nat := (a.zip b).map (fun p => p.1 ^^^ p.2)

/-- The state rotated by rows: byte `4c + r` comes from column `c + d·r`. -/
def shiftRows (d : Nat) (st : List Nat) : List Nat :=
  (List.range 16).map (fun i => (st[(i % 4 + 4 * ((i / 4 + d * (i % 4)) % 4))]?).getD 0)

/-- The columns multiplied by a circulant row. -/
def mixColumns (row : List Nat) (st : List Nat) : List Nat :=
  (List.range 16).map (fun i =>
    (List.range 4).foldl (fun a j => a ^^^ gfMul ((st[i / 4 * 4 + j]?).getD 0) ((row[(j + 4 - i % 4) % 4]?).getD 0)) 0)

/-- AES encryption of one block under round keys. -/
def aesEncRounds : List (List Nat) → List Nat → List Nat
  | [], st => st
  | [k], st => xorList (shiftRows 1 (st.map sbox)) k
  | k :: t, st => aesEncRounds t (xorList (mixColumns [2, 3, 1, 1] (shiftRows 1 (st.map sbox))) k)

/-- AES encryption of one block. -/
def aesEnc (key blk : List Byte) : List Byte :=
  match roundKeys key with
  | k :: t => (aesEncRounds t (xorList (blk.map (·.toNat)) k)).map byte
  | [] => blk

/-- AES decryption of one block under round keys, the last first. -/
def aesDecRounds : List (List Nat) → List Nat → List Nat
  | [], st => st
  | [k], st => xorList ((shiftRows 3 st).map sboxInv) k
  | k :: t, st => aesDecRounds t (mixColumns [14, 11, 13, 9] (xorList ((shiftRows 3 st).map sboxInv) k))

/-- AES decryption of one block. -/
def aesDec (key blk : List Byte) : List Byte :=
  match (roundKeys key).reverse with
  | k :: t => (aesDecRounds t (xorList (blk.map (·.toNat)) k)).map byte
  | [] => blk

/-- Exclusive or of byte strings. -/
def xorBytes (a b : List Byte) : List Byte := (a.zip b).map (fun p => p.1 ^^^ p.2)

/-- Bytes in pieces of `n`, by a fuel of at least their number. -/
def chunksOf (n : Nat) : Nat → List Byte → List (List Byte)
  | 0, _ => []
  | _, [] => []
  | f + 1, l => l.take n :: chunksOf n f (l.drop n)

/-- Bytes in 16-byte blocks. -/
def blocks16 (l : List Byte) : List (List Byte) := chunksOf 16 l.length l

/-- ECB. -/
def aesEcb (enc : Bool) (key data : List Byte) : List Byte :=
  (blocks16 data).flatMap (fun b => if enc then aesEnc key b else aesDec key b)

/-- CBC encryption from an IV; the data and the last ciphertext block. -/
def aesCbcEnc (key : List Byte) : List Byte → List (List Byte) → List Byte × List Byte
  | iv, [] => ([], iv)
  | iv, b :: t =>
    let c := aesEnc key (xorBytes iv b)
    let r := aesCbcEnc key c t
    (c ++ r.1, r.2)

/-- CBC decryption from an IV; the data and the last ciphertext block. -/
def aesCbcDec (key : List Byte) : List Byte → List (List Byte) → List Byte × List Byte
  | iv, [] => ([], iv)
  | iv, b :: t =>
    let r := aesCbcDec key b t
    (xorBytes iv (aesDec key b) ++ r.1, r.2)

/-- The next counter block: its 128 bits, the first byte most significant, raised by one. -/
def nextCounter (c : List Byte) : List Byte := beBytes 16 (beNat c + 1)

/-- CTR from a counter block; the data and the next counter block. -/
def aesCtr (key : List Byte) : List Byte → List (List Byte) → List Byte × List Byte
  | c, [] => ([], c)
  | c, b :: t =>
    let r := aesCtr key (nextCounter c) t
    (xorBytes b (aesEnc key c) ++ r.1, r.2)

/-- CBC-MAC of blocks from a block. -/
def cbcMac (key : List Byte) (iv : List Byte) (bs : List (List Byte)) : List Byte :=
  bs.foldl (fun a b => aesEnc key (xorBytes a b)) iv

/-- Bytes padded with zeros to a multiple of 16. -/
def pad16 (l : List Byte) : List Byte := l ++ List.replicate ((16 - l.length % 16) % 16) 0

/-- A block doubled in the CMAC field. -/
def cmacDouble (b : List Byte) : List Byte :=
  let n := beNat b
  let d := n * 2 % 2 ^ 128
  beBytes 16 (if 2 ^ 127 ≤ n then d ^^^ 0x87 else d)

/-- CMAC (SP 800-38B). -/
def aesCmac (key msg : List Byte) : List Byte :=
  let k1 := cmacDouble (aesEnc key (List.replicate 16 0))
  let k2 := cmacDouble k1
  let whole := msg.length % 16 == 0 && !msg.isEmpty
  let n := if whole then msg.length - 16 else msg.length / 16 * 16
  let last := if whole then xorBytes k1 (msg.drop n) else xorBytes k2 (pad16 (msg.drop n ++ [0x80]))
  cbcMac key (List.replicate 16 0) (blocks16 (msg.take n) ++ [last])

/-- The CCM tag before encryption: 13-byte nonce, 8-byte tag, 2-byte length (SP 800-38C). -/
def ccmTag (key nonce aad msg : List Byte) : List Byte :=
  let flags : Byte := byte ((if aad.isEmpty then 0 else 64) + 8 * 3 + 1)
  let b0 := flags :: nonce ++ beBytes 2 msg.length
  let a := if aad.isEmpty then [] else pad16 (beBytes 2 aad.length ++ aad)
  (cbcMac key (List.replicate 16 0) (blocks16 (b0 ++ a ++ pad16 msg))).take 8

/-- The CCM counter block of an index. -/
def ccmCounter (nonce : List Byte) (i : Nat) : List Byte := (1 : Byte) :: nonce ++ beBytes 2 i

/-- CCM encryption: the ciphertext and the 8-byte MIC. -/
def ccmEnc (key nonce aad msg : List Byte) : List Byte × List Byte :=
  ((aesCtr key (ccmCounter nonce 1) (blocks16 msg)).1,
   xorBytes (ccmTag key nonce aad msg) (aesEnc key (ccmCounter nonce 0)))

/-- CCM decryption: the plaintext when the MIC verifies. -/
def ccmDec (key nonce aad cipher mic : List Byte) : Option (List Byte) :=
  let msg := (aesCtr key (ccmCounter nonce 1) (blocks16 cipher)).1
  if xorBytes (ccmTag key nonce aad msg) (aesEnc key (ccmCounter nonce 0)) = mic then some msg else none

/-! ### SHA-256 and HMAC (FIPS 180-4, FIPS 198-1) -/

/-- The integer square root by bits: the largest r below 2^n with r² ≤ v. -/
def rootBits (k v : Nat) : Nat → Nat → Nat
  | 0, r => r
  | n + 1, r => if (r + 2 ^ n) ^ k ≤ v then rootBits k v n (r + 2 ^ n) else rootBits k v n r

/-- The first 64 primes. -/
def primes64 : List Nat := (List.range 312).filter (fun n => 2 ≤ n && (List.range 18).all (fun d => d < 2 || d == n || n % d != 0))

/-- The round constants: the first 32 bits of the fractions of the cube roots of the first 64 primes. -/
def shaK : List Nat := primes64.map (fun p => rootBits 3 (p * 2 ^ 96) 36 0 % 2 ^ 32)

/-- The initial value: the first 32 bits of the fractions of the square roots of the first 8 primes. -/
def shaInit : List Nat := (primes64.take 8).map (fun p => rootBits 2 (p * 2 ^ 64) 36 0 % 2 ^ 32)

/-- A 32-bit word rotated right. -/
def rotr (x n : Nat) : Nat := x / 2 ^ n + x % 2 ^ n * 2 ^ (32 - n)

/-- The message schedule extended by `n` words. -/
def shaExtend : Nat → List Nat → List Nat
  | 0, w => w
  | n + 1, w =>
    let g (i : Nat) : Nat := (w[w.length - i]?).getD 0
    let s0 := rotr (g 15) 7 ^^^ rotr (g 15) 18 ^^^ (g 15 / 2 ^ 3)
    let s1 := rotr (g 2) 17 ^^^ rotr (g 2) 19 ^^^ (g 2 / 2 ^ 10)
    shaExtend n (w ++ [(g 16 + s0 + g 7 + s1) % 2 ^ 32])

/-- One round on the eight working words. -/
def shaRound (h : List Nat) (kw : Nat × Nat) : List Nat :=
  match h with
  | [a, b, c, d, e, f, g, hh] =>
    let s1 := rotr e 6 ^^^ rotr e 11 ^^^ rotr e 25
    let ch := (e &&& f) ^^^ ((2 ^ 32 - 1 - e) &&& g)
    let t1 := hh + s1 + ch + kw.1 + kw.2
    let s0 := rotr a 2 ^^^ rotr a 13 ^^^ rotr a 22
    let maj := (a &&& b) ^^^ (a &&& c) ^^^ (b &&& c)
    [(t1 + s0 + maj) % 2 ^ 32, a, b, c, (d + t1) % 2 ^ 32, e, f, g]
  | _ => h

/-- One 64-byte block into the chaining value. -/
def shaBlock (h : List Nat) (blk : List Byte) : List Nat :=
  let w := shaExtend 48 ((List.range 16).map (fun i => beNat ((blk.drop (4 * i)).take 4)))
  ((shaK.zip w).foldl shaRound h).zip h |>.map (fun p => (p.1 + p.2) % 2 ^ 32)

/-- Whole blocks into a chaining value. -/
def shaUpdate (h : List Nat) (data : List Byte) : List Nat := (chunksOf 64 data.length data).foldl shaBlock h

/-- The digest after the last bytes, `before` bytes having gone in whole blocks. -/
def shaFinish (h : List Nat) (before : Nat) (data : List Byte) : List Byte :=
  let n := data.length + 9
  let padded := data ++ [0x80] ++ List.replicate ((64 - n % 64) % 64) 0 ++ beBytes 8 (8 * (before + data.length))
  (shaUpdate h padded).flatMap (beBytes 4)

/-- SHA-256. -/
def sha256 (data : List Byte) : List Byte := shaFinish shaInit 0 data

/-- The HMAC pads of a key of at most 64 bytes. -/
def hmacPad (key : List Byte) (x : Byte) : List Byte :=
  (key ++ List.replicate (64 - key.length) 0).map (fun b => b ^^^ x)

/-- The outer hash of HMAC. -/
def hmacOuter (key inner : List Byte) : List Byte := sha256 (hmacPad key 0x5C ++ inner)

/-! ### P-256 (FIPS 186-4) -/

/-- The field prime. -/
def p256 : Nat := 2 ^ 256 - 2 ^ 224 + 2 ^ 192 + 2 ^ 96 - 1
/-- The group order. -/
def p256n : Nat := 0xFFFFFFFF00000000FFFFFFFFFFFFFFFFBCE6FAADA7179E84F3B9CAC2FC632551
/-- The curve constant b. -/
def p256b : Nat := 0x5AC635D8AA3A93E7B3EBBD55769886BC651D06B0CC53B0F63BCE3C3E27D2604B
/-- The base point. -/
def p256g : Nat × Nat :=
  (0x6B17D1F2E12C4247F8BCE6E563A440F277037D812DEB33A0F4A13945D898C296,
   0x4FE342E2FE1A7F9B8EE7EB4A7C0F9E162BCE33576B315ECECBB6406837BF51F5)

/-- A power modulo m, `n` bits of the exponent. -/
def powMod (m : Nat) : Nat → Nat → Nat → Nat
  | 0, _, _ => 1
  | n + 1, a, e => (if e % 2 == 1 then a else 1) * powMod m n (a * a % m) (e / 2) % m

/-- The inverse modulo a prime. -/
def invMod (m a : Nat) : Nat := powMod m 256 a (m - 2)

/-- Addition of points; `none` is the point at infinity. -/
def ecAdd (a b : Option (Nat × Nat)) : Option (Nat × Nat) :=
  match a, b with
  | none, q => q
  | p, none => p
  | some (x1, y1), some (x2, y2) =>
    if x1 = x2 && (y1 + y2) % p256 = 0 then none
    else
      let l := if x1 = x2 then (3 * x1 * x1 + (p256 - 3)) * invMod p256 (2 * y1 % p256) % p256
        else (y2 + p256 - y1) * invMod p256 ((x2 + p256 - x1) % p256) % p256
      let x3 := (l * l + 2 * p256 - x1 - x2) % p256
      some (x3, (l * (x1 + p256 - x3) + p256 - y1) % p256)

/-- A multiple of a point, `n` bits of the scalar. -/
def ecMul : Nat → Nat → Option (Nat × Nat) → Option (Nat × Nat)
  | 0, _, _ => none
  | n + 1, k, p => ecAdd (if k % 2 == 1 then p else none) (ecMul n (k / 2) (ecAdd p p))

/-- A point lies on the curve. -/
def onCurve (q : Nat × Nat) : Bool :=
  q.1 < p256 && q.2 < p256 && q.2 * q.2 % p256 == (q.1 * q.1 * q.1 + (p256 - 3) * q.1 + p256b) % p256

/-- The public key of a private key. -/
def ecPublic (d : Nat) : Nat × Nat := (ecMul 256 d (some p256g)).getD (0, 0)

/-- A signature over a digest with a private key and a per-signature number. -/
def ecdsaSign (d k : Nat) (digest : List Byte) : Nat × Nat :=
  let r := (ecPublic k).1 % p256n
  (r, invMod p256n k * (beNat digest + r * d) % p256n)

/-- A signature verifies (FIPS 186-4). -/
def ecdsaVerify (q : Nat × Nat) (digest : List Byte) (sig : Nat × Nat) : Bool :=
  0 < sig.1 && sig.1 < p256n && 0 < sig.2 && sig.2 < p256n && onCurve q &&
    (let w := invMod p256n sig.2
     match ecAdd (ecMul 256 (beNat digest * w % p256n) (some p256g)) (ecMul 256 (sig.1 * w % p256n) (some q)) with
     | some (x, _) => x % p256n == sig.1
     | none => false)

/-- Two 32-byte little-endian numbers: a signature (R41) or a public key (R480). -/
def pairOf (l : List Byte) : Nat × Nat := (field l 0 32, field l 32 32)

/-- The 64 bytes of two numbers. -/
def pairBytes (p : Nat × Nat) : List Byte := leBytes 32 p.1 ++ leBytes 32 p.2

end Sys2Proof.Machine
end

