-- ==== Sys2Proof/Machine/Flags.lean ====
section
/-! DEFINITION. The flags the units raise: interrupt selection (07), events (R189), slips (R529) and wakes (04). -/

namespace Sys2Proof.Machine

/-- The priority of an interrupt source. -/
def State.intPrio (s : State) (n : Nat) : Nat := s.rdF (Reg.INTC_PRIO (n / 8)) (4 * (n % 8)) 3

/-- The enabled and pending sources, rising. -/
def State.intReady (s : State) : List Nat :=
  (List.range 8).flatMap (fun j =>
    let w := s.rd (Reg.INTC_EN j) &&& s.rd (Reg.INTC_PEND j)
    if w == 0 then [] else ((List.range 32).filter (fun b => bitOf w b)).map (· + 32 * j))

/-- The source of R211: the highest priority at or above the threshold, the lowest number among equals. -/
def State.intBest (s : State) : Option Nat :=
  (s.intReady.filter (fun n => s.rdF Reg.INTC_THRESH 0 4 ≤ s.intPrio n)).foldl
    (fun b n => match b with
      | none => some n
      | some m => if s.intPrio m < s.intPrio n then some n else some m) none

/-- What INTC_CLAIM and INTC_TOP read. -/
def State.intTop (s : State) : Word :=
  match s.intBest with
  | some n => word (n + s.intPrio n * 256)
  | none => 0x80000000

/-- MEIP is requested (R210). -/
def State.meip (s : State) : Bool := s.intBest.isSome

/-- An interrupt ends Doze (04, "Modes"); a sleep entry that it ends is counted in PWR_COUNT.ABORTED (R673). -/
def State.endDoze (s : State) : State :=
  if s.pwr.mode == .doze && s.meip then
    let s1 := if s.pwr.entry.isSome then s.satAdd Reg.PWR_COUNT 16 8 else s
    { s1 with pwr := { s1.pwr with mode := .run, entry := none, resumeAt := none } }
  else s

/-- A pulse meets its pending bit at 1: an overrun (R213), which R215 and R216 may still take back in the cycle. -/
def State.overrun (s : State) (n : Nat) : State :=
  let s1 := (s.satAdd Reg.INTC_OVR 0 16).wrF Reg.INTC_OVR 16 8 n
  { s1 with fab := { s1.fab with ovr := s1.fab.ovr ++ [(n, s.rd Reg.INTC_OVR)] } }

/-- The pending bit of a source is cleared in the cycle of its pulse: the bit ends 1 and the pulse counts no overrun
(R215, R216). -/
def State.undoOverrun (s : State) (n : Nat) : State :=
  match mapGet s.fab.ovr n with
  | none => s
  | some w =>
    let s1 := { s with fab := { s.fab with ovr := s.fab.ovr.filter (fun p => p.1 != n) } }
    if s.fab.ovr.getLast?.any (fun p => p.1 == n) then s1.wr Reg.INTC_OVR w
    else s1.wrF Reg.INTC_OVR 0 16 (s1.rdF Reg.INTC_OVR 0 16 - 1)

/-- Raise an event source: its pending bit, or an overrun when that bit is already set (R213), and its pulse for the
fabric (R189); an interrupt it makes ready ends Doze. -/
def State.event (s : State) (n : Nat) : State :=
  let s1 :=
    if s.bit (Reg.INTC_PEND (n / 32)) (n % 32) then s.overrun n
    else s.setB (Reg.INTC_PEND (n / 32)) (n % 32) true
  ({ s1 with fab := { s1.fab with
      pulses := if s1.fab.pulses.contains n then s1.fab.pulses else s1.fab.pulses ++ [n] } }).endDoze

/-- Raise an event source when a condition holds. -/
def State.eventIf (s : State) (c : Bool) (n : Nat) : State := if c then s.event n else s

/-- A slip word (R529). -/
def slipWord (src kind cls detail : Nat) : Word :=
  word (src % 128 + (kind % 64) * 2 ^ 7 + (cls % 4) * 2 ^ 13 + (detail % 65536) * 2 ^ 16)

/-- A unit sends a slip: it waits at its source until SLIP_INTAKE takes it (R533). -/
def State.slip (s : State) (src kind cls detail : Nat) : State :=
  { s with fault := { s.fault with waiting := s.fault.waiting ++ [slipWord src kind cls detail] } }

/-- A wake source arrives, named by its bit of PWR_WAKE_CAUSE. In Nap and Hibernate the wake begins and the cause is
held until the wake ends (R122). During an entry it ends the entry with a count (04, "What if a wake source arrives
during Nap entry?"); in a Doze kept by R119 it resumes Run. -/
def State.wake (s : State) (cause : Nat) : State :=
  match s.pwr.mode with
  | .nap | .hibernate =>
    { s with pwr := { s.pwr with
        waking := true,
        causes := if s.pwr.causes.contains cause then s.pwr.causes else s.pwr.causes ++ [cause] } }
  | .doze =>
    if s.pwr.entry.isSome then
      ({ s with pwr := { s.pwr with mode := .run, entry := none } }).satAdd Reg.PWR_COUNT 16 8
    else if s.pwr.resumeAt.isSome then
      { s with pwr := { s.pwr with mode := .run, resumeAt := none } }
    else s
  | .run => s

/-- The part is in Nap or Hibernate. -/
def State.asleep (s : State) : Bool := s.pwr.mode == .nap || s.pwr.mode == .hibernate

/-- Debug reaches the whole map (R476 to R478). -/
def State.debugOpen (s : State) : Bool := s.cust.life != 1 || s.cust.unlocked

/-- The debug master while debug is locked: its accesses get an error response (R477). -/
def State.locked (s : State) (m : Master) : Bool := m == .debug && !s.debugOpen

/-! ### The applied configuration (02) -/

/-- The payload of a section in force; empty when the section is at its defaults. -/
def State.sec (s : State) (t : Nat) : List Byte := (mapGet s.cat.sections t).getD []

/-- A unit is enabled in section 0x01. -/
def State.enabled (s : State) (bit : Nat) : Bool := (field (s.sec 1) 0 4).testBit bit

/-- The note slip of an access to an absent unit or bank (R8). -/
def State.absentSlip (s : State) (src addr : Nat) : State := s.slip src 0x01 0 addr

/-! ### The far dies (01) -/

/-- The STAT register of a spine: STATE, HALF and LANES are held there, OUTST is counted when it is read. -/
def spineStat : Die → Nat
  | .front => Reg.SPINE_F_STAT
  | .store => Reg.SPINE_S_STAT

/-- STATE of a spine: 0 DOWN, 1 RESET, 2 TRAINING, 3 UP, 4 STUCK. -/
def State.spineState (s : State) (die : Die) : Nat := s.rdF (spineStat die) 0 3

/-- A spine's own state. -/
def State.spine (s : State) : Die → Spine
  | .front => s.spineF
  | .store => s.spineS

/-- Replace a spine's own state. -/
def State.setSpineSt (s : State) (die : Die) (sp : Spine) : State :=
  match die with
  | .front => { s with spineF := sp }
  | .store => { s with spineS := sp }

/-- The ERR register of a spine. -/
def spineErr : Die → Nat
  | .front => Reg.SPINE_F_ERR
  | .store => Reg.SPINE_S_ERR

/-- The line reads that the store die has accepted through Spine-S and not yet served. -/
def State.linesOut (s : State) : Die → Nat
  | .front => 0
  | .store => s.store.reads.length

/-- Transactions outstanding on a spine (R36): its packets', and on Spine-S the line reads that wait for a plane. -/
def State.spineOut (s : State) (die : Die) : Nat := (s.spine die).outst.length + s.linesOut die

/-- A master's transactions outstanding on both spines (R24). -/
def State.masterOut (s : State) (m : Master) : Nat :=
  ((s.spineF.outst ++ s.spineS.outst).filter (fun r => r.master == m)).length +
    (s.store.reads.filter (fun r => r.1 == m)).length

/-- A master has an earlier transaction on a spine, outstanding or held in its port: what it presents next waits its turn
where it is served as one access (R23). -/
def State.portBusy (s : State) (die : Die) (m : Master) : Bool :=
  (s.spine die).outst.any (fun r => r.master == m) || (s.spine die).waiting.any (fun r => r.master == m) ||
    (die == .store && s.store.reads.any (fun r => r.1 == m))

/-- A spine or a master at its bound, which holds a new transaction in the master's port (R24, R36). -/
def State.spineFull (s : State) (die : Die) (m : Master) : Bool := 16 ≤ s.spineOut die || 8 ≤ s.masterOut m

/-- A transaction meets the bound of 16 on its spine: the refusal is counted in FULL (R36). -/
def State.countFull (s : State) (die : Die) : State :=
  if 16 ≤ s.spineOut die then s.satAdd (spineErr die) 16 8 else s

/-- The slip detail that names a spine (R531). -/
def spineNo : Die → Nat
  | .front => 0
  | .store => 1

/-- DIE_NOT_READY (R33): an error response and a note slip. -/
def State.dieNotReady (s : State) (die : Die) : State := (s.slip 0 0x03 0 (spineNo die)).answerError

end Sys2Proof.Machine
end

