-- ==== Sys2Proof/Machine/Fabric.lean ====
section
/-! DEFINITION. The event fabric and the interrupt concentrator (07). -/

namespace Sys2Proof.Machine

/-! ### Channels -/

/-- A task number that R190 reserves; 0xFFFF is none. -/
def taskReserved (n : Nat) : Bool :=
  (n < 64 && n % 8 == 7) || n == 83 || n == 87 || (128 ≤ n && n < 160) || (162 ≤ n && n < 168) ||
    (172 ≤ n && n < 176) || (180 ≤ n && n != 0xFFFF)

/-- The guarded tasks: tamper and release (07). -/
def taskGuarded (n : Nat) : Bool := n == 160 || n == 161 || (168 ≤ n && n < 172)

/-- A node code the fabric does not know (R198). -/
def nodeReserved (n : Nat) : Bool := 288 ≤ n && n != 0xFFFF

/-- The route of a channel for the pulses of the running cycle: CFG, TASK01 and TASK23, as they stood before a re-route in
this cycle (R214). -/
def State.route (s : State) (c : Nat) : List Word :=
  (mapGet s.cyc.routes c).getD [s.rd (Reg.FAB_CH_CFG c), s.rd (Reg.FAB_CH_TASK01 c), s.rd (Reg.FAB_CH_TASK23 c)]

/-- The route of a channel is about to change: the pulses of the running cycle keep the old one (R214). -/
def State.keepRoute (s : State) (c : Nat) : State :=
  if (mapGet s.cyc.routes c).isSome then s
  else { s with cyc := { s.cyc with routes := (c, s.route c) :: s.cyc.routes } }

/-- The tasks a channel's route drives. -/
def State.channelTasks (s : State) (c : Nat) : List Nat :=
  ((s.route c).drop 1).flatMap (fun w => [fld w 0 16, fld w 16 16]) |>.filter (fun t => !(t == 0xFFFF || taskReserved t))

/-- A pulse enters a channel: SEEN is set (R194); while a pulse is in delivery the two merge and are counted (R192);
otherwise the pulse is in delivery for 2 PERCLK cycles on the route in force (R214). -/
def State.fireChannel (s : State) (c : Nat) : State :=
  let s1 := s.setB (Reg.FAB_SEEN (c / 32)) (c % 32) true
  match mapGet s1.fab.delivery c with
  | some _ => (s1.satAdd Reg.FAB_MERGED 0 16).wrF Reg.FAB_LAST 0 7 c
  | none =>
    { s1 with fab := { s1.fab with delivery := mapIns s1.fab.delivery c ⟨2, s1.channelTasks c⟩ } }

/-- A pulse reaches a task input: one pulse per PERCLK cycle, further ones are counted (R193). -/
def State.pulseTask (s : State) (t : Nat) : State :=
  if s.fab.taskNow.contains t then (s.satAdd Reg.FAB_MERGED 16 16).wrF Reg.FAB_LAST 8 8 t
  else { s with fab := { s.fab with taskNow := s.fab.taskNow ++ [t] } }

/-- Every pulse in delivery advances one PERCLK cycle; those at their end reach their tasks in the next one. -/
def State.advanceDeliveries (s : State) : State :=
  let done := s.fab.delivery.filter (fun d => d.2.left ≤ 1)
  let rest := (s.fab.delivery.filter (fun d => !(d.2.left ≤ 1))).map (fun d => (d.1, { d.2 with left := d.2.left - 1 }))
  (done.flatMap (fun d => d.2.tasks)).foldl State.pulseTask
    { s with fab := { s.fab with delivery := rest, taskNow := [] } }

/-! ### Logic cells -/

/-- The levels of the logic cells in one evaluation: the cells whose value before the filter is 1, and the cells whose
output is 1. -/
structure CellLevels where
  pre : List Nat
  out : List Nat
  deriving DecidableEq, Repr

/-- A list of numbers with one of them in or out. -/
def setMember (l : List Nat) (i : Nat) (b : Bool) : List Nat :=
  if b then (if l.contains i then l else i :: l) else l.filter (· != i)

/-- A cell's inner state. -/
def State.cell (s : State) (i : Nat) : CellSt := (mapGet s.fab.cells i).getD {}

/-- The four input node codes of a cell. -/
def State.cellInputs (s : State) (i : Nat) : List Nat :=
  [s.rdF (Reg.FAB_CELL_IN01 i) 0 16, s.rdF (Reg.FAB_CELL_IN01 i) 16 16,
   s.rdF (Reg.FAB_CELL_IN23 i) 0 16, s.rdF (Reg.FAB_CELL_IN23 i) 16 16]

/-- LUT bit i = IN3·8 + IN2·4 + IN1·2 + IN0 of a cell for its input levels (R200). -/
def State.lut (s : State) (i : Nat) (ins : List Bool) : Bool :=
  s.bit (Reg.FAB_CELL_CFG i) (ins.foldr (fun b n => b2n b + 2 * n) 0)

/-- Cells that do anything: their configuration is not the reset value. -/
def State.usedCells (s : State) (lo n : Nat) : List Nat :=
  ((List.range n).map (· + lo)).filter (fun i => (s.rd (Reg.FAB_CELL_CFG i)) != 0)

/-- The levels that stand before an evaluation. -/
def State.levelsNow (s : State) : CellLevels :=
  let used := s.usedCells 0 32
  { pre := used.filter (fun i => (s.cell i).pre), out := used.filter (fun i => s.bit (Reg.FAB_CELL_CFG i) 31) }

/-- The level an input of cell `self` reads: a source reads 1 in the cycle of its pulse, a cell its output, the cell
itself its value before the filter (R202), constant zero 0. -/
def nodeLevel (pulses : List Nat) (L : CellLevels) (self node : Nat) : Bool :=
  if node < 256 then pulses.contains node
  else if node = 256 + self then L.pre.contains self
  else if node < 288 then L.out.contains (node - 256)
  else false

/-- One cell within an evaluation: with the flip-flop its value is the flip-flop's, without it the next value; the
filter passes a value that W periods have held (R201). -/
def State.evalCell (s : State) (ins : CellLevels → Nat → List Bool) (L : CellLevels) (i : Nat) : CellLevels :=
  let c := s.cell i
  let pre := if s.bit (Reg.FAB_CELL_CFG i) 16 then c.ff else s.lut i (ins L i)
  let w := s.rdF (Reg.FAB_CELL_CFG i) 20 4
  let out := if w == 0 then pre else if pre == c.pre && w ≤ c.held then pre else s.bit (Reg.FAB_CELL_CFG i) 31
  { pre := setMember L.pre i pre, out := setMember L.out i out }

/-- The levels a set of cells settles to: no value depends on itself without a flip-flop (R204), so as many passes as
cells suffice. -/
def State.settle (s : State) (ins : CellLevels → Nat → List Bool) (cells : List Nat) : CellLevels :=
  (List.range cells.length).foldl (fun L _ => cells.foldl (s.evalCell ins) L) s.levelsNow

/-- The end of an evaluation period for one cell: the flip-flop takes the next value, the filter counts, Q shows the
output. -/
def State.clockCell (s : State) (ins : CellLevels → Nat → List Bool) (L : CellLevels) (i : Nat) : State :=
  let c := s.cell i
  let pre := L.pre.contains i
  let c' : CellSt :=
    { ff := if s.bit (Reg.FAB_CELL_CFG i) 16 then s.lut i (ins L i) else false,
      pre := pre,
      held := if pre == c.pre then min (c.held + 1) 15 else 1 }
  ({ s with fab := { s.fab with cells := mapPut {} s.fab.cells i c' } }).setB (Reg.FAB_CELL_CFG i) 31 (L.out.contains i)

/-- Evaluate a set of cells for one period: the state after it and the cells whose output rose. -/
def State.evalCells (s : State) (ins : CellLevels → Nat → List Bool) (cells : List Nat) : State × List Nat :=
  let L := s.settle ins cells
  let rises := cells.filter (fun i => L.out.contains i && !s.bit (Reg.FAB_CELL_CFG i) 31)
  (cells.foldl (fun t i => t.clockCell ins L i) s, rises)

/-- An input of a backup cell passes through a latch of its own: the outputs of cells 28 to 31, which change only with an
evaluation, and a cell's own input read their level (R202, R203; DEDUCED). -/
def latchedNode (node : Nat) : Bool := node < 284

/-- The inputs of cells 28 to 31 that the running PERCLK cycle latches: pulses that no evaluation has sampled yet, and
outputs of cells 0 to 27 (R203). -/
def State.latchBackup (s : State) (L : CellLevels) : State :=
  let fresh := s.fab.pulses.filter (fun n => !s.cyc.sampled.contains n)
  let set := (s.usedCells 28 4).flatMap (fun i =>
    ((List.range 4).filter (fun k =>
      let node := (s.cellInputs i).getD k 0xFFFF
      latchedNode node && nodeLevel fresh L i node)).map (fun k => (i, k)))
  { s with fab := { s.fab with latched := s.fab.latched ++ set.filter (fun p => !s.fab.latched.contains p) } }

/-- An evaluation of cells 28 to 31 has sampled these pulses: the cycle's latches do not take them again (R203). -/
def State.noteSampled (s : State) (p : List Nat) : State :=
  { s with cyc := { s.cyc with sampled := s.cyc.sampled ++ p } }

/-- One SLOWCLK evaluation of cells 28 to 31: each input is its latch, or the level it reads now; in Nap and Hibernate
only sources 240 to 247 and 254 and cells 28 to 31 are seen (R203, R205). A rise in Nap or Hibernate sets FAB_BK_PEND
and wakes the part (R206); a rise is a wake source for a sleep entry and for the Doze of R119 too. -/
def State.evalBackup (s : State) : State :=
  let seen (n : Nat) : Bool :=
    !s.asleep || (240 ≤ n && n < 248) || n == 254 || (284 ≤ n && n < 288)
  let ins (L : CellLevels) (i : Nat) : List Bool :=
    (List.range 4).map (fun k =>
      let node := (s.cellInputs i).getD k 0xFFFF
      s.fab.latched.contains (i, k) || (seen node && nodeLevel s.fab.pulses L i node))
  let r := s.evalCells ins (s.usedCells 28 4)
  let s1 : State := { r.1 with fab := { r.1.fab with
    latched := [],
    pulses := if s.asleep then [] else r.1.fab.pulses,
    bkRise := if s.asleep then r.1.fab.bkRise else r.1.fab.bkRise ++ r.2,
    bkSlept := if s.pwr.mode == .nap then r.1.fab.bkSlept ++ r.2.filter (fun i => !r.1.fab.bkSlept.contains i)
               else r.1.fab.bkSlept } }
  if s.asleep then
    r.2.foldl (fun t i => (t.setB Reg.FAB_BK_PEND (i - 28) true).wake 4) s1
  else
    (if r.2.isEmpty then s1 else s1.wake 4).noteSampled s.fab.pulses

/-- The channels that the cycle fires: enabled, with a node that rises, by the route the cycle's pulses meet (R191,
R214). -/
def State.firedChannels (s : State) (rises : List Nat) : List Nat :=
  (List.range 128).filter (fun c =>
    let cfg := (s.route c).headD 0
    bitOf cfg 16 && rises.contains (fld cfg 0 16))

/-- The end of a PERCLK cycle for the fabric: cells 0 to 27 evaluate; every enabled channel whose node rises fires (R191);
the pulses in delivery advance, and those delivered stand in `taskNow` for the next cycle; the cycle's pulses are over. -/
def State.fabricCycle (s : State) : State :=
  let ins (L : CellLevels) (i : Nat) : List Bool := (s.cellInputs i).map (nodeLevel s.fab.pulses L i)
  let r := s.evalCells ins (s.usedCells 0 28)
  let s1 := r.1.latchBackup r.1.levelsNow
  let rises := s.fab.pulses ++ (r.2 ++ s.fab.bkRise).map (· + 256)
  let s2 := ((s1.firedChannels rises).foldl State.fireChannel s1).advanceDeliveries
  { s2 with fab := { s2.fab with pulses := [], bkRise := [], ovr := [] },
            cyc := { s2.cyc with routes := [], sampled := [] } }

/-- The fabric has nothing to do: no pulse, none in delivery or just delivered, no cell 0 to 27 in use. -/
def State.fabricQuiet (s : State) : Bool :=
  s.fab.pulses.isEmpty && s.fab.delivery.isEmpty && s.fab.taskNow.isEmpty && s.fab.bkRise.isEmpty && s.fab.ovr.isEmpty &&
    s.cyc.routes.isEmpty && s.cyc.sampled.isEmpty && (s.usedCells 0 28).isEmpty

/-- FAB_FIRE: a write of a channel number fires that channel, open or sealed (R199). -/
def execFabFire (v : Word) (s : State) : Out := .next (s.fireChannel (fld v 0 7))

/-- FAB_SWEV: bit k raises event source 248 + k (R199). -/
def execFabSwev (v : Word) (s : State) : Out :=
  .next ((List.range 6).foldl (fun t k => t.eventIf (bitOf v k) (248 + k)) s)

/-- A write to a register of a sealed channel, or one that names a guarded task: ignored, counted, one note slip
(R196, R197). The detail is the register's offset. -/
def State.sealedWrite (s : State) (a : Nat) : State :=
  (s.satAdd Reg.FAB_STATUS 0 8).slip 6 0x05 0 (a - 0x40006000)

/-- The route of a channel held for its next CFG write. -/
def State.heldRoute (s : State) (c : Nat) : HeldRoute := (mapGet s.fab.held c).getD {}

/-- Hold a route for a channel. -/
def State.setHeld (s : State) (c : Nat) (h : HeldRoute) : State :=
  { s with fab := { s.fab with held := mapPut {} s.fab.held c h } }

/-- FAB_TASK_WRITE: the word is held (R195), or the whole move is refused (R196 to R198, R677). -/
def execFabTaskWrite (c : Fin 128) (second : Bool) (v : Word) (s : State) : Out :=
  let a := if second then Reg.FAB_CH_TASK23 c else Reg.FAB_CH_TASK01 c
  let ts := [fld v 0 16, fld v 16 16]
  if s.bit (Reg.FAB_CH_CFG c) 17 then .next (s.sealedWrite a)
  else if ts.any (fun t => taskGuarded t || taskReserved t) then
    let s1 := if ts.any taskGuarded then s.sealedWrite a else s
    let s2 := if ts.any taskReserved then s1.satAdd Reg.FAB_STATUS 8 8 else s1
    .next (s2.setHeld c { refused := true })
  else
    let h := s.heldRoute c
    if h.refused then .next s
    else .next (s.setHeld c (if second then { h with t23 := some v } else { h with t01 := some v }))

/-- FAB_CFG_WRITE: SELECT, EN and the held task words apply together (R195); a reserved node refuses the move (R198);
after a refused task word the write only closes the move (R677). -/
def execFabCfgWrite (c : Fin 128) (v : Word) (s : State) : Out :=
  let a := Reg.FAB_CH_CFG c
  let h := s.heldRoute c
  if s.bit a 17 then .next (s.sealedWrite a)
  else if h.refused then .next (s.setHeld c {})
  else if nodeReserved (fld v 0 16) then .next ((s.satAdd Reg.FAB_STATUS 8 8).setHeld c {})
  else
    let s1 := (s.keepRoute c).wrF a 0 17 (fld v 0 17)
    let s2 := match h.t01 with | some w => s1.wr (Reg.FAB_CH_TASK01 c) w | none => s1
    let s3 := match h.t23 with | some w => s2.wr (Reg.FAB_CH_TASK23 c) w | none => s2
    .next (s3.setHeld c {})

/-- BACKUP_CELL_RISE: a SLOWCLK evaluation of cells 28 to 31, in which an output may rise (R203, R206). -/
def execBackupCellRise (s : State) : Out := .next s.evalBackup

/-! ### Interrupt concentrator -/

/-- A read of INTC_CLAIM: the application core also clears the source's pending bit (R211, R212); when the source has
pulsed in this cycle on the pending bit, the claim clears the value from before and the bit ends 1 without an overrun
count (R215). -/
def State.readClaim (s : State) (m : Master) : Word × State :=
  match m, s.intBest with
  | .core, some n =>
    (s.intTop, if (mapGet s.fab.ovr n).isSome then s.undoOverrun n else s.setB (Reg.INTC_PEND (n / 32)) (n % 32) false)
  | _, _ => (s.intTop, s)

/-- INTC_CLAIM: the read answers the master (R211, R212). -/
def execIntcClaim (m : Master) (s : State) : Out :=
  if s.locked m then .next s.answerError else
  let r := s.readClaim m
  .next (r.2.answer r.1)

end Sys2Proof.Machine
end

