-- ==== Sys2Proof/Machine/Actions.lean ====
section
/-! DEFINITION. The action table (06). -/

namespace Sys2Proof.Machine

/-- An action-table entry. -/
def State.entry (s : State) (i : Nat) : ActEntry := (mapGet s.act.entries i).getD {}

/-- Replace an entry. -/
def State.setEntry (s : State) (i : Nat) (e : ActEntry) : State :=
  { s with act := { s.act with entries := mapPut {} s.act.entries i e } }

/-- The ARMED entries, rising. -/
def State.armed (s : State) : List Nat := (s.act.entries.filter (fun p => p.2.state == .armed)).map (·.1)

/-- The lowest FREE entry, as ACT_FREE_IDX reads it. -/
def State.freeIdx (s : State) : Word :=
  match (List.range 512).find? (fun i => (s.entry i).state == .free) with
  | some i => word i
  | none => 0x80000000

/-- The code of a state in the entry's CTRL word (R170). -/
def actStateCode : ActState → Nat
  | .free => 0 | .armed => 1 | .fired => 2 | .withdrawn => 3

/-- Word `w` of an entry (R170). -/
def State.entryWord (s : State) (i w : Nat) : Word :=
  let e := s.entry i
  match w with
  | 0 => word e.at_
  | 1 => word (e.at_ / 2 ^ 32)
  | 2 => word e.rep
  | _ => word (e.chan + actStateCode e.state * 2 ^ 8 + b2n e.late * 2 ^ 10 + b2n e.tmpl * 2 ^ 11 + e.skipped * 2 ^ 16)

/-- A firing: the channel's pulse, the FIRED bit, the group's event at most once per PERCLK cycle (R173), LATE and its
count (R175); a single entry becomes FIRED, a repeating one takes its earliest instant after the firing (R176), or is
WITHDRAWN where a cancel came in the cycle that reached the instant (R182). -/
def State.fireEntry (s : State) (i : Nat) (late : Bool) : State :=
  let e := s.entry i
  let s1 := (s.fireChannel e.chan).setB (Reg.ACT_FIRED (i / 32)) (i % 32) true
  let g := i / 32
  let s2 := s1.eventIf (s.bit Reg.ACT_EVEN g && !s1.fab.pulses.contains (16 + g)) (16 + g)
  let s3 := if late then s2.satAdd Reg.ACT_COUNTS 0 16 else s2
  if e.rep = 0 then s3.setEntry i { e with state := .fired, late := late, passed := false, ending := false }
  else if e.ending then
    (s3.setEntry i { e with state := .withdrawn, late := late, passed := false, ending := false }).satAdd Reg.ACT_WITHDRAWN_COUNT 0 16
  else
    let k := (since s.chron.now e.at_).toNat / (e.rep * 1024) + 1
    s3.setEntry i { e with
      at_ := instant (e.at_ + k * e.rep * 1024), late := late, passed := false,
      skipped := min (e.skipped + (k - 1)) 255 }

/-- The entries that wait for the catch-up and are still ARMED. -/
def State.catchUpLeft (s : State) : List Nat := s.act.catchUp.filter (fun i => (s.entry i).state == .armed)

/-- A firing of an entry now is LATE: its instant had passed at the arm, or lies more than 3 SYSCLK cycles back, of which
a ROOT cycle has two on the PLL and one in bypass (R175). -/
def State.lateNow (s : State) (i : Nat) : Bool :=
  (s.entry i).passed || decide ((if s.bit Reg.CLK_STATUS 0 then 1 else 3) < since s.chron.now (s.entry i).at_)

/-- ACTION_FIRE: every ARMED entry whose instant is reached fires (R174), LATE as R175 says; nothing fires during a
catch-up (R184) or in sleep. -/
def execActionFire (s : State) : Out :=
  if s.asleep || !s.catchUpLeft.isEmpty then .next s
  else .next ((s.armed.filter (fun i => s.reached (s.entry i).at_)).foldl (fun t i => t.fireEntry i (s.lateNow i)) s)

/-- ACTION_CATCH_UP: the earliest of the skipped instants fires, LATE, with every skipped entry of that instant
(R183). -/
def execActionCatchUp (s : State) : Out :=
  let left := s.catchUpLeft
  let first := left.foldl (fun (b : Option Int) i =>
    let d := since s.chron.now (s.entry i).at_
    match b with
    | none => some d
    | some x => some (max x d)) none
  let now := left.filter (fun i => some (since s.chron.now (s.entry i).at_) == first)
  let s1 := now.foldl (fun t i => t.fireEntry i true) s
  .next { s1 with act := { s1.act with catchUp := left.filter (fun i => !now.contains i) } }

/-- The outcome of an action command in ACT_RESULT (R180). -/
def State.actResult (s : State) (m : Master) (cmd i code : Nat) : State :=
  s.wr Reg.ACT_RESULT (word (code + cmd * 2 ^ 4 + masterId m * 2 ^ 8 + i * 2 ^ 16))

/-- An entry with one of its words written, where the word has RW fields (R170). -/
def ActEntry.withWord (e : ActEntry) (w : Fin 4) (v : Word) : ActEntry :=
  match w with
  | 0 => { e with at_ := e.at_ / 2 ^ 32 * 2 ^ 32 + v.toNat }
  | 1 => { e with at_ := fld v 0 26 * 2 ^ 32 + e.at_ % 2 ^ 32 }
  | 2 => { e with rep := v.toNat }
  | 3 => { e with chan := fld v 0 7 }

/-- What an ARM or TMPL of another master found at an entry in the running cycle; none: none came. -/
def State.armMark (s : State) (m : Master) (i : Nat) : Option Nat :=
  (s.cyc.armed.find? (fun p => p.1 == i && p.2.1 != m)).map (·.2.2)

/-- The master other than `m` whose cancel met a free or armed entry in the running cycle. -/
def State.cancelMark (s : State) (m : Master) (i : Nat) : Option Master :=
  (s.cyc.cancelled.find? (fun p => p.1 == i && p.2 != m)).map (·.2)

/-- An ARM or TMPL has met an entry in the running cycle. -/
def State.markArm (s : State) (m : Master) (i kind : Nat) : State :=
  { s with cyc := { s.cyc with armed := (i, m, kind) :: s.cyc.armed } }

/-- A cancel has met a free or armed entry in the running cycle. -/
def State.markCancel (s : State) (m : Master) (i : Nat) : State :=
  { s with cyc := { s.cyc with cancelled := (i, m) :: s.cyc.cancelled } }

/-- An entry is WITHDRAWN and counted; it no longer waits for a catch-up (R177, R183). -/
def State.withdraw (s : State) (i : Nat) : State :=
  let s1 := (s.setEntry i { s.entry i with state := .withdrawn, ending := false }).satAdd Reg.ACT_WITHDRAWN_COUNT 0 16
  { s1 with act := { s1.act with catchUp := s1.act.catchUp.filter (· != i) } }

/-- ACTION_ENTRY_WRITE: a word of an entry that is not ARMED takes its RW fields; writes to an ARMED entry are ignored
and counted (R170, R171). A write in the cycle in which another master arms the entry takes effect first: the arm uses the
written value, and a TMPL puts its own in its place (R186). -/
def execActionEntryWrite (m : Master) (i : Fin 512) (w : Fin 4) (v : Word) (s : State) : Out :=
  if s.locked m then .next s.answerError else
  let e := s.entry i
  if e.state == .armed then
    match s.armMark m i with
    | some 1 =>
      let e1 := e.withWord w v
      .next (s.setEntry i { e1 with passed := s.passed e1.at_ })
    | some 2 => .next s
    | _ => .next (s.satAdd Reg.ACT_COUNTS 16 16)
  else .next (s.setEntry i (e.withWord w v))

/-- An ARM or TMPL of an entry that another master cancels in the same cycle: the cancel wins. The entry ends WITHDRAWN, and
ACT_RESULT holds the cancel with OK (R181). -/
def State.armCancelled (s : State) (by_ : Master) (i : Nat) : State :=
  (if (s.entry i).state == .withdrawn then s else s.withdraw i).actResult by_ 1 i 0

/-- An entry that is FREE is armed, with LATE, TMPL and SKIPPED cleared (R172). -/
def State.armEntry (s : State) (i : Nat) (e : ActEntry) : State :=
  s.setEntry i { e with state := .armed, late := false, skipped := 0, passed := s.passed e.at_, ending := false }

/-- ACT_ARM: FREE to ARMED with LATE, TMPL and SKIPPED cleared, or NOT_FREE (R172); a cancel of another master in the same
cycle wins (R181). -/
def execActArm (m : Master) (v : Word) (s : State) : Out :=
  if s.locked m then .next s.answerError else
  let i := fld v 0 9
  let e := s.entry i
  match s.cancelMark m i with
  | some c => .next ((if e.state == .free then s.setEntry i { e with late := false, tmpl := false, skipped := 0 } else s).armCancelled c i)
  | none =>
    if e.state == .free then .next (((s.armEntry i { e with tmpl := false }).markArm m i 1).actResult m 0 i 0)
    else .next ((if e.state == .armed then s.markArm m i 0 else s).actResult m 0 i 1)

/-- ACT_CANCEL: an ARMED entry is WITHDRAWN and counted (R177), also where another master arms it in the same cycle (R181).
In the cycle in which the instant is reached the entry fires and the cancel returns TOO_LATE, a repeating entry ending
WITHDRAWN with the count (R182); while skipped entries still fire, it fires after them (R184). -/
def execActCancel (m : Master) (v : Word) (s : State) : Out :=
  if s.locked m then .next s.answerError else
  let i := fld v 0 9
  let e := s.entry i
  match e.state with
  | .armed =>
    if (s.armMark m i).isSome then .next ((s.withdraw i).actResult m 1 i 0)
    else if s.reached e.at_ && !e.passed && !s.asleep && !s.catchUpLeft.contains i && s.catchUpLeft.isEmpty then
      .next (((s.setEntry i { e with ending := true }).fireEntry i (s.lateNow i)).actResult m 1 i 3)
    else if e.ending || (since s.chron.now e.at_ == 0 && !e.passed && !s.asleep && !s.catchUpLeft.contains i) then
      .next ((s.setEntry i { e with ending := true }).actResult m 1 i 3)
    else .next (((s.withdraw i).markCancel m i).actResult m 1 i 0)
  | .fired => .next (s.actResult m 1 i 3)
  | .free => .next ((s.markCancel m i).actResult m 1 i 2)
  | .withdrawn => .next (s.actResult m 1 i 2)

/-- ACT_RELEASE: FIRED or WITHDRAWN to FREE; STILL_ARMED for an ARMED entry (R178). -/
def execActRelease (m : Master) (v : Word) (s : State) : Out :=
  if s.locked m then .next s.answerError else
  let i := fld v 0 9
  let e := s.entry i
  match e.state with
  | .armed => .next (s.actResult m 2 i 4)
  | .free => .next (s.actResult m 2 i 0)
  | .fired => .next ((s.setEntry i { e with state := .free }).actResult m 2 i 0)
  | .withdrawn => .next ((s.setEntry i { e with state := .free }).actResult m 2 i 0)

/-- ACT_TMPL: a FREE entry is armed from a template at ACT_BASE + OFFSET ticks; NOT_FREE comes before BAD_TEMPLATE
(R179); a cancel of another master in the same cycle wins (R181). A TMPL that finds no template is no arm. -/
def execActTmpl (m : Master) (v : Word) (s : State) : Out :=
  if s.locked m then .next s.answerError else
  let i := fld v 0 9
  let e := s.entry i
  if e.state == .free then
    match s.act.templates.find? (fun t => t.id == fld v 16 5) with
    | none => .next (s.actResult m 3 i 5)
    | some t =>
      let at_ := unsigned 58 (s.rdInstant Reg.ACT_BASE_LO Reg.ACT_BASE_HI + t.offset * 1024)
      let s1 := s.armEntry i { e with at_ := at_, rep := t.rep, chan := t.chan, tmpl := true }
      match s.cancelMark m i with
      | some c => .next (s1.armCancelled c i)
      | none => .next ((s1.markArm m i 2).actResult m 3 i 0)
  else match e.state, s.cancelMark m i with
    | .withdrawn, some c => .next (s.armCancelled c i)
    | .armed, _ => .next ((s.markArm m i 0).actResult m 3 i 1)
    | _, _ => .next (s.actResult m 3 i 1)

/-- The entries a forward step from `old` carries the chronicle past: they wait for the catch-up (R155, R183). -/
def State.skipActions (s : State) (old : Nat) : State :=
  let skipped := s.armed.filter (fun i =>
    s.reached (s.entry i).at_ && decide (since old (s.entry i).at_ < 0) && !s.act.catchUp.contains i)
  { s with act := { s.act with catchUp := s.act.catchUp ++ skipped } }

end Sys2Proof.Machine
end

