-- ==== Sys2Proof/Machine/Chron.lean ====
section
/-! DEFINITION. Clocks and the chronicle: SYSCLK selection, the crystal monitors, rate, beacon capture and guard (05). -/

namespace Sys2Proof.Machine

/-! ### SYSCLK and the monitors -/

/-- SYSCLK follows the core PLL when it is locked, AUTO is 1 and FORCE_BYPASS is 0; FORCE_BYPASS takes it back to ROOT;
clearing AUTO leaves it (R133). -/
def State.selectSysclk (s : State) : State :=
  if s.bit Reg.CLK_CTRL 1 then s.setB Reg.CLK_STATUS 0 false
  else if s.bit Reg.CLK_STATUS 1 && s.bit Reg.CLK_CTRL 0 then s.setB Reg.CLK_STATUS 0 true
  else s

/-- CLK_CTRL_WRITE (R133). -/
def execClkCtrlWrite (v : Word) (s : State) : Out := .next ((s.wrF Reg.CLK_CTRL 0 2 (fld v 0 2)).selectSysclk)

/-- CORE_PLL_LOCK (R133). -/
def execCorePllLock (s : State) : Out := .next ((s.setB Reg.CLK_STATUS 1 true).selectSysclk)

/-- CORE_PLL_LOCK_LOSS: SYSCLK on ROOT, the loss counted, event 2, a recoverable slip (R135). A PLL that has not locked
loses nothing. -/
def execCorePllLockLoss (s : State) : Out :=
  if s.bit Reg.CLK_STATUS 1 then
    .next (((((s.wrF Reg.CLK_STATUS 0 2 0).satAdd Reg.CLK_MON 16 8).event 2).slip 3 0x07 1 0))
  else .next s

/-- SLOW_FAIL: no sleep-crystal edge within 2,048 root cycles while awake (R137). -/
def execSlowFail (s : State) : Out :=
  if s.asleep || s.bit Reg.CLK_STATUS 3 then .next s
  else .next ((s.setB Reg.CLK_STATUS 3 true).event 2)

/-- TICK_MONITOR_EXPIRY: in Nap and Hibernate the loop pins and wake pads are watched without a clock (R676). -/
def execTickMonitorExpiry (s : State) : Out :=
  if s.asleep then .next { s with chron := { s.chron with clockless := true } } else .next s

/-- The nearest integer to n / d, halves away from zero. -/
def roundDiv (n : Int) (d : Nat) : Int :=
  if 0 ≤ n then (2 * n + d) / (2 * d) else -((-2 * n + d) / (2 * d))

/-- Periods per sleep-crystal measurement (CHRON_SLEEP_WIN). -/
def State.sleepWin (s : State) : Nat :=
  let n := s.rdF Reg.CHRON_SLEEP_WIN 0 19
  if 3000 ≤ n && n ≤ 300000 then n else 30000

/-- SLEEP_MEASUREMENT_DONE: the sum of root cycles over N periods gives CHRON_SLEEP_ADJ (R143). -/
def execSleepMeasurementDone (count : Nat) (s : State) : Out :=
  let n := s.sleepWin
  let adj := clampSigned 24 (roundDiv ((count - 1024 * n : Int) * 2 ^ 22) n)
  .next ((s.wrF Reg.CHRON_SLEEP_ADJ 0 24 (unsigned 24 adj)).setB Reg.CHRON_SLEEP_ADJ 31 true)

/-! ### Rate and trim -/

/-- The signed CHRON_RATE. -/
def State.rate (s : State) : Int := signed 24 (s.rdF Reg.CHRON_RATE 0 24)

/-- The signed CHRON_SLEEP_ADJ, zero until the first measurement. -/
def State.sleepAdj (s : State) : Int :=
  if s.bit Reg.CHRON_SLEEP_ADJ 31 then signed 24 (s.rdF Reg.CHRON_SLEEP_ADJ 0 24) else 0

/-- The engine copies CHRON_RATE to the synthesiser at each change of it, once synchronised and measured (R292). -/
def State.synthFollow (s : State) : State :=
  if s.bit Reg.CAL_CTRL 3 && s.bit Reg.CHRON_STATUS 0 && s.bit Reg.CHRON_SLEEP_ADJ 31 then
    s.wrF Reg.RADIO_SYNTH_OFS 0 24 (s.rdF Reg.CHRON_RATE 0 24)
  else s

/-- Set CHRON_RATE, the synthesiser following a change. -/
def State.setRate (s : State) (r : Int) : State :=
  let s1 := s.wrF Reg.CHRON_RATE 0 24 (unsigned 24 r)
  if s1.rate = s.rate then s1 else s1.synthFollow

/-- CHRON_RATE_WRITE: the write takes effect, and a hardware update of the running cycle is discarded (R158). -/
def execChronRateWrite (v : Word) (s : State) : Out :=
  let s1 := s.setRate (signed 24 (fld v 0 24))
  .next { s1 with chron := { s1.chron with rateW := true } }

/-- The trim accumulator takes CHRON_RATE at a tick, and in sleep CHRON_SLEEP_ADJ too (R142). -/
def State.accTick (s : State) : State :=
  { s with chron := { s.chron with acc := s.chron.acc + s.rate + (if s.asleep then s.sleepAdj else 0) } }

/-- The chronicle advances by fraction steps; a tick that it passes is the accumulator's (R139, R142). -/
def State.advance (s : State) (n : Nat) : State :=
  let s1 : State := { s with chron := { s.chron with now := instant (s.chron.now + n) } }
  if 1024 ≤ s.chron.now % 1024 + n then s1.accTick else s1

/-- One trim correction: past +2^22 the accumulator gives one fraction step, past -2^22 it takes one, and it keeps the
remainder (R142). While the part is awake a step given may complete a tick, and a step taken holds the fraction for one
ROOT cycle to come; in sleep, where an edge alone makes a tick (R140), either changes the instant at once. -/
def State.trim (s : State) : State :=
  if (2 ^ 22 : Int) ≤ s.chron.acc then
    let c := { s.chron with acc := s.chron.acc - 2 ^ 22 }
    if s.asleep then { s with chron := { c with now := instant (c.now + 1) } } else { s with chron := c }.advance 1
  else if s.chron.acc ≤ -(2 ^ 22 : Int) then
    let c := { s.chron with acc := s.chron.acc + 2 ^ 22 }
    { s with chron := if s.asleep then { c with now := instant (c.now + (2 ^ 58 - 1)) } else { c with lag := c.lag + 1 } }
  else s

/-- CHRONICLE_TRIM_STEP: the accumulator has crossed ±2^22 (R142). -/
def execChronicleTrimStep (s : State) : Out := .next s.trim

/-! ### Beacon discipline -/

/-- A flag of CHRON_STATUS [19:16] is set, with event 3 when it becomes 1 and is enabled (R160). -/
def State.chronFlag (s : State) (k : Nat) : State :=
  (s.setB Reg.CHRON_STATUS (16 + k) true).eventIf
    (!s.bit Reg.CHRON_STATUS (16 + k) && s.bit Reg.CHRON_EVEN k) 3

/-- The rate update of R150 for an offset and an interval in ticks. An interval of 0 ticks has no stated result: the
sum is then a free value (notes/assumptions/9.md). -/
def State.rateUpdate (s : State) (theta : Int) (delta : Nat) : State :=
  let q := (roundDiv (theta * 2 ^ 22) delta).tdiv (2 ^ s.rdF Reg.CHRON_DISC 1 3 : Nat)
  let sum := if delta = 0 then signed 24 (Config.freeNat s.freeCtr) else s.rate + q
  let s1 := if delta = 0 then { s with freeCtr := s.freeCtr + 1 } else s
  let c := max (-(2 ^ 23 - 1)) (min sum (2 ^ 23 - 1))
  (s1.setRate c).wrF Reg.CHRON_STATUS 3 1 (b2n (c != sum || s.bit Reg.CHRON_STATUS 3))

/-- The interval since the previous captured beacon, in ticks. The previous instant moves with every phase step, so
that the interval is the time that passed (DEDUCED, notes/assumptions/9.md). -/
def State.beaconDelta (s : State) (rx : Nat) : Nat :=
  match s.chron.lastRx with
  | some p => (since rx p).toNat / 1024
  | none => 0

/-- The registers of a capture: the two instants, θ, Δ and the sequence number (R148). -/
def State.captureRegs (s : State) (tx rx : Nat) (theta : Int) : State :=
  ((((s.wrInstant Reg.CHRON_BCN_TX_LO Reg.CHRON_BCN_TX_HI tx).wrInstant Reg.CHRON_BCN_RX_LO Reg.CHRON_BCN_RX_HI rx).wr
    Reg.CHRON_OFFSET (word (unsigned 32 theta))).wrF Reg.CHRON_BCN_SEQ 16 16 (min (s.beaconDelta rx) 65535)).wrF
    Reg.CHRON_BCN_SEQ 0 16 (s.rdF Reg.CHRON_BCN_SEQ 0 16 + 1)

/-- Discipline acts: CHRON_DISC.EN is 1 and no software step is pending (R157). -/
def State.disciplined (s : State) : Bool := s.bit Reg.CHRON_DISC 0 && !s.bit Reg.CHRON_STEP_CTRL 8

/-- A captured beacon is applied as a phase step (R149, R151). -/
def State.beaconApplies (s : State) (tx rx : Nat) : Bool :=
  s.disciplined && (!s.bit Reg.CHRON_STATUS 0 ||
    decide ((clampSigned 32 (since tx rx)).natAbs ≤ s.rdF Reg.CHRON_DISC 16 16))

/-- What CHRON does with a capture: BIG above STEP_LIMIT (R152); the first beacon as it stands (R151); a step otherwise
(R149); no step while a software step is pending (R157). -/
def State.discipline (s : State) (theta : Int) : State :=
  if s.bit Reg.CHRON_STATUS 0 then
    if (s.rdF Reg.CHRON_DISC 16 16 : Int) < theta.natAbs then (s.setB Reg.CHRON_STATUS 1 true).chronFlag 1
    else
      let s1 := s.setB Reg.CHRON_STATUS 1 false
      if s.disciplined then
        ({ s1 with chron := { s1.chron with discStep := some theta } }).setB Reg.CHRON_STATUS 2 false
      else s1
  else if s.disciplined then
    ({ s with chron := { s.chron with discStep := some theta } }).wrF Reg.CHRON_STATUS 0 3 1
  else s.setB Reg.CHRON_STATUS 1 false

/-- BEACON_CAPTURE (R148): capture, discipline, the rate update that no software write of this cycle discards (R150, R158),
and the origin for the next interval. -/
def State.captureBeacon (s : State) (tx rx : Nat) : State :=
  let theta := clampSigned 32 (since tx rx)
  let delta := s.beaconDelta rx
  let pending := s.bit Reg.CHRON_STEP_CTRL 8
  let s1 := ((s.captureRegs tx rx theta).chronFlag 0).discipline theta
  let rateOk := s.disciplined && !s.chron.stepHold && !s.chron.rateW && s.bit Reg.CHRON_STATUS 0 &&
    s.chron.prevSynced && s.chron.lastRx.isSome && decide (theta.natAbs ≤ s.rdF Reg.CHRON_DISC 16 16)
  let s2 := if rateOk then s1.rateUpdate theta delta else s1
  { s2 with chron := { s2.chron with 
      lastRx := some rx,
      prevSynced := s2.bit Reg.CHRON_STATUS 0,
      stepHold := s.chron.stepHold && pending } }

/-- CHRON_RESYNC: SYNCED is cleared, and the next beacon is taken as a first beacon (R152). -/
def execChronResync (s : State) : Out :=
  .next (({ s with chron := { s.chron with lastRx := none, prevSynced := false } }).setB Reg.CHRON_STATUS 0 false)

/-! ### Guard time -/

/-- The guard g for a window that opens at an instant, in fraction steps, rounded up (R153); Δt is 0 while no beacon
has been captured (R154). -/
def State.guardAt (s : State) (openAt : Nat) : Nat :=
  let dt := match s.chron.lastRx with
    | some p => (since openAt p).toNat
    | none => 0
  (2 * s.rdF Reg.CHRON_EPS 0 16 * dt + 999999999) / 1000000000 + 3 * 1024

/-- What CHRON_GUARD reads; a guard wider than the field has no stated reading (notes/assumptions/9.md). -/
def State.guardNow (s : State) : Nat :=
  let g := s.guardAt s.chron.now
  if g < 2 ^ 24 then g else Config.freeNat g % 2 ^ 24

end Sys2Proof.Machine
end

