-- ==== Sys2Proof/Machine/Pads.lean ====
section
/-! DEFINITION. The pads: the pin map in force, what drives each GPIO pin's pad, its level, and the edge logic (18, 19). -/

namespace Sys2Proof.Machine

/-- GPIO pins of the variant (R632). -/
def State.pinCount (s : State) : Nat :=
  match s.variant with
  | .anchor => 40 | .label => 18 | .keeper => 24

/-- The package pad of a GPIO pin (R632). -/
def Variant.padOf (v : Variant) (n : Nat) : Nat :=
  match v with
  | .anchor => 33 + n
  | .label => if n < 2 then 19 + n else 23 + n
  | .keeper => if n < 2 then 21 + n else 25 + n

/-- The GPIO pin of a package pad, none for a pad that is not multiplexed (R632). -/
def State.pinOf (s : State) (pad : Nat) : Option Nat :=
  (List.range s.pinCount).find? (fun n => s.variant.padOf n == pad)

/-- The entries of the pin map in force: PAD, FUNC, CFG (02, section 0x02). -/
def pinEntries (sec : List Byte) : List (Nat × Nat × Nat) :=
  (List.range (field sec 0 1)).map (fun i =>
    (field sec (4 + 4 * i) 1, field sec (5 + 4 * i) 1, field sec (6 + 4 * i) 1))

/-- The pin-map entry of a GPIO pin. -/
def State.pinEntry (s : State) (n : Nat) : Option (Nat × Nat × Nat) :=
  (pinEntries (s.sec 2)).find? (fun e => e.1 == s.variant.padOf n)

/-- FUNC of a GPIO pin; 0 none. -/
def State.pinFunc (s : State) (n : Nat) : Nat := match s.pinEntry n with | some e => e.2.1 | none => 0

/-- CFG of a GPIO pin. -/
def State.pinCfg (s : State) (n : Nat) : Nat := match s.pinEntry n with | some e => e.2.2 | none => 0

/-- The GPIO pin that carries a function. -/
def State.funcPin (s : State) (f : Nat) : Option Nat := (List.range s.pinCount).find? (fun n => s.pinFunc n == f)

/-- Every one of some functions is carried by a pad; an input that no pad carries reads its inactive level, and an output that
none carries goes nowhere (R636). -/
def State.wired (s : State) (fs : List Nat) : Bool := fs.all (fun f => (s.funcPin f).isSome)

/-- The wake bit of a pin's pin-map entry (R640). -/
def State.pinWakes (s : State) (n : Nat) : Bool := (s.pinCfg n).testBit 5

/-- A pin is a GPIO-function pin of this variant. -/
def State.isGpio (s : State) (n : Nat) : Bool := decide (n < s.pinCount) && s.pinFunc n == 1

/-- The level at which the release unit drives a pad (R518, R638): from a channel's first START after a reset, POL while
HELD and the other level otherwise. -/
def State.lockLevel (s : State) (pad : Nat) : Option Bool :=
  ([0, 1].filter (fun ch => s.rdF (Reg.REL_CH_POLICY ch) 0 2 != 0 && s.bit (Reg.REL_CH_POLICY ch) 3 &&
      s.rdF (Reg.REL_CH_POLICY ch) 24 7 == pad && s.rel.started.contains ch && !s.bit Reg.REL_CTRL 1)).head?.map
    (fun ch => (s.rdF (Reg.REL_CH_STATUS ch) 0 2 == 2) == s.bit (Reg.REL_CH_CFG ch) 14)

/-- The HIF_IRQ pad's level (R576). -/
def State.hifIrq (s : State) : Bool := s.rd Reg.HIF_IRQ_PEND &&& s.rd Reg.HIF_IRQ_MASK != 0

/-- What the pin's configured function drives onto its pad: GPIO (R622), the release unit's lock pad, HIF_IRQ, panel
power, and the idle levels of the serial outputs; none for a pad that the part does not drive, as the SDO of a target while
its CS is high (19, "Function codes"). The levels of a controller's SDO and of the panel's SCK, SDA, CS and DC between
bytes are not stated: bit `n` of a free number. -/
def State.padFunc (s : State) (free n : Nat) : Option Bool :=
  if s.enabled 7 && n < 2 then (if n = 0 then some true else none)
  else match s.pinFunc n with
  | 0x01 =>
    match s.lockLevel (s.variant.padOf n) with
    | some v => some v
    | none => if s.bit (Reg.GPIO_OE (n / 32)) (n % 32) then some (s.bit (Reg.GPIO_OUT (n / 32)) (n % 32)) else none
  | 0x10 => if s.bit (Reg.SPI_CFG 0) 0 then none else some (s.bit (Reg.SPI_CFG 0) 2)
  | 0x11 => if s.bit (Reg.SPI_CFG 0) 0 then none else some (free.testBit n)
  | 0x14 => if s.bit (Reg.SPI_CFG 1) 0 then none else some (s.bit (Reg.SPI_CFG 1) 2)
  | 0x15 => if s.bit (Reg.SPI_CFG 1) 0 then none else some (free.testBit n)
  | 0x13 => if s.bit (Reg.SPI_CFG 0) 0 then none else some !(s.bit (Reg.SPI_STATUS 0) 0 && s.bit (Reg.SPI_CFG 0) 16)
  | 0x17 => if s.bit (Reg.SPI_CFG 1) 0 then none else some !(s.bit (Reg.SPI_STATUS 1) 0 && s.bit (Reg.SPI_CFG 1) 16)
  | 0x1C => some true
  | 0x1E => some true
  | 0x24 => some s.hifIrq
  | 0x30 => some (free.testBit n)
  | 0x31 => some (free.testBit n)
  | 0x32 => some (free.testBit n)
  | 0x33 => some (free.testBit n)
  | 0x35 => some (s.bit Reg.PANEL_STATUS 2)
  | 0x40 => some true
  | 0x41 => some true
  | _ => none

/-- What the pads are held at, when they are: latched in sleep (R121), under GPIO_HOLD by the last warm reset (R70, R71). -/
def State.heldPads (s : State) : Option (List (Nat × PadHold)) :=
  if s.asleep then some s.pwr.padLatch else if s.bit Reg.GPIO_HOLD 0 then some s.boot.padHold else none

/-- What the part drives onto a pad: the held value, or the function's; in annex mode only GP0 is driven, high (R95). -/
def State.padOut (s : State) (free n : Nat) : Option Bool :=
  if s.boot.phase == .annex then (if n = 0 then some true else none)
  else match s.heldPads with
    | some l => ((mapGet l n).getD {}).out
    | none => s.padFunc free n

/-- The pull, drive and slew of a pad: the held ones, or the pin map's; off in annex mode (R641). -/
def State.padCfg (s : State) (n : Nat) : Nat :=
  if s.boot.phase == .annex then 0
  else match s.heldPads with
    | some l => ((mapGet l n).getD {}).cfg
    | none => s.pinCfg n % 32

/-- The level that a pull gives a pad. -/
def State.padPull (s : State) (n : Nat) : Option Bool :=
  match s.padCfg n % 4 with | 1 => some true | 2 => some false | _ => none

/-- The level of a pad (R622, R639): an AIN pad reads 0; a pad driven from both sides against each other, and a pad that
nothing drives and no pull holds, have no stated level: bit `n` of a free number. -/
def State.padLevel (s : State) (free n : Nat) : Bool :=
  if 0x48 ≤ s.pinFunc n && s.pinFunc n < 0x50 then false
  else match s.padOut free n, mapGet s.ser.pads n with
    | some v, some w => if v = w then v else free.testBit n
    | some v, none => v
    | none, some w => w
    | none, none => (s.padPull n).getD (free.testBit n)

/-- What every pad is held at when a warm reset or a sleep starts: its output, and its pull and drive (R70, R121). -/
def State.captureHold (s : State) (free : Nat) : List (Nat × PadHold) :=
  (List.range s.pinCount).filterMap (fun n =>
    let h : PadHold := { out := s.padOut free n, cfg := s.padCfg n }
    if h = {} then none else some (n, h))

/-- The EDGE setting of a pin: 0 none, 1 rising, 2 falling, 3 both. -/
def State.edgeSetting (s : State) (n : Nat) : Nat := s.rdF (Reg.GPIO_EDGE (n / 16)) (2 * (n % 16)) 2

/-- A change to a level matches a pin's EDGE setting. -/
def State.edgeMatches (s : State) (n : Nat) (level : Bool) : Bool := (s.edgeSetting n).testBit (if level then 0 else 1)

/-- A pulse of a source toward cells 28 to 31 alone, as in sleep (R205, R624). -/
def State.pulse (s : State) (n : Nat) : State :=
  { s with fab := { s.fab with pulses := if s.fab.pulses.contains n then s.fab.pulses else s.fab.pulses ++ [n] } }

/-- A wake pad wakes the part; the lowest pad is kept (R640, PWR_WAKE_CAUSE.PADNUM). -/
def State.padWake (s : State) (n : Nat) : State :=
  let pad := s.variant.padOf n
  let s1 := s.wake 3
  { s1 with pwr := { s1.pwr with padNum := if s1.pwr.padNum = 0 then pad else min s1.pwr.padNum pad } }

/-- One sample of a pin (R622 to R624, R640): GPIO_IN takes the level; a matching edge sets the flag and raises the
group's event, in sleep toward the backup cells only, and wakes the part where the pin map says so. -/
def State.samplePin (s : State) (free n : Nat) : State :=
  let new := s.padLevel free n
  if new = s.bit (Reg.GPIO_IN (n / 32)) (n % 32) then s
  else
    let s1 := s.setB (Reg.GPIO_IN (n / 32)) (n % 32) new
    if s.ser.sampled && s.edgeMatches n new then
      let s2 := s1.setB (Reg.GPIO_FLAG (n / 32)) (n % 32) true
      let s3 := if s.asleep then s2.pulse (240 + n % 8) else s2.event (240 + n % 8)
      if s.pinWakes n then s3.padWake n else s3
    else s1

/-- The first sample since a cold reset has been taken (R680). -/
def State.markSampled (s : State) : State := { s with ser := { s.ser with sampled := true } }

/-- Every pin of the variant is sampled (R680): on each PERCLK edge while awake, at each tick in sleep (R624). The
first sample after a cold reset records no edge. -/
def State.samplePads (s : State) : State :=
  let f := s.takeFree
  ((List.range s.pinCount).foldl (fun t n => t.samplePin f.1 n) f.2).markSampled

end Sys2Proof.Machine
end

