-- ==== Sys2Proof/Machine/Store.lean ====
section
/-! DEFINITION. The store die: words, sectors and their maps, long operations and their folios, store commands, line
reads, patrol, and the page store (13). -/

namespace Sys2Proof.Machine

/-! ### Geometry and words -/

/-- The number of sectors (R403, R434). -/
def State.sectorCount (s : State) : Nat := match s.variant with | .keeper => 2048 | _ => 4096

/-- The first sector of the spare pool. -/
def State.spareBase (s : State) : Nat := match s.variant with | .keeper => 1952 | _ => 4000

/-- The sector lies in the spare range, which is not addressable (R407). -/
def State.inSpares (s : State) (l : Nat) : Bool := s.spareBase ≤ l && l < s.spareBase + 64

/-- The sector lies in the colophon (R406). -/
def State.inColophon (s : State) (l : Nat) : Bool := s.spareBase + 64 ≤ l && l < s.sectorCount

/-- The map entry of a logical sector: the grown map's, else the factory's (R429). -/
def State.mapEntry (s : State) (l : Nat) : Option MapEntry :=
  match s.store.map.find? (fun e => e.logical == l) with
  | some e => some e
  | none => s.store.factory.find? (fun e => e.logical == l)

/-- The physical sector of a logical sector (R429). -/
def State.physOf (s : State) (l : Nat) : Nat :=
  match s.mapEntry l with
  | some e => e.physical
  | none => l

/-- The logical sector that a physical sector holds, if any. -/
def State.logicalOf (s : State) (p : Nat) : Option Nat :=
  match (s.store.map ++ s.store.factory).find? (fun e => e.physical == p && s.physOf e.logical == p) with
  | some e => some e.logical
  | none => if s.physOf p == p && !s.inSpares p then some p else none

/-- A stored word. -/
def State.flashAt (s : State) (p i : Nat) : FlashWord := (mapGet s.store.flash (256 * p + i)).getD {}

/-- Replace a stored word. -/
def State.setFlash (s : State) (p i : Nat) (w : FlashWord) : State :=
  { s with store := { s.store with flash := mapPut {} s.store.flash (256 * p + i) w } }

/-- Every word of a physical sector is erased (R408, R678). -/
def State.eraseFlash (s : State) (p : Nat) : State :=
  { s with store := { s.store with flash := s.store.flash.filter (fun e => e.1 / 256 != p) } }

/-- A word as a read finds it: an undefined word reads as free values do (R426). -/
def FlashWord.seen (w : FlashWord) : FlashWord :=
  match w.ecc with
  | .undef tag =>
    { data := BitVec.ofNat 64 (Config.freeNat tag),
      ecc := match Config.freeNat (tag + 1) % 3 with | 0 => .good | 1 => .corrected | _ => .uncorr }
  | _ => w

/-- A word reads erased, check bits included (R408, R426). -/
def FlashWord.erased (w : FlashWord) : Bool :=
  w.seen.data == BitVec.allOnes 64 && (w.seen.ecc == .good || w.seen.ecc == .margin)

/-- Words of a physical sector become undefined (R426). -/
def State.spoil (s : State) (p : Nat) (is : List Nat) : State :=
  is.foldl (fun t i =>
    { (t.setFlash p i { data := 0, ecc := .undef t.freeCtr }) with freeCtr := t.freeCtr + 2 }) s

/-- The 8 bytes of a word. -/
def wordBytes (d : BitVec 64) : List Byte := leBytes 8 d.toNat

/-- Program bytes into an erased place of a physical sector, a word at a time. -/
def State.progBytes (s : State) (p i : Nat) (bytes : List Byte) : State :=
  (List.range ((bytes.length + 7) / 8)).foldl (fun t k =>
    t.setFlash p (i + k) { data := BitVec.ofNat 64 (leNat (((bytes.drop (8 * k)).take 8) ++ List.replicate (8 - (bytes.length - 8 * k)) 0xFF)) }) s

/-- Write a whole logical sector from its first byte: erase and program. -/
def State.writeSector (s : State) (l : Nat) (bytes : List Byte) : State :=
  (s.eraseFlash (s.physOf l)).progBytes (s.physOf l) 0 bytes

/-- The word of a logical byte offset as it reads. -/
def State.storeWord (s : State) (off : Nat) : FlashWord :=
  (s.flashAt (s.physOf (off / 2048)) (off % 2048 / 8)).seen

/-- The byte at a logical byte offset, ECC corrected. -/
def State.storeByte (s : State) (off : Nat) : Byte :=
  byte ((s.storeWord off).data.toNat >>> (8 * (off % 8)))

/-- Bytes of the store die from a logical byte offset. -/
def State.storeBytes (s : State) (off n : Nat) : List Byte :=
  (List.range n).map (fun i => s.storeByte (off + i))

/-- Some word of a range of bytes is uncorrectable: its offset. -/
def State.storeBad (s : State) (off n : Nat) : Option Nat :=
  ((List.range ((off % 8 + n + 7) / 8)).map (fun k => off / 8 * 8 + 8 * k)).find?
    (fun o => (s.storeWord o).ecc == .uncorr)

/-! ### Records in the front matter -/

/-- The 8 content bytes of a front-matter record at the start of a logical sector, where it can be read and its CRC-32,
which follows them, is right (R56, R86; notes/assumptions/52.md). -/
def State.frontRecord (s : State) (sector : Nat) : Option (List Byte) :=
  let off := sector * 2048
  let l := s.storeBytes off 16
  if (s.storeBad off 16).isNone && crc32 (l.take 8) == field l 8 4 then some (l.take 8) else none

/-- A front-matter record is written: its sector is erased and programmed. -/
def State.putRecord (s : State) (sector : Nat) (content : List Byte) : State :=
  s.writeSector sector (content ++ leBytes 4 (crc32 content) ++ [0, 0, 0, 0])

/-- A copy of the active-slot record, in sectors 2 and 3; none without a valid CRC (R56). -/
def State.slotCopy (s : State) (k : Nat) : Option SlotRecord :=
  (s.frontRecord (2 + k)).map (fun l => { seq := field l 0 4, cat := (field l 4 1).testBit 0, app := (field l 4 1).testBit 1 })

/-- Copy 0 holds the record: it is valid, and the other is not or is older. -/
def State.firstCopy (s : State) : Bool :=
  match s.slotCopy 0, s.slotCopy 1 with
  | some a, some b => decide (b.seq < a.seq)
  | some _, none => true
  | none, _ => false

/-- The active-slot record: the valid copy with the higher sequence number; slot A for both when neither is valid (R56,
R78). -/
def State.record (s : State) : SlotRecord :=
  ((if s.firstCopy then s.slotCopy 0 else s.slotCopy 1)).getD {}

/-- The copy that does not hold the record takes a new one (R57). -/
def State.putSlots (s : State) (r : SlotRecord) : State :=
  s.putRecord (if s.firstCopy then 3 else 2) (leBytes 4 r.seq ++ [byte (b2n r.cat + b2n r.app * 2), 0, 0, 0])

/-- A reset while the active-slot record is written leaves the copy being written without a valid CRC. -/
def State.tearSlots (s : State) : State := s.eraseFlash (s.physOf (if s.firstCopy then 3 else 2))

/-! ### Maps and spares -/

/-- Physical sectors that a running operation works on. -/
def State.opTargets (s : State) : List Nat :=
  s.store.ops.flatMap (fun o => o.stages.map (fun g => match g with | .prog p _ => p | .erase p => p | .switch _ p => p))

/-- The physical sectors marked bad, at the factory or since. -/
def State.badSectors (s : State) : List Nat :=
  s.store.bad ++ (s.store.factory.filter (·.bad)).map (·.logical)

/-- The free spares, rising: of the spare pool and the sectors mapped away, those that hold no logical sector, are not
bad and are not in use by an operation. -/
def State.freeSpares (s : State) : List Nat :=
  let pool := (List.range 64).map (· + s.spareBase) ++
    ((s.store.map ++ s.store.factory).filter (fun e => e.physical != e.logical && !s.inSpares e.logical)).map (·.logical)
  pool.eraseDups.filter (fun p =>
    !(s.badSectors.contains p) && !(s.opTargets.contains p) &&
    !((s.store.map ++ s.store.factory).any (fun e => e.physical == p && s.physOf e.logical == p)))

/-- The spare a plane takes: in the same plane, else in the other (R427, R438). -/
def State.pickSpare (s : State) (plane : Nat) : Option Nat :=
  match s.freeSpares.find? (fun p => p % 2 == plane) with
  | some p => some p
  | none => s.freeSpares.head?

/-- The grown map can take an entry for a logical sector. -/
def State.mapRoom (s : State) (l : Nat) : Bool :=
  s.store.map.any (fun e => e.logical == l) || s.store.map.length < 504

/-- A map entry as its 4 bytes (R429). -/
def MapEntry.bytes (e : MapEntry) : List Byte :=
  leBytes 4 (e.logical + e.physical * 2 ^ 12 + b2n e.bad * 2 ^ 24 + b2n e.refreshed * 2 ^ 25)

/-- A map entry of its 4 bytes (R429). -/
def mapEntryOf (w : Nat) : MapEntry := ⟨w % 2 ^ 12, w / 2 ^ 12 % 2 ^ 12, w.testBit 24, w.testBit 25⟩

/-- MAGIC of the factory bad-sector map and of the grown map (R430). -/
def mapMagic (grown : Bool) : List Byte := [0x4F, 0x43, 0x56, if grown then 0x47 else 0x46]

/-- A grown-map copy as the bytes of its sector (R430). -/
def MapCopy.bytes (c : MapCopy) : List Byte :=
  let body := mapMagic true ++ leBytes 4 c.seq ++ leBytes 2 c.entries.length ++ List.replicate 6 0 ++
    c.entries.flatMap MapEntry.bytes
  let full := body ++ List.replicate (2044 - body.length) 0
  full ++ leBytes 4 (crc32 full)

/-- The first bytes of a physical sector as they read. -/
def State.physBytes (s : State) (p n : Nat) : List Byte :=
  (List.range n).map (fun i => byte ((s.flashAt p (i / 8)).seen.data.toNat >>> (8 * (i % 8))))

/-- The sector map that a physical sector holds, while it can be read and its MAGIC, COUNT and CRC-32 are right (R430). -/
def State.mapCopy (s : State) (grown : Bool) (p : Nat) : Option MapCopy :=
  if s.physBytes p 4 != mapMagic grown then none
  else
    let l := s.physBytes p 2048
    let n := field l 8 2
    if 504 < n || (List.range 256).any (fun i => (s.flashAt p i).seen.ecc == .uncorr) || crc32 (l.take 2044) != field l 2044 4 then none
    else some { seq := field l 4 4, entries := (List.range n).map (fun i => mapEntryOf (field l (16 + 4 * i) 4)) }

/-- A copy of the grown map, in the two sectors after the factory map (R403). -/
def State.grownCopy (s : State) (k : Nat) : Option MapCopy := s.mapCopy true (s.spareBase + 67 + k)

/-- The first copy of the grown map is older than the second, or invalid. -/
def State.firstOlder (s : State) : Bool :=
  match s.grownCopy 0, s.grownCopy 1 with
  | some a, some b => decide (a.seq < b.seq)
  | some _, none => false
  | none, _ => true

/-- SEQ of the grown map in use; 0 without a valid copy. -/
def State.grownSeq (s : State) : Nat :=
  match (if s.firstOlder then s.grownCopy 1 else s.grownCopy 0) with
  | some c => c.seq
  | none => 0

/-- The grown map is written: the copy with the lower valid SEQ, or an invalid one, takes the map with SEQ raised
(R431). -/
def State.writeGrown (s : State) (entries : List MapEntry) (bad : List Nat) : State :=
  let c : MapCopy := { seq := s.grownSeq + 1, entries := entries }
  let p := s.spareBase + (if s.firstOlder then 67 else 68)
  let s1 := (s.eraseFlash p).progBytes p 0 c.bytes
  { s1 with store := { s1.store with map := entries, bad := bad } }

/-- The map with a logical sector moved to a physical sector. -/
def State.mapWith (s : State) (l p : Nat) (bad refreshed : Bool) : List MapEntry :=
  let rest := s.store.map.filter (fun e => e.logical != l)
  if p = l then rest else rest ++ [⟨l, p, bad, refreshed⟩]

/-- A physical sector is marked grown-bad and the grown map is written (R427). -/
def State.markBad (s : State) (p : Nat) (entries : List MapEntry) : State :=
  s.writeGrown entries (if s.store.bad.contains p then s.store.bad else s.store.bad ++ [p])

/-- The maps are loaded at power-up: the factory map, and the valid grown copy with the higher SEQ; with none, the factory
map alone and MAP_LOST (R431, R432). -/
def State.loadMaps (s : State) : State :=
  let f := match s.mapCopy false (s.spareBase + 66) with
    | some c => c.entries
    | none => []
  match (if s.firstOlder then s.grownCopy 1 else s.grownCopy 0) with
  | some c => { s with store := { s.store with factory := f, map := c.entries } }
  | none => ({ s with store := { s.store with factory := f, map := [] } }).setB Reg.STOR_STATE 10 true

/-! ### Long operations -/

/-- The operation of a plane. -/
def State.opAt (s : State) (plane : Nat) : Option LongOp := s.store.ops.find? (fun o => o.plane == plane)

/-- Replace the operation of a plane. -/
def State.setOp (s : State) (o : LongOp) : State :=
  { s with store := { s.store with ops := s.store.ops.filter (fun x => x.plane != o.plane) ++ [o] } }

/-- The operation of a plane is over. -/
def State.dropOp (s : State) (plane : Nat) : State :=
  { s with store := { s.store with ops := s.store.ops.filter (fun x => x.plane != plane) } }

/-- STATE of a plane in STOR_STATE. -/
def State.planeCode (s : State) (plane : Nat) : Nat :=
  match s.opAt plane with
  | none => 0
  | some o => if o.state == .suspended then 2 else if o.op == 4 || o.op == 0 then 3 else 1

/-- STORD_OP of a plane. -/
def State.planeOp (s : State) (plane : Nat) : Nat :=
  match s.opAt plane with
  | none => 0
  | some o =>
    match o.stages.head? with
    | some (.prog p ws) =>
      (if o.op == 4 || o.op == 0 then 3 else 1) + o.pulses * 4 + p * 2 ^ 6 + ((ws.map (·.1)).headD 0) * 2 ^ 18
    | some (.erase p) => 2 + o.pulses * 4 + p * 2 ^ 6
    | _ => 0

/-- Event 185 when the free spares have fallen to SPARE_LOW from state `s` to state `t` (R433). -/
def State.spareEvent (s t : State) : State :=
  let low := t.rdF Reg.STOR_CFG 24 6
  t.eventIf (low < s.freeSpares.length && t.freeSpares.length ≤ low) 185

/-- The status registers follow the store die: STOR_STATE, STOR_SPARE, STORD_OP. -/
def State.storeSync (s : State) : State :=
  let st := s.rd Reg.STOR_STATE
  let busy := match s.store.patrol with | some p => p.running | none => false
  let v := s.planeCode 0 + s.planeCode 1 * 4 + s.store.held.length * 16 + b2n (s.bit Reg.PWR_STATUS 0) * 256 +
    b2n busy * 512 + b2n (bitOf st 10) * 1024 + b2n (bitOf st 11) * 2048
  let sp := s.freeSpares.length + s.store.bad.length * 2 ^ 8 + s.store.factory.length * 2 ^ 16 + s.store.map.length * 2 ^ 23
  (((s.wr Reg.STOR_STATE (word v)).wr Reg.STOR_SPARE (word sp)).wr
    (Reg.STORD_OP 0) (word (s.planeOp 0))).wr (Reg.STORD_OP 1) (word (s.planeOp 1))

/-! ### Page store states -/

/-- The page store's base and slot length, while it is on (R443). -/
def State.psGeom (s : State) : Option (Nat × Nat) :=
  let n := s.rdF Reg.STOR_PS_CFG 16 5
  if 1 ≤ n && n ≤ 16 then some (s.rdF Reg.STOR_PS_CFG 0 12, n) else none

/-- The first byte of slot `k`. -/
def State.psOffset (s : State) (k : Nat) : Option Nat := s.psGeom.map (fun g => (g.1 + k * g.2) * 2048)

/-- The state of a slot from its header (R445): 0 EMPTY, 1 WRITING, 2 VALID, 3 DEAD. -/
def State.psEval (s : State) (k : Nat) : Nat :=
  match s.psOffset k with
  | none => 0
  | some off =>
    let commit := s.storeWord off
    let retire := s.storeWord (off + 8)
    let magic := s.storeWord (off + 16)
    let ok := magic.ecc != .uncorr && magic.data.toNat % 2 ^ 48 == 0x01005056434F
    if magic.ecc != .uncorr && magic.data.toNat % 2 ^ 32 == 0xFFFFFFFF then 0
    else if ok && commit.erased && retire.erased then 1
    else if ok && commit.data == 0 && (commit.ecc == .good || commit.ecc == .margin) && retire.erased then 2
    else 3

/-- A slot's field of STOR_PS_STATE. -/
def State.psState (s : State) (k : Nat) : Nat := s.rdF Reg.STOR_PS_STATE (2 * k) 2

/-- The slots that hold a logical sector are evaluated again (R445). -/
def State.psTouch (s : State) (l : Nat) : State :=
  match s.psGeom with
  | none => s
  | some (b, n) =>
    if b ≤ l && l < b + 16 * n then s.wrF Reg.STOR_PS_STATE (2 * ((l - b) / n)) 2 (s.psEval ((l - b) / n)) else s

/-! ### The end of a command -/

/-- A status whose STOR_RESULT.ADDR names a word or a sector. -/
def addrStatus (status : Nat) : Bool := status == 8 || status == 9 || status == 10 || status == 11

/-- A command ends with its status (R414, R420): its result, whose ADDR is free where the status names no address, DONE
and FAIL, its event; a cut operation is counted. -/
def State.endCommand (s : State) (slot : Option Nat) (status addr : Nat) (remapped : Bool := false) : State :=
  match slot with
  | none => s
  | some n =>
    let at_ := s.openVal (addrStatus status) (addr % 2 ^ 23) (2 ^ 23)
    let s1 := ((s.openTaken (addrStatus status)).wr (Reg.STOR_RESULT n) (word (status + at_ * 2 ^ 8 + b2n remapped * 2 ^ 31))).setB Reg.STOR_DONE n true
    let s2 := s1.setB Reg.STOR_DONE (8 + n) (status != 0)
    if status = 9 then (s2.satAdd Reg.STOR_COUNT 24 8).event 178
    else s2.event (if status = 0 then 176 else 177)

/-- A long operation ends with a status: the slots its sector touches are evaluated, and its command ends. -/
def State.endOp (s : State) (o : LongOp) (status addr : Nat) (remapped : Bool := false) : State :=
  (((s.dropOp o.plane).psTouch o.sector).endCommand o.slot status addr remapped)

/-- The byte address of a word or of the base of a logical sector. -/
def opAddr (o : LongOp) : Nat :=
  match o.stages.head? with
  | some (.prog _ ((i, _) :: _)) => o.sector * 2048 + 8 * i
  | _ => o.sector * 2048

/-- A cut: the operation ends INCOMPLETE, the word being programmed or the sector being erased undefined (R424, R426);
a refresh that patrol started waits again (R663). -/
def State.cutOp (s : State) (o : LongOp) : State :=
  let s1 := match o.stages.head? with
    | some (.prog p ((i, _) :: _)) => s.spoil p [i]
    | some (.erase p) => s.spoil p (List.range 256)
    | _ => s
  let s2 := s1.endOp o 9 (opAddr o)
  if o.op = 0 then { s2 with store := { s2.store with refresh := s2.store.refresh ++ [o.sector] } } else s2

/-- STORE_INHIBIT (R424, R425): what the asserted inhibit does to an operation; one in a pulse ends with that pulse. -/
def State.inhibitOp (s : State) (o : LongOp) : State :=
  match o.state with
  | .running => s.setOp { o with cut := true }
  | .suspended => if o.anyPulse then s.cutOp o else
      let s1 := s.endOp o 7 0
      if o.op = 0 then { s1 with store := { s1.store with refresh := s1.store.refresh ++ [o.sector] } } else s1
  | _ => s.endOp o 7 0

/-- A running patrol read is abandoned and stays due (R435). -/
def stopRead : Option PatrolRead → Option PatrolRead
  | some p => some { p with running := false }
  | none => none

/-- A side-band reset of the store die strikes: a suspended operation with a pulse ends INCOMPLETE, what has started no
pulse ends ABORTED; a running operation ends with its pulse (R32). -/
def State.storeAbortAll (s : State) : State :=
  let s1 := s.store.ops.foldl (fun t o =>
    match o.state with
    | .running => t
    | .suspended => if o.anyPulse then t.cutOp o else t.endOp o 12 0
    | _ => t.endOp o 12 0) s
  let s2 := s1.store.checks.foldl (fun t c => t.endCommand (some c.1) 12 0) s1
  ({ s2 with store := { s2.store with checks := [], patrol := stopRead s2.store.patrol } }).storeSync

/-- The stages of a refresh of a logical sector (R438, R439), with whether it copies back in place; none without a free
spare. A spare that an earlier cut has left unerased is erased first. -/
def State.refreshPlan (s : State) (l : Nat) : Option (List Stage × Bool) :=
  let p := s.physOf l
  match s.pickSpare (p % 2) with
  | none => none
  | some sp =>
    let words := (List.range 256).filterMap (fun i =>
      let w := s.flashAt p i
      if w.erased then none else some (i, w.seen.data))
    let pre := if (List.range 256).all (fun i => (s.flashAt sp i).erased) then [] else [Stage.erase sp]
    if s.mapRoom l then some (pre ++ [.prog sp words, .switch l sp, .erase p], false)
    else some (pre ++ [.prog sp words, .erase p, .prog p words, .erase sp], true)

/-- The stages that take no pulse are done: an exhausted program, a map switch (R438). -/
def State.settleOp (s : State) : List Stage → List Stage × State
  | .prog _ [] :: t => s.settleOp t
  | .switch l p :: t => (s.writeGrown (s.mapWith l p false true) s.store.bad).settleOp t
  | g => (g, s)

/-- An operation ends well: a refresh is counted with event 183, a commit raises event 212 (R438, R446). -/
def State.finishOp (s : State) (o : LongOp) (remapped : Bool := false) : State :=
  let s1 := if o.op = 4 || o.op = 0 then (s.satAdd Reg.STOR_COUNT2 0 8).event 183 else s
  let s2 := (s1.dropOp o.plane).psTouch o.sector
  (s2.eventIf (o.op == 5) 212).endCommand o.slot 0 0 remapped

/-- A refresh starts, taking its spare, or is blocked without a free one (R438, R439, R433). -/
def State.startRefresh (s : State) (l : Nat) (slot : Option Nat) (op : Nat) : State :=
  match s.refreshPlan l with
  | none => ((s.setB Reg.STOR_STATE 11 true).psTouch l).endCommand slot 10 (l * 2048)
  | some (stages, inPlace) =>
    let r := s.settleOp stages
    s.spareEvent (r.2.setOp
      { op := op, slot := slot, sector := l, plane := s.physOf l % 2, state := .running, stages := r.1, inPlace := inPlace })

/-- What is read of a physical sector when its content moves: the words before a place programmed, and the rest. -/
def State.moveSector (s : State) (p sp : Nat) (words : List (Nat × BitVec 64)) : State :=
  (List.range 256).foldl (fun t i =>
    match words.find? (fun w => w.1 == i) with
    | some w => t.setFlash sp i { data := w.2 }
    | none =>
      let w := s.flashAt p i
      t.setFlash sp i (match w.ecc with | .margin => { data := w.data } | .corrected => { data := w.data } | _ => w)) (s.eraseFlash sp)

/-- STORE_REMAP (R427, R428): a word or a sector has failed its last verify. The physical sector is grown-bad; the
operation completes on a spare, or ends NO_SPARE with the sector bad in place. -/
def State.remap (s : State) (o : LongOp) (p : Nat) (words : List (Nat × BitVec 64)) (erasing : Bool) : State :=
  let s0 := s.dropOp o.plane
  match (if s0.mapRoom o.sector then s0.pickSpare (p % 2) else none) with
  | none =>
    let s1 := match o.stages.head? with
      | some (.prog q ((i, _) :: _)) => s0.spoil q [i]
      | _ => s0.spoil p (List.range 256)
    s.spareEvent ((s1.markBad p s1.store.map).endOp o 10 (opAddr o))
  | some sp =>
    let s1 := if erasing then s0.eraseFlash sp else s0.moveSector p sp words
    let s2 := (s1.markBad p (s1.mapWith o.sector sp true false)).satAdd Reg.STOR_COUNT2 8 8
    s.spareEvent ((s2.event 184).finishOp o true)

/-- A pulse series fails within a refresh (R438, R439). -/
def State.refreshFail (s : State) (o : LongOp) (p : Nat) : State :=
  if p = s.physOf o.sector then
    let s1 := s.dropOp o.plane
    let s2 := match o.stages.head? with
      | some (.prog q ((i, _) :: _)) => s1.spoil q [i]
      | _ => s1.spoil p (List.range 256)
    s.spareEvent ((s2.markBad p s2.store.map).endOp o 10 (o.sector * 2048))
  else if o.stages.length = 1 then
    s.spareEvent (((s.dropOp o.plane).markBad p s.store.map).finishOp o)
  else
    ((s.dropOp o.plane).markBad p s.store.map).startRefresh o.sector o.slot o.op

/-! ### Reads -/

/-- A master may read the protected sectors: the custodian, or boot ROM code on the application core (R404, R405). -/
def State.storeTrusted (s : State) (m : Master) : Bool :=
  m == .custodian || (m == .core && s.boot.phase != .app)

/-- STORE_UNCORRECTABLE (R412): the byte address is recorded, a recoverable slip sent from source 56. -/
def State.uncorrectable (s : State) (off : Nat) : State :=
  (((s.satAdd Reg.STOR_COUNT 16 8).wr Reg.STOR_ECC_ADDR (word (off + 2 ^ 31)))).slip 56 0x09 1 off

/-- A unit or the die itself has read a run of bytes (R412): corrections are counted, an uncorrectable word reported. -/
def State.noteRead (s : State) (off n : Nat) : State :=
  match s.storeBad off n with
  | some o => s.uncorrectable o
  | none => s.satAdd Reg.STOR_COUNT 0 16
      ((List.range ((off % 8 + n + 7) / 8)).filter (fun k => (s.storeWord (off / 8 * 8 + 8 * k)).ecc == .corrected)).length

/-- A unit reads a run of bytes: the bytes, or an error, with what the read leaves (R412). -/
def State.readRun (s : State) (off n : Nat) : Except State (List Byte × State) :=
  if (s.storeBad off n).isNone then .ok (s.storeBytes off n, s.noteRead off n) else .error (s.noteRead off n)

/-- A line of 32 bytes is served (R411, R412): corrections are counted, an uncorrectable word is an error. The answer is
the 32-bit word addressed. -/
def State.serveLine (s : State) (m : Master) (off : Nat) : Word × Bool × State :=
  let l := off / 2048
  if s.inSpares l || (l < 32 && !s.storeTrusted m) then (0, false, s)
  else
    let line := (List.range 4).map (fun k => off / 32 * 32 + 8 * k)
    let fixed := (line.filter (fun o => (s.storeWord o).ecc == .corrected)).length
    let s1 := s.satAdd Reg.STOR_COUNT 0 16 fixed
    match line.find? (fun o => (s.storeWord o).ecc == .uncorr) with
    | some o => (0, true, s1.uncorrectable o)
    | none => (word ((s.storeWord off).data.toNat >>> (8 * (off % 8 / 4 * 4))), false, s1)

/-- A read of the plane waits: its operation makes pulses, or its suspend has served 64 line reads (R422, R423). -/
def State.planeBusy (s : State) (plane : Nat) : Bool :=
  match s.opAt plane with
  | some o => o.state == .running || (o.state == .suspended && 64 ≤ o.served)
  | none => false

/-- A read of many lines by a unit of the core die waits: Spine-S trains (R34), or an operation makes pulses in a plane
(R423; notes/assumptions/47.md). -/
def State.readStalls (s : State) : Bool :=
  s.spineState .store == 2 || (s.spineState .store == 3 && (s.planeBusy 0 || s.planeBusy 1))

/-- A line read is counted in the suspend that serves it. -/
def State.countServed (s : State) (plane : Nat) : State :=
  match s.opAt plane with
  | some o => if o.state == .suspended then s.setOp { o with served := o.served + 1 } else s
  | none => s

/-- A line read is held in its master's port. -/
def State.holdXip (s : State) (m : Master) (off : Nat) : State :=
  { s with spineS := { s.spineS with waiting := s.spineS.waiting ++ [⟨m, false, 0x10000000 + off, 0⟩] } }

/-- A read through the XIP window by a master, at a byte offset of the store die: the word, or an error, or a wait
(R411, R423, R679); R33 and R34 when Spine-S is not UP. `none` says that the read waits: in the master's port behind its
own earlier transactions and at the bounds of the spine and the master (R23, R24, R36), at the store die for a plane. -/
def State.xipRead (s : State) (m : Master) (off : Nat) : Option (Word × Bool) × State :=
  match s.spineState .store with
  | 2 => (none, s.holdXip m off)
  | 3 =>
    if s.spineS.waiting.any (fun r => r.master == m) || s.spineS.outst.any (fun r => r.master == m) then
      (none, s.holdXip m off)
    else if s.spineFull .store m then (none, (s.countFull .store).holdXip m off)
    else
      let plane := s.physOf (off / 2048) % 2
      if s.planeBusy plane || s.store.reads.any (fun r => r.1 == m) then
        (none, { s with store := { s.store with reads := s.store.reads ++ [(m, off)] } })
      else
        let r := (s.countServed plane).serveLine m off
        (some (r.1, r.2.1), r.2.2)
  | _ => (some (0, true), s.dieNotReady .store)

/-- The answer to a read through the XIP window. -/
def State.xipAnswer (s : State) (m : Master) (off : Nat) : State :=
  let r := s.xipRead m off
  match r.1 with
  | some (v, false) => r.2.answer v
  | some (_, true) => r.2.answerError
  | none => r.2.answerWait

/-- Words decay: each named word of a physical sector reads with one bit to correct at a level, or uncorrectable. -/
def State.decay (s : State) (p : Nat) (level : Ecc) (l : List (Nat × Bool)) : State :=
  l.foldl (fun t e =>
    let w := t.flashAt p (e.1 % 256)
    match w.ecc with
    | .undef _ => t
    | .uncorr => t
    | _ => t.setFlash p (e.1 % 256) { w with ecc := if e.2 then .uncorr else level }) s

/-- XIP_LINE_READ (R411, R412): `decay` names the words of the line whose stored data the environment has disturbed
since they were last read, true for beyond correction. -/
def execXipLineRead (m : Master) (addr : Word) (decay : List (Nat × Bool)) (s : State) : Out :=
  if s.locked m then .next s.answerError else
  let off := addr.toNat - 0x10000000
  if addr.toNat < 0x10000000 || 0x10800000 ≤ addr.toNat then .next s
  else if s.sectorCount * 2048 ≤ off then .next ((s.absentSlip 0 addr.toNat).answer 0)
  else
    let p := s.physOf (off / 2048)
    let s1 := s.decay p .corrected (decay.map (fun e => (off % 2048 / 32 * 4 + e.1 % 4, e.2)))
    .next ((s1.xipAnswer m off).storeSync)

/-- CHECK of a logical sector (R415): OK, or NOT_BLANK with the first word that is not erased. -/
def State.runCheck (s : State) (slot l : Nat) : State :=
  match (List.range 256).find? (fun i => !(s.flashAt (s.physOf l) i).erased) with
  | some i => (s.psTouch l).endCommand (some slot) 8 (l * 2048 + 8 * i)
  | none => (s.psTouch l).endCommand (some slot) 0 0

/-- A line read that waited at the store die is served, or goes on waiting: for its plane, for an earlier read of the same
master, or while Spine-S trains (R23, R423, R669). The mover and the host interface present their read again themselves,
and are served then. -/
def State.serveRead (s : State) (r : Master × Nat) : State :=
  let plane := s.physOf (r.2 / 2048) % 2
  if s.spineState .store != 3 || s.planeBusy plane || s.store.reads.any (fun q => q.1 == r.1) then
    { s with store := { s.store with reads := s.store.reads ++ [r] } }
  else if r.1 == .mover || r.1 == .host then s
  else
    let l := (s.countServed plane).serveLine r.1 r.2
    if l.2.1 then l.2.2.answerError else l.2.2.answer l.1

/-- A CHECK that waited is served, or goes on waiting for its plane. -/
def State.serveCheck (s : State) (c : Nat × Nat) : State :=
  if s.planeBusy (s.physOf c.2 % 2) then { s with store := { s.store with checks := s.store.checks ++ [c] } }
  else s.runCheck c.1 c.2

/-- What waits for planes is served where its plane is suspended or free, in order: CHECK commands, and line reads, up to
64 in a suspend (R421, R422). -/
def State.servePending (s : State) : State :=
  let s1 := s.store.checks.foldl State.serveCheck { s with store := { s.store with checks := [] } }
  s1.store.reads.foldl State.serveRead { s1 with store := { s1.store with reads := [] } }

/-- A command of the store die is done: what its plane now lets through is served, and the status registers follow. -/
def State.storeDone (s : State) : State := s.servePending.storeSync

/-- The brown-out inhibit is asserted. -/
def State.storeInhibit (s : State) : State := (s.store.ops.foldl State.inhibitOp s).storeDone

/-- Something waits for a plane; a read of the catalogue unit or of the panel port spans both. -/
def State.planeWanted (s : State) (plane : Nat) : Bool :=
  s.store.checks.any (fun c => s.physOf c.2 % 2 == plane) || s.store.reads.any (fun r => s.physOf (r.2 / 2048) % 2 == plane) ||
    s.cat.reading || s.held.any isPanelCmd

/-! ### Submission -/

/-- The planes that refuse a long operation (R679): each operation's physical plane and, while a PROGRAM loads, the
plane of its data port. -/
def State.busyPlanes (s : State) : List Nat :=
  s.store.ops.flatMap (fun o => if o.state == .loading then [o.plane, o.sector % 2] else [o.plane])

/-- The sectors a store command concerns: its sector, or all sectors of a page slot. -/
def State.cmdSectors (s : State) (op addr : Nat) : List Nat :=
  if op = 5 || op = 6 then
    match s.psGeom with
    | some (b, n) => (List.range (if op = 5 then n else 1)).map (· + b + addr % 16 * n)
    | none => []
  else [addr / 2048]

/-- The logical sectors that long operations work on: a commit on all sectors of its slot (R413, check 7). -/
def State.busySectors (s : State) : List Nat :=
  s.store.ops.flatMap (fun o => if o.op = 5 then s.cmdSectors 5 o.addr else [o.sector])

/-- A sector is marked bad without a spare (R428). -/
def State.badInPlace (s : State) (l : Nat) : Bool := s.store.bad.contains (s.physOf l)

/-- The submit checks in the order of the table (R413): the status. -/
def State.submitStatus (s : State) (m : Master) (op addr len : Nat) : Nat :=
  let sector := addr / 2048
  let ps := op == 5 || op == 6
  let secs := s.cmdSectors op addr
  let planes := (secs.take 1).flatMap (fun l => [l % 2, s.physOf l % 2])
  if op == 0 || 7 ≤ op then 3
  else if m != .custodian && 8 ≤ s.store.held.length then 1
  else if !ps && (s.sectorCount ≤ sector || s.inSpares sector) then 5
  else if (op == 1 || op == 2) && ((sector < 32 && !s.storeTrusted m) || s.inColophon sector) then 6
  else if (op == 1 || op == 3 || op == 4) && addr % 2048 != 0 then 4
  else if op == 2 && (addr % 8 != 0 || len < 8 || 2048 < len || len % 8 != 0 || 2048 < addr % 2048 + len) then 4
  else if ps && (s.psGeom.isNone || 16 ≤ addr) then 4
  else if (op == 1 || op == 2 || op == 4) && s.badInPlace sector then 15
  else if op != 3 && (planes.any (fun p => s.busyPlanes.contains p) || (op == 5 && s.busySectors.any (fun l => secs.contains l))) then 2
  else if op != 3 && s.bit Reg.PWR_STATUS 0 then 7
  else 0

/-- The lowest free command slot. -/
def State.freeSlot (s : State) : Nat := ((List.range 8).find? (fun n => !s.store.held.contains n)).getD 0

/-- An accepted command starts (R415). -/
def State.startCommand (s : State) (m : Master) (slot : Option Nat) (op addr len : Nat) : State :=
  let l := ((s.cmdSectors op addr).headD 0)
  let p := s.physOf l
  let o : LongOp := { op := op, slot := slot, sector := l, plane := p % 2, state := .running, master := m }
  match op with
  | 1 => s.setOp { o with stages := [.erase p] }
  | 2 => s.setOp { o with state := .loading, addr := addr, len := len }
  | 3 =>
    if s.planeBusy (p % 2) then { s with store := { s.store with checks := s.store.checks ++ [(slot.getD 0, l)] } }
    else s.runCheck (slot.getD 0) l
  | 4 =>
    match s.storeBad (l * 2048) 2048 with
    | some off => ((s.noteRead (l * 2048) 2048).psTouch l).endCommand slot 11 off
    | none => (s.noteRead (l * 2048) 2048).startRefresh l slot 4
  | 5 => if s.psState (addr % 16) = 1 then s.setOp { o with state := .reading, addr := addr % 16 } else s.endCommand slot 13 0
  | _ => if s.psState (addr % 16) = 2 then s.setOp { o with stages := [.prog p [(1, 0)]] } else s.endCommand slot 13 0

/-- A SUBMIT (R413, R450): the lowest free slot and the command, or the status of the failed check; STOR_ACCEPT holds
the outcome, its SLOT valid when CODE is OK, else free. A command that arrives abandons a running patrol read (R435). The custodian's own path takes no slot. DESIGN
CHOICE: the checks name no state of Spine-S, and a command submitted while it is not UP runs (notes/assumptions/53.md). -/
def State.storeSubmit (s : State) (m : Master) (op addr len : Nat) : State :=
  let code := s.submitStatus m op addr len
  let slot := s.freeSlot
  let seq := (s.rdF Reg.STOR_ACCEPT 24 8 + 1) % 256
  let s1 := if m == .custodian then s else
    (s.openTaken (code == 0)).wr Reg.STOR_ACCEPT (word (code + s.openVal (code == 0) slot 8 * 2 ^ 8 + masterId m * 2 ^ 16 + seq * 2 ^ 24))
  let s2 := if code = 2 then s1.satAdd Reg.STOR_COUNT2 16 8 else s1
  if code = 0 then
    let s3 := { s2 with store := { s2.store with
      patrol := stopRead s2.store.patrol,
      held := if m == Master.custodian then s2.store.held else s2.store.held ++ [slot] } }
    (s3.startCommand m (if m == Master.custodian then none else some slot) op addr len).storeSync
  else s2.storeSync

/-- A SUBMIT by a master of the command its registers hold, or a command spelt out, which the registers then hold. -/
def State.storeCommand (s : State) (m : Master) (op addr len : Nat) : State :=
  (((s.wrF Reg.STOR_CMD_OP 0 4 op).wrF Reg.STOR_CMD_ADDR 0 23 addr).wrF Reg.STOR_CMD_LEN 0 12 len).storeSubmit m op
    (addr % 2 ^ 23) (len % 2 ^ 12)

/-- STORE_ERASE (R415). -/
def execStoreErase (m : Master) (addr : Word) (s : State) : Out :=
  if s.locked m then .next s.answerError else
  .next (s.storeCommand m 1 addr.toNat (s.rdF Reg.STOR_CMD_LEN 0 12))

/-- STORE_PROGRAM (R415). -/
def execStoreProgram (m : Master) (addr len : Word) (s : State) : Out :=
  if s.locked m then .next s.answerError else .next (s.storeCommand m 2 addr.toNat len.toNat)

/-- STORE_CHECK (R415). -/
def execStoreCheck (m : Master) (addr : Word) (s : State) : Out :=
  if s.locked m then .next s.answerError else
  .next (s.storeCommand m 3 addr.toNat (s.rdF Reg.STOR_CMD_LEN 0 12))

/-- STORE_REFRESH (R415). -/
def execStoreRefresh (m : Master) (addr : Word) (s : State) : Out :=
  if s.locked m then .next s.answerError else
  .next (s.storeCommand m 4 addr.toNat (s.rdF Reg.STOR_CMD_LEN 0 12))

/-- PS_COMMIT (R446, R447). -/
def execPsCommit (m : Master) (slot : Word) (s : State) : Out :=
  if s.locked m then .next s.answerError else
  .next (s.storeCommand m 5 slot.toNat (s.rdF Reg.STOR_CMD_LEN 0 12))

/-- PS_RETIRE (R447, R448). -/
def execPsRetire (m : Master) (slot : Word) (s : State) : Out :=
  if s.locked m then .next s.answerError else
  .next (s.storeCommand m 6 slot.toNat (s.rdF Reg.STOR_CMD_LEN 0 12))

/-- Two 32-bit words make each 64-bit word, the first the lower. -/
def pairWords (i : Nat) : List Word → List (Nat × BitVec 64)
  | a :: b :: t => (i, BitVec.ofNat 64 (a.toNat + b.toNat * 2 ^ 32)) :: pairWords (i + 1) t
  | _ => []

/-- A word at a data port (R416, R417): a loading PROGRAM of the logical plane takes it and, when all its data has come,
checks that its target words are erased and starts; with none loading it is ignored and counted. -/
def State.dataPort (s : State) (plane : Nat) (v : Word) : State :=
  match s.store.ops.find? (fun o => o.op == 2 && o.state == .loading && o.sector % 2 == plane) with
  | none => s.satAdd Reg.STOR_COUNT2 24 8
  | some o =>
    let data := o.data ++ [v]
    if 4 * data.length < o.len then s.setOp { o with data := data }
    else
      let p := s.physOf o.sector
      let words := pairWords (o.addr % 2048 / 8) data
      match words.find? (fun w => !(s.flashAt p w.1).erased) with
      | some w => s.endOp o 8 (o.sector * 2048 + 8 * w.1)
      | none => s.setOp { o with state := .running, data := [], stages := [.prog p words] }

/-- STORE_DATA_PORT_WRITE (R416). -/
def execStoreDataPortWrite (plane : Fin 2) (v : Word) (s : State) : Out :=
  .next ((s.dataPort plane v).storeDone)

/-- STORE_DONE_CLEAR (R414, R420): ones free the slots of ended commands; event 186 when all 8 were held. -/
def execStoreDoneClear (v : Word) (s : State) : Out :=
  let free := (List.range 8).filter (fun n => bitOf v n && s.bit Reg.STOR_DONE n)
  let s1 := free.foldl (fun t n => (t.setB Reg.STOR_DONE n false).setB Reg.STOR_DONE (8 + n) false) s
  let s2 := { s1 with store := { s1.store with held := s1.store.held.filter (fun n => !free.contains n) } }
  .next ((s2.eventIf (!free.isEmpty && s.store.held.length == 8) 186).storeSync)

/-- STORE_ABORT (R418): a queued command or a PROGRAM still loading ends ABORTED. -/
def execStoreAbort (v : Word) (s : State) : Out :=
  let n := fld v 0 3
  match s.store.checks.find? (fun c => c.1 == n) with
  | some c => .next ((({ s with store := { s.store with checks := s.store.checks.filter (fun x => x.1 != n) } }).endCommand (some c.1) 12 0).storeDone)
  | none =>
    match s.store.ops.find? (fun o => o.slot == some n && o.state == .loading) with
    | some o => .next ((s.endOp o 12 0).storeDone)
    | none => .next s

/-! ### Pulses -/

/-- The pulses per folio (STOR_CFG.FOLIO_PULSES). -/
def State.folioPulses (s : State) : Nat := max 1 (min 16 (s.rdF Reg.STOR_CFG 0 5))

/-- STORE_FOLIO_END (R421): event 179; with something waiting for the plane the operation suspends, event 180, and what
waits is served. -/
def State.folioEnd (s : State) (o : LongOp) : State :=
  let s1 := s.event 179
  if s1.planeWanted o.plane then
    (((s1.setOp { o with folio := 0, served := 0, state := .suspended }).event 180).servePending)
  else s1.setOp { o with folio := 0 }

/-- A pulse has ended and the operation goes on or ends; its last pulse can end a folio (R421). -/
def State.afterPulse (s : State) (o : LongOp) : State :=
  let r := s.settleOp o.stages
  if r.1.isEmpty then (r.2.eventIf (s.folioPulses ≤ o.folio + 1) 179).finishOp { o with stages := [] }
  else
    let o1 := { o with stages := r.1, folio := o.folio + 1, anyPulse := true }
    if s.folioPulses ≤ o1.folio then r.2.folioEnd o1 else r.2.setOp o1

/-- A failed verify: another pulse, or after the fourth (twelfth) the remap (R409, R427). -/
def State.pulseFailed (s : State) (o : LongOp) : State :=
  match o.stages with
  | .prog p ws :: _ =>
    if o.pulses + 1 < 4 then s.afterPulse { o with pulses := o.pulses + 1 }
    else if o.op = 4 || o.op = 0 then s.refreshFail o p
    else s.remap o p ws false
  | .erase p :: _ =>
    if o.pulses + 1 < 12 then s.afterPulse { o with pulses := o.pulses + 1 }
    else if o.op = 4 || o.op = 0 then s.refreshFail o p
    else s.remap o p [] true
  | _ => s

/-- STORE_PULSE_END: a pulse and its verify end in a plane (R409, R421). Under the inhibit, or with a side-band reset
waiting, the operation ends INCOMPLETE (R32, R424). -/
def execStorePulseEnd (plane : Fin 2) (pass : Bool) (s : State) : Out :=
  match s.opAt plane with
  | none => .next s
  | some o =>
    if o.state != .running then .next s
    else if o.cut || s.bit Reg.PWR_STATUS 0 || s.spineS.resetReq then .next ((s.cutOp o).storeDone)
    else if pass then
      match o.stages with
      | .prog p ((i, d) :: ws) :: t =>
        .next (((s.setFlash p i { data := d }).afterPulse { o with stages := .prog p ws :: t, pulses := 0 }).storeDone)
      | .erase p :: t => .next (((s.eraseFlash p).afterPulse { o with stages := t, pulses := 0 }).storeDone)
      | _ => .next s
    else .next ((s.pulseFailed o).storeDone)

/-- STORE_RESUME: a suspended operation resumes with event 181 (R422). -/
def execStoreResume (plane : Fin 2) (s : State) : Out :=
  match s.opAt plane with
  | some o =>
    if o.state == .suspended then .next (((s.setOp { o with state := .running, folio := 0, served := 0 }).event 181).storeSync)
    else .next s
  | none => .next s

/-! ### Page store -/

/-- PS_COMMIT_READ_DONE: the header and body have been read; LEN in range and a matching CRC start the program of
COMMIT, else the command ends PS_CRC (R446); an uncorrectable word ends it ECC_UNCORR. -/
def execPsCommitReadDone (plane : Fin 2) (s : State) : Out :=
  match s.opAt plane, s.psGeom with
  | some o, some (_, n) =>
    if o.state != .reading then .next s
    else
      let off := o.sector * 2048
      let hdr := s.storeBytes off 64
      let len := field hdr 0x18 4
      if len = 0 || n * 2048 - 64 < len then .next ((s.endOp o 14 0).storeDone)
      else
        match s.storeBad off (64 + len) with
        | some bad => .next (((s.noteRead off (64 + len)).endOp o 11 bad).storeDone)
        | none =>
          let s1 := s.noteRead off (64 + len)
          if crc32 (s.storeBytes (off + 64) len) = field hdr 0x20 4 then
            .next ((s1.setOp { o with state := .running, stages := [.prog (s.physOf o.sector) [(0, 0)]] }).storeDone)
          else .next ((s1.endOp o 14 0).storeDone)
  | some o, none => if o.state == .reading then .next ((s.endOp o 14 0).storeDone) else .next s
  | _, _ => .next s

/-- STOR_PS_CFG_WRITE: the page store is placed and its slots evaluated, or the write is ignored when a slot would lie
outside the user area (R443, R445). -/
def execStorPsCfgWrite (v : Word) (s : State) : Out :=
  let b := fld v 0 12
  let n := fld v 16 5
  if 1 ≤ n && n ≤ 16 && (b < 1120 || s.spareBase < b + 16 * n) then .next s
  else
    let s1 := s.wr Reg.STOR_PS_CFG (v &&& 0x1F0FFF)
    .next (forRange 16 s1 (fun t k => t.wrF Reg.STOR_PS_STATE (2 * k) 2 (s1.psEval k)))

/-! ### Patrol -/

/-- Chronicle time between patrol reads (R434). -/
def State.patrolStep (s : State) : Nat := max 1 (s.rdF Reg.STOR_CFG 8 8) * 86400 * 30000 * 1024 / s.sectorCount

/-- A patrol read can run: after step 13 or in annex mode, awake, no command queued, no operation in its plane (R435). -/
def State.patrolFree (s : State) (p : Nat) : Bool :=
  (s.boot.phase == .app || s.boot.phase == .annex) && !s.asleep && s.store.checks.isEmpty &&
    (s.opAt (p % 2)).isNone && s.spineState .store == 3

/-- Patrol that is behind its schedule may read: after a wake, or 10 ms after its last read (R436). -/
def State.patrolOpen (s : State) : Bool :=
  match s.store.patrolGate with
  | some g => s.reached g
  | none => true

/-- PATROL_READ_DUE: the read falls due on its schedule and starts when the plane is free (R434, R435). -/
def execPatrolReadDue (s : State) : Out :=
  match s.store.patrol with
  | some p =>
    if p.running || !s.patrolFree p.sector then .next s
    else .next (({ s with store := { s.store with patrol := some { p with running := true } } }).storeSync)
  | none =>
    let p := s.rdF Reg.STOR_PATROL 0 12
    if s.reached s.store.patrolAt && s.patrolOpen then
      .next (({ s with store := { s.store with patrol := some ⟨p, s.patrolFree p⟩ } }).storeSync)
    else .next s

/-- When the next patrol read falls due (R434). -/
def State.patrolNext (s : State) : Nat := instant (s.store.patrolAt + s.patrolStep)

/-- Records of the patrol log: a record's word (R441). -/
def State.logWord (s : State) (n : Nat) : FlashWord := s.flashAt (s.physOf (5 + n / 256)) (n % 256)

/-- The place of the next record in the patrol log: the erased word behind a record; the first word of an empty log. -/
def State.logPlace (s : State) : Nat :=
  ((List.range 512).find? (fun n => (s.logWord n).erased && !(s.logWord ((n + 511) % 512)).erased)).getD 0

/-- The sector after the newest valid record of the patrol log, where patrol resumes after power-on (R442); 0 when the log
holds none. -/
def State.patrolFrom (s : State) : Nat :=
  let back := (List.range 511).map (fun k => s.logWord ((s.logPlace + 511 - k) % 512))
  match back.find? (fun w => !w.erased && w.seen.ecc != .uncorr) with
  | some w => (w.seen.data.toNat % 2 ^ 12 + 1) % s.sectorCount
  | none => 0

/-- The record of a patrol read in the patrol log (R441); no pulse starts under the inhibit (R424). -/
def State.patrolLog (s : State) (p corrected : Nat) : State :=
  if s.bit Reg.PWR_STATUS 0 then s
  else
    let n := s.store.logNext
    let rec_ := p + min corrected 255 * 2 ^ 12 + s.rdF Reg.STOR_PATROL 16 16 % 4096 * 2 ^ 20 + (s.ticks / 2 ^ 16 % 2 ^ 32) * 2 ^ 32
    let s1 := s.setFlash (s.physOf (5 + n / 256)) (n % 256) { data := BitVec.ofNat 64 rec_ }
    let s2 := { s1 with store := { s1.store with logNext := (n + 1) % 512 } }
    if (n + 1) % 256 = 0 then s2.eraseFlash (s2.physOf (5 + (n + 1) % 512 / 256)) else s2

/-- The next sector, and PATROL_PASS_DONE after the last: event 182 and PASSES (R442). -/
def State.patrolAdvance (s : State) (p : Nat) : State :=
  let s1 := s.wrF Reg.STOR_PATROL 0 12 ((p + 1) % s.sectorCount)
  if p + 1 = s.sectorCount then (s1.satAdd Reg.STOR_PATROL 16 16).event 182 else s1

/-- A refresh that patrol asks for starts when the supply and the plane allow it, and waits otherwise (R438, R663). -/
def State.patrolRefresh (s : State) (p : Nat) : State :=
  match s.logicalOf p with
  | none => s
  | some l =>
    if s.bit Reg.PWR_STATUS 0 || (s.opAt (p % 2)).isSome then { s with store := { s.store with refresh := s.store.refresh ++ [l] } }
    else s.startRefresh l none 0

/-- PATROL_READ_DONE: `decay` names the words the read finds disturbed, true for beyond correction. The corrected words
are counted and logged; at PATROL_LIMIT the sector is refreshed (R435, R438), unless a word is uncorrectable (R440). -/
def execPatrolReadDone (decay : List (Nat × Bool)) (s : State) : Out :=
  match s.store.patrol with
  | some ⟨p, true⟩ =>
    let s1 := s.decay p .margin decay
    let words := (List.range 256).map (fun i => (s1.flashAt p i).seen.ecc)
    let fixed := (words.filter (fun e => e == .margin || e == .corrected)).length
    let s2 := s1.satAdd Reg.STOR_COUNT 0 16 fixed
    let s3 := match (List.range 256).find? (fun i => (s1.flashAt p i).seen.ecc == .uncorr) with
      | some i => s2.uncorrectable ((s1.logicalOf p).getD p * 2048 + 8 * i)
      | none => if max 1 (s.rdF Reg.STOR_CFG 16 8) ≤ fixed then s2.patrolRefresh p else s2
    let s4 := (s3.patrolLog p fixed).patrolAdvance p
    .next (({ s4 with store := { s4.store with
      patrol := none, patrolAt := s.patrolNext, patrolGate := some (instant (s.chron.now + 300 * 1024)) } }).storeSync)
  | _ => .next s

/-- PATROL_REFRESH_RESUME: a refresh that waited starts at the first patrol opportunity after the inhibit is released
(R663). -/
def execPatrolRefreshResume (s : State) : Out :=
  match s.store.refresh with
  | l :: t =>
    if s.bit Reg.PWR_STATUS 0 || !s.patrolFree (s.physOf l) then .next s
    else .next ((({ s with store := { s.store with refresh := t } }).startRefresh l none 0).storeSync)
  | [] => .next s

/-- A store-die command is queued or in progress, for R118; a patrol read and its refresh count (R437). -/
def State.storeActive (s : State) : Bool :=
  !s.store.ops.isEmpty || !s.store.checks.isEmpty || (match s.store.patrol with | some p => p.running | none => false)

end Sys2Proof.Machine
end

