-- ==== Sys2Proof/Machine/Resets.lean ====
section
/-! DEFINITION. What each reset clears (03, table "What a reset clears"), the side-band resets of the far dies (01), and
the grave hold (16). -/

namespace Sys2Proof.Machine

/-- Reset every register but the bits a mask keeps. -/
def State.resetRegs (s : State) (keep : Nat → Word) : State :=
  { s with regs := s.regs.filterMap (fun e =>
      let v := (e.2 &&& keep e.1) ||| (resetOf e.1 &&& ~~~ keep e.1)
      if v = resetOf e.1 then none else some (e.1, v)) }

/-- The front die's registers, but for the calibration page: its values are the shadow on the core die (R288). -/
def isFrontReg (a : Nat) : Bool := 0x50000000 ≤ a && a < 0x5000A000 && !(0x50008000 ≤ a && a < 0x50009000)

/-- The front die starts from its reset state (R31): its registers, its capture buffer and its own state; a folio that
runs is abandoned (R310). -/
def State.frontReset (s : State) : State :=
  let s1 := (s.resetRegs (fun a => if isFrontReg a then 0 else 0xFFFFFFFF)).setB Reg.CAL_STATUS 1 false
  { s1 with
    front := {},
    mem := s1.mem.filter (fun e => !(0x50010000 ≤ e.1 && e.1 < 0x50020000)),
    cal := { s1.cal with granted := 0 } }

/-- The transactions outstanding on a spine end: reads with an error response, unacknowledged writes as lost, counted
in LOST_WR (01, "Reset of a single die", step 2). DESIGN CHOICE: requests held in a master's port stay held, and meet
the spine's state when they are presented again (notes/assumptions/53.md). -/
def State.endSpine (s : State) (die : Die) : State :=
  let sp := s.spine die
  let lost := (sp.replay.filter (fun p => p.req.write)).length
  let s1 := s.satAdd (spineErr die) 28 4 lost
  let s2 := if sp.outst.any (fun r => !r.write) || s.linesOut die != 0 then s1.answerError else s1
  let s3 := s2.setSpineSt die { waiting := sp.waiting }
  match die with
  | .front => s3
  | .store => { s3 with store := { s3.store with reads := [] } }

/-- A spine's state changes: 0 DOWN, 1 RESET, 2 TRAINING, 3 UP, 4 STUCK; a training that a RETRAIN bit started runs no
longer (R669). -/
def State.setSpine (s : State) (die : Die) (st : Nat) : State :=
  (s.wr (spineStat die) (word st)).setB Reg.SPINE_CTRL (2 + spineNo die) false

/-- A spine goes down, but for one that is STUCK, which only a side-band reset ends (R669). -/
def State.spineDown (s : State) (die : Die) : State := if s.spineState die == 4 then s else s.setSpine die 0

/-- A spine is UP, its reset wire released and its SBR bit 0: at half rate when SYSCTL_SPINE_CTRL says so, Spine-F on its
four lanes (R34, R77). -/
def State.spineUp (s : State) (die : Die) : State :=
  ((s.setSpineSt die { s.spine die with resetReq := false }).setB Reg.SPINE_CTRL (spineNo die) false).setSpine die
    (3 + s.rdF Reg.SPINE_CTRL (4 + spineNo die) 1 * 8 + (match die with | .front => 15 * 16 | .store => 0))

/-- The side-band reset of the store die is requested: transactions end and STATE reads RESET; the hold waits for the
pulse in progress (R32). -/
def State.sbrStore (s : State) : State :=
  let s1 := (((s.endSpine .store).storeAbortAll).setB Reg.SPINE_CTRL 1 true).setSpine .store 1
  { s1 with spineS := { s1.spineS with resetReq := true } }

/-- The causes of RSTC_CAUSE, by bit. -/
inductive ResetCause where
  | powerOn | brownOut | rstN | watchdog | fault | software | debug
  deriving DecidableEq, Repr

/-- The bit of RSTC_CAUSE.LAST and RSTC_HIST.SEEN. -/
def ResetCause.bit : ResetCause → Nat
  | .powerOn => 0 | .brownOut => 1 | .rstN => 2 | .watchdog => 3 | .fault => 4 | .software => 5 | .debug => 6

/-- What a warm or brown-out reset leaves of a register: the backup bits; HALF_F and HALF_S over a warm reset (R35);
of the watchdog all but RUN, LOCK and WDOG_COUNT (R547); the classes and the filter of the tamper logic, which lies in
the backup domain (DEDUCED, notes/assumptions/11.md); of GPIO_IN over a warm reset the levels that the pads keep. -/
def keepOverReset (cold : Bool) (a : Nat) : Word :=
  if a = Reg.SPINE_CTRL then (if cold then 0 else 0x30)
  else if a = Reg.WDOG_CTRL then 0x4
  else if a = Reg.WDOG_COUNT then 0
  else if a = Reg.SECMB_TAMP_CLASS then 0xFFFF
  else if a = Reg.SECMB_TAMP_PIN then 0x3FF0000
  else if a = Reg.GPIO_IN 0 || a = Reg.GPIO_IN 1 then (if cold then 0 else 0xFFFFFFFF)
  else keepOf a

/-- The cause of a reset is recorded (RSTC_CAUSE, RSTC_HIST). -/
def State.recordCause (s : State) (c : ResetCause) : State :=
  (s.wr Reg.RSTC_CAUSE (word (2 ^ c.bit))).setB Reg.RSTC_HIST c.bit true

/-- The chronicle through a reset that keeps the backup domain: it keeps counting; the pending discipline step is a
register state of the core die and is lost. -/
def ChronSt.throughReset (c : ChronSt) : ChronSt :=
  { c with discStep := none, stepHold := false, clockless := false, rootBad := 0, rateW := false }

/-- The fabric through a reset that keeps the backup domain: cells 28 to 31 keep their state (R64, R200). -/
def FabSt.throughReset (f : FabSt) : FabSt :=
  { cells := f.cells.filter (fun p => 28 ≤ p.1), latched := f.latched }

/-- The custodian through a reset: the enclave and the volatile slots are cleared, the fuses and the key store stay
(R64, R453). -/
def CustSt.throughReset (c : CustSt) : CustSt :=
  { store := c.store, life := c.life, zeroised := c.zeroised, eventDue := c.eventDue, made := c.made }

/-- The link controller through a reset: the budget buckets are in the backup domain (R333). -/
def LinkSt.throughReset (l : LinkSt) : LinkSt :=
  { buckets := l.buckets, bandTicks := l.bandTicks, warned := l.warned }

/-- The power control state after a reset: Run; contents lost before stay lost. -/
def PwrSt.throughReset (p : PwrSt) : PwrSt := { lost := p.lost, losses := p.losses, bowEvent := p.bowEvent, alarm := p.alarm }

/-- The store die over a reset of the core die: what waits is dropped, a suspended operation is cut, a running one ends
with its pulse and reports to no slot (R32, R64). -/
def State.storeThroughReset (s : State) : State :=
  let s1 := s.store.ops.foldl (fun t o =>
    match o.state with
    | .running => t.setOp { o with slot := none }
    | .suspended => if o.anyPulse then t.cutOp { o with slot := none } else t.dropOp o.plane
    | _ => t.dropOp o.plane) s
  { s1 with
    store := { s1.store with checks := [], reads := [], held := [], patrol := none },
    spineS := { resetReq := true } }

/-- The active-slot record is being written: a SET_ACTIVE in its last phase, its pulses not inhibited (R57, R110). -/
def State.writesSlots (s : State) : Bool :=
  s.bit Reg.CATL_STATUS 0 && s.rdF Reg.CATL_STATUS 1 3 == 5 && !s.bit Reg.PWR_STATUS 0

/-- The queue engine through a reset: after a warm one the descriptors and link words stay until boot step 8, after a cold
one they are undefined until then (R64). -/
def QeSt.throughReset (q : QeSt) (cold : Bool) : QeSt :=
  if cold then { lost := true } else { desc := q.desc, cells := q.cells, lost := q.lost }

/-- The release unit through a reset: every channel IDLE and unstarted (R528); which counters have been written since
power-on stays, with the counters themselves (R501). -/
def RelSt.throughReset (r : RelSt) : RelSt := { lockSet := r.lockSet }

/-- The serial units through a reset; what outside sources drive onto the pads does not change. -/
def SerialSt.throughReset (r : SerialSt) (cold : Bool) : SerialSt := { pads := r.pads, sampled := r.sampled && !cold }

/-- The core die in reset (R64, R65): every register but what the backup domain keeps, every unit's own state, and the
front die, whose reset wire is asserted. Main SRAM and the buffer pool keep their bytes; the buffers of the units do
not. -/
def State.coreReset (s : State) (cold : Bool) : State :=
  let s0 := if s.writesSlots then s.tearSlots else s
  let s1 := s0.storeThroughReset.resetRegs (keepOverReset cold)
  { s1 with
    mem := s1.mem.filter (fun e => !(memAreas e.1).isEmpty),
    ans := {}, spineF := { resetReq := true }, act := {}, fault := {}, tmr := {}, qe := s1.qe.throughReset cold, mover := {},
    cat := {}, front := {}, cal := {}, held := [], cyc := {},
    boot := { s1.boot with phase := .held, annexW := none, rescue := none, resetDue := false },
    pwr := s1.pwr.throughReset,
    chron := s1.chron.throughReset,
    fab := s1.fab.throughReset,
    link := s1.link.throughReset,
    cust := s1.cust.throughReset,
    rel := s1.rel.throughReset,
    hif := {}, panel := {},
    ser := s1.ser.throughReset cold }

/-- The part is sealed, or held after a grave slip: nothing but the removal of power ends that (R491, R538). -/
def State.isHeld (s : State) : Bool := s.boot.phase == .sealed || s.boot.phase == .grave

/-- The supply's level survives a reset: PWR_STATUS.BOW follows the detector. -/
def State.keepBow (s : State) (bow : Bool) : State := s.setB Reg.PWR_STATUS 0 bow

/-- A warm reset (R64, R70): the pads are held, the cause recorded, and the core die held until RESET_HOLD_END (R66). -/
def State.warmReset (s : State) (c : ResetCause) : State :=
  if s.isHeld then s
  else
    let f := s.takeFree
    let held := f.2.captureHold f.1
    let s1 := (((f.2.coreReset false).keepBow (s.bit Reg.PWR_STATUS 0)).setB Reg.GPIO_HOLD 0 true).recordCause c
    { s1 with boot := { s1.boot with padHold := held } }

/-- The areas of main SRAM and the buffer pool lose their contents. -/
def State.loseAll (s : State) : State :=
  ((List.range 6) ++ (List.range 8).map (· + 24)).foldl State.loseArea s

/-- A brown-out reset (R64): as a warm reset, but main SRAM and the buffer pool are not kept and the pads are cold. -/
def State.brownOutReset (s : State) : State :=
  if s.isHeld then s
  else
    let s1 := ((s.coreReset true).loseAll).recordCause .brownOut
    { s1 with boot := { s1.boot with padHold := [] } }

/-- What outlives a loss of power: the store die's words and maps, and the fuses. -/
def State.powerOnReset (s : State) : State :=
  let s0 := if s.writesSlots then s.tearSlots else s
  let cut := s0.store.ops.foldl (fun t o => if o.anyPulse || o.state == .running then t.cutOp { o with slot := none } else t) s0
  let s1 : State := {
    pending := s.pending, variant := s.variant, freeCtr := cut.freeCtr,
    pwr := { losses := s.pwr.losses },
    spineF := { resetReq := true }, spineS := { resetReq := true }, qe := { lost := true },
    boot := { minBuild := s.boot.minBuild, retired := s.boot.retired },
    store := { flash := cut.store.flash, bad := s.store.bad },
    cust := { store := s.cust.store, life := s.cust.life, zeroised := s.cust.zeroised, made := s.cust.made },
    ser := { pads := s.ser.pads } }
  let t := s1.loadMaps
  let s2 := { s1 with store := { s1.store with logNext := t.logPlace } }
  ((s2.loseAll).wrF Reg.STOR_PATROL 0 12 t.patrolFrom).recordCause .powerOn

/-- The part is held until power is removed: the core die in reset, SBR_F asserted, every pad cold (R491, R538). -/
def State.hold (s : State) (phase : BootPhase) : State :=
  let s1 := s.coreReset true
  if s.isHeld then s
  else { s1 with boot := { s1.boot with phase := phase, padHold := [] } }

/-- The grave hold (R538): slots 32 to 63 are purged; FAULT and DBG stay out of reset, with debug as open as it
was, and FAULT_GRAVE holds the slip (R540). -/
def State.graveHold (s : State) (w : Word) : State :=
  let s1 := s.hold .grave
  let s0 := if s.isHeld then s else s.wr Reg.FAULT_GRAVE w
  let keep := s0.regs.filter (fun e => 0x40004000 ≤ e.1 && e.1 < 0x40005000)
  { s1 with
    regs := keep.foldl (fun m e => mapPut (resetOf e.1) m e.1 e.2) s1.regs,
    fault := { s.fault with waiting := s.fault.waiting.filter (· != w) },
    cust := { s1.cust with unlocked := s.cust.unlocked } }

end Sys2Proof.Machine
end

