-- ==== Sys2Proof/Machine/Custodian.lean ====
section
/-! DEFINITION. The custodian: key slots and policy, the mailbox and its refusals, the services, the link port, random
numbers (14). -/

namespace Sys2Proof.Machine

/-! ### Key slots -/

/-- TYPE of a key slot; 0 for an EMPTY one. -/
def State.keyType (s : State) (n : Nat) : Nat :=
  match mapGet s.cust.keys n with | some k => fld k.policy 0 3 | none => 0

/-- A policy bit of a key slot. -/
def State.keyBit (s : State) (n bit : Nat) : Bool :=
  match mapGet s.cust.keys n with | some k => bitOf k.policy bit | none => false

/-- The key bytes of a slot. -/
def State.keyBytes (s : State) (n : Nat) : List Byte :=
  match mapGet s.cust.keys n with | some k => k.key | none => []

/-- A slot is filled; slots 0 to 31 are written to the key store (R453). PERSIST and FACTORY follow the slot (R454). -/
def State.fillKey (s : State) (n : Nat) (policy : Word) (key : List Byte) : State :=
  let p := (policy &&& 0x000FFF07) ||| word ((if n < 32 then 2 ^ 24 else 0) + (if n < 2 then 2 ^ 25 else 0))
  let k : KeySlot := { policy := p, key := key }
  { s with cust := { s.cust with
      keys := mapIns (mapErase s.cust.keys n) n k,
      store := if n < 32 then mapIns (mapErase s.cust.store n) n k else s.cust.store } }

/-- Slots are emptied, in the key store too. -/
def State.purgeKeys (s : State) (f : Nat → Bool) : State :=
  { s with cust := { s.cust with
      keys := s.cust.keys.filter (fun e => !f e.1), store := s.cust.store.filter (fun e => !f e.1) } }

/-- The length of a key by TYPE (R470). -/
def keyLen (t : Nat) : Nat := match t with | 1 => 16 | 2 => 32 | 3 => 32 | 4 => 32 | 5 => 64 | _ => 0

/-- A policy a new slot may take: one of the TYPEs, reserved bits zero. -/
def policyOk (types : List Nat) (p : Word) : Bool := types.contains (fld p 0 3) && (p &&& 0xFCF000F8) == 0

/-- An audit counter is raised (R465). -/
def State.audit (s : State) (n : Nat) : State :=
  { s with cust := { s.cust with audit := mapPut 0 s.cust.audit n (min (((mapGet s.cust.audit n).getD 0) + 1) 65535) } }

/-! ### Mailbox slots -/

/-- A mailbox slot. -/
def State.mb (s : State) (k : Nat) : MbSlot := (mapGet s.cust.slots k).getD {}

/-- Replace a mailbox slot. -/
def State.setMb (s : State) (k : Nat) (m : MbSlot) : State :=
  { s with cust := { s.cust with slots := mapPut {} s.cust.slots k m } }

/-- The address of a slot's data buffer. -/
def mbBuf (k : Nat) : Nat := 0x4003C200 + 0x380 * k

/-- SVC of a slot. -/
def State.mbSvc (s : State) (k : Nat) : Nat := s.rdF (Reg.SECMB_S_CMD k) 0 8
/-- KEY of a slot. -/
def State.mbKey (s : State) (k : Nat) : Nat := s.rdF (Reg.SECMB_S_CMD k) 8 6
/-- KEY2 of a slot. -/
def State.mbKey2 (s : State) (k : Nat) : Nat := s.rdF (Reg.SECMB_S_CMD k) 16 6
/-- MODE of a slot. -/
def State.mbMode (s : State) (k : Nat) : Nat := s.rdF (Reg.SECMB_S_CMD k) 24 4
/-- LEN.IN of a slot. -/
def State.mbIn (s : State) (k : Nat) : Nat := s.rdF (Reg.SECMB_S_LEN k) 0 10
/-- LEN.OUT of a slot. -/
def State.mbOut (s : State) (k : Nat) : Nat := s.rdF (Reg.SECMB_S_LEN k) 16 10
/-- The input bytes of a slot. -/
def State.mbData (s : State) (k : Nat) : List Byte := s.bytesAt (mbBuf k) (s.mbIn k)
/-- PARAM0 to PARAM3 of a slot as 16 bytes. -/
def State.mbParam (s : State) (k : Nat) : List Byte :=
  (List.range 4).flatMap (fun i => leBytes 4 (s.rd (Reg.SECMB_S_PARAM0 k + 4 * i)).toNat)

/-- A slot is free, taken or not is what SECMB_FREE shows. -/
def State.mbFree (s : State) (k : Nat) (b : Bool) : State := s.setB Reg.SECMB_FREE k b

/-- The SHA context that a refused request leaves: a start or a continue of its own service keeps it (R467). -/
def State.keptCtx (s : State) (k : Nat) : Option ShaCtx :=
  (s.mb k).ctx.filter (fun c => s.mbSvc k == (if c.hmac.isSome then 0x11 else 0x10) && s.mbMode k ≤ 1)

/-- A request is refused (R462, R463): the reason counts in its audit counter and nowhere else, the slot enters its
refusal window. -/
def State.refuse (s : State) (k reason : Nat) : State :=
  let s1 := s.audit reason
  let s2 := { s1 with cust := { s1.cust with order := s1.cust.order.filter (· != k) } }
  s2.setMb k { phase := .refusing, ctx := s.keptCtx k }

/-- The lengths and MODE a service accepts (R466); the second number is OUT. -/
def State.paramsOk (s : State) (k : Nat) : Bool :=
  let n := s.mbIn k
  let m := s.mbMode k
  let ctxOk (hmac : Bool) : Bool := match (s.mb k).ctx with
    | some c => c.hmac.isSome == hmac
    | none => false
  let shaOk (hmac : Bool) : Bool :=
    m ≤ 3 && (m ≥ 2 || n % 64 == 0) && (m == 0 || m == 3 || ctxOk hmac)
  let p0 := s.rd (Reg.SECMB_S_PARAM0 k)
  n ≤ 896 && match s.mbSvc k with
  | 0x01 => m ≤ 1 && n % 16 == 0
  | 0x02 => m ≤ 1 && n % 16 == 0
  | 0x03 => 1 ≤ n
  | 0x04 =>
    let a := s.rdF (Reg.SECMB_S_PARAM4 k) 0 10
    (m == 0 && a ≤ n && n - a + 8 ≤ 896) || (m == 1 && a + 8 ≤ n)
  | 0x05 => true
  | 0x10 => shaOk false
  | 0x11 => shaOk true
  | 0x20 => n == 32
  | 0x21 => (m == 0 && n == 96) || (m == 1 && n == 160)
  | 0x22 => n == 64 && policyOk [2] p0
  | 0x23 => policyOk [4] p0 || (s.mbKey k == 1 && policyOk [2] p0)
  | 0x24 => n ≤ 64 && policyOk [1, 2, 3] p0
  | 0x30 => 1 ≤ s.mbOut k && s.mbOut k ≤ 896
  | 0x40 => 32 ≤ n
  | 0x41 => true
  | 0x42 => true
  | 0x43 => true
  | 0x44 => true
  | 0x50 => m ≤ 1
  | 0x51 => (m == 0 && n == 16) || (m == 1 && n == 144)
  | 0x60 => m == 1 || (m == 2 && n == 64)
  | 0x61 => true
  | 0x62 => n == 64
  | _ => false

/-- The key a service uses: the slot, the TYPEs and the policy bit it needs. -/
def State.keyNeed (s : State) (k : Nat) : Option (Nat × List Nat × Nat) :=
  let key := s.mbKey k
  let m := s.mbMode k
  match s.mbSvc k with
  | 0x01 => some (key, [1, 2], if m = 0 then 8 else 9)
  | 0x02 => some (key, [1, 2], if m = 0 then 8 else 9)
  | 0x03 => some (key, [1, 2], 8)
  | 0x04 => some (key, [1, 2], if m = 0 then 8 else 9)
  | 0x05 => some (key, [1, 2], 10)
  | 0x11 => some (key, [3], 10)
  | 0x20 => some (key, [4], 12)
  | 0x21 => if m = 0 then some (key, [5], 15) else none
  | 0x22 => some (key, [4], 11)
  | 0x24 => some (key, [2], 11)
  | 0x40 => some (key, [2], 13)
  | 0x41 => some (key, [2], 13)
  | 0x50 => some (0, [4], 12)
  | 0x51 => some (0, [4], 12)
  | 0x60 => if m = 2 then some (key, [5], 16) else none
  | 0x62 => some (key, [5], 16)
  | _ => none

/-- The target slot a service fills (R469). -/
def State.keyTarget (s : State) (k : Nat) : Option Nat :=
  match s.mbSvc k with
  | 0x22 => some (s.mbKey2 k)
  | 0x23 => some (s.mbKey k)
  | 0x24 => some (s.mbKey2 k)
  | 0x40 => some (s.mbKey2 k)
  | _ => none

/-- The key slots a request works on, for the checks of slot class and of emptied slots (R464). -/
def State.keyFault (s : State) (k : Nat) : Option Nat :=
  let need := s.keyNeed k
  let svc := s.mbSvc k
  match need with
  | some (n, types, bit) =>
    if s.keyType n = 0 then some 1
    else if !types.contains (s.keyType n) || !s.keyBit n bit then some 0
    else if svc = 0x41 && s.keyType (s.mbKey2 k) = 0 then some 1
    else if svc = 0x41 && !s.keyBit (s.mbKey2 k) 14 then some 0
    else if svc = 0x51 && s.mbMode k = 1 && s.keyType (s.mbKey k) = 0 then some 1
    else if svc = 0x51 && s.mbMode k = 1 && (s.keyType (s.mbKey k) != 5 || !s.keyBit (s.mbKey k) 17) then some 0
    else none
  | none => if svc = 0x44 && s.keyType (s.mbKey k) = 0 then some 1 else none

/-- The acceptance checks of a request in their order (R459): the reason of the first that fails, as its audit
counter. -/
def State.acceptFault (s : State) (k : Nat) : Option Nat :=
  let svc := s.mbSvc k
  let key := s.mbKey k
  let key2 := s.mbKey2 k
  let life := s.cust.life
  let policy := field (s.sec 0x0B) 9 1
  if !s.paramsOk k then some 2
  else match s.keyFault k with
  | some r => some r
  | none =>
    if (match s.keyTarget k with | some t => s.keyType t != 0 | none => false) then some 0
    else if svc = 0x50 && life = 2 then some 3
    else if svc = 0x60 && (s.mbMode k = 1 && life != 0 || s.mbMode k = 2 && (life != 1 || !policy.testBit 1)) then some 3
    else if svc = 0x62 && !policy.testBit 0 then some 3
    else if svc = 0x23 && key < 2 && (life != 0 || s.cust.zeroised || s.cust.made.contains key) then some 3
    else if svc = 0x42 && key < 2 && life != 0 then some 3
    else if (match s.keyNeed k with | some (n, _, _) => n == 0 && svc != 0x50 && svc != 0x51 | none => false) then some 4
    else if (svc = 0x22 || svc = 0x24 || svc = 0x40 || svc = 0x41) && key2 < 2 then some 4
    else none

/-- SECMB_DOORBELL (R458 to R460, R495): MB_FULL for a busy slot; otherwise the slot is taken, and its request waits for
its turn or, refused at acceptance, enters its refusal window. -/
def execSecmbDoorbell (m : Master) (v : Word) (s : State) : Out :=
  let k := fld v 0 2
  let seq := (s.rdF Reg.SECMB_DB_RESULT 24 8 + 1) % 256
  let full := (s.mb k).phase != .free
  let s1 := s.wr Reg.SECMB_DB_RESULT (word (b2n full + k * 16 + masterId m * 256 + seq * 2 ^ 24))
  if full then .next s1
  else
    let s2 := (s1.mbFree k false).wr (Reg.SECMB_S_STATUS k) 1
    match s.acceptFault k with
    | some r => .next (s2.refuse k r)
    | none =>
      let s3 := s2.setMb k { s2.mb k with phase := .waiting }
      .next { s3 with cust := { s3.cust with order := s3.cust.order ++ [k] } }

/-! ### Services -/

/-- What a service gives: RESULT, the output, the new PARAM0 to PARAM3, the SHA context kept, and the state. -/
structure SvcOut where
  st     : State
  result : Nat := 0
  out    : List Byte := []
  param  : Option (List Byte) := none
  ctx    : Option ShaCtx := none

/-- A service runs for the request at the front (R460): a key slot emptied since the doorbell refuses it (R464). A
request of another service than the command names, or not at the front, does not start. -/
def State.serve (s : State) (k svc : Nat) (f : State → Except Nat SvcOut) : State :=
  if s.cust.order.head? = some k && (s.mb k).phase == .waiting && s.mbSvc k = svc then
    match s.keyFault k with
    | some r => s.refuse k r
    | none =>
      match f s with
      | .error r => s.refuse k r
      | .ok o => o.st.setMb k { phase := .running, result := o.result, out := o.out, param := o.param, ctx := o.ctx }
  else s

/-- Random bytes, or the refusal for HEALTH while the TRNG restarts or has failed (R472). -/
def State.random (s : State) (n : Nat) : Except Nat (List Byte × State) :=
  if s.cust.trngWait || s.cust.trngDead then .error 5
  else .ok (let r := s.takeFreeBytes n
            (r.1, { r.2 with cust := { r.2.cust with trngBad := 0 } }))

/-- A scalar from random bytes, from 1 to the group order less 1. -/
def scalarOf (l : List Byte) : Nat := leNat l % (p256n - 1) + 1

/-- AES_ECB (R466). -/
def execAesEcb (k : Fin 4) (s : State) : Out :=
  .next (s.serve k 0x01 (fun s => .ok { st := s, out := aesEcb (s.mbMode k == 0) (s.keyBytes (s.mbKey k)) (s.mbData k) }))

/-- AES_CBC (R466): PARAM0 to PARAM3 become the last ciphertext block. -/
def execAesCbc (k : Fin 4) (s : State) : Out :=
  .next (s.serve k 0x02 (fun s =>
    let key := s.keyBytes (s.mbKey k)
    let r := if s.mbMode k = 0 then aesCbcEnc key (s.mbParam k) (blocks16 (s.mbData k))
      else aesCbcDec key (s.mbParam k) (blocks16 (s.mbData k))
    .ok { st := s, out := r.1, param := some r.2 }))

/-- AES_CTR (R466): PARAM0 to PARAM3 become the next counter block. -/
def execAesCtr (k : Fin 4) (s : State) : Out :=
  .next (s.serve k 0x03 (fun s =>
    let r := aesCtr (s.keyBytes (s.mbKey k)) (s.mbParam k) (blocks16 (s.mbData k))
    .ok { st := s, out := r.1, param := some r.2 }))

/-- AES_CCM (R466, R468): a failed MIC completes with RESULT 1 and no output. -/
def execAesCcm (k : Fin 4) (s : State) : Out :=
  .next (s.serve k 0x04 (fun s =>
    let key := s.keyBytes (s.mbKey k)
    let nonce := (s.mbParam k).take 13
    let a := s.rdF (Reg.SECMB_S_PARAM4 k) 0 10
    let data := s.mbData k
    let body := data.drop a
    if s.mbMode k = 0 then
      let r := ccmEnc key nonce (data.take a) body
      .ok { st := s, out := r.1 ++ r.2 }
    else
      match ccmDec key nonce (data.take a) (body.take (body.length - 8)) (body.drop (body.length - 8)) with
      | some m => .ok { st := s, out := m }
      | none => .ok { st := s, result := 1 }))

/-- AES_CMAC (R466). -/
def execAesCmac (k : Fin 4) (s : State) : Out :=
  .next (s.serve k 0x05 (fun s => .ok { st := s, out := aesCmac (s.keyBytes (s.mbKey k)) (s.mbData k) }))

/-- A digest step of SHA256 or HMAC (R466, R467): start, continue, finish, one-shot. -/
def State.digest (s : State) (k : Nat) (key : Option (List Byte)) : SvcOut :=
  let data := s.mbData k
  let fresh : ShaCtx := match key with
    | some b => { h := shaUpdate shaInit (hmacPad b 0x36), len := 64, hmac := some b }
    | none => { h := shaInit, len := 0, hmac := none }
  let m := s.mbMode k
  let c := if m = 0 || m = 3 then fresh else (s.mb k).ctx.getD fresh
  if m ≤ 1 then { st := s, ctx := some { c with h := shaUpdate c.h data, len := c.len + data.length } }
  else
    let d := shaFinish c.h c.len data
    { st := s, out := match c.hmac with | some b => hmacOuter b d | none => d }

/-- SHA256 (R466, R467). -/
def execSha256 (k : Fin 4) (s : State) : Out := .next (s.serve k 0x10 (fun s => .ok (s.digest k none)))

/-- HMAC (R466, R467). -/
def execHmac (k : Fin 4) (s : State) : Out :=
  .next (s.serve k 0x11 (fun s => .ok (s.digest k (some (s.keyBytes (s.mbKey k))))))

/-- ECDSA_SIGN (R466). -/
def execEcdsaSign (k : Fin 4) (s : State) : Out :=
  .next (s.serve k 0x20 (fun s =>
    match s.random 32 with
    | .error r => .error r
    | .ok (n, s1) => .ok { st := s1, out := pairBytes (ecdsaSign (leNat (s.keyBytes (s.mbKey k))) (scalarOf n) (s.mbData k)) }))

/-- ECDSA_VERIFY (R466, R468): RESULT 0 VALID, 1 INVALID. -/
def execEcdsaVerify (k : Fin 4) (s : State) : Out :=
  .next (s.serve k 0x21 (fun s =>
    let d := s.mbData k
    let q := if s.mbMode k = 0 then pairOf (s.keyBytes (s.mbKey k)) else pairOf (d.drop 96)
    .ok { st := s, result := if ecdsaVerify q (d.take 32) (pairOf (d.drop 32)) then 0 else 1 }))

/-- The SHA-256 of the x-coordinate two keys share; none for a point off the curve. -/
def sharedSecret (d : Nat) (q : Nat × Nat) : Option (List Byte) :=
  if onCurve q then (ecMul 256 d (some q)).map (fun p => sha256 (leBytes 32 p.1)) else none

/-- ECDH (R466): the new AES-256 key goes into KEY2. A peer key off the curve fails the custodian's check of its own
result (DEDUCED, notes/assumptions/12.md). -/
def execEcdh (k : Fin 4) (s : State) : Out :=
  .next (s.serve k 0x22 (fun s =>
    if s.keyType (s.mbKey2 k) != 0 then .error 0
    else match sharedSecret (leNat (s.keyBytes (s.mbKey k))) (pairOf (s.mbData k)) with
      | some z => .ok { st := s.fillKey (s.mbKey2 k) (s.rd (Reg.SECMB_S_PARAM0 k)) z }
      | none => .error 6))

/-- The one generation of slot 0 or 1 is spent (R453, R476). -/
def State.spendMaking (s : State) (n : Nat) : State :=
  if n < 2 then { s with cust := { s.cust with made := n :: s.cust.made } } else s

/-- EC_KEYGEN (R466, R476): a P-256 key pair; in slot 1, in OPEN, the hardware unique key (DESIGN CHOICE,
notes/assumptions/12.md). -/
def execEcKeygen (k : Fin 4) (s : State) : Out :=
  .next (s.serve k 0x23 (fun s =>
    if s.keyType (s.mbKey k) != 0 then .error 0
    else if s.cust.made.contains (s.mbKey k) then .error 3
    else match s.random 32 with
      | .error r => .error r
      | .ok (n, t) =>
        let s1 := t.spendMaking (s.mbKey k)
        let p := s.rd (Reg.SECMB_S_PARAM0 k)
        if s.mbKey k = 1 then .ok { st := s1.fillKey 1 (word (2 + 2 ^ 11 + 2 ^ 13)) n }
        else .ok { st := s1.fillKey (s.mbKey k) (if s.mbKey k = 0 then word (4 + 2 ^ 12) else p) (leBytes 32 (scalarOf n)),
                   out := pairBytes (ecPublic (scalarOf n)) }))

/-- KEY_DERIVE (R466). -/
def execKeyDerive (k : Fin 4) (s : State) : Out :=
  .next (s.serve k 0x24 (fun s =>
    let p := s.rd (Reg.SECMB_S_PARAM0 k)
    if s.keyType (s.mbKey2 k) != 0 then .error 0
    else
      let key := (List.range (keyLen (fld p 0 3))).map (Config.derived (s.keyBytes (s.mbKey k)) (s.mbData k))
      .ok { st := s.fillKey (s.mbKey2 k) p key }))

/-- RANDOM (R466, R472). -/
def execRandom (k : Fin 4) (s : State) : Out :=
  .next (s.serve k 0x30 (fun s =>
    match s.random (s.mbOut k) with
    | .error r => .error r
    | .ok (n, s1) => .ok { st := s1, out := n }))

/-- KEY_IMPORT (R466, R470, R471). -/
def execKeyImport (k : Fin 4) (s : State) : Out :=
  .next (s.serve k 0x40 (fun s =>
    let d := s.mbData k
    let p := word (field d 4 4)
    let len := keyLen (fld p 0 3)
    if s.keyType (s.mbKey2 k) != 0 then .error 0
    else if field d 0 4 != 0x4B56434F || !policyOk [1, 2, 3, 4, 5] p || fld p 24 2 != 0 || d.length != 32 + len || field d 21 3 != 0 then .error 2
    else match ccmDec (s.keyBytes (s.mbKey k)) ((d.drop 8).take 13) (d.take 8) ((d.drop 24).take len) (d.drop (24 + len)) with
      | some key => .ok { st := s.fillKey (s.mbKey2 k) p key }
      | none => .error 2))

/-- KEY_EXPORT (R455, R470). -/
def execKeyExport (k : Fin 4) (s : State) : Out :=
  .next (s.serve k 0x41 (fun s =>
    match s.random 13, mapGet s.cust.keys (s.mbKey2 k) with
    | .error r, _ => .error r
    | .ok _, none => .error 1
    | .ok (n, s1), some src =>
      let hdr := leBytes 4 0x4B56434F ++ leBytes 4 (src.policy &&& 0xFCFFFFFF).toNat
      let r := ccmEnc (s.keyBytes (s.mbKey k)) n hdr src.key
      .ok { st := s1, out := hdr ++ n ++ [0, 0, 0] ++ r.1 ++ r.2 }))

/-- KEY_PURGE (R466). -/
def execKeyPurge (k : Fin 4) (s : State) : Out :=
  .next (s.serve k 0x42 (fun s => .ok { st := s.purgeKeys (· == s.mbKey k) }))

/-- KEY_INFO (R466): the policy word. -/
def execKeyInfo (k : Fin 4) (s : State) : Out :=
  .next (s.serve k 0x43 (fun s =>
    .ok { st := s, out := leBytes 4 (match mapGet s.cust.keys (s.mbKey k) with | some c => c.policy.toNat | none => 0) }))

/-- KEY_RESTRICT (R456): policy bits are cleared; TYPE, PERSIST and FACTORY stay. -/
def execKeyRestrict (k : Fin 4) (s : State) : Out :=
  .next (s.serve k 0x44 (fun s =>
    match mapGet s.cust.keys (s.mbKey k) with
    | some c =>
      .ok { st := s.fillKey (s.mbKey k) (c.policy &&& ~~~ (s.rd (Reg.SECMB_S_PARAM0 k) &&& 0x000FFF00)) c.key }
    | none => .error 1))

/-- The low byte of SYSCTL_UID first. -/
def uidBytes : List Byte := leBytes 8 Config.uid.toNat

/-- A signature of slot 0 over SHA-256 of a message (R481). -/
def State.identitySign (s : State) (msg : List Byte) : Except Nat (List Byte × State) :=
  match s.random 32 with
  | .error r => .error r
  | .ok (n, s1) => .ok (pairBytes (ecdsaSign (leNat (s.keyBytes 0)) (scalarOf n) (sha256 msg)), s1)

/-- The identity certificate in the colophon (R480, R403). -/
def State.certificate (s : State) : List Byte := s.storeBytes ((s.spareBase + 69) * 2048) 152

/-- ID_CHALLENGE (R482). -/
def execIdChallenge (k : Fin 4) (s : State) : Out :=
  .next (s.serve k 0x50 (fun s =>
    let msg : List Byte := [0x4F, 0x43, 0x56, 0x52] ++ s.mbParam k ++ uidBytes ++
      leBytes 4 (s.rd (Reg.SECMB_S_PARAM4 k)).toNat ++ [byte s.cust.life]
    match s.identitySign msg with
    | .error r => .error r
    | .ok (sig, s1) => .ok { st := s1, out := if s.mbMode k = 1 then sig ++ s.certificate else sig }))

/-- The report of R484 up to the audit block. -/
def State.report (s : State) (audit : Bool) (nonce : List Byte) : List Byte :=
  [0x4F, 0x43, 0x56, 0x54] ++ leBytes 2 0x0100 ++ leBytes 2 (b2n audit) ++ nonce ++ uidBytes ++
    leBytes 4 s.sysctlId.toNat ++ [byte s.cust.life, byte (s.rdF Reg.SECMB_TAMP_LATCH 0 8), 0, 0] ++
    leBytes 4 (s.rd Reg.CATL_BUILD).toNat ++ leBytes 4 (s.rd Reg.CATL_MIN_BUILD).toNat

/-- The sixteen audit counters as bytes. -/
def State.auditBytes (s : State) : List Byte :=
  (List.range 16).flatMap (fun i => leBytes 2 ((mapGet s.cust.audit i).getD 0))

/-- ATTEST (R484, R485). -/
def execAttest (k : Fin 4) (s : State) : Out :=
  .next (s.serve k 0x51 (fun s =>
    let d := s.mbData k
    let nonce := d.take 16
    if s.mbMode k = 0 then
      match s.identitySign (s.report false nonce) with
      | .error r => .error r
      | .ok (sig, s1) => .ok { st := s1, out := s.report false nonce ++ sig }
    else
      let verifier := (d.drop 16).take 64
      if !ecdsaVerify (pairOf (s.keyBytes (s.mbKey k))) (sha256 ([0x4F, 0x43, 0x56, 0x41] ++ nonce ++ verifier)) (pairOf (d.drop 80)) then
        .error 10
      else match s.random 32 with
        | .error r => .error r
        | .ok (e, s1) =>
          match sharedSecret (scalarOf e) (pairOf verifier) with
          | none => .error 6
          | some z =>
            let c := ccmEnc (z.take 16) (nonce.take 13) [] s.auditBytes
            let body := s.report true nonce ++ pairBytes (ecPublic (scalarOf e)) ++ c.1 ++ c.2
            match s1.identitySign body with
            | .error r => .error r
            | .ok (sig, s2) => .ok { st := s2, out := body ++ sig }))

/-- The lifecycle fuse moves; SECMB_LIFE follows. -/
def State.setLife (s : State) (n : Nat) : State :=
  ({ s with cust := { s.cust with life := n } }).wrF Reg.SECMB_LIFE 0 2 n

/-- A signature of a DEBUG_AUTH key over a tag, the last nonce and the UID (R478, R479). The nonce is spent. -/
def State.authorised (s : State) (k : Nat) (tag : List Byte) : Bool :=
  match s.cust.nonce with
  | some n => ecdsaVerify (pairOf (s.keyBytes (s.mbKey k))) (sha256 (tag ++ n ++ uidBytes)) (pairOf (s.mbData k))
  | none => false

/-- LIFECYCLE (R476, R479): from OPEN to FIELD, or with authority from FIELD to RETURNED, where slots 1 to 63 are purged.
A request that the lifecycle has passed since its doorbell is refused. -/
def execLifecycle (k : Fin 4) (s : State) : Out :=
  .next (s.serve k 0x60 (fun s =>
    if s.cust.life != (if s.mbMode k = 1 then 0 else 1) then .error 3
    else if s.mbMode k = 1 then .ok { st := s.setLife 1 }
    else if s.authorised k [0x4F, 0x43, 0x56, 0x58] then
      .ok { st := (({ s with cust := { s.cust with nonce := none } }).purgeKeys (fun n => 1 ≤ n)).setLife 2 }
    else .error 9))

/-- UNLOCK_NONCE (R478). -/
def execUnlockNonce (k : Fin 4) (s : State) : Out :=
  .next (s.serve k 0x61 (fun s =>
    match s.random 32 with
    | .error r => .error r
    | .ok (n, s1) => .ok { st := { s1 with cust := { s1.cust with nonce := some n } }, out := n }))

/-- The unlock nonce is spent. -/
def State.spendNonce (s : State) : State := { s with cust := { s.cust with nonce := none } }

/-- Debug is open until the next reset. -/
def State.openDebug (s : State) : State := { s with cust := { s.cust with unlocked := true, nonce := none } }

/-- UNLOCK (R478): debug opens until the next reset. -/
def execUnlock (k : Fin 4) (s : State) : Out :=
  let ok := s.authorised k [0x4F, 0x43, 0x56, 0x44]
  let s1 := s.serve k 0x62 (fun s =>
    if ok then .ok { st := s.openDebug } else .error 9)
  .next (if s.cust.order.head? = some k.val && s.mbSvc k = 0x62 then s1.spendNonce else s1)

/-! ### Completion -/

/-- MAILBOX_REQUEST_DONE (R461): the outcome, SECMB_DONE bit k, event 192 + k; the next request may start. -/
def execMailboxRequestDone (k : Fin 4) (s : State) : Out :=
  let m := s.mb k
  if m.phase == .running then
    let s1 := (s.putBytes (mbBuf k) (List.replicate 896 0)).putBytes (mbBuf k) m.out
    let s2 := match m.param with
      | some p => forRange 4 s1 (fun t i => t.wr (Reg.SECMB_S_PARAM0 k + 4 * i) (word (field p (4 * i) 4)))
      | none => s1
    let s3 := (s2.wr (Reg.SECMB_S_STATUS k) (word (m.result * 2 ^ 5 + m.out.length * 2 ^ 8))).setB Reg.SECMB_DONE k true
    let s4 := { s3 with cust := { s3.cust with order := s3.cust.order.filter (· != k.val) } }
    .next ((s4.setMb k { phase := .done, ctx := m.ctx }).event (192 + k))
  else .next s

/-- REFUSAL_WINDOW_END (R462, R463): the slot completes REFUSED with a zeroed buffer. -/
def execRefusalWindowEnd (k : Fin 4) (s : State) : Out :=
  if (s.mb k).phase == .refusing then
    let s1 := (s.putBytes (mbBuf k) (List.replicate 896 0)).wr (Reg.SECMB_S_STATUS k) 0x10
    .next (((s1.setB Reg.SECMB_DONE k true).setMb k { s.mb k with phase := .done }).event (192 + k))
  else .next s

/-- SECMB_DONE_CLEAR (R460, R461): ones free completed slots; event 196 when all four were busy. -/
def execSecmbDoneClear (v : Word) (s : State) : Out :=
  let free := (List.range 4).filter (fun k => bitOf v k && (s.mb k).phase == .done)
  let full := (List.range 4).all (fun k => (s.mb k).phase != .free)
  let s1 := free.foldl (fun t k => ((t.setB Reg.SECMB_DONE k false).mbFree k true).setMb k { t.mb k with phase := .free }) s
  .next (s1.eventIf (full && !free.isEmpty) 196)

/-! ### Random numbers, restart -/

/-- A request needs random bits (R472). -/
def needsRandom (svc : Nat) : Bool := [0x20, 0x23, 0x30, 0x41, 0x50, 0x51, 0x61].contains svc

/-- Requests in execution or waiting are refused with a reason, where a test of their slot holds (R464). -/
def State.refuseAll (s : State) (reason : Nat) (f : Nat → Bool) : State :=
  forRange 4 s (fun t k =>
    if ((t.mb k).phase == .running || (t.mb k).phase == .waiting) && f k then t.refuse k reason else t)

/-- TRNG_HEALTH_FAIL (R472): requests that need random bits are refused while the TRNG restarts; after three failures
in a row it stays failed. -/
def execTrngHealthFail (s : State) : Out :=
  let bad := s.cust.trngBad + 1
  let s1 := { s with cust := { s.cust with trngBad := bad, trngWait := true, trngDead := s.cust.trngDead || 3 ≤ bad } }
  let s2 := if 3 ≤ bad then s1.setB Reg.SECMB_LIFE 4 true else s1
  .next (s2.refuseAll 5 (fun k => needsRandom (s.mbSvc k) && (s.mb k).phase == .running))

/-- TRNG_RESTART_DONE (R472). -/
def execTrngRestartDone (s : State) : Out :=
  .next { s with cust := { s.cust with trngWait := s.cust.trngDead } }

/-- The persistent slots are loaded from the key store (R453, boot step 4). -/
def State.loadKeys (s : State) : State := { s with cust := { s.cust with keys := s.cust.store } }

/-- An enclave restart (R497). -/
def State.enclaveRestart (s : State) : State := (s.refuseAll 8 (fun _ => true)).loadKeys

/-! ### The link port -/

/-- LINK_PORT_CCM (R473): the key of a slot the link port may use, for sending or receiving. -/
def State.linkKey (s : State) (slot : Nat) (enc : Bool) : Option (List Byte) :=
  if (s.keyType slot == 1 || s.keyType slot == 2) && s.keyBit slot 18 && s.keyBit slot (if enc then 8 else 9) then
    some (s.keyBytes slot)
  else none

end Sys2Proof.Machine
end

