-- ==== Sys2Proof/Machine/Modem.lean ====
section
/-! DEFINITION. The air formats: sequences, header, coding, loading tables, mapping and air time (09). -/

namespace Sys2Proof.Machine

/-! ### Bits and sequences -/

/-- The 8 bits of a byte, least significant first (R236). -/
def byteBits (b : Byte) : List Bool := (List.range 8).map (fun i => b.getLsbD i)

/-- Bytes as bits in air order (R236). -/
def airBits (l : List Byte) : List Bool := l.flatMap byteBits

/-- `n` bits of the short sequence x⁷ + x⁴ + 1 from a 7-bit register. -/
def shortSeq : Nat → Nat → List Bool
  | 0, _ => []
  | n + 1, r =>
    let b := ((r >>> 6) ^^^ (r >>> 3)) % 2
    (b == 1) :: shortSeq n ((r * 2 + b) % 128)

/-- `n` bits of the preamble sequence x⁹ + x⁵ + 1 from a 9-bit register. -/
def preSeq : Nat → Nat → List Bool
  | 0, _ => []
  | n + 1, r =>
    let b := ((r >>> 8) ^^^ (r >>> 4)) % 2
    (b == 1) :: preSeq n ((r * 2 + b) % 512)

/-- The preamble values of the 104 used subcarriers in ascending order of k (R248). -/
def preambleValues : List Int := (preSeq 104 0x1FF).map (fun b => if b then -1 else 1)

/-- The used subcarriers (R245). -/
def usedCarriers : List Int := ((List.range 105).map (fun (i : Nat) => (i : Int) - 52)).filter (· != 0)

/-- The pilot subcarriers (R245). -/
def pilotCarriers : List Int := [-46, -33, -20, -7, 7, 20, 33, 46]

/-- The data carriers in ascending order of k: carrier d is entry d (R245). -/
def dataCarriers : List Int := usedCarriers.filter (fun k => !pilotCarriers.contains k)

/-- Preamble symbol P1: √2·s_k on even k, 0 on odd k (R248). -/
def preambleP1 : AirSymbol :=
  ⟨((usedCarriers.zip preambleValues).filter (fun p => p.1 % 2 == 0)).map (fun p => (p.1, .grid (2 * p.2) 0 2))⟩

/-- Preamble symbol P2: s_k on every used subcarrier (R248). -/
def preambleP2 : AirSymbol := ⟨(usedCarriers.zip preambleValues).map (fun p => (p.1, .grid p.2 0 1))⟩

/-- The samples of a symbol's transform, of its cyclic prefix, and their rate in samples per second (R244). -/
def symbolPoints : Nat := 128
/-- See `symbolPoints`. -/
def prefixPoints : Nat := 16
/-- See `symbolPoints`. -/
def sampleRate : Nat := 960000

/-- The spacing of the subcarriers, Hz (R244). -/
def carrierSpacing : Nat := sampleRate / symbolPoints

/-- Sample `n` of a symbol, 0 to 143, as the sum that the inverse transform makes of it (R244): each loaded subcarrier's
value, turned by a number of 128ths of a circle. The cyclic prefix is the last 16 samples of the transform. -/
def AirSymbol.sample (y : AirSymbol) (n : Nat) : List (AirPoint × Nat) :=
  let t := (n + symbolPoints - prefixPoints) % symbolPoints
  y.carriers.map (fun c => (c.2, (c.1 * (t : Int) % (symbolPoints : Int)).toNat))

/-- The pilots of symbol `n` (R249). -/
def pilotsOf (n : Nat) : List Int :=
  let q : Int := if ((shortSeq (n + 1) 0x7F).getLast?).getD false then -1 else 1
  ([1, -1, 1, 1, 1, 1, -1, 1] : List Int).map (· * q)

/-! ### Header -/

/-- CRC8 over header bits [39:0] (R251). -/
def headerCrc (h : Nat) : Nat :=
  (List.range 40).foldl (fun crc i =>
    let inp := (h >>> i) % 2 ^^^ (crc / 128)
    let sh := (crc * 2) % 256
    if inp % 2 == 1 then sh ^^^ 0x07 else sh) 0xFF

/-- A header from its fields, with its CRC8 (R250). -/
def mkHeader (type lt len : Nat) (chorus : Bool) (hop : Nat) : Nat :=
  let h := 1 + (type % 16) * 2 ^ 2 + (lt % 1024) * 2 ^ 6 + (len % 2048) * 2 ^ 16 + b2n chorus * 2 ^ 27 + (hop % 8) * 2 ^ 28
  h + headerCrc h * 2 ^ 40

/-- A field of a header. -/
def hdrFld (h lo len : Nat) : Nat := h / 2 ^ lo % 2 ^ len

/-- The header's check holds. -/
def headerOk (h : Nat) : Bool := headerCrc (h % 2 ^ 40) == hdrFld h 40 8

/-! ### Coding -/

/-- The two outputs of the convolutional code for an input bit and the six bits before it, the most recent first
(R254). -/
def convOut (b : Bool) (r : List Bool) : Bool × Bool :=
  let p (i : Nat) : Bool := (r[i]?).getD false
  (((b ^^ p 1) ^^ (p 2 ^^ p 4)) ^^ p 5, ((b ^^ p 0) ^^ (p 1 ^^ p 2)) ^^ p 5)

/-- The coded pairs of a bit string from a register (R254). -/
def convPairs : List Bool → List Bool → List (Bool × Bool)
  | [], _ => []
  | b :: t, r => convOut b r :: convPairs t (b :: r.take 5)

/-- The coded bits at rate 1/2, A before B. -/
def rateHalf (l : List (Bool × Bool)) : List Bool := l.flatMap (fun p => [p.1, p.2])

/-- The coded bits at rate 3/4: A1, B1, A2, B3 of each group of three (R255). -/
def rateThreeQuarters : List (Bool × Bool) → List Bool
  | a :: b :: c :: t => a.1 :: a.2 :: b.1 :: c.2 :: rateThreeQuarters t
  | [a, b] => [a.1, a.2, b.1]
  | [a] => [a.1, a.2]
  | [] => []

/-- The 96 coded bits of a header, tail-biting (R252). -/
def headerCoded (h : Nat) : List Bool :=
  let bits := (List.range 48).map (fun i => (h >>> i) % 2 == 1)
  rateHalf (convPairs bits ((bits.drop 42).reverse))

/-- The scrambler seed of a header (R253). -/
def scrambleSeed (h : Nat) : Nat := if hdrFld h 40 7 = 0 then 0x7F else hdrFld h 40 7

/-- The payload bits of a PSDU, scrambled and coded (R253 to R255). -/
def payloadCoded (h : Nat) (rate : Bool) (psdu : List Byte) : List Bool :=
  let bits := airBits psdu
  let scr := (bits.zip (shortSeq bits.length (scrambleSeed h))).map (fun p => p.1 ^^ p.2)
  let pairs := convPairs (scr ++ List.replicate 6 false) (List.replicate 6 false)
  if rate then rateThreeQuarters pairs else rateHalf pairs

/-! ### Loading tables -/

/-- The load code of data carrier `d` (R259). -/
def LoadTable.code (t : LoadTable) (d : Nat) : Nat := t.data / 2 ^ (3 * d) % 8

/-- The load codes of the 96 data carriers. -/
def LoadTable.codes (t : LoadTable) : List Nat := (List.range 96).map t.code

/-- B: the coded bits per payload symbol (R256). -/
def LoadTable.bits (t : LoadTable) : Nat := (t.codes.map (fun c => if c = 7 then 0 else c)).sum

/-- A table the store takes: no code 7, some bit loaded (R263). -/
def LoadTable.ok (t : LoadTable) : Bool := t.codes.all (· != 7) && t.bits != 0

/-- A table from its load codes. -/
def tableOf (rate : Bool) (codes : List Nat) : LoadTable :=
  { rate := rate, data := (codes.zipIdx.map (fun p => p.1 * 2 ^ (3 * p.2))).sum }

/-- Table id 0: every carrier BPSK at rate 1/2 (R260). -/
def table0 : LoadTable := tableOf false (List.replicate 96 1)

/-- The number of coded bits of `n` coded input bits (R255). -/
def codedBits (rate : Bool) (n : Nat) : Nat :=
  if rate then 4 * (n / 3) + (match n % 3 with | 0 => 0 | 1 => 2 | _ => 3) else 2 * n

/-- The payload symbols of a PSDU of `len` bytes (R256). -/
def LoadTable.symbols (t : LoadTable) (len : Nat) : Nat :=
  let b := max 1 t.bits
  (codedBits t.rate (8 * len + 6) + b - 1) / b

/-- The order in which carriers are visited (R257). -/
def carrierOrder : List Nat := (List.range 96).map (fun j => 13 * j % 96)

/-- The places of a symbol's coded bits: carrier and label bit (R257). -/
def LoadTable.places (t : LoadTable) : List (Nat × Nat) :=
  (List.range 6).flatMap (fun r => (carrierOrder.filter (fun d => r + 1 ≤ t.code d && t.code d != 7)).map (fun d => (d, r)))

/-- The label of each data carrier from a symbol's coded bits. -/
def labelsOf (places : List (Nat × Nat)) (bits : List Bool) : List Nat :=
  let set := (places.zip bits).filter (fun p => p.2)
  (List.range 96).map (fun d => ((set.filter (fun p => p.1.1 == d)).map (fun p => 2 ^ p.1.2)).sum)

/-! ### Mapping (R258) -/

/-- The 16-QAM level of two label bits, first bit first. -/
def qam4 (b0 b1 : Bool) : Int :=
  match b0, b1 with
  | false, false => -3 | false, true => -1 | true, true => 1 | true, false => 3

/-- The 64-QAM level of three label bits, first bit first. -/
def qam8 (b0 b1 b2 : Bool) : Int :=
  match b0, b1, b2 with
  | false, false, false => -7 | false, false, true => -5 | false, true, true => -3 | false, true, false => -1
  | true, true, false => 1 | true, true, true => 3 | true, false, true => 5 | true, false, false => 7

/-- The sign of an integer that is not 0. -/
def sgn (i : Int) : Int := if i < 0 then -1 else 1

/-- BPSK of a bit: +1 for 0, -1 for 1. -/
def bpsk (b : Bool) : Int := if b then -1 else 1

/-- The 32-cross-QAM point of a label, unscaled. -/
def cross32 (b : Nat → Bool) : Int × Int :=
  let i := qam4 (b 0) (b 1)
  let q := qam4 (b 2) (b 3)
  if b 4 then (if i.natAbs = 3 then (sgn i * 5, q) else (sgn i * (4 - (q.natAbs : Int)), sgn q * 5)) else (i, q)

/-- The point of a label under a load code, scaled to unit average power. -/
def mapPoint (code label : Nat) : AirPoint :=
  let b (i : Nat) : Bool := label.testBit i
  match code with
  | 1 => .grid (bpsk (b 0)) 0 1
  | 2 => .grid (bpsk (b 0)) (bpsk (b 1)) 2
  | 3 =>
    let g := 4 * b2n (b 2) + 2 * b2n (b 1) + b2n (b 0)
    .psk (g ^^^ (g >>> 1) ^^^ (g >>> 2))
  | 4 => .grid (qam4 (b 0) (b 1)) (qam4 (b 2) (b 3)) 10
  | 5 => .grid (cross32 b).1 (cross32 b).2 20
  | 6 => .grid (qam8 (b 0) (b 1) (b 2)) (qam8 (b 3) (b 4) (b 5)) 42
  | _ => .grid 0 0 1

/-- A symbol from its number, for the pilots, and the values of its data carriers. -/
def mkSymbol (n : Nat) (data : List AirPoint) : AirSymbol :=
  ⟨(pilotCarriers.zip (pilotsOf n)).map (fun p => (p.1, .grid p.2 0 1)) ++ dataCarriers.zip data⟩

/-- A payload symbol under a table. -/
def LoadTable.symbol (t : LoadTable) (n : Nat) (bits : List Bool) : AirSymbol :=
  mkSymbol n ((t.codes.zip (labelsOf t.places bits)).map (fun p => mapPoint p.1 p.2))

/-- The payload symbols from the coded stream, padded with zero bits (R256). -/
def LoadTable.payload (t : LoadTable) : Nat → Nat → List Bool → List AirSymbol
  | 0, _, _ => []
  | k + 1, n, l => t.symbol n (l.take t.bits) :: t.payload k (n + 1) (l.drop t.bits)

/-- A Gen 2 frame on the air: P1, P2, its header symbol and its payload symbols (R246). -/
def gen2Frame (header : Nat) (t : LoadTable) (psdu : List Byte) (power : Int) : AirFrame :=
  { gen2 := true, header := header, psdu := psdu, power := power,
    symbols := preambleP1 :: preambleP2 :: table0.symbol 0 (headerCoded header) ::
      t.payload (t.symbols psdu.length) 1 (payloadCoded header t.rate psdu) }

/-- A symbol of the rapid phase: 96 bits as BPSK in carrier order, the pilots of the header symbol (R510). -/
def rapidSymbol (bits : List Bool) (power : Int) : AirFrame :=
  { gen2 := true, psdu := [], power := power, symbols := [mkSymbol 0 (bits.map (fun b => .grid (bpsk b) 0 1))] }

/-- A ranging chirp: an up-sweep for 0, a down-sweep for 1 (R510). -/
def chirpFrame (bit : Bool) (power : Int) : AirFrame := { gen2 := true, psdu := [], chirp := some bit, power := power }

/-- The Gen 1 modulation: 2-GFSK, BT 0.5, modulation index 0.5, at 96,000 b/s (R237). -/
def gen1Gfsk : Gfsk := { rate := 96000, bt := 5, index := 5, zero := -24000, one := 24000 }

/-- The bits of a Gen 1 frame in air order (R239). -/
def gen1Bits (payload : List Byte) : List Bool :=
  airBits ([0x55, 0x55, 0x55, 0x55] ++ leBytes 4 0x9E5B3A7C ++ [byte payload.length] ++ payload ++
    leBytes 2 (crcX25 (byte payload.length :: payload)))

/-- A Gen 1 frame on the air. -/
def gen1Frame (payload : List Byte) (power : Int) : AirFrame :=
  { gen2 := false, psdu := payload, bits := gen1Bits payload, gfsk := some gen1Gfsk, power := power }

/-- The air time of a frame in µs (R331): symbols of 150 µs, or (11 + N) × 83.33 µs rounded up. -/
def airTime (gen2 : Bool) (t : LoadTable) (len : Nat) : Nat :=
  if gen2 then (3 + t.symbols len) * 150 else ((11 + len) * 250 + 2) / 3

/-- The highest load code whose threshold an SNR in 0.25 dB meets after the margin in dB (R264). -/
def deriveCode (rate : Bool) (snr margin : Nat) : Nat :=
  let th := if rate then [4, 7, 12, 14, 17, 20] else [2, 5, 9, 11, 14, 17]
  ((th.zipIdx.filter (fun p => 4 * (p.1 + margin) ≤ snr)).getLast?.map (fun p => p.2 + 1)).getD 0

/-! ### MAC header (R270) -/

/-- A received MAC frame taken apart: the frame control, addresses, counters, and the body with what follows it. -/
structure MacFrame where
  fc   : Nat
  seq  : Nat
  dst  : Nat
  src  : Nat
  fcnt : Nat
  kidx : Nat
  hdr  : List Byte
  body : List Byte
  mic  : List Byte

/-- FC.TYPE, and the flags of FC. -/
def MacFrame.type (f : MacFrame) : Nat := f.fc % 16
/-- FC.SEC. -/
def MacFrame.sec (f : MacFrame) : Bool := f.fc.testBit 4
/-- FC.ACK_REQ. -/
def MacFrame.ackReq (f : MacFrame) : Bool := f.fc.testBit 5
/-- FC.CHORUS. -/
def MacFrame.chorus (f : MacFrame) : Bool := f.fc.testBit 6

/-- The parts of a frame without its check sequence; too few bytes read as zeros. -/
def parseMac (l : List Byte) : MacFrame :=
  let sec := (field l 0 2).testBit 4
  let h := if sec then 13 else 8
  let n := if sec then l.length - 8 else l.length
  { fc := field l 0 2, seq := field l 2 2, dst := field l 4 2, src := field l 6 2,
    fcnt := if sec then field l 8 4 else 0, kidx := if sec then field l 12 1 else 0,
    hdr := l.take h, body := (l.take n).drop h, mic := if sec then l.drop n else [] }

/-- A MAC header without security (R270). -/
def macHeader (fc seq dst src : Nat) : List Byte := leBytes 2 fc ++ leBytes 2 seq ++ leBytes 2 dst ++ leBytes 2 src

end Sys2Proof.Machine
end

