-- ==== Sys2Proof/Machine/Front.lean ====
section
/-! DEFINITION. The front die: its states and strobes, frequencies, gain, tuner, ranging capture, the detection and
decoding of a frame's header, and the loading-table store (08, 09). -/

namespace Sys2Proof.Machine

/-! ### The state machine -/

/-- STATE of the front end. -/
def State.fsm (s : State) : Nat := s.rdF Reg.RADIO_FSM 0 3

/-- The link controller owns the radio: it is enabled and has an air operation in its table (R233). -/
def State.radioOwned (s : State) : Bool := s.bit Reg.LINK_CTRL 0 && s.link.ops.any (fun p => p.2.state != 0)

/-- The front die is powered: Spine-F is not DOWN and no side-band reset holds the die. -/
def State.frontPowered (s : State) : Bool := s.fsm != 0

/-- Receiving ends: detection starts afresh. -/
def State.frontIdle (s : State) : State :=
  { s with front := { s.front with stage := 0, header := 0, ref := 0, table := none } }

/-- The states that a change from STANDBY passes: TX is reached through SYNTH_SETTLE (R231). -/
def fromStandby (t : Nat) : List Nat := if t = 4 then [2, 4] else if t = 1 then [] else [t]

/-- The states that a commanded change passes, its end last: a row of the table "State transitions", or through STANDBY
(R231). -/
def frontPath (f t : Nat) : List Nat :=
  if t = 0 then [0]
  else if f = 1 then (if t = 1 then [1] else fromStandby t)
  else if (f = 2 && t = 4) || (f = 3 && (t = 3 || t = 4)) || (f = 4 && t = 3) then [t]
  else 1 :: fromStandby t

/-- One transition starts. Receive stops when RX is left, and the tuning tone with TUNE; a change to OFF turns the PA off at
once. -/
def State.startLeg (s : State) (t : FsmTarget) : State :=
  let s1 := if s.fsm = 3 then s.frontIdle else s
  let s2 := s1.setB Reg.RADIO_FSM 6 true
  { s2 with front := { s2.front with
      going := some t, tx := if t.state = 0 then none else s2.front.tx, tuning := none, tone := none } }

/-- The next transition of a change starts. -/
def State.nextLeg (s : State) : State :=
  match s.front.legs with
  | [] => s
  | t :: rest => { s with front := { s.front with legs := rest } }.startLeg t

/-- A commanded change starts (R231). -/
def State.startMove (s : State) (t : FsmTarget) : State :=
  { s with front := { s.front with legs := (frontPath s.fsm t.state).map (fun n => ⟨Fin.ofNat 8 n, t.lanes, t.path24⟩) } }.nextLeg

/-- A change the front die is told to make: held while a transition runs, the last one kept (R235). -/
def State.commandMove (s : State) (t : FsmTarget) : State :=
  if s.front.going.isSome then
    ({ s with front := { s.front with held := some t } }).satAdd Reg.RADIO_COUNT 6 6
  else s.startMove t

/-- The root error in units of 1/64000 ppb that the colophon curve gives at a temperature in 0.25 °C (R285). -/
def State.xtalError (s : State) (q : Int) : Int :=
  let r := s.cal.record
  let d := q - 100
  sfield r 0x0C 4 * 64000 + sfield r 0x10 2 * d * 1600 + sfield r 0x12 2 * d * d * 40 + sfield r 0x14 2 * d * d * d

/-- The synthesiser offset at a power-up of the front die: CHRON_RATE when synchronised and measured, else from the
colophon curve at CAL_TEMP.NOW (R292, R293). -/
def State.synthPowerUp (s : State) : State :=
  if !s.bit Reg.CAL_CTRL 3 then s
  else if s.bit Reg.CHRON_STATUS 0 && s.bit Reg.CHRON_SLEEP_ADJ 31 then
    s.wrF Reg.RADIO_SYNTH_OFS 0 24 (s.rdF Reg.CHRON_RATE 0 24)
  else
    let e := s.xtalError (signed 10 (s.rdF Reg.CAL_TEMP 0 10))
    s.wrF Reg.RADIO_SYNTH_OFS 0 24 (unsigned 24 (-(roundDiv (e * 2 ^ 32) 64000000000000)))

/-- The factory tuner codes of the frequency point nearest to a frequency: series and shunt (R285); 32 and 32
by default (R287). -/
def State.tunerCodes (s : State) (path24 : Bool) (khz : Nat) : Nat × Nat :=
  let base := if path24 then 0x8C else 0x68
  let lo := if path24 then 2400000 else 850000
  let top := if path24 then 16 else 17
  let k := min top ((khz - lo + 2500) / 5000)
  if s.cal.record.isEmpty then (32, 32)
  else (field s.cal.record (base + 2 * k) 1 % 64, field s.cal.record (base + 2 * k + 1) 1 % 64)

/-- The centre of a channel of the plan, kHz. -/
def State.planKhz (s : State) (c : Nat) : Nat := field (s.sec 7) (4 + 8 * c) 4

/-- The centre of the channel that a power-up is for; without an operation the lowest point of the path. -/
def State.loadKhz (s : State) (path24 : Bool) : Nat :=
  let base := if path24 then 2400000 else 850000
  match s.link.run with
  | some o => if decide (2400000 ≤ s.planKhz o.chan) == path24 then s.planKhz o.chan else base
  | none => base

/-- The tuner of a port starts from the factory codes of a channel (R285), with the return loss of the shadow (R288). -/
def State.tunerStart (s : State) (path24 : Bool) (khz : Nat) : State :=
  let c := s.tunerCodes path24 khz
  s.wr (if path24 then Reg.TUNER_24 else Reg.TUNER_SG)
    (word (c.1 + c.2 * 256 + (mapGet s.cal.losses (b2n path24)).getD 0 * 65536))

/-- The registers that a power-up loads: the tuner codes of the colophon for the channel, TUNE_THRESH, and the modem's
settings from the link sequence section; the calibration registers are the shadow itself (R288). -/
def State.frontLoad (s : State) : State :=
  let seq := s.sec 8
  let th := if (s.sec 12).isEmpty then 20 else field (s.sec 12) 4 1
  let s1 := (s.tunerStart false (s.loadKhz false)).tunerStart true (s.loadKhz true)
  let s2 := (s1.wr Reg.TUNER_THRESH (word (th % 64))).wrF Reg.MODEM_CFG 0 20
    (field seq 9 1 + field seq 10 1 * 2 ^ 8 + field seq 8 1 % 16 * 2 ^ 16)
  s2.synthPowerUp

/-- The front die is unpowered: its registers and its own state are lost, Spine-F is DOWN (R231), or stays STUCK (R669).
The strobes that wait for its next power-up stay. -/
def State.frontOff (s : State) : State :=
  let f := s.front
  let s1 := ((s.endSpine .front).spineDown .front).frontReset
  { s1 with front := { s1.front with strobes := f.strobes, held := f.held } }

/-- The states in which the synthesiser is locked: SYNTH_SETTLE, TX, TUNE and RANGE (R231). -/
def synthLocked (n : Nat) : Bool := n == 2 || n == 4 || n == 5 || n == 7

/-- TUNE is entered: the tone is on the air on the transmit frequency at -20 dBm, and a granted retune runs (R227, R228). -/
def State.enterTune (s : State) : State :=
  { s with front := { s.front with
      tuning := s.front.tuneGrant, tuneGrant := none, tone := some (s.rdF Reg.RADIO_TX_FREQ 0 22, -40) } }

/-- FRONT_TRANSITION_END (R232): event 96 and the new state; a power-up loads the shadow and the colophon (R288); at RX
entry the LNA takes the step chosen for it (R221); the change goes on, and after it a held strobe starts its own (R235). -/
def execFrontTransitionEnd (s : State) : Out :=
  match s.front.going with
  | none => .next s
  | some t =>
    let up := s.fsm == 0 && t.state != 0
    let s1 := { s with front := { s.front with going := none } }
    let s2 := if t.state = 0 then s1.frontOff else s1
    let s3 := if up then (if s2.spineState .front == 4 then s2 else s2.spineUp .front).frontLoad else s2
    let s4 := if t.state = 0 then s3 else
      s3.wrF Reg.RADIO_FSM 0 7 (t.state + b2n t.lanes * 8 + b2n t.path24 * 16)
    let s5 := if t.state = 3 then s4.wrF Reg.RADIO_LNA 0 2 s.front.lnaStep else s4
    let s6 := (if t.state = 5 then s5.enterTune else s5).setB Reg.RADIO_SYNTH_OFS 31 (synthLocked t.state)
    let s7 := s6.event 96
    if !s7.front.legs.isEmpty then .next s7.nextLeg
    else match s7.front.held with
      | some h => .next (({ s7 with front := { s7.front with held := none } }).startMove h)
      | none => .next s7

/-- RADIO_FSM_CMD (R233): applied at once when OWNER is 0, ignored and counted otherwise. -/
def execRadioFsmCmd (v : Word) (s : State) : Out :=
  if s.radioOwned then .next (s.satAdd Reg.RADIO_COUNT 12 6)
  else .next (s.commandMove ⟨⟨fld v 0 3, Nat.mod_lt _ (by decide)⟩, bitOf v 3, bitOf v 4⟩)

/-! ### Frequency, gain, power -/

/-- A centre frequency in kHz lies in a path range (R217). -/
def inPathRange (khz : Nat) : Bool := (850000 ≤ khz && khz ≤ 935000) || (2400000 ≤ khz && khz ≤ 2483500)

/-- RADIO_FREQ_WRITE (R217, R233). -/
def execRadioFreqWrite (tx : Bool) (v : Word) (s : State) : Out :=
  let khz := fld v 0 22
  if s.radioOwned then .next (s.satAdd Reg.RADIO_COUNT 12 6)
  else if !inPathRange khz then .next (s.satAdd Reg.RADIO_COUNT 18 4)
  else .next (s.wr (if tx then Reg.RADIO_TX_FREQ else Reg.RADIO_RX_FREQ) (word khz))

/-- SAMPLER_OVERLOAD (R220): event 107, the count, and one LNA step down when AUTO is 1. -/
def execSamplerOverload (s : State) : Out :=
  if s.fsm = 3 || s.fsm = 7 then
    let s1 := ((s.setB Reg.RADIO_STATUS 0 true).satAdd Reg.RADIO_COUNT 22 5).event 107
    if s1.bit Reg.RADIO_LNA 2 then .next (s1.wrF Reg.RADIO_LNA 0 2 (s1.rdF Reg.RADIO_LNA 0 2 - 1)) else .next s1
  else .next s

/-- The transmit maximum of the variant and path, in 0.5 dBm steps (R224). -/
def State.pathMax (s : State) (path24 : Bool) : Int :=
  if path24 then 20 else match s.variant with | .anchor => 32 | _ => 28

/-- The power of a transmission: the lowest of LEVEL, the band's MAX_PWR, the path maximum and, under the warning cap,
0 dBm (R111, R224). -/
def State.txPower (s : State) (path24 : Bool) (level bandMax : Int) : Int :=
  let p := min level (min bandMax (s.pathMax path24))
  if s.bit Reg.PWR_STATUS 0 && s.bit Reg.PWR_CTRL 8 then min p 0 else p

/-- The PA drive code for a power: the factory record's, at its points from -20 dBm in 2 dB (R285). -/
def State.paDrive (s : State) (path24 : Bool) (power : Int) : Nat :=
  let i := (power + 40).toNat
  if !s.cal.record.isEmpty && -40 ≤ power && i % 4 = 0 && i / 4 < 20 then field s.cal.record ((if path24 then 0x54 else 0x40) + i / 4) 1
  else Config.paCode path24 power

/-- The transmission in progress, if any, ends: event 103. -/
def State.endTx (s : State) : State :=
  if s.front.tx.isSome then ({ s with front := { s.front with tx := none } }).event 103 else s

/-- A transmission starts: its power is recorded and a limited one counted (R224), event 102. -/
def State.startTx (s : State) (f : AirFrame) (level : Int) : State :=
  let s1 := (s.wrF Reg.RADIO_PA 0 8 (unsigned 8 level)).wrF Reg.RADIO_PA 8 8
    (if f.power = level then s.rdF Reg.RADIO_PA 8 8 else unsigned 8 f.power)
  let s2 := if f.power = level then s1 else (s1.setB Reg.RADIO_STATUS 2 true).satAdd Reg.RADIO_COUNT 27 5
  ({ s2 with front := { s2.front with tx := some f } }).event 102

/-! ### Ranging capture and tuner -/

/-- RANGING_CAPTURE_END (R222): the samples, I and Q bytes in turn, are in the capture buffer from its start; event
108. -/
def execRangingCaptureEnd (samples : List Byte) (s : State) : Out :=
  if s.fsm = 7 then .next ((s.putBytes 0x50010000 (samples.take 65536)).event 108) else .next s

/-- The register of a port's tuner. -/
def tunerReg (path24 : Bool) : Nat := if path24 then Reg.TUNER_24 else Reg.TUNER_SG

/-- A return loss is recorded, in the register and in the shadow; event 120 (R288, R311). -/
def State.noteLoss (s : State) (path24 : Bool) (rl : Nat) : State :=
  let s1 := s.wrF (tunerReg path24) 16 8 rl
  ({ s1 with cal := { s1.cal with losses := mapIns (mapErase s1.cal.losses (b2n path24)) (b2n path24) rl } }).event 120

/-- RETURN_LOSS_LOW (R226): a return loss measured below TUNE_THRESH, recorded; event 105, and the tuner asks for a
gap, not within 64 slots of a failed retune (R230). -/
def State.measuredLoss (s : State) (path24 : Bool) (rl slot : Nat) : State :=
  let s1 := s.noteLoss path24 rl
  if s1.rdF Reg.TUNER_THRESH 0 6 ≤ rl then s1
  else
    let s2 := s1.event 105
    if slot < s2.link.tuneSlot then s2 else { s2 with link := { s2.link with tuneReq := some path24 } }

/-! ### Detection and headers -/

/-- DET_THRESH, signed dBm. -/
def State.detThresh (s : State) : Int := signed 8 (s.rdF Reg.MODEM_CFG 0 8)

/-- DETECT_STAGE1 (R265): in RX, outside a frame, a channel power in 0.5 dBm above DET_THRESH; event 97. -/
def execDetectStage1 (power : Int) (s : State) : Out :=
  if s.fsm = 3 then
    let s1 := s.wr Reg.RADIO_RSSI (word (unsigned 9 power))
    if s1.front.stage = 0 && 2 * s1.detThresh < power then
      .next (({ s1 with front := { s1.front with stage := 1 } }).event 97)
    else .next s1
  else .next s

/-- PREAMBLE_QUALIFIED (R265): after stage 1 the correlation exceeds QUAL_LEVEL / 256; event 98. -/
def execPreambleQualified (corr : Fin 256) (s : State) : Out :=
  if s.front.stage = 1 && s.rdF Reg.MODEM_CFG 8 8 < corr.val then
    .next ((({ s with front := { s.front with stage := 2, gen2 := true } }).wrF Reg.MODEM_QUAL 0 8 corr).event 98)
  else .next s

/-- DETECT_STAGE2_TIMEOUT (R266): stage 1 is not confirmed; QUAL_REJ. -/
def execDetectStage2Timeout (s : State) : Out :=
  if s.front.stage = 1 then .next ((s.frontIdle).satAdd Reg.MODEM_COUNT_DET 16 16) else .next s

/-- GEN1_SYNC_FOUND (R242): at most SYNC_ERR bits differ; `ref` is the instant of the length byte (R243). -/
def execGen1SyncFound (errors : Fin 33) (ref : Nat) (s : State) : Out :=
  if s.front.stage = 1 && errors.val ≤ s.rdF Reg.MODEM_CFG 20 2 then
    .next { s with front := { s.front with stage := 2, gen2 := false, ref := instant ref } }
  else .next s

/-- A loading table by id: table 0 is built in (R260). -/
def State.loadTable (s : State) (id : Nat) : Option LoadTable :=
  if id = 0 then some table0 else mapGet s.link.lts id

/-- The result of the last frame in MODEM_LAST. -/
def State.modemLast (s : State) (gen2 chorus sec : Bool) (result len : Nat) : State :=
  s.wr Reg.MODEM_LAST (word (b2n gen2 + b2n chorus * 2 + b2n sec * 4 + result * 16 + len % 2048 * 256))

/-- HEADER_DECODED (R250, R251): a header with its timing reference (R247). A failed CRC8 raises event 100 and counts
DET_FALSE and HDR_CRC (R266); another VERSION, or a table not held, drops the frame (R281, R283); otherwise event 99,
and the table is latched (R282). -/
def execHeaderDecoded (header : BitVec 48) (ref : Nat) (s : State) : Out :=
  let h := header.toNat
  if s.front.stage = 2 && s.front.gen2 then
    if !headerOk h then
      .next ((((s.frontIdle).modemLast true false false 1 0).satAdd Reg.MODEM_COUNT_DET 0 16).satAdd Reg.MODEM_COUNT_ERR 0 8 |>.event 100)
    else
      let s1 := (s.wr Reg.MODEM_HDR_LO (word h)).wr Reg.MODEM_HDR_HI (word (h / 2 ^ 32))
      let s2 := s1.event 99
      let chorus := hdrFld h 27 1 == 1
      if hdrFld h 0 2 != 1 then
        .next (((s2.frontIdle).modemLast true chorus false 2 (hdrFld h 16 11)).satAdd Reg.MODEM_COUNT_ERR 28 4)
      else
        match s2.loadTable (hdrFld h 6 10) with
        | none => .next (((s2.frontIdle).modemLast true chorus false 3 (hdrFld h 16 11)).satAdd Reg.MODEM_COUNT_ERR 16 8)
        | some t => .next { s2 with front := { s2.front with stage := 3, header := h, ref := instant ref, table := some t } }
  else .next s

/-! ### The loading-table store -/

/-- Entries of the store on this variant (R262). -/
def State.ltsCapacity (s : State) : Nat := match s.variant with | .anchor => 1024 | _ => 128

/-- What LTS_COUNT reads. -/
def State.ltsCount (s : State) : Word := word (s.link.lts.length + s.ltsCapacity * 2 ^ 16)

/-- The outcome of a store command; RATE, BITS and BUSY stay unless given. -/
def State.ltsCode (s : State) (code : Nat) : State := s.wrF Reg.LTS_RESULT 0 3 code

/-- The number of the table in LTS_DATA. -/
def State.ltsData (s : State) : Nat :=
  ((List.range 9).map (fun i => (s.rd (Reg.LTS_DATA i)).toNat * 2 ^ (32 * i))).sum

/-- A table goes into LTS_DATA, with its RATE and BITS in LTS_RESULT. -/
def State.ltsShow (s : State) (t : LoadTable) : State :=
  let s1 := forRange 9 s (fun u i => u.wr (Reg.LTS_DATA i) (word (t.data / 2 ^ (32 * i))))
  (s1.wrF Reg.LTS_RESULT 8 1 (b2n t.rate)).wrF Reg.LTS_RESULT 16 10 t.bits

/-- A table is put into the store under an id: the code of the outcome (R261, R263). -/
def State.ltsPut (s : State) (id : Nat) (t : LoadTable) : Nat × State :=
  if id = 0 then (3, s)
  else if !t.ok then (2, s)
  else if (mapGet s.link.lts id).isNone && s.ltsCapacity ≤ s.link.lts.length then (1, s)
  else (0, { s with link := { s.link with lts := mapIns (mapErase s.link.lts id) id t } })

/-- LTS_WRITE (R263, R284): LT_BUSY first. -/
def execLtsWrite (rate : Bool) (id : Fin 1024) (s : State) : Out :=
  if s.link.derive_.isSome then .next (s.ltsCode 5)
  else
    let t : LoadTable := { rate := rate, data := s.ltsData }
    let r := s.ltsPut id t
    .next ((r.2.wrF Reg.LTS_RESULT 16 10 t.bits).ltsCode r.1)

/-- LTS_READ (R284). -/
def execLtsRead (id : Fin 1024) (s : State) : Out :=
  if s.link.derive_.isSome then .next (s.ltsCode 5)
  else match s.loadTable id with
    | some t => .next ((s.ltsShow t).ltsCode 0)
    | none => .next (s.ltsCode 4)

/-- LTS_REMOVE (R284). -/
def execLtsRemove (id : Fin 1024) (s : State) : Out :=
  if s.link.derive_.isSome then .next (s.ltsCode 5)
  else if id.val = 0 then .next (s.ltsCode 3)
  else match mapGet s.link.lts id.val with
    | some _ => .next (({ s with link := { s.link with lts := mapErase s.link.lts id } }).ltsCode 0)
    | none => .next (s.ltsCode 4)

/-- LTS_DERIVE (R264, R284): the front-die reads start, BUSY is 1; LT_NOSNR when the front die cannot be read (R33). -/
def execLtsDerive (rate : Bool) (s : State) : Out :=
  if s.link.derive_.isSome then .next (s.ltsCode 5)
  else if s.spineState .front == 3 || s.spineState .front == 2 then
    .next (({ s with link := { s.link with derive_ := some rate } }).setB Reg.LTS_RESULT 31 true)
  else .next ((s.slip 0 0x03 0 0).ltsCode 6)

/-- The SNR of data carrier `d` in MODEM_SNR, 0.25 dB. -/
def State.modemSnr (s : State) (d : Nat) : Nat := s.rdF (Reg.MODEM_SNR (d / 4)) (8 * (d % 4)) 8

/-- LTS_DERIVE_DONE (R264, R284): the derived table is in LTS_DATA, nothing stored. -/
def execLtsDeriveDone (s : State) : Out :=
  match s.link.derive_ with
  | none => .next s
  | some rate =>
    let s1 := ({ s with link := { s.link with derive_ := none } }).setB Reg.LTS_RESULT 31 false
    if s.spineState .front == 3 then
      let t := tableOf rate ((List.range 96).map (fun d => deriveCode rate (s.modemSnr d) (s.rdF Reg.MODEM_CFG 16 4)))
      .next ((s1.ltsShow t).ltsCode 0)
    else .next ((s1.slip 0 0x03 0 0).ltsCode 6)

end Sys2Proof.Machine
end

