-- ==== Sys2Proof/Machine/Queue.lean ====
section
/-! DEFINITION. The queue engine: cells, queues, commands with tags and completions, scheduling and bulk setup (12). -/

namespace Sys2Proof.Machine

/-! ### Descriptors, cells, frames -/

/-- A queue's descriptor. -/
def State.qd (s : State) (q : Nat) : QDesc := (mapGet s.qe.desc q).getD {}

/-- Replace a queue's descriptor. -/
def State.setQd (s : State) (q : Nat) (d : QDesc) : State :=
  { s with qe := { s.qe with desc := mapPut {} s.qe.desc q d } }

/-- A cell's link word. -/
def State.linkWord (s : State) (c : Nat) : Cell := (mapGet s.qe.cells c).getD {}

/-- Replace a cell's link word. -/
def State.setCell (s : State) (c : Nat) (w : Cell) : State :=
  { s with qe := { s.qe with cells := mapPut {} s.qe.cells c w } }

/-- The number of cells the variant's pool holds. -/
def State.cellCount (s : State) : Nat :=
  match s.variant with
  | .anchor => 4096 | .label => 1024 | .keeper => 512

/-- The address of a cell's frame bytes. -/
def cellBytes (c : Nat) : Nat := 0x22000004 + 128 * c

/-- The code of a queue state (R362). -/
def qStateCode : QState → Nat
  | .disabled => 0 | .enabled => 1 | .paused => 2 | .draining => 3

/-- The queue state of a code. -/
def qStateOf : Nat → QState
  | 1 => .enabled | 2 => .paused | 3 => .draining | _ => .disabled

/-- The code of a cell's owner (R363). -/
def ownerCode : Owner → Nat
  | .free => 0 | .owned => 1 | .queued => 2

/-- The two words of a descriptor as queue memory reads (R362). -/
def State.qdWord (s : State) (q : Nat) (second : Bool) : Word :=
  let d := s.qd q
  if second then
    word (d.depth + d.cls * 2 ^ 12 + qStateCode d.state * 2 ^ 16 + b2n d.ovf * 2 ^ 18 + b2n d.inRing * 2 ^ 19)
  else word (d.head + d.tail * 2 ^ 16)

/-- A cell's link word as the buffer pool reads (R363). -/
def cellWord (c : Cell) : Word :=
  word (c.next + c.used * 2 ^ 16 + b2n c.end_ * 2 ^ 23 + ownerCode c.own * 2 ^ 24)

/-- The cells of the frame that starts at a cell, up to its END within a number of cells; none when it has no END. -/
def State.frameCells (s : State) : Nat → Nat → Option (List Nat)
  | 0, _ => none
  | n + 1, c =>
    if (s.linkWord c).end_ then some [c]
    else match s.frameCells n (s.linkWord c).next with
      | some t => some (c :: t)
      | none => none

/-- The cells of a frame of a queue, whose chain the engine keeps whole. -/
def State.frame (s : State) (c : Nat) : List Nat := (s.frameCells 17 c).getD []

/-- The length of a frame: the sum of USED over its cells. -/
def State.frameLen (s : State) (c : Nat) : Nat := ((s.frame c).map (fun i => (s.linkWord i).used)).sum

/-- The bytes of a frame. -/
def State.frameBytes (s : State) (c : Nat) : List Byte :=
  (s.frame c).flatMap (fun i => s.bytesAt (cellBytes i) (s.linkWord i).used)

/-- Write bytes into cells, 124 to a cell. -/
def State.fillCells (s : State) : List Nat → List Byte → State
  | [], _ => s
  | c :: t, bs => (s.putBytes (cellBytes c) (bs.take 124)).fillCells t (bs.drop 124)

/-- Every cell of a list takes an owner; FREE cells return to the free list. A frame that leaves its queue is no longer
one that the link controller has secured (R328). -/
def State.ownCells (s : State) (cs : List Nat) (o : Owner) : State :=
  let left := { s with link := { s.link with secured := s.link.secured.filter (fun c => !cs.contains c) } }
  match o with
  | .free => cs.foldl (fun t c => t.setCell c {}) left
  | .owned => cs.foldl (fun t c => t.setCell c { t.linkWord c with own := .owned }) left
  | .queued => cs.foldl (fun t c => t.setCell c { t.linkWord c with own := .queued }) s

/-- A frame that starts at a cell whose cells are all OWNED and number at most 17 (R368, R374). -/
def State.ownedFrame (s : State) (c : Nat) : Option (List Nat) :=
  match s.frameCells 17 c with
  | some cs => if cs.all (fun i => decide ((s.linkWord i).own = .owned)) then some cs else none
  | none => none

/-! ### Classes, rings, events -/

/-- WEIGHT of a class. -/
def State.weight (s : State) (c : Nat) : Nat := s.rdF (Reg.QE_WEIGHT c) 0 8

/-- A class's frame count changes; rising from 0 or to THRESH raises its event (R384). -/
def State.classFrames (s : State) (c : Nat) (n : Nat) (events : Bool) : State :=
  let old := s.rdF (Reg.QE_CLASS c) 0 13
  let th := s.rdF (Reg.QE_WEIGHT c) 16 16
  let s1 := s.wrF (Reg.QE_CLASS c) 0 13 n
  (s1.eventIf (events && old == 0 && n != 0) (128 + c)).eventIf (events && decide (old < th) && decide (th ≤ n)) (144 + c)

/-- The service ring of a class (R381). -/
def State.ring (s : State) (c : Nat) : List Nat := (mapGet s.qe.rings c).getD []

/-- Replace a service ring; N_c shows its length. A class that stops being eligible loses its remaining grants of the round
(R381). -/
def State.setRing (s : State) (c : Nat) (l : List Nat) : State :=
  ({ s with qe := { s.qe with
      rings := mapPut [] s.qe.rings c l,
      roundLeft := if l.isEmpty && c == s.qe.roundCls then 0 else s.qe.roundLeft } }).wrF (Reg.QE_CLASS c) 16 13 l.length

/-- A queue is served: ENABLED or DRAINING, and not empty. -/
def QDesc.served (d : QDesc) : Bool := (d.state == .enabled || d.state == .draining) && d.depth != 0

/-- A DRAINING queue that is empty is DISABLED (R376). -/
def QDesc.settled (d : QDesc) : QDesc :=
  if d.state == .draining && d.depth == 0 then { d with state := .disabled } else d

/-- Give a queue a descriptor: R376, and the queue joins the tail of its class's ring when it becomes eligible and
leaves the ring when it stops being so or changes class (R381). -/
def State.putQ (s : State) (q : Nat) (d : QDesc) : State :=
  let old := s.qd q
  let d := d.settled
  let leaves := old.inRing && (!d.served || d.cls != old.cls)
  let joins := d.served && (!old.inRing || d.cls != old.cls)
  let s1 := if leaves then s.setRing old.cls ((s.ring old.cls).filter (· != q)) else s
  let s2 := if joins then s1.setRing d.cls (s1.ring d.cls ++ [q]) else s1
  s2.setQd q { d with inRing := d.served }

/-! ### Allocation (R367, R368) -/

/-- The pool bank of a cell is not yet restored (R387). -/
def State.darkCell (s : State) (c : Nat) : Bool := s.pwr.dark.contains (8 + c / 512)

/-- The cells on the free list that can be taken, lowest first (notes/assumptions/10.md). -/
def State.freeCells (s : State) : List Nat :=
  (List.range s.cellCount).filter (fun c => decide ((s.linkWord c).own = .free) && !s.darkCell c)

/-- The chain an ALLOC of `len` bytes makes of its cells. -/
def State.linkCells (s : State) : List Nat → Nat → State
  | [], _ => s
  | [c], len => s.setCell c { next := 0xFFFF, used := len, end_ := true, own := .owned }
  | c :: d :: t, len =>
    (s.setCell c { next := d, used := 124, end_ := false, own := .owned }).linkCells (d :: t) (len - 124)

/-- ALLOC (R367): a status code, the first cell, and the state after it. Codes of the table "Queue statuses". -/
def State.alloc (s : State) (len : Nat) : Nat × Nat × State :=
  if len = 0 || 2047 < len then (0x0D, 0, s)
  else
    let n := (len + 123) / 124
    let cs := s.freeCells.take n
    if cs.length < n then (0x0C, 0, s)
    else (0, cs.headD 0, s.linkCells cs len)

/-- RELEASE (R368): a status code and the state after it. -/
def State.releaseFrame (s : State) (c : Nat) : Nat × State :=
  match s.ownedFrame c with
  | some cs => (0, s.ownCells cs .free)
  | none => (0x05, s)

/-! ### Commands (R373 to R376) -/

/-- The queue engine is enabled in section 0x01. -/
def State.qeOn (s : State) : Bool := s.enabled 3

/-- A queue's bank is present and in QBANK_EN (R366). -/
def State.queueOk (s : State) (q : Nat) : Bool := s.present (q / 8192) && (s.qe.qbankEn >>> (q / 8192)) % 2 == 1

/-- DEPTH_LIMIT, 0 taken as 1. -/
def State.depthLimit (s : State) : Nat := max 1 (s.rdF Reg.QE_CFG 0 12)

/-- The outcome of a command: status, word 1 of the completion, and the state. -/
structure QRes where
  status : Nat
  word1  : Nat
  s      : State
  deriving DecidableEq, Repr

/-- What a completion shows: word 1 is the table's for OK and free for any other status (R373, R377). -/
def QRes.shown (r : QRes) : QRes :=
  ⟨r.status, r.s.openVal (r.status == 0) r.word1 (2 ^ 32), r.s.openTaken (r.status == 0)⟩

/-- Q_FULL: OVF is set and the completion counted (R374). -/
def State.qFull (s : State) (q : Nat) : QRes :=
  ⟨0x07, 0, (s.setQd q { s.qd q with ovf := true }).satAdd Reg.QE_COUNT 24 8⟩

/-- Append a frame, whose cells become QUEUED, to the tail of a queue; `rise` says that its class's count rises. -/
def State.append (s : State) (q : Nat) (cs : List Nat) (rise : Bool) : State :=
  let s1 := s.ownCells cs .queued
  let d := s1.qd q
  let s2 := if d.depth = 0 then s1 else s1.setCell d.tail { s1.linkWord d.tail with next := cs.headD 0 }
  let s3 := s2.putQ q { d with
    head := if d.depth = 0 then cs.headD 0 else d.head, tail := cs.getLastD 0, depth := d.depth + 1 }
  s3.classFrames d.cls (s3.rdF (Reg.QE_CLASS d.cls) 0 13 + 1) rise

/-- A queue's head frame leaves it: its retries are over (R327). -/
def State.dropRetries (s : State) (q : Nat) : State :=
  { s with link := { s.link with retries := mapErase s.link.retries q } }

/-- Take the head frame off a queue; its cells keep their owner. -/
def State.unlinkHead (s0 : State) (q : Nat) : State :=
  let s := s0.dropRetries q
  let d := s.qd q
  let cs := s.frame d.head
  let last := cs.getLastD 0
  let next := (s.linkWord last).next
  let s1 := s.setCell last { s.linkWord last with next := 0xFFFF }
  let s2 := s1.putQ q { d with
    head := if d.depth ≤ 1 then 0xFFFF else next, tail := if d.depth ≤ 1 then 0xFFFF else d.tail, depth := d.depth - 1 }
  s2.classFrames d.cls (s2.rdF (Reg.QE_CLASS d.cls) 0 13 - 1) false

/-- A queue's head frame is held by the LINK port (R398). -/
def State.headHeld (s : State) (q : Nat) : Bool := s.qe.holds.contains q

/-- The hold of a queue ends; a FLUSH that waited for it frees the frame and counts it (R399). -/
def State.endHold (s : State) (q : Nat) : State :=
  let s1 : State := { s with qe := { s.qe with holds := s.qe.holds.filter (· != q) } }
  if s.qe.flushDue.contains q then
    let s2 : State := { s1 with qe := { s1.qe with flushDue := s1.qe.flushDue.filter (· != q) } }
    let cs := s2.frame (s2.qd q).head
    ((s2.unlinkHead q).ownCells cs .free).satAdd Reg.QE_COUNT 0 16
  else s1

/-- A frame that was to enter a queue flushed in the same cycle is freed and counted: FLUSHED (R396). -/
def State.freeFlushed (s : State) (cs : List Nat) : QRes :=
  ⟨0x0A, 0, (s.ownCells cs .free).satAdd Reg.QE_COUNT 0 16⟩

/-- ENQUEUE (R373, R374); `fl`: the queue is flushed in the same cycle (R396). -/
def State.qEnqueue (s : State) (q cell : Nat) (fl : Bool) : QRes :=
  let d := s.qd q
  if d.state == .disabled || d.state == .draining then ⟨0x08, 0, s⟩
  else if s.depthLimit ≤ d.depth then s.qFull q
  else match s.ownedFrame cell with
    | none => ⟨0x05, 0, s⟩
    | some cs => if fl then s.freeFlushed cs else ⟨0, d.depth + 1, s.append q cs true⟩

/-- DEQUEUE (R373, R375, R398, R399); `link` says the port is LINK. -/
def State.qDequeue (s : State) (link : Bool) (q : Nat) (keep : Bool) : QRes :=
  let d := s.qd q
  if d.depth = 0 then ⟨0x06, 0, s⟩
  else if s.headHeld q && !link then ⟨0x0B, 0, s⟩
  else if s.qe.flushDue.contains q then ⟨0x0A, 0, s.endHold q⟩
  else
    let cs := s.frame d.head
    let len := s.frameLen d.head
    let s1 : State := if link then { s with qe := { s.qe with holds := s.qe.holds.filter (· != q) } } else s
    let s2 := (s1.unlinkHead q).ownCells cs (if keep then .owned else .free)
    ⟨0, (if keep then d.head else 0xFFFF) + len * 2 ^ 16, s2⟩

/-- PEEK (R373, R375); on the LINK port it holds the head frame (R398). -/
def State.qPeek (s : State) (link : Bool) (q : Nat) : QRes :=
  let d := s.qd q
  if d.depth = 0 then ⟨0x06, 0, s⟩
  else
    let s1 : State :=
      if link && !s.headHeld q then { s with qe := { s.qe with holds := s.qe.holds ++ [q] } } else s
    ⟨0, d.head + s.frameLen d.head * 2 ^ 16, s1⟩

/-- MOVE (R373 to R375, R398); within a class no count rises (R384). `fl`: DSTQ is flushed in the same cycle (R396). -/
def State.qMove (s : State) (link : Bool) (q dst : Nat) (fl : Bool) : QRes :=
  let d := s.qd q
  let e := s.qd dst
  if d.depth = 0 then ⟨0x06, 0, s⟩
  else if s.headHeld q && !link then ⟨0x0B, 0, s⟩
  else if e.state == .disabled || e.state == .draining then ⟨0x08, 0, s⟩
  else if s.depthLimit ≤ e.depth then s.qFull dst
  else
    let cs := s.frame d.head
    let s1 : State := { s with qe := { s.qe with holds := s.qe.holds.filter (· != q) } }
    if fl then (s1.unlinkHead q).freeFlushed cs
    else
      let s2 := (s1.unlinkHead q).append dst cs (d.cls != e.cls)
      ⟨0, (s2.qd dst).depth, s2⟩

/-- Free the frames of a queue from the head until it is empty. -/
def State.freeFrames (s : State) (q : Nat) : Nat → State
  | 0 => s
  | n + 1 =>
    let cs := s.frame (s.qd q).head
    ((s.unlinkHead q).ownCells cs .free).freeFrames q n

/-- Free the frame behind the head of a queue. -/
def State.freeSecond (s : State) (q : Nat) : State :=
  let d := s.qd q
  let last := (s.frame d.head).getLastD 0
  let cs := s.frame (s.linkWord last).next
  let next := (s.linkWord (cs.getLastD 0)).next
  let s1 := s.setCell last { s.linkWord last with next := if d.depth ≤ 2 then 0xFFFF else next }
  let s2 := s1.putQ q { d with tail := if d.depth ≤ 2 then last else d.tail, depth := d.depth - 1 }
  (s2.classFrames d.cls (s2.rdF (Reg.QE_CLASS d.cls) 0 13 - 1) false).ownCells cs .free

/-- Free the frames behind the head of a queue, `n` of them. -/
def State.freeRest (s : State) (q : Nat) : Nat → State
  | 0 => s
  | n + 1 => (s.freeSecond q).freeRest q n

/-- FLUSH (R373, R399): every frame is freed and counted and OVF cleared; a held head frame waits for its hold's
end. -/
def State.qFlush (s : State) (q : Nat) : QRes :=
  let d := s.qd q
  let s0 := s.setQd q { d with ovf := false }
  if s.headHeld q && d.depth != 0 then
    let s1 := s0.freeRest q (d.depth - 1)
    let s2 : State := { s1 with qe := { s1.qe with flushDue := if s1.qe.flushDue.contains q then s1.qe.flushDue else s1.qe.flushDue ++ [q] } }
    ⟨0, d.depth - 1, s2.satAdd Reg.QE_COUNT 0 16 (d.depth - 1)⟩
  else ⟨0, d.depth, (s0.freeFrames q d.depth).satAdd Reg.QE_COUNT 0 16 d.depth⟩

/-- The service rings as they stand before the first PAUSE of the cycle (R400). -/
def State.keepRings (s : State) : State :=
  if s.cyc.rings.isSome then s
  else { s with cyc := { s.cyc with rings := some (s.qe.rings, s.qe.roundCls, s.qe.roundLeft) } }

/-- PAUSE (R373, R376); a grant of the same cycle still sees the queue as it was (R400). -/
def State.qPause (s : State) (q : Nat) (drain : Bool) : QRes :=
  let s1 := s.keepRings.putQ q { s.qd q with state := if drain then .draining else .paused }
  ⟨0, qStateCode (s1.qd q).state * 2 ^ 16, s1⟩

/-- A queue takes a class: its frames count in the new class, whose count may rise (R384). -/
def State.reclass (s : State) (q c : Nat) : State :=
  let d := s.qd q
  if d.cls = c then s
  else
    let s1 := s.classFrames d.cls (s.rdF (Reg.QE_CLASS d.cls) 0 13 - d.depth) false
    let s2 := s1.classFrames c (s1.rdF (Reg.QE_CLASS c) 0 13 + d.depth) true
    s2.putQ q { d with cls := c }

/-- RESUME (R373, R375). -/
def State.qResume (s : State) (q c : Nat) (clr : Bool) : QRes :=
  if s.weight c = 0 then ⟨0x09, 0, s⟩
  else
    let s1 := s.reclass q c
    let d := s1.qd q
    let s2 := s1.putQ q { d with state := .enabled, ovf := d.ovf && !clr }
    ⟨0, qStateCode .enabled * 2 ^ 16, s2⟩

/-- The effect of a command on its queue, in the cycle it is taken (R373), in which some queues are flushed (R396). -/
def State.qEffect (s : State) (port : Nat) (c : QCmd) (flushed : List Nat) : QRes :=
  let link := port == 1
  if !s.queueOk c.queue || (c.cmd == 4 && !s.queueOk c.arg) then ⟨0x04, 0, s⟩
  else match c.cmd with
    | 1 => s.qEnqueue c.queue c.arg (flushed.contains c.queue)
    | 2 => s.qDequeue link c.queue c.flag
    | 3 => s.qPeek link c.queue
    | 4 => s.qMove link c.queue c.arg (flushed.contains c.arg)
    | 5 => s.qFlush c.queue
    | 6 => s.qPause c.queue c.flag
    | _ => s.qResume c.queue c.cls c.flag

/-- The lowest free tag of a port (R372). -/
def State.freeTag (s : State) (port : Nat) : Option Nat :=
  (List.range 64).find? (fun t => !s.qe.tags.contains (port, t))

/-- A command's bank is not yet restored (R387). -/
def State.cmdDark (s : State) (c : QCmd) : Bool :=
  s.pwr.dark.contains (c.queue / 8192) || (c.cmd == 4 && s.pwr.dark.contains (c.arg / 8192))

/-- A taken command runs, and its completion waits to be posted. -/
def State.qRun (s : State) (port tag : Nat) (c : QCmd) (flushed : List Nat) : State :=
  let r := (s.qEffect port c flushed).shown
  { r.s with qe := { r.s.qe with done := r.s.qe.done ++ [⟨port, tag, c, r.status, r.word1⟩] } }

/-- SUBMIT on a port: refused with FULL, OFF or BAD_CMD before any side effect (R371); otherwise it takes the lowest
tag and runs, or waits for its bank (R387). The code, the tag and the state. -/
def State.qSubmit (s : State) (port : Nat) (c : QCmd) (flushed : List Nat) : Nat × Nat × State :=
  match s.freeTag port with
  | none => (0x01, 0, s.satAdd Reg.QE_COUNT 16 8)
  | some t =>
    if !s.qeOn then (0x03, 0, s)
    else if c.cmd = 0 then (0x02, 0, s)
    else
      let s1 : State := { s with qe := { s.qe with tags := s.qe.tags ++ [(port, t)] } }
      if s.cmdDark c then (0, t, { s1 with qe := { s1.qe with waitCmd := s1.qe.waitCmd ++ [(port, t, c)] } })
      else (0, t, s1.qRun port t c flushed)

/-- The outcome of a CPU-port SUBMIT in QE_CPU_ACCEPT; TAG is valid when CODE is OK, else free. -/
def State.cpuAccept (s : State) (m : Master) (r : Nat × Nat × State) : State :=
  (r.2.2.openTaken (r.1 == 0)).wr Reg.QE_CPU_ACCEPT (word (r.1 + r.2.2.openVal (r.1 == 0) r.2.1 64 * 2 ^ 8 + masterId m * 2 ^ 16 +
    ((s.rdF Reg.QE_CPU_ACCEPT 24 8 + 1) % 256) * 2 ^ 24))

/-- A submission on a port; on the CPU port its outcome is in QE_CPU_ACCEPT. In sleep the queue engine takes none
(R386). -/
def State.qePort (s : State) (port : Fin 4) (m : Master) (c : QCmd) (flushed : List Nat) : State :=
  if s.asleep then s
  else
    let r := s.qSubmit port c flushed
    if port = 0 then s.cpuAccept m r else r.2.2

/-- The place of a command among those taken in one cycle: FLUSH first, then by port LINK, HIF, MOVER, CPU (R396,
R397). -/
def cmdRank (p : PortCmd) : Nat := (if p.cmd.cmd == 5 then 0 else 4) + (p.port.val + 3) % 4

/-- A submission is a FLUSH that is taken and runs. -/
def State.flushes (s : State) (p : PortCmd) : Bool :=
  p.cmd.cmd == 5 && s.qeOn && !s.asleep && (s.freeTag p.port).isSome && !s.cmdDark p.cmd && s.queueOk p.cmd.queue

/-- Submissions of one cycle, in their order, with the queues that the cycle has flushed so far. -/
def State.qeTake (s : State) (flushed : List Nat) : List PortCmd → State
  | [] => s
  | p :: t =>
    (s.qePort p.port p.m p.cmd flushed).qeTake (if s.flushes p then p.cmd.queue :: flushed else flushed) t

/-- The commands that the ports submit in one SYSCLK cycle (R372, R396, R397); of a port that comes twice the first stands,
and a debug master that is locked submits nothing
and gets an error answer. -/
def State.qeCycle (s : State) (p : PortCmd) (beside : List PortCmd) : State :=
  let others := [0, 1, 2, 3].filterMap (fun k =>
    beside.find? (fun b => b.port == k && b.port != p.port && !(b.port == 0 && s.locked b.m)))
  let own := if s.locked p.m then [] else [p]
  (if s.locked p.m then s.answerError else s).qeTake []
    ((List.range 8).flatMap (fun r => (own ++ others).filter (fun x => cmdRank x == r)))

/-- QE_ENQUEUE (R373, R374). -/
def execQeEnqueue (port : Fin 4) (m : Master) (queue cell : Fin 65536) (beside : List PortCmd) (s : State) : Out :=
  .next (s.qeCycle ⟨port, m, { cmd := 1, queue := queue, arg := cell }⟩ beside)

/-- QE_DEQUEUE (R373, R375). -/
def execQeDequeue (port : Fin 4) (m : Master) (queue : Fin 65536) (keep : Bool) (beside : List PortCmd) (s : State) : Out :=
  .next (s.qeCycle ⟨port, m, { cmd := 2, flag := keep, queue := queue }⟩ beside)

/-- QE_PEEK (R373, R398). -/
def execQePeek (port : Fin 4) (m : Master) (queue : Fin 65536) (beside : List PortCmd) (s : State) : Out :=
  .next (s.qeCycle ⟨port, m, { cmd := 3, queue := queue }⟩ beside)

/-- QE_MOVE (R373, R374). -/
def execQeMove (port : Fin 4) (m : Master) (queue dstq : Fin 65536) (beside : List PortCmd) (s : State) : Out :=
  .next (s.qeCycle ⟨port, m, { cmd := 4, queue := queue, arg := dstq }⟩ beside)

/-- QE_FLUSH (R373, R399). -/
def execQeFlush (port : Fin 4) (m : Master) (queue : Fin 65536) (beside : List PortCmd) (s : State) : Out :=
  .next (s.qeCycle ⟨port, m, { cmd := 5, queue := queue }⟩ beside)

/-- QE_PAUSE (R373, R376). -/
def execQePause (port : Fin 4) (m : Master) (queue : Fin 65536) (drain : Bool) (beside : List PortCmd) (s : State) : Out :=
  .next (s.qeCycle ⟨port, m, { cmd := 6, flag := drain, queue := queue }⟩ beside)

/-- QE_RESUME (R373, R375). -/
def execQeResume (port : Fin 4) (m : Master) (queue : Fin 65536) (cls : Fin 16) (clr : Bool) (beside : List PortCmd) (s : State) : Out :=
  .next (s.qeCycle ⟨port, m, { cmd := 7, flag := clr, cls := cls, queue := queue }⟩ beside)

/-! ### Completions -/

/-- Word 0 of a completion entry (R377). -/
def QDone.word0 (d : QDone) : Word := word (d.tag + d.cmd.cmd * 2 ^ 8 + d.status * 2 ^ 11 + d.cmd.queue * 2 ^ 16)

/-- A port's producer index. -/
def State.portPi (s : State) (port : Nat) : Nat :=
  if port = 0 then s.rdF Reg.QE_CPU_RING_PI 0 7 else (mapGet s.qe.pis port).getD 0

/-- Post a completion to its port's ring. The CPU port's tag is held until software consumes the entry (R370, R379);
the other ports consume theirs in hardware. -/
def State.postDone (s : State) (d : QDone) : State :=
  let pi := s.portPi d.port
  let s1 : State := { s with qe := { s.qe with
    ringMem := mapPut (0, 0) s.qe.ringMem (64 * d.port + pi % 64) (d.word0, word d.word1) } }
  if d.port = 0 then
    ({ s1 with qe := { s1.qe with unread := s1.qe.unread ++ [(pi, d.tag)] } }).wrF Reg.QE_CPU_RING_PI 0 7 (pi + 1)
  else
    { s1 with qe := { s1.qe with
      tags := s1.qe.tags.filter (· != (d.port, d.tag)), pis := mapPut 0 s1.qe.pis d.port ((pi + 1) % 128) } }

/-- The oldest completion of a port is posted. -/
def State.postOldest (s : State) (port : Nat) : State :=
  match s.qe.done.find? (fun d => d.port == port) with
  | some d => { s with qe := { s.qe with done := s.qe.done.erase d } }.postDone d
  | none => s

/-- QE_COMPLETION_POSTED: the oldest completion of a port is posted (R379), but not in sleep (R386). -/
def execQeCompletionPosted (port : Fin 4) (s : State) : Out :=
  if s.asleep then .next s else .next (s.postOldest port)

/-- A hardware port can take a command: a tag is free, or a completion of its own can be posted to free one. -/
def State.portReady (s : State) (port : Nat) : Bool := (s.freeTag port).isSome || s.qe.done.any (fun d => d.port == port)

/-- A command of a hardware port waits: for a bank not yet restored (R387), or for a tag (R371). -/
def State.qeWaits (s : State) (port : Nat) (c : QCmd) : Bool := s.qeOn && (s.cmdDark c || !s.portReady port)

/-- A hardware port that meets FULL, counted, presents its command again once a completion has freed a tag (R371, R575). -/
def State.makeRoom (s : State) (port : Nat) : State :=
  match s.freeTag port with
  | some _ => s
  | none => (s.satAdd Reg.QE_COUNT 16 8).postOldest port

/-- A hardware port runs a command to its completion at once: the status, word 1 and the state (R379). -/
def State.qeNow (s : State) (port : Nat) (c : QCmd) : QRes :=
  if !s.qeOn then (⟨0x03, 0, s⟩ : QRes).shown
  else
    let s0 := s.makeRoom port
    match s0.freeTag port with
    | none => (⟨0x01, 0, s0⟩ : QRes).shown
    | some tag =>
      let r := (s0.qEffect port c []).shown
      ⟨r.status, r.word1, r.s.postDone ⟨port, tag, c, r.status, r.word1⟩⟩

/-- QE_RING_CI_WRITE: completions up to the new index are consumed and their tags freed; a value that passes PI is
ignored (R370). -/
def execQeRingCiWrite (v : Word) (s : State) : Out :=
  let ci := s.rdF Reg.QE_CPU_RING_CI 0 7
  let pi := s.rdF Reg.QE_CPU_RING_PI 0 7
  let n := fld v 0 7
  let steps := (n + 128 - ci) % 128
  if (pi + 128 - ci) % 128 < steps then .next s
  else
    let gone := s.qe.unread.filter (fun p => (p.1 + 128 - ci) % 128 < steps)
    .next (({ s with qe := { s.qe with
      unread := s.qe.unread.filter (fun p => !gone.contains p),
      tags := s.qe.tags.filter (fun t => !gone.any (fun g => t == (0, g.2))) } }).wrF Reg.QE_CPU_RING_CI 0 7 n)

/-- The tags a port holds, as QE_PORT_TAGS shows them. -/
def State.portTags (s : State) : Word :=
  let n (p : Nat) := (s.qe.tags.filter (fun t => t.1 == p)).length
  word (n 0 + n 1 * 2 ^ 8 + n 2 * 2 ^ 16 + n 3 * 2 ^ 24)

/-! ### CPU allocation, INIT, scheduling, restore -/

/-- The result of an ALLOC or RELEASE in QE_CPU_CELL_RES; CELL is the chain an ALLOC made, else free. -/
def State.cellRes (s : State) (m : Master) (op : Bool) (code cell : Nat) : State :=
  let made := !op && code == 0
  (s.openTaken made).wr Reg.QE_CPU_CELL_RES (word (s.openVal made cell 65536 + code * 2 ^ 16 + masterId m * 2 ^ 24 + b2n op * 2 ^ 27))

/-- An ALLOC would need a cell of a pool bank not yet restored (R387). -/
def State.allocWaits (s : State) (len : Nat) : Bool :=
  len != 0 && len ≤ 2047 && decide (s.freeCells.length < (len + 123) / 124) && s.pwr.dark.any (8 ≤ ·)

/-- QE_ALLOC (R367, R387). -/
def execQeAlloc (m : Master) (v : Word) (s : State) : Out :=
  if s.locked m then .next s.answerError else
  let len := fld v 0 20
  if !s.qeOn then .next (s.cellRes m false 0x03 0)
  else if s.allocWaits len then
    .next (({ s with qe := { s.qe with waitAlloc := some (m, len) } }).setB Reg.QE_CPU_CELL_RES 31 true)
  else
    let r := s.alloc len
    .next (r.2.2.cellRes m false r.1 r.2.1)

/-- QE_RELEASE (R368). -/
def execQeRelease (m : Master) (v : Word) (s : State) : Out :=
  if s.locked m then .next s.answerError else
  let r := s.releaseFrame (fld v 0 16)
  .next (r.2.cellRes m true r.1 0)

/-- The queues of an INIT's range, first to last. -/
def State.initRange (s : State) : List Nat :=
  let lo := s.rdF Reg.QE_INIT_RANGE 0 16
  let hi := s.rdF Reg.QE_INIT_RANGE 16 16
  (List.range (hi + 1 - lo)).map (· + lo)

/-- INIT gives a queue its STATE and CLASS and leaves its frames and OVF (R385). -/
def State.initQueue (s : State) (q c st : Nat) : State :=
  let u := s.reclass q c
  u.putQ q { u.qd q with state := qStateOf st }

/-- One SYSCLK cycle of a running INIT: the next queue, unless its bank is still to be restored (R385, R387). -/
def State.initCycle (s : State) : State :=
  match s.qe.init with
  | none => s
  | some r =>
    if s.pwr.dark.contains (r.next / 8192) then s
    else
      let s1 := s.initQueue r.next r.cls r.state
      if r.next < r.last then { s1 with qe := { s1.qe with init := some { r with next := r.next + 1 } } }
      else { s1 with qe := { s1.qe with init := none } }.setB Reg.QE_INIT_CTRL 9 false

/-- QE_INIT: a write of QE_INIT_CTRL with GO: INIT starts and reaches one queue in each SYSCLK cycle (R385). -/
def execQeInit (v : Word) (s : State) : Out :=
  let code (n : Nat) (t : State) : Out := .next (t.wrF Reg.QE_INIT_CTRL 16 5 n)
  if s.bit Reg.QE_INIT_CTRL 9 then code 0x0E s
  else
    let s1 := s.wrF Reg.QE_INIT_CTRL 0 6 (fld v 0 6)
    if !s.qeOn then code 0x03 s1
    else if s.weight (fld v 0 4) = 0 then code 0x09 s1
    else if s.initRange.any (fun q => !s.queueOk q) then code 0x04 s1
    else if s.initRange.isEmpty then code 0 s1
    else
      let r : InitRun := ⟨s.rdF Reg.QE_INIT_RANGE 0 16, s.rdF Reg.QE_INIT_RANGE 16 16, fld v 0 4, fld v 4 2⟩
      code 0 (({ s1 with qe := { s1.qe with init := some r } }).setB Reg.QE_INIT_CTRL 9 true)

/-- The next grant of the scheduler: in ascending class order, up to WEIGHT consecutive grants per class, each naming
the head of the class's ring, which moves to the tail (R381). A class of weight 0 takes none (R401). `fuel` bounds the
classes looked at: the rest of this round and one whole round. -/
def State.grant (s : State) : Nat → Option (Nat × State)
  | 0 => none
  | n + 1 =>
    match s.ring s.qe.roundCls, s.qe.roundLeft with
    | q :: t, k + 1 =>
      let s1 : State := { s with qe := { s.qe with roundLeft := k } }
      some (q, s1.setRing s.qe.roundCls (t ++ [q]))
    | _, _ =>
      let c := (s.qe.roundCls + 1) % 16
      State.grant { s with qe := { s.qe with roundCls := c, roundLeft := s.weight c } } n

/-- The link controller takes a grant; in the cycle of a PAUSE the rings are those from before it (R382, R400). -/
def State.takeGrant (s : State) : Option (Nat × State) :=
  match s.cyc.rings with
  | none => s.grant 33
  | some (r, c, left) =>
    match State.grant { s with qe := { s.qe with rings := r, roundCls := c, roundLeft := left } } 33 with
    | none => none
    | some (q, t) =>
      let k := (s.qd q).cls
      let s1 : State := { s with
        qe := { s.qe with roundCls := t.qe.roundCls, roundLeft := t.qe.roundLeft }, cyc := { s.cyc with rings := none } }
      some (q, if (s.ring k).contains q then s1.setRing k ((s.ring k).filter (· != q) ++ [q]) else s1)

/-- A new scheduling round begins (R401). -/
def State.newRound (s : State) : State :=
  { s with qe := { s.qe with roundCls := 0, roundLeft := s.weight 0 } }

/-- QE_BANK_RESTORED: a bank (0 to 7 queue memory, 8 to 15 buffer pool) holds empty DISABLED queues and free cells
again, and what waited for it proceeds (R387). -/
def execQeBankRestored (bank : Fin 16) (s : State) : Out :=
  if !s.pwr.dark.contains bank.val then .next s
  else
    let s1 : State := { s with
      pwr := { s.pwr with dark := s.pwr.dark.filter (· != bank.val) },
      qe := { s.qe with
        desc := if bank.val < 8 then s.qe.desc.filter (fun p => p.1 / 8192 != bank.val) else s.qe.desc,
        cells := if bank.val < 8 then s.qe.cells else s.qe.cells.filter (fun p => 8 + p.1 / 512 != bank.val) } }
    let ready := s1.qe.waitCmd.filter (fun w => !s1.cmdDark w.2.2)
    let s2 : State := { s1 with qe := { s1.qe with waitCmd := s1.qe.waitCmd.filter (fun w => s1.cmdDark w.2.2) } }
    let s4 := ready.foldl (fun t w => t.qRun w.1 w.2.1 w.2.2 []) s2
    match s4.qe.waitAlloc with
    | some (m, len) =>
      if s4.allocWaits len then .next s4
      else
        let r := ({ s4 with qe := { s4.qe with waitAlloc := none } } : State).alloc len
        .next (r.2.2.cellRes m false r.1 r.2.1)
    | none => .next s4

/-- QE_CELLS: cells on the free list and cells OWNED. -/
def State.qeCells (s : State) : Word :=
  let used := s.qe.cells.filter (fun p => decide (p.2.own ≠ .free))
  let owned := used.filter (fun p => decide (p.2.own = .owned))
  word ((s.cellCount - used.length) + owned.length * 2 ^ 16)

/-- A word of a completion ring (R377). -/
def State.ringWord (s : State) (port i : Nat) (second : Bool) : Word :=
  let e := (mapGet s.qe.ringMem (64 * port + i)).getD (0, 0)
  if second then e.2 else e.1

end Sys2Proof.Machine
end

