-- ==== Sys2Proof/Machine/LinkBase.lean ====
section
/-! DEFINITION. What the link controller reads and keeps: the applied link sequence, plan and bands, slots and
instants, the neighbour table, the duty budget, and the air-operation table (11). -/

namespace Sys2Proof.Machine

/-! ### The applied sequence, plan and bands -/

/-- SEQUENCE: 1 label, 2 anchor, 3 relay, 4 keeper. -/
def State.seqKind (s : State) : Nat := s.rdF Reg.LINK_CFG1 4 4
/-- The node runs the anchor sequence (R347). -/
def State.isAnchor (s : State) : Bool := s.seqKind == 2
/-- The node has a parent side: label, relay or keeper. -/
def State.hasParentSide (s : State) : Bool := s.seqKind == 1 || s.seqKind == 3 || s.seqKind == 4
/-- The node places calls and sends beacons: anchor or relay. -/
def State.hasChildSide (s : State) : Bool := s.seqKind == 2 || s.seqKind == 3
/-- SLOT_TICKS. -/
def State.slotTicks (s : State) : Nat := max 1 (s.rdF Reg.LINK_CFG0 0 12)
/-- SCHED_PERIOD. -/
def State.period (s : State) : Nat := max 1 (s.rdF Reg.LINK_CFG0 16 13)
/-- RETRY_MAX. -/
def State.retryMax (s : State) : Nat := s.rdF Reg.LINK_CFG1 0 3
/-- A bit of the link sequence FLAGS. -/
def State.linkFlag (s : State) (i : Nat) : Bool := s.bit Reg.LINK_CFG1 (8 + i)
/-- HOP_LEN. -/
def State.hopLen (s : State) : Nat := max 1 (s.rdF Reg.LINK_CFG1 16 9)
/-- LEAD, in ticks (R315). -/
def State.lead (s : State) : Nat := s.rdF Reg.LINK_CFG2 0 10
/-- The branch id. -/
def State.branch (s : State) : Nat := s.rdF Reg.LINK_CFG2 16 16
/-- The node's own short address. -/
def State.ownAddr (s : State) : Nat := s.rdF Reg.LINK_ADDR 0 16

/-- Gen 1 channels of the plan. -/
def State.gen1Count (s : State) : Nat := field (s.sec 7) 0 1
/-- Channels of the plan. -/
def State.planCount (s : State) : Nat := s.gen1Count + field (s.sec 7) 1 1
/-- A plan index names a Gen 2 channel. -/
def State.chanGen2 (s : State) (c : Nat) : Bool := decide (s.gen1Count ≤ c)
/-- The centre of a channel, kHz. -/
def State.chanKhz (s : State) (c : Nat) : Nat := s.planKhz c
/-- The band of a channel. -/
def State.chanBand (s : State) (c : Nat) : Nat := field (s.sec 7) (8 + 8 * c) 1
/-- A channel lies on the 2.4 GHz path. -/
def State.chan24 (s : State) (c : Nat) : Bool := decide (2400000 ≤ s.chanKhz c)
/-- The hop channel of a slot (R313). -/
def State.hopChan (s : State) (slot : Nat) : Nat := field (s.sec 8) (16 + slot % s.hopLen) 1
/-- A format may be scheduled (R314). -/
def State.formatOn (s : State) (c : Nat) : Bool := s.linkFlag (b2n (s.chanGen2 c))

/-- A field of a band record. -/
def State.bandFld (s : State) (b off n : Nat) : Nat := field (s.sec 6) (4 + 24 * b + off) n
/-- Bands in the table. -/
def State.bandCount (s : State) : Nat := field (s.sec 6) 0 1
/-- MAX_PWR of a band, 0.5 dBm. -/
def State.bandMax (s : State) (b : Nat) : Int := sfield (s.sec 6) (4 + 24 * b + 14) 1
/-- A band requires listen-before-talk. -/
def State.bandLbt (s : State) (b : Nat) : Bool := (s.bandFld b 15 1).testBit 0
/-- LBT_THRESH of a band, dBm. -/
def State.bandThresh (s : State) (b : Nat) : Int := sfield (s.sec 6) (4 + 24 * b + 16) 1
/-- LBT_TIME of a band, µs. -/
def State.bandLbtTime (s : State) (b : Nat) : Nat := s.bandFld b 18 2
/-- The allowance of a band, µs (R332). -/
def State.bandAllow (s : State) (b : Nat) : Nat := s.bandFld b 8 4 * s.bandFld b 12 2

/-! ### Slots and instants -/

/-- Microseconds in fraction steps of 1/30.72 µs, rounded up. -/
def us (n : Nat) : Nat := (n * 3072 + 99) / 100

/-- The absolute slot number (R312). -/
def State.slotNow (s : State) : Nat := s.ticks / s.slotTicks

/-- The slots before the tick count wraps. -/
def State.slotCount (s : State) : Nat := (2 ^ 48 - 1) / s.slotTicks + 1

/-- The slot `d` slots after the one that holds a tick count. -/
def State.slotAfter (s : State) (ticks d : Nat) : Nat := (ticks / s.slotTicks + d) % s.slotCount

/-- How many slots a slot lies behind another, or before it: then more than half of all. -/
def State.slotsSince (s : State) (slot first : Nat) : Nat := (slot + s.slotCount - first % s.slotCount) % s.slotCount

/-- The slot boundary of a slot (R312). -/
def State.slotStart (s : State) (slot : Nat) : Nat := instant (slot * s.slotTicks * 1024)

/-- The opening instant of what the sequence sends in a slot (R315). -/
def State.slotOpen (s : State) (slot : Nat) : Nat := instant ((slot * s.slotTicks + s.lead) * 1024)

/-- The position of a slot (R315). -/
def State.position (s : State) (slot : Nat) : Nat := slot % s.period

/-- The node runs the anchor sequence, enabled: it takes its time from its host (R347). -/
def State.anchorRuns (s : State) : Bool := s.isAnchor && s.bit Reg.LINK_CTRL 0

/-- LINK_STATUS.SYNC: an applied parent beacon and LOST 0, or the anchor sequence enabled (R346, R347). -/
def State.linkSync (s : State) : Bool :=
  s.anchorRuns || (s.bit Reg.LINK_STATUS 0 && !s.bit Reg.CHRON_STATUS 2)

/-- Transmissions wait for a beacon: LOST at a node that does not run the anchor sequence (R346, R347). -/
def State.lostNow (s : State) : Bool := s.bit Reg.CHRON_STATUS 2 && !s.anchorRuns

/-- SYNC is lost: cleared, counted and event 73, when CHRON_STATUS.LOST has become 1 (R346). -/
def State.checkSync (s : State) : State :=
  if s.bit Reg.LINK_STATUS 0 && s.lostNow then
    ((s.setB Reg.LINK_STATUS 0 false).satAdd Reg.LINK_COUNT_MESH 16 8).event 73
  else s

/-! ### The neighbour table -/

/-- Replace the neighbour table. -/
def State.setNbrs (s : State) (l : List (Nat × Nbr)) : State := { s with link := { s.link with nbr := l } }

/-- The index and entry of an address. -/
def State.nbrAt (s : State) (addr : Nat) : Option (Nat × Nbr) := s.link.nbr.find? (fun p => p.2.addr == addr)

/-- Change the entry of an address, where there is one. -/
def State.updNbr (s : State) (addr : Nat) (f : Nbr → Nbr) : State :=
  s.setNbrs (s.link.nbr.map (fun p => if p.2.addr = addr then (p.1, f p.2) else p))

/-- Entries of the neighbour table on this variant (R341). -/
def State.nbrCapacity (s : State) : Nat := match s.variant with | .anchor => 1024 | _ => 64

/-- Add or replace an entry at the lowest free index; none when the table is full (R343). -/
def State.nbrPut (s : State) (n : Nbr) : Option State :=
  match s.nbrAt n.addr with
  | some (i, _) => some (s.setNbrs (mapIns (mapErase s.link.nbr i) i n))
  | none =>
    match (List.range s.nbrCapacity).find? (fun i => (mapGet s.link.nbr i).isNone) with
    | some i => some (s.setNbrs (mapIns s.link.nbr i n))
    | none => none

/-- NBR_FULL: counted, event 77 (R343). -/
def State.nbrFull (s : State) : State := (s.satAdd Reg.LINK_COUNT_MESH 8 8).event 77

/-- The sync parent: the PARENT entry of lowest DEPTH, ties to the higher RSSI (R345's peers). -/
def State.bestParent (s : State) : Option Nbr :=
  (s.link.nbr.filter (fun p => p.2.flags.testBit 1)).foldl
    (fun b p => match b with
      | none => some p.2
      | some m =>
        if p.2.depth < m.depth || (p.2.depth == m.depth && decide (signed 8 m.rssi < signed 8 p.2.rssi)) then some p.2
        else some m) none

/-- The sync parent in force: the pinned one is kept while its entry stands. -/
def State.parent (s : State) : Option Nbr :=
  let cur := s.rdF Reg.LINK_PARENT 0 16
  if s.bit Reg.LINK_PARENT 16 then
    match s.nbrAt cur with
    | some (_, n) => if n.flags.testBit 1 then some n else s.bestParent
    | none => s.bestParent
  else s.bestParent

/-- LINK_PARENT and LINK_STATUS.PARENT follow the table; the own depth is the parent's plus 1, 0 for an anchor. -/
def State.noteParent (s : State) : State :=
  match s.parent with
  | some n => ((s.wrF Reg.LINK_PARENT 0 16 n.addr).setB Reg.LINK_STATUS 1 true).wrF Reg.LINK_STATUS 16 3
      (if s.isAnchor then 0 else min 7 (n.depth + 1))
  | none => (s.wrF Reg.LINK_PARENT 0 16 0xFFFF).setB Reg.LINK_STATUS 1 false

/-- The own depth, 0 for an anchor and the parent's plus 1 otherwise (R316). -/
def State.ownDepth (s : State) : Nat :=
  if s.isAnchor then 0 else match s.parent with | some n => n.depth + 1 | none => 0

/-- The 32 bytes of an entry (R341). -/
def nbrBytes (n : Nbr) : List Byte :=
  leBytes 2 n.addr ++ leBytes 2 n.flags ++ leBytes 2 n.next ++ leBytes 2 n.queue ++ leBytes 2 n.lt ++
  leBytes 1 n.depth ++ leBytes 1 n.rssi ++ leBytes 2 n.bcnPos ++ leBytes 2 n.seqH ++ leBytes 8 n.seqMap ++
  leBytes 4 n.fcnt0 ++ leBytes 4 n.fcnt1

/-- The entry that 32 bytes give; VALID is set by the table, reserved bits are zero (R341). -/
def nbrOf (l : List Byte) : Nbr :=
  let addr := field l 0 2
  let q := field l 6 2
  { addr := addr, flags := (field l 2 2 % 64) / 2 * 2 + 1, next := field l 4 2,
    queue := if q = 0xFFFF then addr else q, lt := field l 8 2 % 1024, depth := field l 10 1, rssi := field l 11 1,
    bcnPos := field l 12 2, seqH := field l 14 2, seqMap := field l 16 8, fcnt0 := field l 24 4, fcnt1 := field l 28 4 }

/-- The outcome of a neighbour-table command, with the entries in use. -/
def State.nbrCode (s : State) (code : Nat) : State :=
  s.wr Reg.LINK_NBR_RESULT (word (code + s.link.nbr.length * 2 ^ 16))

/-- An entry goes into LINK_NBR_DATA. -/
def State.nbrShow (s : State) (n : Nbr) : State :=
  forRange 8 s (fun t j => t.wr (Reg.LINK_NBR_DATA j) (word (field (nbrBytes n) (4 * j) 4)))

/-- NBR_ADD (R343): NBR_BADQ for an absent queue, NBR_FULL with event 77. -/
def execNbrAdd (s : State) : Out :=
  let n := nbrOf ((List.range 8).flatMap (fun j => leBytes 4 (s.rd (Reg.LINK_NBR_DATA j)).toNat))
  if !s.queueOk n.queue then .next (s.nbrCode 3)
  else match s.nbrPut n with
    | some t => .next (t.noteParent.nbrCode 0)
    | none => .next (s.nbrFull.nbrCode 1)

/-- NBR_READ by address (R341). -/
def execNbrRead (key : Fin 65536) (s : State) : Out :=
  match s.nbrAt key.val with
  | some (_, n) => .next ((s.nbrShow n).nbrCode 0)
  | none => .next (s.nbrCode 2)

/-- NBR_REMOVE by address (R341). -/
def execNbrRemove (key : Fin 65536) (s : State) : Out :=
  match s.nbrAt key.val with
  | some (i, _) => .next (((s.setNbrs (mapErase s.link.nbr i)).noteParent).nbrCode 0)
  | none => .next (s.nbrCode 2)

/-- NBR_READ_IDX by index (R341). -/
def execNbrReadIdx (key : Fin 65536) (s : State) : Out :=
  match mapGet s.link.nbr key.val with
  | some n => .next ((s.nbrShow n).nbrCode 0)
  | none => .next (s.nbrCode 2)

/-! ### The duty budget (R331 to R333) -/

/-- The 16 buckets of a band, the oldest first. -/
def State.buckets (s : State) (b : Nat) : List Nat := (mapGet s.link.buckets b).getD (List.replicate 16 0)

/-- Replace the buckets of a band; LINK_BANDn_USED shows their sum. The sum rising past the warning share raises
event 80 + b once, and again only after it has fallen below that share (R333). -/
def State.setBuckets (s : State) (b : Nat) (l : List Nat) : State :=
  let used := l.sum
  let share := s.bandAllow b * s.rdF Reg.LINK_BUDGET_WARN 0 10
  let high := decide (share < used * 1000)
  let was := s.link.warned.contains b
  let warned := if high then (if was then s.link.warned else s.link.warned ++ [b])
    else if used * 1000 < share then s.link.warned.filter (· != b) else s.link.warned
  let s1 := { s with link := { s.link with
    buckets := mapPut (List.replicate 16 0) s.link.buckets b l, warned := warned } }
  (s1.wr (Reg.LINK_BAND_USED b) (word used)).eventIf (high && !was) (80 + b)

/-- A charge would exceed the allowance (R332). -/
def State.budgetShort (s : State) (b us : Nat) : Bool := decide (s.bandAllow b < (s.buckets b).sum + us)

/-- Charge air time to the running bucket of a band. -/
def State.charge (s : State) (b us : Nat) : State :=
  let l := s.buckets b
  s.setBuckets b (l.take 15 ++ [(l.drop 15).sum + us])

/-- A BUDGET refusal: event 70 and the band's count (R332). -/
def State.budgetRefused (s : State) (b : Nat) : State := (s.satAdd (Reg.LINK_BAND_CNT b) 0 16).event 70

/-- The buckets of a band advance: the oldest is cleared and becomes the running one. -/
def State.advanceBuckets (s : State) (b : Nat) : State :=
  let s1 := s.setBuckets b ((s.buckets b).drop 1 ++ [0])
  { s1 with link := { s1.link with bandTicks := mapErase s1.link.bandTicks b } }

/-- BUDGET_BUCKET_ADVANCE: WINDOW_S × 1,875 SLOWCLK ticks have passed since the band's last advance (R332). -/
def execBudgetBucketAdvance (band : Fin 8) (s : State) : Out :=
  let w := s.bandFld band 12 2 * 1875
  if band.val < s.bandCount && w ≤ (mapGet s.link.bandTicks band.val).getD 0 then .next (s.advanceBuckets band)
  else .next s

/-! ### The air-operation table (R359 to R361) -/

/-- An entry of the table. -/
def State.airOp (s : State) (k : Nat) : AirOp := (mapGet s.link.ops k).getD {}

/-- Replace an entry; OPS counts the entries that are not FREE. -/
def State.setAirOp (s : State) (k : Nat) (o : AirOp) : State :=
  let s1 := { s with link := { s.link with ops := mapPut {} s.link.ops k (if o.state = 0 then {} else o) } }
  s1.wrF Reg.LINK_STATUS 8 6 s1.link.ops.length

/-- An operation ends with a RESULT (R361). -/
def State.endAirOp (s : State) (k result : Nat) : State :=
  let o := s.airOp k
  let s1 := s.setAirOp k { o with state := if o.repeat_ then 1 else 3, result := result, started := false }
  ((s1.setB Reg.LINK_OP_ENDED k true).event 65).eventIf (result == 6) 78

/-- The full slot number that bits [31:0] name: within 2³¹ slots of the current one (R359). -/
def State.slotOf (s : State) (low : Nat) : Nat :=
  (((s.slotNow : Int) + signed 32 (low + 2 ^ 32 - s.slotNow % 2 ^ 32)) % (s.slotCount : Int)).toNat

/-- The entry that LINK_OPD0 to LINK_OPD3 give. -/
def State.opOfRegs (s : State) : AirOp :=
  { kind := s.rdF (Reg.LINK_OPD 0) 0 4, repeat_ := s.bit (Reg.LINK_OPD 0) 4, fabric := s.bit (Reg.LINK_OPD 0) 5,
    chan := s.rdF (Reg.LINK_OPD 0) 8 8, state := 1, slot := (s.rd (Reg.LINK_OPD 1)).toNat,
    first := s.slotOf (s.rd (Reg.LINK_OPD 1)).toNat, offset := s.rdF (Reg.LINK_OPD 2) 0 22, addr := s.rdF (Reg.LINK_OPD 3) 0 16, len := s.rdF (Reg.LINK_OPD 3) 16 12 }

/-- The words of an entry as the table reads. -/
def airOpWord (o : AirOp) (j : Nat) : Word :=
  match j with
  | 0 => word (o.kind + b2n o.repeat_ * 16 + b2n o.fabric * 32 + o.chan * 256 + o.state * 2 ^ 16 + o.result * 2 ^ 20)
  | 1 => word o.slot
  | 2 => word o.offset
  | _ => word (o.addr + o.len * 2 ^ 16)

/-- The channel of an entry in a slot: 0xFF is the slot's hop channel. -/
def State.opChan (s : State) (o : AirOp) (slot : Nat) : Nat := if o.chan = 0xFF then s.hopChan slot else o.chan

/-- The outcome of an operation command in LINK_OP_RESULT; a refused SUBMIT uses no entry, so its INDEX is free. -/
def State.opResult (s : State) (m : Master) (cmd code index : Nat) : State :=
  let used := cmd != 0 || code == 0
  (s.openTaken used).wr Reg.LINK_OP_RESULT (word (code + cmd * 16 + s.openVal used index 32 * 256 + masterId m * 2 ^ 16))

/-- The code that refuses a SUBMIT, in the order of the table "Operation command codes"; 0 accepts. -/
def State.submitCode (s : State) (o : AirOp) : Nat :=
  let rx := o.kind == 1 || o.kind == 3
  if (List.range 32).all (fun k => (s.airOp k).state != 0) then 1
  else if !(rx || o.kind == 2) || (rx && o.len == 0) || decide (s.slotTicks * 1024 < o.offset + o.len * 1024) ||
      (o.kind == 2 && !s.queueOk o.addr) then 2
  else if o.chan != 0xFF && (decide (s.planCount ≤ o.chan) || !s.formatOn o.chan) then 3
  else if !o.repeat_ && decide (since (s.slotStart o.first + o.offset) s.chron.now < 4 * 1024) then 4
  else 0

/-- LINK_OP_SUBMIT (R360): the lowest FREE entry becomes WAITING. -/
def execLinkOpSubmit (m : Master) (s : State) : Out :=
  if s.locked m then .next s.answerError else
  let o := s.opOfRegs
  let k := ((List.range 32).find? (fun k => (s.airOp k).state == 0)).getD 0
  match s.submitCode o with
  | 0 => .next ((s.setAirOp k o).opResult m 0 0 k)
  | 1 => .next (({ s with link := { s.link with opsFull := true } }).opResult m 0 1 0)
  | c => .next (s.opResult m 0 c 0)

/-- LINK_OP_CANCEL (R357, R360). -/
def execLinkOpCancel (m : Master) (k : Fin 32) (s : State) : Out :=
  if s.locked m then .next s.answerError else
  let o := s.airOp k
  if o.state = 1 then .next ((s.setAirOp k { o with state := 3, result := 7 }).opResult m 1 0 k)
  else .next (s.opResult m 1 (if o.state = 2 then 6 else 5) k)

/-- LINK_OP_RELEASE (R360): an ENDED entry becomes FREE; event 88 follows an OPS_FULL. A FREE entry stays as it is. -/
def execLinkOpRelease (m : Master) (k : Fin 32) (s : State) : Out :=
  if s.locked m then .next s.answerError else
  let o := s.airOp k
  if o.state = 3 then
    let s1 := (s.setAirOp k {}).opResult m 2 0 k
    .next (({ s1 with link := { s1.link with opsFull := false } }).eventIf s.link.opsFull 88)
  else .next (s.opResult m 2 (if o.state = 0 then 0 else 7) k)

/-- AIROP_FABRIC_TASK (R359): task 96 + k has arrived. -/
def execAiropFabricTask (k : Fin 32) (s : State) : Out :=
  let o := s.airOp k
  if o.fabric && o.state == 1 then .next (s.setAirOp k { o with started := true }) else .next s

/-- LINK_FCNTk takes a value; FCNT_END bit k is 1 while it holds 0xFFFF_FFFF (R340). -/
def State.setFcnt (s : State) (k : Nat) (v : Word) : State :=
  (s.wr (Reg.LINK_FCNT0 + 4 * k) v).setB Reg.LINK_KEYMAP (26 + k) (v == 0xFFFFFFFF)

/-- LINK_FCNT_WRITE (R339, R340). -/
def execLinkFcntWrite (k : Fin 2) (v : Word) (s : State) : Out :=
  .next ((s.setFcnt k v).setB Reg.LINK_KEYMAP (24 + k.val) true)

end Sys2Proof.Machine
end

