-- ==== Sys2Proof/Machine/ReleaseLock.lean ====
section
/-! DEFINITION. The release unit's channels, their rendezvous instants and their lock outputs (15). -/

namespace Sys2Proof.Machine

/-- STATE of a release channel: 0 IDLE, 1 SEEKING, 2 HELD (R500). -/
def State.relState (s : State) (ch : Nat) : Nat := s.rdF (Reg.REL_CH_STATUS ch) 0 2

/-- A release channel changes state. -/
def State.setRelState (s : State) (ch n : Nat) : State := s.wrF (Reg.REL_CH_STATUS ch) 0 2 n

/-- The part's role is desk. -/
def State.relDesk (s : State) : Bool := !s.bit Reg.REL_CTRL 1

/-- RELAY of a channel: 0 off, 1 response-time, 2 distance-bound. -/
def State.relay (s : State) (ch : Nat) : Nat := s.rdF (Reg.REL_CH_POLICY ch) 0 2

/-- The release mode of a channel is session. -/
def State.relSession (s : State) (ch : Nat) : Bool := s.bit (Reg.REL_CH_POLICY ch) 2

/-- OUTPUT of a channel is GPIO. -/
def State.relGpio (s : State) (ch : Nat) : Bool := s.bit (Reg.REL_CH_POLICY ch) 3

/-- RELEASE_PERIOD of a channel, ms. -/
def State.relPeriod (s : State) (ch : Nat) : Nat := s.rdF (Reg.REL_CH_TIMES ch) 0 16

/-- SESSION_TIMEOUT of a channel, s. -/
def State.relTimeout (s : State) (ch : Nat) : Nat := s.rdF (Reg.REL_CH_TIMES ch) 16 16

/-- The exchange in progress on a channel. -/
def State.relExch (s : State) (ch : Nat) : Option RelExch := mapGet s.rel.exch ch

/-- The exchange of a channel starts or changes; STATUS.EXCH shows it. -/
def State.setExch (s : State) (ch : Nat) (e : RelExch) : State :=
  ({ s with rel := { s.rel with exch := mapIns (mapErase s.rel.exch ch) ch e } }).setB (Reg.REL_CH_STATUS ch) 2 true

/-- The exchange of a channel is no longer in progress. -/
def State.endExch (s : State) (ch : Nat) : State :=
  ({ s with rel := { s.rel with exch := mapErase s.rel.exch ch } }).setB (Reg.REL_CH_STATUS ch) 2 false

/-- 30·P ticks of a channel (R498). -/
def State.relTicks (s : State) (ch : Nat) : Nat := max 1 (30 * s.relPeriod ch)

/-- The channel looks for a grant at a rendezvous: SEEKING, or HELD in beacon release (R500, R523, R524). -/
def State.relActive (s : State) (ch : Nat) : Bool :=
  s.relState ch == 1 || (s.relState ch == 2 && !s.relSession ch)

/-- The chronicle stands at a rendezvous instant of a channel, fraction 0, that has not been taken (R498). -/
def State.relDue (s : State) (ch : Nat) : Bool :=
  let t := s.ticks
  s.relActive ch && s.chron.now % 1024 == 0 && t % s.relTicks ch == s.rdF (Reg.REL_CH_CFG ch) 16 15 % s.relTicks ch &&
    mapGet s.rel.lastRv ch != some t && (s.relExch ch).isNone

/-- The key of a slot that the release port may use with a policy bit (R475, R506, R520). -/
def State.relKey (s : State) (slot bit : Nat) : Option (List Byte) :=
  if (s.keyType slot == 1 || s.keyType slot == 2) && s.keyBit slot 19 && s.keyBit slot bit then some (s.keyBytes slot)
  else none

/-- The lock-line messages of a channel, the first of them on the line. -/
def State.lockLine (s : State) (ch : Nat) : List (List Byte) := (mapGet s.rel.lines ch).getD []

/-- Replace the lock-line messages of a channel. -/
def State.setLockLine (s : State) (ch : Nat) (l : List (List Byte)) : State :=
  { s with rel := { s.rel with lines := mapPut [] s.rel.lines ch l } }

/-- A lock-line message (R519, R520): kind 1 RELEASE or 2 DROP; none when the lock slot does not carry ENC and
RELEASE. -/
def State.lockMessage (s : State) (ch kind validMs card : Nat) : Option (List Byte) :=
  match s.relKey (s.rdF (Reg.REL_CH_CFG ch) 8 6) 8 with
  | none => none
  | some key =>
    let counter := (s.rd (Reg.REL_CH_LOCKCNT ch)).toNat + (s.lockLine ch).length
    let desk := leBytes 2 s.ownAddr
    let head := [byte 0xA5, byte kind] ++ desk ++ leBytes 4 counter
    let nonce := desk ++ leBytes 4 counter ++ [byte ch] ++ List.replicate 6 0
    let r := ccmEnc key nonce head (leBytes 4 validMs ++ leBytes 2 card ++ [0, 0])
    let body := head ++ r.1 ++ r.2
    some (body ++ leBytes 2 (crc16 body))

/-- A lock-line message is sent after those before it, on a channel whose OUTPUT is the lock line (R519). -/
def State.sendLock (s : State) (ch kind validMs card : Nat) : State :=
  if s.relGpio ch then s
  else match s.lockMessage ch kind validMs card with
    | some m => s.setLockLine ch (s.lockLine ch ++ [m])
    | none => s

/-- A HELD desk channel drops its lock and takes another state: the DROP message or the GPIO level, and event 204 + ch
(R519, R523, R524). -/
def State.dropLock (s : State) (ch next : Nat) : State :=
  let card := s.rdF (Reg.REL_CH_STATUS ch) 16 16
  let s1 := (s.sendLock ch 2 0 card).setRelState ch next
  let s2 := s1.wrF (Reg.REL_CH_STATUS ch) 16 16 0
  ({ s2 with rel := { s2.rel with sessions := mapErase s2.rel.sessions ch } }).event (204 + ch)

/-- LOCK_LINE_MESSAGE_END (R519): the message on the line has ended, LOCKCNT is raised, and the next follows. -/
def execLockLineMessageEnd (ch : Fin 2) (s : State) : Out :=
  match s.lockLine ch with
  | [] => .next s
  | _ :: t => .next ((s.setLockLine ch t).wr (Reg.REL_CH_LOCKCNT ch) (s.rd (Reg.REL_CH_LOCKCNT ch) + 1))

/-- A T1 or T2 trip: every held lock drops at once, and the exchanges in progress have lost their keys (R527). A channel
in beacon release goes back to SEEKING, where its exchanges fail; a session ends. -/
def State.relTamper (s : State) : State :=
  forRange 2 s (fun t ch =>
    let t1 := if t.relDesk && t.relState ch == 2 then t.dropLock ch (if t.relSession ch then 0 else 1) else t
    match t1.relExch ch with
    | some e => t1.setExch ch { e with refused := true }
    | none => t1)

end Sys2Proof.Machine
end

