-- ==== Sys2Proof/Machine/LinkRun.lean ====
section
/-! DEFINITION. The link controller's sequence: the operations it expects, their start, transmissions, calls, retries,
beacons, floods and joins as the sender (11), and the front die's strobes and retunes (08). -/

namespace Sys2Proof.Machine

/-! ### The operations a slot expects -/

/-- An operation receives. -/
def State.isRx (s : State) (r : OpRef) : Bool :=
  match r with
  | .hearBeacon | .hearCall | .hearFlood => true
  | .table k => (s.airOp k).kind != 2
  | _ => false

/-- The order of R356: beacons, flood levels, calls, then table entries by index. -/
def OpRef.rank : OpRef → Nat
  | .beacon | .hearBeacon => 0
  | .flood _ | .relay | .hearFlood => 1
  | .call _ | .hearCall | .join => 2
  | .table k => 3 + k

/-- The period a slot lies in. -/
def State.periodOf (s : State) (slot : Nat) : Nat := slot / s.period

/-- A beacon's information holds in a slot's period. -/
def State.holds (s : State) (b : Option BeaconInfo) (slot : Nat) : Option BeaconInfo :=
  b.bind (fun i => if i.period = s.periodOf slot then some i else none)

/-- The flood positions that a beacon announces (R349). -/
def BeaconInfo.floods (i : BeaconInfo) (p : Nat) : Bool :=
  decide (i.floodPos ≤ p) && decide (p < i.floodPos + i.floodN * (i.floodDepth + 1))

/-- A copy is to be relayed in a slot. -/
def State.relayIn (s : State) (slot : Nat) (r : RelayFrame) : Bool := decide (r.openAt / (s.slotTicks * 1024) = slot)

/-- The node relays in a slot, and so does not listen for the flood there (R352). -/
def State.relaysIn (s : State) (slot : Nat) : Bool := s.link.relays.any (s.relayIn slot)

/-- What the sequence expects in a slot, in the order of R356. -/
def State.sequenceOps (s : State) (slot : Nat) : List RunOp :=
  let c := s.hopChan slot
  let p := s.position slot
  let mk (r : OpRef) (o : Nat) : RunOp := { ref := r, slot := slot, openAt := o, chan := c }
  let here (r : OpRef) (b : Bool) : List RunOp := if b then [mk r (s.slotOpen slot)] else []
  let heard := s.holds s.link.heard slot
  let sent := s.holds s.link.sent slot
  if !s.bit Reg.LINK_CTRL 0 || !s.formatOn c then []
  else
    here .hearBeacon (s.hasParentSide && (match s.parent with | some n => decide (n.bcnPos = p) | none => false)) ++
    here .beacon (s.hasChildSide && decide (s.rdF Reg.LINK_ADDR 16 16 = p)) ++
    (match sent with
      | some i => if s.isAnchor && s.chanGen2 c && i.floods p && (p - i.floodPos) % (i.floodDepth + 1) = 0 then
          [mk (.flood ((p - i.floodPos) / (i.floodDepth + 1))) (s.slotOpen slot)] else []
      | none => []) ++
    ((s.link.relays.filter (fun r => s.chanGen2 c && s.relayIn slot r)).map (fun r => mk .relay r.openAt)) ++
    here .hearFlood (s.hasParentSide && s.chanGen2 c && !s.relaysIn slot && (match heard with | some i => i.floods p | none => false)) ++
    ((s.link.calls.filter (fun k => sent.isSome && decide (k.pos = p))).map (fun k => mk (.call k.queue) (s.slotOpen slot))) ++
    here .hearCall (s.hasParentSide && (match heard with
      | some i => i.calls.any (fun k => decide (k.2 = p) && (k.1 == s.ownAddr || k.1 == 0xFFFF))
      | none => false)) ++
    here .join (s.hasParentSide && !s.bit Reg.LINK_STATUS 2 && decide (p + 1 = s.period) && s.link.join.backoff == some 0 &&
      (match heard with | some i => i.joinOpen | none => false))

/-- A table entry occurs in a slot: its own, or every SCHED_PERIOD slots from it (R359); a FABRIC entry once its task
has arrived. -/
def State.occurs (s : State) (o : AirOp) (slot : Nat) : Bool :=
  let d := s.slotsSince slot o.first
  o.state == 1 && (!o.fabric || o.started) &&
    (d == 0 || (o.repeat_ && decide (2 * d < s.slotCount) && d % s.period == 0))

/-- A table entry's run in a slot. -/
def State.tableRun (s : State) (k slot : Nat) : RunOp :=
  let o := s.airOp k
  { ref := .table k, slot := slot, openAt := instant (s.slotStart slot + o.offset), chan := s.opChan o slot }

/-- The operations of a slot not yet served, in the order of R356. -/
def State.slotOps (s : State) (slot : Nat) : List RunOp :=
  (s.sequenceOps slot ++ (s.link.ops.filter (fun p => s.occurs p.2 slot)).map (fun p => s.tableRun p.1 slot)).filter
    (fun o => !s.link.served.contains (slot, o.ref))

/-- The operations of `n` slots not yet served, from the slot that holds a tick count. -/
def State.opsFrom (s : State) (ticks n : Nat) : List RunOp :=
  (List.range n).flatMap (fun d => s.slotOps (s.slotAfter ticks d))

/-- A transmission listens first (R330). -/
def State.listens (s : State) (o : RunOp) : Bool := !s.isRx o.ref && s.bandLbt (s.chanBand o.chan)

/-- A SCAN opens at its instant; any other reception a guard earlier (R320). -/
def State.rxGuard (s : State) (o : RunOp) : Nat :=
  match o.ref with
  | .table k => if (s.airOp k).kind = 3 then 0 else s.guardAt o.openAt
  | _ => s.guardAt o.openAt

/-- From the power-up of an operation to its opening instant, in fraction steps (table of t0 to t3). -/
def State.powerLead (s : State) (o : RunOp) : Nat :=
  if s.isRx o.ref then us 100 + s.rxGuard o
  else if s.listens o then us (140 + s.bandLbtTime (s.chanBand o.chan))
  else us 110

/-- The power-up instant of an operation. -/
def State.powerUpAt (s : State) (o : RunOp) : Nat := instant (o.openAt + 2 ^ 58 - s.powerLead o)

/-- From its opening instant to the end of a receive window in which nothing comes (R320); a table entry listens for
LEN ticks, and its window too is widened by the guard on this side (R153). -/
def State.windowTail (s : State) (o : RunOp) : Nat :=
  match o.ref with
  | .table k => (s.airOp k).len * 1024 + s.rxGuard o
  | _ => s.guardAt o.openAt + us 100

/-- A table entry whose first slot lies further off than a period. -/
def State.farOp (s : State) (o : AirOp) : Bool :=
  let d := s.slotsSince o.first s.slotNow
  s.occurs o o.first && decide (s.period < d) && decide (2 * d < s.slotCount)

/-- The operations to come that are not served: each occurrence within one period, and the first of the table entries
beyond it. -/
def State.comingOps (s : State) : List RunOp :=
  let far := (s.link.ops.filter (fun p => s.farOp p.2)).map (fun p => s.tableRun p.1 p.2.first)
  ((if s.bit Reg.LINK_CTRL 0 || !s.link.ops.isEmpty then s.opsFrom s.ticks (s.period + 1) else []) ++ far).filter
    (fun o => !s.passed o.openAt)

/-- The earliest of instants ahead. -/
def State.earliest (s : State) (l : List Nat) : Option Nat :=
  l.foldl (fun b i => match b with
    | none => some i
    | some j => if since i s.chron.now < since j s.chron.now then some i else some j) none

/-- The power-up of the next air operation. -/
def State.nextPowerUp (s : State) : Option Nat := s.earliest ((s.comingOps).map s.powerUpAt)

/-- The gap from now to 100 µs before the next power-up, in fraction steps; none when no operation is expected
(R354). -/
def State.gapNow (s : State) : Option Int := (s.nextPowerUp).map (fun p => since p s.chron.now - us 100)

/-! ### How an operation ends -/

/-- The running operation ends with a result; a table entry reports it (R361). -/
def State.finish (s : State) (o : RunOp) (result : Nat) : State :=
  let s1 := { s with link := { s.link with run := none } }
  match o.ref with
  | .table k => s1.endAirOp k result
  | _ => s1

/-- The phase of the running operation. -/
def State.setRun (s : State) (o : RunOp) : State := { s with link := { s.link with run := some o } }

/-- An operation has been served in its slot. -/
def State.serveOp (s : State) (o : RunOp) : State :=
  { s with link := { s.link with served := s.link.served ++ [(o.slot, o.ref)] } }

/-- The link controller takes a frame off the head of a queue (R326, R327); a command that its port cannot take is
presented again (12, "What if the link controller's port runs out of tags?"). -/
def State.linkDequeue (s : State) (q : Nat) : State :=
  if s.qeWaits 1 { cmd := 2, queue := q } then s.holdCmd (.linkDequeue q)
  else (s.qeNow 1 { cmd := 2, queue := q }).s

/-- A frame is freed as exhausted (R327, R340, R474). -/
def State.exhaust (s : State) (q : Nat) : State :=
  (((s.linkDequeue q).satAdd Reg.LINK_COUNT_TX 0 8).wrF Reg.LINK_LAST 0 16 q).event 69

/-- A called frame counts one retry; past RETRY_MAX it is freed (R326, R327). -/
def State.countRetry (s : State) (q : Nat) : State :=
  let n := (mapGet s.link.retries q).getD 0 + 1
  if s.retryMax < n then s.exhaust q
  else { s with link := { s.link with retries := mapPut 0 s.link.retries q n } }

/-- A retry, where the operation is a call. -/
def State.retryOp (s : State) (o : RunOp) : State :=
  match o.ref with
  | .call q => s.countRetry q
  | _ => s

/-- An operation is missed: RESULT MISSED or, without an entry, event 78; counted; a call counts a retry (R155, R234,
R304). -/
def State.missOp (s : State) (o : RunOp) : State :=
  let s1 := (s.satAdd Reg.LINK_COUNT_TX 16 8).retryOp o
  match o.ref with
  | .table k => s1.endAirOp k 6
  | _ => s1.event 78

/-- The running operation, if any, is missed and ends. -/
def State.missRun (s : State) : State :=
  match s.link.run with
  | some o => ({ s with link := { s.link with run := none } }).missOp o
  | none => s

/-- FRONT_PLL_UNLOCK: outside a transition, a recoverable slip from source 96, the front die in OFF and the air operation
in progress missed (R531). -/
def execFrontPllUnlock (s : State) : Out :=
  if s.frontPowered && s.front.going.isNone then .next ((s.missRun.frontOff).slip 96 0x0E 1 0) else .next s

/-- An operation loses to another: CLASH, counted (R356). -/
def State.clashOp (s : State) (o : RunOp) : State :=
  let s1 := (s.serveOp o).satAdd Reg.LINK_COUNT_TX 24 8
  match o.ref with
  | .table k => s1.endAirOp k 9
  | _ => s1.retryOp o

/-- An operation becomes ACTIVE, and OFF→STANDBY is strobed (table of t0 to t3). -/
def State.startOp (s : State) (o : RunOp) : State :=
  let s1 := (s.serveOp o).setRun o
  let s2 := match o.ref with
    | .table k => s1.setAirOp k { s1.airOp k with state := 2 }
    | _ => s1
  let t : FsmTarget := ⟨1, s.chan24 o.chan, s.chan24 o.chan⟩
  { s2 with front := { s2.front with strobes := s2.front.strobes ++ [t] } }

/-! ### Tables, lengths, sending -/

/-- The loading table that a frame to a callee goes under, with its id: LT_TX of the entry, LINK_TXDEF without one; an
id not held is taken as table 0 (R323). -/
def State.txTable (s : State) (callee : Nat) : Nat × LoadTable :=
  let id := match s.nbrAt callee with
    | some (_, n) => n.lt
    | none => s.rdF Reg.LINK_TXDEF 0 10
  match s.loadTable id with
  | some t => (id, t)
  | none => (0, table0)

/-- The air time in µs of a PSDU without its check sequence (R331). -/
def State.frameTime (_ : State) (gen2 : Bool) (t : LoadTable) (len : Nat) : Nat := airTime gen2 t (if gen2 then len + 4 else len)

/-- The next hop of a destination: NEXT of its entry under ROUTE, itself otherwise (R325). -/
def State.callee (s : State) (dst : Nat) : Nat :=
  match s.nbrAt dst with
  | some (_, n) => if n.flags.testBit 3 then n.next else dst
  | none => dst

/-- A slot holds LEAD, a frame of `len` bytes, 40 µs and the acknowledgement (R322); Gen 1 for a peer that takes Gen 1
only, and at most 255 bytes and no chorus frame there (R278). -/
def State.fits (s : State) (slot dst len : Nat) (chorus : Bool := false) : Bool :=
  let c := s.hopChan slot
  let gen2 := s.chanGen2 c
  let t := (s.txTable (s.callee dst)).2
  let gen1Only := match s.nbrAt (s.callee dst) with | some (_, n) => n.flags.testBit 4 | none => false
  s.formatOn c && (gen2 || (len ≤ 255 && !chorus)) && !(gen1Only && gen2) &&
    decide (s.lead * 1024 + us (s.frameTime gen2 t len + 40 + s.frameTime gen2 t 8) ≤ s.slotTicks * 1024)

/-- The signed LEVEL of LINK_TXPWR. -/
def State.linkLevel (s : State) : Int := signed 8 (s.rdF Reg.LINK_TXPWR 0 8)

/-- The Gen 2 header of a frame of the node's own, at HOP 0 (R250, R348). -/
def ownHeader (bytes : List Byte) (lt : Nat) : Nat :=
  mkHeader (parseMac bytes).type lt (bytes.length + 4) (parseMac bytes).chorus 0

/-- The power a transmission on a channel goes out at (R224). -/
def State.chanPower (s : State) (chan : Nat) : Int :=
  s.txPower (s.chan24 chan) s.linkLevel (s.bandMax (s.chanBand chan))

/-- A transmission on a channel starts, at its power and drive (R224, R285). -/
def State.airTx (s : State) (chan : Nat) (mk : Int → AirFrame) : State :=
  s.startTx { mk (s.chanPower chan) with drive := s.paDrive (s.chan24 chan) (s.chanPower chan) } s.linkLevel

/-- A frame starts on the air (R224): the MAC bytes without a check sequence, under a header and a table. -/
def State.sendFrame (s : State) (chan : Nat) (bytes : List Byte) (header : Nat) (t : LoadTable) : State :=
  s.airTx chan (fun p =>
    if s.chanGen2 chan then gen2Frame header t (bytes ++ leBytes 4 (crc32 bytes)) p else gen1Frame bytes p)

/-- Charge a frame's air time to the band of its channel, or refuse it with BUDGET before any side effect (R331,
R332). -/
def State.chargeFrame (s : State) (chan : Nat) (t : LoadTable) (len : Nat) : Bool × State :=
  let b := s.chanBand chan
  let time := s.frameTime (s.chanGen2 chan) t len
  if s.budgetShort b time then (false, s.budgetRefused b) else (true, s.charge b time)

/-- What becomes of a frame to be secured. -/
inductive Secured where
  | done (s : State) | hold | freed

/-- FRAME_SECURE (R328, R473, R474): at its first transmission a frame with FC.SEC takes the next FCNT of its key index,
is encrypted under that key and written back in place. A counter not set since power-on holds it (R339); a counter at its
end (R340) or the custodian's refusal (R474) frees it. -/
def State.secureFrame (s : State) (cell : Nat) (bytes : List Byte) : Secured :=
  let f := parseMac bytes
  if !f.sec || s.link.secured.contains cell then .done s
  else
    let k := f.kidx
    if 1 < k || !s.bit Reg.LINK_KEYMAP (16 + k) then .freed
    else if !s.bit Reg.LINK_KEYMAP (24 + k) then .hold
    else
      let fcnt := (s.rd (Reg.LINK_FCNT0 + 4 * k)).toNat
      match s.linkKey (s.rdF Reg.LINK_KEYMAP (8 * k) 6) true with
      | none => .freed
      | some key =>
        if fcnt = 0xFFFFFFFF then .freed
        else
          let hdr := f.hdr.take 8 ++ leBytes 4 fcnt ++ [byte k]
          let nonce := leBytes 2 f.src ++ leBytes 4 fcnt ++ leBytes 2 s.branch ++ [0, 0, 0, 0, 0]
          let r := ccmEnc key nonce hdr f.body
          let s1 := s.fillCells (s.frame cell) (hdr ++ r.1 ++ r.2)
          .done ({ s1 with link := { s1.link with secured := s1.link.secured ++ [cell] } }.setFcnt k (word (fcnt + 1)))

/-- The head frame of a queue is sent for an operation: EMPTY without one, TOO_LONG for a table entry whose frame does
not fit its slot, BUDGET before any side effect (R332), or the air. It waits while the LINK port's command does (R371,
R387). -/
def State.openQueued (s : State) (o : RunOp) (q : Nat) : State :=
  if s.qeWaits 1 { cmd := 3, queue := q } then s else
  let p := s.qeNow 1 { cmd := 3, queue := q }
  if p.status != 0 then p.s.finish o 8
  else
    let cell := p.word1 % 65536
    let bytes := p.s.frameBytes cell
    let f := parseMac bytes
    let lt := p.s.txTable (p.s.callee f.dst)
    let time := us (s.frameTime (s.chanGen2 o.chan) lt.2 bytes.length)
    let tooLong := (match o.ref with
      | .table k => decide (s.slotTicks * 1024 < (s.airOp k).offset + time)
      | _ => false) || (!s.chanGen2 o.chan && 255 < bytes.length) || (s.chanGen2 o.chan && 2043 < bytes.length)
    if tooLong then p.s.finish o 11
    else
      let c := p.s.chargeFrame o.chan lt.2 bytes.length
      if !c.1 then ((s.budgetRefused (s.chanBand o.chan)).retryOp o).finish o 4
      else match c.2.secureFrame cell bytes with
        | .hold => p.s.finish o 0
        | .freed => (p.s.exhaust q).finish o 0
        | .done s2 =>
          (s2.sendFrame o.chan (s2.frameBytes cell) (ownHeader (s2.frameBytes cell) lt.1) lt.2).setRun { o with phase := .onAir, seq := f.seq, ackReq := f.ackReq }

/-- The running operation may open: its instant has come, and its listen, if any, has ended clear. -/
def State.mayOpen (s : State) (o : RunOp) : Bool :=
  s.reached o.openAt && (if s.listens o then o.phase == .ready else o.phase == .power)

/-- What opens a transmission of the sequence or the table: NOT_SYNCED while LOST (R346), missed when the front die is
not in TX (R234), the operation's own work otherwise. -/
def State.openOp (s : State) (o : RunOp) (f : State → State) : State :=
  if s.lostNow then s.finish o 10
  else if s.fsm != 4 then s.missRun
  else f s

/-- TRANSMISSION_OPEN (R331): a call, a flood frame or a table transmission opens. -/
def execTransmissionOpen (s : State) : Out :=
  match s.link.run with
  | none => .next s
  | some o =>
    let q? : Option Nat := match o.ref with
      | .call q => some q
      | .flood _ => some (s.rdF Reg.LINK_RXQ 16 16)
      | .table k => if (s.airOp k).kind = 2 then some (s.airOp k).addr else none
      | _ => none
    match q? with
    | none => .next s
    | some q => if s.mayOpen o then .next (s.checkSync.openOp o (fun t => t.openQueued o q)) else .next s

/-- LBT_LISTEN_END (R330): a channel power, 0.5 dBm, that has reached LBT_THRESH refuses the transmission. The power is that
of the RX stream (R219); with the front die not in RX nothing is heard, and the operation is missed. -/
def execLbtListenEnd (power : Int) (s : State) : Out :=
  match s.link.run with
  | none => .next s
  | some o =>
    let b := s.chanBand o.chan
    if s.listens o && o.phase == .power then
      let s1 := s.wr Reg.RADIO_RSSI (word (unsigned 9 power))
      if s.fsm != 3 then .next s.missRun
      else if 2 * s.bandThresh b ≤ power then
        .next (((s1.satAdd (Reg.LINK_BAND_CNT b) 16 16).retryOp o).finish o 5)
      else .next (s1.setRun { o with phase := .ready })
    else .next s

/-- A transmission is done and needs no acknowledgement, or has it: the frame leaves its queue, event 67. -/
def State.sent (s : State) (o : RunOp) : State :=
  match o.ref with
  | .call q => ((s.linkDequeue q).event 67).finish o 1
  | .flood _ => ((s.linkDequeue (s.rdF Reg.LINK_RXQ 16 16)).event 67).finish o 1
  | .table k => if (s.airOp k).kind = 2 then ((s.linkDequeue (s.airOp k).addr).event 67).finish o 1 else s.finish o 1
  | _ => s.finish o 1

/-- TRANSMIT_ENDED (R361): event 103; a frame that asks for an acknowledgement waits for it, any other operation
ends. -/
def execTransmitEnded (s : State) : Out :=
  match s.front.tx with
  | none => .next s
  | some _ =>
    let s1 := s.endTx
    match s1.link.run with
    | some o =>
      if o.phase == .onAir then
        if o.ackReq then .next (s1.setRun { o with phase := .ackWait }) else .next (s1.sent o)
      else .next s1
    | none => .next s1

/-- ACK_RECEIVED (R326): the acknowledgement of the running call. -/
def execAckReceived (seq : Fin 65536) (s : State) : Out :=
  match s.link.run with
  | some o => if o.phase == .ackWait && o.seq == seq.val then .next ((s.event 68).sent o) else .next s
  | none => .next s

/-- ACK_TIMEOUT (R321, R326): a call counts one retry; a table entry ends NO_ACK. -/
def execAckTimeout (s : State) : Out :=
  match s.link.run with
  | some o => if o.phase == .ackWait then .next ((s.retryOp o).finish o 3) else .next s
  | none => .next s

/-! ### The slot -/

/-- Every hold of the LINK port ends with the slot (R398). -/
def State.endHolds (s : State) : State := s.qe.holds.foldl State.endHold s

/-- A period begins: its calls are not yet announced, and a join waits one period less. -/
def State.newPeriod (s : State) : State :=
  { s with link := { s.link with
      calls := [],
      join := { s.link.join with waiting := s.link.join.waiting.map (· - 1) } } }

/-- SLOT_BOUNDARY (R312, R346, R398); a forced blackout waits for an operation in progress (R305). -/
def execSlotBoundary (s : State) : Out :=
  if s.ticks % s.slotTicks = 0 then
    let slot := s.slotNow
    let s1 := s.checkSync.endHolds
    let s2 := { s1 with link := { s1.link with served := s1.link.served.filter (fun p => slot ≤ p.1) } }
    let s3 := if s.position slot = 0 then s2.newPeriod else s2
    let late := s.bit Reg.CAL_STATUS 5 && s.link.run.isSome
    let s4 := { s3 with cal := { s3.cal with due := s3.cal.due || late } }
    .next (s4.eventIf (s.bit Reg.LINK_CTRL 1 && !s.asleep) 64)
  else .next s

/-! ### Beacons -/

/-- The position of a data slot: in LINK_RANGE, no beacon, flood or join position (table of R315, R349). -/
def State.dataPos (s : State) (flood : BeaconInfo) (p : Nat) : Bool :=
  let hi := min (s.rdF Reg.LINK_RANGE 16 12) (s.period - 1)
  let heard := match s.link.heard with
    | some h => h.period == flood.period && (h.floods p || (h.joinOpen && p + 1 == s.period))
    | none => false
  decide (s.rdF Reg.LINK_RANGE 0 12 ≤ p) && decide (p ≤ hi) && p != s.rdF Reg.LINK_ADDR 16 16 && !flood.floods p &&
    !heard && !(flood.joinOpen && p + 1 == s.period) && (match s.parent with | some n => n.bcnPos != p | none => true)

/-- The beacon's PSDU bytes without calls. -/
def beaconBase : Nat := 28 - 4

/-- The number of calls a beacon may announce in a slot (R317). -/
def State.callLimit (s : State) (slot : Nat) : Nat :=
  let gen2 := s.chanGen2 (s.hopChan slot)
  ((List.range 65).filter (fun n =>
    let len := beaconBase + 4 * n
    (gen2 || decide (len ≤ 255)) &&
      decide (s.lead * 1024 + us (s.frameTime gen2 table0 len + 100) ≤ s.slotTicks * 1024))).getLastD 0

/-- A frame that fits no data slot is freed and counted, with event 69 (R324). -/
def State.freeTooLong (s : State) (q : Nat) : State :=
  (((s.linkDequeue q).satAdd Reg.LINK_COUNT_TX 8 8).wrF Reg.LINK_LAST 0 16 q).event 69

/-- CALL_GRANTS (R325): one grant for each data slot after the beacon, `n` at most; each queue is called at most once, in
the first data slot without a call that holds its frame. A frame that fits no data slot is freed (R324); one whose data
slots are all called waits for the next period. -/
def State.grantCalls (s : State) (slot limit : Nat) (all : List Nat) : Nat → State
  | 0 => s
  | n + 1 =>
    let base := slot - s.position slot
    if limit ≤ s.link.calls.length then s
    else match s.takeGrant with
      | none => s
      | some (q, s1) =>
        let bytes := s1.frameBytes (s1.qd q).head
        let f := parseMac bytes
        let fit := all.filter (fun p => s1.fits (base + p) f.dst bytes.length f.chorus)
        let s2 :=
          if s1.link.calls.any (fun c => c.queue == q) then s1
          else match fit.find? (fun p => !s1.link.calls.any (fun c => c.pos == p)) with
            | some p => { s1 with link := { s1.link with calls := s1.link.calls ++ [⟨q, s1.callee f.dst, p⟩] } }
            | none => if fit.isEmpty then s1.freeTooLong q else s1
        s2.grantCalls slot limit all n

/-- The flood a beacon announces: the anchor's from LINK_FLOOD and FLOODQ (R349), a relay's from its parent's beacon of
the same period (R350). -/
def State.floodFields (s : State) (slot : Nat) : Nat × Nat × Nat :=
  if s.isAnchor then
    let pos := s.rdF Reg.LINK_FLOOD 0 12
    let depth := s.rdF Reg.LINK_FLOOD 12 3
    let room := (s.period - 1 - pos) / (depth + 1)
    (min (s.qd (s.rdF Reg.LINK_RXQ 16 16)).depth (min (s.rdF Reg.LINK_FLOOD 16 8) (min 255 room)), pos, depth)
  else match s.holds s.link.heard slot with
    | some h => (h.floodN, h.floodPos, h.floodDepth)
    | none => (0, 0, 0)

/-- A beacon body (R316, R345). -/
def State.beaconBody (s : State) (o : RunOp) (i : BeaconInfo) : List Byte :=
  let ref := instant (o.openAt + (if s.chanGen2 o.chan then 9216 else 20480))
  leBytes 8 ref ++ leBytes 2 s.branch ++ [byte s.ownDepth, byte (b2n i.joinOpen), byte i.calls.length, byte i.floodN] ++
    leBytes 2 (i.floodPos + i.floodDepth * 2 ^ 12) ++ i.calls.flatMap (fun c => leBytes 2 c.1 ++ leBytes 2 c.2)

/-- The next sequence number of the node's own frames. -/
def State.nextSeq (s : State) : Nat × State :=
  (s.link.seq, { s with link := { s.link with seq := (s.link.seq + 1) % 65536 } })

/-- A frame of the node's own is charged and sent, or the operation ends BUDGET before any side effect: `s0` is the state
before the frame was made up (R332). -/
def State.sendOwn (s s0 : State) (o : RunOp) (bytes : List Byte) (header : Nat) (t : LoadTable) (sent : State → State) :
    State :=
  let c := s.chargeFrame o.chan t bytes.length
  if c.1 then sent ((c.2.sendFrame o.chan bytes header t).setRun { o with phase := .onAir })
  else (s0.budgetRefused (s.chanBand o.chan)).finish o 4

/-- The beacon of a period: its calls and its flood fields. JOIN_OPEN has no source in the manual: a free value. -/
def State.planBeacon (s : State) (o : RunOp) : BeaconInfo × State :=
  let fl := s.floodFields o.slot
  let f := s.takeFree
  let info : BeaconInfo := { src := s.ownAddr, period := s.periodOf o.slot, joinOpen := f.1 % 2 == 1, calls := [],
                             floodN := fl.1, floodPos := fl.2.1, floodDepth := fl.2.2 }
  let all := (List.range s.period).filter (fun p => decide (s.position o.slot < p) && s.dataPos info p)
  let s1 := ({ f.2 with link := { f.2.link with calls := [] } }).grantCalls o.slot (s.callLimit o.slot) all (min 64 all.length)
  ({ info with calls := s1.link.calls.map (fun c => (c.callee, c.pos)) }, s1)

/-- A beacon is built, charged and sent under table 0; event 72. -/
def State.sendBeacon (s : State) (o : RunOp) : State :=
  let b := s.planBeacon o
  let q := b.2.nextSeq
  let bytes := macHeader 0 q.1 0xFFFF s.ownAddr ++ s.beaconBody o b.1
  q.2.sendOwn s o bytes (ownHeader bytes 0) table0
    (fun t => ({ t with link := { t.link with sent := some b.1 } }).event 72)

/-- BEACON_SEND (R317, R345): the node's beacon at its opening instant, while SYNC is 1 or under the anchor sequence. -/
def execBeaconSend (s : State) : Out :=
  match s.link.run with
  | none => .next s
  | some o =>
    if o.ref = .beacon && s.mayOpen o then
      let s1 := s.checkSync
      if !s1.linkSync then .next (s1.finish o 10)
      else .next (s1.openOp o (fun t => t.sendBeacon o))
    else .next s

/-! ### Floods and joins as the sender -/

/-- FLOOD_RELAY (R352, R353): the copy with HOP + 1, sent at its instant; a copy that is sent is remembered and
counted. -/
def execFloodRelay (s : State) : Out :=
  match s.link.run with
  | none => .next s
  | some o =>
    if o.ref = .relay && s.mayOpen o then
      match s.link.relays.find? (fun r => r.openAt == o.openAt) with
      | none => .next (s.finish o 0)
      | some r =>
        let bytes := r.psdu.take (r.psdu.length - 4)
        let t := (s.loadTable (hdrFld r.header 6 10)).getD table0
        let key := ((parseMac bytes).src, (parseMac bytes).seq)
        let s1 := { s with link := { s.link with relays := s.link.relays.filter (· != r) } }
        .next (s1.checkSync.openOp o (fun v => v.sendOwn v o bytes r.header t
          (fun u => ({ u with link := { u.link with recent := (u.link.recent ++ [key]).drop (u.link.recent.length - 7) } }).satAdd
            Reg.LINK_COUNT_MESH 24 8)))
    else .next s

/-- The body of a join frame (R319). -/
def State.joinBody (s : State) : List Byte :=
  uidBytes ++ leBytes 4 s.sysctlId.toNat ++
    leBytes 2 (b2n (s.enabled 17) + b2n (s.enabled 18) * 2 + b2n (s.enabled 1) * 4 + b2n (s.linkFlag 2) * 8) ++
    leBytes 2 s.ltsCapacity

/-- JOIN_SEND (R319): the join frame, from 0xFFFE, in the join slot of a JOIN_OPEN parent after the backoff. -/
def execJoinSend (s : State) : Out :=
  match s.link.run with
  | none => .next s
  | some o =>
    if o.ref = .join && s.mayOpen o then
      .next (s.checkSync.openOp o (fun t =>
        let q := t.nextSeq
        let bytes := macHeader 4 q.1 (s.rdF Reg.LINK_PARENT 0 16) 0xFFFE ++ s.joinBody
        q.2.sendOwn t o bytes (ownHeader bytes 0) table0
          (fun u => { u with link := { u.link with join := { backoff := none, waiting := some (u.retryMax + 1) } } })))
    else .next s

/-- A backoff of 0 to 7 periods is drawn; the manual gives no shift register, so its value is free (R319). -/
def State.drawBackoff (s : State) : State :=
  let f := s.takeFree
  { f.2 with link := { f.2.link with join := { backoff := some (f.1 % 8), waiting := none } } }

/-- JOIN_RETRY (R319): no ASSIGN within RETRY_MAX + 1 periods. -/
def execJoinRetry (s : State) : Out :=
  if s.link.join.waiting = some 0 && !s.bit Reg.LINK_STATUS 2 then .next s.drawBackoff else .next s

/-! ### The start of an operation -/

/-- From the opening instant of a transmission to its end, in fraction steps: the frame, and 140 µs where it asks for an
acknowledgement, with the acknowledgement (R321, R356). -/
def State.txTail (s : State) (o : RunOp) : Nat :=
  let gen2 := s.chanGen2 o.chan
  let queued (q : Nat) : Nat :=
    let bytes := s.frameBytes (s.qd q).head
    let f := parseMac bytes
    let t := (s.txTable (s.callee f.dst)).2
    if (s.qd q).depth = 0 then 0
    else us (s.frameTime gen2 t bytes.length + (if f.ackReq then 40 + s.frameTime gen2 t 8 else 0))
  match o.ref with
  | .call q => queued q
  | .flood _ => queued (s.rdF Reg.LINK_RXQ 16 16)
  | .table k => queued (s.airOp k).addr
  | .beacon => us (s.frameTime gen2 table0 (beaconBase + 4 * (s.planBeacon o).1.calls.length))
  | .join => us (s.frameTime gen2 table0 (8 + s.joinBody.length))
  | .relay => match s.link.relays.find? (fun r => r.openAt == o.openAt) with
    | some r => us (s.frameTime gen2 ((s.loadTable (hdrFld r.header 6 10)).getD table0) (r.psdu.length - 4))
    | none => 0
  | _ => 0

/-- Two operations overlap, from power-up to the end of the receive window or of the transmission (R356). -/
def State.overlap (s : State) (a b : RunOp) : Bool :=
  let tail (o : RunOp) : Nat := if s.isRx o.ref then s.windowTail o else s.txTail o
  decide (since (b.openAt + tail b) (s.powerUpAt a) ≥ 0) && decide (since (a.openAt + tail a) (s.powerUpAt b) ≥ 0)

/-- The first of some operations in the order of R356. -/
def firstOp (l : List RunOp) : Option RunOp :=
  l.foldl (fun b o => match b with
    | none => some o
    | some m => if o.ref.rank < m.ref.rank then some o else some m) none

/-- A running operation that has not put anything on the air gives way to one that goes before it in the order of R356:
CLASH. -/
def State.giveWay (s : State) (o : RunOp) : State :=
  match s.link.run with
  | some r =>
    if decide (o.ref.rank < r.ref.rank) && (r.phase == .power || r.phase == .ready) then
      let s1 := ({ s with link := { s.link with run := none } }).satAdd Reg.LINK_COUNT_TX 24 8
      match r.ref with
      | .table k => s1.endAirOp k 9
      | _ => s1.retryOp r
    else s
  | none => s

/-- AIROP_START (R356, R359): of the operations of this slot and the next whose power-up instant has come, the first in
the order of R356 becomes ACTIVE, unless an operation runs that does not give way to it, or it overlaps an expected one
that goes before it; the others end CLASH. -/
def execAiropStart (s : State) : Out :=
  let s0 := s.checkSync
  let all := s0.opsFrom s0.ticks 2
  let due := all.filter (fun o => s0.reached (s0.powerUpAt o))
  match firstOp due with
  | none => .next s0
  | some o =>
    let ahead := all.any (fun x => decide (x.ref.rank < o.ref.rank) && s0.overlap x o)
    let s1 := if ahead then s0 else s0.giveWay o
    let loses := ahead || s1.link.run.isSome
    let losers := if loses then due else due.filter (fun x => x != o)
    let s2 := losers.foldl State.clashOp s1
    .next (if loses then s2 else s2.startOp o)

/-! ### The front die's strobes and retunes -/

/-- A channel's frequency, loaded into the front die with the codes its tuner starts from, where the frequency changes
(08, "Power-up for a slot"; R285). -/
def State.tuneTo (s : State) (khz : Nat) : State :=
  let s1 := (s.wr Reg.RADIO_RX_FREQ (word khz)).wr Reg.RADIO_TX_FREQ (word khz)
  if s.rdF Reg.RADIO_TX_FREQ 0 22 = khz then s1 else s1.tunerStart (decide (2400000 ≤ khz)) khz

/-- The frequency of the running operation is loaded into the front die. -/
def State.radioLoad (s : State) : State :=
  match s.link.run with
  | some o => s.tuneTo (s.chanKhz o.chan)
  | none => s

/-- STROBE_RECEIVED (R231, R234, R235): the oldest strobe arrives; one that fails its parity is discarded and the air
operation missed. A front die held in its side-band reset receives nothing. -/
def execStrobeReceived (parityOk : Bool) (s : State) : Out :=
  match s.front.strobes with
  | [] => .next s
  | t :: rest =>
    let s1 := { s with front := { s.front with strobes := rest } }
    if s.spineState .front = 1 then .next s1
    else if !parityOk then
      let s2 := if t.state = 5 then { s1 with front := { s1.front with tuneGrant := none } } else s1
      .next ((((s2.setB Reg.RADIO_STATUS 1 true).satAdd Reg.RADIO_COUNT 0 6).event 106).missRun)
    else .next ((if t.state = 1 || t.state = 0 then s1 else s1.radioLoad).commandMove t)

/-- RETURN_LOSS_LOW (R226): measured in a transmission's preamble or with the tuning tone. -/
def execReturnLossLow (path24 : Bool) (rl : Fin 256) (s : State) : Out :=
  if s.fsm = 4 || s.fsm = 5 then .next (s.measuredLoss path24 rl s.slotNow) else .next s

/-- The band that contains a frequency. -/
def State.bandOfKhz (s : State) (khz : Nat) : Option Nat :=
  (List.range s.bandCount).find? (fun b => decide (s.bandFld b 0 4 ≤ khz) && decide (khz ≤ s.bandFld b 4 4))

/-- Nothing uses the radio: no operation, rendezvous, exchange, folio or retune (R354, R503). -/
def State.radioFree (s : State) : Bool :=
  s.link.run.isNone && s.rel.exch.isEmpty && s.rel.window.isEmpty && !s.bit Reg.CAL_STATUS 1 && s.front.tuning.isNone &&
    s.front.tuneGrant.isNone

/-- What a listen before a transmission adds to a gap, µs: none in a band without LBT (R330, R354). -/
def State.listenTime (s : State) (b : Nat) : Nat := if s.bandLbt b then s.bandLbtTime b + 30 else 0

/-- A listen in a band, for a transmission that is no operation of its own, hears the channel busy (R330). -/
def State.listenBusy (s : State) (b : Nat) (power : Int) : Bool := s.bandLbt b && decide (2 * s.bandThresh b ≤ power)

/-- TUNING_GAP_GRANT (R226, R229, R330, R354): in a gap of 170 µs, and the listen in a band with LBT, with no blackout
pending; the tone is charged, or the retune deferred. `power` is the channel power that the listen finds. -/
def execTuningGapGrant (power : Int) (s : State) : Out :=
  match s.link.tuneReq with
  | none => .next s
  | some path =>
    match s.bandOfKhz (s.rdF Reg.RADIO_TX_FREQ 0 22) with
    | none => .next s
    | some b =>
      let room := match s.gapNow with | some g => decide ((us (170 + s.listenTime b) : Int) ≤ g) | none => true
      if !s.radioFree || s.bit Reg.CAL_STATUS 0 || s.relDue 0 || s.relDue 1 || !room then .next s
      else if s.budgetShort b 140 then .next (s.budgetRefused b)
      else if s.listenBusy b power then .next (s.satAdd (Reg.LINK_BAND_CNT b) 16 16)
      else
        let s1 := s.charge b 140
        .next { s1 with
          link := { s1.link with tuneReq := none },
          front := { s1.front with tuneGrant := some path, strobes := s1.front.strobes ++ [⟨5, path, path⟩] } }

/-- The pairs a retune measures, with the return loss of each: the factory code of the channel first, 15 at most (R228). -/
def State.retunePairs (s : State) (path : Bool) (first : Nat) (rest : List (Fin 64 × Fin 64 × Fin 256)) : List (Nat × Nat × Nat) :=
  let c := s.tunerCodes path (s.rdF Reg.RADIO_TX_FREQ 0 22)
  (c.1, c.2, first) :: (rest.take 14).map (fun p => (p.1.val, p.2.1.val, p.2.2.val))

/-- The pair with the highest return loss, the first of equals (notes/assumptions/54.md). -/
def bestPair : List (Nat × Nat × Nat) → Nat × Nat × Nat
  | [] => (0, 0, 0)
  | [p] => p
  | p :: t => let b := bestPair t; if b.2.2 ≤ p.2.2 then p else b

/-- RETUNE_DONE (R227, R228, R230): in TUNE the search ends, the best pair of those measured is kept, event 104; still below
TUNE_THRESH it is counted and asked for no sooner than 64 slots later. `first` is the return loss at the factory code. -/
def execRetuneDone (first : Fin 256) (rest : List (Fin 64 × Fin 64 × Fin 256)) (s : State) : Out :=
  match s.front.tuning with
  | none => .next s
  | some path =>
    if s.fsm != 5 then .next s else
    let p := bestPair (s.retunePairs path first rest)
    let rl := p.2.2
    let s1 := { s with front := { s.front with tuning := none } }
    let s2 := (((s1.wr (tunerReg path) (word (p.1 + p.2.1 * 256))).noteLoss path rl).satAdd Reg.TUNER_COUNT 0 16).event 104
    if rl < s.rdF Reg.TUNER_THRESH 0 6 then
      .next (({ s2 with link := { s2.link with tuneSlot := s.slotNow + 64 } }).satAdd Reg.TUNER_COUNT 16 8)
    else .next s2

end Sys2Proof.Machine
end

