-- ==== Sys2Proof/Machine/Image.lean ====
section
/-! DEFINITION. The catalogue image: its layout, and the checks of R48 from the header to the digests (02). -/

namespace Sys2Proof.Machine

/-! ### Layout -/

/-- TOTAL_LEN of a header (R38). -/
def imgTotal (img : List Byte) : Nat := b4 img 0x10

/-- BUILD of a header. -/
def imgBuild (img : List Byte) : Nat := b4 img 0x0C

/-- KEY_SEL of a header: the rotation key. -/
def imgKey (img : List Byte) : Bool := b1 img 0x09 == 1

/-- A section as it stands in an image: TYPE, whether its reserved bytes are zero and LEN a multiple of 4, and its payload
(R39). -/
structure Section where
  type    : Nat
  clean   : Bool
  payload : List Byte
  deriving DecidableEq, Repr

/-- The sections that tile a run of bytes (R40); none where they do not. `fuel` bounds their number. -/
def parseSections : Nat → List Byte → Option (List Section)
  | 0, l => if l.isEmpty then some [] else none
  | fuel + 1, l =>
    if l.isEmpty then some []
    else
      let len := b4 l 4
      if l.length < 8 || l.length < 8 + len then none
      else
        (parseSections fuel (l.drop (8 + len))).map
          (fun t => ⟨b1 l 0, zeros l 1 3 && len % 4 == 0, (l.drop 8).take len⟩ :: t)

/-- The sections of an image. -/
def imgSections (img : List Byte) : Option (List Section) :=
  let n := imgTotal img - 96
  parseSections (n / 8 + 1) ((img.drop 32).take n)

/-- The payloads by section type. -/
def sectionMap (l : List Section) : List (Nat × List Byte) := l.map (fun x => (x.type, x.payload))

/-- The payload of a type, empty when the image does not carry it. -/
def payloadOf (m : List (Nat × List Byte)) (t : Nat) : List Byte := (mapGet m t).getD []

/-- The section is carried. -/
def carries (m : List (Nat × List Byte)) (t : Nat) : Bool := (mapGet m t).isSome

/-- A bit of the enable word of section 0x01. -/
def enableBit (m : List (Nat × List Byte)) (i : Nat) : Bool := (b4 (payloadOf m 1) 0).testBit i

/-! ### Field checks (check 14), section by section -/

/-- Section 0x01: reserved bits, and the dependencies on the link controller. -/
def enablesOk (p : List Byte) : Bool :=
  let w := b4 p 0
  p.length == 8 && decide (w < 2 ^ 19) && zeros p 4 4 &&
    (w.testBit 0 || !(w.testBit 1 || w.testBit 2 || w.testBit 17 || w.testBit 18))

/-- The enable bits of section 0x01 of which one must be set for a pin function (R634); none for a reserved code
(R633). The host interrupt pad belongs to any of the three interfaces. -/
def funcUnits (f : Nat) : Option (List Nat) :=
  if f = 0 || f = 1 then some []
  else if 0x10 ≤ f && f < 0x14 then some [10]
  else if 0x14 ≤ f && f < 0x18 then some [11]
  else if f = 0x18 || f = 0x19 then some [12]
  else if f = 0x1A || f = 0x1B then some [13]
  else if f = 0x1C || f = 0x1D then some [14]
  else if f = 0x1E || f = 0x1F then some [15]
  else if 0x20 ≤ f && f < 0x24 then some [8]
  else if f = 0x24 then some [7, 8, 9]
  else if 0x30 ≤ f && f < 0x36 then some [6]
  else if 0x40 ≤ f && f < 0x44 then some [5]
  else if 0x48 ≤ f && f < 0x50 then some [16]
  else none

/-- The GPIO pin that is marked for an analogue input (R632). -/
def Variant.ainPin : Variant → Nat → Option Nat
  | .anchor, k => some (32 + k)
  | .label, k => if k < 4 then some (14 + k) else none
  | .keeper, k => if k < 6 then some (18 + k) else none

/-- One entry of section 0x02 (R634, R635). -/
def State.pinEntryOk (s : State) (m : List (Nat × List Byte)) (e : Nat × Nat × Nat) : Bool :=
  match s.pinOf e.1, funcUnits e.2.1 with
  | some n, some us =>
    (us.isEmpty || us.any (enableBit m)) && e.2.2 % 4 != 3 && e.2.2 / 4 % 4 != 3 && decide (e.2.2 < 64) &&
      !(enableBit m 7 && decide (n < 2)) &&
      (!(0x48 ≤ e.2.1 && e.2.1 < 0x50) || s.variant.ainPin (e.2.1 - 0x48) == some n) &&
      !(e.2.1 == 0x33 && b1 (payloadOf m 14) 5 == 3)
  | _, _ => false

/-- Section 0x02. -/
def State.pinsOk (s : State) (m : List (Nat × List Byte)) (p : List Byte) : Bool :=
  let n := b1 p 0
  let es := pinEntries p
  let funcs := (es.map (·.2.1)).filter (2 ≤ ·)
  decide (n ≤ 72) && p.length == 4 + 4 * n && zeros p 1 3 && es.all (s.pinEntryOk m) &&
    (List.range n).all (fun i => zeros p (7 + 4 * i) 1) &&
    decide ((es.map (·.1)).Nodup) && decide (funcs.Nodup)

/-- Section 0x03. -/
def clockOk (p : List Byte) : Bool :=
  p.length == 12 && decide (b1 p 0 < 8) && decide (b1 p 1 ≤ 3) && decide (20 ≤ b2 p 2) && decide (b2 p 2 ≤ 500) &&
    decide (8 ≤ b2 p 4) && decide (b2 p 4 ≤ 255) && zeros p 6 6

/-- The cell records of section 0x04, in order. -/
def cellRecs (p : List Byte) : List (List Byte) := (List.range (b1 p 0)).map (fun i => (p.drop (4 + 12 * i)).take 12)

/-- The channel records of section 0x04, in order. -/
def chanRecs (p : List Byte) : List (List Byte) :=
  (List.range (b1 p 1)).map (fun i => (p.drop (4 + 12 * (b1 p 0 + i))).take 12)

/-- A channel record is sealed. -/
def recSealed (r : List Byte) : Bool := (b1 r 1).testBit 0

/-- Indexes of records strictly rising. -/
def recsRise (l : List (List Byte)) : Bool := keysRise (l.map (fun r => (b1 r 0, r)))

/-- The cells without a flip-flop that cell `i` names, itself included. -/
def recInputs (cells : List (List Byte)) (i : Nat) : List Nat :=
  match cells.find? (fun r => b1 r 0 == i) with
  | none => []
  | some r => ((List.range 4).map (fun k => b2 r (4 + 2 * k))).filterMap (fun n =>
      if 256 ≤ n && n < 288 && cells.any (fun x => b1 x 0 == n - 256 && !(b1 x 1).testBit 0) then some (n - 256) else none)

/-- The cells reached from a set of cells in `n` steps through cells that have no flip-flop. -/
def reachCells (cells : List (List Byte)) : Nat → List Nat → List Nat
  | 0, l => l
  | n + 1, l => reachCells cells n (l ++ (l.flatMap (recInputs cells)).filter (fun i => !l.contains i)).eraseDups

/-- A value depends on itself through cells that have no flip-flop (R204). -/
def cellLoop (cells : List (List Byte)) : Bool :=
  cells.any (fun r => !(b1 r 1).testBit 0 && (reachCells cells 32 (recInputs cells (b1 r 0)).eraseDups).contains (b1 r 0))

/-- Section 0x04 (R45, R198, R204). -/
def fabricOk (p : List Byte) : Bool :=
  decide (4 ≤ p.length) && decide (b1 p 0 ≤ 32) && decide (b1 p 1 ≤ 128) && zeros p 2 2 &&
    p.length == 4 + 12 * (b1 p 0 + b1 p 1) && recsRise (cellRecs p) && recsRise (chanRecs p) &&
    (cellRecs p).all (fun r => decide (b1 r 0 < 32) && b1 r 1 / 2 % 8 == 0 &&
      (List.range 4).all (fun k => !nodeReserved (b2 r (4 + 2 * k)))) &&
    (chanRecs p).all (fun r => decide (b1 r 0 < 128) && decide (b1 r 1 < 4) && !nodeReserved (b2 r 2) &&
      (List.range 4).all (fun k => !taskReserved (b2 r (4 + 2 * k)) && (recSealed r || !taskGuarded (b2 r (4 + 2 * k))))) &&
    !cellLoop (cellRecs p)

/-- Section 0x05. -/
def classesOk (p : List Byte) : Bool :=
  p.length == 68 && zeros p 1 3 && (List.range 16).all (fun c => zeros p (5 + 4 * c) 1)

/-- One band record of section 0x06 (R46). DESIGN CHOICE: the lower edge lies below the upper one
(notes/assumptions/23.md). -/
def State.bandOk (s : State) (p : List Byte) (b : Nat) : Bool :=
  let r := p.drop (4 + 24 * b)
  decide (b4 r 0 < b4 r 4) && decide (b4 r 8 ≤ 1000000) && decide (1 ≤ b2 r 12) && decide (b2 r 12 ≤ 3600) &&
    decide (sfield r 14 1 ≤ s.pathMax (decide (2400000 ≤ b4 r 0))) && decide (b1 r 15 < 2) && zeros r 17 1 &&
    decide (128 ≤ b2 r 18) && decide (b2 r 18 ≤ 10000) && zeros r 20 4

/-- Two bands of section 0x06 overlap. DESIGN CHOICE: two bands that share only an edge frequency do not
(notes/assumptions/23.md). -/
def bandsOverlap (p : List Byte) (a b : Nat) : Bool :=
  decide (b4 p (4 + 24 * a) < b4 p (8 + 24 * b)) && decide (b4 p (4 + 24 * b) < b4 p (8 + 24 * a))

/-- Section 0x06. -/
def State.bandsOk (s : State) (p : List Byte) : Bool :=
  let n := b1 p 0
  decide (1 ≤ n) && decide (n ≤ 8) && zeros p 1 3 && p.length == 4 + 24 * n && (List.range n).all (s.bandOk p) &&
    (List.range n).all (fun a => (List.range a).all (fun b => !bandsOverlap p a b))

/-- One channel record of section 0x07 (R47, R218). -/
def chanOk (bands p : List Byte) (i : Nat) : Bool :=
  let r := p.drop (4 + 8 * i)
  let gen1 := decide (i < b1 p 0)
  let c := b4 r 0
  let h := if gen1 then 100 else 390
  let band := bands.drop (4 + 24 * b1 r 4)
  c % (if gen1 then 200 else 960) == 0 && decide (b1 r 4 < b1 bands 0) && zeros r 5 3 &&
    decide (b4 band 0 + h ≤ c) && decide (c + h ≤ b4 band 4) && (!gen1 || (850000 ≤ c && c ≤ 935000)) &&
    ((850000 + h ≤ c && c + h ≤ 935000) || (2400000 + h ≤ c && c + h ≤ 2483500))

/-- Section 0x07. -/
def planOk (bands p : List Byte) : Bool :=
  let n := b1 p 0 + b1 p 1
  decide (b1 p 0 ≤ 64) && decide (b1 p 1 ≤ 64) && zeros p 2 2 && p.length == 4 + 8 * n &&
    (List.range n).all (chanOk bands p)

/-- Section 0x08; a hop entry is a plan index. -/
def sequenceOk (plan p : List Byte) : Bool :=
  let l := b2 p 6
  decide (16 ≤ p.length) && decide (1 ≤ b1 p 0) && decide (b1 p 0 ≤ 4) && decide (b1 p 1 ≤ 7) && decide (30 ≤ b2 p 2) &&
    decide (b2 p 2 ≤ 3000) && decide (1 ≤ b2 p 4) && decide (b2 p 4 ≤ 4096) && decide (1 ≤ l) && decide (l ≤ 256) &&
    decide (b1 p 8 ≤ 15) && decide (1 ≤ b1 p 10) && decide (b1 p 11 < 8) && zeros p 14 2 &&
    p.length == 16 + (l + 3) / 4 * 4 && zeros p (16 + l) (p.length - 16 - l) &&
    (List.range l).all (fun i => decide (b1 p (16 + i) < b1 plan 0 + b1 plan 1))

/-- Section 0x09. -/
def templatesOk (p : List Byte) : Bool :=
  let n := b1 p 0
  decide (n ≤ 32) && zeros p 1 3 && p.length == 4 + 16 * n &&
    (List.range n).all (fun i =>
      let r := p.drop (4 + 16 * i)
      decide (b1 r 0 < 32) && decide (b1 r 1 < 128) && decide (b1 r 2 < 2) && zeros r 3 1 && zeros r 12 4 &&
        ((b1 r 2 == 1) == (b4 r 8 != 0))) &&
    decide (((List.range n).map (fun i => b1 p (4 + 16 * i))).Nodup)

/-- Section 0x0A. -/
def faultOk (p : List Byte) : Bool :=
  p.length == 132 && decide (1 ≤ b2 p 0) && decide (1 ≤ b2 p 2) &&
    (List.range 128).all (fun n => decide (b1 p (4 + n) < 8) && decide (b1 p (4 + n) % 4 < 2))

/-- Section 0x0B. -/
def securityOk (p : List Byte) : Bool :=
  p.length == 16 && (List.range 7).all (fun i => decide (b1 p i ≤ 2)) && b1 p 7 == 0 && decide (2 ≤ b1 p 8) &&
    decide (b1 p 8 ≤ 15) && decide (b1 p 9 < 4) && decide (1 ≤ b2 p 10) && decide (b2 p 10 ≤ 1000) && zeros p 12 4

/-- Section 0x0C. -/
def calOk (p : List Byte) : Bool :=
  p.length == 8 && decide (2 ≤ b1 p 0) && decide (b1 p 0 ≤ 30) && decide (b1 p 0 ≤ b1 p 1) && decide (b1 p 1 ≤ 60) &&
    decide (30 ≤ b2 p 2) && decide (2 ≤ b1 p 4) && decide (b1 p 4 ≤ 60) && decide (b1 p 5 < 2) && zeros p 6 2

/-- A channel record of section 0x0D. -/
def relRec (p : List Byte) (ch : Nat) : List Byte := (p.drop (4 + 12 * ch)).take 12

/-- Section 0x0D, and the lock pads (R638). -/
def releaseOk (pins p : List Byte) : Bool :=
  p.length == 28 && decide (b1 p 0 < 2) && zeros p 1 3 &&
    [0, 1].all (fun ch =>
      let r := relRec p ch
      decide (b1 r 0 ≤ 2) && decide (b1 r 1 < 2) && decide (5 ≤ b1 r 2) && decide (b1 r 2 ≤ 120) && decide (b1 r 3 < 2) &&
        decide (20 ≤ b2 r 4) && decide (b2 r 4 ≤ 1000) && decide (1 ≤ b2 r 6) && decide (b2 r 6 ≤ 3600) &&
        decide (b1 r 8 < 64) && zeros r 10 2 &&
        (b1 r 0 == 0 || b1 r 3 == 0 || (pinEntries pins).any (fun e => e.1 == b1 r 9 && e.2.1 == 1)))

/-- Section 0x0E. -/
def panelOk (p : List Byte) : Bool :=
  p.length == 32 && decide (8 ≤ b2 p 0) && decide (b2 p 0 ≤ 1024) && decide (8 ≤ b2 p 2) && decide (b2 p 2 ≤ 1024) &&
    (b1 p 4 == 2 || b1 p 4 == 4) && (b1 p 5 == 3 || b1 p 5 == 4) && decide (1 ≤ b1 p 6) && decide (b1 p 6 ≤ 16) &&
    decide (b1 p 7 < 2) && decide (1 ≤ b2 p 8) && decide (b2 p 8 ≤ 1000) && decide (1 ≤ b2 p 10) &&
    decide (b2 p 10 ≤ 60000) && zeros p 12 4

/-- The payload of one type is in range. -/
def State.sectionOk (s : State) (m : List (Nat × List Byte)) (t : Nat) (p : List Byte) : Bool :=
  match t with
  | 1 => enablesOk p
  | 2 => s.pinsOk m p
  | 3 => clockOk p
  | 4 => fabricOk p
  | 5 => classesOk p
  | 6 => s.bandsOk p
  | 7 => planOk (payloadOf m 6) p
  | 8 => sequenceOk (payloadOf m 7) p
  | 9 => templatesOk p
  | 10 => faultOk p
  | 11 => securityOk p
  | 12 => calOk p
  | 13 => releaseOk (payloadOf m 2) p
  | _ => panelOk p

/-- A release channel has RELAY other than 0. -/
def relayOn (m : List (Nat × List Byte)) : Bool := [0, 1].any (fun ch => b1 (relRec (payloadOf m 13) ch) 0 != 0)

/-! ### The checks in order -/

/-- Checks 3 to 7 of R48: the header; 0 where they pass. -/
def State.headerCode (s : State) (img : List Byte) : Nat :=
  let n := imgTotal img
  if img.take 4 != [0x4F, 0x43, 0x56, 0x43] then 1
  else if b2 img 4 != 0x0100 || b2 img 6 != 32 || 2 ≤ b1 img 9 then 2
  else if n % 4 != 0 || n < 96 || 65536 < n then 4
  else if !(b1 img 8).testBit (s.variant.code - 1) then 3
  else if !imgKey img && s.boot.retired then 0xA
  else 0

/-- The signature of an image verifies under R41. -/
def signatureOk (img : List Byte) : Bool :=
  let n := imgTotal img
  ecdsaVerify (Config.imageKey (imgKey img)) (sha256 (img.take (n - 64))) (pairOf (img.drop (n - 64)))

/-- The mandatory sections are carried (R43). -/
def mandatoryOk (m : List (Nat × List Byte)) : Bool :=
  [1, 2, 3, 11].all (carries m) && (!enableBit m 0 || [6, 7, 8].all (carries m)) && (!enableBit m 5 || carries m 13) &&
    (!enableBit m 6 || carries m 14)

/-- Check 14: every field. -/
def State.fieldsOk (s : State) (img : List Byte) (l : List Section) : Bool :=
  let m := sectionMap l
  decide (b1 img 8 < 8) && decide (1 ≤ imgBuild img) && zeros img 0x18 8 &&
    l.all (fun x => x.clean && s.sectionOk m x.type x.payload) &&
    !(relayOn m && s.present 24 && !enableBit m 5)

/-- Check 15: something absent is enabled. -/
def State.absentEnabled (s : State) (m : List (Nat × List Byte)) : Bool :=
  ([(1, 26), (5, 24), (6, 27), (9, 25)].any (fun p => enableBit m p.1 && !s.present p.2)) ||
    (carries m 5 && (List.range 8).any (fun b => (b1 (payloadOf m 5) 0).testBit b && !s.present b)) ||
    (relayOn m && !s.present 24)

/-- Checks 9 to 15 of R48, with the running build for a live image: the code, and the sections where it is 0. -/
def State.contentCode (s : State) (running : Option Nat) (img : List Byte) : Nat × List (Nat × List Byte) :=
  if !signatureOk img then (9, [])
  else if imgBuild img < s.boot.minBuild || (match running with | some b => decide (imgBuild img < b) | none => false) then (0xB, [])
  else match imgSections img with
    | none => (4, [])
    | some l =>
      let m := sectionMap l
      if !(keysRise m && l.all (fun x => 1 ≤ x.type && x.type ≤ 14) && l.length == b2 img 0x0A && 1 ≤ l.length) then (5, [])
      else if !mandatoryOk m then (6, [])
      else if !s.fieldsOk img l then (7, [])
      else if s.absentEnabled m then (8, [])
      else (0, m)

/-! ### Digests (checks 16 and 17) -/

/-- The boot-only sections. -/
def bootOnly : List Nat := [1, 2, 3, 6, 7, 8, 10, 11, 13]

/-- The digest of a section, none where it is not carried. -/
def secDigest (m : List (Nat × List Byte)) (t : Nat) : Option (List Byte) := (mapGet m t).map sha256

/-- The digest of the cell records of section 0x04. -/
def cellDigest (m : List (Nat × List Byte)) : List Byte := sha256 ((cellRecs (payloadOf m 4)).flatten)

/-- The digest of the sealed channel records of section 0x04. -/
def sealedDigest (m : List (Nat × List Byte)) : List Byte := sha256 (((chanRecs (payloadOf m 4)).filter recSealed).flatten)

/-- QBANK_EN: every present bank by default (R44). -/
def State.qbanks (s : State) (m : List (Nat × List Byte)) : Nat :=
  if carries m 5 then b1 (payloadOf m 5) 0 else fld s.variant.present 0 8

/-- Checks 16 and 17 of R48 against the configuration in force. -/
def State.liveCode (s : State) (m : List (Nat × List Byte)) : Nat :=
  let run := s.cat.sections
  if bootOnly.any (fun t => secDigest m t != secDigest run t) || cellDigest m != cellDigest run ||
      s.qbanks m != s.qbanks run then 0xC
  else if sealedDigest m != sealedDigest run then 0xD
  else 0

end Sys2Proof.Machine
end

