-- ==== Sys2Proof/Machine/Catalogue.lean ====
section
/-! DEFINITION. The catalogue: what applying each section sets, the commands of the CATL unit, staging and the switch, the
active-slot record, and the application image (02, 03). -/

namespace Sys2Proof.Machine

/-! ### Applying sections -/

/-- Section 0x03: FORCE_BYPASS, WAKE_LEAD, and the values that later starts use at steps 1 to 3 (R75). -/
def State.applyClock (s : State) (p : List Byte) : State :=
  let f := b1 p 0
  let s1 := (s.setB Reg.CLK_CTRL 1 (f.testBit 1)).wrF Reg.PWR_WAKE_LEAD 0 8 (b2 p 4)
  s1.wr Reg.RSTC_BOOTCFG (word (b1 p 1 + b2n (f.testBit 2) * 4 + 2 ^ 31))

/-- The cell records of section 0x04. -/
def State.applyCells (s : State) (p : List Byte) : State :=
  forRange 32 s (fun t i =>
    match (cellRecs p).find? (fun r => b1 r 0 == i) with
    | some r =>
      ((t.wrF (Reg.FAB_CELL_CFG i) 0 24 (b2 r 2 + b2n ((b1 r 1).testBit 0) * 2 ^ 16 + b1 r 1 / 16 * 2 ^ 20)).wr
        (Reg.FAB_CELL_IN01 i) (word (b4 r 4))).wr (Reg.FAB_CELL_IN23 i) (word (b4 r 8))
    | none => ((t.wrF (Reg.FAB_CELL_CFG i) 0 24 0).wr (Reg.FAB_CELL_IN01 i) 0xFFFFFFFF).wr (Reg.FAB_CELL_IN23 i) 0xFFFFFFFF)

/-- A channel takes the route of its record, or becomes unrouted. -/
def State.applyRoute (s : State) (recs : List (List Byte)) (c : Nat) : State :=
  match recs.find? (fun r => b1 r 0 == c) with
  | some r =>
    ((s.wrF (Reg.FAB_CH_CFG c) 0 18 (b2 r 2 + b2n ((b1 r 1).testBit 1) * 2 ^ 16 + b2n (recSealed r) * 2 ^ 17)).wr
      (Reg.FAB_CH_TASK01 c) (word (b4 r 4))).wr (Reg.FAB_CH_TASK23 c) (word (b4 r 8))
  | none => ((s.wrF (Reg.FAB_CH_CFG c) 0 18 0xFFFF).wr (Reg.FAB_CH_TASK01 c) 0xFFFFFFFF).wr (Reg.FAB_CH_TASK23 c) 0xFFFFFFFF

/-- The channel records of section 0x04; `live` leaves the sealed channels, and the pulses of the switch cycle keep the old
routes (R214). -/
def State.applyChannels (s : State) (p : List Byte) (live : Bool) : State :=
  forRange 128 s (fun t c => if live && t.bit (Reg.FAB_CH_CFG c) 17 then t else (if live then t.keepRoute c else t).applyRoute (chanRecs p) c)

/-- Weights and thresholds of section 0x05; by default weight 1 and threshold 0 (R44). DESIGN CHOICE: a live switch to an
image without the section leaves the class of each queue as it stands (notes/assumptions/23.md). -/
def State.applyWeights (s : State) (p : List Byte) : State :=
  forRange 16 s (fun t c =>
    t.wr (Reg.QE_WEIGHT c) (word (if p.isEmpty then 1 else b1 p (4 + 4 * c) + b2 p (6 + 4 * c) * 2 ^ 16)))

/-- Section 0x06: the bands' allowances (R332). -/
def State.applyBands (s : State) (p : List Byte) : State :=
  forRange 8 s (fun t b =>
    if b < b1 p 0 then t.wr (Reg.LINK_BAND_ALLOW b) (word (b4 p (12 + 24 * b) * b2 p (16 + 24 * b))) else t)

/-- LEAD of the bands in the table (R315). -/
def slotLead (bands : List Byte) : Nat :=
  let l := ((List.range (b1 bands 0)).filter (fun b => (b1 bands (19 + 24 * b)).testBit 0)).map (fun b => b2 bands (22 + 24 * b))
  3 + (3 * l.foldl max 0 + 99) / 100

/-- Section 0x08, with the slot lead of the bands. -/
def State.applySequence (s : State) (bands p : List Byte) : State :=
  if p.isEmpty then s
  else
    ((s.wr Reg.LINK_CFG0 (word (b2 p 2 + b2 p 4 * 2 ^ 16))).wr Reg.LINK_CFG1
      (word (b1 p 1 + b1 p 0 * 2 ^ 4 + b1 p 11 * 2 ^ 8 + b2 p 6 * 2 ^ 16))).wr Reg.LINK_CFG2
      (word (slotLead bands + b2 p 12 * 2 ^ 16))

/-- The templates of section 0x09. -/
def templatesOf (p : List Byte) : List Template :=
  (List.range (b1 p 0)).map (fun i =>
    let r := p.drop (4 + 16 * i)
    ⟨b1 r 0, b1 r 1, sfield r 4 4, b4 r 8⟩)

/-- Section 0x09. -/
def State.applyTemplates (s : State) (p : List Byte) : State :=
  { s with act := { s.act with templates := templatesOf p } }

/-- Section 0x0A, or its defaults (R44). -/
def State.applyFault (s : State) (p : List Byte) : State :=
  if p.isEmpty then forRange 32 (s.wr Reg.FAULT_CFG (word (300 + 30 * 2 ^ 16))) (fun t i => t.wr (Reg.FAULT_MAP i) 0)
  else forRange 32 (s.wr Reg.FAULT_CFG (word (b4 p 0))) (fun t i => t.wr (Reg.FAULT_MAP i) (word (b4 p (4 + 4 * i))))

/-- Section 0x0B: tamper classes, the loop filter, START_LIMIT (R91). -/
def State.applySecurity (s : State) (p : List Byte) : State :=
  let cls := ((List.range 8).map (fun i => b1 p i % 4 * 4 ^ i)).sum
  ((s.wrF Reg.SECMB_TAMP_CLASS 0 16 cls).wrF Reg.SECMB_TAMP_PIN 16 10 (b2 p 10)).wrF Reg.RSTC_CIRC 8 4 (b1 p 8)

/-- Section 0x0C, or its defaults (R44); TUNE_THRESH reaches a powered front die. -/
def State.applyCal (s : State) (p : List Byte) : State :=
  let q : List Byte := if p.isEmpty then [8, 20, 0xB8, 0x0B, 20, 0, 0, 0] else p
  let s1 := (s.wr Reg.CAL_POLICY (word (b2 q 0 + b1 q 5 % 2 * 2 ^ 16))).wr Reg.CAL_WAITR (word (b2 q 2))
  if s.frontPowered then s1.wr Reg.TUNER_THRESH (word (b1 q 4 % 64)) else s1

/-- Section 0x0D. -/
def State.applyRelease (s : State) (p : List Byte) (enabled : Bool) : State :=
  if p.isEmpty then s
  else
    forRange 2 (s.wr Reg.REL_CTRL (word (b2n enabled + b1 p 0 * 2))) (fun t ch =>
      let r := relRec p ch
      (t.wr (Reg.REL_CH_POLICY ch) (word (b1 r 0 + b1 r 1 * 4 + b1 r 3 * 8 + b1 r 2 * 16 + b1 r 8 * 2 ^ 16 + b1 r 9 % 128 * 2 ^ 24))).wr
        (Reg.REL_CH_TIMES ch) (word (b4 r 4)))

/-- Section 0x0E. -/
def State.applyPanel (s : State) (p : List Byte) : State :=
  (s.wr Reg.PANEL_PROF0 (word (b4 p 0))).wr Reg.PANEL_PROF1 (word (b4 p 4))

/-- The live sections. -/
def liveTypes : List Nat := [4, 5, 9, 12, 14]

/-- The payloads that make section 0x04 of boot-only parts alone: the cells and the sealed channels (R51). -/
def sealedFabric (p : List Byte) : List Byte :=
  let recs := (chanRecs p).filter recSealed
  leBytes 1 (b1 p 0) ++ leBytes 1 recs.length ++ [0, 0] ++ (cellRecs p).flatten ++ recs.flatten

/-- Section 0x05 with default weights and thresholds (R51). -/
def defaultClasses (p : List Byte) : List Byte :=
  leBytes 1 (b1 p 0) ++ [0, 0, 0] ++ (List.replicate 16 ([1, 0, 0, 0] : List Byte)).flatten

/-- The sections in force under R51: the boot-only sections, and the boot-only parts of 0x04 and 0x05. -/
def bootParts (m : List (Nat × List Byte)) : List (Nat × List Byte) :=
  (m.filter (fun p => p.1 != 9 && p.1 != 12 && p.1 != 14)).map (fun p =>
    if p.1 = 4 then (4, sealedFabric p.2) else if p.1 = 5 then (5, defaultClasses p.2) else p)

/-- The live sections in force take effect (R53). -/
def State.applyLive (s : State) (live : Bool) : State :=
  let s1 := ((s.applyChannels (s.sec 4) live).applyWeights (s.sec 5)).applyTemplates (s.sec 9)
  (s1.applyCal (s.sec 12)).applyPanel (s.sec 14)

/-- CATL_APPLIED of a set of sections. -/
def appliedWord (m : List (Nat × List Byte)) : Word := word ((m.map (fun p => 2 ^ p.1)).sum)

/-- The boot applies the sections in ascending type order (R50, R91). -/
def State.applyBoot (s : State) (m : List (Nat × List Byte)) : State :=
  let s0 := { s with cat := { s.cat with sections := m }, qe := { s.qe with qbankEn := s.qbanks m } }
  let s1 := (s0.applyClock (s0.sec 3)).applyCells (s0.sec 4)
  let s2 := (s1.applyBands (s0.sec 6)).applySequence (s0.sec 6) (s0.sec 8)
  let s3 := ((s2.applyFault (s0.sec 10)).applySecurity (s0.sec 11)).applyRelease (s0.sec 13) (s0.enabled 5)
  let s4 := s3.applyLive false
  (s4.wr Reg.HIF_CFG (setFld (s4.rd Reg.HIF_CFG) 0 3 (field (s0.sec 1) 0 4 / 2 ^ 7))).wr Reg.CATL_APPLIED (appliedWord m)

/-! ### Reading an image -/

/-- The length of what is read: the whole image, or only the header where TOTAL_LEN is out of range. -/
def readLen (total lo hi : Nat) : Nat := if lo ≤ total && total ≤ hi then total else 32

/-- A byte run of the store die at an offset, for checks; or the STORE_ERR of an unreadable one (R412), a note slip beside
it when Spine-S is not ready (R33). -/
def State.readStored (s : State) (off hi : Nat) : Except State (List Byte × State) :=
  if s.spineState .store != 3 then .error (s.slip 0 0x03 0 (spineNo .store))
  else match s.readRun off 32 with
    | .error t => .error t
    | .ok (h, t) =>
      match t.readRun (off + 32) (readLen (b4 h 0x10) 96 hi - 32) with
      | .error u => .error u
      | .ok (l, u) => .ok (h ++ l, u)

/-- The byte offset of a catalogue slot. -/
def catSlotOff (b : Bool) : Nat := if b then 64 * 2048 else 32 * 2048

/-- The byte offset of an application slot. -/
def appSlotOff (b : Bool) : Nat := if b then 608 * 2048 else 96 * 2048

/-- Checks 1 and 2 of R48: the image at CATL_SRC, or the code with the state. DESIGN CHOICE: check 1 looks at CATL_SRC
alone, and an image that runs past the last present bank is read with what addresses beyond it give
(notes/assumptions/23.md). -/
def State.readSource (s : State) : Except (Nat × State) (List Byte × State) :=
  let a := (s.rd Reg.CATL_SRC).toNat
  let banks := ((List.range 6).filter (fun i => s.present (16 + i))).length
  if a % 4 != 0 then .error (0x11, s)
  else if 0x20000000 ≤ a && a < 0x20000000 + banks * 0x10000 then
    .ok (s.bytesAt a (readLen (b4 (s.bytesAt a 32) 0x10) 96 65536), s)
  else if 0x10010000 ≤ a && a < 0x10030000 then
    match s.readStored (a - 0x10000000) 65536 with
    | .ok r => .ok r
    | .error t => .error (0xF, t)
  else .error (0x11, s)

/-! ### The application image (R80) -/

/-- The header checks of boot step 12; 0 where they pass. -/
def State.appHeaderCode (s : State) (img : List Byte) : Nat :=
  let n := imgTotal img
  if img.take 4 != [0x4F, 0x43, 0x56, 0x41] then 1
  else if b2 img 4 != 0x0100 || b2 img 6 != 32 || 2 ≤ b1 img 9 then 2
  else if n % 4 != 0 || n < 96 || 1048576 < n then 4
  else if !(b1 img 8).testBit (s.variant.code - 1) then 3
  else if !imgKey img && s.boot.retired then 0xA
  else 0

/-- The checks of boot step 12 after the custodian has completed the signature request. -/
def appContentCode (img : List Byte) : Nat :=
  let e := b4 img 0x14
  if !signatureOk img then 9
  else if 8 ≤ b1 img 8 || !zeros img 0x0A 2 || !zeros img 0x18 8 || e % 2 != 0 || imgTotal img - 64 ≤ e then 7
  else 0

/-! ### The active-slot record -/

/-- A slot becomes active: the copy that does not hold the record is written with the sequence number raised (R57,
R58). -/
def State.setActive (s : State) (app slot : Bool) : State :=
  let r := s.record
  let n : SlotRecord := { seq := r.seq + 1, cat := if app then r.cat else slot, app := if app then slot else r.app }
  (s.putSlots n).setB Reg.CATL_INFO (if app then 5 else 0) slot

/-! ### Commands of the CATL unit -/

/-- A catalogue command is in progress (CATL_STATUS.BUSY). -/
def State.catBusy (s : State) : Bool := s.bit Reg.CATL_STATUS 0

/-- CATL_STATUS.PHASE. -/
def State.catPhase (s : State) : Nat := s.rdF Reg.CATL_STATUS 1 3

/-- The command in progress reaches a phase. -/
def State.toPhase (s : State) (n : Nat) : State := (s.setB Reg.CATL_STATUS 0 true).wrF Reg.CATL_STATUS 1 3 n

/-- A command ends: CODE, DONE and event 6 (R63). -/
def State.catEnd (s : State) (code : Nat) : State :=
  let s1 := ((s.wrF Reg.CATL_STATUS 0 4 0).wrF Reg.CATL_STATUS 8 5 code).setB Reg.CATL_STATUS 16 true
  ({ s1 with cat := { s1.cat with cmd := 0, reading := false, image := [], folios := 0 } }).event 6

/-- A command written while another is in progress: refused with BUSY, with no other effect (R61). -/
def State.catRefuse (s : State) : State := s.wrF Reg.CATL_STATUS 8 5 0xE

/-- An image waits for its signature. -/
def State.catWait (s : State) (cmd : Nat) (img : List Byte) : State :=
  ({ s with cat := { s.cat with cmd := cmd, image := img } }).toPhase 1

/-- VERIFY and APPLY up to the signature request: checks 1 to 7 (R48). -/
def State.catBegin (s : State) (cmd : Nat) : State :=
  match s.readSource with
  | .error (c, t) => t.catEnd c
  | .ok (img, t) => match s.headerCode img with
    | 0 => t.catWait cmd img
    | c => t.catEnd c

/-- SET_ACTIVE up to the signature request: the slot's image is read and its header checked (R57). -/
def State.catBeginActive (s : State) : State :=
  let app := s.cat.app
  match s.readStored (if app then appSlotOff s.cat.slot else catSlotOff s.cat.slot) (if app then 1048576 else 65536) with
  | .error t => t.catEnd 0xF
  | .ok (img, t) =>
    match (if app then s.appHeaderCode img else s.headerCode img) with
    | 0 => t.catWait 3 img
    | c => t.catEnd c

/-- A command reads its image in the store die: a SET_ACTIVE, or a CATL_SRC in the XIP window. -/
def State.catFromStore (s : State) (cmd : Nat) : Bool :=
  let a := (s.rd Reg.CATL_SRC).toNat
  cmd == 3 || (0x10010000 ≤ a && a < 0x10030000)

/-- A command starts: with the reading of its image, which waits while the store die cannot be read (R34, R423). -/
def State.catStart (s : State) (cmd : Nat) : State :=
  if s.catFromStore cmd && s.readStalls then
    ({ s with cat := { s.cat with cmd := cmd, reading := true } }).toPhase 1
  else if cmd = 3 then s.catBeginActive else s.catBegin cmd

/-- A waiting read of an image is taken up again. -/
def State.catResume (s : State) : State :=
  if s.cat.reading && !s.readStalls then (State.catStart { s with cat := { s.cat with reading := false } } s.cat.cmd) else s

/-- CATL_VERIFY (R48, R61). -/
def execCatlVerify (s : State) : Out := .next (if s.catBusy then s.catRefuse else s.catStart 1)

/-- CATL_APPLY (R48, R61). -/
def execCatlApply (s : State) : Out :=
  .next (if s.catBusy then s.catRefuse else ((s.wr Reg.CATL_FOLIOS 0).setB Reg.CATL_STATUS 13 false).catStart 2)

/-- CATL_SET_ACTIVE (R57, R58, R61): the slot's image is read and its header checked. -/
def execCatlSetActive (app slot : Bool) (s : State) : Out :=
  if s.catBusy then .next s.catRefuse
  else
    let s0 := (s.setB Reg.CATL_CTRL 8 slot).setB Reg.CATL_CTRL 9 app
    .next (State.catStart { s0 with cat := { s0.cat with app := app, slot := slot } } 3)

/-- Payload bytes of the live sections: what is staged. -/
def stagedBytes (m : List (Nat × List Byte)) : Nat := (liveTypes.map (fun t => (payloadOf m t).length)).sum

/-- Staging has ended: PHASE 4, with LATE when the instant of CATL_AT lies in the past (R54). -/
def State.catStaged (s : State) : State :=
  (s.toPhase 4).setB Reg.CATL_STATUS 13
    (s.bit Reg.CATL_CTRL 4 && s.passed (s.rdInstant Reg.CATL_AT_LO Reg.CATL_AT_HI))

/-- The folios of an accepted APPLY are to be staged (R52). -/
def State.catStage (s : State) (m : List (Nat × List Byte)) : State :=
  let n := (stagedBytes m + 255) / 256
  let s1 := { s with cat := { s.cat with folios := n } }
  if n = 0 then s1.catStaged else s1.toPhase 3

/-- The checks after the signature request of a command (R48): the code, and the sections where it is 0. -/
def State.catContent (s : State) : Nat × List (Nat × List Byte) :=
  let img := s.cat.image
  match s.cat.cmd with
  | 3 => if s.cat.app then (appContentCode img, []) else s.contentCode none img
  | 2 =>
    let r := s.contentCode (some (s.rd Reg.CATL_BUILD).toNat) img
    if r.1 = 0 then (s.liveCode r.2, r.2) else r
  | _ => s.contentCode none img

/-- CATL_SIGNATURE_DONE (R48): the custodian has completed, or refused, the signature request. A VERIFY ends; an APPLY
stages; a SET_ACTIVE has the record written. -/
def execCatlSignatureDone (refused : Bool) (s : State) : Out :=
  if s.catBusy && s.catPhase == 1 && !s.cat.reading then
    if refused then .next (s.catEnd 0x10)
    else
      let r := s.catContent
      if r.1 != 0 then .next (s.catEnd r.1)
      else match s.cat.cmd with
        | 2 => .next (s.catStage r.2)
        | 3 => .next (s.toPhase 5)
        | _ => .next (s.catEnd 0)
  else .next s

/-- CATL_STAGE_FOLIO (R52): at most 256 payload bytes are staged. -/
def execCatlStageFolio (s : State) : Out :=
  if s.catBusy && s.catPhase == 3 then
    let s1 := s.satAdd Reg.CATL_FOLIOS 0 8
    let s2 := { s1 with cat := { s1.cat with folios := s1.cat.folios - 1 } }
    if s.cat.folios ≤ 1 then .next s2.catStaged else .next s2
  else .next s

/-- The sections of the image in the switch, with the boot-only sections as they stand. -/
def State.switched (s : State) (m : List (Nat × List Byte)) : List (Nat × List Byte) :=
  liveTypes.foldl (fun l t => match mapGet m t with
    | some p => mapIns (mapErase l t) t p
    | none => mapErase l t) s.cat.sections

/-- The switch cycle (R53, R55, R677): every live section takes effect, the words held for open channels are discarded,
the queue engine starts a new round; BUILD and the key follow the image. -/
def State.catSwitch (s : State) (m : List (Nat × List Byte)) : State :=
  let l := s.switched m
  let s1 := { s with
    cat := { s.cat with sections := l },
    fab := { s.fab with held := s.fab.held.filter (fun p => s.bit (Reg.FAB_CH_CFG p.1) 17) } }
  let s2 := ((s1.applyLive true).newRound).wr Reg.CATL_BUILD (word (imgBuild s.cat.image))
  ((s2.setB Reg.CATL_INFO 3 (imgKey s.cat.image)).wr Reg.CATL_APPLIED (appliedWord l)).catEnd 0

/-- The switch is due: at once without AT, else when the chronicle has reached CATL_AT (R54). -/
def State.switchDue (s : State) : Bool :=
  s.catBusy && s.catPhase == 4 && (!s.bit Reg.CATL_CTRL 4 || s.reached (s.rdInstant Reg.CATL_AT_LO Reg.CATL_AT_HI))

/-- CATL_SWITCH (R53 to R55). -/
def execCatlSwitch (s : State) : Out :=
  if s.switchDue then .next (s.catSwitch ((imgSections s.cat.image).elim [] sectionMap)) else .next s

/-- CATL_RECORD_WRITTEN (R57, R58): the custodian has written the active-slot record; not while the inhibit holds the
pulses back (R424). -/
def execCatlRecordWritten (s : State) : Out :=
  if s.catBusy && s.catPhase == 5 && !s.bit Reg.PWR_STATUS 0 then .next ((s.setActive s.cat.app s.cat.slot).catEnd 0)
  else .next s

/-- The minimum accepted build is raised, never lowered (R59). -/
def State.raiseMin (s : State) (n : Nat) : State :=
  if s.boot.minBuild < n then ({ s with boot := { s.boot with minBuild := n } }).wr Reg.CATL_MIN_BUILD (word n) else s

/-- CATL_COMMIT (R59, R61). -/
def execCatlCommit (s : State) : Out :=
  .next (if s.catBusy then s.catRefuse else (s.raiseMin (s.rd Reg.CATL_BUILD).toNat).catEnd 0)

/-- The primary key is retired. -/
def State.retireKey (s : State) : State := ({ s with boot := { s.boot with retired := true } }).setB Reg.CATL_INFO 4 true

/-- CATL_RETIRE (R60, R61): accepted only when the rotation key verified the running image; the code of the refusal is
not stated, and CUSTODIAN_REFUSED is taken (DESIGN CHOICE, notes/assumptions/23.md). -/
def execCatlRetire (s : State) : Out :=
  .next (if s.catBusy then s.catRefuse
    else if s.bit Reg.CATL_INFO 3 then s.retireKey.catEnd 0 else s.catEnd 0x10)

end Sys2Proof.Machine
end

