-- ==== Sys2Proof/Machine/Cal.lean ====
section
/-! DEFINITION. Calibration: background estimates, quality figures, temperature, requests, grants, forced blackouts and
folios (10). The CAL registers are the calibration shadow (R288). -/

namespace Sys2Proof.Machine

/-! ### Estimates and quality figures -/

/-- The spur figure: its level and the lane mode; event 120 (R311). -/
def State.spurFigure (s : State) (level : Nat) (four : Bool) : State :=
  (s.wr Reg.CAL_SPUR (word (level + b2n four * 256))).event 120

/-- The corrections of a lane; without skew in single-lane mode (R289). -/
def State.laneValue (s : State) (i : Nat) (v : Word) (skew : Bool) : State :=
  if skew then s.wr (Reg.CAL_LANE i) v
  else s.wr (Reg.CAL_LANE i) ((s.rd (Reg.CAL_LANE i) &&& 0xFF000000) ||| (v &&& 0x00FFFFFF))

/-- The corrections of all four lanes, or of lane 0 without its skew. -/
def State.laneValues (s : State) (lanes : List Word) (four : Bool) : State :=
  if four then forRange 4 s (fun t i => match lanes[i]? with | some v => t.laneValue i v true | none => t)
  else match lanes.head? with | some v => s.laneValue 0 v false | none => s

/-- LANE_ESTIMATE_UPDATE (R289, R311): in RX while BG_EN is 1. -/
def execLaneEstimateUpdate (lanes : List Word) (spur : Fin 256) (s : State) : Out :=
  let four := s.bit Reg.RADIO_FSM 3
  if s.bit Reg.CAL_CTRL 2 && s.fsm == 3 then .next (((s.laneValues lanes four).event 112).spurFigure spur four)
  else .next s

/-- A running average with weight 1/16 on the new value; the manual gives no rounding, so a remainder is rounded by a
free choice (R311). -/
def average (old new free : Nat) : Nat := (15 * old + new + (if free % 2 = 0 then 0 else 15)) / 16

/-- IQ_DC_UPDATE (R290, R311): after a Gen 2 frame received OK, the IQ and DC corrections with event 112 and the EVM
figures with event 120. -/
def State.iqDcUpdate (s : State) (m : RxMeas) : State :=
  let s1 := ((s.wr Reg.CAL_IQ (m.iq &&& 0x0FFF0FFF)).wr Reg.CAL_DC m.dc).event 112
  let f := s1.takeFree
  (forRange 96 f.2 (fun t d => match m.evm[d]? with
    | some e => t.wrF (Reg.CAL_EVM d) 0 8 (average (t.rdF (Reg.CAL_EVM d) 0 8) e.val (f.1 / 2 ^ d))
    | none => t)).event 120

/-- The eye width of a Gen 1 frame with a valid CRC-16; event 120 (R311). -/
def State.eyeUpdate (s : State) (w : Nat) : State := (s.wr Reg.CAL_EYE (word (w + 2 ^ 31))).event 120

/-! ### Temperature and requests -/

/-- The factory record in force gives a sensor correction; before boot step 9 there is none (R287). -/
def State.sensorTemp (s : State) (raw : Int) : Int :=
  let slope : Int := if s.cal.record.isEmpty then 0x8000 else field s.cal.record 0x1E 2
  let c := roundDiv (raw * slope) 0x8000 + sfield s.cal.record 0x1C 2
  clampSigned 10 (roundDiv c 25)

/-- A full recalibration becomes due: PENDING, events 118 and 113, and CAL_WAIT starts (R295). -/
def State.requestCal (s : State) : State :=
  if s.bit Reg.CAL_STATUS 0 then s
  else
    let s1 := (((s.setB Reg.CAL_STATUS 0 true).wrF Reg.CAL_STATUS 2 3 0).event 118).event 113
    { s1 with cal := { s1.cal with waited := 0, limit := s.rdF Reg.CAL_WAITR 0 16, began := false, due := false } }

/-- FORCED is set, but not under the brown-out warning (R303, R309). -/
def State.forceCal (s : State) : State := if s.bit Reg.PWR_STATUS 0 then s else s.setB Reg.CAL_STATUS 5 true

/-- TEMPERATURE_EVALUATION (R294, R295, R303): a reading in 0.01 °C while the front die is not OFF. -/
def execTemperatureEvaluation (raw : Int) (s : State) : Out :=
  if !s.frontPowered && s.front.going.isNone then .next s
  else
    let now := s.sensorTemp raw
    let move := (now - signed 10 (s.rdF Reg.CAL_TEMP 16 10)).natAbs
    let s1 := s.wrF Reg.CAL_TEMP 0 10 (unsigned 10 now)
    let s2 := if 4 * s.rdF Reg.CAL_POLICY 0 8 < move then s1.requestCal else s1
    .next (if 4 * s.rdF Reg.CAL_POLICY 8 8 < move then s2.forceCal else s2)

/-- CAL_REQUEST (R308). -/
def execCalRequest (s : State) : Out := .next s.requestCal

/-- CAL_FORCE (R308). -/
def execCalForce (s : State) : Out := .next s.requestCal.forceCal

/-- CAL_WAIT_EXPIRY (R303, R309). -/
def execCalWaitExpiry (s : State) : Out :=
  if s.bit Reg.CAL_STATUS 0 && !s.bit Reg.CAL_STATUS 5 && !s.cal.began && decide (s.cal.limit ≤ s.cal.waited) &&
      !s.bit Reg.PWR_STATUS 0 then
    .next ((s.setB Reg.CAL_STATUS 5 true).satAdd Reg.CAL_COUNT 24 8)
  else .next s

/-! ### Folios -/

/-- Folios of a full recalibration (R296); one whose grant has started keeps the policy it started under (10, "What if a
live catalogue re-apply changes the calibration policy during a blackout?"). -/
def State.folioCount (s : State) : Nat :=
  if s.cal.began then s.cal.folios else if s.bit Reg.CAL_POLICY 16 then 8 else 4

/-- The strobe that gives the engine the chain, for a folio (R297). -/
def State.strobeCal (s : State) : State := { s with front := { s.front with strobes := s.front.strobes ++ [⟨6, false, false⟩] } }

/-- The folios that are left. -/
def State.foliosLeft (s : State) : Nat := s.folioCount - s.rdF Reg.CAL_STATUS 2 3

/-- T_last takes the temperature now, with event 120 (R301, R311). -/
def State.noteLast (s : State) : State := (s.wrF Reg.CAL_TEMP 16 10 (s.rdF Reg.CAL_TEMP 0 10)).event 120

/-- A grant of `n` folios starts: event 114; folio 0 sets T_last (R300, R301). -/
def State.startGrant (s : State) (n : Nat) : State :=
  let s1 := (s.event 114).setB Reg.CAL_STATUS 1 true
  let s2 := if s.rdF Reg.CAL_STATUS 2 3 = 0 then s1.noteLast else s1
  ({ s2 with cal := { s2.cal with granted := n, folios := s.folioCount, began := true, due := false } }).strobeCal

/-- A blackout may start: PENDING, nothing on the radio, no warning (R309). -/
def State.mayCalibrate (s : State) : Bool := s.bit Reg.CAL_STATUS 0 && !s.bit Reg.PWR_STATUS 0 && s.radioFree

/-- BLACKOUT_GRANT (R299, R300): a gap of at least 400 µs takes as many whole folios as fit. -/
def execBlackoutGrant (s : State) : Out :=
  let n := match s.gapNow with
    | some g => min s.foliosLeft (g.toNat * 100 / 1228800)
    | none => s.foliosLeft
  if s.mayCalibrate && !s.bit Reg.CAL_STATUS 5 && decide (0 < n) then .next ((s.event 79).startGrant n) else .next s

/-- FORCED_BLACKOUT_START (R304, R305): from a slot boundary, or from the end of the operation that ran there, all
remaining folios run; the operations they overlap are missed and counted, event 117 each. -/
def execForcedBlackoutStart (s : State) : Out :=
  if s.mayCalibrate && s.bit Reg.CAL_STATUS 5 && (s.cal.due || s.ticks % s.slotTicks == 0) then
    let last := s.chron.now + s.foliosLeft * us 400
    let lost := s.comingOps.filter (fun o => decide (since (s.powerUpAt o) last < 0))
    let s1 := lost.foldl (fun t o => (((t.serveOp o).missOp o).satAdd Reg.CAL_COUNT 8 8).event 117) s
    .next (s1.startGrant s.foliosLeft)
  else .next s

/-- The last folio has ended: event 116, PENDING and FORCED cleared, RUNS counted (R300). -/
def State.calDone (s : State) : State :=
  let s1 := ((s.satAdd Reg.CAL_COUNT 0 8).setB Reg.CAL_STATUS 16 true).event 116
  let s2 := ((s1.wrF Reg.CAL_STATUS 0 2 0).wrF Reg.CAL_STATUS 2 3 0).setB Reg.CAL_STATUS 5 false
  { s2 with cal := { s2.cal with granted := 0, began := false } }

/-- A folio's result lies within its acceptance limits (R657): `ok` speaks for the quantities that no operand gives; lane 0 of
folio 3 has its offset within 8 steps and its gain within 3 % of 0x4000, and folio 7's spur is at -55 dBc or below. -/
def folioAccepted (f : Nat) (ok : Bool) (values : List Word) (spur : Nat) : Bool :=
  let lane := values.headD 0x4000
  let off := fld lane 16 8
  ok && (f != 3 || (decide (off ≤ 8 ∨ 248 ≤ off) && decide (15893 ≤ fld lane 0 16 ∧ fld lane 0 16 ≤ 16875))) &&
    (f != 7 || decide (55 ≤ spur))

/-- The outcome of a folio: its values taken into the shadow, or kept and STALE with event 119 (R288, R297, R302); folios 3
and 7 update the spur figure (R311). The manual gives the values of the other folios no register. -/
def State.folioResult (s : State) (f : Nat) (ok : Bool) (values : List Word) (spur : Nat) : State :=
  let s0 := { s with cal := { s.cal with results := mapIns (mapErase s.cal.results f) f values } }
  let s1 :=
    if folioAccepted f ok values spur then (if f = 3 then s0.laneValues values false else if f = 7 then s0.laneValues values true else s0).setB Reg.CAL_STATUS (8 + f) false
    else ((s.setB Reg.CAL_STATUS (8 + f) true).satAdd Reg.CAL_COUNT 16 8).event 119
  if f = 3 || f = 7 then s1.spurFigure spur (f == 7) else s1

/-- The engine returns the chain: CAL to STANDBY within the folio's 400 µs, with event 96 (R232, R297). -/
def State.calReturn (s : State) : State := (s.wrF Reg.RADIO_FSM 0 3 1).event 96

/-- The front die goes OFF after the last folio of a grant (10, worked case). -/
def State.calOff (s : State) : State := { s with front := { s.front with strobes := s.front.strobes ++ [⟨0, false, false⟩] } }

/-- CAL_FOLIO_END (R297, R300, R302, R309): in CAL, the folio's results take effect at its CAL to STANDBY transition; the
next folio of the grant takes the chain again. `values` are the folio's results. -/
def execCalFolioEnd (ok : Bool) (values : List Word) (spur : Fin 256) (s : State) : Out :=
  if s.bit Reg.CAL_STATUS 1 && s.fsm == 6 && s.front.going.isNone then
    let f := s.rdF Reg.CAL_STATUS 2 3
    let s1 := ((s.folioResult f ok values spur).calReturn).event 115
    if s.folioCount ≤ f + 1 then .next s1.calDone.calOff
    else
      let left := if s.bit Reg.PWR_STATUS 0 then 0 else s.cal.granted - 1
      let s2 := { s1 with cal := { s1.cal with granted := left } }
      let s3 := (s2.wrF Reg.CAL_STATUS 2 3 (f + 1)).setB Reg.CAL_STATUS 1 (left != 0)
      .next (if left = 0 then s3.calOff else s3.strobeCal)
  else .next s

end Sys2Proof.Machine
end

