-- ==== Sys2Proof/Machine/Timers.lean ====
section
/-! DEFINITION. The general timers TMR0 to TMR7 (06). -/

namespace Sys2Proof.Machine

/-- TMRn_CCm_CFG. -/
def ccCfg (t m : Nat) : Nat := 0x40010010 + 0x10 * m + 0x1000 * t
/-- TMRn_CCm. -/
def ccValue (t m : Nat) : Nat := 0x40010014 + 0x10 * m + 0x1000 * t
/-- TMRn_CCm_STRIDE. -/
def ccStride (t m : Nat) : Nat := 0x40010018 + 0x10 * m + 0x1000 * t

/-- A match of a channel (R167): its flag, its event, and in stride mode the addition, which CC0 leaves out under C0CLR,
and which yields to a software write of the value in the same cycle (R187); CC0 under C0CLR has CNT cleared in the next
cycle (R168). -/
def State.timerMatch (s : State) (t m : Nat) : State :=
  let clr := m == 0 && s.bit (Reg.TMR_CTRL t) 5
  let s1 := (s.setB (Reg.TMR_FLAGS t) m true).event (32 + 4 * t + m)
  let s2 := if s.rdF (ccCfg t m) 0 2 == 2 && !clr && (mapGet s.cyc.ccWritten (ccValue t m)).isNone then s1.wr (ccValue t m) (s.rd (ccValue t m) + s.rd (ccStride t m)) else s1
  if clr then { s2 with tmr := { s2.tmr with c0Due := setMemberT s2.tmr.c0Due t } } else s2
where
  /-- The list with a timer in it. -/
  setMemberT (l : List Nat) (t : Nat) : List Nat := if l.contains t then l else l ++ [t]

/-- The value a channel compares with in the running cycle: that of before a software write in stride mode (R187). -/
def State.ccCompare (s : State) (t m : Nat) : Word :=
  match mapGet s.cyc.ccWritten (ccValue t m) with
  | some old => if s.rdF (ccCfg t m) 0 2 == 2 then old else s.rd (ccValue t m)
  | none => s.rd (ccValue t m)

/-- The channels in compare or stride mode that match a value CNT takes by counting or by a clear (R166). -/
def State.timerHits (s : State) (t : Nat) (v : Word) : List Nat :=
  (List.range 4).filter (fun m =>
    (s.rdF (ccCfg t m) 0 2 == 1 || s.rdF (ccCfg t m) 0 2 == 2) && s.ccCompare t m == v)

/-- CNT takes a value by counting or by a clear: its channels match. -/
def State.timerTake (s : State) (t : Nat) (v : Word) : State :=
  (s.timerHits t v).foldl (fun u m => u.timerMatch t m) (s.wr (Reg.TMR_CNT t) v)

/-- A clear due under R168 is no longer due. -/
def State.dropC0 (s : State) (t : Nat) : State :=
  { s with tmr := { s.tmr with c0Due := s.tmr.c0Due.filter (· != t) } }

/-- The PRESCALE in force (R164). -/
def State.prescale (s : State) (t : Nat) : Nat := (mapGet s.tmr.oldPresc t).getD (s.rdF (Reg.TMR_CTRL t) 1 4)

/-- WRAP, when CNT advances from its largest value (R162). -/
def State.timerWrap (s : State) (t : Nat) (cnt : Word) : State :=
  if cnt == 0xFFFFFFFF then s.setB (Reg.TMR_FLAGS t) 8 true else s

/-- PRECNT returns to 0: a pending PRESCALE applies (R164), and CNT advances by one, wrapping with WRAP (R162), or is
cleared when CC0 matched before it (R168). In a cycle in which R168 has cleared CNT it does not count; in one in which
CLEAR has, the matches of the value it would have taken are raised and CNT stays 0 (R187). -/
def State.timerCount (s : State) (t : Nat) : State :=
  let s0 := ({ s with tmr := { s.tmr with oldPresc := mapErase s.tmr.oldPresc t } }).wr (Reg.TMR_PRECNT t) 0
  if s.tmr.c0Due.contains t then (s0.dropC0 t).timerTake t 0
  else if s.cyc.c0Cleared.contains t then s0
  else match mapGet s.cyc.cleared t with
  | some old =>
    let s1 := s0.timerWrap t old
    (s1.timerHits t (old + 1)).foldl (fun u m => u.timerMatch t m) s1
  | none =>
    let cnt := s.rd (Reg.TMR_CNT t)
    (s0.timerWrap t cnt).timerTake t (cnt + 1)

/-- TIMER_PRESCALE_EXPIRY (R161): while RUN is 1 and the part does not sleep (R165). -/
def execTimerPrescaleExpiry (t : Fin 8) (s : State) : Out :=
  if s.bit (Reg.TMR_CTRL t) 0 && !s.asleep then .next (s.timerCount t) else .next s

/-- The fabric has delivered a task in the running PERCLK cycle. -/
def State.taskHere (s : State) (n : Nat) : Bool := s.fab.taskNow.contains n

/-- TIMER_START: RUN is set; a STOP in the same cycle wins (R187). -/
def execTimerStart (t : Fin 8) (s : State) : Out :=
  .next (s.setB (Reg.TMR_CTRL t) 0 (!s.cyc.stopped.contains t.val))

/-- TIMER_STOP: RUN is cleared, for the whole cycle (R187). -/
def execTimerStop (t : Fin 8) (s : State) : Out :=
  .next { s.setB (Reg.TMR_CTRL t) 0 false with cyc := { s.cyc with stopped := t.val :: s.cyc.stopped } }

/-- TIMER_CLEAR: CNT takes 0, which may match (R166); a value that software writes in the cycle remains (R187). -/
def execTimerClear (t : Fin 8) (s : State) : Out :=
  if s.cyc.cntWritten.contains t.val then .next s
  else
    let s1 := (s.dropC0 t).timerTake t 0
    .next { s1 with cyc := { s1.cyc with cleared := (t.val, s.rd (Reg.TMR_CNT t)) :: s1.cyc.cleared } }

/-- TIMER_CAPTURE: a channel in capture mode copies CNT, with OVR when its flag was set (R169, R167). -/
def execTimerCapture (t : Fin 8) (ch : Fin 4) (s : State) : Out :=
  if s.rdF (ccCfg t ch) 0 2 == 3 then
    let s1 := if s.bit (Reg.TMR_FLAGS t) ch then s.setB (Reg.TMR_FLAGS t) (4 + ch) true else s
    let s2 := ((s1.wr (ccValue t ch) (s.rd (Reg.TMR_CNT t))).setB (Reg.TMR_FLAGS t) ch true).event (32 + 4 * t + ch)
    .next { s2 with cyc := { s2.cyc with captured := ccValue t ch :: s2.cyc.captured } }
  else .next s

/-- TIMER_CNT_WRITE: CNT is set without a match and PRECNT is 0 (R166); the written value outlives a clear due and a CLEAR
of the same cycle (R187). -/
def execTimerCntWrite (t : Fin 8) (v : Word) (s : State) : Out :=
  let s1 := ((s.dropC0 t).wr (Reg.TMR_CNT t) v).wr (Reg.TMR_PRECNT t) 0
  .next { s1 with cyc := { s1.cyc with cntWritten := t.val :: s1.cyc.cntWritten } }

/-- A write of a channel value: a value captured in the same cycle remains, and a match of the old value is still raised
(R187). -/
def State.writeTimerValue (s : State) (a : Nat) (v : Word) : State :=
  if s.cyc.captured.contains a then s
  else
    let s1 := s.wr a v
    if (mapGet s.cyc.ccWritten a).isSome then s1
    else { s1 with cyc := { s1.cyc with ccWritten := (a, s.rd a) :: s1.cyc.ccWritten } }

/-- A write to TMRn_CTRL: a new PRESCALE waits for PRECNT to return to 0 while RUN is 1 (R164). -/
def State.writeTimerCtrl (s : State) (t : Nat) (v : Word) : State :=
  let s1 := s.wrF (Reg.TMR_CTRL t) 0 6 (fld v 0 6)
  if s.bit (Reg.TMR_CTRL t) 0 && fld v 1 4 != s.prescale t then
    { s1 with tmr := { s1.tmr with oldPresc := mapIns (mapErase s1.tmr.oldPresc t) t (s.prescale t) } }
  else { s1 with tmr := { s1.tmr with oldPresc := mapErase s1.tmr.oldPresc t } }

/-- A PERCLK cycle begins for a timer within idle time: a clear due is made, in place of that cycle's count (R168);
PRECNT of a running timer advances up to its end, where TIMER_PRESCALE_EXPIRY follows (R161). -/
def State.timerPerclk (s : State) (t : Nat) : State :=
  let s1 := if s.tmr.c0Due.contains t then
      let u := (s.dropC0 t).timerTake t 0
      { u with cyc := { u.cyc with c0Cleared := t :: u.cyc.c0Cleared } }
    else s
  if s1.bit (Reg.TMR_CTRL t) 0 then
    s1.wr (Reg.TMR_PRECNT t) (word (min ((s1.rd (Reg.TMR_PRECNT t)).toNat + 1) (2 ^ s1.prescale t - 1)))
  else s1

end Sys2Proof.Machine
end

