-- ==== Sys2Proof/Machine/Tamper.lean ====
section
/-! DEFINITION. The tamper inputs and their reactions (14). -/

namespace Sys2Proof.Machine

/-- The class of a tamper input (SECMB_TAMP_CLASS). -/
def State.tampClass (s : State) (i : Nat) : Nat := s.rdF Reg.SECMB_TAMP_CLASS (2 * i) 2

/-- The reaction of class T1: custodian work is aborted, slots 32 to 63 are purged (R489, R490), and held locks drop, with
a DROP message when the lock slot still works (R527). -/
def State.tamperT1 (s : State) : State := ((s.refuseAll 7 (fun _ => true)).purgeKeys (fun n => 32 ≤ n)).relTamper

/-- TAMPER_SEAL (R489, R491, R493): as T1, the key store zeroised, the fuse set, and the part sealed. -/
def State.tamperSeal (s : State) : State :=
  let s1 := s.tamperT1.purgeKeys (fun _ => true)
  ({ s1 with cust := { s1.cust with zeroised := true } }).hold .sealed

/-- A trip (R489, R493, R494): latch, count, first instant, event 254 and the class reaction; in sleep a wake, in
Hibernate the event after step 13. -/
def State.tamperTrip (s : State) (i : Nat) : State :=
  let s1 := if s.rdF Reg.SECMB_TAMP_LATCH 0 8 = 0 then
      s.wrInstant Reg.SECMB_TAMP_FIRST_LO Reg.SECMB_TAMP_FIRST_HI s.chron.now else s
  let s2 := (s1.setB Reg.SECMB_TAMP_LATCH i true).satAdd Reg.SECMB_TAMP_COUNT 0 16
  let s3 := if s.pwr.mode == .hibernate then { s2 with cust := { s2.cust with eventDue := true } } else s2.event 254
  match s.tampClass i with
  | 0 => s3.wake 5
  | 1 => (s3.tamperT1).wake 5
  | _ => s3.tamperSeal

/-- A loop pin that trips reads high (SECMB_TAMP_PIN), unless the fabric task 160 or 161 trips the input. -/
def State.loopPin (s : State) (i : Nat) : State :=
  if i < 2 && !s.taskHere (160 + i) then s.setB Reg.SECMB_TAMP_PIN i true else s

/-- TAMPER_TRIP of an input: input 7 never trips; in Hibernate only the loops do (R486, R494). -/
def execTamperTrip (i : Fin 8) (s : State) : Out :=
  if i.val = 7 || s.isHeld || (s.pwr.mode == .hibernate && 2 ≤ i.val) then .next s else .next ((s.loopPin i).tamperTrip i)

/-- TEMPERATURE_TAMPER_CHECK (R486): a die temperature in 0.25 °C below −45 °C or above +110 °C trips input 4; the check
runs while the part is awake and at each wake. -/
def execTemperatureTamperCheck (temp : Int) (s : State) : Out :=
  if s.asleep || s.isHeld then .next s
  else if temp < -180 || 440 < temp then .next (s.tamperTrip 4)
  else .next s

/-- SUPPLY_GLITCH (R651, R494): input 2 trips, but not in Hibernate. -/
def execSupplyGlitch (s : State) : Out :=
  if s.pwr.mode == .hibernate || s.isHeld then .next s else .next (s.tamperTrip 2)

end Sys2Proof.Machine
end

