-- ==== Sys2Proof/Machine/Release.lean ====
section
/-! DEFINITION. The release unit: starting and dropping channels, rendezvous, the exchange, the decision, sessions and
door edges (15). -/

namespace Sys2Proof.Machine

/-! ### START and DROP -/

/-- The code that refuses a START (R501), in the order of the rule; 0 accepts. -/
def State.relStartCode (s : State) (ch : Nat) : Nat :=
  let plan := s.rdF (Reg.REL_CH_CFG ch) 0 8
  if !s.enabled 5 || s.relay ch == 0 then 1
  else if s.planCount ≤ plan || !s.chanGen2 plan || !s.chan24 plan then 2
  else if s.relDesk && !s.relGpio ch && !s.rel.lockSet.contains ch then 2
  else if (s.relExch ch).isSome then 3
  else 0

/-- The outcome of a START in REL_RESULT for a master, or in TASK_REF for a fabric task (R502). -/
def State.relResult (s : State) (src : Option Master) (ch code : Nat) : State :=
  match src with
  | some m => s.wr Reg.REL_RESULT (word (code + ch * 8 + masterId m * 16))
  | none => if code = 0 then s else s.satAdd (Reg.REL_CH_COUNT ch) 24 8

/-- A START is accepted: SEEKING from IDLE, and the lock pad is the release unit's from now on (R500, R518). -/
def State.relBegin (s : State) (ch : Nat) : State :=
  let s1 := { s with rel := { s.rel with
    started := if s.rel.started.contains ch then s.rel.started else s.rel.started ++ [ch] } }
  if s.relState ch = 0 then s1.setRelState ch 1 else s1

/-- A write to the release unit's page on a variant without it (R7, R8); a fabric task finds no unit. -/
def State.relAbsent (s : State) (src : Option Master) (a : Nat) : State :=
  if src.isSome then (s.absentSlip 64 a).answer 0 else s

/-- A START has come in the running cycle: where its code goes, as it stood before. -/
def State.markStart (s : State) (src : Option Master) (ch : Nat) : State :=
  { s with cyc := { s.cyc with relStarts := (ch, src,
      match src with | some _ => s.rd Reg.REL_RESULT | none => s.rd (Reg.REL_CH_COUNT ch)) :: s.cyc.relStarts } }

/-- A DROP of another origin has come to the channel in the running cycle (R525). -/
def State.droppedNow (s : State) (src : Option Master) (ch : Nat) : Bool :=
  s.cyc.relDrops.any (fun p => p.1 == ch && p.2 != src)

/-- REL_START (R501, R502); a DROP of another origin in the same cycle wins, and the START records no code (R525). -/
def execRelStart (src : Option Master) (ch : Fin 2) (s : State) : Out :=
  if src.any s.locked then .next s.answerError
  else if !s.present 24 then .next (s.relAbsent src (Reg.REL_CH_CTRL ch))
  else if s.droppedNow src ch then .next s
  else
    let c := s.relStartCode ch
    let s1 := s.markStart src ch
    if c = 0 then .next ((s1.relBegin ch).relResult src ch 0) else .next (s1.relResult src ch c)

/-- The exchange of a channel, if any, is marked. -/
def State.markExch (s : State) (ch : Nat) (f : RelExch → RelExch) : State :=
  match s.relExch ch with
  | some e => s.setExch ch (f e)
  | none => s

/-- The STARTs of another origin that the channel has had in the running cycle record no code (R525). -/
def State.unstart (s : State) (src : Option Master) (ch : Nat) : State :=
  match s.cyc.relStarts.find? (fun p => p.1 == ch && p.2.1 != src) with
  | some (_, some _, w) => s.wr Reg.REL_RESULT w
  | some (_, none, w) => s.wr (Reg.REL_CH_COUNT ch) w
  | none => s

/-- REL_DROP (R500, R526): to IDLE from any state, the lock dropping when held; an exchange in progress runs on; a START in
the same cycle is as if it had not come (R525). -/
def execRelDrop (src : Option Master) (ch : Fin 2) (s : State) : Out :=
  if src.any s.locked then .next s.answerError
  else if !s.present 24 then .next (s.relAbsent src (Reg.REL_CH_CTRL ch))
  else
  let s0 := s.unstart src ch
  let s1 := ({ s0 with cyc := { s0.cyc with relDrops := (ch.val, src) :: s0.cyc.relDrops } }).markExch ch (fun e => { e with dropped := true })
  if s.relState ch = 2 then .next (s1.dropLock ch 0) else .next (s1.setRelState ch 0)

/-- REL_FAILCLR (R515). -/
def execRelFailclr (v : Word) (s : State) : Out :=
  if !s.present 24 then .next ((s.absentSlip 64 Reg.REL_FAILCLR).answer 0)
  else if bitOf v 0 then .next ((s.wr Reg.REL_FAILCOUNT 0).event 207) else .next s

/-! ### Rendezvous -/

/-- The release channel. -/
def State.relChan (s : State) (ch : Nat) : Nat := s.rdF (Reg.REL_CH_CFG ch) 0 8

/-- The mode of a channel is distance-bound. -/
def State.relRanging (s : State) (ch : Nat) : Bool := s.relay ch == 2

/-- The sum of a side's transmissions in an exchange, µs (R504). -/
def State.relBudget (s : State) (ch : Nat) : Nat :=
  (if s.relDesk then 2850 else 3000) + (if s.relRanging ch then 32 else 0)

/-- Charge a transmission of the exchange (R504). -/
def State.relCharge (s : State) (ch us : Nat) : State := s.charge (s.chanBand (s.relChan ch)) us

/-- A gap covers the exchange, to the end of its last transition, with no blackout pending that goes before it (R503); a
rendezvous of the channel that is still open ends with the new one. -/
def State.relGap (s : State) (ch : Nat) : Bool :=
  let blackout := s.bit Reg.CAL_STATUS 0 && !s.bit Reg.PWR_STATUS 0
  let room := match s.gapNow with | some g => decide ((us 6768 : Int) ≤ g) | none => true
  { s with rel := { s.rel with window := s.rel.window.filter (· != ch) } }.radioFree && !blackout && room

/-- Why a rendezvous is skipped: SKIP, 0 when it runs (R504, R505). -/
def State.relSkip (s : State) (ch : Nat) : Nat :=
  if !s.bit Reg.CHRON_STATUS 0 then 4
  else if s.bit Reg.CAL_STATUS 1 && s.bit Reg.CAL_STATUS 5 then 5
  else if !s.relGap ch then 2
  else if s.budgetShort (s.chanBand (s.relChan ch)) (s.relBudget ch) then 3
  else 0

/-- The outcome of a rendezvous in STATUS.SKIP. -/
def State.setSkip (s : State) (ch n : Nat) : State := s.wrF (Reg.REL_CH_STATUS ch) 4 3 n

/-- A rendezvous without a grant: a HELD desk in beacon release returns to SEEKING and drops the lock (R523). -/
def State.noGrant (s : State) (ch : Nat) : State :=
  if s.relDesk && s.relState ch == 2 && !s.relSession ch then s.dropLock ch 1 else s

/-- A rendezvous is skipped and counted (R505). -/
def State.skipRv (s : State) (ch n : Nat) : State :=
  ((s.setSkip ch n).satAdd (Reg.REL_CH_COUNT ch) 16 8).noGrant ch

/-- Changes of the front end on the 2.4 GHz path are strobed. -/
def State.relStrobes (s : State) (l : List (Fin 8)) : State :=
  { s with front := { s.front with strobes := s.front.strobes ++ l.map (fun n => ⟨n, true, true⟩) } }

/-- A channel's rendezvous runs without an exchange, or no longer does. -/
def State.setWindow (s : State) (ch : Nat) (b : Bool) : State :=
  let rest := s.rel.window.filter (· != ch)
  { s with rel := { s.rel with window := if b then rest ++ [ch] else rest } }

/-- One transmission of an exchange: charged, the one before it ended, at its power on the release channel (R224, R504). -/
def State.relSend (s : State) (ch us : Nat) (mk : Int → AirFrame) : State :=
  ((s.endTx).relCharge ch us).airTx (s.relChan ch) mk

/-- A release frame: type 0x6 under table 0, an unsecured MAC header and the body (15, "Release frames"). The manual gives
its DST no value: the other side's address, 0xFFFF for an OPEN to any card (notes/assumptions/54.md). -/
def State.relFrame (s : State) (ch us dst : Nat) (body : List Byte) : State :=
  let q := s.nextSeq
  let bytes := macHeader 6 q.1 dst s.ownAddr ++ body
  q.2.relSend ch us (gen2Frame (ownHeader bytes 0) table0 (bytes ++ leBytes 4 (crc32 bytes)))

/-- The chirps of the rapid phase, in distance-bound mode (R510, R511). -/
def State.relChirps (s : State) (ch : Nat) (bits : List Byte) : State :=
  if s.relRanging ch then (airBits bits).foldl (fun t b => t.relSend ch 2 (chirpFrame b)) s else s

/-- The rapid phase of one side: its symbol and its chirps (R510, R511). -/
def State.relRapid (s : State) (ch : Nat) (symbol chirps : List Byte) : State :=
  (s.relSend ch 150 (rapidSymbol (airBits symbol))).relChirps ch chirps

/-- Random bytes of an exchange, and whether the custodian refused them. -/
def State.relRandom (s : State) (n : Nat) : List Byte × Bool × State :=
  match s.random n with
  | .ok r => (r.1, false, r.2)
  | .error _ => let r := s.takeFreeBytes n; (r.1, true, r.2)

/-- The body of a release frame (R506). -/
def relBody (op ch arg : Nat) (rest : List Byte) : List Byte := [byte op, byte ch] ++ leBytes 2 arg ++ rest

/-- The desk's side of a rendezvous that runs: OPEN, and with a JOIN the challenge, the ranging bits and the chirps
(R510, R511, R516). -/
def State.deskExchange (s : State) (ch : Nat) (join : Option (Fin 65536 × BitVec 128)) : State :=
  let nd := s.relRandom 16
  let target := if s.relState ch = 2 then s.rdF (Reg.REL_CH_STATUS ch) 16 16 else 0xFFFF
  let open_ := relBody 1 ch target nd.1
  let s1 := ((nd.2.2.tuneTo (s.chanKhz (s.relChan ch))).relFrame ch 1350 target open_)
  match join with
  | none => (((s1.setSkip ch 1).relStrobes [1, 4, 3]).setWindow ch true).noGrant ch
  | some (peer, nc) =>
    let c := s1.relRandom 12
    let q := c.2.2.relRandom 2
    let s2 := ((q.2.2.setWindow ch false).relRapid ch c.1 q.1).relStrobes [1, 4, 3, 7]
    let e : RelExch := {
      startAt := s.chron.now, nd := nd.1, nc := leBytes 16 nc.toNat, peer := peer, joined := true, challenge := c.1,
      ranging := q.1, refused := nd.2.1 || c.2.1 || q.2.1, sent := [open_, c.1, q.1] }
    (((s2.setExch ch e).setSkip ch 0).satAdd (Reg.REL_CH_COUNT ch) 0 16)

/-- The card's side: its window opens; without an OPEN the rendezvous stays IDLE. -/
def State.cardWindow (s : State) (ch : Nat) : State :=
  (((s.tuneTo (s.chanKhz (s.relChan ch))).setSkip ch 1).relStrobes [1, 3]).setWindow ch true

/-- A desk's listen in a band with LBT has heard the channel busy: no OPEN goes out, and the rendezvous is without a grant
(R330). The manual gives SKIP no code for it: a free value (notes/assumptions/54.md). -/
def State.relBusy (s : State) (ch : Nat) : State :=
  let f := s.takeFree
  (f.2.satAdd (Reg.LINK_BAND_CNT (s.chanBand (s.relChan ch))) 16 16).skipRv ch (f.1 % 8)

/-- REL_RENDEZVOUS (R498, R503 to R505): at a rendezvous instant the channel skips, or runs its exchange. `power` is the
channel power that a desk's listen finds in a band with LBT (R330); `join` is the JOIN that a desk receives: the card's
address and N_c. -/
def execRelRendezvous (ch : Fin 2) (power : Int) (join : Option (Fin 65536 × BitVec 128)) (s : State) : Out :=
  if s.asleep || !s.relDue ch then .next s
  else
    let s1 := { s with rel := { s.rel with lastRv := mapIns (mapErase s.rel.lastRv ch) ch s.ticks } }
    let k := s1.relSkip ch
    if k != 0 then .next (s1.skipRv ch k)
    else if s.relDesk && s1.listenBusy (s1.chanBand (s1.relChan ch)) power then .next (s1.relBusy ch)
    else if s.relDesk then .next (s1.deskExchange ch join)
    else .next (s1.cardWindow ch)

/-! ### The exchange -/

/-- The pad of an exchange (R507), as a number: p in bits 0 to 95, q in bits 96 to 111. -/
def relPad (key nd nc : List Byte) : Nat :=
  leNat (aesEnc key ([0x4F, 0x43, 0x56, 0x4C] ++ nd.take 6 ++ nc.take 6))

/-- CONFIRM's TAG (R508). -/
def confirmTag (key nd nc challenge response ranging replies delta : List Byte) : List Byte :=
  (aesCmac key ([0x4F, 0x43, 0x56, 0x51] ++ nd ++ nc ++ challenge ++ response ++ ranging ++ replies ++ delta)).take 8

/-- VERDICT's SEAL of a status block, and the status block of a SEAL (R509). -/
def verdictSeal (key nd nc block : List Byte) : List Byte :=
  xorBytes block ((aesEnc key ([0x4F, 0x43, 0x56, 0x56] ++ (nd.drop 6).take 6 ++ (nc.drop 6).take 6)).take 8)

/-- VERDICT's TAG (R509). -/
def verdictTag (key nd nc sl : List Byte) : List Byte :=
  (aesCmac key ([0x4F, 0x43, 0x56, 0x57] ++ nd ++ nc ++ sl)).take 8

/-- The exchange key of a channel: an AES slot with ENC, MAC and RELEASE (R506). -/
def State.exchKey (s : State) (ch : Nat) : Option (List Byte) :=
  let slot := s.rdF (Reg.REL_CH_POLICY ch) 16 6
  if s.keyBit slot 10 then s.relKey slot 8 else none

/-- The response and reply bits that the pad gives for challenge and ranging bits. -/
def relAnswer (pad : Nat) (challenge ranging : List Byte) : List Byte × List Byte :=
  (leBytes 12 (leNat challenge ^^^ (pad % 2 ^ 96)), leBytes 2 (leNat ranging ^^^ (pad / 2 ^ 96 % 2 ^ 16)))

/-- The card answers an OPEN (R511 to R513): JOIN, the response symbol, the reply chirps and CONFIRM, with the desk's
channel number in the bodies (R506). -/
def State.cardExchange (s : State) (ch desk src : Nat) (nd challenge ranging delta : List Byte) : State :=
  let nc := s.relRandom 16
  let e : RelExch := {
    startAt := s.chron.now, nd := nd, nc := nc.1, peer := src, desk := desk, joined := true, challenge := challenge, ranging := ranging,
    refused := nc.2.1, sent := [relBody 2 desk 0 nc.1] }
  let s0 := ((nc.2.2.setWindow ch false).setSkip ch 0).satAdd (Reg.REL_CH_COUNT ch) 0 16
  let s1 := s0.relFrame ch 1350 src (relBody 2 desk 0 nc.1)
  match s1.exchKey ch with
  | none =>
    let f := s1.takeFreeBytes 38
    let a := (f.1.take 12, (f.1.drop 12).take 2, relBody 3 desk 0 (delta ++ (f.1.drop 14).take 8))
    (((f.2.setExch ch { e with refused := true, sent := e.sent ++ [a.1, a.2.1, a.2.2] }).relRapid ch a.1 a.2.1).relFrame
      ch 1500 src a.2.2).relStrobes [4, 7, 4, 3]
  | some key =>
    let a := relAnswer (relPad key nd nc.1) challenge ranging
    let tag := confirmTag key nd nc.1 challenge a.1 ranging a.2 delta
    let c := relBody 3 desk 0 (delta ++ tag)
    (((s1.setExch ch { e with sent := e.sent ++ [a.1, a.2, c] }).relRapid ch a.1 a.2).relFrame ch 1500 src c).relStrobes
      [4, 7, 4, 3]

/-- REL_OPEN_RECEIVED (R513): a card that hears an OPEN for it in its window answers, or skips it; one that got no
VERDICT after its last JOIN skips the next OPEN for any card with a probability of one half. The operands carry what the
card receives in the exchange, the desk's channel number first, and the DELTA values it measures, 0.5 ns. -/
def execRelOpenReceived (ch : Fin 2) (desk : Fin 256) (src target : Fin 65536) (nd : BitVec 128) (challenge : BitVec 96)
    (ranging : BitVec 16) (delta : List Int) (s : State) : Out :=
  let any := target.val == 0xFFFF
  if s.relDesk || s.asleep || s.relState ch != 1 || (s.relExch ch).isSome || !s.rel.window.contains ch.val then .next s
  else if !(any || target.val == s.ownAddr) then .next s
  else
    let coin := any && s.rel.noVerdict.contains ch
    let f := if coin then s.takeFree else (0, s)
    let s1 := { f.2 with rel := { f.2.rel with noVerdict := if coin then f.2.rel.noVerdict.filter (· != ch.val) else f.2.rel.noVerdict } }
    if f.1 % 2 = 1 then .next s1
    else if s1.budgetShort (s1.chanBand (s1.relChan ch)) (s1.relBudget ch) then .next (s1.skipRv ch 3)
    else
      let d := if s.relRanging ch then (List.range 16).map (fun i => byte (unsigned 8 (delta.getD i 0))) else List.replicate 16 0
      .next (s1.cardExchange ch desk src (leBytes 16 nd.toNat) (leBytes 12 challenge.toNat) (leBytes 2 ranging.toNat) d)

/-- The 16 values 2τ_i in half nanoseconds: the measured r_i − x_i less the chirp, the turnaround and DELTA_i. -/
def tauValues (times : List Int) (delta : List Byte) : List Int :=
  (List.range 16).map (fun i => times.getD i 0 - 11125 - signed 8 (field delta i 1))

/-- The sum of the middle eight of 16 values. -/
def middleSum (l : List Int) : Int := (((l.insertionSort (· ≤ ·)).drop 4).take 8).sum

/-- The distance is within DIST_LIMIT × 0.1 m, for the sum of the middle eight values. -/
def withinLimit (sum : Int) (limit : Nat) : Bool := decide (2998 * sum ≤ 32000 * limit)

/-- DIST of a sum: 0.1 m, nearest, held in 0 to 255. -/
def distOf (sum : Int) : Nat := min 255 (roundDiv (2998 * sum) 32000).toNat

/-- The measured conditions of R514 on an exchange: the response bits, the response start in ns about its nominal
instant, the replies and the distance. -/
def State.measuredOk (s : State) (ch : Nat) (e : RelExch) (pad : Nat) (resp : BitVec 96) (offset : Int)
    (replies : List (Option Bool)) (times : List Int) (delta : List Byte) : Bool :=
  let a := relAnswer pad e.challenge e.ranging
  leBytes 12 resp.toNat == a.1 && decide (-250 ≤ offset) && decide (offset ≤ 250) &&
    (!s.relRanging ch ||
      ((List.range 16).all (fun i => replies.getD i none == some ((leNat a.2).testBit i)) &&
        withinLimit (middleSum (tauValues times delta)) (s.rdF (Reg.REL_CH_POLICY ch) 4 7)))

/-- Every grant condition of R514 holds. -/
def State.relGrants (s : State) (ch : Nat) (e : RelExch) (resp : BitVec 96) (offset : Int)
    (replies : List (Option Bool)) (times : List Int) (confirm : Option (List Byte)) : Bool :=
  match s.exchKey ch, confirm with
  | some key, some body =>
    let delta := (body.drop 4).take 16
    let a := relAnswer (relPad key e.nd e.nc) e.challenge e.ranging
    !e.refused && !e.dropped && (s.relState ch == 1 || s.relState ch == 2) && body.length == 28 && b1 body 0 == 3 &&
      b1 body 1 == ch && (body.drop 20).take 8 == confirmTag key e.nd e.nc e.challenge a.1 e.ranging a.2 delta &&
      s.measuredOk ch e (relPad key e.nd e.nc) resp offset replies times delta
  | _, _ => false

/-- VALID_MS of a RELEASE (R519). -/
def State.validMs (s : State) (ch : Nat) : Nat := if s.relSession ch then s.relTimeout ch * 1000 else 2 * s.relPeriod ch

/-- The session end instant of a channel is set. -/
def State.setSession (s : State) (ch at_ : Nat) : State :=
  { s with rel := { s.rel with sessions := mapIns (mapErase s.rel.sessions ch) ch at_ } }

/-- The session end instant of a grant made now (R524). -/
def State.sessionEnd (s : State) (ch : Nat) : Nat := instant (s.chron.now + s.relTimeout ch * 30000 * 1024)

/-- A grant (R516, R519, R524): HELD with CARD and DIST, the lock released, the session end set and event 202 + ch; a
grant in HELD renews the release, which raises no event. Response-time mode measures no distance, and DIST takes a free value. -/
def State.relGrant (s : State) (ch : Nat) (e : RelExch) (sum : Int) : State :=
  let f := if s.relRanging ch then (distOf sum, s) else s.takeFree
  let s1 := ((f.2.setRelState ch 2).wrF (Reg.REL_CH_STATUS ch) 16 16 e.peer).wrF (Reg.REL_CH_DIST ch) 0 8 f.1
  let s2 := s1.sendLock ch 1 (s.validMs ch) e.peer
  let s3 := if s.relSession ch then s2.setSession ch (s.sessionEnd ch) else s2
  s3.eventIf (s.relState ch == 1) (202 + ch)

/-- A failed attempt (R515, R523). -/
def State.relFail (s : State) (ch : Nat) : State := ((s.satAdd Reg.REL_FAILCOUNT 0 16).event 207).noGrant ch

/-- The VERDICT frame of a decision is sent, at t11 alike (R509); without a key its body is a free value. -/
def State.sendVerdict (s : State) (ch : Nat) (e : RelExch) (grant : Bool) : State :=
  let s1 := s.relStrobes [3, 4]
  let r := match s.exchKey ch with
    | some key =>
      let sl := verdictSeal key e.nd e.nc ((if grant then 1 else 0) :: List.replicate 7 0)
      (sl ++ verdictTag key e.nd e.nc sl, s1)
    | none => s1.takeFreeBytes 16
  let body := relBody 4 ch 0 r.1
  (r.2.setExch ch { e with decided := true, sent := e.sent ++ [body] }).relFrame ch 1350 e.peer body

/-- REL_DECISION (R514 to R516, R526): t10 and t11 of a desk's exchange. The operands are what the desk has received:
the response bits, the response start less 20.000 µs in ns, the replies, the times r_i − x_i in half nanoseconds, and the
CONFIRM body. -/
def execRelDecision (ch : Fin 2) (resp : BitVec 96) (offset : Int) (replies : List (Option Bool)) (times : List Int)
    (confirm : Option (List Byte)) (s : State) : Out :=
  match s.relExch ch with
  | none => .next s
  | some e =>
    if !s.relDesk || e.decided then .next s
    else
      let ok := s.relGrants ch e resp offset replies times confirm
      let s1 := s.sendVerdict ch e ok
      let delta := ((confirm.getD []).drop 4).take 16
      if ok then .next (s1.relGrant ch e (middleSum (tauValues times delta))) else .next (s1.relFail ch)

/-- REL_EXCHANGE_END (R511): t12 at the desk; event 200 + ch, and the front end leaves the exchange. A rendezvous that found
no JOIN, or no OPEN, ends here too: the front end goes OFF, and nothing more. -/
def execRelExchangeEnd (ch : Fin 2) (s : State) : Out :=
  match s.relExch ch with
  | some e => if s.relDesk && e.decided then .next ((((s.endTx).endExch ch).event (200 + ch)).relStrobes [0]) else .next s
  | none => if s.rel.window.contains ch.val then .next (((s.endTx).setWindow ch false).relStrobes [0]) else .next s

/-- The card reads a VERDICT body: a grant (R509, R517). -/
def State.verdictGrants (s : State) (ch : Nat) (e : RelExch) (body : List Byte) : Bool :=
  match s.exchKey ch with
  | some key =>
    let sl := (body.drop 4).take 8
    body.length == 20 && b1 body 0 == 4 && b1 body 1 == e.desk && (body.drop 12).take 8 == verdictTag key e.nd e.nc sl &&
      verdictSeal key e.nd e.nc sl == 1 :: List.replicate 7 0
  | none => false

/-- REL_VERDICT_RECEIVED (R511, R517): t12 at the card, with the body of the VERDICT or none. -/
def execRelVerdictReceived (ch : Fin 2) (verdict : Option (List Byte)) (s : State) : Out :=
  match s.relExch ch with
  | none => .next s
  | some e =>
    if s.relDesk then .next s
    else
      let rest := s.rel.noVerdict.filter (· != ch.val)
      let s1 := { s with rel := { s.rel with noVerdict := if verdict.isNone then rest ++ [ch.val] else rest } }
      let s2 := (((s1.endTx).endExch ch).event (200 + ch)).relStrobes [0]
      if (match verdict with | some b => s.verdictGrants ch e b | none => false) then .next (s2.event (202 + ch))
      else .next (((s2.satAdd Reg.REL_FAILCOUNT 0 16).event (204 + ch)).event 207)

/-! ### Sessions and doors -/

/-- REL_SESSION_END (R524): a HELD session desk at the grant instant plus SESSION_TIMEOUT. -/
def execRelSessionEnd (ch : Fin 2) (s : State) : Out :=
  match mapGet s.rel.sessions ch with
  | some t => if !s.asleep && s.relState ch == 2 && s.reached t then .next (s.dropLock ch 0) else .next s
  | none => .next s

/-- The effect of an edge on DOOR_INn: REL_DOOR, event 206, and the end of a held session of channel n (R524). -/
def State.doorEdge (s : State) (n : Nat) (level : Bool) : State :=
  let s1 := (s.setB Reg.REL_DOOR n level).setB Reg.REL_DOOR (2 + n) true |>.event 206
  if s1.relDesk && s1.relState n == 2 && s1.relSession n then s1.dropLock n 0 else s1

/-- DOOR_IN_EDGE (R524, R636, R640): the source on the pad of DOOR_INn drives a new level. In sleep only a pad with the
wake bit is seen, and it wakes the part. -/
def execDoorInEdge (n : Fin 2) (level : Bool) (s : State) : Out :=
  match s.funcPin (0x42 + n) with
  | none => .next s
  | some p =>
    let s0 := { s with ser := { s.ser with pads := mapIns (mapErase s.ser.pads p) p level } }
    if s.bit Reg.REL_DOOR n == level || !s.enabled 5 then .next s0
    else if s.asleep then
      if s.pinWakes p && s.edgeMatches p level then
        .next (if s.pwr.mode == .hibernate then s0.padWake p else (s0.doorEdge n level).padWake p)
      else .next s0
    else .next (s0.doorEdge n level)

/-- The rendezvous instants that a forward step from `old` skips: rendezvous without a grant (15, "What if a phase step
skips a rendezvous?"). -/
def State.skipRendezvous (s : State) (old : Nat) : State :=
  forRange 2 s (fun t ch =>
    let p := t.relTicks ch
    let phase := t.rdF (Reg.REL_CH_CFG ch) 16 15 % p
    let seen (x : Nat) : Nat := (x + p - phase) / p
    if t.relActive ch && (t.relExch ch).isNone && seen (old / 1024) < seen t.ticks && (old / 1024 < t.ticks) then t.noGrant ch else t)

end Sys2Proof.Machine
end

