-- ==== Sys2Proof/Machine/ChronStep.lean ====
section
/-! DEFINITION. Phase steps of the chronicle and what a forward step carries it past (05), and the wake alarm (04). -/

namespace Sys2Proof.Machine

/-! ### The wake alarm -/

/-- The alarm is armed (PWR_ALARM_HI.EN). -/
def State.alarmOn (s : State) : Bool := s.bit Reg.PWR_ALARM_HI 31

/-- The ALARM instant: the one that the last write of PWR_ALARM_HI loaded (R127). -/
def State.alarmAt (s : State) : Nat := s.pwr.alarm * 1024

/-- The alarm fires: EN is cleared; in sleep it wakes the part, while awake it does nothing else (R675). -/
def State.fireAlarm (s : State) : State :=
  let s1 := s.setB Reg.PWR_ALARM_HI 31 false
  if s.asleep then s1.wake 0 else s1

/-- ALARM_FIRE: the chronicle has reached the ALARM instant (R675). -/
def execAlarmFire (s : State) : Out := if s.alarmOn && s.reached s.alarmAt then .next s.fireAlarm else .next s

/-- PWR_ALARM_HI_WRITE: the whole alarm is loaded; an instant at or before the chronicle fires at once (R127, R128). -/
def execPwrAlarmHiWrite (v : Word) (s : State) : Out :=
  let s0 := s.wr Reg.PWR_ALARM_HI (v &&& 0x8000FFFF)
  let s1 : State := { s0 with pwr := { s0.pwr with alarm := (s.rd Reg.PWR_ALARM_LO).toNat + fld v 0 16 * 2 ^ 32 } }
  .next (if s1.alarmOn && s1.reached s1.alarmAt then s1.fireAlarm else s1)

/-! ### Phase steps -/

/-- The chronicle stood before an instant at `old`, and has reached it. -/
def State.carriedPast (s : State) (old i : Nat) : Bool := decide (since old i < 0) && s.reached i

/-- The air operations that a step to `new` carries the chronicle past: counted as missed (05, "What if a phase step
jumps over armed actions?"), also where the tick count wraps between (R671). The slots are those of the chronicle before
the step. -/
def State.skippedOps (s : State) (new : Nat) : List RunOp :=
  (s.opsFrom s.ticks ((new / 1024 + 2 ^ 48 - s.ticks) % 2 ^ 48 / s.slotTicks + 2)).filter
    (fun o => decide (since s.chron.now o.openAt < 0) && decide (0 ≤ since new o.openAt))

/-- What a forward step from `old` carries the chronicle past is treated as reached (R155): skipped actions wait for
their catch-up, the wake alarm fires, a waiting CATL switch is late, rendezvous go without a grant. -/
def State.carried (s : State) (old : Nat) : State :=
  let s1 := s.skipActions old
  let s2 := if s1.alarmOn && s1.carriedPast old s1.alarmAt then s1.fireAlarm else s1
  let s3 := if s2.catBusy && s2.catPhase == 4 && s2.bit Reg.CATL_CTRL 4 &&
      s2.carriedPast old (s2.rdInstant Reg.CATL_AT_LO Reg.CATL_AT_HI) then s2.setB Reg.CATL_STATUS 13 true else s2
  s3.skipRendezvous old

/-- A phase step (R145): all 58 bits change at once. The captured beacon's instant moves with it, so that intervals
stay the time that passed (DEDUCED, notes/assumptions/9.md). -/
def State.applyStep (s : State) (theta : Int) : State :=
  let old := s.chron.now
  let new := unsigned 58 (old + theta)
  let lost := if 0 < theta then s.skippedOps new else []
  let s0 := lost.foldl (fun t o => (t.serveOp o).missOp o) s
  let s1 := { s0 with chron := { s0.chron with
    now := new, lastRx := s0.chron.lastRx.map (fun (p : Nat) => unsigned 58 (p + theta)) } }
  if 0 < theta then s1.carried old else s1

/-- The amount of a software step. -/
def State.stepAmount (s : State) : Int := signed 58 (s.rdInstant Reg.CHRON_STEP_LO Reg.CHRON_STEP_HI)

/-- A step is armed (CHRON_STEP_CTRL.PENDING). -/
def State.stepPending (s : State) : Bool := s.bit Reg.CHRON_STEP_CTRL 8

/-- The instant of an armed step. -/
def State.stepAt (s : State) : Nat := s.rdInstant Reg.CHRON_STEP_AT_LO Reg.CHRON_STEP_AT_HI

/-- A software step is applied: PENDING is cleared and STEP_DONE set (R146, R147); a step that was pending makes the next
beacon a new origin (R157). -/
def State.softStep (s : State) : State :=
  let pend := s.stepPending
  let s1 := (s.applyStep s.stepAmount).setB Reg.CHRON_STEP_CTRL 8 false
  ({ s1 with chron := { s1.chron with stepHold := pend || s1.chron.stepHold } }).chronFlag 3

/-- CHRON_STEP_ARM: ignored while PENDING; an instant already reached applies the step at once (R146, R147). -/
def execChronStepArm (s : State) : Out :=
  if s.stepPending then .next s
  else if s.reached s.stepAt then .next s.softStep
  else .next (s.setB Reg.CHRON_STEP_CTRL 8 true)

/-- CHRON_STEP_NOW (R147). -/
def execChronStepNow (s : State) : Out := .next s.softStep

/-- CHRON_STEP_CANCEL (R147). -/
def execChronStepCancel (s : State) : Out := .next (s.setB Reg.CHRON_STEP_CTRL 8 false)

/-- CHRON_STEP_REACHED: the chronicle is at or past CHRON_STEP_AT (R146). -/
def execChronStepReached (s : State) : Out :=
  if s.stepPending && s.reached s.stepAt then .next s.softStep else .next s

/-- DISCIPLINE_STEP: the phase step of a captured beacon, at the next tick boundary (R149, R151). -/
def execDisciplineStep (s : State) : Out :=
  match s.chron.discStep with
  | some theta => .next ({ s with chron := { s.chron with discStep := none } }.applyStep theta)
  | none => .next s

/-- CHRON_LOST: the guard of a window would exceed LOST_TICKS (R154), and the node is then out of sync (R346). -/
def execChronLost (openAt : Nat) (s : State) : Out :=
  if s.chron.lastRx.isSome && decide (s.rdF Reg.CHRON_EPS 16 16 * 1024 < s.guardAt openAt) then
    .next (((s.setB Reg.CHRON_STATUS 2 true).chronFlag 2).checkSync)
  else .next s

end Sys2Proof.Machine
end

