-- ==== Sys2Proof/Machine/Fault.lean ====
section
/-! DEFINITION. The fault collector: slip intake, grace, trace and injection; the watchdog; the waits of the recall monitors
(16). -/

namespace Sys2Proof.Machine

/-- The fault reaction map byte of a source (section 0x0A, FAULT_MAPn). -/
def State.faultMap (s : State) (src : Nat) : Nat := s.rdF (Reg.FAULT_MAP (src / 4)) (8 * (src % 4)) 8

/-- The promoted class of a slip from a source (R532). -/
def State.promoted (s : State) (src cls : Nat) : Nat :=
  if s.faultMap src % 4 == 1 && cls < 2 then cls + 1 else cls

/-- The severe reaction: the severe-pending bit, event 7, and the grace timer when it is idle (R533, R535, R554). -/
def State.severe (s : State) (src : Nat) : State :=
  let s1 := (s.setB (Reg.FAULT_SEVPEND (src / 32)) (src % 32) true).event 7
  if s.bit Reg.FAULT_STATUS 0 then s1
  else (s1.setB Reg.FAULT_STATUS 0 true).wrF Reg.FAULT_STATUS 16 16 (s.rdF Reg.FAULT_CFG 0 16)

/-- SLIP_TRACE (R541): severe and grave slips and slips of traced sources enter the trace FIFO with their promoted
class and the arrival ticks; a full FIFO counts LOST. -/
def State.trace (s : State) (w : Word) (src cls : Nat) : State :=
  if 2 ≤ cls || (s.faultMap src / 4) % 2 == 1 then
    if 16 ≤ s.fault.trace.length then s.satAdd Reg.FAULT_TRACE_STAT 8 8
    else { s with fault := { s.fault with trace := s.fault.trace ++ [⟨setFld w 13 2 cls, word s.ticks⟩] } }
  else s

/-- The collector takes a slip (R533): a repeat is counted (R554), the sticky bit set, the promoted class acts. -/
def State.takeSlip (s : State) (w : Word) : State :=
  let src := fld w 0 7
  let cls := s.promoted src (fld w 13 2)
  let s1 := if s.bit (Reg.FAULT_STICKY (src / 32)) (src % 32) then s.satAdd Reg.FAULT_COUNT 16 8 else s
  let s2 := (s1.setB (Reg.FAULT_STICKY (src / 32)) (src % 32) true).trace w src cls
  match cls with
  | 0 => (s2.satAdd Reg.FAULT_COUNT 0 16).event 4
  | 1 => s2.event 5
  | 2 => s2.severe src
  | _ => s2.graveHold w

/-- The first slip of a source among those waiting, and the rest in order. -/
def takeFirst (src : Nat) : List Word → Option (Word × List Word)
  | [] => none
  | w :: t =>
    if fld w 0 7 = src then some (w, t)
    else match takeFirst src t with
      | some (x, r) => some (x, w :: r)
      | none => none

/-- A slip of a source has arrived in the running cycle. -/
def State.noteSlip (s : State) (src : Nat) : State := { s with cyc := { s.cyc with slips := src :: s.cyc.slips } }

/-- SLIP_INTAKE: the oldest slip a source holds is taken (R533). -/
def execSlipIntake (src : Fin 128) (s : State) : Out :=
  match takeFirst src s.fault.waiting with
  | some (w, rest) => .next (({ s with fault := { s.fault with waiting := rest } }.takeSlip w).noteSlip src)
  | none => .next s

/-- The bits of a written word that clear: not those of sources whose slip has arrived in the running cycle (R534). -/
def State.clearing (s : State) (j : Nat) (v : Word) : Word :=
  (s.cyc.slips.filter (fun src => src / 32 == j)).foldl (fun w src => setFld w (src % 32) 1 0) v

/-- A severe-pending bit is set. -/
def State.anySevere (s : State) : Bool := (List.range 4).any (fun j => s.rd (Reg.FAULT_SEVPEND j) != 0)

/-- STICKY_CLEAR: a one clears the sticky bit and the severe-pending bit of the source, unless its slip arrives in the same
cycle (R534); clearing source 4 also clears the escalation of R546. -/
def execStickyClear (j : Fin 4) (w : Word) (s : State) : Out :=
  let v := s.clearing j w
  let s1 := (s.wr (Reg.FAULT_STICKY j) (s.rd (Reg.FAULT_STICKY j) &&& ~~~ v)).wr (Reg.FAULT_SEVPEND j)
    (s.rd (Reg.FAULT_SEVPEND j) &&& ~~~ v)
  let s2 := { s1 with cyc := { s1.cyc with severe := s.cyc.severe || s.anySevere } }
  if j = 0 && bitOf v 4 then .next { s2 with fault := { s2.fault with noRecall := [] } } else .next s2

/-- WDOG_COUNT has reached LIMIT while RUN is 1 (R550). -/
def State.wdogDue (s : State) : Bool := s.bit Reg.WDOG_CTRL 0 && decide (s.rdF Reg.WDOG_LIMIT 0 24 ≤ s.rdF Reg.WDOG_COUNT 0 24)

/-- GRACE_EXPIRY: when the running grace timer has reached 0, an escalation reset if any severe-pending bit is 1, or was
cleared in this cycle, else the timer becomes idle (R536); with the watchdog's reset in the same tick the cause is the
watchdog (R555). -/
def execGraceExpiry (s : State) : Out :=
  if s.bit Reg.FAULT_STATUS 0 && s.rdF Reg.FAULT_STATUS 16 16 == 0 then
    if s.anySevere || s.cyc.severe then .next (s.warmReset (if s.wdogDue then .watchdog else .fault))
    else .next (s.setB Reg.FAULT_STATUS 0 false)
  else .next s

/-- FAULT_INJECT: a slip from source 127, kind 0x11; class 3 is refused and counted (R543). -/
def execFaultInject (v : Word) (s : State) : Out :=
  if fld v 13 2 == 3 then .next (s.satAdd Reg.FAULT_STATUS 8 8)
  else .next (s.slip 127 0x11 (fld v 13 2) (fld v 16 16))

/-- A read of FAULT_TRACE_SLIP: the oldest slip, which a debug read removes; zero for every other master (R542). -/
def State.readTraceSlip (s : State) (m : Master) : Word × State :=
  match m, s.fault.trace with
  | .debug, e :: t => (e.slip, { s with fault := { s.fault with trace := t } })
  | _, _ => (0, s)

/-- TRACE_SLIP_READ (R542). -/
def execTraceSlipRead (m : Master) (s : State) : Out :=
  if s.locked m then .next s.answerError else
  let r := s.readTraceSlip m
  .next (r.2.answer r.1)

/-- TRACE_STAT_WRITE: a debug write of any value sets LOST to 0; writes by other masters are ignored (R542). -/
def execTraceStatWrite (m : Master) (s : State) : Out :=
  if s.locked m then .next s.answerError else
  match m with
  | .debug => .next (s.wrF Reg.FAULT_TRACE_STAT 8 8 0)
  | _ => .next s

/-- REGULATOR_OUT_OF_RANGE: a grave slip from source 2 (R531), which holds the part at once (R538). -/
def execRegulatorOutOfRange (r : Fin 3) (s : State) : Out := .next (s.takeSlip (slipWord 2 0x0F 3 r))

/-! ### Watchdog -/

/-- The warning stage: WARNED, event 15, a severe slip, and a wake from sleep (R549). -/
def State.wdogWarn (s : State) : State :=
  (((s.setB Reg.WDOG_STATUS 0 true).event 15).slip 12 0x0A 2 (s.rdF Reg.WDOG_COUNT 0 16)).wake 6

/-- A feed: WDOG_COUNT is 0 and the held WARN and LIMIT take effect together (R548, R551). -/
def State.wdogFeed (s : State) : State :=
  let s1 := s.wr Reg.WDOG_COUNT 0
  let s2 := match s.fault.heldWarn with | some w => s1.wr Reg.WDOG_WARN w | none => s1
  let s3 := match s.fault.heldLimit with | some w => s2.wr Reg.WDOG_LIMIT w | none => s2
  { s3 with fault := { s3.fault with heldWarn := none, heldLimit := none } }

/-- WDOG_FEED: the key feeds; another value is counted and, while RUN is 1, starts the warning stage (R548, R549). -/
def execWdogFeed (key : Word) (s : State) : Out :=
  if key = 0x0C96FEED then .next s.wdogFeed
  else
    let s1 := s.satAdd Reg.WDOG_STATUS 8 8
    if s.bit Reg.WDOG_CTRL 0 then .next s1.wdogWarn else .next s1

/-- WDOG_WARNING: WDOG_COUNT has reached WARN, WARN not 0, while RUN is 1 (R549). -/
def execWdogWarning (s : State) : Out :=
  let w := s.rdF Reg.WDOG_WARN 0 24
  if s.bit Reg.WDOG_CTRL 0 && w != 0 && w == s.rdF Reg.WDOG_COUNT 0 24 then .next s.wdogWarn else .next s

/-- WDOG_RESET: WDOG_COUNT has reached LIMIT while RUN is 1: a warm reset with cause bit 3 (R550). -/
def execWdogReset (s : State) : Out :=
  if s.wdogDue then .next (s.warmReset .watchdog) else .next s

/-- The value of WDOG_WARN or WDOG_LIMIT that will be in force after the next feed (R551). -/
def State.wdogNext (s : State) (limit : Bool) : Nat :=
  if limit then fld (s.fault.heldLimit.getD (s.rd Reg.WDOG_LIMIT)) 0 24
  else fld (s.fault.heldWarn.getD (s.rd Reg.WDOG_WARN)) 0 24

/-- WDOG_LIMIT_WRITE: the value is held for the next feed, or refused and counted when it would make a non-zero WARN
reach LIMIT or LIMIT less than 30 (R551); nothing under LOCK (R552). -/
def execWdogLimitWrite (limit : Bool) (v : Word) (s : State) : Out :=
  let n := fld v 0 24
  let warn := if limit then s.wdogNext false else n
  let lim := if limit then n else s.wdogNext true
  if s.bit Reg.WDOG_CTRL 1 then .next s
  else if (warn != 0 && lim ≤ warn) || lim < 30 then .next (s.satAdd Reg.WDOG_STATUS 16 8)
  else if limit then .next { s with fault := { s.fault with heldLimit := some (word n) } }
  else .next { s with fault := { s.fault with heldWarn := some (word n) } }

/-- WDOG_LOCK: WDOG_CTRL.LOCK stays 1 until the next reset (R552). -/
def execWdogLock (s : State) : Out := .next (s.setB Reg.WDOG_CTRL 1 true)

/-- DEBUG_HALT: the debug module reports the core halted (R553). -/
def execDebugHalt (s : State) : Out := .next { s with fault := { s.fault with halted := true } }

/-- DEBUG_RESUME: the core resumes (R553). -/
def execDebugResume (s : State) : Out := .next { s with fault := { s.fault with halted := false } }

/-- The watchdog's tick: WDOG_COUNT advances while RUN is 1 and no debug halt pauses it (R553). -/
def State.wdogTick (s : State) : State :=
  if s.bit Reg.WDOG_CTRL 0 && !(s.bit Reg.WDOG_CTRL 2 && s.fault.halted) then
    s.wrF Reg.WDOG_COUNT 0 24 (s.rdF Reg.WDOG_COUNT 0 24 + 1)
  else s

/-- The grace timer's tick in Run, Doze and Nap (R535). -/
def State.graceTick (s : State) : State :=
  if s.bit Reg.FAULT_STATUS 0 && s.pwr.mode != .hibernate then
    s.wrF Reg.FAULT_STATUS 16 16 (s.rdF Reg.FAULT_STATUS 16 16 - 1)
  else s

/-! ### The wait for a resource (R544) -/

/-- The code of a recallable resource. -/
def recallCode : Recallable → Nat
  | .plane _ => 1 | .spineS _ => 2 | .spineF => 3 | .port _ => 4 | .custodian => 5

/-- A number for each recallable resource. -/
def recallKey : Recallable → Nat
  | .plane p => p | .spineS _ => 2 | .spineF => 3 | .custodian => 4 | .port m => 8 + masterId m

/-- The loading PROGRAM of a plane. -/
def State.loadingOp (s : State) (p : Nat) : Option LongOp :=
  (s.opAt p).filter (fun o => o.op == 2 && o.state == .loading)

/-- The masters of the transactions outstanding on a spine; a line read that waits at the store die is one (R423). -/
def State.outMasters (s : State) : Die → List Master
  | .front => s.spineF.outst.map (·.master)
  | .store => s.spineS.outst.map (·.master) ++ s.store.reads.map (·.1)

/-- The spine that carries a master's oldest outstanding transaction. -/
def State.outDie (s : State) (m : Master) : Option Die :=
  if (s.outMasters .front).contains m then some .front
  else if (s.outMasters .store).contains m then some .store
  else none

/-- A resource is idle. -/
def State.resIdle (s : State) : Recallable → Bool
  | .plane p => (s.loadingOp p).isNone
  | .spineS _ => (s.outMasters .store).isEmpty && !(s.spineState .store == 1) && !(s.spineState .store == 2)
  | .spineF => (s.outMasters .front).isEmpty && !(s.spineState .front == 1) && !(s.spineState .front == 2)
  | .port m => (s.outDie m).isNone
  | .custodian => !(List.range 4).any (fun k => (s.mb k).phase == .running)

/-- RECALL_TICKS. -/
def State.recallTicks (s : State) : Nat := s.rdF Reg.FAULT_CFG 16 16

/-- Something waits for a resource that is held: patrol for a plane (R435, R663), requests kept in masters' ports for a
spine or a master's port. That a request in execution has sent no heartbeat is what a recall of the custodian says. -/
def State.recallWaiter (s : State) : Recallable → Bool
  | .plane p =>
    (match s.store.patrol with | some r => !r.running && r.sector % 2 == p.val | none => false) ||
      s.store.refresh.any (fun l => s.physOf l % 2 == p.val)
  | .spineS _ => !s.spineS.waiting.isEmpty
  | .spineF => !s.spineF.waiting.isEmpty
  | .port m => (s.spineF.waiting ++ s.spineS.waiting).any (fun r => r.master == m)
  | .custodian => true

/-- What stands still while a resource's holder makes no progress: the words at the data port, the responses. -/
def State.recallMark (s : State) : Recallable → List Nat
  | .plane p => match s.loadingOp p with | some o => [o.sector, o.data.length] | none => []
  | .spineS _ => [(s.spineS.coreRx.elim 0 (·.toNat + 1)), (s.outMasters .store).length]
  | .spineF => [(s.spineF.coreRx.elim 0 (·.toNat + 1)), (s.outMasters .front).length]
  | .port _ => [(s.spineS.coreRx.elim 0 (·.toNat + 1)), (s.outMasters .store).length,
      (s.spineF.coreRx.elim 0 (·.toNat + 1)), (s.outMasters .front).length]
  | .custodian => []

/-- The resources whose waits are measured in ticks. -/
def timedResources : List Recallable :=
  [.plane 0, .plane 1, .spineS false, .spineF] ++
    [Master.core, .custodian, .link, .queue, .mover, .host, .debug].map Recallable.port

/-- A tick of the recall monitors: each wait in which the holder made no progress is a tick longer (R544, R546). -/
def State.recallTick (s : State) : State :=
  { s with fault := { s.fault with
      waits := timedResources.filterMap (fun r =>
        if !s.resIdle r && s.recallWaiter r then
          some (recallKey r, s.recallMark r,
            match mapGet s.fault.waits (recallKey r) with
            | some w => if w.1 = s.recallMark r then w.2 + 1 else 0
            | none => 0)
        else none),
      recalled := s.fault.recalled.map (fun p => (p.1, p.2 + 1)) } }

/-- A waiter has waited RECALL_TICKS in which the holder made no progress (R544, R556). -/
def State.recallDue (s : State) (r : Recallable) : Bool :=
  match r, mapGet s.fault.waits (recallKey r) with
  | .custodian, _ => true
  | _, some w => w.1 == s.recallMark r && s.recallWaiter r && s.recallTicks ≤ w.2
  | _, none => false

end Sys2Proof.Machine
end

