-- ==== Sys2Proof/Machine/Panel.lean ====
section
/-! DEFINITION. The panel port: page codec, scripts, flips and refreshes (17). -/

namespace Sys2Proof.Machine

/-! ### The profile and the page codec -/

/-- Fields of a panel profile (section 0x0E). -/
def profBpp (p : List Byte) : Nat := b1 p 4
/-- Pixels of a profile's panel. -/
def profPixels (p : List Byte) : Nat := b2 p 0 * b2 p 2
/-- The palette colour of an index. -/
def profColour (p : List Byte) (i : Nat) : Nat := b1 p (16 + i)

/-- Packed index `i`: within each byte the first pixel is in the lowest bits (R583). -/
def packedAt (bpp : Nat) (bytes : List Byte) (i : Nat) : Nat :=
  ((bytes.getD (i * bpp / 8) 0).toNat >>> (i * bpp % 8)) % 2 ^ bpp

/-- `c` packed indices. -/
def unpackPixels (bpp c : Nat) (bytes : List Byte) : List Nat := (List.range c).map (packedAt bpp bytes)

/-- The tokens of an RLE or DELTA body (R584), `out` the pixels before them and `base` the base page of a DELTA: the
pixels, none when a token is malformed or the counts do not add up to exactly `total`. -/
def runTokens (bpp total : Nat) (base : Option (List Nat)) : Nat → List Nat → List Byte → Option (List Nat)
  | _, out, [] => if out.length = total then some out else none
  | 0, _, _ => none
  | fuel + 1, out, t :: rest =>
    let n := t.toNat % 64
    match t.toNat / 64, rest with
    | 0, _ =>
      let c := n + 1
      let k := (c * bpp + 7) / 8
      if rest.length < k || total < out.length + c then none
      else runTokens bpp total base fuel (out ++ unpackPixels bpp c rest) (rest.drop k)
    | 1, b1 :: b2 :: more =>
      let c := n * 256 + b1.toNat + 1
      if 2 ^ bpp ≤ b2.toNat || total < out.length + c then none
      else runTokens bpp total base fuel (out ++ List.replicate c b2.toNat) more
    | 2, b1 :: more =>
      let c := n * 256 + b1.toNat + 1
      match base with
      | some px =>
        if total < out.length + c then none
        else runTokens bpp total base fuel (out ++ (px.drop out.length).take c) more
      | none => none
    | _, _ => none

/-- The pixels of a page body of a codec, without a base: RAW or RLE (R583, R584). -/
def plainPixels (bpp total codec : Nat) (body : List Byte) : Option (List Nat) :=
  match codec with
  | 1 => if body.length = (total * bpp + 7) / 8 then some (unpackPixels bpp total body) else none
  | 2 => runTokens bpp total none body.length [] body
  | _ => none

/-- Pixels as they are streamed (R581): row by row, the first pixel of a byte in its top bits, each row from a new
byte. -/
def streamRow (bpp : Nat) (colour : Nat → Nat) (row : List Nat) : List Byte :=
  let per := 8 / max 1 bpp
  (List.range ((row.length + per - 1) / per)).map (fun j =>
    byte (((List.range per).map (fun i =>
      match row[j * per + i]? with
      | some p => (colour p % 2 ^ bpp) * 2 ^ (8 - bpp * (i + 1))
      | none => 0)).sum))

/-- A whole page as it is streamed. -/
def streamPage (prof : List Byte) (px : List Nat) : List Byte :=
  (List.range (b2 prof 2)).flatMap (fun r =>
    streamRow (profBpp prof) (profColour prof) ((px.drop (r * b2 prof 0)).take (b2 prof 0)))

/-! ### Pages of the page store -/

/-- Why a page cannot be shown: DEC_ERR or STORE_ERR (the LAST codes 4 and 8), with the state that the failed read
leaves. -/
abbrev PageErr := Nat × State

/-- A range of the store die is read: the bytes, or STORE_ERR, with the effects of R412; Spine-S that is not UP ends the
read as well (R33, R597). -/
def State.panelRead (s : State) (off n : Nat) : Except PageErr (List Byte × State) :=
  if s.spineState .store != 3 then .error (8, s.dieNotReady .store)
  else match s.readRun off n with
  | .error t => .error (8, t)
  | .ok r => .ok r

/-- The header and the body of a VALID slot (R444). -/
def State.pageBytes (s : State) (k : Nat) : Except PageErr (List Byte × List Byte × State) :=
  match s.psOffset k with
  | none => .error (4, s)
  | some off =>
    if s.psState k != 2 then .error (4, s)
    else match s.panelRead off 64 with
      | .error e => .error e
      | .ok (h, t) =>
        match t.panelRead (off + 64) (min (b4 h 0x18) (16 * 2048)) with
        | .error e => .error e
        | .ok (b, u) => .ok (h, b, u)

/-- A page header matches the profile in WIDTH, HEIGHT and BPP (R586). -/
def pageMatches (prof h : List Byte) : Bool :=
  prof.length == 32 && b2 h 0x24 == b2 prof 0 && b2 h 0x26 == b2 prof 2 && b1 h 0x28 == profBpp prof

/-- The pixels of a RAW or RLE page (R582 to R584). -/
def State.plainPage (s : State) (prof : List Byte) (k : Nat) : Except PageErr (List Nat × State) :=
  match s.pageBytes k with
  | .error e => .error e
  | .ok (h, b, t) =>
    if pageMatches prof h then
      match plainPixels (profBpp prof) (profPixels prof) (b2 h 0x16) b with
      | some px => .ok (px, t)
      | none => .error (4, t)
    else .error (4, t)

/-- The base slot of a DELTA page: VALID, of that SEQ, RAW or RLE (R585). -/
def State.baseSlot (s : State) (seq : Nat) : Option Nat :=
  (List.range 16).find? (fun k =>
    s.psState k == 2 && (match s.psOffset k with
      | some off => b4 (s.storeBytes off 64) 0x1C == seq && (b2 (s.storeBytes off 64) 0x16 == 1 || b2 (s.storeBytes off 64) 0x16 == 2)
      | none => false))

/-- Validation (R586): the pixels of a slot, or why the refresh ends. -/
def State.validate (s : State) (prof : List Byte) (k : Nat) : Except PageErr (List Nat × State) :=
  match s.pageBytes k with
  | .error e => .error e
  | .ok (h, b, t) =>
    if b2 h 0x16 != 3 then s.plainPage prof k
    else if !pageMatches prof h then .error (4, t)
    else match s.baseSlot (b4 h 0x2C) with
      | none => .error (4, t)
      | some j =>
        match t.plainPage prof j with
        | .error e => .error e
        | .ok (base, u) =>
          match runTokens (profBpp prof) (profPixels prof) (some base) b.length [] b with
          | some px => .ok (px, u)
          | none => .error (4, u)

/-! ### Sequences -/

/-- PANEL_STATUS.STATE: 0 IDLE, 1 POWERING, 2 REFRESHING, 3 WAITING. -/
def State.panelState (s : State) : Nat := s.rdF Reg.PANEL_STATUS 0 2

/-- The port enters a state with a running sequence, or none. -/
def State.setPanel (s : State) (st : Nat) (run : Option PanelRun) : State :=
  ({ s with panel := { s.panel with run := run } }).wrF Reg.PANEL_STATUS 0 2 st

/-- The panel power pad's level (R589). -/
def State.panelPower (s : State) (on : Bool) : State := s.setB Reg.PANEL_STATUS 2 on

/-- A sequence ends with a LAST code: FAILED counts those not OK, and a task 86 held for the end takes effect (R589). -/
def State.endPanel (s : State) (code : Nat) : State :=
  let s1 := (s.setPanel 0 none).wrF Reg.PANEL_STATUS 4 4 code
  let s2 := if code = 0 then s1 else s1.satAdd Reg.PANEL_COUNT 16 8
  if s2.panel.offDue then ({ s2 with panel := { s2.panel with offDue := false } }).panelPower false else s2

/-- Bytes go to the panel, with their D/C bit. -/
def State.panelSend (s : State) (data : Bool) (l : List Byte) : State :=
  { s with panel := { s.panel with sent := s.panel.sent ++ l.map (fun b => (data, b)) } }

/-- Script entries run up to the next wait, the end or an error (R580). -/
def State.runScript (s : State) (r : PanelRun) : Nat → List Byte → State
  | 0, _ => s.endPanel 6
  | fuel + 1, l =>
    let wait (w : PanelWait) (rest : List Byte) : State := s.setPanel 2 (some { r with wait := w, script := rest })
    match l with
    | [] => s.endPanel 6
    | op :: rest =>
      match op.toNat, rest with
      | 0, _ => wait .ended []
      | 7, _ => wait .ended []
      | 1, c :: t => (s.panelSend false [c]).runScript r fuel t
      | 2, n :: t =>
        if n.toNat = 0 || t.length < n.toNat then s.endPanel 6
        else (s.panelSend true (t.take n.toNat)).runScript r fuel (t.drop n.toNat)
      | 3, t => wait .busy t
      | 4, d :: t => if d.toNat = 0 then s.endPanel 6 else wait .delay t
      | 5, t => (s.panelSend true (streamPage r.profile r.pixels)).runScript r fuel t
      | 6, t => (s.panelSend true (streamPage r.profile r.prev)).runScript r fuel t
      | _, _ => s.endPanel 6

/-- The script's 256 bytes, in main SRAM or the XIP window (R580), where protected sectors and spares read as zero (R405,
R407). -/
def State.scriptBytes (s : State) : Except PageErr (List Byte × State) :=
  let a := (s.rd Reg.PANEL_SCRIPT).toNat
  let l := (a - 0x10000000) / 2048
  if 0x20000000 ≤ a && a < 0x20060000 then .ok (s.bytesAt a 256, s)
  else if 0x10000000 ≤ a && a < 0x10000000 + s.sectorCount * 2048 then
    if l < 32 || s.inSpares l then .ok (List.replicate 256 0, s) else s.panelRead (a - 0x10000000) 256
  else .error (6, s)

/-- The script lies in the XIP window. -/
def State.scriptInStore (s : State) : Bool :=
  0x10000000 ≤ (s.rd Reg.PANEL_SCRIPT).toNat && (s.rd Reg.PANEL_SCRIPT).toNat < 0x20000000

/-- The script starts: event 209 (R587). -/
def State.startScript (s : State) (r : PanelRun) : State :=
  let s1 := s.event 209
  match s1.scriptBytes with
  | .ok (l, t) => (t.setPanel 2 (some r)).runScript r 257 l
  | .error (c, t) => t.endPanel c

/-- The pixels of the shown page, index 0 everywhere when none is shown or it can no longer be decoded. -/
def State.shownPixels (s : State) (prof : List Byte) : List Nat × State :=
  let blank := List.replicate (profPixels prof) 0
  if s.bit Reg.PANEL_SHOWN 4 then
    match s.validate prof (s.rdF Reg.PANEL_SHOWN 0 4) with
    | .ok r => r
    | .error (_, t) => (blank, t)
  else (blank, s)

/-- A sequence for a slot: validation, then panel power with its delay, or the script at once (R586, R587). -/
def State.startPage (s : State) (flip : Bool) (slot : Nat) : State :=
  let prof := s.sec 14
  match s.validate prof slot with
  | .error (c, t) => t.endPanel c
  | .ok (px, t) =>
    let q := t.shownPixels prof
    let r : PanelRun := { flip := flip, slot := slot, wait := .power, pixels := px, prev := q.1, profile := prof }
    let s1 := { q.2 with panel := { q.2.panel with sent := [] } }
    if s.bit Reg.PANEL_STATUS 2 then s1.startScript r
    else (s1.panelPower true).setPanel 1 (some r)

/-- A flip (R587, R593, R594): REFUSED without a staged page or for an EMPTY or DEAD slot, WAITING with event 213 and
DEFERRED for one in WRITING. -/
def State.startFlip (s : State) : State :=
  let k := s.rdF Reg.PANEL_STAGE 0 4
  if !s.bit Reg.PANEL_STAGE 4 then s.endPanel 3
  else match s.psState k with
  | 2 => if s.readStalls then s.holdCmd .panelFlip else s.startPage true k
  | 1 =>
    let r : PanelRun := { flip := true, slot := k, wait := .page }
    ((s.setPanel 3 (some r)).wrF Reg.PANEL_STATUS 4 4 1).event 213
  | _ => s.endPanel 3

/-- A sequence runs or waits, one whose page is still to be read among them. -/
def State.panelTaken (s : State) : Bool := s.panelState != 0 || s.held.any isPanelCmd

/-- The pending flip of R595 runs when the port is IDLE. -/
def State.pendingFlip (s : State) : State :=
  if s.bit Reg.PANEL_STATUS 3 && !s.panelTaken && !s.readStalls then (s.setB Reg.PANEL_STATUS 3 false).startFlip else s

/-- The panel port is fitted and enabled in section 0x01. -/
def State.panelOn (s : State) : Bool := s.present 27 && s.enabled 6

/-- PANEL_FLIP: task 84 (R587, R593 to R595). -/
def execPanelFlip (s : State) : Out :=
  if !s.panelOn then .next s
  else if s.panelTaken then
    if s.bit Reg.PANEL_STATUS 3 then .next (s.satAdd Reg.PANEL_COUNT 24 8) else .next (s.setB Reg.PANEL_STATUS 3 true)
  else .next (s.startFlip.pendingFlip)

/-- PANEL_REFRESH: the sequence for the shown page (R588); without one it ends DEC_ERR, and while the port is not IDLE
it is ignored (notes/assumptions/44.md). Without a panel port it is a write to an absent unit (R7, R8). -/
def execPanelRefresh (s : State) : Out :=
  if !s.present 27 then .next ((s.absentSlip 68 Reg.PANEL_CTRL).answer 0)
  else if !s.panelOn || s.panelTaken then .next s
  else if s.bit Reg.PANEL_SHOWN 4 then
    if s.readStalls then .next (s.holdCmd .panelRefresh)
    else .next (s.startPage false (s.rdF Reg.PANEL_SHOWN 0 4)).pendingFlip
  else .next (s.endPanel 4)

/-- PANEL_POWER_ON: task 85 (R589); without a profile in force panel power stays off (R44). -/
def execPanelPowerOn (s : State) : Out :=
  if s.panelOn && !(s.sec 14).isEmpty then .next (s.panelPower true) else .next s

/-- PANEL_POWER_OFF: task 86; during a refresh it takes effect at its end (R589). -/
def execPanelPowerOff (s : State) : Out :=
  if !s.panelOn then .next s
  else if s.panelState == 1 || s.panelState == 2 then .next { s with panel := { s.panel with offDue := true } }
  else .next (s.panelPower false)

/-- The running sequence, when it waits for `w`. -/
def State.panelWaits (s : State) (w : PanelWait) : Option PanelRun :=
  match s.panel.run with
  | some r => if r.wait = w then some r else none
  | none => none

/-- The script continues after a wait. -/
def State.continueScript (s : State) (r : PanelRun) : State := (s.runScript r (r.script.length + 1) r.script).pendingFlip

/-- PANEL_POWER_DELAY_END: PWR_DELAY has passed (R587). -/
def execPanelPowerDelayEnd (s : State) : Out :=
  match s.panelWaits .power with
  | some r =>
    if s.scriptInStore && s.readStalls then .next (s.holdCmd .panelPowerDelay) else .next (s.startScript r).pendingFlip
  | none => .next s

/-- PANEL_DELAY_END: a DELAY entry is over (R580). -/
def execPanelDelayEnd (s : State) : Out :=
  match s.panelWaits .delay with
  | some r => .next (s.continueScript r)
  | none => .next s

/-- The BUSY polarity: of the profile that the running sequence took at its start (R53), else of the profile in force. -/
def State.busyActive (s : State) : Bool :=
  match s.panel.run with
  | some r => if r.profile.isEmpty then s.bit Reg.PANEL_PROF1 24 else (b4 r.profile 4).testBit 24
  | none => s.bit Reg.PANEL_PROF1 24

/-- BUSY of the panel: the pad at the polarity of the profile, inactive without a pad (R636). -/
def State.panelBusy (s : State) (free : Nat) : Bool :=
  match s.funcPin 0x34 with
  | some p => s.padLevel free p == s.busyActive
  | none => false

/-- The panel drives its BUSY pad to the inactive level. -/
def State.busyInactive (s : State) : State :=
  match s.funcPin 0x34 with
  | some p => { s with ser := { s.ser with pads := mapIns (mapErase s.ser.pads p) p (!s.busyActive) } }
  | none => s

/-- PANEL_BUSY_INACTIVE: a BUSY entry is over (R580). -/
def execPanelBusyInactive (s : State) : Out :=
  match s.panelWaits .busy with
  | some r => .next (s.busyInactive.continueScript r)
  | none => .next s.busyInactive

/-- PANEL_BUSY_TIMEOUT: BUSY_TIMEOUT has passed: BUSY_TO and event 211 (R580). -/
def execPanelBusyTimeout (s : State) : Out :=
  match s.panelWaits .busy with
  | some _ => .next ((s.event 211).endPanel 5).pendingFlip
  | none => .next s

/-- PANEL_SCRIPT_END: END or RELEASE: a flip makes its slot the shown one and clears STAGE.VALID; events 210, and 208
for a flip (R587, R588). -/
def execPanelScriptEnd (s : State) : Out :=
  match s.panelWaits .ended with
  | none => .next s
  | some r =>
    if r.flip then
      let s1 := ((s.wr Reg.PANEL_SHOWN (word (r.slot + 16))).setB Reg.PANEL_STAGE 4 false).satAdd Reg.PANEL_COUNT 0 16
      .next (((s1.endPanel 0).event 210).event 208).pendingFlip
    else .next ((s.endPanel 0).event 210).pendingFlip

/-- PANEL_DEFERRED_FLIP: the slot a flip waits for has become VALID (R593). -/
def execPanelDeferredFlip (s : State) : Out :=
  match s.panelWaits .page with
  | some r =>
    if s.psState r.slot != 2 then .next s
    else if s.readStalls then .next (s.holdCmd .panelDeferred)
    else .next (s.startPage true r.slot).pendingFlip
  | none => .next s

/-- PANEL_HOLD_EXPIRY: PANEL_HOLD.MS has passed: ABANDONED (R593). -/
def execPanelHoldExpiry (s : State) : Out :=
  match s.panelWaits .page with
  | some _ => .next (s.endPanel 2).pendingFlip
  | none => .next s

/-- Nap entry cuts a sequence, or one whose page is still to be read: CUT (R596). -/
def State.panelCut (s : State) : State :=
  let s1 := { s with held := s.held.filter (fun c => !isPanelCmd c) }
  if s.panel.run.isSome || s.held.any isPanelCmd then s1.endPanel 7 else s1

end Sys2Proof.Machine
end

