-- ==== Sys2Proof/Machine/Power.lean ====
section
/-! DEFINITION. Power control: brown-out warning, sleep entry and its blockers, wakes from Nap and Hibernate (04). -/

namespace Sys2Proof.Machine

/-! ### Brown-out warning -/

/-- BROWN_OUT_WARNING: the supply falls below the warning level (R112): BOW and BOW_SEEN, event 1 (in sleep due at t2 of
the wake), and the store die is inhibited (R110, R424). -/
def execBrownOutWarning (s : State) : Out :=
  if s.bit Reg.PWR_STATUS 0 || s.isHeld then .next s
  else
    let s1 := ((s.setB Reg.PWR_STATUS 0 true).setB Reg.PWR_STATUS 1 true).storeInhibit
    if s.asleep || s.boot.phase == .held || s.boot.phase == .start then
      .next { s1 with pwr := { s1.pwr with bowEvent := true } }
    else .next (s1.event 1)

/-- BROWN_OUT_RELEASE: the supply has risen above the release level (R110). -/
def execBrownOutRelease (s : State) : Out := .next (s.setB Reg.PWR_STATUS 0 false)

/-! ### Blockers -/

/-- A mover channel is ACTIVE. -/
def State.moverActive (s : State) : Bool := (List.range 16).any (fun k => s.rdF (Reg.MOVER_CH_STATUS k) 0 3 == 1)

/-- The mailbox holds a request that has not completed. -/
def State.mailboxHeld (s : State) : Bool :=
  (List.range 4).any (fun k =>
    let m := (s.mb k).phase
    m == .waiting || m == .running || m == .refusing)

/-- The link controller is inside an air operation; a rendezvous of the release unit, with its exchange or without, and a
started blackout grant count as one (15, "Air time and budget"; 10, "What if the part enters Nap with a recalibration
pending?"). -/
def State.insideAirOp (s : State) : Bool :=
  s.link.run.isSome || !s.rel.exch.isEmpty || !s.rel.window.isEmpty || s.bit Reg.CAL_STATUS 1

/-- A spine transaction is outstanding, or held in a master's port. -/
def State.spineActive (s : State) : Bool :=
  s.spineOut .front != 0 || s.spineOut .store != 0 || !s.spineF.waiting.isEmpty || !s.spineS.waiting.isEmpty

/-- A fabric pulse is in delivery on a channel or a task input. -/
def State.fabBusy (s : State) : Bool :=
  !s.fab.delivery.isEmpty || !s.fab.taskNow.isEmpty || !(s.firedChannels s.fab.pulses).isEmpty

/-- What PWR_BLOCK reads (R118); a write of the errata mirror is a store-die command (R88). -/
def State.pwrBlock (s : State) : Word :=
  word (b2n s.catBusy + b2n s.moverActive * 2 + b2n (s.storeActive || s.bit Reg.RSTC_CIRC 19) * 4 + b2n s.mailboxHeld * 8 +
    b2n s.insideAirOp * 16 + b2n s.spineActive * 32 + b2n s.meip * 64 + b2n s.fabBusy * 128)

/-- A blocker other than IRQ is set. -/
def State.blocked (s : State) : Bool := s.pwrBlock &&& 0xBF != 0

/-! ### WFI -/

/-- The core goes into Doze; `entry` is the sleep entry that then waits. -/
def State.doze (s : State) (entry : Option Bool) : State :=
  { s with pwr := { s.pwr with mode := .doze, entry := entry, resumeAt := none } }

/-- An entry that is not made is counted in PWR_COUNT.ABORTED. -/
def State.countAbort (s : State) : State := s.satAdd Reg.PWR_COUNT 16 8

/-- A WFI with PWR_CTRL.MODE set to a mode. The rows name the mode and the table has none for the write of PWR_CTRL that
precedes WFI, so the row stands for that write too (DESIGN CHOICE, notes/assumptions/16.md). A pending enabled interrupt
keeps the core in Run (R673); under SLOW_FAIL Nap and Hibernate are taken as Doze and counted (R138). -/
def State.wfi (s : State) (mode : Nat) (entry : Option Bool) : State :=
  let s1 := s.wrF Reg.PWR_CTRL 0 2 mode
  if s.pwr.mode != .run || s.boot.phase != .app || s.meip then s1
  else if entry.isSome && s.bit Reg.CLK_STATUS 3 then s1.countAbort.doze none
  else s1.doze entry

/-- WFI_DOZE: WFI with MODE Doze (R118). -/
def execWfiDoze (s : State) : Out := .next (s.wfi 0 none)

/-- WFI_NAP: WFI with MODE Nap (R118). -/
def execWfiNap (s : State) : Out := .next (s.wfi 1 (some false))

/-- WFI_HIBERNATE: WFI with MODE Hibernate (R118). -/
def execWfiHibernate (s : State) : Out := .next (s.wfi 2 (some true))

/-! ### The wake instant (R116) -/

/-- WAKE_LEAD in fraction steps. -/
def State.wakeLead (s : State) : Nat := s.rdF Reg.PWR_WAKE_LEAD 0 8 * 1024

/-- The opening instant of an operation: of its receive window, or of its transmission. -/
def State.opensAt (s : State) (o : RunOp) : Nat :=
  if s.isRx o.ref then instant (o.openAt + 2 ^ 58 - s.rxGuard o) else o.openAt

/-- The opening instant at the next rendezvous of a release channel that looks for one, an air operation for R116 (15): a
desk sends at the rendezvous instant, a card's window opens g before it (R511). -/
def State.nextRendezvous (s : State) (ch : Nat) : List Nat :=
  if s.relActive ch then
    let p := s.relTicks ch
    let phase := s.rdF (Reg.REL_CH_CFG ch) 16 15 % p
    let t := (s.ticks + 1 + (phase + p - (s.ticks + 1) % p) % p) * 1024
    [instant (if s.relDesk then t else t + 2 ^ 58 - s.guardAt t)]
  else []

/-- The instants that count as the openings of air operations: the sequence's and the table's, rendezvous, and session
ends (R524). -/
def State.airOpens (s : State) : List Nat :=
  (s.comingOps).map s.opensAt ++ (List.range 2).flatMap s.nextRendezvous ++ s.rel.sessions.map (·.2)

/-- An instant less the lead. -/
def State.lessLead (s : State) (i : Nat) : Nat := instant (i + 2 ^ 58 - s.wakeLead)

/-- The scheduled wake sources: in Hibernate only the alarm (R116, R117). -/
def State.wakeTimes (s : State) (hib : Bool) : List Nat :=
  (if s.alarmOn then [s.alarmAt] else []) ++
    (if hib then [] else (s.airOpens ++ s.armed.map (fun i => (s.entry i).at_)).map s.lessLead)

/-- The earliest scheduled wake instant. -/
def State.wakeInstant (s : State) (hib : Bool) : Option Nat := s.earliest (s.wakeTimes hib)

/-- PWR_WAKE_AT takes a wake instant, all ones without one. -/
def State.setWakeAt (s : State) (i : Option Nat) : State :=
  match i with
  | some n => (s.wr Reg.PWR_WAKE_AT_LO (word (n / 1024))).wr Reg.PWR_WAKE_AT_HI (word (n / 1024 / 2 ^ 32 % 2 ^ 16))
  | none => (s.wr Reg.PWR_WAKE_AT_LO 0xFFFFFFFF).wr Reg.PWR_WAKE_AT_HI 0xFFFF

/-- The wake instant of PWR_WAKE_AT, none when it reads all ones. -/
def State.wakeAt (s : State) : Option Nat :=
  let n := (s.rd Reg.PWR_WAKE_AT_LO).toNat + s.rdF Reg.PWR_WAKE_AT_HI 0 16 * 2 ^ 32
  if n = 2 ^ 48 - 1 then none else some (n * 1024)

/-! ### Entering sleep -/

/-- The queue banks that hold a non-empty queue, and the buffer-pool banks that hold a cell not on the free list, as
PWR_FORCED records them while the queue engine is enabled (R114). -/
def State.forcedBanks (s : State) : Nat :=
  if s.qeOn then
    ((List.range 8).map (fun b =>
      b2n (s.qe.desc.any (fun p => p.1 / 8192 == b && p.2.depth != 0)) * 2 ^ b +
        b2n (s.qe.cells.any (fun p => p.1 / 512 == b && decide (p.2.own ≠ .free))) * 2 ^ (8 + b))).sum
  else 0

/-- Banks that Nap does not retain lose their contents: main SRAM is undefined until written (R115), queue and pool banks
wait for the queue engine to restore them (R387). -/
def State.loseBanks (s : State) : State :=
  let keep := s.rd Reg.PWR_RETAIN
  let forced := s.rd Reg.PWR_FORCED
  let s1 := forRange 6 s (fun t b =>
    if b = 0 || bitOf keep b || !t.present (16 + b) then t else t.loseArea b)
  forRange 8 s1 (fun t b =>
    let t1 := if b = 0 || bitOf keep (8 + b) || bitOf forced b || !t.present b then t
      else { t with pwr := { t.pwr with dark := t.pwr.dark ++ [b] } }
    if bitOf keep (16 + b) || bitOf forced (8 + b) || !t1.present (8 + b) then t1
    else
      let t2 := t1.loseArea (24 + b)
      { t2 with pwr := { t2.pwr with dark := t2.pwr.dark ++ [8 + b] } })

/-- The part sleeps: a running panel refresh is cut (R596), the core PLL, the spines, the front and store dies stop. -/
def State.stopDies (s : State) : State :=
  let s1 := (s.panelCut).wrF Reg.CLK_STATUS 0 2 0
  (((s1.endSpine .front).endSpine .store).frontOff).spineDown .store

/-- Nap or Hibernate begins (04, steps 4 and 5): counted, with the wake instant and the forced banks recorded and the pads latched (R121). Hibernate
clears every severe-pending bit, stops the grace timer (R537) and leaves every memory without power. -/
def State.enterSleep (s : State) (hib : Bool) (wake : Option Nat) : State :=
  let f := s.takeFree
  let s1 := (((f.2.latchBackup f.2.levelsNow).setWakeAt wake).wr Reg.PWR_FORCED (word s.forcedBanks)).stopDies
  let s2 := if hib then
      ((forRange 4 s1 (fun t j => t.wr (Reg.FAULT_SEVPEND j) 0)).wrF Reg.FAULT_STATUS 0 1 0).loseAll
    else (s1.loseBanks).satAdd Reg.PWR_COUNT 0 16
  { s2 with
    pwr := { s2.pwr with
      mode := if hib then .hibernate else .nap, entry := none, waking := false, causes := [], padNum := 0,
      padLatch := s.captureHold f.1 },
    fab := { s2.fab with bkSlept := [], pulses := [], ovr := [], bkRise := [] },
    store := { s2.store with patrolGate := none },
    cyc := {} }

/-- SLEEP_BLOCKERS_CLEAR: an entry that waits finds no blocker set (R118): it sleeps (R120), or stays in Doze until a wake
instant less than 4 ticks ahead, counted, which PWR_WAKE_AT then shows (R119; that it does so for an entry that is not made
is a DESIGN CHOICE, notes/assumptions/16.md). An enabled interrupt that has become pending ends the entry (R673). -/
def execSleepBlockersClear (s : State) : Out :=
  match s.pwr.entry with
  | none => .next s
  | some hib =>
    if s.pwr.mode != .doze || s.blocked then .next s.endDoze
    else if s.meip then .next s.endDoze
    else match s.wakeInstant hib with
      | some i =>
        if since i s.chron.now < 4 * 1024 then
          let s1 := (s.setWakeAt (some i)).countAbort
          .next { s1 with pwr := { s1.pwr with entry := none, resumeAt := some i } }
        else .next (s.enterSleep hib (some i))
      | none => .next (s.enterSleep hib none)

/-- NAP_ENTRY_ABORT: an enabled interrupt or a wake source ends an entry: Run, counted (R673). -/
def execNapEntryAbort (s : State) : Out :=
  if s.pwr.entry.isSome then
    .next ({ s with pwr := { s.pwr with mode := .run, entry := none } }.countAbort)
  else .next s

/-! ### Waking -/

/-- The causes that a scheduled wake instant stands for: the alarm, an action, else an air operation (R122), each at the
tick that PWR_WAKE_AT holds for it; a wake that some source has already begun has its cause. -/
def State.wakeByTime (s : State) : State :=
  let s1 := if s.alarmOn && s.reached s.alarmAt then s.fireAlarm else s
  if s.pwr.mode == .hibernate then s1
  else
    let due (i : Nat) : Bool := s.reached (s.lessLead i / 1024 * 1024)
    let act := s.armed.any (fun i => due (s.entry i).at_)
    let air := s.airOpens.any due || (!act && s.pwr.causes.isEmpty && !(s.alarmOn && s.reached s.alarmAt))
    let s2 := if air then s1.wake 1 else s1
    if act then s2.wake 2 else s2

/-- WAKE_INSTANT_REACHED: the wake instant of R116 has come in sleep, or the one of R119 in Doze. -/
def execWakeInstantReached (s : State) : Out :=
  if s.asleep then
    match s.wakeAt with
    | some i => if s.reached i then .next s.wakeByTime else .next s
    | none => .next s
  else match s.pwr.resumeAt with
    | some i =>
      if s.pwr.mode == .doze && s.reached i then .next { s with pwr := { s.pwr with mode := .run, resumeAt := none } } else .next s
    | none => .next s

/-- The causes of a wake join PWR_WAKE_CAUSE; PADNUM is the lowest pad of this wake (R122). -/
def State.noteCauses (s : State) : State :=
  let s1 := s.pwr.causes.foldl (fun t c => t.setB Reg.PWR_WAKE_CAUSE c true) s
  if s.pwr.causes.contains 3 then s1.wrF Reg.PWR_WAKE_CAUSE 16 7 s.pwr.padNum else s1

/-- Air operations whose opening instant has passed before t2 are late: counted, a note slip each, and missed (R124). -/
def State.lateOps (s : State) : State :=
  let ops := match s.wakeAt with
    | none => []
    | some w =>
      if !s.reached w then []
      else
        let ahead := s.guardAt s.chron.now / 1024 / s.slotTicks + 2
        (s.opsFrom (w / 1024) ((s.ticks + 2 ^ 48 - w / 1024) % 2 ^ 48 / s.slotTicks + ahead + 1)).filter
          (fun o => s.reached (s.opensAt o) && decide (0 ≤ since (s.opensAt o) w))
  ops.foldl (fun t o =>
    let idx := match o.ref with | .table k => k | _ => 0xFFFF
    (((t.satAdd Reg.PWR_COUNT 24 8).slip 2 0x06 0 idx).serveOp o).missOp o) s

/-- The channels with EN that select a cell whose FAB_BK_PEND bit was set in this Nap fire once (R207). -/
def State.fireSlept (s : State) : State :=
  let cs := (List.range 128).filter (fun c =>
    s.bit (Reg.FAB_CH_CFG c) 16 && s.fab.bkSlept.any (fun i => s.rdF (Reg.FAB_CH_CFG c) 0 16 == 256 + i))
  let s1 := cs.foldl State.fireChannel s
  { s1 with fab := { s1.fab with bkSlept := [] } }

/-- ARMED entries whose instants passed while the part woke wait for the catch-up (R183). -/
def State.wakeCatchUp (s : State) : State :=
  { s with act := { s.act with catchUp :=
      s.act.catchUp ++ s.armed.filter (fun i => s.reached (s.entry i).at_ && !s.act.catchUp.contains i) } }

/-- The crystal was silent over the wake: SLOW_FAIL, and the chronicle's discipline starts anew (R676). -/
def State.wakeClockless (s : State) : State :=
  if s.chron.clockless then
    let s1 := (s.setB Reg.CLK_STATUS 3 true).setB Reg.CHRON_STATUS 0 false
    { s1 with chron := { s1.chron with clockless := false } }
  else s

/-- NAP_WAKE_RESUME: t2 of a wake from Nap: the core runs, on the PLL or in bypass (R123); causes and event 255 (R122);
event 1 of a warning that began in Nap; Spine-S is up and the store die has loaded its maps (R431); late air operations,
actions and backup cells follow. -/
def execNapWakeResume (pllLocked : Bool) (s : State) : Out :=
  if s.pwr.mode != .nap || !s.pwr.waking then .next s
  else
    let s1 := s.noteCauses
    let s2 := ({ s1 with pwr := { s1.pwr with mode := .run, waking := false, causes := [], padNum := 0, padLatch := [], bowEvent := false } }).wakeClockless
    let s2' := (s2.setB Reg.CLK_STATUS 1 pllLocked).selectSysclk
    let s3 := (if s2'.spineState .store == 4 then s2' else s2'.spineUp .store).loadMaps.storeSync
    let s4 := (s3.event 255).eventIf s.pwr.bowEvent 1
    .next ((s4.lateOps).wakeCatchUp.fireSlept.pendingFlip)

/-- HIBERNATE_WAKE: a wake source has come in Hibernate: a start follows with the pads held; RSTC_CAUSE reads 0,
FROM_HIB and GPIO_HOLD read 1 (R125). Everything outside the backup domain is lost. When the sleep crystal was silent,
SLOW_FAIL reads 1 and SYNCED 0 (05, Caution under R138). -/
def execHibernateWake (s : State) : Out :=
  if s.pwr.mode != .hibernate || s.pwr.causes.isEmpty then .next s
  else
    let f := s.takeFree
    let held := f.2.captureHold f.1
    let s1 := f.2.noteCauses
    let s2 := ((s1.coreReset false).keepBow (s.bit Reg.PWR_STATUS 0)).wr Reg.RSTC_CAUSE 0
    let s2' := if s.chron.clockless then (s2.setB Reg.CLK_STATUS 3 true).setB Reg.CHRON_STATUS 0 false else s2
    let s3 := (s2'.setB Reg.PWR_STATUS 2 true).setB Reg.GPIO_HOLD 0 true
    .next { s3 with
      boot := { s3.boot with padHold := held, phase := .start }, spineF := { s3.spineF with resetReq := false } }

end Sys2Proof.Machine
end

