-- ==== Sys2Proof/Machine/Boot.lean ====
section
/-! DEFINITION. Reset sources and the boot steps 0 to 13 (03). -/

namespace Sys2Proof.Machine

/-! ### The errata log and the circulation count -/

/-- The errata count of a step. -/
def State.errCount (s : State) (n : Nat) : Nat := s.rdF Reg.RSTC_ERRATA (2 * n) 2

/-- Set the errata count of a step. -/
def State.setErrCount (s : State) (n c : Nat) : State := s.wrF Reg.RSTC_ERRATA (2 * n) 2 c

/-- The errata mirror is written to front-matter sector 4 with RSTC_ERRATA, ANNEX and their CRC-32 (R86); during a warning no flash is written, and the rewrite
of R88 is due instead (notes/assumptions/20.md). -/
def State.writeMirror (s : State) : State :=
  if s.bit Reg.PWR_STATUS 0 then s.setB Reg.RSTC_CIRC 19 true
  else s.putRecord 4 (leBytes 4 (s.rd Reg.RSTC_ERRATA).toNat ++ [byte (b2n (s.bit Reg.RSTC_CIRC 16)), 0, 0, 0])

/-- RSTC_ERRATA and ANNEX of a valid errata mirror (R86). -/
def State.mirror (s : State) : Option (Word × Bool) :=
  (s.frontRecord 4).map (fun l => (word (field l 0 4), (field l 4 1).testBit 0))

/-- A step failure is counted, saturating at 3, and recorded; the mirror is written when the count reaches 2 (R81, R86).
Reasons: 0 HANG, 1 TIMEOUT, 2 CHECK. -/
def State.countFail (s : State) (n reason code : Nat) : State :=
  let c := s.errCount n
  let s1 := (s.setErrCount n (min (c + 1) 3)).wr Reg.RSTC_LASTFAIL (word (n + reason * 2 ^ 4 + code * 2 ^ 8 + 2 ^ 31))
  if c = 1 then s1.writeMirror else s1

/-- HALF_OK that steps 2 and 3 use (R75). -/
def State.halfOk (s : State) : Bool := !s.bit Reg.RSTC_BOOTCFG 31 || s.bit Reg.RSTC_BOOTCFG 2

/-- A step has an alternative path (table "Start-up steps", R76). -/
def State.hasAlt (s : State) (n : Nat) : Bool :=
  match n with
  | 0 | 4 | 5 | 13 => false
  | 2 | 3 => s.halfOk
  | 10 => s.boot.bypassOk
  | _ => true

/-- A step takes its alternative path (R84). -/
def State.takesAlt (s : State) (n : Nat) : Bool := decide (2 ≤ s.errCount n) && s.hasAlt n

/-- ANNEX is set when COUNT has reached LIMIT or a step without an alternative path has failed three times (R92); the
mirror follows a change (R86). -/
def State.checkAnnex (s : State) : State :=
  if !s.bit Reg.RSTC_CIRC 16 && (s.rdF Reg.RSTC_CIRC 8 4 ≤ s.rdF Reg.RSTC_CIRC 0 4 ||
      (List.range 14).any (fun n => s.errCount n == 3 && !s.hasAlt n)) then
    (s.setB Reg.RSTC_CIRC 16 true).writeMirror
  else s

/-- After a power-on the errata log and ANNEX are restored from a valid mirror (R87). -/
def State.restoreMirror (s : State) : State :=
  let s1 := { s with boot := { s.boot with coldMirror := false } }
  match s.boot.coldMirror, s.mirror with
  | true, some (e, annex) => (s1.wr Reg.RSTC_ERRATA e).setB Reg.RSTC_CIRC 16 annex
  | _, _ => s1

/-! ### Tamper during a start (R105) -/

/-- The inputs that the environment trips during a step, in order. -/
def envTrips (env : BootEnv) (n : Nat) : List Nat :=
  (env.tamper.filter (fun p => p.1.val == n && p.2.val != 7)).map (·.2.val)

/-- A tamper input trips during a step: step and class are recorded without a count, and the class reaction follows; what
a sealed part sees no more is not recorded. -/
def State.bootTrip (n : Nat) (s : State) (i : Nat) : State :=
  if s.isHeld then s
  else (s.wr Reg.RSTC_LASTFAIL (word (n + 3 * 2 ^ 4 + s.tampClass i * 2 ^ 6 + 2 ^ 31))).tamperTrip i

/-- The tamper inputs that trip during a step. -/
def State.bootTamper (s : State) (env : BootEnv) (n : Nat) : State := (envTrips env n).foldl (State.bootTrip n) s

/-! ### What the steps do -/

/-- The pulse in progress has ended by step 3: what ran in the store die was cut (R32, R64). -/
def State.endPulses (s : State) : State := s.store.ops.foldl (fun t o => t.cutOp { o with slot := none }) s

/-- The catalogue slot of steps 6 and 7: the record's, or the other on the alternative path of either (R84). -/
def State.bootSlot (s : State) : Bool := s.record.cat != (s.takesAlt 6 || s.takesAlt 7)

/-- Step 7: the slot's image and the code of its checks (R48, checks 2 to 15); `refused` says that the custodian refuses
the signature request (check 8). -/
def State.bootVerify (s : State) (refused : Bool) : Except Nat State :=
  match s.readStored (catSlotOff s.bootSlot) 65536 with
  | .error _ => .error 0xF
  | .ok (img, t) =>
    if s.headerCode img ≠ 0 then .error (s.headerCode img)
    else if refused then .error 0x10
    else if (s.contentCode none img).1 ≠ 0 then .error (s.contentCode none img).1
    else .ok ({ t with cat := { t.cat with image := img, slot := s.bootSlot } }.wrF Reg.CATL_STATUS 8 5 0)

/-- What CATL_INFO, CATL_BUILD and CATL_MIN_BUILD read after step 8. -/
def State.bootInfo (s : State) (img : List Byte) (slot dflt : Bool) : State :=
  let r := s.record
  let v := b2n r.cat + b2n slot * 2 + b2n dflt * 4 + b2n (imgKey img) * 8 + b2n s.boot.retired * 16 + b2n r.app * 32
  ((s.wr Reg.CATL_INFO (word v)).wr Reg.CATL_BUILD (word (imgBuild img))).wr Reg.CATL_MIN_BUILD (word s.boot.minBuild)

/-- Step 8: the catalogue is applied, on the alternative path without its live parts (R50, R51); the clock plan's
BYPASS_OK and HALF_OK are kept, a HALF_OK of 0 clears HALF_F and HALF_S (R75, R77), and queue memory and the link words
are cleared (R64). -/
def State.bootApply (s : State) (alt : Bool) : State :=
  let img := s.cat.image
  let slot := s.cat.slot
  let m := (imgSections img).elim [] sectionMap
  let s1 := { s with
    cat := { s.cat with image := [], slot := false }, qe := { s.qe with desc := [], cells := [], lost := false } }
  let s2 := (s1.applyBoot (if alt then bootParts m else m)).newRound.bootInfo img slot alt
  let flags := field (s2.sec 3) 0 1
  let s3 := { s2 with boot := { s2.boot with bypassOk := flags.testBit 0 } }
  if flags.testBit 2 then s3 else s3.wrF Reg.SPINE_CTRL 4 2 0

/-- A factory calibration record is valid: MAGIC, VERSION, LEN and CRC (R285, R286). -/
def calRecordOk (l : List Byte) : Bool :=
  l.take 4 == [0x43, 0x43, 0x41, 0x4C] && b2 l 4 == 0x0100 && b2 l 6 == 256 && crc32 (l.take 252) == b4 l 252

/-- The first valid copy of the factory record (R286). -/
def State.calRecord (s : State) : Option (List Byte) :=
  (([64, 65].map (fun k => (s.spareBase + k) * 2048)).filter (fun o => (s.storeBad o 256).isNone)).map (fun o => s.storeBytes o 256)
    |>.find? calRecordOk

/-- The copies of the factory record that step 9 reads count as reads: the second only when the first is not valid
(R286, R412). -/
def State.noteCal (s : State) : State :=
  let c (k : Nat) := (s.spareBase + k) * 2048
  let s1 := s.noteRead (c 64) 256
  if (s.storeBad (c 64) 256).isNone && calRecordOk (s.storeBytes (c 64) 256) then s1 else s1.noteRead (c 65) 256

/-- Step 9: the factory record, or the built-in defaults with FACTORY_DEF (R286, R287). -/
def State.bootFactory (s : State) (alt : Bool) : State :=
  let t := if alt then s else s.noteCal
  match (if alt then none else s.calRecord) with
  | some r => { t with cal := { t.cal with record := r } }
  | none => { t with cal := { t.cal with record := [] } }.setB Reg.CAL_STATUS 6 true

/-- The corrections of a lane in the factory record (R285, R287). -/
def factoryLane (r : List Byte) (i : Nat) : Word :=
  if r.isEmpty then 0x4000
  else word (field r (0x20 + 8 * i) 2 + field r (0x22 + 8 * i) 1 * 2 ^ 16 + field r (0x24 + 8 * i) 1 * 2 ^ 24)

/-- A folio at boot: what it measures is free (notes/assumptions/20.md); event 115 (R300, R306). -/
def State.bootFolio (s : State) (f : Nat) : State :=
  let a := s.takeFree
  let b := a.2.takeFree
  (b.2.folioResult f true ((List.range 4).map (fun i => word (a.1 / 2 ^ (32 * i)))) (b.1 % 256)).event 115

/-- Step 11: every folio back to back after a temperature measurement, or the factory values with BOOT_STORED
(R301, R306, R307). -/
def State.bootRadio (s : State) (temp : Int) (alt : Bool) : State :=
  if alt then
    (forRange 4 s (fun t i => t.wr (Reg.CAL_LANE i) (factoryLane t.cal.record i))).setB Reg.CAL_STATUS 7 true
  else
    let s1 := (s.wrF Reg.CAL_TEMP 0 10 (unsigned 10 (s.sensorTemp temp))).noteLast
    (forRange s.folioCount s1 State.bootFolio).calDone

/-- The application slot of step 12. -/
def State.bootAppSlot (s : State) : Bool := s.record.app != s.takesAlt 12

/-- Step 12: the application image of the slot is verified (R80); `refused` as for step 7. -/
def State.bootApp (s : State) (refused : Bool) : Except Nat State :=
  match s.readStored (appSlotOff s.bootAppSlot) 1048576 with
  | .error _ => .error 0xF
  | .ok (img, t) =>
    if s.appHeaderCode img ≠ 0 then .error (s.appHeaderCode img)
    else if refused then .error 0x10
    else if appContentCode img ≠ 0 then .error (appContentCode img)
    else .ok ((t.setB Reg.CATL_INFO 6 s.bootAppSlot).wrF Reg.CATL_STATUS 8 5 0)

/-- Step 13: the watchdog starts (R79, R547), and the events that wait for it are raised (R106, R494, R674). -/
def State.bootJump (s : State) : State :=
  let s1 := (((s.wr Reg.WDOG_LIMIT 60000).wr Reg.WDOG_WARN 0).wdogFeed).setB Reg.WDOG_CTRL 0 true
  let s2 := ((s1.event 0).eventIf s.pwr.bowEvent 1).eventIf s.cust.eventDue 254
  { s2 with pwr := { s2.pwr with bowEvent := false }, cust := { s2.cust with eventDue := false } }

/-- The drive that step 1 starts the root crystal at: the recorded one, or 2 while RSTC_BOOTCFG.VALID is 0 (R75); the high
drive is drive 3. -/
def State.startDrive (s : State) : Nat := if s.bit Reg.RSTC_BOOTCFG 31 then s.rdF Reg.RSTC_BOOTCFG 0 2 else 2

/-- Steps 2 and 3 on their alternative path train at half rate: the boot ROM sets HALF_F or HALF_S (R35). -/
def State.takePath (s : State) (alt : Bool) (n : Nat) : State :=
  if alt && (n == 2 || n == 3) then s.setB Reg.SPINE_CTRL (n + 2) true else s

/-- The custodian refuses the signature request of a step. -/
def envRefuses (env : BootEnv) (n : Nat) : Bool := env.refused.any (fun k => k.val == n)

/-- The action of a step; the code of the check that refuses it. -/
def State.bootAct (s : State) (env : BootEnv) (alt : Bool) (n : Nat) : Except Nat State :=
  match n with
  | 0 => .ok ((s.satAdd Reg.RSTC_CIRC 0 4).setB Reg.RSTC_CIRC 17 (env.bootSel.getD false)).checkAnnex
  | 1 => .ok (s.setB Reg.CLK_STATUS 2 (alt || s.startDrive == 3))
  | 2 => .ok ((s.spineUp .front).loseArea 16)
  | 3 => .ok (((s.endPulses.spineUp .store).loadMaps.restoreMirror).checkAnnex.storeSync)
  | 4 => .ok s.loadKeys
  | 7 => s.bootVerify (envRefuses env 7)
  | 8 => .ok (s.bootApply alt)
  | 9 => .ok (s.bootFactory alt)
  | 10 => .ok (if alt then s else (s.setB Reg.CLK_STATUS 1 true).selectSysclk)
  | 11 => .ok (s.bootRadio env.temp alt)
  | 12 => s.bootApp (envRefuses env 12)
  | 13 => .ok s.bootJump
  | _ => .ok s

/-! ### The sequence -/

/-- A step has failed: it is counted, and a software reset follows (R81). -/
def State.bootFail (s : State) (n reason code : Nat) : State := (s.countFail n reason code).warmReset .software

/-- The rescue channel's centre frequency, in kHz, by the region code of the colophon: region U, else region E, which is
also the built-in default (R101, R287). -/
def State.rescueKhz (s : State) : Nat :=
  match s.calRecord with
  | some r => if b1 r 8 = 0x55 then 915000 else 869400
  | none => 869400

/-- The radio receives Gen 1 on the rescue channel: the front end is in RX at its frequency. -/
def State.onRescue (s : State) : Bool := s.fsm == 3 && s.rdF Reg.RADIO_RX_FREQ 0 22 == s.rescueKhz

/-- Annex mode begins (R93, R95): GPIO_HOLD is released, IN_ANNEX reads 1, and the radio receives on the rescue channel
(R101). -/
def State.enterAnnex (s : State) : State :=
  let s0 := (s.setB Reg.RSTC_CIRC 18 true).setB Reg.GPIO_HOLD 0 false
  let s1 := (s0.wr Reg.RADIO_RX_FREQ (word s.rescueKhz)).wrF Reg.RADIO_FSM 0 7 3
  { s1 with boot := { s1.boot with phase := .annex, padHold := [] } }

/-- Annex mode is due after step 5 (R93). -/
def State.annexDue (s : State) : Bool := s.bit Reg.RSTC_CIRC 16 || s.bit Reg.RSTC_CIRC 17

/-- How a step leaves the start: it goes on, or it has ended. -/
inductive BootRes where
  | go (s : State)
  | stop (s : State)

/-- A step has completed: on its normal path its count becomes 0 (R85); after step 5 annex mode may begin (R93), after
step 13 the application runs. -/
def State.bootDone (s : State) (n : Nat) (alt : Bool) : BootRes :=
  let s1 := if alt then s else s.setErrCount n 0
  if n = 5 && s1.annexDue then .stop s1.enterAnnex
  else if n = 13 then
    let s2 := s1.wr Reg.RSTC_BOOT_STEP 0xF
    .stop { s2 with boot := { s2.boot with phase := .app } }
  else .go s1

/-- Whether the environment fails a step; steps 0 and 13 have no check of their own here. -/
def envFails (env : BootEnv) (n : Nat) : Bool := env.fails.any (fun k => k.val == n) && n != 0 && n != 13

/-- The code of an environment failure: an image that cannot be read. -/
def envCode (n : Nat) : Nat := if n = 7 || n = 12 then 0xF else 0

/-- One boot step (R73, R74): the step number, a tamper input (R105), a time-out, a failed check, or the action. -/
def State.bootStep (s : State) (env : BootEnv) (late : Option Nat) (n : Nat) : BootRes :=
  let s0 := (s.wr Reg.RSTC_BOOT_STEP (word n)).bootTamper env n
  let alt := s0.takesAlt n
  let s1 := s0.takePath alt n
  if s1.isHeld then .stop s1
  else if late = some n && n != 0 && n != 13 then .stop (s1.bootFail n 1 0)
  else if envFails env n then .stop (s1.bootFail n 2 (envCode n))
  else match s1.bootAct env alt n with
    | .ok t => t.bootDone n alt
    | .error c => .stop (s1.bootFail n 2 c)

/-- The steps of a start in order. -/
def bootSteps (env : BootEnv) (late : Option Nat) : List Nat → State → State
  | [], s => s
  | n :: t, s => match s.bootStep env late n with
    | .go s' => bootSteps env late t s'
    | .stop s' => s'

/-- A start that found the last one unfinished counts a HANG when the watchdog, an escalation or brown-out ended it
(R82, R83). -/
def State.countHang (s : State) : State :=
  let n := s.rdF Reg.RSTC_BOOT_STEP 0 4
  if n ≤ 13 && s.rd Reg.RSTC_CAUSE &&& 0x1A != 0 then s.countFail n 0 0 else s

/-- A start: from step 0, where a supply that fails the check keeps the reset (step 0 has no alternative). -/
def State.runBoot (s : State) (env : BootEnv) (late : Option Nat) : State :=
  if s.boot.phase != .start then s
  else if env.fails.any (fun k => k.val == 0) then { s with boot := { s.boot with phase := .held } }
  else bootSteps env late (List.range 14) ((s.setB Reg.RSTC_CIRC 18 false).countHang)

/-- BOOT_START (R73): the hold of R66 has ended, or a Hibernate wake begins a start. -/
def execBootStart (env : BootEnv) (s : State) : Out := .next (s.runBoot env none)

/-- BOOT_STEP_TIMEOUT: a start in which a step exceeds its limit (R74). -/
def execBootStepTimeout (env : BootEnv) (step : Fin 14) (s : State) : Out := .next (s.runBoot env (some step.val))

/-! ### Reset sources -/

/-- The supply lies below the warning level: BOW and BOW_SEEN, and the inhibit wire (R110, R112). -/
def State.lowSupply (s : State) : State := ((s.setB Reg.PWR_STATUS 0 true).setB Reg.PWR_STATUS 1 true).storeInhibit

/-- POWER_ON_RESET (R64); a supply below the warning level at its end raises event 1 at step 13 (R674). -/
def execPowerOnReset (env : SupplyEnv) (s : State) : Out :=
  if env.low then
    let s1 := s.powerOnReset.lowSupply
    .next { s1 with pwr := { s1.pwr with bowEvent := true } }
  else .next s.powerOnReset

/-- BROWN_OUT_RESET (R64): the supply has fallen below the reset level, so the warning is in force. -/
def execBrownOutReset (s : State) : Out :=
  if s.isHeld then .next s
  else .next ((s.storeInhibit.brownOutReset.setB Reg.PWR_STATUS 0 true).setB Reg.PWR_STATUS 1 true)

/-- RST_N_PULSE (R67): below 2 µs ignored, above 10 µs taken; between, a free choice. -/
def execRstNPulse (ns : Nat) (s : State) : Out :=
  if ns < 2000 then .next s
  else if 10000 < ns then .next (s.warmReset .rstN)
  else
    let f := s.takeFree
    .next (if f.1 % 2 = 1 then f.2.warmReset .rstN else f.2)

/-- SOFTWARE_RESET: a write of RSTC_SWRST; only the key resets (R64). -/
def execSoftwareReset (key : Word) (s : State) : Out :=
  .next (if key = 0x0C965A5A then s.warmReset .software else s)

/-- DEBUG_RESET: ndmreset, while debug is open (R64, R476). -/
def execDebugReset (s : State) : Out := .next (if s.debugOpen then s.warmReset .debug else s)

/-- RESET_HOLD_END: 10 µs after the reset source has ended (R66); SBR_F is released with the core die's reset (R65). -/
def execResetHoldEnd (s : State) : Out :=
  .next (if s.boot.phase == .held then
    { s with boot := { s.boot with phase := .start }, spineF := { s.spineF with resetReq := false } }
  else s)

/-! ### Registers of RSTC that act -/

/-- BOOT_OK: the key clears COUNT (R90). -/
def execBootOk (key : Word) (s : State) : Out :=
  .next (if key = 0x0C96B00C then s.wrF Reg.RSTC_CIRC 0 4 0 else s)

/-- ERRATA_CLR: ones clear counts; a change makes the mirror rewrite due (R88). -/
def State.errataClr (s : State) (v : Word) : State :=
  let s1 := forRange 14 s (fun t n => if bitOf v n then t.setErrCount n 0 else t)
  if s1.rd Reg.RSTC_ERRATA = s.rd Reg.RSTC_ERRATA then s1 else s1.setB Reg.RSTC_CIRC 19 true

/-- ERRATA_CLR. -/
def execErrataClr (v : Word) (s : State) : Out := .next (s.errataClr v)

/-- ERRATA_MIRROR_REWRITE: the custodian rewrites the mirror, not during a warning (R88). -/
def execErrataMirrorRewrite (s : State) : Out :=
  if s.bit Reg.RSTC_CIRC 19 && !s.bit Reg.PWR_STATUS 0 then .next (s.writeMirror.setB Reg.RSTC_CIRC 19 false) else .next s

/-- A write of GPIO_HOLD: RELEASE ends the hold (R71). -/
def State.holdRelease (s : State) : State :=
  let s1 := s.setB Reg.GPIO_HOLD 0 false
  { s1 with boot := { s1.boot with padHold := [] } }

/-- GPIO_HOLD_RELEASE (R70, R71). -/
def execGpioHoldRelease (s : State) : Out := .next s.holdRelease

end Sys2Proof.Machine
end

