-- ==== Sys2Proof/Machine/HifRegs.lean ====
section
/-! DEFINITION. The host interface's registers that act when written, and its errors and interrupt (17). -/

namespace Sys2Proof.Machine

/-- Error counters of HIF_ERR: 0 HIF-1, 1 HIF-2, 2 HIF-3, 3 the rings. Errors since the last STATUS (R562). -/
def State.hifErr (s : State) (k : Nat) : State :=
  { s.satAdd Reg.HIF_ERR (8 * k) 8 with hif := { s.hif with errSeen := true } }

/-- Event 221 with HIF_IRQ_PEND.ERR. -/
def State.hifErrEvent (s : State) : State := (s.setB Reg.HIF_IRQ_PEND 5 true).event 221

/-- HIF_DB_IN_WRITE: a host write of HIF_DB_IN raises 218 through HIF-2 and 219 through HIF-3 (R565). -/
def State.doorbellIn (s : State) (third : Bool) (v : Word) : State :=
  (s.wr Reg.HIF_DB_IN v).event (if third then 219 else 218)

/-- HIF_DB_IN_WRITE. -/
def execHifDbInWrite (third : Bool) (v : Word) (s : State) : Out := .next (s.doorbellIn third v)

/-- HIF_DB_OUT_WRITE: a write by a master other than HIF sets MSG; the HIF_IRQ pad follows (R576). -/
def State.doorbellOut (s : State) (m : Master) (v : Word) : State :=
  (s.wr Reg.HIF_DB_OUT v).setB Reg.HIF_IRQ_PEND 4 (s.bit Reg.HIF_IRQ_PEND 4 || m != .host)

/-- HIF_DB_OUT_WRITE. -/
def execHifDbOutWrite (m : Master) (v : Word) (s : State) : Out :=
  if s.locked m then .next s.answerError else .next (s.doorbellOut m v)

/-- HIF1_RXDONE: DONE frees the receive buffer (R560). -/
def State.rxDone (s : State) (v : Word) : State := if bitOf v 0 then s.setB Reg.HIF1_RXINFO 11 false else s

/-- HIF1_RXDONE. -/
def execHif1Rxdone (v : Word) (s : State) : Out := .next (s.rxDone v)

/-- The receive and transmit buffers of HIF-1. -/
def hifRxBuf : Nat := 0x40048400
/-- The transmit buffer of HIF-1. -/
def hifTxBuf : Nat := 0x40048800

/-- Byte stuffing of R98. -/
def stuff : List Byte → List Byte
  | [] => []
  | b :: t => if b == 0x7E || b == 0x7D then 0x7D :: (b ^^^ 0x20) :: stuff t else b :: stuff t

/-- A frame as it is sent: flags, OP, SEQ, LEN, payload and CRC-16 (R98, R99). -/
def hifFrame (op seq : Nat) (payload : List Byte) : List Byte :=
  let body := [byte op, byte seq] ++ leBytes 2 payload.length ++ payload
  [0x7E] ++ stuff (body ++ leBytes 2 (crc16 body)) ++ [0x7E]

/-- The bytes of a frame without its stuffing (R98). -/
def unstuff : List Byte → List Byte
  | [] => []
  | [b] => [b]
  | a :: b :: t => if a == 0x7D then (b ^^^ 0x20) :: unstuff t else a :: unstuff (b :: t)

/-- A received frame: OP, SEQ, the LEN it states and its payload. -/
structure HifFrame where
  op      : Nat
  seq     : Nat
  len     : Nat
  payload : List Byte
  deriving DecidableEq, Repr

/-- LEN agrees with the payload. -/
def HifFrame.whole (f : HifFrame) : Bool := f.len == f.payload.length

/-- The frame that bytes between two flags carry; none when its CRC-16 is wrong (R98, R99). -/
def parseFrame (line : List Byte) : Option HifFrame :=
  let l := unstuff line
  let n := l.length
  if 6 ≤ n && crc16 (l.take (n - 2)) == leNat (l.drop (n - 2)) then
    some ⟨b1 l 0, b1 l 1, b2 l 2, (l.drop 4).take (n - 6)⟩
  else none

/-- The reply to a frame: OP with bit 7, its SEQ, the status byte and more (R100, R555). -/
def replyFrame (f : HifFrame) (status : Nat) (rest : List Byte) : List Byte :=
  hifFrame (f.op % 128 + 128) f.seq (byte status :: rest)

/-- PERCLK cycles of a bit on HIF-1: 4 × HIF1_DIV, 0 taken as 1 (R557). -/
def State.hif1Bit (s : State) : Nat := 4 * max 1 (s.rdF Reg.HIF_CFG 16 12)

/-- Bytes are sent on HIF1_TXD. -/
def State.hifSend (s : State) (f : List Byte) : State := { s with hif := { s.hif with txd := f, txBit := s.hif1Bit } }

/-- A write of HIF1_TXCTRL sends one frame from the transmit buffer; while BUSY it is ignored and counted (R561). A LEN
above the buffer is taken as the buffer's 1,024 bytes (notes/assumptions/43.md). -/
def State.txCtrl (s : State) (v : Word) : State :=
  if s.bit Reg.HIF1_TXSTAT 0 then s.hifErr 0
  else
    (s.hifSend (hifFrame (fld v 16 8) (fld v 24 8) (s.bytesAt hifTxBuf (min 1024 (fld v 0 11))))).setB Reg.HIF1_TXSTAT 0 true

/-- HIF1_TXCTRL (R561). -/
def execHif1Txctrl (v : Word) (s : State) : Out := .next (s.txCtrl v)

/-- HIF1_TX_DONE: the frame has been sent (R561). -/
def execHif1TxDone (s : State) : Out :=
  if s.bit Reg.HIF1_TXSTAT 0 then .next ((s.setB Reg.HIF1_TXSTAT 0 false).event 217) else .next s

/-- Entries of a ring: 2^LOG2, a LOG2 outside 4 to 10 taken as 4. -/
def State.ringSize (s : State) (r : Nat) : Nat :=
  let n := s.rdF (Reg.RING_CFG r) 0 4
  if 4 ≤ n && n ≤ 10 then 2 ^ n else 16

/-- RING_SQ_TAIL_WRITE: a tail outside the ring, or one that passes SQ_HEAD, is ignored and counted (R569; 17, "Host
rings"): from the old tail it must not reach or pass the slot before SQ_HEAD. -/
def State.sqTail (s : State) (r : Nat) (v : Word) : State :=
  let n := s.ringSize r
  let t := fld v 0 10
  let old := s.rdF (Reg.RING_SQ_TAIL r) 0 10
  let head := s.rdF (Reg.RING_SQ_HEAD r) 0 10
  if n ≤ t || (t + n - head) % n < (old + n - head) % n then s.hifErr 2
  else s.wrF (Reg.RING_SQ_TAIL r) 0 10 t

/-- RING_SQ_TAIL_WRITE (R569); without HIF-3 a write to an absent register (R668). -/
def execRingSqTailWrite (r : Fin 4) (v : Word) (s : State) : Out :=
  if s.present 25 then .next (s.sqTail r v) else .next ((s.absentSlip 72 (Reg.RING_SQ_TAIL r)).answer 0)

/-- A write of RINGn_CFG: LOG2 is ignored while EN is 1. -/
def State.ringCfg (s : State) (r : Nat) (v : Word) : State :=
  let a := Reg.RING_CFG r
  if s.bit a 8 then s.setB a 8 (bitOf v 8) else s.wr a (v &&& 0x10F)

end Sys2Proof.Machine
end

