-- ==== Sys2Proof/Machine/Annex.lean ====
section
/-! DEFINITION. Annex mode: the frames of HIF-1 and the rescue channel (03, R96 to R104). -/

namespace Sys2Proof.Machine

/-! ### Targets -/

/-- A target is an application slot (table "Annex targets"). -/
def targetApp (t : Nat) : Bool := 2 ≤ t

/-- A target is slot B. -/
def targetSlot (t : Nat) : Bool := t % 2 == 1

/-- The first sector of a target, and how many it has. -/
def targetSectors (t : Nat) : Nat × Nat :=
  match t with
  | 0 => (32, 32)
  | 1 => (64, 32)
  | 2 => (96, 512)
  | _ => (608, 512)

/-- The byte offset of a target in the store die. -/
def targetOff (t : Nat) : Nat := (targetSectors t).1 * 2048

/-- The largest image of a target. -/
def targetMax (t : Nat) : Nat := if targetApp t then 1048576 else 65536

/-- A TOTAL_LEN is in the range of its target (R42, R80). -/
def lenOk (t n : Nat) : Bool := decide (96 ≤ n) && decide (n ≤ targetMax t) && n % 4 == 0

/-! ### Flash work of the boot ROM -/

/-- Every sector of a target is erased. -/
def State.eraseTarget (s : State) (t : Nat) : State :=
  let r := targetSectors t
  forRange r.2 s (fun u i => u.eraseFlash (u.physOf (r.1 + i)))

/-- An erase of a target is cut in its first sector, which is undefined from then on (R426). -/
def State.spoilTarget (s : State) (t : Nat) : State := s.spoil (s.physOf (targetSectors t).1) (List.range 256)

/-- A word at a logical byte offset is programmed. -/
def State.progWord (s : State) (off : Nat) (bytes : List Byte) : State :=
  s.setFlash (s.physOf (off / 2048)) (off % 2048 / 8) { data := BitVec.ofNat 64 (leNat bytes) }

/-- Bytes are programmed from a logical byte offset, a word at a time. -/
def State.progRun (s : State) (off : Nat) (bytes : List Byte) : State :=
  forRange (bytes.length / 8) s (fun u i => u.progWord (off + 8 * i) ((bytes.drop (8 * i)).take 8))

/-- Every word of a run reads erased, so that it can be programmed (R410). -/
def State.runBlank (s : State) (off n : Nat) : Bool :=
  (List.range (n / 8)).all (fun i => (s.storeWord (off + 8 * i)).erased)

/-! ### Checks and activation -/

/-- The checks of an image in a target (R96): their code; `refused` says that the custodian refuses the signature
request. -/
def State.annexCheck (s : State) (t : Nat) (refused : Bool) : Nat :=
  match s.readStored (targetOff t) (targetMax t) with
  | .error _ => 0xF
  | .ok (img, _) =>
    let h := if targetApp t then s.appHeaderCode img else s.headerCode img
    if h ≠ 0 then h
    else if refused then 0x10
    else if targetApp t then appContentCode img
    else (s.contentCode none img).1

/-- An image that passes becomes active; the step counts of its kind, COUNT and ANNEX are cleared, and the mirror is
written (R97). -/
def State.annexAccept (s : State) (t : Nat) : State :=
  let s1 := s.setActive (targetApp t) (targetSlot t)
  let s2 := if targetApp t then s1.setErrCount 12 0 else ((s1.setErrCount 6 0).setErrCount 7 0).setErrCount 8 0
  ((s2.wrF Reg.RSTC_CIRC 0 4 0).setB Reg.RSTC_CIRC 16 false).writeMirror

/-! ### Frames of HIF-1 -/

/-- A frame reply. -/
def State.annexReply (s : State) (f : HifFrame) (status : Nat) (rest : List Byte := []) : State :=
  s.hifSend (replyFrame f status rest)

/-- LEN is right for OP (table of R100). -/
def annexLenOk (f : HifFrame) : Bool :=
  f.whole && (match f.op with
    | 2 => f.len == 8
    | 3 => decide (12 ≤ f.len) && decide (f.len ≤ 1028)
    | _ => f.len == 0)

/-- What a row does with the bytes between two flags: outside annex mode and for a wrong CRC nothing; an unknown OP or a
wrong LEN is answered BAD_OP; a frame of another row is that row's. -/
def State.annexFrame (s : State) (op : Nat) (line : List Byte) (act : HifFrame → State) : State :=
  if s.boot.phase != .annex then s
  else match parseFrame line with
    | none => s
    | some f =>
      if f.op = 0 || 5 < f.op then s.annexReply f 0x21
      else if f.op ≠ op then s
      else if !annexLenOk f then s.annexReply f 0x21
      else act f

/-- ANNEX_HELLO (R100). -/
def execAnnexHello (line : List Byte) (s : State) : Out :=
  .next (s.annexFrame 1 line (fun f => s.annexReply f 0 (
    leBytes 4 s.sysctlId.toNat ++ uidBytes ++ leBytes 1 s.cust.life ++
    leBytes 1 (if s.bit Reg.RSTC_CIRC 16 then 0 else 1) ++ leBytes 1 (s.rdF Reg.RSTC_CIRC 0 4) ++
    leBytes 4 (s.rd Reg.RSTC_ERRATA).toNat ++ leBytes 4 (s.rd Reg.RSTC_LASTFAIL).toNat ++ leBytes 4 s.boot.minBuild)))

/-- A new image write; a rescue collection ends. -/
def State.setWrite (s : State) (w : Option AnnexWrite) : State := { s with boot := { s.boot with annexW := w, rescue := none } }

/-- ANNEX_BEGIN: the target's erase starts; the reply follows it (R96, R100). DESIGN CHOICE: a BEGIN while an earlier one
still erases takes its place, and the earlier one is not answered (notes/assumptions/22.md). -/
def execAnnexBegin (line : List Byte) (s : State) : Out :=
  .next (s.annexFrame 2 line (fun f =>
    let t := b1 f.payload 0
    let n := b4 f.payload 4
    if 3 < t || !lenOk t n then s.annexReply f 0x23
    else if s.bit Reg.PWR_STATUS 0 then s.annexReply f 0x25
    else s.setWrite (some { target := t, len := n, seq := byte f.seq })))

/-- ANNEX_BEGIN_ERASED: the erase has ended, failed its verify, or been cut by a brown-out warning, and BEGIN is answered
(R100, R110): a cut erase ends INCOMPLETE, and no pulse has started since. -/
def execAnnexBeginErased (failed : Bool) (s : State) : Out :=
  match s.boot.annexW with
  | some w =>
    if w.erased || s.boot.phase != .annex then .next s
    else
      let f : HifFrame := ⟨2, w.seq.toNat, 0, []⟩
      if s.bit Reg.PWR_STATUS 0 then .next (((s.spoilTarget w.target).setWrite none).annexReply f 0x24)
      else if failed then .next ((s.setWrite none).annexReply f 0x24)
      else .next (((s.eraseTarget w.target).setWrite (some { w with erased := true })).annexReply f 0)
  | none => .next s

/-- The image write that takes DATA and END. -/
def State.openWrite (s : State) : Option AnnexWrite := s.boot.annexW.filter (fun w => w.erased)

/-- ANNEX_DATA: image bytes are programmed; a place that is not erased, or a failed verify, answers STORE_FAIL (R100,
R410). -/
def execAnnexData (line : List Byte) (failed : Bool) (s : State) : Out :=
  .next (s.annexFrame 3 line (fun f =>
    let off := b4 f.payload 0
    let data := f.payload.drop 4
    match s.openWrite with
    | none => s.annexReply f 0x22
    | some w =>
      if off % 8 != 0 || data.length % 8 != 0 || w.len < off + data.length then s.annexReply f 0x23
      else if s.bit Reg.PWR_STATUS 0 then s.annexReply f 0x25
      else if failed || !s.runBlank (targetOff w.target + off) data.length then s.annexReply f 0x24
      else (s.progRun (targetOff w.target + off) data).annexReply f 0))

/-- ANNEX_END: the image's checks; one that passes becomes active (R96, R97, R100). DESIGN CHOICE: under a brown-out
warning, which lets no pulse start (R110), an image that passes is answered LOW_SUPPLY and nothing is written
(notes/assumptions/22.md). -/
def execAnnexEnd (line : List Byte) (refused : Bool) (s : State) : Out :=
  .next (s.annexFrame 4 line (fun f =>
    match s.openWrite with
    | none => s.annexReply f 0x22
    | some w =>
      let c := s.annexCheck w.target refused
      if c ≠ 0 then s.annexReply f 0x26 (leBytes 1 c)
      else if s.bit Reg.PWR_STATUS 0 then s.annexReply f 0x25 [0]
      else ((s.annexAccept w.target).setWrite (some { w with ended := true })).annexReply f 0 [0]))

/-- A software reset follows in 1 ms (R100, R104). -/
def State.dueReset (s : State) : State := { s with boot := { s.boot with resetDue := true } }

/-- ANNEX_RESET: only after an END that returned OK (R100). -/
def execAnnexReset (line : List Byte) (s : State) : Out :=
  .next (s.annexFrame 5 line (fun f =>
    match s.boot.annexW with
    | some w => if w.ended then (s.annexReply f 0).dueReset else s.annexReply f 0x22
    | none => s.annexReply f 0x22))

/-- ANNEX_RESET_DELAY_EXPIRY: 1 ms after the reply, or after a rescue image has passed (R100, R104). -/
def execAnnexResetDelayExpiry (s : State) : Out :=
  .next (if s.boot.resetDue then s.warmReset .software else s)

/-! ### The rescue channel (R102 to R104) -/

/-- A rescue block is well formed (table "Rescue block"). -/
def blockOk (p : List Byte) : Bool :=
  p.length == 240 && b1 p 0 == 0xA5 && b1 p 1 == 0x5A && decide (b1 p 2 ≤ 3) && lenOk (b1 p 2) (b4 p 8) &&
    b2 p 14 == (b4 p 8 + 223) / 224 && decide (b2 p 12 < b2 p 14)

/-- Replace the collection. -/
def State.setRescue (s : State) (r : Option Rescue) : State := { s with boot := { s.boot with rescue := r } }

/-- The blocks of an image. -/
def Rescue.total (r : Rescue) : Nat := (r.len + 223) / 224

/-- Every block has been received: the checks of R96, then R97 and the reset (R104); an image that fails is dropped. -/
def State.rescueEnd (s : State) (r : Rescue) (refused : Bool) : State :=
  if s.annexCheck r.target refused = 0 then ((s.annexAccept r.target).setRescue none).dueReset else s.setRescue none

/-- A new block of the collection is programmed once. -/
def State.rescueBlock (s : State) (r : Rescue) (p : List Byte) (refused : Bool) : State :=
  let i := b2 p 12
  let n := min 224 ((r.len + 7) / 8 * 8 - 224 * i)
  let s1 := s.progRun (targetOff r.target + 224 * i) ((p.drop 16).take n)
  let r1 := { r with blocks := r.blocks ++ [i] }
  if r1.blocks.length = r.total then s1.rescueEnd r1 refused else s1.setRescue (some r1)

/-- RESCUE_BLOCK_RECEIVED: blocks of one image, received on the rescue channel, are collected; a higher BUILD starts anew
(R101, R103, R104). Nothing is done during a warning, nor while HIF-1 writes an image. -/
def execRescueBlockReceived (payload : List Byte) (refused : Bool) (s : State) : Out :=
  let p := payload
  if !s.onRescue || s.boot.phase != .annex || s.boot.annexW.isSome || s.boot.resetDue || s.bit Reg.PWR_STATUS 0 || !blockOk p then .next s
  else
    let new : Rescue := { target := b1 p 2, build := b4 p 4, len := b4 p 8 }
    match s.boot.rescue with
    | none => .next (s.setRescue (some new))
    | some r =>
      if !r.erased then .next s
      else if r.build < new.build then .next (s.setRescue (some new))
      else if new.build < r.build || new.len ≠ r.len || new.target ≠ r.target || r.blocks.contains (b2 p 12) then .next s
      else .next (s.rescueBlock r p refused)

/-- RESCUE_ERASE_DONE: the target of the collection is erased (R104). DESIGN CHOICE: the erase and the programs of a
rescue collection do not fail (notes/assumptions/22.md). -/
def execRescueEraseDone (s : State) : Out :=
  match s.boot.rescue with
  | some r =>
    if r.erased || s.bit Reg.PWR_STATUS 0 then .next s
    else .next ((s.eraseTarget r.target).setRescue (some { r with erased := true }))
  | none => .next s

end Sys2Proof.Machine
end

