-- ==== Sys2Proof/Machine/Gpio.lean ====
section
/-! DEFINITION. GPIO and ADC (18). -/

namespace Sys2Proof.Machine

/-! ### GPIO -/

/-- The pins of register `j` that the variant fits: the other bits read 0 and ignore writes (18, "Registers"). -/
def State.gpioMask (s : State) (j : Nat) : Word := word (2 ^ (min 32 (s.pinCount - 32 * j)) - 1)

/-- The action of task port `k` on its pin: set, clear or toggle, when that is a GPIO-function pin of the variant (R625). -/
def State.portAct (s : State) (k : Nat) : State :=
  let p := s.rdF (Reg.GPIO_TP_CFG k) 0 6
  if s.isGpio p then
    match s.rdF (Reg.GPIO_TP_CFG k) 8 2 with
    | 1 => s.setB (Reg.GPIO_OUT (p / 32)) (p % 32) true
    | 2 => s.setB (Reg.GPIO_OUT (p / 32)) (p % 32) false
    | 3 => s.setB (Reg.GPIO_OUT (p / 32)) (p % 32) (!s.bit (Reg.GPIO_OUT (p / 32)) (p % 32))
    | _ => s
  else s

/-- GPIO_OUT of register `j` as the software writes alone leave it: its value before the first task port of the running
PERCLK cycle, where one has come (R630). -/
def State.outBase (s : State) (j : Nat) : Word := (mapGet s.cyc.gpioBase j).getD (s.rd (Reg.GPIO_OUT j))

/-- The task ports of the running cycle act on the values that software leaves, in ascending order (R630). -/
def State.portsAct (s : State) : State :=
  ((List.range 8).filter (fun k => s.cyc.ports.contains k)).foldl State.portAct
    ((s.wr (Reg.GPIO_OUT 0) (s.outBase 0)).wr (Reg.GPIO_OUT 1) (s.outBase 1))

/-- A software write gives GPIO_OUT of register `j` a value, at the pins fitted; it comes before the task ports of the
cycle (R630). -/
def State.setOut (s : State) (j : Nat) (v : Word) : State :=
  let w := v &&& s.gpioMask j
  if s.cyc.ports.isEmpty then s.wr (Reg.GPIO_OUT j) w
  else { s with cyc := { s.cyc with gpioBase := (j, w) :: s.cyc.gpioBase } }.portsAct

/-- GPIO_SET (R622). -/
def execGpioSet (j : Fin 2) (v : Word) (s : State) : Out := .next (s.setOut j (s.outBase j ||| v))

/-- GPIO_CLR (R622). -/
def execGpioClr (j : Fin 2) (v : Word) (s : State) : Out := .next (s.setOut j (s.outBase j &&& ~~~ v))

/-- GPIO_TGL (R622). -/
def execGpioTgl (j : Fin 2) (v : Word) (s : State) : Out := .next (s.setOut j (s.outBase j ^^^ v))

/-- GPIO_TASK_PORT: task port `k` acts on its pin (R625), after the software writes and the lower task ports of the running
cycle (R630); a port acts once in a cycle (R193). -/
def execGpioTaskPort (k : Fin 8) (s : State) : Out :=
  .next { s with cyc := { s.cyc with
    gpioBase := if s.cyc.ports.isEmpty then [(0, s.rd (Reg.GPIO_OUT 0)), (1, s.rd (Reg.GPIO_OUT 1))] else s.cyc.gpioBase,
    ports := k.val :: s.cyc.ports } }.portsAct

/-- An outside source drives a pin, or stops driving it. -/
def State.drivePin (s : State) (n : Nat) (ext : Option Bool) : State :=
  { s with ser := { s.ser with pads :=
      match ext with
      | some v => mapIns (mapErase s.ser.pads n) n v
      | none => mapErase s.ser.pads n } }

/-- The pads are sampled: the application or annex mode runs, or the part sleeps (R624, R680). -/
def State.samples (s : State) : Bool := s.asleep || s.boot.phase == .app || s.boot.phase == .annex

/-- GPIO_EDGE: an outside source changes what it drives onto a pin, and the pin is sampled, awake at once, in sleep at the
next tick (R622 to R624); without a sleep clock only a matching change of a wake pad is seen, and wakes the part (R676, R640). -/
def execGpioEdge (pin : Fin 40) (ext : Option Bool) (s : State) : Out :=
  let n := pin.val
  if s.pinCount ≤ n then .next s
  else
    let f := s.takeFree
    let old := f.2.padLevel f.1 n
    let s1 := f.2.drivePin n ext
    if s.asleep && s.chron.clockless then
      let new := s1.padLevel f.1 n
      if new != old && s.pinWakes n && s.edgeMatches n new then .next (s1.padWake n) else .next s1
    else if s.samples && !s.asleep then .next (s1.samplePin f.1 n)
    else .next s1

/-! ### ADC -/

/-- The ADC is enabled in section 0x01 (R598). -/
def State.adcOn (s : State) : Bool := s.enabled 16

/-- Replace the ADC's run and held start; BUSY shows the run. -/
def State.setAdc (s : State) (run : Option AdcRun) (held : Option Bool) : State :=
  ({ s with ser := { s.ser with adc := run, adcHeld := held } }).setB Reg.ADC_CTRL 7 run.isSome

/-- The divider that ADCCLK takes: DIV, 0 taken as 1, or the smallest that keeps ADCCLK at 7.68 MHz or below: 2 on the PLL,
1 in bypass (R599, R600). -/
def State.adcDiv (s : State) : Nat := max (max 1 (s.rdF Reg.ADC_CFG 0 4)) (if s.bit Reg.CLK_STATUS 0 then 2 else 1)

/-- PERCLK cycles of a conversion: SAMPLE ADCCLK cycles, below 4 taken as 4, and 14 (R626). -/
def State.adcCycles (s : State) : Nat := (max 4 (s.rdF Reg.ADC_CFG 8 6) + 14) * s.adcDiv

/-- The run a start makes: entry 0 alone, or entries 0 to LEN (R627). -/
def State.adcRunOf (s : State) (seq : Bool) : AdcRun :=
  { entry := 0, last := if seq then s.rdF Reg.ADC_CTRL 4 3 else 0, seq := seq, cycles := s.adcCycles }

/-- A start: it runs, or is held while the ADC converts, or is counted when one is held already (R627, R629). -/
def State.adcBegin (s : State) (seq : Bool) : State :=
  if !s.adcOn then s
  else match s.ser.adc, s.ser.adcHeld with
    | none, h => s.setAdc (some (s.adcRunOf seq)) h
    | some r, none => s.setAdc (some r) (some seq)
    | some _, some _ => s.satAdd Reg.ADC_STATUS 0 16

/-- A conversion or sequence is over: the held start runs (R629). -/
def State.adcNext (s : State) : State :=
  match s.ser.adcHeld with
  | some seq => s.setAdc (some (s.adcRunOf seq)) none
  | none => s.setAdc none none

/-- ADC_START: task 80 or ADC_CTRL.START (R627). -/
def execAdcStart (s : State) : Out := .next (s.adcBegin false)

/-- ADC_SEQ: task 81 or ADC_CTRL.SEQ (R627). -/
def execAdcSeq (s : State) : Out := .next (s.adcBegin true)

/-- ADC_STOP: the conversion ends without a result, and the sequence with it (R627). -/
def execAdcStop (s : State) : Out :=
  if s.adcOn && s.ser.adc.isSome then .next s.adcNext else .next s

/-- The die temperature of a channel 9 code: the manual gives no conversion from the code, so the sensor's reading, in
0.01 °C, is a free value; ADC_TEMP takes it corrected with TS_OFFSET and TS_SLOPE (R626; notes/assumptions/42.md). -/
def State.adcTemp (s : State) : State :=
  let f := s.takeFree
  f.2.wrF Reg.ADC_TEMP 0 10 (unsigned 10 (s.sensorTemp ((f.1 % 65536 : Nat) - 32768)))

/-- A channel that converts: not a reserved one, nor an AIN input that the package does not bond (R626; 19, "OCV96-K
pads"). -/
def State.adcBonded (s : State) (ch : Nat) : Bool :=
  match s.variant with
  | .anchor => ch < 10
  | .label => ch < 4 || ch == 8 || ch == 9
  | .keeper => ch < 6 || ch == 8 || ch == 9

/-- ADC_CONVERSION_DONE: the result, its events, the window of WIN.CH, and the next entry or the end (R626 to R628).
Conversions stop in sleep. Reserved and unbonded channels give code 0. -/
def execAdcConversionDone (code : Fin 4096) (s : State) : Out :=
  match s.ser.adc with
  | none => .next s
  | some r =>
    if s.asleep then .next s
    else
      let ch := s.rdF Reg.ADC_SEQ (4 * r.entry) 4
      let c := if s.adcBonded ch then code.val else 0
      let s1 := (s.wr (Reg.ADC_RES r.entry) (word (c + ch * 2 ^ 16 + 2 ^ 31))).event 236
      let s2 := if ch = 9 then s1.adcTemp else s1
      let out := ch == s.rdF Reg.ADC_WIN 28 4 && (decide (c < s.rdF Reg.ADC_WIN 0 12) || decide (s.rdF Reg.ADC_WIN 16 12 < c))
      let s3 := s2.eventIf out 238
      if r.entry < r.last then .next (s3.setAdc (some { r with entry := r.entry + 1 }) s3.ser.adcHeld)
      else .next ((s3.eventIf r.seq 237).adcNext)

end Sys2Proof.Machine
end

