-- ==== Sys2Proof/Machine/Serial.lean ====
section
/-! DEFINITION. SPI, UART and I²C units (18). A unit's FIFO levels are read from its FIFOs. A row that ends a transfer
moves what the FIFOs allow, and the transfer ends once all of it has moved (R602, R614; notes/assumptions/40.md). -/

namespace Sys2Proof.Machine

/-- The slip of R601 from a serial unit. -/
def State.serialSlip (s : State) (src detail : Nat) : State := s.slip src 0x12 1 detail

/-! ### SPI -/

/-- SPI unit `n` is enabled in section 0x01 (R598). -/
def State.spiOn (s : State) (n : Nat) : Bool := s.enabled (10 + n)

/-- The inner state of an SPI unit. -/
def State.spi (s : State) (n : Nat) : SpiSt := (mapGet s.ser.spi n).getD {}

/-- Replace it. -/
def State.setSpi (s : State) (n : Nat) (u : SpiSt) : State :=
  { s with ser := { s.ser with spi := mapPut {} s.ser.spi n u } }

/-- Bits of a frame: BITS + 1, BITS below 3 taken as 3. -/
def State.spiBits (s : State) (n : Nat) : Nat := max (s.rdF (Reg.SPI_CFG n) 4 4) 3 + 1

/-- The lowest `b` bits of a number in the opposite order. -/
def revBits (b v : Nat) : Nat := (List.range b).foldl (fun a i => 2 * a + b2n (v.testBit i)) 0

/-- A frame as it goes over the line, the first bit highest, and back: most significant bit first unless LSB is 1 (R602). -/
def State.spiLine (s : State) (n v : Nat) : Nat :=
  let b := s.spiBits n
  if s.bit (Reg.SPI_CFG n) 3 then revBits b v else v % 2 ^ b

/-- The lines of a serial unit live: it is enabled, and the part is awake (R598; 18, "What if Nap is entered during a
transfer?"). -/
def State.lineOn (s : State) (on : Bool) : Bool := on && !s.asleep

/-- SPI_START: START or its task starts a controller transfer of LEN frames (R602); a busy unit ignores it and counts it
(R631, "What if a fabric start task reaches a busy SPI controller?"); a target starts nothing. -/
def execSpiStart (n : Fin 2) (_ : Bool) (s : State) : Out :=
  if !s.spiOn n || s.bit (Reg.SPI_CFG n) 0 then .next s
  else if s.bit (Reg.SPI_STATUS n) 0 then .next (s.satAdd (Reg.SPI_STATUS n) 16 8)
  else .next ((s.setSpi n { s.spi n with
      left := max 1 (s.rdF (Reg.SPI_LEN n) 0 16), sent := [],
      mode := s.rdF (Reg.SPI_CFG n) 1 2, sck := s.rdF (Reg.SPI_CFG n) 8 8 + 1 }).setB (Reg.SPI_STATUS n) 0 true)

/-- A flag of SPIn_STATUS is set; 225 or 227 is raised when it becomes 1 (R604). -/
def State.spiFlag (s : State) (n bit : Nat) : State :=
  (s.setB (Reg.SPI_STATUS n) bit true).eventIf (!s.bit (Reg.SPI_STATUS n) bit) (225 + 2 * n)

/-- A target's chip select and clock can move: pads carry them (R636). -/
def State.spiSelected (s : State) (n : Nat) : Bool := s.wired [0x10 + 4 * n, 0x13 + 4 * n]

/-- A frame that the unit receives; 0 when no pad carries SDI (R602, R636). -/
def State.spiIn (s : State) (n v : Nat) : Nat := if s.wired [0x12 + 4 * n] then s.spiLine n v else 0

/-- SPI_TARGET_FRAME: a frame is shifted in target mode, `data` as it goes over the line; an empty transmit FIFO sends all ones and sets UDR, a full
receive FIFO loses the frame and sets OVR with a slip (R604, R601). -/
def execSpiTargetFrame (n : Fin 2) (data : Fin 65536) (s : State) : Out :=
  if !s.lineOn (s.spiOn n) || !s.bit (Reg.SPI_CFG n) 0 || !s.spiSelected n then .next s
  else
    let u := s.spi n
    let s1 := match u.tx with
      | f :: t => s.setSpi n { u with tx := t, sent := [s.spiLine n f] }
      | [] => (s.setSpi n { u with sent := [2 ^ s.spiBits n - 1] }).spiFlag n 10
    let u1 := s1.spi n
    if 8 ≤ u1.rx.length then .next ((s1.spiFlag n 9).serialSlip (76 + n) 1)
    else .next (s1.setSpi n { u1 with rx := u1.rx ++ [s.spiIn n data.val] })

/-- SPI_TRANSFER_END: in controller mode the frames that the FIFOs allow are exchanged, and the transfer ends with event
224 or 226 when all of it has been (R602); in target mode chip select rises with that event (R604). -/
def execSpiTransferEnd (n : Fin 2) (rx : List (Fin 65536)) (s : State) : Out :=
  if !s.lineOn (s.spiOn n) then .next s
  else if s.bit (Reg.SPI_CFG n) 0 then .next (s.eventIf (s.spiSelected n) (224 + 2 * n))
  else if !s.bit (Reg.SPI_STATUS n) 0 then .next s
  else
    let u := s.spi n
    let k := min (min u.left u.tx.length) (min (8 - u.rx.length) rx.length)
    let u1 : SpiSt := { u with
      tx := u.tx.drop k, rx := u.rx ++ (rx.take k).map (fun f => s.spiIn n f.val), left := u.left - k,
      sent := u.sent ++ (u.tx.take k).map (s.spiLine n) }
    let s1 := s.setSpi n u1
    if u1.left = 0 then .next ((s1.setB (Reg.SPI_STATUS n) 0 false).event (224 + 2 * n)) else .next s1

/-- A write of SPIn_DATA pushes a frame; a full FIFO takes none (notes/assumptions/41.md). -/
def State.spiPush (s : State) (n v : Nat) : State :=
  let u := s.spi n
  if 8 ≤ u.tx.length then s else s.setSpi n { u with tx := u.tx ++ [v % 65536] }

/-- A read of SPIn_DATA pops a frame, 0 when empty. -/
def State.spiPop (s : State) (n : Nat) : Nat × State :=
  let u := s.spi n
  match u.rx with
  | f :: t => (f, s.setSpi n { u with rx := t })
  | [] => (0, s)

/-- SPIn_STATUS with the FIFO levels. -/
def State.spiStatus (s : State) (n : Nat) : Word :=
  setFld (setFld (s.rd (Reg.SPI_STATUS n)) 1 4 (s.spi n).tx.length) 5 4 (s.spi n).rx.length

/-! ### UART -/

/-- UART `n` is enabled in section 0x01 (R598). -/
def State.uartOn (s : State) (n : Nat) : Bool := s.enabled (14 + n)

/-- The inner state of a UART. -/
def State.uart (s : State) (n : Nat) : UartSt := (mapGet s.ser.uart n).getD {}

/-- Replace it. -/
def State.setUart (s : State) (n : Nat) (u : UartSt) : State :=
  { s with ser := { s.ser with uart := mapPut {} s.ser.uart n u } }

/-- TXGATE of a UART. -/
def State.uartGate (s : State) (n : Nat) : Bool := s.bit (Reg.UART_CFG n) 1

/-- The bytes of the transmit FIFO that may go: all of them, or under TXGATE those a task has let go (R606). -/
def State.uartGo (s : State) (n : Nat) : Nat :=
  if s.uartGate n then min (s.uart n).gated (s.uart n).tx.length else (s.uart n).tx.length

/-- TXBUSY is 1 while bytes may go. -/
def State.uartBusy (s : State) (n : Nat) : State := s.setB (Reg.UART_STATUS n) 10 (decide (0 < s.uartGo n))

/-- UART_DATA_WRITE: a byte is pushed, or ignored and counted at a full FIFO (R609). -/
def State.uartPush (s : State) (n : Nat) (v : Word) : State :=
  let u := s.uart n
  if 16 ≤ u.tx.length then s.satAdd (Reg.UART_STATUS n) 16 8
  else (s.setUart n { u with tx := u.tx ++ [byte v.toNat] }).uartBusy n

/-- UART_DATA_WRITE (R606, R609). -/
def execUartDataWrite (n : Fin 2) (v : Word) (s : State) : Out :=
  if s.uartOn n then .next (s.uartPush n v) else .next s

/-- UART_SEND_TASK: with TXGATE the bytes in the FIFO at the arrival are sent (R606). -/
def execUartSendTask (n : Fin 2) (s : State) : Out :=
  if s.uartOn n && s.uartGate n then
    .next ((s.setUart n { s.uart n with gated := (s.uart n).tx.length }).uartBusy n)
  else .next s

/-- A byte as it is sent: even parity when PARITY is 1, and a bit of DIV / 16 PERCLK cycles, DIV below 64 taken as 64 (R599,
R605). -/
def State.uartChar (s : State) (n : Nat) (b : Byte) : UartChar where
  data := b
  parity := if s.bit (Reg.UART_CFG n) 0 then some ((List.range 8).foldl (fun p i => p ^^ b.toNat.testBit i) false) else none
  bit := max 64 (s.rdF (Reg.UART_BAUD n) 0 16)

/-- UART_TX_EMPTY: the bytes that may go have been sent; the event follows when the FIFO is empty too (R607). -/
def execUartTxEmpty (n : Fin 2) (s : State) : Out :=
  if !s.lineOn (s.uartOn n) then .next s
  else
    let u := s.uart n
    let k := s.uartGo n
    if k = 0 then .next s
    else
      let s1 := ((s.setUart n { u with tx := u.tx.drop k, gated := 0, sent := (u.tx.take k).map (s.uartChar n) }).uartBusy n)
      .next (s1.eventIf (u.tx.length == k) (233 + 2 * n))

/-- The receive flags that a byte sets: framing, parity with PARITY 1, break (R605, R608). -/
def State.uartFlags (s : State) (n : Nat) (ferr perr brk ovr : Bool) : State :=
  let p := perr && s.bit (Reg.UART_CFG n) 0
  let m : Word := word (b2n ferr * 2 ^ 11 + b2n p * 2 ^ 12 + b2n brk * 2 ^ 13 + b2n ovr * 2 ^ 14)
  (s.wr (Reg.UART_STATUS n) (s.rd (Reg.UART_STATUS n) ||| m)).eventIf (ferr || p || brk || ovr) 239

/-- UART_BYTE_RECEIVED: the byte enters the FIFO, with its error flags; at a full FIFO it is lost with OVR and a slip;
the event of R607 when the level reaches RXLVL + 1 (R608, R601). Without an RX pad nothing is received (R636). -/
def execUartByteReceived (n : Fin 2) (b : Byte) (ferr perr brk : Bool) (s : State) : Out :=
  if !s.lineOn (s.uartOn n) || !s.wired [0x1D + 2 * n] then .next s
  else
    let u := s.uart n
    if 16 ≤ u.rx.length then .next ((s.uartFlags n ferr perr brk true).serialSlip (80 + n) 2)
    else
      let s1 := (s.setUart n { u with rx := u.rx ++ [b] }).uartFlags n ferr perr brk false
      .next (s1.eventIf (u.rx.length + 1 == s.rdF (Reg.UART_CFG n) 4 4 + 1) (232 + 2 * n))

/-- UART_RX_TIMEOUT: data has waited two character times (R607). -/
def execUartRxTimeout (n : Fin 2) (s : State) : Out :=
  .next (s.eventIf (s.lineOn (s.uartOn n) && !(s.uart n).rx.isEmpty) (232 + 2 * n))

/-- A read of UARTn_DATA pops a byte; an empty FIFO has no stated value (notes/assumptions/41.md). -/
def State.uartPop (s : State) (n : Nat) : Nat × State :=
  let u := s.uart n
  match u.rx with
  | b :: t => (b.toNat, s.setUart n { u with rx := t })
  | [] => let r := s.takeFreeBytes 1; ((r.1.headD 0).toNat, r.2)

/-- UARTn_STATUS with the FIFO levels. -/
def State.uartStatus (s : State) (n : Nat) : Word :=
  setFld (setFld (s.rd (Reg.UART_STATUS n)) 0 5 (s.uart n).tx.length) 5 5 (s.uart n).rx.length

/-! ### I²C -/

/-- I²C unit `n` is enabled in section 0x01 (R598). -/
def State.i2cOn (s : State) (n : Nat) : Bool := s.enabled (12 + n)

/-- Pads carry SCL and SDA; without them the unit sees an idle bus (R636). -/
def State.i2cWired (s : State) (n : Nat) : Bool := s.wired [0x18 + 2 * n, 0x19 + 2 * n]

/-- The bus of an I²C unit lives: the unit is enabled, the part awake, and pads carry the lines. -/
def State.i2cLive (s : State) (n : Nat) : Bool := s.lineOn (s.i2cOn n) && s.i2cWired n

/-- The inner state of an I²C unit. -/
def State.i2c (s : State) (n : Nat) : I2cSt := (mapGet s.ser.i2c n).getD {}

/-- Replace it; BUSY shows a controller transfer or a transfer that addresses the unit. -/
def State.setI2c (s : State) (n : Nat) (u : I2cSt) : State :=
  ({ s with ser := { s.ser with i2c := mapPut {} s.ser.i2c n u } }).setB (Reg.I2C_STATUS n) 3
    (u.run.isSome || u.target.isSome)

/-- The bus-busy state of R612. -/
def State.busBusy (s : State) (n : Nat) (b : Bool) : State := s.setB (Reg.I2C_STATUS n) 4 b

/-- A controller transfer ends with a status (R611, R613). -/
def State.i2cEnd (s : State) (n code : Nat) : State :=
  (((s.setI2c n { s.i2c n with run := none }).wrF (Reg.I2C_STATUS n) 0 3 code)).event ((if code = 0 then 228 else 229) + 2 * n)

/-- A loss of arbitration is recorded in I2Cn_ARBLOST (R617). -/
def State.i2cLoss (s : State) (n byte bit : Nat) : State :=
  s.wr (Reg.I2C_ARBLOST n) (word (byte % 256 + bit * 2 ^ 8 + 2 ^ 31))

/-- The address bytes of a transfer. -/
def addrBytes (xfer : Word) : Nat := if bitOf xfer 10 then 2 else 1

/-- A transfer takes the bus (R611): START is sent, and a loss that it will meet is recorded; when the loss falls in the
address and the winner addresses this unit, the unit answers as target (R615 to R618). -/
def State.i2cBegin (s : State) (n : Nat) (r : I2cRun) : State :=
  let u := s.i2c n
  let scl := (max 4 (s.rdF (Reg.I2C_TIMING n) 0 8), max 4 (s.rdF (Reg.I2C_TIMING n) 8 8))
  let s1 := (s.setI2c n { u with run := some { r with waiting := false, scl := scl }, owns := false }).busBusy n true
  match r.lost with
  | none => s1
  | some (i, b) =>
    let s2 := s1.i2cLoss n i b
    if i < addrBytes r.xfer && r.asTarget && s.bit (Reg.I2C_TADDR n) 7 then
      s2.setI2c n { s2.i2c n with target := some false }
    else s2

/-- A bus clear: nine clocks and a STOP, CLEARED when SDA is then high, BUS_STUCK with its slip otherwise (R620). -/
def State.i2cBusClear (s : State) (n : Nat) (free : Bool) : State :=
  if free then ((s.setI2c n { s.i2c n with owns := false }).busBusy n false).i2cEnd n 6
  else (s.i2cEnd n 7).serialSlip (78 + n) 3

/-- A write of I2Cn_XFER: ignored and counted while a transfer runs (R631); a bus clear with CLEAR (R620); else a
transfer, which waits while another controller holds the bus (R612). -/
def State.i2cStart (s : State) (n : Nat) (v : Word) (lost : Option (Nat × Nat)) (asTarget free : Bool) : State :=
  let u := s.i2c n
  if u.run.isSome then s.satAdd (Reg.I2C_STATUS n) 16 8
  else if bitOf v 31 then s.i2cBusClear n free
  else
    let r : I2cRun := { xfer := v, left := fld v 16 8, waiting := true, lost := lost, asTarget := asTarget }
    if s.bit (Reg.I2C_STATUS n) 4 && !u.owns then s.setI2c n { u with run := some r } else s.i2cBegin n r

/-- The (byte, bit) operand of a loss. -/
def lossAt (p : Fin 258 × Fin 8) : Nat × Nat := (p.1.val, p.2.val)

/-- I2C_XFER. With CLEAR set it is a bus clear whose outcome no operand gives: a free choice. -/
def execI2cXfer (n : Fin 2) (v : Word) (lost : Option (Fin 258 × Fin 8)) (asTarget : Bool) (s : State) : Out :=
  if !s.i2cOn n then .next s
  else
    let f := s.takeFree
    .next (f.2.i2cStart n v (if s.i2cWired n then lost.map lossAt else none) asTarget (!s.i2cWired n || f.1 % 2 == 1))

/-- I2C_CLEAR: software writes CLEAR; `free` says whether SDA is high afterwards (R620). -/
def execI2cClear (n : Fin 2) (free : Bool) (s : State) : Out :=
  if s.i2cOn n then .next (s.i2cStart n 0x80000000 none false (free || !s.i2cWired n)) else .next s

/-- I2C_BUS_BUSY_TIMEOUT: a transfer that waits for the bus ends BUS_BUSY (R612). -/
def execI2cBusBusyTimeout (n : Fin 2) (s : State) : Out :=
  match (s.i2c n).run with
  | some r => if s.i2cLive n && r.waiting then .next (s.i2cEnd n 4) else .next s
  | none => .next s

/-- I2C_SCL_TIMEOUT: another device holds SCL low for TO: both lines are released and the transfer ends TIMEOUT
(R621). -/
def execI2cSclTimeout (n : Fin 2) (s : State) : Out :=
  if s.i2cLive n && (s.i2c n).run.isSome then .next ((s.setI2c n { s.i2c n with owns := false }).i2cEnd n 5)
  else .next s

/-- I2C_SDA_STUCK_TIMEOUT: SDA low for TO with SCL high and no STOP, AUTOCLR 1: a bus clear (R620). -/
def execI2cSdaStuckTimeout (n : Fin 2) (free : Bool) (s : State) : Out :=
  if s.i2cLive n && s.bit (Reg.I2C_TIMING n) 28 then .next (s.i2cBusClear n free) else .next s

/-- A START or STOP of another controller while the unit sends is a loss at that bit (R616). -/
def State.i2cDisturb (s : State) (n : Nat) (at_ : Nat × Nat) : State :=
  match (s.i2c n).run with
  | some r =>
    if r.waiting || r.lost.isSome then s
    else (s.setI2c n { s.i2c n with run := some { r with lost := some at_ }, owns := false }).i2cLoss n at_.1 at_.2
  | none => s

/-- A STOP ends the transfer that addressed the unit: the bytes written to it enter the receive FIFO, the bytes read
from it leave the transmit FIFO, and 228 or 230 is raised (R613, R614). -/
def State.i2cTargetEnd (s : State) (n : Nat) (data : List Byte) (taken : Nat) : State :=
  let u := s.i2c n
  match u.target with
  | some _ =>
    (s.setI2c n { u with target := none, rx := u.rx ++ data.take (8 - u.rx.length), tx := u.tx.drop taken }).event (228 + 2 * n)
  | none => s

/-- I2C_STOP_SEEN: the bus is free; a lost transfer ends ARB_LOST (R617), a transfer that addressed the unit ends, and a
transfer that waited begins (R612). -/
def execI2cStopSeen (n : Fin 2) (at_ : Fin 258 × Fin 8) (data : List Byte) (taken : Fin 256) (s : State) : Out :=
  if !s.i2cLive n then .next s
  else
    let s1 := ((s.i2cDisturb n (lossAt at_)).i2cTargetEnd n data taken).busBusy n false
    match (s1.i2c n).run with
    | some r => if r.waiting then .next (s1.i2cBegin n r) else .next (s1.i2cEnd n 3)
    | none => .next s1

/-- I2C_START_SEEN: another controller's START makes the bus busy (R612), counts as a loss for a transfer that sends
(R616), and may address the unit; a general call is not answered (R614, R618). -/
def execI2cStartSeen (n : Fin 2) (at_ : Fin 258 × Fin 8) (addr : Byte) (s : State) : Out :=
  if !s.i2cLive n then .next s
  else
    let s1 := (s.i2cDisturb n (lossAt at_)).busBusy n true
    let mine := s.bit (Reg.I2C_TADDR n) 7 && addr.toNat != 0 && addr.toNat / 2 == s.rdF (Reg.I2C_TADDR n) 0 7
    .next (s1.setI2c n { s1.i2c n with target := if mine then some (addr.toNat % 2 == 1) else none })

/-- How a transfer ends: without pads its address is never acknowledged (R636; 19, "What if the pin map gives no pad to a
function of an enabled unit?"). -/
def State.i2cHow (s : State) (n : Nat) (how : I2cEnd) : I2cEnd := if s.i2cWired n then how else .nackAddr

/-- I2C_TRANSFER_DONE: the data bytes that the FIFOs allow have moved; the transfer ends when all have, or at a NACK,
with STOP or with a repeated START that keeps the bus (R611, R613). -/
def execI2cTransferDone (n : Fin 2) (rx : List Byte) (how : I2cEnd) (s : State) : Out :=
  let u := s.i2c n
  match u.run with
  | none => .next s
  | some r =>
    if !s.lineOn (s.i2cOn n) || r.waiting || r.lost.isSome then .next s
    else
      let read := bitOf r.xfer 11
      let how := s.i2cHow n how
      let room := if read then min (8 - u.rx.length) rx.length else u.tx.length
      let k := match how with
        | .ok => min r.left room
        | .nackAddr => 0
        | .nackData i => min (min r.left room) (i.val + 1)
      let u1 : I2cSt := { u with
        tx := if read then u.tx else u.tx.drop k,
        rx := if read then u.rx ++ rx.take k else u.rx,
        owns := bitOf r.xfer 12,
        run := some { r with left := r.left - k } }
      let s1 := s.setI2c n u1
      let stop (t : State) : State := t.busBusy n (bitOf r.xfer 12)
      match how with
      | .ok => if r.left ≤ k then .next ((stop s1).i2cEnd n 0)
               else .next (s1.setI2c n { u1 with owns := false })
      | .nackAddr => .next ((stop s1).i2cEnd n 1)
      | .nackData i => .next (((stop s1).wrF (Reg.I2C_ARBLOST n) 0 8 i.val).i2cEnd n 2)

/-- A write of I2Cn_DATA pushes a byte; a full FIFO takes none (notes/assumptions/41.md). -/
def State.i2cPush (s : State) (n : Nat) (v : Word) : State :=
  let u := s.i2c n
  if 8 ≤ u.tx.length then s else s.setI2c n { u with tx := u.tx ++ [byte v.toNat] }

/-- A read of I2Cn_DATA pops a byte; an empty FIFO has no stated value (notes/assumptions/41.md). -/
def State.i2cPop (s : State) (n : Nat) : Nat × State :=
  let u := s.i2c n
  match u.rx with
  | b :: t => (b.toNat, s.setI2c n { u with rx := t })
  | [] => let r := s.takeFreeBytes 1; ((r.1.headD 0).toNat, r.2)

end Sys2Proof.Machine
end

