-- ==== Sys2Proof/Machine/BusRead.lean ====
section
/-! DEFINITION. The address map, and what a read of each address gives: computed registers, registers that act when
read, memories (01, and each chapter's registers). -/

namespace Sys2Proof.Machine

/-! ### The address map (R26) -/

/-- The regions of the address map. -/
inductive Region where
  | rom | xip | sram | queue | pool | core | front | capture | store | unmapped
  deriving DecidableEq, Repr

/-- A page of 4 KiB belongs to a unit of the table "Core-die units". An address in no unit is unmapped
(notes/assumptions/4.md). -/
def corePage (p : Nat) : Bool :=
  (0x40000 ≤ p && p ≤ 0x40008) || (0x4000A ≤ p && p ≤ 0x4000C) || (0x40010 ≤ p && p ≤ 0x40017) ||
  (0x40020 ≤ p && p ≤ 0x40030) || (0x40034 ≤ p && p ≤ 0x40038) || p == 0x4003C || p == 0x40040 || p == 0x40044 ||
  p == 0x40048 || (0x4004C ≤ p && p ≤ 0x40055)

/-- Where an address lies. -/
def region (a : Nat) : Region :=
  if a < 0x10000 then .rom
  else if 0x10000000 ≤ a && a < 0x10800000 then .xip
  else if 0x20000000 ≤ a && a < 0x20060000 then .sram
  else if 0x21000000 ≤ a && a < 0x21080000 then .queue
  else if 0x22000000 ≤ a && a < 0x22080000 then .pool
  else if corePage (a / 0x1000) then .core
  else if 0x50000000 ≤ a && a < 0x5000A000 then .front
  else if 0x50010000 ≤ a && a < 0x50020000 then .capture
  else if 0x58000000 ≤ a && a < 0x58001000 then .store
  else .unmapped

/-- The far die an address belongs to (R26). -/
def farDie (a : Nat) : Option Die :=
  match region a with
  | .front => some .front
  | .capture => some .front
  | .store => some .store
  | _ => none

/-- The source id of an absent unit or bank at an address, none where it is present (R6 to R8, R530, R668). -/
def State.absentAt (s : State) (a : Nat) : Option Nat :=
  match region a with
  | .xip => if s.variant == .keeper && 0x10400000 ≤ a then some 0 else none
  | .sram => if s.present (16 + (a - 0x20000000) / 0x10000) then none else some 0
  | .queue => if s.present ((a - 0x21000000) / 0x10000) then none else some 0
  | .pool => if s.present (8 + (a - 0x22000000) / 0x10000) then none else some 0
  | .core =>
    if a / 0x1000 == 0x40040 && !s.present 24 then some 64
    else if a / 0x1000 == 0x40044 && !s.present 27 then some 68
    else if 0x40048100 ≤ a && a < 0x40048180 && !s.present 25 then some 72
    else none
  | _ => none

/-- An address that the locked debug master still reaches: SECMB, DBG, SYSCTL_ID and SYSCTL_UID (R477). -/
def debugReach (a : Nat) : Bool :=
  a / 0x1000 == 0x4003C || a / 0x1000 == 0x40055 || a / 4 == 0x10000000 || a / 4 == 0x10000002 || a / 4 == 0x10000003

/-! ### Registers that are computed when read -/

/-- A serial unit or the ADC, by page, that section 0x01 leaves disabled: its registers read 0 and ignore writes (R598). -/
def State.serialOff (s : State) (page : Nat) : Bool :=
  match page with
  | 0x4004C => !s.spiOn 0 | 0x4004D => !s.spiOn 1
  | 0x4004E => !s.i2cOn 0 | 0x4004F => !s.i2cOn 1
  | 0x40050 => !s.uartOn 0 | 0x40051 => !s.uartOn 1
  | 0x40052 => !s.adcOn
  | _ => false

/-- What SECMB_LIFE reads. -/
def State.secmbLife (s : State) : Word :=
  word (s.cust.life + b2n s.debugOpen * 4 + b2n s.cust.zeroised * 8 + b2n s.cust.trngDead * 16)

/-- Words of the QE page: cells, tags and the completion rings (12). -/
def State.qeRead (s : State) (a : Nat) : Word :=
  if a = Reg.QE_CELLS then s.qeCells
  else if a = Reg.QE_PORT_TAGS then s.portTags
  else if 0x40028000 ≤ a && a < 0x40028800 then
    s.ringWord ((a - 0x40028000) / 0x200) ((a - 0x40028000) % 0x200 / 8) (a % 8 == 4)
  else s.rd a

/-- Words of the LINK pages (11): the slot, the synchronisation, the neighbour count, the air-operation table, the
loading-table count. -/
def State.linkRead (s : State) (a : Nat) : Word :=
  if a = Reg.LINK_SLOT_LO then word s.slotNow
  else if a = Reg.LINK_SLOT_HI then word (s.slotNow / 2 ^ 32 % 2 ^ 12)
  else if a = Reg.LINK_STATUS then setFld (s.rd a) 0 1 (b2n s.linkSync)
  else if a = Reg.LINK_NBR_RESULT then setFld (s.rd a) 16 11 s.link.nbr.length
  else if a = Reg.LTS_COUNT then s.ltsCount
  else if 0x40035000 ≤ a && a < 0x40035200 then airOpWord (s.airOp ((a - 0x40035000) / 16)) (a % 16 / 4)
  else s.rd a

/-- Words of the fault collector: the trace reads zero but for the debug master (R542); RECALL_BUSY. -/
def State.faultRead (s : State) (m : Master) (a : Nat) : Word :=
  if a = Reg.FAULT_TRACE_STAT then
    if m == .debug then setFld (s.rd a) 0 5 s.fault.trace.length else 0
  else if a = Reg.FAULT_TRACE_TIME then
    match m, s.fault.trace with
    | .debug, e :: _ => e.ticks
    | _, _ => 0
  else if a = Reg.FAULT_TRACE_SLIP then (s.readTraceSlip m).1
  else if a = Reg.FAULT_STATUS then setFld (s.rd a) 1 1 (b2n (s.fault.recalled.any (fun p => !s.resIdle p.1)))
  else s.rd a

/-- Words of CHRON, the action table and the watchdog. -/
def State.timeRead (s : State) (a : Nat) : Word :=
  if a = Reg.CHRON_NOW_LO then word s.chron.now
  else if a = Reg.CHRON_NOW_HI then word (s.chron.now / 2 ^ 32)
  else if a = Reg.CHRON_GUARD then word s.guardNow
  else if a = Reg.ACT_ARMED then word s.armed.length
  else if a = Reg.ACT_FREE_IDX then s.freeIdx
  else if 0x4000A000 ≤ a && a < 0x4000C000 then s.entryWord ((a - 0x4000A000) / 16) (a % 16 / 4)
  else if a = Reg.WDOG_WARN then s.fault.heldWarn.getD (s.rd a)
  else if a = Reg.WDOG_LIMIT then s.fault.heldLimit.getD (s.rd a)
  else s.rd a

/-- Words of the SYSCTL, PWR and INTC pages. -/
def State.sysRead (s : State) (a : Nat) : Word :=
  if a = Reg.ID then s.sysctlId
  else if a = Reg.PRESENT then s.variant.present
  else if a = Reg.UID_LO then word Config.uid.toNat
  else if a = Reg.UID_HI then word (Config.uid.toNat / 2 ^ 32)
  else if a = Reg.PWR_BLOCK then s.pwrBlock
  else if a = Reg.SPINE_F_STAT then setFld (s.rd a) 8 5 (s.spineOut .front)
  else if a = Reg.SPINE_S_STAT then setFld (s.rd a) 8 5 (s.spineOut .store)
  else if a = Reg.INTC_CLAIM || a = Reg.INTC_TOP then s.intTop
  else if Reg.INTC_PSET 0 ≤ a && a < Reg.INTC_PSET 8 then s.rd (a - 0x20)
  else s.rd a

/-- Words of the mailbox's data buffers (R457), the HIF-1 buffers and the other pages of the core die. -/
def State.unitRead (s : State) (a : Nat) : Word :=
  let bytes := word (leNat (s.bytesAt a 4))
  if a = Reg.SECMB_LIFE then s.secmbLife
  else if 0x4003C200 ≤ a && a < 0x4003D000 then
    if (s.mb ((a - 0x4003C200) / 0x380)).phase == .free then bytes else 0
  else if 0x40048400 ≤ a && a < 0x40048C00 then bytes
  else if a = Reg.SPI_STATUS 0 then s.spiStatus 0
  else if a = Reg.SPI_STATUS 1 then s.spiStatus 1
  else if a = Reg.UART_STATUS 0 then s.uartStatus 0
  else if a = Reg.UART_STATUS 1 then s.uartStatus 1
  else s.rd a

/-- The value a core-die register reads, before what the read does. -/
def State.coreValue (s : State) (m : Master) (a : Nat) : Word :=
  match a / 0x1000 with
  | 0x40000 | 0x40002 | 0x40005 => s.sysRead a
  | 0x40004 => s.faultRead m a
  | 0x40008 | 0x4000A | 0x4000B | 0x4000C => s.timeRead a
  | 0x40020 | 0x40021 | 0x40022 | 0x40023 | 0x40024 | 0x40025 | 0x40026 | 0x40027 | 0x40028 => s.qeRead a
  | 0x40034 | 0x40035 | 0x40037 => s.linkRead a
  | _ => s.unitRead a

/-! ### What a read does -/

/-- A read of an RC field clears it, but for the debug master (R12, R13). -/
def State.clearRc (s : State) (m : Master) (a : Nat) : State :=
  match rowOf a with
  | some r => if m == .debug || r.rc = 0 then s else s.wr a (s.rd a &&& ~~~ word r.rc)
  | none => s

/-- A read of a core-die register that acts beyond R12: INTC_CLAIM, FAULT_TRACE_SLIP, the serial data registers, the
VALID bit of an ADC result, and PANEL_STATUS with the level of the BUSY pad. -/
def State.coreRead (s : State) (m : Master) (a : Nat) : Word × State :=
  if s.serialOff (a / 0x1000) then (0, s)
  else if a = Reg.INTC_CLAIM then s.readClaim m
  else if a = Reg.FAULT_TRACE_SLIP then s.readTraceSlip m
  else if a = Reg.SPI_DATA 0 || a = Reg.SPI_DATA 1 then
    let r := s.spiPop (a / 0x1000 - 0x4004C)
    (word r.1, r.2)
  else if a = Reg.I2C_DATA 0 || a = Reg.I2C_DATA 1 then
    let r := s.i2cPop (a / 0x1000 - 0x4004E)
    (word r.1, r.2)
  else if a = Reg.UART_DATA 0 || a = Reg.UART_DATA 1 then
    let r := s.uartPop (a / 0x1000 - 0x40050)
    (word r.1, r.2)
  else if Reg.ADC_RES 0 ≤ a && a < Reg.ADC_RES 8 then (s.rd a, s.setB a 31 false)
  else if a = Reg.PANEL_STATUS then
    let f := s.takeFree
    (setFld (s.rd a) 8 1 (b2n (f.2.panelBusy f.1)), f.2)
  else (s.coreValue m a, s.clearRc m a)

/-- A read of a far-die register. -/
def State.farRead (s : State) (m : Master) (a : Nat) : Word × State :=
  if a = Reg.RADIO_FSM then (setFld (s.rd a) 5 1 (b2n s.radioOwned), s)
  else if a = Reg.STORD_INFO then (word s.sectorCount, s)
  else if 0x50010000 ≤ a then
    if a < 0x58000000 then (word (leNat (s.bytesAt a 4)), s) else (s.rd a, s)
  else (s.rd a, s.clearRc m a)

/-- A word of queue memory; a bank that Nap has not kept and the queue engine has not restored has no stated contents, nor
has any bank between a cold reset and boot step 8 (R64, R387). -/
def State.queueRead (s : State) (a : Nat) : Word × State :=
  let q := (a - 0x21000000) / 8
  if s.qe.lost || s.pwr.dark.contains (q / 8192) then
    let f := s.takeFree
    (word f.1, f.2)
  else (s.qdWord q (a % 8 == 4), s)

/-- A word of the buffer pool: link words are the queue engine's own (R363); a free value where a sleep or a cold reset has
left them undefined (R64, R387). -/
def State.poolRead (s : State) (a : Nat) : Word × State :=
  if a % 128 < 4 then
    if s.qe.lost || s.pwr.dark.contains (8 + (a - 0x22000000) / 0x10000) then
      let f := s.takeFree
      (word f.1, f.2)
    else (cellWord (s.linkWord ((a - 0x22000000) / 128)), s)
  else (word (leNat (s.bytesAt a 4)), s)

end Sys2Proof.Machine
end

