-- ==== Sys2Proof/Machine/Receive.lean ====
section
/-! DEFINITION. Reception: the end of a frame, its checks, delivery, acknowledgements and windows (09, 11), and what the
sequence does with beacons and MAC commands (11). -/

namespace Sys2Proof.Machine

/-! ### Duplicates, replays and security -/

/-- R334: the outcome of a SEQ for an entry, none for a duplicate. Bit i of the map stands for H - i. -/
def seqWindow (n : Nbr) (seq : Nat) : Option Nbr :=
  let d := signed 16 (seq + 65536 - n.seqH)
  if 0 < d then
    some { n with seqH := seq, seqMap := (if d < 64 then n.seqMap * 2 ^ d.toNat else 0) % 2 ^ 64 ||| 1 }
  else if -64 < d then
    if n.seqMap.testBit (-d).toNat then none else some { n with seqMap := n.seqMap ||| 2 ^ (-d).toNat }
  else none

/-- The counter of a key index in an entry. -/
def Nbr.fcnt (n : Nbr) (k : Nat) : Nat := if k = 0 then n.fcnt0 else n.fcnt1

/-- An entry with the counter of a key index replaced. -/
def Nbr.withFcnt (n : Nbr) (k v : Nat) : Nbr := if k = 0 then { n with fcnt0 := v } else { n with fcnt1 := v }

/-- What the checks of a frame give: the bytes to deliver and the state once it is accepted; or the state of a drop,
and whether an acknowledgement that it asks for is still sent (R336). -/
inductive Checked where
  | accept (bytes : List Byte) (s : State)
  | drop (ack : Bool) (s : State)

/-- The nonce of a frame (R275). -/
def State.nonceOf (s : State) (f : MacFrame) : List Byte :=
  leBytes 2 f.src ++ leBytes 4 f.fcnt ++ leBytes 2 s.branch ++ [0, 0, 0, 0, 0]

/-- A replay: counted, event 74, its SRC recorded (R335). -/
def State.replayDrop (s : State) (src : Nat) : State :=
  ((s.satAdd Reg.LINK_COUNT_RX 8 8).wrF Reg.LINK_LAST 16 16 src).event 74

/-- The checks of a secured frame: first that its key index is in use (R337) and its MIC (R335, R473, R474), then that its
SRC has an entry (R337), then the counter. -/
def State.checkSecured (s : State) (f : MacFrame) : Checked :=
  let bad : Checked := .drop false (s.satAdd Reg.LINK_COUNT_RX 16 8)
  let k := f.kidx
  if 1 < k || !s.bit Reg.LINK_KEYMAP (16 + k) then bad
  else match s.linkKey (s.rdF Reg.LINK_KEYMAP (8 * k) 6) false with
    | none => bad
    | some key =>
      match ccmDec key (s.nonceOf f) f.hdr f.body f.mic with
      | none => bad
      | some plain =>
        match s.nbrAt f.src with
        | none => .drop true (s.satAdd Reg.LINK_COUNT_RX 8 8)
        | some (_, n) =>
          if f.fcnt ≤ n.fcnt k then .drop true (s.replayDrop f.src)
          else .accept (f.hdr ++ plain ++ f.mic) (s.updNbr f.src (fun e => e.withFcnt k f.fcnt))

/-- The checks of an unsecured frame (R334, R338). -/
def State.checkPlain (s : State) (f : MacFrame) (bytes : List Byte) : Checked :=
  match s.nbrAt f.src with
  | none => .accept bytes s
  | some (_, n) =>
    match seqWindow n f.seq with
    | some e => .accept bytes (s.updNbr f.src (fun _ => e))
    | none => .drop true ((s.satAdd Reg.LINK_COUNT_RX 0 8).event 75)

/-! ### Delivery -/

/-- NO_BUF: dropped without an acknowledgement, counted (R329). -/
def State.noBuf (s : State) : State := s.satAdd Reg.LINK_COUNT_RX 24 8

/-- A delivery on the LINK port must wait: for a bank not yet restored (R387), or for a tag. -/
def State.putWaits (s : State) (q len : Nat) : Bool :=
  s.qeOn && (s.allocWaits len || s.qeWaits 1 { cmd := 1, queue := q })

/-- Bytes are put into a queue of the LINK port: cells, their bytes, ENQUEUE; none without a free cell or when the
queue does not take the frame (R329). A secured frame taken for relaying is one that its originator has secured (R328). -/
def State.enqueueBytes (s : State) (q : Nat) (bytes : List Byte) (sec : Bool) : Option State :=
  let a := s.alloc bytes.length
  if !s.qeOn || a.1 != 0 then none
  else
    let r := (a.2.2.fillCells (a.2.2.frame a.2.1) bytes).qeNow 1 { cmd := 1, queue := q, arg := a.2.1 }
    if r.status != 0 then none
    else some (if sec then { r.s with link := { r.s.link with secured := r.s.link.secured ++ [a.2.1] } } else r.s)

/-- A delivery that had to wait is made: event 66, or NO_BUF; its acknowledgement has been sent
(notes/assumptions/48.md). -/
def State.putLate (s : State) (q : Nat) (bytes : List Byte) (sec : Bool) : State :=
  match s.enqueueBytes q bytes sec with
  | some u => u.event 66
  | none => s.noBuf

/-- ACK_SEND (R318, R321): the acknowledgement of a frame, charged, under the table of its destination. -/
def State.sendAck (s : State) (chan seq dst : Nat) : State :=
  let bytes := macHeader 2 seq dst s.ownAddr
  let lt := s.txTable dst
  let c := s.chargeFrame chan lt.2 bytes.length
  if c.1 then c.2.sendFrame chan bytes (ownHeader bytes lt.1) lt.2 else c.2

/-- The node that sent the transmission: the parent in an announced call, SRC otherwise. -/
def State.txNode (s : State) (o : RunOp) (f : MacFrame) : Nat :=
  match o.ref, s.link.heard with
  | .hearCall, some h => h.src
  | _, _ => f.src

/-- A frame that the sequence consumes: an acknowledgement, or, addressed to this node, an ASSIGN, LT_SET or LT_USE
(R329). -/
def consumed (mine : Bool) (f : MacFrame) (plain : List Byte) : Bool :=
  f.type == 2 || (mine && f.type == 3 && [1, 2, 3].contains (field plain f.hdr.length 1))

/-- FRAME_DELIVERY (R329, R334 to R338): a frame received OK. One for this node or broadcast is checked and delivered
to RXQ; one for a CHILD or ROUTE entry goes to that entry's queue, a secured one unchecked; any other is left. A beacon is
checked by BEACON_ACCEPTED. -/
def State.deliver (s : State) (o : RunOp) (bytes : List Byte) : State :=
  let f := parseMac bytes
  let mine := f.dst == s.ownAddr || f.dst == 0xFFFF
  let onward := match s.nbrAt f.dst with
    | some (_, n) => if n.flags.testBit 2 || n.flags.testBit 3 then some n.queue else none
    | none => none
  let ack (t : State) : State := if f.ackReq then t.sendAck o.chan f.seq (s.txNode o f) else t
  let put (q : Nat) (c : Checked) : State := match c with
    | .drop a t => if a then ack t else t
    | .accept plain t =>
      let sec := f.sec && !mine
      if consumed mine f plain then ack t
      else if t.putWaits q plain.length then ack (t.holdCmd (.linkPut q plain sec))
      else match t.enqueueBytes q plain sec with
        | some u => ack (u.event 66)
        | none => s.noBuf
  if f.type == 0 then s
  else if mine then put (s.rdF Reg.LINK_RXQ 0 16) (if f.sec then s.checkSecured f else s.checkPlain f bytes)
  else match onward with
    | some q => put q (if f.sec then .accept bytes s else s.checkPlain f bytes)
    | none => s

/-- The header of a relayed copy: HOP + 1, the check of R251 anew, every other bit unchanged (R352). -/
def relayHeader (header : Nat) : Nat :=
  let h := header % 2 ^ 28 + (hdrFld header 28 3 + 1) % 8 * 2 ^ 28 + hdrFld header 31 9 * 2 ^ 31
  h + headerCrc h * 2 ^ 40

/-- A chorus frame is put up for relaying (R352): FLAGS bit 2, HOP below FLOOD_DEPTH. -/
def State.planRelay (s : State) (header ref : Nat) (psdu : List Byte) : State :=
  let hop := hdrFld header 28 3
  let depth := match s.link.heard with | some h => h.floodDepth | none => 0
  if s.linkFlag 2 && hop < depth then
    let h := relayHeader header
    let r : RelayFrame :=
      { header := h, psdu := psdu, openAt := instant (ref + 2 ^ 58 - 9216 + s.slotTicks * 1024) }
    { s with link := { s.link with relays := s.link.relays ++ [r] } }
  else s

/-- A frame reaches the link controller: a chorus frame already relayed goes nowhere (R353). -/
def State.linkReceive (s : State) (o : RunOp) (header ref : Nat) (psdu bytes : List Byte) : State :=
  let f := parseMac bytes
  if f.chorus && s.link.recent.contains (f.src, f.seq) then s
  else (if f.chorus then s.planRelay header ref psdu else s).deliver o bytes

/-! ### The end of a frame -/

/-- The result of a frame (R271 to R273, R278): 0 OK, 4 BAD_FRAME, 5 PAY_CRC; its MAC bytes and its LENGTH. -/
def payloadResult (gen2 : Bool) (header : Nat) (psdu : List Byte) : Nat × List Byte × Nat :=
  if gen2 then
    let len := hdrFld header 16 11
    let bytes := psdu.take (psdu.length - 4)
    let f := parseMac bytes
    if len < 12 then (4, bytes, len)
    else if psdu.length != len || crc32 bytes != field psdu (psdu.length - 4) 4 then (5, bytes, len)
    else if (f.sec && len < 25) || f.type != hdrFld header 2 4 || b2n f.chorus != hdrFld header 27 1 then (4, bytes, len)
    else (0, bytes, len)
  else
    let bytes := psdu.take (psdu.length - 2)
    if crcX25 (byte bytes.length :: bytes) != field psdu (psdu.length - 2) 2 then (5, bytes, bytes.length)
    else if (parseMac bytes).chorus then (4, bytes, bytes.length)
    else (0, bytes, bytes.length)

/-- The measurements of a frame: offset, power, header SNR, per-carrier SNR, and the peer's RSSI. -/
def State.noteMeas (s : State) (gen2 : Bool) (m : RxMeas) : State :=
  let s1 := (s.wrF Reg.MODEM_CFO 0 24 (unsigned 24 m.cfo)).wr Reg.RADIO_RSSI (word (unsigned 9 m.rssi))
  if gen2 then
    forRange 96 (s1.wrF Reg.MODEM_QUAL 8 8 m.hdrSnr) (fun t d => match m.snr[d]? with
      | some v => t.wrF (Reg.MODEM_SNR (d / 4)) (8 * (d % 4)) 8 v.val
      | none => t)
  else s1

/-- The running operation receives. -/
def State.rxRun (s : State) : Option RunOp :=
  match s.link.run with
  | some o => if s.isRx o.ref then some o else none
  | none => none

/-- The running operation is a SCAN. -/
def State.isScan (s : State) (o : RunOp) : Bool :=
  match o.ref with
  | .table k => (s.airOp k).kind == 3
  | _ => false

/-- The receive window closes with the frame (R320); a SCAN listens on. -/
def State.rxEnd (s : State) (result : Nat) : State :=
  match s.rxRun with
  | some o => if s.isScan o then s else s.finish o result
  | none => s

/-- The SRC that a table entry expects (R359). -/
def State.expectsSrc (s : State) (o : RunOp) (src : Nat) : Bool :=
  match o.ref with
  | .table k => (s.airOp k).addr == 0xFFFF || (s.airOp k).addr == src
  | _ => true

/-- A reception is done: its operation ends, or lasts to the end of the acknowledgement that it owes (R354). -/
def State.endRx (s : State) (o : RunOp) : State :=
  if s.front.tx.isSome then s.setRun { o with phase := .onAir, ackReq := false } else s.finish o 1

/-- PAYLOAD_END (R272, R273, R278, R280, R290, R329): event 101, the result, the counts, the figures, and for a frame
received OK in a receive window its delivery. -/
def execPayloadEnd (psdu : List Byte) (meas : RxMeas) (s : State) : Out :=
  let gen2 := s.front.gen2
  if s.fsm = 3 && (if gen2 then s.front.stage == 3 else s.front.stage == 2) then
    let header := s.front.header
    let r := payloadResult gen2 header psdu
    let f := parseMac r.2.1
    let chorus := if gen2 then hdrFld header 27 1 == 1 else f.chorus
    let s1 := (((s.event 101).noteMeas gen2 meas).frontIdle).modemLast gen2 chorus (r.1 == 0 && f.sec) r.1 r.2.2
    if r.1 = 4 then
      .next (((if gen2 then s1 else s1.eyeUpdate meas.eye).satAdd Reg.MODEM_COUNT_ERR 24 4).rxEnd 2)
    else if r.1 = 5 then
      let s2 := s1.satAdd Reg.MODEM_COUNT_ERR 8 8
      if gen2 && chorus then
        .next ((((s2.satAdd Reg.MODEM_COUNT_CHORUS 0 16).satAdd Reg.LINK_COUNT_MESH 0 8).event 76).rxEnd 2)
      else .next (s2.rxEnd 2)
    else
      let s2 := s1.satAdd Reg.MODEM_COUNT_CHORUS 16 16
      let s3 := if gen2 then s2.iqDcUpdate meas else s2.eyeUpdate meas.eye
      let s4 := (s3.updNbr f.src (fun n => { n with rssi := unsigned 8 (meas.rssi / 2) })).noteParent
      match s4.rxRun with
      | none => .next s4
      | some o =>
        if s4.isScan o then .next s4
        else if s4.expectsSrc o f.src then .next ((s4.linkReceive o header s.front.ref psdu r.2.1).endRx o)
        else .next (s4.finish o 2)
  else .next s

/-- RECEIVE_WINDOW_CLOSE (R320, R361): no stage 1 by the end of the window; a table entry ends NO_FRAME, a SCAN that has
accepted a beacon DONE. -/
def execReceiveWindowClose (s : State) : Out :=
  match s.rxRun with
  | none => .next s
  | some o =>
    if s.front.stage = 0 && s.reached (o.openAt + s.windowTail o) then
      .next (s.finish o (if o.phase == .ready then 1 else 2))
    else .next s

/-! ### Beacons and MAC commands received -/

/-- What a beacon body announces (R316). -/
def beaconInfo (src period : Nat) (b : List Byte) : BeaconInfo :=
  { src := src, period := period, joinOpen := (field b 11 1).testBit 0,
    calls := (List.range (min 64 (field b 12 1))).map (fun i => (field b (16 + 4 * i) 2, field b (18 + 4 * i) 2)),
    floodN := field b 13 1, floodPos := field b 14 2 % 4096, floodDepth := field b 14 2 / 4096 % 8 }

/-- An entry for a beacon's sender, heard in a SCAN (R342). -/
def State.scanEntry (s : State) (src : Nat) (b : List Byte) : State :=
  let n : Nbr := { addr := src, flags := 3, queue := src, depth := field b 10 1,
                   rssi := unsigned 8 (signed 9 (s.rdF Reg.RADIO_RSSI 0 9) / 2), bcnPos := s.position s.slotNow }
  match s.nbrAt src with
  | some (_, e) => s.updNbr src (fun _ => { e with flags := e.flags ||| 2, depth := n.depth, rssi := n.rssi, bcnPos := n.bcnPos })
  | none => match s.nbrPut n with
    | some t => t
    | none => s.nbrFull

/-- A SCAN has accepted a beacon. -/
def State.scanHeard (s : State) : State :=
  match s.link.run with
  | some o => s.setRun { o with phase := .ready }
  | none => s

/-- The join sequence hears its parent: a backoff is drawn, or one more period of it has passed (11, "Joining"). -/
def State.joinHear (s : State) (i : BeaconInfo) : State :=
  if s.bit Reg.LINK_STATUS 2 || !i.joinOpen || s.link.join.waiting.isSome then s
  else match s.link.join.backoff with
    | none => s.drawBackoff
    | some n => { s with link := { s.link with join := { s.link.join with backoff := some (n - 1) } } }

/-- A beacon that has passed its checks, with its plain body `b` and its timing reference at `ref` (R341, R342, R344,
R345, R347): the sender's entry takes its DEPTH; in a SCAN the sender is added with PARENT; a beacon of the branch from the
sync parent is captured, event 71, SYNC follows one that is applied, and its announcements are taken. -/
def State.hearBeacon (s : State) (src ref : Nat) (b : List Byte) : State :=
  let branchOk := field b 8 2 == s.branch
  let scan := match s.rxRun with
    | some o => s.isScan o
    | none => false
  let s1 := (s.updNbr src (fun n => { n with depth := field b 10 1 })).noteParent
  let s2 := if scan && (branchOk || s.branch == 0xFFFF) then ((s1.scanEntry src b).scanHeard).noteParent else s1
  let fromParent := match s2.parent with | some n => n.addr == src | none => false
  if branchOk && fromParent && !s.anchorRuns then
    let info := beaconInfo src (s.periodOf s.slotNow) b
    let tx := field b 0 8 % 2 ^ 58
    let applied := s2.beaconApplies tx (instant ref)
    let s3 := (s2.captureBeacon tx (instant ref)).event 71
    let s4 := { s3 with link := { s3.link with heard := some info } }
    (if applied then s4.setB Reg.LINK_STATUS 0 true else s4).joinHear info
  else s2

/-- BEACON_ACCEPTED (R335, R342, R344, R347): a beacon received, its MAC bytes without the check sequence, its timing
reference at `ref`. It is checked as any frame (R334, R335), and heard where it passes. -/
def execBeaconAccepted (psdu : List Byte) (ref : Nat) (s : State) : Out :=
  let f := parseMac psdu
  if f.type != 0 then .next s
  else match (if f.sec then s.checkSecured f else s.checkPlain f psdu) with
    | .drop _ t => .next t
    | .accept plain t => .next (t.hearBeacon f.src ref (plain.drop f.hdr.length))

/-- MAC_ASSIGN (R319, R342): the ASSIGN whose UID is this part's sets LINK_ADDR, LINK_RANGE and JOINED, and its sender
is the parent. -/
def execMacAssign (src : Fin 65536) (body : List Byte) (s : State) : Out :=
  if field body 0 1 = 1 && (body.drop 1).take 8 == uidBytes then
    let s1 := (s.wr Reg.LINK_ADDR (word (field body 9 2 + field body 11 2 * 2 ^ 16))).wr Reg.LINK_RANGE
      (word (field body 13 2 % 4096 + field body 15 2 % 4096 * 2 ^ 16))
    let s2 := { s1.setB Reg.LINK_STATUS 2 true with link := { s1.link with join := {} } }
    match s2.nbrAt src.val with
    | some (_, e) => .next ((s2.updNbr src.val (fun _ => { e with flags := e.flags ||| 2 })).noteParent)
    | none => match s2.nbrPut { addr := src.val, flags := 3, queue := src.val } with
      | some t => .next t.noteParent
      | none => .next s2.nbrFull
  else .next s

/-- MAC_LT_SET (R319): a WRITE into the loading-table store. -/
def execMacLtSet (_ : Fin 65536) (body : List Byte) (s : State) : Out :=
  if field body 0 1 = 2 then
    let id := field body 1 2
    .next (s.ltsPut (id % 1024) { rate := id.testBit 15, data := field body 3 36 }).2
  else .next s

/-- MAC_LT_USE (R319): LT_TX of the sender's entry. -/
def execMacLtUse (src : Fin 65536) (body : List Byte) (s : State) : Out :=
  if field body 0 1 = 3 then .next (s.updNbr src.val (fun n => { n with lt := field body 1 2 % 1024 })) else .next s

end Sys2Proof.Machine
end

