-- ==== Sys2Proof/Machine/RegWrite.lean ====
section
/-! DEFINITION. What a write of each register does: the plain access kinds (R11, R12), and the registers whose write is a
command of their unit. -/

namespace Sys2Proof.Machine

/-- The state after a meaning that goes on. -/
def after (o : Out) (s : State) : State :=
  match o with
  | .next t => t
  | _ => s

/-- A write by the access kinds alone: RW bits take the value, written ones clear W1C bits, every other bit stays (R11,
R12). -/
def State.writePlain (s : State) (a : Nat) (v : Word) : State :=
  match rowOf a with
  | some r => s.wr a ((s.rd a &&& ~~~ word r.rw &&& ~~~ (v &&& word r.w1c)) ||| (v &&& word r.rw))
  | none => s

/-! ### Spine control -/

/-- The side-band reset of the front die begins (R31 t0): transactions end, the air operation in progress is abandoned and
missed, STATE reads RESET, and the front die is held in reset. -/
def State.sbrFront (s : State) : State :=
  let s1 := ((((s.missRun).endSpine .front).setB Reg.SPINE_CTRL 0 true).setSpine .front 1).frontReset
  s1.setSpineSt .front { s1.spineF with resetReq := true }

/-- RETRAIN: only while STATE is UP (R669). -/
def State.retrain (s : State) (die : Die) : State :=
  if s.spineState die == 3 then (s.setB Reg.SPINE_CTRL (2 + spineNo die) true).wrF (spineStat die) 0 3 2 else s

/-- A write of SYSCTL_SPINE_CTRL: the half-rate bits, then the side-band resets, then the retrainings written 1, so that a
retraining written with a reset of its link is ignored. DESIGN CHOICE: the manual orders them not
(notes/assumptions/5.md), and a side-band reset in progress is not started anew. -/
def State.writeSpineCtrl (s : State) (v : Word) : State :=
  let s1 := s.wrF Reg.SPINE_CTRL 4 2 (fld v 4 2)
  let s2 := if bitOf v 0 && !s.bit Reg.SPINE_CTRL 0 then s1.sbrFront else s1
  let s3 := if bitOf v 1 && !s.bit Reg.SPINE_CTRL 1 then s2.sbrStore else s2
  let s4 := if bitOf v 2 then s3.retrain .front else s3
  if bitOf v 3 then s4.retrain .store else s4

/-! ### Pages of the core die -/

/-- SYSCTL and RSTC. -/
def State.writeSys (s : State) (a : Nat) (v : Word) : State :=
  if a = Reg.SPINE_CTRL then s.writeSpineCtrl v
  else if a = Reg.BUS_INFO then
    if bitOf v 31 then (s.setB a 31 false).wrF a 8 8 0 else s
  else if a = Reg.RSTC_SWRST then after (execSoftwareReset v s) s
  else if a = Reg.RSTC_BOOT_OK then after (execBootOk v s) s
  else if a = Reg.RSTC_ERRATA_CLR then s.errataClr v
  else s.writePlain a v

/-- The bits of PWR_RETAIN that the variant's banks give. -/
def State.retainMask (s : State) : Word :=
  word (s.variant.present.toNat / 2 ^ 16 % 2 ^ 6 + s.variant.present.toNat % 2 ^ 16 * 2 ^ 8)

/-- PWR and CLK. -/
def State.writePwr (s : State) (a : Nat) (v : Word) : State :=
  if a = Reg.PWR_RETAIN then s.wr a ((v &&& s.retainMask) ||| 0x101)
  else if a = Reg.PWR_ALARM_HI then after (execPwrAlarmHiWrite v s) s
  else if a = Reg.CLK_CTRL then after (execClkCtrlWrite v s) s
  else s.writePlain a v

/-- A write of INTC_PENDj: ones clear their bits, but the bit of a source that pulses in the running cycle stays 1 and its
pulse counts no overrun (R216). -/
def State.writePend (s : State) (j : Nat) (v : Word) : State :=
  let hit := s.fab.pulses.filter (fun n => n / 32 == j && bitOf v (n % 32))
  let s1 := hit.foldl State.undoOverrun s
  (s1.wr (Reg.INTC_PEND j) (hit.foldl (fun w n => setFld w (n % 32) 1 1) (s1.rd (Reg.INTC_PEND j) &&& ~~~ v))).endDoze

/-- FAULT and INTC. -/
def State.writeFault (s : State) (m : Master) (a : Nat) (v : Word) : State :=
  if Reg.FAULT_STICKY 0 ≤ a && a < Reg.FAULT_STICKY 4 then after (execStickyClear (Fin.ofNat 4 ((a - Reg.FAULT_STICKY 0) / 4)) v s) s
  else if a = Reg.FAULT_INJECT then after (execFaultInject v s) s
  else if a = Reg.FAULT_TRACE_STAT then after (execTraceStatWrite m s) s
  else if Reg.INTC_PEND 0 ≤ a && a < Reg.INTC_PEND 8 then s.writePend ((a - Reg.INTC_PEND 0) / 4) v
  else if Reg.INTC_PSET 0 ≤ a && a < Reg.INTC_PSET 8 then (s.wr (a - 0x20) (s.rd (a - 0x20) ||| v)).endDoze
  else (s.writePlain a v).endDoze

/-- The event fabric. -/
def State.writeFab (s : State) (a : Nat) (v : Word) : State :=
  if a = Reg.FAB_FIRE then after (execFabFire v s) s
  else if a = Reg.FAB_SWEV then after (execFabSwev v s) s
  else if 0x40006400 ≤ a && a < 0x40006C00 then
    let c := Fin.ofNat 128 ((a - 0x40006400) / 16)
    match a % 16 with
    | 0 => after (execFabCfgWrite c v s) s
    | 4 => after (execFabTaskWrite c false v s) s
    | 8 => after (execFabTaskWrite c true v s) s
    | _ => s
  else s.writePlain a v

/-- CHRON_STEP_CTRL: CANCEL, NOW and ARM written 1, in that order (notes/assumptions/9.md). -/
def State.writeStepCtrl (s : State) (v : Word) : State :=
  let s1 := if bitOf v 2 then s.setB Reg.CHRON_STEP_CTRL 8 false else s
  let s2 := if bitOf v 1 then s1.softStep else s1
  if bitOf v 0 then after (execChronStepArm s2) s2 else s2

/-- CHRON, the action table and the watchdog. -/
def State.writeTime (s : State) (m : Master) (a : Nat) (v : Word) : State :=
  if a = Reg.CHRON_RATE then after (execChronRateWrite v s) s
  else if Reg.CHRON_STEP_LO ≤ a && a ≤ Reg.CHRON_STEP_AT_HI then if s.stepPending then s else s.writePlain a v
  else if a = Reg.CHRON_STEP_CTRL then s.writeStepCtrl v
  else if a = Reg.CHRON_DISC then
    let s1 := s.writePlain a v
    if bitOf v 4 then after (execChronResync s1) s1 else s1
  else if a = Reg.ACT_ARM then after (execActArm m v s) s
  else if a = Reg.ACT_CANCEL then after (execActCancel m v s) s
  else if a = Reg.ACT_RELEASE then after (execActRelease m v s) s
  else if a = Reg.ACT_TMPL then after (execActTmpl m v s) s
  else if 0x4000A000 ≤ a && a < 0x4000C000 then
    after (execActionEntryWrite m (Fin.ofNat 512 ((a - 0x4000A000) / 16)) (Fin.ofNat 4 (a % 16 / 4)) v s) s
  else if a = Reg.WDOG_CTRL then
    let s1 := if s.bit a 1 then s else s.setB a 2 (bitOf v 2)
    if bitOf v 1 then s1.setB a 1 true else s1
  else if a = Reg.WDOG_WARN then after (execWdogLimitWrite false v s) s
  else if a = Reg.WDOG_LIMIT then after (execWdogLimitWrite true v s) s
  else if a = Reg.WDOG_FEED then after (execWdogFeed v s) s
  else s.writePlain a v

/-- A timer. -/
def State.writeTmr (s : State) (a : Nat) (v : Word) : State :=
  let t := Fin.ofNat 8 (a / 0x1000 - 0x40010)
  if a = Reg.TMR_CTRL t then s.writeTimerCtrl t v
  else if a = Reg.TMR_CNT t then after (execTimerCntWrite t v s) s
  else if (List.range 4).any (fun m => a == ccValue t m) then s.writeTimerValue a v
  else s.writePlain a v

/-- The command of QE_CPU_CMD0 and QE_CPU_CMD1. -/
def State.cpuCmd (s : State) : QCmd :=
  { cmd := s.rdF Reg.QE_CPU_CMD0 0 3, flag := s.bit Reg.QE_CPU_CMD0 3, cls := s.rdF Reg.QE_CPU_CMD0 4 4,
    queue := s.rdF Reg.QE_CPU_CMD0 16 16, arg := s.rdF Reg.QE_CPU_CMD1 0 16 }

/-- QE. -/
def State.writeQe (s : State) (m : Master) (a : Nat) (v : Word) : State :=
  if a = Reg.QE_INIT_CTRL then
    if bitOf v 8 then after (execQeInit v s) s
    else if s.bit a 9 then s else s.writePlain a v
  else if a = Reg.QE_CPU_SUBMIT then if bitOf v 0 then s.qePort 0 m s.cpuCmd [] else s
  else if a = Reg.QE_CPU_RING_CI then after (execQeRingCiWrite v s) s
  else if a = Reg.QE_CPU_ALLOC then after (execQeAlloc m v s) s
  else if a = Reg.QE_CPU_RELEASE then after (execQeRelease m v s) s
  else s.writePlain a v

/-- LINK and the loading-table store. Reserved commands have no effect. -/
def State.writeLink (s : State) (m : Master) (a : Nat) (v : Word) : State :=
  if a = Reg.LINK_ADDR then (s.writePlain a v).setB Reg.LINK_STATUS 2 true
  else if a = Reg.LINK_PARENT then (s.writePlain a v).noteParent
  else if a = Reg.LINK_OP_CMD then
    match fld v 0 2 with
    | 0 => after (execLinkOpSubmit m s) s
    | 1 => after (execLinkOpCancel m (Fin.ofNat 32 (fld v 8 5)) s) s
    | 2 => after (execLinkOpRelease m (Fin.ofNat 32 (fld v 8 5)) s) s
    | _ => s
  else if a = Reg.LINK_NBR_CMD then
    let key := Fin.ofNat 65536 (fld v 16 16)
    match fld v 0 3 with
    | 1 => after (execNbrAdd s) s
    | 2 => after (execNbrRead key s) s
    | 3 => after (execNbrRemove key s) s
    | 4 => after (execNbrReadIdx key s) s
    | _ => s
  else if a = Reg.LINK_FCNT0 then after (execLinkFcntWrite 0 v s) s
  else if a = Reg.LINK_FCNT1 then after (execLinkFcntWrite 1 v s) s
  else if a = Reg.LTS_CMD then
    let id := Fin.ofNat 1024 (fld v 16 10)
    match fld v 0 3 with
    | 1 => after (execLtsWrite (bitOf v 8) id s) s
    | 2 => after (execLtsRead id s) s
    | 3 => after (execLtsRemove id s) s
    | 4 => after (execLtsDerive (bitOf v 8) s) s
    | _ => s
  else s.writePlain a v

/-- STOR. -/
def State.writeStor (s : State) (m : Master) (a : Nat) (v : Word) : State :=
  if a = Reg.STOR_SUBMIT then
    if bitOf v 0 then
      s.storeSubmit m (s.rdF Reg.STOR_CMD_OP 0 4) (s.rdF Reg.STOR_CMD_ADDR 0 23) (s.rdF Reg.STOR_CMD_LEN 0 12)
    else s
  else if a = Reg.STOR_DONE then after (execStoreDoneClear v s) s
  else if a = Reg.STOR_ABORT then after (execStoreAbort v s) s
  else if a = Reg.STOR_WDATA0 then after (execStoreDataPortWrite 0 v s) s
  else if a = Reg.STOR_WDATA1 then after (execStoreDataPortWrite 1 v s) s
  else if a = Reg.STOR_PS_CFG then after (execStorPsCfgWrite v s) s
  else s.writePlain a v

/-- SECMB: a busy slot's registers and buffer ignore writes (R457). -/
def State.writeSecmb (s : State) (m : Master) (a : Nat) (v : Word) : State :=
  if a = Reg.SECMB_DOORBELL then after (execSecmbDoorbell m v s) s
  else if a = Reg.SECMB_DONE then after (execSecmbDoneClear v s) s
  else if 0x4003C040 ≤ a && a < 0x4003C140 then
    if (s.mb ((a - 0x4003C040) / 0x40)).phase == .free then s.writePlain a v else s
  else if 0x4003C200 ≤ a then
    if (s.mb ((a - 0x4003C200) / 0x380)).phase == .free then s.putBytes a (leBytes 4 v.toNat) else s
  else s.writePlain a v

/-- REL: START and DROP of a channel, a DROP with a START winning (R525); CFG only in IDLE, LOCKCNT (R501). -/
def State.writeRel (s : State) (m : Master) (a : Nat) (v : Word) : State :=
  let ch := Fin.ofNat 2 ((a - 0x40040100) / 0x40)
  if a = Reg.REL_FAILCLR then after (execRelFailclr v s) s
  else if a < 0x40040100 then s.writePlain a v
  else if a = Reg.REL_CH_CTRL ch then
    if bitOf v 1 then after (execRelDrop (some m) ch s) s
    else if bitOf v 0 then after (execRelStart (some m) ch s) s
    else s
  else if a = Reg.REL_CH_CFG ch then if s.relState ch = 0 then s.writePlain a v else s
  else if a = Reg.REL_CH_LOCKCNT ch then
    if s.relState ch = 0 then
      let s1 := s.writePlain a v
      { s1 with rel := { s1.rel with
          lockSet := if s1.rel.lockSet.contains ch.val then s1.rel.lockSet else s1.rel.lockSet ++ [ch.val] } }
    else s
  else s.writePlain a v

/-- HIF and its rings. -/
def State.writeHif (s : State) (m : Master) (a : Nat) (v : Word) : State :=
  let r := Fin.ofNat 4 ((a - 0x40048100) / 0x20)
  if a = Reg.HIF_IRQ_MASK then s.wr a (v &&& (if s.present 25 then 0x3F else 0x30))
  else if a = Reg.HIF_DB_OUT then s.doorbellOut m v
  else if a = Reg.HIF1_RXDONE then s.rxDone v
  else if a = Reg.HIF1_TXCTRL then s.txCtrl v
  else if 0x40048400 ≤ a && a < 0x40048C00 then s.putBytes a (leBytes 4 v.toNat)
  else if a < 0x40048100 || 0x40048180 ≤ a then s.writePlain a v
  else if a = Reg.RING_SQ_TAIL r then s.sqTail r v
  else if a = Reg.RING_CFG r then s.ringCfg r v
  else if (a = Reg.RING_SQ_BASE r || a = Reg.RING_CQ_BASE r) && s.bit (Reg.RING_CFG r) 8 then s
  else s.writePlain a v

/-- The serial units and the ADC, when section 0x01 enables them (R598). A bus clear written through I2Cn_XFER ends as a
free choice says. UART settings are ignored while TXBUSY (R631). -/
def State.writeSerial (s : State) (a : Nat) (v : Word) : State :=
  let n := Fin.ofNat 2 (a / 0x1000 % 2)
  if s.serialOff (a / 0x1000) then s
  else if a = Reg.SPI_CTRL n then if bitOf v 0 then after (execSpiStart n false s) s else s
  else if a = Reg.SPI_DATA n then s.spiPush n v.toNat
  else if a = Reg.I2C_XFER n then after (execI2cXfer n v none false s) s
  else if a = Reg.I2C_DATA n then s.i2cPush n v
  else if a = Reg.UART_DATA (n + 0) then s.uartPush n v
  else if a = Reg.UART_CFG n || a = Reg.UART_BAUD n then
    if s.bit (Reg.UART_STATUS n) 10 then s else (s.writePlain a v).uartBusy n
  else if a = Reg.ADC_CTRL then
    let s1 := s.writePlain a v
    let s2 := if bitOf v 2 then after (execAdcStop s1) s1 else s1
    let s3 := if bitOf v 0 then s2.adcBegin false else s2
    if bitOf v 1 then s3.adcBegin true else s3
  else s.writePlain a v

/-- GPIO: bits of pins that the variant has not fitted ignore writes. -/
def State.writeGpio (s : State) (a : Nat) (v : Word) : State :=
  let j := Fin.ofNat 2 (a % 8 / 4)
  if a = Reg.GPIO_OUT j then s.setOut j v
  else if a = Reg.GPIO_OE j then s.wr a (v &&& s.gpioMask j)
  else if a = Reg.GPIO_SET j then after (execGpioSet j v s) s
  else if a = Reg.GPIO_CLR j then after (execGpioClr j v s) s
  else if a = Reg.GPIO_TGL j then after (execGpioTgl j v s) s
  else if Reg.GPIO_EDGE 0 ≤ a && a < Reg.GPIO_EDGE 3 then
    s.wr a (v &&& word (2 ^ (min 32 (2 * (s.pinCount - 16 * ((a - Reg.GPIO_EDGE 0) / 4)))) - 1))
  else if a = Reg.GPIO_HOLD then if bitOf v 1 then s.holdRelease else s
  else s.writePlain a v

/-- CATL: a command written while one runs is refused (R61). -/
def State.writeCatl (s : State) (a : Nat) (v : Word) : State :=
  if a = Reg.CATL_CTRL then
    if fld v 0 4 != 0 && s.catBusy then s.catRefuse
    else
      let s1 := s.writePlain a v
      match fld v 0 4 with
      | 1 => after (execCatlVerify s1) s1
      | 2 => after (execCatlApply s1) s1
      | 3 => after (execCatlSetActive (bitOf v 9) (bitOf v 8) s1) s1
      | 4 => after (execCatlCommit s1) s1
      | 5 => after (execCatlRetire s1) s1
      | _ => s1
  else s.writePlain a v

/-- A write of a core-die register by a master; in a held part only FAULT and DBG are out of reset (R538). -/
def State.coreWrite (s : State) (m : Master) (a : Nat) (v : Word) : State :=
  if s.isHeld && a / 0x1000 != 0x40004 && a / 0x1000 != 0x40055 then s
  else match a / 0x1000 with
  | 0x40000 | 0x40001 => s.writeSys a v
  | 0x40002 | 0x40003 => s.writePwr a v
  | 0x40004 | 0x40005 => s.writeFault m a v
  | 0x40006 => s.writeFab a v
  | 0x40008 | 0x4000A | 0x4000B | 0x4000C => s.writeTime m a v
  | 0x40010 | 0x40011 | 0x40012 | 0x40013 | 0x40014 | 0x40015 | 0x40016 | 0x40017 => s.writeTmr a v
  | 0x40020 => s.writeQe m a v
  | 0x40034 | 0x40037 => s.writeLink m a v
  | 0x40038 => s.writeStor m a v
  | 0x4003C => s.writeSecmb m a v
  | 0x40040 => s.writeRel m a v
  | 0x40044 => if a = Reg.PANEL_CTRL then (if bitOf v 0 then after (execPanelRefresh s) s else s) else s.writePlain a v
  | 0x40048 => s.writeHif m a v
  | 0x4004C | 0x4004D | 0x4004E | 0x4004F | 0x40050 | 0x40051 | 0x40052 => s.writeSerial a v
  | 0x40053 => s.writeGpio a v
  | 0x40054 => s.writeCatl a v
  | _ => s.writePlain a v

/-! ### The far dies -/

/-- A write of a far-die register: the radio's frequency, power and tuner codes only while OWNER is 0 (R233); the LNA
step for the next receive entry; recalibration requests. -/
def State.farWrite (s : State) (a : Nat) (v : Word) : State :=
  if a = Reg.RADIO_FSM_CMD then after (execRadioFsmCmd v s) s
  else if a = Reg.RADIO_RX_FREQ then after (execRadioFreqWrite false v s) s
  else if a = Reg.RADIO_TX_FREQ then after (execRadioFreqWrite true v s) s
  else if a = Reg.RADIO_PA || a = Reg.TUNER_SG || a = Reg.TUNER_24 then
    if s.radioOwned then s.satAdd Reg.RADIO_COUNT 12 6 else s.writePlain a v
  else if a = Reg.RADIO_LNA then
    let s1 := s.writePlain a v
    { s1 with front := { s1.front with lnaStep := fld v 0 2 } }
  else if a = Reg.CAL_CTRL then
    let s1 := s.writePlain a v
    if bitOf v 1 then s1.requestCal.forceCal
    else if bitOf v 0 then s1.requestCal
    else s1
  else s.writePlain a v

/-- A word written to a far die: a register, or four bytes of the capture buffer. -/
def State.farPut (s : State) (a : Nat) (v : Word) : State :=
  if 0x50010000 ≤ a && a < 0x50020000 then s.putBytes (a / 4 * 4) (leBytes 4 v.toNat) else s.farWrite (a / 4 * 4) v

end Sys2Proof.Machine
end

