-- ==== Sys2Proof/Machine/Spine.lean ====
section
/-! DEFINITION. The spine links between the dies: packets, retry, resets and training (01). -/

namespace Sys2Proof.Machine

/-- A request enters the spine: a packet in the replay buffer, a transaction outstanding. A write completes towards the
master (R22); a read waits for its response. -/
def State.sendReq (s : State) (die : Die) (r : SpineReq) : State :=
  let sp := s.spine die
  let s1 := s.setSpineSt die { sp with
    txSeq := sp.txSeq + 1, replay := sp.replay ++ [⟨sp.txSeq, 1, r⟩], outst := sp.outst ++ [r] }
  if r.write then s1.answer 0 else s1.answerWait

/-- A request is held in its master's port. -/
def State.holdReq (s : State) (die : Die) (r : SpineReq) : State :=
  let sp := s.spine die
  (s.setSpineSt die { sp with waiting := sp.waiting ++ [r] }).answerWait

/-- A line read of a master waits at the store die, and what the master presents after it waits too (R23). -/
def State.lineWaits (s : State) (die : Die) (m : Master) : Bool :=
  die == .store && s.store.reads.any (fun r => r.1 == m)

/-- A request presented to a spine: an error and a note slip when the spine is DOWN, RESET or STUCK (R33); a wait in
TRAINING (R34), behind held requests and waiting line reads of the same master (R23), at 16 transactions on the spine
with a count in FULL, and at 8 of the master (R24, R36); otherwise it is sent. -/
def State.presentReq (s : State) (die : Die) (r : SpineReq) : State :=
  let st := s.spineState die
  let sp := s.spine die
  if st == 2 then s.holdReq die r
  else if st != 3 then s.dieNotReady die
  else if sp.waiting.any (fun q => q.master == r.master) || s.lineWaits die r.master then s.holdReq die r
  else if s.spineFull die r.master then (s.countFull die).holdReq die r
  else s.sendReq die r

/-- A held request is presented again: to a far-die register, or through the XIP window. -/
def State.present1 (s : State) (die : Die) (r : SpineReq) : State :=
  if r.addr < 0x20000000 then s.xipAnswer r.master (r.addr - 0x10000000) else s.presentReq die r

/-- FAR_DIE_ACCESS: the access of a master to a front-die or store-die address (R20, R22, R33, R34). -/
def execFarDieAccess (m : Master) (write : Bool) (addr v : Word) (s : State) : Out :=
  if s.locked m then .next s.answerError else
  match farDie addr.toNat with
  | some die => .next (s.presentReq die ⟨m, write, addr.toNat, v⟩)
  | none => .next s

/-- STORE_STATUS_READ: a read of a store-die status register, served whatever runs in the planes (R670). -/
def execStoreStatusRead (m : Master) (addr : Word) (s : State) : Out :=
  if s.locked m then .next s.answerError else
  if region addr.toNat == .store then .next (s.presentReq .store ⟨m, false, addr.toNat, 0⟩) else .next s

/-- The oldest request that a master's port holds for a spine is presented again: sent when there is room, refused and
held when there is not, an error when the spine is not ready (R23, R33, R36). -/
def State.represent (s : State) (die : Die) (r : SpineReq) : State :=
  let sp := s.spine die
  let s1 := s.setSpineSt die { sp with waiting := sp.waiting.erase r }
  if r.addr < 0x20000000 then s1.xipAnswer r.master (r.addr - 0x10000000)
  else match s.spineState die with
    | 2 => s
    | 3 =>
      if s.lineWaits die r.master then s
      else if s.spineFull die r.master then s.countFull die
      else s1.sendReq die r
    | _ => s1.dieNotReady die

/-- SPINE_REQUEST_REPRESENTED: the oldest request held in a master's port is presented again (R36). -/
def execSpineRequestRepresented (m : Master) (s : State) : Out :=
  match s.spineF.waiting.find? (fun r => r.master == m), s.spineS.waiting.find? (fun r => r.master == m) with
  | some r, _ => .next (s.represent .front r)
  | none, some r => .next (s.represent .store r)
  | none, none => .next s

/-- Sequence number `a` is at or before `b`, modulo 256. -/
def seqLe (a b : Byte) : Bool := (b - a).toNat < 128

/-- An end has accepted a sequence number already (R16). -/
def accepted (last : Option Byte) (seq : Byte) : Bool :=
  match last with
  | some l => seqLe seq l
  | none => false

/-- The far die serves a request once: a read gives a response packet, a write takes effect (R16, R22). -/
def State.farServe (s : State) (die : Die) (p : Packet) : State :=
  if p.req.write then
    let s1 := s.farPut p.req.addr p.req.data
    s1.setSpineSt die { s1.spine die with farRx := some p.seq }
  else
    let r := s.farRead p.req.master (p.req.addr / 4 * 4)
    let sp := r.2.spine die
    r.2.setSpineSt die { sp with
      farRx := some p.seq,
      farSeq := sp.farSeq + 1,
      farReplay := sp.farReplay ++ [⟨sp.farSeq, 1, { p.req with data := r.1 }⟩] }

/-- SPINE_PACKET_RECEIVED: an end receives a packet. A failed CRC is counted (R15); a sequence number already accepted
is discarded (R16); the next one in order is accepted once. -/
def execSpinePacketReceived (die : Die) (far : Bool) (seq : Byte) (crcOk : Bool) (s : State) : Out :=
  let sp := s.spine die
  if !crcOk then .next (s.satAdd (spineErr die) 0 16)
  else if far then
    match sp.replay.find? (fun p => !accepted sp.farRx p.seq) with
    | some p => if p.seq = seq then .next (s.farServe die p) else .next s
    | none => .next s
  else
    match sp.farReplay.find? (fun p => !accepted sp.coreRx p.seq) with
    | some p =>
      if p.seq = seq then .next (s.setSpineSt die { sp with coreRx := some seq, arrived := sp.arrived ++ [p.req] })
      else .next s
    | none => .next s

/-- FAR_DIE_RESPONSE: the oldest response that has arrived completes its read towards the master (R20); a read that has
been ended meanwhile takes none. -/
def execFarDieResponse (die : Die) (s : State) : Out :=
  let sp := s.spine die
  match sp.arrived with
  | r :: t =>
    let mine (q : SpineReq) : Bool := !q.write && q.master == r.master && q.addr == r.addr
    let s1 := s.setSpineSt die { sp with arrived := t, outst := sp.outst.eraseP mine }
    if sp.outst.any mine then .next (s1.answer r.data) else .next s1
  | [] => .next s

/-- SPINE_STUCK (R18): STATE is STUCK, reads end with an error, unacknowledged writes are lost, a retraining is over, the
tamper input of the spine rises (R19) and a severe slip is sent. -/
def State.stuck (s : State) (die : Die) : State :=
  let s1 := (s.satAdd (spineErr die) 24 4).endSpine die
  (((s1.wrF (spineStat die) 0 3 4).setB Reg.SPINE_CTRL (2 + spineNo die) false).slip 0 0x04 2 (spineNo die)).tamperTrip
    (5 + spineNo die)

/-- Resend a packet and every later unacknowledged one (R15); STUCK when one of them has been sent four times already
(R18). -/
def State.resend (s : State) (die : Die) (far : Bool) (seq : Byte) : State :=
  let sp := s.spine die
  let q := if far then sp.farReplay else sp.replay
  match q.find? (fun p => p.seq == seq) with
  | none => s
  | some _ =>
    if q.any (fun p => seqLe seq p.seq && 4 ≤ p.sends) then s.stuck die
    else
      let q' := q.map (fun x => if seqLe seq x.seq then { x with sends := x.sends + 1 } else x)
      s.setSpineSt die (if far then { sp with farReplay := q' } else { sp with replay := q' })

/-- SPINE_NAK_RECEIVED (R15, R17, R18). -/
def execSpineNakReceived (die : Die) (far : Bool) (seq : Byte) (s : State) : Out := .next (s.resend die far seq)

/-- SPINE_ACK_TIMEOUT: the oldest unacknowledged packet of an end has waited 1 µs (R15); it counts in CRC_ERR. -/
def execSpineAckTimeout (die : Die) (far : Bool) (s : State) : Out :=
  let sp := s.spine die
  match (if far then sp.farReplay else sp.replay) with
  | p :: _ => .next ((s.satAdd (spineErr die) 0 16).resend die far p.seq)
  | [] => .next s

/-- SPINE_ACK_RECEIVED: the acknowledged packets leave the replay buffer, and completed writes retire (R15, R22). -/
def execSpineAckReceived (die : Die) (far : Bool) (seq : Byte) (s : State) : Out :=
  let sp := s.spine die
  if far then .next (s.setSpineSt die { sp with farReplay := sp.farReplay.filter (fun p => !seqLe p.seq seq) })
  else
    let done := (sp.replay.filter (fun p => seqLe p.seq seq && p.req.write)).map (·.req)
    .next (s.setSpineSt die { sp with
      replay := sp.replay.filter (fun p => !seqLe p.seq seq),
      outst := done.foldl (fun o r => o.erase r) sp.outst })

/-- TIMING_STROBE: the link controller sends a strobe, which Spine-F carries while it is UP (R14). -/
def execTimingStrobe (target : FsmTarget) (s : State) : Out :=
  if s.spineState .front == 3 then .next { s with front := { s.front with strobes := s.front.strobes ++ [target] } } else .next s

/-! ### Resets and training -/

/-- SBR_F: a side-band reset of the front die begins; the link controller abandons its air operations (R31, R310). -/
def execSbrF (s : State) : Out := .next s.sbrFront

/-- SBR_F_RELEASE: 10 µs later the wire is released (R31 t1). -/
def execSbrFRelease (s : State) : Out :=
  if s.spineState .front == 1 then .next { s with spineF := { s.spineF with resetReq := false } } else .next s

/-- FRONT_PLL_LOCKED: after a reset or power-up the front PLL has locked and Spine-F trains (R31 t2). -/
def execFrontPllLocked (s : State) : Out :=
  if s.spineState .front ≤ 1 && !s.spineF.resetReq && !s.asleep then .next (s.wrF Reg.SPINE_F_STAT 0 3 2) else .next s

/-- SBR_S: a side-band reset of the store die is requested (R32). -/
def execSbrS (s : State) : Out := .next s.sbrStore

/-- SBR_S_HOLD: the pulse in progress has ended; the wire is held 10 µs and released, and Spine-S retrains (R32). The
store die starts anew and loads its maps (R431). -/
def execSbrSHold (s : State) : Out :=
  if s.spineState .store == 1 && s.spineS.resetReq && !s.store.ops.any (fun o => o.state == .running) then
    .next ((({ s with spineS := { s.spineS with resetReq := false } }).loadMaps.storeSync).wrF Reg.SPINE_S_STAT 0 3 2)
  else .next s

/-- The requests held during a training proceed in order (R34). -/
def State.releaseWaiting (s : State) (die : Die) : State :=
  let held := (s.spine die).waiting
  held.foldl (fun t r => t.present1 die r) (s.setSpineSt die { s.spine die with waiting := [] })

/-- SPINE_TRAINING_DONE: STATE is UP at the rate HALF selects, the SBR and RETRAIN bits read 0, and what waited proceeds:
line reads outstanding since before a retraining, then the requests held (R31, R34, R669). -/
def execSpineTrainingDone (die : Die) (s : State) : Out :=
  if s.spineState die == 2 then
    let s1 := s.spineUp die
    .next ((match die with | .front => s1 | .store => s1.servePending).releaseWaiting die)
  else .next s

/-- RETRAIN_F (R669). -/
def execRetrainF (s : State) : Out := .next (s.retrain .front)

/-- RETRAIN_S (R669). -/
def execRetrainS (s : State) : Out := .next (s.retrain .store)

end Sys2Proof.Machine
end

