-- ==== Sys2Proof/Machine/Bus.lean ====
section
/-! DEFINITION. The interconnect: what an access of a master to any address gives, at once or as a command's row (01). -/

namespace Sys2Proof.Machine

/-- What an access gives: data, an error response, or a wait. -/
inductive Ans where
  | data (v : Nat)
  | error
  | wait
  deriving DecidableEq, Repr

/-- The bytes of a word that an access of `n` bytes at an address takes. -/
def laneOf (v : Word) (a n : Nat) : Nat := v.toNat / 2 ^ (8 * (a % 4)) % 2 ^ (8 * n)

/-- A value of `n` bytes in its lanes; the other lanes are zero (notes/assumptions/6.md). -/
def toLane (v a n : Nat) : Word := word (v % 2 ^ (8 * n) * 2 ^ (8 * (a % 4)))

/-- An unmapped access (R28): a recoverable slip, and the capture of SYSCTL_BUS_ADDR and SYSCTL_BUS_INFO. -/
def State.unmapped (s : State) (m : Master) (write : Bool) (a : Nat) : State :=
  let s1 := s.slip 0 0x02 1 a
  if s.bit Reg.BUS_INFO 31 then s1.satAdd Reg.BUS_INFO 8 8
  else (s1.wr Reg.BUS_ADDR (word a)).wr Reg.BUS_INFO (word (masterId m + b2n write * 8 + 2 ^ 31))

/-- A read through the XIP window as one access: while Spine-S trains, behind the master's earlier transactions (R23) and
at the bounds (R24, R36) it waits; a read that must wait for a plane is known to the store die once. -/
def State.busXip (s : State) (m : Master) (a n : Nat) : Ans × State :=
  let off := a / 4 * 4 - 0x10000000
  let plane := s.physOf (off / 2048) % 2
  match s.spineState .store with
  | 2 => (.wait, s)
  | 3 =>
    if s.store.reads.contains (m, off) then (.wait, s)
    else if s.portBusy .store m then (.wait, s)
    else if s.spineFull .store m then (.wait, s.countFull .store)
    else if s.planeBusy plane then (.wait, { s with store := { s.store with reads := s.store.reads ++ [(m, off)] } })
    else
      let r := (s.countServed plane).serveLine m off
      (if r.2.1 then .error else .data (laneOf r.1 a n), r.2.2)
  | _ => (.error, s.dieNotReady .store)

/-- An access of a master across a spine as one access: the state's answer while UP, an error while the spine is not
ready (R33); a wait in TRAINING (R34), behind the master's earlier transactions (R23), and at the bounds (R24, R36). -/
def State.busFar (s : State) (m : Master) (die : Die) (act : State → Ans × State) : Ans × State :=
  match s.spineState die with
  | 2 => (.wait, s)
  | 3 =>
    if s.portBusy die m then (.wait, s)
    else if s.spineFull die m then (.wait, s.countFull die)
    else act s
  | _ => (.error, s.dieNotReady die)

/-- A read of `n` bytes by a master, served at once. An access across a spine in training waits, and has then changed
nothing (R34). -/
def State.busRead (s : State) (m : Master) (a n : Nat) : Ans × State :=
  let w := a / 4 * 4
  let out (r : Word × State) : Ans × State := (.data (laneOf r.1 a n), r.2)
  let far (die : Die) : Ans × State := s.busFar m die (fun t => out (t.farRead m w))
  if s.locked m && !debugReach a then (.error, s)
  else match s.absentAt a with
  | some src => (.data 0, s.absentSlip src a)
  | none => match region a with
    | .rom => (.data (leNat ((List.range n).map (fun i => Config.romByte (a + i)))), s)
    | .xip => s.busXip m a n
    | .sram => (.data (leNat (s.bytesAt a n)), s)
    | .queue => out (s.queueRead w)
    | .pool => out (s.poolRead w)
    | .core => out (s.coreRead m w)
    | .front => far .front
    | .capture => far .front
    | .store => far .store
    | .unmapped => (.error, s.unmapped m false a)

/-- The data buffers of the mailbox and of HIF-1, which take single bytes. -/
def bufferAt (a : Nat) : Bool := (0x4003C200 ≤ a && a < 0x4003D000) || (0x40048400 ≤ a && a < 0x40048C00)

/-- A write of `n` bytes to a buffer; a busy mailbox slot ignores it (R457). -/
def State.bufferWrite (s : State) (a n v : Nat) : State :=
  if a < 0x4003D000 && (s.mb ((a - 0x4003C200) / 0x380)).phase != .free then s else s.putBytes a (leBytes n v)

/-- A write of `n` bytes to the pool: link words are the queue engine's alone (R364). -/
def State.poolWrite (s : State) (a n v : Nat) : State := if a % 128 < 4 then s else s.putBytes a (leBytes n v)

/-- A write of `n` bytes by a master, served at once, but for the mover's own registers. The boot ROM and the present part
of the XIP window take no write (R29); the window's part that an OCV96-K does not have is an absent bank, whose write is
ignored (R7; notes/assumptions/4.md). -/
def State.busWriteCore (s : State) (m : Master) (a n v : Nat) : Ans × State :=
  let far (die : Die) (act : State → State) : Ans × State := s.busFar m die (fun t => (.data 0, act t))
  if s.locked m && !debugReach a then (.error, s)
  else match s.absentAt a with
  | some src => (.data 0, s.absentSlip src a)
  | none => match region a with
    | .sram => (.data 0, s.putBytes a (leBytes n v))
    | .queue => if m == .queue then (.data 0, s) else (.error, s.absentSlip 32 a)
    | .pool => (.data 0, s.poolWrite a n v)
    | .core => (.data 0, if bufferAt a then s.bufferWrite a n v else s.coreWrite m (a / 4 * 4) (toLane v a n))
    | .front => far .front (fun t => t.farWrite (a / 4 * 4) (toLane v a n))
    | .capture => far .front (fun t => t.putBytes a (leBytes n v))
    | .store => far .store (fun t => t)
    | _ => (.error, s.unmapped m true a)

/-- The answer of an access goes to its master. -/
def State.answerWith (r : Ans × State) : State :=
  match r.1 with
  | .data v => r.2.answer (word v)
  | .error => r.2.answerError
  | .wait => r.2.answerWait

end Sys2Proof.Machine
end

