-- ==== Sys2Proof/Machine/Mover.lean ====
section
/-! DEFINITION. The mover: channels, descriptors, beats, queue modes (12); and a write through the whole map, the mover's
own registers included. -/

namespace Sys2Proof.Machine

/-- STATE of a channel: 0 IDLE, 1 ACTIVE, 2 WAITING, 3 ENDED, 4 STOPPED. -/
def State.mvState (s : State) (k : Nat) : Nat := s.rdF (Reg.MOVER_CH_STATUS k) 0 3

/-- A channel's state changes. -/
def State.setMvState (s : State) (k n : Nat) : State := s.wrF (Reg.MOVER_CH_STATUS k) 0 3 n

/-- Requests pending on a channel. -/
def State.mvPend (s : State) (k : Nat) : Nat := s.rdF (Reg.MOVER_CH_STATUS k) 16 4

/-- The number of requests pending changes. -/
def State.setMvPend (s : State) (k n : Nat) : State := s.wrF (Reg.MOVER_CH_STATUS k) 16 4 n

/-- The channel's descriptor takes a value, none when it has none. -/
def State.setMvDesc (s : State) (k : Nat) (d : Option MvDesc) : State :=
  { s with mover := { s.mover with desc :=
      match d with
      | some v => mapIns (mapErase s.mover.desc k) k v
      | none => mapErase s.mover.desc k } }

/-- A chain ends or stops: STATE, CODE, and event 160 + k (R394). -/
def State.mvEnd (s : State) (k st code : Nat) : State :=
  ((((s.setMvDesc k none).setMvState k st).wrF (Reg.MOVER_CH_STATUS k) 4 4 code).setMvPend k 0).event (160 + k)

/-- A channel stops with QE_FAIL and the queue status (R393). -/
def State.mvQeFail (s : State) (k code : Nat) : State :=
  (s.wrF (Reg.MOVER_CH_STATUS k) 8 5 code).mvEnd k 4 4

/-- A channel stops with BUS_ERR: the address, and a slip from source 48 (R395). -/
def State.mvBusErr (s : State) (k a : Nat) : State :=
  ((s.wr (Reg.MOVER_CH_ERRADDR k) (word a)).mvEnd k 4 3).slip 48 0x08 1 k

/-- A refusal at a spine's bound in one state is counted in another. -/
def State.keepFull (s t : State) (die : Die) : State :=
  if s.rdF (spineErr die) 16 8 < t.rdF (spineErr die) 16 8 then s.satAdd (spineErr die) 16 8 else s

/-- A state that keeps, of one that has waited, only the line reads that the store die now knows of and the refusals at the
spines' bounds (R36). -/
def State.keepReads (s t : State) : State :=
  let s1 := (s.keepFull t .front).keepFull t .store
  { s1 with store := { s1.store with reads := t.store.reads } }

/-! ### Descriptors (R388 to R390) -/

/-- The descriptor of four words. -/
def mvDescOf (w0 w1 w2 w3 : Word) : MvDesc :=
  { src := w0.toNat, dst := w1.toNat, len := fld w2 0 20, width := fld w2 20 2, sinc := bitOf w2 22, dinc := bitOf w2 23,
    paced := bitOf w2 24, burst := fld w2 25 3, qmode := fld w2 28 2, next := w3.toNat / 16 * 16 }

/-- A descriptor is sound: no reserved value, addresses aligned to the width, LEN in its range (R390). -/
def mvDescOk (at_ : Nat) (d : MvDesc) (w2 w3 : Word) : Bool :=
  let al (a : Nat) : Bool := a % 2 ^ d.width == 0
  region at_ != .queue && d.width != 3 && d.qmode != 3 && fld w2 30 2 == 0 && fld w3 0 4 == 0 && d.len != 0 &&
    (d.qmode == 0 || d.len ≤ 2047) && (d.qmode == 2 || al d.src) && (d.qmode == 1 || al d.dst)

/-- Words read by the mover, one after the other: the words, or the address of the access that failed; none waits. -/
def State.mvWords (s : State) (a : Nat) : Nat → Option (Except Nat (List Word)) × State
  | 0 => (some (.ok []), s)
  | n + 1 =>
    match s.busRead .mover a 4 with
    | (.error, t) => (some (.error a), t)
    | (.wait, t) => (none, t)
    | (.data v, t) =>
      match t.mvWords (a + 4) n with
      | (some (.ok l), u) => (some (.ok (word v :: l)), u)
      | r => r

/-- A channel loads the descriptor at an address: it runs, or waits for requests, or stops. When the read of the
descriptor waits, the channel is ACTIVE without one (notes/assumptions/45.md). -/
def State.mvLoad (s : State) (k a : Nat) : State :=
  let s1 := (s.setMvState k 1).wr (Reg.MOVER_CH_CUR k) (word a)
  match s1.mvWords a 4 with
  | (none, t) => (s1.keepReads t).setMvDesc k none
  | (some (.error b), t) => t.mvBusErr k b
  | (some (.ok l), t) =>
    let d := mvDescOf (l.getD 0 0) (l.getD 1 0) (l.getD 2 0) (l.getD 3 0)
    if mvDescOk a d (l.getD 2 0) (l.getD 3 0) then
      let t1 := (t.setMvDesc k (some d)).wr (Reg.MOVER_CH_LEFT k) (word d.len)
      if !d.paced then t1.setMvPend k 0
      else if t1.mvPend k = 0 then t1.setMvState k 2
      else t1
    else t.mvEnd k 4 2

/-- A write of START (R389): MOVER_RESULT holds its outcome. A request of the same cycle pends on the new chain (12, "What
if a mover channel is started by software and a fabric request in the same cycle?"). -/
def State.mvStart (s : State) (m : Master) (k : Nat) : State :=
  let res (t : State) (code : Nat) : State := t.wr Reg.MOVER_RESULT (word (code + k * 16 + masterId m * 256))
  if !s.enabled 4 then res s 7
  else if s.mvState k = 1 || s.mvState k = 2 then res s 1
  else
    let pend := if s.cyc.requests.contains k then 1 else 0
    let s1 := (((res s 0).wrF (Reg.MOVER_CH_STATUS k) 4 9 0).setMvPend k pend).setMvDesc k none
    s1.mvLoad k (s.rd (Reg.MOVER_CH_DESC k)).toNat

/-- MOVER_START (R389). -/
def execMoverStart (m : Master) (ch : Fin 16) (s : State) : Out :=
  if s.locked m then .next s.answerError else .next (s.mvStart m ch)

/-- A write of STOP stops a channel that runs, with STOPPED. -/
def State.mvStop (s : State) (k code : Nat) : State :=
  if s.mvState k = 1 || s.mvState k = 2 then s.mvEnd k 4 code else s

/-- MOVER_STOP (R395; 12, MOVER_CHk_CTRL). -/
def execMoverStop (ch : Fin 16) (s : State) : Out := .next (s.mvStop ch 6)

/-- A write of a mover register: PRIO, then STOP, then START. -/
def State.writeMover (s : State) (m : Master) (a : Nat) (v : Word) : State :=
  let k := (a - 0x40030100) / 0x20 % 16
  if a = Reg.MOVER_CH_CTRL k then
    let s1 := s.writePlain a v
    let s2 := if bitOf v 1 then s1.mvStop k 6 else s1
    if bitOf v 0 then s2.mvStart m k else s2
  else s.writePlain a v

/-- A write of `n` bytes by a master anywhere in the map, served at once. -/
def State.busWrite (s : State) (m : Master) (a n v : Nat) : Ans × State :=
  if a / 0x1000 = 0x40030 && !s.locked m then (.data 0, s.writeMover m (a / 4 * 4) (toLane v a n))
  else s.busWriteCore m a n v

/-! ### Beats -/

/-- What a run of beats gives: it has moved, or an access failed at an address, or one waits. -/
inductive MvRes where
  | ok (d : MvDesc) (s : State)
  | err (a : Nat) (s : State)
  | wait (d : MvDesc) (s : State)

/-- One beat: WIDTH bytes, or what is left. -/
def State.mvBeat (s : State) (d : MvDesc) : MvRes :=
  let n := min (2 ^ d.width) d.len
  match s.busRead .mover d.src n with
  | (.error, t) => .err d.src t
  | (.wait, t) => .wait d (s.keepReads t)
  | (.data v, t) =>
    match t.busWrite .mover d.dst n v with
    | (.error, u) => .err d.dst u
    | (.wait, u) => .wait d (s.keepReads u)
    | (.data _, u) =>
      .ok { d with src := if d.sinc then d.src + n else d.src, dst := if d.dinc then d.dst + n else d.dst, len := d.len - n } u

/-- Up to `n` beats, to the end of the descriptor. -/
def State.mvBeats (s : State) (d : MvDesc) : Nat → MvRes
  | 0 => .ok d s
  | n + 1 =>
    if d.len = 0 then .ok d s
    else match s.mvBeat d with
      | .ok d' t => t.mvBeats d' n
      | r => r

/-- The bytes at the source, beat by beat, `n` beats at most. -/
def State.mvIn (s : State) (d : MvDesc) : Nat → Option (Except Nat (List Byte)) × State
  | 0 => (some (.ok []), s)
  | b + 1 =>
    if d.len = 0 then (some (.ok []), s)
    else
      let n := min (2 ^ d.width) d.len
      match s.busRead .mover d.src n with
      | (.error, t) => (some (.error d.src), t)
      | (.wait, t) => (none, t)
      | (.data v, t) =>
        match t.mvIn { d with src := if d.sinc then d.src + n else d.src, len := d.len - n } b with
        | (some (.ok l), u) => (some (.ok (leBytes n v ++ l)), u)
        | r => r

/-- Bytes go to the destination, beat by beat; the address of an access that fails, none when one waits. -/
def State.mvOut (s : State) (d : MvDesc) : Nat → List Byte → Option (Except Nat Unit) × State
  | 0, _ => (some (.ok ()), s)
  | b + 1, l =>
    if l.isEmpty then (some (.ok ()), s)
    else
      let n := min (2 ^ d.width) l.length
      match s.busWrite .mover d.dst n (leNat (l.take n)) with
      | (.error, t) => (some (.error d.dst), t)
      | (.wait, t) => (none, t)
      | (.data _, t) => t.mvOut { d with dst := if d.dinc then d.dst + n else d.dst } b (l.drop n)

/-! ### Queue modes (R392, R393) -/

/-- The work of a QMODE 1 descriptor: a chain is allocated, filled and enqueued. -/
def State.mvToQueue (s : State) (k : Nat) (d : MvDesc) : MvRes ⊕ State :=
  let cmd : QCmd := { cmd := 1, queue := d.dst % 65536 }
  if !s.qeOn then .inr (s.mvQeFail k 0x03)
  else if s.allocWaits d.len || s.qeWaits 3 cmd then .inl (.wait d s)
  else match s.alloc d.len with
    | (0, c, t) =>
      match t.mvIn d d.len with
      | (none, u) => .inl (.wait d (s.keepReads u))
      | (some (.error a), u) => .inl (.err a u)
      | (some (.ok l), u) =>
        let r := (u.fillCells ((u.frameCells 17 c).getD []) l).qeNow 3 { cmd with arg := c }
        if r.status = 0 then .inl (.ok { d with len := 0 } r.s)
        else .inr ((r.s.releaseFrame c).2.mvQeFail k r.status)
    | (code, _, t) => .inr (t.mvQeFail k code)

/-- The work of a QMODE 2 descriptor: the head frame is dequeued, copied and released, and its length written into LEN
of the descriptor in memory. -/
def State.mvFromQueue (s : State) (k : Nat) (d : MvDesc) : MvRes ⊕ State :=
  let cmd : QCmd := { cmd := 2, flag := true, queue := d.src % 65536 }
  let at_ := (s.rd (Reg.MOVER_CH_CUR k)).toNat
  if !s.qeOn then .inr (s.mvQeFail k 0x03)
  else if s.qeWaits 3 cmd then .inl (.wait d s)
  else
    let r := s.qeNow 3 cmd
    if r.status ≠ 0 then .inr (r.s.mvQeFail k r.status)
    else
      let c := r.word1 % 65536
      let len := r.word1 / 65536
      match r.s.mvOut d d.len ((r.s.frameBytes c).take d.len) with
      | (none, u) => .inl (.wait d (s.keepReads u))
      | (some (.error a), u) => .inl (.err a u)
      | (some (.ok _), u) =>
        match u.mvWords (at_ + 8) 1 with
        | (some (.ok [w]), v) =>
          match v.busWrite .mover (at_ + 8) 4 (setFld w 0 20 len).toNat with
          | (.error, x) => .inl (.err (at_ + 8) x)
          | (.wait, x) => .inl (.wait d (s.keepReads x))
          | (.data _, x) => .inl (.ok { d with len := 0 } (x.releaseFrame c).2)
        | (some _, v) => .inl (.err (at_ + 8) v)
        | (none, v) => .inl (.wait d (s.keepReads v))

/-! ### Progress -/

/-- A channel's descriptor has moved on; LEFT follows it. -/
def State.mvPut (s : State) (k : Nat) (d : MvDesc) : State :=
  (s.setMvDesc k (some d)).wr (Reg.MOVER_CH_LEFT k) (word d.len)

/-- A finished descriptor: the chain goes on at NEXT, or ends (R394). -/
def State.mvFinish (s : State) (k : Nat) (d : MvDesc) : State :=
  let s1 := s.wr (Reg.MOVER_CH_LEFT k) 0
  if d.next = 0 then s1.mvEnd k 3 0 else s1.mvLoad k d.next

/-- The work of a descriptor by its QMODE (R391 to R393). -/
def State.mvWork (s : State) (k : Nat) (d : MvDesc) : MvRes ⊕ State :=
  match d.qmode with
  | 0 => .inl (s.mvBeats d d.len)
  | 1 => s.mvToQueue k d
  | _ => s.mvFromQueue k d

/-- What is left of a descriptor is moved: at once for QMODE 0, as a whole for the queue modes; then NEXT follows. -/
def State.mvComplete (s : State) (k : Nat) (d : MvDesc) : State :=
  match s.mvWork k d with
  | .inl (.ok d' t) => t.mvFinish k d'
  | .inl (.err a t) => t.mvBusErr k a
  | .inl (.wait d' t) => if d.qmode = 0 then t.mvPut k d' else t
  | .inr t => t

/-- Requests that could not be served stay pending, 15 at most (R391). -/
def State.mvHold (s : State) (k n : Nat) : State :=
  if n ≤ 15 then s.setMvPend k n else (s.setMvPend k 15).satAdd (Reg.MOVER_CH_STATUS k) 24 8

/-- Requests of a paced channel are served, each with 2^BURST beats (R391). A queue-mode descriptor counts its beats and
does its work at its end (notes/assumptions/45.md). A request whose burst waits stays pending. -/
def State.mvServe (s : State) (k : Nat) : Nat → State
  | 0 => (s.setMvPend k 0).setMvState k (if s.rdF (Reg.MOVER_CH_LEFT k) 0 20 = 0 then 1 else 2)
  | n + 1 =>
    match mapGet s.mover.desc k with
    | none => s
    | some d =>
      let left := s.rdF (Reg.MOVER_CH_LEFT k) 0 20
      if left = 0 then s.mvHold k (n + 1)
      else if d.qmode ≠ 0 then
        (s.wr (Reg.MOVER_CH_LEFT k) (word (left - 2 ^ (d.burst + d.width)))).mvServe k n
      else match s.mvBeats d (2 ^ d.burst) with
        | .ok d' t => (t.mvPut k d').mvServe k n
        | .err a t => t.mvBusErr k a
        | .wait _ t => (s.keepReads t).mvHold k (n + 1)

/-- A request on a channel that does not run is ignored, but for a START of the same cycle (12, "What if a mover channel is
started by software and a fabric request in the same cycle?"). -/
def State.ignoreRequest (s : State) (k : Nat) : State :=
  { s with cyc := { s.cyc with requests := k :: s.cyc.requests } }

/-- MOVER_PACED_REQUEST: a request on task input 64 + k (R391); `stalled` says that earlier requests still wait. -/
def execMoverPacedRequest (ch : Fin 16) (stalled : Bool) (s : State) : Out :=
  let k := ch.val
  match mapGet s.mover.desc k with
  | none => .next (s.ignoreRequest k)
  | some d =>
    if !(s.mvState k = 1 || s.mvState k = 2) then .next (s.ignoreRequest k)
    else if !d.paced then .next s
    else if stalled then
      if s.mvPend k < 15 then .next ((s.setMvPend k (s.mvPend k + 1)).setMvState k 1)
      else .next (s.satAdd (Reg.MOVER_CH_STATUS k) 24 8)
    else .next ((s.setMvState k 1).mvServe k (s.mvPend k + 1))

/-- MOVER_DESCRIPTOR_DONE: the channel moves what its descriptor has left, a paced one only what its pending requests
allow, and goes on at NEXT or ends (R391 to R394). A channel that waits for its descriptor loads it first. -/
def execMoverDescriptorDone (ch : Fin 16) (s : State) : Out :=
  let k := ch.val
  if !(s.mvState k = 1 || s.mvState k = 2) then .next s
  else match mapGet s.mover.desc k with
    | none => .next (s.mvLoad k (s.rd (Reg.MOVER_CH_CUR k)).toNat)
    | some d =>
      if !d.paced then .next (s.mvComplete k d)
      else
        let s1 := if s.mvPend k = 0 then s else s.mvServe k (s.mvPend k)
        if s1.rdF (Reg.MOVER_CH_LEFT k) 0 20 != 0 then .next s1
        else match mapGet s1.mover.desc k with
          | some d' => .next (s1.mvComplete k d')
          | none => .next s1

/-- MOVER_BUS_ERROR: an access of a running channel ends with an error response (R395). -/
def execMoverBusError (ch : Fin 16) (addr : Word) (s : State) : Out :=
  if s.mvState ch = 1 || s.mvState ch = 2 then .next (s.mvBusErr ch addr.toNat) else .next s

end Sys2Proof.Machine
end

