-- ==== Sys2Proof/Machine/Access.lean ====
section
/-! DEFINITION. The commands that are single accesses of a master to the address map (00, 01). -/

namespace Sys2Proof.Machine

/-- An access of a master to a register word: across its spine for a far die, at once for every other address. -/
def State.access (s : State) (m : Master) (write : Bool) (addr v : Word) : State :=
  let a := addr.toNat / 4 * 4
  match farDie a with
  | some die => if s.locked m then s.answerError else s.presentReq die ⟨m, write, a, v⟩
  | none => if write then State.answerWith (s.busWrite m a 4 v.toNat) else State.answerWith (s.busRead m a 4)

/-- ABSENT_UNIT_READ: an absent unit or bank reads 0, with a note slip (R6, R8). -/
def execAbsentUnitRead (m : Master) (addr : Word) (s : State) : Out :=
  match s.absentAt addr.toNat with
  | some src => if s.locked m then .next s.answerError else .next ((s.absentSlip src addr.toNat).answer 0)
  | none => .next s

/-- ABSENT_UNIT_WRITE: ignored, without an error response, with a note slip (R7, R8). -/
def execAbsentUnitWrite (m : Master) (addr _v : Word) (s : State) : Out :=
  match s.absentAt addr.toNat with
  | some src =>
    if s.locked m then .next s.answerError
    else .next ((s.absentSlip src addr.toNat).answer 0)
  | none => .next s

/-- RC_REGISTER_READ: a register is read, and its RC fields are cleared but for the debug master (R12, R13). -/
def execRcRegisterRead (m : Master) (addr : Word) (s : State) : Out := .next (s.access m false addr 0)

/-- REGISTER_WRITE: a register is written, by its access kind or as its chapter says (R11, R12). -/
def execRegisterWrite (m : Master) (addr v : Word) (s : State) : Out := .next (s.access m true addr v)

/-- UNMAPPED_ACCESS: an address that no table covers, or a write to boot ROM or the present part of the XIP window (R28,
R29). -/
def execUnmappedAccess (m : Master) (write : Bool) (addr : Word) (s : State) : Out :=
  let r := region addr.toNat
  if s.locked m then .next s.answerError
  else if r == .unmapped || (write && (r == .rom || r == .xip) && (s.absentAt addr.toNat).isNone) then .next ((s.unmapped m write addr.toNat).answerError)
  else .next s

/-- QUEUE_MEMORY_WRITE: ignored, with an error response and a note slip from source 32 (R30, R365). -/
def execQueueMemoryWrite (m : Master) (addr v : Word) (s : State) : Out :=
  if region addr.toNat == .queue then .next (s.access m true addr v) else .next s

/-- BUFFER_LINK_WORD_WRITE: ignored, without an error response (R364). -/
def execBufferLinkWordWrite (m : Master) (addr v : Word) (s : State) : Out :=
  if region addr.toNat == .pool && addr.toNat % 128 < 4 then .next (s.access m true addr v) else .next s

end Sys2Proof.Machine
end

