-- ==== Sys2Proof/Machine/Hif.lean ====
section
/-! DEFINITION. The host interfaces: HIF-1 frames, HIF-2 and HIF-3 transactions, host rings (17). Choices:
notes/assumptions/47.md and 48.md. -/

namespace Sys2Proof.Machine

/-- An interface (0 HIF-1, 1 HIF-2, 2 HIF-3) is enabled and serves its host. -/
def State.hifOn (s : State) (k : Nat) : Bool := s.bit Reg.HIF_CFG k && s.boot.phase == .app && !s.asleep

/-- An access of the host master for interface `i` (1 to 3) has ended with an error response; its slip is due (R577). -/
def State.hostError (s : State) (i : Nat) : State := { s with hif := { s.hif with errDue := s.hif.errDue ++ [i] } }

/-- HIF_HOST_BUS_ERROR: the slip of the oldest such error, its count and event 221 (R577). -/
def execHifHostBusError (s : State) : Out :=
  match s.hif.errDue with
  | i :: t => .next (((({ s with hif := { s.hif with errDue := t } }).hifErr 3).slip 72 0x12 1 i).hifErrEvent)
  | [] => .next s

/-- The host master issues a write of an interface (1 to 3): a write of HIF_DB_IN through HIF-2 or HIF-3 raises its event
(R565). -/
def State.hostIssue (s : State) (i a n v : Nat) : Ans × State :=
  if a / 4 * 4 = Reg.HIF_DB_IN && 2 ≤ i then (.data 0, s.doorbellIn (i == 3) (toLane v a n))
  else match s.busWrite .host a n v with
    | (.error, t) => (.error, t.hostError i)
    | r => r

/-- The stored bits of a word as they stood before: memory bytes, or the RW bits of a register of the core die. -/
def State.keepWord (s old : State) (w : Nat) : State :=
  if bufferAt w || region w == .sram || region w == .pool then s.putBytes w (old.bytesAt w 4)
  else match region w, rowOf w with
    | .core, some row => s.wr w ((s.rd w &&& ~~~ word row.rw) ||| (old.rd w &&& word row.rw))
    | _, _ => s

/-- A write of the host master for an interface. Of the writes that are ready in one cycle HIF-3's are issued first and
HIF-1's last: a word that an interface later in that order has written keeps its value (R578, R579). -/
def State.hostWrite (s : State) (i a n v : Nat) : Ans × State :=
  let w := a / 4 * 4
  let r := s.hostIssue i a n v
  if s.cyc.hifWrites.any (fun p => p.1 < i && p.2 == w) then (r.1, r.2.keepWord s w)
  else (r.1, { r.2 with cyc := { r.2.cyc with hifWrites := (i, w) :: r.2.cyc.hifWrites } })

/-- A read of the host master for an interface. -/
def State.hostRead (s : State) (i a n : Nat) : Ans × State :=
  match s.busRead .host a n with
  | (.error, t) => (.error, t.hostError i)
  | r => r

/-! ### HIF-1 -/

/-- The operations that HIF-1 knows (R558). -/
def hif1Known (op : Nat) : Bool := op == 1 || op == 0x10 || op == 0x11 || op == 0x12 || (0x40 ≤ op && op < 0x80)

/-- A reply to a frame. -/
def State.hifReply (s : State) (f : HifFrame) (status : Nat) (rest : List Byte := []) : State :=
  s.hifSend (replyFrame f status rest)

/-- A frame arrives on HIF-1 outside annex mode: one with a bad CRC is counted (R558), an unknown OP or a LEN that its
OP does not allow is answered with BAD_OP. -/
def State.hif1Frame (s : State) (mine : Nat → Bool) (line : List Byte) (lenOk : HifFrame → Bool) (act : HifFrame → State) : State :=
  if !s.hifOn 0 then s
  else match parseFrame line with
    | none => s.hifErr 0
    | some f =>
      if !hif1Known f.op then s.hifReply f 0x21
      else if !mine f.op then s
      else if f.whole && lenOk f then act f
      else s.hifReply f 0x21

/-- HIF1_HELLO: SYSCTL_ID, the UID and CATL_BUILD (R558). -/
def execHif1Hello (line : List Byte) (s : State) : Out :=
  .next (s.hif1Frame (· == 1) line (fun f => f.len == 0) (fun f =>
    s.hifReply f 0 (leBytes 4 s.sysctlId.toNat ++ leBytes 8 Config.uid.toNat ++ leBytes 4 (s.rd Reg.CATL_BUILD).toNat)))

/-- Words read for an interface in ascending order, up to the first error; none when one waits. -/
def State.hostWords (s : State) (i a : Nat) : Nat → Option (Bool × List Byte) × State
  | 0 => (some (true, []), s)
  | n + 1 =>
    match s.hostRead i a 4 with
    | (.error, t) => (some (false, []), t)
    | (.wait, t) => (none, t)
    | (.data v, t) =>
      match t.hostWords i (a + 4) n with
      | (some (ok, l), u) => (some (ok, leBytes 4 v ++ l), u)
      | r => r

/-- Words written for an interface in ascending order, up to the first error; none when one waits. -/
def State.hostPuts (s : State) (i a : Nat) : List Nat → Option Bool × State
  | [] => (some true, s)
  | v :: t =>
    match s.hostWrite i a 4 v with
    | (.error, u) => (some false, u)
    | (.wait, u) => (none, u)
    | (.data _, u) => u.hostPuts i (a + 4) t

/-- The whole words of a byte string. -/
def wordsOf (l : List Byte) : List Nat := (List.range (l.length / 4)).map (fun i => b4 l (4 * i))

/-- HIF1_READ: COUNT words from a word-aligned address, or BAD_RANGE (R558); a read that must wait is kept (R34). -/
def execHif1Read (line : List Byte) (s : State) : Out :=
  .next (s.hif1Frame (· == 0x10) line (fun f => f.len == 5) (fun f =>
    let n := b1 f.payload 4
    if n = 0 || 64 < n then s.hifReply f 0x21
    else if s.hostHeld then s.holdCmd (.hif1Read line)
    else match s.hostWords 1 (b4 f.payload 0 / 4 * 4) n with
      | (some (true, l), t) => t.hifReply f 0 l
      | (some (false, _), t) => t.hifReply f 0x23
      | (none, t) => (s.keepReads t).holdCmd (.hif1Read line)))

/-- HIF1_WRITE: its words in ascending order (R558, R559); a write that must wait is kept (R34). -/
def execHif1Write (line : List Byte) (s : State) : Out :=
  .next (s.hif1Frame (· == 0x11) line (fun f => 8 ≤ f.len && f.len ≤ 1028 && f.len % 4 == 0) (fun f =>
    if s.hostHeld then s.holdCmd (.hif1Write line)
    else match s.hostPuts 1 (b4 f.payload 0 / 4 * 4) (wordsOf (f.payload.drop 4)) with
    | (some true, t) => t.hifReply f 0
    | (some false, t) => t.hifReply f 0x23
    | (none, t) => (s.keepReads t).holdCmd (.hif1Write line)))

/-- What enqueueing bytes on the HIF port gives: the queue status, word 1 (free unless OK) and the state; none when a bank is not yet
restored. A frame that is not enqueued gives its cells back (notes/assumptions/48.md). -/
def State.hifEnqueue (s : State) (q : Nat) (l : List Byte) : Option (Nat × Nat × State) :=
  let cmd : QCmd := { cmd := 1, queue := q }
  if !s.qeOn then some (0x03, s.openVal false 0 (2 ^ 32), s.openTaken false)
  else if s.allocWaits l.length || s.qeWaits 2 cmd then none
  else match s.alloc l.length with
    | (0, c, t) =>
      let r := (t.fillCells ((t.frameCells 17 c).getD []) l).qeNow 2 { cmd with arg := c }
      if r.status = 0 then some (0, r.word1, r.s) else some (r.status, r.word1, (r.s.releaseFrame c).2)
    | (code, _, t) => some (code, t.openVal false 0 (2 ^ 32), t.openTaken false)

/-- HIF1_ENQUEUE: the frame is enqueued on the HIF port; the reply carries QSTATUS and word 1 (R558). It waits for
a bank that is still to be restored (R387). -/
def execHif1Enqueue (line : List Byte) (s : State) : Out :=
  .next (s.hif1Frame (· == 0x12) line (fun f => 3 ≤ f.len && f.len ≤ 2049) (fun f =>
    match s.hifEnqueue (b2 f.payload 0) (f.payload.drop 2) with
    | some (st, w, t) => t.hifReply f (if st = 0 then 0 else 0x28) (byte st :: leBytes 4 w)
    | none => s.holdCmd (.hif1Enqueue line)))

/-- HIF1_SOFTWARE_FRAME: into the receive buffer with event 216, or BUSY while it is held (R560). -/
def execHif1SoftwareFrame (line : List Byte) (s : State) : Out :=
  .next (s.hif1Frame (fun op => 0x40 ≤ op && op < 0x80) line (fun f => f.len ≤ 1024) (fun f =>
    if s.bit Reg.HIF1_RXINFO 11 then s.hifReply f 0x27
    else
      ((s.putBytes hifRxBuf f.payload).wr Reg.HIF1_RXINFO
        (word (f.len + 2 ^ 11 + f.op * 2 ^ 16 + f.seq * 2 ^ 24))).event 216))

/-! ### HIF-2 -/

/-- HIF-2 serves its host: pads carry its clock, data and chip select (R636). -/
def State.hif2On (s : State) : Bool := s.hifOn 1 && s.wired [0x20, 0x21, 0x23]

/-- The bytes that the SPI target sends. -/
def State.spiSend (s : State) (l : List Byte) : State := { s with hif := { s.hif with spi := l } }

/-- The address an HIF-2 transaction names (R562). -/
def State.hif2Addr (s : State) (a : Nat) : Nat := s.rdF Reg.HIF2_WIN 16 16 * 2 ^ 16 + a / 4 * 4

/-- Words written through HIF-2 one by one; an error does not stop the next. False when one must wait. -/
def State.hostAll (s : State) (a : Nat) : List Nat → Bool × State
  | [] => (true, s)
  | v :: t =>
    match s.hostWrite 2 a 4 v with
    | (.wait, u) => (false, u)
    | (_, u) => u.hostAll (a + 4) t

/-- HIF2_WRITE: each whole word is issued, sixteen at most; a word cut short is counted (R562, R563). A write that must
wait is kept (R34). -/
def execHif2Write (addr : Fin 65536) (data : List Byte) (s : State) : Out :=
  if !s.hif2On then .next s
  else if s.hostHeld then .next (s.holdCmd (.hif2Write addr data))
  else
    let r := s.hostAll (s.hif2Addr addr) ((wordsOf data).take 16)
    if !r.1 then .next ((s.keepReads r.2).holdCmd (.hif2Write addr data))
    else .next (if data.length % 4 = 0 then r.2 else r.2.hifErr 1)

/-- The words of an HIF-2 READ; a word whose access ends with an error response has no stated value. None when one
waits. -/
def State.hif2Words (s : State) (a : Nat) : Nat → Option (List Byte) × State
  | 0 => (some [], s)
  | n + 1 =>
    match s.hostRead 2 a 4 with
    | (.wait, t) => (none, t)
    | (.error, t) =>
      let f := t.takeFreeBytes 4
      match f.2.hif2Words (a + 4) n with
      | (some l, u) => (some (f.1 ++ l), u)
      | r => r
    | (.data v, t) =>
      match t.hif2Words (a + 4) n with
      | (some l, u) => (some (leBytes 4 v ++ l), u)
      | r => r

/-- HIF2_READ: 0xA5 and the words, or 0x5E and a count when the data is not ready in time (R562, R564). -/
def execHif2Read (addr : Fin 65536) (count : Fin 256) (slow : Bool) (s : State) : Out :=
  if !s.hif2On then .next s
  else if slow || s.hostHeld then .next ((s.hifErr 1).spiSend [0x5E])
  else match s.hif2Words (s.hif2Addr addr) (min 16 count.val) with
    | (some l, t) => .next (t.spiSend (0xA5 :: l))
    | (none, t) => .next (((s.keepReads t).hifErr 1).spiSend [0x5E])

/-- The STATUS byte; it clears the record of errors (R562). -/
def State.statusByte (s : State) : State :=
  let b := 1 + b2n s.hif.errSeen * 2 + b2n s.hifIrq * 4
  ({ s with hif := { s.hif with errSeen := false } }).spiSend [byte b]

/-- HIF2_STATUS (R562). -/
def execHif2Status (s : State) : Out := if s.hif2On then .next s.statusByte else .next s

/-- HIF2_WINDOW (R562). -/
def execHif2Window (base : Word) (s : State) : Out :=
  if s.hif2On then .next (s.wr Reg.HIF2_WIN (base &&& 0xFFFF0000)) else .next s

/-! ### HIF-3 -/

/-- HIF-3 is present and enabled. -/
def State.hif3On (s : State) : Bool := s.present 25 && s.hifOn 2

/-- An address that HIF-3 reaches (R567). -/
def hif3Reach (a : Nat) : Bool := region a == .sram || a / 0x1000 == 0x40048

/-- An HIF-3 access outside its reach is counted, with event 221 (R567). -/
def State.hif3Out (s : State) (c : Bool) : State := if c then (s.hifErr 2).hifErrEvent else s

/-- The bytes of an HIF-3 write, word by word where aligned; those out of reach are discarded. -/
def State.hif3Put (s : State) (a : Nat) : Nat → List Byte → State
  | 0, _ => s
  | n + 1, l =>
    if l.isEmpty then s
    else
      let k := if a % 4 = 0 && 4 ≤ l.length then 4 else 1
      let s1 := if hif3Reach a then (s.hostWrite 3 a k (leNat (l.take k))).2 else s
      s1.hif3Put (a + k) n (l.drop k)

/-- The bytes of an HIF-3 read; zeros out of reach. -/
def State.hif3Get (s : State) (a : Nat) : Nat → Nat → List Byte × State
  | 0, _ => ([], s)
  | b + 1, n =>
    if n = 0 then ([], s)
    else
      let k := if a % 4 = 0 && 4 ≤ n then 4 else 1
      let r : Ans × State := if hif3Reach a then s.hostRead 3 a k else (.data 0, s)
      let v := match r.1 with | .data v => v | _ => 0
      let t := r.2.hif3Get (a + k) b (n - k)
      (leBytes k v ++ t.1, t.2)

/-- Some byte of a transaction lies out of HIF-3's reach. -/
def hif3Beyond (a n : Nat) : Bool := (List.range n).any (fun i => !hif3Reach (a + i))

/-- HIF3_WRITE: at most 4,096 bytes at rising addresses (R566, R567). -/
def execHif3Write (addr : Word) (data : List Byte) (s : State) : Out :=
  let l := data.take 4096
  if s.hif3On then .next ((s.hif3Put addr.toNat l.length l).hif3Out (hif3Beyond addr.toNat l.length)) else .next s

/-- HIF3_READ: at most 4,096 bytes from rising addresses (R566, R567). -/
def execHif3Read (addr : Word) (n : Fin 4097) (s : State) : Out :=
  if s.hif3On then
    let r := s.hif3Get addr.toNat n.val n.val
    .next ((r.2.spiSend r.1).hif3Out (hif3Beyond addr.toNat n.val))
  else .next s

/-- HIF3_STATUS (R566). -/
def execHif3Status (s : State) : Out := if s.hif3On then .next s.statusByte else .next s

/-! ### Host rings (R569 to R575) -/

/-- A submission entry. -/
structure RingEntry where
  op     : Nat
  flags  : Nat
  queue  : Nat
  addr   : Nat
  len    : Nat
  cookie : Nat
  zero   : Nat
  deriving DecidableEq, Repr

/-- The submission entry at a ring's head. -/
def State.ringEntry (s : State) (r : Nat) : RingEntry :=
  let l := s.bytesAt ((s.rd (Reg.RING_SQ_BASE r)).toNat + 16 * s.rdF (Reg.RING_SQ_HEAD r) 0 10) 16
  ⟨b1 l 0, b1 l 1, b2 l 2, b4 l 4, b2 l 8, b2 l 10, b4 l 12⟩

/-- A range lies in main SRAM. -/
def inSram (a n : Nat) : Bool := 0x20000000 ≤ a && a + n ≤ 0x20060000

/-- An entry that completes with BAD_ENTRY (R572). -/
def RingEntry.bad (e : RingEntry) : Bool :=
  e.op == 0 || 6 < e.op || e.zero != 0 || ((e.op == 1 || e.op == 2) && !inSram e.addr e.len)

/-- A ring has a pending entry and room for its completion, counting those still to be posted (R573, R574). -/
def State.ringReady (s : State) (r : Nat) : Bool :=
  let n := s.ringSize r
  let used := (s.rdF (Reg.RING_CQ_TAIL r) 0 10 + n - s.rdF (Reg.RING_CQ_HEAD r) 0 10 % n) % n
  s.bit (Reg.RING_CFG r) 8 && s.rdF (Reg.RING_SQ_HEAD r) 0 10 != s.rdF (Reg.RING_SQ_TAIL r) 0 10 &&
    decide (used + (s.hif.posts.filter (fun p => p.ring == r)).length + 1 < n)

/-- The ring whose turn it is (R573). -/
def State.nextRing (s : State) : Option Nat :=
  if s.present 25 && s.boot.phase == .app && !s.asleep then
    ((List.range 4).map (fun i => (s.hif.turn + i) % 4)).find? s.ringReady
  else none

/-- An entry of a ring has been served: its head and the turn move on, and its completion is to be posted. -/
def State.ringDone (s : State) (r : Nat) (e : RingEntry) (status word1 : Nat) : State :=
  let s1 := s.wrF (Reg.RING_SQ_HEAD r) 0 10 ((s.rdF (Reg.RING_SQ_HEAD r) 0 10 + 1) % s.ringSize r)
  { s1 with hif := { s1.hif with
      turn := (r + 1) % 4, posts := s1.hif.posts ++ [⟨r, e.cookie, status, e.op, word1⟩] } }

/-- The next entry in turn is served if it is the one a row stands for; a bad one completes with BAD_ENTRY, counted
(R572), its WORD free. -/
def State.ringRow (s : State) (op : Nat) (act : Nat → RingEntry → State) : State :=
  match s.nextRing with
  | none => s
  | some r =>
    let e := s.ringEntry r
    if e.bad then ((s.hifErr 3).openTaken false).ringDone r e 0x10 (s.openVal false 0 (2 ^ 32))
    else if e.op = op then act r e
    else s

/-- A queue command of an entry on the HIF port; it waits for a bank not yet restored. -/
def State.ringCmd (s : State) (r : Nat) (e : RingEntry) (c : QCmd) : State :=
  if s.qeWaits 2 c then s
  else
    let q := s.qeNow 2 c
    q.s.ringDone r e q.status q.word1

/-- RING_ENQUEUE (R571). -/
def execRingEnqueue (s : State) : Out :=
  .next (s.ringRow 1 (fun r e =>
    match s.hifEnqueue e.queue (s.bytesAt e.addr e.len) with
    | some (st, w, t) => t.ringDone r e st w
    | none => s))

/-- RING_FETCH: the head frame is dequeued, copied up to LEN and released; SHORT_BUF when it is longer (R571). -/
def execRingFetch (s : State) : Out :=
  .next (s.ringRow 2 (fun r e =>
    let c : QCmd := { cmd := 2, flag := true, queue := e.queue }
    if s.qeWaits 2 c then s
    else
      let q := s.qeNow 2 c
      if q.status ≠ 0 then q.s.ringDone r e q.status q.word1
      else
        let cell := q.word1 % 65536
        let len := q.word1 / 65536
        let t := q.s.putBytes e.addr ((q.s.frameBytes cell).take e.len)
        (t.releaseFrame cell).2.ringDone r e (if e.len < len then 0x11 else 0) (len * 65536)))

/-- RING_FLUSH (R571). -/
def execRingFlush (s : State) : Out :=
  .next (s.ringRow 3 (fun r e => s.ringCmd r e { cmd := 5, queue := e.queue }))

/-- RING_PAUSE (R571). -/
def execRingPause (s : State) : Out :=
  .next (s.ringRow 4 (fun r e => s.ringCmd r e { cmd := 6, flag := e.flags.testBit 0, queue := e.queue }))

/-- RING_RESUME (R571). -/
def execRingResume (s : State) : Out :=
  .next (s.ringRow 5 (fun r e =>
    s.ringCmd r e { cmd := 7, flag := e.flags.testBit 0, cls := e.flags / 16, queue := e.queue }))

/-- RING_MOVE (R571). -/
def execRingMove (s : State) : Out :=
  .next (s.ringRow 6 (fun r e => s.ringCmd r e { cmd := 4, queue := e.queue, arg := e.addr % 65536 }))

/-- RING_COMPLETION_POST: the oldest completion is written to its ring; CQ_TAIL, HIF_IRQ_PEND and event 220 follow
(R573, R574). -/
def execRingCompletionPost (s : State) : Out :=
  match s.hif.posts with
  | [] => .next s
  | p :: t =>
    let at_ := (s.rd (Reg.RING_CQ_BASE p.ring)).toNat + 8 * s.rdF (Reg.RING_CQ_TAIL p.ring) 0 10
    let s1 := (State.hostPuts { s with hif := { s.hif with posts := t } } 3 at_
      [p.cookie + p.status * 2 ^ 16 + p.op * 2 ^ 24, p.word1]).2
    let s2 := s1.wrF (Reg.RING_CQ_TAIL p.ring) 0 10 ((s.rdF (Reg.RING_CQ_TAIL p.ring) 0 10 + 1) % s.ringSize p.ring)
    .next ((s2.setB Reg.HIF_IRQ_PEND p.ring true).event 220)

end Sys2Proof.Machine
end

