-- ==== Sys2Proof/Machine/Recall.lean ====
section
/-! DEFINITION. Recall of resources by the fault collector (16). -/

namespace Sys2Proof.Machine

/-- The mover channel that feeds a data port of the store die. -/
def State.feeder (s : State) (port : Nat) : Option Nat :=
  (List.range 16).find? (fun k =>
    (s.mvState k = 1 || s.mvState k = 2) &&
      (match mapGet s.mover.desc k with | some d => d.dst == Reg.STOR_WDATA0 + 4 * port | none => false))

/-- The code of a resource's holder: a master's number, or 0x80 and a mover channel (notes/assumptions/46.md); none when
nothing holds it. -/
def State.holder (s : State) : Recallable → Option Nat
  | .plane p => (s.loadingOp p).map (fun o =>
      match s.feeder (o.sector % 2) with
      | some k => 0x80 + k
      | none => masterId o.master)
  | .spineS _ => (s.outMasters .store).head?.map masterId
  | .spineF => (s.outMasters .front).head?.map masterId
  | .port m => (s.outDie m).map (fun _ => masterId m)
  | .custodian => if (List.range 4).any (fun k => (s.mb k).phase == .running) then some 1 else none

/-- The oldest outstanding transaction of a spine, of one master or of any, ends with an error response; a line read that
waits at the store die is one (R423). -/
def State.endTransaction (s : State) (die : Die) (m : Option Master) : State :=
  let sp := s.spine die
  let mine (x : Master) : Bool := m.all (· == x)
  match sp.outst.find? (fun r => mine r.master) with
  | some r =>
    (s.setSpineSt die { sp with
      outst := sp.outst.erase r, replay := sp.replay.eraseP (fun p => p.req == r) }).answerError
  | none =>
    if die == .store && s.store.reads.any (fun r => mine r.1) then
      ({ s with store := { s.store with reads := s.store.reads.eraseP (fun r => mine r.1) } }).answerError
    else s

/-- The recall action of a resource (R544). -/
def State.recallAction (s : State) : Recallable → State
  | .plane p =>
    match s.loadingOp p with
    | some o =>
      let s1 := match s.feeder (o.sector % 2) with
        | some k => s.mvStop k 5
        | none => s
      (s1.endOp o 12 0).storeSync
    | none => s
  | .spineS noFlit => if noFlit then s.sbrStore else s.endTransaction .store none
  | .spineF => s.sbrFront
  | .port m =>
    match s.outDie m with
    | some die => s.endTransaction die (some m)
    | none => s
  | .custodian => s.enclaveRestart

/-- The detail of a recall's slip: the resource and its holder. -/
def recallDetail (code holder : Nat) : Nat := code + holder * 256

/-- RECALL: a waiter has waited RECALL_TICKS while the holder made no progress: the recall action, its slip, count,
record and event 8 (R544, R545). None without that wait, after progress (R556), and while the resource may not be recalled a
second time (R546). -/
def execRecallHolder (res : Recallable) (s : State) : Out :=
  let c := recallCode res
  match s.holder res with
  | none => .next s
  | some h =>
    if s.fault.noRecall.contains (recallKey res) || !s.recallDue res then .next s
    else
      let s1 := s.recallAction res
      let s2 := if c = 5 then s1.slip 4 0x0D 1 0 else s1.slip 4 0x0B 1 (recallDetail c h)
      let s3 := ((s2.satAdd Reg.FAULT_COUNT 24 8).wr Reg.FAULT_RECALL (word (recallDetail c h + 2 ^ 31))).event 8
      .next { s3 with fault := { s3.fault with
        waits := mapErase s3.fault.waits (recallKey res),
        recalled := s3.fault.recalled.filter (fun p => recallKey p.1 != recallKey res) ++ [(res, 0)] } }

/-- RECALL_OUTCOME_CHECK: RECALL_TICKS after the action, a resource that is not idle gives a severe slip and is not
recalled again until the escalation has been cleared (R546). -/
def execRecallOutcomeCheck (res : Recallable) (s : State) : Out :=
  let c := recallCode res
  let k := recallKey res
  if !s.fault.recalled.any (fun p => recallKey p.1 == k && decide (s.recallTicks ≤ p.2)) then .next s
  else
    let s1 := { s with fault := { s.fault with recalled := s.fault.recalled.filter (fun p => recallKey p.1 != k) } }
    if s.resIdle res then .next s1
    else
      let d := if s.rdF Reg.FAULT_RECALL 0 8 = c then s.rdF Reg.FAULT_RECALL 0 16
        else recallDetail c ((s.holder res).getD 0)
      let s2 := (s1.slip 4 0x0C 2 d).setB Reg.FAULT_RECALL 16 true
      .next { s2 with fault := { s2.fault with noRecall := s2.fault.noRecall ++ [k] } }

end Sys2Proof.Machine
end

