-- ==== Sys2Proof/Machine/Tasks.lean ====
section
/-! DEFINITION. The task inputs (R190): what each delivered task does, and a PERCLK cycle of the fabric with its tasks. -/

namespace Sys2Proof.Machine

/-- A task of a timer: START, STOP, CLEAR, CAP0 to CAP3. -/
def timerTask (t : Fin 8) (k : Nat) (s : State) : Out :=
  match k with
  | 0 => execTimerStart t s
  | 1 => execTimerStop t s
  | 2 => execTimerClear t s
  | 3 => execTimerCapture t 0 s
  | 4 => execTimerCapture t 1 s
  | 5 => execTimerCapture t 2 s
  | 6 => execTimerCapture t 3 s
  | _ => .next s

/-- A task input takes its pulse: the unit's action, as the table "Task inputs" gives it (R190). A request of the mover
meets requests that still wait where some are pending. -/
def State.runTask (s : State) (n : Nat) : State :=
  after (
    if n < 64 then timerTask (Fin.ofNat 8 (n / 8)) (n % 8) s
    else if n < 80 then execMoverPacedRequest (Fin.ofNat 16 (n - 64)) (s.mvPend (n - 64) != 0) s
    else if n < 88 then match n with
      | 80 => execAdcStart s
      | 81 => execAdcSeq s
      | 82 => execAdcStop s
      | 84 => execPanelFlip s
      | 85 => execPanelPowerOn s
      | 86 => execPanelPowerOff s
      | _ => .next s
    else if n < 96 then execGpioTaskPort (Fin.ofNat 8 (n - 88)) s
    else if n < 128 then execAiropFabricTask (Fin.ofNat 32 (n - 96)) s
    else match n with
      | 160 => execTamperTrip 0 s
      | 161 => execTamperTrip 1 s
      | 168 => execRelStart none 0 s
      | 169 => execRelStart none 1 s
      | 170 => execRelDrop none 0 s
      | 171 => execRelDrop none 1 s
      | 176 => execSpiStart 0 true s
      | 177 => execSpiStart 1 true s
      | 178 => execUartSendTask 0 s
      | 179 => execUartSendTask 1 s
      | _ => .next s) s

/-- A PERCLK cycle of the fabric ends, and the next begins with the tasks it has delivered, in ascending order. -/
def State.fabricPerclk (s : State) : State :=
  let s1 := s.fabricCycle
  ((List.range 256).filter (fun n => s1.fab.taskNow.contains n)).foldl State.runTask s1

/-- FABRIC_CHANNEL_FIRE: one PERCLK cycle of the fabric (R191). Nothing runs in Nap and Hibernate. -/
def execFabricChannelFire (s : State) : Out :=
  if s.asleep then .next s else .next s.fabricPerclk

end Sys2Proof.Machine
end

