-- ==== Sys2Proof/Machine/Tick.lean ====
section
/-! DEFINITION. The root-clock monitor's rows (05), and what idle time does: one ROOT cycle while the part is awake, one
sleep-crystal tick in Nap and Hibernate (notes/assumptions/8.md). -/

namespace Sys2Proof.Machine

/-- The core die is out of reset: the application or annex mode runs. -/
def State.coreRuns (s : State) : Bool := s.boot.phase == .app || s.boot.phase == .annex

/-- A kept command is presented again. -/
def State.presentHeld (s : State) (c : HeldCmd) : State :=
  let r := match c with
    | .hif1Read l => execHif1Read l s
    | .hif1Write l => execHif1Write l s
    | .hif1Enqueue l => execHif1Enqueue l s
    | .hif2Write a d => execHif2Write a d s
    | .panelFlip => execPanelFlip s
    | .panelRefresh => execPanelRefresh s
    | .panelPowerDelay => execPanelPowerDelayEnd s
    | .panelDeferred => execPanelDeferredFlip s
    | .linkPut q l sec => if s.putWaits q l.length then .next (s.holdCmd c) else .next (s.putLate q l sec)
    | .linkDequeue q => .next (s.linkDequeue q)
  match r with
  | .next t => t
  | _ => s

/-- What waits for a far die is presented again, in order (R34, R387, R423). -/
def State.retry (s : State) : State :=
  (s.held.foldl State.presentHeld { s with held := [] }).catResume.pendingFlip

/-- A pending request for recalibration waits one tick more; the wait stands still under the brown-out warning (R303,
R309). -/
def State.calTick (s : State) : State :=
  if s.bit Reg.CAL_STATUS 0 && !s.cal.began && !s.bit Reg.PWR_STATUS 0 then
    { s with cal := { s.cal with waited := s.cal.waited + 1 } }
  else s

/-- The SLOWCLK ticks of each band's running bucket, in the backup domain: those of the band table in force, and those
that already count (R332). -/
def State.bandTick (s : State) : State :=
  { s with link := { s.link with bandTicks :=
      ((List.range 8).filter (fun b => b < s.bandCount || (mapGet s.link.bandTicks b).isSome)).foldl (fun m b => mapIns (mapErase m b) b ((mapGet m b).getD 0 + 1)) s.link.bandTicks } }

/-- A SLOWCLK tick: the watchdog, the grace timer, cells 28 to 31, the waits counted in ticks. -/
def State.slowTick (s : State) : State := s.wdogTick.graceTick.recallTick.evalBackup.calTick.bandTick

/-- The marks of the PERCLK cycle that has ended. -/
def State.endPerclkMarks (s : State) : State :=
  { s with cyc := { s.cyc with
      cntWritten := [], cleared := [], c0Cleared := [], stopped := [], ccWritten := [], captured := [], gpioBase := [],
      ports := [], slips := [] } }

/-- The marks of the SYSCLK cycles that have ended. -/
def State.endSysclkMarks (s : State) : State :=
  { s with cyc := { s.cyc with armed := [], cancelled := [], relStarts := [], relDrops := [], hifWrites := [], rings := none, requests := [], severe := false } }

/-- From a PERCLK cycle to the next: the pads are sampled (R680), the timers move on (R161), and the fabric carries the
cycle's pulses (R191). -/
def State.perclk (s : State) : State :=
  let s1 := (List.range 8).foldl (fun t k => t.timerPerclk k) s.samplePads.endPerclkMarks
  if s1.fabricQuiet then s1 else s1.fabricPerclk

/-- ROOT cycles in a PERCLK cycle: SYSCLK is 2 × ROOT on the PLL and ROOT in bypass (05). -/
def State.rootPerPerclk (s : State) : Nat := if s.bit Reg.CLK_STATUS 0 then 2 else 4

/-- The chronicle in one ROOT cycle: it gains one fraction step (R139), or holds it where one is to be lost (R142). -/
def State.rootStep (s : State) : State :=
  let c := { s.chron with slow := (s.chron.slow + 1) % 1024, rateW := false }
  if 0 < s.chron.lag then { s with chron := { c with lag := s.chron.lag - 1 } } else { s with chron := c }.advance 1

/-- The SYSCLK cycles of one ROOT cycle for a running INIT: two on the PLL, one in bypass (R385; 05). -/
def State.initRoot (s : State) : State := if s.bit Reg.CLK_STATUS 0 then s.initCycle.initCycle else s.initCycle

/-- One ROOT cycle of an awake part: the chronicle moves; at a SLOWCLK tick that tick's work is done, at the end of a
PERCLK cycle that cycle's; what waits for a far die is presented again. -/
def State.rootCycle (s : State) : State :=
  let s1 := s.endSysclkMarks.rootStep
  if s.coreRuns then
    let s2 := if s1.chron.slow = 0 then s1.slowTick else s1
    (if s1.chron.slow % s.rootPerPerclk = 0 then s2.perclk else s2).initRoot.retry
  else if s1.chron.slow = 0 then s1.bandTick
  else s1

/-- One tick in Nap or Hibernate: the chronicle gains 1,024 fraction steps (R140), and the pads are sampled (R624). -/
def State.sleepTick (s : State) : State :=
  (({ s with cyc := {}, chron := { s.chron with slow := 0, rateW := false } }).advance 1024).slowTick.samplePads

/-- What a step does when no command waits. Without a sleep clock nothing happens in sleep (R676). -/
def State.idle (s : State) : State :=
  if s.isHeld then s
  else if s.asleep then (if s.chron.clockless then s else s.sleepTick)
  else s.rootCycle

/-- ROOT_MONITOR_FAIL: the count of a sleep-crystal period; the second in a row outside 1,014 to 1,034 trips tamper input
3 and resets the part as a fault escalation (R136). -/
def execRootMonitorFail (count : Nat) (s : State) : Out :=
  if s.asleep || s.isHeld then .next s
  else
    let s1 := s.wrF Reg.CLK_MON 0 11 (min count 2047)
    let bad := count < 1014 || 1034 < count
    if bad && 1 ≤ s.chron.rootBad then .next ((s1.tamperTrip 3).warmReset .fault)
    else .next { s1 with chron := { s1.chron with rootBad := if bad then 1 else 0 } }

/-- SLEEP_CRYSTAL_EDGE: the sleep crystal has resumed: the fallback ends and the edge is a tick of sleep (R676). -/
def execSleepCrystalEdge (s : State) : Out :=
  let s1 : State := { s with chron := { s.chron with clockless := false } }
  if s.asleep && !s.isHeld then .next s1.sleepTick else .next s1

end Sys2Proof.Machine
end

