-- ==== Sys2Proof/Machine/Dispatch.lean ====
section
/-! DEFINITION. One arm per command: the meaning it calls. -/

namespace Sys2Proof.Machine

/-- The effect of a command on everything but the queue. -/
def exec (i : Instr) (s : State) : Host.Outcome State Fault Refusal :=
  match i with
  | .absentUnitRead m addr => Sys2Proof.Machine.execAbsentUnitRead m addr s
  | .absentUnitWrite m addr v => Sys2Proof.Machine.execAbsentUnitWrite m addr v s
  | .rcRegisterRead m addr => Sys2Proof.Machine.execRcRegisterRead m addr s
  | .registerWrite m addr v => Sys2Proof.Machine.execRegisterWrite m addr v s
  | .unmappedAccess m write addr => Sys2Proof.Machine.execUnmappedAccess m write addr s
  | .queueMemoryWrite m addr v => Sys2Proof.Machine.execQueueMemoryWrite m addr v s
  | .bufferLinkWordWrite m addr v => Sys2Proof.Machine.execBufferLinkWordWrite m addr v s
  | .farDieAccess m write addr v => Sys2Proof.Machine.execFarDieAccess m write addr v s
  | .farDieResponse die => Sys2Proof.Machine.execFarDieResponse die s
  | .storeStatusRead m addr => Sys2Proof.Machine.execStoreStatusRead m addr s
  | .spineRequestRepresented m => Sys2Proof.Machine.execSpineRequestRepresented m s
  | .spinePacketReceived die far seq crcOk => Sys2Proof.Machine.execSpinePacketReceived die far seq crcOk s
  | .spineNakReceived die far seq => Sys2Proof.Machine.execSpineNakReceived die far seq s
  | .spineAckTimeout die far => Sys2Proof.Machine.execSpineAckTimeout die far s
  | .timingStrobe target => Sys2Proof.Machine.execTimingStrobe target s
  | .sbrF => Sys2Proof.Machine.execSbrF s
  | .sbrFRelease => Sys2Proof.Machine.execSbrFRelease s
  | .frontPllLocked => Sys2Proof.Machine.execFrontPllLocked s
  | .spineTrainingDone die => Sys2Proof.Machine.execSpineTrainingDone die s
  | .sbrS => Sys2Proof.Machine.execSbrS s
  | .sbrSHold => Sys2Proof.Machine.execSbrSHold s
  | .retrainF => Sys2Proof.Machine.execRetrainF s
  | .retrainS => Sys2Proof.Machine.execRetrainS s
  | .catlVerify => Sys2Proof.Machine.execCatlVerify s
  | .catlApply => Sys2Proof.Machine.execCatlApply s
  | .catlSignatureDone refused => Sys2Proof.Machine.execCatlSignatureDone refused s
  | .catlStageFolio => Sys2Proof.Machine.execCatlStageFolio s
  | .catlSwitch => Sys2Proof.Machine.execCatlSwitch s
  | .catlSetActive app slot => Sys2Proof.Machine.execCatlSetActive app slot s
  | .catlRecordWritten => Sys2Proof.Machine.execCatlRecordWritten s
  | .catlCommit => Sys2Proof.Machine.execCatlCommit s
  | .catlRetire => Sys2Proof.Machine.execCatlRetire s
  | .powerOnReset env => Sys2Proof.Machine.execPowerOnReset env s
  | .brownOutReset => Sys2Proof.Machine.execBrownOutReset s
  | .rstNPulse ns => Sys2Proof.Machine.execRstNPulse ns s
  | .softwareReset key => Sys2Proof.Machine.execSoftwareReset key s
  | .debugReset => Sys2Proof.Machine.execDebugReset s
  | .resetHoldEnd => Sys2Proof.Machine.execResetHoldEnd s
  | .bootStart env => Sys2Proof.Machine.execBootStart env s
  | .bootStepTimeout env step => Sys2Proof.Machine.execBootStepTimeout env step s
  | .bootOk key => Sys2Proof.Machine.execBootOk key s
  | .errataClr v => Sys2Proof.Machine.execErrataClr v s
  | .errataMirrorRewrite => Sys2Proof.Machine.execErrataMirrorRewrite s
  | .gpioHoldRelease => Sys2Proof.Machine.execGpioHoldRelease s
  | .annexHello line => Sys2Proof.Machine.execAnnexHello line s
  | .annexBegin line => Sys2Proof.Machine.execAnnexBegin line s
  | .annexBeginErased failed => Sys2Proof.Machine.execAnnexBeginErased failed s
  | .annexData line failed => Sys2Proof.Machine.execAnnexData line failed s
  | .annexEnd line refused => Sys2Proof.Machine.execAnnexEnd line refused s
  | .annexReset line => Sys2Proof.Machine.execAnnexReset line s
  | .annexResetDelayExpiry => Sys2Proof.Machine.execAnnexResetDelayExpiry s
  | .rescueBlockReceived payload refused => Sys2Proof.Machine.execRescueBlockReceived payload refused s
  | .rescueEraseDone => Sys2Proof.Machine.execRescueEraseDone s
  | .brownOutWarning => Sys2Proof.Machine.execBrownOutWarning s
  | .brownOutRelease => Sys2Proof.Machine.execBrownOutRelease s
  | .wfiDoze => Sys2Proof.Machine.execWfiDoze s
  | .wfiNap => Sys2Proof.Machine.execWfiNap s
  | .wfiHibernate => Sys2Proof.Machine.execWfiHibernate s
  | .sleepBlockersClear => Sys2Proof.Machine.execSleepBlockersClear s
  | .napEntryAbort => Sys2Proof.Machine.execNapEntryAbort s
  | .wakeInstantReached => Sys2Proof.Machine.execWakeInstantReached s
  | .napWakeResume pllLocked => Sys2Proof.Machine.execNapWakeResume pllLocked s
  | .hibernateWake => Sys2Proof.Machine.execHibernateWake s
  | .pwrAlarmHiWrite v => Sys2Proof.Machine.execPwrAlarmHiWrite v s
  | .alarmFire => Sys2Proof.Machine.execAlarmFire s
  | .clkCtrlWrite v => Sys2Proof.Machine.execClkCtrlWrite v s
  | .corePllLock => Sys2Proof.Machine.execCorePllLock s
  | .corePllLockLoss => Sys2Proof.Machine.execCorePllLockLoss s
  | .rootMonitorFail count => Sys2Proof.Machine.execRootMonitorFail count s
  | .slowFail => Sys2Proof.Machine.execSlowFail s
  | .tickMonitorExpiry => Sys2Proof.Machine.execTickMonitorExpiry s
  | .chronicleTrimStep => Sys2Proof.Machine.execChronicleTrimStep s
  | .sleepMeasurementDone count => Sys2Proof.Machine.execSleepMeasurementDone count s
  | .chronStepArm => Sys2Proof.Machine.execChronStepArm s
  | .chronStepNow => Sys2Proof.Machine.execChronStepNow s
  | .chronStepCancel => Sys2Proof.Machine.execChronStepCancel s
  | .chronStepReached => Sys2Proof.Machine.execChronStepReached s
  | .disciplineStep => Sys2Proof.Machine.execDisciplineStep s
  | .chronResync => Sys2Proof.Machine.execChronResync s
  | .chronRateWrite v => Sys2Proof.Machine.execChronRateWrite v s
  | .chronLost openAt => Sys2Proof.Machine.execChronLost openAt s
  | .timerPrescaleExpiry t => Sys2Proof.Machine.execTimerPrescaleExpiry t s
  | .timerStart t => Sys2Proof.Machine.execTimerStart t s
  | .timerStop t => Sys2Proof.Machine.execTimerStop t s
  | .timerClear t => Sys2Proof.Machine.execTimerClear t s
  | .timerCapture t ch => Sys2Proof.Machine.execTimerCapture t ch s
  | .timerCntWrite t v => Sys2Proof.Machine.execTimerCntWrite t v s
  | .actionEntryWrite m j w v => Sys2Proof.Machine.execActionEntryWrite m j w v s
  | .actArm m v => Sys2Proof.Machine.execActArm m v s
  | .actCancel m v => Sys2Proof.Machine.execActCancel m v s
  | .actRelease m v => Sys2Proof.Machine.execActRelease m v s
  | .actTmpl m v => Sys2Proof.Machine.execActTmpl m v s
  | .actionFire => Sys2Proof.Machine.execActionFire s
  | .actionCatchUp => Sys2Proof.Machine.execActionCatchUp s
  | .fabricChannelFire => Sys2Proof.Machine.execFabricChannelFire s
  | .fabFire v => Sys2Proof.Machine.execFabFire v s
  | .fabSwev v => Sys2Proof.Machine.execFabSwev v s
  | .fabTaskWrite c second v => Sys2Proof.Machine.execFabTaskWrite c second v s
  | .fabCfgWrite c v => Sys2Proof.Machine.execFabCfgWrite c v s
  | .backupCellRise => Sys2Proof.Machine.execBackupCellRise s
  | .intcClaim m => Sys2Proof.Machine.execIntcClaim m s
  | .samplerOverload => Sys2Proof.Machine.execSamplerOverload s
  | .rangingCaptureEnd samples => Sys2Proof.Machine.execRangingCaptureEnd samples s
  | .radioFreqWrite tx v => Sys2Proof.Machine.execRadioFreqWrite tx v s
  | .radioFsmCmd v => Sys2Proof.Machine.execRadioFsmCmd v s
  | .strobeReceived parityOk => Sys2Proof.Machine.execStrobeReceived parityOk s
  | .frontTransitionEnd => Sys2Proof.Machine.execFrontTransitionEnd s
  | .returnLossLow path24 rl => Sys2Proof.Machine.execReturnLossLow path24 rl s
  | .tuningGapGrant power => Sys2Proof.Machine.execTuningGapGrant power s
  | .retuneDone first rest => Sys2Proof.Machine.execRetuneDone first rest s
  | .detectStage1 power => Sys2Proof.Machine.execDetectStage1 power s
  | .preambleQualified corr => Sys2Proof.Machine.execPreambleQualified corr s
  | .detectStage2Timeout => Sys2Proof.Machine.execDetectStage2Timeout s
  | .gen1SyncFound errors ref => Sys2Proof.Machine.execGen1SyncFound errors ref s
  | .headerDecoded header ref => Sys2Proof.Machine.execHeaderDecoded header ref s
  | .payloadEnd psdu meas => Sys2Proof.Machine.execPayloadEnd psdu meas s
  | .ltsWrite rate id => Sys2Proof.Machine.execLtsWrite rate id s
  | .ltsRead id => Sys2Proof.Machine.execLtsRead id s
  | .ltsRemove id => Sys2Proof.Machine.execLtsRemove id s
  | .ltsDerive rate => Sys2Proof.Machine.execLtsDerive rate s
  | .ltsDeriveDone => Sys2Proof.Machine.execLtsDeriveDone s
  | .laneEstimateUpdate lanes spur => Sys2Proof.Machine.execLaneEstimateUpdate lanes spur s
  | .temperatureEvaluation raw => Sys2Proof.Machine.execTemperatureEvaluation raw s
  | .calRequest => Sys2Proof.Machine.execCalRequest s
  | .calForce => Sys2Proof.Machine.execCalForce s
  | .calWaitExpiry => Sys2Proof.Machine.execCalWaitExpiry s
  | .blackoutGrant => Sys2Proof.Machine.execBlackoutGrant s
  | .forcedBlackoutStart => Sys2Proof.Machine.execForcedBlackoutStart s
  | .calFolioEnd ok lanes spur => Sys2Proof.Machine.execCalFolioEnd ok lanes spur s
  | .slotBoundary => Sys2Proof.Machine.execSlotBoundary s
  | .beaconSend => Sys2Proof.Machine.execBeaconSend s
  | .beaconAccepted psdu ref => Sys2Proof.Machine.execBeaconAccepted psdu ref s
  | .airopStart => Sys2Proof.Machine.execAiropStart s
  | .airopFabricTask k => Sys2Proof.Machine.execAiropFabricTask k s
  | .lbtListenEnd power => Sys2Proof.Machine.execLbtListenEnd power s
  | .transmissionOpen => Sys2Proof.Machine.execTransmissionOpen s
  | .budgetBucketAdvance band => Sys2Proof.Machine.execBudgetBucketAdvance band s
  | .receiveWindowClose => Sys2Proof.Machine.execReceiveWindowClose s
  | .ackReceived seq => Sys2Proof.Machine.execAckReceived seq s
  | .ackTimeout => Sys2Proof.Machine.execAckTimeout s
  | .linkFcntWrite k v => Sys2Proof.Machine.execLinkFcntWrite k v s
  | .macAssign src body => Sys2Proof.Machine.execMacAssign src body s
  | .macLtSet src body => Sys2Proof.Machine.execMacLtSet src body s
  | .macLtUse src body => Sys2Proof.Machine.execMacLtUse src body s
  | .joinSend => Sys2Proof.Machine.execJoinSend s
  | .joinRetry => Sys2Proof.Machine.execJoinRetry s
  | .floodRelay => Sys2Proof.Machine.execFloodRelay s
  | .linkOpSubmit m => Sys2Proof.Machine.execLinkOpSubmit m s
  | .linkOpCancel m k => Sys2Proof.Machine.execLinkOpCancel m k s
  | .linkOpRelease m k => Sys2Proof.Machine.execLinkOpRelease m k s
  | .nbrAdd => Sys2Proof.Machine.execNbrAdd s
  | .nbrRead key => Sys2Proof.Machine.execNbrRead key s
  | .nbrRemove key => Sys2Proof.Machine.execNbrRemove key s
  | .nbrReadIdx key => Sys2Proof.Machine.execNbrReadIdx key s
  | .qeEnqueue port m queue cell beside => Sys2Proof.Machine.execQeEnqueue port m queue cell beside s
  | .qeDequeue port m queue keep beside => Sys2Proof.Machine.execQeDequeue port m queue keep beside s
  | .qePeek port m queue beside => Sys2Proof.Machine.execQePeek port m queue beside s
  | .qeMove port m queue dstq beside => Sys2Proof.Machine.execQeMove port m queue dstq beside s
  | .qeFlush port m queue beside => Sys2Proof.Machine.execQeFlush port m queue beside s
  | .qePause port m queue drain beside => Sys2Proof.Machine.execQePause port m queue drain beside s
  | .qeResume port m queue cls clr beside => Sys2Proof.Machine.execQeResume port m queue cls clr beside s
  | .qeCompletionPosted port => Sys2Proof.Machine.execQeCompletionPosted port s
  | .qeRingCiWrite v => Sys2Proof.Machine.execQeRingCiWrite v s
  | .qeAlloc m v => Sys2Proof.Machine.execQeAlloc m v s
  | .qeRelease m v => Sys2Proof.Machine.execQeRelease m v s
  | .qeInit v => Sys2Proof.Machine.execQeInit v s
  | .qeBankRestored bank => Sys2Proof.Machine.execQeBankRestored bank s
  | .moverStart m ch => Sys2Proof.Machine.execMoverStart m ch s
  | .moverStop ch => Sys2Proof.Machine.execMoverStop ch s
  | .moverPacedRequest ch stalled => Sys2Proof.Machine.execMoverPacedRequest ch stalled s
  | .moverDescriptorDone ch => Sys2Proof.Machine.execMoverDescriptorDone ch s
  | .moverBusError ch addr => Sys2Proof.Machine.execMoverBusError ch addr s
  | .storeErase m addr => Sys2Proof.Machine.execStoreErase m addr s
  | .storeProgram m addr len => Sys2Proof.Machine.execStoreProgram m addr len s
  | .storeCheck m addr => Sys2Proof.Machine.execStoreCheck m addr s
  | .storeRefresh m addr => Sys2Proof.Machine.execStoreRefresh m addr s
  | .psCommit m slot => Sys2Proof.Machine.execPsCommit m slot s
  | .psRetire m slot => Sys2Proof.Machine.execPsRetire m slot s
  | .storeDataPortWrite plane v => Sys2Proof.Machine.execStoreDataPortWrite plane v s
  | .storeDoneClear v => Sys2Proof.Machine.execStoreDoneClear v s
  | .storeAbort v => Sys2Proof.Machine.execStoreAbort v s
  | .storePulseEnd plane pass => Sys2Proof.Machine.execStorePulseEnd plane pass s
  | .storeResume plane => Sys2Proof.Machine.execStoreResume plane s
  | .xipLineRead m addr decay => Sys2Proof.Machine.execXipLineRead m addr decay s
  | .patrolReadDue => Sys2Proof.Machine.execPatrolReadDue s
  | .patrolReadDone decay => Sys2Proof.Machine.execPatrolReadDone decay s
  | .patrolRefreshResume => Sys2Proof.Machine.execPatrolRefreshResume s
  | .storPsCfgWrite v => Sys2Proof.Machine.execStorPsCfgWrite v s
  | .secmbDoorbell m v => Sys2Proof.Machine.execSecmbDoorbell m v s
  | .aesEcb k => Sys2Proof.Machine.execAesEcb k s
  | .aesCbc k => Sys2Proof.Machine.execAesCbc k s
  | .aesCtr k => Sys2Proof.Machine.execAesCtr k s
  | .aesCcm k => Sys2Proof.Machine.execAesCcm k s
  | .aesCmac k => Sys2Proof.Machine.execAesCmac k s
  | .sha256 k => Sys2Proof.Machine.execSha256 k s
  | .hmac k => Sys2Proof.Machine.execHmac k s
  | .ecdsaSign k => Sys2Proof.Machine.execEcdsaSign k s
  | .ecdsaVerify k => Sys2Proof.Machine.execEcdsaVerify k s
  | .ecdh k => Sys2Proof.Machine.execEcdh k s
  | .ecKeygen k => Sys2Proof.Machine.execEcKeygen k s
  | .keyDerive k => Sys2Proof.Machine.execKeyDerive k s
  | .random k => Sys2Proof.Machine.execRandom k s
  | .keyImport k => Sys2Proof.Machine.execKeyImport k s
  | .keyExport k => Sys2Proof.Machine.execKeyExport k s
  | .keyPurge k => Sys2Proof.Machine.execKeyPurge k s
  | .keyInfo k => Sys2Proof.Machine.execKeyInfo k s
  | .keyRestrict k => Sys2Proof.Machine.execKeyRestrict k s
  | .idChallenge k => Sys2Proof.Machine.execIdChallenge k s
  | .attest k => Sys2Proof.Machine.execAttest k s
  | .lifecycle k => Sys2Proof.Machine.execLifecycle k s
  | .unlockNonce k => Sys2Proof.Machine.execUnlockNonce k s
  | .unlock k => Sys2Proof.Machine.execUnlock k s
  | .mailboxRequestDone k => Sys2Proof.Machine.execMailboxRequestDone k s
  | .refusalWindowEnd k => Sys2Proof.Machine.execRefusalWindowEnd k s
  | .secmbDoneClear v => Sys2Proof.Machine.execSecmbDoneClear v s
  | .trngHealthFail => Sys2Proof.Machine.execTrngHealthFail s
  | .tamperTrip k => Sys2Proof.Machine.execTamperTrip k s
  | .temperatureTamperCheck temp => Sys2Proof.Machine.execTemperatureTamperCheck temp s
  | .supplyGlitch => Sys2Proof.Machine.execSupplyGlitch s
  | .relStart src ch => Sys2Proof.Machine.execRelStart src ch s
  | .relDrop src ch => Sys2Proof.Machine.execRelDrop src ch s
  | .relRendezvous ch power join => Sys2Proof.Machine.execRelRendezvous ch power join s
  | .relOpenReceived ch desk src target nd challenge ranging delta => Sys2Proof.Machine.execRelOpenReceived ch desk src target nd challenge ranging delta s
  | .relDecision ch resp offset replies times confirm => Sys2Proof.Machine.execRelDecision ch resp offset replies times confirm s
  | .relVerdictReceived ch verdict => Sys2Proof.Machine.execRelVerdictReceived ch verdict s
  | .lockLineMessageEnd ch => Sys2Proof.Machine.execLockLineMessageEnd ch s
  | .relSessionEnd ch => Sys2Proof.Machine.execRelSessionEnd ch s
  | .doorInEdge n level => Sys2Proof.Machine.execDoorInEdge n level s
  | .relFailclr v => Sys2Proof.Machine.execRelFailclr v s
  | .slipIntake src => Sys2Proof.Machine.execSlipIntake src s
  | .stickyClear j v => Sys2Proof.Machine.execStickyClear j v s
  | .graceExpiry => Sys2Proof.Machine.execGraceExpiry s
  | .faultInject v => Sys2Proof.Machine.execFaultInject v s
  | .traceSlipRead m => Sys2Proof.Machine.execTraceSlipRead m s
  | .traceStatWrite m => Sys2Proof.Machine.execTraceStatWrite m s
  | .recallHolder res => Sys2Proof.Machine.execRecallHolder res s
  | .recallOutcomeCheck res => Sys2Proof.Machine.execRecallOutcomeCheck res s
  | .frontPllUnlock => Sys2Proof.Machine.execFrontPllUnlock s
  | .regulatorOutOfRange r => Sys2Proof.Machine.execRegulatorOutOfRange r s
  | .wdogFeed key => Sys2Proof.Machine.execWdogFeed key s
  | .wdogWarning => Sys2Proof.Machine.execWdogWarning s
  | .wdogReset => Sys2Proof.Machine.execWdogReset s
  | .wdogLimitWrite limit v => Sys2Proof.Machine.execWdogLimitWrite limit v s
  | .wdogLock => Sys2Proof.Machine.execWdogLock s
  | .hif1Hello line => Sys2Proof.Machine.execHif1Hello line s
  | .hif1Read line => Sys2Proof.Machine.execHif1Read line s
  | .hif1Write line => Sys2Proof.Machine.execHif1Write line s
  | .hif1Enqueue line => Sys2Proof.Machine.execHif1Enqueue line s
  | .hif1SoftwareFrame line => Sys2Proof.Machine.execHif1SoftwareFrame line s
  | .hif1Rxdone v => Sys2Proof.Machine.execHif1Rxdone v s
  | .hif1Txctrl v => Sys2Proof.Machine.execHif1Txctrl v s
  | .hif1TxDone => Sys2Proof.Machine.execHif1TxDone s
  | .hif2Write addr data => Sys2Proof.Machine.execHif2Write addr data s
  | .hif2Read addr count slow => Sys2Proof.Machine.execHif2Read addr count slow s
  | .hif2Status => Sys2Proof.Machine.execHif2Status s
  | .hif2Window base => Sys2Proof.Machine.execHif2Window base s
  | .hifDbInWrite third v => Sys2Proof.Machine.execHifDbInWrite third v s
  | .hifDbOutWrite m v => Sys2Proof.Machine.execHifDbOutWrite m v s
  | .hif3Write addr data => Sys2Proof.Machine.execHif3Write addr data s
  | .hif3Read addr n => Sys2Proof.Machine.execHif3Read addr n s
  | .hif3Status => Sys2Proof.Machine.execHif3Status s
  | .ringSqTailWrite r v => Sys2Proof.Machine.execRingSqTailWrite r v s
  | .ringEnqueue => Sys2Proof.Machine.execRingEnqueue s
  | .ringFetch => Sys2Proof.Machine.execRingFetch s
  | .ringFlush => Sys2Proof.Machine.execRingFlush s
  | .ringPause => Sys2Proof.Machine.execRingPause s
  | .ringResume => Sys2Proof.Machine.execRingResume s
  | .ringMove => Sys2Proof.Machine.execRingMove s
  | .ringCompletionPost => Sys2Proof.Machine.execRingCompletionPost s
  | .hifHostBusError => Sys2Proof.Machine.execHifHostBusError s
  | .panelFlip => Sys2Proof.Machine.execPanelFlip s
  | .panelRefresh => Sys2Proof.Machine.execPanelRefresh s
  | .panelPowerOn => Sys2Proof.Machine.execPanelPowerOn s
  | .panelPowerOff => Sys2Proof.Machine.execPanelPowerOff s
  | .panelPowerDelayEnd => Sys2Proof.Machine.execPanelPowerDelayEnd s
  | .panelDelayEnd => Sys2Proof.Machine.execPanelDelayEnd s
  | .panelBusyInactive => Sys2Proof.Machine.execPanelBusyInactive s
  | .panelBusyTimeout => Sys2Proof.Machine.execPanelBusyTimeout s
  | .panelScriptEnd => Sys2Proof.Machine.execPanelScriptEnd s
  | .panelDeferredFlip => Sys2Proof.Machine.execPanelDeferredFlip s
  | .panelHoldExpiry => Sys2Proof.Machine.execPanelHoldExpiry s
  | .spiStart n task => Sys2Proof.Machine.execSpiStart n task s
  | .spiTargetFrame n data => Sys2Proof.Machine.execSpiTargetFrame n data s
  | .spiTransferEnd n rx => Sys2Proof.Machine.execSpiTransferEnd n rx s
  | .uartByteReceived n b ferr perr brk => Sys2Proof.Machine.execUartByteReceived n b ferr perr brk s
  | .uartRxTimeout n => Sys2Proof.Machine.execUartRxTimeout n s
  | .uartDataWrite n v => Sys2Proof.Machine.execUartDataWrite n v s
  | .uartSendTask n => Sys2Proof.Machine.execUartSendTask n s
  | .uartTxEmpty n => Sys2Proof.Machine.execUartTxEmpty n s
  | .i2cXfer n v lost asTarget => Sys2Proof.Machine.execI2cXfer n v lost asTarget s
  | .i2cClear n free => Sys2Proof.Machine.execI2cClear n free s
  | .i2cBusBusyTimeout n => Sys2Proof.Machine.execI2cBusBusyTimeout n s
  | .i2cSclTimeout n => Sys2Proof.Machine.execI2cSclTimeout n s
  | .i2cSdaStuckTimeout n free => Sys2Proof.Machine.execI2cSdaStuckTimeout n free s
  | .i2cStopSeen n at_ data taken => Sys2Proof.Machine.execI2cStopSeen n at_ data taken s
  | .gpioEdge pin ext => Sys2Proof.Machine.execGpioEdge pin ext s
  | .gpioSet j v => Sys2Proof.Machine.execGpioSet j v s
  | .gpioClr j v => Sys2Proof.Machine.execGpioClr j v s
  | .gpioTgl j v => Sys2Proof.Machine.execGpioTgl j v s
  | .gpioTaskPort k => Sys2Proof.Machine.execGpioTaskPort k s
  | .adcStart => Sys2Proof.Machine.execAdcStart s
  | .adcSeq => Sys2Proof.Machine.execAdcSeq s
  | .adcStop => Sys2Proof.Machine.execAdcStop s
  | .adcConversionDone code => Sys2Proof.Machine.execAdcConversionDone code s
  | .spineAckReceived die far seq => Sys2Proof.Machine.execSpineAckReceived die far seq s
  | .transmitEnded => Sys2Proof.Machine.execTransmitEnded s
  | .relExchangeEnd ch => Sys2Proof.Machine.execRelExchangeEnd ch s
  | .i2cTransferDone n rx how => Sys2Proof.Machine.execI2cTransferDone n rx how s
  | .i2cStartSeen n at_ addr => Sys2Proof.Machine.execI2cStartSeen n at_ addr s
  | .psCommitReadDone plane => Sys2Proof.Machine.execPsCommitReadDone plane s
  | .trngRestartDone => Sys2Proof.Machine.execTrngRestartDone s
  | .debugHalt => Sys2Proof.Machine.execDebugHalt s
  | .debugResume => Sys2Proof.Machine.execDebugResume s
  | .sleepCrystalEdge => Sys2Proof.Machine.execSleepCrystalEdge s

end Sys2Proof.Machine
end

