-- ==== Sys2Proof/WellFormed.lean ====
section
/-! DEFINITION. Which commands are well formed: the operands lie in the ranges of what they stand for. Most ranges are
in the operand types already. No meaning rests on it: every command has its effect for every operand. -/

namespace Sys2Proof

/-- No two entries of a list are equal. -/
def distinct (l : List Nat) : Bool :=
  match l with
  | [] => true
  | a :: t => !t.contains a && distinct t

/-- A measurement covers the 96 data carriers of a Gen 2 frame, and its power lies in the signed byte of 0.5 dBm steps. -/
def RxMeas.wf (m : RxMeas) : Bool :=
  m.snr.length == 96 && m.evm.length == 96 && decide (-128 ≤ m.rssi) && decide (m.rssi < 128)

/-- Each failing step is named once. -/
def BootEnv.wf (e : BootEnv) : Bool := distinct (e.fails.map (·.val))

/-- Commands that other ports issue in the cycle of a command of port `port`: one to a port (R372). -/
def wfBeside (port : Fin 4) (beside : List PortCmd) : Bool :=
  distinct (port.val :: beside.map (·.port)) &&
    beside.all (fun b => b.port < 4 && decide (1 ≤ b.cmd.cmd) && b.cmd.cmd < 8 && b.cmd.queue < 65536 && b.cmd.arg < 65536 &&
      b.cmd.cls < 16)

/-- The operands of a command lie in their ranges: an instant has 58 bits, a capture at most 64 KiB, a host transfer at
most 4,096 bytes, a line 4 words and a sector 256, a measurement as many values as the command reports. -/
def Instr.wf (i : Instr) : Bool :=
  match i with
  | .absentUnitRead _ _ => true
  | .absentUnitWrite _ _ _ => true
  | .rcRegisterRead _ _ => true
  | .registerWrite _ _ _ => true
  | .unmappedAccess _ _ _ => true
  | .queueMemoryWrite _ _ _ => true
  | .bufferLinkWordWrite _ _ _ => true
  | .farDieAccess _ _ _ _ => true
  | .farDieResponse _ => true
  | .storeStatusRead _ _ => true
  | .spineRequestRepresented _ => true
  | .spinePacketReceived _ _ _ _ => true
  | .spineNakReceived _ _ _ => true
  | .spineAckTimeout _ _ => true
  | .timingStrobe _ => true
  | .sbrF => true
  | .sbrFRelease => true
  | .frontPllLocked => true
  | .spineTrainingDone _ => true
  | .sbrS => true
  | .sbrSHold => true
  | .retrainF => true
  | .retrainS => true
  | .catlVerify => true
  | .catlApply => true
  | .catlSignatureDone _ => true
  | .catlStageFolio => true
  | .catlSwitch => true
  | .catlSetActive _ _ => true
  | .catlRecordWritten => true
  | .catlCommit => true
  | .catlRetire => true
  | .powerOnReset _ => true
  | .brownOutReset => true
  | .rstNPulse _ => true
  | .softwareReset _ => true
  | .debugReset => true
  | .resetHoldEnd => true
  | .bootStart env => env.wf
  | .bootStepTimeout env step => env.wf && !env.fails.contains step
  | .bootOk _ => true
  | .errataClr _ => true
  | .errataMirrorRewrite => true
  | .gpioHoldRelease => true
  | .annexHello _ => true
  | .annexBegin _ => true
  | .annexBeginErased _ => true
  | .annexData _ _ => true
  | .annexEnd _ _ => true
  | .annexReset _ => true
  | .annexResetDelayExpiry => true
  | .rescueBlockReceived _ _ => true
  | .rescueEraseDone => true
  | .brownOutWarning => true
  | .brownOutRelease => true
  | .wfiDoze => true
  | .wfiNap => true
  | .wfiHibernate => true
  | .sleepBlockersClear => true
  | .napEntryAbort => true
  | .wakeInstantReached => true
  | .napWakeResume _ => true
  | .hibernateWake => true
  | .pwrAlarmHiWrite _ => true
  | .alarmFire => true
  | .clkCtrlWrite _ => true
  | .corePllLock => true
  | .corePllLockLoss => true
  | .rootMonitorFail _ => true
  | .slowFail => true
  | .tickMonitorExpiry => true
  | .chronicleTrimStep => true
  | .sleepMeasurementDone _ => true
  | .chronStepArm => true
  | .chronStepNow => true
  | .chronStepCancel => true
  | .chronStepReached => true
  | .disciplineStep => true
  | .chronResync => true
  | .chronRateWrite _ => true
  | .chronLost openAt => openAt < 2 ^ 58
  | .timerPrescaleExpiry _ => true
  | .timerStart _ => true
  | .timerStop _ => true
  | .timerClear _ => true
  | .timerCapture _ _ => true
  | .timerCntWrite _ _ => true
  | .actionEntryWrite _ _ _ _ => true
  | .actArm _ _ => true
  | .actCancel _ _ => true
  | .actRelease _ _ => true
  | .actTmpl _ _ => true
  | .actionFire => true
  | .actionCatchUp => true
  | .fabricChannelFire => true
  | .fabFire _ => true
  | .fabSwev _ => true
  | .fabTaskWrite _ _ _ => true
  | .fabCfgWrite _ _ => true
  | .backupCellRise => true
  | .intcClaim _ => true
  | .samplerOverload => true
  | .rangingCaptureEnd samples => samples.length ≤ 65536
  | .radioFreqWrite _ _ => true
  | .radioFsmCmd _ => true
  | .strobeReceived _ => true
  | .frontTransitionEnd => true
  | .returnLossLow _ _ => true
  | .tuningGapGrant _ => true
  | .retuneDone _ rest => decide (rest.length ≤ 14)
  | .detectStage1 _ => true
  | .preambleQualified _ => true
  | .detectStage2Timeout => true
  | .gen1SyncFound _ ref => ref < 2 ^ 58
  | .headerDecoded _ ref => ref < 2 ^ 58
  | .payloadEnd _ meas => meas.wf
  | .ltsWrite _ _ => true
  | .ltsRead _ => true
  | .ltsRemove _ => true
  | .ltsDerive _ => true
  | .ltsDeriveDone => true
  | .laneEstimateUpdate lanes _ => lanes.length == 1 || lanes.length == 4
  | .temperatureEvaluation _ => true
  | .calRequest => true
  | .calForce => true
  | .calWaitExpiry => true
  | .blackoutGrant => true
  | .forcedBlackoutStart => true
  | .calFolioEnd _ lanes _ => lanes.length ≤ 4
  | .slotBoundary => true
  | .beaconSend => true
  | .beaconAccepted _ ref => ref < 2 ^ 58
  | .airopStart => true
  | .airopFabricTask _ => true
  | .lbtListenEnd _ => true
  | .transmissionOpen => true
  | .budgetBucketAdvance _ => true
  | .receiveWindowClose => true
  | .ackReceived _ => true
  | .ackTimeout => true
  | .linkFcntWrite _ _ => true
  | .macAssign _ _ => true
  | .macLtSet _ _ => true
  | .macLtUse _ _ => true
  | .joinSend => true
  | .joinRetry => true
  | .floodRelay => true
  | .linkOpSubmit _ => true
  | .linkOpCancel _ _ => true
  | .linkOpRelease _ _ => true
  | .nbrAdd => true
  | .nbrRead _ => true
  | .nbrRemove _ => true
  | .nbrReadIdx _ => true
  | .qeEnqueue port _ _ _ beside => wfBeside port beside
  | .qeDequeue port _ _ _ beside => wfBeside port beside
  | .qePeek port _ _ beside => wfBeside port beside
  | .qeMove port _ _ _ beside => wfBeside port beside
  | .qeFlush port _ _ beside => wfBeside port beside
  | .qePause port _ _ _ beside => wfBeside port beside
  | .qeResume port _ _ _ _ beside => wfBeside port beside
  | .qeCompletionPosted _ => true
  | .qeRingCiWrite _ => true
  | .qeAlloc _ _ => true
  | .qeRelease _ _ => true
  | .qeInit _ => true
  | .qeBankRestored _ => true
  | .moverStart _ _ => true
  | .moverStop _ => true
  | .moverPacedRequest _ _ => true
  | .moverDescriptorDone _ => true
  | .moverBusError _ _ => true
  | .storeErase _ _ => true
  | .storeProgram _ _ _ => true
  | .storeCheck _ _ => true
  | .storeRefresh _ _ => true
  | .psCommit _ _ => true
  | .psRetire _ _ => true
  | .storeDataPortWrite _ _ => true
  | .storeDoneClear _ => true
  | .storeAbort _ => true
  | .storePulseEnd _ _ => true
  | .storeResume _ => true
  | .xipLineRead _ _ decay => decay.all (fun e => decide (e.1 < 4)) && distinct (decay.map Prod.fst)
  | .patrolReadDue => true
  | .patrolReadDone decay => decay.all (fun e => decide (e.1 < 256)) && distinct (decay.map Prod.fst)
  | .patrolRefreshResume => true
  | .storPsCfgWrite _ => true
  | .secmbDoorbell _ _ => true
  | .aesEcb _ => true
  | .aesCbc _ => true
  | .aesCtr _ => true
  | .aesCcm _ => true
  | .aesCmac _ => true
  | .sha256 _ => true
  | .hmac _ => true
  | .ecdsaSign _ => true
  | .ecdsaVerify _ => true
  | .ecdh _ => true
  | .ecKeygen _ => true
  | .keyDerive _ => true
  | .random _ => true
  | .keyImport _ => true
  | .keyExport _ => true
  | .keyPurge _ => true
  | .keyInfo _ => true
  | .keyRestrict _ => true
  | .idChallenge _ => true
  | .attest _ => true
  | .lifecycle _ => true
  | .unlockNonce _ => true
  | .unlock _ => true
  | .mailboxRequestDone _ => true
  | .refusalWindowEnd _ => true
  | .secmbDoneClear _ => true
  | .trngHealthFail => true
  | .tamperTrip _ => true
  | .temperatureTamperCheck _ => true
  | .supplyGlitch => true
  | .relStart _ _ => true
  | .relDrop _ _ => true
  | .relRendezvous _ _ _ => true
  | .relOpenReceived _ _ _ _ _ _ _ delta => delta.length == 16
  | .relDecision _ _ _ replies times _ => replies.length == 16 && times.length == 16
  | .relVerdictReceived _ _ => true
  | .lockLineMessageEnd _ => true
  | .relSessionEnd _ => true
  | .doorInEdge _ _ => true
  | .relFailclr _ => true
  | .slipIntake _ => true
  | .stickyClear _ _ => true
  | .graceExpiry => true
  | .faultInject _ => true
  | .traceSlipRead _ => true
  | .traceStatWrite _ => true
  | .recallHolder _ => true
  | .recallOutcomeCheck _ => true
  | .frontPllUnlock => true
  | .regulatorOutOfRange _ => true
  | .wdogFeed _ => true
  | .wdogWarning => true
  | .wdogReset => true
  | .wdogLimitWrite _ _ => true
  | .wdogLock => true
  | .hif1Hello _ => true
  | .hif1Read _ => true
  | .hif1Write _ => true
  | .hif1Enqueue _ => true
  | .hif1SoftwareFrame _ => true
  | .hif1Rxdone _ => true
  | .hif1Txctrl _ => true
  | .hif1TxDone => true
  | .hif2Write _ _ => true
  | .hif2Read _ _ _ => true
  | .hif2Status => true
  | .hif2Window _ => true
  | .hifDbInWrite _ _ => true
  | .hifDbOutWrite _ _ => true
  | .hif3Write _ data => data.length ≤ 4096
  | .hif3Read _ _ => true
  | .hif3Status => true
  | .ringSqTailWrite _ _ => true
  | .ringEnqueue => true
  | .ringFetch => true
  | .ringFlush => true
  | .ringPause => true
  | .ringResume => true
  | .ringMove => true
  | .ringCompletionPost => true
  | .hifHostBusError => true
  | .panelFlip => true
  | .panelRefresh => true
  | .panelPowerOn => true
  | .panelPowerOff => true
  | .panelPowerDelayEnd => true
  | .panelDelayEnd => true
  | .panelBusyInactive => true
  | .panelBusyTimeout => true
  | .panelScriptEnd => true
  | .panelDeferredFlip => true
  | .panelHoldExpiry => true
  | .spiStart _ _ => true
  | .spiTargetFrame _ _ => true
  | .spiTransferEnd _ _ => true
  | .uartByteReceived _ _ _ _ _ => true
  | .uartRxTimeout _ => true
  | .uartDataWrite _ _ => true
  | .uartSendTask _ => true
  | .uartTxEmpty _ => true
  | .i2cXfer _ _ _ _ => true
  | .i2cClear _ _ => true
  | .i2cBusBusyTimeout _ => true
  | .i2cSclTimeout _ => true
  | .i2cSdaStuckTimeout _ _ => true
  | .i2cStopSeen _ _ data _ => data.length ≤ 255
  | .gpioEdge _ _ => true
  | .gpioSet _ _ => true
  | .gpioClr _ _ => true
  | .gpioTgl _ _ => true
  | .gpioTaskPort _ => true
  | .adcStart => true
  | .adcSeq => true
  | .adcStop => true
  | .adcConversionDone _ => true
  | .spineAckReceived _ _ _ => true
  | .transmitEnded => true
  | .relExchangeEnd _ => true
  | .i2cTransferDone _ rx _ => rx.length ≤ 255
  | .i2cStartSeen _ _ _ => true
  | .psCommitReadDone _ => true
  | .trngRestartDone => true
  | .debugHalt => true
  | .debugResume => true
  | .sleepCrystalEdge => true

end Sys2Proof
end

