-- ==== Sys2Proof/Safety.lean ====
section
/-! DEFINITION. What counts as a safe run, what every step keeps, and how the statements say what a command leaves
unchanged. -/

namespace Sys2Proof.Machine

/-- A run is safe when it ends in a state: no command has stopped it with a fault or a refusal. -/
def SafeRun (k : Nat) (s : State) : Prop := ∃ t, Sys2Proof.core.run k s = .next t

/-- The registers are in their canonical form: addresses rising, none listed at its reset value. -/
def State.regsWf (s : State) : Bool := mapWf resetOf s.regs

/-- The memory is in its canonical form. -/
def State.memWf (s : State) : Bool := Memory.wf s.memDflt s.mem

/-! ### What a command leaves unchanged -/

/-- From `s` to `t` every register outside the list keeps its value. -/
def SameRegs (l : List Nat) (s t : State) : Prop := ∀ a, a ∉ l → t.rd a = s.rd a

/-- From `s` to `t` every byte of memory keeps its value. -/
def SameMem (s t : State) : Prop := ∀ a, t.byteAt a = s.byteAt a

/-- From `s` to `t` nothing has changed but registers of the list: no other register, no byte of memory, no other part of
the state. -/
def OnlyRegs (l : List Nat) (s t : State) : Prop := SameRegs l s t ∧ SameMem s t ∧ t = { s with regs := t.regs }

/-- From `s` to `t` nothing has changed but registers of the list, the event pulses for the fabric with what may still be
taken back of an overrun in the cycle (R215, R216), and the Doze that an interrupt ends, with the entry to sleep that it
cuts, which PWR_COUNT counts (R673; 04, "Modes"). -/
def OnlyEvents (l : List Nat) (s t : State) : Prop :=
  SameRegs (Reg.PWR_COUNT :: l) s t ∧
  (s.pwr.entry = none → t.pwr.entry = none ∧ (Reg.PWR_COUNT ∉ l → t.rd Reg.PWR_COUNT = s.rd Reg.PWR_COUNT)) ∧ SameMem s t ∧
  t = { s with
    regs := t.regs,
    fab := { s.fab with pulses := t.fab.pulses, ovr := t.fab.ovr },
    pwr := { s.pwr with mode := t.pwr.mode, entry := t.pwr.entry, resumeAt := t.pwr.resumeAt } }

/-- The registers that raising an event source may change (R213). -/
def eventRegs (n : Nat) : List Nat := [Reg.INTC_PEND (n / 32), Reg.INTC_OVR]

/-- An event source is pending in the interrupt selector. -/
def State.pending1 (s : State) (n : Nat) : Bool := s.bit (Reg.INTC_PEND (n / 32)) (n % 32)

end Sys2Proof.Machine
end

