-- ==== Sys2Proof/Certificates/Slice0/Obligations.lean ====
section
/-! DEFINITION. The statements for the provers, one definition each. A statement's clauses are joined by `∧`; each says
for one kind of operands and state what a command answers. `OnlyRegs` and `OnlyEvents` say what it leaves unchanged. -/

open Sys2Proof Sys2Proof.Machine

/-- For every command c, queue q and state s with c at the front of q: step of s is exec of c on s with q waiting. With
an empty queue a step lets the block's own time pass (idle), which is the model's choice of log entry 8 and no rule
of the spec. (00 Scope, family and conventions, Model; 00 Conventions) -/
def Obligations.AStepRunsTheCommandAtTheFront : Prop :=
    (∀ (c : Instr) (q : List Instr) (s : State),
      s.pending = c :: q →
      step s = exec c { s with pending := q }) ∧
    (∀ (s : State),
      s.pending = [] →
      step s = .next s.idle)

/-- In State.reset the register map and the memory are in their canonical forms, no command waits, every register reads
the reset value its chapter gives (or the value log entry 2 names where it gives none), and the core die is held in
reset. (03 Reset, start-up and annex mode) -/
def Obligations.TheResetStateIsCanonical : Prop :=
    (State.reset.regsWf = true ∧ State.reset.memWf = true ∧ State.reset.pending = [] ∧ State.reset.boot.phase = .held) ∧
    (∀ (a : Nat),
      State.reset.rd a = resetOf a)

/-- For every state whose register map and memory are in their canonical forms (addresses rising, nothing listed that
reads as unlisted), whatever command is at the front of its queue: the step answers a next state, never a fault or a
refusal; that state is in canonical form again, its queue is the rest of the queue, and it is of the same variant.
(00 Scope, family and conventions, Conventions; 00 The family) -/
def Obligations.EveryStepKeepsTheCanonicalForms : Prop :=
    (∀ (s : State),
      s.regsWf = true →
      s.memWf = true →
      ∃ t, step s = .next t ∧ t.regsWf = true ∧ t.memWf = true ∧ t.pending = s.pending.tail ∧ t.variant = s.variant)

/-- For every state and every step: the lifecycle stays, or the front command is LIFECYCLE and it goes from OPEN (0) to
FIELD (1) or from FIELD to RETURNED (2); ZEROISED and the retired key, once set, stay set; the minimum accepted
build never falls. It holds over resets and the loss of power too. (R476) -/
def Obligations.NoStepTakesBackAFuse : Prop :=
    (∀ (s t : State),
      step s = .next t →
      (t.cust.life = s.cust.life ∨ ((∃ k, s.pending.head? = some (.lifecycle k)) ∧ ((s.cust.life = 0 ∧ t.cust.life = 1) ∨ (s.cust.life = 1 ∧ t.cust.life = 2)))) ∧
      (s.cust.zeroised = true → t.cust.zeroised = true) ∧ (s.boot.retired = true → t.boot.retired = true) ∧ s.boot.minBuild ≤ t.boot.minBuild)

/-- For every master whose debug access is not locked: a read of an absent unit or bank answers 0, a write of one is
ignored without an error response, each with a note slip of kind absent unit whose detail is the low half of the
address, whichever of the four rows presents it; an access to an unmapped address, or a write to boot ROM or to the
present part of the XIP window, answers an error with a recoverable slip of source 0 and is captured in
SYSCTL_BUS_ADDR and SYSCTL_BUS_INFO, or counted when a capture is held; a write of any master but the queue engine
to queue memory answers an error with a note slip of source 32; a write of a link word of a cell is ignored without
an error. Nothing else changes. (R7; R8; R28; R29; R364; R365) -/
def Obligations.AbsentAndUnmappedAccessesAreAnswered : Prop :=
    (∀ (m : Master) (addr : Word) (src : Nat) (s : State),
      s.absentAt addr.toNat = some src →
      s.locked m = false →
      exec (.absentUnitRead m addr) s = .next ((s.slip src 0x01 0 addr.toNat).answer 0)) ∧
    (∀ (m : Master) (addr v : Word) (src : Nat) (s : State),
      s.absentAt addr.toNat = some src →
      s.locked m = false →
      exec (.absentUnitWrite m addr v) s = .next ((s.slip src 0x01 0 addr.toNat).answer 0)) ∧
    (∀ (m : Master) (addr v : Word) (src : Nat) (s : State),
      s.absentAt (addr.toNat / 4 * 4) = some src →
      s.locked m = false →
      exec (.registerWrite m addr v) s = .next ((s.slip src 0x01 0 (addr.toNat / 4 * 4)).answer 0) ∧
      exec (.rcRegisterRead m addr) s = .next ((s.slip src 0x01 0 (addr.toNat / 4 * 4)).answer 0)) ∧
    (∀ (m : Master) (w : Bool) (addr : Word) (s : State),
      region addr.toNat = .unmapped ∨ (w = true ∧ (region addr.toNat = .rom ∨ region addr.toNat = .xip)) →
      s.absentAt addr.toNat = none →
      s.locked m = false →
      s.bit Reg.BUS_INFO 31 = false →
      ∃ t, exec (.unmappedAccess m w addr) s = .next t ∧ t.rd Reg.BUS_ADDR = addr ∧
      t.rd Reg.BUS_INFO = word (masterId m + (if w then 8 else 0) + 2 ^ 31) ∧
      OnlyRegs [Reg.BUS_ADDR, Reg.BUS_INFO] ((s.slip 0 0x02 1 addr.toNat).answerError) t) ∧
    (∀ (m : Master) (w : Bool) (addr : Word) (s : State),
      region addr.toNat = .unmapped ∨ (w = true ∧ (region addr.toNat = .rom ∨ region addr.toNat = .xip)) →
      s.absentAt addr.toNat = none →
      s.locked m = false →
      s.bit Reg.BUS_INFO 31 = true →
      ∃ t, exec (.unmappedAccess m w addr) s = .next t ∧
      t.rdF Reg.BUS_INFO 8 8 = min (s.rdF Reg.BUS_INFO 8 8 + 1) 255 ∧ t.rdF Reg.BUS_INFO 0 8 = s.rdF Reg.BUS_INFO 0 8 ∧
      t.bit Reg.BUS_INFO 31 = true ∧ OnlyRegs [Reg.BUS_INFO] ((s.slip 0 0x02 1 addr.toNat).answerError) t) ∧
    (∀ (m : Master) (addr v : Word) (s : State),
      region (addr.toNat / 4 * 4) = .queue →
      s.absentAt (addr.toNat / 4 * 4) = none →
      m ≠ .queue →
      s.locked m = false →
      exec (.queueMemoryWrite m addr v) s = .next ((s.slip 32 0x01 0 (addr.toNat / 4 * 4)).answerError)) ∧
    (∀ (m : Master) (addr v : Word) (s : State),
      region addr.toNat = .pool →
      addr.toNat % 128 < 4 →
      s.absentAt (addr.toNat / 4 * 4) = none →
      s.locked m = false →
      exec (.bufferLinkWordWrite m addr v) s = .next (s.answer 0))

/-- For each core-die register with RC fields that is listed, and every master but debug: the read answers the
register's value, the fields of access kind RC then read 0 and every other bit of the register stays; for the debug
master, its access open, nothing changes but the answer. A read of a far-die register while its spine is UP and
takes it is sent as a packet; when the packet of a read of a listed front-die register arrives there, the response
carries the register's value, and its RC fields then read 0, but stay for the debug master. Nothing else changes.
(R13) -/
def Obligations.ReadsClearRcFieldsButNotForDebug : Prop :=
    (∀ (m : Master) (a : Nat) (r : RegRow) (s : State),
      a ∈ [Reg.SPINE_F_ERR, Reg.SPINE_S_ERR, Reg.PWR_COUNT, Reg.CLK_MON, Reg.FAULT_STATUS, Reg.FAULT_COUNT, Reg.INTC_OVR, Reg.FAB_MERGED, Reg.FAB_STATUS, Reg.ACT_COUNTS, Reg.WDOG_STATUS, Reg.QE_COUNT, Reg.STOR_COUNT, Reg.STOR_COUNT2, Reg.SECMB_TAMP_COUNT, Reg.PANEL_COUNT, Reg.HIF_ERR] →
      rowOf a = some r →
      m ≠ .debug →
      ∃ t, exec (.rcRegisterRead m (word a)) s = .next t ∧ t.rd a = s.rd a &&& ~~~ word r.rc ∧
      OnlyRegs [a] (s.answer (s.rd a)) t) ∧
    (∀ (a : Nat) (s : State),
      a ∈ [Reg.SPINE_F_ERR, Reg.SPINE_S_ERR, Reg.PWR_COUNT, Reg.CLK_MON, Reg.FAULT_STATUS, Reg.FAULT_COUNT, Reg.INTC_OVR, Reg.FAB_MERGED, Reg.FAB_STATUS, Reg.ACT_COUNTS, Reg.WDOG_STATUS, Reg.QE_COUNT, Reg.STOR_COUNT, Reg.STOR_COUNT2, Reg.SECMB_TAMP_COUNT, Reg.PANEL_COUNT, Reg.HIF_ERR] →
      s.debugOpen = true →
      exec (.rcRegisterRead .debug (word a)) s = .next (s.answer (s.rd a))) ∧
    (∀ (m : Master) (addr : Word) (die : Die) (s : State),
      farDie (addr.toNat / 4 * 4) = some die →
      s.spineState die = 3 →
      s.locked m = false →
      (s.spine die).waiting = [] →
      s.lineWaits die m = false →
      s.spineOut die < 16 →
      s.masterOut m < 8 →
      ∃ t, exec (.rcRegisterRead m addr) s = .next t ∧ t.ans = { waiting := true } ∧
      (t.spine die).replay = (s.spine die).replay ++ [⟨(s.spine die).txSeq, 1, ⟨m, false, addr.toNat / 4 * 4, 0⟩⟩] ∧
      OnlyRegs [] { s with ans := t.ans, spineF := t.spineF, spineS := t.spineS } t) ∧
    (∀ (m : Master) (p : Packet) (seq : Byte) (a : Nat) (r : RegRow) (s : State),
      (s.spine .front).replay.find? (fun p => !accepted (s.spine .front).farRx p.seq) = some p →
      p.seq = seq →
      p.req = ⟨m, false, a, 0⟩ →
      a ∈ [Reg.RADIO_COUNT, Reg.MODEM_COUNT_DET, Reg.MODEM_COUNT_ERR, Reg.MODEM_COUNT_CHORUS, Reg.CAL_COUNT, Reg.TUNER_COUNT] →
      rowOf a = some r →
      m ≠ .debug →
      ∃ t, exec (.spinePacketReceived .front true seq true) s = .next t ∧ t.rd a = s.rd a &&& ~~~ word r.rc ∧
      t.spineF.farReplay = s.spineF.farReplay ++ [⟨s.spineF.farSeq, 1, ⟨m, false, a, s.rd a⟩⟩] ∧
      OnlyRegs [a] { s with spineF := t.spineF } t) ∧
    (∀ (p : Packet) (seq : Byte) (a : Nat) (s : State),
      (s.spine .front).replay.find? (fun p => !accepted (s.spine .front).farRx p.seq) = some p →
      p.seq = seq →
      p.req = ⟨.debug, false, a, 0⟩ →
      a ∈ [Reg.RADIO_COUNT, Reg.MODEM_COUNT_DET, Reg.MODEM_COUNT_ERR, Reg.MODEM_COUNT_CHORUS, Reg.CAL_COUNT, Reg.TUNER_COUNT] →
      ∃ t, exec (.spinePacketReceived .front true seq true) s = .next t ∧
      t.spineF.farReplay = s.spineF.farReplay ++ [⟨s.spineF.farSeq, 1, ⟨.debug, false, a, s.rd a⟩⟩] ∧
      OnlyRegs [] { s with spineF := t.spineF } t)

/-- For each listed core-die register of RW and W1C fields, a write by any master but a locked debug master gives the RW
bits the value written, clears the W1C bits written 1, leaves reserved and read-only bits, answers without an error
and changes nothing else; a write of INTC_EN, INTC_THRESH, INTC_PRIO or INTC_PEND may besides end a Doze, and a
clear of INTC_PEND loses no source that pulses in the same cycle. A write of FAB_FIRE, SECMB_DOORBELL or WDOG_FEED
has the effect of its command and answers without an error, and a write of an address no table covers is the
unmapped access. A locked debug master that writes an action command, reads INTC_CLAIM, or reads a trace register
gets an error response, and nothing else changes. None of it holds of a part that is sealed or in the grave hold.
The model's choice in it, no rule of the spec: a locked debug master gets an error response and no slip (log entry
25). (00 Scope, family and conventions, table Access kinds; 01 Three dies, one machine) -/
def Obligations.RegisterWritesFollowTheAccessKinds : Prop :=
    (∀ (m : Master) (a : Nat) (v : Word) (r : RegRow) (s : State),
      a ∈ [Reg.RSTC_HIST, Reg.RSTC_LASTFAIL, Reg.RSTC_BKP 0, Reg.RSTC_BKP 7, Reg.PWR_CTRL, Reg.PWR_STATUS, Reg.PWR_WAKE_CAUSE, Reg.PWR_ALARM_LO, Reg.CLK_STATUS, Reg.FAB_BK_PEND, Reg.FAB_SEEN 0, Reg.CHRON_EPS, Reg.CHRON_SLEEP_WIN, Reg.CHRON_STATUS, Reg.CHRON_EVEN, Reg.ACT_BASE_LO, Reg.ACT_EVEN, Reg.ACT_FIRED 15, Reg.TMR_CC0 0, Reg.TMR_FLAGS 7, Reg.QE_CFG, Reg.LINK_CTRL, Reg.LINK_RANGE, Reg.LINK_OPD 3, Reg.LTS_DATA 8, Reg.STOR_CFG, Reg.STOR_CMD_OP, Reg.SECMB_TAMP_LATCH, Reg.REL_DOOR, Reg.PANEL_STAGE, Reg.PANEL_HOLD, Reg.HIF_CFG, Reg.HIF_IRQ_PEND, Reg.GPIO_FLAG 1, Reg.GPIO_TP_CFG 7, Reg.CATL_SRC, Reg.CATL_STATUS] →
      rowOf a = some r →
      s.locked m = false →
      s.isHeld = false →
      s.variant = .anchor →
      ∃ t, exec (.registerWrite m (word a) v) s = .next t ∧
      t.rd a = ((s.rd a &&& ~~~ word r.rw &&& ~~~ (v &&& word r.w1c)) ||| (v &&& word r.rw)) ∧ OnlyRegs [a] (s.answer 0) t) ∧
    (∀ (m : Master) (a : Nat) (v : Word) (r : RegRow) (s : State),
      a ∈ [Reg.INTC_EN 0, Reg.INTC_EN 7, Reg.INTC_THRESH, Reg.INTC_PRIO 31, Reg.INTC_PEND 0] →
      rowOf a = some r →
      s.locked m = false →
      s.isHeld = false →
      (a = Reg.INTC_PEND 0 → ∀ n ∈ s.fab.pulses, n < 32 → bitOf v n = false) →
      ∃ t, exec (.registerWrite m (word a) v) s = .next t ∧
      t.rd a = ((s.rd a &&& ~~~ word r.rw &&& ~~~ (v &&& word r.w1c)) ||| (v &&& word r.rw)) ∧ OnlyEvents [a] (s.answer 0) t) ∧
    (∀ (m : Master) (n : Nat) (v : Word) (s : State),
      s.locked m = false →
      s.isHeld = false →
      n ∈ s.fab.pulses →
      n < 32 →
      bitOf v n = true →
      ∃ t, exec (.registerWrite m (word (Reg.INTC_PEND 0)) v) s = .next t ∧ t.pending1 n = true ∧ (∀ k < 32, k ∉ s.fab.pulses → t.pending1 k = (s.pending1 k && !bitOf v k))) ∧
    (∀ (m : Master) (v : Word) (s : State),
      s.locked m = false →
      s.isHeld = false →
      ∃ t, exec (.fabFire v) s = .next t ∧ exec (.registerWrite m (word Reg.FAB_FIRE) v) s = .next (t.answer 0)) ∧
    (∀ (m : Master) (v : Word) (s : State),
      s.locked m = false →
      s.isHeld = false →
      ∃ t, exec (.secmbDoorbell m v) s = .next t ∧ exec (.registerWrite m (word Reg.SECMB_DOORBELL) v) s = .next (t.answer 0)) ∧
    (∀ (m : Master) (v : Word) (s : State),
      s.locked m = false →
      s.isHeld = false →
      ∃ t, exec (.wdogFeed v) s = .next t ∧ exec (.registerWrite m (word Reg.WDOG_FEED) v) s = .next (t.answer 0)) ∧
    (∀ (m : Master) (addr v : Word) (s : State),
      region (addr.toNat / 4 * 4) = .unmapped →
      s.locked m = false →
      exec (.registerWrite m addr v) s = .next ((s.unmapped m true (addr.toNat / 4 * 4)).answerError)) ∧
    (∀ (c : Instr) (m : Master) (v : Word) (s : State),
      s.locked m = true →
      c ∈ [.actArm m v, .actCancel m v, .actRelease m v, .actTmpl m v] →
      exec c s = .next s.answerError) ∧
    (∀ (m : Master) (s : State),
      s.locked m = true →
      exec (.intcClaim m) s = .next s.answerError) ∧
    (∀ (m : Master) (s : State),
      s.locked m = true →
      exec (.traceSlipRead m) s = .next s.answerError ∧ exec (.traceStatWrite m) s = .next s.answerError)

/-- For every access of a master (its debug access not locked) to a far-die register: with the spine UP, no earlier
request of the master held and no line read of it waiting, fewer than 16 transactions outstanding on the spine and
fewer than 8 of the master, one packet enters the replay buffer, the transactions outstanding rise by one, a write
completes and a read waits; at 16 transactions FULL counts and the request is held; at 8 of the master, behind an
earlier request or a waiting line read of it, or in TRAINING it is held; DOWN, RESET or STUCK answer an error with a
note slip and send nothing. A request held for Spine-F that is presented again when there is room leaves the port
and is sent, and stays held, with a count in FULL, at 16 transactions. A response that has arrived answers its
waiting read and retires it. STORE_STATUS_READ is such a read of the store die, whatever its planes do. (01 Three
dies, one machine, The spine links; 01 table In-flight bounds; 01 What if a master accesses the front die while
Spine-F is DOWN, RESET or STUCK) -/
def Obligations.FarDieAccessesCrossTheirSpineInOrder : Prop :=
    (∀ (m : Master) (w : Bool) (addr v : Word) (die : Die) (s : State),
      farDie addr.toNat = some die →
      s.locked m = false →
      s.spineState die = 3 →
      (s.spine die).waiting.any (fun q => q.master == m) = false →
      s.lineWaits die m = false →
      s.spineOut die < 16 →
      s.masterOut m < 8 →
      ∃ t, exec (.farDieAccess m w addr v) s = .next t ∧ t.ans = { waiting := !w } ∧
      (t.spine die).replay = (s.spine die).replay ++ [⟨(s.spine die).txSeq, 1, ⟨m, w, addr.toNat, v⟩⟩] ∧
      (t.spine die).txSeq = (s.spine die).txSeq + 1 ∧ (t.spine die).outst = (s.spine die).outst ++ [⟨m, w, addr.toNat, v⟩] ∧
      t.spineOut die = s.spineOut die + 1 ∧ t.spineState die = 3 ∧
      OnlyRegs [] { s with ans := t.ans, spineF := t.spineF, spineS := t.spineS } t) ∧
    (∀ (m : Master) (w : Bool) (addr v : Word) (die : Die) (s : State),
      farDie addr.toNat = some die →
      s.locked m = false →
      s.spineState die ≠ 2 →
      s.spineState die ≠ 3 →
      exec (.farDieAccess m w addr v) s = .next ((s.slip 0 0x03 0 (spineNo die)).answerError)) ∧
    (∀ (m : Master) (w : Bool) (addr v : Word) (die : Die) (s : State),
      farDie addr.toNat = some die →
      s.locked m = false →
      s.spineState die = 2 ∨ (s.spineState die = 3 ∧ ((s.spine die).waiting.any (fun q => q.master == m) = true ∨ s.lineWaits die m = true)) →
      ∃ t, exec (.farDieAccess m w addr v) s = .next t ∧ t.ans = { waiting := true } ∧
      (t.spine die).waiting = (s.spine die).waiting ++ [⟨m, w, addr.toNat, v⟩] ∧ (t.spine die).replay = (s.spine die).replay ∧
      t.spineState die = s.spineState die ∧ OnlyRegs [] { s with ans := t.ans, spineF := t.spineF, spineS := t.spineS } t) ∧
    (∀ (m : Master) (w : Bool) (addr v : Word) (die : Die) (s : State),
      farDie addr.toNat = some die →
      s.locked m = false →
      s.spineState die = 3 →
      (s.spine die).waiting.any (fun q => q.master == m) = false →
      s.lineWaits die m = false →
      16 ≤ s.spineOut die →
      ∃ t, exec (.farDieAccess m w addr v) s = .next t ∧ t.ans = { waiting := true } ∧
      (t.spine die).waiting = (s.spine die).waiting ++ [⟨m, w, addr.toNat, v⟩] ∧ (t.spine die).replay = (s.spine die).replay ∧
      t.rdF (spineErr die) 16 8 = min (s.rdF (spineErr die) 16 8 + 1) 255 ∧
      OnlyRegs [spineErr die] { s with ans := t.ans, spineF := t.spineF, spineS := t.spineS } t) ∧
    (∀ (m : Master) (w : Bool) (addr v : Word) (die : Die) (s : State),
      farDie addr.toNat = some die →
      s.locked m = false →
      s.spineState die = 3 →
      (s.spine die).waiting.any (fun q => q.master == m) = false →
      s.lineWaits die m = false →
      s.spineOut die < 16 →
      8 ≤ s.masterOut m →
      ∃ t, exec (.farDieAccess m w addr v) s = .next t ∧ t.ans = { waiting := true } ∧
      (t.spine die).waiting = (s.spine die).waiting ++ [⟨m, w, addr.toNat, v⟩] ∧ (t.spine die).replay = (s.spine die).replay ∧
      OnlyRegs [] { s with ans := t.ans, spineF := t.spineF, spineS := t.spineS } t) ∧
    (∀ (m : Master) (addr : Word) (s : State),
      region addr.toNat = .store →
      s.locked m = false →
      exec (.storeStatusRead m addr) s = exec (.farDieAccess m false addr 0) s) ∧
    (∀ (m : Master) (addr : Word) (s : State),
      region addr.toNat = .store →
      s.locked m = false →
      s.spineState .store = 3 →
      s.spineS.waiting = [] →
      s.lineWaits .store m = false →
      s.spineOut .store < 16 →
      s.masterOut m < 8 →
      ∃ t, exec (.storeStatusRead m addr) s = .next t ∧ t.ans = { waiting := true } ∧
      t.spineS.replay = s.spineS.replay ++ [⟨s.spineS.txSeq, 1, ⟨m, false, addr.toNat, 0⟩⟩] ∧
      t.spineS.outst = s.spineS.outst ++ [⟨m, false, addr.toNat, 0⟩] ∧
      OnlyRegs [] { s with ans := t.ans, spineS := t.spineS } t) ∧
    (∀ (m : Master) (r : SpineReq) (s : State),
      s.spineF.waiting.find? (fun r => r.master == m) = some r →
      0x20000000 ≤ r.addr →
      s.spineState .front = 3 →
      s.spineF.outst.length < 16 →
      s.masterOut m < 8 →
      r.master = m →
      ∃ t, exec (.spineRequestRepresented m) s = .next t ∧ t.spineF.waiting = s.spineF.waiting.erase r ∧
      t.spineF.replay = s.spineF.replay ++ [⟨s.spineF.txSeq, 1, r⟩] ∧ t.spineF.outst = s.spineF.outst ++ [r] ∧
      t.ans = { waiting := !r.write } ∧ OnlyRegs [] { s with ans := t.ans, spineF := t.spineF } t) ∧
    (∀ (m : Master) (r : SpineReq) (s : State),
      s.spineF.waiting.find? (fun r => r.master == m) = some r →
      0x20000000 ≤ r.addr →
      s.spineState .front = 3 →
      16 ≤ s.spineF.outst.length →
      ∃ t, exec (.spineRequestRepresented m) s = .next t ∧ t.rdF Reg.SPINE_F_ERR 16 8 = min (s.rdF Reg.SPINE_F_ERR 16 8 + 1) 255 ∧
      OnlyRegs [Reg.SPINE_F_ERR] s t) ∧
    (∀ (die : Die) (r : SpineReq) (l : List SpineReq) (s : State),
      (s.spine die).arrived = r :: l →
      (s.spine die).outst.any (fun q => !q.write && q.master == r.master && q.addr == r.addr) = true →
      ∃ t, exec (.farDieResponse die) s = .next t ∧ t.ans = { value := r.data } ∧ (t.spine die).arrived = l ∧
      (t.spine die).outst = (s.spine die).outst.eraseP (fun q => !q.write && q.master == r.master && q.addr == r.addr) ∧
      OnlyRegs [] { s with ans := t.ans, spineF := t.spineF, spineS := t.spineS } t)

/-- A packet with a failed CRC is counted in CRC_ERR and changes nothing else; the next response in order is accepted at
the core die and joins those that have arrived; a packet whose sequence number an end has accepted already is
discarded; an acknowledgement takes the acknowledged packets from the replay buffer; a negative acknowledgement of a
packet, or the time-out of the oldest (which counts in CRC_ERR), resends that packet and every later one when none
of them has been sent four times; when one has, STATE reads STUCK, the replay buffer is empty, a severe slip waits
at source 0 and the tamper input of the spine has risen; a timing strobe goes to the front die while Spine-F is UP.
(01 Three dies, one machine, The spine links) -/
def Obligations.SpinePacketsAreAcceptedOnceAndResent : Prop :=
    (∀ (die : Die) (far : Bool) (seq : Byte) (s : State),
      ∃ t, exec (.spinePacketReceived die far seq false) s = .next t ∧
      t.rdF (spineErr die) 0 16 = min (s.rdF (spineErr die) 0 16 + 1) 65535 ∧ OnlyRegs [spineErr die] s t) ∧
    (∀ (die : Die) (p : Packet) (s : State),
      (s.spine die).farReplay.find? (fun p => !accepted (s.spine die).coreRx p.seq) = some p →
      ∃ t, exec (.spinePacketReceived die false p.seq true) s = .next t ∧ (t.spine die).arrived = (s.spine die).arrived ++ [p.req] ∧
      (t.spine die).coreRx = some p.seq ∧ OnlyRegs [] { s with spineF := t.spineF, spineS := t.spineS } t) ∧
    (∀ (die : Die) (seq : Byte) (s : State),
      accepted (s.spine die).coreRx seq = true →
      exec (.spinePacketReceived die false seq true) s = .next s) ∧
    (∀ (die : Die) (seq : Byte) (s : State),
      accepted (s.spine die).farRx seq = true →
      exec (.spinePacketReceived die true seq true) s = .next s) ∧
    (∀ (die : Die) (seq : Byte) (p : Packet) (s : State),
      (s.spine die).replay.find? (fun p => p.seq == seq) = some p →
      (s.spine die).replay.all (fun x => !seqLe seq x.seq || decide (x.sends < 4)) = true →
      ∃ t, exec (.spineNakReceived die false seq) s = .next t ∧
      (t.spine die).replay = (s.spine die).replay.map (fun x => if seqLe seq x.seq then { x with sends := x.sends + 1 } else x) ∧
      (t.spine die).outst = (s.spine die).outst ∧ OnlyRegs [] { s with spineF := t.spineF, spineS := t.spineS } t) ∧
    (∀ (die : Die) (seq : Byte) (p : Packet) (s : State),
      (s.spine die).replay.find? (fun p => p.seq == seq) = some p →
      (s.spine die).replay.any (fun x => seqLe seq x.seq && decide (4 ≤ x.sends)) = true →
      s.rdF Reg.SECMB_TAMP_CLASS (2 * (5 + spineNo die)) 2 = 0 →
      ∃ t, exec (.spineNakReceived die false seq) s = .next t ∧ t.spineState die = 4 ∧ (t.spine die).replay = [] ∧
      t.fault.waiting = s.fault.waiting ++ [slipWord 0 0x04 2 (spineNo die)] ∧ t.bit Reg.SECMB_TAMP_LATCH (5 + spineNo die) = true) ∧
    (∀ (die : Die) (p : Packet) (l : List Packet) (s : State),
      (s.spine die).replay = p :: l →
      (p :: l).all (fun x => !seqLe p.seq x.seq || decide (x.sends < 4)) = true →
      ∃ t, exec (.spineAckTimeout die false) s = .next t ∧ t.rdF (spineErr die) 0 16 = min (s.rdF (spineErr die) 0 16 + 1) 65535 ∧
      (t.spine die).replay = (p :: l).map (fun x => if seqLe p.seq x.seq then { x with sends := x.sends + 1 } else x) ∧
      OnlyRegs [spineErr die] { s with spineF := t.spineF, spineS := t.spineS } t) ∧
    (∀ (die : Die) (seq : Byte) (s : State),
      ∃ t, exec (.spineAckReceived die true seq) s = .next t ∧
      (t.spine die).farReplay = (s.spine die).farReplay.filter (fun p => !seqLe p.seq seq) ∧
      OnlyRegs [] { s with spineF := t.spineF, spineS := t.spineS } t) ∧
    (∀ (die : Die) (seq : Byte) (s : State),
      ∃ t, exec (.spineAckReceived die false seq) s = .next t ∧
      (t.spine die).replay = (s.spine die).replay.filter (fun p => !seqLe p.seq seq) ∧
      (∀ r ∈ (t.spine die).outst, r ∈ (s.spine die).outst) ∧
      OnlyRegs [] { s with spineF := t.spineF, spineS := t.spineS } t) ∧
    (∀ (target : FsmTarget) (s : State),
      s.spineState .front = 3 →
      exec (.timingStrobe target) s = .next { s with front := { s.front with strobes := s.front.strobes ++ [target] } })

/-- SBR_F puts Spine-F into RESET, empties its replay buffer and transactions and starts the front die from its reset
state; SBR_F_RELEASE ends the hold, and FRONT_PLL_LOCKED then begins training; SBR_S puts Spine-S into RESET, and
when no pulse runs SBR_S_HOLD ends the hold and begins training; RETRAIN takes effect only while STATE is UP;
SPINE_TRAINING_DONE with no held access makes STATE UP at the rate of HALF and clears the SBR and RETRAIN bits. The
model's choices in it, no rules of the spec: a second side-band reset (log entry 5); a command whose premise does
not hold changes nothing (log entry 13). (01 Three dies, one machine, Reset of a single die; 01 table Front-die
side-band reset) -/
def Obligations.DieResetsAndTrainingFollowTheirTables : Prop :=
    (∀ (s : State),
      ∃ t, exec .sbrF s = .next t ∧ t.spineState .front = 1 ∧ t.bit Reg.SPINE_CTRL 0 = true ∧ t.spineF.replay = [] ∧
      t.spineF.outst = [] ∧ t.spineF.waiting = s.spineF.waiting ∧ t.front = {} ∧ t.rd Reg.RADIO_FSM = resetOf Reg.RADIO_FSM ∧
      t.spineS = s.spineS ∧ t.store = s.store ∧ t.cust = s.cust ∧ t.link.run = none ∧ (s.link.run = none → t.link = s.link)) ∧
    (∀ (s : State),
      s.spineState .front = 1 →
      exec .sbrFRelease s = .next { s with spineF := { s.spineF with resetReq := false } }) ∧
    (∀ (s : State),
      s.spineState .front = 1 ∨ s.spineState .front = 0 →
      s.spineF.resetReq = false →
      s.asleep = false →
      ∃ t, exec .frontPllLocked s = .next t ∧ t.spineState .front = 2 ∧ OnlyRegs [Reg.SPINE_F_STAT] s t) ∧
    (∀ (s : State),
      ∃ t, exec .sbrS s = .next t ∧ t.spineState .store = 1 ∧ t.bit Reg.SPINE_CTRL 1 = true ∧ t.spineS.replay = [] ∧
      t.spineS.outst = [] ∧ t.spineS.resetReq = true ∧ t.spineF = s.spineF ∧ t.front = s.front ∧ t.store.checks = []) ∧
    (∀ (s : State),
      s.spineState .store = 1 →
      s.spineS.resetReq = true →
      s.store.ops.any (fun o => o.state == .running) = false →
      ∃ t, exec .sbrSHold s = .next t ∧ t.spineState .store = 2 ∧ t.spineS.resetReq = false ∧ t.store.flash = s.store.flash ∧
      t.spineF = s.spineF ∧ t.front = s.front) ∧
    (∀ (s : State),
      s.spineState .front = 3 →
      ∃ t, exec .retrainF s = .next t ∧ t.spineState .front = 2 ∧ t.bit Reg.SPINE_CTRL 2 = true ∧
      OnlyRegs [Reg.SPINE_F_STAT, Reg.SPINE_CTRL] s t) ∧
    (∀ (s : State),
      s.spineState .front ≠ 3 →
      exec .retrainF s = .next s) ∧
    (∀ (s : State),
      s.spineState .store = 3 →
      ∃ t, exec .retrainS s = .next t ∧ t.spineState .store = 2 ∧ t.bit Reg.SPINE_CTRL 3 = true ∧
      OnlyRegs [Reg.SPINE_S_STAT, Reg.SPINE_CTRL] s t) ∧
    (∀ (s : State),
      s.spineState .store ≠ 3 →
      exec .retrainS s = .next s) ∧
    (∀ (die : Die) (s : State),
      s.spineState die = 2 →
      (s.spine die).waiting = [] →
      s.store.reads = [] →
      ∃ t, exec (.spineTrainingDone die) s = .next t ∧ t.spineState die = 3 ∧ t.rdF (spineStat die) 3 1 = s.rdF Reg.SPINE_CTRL (4 + spineNo die) 1 ∧
      t.bit Reg.SPINE_CTRL (spineNo die) = false ∧ t.bit Reg.SPINE_CTRL (2 + spineNo die) = false ∧ (t.spine die).replay = (s.spine die).replay ∧
      OnlyRegs [spineStat die, Reg.SPINE_CTRL] { s with spineF := t.spineF, spineS := t.spineS } t)

/-- While no command is in progress: VERIFY and APPLY of an aligned image in main SRAM whose header passes hold the
image with PHASE at signature and BUSY at 1, and with a failing header end with the failing check's code, DONE and
event 6; APPLY first clears CATL_FOLIOS and LATE; SET_ACTIVE reads the named slot of the store die and does the
same, keeping the slot and the kind it will name. The model's choices in it, no rules of the spec: the corners of
the catalogue checks (log entry 23). (02 The catalogue image, Checks and statuses; 02 The catalogue image,
Operation) -/
def Obligations.CatalogueCommandsWaitForTheirSignature : Prop :=
    (∀ (a : Nat) (img : List Byte) (s : State),
      s.catBusy = false →
      (s.rd Reg.CATL_SRC).toNat = a →
      a % 4 = 0 →
      0x20000000 ≤ a ∧ a < 0x20010000 →
      img = s.bytesAt a (readLen (b4 (s.bytesAt a 32) 0x10) 96 65536) →
      s.headerCode img = 0 →
      ∃ t, exec .catlVerify s = .next t ∧ t.catBusy = true ∧ t.catPhase = 1 ∧ t.cat.image = img ∧ t.cat.cmd = 1 ∧
      t.cat.sections = s.cat.sections ∧ OnlyRegs [Reg.CATL_STATUS] { s with cat := t.cat } t) ∧
    (∀ (a : Nat) (img : List Byte) (s : State),
      s.catBusy = false →
      (s.rd Reg.CATL_SRC).toNat = a →
      a % 4 = 0 →
      0x20000000 ≤ a ∧ a < 0x20010000 →
      img = s.bytesAt a (readLen (b4 (s.bytesAt a 32) 0x10) 96 65536) →
      s.headerCode img ≠ 0 →
      ∃ t, exec .catlVerify s = .next t ∧ t.catBusy = false ∧ t.rdF Reg.CATL_STATUS 8 5 = s.headerCode img ∧ t.bit Reg.CATL_STATUS 16 = true ∧
      t.pending1 6 = true ∧ t.cat.sections = s.cat.sections ∧ OnlyEvents (Reg.CATL_STATUS :: eventRegs 6) { s with cat := t.cat } t) ∧
    (∀ (a : Nat) (img : List Byte) (s : State),
      s.catBusy = false →
      (s.rd Reg.CATL_SRC).toNat = a →
      a % 4 = 0 →
      0x20000000 ≤ a ∧ a < 0x20010000 →
      img = s.bytesAt a (readLen (b4 (s.bytesAt a 32) 0x10) 96 65536) →
      s.headerCode img = 0 →
      ∃ t, exec .catlApply s = .next t ∧ t.catBusy = true ∧ t.catPhase = 1 ∧ t.cat.image = img ∧ t.cat.cmd = 2 ∧ t.rd Reg.CATL_FOLIOS = 0 ∧
      t.bit Reg.CATL_STATUS 13 = false ∧ t.cat.sections = s.cat.sections ∧ OnlyRegs [Reg.CATL_STATUS, Reg.CATL_FOLIOS] { s with cat := t.cat } t) ∧
    (∀ (slot : Bool) (img : List Byte) (n : Nat) (s : State),
      s.catBusy = false →
      s.spineState .store = 3 →
      s.readStalls = false →
      s.storeBad (catSlotOff slot) 32 = none →
      n = readLen (b4 (s.storeBytes (catSlotOff slot) 32) 0x10) 96 65536 →
      s.storeBad (catSlotOff slot) n = none →
      img = s.storeBytes (catSlotOff slot) n →
      s.headerCode img = 0 →
      ∃ t, exec (.catlSetActive false slot) s = .next t ∧ t.catBusy = true ∧ t.catPhase = 1 ∧ t.cat.image = img ∧ t.cat.cmd = 3 ∧
      t.cat.slot = slot ∧ t.cat.app = false ∧ t.bit Reg.CATL_CTRL 8 = slot ∧ t.bit Reg.CATL_CTRL 9 = false ∧ t.boot = s.boot ∧
      OnlyRegs [Reg.CATL_STATUS, Reg.CATL_CTRL, Reg.STOR_COUNT] { s with cat := t.cat } t) ∧
    (∀ (slot : Bool) (img : List Byte) (n : Nat) (s : State),
      s.catBusy = false →
      s.spineState .store = 3 →
      s.readStalls = false →
      s.storeBad (appSlotOff slot) 32 = none →
      n = readLen (b4 (s.storeBytes (appSlotOff slot) 32) 0x10) 96 1048576 →
      s.storeBad (appSlotOff slot) n = none →
      img = s.storeBytes (appSlotOff slot) n →
      s.appHeaderCode img = 0 →
      ∃ t, exec (.catlSetActive true slot) s = .next t ∧ t.catBusy = true ∧ t.catPhase = 1 ∧ t.cat.image = img ∧ t.cat.cmd = 3 ∧
      t.cat.slot = slot ∧ t.cat.app = true ∧ t.boot = s.boot ∧ OnlyRegs [Reg.CATL_STATUS, Reg.CATL_CTRL, Reg.STOR_COUNT] { s with cat := t.cat } t)

/-- With a command in its signature phase: a refused request ends it with code 0x10; otherwise a VERIFY ends with the
code of the content checks, an APPLY that passes them goes to staging (or at once to the switch when nothing is
staged) and one that fails ends with the code, and a SET_ACTIVE that passes goes to the record. A folio of staging
counts in CATL_FOLIOS and the last one reaches the switch phase. The switch without AT ends the command with code 0
and CATL_BUILD holds the image's BUILD, boot-only sections staying as they were. Writing the record, while no
brown-out warning holds the pulses back, makes the named slot active in a copy whose sequence number is one higher.
The model's choices in it, no rules of the spec: a command whose premise does not hold changes nothing (log entry
13); the corners of the catalogue checks (log entry 23). (02 The catalogue image, Checks and statuses; 02 The
catalogue image, Operation) -/
def Obligations.CatalogueCommandsCompleteInTheirPhases : Prop :=
    (∀ (s : State),
      s.catBusy = true →
      s.catPhase = 1 →
      s.cat.reading = false →
      ∃ t, exec (.catlSignatureDone true) s = .next t ∧ t.catBusy = false ∧ t.bit Reg.CATL_STATUS 16 = true ∧ t.pending1 6 = true ∧ t.cat.cmd = 0 ∧ t.rdF Reg.CATL_STATUS 8 5 = 0x10 ∧ t.cat.sections = s.cat.sections ∧
      OnlyEvents (Reg.CATL_STATUS :: eventRegs 6) { s with cat := t.cat } t) ∧
    (∀ (s : State),
      s.catBusy = true →
      s.catPhase = 1 →
      s.cat.reading = false →
      s.cat.cmd = 1 →
      ∃ t, exec (.catlSignatureDone false) s = .next t ∧ t.catBusy = false ∧ t.bit Reg.CATL_STATUS 16 = true ∧ t.pending1 6 = true ∧ t.cat.cmd = 0 ∧ t.rdF Reg.CATL_STATUS 8 5 = (s.contentCode none s.cat.image).1 % 32 ∧
      t.cat.sections = s.cat.sections ∧ OnlyEvents (Reg.CATL_STATUS :: eventRegs 6) { s with cat := t.cat } t) ∧
    (∀ (s : State),
      s.catBusy = true →
      s.catPhase = 1 →
      s.cat.reading = false →
      s.cat.cmd = 2 →
      ∃ t, exec (.catlSignatureDone false) s = .next t ∧ t.cat.sections = s.cat.sections ∧
      (s.catContent.1 = 0 → 256 ≤ stagedBytes s.catContent.2 → t.catBusy = true ∧ t.catPhase = 3 ∧ t.cat.folios = (stagedBytes s.catContent.2 + 255) / 256) ∧
      (s.catContent.1 = 0 → stagedBytes s.catContent.2 = 0 → t.catBusy = true ∧ t.catPhase = 4) ∧
      (s.catContent.1 ≠ 0 → t.catBusy = false ∧ t.rdF Reg.CATL_STATUS 8 5 = s.catContent.1 % 32)) ∧
    (∀ (s : State),
      s.catBusy = true →
      s.catPhase = 1 →
      s.cat.reading = false →
      s.cat.cmd = 3 →
      ∃ t, exec (.catlSignatureDone false) s = .next t ∧ t.boot = s.boot ∧
      (s.catContent.1 = 0 → t.catBusy = true ∧ t.catPhase = 5) ∧ (s.catContent.1 ≠ 0 → t.catBusy = false ∧ t.rdF Reg.CATL_STATUS 8 5 = s.catContent.1 % 32)) ∧
    (∀ (s : State),
      s.catBusy = true →
      s.catPhase = 3 →
      2 ≤ s.cat.folios →
      ∃ t, exec .catlStageFolio s = .next t ∧ t.rdF Reg.CATL_FOLIOS 0 8 = min (s.rdF Reg.CATL_FOLIOS 0 8 + 1) 255 ∧ t.catPhase = 3 ∧
      t.cat.folios = s.cat.folios - 1 ∧ OnlyRegs [Reg.CATL_FOLIOS] { s with cat := t.cat } t) ∧
    (∀ (s : State),
      s.catBusy = true →
      s.catPhase = 3 →
      s.cat.folios ≤ 1 →
      ∃ t, exec .catlStageFolio s = .next t ∧ t.rdF Reg.CATL_FOLIOS 0 8 = min (s.rdF Reg.CATL_FOLIOS 0 8 + 1) 255 ∧ t.catPhase = 4 ∧
      t.bit Reg.CATL_STATUS 13 = (s.bit Reg.CATL_CTRL 4 && s.passed (s.rdInstant Reg.CATL_AT_LO Reg.CATL_AT_HI)) ∧
      OnlyRegs [Reg.CATL_FOLIOS, Reg.CATL_STATUS] { s with cat := t.cat } t) ∧
    (∀ (s : State),
      s.catBusy = true →
      s.catPhase = 4 →
      s.bit Reg.CATL_CTRL 4 = false →
      ∃ t, exec .catlSwitch s = .next t ∧ t.catBusy = false ∧ t.bit Reg.CATL_STATUS 16 = true ∧ t.pending1 6 = true ∧ t.cat.cmd = 0 ∧ t.rdF Reg.CATL_STATUS 8 5 = 0 ∧ t.rd Reg.CATL_BUILD = word (imgBuild s.cat.image) ∧
      bootOnly.all (fun n => mapGet t.cat.sections n == mapGet s.cat.sections n) = true ∧ t.store = s.store ∧ t.cust = s.cust ∧ SameMem s t) ∧
    (∀ (s : State),
      s.catBusy = true →
      s.catPhase = 5 →
      s.bit Reg.PWR_STATUS 0 = false →
      s.cat.app = false →
      s.physOf 2 ≠ s.physOf 3 →
      s.record.seq + 1 < 2 ^ 32 →
      ∃ t, exec .catlRecordWritten s = .next t ∧ t.catBusy = false ∧ t.bit Reg.CATL_STATUS 16 = true ∧ t.pending1 6 = true ∧ t.cat.cmd = 0 ∧ t.rdF Reg.CATL_STATUS 8 5 = 0 ∧ t.record.cat = s.cat.slot ∧
      t.record.app = s.record.app ∧ t.record.seq = s.record.seq + 1 ∧ t.bit Reg.CATL_INFO 0 = s.cat.slot ∧
      OnlyEvents (Reg.CATL_STATUS :: Reg.CATL_INFO :: eventRegs 6) { s with cat := t.cat, store := { s.store with flash := t.store.flash } } t) ∧
    (∀ (s : State),
      s.catBusy = true →
      s.catPhase = 5 →
      s.bit Reg.PWR_STATUS 0 = false →
      s.cat.app = true →
      s.physOf 2 ≠ s.physOf 3 →
      s.record.seq + 1 < 2 ^ 32 →
      ∃ t, exec .catlRecordWritten s = .next t ∧ t.catBusy = false ∧ t.bit Reg.CATL_STATUS 16 = true ∧ t.pending1 6 = true ∧ t.cat.cmd = 0 ∧ t.record.app = s.cat.slot ∧
      t.record.cat = s.record.cat ∧ t.record.seq = s.record.seq + 1 ∧ t.bit Reg.CATL_INFO 5 = s.cat.slot ∧
      OnlyEvents (Reg.CATL_STATUS :: Reg.CATL_INFO :: eventRegs 6) { s with cat := t.cat, store := { s.store with flash := t.store.flash } } t)

/-- While no command is in progress, COMMIT makes the minimum accepted build the greater of itself and CATL_BUILD and
ends with code 0; RETIRE with the rotation key's image running retires the primary key and ends with code 0; without
the rotation key RETIRE retires nothing and lowers nothing. While a command is in progress, each of the five
commands, and every write of CATL_CTRL with CMD not 0, sets CODE to BUSY and changes nothing else. (R61) -/
def Obligations.CommitRaisesAndRetireRetiresAndBusyRefuses : Prop :=
    (∀ (s : State),
      s.catBusy = false →
      ∃ t, exec .catlCommit s = .next t ∧ t.boot.minBuild = max s.boot.minBuild (s.rd Reg.CATL_BUILD).toNat ∧ t.catBusy = false ∧ t.bit Reg.CATL_STATUS 16 = true ∧ t.pending1 6 = true ∧ t.cat.cmd = 0 ∧ t.rdF Reg.CATL_STATUS 8 5 = 0 ∧
      OnlyEvents (Reg.CATL_STATUS :: Reg.CATL_MIN_BUILD :: eventRegs 6) { s with cat := t.cat, boot := { s.boot with minBuild := t.boot.minBuild } } t) ∧
    (∀ (s : State),
      s.catBusy = false →
      s.bit Reg.CATL_INFO 3 = true →
      ∃ t, exec .catlRetire s = .next t ∧ t.boot.retired = true ∧ t.bit Reg.CATL_INFO 4 = true ∧ t.catBusy = false ∧ t.bit Reg.CATL_STATUS 16 = true ∧ t.pending1 6 = true ∧ t.cat.cmd = 0 ∧ t.rdF Reg.CATL_STATUS 8 5 = 0 ∧
      OnlyEvents (Reg.CATL_STATUS :: Reg.CATL_INFO :: eventRegs 6) { s with cat := t.cat, boot := { s.boot with retired := true } } t) ∧
    (∀ (s : State),
      s.catBusy = false →
      s.bit Reg.CATL_INFO 3 = false →
      ∃ t, exec .catlRetire s = .next t ∧ t.boot = s.boot) ∧
    (∀ (c : Instr) (s : State),
      c ∈ [.catlVerify, .catlApply, .catlCommit, .catlRetire, .catlSetActive false false, .catlSetActive false true, .catlSetActive true false, .catlSetActive true true] →
      s.catBusy = true →
      ∃ t, exec c s = .next t ∧ t.rdF Reg.CATL_STATUS 8 5 = 0xE ∧ t.catBusy = true ∧ t.catPhase = s.catPhase ∧ OnlyRegs [Reg.CATL_STATUS] s t) ∧
    (∀ (m : Master) (v : Word) (s : State),
      s.locked m = false →
      s.isHeld = false →
      fld v 0 4 ≠ 0 →
      s.catBusy = true →
      ∃ t, exec (.registerWrite m (word Reg.CATL_CTRL) v) s = .next t ∧ t.rdF Reg.CATL_STATUS 8 5 = 0xE ∧ t.catBusy = true ∧ t.catPhase = s.catPhase ∧
      OnlyRegs [Reg.CATL_STATUS] (s.answer 0) t)

/-- Unless a seal or grave hold holds the part, RST_N low for more than 10 µs, the software-reset key, and ndmreset
while debug is open each start a warm reset: RSTC_CAUSE.LAST names the source, RSTC_HIST has seen it, the core die
is held, GPIO_HOLD holds the pads at what they drove, registers of the backup domain keep their value and every
other register reads its reset value, the enclave is cleared while the key store, the fuses and the chronicle stay,
flash and with it the errata mirror stays while no store operation and no write of the slot record runs, and every
byte of main SRAM and the buffer pool stays. A shorter pulse, another key, and a locked debug do nothing; a pulse of
2 to 10 µs is free to do either. The model's choices in it, no rules of the spec: RST_N pulses from 2 to 10 µs (log
entry 30). (03 Reset, start-up and annex mode, table What a reset clears; 03 RSTC registers) -/
def Obligations.WarmResetsClearWhatTheTableSays : Prop :=
    (∀ (ns : Nat) (s : State),
      10000 < ns →
      s.isHeld = false →
      s.regsWf = true →
      ∃ t, exec (.rstNPulse ns) s = .next t ∧ t.rd Reg.RSTC_CAUSE = word (2 ^ 2) ∧ t.bit Reg.RSTC_HIST 2 = true ∧ t.boot.phase = .held ∧ t.bit Reg.GPIO_HOLD 0 = true ∧ t.boot.padHold = s.captureHold (Config.freeNat s.freeCtr) ∧ t.chron.now = s.chron.now ∧
      t.cust.keys = [] ∧ t.cust.store = s.cust.store ∧ t.cust.life = s.cust.life ∧ t.boot.minBuild = s.boot.minBuild ∧
      (s.store.ops = [] → s.writesSlots = false → t.store.flash = s.store.flash ∧ t.mirror = s.mirror) ∧
      (∀ a, keepOverReset false a = 0 → a ∉ [Reg.RSTC_CAUSE, Reg.PWR_STATUS, Reg.GPIO_HOLD] → t.rd a = resetOf a) ∧
      (∀ a, keepOverReset false a = 0xFFFFFFFF → a ≠ Reg.RSTC_HIST → t.rd a = s.rd a) ∧ (∀ a, memAreas a ≠ [] → t.byteAt a = s.byteAt a)) ∧
    (∀ (ns : Nat) (s : State),
      ns < 2000 →
      exec (.rstNPulse ns) s = .next s) ∧
    (∀ (ns : Nat) (s : State),
      2000 ≤ ns →
      ns ≤ 10000 →
      ∃ t, exec (.rstNPulse ns) s = .next t ∧ (t = { s with freeCtr := s.freeCtr + 1 } ∨ s.isHeld = true ∨ t.rd Reg.RSTC_CAUSE = 4)) ∧
    (∀ (s : State),
      s.isHeld = false →
      s.regsWf = true →
      ∃ t, exec (.softwareReset 0x0C965A5A) s = .next t ∧ t.rd Reg.RSTC_CAUSE = word (2 ^ 5) ∧ t.bit Reg.RSTC_HIST 5 = true ∧ t.boot.phase = .held ∧ t.bit Reg.GPIO_HOLD 0 = true ∧ t.boot.padHold = s.captureHold (Config.freeNat s.freeCtr) ∧ t.chron.now = s.chron.now ∧
      t.cust.keys = [] ∧ t.cust.store = s.cust.store ∧ t.cust.life = s.cust.life ∧ t.boot.minBuild = s.boot.minBuild ∧
      (s.store.ops = [] → s.writesSlots = false → t.store.flash = s.store.flash ∧ t.mirror = s.mirror) ∧
      (∀ a, keepOverReset false a = 0 → a ∉ [Reg.RSTC_CAUSE, Reg.PWR_STATUS, Reg.GPIO_HOLD] → t.rd a = resetOf a) ∧
      (∀ a, keepOverReset false a = 0xFFFFFFFF → a ≠ Reg.RSTC_HIST → t.rd a = s.rd a) ∧ (∀ a, memAreas a ≠ [] → t.byteAt a = s.byteAt a)) ∧
    (∀ (key : Word) (s : State),
      key ≠ 0x0C965A5A →
      exec (.softwareReset key) s = .next s) ∧
    (∀ (s : State),
      s.debugOpen = true →
      s.isHeld = false →
      s.regsWf = true →
      ∃ t, exec .debugReset s = .next t ∧ t.rd Reg.RSTC_CAUSE = word (2 ^ 6) ∧ t.bit Reg.RSTC_HIST 6 = true ∧ t.boot.phase = .held ∧ t.bit Reg.GPIO_HOLD 0 = true ∧ t.boot.padHold = s.captureHold (Config.freeNat s.freeCtr) ∧ t.chron.now = s.chron.now ∧
      t.cust.keys = [] ∧ t.cust.store = s.cust.store ∧ t.cust.life = s.cust.life ∧ t.boot.minBuild = s.boot.minBuild ∧
      (s.store.ops = [] → s.writesSlots = false → t.store.flash = s.store.flash ∧ t.mirror = s.mirror) ∧
      (∀ a, keepOverReset false a = 0 → a ∉ [Reg.RSTC_CAUSE, Reg.PWR_STATUS, Reg.GPIO_HOLD] → t.rd a = resetOf a) ∧
      (∀ a, keepOverReset false a = 0xFFFFFFFF → a ≠ Reg.RSTC_HIST → t.rd a = s.rd a) ∧ (∀ a, memAreas a ≠ [] → t.byteAt a = s.byteAt a)) ∧
    (∀ (s : State),
      s.debugOpen = false →
      exec .debugReset s = .next s) ∧
    (∀ (s : State),
      s.boot.resetDue = true →
      s.isHeld = false →
      s.regsWf = true →
      ∃ t, exec .annexResetDelayExpiry s = .next t ∧ t.boot.resetDue = false ∧ t.rd Reg.RSTC_CAUSE = word (2 ^ 5) ∧ t.bit Reg.RSTC_HIST 5 = true ∧ t.boot.phase = .held ∧ t.bit Reg.GPIO_HOLD 0 = true ∧ t.boot.padHold = s.captureHold (Config.freeNat s.freeCtr) ∧ t.chron.now = s.chron.now ∧
      t.cust.keys = [] ∧ t.cust.store = s.cust.store ∧ t.cust.life = s.cust.life ∧ t.boot.minBuild = s.boot.minBuild ∧
      (s.store.ops = [] → s.writesSlots = false → t.store.flash = s.store.flash ∧ t.mirror = s.mirror) ∧
      (∀ a, keepOverReset false a = 0 → a ∉ [Reg.RSTC_CAUSE, Reg.PWR_STATUS, Reg.GPIO_HOLD] → t.rd a = resetOf a) ∧
      (∀ a, keepOverReset false a = 0xFFFFFFFF → a ≠ Reg.RSTC_HIST → t.rd a = s.rd a) ∧ (∀ a, memAreas a ≠ [] → t.byteAt a = s.byteAt a))

/-- After POWER_ON_RESET with a normal supply every register but RSTC_CAUSE, RSTC_HIST and STOR_PATROL reads its reset
value and flash stays while no store operation and no write of the slot record runs, the fuses and the key store
stay, and a low supply leaves BOW and BOW_SEEN set with event 1 due. BROWN_OUT_RESET, unless the part is held,
records its cause, sets BOW and BOW_SEEN, keeps the backup domain and holds the core die. RESET_HOLD_END makes step
0 due when the core die is held, and releases the front die's reset wire. The model's choices in it, no rules of the
spec: a command whose premise does not hold changes nothing (log entry 13). (03 Reset, start-up and annex mode,
table What a reset clears; 03 RSTC registers) -/
def Obligations.ColdResetsClearAlsoMemoryAndPower : Prop :=
    (∀ (s : State),
      ∃ t, exec (.powerOnReset ⟨false⟩) s = .next t ∧ t.rd Reg.RSTC_CAUSE = 1 ∧ t.bit Reg.RSTC_HIST 0 = true ∧ t.boot.phase = .held ∧
      (∀ a, a ∉ [Reg.RSTC_CAUSE, Reg.RSTC_HIST, Reg.STOR_PATROL] → t.rd a = resetOf a) ∧ t.boot.minBuild = s.boot.minBuild ∧ t.boot.retired = s.boot.retired ∧
      t.cust.store = s.cust.store ∧ t.cust.life = s.cust.life ∧ t.cust.zeroised = s.cust.zeroised ∧
      t.cust.keys = [] ∧ t.chron = {} ∧ (s.store.ops = [] → s.writesSlots = false → t.store.flash = s.store.flash) ∧ t.variant = s.variant ∧ t.pending = s.pending) ∧
    (∀ (s : State),
      ∃ t, exec (.powerOnReset ⟨true⟩) s = .next t ∧ t.rd Reg.RSTC_CAUSE = 1 ∧ t.boot.phase = .held ∧ t.bit Reg.PWR_STATUS 0 = true ∧
      t.bit Reg.PWR_STATUS 1 = true ∧ t.pwr.bowEvent = true ∧ t.cust.store = s.cust.store ∧ t.cust.life = s.cust.life ∧ t.boot.minBuild = s.boot.minBuild) ∧
    (∀ (s : State),
      s.isHeld = false →
      s.regsWf = true →
      ∃ t, exec .brownOutReset s = .next t ∧ t.rd Reg.RSTC_CAUSE = 2 ∧ t.bit Reg.RSTC_HIST 1 = true ∧ t.boot.phase = .held ∧
      t.bit Reg.PWR_STATUS 0 = true ∧ t.bit Reg.PWR_STATUS 1 = true ∧ t.cust.keys = [] ∧ t.cust.store = s.cust.store ∧ t.chron.now = s.chron.now ∧
      (∀ a, keepOverReset true a = 0 → a ∉ [Reg.RSTC_CAUSE, Reg.PWR_STATUS] → t.rd a = resetOf a) ∧
      (∀ i < 8, t.rd (Reg.RSTC_BKP i) = s.rd (Reg.RSTC_BKP i)) ∧ t.boot.padHold = []) ∧
    (∀ (s : State),
      s.isHeld = true →
      exec .brownOutReset s = .next s) ∧
    (∀ (s : State),
      s.boot.phase = .held →
      exec .resetHoldEnd s = .next { s with boot := { s.boot with phase := .start }, spineF := { s.spineF with resetReq := false } }) ∧
    (∀ (s : State),
      s.boot.phase ≠ .held →
      exec .resetHoldEnd s = .next s)

/-- With step 0 due, no tamper input tripping and no mirror to restore: a start with BOOT_SEL high and no step failing
reaches annex mode after step 5 with both spines UP, COUNT raised, IN_ANNEX and BOOT_SEL set and GPIO_HOLD released;
a start whose step 1 fails its check, or whose step k of 1 to 5 exceeds its limit (BOOT_STEP at 0xF before, so no
HANG is counted), raises that step's count by one up to 3, records step and reason in RSTC_LASTFAIL, and starts
again through a software reset; a supply that fails step 0 leaves the core die held. Without step 0 due nothing
happens. The model's choices in it, no rules of the spec: a command whose premise does not hold changes nothing (log
entry 13); the start as one command (log entry 15); the corners of the start (log entry 20). (03 Reset, start-up and
annex mode, table Start-up steps; 03 Operation; 03 Annex mode) -/
def Obligations.AStartRunsItsStepsOrCountsTheFailure : Prop :=
    (∀ (env : BootEnv) (s : State),
      s.boot.phase = .start →
      env.fails = [] →
      env.tamper = [] →
      env.bootSel = some true →
      s.boot.coldMirror = false →
      ∃ t, exec (.bootStart env) s = .next t ∧ t.boot.phase = .annex ∧ t.bit Reg.RSTC_CIRC 18 = true ∧ t.bit Reg.RSTC_CIRC 17 = true ∧ t.rd Reg.RSTC_BOOT_STEP = 5 ∧
      t.spineState .front = 3 ∧ t.spineState .store = 3 ∧ t.bit Reg.GPIO_HOLD 0 = false ∧ t.boot.padHold = [] ∧ t.cust.life = s.cust.life) ∧
    (∀ (env : BootEnv) (s : State),
      s.boot.phase = .start →
      env.fails = [1] →
      env.tamper = [] →
      s.rd Reg.RSTC_BOOT_STEP = 0xF →
      s.regsWf = true →
      ∃ t, exec (.bootStart env) s = .next t ∧ t.boot.phase = .held ∧ t.rd Reg.RSTC_CAUSE = 0x20 ∧ t.errCount 1 = min (s.errCount 1 + 1) 3 ∧
      t.rd Reg.RSTC_LASTFAIL = word (1 + 2 * 2 ^ 4 + 2 ^ 31) ∧ t.rd Reg.RSTC_BOOT_STEP = 1) ∧
    (∀ (env : BootEnv) (k : Fin 14) (s : State),
      s.boot.phase = .start →
      env.fails = [] →
      env.tamper = [] →
      s.rd Reg.RSTC_BOOT_STEP = 0xF →
      1 ≤ k.val →
      k.val ≤ 5 →
      s.boot.coldMirror = false →
      s.regsWf = true →
      ∃ t, exec (.bootStepTimeout env k) s = .next t ∧ t.boot.phase = .held ∧ t.rd Reg.RSTC_CAUSE = 0x20 ∧ t.errCount k.val = min (s.errCount k.val + 1) 3 ∧
      t.rd Reg.RSTC_LASTFAIL = word (k.val + 1 * 2 ^ 4 + 2 ^ 31) ∧ t.rd Reg.RSTC_BOOT_STEP = word k.val) ∧
    (∀ (env : BootEnv) (s : State),
      s.boot.phase = .start →
      env.fails.any (fun k => k.val == 0) = true →
      exec (.bootStart env) s = .next { s with boot := { s.boot with phase := .held } }) ∧
    (∀ (env : BootEnv) (s : State),
      s.boot.phase ≠ .start →
      exec (.bootStart env) s = .next s)

/-- The key 0x0C96_B00C written to RSTC_BOOT_OK makes RSTC_CIRC.COUNT 0 and changes no other field or register, and any
other value is ignored, as a command and as a register write. ERRATA_CLR sets exactly the counts of its ones to 0
and sets MIRROR_PEND when a count changes; the mirror rewrite that is due, with no brown-out warning, stores
RSTC_ERRATA and ANNEX and clears MIRROR_PEND; GPIO_HOLD_RELEASE clears HOLD and what was held. (R90) -/
def Obligations.ResetControllerKeysActAsTheirRulesSay : Prop :=
    (∀ (s : State),
      ∃ t, exec (.bootOk 0x0C96B00C) s = .next t ∧ t.rdF Reg.RSTC_CIRC 0 4 = 0 ∧ t.rdF Reg.RSTC_CIRC 4 28 = s.rdF Reg.RSTC_CIRC 4 28 ∧ OnlyRegs [Reg.RSTC_CIRC] s t) ∧
    (∀ (key : Word) (s : State),
      key ≠ 0x0C96B00C →
      exec (.bootOk key) s = .next s) ∧
    (∀ (m : Master) (v : Word) (s : State),
      s.locked m = false →
      s.isHeld = false →
      ∃ t, exec (.bootOk v) s = .next t ∧ exec (.registerWrite m (word Reg.RSTC_BOOT_OK) v) s = .next (t.answer 0)) ∧
    (∀ (v : Word) (s : State),
      ∃ t, exec (.errataClr v) s = .next t ∧ (List.range 14).all (fun n => t.errCount n == if bitOf v n then 0 else s.errCount n) = true ∧
      (t.rd Reg.RSTC_ERRATA ≠ s.rd Reg.RSTC_ERRATA → t.bit Reg.RSTC_CIRC 19 = true) ∧ t.rdF Reg.RSTC_CIRC 0 19 = s.rdF Reg.RSTC_CIRC 0 19 ∧
      OnlyRegs [Reg.RSTC_ERRATA, Reg.RSTC_CIRC] s t) ∧
    (∀ (s : State),
      s.bit Reg.RSTC_CIRC 19 = true →
      s.bit Reg.PWR_STATUS 0 = false →
      ∃ t, exec .errataMirrorRewrite s = .next t ∧ t.mirror = some (s.rd Reg.RSTC_ERRATA, s.bit Reg.RSTC_CIRC 16) ∧
      t.bit Reg.RSTC_CIRC 19 = false ∧ OnlyRegs [Reg.RSTC_CIRC] { s with store := { s.store with flash := t.store.flash } } t) ∧
    (∀ (s : State),
      s.bit Reg.PWR_STATUS 0 = true →
      exec .errataMirrorRewrite s = .next s) ∧
    (∀ (s : State),
      ∃ t, exec .gpioHoldRelease s = .next t ∧ t.bit Reg.GPIO_HOLD 0 = false ∧ t.boot = { s.boot with padHold := [] } ∧ OnlyRegs [Reg.GPIO_HOLD] { s with boot := t.boot } t)

/-- In annex mode: a frame with a wrong CRC changes nothing; OP 0 or above 5 is answered 0x21; HELLO is answered with
the part's identity, counts and minimum build; BEGIN of a target and a length in range opens an image write,
answered after the erase, which leaves every word of the target erased; DATA in range over erased words programs
them; END runs the checks, activates an image that passes and answers its code otherwise; RESET after a passed END
makes the software reset due. The model's choices in it, no rules of the spec: a command whose premise does not hold
changes nothing (log entry 13); the corners of image writing (log entry 22). (03 Reset, start-up and annex mode,
Annex mode; 03 table Annex frames) -/
def Obligations.AnnexFramesAreAnsweredByTheTable : Prop :=
    (∀ (c : Instr) (x : Bool) (line : List Byte) (s : State),
      c ∈ [.annexHello line, .annexBegin line, .annexData line x, .annexEnd line x, .annexReset line] →
      parseFrame line = none →
      exec c s = .next s) ∧
    (∀ (line : List Byte) (f : HifFrame) (s : State),
      s.boot.phase = .annex →
      parseFrame line = some f →
      f.op = 0 ∨ 5 < f.op →
      exec (.annexHello line) s = .next (s.hifSend (replyFrame f 0x21 []))) ∧
    (∀ (line : List Byte) (f : HifFrame) (s : State),
      s.boot.phase = .annex →
      parseFrame line = some f →
      f.op = 1 →
      f.len = 0 →
      f.payload = [] →
      exec (.annexHello line) s = .next (s.hifSend (replyFrame f 0 (leBytes 4 s.sysctlId.toNat ++ uidBytes ++ leBytes 1 s.cust.life ++ leBytes 1 (if s.bit Reg.RSTC_CIRC 16 then 0 else 1) ++
        leBytes 1 (s.rdF Reg.RSTC_CIRC 0 4) ++ leBytes 4 (s.rd Reg.RSTC_ERRATA).toNat ++ leBytes 4 (s.rd Reg.RSTC_LASTFAIL).toNat ++ leBytes 4 s.boot.minBuild)))) ∧
    (∀ (line : List Byte) (f : HifFrame) (s : State),
      s.boot.phase = .annex →
      parseFrame line = some f →
      f.op = 2 →
      f.len = 8 →
      f.payload.length = 8 →
      b1 f.payload 0 ≤ 3 →
      lenOk (b1 f.payload 0) (b4 f.payload 4) = true →
      s.bit Reg.PWR_STATUS 0 = false →
      exec (.annexBegin line) s = .next { s with boot := { s.boot with annexW := some { target := b1 f.payload 0, len := b4 f.payload 4, seq := byte f.seq }, rescue := none } }) ∧
    (∀ (w : AnnexWrite) (s : State),
      s.boot.phase = .annex →
      s.boot.annexW = some w →
      w.erased = false →
      w.target ≤ 3 →
      s.bit Reg.PWR_STATUS 0 = false →
      ∃ t, exec (.annexBeginErased false) s = .next t ∧ t.boot.annexW = some { w with erased := true } ∧ t.hif.txd = replyFrame ⟨2, w.seq.toNat, 0, []⟩ 0 [] ∧
      (∀ k < (targetSectors w.target).2, ∀ i < 256, t.flashAt (t.physOf ((targetSectors w.target).1 + k)) i = {}) ∧
      OnlyRegs [] { s with boot := t.boot, hif := t.hif, store := t.store } t) ∧
    (∀ (line : List Byte) (f : HifFrame) (w : AnnexWrite) (s : State),
      s.boot.phase = .annex →
      parseFrame line = some f →
      f.op = 3 →
      f.len = f.payload.length →
      12 ≤ f.len →
      f.len ≤ 1028 →
      s.boot.annexW = some w →
      w.erased = true →
      b4 f.payload 0 % 8 = 0 →
      (f.payload.drop 4).length % 8 = 0 →
      b4 f.payload 0 + (f.payload.drop 4).length ≤ w.len →
      s.bit Reg.PWR_STATUS 0 = false →
      s.runBlank (targetOff w.target + b4 f.payload 0) (f.payload.drop 4).length = true →
      ∃ t, exec (.annexData line false) s = .next t ∧ t.store = (s.progRun (targetOff w.target + b4 f.payload 0) (f.payload.drop 4)).store ∧ t.hif.txd = replyFrame f 0 [] ∧
      OnlyRegs [] { s with hif := t.hif, store := t.store } t) ∧
    (∀ (line : List Byte) (x : Bool) (f : HifFrame) (w : AnnexWrite) (s : State),
      s.boot.phase = .annex →
      parseFrame line = some f →
      f.op = 4 →
      f.len = 0 →
      f.payload = [] →
      s.boot.annexW = some w →
      w.erased = true →
      s.bit Reg.PWR_STATUS 0 = false →
      s.physOf 2 ≠ s.physOf 3 →
      s.physOf 2 ≠ s.physOf 4 →
      s.physOf 3 ≠ s.physOf 4 →
      s.record.seq + 1 < 2 ^ 32 →
      ∃ t, exec (.annexEnd line x) s = .next t ∧ (s.annexCheck w.target x ≠ 0 → t = s.hifSend (replyFrame f 0x26 (leBytes 1 (s.annexCheck w.target x)))) ∧
      (s.annexCheck w.target x = 0 → t.hif.txd = replyFrame f 0 [0] ∧ t.boot.annexW = some { w with ended := true } ∧ t.rdF Reg.RSTC_CIRC 0 4 = 0 ∧ t.bit Reg.RSTC_CIRC 16 = false ∧
        (if targetApp w.target then t.record.app else t.record.cat) = targetSlot w.target ∧ t.record.seq = s.record.seq + 1 ∧
        t.mirror = some (t.rd Reg.RSTC_ERRATA, false))) ∧
    (∀ (line : List Byte) (f : HifFrame) (w : AnnexWrite) (s : State),
      s.boot.phase = .annex →
      parseFrame line = some f →
      f.op = 5 →
      f.len = 0 →
      f.payload = [] →
      s.boot.annexW = some w →
      w.ended = true →
      exec (.annexReset line) s = .next { s.hifSend (replyFrame f 0 []) with boot := { s.boot with resetDue := true } })

/-- In annex mode, with no HIF-1 image write, no reset due and no brown-out warning, a well-formed block starts a
collection when none runs, starts it anew when it names a higher BUILD than an erased collection, is ignored when it
names a lower BUILD, another TOTAL_LEN or another TARGET, or while the erase has not ended; a block of the
collection not yet received is programmed at its place, and one received already is ignored. RESCUE_ERASE_DONE
erases the target. The model's choices in it, no rules of the spec: the corners of image writing (log entry 22). (03
Rescue channel) -/
def Obligations.RescueCollectsOneImageAtATime : Prop :=
    (∀ (p : List Byte) (x : Bool) (s : State),
      s.onRescue = true →
      s.boot.phase = .annex →
      s.boot.annexW = none →
      s.boot.resetDue = false →
      s.bit Reg.PWR_STATUS 0 = false →
      blockOk p = true →
      s.boot.rescue = none →
      exec (.rescueBlockReceived p x) s = .next { s with boot := { s.boot with rescue := some { target := b1 p 2, build := b4 p 4, len := b4 p 8 } } }) ∧
    (∀ (p : List Byte) (x : Bool) (r : Rescue) (s : State),
      s.onRescue = true →
      s.boot.phase = .annex →
      s.boot.annexW = none →
      s.boot.resetDue = false →
      s.bit Reg.PWR_STATUS 0 = false →
      blockOk p = true →
      s.boot.rescue = some r →
      r.erased = true →
      r.build < b4 p 4 →
      exec (.rescueBlockReceived p x) s = .next { s with boot := { s.boot with rescue := some { target := b1 p 2, build := b4 p 4, len := b4 p 8 } } }) ∧
    (∀ (p : List Byte) (x : Bool) (r : Rescue) (s : State),
      s.onRescue = true →
      s.boot.phase = .annex →
      s.boot.annexW = none →
      s.boot.resetDue = false →
      s.bit Reg.PWR_STATUS 0 = false →
      blockOk p = true →
      s.boot.rescue = some r →
      r.erased = false ∨ b4 p 4 < r.build ∨ (b4 p 4 = r.build ∧ (b4 p 8 ≠ r.len ∨ b1 p 2 ≠ r.target ∨ r.blocks.contains (b2 p 12) = true)) →
      exec (.rescueBlockReceived p x) s = .next s) ∧
    (∀ (p : List Byte) (x : Bool) (r : Rescue) (s : State),
      s.onRescue = true →
      s.boot.phase = .annex →
      s.boot.annexW = none →
      s.boot.resetDue = false →
      s.bit Reg.PWR_STATUS 0 = false →
      blockOk p = true →
      s.boot.rescue = some r →
      r.erased = true →
      b4 p 4 = r.build →
      b4 p 8 = r.len →
      b1 p 2 = r.target →
      r.blocks.contains (b2 p 12) = false →
      r.blocks.length + 1 < r.total →
      ∃ t, exec (.rescueBlockReceived p x) s = .next t ∧ t.boot.rescue = some { r with blocks := r.blocks ++ [b2 p 12] } ∧
      t.store = (s.progRun (targetOff r.target + 224 * b2 p 12) ((p.drop 16).take (min 224 ((r.len + 7) / 8 * 8 - 224 * b2 p 12)))).store ∧
      OnlyRegs [] { s with boot := t.boot, store := t.store } t) ∧
    (∀ (r : Rescue) (s : State),
      s.boot.rescue = some r →
      r.erased = false →
      s.bit Reg.PWR_STATUS 0 = false →
      ∃ t, exec .rescueEraseDone s = .next t ∧ t.boot.rescue = some { r with erased := true } ∧ (∀ k < (targetSectors r.target).2, ∀ i < 256, t.flashAt (t.physOf ((targetSectors r.target).1 + k)) i = {}) ∧
      OnlyRegs [] { s with boot := t.boot, store := t.store } t)

/-- A brown-out warning sets BOW and BOW_SEEN and STOR_STATE.INHIBIT, and raises event 1 while the part is awake and
past its start; in sleep event 1 is due at the wake; the release clears BOW alone. WFI in Run with no ready
interrupt enters Doze, with a sleep entry waiting for Nap or Hibernate; a ready interrupt keeps Run, and SLOW_FAIL
turns a sleep entry into a counted Doze. An entry with no blocker sleeps when no wake instant is nearer than 4
ticks: PWR_WAKE_AT and PWR_FORCED are recorded, both spines are DOWN, SYSCLK leaves the PLL, a Nap is counted;
nearer than 4 ticks it stays in Doze until the instant, counted; a ready interrupt ends the entry, counted. An
aborted entry resumes Run, counted. The model's choices in it, no rules of the spec: a command whose premise does
not hold changes nothing (log entry 13). (04 Supplies, sleep and the battery, Operation; 04 Modes; 04 PWR registers) -/
def Obligations.BrownOutWarningAndSleepEntryFollowPowerControl : Prop :=
    (∀ (s : State),
      s.bit Reg.PWR_STATUS 0 = false →
      s.isHeld = false →
      s.asleep = false →
      s.boot.phase = .app ∨ s.boot.phase = .annex →
      ∃ t, exec .brownOutWarning s = .next t ∧ t.bit Reg.PWR_STATUS 0 = true ∧ t.bit Reg.PWR_STATUS 1 = true ∧ t.bit Reg.STOR_STATE 8 = true ∧ t.pending1 1 = true ∧
      (s.store.ops = [] → s.store.reads = [] → s.store.checks = [] → OnlyEvents ([Reg.PWR_STATUS, Reg.STOR_STATE, Reg.STOR_SPARE, Reg.STORD_OP 0, Reg.STORD_OP 1] ++ eventRegs 1) s t)) ∧
    (∀ (s : State),
      s.bit Reg.PWR_STATUS 0 = false →
      s.asleep = true →
      s.isHeld = false →
      s.store.ops = [] →
      s.store.reads = [] →
      s.store.checks = [] →
      ∃ t, exec .brownOutWarning s = .next t ∧ t.bit Reg.PWR_STATUS 0 = true ∧ t.bit Reg.PWR_STATUS 1 = true ∧
      OnlyRegs [Reg.PWR_STATUS, Reg.STOR_STATE, Reg.STOR_SPARE, Reg.STORD_OP 0, Reg.STORD_OP 1] { s with pwr := { s.pwr with bowEvent := true } } t) ∧
    (∀ (s : State),
      ∃ t, exec .brownOutRelease s = .next t ∧ t.bit Reg.PWR_STATUS 0 = false ∧ t.bit Reg.PWR_STATUS 1 = s.bit Reg.PWR_STATUS 1 ∧ OnlyRegs [Reg.PWR_STATUS] s t) ∧
    (∀ (s : State),
      s.pwr.mode = .run →
      s.boot.phase = .app →
      s.meip = false →
      ∃ t, exec .wfiDoze s = .next t ∧ t.rdF Reg.PWR_CTRL 0 2 = 0 ∧ OnlyRegs [Reg.PWR_CTRL] { s with pwr := { s.pwr with mode := .doze, entry := none, resumeAt := none } } t) ∧
    (∀ (s : State),
      s.pwr.mode = .run →
      s.boot.phase = .app →
      s.meip = false →
      s.bit Reg.CLK_STATUS 3 = false →
      ∃ t, exec .wfiNap s = .next t ∧ t.rdF Reg.PWR_CTRL 0 2 = 1 ∧ OnlyRegs [Reg.PWR_CTRL] { s with pwr := { s.pwr with mode := .doze, entry := some false, resumeAt := none } } t) ∧
    (∀ (s : State),
      s.pwr.mode = .run →
      s.boot.phase = .app →
      s.meip = false →
      s.bit Reg.CLK_STATUS 3 = false →
      ∃ t, exec .wfiHibernate s = .next t ∧ t.rdF Reg.PWR_CTRL 0 2 = 2 ∧ OnlyRegs [Reg.PWR_CTRL] { s with pwr := { s.pwr with mode := .doze, entry := some true, resumeAt := none } } t) ∧
    (∀ (c : Instr) (s : State),
      c ∈ [.wfiNap, .wfiHibernate] →
      s.pwr.mode = .run →
      s.boot.phase = .app →
      s.meip = false →
      s.bit Reg.CLK_STATUS 3 = true →
      ∃ t, exec c s = .next t ∧ t.rdF Reg.PWR_COUNT 16 8 = min (s.rdF Reg.PWR_COUNT 16 8 + 1) 255 ∧
      OnlyRegs [Reg.PWR_CTRL, Reg.PWR_COUNT] { s with pwr := { s.pwr with mode := .doze, entry := none, resumeAt := none } } t) ∧
    (∀ (c : Instr) (s : State),
      c ∈ [.wfiDoze, .wfiNap, .wfiHibernate] →
      s.meip = true →
      ∃ t, exec c s = .next t ∧ OnlyRegs [Reg.PWR_CTRL] s t) ∧
    (∀ (s : State),
      s.pwr.entry = some false →
      s.pwr.mode = .doze →
      s.blocked = false →
      s.meip = false →
      s.spineState .front ≠ 4 →
      s.spineState .store ≠ 4 →
      s.wakeInstant false = none →
      ∃ t, exec .sleepBlockersClear s = .next t ∧ t.pwr.mode = .nap ∧ t.pwr.entry = none ∧ t.rd Reg.PWR_WAKE_AT_LO = 0xFFFFFFFF ∧ t.rd Reg.PWR_WAKE_AT_HI = 0xFFFF ∧
      t.rd Reg.PWR_FORCED = word s.forcedBanks ∧ t.spineState .front = 0 ∧ t.spineState .store = 0 ∧ t.rdF Reg.CLK_STATUS 0 2 = 0 ∧
      t.rdF Reg.PWR_COUNT 0 16 = min (s.rdF Reg.PWR_COUNT 0 16 + 1) 65535 ∧ t.store.flash = s.store.flash ∧ t.cust = s.cust ∧
      (∀ a, memAreas a = [0] → t.byteAt a = s.byteAt a)) ∧
    (∀ (i : Nat) (s : State),
      s.pwr.entry = some true →
      s.pwr.mode = .doze →
      s.blocked = false →
      s.meip = false →
      s.spineState .front ≠ 4 →
      s.spineState .store ≠ 4 →
      s.wakeInstant true = some i →
      4096 ≤ since i s.chron.now →
      ∃ t, exec .sleepBlockersClear s = .next t ∧ t.pwr.mode = .hibernate ∧ t.pwr.entry = none ∧ t.rd Reg.PWR_WAKE_AT_LO = word (i / 1024) ∧
      t.spineState .front = 0 ∧ t.spineState .store = 0 ∧ (List.range 4).all (fun j => t.rd (Reg.FAULT_SEVPEND j) == 0) = true ∧ t.bit Reg.FAULT_STATUS 0 = false ∧
      t.rdF Reg.PWR_COUNT 0 16 = s.rdF Reg.PWR_COUNT 0 16 ∧ t.store.flash = s.store.flash) ∧
    (∀ (h : Bool) (i : Nat) (s : State),
      s.pwr.entry = some h →
      s.pwr.mode = .doze →
      s.blocked = false →
      s.meip = false →
      s.wakeInstant h = some i →
      since i s.chron.now < 4096 →
      ∃ t, exec .sleepBlockersClear s = .next t ∧ t.rdF Reg.PWR_COUNT 16 8 = min (s.rdF Reg.PWR_COUNT 16 8 + 1) 255 ∧
      OnlyRegs [Reg.PWR_WAKE_AT_LO, Reg.PWR_WAKE_AT_HI, Reg.PWR_COUNT] { s with pwr := { s.pwr with entry := none, resumeAt := some i } } t) ∧
    (∀ (s : State),
      s.pwr.entry.isSome = true →
      s.pwr.mode = .doze →
      s.meip = true →
      ∃ t, exec .sleepBlockersClear s = .next t ∧ t.rdF Reg.PWR_COUNT 16 8 = min (s.rdF Reg.PWR_COUNT 16 8 + 1) 255 ∧
      OnlyRegs [Reg.PWR_COUNT] { s with pwr := { s.pwr with mode := .run, entry := none, resumeAt := none } } t) ∧
    (∀ (s : State),
      s.pwr.entry.isSome = true →
      ∃ t, exec .napEntryAbort s = .next t ∧ t.rdF Reg.PWR_COUNT 16 8 = min (s.rdF Reg.PWR_COUNT 16 8 + 1) 255 ∧
      OnlyRegs [Reg.PWR_COUNT] { s with pwr := { s.pwr with mode := .run, entry := none } } t)

/-- In Nap a reached wake instant with no alarm and no action armed begins the wake as an air operation; in Hibernate
the reached alarm begins it and clears EN; in a Doze that waits for its instant the core resumes Run. At t2 of a
wake from Nap the core is in Run, every cause of the wake is set in PWR_WAKE_CAUSE, event 255 is pending, Spine-S is
UP, and PLL_LOCK is as the PLL has locked. A Hibernate wake with a cause begins a start: RSTC_CAUSE reads 0,
FROM_HIB and GPIO_HOLD read 1, the pads are held at what they drove, and the causes are set. The model's choices in
it, no rules of the spec: a command whose premise does not hold changes nothing (log entry 13). (04 Supplies, sleep
and the battery, Operation; 04 PWR registers) -/
def Obligations.WakesResumeTheCoreWithTheirCauses : Prop :=
    (∀ (i : Nat) (s : State),
      s.pwr.mode = .nap →
      s.wakeAt = some i →
      s.reached i = true →
      s.alarmOn = false →
      s.armed = [] →
      s.pwr.causes = [] →
      ∃ t, exec .wakeInstantReached s = .next t ∧ t.pwr.waking = true ∧ t.pwr.causes.contains 1 = true ∧ OnlyRegs [] { s with pwr := { s.pwr with waking := true, causes := t.pwr.causes } } t) ∧
    (∀ (i : Nat) (s : State),
      s.pwr.mode = .hibernate →
      s.wakeAt = some i →
      s.reached i = true →
      s.alarmOn = true →
      s.reached s.alarmAt = true →
      ∃ t, exec .wakeInstantReached s = .next t ∧ t.pwr.waking = true ∧ t.pwr.causes.contains 0 = true ∧ t.bit Reg.PWR_ALARM_HI 31 = false ∧
      OnlyRegs [Reg.PWR_ALARM_HI] { s with pwr := { s.pwr with waking := true, causes := t.pwr.causes } } t) ∧
    (∀ (i : Nat) (s : State),
      s.pwr.mode = .doze →
      s.pwr.resumeAt = some i →
      s.reached i = true →
      exec .wakeInstantReached s = .next { s with pwr := { s.pwr with mode := .run, resumeAt := none } }) ∧
    (∀ (pll : Bool) (s : State),
      s.pwr.mode = .nap →
      s.pwr.waking = true →
      s.pwr.causes.all (fun c => c < 7) = true →
      s.spineState .store ≠ 4 →
      ∃ t, exec (.napWakeResume pll) s = .next t ∧ t.pwr.mode = .run ∧ t.pwr.waking = false ∧ t.pwr.causes = [] ∧ t.pending1 255 = true ∧
      s.pwr.causes.all (fun c => t.bit Reg.PWR_WAKE_CAUSE c) = true ∧ t.bit Reg.CLK_STATUS 1 = pll ∧ t.spineState .store = 3 ∧ t.cust = s.cust) ∧
    (∀ (s : State),
      s.pwr.mode = .hibernate →
      s.pwr.causes ≠ [] →
      s.pwr.causes.all (fun c => c < 7) = true →
      s.regsWf = true →
      ∃ t, exec .hibernateWake s = .next t ∧ t.rd Reg.RSTC_CAUSE = 0 ∧ t.bit Reg.PWR_STATUS 2 = true ∧ t.bit Reg.GPIO_HOLD 0 = true ∧ t.boot.phase = .start ∧
      t.boot.padHold = s.captureHold (Config.freeNat s.freeCtr) ∧ s.pwr.causes.all (fun c => t.bit Reg.PWR_WAKE_CAUSE c) = true ∧ t.cust.keys = [] ∧ t.chron.now = s.chron.now)

/-- While the part is awake and the alarm's instant is reached, ALARM_FIRE, and a write of PWR_ALARM_HI that enables it,
leave EN at 0 and change no other register, no event, no mode and nothing else of the state. A write of PWR_ALARM_HI
that enables an alarm ahead, or none, loads its instant bits and EN. (R675) -/
def Obligations.AnAlarmThatFiresAwakeOnlyClearsItsEnable : Prop :=
    (∀ (s : State),
      s.alarmOn = true →
      s.reached s.alarmAt = true →
      s.asleep = false →
      ∃ t, exec .alarmFire s = .next t ∧ t.bit Reg.PWR_ALARM_HI 31 = false ∧ t.rdF Reg.PWR_ALARM_HI 0 31 = s.rdF Reg.PWR_ALARM_HI 0 31 ∧ OnlyRegs [Reg.PWR_ALARM_HI] s t) ∧
    (∀ (v : Word) (s : State),
      bitOf v 31 = true →
      s.reached (((s.rd Reg.PWR_ALARM_LO).toNat + fld v 0 16 * 2 ^ 32) * 1024) = true →
      s.asleep = false →
      ∃ t, exec (.pwrAlarmHiWrite v) s = .next t ∧ t.rd Reg.PWR_ALARM_HI = v &&& 0xFFFF ∧
      OnlyRegs [Reg.PWR_ALARM_HI] { s with pwr := { s.pwr with alarm := (s.rd Reg.PWR_ALARM_LO).toNat + fld v 0 16 * 2 ^ 32 } } t) ∧
    (∀ (v : Word) (s : State),
      bitOf v 31 = false ∨ s.reached (((s.rd Reg.PWR_ALARM_LO).toNat + fld v 0 16 * 2 ^ 32) * 1024) = false →
      ∃ t, exec (.pwrAlarmHiWrite v) s = .next t ∧ t.rd Reg.PWR_ALARM_HI = v &&& 0x8000FFFF ∧
      OnlyRegs [Reg.PWR_ALARM_HI] { s with pwr := { s.pwr with alarm := (s.rd Reg.PWR_ALARM_LO).toNat + fld v 0 16 * 2 ^ 32 } } t)

/-- A write of CLK_CTRL sets AUTO and FORCE_BYPASS; FORCE_BYPASS takes SYSCLK to ROOT, AUTO with a locked PLL takes it
to the PLL, and otherwise the source stays; a lock does the same; a lost lock takes SYSCLK to ROOT, is counted,
raises event 2 and sends a recoverable slip. A silent sleep crystal sets SLOW_FAIL and raises event 2 while awake;
the tick monitor in sleep starts the fallback and a crystal edge ends it. A measurement sets CHRON_SLEEP_ADJ and
VALID. The first bad root period is shown and remembered; the second in a row trips tamper input 3 and resets as a
fault escalation. (05 The root clock and the chronicle, Operation; 05 CLK registers) -/
def Obligations.ClockSelectionAndMonitorsActAsStated : Prop :=
    (∀ (v : Word) (s : State),
      ∃ t, exec (.clkCtrlWrite v) s = .next t ∧ t.rdF Reg.CLK_CTRL 0 2 = fld v 0 2 ∧
      t.bit Reg.CLK_STATUS 0 = (if bitOf v 1 then false else if s.bit Reg.CLK_STATUS 1 && bitOf v 0 then true else s.bit Reg.CLK_STATUS 0) ∧
      t.bit Reg.CLK_STATUS 1 = s.bit Reg.CLK_STATUS 1 ∧ OnlyRegs [Reg.CLK_CTRL, Reg.CLK_STATUS] s t) ∧
    (∀ (s : State),
      ∃ t, exec .corePllLock s = .next t ∧ t.bit Reg.CLK_STATUS 1 = true ∧
      t.bit Reg.CLK_STATUS 0 = (if s.bit Reg.CLK_CTRL 1 then false else if s.bit Reg.CLK_CTRL 0 then true else s.bit Reg.CLK_STATUS 0) ∧
      OnlyRegs [Reg.CLK_STATUS] s t) ∧
    (∀ (s : State),
      s.bit Reg.CLK_STATUS 1 = true →
      ∃ t, exec .corePllLockLoss s = .next t ∧ t.rdF Reg.CLK_STATUS 0 2 = 0 ∧ t.rdF Reg.CLK_MON 16 8 = min (s.rdF Reg.CLK_MON 16 8 + 1) 255 ∧ t.pending1 2 = true ∧
      t.fault = { s.fault with waiting := s.fault.waiting ++ [slipWord 3 0x07 1 0] } ∧
      OnlyEvents ([Reg.CLK_STATUS, Reg.CLK_MON] ++ eventRegs 2) { s with fault := t.fault } t) ∧
    (∀ (count : Nat) (s : State),
      s.asleep = false →
      s.isHeld = false →
      s.bit Reg.CLK_STATUS 3 = false →
      s.chron.rootBad = 0 ∨ (1014 ≤ count ∧ count ≤ 1034) →
      ∃ t, exec (.rootMonitorFail count) s = .next t ∧ t.rdF Reg.CLK_MON 0 11 = min count 2047 ∧
      t.chron = { s.chron with rootBad := if count < 1014 ∨ 1034 < count then 1 else 0 } ∧ OnlyRegs [Reg.CLK_MON] { s with chron := t.chron } t) ∧
    (∀ (count : Nat) (s : State),
      s.asleep = false →
      s.isHeld = false →
      s.bit Reg.CLK_STATUS 3 = false →
      1 ≤ s.chron.rootBad →
      count < 1014 ∨ 1034 < count →
      s.tampClass 3 < 2 →
      s.regsWf = true →
      ∃ t, exec (.rootMonitorFail count) s = .next t ∧ t.rd Reg.RSTC_CAUSE = 0x10 ∧ t.bit Reg.SECMB_TAMP_LATCH 3 = true ∧ t.boot.phase = .held) ∧
    (∀ (s : State),
      s.asleep = false →
      s.bit Reg.CLK_STATUS 3 = false →
      ∃ t, exec .slowFail s = .next t ∧ t.bit Reg.CLK_STATUS 3 = true ∧ t.pending1 2 = true ∧ OnlyEvents (Reg.CLK_STATUS :: eventRegs 2) s t) ∧
    (∀ (s : State),
      s.asleep = true →
      exec .tickMonitorExpiry s = .next { s with chron := { s.chron with clockless := true } }) ∧
    (∀ (s : State),
      s.asleep = false →
      exec .sleepCrystalEdge s = .next { s with chron := { s.chron with clockless := false } }) ∧
    (∀ (s : State),
      s.asleep = true →
      s.isHeld = false →
      ∃ t, exec .sleepCrystalEdge s = .next t ∧ t.chron.clockless = false ∧ t.chron.now = instant (s.chron.now + 1024)) ∧
    (∀ (count : Nat) (s : State),
      ∃ t, exec (.sleepMeasurementDone count) s = .next t ∧ t.bit Reg.CHRON_SLEEP_ADJ 31 = true ∧
      t.rdF Reg.CHRON_SLEEP_ADJ 0 24 = unsigned 24 (clampSigned 24 (roundDiv ((count - 1024 * s.sleepWin : Int) * 2 ^ 22) s.sleepWin)) ∧ OnlyRegs [Reg.CHRON_SLEEP_ADJ] s t)

/-- With a step pending, writes of the four step registers and of ARM change nothing but the answer, as commands and
as register writes. CANCEL clears PENDING and changes nothing else. NOW changes the 58 bits of the chronicle by the
armed amount at once, clears PENDING and sets STEP_DONE. ARM with its instant ahead sets PENDING, and with its instant
reached applies the step; CHRON_STEP_REACHED applies a pending step whose instant is reached, and waits before. (R147)
-/
def Obligations.PhaseStepsObeyThePendingBit : Prop :=
    (∀ (m : Master) (a : Nat) (v : Word) (s : State),
      a ∈ [Reg.CHRON_STEP_LO, Reg.CHRON_STEP_HI, Reg.CHRON_STEP_AT_LO, Reg.CHRON_STEP_AT_HI] →
      s.stepPending = true →
      s.locked m = false →
      exec (.registerWrite m (word a) v) s = .next (s.answer 0)) ∧
    (∀ (m : Master) (s : State),
      s.stepPending = true →
      s.locked m = false →
      exec (.registerWrite m (word Reg.CHRON_STEP_CTRL) 1) s = .next (s.answer 0)) ∧
    (∀ (s : State),
      s.stepPending = true →
      exec .chronStepArm s = .next s) ∧
    (∀ (s : State),
      ∃ t, exec .chronStepCancel s = .next t ∧ t.bit Reg.CHRON_STEP_CTRL 8 = false ∧ OnlyRegs [Reg.CHRON_STEP_CTRL] s t) ∧
    (∀ (s : State),
      ∃ t, exec .chronStepNow s = .next t ∧ t.chron.now = unsigned 58 (s.chron.now + s.stepAmount) ∧ t.bit Reg.CHRON_STEP_CTRL 8 = false ∧ t.bit Reg.CHRON_STATUS 19 = true) ∧
    (∀ (s : State),
      s.stepPending = false →
      s.reached s.stepAt = false →
      ∃ t, exec .chronStepArm s = .next t ∧ t.bit Reg.CHRON_STEP_CTRL 8 = true ∧ OnlyRegs [Reg.CHRON_STEP_CTRL] s t) ∧
    (∀ (s : State),
      s.stepPending = false →
      s.reached s.stepAt = true →
      ∃ t, exec .chronStepArm s = .next t ∧ t.chron.now = unsigned 58 (s.chron.now + s.stepAmount) ∧ t.bit Reg.CHRON_STEP_CTRL 8 = false ∧ t.bit Reg.CHRON_STATUS 19 = true) ∧
    (∀ (s : State),
      s.stepPending = true →
      s.reached s.stepAt = true →
      ∃ t, exec .chronStepReached s = .next t ∧ t.chron.now = unsigned 58 (s.chron.now + s.stepAmount) ∧ t.bit Reg.CHRON_STEP_CTRL 8 = false ∧ t.bit Reg.CHRON_STATUS 19 = true) ∧
    (∀ (s : State),
      s.reached s.stepAt = false →
      exec .chronStepReached s = .next s)

/-- An accumulator at or past 2^22 gives the chronicle one fraction step and keeps the remainder, to which a tick that
the step completes adds the rate; one at or past -2^22 takes one, in sleep at once and awake by holding the fraction
for one ROOT cycle; another changes nothing. The step of a captured beacon is applied once. RESYNC clears SYNCED and
forgets the last beacon. A write of CHRON_RATE sets it, the synthesiser offset following or staying. A window whose
guard exceeds LOST_TICKS sets LOST and LOST_EV; while no beacon has been captured nothing is lost. The model's
choices in it, no rules of the spec: the discipline corners (log entry 9); a command whose premise does not hold
changes nothing (log entry 13). (05 The root clock and the chronicle, Operation; 05 CHRON registers) -/
def Obligations.TheChronicleIsTrimmedAndDisciplined : Prop :=
    (∀ (s : State),
      (2 ^ 22 : Int) ≤ s.chron.acc →
      s.asleep = false →
      exec .chronicleTrimStep s = .next { s with chron := { s.chron with
        now := (s.chron.now + 1) % 2 ^ 58, acc := s.chron.acc - 2 ^ 22 + (if s.chron.now % 1024 = 1023 then s.rate else 0) } }) ∧
    (∀ (s : State),
      (2 ^ 22 : Int) ≤ s.chron.acc →
      s.asleep = true →
      exec .chronicleTrimStep s = .next { s with chron := { s.chron with now := (s.chron.now + 1) % 2 ^ 58, acc := s.chron.acc - 2 ^ 22 } }) ∧
    (∀ (s : State),
      s.chron.acc ≤ -(2 ^ 22 : Int) →
      s.asleep = false →
      exec .chronicleTrimStep s = .next { s with chron := { s.chron with lag := s.chron.lag + 1, acc := s.chron.acc + 2 ^ 22 } }) ∧
    (∀ (s : State),
      s.chron.acc ≤ -(2 ^ 22 : Int) →
      s.asleep = true →
      exec .chronicleTrimStep s = .next { s with chron := { s.chron with now := (s.chron.now + (2 ^ 58 - 1)) % 2 ^ 58, acc := s.chron.acc + 2 ^ 22 } }) ∧
    (∀ (s : State),
      -(2 ^ 22 : Int) < s.chron.acc →
      s.chron.acc < 2 ^ 22 →
      exec .chronicleTrimStep s = .next s) ∧
    (∀ (theta : Int) (s : State),
      s.chron.discStep = some theta →
      ∃ t, exec .disciplineStep s = .next t ∧ t.chron.now = unsigned 58 (s.chron.now + theta) ∧ t.chron.discStep = none) ∧
    (∀ (s : State),
      ∃ t, exec .chronResync s = .next t ∧ t.bit Reg.CHRON_STATUS 0 = false ∧
      OnlyRegs [Reg.CHRON_STATUS] { s with chron := { s.chron with lastRx := none, prevSynced := false } } t) ∧
    (∀ (v : Word) (s : State),
      ∃ t, exec (.chronRateWrite v) s = .next t ∧ t.rdF Reg.CHRON_RATE 0 24 = fld v 0 24 ∧
      (t.rdF Reg.RADIO_SYNTH_OFS 0 24 = s.rdF Reg.RADIO_SYNTH_OFS 0 24 ∨ t.rdF Reg.RADIO_SYNTH_OFS 0 24 = fld v 0 24) ∧
      OnlyRegs [Reg.CHRON_RATE, Reg.RADIO_SYNTH_OFS] { s with chron := { s.chron with rateW := true } } t) ∧
    (∀ (openAt : Nat) (s : State),
      s.chron.lastRx.isSome = true →
      s.rdF Reg.CHRON_EPS 16 16 * 1024 < s.guardAt openAt →
      ∃ t, exec (.chronLost openAt) s = .next t ∧ t.bit Reg.CHRON_STATUS 2 = true ∧ t.bit Reg.CHRON_STATUS 18 = true ∧ t.chron = s.chron) ∧
    (∀ (openAt : Nat) (s : State),
      s.chron.lastRx = none →
      exec (.chronLost openAt) s = .next s)

/-- In a PERCLK cycle in which nothing else accesses the timers: when PRECNT of a running, awake timer ends, CNT
advances by one modulo 2^32 (or is cleared after a CC0 match under C0CLR) and PRECNT returns to 0; from 0xFFFF_FFFF
CNT becomes 0, WRAP is set and, when no channel matches, no event is raised. Each compare or stride channel whose
value equals the value CNT takes sets its flag and raises event 32 + 4n + m, a stride channel then adds its STRIDE
(not CC0 under C0CLR). CLEAR makes CNT 0 as a match may see. A stopped or sleeping timer does nothing. START sets
RUN unless STOP came in the same cycle, STOP clears it, a CLEAR yields to a CNT written in the same cycle, a capture
copies CNT with OVR where the flag was set, and a write of CNT never matches. (R162; R169) -/
def Obligations.TimersCountMatchAndCapture : Prop :=
    (∀ (n : Fin 8) (s : State),
      s.bit (Reg.TMR_CTRL n) 0 = true →
      s.asleep = false →
      s.cyc = {} →
      n.val ∉ s.tmr.c0Due →
      ∃ t, exec (.timerPrescaleExpiry n) s = .next t ∧ t.rd (Reg.TMR_CNT n) = s.rd (Reg.TMR_CNT n) + 1 ∧
      (∀ m < 4, ((s.rdF (ccCfg n m) 0 2 = 1 ∨ s.rdF (ccCfg n m) 0 2 = 2) ∧ s.rd (ccValue n m) = s.rd (Reg.TMR_CNT n) + 1) → (t.bit (Reg.TMR_FLAGS n) m = true ∧ t.pending1 (32 + 4 * n + m) = true)) ∧
      (∀ m < 4, ¬ ((s.rdF (ccCfg n m) 0 2 = 1 ∨ s.rdF (ccCfg n m) 0 2 = 2) ∧ s.rd (ccValue n m) = s.rd (Reg.TMR_CNT n) + 1) → t.bit (Reg.TMR_FLAGS n) m = s.bit (Reg.TMR_FLAGS n) m) ∧
      (∀ m < 4, (s.rdF (ccCfg n m) 0 2 = 2 ∧ s.rd (ccValue n m) = s.rd (Reg.TMR_CNT n) + 1 ∧ ¬ (m = 0 ∧ s.bit (Reg.TMR_CTRL n) 5 = true)) → t.rd (ccValue n m) = s.rd (Reg.TMR_CNT n) + 1 + s.rd (ccStride n m)) ∧
      (∀ m < 4, ¬ (s.rdF (ccCfg n m) 0 2 = 2 ∧ s.rd (ccValue n m) = s.rd (Reg.TMR_CNT n) + 1 ∧ ¬ (m = 0 ∧ s.bit (Reg.TMR_CTRL n) 5 = true)) → t.rd (ccValue n m) = s.rd (ccValue n m)) ∧
      t.rd (Reg.TMR_PRECNT n) = 0 ∧ t.bit (Reg.TMR_FLAGS n) 8 = (s.bit (Reg.TMR_FLAGS n) 8 || s.rd (Reg.TMR_CNT n) == 0xFFFFFFFF) ∧ OnlyEvents [Reg.TMR_CNT n, Reg.TMR_PRECNT n, Reg.TMR_FLAGS n, ccValue n 0, ccValue n 1, ccValue n 2, ccValue n 3, Reg.INTC_PEND 1, Reg.INTC_OVR] { s with tmr := t.tmr } t) ∧
    (∀ (n : Fin 8) (s : State),
      s.bit (Reg.TMR_CTRL n) 0 = true →
      s.asleep = false →
      s.cyc = {} →
      n.val ∉ s.tmr.c0Due →
      s.rd (Reg.TMR_CNT n) = 0xFFFFFFFF →
      (∀ m < 4, ¬ ((s.rdF (ccCfg n m) 0 2 = 1 ∨ s.rdF (ccCfg n m) 0 2 = 2) ∧ s.rd (ccValue n m) = 0)) →
      ∃ t, exec (.timerPrescaleExpiry n) s = .next t ∧ t.rd (Reg.TMR_CNT n) = 0 ∧ t.bit (Reg.TMR_FLAGS n) 8 = true ∧
      OnlyRegs [Reg.TMR_CNT n, Reg.TMR_PRECNT n, Reg.TMR_FLAGS n] { s with tmr := t.tmr } t) ∧
    (∀ (n : Fin 8) (s : State),
      s.bit (Reg.TMR_CTRL n) 0 = true →
      s.asleep = false →
      s.cyc = {} →
      n.val ∈ s.tmr.c0Due →
      ∃ t, exec (.timerPrescaleExpiry n) s = .next t ∧ t.rd (Reg.TMR_CNT n) = 0 ∧
      (∀ m < 4, ((s.rdF (ccCfg n m) 0 2 = 1 ∨ s.rdF (ccCfg n m) 0 2 = 2) ∧ s.rd (ccValue n m) = 0) → (t.bit (Reg.TMR_FLAGS n) m = true ∧ t.pending1 (32 + 4 * n + m) = true)) ∧
      (∀ m < 4, ¬ ((s.rdF (ccCfg n m) 0 2 = 1 ∨ s.rdF (ccCfg n m) 0 2 = 2) ∧ s.rd (ccValue n m) = 0) → t.bit (Reg.TMR_FLAGS n) m = s.bit (Reg.TMR_FLAGS n) m) ∧
      (∀ m < 4, (s.rdF (ccCfg n m) 0 2 = 2 ∧ s.rd (ccValue n m) = 0 ∧ ¬ (m = 0 ∧ s.bit (Reg.TMR_CTRL n) 5 = true)) → t.rd (ccValue n m) = 0 + s.rd (ccStride n m)) ∧
      (∀ m < 4, ¬ (s.rdF (ccCfg n m) 0 2 = 2 ∧ s.rd (ccValue n m) = 0 ∧ ¬ (m = 0 ∧ s.bit (Reg.TMR_CTRL n) 5 = true)) → t.rd (ccValue n m) = s.rd (ccValue n m)) ∧
      t.rd (Reg.TMR_PRECNT n) = 0 ∧ OnlyEvents [Reg.TMR_CNT n, Reg.TMR_PRECNT n, Reg.TMR_FLAGS n, ccValue n 0, ccValue n 1, ccValue n 2, ccValue n 3, Reg.INTC_PEND 1, Reg.INTC_OVR] { s with tmr := t.tmr } t) ∧
    (∀ (n : Fin 8) (s : State),
      s.bit (Reg.TMR_CTRL n) 0 = false ∨ s.asleep = true →
      exec (.timerPrescaleExpiry n) s = .next s) ∧
    (∀ (n : Fin 8) (s : State),
      ∃ t, exec (.timerStart n) s = .next t ∧ t.bit (Reg.TMR_CTRL n) 0 = !s.cyc.stopped.contains n.val ∧ OnlyRegs [Reg.TMR_CTRL n] s t) ∧
    (∀ (n : Fin 8) (s : State),
      ∃ t, exec (.timerStop n) s = .next t ∧ t.bit (Reg.TMR_CTRL n) 0 = false ∧
      OnlyRegs [Reg.TMR_CTRL n] { s with cyc := { s.cyc with stopped := n.val :: s.cyc.stopped } } t) ∧
    (∀ (n : Fin 8) (s : State),
      s.cyc = {} →
      ∃ t, exec (.timerClear n) s = .next t ∧ t.rd (Reg.TMR_CNT n) = 0 ∧
      (∀ m < 4, ((s.rdF (ccCfg n m) 0 2 = 1 ∨ s.rdF (ccCfg n m) 0 2 = 2) ∧ s.rd (ccValue n m) = 0) → (t.bit (Reg.TMR_FLAGS n) m = true ∧ t.pending1 (32 + 4 * n + m) = true)) ∧
      (∀ m < 4, ¬ ((s.rdF (ccCfg n m) 0 2 = 1 ∨ s.rdF (ccCfg n m) 0 2 = 2) ∧ s.rd (ccValue n m) = 0) → t.bit (Reg.TMR_FLAGS n) m = s.bit (Reg.TMR_FLAGS n) m) ∧
      (∀ m < 4, (s.rdF (ccCfg n m) 0 2 = 2 ∧ s.rd (ccValue n m) = 0 ∧ ¬ (m = 0 ∧ s.bit (Reg.TMR_CTRL n) 5 = true)) → t.rd (ccValue n m) = 0 + s.rd (ccStride n m)) ∧
      (∀ m < 4, ¬ (s.rdF (ccCfg n m) 0 2 = 2 ∧ s.rd (ccValue n m) = 0 ∧ ¬ (m = 0 ∧ s.bit (Reg.TMR_CTRL n) 5 = true)) → t.rd (ccValue n m) = s.rd (ccValue n m)) ∧
      OnlyEvents [Reg.TMR_CNT n, Reg.TMR_PRECNT n, Reg.TMR_FLAGS n, ccValue n 0, ccValue n 1, ccValue n 2, ccValue n 3, Reg.INTC_PEND 1, Reg.INTC_OVR] { s with tmr := t.tmr, cyc := t.cyc } t) ∧
    (∀ (n : Fin 8) (s : State),
      n.val ∈ s.cyc.cntWritten →
      exec (.timerClear n) s = .next s) ∧
    (∀ (n : Fin 8) (m : Fin 4) (s : State),
      s.rdF (ccCfg n m) 0 2 = 3 →
      ∃ t, exec (.timerCapture n m) s = .next t ∧ t.rd (ccValue n m) = s.rd (Reg.TMR_CNT n) ∧ t.bit (Reg.TMR_FLAGS n) m = true ∧
      t.bit (Reg.TMR_FLAGS n) (4 + m) = (s.bit (Reg.TMR_FLAGS n) (4 + m) || s.bit (Reg.TMR_FLAGS n) m) ∧ t.pending1 (32 + 4 * n + m) = true ∧
      OnlyEvents [ccValue n m, Reg.TMR_FLAGS n, Reg.INTC_PEND 1, Reg.INTC_OVR] { s with cyc := { s.cyc with captured := ccValue n m :: s.cyc.captured } } t) ∧
    (∀ (n : Fin 8) (m : Fin 4) (s : State),
      s.rdF (ccCfg n m) 0 2 ≠ 3 →
      exec (.timerCapture n m) s = .next s) ∧
    (∀ (n : Fin 8) (v : Word) (s : State),
      ∃ t, exec (.timerCntWrite n v) s = .next t ∧ t.rd (Reg.TMR_CNT n) = v ∧ t.rd (Reg.TMR_PRECNT n) = 0 ∧ n.val ∉ t.tmr.c0Due ∧
      OnlyRegs [Reg.TMR_CNT n, Reg.TMR_PRECNT n] { s with tmr := t.tmr, cyc := { s.cyc with cntWritten := n.val :: s.cyc.cntWritten } } t)

/-- A write to a word of an ARMED entry is ignored and counted; to another entry it sets the instant's low or high part,
REPEAT or CHANNEL alone. ARM moves a FREE entry to ARMED with LATE, TMPL and SKIPPED cleared, or returns NOT_FREE.
CANCEL moves an ARMED entry to WITHDRAWN with the count; it returns TOO_LATE for a FIRED entry and NOT_ARMED for a
FREE or WITHDRAWN one. RELEASE moves a FIRED or WITHDRAWN entry to FREE, returns OK for a FREE one and STILL_ARMED
for an ARMED one. TMPL arms a FREE entry from its template at ACT_BASE + OFFSET; NOT_FREE comes before BAD_TEMPLATE.
Each records code, command, master and index in ACT_RESULT and changes nothing else. (R171; R172; R178; R179) -/
def Obligations.ActionCommandsAnswerByTheEntryState : Prop :=
    (∀ (m : Master) (i : Fin 512) (w : Fin 4) (v : Word) (s : State),
      s.locked m = false →
      s.cyc = {} →
      (s.entry i).state = .armed →
      ∃ t, exec (.actionEntryWrite m i w v) s = .next t ∧ t.rdF Reg.ACT_COUNTS 16 16 = min (s.rdF Reg.ACT_COUNTS 16 16 + 1) 65535 ∧ OnlyRegs [Reg.ACT_COUNTS] s t) ∧
    (∀ (m : Master) (i : Fin 512) (v : Word) (s : State),
      s.locked m = false →
      (s.entry i).state ≠ .armed →
      exec (.actionEntryWrite m i 0 v) s = .next (s.setEntry i { s.entry i with at_ := (s.entry i).at_ / 2 ^ 32 * 2 ^ 32 + v.toNat }) ∧
      exec (.actionEntryWrite m i 1 v) s = .next (s.setEntry i { s.entry i with at_ := fld v 0 26 * 2 ^ 32 + (s.entry i).at_ % 2 ^ 32 }) ∧
      exec (.actionEntryWrite m i 2 v) s = .next (s.setEntry i { s.entry i with rep := v.toNat }) ∧
      exec (.actionEntryWrite m i 3 v) s = .next (s.setEntry i { s.entry i with chan := fld v 0 7 })) ∧
    (∀ (i : Nat) (e : ActEntry) (s : State),
      (s.setEntry i e).entry i = e ∧ (∀ j, j ≠ i → (s.setEntry i e).entry j = s.entry j)) ∧
    (∀ (m : Master) (v : Word) (i : Nat) (s : State),
      s.locked m = false →
      s.cyc = {} →
      i = fld v 0 9 →
      (s.entry i).state = .free →
      ∃ t, exec (.actArm m v) s = .next t ∧ t.rd Reg.ACT_RESULT = word (0 + 0 * 16 + masterId m * 256 + i * 65536) ∧
      t.entry i = { s.entry i with state := .armed, late := false, tmpl := false, skipped := 0, passed := s.passed (s.entry i).at_ } ∧
      (∀ j, j ≠ i → t.entry j = s.entry j) ∧ OnlyRegs [Reg.ACT_RESULT] { s with act := { s.act with entries := t.act.entries }, cyc := t.cyc } t) ∧
    (∀ (m : Master) (v : Word) (i : Nat) (s : State),
      s.locked m = false →
      s.cyc = {} →
      i = fld v 0 9 →
      (s.entry i).state ≠ .free →
      ∃ t, exec (.actArm m v) s = .next t ∧ t.rd Reg.ACT_RESULT = word (1 + 0 * 16 + masterId m * 256 + i * 65536) ∧ OnlyRegs [Reg.ACT_RESULT] { s with cyc := t.cyc } t) ∧
    (∀ (m : Master) (v : Word) (i : Nat) (s : State),
      s.locked m = false →
      s.cyc = {} →
      i = fld v 0 9 →
      (s.entry i).state = .armed →
      s.reached (s.entry i).at_ = false ∨ (s.entry i).passed = true ∨ s.act.catchUp ≠ [] ∨ s.asleep = true →
      ∃ t, exec (.actCancel m v) s = .next t ∧ t.rd Reg.ACT_RESULT = word (0 + 1 * 16 + masterId m * 256 + i * 65536) ∧ t.entry i = { s.entry i with state := .withdrawn } ∧ (∀ j, j ≠ i → t.entry j = s.entry j) ∧
      t.rdF Reg.ACT_WITHDRAWN_COUNT 0 16 = min (s.rdF Reg.ACT_WITHDRAWN_COUNT 0 16 + 1) 65535 ∧ OnlyRegs [Reg.ACT_RESULT, Reg.ACT_WITHDRAWN_COUNT] { s with act := { s.act with entries := t.act.entries }, cyc := t.cyc } t) ∧
    (∀ (m : Master) (v : Word) (i : Nat) (s : State),
      s.locked m = false →
      s.cyc = {} →
      i = fld v 0 9 →
      (s.entry i).state = .armed →
      s.reached (s.entry i).at_ = true →
      (s.entry i).passed = false →
      s.act.catchUp = [] →
      s.asleep = false →
      (s.entry i).rep = 0 →
      ∃ t, exec (.actCancel m v) s = .next t ∧ t.rd Reg.ACT_RESULT = word (3 + 1 * 16 + masterId m * 256 + i * 65536) ∧ (t.entry i).state = .fired ∧ t.bit (Reg.ACT_FIRED (i / 32)) (i % 32) = true ∧ (∀ j, j ≠ i → t.entry j = s.entry j)) ∧
    (∀ (m : Master) (v : Word) (i : Nat) (s : State),
      s.locked m = false →
      s.cyc = {} →
      i = fld v 0 9 →
      (s.entry i).state = .armed →
      s.reached (s.entry i).at_ = true →
      (s.entry i).passed = false →
      s.act.catchUp = [] →
      s.asleep = false →
      (s.entry i).rep ≠ 0 →
      ∃ t, exec (.actCancel m v) s = .next t ∧ t.rd Reg.ACT_RESULT = word (3 + 1 * 16 + masterId m * 256 + i * 65536) ∧ (t.entry i).state = .withdrawn ∧ t.bit (Reg.ACT_FIRED (i / 32)) (i % 32) = true ∧
      t.rdF Reg.ACT_WITHDRAWN_COUNT 0 16 = min (s.rdF Reg.ACT_WITHDRAWN_COUNT 0 16 + 1) 65535 ∧ (∀ j, j ≠ i → t.entry j = s.entry j)) ∧
    (∀ (m : Master) (v : Word) (i : Nat) (s : State),
      s.locked m = false →
      s.cyc = {} →
      i = fld v 0 9 →
      (s.entry i).state = .fired →
      ∃ t, exec (.actCancel m v) s = .next t ∧ t.rd Reg.ACT_RESULT = word (3 + 1 * 16 + masterId m * 256 + i * 65536) ∧ OnlyRegs [Reg.ACT_RESULT] { s with cyc := t.cyc } t) ∧
    (∀ (m : Master) (v : Word) (i : Nat) (s : State),
      s.locked m = false →
      s.cyc = {} →
      i = fld v 0 9 →
      (s.entry i).state = .free ∨ (s.entry i).state = .withdrawn →
      ∃ t, exec (.actCancel m v) s = .next t ∧ t.rd Reg.ACT_RESULT = word (2 + 1 * 16 + masterId m * 256 + i * 65536) ∧ OnlyRegs [Reg.ACT_RESULT] { s with cyc := t.cyc } t) ∧
    (∀ (m : Master) (v : Word) (i : Nat) (s : State),
      s.locked m = false →
      s.cyc = {} →
      i = fld v 0 9 →
      (s.entry i).state = .armed →
      ∃ t, exec (.actRelease m v) s = .next t ∧ t.rd Reg.ACT_RESULT = word (4 + 2 * 16 + masterId m * 256 + i * 65536) ∧ OnlyRegs [Reg.ACT_RESULT] { s with cyc := t.cyc } t) ∧
    (∀ (m : Master) (v : Word) (i : Nat) (s : State),
      s.locked m = false →
      s.cyc = {} →
      i = fld v 0 9 →
      (s.entry i).state ≠ .armed →
      ∃ t, exec (.actRelease m v) s = .next t ∧ t.rd Reg.ACT_RESULT = word (0 + 2 * 16 + masterId m * 256 + i * 65536) ∧ t.entry i = { s.entry i with state := .free } ∧ (∀ j, j ≠ i → t.entry j = s.entry j) ∧
      OnlyRegs [Reg.ACT_RESULT] { s with act := { s.act with entries := t.act.entries }, cyc := t.cyc } t) ∧
    (∀ (m : Master) (v : Word) (i : Nat) (s : State),
      s.locked m = false →
      s.cyc = {} →
      i = fld v 0 9 →
      (s.entry i).state ≠ .free →
      ∃ t, exec (.actTmpl m v) s = .next t ∧ t.rd Reg.ACT_RESULT = word (1 + 3 * 16 + masterId m * 256 + i * 65536) ∧ OnlyRegs [Reg.ACT_RESULT] { s with cyc := t.cyc } t) ∧
    (∀ (m : Master) (v : Word) (i : Nat) (s : State),
      s.locked m = false →
      s.cyc = {} →
      i = fld v 0 9 →
      (s.entry i).state = .free →
      (∀ x ∈ s.act.templates, x.id ≠ fld v 16 5) →
      ∃ t, exec (.actTmpl m v) s = .next t ∧ t.rd Reg.ACT_RESULT = word (5 + 3 * 16 + masterId m * 256 + i * 65536) ∧ OnlyRegs [Reg.ACT_RESULT] { s with cyc := t.cyc } t) ∧
    (∀ (x : Template) (m : Master) (v : Word) (i : Nat) (s : State),
      s.locked m = false →
      s.cyc = {} →
      i = fld v 0 9 →
      (s.entry i).state = .free →
      s.act.templates.find? (fun t => t.id == fld v 16 5) = some x →
      ∃ t, exec (.actTmpl m v) s = .next t ∧ t.rd Reg.ACT_RESULT = word (0 + 3 * 16 + masterId m * 256 + i * 65536) ∧ (t.entry i).at_ = unsigned 58 (s.rdInstant Reg.ACT_BASE_LO Reg.ACT_BASE_HI + x.offset * 1024) ∧
      (t.entry i).rep = x.rep ∧ (t.entry i).chan = x.chan ∧ (t.entry i).state = .armed ∧ (t.entry i).tmpl = true ∧ (∀ j, j ≠ i → t.entry j = s.entry j) ∧ OnlyRegs [Reg.ACT_RESULT] { s with act := { s.act with entries := t.act.entries }, cyc := t.cyc } t)

/-- Awake and without a catch-up, every ARMED entry whose instant is reached fires: its FIRED bit and its channel's SEEN
bit are set, a single entry becomes FIRED, a repeating one stays ARMED with its next instant after now, or ends
WITHDRAWN where a cancel came too late for it; every other entry is unchanged, and so is everything but the fired
bits, the fabric, the counts and the group event. Asleep or during a catch-up nothing fires. In a catch-up the
skipped entries of the earliest instant fire LATE and leave the list, the others stay. The model's choices in it, no
rules of the spec: a command whose premise does not hold changes nothing (log entry 13). (06 Action table,
Operation; 06 Action status codes) -/
def Obligations.ArmedActionsFireWhenReached : Prop :=
    (∀ (s : State),
      s.asleep = true ∨ s.act.catchUp ≠ [] →
      exec .actionFire s = .next s) ∧
    (∀ (s : State),
      s.asleep = false →
      s.act.catchUp = [] →
      mapWf (fun _ => {}) s.act.entries = true →
      (∀ p ∈ s.act.entries, p.1 < 512 ∧ p.2.chan < 128) →
      ∃ t, exec .actionFire s = .next t ∧
      (∀ i < 512, (s.entry i).state = .armed → s.reached (s.entry i).at_ = true → (t.bit (Reg.ACT_FIRED (i / 32)) (i % 32) = true ∧ t.bit (Reg.FAB_SEEN ((s.entry i).chan / 32)) ((s.entry i).chan % 32) = true ∧ (t.entry i).late = s.lateNow i)) ∧
      (∀ i < 512, (s.entry i).state = .armed → s.reached (s.entry i).at_ = true → (s.entry i).rep = 0 → (t.entry i).state = .fired) ∧
      (∀ i < 512, (s.entry i).state = .armed → s.reached (s.entry i).at_ = true → (s.entry i).rep ≠ 0 → (s.entry i).ending = false → ((t.entry i).state = .armed ∧ (t.entry i).at_ = instant ((s.entry i).at_ + ((since s.chron.now (s.entry i).at_).toNat / ((s.entry i).rep * 1024) + 1) * (s.entry i).rep * 1024))) ∧
      (∀ i < 512, (s.entry i).state = .armed → s.reached (s.entry i).at_ = true → (s.entry i).rep ≠ 0 → (s.entry i).ending = true → (t.entry i).state = .withdrawn) ∧
      (∀ i < 512, ¬ ((s.entry i).state = .armed ∧ s.reached (s.entry i).at_ = true) → t.entry i = s.entry i) ∧
      OnlyRegs ((List.range 16).map Reg.ACT_FIRED ++ (List.range 4).map Reg.FAB_SEEN ++ [Reg.FAB_MERGED, Reg.FAB_LAST, Reg.ACT_COUNTS, Reg.ACT_WITHDRAWN_COUNT, Reg.PWR_COUNT] ++ eventRegs 16) { s with act := t.act, fab := t.fab, pwr := t.pwr } t) ∧
    (∀ (s : State),
      s.asleep = false →
      mapWf (fun _ => {}) s.act.entries = true →
      (∀ p ∈ s.act.entries, p.1 < 512 ∧ p.2.chan < 128) →
      ∃ t, exec .actionCatchUp s = .next t ∧
      (∀ i < 512, i ∈ s.act.catchUp → (s.entry i).state = .armed → (∀ j ∈ s.act.catchUp, (s.entry j).state = .armed → since s.chron.now (s.entry j).at_ ≤ since s.chron.now (s.entry i).at_) → ((t.entry i).late = true ∧ i ∉ t.act.catchUp ∧ t.bit (Reg.ACT_FIRED (i / 32)) (i % 32) = true)) ∧
      (∀ i ∈ s.act.catchUp, (s.entry i).state = .armed → (∃ j ∈ s.act.catchUp, (s.entry j).state = .armed ∧ since s.chron.now (s.entry i).at_ < since s.chron.now (s.entry j).at_) → (t.entry i = s.entry i ∧ i ∈ t.act.catchUp)) ∧
      (∀ i < 512, i ∉ s.act.catchUp → t.entry i = s.entry i) ∧ OnlyRegs ((List.range 16).map Reg.ACT_FIRED ++ (List.range 4).map Reg.FAB_SEEN ++ [Reg.FAB_MERGED, Reg.FAB_LAST, Reg.ACT_COUNTS, Reg.ACT_WITHDRAWN_COUNT, Reg.PWR_COUNT] ++ eventRegs 16) { s with act := t.act, fab := t.fab, pwr := t.pwr } t)

/-- A channel that fires sets its SEEN bit; with no pulse in delivery the pulse is in delivery for 2 PERCLK cycles with
the tasks of the route in force, otherwise the two merge, FAB_MERGED.CH counts and FAB_LAST.CH names the channel.
FAB_FIRE fires the channel it names, and bit k of FAB_SWEV raises event 248 + k. In a PERCLK cycle without a
re-route every enabled channel whose node pulses fires and no other; a pulse at its end reaches its tasks, in
ascending order, two at one task counting one extra; a task does what the command of its unit does; a cell without
flip-flop and filter shows LUT bit i of its inputs. Nothing runs in sleep. A SLOWCLK evaluation of a backup cell
that rises in Nap sets FAB_BK_PEND and wakes the part, and awake is kept for the channels. (R192; R194; R199) -/
def Obligations.FabricPulsesFireChannelsAndReachTasks : Prop :=
    (∀ (c : Nat) (v : Word) (s : State),
      c = fld v 0 7 →
      mapGet s.fab.delivery c = none →
      ∃ t, exec (.fabFire v) s = .next t ∧ t.bit (Reg.FAB_SEEN (c / 32)) (c % 32) = true ∧ mapGet t.fab.delivery c = some ⟨2, s.channelTasks c⟩ ∧
      OnlyRegs [Reg.FAB_SEEN (c / 32)] { s with fab := { s.fab with delivery := t.fab.delivery } } t) ∧
    (∀ (c : Nat) (d : Delivery) (v : Word) (s : State),
      c = fld v 0 7 →
      mapGet s.fab.delivery c = some d →
      ∃ t, exec (.fabFire v) s = .next t ∧ t.bit (Reg.FAB_SEEN (c / 32)) (c % 32) = true ∧ t.rdF Reg.FAB_MERGED 0 16 = min (s.rdF Reg.FAB_MERGED 0 16 + 1) 65535 ∧
      t.rdF Reg.FAB_LAST 0 7 = c ∧ OnlyRegs [Reg.FAB_SEEN (c / 32), Reg.FAB_MERGED, Reg.FAB_LAST] s t) ∧
    (∀ (v : Word) (s : State),
      ∃ t, exec (.fabSwev v) s = .next t ∧ (∀ k < 6, bitOf v k = true → (t.pending1 (248 + k) = true ∧ (248 + k) ∈ t.fab.pulses)) ∧
      (∀ k < 6, bitOf v k = false → t.pending1 (248 + k) = s.pending1 (248 + k)) ∧ OnlyEvents (eventRegs 248) s t) ∧
    (∀ (s : State),
      s.asleep = true →
      exec .fabricChannelFire s = .next s) ∧
    (∀ (s : State),
      s.asleep = false →
      s.usedCells 0 28 = [] →
      s.fab.bkRise = [] →
      s.fab.delivery = [] →
      s.cyc = {} →
      ∃ t, exec .fabricChannelFire s = .next t ∧ t.fab.pulses = [] ∧ t.fab.taskNow = [] ∧
      (∀ c < 128, (s.bit (Reg.FAB_CH_CFG c) 16 = true ∧ s.rdF (Reg.FAB_CH_CFG c) 0 16 ∈ s.fab.pulses) → (t.bit (Reg.FAB_SEEN (c / 32)) (c % 32) = true ∧ mapGet t.fab.delivery c = some ⟨1, s.channelTasks c⟩)) ∧
      (∀ c < 128, ¬ (s.bit (Reg.FAB_CH_CFG c) 16 = true ∧ s.rdF (Reg.FAB_CH_CFG c) 0 16 ∈ s.fab.pulses) → (t.bit (Reg.FAB_SEEN (c / 32)) (c % 32) = s.bit (Reg.FAB_SEEN (c / 32)) (c % 32) ∧ mapGet t.fab.delivery c = none)) ∧
      OnlyRegs ((List.range 4).map Reg.FAB_SEEN) { s with fab := t.fab } t) ∧
    (∀ (c left : Nat) (tasks : List Nat) (s : State),
      s.asleep = false →
      s.usedCells 0 32 = [] →
      s.fab.bkRise = [] →
      s.fab.pulses = [] →
      s.fab.delivery = [(c, ⟨left, tasks⟩)] →
      1 < left →
      s.cyc = {} →
      exec .fabricChannelFire s = .next { s with fab := { s.fab with delivery := [(c, ⟨left - 1, tasks⟩)], taskNow := [], ovr := [] } }) ∧
    (∀ (c left : Nat) (tasks : List Nat) (s : State),
      s.asleep = false →
      s.usedCells 0 32 = [] →
      s.fab.bkRise = [] →
      s.fab.pulses = [] →
      s.fab.delivery = [(c, ⟨left, tasks⟩)] →
      left ≤ 1 →
      tasks.Nodup →
      s.cyc = {} →
      exec .fabricChannelFire s = .next (((List.range 256).filter (fun n => tasks.contains n)).foldl State.runTask
        { s with fab := { s.fab with delivery := [], taskNow := tasks, ovr := [] } })) ∧
    (∀ (c d k : Nat) (s : State),
      s.asleep = false →
      s.usedCells 0 32 = [] →
      s.fab.bkRise = [] →
      s.fab.pulses = [] →
      s.fab.delivery = [(c, ⟨1, [k]⟩), (d, ⟨1, [k]⟩)] →
      k < 256 →
      s.cyc = {} →
      exec .fabricChannelFire s = .next (State.runTask ((({ s with fab := { s.fab with delivery := [], taskNow := [k], ovr := [] } }).satAdd
        Reg.FAB_MERGED 16 16).wrF Reg.FAB_LAST 8 8 k) k)) ∧
    (∀ (c : Instr) (n : Nat) (s t : State),
      (c, n) ∈ [(Instr.adcStart, 80), (.adcSeq, 81), (.adcStop, 82), (.panelFlip, 84), (.panelPowerOn, 85), (.panelPowerOff, 86), (.tamperTrip 0, 160), (.tamperTrip 1, 161), (.relStart none 0, 168), (.relStart none 1, 169), (.relDrop none 0, 170), (.relDrop none 1, 171), (.spiStart 0 true, 176), (.spiStart 1 true, 177), (.uartSendTask 0, 178), (.uartSendTask 1, 179)] →
      exec c s = .next t →
      s.runTask n = t) ∧
    (∀ (n : Fin 8) (s t : State),
      exec (.timerStart n) s = .next t →
      s.runTask (8 * n) = t) ∧
    (∀ (n : Fin 8) (k : Fin 4) (s t : State),
      exec (.timerCapture n k) s = .next t →
      s.runTask (8 * n + 3 + k) = t) ∧
    (∀ (n : Fin 8) (s t : State),
      exec (.timerStop n) s = .next t →
      s.runTask (8 * n + 1) = t) ∧
    (∀ (n : Fin 8) (s t : State),
      exec (.timerClear n) s = .next t →
      s.runTask (8 * n + 2) = t) ∧
    (∀ (k : Fin 8) (s t : State),
      exec (.gpioTaskPort k) s = .next t →
      s.runTask (88 + k) = t) ∧
    (∀ (k : Fin 32) (s t : State),
      exec (.airopFabricTask k) s = .next t →
      s.runTask (96 + k) = t) ∧
    (∀ (i : Nat) (s : State),
      s.asleep = false →
      s.usedCells 0 28 = [i] →
      s.bit (Reg.FAB_CELL_CFG i) 16 = false →
      s.rdF (Reg.FAB_CELL_CFG i) 20 4 = 0 →
      s.fab.delivery = [] →
      ∃ t, exec .fabricChannelFire s = .next t ∧ t.bit (Reg.FAB_CELL_CFG i) 31 = s.lut i ((s.cellInputs i).map (nodeLevel s.fab.pulses s.levelsNow i))) ∧
    (∀ (k : Fin 4) (s : State),
      s.pwr.mode = .nap →
      s.usedCells 28 4 = [28 + k.val] →
      s.rd (Reg.FAB_CELL_CFG (28 + k)) = 0xFFFF →
      ∃ t, exec .backupCellRise s = .next t ∧ t.bit Reg.FAB_BK_PEND k = true ∧ t.bit (Reg.FAB_CELL_CFG (28 + k)) 31 = true ∧ t.pwr.waking = true ∧ 4 ∈ t.pwr.causes ∧
      OnlyRegs [Reg.FAB_BK_PEND, Reg.FAB_CELL_CFG (28 + k)] { s with fab := t.fab, pwr := t.pwr } t) ∧
    (∀ (k : Fin 4) (s : State),
      s.asleep = false →
      s.usedCells 28 4 = [28 + k.val] →
      s.rd (Reg.FAB_CELL_CFG (28 + k)) = 0xFFFF →
      ∃ t, exec .backupCellRise s = .next t ∧ t.fab.bkRise = s.fab.bkRise ++ [28 + k.val] ∧ t.bit (Reg.FAB_CELL_CFG (28 + k)) 31 = true ∧
      (s.pwr.mode = .run → t.pwr = s.pwr) ∧ t.cyc = { s.cyc with sampled := s.cyc.sampled ++ s.fab.pulses } ∧
      OnlyRegs [Reg.FAB_CELL_CFG (28 + k), Reg.PWR_COUNT] { s with fab := t.fab, pwr := t.pwr, cyc := t.cyc } t) ∧
    (∀ (s : State),
      s.asleep = false →
      s.usedCells 28 4 = [] →
      exec .backupCellRise s = .next { s with fab := { s.fab with latched := [] }, cyc := { s.cyc with sampled := s.cyc.sampled ++ s.fab.pulses } })

/-- A write to a task word of an open channel is held and no register changes; the next CFG write applies SELECT, EN and
both held words together. A write to a sealed channel is ignored, counted in SEALED_WR and sends the note slip
"sealed write" from source 6. A task word that names a guarded task refuses the move with the same count and slip; a
reserved task number or a node code from 288 to 0xFFFE refuses it with BAD_WR. After a refused task word the other
writes of the move change nothing and the CFG write closes it. (R195; R196; R197; R198) -/
def Obligations.RouteMovesAreHeldAndSealedChannelsRefuse : Prop :=
    (∀ (a : Nat) (c : Fin 128) (b : Bool) (v : Word) (s : State),
      s.bit (Reg.FAB_CH_CFG c) 17 = true →
      a = (if b then Reg.FAB_CH_TASK23 c else Reg.FAB_CH_TASK01 c) →
      ∃ t, exec (.fabTaskWrite c b v) s = .next t ∧ t.rdF Reg.FAB_STATUS 0 8 = min (s.rdF Reg.FAB_STATUS 0 8 + 1) 255 ∧
      OnlyRegs [Reg.FAB_STATUS] { s with fault := { s.fault with waiting := s.fault.waiting ++ [slipWord 6 0x05 0 (a - 0x40006000)] } } t) ∧
    (∀ (a : Nat) (c : Fin 128) (v : Word) (s : State),
      s.bit (Reg.FAB_CH_CFG c) 17 = true →
      a = Reg.FAB_CH_CFG c →
      ∃ t, exec (.fabCfgWrite c v) s = .next t ∧ t.rdF Reg.FAB_STATUS 0 8 = min (s.rdF Reg.FAB_STATUS 0 8 + 1) 255 ∧
      OnlyRegs [Reg.FAB_STATUS] { s with fault := { s.fault with waiting := s.fault.waiting ++ [slipWord 6 0x05 0 (a - 0x40006000)] } } t) ∧
    (∀ (c : Fin 128) (b : Bool) (v : Word) (s : State),
      s.bit (Reg.FAB_CH_CFG c) 17 = false →
      (s.heldRoute c).refused = false →
      taskGuarded (fld v 0 16) = false →
      taskGuarded (fld v 16 16) = false →
      taskReserved (fld v 0 16) = false →
      taskReserved (fld v 16 16) = false →
      exec (.fabTaskWrite c b v) s = .next (s.setHeld c (if b then { s.heldRoute c with t23 := some v } else { s.heldRoute c with t01 := some v }))) ∧
    (∀ (c : Fin 128) (b : Bool) (v : Word) (s : State),
      s.bit (Reg.FAB_CH_CFG c) 17 = false →
      (s.heldRoute c).refused = true →
      taskGuarded (fld v 0 16) = false →
      taskGuarded (fld v 16 16) = false →
      taskReserved (fld v 0 16) = false →
      taskReserved (fld v 16 16) = false →
      exec (.fabTaskWrite c b v) s = .next s) ∧
    (∀ (a : Nat) (c : Fin 128) (b : Bool) (v : Word) (s : State),
      s.bit (Reg.FAB_CH_CFG c) 17 = false →
      a = (if b then Reg.FAB_CH_TASK23 c else Reg.FAB_CH_TASK01 c) →
      taskGuarded (fld v 0 16) = true ∨ taskGuarded (fld v 16 16) = true →
      taskReserved (fld v 0 16) = false →
      taskReserved (fld v 16 16) = false →
      ∃ t, exec (.fabTaskWrite c b v) s = .next t ∧ t.rdF Reg.FAB_STATUS 0 8 = min (s.rdF Reg.FAB_STATUS 0 8 + 1) 255 ∧ t.heldRoute c = { refused := true } ∧
      OnlyRegs [Reg.FAB_STATUS] { s with fault := { s.fault with waiting := s.fault.waiting ++ [slipWord 6 0x05 0 (a - 0x40006000)] }, fab := { s.fab with held := t.fab.held } } t) ∧
    (∀ (c : Fin 128) (b : Bool) (v : Word) (s : State),
      s.bit (Reg.FAB_CH_CFG c) 17 = false →
      taskReserved (fld v 0 16) = true ∨ taskReserved (fld v 16 16) = true →
      taskGuarded (fld v 0 16) = false →
      taskGuarded (fld v 16 16) = false →
      ∃ t, exec (.fabTaskWrite c b v) s = .next t ∧ t.rdF Reg.FAB_STATUS 8 8 = min (s.rdF Reg.FAB_STATUS 8 8 + 1) 255 ∧ t.heldRoute c = { refused := true } ∧
      OnlyRegs [Reg.FAB_STATUS] { s with fab := { s.fab with held := t.fab.held } } t) ∧
    (∀ (c : Fin 128) (v : Word) (s : State),
      s.bit (Reg.FAB_CH_CFG c) 17 = false →
      (s.heldRoute c).refused = true →
      exec (.fabCfgWrite c v) s = .next (s.setHeld c {})) ∧
    (∀ (c : Fin 128) (v : Word) (s : State),
      s.bit (Reg.FAB_CH_CFG c) 17 = false →
      (s.heldRoute c).refused = false →
      288 ≤ fld v 0 16 →
      fld v 0 16 ≠ 0xFFFF →
      ∃ t, exec (.fabCfgWrite c v) s = .next t ∧ t.rdF Reg.FAB_STATUS 8 8 = min (s.rdF Reg.FAB_STATUS 8 8 + 1) 255 ∧ t.heldRoute c = {} ∧
      OnlyRegs [Reg.FAB_STATUS] { s with fab := { s.fab with held := t.fab.held } } t) ∧
    (∀ (c : Fin 128) (v : Word) (s : State),
      s.bit (Reg.FAB_CH_CFG c) 17 = false →
      (s.heldRoute c).refused = false →
      fld v 0 16 < 288 ∨ fld v 0 16 = 0xFFFF →
      ∃ t, exec (.fabCfgWrite c v) s = .next t ∧ t.rdF (Reg.FAB_CH_CFG c) 0 17 = fld v 0 17 ∧
      t.rd (Reg.FAB_CH_TASK01 c) = (s.heldRoute c).t01.getD (s.rd (Reg.FAB_CH_TASK01 c)) ∧ t.rd (Reg.FAB_CH_TASK23 c) = (s.heldRoute c).t23.getD (s.rd (Reg.FAB_CH_TASK23 c)) ∧
      t.heldRoute c = {} ∧ OnlyRegs [Reg.FAB_CH_CFG c, Reg.FAB_CH_TASK01 c, Reg.FAB_CH_TASK23 c] { s with fab := { s.fab with held := t.fab.held }, cyc := { s.cyc with routes := t.cyc.routes } } t)

/-- For a read of INTC_CLAIM: if a source n is enabled, pending, at or above INTC_THRESH.LEVEL, of greater priority than
every lower-numbered and no smaller priority than every higher-numbered ready source, the application core reads n
with its priority and the pending bit of n is cleared; any other master reads the same value and nothing is cleared.
With no such source the value is NONE and nothing is cleared. (R211; R212) -/
def Obligations.InterruptClaimsFollowPriority : Prop :=
    (∀ (n : Nat) (s : State),
      n ∈ s.intReady →
      s.rdF Reg.INTC_THRESH 0 4 ≤ s.intPrio n →
      (∀ k ∈ s.intReady, k < n → s.intPrio k < s.intPrio n) →
      (∀ k ∈ s.intReady, n < k → s.intPrio k ≤ s.intPrio n) →
      s.locked .core = false →
      ∃ t, exec (.intcClaim .core) s = .next t ∧ t.ans = { value := word (n + s.intPrio n * 256) } ∧ t.pending1 n = false ∧
      (∀ k < 256, k ≠ n → t.pending1 k = s.pending1 k) ∧ OnlyRegs [Reg.INTC_PEND (n / 32)] { s with ans := t.ans } t) ∧
    (∀ (n : Nat) (m : Master) (s : State),
      n ∈ s.intReady →
      s.rdF Reg.INTC_THRESH 0 4 ≤ s.intPrio n →
      (∀ k ∈ s.intReady, k < n → s.intPrio k < s.intPrio n) →
      (∀ k ∈ s.intReady, n < k → s.intPrio k ≤ s.intPrio n) →
      m ≠ .core →
      s.locked m = false →
      exec (.intcClaim m) s = .next (s.answer (word (n + s.intPrio n * 256)))) ∧
    (∀ (m : Master) (s : State),
      (∀ k ∈ s.intReady, s.intPrio k < s.rdF Reg.INTC_THRESH 0 4) →
      s.locked m = false →
      exec (.intcClaim m) s = .next (s.answer 0x80000000)) ∧
    (∀ (n : Nat) (s : State),
      n < 256 →
      (n ∈ s.intReady ↔ (s.bit (Reg.INTC_EN (n / 32)) (n % 32) = true ∧ s.pending1 n = true)))

/-- A write of a frequency inside the path ranges sets that frequency; one outside is ignored and counted in BAD_WR;
while OWNER is 1 any is ignored and counted in CMD_IGN, and so is a state command. A command, or a good strobe,
starts its change when no transition runs: the first transition of the path of the rule's table (through STANDBY
where it has no direct one, through SYNTH_SETTLE into TX), the others waiting; RX left starts detection afresh, a
change to OFF ends a transmission. During a transition a command is held, the last one kept, and counted. A strobe
for a state from SYNTH_SETTLE up sets both frequencies to the running operation's channel. With Spine-F in RESET a
strobe is lost; one of bad parity is discarded with event 106 and STROBE_ERR, and the running operation is missed
with event 78. At a transition's end STATE is the new state with event 96; RX entry takes the LNA step chosen; TUNE
puts the tone on at -20 dBm; the synthesiser is locked in SYNTH_SETTLE, TX, TUNE and RANGE; the next transition of
the change, or a held command's change, starts; a power-up brings Spine-F UP and loads the tuners from factory codes
and shadow; OFF leaves the die unpowered, Spine-F DOWN; a STUCK Spine-F stays STUCK. An overload in RX or RANGE
raises event 107, is counted and lowers the LNA under AUTO. A ranging capture lies in the buffer with event 108. A
return loss is recorded with event 120, and one below TUNE_THRESH raises event 105 and asks for the tuner, but not
within 64 slots of a failed retune. A tuning gap in a free band is granted and charged 140 µs; a busy band is counted, a short budget refused with event 70. A retune keeps a best pair of those measured with events 104 and
120; one still below TUNE_THRESH is counted and waits 64 slots. A loss of lock outside a transition leaves the die
OFF with the slip of source 96. The model's choices in it, no rules of the spec: event 96 at each transition of a
path and the choice among equally good pairs (log entry 54). (R217; R230; R232) -/
def Obligations.TheFrontDieMovesAsCommanded : Prop :=
    (∀ (tx : Bool) (v : Word) (s : State),
      s.radioOwned = true →
      ∃ t, exec (.radioFreqWrite tx v) s = .next t ∧ t.rdF Reg.RADIO_COUNT 12 6 = min (s.rdF Reg.RADIO_COUNT 12 6 + 1) 63 ∧ OnlyRegs [Reg.RADIO_COUNT] s t) ∧
    (∀ (v : Word) (s : State),
      s.radioOwned = true →
      ∃ t, exec (.radioFsmCmd v) s = .next t ∧ t.rdF Reg.RADIO_COUNT 12 6 = min (s.rdF Reg.RADIO_COUNT 12 6 + 1) 63 ∧ OnlyRegs [Reg.RADIO_COUNT] s t) ∧
    (∀ (tx : Bool) (v : Word) (s : State),
      s.radioOwned = false →
      ¬ ((850000 ≤ fld v 0 22 ∧ fld v 0 22 ≤ 935000) ∨ (2400000 ≤ fld v 0 22 ∧ fld v 0 22 ≤ 2483500)) →
      ∃ t, exec (.radioFreqWrite tx v) s = .next t ∧ t.rdF Reg.RADIO_COUNT 18 4 = min (s.rdF Reg.RADIO_COUNT 18 4 + 1) 15 ∧ OnlyRegs [Reg.RADIO_COUNT] s t) ∧
    (∀ (tx : Bool) (v : Word) (s : State),
      s.radioOwned = false →
      (850000 ≤ fld v 0 22 ∧ fld v 0 22 ≤ 935000) ∨ (2400000 ≤ fld v 0 22 ∧ fld v 0 22 ≤ 2483500) →
      exec (.radioFreqWrite tx v) s = .next (s.wr (if tx then Reg.RADIO_TX_FREQ else Reg.RADIO_RX_FREQ) (word (fld v 0 22)))) ∧
    (frontPath 1 0 = [0] ∧ frontPath 0 1 = [1] ∧ frontPath 1 2 = [2] ∧ frontPath 1 3 = [3] ∧ frontPath 1 4 = [2, 4] ∧ frontPath 1 5 = [5] ∧
      frontPath 1 6 = [6] ∧ frontPath 1 7 = [7] ∧ frontPath 2 4 = [4] ∧ frontPath 3 4 = [4] ∧ frontPath 4 3 = [3] ∧
      (∀ f < 8, f ≠ 1 → frontPath f 0 = [0] ∧ frontPath f 1 = [1]) ∧ frontPath 3 5 = [1, 5] ∧ frontPath 0 3 = [1, 3] ∧ frontPath 5 4 = [1, 2, 4]) ∧
    (∀ (v : Word) (n : Nat) (rest : List Nat) (s : State),
      s.radioOwned = false →
      s.front.going = none →
      frontPath s.fsm (fld v 0 3) = n :: rest →
      s.fsm ≠ 3 →
      n ≠ 0 →
      ∃ t, exec (.radioFsmCmd v) s = .next t ∧ t.front.going = some ⟨Fin.ofNat 8 n, bitOf v 3, bitOf v 4⟩ ∧
      t.front.legs = rest.map (fun k => ⟨Fin.ofNat 8 k, bitOf v 3, bitOf v 4⟩) ∧ t.front.tx = s.front.tx ∧ t.front.tuning = none ∧ t.front.tone = none ∧
      t.bit Reg.RADIO_FSM 6 = true ∧ t.fsm = s.fsm ∧
      OnlyRegs [Reg.RADIO_FSM] { s with front := { s.front with going := t.front.going, legs := t.front.legs, tuning := none, tone := none } } t) ∧
    (∀ (v : Word) (n : Nat) (rest : List Nat) (s : State),
      s.radioOwned = false →
      s.front.going = none →
      frontPath s.fsm (fld v 0 3) = n :: rest →
      s.fsm = 3 ∨ n = 0 →
      ∃ t, exec (.radioFsmCmd v) s = .next t ∧ t.front.going = some ⟨Fin.ofNat 8 n, bitOf v 3, bitOf v 4⟩ ∧
      t.front.legs = rest.map (fun k => ⟨Fin.ofNat 8 k, bitOf v 3, bitOf v 4⟩) ∧ (s.fsm = 3 → (t.front.stage = 0 ∧ t.front.table = none)) ∧
      t.front.tx = (if n = 0 then none else s.front.tx) ∧ t.front.held = s.front.held ∧ t.front.strobes = s.front.strobes ∧
      t.bit Reg.RADIO_FSM 6 = true ∧ t.fsm = s.fsm ∧ OnlyRegs [Reg.RADIO_FSM] { s with front := t.front } t) ∧
    (∀ (v : Word) (s : State),
      s.radioOwned = false →
      s.front.going.isSome = true →
      ∃ t, exec (.radioFsmCmd v) s = .next t ∧ (t.front.held.map (fun g => (g.state.val, g.lanes, g.path24))) = some (fld v 0 3, bitOf v 3, bitOf v 4) ∧ t.front.going = s.front.going ∧
      t.rdF Reg.RADIO_COUNT 6 6 = min (s.rdF Reg.RADIO_COUNT 6 6 + 1) 63 ∧ OnlyRegs [Reg.RADIO_COUNT] { s with front := { s.front with held := t.front.held } } t) ∧
    (∀ (g : FsmTarget) (n : Nat) (legs : List Nat) (rest : List FsmTarget) (s : State),
      s.front.strobes = g :: rest →
      s.spineState .front ≠ 1 →
      s.front.going = none →
      g.state.val ≤ 1 ∨ s.link.run = none →
      frontPath s.fsm g.state = n :: legs →
      ∃ t, exec (.strobeReceived true) s = .next t ∧ t.front.going = some ⟨Fin.ofNat 8 n, g.lanes, g.path24⟩ ∧
      t.front.legs = legs.map (fun k => ⟨Fin.ofNat 8 k, g.lanes, g.path24⟩) ∧ t.front.strobes = rest ∧ t.bit Reg.RADIO_FSM 6 = true ∧ t.fsm = s.fsm ∧
      OnlyRegs [Reg.RADIO_FSM] { s with front := t.front } t) ∧
    (∀ (g : FsmTarget) (n : Nat) (legs : List Nat) (rest : List FsmTarget) (o : RunOp) (s : State),
      s.front.strobes = g :: rest →
      s.spineState .front ≠ 1 →
      s.front.going = none →
      2 ≤ g.state.val →
      s.link.run = some o →
      frontPath s.fsm g.state = n :: legs →
      ∃ t, exec (.strobeReceived true) s = .next t ∧ t.front.going = some ⟨Fin.ofNat 8 n, g.lanes, g.path24⟩ ∧
      t.front.legs = legs.map (fun k => ⟨Fin.ofNat 8 k, g.lanes, g.path24⟩) ∧ t.front.strobes = rest ∧
      t.rd Reg.RADIO_RX_FREQ = word (s.chanKhz o.chan) ∧ t.rd Reg.RADIO_TX_FREQ = word (s.chanKhz o.chan) ∧
      OnlyRegs ([Reg.RADIO_FSM, Reg.RADIO_RX_FREQ, Reg.RADIO_TX_FREQ] ++
        if s.rdF Reg.RADIO_TX_FREQ 0 22 = s.chanKhz o.chan then [] else [tunerReg (decide (2400000 ≤ s.chanKhz o.chan))]) { s with front := t.front } t) ∧
    (∀ (g : FsmTarget) (rest : List FsmTarget) (s : State),
      s.front.strobes = g :: rest →
      s.spineState .front = 1 →
      ∀ b, exec (.strobeReceived b) s = .next { s with front := { s.front with strobes := rest } }) ∧
    (∀ (g : FsmTarget) (rest : List FsmTarget) (s : State),
      s.front.strobes = g :: rest →
      s.spineState .front ≠ 1 →
      s.link.run = none →
      g.state ≠ 5 →
      ∃ t, exec (.strobeReceived false) s = .next t ∧ t.front.strobes = rest ∧ t.front.going = s.front.going ∧ t.fsm = s.fsm ∧
      t.bit Reg.RADIO_STATUS 1 = true ∧ t.rdF Reg.RADIO_COUNT 0 6 = min (s.rdF Reg.RADIO_COUNT 0 6 + 1) 63 ∧ t.pending1 106 = true ∧
      OnlyEvents ([Reg.RADIO_STATUS, Reg.RADIO_COUNT] ++ eventRegs 106) { s with front := { s.front with strobes := rest } } t) ∧
    (∀ (g : FsmTarget) (rest : List FsmTarget) (o : RunOp) (s : State),
      s.front.strobes = g :: rest →
      s.spineState .front ≠ 1 →
      s.link.run = some o →
      o.ref ∈ [OpRef.beacon, .relay, .join, .hearBeacon, .hearCall, .hearFlood] →
      ∃ t, exec (.strobeReceived false) s = .next t ∧ t.link.run = none ∧ t.rdF Reg.LINK_COUNT_TX 16 8 = min (s.rdF Reg.LINK_COUNT_TX 16 8 + 1) 255 ∧
      t.pending1 78 = true ∧ t.pending1 106 = true ∧ t.fsm = s.fsm) ∧
    (∀ (g : FsmTarget) (s : State),
      s.front.going = some g →
      s.front.held = none →
      s.front.legs = [] →
      s.fsm ≠ 0 →
      g.state ≠ 0 →
      ∃ t, exec .frontTransitionEnd s = .next t ∧ t.fsm = g.state.val ∧ t.bit Reg.RADIO_FSM 3 = g.lanes ∧ t.bit Reg.RADIO_FSM 4 = g.path24 ∧ t.bit Reg.RADIO_FSM 6 = false ∧
      (g.state.val = 3 → t.rdF Reg.RADIO_LNA 0 2 = s.front.lnaStep % 4) ∧ (g.state.val ≠ 3 → t.rd Reg.RADIO_LNA = s.rd Reg.RADIO_LNA) ∧ t.pending1 96 = true ∧
      (g.state.val = 5 → t.front.tone = some (s.rdF Reg.RADIO_TX_FREQ 0 22, -40)) ∧ t.bit Reg.RADIO_SYNTH_OFS 31 = decide (g.state.val = 2 ∨ g.state.val = 4 ∨ g.state.val = 5 ∨ g.state.val = 7) ∧
      OnlyEvents ([Reg.RADIO_FSM, Reg.RADIO_LNA, Reg.RADIO_SYNTH_OFS] ++ eventRegs 96)
        { s with front := (if g.state.val = 5 then { s.front with going := none, tuning := s.front.tuneGrant, tuneGrant := none, tone := t.front.tone }
          else { s.front with going := none }) } t) ∧
    (∀ (g h : FsmTarget) (rest : List FsmTarget) (s : State),
      s.front.going = some g →
      s.front.legs = h :: rest →
      s.fsm ≠ 0 →
      g.state ≠ 0 →
      ∃ t, exec .frontTransitionEnd s = .next t ∧ t.front.going = some h ∧ t.front.legs = rest ∧ t.front.held = s.front.held ∧
      t.fsm = g.state.val ∧ t.bit Reg.RADIO_FSM 6 = true ∧ t.pending1 96 = true) ∧
    (∀ (g : FsmTarget) (s : State),
      s.front.going = some g →
      s.front.held = none →
      s.front.legs = [] →
      s.fsm = 0 →
      g.state ≠ 0 →
      s.spineState .front ≠ 4 →
      s.link.run = none →
      ∃ t, exec .frontTransitionEnd s = .next t ∧ t.fsm = g.state.val ∧ t.spineState .front = 3 ∧ t.pending1 96 = true ∧ t.front.going = none ∧
      (∀ p, t.rd (tunerReg p) = word ((s.tunerCodes p (if p then 2400000 else 850000)).1 + (s.tunerCodes p (if p then 2400000 else 850000)).2 * 256 +
        (mapGet s.cal.losses (b2n p)).getD 0 * 65536))) ∧
    (∀ (g : FsmTarget) (s : State),
      s.front.going = some g →
      s.spineState .front = 4 →
      ∃ t, exec .frontTransitionEnd s = .next t ∧ t.spineState .front = 4) ∧
    (∀ (g : FsmTarget) (s : State),
      s.front.going = some g →
      s.front.held = none →
      g.state = 0 →
      s.spineState .front ≠ 4 →
      ∃ t, exec .frontTransitionEnd s = .next t ∧ t.fsm = 0 ∧ t.spineState .front = 0 ∧ t.front.tx = none ∧ t.front.stage = 0 ∧ t.front.strobes = s.front.strobes ∧ t.pending1 96 = true) ∧
    (∀ (g h : FsmTarget) (n : Nat) (legs : List Nat) (s : State),
      s.front.going = some g →
      s.front.held = some h →
      s.front.legs = [] →
      s.fsm ≠ 0 →
      g.state ≠ 0 →
      frontPath g.state h.state = n :: legs →
      ∃ t, exec .frontTransitionEnd s = .next t ∧ t.front.going = some ⟨Fin.ofNat 8 n, h.lanes, h.path24⟩ ∧
      t.front.legs = legs.map (fun k => ⟨Fin.ofNat 8 k, h.lanes, h.path24⟩) ∧ t.front.held = none ∧ t.fsm = g.state.val ∧ t.bit Reg.RADIO_FSM 6 = true ∧ t.pending1 96 = true) ∧
    (∀ (s : State),
      s.fsm = 3 ∨ s.fsm = 7 →
      ∃ t, exec .samplerOverload s = .next t ∧ t.bit Reg.RADIO_STATUS 0 = true ∧ t.rdF Reg.RADIO_COUNT 22 5 = min (s.rdF Reg.RADIO_COUNT 22 5 + 1) 31 ∧ t.pending1 107 = true ∧
      t.rdF Reg.RADIO_LNA 0 2 = (if s.bit Reg.RADIO_LNA 2 = true then s.rdF Reg.RADIO_LNA 0 2 - 1 else s.rdF Reg.RADIO_LNA 0 2) ∧
      OnlyEvents ([Reg.RADIO_STATUS, Reg.RADIO_COUNT, Reg.RADIO_LNA] ++ eventRegs 107) s t) ∧
    (∀ (l : List Byte) (s : State),
      s.fsm = 7 →
      l.length ≤ 65536 →
      ∃ t, exec (.rangingCaptureEnd l) s = .next t ∧ t.pending1 108 = true ∧ (∀ i < l.length, t.byteAt (0x50010000 + i) = l.getD i 0) ∧
      (∀ a, (a < 0x50010000 ∨ 0x50010000 + l.length ≤ a) → t.byteAt a = s.byteAt a) ∧ SameRegs (Reg.PWR_COUNT :: eventRegs 108) s t) ∧
    (∀ (p : Bool) (rl : Fin 256) (s : State),
      s.fsm = 4 ∨ s.fsm = 5 →
      s.rdF Reg.TUNER_THRESH 0 6 ≤ rl.val →
      ∃ t, exec (.returnLossLow p rl) s = .next t ∧ t.rdF (tunerReg p) 16 8 = rl.val ∧ mapGet t.cal.losses (b2n p) = some rl.val ∧
      t.pending1 120 = true ∧ OnlyEvents ([tunerReg p] ++ eventRegs 120) { s with cal := { s.cal with losses := t.cal.losses } } t) ∧
    (∀ (p : Bool) (rl : Fin 256) (s : State),
      s.fsm = 4 ∨ s.fsm = 5 →
      rl.val < s.rdF Reg.TUNER_THRESH 0 6 →
      ∃ t, exec (.returnLossLow p rl) s = .next t ∧ t.rdF (tunerReg p) 16 8 = rl.val ∧ mapGet t.cal.losses (b2n p) = some rl.val ∧ t.pending1 120 = true ∧ t.pending1 105 = true ∧
      t.link.tuneReq = (if s.slotNow < s.link.tuneSlot then s.link.tuneReq else some p) ∧
      OnlyEvents ([tunerReg p] ++ eventRegs 120 ++ eventRegs 105) { s with cal := { s.cal with losses := t.cal.losses }, link := { s.link with tuneReq := t.link.tuneReq } } t) ∧
    (∀ (p : Bool) (b : Nat) (power : Int) (s : State),
      s.link.tuneReq = some p →
      s.radioFree = true →
      s.bit Reg.CAL_STATUS 0 = false →
      s.relDue 0 = false →
      s.relDue 1 = false →
      s.gapNow = none →
      s.bandOfKhz (s.rdF Reg.RADIO_TX_FREQ 0 22) = some b →
      s.budgetShort b 140 = false →
      s.listenBusy b power = false →
      ∃ t, exec (.tuningGapGrant power) s = .next t ∧ t.link.tuneReq = none ∧ t.front.tuneGrant = some p ∧
      t.front.strobes = s.front.strobes ++ [⟨5, p, p⟩] ∧ t.buckets b = (s.buckets b).take 15 ++ [((s.buckets b).drop 15).sum + 140]) ∧
    (∀ (p : Bool) (b : Nat) (power : Int) (s : State),
      s.link.tuneReq = some p →
      s.radioFree = true →
      s.bit Reg.CAL_STATUS 0 = false →
      s.relDue 0 = false →
      s.relDue 1 = false →
      s.gapNow = none →
      s.bandOfKhz (s.rdF Reg.RADIO_TX_FREQ 0 22) = some b →
      s.budgetShort b 140 = false →
      s.listenBusy b power = true →
      ∃ t, exec (.tuningGapGrant power) s = .next t ∧ t.rdF (Reg.LINK_BAND_CNT b) 16 16 = min (s.rdF (Reg.LINK_BAND_CNT b) 16 16 + 1) 65535 ∧
      OnlyRegs [Reg.LINK_BAND_CNT b] s t) ∧
    (∀ (p : Bool) (b : Nat) (power : Int) (s : State),
      s.link.tuneReq = some p →
      s.radioFree = true →
      s.bit Reg.CAL_STATUS 0 = false →
      s.relDue 0 = false →
      s.relDue 1 = false →
      s.gapNow = none →
      s.bandOfKhz (s.rdF Reg.RADIO_TX_FREQ 0 22) = some b →
      s.budgetShort b 140 = true →
      ∃ t, exec (.tuningGapGrant power) s = .next t ∧ t.rdF (Reg.LINK_BAND_CNT b) 0 16 = min (s.rdF (Reg.LINK_BAND_CNT b) 0 16 + 1) 65535 ∧ t.pending1 70 = true ∧ OnlyEvents ([Reg.LINK_BAND_CNT b] ++ eventRegs 70) s t) ∧
    (∀ (p : Bool) (a b rl : Nat) (first : Fin 256) (rest : List (Fin 64 × Fin 64 × Fin 256)) (s : State),
      s.front.tuning = some p →
      s.fsm = 5 →
      (a, b, rl) ∈ s.retunePairs p first rest →
      (∀ q ∈ s.retunePairs p first rest, q.2.2 ≤ rl) →
      ∃ t, exec (.retuneDone first rest) s = .next t ∧ t.rdF (tunerReg p) 16 8 = rl ∧
      (∃ q ∈ s.retunePairs p first rest, q.2.2 = rl ∧ t.rd (tunerReg p) = word (q.1 + q.2.1 * 256 + rl * 65536)) ∧
      mapGet t.cal.losses (b2n p) = some rl ∧ t.pending1 104 = true ∧ t.pending1 120 = true ∧ t.front.tuning = none ∧
      t.rdF Reg.TUNER_COUNT 0 16 = min (s.rdF Reg.TUNER_COUNT 0 16 + 1) 65535 ∧
      t.rdF Reg.TUNER_COUNT 16 8 = (if rl < s.rdF Reg.TUNER_THRESH 0 6 then min (s.rdF Reg.TUNER_COUNT 16 8 + 1) 255 else s.rdF Reg.TUNER_COUNT 16 8) ∧
      t.link.tuneSlot = (if rl < s.rdF Reg.TUNER_THRESH 0 6 then s.slotNow + 64 else s.link.tuneSlot) ∧
      OnlyEvents ([tunerReg p, Reg.TUNER_COUNT] ++ eventRegs 120 ++ eventRegs 104)
        { s with front := { s.front with tuning := none }, cal := { s.cal with losses := t.cal.losses }, link := { s.link with tuneSlot := t.link.tuneSlot } } t) ∧
    (∀ (s : State),
      s.fsm ≠ 0 →
      s.front.going = none →
      s.link.run = none →
      s.spineState .front ≠ 4 →
      ∃ t, exec .frontPllUnlock s = .next t ∧ t.fsm = 0 ∧ t.spineState .front = 0 ∧ t.fault.waiting = s.fault.waiting ++ [slipWord 96 0x0E 1 0])

/-- Stage 1 passes in RX outside a frame when the channel power exceeds DET_THRESH, with event 97; Gen 2's stage 2 when
the correlation exceeds QUAL_LEVEL, with event 98; an unconfirmed stage 1 counts QUAL_REJ and detection starts
afresh. A Gen 1 sync word within SYNC_ERR sets the timing reference. A header whose CRC fails counts DET_FALSE and
HDR_CRC with event 100; another VERSION counts BAD_VER, a table not held counts NO_TABLE, both drop the frame and
detection resumes; otherwise the table is latched, with event 99. At the end of a frame event 101 is raised,
MODEM_LAST has the result, its count is made, and detection starts afresh. (R266; R281; R283) -/
def Obligations.FramesAreDetectedAndDecoded : Prop :=
    (∀ (p : Int) (s : State),
      s.fsm = 3 →
      s.front.stage = 0 →
      2 * s.detThresh < p →
      ∃ t, exec (.detectStage1 p) s = .next t ∧ t.rd Reg.RADIO_RSSI = word (unsigned 9 p) ∧ t.pending1 97 = true ∧ OnlyEvents ([Reg.RADIO_RSSI] ++ eventRegs 97) { s with front := { s.front with stage := 1 } } t) ∧
    (∀ (p : Int) (s : State),
      s.fsm = 3 →
      s.front.stage ≠ 0 ∨ p ≤ 2 * s.detThresh →
      ∃ t, exec (.detectStage1 p) s = .next t ∧ t.rd Reg.RADIO_RSSI = word (unsigned 9 p) ∧ OnlyRegs [Reg.RADIO_RSSI] s t) ∧
    (∀ (c : Fin 256) (s : State),
      s.front.stage = 1 →
      s.rdF Reg.MODEM_CFG 8 8 < c.val →
      ∃ t, exec (.preambleQualified c) s = .next t ∧ t.rdF Reg.MODEM_QUAL 0 8 = c.val ∧ t.pending1 98 = true ∧ OnlyEvents ([Reg.MODEM_QUAL] ++ eventRegs 98) { s with front := { s.front with stage := 2, gen2 := true } } t) ∧
    (∀ (s : State),
      s.front.stage = 1 →
      ∃ t, exec .detectStage2Timeout s = .next t ∧ t.rdF Reg.MODEM_COUNT_DET 16 16 = min (s.rdF Reg.MODEM_COUNT_DET 16 16 + 1) 65535 ∧ OnlyRegs [Reg.MODEM_COUNT_DET] { s with front := { s.front with stage := 0, header := 0, ref := 0, table := none } } t) ∧
    (∀ (e : Fin 33) (r : Nat) (s : State),
      s.front.stage = 1 →
      e.val ≤ s.rdF Reg.MODEM_CFG 20 2 →
      exec (.gen1SyncFound e r) s = .next { s with front := { s.front with stage := 2, gen2 := false, ref := r % 2 ^ 58 } }) ∧
    (∀ (h : BitVec 48) (r : Nat) (s : State),
      s.front.stage = 2 →
      s.front.gen2 = true →
      headerOk h.toNat = false →
      ∃ t, exec (.headerDecoded h r) s = .next t ∧ t.front.stage = 0 ∧ t.pending1 100 = true ∧ t.rdF Reg.MODEM_COUNT_DET 0 16 = min (s.rdF Reg.MODEM_COUNT_DET 0 16 + 1) 65535 ∧
      t.rdF Reg.MODEM_COUNT_ERR 0 8 = min (s.rdF Reg.MODEM_COUNT_ERR 0 8 + 1) 255 ∧ t.rdF Reg.MODEM_LAST 4 4 = 1 ∧ OnlyEvents ([Reg.MODEM_LAST, Reg.MODEM_COUNT_DET, Reg.MODEM_COUNT_ERR] ++ eventRegs 100) { s with front := t.front } t) ∧
    (∀ (h : BitVec 48) (r : Nat) (s : State),
      s.front.stage = 2 →
      s.front.gen2 = true →
      headerOk h.toNat = true →
      hdrFld h.toNat 0 2 ≠ 1 →
      ∃ t, exec (.headerDecoded h r) s = .next t ∧ t.front.stage = 0 ∧ t.pending1 99 = true ∧ t.rdF Reg.MODEM_COUNT_ERR 28 4 = min (s.rdF Reg.MODEM_COUNT_ERR 28 4 + 1) 15 ∧
      t.rdF Reg.MODEM_LAST 4 4 = 2 ∧ OnlyEvents ([Reg.MODEM_HDR_LO, Reg.MODEM_HDR_HI, Reg.MODEM_LAST, Reg.MODEM_COUNT_ERR] ++ eventRegs 99) { s with front := t.front } t) ∧
    (∀ (h : BitVec 48) (r : Nat) (s : State),
      s.front.stage = 2 →
      s.front.gen2 = true →
      headerOk h.toNat = true →
      hdrFld h.toNat 0 2 = 1 →
      s.loadTable (hdrFld h.toNat 6 10) = none →
      ∃ t, exec (.headerDecoded h r) s = .next t ∧ t.front.stage = 0 ∧ t.pending1 99 = true ∧ t.rdF Reg.MODEM_COUNT_ERR 16 8 = min (s.rdF Reg.MODEM_COUNT_ERR 16 8 + 1) 255 ∧
      t.rdF Reg.MODEM_LAST 4 4 = 3 ∧ OnlyEvents ([Reg.MODEM_HDR_LO, Reg.MODEM_HDR_HI, Reg.MODEM_LAST, Reg.MODEM_COUNT_ERR] ++ eventRegs 99) { s with front := t.front } t) ∧
    (∀ (h : BitVec 48) (r : Nat) (x : LoadTable) (s : State),
      s.front.stage = 2 →
      s.front.gen2 = true →
      headerOk h.toNat = true →
      hdrFld h.toNat 0 2 = 1 →
      s.loadTable (hdrFld h.toNat 6 10) = some x →
      ∃ t, exec (.headerDecoded h r) s = .next t ∧ t.pending1 99 = true ∧ t.rd Reg.MODEM_HDR_LO = word h.toNat ∧ t.rd Reg.MODEM_HDR_HI = word (h.toNat / 2 ^ 32) ∧
      OnlyEvents ([Reg.MODEM_HDR_LO, Reg.MODEM_HDR_HI] ++ eventRegs 99) { s with front := { s.front with stage := 3, header := h.toNat, ref := r % 2 ^ 58, table := some x } } t) ∧
    (∀ (l : List Byte) (m : RxMeas) (s : State),
      s.fsm = 3 →
      s.front.gen2 = true →
      s.front.stage = 3 →
      s.link.run = none →
      hdrFld s.front.header 16 11 < 12 →
      ∃ t, exec (.payloadEnd l m) s = .next t ∧ t.front.stage = 0 ∧ t.pending1 101 = true ∧ t.rdF Reg.MODEM_LAST 4 4 = 4 ∧ t.rdF Reg.MODEM_COUNT_ERR 24 4 = min (s.rdF Reg.MODEM_COUNT_ERR 24 4 + 1) 15) ∧
    (∀ (l : List Byte) (m : RxMeas) (s : State),
      s.fsm = 3 →
      s.front.gen2 = true →
      s.front.stage = 3 →
      s.link.run = none →
      12 ≤ hdrFld s.front.header 16 11 →
      l.length ≠ hdrFld s.front.header 16 11 →
      ∃ t, exec (.payloadEnd l m) s = .next t ∧ t.front.stage = 0 ∧ t.pending1 101 = true ∧ t.rdF Reg.MODEM_LAST 4 4 = 5 ∧ t.rdF Reg.MODEM_COUNT_ERR 8 8 = min (s.rdF Reg.MODEM_COUNT_ERR 8 8 + 1) 255 ∧
      (hdrFld s.front.header 27 1 = 1 → (t.rdF Reg.MODEM_COUNT_CHORUS 0 16 = min (s.rdF Reg.MODEM_COUNT_CHORUS 0 16 + 1) 65535 ∧ t.rdF Reg.LINK_COUNT_MESH 0 8 = min (s.rdF Reg.LINK_COUNT_MESH 0 8 + 1) 255 ∧ t.pending1 76 = true))) ∧
    (∀ (l : List Byte) (m : RxMeas) (s : State),
      s.fsm = 3 →
      s.front.gen2 = true →
      s.front.stage = 3 →
      s.link.run = none →
      (payloadResult true s.front.header l).1 = 0 →
      ∃ t, exec (.payloadEnd l m) s = .next t ∧ t.front.stage = 0 ∧ t.pending1 101 = true ∧ t.rdF Reg.MODEM_LAST 4 4 = 0 ∧ t.rdF Reg.MODEM_COUNT_CHORUS 16 16 = min (s.rdF Reg.MODEM_COUNT_CHORUS 16 16 + 1) 65535 ∧
      t.rd Reg.CAL_IQ = m.iq &&& 0x0FFF0FFF ∧ t.rd Reg.CAL_DC = m.dc ∧ t.pending1 112 = true ∧ t.pending1 120 = true ∧ t.qe = s.qe)

/-- While a DERIVE runs every command is refused with LT_BUSY and changes nothing. WRITE stores the table of LTS_DATA
under its id, refusing id 0 (LT_FIXED), a table with code 7 or no bit (LT_BAD) and a new id in a full store
(LT_FULL). READ shows a held table and answers LT_NONE for another; REMOVE takes it out, refuses id 0 and answers
LT_NONE. DERIVE starts reading the front die, or answers LT_NOSNR when it cannot be read; at its end the derived
table is shown and nothing is stored. (R263) -/
def Obligations.TheLoadingTableStoreAnswersItsCommands : Prop :=
    (∀ (c : Instr) (rate : Bool) (i : Fin 1024) (s : State),
      s.link.derive_.isSome = true →
      c ∈ [.ltsWrite rate i, .ltsRead i, .ltsRemove i, .ltsDerive rate] →
      ∃ t, exec c s = .next t ∧ t.rdF Reg.LTS_RESULT 0 3 = 5 ∧ OnlyRegs [Reg.LTS_RESULT] s t) ∧
    (∀ (rate : Bool) (s : State),
      s.link.derive_ = none →
      ∃ t, exec (.ltsWrite rate 0) s = .next t ∧ t.rdF Reg.LTS_RESULT 0 3 = 3 ∧ OnlyRegs [Reg.LTS_RESULT] s t) ∧
    (∀ (rate : Bool) (i : Fin 1024) (s : State),
      s.link.derive_ = none →
      i.val ≠ 0 →
      LoadTable.ok { rate := rate, data := s.ltsData } = false →
      ∃ t, exec (.ltsWrite rate i) s = .next t ∧ t.rdF Reg.LTS_RESULT 0 3 = 2 ∧ OnlyRegs [Reg.LTS_RESULT] s t) ∧
    (∀ (rate : Bool) (i : Fin 1024) (s : State),
      s.link.derive_ = none →
      i.val ≠ 0 →
      LoadTable.ok { rate := rate, data := s.ltsData } = true →
      (mapGet s.link.lts i).isSome = true ∨ s.link.lts.length < s.ltsCapacity →
      ∃ t, exec (.ltsWrite rate i) s = .next t ∧ t.rdF Reg.LTS_RESULT 0 3 = 0 ∧ mapGet t.link.lts i = some { rate := rate, data := s.ltsData } ∧ (∀ j, j ≠ i.val → mapGet t.link.lts j = mapGet s.link.lts j) ∧
      t.rdF Reg.LTS_RESULT 16 10 = LoadTable.bits { rate := rate, data := s.ltsData } % 1024 ∧ OnlyRegs [Reg.LTS_RESULT] { s with link := { s.link with lts := t.link.lts } } t) ∧
    (∀ (rate : Bool) (i : Fin 1024) (s : State),
      s.link.derive_ = none →
      i.val ≠ 0 →
      LoadTable.ok { rate := rate, data := s.ltsData } = true →
      mapGet s.link.lts i = none →
      s.ltsCapacity ≤ s.link.lts.length →
      ∃ t, exec (.ltsWrite rate i) s = .next t ∧ t.rdF Reg.LTS_RESULT 0 3 = 1 ∧ OnlyRegs [Reg.LTS_RESULT] s t) ∧
    (∀ (x : LoadTable) (i : Fin 1024) (s : State),
      s.link.derive_ = none →
      s.loadTable i = some x →
      ∃ t, exec (.ltsRead i) s = .next t ∧ t.rdF Reg.LTS_RESULT 0 3 = 0 ∧ (∀ j < 9, t.rd (Reg.LTS_DATA j) = word (x.data / 2 ^ (32 * j))) ∧ t.rdF Reg.LTS_RESULT 8 1 = b2n x.rate ∧ t.rdF Reg.LTS_RESULT 16 10 = x.bits % 1024 ∧
      OnlyRegs (Reg.LTS_RESULT :: (List.range 9).map Reg.LTS_DATA) s t) ∧
    (∀ (i : Fin 1024) (s : State),
      s.link.derive_ = none →
      s.loadTable i = none →
      ∃ t, exec (.ltsRead i) s = .next t ∧ t.rdF Reg.LTS_RESULT 0 3 = 4 ∧ OnlyRegs [Reg.LTS_RESULT] s t) ∧
    (∀ (s : State),
      s.link.derive_ = none →
      ∃ t, exec (.ltsRemove 0) s = .next t ∧ t.rdF Reg.LTS_RESULT 0 3 = 3 ∧ OnlyRegs [Reg.LTS_RESULT] s t) ∧
    (∀ (x : LoadTable) (i : Fin 1024) (s : State),
      s.link.derive_ = none →
      i.val ≠ 0 →
      mapGet s.link.lts i = some x →
      ∃ t, exec (.ltsRemove i) s = .next t ∧ t.rdF Reg.LTS_RESULT 0 3 = 0 ∧ mapGet t.link.lts i = none ∧ (∀ j, j ≠ i.val → mapGet t.link.lts j = mapGet s.link.lts j) ∧ OnlyRegs [Reg.LTS_RESULT] { s with link := { s.link with lts := t.link.lts } } t) ∧
    (∀ (i : Fin 1024) (s : State),
      s.link.derive_ = none →
      i.val ≠ 0 →
      mapGet s.link.lts i = none →
      ∃ t, exec (.ltsRemove i) s = .next t ∧ t.rdF Reg.LTS_RESULT 0 3 = 4 ∧ OnlyRegs [Reg.LTS_RESULT] s t) ∧
    (∀ (rate : Bool) (s : State),
      s.link.derive_ = none →
      s.spineState .front = 3 ∨ s.spineState .front = 2 →
      ∃ t, exec (.ltsDerive rate) s = .next t ∧ t.bit Reg.LTS_RESULT 31 = true ∧ OnlyRegs [Reg.LTS_RESULT] { s with link := { s.link with derive_ := some rate } } t) ∧
    (∀ (rate : Bool) (s : State),
      s.link.derive_ = none →
      s.spineState .front ≠ 3 →
      s.spineState .front ≠ 2 →
      ∃ t, exec (.ltsDerive rate) s = .next t ∧ t.rdF Reg.LTS_RESULT 0 3 = 6 ∧ t.link = s.link) ∧
    (∀ (rate : Bool) (s : State),
      s.link.derive_ = some rate →
      s.spineState .front = 3 →
      ∃ t, exec .ltsDeriveDone s = .next t ∧ t.rdF Reg.LTS_RESULT 0 3 = 0 ∧ t.bit Reg.LTS_RESULT 31 = false ∧ t.rdF Reg.LTS_RESULT 8 1 = b2n rate ∧
      (∀ j < 9, t.rd (Reg.LTS_DATA j) = word ((tableOf rate ((List.range 96).map (fun d => deriveCode rate (s.modemSnr d) (s.rdF Reg.MODEM_CFG 16 4)))).data / 2 ^ (32 * j))) ∧
      OnlyRegs (Reg.LTS_RESULT :: (List.range 9).map Reg.LTS_DATA) { s with link := { s.link with derive_ := none } } t) ∧
    (∀ (rate : Bool) (s : State),
      s.link.derive_ = some rate →
      s.spineState .front ≠ 3 →
      ∃ t, exec .ltsDeriveDone s = .next t ∧ t.rdF Reg.LTS_RESULT 0 3 = 6 ∧ t.bit Reg.LTS_RESULT 31 = false ∧ t.link = { s.link with derive_ := none })

/-- A background estimate in RX under BG_EN sets all four lanes, or in single-lane mode lane 0 without its skew, and the
spur figure, with events 112 and 120; otherwise it changes nothing. A temperature reading is evaluated only while
the front die is not OFF; it is recorded, and a move above the recalibration limit with no request pending sets
PENDING with events 118 and 113. A request or a force with none pending sets PENDING at folio 0 with events 118 and
113 and starts CAL_WAIT anew, and a force sets FORCED but not under the brown-out warning; with one pending only a
force does anything. CAL_WAIT's expiry before a folio has begun sets FORCED and counts. A gap without end grants
every folio left with events 79 and 114 and the strobe to CAL, T_last being NOW at folio 0; a gap below 400 µs
grants none. A forced blackout begins at a slot boundary, or after the operation that ran there, grants every folio
left with event 114, and counts an operation that it overlaps as missed and in SLOTS_TAKEN with events 78 and 117. A
folio ends in CAL only: the die is in STANDBY again with event 96, event 115 is raised; a result outside its limits
sets STALE, is counted with event 119 and leaves the lane values; an accepted one takes effect and clears STALE; the
next folio takes the chain when the grant has more and no warning is in force, else the die goes OFF. The last folio
raises event 116, clears PENDING and FORCED and counts a run. The model's choices in it, no rules of the spec: a
command whose premise does not hold changes nothing (log entry 13); overlap on estimated lengths (log entry 35);
units and waits of the calibration (log entry 49). (10 Full recalibration; 10 Temperature evaluation; 10 Forced
blackout; 10 Background estimates) -/
def Obligations.CalibrationRunsItsFolios : Prop :=
    (∀ (l : List Word) (p : Fin 256) (s : State),
      s.bit Reg.CAL_CTRL 2 = true →
      s.fsm = 3 →
      s.bit Reg.RADIO_FSM 3 = true →
      l.length = 4 →
      ∃ t, exec (.laneEstimateUpdate l p) s = .next t ∧ (∀ i < 4, t.rd (Reg.CAL_LANE i) = l.getD i 0) ∧ t.rd Reg.CAL_SPUR = word (p.val + 256) ∧ t.pending1 112 = true ∧ t.pending1 120 = true ∧
      OnlyEvents ([Reg.CAL_SPUR, Reg.CAL_LANE 0, Reg.CAL_LANE 1, Reg.CAL_LANE 2, Reg.CAL_LANE 3] ++ eventRegs 112) s t) ∧
    (∀ (v : Word) (l : List Word) (p : Fin 256) (s : State),
      s.bit Reg.CAL_CTRL 2 = true →
      s.fsm = 3 →
      s.bit Reg.RADIO_FSM 3 = false →
      l.head? = some v →
      ∃ t, exec (.laneEstimateUpdate l p) s = .next t ∧ t.rdF (Reg.CAL_LANE 0) 0 24 = fld v 0 24 ∧ t.rdF (Reg.CAL_LANE 0) 24 8 = s.rdF (Reg.CAL_LANE 0) 24 8 ∧ t.rd Reg.CAL_SPUR = word p.val ∧
      OnlyEvents ([Reg.CAL_SPUR, Reg.CAL_LANE 0] ++ eventRegs 112) s t) ∧
    (∀ (l : List Word) (p : Fin 256) (s : State),
      s.bit Reg.CAL_CTRL 2 = false ∨ s.fsm ≠ 3 →
      exec (.laneEstimateUpdate l p) s = .next s) ∧
    (∀ (raw : Int) (s : State),
      s.fsm = 0 →
      s.front.going = none →
      exec (.temperatureEvaluation raw) s = .next s) ∧
    (∀ (raw : Int) (s : State),
      s.fsm ≠ 0 →
      (s.sensorTemp raw - signed 10 (s.rdF Reg.CAL_TEMP 16 10)).natAbs ≤ 4 * s.rdF Reg.CAL_POLICY 0 8 →
      (s.sensorTemp raw - signed 10 (s.rdF Reg.CAL_TEMP 16 10)).natAbs ≤ 4 * s.rdF Reg.CAL_POLICY 8 8 →
      ∃ t, exec (.temperatureEvaluation raw) s = .next t ∧ t.rdF Reg.CAL_TEMP 0 10 = unsigned 10 (s.sensorTemp raw) ∧ OnlyRegs [Reg.CAL_TEMP] s t) ∧
    (∀ (raw : Int) (s : State),
      s.fsm ≠ 0 →
      s.bit Reg.CAL_STATUS 0 = false →
      4 * s.rdF Reg.CAL_POLICY 0 8 < (s.sensorTemp raw - signed 10 (s.rdF Reg.CAL_TEMP 16 10)).natAbs →
      ∃ t, exec (.temperatureEvaluation raw) s = .next t ∧ t.rdF Reg.CAL_TEMP 0 10 = unsigned 10 (s.sensorTemp raw) ∧ t.bit Reg.CAL_STATUS 0 = true ∧ t.pending1 118 = true ∧ t.pending1 113 = true) ∧
    (∀ (c : Instr) (s : State),
      s.bit Reg.CAL_STATUS 0 = false →
      c ∈ [.calRequest, .calForce] →
      ∃ t, exec c s = .next t ∧ t.bit Reg.CAL_STATUS 0 = true ∧ t.rdF Reg.CAL_STATUS 2 3 = 0 ∧ t.pending1 118 = true ∧ t.pending1 113 = true ∧ t.cal.waited = 0 ∧ t.cal.limit = s.rdF Reg.CAL_WAITR 0 16 ∧
      t.bit Reg.CAL_STATUS 5 = (s.bit Reg.CAL_STATUS 5 || (decide (c = .calForce) && !s.bit Reg.PWR_STATUS 0)) ∧ OnlyEvents ([Reg.CAL_STATUS] ++ eventRegs 118) { s with cal := t.cal } t) ∧
    (∀ (s : State),
      s.bit Reg.CAL_STATUS 0 = true →
      exec .calRequest s = .next s ∧ exec .calForce s = .next (if s.bit Reg.PWR_STATUS 0 = true then s else s.setB Reg.CAL_STATUS 5 true)) ∧
    (∀ (s : State),
      s.bit Reg.CAL_STATUS 0 = true →
      s.bit Reg.CAL_STATUS 5 = false →
      s.cal.began = false →
      s.cal.limit ≤ s.cal.waited →
      s.bit Reg.PWR_STATUS 0 = false →
      ∃ t, exec .calWaitExpiry s = .next t ∧ t.bit Reg.CAL_STATUS 5 = true ∧ t.rdF Reg.CAL_COUNT 24 8 = min (s.rdF Reg.CAL_COUNT 24 8 + 1) 255 ∧ OnlyRegs [Reg.CAL_STATUS, Reg.CAL_COUNT] s t) ∧
    (∀ (s : State),
      s.bit Reg.CAL_STATUS 0 = false ∨ s.bit Reg.CAL_STATUS 5 = true ∨ s.cal.began = true ∨ s.cal.waited < s.cal.limit ∨ s.bit Reg.PWR_STATUS 0 = true →
      exec .calWaitExpiry s = .next s) ∧
    (∀ (s : State),
      s.mayCalibrate = true →
      s.bit Reg.CAL_STATUS 5 = false →
      s.gapNow = none →
      0 < s.foliosLeft →
      ∃ t, exec .blackoutGrant s = .next t ∧ t.cal.granted = s.foliosLeft ∧ t.cal.began = true ∧ t.bit Reg.CAL_STATUS 1 = true ∧ t.pending1 79 = true ∧ t.pending1 114 = true ∧
      (s.rdF Reg.CAL_STATUS 2 3 = 0 → t.rdF Reg.CAL_TEMP 16 10 = s.rdF Reg.CAL_TEMP 0 10) ∧ t.front.strobes = s.front.strobes ++ [⟨6, false, false⟩]) ∧
    (∀ (g : Int) (s : State),
      s.mayCalibrate = true →
      s.bit Reg.CAL_STATUS 5 = false →
      s.gapNow = some g →
      g < 12288 →
      exec .blackoutGrant s = .next s) ∧
    (∀ (s : State),
      s.mayCalibrate = false ∨ s.bit Reg.CAL_STATUS 5 = true →
      exec .blackoutGrant s = .next s) ∧
    (∀ (s : State),
      s.mayCalibrate = true →
      s.bit Reg.CAL_STATUS 5 = true →
      s.cal.due = true ∨ s.ticks % s.slotTicks = 0 →
      s.comingOps = [] →
      ∃ t, exec .forcedBlackoutStart s = .next t ∧ t.cal.granted = s.foliosLeft ∧ t.bit Reg.CAL_STATUS 1 = true ∧ t.pending1 114 = true ∧ t.cal.due = false ∧ t.link = s.link ∧
      t.front.strobes = s.front.strobes ++ [⟨6, false, false⟩]) ∧
    (∀ (o : RunOp) (s : State),
      s.mayCalibrate = true →
      s.bit Reg.CAL_STATUS 5 = true →
      s.cal.due = true ∨ s.ticks % s.slotTicks = 0 →
      s.comingOps = [o] →
      since (s.powerUpAt o) (s.chron.now + s.foliosLeft * us 400) < 0 →
      ∃ t, exec .forcedBlackoutStart s = .next t ∧ t.cal.granted = s.foliosLeft ∧ t.bit Reg.CAL_STATUS 1 = true ∧ t.pending1 114 = true ∧
      t.rdF Reg.CAL_COUNT 8 8 = min (s.rdF Reg.CAL_COUNT 8 8 + 1) 255 ∧ t.pending1 78 = true ∧ t.pending1 117 = true) ∧
    (∀ (s : State),
      s.mayCalibrate = false ∨ s.bit Reg.CAL_STATUS 5 = false ∨ (s.cal.due = false ∧ s.ticks % s.slotTicks ≠ 0) →
      exec .forcedBlackoutStart s = .next s) ∧
    (∀ (ok : Bool) (l : List Word) (p : Fin 256) (s : State),
      s.bit Reg.CAL_STATUS 1 = false ∨ s.fsm ≠ 6 ∨ s.front.going.isSome = true →
      exec (.calFolioEnd ok l p) s = .next s) ∧
    (∀ (ok : Bool) (l : List Word) (p : Fin 256) (f : Nat) (s : State),
      s.bit Reg.CAL_STATUS 1 = true →
      s.fsm = 6 →
      s.front.going = none →
      s.rdF Reg.CAL_STATUS 2 3 = f →
      f + 1 < s.folioCount →
      folioAccepted f ok l p = false →
      ∃ t, exec (.calFolioEnd ok l p) s = .next t ∧ t.fsm = 1 ∧ t.pending1 96 = true ∧ t.bit Reg.CAL_STATUS (8 + f) = true ∧ t.rdF Reg.CAL_COUNT 16 8 = min (s.rdF Reg.CAL_COUNT 16 8 + 1) 255 ∧ t.pending1 119 = true ∧ t.pending1 115 = true ∧
      (∀ i < 4, t.rd (Reg.CAL_LANE i) = s.rd (Reg.CAL_LANE i)) ∧ t.cal.results = s.cal.results ∧ t.rdF Reg.CAL_STATUS 2 3 = f + 1 ∧
      t.bit Reg.CAL_STATUS 1 = (!s.bit Reg.PWR_STATUS 0 && decide (1 < s.cal.granted)) ∧
      t.front.strobes = s.front.strobes ++ [⟨if t.bit Reg.CAL_STATUS 1 = true then 6 else 0, false, false⟩]) ∧
    (∀ (l : List Word) (p : Fin 256) (f : Nat) (s : State),
      s.bit Reg.CAL_STATUS 1 = true →
      s.fsm = 6 →
      s.front.going = none →
      s.rdF Reg.CAL_STATUS 2 3 = f →
      f + 1 < s.folioCount →
      folioAccepted f true l p = true →
      ∃ t, exec (.calFolioEnd true l p) s = .next t ∧ t.fsm = 1 ∧ t.pending1 96 = true ∧ t.bit Reg.CAL_STATUS (8 + f) = false ∧ t.pending1 115 = true ∧
      mapGet t.cal.results f = some l ∧ (f = 3 → t.rdF (Reg.CAL_LANE 0) 0 24 = (match l with | [] => s.rdF (Reg.CAL_LANE 0) 0 24 | v :: _ => fld v 0 24)) ∧
      (f = 3 → t.rd Reg.CAL_SPUR = word p.val ∧ t.pending1 120 = true) ∧
      (f ≠ 3 → f ≠ 7 → ∀ i < 4, t.rd (Reg.CAL_LANE i) = s.rd (Reg.CAL_LANE i)) ∧ t.rdF Reg.CAL_STATUS 2 3 = f + 1 ∧
      t.bit Reg.CAL_STATUS 1 = (!s.bit Reg.PWR_STATUS 0 && decide (1 < s.cal.granted)) ∧ t.cal.granted = (if s.bit Reg.PWR_STATUS 0 = true then 0 else s.cal.granted - 1) ∧
      t.front.strobes = s.front.strobes ++ [⟨if t.bit Reg.CAL_STATUS 1 = true then 6 else 0, false, false⟩]) ∧
    (∀ (ok : Bool) (l : List Word) (p : Fin 256) (s : State),
      s.bit Reg.CAL_STATUS 1 = true →
      s.fsm = 6 →
      s.front.going = none →
      s.folioCount ≤ s.rdF Reg.CAL_STATUS 2 3 + 1 →
      ∃ t, exec (.calFolioEnd ok l p) s = .next t ∧ t.pending1 115 = true ∧ t.pending1 116 = true ∧ t.bit Reg.CAL_STATUS 0 = false ∧ t.bit Reg.CAL_STATUS 1 = false ∧ t.bit Reg.CAL_STATUS 5 = false ∧ t.rdF Reg.CAL_STATUS 2 3 = 0 ∧
      t.rdF Reg.CAL_COUNT 0 8 = min (s.rdF Reg.CAL_COUNT 0 8 + 1) 255 ∧ t.cal.granted = 0 ∧ t.cal.began = false ∧ t.fsm = 1 ∧ t.pending1 96 = true ∧
      t.front.strobes = s.front.strobes ++ [⟨0, false, false⟩])

/-- Outside a slot boundary SLOT_BOUNDARY does nothing. At one, without holds of the queue engine to end: SYNC is
cleared, counted and reported by event 73 when LOST has become 1 at a node that is no running anchor; event 64 is
raised where enabled and awake; served operations of past slots are forgotten, the calls are cleared at position 0
and kept elsewhere, and a forced calibration that meets a running operation becomes due at its end. With no
operation due AIROP_START does nothing; a single due one that overlaps no earlier-ranked one starts with a STANDBY
strobe when none runs; a table entry that meets a running operation of no later rank, or one on the air, ends CLASH,
counted, with event 65; a running table entry of later rank that is not on the air yet gives way and ends CLASH
itself. A fabric task starts a WAITING fabric entry and does nothing to another. An entry that ends becomes ENDED,
or WAITING when repeating, with its LINK_OP_ENDED bit, event 65 and, for MISSED, event 78. The model's choices in
it, no rules of the spec: a command whose premise does not hold changes nothing (log entry 13); overlap on estimated
lengths (log entry 35). (11 Running an operation; 11 Slots and channels) -/
def Obligations.SlotsOpenOperationsInTheirOrder : Prop :=
    (∀ (s : State),
      s.ticks % s.slotTicks ≠ 0 →
      exec .slotBoundary s = .next s) ∧
    (∀ (s : State),
      s.ticks % s.slotTicks = 0 →
      s.bit Reg.LINK_STATUS 0 = false ∨ s.lostNow = false →
      s.qe.holds = [] →
      s.bit Reg.LINK_CTRL 1 = true →
      s.asleep = false →
      ∃ t, exec .slotBoundary s = .next t ∧ t.pending1 64 = true ∧ t.link.served = s.link.served.filter (fun p => s.slotNow ≤ p.1) ∧
      (s.position s.slotNow = 0 → t.link.calls = []) ∧ (s.position s.slotNow ≠ 0 → t.link.calls = s.link.calls) ∧
      t.cal.due = (s.cal.due || (s.bit Reg.CAL_STATUS 5 && s.link.run.isSome)) ∧ OnlyEvents (eventRegs 64) { s with link := t.link, cal := t.cal } t) ∧
    (∀ (s : State),
      s.ticks % s.slotTicks = 0 →
      s.bit Reg.LINK_STATUS 0 = false ∨ s.lostNow = false →
      s.qe.holds = [] →
      s.bit Reg.LINK_CTRL 1 = false ∨ s.asleep = true →
      ∃ t, exec .slotBoundary s = .next t ∧ t = { s with link := t.link, cal := t.cal }) ∧
    (∀ (s : State),
      s.ticks % s.slotTicks = 0 →
      s.bit Reg.LINK_STATUS 0 = true →
      s.lostNow = true →
      s.qe.holds = [] →
      ∃ t, exec .slotBoundary s = .next t ∧ t.bit Reg.LINK_STATUS 0 = false ∧ t.rdF Reg.LINK_COUNT_MESH 16 8 = min (s.rdF Reg.LINK_COUNT_MESH 16 8 + 1) 255 ∧ t.pending1 73 = true) ∧
    (∀ (s : State),
      s.bit Reg.LINK_STATUS 0 = false ∨ s.lostNow = false →
      (s.opsFrom s.ticks 2).filter (fun o => s.reached (s.powerUpAt o)) = [] →
      exec .airopStart s = .next s) ∧
    (∀ (o : RunOp) (s : State),
      s.bit Reg.LINK_STATUS 0 = false ∨ s.lostNow = false →
      (s.opsFrom s.ticks 2).filter (fun o => s.reached (s.powerUpAt o)) = [o] →
      s.link.run = none →
      (s.opsFrom s.ticks 2).any (fun x => decide (x.ref.rank < o.ref.rank) && s.overlap x o) = false →
      ∃ t, exec .airopStart s = .next t ∧ t.link.run = some o ∧ t.link.served = s.link.served ++ [(o.slot, o.ref)] ∧ t.front.strobes = s.front.strobes ++ [⟨1, s.chan24 o.chan, s.chan24 o.chan⟩] ∧
      OnlyRegs [Reg.LINK_STATUS] { s with link := t.link, front := { s.front with strobes := t.front.strobes } } t) ∧
    (∀ (o : RunOp) (k : Nat) (s : State),
      s.bit Reg.LINK_STATUS 0 = false ∨ s.lostNow = false →
      (s.opsFrom s.ticks 2).filter (fun o => s.reached (s.powerUpAt o)) = [o] →
      s.link.run.isSome = true →
      (∀ r ∈ s.link.run, r.ref.rank ≤ o.ref.rank ∨ (r.phase ≠ .power ∧ r.phase ≠ .ready)) →
      o.ref = .table k →
      k < 32 →
      (s.airOp k).state ≠ 0 →
      ∃ t, exec .airopStart s = .next t ∧ (t.airOp k).result = 9 ∧ t.link.run = s.link.run ∧ t.rdF Reg.LINK_COUNT_TX 24 8 = min (s.rdF Reg.LINK_COUNT_TX 24 8 + 1) 255 ∧ t.pending1 65 = true ∧ t.bit Reg.LINK_OP_ENDED k = true) ∧
    (∀ (o r : RunOp) (k : Nat) (s : State),
      s.bit Reg.LINK_STATUS 0 = false ∨ s.lostNow = false →
      (s.opsFrom s.ticks 2).filter (fun o => s.reached (s.powerUpAt o)) = [o] →
      (s.opsFrom s.ticks 2).any (fun x => decide (x.ref.rank < o.ref.rank) && s.overlap x o) = false →
      s.link.run = some r →
      r.ref = .table k →
      k < 32 →
      o.ref.rank < 3 + k →
      r.phase = .power ∨ r.phase = .ready →
      ∃ t, exec .airopStart s = .next t ∧ t.link.run = some o ∧ (t.airOp k).result = 9 ∧ t.rdF Reg.LINK_COUNT_TX 24 8 = min (s.rdF Reg.LINK_COUNT_TX 24 8 + 1) 255 ∧
      t.pending1 65 = true ∧ t.bit Reg.LINK_OP_ENDED k = true) ∧
    (∀ (k : Fin 32) (s : State),
      (s.airOp k).fabric = true →
      (s.airOp k).state = 1 →
      ∃ t, exec (.airopFabricTask k) s = .next t ∧ t.airOp k = { s.airOp k with started := true } ∧ (∀ j, j ≠ k.val → t.airOp j = s.airOp j)) ∧
    (∀ (k : Fin 32) (s : State),
      (s.airOp k).fabric = false ∨ (s.airOp k).state ≠ 1 →
      exec (.airopFabricTask k) s = .next s) ∧
    (∀ (k : Fin 32) (r : Nat) (s : State),
      ((s.endAirOp k r).airOp k).state = (if (s.airOp k).repeat_ = true then 1 else 3) ∧ ((s.endAirOp k r).airOp k).result = r ∧ (s.endAirOp k r).bit Reg.LINK_OP_ENDED k = true ∧
      (s.endAirOp k r).pending1 65 = true ∧ (r = 6 → (s.endAirOp k r).pending1 78 = true) ∧ (r ≠ 6 → (s.endAirOp k r).pending1 78 = s.pending1 78))

/-- SUBMIT: with code 0 the entry of LINK_OPD0 to 3 becomes WAITING at the lowest FREE index, every other entry is kept,
and the code, command, index and master are recorded; a refusal records its code alone, OPS_FULL being remembered.
CANCEL moves a WAITING entry to ENDED with CANCELLED, answers TOO_LATE for an ACTIVE one and NOT_WAITING for others.
RELEASE moves an ENDED entry to FREE, raising event 88 after an OPS_FULL, and answers OK for a FREE one and
STILL_OPEN for the others. The locked debug master gets an error response. Neighbour table: ADD of LINK_NBR_DATA
with an absent queue answers NBR_BADQ and changes nothing else; with room the entry stands at its address's index or
at the lowest free one; a full table refuses with NBR_FULL, counted, event 77. READ by address or by index shows the
entry's 32 bytes in LINK_NBR_DATA or answers that there is none. REMOVE takes the entry of an address out and leaves
every other entry. Each records the entries in use. The model's choices in it, no rules of the spec: a locked debug
master gets an error response and no slip (log entry 25). (11 Air-operation table; 11 Operation command codes; 11
Neighbour table; 11 Neighbour entry) -/
def Obligations.OperationAndNeighbourCommandsActOnTheirTables : Prop :=
    (∀ (c : Instr) (m : Master) (k : Fin 32) (s : State),
      s.locked m = true →
      c ∈ [.linkOpSubmit m, .linkOpCancel m k, .linkOpRelease m k] →
      exec c s = .next s.answerError) ∧
    (∀ (m : Master) (k : Nat) (s : State),
      s.locked m = false →
      s.submitCode s.opOfRegs = 0 →
      k < 32 →
      (s.airOp k).state = 0 →
      (∀ j < k, (s.airOp j).state ≠ 0) →
      ∃ t, exec (.linkOpSubmit m) s = .next t ∧ t.rd Reg.LINK_OP_RESULT = word (0 + 0 * 16 + k * 256 + masterId m * 65536) ∧ t.airOp k = s.opOfRegs ∧ (∀ j, j ≠ k → t.airOp j = s.airOp j) ∧
      OnlyRegs [Reg.LINK_OP_RESULT, Reg.LINK_STATUS] { s with link := { s.link with ops := t.link.ops } } t) ∧
    (∀ (m : Master) (s : State),
      s.locked m = false →
      s.submitCode s.opOfRegs = 1 →
      ∃ t, exec (.linkOpSubmit m) s = .next t ∧ t.rd Reg.LINK_OP_RESULT &&& 0xFFFFE0FF = word (1 + masterId m * 65536) ∧ OnlyRegs [Reg.LINK_OP_RESULT] { s with link := { s.link with opsFull := true }, freeCtr := t.freeCtr } t) ∧
    (∀ (m : Master) (s : State),
      s.locked m = false →
      2 ≤ s.submitCode s.opOfRegs →
      ∃ t, exec (.linkOpSubmit m) s = .next t ∧ t.rd Reg.LINK_OP_RESULT &&& 0xFFFFE0FF = word (s.submitCode s.opOfRegs + masterId m * 65536) ∧ OnlyRegs [Reg.LINK_OP_RESULT] { s with freeCtr := t.freeCtr } t) ∧
    (∀ (m : Master) (k : Fin 32) (s : State),
      s.locked m = false →
      (s.airOp k).state = 1 →
      ∃ t, exec (.linkOpCancel m k) s = .next t ∧ t.rd Reg.LINK_OP_RESULT = word (0 + 1 * 16 + k.val * 256 + masterId m * 65536) ∧ t.airOp k = { s.airOp k with state := 3, result := 7 } ∧ (∀ j, j ≠ k.val → t.airOp j = s.airOp j) ∧
      OnlyRegs [Reg.LINK_OP_RESULT, Reg.LINK_STATUS] { s with link := { s.link with ops := t.link.ops } } t) ∧
    (∀ (m : Master) (k : Fin 32) (s : State),
      s.locked m = false →
      (s.airOp k).state ≠ 1 →
      ∃ t, exec (.linkOpCancel m k) s = .next t ∧ t.rd Reg.LINK_OP_RESULT = word ((if (s.airOp k).state = 2 then 6 else 5) + 1 * 16 + k.val * 256 + masterId m * 65536) ∧ OnlyRegs [Reg.LINK_OP_RESULT] s t) ∧
    (∀ (m : Master) (k : Fin 32) (s : State),
      s.locked m = false →
      (s.airOp k).state = 3 →
      ∃ t, exec (.linkOpRelease m k) s = .next t ∧ t.rd Reg.LINK_OP_RESULT = word (0 + 2 * 16 + k.val * 256 + masterId m * 65536) ∧ t.airOp k = {} ∧ (∀ j, j ≠ k.val → t.airOp j = s.airOp j) ∧ t.link.opsFull = false ∧
      (s.link.opsFull = true → t.pending1 88 = true) ∧ OnlyEvents ([Reg.LINK_OP_RESULT, Reg.LINK_STATUS] ++ eventRegs 88) { s with link := { s.link with ops := t.link.ops, opsFull := false } } t) ∧
    (∀ (m : Master) (k : Fin 32) (s : State),
      s.locked m = false →
      (s.airOp k).state ≠ 3 →
      ∃ t, exec (.linkOpRelease m k) s = .next t ∧ t.rd Reg.LINK_OP_RESULT = word ((if (s.airOp k).state = 0 then 0 else 7) + 2 * 16 + k.val * 256 + masterId m * 65536) ∧ OnlyRegs [Reg.LINK_OP_RESULT] s t) ∧
    (∀ (s : State),
      s.queueOk (nbrOf ((List.range 8).flatMap (fun j => leBytes 4 (s.rd (Reg.LINK_NBR_DATA j)).toNat))).queue = false →
      ∃ t, exec .nbrAdd s = .next t ∧ t.rd Reg.LINK_NBR_RESULT = word (3 + s.link.nbr.length * 65536) ∧ OnlyRegs [Reg.LINK_NBR_RESULT] s t) ∧
    (∀ (n : Nbr) (i : Nat) (s : State),
      n = (nbrOf ((List.range 8).flatMap (fun j => leBytes 4 (s.rd (Reg.LINK_NBR_DATA j)).toNat))) →
      s.queueOk n.queue = true →
      s.nbrAt n.addr = none →
      i < s.nbrCapacity →
      mapGet s.link.nbr i = none →
      (∀ j < i, mapGet s.link.nbr j ≠ none) →
      ∃ t, exec .nbrAdd s = .next t ∧ mapGet t.link.nbr i = some n ∧ (∀ j, j ≠ i → mapGet t.link.nbr j = mapGet s.link.nbr j) ∧ t.rd Reg.LINK_NBR_RESULT = word (0 + t.link.nbr.length * 65536) ∧
      OnlyRegs [Reg.LINK_NBR_RESULT, Reg.LINK_PARENT, Reg.LINK_STATUS] { s with link := { s.link with nbr := t.link.nbr } } t) ∧
    (∀ (n e : Nbr) (i : Nat) (s : State),
      n = (nbrOf ((List.range 8).flatMap (fun j => leBytes 4 (s.rd (Reg.LINK_NBR_DATA j)).toNat))) →
      s.queueOk n.queue = true →
      s.nbrAt n.addr = some (i, e) →
      ∃ t, exec .nbrAdd s = .next t ∧ mapGet t.link.nbr i = some n ∧ (∀ j, j ≠ i → mapGet t.link.nbr j = mapGet s.link.nbr j) ∧ t.rd Reg.LINK_NBR_RESULT = word (0 + t.link.nbr.length * 65536) ∧
      OnlyRegs [Reg.LINK_NBR_RESULT, Reg.LINK_PARENT, Reg.LINK_STATUS] { s with link := { s.link with nbr := t.link.nbr } } t) ∧
    (∀ (n : Nbr) (s : State),
      n = (nbrOf ((List.range 8).flatMap (fun j => leBytes 4 (s.rd (Reg.LINK_NBR_DATA j)).toNat))) →
      s.queueOk n.queue = true →
      s.nbrAt n.addr = none →
      (∀ j < s.nbrCapacity, mapGet s.link.nbr j ≠ none) →
      ∃ t, exec .nbrAdd s = .next t ∧ t.rd Reg.LINK_NBR_RESULT = word (1 + s.link.nbr.length * 65536) ∧ t.rdF Reg.LINK_COUNT_MESH 8 8 = min (s.rdF Reg.LINK_COUNT_MESH 8 8 + 1) 255 ∧ t.pending1 77 = true ∧ OnlyEvents ([Reg.LINK_NBR_RESULT, Reg.LINK_COUNT_MESH] ++ eventRegs 77) s t) ∧
    (∀ (k : Fin 65536) (i : Nat) (n : Nbr) (s : State),
      s.nbrAt k.val = some (i, n) →
      ∃ t, exec (.nbrRead k) s = .next t ∧ t.rd Reg.LINK_NBR_RESULT = word (0 + s.link.nbr.length * 65536) ∧ (∀ j < 8, t.rd (Reg.LINK_NBR_DATA j) = word (field (nbrBytes n) (4 * j) 4)) ∧ OnlyRegs (Reg.LINK_NBR_RESULT :: (List.range 8).map Reg.LINK_NBR_DATA) s t) ∧
    (∀ (k : Fin 65536) (n : Nbr) (s : State),
      mapGet s.link.nbr k = some n →
      ∃ t, exec (.nbrReadIdx k) s = .next t ∧ t.rd Reg.LINK_NBR_RESULT = word (0 + s.link.nbr.length * 65536) ∧ (∀ j < 8, t.rd (Reg.LINK_NBR_DATA j) = word (field (nbrBytes n) (4 * j) 4)) ∧ OnlyRegs (Reg.LINK_NBR_RESULT :: (List.range 8).map Reg.LINK_NBR_DATA) s t) ∧
    (∀ (k : Fin 65536) (s : State),
      mapGet s.link.nbr k = none →
      ∃ t, exec (.nbrReadIdx k) s = .next t ∧ t.rd Reg.LINK_NBR_RESULT = word (2 + s.link.nbr.length * 65536) ∧ OnlyRegs [Reg.LINK_NBR_RESULT] s t) ∧
    (∀ (c : Instr) (k : Fin 65536) (s : State),
      s.nbrAt k.val = none →
      c ∈ [.nbrRead k, .nbrRemove k] →
      ∃ t, exec c s = .next t ∧ t.rd Reg.LINK_NBR_RESULT = word (2 + s.link.nbr.length * 65536) ∧ OnlyRegs [Reg.LINK_NBR_RESULT] s t) ∧
    (∀ (k : Fin 65536) (i : Nat) (n : Nbr) (s : State),
      s.nbrAt k.val = some (i, n) →
      ∃ t, exec (.nbrRemove k) s = .next t ∧ mapGet t.link.nbr i = none ∧ (∀ j, j ≠ i → mapGet t.link.nbr j = mapGet s.link.nbr j) ∧ t.rd Reg.LINK_NBR_RESULT = word (0 + t.link.nbr.length * 65536) ∧
      OnlyRegs [Reg.LINK_NBR_RESULT, Reg.LINK_PARENT, Reg.LINK_STATUS] { s with link := { s.link with nbr := t.link.nbr } } t)

/-- The unsecured head frame of a called queue goes on the air under its table with its CRC when not LOST, in TX, of
fitting length and within the budget; for a table entry an empty queue ends the operation EMPTY, a lost time
NOT_SYNCED, and a front die not in TX leaves it missed. A listen in RX that meets LBT_THRESH refuses and counts, a
clear one makes the operation ready, each with the power in RADIO_RSSI; with the front die not in RX the operation
is missed. A transmission's end raises event 103; where an acknowledgement was requested the operation waits for it,
else a sequence operation ends. An acknowledgement of the awaited SEQ raises 68 and 67, ends the call and clears its
retries, another changes nothing; its absence counts a retry, exhausts the frame of a call with event 69, or ends an
entry NO_ACK. Buckets advance when their window has passed. A window with no stage 1 ends, a table entry's NO_FRAME,
or OK where frames came. The model's choices in it, no rules of the spec: a command whose premise does not hold
changes nothing (log entry 13); the corners of the link sequence (log entry 34). (11 Regional budgets and LBT; 11
Calls, retries and acknowledgements; 11 Table of t0 to t3) -/
def Obligations.TransmissionsListenAreChargedAndAcknowledged : Prop :=
    (∀ (s : State),
      s.link.run = none →
      exec .transmissionOpen s = .next s) ∧
    (∀ (o : RunOp) (q : Nat) (p : QRes) (bytes : List Byte) (s : State),
      s.link.run = some o →
      o.ref = .call q →
      s.mayOpen o = true →
      s.lostNow = false →
      s.fsm = 4 →
      s.chanGen2 o.chan = true →
      p = s.qeNow 1 { cmd := 3, queue := q } →
      p.status = 0 →
      bytes = p.s.frameBytes (p.word1 % 65536) →
      bytes.length ≤ 2043 →
      (parseMac bytes).sec = false →
      p.s.budgetShort (s.chanBand o.chan) (airTime true (p.s.txTable (p.s.callee (parseMac bytes).dst)).2 (bytes.length + 4)) = false →
      ∃ t, exec .transmissionOpen s = .next t ∧ t.front.tx.isSome = true ∧ (∀ f ∈ t.front.tx, f.gen2 = true ∧ f.psdu = bytes ++ leBytes 4 (crc32 bytes) ∧
      f.header = mkHeader (parseMac bytes).type (p.s.txTable (p.s.callee (parseMac bytes).dst)).1 (bytes.length + 4) (parseMac bytes).chorus 0) ∧ t.pending1 102 = true ∧
      t.link.run = some { o with phase := .onAir, seq := (parseMac bytes).seq, ackReq := (parseMac bytes).ackReq }) ∧
    (∀ (o : RunOp) (k : Nat) (s : State),
      s.link.run = some o →
      o.ref = .table k →
      k < 32 →
      (s.airOp k).kind = 2 →
      s.mayOpen o = true →
      s.lostNow = true →
      s.bit Reg.LINK_STATUS 0 = false ∨ s.lostNow = false →
      ∃ t, exec .transmissionOpen s = .next t ∧ t.link.run = none ∧ (t.airOp k).result = 10 ∧ t.pending1 65 = true ∧ t.front.tx = s.front.tx) ∧
    (∀ (o : RunOp) (k : Nat) (s : State),
      s.link.run = some o →
      o.ref = .table k →
      k < 32 →
      (s.airOp k).kind = 2 →
      s.mayOpen o = true →
      s.lostNow = false →
      s.fsm ≠ 4 →
      ∃ t, exec .transmissionOpen s = .next t ∧ t.link.run = none ∧ (t.airOp k).result = 6 ∧ t.pending1 78 = true ∧ t.pending1 65 = true ∧ t.rdF Reg.LINK_COUNT_TX 16 8 = min (s.rdF Reg.LINK_COUNT_TX 16 8 + 1) 255) ∧
    (∀ (o : RunOp) (k : Nat) (s : State),
      s.link.run = some o →
      o.ref = .table k →
      k < 32 →
      (s.airOp k).kind = 2 →
      s.mayOpen o = true →
      s.lostNow = false →
      s.fsm = 4 →
      s.qeOn = true →
      s.queueOk (s.airOp k).addr = true →
      (s.qd (s.airOp k).addr).depth = 0 →
      ∃ t, exec .transmissionOpen s = .next t ∧ t.link.run = none ∧ (t.airOp k).result = 8 ∧ t.front.tx = s.front.tx) ∧
    (∀ (o : RunOp) (s : State),
      s.link.run = some o →
      s.mayOpen o = false →
      exec .transmissionOpen s = .next s) ∧
    (∀ (o : RunOp) (p : Int) (s : State),
      s.link.run = some o →
      s.listens o = true →
      o.phase = .power →
      s.fsm = 3 →
      p < 2 * s.bandThresh (s.chanBand o.chan) →
      exec (.lbtListenEnd p) s = .next { s.wr Reg.RADIO_RSSI (word (unsigned 9 p)) with link := { s.link with run := some { o with phase := .ready } } }) ∧
    (∀ (o : RunOp) (p : Int) (s : State),
      s.link.run = some o →
      s.listens o = true →
      o.phase = .power →
      s.fsm ≠ 3 →
      o.ref ∈ [OpRef.beacon, .relay, .join] →
      ∃ t, exec (.lbtListenEnd p) s = .next t ∧ t.link.run = none ∧ t.rdF Reg.LINK_COUNT_TX 16 8 = min (s.rdF Reg.LINK_COUNT_TX 16 8 + 1) 255 ∧ t.pending1 78 = true) ∧
    (∀ (o : RunOp) (p : Int) (s : State),
      s.link.run = some o →
      s.listens o = true →
      o.phase = .power →
      s.fsm = 3 →
      2 * s.bandThresh (s.chanBand o.chan) ≤ p →
      o.ref ∈ [OpRef.beacon, .relay, .join] →
      ∃ t, exec (.lbtListenEnd p) s = .next t ∧ t.rdF (Reg.LINK_BAND_CNT (s.chanBand o.chan)) 16 16 = min (s.rdF (Reg.LINK_BAND_CNT (s.chanBand o.chan)) 16 16 + 1) 65535 ∧
      t.rd Reg.RADIO_RSSI = word (unsigned 9 p) ∧
      OnlyRegs [Reg.LINK_BAND_CNT (s.chanBand o.chan), Reg.RADIO_RSSI] { s with link := { s.link with run := none } } t) ∧
    (∀ (p : Int) (s : State),
      s.link.run = none ∨ (∀ o ∈ s.link.run, s.listens o = false) →
      exec (.lbtListenEnd p) s = .next s) ∧
    (∀ (s : State),
      s.front.tx = none →
      exec .transmitEnded s = .next s) ∧
    (∀ (f : AirFrame) (o : RunOp) (s : State),
      s.front.tx = some f →
      s.link.run = some o →
      o.phase = .onAir →
      o.ackReq = true →
      ∃ t, exec .transmitEnded s = .next t ∧ t.pending1 103 = true ∧ OnlyEvents (eventRegs 103) { s with front := { s.front with tx := none }, link := { s.link with run := some { o with phase := .ackWait } } } t) ∧
    (∀ (f : AirFrame) (s : State),
      s.front.tx = some f →
      s.link.run = none →
      ∃ t, exec .transmitEnded s = .next t ∧ t.pending1 103 = true ∧ OnlyEvents (eventRegs 103) { s with front := { s.front with tx := none } } t) ∧
    (∀ (f : AirFrame) (o : RunOp) (s : State),
      s.front.tx = some f →
      s.link.run = some o →
      o.phase = .onAir →
      o.ackReq = false →
      o.ref ∈ [OpRef.beacon, .relay, .join] →
      ∃ t, exec .transmitEnded s = .next t ∧ t.pending1 103 = true ∧ OnlyEvents (eventRegs 103) { s with front := { s.front with tx := none }, link := { s.link with run := none } } t) ∧
    (∀ (o : RunOp) (q : Nat) (n : Fin 65536) (s : State),
      s.link.run = some o →
      o.ref = .call q →
      o.phase = .ackWait →
      o.seq = n.val →
      s.qeWaits 1 { cmd := 2, queue := q } = false →
      (s.qeNow 1 { cmd := 2, queue := q }).status = 0 →
      ∃ t, exec (.ackReceived n) s = .next t ∧ t.link.run = none ∧ t.pending1 68 = true ∧ t.pending1 67 = true ∧ mapGet t.link.retries q = none) ∧
    (∀ (n : Fin 65536) (s : State),
      (∀ o ∈ s.link.run, o.phase ≠ .ackWait ∨ o.seq ≠ n.val) →
      exec (.ackReceived n) s = .next s) ∧
    (∀ (o : RunOp) (q : Nat) (s : State),
      s.link.run = some o →
      o.ref = .call q →
      o.phase = .ackWait →
      (mapGet s.link.retries q).getD 0 < s.retryMax →
      ∃ t, exec .ackTimeout s = .next t ∧ mapGet t.link.retries q = some ((mapGet s.link.retries q).getD 0 + 1) ∧ t = { s with link := { s.link with run := none, retries := t.link.retries } }) ∧
    (∀ (o : RunOp) (q : Nat) (s : State),
      s.link.run = some o →
      o.ref = .call q →
      o.phase = .ackWait →
      s.retryMax ≤ (mapGet s.link.retries q).getD 0 →
      ∃ t, exec .ackTimeout s = .next t ∧ t.link.run = none ∧ t.pending1 69 = true ∧ t.rdF Reg.LINK_LAST 0 16 = q % 65536 ∧ mapGet t.link.retries q = none) ∧
    (∀ (o : RunOp) (k : Nat) (s : State),
      s.link.run = some o →
      o.ref = .table k →
      k < 32 →
      o.phase = .ackWait →
      ∃ t, exec .ackTimeout s = .next t ∧ t.link.run = none ∧ (t.airOp k).result = 3 ∧ t.pending1 65 = true) ∧
    (∀ (s : State),
      (∀ o ∈ s.link.run, o.phase ≠ .ackWait) →
      exec .ackTimeout s = .next s) ∧
    (∀ (b : Fin 8) (s : State),
      b.val < s.bandCount →
      s.bandFld b 12 2 * 1875 ≤ (mapGet s.link.bandTicks b).getD 0 →
      ∃ t, exec (.budgetBucketAdvance b) s = .next t ∧ t.buckets b = (s.buckets b).drop 1 ++ [0] ∧ t.rd (Reg.LINK_BAND_USED b) = word ((s.buckets b).drop 1).sum ∧ mapGet t.link.bandTicks b = none) ∧
    (∀ (b : Fin 8) (s : State),
      s.bandCount ≤ b.val ∨ (mapGet s.link.bandTicks b).getD 0 < s.bandFld b 12 2 * 1875 →
      exec (.budgetBucketAdvance b) s = .next s) ∧
    (∀ (o : RunOp) (s : State),
      s.rxRun = some o →
      s.front.stage = 0 →
      s.reached (o.openAt + s.windowTail o) = true →
      ∃ t, exec .receiveWindowClose s = .next t ∧ t.link.run = none ∧
      (∀ k < 32, o.ref = .table k → ((t.airOp k).result = (if o.phase = .ready then 1 else 2) ∧ t.pending1 65 = true))) ∧
    (∀ (s : State),
      s.rxRun = none ∨ s.front.stage ≠ 0 →
      exec .receiveWindowClose s = .next s)

/-- A running anchor's beacon at its instant in TX goes on the air with events 72 and 102, or is refused by the budget
with event 70; at a node that is no anchor and has no SYNC it ends unsent. An unsecured beacon of the branch from
the sync parent, new by its SEQ, is captured with event 71, its announcements are taken, and SYNC is set where it is
applied; one of another branch, or at a running anchor, only updates its sender's entry, one of an unknown sender
outside a SCAN not even that; a frame of another type changes nothing. A join frame that is sent waits RETRY_MAX + 1
periods, one refused by the budget takes no SEQ; the end of the wait draws a backoff of 0 to 7. A chorus copy that
is sent is remembered and counted. An ASSIGN for this part's UID sets address and JOINED, one for another changes
nothing; LT_SET stores a good table, LT_USE sets LT_TX; a write of LINK_FCNTk sets it, marks it written and leaves
FCNT_END 1 only at its end value. The model's choices in it, no rules of the spec: a command whose premise does not
hold changes nothing (log entry 13); the corners of the link sequence (log entry 34). (11 Beacons and
synchronisation; 11 Joining; 11 Chorus floods; 11 MAC commands) -/
def Obligations.BeaconsFloodsAndJoinsFollowTheSequence : Prop :=
    (∀ (o : RunOp) (s : State),
      s.link.run = some o →
      o.ref = .beacon →
      s.mayOpen o = true →
      s.anchorRuns = true →
      s.fsm = 4 →
      ∃ t, exec .beaconSend s = .next t ∧ ((t.link.run = none ∧ t.pending1 70 = true) ∨ (t.link.run = some { o with phase := .onAir } ∧ t.front.tx.isSome = true ∧ t.pending1 72 = true ∧ t.pending1 102 = true))) ∧
    (∀ (o : RunOp) (s : State),
      s.link.run = some o →
      o.ref = .beacon →
      s.mayOpen o = true →
      s.isAnchor = false →
      s.linkSync = false →
      s.bit Reg.LINK_STATUS 0 = false →
      exec .beaconSend s = .next { s with link := { s.link with run := none } }) ∧
    (∀ (s : State),
      (∀ o ∈ s.link.run, o.ref ≠ .beacon ∨ s.mayOpen o = false) →
      exec .beaconSend s = .next s) ∧
    (∀ (l : List Byte) (r : Nat) (s : State),
      (parseMac l).type ≠ 0 →
      exec (.beaconAccepted l r) s = .next s) ∧
    (∀ (l : List Byte) (r : Nat) (e : Nbr) (s : State),
      (parseMac l).type = 0 →
      (parseMac l).sec = false →
      s.rxRun = none →
      ((s.nbrAt (parseMac l).src).bind (fun p => seqWindow p.2 (parseMac l).seq)) = some e →
      ((s.updNbr (parseMac l).src (fun _ => { e with depth := field (parseMac l).body 10 1 })).noteParent.parent.map (fun n => n.addr)) = some (parseMac l).src →
      field (parseMac l).body 8 2 = s.branch →
      s.anchorRuns = false →
      ∃ t, exec (.beaconAccepted l r) s = .next t ∧ t.pending1 71 = true ∧ t.link.heard = some (beaconInfo (parseMac l).src (s.periodOf s.slotNow) (parseMac l).body) ∧
      t.bit Reg.LINK_STATUS 0 = (s.bit Reg.LINK_STATUS 0 || s.beaconApplies (field (parseMac l).body 0 8 % 2 ^ 58) (instant r))) ∧
    (∀ (l : List Byte) (r : Nat) (e : Nbr) (s : State),
      (parseMac l).type = 0 →
      (parseMac l).sec = false →
      s.rxRun = none →
      ((s.nbrAt (parseMac l).src).bind (fun p => seqWindow p.2 (parseMac l).seq)) = some e →
      field (parseMac l).body 8 2 ≠ s.branch ∨ s.anchorRuns = true →
      ∃ t, exec (.beaconAccepted l r) s = .next t ∧
      OnlyRegs [Reg.LINK_PARENT, Reg.LINK_STATUS] (s.updNbr (parseMac l).src (fun _ => { e with depth := field (parseMac l).body 10 1 })) t) ∧
    (∀ (l : List Byte) (r : Nat) (s : State),
      (parseMac l).type = 0 →
      (parseMac l).sec = false →
      s.rxRun = none →
      s.nbrAt (parseMac l).src = none →
      ∃ t, exec (.beaconAccepted l r) s = .next t ∧ OnlyRegs [Reg.LINK_PARENT, Reg.LINK_STATUS] s t) ∧
    (∀ (o : RunOp) (s : State),
      s.link.run = some o →
      o.ref = .join →
      s.mayOpen o = true →
      s.lostNow = false →
      s.fsm = 4 →
      ∃ t, exec .joinSend s = .next t ∧ ((t.link.run = none ∧ t.pending1 70 = true ∧ t.link.join = s.link.join ∧ t.link.seq = s.link.seq) ∨
      (t.link.seq = (s.link.seq + 1) % 65536 ∧ t.link.run = some { o with phase := .onAir } ∧ t.front.tx.isSome = true ∧ t.link.join = { backoff := none, waiting := some (s.retryMax + 1) }))) ∧
    (∀ (s : State),
      (∀ o ∈ s.link.run, o.ref ≠ .join ∨ s.mayOpen o = false) →
      exec .joinSend s = .next s) ∧
    (∀ (s : State),
      s.link.join.waiting = some 0 →
      s.bit Reg.LINK_STATUS 2 = false →
      ∃ t, exec .joinRetry s = .next t ∧ t.link.join.waiting = none ∧ t.link.join.backoff.isSome = true ∧ (∀ k ∈ t.link.join.backoff, k < 8) ∧
      t = { s with freeCtr := t.freeCtr, link := { s.link with join := t.link.join } }) ∧
    (∀ (s : State),
      s.link.join.waiting ≠ some 0 ∨ s.bit Reg.LINK_STATUS 2 = true →
      exec .joinRetry s = .next s) ∧
    (∀ (o : RunOp) (r : RelayFrame) (s : State),
      s.link.run = some o →
      o.ref = .relay →
      s.mayOpen o = true →
      s.lostNow = false →
      s.fsm = 4 →
      s.link.relays = [r] →
      r.openAt = o.openAt →
      ∃ t, exec .floodRelay s = .next t ∧ t.link.relays = [] ∧ ((t.link.run = none ∧ t.pending1 70 = true) ∨ (t.link.run = some { o with phase := .onAir } ∧ t.front.tx.isSome = true ∧ t.link.recent.length ≤ 8 ∧
      ((parseMac (r.psdu.take (r.psdu.length - 4))).src, (parseMac (r.psdu.take (r.psdu.length - 4))).seq) ∈ t.link.recent ∧ t.rdF Reg.LINK_COUNT_MESH 24 8 = min (s.rdF Reg.LINK_COUNT_MESH 24 8 + 1) 255))) ∧
    (∀ (s : State),
      (∀ o ∈ s.link.run, o.ref ≠ .relay ∨ s.mayOpen o = false) →
      exec .floodRelay s = .next s) ∧
    (∀ (src : Fin 65536) (body : List Byte) (s : State),
      field body 0 1 = 1 →
      ((body.drop 1).take 8 ≠ uidBytes → exec (.macAssign src body) s = .next s) ∧
      ((body.drop 1).take 8 = uidBytes → ∃ t, exec (.macAssign src body) s = .next t ∧ t.rdF Reg.LINK_ADDR 0 16 = field body 9 2 ∧ t.rdF Reg.LINK_ADDR 16 16 = field body 11 2 ∧ t.bit Reg.LINK_STATUS 2 = true ∧ t.link.join = {})) ∧
    (∀ (src : Fin 65536) (body : List Byte) (s : State),
      field body 0 1 ≠ 1 →
      exec (.macAssign src body) s = .next s) ∧
    (∀ (src : Fin 65536) (body : List Byte) (i : Nat) (s : State),
      field body 0 1 = 2 →
      i = field body 1 2 % 1024 →
      i ≠ 0 →
      LoadTable.ok { rate := (field body 1 2).testBit 15, data := field body 3 36 } = true →
      s.link.lts.length < s.ltsCapacity →
      ∃ t, exec (.macLtSet src body) s = .next t ∧ mapGet t.link.lts i = some { rate := (field body 1 2).testBit 15, data := field body 3 36 } ∧ t = { s with link := { s.link with lts := t.link.lts } }) ∧
    (∀ (src : Fin 65536) (body : List Byte) (s : State),
      field body 0 1 ≠ 2 ∨ field body 1 2 % 1024 = 0 →
      exec (.macLtSet src body) s = .next s) ∧
    (∀ (src : Fin 65536) (body : List Byte) (s : State),
      field body 0 1 = 3 →
      exec (.macLtUse src body) s = .next (s.updNbr src.val (fun n => { n with lt := field body 1 2 % 1024 }))) ∧
    (∀ (src : Fin 65536) (body : List Byte) (s : State),
      field body 0 1 ≠ 3 →
      exec (.macLtUse src body) s = .next s) ∧
    (∀ (k : Fin 2) (v : Word) (s : State),
      ∃ t, exec (.linkFcntWrite k v) s = .next t ∧ t.rd (Reg.LINK_FCNT0 + 4 * k) = v ∧ t.bit Reg.LINK_KEYMAP (24 + k) = true ∧ t.bit Reg.LINK_KEYMAP (26 + k) = decide (v = 0xFFFFFFFF) ∧ OnlyRegs [Reg.LINK_FCNT0 + 4 * k, Reg.LINK_KEYMAP] s t)

/-- For each of the seven commands on each port, alone in its cycle: with all 64 tags held it is refused with FULL, only
QE_COUNT counting; with the engine off it is refused with OFF; otherwise the lowest free tag is held, the command's
effect happens and its completion with status and word 1 is queued, or the command waits for a bank not yet
restored. On the CPU port QE_CPU_ACCEPT records code, tag, master and the next SEQ. In sleep none is taken. Of two
ENQUEUEs that two ports submit in one cycle the order of arrival decides nothing, and an ENQUEUE beside a FLUSH of
its empty queue completes FLUSHED after it and its cells are free. A posted completion enters its port's ring; a
consumer index that does not pass PI frees the tags it passes, and one that does is ignored. A locked debug master
gets an error response. The model's choices in it, no rules of the spec: a command whose premise does not hold
changes nothing (log entry 13); a locked debug master gets an error response and no slip (log entry 25); the waiting
queue commands (log entry 33). (12 Queue commands; 12 Ports, tags and completions; 12 What if ENQUEUE and FLUSH of
the same queue are taken in the same cycle; 12 What if other commands on one queue are taken in the same cycle) -/
def Obligations.QueueCommandsAreTakenWithATag : Prop :=
    (∀ (c : Instr) (k : QCmd) (p : Fin 4) (m : Master) (q x : Fin 65536) (l : Fin 16) (b : Bool) (s : State),
      (c, k) ∈ [(Instr.qeEnqueue p m q x [], { cmd := 1, queue := q.val, arg := x.val }), (.qeDequeue p m q b [], { cmd := 2, flag := b, queue := q.val }), (.qePeek p m q [], { cmd := 3, queue := q.val }),
        (.qeMove p m q x [], { cmd := 4, queue := q.val, arg := x.val }), (.qeFlush p m q [], { cmd := 5, queue := q.val }), (.qePause p m q b [], { cmd := 6, flag := b, queue := q.val }), (.qeResume p m q l b [], { cmd := 7, flag := b, cls := l.val, queue := q.val })] →
      s.locked m = true →
      exec c s = .next s.answerError) ∧
    (∀ (c : Instr) (k : QCmd) (p : Fin 4) (m : Master) (q x : Fin 65536) (l : Fin 16) (b : Bool) (s : State),
      (c, k) ∈ [(Instr.qeEnqueue p m q x [], { cmd := 1, queue := q.val, arg := x.val }), (.qeDequeue p m q b [], { cmd := 2, flag := b, queue := q.val }), (.qePeek p m q [], { cmd := 3, queue := q.val }),
        (.qeMove p m q x [], { cmd := 4, queue := q.val, arg := x.val }), (.qeFlush p m q [], { cmd := 5, queue := q.val }), (.qePause p m q b [], { cmd := 6, flag := b, queue := q.val }), (.qeResume p m q l b [], { cmd := 7, flag := b, cls := l.val, queue := q.val })] →
      s.locked m = false →
      s.asleep = false →
      p.val = 0 →
      s.freeTag p = none →
      ∃ t, exec c s = .next t ∧ t.rd Reg.QE_CPU_ACCEPT &&& 0xFFFFC0FF = word (1 + masterId m * 65536 + (s.rdF Reg.QE_CPU_ACCEPT 24 8 + 1) % 256 * 16777216) ∧ t.rdF Reg.QE_COUNT 16 8 = min (s.rdF Reg.QE_COUNT 16 8 + 1) 255 ∧ OnlyRegs [Reg.QE_COUNT, Reg.QE_CPU_ACCEPT] { s with freeCtr := t.freeCtr } t) ∧
    (∀ (c : Instr) (k : QCmd) (p : Fin 4) (m : Master) (q x : Fin 65536) (l : Fin 16) (b : Bool) (s : State),
      (c, k) ∈ [(Instr.qeEnqueue p m q x [], { cmd := 1, queue := q.val, arg := x.val }), (.qeDequeue p m q b [], { cmd := 2, flag := b, queue := q.val }), (.qePeek p m q [], { cmd := 3, queue := q.val }),
        (.qeMove p m q x [], { cmd := 4, queue := q.val, arg := x.val }), (.qeFlush p m q [], { cmd := 5, queue := q.val }), (.qePause p m q b [], { cmd := 6, flag := b, queue := q.val }), (.qeResume p m q l b [], { cmd := 7, flag := b, cls := l.val, queue := q.val })] →
      s.locked m = false →
      s.asleep = false →
      p.val ≠ 0 →
      s.freeTag p = none →
      ∃ t, exec c s = .next t ∧ t.rdF Reg.QE_COUNT 16 8 = min (s.rdF Reg.QE_COUNT 16 8 + 1) 255 ∧ OnlyRegs [Reg.QE_COUNT] s t) ∧
    (∀ (c : Instr) (k : QCmd) (p : Fin 4) (m : Master) (q x : Fin 65536) (l : Fin 16) (b : Bool) (j : Nat) (s : State),
      (c, k) ∈ [(Instr.qeEnqueue p m q x [], { cmd := 1, queue := q.val, arg := x.val }), (.qeDequeue p m q b [], { cmd := 2, flag := b, queue := q.val }), (.qePeek p m q [], { cmd := 3, queue := q.val }),
        (.qeMove p m q x [], { cmd := 4, queue := q.val, arg := x.val }), (.qeFlush p m q [], { cmd := 5, queue := q.val }), (.qePause p m q b [], { cmd := 6, flag := b, queue := q.val }), (.qeResume p m q l b [], { cmd := 7, flag := b, cls := l.val, queue := q.val })] →
      s.locked m = false →
      s.asleep = false →
      s.freeTag p = some j →
      s.qeOn = false →
      ∃ t, exec c s = .next t ∧ (p.val = 0 → t.rd Reg.QE_CPU_ACCEPT &&& 0xFFFFC0FF = word (3 + masterId m * 65536 + (s.rdF Reg.QE_CPU_ACCEPT 24 8 + 1) % 256 * 16777216)) ∧ (p.val ≠ 0 → t = s) ∧ OnlyRegs [Reg.QE_CPU_ACCEPT] { s with freeCtr := t.freeCtr } t) ∧
    (∀ (c : Instr) (k : QCmd) (p : Fin 4) (m : Master) (q x : Fin 65536) (l : Fin 16) (b : Bool) (j : Nat) (r : QRes) (s : State),
      (c, k) ∈ [(Instr.qeEnqueue p m q x [], { cmd := 1, queue := q.val, arg := x.val }), (.qeDequeue p m q b [], { cmd := 2, flag := b, queue := q.val }), (.qePeek p m q [], { cmd := 3, queue := q.val }),
        (.qeMove p m q x [], { cmd := 4, queue := q.val, arg := x.val }), (.qeFlush p m q [], { cmd := 5, queue := q.val }), (.qePause p m q b [], { cmd := 6, flag := b, queue := q.val }), (.qeResume p m q l b [], { cmd := 7, flag := b, cls := l.val, queue := q.val })] →
      s.locked m = false →
      s.asleep = false →
      s.freeTag p = some j →
      s.qeOn = true →
      s.cmdDark k = false →
      r = (({ s with qe := { s.qe with tags := s.qe.tags ++ [(p.val, j)] } } : State).qEffect p k []).shown →
      exec c s = .next (if p.val = 0 then ({ r.s with qe := { r.s.qe with done := r.s.qe.done ++ [⟨p, j, k, r.status, r.word1⟩] } } : State).wr Reg.QE_CPU_ACCEPT (word (j * 256 + masterId m * 65536 + (r.s.rdF Reg.QE_CPU_ACCEPT 24 8 + 1) % 256 * 16777216))
        else { r.s with qe := { r.s.qe with done := r.s.qe.done ++ [⟨p, j, k, r.status, r.word1⟩] } })) ∧
    (∀ (c : Instr) (k : QCmd) (p : Fin 4) (m : Master) (q x : Fin 65536) (l : Fin 16) (b : Bool) (j : Nat) (s : State),
      (c, k) ∈ [(Instr.qeEnqueue p m q x [], { cmd := 1, queue := q.val, arg := x.val }), (.qeDequeue p m q b [], { cmd := 2, flag := b, queue := q.val }), (.qePeek p m q [], { cmd := 3, queue := q.val }),
        (.qeMove p m q x [], { cmd := 4, queue := q.val, arg := x.val }), (.qeFlush p m q [], { cmd := 5, queue := q.val }), (.qePause p m q b [], { cmd := 6, flag := b, queue := q.val }), (.qeResume p m q l b [], { cmd := 7, flag := b, cls := l.val, queue := q.val })] →
      s.locked m = false →
      s.asleep = false →
      s.freeTag p = some j →
      s.qeOn = true →
      s.cmdDark k = true →
      ∃ t, exec c s = .next t ∧ t.qe = { s.qe with tags := s.qe.tags ++ [(p.val, j)], waitCmd := s.qe.waitCmd ++ [(p.val, j, k)] } ∧ (p.val = 0 → t.rd Reg.QE_CPU_ACCEPT = word (0 + j * 256 + masterId m * 65536 + (s.rdF Reg.QE_CPU_ACCEPT 24 8 + 1) % 256 * 16777216)) ∧ OnlyRegs [Reg.QE_CPU_ACCEPT] { s with qe := t.qe } t) ∧
    (∀ (p : Fin 4) (j : Nat) (s : State),
      j < 64 →
      (s.freeTag p = some j ↔ ((p.val, j) ∉ s.qe.tags ∧ ∀ i < j, (p.val, i) ∈ s.qe.tags))) ∧
    (∀ (d : QDone) (s : State),
      s.asleep = false →
      s.qe.done = [d] →
      d.port = 0 →
      ∃ t, exec (.qeCompletionPosted 0) s = .next t ∧ t.qe.done = [] ∧ t.ringWord 0 (s.rdF Reg.QE_CPU_RING_PI 0 7 % 64) false = d.word0 ∧ t.ringWord 0 (s.rdF Reg.QE_CPU_RING_PI 0 7 % 64) true = word d.word1 ∧
      t.rdF Reg.QE_CPU_RING_PI 0 7 = (s.rdF Reg.QE_CPU_RING_PI 0 7 + 1) % 128 ∧ t.qe.tags = s.qe.tags ∧ OnlyRegs [Reg.QE_CPU_RING_PI] { s with qe := t.qe } t) ∧
    (∀ (d : QDone) (p : Fin 4) (s : State),
      s.asleep = false →
      s.qe.done = [d] →
      d.port = p.val →
      p.val ≠ 0 →
      ∃ t, exec (.qeCompletionPosted p) s = .next t ∧ t.qe.done = [] ∧ t.ringWord p (s.portPi p % 64) false = d.word0 ∧ t.ringWord p (s.portPi p % 64) true = word d.word1 ∧
      t.portPi p = (s.portPi p + 1) % 128 ∧ (p.val, d.tag) ∉ t.qe.tags ∧ t = { s with qe := t.qe }) ∧
    (∀ (p : Fin 4) (s : State),
      s.asleep = true ∨ (∀ d ∈ s.qe.done, d.port ≠ p.val) →
      exec (.qeCompletionPosted p) s = .next s) ∧
    (∀ (v : Word) (s : State),
      (s.rdF Reg.QE_CPU_RING_PI 0 7 + 128 - s.rdF Reg.QE_CPU_RING_CI 0 7) % 128 < (fld v 0 7 + 128 - s.rdF Reg.QE_CPU_RING_CI 0 7) % 128 →
      exec (.qeRingCiWrite v) s = .next s) ∧
    (∀ (v : Word) (i j : Nat) (s : State),
      s.qe.unread = [(i, j)] →
      s.rdF Reg.QE_CPU_RING_CI 0 7 = i →
      s.rdF Reg.QE_CPU_RING_PI 0 7 = (i + 1) % 128 →
      fld v 0 7 = (i + 1) % 128 →
      ∃ t, exec (.qeRingCiWrite v) s = .next t ∧ t.rdF Reg.QE_CPU_RING_CI 0 7 = (i + 1) % 128 ∧ t.qe.unread = [] ∧ (0, j) ∉ t.qe.tags ∧ (∀ x ∈ s.qe.tags, x ≠ (0, j) → x ∈ t.qe.tags) ∧ OnlyRegs [Reg.QE_CPU_RING_CI] { s with qe := t.qe } t) ∧
    (∀ (c : Instr) (k : QCmd) (p : Fin 4) (m : Master) (q x : Fin 65536) (l : Fin 16) (b : Bool) (s : State),
      (c, k) ∈ [(Instr.qeEnqueue p m q x [], { cmd := 1, queue := q.val, arg := x.val }), (.qeDequeue p m q b [], { cmd := 2, flag := b, queue := q.val }), (.qePeek p m q [], { cmd := 3, queue := q.val }),
        (.qeMove p m q x [], { cmd := 4, queue := q.val, arg := x.val }), (.qeFlush p m q [], { cmd := 5, queue := q.val }), (.qePause p m q b [], { cmd := 6, flag := b, queue := q.val }), (.qeResume p m q l b [], { cmd := 7, flag := b, cls := l.val, queue := q.val })] →
      s.locked m = false →
      s.asleep = true →
      exec c s = .next s) ∧
    (∀ (p p' : Fin 4) (m m' : Master) (q q' x x' : Fin 65536) (s : State),
      p ≠ p' →
      s.locked m = false →
      s.locked m' = false →
      exec (.qeEnqueue p m q x [⟨p', m', { cmd := 1, queue := q'.val, arg := x'.val }⟩]) s =
        exec (.qeEnqueue p' m' q' x' [⟨p, m, { cmd := 1, queue := q.val, arg := x.val }⟩]) s) ∧
    (∀ (p p' : Fin 4) (m m' : Master) (q x : Fin 65536) (i j : Nat) (cs : List Nat) (s : State),
      p.val ≠ 0 →
      p'.val ≠ 0 →
      p ≠ p' →
      s.asleep = false →
      s.locked m = false →
      s.locked m' = false →
      s.qeOn = true →
      s.cmdDark { cmd := 5, queue := q } = false →
      s.freeTag p = some i →
      s.freeTag p' = some j →
      s.queueOk q = true →
      (s.qd q).depth = 0 →
      s.headHeld q = false →
      (s.qd q).state = .enabled ∨ (s.qd q).state = .paused →
      0 < s.depthLimit →
      s.ownedFrame x = some cs →
      ∃ t, exec (.qeEnqueue p m q x [⟨p', m', { cmd := 5, queue := q.val }⟩]) s = .next t ∧
      (t.qe.done.drop s.qe.done.length).map (fun d => (d.port, d.tag, d.cmd.cmd, d.status)) = [(p'.val, j, 5, 0), (p.val, i, 1, 0x0A)] ∧
      (t.qd q).depth = 0 ∧ (∀ c ∈ cs, (t.linkWord c).own = .free))

/-- On any port: a queue whose bank is absent or off gives BAD_QUEUE and nothing changes. ENQUEUE into a DISABLED or
DRAINING queue gives Q_STATE, at DEPTH_LIMIT Q_FULL with OVF, of no OWNED chain BAD_CHAIN; otherwise depth is one
more and the cells are QUEUED; beside a FLUSH of its queue it gives FLUSHED and the queue stays as it is. DEQUEUE,
PEEK and MOVE of an empty queue give EMPTY, DEQUEUE and MOVE of a held head from another port HELD. DEQUEUE takes
the head and frees or keeps its cells; the link controller's DEQUEUE of a head that a FLUSH was owed gives FLUSHED
and ends the hold; PEEK changes no queue, and the link controller's holds the head; MOVE takes the head of one queue
to the end of another. FLUSH empties a queue that is not held, counts its frames and clears OVF; of a held one it
frees all but the head. PAUSE pauses or drains; RESUME enables under its class, or gives BAD_CLASS for weight 0; a
queue that drains empty is DISABLED. (R366; R375) -/
def Obligations.QueueCommandsActOnTheirQueues : Prop :=
    (∀ (p : Nat) (k : QCmd) (s : State),
      s.queueOk k.queue = false ∨ (k.cmd = 4 ∧ s.queueOk k.arg = false) →
      s.qEffect p k [] = ⟨0x04, 0, s⟩) ∧
    (∀ (p q x : Nat) (s : State),
      s.queueOk q = true →
      (s.qd q).state = .disabled ∨ (s.qd q).state = .draining →
      s.qEffect p { cmd := 1, queue := q, arg := x } [] = ⟨0x08, 0, s⟩) ∧
    (∀ (p q x : Nat) (s : State),
      s.queueOk q = true →
      (s.qd q).state = .enabled ∨ (s.qd q).state = .paused →
      s.depthLimit ≤ (s.qd q).depth →
      s.qEffect p { cmd := 1, queue := q, arg := x } [] = ⟨0x07, 0, (s.setQd q { s.qd q with ovf := true }).satAdd Reg.QE_COUNT 24 8⟩) ∧
    (∀ (p q x : Nat) (s : State),
      s.queueOk q = true →
      (s.qd q).state = .enabled ∨ (s.qd q).state = .paused →
      (s.qd q).depth < s.depthLimit →
      s.ownedFrame x = none →
      s.qEffect p { cmd := 1, queue := q, arg := x } [] = ⟨0x05, 0, s⟩) ∧
    (∀ (r : QRes) (cs : List Nat) (p q x : Nat) (s : State),
      s.queueOk q = true →
      (s.qd q).state = .enabled ∨ (s.qd q).state = .paused →
      (s.qd q).depth < s.depthLimit →
      s.ownedFrame x = some cs →
      (s.qd q).depth = 0 ∨ (s.qd q).tail ∉ cs →
      r = s.qEffect p { cmd := 1, queue := q, arg := x } [] →
      r.status = 0 ∧ r.word1 = (s.qd q).depth + 1 ∧ (r.s.qd q).depth = (s.qd q).depth + 1 ∧ (r.s.qd q).state = (s.qd q).state ∧ (∀ c ∈ cs, (r.s.linkWord c).own = .queued) ∧ (∀ j, j ≠ q → r.s.qd j = s.qd j) ∧ SameMem s r.s) ∧
    (∀ (k : QCmd) (p : Nat) (s : State),
      k.cmd = 2 ∨ k.cmd = 3 ∨ k.cmd = 4 →
      s.queueOk k.queue = true →
      k.cmd ≠ 4 ∨ s.queueOk k.arg = true →
      (s.qd k.queue).depth = 0 →
      s.qEffect p k [] = ⟨0x06, 0, s⟩) ∧
    (∀ (k : QCmd) (p : Nat) (s : State),
      k.cmd = 2 ∨ k.cmd = 4 →
      s.queueOk k.queue = true →
      k.cmd ≠ 4 ∨ s.queueOk k.arg = true →
      (s.qd k.queue).depth ≠ 0 →
      p ≠ 1 →
      s.headHeld k.queue = true →
      s.qEffect p k [] = ⟨0x0B, 0, s⟩) ∧
    (∀ (r : QRes) (p q : Nat) (b : Bool) (s : State),
      s.queueOk q = true →
      (s.qd q).depth ≠ 0 →
      s.headHeld q = false →
      q ∉ s.qe.flushDue →
      (s.frame (s.qd q).head) ≠ [] →
      r = s.qEffect p { cmd := 2, flag := b, queue := q } [] →
      r.status = 0 ∧ r.word1 = (if b = true then (s.qd q).head else 0xFFFF) + s.frameLen (s.qd q).head * 65536 ∧ (r.s.qd q).depth = (s.qd q).depth - 1 ∧
      (∀ c ∈ s.frame (s.qd q).head, (r.s.linkWord c).own = (if b = true then .owned else .free)) ∧ (∀ j, j ≠ q → r.s.qd j = s.qd j) ∧ SameMem s r.s) ∧
    (∀ (r : QRes) (p q : Nat) (s : State),
      s.queueOk q = true →
      (s.qd q).depth ≠ 0 →
      r = s.qEffect p { cmd := 3, queue := q } [] →
      r.status = 0 ∧ r.word1 = (s.qd q).head + s.frameLen (s.qd q).head * 65536 ∧ (p = 1 → q ∈ r.s.qe.holds) ∧ (p ≠ 1 → r.s = s) ∧ r.s = { s with qe := { s.qe with holds := r.s.qe.holds } }) ∧
    (∀ (p q x : Nat) (s : State),
      s.queueOk q = true →
      s.queueOk x = true →
      (s.qd q).depth ≠ 0 →
      s.headHeld q = false →
      (s.qd x).state = .disabled ∨ (s.qd x).state = .draining →
      s.qEffect p { cmd := 4, queue := q, arg := x } [] = ⟨0x08, 0, s⟩) ∧
    (∀ (r : QRes) (p q x : Nat) (s : State),
      s.queueOk q = true →
      s.queueOk x = true →
      q ≠ x →
      (s.qd q).depth ≠ 0 →
      s.headHeld q = false →
      (s.qd x).state = .enabled ∨ (s.qd x).state = .paused →
      (s.qd x).depth < s.depthLimit →
      r = s.qEffect p { cmd := 4, queue := q, arg := x } [] →
      r.status = 0 ∧ r.word1 = (s.qd x).depth + 1 ∧ (r.s.qd q).depth = (s.qd q).depth - 1 ∧ (r.s.qd x).depth = (s.qd x).depth + 1 ∧ SameMem s r.s) ∧
    (∀ (r : QRes) (p q : Nat) (s : State),
      s.queueOk q = true →
      s.headHeld q = false →
      r = s.qEffect p { cmd := 5, queue := q } [] →
      r.status = 0 ∧ r.word1 = (s.qd q).depth ∧ (r.s.qd q).depth = 0 ∧ (r.s.qd q).ovf = false ∧ r.s.rdF Reg.QE_COUNT 0 16 = min (s.rdF Reg.QE_COUNT 0 16 + (s.qd q).depth) 65535 ∧ SameMem s r.s) ∧
    (∀ (r : QRes) (p q : Nat) (b : Bool) (s : State),
      s.queueOk q = true →
      r = s.qEffect p { cmd := 6, flag := b, queue := q } [] →
      r.status = 0 ∧ (r.s.qd q).state = (if b = true then (if (s.qd q).depth = 0 then .disabled else .draining) else .paused) ∧ (r.s.qd q).depth = (s.qd q).depth ∧ (∀ j, j ≠ q → r.s.qd j = s.qd j)) ∧
    (∀ (p q l : Nat) (b : Bool) (s : State),
      s.queueOk q = true →
      s.weight l = 0 →
      s.qEffect p { cmd := 7, flag := b, cls := l, queue := q } [] = ⟨0x09, 0, s⟩) ∧
    (∀ (r : QRes) (p q l : Nat) (b : Bool) (s : State),
      s.queueOk q = true →
      s.weight l ≠ 0 →
      r = s.qEffect p { cmd := 7, flag := b, cls := l, queue := q } [] →
      r.status = 0 ∧ (r.s.qd q).state = .enabled ∧ (r.s.qd q).cls = l ∧ (r.s.qd q).depth = (s.qd q).depth ∧ (r.s.qd q).ovf = ((s.qd q).ovf && !b) ∧ (∀ j, j ≠ q → r.s.qd j = s.qd j)) ∧
    (∀ (d : QDesc) (q : Nat) (s : State),
      d.state = .draining →
      d.depth = 0 →
      ((s.putQ q d).qd q).state = .disabled) ∧
    (∀ (r : QRes) (p q : Nat) (s : State),
      s.queueOk q = true →
      s.headHeld q = true →
      (s.qd q).depth ≠ 0 →
      r = s.qEffect p { cmd := 5, queue := q } [] →
      r.status = 0 ∧ r.word1 = (s.qd q).depth - 1 ∧ (r.s.qd q).depth = 1 ∧ (r.s.qd q).head = (s.qd q).head ∧ q ∈ r.s.qe.flushDue ∧ r.s.headHeld q = true ∧ (r.s.qd q).ovf = false) ∧
    (∀ (q : Nat) (b : Bool) (s : State),
      s.queueOk q = true →
      (s.qd q).depth ≠ 0 →
      q ∈ s.qe.flushDue →
      (s.qEffect 1 { cmd := 2, flag := b, queue := q } []).status = 0x0A ∧ (s.qEffect 1 { cmd := 2, flag := b, queue := q } []).s.headHeld q = false) ∧
    (∀ (q x : Nat) (l cs : List Nat) (s : State),
      s.queueOk q = true →
      (s.qd q).state = .enabled ∨ (s.qd q).state = .paused →
      (s.qd q).depth < s.depthLimit →
      s.ownedFrame x = some cs →
      q ∈ l →
      (s.qEffect 0 { cmd := 1, queue := q, arg := x } l).status = 0x0A ∧ (s.qEffect 0 { cmd := 1, queue := q, arg := x } l).s.qe.desc = s.qe.desc)

/-- ALLOC of 1 to 2,047 bytes takes ⌈LEN/124⌉ free cells as one OWNED chain of that length; another length and a lack of
cells are refused with their codes, an engine that is off with OFF. RELEASE of a chain of at most 17 OWNED cells
frees them all; otherwise it returns BAD_CHAIN and changes nothing. INIT with GO over queues that exist starts with
BUSY, over an empty range it is done at once, and it is refused with BUSY, OFF, BAD_CLASS or BAD_QUEUE; each cycle
of it sets STATE and CLASS of the next queue of its range and keeps every depth and OVF, waits for a bank not yet
restored, and after the last queue clears BUSY. A restored bank is no longer dark and its queues are empty and
DISABLED, or its cells free. The model's choices in it, no rules of the spec: which free cells are taken (log entry
10); a command whose premise does not hold changes nothing (log entry 13); a locked debug master gets an error
response and no slip (log entry 25). (12 Owning cells; 12 Bulk setup; 12 Sleep) -/
def Obligations.CellsAreAllocatedReleasedAndQueuesSetUp : Prop :=
    (∀ (c : Instr) (m : Master) (v : Word) (s : State),
      s.locked m = true →
      c ∈ [.qeAlloc m v, .qeRelease m v] →
      exec c s = .next s.answerError) ∧
    (∀ (m : Master) (v : Word) (s : State),
      s.locked m = false →
      s.qeOn = false →
      ∃ t, exec (.qeAlloc m v) s = .next t ∧ t.rd Reg.QE_CPU_CELL_RES &&& 0xFFFF0000 = word (3 * 65536 + masterId m * 16777216 + 0 * 134217728) ∧ OnlyRegs [Reg.QE_CPU_CELL_RES] { s with freeCtr := t.freeCtr } t) ∧
    (∀ (m : Master) (v : Word) (s : State),
      s.locked m = false →
      s.qeOn = true →
      fld v 0 20 = 0 ∨ 2047 < fld v 0 20 →
      ∃ t, exec (.qeAlloc m v) s = .next t ∧ t.rd Reg.QE_CPU_CELL_RES &&& 0xFFFF0000 = word (13 * 65536 + masterId m * 16777216 + 0 * 134217728) ∧ OnlyRegs [Reg.QE_CPU_CELL_RES] { s with freeCtr := t.freeCtr } t) ∧
    (∀ (n : Nat) (m : Master) (v : Word) (s : State),
      s.locked m = false →
      s.qeOn = true →
      n = fld v 0 20 →
      1 ≤ n →
      n ≤ 2047 →
      s.freeCells.length < (n + 123) / 124 →
      (∀ b ∈ s.pwr.dark, b < 8) →
      ∃ t, exec (.qeAlloc m v) s = .next t ∧ t.rd Reg.QE_CPU_CELL_RES &&& 0xFFFF0000 = word (12 * 65536 + masterId m * 16777216 + 0 * 134217728) ∧ OnlyRegs [Reg.QE_CPU_CELL_RES] { s with freeCtr := t.freeCtr } t) ∧
    (∀ (n : Nat) (m : Master) (v : Word) (s : State),
      s.locked m = false →
      s.qeOn = true →
      n = fld v 0 20 →
      1 ≤ n →
      n ≤ 2047 →
      (n + 123) / 124 ≤ s.freeCells.length →
      ∃ t, exec (.qeAlloc m v) s = .next t ∧ t.rd Reg.QE_CPU_CELL_RES = word (s.freeCells.headD 0 + 0 * 65536 + masterId m * 16777216 + 0 * 134217728) ∧ t.frame (s.freeCells.headD 0) = s.freeCells.take ((n + 123) / 124) ∧ t.frameLen (s.freeCells.headD 0) = n ∧
      (∀ c ∈ s.freeCells.take ((n + 123) / 124), (t.linkWord c).own = .owned) ∧ (∀ c ∈ s.freeCells.drop ((n + 123) / 124), t.linkWord c = s.linkWord c) ∧ OnlyRegs [Reg.QE_CPU_CELL_RES] { s with qe := { s.qe with cells := t.qe.cells } } t) ∧
    (∀ (cs : List Nat) (m : Master) (v : Word) (s : State),
      s.locked m = false →
      s.ownedFrame (fld v 0 16) = some cs →
      ∃ t, exec (.qeRelease m v) s = .next t ∧ t.rd Reg.QE_CPU_CELL_RES &&& 0xFFFF0000 = word (0 * 65536 + masterId m * 16777216 + 1 * 134217728) ∧ (∀ c ∈ cs, t.linkWord c = {}) ∧ (∀ c, c ∉ cs → t.linkWord c = s.linkWord c)) ∧
    (∀ (m : Master) (v : Word) (s : State),
      s.locked m = false →
      s.ownedFrame (fld v 0 16) = none →
      ∃ t, exec (.qeRelease m v) s = .next t ∧ t.rd Reg.QE_CPU_CELL_RES &&& 0xFFFF0000 = word (5 * 65536 + masterId m * 16777216 + 1 * 134217728) ∧ OnlyRegs [Reg.QE_CPU_CELL_RES] { s with freeCtr := t.freeCtr } t) ∧
    (∀ (v : Word) (s : State),
      s.bit Reg.QE_INIT_CTRL 9 = true →
      ∃ t, exec (.qeInit v) s = .next t ∧ t.rdF Reg.QE_INIT_CTRL 16 5 = 14 ∧ OnlyRegs [Reg.QE_INIT_CTRL] s t) ∧
    (∀ (v : Word) (s : State),
      s.bit Reg.QE_INIT_CTRL 9 = false →
      s.qeOn = false →
      ∃ t, exec (.qeInit v) s = .next t ∧ t.rdF Reg.QE_INIT_CTRL 16 5 = 3 ∧ OnlyRegs [Reg.QE_INIT_CTRL] s t) ∧
    (∀ (v : Word) (s : State),
      s.bit Reg.QE_INIT_CTRL 9 = false →
      s.qeOn = true →
      s.weight (fld v 0 4) = 0 →
      ∃ t, exec (.qeInit v) s = .next t ∧ t.rdF Reg.QE_INIT_CTRL 16 5 = 9 ∧ OnlyRegs [Reg.QE_INIT_CTRL] s t) ∧
    (∀ (v : Word) (s : State),
      s.bit Reg.QE_INIT_CTRL 9 = false →
      s.qeOn = true →
      s.weight (fld v 0 4) ≠ 0 →
      (∃ q ∈ s.initRange, s.queueOk q = false) →
      ∃ t, exec (.qeInit v) s = .next t ∧ t.rdF Reg.QE_INIT_CTRL 16 5 = 4 ∧ OnlyRegs [Reg.QE_INIT_CTRL] s t) ∧
    (∀ (v : Word) (s : State),
      s.bit Reg.QE_INIT_CTRL 9 = false →
      s.qeOn = true →
      s.weight (fld v 0 4) ≠ 0 →
      s.rdF Reg.QE_INIT_RANGE 0 16 ≤ s.rdF Reg.QE_INIT_RANGE 16 16 →
      (∀ q ∈ s.initRange, s.queueOk q = true) →
      ∃ t, exec (.qeInit v) s = .next t ∧ t.rdF Reg.QE_INIT_CTRL 16 5 = 0 ∧ t.bit Reg.QE_INIT_CTRL 9 = true ∧
      t.qe.init = some ⟨s.rdF Reg.QE_INIT_RANGE 0 16, s.rdF Reg.QE_INIT_RANGE 16 16, fld v 0 4, fld v 4 2⟩ ∧
      OnlyRegs [Reg.QE_INIT_CTRL] { s with qe := { s.qe with init := t.qe.init } } t) ∧
    (∀ (v : Word) (s : State),
      s.bit Reg.QE_INIT_CTRL 9 = false →
      s.qeOn = true →
      s.weight (fld v 0 4) ≠ 0 →
      s.rdF Reg.QE_INIT_RANGE 16 16 < s.rdF Reg.QE_INIT_RANGE 0 16 →
      ∃ t, exec (.qeInit v) s = .next t ∧ t.rdF Reg.QE_INIT_CTRL 16 5 = 0 ∧ OnlyRegs [Reg.QE_INIT_CTRL] s t) ∧
    (∀ (r : InitRun) (s : State),
      s.qe.init = some r →
      s.pwr.dark.contains (r.next / 8192) = false →
      (s.initCycle.qd r.next).state = (if qStateOf r.state = .draining ∧ (s.qd r.next).depth = 0 then .disabled else qStateOf r.state) ∧
      (s.initCycle.qd r.next).cls = r.cls ∧ (s.initCycle.qd r.next).depth = (s.qd r.next).depth ∧ (s.initCycle.qd r.next).ovf = (s.qd r.next).ovf ∧
      (∀ q, q ≠ r.next → s.initCycle.qd q = s.qd q) ∧ SameMem s s.initCycle ∧
      s.initCycle.qe.init = (if r.next < r.last then some { r with next := r.next + 1 } else none) ∧
      s.initCycle.bit Reg.QE_INIT_CTRL 9 = (decide (r.next < r.last) && s.bit Reg.QE_INIT_CTRL 9)) ∧
    (∀ (r : InitRun) (s : State),
      s.qe.init = some r →
      s.pwr.dark.contains (r.next / 8192) = true →
      s.initCycle = s) ∧
    (∀ (b : Fin 16) (s : State),
      b.val ∉ s.pwr.dark →
      exec (.qeBankRestored b) s = .next s) ∧
    (∀ (b : Fin 16) (s : State),
      b.val ∈ s.pwr.dark →
      s.qe.waitCmd = [] →
      s.qe.waitAlloc = none →
      ∃ t, exec (.qeBankRestored b) s = .next t ∧ b.val ∉ t.pwr.dark ∧ (b.val < 8 → (∀ q, q / 8192 = b.val → t.qd q = {})) ∧ (8 ≤ b.val → (∀ c, 8 + c / 512 = b.val → t.linkWord c = {})) ∧
      t = { s with pwr := { s.pwr with dark := t.pwr.dark }, qe := { s.qe with desc := t.qe.desc, cells := t.qe.cells } })

/-- START on an idle channel with the mover enabled loads the descriptor at MOVER_CHk_DESC: ACTIVE, or WAITING when
paced, with CUR and LEFT; an unsound one stops the channel with BAD_DESC and event 160 + k; a running channel
refuses with CH_BUSY and a disabled mover with OFF. STOP and a bus error stop a running channel, the latter with
ERRADDR and a recoverable slip from source 48; on a channel that does not run they and DESCRIPTOR_DONE do nothing,
and a paced request is only noted for its cycle. A stalled paced request is held up to 15 and counted beyond; a
paced request of one beat moves its bytes and waits again. A plain descriptor that finishes has copied its bytes
and, with NEXT 0, ends the channel with event 160 + k. A locked debug master gets an error response. The model's
choices in it, no rules of the spec: a command whose premise does not hold changes nothing (log entry 13); a locked
debug master gets an error response and no slip (log entry 25); the mover corners (log entry 45). (12 Mover,
Operation; 12 Mover descriptor; 12 MOVER registers) -/
def Obligations.TheMoverRunsItsDescriptors : Prop :=
    (∀ (m : Master) (k : Fin 16) (s : State),
      s.locked m = true →
      exec (.moverStart m k) s = .next s.answerError) ∧
    (∀ (m : Master) (k : Fin 16) (s : State),
      s.locked m = false →
      s.enabled 4 = false →
      ∃ t, exec (.moverStart m k) s = .next t ∧ t.rd Reg.MOVER_RESULT = word (7 + k.val * 16 + masterId m * 256) ∧ OnlyRegs [Reg.MOVER_RESULT] s t) ∧
    (∀ (m : Master) (k : Fin 16) (s : State),
      s.locked m = false →
      s.enabled 4 = true →
      s.mvState k = 1 ∨ s.mvState k = 2 →
      ∃ t, exec (.moverStart m k) s = .next t ∧ t.rd Reg.MOVER_RESULT = word (1 + k.val * 16 + masterId m * 256) ∧ OnlyRegs [Reg.MOVER_RESULT] s t) ∧
    (∀ (a : Nat) (w0 w1 w2 w3 : Word) (m : Master) (k : Fin 16) (s : State),
      s.locked m = false →
      s.enabled 4 = true →
      s.mvState k ≠ 1 →
      s.mvState k ≠ 2 →
      a = (s.rd (Reg.MOVER_CH_DESC k)).toNat →
      0x20000000 ≤ a →
      a + 16 ≤ 0x20010000 →
      w0 = word (leNat (s.bytesAt (a + 0) 4)) →
      w1 = word (leNat (s.bytesAt (a + 4) 4)) →
      w2 = word (leNat (s.bytesAt (a + 8) 4)) →
      w3 = word (leNat (s.bytesAt (a + 12) 4)) →
      mvDescOk a (mvDescOf w0 w1 w2 w3) w2 w3 = true →
      ∃ t, exec (.moverStart m k) s = .next t ∧ t.rd Reg.MOVER_RESULT = word (0 + k.val * 16 + masterId m * 256) ∧ t.mvState k = (if (mvDescOf w0 w1 w2 w3).paced = true then 2 else 1) ∧ mapGet t.mover.desc k = some (mvDescOf w0 w1 w2 w3) ∧
      t.rd (Reg.MOVER_CH_LEFT k) = word (mvDescOf w0 w1 w2 w3).len ∧ t.rd (Reg.MOVER_CH_CUR k) = word a ∧ OnlyRegs [Reg.MOVER_RESULT, Reg.MOVER_CH_STATUS k, Reg.MOVER_CH_LEFT k, Reg.MOVER_CH_CUR k] { s with mover := t.mover } t) ∧
    (∀ (a : Nat) (w0 w1 w2 w3 : Word) (m : Master) (k : Fin 16) (s : State),
      s.locked m = false →
      s.enabled 4 = true →
      s.mvState k ≠ 1 →
      s.mvState k ≠ 2 →
      a = (s.rd (Reg.MOVER_CH_DESC k)).toNat →
      0x20000000 ≤ a →
      a + 16 ≤ 0x20010000 →
      w0 = word (leNat (s.bytesAt (a + 0) 4)) →
      w1 = word (leNat (s.bytesAt (a + 4) 4)) →
      w2 = word (leNat (s.bytesAt (a + 8) 4)) →
      w3 = word (leNat (s.bytesAt (a + 12) 4)) →
      mvDescOk a (mvDescOf w0 w1 w2 w3) w2 w3 = false →
      ∃ t, exec (.moverStart m k) s = .next t ∧ t.mvState k = 4 ∧ t.rdF (Reg.MOVER_CH_STATUS k) 4 4 = 2 ∧ t.pending1 (160 + k) = true ∧ mapGet t.mover.desc k = none ∧
      OnlyEvents ([Reg.MOVER_RESULT, Reg.MOVER_CH_STATUS k, Reg.MOVER_CH_CUR k] ++ eventRegs (160 + k)) { s with mover := t.mover } t) ∧
    (∀ (k : Fin 16) (s : State),
      s.mvState k = 1 ∨ s.mvState k = 2 →
      ∃ t, exec (.moverStop k) s = .next t ∧ t.mvState k = 4 ∧ t.rdF (Reg.MOVER_CH_STATUS k) 4 4 = 6 ∧ t.mvPend k = 0 ∧ mapGet t.mover.desc k = none ∧ t.pending1 (160 + k) = true ∧
      OnlyEvents ([Reg.MOVER_CH_STATUS k] ++ eventRegs (160 + k)) { s with mover := t.mover } t) ∧
    (∀ (c : Instr) (v : Word) (k : Fin 16) (s : State),
      s.mvState k ≠ 1 →
      s.mvState k ≠ 2 →
      c ∈ [.moverStop k, .moverDescriptorDone k, .moverBusError k v] →
      exec c s = .next s) ∧
    (∀ (k : Fin 16) (v : Word) (s : State),
      s.mvState k = 1 ∨ s.mvState k = 2 →
      ∃ t, exec (.moverBusError k v) s = .next t ∧ t.mvState k = 4 ∧ t.rdF (Reg.MOVER_CH_STATUS k) 4 4 = 3 ∧ t.rd (Reg.MOVER_CH_ERRADDR k) = v ∧ t.pending1 (160 + k) = true ∧ t.fault.waiting = s.fault.waiting ++ [slipWord 48 0x08 1 k]) ∧
    (∀ (k : Fin 16) (b : Bool) (s : State),
      mapGet s.mover.desc k = none ∨ (s.mvState k ≠ 1 ∧ s.mvState k ≠ 2) →
      ∃ t, exec (.moverPacedRequest k b) s = .next t ∧ t = { s with cyc := t.cyc }) ∧
    (∀ (d : MvDesc) (k : Fin 16) (s : State),
      mapGet s.mover.desc k = some d →
      d.paced = true →
      s.mvState k = 1 ∨ s.mvState k = 2 →
      ∃ t, exec (.moverPacedRequest k true) s = .next t ∧ (s.mvPend k < 15 → (t.mvPend k = s.mvPend k + 1 ∧ t.mvState k = 1)) ∧ (15 ≤ s.mvPend k → t.rdF (Reg.MOVER_CH_STATUS k) 24 8 = min (s.rdF (Reg.MOVER_CH_STATUS k) 24 8 + 1) 255) ∧ OnlyRegs [Reg.MOVER_CH_STATUS k] s t) ∧
    (∀ (d : MvDesc) (n : Nat) (k : Fin 16) (s : State),
      mapGet s.mover.desc k = some d →
      d.paced = true →
      s.mvState k = 1 ∨ s.mvState k = 2 →
      s.mvPend k = 0 →
      d.qmode = 0 →
      d.burst = 0 →
      0 < d.len →
      d.len < 2 ^ 20 →
      s.rdF (Reg.MOVER_CH_LEFT k) 0 20 = d.len →
      n = min (2 ^ d.width) d.len →
      0x20000000 ≤ d.src →
      d.src + d.len ≤ 0x20010000 →
      0x20000000 ≤ d.dst →
      d.dst + d.len ≤ 0x20010000 →
      ∃ t, exec (.moverPacedRequest k false) s = .next t ∧ t.rd (Reg.MOVER_CH_LEFT k) = word (d.len - n) ∧ (∀ i < n, t.byteAt (d.dst + i) = s.byteAt (d.src + i)) ∧
      (∀ a, (a < d.dst ∨ d.dst + n ≤ a) → t.byteAt a = s.byteAt a) ∧ t.mvState k = (if d.len = n then 1 else 2) ∧ SameRegs [Reg.MOVER_CH_STATUS k, Reg.MOVER_CH_LEFT k] s t) ∧
    (∀ (d : MvDesc) (k : Fin 16) (s : State),
      mapGet s.mover.desc k = some d →
      d.paced = false →
      s.mvState k = 1 ∨ s.mvState k = 2 →
      d.qmode = 0 →
      d.sinc = true →
      d.dinc = true →
      d.next = 0 →
      0 < d.len →
      d.len < 65536 →
      0x20000000 ≤ d.src →
      d.src + d.len ≤ 0x20010000 →
      0x20000000 ≤ d.dst →
      d.dst + d.len ≤ 0x20010000 →
      d.src + d.len ≤ d.dst ∨ d.dst + d.len ≤ d.src →
      ∃ t, exec (.moverDescriptorDone k) s = .next t ∧ (∀ i < d.len, t.byteAt (d.dst + i) = s.byteAt (d.src + i)) ∧ (∀ a, (a < d.dst ∨ d.dst + d.len ≤ a) → t.byteAt a = s.byteAt a) ∧
      t.mvState k = 3 ∧ t.rdF (Reg.MOVER_CH_STATUS k) 4 4 = 0 ∧ t.rd (Reg.MOVER_CH_LEFT k) = 0 ∧ t.pending1 (160 + k) = true ∧ SameRegs ([Reg.MOVER_CH_STATUS k, Reg.MOVER_CH_LEFT k, Reg.PWR_COUNT] ++ eventRegs (160 + k)) s t)

/-- For each of the six store commands and every master but the custodian: a SUBMIT that fails a check records that
status in STOR_ACCEPT and leaves the store die as it was, PLANE_BUSY being counted; one that passes takes the lowest
free slot. ERASE then runs one erase stage, PROGRAM loads its data, CHECK on a quiet plane ends at once with OK or
NOT_BLANK, REFRESH copies to a spare or ends NO_SPARE with REFRESH_BLOCKED, PS_COMMIT reads a WRITING page and
PS_RETIRE programs RETIRE of a VALID one, each ending PS_STATE otherwise. The custodian's own path holds no slot. A
locked debug master gets an error response. The model's choices in it, no rules of the spec: a locked debug master
gets an error response and no slip (log entry 25); words of a cut pulse (log entry 31). (13 Submit checks; 13 Store
commands; 13 Command interface, Operation) -/
def Obligations.StoreCommandsPassTheirChecksAndStart : Prop :=
    (∀ (c : Instr) (op a len : Nat) (m : Master) (x y : Word) (s : State),
      s.locked m = true →
      (c, op, a, len) ∈ [(Instr.storeErase m x, 1, x.toNat % 2 ^ 23, s.rdF Reg.STOR_CMD_LEN 0 12), (.storeProgram m x y, 2, x.toNat % 2 ^ 23, y.toNat % 2 ^ 12), (.storeCheck m x, 3, x.toNat % 2 ^ 23, s.rdF Reg.STOR_CMD_LEN 0 12),
        (.storeRefresh m x, 4, x.toNat % 2 ^ 23, s.rdF Reg.STOR_CMD_LEN 0 12), (.psCommit m x, 5, x.toNat % 2 ^ 23, s.rdF Reg.STOR_CMD_LEN 0 12), (.psRetire m x, 6, x.toNat % 2 ^ 23, s.rdF Reg.STOR_CMD_LEN 0 12)] →
      exec c s = .next s.answerError) ∧
    (∀ (c : Instr) (op a len : Nat) (m : Master) (x y : Word) (s : State),
      s.locked m = false →
      (c, op, a, len) ∈ [(Instr.storeErase m x, 1, x.toNat % 2 ^ 23, s.rdF Reg.STOR_CMD_LEN 0 12), (.storeProgram m x y, 2, x.toNat % 2 ^ 23, y.toNat % 2 ^ 12), (.storeCheck m x, 3, x.toNat % 2 ^ 23, s.rdF Reg.STOR_CMD_LEN 0 12),
        (.storeRefresh m x, 4, x.toNat % 2 ^ 23, s.rdF Reg.STOR_CMD_LEN 0 12), (.psCommit m x, 5, x.toNat % 2 ^ 23, s.rdF Reg.STOR_CMD_LEN 0 12), (.psRetire m x, 6, x.toNat % 2 ^ 23, s.rdF Reg.STOR_CMD_LEN 0 12)] →
      m ≠ .custodian →
      s.submitStatus m op a len ≠ 0 →
      ∃ t, exec c s = .next t ∧ t.rd Reg.STOR_ACCEPT &&& 0xFFFFF8FF = word (s.submitStatus m op a len + masterId m * 65536 + (s.rdF Reg.STOR_ACCEPT 24 8 + 1) % 256 * 16777216) ∧
      (s.submitStatus m op a len = 2 → t.rdF Reg.STOR_COUNT2 16 8 = min (s.rdF Reg.STOR_COUNT2 16 8 + 1) 255) ∧ (s.submitStatus m op a len ≠ 2 → t.rd Reg.STOR_COUNT2 = s.rd Reg.STOR_COUNT2) ∧
      t.rdF Reg.STOR_CMD_OP 0 4 = op ∧ t.rdF Reg.STOR_CMD_ADDR 0 23 = a ∧ OnlyRegs ([Reg.STOR_CMD_OP, Reg.STOR_CMD_ADDR, Reg.STOR_CMD_LEN, Reg.STOR_ACCEPT, Reg.STOR_COUNT2] ++ [Reg.STOR_STATE, Reg.STOR_SPARE, Reg.STORD_OP 0, Reg.STORD_OP 1]) { s with freeCtr := t.freeCtr } t) ∧
    (∀ (c : Instr) (op a len : Nat) (m : Master) (x y : Word) (s : State),
      s.locked m = false →
      (c, op, a, len) ∈ [(Instr.storeErase m x, 1, x.toNat % 2 ^ 23, s.rdF Reg.STOR_CMD_LEN 0 12), (.storeProgram m x y, 2, x.toNat % 2 ^ 23, y.toNat % 2 ^ 12), (.storeCheck m x, 3, x.toNat % 2 ^ 23, s.rdF Reg.STOR_CMD_LEN 0 12),
        (.storeRefresh m x, 4, x.toNat % 2 ^ 23, s.rdF Reg.STOR_CMD_LEN 0 12), (.psCommit m x, 5, x.toNat % 2 ^ 23, s.rdF Reg.STOR_CMD_LEN 0 12), (.psRetire m x, 6, x.toNat % 2 ^ 23, s.rdF Reg.STOR_CMD_LEN 0 12)] →
      m ≠ .custodian →
      s.submitStatus m op a len = 0 →
      ∃ t, exec c s = .next t ∧ t.rd Reg.STOR_ACCEPT = word (s.freeSlot * 256 + masterId m * 65536 + (s.rdF Reg.STOR_ACCEPT 24 8 + 1) % 256 * 16777216) ∧ t.store.held = s.store.held ++ [s.freeSlot] ∧ (∀ p ∈ t.store.patrol, p.running = false)) ∧
    (∀ (m : Master) (x : Word) (s : State),
      s.locked m = false →
      m ≠ .custodian →
      s.submitStatus m 1 (x.toNat % 2 ^ 23) (s.rdF Reg.STOR_CMD_LEN 0 12) = 0 →
      ∃ t, exec (.storeErase m x) s = .next t ∧ t.opAt (s.physOf (x.toNat % 2 ^ 23 / 2048) % 2) = some { op := 1, slot := some s.freeSlot, sector := (x.toNat % 2 ^ 23) / 2048, plane := s.physOf (x.toNat % 2 ^ 23 / 2048) % 2, state := .running, master := m, stages := [.erase (s.physOf (x.toNat % 2 ^ 23 / 2048))] } ∧
      t.store.flash = s.store.flash ∧ OnlyRegs ([Reg.STOR_CMD_OP, Reg.STOR_CMD_ADDR, Reg.STOR_CMD_LEN, Reg.STOR_ACCEPT, Reg.STOR_COUNT2] ++ [Reg.STOR_STATE, Reg.STOR_SPARE, Reg.STORD_OP 0, Reg.STORD_OP 1]) { s with store := t.store } t) ∧
    (∀ (m : Master) (x y : Word) (s : State),
      s.locked m = false →
      m ≠ .custodian →
      s.submitStatus m 2 (x.toNat % 2 ^ 23) (y.toNat % 2 ^ 12) = 0 →
      ∃ t, exec (.storeProgram m x y) s = .next t ∧ t.opAt (s.physOf (x.toNat % 2 ^ 23 / 2048) % 2) = some { op := 2, slot := some s.freeSlot, sector := (x.toNat % 2 ^ 23) / 2048, plane := s.physOf (x.toNat % 2 ^ 23 / 2048) % 2, state := .loading, master := m, addr := (x.toNat % 2 ^ 23), len := y.toNat % 2 ^ 12 } ∧
      t.store.flash = s.store.flash ∧ OnlyRegs ([Reg.STOR_CMD_OP, Reg.STOR_CMD_ADDR, Reg.STOR_CMD_LEN, Reg.STOR_ACCEPT, Reg.STOR_COUNT2] ++ [Reg.STOR_STATE, Reg.STOR_SPARE, Reg.STORD_OP 0, Reg.STORD_OP 1]) { s with store := t.store } t) ∧
    (∀ (m : Master) (x : Word) (s : State),
      s.locked m = false →
      m ≠ .custodian →
      s.submitStatus m 3 (x.toNat % 2 ^ 23) (s.rdF Reg.STOR_CMD_LEN 0 12) = 0 →
      s.planeBusy (s.physOf (x.toNat % 2 ^ 23 / 2048) % 2) = false →
      (∀ i < 256, (s.flashAt (s.physOf (x.toNat % 2 ^ 23 / 2048)) i).erased = true) →
      ∃ t, exec (.storeCheck m x) s = .next t ∧ t.rdF (Reg.STOR_RESULT s.freeSlot) 0 8 = 0 ∧ t.bit Reg.STOR_DONE s.freeSlot = true ∧ t.bit Reg.STOR_DONE (8 + s.freeSlot) = false ∧ t.pending1 176 = true ∧ t.store.flash = s.store.flash) ∧
    (∀ (i : Nat) (m : Master) (x : Word) (s : State),
      s.locked m = false →
      m ≠ .custodian →
      s.submitStatus m 3 (x.toNat % 2 ^ 23) (s.rdF Reg.STOR_CMD_LEN 0 12) = 0 →
      s.planeBusy (s.physOf (x.toNat % 2 ^ 23 / 2048) % 2) = false →
      i < 256 →
      (s.flashAt (s.physOf (x.toNat % 2 ^ 23 / 2048)) i).erased = false →
      (∀ j < i, (s.flashAt (s.physOf (x.toNat % 2 ^ 23 / 2048)) j).erased = true) →
      ∃ t, exec (.storeCheck m x) s = .next t ∧ t.rdF (Reg.STOR_RESULT s.freeSlot) 0 8 = 8 ∧ t.bit Reg.STOR_DONE s.freeSlot = true ∧ t.bit Reg.STOR_DONE (8 + s.freeSlot) = true ∧ t.rdF (Reg.STOR_RESULT s.freeSlot) 8 23 = (x.toNat % 2 ^ 23) / 2048 * 2048 + 8 * i ∧ t.pending1 177 = true ∧ t.store.flash = s.store.flash) ∧
    (∀ (m : Master) (x : Word) (s : State),
      s.locked m = false →
      m ≠ .custodian →
      s.submitStatus m 3 (x.toNat % 2 ^ 23) (s.rdF Reg.STOR_CMD_LEN 0 12) = 0 →
      s.planeBusy (s.physOf (x.toNat % 2 ^ 23 / 2048) % 2) = true →
      ∃ t, exec (.storeCheck m x) s = .next t ∧ t.store.checks = s.store.checks ++ [(s.freeSlot, (x.toNat % 2 ^ 23) / 2048)] ∧ t.store.flash = s.store.flash) ∧
    (∀ (m : Master) (x : Word) (s : State),
      s.locked m = false →
      m ≠ .custodian →
      s.submitStatus m 4 (x.toNat % 2 ^ 23) (s.rdF Reg.STOR_CMD_LEN 0 12) = 0 →
      s.storeBad ((x.toNat % 2 ^ 23) / 2048 * 2048) 2048 = none →
      s.refreshPlan ((x.toNat % 2 ^ 23) / 2048) = none →
      ∃ t, exec (.storeRefresh m x) s = .next t ∧ t.rdF (Reg.STOR_RESULT s.freeSlot) 0 8 = 10 ∧ t.bit Reg.STOR_DONE s.freeSlot = true ∧ t.bit Reg.STOR_DONE (8 + s.freeSlot) = true ∧ t.bit Reg.STOR_STATE 11 = true ∧ t.store.flash = s.store.flash) ∧
    (∀ (m : Master) (x : Word) (s : State),
      s.locked m = false →
      m ≠ .custodian →
      s.submitStatus m 4 (x.toNat % 2 ^ 23) (s.rdF Reg.STOR_CMD_LEN 0 12) = 0 →
      s.storeBad ((x.toNat % 2 ^ 23) / 2048 * 2048) 2048 = none →
      (s.refreshPlan ((x.toNat % 2 ^ 23) / 2048)).isSome = true →
      ∃ t, exec (.storeRefresh m x) s = .next t ∧ (t.opAt (s.physOf (x.toNat % 2 ^ 23 / 2048) % 2)).any (fun o => o.op == 4 && o.sector == (x.toNat % 2 ^ 23) / 2048 && o.slot == some s.freeSlot) = true) ∧
    (∀ (k : Nat) (m : Master) (x : Word) (s : State),
      s.locked m = false →
      m ≠ .custodian →
      k = (x.toNat % 2 ^ 23) →
      k < 16 →
      s.submitStatus m 5 k (s.rdF Reg.STOR_CMD_LEN 0 12) = 0 →
      s.psState k ≠ 1 →
      ∃ t, exec (.psCommit m x) s = .next t ∧ t.rdF (Reg.STOR_RESULT s.freeSlot) 0 8 = 13 ∧ t.bit Reg.STOR_DONE s.freeSlot = true ∧ t.bit Reg.STOR_DONE (8 + s.freeSlot) = true ∧ t.pending1 177 = true ∧ t.store.flash = s.store.flash) ∧
    (∀ (k : Nat) (m : Master) (x : Word) (s : State),
      s.locked m = false →
      m ≠ .custodian →
      k = (x.toNat % 2 ^ 23) →
      k < 16 →
      s.submitStatus m 5 k (s.rdF Reg.STOR_CMD_LEN 0 12) = 0 →
      s.psState k = 1 →
      ∃ t, exec (.psCommit m x) s = .next t ∧ (t.store.ops.any (fun o => o.op == 5 && o.state == .reading && o.addr == k && o.slot == some s.freeSlot)) = true ∧ t.store.flash = s.store.flash) ∧
    (∀ (k : Nat) (m : Master) (x : Word) (s : State),
      s.locked m = false →
      m ≠ .custodian →
      k = (x.toNat % 2 ^ 23) →
      k < 16 →
      s.submitStatus m 6 k (s.rdF Reg.STOR_CMD_LEN 0 12) = 0 →
      s.psState k ≠ 2 →
      ∃ t, exec (.psRetire m x) s = .next t ∧ t.rdF (Reg.STOR_RESULT s.freeSlot) 0 8 = 13 ∧ t.bit Reg.STOR_DONE s.freeSlot = true ∧ t.bit Reg.STOR_DONE (8 + s.freeSlot) = true ∧ t.pending1 177 = true ∧ t.store.flash = s.store.flash) ∧
    (∀ (k b n : Nat) (m : Master) (x : Word) (s : State),
      s.locked m = false →
      m ≠ .custodian →
      k = (x.toNat % 2 ^ 23) →
      k < 16 →
      s.psGeom = some (b, n) →
      s.submitStatus m 6 k (s.rdF Reg.STOR_CMD_LEN 0 12) = 0 →
      s.psState k = 2 →
      ∃ t, exec (.psRetire m x) s = .next t ∧ (t.store.ops.any (fun o => o.op == 6 && o.state == .running && o.stages == [.prog (s.physOf (b + k * n)) [(1, 0)]])) = true ∧ t.store.flash = s.store.flash)

/-- A data word with no PROGRAM loading in the port's plane is ignored and counted; a loading one takes it in order and,
complete, starts, or ends NOT_BLANK with the address of a target that is not erased, no word having changed. A good
pulse programs the next word or erases the sector; the last one ends the command OK with event 176. A failed verify
repeats the pulse; a word's fourth moves the sector to a spare with event 184 and REMAPPED. Under the inhibit the
operation ends INCOMPLETE with event 178. A suspended operation resumes with event 181. A loading PROGRAM or waiting
CHECK is aborted. Freed slots leave STOR_DONE, with event 186 when all 8 were held. A plane without a running
operation makes no pulse. The model's choices in it, no rules of the spec: a command whose premise does not hold
changes nothing (log entry 13); words of a cut pulse (log entry 31); decay and pulse counts as operands (log entry
32). (13 Words, pulses and reads; 13 Commands; 13 Brown-out; 13 Defects and remapping) -/
def Obligations.LongOperationsProgramAndEraseByPulses : Prop :=
    (∀ (p : Fin 2) (v : Word) (s : State),
      (∀ o ∈ s.store.ops, ¬ (o.op = 2 ∧ o.state = .loading ∧ o.sector % 2 = p.val)) →
      ∃ t, exec (.storeDataPortWrite p v) s = .next t ∧ t.rdF Reg.STOR_COUNT2 24 8 = min (s.rdF Reg.STOR_COUNT2 24 8 + 1) 255 ∧ (s.store.reads = [] → s.store.checks = [] → OnlyRegs (Reg.STOR_COUNT2 :: [Reg.STOR_STATE, Reg.STOR_SPARE, Reg.STORD_OP 0, Reg.STORD_OP 1]) s t)) ∧
    (∀ (o : LongOp) (p : Fin 2) (v : Word) (s : State),
      s.store.ops = [o] →
      o.op = 2 →
      o.state = .loading →
      o.sector % 2 = p.val →
      4 * (o.data.length + 1) < o.len →
      ∃ t, exec (.storeDataPortWrite p v) s = .next t ∧ t.store.ops = [{ o with data := o.data ++ [v] }] ∧
      (s.store.reads = [] → s.store.checks = [] → (t.store = { s.store with ops := [{ o with data := o.data ++ [v] }] } ∧ OnlyRegs [Reg.STOR_STATE, Reg.STOR_SPARE, Reg.STORD_OP 0, Reg.STORD_OP 1] { s with store := t.store } t))) ∧
    (∀ (o : LongOp) (w : Word) (p : Fin 2) (v : Word) (s : State),
      s.store.ops = [o] →
      o.op = 2 →
      o.state = .loading →
      o.sector % 2 = p.val →
      o.len = 8 →
      o.data = [w] →
      (s.flashAt (s.physOf o.sector) (o.addr % 2048 / 8)).erased = true →
      ∃ t, exec (.storeDataPortWrite p v) s = .next t ∧ t.store.ops = [{ o with state := .running, data := [], stages := [.prog (s.physOf o.sector) [(o.addr % 2048 / 8, BitVec.ofNat 64 (w.toNat + v.toNat * 2 ^ 32))]] }] ∧
      (s.store.reads = [] → s.store.checks = [] → (t.store = { s.store with ops := [{ o with state := .running, data := [], stages := [.prog (s.physOf o.sector) [(o.addr % 2048 / 8, BitVec.ofNat 64 (w.toNat + v.toNat * 2 ^ 32))]] }] } ∧
      OnlyRegs [Reg.STOR_STATE, Reg.STOR_SPARE, Reg.STORD_OP 0, Reg.STORD_OP 1] { s with store := t.store } t))) ∧
    (∀ (o : LongOp) (n : Nat) (w : Word) (p : Fin 2) (v : Word) (s : State),
      s.store.ops = [o] →
      o.op = 2 →
      o.slot = some n →
      n < 8 →
      o.state = .loading →
      o.sector % 2 = p.val →
      o.len = 8 →
      o.data = [w] →
      (s.flashAt (s.physOf o.sector) (o.addr % 2048 / 8)).erased = false →
      ∃ t, exec (.storeDataPortWrite p v) s = .next t ∧ t.store.ops = [] ∧ t.store.flash = s.store.flash ∧ t.rdF (Reg.STOR_RESULT n) 0 8 = 8 ∧ t.bit Reg.STOR_DONE n = true ∧ t.bit Reg.STOR_DONE (8 + n) = true ∧ t.rdF (Reg.STOR_RESULT n) 8 23 = (o.sector * 2048 + 8 * (o.addr % 2048 / 8)) % 2 ^ 23 ∧ t.pending1 177 = true) ∧
    (∀ (p : Fin 2) (b : Bool) (s : State),
      (∀ o ∈ s.opAt p, o.state ≠ .running) →
      exec (.storePulseEnd p b) s = .next s) ∧
    (∀ (o : LongOp) (ph i : Nat) (d : BitVec 64) (w : Nat × BitVec 64) (ws : List (Nat × BitVec 64)) (r : List Stage) (p : Fin 2) (s : State),
      s.opAt p = some o →
      o.plane = p.val →
      o.state = .running →
      s.bit Reg.PWR_STATUS 0 = false →
      s.spineS.resetReq = false →
      o.stages = .prog ph ((i, d) :: w :: ws) :: r →
      o.folio + 1 < s.folioPulses →
      i < 256 →
      ∃ t, exec (.storePulseEnd p true) s = .next t ∧ t.flashAt ph i = { data := d } ∧ (∀ q, (∀ j < 256, (q, j) ≠ (ph, i) → t.flashAt q j = s.flashAt q j)) ∧
      t.opAt p = some { o with stages := .prog ph (w :: ws) :: r, pulses := 0, folio := o.folio + 1, anyPulse := true } ∧ OnlyRegs [Reg.STOR_STATE, Reg.STOR_SPARE, Reg.STORD_OP 0, Reg.STORD_OP 1] { s with store := t.store } t) ∧
    (∀ (o : LongOp) (n ph i : Nat) (d : BitVec 64) (p : Fin 2) (s : State),
      s.opAt p = some o →
      o.plane = p.val →
      o.state = .running →
      o.op = 2 →
      o.slot = some n →
      n < 8 →
      s.bit Reg.PWR_STATUS 0 = false →
      s.spineS.resetReq = false →
      o.stages = [.prog ph [(i, d)]] →
      i < 256 →
      ∃ t, exec (.storePulseEnd p true) s = .next t ∧ t.flashAt ph i = { data := d } ∧ t.opAt p = none ∧ t.rdF (Reg.STOR_RESULT n) 0 8 = 0 ∧ t.bit Reg.STOR_DONE n = true ∧ t.bit Reg.STOR_DONE (8 + n) = false ∧ t.pending1 176 = true) ∧
    (∀ (o : LongOp) (n ph : Nat) (p : Fin 2) (s : State),
      s.opAt p = some o →
      o.plane = p.val →
      o.state = .running →
      o.op = 1 →
      o.slot = some n →
      n < 8 →
      s.bit Reg.PWR_STATUS 0 = false →
      s.spineS.resetReq = false →
      o.stages = [.erase ph] →
      ∃ t, exec (.storePulseEnd p true) s = .next t ∧ (∀ i < 256, (t.flashAt ph i).erased = true) ∧ (∀ q, (∀ j < 256, q ≠ ph → t.flashAt q j = s.flashAt q j)) ∧ t.opAt p = none ∧ t.rdF (Reg.STOR_RESULT n) 0 8 = 0 ∧ t.bit Reg.STOR_DONE n = true ∧ t.bit Reg.STOR_DONE (8 + n) = false ∧ t.pending1 176 = true) ∧
    (∀ (o : LongOp) (ph i : Nat) (d : BitVec 64) (ws : List (Nat × BitVec 64)) (r : List Stage) (p : Fin 2) (s : State),
      s.opAt p = some o →
      o.plane = p.val →
      o.state = .running →
      s.bit Reg.PWR_STATUS 0 = false →
      s.spineS.resetReq = false →
      o.stages = .prog ph ((i, d) :: ws) :: r →
      o.pulses + 1 < 4 →
      o.folio + 1 < s.folioPulses →
      ∃ t, exec (.storePulseEnd p false) s = .next t ∧ t.opAt p = some { o with pulses := o.pulses + 1, folio := o.folio + 1, anyPulse := true } ∧ t.store.flash = s.store.flash ∧ OnlyRegs [Reg.STOR_STATE, Reg.STOR_SPARE, Reg.STORD_OP 0, Reg.STORD_OP 1] { s with store := t.store } t) ∧
    (∀ (o : LongOp) (ph : Nat) (r : List Stage) (p : Fin 2) (s : State),
      s.opAt p = some o →
      o.plane = p.val →
      o.state = .running →
      s.bit Reg.PWR_STATUS 0 = false →
      s.spineS.resetReq = false →
      o.stages = .erase ph :: r →
      o.pulses + 1 < 12 →
      o.folio + 1 < s.folioPulses →
      ∃ t, exec (.storePulseEnd p false) s = .next t ∧ t.opAt p = some { o with pulses := o.pulses + 1, folio := o.folio + 1, anyPulse := true } ∧ t.store.flash = s.store.flash ∧ OnlyRegs [Reg.STOR_STATE, Reg.STOR_SPARE, Reg.STORD_OP 0, Reg.STORD_OP 1] { s with store := t.store } t) ∧
    (∀ (o : LongOp) (n ph i sp : Nat) (d : BitVec 64) (p : Fin 2) (s : State),
      s.opAt p = some o →
      o.plane = p.val →
      o.state = .running →
      o.op = 2 →
      o.slot = some n →
      n < 8 →
      s.bit Reg.PWR_STATUS 0 = false →
      s.spineS.resetReq = false →
      o.stages = [.prog ph [(i, d)]] →
      o.pulses = 3 →
      (s.dropOp p).mapRoom o.sector = true →
      (s.dropOp p).pickSpare (ph % 2) = some sp →
      ∃ t, exec (.storePulseEnd p false) s = .next t ∧ t.opAt p = none ∧ ph ∈ t.store.bad ∧ t.pending1 184 = true ∧ t.rdF Reg.STOR_COUNT2 8 8 = min (s.rdF Reg.STOR_COUNT2 8 8 + 1) 255 ∧ t.rdF (Reg.STOR_RESULT n) 0 8 = 0 ∧ t.bit Reg.STOR_DONE n = true ∧ t.bit Reg.STOR_DONE (8 + n) = false ∧ t.bit (Reg.STOR_RESULT n) 31 = true) ∧
    (∀ (o : LongOp) (n ph i : Nat) (d : BitVec 64) (ws : List (Nat × BitVec 64)) (r : List Stage) (b : Bool) (p : Fin 2) (s : State),
      s.opAt p = some o →
      o.plane = p.val →
      o.state = .running →
      o.op ≠ 0 →
      o.slot = some n →
      n < 8 →
      s.bit Reg.PWR_STATUS 0 = true ∨ s.spineS.resetReq = true →
      o.stages = .prog ph ((i, d) :: ws) :: r →
      ∃ t, exec (.storePulseEnd p b) s = .next t ∧ t.opAt p = none ∧ t.rdF (Reg.STOR_RESULT n) 0 8 = 9 ∧ t.bit Reg.STOR_DONE n = true ∧ t.bit Reg.STOR_DONE (8 + n) = true ∧ t.rdF (Reg.STOR_RESULT n) 8 23 = (o.sector * 2048 + 8 * i) % 2 ^ 23 ∧ t.rdF Reg.STOR_COUNT 24 8 = min (s.rdF Reg.STOR_COUNT 24 8 + 1) 255 ∧ t.pending1 178 = true ∧ (t.flashAt ph i).ecc = .undef s.freeCtr) ∧
    (∀ (o : LongOp) (p : Fin 2) (s : State),
      s.opAt p = some o →
      o.plane = p.val →
      o.state = .suspended →
      ∃ t, exec (.storeResume p) s = .next t ∧ t.opAt p = some { o with state := .running, folio := 0, served := 0 } ∧ t.pending1 181 = true ∧ t.store.flash = s.store.flash ∧ OnlyEvents ([Reg.STOR_STATE, Reg.STOR_SPARE, Reg.STORD_OP 0, Reg.STORD_OP 1] ++ eventRegs 181) { s with store := t.store } t) ∧
    (∀ (p : Fin 2) (s : State),
      (∀ o ∈ s.opAt p, o.state ≠ .suspended) →
      exec (.storeResume p) s = .next s) ∧
    (∀ (o : LongOp) (n : Nat) (v : Word) (s : State),
      n = fld v 0 3 →
      s.store.checks = [] →
      s.store.ops = [o] →
      o.slot = some n →
      o.state = .loading →
      ∃ t, exec (.storeAbort v) s = .next t ∧ t.store.ops = [] ∧ t.rdF (Reg.STOR_RESULT n) 0 8 = 12 ∧ t.bit Reg.STOR_DONE n = true ∧ t.bit Reg.STOR_DONE (8 + n) = true ∧ t.pending1 177 = true ∧ t.store.flash = s.store.flash) ∧
    (∀ (l n : Nat) (v : Word) (s : State),
      n = fld v 0 3 →
      s.store.checks = [(n, l)] →
      ∃ t, exec (.storeAbort v) s = .next t ∧ t.store.checks = [] ∧ t.store.ops = s.store.ops ∧ t.rdF (Reg.STOR_RESULT n) 0 8 = 12 ∧ t.bit Reg.STOR_DONE n = true ∧ t.bit Reg.STOR_DONE (8 + n) = true ∧ t.pending1 177 = true) ∧
    (∀ (v : Word) (s : State),
      (∀ c ∈ s.store.checks, c.1 ≠ fld v 0 3) →
      (∀ o ∈ s.store.ops, ¬ (o.slot = some (fld v 0 3) ∧ o.state = .loading)) →
      exec (.storeAbort v) s = .next s) ∧
    (∀ (v : Word) (s : State),
      ∃ t, exec (.storeDoneClear v) s = .next t ∧ (∀ n < 8, t.bit Reg.STOR_DONE n = (s.bit Reg.STOR_DONE n && !bitOf v n)) ∧ t.store.held = s.store.held.filter (fun n => !(decide (n < 8) && bitOf v n && s.bit Reg.STOR_DONE n)) ∧
      (s.store.held.length = 8 → (∃ n ∈ List.range 8, bitOf v n = true ∧ s.bit Reg.STOR_DONE n = true) → t.pending1 186 = true) ∧ OnlyEvents (Reg.STOR_DONE :: [Reg.STOR_STATE, Reg.STOR_SPARE, Reg.STORD_OP 0, Reg.STORD_OP 1] ++ eventRegs 186) { s with store := { s.store with held := t.store.held } } t)

/-- A line read through the XIP window delivers its word when the line is good, an error with ECC_ADDR, a count and a
slip when a word is uncorrectable, 0 from protected sectors to the untrusted, and waits while its plane makes
pulses; past the part's last sector it reads 0 with a note slip. A due patrol read starts when its plane is free;
when done it counts corrections, moves to the next sector and raises event 182 after the last. A waiting refresh
starts when it may. A page whose length or CRC is wrong ends PS_CRC, a good one programs COMMIT. A page-store place
outside the user area is ignored. The model's choices in it, no rules of the spec: a command whose premise does not
hold changes nothing (log entry 13); a locked debug master gets an error response and no slip (log entry 25); decay
and pulse counts as operands (log entry 32). (13 Reads, errors and ECC; 13 Patrol; 13 Page store) -/
def Obligations.LinesArePatrolledAndPagesCommitted : Prop :=
    (∀ (m : Master) (a : Word) (l : List (Nat × Bool)) (s : State),
      s.locked m = true →
      exec (.xipLineRead m a l) s = .next s.answerError) ∧
    (∀ (m : Master) (a : Word) (l : List (Nat × Bool)) (s : State),
      s.locked m = false →
      0x10000000 ≤ a.toNat →
      a.toNat < 0x10800000 →
      s.sectorCount * 2048 ≤ a.toNat - 0x10000000 →
      exec (.xipLineRead m a l) s = .next ((s.slip 0 0x01 0 a.toNat).answer 0)) ∧
    (∀ (m : Master) (a : Word) (l : List (Nat × Bool)) (s : State),
      s.locked m = false →
      a.toNat < 0x10000000 ∨ 0x10800000 ≤ a.toNat →
      exec (.xipLineRead m a l) s = .next s) ∧
    (∀ (m : Master) (a : Word) (off : Nat) (s : State),
      s.locked m = false →
      off = a.toNat - 0x10000000 →
      0x10000000 ≤ a.toNat →
      a.toNat < 0x10800000 →
      off < s.sectorCount * 2048 →
      s.spineState .store = 3 →
      s.spineS.waiting.any (fun r => r.master == m) = false →
      s.spineS.outst.any (fun r => r.master == m) = false →
      s.spineFull .store m = false →
      s.planeBusy (s.physOf (off / 2048) % 2) = false →
      s.store.reads.any (fun r => r.1 == m) = false →
      s.store.ops = [] →
      s.inSpares (off / 2048) = false →
      32 ≤ off / 2048 ∨ s.storeTrusted m = true →
      (∀ k < 4, (s.storeWord (off / 32 * 32 + 8 * k)).ecc = .good) →
      ∃ t, exec (.xipLineRead m a []) s = .next t ∧ t.ans = { value := word ((s.storeWord off).data.toNat >>> (8 * (off % 8 / 4 * 4))) } ∧ OnlyRegs [Reg.STOR_STATE, Reg.STOR_SPARE, Reg.STORD_OP 0, Reg.STORD_OP 1] { s with ans := t.ans } t) ∧
    (∀ (o : LongOp) (m : Master) (a : Word) (off : Nat) (s : State),
      s.locked m = false →
      off = a.toNat - 0x10000000 →
      0x10000000 ≤ a.toNat →
      a.toNat < 0x10800000 →
      off < s.sectorCount * 2048 →
      s.spineState .store = 3 →
      s.spineS.waiting.any (fun r => r.master == m) = false →
      s.spineS.outst.any (fun r => r.master == m) = false →
      s.spineFull .store m = false →
      s.opAt (s.physOf (off / 2048) % 2) = some o →
      o.plane = s.physOf (off / 2048) % 2 →
      o.state = .suspended →
      o.served < 64 →
      s.store.reads.any (fun r => r.1 == m) = false →
      s.inSpares (off / 2048) = false →
      32 ≤ off / 2048 ∨ s.storeTrusted m = true →
      (∀ k < 4, (s.storeWord (off / 32 * 32 + 8 * k)).ecc = .good) →
      ∃ t, exec (.xipLineRead m a []) s = .next t ∧ t.ans = { value := word ((s.storeWord off).data.toNat >>> (8 * (off % 8 / 4 * 4))) } ∧ t.opAt (s.physOf (off / 2048) % 2) = some { o with served := o.served + 1 } ∧ OnlyRegs [Reg.STOR_STATE, Reg.STOR_SPARE, Reg.STORD_OP 0, Reg.STORD_OP 1] { s with ans := t.ans, store := { s.store with ops := t.store.ops } } t) ∧
    (∀ (j : Nat) (m : Master) (a : Word) (off : Nat) (s : State),
      s.locked m = false →
      off = a.toNat - 0x10000000 →
      0x10000000 ≤ a.toNat →
      a.toNat < 0x10800000 →
      off < s.sectorCount * 2048 →
      s.spineState .store = 3 →
      s.spineS.waiting.any (fun r => r.master == m) = false →
      s.spineS.outst.any (fun r => r.master == m) = false →
      s.spineFull .store m = false →
      s.planeBusy (s.physOf (off / 2048) % 2) = false →
      s.store.reads.any (fun r => r.1 == m) = false →
      s.store.ops = [] →
      s.inSpares (off / 2048) = false →
      32 ≤ off / 2048 ∨ s.storeTrusted m = true →
      j < 4 →
      (s.storeWord (off / 32 * 32 + 8 * j)).ecc = .uncorr →
      (∀ k < j, (s.storeWord (off / 32 * 32 + 8 * k)).ecc ≠ .uncorr) →
      ∃ t, exec (.xipLineRead m a []) s = .next t ∧ t.ans = { value := 0, error := true } ∧ t.rd Reg.STOR_ECC_ADDR = word (off / 32 * 32 + 8 * j + 2 ^ 31) ∧ t.rdF Reg.STOR_COUNT 16 8 = min (s.rdF Reg.STOR_COUNT 16 8 + 1) 255 ∧ t.fault.waiting = s.fault.waiting ++ [slipWord 56 0x09 1 (off / 32 * 32 + 8 * j)]) ∧
    (∀ (m : Master) (a : Word) (off : Nat) (s : State),
      s.locked m = false →
      off = a.toNat - 0x10000000 →
      0x10000000 ≤ a.toNat →
      a.toNat < 0x10800000 →
      off < s.sectorCount * 2048 →
      s.spineState .store = 3 →
      s.spineS.waiting.any (fun r => r.master == m) = false →
      s.spineS.outst.any (fun r => r.master == m) = false →
      s.spineFull .store m = false →
      s.planeBusy (s.physOf (off / 2048) % 2) = false →
      s.store.reads.any (fun r => r.1 == m) = false →
      s.store.ops = [] →
      s.inSpares (off / 2048) = true ∨ (off / 2048 < 32 ∧ s.storeTrusted m = false) →
      ∃ t, exec (.xipLineRead m a []) s = .next t ∧ t.ans = { value := 0 } ∧ OnlyRegs [Reg.STOR_STATE, Reg.STOR_SPARE, Reg.STORD_OP 0, Reg.STORD_OP 1] { s with ans := t.ans } t) ∧
    (∀ (m : Master) (a : Word) (off : Nat) (s : State),
      s.locked m = false →
      off = a.toNat - 0x10000000 →
      0x10000000 ≤ a.toNat →
      a.toNat < 0x10800000 →
      off < s.sectorCount * 2048 →
      s.spineState .store = 3 →
      s.spineS.waiting.any (fun r => r.master == m) = false →
      s.spineS.outst.any (fun r => r.master == m) = false →
      s.spineFull .store m = false →
      s.planeBusy (s.physOf (off / 2048) % 2) = true ∨ s.store.reads.any (fun r => r.1 == m) = true →
      ∃ t, exec (.xipLineRead m a []) s = .next t ∧ t.ans = { value := 0, waiting := true } ∧ t.store.reads = s.store.reads ++ [(m, off)] ∧ OnlyRegs [Reg.STOR_STATE, Reg.STOR_SPARE, Reg.STORD_OP 0, Reg.STORD_OP 1] { s with ans := t.ans, store := { s.store with reads := t.store.reads } } t) ∧
    (∀ (s : State),
      s.store.patrol = none →
      s.reached s.store.patrolAt = true →
      ∃ t, exec .patrolReadDue s = .next t ∧ t.store.patrol = some ⟨s.rdF Reg.STOR_PATROL 0 12, s.patrolFree (s.rdF Reg.STOR_PATROL 0 12)⟩ ∧ OnlyRegs [Reg.STOR_STATE, Reg.STOR_SPARE, Reg.STORD_OP 0, Reg.STORD_OP 1] { s with store := { s.store with patrol := t.store.patrol } } t) ∧
    (∀ (p : PatrolRead) (s : State),
      s.store.patrol = some p →
      p.running = false →
      s.patrolFree p.sector = true →
      ∃ t, exec .patrolReadDue s = .next t ∧ t.store.patrol = some ⟨p.sector, true⟩ ∧ OnlyRegs [Reg.STOR_STATE, Reg.STOR_SPARE, Reg.STORD_OP 0, Reg.STORD_OP 1] { s with store := { s.store with patrol := t.store.patrol } } t) ∧
    (∀ (s : State),
      (s.store.patrol = none ∧ s.reached s.store.patrolAt = false) ∨ (∃ p ∈ s.store.patrol, p.running = true ∨ s.patrolFree p.sector = false) →
      exec .patrolReadDue s = .next s) ∧
    (∀ (p : Nat) (s : State),
      s.store.patrol = some ⟨p, true⟩ →
      p < s.sectorCount →
      (∀ i < 256, (s.flashAt p i).seen.ecc = .good) →
      s.bit Reg.PWR_STATUS 0 = true →
      ∃ t, exec (.patrolReadDone []) s = .next t ∧ t.store.patrol = none ∧ t.store.flash = s.store.flash ∧ t.rdF Reg.STOR_PATROL 0 12 = (p + 1) % s.sectorCount ∧ t.store.patrolAt = s.patrolNext ∧
      (p + 1 = s.sectorCount → (t.pending1 182 = true ∧ t.rdF Reg.STOR_PATROL 16 16 = min (s.rdF Reg.STOR_PATROL 16 16 + 1) 65535)) ∧ t.store.refresh = s.store.refresh) ∧
    (∀ (p : Nat) (s : State),
      s.store.patrol = some ⟨p, true⟩ →
      p < s.sectorCount →
      (∀ i < 256, (s.flashAt p i).seen.ecc = .good) →
      s.bit Reg.PWR_STATUS 0 = false →
      s.store.logNext % 256 ≠ 255 →
      ∃ t, exec (.patrolReadDone []) s = .next t ∧ t.store.patrol = none ∧ t.store.logNext = (s.store.logNext + 1) % 512 ∧ ((t.flashAt (s.physOf (5 + s.store.logNext / 256)) (s.store.logNext % 256)).data.toNat % 2 ^ 12 = p % 2 ^ 12) ∧ t.rdF Reg.STOR_PATROL 0 12 = (p + 1) % s.sectorCount) ∧
    (∀ (l : List (Nat × Bool)) (s : State),
      (∀ p ∈ s.store.patrol, p.running = false) →
      exec (.patrolReadDone l) s = .next s) ∧
    (∀ (l : Nat) (r : List Nat) (s : State),
      s.store.refresh = l :: r →
      s.bit Reg.PWR_STATUS 0 = false →
      s.patrolFree (s.physOf l) = true →
      (s.refreshPlan l).isSome = true →
      ∃ t, exec .patrolRefreshResume s = .next t ∧ t.store.refresh = r ∧ (t.opAt (s.physOf l % 2)).any (fun o => o.op == 0 && o.sector == l && o.slot == none) = true) ∧
    (∀ (s : State),
      s.store.refresh = [] ∨ s.bit Reg.PWR_STATUS 0 = true →
      exec .patrolRefreshResume s = .next s) ∧
    (∀ (o : LongOp) (n b ln : Nat) (p : Fin 2) (s : State),
      s.opAt p = some o →
      o.plane = p.val →
      o.state = .reading →
      o.slot = some n →
      n < 8 →
      s.psGeom = some (b, ln) →
      field (s.storeBytes (o.sector * 2048) 64) 0x18 4 = 0 ∨ ln * 2048 - 64 < field (s.storeBytes (o.sector * 2048) 64) 0x18 4 →
      ∃ t, exec (.psCommitReadDone p) s = .next t ∧ t.opAt p = none ∧ t.rdF (Reg.STOR_RESULT n) 0 8 = 14 ∧ t.bit Reg.STOR_DONE n = true ∧ t.bit Reg.STOR_DONE (8 + n) = true ∧ t.pending1 177 = true ∧ t.store.flash = s.store.flash) ∧
    (∀ (o : LongOp) (b ln len : Nat) (p : Fin 2) (s : State),
      s.opAt p = some o →
      o.plane = p.val →
      o.state = .reading →
      s.psGeom = some (b, ln) →
      len = field (s.storeBytes (o.sector * 2048) 64) 0x18 4 →
      0 < len →
      len ≤ ln * 2048 - 64 →
      s.storeBad (o.sector * 2048) (64 + len) = none →
      crc32 (s.storeBytes (o.sector * 2048 + 64) len) = field (s.storeBytes (o.sector * 2048) 64) 0x20 4 →
      ∃ t, exec (.psCommitReadDone p) s = .next t ∧ t.opAt p = some { o with state := .running, stages := [.prog (s.physOf o.sector) [(0, 0)]] } ∧ OnlyRegs [Reg.STOR_STATE, Reg.STOR_SPARE, Reg.STORD_OP 0, Reg.STORD_OP 1] { s with store := t.store } t) ∧
    (∀ (p : Fin 2) (s : State),
      (∀ o ∈ s.opAt p, o.state ≠ .reading) →
      exec (.psCommitReadDone p) s = .next s) ∧
    (∀ (v : Word) (s : State),
      1 ≤ fld v 16 5 →
      fld v 16 5 ≤ 16 →
      fld v 0 12 < 1120 ∨ s.spareBase < fld v 0 12 + 16 * fld v 16 5 →
      exec (.storPsCfgWrite v) s = .next s) ∧
    (∀ (v : Word) (s : State),
      ¬ (1 ≤ fld v 16 5 ∧ fld v 16 5 ≤ 16) ∨ (1120 ≤ fld v 0 12 ∧ fld v 0 12 + 16 * fld v 16 5 ≤ s.spareBase) →
      ∃ t, exec (.storPsCfgWrite v) s = .next t ∧ t.rdF Reg.STOR_PS_CFG 0 12 = fld v 0 12 ∧ t.rdF Reg.STOR_PS_CFG 16 5 = fld v 16 5 ∧ (∀ k < 16, t.psState k = t.psEval k) ∧ OnlyRegs [Reg.STOR_PS_CFG, Reg.STOR_PS_STATE] s t)

/-- A doorbell for a busy slot records MB_FULL and changes nothing else; for a free slot it makes the slot busy, and its
request joins the order of doorbells, or, refused at acceptance, its reason is counted in the audit counter and the
slot enters its refusal window. A running request that completes writes its output and lengths, sets SECMB_DONE bit
k and raises 192 + k; at the end of a refusal window STATUS reads REFUSED and the buffer zero. Clearing DONE bits
frees the completed slots, with event 196 only when all four were busy. A failed health test stops the TRNG; the
third in a row for good. A restart ends the wait. (R458) -/
def Obligations.TheMailboxTakesRequestsAndCompletesThem : Prop :=
    (∀ (k : Nat) (m : Master) (v : Word) (s : State),
      k = fld v 0 2 →
      (s.mb k).phase ≠ .free →
      exec (.secmbDoorbell m v) s = .next (s.wr Reg.SECMB_DB_RESULT (word (1 + k * 16 + masterId m * 256 + (s.rdF Reg.SECMB_DB_RESULT 24 8 + 1) % 256 * 2 ^ 24)))) ∧
    (∀ (k : Nat) (m : Master) (v : Word) (s : State),
      k = fld v 0 2 →
      (s.mb k).phase = .free →
      s.acceptFault k = none →
      ∃ t, exec (.secmbDoorbell m v) s = .next t ∧ t.rd Reg.SECMB_DB_RESULT = word (k * 16 + masterId m * 256 + (s.rdF Reg.SECMB_DB_RESULT 24 8 + 1) % 256 * 2 ^ 24) ∧ t.rd (Reg.SECMB_S_STATUS k) = 1 ∧ t.bit Reg.SECMB_FREE k = false ∧
      t.cust.order = s.cust.order ++ [k] ∧ (t.mb k).phase = .waiting ∧ (t.mb k).ctx = (s.mb k).ctx ∧ t.cust.audit = s.cust.audit ∧ OnlyRegs [Reg.SECMB_DB_RESULT, Reg.SECMB_S_STATUS k, Reg.SECMB_FREE] { s with cust := t.cust } t) ∧
    (∀ (k r : Nat) (m : Master) (v : Word) (s : State),
      k = fld v 0 2 →
      (s.mb k).phase = .free →
      s.acceptFault k = some r →
      ∃ t, exec (.secmbDoorbell m v) s = .next t ∧ t.rd Reg.SECMB_DB_RESULT = word (k * 16 + masterId m * 256 + (s.rdF Reg.SECMB_DB_RESULT 24 8 + 1) % 256 * 2 ^ 24) ∧ t.rd (Reg.SECMB_S_STATUS k) = 1 ∧ t.bit Reg.SECMB_FREE k = false ∧
      (t.mb k).phase = .refusing ∧ t.cust.order = s.cust.order.filter (· != k) ∧ t.cust.audit = mapPut 0 s.cust.audit r (min ((mapGet s.cust.audit r).getD 0 + 1) 65535) ∧ OnlyRegs [Reg.SECMB_DB_RESULT, Reg.SECMB_S_STATUS k, Reg.SECMB_FREE] { s with cust := t.cust } t) ∧
    (∀ (k : Fin 4) (s : State),
      (s.mb k).phase = .running →
      (s.mb k).out.length ≤ 896 →
      ∃ t, exec (.mailboxRequestDone k) s = .next t ∧ t.bytesAt (mbBuf k) 896 = (s.mb k).out ++ List.replicate (896 - (s.mb k).out.length) 0 ∧ t.rd (Reg.SECMB_S_STATUS k) = word ((s.mb k).result * 2 ^ 5 + (s.mb k).out.length * 2 ^ 8) ∧
      t.bit Reg.SECMB_DONE k = true ∧ t.pending1 (192 + k) = true ∧ (t.mb k).phase = .done ∧ (t.mb k).ctx = (s.mb k).ctx ∧ t.cust.order = s.cust.order.filter (· != k.val) ∧ t.cust.keys = s.cust.keys ∧
      (∀ p ∈ (s.mb k).param, ∀ i < 4, t.rd (Reg.SECMB_S_PARAM0 k + 4 * i) = word (field p (4 * i) 4)) ∧ ((s.mb k).param = none → ∀ i < 4, t.rd (Reg.SECMB_S_PARAM0 k + 4 * i) = s.rd (Reg.SECMB_S_PARAM0 k + 4 * i))) ∧
    (∀ (k : Fin 4) (s : State),
      (s.mb k).phase = .refusing →
      ∃ t, exec (.refusalWindowEnd k) s = .next t ∧ t.bytesAt (mbBuf k) 896 = List.replicate 896 0 ∧ t.rd (Reg.SECMB_S_STATUS k) = 0x10 ∧ t.bit Reg.SECMB_DONE k = true ∧ t.pending1 (192 + k) = true ∧ (t.mb k).phase = .done ∧ t.cust.audit = s.cust.audit) ∧
    (∀ (v : Word) (s : State),
      (List.range 4).all (fun k => !(bitOf v k && (s.mb k).phase == .done)) = true →
      exec (.secmbDoneClear v) s = .next s) ∧
    (∀ (v : Word) (s : State),
      (List.range 4).any (fun k => bitOf v k && (s.mb k).phase == .done) = true →
      ∃ t, exec (.secmbDoneClear v) s = .next t ∧ (∀ k < 4, (bitOf v k && (s.mb k).phase == .done) = true → t.bit Reg.SECMB_DONE k = false ∧ t.bit Reg.SECMB_FREE k = true ∧ (t.mb k).phase = .free) ∧
      (∀ k < 4, (bitOf v k && (s.mb k).phase == .done) = false → t.bit Reg.SECMB_DONE k = s.bit Reg.SECMB_DONE k ∧ t.mb k = s.mb k) ∧ ((List.range 4).all (fun k => (s.mb k).phase != .free) = true → t.pending1 196 = true) ∧
      ((List.range 4).all (fun k => (s.mb k).phase != .free) = false → OnlyRegs [Reg.SECMB_DONE, Reg.SECMB_FREE] { s with cust := t.cust } t)) ∧
    (∀ (s : State),
      s.cust.trngBad < 2 →
      ∃ t, exec .trngHealthFail s = .next t ∧ t.cust.trngBad = s.cust.trngBad + 1 ∧ t.cust.trngWait = true ∧ t.cust.trngDead = s.cust.trngDead ∧ OnlyRegs [] { s with cust := t.cust } t ∧ (∀ k < 4, ((s.mb k).phase == .running && needsRandom (s.mbSvc k)) = true → (t.mb k).phase = .refusing) ∧ (∀ k < 4, ((s.mb k).phase == .running && needsRandom (s.mbSvc k)) = false → t.mb k = s.mb k)) ∧
    (∀ (s : State),
      2 ≤ s.cust.trngBad →
      ∃ t, exec .trngHealthFail s = .next t ∧ t.cust.trngDead = true ∧ t.bit Reg.SECMB_LIFE 4 = true ∧ OnlyRegs [Reg.SECMB_LIFE] { s with cust := t.cust } t) ∧
    (∀ (s : State),
      exec .trngRestartDone s = .next { s with cust := { s.cust with trngWait := s.cust.trngDead } })

/-- For each service: a request that is not the waiting front one, or names another service, does not start; one whose
key slot was emptied, or no longer fits, is refused and its reason counted. Otherwise AES_ECB, AES_CBC, AES_CTR,
AES_CCM, AES_CMAC, SHA256, HMAC, ECDSA_SIGN, ECDSA_VERIFY, KEY_INFO and RANDOM compute their outcomes over the
slot's input, parameters and key, with the parameters the chaining modes give back and the context that a started
digest keeps. A failed MIC gives RESULT 1 with no output. A request that needs random bits while the TRNG restarts
is refused. The model's choices in it, no rules of the spec: the custodian corners (log entry 12); a command whose
premise does not hold changes nothing (log entry 13). (14 Custodian services; 14 Services; 14 Random numbers) -/
def Obligations.ServicesComputeTheirOutcomes : Prop :=
    (∀ (n : Nat) (c : Instr) (k : Fin 4) (s : State),
      (c, n) ∈ [(Instr.aesEcb k, 1), (.aesCbc k, 2), (.aesCtr k, 3), (.aesCcm k, 4), (.aesCmac k, 5), (.sha256 k, 16), (.hmac k, 17), (.ecdsaSign k, 32), (.ecdsaVerify k, 33), (.ecdh k, 34), (.ecKeygen k, 35), (.keyDerive k, 36), (.random k, 48), (.keyImport k, 64), (.keyExport k, 65), (.keyPurge k, 66), (.keyInfo k, 67), (.keyRestrict k, 68), (.idChallenge k, 80), (.attest k, 81), (.lifecycle k, 96), (.unlockNonce k, 97)] →
      ¬ (s.cust.order.head? = some k.val ∧ (s.mb k).phase = .waiting ∧ s.mbSvc k = n) →
      exec c s = .next s) ∧
    (∀ (n r : Nat) (c : Instr) (k : Fin 4) (s : State),
      (c, n) ∈ [(Instr.aesEcb k, 1), (.aesCbc k, 2), (.aesCtr k, 3), (.aesCcm k, 4), (.aesCmac k, 5), (.sha256 k, 16), (.hmac k, 17), (.ecdsaSign k, 32), (.ecdsaVerify k, 33), (.ecdh k, 34), (.ecKeygen k, 35), (.keyDerive k, 36), (.random k, 48), (.keyImport k, 64), (.keyExport k, 65), (.keyPurge k, 66), (.keyInfo k, 67), (.keyRestrict k, 68), (.idChallenge k, 80), (.attest k, 81), (.lifecycle k, 96), (.unlockNonce k, 97)] →
      s.keyFault k = some r →
      s.cust.order.head? = some k.val →
      (s.mb k).phase = .waiting →
      s.mbSvc k = n →
      exec c s = .next (s.refuse k r) ∧ ((s.refuse k r).mb k).phase = .refusing ∧ (s.refuse k r).cust.order = s.cust.order.filter (· != k.val)) ∧
    (∀ (k : Fin 4) (s : State),
      s.cust.order.head? = some k.val →
      (s.mb k).phase = .waiting →
      s.mbSvc k = 1 →
      s.keyFault k = none →
      exec (.aesEcb k) s = .next (s.setMb k { phase := .running, out := aesEcb (s.mbMode k == 0) (s.keyBytes (s.mbKey k)) (s.mbData k) })) ∧
    (∀ (k : Fin 4) (s : State),
      s.cust.order.head? = some k.val →
      (s.mb k).phase = .waiting →
      s.mbSvc k = 2 →
      s.keyFault k = none →
      s.mbMode k = 0 →
      exec (.aesCbc k) s = .next (s.setMb k { phase := .running, out := (aesCbcEnc (s.keyBytes (s.mbKey k)) (s.mbParam k) (blocks16 (s.mbData k))).1, param := some (aesCbcEnc (s.keyBytes (s.mbKey k)) (s.mbParam k) (blocks16 (s.mbData k))).2 })) ∧
    (∀ (k : Fin 4) (s : State),
      s.cust.order.head? = some k.val →
      (s.mb k).phase = .waiting →
      s.mbSvc k = 2 →
      s.keyFault k = none →
      s.mbMode k ≠ 0 →
      exec (.aesCbc k) s = .next (s.setMb k { phase := .running, out := (aesCbcDec (s.keyBytes (s.mbKey k)) (s.mbParam k) (blocks16 (s.mbData k))).1, param := some (aesCbcDec (s.keyBytes (s.mbKey k)) (s.mbParam k) (blocks16 (s.mbData k))).2 })) ∧
    (∀ (k : Fin 4) (s : State),
      s.cust.order.head? = some k.val →
      (s.mb k).phase = .waiting →
      s.mbSvc k = 3 →
      s.keyFault k = none →
      exec (.aesCtr k) s = .next (s.setMb k { phase := .running, out := (aesCtr (s.keyBytes (s.mbKey k)) (s.mbParam k) (blocks16 (s.mbData k))).1, param := some (aesCtr (s.keyBytes (s.mbKey k)) (s.mbParam k) (blocks16 (s.mbData k))).2 })) ∧
    (∀ (a : Nat) (k : Fin 4) (s : State),
      a = s.rdF (Reg.SECMB_S_PARAM4 k) 0 10 →
      s.cust.order.head? = some k.val →
      (s.mb k).phase = .waiting →
      s.mbSvc k = 4 →
      s.keyFault k = none →
      s.mbMode k = 0 →
      exec (.aesCcm k) s = .next (s.setMb k { phase := .running, out := (ccmEnc (s.keyBytes (s.mbKey k)) ((s.mbParam k).take 13) ((s.mbData k).take a) ((s.mbData k).drop a)).1 ++ (ccmEnc (s.keyBytes (s.mbKey k)) ((s.mbParam k).take 13) ((s.mbData k).take a) ((s.mbData k).drop a)).2 })) ∧
    (∀ (a : Nat) (k : Fin 4) (s : State),
      a = s.rdF (Reg.SECMB_S_PARAM4 k) 0 10 →
      s.cust.order.head? = some k.val →
      (s.mb k).phase = .waiting →
      s.mbSvc k = 4 →
      s.keyFault k = none →
      s.mbMode k ≠ 0 →
      exec (.aesCcm k) s = .next (s.setMb k (match ccmDec (s.keyBytes (s.mbKey k)) ((s.mbParam k).take 13) ((s.mbData k).take a) (((s.mbData k).drop a).take (((s.mbData k).drop a).length - 8)) (((s.mbData k).drop a).drop (((s.mbData k).drop a).length - 8)) with
        | some msg => { phase := .running, out := msg }
        | none => { phase := .running, result := 1 }))) ∧
    (∀ (k : Fin 4) (s : State),
      s.cust.order.head? = some k.val →
      (s.mb k).phase = .waiting →
      s.mbSvc k = 5 →
      s.keyFault k = none →
      exec (.aesCmac k) s = .next (s.setMb k { phase := .running, out := aesCmac (s.keyBytes (s.mbKey k)) (s.mbData k) })) ∧
    (∀ (k : Fin 4) (s : State),
      s.cust.order.head? = some k.val →
      (s.mb k).phase = .waiting →
      s.mbSvc k = 16 →
      s.keyFault k = none →
      s.mbMode k = 3 →
      exec (.sha256 k) s = .next (s.setMb k { phase := .running, out := sha256 (s.mbData k) })) ∧
    (∀ (k : Fin 4) (s : State),
      s.cust.order.head? = some k.val →
      (s.mb k).phase = .waiting →
      s.mbSvc k = 16 →
      s.keyFault k = none →
      s.mbMode k = 0 →
      exec (.sha256 k) s = .next (s.setMb k { phase := .running, ctx := some { h := shaUpdate shaInit (s.mbData k), len := (s.mbData k).length, hmac := none } })) ∧
    (∀ (x : ShaCtx) (k : Fin 4) (s : State),
      s.cust.order.head? = some k.val →
      (s.mb k).phase = .waiting →
      s.mbSvc k = 16 →
      s.keyFault k = none →
      s.mbMode k = 1 →
      (s.mb k).ctx = some x →
      exec (.sha256 k) s = .next (s.setMb k { phase := .running, ctx := some { h := shaUpdate x.h (s.mbData k), len := x.len + (s.mbData k).length, hmac := x.hmac } })) ∧
    (∀ (x : ShaCtx) (k : Fin 4) (s : State),
      s.cust.order.head? = some k.val →
      (s.mb k).phase = .waiting →
      s.mbSvc k = 16 →
      s.keyFault k = none →
      s.mbMode k = 2 →
      (s.mb k).ctx = some x →
      x.hmac = none →
      exec (.sha256 k) s = .next (s.setMb k { phase := .running, out := shaFinish x.h x.len (s.mbData k) })) ∧
    (∀ (k : Fin 4) (s : State),
      s.cust.order.head? = some k.val →
      (s.mb k).phase = .waiting →
      s.mbSvc k = 17 →
      s.keyFault k = none →
      s.mbMode k = 3 →
      exec (.hmac k) s = .next (s.setMb k { phase := .running, out := hmacOuter (s.keyBytes (s.mbKey k)) (shaFinish (shaUpdate shaInit (hmacPad (s.keyBytes (s.mbKey k)) 0x36)) 64 (s.mbData k)) })) ∧
    (∀ (k : Fin 4) (s : State),
      s.cust.order.head? = some k.val →
      (s.mb k).phase = .waiting →
      s.mbSvc k = 17 →
      s.keyFault k = none →
      s.mbMode k = 0 →
      exec (.hmac k) s = .next (s.setMb k { phase := .running, ctx := some { h := shaUpdate (shaUpdate shaInit (hmacPad (s.keyBytes (s.mbKey k)) 0x36)) (s.mbData k), len := 64 + (s.mbData k).length, hmac := some (s.keyBytes (s.mbKey k)) } })) ∧
    (∀ (k : Fin 4) (s : State) (u : State),
      s.cust.order.head? = some k.val →
      (s.mb k).phase = .waiting →
      s.mbSvc k = 32 →
      s.keyFault k = none →
      s.cust.trngWait = false →
      s.cust.trngDead = false →
      u = { s with freeCtr := s.freeCtr + 32, cust := { s.cust with trngBad := 0 } } →
      exec (.ecdsaSign k) s = .next (u.setMb k { phase := .running, out := pairBytes (ecdsaSign (leNat (s.keyBytes (s.mbKey k))) (scalarOf (s.takeFreeBytes 32).1) (s.mbData k)) })) ∧
    (∀ (k : Fin 4) (s : State),
      s.cust.order.head? = some k.val →
      (s.mb k).phase = .waiting →
      s.mbSvc k = 33 →
      s.keyFault k = none →
      exec (.ecdsaVerify k) s = .next (s.setMb k { phase := .running, result := if ecdsaVerify (if s.mbMode k = 0 then pairOf (s.keyBytes (s.mbKey k)) else pairOf ((s.mbData k).drop 96)) ((s.mbData k).take 32) (pairOf ((s.mbData k).drop 32)) then 0 else 1 })) ∧
    (∀ (k : Fin 4) (s : State),
      s.cust.order.head? = some k.val →
      (s.mb k).phase = .waiting →
      s.mbSvc k = 67 →
      s.keyFault k = none →
      exec (.keyInfo k) s = .next (s.setMb k { phase := .running, out := leBytes 4 (match mapGet s.cust.keys (s.mbKey k) with | some c => c.policy.toNat | none => 0) })) ∧
    (∀ (k : Fin 4) (s : State) (u : State),
      s.cust.order.head? = some k.val →
      (s.mb k).phase = .waiting →
      s.mbSvc k = 48 →
      s.keyFault k = none →
      s.cust.trngWait = false →
      s.cust.trngDead = false →
      u = { s with freeCtr := s.freeCtr + (s.mbOut k), cust := { s.cust with trngBad := 0 } } →
      exec (.random k) s = .next (u.setMb k { phase := .running, out := (s.takeFreeBytes (s.mbOut k)).1 })) ∧
    (∀ (n : Nat) (c : Instr) (k : Fin 4) (s : State),
      (c, n) ∈ [(Instr.ecdsaSign k, 0x20), (.random k, 0x30), (.unlockNonce k, 0x61), (.idChallenge k, 0x50)] →
      s.cust.order.head? = some k.val →
      (s.mb k).phase = .waiting →
      s.mbSvc k = n →
      s.keyFault k = none →
      s.cust.trngWait = true →
      exec c s = .next (s.refuse k 5))

/-- ECDH, EC_KEYGEN, KEY_DERIVE and KEY_IMPORT refuse a filled target; on an empty one ECDH fills KEY2 with the shared
secret or refuses a bad point, EC_KEYGEN makes a pair and gives its public key, KEY_DERIVE fills KEY2, KEY_IMPORT
fills KEY2 with what the blob decrypts to or refuses it. KEY_EXPORT gives the blob, KEY_PURGE empties the slot,
KEY_RESTRICT only clears policy bits. ID_CHALLENGE and ATTEST sign their messages with slot 0. UNLOCK_NONCE keeps
its nonce; UNLOCK spends it and opens debug when its signature verifies, else is refused. LIFECYCLE goes from OPEN
to FIELD, or with authority from FIELD to RETURNED, else is refused. The model's choices in it, no rules of the
spec: the custodian corners (log entry 12); a command whose premise does not hold changes nothing (log entry 13).
(14 Custodian services; 14 Lifecycle and debug; 14 Identity and roll call; 14 Key blob) -/
def Obligations.KeyAndLifecycleServicesChangeTheEnclave : Prop :=
    (∀ (n : Nat) (c : Instr) (k : Fin 4) (s : State),
      (c, n) ∈ [(Instr.ecdh k, 0x22), (.keyDerive k, 0x24), (.keyImport k, 0x40)] →
      s.cust.order.head? = some k.val →
      (s.mb k).phase = .waiting →
      s.mbSvc k = n →
      s.keyFault k = none →
      s.keyType (s.mbKey2 k) ≠ 0 →
      exec c s = .next (s.refuse k 0)) ∧
    (∀ (z : List Byte) (k : Fin 4) (s : State),
      s.cust.order.head? = some k.val →
      (s.mb k).phase = .waiting →
      s.mbSvc k = 34 →
      s.keyFault k = none →
      s.keyType (s.mbKey2 k) = 0 →
      sharedSecret (leNat (s.keyBytes (s.mbKey k))) (pairOf (s.mbData k)) = some z →
      exec (.ecdh k) s = .next ((s.fillKey (s.mbKey2 k) (s.rd (Reg.SECMB_S_PARAM0 k)) z).setMb k { phase := .running })) ∧
    (∀ (k : Fin 4) (s : State),
      s.cust.order.head? = some k.val →
      (s.mb k).phase = .waiting →
      s.mbSvc k = 34 →
      s.keyFault k = none →
      s.keyType (s.mbKey2 k) = 0 →
      onCurve (pairOf (s.mbData k)) = false →
      exec (.ecdh k) s = .next (s.refuse k 6)) ∧
    (∀ (k : Fin 4) (s : State),
      s.cust.order.head? = some k.val →
      (s.mb k).phase = .waiting →
      s.mbSvc k = 35 →
      s.keyFault k = none →
      s.keyType (s.mbKey k) ≠ 0 →
      exec (.ecKeygen k) s = .next (s.refuse k 0)) ∧
    (∀ (k : Fin 4) (s : State) (u : State),
      s.cust.order.head? = some k.val →
      (s.mb k).phase = .waiting →
      s.mbSvc k = 35 →
      s.keyFault k = none →
      s.keyType (s.mbKey k) = 0 →
      2 ≤ s.mbKey k →
      s.cust.trngWait = false →
      s.cust.trngDead = false →
      u = { s with freeCtr := s.freeCtr + 32, cust := { s.cust with trngBad := 0 } } →
      exec (.ecKeygen k) s = .next ((u.fillKey (s.mbKey k) (s.rd (Reg.SECMB_S_PARAM0 k)) (leBytes 32 (scalarOf (s.takeFreeBytes 32).1))).setMb k { phase := .running, out := pairBytes (ecPublic (scalarOf (s.takeFreeBytes 32).1)) })) ∧
    (∀ (k : Fin 4) (s : State),
      s.cust.order.head? = some k.val →
      (s.mb k).phase = .waiting →
      s.mbSvc k = 36 →
      s.keyFault k = none →
      s.keyType (s.mbKey2 k) = 0 →
      exec (.keyDerive k) s = .next ((s.fillKey (s.mbKey2 k) (s.rd (Reg.SECMB_S_PARAM0 k)) ((List.range (keyLen (fld (s.rd (Reg.SECMB_S_PARAM0 k)) 0 3))).map (Config.derived (s.keyBytes (s.mbKey k)) (s.mbData k)))).setMb k { phase := .running })) ∧
    (∀ (p : Word) (l : Nat) (k : Fin 4) (s : State),
      p = word (field (s.mbData k) 4 4) →
      l = keyLen (fld p 0 3) →
      s.cust.order.head? = some k.val →
      (s.mb k).phase = .waiting →
      s.mbSvc k = 64 →
      s.keyFault k = none →
      s.keyType (s.mbKey2 k) = 0 →
      field (s.mbData k) 0 4 ≠ 0x4B56434F ∨ policyOk [1, 2, 3, 4, 5] p = false ∨ (s.mbData k).length ≠ 32 + l →
      exec (.keyImport k) s = .next (s.refuse k 2)) ∧
    (∀ (p : Word) (l : Nat) (k : Fin 4) (s : State),
      p = word (field (s.mbData k) 4 4) →
      l = keyLen (fld p 0 3) →
      s.cust.order.head? = some k.val →
      (s.mb k).phase = .waiting →
      s.mbSvc k = 64 →
      s.keyFault k = none →
      s.keyType (s.mbKey2 k) = 0 →
      field (s.mbData k) 0 4 = 0x4B56434F →
      policyOk [1, 2, 3, 4, 5] p = true →
      (s.mbData k).length = 32 + l →
      field (s.mbData k) 21 3 = 0 →
      exec (.keyImport k) s = .next (match ccmDec (s.keyBytes (s.mbKey k)) (((s.mbData k).drop 8).take 13) ((s.mbData k).take 8) (((s.mbData k).drop 24).take l) ((s.mbData k).drop (24 + l)) with
        | some key => (s.fillKey (s.mbKey2 k) p key).setMb k { phase := .running }
        | none => s.refuse k 2)) ∧
    (∀ (x : KeySlot) (k : Fin 4) (s : State) (u : State),
      s.cust.order.head? = some k.val →
      (s.mb k).phase = .waiting →
      s.mbSvc k = 65 →
      s.keyFault k = none →
      mapGet s.cust.keys (s.mbKey2 k) = some x →
      s.cust.trngWait = false →
      s.cust.trngDead = false →
      u = { s with freeCtr := s.freeCtr + 13, cust := { s.cust with trngBad := 0 } } →
      exec (.keyExport k) s = .next (u.setMb k { phase := .running, out := (leBytes 4 0x4B56434F ++ leBytes 4 (x.policy &&& 0xFCFFFFFF).toNat) ++ (s.takeFreeBytes 13).1 ++ [0, 0, 0] ++
        (ccmEnc (s.keyBytes (s.mbKey k)) (s.takeFreeBytes 13).1 (leBytes 4 0x4B56434F ++ leBytes 4 (x.policy &&& 0xFCFFFFFF).toNat) x.key).1 ++ (ccmEnc (s.keyBytes (s.mbKey k)) (s.takeFreeBytes 13).1 (leBytes 4 0x4B56434F ++ leBytes 4 (x.policy &&& 0xFCFFFFFF).toNat) x.key).2 })) ∧
    (∀ (k : Fin 4) (s : State),
      s.cust.order.head? = some k.val →
      (s.mb k).phase = .waiting →
      s.mbSvc k = 66 →
      s.keyFault k = none →
      ∃ t, exec (.keyPurge k) s = .next t ∧ t.keyType (s.mbKey k) = 0 ∧ mapGet t.cust.store (s.mbKey k) = none ∧ (∀ n < 64, n ≠ s.mbKey k → mapGet t.cust.keys n = mapGet s.cust.keys n) ∧ (t.mb k).phase = .running ∧ OnlyRegs [] { s with cust := t.cust } t) ∧
    (∀ (x : KeySlot) (k : Fin 4) (s : State),
      s.cust.order.head? = some k.val →
      (s.mb k).phase = .waiting →
      s.mbSvc k = 68 →
      s.keyFault k = none →
      mapGet s.cust.keys (s.mbKey k) = some x →
      exec (.keyRestrict k) s = .next ((s.fillKey (s.mbKey k) (x.policy &&& ~~~ ((s.rd (Reg.SECMB_S_PARAM0 k)) &&& 0x000FFF00)) x.key).setMb k { phase := .running })) ∧
    (∀ (k : Fin 4) (s : State) (u : State),
      s.cust.order.head? = some k.val →
      (s.mb k).phase = .waiting →
      s.mbSvc k = 80 →
      s.keyFault k = none →
      s.cust.trngWait = false →
      s.cust.trngDead = false →
      u = { s with freeCtr := s.freeCtr + 32, cust := { s.cust with trngBad := 0 } } →
      exec (.idChallenge k) s = .next (u.setMb k { phase := .running, out := pairBytes (ecdsaSign (leNat (s.keyBytes 0)) (scalarOf (s.takeFreeBytes 32).1) (sha256 ([0x4F, 0x43, 0x56, 0x52] ++ (s.mbParam k) ++ uidBytes ++ leBytes 4 (s.rd (Reg.SECMB_S_PARAM4 k)).toNat ++ [byte s.cust.life]))) ++ (if s.mbMode k = 1 then u.certificate else []) })) ∧
    (∀ (k : Fin 4) (s : State) (u : State),
      s.cust.order.head? = some k.val →
      (s.mb k).phase = .waiting →
      s.mbSvc k = 81 →
      s.keyFault k = none →
      s.mbMode k = 0 →
      s.cust.trngWait = false →
      s.cust.trngDead = false →
      u = { s with freeCtr := s.freeCtr + 32, cust := { s.cust with trngBad := 0 } } →
      exec (.attest k) s = .next (u.setMb k { phase := .running, out := s.report false ((s.mbData k).take 16) ++ pairBytes (ecdsaSign (leNat (s.keyBytes 0)) (scalarOf (s.takeFreeBytes 32).1) (sha256 (s.report false ((s.mbData k).take 16)))) })) ∧
    (∀ (k : Fin 4) (s : State),
      s.cust.order.head? = some k.val →
      (s.mb k).phase = .waiting →
      s.mbSvc k = 81 →
      s.keyFault k = none →
      s.mbMode k ≠ 0 →
      ecdsaVerify (pairOf (s.keyBytes (s.mbKey k))) (sha256 ([0x4F, 0x43, 0x56, 0x41] ++ (s.mbData k).take 16 ++ ((s.mbData k).drop 16).take 64)) (pairOf ((s.mbData k).drop 80)) = false →
      exec (.attest k) s = .next (s.refuse k 10)) ∧
    (∀ (k : Fin 4) (s : State) (u : State),
      s.cust.order.head? = some k.val →
      (s.mb k).phase = .waiting →
      s.mbSvc k = 97 →
      s.keyFault k = none →
      s.cust.trngWait = false →
      s.cust.trngDead = false →
      u = { s with freeCtr := s.freeCtr + 32, cust := { s.cust with trngBad := 0 } } →
      exec (.unlockNonce k) s = .next ({ u with cust := { u.cust with nonce := some (s.takeFreeBytes 32).1 } }.setMb k { phase := .running, out := (s.takeFreeBytes 32).1 })) ∧
    (∀ (k : Fin 4) (s : State),
      s.cust.order.head? ≠ some k.val ∨ s.mbSvc k ≠ 0x62 →
      exec (.unlock k) s = .next s) ∧
    (∀ (k : Fin 4) (s : State),
      s.cust.order.head? = some k.val →
      (s.mb k).phase = .waiting →
      s.mbSvc k = 98 →
      s.keyFault k = none →
      exec (.unlock k) s = .next (if s.authorised k [0x4F, 0x43, 0x56, 0x44] then { s with cust := { s.cust with unlocked := true, nonce := none } }.setMb k { phase := .running } else s.refuse k 9).spendNonce ∧ (s.cust.nonce = none → s.authorised k [0x4F, 0x43, 0x56, 0x44] = false)) ∧
    (∀ (k : Fin 4) (s : State),
      s.cust.order.head? = some k.val →
      (s.mb k).phase = .waiting →
      s.mbSvc k = 96 →
      s.keyFault k = none →
      s.cust.life ≠ (if s.mbMode k = 1 then 0 else 1) →
      exec (.lifecycle k) s = .next (s.refuse k 3)) ∧
    (∀ (k : Fin 4) (s : State),
      s.cust.order.head? = some k.val →
      (s.mb k).phase = .waiting →
      s.mbSvc k = 96 →
      s.keyFault k = none →
      s.mbMode k = 1 →
      s.cust.life = 0 →
      ∃ t, exec (.lifecycle k) s = .next t ∧ t.cust.life = 1 ∧ t.rdF Reg.SECMB_LIFE 0 2 = 1 ∧ t.cust.keys = s.cust.keys ∧ (t.mb k).phase = .running ∧ OnlyRegs [Reg.SECMB_LIFE] { s with cust := t.cust } t) ∧
    (∀ (k : Fin 4) (s : State),
      s.cust.order.head? = some k.val →
      (s.mb k).phase = .waiting →
      s.mbSvc k = 96 →
      s.keyFault k = none →
      s.mbMode k ≠ 1 →
      s.cust.life = 1 →
      ∃ t, exec (.lifecycle k) s = .next t ∧ (s.authorised k [0x4F, 0x43, 0x56, 0x58] = false → t = s.refuse k 9) ∧ (s.authorised k [0x4F, 0x43, 0x56, 0x58] = true → t.cust.life = 2 ∧ t.rdF Reg.SECMB_LIFE 0 2 = 2 ∧ t.cust.nonce = none ∧ (∀ n < 64, 1 ≤ n → t.keyType n = 0) ∧ mapGet t.cust.keys 0 = mapGet s.cust.keys 0))

/-- A tamper input that trips in an awake part sets its bit in SECMB_TAMP_LATCH, increments SECMB_TAMP_COUNT, records
the instant when the latch was clear and raises event 254. Class T0 leaves the keys; class T1 empties slots 32 to
63; class T2 empties every slot, the key store too, and sets ZEROISED. Input 7, a held part, and inputs 2 and above
in Hibernate do not trip. A die temperature outside its range trips input 4 while the part is awake, and a supply
glitch input 2. The model's choices in it, no rules of the spec: the classes that stay over resets (log entry 11); a
command whose premise does not hold changes nothing (log entry 13); the level of a tamper pin (log entry 38). (14
Tamper; 14 Tamper reactions) -/
def Obligations.TamperTripsLatchCountAndReact : Prop :=
    (∀ (i : Fin 8) (s : State),
      i.val = 7 ∨ s.isHeld = true ∨ (s.pwr.mode = .hibernate ∧ 2 ≤ i.val) →
      exec (.tamperTrip i) s = .next s) ∧
    (∀ (i : Fin 8) (s : State),
      i.val ≠ 7 →
      s.isHeld = false →
      s.pwr.mode ≠ .hibernate →
      s.tampClass i < 2 →
      ∃ t, exec (.tamperTrip i) s = .next t ∧ t.bit Reg.SECMB_TAMP_LATCH i = true ∧ t.rdF Reg.SECMB_TAMP_COUNT 0 16 = min (s.rdF Reg.SECMB_TAMP_COUNT 0 16 + 1) 65535 ∧ (s.rdF Reg.SECMB_TAMP_LATCH 0 8 = 0 → t.rdInstant Reg.SECMB_TAMP_FIRST_LO Reg.SECMB_TAMP_FIRST_HI = instant s.chron.now) ∧
      (s.rdF Reg.SECMB_TAMP_LATCH 0 8 ≠ 0 → t.rdInstant Reg.SECMB_TAMP_FIRST_LO Reg.SECMB_TAMP_FIRST_HI = s.rdInstant Reg.SECMB_TAMP_FIRST_LO Reg.SECMB_TAMP_FIRST_HI) ∧
      t.pending1 254 = true ∧ (s.tampClass i = 0 → t.cust.keys = s.cust.keys ∧ t.cust.zeroised = s.cust.zeroised) ∧ (1 ≤ s.tampClass i → (∀ n < 64, 32 ≤ n → t.keyType n = 0)) ∧ (2 ≤ s.tampClass i → (∀ n < 64, t.keyType n = 0) ∧ t.cust.store = [] ∧ t.cust.zeroised = true)) ∧
    (∀ (i : Fin 8) (s : State),
      i.val ≠ 7 →
      s.isHeld = false →
      s.pwr.mode ≠ .hibernate →
      2 ≤ s.tampClass i →
      ∃ t, exec (.tamperTrip i) s = .next t ∧ t.isHeld = true ∧ t.bit Reg.SECMB_TAMP_LATCH i = true ∧ t.rdF Reg.SECMB_TAMP_COUNT 0 16 = min (s.rdF Reg.SECMB_TAMP_COUNT 0 16 + 1) 65535 ∧ (s.rdF Reg.SECMB_TAMP_LATCH 0 8 = 0 → t.rdInstant Reg.SECMB_TAMP_FIRST_LO Reg.SECMB_TAMP_FIRST_HI = instant s.chron.now) ∧
      (s.rdF Reg.SECMB_TAMP_LATCH 0 8 ≠ 0 → t.rdInstant Reg.SECMB_TAMP_FIRST_LO Reg.SECMB_TAMP_FIRST_HI = s.rdInstant Reg.SECMB_TAMP_FIRST_LO Reg.SECMB_TAMP_FIRST_HI) ∧
      (s.tampClass i = 0 → t.cust.keys = s.cust.keys ∧ t.cust.zeroised = s.cust.zeroised) ∧ (1 ≤ s.tampClass i → (∀ n < 64, 32 ≤ n → t.keyType n = 0)) ∧ (2 ≤ s.tampClass i → (∀ n < 64, t.keyType n = 0) ∧ t.cust.store = [] ∧ t.cust.zeroised = true)) ∧
    (∀ (temp : Int) (s : State),
      s.asleep = true ∨ s.isHeld = true ∨ (-180 ≤ temp ∧ temp ≤ 440) →
      exec (.temperatureTamperCheck temp) s = .next s) ∧
    (∀ (temp : Int) (s : State),
      s.asleep = false →
      s.isHeld = false →
      temp < -180 ∨ 440 < temp →
      ∃ t, exec (.temperatureTamperCheck temp) s = .next t ∧ t.bit Reg.SECMB_TAMP_LATCH 4 = true ∧ t.rdF Reg.SECMB_TAMP_COUNT 0 16 = min (s.rdF Reg.SECMB_TAMP_COUNT 0 16 + 1) 65535 ∧ (s.rdF Reg.SECMB_TAMP_LATCH 0 8 = 0 → t.rdInstant Reg.SECMB_TAMP_FIRST_LO Reg.SECMB_TAMP_FIRST_HI = instant s.chron.now) ∧
      (s.rdF Reg.SECMB_TAMP_LATCH 0 8 ≠ 0 → t.rdInstant Reg.SECMB_TAMP_FIRST_LO Reg.SECMB_TAMP_FIRST_HI = s.rdInstant Reg.SECMB_TAMP_FIRST_LO Reg.SECMB_TAMP_FIRST_HI) ∧
      (s.tampClass 4 < 2 → t.pending1 254 = true) ∧ (s.tampClass 4 = 0 → t.cust.keys = s.cust.keys ∧ t.cust.zeroised = s.cust.zeroised) ∧ (1 ≤ s.tampClass 4 → (∀ n < 64, 32 ≤ n → t.keyType n = 0)) ∧ (2 ≤ s.tampClass 4 → (∀ n < 64, t.keyType n = 0) ∧ t.cust.store = [] ∧ t.cust.zeroised = true)) ∧
    (∀ (s : State),
      s.pwr.mode = .hibernate ∨ s.isHeld = true →
      exec .supplyGlitch s = .next s) ∧
    (∀ (s : State),
      s.pwr.mode ≠ .hibernate →
      s.isHeld = false →
      ∃ t, exec .supplyGlitch s = .next t ∧ t.bit Reg.SECMB_TAMP_LATCH 2 = true ∧ t.rdF Reg.SECMB_TAMP_COUNT 0 16 = min (s.rdF Reg.SECMB_TAMP_COUNT 0 16 + 1) 65535 ∧ (s.rdF Reg.SECMB_TAMP_LATCH 0 8 = 0 → t.rdInstant Reg.SECMB_TAMP_FIRST_LO Reg.SECMB_TAMP_FIRST_HI = instant s.chron.now) ∧
      (s.rdF Reg.SECMB_TAMP_LATCH 0 8 ≠ 0 → t.rdInstant Reg.SECMB_TAMP_FIRST_LO Reg.SECMB_TAMP_FIRST_HI = s.rdInstant Reg.SECMB_TAMP_FIRST_LO Reg.SECMB_TAMP_FIRST_HI) ∧
      (s.tampClass 2 < 2 → t.pending1 254 = true) ∧ (s.tampClass 2 = 0 → t.cust.keys = s.cust.keys ∧ t.cust.zeroised = s.cust.zeroised) ∧ (1 ≤ s.tampClass 2 → (∀ n < 64, 32 ≤ n → t.keyType n = 0)) ∧ (2 ≤ s.tampClass 2 → (∀ n < 64, t.keyType n = 0) ∧ t.cust.store = [] ∧ t.cust.zeroised = true))

/-- A START of a release channel that is off, has a bad configuration or an exchange in progress is refused: a master
reads the code in REL_RESULT, a fabric task is counted. Otherwise it returns OK and an idle channel seeks; in
SEEKING or HELD no state changes. A DROP idles the channel from any state, marking an exchange in progress; from
HELD the lock drops, with a DROP message on a lock line when its key serves, and event 204 + ch. A DROP of another
origin in the same cycle wins over a START, which records nothing. A message that ends raises LOCKCNT and the next
follows. FAILCLR bit 0 zeroes REL_FAILCOUNT with event 207. Where the unit is absent a write reads 0 with its note
and changes nothing. A locked debug master gets an error response. The model's choices in it, no rules of the spec:
a command whose premise does not hold changes nothing (log entry 13); a locked debug master gets an error response
and no slip (log entry 25); the corners of the exchange (log entry 36). (15 Starting a channel; 15 Lock outputs; 15
Registers; 15 What if START and DROP reach one channel in the same cycle) -/
def Obligations.ReleaseChannelsStartAndDropAsCommanded : Prop :=
    (∀ (m : Master) (ch : Fin 2) (s : State),
      s.locked m = true →
      exec (.relStart (some m) ch) s = .next s.answerError ∧ exec (.relDrop (some m) ch) s = .next s.answerError) ∧
    (∀ (src : Option Master) (ch : Fin 2) (s : State),
      src.any s.locked = false →
      s.present 24 = true →
      s.droppedNow src ch = true →
      exec (.relStart src ch) s = .next s) ∧
    (∀ (m : Master) (ch : Fin 2) (v : Word) (s : State),
      s.locked m = false →
      s.present 24 = false →
      exec (.relStart (some m) ch) s = .next ((s.absentSlip 64 (Reg.REL_CH_CTRL ch)).answer 0) ∧ exec (.relDrop (some m) ch) s = .next ((s.absentSlip 64 (Reg.REL_CH_CTRL ch)).answer 0) ∧
      exec (.relFailclr v) s = .next ((s.absentSlip 64 Reg.REL_FAILCLR).answer 0) ∧ exec (.relStart none ch) s = .next s ∧ exec (.relDrop none ch) s = .next s) ∧
    (∀ (m : Master) (ch : Fin 2) (s : State),
      s.locked m = false →
      s.present 24 = true →
      s.droppedNow (some m) ch = false →
      s.enabled 5 = false ∨ s.relay ch = 0 →
      ∃ t, exec (.relStart (some m) ch) s = .next t ∧ t.rd Reg.REL_RESULT = word (1 + ch * 8 + masterId m * 16) ∧ OnlyRegs [Reg.REL_RESULT] { s with cyc := t.cyc } t) ∧
    (∀ (ch : Fin 2) (s : State),
      s.present 24 = true →
      s.droppedNow none ch = false →
      s.enabled 5 = false ∨ s.relay ch = 0 →
      ∃ t, exec (.relStart none ch) s = .next t ∧ t.rdF (Reg.REL_CH_COUNT ch) 24 8 = min (s.rdF (Reg.REL_CH_COUNT ch) 24 8 + 1) 255 ∧ OnlyRegs [Reg.REL_CH_COUNT ch] { s with cyc := t.cyc } t) ∧
    (∀ (m : Master) (ch : Fin 2) (s : State),
      s.locked m = false →
      s.present 24 = true →
      s.droppedNow (some m) ch = false →
      s.enabled 5 = true →
      s.relay ch ≠ 0 →
      (s.planCount ≤ (s.rdF (Reg.REL_CH_CFG ch) 0 8) ∨ s.chanGen2 (s.rdF (Reg.REL_CH_CFG ch) 0 8) = false ∨ s.chan24 (s.rdF (Reg.REL_CH_CFG ch) 0 8) = false) ∨ (s.relDesk = true ∧ s.relGpio ch = false ∧ s.rel.lockSet.contains ch.val = false) →
      ∃ t, exec (.relStart (some m) ch) s = .next t ∧ t.rd Reg.REL_RESULT = word (2 + ch * 8 + masterId m * 16) ∧ OnlyRegs [Reg.REL_RESULT] { s with cyc := t.cyc } t) ∧
    (∀ (ch : Fin 2) (s : State),
      s.present 24 = true →
      s.droppedNow none ch = false →
      s.enabled 5 = true →
      s.relay ch ≠ 0 →
      (s.planCount ≤ (s.rdF (Reg.REL_CH_CFG ch) 0 8) ∨ s.chanGen2 (s.rdF (Reg.REL_CH_CFG ch) 0 8) = false ∨ s.chan24 (s.rdF (Reg.REL_CH_CFG ch) 0 8) = false) ∨ (s.relDesk = true ∧ s.relGpio ch = false ∧ s.rel.lockSet.contains ch.val = false) →
      ∃ t, exec (.relStart none ch) s = .next t ∧ t.rdF (Reg.REL_CH_COUNT ch) 24 8 = min (s.rdF (Reg.REL_CH_COUNT ch) 24 8 + 1) 255 ∧ OnlyRegs [Reg.REL_CH_COUNT ch] { s with cyc := t.cyc } t) ∧
    (∀ (m : Master) (ch : Fin 2) (s : State),
      s.locked m = false →
      s.present 24 = true →
      s.droppedNow (some m) ch = false →
      s.enabled 5 = true →
      s.relay ch ≠ 0 →
      ¬ (s.planCount ≤ (s.rdF (Reg.REL_CH_CFG ch) 0 8) ∨ s.chanGen2 (s.rdF (Reg.REL_CH_CFG ch) 0 8) = false ∨ s.chan24 (s.rdF (Reg.REL_CH_CFG ch) 0 8) = false) →
      ¬ (s.relDesk = true ∧ s.relGpio ch = false ∧ s.rel.lockSet.contains ch.val = false) →
      (s.relExch ch).isSome = true →
      ∃ t, exec (.relStart (some m) ch) s = .next t ∧ t.rd Reg.REL_RESULT = word (3 + ch * 8 + masterId m * 16) ∧ OnlyRegs [Reg.REL_RESULT] { s with cyc := t.cyc } t) ∧
    (∀ (ch : Fin 2) (s : State),
      s.present 24 = true →
      s.droppedNow none ch = false →
      s.enabled 5 = true →
      s.relay ch ≠ 0 →
      ¬ (s.planCount ≤ (s.rdF (Reg.REL_CH_CFG ch) 0 8) ∨ s.chanGen2 (s.rdF (Reg.REL_CH_CFG ch) 0 8) = false ∨ s.chan24 (s.rdF (Reg.REL_CH_CFG ch) 0 8) = false) →
      ¬ (s.relDesk = true ∧ s.relGpio ch = false ∧ s.rel.lockSet.contains ch.val = false) →
      (s.relExch ch).isSome = true →
      ∃ t, exec (.relStart none ch) s = .next t ∧ t.rdF (Reg.REL_CH_COUNT ch) 24 8 = min (s.rdF (Reg.REL_CH_COUNT ch) 24 8 + 1) 255 ∧ OnlyRegs [Reg.REL_CH_COUNT ch] { s with cyc := t.cyc } t) ∧
    (∀ (m : Master) (ch : Fin 2) (s : State),
      s.locked m = false →
      s.present 24 = true →
      s.droppedNow (some m) ch = false →
      s.enabled 5 = true →
      s.relay ch ≠ 0 →
      ¬ (s.planCount ≤ (s.rdF (Reg.REL_CH_CFG ch) 0 8) ∨ s.chanGen2 (s.rdF (Reg.REL_CH_CFG ch) 0 8) = false ∨ s.chan24 (s.rdF (Reg.REL_CH_CFG ch) 0 8) = false) →
      ¬ (s.relDesk = true ∧ s.relGpio ch = false ∧ s.rel.lockSet.contains ch.val = false) →
      s.relExch ch = none →
      ∃ t, exec (.relStart (some m) ch) s = .next t ∧ t.rd Reg.REL_RESULT = word (0 + ch * 8 + masterId m * 16) ∧ t.relState ch = (if s.relState ch = 0 then 1 else s.relState ch) ∧ ch.val ∈ t.rel.started ∧ OnlyRegs [Reg.REL_RESULT, (Reg.REL_CH_STATUS ch)] { s with rel := { s.rel with started := t.rel.started }, cyc := t.cyc } t) ∧
    (∀ (ch : Fin 2) (s : State),
      s.present 24 = true →
      s.droppedNow none ch = false →
      s.enabled 5 = true →
      s.relay ch ≠ 0 →
      ¬ (s.planCount ≤ (s.rdF (Reg.REL_CH_CFG ch) 0 8) ∨ s.chanGen2 (s.rdF (Reg.REL_CH_CFG ch) 0 8) = false ∨ s.chan24 (s.rdF (Reg.REL_CH_CFG ch) 0 8) = false) →
      ¬ (s.relDesk = true ∧ s.relGpio ch = false ∧ s.rel.lockSet.contains ch.val = false) →
      s.relExch ch = none →
      ∃ t, exec (.relStart none ch) s = .next t ∧ t.relState ch = (if s.relState ch = 0 then 1 else s.relState ch) ∧ ch.val ∈ t.rel.started ∧ OnlyRegs [(Reg.REL_CH_STATUS ch)] { s with rel := { s.rel with started := t.rel.started }, cyc := t.cyc } t) ∧
    (∀ (src : Option Master) (ch : Fin 2) (s : State),
      src.any s.locked = false →
      s.present 24 = true →
      s.cyc.relStarts.any (fun p => p.1 == ch.val && p.2.1 != src) = false →
      s.relState ch ≠ 2 →
      ∃ t, exec (.relDrop src ch) s = .next t ∧ t.relState ch = 0 ∧ (∀ e ∈ t.relExch ch, e.dropped = true) ∧ (t.relExch ch).isSome = (s.relExch ch).isSome ∧ OnlyRegs [(Reg.REL_CH_STATUS ch)] { s with rel := t.rel, cyc := t.cyc } t ∧ t.lockLine ch = s.lockLine ch) ∧
    (∀ (src : Option Master) (ch : Fin 2) (s : State),
      src.any s.locked = false →
      s.present 24 = true →
      s.cyc.relStarts.any (fun p => p.1 == ch.val && p.2.1 != src) = false →
      s.relState ch = 2 →
      ∃ t, exec (.relDrop src ch) s = .next t ∧ t.relState ch = 0 ∧ t.rdF (Reg.REL_CH_STATUS ch) 16 16 = 0 ∧ t.pending1 (204 + ch) = true ∧ (∀ e ∈ t.relExch ch, e.dropped = true) ∧ mapGet t.rel.sessions ch = none ∧
      OnlyEvents ([(Reg.REL_CH_STATUS ch)] ++ eventRegs (204 + ch)) { s with rel := t.rel, cyc := t.cyc } t ∧ t.lockLine ch = s.lockLine ch ++ (if s.relGpio ch then [] else (s.lockMessage ch 2 0 (s.rdF (Reg.REL_CH_STATUS ch) 16 16)).toList)) ∧
    (∀ (ch : Fin 2) (s : State),
      s.lockLine ch = [] →
      exec (.lockLineMessageEnd ch) s = .next s) ∧
    (∀ (x : List Byte) (l : List (List Byte)) (ch : Fin 2) (s : State),
      s.lockLine ch = x :: l →
      ∃ t, exec (.lockLineMessageEnd ch) s = .next t ∧ t.lockLine ch = l ∧ t.rd (Reg.REL_CH_LOCKCNT ch) = s.rd (Reg.REL_CH_LOCKCNT ch) + 1 ∧ OnlyRegs [Reg.REL_CH_LOCKCNT ch] { s with rel := { s.rel with lines := t.rel.lines } } t) ∧
    (∀ (v : Word) (s : State),
      s.present 24 = true →
      bitOf v 0 = true →
      ∃ t, exec (.relFailclr v) s = .next t ∧ t.rd Reg.REL_FAILCOUNT = 0 ∧ t.pending1 207 = true ∧ OnlyEvents ([Reg.REL_FAILCOUNT] ++ eventRegs 207) s t) ∧
    (∀ (v : Word) (s : State),
      s.present 24 = true →
      bitOf v 0 = false →
      exec (.relFailclr v) s = .next s) ∧
    (∀ (src other : Option Master) (ch : Fin 2) (s : State),
      src.any s.locked = false →
      other.any s.locked = false →
      other ≠ src →
      s.present 24 = true →
      s.cyc.relStarts = [] →
      s.cyc.relDrops = [] →
      s.relState ch ≠ 2 →
      ∃ u, exec (.relStart src ch) s = .next u ∧ ∃ t, exec (.relDrop other ch) u = .next t ∧ t.relState ch = 0 ∧
      t.rd Reg.REL_RESULT = s.rd Reg.REL_RESULT ∧ t.rd (Reg.REL_CH_COUNT ch) = s.rd (Reg.REL_CH_COUNT ch))

/-- A rendezvous that is not due does nothing; without sync it is skipped and counted, and a HELD desk in beacon release
seeks again with event 204 + ch. A SEEKING desk that finds a band with listen-before-talk busy sends no OPEN and the
rendezvous is skipped and counted; without a JOIN it stays without an exchange, its 1,350 µs charged, with one the
exchange begins. A card opens its window, and answers an OPEN for it there, or skips without budget. A decision
grants, entering HELD with CARD, when every grant condition holds in response-time mode, with event 202 + ch from
SEEKING and none in HELD; an attempt refused, dropped, without CONFIRM or with its response more than 250 ns off is
failed: REL_FAILCOUNT and event 207, a SEEKING channel staying so and a HELD one in beacon release seeking again
with event 204 + ch. The exchange ends with event 200 + ch at desk and card, the card with 202 + ch on a grant, else
204 + ch and 207; a rendezvous without one ends with the front end going OFF. A session ends at its instant or door
edge. The model's choices in it, no rules of the spec: a command whose premise does not hold changes nothing (log
entry 13); the corners of the exchange (log entry 36); the busy listen of a rendezvous (log entry 54). (15 Air time
and budget; 15 The exchange; 15 The desk's decision; 15 Release modes) -/
def Obligations.TheDeskGrantsOnlyWhenEveryConditionHolds : Prop :=
    (∀ (power : Int) (join : Option (Fin 65536 × BitVec 128)) (ch : Fin 2) (s : State),
      s.asleep = true ∨ s.relDue ch = false →
      exec (.relRendezvous ch power join) s = .next s) ∧
    (∀ (power : Int) (join : Option (Fin 65536 × BitVec 128)) (ch : Fin 2) (s : State),
      s.asleep = false →
      s.relDue ch = true →
      s.bit Reg.CHRON_STATUS 0 = false →
      s.relState ch = 1 →
      ∃ t, exec (.relRendezvous ch power join) s = .next t ∧ t.rdF (Reg.REL_CH_STATUS ch) 4 3 = 4 ∧ t.rdF (Reg.REL_CH_COUNT ch) 16 8 = min (s.rdF (Reg.REL_CH_COUNT ch) 16 8 + 1) 255 ∧ mapGet t.rel.lastRv ch = some s.ticks ∧ t.relState ch = 1 ∧ OnlyRegs [(Reg.REL_CH_STATUS ch), Reg.REL_CH_COUNT ch] { s with rel := { s.rel with lastRv := t.rel.lastRv } } t) ∧
    (∀ (power : Int) (join : Option (Fin 65536 × BitVec 128)) (ch : Fin 2) (s : State),
      s.asleep = false →
      s.relDue ch = true →
      s.bit Reg.CHRON_STATUS 0 = false →
      s.relState ch = 2 →
      s.relSession ch = false →
      s.relDesk = true →
      ∃ t, exec (.relRendezvous ch power join) s = .next t ∧ t.rdF (Reg.REL_CH_STATUS ch) 4 3 = 4 ∧ t.rdF (Reg.REL_CH_COUNT ch) 16 8 = min (s.rdF (Reg.REL_CH_COUNT ch) 16 8 + 1) 255 ∧ mapGet t.rel.lastRv ch = some s.ticks ∧ t.relState ch = 1 ∧ t.pending1 (204 + ch) = true ∧ OnlyEvents ([(Reg.REL_CH_STATUS ch), Reg.REL_CH_COUNT ch] ++ eventRegs (204 + ch)) { s with rel := t.rel } t) ∧
    (∀ (power : Int) (ch : Fin 2) (s : State),
      s.asleep = false →
      s.relDue ch = true →
      { s with rel := { s.rel with lastRv := mapIns (mapErase s.rel.lastRv ch) ch s.ticks } }.relSkip ch = 0 →
      s.relDesk = true →
      s.listenBusy (s.chanBand (s.relChan ch)) power = false →
      s.relState ch = 1 →
      ∃ t, exec (.relRendezvous ch power none) s = .next t ∧ t.rdF (Reg.REL_CH_STATUS ch) 4 3 = 1 ∧ t.relExch ch = none ∧ t.relState ch = 1 ∧ ch.val ∈ t.rel.window ∧ (t.buckets (s.chanBand (s.relChan ch))).sum = (s.buckets (s.chanBand (s.relChan ch))).sum + 1350) ∧
    (∀ (power : Int) (peer : Fin 65536) (nc : BitVec 128) (ch : Fin 2) (s : State),
      s.asleep = false →
      s.relDue ch = true →
      { s with rel := { s.rel with lastRv := mapIns (mapErase s.rel.lastRv ch) ch s.ticks } }.relSkip ch = 0 →
      s.relDesk = true →
      s.listenBusy (s.chanBand (s.relChan ch)) power = false →
      s.relState ch = 1 →
      ∃ t, exec (.relRendezvous ch power (some (peer, nc))) s = .next t ∧ t.rdF (Reg.REL_CH_STATUS ch) 4 3 = 0 ∧ t.bit (Reg.REL_CH_STATUS ch) 2 = true ∧ t.relState ch = 1 ∧ t.rdF (Reg.REL_CH_COUNT ch) 0 16 = min (s.rdF (Reg.REL_CH_COUNT ch) 0 16 + 1) 65535 ∧ (t.relExch ch).isSome = true ∧
      (∀ e ∈ t.relExch ch, e.peer = peer.val ∧ e.nc = leBytes 16 nc.toNat ∧ e.nd.length = 16 ∧ e.challenge.length = 12 ∧ e.ranging.length = 2 ∧ e.decided = false ∧ e.startAt = s.chron.now)) ∧
    (∀ (power : Int) (join : Option (Fin 65536 × BitVec 128)) (ch : Fin 2) (s : State),
      s.asleep = false →
      s.relDue ch = true →
      { s with rel := { s.rel with lastRv := mapIns (mapErase s.rel.lastRv ch) ch s.ticks } }.relSkip ch = 0 →
      s.relDesk = false →
      ∃ t, exec (.relRendezvous ch power join) s = .next t ∧ t.rdF (Reg.REL_CH_STATUS ch) 4 3 = 1 ∧ t.relExch ch = none ∧ ch.val ∈ t.rel.window ∧
      OnlyRegs [Reg.REL_CH_STATUS ch, Reg.RADIO_RX_FREQ, Reg.RADIO_TX_FREQ, Reg.TUNER_SG, Reg.TUNER_24] { s with rel := t.rel, front := t.front } t) ∧
    (∀ (desk : Fin 256) (src target : Fin 65536) (nd : BitVec 128) (challenge : BitVec 96) (ranging : BitVec 16) (delta : List Int) (ch : Fin 2) (s : State),
      s.relDesk = true ∨ s.asleep = true ∨ s.relState ch ≠ 1 ∨ (s.relExch ch).isSome = true ∨ s.rel.window.contains ch.val = false ∨ (target.val ≠ 0xFFFF ∧ target.val ≠ s.ownAddr) →
      exec (.relOpenReceived ch desk src target nd challenge ranging delta) s = .next s) ∧
    (∀ (desk : Fin 256) (src target : Fin 65536) (nd : BitVec 128) (challenge : BitVec 96) (ranging : BitVec 16) (delta : List Int) (ch : Fin 2) (s : State),
      s.relDesk = false →
      s.asleep = false →
      s.relState ch = 1 →
      s.relExch ch = none →
      s.rel.window.contains ch.val = true →
      target.val = 0xFFFF ∨ target.val = s.ownAddr →
      s.rel.noVerdict.contains ch.val = false →
      ∃ t, exec (.relOpenReceived ch desk src target nd challenge ranging delta) s = .next t ∧ (s.budgetShort (s.chanBand (s.relChan ch)) (s.relBudget ch) = true → t.relExch ch = none ∧ t.rdF (Reg.REL_CH_STATUS ch) 4 3 = 3 ∧ t.rdF (Reg.REL_CH_COUNT ch) 16 8 = min (s.rdF (Reg.REL_CH_COUNT ch) 16 8 + 1) 255) ∧
      (s.budgetShort (s.chanBand (s.relChan ch)) (s.relBudget ch) = false → t.rdF (Reg.REL_CH_STATUS ch) 4 3 = 0 ∧ t.bit (Reg.REL_CH_STATUS ch) 2 = true ∧ t.rdF (Reg.REL_CH_COUNT ch) 0 16 = min (s.rdF (Reg.REL_CH_COUNT ch) 0 16 + 1) 65535 ∧ (t.relExch ch).isSome = true ∧ (∀ e ∈ t.relExch ch, e.peer = src.val ∧ e.desk = desk.val ∧ e.nd = leBytes 16 nd.toNat ∧ e.challenge = leBytes 12 challenge.toNat ∧ e.ranging = leBytes 2 ranging.toNat ∧ e.nc.length = 16 ∧ (s.exchKey ch = none → e.refused = true)))) ∧
    (∀ (e : RelExch) (resp : BitVec 96) (offset : Int) (replies : List (Option Bool)) (times : List Int) (confirm : Option (List Byte)) (ch : Fin 2) (s : State),
      s.relExch ch = none ∨ s.relDesk = false ∨ (s.relExch ch = some e ∧ e.decided = true) →
      exec (.relDecision ch resp offset replies times confirm) s = .next s) ∧
    (∀ (e : RelExch) (key delta tag : List Byte) (resp : BitVec 96) (offset : Int) (replies : List (Option Bool)) (times : List Int) (ch : Fin 2) (s : State),
      s.relExch ch = some e →
      s.relDesk = true →
      e.decided = false →
      s.relState ch = 1 ∨ s.relState ch = 2 →
      s.relay ch = 1 →
      s.exchKey ch = some key →
      e.refused = false →
      e.dropped = false →
      -250 ≤ offset ∧ offset ≤ 250 →
      delta.length = 16 →
      leBytes 12 resp.toNat = (relAnswer (relPad key e.nd e.nc) e.challenge e.ranging).1 →
      tag = confirmTag key e.nd e.nc e.challenge (relAnswer (relPad key e.nd e.nc) e.challenge e.ranging).1 e.ranging (relAnswer (relPad key e.nd e.nc) e.challenge e.ranging).2 delta →
      ∃ t, exec (.relDecision ch resp offset replies times (some (relBody 3 ch 0 (delta ++ tag)))) s = .next t ∧ t.relState ch = 2 ∧ t.rdF (Reg.REL_CH_STATUS ch) 16 16 = e.peer % 65536 ∧ t.pending1 (202 + ch) = (decide (s.relState ch = 1) || s.pending1 (202 + ch)) ∧ (∀ x ∈ t.relExch ch, x.decided = true) ∧ (s.relSession ch = true → mapGet t.rel.sessions ch = some (s.sessionEnd ch)) ∧
      (s.relGpio ch = true → t.lockLine ch = s.lockLine ch) ∧ t.rd Reg.REL_FAILCOUNT = s.rd Reg.REL_FAILCOUNT) ∧
    (∀ (e : RelExch) (resp : BitVec 96) (offset : Int) (replies : List (Option Bool)) (times : List Int) (confirm : Option (List Byte)) (ch : Fin 2) (s : State),
      s.relExch ch = some e →
      s.relDesk = true →
      e.decided = false →
      confirm = none ∨ e.refused = true ∨ e.dropped = true ∨ s.relState ch = 0 ∨ offset < -250 ∨ 250 < offset →
      s.relState ch ≠ 2 →
      ∃ t, exec (.relDecision ch resp offset replies times confirm) s = .next t ∧ t.rdF Reg.REL_FAILCOUNT 0 16 = min (s.rdF Reg.REL_FAILCOUNT 0 16 + 1) 65535 ∧ t.pending1 207 = true ∧ t.relState ch = s.relState ch ∧ t.lockLine ch = s.lockLine ch ∧ t.rdF (Reg.REL_CH_STATUS ch) 16 16 = s.rdF (Reg.REL_CH_STATUS ch) 16 16 ∧ (∀ x ∈ t.relExch ch, x.decided = true)) ∧
    (∀ (e : RelExch) (resp : BitVec 96) (offset : Int) (replies : List (Option Bool)) (times : List Int) (confirm : Option (List Byte)) (ch : Fin 2) (s : State),
      s.relExch ch = some e →
      s.relDesk = true →
      e.decided = false →
      s.relState ch = 2 →
      s.relSession ch = false →
      confirm = none ∨ e.refused = true ∨ e.dropped = true ∨ offset < -250 ∨ 250 < offset →
      ∃ t, exec (.relDecision ch resp offset replies times confirm) s = .next t ∧ t.relState ch = 1 ∧ t.rdF Reg.REL_FAILCOUNT 0 16 = min (s.rdF Reg.REL_FAILCOUNT 0 16 + 1) 65535 ∧ t.pending1 207 = true ∧ t.pending1 (204 + ch) = true) ∧
    (∀ (e : RelExch) (ch : Fin 2) (s : State),
      s.relExch ch = some e →
      s.relDesk = true →
      e.decided = true →
      ∃ t, exec (.relExchangeEnd ch) s = .next t ∧ t.relExch ch = none ∧ t.bit (Reg.REL_CH_STATUS ch) 2 = false ∧ t.relState ch = s.relState ch ∧ t.pending1 (200 + ch) = true ∧ OnlyEvents ([(Reg.REL_CH_STATUS ch)] ++ eventRegs 103 ++ eventRegs (200 + ch)) { s with rel := t.rel, front := t.front } t) ∧
    (∀ (e : RelExch) (ch : Fin 2) (s : State),
      (s.relExch ch = none ∧ s.rel.window.contains ch.val = false) ∨ (s.relExch ch = some e ∧ (s.relDesk = false ∨ e.decided = false)) →
      exec (.relExchangeEnd ch) s = .next s) ∧
    (∀ (verdict : Option (List Byte)) (ch : Fin 2) (s : State),
      s.relExch ch = none ∨ s.relDesk = true →
      exec (.relVerdictReceived ch verdict) s = .next s) ∧
    (∀ (e : RelExch) (verdict : Option (List Byte)) (ch : Fin 2) (s : State),
      s.relExch ch = some e →
      s.relDesk = false →
      (∀ b ∈ verdict, s.verdictGrants ch e b = false) →
      ∃ t, exec (.relVerdictReceived ch verdict) s = .next t ∧ t.relExch ch = none ∧ t.rdF Reg.REL_FAILCOUNT 0 16 = min (s.rdF Reg.REL_FAILCOUNT 0 16 + 1) 65535 ∧ t.pending1 (200 + ch) = true ∧ t.pending1 (204 + ch) = true ∧ t.pending1 207 = true ∧ t.rel.noVerdict.contains ch.val = verdict.isNone) ∧
    (∀ (e : RelExch) (key sl tag : List Byte) (ch : Fin 2) (s : State),
      s.relExch ch = some e →
      s.relDesk = false →
      e.desk < 256 →
      s.exchKey ch = some key →
      sl = verdictSeal key e.nd e.nc (1 :: List.replicate 7 0) →
      sl.length = 8 →
      tag = verdictTag key e.nd e.nc sl →
      ∃ t, exec (.relVerdictReceived ch (some (relBody 4 e.desk 0 (sl ++ tag)))) s = .next t ∧ t.relExch ch = none ∧ t.pending1 (200 + ch) = true ∧ t.pending1 (202 + ch) = true ∧ t.rd Reg.REL_FAILCOUNT = s.rd Reg.REL_FAILCOUNT ∧ t.relState ch = s.relState ch) ∧
    (∀ (x : Nat) (ch : Fin 2) (s : State),
      mapGet s.rel.sessions ch = some x →
      s.asleep = false →
      s.relState ch = 2 →
      s.reached x = true →
      ∃ t, exec (.relSessionEnd ch) s = .next t ∧ t.relState ch = 0 ∧ t.pending1 (204 + ch) = true ∧ mapGet t.rel.sessions ch = none ∧ OnlyEvents ([(Reg.REL_CH_STATUS ch)] ++ eventRegs (204 + ch)) { s with rel := t.rel } t) ∧
    (∀ (x : Nat) (ch : Fin 2) (s : State),
      mapGet s.rel.sessions ch = none ∨ s.asleep = true ∨ s.relState ch ≠ 2 ∨ (mapGet s.rel.sessions ch = some x ∧ s.reached x = false) →
      exec (.relSessionEnd ch) s = .next s) ∧
    (∀ (n : Fin 2) (level : Bool) (s : State),
      s.funcPin (0x42 + n) = none →
      exec (.doorInEdge n level) s = .next s) ∧
    (∀ (p : Nat) (n : Fin 2) (level : Bool) (s : State),
      s.funcPin (0x42 + n) = some p →
      s.enabled 5 = true →
      s.asleep = false →
      s.bit Reg.REL_DOOR n ≠ level →
      ∃ t, exec (.doorInEdge n level) s = .next t ∧ t.bit Reg.REL_DOOR n = level ∧ t.bit Reg.REL_DOOR (2 + n) = true ∧ t.pending1 206 = true ∧ mapGet t.ser.pads p = some level ∧ (s.relDesk = true → s.relState n = 2 → s.relSession n = true → t.relState n = 0 ∧ t.pending1 (204 + n) = true) ∧ (s.relState n ≠ 2 ∨ s.relSession n = false → OnlyEvents ([Reg.REL_DOOR] ++ eventRegs 206) { s with ser := t.ser } t)) ∧
    (∀ (p : Nat) (n : Fin 2) (level : Bool) (s : State),
      s.funcPin (0x42 + n) = some p →
      s.enabled 5 = false ∨ s.bit Reg.REL_DOOR n = level →
      ∃ t, exec (.doorInEdge n level) s = .next t ∧ OnlyRegs [] { s with ser := t.ser } t ∧ mapGet t.ser.pads p = some level) ∧
    (∀ (ch : Fin 2) (s : State),
      s.relExch ch = none →
      s.rel.window.contains ch.val = true →
      s.front.tx = none →
      ∃ t, exec (.relExchangeEnd ch) s = .next t ∧ t.rel.window.contains ch.val = false ∧ t.front.strobes = s.front.strobes ++ [⟨0, true, true⟩] ∧
      t = { s with rel := { s.rel with window := t.rel.window }, front := { s.front with strobes := t.front.strobes } }) ∧
    (∀ (power : Int) (join : Option (Fin 65536 × BitVec 128)) (ch : Fin 2) (s : State),
      s.asleep = false →
      s.relDue ch = true →
      { s with rel := { s.rel with lastRv := mapIns (mapErase s.rel.lastRv ch) ch s.ticks } }.relSkip ch = 0 →
      s.relDesk = true →
      s.relState ch = 1 →
      s.listenBusy (s.chanBand (s.relChan ch)) power = true →
      ∃ t, exec (.relRendezvous ch power join) s = .next t ∧ t.relExch ch = none ∧ t.relState ch = 1 ∧ t.front = s.front ∧
      t.rdF (Reg.LINK_BAND_CNT (s.chanBand (s.relChan ch))) 16 16 = min (s.rdF (Reg.LINK_BAND_CNT (s.chanBand (s.relChan ch))) 16 16 + 1) 65535 ∧
      t.rdF (Reg.REL_CH_COUNT ch) 16 8 = min (s.rdF (Reg.REL_CH_COUNT ch) 16 8 + 1) 255)

/-- SLIP_INTAKE takes the oldest slip of a source: sticky bit, repeat count, trace entry by the rule of R541, then the
reaction to its promoted class: NOTES and event 4; event 5; the severe-pending bit, event 7 and the grace timer if
idle; or the grave hold with FAULT_GRAVE and the key store kept. A sticky clear clears exactly the ones of both
registers, but not the sticky bit of a slip taken in the same cycle. Grace expiry takes the fault reset or makes the
timer idle. FAULT_INJECT sends a slip of source 127, class 3 being refused and counted. A debug trace read removes
the oldest entry, every other master reads zero; only a debug write clears LOST. A regulator out of range holds the
part. (R543) -/
def Obligations.SlipsAreTakenAndReactByTheirClass : Prop :=
    (∀ (w : Word) (rest : List Word) (src : Fin 128) (s : State),
      takeFirst src s.fault.waiting = some (w, rest) →
      s.promoted src (fld w 13 2) = 0 →
      ∃ t, exec (.slipIntake src) s = .next t ∧ t.fault.waiting = rest ∧ t.bit (Reg.FAULT_STICKY (src / 32)) (src % 32) = true ∧ t.rdF Reg.FAULT_COUNT 16 8 = (if s.bit (Reg.FAULT_STICKY (src / 32)) (src % 32) then min (s.rdF Reg.FAULT_COUNT 16 8 + 1) 255 else s.rdF Reg.FAULT_COUNT 16 8) ∧ t.rdF Reg.FAULT_COUNT 0 16 = min (s.rdF Reg.FAULT_COUNT 0 16 + 1) 65535 ∧ t.pending1 4 = true ∧ (((s.faultMap src / 4) % 2 = 1 → s.fault.trace.length < 16 → t.fault.trace = s.fault.trace ++ [⟨setFld w 13 2 0, word s.ticks⟩]) ∧ ((s.faultMap src / 4) % 2 = 0 → t.fault.trace = s.fault.trace)) ∧
      ((s.faultMap src / 4) % 2 = 1 → 16 ≤ s.fault.trace.length → t.rdF Reg.FAULT_TRACE_STAT 8 8 = min (s.rdF Reg.FAULT_TRACE_STAT 8 8 + 1) 255 ∧ t.fault.trace = s.fault.trace)) ∧
    (∀ (w : Word) (rest : List Word) (src : Fin 128) (s : State),
      takeFirst src s.fault.waiting = some (w, rest) →
      s.promoted src (fld w 13 2) = 1 →
      ∃ t, exec (.slipIntake src) s = .next t ∧ t.fault.waiting = rest ∧ t.bit (Reg.FAULT_STICKY (src / 32)) (src % 32) = true ∧ t.rdF Reg.FAULT_COUNT 16 8 = (if s.bit (Reg.FAULT_STICKY (src / 32)) (src % 32) then min (s.rdF Reg.FAULT_COUNT 16 8 + 1) 255 else s.rdF Reg.FAULT_COUNT 16 8) ∧ t.rdF Reg.FAULT_COUNT 0 16 = s.rdF Reg.FAULT_COUNT 0 16 ∧ t.pending1 5 = true ∧ (((s.faultMap src / 4) % 2 = 1 → s.fault.trace.length < 16 → t.fault.trace = s.fault.trace ++ [⟨setFld w 13 2 1, word s.ticks⟩]) ∧ ((s.faultMap src / 4) % 2 = 0 → t.fault.trace = s.fault.trace)) ∧ t.rd (Reg.FAULT_SEVPEND (src / 32)) = s.rd (Reg.FAULT_SEVPEND (src / 32))) ∧
    (∀ (w : Word) (rest : List Word) (src : Fin 128) (s : State),
      takeFirst src s.fault.waiting = some (w, rest) →
      s.promoted src (fld w 13 2) = 2 →
      s.fault.trace.length < 16 →
      ∃ t, exec (.slipIntake src) s = .next t ∧ t.fault.waiting = rest ∧ t.bit (Reg.FAULT_STICKY (src / 32)) (src % 32) = true ∧ t.rdF Reg.FAULT_COUNT 16 8 = (if s.bit (Reg.FAULT_STICKY (src / 32)) (src % 32) then min (s.rdF Reg.FAULT_COUNT 16 8 + 1) 255 else s.rdF Reg.FAULT_COUNT 16 8) ∧ t.bit (Reg.FAULT_SEVPEND (src / 32)) (src % 32) = true ∧ t.pending1 7 = true ∧ t.bit Reg.FAULT_STATUS 0 = true ∧ t.rdF Reg.FAULT_STATUS 16 16 = (if s.bit Reg.FAULT_STATUS 0 then s.rdF Reg.FAULT_STATUS 16 16 else s.rdF Reg.FAULT_CFG 0 16) ∧
      t.fault.trace = s.fault.trace ++ [⟨setFld w 13 2 2, word s.ticks⟩] ∧ OnlyEvents ([Reg.FAULT_STICKY (src / 32), Reg.FAULT_SEVPEND (src / 32), Reg.FAULT_COUNT, Reg.FAULT_STATUS] ++ eventRegs 7) { s with fault := t.fault, cyc := t.cyc } t) ∧
    (∀ (w : Word) (rest : List Word) (src : Fin 128) (s : State),
      takeFirst src s.fault.waiting = some (w, rest) →
      s.promoted src (fld w 13 2) = 2 →
      16 ≤ s.fault.trace.length →
      ∃ t, exec (.slipIntake src) s = .next t ∧ t.fault.waiting = rest ∧ t.bit (Reg.FAULT_STICKY (src / 32)) (src % 32) = true ∧ t.rdF Reg.FAULT_COUNT 16 8 = (if s.bit (Reg.FAULT_STICKY (src / 32)) (src % 32) then min (s.rdF Reg.FAULT_COUNT 16 8 + 1) 255 else s.rdF Reg.FAULT_COUNT 16 8) ∧ t.rdF Reg.FAULT_TRACE_STAT 8 8 = min (s.rdF Reg.FAULT_TRACE_STAT 8 8 + 1) 255 ∧ t.fault.trace = s.fault.trace ∧ t.bit (Reg.FAULT_SEVPEND (src / 32)) (src % 32) = true ∧ t.pending1 7 = true) ∧
    (∀ (w : Word) (rest : List Word) (src : Fin 128) (s : State),
      takeFirst src s.fault.waiting = some (w, rest) →
      s.promoted src (fld w 13 2) = 3 →
      s.isHeld = false →
      ∃ t, exec (.slipIntake src) s = .next t ∧ t.boot.phase = .grave ∧ t.rd Reg.FAULT_GRAVE = w ∧ t.bit (Reg.FAULT_STICKY (src / 32)) (src % 32) = true ∧ (∀ n < 64, 32 ≤ n → t.keyType n = 0) ∧ t.cust.store = s.cust.store ∧ t.cust.life = s.cust.life ∧ t.boot.padHold = [] ∧ (∀ a, memAreas a ≠ [] → t.byteAt a = s.byteAt a)) ∧
    (∀ (r : Fin 3) (s : State),
      s.isHeld = false →
      ∃ t, exec (.regulatorOutOfRange r) s = .next t ∧ t.boot.phase = .grave ∧ t.rd Reg.FAULT_GRAVE = slipWord 2 0x0F 3 r ∧ t.bit (Reg.FAULT_STICKY 0) 2 = true ∧ t.cust.store = s.cust.store ∧ t.cust.life = s.cust.life) ∧
    (∀ (j : Fin 4) (v : Word) (s : State),
      (∀ x ∈ s.cyc.slips, x / 32 ≠ j.val) →
      ∃ t, exec (.stickyClear j v) s = .next t ∧ t.rd (Reg.FAULT_STICKY j) = s.rd (Reg.FAULT_STICKY j) &&& ~~~ v ∧ t.rd (Reg.FAULT_SEVPEND j) = s.rd (Reg.FAULT_SEVPEND j) &&& ~~~ v ∧ t.fault.noRecall = (if j.val = 0 ∧ bitOf v 4 = true then [] else s.fault.noRecall) ∧ OnlyRegs [Reg.FAULT_STICKY j, Reg.FAULT_SEVPEND j] { s with fault := t.fault, cyc := t.cyc } t) ∧
    (∀ (s : State),
      s.bit Reg.FAULT_STATUS 0 = true →
      s.rdF Reg.FAULT_STATUS 16 16 = 0 →
      s.anySevere = true →
      s.wdogDue = false →
      s.isHeld = false →
      s.regsWf = true →
      ∃ t, exec .graceExpiry s = .next t ∧ t.rd Reg.RSTC_CAUSE = word (2 ^ 4) ∧ t.bit Reg.RSTC_HIST 4 = true ∧ t.boot.phase = .held ∧ t.bit Reg.GPIO_HOLD 0 = true ∧ t.boot.padHold = s.captureHold (Config.freeNat s.freeCtr) ∧ t.chron.now = s.chron.now ∧ t.cust.keys = [] ∧ t.cust.store = s.cust.store ∧ t.cust.life = s.cust.life ∧
      (∀ a, memAreas a ≠ [] → t.byteAt a = s.byteAt a)) ∧
    (∀ (s : State),
      s.bit Reg.FAULT_STATUS 0 = true →
      s.rdF Reg.FAULT_STATUS 16 16 = 0 →
      s.anySevere = false →
      s.cyc.severe = false →
      ∃ t, exec .graceExpiry s = .next t ∧ t.bit Reg.FAULT_STATUS 0 = false ∧ OnlyRegs [Reg.FAULT_STATUS] s t) ∧
    (∀ (v : Word) (s : State),
      fld v 13 2 = 3 →
      ∃ t, exec (.faultInject v) s = .next t ∧ t.rdF Reg.FAULT_STATUS 8 8 = min (s.rdF Reg.FAULT_STATUS 8 8 + 1) 255 ∧ OnlyRegs [Reg.FAULT_STATUS] s t) ∧
    (∀ (v : Word) (s : State),
      fld v 13 2 ≠ 3 →
      exec (.faultInject v) s = .next { s with fault := { s.fault with waiting := s.fault.waiting ++ [slipWord 127 0x11 (fld v 13 2) (fld v 16 16)] } }) ∧
    (∀ (m : Master) (s : State),
      s.locked m = false →
      m ≠ .debug →
      exec (.traceSlipRead m) s = .next (s.answer 0) ∧ exec (.traceStatWrite m) s = .next s) ∧
    (∀ (e : TraceEntry) (l : List TraceEntry) (s : State),
      s.locked .debug = false →
      s.fault.trace = e :: l →
      ∃ t, exec (.traceSlipRead .debug) s = .next t ∧ t.ans.value = e.slip ∧ t.ans.error = false ∧ t.fault.trace = l ∧ OnlyRegs [] { s with ans := t.ans, fault := t.fault } t) ∧
    (∀ (s : State),
      s.locked .debug = false →
      s.fault.trace = [] →
      exec (.traceSlipRead .debug) s = .next (s.answer 0)) ∧
    (∀ (s : State),
      s.locked .debug = false →
      ∃ t, exec (.traceStatWrite .debug) s = .next t ∧ t.rdF Reg.FAULT_TRACE_STAT 8 8 = 0 ∧ t.rdF Reg.FAULT_TRACE_STAT 0 8 = s.rdF Reg.FAULT_TRACE_STAT 0 8 ∧ OnlyRegs [Reg.FAULT_TRACE_STAT] s t) ∧
    (∀ (src : Fin 128) (j : Fin 4) (w : Word) (rest : List Word) (s : State),
      takeFirst src s.fault.waiting = some (w, rest) →
      s.promoted src (fld w 13 2) ≠ 3 →
      src.val / 32 = j.val →
      ∃ u, exec (.slipIntake src) s = .next u ∧ ∃ t, exec (.stickyClear j 0xFFFFFFFF) u = .next t ∧ t.bit (Reg.FAULT_STICKY j) (src % 32) = true)

/-- 0x0C96FEED zeroes WDOG_COUNT and makes the held WARN and LIMIT take effect together; another value is counted, and
while RUN is 1 starts the warning stage: WARNED, event 15, a severe slip of kind 0x0A. WARN reached warns; LIMIT
reached takes a warm reset with cause bit 3; neither acts with RUN at 0. A WARN or LIMIT write is ignored under
LOCK, refused and counted when WARN would reach LIMIT or LIMIT would be below 30, else held. LOCK sets; halt and
resume are kept. Recall of a resource without holder, barred, or not waited for long enough without progress does
nothing; otherwise its action, count, record and event 8 follow; of a master's port it ends its transaction with an
error response, a custodian recall restarts the enclave. RECALL_TICKS after the action a resource that is idle is
done, and one still not idle gives a severe slip and is not recalled again. The model's choices in it, no rules of
the spec: a command whose premise does not hold changes nothing (log entry 13); the holder codes (log entry 46); a
custodian recall's wait and heartbeat (log entry 55). (16 Watchdog; 16 Recall) -/
def Obligations.TheWatchdogAndRecallActOnTheirLimits : Prop :=
    (∀ (s : State),
      ∃ t, exec (.wdogFeed 0x0C96FEED) s = .next t ∧ t.rd Reg.WDOG_COUNT = 0 ∧ t.rd Reg.WDOG_WARN = s.fault.heldWarn.getD (s.rd Reg.WDOG_WARN) ∧ t.rd Reg.WDOG_LIMIT = s.fault.heldLimit.getD (s.rd Reg.WDOG_LIMIT) ∧ t.fault.heldWarn = none ∧ t.fault.heldLimit = none ∧ OnlyRegs [Reg.WDOG_COUNT, Reg.WDOG_WARN, Reg.WDOG_LIMIT] { s with fault := t.fault } t) ∧
    (∀ (key : Word) (s : State),
      key ≠ 0x0C96FEED →
      s.bit Reg.WDOG_CTRL 0 = true →
      ∃ t, exec (.wdogFeed key) s = .next t ∧ t.rdF Reg.WDOG_STATUS 8 8 = min (s.rdF Reg.WDOG_STATUS 8 8 + 1) 255 ∧ t.bit Reg.WDOG_STATUS 0 = true ∧ t.pending1 15 = true ∧ t.fault.waiting = s.fault.waiting ++ [slipWord 12 0x0A 2 (s.rdF Reg.WDOG_COUNT 0 16)] ∧ t.rd Reg.WDOG_COUNT = s.rd Reg.WDOG_COUNT) ∧
    (∀ (key : Word) (s : State),
      key ≠ 0x0C96FEED →
      s.bit Reg.WDOG_CTRL 0 = false →
      ∃ t, exec (.wdogFeed key) s = .next t ∧ t.rdF Reg.WDOG_STATUS 8 8 = min (s.rdF Reg.WDOG_STATUS 8 8 + 1) 255 ∧ OnlyRegs [Reg.WDOG_STATUS] s t) ∧
    (∀ (s : State),
      s.bit Reg.WDOG_CTRL 0 = true →
      s.rdF Reg.WDOG_WARN 0 24 ≠ 0 →
      s.rdF Reg.WDOG_WARN 0 24 = s.rdF Reg.WDOG_COUNT 0 24 →
      ∃ t, exec .wdogWarning s = .next t ∧ t.bit Reg.WDOG_STATUS 0 = true ∧ t.pending1 15 = true ∧ t.fault.waiting = s.fault.waiting ++ [slipWord 12 0x0A 2 (s.rdF Reg.WDOG_COUNT 0 16)] ∧ (s.asleep = true → t.pwr.waking = true ∧ 6 ∈ t.pwr.causes)) ∧
    (∀ (s : State),
      s.bit Reg.WDOG_CTRL 0 = false ∨ s.rdF Reg.WDOG_WARN 0 24 = 0 ∨ s.rdF Reg.WDOG_WARN 0 24 ≠ s.rdF Reg.WDOG_COUNT 0 24 →
      exec .wdogWarning s = .next s) ∧
    (∀ (s : State),
      s.bit Reg.WDOG_CTRL 0 = true →
      s.rdF Reg.WDOG_LIMIT 0 24 ≤ s.rdF Reg.WDOG_COUNT 0 24 →
      s.isHeld = false →
      s.regsWf = true →
      ∃ t, exec .wdogReset s = .next t ∧ t.rd Reg.RSTC_CAUSE = word (2 ^ 3) ∧ t.bit Reg.RSTC_HIST 3 = true ∧ t.boot.phase = .held ∧ t.bit Reg.GPIO_HOLD 0 = true ∧ t.boot.padHold = s.captureHold (Config.freeNat s.freeCtr) ∧ t.chron.now = s.chron.now ∧ t.cust.keys = [] ∧ t.cust.store = s.cust.store ∧ t.cust.life = s.cust.life ∧
      (∀ a, memAreas a ≠ [] → t.byteAt a = s.byteAt a) ∧ t.bit Reg.WDOG_CTRL 0 = false) ∧
    (∀ (s : State),
      s.bit Reg.WDOG_CTRL 0 = false ∨ s.rdF Reg.WDOG_COUNT 0 24 < s.rdF Reg.WDOG_LIMIT 0 24 →
      exec .wdogReset s = .next s) ∧
    (∀ (limit : Bool) (v : Word) (s : State),
      s.bit Reg.WDOG_CTRL 1 = true →
      exec (.wdogLimitWrite limit v) s = .next s) ∧
    (∀ (v : Word) (s : State),
      s.bit Reg.WDOG_CTRL 1 = false →
      fld v 0 24 < 30 ∨ (s.wdogNext false ≠ 0 ∧ fld v 0 24 ≤ s.wdogNext false) →
      ∃ t, exec (.wdogLimitWrite true v) s = .next t ∧ t.rdF Reg.WDOG_STATUS 16 8 = min (s.rdF Reg.WDOG_STATUS 16 8 + 1) 255 ∧ OnlyRegs [Reg.WDOG_STATUS] s t) ∧
    (∀ (v : Word) (s : State),
      s.bit Reg.WDOG_CTRL 1 = false →
      30 ≤ fld v 0 24 →
      s.wdogNext false < fld v 0 24 →
      exec (.wdogLimitWrite true v) s = .next { s with fault := { s.fault with heldLimit := some (word (fld v 0 24)) } }) ∧
    (∀ (v : Word) (s : State),
      s.bit Reg.WDOG_CTRL 1 = false →
      s.wdogNext true < 30 ∨ (fld v 0 24 ≠ 0 ∧ s.wdogNext true ≤ fld v 0 24) →
      ∃ t, exec (.wdogLimitWrite false v) s = .next t ∧ t.rdF Reg.WDOG_STATUS 16 8 = min (s.rdF Reg.WDOG_STATUS 16 8 + 1) 255 ∧ OnlyRegs [Reg.WDOG_STATUS] s t) ∧
    (∀ (v : Word) (s : State),
      s.bit Reg.WDOG_CTRL 1 = false →
      30 ≤ s.wdogNext true →
      fld v 0 24 = 0 ∨ fld v 0 24 < s.wdogNext true →
      exec (.wdogLimitWrite false v) s = .next { s with fault := { s.fault with heldWarn := some (word (fld v 0 24)) } }) ∧
    (∀ (s : State),
      ∃ t, exec .wdogLock s = .next t ∧ t.bit Reg.WDOG_CTRL 1 = true ∧ t.bit Reg.WDOG_CTRL 0 = s.bit Reg.WDOG_CTRL 0 ∧ t.bit Reg.WDOG_CTRL 2 = s.bit Reg.WDOG_CTRL 2 ∧ OnlyRegs [Reg.WDOG_CTRL] s t) ∧
    (∀ (s : State),
      exec .debugHalt s = .next { s with fault := { s.fault with halted := true } } ∧ exec .debugResume s = .next { s with fault := { s.fault with halted := false } }) ∧
    (∀ (res : Recallable) (s : State),
      s.holder res = none ∨ recallKey res ∈ s.fault.noRecall ∨ s.recallDue res = false →
      exec (.recallHolder res) s = .next s) ∧
    (∀ (c h : Nat) (res : Recallable) (s : State),
      c = recallCode res →
      s.holder res = some h →
      recallKey res ∉ s.fault.noRecall →
      s.recallDue res = true →
      c ≠ 5 →
      ∃ t, exec (.recallHolder res) s = .next t ∧ t.rd Reg.FAULT_RECALL = word (c + h * 256 + 2 ^ 31) ∧ t.pending1 8 = true ∧ (res, 0) ∈ t.fault.recalled ∧ slipWord 4 0x0B 1 (c + h * 256) ∈ t.fault.waiting ∧ t.rdF Reg.FAULT_COUNT 24 8 = min (((s.recallAction res).rdF Reg.FAULT_COUNT 24 8) + 1) 255) ∧
    (∀ (c h : Nat) (res : Recallable) (s : State),
      c = recallCode res →
      s.holder res = some h →
      recallKey res ∉ s.fault.noRecall →
      c = 5 →
      ∃ t, exec (.recallHolder res) s = .next t ∧ t.rdF Reg.FAULT_COUNT 24 8 = min (s.rdF Reg.FAULT_COUNT 24 8 + 1) 255 ∧ t.rd Reg.FAULT_RECALL = word (c + h * 256 + 2 ^ 31) ∧ t.pending1 8 = true ∧ (res, 0) ∈ t.fault.recalled ∧ slipWord 4 0x0D 1 0 ∈ t.fault.waiting ∧ t.cust.keys = s.cust.store ∧ (∀ k < 4, ((s.mb k).phase == .running || (s.mb k).phase == .waiting) = true → (t.mb k).phase = .refusing)) ∧
    (∀ (r : SpineReq) (m : Master) (s : State),
      s.spineF.outst = [] →
      s.spineS.outst = [r] →
      r.master = m →
      recallKey (.port m) ∉ s.fault.noRecall →
      s.recallDue (.port m) = true →
      ∃ t, exec (.recallHolder (.port m)) s = .next t ∧ t.spineS.outst = [] ∧ t.ans.error = true ∧ slipWord 4 0x0B 1 (4 + masterId m * 256) ∈ t.fault.waiting) ∧
    (∀ (res : Recallable) (s : State),
      (∀ p ∈ s.fault.recalled, recallKey p.1 ≠ recallKey res ∨ p.2 < s.recallTicks) →
      exec (.recallOutcomeCheck res) s = .next s) ∧
    (∀ (res : Recallable) (s : State),
      s.fault.recalled.any (fun p => recallKey p.1 == recallKey res && decide (s.recallTicks ≤ p.2)) = true →
      s.resIdle res = true →
      ∃ t, exec (.recallOutcomeCheck res) s = .next t ∧ t = { s with fault := { s.fault with recalled := s.fault.recalled.filter (fun p => recallKey p.1 != recallKey res) } }) ∧
    (∀ (res : Recallable) (s : State),
      s.fault.recalled.any (fun p => recallKey p.1 == recallKey res && decide (s.recallTicks ≤ p.2)) = true →
      s.resIdle res = false →
      ∃ t, exec (.recallOutcomeCheck res) s = .next t ∧ recallKey res ∈ t.fault.noRecall ∧ (∀ p ∈ t.fault.recalled, recallKey p.1 ≠ recallKey res) ∧ t.bit Reg.FAULT_RECALL 16 = true ∧ (t.fault.waiting.drop s.fault.waiting.length).map (fun w => (fld w 0 7, fld w 7 6, fld w 13 2)) = [(4, 0x0C, 2)] ∧ OnlyRegs [Reg.FAULT_RECALL] { s with fault := t.fault } t)

/-- On an enabled interface: a frame with a wrong CRC is counted, an unknown OP or a wrong length is answered 0x21;
HELLO gives ID, UID and build; READ and WRITE move main SRAM words, an unmapped address is answered 0x23; ENQUEUE
answers the queue status; a software frame fills the receive buffer with event 216, or is answered 0x27 while it is
held. TXCTRL sends one frame, or is counted while busy. HIF-2, whose pads the pin map must wire, writes whole words,
counts one cut short, reads after 0xA5, or sends 0x5E; STATUS clears the error record; the window is set. Doorbells
raise their events. HIF-3 moves bytes; out of its reach a write is discarded, a read gives zeros, counted with event
221. A disabled interface does nothing. A write behind a kept one is kept (HIF-1, HIF-2); a word that another
interface has written in the same cycle keeps its value (HIF-3). The model's choices in it, no rules of the spec: a
command whose premise does not hold changes nothing (log entry 13); a locked debug master gets an error response and
no slip (log entry 25); a long LEN (log entry 43); host accesses that wait or stop (log entry 47). (17 HIF-1; 17
HIF-2; 17 HIF-3) -/
def Obligations.HostFramesAndTransactionsAreServed : Prop :=
    (∀ (lo hi : Nat) (c : Instr) (line : List Byte) (s : State),
      (c, lo, hi) ∈ [(Instr.hif1Hello line, 1, 1), (.hif1Read line, 0x10, 0x10), (.hif1Write line, 0x11, 0x11), (.hif1Enqueue line, 0x12, 0x12), (.hif1SoftwareFrame line, 0x40, 0x7F)] →
      s.hifOn 0 = false →
      exec c s = .next s) ∧
    (∀ (lo hi : Nat) (c : Instr) (line : List Byte) (s : State),
      (c, lo, hi) ∈ [(Instr.hif1Hello line, 1, 1), (.hif1Read line, 0x10, 0x10), (.hif1Write line, 0x11, 0x11), (.hif1Enqueue line, 0x12, 0x12), (.hif1SoftwareFrame line, 0x40, 0x7F)] →
      s.hifOn 0 = true →
      parseFrame line = none →
      ∃ t, exec c s = .next t ∧ t.rdF Reg.HIF_ERR 0 8 = min (s.rdF Reg.HIF_ERR 0 8 + 1) 255 ∧ t.hif.errSeen = true ∧ OnlyRegs [Reg.HIF_ERR] { s with hif := t.hif } t ∧ t.hif.txd = s.hif.txd) ∧
    (∀ (lo hi : Nat) (c : Instr) (f : HifFrame) (line : List Byte) (s : State),
      (c, lo, hi) ∈ [(Instr.hif1Hello line, 1, 1), (.hif1Read line, 0x10, 0x10), (.hif1Write line, 0x11, 0x11), (.hif1Enqueue line, 0x12, 0x12), (.hif1SoftwareFrame line, 0x40, 0x7F)] →
      s.hifOn 0 = true →
      parseFrame line = some f →
      hif1Known f.op = false ∨ (lo ≤ f.op ∧ f.op ≤ hi ∧ f.whole = false) →
      ∃ t, exec c s = .next t ∧ t.hif.txd = replyFrame f 0x21 [] ∧ OnlyRegs [] { s with hif := t.hif } t) ∧
    (∀ (lo hi : Nat) (c : Instr) (f : HifFrame) (line : List Byte) (s : State),
      (c, lo, hi) ∈ [(Instr.hif1Hello line, 1, 1), (.hif1Read line, 0x10, 0x10), (.hif1Write line, 0x11, 0x11), (.hif1Enqueue line, 0x12, 0x12), (.hif1SoftwareFrame line, 0x40, 0x7F)] →
      s.hifOn 0 = true →
      parseFrame line = some f →
      hif1Known f.op = true →
      ¬ (lo ≤ f.op ∧ f.op ≤ hi) →
      exec c s = .next s) ∧
    (∀ (f : HifFrame) (line : List Byte) (s : State),
      s.hifOn 0 = true →
      parseFrame line = some f →
      f.op = 1 →
      f.whole = true →
      ∃ t, exec (.hif1Hello line) s = .next t ∧ OnlyRegs [] { s with hif := t.hif } t ∧ t.hif.txd = (if f.len = 0 then replyFrame f 0 (leBytes 4 s.sysctlId.toNat ++ leBytes 8 Config.uid.toNat ++ leBytes 4 (s.rd Reg.CATL_BUILD).toNat) else replyFrame f 0x21 [])) ∧
    (∀ (a n : Nat) (f : HifFrame) (line : List Byte) (s : State),
      a = b4 f.payload 0 / 4 * 4 →
      n = b1 f.payload 4 →
      s.hifOn 0 = true →
      parseFrame line = some f →
      f.op = 0x10 →
      f.whole = true →
      f.len = 5 →
      1 ≤ n ∧ n ≤ 64 →
      s.hostHeld = false →
      (∀ i < n, region (a + 4 * i) = .sram ∧ s.absentAt (a + 4 * i) = none) →
      ∃ t, exec (.hif1Read line) s = .next t ∧ t.hif.txd = replyFrame f 0 (s.bytesAt a (4 * n)) ∧ OnlyRegs [] { s with hif := t.hif } t) ∧
    (∀ (a n : Nat) (f : HifFrame) (line : List Byte) (s : State),
      a = b4 f.payload 0 / 4 * 4 →
      n = b1 f.payload 4 →
      s.hifOn 0 = true →
      parseFrame line = some f →
      f.op = 0x10 →
      f.whole = true →
      f.len ≠ 5 ∨ n = 0 ∨ 64 < n →
      ∃ t, exec (.hif1Read line) s = .next t ∧ t.hif.txd = replyFrame f 0x21 [] ∧ OnlyRegs [] { s with hif := t.hif } t) ∧
    (∀ (a n : Nat) (f : HifFrame) (line : List Byte) (s : State),
      a = b4 f.payload 0 / 4 * 4 →
      n = b1 f.payload 4 →
      s.hifOn 0 = true →
      parseFrame line = some f →
      f.op = 0x10 →
      f.whole = true →
      f.len = 5 →
      1 ≤ n ∧ n ≤ 64 →
      s.hostHeld = false →
      region a = .unmapped →
      s.absentAt a = none →
      ∃ t, exec (.hif1Read line) s = .next t ∧ t.hif.txd = replyFrame f 0x23 [] ∧ t.hif.errDue = s.hif.errDue ++ [1]) ∧
    (∀ (a n : Nat) (f : HifFrame) (line : List Byte) (s : State),
      a = b4 f.payload 0 / 4 * 4 →
      f.len = 4 + 4 * n →
      s.hifOn 0 = true →
      parseFrame line = some f →
      f.op = 0x11 →
      f.whole = true →
      1 ≤ n ∧ n ≤ 256 →
      s.hostHeld = false →
      s.cyc.hifWrites.all (fun p => decide (1 ≤ p.1)) = true →
      (∀ i < n, region (a + 4 * i) = .sram ∧ s.absentAt (a + 4 * i) = none) →
      ∃ t, exec (.hif1Write line) s = .next t ∧ t.hif.txd = replyFrame f 0 [] ∧ t.bytesAt a (4 * n) = f.payload.drop 4 ∧ (∀ x, (x < a ∨ a + 4 * n ≤ x) → t.byteAt x = s.byteAt x) ∧ t = { s with mem := t.mem, hif := t.hif, cyc := t.cyc }) ∧
    (∀ (f : HifFrame) (line : List Byte) (s : State),
      s.hifOn 0 = true →
      parseFrame line = some f →
      f.op = 0x11 →
      f.whole = true →
      f.len < 8 ∨ 1028 < f.len ∨ f.len % 4 ≠ 0 →
      ∃ t, exec (.hif1Write line) s = .next t ∧ t.hif.txd = replyFrame f 0x21 [] ∧ OnlyRegs [] { s with hif := t.hif } t) ∧
    (∀ (f : HifFrame) (line : List Byte) (s : State),
      s.hifOn 0 = true →
      parseFrame line = some f →
      f.op = 0x12 →
      f.whole = true →
      3 ≤ f.len ∧ f.len ≤ 2049 →
      (s.hifEnqueue (b2 f.payload 0) (f.payload.drop 2)).isSome = true →
      (∃ x ∈ s.hifEnqueue (b2 f.payload 0) (f.payload.drop 2), exec (.hif1Enqueue line) s = .next ({ x.2.2 with hif := { x.2.2.hif with txd := replyFrame f (if x.1 = 0 then 0 else 0x28) (byte x.1 :: leBytes 4 x.2.1), txBit := 4 * max 1 (x.2.2.rdF Reg.HIF_CFG 16 12) } } : State) ∧ (s.qeOn = false → (x.1 = 3 ∧ x.2.2 = { s with freeCtr := x.2.2.freeCtr })))) ∧
    (∀ (f : HifFrame) (line : List Byte) (s : State),
      s.hifOn 0 = true →
      parseFrame line = some f →
      0x40 ≤ f.op ∧ f.op < 0x80 →
      f.whole = true →
      f.len ≤ 1024 →
      s.bit Reg.HIF1_RXINFO 11 = true →
      ∃ t, exec (.hif1SoftwareFrame line) s = .next t ∧ t.hif.txd = replyFrame f 0x27 [] ∧ OnlyRegs [] { s with hif := t.hif } t) ∧
    (∀ (f : HifFrame) (line : List Byte) (s : State),
      s.hifOn 0 = true →
      parseFrame line = some f →
      0x40 ≤ f.op ∧ f.op < 0x80 →
      f.whole = true →
      f.len ≤ 1024 →
      s.bit Reg.HIF1_RXINFO 11 = false →
      ∃ t, exec (.hif1SoftwareFrame line) s = .next t ∧ t.bytesAt hifRxBuf f.len = f.payload ∧ t.rd Reg.HIF1_RXINFO = word (f.len + 2 ^ 11 + f.op * 2 ^ 16 + f.seq * 2 ^ 24) ∧ t.pending1 216 = true ∧ t.hif = s.hif ∧
      (∀ x, (x < hifRxBuf ∨ hifRxBuf + f.len ≤ x) → t.byteAt x = s.byteAt x)) ∧
    (∀ (v : Word) (s : State),
      ∃ t, exec (.hif1Rxdone v) s = .next t ∧ t.bit Reg.HIF1_RXINFO 11 = (s.bit Reg.HIF1_RXINFO 11 && !bitOf v 0) ∧ t.rdF Reg.HIF1_RXINFO 0 11 = s.rdF Reg.HIF1_RXINFO 0 11 ∧ OnlyRegs [Reg.HIF1_RXINFO] s t) ∧
    (∀ (v : Word) (s : State),
      s.bit Reg.HIF1_TXSTAT 0 = true →
      ∃ t, exec (.hif1Txctrl v) s = .next t ∧ t.rdF Reg.HIF_ERR 0 8 = min (s.rdF Reg.HIF_ERR 0 8 + 1) 255 ∧ t.hif.errSeen = true ∧ OnlyRegs [Reg.HIF_ERR] { s with hif := t.hif } t ∧ t.hif.txd = s.hif.txd) ∧
    (∀ (v : Word) (s : State),
      s.bit Reg.HIF1_TXSTAT 0 = false →
      fld v 0 11 ≤ 1024 →
      ∃ t, exec (.hif1Txctrl v) s = .next t ∧ t.bit Reg.HIF1_TXSTAT 0 = true ∧ t.hif.txd = hifFrame (fld v 16 8) (fld v 24 8) (s.bytesAt hifTxBuf (fld v 0 11)) ∧ OnlyRegs [Reg.HIF1_TXSTAT] { s with hif := t.hif } t) ∧
    (∀ (s : State),
      s.bit Reg.HIF1_TXSTAT 0 = true →
      ∃ t, exec .hif1TxDone s = .next t ∧ t.bit Reg.HIF1_TXSTAT 0 = false ∧ t.pending1 217 = true ∧ OnlyEvents ([Reg.HIF1_TXSTAT] ++ eventRegs 217) s t) ∧
    (∀ (s : State),
      s.bit Reg.HIF1_TXSTAT 0 = false →
      exec .hif1TxDone s = .next s) ∧
    (∀ (addr : Fin 65536) (data : List Byte) (count : Fin 256) (slow : Bool) (base : Word) (s : State),
      s.hif2On = false →
      exec (.hif2Write addr data) s = .next s ∧ exec (.hif2Read addr count slow) s = .next s ∧ exec .hif2Status s = .next s ∧ exec (.hif2Window base) s = .next s) ∧
    (∀ (a n : Nat) (addr : Fin 65536) (data : List Byte) (s : State),
      a = s.hif2Addr addr →
      n = min 16 (data.length / 4) →
      s.hif2On = true →
      s.hostHeld = false →
      s.cyc.hifWrites.all (fun p => decide (2 ≤ p.1)) = true →
      (∀ i < n, region (a + 4 * i) = .sram ∧ s.absentAt (a + 4 * i) = none) →
      ∃ t, exec (.hif2Write addr data) s = .next t ∧ t.bytesAt a (4 * n) = data.take (4 * n) ∧ (∀ x, (x < a ∨ a + 4 * n ≤ x) → t.byteAt x = s.byteAt x) ∧ (data.length % 4 = 0 → t = { s with mem := t.mem, cyc := t.cyc }) ∧ (data.length % 4 ≠ 0 → t.rdF Reg.HIF_ERR 8 8 = min (s.rdF Reg.HIF_ERR 8 8 + 1) 255 ∧ t.hif.errSeen = true)) ∧
    (∀ (addr : Fin 65536) (count : Fin 256) (s : State),
      s.hif2On = true →
      ∃ t, exec (.hif2Read addr count true) s = .next t ∧ t.hif.spi = [0x5E] ∧ t.rdF Reg.HIF_ERR 8 8 = min (s.rdF Reg.HIF_ERR 8 8 + 1) 255 ∧ t.hif.errSeen = true ∧ OnlyRegs [Reg.HIF_ERR] { s with hif := t.hif } t) ∧
    (∀ (a n : Nat) (addr : Fin 65536) (count : Fin 256) (s : State),
      a = s.hif2Addr addr →
      n = min 16 count.val →
      s.hif2On = true →
      s.hostHeld = false →
      (∀ i < n, region (a + 4 * i) = .sram ∧ s.absentAt (a + 4 * i) = none) →
      ∃ t, exec (.hif2Read addr count false) s = .next t ∧ t.hif.spi = 0xA5 :: s.bytesAt a (4 * n) ∧ OnlyRegs [] { s with hif := t.hif } t) ∧
    (∀ (s : State),
      s.hif2On = true →
      ∃ t, exec .hif2Status s = .next t ∧ t.hif.spi = [byte (1 + (if s.hif.errSeen then 2 else 0) + (if s.rd Reg.HIF_IRQ_PEND &&& s.rd Reg.HIF_IRQ_MASK = 0 then 0 else 4))] ∧ t.hif.errSeen = false ∧ OnlyRegs [] { s with hif := t.hif } t) ∧
    (∀ (base : Word) (s : State),
      s.hif2On = true →
      ∃ t, exec (.hif2Window base) s = .next t ∧ t.rd Reg.HIF2_WIN = base &&& 0xFFFF0000 ∧ OnlyRegs [Reg.HIF2_WIN] s t) ∧
    (∀ (v : Word) (s : State),
      ∃ t, exec (.hifDbInWrite false v) s = .next t ∧ t.rd Reg.HIF_DB_IN = v ∧ t.pending1 218 = true ∧ OnlyEvents ([Reg.HIF_DB_IN] ++ eventRegs 218) s t) ∧
    (∀ (v : Word) (s : State),
      ∃ t, exec (.hifDbInWrite true v) s = .next t ∧ t.rd Reg.HIF_DB_IN = v ∧ t.pending1 219 = true ∧ OnlyEvents ([Reg.HIF_DB_IN] ++ eventRegs 219) s t) ∧
    (∀ (m : Master) (v : Word) (s : State),
      s.locked m = true →
      exec (.hifDbOutWrite m v) s = .next s.answerError) ∧
    (∀ (m : Master) (v : Word) (s : State),
      s.locked m = false →
      ∃ t, exec (.hifDbOutWrite m v) s = .next t ∧ t.rd Reg.HIF_DB_OUT = v ∧ t.bit Reg.HIF_IRQ_PEND 4 = (s.bit Reg.HIF_IRQ_PEND 4 || decide (m ≠ .host)) ∧ OnlyRegs [Reg.HIF_DB_OUT, Reg.HIF_IRQ_PEND] s t) ∧
    (∀ (addr : Word) (data : List Byte) (n : Fin 4097) (s : State),
      s.hif3On = false →
      exec (.hif3Write addr data) s = .next s ∧ exec (.hif3Read addr n) s = .next s ∧ exec .hif3Status s = .next s) ∧
    (∀ (addr : Word) (data : List Byte) (s : State),
      s.hif3On = true →
      data.length ≤ 4096 →
      s.cyc.hifWrites.all (fun p => decide (3 ≤ p.1)) = true →
      (∀ i < data.length, region (addr.toNat + 1 * i) = .sram ∧ s.absentAt (addr.toNat + 1 * i) = none) →
      ∃ t, exec (.hif3Write addr data) s = .next t ∧ t.bytesAt addr.toNat data.length = data ∧ (∀ x, (x < addr.toNat ∨ addr.toNat + data.length ≤ x) → t.byteAt x = s.byteAt x) ∧ t = { s with mem := t.mem, cyc := t.cyc }) ∧
    (∀ (addr : Word) (n : Fin 4097) (s : State),
      s.hif3On = true →
      (∀ i < n.val, region (addr.toNat + 1 * i) = .sram ∧ s.absentAt (addr.toNat + 1 * i) = none) →
      ∃ t, exec (.hif3Read addr n) s = .next t ∧ t.hif.spi = s.bytesAt addr.toNat n ∧ OnlyRegs [] { s with hif := t.hif } t) ∧
    (∀ (addr : Word) (data : List Byte) (s : State),
      s.hif3On = true →
      1 ≤ data.length ∧ data.length ≤ 4096 →
      (∀ i < data.length, hif3Reach (addr.toNat + i) = false) →
      ∃ t, exec (.hif3Write addr data) s = .next t ∧ t.rdF Reg.HIF_ERR 16 8 = min (s.rdF Reg.HIF_ERR 16 8 + 1) 255 ∧ t.hif.errSeen = true ∧ t.pending1 221 = true ∧ t.bit Reg.HIF_IRQ_PEND 5 = true ∧ OnlyEvents ([Reg.HIF_ERR, Reg.HIF_IRQ_PEND] ++ eventRegs 221) { s with hif := t.hif } t) ∧
    (∀ (addr : Word) (n : Fin 4097) (s : State),
      s.hif3On = true →
      1 ≤ n.val →
      (∀ i < n.val, hif3Reach (addr.toNat + i) = false) →
      ∃ t, exec (.hif3Read addr n) s = .next t ∧ t.hif.spi = List.replicate n 0 ∧ t.rdF Reg.HIF_ERR 16 8 = min (s.rdF Reg.HIF_ERR 16 8 + 1) 255 ∧ t.hif.errSeen = true ∧ t.pending1 221 = true ∧ OnlyEvents ([Reg.HIF_ERR, Reg.HIF_IRQ_PEND] ++ eventRegs 221) { s with hif := t.hif } t) ∧
    (∀ (s : State),
      s.hif3On = true →
      ∃ t, exec .hif3Status s = .next t ∧ t.hif.errSeen = false ∧ t.hif.spi.length = 1 ∧ OnlyRegs [] { s with hif := t.hif } t) ∧
    (∀ (addr : Word) (data : List Byte) (s : State),
      s.hif3On = true →
      data.length = 4 →
      region addr.toNat = .sram →
      s.absentAt addr.toNat = none →
      addr.toNat % 4 = 0 →
      s.cyc.hifWrites.any (fun p => decide (p.1 < 3) && p.2 == addr.toNat) = true →
      exec (.hif3Write addr data) s = .next s) ∧
    (∀ (addr : Fin 65536) (data : List Byte) (s : State),
      s.hif2On = true →
      s.hostHeld = true →
      exec (.hif2Write addr data) s = .next { s with held := s.held ++ [.hif2Write addr data] }) ∧
    (∀ (f : HifFrame) (line : List Byte) (s : State),
      s.hifOn 0 = true →
      parseFrame line = some f →
      f.op = 0x11 →
      f.whole = true →
      8 ≤ f.len ∧ f.len ≤ 1028 ∧ f.len % 4 = 0 →
      s.hostHeld = true →
      exec (.hif1Write line) s = .next { s with held := s.held ++ [.hif1Write line] })

/-- With no ring in turn, or for a row that is not the entry's OP, nothing happens; an entry whose queue command must
wait for a bank or a place on the HIF port stays. A bad entry completes BAD_ENTRY, is counted, and issues nothing.
ENQUEUE completes with what the enqueue on the HIF port gives; FETCH dequeues, copies up to LEN bytes and completes
OK or SHORT_BUF, or with the dequeue's refusal; FLUSH, PAUSE, RESUME and MOVE complete with their queue command's
status and word. Each moves the ring's head on by one. A tail write in the ring's free part sets SQ_TAIL, another is
ignored and counted; without HIF-3 it is an absent register's (log entry 6). Posting a completion writes its 8
bytes, advances CQ_TAIL, sets the ring's bit in HIF_IRQ_PEND and raises 220. A host access error gives its slip,
count and event 221. The model's choices in it, no rules of the spec: a command whose premise does not hold changes
nothing (log entry 13); the ring corners (log entry 48). (17 Host rings) -/
def Obligations.HostRingsServeTheirEntriesInTurn : Prop :=
    (∀ (op : Nat) (c : Instr) (s : State),
      (c, op) ∈ [(Instr.ringEnqueue, 1), (.ringFetch, 2), (.ringFlush, 3), (.ringPause, 4), (.ringResume, 5), (.ringMove, 6)] →
      s.nextRing = none →
      exec c s = .next s) ∧
    (∀ (op r : Nat) (e : RingEntry) (c : Instr) (s : State),
      (c, op) ∈ [(Instr.ringEnqueue, 1), (.ringFetch, 2), (.ringFlush, 3), (.ringPause, 4), (.ringResume, 5), (.ringMove, 6)] →
      s.nextRing = some r →
      e = s.ringEntry r →
      e.bad = false →
      e.op ≠ op →
      exec c s = .next s) ∧
    (∀ (op r : Nat) (e : RingEntry) (c : Instr) (s : State),
      (c, op) ∈ [(Instr.ringEnqueue, 1), (.ringFetch, 2), (.ringFlush, 3), (.ringPause, 4), (.ringResume, 5), (.ringMove, 6)] →
      s.nextRing = some r →
      e = s.ringEntry r →
      e.bad = true →
      ∃ t, exec c s = .next t ∧ t.rdF Reg.HIF_ERR 24 8 = min (s.rdF Reg.HIF_ERR 24 8 + 1) 255 ∧ t.hif.errSeen = true ∧ t.rdF (Reg.RING_SQ_HEAD r) 0 10 = (s.rdF (Reg.RING_SQ_HEAD r) 0 10 + 1) % s.ringSize r ∧ (∃ w < 2 ^ 32, t.hif.posts = s.hif.posts ++ [⟨r, e.cookie, 0x10, e.op, w⟩]) ∧ t.hif.turn = (r + 1) % 4 ∧ OnlyRegs [Reg.HIF_ERR, Reg.RING_SQ_HEAD r] { s with hif := t.hif, freeCtr := t.freeCtr } t) ∧
    (∀ (r : Nat) (e : RingEntry) (x : Nat × Nat × State) (s : State),
      s.nextRing = some r →
      e = s.ringEntry r →
      e.op = 1 →
      e.bad = false →
      s.hifEnqueue e.queue (s.bytesAt e.addr e.len) = some x →
      exec .ringEnqueue s = .next (x.2.2.ringDone r e x.1 x.2.1) ∧ (s.qeOn = false → x.1 = 3)) ∧
    (∀ (op r : Nat) (e : RingEntry) (k : QCmd) (c : Instr) (s : State),
      s.nextRing = some r →
      e = s.ringEntry r →
      (c, op, k) ∈ [(Instr.ringFlush, 3, ({ cmd := 5, queue := e.queue } : QCmd)), (.ringPause, 4, { cmd := 6, flag := e.flags.testBit 0, queue := e.queue }), (.ringResume, 5, { cmd := 7, flag := e.flags.testBit 0, cls := e.flags / 16, queue := e.queue }),
        (.ringMove, 6, { cmd := 4, queue := e.queue, arg := e.addr % 65536 })] →
      e.op = op →
      e.bad = false →
      s.qeWaits 2 k = false →
      exec c s = .next ((s.qeNow 2 k).s.ringDone r e (s.qeNow 2 k).status (s.qeNow 2 k).word1)) ∧
    (∀ (op r : Nat) (e : RingEntry) (k : QCmd) (c : Instr) (s : State),
      s.nextRing = some r →
      e = s.ringEntry r →
      (c, op, k) ∈ [(Instr.ringFlush, 3, ({ cmd := 5, queue := e.queue } : QCmd)), (.ringPause, 4, { cmd := 6, flag := e.flags.testBit 0, queue := e.queue }), (.ringResume, 5, { cmd := 7, flag := e.flags.testBit 0, cls := e.flags / 16, queue := e.queue }),
        (.ringMove, 6, { cmd := 4, queue := e.queue, arg := e.addr % 65536 })] →
      e.op = op →
      e.bad = false →
      s.qeWaits 2 k = true →
      exec c s = .next s) ∧
    (∀ (r : Nat) (e : RingEntry) (s : State),
      s.nextRing = some r →
      e = s.ringEntry r →
      e.op = 2 →
      e.bad = false →
      s.qeWaits 2 ({ cmd := 2, flag := true, queue := e.queue } : QCmd) = false →
      (s.qeNow 2 ({ cmd := 2, flag := true, queue := e.queue } : QCmd)).status ≠ 0 →
      exec .ringFetch s = .next ((s.qeNow 2 ({ cmd := 2, flag := true, queue := e.queue } : QCmd)).s.ringDone r e (s.qeNow 2 ({ cmd := 2, flag := true, queue := e.queue } : QCmd)).status (s.qeNow 2 ({ cmd := 2, flag := true, queue := e.queue } : QCmd)).word1)) ∧
    (∀ (r : Nat) (e : RingEntry) (s : State),
      s.nextRing = some r →
      e = s.ringEntry r →
      e.op = 2 →
      e.bad = false →
      s.qeWaits 2 ({ cmd := 2, flag := true, queue := e.queue } : QCmd) = false →
      (s.qeNow 2 ({ cmd := 2, flag := true, queue := e.queue } : QCmd)).status = 0 →
      ∃ t, exec .ringFetch s = .next t ∧ t.hif.posts = (s.qeNow 2 ({ cmd := 2, flag := true, queue := e.queue } : QCmd)).s.hif.posts ++ [⟨r, e.cookie, if e.len < (s.qeNow 2 ({ cmd := 2, flag := true, queue := e.queue } : QCmd)).word1 / 65536 then 0x11 else 0, 2, (s.qeNow 2 ({ cmd := 2, flag := true, queue := e.queue } : QCmd)).word1 / 65536 * 65536⟩] ∧ t.hif.turn = (r + 1) % 4 ∧
      (∀ i < ((s.qeNow 2 ({ cmd := 2, flag := true, queue := e.queue } : QCmd)).s.frameBytes ((s.qeNow 2 ({ cmd := 2, flag := true, queue := e.queue } : QCmd)).word1 % 65536)).length, (i < e.len → t.byteAt (e.addr + i) = ((s.qeNow 2 ({ cmd := 2, flag := true, queue := e.queue } : QCmd)).s.frameBytes ((s.qeNow 2 ({ cmd := 2, flag := true, queue := e.queue } : QCmd)).word1 % 65536)).getD i 0))) ∧
    (∀ (r : Fin 4) (v : Word) (s : State),
      s.present 25 = false →
      exec (.ringSqTailWrite r v) s = .next ((s.absentSlip 72 (Reg.RING_SQ_TAIL r)).answer 0)) ∧
    (∀ (n h : Nat) (r : Fin 4) (v : Word) (s : State),
      n = s.ringSize r →
      h = s.rdF (Reg.RING_SQ_HEAD r) 0 10 →
      s.present 25 = true →
      n ≤ fld v 0 10 ∨ (fld v 0 10 + n - h) % n < (s.rdF (Reg.RING_SQ_TAIL r) 0 10 + n - h) % n →
      ∃ t, exec (.ringSqTailWrite r v) s = .next t ∧ t.rdF Reg.HIF_ERR 16 8 = min (s.rdF Reg.HIF_ERR 16 8 + 1) 255 ∧ t.hif.errSeen = true ∧ OnlyRegs [Reg.HIF_ERR] { s with hif := t.hif } t) ∧
    (∀ (n h : Nat) (r : Fin 4) (v : Word) (s : State),
      n = s.ringSize r →
      h = s.rdF (Reg.RING_SQ_HEAD r) 0 10 →
      s.present 25 = true →
      fld v 0 10 < n →
      (s.rdF (Reg.RING_SQ_TAIL r) 0 10 + n - h) % n ≤ (fld v 0 10 + n - h) % n →
      ∃ t, exec (.ringSqTailWrite r v) s = .next t ∧ t.rdF (Reg.RING_SQ_TAIL r) 0 10 = fld v 0 10 ∧ OnlyRegs [Reg.RING_SQ_TAIL r] s t) ∧
    (∀ (s : State),
      s.hif.posts = [] →
      exec .ringCompletionPost s = .next s) ∧
    (∀ (a : Nat) (p : RingPost) (l : List RingPost) (s : State),
      s.hif.posts = p :: l →
      p.ring < 4 →
      a = (s.rd (Reg.RING_CQ_BASE p.ring)).toNat + 8 * s.rdF (Reg.RING_CQ_TAIL p.ring) 0 10 →
      a % 4 = 0 →
      s.cyc.hifWrites.all (fun p => decide (3 ≤ p.1)) = true →
      (∀ i < 2, region (a + 4 * i) = .sram ∧ s.absentAt (a + 4 * i) = none) →
      ∃ t, exec .ringCompletionPost s = .next t ∧ t.hif.posts = l ∧ t.rdF (Reg.RING_CQ_TAIL p.ring) 0 10 = (s.rdF (Reg.RING_CQ_TAIL p.ring) 0 10 + 1) % s.ringSize p.ring ∧ t.bit Reg.HIF_IRQ_PEND p.ring = true ∧ t.pending1 220 = true ∧
      t.bytesAt a 8 = leBytes 4 (p.cookie + p.status * 2 ^ 16 + p.op * 2 ^ 24) ++ leBytes 4 p.word1 ∧ (∀ x, (x < a ∨ a + 8 ≤ x) → t.byteAt x = s.byteAt x)) ∧
    (∀ (s : State),
      s.hif.errDue = [] →
      exec .hifHostBusError s = .next s) ∧
    (∀ (i : Nat) (l : List Nat) (s : State),
      s.hif.errDue = i :: l →
      ∃ t, exec .hifHostBusError s = .next t ∧ t.hif.errDue = l ∧ t.rdF Reg.HIF_ERR 24 8 = min (s.rdF Reg.HIF_ERR 24 8 + 1) 255 ∧ t.hif.errSeen = true ∧ t.pending1 221 = true ∧ t.fault.waiting = s.fault.waiting ++ [slipWord 72 0x12 1 i] ∧ OnlyEvents ([Reg.HIF_ERR, Reg.HIF_IRQ_PEND] ++ eventRegs 221) { s with hif := t.hif, fault := t.fault } t) ∧
    (∀ (r : Nat) (e : RingEntry) (s : State),
      s.nextRing = some r →
      e = s.ringEntry r →
      e.op = 1 →
      e.bad = false →
      s.hifEnqueue e.queue (s.bytesAt e.addr e.len) = none →
      exec .ringEnqueue s = .next s)

/-- Without a fitted panel port a refresh is a write to an absent unit (log entry 6) and the tasks do nothing. On a
fitted, enabled port: a flip without a staged page, or of an EMPTY or DEAD slot, ends REFUSED; one of a WRITING slot
waits with event 213; one whose page fails validation ends with its code, panel power and shown page as before; a
valid one turns power on and waits, or with power on raises 209 and streams its pixels as its script says. Further
flips during a sequence are kept once, then counted. A refresh does the same for the shown page. Power turns on with
a profile in force and off, off being deferred during a refresh. Each wait ends only when its sequence waits for it;
the end of a flip shows its slot, clears STAGE.VALID and raises 210 and 208, of a refresh 210. A busy timeout and a
hold expiry fail with their codes. A flip or refresh whose page must wait for the store die is kept (log entry 47).
The model's choices in it, no rules of the spec: a command whose premise does not hold changes nothing (log entry
13); the panel corners (log entry 37); a refresh without a shown page (log entry 44). (17 Panel port; 17 Page codec;
17 Flip and refresh) -/
def Obligations.PanelSequencesFollowTheirPages : Prop :=
    (∀ (c : Instr) (s : State),
      c ∈ [Instr.panelFlip, .panelRefresh, .panelPowerOn, .panelPowerOff] →
      s.present 27 = true →
      s.panelOn = false →
      exec c s = .next s) ∧
    (∀ (c : Instr) (w : PanelWait) (s : State),
      (c, w) ∈ [(Instr.panelPowerDelayEnd, PanelWait.power), (.panelDelayEnd, .delay), (.panelBusyTimeout, .busy), (.panelScriptEnd, .ended), (.panelDeferredFlip, .page), (.panelHoldExpiry, .page)] →
      s.panelWaits w = none →
      exec c s = .next s) ∧
    (∀ (s : State),
      s.panelOn = true →
      s.panelTaken = true →
      ∃ t, exec .panelFlip s = .next t ∧ t.bit Reg.PANEL_STATUS 3 = true ∧ t.rdF Reg.PANEL_COUNT 24 8 = (if s.bit Reg.PANEL_STATUS 3 then min (s.rdF Reg.PANEL_COUNT 24 8 + 1) 255 else s.rdF Reg.PANEL_COUNT 24 8) ∧ OnlyRegs [Reg.PANEL_STATUS, Reg.PANEL_COUNT] s t) ∧
    (∀ (k : Nat) (s : State),
      k = s.rdF Reg.PANEL_STAGE 0 4 →
      s.panelOn = true →
      s.panelTaken = false →
      s.bit Reg.PANEL_STATUS 3 = false →
      s.bit Reg.PANEL_STAGE 4 = false ∨ (s.psState k ≠ 1 ∧ s.psState k ≠ 2) →
      ∃ t, exec .panelFlip s = .next t ∧ t.panelState = 0 ∧ t.panel.run = none ∧ t.rdF Reg.PANEL_STATUS 4 4 = 3 ∧ t.rd Reg.PANEL_SHOWN = s.rd Reg.PANEL_SHOWN ∧ t.rdF Reg.PANEL_COUNT 16 8 = min (s.rdF Reg.PANEL_COUNT 16 8 + 1) 255 ∧ t.bit Reg.PANEL_STATUS 2 = (s.bit Reg.PANEL_STATUS 2 && !s.panel.offDue) ∧ OnlyRegs [Reg.PANEL_STATUS, Reg.PANEL_COUNT] { s with panel := t.panel } t) ∧
    (∀ (k : Nat) (s : State),
      k = s.rdF Reg.PANEL_STAGE 0 4 →
      s.panelOn = true →
      s.panelTaken = false →
      s.bit Reg.PANEL_STATUS 3 = false →
      s.bit Reg.PANEL_STAGE 4 = true →
      s.psState k = 1 →
      ∃ t, exec .panelFlip s = .next t ∧ t.panelState = 3 ∧ t.panel.run = some { flip := true, slot := k, wait := .page } ∧ t.rdF Reg.PANEL_STATUS 4 4 = 1 ∧ t.pending1 213 = true ∧ OnlyEvents ([Reg.PANEL_STATUS] ++ eventRegs 213) { s with panel := t.panel } t) ∧
    (∀ (k code : Nat) (u : State) (s : State),
      k = s.rdF Reg.PANEL_STAGE 0 4 →
      s.panelOn = true →
      s.panelTaken = false →
      s.bit Reg.PANEL_STATUS 3 = false →
      s.bit Reg.PANEL_STAGE 4 = true →
      s.psState k = 2 →
      s.readStalls = false →
      s.validate (s.sec 14) k = .error (code, u) →
      ∃ t, exec .panelFlip s = .next t ∧ (code = 4 ∨ code = 8) ∧ t.panelState = 0 ∧ t.panel.run = none ∧ t.rdF Reg.PANEL_STATUS 4 4 = code ∧ t.rd Reg.PANEL_SHOWN = s.rd Reg.PANEL_SHOWN ∧ t.rdF Reg.PANEL_COUNT 16 8 = min (s.rdF Reg.PANEL_COUNT 16 8 + 1) 255 ∧ t.bit Reg.PANEL_STATUS 2 = (s.bit Reg.PANEL_STATUS 2 && !s.panel.offDue) ∧ OnlyRegs [Reg.PANEL_STATUS, Reg.PANEL_COUNT] { u with panel := t.panel } t) ∧
    (∀ (k : Nat) (px : List Nat) (u v : State) (s : State),
      k = s.rdF Reg.PANEL_STAGE 0 4 →
      s.panelOn = true →
      s.panelTaken = false →
      s.bit Reg.PANEL_STATUS 3 = false →
      s.bit Reg.PANEL_STAGE 4 = true →
      s.psState k = 2 →
      s.readStalls = false →
      s.validate (s.sec 14) k = .ok (px, u) →
      v = (u.shownPixels (s.sec 14)).2 →
      s.bit Reg.PANEL_STATUS 2 = false →
      ∃ t, exec .panelFlip s = .next t ∧ t.bit Reg.PANEL_STATUS 2 = true ∧ t.panelState = 1 ∧ t.panel.run = some { flip := true, slot := k, wait := .power, pixels := px, prev := (u.shownPixels (s.sec 14)).1, profile := s.sec 14 } ∧ OnlyRegs [Reg.PANEL_STATUS] { v with panel := t.panel } t) ∧
    (∀ (k : Nat) (px : List Nat) (l : List Byte) (u v : State) (s : State),
      k = s.rdF Reg.PANEL_STAGE 0 4 →
      s.panelOn = true →
      s.panelTaken = false →
      s.bit Reg.PANEL_STATUS 3 = false →
      s.bit Reg.PANEL_STAGE 4 = true →
      s.psState k = 2 →
      s.readStalls = false →
      s.validate (s.sec 14) k = .ok (px, u) →
      v = (u.shownPixels (s.sec 14)).2 →
      s.bit Reg.PANEL_STATUS 2 = true →
      0x20000000 ≤ (s.rd Reg.PANEL_SCRIPT).toNat ∧ (s.rd Reg.PANEL_SCRIPT).toNat < 0x20060000 →
      s.bytesAt (s.rd Reg.PANEL_SCRIPT).toNat 256 = 5 :: 0 :: l →
      ∃ t, exec .panelFlip s = .next t ∧ t.pending1 209 = true ∧ t.panelState = 2 ∧ t.panel.sent = (streamPage (s.sec 14) px).map (fun b => (true, b)) ∧ t.panel.run = some { flip := true, slot := k, wait := .ended, pixels := px, prev := (u.shownPixels (s.sec 14)).1, profile := s.sec 14 } ∧ t.rd Reg.PANEL_SHOWN = s.rd Reg.PANEL_SHOWN) ∧
    (∀ (s : State),
      s.panelOn = true →
      s.panelTaken = true →
      exec .panelRefresh s = .next s) ∧
    (∀ (s : State),
      s.panelOn = true →
      s.panelTaken = false →
      s.bit Reg.PANEL_STATUS 3 = false →
      s.bit Reg.PANEL_SHOWN 4 = false →
      ∃ t, exec .panelRefresh s = .next t ∧ t.panelState = 0 ∧ t.panel.run = none ∧ t.rdF Reg.PANEL_STATUS 4 4 = 4 ∧ t.rd Reg.PANEL_SHOWN = s.rd Reg.PANEL_SHOWN ∧ t.rdF Reg.PANEL_COUNT 16 8 = min (s.rdF Reg.PANEL_COUNT 16 8 + 1) 255 ∧ t.bit Reg.PANEL_STATUS 2 = (s.bit Reg.PANEL_STATUS 2 && !s.panel.offDue)) ∧
    (∀ (k : Nat) (px : List Nat) (u v : State) (s : State),
      k = s.rdF Reg.PANEL_SHOWN 0 4 →
      s.panelOn = true →
      s.panelTaken = false →
      s.bit Reg.PANEL_STATUS 3 = false →
      s.bit Reg.PANEL_SHOWN 4 = true →
      s.readStalls = false →
      s.validate (s.sec 14) k = .ok (px, u) →
      v = (u.shownPixels (s.sec 14)).2 →
      s.bit Reg.PANEL_STATUS 2 = false →
      ∃ t, exec .panelRefresh s = .next t ∧ t.bit Reg.PANEL_STATUS 2 = true ∧ t.panelState = 1 ∧ t.panel.run = some { flip := false, slot := k, wait := .power, pixels := px, prev := (u.shownPixels (s.sec 14)).1, profile := s.sec 14 } ∧ OnlyRegs [Reg.PANEL_STATUS] { v with panel := t.panel } t) ∧
    (∀ (s : State),
      s.panelOn = true →
      s.sec 14 ≠ [] →
      ∃ t, exec .panelPowerOn s = .next t ∧ t.bit Reg.PANEL_STATUS 2 = true ∧ t.panelState = s.panelState ∧ OnlyRegs [Reg.PANEL_STATUS] s t) ∧
    (∀ (s : State),
      s.panelOn = true →
      s.panelState = 0 ∨ s.panelState = 3 →
      ∃ t, exec .panelPowerOff s = .next t ∧ t.bit Reg.PANEL_STATUS 2 = false ∧ t.panelState = s.panelState ∧ OnlyRegs [Reg.PANEL_STATUS] s t) ∧
    (∀ (s : State),
      s.panelOn = true →
      s.panelState = 1 ∨ s.panelState = 2 →
      exec .panelPowerOff s = .next { s with panel := { s.panel with offDue := true } }) ∧
    (∀ (r : PanelRun) (l : List Byte) (s : State),
      s.panel.run = some r →
      r.wait = .power →
      s.bit Reg.PANEL_STATUS 3 = false →
      0x20000000 ≤ (s.rd Reg.PANEL_SCRIPT).toNat ∧ (s.rd Reg.PANEL_SCRIPT).toNat < 0x20060000 →
      s.bytesAt (s.rd Reg.PANEL_SCRIPT).toNat 256 = 0 :: l →
      ∃ t, exec .panelPowerDelayEnd s = .next t ∧ t.pending1 209 = true ∧ t.panelState = 2 ∧ t.panel.run = some { r with wait := .ended, script := [] } ∧ t.panel.sent = s.panel.sent ∧ t.rd Reg.PANEL_SHOWN = s.rd Reg.PANEL_SHOWN) ∧
    (∀ (r : PanelRun) (l : List Byte) (s : State),
      s.panel.run = some r →
      r.wait = .delay →
      s.bit Reg.PANEL_STATUS 3 = false →
      r.script = 3 :: l →
      ∃ t, exec .panelDelayEnd s = .next t ∧ t.panelState = 2 ∧ t.panel.run = some { r with wait := .busy, script := l } ∧ t.panel.sent = s.panel.sent ∧ OnlyRegs [Reg.PANEL_STATUS] { s with panel := t.panel } t) ∧
    (∀ (r : PanelRun) (s : State),
      s.panel.run = some r →
      r.wait = .delay →
      s.bit Reg.PANEL_STATUS 3 = false →
      r.script = [] →
      ∃ t, exec .panelDelayEnd s = .next t ∧ t.panelState = 0 ∧ t.panel.run = none ∧ t.rdF Reg.PANEL_STATUS 4 4 = 6 ∧ t.rd Reg.PANEL_SHOWN = s.rd Reg.PANEL_SHOWN ∧ t.rdF Reg.PANEL_COUNT 16 8 = min (s.rdF Reg.PANEL_COUNT 16 8 + 1) 255 ∧ t.bit Reg.PANEL_STATUS 2 = (s.bit Reg.PANEL_STATUS 2 && !s.panel.offDue)) ∧
    (∀ (x y : Byte) (r : PanelRun) (l : List Byte) (s : State),
      s.panel.run = some r →
      r.wait = .busy →
      s.bit Reg.PANEL_STATUS 3 = false →
      r.script = 2 :: 2 :: x :: y :: 1 :: 9 :: 0 :: l →
      ∃ t, exec .panelBusyInactive s = .next t ∧ t.panelState = 2 ∧ t.panel.run = some { r with wait := .ended, script := [] } ∧ t.panel.sent = s.panel.sent ++ [(true, x), (true, y), (false, 9)]) ∧
    (∀ (s : State),
      s.panelWaits .busy = none →
      exec .panelBusyInactive s = .next s.busyInactive) ∧
    (∀ (r : PanelRun) (s : State),
      s.panel.run = some r →
      r.wait = .busy →
      s.bit Reg.PANEL_STATUS 3 = false →
      ∃ t, exec .panelBusyTimeout s = .next t ∧ t.panelState = 0 ∧ t.panel.run = none ∧ t.rdF Reg.PANEL_STATUS 4 4 = 5 ∧ t.rd Reg.PANEL_SHOWN = s.rd Reg.PANEL_SHOWN ∧ t.rdF Reg.PANEL_COUNT 16 8 = min (s.rdF Reg.PANEL_COUNT 16 8 + 1) 255 ∧ t.bit Reg.PANEL_STATUS 2 = (s.bit Reg.PANEL_STATUS 2 && !s.panel.offDue) ∧ t.pending1 211 = true) ∧
    (∀ (r : PanelRun) (s : State),
      s.panel.run = some r →
      r.wait = .ended →
      s.bit Reg.PANEL_STATUS 3 = false →
      r.flip = true →
      ∃ t, exec .panelScriptEnd s = .next t ∧ t.rd Reg.PANEL_SHOWN = word (r.slot + 16) ∧ t.bit Reg.PANEL_STAGE 4 = false ∧ t.rdF Reg.PANEL_COUNT 0 16 = min (s.rdF Reg.PANEL_COUNT 0 16 + 1) 65535 ∧ t.panelState = 0 ∧ t.panel.run = none ∧ t.rdF Reg.PANEL_STATUS 4 4 = 0 ∧
      t.pending1 210 = true ∧ t.pending1 208 = true ∧ t.bit Reg.PANEL_STATUS 2 = (s.bit Reg.PANEL_STATUS 2 && !s.panel.offDue)) ∧
    (∀ (r : PanelRun) (s : State),
      s.panel.run = some r →
      r.wait = .ended →
      s.bit Reg.PANEL_STATUS 3 = false →
      r.flip = false →
      ∃ t, exec .panelScriptEnd s = .next t ∧ t.panelState = 0 ∧ t.panel.run = none ∧ t.rdF Reg.PANEL_STATUS 4 4 = 0 ∧ t.rd Reg.PANEL_SHOWN = s.rd Reg.PANEL_SHOWN ∧ t.pending1 210 = true ∧ t.rd Reg.PANEL_STAGE = s.rd Reg.PANEL_STAGE ∧ t.bit Reg.PANEL_STATUS 2 = (s.bit Reg.PANEL_STATUS 2 && !s.panel.offDue) ∧ OnlyEvents ([Reg.PANEL_STATUS] ++ eventRegs 210) { s with panel := t.panel } t) ∧
    (∀ (r : PanelRun) (s : State),
      s.panel.run = some r →
      r.wait = .ended →
      r.flip = true →
      s.bit Reg.PANEL_STATUS 3 = true →
      s.held.any isPanelCmd = false →
      s.readStalls = false →
      ∃ t, exec .panelScriptEnd s = .next t ∧ t.rd Reg.PANEL_SHOWN = word (r.slot + 16) ∧ t.bit Reg.PANEL_STATUS 3 = false ∧ t.rdF Reg.PANEL_STATUS 4 4 = 3 ∧ t.pending1 208 = true) ∧
    (∀ (r : PanelRun) (s : State),
      s.panel.run = some r →
      r.wait = .page →
      s.bit Reg.PANEL_STATUS 3 = false →
      s.psState r.slot ≠ 2 →
      exec .panelDeferredFlip s = .next s) ∧
    (∀ (r : PanelRun) (k : Nat) (px : List Nat) (u v : State) (s : State),
      k = r.slot →
      s.panel.run = some r →
      r.wait = .page →
      s.bit Reg.PANEL_STATUS 3 = false →
      s.psState k = 2 →
      s.readStalls = false →
      s.validate (s.sec 14) k = .ok (px, u) →
      v = (u.shownPixels (s.sec 14)).2 →
      s.bit Reg.PANEL_STATUS 2 = false →
      ∃ t, exec .panelDeferredFlip s = .next t ∧ t.bit Reg.PANEL_STATUS 2 = true ∧ t.panelState = 1 ∧ t.panel.run = some { flip := true, slot := k, wait := .power, pixels := px, prev := (u.shownPixels (s.sec 14)).1, profile := s.sec 14 } ∧ OnlyRegs [Reg.PANEL_STATUS] { v with panel := t.panel } t) ∧
    (∀ (r : PanelRun) (s : State),
      s.panel.run = some r →
      r.wait = .page →
      s.bit Reg.PANEL_STATUS 3 = false →
      ∃ t, exec .panelHoldExpiry s = .next t ∧ t.panelState = 0 ∧ t.panel.run = none ∧ t.rdF Reg.PANEL_STATUS 4 4 = 2 ∧ t.rd Reg.PANEL_SHOWN = s.rd Reg.PANEL_SHOWN ∧ t.rdF Reg.PANEL_COUNT 16 8 = min (s.rdF Reg.PANEL_COUNT 16 8 + 1) 255 ∧ t.bit Reg.PANEL_STATUS 2 = (s.bit Reg.PANEL_STATUS 2 && !s.panel.offDue) ∧ OnlyRegs [Reg.PANEL_STATUS, Reg.PANEL_COUNT] { s with panel := t.panel } t) ∧
    (∀ (s : State),
      s.present 27 = false →
      exec .panelRefresh s = .next ((s.absentSlip 68 Reg.PANEL_CTRL).answer 0) ∧ exec .panelFlip s = .next s ∧ exec .panelPowerOn s = .next s ∧ exec .panelPowerOff s = .next s) ∧
    (∀ (s : State),
      s.sec 14 = [] →
      exec .panelPowerOn s = .next s) ∧
    (∀ (k : Nat) (s : State),
      k = s.rdF Reg.PANEL_STAGE 0 4 →
      s.panelOn = true →
      s.panelTaken = false →
      s.bit Reg.PANEL_STATUS 3 = false →
      s.bit Reg.PANEL_STAGE 4 = true →
      s.psState k = 2 →
      s.readStalls = true →
      exec .panelFlip s = .next { s with held := s.held ++ [.panelFlip] }) ∧
    (∀ (s : State),
      s.panelOn = true →
      s.panelTaken = false →
      s.bit Reg.PANEL_SHOWN 4 = true →
      s.readStalls = true →
      exec .panelRefresh s = .next { s with held := s.held ++ [.panelRefresh] })

/-- A serial unit not enabled in section 0x01 does nothing, nor do its lines while the part sleeps or no pad carries
them. SPI START begins LEN frames or is counted while busy; the end of a transfer exchanges what the FIFOs allow and
raises 224 + 2n when all moved; a target frame answers from its FIFO, either bit first, sets UDR when it is empty
and OVR with its slip when the receive FIFO is full. A UART byte enters the FIFO, or is lost with OVR, a slip and
event 239; its level and timeout raise 232 + 2n; writes push or are counted; tasks let go what was there; empty
raises 233 + 2n and the bytes go with their parity and bit time. An I2C transfer takes a free bus or waits, is
counted while one runs, ends with its code and event, without pads NACK_ADDR; lost arbitration is recorded and ends
ARB_LOST at the STOP; a bus clear ends CLEARED or BUS_STUCK with its slip. The model's choices in it, no rules of
the spec: a command whose premise does not hold changes nothing (log entry 13); serial transfers as one command (log
entry 40); full and empty serial FIFOs (log entry 41). (18 SPI; 18 UART; 18 I²C, Arbitration, Bus clear) -/
def Obligations.SerialUnitsMoveTheirFrames : Prop :=
    (∀ (x : Bool) (d : Fin 65536) (l : List (Fin 65536)) (n : Fin 2) (s : State),
      s.spiOn n = false →
      exec (.spiStart n x) s = .next s ∧ exec (.spiTargetFrame n d) s = .next s ∧ exec (.spiTransferEnd n l) s = .next s) ∧
    (∀ (v : Word) (b : Byte) (p q x : Bool) (n : Fin 2) (s : State),
      s.uartOn n = false →
      exec (.uartByteReceived n b p q x) s = .next s ∧ exec (.uartRxTimeout n) s = .next s ∧ exec (.uartDataWrite n v) s = .next s ∧ exec (.uartSendTask n) s = .next s ∧ exec (.uartTxEmpty n) s = .next s) ∧
    (∀ (v : Word) (lost : Option (Fin 258 × Fin 8)) (at_ : Fin 258 × Fin 8) (l : List Byte) (k : Fin 256) (x : Bool) (b : Byte) (how : I2cEnd) (n : Fin 2) (s : State),
      s.i2cOn n = false →
      exec (.i2cXfer n v lost x) s = .next s ∧ exec (.i2cClear n x) s = .next s ∧ exec (.i2cBusBusyTimeout n) s = .next s ∧ exec (.i2cSclTimeout n) s = .next s ∧ exec (.i2cSdaStuckTimeout n x) s = .next s ∧
      exec (.i2cStopSeen n at_ l k) s = .next s ∧ exec (.i2cStartSeen n at_ b) s = .next s ∧ exec (.i2cTransferDone n l how) s = .next s) ∧
    (∀ (x : Bool) (n : Fin 2) (s : State),
      s.spiOn n = true →
      s.bit (Reg.SPI_CFG n) 0 = true →
      exec (.spiStart n x) s = .next s) ∧
    (∀ (x : Bool) (n : Fin 2) (s : State),
      s.spiOn n = true →
      s.bit (Reg.SPI_CFG n) 0 = false →
      s.bit (Reg.SPI_STATUS n) 0 = true →
      ∃ t, exec (.spiStart n x) s = .next t ∧ t.rdF (Reg.SPI_STATUS n) 16 8 = min (s.rdF (Reg.SPI_STATUS n) 16 8 + 1) 255 ∧ OnlyRegs [(Reg.SPI_STATUS n)] s t) ∧
    (∀ (x : Bool) (n : Fin 2) (s : State),
      s.spiOn n = true →
      s.bit (Reg.SPI_CFG n) 0 = false →
      s.bit (Reg.SPI_STATUS n) 0 = false →
      ∃ t, exec (.spiStart n x) s = .next t ∧ t.bit (Reg.SPI_STATUS n) 0 = true ∧ (t.spi n).left = max 1 (s.rdF (Reg.SPI_LEN n) 0 16) ∧ (t.spi n).tx = (s.spi n).tx ∧ (t.spi n).rx = (s.spi n).rx ∧ (t.spi n).sent = [] ∧ (t.spi n).mode = s.rdF (Reg.SPI_CFG n) 1 2 ∧ (t.spi n).sck = s.rdF (Reg.SPI_CFG n) 8 8 + 1 ∧ OnlyRegs [(Reg.SPI_STATUS n)] { s with ser := t.ser } t) ∧
    (∀ (u : SpiSt) (n : Fin 2) (l : List (Fin 65536)) (s : State),
      u = s.spi n →
      s.lineOn (s.spiOn n) = true →
      s.bit (Reg.SPI_CFG n) 0 = false →
      s.bit (Reg.SPI_STATUS n) 0 = true →
      u.left ≤ u.tx.length →
      u.left + u.rx.length ≤ 8 →
      u.left ≤ l.length →
      ∃ t, exec (.spiTransferEnd n l) s = .next t ∧ t.bit (Reg.SPI_STATUS n) 0 = false ∧ t.pending1 (224 + 2 * n) = true ∧ (t.spi n).tx = u.tx.drop u.left ∧ (t.spi n).rx = u.rx ++ (l.take u.left).map (fun f => if s.wired [0x12 + 4 * n] then s.spiLine n f.val else 0) ∧ (t.spi n).left = 0 ∧
      (t.spi n).sent = u.sent ++ (u.tx.take u.left).map (s.spiLine n) ∧ OnlyEvents ([(Reg.SPI_STATUS n)] ++ eventRegs (224 + 2 * n)) { s with ser := t.ser } t) ∧
    (∀ (u : SpiSt) (n : Fin 2) (l : List (Fin 65536)) (s : State),
      u = s.spi n →
      s.lineOn (s.spiOn n) = true →
      s.bit (Reg.SPI_CFG n) 0 = false →
      s.bit (Reg.SPI_STATUS n) 0 = true →
      u.tx.length < u.left →
      u.tx.length + u.rx.length ≤ 8 →
      u.tx.length ≤ l.length →
      ∃ t, exec (.spiTransferEnd n l) s = .next t ∧ (t.spi n).tx = [] ∧ (t.spi n).left = u.left - u.tx.length ∧ OnlyRegs [] { s with ser := t.ser } t) ∧
    (∀ (l : List (Fin 65536)) (n : Fin 2) (s : State),
      s.lineOn (s.spiOn n) = true →
      s.bit (Reg.SPI_CFG n) 0 = true →
      s.wired [0x10 + 4 * n, 0x13 + 4 * n] = true →
      exec (.spiTransferEnd n l) s = .next (s.event (224 + 2 * n))) ∧
    (∀ (f : Nat) (q : List Nat) (u : SpiSt) (n : Fin 2) (d : Fin 65536) (s : State),
      u = s.spi n →
      s.lineOn (s.spiOn n) = true →
      s.bit (Reg.SPI_CFG n) 0 = true →
      s.wired [0x10 + 4 * n, 0x13 + 4 * n] = true →
      u.tx = f :: q →
      u.rx.length < 8 →
      ∃ t, exec (.spiTargetFrame n d) s = .next t ∧ (t.spi n).tx = q ∧ (t.spi n).sent = [s.spiLine n f] ∧ (t.spi n).rx = u.rx ++ [if s.wired [0x12 + 4 * n] then s.spiLine n d.val else 0] ∧ OnlyRegs [] { s with ser := t.ser } t) ∧
    (∀ (u : SpiSt) (n : Fin 2) (d : Fin 65536) (s : State),
      u = s.spi n →
      s.lineOn (s.spiOn n) = true →
      s.bit (Reg.SPI_CFG n) 0 = true →
      s.wired [0x10 + 4 * n, 0x13 + 4 * n] = true →
      u.tx = [] →
      u.rx.length < 8 →
      ∃ t, exec (.spiTargetFrame n d) s = .next t ∧ t.bit (Reg.SPI_STATUS n) 10 = true ∧ (t.spi n).sent = [2 ^ s.spiBits n - 1] ∧ (t.spi n).rx = u.rx ++ [if s.wired [0x12 + 4 * n] then s.spiLine n d.val else 0] ∧ (s.bit (Reg.SPI_STATUS n) 10 = false → t.pending1 (225 + 2 * n) = true)) ∧
    (∀ (u : SpiSt) (n : Fin 2) (d : Fin 65536) (s : State),
      u = s.spi n →
      s.lineOn (s.spiOn n) = true →
      s.bit (Reg.SPI_CFG n) 0 = true →
      s.wired [0x10 + 4 * n, 0x13 + 4 * n] = true →
      u.tx ≠ [] →
      8 ≤ u.rx.length →
      ∃ t, exec (.spiTargetFrame n d) s = .next t ∧ t.bit (Reg.SPI_STATUS n) 9 = true ∧ (t.spi n).rx = u.rx ∧ t.fault.waiting = s.fault.waiting ++ [slipWord (76 + n) 0x12 1 1] ∧ (s.bit (Reg.SPI_STATUS n) 9 = false → t.pending1 (225 + 2 * n) = true)) ∧
    (∀ (v : Word) (n : Fin 2) (s : State),
      s.uartOn n = true →
      16 ≤ (s.uart n).tx.length →
      ∃ t, exec (.uartDataWrite n v) s = .next t ∧ t.rdF (Reg.UART_STATUS n) 16 8 = min (s.rdF (Reg.UART_STATUS n) 16 8 + 1) 255 ∧ OnlyRegs [(Reg.UART_STATUS n)] s t) ∧
    (∀ (v : Word) (n : Fin 2) (s : State),
      s.uartOn n = true →
      (s.uart n).tx.length < 16 →
      ∃ t, exec (.uartDataWrite n v) s = .next t ∧ (t.uart n).tx = (s.uart n).tx ++ [byte v.toNat] ∧ (t.uart n).gated = (s.uart n).gated ∧ t.bit (Reg.UART_STATUS n) 10 = (decide (s.uartGate n = false) || decide (0 < (s.uart n).gated)) ∧ OnlyRegs [(Reg.UART_STATUS n)] { s with ser := t.ser } t) ∧
    (∀ (n : Fin 2) (s : State),
      s.uartOn n = true →
      s.uartGate n = true →
      ∃ t, exec (.uartSendTask n) s = .next t ∧ (t.uart n).gated = (s.uart n).tx.length ∧ (t.uart n).tx = (s.uart n).tx ∧ t.bit (Reg.UART_STATUS n) 10 = decide (0 < (s.uart n).tx.length) ∧ OnlyRegs [(Reg.UART_STATUS n)] { s with ser := t.ser } t) ∧
    (∀ (n : Fin 2) (s : State),
      s.uartOn n = true →
      s.uartGate n = false →
      exec (.uartSendTask n) s = .next s) ∧
    (∀ (n : Fin 2) (s : State),
      s.lineOn (s.uartOn n) = true →
      s.uartGo n = 0 →
      exec (.uartTxEmpty n) s = .next s) ∧
    (∀ (n : Fin 2) (s : State),
      s.lineOn (s.uartOn n) = true →
      0 < s.uartGo n →
      ∃ t, exec (.uartTxEmpty n) s = .next t ∧ (t.uart n).tx = (s.uart n).tx.drop (s.uartGo n) ∧ (t.uart n).sent = ((s.uart n).tx.take (s.uartGo n)).map (fun b => { data := b, parity := if s.bit (Reg.UART_CFG n) 0 then some ((List.range 8).countP (b.toNat.testBit ·) % 2 == 1) else none, bit := max 64 (s.rdF (Reg.UART_BAUD n) 0 16) }) ∧ (t.uart n).gated = 0 ∧ (s.uartGo n = (s.uart n).tx.length → t.bit (Reg.UART_STATUS n) 10 = false) ∧ ((s.uart n).tx.length = s.uartGo n → t.pending1 (233 + 2 * n) = true) ∧ ((s.uart n).tx.length ≠ s.uartGo n → OnlyRegs [(Reg.UART_STATUS n)] { s with ser := t.ser } t)) ∧
    (∀ (b : Byte) (p q x : Bool) (n : Fin 2) (s : State),
      s.lineOn (s.uartOn n) = true →
      s.wired [0x1D + 2 * n] = true →
      16 ≤ (s.uart n).rx.length →
      ∃ t, exec (.uartByteReceived n b p q x) s = .next t ∧ t.bit (Reg.UART_STATUS n) 14 = true ∧ t.pending1 239 = true ∧ (t.uart n).rx = (s.uart n).rx ∧ t.fault.waiting = s.fault.waiting ++ [slipWord (80 + n) 0x12 1 2]) ∧
    (∀ (b : Byte) (p q x : Bool) (n : Fin 2) (s : State),
      s.lineOn (s.uartOn n) = true →
      s.wired [0x1D + 2 * n] = true →
      (s.uart n).rx.length < 16 →
      ∃ t, exec (.uartByteReceived n b p q x) s = .next t ∧ (t.uart n).rx = (s.uart n).rx ++ [b] ∧ t.bit (Reg.UART_STATUS n) 11 = (s.bit (Reg.UART_STATUS n) 11 || p) ∧ t.bit (Reg.UART_STATUS n) 12 = (s.bit (Reg.UART_STATUS n) 12 || (q && s.bit (Reg.UART_CFG n) 0)) ∧ t.bit (Reg.UART_STATUS n) 13 = (s.bit (Reg.UART_STATUS n) 13 || x) ∧ t.bit (Reg.UART_STATUS n) 14 = s.bit (Reg.UART_STATUS n) 14 ∧
      ((p || x) = true → t.pending1 239 = true) ∧ ((s.uart n).rx.length + 1 = s.rdF (Reg.UART_CFG n) 4 4 + 1 → t.pending1 (232 + 2 * n) = true)) ∧
    (∀ (n : Fin 2) (s : State),
      s.lineOn (s.uartOn n) = true →
      (s.uart n).rx = [] →
      exec (.uartRxTimeout n) s = .next s) ∧
    (∀ (n : Fin 2) (s : State),
      s.lineOn (s.uartOn n) = true →
      (s.uart n).rx ≠ [] →
      exec (.uartRxTimeout n) s = .next (s.event (232 + 2 * n))) ∧
    (∀ (v : Word) (lost : Option (Fin 258 × Fin 8)) (x : Bool) (n : Fin 2) (s : State),
      s.i2cOn n = true →
      (s.i2c n).run.isSome = true →
      ∃ t, exec (.i2cXfer n v lost x) s = .next t ∧ t.rdF (Reg.I2C_STATUS n) 16 8 = min (s.rdF (Reg.I2C_STATUS n) 16 8 + 1) 255 ∧ OnlyRegs [(Reg.I2C_STATUS n)] { s with freeCtr := s.freeCtr + 1 } t) ∧
    (∀ (v : Word) (x : Bool) (n : Fin 2) (s : State),
      s.i2cOn n = true →
      (s.i2c n).run = none →
      bitOf v 31 = false →
      s.bit (Reg.I2C_STATUS n) 4 = true →
      (s.i2c n).owns = false →
      ∃ t, exec (.i2cXfer n v none x) s = .next t ∧ (t.i2c n).run = some { xfer := v, left := fld v 16 8, waiting := true, lost := none, asTarget := x } ∧ t.bit (Reg.I2C_STATUS n) 3 = true ∧ t.bit (Reg.I2C_STATUS n) 4 = true ∧ OnlyRegs [(Reg.I2C_STATUS n)] { s with ser := t.ser, freeCtr := s.freeCtr + 1 } t) ∧
    (∀ (v : Word) (x : Bool) (n : Fin 2) (s : State),
      s.i2cOn n = true →
      (s.i2c n).run = none →
      bitOf v 31 = false →
      s.bit (Reg.I2C_STATUS n) 4 = false ∨ (s.i2c n).owns = true →
      ∃ t, exec (.i2cXfer n v none x) s = .next t ∧ (t.i2c n).run = some { xfer := v, left := fld v 16 8, waiting := false, lost := none, asTarget := x, scl := (max 4 (s.rdF (Reg.I2C_TIMING n) 0 8), max 4 (s.rdF (Reg.I2C_TIMING n) 8 8)) } ∧ t.bit (Reg.I2C_STATUS n) 3 = true ∧ t.bit (Reg.I2C_STATUS n) 4 = true ∧ OnlyRegs [(Reg.I2C_STATUS n)] { s with ser := t.ser, freeCtr := s.freeCtr + 1 } t) ∧
    (∀ (v : Word) (i : Fin 258) (b : Fin 8) (x : Bool) (n : Fin 2) (s : State),
      s.i2cOn n = true →
      (s.i2c n).run = none →
      bitOf v 31 = false →
      s.bit (Reg.I2C_STATUS n) 4 = false →
      s.i2cWired n = true →
      ∃ t, exec (.i2cXfer n v (some (i, b)) x) s = .next t ∧ t.rd (Reg.I2C_ARBLOST n) = word (i.val % 256 + b.val * 2 ^ 8 + 2 ^ 31) ∧ (t.i2c n).run.isSome = true ∧ (t.i2c n).target = (if i.val < addrBytes v ∧ x = true ∧ s.bit (Reg.I2C_TADDR n) 7 = true then some false else (s.i2c n).target)) ∧
    (∀ (n : Fin 2) (s : State),
      s.i2cOn n = true →
      (s.i2c n).run = none →
      ∃ t, exec (.i2cClear n true) s = .next t ∧ (t.i2c n).run = none ∧ t.rdF (Reg.I2C_STATUS n) 0 3 = 6 ∧ t.pending1 (229 + 2 * n) = true ∧ t.bit (Reg.I2C_STATUS n) 4 = false ∧ OnlyEvents ([(Reg.I2C_STATUS n)] ++ eventRegs (229 + 2 * n)) { s with ser := t.ser } t) ∧
    (∀ (n : Fin 2) (s : State),
      s.i2cOn n = true →
      (s.i2c n).run = none →
      s.i2cWired n = true →
      ∃ t, exec (.i2cClear n false) s = .next t ∧ (t.i2c n).run = none ∧ t.rdF (Reg.I2C_STATUS n) 0 3 = 7 ∧ t.pending1 (229 + 2 * n) = true ∧ t.fault.waiting = s.fault.waiting ++ [slipWord (78 + n) 0x12 1 3] ∧ t.bit (Reg.I2C_STATUS n) 4 = s.bit (Reg.I2C_STATUS n) 4) ∧
    (∀ (x : Bool) (n : Fin 2) (s : State),
      s.i2cLive n = true →
      s.bit (Reg.I2C_TIMING n) 28 = true →
      ∃ t, exec (.i2cSdaStuckTimeout n x) s = .next t ∧ (t.i2c n).run = none ∧ t.rdF (Reg.I2C_STATUS n) 0 3 = (if x then 6 else 7) ∧ t.pending1 (229 + 2 * n) = true) ∧
    (∀ (x : Bool) (n : Fin 2) (s : State),
      s.i2cLive n = true →
      s.bit (Reg.I2C_TIMING n) 28 = false →
      exec (.i2cSdaStuckTimeout n x) s = .next s) ∧
    (∀ (r : I2cRun) (n : Fin 2) (s : State),
      s.i2cLive n = true →
      (s.i2c n).run = some r →
      ∃ t, exec (.i2cSclTimeout n) s = .next t ∧ (t.i2c n).run = none ∧ t.rdF (Reg.I2C_STATUS n) 0 3 = 5 ∧ t.pending1 (229 + 2 * n) = true ∧ (t.i2c n).owns = false ∧ (t.i2c n).rx = (s.i2c n).rx) ∧
    (∀ (r : I2cRun) (n : Fin 2) (s : State),
      s.i2cLive n = true →
      (s.i2c n).run = some r →
      r.waiting = true →
      ∃ t, exec (.i2cBusBusyTimeout n) s = .next t ∧ (t.i2c n).run = none ∧ t.rdF (Reg.I2C_STATUS n) 0 3 = 4 ∧ t.pending1 (229 + 2 * n) = true) ∧
    (∀ (r : I2cRun) (at_ : Fin 258 × Fin 8) (data : List Byte) (k : Fin 256) (n : Fin 2) (s : State),
      s.i2cLive n = true →
      (s.i2c n).run = some r →
      r.waiting = false →
      (s.i2c n).target = none →
      ∃ t, exec (.i2cStopSeen n at_ data k) s = .next t ∧ (t.i2c n).run = none ∧ t.rdF (Reg.I2C_STATUS n) 0 3 = 3 ∧ t.pending1 (229 + 2 * n) = true ∧ t.bit (Reg.I2C_STATUS n) 4 = false ∧ (r.lost = none → t.rd (Reg.I2C_ARBLOST n) = word (at_.1.val % 256 + at_.2.val * 2 ^ 8 + 2 ^ 31))) ∧
    (∀ (at_ : Fin 258 × Fin 8) (data : List Byte) (k : Fin 256) (n : Fin 2) (s : State),
      s.i2cLive n = true →
      (s.i2c n).run = none →
      (s.i2c n).target.isSome = true →
      data.length + (s.i2c n).rx.length ≤ 8 →
      ∃ t, exec (.i2cStopSeen n at_ data k) s = .next t ∧ (t.i2c n).target = none ∧ (t.i2c n).rx = (s.i2c n).rx ++ data ∧ (t.i2c n).tx = (s.i2c n).tx.drop k ∧ t.bit (Reg.I2C_STATUS n) 4 = false ∧ t.pending1 (228 + 2 * n) = true) ∧
    (∀ (at_ : Fin 258 × Fin 8) (a : Byte) (n : Fin 2) (s : State),
      s.i2cLive n = true →
      (s.i2c n).run = none →
      ∃ t, exec (.i2cStartSeen n at_ a) s = .next t ∧ t.bit (Reg.I2C_STATUS n) 4 = true ∧ (t.i2c n).target = (if s.bit (Reg.I2C_TADDR n) 7 = true ∧ a.toNat ≠ 0 ∧ a.toNat / 2 = s.rdF (Reg.I2C_TADDR n) 0 7 then some (a.toNat % 2 == 1) else none) ∧ OnlyRegs [(Reg.I2C_STATUS n)] { s with ser := t.ser } t) ∧
    (∀ (r : I2cRun) (l : List Byte) (n : Fin 2) (s : State),
      s.lineOn (s.i2cOn n) = true →
      s.i2cWired n = true →
      (s.i2c n).run = some r →
      r.waiting = false →
      r.lost = none →
      bitOf r.xfer 11 = false →
      r.left ≤ (s.i2c n).tx.length →
      ∃ t, exec (.i2cTransferDone n l .ok) s = .next t ∧ (t.i2c n).run = none ∧ t.rdF (Reg.I2C_STATUS n) 0 3 = 0 ∧ t.pending1 (228 + 2 * n) = true ∧ (t.i2c n).tx = (s.i2c n).tx.drop r.left ∧ (t.i2c n).rx = (s.i2c n).rx ∧ t.bit (Reg.I2C_STATUS n) 4 = bitOf r.xfer 12 ∧ (t.i2c n).owns = bitOf r.xfer 12) ∧
    (∀ (r : I2cRun) (l : List Byte) (n : Fin 2) (s : State),
      s.lineOn (s.i2cOn n) = true →
      s.i2cWired n = true →
      (s.i2c n).run = some r →
      r.waiting = false →
      r.lost = none →
      bitOf r.xfer 11 = true →
      r.left ≤ l.length →
      r.left + (s.i2c n).rx.length ≤ 8 →
      ∃ t, exec (.i2cTransferDone n l .ok) s = .next t ∧ (t.i2c n).run = none ∧ t.rdF (Reg.I2C_STATUS n) 0 3 = 0 ∧ t.pending1 (228 + 2 * n) = true ∧ (t.i2c n).rx = (s.i2c n).rx ++ l.take r.left ∧ (t.i2c n).tx = (s.i2c n).tx) ∧
    (∀ (r : I2cRun) (n : Fin 2) (s : State),
      (s.i2c n).run = none ∨ ((s.i2c n).run = some r ∧ r.waiting = false) →
      exec (.i2cBusBusyTimeout n) s = .next s) ∧
    (∀ (r : I2cRun) (l : List Byte) (n : Fin 2) (s : State),
      s.lineOn (s.i2cOn n) = true →
      (s.i2c n).run = some r →
      r.waiting = false →
      r.lost = none →
      ∃ t, exec (.i2cTransferDone n l .nackAddr) s = .next t ∧ (t.i2c n).run = none ∧ t.rdF (Reg.I2C_STATUS n) 0 3 = 1 ∧ t.pending1 (229 + 2 * n) = true ∧ (t.i2c n).tx = (s.i2c n).tx) ∧
    (∀ (r : I2cRun) (i : Fin 255) (l : List Byte) (n : Fin 2) (s : State),
      s.lineOn (s.i2cOn n) = true →
      s.i2cWired n = true →
      (s.i2c n).run = some r →
      r.waiting = false →
      r.lost = none →
      ∃ t, exec (.i2cTransferDone n l (.nackData i)) s = .next t ∧ (t.i2c n).run = none ∧ t.rdF (Reg.I2C_STATUS n) 0 3 = 2 ∧ t.pending1 (229 + 2 * n) = true ∧ t.rdF (Reg.I2C_ARBLOST n) 0 8 = i) ∧
    (∀ (r : I2cRun) (how : I2cEnd) (l : List Byte) (n : Fin 2) (s : State),
      (s.i2c n).run = none ∨ ((s.i2c n).run = some r ∧ (r.waiting = true ∨ r.lost ≠ none)) →
      exec (.i2cTransferDone n l how) s = .next s) ∧
    (∀ (f : Nat) (n : Fin 2) (s : State),
      s.lineOn (s.spiOn n) = true →
      s.bit (Reg.SPI_CFG n) 0 = true →
      s.wired [0x10 + 4 * n, 0x13 + 4 * n] = true →
      s.bit (Reg.SPI_CFG n) 3 = true →
      (s.spi n).tx.head? = some f →
      ∃ t, exec (.spiTargetFrame n 0) s = .next t ∧ (∀ i < s.spiBits n, ((t.spi n).sent.headD 0).testBit i = f.testBit (s.spiBits n - 1 - i))) ∧
    (∀ (d : Fin 65536) (l : List (Fin 65536)) (n : Fin 2) (s : State),
      s.asleep = true ∨ (s.bit (Reg.SPI_CFG n) 0 = true ∧ s.wired [0x10 + 4 * n, 0x13 + 4 * n] = false) →
      exec (.spiTargetFrame n d) s = .next s ∧ exec (.spiTransferEnd n l) s = .next s) ∧
    (∀ (b : Byte) (p q x : Bool) (n : Fin 2) (s : State),
      s.asleep = true ∨ s.wired [0x1D + 2 * n] = false →
      exec (.uartByteReceived n b p q x) s = .next s) ∧
    (∀ (at_ : Fin 258 × Fin 8) (l : List Byte) (k : Fin 256) (b : Byte) (x : Bool) (n : Fin 2) (s : State),
      s.i2cLive n = false →
      exec (.i2cBusBusyTimeout n) s = .next s ∧ exec (.i2cSclTimeout n) s = .next s ∧ exec (.i2cSdaStuckTimeout n x) s = .next s ∧ exec (.i2cStopSeen n at_ l k) s = .next s ∧ exec (.i2cStartSeen n at_ b) s = .next s) ∧
    (∀ (r : I2cRun) (how : I2cEnd) (l : List Byte) (n : Fin 2) (s : State),
      s.lineOn (s.i2cOn n) = true →
      (s.i2c n).run = some r →
      r.waiting = false →
      r.lost = none →
      s.i2cWired n = false →
      ∃ t, exec (.i2cTransferDone n l how) s = .next t ∧ (t.i2c n).run = none ∧ t.rdF (Reg.I2C_STATUS n) 0 3 = 1 ∧ t.pending1 (229 + 2 * n) = true ∧ (t.i2c n).tx = (s.i2c n).tx) ∧
    (∀ (n : Fin 2) (s : State),
      s.i2cOn n = true →
      (s.i2c n).run = none →
      s.i2cWired n = false →
      ∃ t, exec (.i2cClear n false) s = .next t ∧ t.rdF (Reg.I2C_STATUS n) 0 3 = 6)

/-- GPIO set, clear and toggle act on the fitted pins of their register. A task port acts on its pin alone, as its ACT
says, and does nothing for a pin that is not a GPIO-function pin; in a cycle the software write comes first and the
ports follow in ascending order. An outside change of an undriven pin is sampled: no change of level changes nothing
else; a level change that matches the EDGE setting sets the flag and raises 240 + n mod 8. An ADC start runs, is
held while another converts, and is counted beyond; STOP ends the run without a result. A conversion writes its
result with event 236, event 238 outside the window, then the next entry runs; after the last entry of a sequence
237, and a held start runs. Without a run, or with the ADC not enabled, nothing happens. The model's choices in it,
no rules of the spec: a command whose premise does not hold changes nothing (log entry 13); floating pads (log entry
29); ADC_TEMP and ADC_STOP (log entry 42). (18 GPIO; 18 ADC) -/
def Obligations.PinsAndConversionsFollowTheirCommands : Prop :=
    (∀ (j : Fin 2) (v : Word) (s : State),
      s.cyc.ports = [] →
      s.cyc.gpioBase = [] →
      ∃ t, exec (.gpioSet j v) s = .next t ∧ t.rd (Reg.GPIO_OUT j) = (s.rd (Reg.GPIO_OUT j) ||| v) &&& s.gpioMask j ∧ OnlyRegs [(Reg.GPIO_OUT j)] s t) ∧
    (∀ (j : Fin 2) (v : Word) (s : State),
      s.cyc.ports = [] →
      s.cyc.gpioBase = [] →
      ∃ t, exec (.gpioClr j v) s = .next t ∧ t.rd (Reg.GPIO_OUT j) = (s.rd (Reg.GPIO_OUT j) &&& ~~~ v) &&& s.gpioMask j ∧ OnlyRegs [(Reg.GPIO_OUT j)] s t) ∧
    (∀ (j : Fin 2) (v : Word) (s : State),
      s.cyc.ports = [] →
      s.cyc.gpioBase = [] →
      ∃ t, exec (.gpioTgl j v) s = .next t ∧ t.rd (Reg.GPIO_OUT j) = (s.rd (Reg.GPIO_OUT j) ^^^ v) &&& s.gpioMask j ∧ OnlyRegs [(Reg.GPIO_OUT j)] s t) ∧
    (∀ (p : Nat) (k : Fin 8) (s : State),
      p = s.rdF (Reg.GPIO_TP_CFG k) 0 6 →
      s.cyc.ports = [] →
      s.isGpio p = false ∨ s.rdF (Reg.GPIO_TP_CFG k) 8 2 = 0 →
      ∃ t, exec (.gpioTaskPort k) s = .next t ∧ OnlyRegs [] { s with cyc := t.cyc } t) ∧
    (∀ (p : Nat) (k : Fin 8) (s : State),
      p = s.rdF (Reg.GPIO_TP_CFG k) 0 6 →
      s.cyc.ports = [] →
      s.isGpio p = true →
      s.rdF (Reg.GPIO_TP_CFG k) 8 2 = 1 →
      ∃ t, exec (.gpioTaskPort k) s = .next t ∧ t.bit (Reg.GPIO_OUT (p / 32)) (p % 32) = true ∧ OnlyRegs [Reg.GPIO_OUT (p / 32)] { s with cyc := t.cyc } t ∧ ∀ i < 32, i ≠ p % 32 → t.bit (Reg.GPIO_OUT (p / 32)) i = s.bit (Reg.GPIO_OUT (p / 32)) i) ∧
    (∀ (p : Nat) (k : Fin 8) (s : State),
      p = s.rdF (Reg.GPIO_TP_CFG k) 0 6 →
      s.cyc.ports = [] →
      s.isGpio p = true →
      s.rdF (Reg.GPIO_TP_CFG k) 8 2 = 2 →
      ∃ t, exec (.gpioTaskPort k) s = .next t ∧ t.bit (Reg.GPIO_OUT (p / 32)) (p % 32) = false ∧ OnlyRegs [Reg.GPIO_OUT (p / 32)] { s with cyc := t.cyc } t ∧ ∀ i < 32, i ≠ p % 32 → t.bit (Reg.GPIO_OUT (p / 32)) i = s.bit (Reg.GPIO_OUT (p / 32)) i) ∧
    (∀ (p : Nat) (k : Fin 8) (s : State),
      p = s.rdF (Reg.GPIO_TP_CFG k) 0 6 →
      s.cyc.ports = [] →
      s.isGpio p = true →
      s.rdF (Reg.GPIO_TP_CFG k) 8 2 = 3 →
      ∃ t, exec (.gpioTaskPort k) s = .next t ∧ t.bit (Reg.GPIO_OUT (p / 32)) (p % 32) = !s.bit (Reg.GPIO_OUT (p / 32)) (p % 32) ∧ OnlyRegs [Reg.GPIO_OUT (p / 32)] { s with cyc := t.cyc } t ∧ ∀ i < 32, i ≠ p % 32 → t.bit (Reg.GPIO_OUT (p / 32)) i = s.bit (Reg.GPIO_OUT (p / 32)) i) ∧
    (∀ (pin : Fin 40) (ext : Option Bool) (s : State),
      s.pinCount ≤ pin.val →
      exec (.gpioEdge pin ext) s = .next s) ∧
    (∀ (pin : Fin 40) (v : Bool) (s : State),
      pin.val < s.pinCount →
      s.padOut s.takeFree.1 pin = none →
      s.pinFunc pin < 0x48 ∨ 0x50 ≤ s.pinFunc pin →
      s.asleep = false →
      s.boot.phase = .app →
      s.bit (Reg.GPIO_IN (pin / 32)) (pin % 32) = v →
      ∃ t, exec (.gpioEdge pin (some v)) s = .next t ∧ mapGet t.ser.pads pin = some v ∧ OnlyRegs [] { s with ser := t.ser, freeCtr := s.freeCtr + 1 } t) ∧
    (∀ (pin : Fin 40) (v : Bool) (s : State),
      pin.val < s.pinCount →
      s.padOut s.takeFree.1 pin = none →
      s.pinFunc pin < 0x48 ∨ 0x50 ≤ s.pinFunc pin →
      s.asleep = false →
      s.boot.phase = .app →
      s.bit (Reg.GPIO_IN (pin / 32)) (pin % 32) ≠ v →
      s.ser.sampled = true →
      s.edgeMatches pin v = true →
      ∃ t, exec (.gpioEdge pin (some v)) s = .next t ∧ t.bit (Reg.GPIO_IN (pin / 32)) (pin % 32) = v ∧ t.bit (Reg.GPIO_FLAG (pin / 32)) (pin % 32) = true ∧ t.pending1 (240 + pin % 8) = true ∧ mapGet t.ser.pads pin = some v) ∧
    (∀ (pin : Fin 40) (v : Bool) (s : State),
      pin.val < s.pinCount →
      s.padOut s.takeFree.1 pin = none →
      s.pinFunc pin < 0x48 ∨ 0x50 ≤ s.pinFunc pin →
      s.asleep = false →
      s.boot.phase = .app →
      s.bit (Reg.GPIO_IN (pin / 32)) (pin % 32) ≠ v →
      s.ser.sampled = false ∨ s.edgeMatches pin v = false →
      ∃ t, exec (.gpioEdge pin (some v)) s = .next t ∧ t.bit (Reg.GPIO_IN (pin / 32)) (pin % 32) = v ∧ mapGet t.ser.pads pin = some v ∧ OnlyRegs [Reg.GPIO_IN (pin / 32)] { s with ser := t.ser, freeCtr := s.freeCtr + 1 } t) ∧
    (∀ (s : State),
      s.adcOn = false →
      exec .adcStart s = .next s ∧ exec .adcSeq s = .next s ∧ exec .adcStop s = .next s) ∧
    (∀ (c : Instr) (q : Bool) (s : State),
      (c, q) ∈ [(Instr.adcStart, false), (.adcSeq, true)] →
      s.adcOn = true →
      s.ser.adc = none →
      ∃ t, exec c s = .next t ∧ t.ser.adc = some { entry := 0, last := if q then s.rdF Reg.ADC_CTRL 4 3 else 0, seq := q, cycles := (max 4 (s.rdF Reg.ADC_CFG 8 6) + 14) * max (max 1 (s.rdF Reg.ADC_CFG 0 4)) (if s.bit Reg.CLK_STATUS 0 then 2 else 1) } ∧ t.ser.adcHeld = s.ser.adcHeld ∧ t.bit Reg.ADC_CTRL 7 = true ∧ OnlyRegs [Reg.ADC_CTRL] { s with ser := { s.ser with adc := t.ser.adc, adcHeld := t.ser.adcHeld } } t) ∧
    (∀ (r : AdcRun) (c : Instr) (q : Bool) (s : State),
      (c, q) ∈ [(Instr.adcStart, false), (.adcSeq, true)] →
      s.adcOn = true →
      s.ser.adc = some r →
      s.ser.adcHeld = none →
      ∃ t, exec c s = .next t ∧ t.ser.adc = some r ∧ t.ser.adcHeld = some q ∧ OnlyRegs [Reg.ADC_CTRL] { s with ser := { s.ser with adc := t.ser.adc, adcHeld := t.ser.adcHeld } } t) ∧
    (∀ (r : AdcRun) (x : Bool) (c : Instr) (q : Bool) (s : State),
      (c, q) ∈ [(Instr.adcStart, false), (.adcSeq, true)] →
      s.adcOn = true →
      s.ser.adc = some r →
      s.ser.adcHeld = some x →
      ∃ t, exec c s = .next t ∧ t.rdF Reg.ADC_STATUS 0 16 = min (s.rdF Reg.ADC_STATUS 0 16 + 1) 65535 ∧ OnlyRegs [Reg.ADC_STATUS] s t) ∧
    (∀ (r : AdcRun) (s : State),
      s.adcOn = true →
      s.ser.adc = some r →
      s.ser.adcHeld = none →
      ∃ t, exec .adcStop s = .next t ∧ t.ser.adc = none ∧ t.bit Reg.ADC_CTRL 7 = false ∧ OnlyRegs [Reg.ADC_CTRL] { s with ser := { s.ser with adc := t.ser.adc, adcHeld := t.ser.adcHeld } } t) ∧
    (∀ (r : AdcRun) (q : Bool) (s : State),
      s.adcOn = true →
      s.ser.adc = some r →
      s.ser.adcHeld = some q →
      ∃ t, exec .adcStop s = .next t ∧ t.ser.adc = some { entry := 0, last := if q then s.rdF Reg.ADC_CTRL 4 3 else 0, seq := q, cycles := (max 4 (s.rdF Reg.ADC_CFG 8 6) + 14) * max (max 1 (s.rdF Reg.ADC_CFG 0 4)) (if s.bit Reg.CLK_STATUS 0 then 2 else 1) } ∧ t.ser.adcHeld = none) ∧
    (∀ (code : Fin 4096) (s : State),
      s.ser.adc = none ∨ s.asleep = true →
      exec (.adcConversionDone code) s = .next s) ∧
    (∀ (c ch : Nat) (r : AdcRun) (code : Fin 4096) (s : State),
      s.ser.adc = some r →
      s.asleep = false →
      ch = s.rdF Reg.ADC_SEQ (4 * r.entry) 4 →
      c = (if s.adcBonded ch then code.val else 0) →
      r.entry < r.last →
      ch ≠ 9 →
      ∃ t, exec (.adcConversionDone code) s = .next t ∧ t.rd (Reg.ADC_RES r.entry) = word (c + ch * 2 ^ 16 + 2 ^ 31) ∧ t.pending1 236 = true ∧ (ch = s.rdF Reg.ADC_WIN 28 4 → (c < s.rdF Reg.ADC_WIN 0 12 ∨ s.rdF Reg.ADC_WIN 16 12 < c) → t.pending1 238 = true) ∧ t.ser.adc = some { r with entry := r.entry + 1 } ∧ t.ser.adcHeld = s.ser.adcHeld) ∧
    (∀ (c ch : Nat) (r : AdcRun) (code : Fin 4096) (s : State),
      s.ser.adc = some r →
      s.asleep = false →
      ch = s.rdF Reg.ADC_SEQ (4 * r.entry) 4 →
      c = (if s.adcBonded ch then code.val else 0) →
      r.last ≤ r.entry →
      s.ser.adcHeld = none →
      ∃ t, exec (.adcConversionDone code) s = .next t ∧ t.rd (Reg.ADC_RES r.entry) = word (c + ch * 2 ^ 16 + 2 ^ 31) ∧ t.pending1 236 = true ∧ (ch = s.rdF Reg.ADC_WIN 28 4 → (c < s.rdF Reg.ADC_WIN 0 12 ∨ s.rdF Reg.ADC_WIN 16 12 < c) → t.pending1 238 = true) ∧ (r.seq = true → t.pending1 237 = true) ∧ t.ser.adc = none ∧ t.bit Reg.ADC_CTRL 7 = false) ∧
    (∀ (q : Bool) (c ch : Nat) (r : AdcRun) (code : Fin 4096) (s : State),
      s.ser.adc = some r →
      s.asleep = false →
      ch = s.rdF Reg.ADC_SEQ (4 * r.entry) 4 →
      c = (if s.adcBonded ch then code.val else 0) →
      r.last ≤ r.entry →
      s.ser.adcHeld = some q →
      ∃ t, exec (.adcConversionDone code) s = .next t ∧ t.rd (Reg.ADC_RES r.entry) = word (c + ch * 2 ^ 16 + 2 ^ 31) ∧ t.pending1 236 = true ∧ (t.ser.adc).isSome = true ∧ (∀ x ∈ t.ser.adc, x.entry = 0 ∧ x.seq = q) ∧ t.ser.adcHeld = none) ∧
    (∀ (p : Nat) (k : Fin 8) (j : Fin 2) (v : Word) (s : State),
      p = s.rdF (Reg.GPIO_TP_CFG k) 0 6 →
      s.cyc.ports = [k.val] →
      s.isGpio p = true →
      s.rdF (Reg.GPIO_TP_CFG k) 8 2 = 1 →
      j.val = p / 32 →
      ∃ t, exec (.gpioClr j v) s = .next t ∧ t.bit (Reg.GPIO_OUT j) (p % 32) = true ∧ (∀ i < 32, i ≠ p % 32 → t.bit (Reg.GPIO_OUT j) i = bitOf ((mapGet s.cyc.gpioBase j.val).getD (s.rd (Reg.GPIO_OUT j)) &&& ~~~ v &&& s.gpioMask j) i)) ∧
    (∀ (p : Nat) (k l : Fin 8) (s : State),
      s.cyc.ports = [l.val] →
      k.val < l.val →
      p = s.rdF (Reg.GPIO_TP_CFG k) 0 6 →
      p = s.rdF (Reg.GPIO_TP_CFG l) 0 6 →
      s.isGpio p = true →
      s.rdF (Reg.GPIO_TP_CFG k) 8 2 = 1 →
      s.rdF (Reg.GPIO_TP_CFG l) 8 2 = 2 →
      ∃ t, exec (.gpioTaskPort k) s = .next t ∧ t.bit (Reg.GPIO_OUT (p / 32)) (p % 32) = false)

/-- The opcode table lets a sender send a command that stands for an event which cannot come about in the state: a
strobe when none is on its way, the end of a transition, retune, request or window that is not running, a detection
outside its stage, a slip of a source that sent none, an expiry of an idle timer. Such a command leaves the state as
it is. This is the model's choice of log entry 13 and no rule of the spec. (08 Operation; 09 Detection and tracking;
09 Loading tables, Derivation; 14 Mailbox requests; 16 Intake and promotion) -/
def Obligations.CommandsWithoutTheirPremiseChangeNothing : Prop :=
    (∀ (b : Bool) (s : State),
      s.front.strobes = [] →
      exec (.strobeReceived b) s = .next s) ∧
    (∀ (s : State),
      s.front.going = none →
      exec .frontTransitionEnd s = .next s) ∧
    (∀ (s : State),
      s.fsm ≠ 3 →
      s.fsm ≠ 7 →
      exec .samplerOverload s = .next s) ∧
    (∀ (l : List Byte) (s : State),
      s.fsm ≠ 7 →
      exec (.rangingCaptureEnd l) s = .next s) ∧
    (∀ (p : Bool) (rl : Fin 256) (s : State),
      s.fsm ≠ 4 →
      s.fsm ≠ 5 →
      exec (.returnLossLow p rl) s = .next s) ∧
    (∀ (power : Int) (s : State),
      s.link.tuneReq = none ∨ s.radioFree = false ∨ s.bit Reg.CAL_STATUS 0 = true →
      exec (.tuningGapGrant power) s = .next s) ∧
    (∀ (first : Fin 256) (rest : List (Fin 64 × Fin 64 × Fin 256)) (s : State),
      s.front.tuning = none ∨ s.fsm ≠ 5 →
      exec (.retuneDone first rest) s = .next s) ∧
    (∀ (s : State),
      s.fsm = 0 ∨ s.front.going.isSome = true →
      exec .frontPllUnlock s = .next s) ∧
    (∀ (p : Int) (s : State),
      s.fsm ≠ 3 →
      exec (.detectStage1 p) s = .next s) ∧
    (∀ (c : Fin 256) (s : State),
      s.front.stage ≠ 1 ∨ c.val ≤ s.rdF Reg.MODEM_CFG 8 8 →
      exec (.preambleQualified c) s = .next s) ∧
    (∀ (s : State),
      s.front.stage ≠ 1 →
      exec .detectStage2Timeout s = .next s) ∧
    (∀ (e : Fin 33) (r : Nat) (s : State),
      s.front.stage ≠ 1 ∨ s.rdF Reg.MODEM_CFG 20 2 < e.val →
      exec (.gen1SyncFound e r) s = .next s) ∧
    (∀ (h : BitVec 48) (r : Nat) (s : State),
      s.front.stage ≠ 2 ∨ s.front.gen2 = false →
      exec (.headerDecoded h r) s = .next s) ∧
    (∀ (l : List Byte) (m : RxMeas) (s : State),
      s.fsm ≠ 3 →
      exec (.payloadEnd l m) s = .next s) ∧
    (∀ (s : State),
      s.link.derive_ = none →
      exec .ltsDeriveDone s = .next s) ∧
    (∀ (k : Fin 4) (s : State),
      (s.mb k).phase ≠ .running →
      exec (.mailboxRequestDone k) s = .next s) ∧
    (∀ (k : Fin 4) (s : State),
      (s.mb k).phase ≠ .refusing →
      exec (.refusalWindowEnd k) s = .next s) ∧
    (∀ (src : Fin 128) (s : State),
      s.fault.waiting.all (fun w => fld w 0 7 != src.val) = true →
      exec (.slipIntake src) s = .next s) ∧
    (∀ (s : State),
      s.bit Reg.FAULT_STATUS 0 = false ∨ s.rdF Reg.FAULT_STATUS 16 16 ≠ 0 →
      exec .graceExpiry s = .next s)
end

