-- ==== Sys2Proof/Laws/Exec.lean ====
section
/-! SUPPORT. `exec` of each command is its meaning: one lemma per constructor, so that no proof unfolds the dispatch. -/

namespace Sys2Proof.Machine

variable (s : State)

@[simp] theorem exec_absentUnitRead (m : Master) (addr : Word) :
    exec (.absentUnitRead m addr) s = execAbsentUnitRead m addr s := (rfl)

@[simp] theorem exec_absentUnitWrite (m : Master) (addr : Word) (v : Word) :
    exec (.absentUnitWrite m addr v) s = execAbsentUnitWrite m addr v s := (rfl)

@[simp] theorem exec_rcRegisterRead (m : Master) (addr : Word) :
    exec (.rcRegisterRead m addr) s = execRcRegisterRead m addr s := (rfl)

@[simp] theorem exec_registerWrite (m : Master) (addr : Word) (v : Word) :
    exec (.registerWrite m addr v) s = execRegisterWrite m addr v s := (rfl)

@[simp] theorem exec_unmappedAccess (m : Master) (write : Bool) (addr : Word) :
    exec (.unmappedAccess m write addr) s = execUnmappedAccess m write addr s := (rfl)

@[simp] theorem exec_queueMemoryWrite (m : Master) (addr : Word) (v : Word) :
    exec (.queueMemoryWrite m addr v) s = execQueueMemoryWrite m addr v s := (rfl)

@[simp] theorem exec_bufferLinkWordWrite (m : Master) (addr : Word) (v : Word) :
    exec (.bufferLinkWordWrite m addr v) s = execBufferLinkWordWrite m addr v s := (rfl)

@[simp] theorem exec_farDieAccess (m : Master) (write : Bool) (addr : Word) (v : Word) :
    exec (.farDieAccess m write addr v) s = execFarDieAccess m write addr v s := (rfl)

@[simp] theorem exec_farDieResponse (die : Die) : exec (.farDieResponse die) s = execFarDieResponse die s := (rfl)

@[simp] theorem exec_storeStatusRead (m : Master) (addr : Word) :
    exec (.storeStatusRead m addr) s = execStoreStatusRead m addr s := (rfl)

@[simp] theorem exec_spineRequestRepresented (m : Master) :
    exec (.spineRequestRepresented m) s = execSpineRequestRepresented m s := (rfl)

@[simp] theorem exec_spinePacketReceived (die : Die) (far : Bool) (seq : Byte) (crcOk : Bool) :
    exec (.spinePacketReceived die far seq crcOk) s = execSpinePacketReceived die far seq crcOk s := (rfl)

@[simp] theorem exec_spineNakReceived (die : Die) (far : Bool) (seq : Byte) :
    exec (.spineNakReceived die far seq) s = execSpineNakReceived die far seq s := (rfl)

@[simp] theorem exec_spineAckTimeout (die : Die) (far : Bool) :
    exec (.spineAckTimeout die far) s = execSpineAckTimeout die far s := (rfl)

@[simp] theorem exec_timingStrobe (target : FsmTarget) :
    exec (.timingStrobe target) s = execTimingStrobe target s := (rfl)

@[simp] theorem exec_sbrF : exec .sbrF s = execSbrF s := (rfl)

@[simp] theorem exec_sbrFRelease : exec .sbrFRelease s = execSbrFRelease s := (rfl)

@[simp] theorem exec_frontPllLocked : exec .frontPllLocked s = execFrontPllLocked s := (rfl)

@[simp] theorem exec_spineTrainingDone (die : Die) :
    exec (.spineTrainingDone die) s = execSpineTrainingDone die s := (rfl)

@[simp] theorem exec_sbrS : exec .sbrS s = execSbrS s := (rfl)

@[simp] theorem exec_sbrSHold : exec .sbrSHold s = execSbrSHold s := (rfl)

@[simp] theorem exec_retrainF : exec .retrainF s = execRetrainF s := (rfl)

@[simp] theorem exec_retrainS : exec .retrainS s = execRetrainS s := (rfl)

@[simp] theorem exec_catlVerify : exec .catlVerify s = execCatlVerify s := (rfl)

@[simp] theorem exec_catlApply : exec .catlApply s = execCatlApply s := (rfl)

@[simp] theorem exec_catlSignatureDone (refused : Bool) :
    exec (.catlSignatureDone refused) s = execCatlSignatureDone refused s := (rfl)

@[simp] theorem exec_catlStageFolio : exec .catlStageFolio s = execCatlStageFolio s := (rfl)

@[simp] theorem exec_catlSwitch : exec .catlSwitch s = execCatlSwitch s := (rfl)

@[simp] theorem exec_catlSetActive (app : Bool) (slot : Bool) :
    exec (.catlSetActive app slot) s = execCatlSetActive app slot s := (rfl)

@[simp] theorem exec_catlRecordWritten : exec .catlRecordWritten s = execCatlRecordWritten s := (rfl)

@[simp] theorem exec_catlCommit : exec .catlCommit s = execCatlCommit s := (rfl)

@[simp] theorem exec_catlRetire : exec .catlRetire s = execCatlRetire s := (rfl)

@[simp] theorem exec_powerOnReset (env : SupplyEnv) : exec (.powerOnReset env) s = execPowerOnReset env s := (rfl)

@[simp] theorem exec_brownOutReset : exec .brownOutReset s = execBrownOutReset s := (rfl)

@[simp] theorem exec_rstNPulse (ns : Nat) : exec (.rstNPulse ns) s = execRstNPulse ns s := (rfl)

@[simp] theorem exec_softwareReset (key : Word) : exec (.softwareReset key) s = execSoftwareReset key s := (rfl)

@[simp] theorem exec_debugReset : exec .debugReset s = execDebugReset s := (rfl)

@[simp] theorem exec_resetHoldEnd : exec .resetHoldEnd s = execResetHoldEnd s := (rfl)

@[simp] theorem exec_bootStart (env : BootEnv) : exec (.bootStart env) s = execBootStart env s := (rfl)

@[simp] theorem exec_bootStepTimeout (env : BootEnv) (step : Fin 14) :
    exec (.bootStepTimeout env step) s = execBootStepTimeout env step s := (rfl)

@[simp] theorem exec_bootOk (key : Word) : exec (.bootOk key) s = execBootOk key s := (rfl)

@[simp] theorem exec_errataClr (v : Word) : exec (.errataClr v) s = execErrataClr v s := (rfl)

@[simp] theorem exec_errataMirrorRewrite : exec .errataMirrorRewrite s = execErrataMirrorRewrite s := (rfl)

@[simp] theorem exec_gpioHoldRelease : exec .gpioHoldRelease s = execGpioHoldRelease s := (rfl)

@[simp] theorem exec_annexHello (line : List Byte) : exec (.annexHello line) s = execAnnexHello line s := (rfl)

@[simp] theorem exec_annexBegin (line : List Byte) : exec (.annexBegin line) s = execAnnexBegin line s := (rfl)

@[simp] theorem exec_annexBeginErased (failed : Bool) :
    exec (.annexBeginErased failed) s = execAnnexBeginErased failed s := (rfl)

@[simp] theorem exec_annexData (line : List Byte) (failed : Bool) :
    exec (.annexData line failed) s = execAnnexData line failed s := (rfl)

@[simp] theorem exec_annexEnd (line : List Byte) (refused : Bool) :
    exec (.annexEnd line refused) s = execAnnexEnd line refused s := (rfl)

@[simp] theorem exec_annexReset (line : List Byte) : exec (.annexReset line) s = execAnnexReset line s := (rfl)

@[simp] theorem exec_annexResetDelayExpiry : exec .annexResetDelayExpiry s = execAnnexResetDelayExpiry s := (rfl)

@[simp] theorem exec_rescueBlockReceived (payload : List Byte) (refused : Bool) :
    exec (.rescueBlockReceived payload refused) s = execRescueBlockReceived payload refused s := (rfl)

@[simp] theorem exec_rescueEraseDone : exec .rescueEraseDone s = execRescueEraseDone s := (rfl)

@[simp] theorem exec_brownOutWarning : exec .brownOutWarning s = execBrownOutWarning s := (rfl)

@[simp] theorem exec_brownOutRelease : exec .brownOutRelease s = execBrownOutRelease s := (rfl)

@[simp] theorem exec_wfiDoze : exec .wfiDoze s = execWfiDoze s := (rfl)

@[simp] theorem exec_wfiNap : exec .wfiNap s = execWfiNap s := (rfl)

@[simp] theorem exec_wfiHibernate : exec .wfiHibernate s = execWfiHibernate s := (rfl)

@[simp] theorem exec_sleepBlockersClear : exec .sleepBlockersClear s = execSleepBlockersClear s := (rfl)

@[simp] theorem exec_napEntryAbort : exec .napEntryAbort s = execNapEntryAbort s := (rfl)

@[simp] theorem exec_wakeInstantReached : exec .wakeInstantReached s = execWakeInstantReached s := (rfl)

@[simp] theorem exec_napWakeResume (pllLocked : Bool) :
    exec (.napWakeResume pllLocked) s = execNapWakeResume pllLocked s := (rfl)

@[simp] theorem exec_hibernateWake : exec .hibernateWake s = execHibernateWake s := (rfl)

@[simp] theorem exec_pwrAlarmHiWrite (v : Word) : exec (.pwrAlarmHiWrite v) s = execPwrAlarmHiWrite v s := (rfl)

@[simp] theorem exec_alarmFire : exec .alarmFire s = execAlarmFire s := (rfl)

@[simp] theorem exec_clkCtrlWrite (v : Word) : exec (.clkCtrlWrite v) s = execClkCtrlWrite v s := (rfl)

@[simp] theorem exec_corePllLock : exec .corePllLock s = execCorePllLock s := (rfl)

@[simp] theorem exec_corePllLockLoss : exec .corePllLockLoss s = execCorePllLockLoss s := (rfl)

@[simp] theorem exec_rootMonitorFail (count : Nat) :
    exec (.rootMonitorFail count) s = execRootMonitorFail count s := (rfl)

@[simp] theorem exec_slowFail : exec .slowFail s = execSlowFail s := (rfl)

@[simp] theorem exec_tickMonitorExpiry : exec .tickMonitorExpiry s = execTickMonitorExpiry s := (rfl)

@[simp] theorem exec_chronicleTrimStep : exec .chronicleTrimStep s = execChronicleTrimStep s := (rfl)

@[simp] theorem exec_sleepMeasurementDone (count : Nat) :
    exec (.sleepMeasurementDone count) s = execSleepMeasurementDone count s := (rfl)

@[simp] theorem exec_chronStepArm : exec .chronStepArm s = execChronStepArm s := (rfl)

@[simp] theorem exec_chronStepNow : exec .chronStepNow s = execChronStepNow s := (rfl)

@[simp] theorem exec_chronStepCancel : exec .chronStepCancel s = execChronStepCancel s := (rfl)

@[simp] theorem exec_chronStepReached : exec .chronStepReached s = execChronStepReached s := (rfl)

@[simp] theorem exec_disciplineStep : exec .disciplineStep s = execDisciplineStep s := (rfl)

@[simp] theorem exec_chronResync : exec .chronResync s = execChronResync s := (rfl)

@[simp] theorem exec_chronRateWrite (v : Word) : exec (.chronRateWrite v) s = execChronRateWrite v s := (rfl)

@[simp] theorem exec_chronLost (openAt : Nat) : exec (.chronLost openAt) s = execChronLost openAt s := (rfl)

@[simp] theorem exec_timerPrescaleExpiry (t : Fin 8) :
    exec (.timerPrescaleExpiry t) s = execTimerPrescaleExpiry t s := (rfl)

@[simp] theorem exec_timerStart (t : Fin 8) : exec (.timerStart t) s = execTimerStart t s := (rfl)

@[simp] theorem exec_timerStop (t : Fin 8) : exec (.timerStop t) s = execTimerStop t s := (rfl)

@[simp] theorem exec_timerClear (t : Fin 8) : exec (.timerClear t) s = execTimerClear t s := (rfl)

@[simp] theorem exec_timerCapture (t : Fin 8) (ch : Fin 4) :
    exec (.timerCapture t ch) s = execTimerCapture t ch s := (rfl)

@[simp] theorem exec_timerCntWrite (t : Fin 8) (v : Word) :
    exec (.timerCntWrite t v) s = execTimerCntWrite t v s := (rfl)

@[simp] theorem exec_actionEntryWrite (m : Master) (i : Fin 512) (w : Fin 4) (v : Word) :
    exec (.actionEntryWrite m i w v) s = execActionEntryWrite m i w v s := (rfl)

@[simp] theorem exec_actArm (m : Master) (v : Word) : exec (.actArm m v) s = execActArm m v s := (rfl)

@[simp] theorem exec_actCancel (m : Master) (v : Word) : exec (.actCancel m v) s = execActCancel m v s := (rfl)

@[simp] theorem exec_actRelease (m : Master) (v : Word) : exec (.actRelease m v) s = execActRelease m v s := (rfl)

@[simp] theorem exec_actTmpl (m : Master) (v : Word) : exec (.actTmpl m v) s = execActTmpl m v s := (rfl)

@[simp] theorem exec_actionFire : exec .actionFire s = execActionFire s := (rfl)

@[simp] theorem exec_actionCatchUp : exec .actionCatchUp s = execActionCatchUp s := (rfl)

@[simp] theorem exec_fabricChannelFire : exec .fabricChannelFire s = execFabricChannelFire s := (rfl)

@[simp] theorem exec_fabFire (v : Word) : exec (.fabFire v) s = execFabFire v s := (rfl)

@[simp] theorem exec_fabSwev (v : Word) : exec (.fabSwev v) s = execFabSwev v s := (rfl)

@[simp] theorem exec_fabTaskWrite (c : Fin 128) (second : Bool) (v : Word) :
    exec (.fabTaskWrite c second v) s = execFabTaskWrite c second v s := (rfl)

@[simp] theorem exec_fabCfgWrite (c : Fin 128) (v : Word) : exec (.fabCfgWrite c v) s = execFabCfgWrite c v s := (rfl)

@[simp] theorem exec_backupCellRise : exec .backupCellRise s = execBackupCellRise s := (rfl)

@[simp] theorem exec_intcClaim (m : Master) : exec (.intcClaim m) s = execIntcClaim m s := (rfl)

@[simp] theorem exec_samplerOverload : exec .samplerOverload s = execSamplerOverload s := (rfl)

@[simp] theorem exec_rangingCaptureEnd (samples : List Byte) :
    exec (.rangingCaptureEnd samples) s = execRangingCaptureEnd samples s := (rfl)

@[simp] theorem exec_radioFreqWrite (tx : Bool) (v : Word) :
    exec (.radioFreqWrite tx v) s = execRadioFreqWrite tx v s := (rfl)

@[simp] theorem exec_radioFsmCmd (v : Word) : exec (.radioFsmCmd v) s = execRadioFsmCmd v s := (rfl)

@[simp] theorem exec_strobeReceived (parityOk : Bool) :
    exec (.strobeReceived parityOk) s = execStrobeReceived parityOk s := (rfl)

@[simp] theorem exec_frontTransitionEnd : exec .frontTransitionEnd s = execFrontTransitionEnd s := (rfl)

@[simp] theorem exec_returnLossLow (path24 : Bool) (rl : Fin 256) :
    exec (.returnLossLow path24 rl) s = execReturnLossLow path24 rl s := (rfl)

@[simp] theorem exec_tuningGapGrant (power : Int) : exec (.tuningGapGrant power) s = execTuningGapGrant power s := (rfl)

@[simp] theorem exec_retuneDone (first : Fin 256) (rest : List (Fin 64 × Fin 64 × Fin 256)) :
    exec (.retuneDone first rest) s = execRetuneDone first rest s := (rfl)

@[simp] theorem exec_detectStage1 (power : Int) : exec (.detectStage1 power) s = execDetectStage1 power s := (rfl)

@[simp] theorem exec_preambleQualified (corr : Fin 256) :
    exec (.preambleQualified corr) s = execPreambleQualified corr s := (rfl)

@[simp] theorem exec_detectStage2Timeout : exec .detectStage2Timeout s = execDetectStage2Timeout s := (rfl)

@[simp] theorem exec_gen1SyncFound (errors : Fin 33) (ref : Nat) :
    exec (.gen1SyncFound errors ref) s = execGen1SyncFound errors ref s := (rfl)

@[simp] theorem exec_headerDecoded (header : BitVec 48) (ref : Nat) :
    exec (.headerDecoded header ref) s = execHeaderDecoded header ref s := (rfl)

@[simp] theorem exec_payloadEnd (psdu : List Byte) (meas : RxMeas) :
    exec (.payloadEnd psdu meas) s = execPayloadEnd psdu meas s := (rfl)

@[simp] theorem exec_ltsWrite (rate : Bool) (id : Fin 1024) :
    exec (.ltsWrite rate id) s = execLtsWrite rate id s := (rfl)

@[simp] theorem exec_ltsRead (id : Fin 1024) : exec (.ltsRead id) s = execLtsRead id s := (rfl)

@[simp] theorem exec_ltsRemove (id : Fin 1024) : exec (.ltsRemove id) s = execLtsRemove id s := (rfl)

@[simp] theorem exec_ltsDerive (rate : Bool) : exec (.ltsDerive rate) s = execLtsDerive rate s := (rfl)

@[simp] theorem exec_ltsDeriveDone : exec .ltsDeriveDone s = execLtsDeriveDone s := (rfl)

@[simp] theorem exec_laneEstimateUpdate (lanes : List Word) (spur : Fin 256) :
    exec (.laneEstimateUpdate lanes spur) s = execLaneEstimateUpdate lanes spur s := (rfl)

@[simp] theorem exec_temperatureEvaluation (raw : Int) :
    exec (.temperatureEvaluation raw) s = execTemperatureEvaluation raw s := (rfl)

@[simp] theorem exec_calRequest : exec .calRequest s = execCalRequest s := (rfl)

@[simp] theorem exec_calForce : exec .calForce s = execCalForce s := (rfl)

@[simp] theorem exec_calWaitExpiry : exec .calWaitExpiry s = execCalWaitExpiry s := (rfl)

@[simp] theorem exec_blackoutGrant : exec .blackoutGrant s = execBlackoutGrant s := (rfl)

@[simp] theorem exec_forcedBlackoutStart : exec .forcedBlackoutStart s = execForcedBlackoutStart s := (rfl)

@[simp] theorem exec_calFolioEnd (ok : Bool) (lanes : List Word) (spur : Fin 256) :
    exec (.calFolioEnd ok lanes spur) s = execCalFolioEnd ok lanes spur s := (rfl)

@[simp] theorem exec_slotBoundary : exec .slotBoundary s = execSlotBoundary s := (rfl)

@[simp] theorem exec_beaconSend : exec .beaconSend s = execBeaconSend s := (rfl)

@[simp] theorem exec_beaconAccepted (psdu : List Byte) (ref : Nat) :
    exec (.beaconAccepted psdu ref) s = execBeaconAccepted psdu ref s := (rfl)

@[simp] theorem exec_airopStart : exec .airopStart s = execAiropStart s := (rfl)

@[simp] theorem exec_airopFabricTask (k : Fin 32) : exec (.airopFabricTask k) s = execAiropFabricTask k s := (rfl)

@[simp] theorem exec_lbtListenEnd (power : Int) : exec (.lbtListenEnd power) s = execLbtListenEnd power s := (rfl)

@[simp] theorem exec_transmissionOpen : exec .transmissionOpen s = execTransmissionOpen s := (rfl)

@[simp] theorem exec_budgetBucketAdvance (band : Fin 8) :
    exec (.budgetBucketAdvance band) s = execBudgetBucketAdvance band s := (rfl)

@[simp] theorem exec_receiveWindowClose : exec .receiveWindowClose s = execReceiveWindowClose s := (rfl)

@[simp] theorem exec_ackReceived (seq : Fin 65536) : exec (.ackReceived seq) s = execAckReceived seq s := (rfl)

@[simp] theorem exec_ackTimeout : exec .ackTimeout s = execAckTimeout s := (rfl)

@[simp] theorem exec_linkFcntWrite (k : Fin 2) (v : Word) :
    exec (.linkFcntWrite k v) s = execLinkFcntWrite k v s := (rfl)

@[simp] theorem exec_macAssign (src : Fin 65536) (body : List Byte) :
    exec (.macAssign src body) s = execMacAssign src body s := (rfl)

@[simp] theorem exec_macLtSet (src : Fin 65536) (body : List Byte) :
    exec (.macLtSet src body) s = execMacLtSet src body s := (rfl)

@[simp] theorem exec_macLtUse (src : Fin 65536) (body : List Byte) :
    exec (.macLtUse src body) s = execMacLtUse src body s := (rfl)

@[simp] theorem exec_joinSend : exec .joinSend s = execJoinSend s := (rfl)

@[simp] theorem exec_joinRetry : exec .joinRetry s = execJoinRetry s := (rfl)

@[simp] theorem exec_floodRelay : exec .floodRelay s = execFloodRelay s := (rfl)

@[simp] theorem exec_linkOpSubmit (m : Master) : exec (.linkOpSubmit m) s = execLinkOpSubmit m s := (rfl)

@[simp] theorem exec_linkOpCancel (m : Master) (k : Fin 32) :
    exec (.linkOpCancel m k) s = execLinkOpCancel m k s := (rfl)

@[simp] theorem exec_linkOpRelease (m : Master) (k : Fin 32) :
    exec (.linkOpRelease m k) s = execLinkOpRelease m k s := (rfl)

@[simp] theorem exec_nbrAdd : exec .nbrAdd s = execNbrAdd s := (rfl)

@[simp] theorem exec_nbrRead (key : Fin 65536) : exec (.nbrRead key) s = execNbrRead key s := (rfl)

@[simp] theorem exec_nbrRemove (key : Fin 65536) : exec (.nbrRemove key) s = execNbrRemove key s := (rfl)

@[simp] theorem exec_nbrReadIdx (key : Fin 65536) : exec (.nbrReadIdx key) s = execNbrReadIdx key s := (rfl)

@[simp] theorem exec_qeEnqueue (port : Fin 4) (m : Master) (queue : Fin 65536) (cell : Fin 65536)
    (beside : List PortCmd) :
    exec (.qeEnqueue port m queue cell beside) s = execQeEnqueue port m queue cell beside s := (rfl)

@[simp] theorem exec_qeDequeue (port : Fin 4) (m : Master) (queue : Fin 65536) (keep : Bool) (beside : List PortCmd) :
    exec (.qeDequeue port m queue keep beside) s = execQeDequeue port m queue keep beside s := (rfl)

@[simp] theorem exec_qePeek (port : Fin 4) (m : Master) (queue : Fin 65536) (beside : List PortCmd) :
    exec (.qePeek port m queue beside) s = execQePeek port m queue beside s := (rfl)

@[simp] theorem exec_qeMove (port : Fin 4) (m : Master) (queue : Fin 65536) (dstq : Fin 65536) (beside : List PortCmd) :
    exec (.qeMove port m queue dstq beside) s = execQeMove port m queue dstq beside s := (rfl)

@[simp] theorem exec_qeFlush (port : Fin 4) (m : Master) (queue : Fin 65536) (beside : List PortCmd) :
    exec (.qeFlush port m queue beside) s = execQeFlush port m queue beside s := (rfl)

@[simp] theorem exec_qePause (port : Fin 4) (m : Master) (queue : Fin 65536) (drain : Bool) (beside : List PortCmd) :
    exec (.qePause port m queue drain beside) s = execQePause port m queue drain beside s := (rfl)

@[simp] theorem exec_qeResume (port : Fin 4) (m : Master) (queue : Fin 65536) (cls : Fin 16) (clr : Bool)
    (beside : List PortCmd) :
    exec (.qeResume port m queue cls clr beside) s = execQeResume port m queue cls clr beside s := (rfl)

@[simp] theorem exec_qeCompletionPosted (port : Fin 4) :
    exec (.qeCompletionPosted port) s = execQeCompletionPosted port s := (rfl)

@[simp] theorem exec_qeRingCiWrite (v : Word) : exec (.qeRingCiWrite v) s = execQeRingCiWrite v s := (rfl)

@[simp] theorem exec_qeAlloc (m : Master) (v : Word) : exec (.qeAlloc m v) s = execQeAlloc m v s := (rfl)

@[simp] theorem exec_qeRelease (m : Master) (v : Word) : exec (.qeRelease m v) s = execQeRelease m v s := (rfl)

@[simp] theorem exec_qeInit (v : Word) : exec (.qeInit v) s = execQeInit v s := (rfl)

@[simp] theorem exec_qeBankRestored (bank : Fin 16) : exec (.qeBankRestored bank) s = execQeBankRestored bank s := (rfl)

@[simp] theorem exec_moverStart (m : Master) (ch : Fin 16) : exec (.moverStart m ch) s = execMoverStart m ch s := (rfl)

@[simp] theorem exec_moverStop (ch : Fin 16) : exec (.moverStop ch) s = execMoverStop ch s := (rfl)

@[simp] theorem exec_moverPacedRequest (ch : Fin 16) (stalled : Bool) :
    exec (.moverPacedRequest ch stalled) s = execMoverPacedRequest ch stalled s := (rfl)

@[simp] theorem exec_moverDescriptorDone (ch : Fin 16) :
    exec (.moverDescriptorDone ch) s = execMoverDescriptorDone ch s := (rfl)

@[simp] theorem exec_moverBusError (ch : Fin 16) (addr : Word) :
    exec (.moverBusError ch addr) s = execMoverBusError ch addr s := (rfl)

@[simp] theorem exec_storeErase (m : Master) (addr : Word) :
    exec (.storeErase m addr) s = execStoreErase m addr s := (rfl)

@[simp] theorem exec_storeProgram (m : Master) (addr : Word) (len : Word) :
    exec (.storeProgram m addr len) s = execStoreProgram m addr len s := (rfl)

@[simp] theorem exec_storeCheck (m : Master) (addr : Word) :
    exec (.storeCheck m addr) s = execStoreCheck m addr s := (rfl)

@[simp] theorem exec_storeRefresh (m : Master) (addr : Word) :
    exec (.storeRefresh m addr) s = execStoreRefresh m addr s := (rfl)

@[simp] theorem exec_psCommit (m : Master) (slot : Word) : exec (.psCommit m slot) s = execPsCommit m slot s := (rfl)

@[simp] theorem exec_psRetire (m : Master) (slot : Word) : exec (.psRetire m slot) s = execPsRetire m slot s := (rfl)

@[simp] theorem exec_storeDataPortWrite (plane : Fin 2) (v : Word) :
    exec (.storeDataPortWrite plane v) s = execStoreDataPortWrite plane v s := (rfl)

@[simp] theorem exec_storeDoneClear (v : Word) : exec (.storeDoneClear v) s = execStoreDoneClear v s := (rfl)

@[simp] theorem exec_storeAbort (v : Word) : exec (.storeAbort v) s = execStoreAbort v s := (rfl)

@[simp] theorem exec_storePulseEnd (plane : Fin 2) (pass : Bool) :
    exec (.storePulseEnd plane pass) s = execStorePulseEnd plane pass s := (rfl)

@[simp] theorem exec_storeResume (plane : Fin 2) : exec (.storeResume plane) s = execStoreResume plane s := (rfl)

@[simp] theorem exec_xipLineRead (m : Master) (addr : Word) (decay : List (Nat × Bool)) :
    exec (.xipLineRead m addr decay) s = execXipLineRead m addr decay s := (rfl)

@[simp] theorem exec_patrolReadDue : exec .patrolReadDue s = execPatrolReadDue s := (rfl)

@[simp] theorem exec_patrolReadDone (decay : List (Nat × Bool)) :
    exec (.patrolReadDone decay) s = execPatrolReadDone decay s := (rfl)

@[simp] theorem exec_patrolRefreshResume : exec .patrolRefreshResume s = execPatrolRefreshResume s := (rfl)

@[simp] theorem exec_storPsCfgWrite (v : Word) : exec (.storPsCfgWrite v) s = execStorPsCfgWrite v s := (rfl)

@[simp] theorem exec_secmbDoorbell (m : Master) (v : Word) :
    exec (.secmbDoorbell m v) s = execSecmbDoorbell m v s := (rfl)

@[simp] theorem exec_aesEcb (k : Fin 4) : exec (.aesEcb k) s = execAesEcb k s := (rfl)

@[simp] theorem exec_aesCbc (k : Fin 4) : exec (.aesCbc k) s = execAesCbc k s := (rfl)

@[simp] theorem exec_aesCtr (k : Fin 4) : exec (.aesCtr k) s = execAesCtr k s := (rfl)

@[simp] theorem exec_aesCcm (k : Fin 4) : exec (.aesCcm k) s = execAesCcm k s := (rfl)

@[simp] theorem exec_aesCmac (k : Fin 4) : exec (.aesCmac k) s = execAesCmac k s := (rfl)

@[simp] theorem exec_sha256 (k : Fin 4) : exec (.sha256 k) s = execSha256 k s := (rfl)

@[simp] theorem exec_hmac (k : Fin 4) : exec (.hmac k) s = execHmac k s := (rfl)

@[simp] theorem exec_ecdsaSign (k : Fin 4) : exec (.ecdsaSign k) s = execEcdsaSign k s := (rfl)

@[simp] theorem exec_ecdsaVerify (k : Fin 4) : exec (.ecdsaVerify k) s = execEcdsaVerify k s := (rfl)

@[simp] theorem exec_ecdh (k : Fin 4) : exec (.ecdh k) s = execEcdh k s := (rfl)

@[simp] theorem exec_ecKeygen (k : Fin 4) : exec (.ecKeygen k) s = execEcKeygen k s := (rfl)

@[simp] theorem exec_keyDerive (k : Fin 4) : exec (.keyDerive k) s = execKeyDerive k s := (rfl)

@[simp] theorem exec_random (k : Fin 4) : exec (.random k) s = execRandom k s := (rfl)

@[simp] theorem exec_keyImport (k : Fin 4) : exec (.keyImport k) s = execKeyImport k s := (rfl)

@[simp] theorem exec_keyExport (k : Fin 4) : exec (.keyExport k) s = execKeyExport k s := (rfl)

@[simp] theorem exec_keyPurge (k : Fin 4) : exec (.keyPurge k) s = execKeyPurge k s := (rfl)

@[simp] theorem exec_keyInfo (k : Fin 4) : exec (.keyInfo k) s = execKeyInfo k s := (rfl)

@[simp] theorem exec_keyRestrict (k : Fin 4) : exec (.keyRestrict k) s = execKeyRestrict k s := (rfl)

@[simp] theorem exec_idChallenge (k : Fin 4) : exec (.idChallenge k) s = execIdChallenge k s := (rfl)

@[simp] theorem exec_attest (k : Fin 4) : exec (.attest k) s = execAttest k s := (rfl)

@[simp] theorem exec_lifecycle (k : Fin 4) : exec (.lifecycle k) s = execLifecycle k s := (rfl)

@[simp] theorem exec_unlockNonce (k : Fin 4) : exec (.unlockNonce k) s = execUnlockNonce k s := (rfl)

@[simp] theorem exec_unlock (k : Fin 4) : exec (.unlock k) s = execUnlock k s := (rfl)

@[simp] theorem exec_mailboxRequestDone (k : Fin 4) :
    exec (.mailboxRequestDone k) s = execMailboxRequestDone k s := (rfl)

@[simp] theorem exec_refusalWindowEnd (k : Fin 4) : exec (.refusalWindowEnd k) s = execRefusalWindowEnd k s := (rfl)

@[simp] theorem exec_secmbDoneClear (v : Word) : exec (.secmbDoneClear v) s = execSecmbDoneClear v s := (rfl)

@[simp] theorem exec_trngHealthFail : exec .trngHealthFail s = execTrngHealthFail s := (rfl)

@[simp] theorem exec_tamperTrip (i : Fin 8) : exec (.tamperTrip i) s = execTamperTrip i s := (rfl)

@[simp] theorem exec_temperatureTamperCheck (temp : Int) :
    exec (.temperatureTamperCheck temp) s = execTemperatureTamperCheck temp s := (rfl)

@[simp] theorem exec_supplyGlitch : exec .supplyGlitch s = execSupplyGlitch s := (rfl)

@[simp] theorem exec_relStart (src : Option Master) (ch : Fin 2) :
    exec (.relStart src ch) s = execRelStart src ch s := (rfl)

@[simp] theorem exec_relDrop (src : Option Master) (ch : Fin 2) :
    exec (.relDrop src ch) s = execRelDrop src ch s := (rfl)

@[simp] theorem exec_relRendezvous (ch : Fin 2) (power : Int) (join : Option (Fin 65536 × BitVec 128)) :
    exec (.relRendezvous ch power join) s = execRelRendezvous ch power join s := (rfl)

@[simp] theorem exec_relOpenReceived (ch : Fin 2) (desk : Fin 256) (src : Fin 65536) (target : Fin 65536)
    (nd : BitVec 128) (challenge : BitVec 96) (ranging : BitVec 16) (delta : List Int) :
    exec (.relOpenReceived ch desk src target nd challenge ranging delta) s =
      execRelOpenReceived ch desk src target nd challenge ranging delta s := (rfl)

@[simp] theorem exec_relDecision (ch : Fin 2) (resp : BitVec 96) (offset : Int) (replies : List (Option Bool))
    (times : List Int) (confirm : Option (List Byte)) :
    exec (.relDecision ch resp offset replies times confirm) s =
      execRelDecision ch resp offset replies times confirm s := (rfl)

@[simp] theorem exec_relVerdictReceived (ch : Fin 2) (verdict : Option (List Byte)) :
    exec (.relVerdictReceived ch verdict) s = execRelVerdictReceived ch verdict s := (rfl)

@[simp] theorem exec_lockLineMessageEnd (ch : Fin 2) :
    exec (.lockLineMessageEnd ch) s = execLockLineMessageEnd ch s := (rfl)

@[simp] theorem exec_relSessionEnd (ch : Fin 2) : exec (.relSessionEnd ch) s = execRelSessionEnd ch s := (rfl)

@[simp] theorem exec_doorInEdge (n : Fin 2) (level : Bool) :
    exec (.doorInEdge n level) s = execDoorInEdge n level s := (rfl)

@[simp] theorem exec_relFailclr (v : Word) : exec (.relFailclr v) s = execRelFailclr v s := (rfl)

@[simp] theorem exec_slipIntake (src : Fin 128) : exec (.slipIntake src) s = execSlipIntake src s := (rfl)

@[simp] theorem exec_stickyClear (j : Fin 4) (v : Word) : exec (.stickyClear j v) s = execStickyClear j v s := (rfl)

@[simp] theorem exec_graceExpiry : exec .graceExpiry s = execGraceExpiry s := (rfl)

@[simp] theorem exec_faultInject (v : Word) : exec (.faultInject v) s = execFaultInject v s := (rfl)

@[simp] theorem exec_traceSlipRead (m : Master) : exec (.traceSlipRead m) s = execTraceSlipRead m s := (rfl)

@[simp] theorem exec_traceStatWrite (m : Master) : exec (.traceStatWrite m) s = execTraceStatWrite m s := (rfl)

@[simp] theorem exec_recallHolder (res : Recallable) : exec (.recallHolder res) s = execRecallHolder res s := (rfl)

@[simp] theorem exec_recallOutcomeCheck (res : Recallable) :
    exec (.recallOutcomeCheck res) s = execRecallOutcomeCheck res s := (rfl)

@[simp] theorem exec_frontPllUnlock : exec .frontPllUnlock s = execFrontPllUnlock s := (rfl)

@[simp] theorem exec_regulatorOutOfRange (r : Fin 3) :
    exec (.regulatorOutOfRange r) s = execRegulatorOutOfRange r s := (rfl)

@[simp] theorem exec_wdogFeed (key : Word) : exec (.wdogFeed key) s = execWdogFeed key s := (rfl)

@[simp] theorem exec_wdogWarning : exec .wdogWarning s = execWdogWarning s := (rfl)

@[simp] theorem exec_wdogReset : exec .wdogReset s = execWdogReset s := (rfl)

@[simp] theorem exec_wdogLimitWrite (limit : Bool) (v : Word) :
    exec (.wdogLimitWrite limit v) s = execWdogLimitWrite limit v s := (rfl)

@[simp] theorem exec_wdogLock : exec .wdogLock s = execWdogLock s := (rfl)

@[simp] theorem exec_hif1Hello (line : List Byte) : exec (.hif1Hello line) s = execHif1Hello line s := (rfl)

@[simp] theorem exec_hif1Read (line : List Byte) : exec (.hif1Read line) s = execHif1Read line s := (rfl)

@[simp] theorem exec_hif1Write (line : List Byte) : exec (.hif1Write line) s = execHif1Write line s := (rfl)

@[simp] theorem exec_hif1Enqueue (line : List Byte) : exec (.hif1Enqueue line) s = execHif1Enqueue line s := (rfl)

@[simp] theorem exec_hif1SoftwareFrame (line : List Byte) :
    exec (.hif1SoftwareFrame line) s = execHif1SoftwareFrame line s := (rfl)

@[simp] theorem exec_hif1Rxdone (v : Word) : exec (.hif1Rxdone v) s = execHif1Rxdone v s := (rfl)

@[simp] theorem exec_hif1Txctrl (v : Word) : exec (.hif1Txctrl v) s = execHif1Txctrl v s := (rfl)

@[simp] theorem exec_hif1TxDone : exec .hif1TxDone s = execHif1TxDone s := (rfl)

@[simp] theorem exec_hif2Write (addr : Fin 65536) (data : List Byte) :
    exec (.hif2Write addr data) s = execHif2Write addr data s := (rfl)

@[simp] theorem exec_hif2Read (addr : Fin 65536) (count : Fin 256) (slow : Bool) :
    exec (.hif2Read addr count slow) s = execHif2Read addr count slow s := (rfl)

@[simp] theorem exec_hif2Status : exec .hif2Status s = execHif2Status s := (rfl)

@[simp] theorem exec_hif2Window (base : Word) : exec (.hif2Window base) s = execHif2Window base s := (rfl)

@[simp] theorem exec_hifDbInWrite (third : Bool) (v : Word) :
    exec (.hifDbInWrite third v) s = execHifDbInWrite third v s := (rfl)

@[simp] theorem exec_hifDbOutWrite (m : Master) (v : Word) :
    exec (.hifDbOutWrite m v) s = execHifDbOutWrite m v s := (rfl)

@[simp] theorem exec_hif3Write (addr : Word) (data : List Byte) :
    exec (.hif3Write addr data) s = execHif3Write addr data s := (rfl)

@[simp] theorem exec_hif3Read (addr : Word) (n : Fin 4097) : exec (.hif3Read addr n) s = execHif3Read addr n s := (rfl)

@[simp] theorem exec_hif3Status : exec .hif3Status s = execHif3Status s := (rfl)

@[simp] theorem exec_ringSqTailWrite (r : Fin 4) (v : Word) :
    exec (.ringSqTailWrite r v) s = execRingSqTailWrite r v s := (rfl)

@[simp] theorem exec_ringEnqueue : exec .ringEnqueue s = execRingEnqueue s := (rfl)

@[simp] theorem exec_ringFetch : exec .ringFetch s = execRingFetch s := (rfl)

@[simp] theorem exec_ringFlush : exec .ringFlush s = execRingFlush s := (rfl)

@[simp] theorem exec_ringPause : exec .ringPause s = execRingPause s := (rfl)

@[simp] theorem exec_ringResume : exec .ringResume s = execRingResume s := (rfl)

@[simp] theorem exec_ringMove : exec .ringMove s = execRingMove s := (rfl)

@[simp] theorem exec_ringCompletionPost : exec .ringCompletionPost s = execRingCompletionPost s := (rfl)

@[simp] theorem exec_hifHostBusError : exec .hifHostBusError s = execHifHostBusError s := (rfl)

@[simp] theorem exec_panelFlip : exec .panelFlip s = execPanelFlip s := (rfl)

@[simp] theorem exec_panelRefresh : exec .panelRefresh s = execPanelRefresh s := (rfl)

@[simp] theorem exec_panelPowerOn : exec .panelPowerOn s = execPanelPowerOn s := (rfl)

@[simp] theorem exec_panelPowerOff : exec .panelPowerOff s = execPanelPowerOff s := (rfl)

@[simp] theorem exec_panelPowerDelayEnd : exec .panelPowerDelayEnd s = execPanelPowerDelayEnd s := (rfl)

@[simp] theorem exec_panelDelayEnd : exec .panelDelayEnd s = execPanelDelayEnd s := (rfl)

@[simp] theorem exec_panelBusyInactive : exec .panelBusyInactive s = execPanelBusyInactive s := (rfl)

@[simp] theorem exec_panelBusyTimeout : exec .panelBusyTimeout s = execPanelBusyTimeout s := (rfl)

@[simp] theorem exec_panelScriptEnd : exec .panelScriptEnd s = execPanelScriptEnd s := (rfl)

@[simp] theorem exec_panelDeferredFlip : exec .panelDeferredFlip s = execPanelDeferredFlip s := (rfl)

@[simp] theorem exec_panelHoldExpiry : exec .panelHoldExpiry s = execPanelHoldExpiry s := (rfl)

@[simp] theorem exec_spiStart (n : Fin 2) (task : Bool) : exec (.spiStart n task) s = execSpiStart n task s := (rfl)

@[simp] theorem exec_spiTargetFrame (n : Fin 2) (data : Fin 65536) :
    exec (.spiTargetFrame n data) s = execSpiTargetFrame n data s := (rfl)

@[simp] theorem exec_spiTransferEnd (n : Fin 2) (rx : List (Fin 65536)) :
    exec (.spiTransferEnd n rx) s = execSpiTransferEnd n rx s := (rfl)

@[simp] theorem exec_uartByteReceived (n : Fin 2) (b : Byte) (ferr : Bool) (perr : Bool) (brk : Bool) :
    exec (.uartByteReceived n b ferr perr brk) s = execUartByteReceived n b ferr perr brk s := (rfl)

@[simp] theorem exec_uartRxTimeout (n : Fin 2) : exec (.uartRxTimeout n) s = execUartRxTimeout n s := (rfl)

@[simp] theorem exec_uartDataWrite (n : Fin 2) (v : Word) :
    exec (.uartDataWrite n v) s = execUartDataWrite n v s := (rfl)

@[simp] theorem exec_uartSendTask (n : Fin 2) : exec (.uartSendTask n) s = execUartSendTask n s := (rfl)

@[simp] theorem exec_uartTxEmpty (n : Fin 2) : exec (.uartTxEmpty n) s = execUartTxEmpty n s := (rfl)

@[simp] theorem exec_i2cXfer (n : Fin 2) (v : Word) (lost : Option (Fin 258 × Fin 8)) (asTarget : Bool) :
    exec (.i2cXfer n v lost asTarget) s = execI2cXfer n v lost asTarget s := (rfl)

@[simp] theorem exec_i2cClear (n : Fin 2) (free : Bool) : exec (.i2cClear n free) s = execI2cClear n free s := (rfl)

@[simp] theorem exec_i2cBusBusyTimeout (n : Fin 2) : exec (.i2cBusBusyTimeout n) s = execI2cBusBusyTimeout n s := (rfl)

@[simp] theorem exec_i2cSclTimeout (n : Fin 2) : exec (.i2cSclTimeout n) s = execI2cSclTimeout n s := (rfl)

@[simp] theorem exec_i2cSdaStuckTimeout (n : Fin 2) (free : Bool) :
    exec (.i2cSdaStuckTimeout n free) s = execI2cSdaStuckTimeout n free s := (rfl)

@[simp] theorem exec_i2cStopSeen (n : Fin 2) (at_ : Fin 258 × Fin 8) (data : List Byte) (taken : Fin 256) :
    exec (.i2cStopSeen n at_ data taken) s = execI2cStopSeen n at_ data taken s := (rfl)

@[simp] theorem exec_gpioEdge (pin : Fin 40) (ext : Option Bool) :
    exec (.gpioEdge pin ext) s = execGpioEdge pin ext s := (rfl)

@[simp] theorem exec_gpioSet (j : Fin 2) (v : Word) : exec (.gpioSet j v) s = execGpioSet j v s := (rfl)

@[simp] theorem exec_gpioClr (j : Fin 2) (v : Word) : exec (.gpioClr j v) s = execGpioClr j v s := (rfl)

@[simp] theorem exec_gpioTgl (j : Fin 2) (v : Word) : exec (.gpioTgl j v) s = execGpioTgl j v s := (rfl)

@[simp] theorem exec_gpioTaskPort (k : Fin 8) : exec (.gpioTaskPort k) s = execGpioTaskPort k s := (rfl)

@[simp] theorem exec_adcStart : exec .adcStart s = execAdcStart s := (rfl)

@[simp] theorem exec_adcSeq : exec .adcSeq s = execAdcSeq s := (rfl)

@[simp] theorem exec_adcStop : exec .adcStop s = execAdcStop s := (rfl)

@[simp] theorem exec_adcConversionDone (code : Fin 4096) :
    exec (.adcConversionDone code) s = execAdcConversionDone code s := (rfl)

@[simp] theorem exec_spineAckReceived (die : Die) (far : Bool) (seq : Byte) :
    exec (.spineAckReceived die far seq) s = execSpineAckReceived die far seq s := (rfl)

@[simp] theorem exec_transmitEnded : exec .transmitEnded s = execTransmitEnded s := (rfl)

@[simp] theorem exec_relExchangeEnd (ch : Fin 2) : exec (.relExchangeEnd ch) s = execRelExchangeEnd ch s := (rfl)

@[simp] theorem exec_i2cTransferDone (n : Fin 2) (rx : List Byte) (how : I2cEnd) :
    exec (.i2cTransferDone n rx how) s = execI2cTransferDone n rx how s := (rfl)

@[simp] theorem exec_i2cStartSeen (n : Fin 2) (at_ : Fin 258 × Fin 8) (addr : Byte) :
    exec (.i2cStartSeen n at_ addr) s = execI2cStartSeen n at_ addr s := (rfl)

@[simp] theorem exec_psCommitReadDone (plane : Fin 2) :
    exec (.psCommitReadDone plane) s = execPsCommitReadDone plane s := (rfl)

@[simp] theorem exec_trngRestartDone : exec .trngRestartDone s = execTrngRestartDone s := (rfl)

@[simp] theorem exec_debugHalt : exec .debugHalt s = execDebugHalt s := (rfl)

@[simp] theorem exec_debugResume : exec .debugResume s = execDebugResume s := (rfl)

@[simp] theorem exec_sleepCrystalEdge : exec .sleepCrystalEdge s = execSleepCrystalEdge s := (rfl)

end Sys2Proof.Machine
end

