-- ==== Sys2Proof/Laws/Maps.lean ====
section
/-! SUPPORT. The canonical maps: what a lookup finds after a change, and that every change keeps the canonical form. -/

namespace Sys2Proof.Machine

@[simp] theorem mapGet_nil {V : Type} (k : Nat) : mapGet ([] : List (Nat × V)) k = none := rfl

theorem mapGet_mapErase_same {V : Type} (m : List (Nat × V)) (k : Nat) : mapGet (mapErase m k) k = none := by
  induction m with
  | nil => rfl
  | cons e t ih =>
    obtain ⟨k', v⟩ := e
    by_cases h : k' = k <;> simp [mapErase, mapGet, h, ih]

theorem mapGet_mapErase_ne {V : Type} (m : List (Nat × V)) {k j : Nat} (hj : j ≠ k) :
    mapGet (mapErase m k) j = mapGet m j := by
  induction m with
  | nil => rfl
  | cons e t ih =>
    obtain ⟨k', v⟩ := e
    by_cases h : k' = k
    · subst h
      simp [mapErase, mapGet, ih, Ne.symm hj]
    · simp [mapErase, mapGet, h, ih]

theorem mapGet_mapIns_same {V : Type} (m : List (Nat × V)) (k : Nat) (v : V) (h : mapGet m k = none) :
    mapGet (mapIns m k v) k = some v := by
  induction m with
  | nil => simp [mapIns, mapGet]
  | cons e t ih =>
    obtain ⟨k', v'⟩ := e
    have hk : k' ≠ k := by
      intro e
      simp [mapGet, e] at h
    have ht : mapGet t k = none := by simpa [mapGet, hk] using h
    by_cases hlt : k < k' <;> simp [mapIns, mapGet, hlt, hk, ih ht]

theorem mapGet_mapIns_ne {V : Type} (m : List (Nat × V)) {k j : Nat} (v : V) (hj : j ≠ k) :
    mapGet (mapIns m k v) j = mapGet m j := by
  induction m with
  | nil => simp [mapIns, mapGet, Ne.symm hj]
  | cons e t ih =>
    obtain ⟨k', v'⟩ := e
    by_cases hlt : k < k' <;> simp [mapIns, mapGet, hlt, Ne.symm hj, ih]

/-- A lookup after a store at the same key, with the default for what is not listed. -/
theorem mapGet_mapPut_same {V : Type} [DecidableEq V] (d : V) (m : List (Nat × V)) (k : Nat) (v : V) :
    (mapGet (mapPut d m k v) k).getD d = v := by
  unfold mapPut
  split
  · next h => simp [mapGet_mapErase_same, h]
  · simp [mapGet_mapIns_same _ _ _ (mapGet_mapErase_same m k)]

/-- A lookup after a store at another key. -/
theorem mapGet_mapPut_ne {V : Type} [DecidableEq V] (d : V) (m : List (Nat × V)) {k j : Nat} (v : V) (hj : j ≠ k) :
    mapGet (mapPut d m k v) j = mapGet m j := by
  unfold mapPut
  split
  · exact mapGet_mapErase_ne m hj
  · rw [mapGet_mapIns_ne _ _ hj, mapGet_mapErase_ne m hj]

/-! ### The canonical form -/

/-- Keys strictly rising, as a pairwise relation. -/
theorem keysRise_iff {V : Type} (m : List (Nat × V)) : keysRise m = true ↔ m.Pairwise (fun a b => a.1 < b.1) := by
  induction m with
  | nil => simp [keysRise]
  | cons e t ih =>
    obtain ⟨k, v⟩ := e
    cases t with
    | nil => simp [keysRise]
    | cons e' t' =>
      obtain ⟨k', v'⟩ := e'
      simp only [keysRise, Bool.and_eq_true, decide_eq_true_eq, ih, List.pairwise_cons, List.mem_cons]
      constructor
      · rintro ⟨h, h1, h2⟩
        refine ⟨?_, h1, h2⟩
        rintro x (rfl | hx)
        · exact h
        · exact Nat.lt_trans h (h1 x hx)
      · rintro ⟨h, h1, h2⟩
        exact ⟨h _ (.inl rfl), h1, h2⟩

theorem mapWf_iff {V : Type} [DecidableEq V] (d : Nat → V) (m : List (Nat × V)) :
    mapWf d m = true ↔ m.Pairwise (fun a b => a.1 < b.1) ∧ ∀ e ∈ m, e.2 ≠ d e.1 := by
  simp [mapWf, keysRise_iff]

/-- A part of a canonical map in its order is canonical. -/
theorem mapWf_sublist {V : Type} [DecidableEq V] {d : Nat → V} {l m : List (Nat × V)} (hs : l.Sublist m)
    (h : mapWf d m = true) : mapWf d l = true := by
  rw [mapWf_iff] at *
  exact ⟨h.1.sublist hs, fun e he => h.2 e (hs.subset he)⟩

theorem mapErase_sublist {V : Type} (m : List (Nat × V)) (k : Nat) : (mapErase m k).Sublist m := by
  induction m with
  | nil => exact .slnil
  | cons e t ih =>
    obtain ⟨k', v⟩ := e
    unfold mapErase
    split
    · exact ih.cons _
    · exact ih.cons_cons _

theorem mem_mapErase_ne {V : Type} {m : List (Nat × V)} {k : Nat} {e : Nat × V} (h : e ∈ mapErase m k) : e.1 ≠ k := by
  induction m with
  | nil => simp [mapErase] at h
  | cons e' t ih =>
    obtain ⟨k', v⟩ := e'
    unfold mapErase at h
    split at h
    · exact ih h
    · next hk =>
      rcases List.mem_cons.1 h with rfl | h
      · exact hk
      · exact ih h

theorem mem_mapIns {V : Type} {m : List (Nat × V)} {k : Nat} {v : V} {e : Nat × V} (h : e ∈ mapIns m k v) :
    e = (k, v) ∨ e ∈ m := by
  induction m with
  | nil => simpa [mapIns] using h
  | cons e' t ih =>
    obtain ⟨k', v'⟩ := e'
    unfold mapIns at h
    split at h
    · simpa using h
    · rcases List.mem_cons.1 h with rfl | h
      · simp
      · rcases ih h with h | h <;> simp [h]

theorem mapIns_pairwise {V : Type} {m : List (Nat × V)} {k : Nat} {v : V} (h : m.Pairwise (fun a b => a.1 < b.1))
    (hk : ∀ e ∈ m, e.1 ≠ k) : (mapIns m k v).Pairwise (fun a b => a.1 < b.1) := by
  induction m with
  | nil => simp [mapIns]
  | cons e' t ih =>
    obtain ⟨k', v'⟩ := e'
    rw [List.pairwise_cons] at h
    unfold mapIns
    split
    · next hlt =>
      refine List.pairwise_cons.2 ⟨?_, List.pairwise_cons.2 h⟩
      intro x hx
      rcases List.mem_cons.1 hx with rfl | hx
      · exact hlt
      · exact Nat.lt_trans hlt (h.1 x hx)
    · next hge =>
      refine List.pairwise_cons.2 ⟨?_, ih h.2 (fun e he => hk e (by simp [he]))⟩
      intro x hx
      rcases mem_mapIns hx with rfl | hx
      · have := hk (k', v') (by simp)
        simp only at this ⊢
        omega
      · exact h.1 x hx

/-- A store keeps the canonical form. -/
theorem mapWf_mapPut {V : Type} [DecidableEq V] {d : Nat → V} {m : List (Nat × V)} (k : Nat) (v : V)
    (h : mapWf d m = true) : mapWf d (mapPut (d k) m k v) = true := by
  unfold mapPut
  split
  · exact mapWf_sublist (mapErase_sublist m k) h
  · next hv =>
    have he := (mapWf_iff _ _).1 (mapWf_sublist (mapErase_sublist m k) h)
    rw [mapWf_iff]
    refine ⟨mapIns_pairwise he.1 (fun e h => mem_mapErase_ne h), fun e hm => ?_⟩
    rcases mem_mapIns hm with rfl | hm
    · exact hv
    · exact he.2 e hm

end Sys2Proof.Machine
end

