-- ==== Sys2Proof/Laws/State.lean ====
section
/-! SUPPORT. What the shared updates of the state leave unchanged, field by field, and what a register, a field of a
register and a byte of memory read after a write. -/

namespace Sys2Proof.Machine

variable (s : State)

/-! ### Fields that an update leaves unchanged -/

@[simp] theorem wr_pending (a : Nat) (v : Word) : (s.wr a v).pending = s.pending := (rfl)
@[simp] theorem wr_variant (a : Nat) (v : Word) : (s.wr a v).variant = s.variant := (rfl)
@[simp] theorem wr_mem (a : Nat) (v : Word) : (s.wr a v).mem = s.mem := (rfl)
@[simp] theorem wr_freeCtr (a : Nat) (v : Word) : (s.wr a v).freeCtr = s.freeCtr := (rfl)
@[simp] theorem wr_ans (a : Nat) (v : Word) : (s.wr a v).ans = s.ans := (rfl)
@[simp] theorem wr_spineF (a : Nat) (v : Word) : (s.wr a v).spineF = s.spineF := (rfl)
@[simp] theorem wr_spineS (a : Nat) (v : Word) : (s.wr a v).spineS = s.spineS := (rfl)
@[simp] theorem wr_boot (a : Nat) (v : Word) : (s.wr a v).boot = s.boot := (rfl)
@[simp] theorem wr_pwr (a : Nat) (v : Word) : (s.wr a v).pwr = s.pwr := (rfl)
@[simp] theorem wr_chron (a : Nat) (v : Word) : (s.wr a v).chron = s.chron := (rfl)
@[simp] theorem wr_act (a : Nat) (v : Word) : (s.wr a v).act = s.act := (rfl)
@[simp] theorem wr_fab (a : Nat) (v : Word) : (s.wr a v).fab = s.fab := (rfl)
@[simp] theorem wr_fault (a : Nat) (v : Word) : (s.wr a v).fault = s.fault := (rfl)
@[simp] theorem wr_tmr (a : Nat) (v : Word) : (s.wr a v).tmr = s.tmr := (rfl)
@[simp] theorem wr_qe (a : Nat) (v : Word) : (s.wr a v).qe = s.qe := (rfl)
@[simp] theorem wr_mover (a : Nat) (v : Word) : (s.wr a v).mover = s.mover := (rfl)
@[simp] theorem wr_cat (a : Nat) (v : Word) : (s.wr a v).cat = s.cat := (rfl)
@[simp] theorem wr_store (a : Nat) (v : Word) : (s.wr a v).store = s.store := (rfl)
@[simp] theorem wr_front (a : Nat) (v : Word) : (s.wr a v).front = s.front := (rfl)
@[simp] theorem wr_cal (a : Nat) (v : Word) : (s.wr a v).cal = s.cal := (rfl)
@[simp] theorem wr_link (a : Nat) (v : Word) : (s.wr a v).link = s.link := (rfl)
@[simp] theorem wr_cust (a : Nat) (v : Word) : (s.wr a v).cust = s.cust := (rfl)
@[simp] theorem wr_rel (a : Nat) (v : Word) : (s.wr a v).rel = s.rel := (rfl)
@[simp] theorem wr_hif (a : Nat) (v : Word) : (s.wr a v).hif = s.hif := (rfl)
@[simp] theorem wr_panel (a : Nat) (v : Word) : (s.wr a v).panel = s.panel := (rfl)
@[simp] theorem wr_ser (a : Nat) (v : Word) : (s.wr a v).ser = s.ser := (rfl)
@[simp] theorem wr_held (a : Nat) (v : Word) : (s.wr a v).held = s.held := (rfl)
@[simp] theorem wr_cyc (a : Nat) (v : Word) : (s.wr a v).cyc = s.cyc := (rfl)

@[simp] theorem wrF_pending (a lo len n : Nat) : (s.wrF a lo len n).pending = s.pending := (rfl)
@[simp] theorem wrF_variant (a lo len n : Nat) : (s.wrF a lo len n).variant = s.variant := (rfl)
@[simp] theorem wrF_mem (a lo len n : Nat) : (s.wrF a lo len n).mem = s.mem := (rfl)
@[simp] theorem wrF_freeCtr (a lo len n : Nat) : (s.wrF a lo len n).freeCtr = s.freeCtr := (rfl)
@[simp] theorem wrF_ans (a lo len n : Nat) : (s.wrF a lo len n).ans = s.ans := (rfl)
@[simp] theorem wrF_spineF (a lo len n : Nat) : (s.wrF a lo len n).spineF = s.spineF := (rfl)
@[simp] theorem wrF_spineS (a lo len n : Nat) : (s.wrF a lo len n).spineS = s.spineS := (rfl)
@[simp] theorem wrF_boot (a lo len n : Nat) : (s.wrF a lo len n).boot = s.boot := (rfl)
@[simp] theorem wrF_pwr (a lo len n : Nat) : (s.wrF a lo len n).pwr = s.pwr := (rfl)
@[simp] theorem wrF_chron (a lo len n : Nat) : (s.wrF a lo len n).chron = s.chron := (rfl)
@[simp] theorem wrF_act (a lo len n : Nat) : (s.wrF a lo len n).act = s.act := (rfl)
@[simp] theorem wrF_fab (a lo len n : Nat) : (s.wrF a lo len n).fab = s.fab := (rfl)
@[simp] theorem wrF_fault (a lo len n : Nat) : (s.wrF a lo len n).fault = s.fault := (rfl)
@[simp] theorem wrF_tmr (a lo len n : Nat) : (s.wrF a lo len n).tmr = s.tmr := (rfl)
@[simp] theorem wrF_qe (a lo len n : Nat) : (s.wrF a lo len n).qe = s.qe := (rfl)
@[simp] theorem wrF_mover (a lo len n : Nat) : (s.wrF a lo len n).mover = s.mover := (rfl)
@[simp] theorem wrF_cat (a lo len n : Nat) : (s.wrF a lo len n).cat = s.cat := (rfl)
@[simp] theorem wrF_store (a lo len n : Nat) : (s.wrF a lo len n).store = s.store := (rfl)
@[simp] theorem wrF_front (a lo len n : Nat) : (s.wrF a lo len n).front = s.front := (rfl)
@[simp] theorem wrF_cal (a lo len n : Nat) : (s.wrF a lo len n).cal = s.cal := (rfl)
@[simp] theorem wrF_link (a lo len n : Nat) : (s.wrF a lo len n).link = s.link := (rfl)
@[simp] theorem wrF_cust (a lo len n : Nat) : (s.wrF a lo len n).cust = s.cust := (rfl)
@[simp] theorem wrF_rel (a lo len n : Nat) : (s.wrF a lo len n).rel = s.rel := (rfl)
@[simp] theorem wrF_hif (a lo len n : Nat) : (s.wrF a lo len n).hif = s.hif := (rfl)
@[simp] theorem wrF_panel (a lo len n : Nat) : (s.wrF a lo len n).panel = s.panel := (rfl)
@[simp] theorem wrF_ser (a lo len n : Nat) : (s.wrF a lo len n).ser = s.ser := (rfl)
@[simp] theorem wrF_held (a lo len n : Nat) : (s.wrF a lo len n).held = s.held := (rfl)
@[simp] theorem wrF_cyc (a lo len n : Nat) : (s.wrF a lo len n).cyc = s.cyc := (rfl)

@[simp] theorem setB_pending (a i : Nat) (b : Bool) : (s.setB a i b).pending = s.pending := (rfl)
@[simp] theorem setB_variant (a i : Nat) (b : Bool) : (s.setB a i b).variant = s.variant := (rfl)
@[simp] theorem setB_mem (a i : Nat) (b : Bool) : (s.setB a i b).mem = s.mem := (rfl)
@[simp] theorem setB_freeCtr (a i : Nat) (b : Bool) : (s.setB a i b).freeCtr = s.freeCtr := (rfl)
@[simp] theorem setB_ans (a i : Nat) (b : Bool) : (s.setB a i b).ans = s.ans := (rfl)
@[simp] theorem setB_spineF (a i : Nat) (b : Bool) : (s.setB a i b).spineF = s.spineF := (rfl)
@[simp] theorem setB_spineS (a i : Nat) (b : Bool) : (s.setB a i b).spineS = s.spineS := (rfl)
@[simp] theorem setB_boot (a i : Nat) (b : Bool) : (s.setB a i b).boot = s.boot := (rfl)
@[simp] theorem setB_pwr (a i : Nat) (b : Bool) : (s.setB a i b).pwr = s.pwr := (rfl)
@[simp] theorem setB_chron (a i : Nat) (b : Bool) : (s.setB a i b).chron = s.chron := (rfl)
@[simp] theorem setB_act (a i : Nat) (b : Bool) : (s.setB a i b).act = s.act := (rfl)
@[simp] theorem setB_fab (a i : Nat) (b : Bool) : (s.setB a i b).fab = s.fab := (rfl)
@[simp] theorem setB_fault (a i : Nat) (b : Bool) : (s.setB a i b).fault = s.fault := (rfl)
@[simp] theorem setB_tmr (a i : Nat) (b : Bool) : (s.setB a i b).tmr = s.tmr := (rfl)
@[simp] theorem setB_qe (a i : Nat) (b : Bool) : (s.setB a i b).qe = s.qe := (rfl)
@[simp] theorem setB_mover (a i : Nat) (b : Bool) : (s.setB a i b).mover = s.mover := (rfl)
@[simp] theorem setB_cat (a i : Nat) (b : Bool) : (s.setB a i b).cat = s.cat := (rfl)
@[simp] theorem setB_store (a i : Nat) (b : Bool) : (s.setB a i b).store = s.store := (rfl)
@[simp] theorem setB_front (a i : Nat) (b : Bool) : (s.setB a i b).front = s.front := (rfl)
@[simp] theorem setB_cal (a i : Nat) (b : Bool) : (s.setB a i b).cal = s.cal := (rfl)
@[simp] theorem setB_link (a i : Nat) (b : Bool) : (s.setB a i b).link = s.link := (rfl)
@[simp] theorem setB_cust (a i : Nat) (b : Bool) : (s.setB a i b).cust = s.cust := (rfl)
@[simp] theorem setB_rel (a i : Nat) (b : Bool) : (s.setB a i b).rel = s.rel := (rfl)
@[simp] theorem setB_hif (a i : Nat) (b : Bool) : (s.setB a i b).hif = s.hif := (rfl)
@[simp] theorem setB_panel (a i : Nat) (b : Bool) : (s.setB a i b).panel = s.panel := (rfl)
@[simp] theorem setB_ser (a i : Nat) (b : Bool) : (s.setB a i b).ser = s.ser := (rfl)
@[simp] theorem setB_held (a i : Nat) (b : Bool) : (s.setB a i b).held = s.held := (rfl)
@[simp] theorem setB_cyc (a i : Nat) (b : Bool) : (s.setB a i b).cyc = s.cyc := (rfl)

@[simp] theorem satAdd_pending (a lo len n : Nat) : (s.satAdd a lo len n).pending = s.pending := (rfl)
@[simp] theorem satAdd_variant (a lo len n : Nat) : (s.satAdd a lo len n).variant = s.variant := (rfl)
@[simp] theorem satAdd_mem (a lo len n : Nat) : (s.satAdd a lo len n).mem = s.mem := (rfl)
@[simp] theorem satAdd_freeCtr (a lo len n : Nat) : (s.satAdd a lo len n).freeCtr = s.freeCtr := (rfl)
@[simp] theorem satAdd_ans (a lo len n : Nat) : (s.satAdd a lo len n).ans = s.ans := (rfl)
@[simp] theorem satAdd_spineF (a lo len n : Nat) : (s.satAdd a lo len n).spineF = s.spineF := (rfl)
@[simp] theorem satAdd_spineS (a lo len n : Nat) : (s.satAdd a lo len n).spineS = s.spineS := (rfl)
@[simp] theorem satAdd_boot (a lo len n : Nat) : (s.satAdd a lo len n).boot = s.boot := (rfl)
@[simp] theorem satAdd_pwr (a lo len n : Nat) : (s.satAdd a lo len n).pwr = s.pwr := (rfl)
@[simp] theorem satAdd_chron (a lo len n : Nat) : (s.satAdd a lo len n).chron = s.chron := (rfl)
@[simp] theorem satAdd_act (a lo len n : Nat) : (s.satAdd a lo len n).act = s.act := (rfl)
@[simp] theorem satAdd_fab (a lo len n : Nat) : (s.satAdd a lo len n).fab = s.fab := (rfl)
@[simp] theorem satAdd_fault (a lo len n : Nat) : (s.satAdd a lo len n).fault = s.fault := (rfl)
@[simp] theorem satAdd_tmr (a lo len n : Nat) : (s.satAdd a lo len n).tmr = s.tmr := (rfl)
@[simp] theorem satAdd_qe (a lo len n : Nat) : (s.satAdd a lo len n).qe = s.qe := (rfl)
@[simp] theorem satAdd_mover (a lo len n : Nat) : (s.satAdd a lo len n).mover = s.mover := (rfl)
@[simp] theorem satAdd_cat (a lo len n : Nat) : (s.satAdd a lo len n).cat = s.cat := (rfl)
@[simp] theorem satAdd_store (a lo len n : Nat) : (s.satAdd a lo len n).store = s.store := (rfl)
@[simp] theorem satAdd_front (a lo len n : Nat) : (s.satAdd a lo len n).front = s.front := (rfl)
@[simp] theorem satAdd_cal (a lo len n : Nat) : (s.satAdd a lo len n).cal = s.cal := (rfl)
@[simp] theorem satAdd_link (a lo len n : Nat) : (s.satAdd a lo len n).link = s.link := (rfl)
@[simp] theorem satAdd_cust (a lo len n : Nat) : (s.satAdd a lo len n).cust = s.cust := (rfl)
@[simp] theorem satAdd_rel (a lo len n : Nat) : (s.satAdd a lo len n).rel = s.rel := (rfl)
@[simp] theorem satAdd_hif (a lo len n : Nat) : (s.satAdd a lo len n).hif = s.hif := (rfl)
@[simp] theorem satAdd_panel (a lo len n : Nat) : (s.satAdd a lo len n).panel = s.panel := (rfl)
@[simp] theorem satAdd_ser (a lo len n : Nat) : (s.satAdd a lo len n).ser = s.ser := (rfl)
@[simp] theorem satAdd_held (a lo len n : Nat) : (s.satAdd a lo len n).held = s.held := (rfl)
@[simp] theorem satAdd_cyc (a lo len n : Nat) : (s.satAdd a lo len n).cyc = s.cyc := (rfl)

@[simp] theorem wrInstant_pending (lo hi i : Nat) : (s.wrInstant lo hi i).pending = s.pending := (rfl)
@[simp] theorem wrInstant_variant (lo hi i : Nat) : (s.wrInstant lo hi i).variant = s.variant := (rfl)
@[simp] theorem wrInstant_mem (lo hi i : Nat) : (s.wrInstant lo hi i).mem = s.mem := (rfl)
@[simp] theorem wrInstant_freeCtr (lo hi i : Nat) : (s.wrInstant lo hi i).freeCtr = s.freeCtr := (rfl)
@[simp] theorem wrInstant_ans (lo hi i : Nat) : (s.wrInstant lo hi i).ans = s.ans := (rfl)
@[simp] theorem wrInstant_spineF (lo hi i : Nat) : (s.wrInstant lo hi i).spineF = s.spineF := (rfl)
@[simp] theorem wrInstant_spineS (lo hi i : Nat) : (s.wrInstant lo hi i).spineS = s.spineS := (rfl)
@[simp] theorem wrInstant_boot (lo hi i : Nat) : (s.wrInstant lo hi i).boot = s.boot := (rfl)
@[simp] theorem wrInstant_pwr (lo hi i : Nat) : (s.wrInstant lo hi i).pwr = s.pwr := (rfl)
@[simp] theorem wrInstant_chron (lo hi i : Nat) : (s.wrInstant lo hi i).chron = s.chron := (rfl)
@[simp] theorem wrInstant_act (lo hi i : Nat) : (s.wrInstant lo hi i).act = s.act := (rfl)
@[simp] theorem wrInstant_fab (lo hi i : Nat) : (s.wrInstant lo hi i).fab = s.fab := (rfl)
@[simp] theorem wrInstant_fault (lo hi i : Nat) : (s.wrInstant lo hi i).fault = s.fault := (rfl)
@[simp] theorem wrInstant_tmr (lo hi i : Nat) : (s.wrInstant lo hi i).tmr = s.tmr := (rfl)
@[simp] theorem wrInstant_qe (lo hi i : Nat) : (s.wrInstant lo hi i).qe = s.qe := (rfl)
@[simp] theorem wrInstant_mover (lo hi i : Nat) : (s.wrInstant lo hi i).mover = s.mover := (rfl)
@[simp] theorem wrInstant_cat (lo hi i : Nat) : (s.wrInstant lo hi i).cat = s.cat := (rfl)
@[simp] theorem wrInstant_store (lo hi i : Nat) : (s.wrInstant lo hi i).store = s.store := (rfl)
@[simp] theorem wrInstant_front (lo hi i : Nat) : (s.wrInstant lo hi i).front = s.front := (rfl)
@[simp] theorem wrInstant_cal (lo hi i : Nat) : (s.wrInstant lo hi i).cal = s.cal := (rfl)
@[simp] theorem wrInstant_link (lo hi i : Nat) : (s.wrInstant lo hi i).link = s.link := (rfl)
@[simp] theorem wrInstant_cust (lo hi i : Nat) : (s.wrInstant lo hi i).cust = s.cust := (rfl)
@[simp] theorem wrInstant_rel (lo hi i : Nat) : (s.wrInstant lo hi i).rel = s.rel := (rfl)
@[simp] theorem wrInstant_hif (lo hi i : Nat) : (s.wrInstant lo hi i).hif = s.hif := (rfl)
@[simp] theorem wrInstant_panel (lo hi i : Nat) : (s.wrInstant lo hi i).panel = s.panel := (rfl)
@[simp] theorem wrInstant_ser (lo hi i : Nat) : (s.wrInstant lo hi i).ser = s.ser := (rfl)
@[simp] theorem wrInstant_held (lo hi i : Nat) : (s.wrInstant lo hi i).held = s.held := (rfl)
@[simp] theorem wrInstant_cyc (lo hi i : Nat) : (s.wrInstant lo hi i).cyc = s.cyc := (rfl)

@[simp] theorem putByte_pending (a : Nat) (v : Byte) : (s.putByte a v).pending = s.pending := (rfl)
@[simp] theorem putByte_variant (a : Nat) (v : Byte) : (s.putByte a v).variant = s.variant := (rfl)
@[simp] theorem putByte_regs (a : Nat) (v : Byte) : (s.putByte a v).regs = s.regs := (rfl)
@[simp] theorem putByte_freeCtr (a : Nat) (v : Byte) : (s.putByte a v).freeCtr = s.freeCtr := (rfl)
@[simp] theorem putByte_ans (a : Nat) (v : Byte) : (s.putByte a v).ans = s.ans := (rfl)
@[simp] theorem putByte_spineF (a : Nat) (v : Byte) : (s.putByte a v).spineF = s.spineF := (rfl)
@[simp] theorem putByte_spineS (a : Nat) (v : Byte) : (s.putByte a v).spineS = s.spineS := (rfl)
@[simp] theorem putByte_boot (a : Nat) (v : Byte) : (s.putByte a v).boot = s.boot := (rfl)
@[simp] theorem putByte_pwr (a : Nat) (v : Byte) : (s.putByte a v).pwr = s.pwr := (rfl)
@[simp] theorem putByte_chron (a : Nat) (v : Byte) : (s.putByte a v).chron = s.chron := (rfl)
@[simp] theorem putByte_act (a : Nat) (v : Byte) : (s.putByte a v).act = s.act := (rfl)
@[simp] theorem putByte_fab (a : Nat) (v : Byte) : (s.putByte a v).fab = s.fab := (rfl)
@[simp] theorem putByte_fault (a : Nat) (v : Byte) : (s.putByte a v).fault = s.fault := (rfl)
@[simp] theorem putByte_tmr (a : Nat) (v : Byte) : (s.putByte a v).tmr = s.tmr := (rfl)
@[simp] theorem putByte_qe (a : Nat) (v : Byte) : (s.putByte a v).qe = s.qe := (rfl)
@[simp] theorem putByte_mover (a : Nat) (v : Byte) : (s.putByte a v).mover = s.mover := (rfl)
@[simp] theorem putByte_cat (a : Nat) (v : Byte) : (s.putByte a v).cat = s.cat := (rfl)
@[simp] theorem putByte_store (a : Nat) (v : Byte) : (s.putByte a v).store = s.store := (rfl)
@[simp] theorem putByte_front (a : Nat) (v : Byte) : (s.putByte a v).front = s.front := (rfl)
@[simp] theorem putByte_cal (a : Nat) (v : Byte) : (s.putByte a v).cal = s.cal := (rfl)
@[simp] theorem putByte_link (a : Nat) (v : Byte) : (s.putByte a v).link = s.link := (rfl)
@[simp] theorem putByte_cust (a : Nat) (v : Byte) : (s.putByte a v).cust = s.cust := (rfl)
@[simp] theorem putByte_rel (a : Nat) (v : Byte) : (s.putByte a v).rel = s.rel := (rfl)
@[simp] theorem putByte_hif (a : Nat) (v : Byte) : (s.putByte a v).hif = s.hif := (rfl)
@[simp] theorem putByte_panel (a : Nat) (v : Byte) : (s.putByte a v).panel = s.panel := (rfl)
@[simp] theorem putByte_ser (a : Nat) (v : Byte) : (s.putByte a v).ser = s.ser := (rfl)
@[simp] theorem putByte_held (a : Nat) (v : Byte) : (s.putByte a v).held = s.held := (rfl)
@[simp] theorem putByte_cyc (a : Nat) (v : Byte) : (s.putByte a v).cyc = s.cyc := (rfl)

@[simp] theorem putBytes_pending (a : Nat) (l : List Byte) : (s.putBytes a l).pending = s.pending := by
  induction l generalizing s a with
  | nil => rfl
  | cons b t ih => exact (ih _ _)
@[simp] theorem putBytes_variant (a : Nat) (l : List Byte) : (s.putBytes a l).variant = s.variant := by
  induction l generalizing s a with
  | nil => rfl
  | cons b t ih => exact (ih _ _)
@[simp] theorem putBytes_regs (a : Nat) (l : List Byte) : (s.putBytes a l).regs = s.regs := by
  induction l generalizing s a with
  | nil => rfl
  | cons b t ih => exact (ih _ _)
@[simp] theorem putBytes_freeCtr (a : Nat) (l : List Byte) : (s.putBytes a l).freeCtr = s.freeCtr := by
  induction l generalizing s a with
  | nil => rfl
  | cons b t ih => exact (ih _ _)
@[simp] theorem putBytes_ans (a : Nat) (l : List Byte) : (s.putBytes a l).ans = s.ans := by
  induction l generalizing s a with
  | nil => rfl
  | cons b t ih => exact (ih _ _)
@[simp] theorem putBytes_spineF (a : Nat) (l : List Byte) : (s.putBytes a l).spineF = s.spineF := by
  induction l generalizing s a with
  | nil => rfl
  | cons b t ih => exact (ih _ _)
@[simp] theorem putBytes_spineS (a : Nat) (l : List Byte) : (s.putBytes a l).spineS = s.spineS := by
  induction l generalizing s a with
  | nil => rfl
  | cons b t ih => exact (ih _ _)
@[simp] theorem putBytes_boot (a : Nat) (l : List Byte) : (s.putBytes a l).boot = s.boot := by
  induction l generalizing s a with
  | nil => rfl
  | cons b t ih => exact (ih _ _)
@[simp] theorem putBytes_pwr (a : Nat) (l : List Byte) : (s.putBytes a l).pwr = s.pwr := by
  induction l generalizing s a with
  | nil => rfl
  | cons b t ih => exact (ih _ _)
@[simp] theorem putBytes_chron (a : Nat) (l : List Byte) : (s.putBytes a l).chron = s.chron := by
  induction l generalizing s a with
  | nil => rfl
  | cons b t ih => exact (ih _ _)
@[simp] theorem putBytes_act (a : Nat) (l : List Byte) : (s.putBytes a l).act = s.act := by
  induction l generalizing s a with
  | nil => rfl
  | cons b t ih => exact (ih _ _)
@[simp] theorem putBytes_fab (a : Nat) (l : List Byte) : (s.putBytes a l).fab = s.fab := by
  induction l generalizing s a with
  | nil => rfl
  | cons b t ih => exact (ih _ _)
@[simp] theorem putBytes_fault (a : Nat) (l : List Byte) : (s.putBytes a l).fault = s.fault := by
  induction l generalizing s a with
  | nil => rfl
  | cons b t ih => exact (ih _ _)
@[simp] theorem putBytes_tmr (a : Nat) (l : List Byte) : (s.putBytes a l).tmr = s.tmr := by
  induction l generalizing s a with
  | nil => rfl
  | cons b t ih => exact (ih _ _)
@[simp] theorem putBytes_qe (a : Nat) (l : List Byte) : (s.putBytes a l).qe = s.qe := by
  induction l generalizing s a with
  | nil => rfl
  | cons b t ih => exact (ih _ _)
@[simp] theorem putBytes_mover (a : Nat) (l : List Byte) : (s.putBytes a l).mover = s.mover := by
  induction l generalizing s a with
  | nil => rfl
  | cons b t ih => exact (ih _ _)
@[simp] theorem putBytes_cat (a : Nat) (l : List Byte) : (s.putBytes a l).cat = s.cat := by
  induction l generalizing s a with
  | nil => rfl
  | cons b t ih => exact (ih _ _)
@[simp] theorem putBytes_store (a : Nat) (l : List Byte) : (s.putBytes a l).store = s.store := by
  induction l generalizing s a with
  | nil => rfl
  | cons b t ih => exact (ih _ _)
@[simp] theorem putBytes_front (a : Nat) (l : List Byte) : (s.putBytes a l).front = s.front := by
  induction l generalizing s a with
  | nil => rfl
  | cons b t ih => exact (ih _ _)
@[simp] theorem putBytes_cal (a : Nat) (l : List Byte) : (s.putBytes a l).cal = s.cal := by
  induction l generalizing s a with
  | nil => rfl
  | cons b t ih => exact (ih _ _)
@[simp] theorem putBytes_link (a : Nat) (l : List Byte) : (s.putBytes a l).link = s.link := by
  induction l generalizing s a with
  | nil => rfl
  | cons b t ih => exact (ih _ _)
@[simp] theorem putBytes_cust (a : Nat) (l : List Byte) : (s.putBytes a l).cust = s.cust := by
  induction l generalizing s a with
  | nil => rfl
  | cons b t ih => exact (ih _ _)
@[simp] theorem putBytes_rel (a : Nat) (l : List Byte) : (s.putBytes a l).rel = s.rel := by
  induction l generalizing s a with
  | nil => rfl
  | cons b t ih => exact (ih _ _)
@[simp] theorem putBytes_hif (a : Nat) (l : List Byte) : (s.putBytes a l).hif = s.hif := by
  induction l generalizing s a with
  | nil => rfl
  | cons b t ih => exact (ih _ _)
@[simp] theorem putBytes_panel (a : Nat) (l : List Byte) : (s.putBytes a l).panel = s.panel := by
  induction l generalizing s a with
  | nil => rfl
  | cons b t ih => exact (ih _ _)
@[simp] theorem putBytes_ser (a : Nat) (l : List Byte) : (s.putBytes a l).ser = s.ser := by
  induction l generalizing s a with
  | nil => rfl
  | cons b t ih => exact (ih _ _)
@[simp] theorem putBytes_held (a : Nat) (l : List Byte) : (s.putBytes a l).held = s.held := by
  induction l generalizing s a with
  | nil => rfl
  | cons b t ih => exact (ih _ _)
@[simp] theorem putBytes_cyc (a : Nat) (l : List Byte) : (s.putBytes a l).cyc = s.cyc := by
  induction l generalizing s a with
  | nil => rfl
  | cons b t ih => exact (ih _ _)

@[simp] theorem answer_pending (v : Word) : (s.answer v).pending = s.pending := (rfl)
@[simp] theorem answer_variant (v : Word) : (s.answer v).variant = s.variant := (rfl)
@[simp] theorem answer_regs (v : Word) : (s.answer v).regs = s.regs := (rfl)
@[simp] theorem answer_mem (v : Word) : (s.answer v).mem = s.mem := (rfl)
@[simp] theorem answer_freeCtr (v : Word) : (s.answer v).freeCtr = s.freeCtr := (rfl)
@[simp] theorem answer_spineF (v : Word) : (s.answer v).spineF = s.spineF := (rfl)
@[simp] theorem answer_spineS (v : Word) : (s.answer v).spineS = s.spineS := (rfl)
@[simp] theorem answer_boot (v : Word) : (s.answer v).boot = s.boot := (rfl)
@[simp] theorem answer_pwr (v : Word) : (s.answer v).pwr = s.pwr := (rfl)
@[simp] theorem answer_chron (v : Word) : (s.answer v).chron = s.chron := (rfl)
@[simp] theorem answer_act (v : Word) : (s.answer v).act = s.act := (rfl)
@[simp] theorem answer_fab (v : Word) : (s.answer v).fab = s.fab := (rfl)
@[simp] theorem answer_fault (v : Word) : (s.answer v).fault = s.fault := (rfl)
@[simp] theorem answer_tmr (v : Word) : (s.answer v).tmr = s.tmr := (rfl)
@[simp] theorem answer_qe (v : Word) : (s.answer v).qe = s.qe := (rfl)
@[simp] theorem answer_mover (v : Word) : (s.answer v).mover = s.mover := (rfl)
@[simp] theorem answer_cat (v : Word) : (s.answer v).cat = s.cat := (rfl)
@[simp] theorem answer_store (v : Word) : (s.answer v).store = s.store := (rfl)
@[simp] theorem answer_front (v : Word) : (s.answer v).front = s.front := (rfl)
@[simp] theorem answer_cal (v : Word) : (s.answer v).cal = s.cal := (rfl)
@[simp] theorem answer_link (v : Word) : (s.answer v).link = s.link := (rfl)
@[simp] theorem answer_cust (v : Word) : (s.answer v).cust = s.cust := (rfl)
@[simp] theorem answer_rel (v : Word) : (s.answer v).rel = s.rel := (rfl)
@[simp] theorem answer_hif (v : Word) : (s.answer v).hif = s.hif := (rfl)
@[simp] theorem answer_panel (v : Word) : (s.answer v).panel = s.panel := (rfl)
@[simp] theorem answer_ser (v : Word) : (s.answer v).ser = s.ser := (rfl)
@[simp] theorem answer_held (v : Word) : (s.answer v).held = s.held := (rfl)
@[simp] theorem answer_cyc (v : Word) : (s.answer v).cyc = s.cyc := (rfl)

@[simp] theorem answerError_pending : (s.answerError).pending = s.pending := (rfl)
@[simp] theorem answerError_variant : (s.answerError).variant = s.variant := (rfl)
@[simp] theorem answerError_regs : (s.answerError).regs = s.regs := (rfl)
@[simp] theorem answerError_mem : (s.answerError).mem = s.mem := (rfl)
@[simp] theorem answerError_freeCtr : (s.answerError).freeCtr = s.freeCtr := (rfl)
@[simp] theorem answerError_spineF : (s.answerError).spineF = s.spineF := (rfl)
@[simp] theorem answerError_spineS : (s.answerError).spineS = s.spineS := (rfl)
@[simp] theorem answerError_boot : (s.answerError).boot = s.boot := (rfl)
@[simp] theorem answerError_pwr : (s.answerError).pwr = s.pwr := (rfl)
@[simp] theorem answerError_chron : (s.answerError).chron = s.chron := (rfl)
@[simp] theorem answerError_act : (s.answerError).act = s.act := (rfl)
@[simp] theorem answerError_fab : (s.answerError).fab = s.fab := (rfl)
@[simp] theorem answerError_fault : (s.answerError).fault = s.fault := (rfl)
@[simp] theorem answerError_tmr : (s.answerError).tmr = s.tmr := (rfl)
@[simp] theorem answerError_qe : (s.answerError).qe = s.qe := (rfl)
@[simp] theorem answerError_mover : (s.answerError).mover = s.mover := (rfl)
@[simp] theorem answerError_cat : (s.answerError).cat = s.cat := (rfl)
@[simp] theorem answerError_store : (s.answerError).store = s.store := (rfl)
@[simp] theorem answerError_front : (s.answerError).front = s.front := (rfl)
@[simp] theorem answerError_cal : (s.answerError).cal = s.cal := (rfl)
@[simp] theorem answerError_link : (s.answerError).link = s.link := (rfl)
@[simp] theorem answerError_cust : (s.answerError).cust = s.cust := (rfl)
@[simp] theorem answerError_rel : (s.answerError).rel = s.rel := (rfl)
@[simp] theorem answerError_hif : (s.answerError).hif = s.hif := (rfl)
@[simp] theorem answerError_panel : (s.answerError).panel = s.panel := (rfl)
@[simp] theorem answerError_ser : (s.answerError).ser = s.ser := (rfl)
@[simp] theorem answerError_held : (s.answerError).held = s.held := (rfl)
@[simp] theorem answerError_cyc : (s.answerError).cyc = s.cyc := (rfl)

@[simp] theorem answerWait_pending : (s.answerWait).pending = s.pending := (rfl)
@[simp] theorem answerWait_variant : (s.answerWait).variant = s.variant := (rfl)
@[simp] theorem answerWait_regs : (s.answerWait).regs = s.regs := (rfl)
@[simp] theorem answerWait_mem : (s.answerWait).mem = s.mem := (rfl)
@[simp] theorem answerWait_freeCtr : (s.answerWait).freeCtr = s.freeCtr := (rfl)
@[simp] theorem answerWait_spineF : (s.answerWait).spineF = s.spineF := (rfl)
@[simp] theorem answerWait_spineS : (s.answerWait).spineS = s.spineS := (rfl)
@[simp] theorem answerWait_boot : (s.answerWait).boot = s.boot := (rfl)
@[simp] theorem answerWait_pwr : (s.answerWait).pwr = s.pwr := (rfl)
@[simp] theorem answerWait_chron : (s.answerWait).chron = s.chron := (rfl)
@[simp] theorem answerWait_act : (s.answerWait).act = s.act := (rfl)
@[simp] theorem answerWait_fab : (s.answerWait).fab = s.fab := (rfl)
@[simp] theorem answerWait_fault : (s.answerWait).fault = s.fault := (rfl)
@[simp] theorem answerWait_tmr : (s.answerWait).tmr = s.tmr := (rfl)
@[simp] theorem answerWait_qe : (s.answerWait).qe = s.qe := (rfl)
@[simp] theorem answerWait_mover : (s.answerWait).mover = s.mover := (rfl)
@[simp] theorem answerWait_cat : (s.answerWait).cat = s.cat := (rfl)
@[simp] theorem answerWait_store : (s.answerWait).store = s.store := (rfl)
@[simp] theorem answerWait_front : (s.answerWait).front = s.front := (rfl)
@[simp] theorem answerWait_cal : (s.answerWait).cal = s.cal := (rfl)
@[simp] theorem answerWait_link : (s.answerWait).link = s.link := (rfl)
@[simp] theorem answerWait_cust : (s.answerWait).cust = s.cust := (rfl)
@[simp] theorem answerWait_rel : (s.answerWait).rel = s.rel := (rfl)
@[simp] theorem answerWait_hif : (s.answerWait).hif = s.hif := (rfl)
@[simp] theorem answerWait_panel : (s.answerWait).panel = s.panel := (rfl)
@[simp] theorem answerWait_ser : (s.answerWait).ser = s.ser := (rfl)
@[simp] theorem answerWait_held : (s.answerWait).held = s.held := (rfl)
@[simp] theorem answerWait_cyc : (s.answerWait).cyc = s.cyc := (rfl)

@[simp] theorem takeFree_pending : (s.takeFree.2).pending = s.pending := (rfl)
@[simp] theorem takeFree_variant : (s.takeFree.2).variant = s.variant := (rfl)
@[simp] theorem takeFree_regs : (s.takeFree.2).regs = s.regs := (rfl)
@[simp] theorem takeFree_mem : (s.takeFree.2).mem = s.mem := (rfl)
@[simp] theorem takeFree_ans : (s.takeFree.2).ans = s.ans := (rfl)
@[simp] theorem takeFree_spineF : (s.takeFree.2).spineF = s.spineF := (rfl)
@[simp] theorem takeFree_spineS : (s.takeFree.2).spineS = s.spineS := (rfl)
@[simp] theorem takeFree_boot : (s.takeFree.2).boot = s.boot := (rfl)
@[simp] theorem takeFree_pwr : (s.takeFree.2).pwr = s.pwr := (rfl)
@[simp] theorem takeFree_chron : (s.takeFree.2).chron = s.chron := (rfl)
@[simp] theorem takeFree_act : (s.takeFree.2).act = s.act := (rfl)
@[simp] theorem takeFree_fab : (s.takeFree.2).fab = s.fab := (rfl)
@[simp] theorem takeFree_fault : (s.takeFree.2).fault = s.fault := (rfl)
@[simp] theorem takeFree_tmr : (s.takeFree.2).tmr = s.tmr := (rfl)
@[simp] theorem takeFree_qe : (s.takeFree.2).qe = s.qe := (rfl)
@[simp] theorem takeFree_mover : (s.takeFree.2).mover = s.mover := (rfl)
@[simp] theorem takeFree_cat : (s.takeFree.2).cat = s.cat := (rfl)
@[simp] theorem takeFree_store : (s.takeFree.2).store = s.store := (rfl)
@[simp] theorem takeFree_front : (s.takeFree.2).front = s.front := (rfl)
@[simp] theorem takeFree_cal : (s.takeFree.2).cal = s.cal := (rfl)
@[simp] theorem takeFree_link : (s.takeFree.2).link = s.link := (rfl)
@[simp] theorem takeFree_cust : (s.takeFree.2).cust = s.cust := (rfl)
@[simp] theorem takeFree_rel : (s.takeFree.2).rel = s.rel := (rfl)
@[simp] theorem takeFree_hif : (s.takeFree.2).hif = s.hif := (rfl)
@[simp] theorem takeFree_panel : (s.takeFree.2).panel = s.panel := (rfl)
@[simp] theorem takeFree_ser : (s.takeFree.2).ser = s.ser := (rfl)
@[simp] theorem takeFree_held : (s.takeFree.2).held = s.held := (rfl)
@[simp] theorem takeFree_cyc : (s.takeFree.2).cyc = s.cyc := (rfl)

/-- All that taking an open value can do: the counter of free values moves by one when the value is not stated. -/
@[simp] theorem openTaken_eq {b : Bool} : s.openTaken b = { s with freeCtr := s.freeCtr + b2n (!b) } := by cases b <;> rfl
@[simp] theorem openVal_stated {v n : Nat} : s.openVal true v n = v := (rfl)
theorem openVal_lt {v n : Nat} {b : Bool} (h : b = true → v < n) (hn : 0 < n) : s.openVal b v n < n := by
  cases b
  · exact Nat.mod_lt _ hn
  · exact h rfl

@[simp] theorem takeFreeBytes_pending (n : Nat) : ((s.takeFreeBytes n).2).pending = s.pending := (rfl)
@[simp] theorem takeFreeBytes_variant (n : Nat) : ((s.takeFreeBytes n).2).variant = s.variant := (rfl)
@[simp] theorem takeFreeBytes_regs (n : Nat) : ((s.takeFreeBytes n).2).regs = s.regs := (rfl)
@[simp] theorem takeFreeBytes_mem (n : Nat) : ((s.takeFreeBytes n).2).mem = s.mem := (rfl)
@[simp] theorem takeFreeBytes_ans (n : Nat) : ((s.takeFreeBytes n).2).ans = s.ans := (rfl)
@[simp] theorem takeFreeBytes_spineF (n : Nat) : ((s.takeFreeBytes n).2).spineF = s.spineF := (rfl)
@[simp] theorem takeFreeBytes_spineS (n : Nat) : ((s.takeFreeBytes n).2).spineS = s.spineS := (rfl)
@[simp] theorem takeFreeBytes_boot (n : Nat) : ((s.takeFreeBytes n).2).boot = s.boot := (rfl)
@[simp] theorem takeFreeBytes_pwr (n : Nat) : ((s.takeFreeBytes n).2).pwr = s.pwr := (rfl)
@[simp] theorem takeFreeBytes_chron (n : Nat) : ((s.takeFreeBytes n).2).chron = s.chron := (rfl)
@[simp] theorem takeFreeBytes_act (n : Nat) : ((s.takeFreeBytes n).2).act = s.act := (rfl)
@[simp] theorem takeFreeBytes_fab (n : Nat) : ((s.takeFreeBytes n).2).fab = s.fab := (rfl)
@[simp] theorem takeFreeBytes_fault (n : Nat) : ((s.takeFreeBytes n).2).fault = s.fault := (rfl)
@[simp] theorem takeFreeBytes_tmr (n : Nat) : ((s.takeFreeBytes n).2).tmr = s.tmr := (rfl)
@[simp] theorem takeFreeBytes_qe (n : Nat) : ((s.takeFreeBytes n).2).qe = s.qe := (rfl)
@[simp] theorem takeFreeBytes_mover (n : Nat) : ((s.takeFreeBytes n).2).mover = s.mover := (rfl)
@[simp] theorem takeFreeBytes_cat (n : Nat) : ((s.takeFreeBytes n).2).cat = s.cat := (rfl)
@[simp] theorem takeFreeBytes_store (n : Nat) : ((s.takeFreeBytes n).2).store = s.store := (rfl)
@[simp] theorem takeFreeBytes_front (n : Nat) : ((s.takeFreeBytes n).2).front = s.front := (rfl)
@[simp] theorem takeFreeBytes_cal (n : Nat) : ((s.takeFreeBytes n).2).cal = s.cal := (rfl)
@[simp] theorem takeFreeBytes_link (n : Nat) : ((s.takeFreeBytes n).2).link = s.link := (rfl)
@[simp] theorem takeFreeBytes_cust (n : Nat) : ((s.takeFreeBytes n).2).cust = s.cust := (rfl)
@[simp] theorem takeFreeBytes_rel (n : Nat) : ((s.takeFreeBytes n).2).rel = s.rel := (rfl)
@[simp] theorem takeFreeBytes_hif (n : Nat) : ((s.takeFreeBytes n).2).hif = s.hif := (rfl)
@[simp] theorem takeFreeBytes_panel (n : Nat) : ((s.takeFreeBytes n).2).panel = s.panel := (rfl)
@[simp] theorem takeFreeBytes_ser (n : Nat) : ((s.takeFreeBytes n).2).ser = s.ser := (rfl)
@[simp] theorem takeFreeBytes_held (n : Nat) : ((s.takeFreeBytes n).2).held = s.held := (rfl)
@[simp] theorem takeFreeBytes_cyc (n : Nat) : ((s.takeFreeBytes n).2).cyc = s.cyc := (rfl)

@[simp] theorem slip_pending (a b c d : Nat) : (s.slip a b c d).pending = s.pending := (rfl)
@[simp] theorem slip_variant (a b c d : Nat) : (s.slip a b c d).variant = s.variant := (rfl)
@[simp] theorem slip_regs (a b c d : Nat) : (s.slip a b c d).regs = s.regs := (rfl)
@[simp] theorem slip_mem (a b c d : Nat) : (s.slip a b c d).mem = s.mem := (rfl)
@[simp] theorem slip_freeCtr (a b c d : Nat) : (s.slip a b c d).freeCtr = s.freeCtr := (rfl)
@[simp] theorem slip_ans (a b c d : Nat) : (s.slip a b c d).ans = s.ans := (rfl)
@[simp] theorem slip_spineF (a b c d : Nat) : (s.slip a b c d).spineF = s.spineF := (rfl)
@[simp] theorem slip_spineS (a b c d : Nat) : (s.slip a b c d).spineS = s.spineS := (rfl)
@[simp] theorem slip_boot (a b c d : Nat) : (s.slip a b c d).boot = s.boot := (rfl)
@[simp] theorem slip_pwr (a b c d : Nat) : (s.slip a b c d).pwr = s.pwr := (rfl)
@[simp] theorem slip_chron (a b c d : Nat) : (s.slip a b c d).chron = s.chron := (rfl)
@[simp] theorem slip_act (a b c d : Nat) : (s.slip a b c d).act = s.act := (rfl)
@[simp] theorem slip_fab (a b c d : Nat) : (s.slip a b c d).fab = s.fab := (rfl)
@[simp] theorem slip_tmr (a b c d : Nat) : (s.slip a b c d).tmr = s.tmr := (rfl)
@[simp] theorem slip_qe (a b c d : Nat) : (s.slip a b c d).qe = s.qe := (rfl)
@[simp] theorem slip_mover (a b c d : Nat) : (s.slip a b c d).mover = s.mover := (rfl)
@[simp] theorem slip_cat (a b c d : Nat) : (s.slip a b c d).cat = s.cat := (rfl)
@[simp] theorem slip_store (a b c d : Nat) : (s.slip a b c d).store = s.store := (rfl)
@[simp] theorem slip_front (a b c d : Nat) : (s.slip a b c d).front = s.front := (rfl)
@[simp] theorem slip_cal (a b c d : Nat) : (s.slip a b c d).cal = s.cal := (rfl)
@[simp] theorem slip_link (a b c d : Nat) : (s.slip a b c d).link = s.link := (rfl)
@[simp] theorem slip_cust (a b c d : Nat) : (s.slip a b c d).cust = s.cust := (rfl)
@[simp] theorem slip_rel (a b c d : Nat) : (s.slip a b c d).rel = s.rel := (rfl)
@[simp] theorem slip_hif (a b c d : Nat) : (s.slip a b c d).hif = s.hif := (rfl)
@[simp] theorem slip_panel (a b c d : Nat) : (s.slip a b c d).panel = s.panel := (rfl)
@[simp] theorem slip_ser (a b c d : Nat) : (s.slip a b c d).ser = s.ser := (rfl)
@[simp] theorem slip_held (a b c d : Nat) : (s.slip a b c d).held = s.held := (rfl)
@[simp] theorem slip_cyc (a b c d : Nat) : (s.slip a b c d).cyc = s.cyc := (rfl)

@[simp] theorem endDoze_pending : (s.endDoze).pending = s.pending := by
  unfold State.endDoze; split
  · dsimp only; split <;> rfl
  · rfl
@[simp] theorem endDoze_variant : (s.endDoze).variant = s.variant := by
  unfold State.endDoze; split
  · dsimp only; split <;> rfl
  · rfl
@[simp] theorem endDoze_mem : (s.endDoze).mem = s.mem := by
  unfold State.endDoze; split
  · dsimp only; split <;> rfl
  · rfl
@[simp] theorem endDoze_freeCtr : (s.endDoze).freeCtr = s.freeCtr := by
  unfold State.endDoze; split
  · dsimp only; split <;> rfl
  · rfl
@[simp] theorem endDoze_ans : (s.endDoze).ans = s.ans := by
  unfold State.endDoze; split
  · dsimp only; split <;> rfl
  · rfl
@[simp] theorem endDoze_spineF : (s.endDoze).spineF = s.spineF := by
  unfold State.endDoze; split
  · dsimp only; split <;> rfl
  · rfl
@[simp] theorem endDoze_spineS : (s.endDoze).spineS = s.spineS := by
  unfold State.endDoze; split
  · dsimp only; split <;> rfl
  · rfl
@[simp] theorem endDoze_boot : (s.endDoze).boot = s.boot := by
  unfold State.endDoze; split
  · dsimp only; split <;> rfl
  · rfl
@[simp] theorem endDoze_chron : (s.endDoze).chron = s.chron := by
  unfold State.endDoze; split
  · dsimp only; split <;> rfl
  · rfl
@[simp] theorem endDoze_act : (s.endDoze).act = s.act := by
  unfold State.endDoze; split
  · dsimp only; split <;> rfl
  · rfl
@[simp] theorem endDoze_fab : (s.endDoze).fab = s.fab := by
  unfold State.endDoze; split
  · dsimp only; split <;> rfl
  · rfl
@[simp] theorem endDoze_fault : (s.endDoze).fault = s.fault := by
  unfold State.endDoze; split
  · dsimp only; split <;> rfl
  · rfl
@[simp] theorem endDoze_tmr : (s.endDoze).tmr = s.tmr := by
  unfold State.endDoze; split
  · dsimp only; split <;> rfl
  · rfl
@[simp] theorem endDoze_qe : (s.endDoze).qe = s.qe := by
  unfold State.endDoze; split
  · dsimp only; split <;> rfl
  · rfl
@[simp] theorem endDoze_mover : (s.endDoze).mover = s.mover := by
  unfold State.endDoze; split
  · dsimp only; split <;> rfl
  · rfl
@[simp] theorem endDoze_cat : (s.endDoze).cat = s.cat := by
  unfold State.endDoze; split
  · dsimp only; split <;> rfl
  · rfl
@[simp] theorem endDoze_store : (s.endDoze).store = s.store := by
  unfold State.endDoze; split
  · dsimp only; split <;> rfl
  · rfl
@[simp] theorem endDoze_front : (s.endDoze).front = s.front := by
  unfold State.endDoze; split
  · dsimp only; split <;> rfl
  · rfl
@[simp] theorem endDoze_cal : (s.endDoze).cal = s.cal := by
  unfold State.endDoze; split
  · dsimp only; split <;> rfl
  · rfl
@[simp] theorem endDoze_link : (s.endDoze).link = s.link := by
  unfold State.endDoze; split
  · dsimp only; split <;> rfl
  · rfl
@[simp] theorem endDoze_cust : (s.endDoze).cust = s.cust := by
  unfold State.endDoze; split
  · dsimp only; split <;> rfl
  · rfl
@[simp] theorem endDoze_rel : (s.endDoze).rel = s.rel := by
  unfold State.endDoze; split
  · dsimp only; split <;> rfl
  · rfl
@[simp] theorem endDoze_hif : (s.endDoze).hif = s.hif := by
  unfold State.endDoze; split
  · dsimp only; split <;> rfl
  · rfl
@[simp] theorem endDoze_panel : (s.endDoze).panel = s.panel := by
  unfold State.endDoze; split
  · dsimp only; split <;> rfl
  · rfl
@[simp] theorem endDoze_ser : (s.endDoze).ser = s.ser := by
  unfold State.endDoze; split
  · dsimp only; split <;> rfl
  · rfl
@[simp] theorem endDoze_held : (s.endDoze).held = s.held := by
  unfold State.endDoze; split
  · dsimp only; split <;> rfl
  · rfl
@[simp] theorem endDoze_cyc : (s.endDoze).cyc = s.cyc := by
  unfold State.endDoze; split
  · dsimp only; split <;> rfl
  · rfl

@[simp] theorem event_pending (n : Nat) : (s.event n).pending = s.pending := by unfold State.event; simp only [endDoze_pending]; split <;> rfl
@[simp] theorem event_variant (n : Nat) : (s.event n).variant = s.variant := by unfold State.event; simp only [endDoze_variant]; split <;> rfl
@[simp] theorem event_mem (n : Nat) : (s.event n).mem = s.mem := by unfold State.event; simp only [endDoze_mem]; split <;> rfl
@[simp] theorem event_freeCtr (n : Nat) : (s.event n).freeCtr = s.freeCtr := by unfold State.event; simp only [endDoze_freeCtr]; split <;> rfl
@[simp] theorem event_ans (n : Nat) : (s.event n).ans = s.ans := by unfold State.event; simp only [endDoze_ans]; split <;> rfl
@[simp] theorem event_spineF (n : Nat) : (s.event n).spineF = s.spineF := by unfold State.event; simp only [endDoze_spineF]; split <;> rfl
@[simp] theorem event_spineS (n : Nat) : (s.event n).spineS = s.spineS := by unfold State.event; simp only [endDoze_spineS]; split <;> rfl
@[simp] theorem event_boot (n : Nat) : (s.event n).boot = s.boot := by unfold State.event; simp only [endDoze_boot]; split <;> rfl
@[simp] theorem event_chron (n : Nat) : (s.event n).chron = s.chron := by unfold State.event; simp only [endDoze_chron]; split <;> rfl
@[simp] theorem event_act (n : Nat) : (s.event n).act = s.act := by unfold State.event; simp only [endDoze_act]; split <;> rfl
@[simp] theorem event_fault (n : Nat) : (s.event n).fault = s.fault := by unfold State.event; simp only [endDoze_fault]; split <;> rfl
@[simp] theorem event_tmr (n : Nat) : (s.event n).tmr = s.tmr := by unfold State.event; simp only [endDoze_tmr]; split <;> rfl
@[simp] theorem event_qe (n : Nat) : (s.event n).qe = s.qe := by unfold State.event; simp only [endDoze_qe]; split <;> rfl
@[simp] theorem event_mover (n : Nat) : (s.event n).mover = s.mover := by unfold State.event; simp only [endDoze_mover]; split <;> rfl
@[simp] theorem event_cat (n : Nat) : (s.event n).cat = s.cat := by unfold State.event; simp only [endDoze_cat]; split <;> rfl
@[simp] theorem event_store (n : Nat) : (s.event n).store = s.store := by unfold State.event; simp only [endDoze_store]; split <;> rfl
@[simp] theorem event_front (n : Nat) : (s.event n).front = s.front := by unfold State.event; simp only [endDoze_front]; split <;> rfl
@[simp] theorem event_cal (n : Nat) : (s.event n).cal = s.cal := by unfold State.event; simp only [endDoze_cal]; split <;> rfl
@[simp] theorem event_link (n : Nat) : (s.event n).link = s.link := by unfold State.event; simp only [endDoze_link]; split <;> rfl
@[simp] theorem event_cust (n : Nat) : (s.event n).cust = s.cust := by unfold State.event; simp only [endDoze_cust]; split <;> rfl
@[simp] theorem event_rel (n : Nat) : (s.event n).rel = s.rel := by unfold State.event; simp only [endDoze_rel]; split <;> rfl
@[simp] theorem event_hif (n : Nat) : (s.event n).hif = s.hif := by unfold State.event; simp only [endDoze_hif]; split <;> rfl
@[simp] theorem event_panel (n : Nat) : (s.event n).panel = s.panel := by unfold State.event; simp only [endDoze_panel]; split <;> rfl
@[simp] theorem event_ser (n : Nat) : (s.event n).ser = s.ser := by unfold State.event; simp only [endDoze_ser]; split <;> rfl
@[simp] theorem event_held (n : Nat) : (s.event n).held = s.held := by unfold State.event; simp only [endDoze_held]; split <;> rfl
@[simp] theorem event_cyc (n : Nat) : (s.event n).cyc = s.cyc := by unfold State.event; simp only [endDoze_cyc]; split <;> rfl

@[simp] theorem eventIf_pending (c : Bool) (n : Nat) : (s.eventIf c n).pending = s.pending := by cases c <;> simp [State.eventIf]
@[simp] theorem eventIf_variant (c : Bool) (n : Nat) : (s.eventIf c n).variant = s.variant := by cases c <;> simp [State.eventIf]
@[simp] theorem eventIf_mem (c : Bool) (n : Nat) : (s.eventIf c n).mem = s.mem := by cases c <;> simp [State.eventIf]
@[simp] theorem eventIf_freeCtr (c : Bool) (n : Nat) : (s.eventIf c n).freeCtr = s.freeCtr := by cases c <;> simp [State.eventIf]
@[simp] theorem eventIf_ans (c : Bool) (n : Nat) : (s.eventIf c n).ans = s.ans := by cases c <;> simp [State.eventIf]
@[simp] theorem eventIf_spineF (c : Bool) (n : Nat) : (s.eventIf c n).spineF = s.spineF := by cases c <;> simp [State.eventIf]
@[simp] theorem eventIf_spineS (c : Bool) (n : Nat) : (s.eventIf c n).spineS = s.spineS := by cases c <;> simp [State.eventIf]
@[simp] theorem eventIf_boot (c : Bool) (n : Nat) : (s.eventIf c n).boot = s.boot := by cases c <;> simp [State.eventIf]
@[simp] theorem eventIf_chron (c : Bool) (n : Nat) : (s.eventIf c n).chron = s.chron := by cases c <;> simp [State.eventIf]
@[simp] theorem eventIf_act (c : Bool) (n : Nat) : (s.eventIf c n).act = s.act := by cases c <;> simp [State.eventIf]
@[simp] theorem eventIf_fault (c : Bool) (n : Nat) : (s.eventIf c n).fault = s.fault := by cases c <;> simp [State.eventIf]
@[simp] theorem eventIf_tmr (c : Bool) (n : Nat) : (s.eventIf c n).tmr = s.tmr := by cases c <;> simp [State.eventIf]
@[simp] theorem eventIf_qe (c : Bool) (n : Nat) : (s.eventIf c n).qe = s.qe := by cases c <;> simp [State.eventIf]
@[simp] theorem eventIf_mover (c : Bool) (n : Nat) : (s.eventIf c n).mover = s.mover := by cases c <;> simp [State.eventIf]
@[simp] theorem eventIf_cat (c : Bool) (n : Nat) : (s.eventIf c n).cat = s.cat := by cases c <;> simp [State.eventIf]
@[simp] theorem eventIf_store (c : Bool) (n : Nat) : (s.eventIf c n).store = s.store := by cases c <;> simp [State.eventIf]
@[simp] theorem eventIf_front (c : Bool) (n : Nat) : (s.eventIf c n).front = s.front := by cases c <;> simp [State.eventIf]
@[simp] theorem eventIf_cal (c : Bool) (n : Nat) : (s.eventIf c n).cal = s.cal := by cases c <;> simp [State.eventIf]
@[simp] theorem eventIf_link (c : Bool) (n : Nat) : (s.eventIf c n).link = s.link := by cases c <;> simp [State.eventIf]
@[simp] theorem eventIf_cust (c : Bool) (n : Nat) : (s.eventIf c n).cust = s.cust := by cases c <;> simp [State.eventIf]
@[simp] theorem eventIf_rel (c : Bool) (n : Nat) : (s.eventIf c n).rel = s.rel := by cases c <;> simp [State.eventIf]
@[simp] theorem eventIf_hif (c : Bool) (n : Nat) : (s.eventIf c n).hif = s.hif := by cases c <;> simp [State.eventIf]
@[simp] theorem eventIf_panel (c : Bool) (n : Nat) : (s.eventIf c n).panel = s.panel := by cases c <;> simp [State.eventIf]
@[simp] theorem eventIf_ser (c : Bool) (n : Nat) : (s.eventIf c n).ser = s.ser := by cases c <;> simp [State.eventIf]
@[simp] theorem eventIf_held (c : Bool) (n : Nat) : (s.eventIf c n).held = s.held := by cases c <;> simp [State.eventIf]
@[simp] theorem eventIf_cyc (c : Bool) (n : Nat) : (s.eventIf c n).cyc = s.cyc := by cases c <;> simp [State.eventIf]

/-! ### Registers -/

/-- A register reads what was written to it. -/
@[simp] theorem rd_wr_same (a : Nat) (v : Word) : (s.wr a v).rd a = v := mapGet_mapPut_same _ _ _ _

/-- A write leaves every other register alone. -/
theorem rd_wr_ne {a b : Nat} (v : Word) (h : b ≠ a) : (s.wr a v).rd b = s.rd b := by
  simp only [State.rd, State.wr, mapGet_mapPut_ne _ _ _ h]

theorem rd_wrF_ne {a b : Nat} (lo len n : Nat) (h : b ≠ a) : (s.wrF a lo len n).rd b = s.rd b := rd_wr_ne s _ h

theorem rd_setB_ne {a b : Nat} (i : Nat) (x : Bool) (h : b ≠ a) : (s.setB a i x).rd b = s.rd b := rd_wr_ne s _ h

theorem rd_satAdd_ne {a b : Nat} (lo len n : Nat) (h : b ≠ a) : (s.satAdd a lo len n).rd b = s.rd b := rd_wr_ne s _ h

@[simp] theorem rd_wrF_same (a lo len n : Nat) : (s.wrF a lo len n).rd a = setFld (s.rd a) lo len n := rd_wr_same s _ _

@[simp] theorem rd_setB_same (a i : Nat) (x : Bool) : (s.setB a i x).rd a = setFld (s.rd a) i 1 (b2n x) := rd_wr_same s _ _

/-- Only the register list matters to a read. -/
theorem rd_congr {s t : State} (h : t.regs = s.regs) (a : Nat) : t.rd a = s.rd a := by simp only [State.rd, h]

/-! ### Memory bytes -/

/-- A byte reads what was written to it. -/
@[simp] theorem byteAt_putByte_same (a : Nat) (v : Byte) : (s.putByte a v).byteAt a = v := by
  show (mapGet (mapPut (s.memDflt a) s.mem a v) a).getD (s.memDflt a) = v
  exact mapGet_mapPut_same _ _ _ _

/-- A write leaves every other byte alone. -/
theorem byteAt_putByte_ne {a b : Nat} (v : Byte) (h : b ≠ a) : (s.putByte a v).byteAt b = s.byteAt b := by
  show (mapGet (mapPut (s.memDflt a) s.mem a v) b).getD (s.memDflt b) = s.byteAt b
  rw [mapGet_mapPut_ne _ _ _ h]
  rfl

/-- Bytes stored from `a` upward leave every byte outside them alone. -/
theorem byteAt_putBytes_ne {b : Nat} (l : List Byte) : ∀ (s : State) {a : Nat}, (b < a ∨ a + l.length ≤ b) →
    (s.putBytes a l).byteAt b = s.byteAt b := by
  induction l with
  | nil => exact fun _ _ _ => rfl
  | cons x t ih =>
    intro s a h
    simp only [List.length_cons] at h
    show ((s.putByte a x).putBytes (a + 1) t).byteAt b = s.byteAt b
    rw [ih _ (by omega), byteAt_putByte_ne s _ (by omega)]

/-- Only the memory list and the areas lost matter to a byte. -/
theorem byteAt_congr {s t : State} (h : t.mem = s.mem) (hl : t.pwr.lost = s.pwr.lost) (a : Nat) :
    t.byteAt a = s.byteAt a := by
  simp only [State.byteAt, State.memDflt, h, hl]

/-- What stays of a byte when an area loses its contents: every byte outside the area. -/
theorem byteAt_of_not_area {s : State} {n a : Nat} (h : (memAreas a).contains n = false) :
    (s.loseArea n).byteAt a = s.byteAt a := by
  have hd : (s.loseArea n).memDflt a = s.memDflt a := by
    simp only [State.memDflt, State.loseArea, List.find?_cons, h]
    have : ∀ l : List (Nat × Nat), (l.filter (fun p => p.1 != n)).find? (fun p => (memAreas a).contains p.1) =
        l.find? (fun p => (memAreas a).contains p.1) := by
      intro l
      induction l with
      | nil => rfl
      | cons p l ih =>
        by_cases hp : p.1 = n
        · simp only [List.filter_cons, hp, bne_self_eq_false, Bool.false_eq_true, if_false, List.find?_cons, h, ih]
        · simp only [List.filter_cons, bne_iff_ne, ne_eq, hp, not_false_eq_true, if_true, List.find?_cons, ih]
    rw [this]
  have hg : ∀ l : List Host.Cell, mapGet (l.filter (fun e => !(memAreas e.1).contains n)) a = mapGet l a := by
    intro l
    induction l with
    | nil => rfl
    | cons e l ih =>
      obtain ⟨k, v⟩ := e
      by_cases hk : k = a
      · subst hk
        simp only [List.filter_cons, h, Bool.not_false, if_true, mapGet]
      · by_cases hm : (memAreas k).contains n = true
        · simp only [List.filter_cons, hm, Bool.not_true, Bool.false_eq_true, if_false, ih, mapGet, hk]
        · simp only [List.filter_cons, Bool.not_eq_true] at hm ⊢
          simp only [hm, Bool.not_false, if_true, mapGet, hk, if_false, ih]
  unfold State.byteAt
  rw [hd]
  show (mapGet (s.mem.filter (fun e => !(memAreas e.1).contains n)) a).getD _ = _
  rw [hg]

end Sys2Proof.Machine
end

