-- ==== Sys2Proof/Laws/Fields.lean ====
section
/-! SUPPORT. The bit fields of a word: what a field and a bit read after a field has been replaced. -/

namespace Sys2Proof.Machine

/-- A bit of a field. -/
theorem testBit_fld (w : Word) (lo len i : Nat) : (fld w lo len).testBit i = (decide (i < len) && w.getLsbD (lo + i)) := by
  simp [fld, Nat.testBit_mod_two_pow, Nat.testBit_shiftRight, BitVec.getLsbD]

/-- A bit of the mask of a field. -/
theorem getLsbD_fldMask (lo len i : Nat) :
    (fldMask lo len).getLsbD i = (decide (i < 32) && decide (lo ≤ i) && decide (i < lo + len)) := by
  simp only [fldMask, word, BitVec.getLsbD_ofNat, Nat.testBit_shiftLeft, Nat.testBit_two_pow_sub_one]
  by_cases h : lo ≤ i
  · simp only [h, decide_true, Bool.true_and, Bool.and_true]
    congr 1
    rw [decide_eq_decide]
    omega
  · simp [h]

/-- A bit of a word in which a field has been replaced. -/
theorem getLsbD_setFld (w : Word) (lo len n i : Nat) (hi : i < 32) :
    (setFld w lo len n).getLsbD i = if lo ≤ i ∧ i < lo + len then n.testBit (i - lo) else w.getLsbD i := by
  simp only [setFld, BitVec.getLsbD_or, BitVec.getLsbD_and, BitVec.getLsbD_not, getLsbD_fldMask, word,
    BitVec.getLsbD_ofNat, Nat.testBit_shiftLeft, Nat.testBit_mod_two_pow, hi, decide_true, Bool.true_and]
  by_cases h1 : lo ≤ i
  · by_cases h2 : i < lo + len
    · have : i - lo < len := by omega
      simp [h1, h2, this]
    · have : ¬ i - lo < len := by omega
      simp [h1, h2, this]
  · simp [h1]

/-- The field that was replaced reads the new value. -/
theorem fld_setFld_same (w : Word) {lo len : Nat} (n : Nat) (h : lo + len ≤ 32) :
    fld (setFld w lo len n) lo len = n % 2 ^ len := by
  apply Nat.eq_of_testBit_eq
  intro i
  rw [testBit_fld, Nat.testBit_mod_two_pow]
  by_cases hi : i < len
  · rw [getLsbD_setFld _ _ _ _ _ (by omega)]
    simp [hi]
  · simp [hi]

/-- A field apart from the one that was replaced reads as before. -/
theorem fld_setFld_ne (w : Word) {lo len lo' len' : Nat} (n : Nat) (h : lo' + len' ≤ lo ∨ lo + len ≤ lo') :
    fld (setFld w lo len n) lo' len' = fld w lo' len' := by
  apply Nat.eq_of_testBit_eq
  intro i
  rw [testBit_fld, testBit_fld]
  by_cases hi : i < len'
  · by_cases h32 : lo' + i < 32
    · rw [getLsbD_setFld _ _ _ _ _ h32]
      have : ¬ (lo ≤ lo' + i ∧ lo' + i < lo + len) := by omega
      simp [this]
    · simp [BitVec.getLsbD_of_ge _ _ (Nat.le_of_not_lt h32)]
  · simp [hi]

/-- A bit apart from the field that was replaced reads as before. -/
theorem bitOf_setFld_ne (w : Word) {lo len i : Nat} (n : Nat) (h : i < lo ∨ lo + len ≤ i) :
    bitOf (setFld w lo len n) i = bitOf w i := by
  unfold bitOf
  by_cases h32 : i < 32
  · rw [getLsbD_setFld _ _ _ _ _ h32]
    have : ¬ (lo ≤ i ∧ i < lo + len) := by omega
    simp [this]
  · simp [BitVec.getLsbD_of_ge _ _ (Nat.le_of_not_lt h32)]

/-- A bit that was given a value reads it. -/
theorem bitOf_setBit_same (w : Word) {i : Nat} (b : Bool) (h : i < 32) : bitOf (setFld w i 1 (b2n b)) i = b := by
  unfold bitOf
  rw [getLsbD_setFld _ _ _ _ _ h]
  cases b <;> simp [b2n]

/-! ### The same for the registers of a state -/

variable (s : State)

theorem rdF_wrF_same {a lo len : Nat} (n : Nat) (h : lo + len ≤ 32) : (s.wrF a lo len n).rdF a lo len = n % 2 ^ len := by
  unfold State.rdF
  rw [rd_wrF_same, fld_setFld_same _ _ h]

theorem rdF_wrF_ne {a lo len lo' len' : Nat} (n : Nat) (h : lo' + len' ≤ lo ∨ lo + len ≤ lo') :
    (s.wrF a lo len n).rdF a lo' len' = s.rdF a lo' len' := by
  unfold State.rdF
  rw [rd_wrF_same, fld_setFld_ne _ _ h]

theorem bit_setB_same {a i : Nat} (b : Bool) (h : i < 32) : (s.setB a i b).bit a i = b := by
  unfold State.bit
  rw [rd_setB_same, bitOf_setBit_same _ _ h]

theorem bit_setB_ne {a i j : Nat} (b : Bool) (h : j ≠ i) : (s.setB a i b).bit a j = s.bit a j := by
  unfold State.bit
  rw [rd_setB_same, bitOf_setFld_ne _ _ (by omega)]

theorem bit_wrF_ne {a lo len n j : Nat} (h : j < lo ∨ lo + len ≤ j) : (s.wrF a lo len n).bit a j = s.bit a j := by
  unfold State.bit
  rw [rd_wrF_same, bitOf_setFld_ne _ _ h]

theorem rdF_congr {s t : State} {a : Nat} (h : t.rd a = s.rd a) (lo len : Nat) : t.rdF a lo len = s.rdF a lo len := by
  simp only [State.rdF, h]

theorem bit_congr {s t : State} {a : Nat} (h : t.rd a = s.rd a) (i : Nat) : t.bit a i = s.bit a i := by
  simp only [State.bit, h]

/-- A saturating counter that is not at its end counts. -/
theorem rdF_satAdd_same {a lo len n : Nat} (h : lo + len ≤ 32) :
    (s.satAdd a lo len n).rdF a lo len = min (s.rdF a lo len + n) (2 ^ len - 1) := by
  unfold State.satAdd
  rw [rdF_wrF_same _ _ h]
  have : 0 < 2 ^ len := Nat.two_pow_pos len
  exact Nat.mod_eq_of_lt (by omega)

/-! ### What an event source leaves of the registers -/

/-- The end of Doze leaves every register but the count of entries cut alone. -/
theorem rd_endDoze_ne {a : Nat} (h : a ≠ Reg.PWR_COUNT) : s.endDoze.rd a = s.rd a := by
  unfold State.endDoze
  split
  · by_cases he : s.pwr.entry.isSome = true
    · simp only [he, if_true]
      exact (rd_congr (s := s.satAdd Reg.PWR_COUNT 16 8) rfl a).trans (rd_satAdd_ne s 16 8 _ h)
    · simp only [he, if_false, Bool.false_eq_true]
      rfl
  · rfl

/-- The fabric's marks are in no register. -/
theorem rd_fab (t : State) (f : FabSt) (a : Nat) : ({ t with fab := f } : State).rd a = t.rd a := rfl

/-- An overrun changes only its own register. -/
theorem rd_overrun_ne {n a : Nat} (h : a ≠ Reg.INTC_OVR) : (s.overrun n).rd a = s.rd a := by
  unfold State.overrun
  dsimp only
  rw [rd_fab, rd_wrF_ne _ _ _ _ h, rd_satAdd_ne _ _ _ _ h]

/-- Raising an event changes only the pending register of its group, the overrun register and, where it cuts an entry to
sleep, the count of those. -/
theorem rd_event_ne {n a : Nat} (h1 : a ≠ Reg.INTC_PEND (n / 32)) (h2 : a ≠ Reg.INTC_OVR) (h3 : a ≠ Reg.PWR_COUNT) :
    (s.event n).rd a = s.rd a := by
  unfold State.event
  rw [rd_endDoze_ne _ h3]
  dsimp only
  rw [rd_fab]
  split
  · exact rd_overrun_ne s h2
  · exact rd_setB_ne _ _ _ h1

/-- A source that was not pending is pending after its event. -/
theorem bit_event_pend (n : Nat) (hn : n < 256) : (s.event n).bit (Reg.INTC_PEND (n / 32)) (n % 32) = true := by
  have hb : n % 32 < 32 := Nat.mod_lt _ (by decide)
  have hne : Reg.INTC_PEND (n / 32) ≠ Reg.INTC_OVR := by
    simp only [Reg.INTC_PEND, Reg.INTC_OVR]
    omega
  have hnp : Reg.INTC_PEND (n / 32) ≠ Reg.PWR_COUNT := by
    simp only [Reg.INTC_PEND, Reg.PWR_COUNT]
    omega
  unfold State.event
  rw [bit_congr (rd_endDoze_ne _ hnp)]
  dsimp only
  rw [bit_congr (rd_fab _ _ _)]
  split
  · next hp => exact (bit_congr (rd_overrun_ne s hne) _).trans hp
  · exact bit_setB_same _ _ hb

end Sys2Proof.Machine
end

