-- ==== Sys2Proof/Laws/Frame.lean ====
section
/-! SUPPORT. How the shared updates keep what a command leaves unchanged: one lemma per update for `OnlyRegs` and
`OnlyEvents`. -/

namespace Sys2Proof.Machine

variable {l : List Nat} {s t : State}

theorem OnlyRegs.refl (l : List Nat) (s : State) : OnlyRegs l s s := ⟨fun _ _ => rfl, fun _ => rfl, rfl⟩

theorem OnlyRegs.wr {a : Nat} {v : Word} (h : OnlyRegs l s t) (ha : a ∈ l) : OnlyRegs l s (t.wr a v) := by
  obtain ⟨h1, h2, h3⟩ := h
  refine ⟨fun b hb => ?_, fun b => h2 b, ?_⟩
  · have hne : b ≠ a := fun e => hb (e ▸ ha)
    rw [rd_wr_ne _ _ hne, h1 b hb]
  · generalize hr : (t.wr a v).regs = r
    have : t.wr a v = { t with regs := r } := by rw [← hr]; rfl
    rw [this, h3]

theorem OnlyRegs.wrF {a lo len n : Nat} (h : OnlyRegs l s t) (ha : a ∈ l) : OnlyRegs l s (t.wrF a lo len n) := h.wr ha

theorem OnlyRegs.setB {a i : Nat} {b : Bool} (h : OnlyRegs l s t) (ha : a ∈ l) : OnlyRegs l s (t.setB a i b) := h.wr ha

theorem OnlyRegs.satAdd {a lo len n : Nat} (h : OnlyRegs l s t) (ha : a ∈ l) : OnlyRegs l s (t.satAdd a lo len n) := h.wr ha

theorem OnlyRegs.events (h : OnlyRegs l s t) : OnlyEvents l s t := by
  obtain ⟨h1, h2, h3⟩ := h
  have hf : t.fab = s.fab := by rw [h3]
  have hp : t.pwr = s.pwr := by rw [h3]
  refine ⟨fun a ha => h1 a (fun hm => ha (List.mem_cons_of_mem _ hm)), fun he => ⟨by rw [hp, he], fun hn => h1 _ hn⟩, h2, ?_⟩
  rw [hf, hp]
  exact h3

theorem OnlyEvents.refl (l : List Nat) (s : State) : OnlyEvents l s s := (OnlyRegs.refl l s).events

theorem OnlyEvents.wr {a : Nat} {v : Word} (h : OnlyEvents l s t) (ha : a ∈ l) : OnlyEvents l s (t.wr a v) := by
  obtain ⟨h1, hc, h2, h3⟩ := h
  refine ⟨fun b hb => ?_, fun he => ⟨(hc he).1, fun hn => ?_⟩, fun b => h2 b, ?_⟩
  · have hne : b ≠ a := fun e => hb (List.mem_cons_of_mem _ (e ▸ ha))
    rw [rd_wr_ne _ _ hne, h1 b hb]
  · have hne : Reg.PWR_COUNT ≠ a := fun e => hn (e ▸ ha)
    rw [rd_wr_ne _ _ hne, (hc he).2 hn]
  · rw [wr_fab, wr_pwr]
    generalize hr : (t.wr a v).regs = r
    have : t.wr a v = { t with regs := r } := by rw [← hr]; rfl
    rw [this]
    conv => lhs; rw [h3]

theorem OnlyEvents.wrF {a lo len n : Nat} (h : OnlyEvents l s t) (ha : a ∈ l) : OnlyEvents l s (t.wrF a lo len n) := h.wr ha

theorem OnlyEvents.setB {a i : Nat} {b : Bool} (h : OnlyEvents l s t) (ha : a ∈ l) : OnlyEvents l s (t.setB a i b) := h.wr ha

theorem OnlyEvents.satAdd {a lo len n : Nat} (h : OnlyEvents l s t) (ha : a ∈ l) : OnlyEvents l s (t.satAdd a lo len n) := h.wr ha

theorem OnlyEvents.marks {p : List Nat} {o : List (Nat × Word)} (h : OnlyEvents l s t) :
    OnlyEvents l s { t with fab := { t.fab with pulses := p, ovr := o } } := by
  obtain ⟨h1, hc, h2, h3⟩ := h
  refine ⟨h1, hc, h2, ?_⟩
  conv => lhs; rw [h3]

theorem OnlyEvents.pulses {p : List Nat} (h : OnlyEvents l s t) :
    OnlyEvents l s { t with fab := { t.fab with pulses := p } } := h.marks

/-- The count of an entry that is cut may change while one is under way. -/
theorem OnlyEvents.counted {v : Word} (h : OnlyEvents l s t) (he : t.pwr.entry ≠ none) :
    OnlyEvents l s (t.wr Reg.PWR_COUNT v) := by
  obtain ⟨h1, hc, h2, h3⟩ := h
  refine ⟨fun b hb => ?_, fun h0 => absurd (hc h0).1 he, fun b => h2 b, ?_⟩
  · have hne : b ≠ Reg.PWR_COUNT := fun e => hb (e ▸ List.mem_cons_self)
    rw [rd_wr_ne _ _ hne, h1 b hb]
  · rw [wr_fab, wr_pwr]
    generalize hr : (t.wr Reg.PWR_COUNT v).regs = r
    have : t.wr Reg.PWR_COUNT v = { t with regs := r } := by rw [← hr]; rfl
    rw [this]
    conv => lhs; rw [h3]

theorem OnlyEvents.run (h : OnlyEvents l s t) :
    OnlyEvents l s { t with pwr := { t.pwr with mode := .run, entry := none, resumeAt := none } } := by
  obtain ⟨h1, hc, h2, h3⟩ := h
  refine ⟨h1, fun he => ⟨rfl, (hc he).2⟩, fun a => ?_, ?_⟩
  · have : ({ t with pwr := { t.pwr with mode := .run, entry := none, resumeAt := none } } : State).byteAt a = t.byteAt a := rfl
    rw [this, h2 a]
  · conv => lhs; rw [h3]

theorem OnlyEvents.endDoze (h : OnlyEvents l s t) : OnlyEvents l s t.endDoze := by
  unfold State.endDoze
  split
  · by_cases he : t.pwr.entry.isSome = true
    · simp only [he, if_true]
      exact (h.counted (fun e => by simp [e] at he)).run
    · simp only [he, if_false, Bool.false_eq_true]
      exact h.run
  · exact h

theorem OnlyEvents.event {n : Nat} (h : OnlyEvents l s t) (h1 : Reg.INTC_PEND (n / 32) ∈ l) (h2 : Reg.INTC_OVR ∈ l) :
    OnlyEvents l s (t.event n) := by
  unfold State.event
  apply OnlyEvents.endDoze
  dsimp only
  split
  · exact ((h.satAdd h2).wrF h2).marks
  · exact (h.setB h1).pulses

theorem OnlyEvents.eventIf {n : Nat} {c : Bool} (h : OnlyEvents l s t) (h1 : Reg.INTC_PEND (n / 32) ∈ l) (h2 : Reg.INTC_OVR ∈ l) :
    OnlyEvents l s (t.eventIf c n) := by
  unfold State.eventIf
  split
  · exact h.event h1 h2
  · exact h

/-! ### Registers under updates that write none -/

@[simp] theorem rd_answer (s : State) (v : Word) (a : Nat) : (s.answer v).rd a = s.rd a := rd_congr rfl a
@[simp] theorem rdF_answer (s : State) (v : Word) (a lo len : Nat) : (s.answer v).rdF a lo len = s.rdF a lo len := rdF_congr (rd_congr rfl a) lo len
@[simp] theorem bit_answer (s : State) (v : Word) (a i : Nat) : (s.answer v).bit a i = s.bit a i := bit_congr (rd_congr rfl a) i
@[simp] theorem byteAt_answer (s : State) (v : Word) (a : Nat) : (s.answer v).byteAt a = s.byteAt a := byteAt_congr rfl rfl a

@[simp] theorem rd_answerError (s : State) (a : Nat) : (s.answerError).rd a = s.rd a := rd_congr rfl a
@[simp] theorem rdF_answerError (s : State) (a lo len : Nat) : (s.answerError).rdF a lo len = s.rdF a lo len := rdF_congr (rd_congr rfl a) lo len
@[simp] theorem bit_answerError (s : State) (a i : Nat) : (s.answerError).bit a i = s.bit a i := bit_congr (rd_congr rfl a) i
@[simp] theorem byteAt_answerError (s : State) (a : Nat) : (s.answerError).byteAt a = s.byteAt a := byteAt_congr rfl rfl a

@[simp] theorem rd_answerWait (s : State) (a : Nat) : (s.answerWait).rd a = s.rd a := rd_congr rfl a
@[simp] theorem rdF_answerWait (s : State) (a lo len : Nat) : (s.answerWait).rdF a lo len = s.rdF a lo len := rdF_congr (rd_congr rfl a) lo len
@[simp] theorem bit_answerWait (s : State) (a i : Nat) : (s.answerWait).bit a i = s.bit a i := bit_congr (rd_congr rfl a) i
@[simp] theorem byteAt_answerWait (s : State) (a : Nat) : (s.answerWait).byteAt a = s.byteAt a := byteAt_congr rfl rfl a

@[simp] theorem rd_slip (s : State) (x k c d : Nat) (a : Nat) : (s.slip x k c d).rd a = s.rd a := rd_congr rfl a
@[simp] theorem rdF_slip (s : State) (x k c d : Nat) (a lo len : Nat) : (s.slip x k c d).rdF a lo len = s.rdF a lo len := rdF_congr (rd_congr rfl a) lo len
@[simp] theorem bit_slip (s : State) (x k c d : Nat) (a i : Nat) : (s.slip x k c d).bit a i = s.bit a i := bit_congr (rd_congr rfl a) i
@[simp] theorem byteAt_slip (s : State) (x k c d : Nat) (a : Nat) : (s.slip x k c d).byteAt a = s.byteAt a := byteAt_congr rfl rfl a

@[simp] theorem rd_takeFree (s : State) (a : Nat) : (s.takeFree.2).rd a = s.rd a := rd_congr rfl a
@[simp] theorem rdF_takeFree (s : State) (a lo len : Nat) : (s.takeFree.2).rdF a lo len = s.rdF a lo len := rdF_congr (rd_congr rfl a) lo len
@[simp] theorem bit_takeFree (s : State) (a i : Nat) : (s.takeFree.2).bit a i = s.bit a i := bit_congr (rd_congr rfl a) i
@[simp] theorem byteAt_takeFree (s : State) (a : Nat) : (s.takeFree.2).byteAt a = s.byteAt a := byteAt_congr rfl rfl a

@[simp] theorem rd_putByte (s : State) (x : Nat) (v : Byte) (a : Nat) : (s.putByte x v).rd a = s.rd a := rd_congr rfl a
@[simp] theorem rdF_putByte (s : State) (x : Nat) (v : Byte) (a lo len : Nat) : (s.putByte x v).rdF a lo len = s.rdF a lo len := rdF_congr (rd_congr rfl a) lo len
@[simp] theorem bit_putByte (s : State) (x : Nat) (v : Byte) (a i : Nat) : (s.putByte x v).bit a i = s.bit a i := bit_congr (rd_congr rfl a) i

/-! ### Answers and slips -/

theorem OnlyRegs.answer {v : Word} (h : OnlyRegs l s t) : OnlyRegs l (s.answer v) (t.answer v) := by
  obtain ⟨h1, h2, h3⟩ := h
  generalize t.regs = r at h3
  subst h3
  exact ⟨h1, h2, rfl⟩

theorem OnlyRegs.answerError (h : OnlyRegs l s t) : OnlyRegs l s.answerError t.answerError := by
  obtain ⟨h1, h2, h3⟩ := h
  generalize t.regs = r at h3
  subst h3
  exact ⟨h1, h2, rfl⟩

theorem OnlyRegs.answerWait (h : OnlyRegs l s t) : OnlyRegs l s.answerWait t.answerWait := by
  obtain ⟨h1, h2, h3⟩ := h
  generalize t.regs = r at h3
  subst h3
  exact ⟨h1, h2, rfl⟩

theorem OnlyEvents.answer {v : Word} (h : OnlyEvents l s t) : OnlyEvents l (s.answer v) (t.answer v) := by
  obtain ⟨h1, hc, h2, h3⟩ := h
  generalize t.regs = r at h3
  generalize t.fab.pulses = p at h3
  generalize t.fab.ovr = o at h3
  generalize t.pwr.mode = m at h3
  generalize he : t.pwr.entry = e at h3 hc
  generalize t.pwr.resumeAt = q at h3
  subst h3
  exact ⟨h1, hc, h2, rfl⟩

theorem OnlyEvents.answerError (h : OnlyEvents l s t) : OnlyEvents l s.answerError t.answerError := by
  obtain ⟨h1, hc, h2, h3⟩ := h
  generalize t.regs = r at h3
  generalize t.fab.pulses = p at h3
  generalize t.fab.ovr = o at h3
  generalize t.pwr.mode = m at h3
  generalize he : t.pwr.entry = e at h3 hc
  generalize t.pwr.resumeAt = q at h3
  subst h3
  exact ⟨h1, hc, h2, rfl⟩

end Sys2Proof.Machine
end

