-- ==== Sys2Proof/Laws/Kept.lean ====
section
/-! SUPPORT. What every operation keeps: the queue, the variant, the canonical forms of the registers and the memory,
and the fuses. -/

namespace Sys2Proof.Machine

/-- From `s` to `t` the queue and the variant are the same, canonical forms stay canonical, the lifecycle is the same, and
no fuse is unblown: ZEROISED, the retired key and the minimum accepted build only rise. -/
structure Kept (s t : State) : Prop where
  pending  : t.pending = s.pending
  variant  : t.variant = s.variant
  regs     : s.regsWf = true → t.regsWf = true
  mem      : s.memWf = true → t.memWf = true
  life     : t.cust.life = s.cust.life
  zeroised : s.cust.zeroised = true → t.cust.zeroised = true
  retired  : s.boot.retired = true → t.boot.retired = true
  minBuild : s.boot.minBuild ≤ t.boot.minBuild

namespace Kept

theorem rfl' (s : State) : Kept s s := ⟨rfl, rfl, id, id, rfl, id, id, Nat.le_refl _⟩

theorem trans {s t u : State} (h : Kept s t) (g : Kept t u) : Kept s u :=
  ⟨g.pending.trans h.pending, g.variant.trans h.variant, fun x => g.regs (h.regs x), fun x => g.mem (h.mem x),
   g.life.trans h.life, fun x => g.zeroised (h.zeroised x), fun x => g.retired (h.retired x),
   Nat.le_trans h.minBuild g.minBuild⟩

variable {u s t : State}

theorem memDflt_eq (h : t.pwr.lost = s.pwr.lost) : t.memDflt = s.memDflt := by
  funext a
  simp only [State.memDflt, h]

/-- A record update of the units' own state. -/
theorem upd (h : Kept u s) {fc ans sf ss} {boot : BootSt} {pwr : PwrSt} {chron act fab fault tmr qe mover cat store front
    cal link} {cust : CustSt} {rel hif panel ser held cyc} (hp : pwr.lost = s.pwr.lost) (hl : cust.life = s.cust.life)
    (hz : s.cust.zeroised = true → cust.zeroised = true) (hr : s.boot.retired = true → boot.retired = true)
    (hm : s.boot.minBuild ≤ boot.minBuild) :
    Kept u (State.mk s.pending s.variant s.regs s.mem fc ans sf ss boot pwr chron act fab fault tmr qe mover cat store
      front cal link cust rel hif panel ser held cyc) :=
  h.trans ⟨rfl, rfl, id, fun x => by rw [← x]; unfold State.memWf; rw [memDflt_eq hp], hl, hz, hr, hm⟩

/-- A record update of the units' own state that also drops memory bytes. -/
theorem updMem (h : Kept u s) {fc ans sf ss mem} {boot : BootSt} {pwr : PwrSt} {chron act fab fault tmr qe mover cat store
    front cal link} {cust : CustSt} {rel hif panel ser held cyc} (hs : mem.Sublist s.mem) (hp : pwr.lost = s.pwr.lost)
    (hl : cust.life = s.cust.life) (hz : s.cust.zeroised = true → cust.zeroised = true)
    (hr : s.boot.retired = true → boot.retired = true) (hm : s.boot.minBuild ≤ boot.minBuild) :
    Kept u (State.mk s.pending s.variant s.regs mem fc ans sf ss boot pwr chron act fab fault tmr qe mover cat store
      front cal link cust rel hif panel ser held cyc) :=
  h.trans ⟨rfl, rfl, id, fun x => by
    refine mapWf_sublist (d := s.memDflt) hs x |> fun y => ?_
    rw [← y]; unfold State.memWf; rw [memDflt_eq hp]; rfl, hl, hz, hr, hm⟩

/-- A change of the memory list alone. -/
theorem memPart (h : Kept u s) {l : List Host.Cell} (hs : l.Sublist s.mem) : Kept u { s with mem := l } :=
  h.trans ⟨rfl, rfl, id, fun x => mapWf_sublist hs x, rfl, id, id, Nat.le_refl _⟩

theorem foldl {α : Type} {f : State → α → State} (l : List α) (hf : ∀ t a, Kept u t → Kept u (f t a)) :
    ∀ {s}, Kept u s → Kept u (l.foldl f s) := by
  induction l with
  | nil => exact id
  | cons a l ih => exact fun h => ih (hf _ _ h)

theorem snd_of {α : Type} {x : α × State} {a : α} {t : State} (e : x = (a, t)) (h : Kept u x.2) : Kept u t := by
  subst e
  exact h

theorem snd_self {α : Type} {x y : α × State} (e : x = y) (h : Kept u x.2) : Kept u y.2 := by
  subst e
  exact h

theorem fst_of {α : Type} {x : State × α} {a : α} {t : State} (e : x = (t, a)) (h : Kept u x.1) : Kept u t := by
  subst e
  exact h

theorem snd2_of {α β : Type} {x : α × β × State} {a : α} {b : β} {t : State} (e : x = (a, b, t)) (h : Kept u x.2.2) :
    Kept u t := by
  subst e
  exact h

theorem snd3_of {α β γ : Type} {x : α × β × γ × State} {a : α} {b : β} {c : γ} {t : State} (e : x = (a, b, c, t))
    (h : Kept u x.2.2.2) : Kept u t := by
  subst e
  exact h

/-- What a meaning's next state keeps. -/
def out (u : State) : Out → Prop
  | .next t => Kept u t
  | _ => True

/-- What an answer that may be missing keeps. -/
def opt (u : State) : Option State → Prop
  | some t => Kept u t
  | none => True

/-- What an answer that may be missing keeps, beside a value. -/
def opt2 {α : Type} (u : State) : Option (α × State) → Prop
  | some x => Kept u x.2
  | none => True

/-- What an answer that may be missing keeps, beside two values. -/
def opt3 {α β : Type} (u : State) : Option (α × β × State) → Prop
  | some x => Kept u x.2.2
  | none => True

/-- What an answer or a reason keeps. -/
def exc {ε : Type} (u : State) : Except ε State → Prop
  | .ok t => Kept u t
  | .error _ => True

/-- What an answer or a reason keeps, beside a value. -/
def exc2 {ε α : Type} (u : State) : Except ε (α × State) → Prop
  | .ok x => Kept u x.2
  | .error _ => True

/-- What the state of a failure keeps. -/
def err {α : Type} (u : State) : Except State α → Prop
  | .ok _ => True
  | .error t => Kept u t

/-- What the state of a failure keeps, beside a value. -/
def err2 {α β : Type} (u : State) : Except (α × State) β → Prop
  | .ok _ => True
  | .error x => Kept u x.2

/-- What a run of beats keeps. -/
def mv (u : State) : MvRes → Prop
  | .ok _ t => Kept u t
  | .err _ t => Kept u t
  | .wait _ t => Kept u t

/-- What the work of a queue mode keeps. -/
def sum (u : State) : MvRes ⊕ State → Prop
  | .inl r => mv u r
  | .inr t => Kept u t

/-- What a service keeps. -/
def svc (u : State) : Except Nat SvcOut → Prop
  | .ok o => Kept u o.st
  | .error _ => True

/-- What a boot step keeps. -/
def bres (u : State) : BootRes → Prop
  | .go t => Kept u t
  | .stop t => Kept u t

/-- What the securing of a frame keeps. -/
def secd (u : State) : Secured → Prop
  | .done t => Kept u t
  | _ => True

/-- What the checks of a received frame keep. -/
def chk (u : State) : Checked → Prop
  | .accept _ t => Kept u t
  | .drop _ t => Kept u t

/-- What a read of the panel port keeps. -/
def pg {α : Type} (u : State) : Except (Nat × State) (α × State) → Prop
  | .ok x => Kept u x.2
  | .error x => Kept u x.2

/-- What a read of a page keeps. -/
def pg3 {α β : Type} (u : State) : Except (Nat × State) (α × β × State) → Prop
  | .ok x => Kept u x.2.2
  | .error x => Kept u x.2

/-- What a read of the store die keeps. -/
def rr {α : Type} (u : State) : Except State (α × State) → Prop
  | .ok x => Kept u x.2
  | .error t => Kept u t

theorem pg_ok {α : Type} {x : α × State} (h : Kept u x.2) : pg u (.ok x) := h

theorem pg_error {α : Type} {x : Nat × State} (h : Kept u x.2) : pg (α := α) u (.error x) := h

theorem pg_of {α : Type} {x : Except (Nat × State) (α × State)} {a : α} (e : x = .ok (a, t)) (h : pg u x) : Kept u t := by
  subst e; exact h

theorem pg_ofp {α : Type} {x : Except (Nat × State) (α × State)} {y : α × State} (e : x = .ok y) (h : pg u x) :
    Kept u y.2 := by
  subst e; exact h

theorem pg_err {α : Type} {x : Except (Nat × State) (α × State)} {n : Nat} (e : x = .error (n, t)) (h : pg u x) :
    Kept u t := by
  subst e; exact h

theorem pg_errp {α : Type} {x : Except (Nat × State) (α × State)} {y : Nat × State} (e : x = .error y) (h : pg u x) :
    Kept u y.2 := by
  subst e; exact h

theorem pg3_ok {α β : Type} {x : α × β × State} (h : Kept u x.2.2) : pg3 u (.ok x) := h

theorem pg3_error {α β : Type} {x : Nat × State} (h : Kept u x.2) : pg3 (α := α) (β := β) u (.error x) := h

theorem pg3_of {α β : Type} {x : Except (Nat × State) (α × β × State)} {a : α} {b : β} (e : x = .ok (a, b, t))
    (h : pg3 u x) : Kept u t := by
  subst e; exact h

theorem pg3_err {α β : Type} {x : Except (Nat × State) (α × β × State)} {n : Nat} (e : x = .error (n, t))
    (h : pg3 u x) : Kept u t := by
  subst e; exact h

theorem pg3_errp {α β : Type} {x : Except (Nat × State) (α × β × State)} {y : Nat × State} (e : x = .error y)
    (h : pg3 u x) : Kept u y.2 := by
  subst e; exact h

theorem rr_ok {α : Type} {x : α × State} (h : Kept u x.2) : rr u (.ok x) := h

theorem rr_error {α : Type} (h : Kept u t) : rr (α := α) u (.error t) := h

theorem rr_of {α : Type} {x : Except State (α × State)} {a : α} (e : x = .ok (a, t)) (h : rr u x) : Kept u t := by
  subst e; exact h

theorem rr_ofp {α : Type} {x : Except State (α × State)} {y : α × State} (e : x = .ok y) (h : rr u x) : Kept u y.2 := by
  subst e; exact h

theorem rr_err {α : Type} {x : Except State (α × State)} (e : x = .error t) (h : rr u x) : Kept u t := by
  subst e; exact h

theorem bres_mk_go (h : Kept u t) : bres u (.go t) := h

theorem bres_mk_stop (h : Kept u t) : bres u (.stop t) := h

theorem bres_go {x : BootRes} (e : x = .go t) (h : bres u x) : Kept u t := by subst e; exact h

theorem bres_stop {x : BootRes} (e : x = .stop t) (h : bres u x) : Kept u t := by subst e; exact h

theorem secd_mk (h : Kept u t) : secd u (.done t) := h

theorem secd_of {x : Secured} (e : x = .done t) (h : secd u x) : Kept u t := by subst e; exact h

theorem chk_mk_accept {l : List Byte} (h : Kept u t) : chk u (.accept l t) := h

theorem chk_mk_drop {b : Bool} (h : Kept u t) : chk u (.drop b t) := h

theorem chk_accept {x : Checked} {l : List Byte} (e : x = .accept l t) (h : chk u x) : Kept u t := by subst e; exact h

theorem chk_drop {x : Checked} {b : Bool} (e : x = .drop b t) (h : chk u x) : Kept u t := by subst e; exact h

theorem ite' {c : Prop} [Decidable c] {a b : State} (h1 : Kept u a) (h2 : Kept u b) :
    Kept u (if c then a else b) := by
  split
  · exact h1
  · exact h2

theorem out_ite {c : Prop} [Decidable c] {a b : Out} (h1 : out u a) (h2 : out u b) : out u (if c then a else b) := by
  split
  · exact h1
  · exact h2

theorem out_next (h : Kept u t) : out u (.next t) := h

theorem opt_some (h : Kept u t) : opt u (some t) := h

theorem opt2_some {α : Type} {x : α × State} (h : Kept u x.2) : opt2 u (some x) := h

theorem opt3_some {α β : Type} {x : α × β × State} (h : Kept u x.2.2) : opt3 u (some x) := h

theorem exc_ok {ε : Type} (h : Kept u t) : exc (ε := ε) u (.ok t) := h

theorem exc2_ok {ε α : Type} {x : α × State} (h : Kept u x.2) : exc2 (ε := ε) u (.ok x) := h

theorem err_error {α : Type} (h : Kept u t) : err (α := α) u (.error t) := h

theorem err2_error {α β : Type} {x : α × State} (h : Kept u x.2) : err2 (β := β) u (.error x) := h

theorem mv_mk_ok {d : MvDesc} (h : Kept u t) : mv u (.ok d t) := h

theorem mv_mk_err {a : Nat} (h : Kept u t) : mv u (.err a t) := h

theorem mv_mk_wait {d : MvDesc} (h : Kept u t) : mv u (.wait d t) := h

theorem sum_mk_inl {r : MvRes} (h : mv u r) : sum u (.inl r) := h

theorem sum_mk_inr (h : Kept u t) : sum u (.inr t) := h

theorem svc_ok {o : SvcOut} (h : Kept u o.st) : svc u (.ok o) := h

theorem opt_of {x : Option State} (e : x = some t) (h : opt u x) : Kept u t := by subst e; exact h

theorem opt2_of {α : Type} {x : Option (α × State)} {a : α} (e : x = some (a, t)) (h : opt2 u x) : Kept u t := by
  subst e; exact h

theorem opt3_of {α β : Type} {x : Option (α × β × State)} {a : α} {b : β} (e : x = some (a, b, t)) (h : opt3 u x) :
    Kept u t := by
  subst e; exact h

theorem exc_of {ε : Type} {x : Except ε State} (e : x = .ok t) (h : exc u x) : Kept u t := by subst e; exact h

theorem exc2_of {ε α : Type} {x : Except ε (α × State)} {a : α} (e : x = .ok (a, t)) (h : exc2 u x) : Kept u t := by
  subst e; exact h

theorem err_of {α : Type} {x : Except State α} (e : x = .error t) (h : err u x) : Kept u t := by subst e; exact h

theorem err2_of {α β : Type} {x : Except (α × State) β} {a : α} (e : x = .error (a, t)) (h : err2 u x) : Kept u t := by
  subst e; exact h

theorem err2_ofp {α β : Type} {x : Except (α × State) β} {y : α × State} (e : x = .error y) (h : err2 u x) :
    Kept u y.2 := by
  subst e; exact h

theorem mv_ok {x : MvRes} {d : MvDesc} (e : x = .ok d t) (h : mv u x) : Kept u t := by subst e; exact h

theorem mv_err {x : MvRes} {a : Nat} (e : x = .err a t) (h : mv u x) : Kept u t := by subst e; exact h

theorem mv_wait {x : MvRes} {d : MvDesc} (e : x = .wait d t) (h : mv u x) : Kept u t := by subst e; exact h

theorem sum_inl {x : MvRes ⊕ State} {r : MvRes} (e : x = .inl r) (h : sum u x) : mv u r := by subst e; exact h

theorem sum_inr {x : MvRes ⊕ State} (e : x = .inr t) (h : sum u x) : Kept u t := by subst e; exact h

theorem svc_of {x : Except Nat SvcOut} {o : SvcOut} (e : x = .ok o) (h : svc u x) : Kept u o.st := by subst e; exact h

theorem wr (h : Kept u s) {a v} : Kept u (s.wr a v) :=
  h.trans ⟨rfl, rfl, fun x => mapWf_mapPut a v x, id, rfl, id, id, Nat.le_refl _⟩

theorem wrF (h : Kept u s) {a lo len n} : Kept u (s.wrF a lo len n) := wr h

theorem setB (h : Kept u s) {a i b} : Kept u (s.setB a i b) := wr h

theorem satAdd (h : Kept u s) {a lo len n} : Kept u (s.satAdd a lo len n) := wr h

theorem putByte (h : Kept u s) {a v} : Kept u (s.putByte a v) :=
  h.trans ⟨rfl, rfl, id, fun x => mapWf_mapPut (d := s.memDflt) a v x, rfl, id, id, Nat.le_refl _⟩

theorem putBytes {l : List Byte} : ∀ {s : State} {a : Nat}, Kept u s → Kept u (s.putBytes a l) := by
  induction l with
  | nil => exact id
  | cons b l ih => exact fun h => ih (putByte h)

theorem loseArea (h : Kept u s) {n} : Kept u (s.loseArea n) := by
  refine h.trans ⟨rfl, rfl, id, fun x => ?_, rfl, id, id, Nat.le_refl _⟩
  have x' := mapWf_sublist (List.filter_sublist (p := fun e => !(memAreas e.1).contains n)) x
  unfold State.memWf Memory.wf at *
  rw [mapWf_iff] at x' ⊢
  refine ⟨x'.1, fun e he => ?_⟩
  have hm := x'.2 e he
  have hn : (memAreas e.1).contains n = false := by simpa using (List.mem_filter.1 he).2
  refine fun hc => hm (hc.trans ?_)
  simp only [State.memDflt, State.loseArea, List.find?_cons, hn]
  have : ∀ l : List (Nat × Nat), (l.filter (fun p => p.1 != n)).find? (fun p => (memAreas e.1).contains p.1) =
      l.find? (fun p => (memAreas e.1).contains p.1) := by
    intro l
    induction l with
    | nil => rfl
    | cons p l ih =>
      by_cases hp : p.1 = n
      · simp only [List.filter_cons, hp, bne_self_eq_false, Bool.false_eq_true, if_false, List.find?_cons, hn, ih]
      · simp only [List.filter_cons, bne_iff_ne, ne_eq, hp, not_false_eq_true, if_true, List.find?_cons, ih]
  rw [this]

theorem resetRegs (h : Kept u s) {k} : Kept u (s.resetRegs k) := by
  refine h.trans ⟨rfl, rfl, fun x => ?_, id, rfl, id, id, Nat.le_refl _⟩
  unfold State.regsWf at *
  rw [mapWf_iff] at *
  simp only [State.resetRegs]
  constructor
  · rw [List.pairwise_filterMap]
    refine x.1.imp ?_
    intro a b hab c hc d hd
    simp only [Option.ite_none_left_eq_some, Option.some.injEq] at hc hd
    rw [← hc.2, ← hd.2]
    exact hab
  · intro e he
    obtain ⟨a, -, h1⟩ := List.mem_filterMap.1 he
    simp only [Option.ite_none_left_eq_some, Option.some.injEq] at h1
    rw [← h1.2]
    exact h1.1

theorem takeFree (h : Kept u s) : Kept u s.takeFree.2 := upd h rfl rfl id id (Nat.le_refl _)

theorem openTaken (h : Kept u s) {b} : Kept u (s.openTaken b) := by
  unfold State.openTaken; split
  · exact h
  · exact takeFree h

theorem takeFreeBytes (h : Kept u s) {n} : Kept u (s.takeFreeBytes n).2 := upd h rfl rfl id id (Nat.le_refl _)

theorem forRange (h : Kept u s) {n f} (hf : ∀ t a, Kept u t → Kept u (f t a)) : Kept u (forRange n s f) :=
  foldl _ hf h

end Kept

end Sys2Proof.Machine
end

