-- ==== Sys2Proof/Laws/Kept/Core.lean ====
section
/-! SUPPORT. What the operations of the registers, flags, pads, fabric, chronicle, timers and actions keep: each keeps the queue, the variant, the canonical forms and the
fuses (Laws/Kept.lean), from any state that keeps them. -/

namespace Sys2Proof.Machine.Kept

variable {u s t : State}

theorem wrInstant (h : Kept u s) {a1 a2 a3} : Kept u (@Sys2Proof.Machine.State.wrInstant s a1 a2 a3) := by
  dsimp only [Sys2Proof.Machine.State.wrInstant]
  repeat' first
    | with_reducible assumption
    | with_reducible apply wr
    | with_reducible apply foldl
    | with_reducible apply forRange
    | with_reducible rfl
    | with_reducible exact id
    | with_reducible exact Nat.le_refl _
    | split
    | dsimp only
    | with_reducible apply upd
    | exact trivial
    | rfl
    | exact id
    | exact Nat.le_refl _
    | intro _

theorem answer (h : Kept u s) {a1} : Kept u (@Sys2Proof.Machine.State.answer s a1) := by
  dsimp only [Sys2Proof.Machine.State.answer]
  repeat' first
    | with_reducible assumption
    | with_reducible apply foldl
    | with_reducible apply forRange
    | with_reducible rfl
    | with_reducible exact id
    | with_reducible exact Nat.le_refl _
    | split
    | dsimp only
    | with_reducible apply upd
    | exact trivial
    | rfl
    | exact id
    | exact Nat.le_refl _
    | intro _

theorem answerError (h : Kept u s) : Kept u (@Sys2Proof.Machine.State.answerError s) := by
  dsimp only [Sys2Proof.Machine.State.answerError]
  repeat' first
    | with_reducible assumption
    | with_reducible apply foldl
    | with_reducible apply forRange
    | with_reducible rfl
    | with_reducible exact id
    | with_reducible exact Nat.le_refl _
    | split
    | dsimp only
    | with_reducible apply upd
    | exact trivial
    | rfl
    | exact id
    | exact Nat.le_refl _
    | intro _

theorem answerWait (h : Kept u s) : Kept u (@Sys2Proof.Machine.State.answerWait s) := by
  dsimp only [Sys2Proof.Machine.State.answerWait]
  repeat' first
    | with_reducible assumption
    | with_reducible apply foldl
    | with_reducible apply forRange
    | with_reducible rfl
    | with_reducible exact id
    | with_reducible exact Nat.le_refl _
    | split
    | dsimp only
    | with_reducible apply upd
    | exact trivial
    | rfl
    | exact id
    | exact Nat.le_refl _
    | intro _

theorem holdCmd (h : Kept u s) {a1} : Kept u (@Sys2Proof.Machine.State.holdCmd s a1) := by
  dsimp only [Sys2Proof.Machine.State.holdCmd]
  repeat' first
    | with_reducible assumption
    | with_reducible apply foldl
    | with_reducible apply forRange
    | with_reducible rfl
    | with_reducible exact id
    | with_reducible exact Nat.le_refl _
    | split
    | dsimp only
    | with_reducible apply upd
    | exact trivial
    | rfl
    | exact id
    | exact Nat.le_refl _
    | intro _

theorem endDoze (h : Kept u s) : Kept u (@Sys2Proof.Machine.State.endDoze s) := by
  dsimp only [Sys2Proof.Machine.State.endDoze]
  repeat' first
    | with_reducible assumption
    | with_reducible apply doze
    | with_reducible apply satAdd
    | with_reducible apply foldl
    | with_reducible apply forRange
    | with_reducible rfl
    | with_reducible exact id
    | with_reducible exact Nat.le_refl _
    | split
    | dsimp only
    | with_reducible apply upd
    | exact trivial
    | rfl
    | exact id
    | exact Nat.le_refl _
    | intro _

theorem overrun (h : Kept u s) {a1} : Kept u (@Sys2Proof.Machine.State.overrun s a1) := by
  dsimp only [Sys2Proof.Machine.State.overrun]
  repeat' first
    | with_reducible assumption
    | with_reducible apply satAdd
    | with_reducible apply wrF
    | with_reducible apply foldl
    | with_reducible apply forRange
    | with_reducible rfl
    | with_reducible exact id
    | with_reducible exact Nat.le_refl _
    | split
    | dsimp only
    | with_reducible apply upd
    | exact trivial
    | rfl
    | exact id
    | exact Nat.le_refl _
    | intro _

theorem undoOverrun (h : Kept u s) {a1} : Kept u (@Sys2Proof.Machine.State.undoOverrun s a1) := by
  dsimp only [Sys2Proof.Machine.State.undoOverrun]
  repeat' first
    | with_reducible assumption
    | with_reducible apply wr
    | with_reducible apply wrF
    | with_reducible apply foldl
    | with_reducible apply forRange
    | with_reducible rfl
    | with_reducible exact id
    | with_reducible exact Nat.le_refl _
    | split
    | dsimp only
    | with_reducible apply upd
    | exact trivial
    | rfl
    | exact id
    | exact Nat.le_refl _
    | intro _

theorem event (h : Kept u s) {a1} : Kept u (@Sys2Proof.Machine.State.event s a1) := by
  dsimp only [Sys2Proof.Machine.State.event]
  repeat' first
    | with_reducible assumption
    | with_reducible apply overrun
    | with_reducible apply wrF
    | with_reducible apply satAdd
    | with_reducible apply setB
    | with_reducible apply endDoze
    | with_reducible apply foldl
    | with_reducible apply forRange
    | with_reducible rfl
    | with_reducible exact id
    | with_reducible exact Nat.le_refl _
    | split
    | dsimp only
    | with_reducible apply upd
    | exact trivial
    | rfl
    | exact id
    | exact Nat.le_refl _
    | intro _

theorem eventIf (h : Kept u s) {a1 a2} : Kept u (@Sys2Proof.Machine.State.eventIf s a1 a2) := by
  dsimp only [Sys2Proof.Machine.State.eventIf]
  repeat' first
    | with_reducible assumption
    | with_reducible apply event
    | with_reducible apply foldl
    | with_reducible apply forRange
    | with_reducible rfl
    | with_reducible exact id
    | with_reducible exact Nat.le_refl _
    | split
    | dsimp only
    | with_reducible apply upd
    | exact trivial
    | rfl
    | exact id
    | exact Nat.le_refl _
    | intro _

theorem slip (h : Kept u s) {a1 a2 a3 a4} : Kept u (@Sys2Proof.Machine.State.slip s a1 a2 a3 a4) := by
  dsimp only [Sys2Proof.Machine.State.slip]
  repeat' first
    | with_reducible assumption
    | with_reducible apply foldl
    | with_reducible apply forRange
    | with_reducible rfl
    | with_reducible exact id
    | with_reducible exact Nat.le_refl _
    | split
    | dsimp only
    | with_reducible apply upd
    | exact trivial
    | rfl
    | exact id
    | exact Nat.le_refl _
    | intro _

theorem wake (h : Kept u s) {a1} : Kept u (@Sys2Proof.Machine.State.wake s a1) := by
  dsimp only [Sys2Proof.Machine.State.wake]
  repeat' first
    | with_reducible assumption
    | with_reducible apply doze
    | with_reducible apply satAdd
    | with_reducible apply foldl
    | with_reducible apply forRange
    | with_reducible rfl
    | with_reducible exact id
    | with_reducible exact Nat.le_refl _
    | split
    | dsimp only
    | with_reducible apply upd
    | exact trivial
    | rfl
    | exact id
    | exact Nat.le_refl _
    | intro _

theorem absentSlip (h : Kept u s) {a1 a2} : Kept u (@Sys2Proof.Machine.State.absentSlip s a1 a2) := by
  dsimp only [Sys2Proof.Machine.State.absentSlip]
  repeat' first
    | with_reducible assumption
    | with_reducible apply slip
    | with_reducible apply foldl
    | with_reducible apply forRange
    | with_reducible rfl
    | with_reducible exact id
    | with_reducible exact Nat.le_refl _
    | split
    | dsimp only
    | with_reducible apply upd
    | exact trivial
    | rfl
    | exact id
    | exact Nat.le_refl _
    | intro _

theorem setSpineSt (h : Kept u s) {a1 a2} : Kept u (@Sys2Proof.Machine.State.setSpineSt s a1 a2) := by
  dsimp only [Sys2Proof.Machine.State.setSpineSt]
  repeat' first
    | with_reducible assumption
    | with_reducible apply wrF
    | with_reducible apply foldl
    | with_reducible apply forRange
    | with_reducible rfl
    | with_reducible exact id
    | with_reducible exact Nat.le_refl _
    | split
    | dsimp only
    | with_reducible apply upd
    | exact trivial
    | rfl
    | exact id
    | exact Nat.le_refl _
    | intro _

theorem countFull (h : Kept u s) {a1} : Kept u (@Sys2Proof.Machine.State.countFull s a1) := by
  dsimp only [Sys2Proof.Machine.State.countFull]
  repeat' first
    | with_reducible assumption
    | with_reducible apply satAdd
    | with_reducible apply foldl
    | with_reducible apply forRange
    | with_reducible rfl
    | with_reducible exact id
    | with_reducible exact Nat.le_refl _
    | split
    | dsimp only
    | with_reducible apply upd
    | exact trivial
    | rfl
    | exact id
    | exact Nat.le_refl _
    | intro _

theorem dieNotReady (h : Kept u s) {a1} : Kept u (@Sys2Proof.Machine.State.dieNotReady s a1) := by
  dsimp only [Sys2Proof.Machine.State.dieNotReady]
  repeat' first
    | with_reducible assumption
    | with_reducible apply answerError
    | with_reducible apply slip
    | with_reducible apply foldl
    | with_reducible apply forRange
    | with_reducible rfl
    | with_reducible exact id
    | with_reducible exact Nat.le_refl _
    | split
    | dsimp only
    | with_reducible apply upd
    | exact trivial
    | rfl
    | exact id
    | exact Nat.le_refl _
    | intro _

theorem keepRoute (h : Kept u s) {a1} : Kept u (@Sys2Proof.Machine.State.keepRoute s a1) := by
  dsimp only [Sys2Proof.Machine.State.keepRoute]
  repeat' first
    | with_reducible assumption
    | with_reducible apply foldl
    | with_reducible apply forRange
    | with_reducible rfl
    | with_reducible exact id
    | with_reducible exact Nat.le_refl _
    | split
    | dsimp only
    | with_reducible apply upd
    | exact trivial
    | rfl
    | exact id
    | exact Nat.le_refl _
    | intro _

theorem fireChannel (h : Kept u s) {a1} : Kept u (@Sys2Proof.Machine.State.fireChannel s a1) := by
  dsimp only [Sys2Proof.Machine.State.fireChannel]
  repeat' first
    | with_reducible assumption
    | with_reducible apply setB
    | with_reducible apply wrF
    | with_reducible apply satAdd
    | with_reducible apply foldl
    | with_reducible apply forRange
    | with_reducible rfl
    | with_reducible exact id
    | with_reducible exact Nat.le_refl _
    | split
    | dsimp only
    | with_reducible apply upd
    | exact trivial
    | rfl
    | exact id
    | exact Nat.le_refl _
    | intro _

theorem pulseTask (h : Kept u s) {a1} : Kept u (@Sys2Proof.Machine.State.pulseTask s a1) := by
  dsimp only [Sys2Proof.Machine.State.pulseTask]
  repeat' first
    | with_reducible assumption
    | with_reducible apply wrF
    | with_reducible apply satAdd
    | with_reducible apply foldl
    | with_reducible apply forRange
    | with_reducible rfl
    | with_reducible exact id
    | with_reducible exact Nat.le_refl _
    | split
    | dsimp only
    | with_reducible apply upd
    | exact trivial
    | rfl
    | exact id
    | exact Nat.le_refl _
    | intro _

theorem advanceDeliveries (h : Kept u s) : Kept u (@Sys2Proof.Machine.State.advanceDeliveries s) := by
  dsimp only [Sys2Proof.Machine.State.advanceDeliveries]
  repeat' first
    | with_reducible assumption
    | with_reducible apply pulseTask
    | with_reducible apply foldl
    | with_reducible apply forRange
    | with_reducible rfl
    | with_reducible exact id
    | with_reducible exact Nat.le_refl _
    | split
    | dsimp only
    | with_reducible apply upd
    | exact trivial
    | rfl
    | exact id
    | exact Nat.le_refl _
    | intro _

theorem clockCell (h : Kept u s) {a1 a2 a3} : Kept u (@Sys2Proof.Machine.State.clockCell s a1 a2 a3) := by
  dsimp only [Sys2Proof.Machine.State.clockCell]
  repeat' first
    | with_reducible assumption
    | with_reducible apply setB
    | with_reducible apply foldl
    | with_reducible apply forRange
    | with_reducible rfl
    | with_reducible exact id
    | with_reducible exact Nat.le_refl _
    | split
    | dsimp only
    | with_reducible apply upd
    | exact trivial
    | rfl
    | exact id
    | exact Nat.le_refl _
    | intro _

theorem evalCells (h : Kept u s) {a1 a2} : Kept u (@Sys2Proof.Machine.State.evalCells s a1 a2).1 := by
  dsimp only [Sys2Proof.Machine.State.evalCells]
  repeat' first
    | with_reducible assumption
    | with_reducible apply clockCell
    | with_reducible apply foldl
    | with_reducible apply forRange
    | with_reducible rfl
    | with_reducible exact id
    | with_reducible exact Nat.le_refl _
    | split
    | dsimp only
    | with_reducible apply upd
    | exact trivial
    | rfl
    | exact id
    | exact Nat.le_refl _
    | intro _

theorem latchBackup (h : Kept u s) {a1} : Kept u (@Sys2Proof.Machine.State.latchBackup s a1) := by
  dsimp only [Sys2Proof.Machine.State.latchBackup]
  repeat' first
    | with_reducible assumption
    | with_reducible apply foldl
    | with_reducible apply forRange
    | with_reducible rfl
    | with_reducible exact id
    | with_reducible exact Nat.le_refl _
    | split
    | dsimp only
    | with_reducible apply upd
    | exact trivial
    | rfl
    | exact id
    | exact Nat.le_refl _
    | intro _

theorem noteSampled (h : Kept u s) {a1} : Kept u (@Sys2Proof.Machine.State.noteSampled s a1) := by
  dsimp only [Sys2Proof.Machine.State.noteSampled]
  repeat' first
    | with_reducible assumption
    | with_reducible apply foldl
    | with_reducible apply forRange
    | with_reducible rfl
    | with_reducible exact id
    | with_reducible exact Nat.le_refl _
    | split
    | dsimp only
    | with_reducible apply upd
    | exact trivial
    | rfl
    | exact id
    | exact Nat.le_refl _
    | intro _

theorem evalBackup (h : Kept u s) : Kept u (@Sys2Proof.Machine.State.evalBackup s) := by
  dsimp only [Sys2Proof.Machine.State.evalBackup]
  repeat' first
    | with_reducible assumption
    | with_reducible apply noteSampled
    | with_reducible apply evalCells
    | with_reducible apply wake
    | with_reducible apply setB
    | with_reducible apply foldl
    | with_reducible apply forRange
    | (with_reducible apply fst_of; with_reducible assumption)
    | with_reducible rfl
    | with_reducible exact id
    | with_reducible exact Nat.le_refl _
    | split
    | dsimp only
    | with_reducible apply upd
    | exact trivial
    | rfl
    | exact id
    | exact Nat.le_refl _
    | intro _

theorem fabricCycle (h : Kept u s) : Kept u (@Sys2Proof.Machine.State.fabricCycle s) := by
  dsimp only [Sys2Proof.Machine.State.fabricCycle]
  repeat' first
    | with_reducible assumption
    | with_reducible apply evalCells
    | with_reducible apply latchBackup
    | with_reducible apply fireChannel
    | with_reducible apply advanceDeliveries
    | with_reducible apply foldl
    | with_reducible apply forRange
    | (with_reducible apply fst_of; with_reducible assumption)
    | with_reducible rfl
    | with_reducible exact id
    | with_reducible exact Nat.le_refl _
    | split
    | dsimp only
    | with_reducible apply upd
    | exact trivial
    | rfl
    | exact id
    | exact Nat.le_refl _
    | intro _

theorem execFabFire (h : Kept u s) {a0} : out u (@Sys2Proof.Machine.execFabFire a0 s) := by
  dsimp only [Sys2Proof.Machine.execFabFire]
  repeat' first
    | with_reducible assumption
    | with_reducible apply fireChannel
    | with_reducible apply foldl
    | with_reducible apply forRange
    | with_reducible apply out_next
    | with_reducible rfl
    | with_reducible exact id
    | with_reducible exact Nat.le_refl _
    | split
    | dsimp only
    | with_reducible apply upd
    | exact trivial
    | rfl
    | exact id
    | exact Nat.le_refl _
    | intro _

theorem execFabSwev (h : Kept u s) {a0} : out u (@Sys2Proof.Machine.execFabSwev a0 s) := by
  dsimp only [Sys2Proof.Machine.execFabSwev]
  repeat' first
    | with_reducible assumption
    | with_reducible apply eventIf
    | with_reducible apply foldl
    | with_reducible apply forRange
    | with_reducible apply out_next
    | with_reducible rfl
    | with_reducible exact id
    | with_reducible exact Nat.le_refl _
    | split
    | dsimp only
    | with_reducible apply upd
    | exact trivial
    | rfl
    | exact id
    | exact Nat.le_refl _
    | intro _

theorem sealedWrite (h : Kept u s) {a1} : Kept u (@Sys2Proof.Machine.State.sealedWrite s a1) := by
  dsimp only [Sys2Proof.Machine.State.sealedWrite]
  repeat' first
    | with_reducible assumption
    | with_reducible apply slip
    | with_reducible apply satAdd
    | with_reducible apply foldl
    | with_reducible apply forRange
    | with_reducible rfl
    | with_reducible exact id
    | with_reducible exact Nat.le_refl _
    | split
    | dsimp only
    | with_reducible apply upd
    | exact trivial
    | rfl
    | exact id
    | exact Nat.le_refl _
    | intro _

theorem setHeld (h : Kept u s) {a1 a2} : Kept u (@Sys2Proof.Machine.State.setHeld s a1 a2) := by
  dsimp only [Sys2Proof.Machine.State.setHeld]
  repeat' first
    | with_reducible assumption
    | with_reducible apply foldl
    | with_reducible apply forRange
    | with_reducible rfl
    | with_reducible exact id
    | with_reducible exact Nat.le_refl _
    | split
    | dsimp only
    | with_reducible apply upd
    | exact trivial
    | rfl
    | exact id
    | exact Nat.le_refl _
    | intro _

theorem execFabTaskWrite (h : Kept u s) {a0 a1 a2} : out u (@Sys2Proof.Machine.execFabTaskWrite a0 a1 a2 s) := by
  dsimp only [Sys2Proof.Machine.execFabTaskWrite]
  repeat' first
    | with_reducible assumption
    | with_reducible apply sealedWrite
    | with_reducible apply satAdd
    | with_reducible apply setHeld
    | with_reducible apply foldl
    | with_reducible apply forRange
    | with_reducible apply out_next
    | with_reducible rfl
    | with_reducible exact id
    | with_reducible exact Nat.le_refl _
    | split
    | dsimp only
    | with_reducible apply upd
    | exact trivial
    | rfl
    | exact id
    | exact Nat.le_refl _
    | intro _

theorem execFabCfgWrite (h : Kept u s) {a0 a1} : out u (@Sys2Proof.Machine.execFabCfgWrite a0 a1 s) := by
  dsimp only [Sys2Proof.Machine.execFabCfgWrite]
  repeat' first
    | with_reducible assumption
    | with_reducible apply keepRoute
    | with_reducible apply sealedWrite
    | with_reducible apply setHeld
    | with_reducible apply satAdd
    | with_reducible apply wrF
    | with_reducible apply wr
    | with_reducible apply foldl
    | with_reducible apply forRange
    | with_reducible apply out_next
    | with_reducible rfl
    | with_reducible exact id
    | with_reducible exact Nat.le_refl _
    | split
    | dsimp only
    | with_reducible apply upd
    | exact trivial
    | rfl
    | exact id
    | exact Nat.le_refl _
    | intro _

theorem execBackupCellRise (h : Kept u s) : out u (@Sys2Proof.Machine.execBackupCellRise s) := by
  dsimp only [Sys2Proof.Machine.execBackupCellRise]
  repeat' first
    | with_reducible assumption
    | with_reducible apply evalBackup
    | with_reducible apply foldl
    | with_reducible apply forRange
    | with_reducible apply out_next
    | with_reducible rfl
    | with_reducible exact id
    | with_reducible exact Nat.le_refl _
    | split
    | dsimp only
    | with_reducible apply upd
    | exact trivial
    | rfl
    | exact id
    | exact Nat.le_refl _
    | intro _

theorem readClaim (h : Kept u s) {a1} : Kept u (@Sys2Proof.Machine.State.readClaim s a1).2 := by
  dsimp only [Sys2Proof.Machine.State.readClaim]
  repeat' first
    | with_reducible assumption
    | with_reducible apply undoOverrun
    | with_reducible apply setB
    | with_reducible apply foldl
    | with_reducible apply forRange
    | with_reducible rfl
    | with_reducible exact id
    | with_reducible exact Nat.le_refl _
    | split
    | dsimp only
    | with_reducible apply upd
    | exact trivial
    | rfl
    | exact id
    | exact Nat.le_refl _
    | intro _

theorem execIntcClaim (h : Kept u s) {a0} : out u (@Sys2Proof.Machine.execIntcClaim a0 s) := by
  dsimp only [Sys2Proof.Machine.execIntcClaim]
  repeat' first
    | with_reducible assumption
    | with_reducible apply answerError
    | with_reducible apply readClaim
    | with_reducible apply answer
    | with_reducible apply foldl
    | with_reducible apply forRange
    | with_reducible apply out_next
    | (with_reducible apply snd_of; with_reducible assumption)
    | with_reducible rfl
    | with_reducible exact id
    | with_reducible exact Nat.le_refl _
    | split
    | dsimp only
    | with_reducible apply upd
    | exact trivial
    | rfl
    | exact id
    | exact Nat.le_refl _
    | intro _

theorem setEntry (h : Kept u s) {a1 a2} : Kept u (@Sys2Proof.Machine.State.setEntry s a1 a2) := by
  dsimp only [Sys2Proof.Machine.State.setEntry]
  repeat' first
    | with_reducible assumption
    | with_reducible apply foldl
    | with_reducible apply forRange
    | with_reducible rfl
    | with_reducible exact id
    | with_reducible exact Nat.le_refl _
    | split
    | dsimp only
    | with_reducible apply upd
    | exact trivial
    | rfl
    | exact id
    | exact Nat.le_refl _
    | intro _

theorem fireEntry (h : Kept u s) {a1 a2} : Kept u (@Sys2Proof.Machine.State.fireEntry s a1 a2) := by
  dsimp only [Sys2Proof.Machine.State.fireEntry]
  repeat' first
    | with_reducible assumption
    | with_reducible apply setB
    | with_reducible apply fireChannel
    | with_reducible apply eventIf
    | with_reducible apply satAdd
    | with_reducible apply setEntry
    | with_reducible apply foldl
    | with_reducible apply forRange
    | with_reducible rfl
    | with_reducible exact id
    | with_reducible exact Nat.le_refl _
    | split
    | dsimp only
    | with_reducible apply upd
    | exact trivial
    | rfl
    | exact id
    | exact Nat.le_refl _
    | intro _

theorem execActionFire (h : Kept u s) : out u (@Sys2Proof.Machine.execActionFire s) := by
  dsimp only [Sys2Proof.Machine.execActionFire]
  repeat' first
    | with_reducible assumption
    | with_reducible apply fireEntry
    | with_reducible apply foldl
    | with_reducible apply forRange
    | with_reducible apply out_next
    | with_reducible rfl
    | with_reducible exact id
    | with_reducible exact Nat.le_refl _
    | split
    | dsimp only
    | with_reducible apply upd
    | exact trivial
    | rfl
    | exact id
    | exact Nat.le_refl _
    | intro _

theorem execActionCatchUp (h : Kept u s) : out u (@Sys2Proof.Machine.execActionCatchUp s) := by
  dsimp only [Sys2Proof.Machine.execActionCatchUp]
  repeat' first
    | with_reducible assumption
    | with_reducible apply fireEntry
    | with_reducible apply foldl
    | with_reducible apply forRange
    | with_reducible apply out_next
    | with_reducible rfl
    | with_reducible exact id
    | with_reducible exact Nat.le_refl _
    | split
    | dsimp only
    | with_reducible apply upd
    | exact trivial
    | rfl
    | exact id
    | exact Nat.le_refl _
    | intro _

theorem actResult (h : Kept u s) {a1 a2 a3 a4} : Kept u (@Sys2Proof.Machine.State.actResult s a1 a2 a3 a4) := by
  dsimp only [Sys2Proof.Machine.State.actResult]
  repeat' first
    | with_reducible assumption
    | with_reducible apply wr
    | with_reducible apply foldl
    | with_reducible apply forRange
    | with_reducible rfl
    | with_reducible exact id
    | with_reducible exact Nat.le_refl _
    | split
    | dsimp only
    | with_reducible apply upd
    | exact trivial
    | rfl
    | exact id
    | exact Nat.le_refl _
    | intro _

theorem markArm (h : Kept u s) {a1 a2 a3} : Kept u (@Sys2Proof.Machine.State.markArm s a1 a2 a3) := by
  dsimp only [Sys2Proof.Machine.State.markArm]
  repeat' first
    | with_reducible assumption
    | with_reducible apply foldl
    | with_reducible apply forRange
    | with_reducible rfl
    | with_reducible exact id
    | with_reducible exact Nat.le_refl _
    | split
    | dsimp only
    | with_reducible apply upd
    | exact trivial
    | rfl
    | exact id
    | exact Nat.le_refl _
    | intro _

theorem markCancel (h : Kept u s) {a1 a2} : Kept u (@Sys2Proof.Machine.State.markCancel s a1 a2) := by
  dsimp only [Sys2Proof.Machine.State.markCancel]
  repeat' first
    | with_reducible assumption
    | with_reducible apply foldl
    | with_reducible apply forRange
    | with_reducible rfl
    | with_reducible exact id
    | with_reducible exact Nat.le_refl _
    | split
    | dsimp only
    | with_reducible apply upd
    | exact trivial
    | rfl
    | exact id
    | exact Nat.le_refl _
    | intro _

theorem withdraw (h : Kept u s) {a1} : Kept u (@Sys2Proof.Machine.State.withdraw s a1) := by
  dsimp only [Sys2Proof.Machine.State.withdraw]
  repeat' first
    | with_reducible assumption
    | with_reducible apply setEntry
    | with_reducible apply satAdd
    | with_reducible apply foldl
    | with_reducible apply forRange
    | with_reducible rfl
    | with_reducible exact id
    | with_reducible exact Nat.le_refl _
    | split
    | dsimp only
    | with_reducible apply upd
    | exact trivial
    | rfl
    | exact id
    | exact Nat.le_refl _
    | intro _

theorem execActionEntryWrite (h : Kept u s) {a1 a2 a3 a4} : out u (@Sys2Proof.Machine.execActionEntryWrite a1 a2 a3 a4 s) := by
  dsimp only [Sys2Proof.Machine.execActionEntryWrite]
  repeat' first
    | with_reducible assumption
    | with_reducible apply answerError
    | with_reducible apply setEntry
    | with_reducible apply satAdd
    | with_reducible apply foldl
    | with_reducible apply forRange
    | with_reducible apply out_next
    | with_reducible rfl
    | with_reducible exact id
    | with_reducible exact Nat.le_refl _
    | split
    | dsimp only
    | with_reducible apply upd
    | exact trivial
    | rfl
    | exact id
    | exact Nat.le_refl _
    | intro _

theorem armCancelled (h : Kept u s) {a1 a2} : Kept u (@Sys2Proof.Machine.State.armCancelled s a1 a2) := by
  dsimp only [Sys2Proof.Machine.State.armCancelled]
  repeat' first
    | with_reducible assumption
    | with_reducible apply withdraw
    | with_reducible apply actResult
    | with_reducible apply foldl
    | with_reducible apply forRange
    | with_reducible rfl
    | with_reducible exact id
    | with_reducible exact Nat.le_refl _
    | split
    | dsimp only
    | with_reducible apply upd
    | exact trivial
    | rfl
    | exact id
    | exact Nat.le_refl _
    | intro _

theorem armEntry (h : Kept u s) {a1 a2} : Kept u (@Sys2Proof.Machine.State.armEntry s a1 a2) := by
  dsimp only [Sys2Proof.Machine.State.armEntry]
  repeat' first
    | with_reducible assumption
    | with_reducible apply setEntry
    | with_reducible apply foldl
    | with_reducible apply forRange
    | with_reducible rfl
    | with_reducible exact id
    | with_reducible exact Nat.le_refl _
    | split
    | dsimp only
    | with_reducible apply upd
    | exact trivial
    | rfl
    | exact id
    | exact Nat.le_refl _
    | intro _

theorem execActArm (h : Kept u s) {a0 a1} : out u (@Sys2Proof.Machine.execActArm a0 a1 s) := by
  dsimp only [Sys2Proof.Machine.execActArm]
  repeat' first
    | with_reducible assumption
    | with_reducible apply armCancelled
    | with_reducible apply armEntry
    | with_reducible apply markArm
    | with_reducible apply answerError
    | with_reducible apply actResult
    | with_reducible apply setEntry
    | with_reducible apply foldl
    | with_reducible apply forRange
    | with_reducible apply out_next
    | with_reducible rfl
    | with_reducible exact id
    | with_reducible exact Nat.le_refl _
    | split
    | dsimp only
    | with_reducible apply upd
    | exact trivial
    | rfl
    | exact id
    | exact Nat.le_refl _
    | intro _

theorem execActCancel (h : Kept u s) {a0 a1} : out u (@Sys2Proof.Machine.execActCancel a0 a1 s) := by
  dsimp only [Sys2Proof.Machine.execActCancel]
  repeat' first
    | with_reducible assumption
    | with_reducible apply withdraw
    | with_reducible apply markCancel
    | with_reducible apply answerError
    | with_reducible apply fireEntry
    | with_reducible apply actResult
    | with_reducible apply satAdd
    | with_reducible apply setEntry
    | with_reducible apply foldl
    | with_reducible apply forRange
    | with_reducible apply out_next
    | with_reducible rfl
    | with_reducible exact id
    | with_reducible exact Nat.le_refl _
    | split
    | dsimp only
    | with_reducible apply upd
    | exact trivial
    | rfl
    | exact id
    | exact Nat.le_refl _
    | intro _

theorem execActRelease (h : Kept u s) {a0 a1} : out u (@Sys2Proof.Machine.execActRelease a0 a1 s) := by
  dsimp only [Sys2Proof.Machine.execActRelease]
  repeat' first
    | with_reducible assumption
    | with_reducible apply answerError
    | with_reducible apply actResult
    | with_reducible apply setEntry
    | with_reducible apply foldl
    | with_reducible apply forRange
    | with_reducible apply out_next
    | with_reducible rfl
    | with_reducible exact id
    | with_reducible exact Nat.le_refl _
    | split
    | dsimp only
    | with_reducible apply upd
    | exact trivial
    | rfl
    | exact id
    | exact Nat.le_refl _
    | intro _

theorem execActTmpl (h : Kept u s) {a0 a1} : out u (@Sys2Proof.Machine.execActTmpl a0 a1 s) := by
  dsimp only [Sys2Proof.Machine.execActTmpl]
  repeat' first
    | with_reducible assumption
    | with_reducible apply armEntry
    | with_reducible apply armCancelled
    | with_reducible apply markArm
    | with_reducible apply answerError
    | with_reducible apply actResult
    | with_reducible apply setEntry
    | with_reducible apply foldl
    | with_reducible apply forRange
    | with_reducible apply out_next
    | with_reducible rfl
    | with_reducible exact id
    | with_reducible exact Nat.le_refl _
    | split
    | dsimp only
    | with_reducible apply upd
    | exact trivial
    | rfl
    | exact id
    | exact Nat.le_refl _
    | intro _

theorem skipActions (h : Kept u s) {a1} : Kept u (@Sys2Proof.Machine.State.skipActions s a1) := by
  dsimp only [Sys2Proof.Machine.State.skipActions]
  repeat' first
    | with_reducible assumption
    | with_reducible apply foldl
    | with_reducible apply forRange
    | with_reducible rfl
    | with_reducible exact id
    | with_reducible exact Nat.le_refl _
    | split
    | dsimp only
    | with_reducible apply upd
    | exact trivial
    | rfl
    | exact id
    | exact Nat.le_refl _
    | intro _

theorem selectSysclk (h : Kept u s) : Kept u (@Sys2Proof.Machine.State.selectSysclk s) := by
  dsimp only [Sys2Proof.Machine.State.selectSysclk]
  repeat' first
    | with_reducible assumption
    | with_reducible apply setB
    | with_reducible apply foldl
    | with_reducible apply forRange
    | with_reducible rfl
    | with_reducible exact id
    | with_reducible exact Nat.le_refl _
    | split
    | dsimp only
    | with_reducible apply upd
    | exact trivial
    | rfl
    | exact id
    | exact Nat.le_refl _
    | intro _

theorem execClkCtrlWrite (h : Kept u s) {a0} : out u (@Sys2Proof.Machine.execClkCtrlWrite a0 s) := by
  dsimp only [Sys2Proof.Machine.execClkCtrlWrite]
  repeat' first
    | with_reducible assumption
    | with_reducible apply selectSysclk
    | with_reducible apply wrF
    | with_reducible apply foldl
    | with_reducible apply forRange
    | with_reducible apply out_next
    | with_reducible rfl
    | with_reducible exact id
    | with_reducible exact Nat.le_refl _
    | split
    | dsimp only
    | with_reducible apply upd
    | exact trivial
    | rfl
    | exact id
    | exact Nat.le_refl _
    | intro _

theorem execCorePllLock (h : Kept u s) : out u (@Sys2Proof.Machine.execCorePllLock s) := by
  dsimp only [Sys2Proof.Machine.execCorePllLock]
  repeat' first
    | with_reducible assumption
    | with_reducible apply selectSysclk
    | with_reducible apply setB
    | with_reducible apply foldl
    | with_reducible apply forRange
    | with_reducible apply out_next
    | with_reducible rfl
    | with_reducible exact id
    | with_reducible exact Nat.le_refl _
    | split
    | dsimp only
    | with_reducible apply upd
    | exact trivial
    | rfl
    | exact id
    | exact Nat.le_refl _
    | intro _

theorem execCorePllLockLoss (h : Kept u s) : out u (@Sys2Proof.Machine.execCorePllLockLoss s) := by
  dsimp only [Sys2Proof.Machine.execCorePllLockLoss]
  repeat' first
    | with_reducible assumption
    | with_reducible apply slip
    | with_reducible apply event
    | with_reducible apply satAdd
    | with_reducible apply wrF
    | with_reducible apply foldl
    | with_reducible apply forRange
    | with_reducible apply out_next
    | with_reducible rfl
    | with_reducible exact id
    | with_reducible exact Nat.le_refl _
    | split
    | dsimp only
    | with_reducible apply upd
    | exact trivial
    | rfl
    | exact id
    | exact Nat.le_refl _
    | intro _

theorem execSlowFail (h : Kept u s) : out u (@Sys2Proof.Machine.execSlowFail s) := by
  dsimp only [Sys2Proof.Machine.execSlowFail]
  repeat' first
    | with_reducible assumption
    | with_reducible apply event
    | with_reducible apply setB
    | with_reducible apply foldl
    | with_reducible apply forRange
    | with_reducible apply out_next
    | with_reducible rfl
    | with_reducible exact id
    | with_reducible exact Nat.le_refl _
    | split
    | dsimp only
    | with_reducible apply upd
    | exact trivial
    | rfl
    | exact id
    | exact Nat.le_refl _
    | intro _

theorem execTickMonitorExpiry (h : Kept u s) : out u (@Sys2Proof.Machine.execTickMonitorExpiry s) := by
  dsimp only [Sys2Proof.Machine.execTickMonitorExpiry]
  repeat' first
    | with_reducible assumption
    | with_reducible apply foldl
    | with_reducible apply forRange
    | with_reducible apply out_next
    | with_reducible rfl
    | with_reducible exact id
    | with_reducible exact Nat.le_refl _
    | split
    | dsimp only
    | with_reducible apply upd
    | exact trivial
    | rfl
    | exact id
    | exact Nat.le_refl _
    | intro _

theorem execSleepMeasurementDone (h : Kept u s) {a0} : out u (@Sys2Proof.Machine.execSleepMeasurementDone a0 s) := by
  dsimp only [Sys2Proof.Machine.execSleepMeasurementDone]
  repeat' first
    | with_reducible assumption
    | with_reducible apply setB
    | with_reducible apply wrF
    | with_reducible apply foldl
    | with_reducible apply forRange
    | with_reducible apply out_next
    | with_reducible rfl
    | with_reducible exact id
    | with_reducible exact Nat.le_refl _
    | split
    | dsimp only
    | with_reducible apply upd
    | exact trivial
    | rfl
    | exact id
    | exact Nat.le_refl _
    | intro _

theorem synthFollow (h : Kept u s) : Kept u (@Sys2Proof.Machine.State.synthFollow s) := by
  dsimp only [Sys2Proof.Machine.State.synthFollow]
  repeat' first
    | with_reducible assumption
    | with_reducible apply wrF
    | with_reducible apply foldl
    | with_reducible apply forRange
    | with_reducible rfl
    | with_reducible exact id
    | with_reducible exact Nat.le_refl _
    | split
    | dsimp only
    | with_reducible apply upd
    | exact trivial
    | rfl
    | exact id
    | exact Nat.le_refl _
    | intro _

theorem setRate (h : Kept u s) {a1} : Kept u (@Sys2Proof.Machine.State.setRate s a1) := by
  dsimp only [Sys2Proof.Machine.State.setRate]
  repeat' first
    | with_reducible assumption
    | with_reducible apply wrF
    | with_reducible apply synthFollow
    | with_reducible apply foldl
    | with_reducible apply forRange
    | with_reducible rfl
    | with_reducible exact id
    | with_reducible exact Nat.le_refl _
    | split
    | dsimp only
    | with_reducible apply upd
    | exact trivial
    | rfl
    | exact id
    | exact Nat.le_refl _
    | intro _

theorem execChronRateWrite (h : Kept u s) {a0} : out u (@Sys2Proof.Machine.execChronRateWrite a0 s) := by
  dsimp only [Sys2Proof.Machine.execChronRateWrite]
  repeat' first
    | with_reducible assumption
    | with_reducible apply setRate
    | with_reducible apply foldl
    | with_reducible apply forRange
    | with_reducible apply out_next
    | with_reducible rfl
    | with_reducible exact id
    | with_reducible exact Nat.le_refl _
    | split
    | dsimp only
    | with_reducible apply upd
    | exact trivial
    | rfl
    | exact id
    | exact Nat.le_refl _
    | intro _

theorem accTick (h : Kept u s) : Kept u (@Sys2Proof.Machine.State.accTick s) := by
  dsimp only [Sys2Proof.Machine.State.accTick]
  repeat' first
    | with_reducible assumption
    | with_reducible apply foldl
    | with_reducible apply forRange
    | with_reducible rfl
    | with_reducible exact id
    | with_reducible exact Nat.le_refl _
    | split
    | dsimp only
    | with_reducible apply upd
    | exact trivial
    | rfl
    | exact id
    | exact Nat.le_refl _
    | intro _

theorem advance (h : Kept u s) {a1} : Kept u (@Sys2Proof.Machine.State.advance s a1) := by
  dsimp only [Sys2Proof.Machine.State.advance]
  repeat' first
    | with_reducible assumption
    | with_reducible apply accTick
    | with_reducible apply foldl
    | with_reducible apply forRange
    | with_reducible rfl
    | with_reducible exact id
    | with_reducible exact Nat.le_refl _
    | split
    | dsimp only
    | with_reducible apply upd
    | exact trivial
    | rfl
    | exact id
    | exact Nat.le_refl _
    | intro _

theorem trim (h : Kept u s) : Kept u (@Sys2Proof.Machine.State.trim s) := by
  dsimp only [Sys2Proof.Machine.State.trim]
  repeat' first
    | with_reducible assumption
    | with_reducible apply advance
    | with_reducible apply foldl
    | with_reducible apply forRange
    | with_reducible rfl
    | with_reducible exact id
    | with_reducible exact Nat.le_refl _
    | split
    | dsimp only
    | with_reducible apply upd
    | exact trivial
    | rfl
    | exact id
    | exact Nat.le_refl _
    | intro _

theorem execChronicleTrimStep (h : Kept u s) : out u (@Sys2Proof.Machine.execChronicleTrimStep s) := by
  dsimp only [Sys2Proof.Machine.execChronicleTrimStep]
  repeat' first
    | with_reducible assumption
    | with_reducible apply trim
    | with_reducible apply foldl
    | with_reducible apply forRange
    | with_reducible apply out_next
    | with_reducible rfl
    | with_reducible exact id
    | with_reducible exact Nat.le_refl _
    | split
    | dsimp only
    | with_reducible apply upd
    | exact trivial
    | rfl
    | exact id
    | exact Nat.le_refl _
    | intro _

theorem chronFlag (h : Kept u s) {a1} : Kept u (@Sys2Proof.Machine.State.chronFlag s a1) := by
  dsimp only [Sys2Proof.Machine.State.chronFlag]
  repeat' first
    | with_reducible assumption
    | with_reducible apply eventIf
    | with_reducible apply setB
    | with_reducible apply foldl
    | with_reducible apply forRange
    | with_reducible rfl
    | with_reducible exact id
    | with_reducible exact Nat.le_refl _
    | split
    | dsimp only
    | with_reducible apply upd
    | exact trivial
    | rfl
    | exact id
    | exact Nat.le_refl _
    | intro _

theorem rateUpdate (h : Kept u s) {a1 a2} : Kept u (@Sys2Proof.Machine.State.rateUpdate s a1 a2) := by
  dsimp only [Sys2Proof.Machine.State.rateUpdate]
  repeat' first
    | with_reducible assumption
    | with_reducible apply wrF
    | with_reducible apply setRate
    | with_reducible apply foldl
    | with_reducible apply forRange
    | with_reducible rfl
    | with_reducible exact id
    | with_reducible exact Nat.le_refl _
    | split
    | dsimp only
    | with_reducible apply upd
    | exact trivial
    | rfl
    | exact id
    | exact Nat.le_refl _
    | intro _

theorem captureRegs (h : Kept u s) {a1 a2 a3} : Kept u (@Sys2Proof.Machine.State.captureRegs s a1 a2 a3) := by
  dsimp only [Sys2Proof.Machine.State.captureRegs]
  repeat' first
    | with_reducible assumption
    | with_reducible apply wrF
    | with_reducible apply wr
    | with_reducible apply wrInstant
    | with_reducible apply foldl
    | with_reducible apply forRange
    | with_reducible rfl
    | with_reducible exact id
    | with_reducible exact Nat.le_refl _
    | split
    | dsimp only
    | with_reducible apply upd
    | exact trivial
    | rfl
    | exact id
    | exact Nat.le_refl _
    | intro _

theorem discipline (h : Kept u s) {a1} : Kept u (@Sys2Proof.Machine.State.discipline s a1) := by
  dsimp only [Sys2Proof.Machine.State.discipline]
  repeat' first
    | with_reducible assumption
    | with_reducible apply chronFlag
    | with_reducible apply setB
    | with_reducible apply wrF
    | with_reducible apply foldl
    | with_reducible apply forRange
    | with_reducible rfl
    | with_reducible exact id
    | with_reducible exact Nat.le_refl _
    | split
    | dsimp only
    | with_reducible apply upd
    | exact trivial
    | rfl
    | exact id
    | exact Nat.le_refl _
    | intro _

theorem captureBeacon (h : Kept u s) {a1 a2} : Kept u (@Sys2Proof.Machine.State.captureBeacon s a1 a2) := by
  dsimp only [Sys2Proof.Machine.State.captureBeacon]
  repeat' first
    | with_reducible assumption
    | with_reducible apply discipline
    | with_reducible apply chronFlag
    | with_reducible apply captureRegs
    | with_reducible apply rateUpdate
    | with_reducible apply foldl
    | with_reducible apply forRange
    | with_reducible rfl
    | with_reducible exact id
    | with_reducible exact Nat.le_refl _
    | split
    | dsimp only
    | with_reducible apply upd
    | exact trivial
    | rfl
    | exact id
    | exact Nat.le_refl _
    | intro _

theorem execChronResync (h : Kept u s) : out u (@Sys2Proof.Machine.execChronResync s) := by
  dsimp only [Sys2Proof.Machine.execChronResync]
  repeat' first
    | with_reducible assumption
    | with_reducible apply setB
    | with_reducible apply foldl
    | with_reducible apply forRange
    | with_reducible apply out_next
    | with_reducible rfl
    | with_reducible exact id
    | with_reducible exact Nat.le_refl _
    | split
    | dsimp only
    | with_reducible apply upd
    | exact trivial
    | rfl
    | exact id
    | exact Nat.le_refl _
    | intro _

end Sys2Proof.Machine.Kept
end

