-- ==== Sys2Proof/Laws/Kept/Dies.lean ====
section
/-! SUPPORT. What the operations of the store die, the resets, the fault collector, the front die and the queue engine keep: each keeps the queue, the variant, the canonical forms and the
fuses (Laws/Kept.lean), from any state that keeps them. -/

namespace Sys2Proof.Machine.Kept

variable {u s t : State}

theorem setFlash (h : Kept u s) {a1 a2 a3} : Kept u (@Sys2Proof.Machine.State.setFlash s a1 a2 a3) := by
  dsimp only [Sys2Proof.Machine.State.setFlash]
  repeat' first
    | with_reducible assumption
    | with_reducible apply foldl
    | with_reducible apply forRange
    | with_reducible rfl
    | with_reducible exact id
    | with_reducible exact Nat.le_refl _
    | split
    | dsimp only
    | with_reducible apply upd
    | exact trivial
    | rfl
    | exact id
    | exact Nat.le_refl _
    | intro _

theorem eraseFlash (h : Kept u s) {a1} : Kept u (@Sys2Proof.Machine.State.eraseFlash s a1) := by
  dsimp only [Sys2Proof.Machine.State.eraseFlash]
  repeat' first
    | with_reducible assumption
    | with_reducible apply foldl
    | with_reducible apply forRange
    | with_reducible rfl
    | with_reducible exact id
    | with_reducible exact Nat.le_refl _
    | split
    | dsimp only
    | with_reducible apply upd
    | exact trivial
    | rfl
    | exact id
    | exact Nat.le_refl _
    | intro _

theorem spoil (h : Kept u s) {a1 a2} : Kept u (@Sys2Proof.Machine.State.spoil s a1 a2) := by
  dsimp only [Sys2Proof.Machine.State.spoil]
  repeat' first
    | with_reducible assumption
    | with_reducible apply setFlash
    | with_reducible apply foldl
    | with_reducible apply forRange
    | with_reducible rfl
    | with_reducible exact id
    | with_reducible exact Nat.le_refl _
    | split
    | dsimp only
    | with_reducible apply upd
    | exact trivial
    | rfl
    | exact id
    | exact Nat.le_refl _
    | intro _

theorem progBytes (h : Kept u s) {a1 a2 a3} : Kept u (@Sys2Proof.Machine.State.progBytes s a1 a2 a3) := by
  dsimp only [Sys2Proof.Machine.State.progBytes]
  repeat' first
    | with_reducible assumption
    | with_reducible apply setFlash
    | with_reducible apply foldl
    | with_reducible apply forRange
    | with_reducible rfl
    | with_reducible exact id
    | with_reducible exact Nat.le_refl _
    | split
    | dsimp only
    | with_reducible apply upd
    | exact trivial
    | rfl
    | exact id
    | exact Nat.le_refl _
    | intro _

theorem writeSector (h : Kept u s) {a1 a2} : Kept u (@Sys2Proof.Machine.State.writeSector s a1 a2) := by
  dsimp only [Sys2Proof.Machine.State.writeSector]
  repeat' first
    | with_reducible assumption
    | with_reducible apply progBytes
    | with_reducible apply eraseFlash
    | with_reducible apply foldl
    | with_reducible apply forRange
    | with_reducible rfl
    | with_reducible exact id
    | with_reducible exact Nat.le_refl _
    | split
    | dsimp only
    | with_reducible apply upd
    | exact trivial
    | rfl
    | exact id
    | exact Nat.le_refl _
    | intro _

theorem putRecord (h : Kept u s) {a1 a2} : Kept u (@Sys2Proof.Machine.State.putRecord s a1 a2) := by
  dsimp only [Sys2Proof.Machine.State.putRecord]
  repeat' first
    | with_reducible assumption
    | with_reducible apply writeSector
    | with_reducible apply foldl
    | with_reducible apply forRange
    | with_reducible rfl
    | with_reducible exact id
    | with_reducible exact Nat.le_refl _
    | split
    | dsimp only
    | with_reducible apply upd
    | exact trivial
    | rfl
    | exact id
    | exact Nat.le_refl _
    | intro _

theorem putSlots (h : Kept u s) {a1} : Kept u (@Sys2Proof.Machine.State.putSlots s a1) := by
  dsimp only [Sys2Proof.Machine.State.putSlots]
  repeat' first
    | with_reducible assumption
    | with_reducible apply putRecord
    | with_reducible apply foldl
    | with_reducible apply forRange
    | with_reducible rfl
    | with_reducible exact id
    | with_reducible exact Nat.le_refl _
    | split
    | dsimp only
    | with_reducible apply upd
    | exact trivial
    | rfl
    | exact id
    | exact Nat.le_refl _
    | intro _

theorem tearSlots (h : Kept u s) : Kept u (@Sys2Proof.Machine.State.tearSlots s) := by
  dsimp only [Sys2Proof.Machine.State.tearSlots]
  repeat' first
    | with_reducible assumption
    | with_reducible apply eraseFlash
    | with_reducible apply foldl
    | with_reducible apply forRange
    | with_reducible rfl
    | with_reducible exact id
    | with_reducible exact Nat.le_refl _
    | split
    | dsimp only
    | with_reducible apply upd
    | exact trivial
    | rfl
    | exact id
    | exact Nat.le_refl _
    | intro _

theorem writeGrown (h : Kept u s) {a1 a2} : Kept u (@Sys2Proof.Machine.State.writeGrown s a1 a2) := by
  dsimp only [Sys2Proof.Machine.State.writeGrown]
  repeat' first
    | with_reducible assumption
    | with_reducible apply eraseFlash
    | with_reducible apply progBytes
    | with_reducible apply writeSector
    | with_reducible apply foldl
    | with_reducible apply forRange
    | with_reducible rfl
    | with_reducible exact id
    | with_reducible exact Nat.le_refl _
    | split
    | dsimp only
    | with_reducible apply upd
    | exact trivial
    | rfl
    | exact id
    | exact Nat.le_refl _
    | intro _

theorem markBad (h : Kept u s) {a1 a2} : Kept u (@Sys2Proof.Machine.State.markBad s a1 a2) := by
  dsimp only [Sys2Proof.Machine.State.markBad]
  repeat' first
    | with_reducible assumption
    | with_reducible apply writeGrown
    | with_reducible apply eventIf
    | with_reducible apply foldl
    | with_reducible apply forRange
    | with_reducible rfl
    | with_reducible exact id
    | with_reducible exact Nat.le_refl _
    | split
    | dsimp only
    | with_reducible apply upd
    | exact trivial
    | rfl
    | exact id
    | exact Nat.le_refl _
    | intro _

theorem loadMaps (h : Kept u s) : Kept u (@Sys2Proof.Machine.State.loadMaps s) := by
  dsimp only [Sys2Proof.Machine.State.loadMaps]
  repeat' first
    | with_reducible assumption
    | with_reducible apply setB
    | with_reducible apply foldl
    | with_reducible apply forRange
    | with_reducible rfl
    | with_reducible exact id
    | with_reducible exact Nat.le_refl _
    | split
    | dsimp only
    | with_reducible apply upd
    | exact trivial
    | rfl
    | exact id
    | exact Nat.le_refl _
    | intro _

theorem setOp (h : Kept u s) {a1} : Kept u (@Sys2Proof.Machine.State.setOp s a1) := by
  dsimp only [Sys2Proof.Machine.State.setOp]
  repeat' first
    | with_reducible assumption
    | with_reducible apply foldl
    | with_reducible apply forRange
    | with_reducible rfl
    | with_reducible exact id
    | with_reducible exact Nat.le_refl _
    | split
    | dsimp only
    | with_reducible apply upd
    | exact trivial
    | rfl
    | exact id
    | exact Nat.le_refl _
    | intro _

theorem dropOp (h : Kept u s) {a1} : Kept u (@Sys2Proof.Machine.State.dropOp s a1) := by
  dsimp only [Sys2Proof.Machine.State.dropOp]
  repeat' first
    | with_reducible assumption
    | with_reducible apply foldl
    | with_reducible apply forRange
    | with_reducible rfl
    | with_reducible exact id
    | with_reducible exact Nat.le_refl _
    | split
    | dsimp only
    | with_reducible apply upd
    | exact trivial
    | rfl
    | exact id
    | exact Nat.le_refl _
    | intro _

theorem spareEvent (h : Kept u s) {a1} (ha1 : Kept u a1) : Kept u (@Sys2Proof.Machine.State.spareEvent s a1) := by
  dsimp only [Sys2Proof.Machine.State.spareEvent]
  repeat' first
    | with_reducible assumption
    | with_reducible apply eventIf
    | with_reducible apply foldl
    | with_reducible apply forRange
    | with_reducible rfl
    | with_reducible exact id
    | with_reducible exact Nat.le_refl _
    | split
    | dsimp only
    | with_reducible apply upd
    | exact trivial
    | rfl
    | exact id
    | exact Nat.le_refl _
    | intro _

theorem storeSync (h : Kept u s) : Kept u (@Sys2Proof.Machine.State.storeSync s) := by
  dsimp only [Sys2Proof.Machine.State.storeSync]
  repeat' first
    | with_reducible assumption
    | with_reducible apply wr
    | with_reducible apply foldl
    | with_reducible apply forRange
    | with_reducible rfl
    | with_reducible exact id
    | with_reducible exact Nat.le_refl _
    | split
    | dsimp only
    | with_reducible apply upd
    | exact trivial
    | rfl
    | exact id
    | exact Nat.le_refl _
    | intro _

theorem psTouch (h : Kept u s) {a1} : Kept u (@Sys2Proof.Machine.State.psTouch s a1) := by
  dsimp only [Sys2Proof.Machine.State.psTouch]
  repeat' first
    | with_reducible assumption
    | with_reducible apply wrF
    | with_reducible apply foldl
    | with_reducible apply forRange
    | with_reducible rfl
    | with_reducible exact id
    | with_reducible exact Nat.le_refl _
    | split
    | dsimp only
    | with_reducible apply upd
    | exact trivial
    | rfl
    | exact id
    | exact Nat.le_refl _
    | intro _

theorem endCommand (h : Kept u s) {a1 a2 a3 a4} : Kept u (@Sys2Proof.Machine.State.endCommand s a1 a2 a3 a4) := by
  dsimp only [Sys2Proof.Machine.State.endCommand]
  repeat' first
    | with_reducible assumption
    | with_reducible apply setB
    | with_reducible apply wr
    | with_reducible apply openTaken
    | with_reducible apply event
    | with_reducible apply satAdd
    | with_reducible apply foldl
    | with_reducible apply forRange
    | with_reducible rfl
    | with_reducible exact id
    | with_reducible exact Nat.le_refl _
    | split
    | dsimp only
    | with_reducible apply upd
    | exact trivial
    | rfl
    | exact id
    | exact Nat.le_refl _
    | intro _

theorem endOp (h : Kept u s) {a1 a2 a3 a4} : Kept u (@Sys2Proof.Machine.State.endOp s a1 a2 a3 a4) := by
  dsimp only [Sys2Proof.Machine.State.endOp]
  repeat' first
    | with_reducible assumption
    | with_reducible apply endCommand
    | with_reducible apply psTouch
    | with_reducible apply dropOp
    | with_reducible apply foldl
    | with_reducible apply forRange
    | with_reducible rfl
    | with_reducible exact id
    | with_reducible exact Nat.le_refl _
    | split
    | dsimp only
    | with_reducible apply upd
    | exact trivial
    | rfl
    | exact id
    | exact Nat.le_refl _
    | intro _

theorem cutOp (h : Kept u s) {a1} : Kept u (@Sys2Proof.Machine.State.cutOp s a1) := by
  dsimp only [Sys2Proof.Machine.State.cutOp]
  repeat' first
    | with_reducible assumption
    | with_reducible apply spoil
    | with_reducible apply endOp
    | with_reducible apply foldl
    | with_reducible apply forRange
    | with_reducible rfl
    | with_reducible exact id
    | with_reducible exact Nat.le_refl _
    | split
    | dsimp only
    | with_reducible apply upd
    | exact trivial
    | rfl
    | exact id
    | exact Nat.le_refl _
    | intro _

theorem inhibitOp (h : Kept u s) {a1} : Kept u (@Sys2Proof.Machine.State.inhibitOp s a1) := by
  dsimp only [Sys2Proof.Machine.State.inhibitOp]
  repeat' first
    | with_reducible assumption
    | with_reducible apply setOp
    | with_reducible apply cutOp
    | with_reducible apply endOp
    | with_reducible apply foldl
    | with_reducible apply forRange
    | with_reducible rfl
    | with_reducible exact id
    | with_reducible exact Nat.le_refl _
    | split
    | dsimp only
    | with_reducible apply upd
    | exact trivial
    | rfl
    | exact id
    | exact Nat.le_refl _
    | intro _

theorem storeAbortAll (h : Kept u s) : Kept u (@Sys2Proof.Machine.State.storeAbortAll s) := by
  dsimp only [Sys2Proof.Machine.State.storeAbortAll]
  repeat' first
    | with_reducible assumption
    | with_reducible apply cutOp
    | with_reducible apply endOp
    | with_reducible apply endCommand
    | with_reducible apply storeSync
    | with_reducible apply foldl
    | with_reducible apply forRange
    | with_reducible rfl
    | with_reducible exact id
    | with_reducible exact Nat.le_refl _
    | split
    | dsimp only
    | with_reducible apply upd
    | exact trivial
    | rfl
    | exact id
    | exact Nat.le_refl _
    | intro _

theorem settleOp (h : Kept u s) {a1} : Kept u (@Sys2Proof.Machine.State.settleOp s a1).2 := by
  induction a1 generalizing s with
  | nil => exact h
  | cons x l ih =>
    unfold Sys2Proof.Machine.State.settleOp
    split
    · next e => cases e; exact ih h
    · next e => cases e; exact ih (writeGrown h)
    · exact h

theorem finishOp (h : Kept u s) {a1 a2} : Kept u (@Sys2Proof.Machine.State.finishOp s a1 a2) := by
  dsimp only [Sys2Proof.Machine.State.finishOp]
  repeat' first
    | with_reducible assumption
    | with_reducible apply event
    | with_reducible apply satAdd
    | with_reducible apply psTouch
    | with_reducible apply dropOp
    | with_reducible apply endCommand
    | with_reducible apply eventIf
    | with_reducible apply foldl
    | with_reducible apply forRange
    | with_reducible rfl
    | with_reducible exact id
    | with_reducible exact Nat.le_refl _
    | split
    | dsimp only
    | with_reducible apply upd
    | exact trivial
    | rfl
    | exact id
    | exact Nat.le_refl _
    | intro _

theorem startRefresh (h : Kept u s) {a1 a2 a3} : Kept u (@Sys2Proof.Machine.State.startRefresh s a1 a2 a3) := by
  dsimp only [Sys2Proof.Machine.State.startRefresh]
  repeat' first
    | with_reducible assumption
    | with_reducible apply psTouch
    | with_reducible apply spareEvent
    | with_reducible apply endCommand
    | with_reducible apply setB
    | with_reducible apply settleOp
    | with_reducible apply setOp
    | with_reducible apply foldl
    | with_reducible apply forRange
    | (with_reducible apply snd_of; with_reducible assumption)
    | with_reducible rfl
    | with_reducible exact id
    | with_reducible exact Nat.le_refl _
    | split
    | dsimp only
    | with_reducible apply upd
    | exact trivial
    | rfl
    | exact id
    | exact Nat.le_refl _
    | intro _

theorem moveSector (h : Kept u s) {a1 a2 a3} : Kept u (@Sys2Proof.Machine.State.moveSector s a1 a2 a3) := by
  dsimp only [Sys2Proof.Machine.State.moveSector]
  repeat' first
    | with_reducible assumption
    | with_reducible apply setFlash
    | with_reducible apply eraseFlash
    | with_reducible apply foldl
    | with_reducible apply forRange
    | with_reducible rfl
    | with_reducible exact id
    | with_reducible exact Nat.le_refl _
    | split
    | dsimp only
    | with_reducible apply upd
    | exact trivial
    | rfl
    | exact id
    | exact Nat.le_refl _
    | intro _

theorem remap (h : Kept u s) {a1 a2 a3 a4} : Kept u (@Sys2Proof.Machine.State.remap s a1 a2 a3 a4) := by
  dsimp only [Sys2Proof.Machine.State.remap]
  repeat' first
    | with_reducible assumption
    | with_reducible apply spareEvent
    | with_reducible apply dropOp
    | with_reducible apply spoil
    | with_reducible apply endOp
    | with_reducible apply markBad
    | with_reducible apply eraseFlash
    | with_reducible apply moveSector
    | with_reducible apply satAdd
    | with_reducible apply finishOp
    | with_reducible apply event
    | with_reducible apply foldl
    | with_reducible apply forRange
    | with_reducible rfl
    | with_reducible exact id
    | with_reducible exact Nat.le_refl _
    | split
    | dsimp only
    | with_reducible apply upd
    | exact trivial
    | rfl
    | exact id
    | exact Nat.le_refl _
    | intro _

theorem refreshFail (h : Kept u s) {a1 a2} : Kept u (@Sys2Proof.Machine.State.refreshFail s a1 a2) := by
  dsimp only [Sys2Proof.Machine.State.refreshFail]
  repeat' first
    | with_reducible assumption
    | with_reducible apply spareEvent
    | with_reducible apply dropOp
    | with_reducible apply endOp
    | with_reducible apply markBad
    | with_reducible apply spoil
    | with_reducible apply finishOp
    | with_reducible apply startRefresh
    | with_reducible apply foldl
    | with_reducible apply forRange
    | with_reducible rfl
    | with_reducible exact id
    | with_reducible exact Nat.le_refl _
    | split
    | dsimp only
    | with_reducible apply upd
    | exact trivial
    | rfl
    | exact id
    | exact Nat.le_refl _
    | intro _

theorem uncorrectable (h : Kept u s) {a1} : Kept u (@Sys2Proof.Machine.State.uncorrectable s a1) := by
  dsimp only [Sys2Proof.Machine.State.uncorrectable]
  repeat' first
    | with_reducible assumption
    | with_reducible apply slip
    | with_reducible apply wr
    | with_reducible apply satAdd
    | with_reducible apply foldl
    | with_reducible apply forRange
    | with_reducible rfl
    | with_reducible exact id
    | with_reducible exact Nat.le_refl _
    | split
    | dsimp only
    | with_reducible apply upd
    | exact trivial
    | rfl
    | exact id
    | exact Nat.le_refl _
    | intro _

theorem noteRead (h : Kept u s) {a1 a2} : Kept u (@Sys2Proof.Machine.State.noteRead s a1 a2) := by
  dsimp only [Sys2Proof.Machine.State.noteRead]
  repeat' first
    | with_reducible assumption
    | with_reducible apply uncorrectable
    | with_reducible apply satAdd
    | with_reducible apply foldl
    | with_reducible apply forRange
    | with_reducible rfl
    | with_reducible exact id
    | with_reducible exact Nat.le_refl _
    | split
    | dsimp only
    | with_reducible apply upd
    | exact trivial
    | rfl
    | exact id
    | exact Nat.le_refl _
    | intro _

theorem readRun (h : Kept u s) {a1 a2} : rr u (@Sys2Proof.Machine.State.readRun s a1 a2) := by
  dsimp only [Sys2Proof.Machine.State.readRun]
  repeat' first
    | with_reducible assumption
    | with_reducible apply noteRead
    | with_reducible apply foldl
    | with_reducible apply forRange
    | with_reducible apply rr_ok
    | with_reducible apply rr_error
    | with_reducible rfl
    | with_reducible exact id
    | with_reducible exact Nat.le_refl _
    | split
    | dsimp only
    | with_reducible apply upd
    | exact trivial
    | rfl
    | exact id
    | exact Nat.le_refl _
    | intro _

theorem serveLine (h : Kept u s) {a1 a2} : Kept u (@Sys2Proof.Machine.State.serveLine s a1 a2).2.2 := by
  dsimp only [Sys2Proof.Machine.State.serveLine]
  repeat' first
    | with_reducible assumption
    | with_reducible apply satAdd
    | with_reducible apply uncorrectable
    | with_reducible apply foldl
    | with_reducible apply forRange
    | with_reducible rfl
    | with_reducible exact id
    | with_reducible exact Nat.le_refl _
    | split
    | dsimp only
    | with_reducible apply upd
    | exact trivial
    | rfl
    | exact id
    | exact Nat.le_refl _
    | intro _

theorem countServed (h : Kept u s) {a1} : Kept u (@Sys2Proof.Machine.State.countServed s a1) := by
  dsimp only [Sys2Proof.Machine.State.countServed]
  repeat' first
    | with_reducible assumption
    | with_reducible apply setOp
    | with_reducible apply foldl
    | with_reducible apply forRange
    | with_reducible rfl
    | with_reducible exact id
    | with_reducible exact Nat.le_refl _
    | split
    | dsimp only
    | with_reducible apply upd
    | exact trivial
    | rfl
    | exact id
    | exact Nat.le_refl _
    | intro _

theorem holdXip (h : Kept u s) {a1 a2} : Kept u (@Sys2Proof.Machine.State.holdXip s a1 a2) := by
  dsimp only [Sys2Proof.Machine.State.holdXip]
  repeat' first
    | with_reducible assumption
    | with_reducible apply foldl
    | with_reducible apply forRange
    | with_reducible rfl
    | with_reducible exact id
    | with_reducible exact Nat.le_refl _
    | split
    | dsimp only
    | with_reducible apply upd
    | exact trivial
    | rfl
    | exact id
    | exact Nat.le_refl _
    | intro _

theorem xipRead (h : Kept u s) {a1 a2} : Kept u (@Sys2Proof.Machine.State.xipRead s a1 a2).2 := by
  dsimp only [Sys2Proof.Machine.State.xipRead]
  repeat' first
    | with_reducible assumption
    | with_reducible apply holdXip
    | with_reducible apply countFull
    | with_reducible apply serveLine
    | with_reducible apply countServed
    | with_reducible apply dieNotReady
    | with_reducible apply foldl
    | with_reducible apply forRange
    | (with_reducible apply snd2_of; with_reducible assumption)
    | with_reducible rfl
    | with_reducible exact id
    | with_reducible exact Nat.le_refl _
    | split
    | dsimp only
    | with_reducible apply upd
    | exact trivial
    | rfl
    | exact id
    | exact Nat.le_refl _
    | intro _

theorem xipAnswer (h : Kept u s) {a1 a2} : Kept u (@Sys2Proof.Machine.State.xipAnswer s a1 a2) := by
  dsimp only [Sys2Proof.Machine.State.xipAnswer]
  repeat' first
    | with_reducible assumption
    | with_reducible apply xipRead
    | with_reducible apply answer
    | with_reducible apply answerError
    | with_reducible apply answerWait
    | with_reducible apply foldl
    | with_reducible apply forRange
    | (with_reducible apply snd_of; with_reducible assumption)
    | with_reducible rfl
    | with_reducible exact id
    | with_reducible exact Nat.le_refl _
    | split
    | dsimp only
    | with_reducible apply upd
    | exact trivial
    | rfl
    | exact id
    | exact Nat.le_refl _
    | intro _

theorem decay (h : Kept u s) {a1 a2 a3} : Kept u (@Sys2Proof.Machine.State.decay s a1 a2 a3) := by
  dsimp only [Sys2Proof.Machine.State.decay]
  repeat' first
    | with_reducible assumption
    | with_reducible apply setFlash
    | with_reducible apply foldl
    | with_reducible apply forRange
    | with_reducible rfl
    | with_reducible exact id
    | with_reducible exact Nat.le_refl _
    | split
    | dsimp only
    | with_reducible apply upd
    | exact trivial
    | rfl
    | exact id
    | exact Nat.le_refl _
    | intro _

theorem execXipLineRead (h : Kept u s) {a0 a1 a2} : out u (@Sys2Proof.Machine.execXipLineRead a0 a1 a2 s) := by
  dsimp only [Sys2Proof.Machine.execXipLineRead]
  repeat' first
    | with_reducible assumption
    | with_reducible apply answerError
    | with_reducible apply answer
    | with_reducible apply absentSlip
    | with_reducible apply decay
    | with_reducible apply storeSync
    | with_reducible apply xipAnswer
    | with_reducible apply foldl
    | with_reducible apply forRange
    | with_reducible apply out_next
    | with_reducible rfl
    | with_reducible exact id
    | with_reducible exact Nat.le_refl _
    | split
    | dsimp only
    | with_reducible apply upd
    | exact trivial
    | rfl
    | exact id
    | exact Nat.le_refl _
    | intro _

theorem runCheck (h : Kept u s) {a1 a2} : Kept u (@Sys2Proof.Machine.State.runCheck s a1 a2) := by
  dsimp only [Sys2Proof.Machine.State.runCheck]
  repeat' first
    | with_reducible assumption
    | with_reducible apply psTouch
    | with_reducible apply endCommand
    | with_reducible apply foldl
    | with_reducible apply forRange
    | with_reducible rfl
    | with_reducible exact id
    | with_reducible exact Nat.le_refl _
    | split
    | dsimp only
    | with_reducible apply upd
    | exact trivial
    | rfl
    | exact id
    | exact Nat.le_refl _
    | intro _

theorem serveRead (h : Kept u s) {a1} : Kept u (@Sys2Proof.Machine.State.serveRead s a1) := by
  dsimp only [Sys2Proof.Machine.State.serveRead]
  repeat' first
    | with_reducible assumption
    | with_reducible apply countServed
    | with_reducible apply serveLine
    | with_reducible apply answerError
    | with_reducible apply answer
    | with_reducible apply foldl
    | with_reducible apply forRange
    | (with_reducible apply snd2_of; with_reducible assumption)
    | with_reducible rfl
    | with_reducible exact id
    | with_reducible exact Nat.le_refl _
    | split
    | dsimp only
    | with_reducible apply upd
    | exact trivial
    | rfl
    | exact id
    | exact Nat.le_refl _
    | intro _

theorem serveCheck (h : Kept u s) {a1} : Kept u (@Sys2Proof.Machine.State.serveCheck s a1) := by
  dsimp only [Sys2Proof.Machine.State.serveCheck]
  repeat' first
    | with_reducible assumption
    | with_reducible apply runCheck
    | with_reducible apply foldl
    | with_reducible apply forRange
    | with_reducible rfl
    | with_reducible exact id
    | with_reducible exact Nat.le_refl _
    | split
    | dsimp only
    | with_reducible apply upd
    | exact trivial
    | rfl
    | exact id
    | exact Nat.le_refl _
    | intro _

theorem servePending (h : Kept u s) : Kept u (@Sys2Proof.Machine.State.servePending s) := by
  dsimp only [Sys2Proof.Machine.State.servePending]
  repeat' first
    | with_reducible assumption
    | with_reducible apply serveCheck
    | with_reducible apply serveRead
    | with_reducible apply foldl
    | with_reducible apply forRange
    | with_reducible rfl
    | with_reducible exact id
    | with_reducible exact Nat.le_refl _
    | split
    | dsimp only
    | with_reducible apply upd
    | exact trivial
    | rfl
    | exact id
    | exact Nat.le_refl _
    | intro _

theorem storeDone (h : Kept u s) : Kept u (@Sys2Proof.Machine.State.storeDone s) := by
  dsimp only [Sys2Proof.Machine.State.storeDone]
  repeat' first
    | with_reducible assumption
    | with_reducible apply servePending
    | with_reducible apply storeSync
    | with_reducible apply foldl
    | with_reducible apply forRange
    | with_reducible rfl
    | with_reducible exact id
    | with_reducible exact Nat.le_refl _
    | split
    | dsimp only
    | with_reducible apply upd
    | exact trivial
    | rfl
    | exact id
    | exact Nat.le_refl _
    | intro _

theorem storeInhibit (h : Kept u s) : Kept u (@Sys2Proof.Machine.State.storeInhibit s) := by
  dsimp only [Sys2Proof.Machine.State.storeInhibit]
  repeat' first
    | with_reducible assumption
    | with_reducible apply storeDone
    | with_reducible apply storeSync
    | with_reducible apply inhibitOp
    | with_reducible apply foldl
    | with_reducible apply forRange
    | with_reducible rfl
    | with_reducible exact id
    | with_reducible exact Nat.le_refl _
    | split
    | dsimp only
    | with_reducible apply upd
    | exact trivial
    | rfl
    | exact id
    | exact Nat.le_refl _
    | intro _

theorem startCommand (h : Kept u s) {a1 a2 a3 a4 a5} : Kept u (@Sys2Proof.Machine.State.startCommand s a1 a2 a3 a4 a5) := by
  dsimp only [Sys2Proof.Machine.State.startCommand]
  repeat' first
    | with_reducible assumption
    | with_reducible apply noteRead
    | with_reducible apply psTouch
    | with_reducible apply setOp
    | with_reducible apply runCheck
    | with_reducible apply endCommand
    | with_reducible apply uncorrectable
    | with_reducible apply startRefresh
    | with_reducible apply foldl
    | with_reducible apply forRange
    | with_reducible rfl
    | with_reducible exact id
    | with_reducible exact Nat.le_refl _
    | split
    | dsimp only
    | with_reducible apply upd
    | exact trivial
    | rfl
    | exact id
    | exact Nat.le_refl _
    | intro _

theorem storeSubmit (h : Kept u s) {a1 a2 a3 a4} : Kept u (@Sys2Proof.Machine.State.storeSubmit s a1 a2 a3 a4) := by
  dsimp only [Sys2Proof.Machine.State.storeSubmit]
  repeat' first
    | with_reducible assumption
    | with_reducible apply wr
    | with_reducible apply openTaken
    | with_reducible apply satAdd
    | with_reducible apply storeSync
    | with_reducible apply startCommand
    | with_reducible apply foldl
    | with_reducible apply forRange
    | with_reducible rfl
    | with_reducible exact id
    | with_reducible exact Nat.le_refl _
    | split
    | dsimp only
    | with_reducible apply upd
    | exact trivial
    | rfl
    | exact id
    | exact Nat.le_refl _
    | intro _

theorem storeCommand (h : Kept u s) {a1 a2 a3 a4} : Kept u (@Sys2Proof.Machine.State.storeCommand s a1 a2 a3 a4) := by
  dsimp only [Sys2Proof.Machine.State.storeCommand]
  repeat' first
    | with_reducible assumption
    | with_reducible apply storeSubmit
    | with_reducible apply wrF
    | with_reducible apply foldl
    | with_reducible apply forRange
    | with_reducible rfl
    | with_reducible exact id
    | with_reducible exact Nat.le_refl _
    | split
    | dsimp only
    | with_reducible apply upd
    | exact trivial
    | rfl
    | exact id
    | exact Nat.le_refl _
    | intro _

theorem execStoreErase (h : Kept u s) {a0 a1} : out u (@Sys2Proof.Machine.execStoreErase a0 a1 s) := by
  dsimp only [Sys2Proof.Machine.execStoreErase]
  repeat' first
    | with_reducible assumption
    | with_reducible apply answerError
    | with_reducible apply storeCommand
    | with_reducible apply foldl
    | with_reducible apply forRange
    | with_reducible apply out_next
    | with_reducible rfl
    | with_reducible exact id
    | with_reducible exact Nat.le_refl _
    | split
    | dsimp only
    | with_reducible apply upd
    | exact trivial
    | rfl
    | exact id
    | exact Nat.le_refl _
    | intro _

theorem execStoreProgram (h : Kept u s) {a0 a1 a2} : out u (@Sys2Proof.Machine.execStoreProgram a0 a1 a2 s) := by
  dsimp only [Sys2Proof.Machine.execStoreProgram]
  repeat' first
    | with_reducible assumption
    | with_reducible apply answerError
    | with_reducible apply storeCommand
    | with_reducible apply foldl
    | with_reducible apply forRange
    | with_reducible apply out_next
    | with_reducible rfl
    | with_reducible exact id
    | with_reducible exact Nat.le_refl _
    | split
    | dsimp only
    | with_reducible apply upd
    | exact trivial
    | rfl
    | exact id
    | exact Nat.le_refl _
    | intro _

theorem execStoreCheck (h : Kept u s) {a0 a1} : out u (@Sys2Proof.Machine.execStoreCheck a0 a1 s) := by
  dsimp only [Sys2Proof.Machine.execStoreCheck]
  repeat' first
    | with_reducible assumption
    | with_reducible apply answerError
    | with_reducible apply storeCommand
    | with_reducible apply foldl
    | with_reducible apply forRange
    | with_reducible apply out_next
    | with_reducible rfl
    | with_reducible exact id
    | with_reducible exact Nat.le_refl _
    | split
    | dsimp only
    | with_reducible apply upd
    | exact trivial
    | rfl
    | exact id
    | exact Nat.le_refl _
    | intro _

theorem execStoreRefresh (h : Kept u s) {a0 a1} : out u (@Sys2Proof.Machine.execStoreRefresh a0 a1 s) := by
  dsimp only [Sys2Proof.Machine.execStoreRefresh]
  repeat' first
    | with_reducible assumption
    | with_reducible apply answerError
    | with_reducible apply storeCommand
    | with_reducible apply foldl
    | with_reducible apply forRange
    | with_reducible apply out_next
    | with_reducible rfl
    | with_reducible exact id
    | with_reducible exact Nat.le_refl _
    | split
    | dsimp only
    | with_reducible apply upd
    | exact trivial
    | rfl
    | exact id
    | exact Nat.le_refl _
    | intro _

theorem execPsCommit (h : Kept u s) {a0 a1} : out u (@Sys2Proof.Machine.execPsCommit a0 a1 s) := by
  dsimp only [Sys2Proof.Machine.execPsCommit]
  repeat' first
    | with_reducible assumption
    | with_reducible apply answerError
    | with_reducible apply storeCommand
    | with_reducible apply foldl
    | with_reducible apply forRange
    | with_reducible apply out_next
    | with_reducible rfl
    | with_reducible exact id
    | with_reducible exact Nat.le_refl _
    | split
    | dsimp only
    | with_reducible apply upd
    | exact trivial
    | rfl
    | exact id
    | exact Nat.le_refl _
    | intro _

theorem execPsRetire (h : Kept u s) {a0 a1} : out u (@Sys2Proof.Machine.execPsRetire a0 a1 s) := by
  dsimp only [Sys2Proof.Machine.execPsRetire]
  repeat' first
    | with_reducible assumption
    | with_reducible apply answerError
    | with_reducible apply storeCommand
    | with_reducible apply foldl
    | with_reducible apply forRange
    | with_reducible apply out_next
    | with_reducible rfl
    | with_reducible exact id
    | with_reducible exact Nat.le_refl _
    | split
    | dsimp only
    | with_reducible apply upd
    | exact trivial
    | rfl
    | exact id
    | exact Nat.le_refl _
    | intro _

theorem dataPort (h : Kept u s) {a1 a2} : Kept u (@Sys2Proof.Machine.State.dataPort s a1 a2) := by
  dsimp only [Sys2Proof.Machine.State.dataPort]
  repeat' first
    | with_reducible assumption
    | with_reducible apply satAdd
    | with_reducible apply setOp
    | with_reducible apply endOp
    | with_reducible apply foldl
    | with_reducible apply forRange
    | with_reducible rfl
    | with_reducible exact id
    | with_reducible exact Nat.le_refl _
    | split
    | dsimp only
    | with_reducible apply upd
    | exact trivial
    | rfl
    | exact id
    | exact Nat.le_refl _
    | intro _

theorem execStoreDataPortWrite (h : Kept u s) {a0 a1} : out u (@Sys2Proof.Machine.execStoreDataPortWrite a0 a1 s) := by
  dsimp only [Sys2Proof.Machine.execStoreDataPortWrite]
  repeat' first
    | with_reducible assumption
    | with_reducible apply storeDone
    | with_reducible apply storeSync
    | with_reducible apply dataPort
    | with_reducible apply foldl
    | with_reducible apply forRange
    | with_reducible apply out_next
    | with_reducible rfl
    | with_reducible exact id
    | with_reducible exact Nat.le_refl _
    | split
    | dsimp only
    | with_reducible apply upd
    | exact trivial
    | rfl
    | exact id
    | exact Nat.le_refl _
    | intro _

theorem execStoreDoneClear (h : Kept u s) {a0} : out u (@Sys2Proof.Machine.execStoreDoneClear a0 s) := by
  dsimp only [Sys2Proof.Machine.execStoreDoneClear]
  repeat' first
    | with_reducible assumption
    | with_reducible apply setB
    | with_reducible apply storeSync
    | with_reducible apply eventIf
    | with_reducible apply foldl
    | with_reducible apply forRange
    | with_reducible apply out_next
    | with_reducible rfl
    | with_reducible exact id
    | with_reducible exact Nat.le_refl _
    | split
    | dsimp only
    | with_reducible apply upd
    | exact trivial
    | rfl
    | exact id
    | exact Nat.le_refl _
    | intro _

theorem execStoreAbort (h : Kept u s) {a0} : out u (@Sys2Proof.Machine.execStoreAbort a0 s) := by
  dsimp only [Sys2Proof.Machine.execStoreAbort]
  repeat' first
    | with_reducible assumption
    | with_reducible apply storeDone
    | with_reducible apply storeSync
    | with_reducible apply endCommand
    | with_reducible apply endOp
    | with_reducible apply foldl
    | with_reducible apply forRange
    | with_reducible apply out_next
    | with_reducible rfl
    | with_reducible exact id
    | with_reducible exact Nat.le_refl _
    | split
    | dsimp only
    | with_reducible apply upd
    | exact trivial
    | rfl
    | exact id
    | exact Nat.le_refl _
    | intro _

theorem folioEnd (h : Kept u s) {a1} : Kept u (@Sys2Proof.Machine.State.folioEnd s a1) := by
  dsimp only [Sys2Proof.Machine.State.folioEnd]
  repeat' first
    | with_reducible assumption
    | with_reducible apply event
    | with_reducible apply servePending
    | with_reducible apply setOp
    | with_reducible apply foldl
    | with_reducible apply forRange
    | with_reducible rfl
    | with_reducible exact id
    | with_reducible exact Nat.le_refl _
    | split
    | dsimp only
    | with_reducible apply upd
    | exact trivial
    | rfl
    | exact id
    | exact Nat.le_refl _
    | intro _

theorem afterPulse (h : Kept u s) {a1} : Kept u (@Sys2Proof.Machine.State.afterPulse s a1) := by
  dsimp only [Sys2Proof.Machine.State.afterPulse]
  repeat' first
    | with_reducible assumption
    | with_reducible apply eventIf
    | with_reducible apply settleOp
    | with_reducible apply finishOp
    | with_reducible apply folioEnd
    | with_reducible apply setOp
    | with_reducible apply foldl
    | with_reducible apply forRange
    | (with_reducible apply snd_of; with_reducible assumption)
    | with_reducible rfl
    | with_reducible exact id
    | with_reducible exact Nat.le_refl _
    | split
    | dsimp only
    | with_reducible apply upd
    | exact trivial
    | rfl
    | exact id
    | exact Nat.le_refl _
    | intro _

theorem pulseFailed (h : Kept u s) {a1} : Kept u (@Sys2Proof.Machine.State.pulseFailed s a1) := by
  dsimp only [Sys2Proof.Machine.State.pulseFailed]
  repeat' first
    | with_reducible assumption
    | with_reducible apply afterPulse
    | with_reducible apply refreshFail
    | with_reducible apply remap
    | with_reducible apply foldl
    | with_reducible apply forRange
    | with_reducible rfl
    | with_reducible exact id
    | with_reducible exact Nat.le_refl _
    | split
    | dsimp only
    | with_reducible apply upd
    | exact trivial
    | rfl
    | exact id
    | exact Nat.le_refl _
    | intro _

theorem execStorePulseEnd (h : Kept u s) {a0 a1} : out u (@Sys2Proof.Machine.execStorePulseEnd a0 a1 s) := by
  dsimp only [Sys2Proof.Machine.execStorePulseEnd]
  repeat' first
    | with_reducible assumption
    | with_reducible apply storeDone
    | with_reducible apply storeSync
    | with_reducible apply cutOp
    | with_reducible apply afterPulse
    | with_reducible apply setFlash
    | with_reducible apply eraseFlash
    | with_reducible apply pulseFailed
    | with_reducible apply foldl
    | with_reducible apply forRange
    | with_reducible apply out_next
    | with_reducible rfl
    | with_reducible exact id
    | with_reducible exact Nat.le_refl _
    | split
    | dsimp only
    | with_reducible apply upd
    | exact trivial
    | rfl
    | exact id
    | exact Nat.le_refl _
    | intro _

theorem execStoreResume (h : Kept u s) {a0} : out u (@Sys2Proof.Machine.execStoreResume a0 s) := by
  dsimp only [Sys2Proof.Machine.execStoreResume]
  repeat' first
    | with_reducible assumption
    | with_reducible apply storeSync
    | with_reducible apply event
    | with_reducible apply setOp
    | with_reducible apply foldl
    | with_reducible apply forRange
    | with_reducible apply out_next
    | with_reducible rfl
    | with_reducible exact id
    | with_reducible exact Nat.le_refl _
    | split
    | dsimp only
    | with_reducible apply upd
    | exact trivial
    | rfl
    | exact id
    | exact Nat.le_refl _
    | intro _

theorem execPsCommitReadDone (h : Kept u s) {a0} : out u (@Sys2Proof.Machine.execPsCommitReadDone a0 s) := by
  dsimp only [Sys2Proof.Machine.execPsCommitReadDone]
  repeat' first
    | with_reducible assumption
    | with_reducible apply storeDone
    | with_reducible apply noteRead
    | with_reducible apply storeSync
    | with_reducible apply endOp
    | with_reducible apply uncorrectable
    | with_reducible apply setOp
    | with_reducible apply foldl
    | with_reducible apply forRange
    | with_reducible apply out_next
    | with_reducible rfl
    | with_reducible exact id
    | with_reducible exact Nat.le_refl _
    | split
    | dsimp only
    | with_reducible apply upd
    | exact trivial
    | rfl
    | exact id
    | exact Nat.le_refl _
    | intro _

theorem execStorPsCfgWrite (h : Kept u s) {a0} : out u (@Sys2Proof.Machine.execStorPsCfgWrite a0 s) := by
  dsimp only [Sys2Proof.Machine.execStorPsCfgWrite]
  repeat' first
    | with_reducible assumption
    | with_reducible apply wr
    | with_reducible apply forRange
    | with_reducible apply wrF
    | with_reducible apply foldl
    | with_reducible apply forRange
    | with_reducible apply out_next
    | with_reducible rfl
    | with_reducible exact id
    | with_reducible exact Nat.le_refl _
    | split
    | dsimp only
    | with_reducible apply upd
    | exact trivial
    | rfl
    | exact id
    | exact Nat.le_refl _
    | intro _

theorem execPatrolReadDue (h : Kept u s) : out u (@Sys2Proof.Machine.execPatrolReadDue s) := by
  dsimp only [Sys2Proof.Machine.execPatrolReadDue]
  repeat' first
    | with_reducible assumption
    | with_reducible apply storeSync
    | with_reducible apply foldl
    | with_reducible apply forRange
    | with_reducible apply out_next
    | with_reducible rfl
    | with_reducible exact id
    | with_reducible exact Nat.le_refl _
    | split
    | dsimp only
    | with_reducible apply upd
    | exact trivial
    | rfl
    | exact id
    | exact Nat.le_refl _
    | intro _

theorem patrolLog (h : Kept u s) {a1 a2} : Kept u (@Sys2Proof.Machine.State.patrolLog s a1 a2) := by
  dsimp only [Sys2Proof.Machine.State.patrolLog]
  repeat' first
    | with_reducible assumption
    | with_reducible apply setFlash
    | with_reducible apply eraseFlash
    | with_reducible apply foldl
    | with_reducible apply forRange
    | with_reducible rfl
    | with_reducible exact id
    | with_reducible exact Nat.le_refl _
    | split
    | dsimp only
    | with_reducible apply upd
    | exact trivial
    | rfl
    | exact id
    | exact Nat.le_refl _
    | intro _

theorem patrolAdvance (h : Kept u s) {a1} : Kept u (@Sys2Proof.Machine.State.patrolAdvance s a1) := by
  dsimp only [Sys2Proof.Machine.State.patrolAdvance]
  repeat' first
    | with_reducible assumption
    | with_reducible apply wrF
    | with_reducible apply event
    | with_reducible apply satAdd
    | with_reducible apply foldl
    | with_reducible apply forRange
    | with_reducible rfl
    | with_reducible exact id
    | with_reducible exact Nat.le_refl _
    | split
    | dsimp only
    | with_reducible apply upd
    | exact trivial
    | rfl
    | exact id
    | exact Nat.le_refl _
    | intro _

theorem patrolRefresh (h : Kept u s) {a1} : Kept u (@Sys2Proof.Machine.State.patrolRefresh s a1) := by
  dsimp only [Sys2Proof.Machine.State.patrolRefresh]
  repeat' first
    | with_reducible assumption
    | with_reducible apply startRefresh
    | with_reducible apply foldl
    | with_reducible apply forRange
    | with_reducible rfl
    | with_reducible exact id
    | with_reducible exact Nat.le_refl _
    | split
    | dsimp only
    | with_reducible apply upd
    | exact trivial
    | rfl
    | exact id
    | exact Nat.le_refl _
    | intro _

theorem execPatrolReadDone (h : Kept u s) {a0} : out u (@Sys2Proof.Machine.execPatrolReadDone a0 s) := by
  dsimp only [Sys2Proof.Machine.execPatrolReadDone]
  repeat' first
    | with_reducible assumption
    | with_reducible apply decay
    | with_reducible apply satAdd
    | with_reducible apply uncorrectable
    | with_reducible apply patrolRefresh
    | with_reducible apply patrolAdvance
    | with_reducible apply patrolLog
    | with_reducible apply storeSync
    | with_reducible apply foldl
    | with_reducible apply forRange
    | with_reducible apply out_next
    | with_reducible rfl
    | with_reducible exact id
    | with_reducible exact Nat.le_refl _
    | split
    | dsimp only
    | with_reducible apply upd
    | exact trivial
    | rfl
    | exact id
    | exact Nat.le_refl _
    | intro _

theorem execPatrolRefreshResume (h : Kept u s) : out u (@Sys2Proof.Machine.execPatrolRefreshResume s) := by
  dsimp only [Sys2Proof.Machine.execPatrolRefreshResume]
  repeat' first
    | with_reducible assumption
    | with_reducible apply storeSync
    | with_reducible apply startRefresh
    | with_reducible apply foldl
    | with_reducible apply forRange
    | with_reducible apply out_next
    | with_reducible rfl
    | with_reducible exact id
    | with_reducible exact Nat.le_refl _
    | split
    | dsimp only
    | with_reducible apply upd
    | exact trivial
    | rfl
    | exact id
    | exact Nat.le_refl _
    | intro _

theorem pulse (h : Kept u s) {a1} : Kept u (@Sys2Proof.Machine.State.pulse s a1) := by
  dsimp only [Sys2Proof.Machine.State.pulse]
  repeat' first
    | with_reducible assumption
    | with_reducible apply foldl
    | with_reducible apply forRange
    | with_reducible rfl
    | with_reducible exact id
    | with_reducible exact Nat.le_refl _
    | split
    | dsimp only
    | with_reducible apply upd
    | exact trivial
    | rfl
    | exact id
    | exact Nat.le_refl _
    | intro _

theorem padWake (h : Kept u s) {a1} : Kept u (@Sys2Proof.Machine.State.padWake s a1) := by
  dsimp only [Sys2Proof.Machine.State.padWake]
  repeat' first
    | with_reducible assumption
    | with_reducible apply wake
    | with_reducible apply foldl
    | with_reducible apply forRange
    | with_reducible rfl
    | with_reducible exact id
    | with_reducible exact Nat.le_refl _
    | split
    | dsimp only
    | with_reducible apply upd
    | exact trivial
    | rfl
    | exact id
    | exact Nat.le_refl _
    | intro _

theorem samplePin (h : Kept u s) {a1 a2} : Kept u (@Sys2Proof.Machine.State.samplePin s a1 a2) := by
  dsimp only [Sys2Proof.Machine.State.samplePin]
  repeat' first
    | with_reducible assumption
    | with_reducible apply setB
    | with_reducible apply pulse
    | with_reducible apply event
    | with_reducible apply padWake
    | with_reducible apply foldl
    | with_reducible apply forRange
    | with_reducible rfl
    | with_reducible exact id
    | with_reducible exact Nat.le_refl _
    | split
    | dsimp only
    | with_reducible apply upd
    | exact trivial
    | rfl
    | exact id
    | exact Nat.le_refl _
    | intro _

theorem markSampled (h : Kept u s) : Kept u (@Sys2Proof.Machine.State.markSampled s) := by
  dsimp only [Sys2Proof.Machine.State.markSampled]
  repeat' first
    | with_reducible assumption
    | with_reducible apply foldl
    | with_reducible apply forRange
    | with_reducible rfl
    | with_reducible exact id
    | with_reducible exact Nat.le_refl _
    | split
    | dsimp only
    | with_reducible apply upd
    | exact trivial
    | rfl
    | exact id
    | exact Nat.le_refl _
    | intro _

theorem samplePads (h : Kept u s) : Kept u (@Sys2Proof.Machine.State.samplePads s) := by
  dsimp only [Sys2Proof.Machine.State.samplePads]
  repeat' first
    | with_reducible assumption
    | with_reducible apply takeFree
    | with_reducible apply markSampled
    | with_reducible apply samplePin
    | with_reducible apply foldl
    | with_reducible apply forRange
    | (with_reducible apply snd_of; with_reducible assumption)
    | with_reducible rfl
    | with_reducible exact id
    | with_reducible exact Nat.le_refl _
    | split
    | dsimp only
    | with_reducible apply upd
    | exact trivial
    | rfl
    | exact id
    | exact Nat.le_refl _
    | intro _

theorem frontReset (h : Kept u s) : Kept u (@Sys2Proof.Machine.State.frontReset s) :=
  updMem (setB (resetRegs h)) List.filter_sublist rfl rfl id id (Nat.le_refl _)

theorem endSpine (h : Kept u s) {a1} : Kept u (@Sys2Proof.Machine.State.endSpine s a1) := by
  dsimp only [Sys2Proof.Machine.State.endSpine]
  repeat' first
    | with_reducible assumption
    | with_reducible apply setSpineSt
    | with_reducible apply satAdd
    | with_reducible apply answerError
    | with_reducible apply foldl
    | with_reducible apply forRange
    | with_reducible rfl
    | with_reducible exact id
    | with_reducible exact Nat.le_refl _
    | split
    | dsimp only
    | with_reducible apply upd
    | exact trivial
    | rfl
    | exact id
    | exact Nat.le_refl _
    | intro _

theorem setSpine (h : Kept u s) {a1 a2} : Kept u (@Sys2Proof.Machine.State.setSpine s a1 a2) := by
  dsimp only [Sys2Proof.Machine.State.setSpine]
  repeat' first
    | with_reducible assumption
    | with_reducible apply setB
    | with_reducible apply wr
    | with_reducible apply foldl
    | with_reducible apply forRange
    | with_reducible rfl
    | with_reducible exact id
    | with_reducible exact Nat.le_refl _
    | split
    | dsimp only
    | with_reducible apply upd
    | exact trivial
    | rfl
    | exact id
    | exact Nat.le_refl _
    | intro _

theorem spineDown (h : Kept u s) {a1} : Kept u (@Sys2Proof.Machine.State.spineDown s a1) := by
  dsimp only [Sys2Proof.Machine.State.spineDown]
  repeat' first
    | with_reducible assumption
    | with_reducible apply setSpine
    | with_reducible apply foldl
    | with_reducible apply forRange
    | with_reducible rfl
    | with_reducible exact id
    | with_reducible exact Nat.le_refl _
    | split
    | dsimp only
    | with_reducible apply upd
    | exact trivial
    | rfl
    | exact id
    | exact Nat.le_refl _
    | intro _

theorem spineUp (h : Kept u s) {a1} : Kept u (@Sys2Proof.Machine.State.spineUp s a1) := by
  dsimp only [Sys2Proof.Machine.State.spineUp]
  repeat' first
    | with_reducible assumption
    | with_reducible apply setSpineSt
    | with_reducible apply setB
    | with_reducible apply setSpine
    | with_reducible apply foldl
    | with_reducible apply forRange
    | with_reducible rfl
    | with_reducible exact id
    | with_reducible exact Nat.le_refl _
    | split
    | dsimp only
    | with_reducible apply upd
    | exact trivial
    | rfl
    | exact id
    | exact Nat.le_refl _
    | intro _

theorem sbrStore (h : Kept u s) : Kept u (@Sys2Proof.Machine.State.sbrStore s) := by
  dsimp only [Sys2Proof.Machine.State.sbrStore]
  repeat' first
    | with_reducible assumption
    | with_reducible apply setSpine
    | with_reducible apply setB
    | with_reducible apply storeAbortAll
    | with_reducible apply endSpine
    | with_reducible apply foldl
    | with_reducible apply forRange
    | with_reducible rfl
    | with_reducible exact id
    | with_reducible exact Nat.le_refl _
    | split
    | dsimp only
    | with_reducible apply upd
    | exact trivial
    | rfl
    | exact id
    | exact Nat.le_refl _
    | intro _

theorem recordCause (h : Kept u s) {a1} : Kept u (@Sys2Proof.Machine.State.recordCause s a1) := by
  dsimp only [Sys2Proof.Machine.State.recordCause]
  repeat' first
    | with_reducible assumption
    | with_reducible apply setB
    | with_reducible apply wr
    | with_reducible apply foldl
    | with_reducible apply forRange
    | with_reducible rfl
    | with_reducible exact id
    | with_reducible exact Nat.le_refl _
    | split
    | dsimp only
    | with_reducible apply upd
    | exact trivial
    | rfl
    | exact id
    | exact Nat.le_refl _
    | intro _

theorem storeThroughReset (h : Kept u s) : Kept u (@Sys2Proof.Machine.State.storeThroughReset s) := by
  dsimp only [Sys2Proof.Machine.State.storeThroughReset]
  repeat' first
    | with_reducible assumption
    | with_reducible apply setOp
    | with_reducible apply cutOp
    | with_reducible apply dropOp
    | with_reducible apply foldl
    | with_reducible apply forRange
    | with_reducible rfl
    | with_reducible exact id
    | with_reducible exact Nat.le_refl _
    | split
    | dsimp only
    | with_reducible apply upd
    | exact trivial
    | rfl
    | exact id
    | exact Nat.le_refl _
    | intro _

theorem coreReset (h : Kept u s) {a1} : Kept u (@Sys2Proof.Machine.State.coreReset s a1) := by
  have key : ∀ t, Kept u t → Kept u (t.storeThroughReset.resetRegs (keepOverReset a1)) :=
    fun t ht => resetRegs (storeThroughReset ht)
  unfold Sys2Proof.Machine.State.coreReset
  dsimp only
  exact updMem (key _ (ite' (tearSlots h) h)) List.filter_sublist rfl rfl id id (Nat.le_refl _)

theorem keepBow (h : Kept u s) {a1} : Kept u (@Sys2Proof.Machine.State.keepBow s a1) := by
  dsimp only [Sys2Proof.Machine.State.keepBow]
  repeat' first
    | with_reducible assumption
    | with_reducible apply setB
    | with_reducible apply foldl
    | with_reducible apply forRange
    | with_reducible rfl
    | with_reducible exact id
    | with_reducible exact Nat.le_refl _
    | split
    | dsimp only
    | with_reducible apply upd
    | exact trivial
    | rfl
    | exact id
    | exact Nat.le_refl _
    | intro _

theorem warmReset (h : Kept u s) {a1} : Kept u (@Sys2Proof.Machine.State.warmReset s a1) := by
  dsimp only [Sys2Proof.Machine.State.warmReset]
  repeat' first
    | with_reducible assumption
    | with_reducible apply takeFree
    | with_reducible apply recordCause
    | with_reducible apply setB
    | with_reducible apply keepBow
    | with_reducible apply coreReset
    | with_reducible apply foldl
    | with_reducible apply forRange
    | (with_reducible apply snd_of; with_reducible assumption)
    | with_reducible rfl
    | with_reducible exact id
    | with_reducible exact Nat.le_refl _
    | split
    | dsimp only
    | (with_reducible apply snd_self; with_reducible assumption)
    | with_reducible apply upd
    | exact trivial
    | rfl
    | exact id
    | exact Nat.le_refl _
    | intro _

theorem loseAll (h : Kept u s) : Kept u (@Sys2Proof.Machine.State.loseAll s) := by
  dsimp only [Sys2Proof.Machine.State.loseAll]
  repeat' first
    | with_reducible assumption
    | with_reducible apply loseArea
    | with_reducible apply foldl
    | with_reducible apply forRange
    | with_reducible rfl
    | with_reducible exact id
    | with_reducible exact Nat.le_refl _
    | split
    | dsimp only
    | with_reducible apply upd
    | exact trivial
    | rfl
    | exact id
    | exact Nat.le_refl _
    | intro _

theorem brownOutReset (h : Kept u s) : Kept u (@Sys2Proof.Machine.State.brownOutReset s) := by
  dsimp only [Sys2Proof.Machine.State.brownOutReset]
  repeat' first
    | with_reducible assumption
    | with_reducible apply recordCause
    | with_reducible apply loseAll
    | with_reducible apply coreReset
    | with_reducible apply foldl
    | with_reducible apply forRange
    | with_reducible rfl
    | with_reducible exact id
    | with_reducible exact Nat.le_refl _
    | split
    | dsimp only
    | with_reducible apply upd
    | exact trivial
    | rfl
    | exact id
    | exact Nat.le_refl _
    | intro _

theorem powerOnReset (h : Kept u s) : Kept u (@Sys2Proof.Machine.State.powerOnReset s) := by
  unfold Sys2Proof.Machine.State.powerOnReset
  extract_lets s0 cut s1 t src s2
  have h1 : Kept u s1 := h.trans ⟨rfl, rfl, fun _ => rfl, fun _ => rfl, rfl, id, id, Nat.le_refl _⟩
  have h2 : Kept u s2 := upd h1 rfl rfl id id (Nat.le_refl _)
  exact recordCause (wrF (loseAll h2))

theorem hold (h : Kept u s) {a1} : Kept u (@Sys2Proof.Machine.State.hold s a1) := by
  dsimp only [Sys2Proof.Machine.State.hold]
  repeat' first
    | with_reducible assumption
    | with_reducible apply coreReset
    | with_reducible apply foldl
    | with_reducible apply forRange
    | with_reducible rfl
    | with_reducible exact id
    | with_reducible exact Nat.le_refl _
    | split
    | dsimp only
    | with_reducible apply upd
    | exact trivial
    | rfl
    | exact id
    | exact Nat.le_refl _
    | intro _

theorem graveHold (h : Kept u s) {a1} : Kept u (@Sys2Proof.Machine.State.graveHold s a1) := by
  have hf : ∀ (l m : List (Nat × Word)), mapWf resetOf m = true →
      mapWf resetOf (l.foldl (fun m e => mapPut (resetOf e.1) m e.1 e.2) m) = true := by
    intro l
    induction l with
    | nil => exact fun _ x => x
    | cons e l ih => exact fun m x => ih _ (mapWf_mapPut e.1 e.2 x)
  exact (hold h).trans ⟨rfl, rfl, fun x => hf _ _ x, id, rfl, id, id, Nat.le_refl _⟩

theorem frontIdle (h : Kept u s) : Kept u (@Sys2Proof.Machine.State.frontIdle s) := by
  dsimp only [Sys2Proof.Machine.State.frontIdle]
  repeat' first
    | with_reducible assumption
    | with_reducible apply foldl
    | with_reducible apply forRange
    | with_reducible rfl
    | with_reducible exact id
    | with_reducible exact Nat.le_refl _
    | split
    | dsimp only
    | with_reducible apply upd
    | exact trivial
    | rfl
    | exact id
    | exact Nat.le_refl _
    | intro _

theorem startLeg (h : Kept u s) {a1} : Kept u (@Sys2Proof.Machine.State.startLeg s a1) := by
  dsimp only [Sys2Proof.Machine.State.startLeg]
  repeat' first
    | with_reducible assumption
    | with_reducible apply frontIdle
    | with_reducible apply setB
    | with_reducible apply foldl
    | with_reducible apply forRange
    | with_reducible rfl
    | with_reducible exact id
    | with_reducible exact Nat.le_refl _
    | split
    | dsimp only
    | with_reducible apply upd
    | exact trivial
    | rfl
    | exact id
    | exact Nat.le_refl _
    | intro _

theorem nextLeg (h : Kept u s) : Kept u (@Sys2Proof.Machine.State.nextLeg s) := by
  dsimp only [Sys2Proof.Machine.State.nextLeg]
  repeat' first
    | with_reducible assumption
    | with_reducible apply startLeg
    | with_reducible apply foldl
    | with_reducible apply forRange
    | with_reducible rfl
    | with_reducible exact id
    | with_reducible exact Nat.le_refl _
    | split
    | dsimp only
    | with_reducible apply upd
    | exact trivial
    | rfl
    | exact id
    | exact Nat.le_refl _
    | intro _

theorem startMove (h : Kept u s) {a1} : Kept u (@Sys2Proof.Machine.State.startMove s a1) := by
  dsimp only [Sys2Proof.Machine.State.startMove]
  repeat' first
    | with_reducible assumption
    | with_reducible apply nextLeg
    | with_reducible apply frontIdle
    | with_reducible apply setB
    | with_reducible apply foldl
    | with_reducible apply forRange
    | with_reducible rfl
    | with_reducible exact id
    | with_reducible exact Nat.le_refl _
    | split
    | dsimp only
    | with_reducible apply upd
    | exact trivial
    | rfl
    | exact id
    | exact Nat.le_refl _
    | intro _

theorem commandMove (h : Kept u s) {a1} : Kept u (@Sys2Proof.Machine.State.commandMove s a1) := by
  dsimp only [Sys2Proof.Machine.State.commandMove]
  repeat' first
    | with_reducible assumption
    | with_reducible apply satAdd
    | with_reducible apply startMove
    | with_reducible apply foldl
    | with_reducible apply forRange
    | with_reducible rfl
    | with_reducible exact id
    | with_reducible exact Nat.le_refl _
    | split
    | dsimp only
    | with_reducible apply upd
    | exact trivial
    | rfl
    | exact id
    | exact Nat.le_refl _
    | intro _

theorem synthPowerUp (h : Kept u s) : Kept u (@Sys2Proof.Machine.State.synthPowerUp s) := by
  dsimp only [Sys2Proof.Machine.State.synthPowerUp]
  repeat' first
    | with_reducible assumption
    | with_reducible apply wrF
    | with_reducible apply foldl
    | with_reducible apply forRange
    | with_reducible rfl
    | with_reducible exact id
    | with_reducible exact Nat.le_refl _
    | split
    | dsimp only
    | with_reducible apply upd
    | exact trivial
    | rfl
    | exact id
    | exact Nat.le_refl _
    | intro _

theorem tunerStart (h : Kept u s) {a1 a2} : Kept u (@Sys2Proof.Machine.State.tunerStart s a1 a2) := by
  dsimp only [Sys2Proof.Machine.State.tunerStart]
  repeat' first
    | with_reducible assumption
    | with_reducible apply wr
    | with_reducible apply foldl
    | with_reducible apply forRange
    | with_reducible rfl
    | with_reducible exact id
    | with_reducible exact Nat.le_refl _
    | split
    | dsimp only
    | with_reducible apply upd
    | exact trivial
    | rfl
    | exact id
    | exact Nat.le_refl _
    | intro _

theorem frontLoad (h : Kept u s) : Kept u (@Sys2Proof.Machine.State.frontLoad s) := by
  dsimp only [Sys2Proof.Machine.State.frontLoad]
  repeat' first
    | with_reducible assumption
    | with_reducible apply tunerStart
    | with_reducible apply wr
    | with_reducible apply wrF
    | with_reducible apply synthPowerUp
    | with_reducible apply foldl
    | with_reducible apply forRange
    | with_reducible rfl
    | with_reducible exact id
    | with_reducible exact Nat.le_refl _
    | split
    | dsimp only
    | with_reducible apply upd
    | exact trivial
    | rfl
    | exact id
    | exact Nat.le_refl _
    | intro _

theorem frontOff (h : Kept u s) : Kept u (@Sys2Proof.Machine.State.frontOff s) := by
  dsimp only [Sys2Proof.Machine.State.frontOff]
  repeat' first
    | with_reducible assumption
    | with_reducible apply spineDown
    | with_reducible apply frontReset
    | with_reducible apply setSpine
    | with_reducible apply endSpine
    | with_reducible apply foldl
    | with_reducible apply forRange
    | with_reducible rfl
    | with_reducible exact id
    | with_reducible exact Nat.le_refl _
    | split
    | dsimp only
    | with_reducible apply upd
    | exact trivial
    | rfl
    | exact id
    | exact Nat.le_refl _
    | intro _

theorem enterTune (h : Kept u s) : Kept u (@Sys2Proof.Machine.State.enterTune s) := by
  dsimp only [Sys2Proof.Machine.State.enterTune]
  repeat' first
    | with_reducible assumption
    | with_reducible apply foldl
    | with_reducible apply forRange
    | with_reducible rfl
    | with_reducible exact id
    | with_reducible exact Nat.le_refl _
    | split
    | dsimp only
    | with_reducible apply upd
    | exact trivial
    | rfl
    | exact id
    | exact Nat.le_refl _
    | intro _

theorem execFrontTransitionEnd (h : Kept u s) : out u (@Sys2Proof.Machine.execFrontTransitionEnd s) := by
  unfold Sys2Proof.Machine.execFrontTransitionEnd
  split
  · exact h
  · extract_lets up src s1 s2 s3 s4 s5 s6 s7
    have h1 : Kept u s1 := upd h rfl rfl id id (Nat.le_refl _)
    have h2 : Kept u s2 := ite' (frontOff h1) h1
    have h3 : Kept u s3 := ite' (frontLoad (ite' h2 (spineUp h2))) h2
    have h4 : Kept u s4 := ite' h3 (wrF h3)
    have h5 : Kept u s5 := ite' (wrF h4) h4
    have h6 : Kept u s6 := setB (ite' (enterTune h5) h5)
    have h7 : Kept u s7 := event h6
    clear_value s7
    split
    · exact nextLeg h7
    · split
      · exact startMove (upd h7 rfl rfl id id (Nat.le_refl _))
      · exact h7

theorem execRadioFsmCmd (h : Kept u s) {a0} : out u (@Sys2Proof.Machine.execRadioFsmCmd a0 s) := by
  dsimp only [Sys2Proof.Machine.execRadioFsmCmd]
  repeat' first
    | with_reducible assumption
    | with_reducible apply satAdd
    | with_reducible apply commandMove
    | with_reducible apply foldl
    | with_reducible apply forRange
    | with_reducible apply out_next
    | with_reducible rfl
    | with_reducible exact id
    | with_reducible exact Nat.le_refl _
    | split
    | dsimp only
    | with_reducible apply upd
    | exact trivial
    | rfl
    | exact id
    | exact Nat.le_refl _
    | intro _

theorem execRadioFreqWrite (h : Kept u s) {a0 a1} : out u (@Sys2Proof.Machine.execRadioFreqWrite a0 a1 s) := by
  dsimp only [Sys2Proof.Machine.execRadioFreqWrite]
  repeat' first
    | with_reducible assumption
    | with_reducible apply satAdd
    | with_reducible apply wr
    | with_reducible apply foldl
    | with_reducible apply forRange
    | with_reducible apply out_next
    | with_reducible rfl
    | with_reducible exact id
    | with_reducible exact Nat.le_refl _
    | split
    | dsimp only
    | with_reducible apply upd
    | exact trivial
    | rfl
    | exact id
    | exact Nat.le_refl _
    | intro _

theorem execSamplerOverload (h : Kept u s) : out u (@Sys2Proof.Machine.execSamplerOverload s) := by
  dsimp only [Sys2Proof.Machine.execSamplerOverload]
  repeat' first
    | with_reducible assumption
    | with_reducible apply event
    | with_reducible apply satAdd
    | with_reducible apply setB
    | with_reducible apply wrF
    | with_reducible apply foldl
    | with_reducible apply forRange
    | with_reducible apply out_next
    | with_reducible rfl
    | with_reducible exact id
    | with_reducible exact Nat.le_refl _
    | split
    | dsimp only
    | with_reducible apply upd
    | exact trivial
    | rfl
    | exact id
    | exact Nat.le_refl _
    | intro _

theorem endTx (h : Kept u s) : Kept u (@Sys2Proof.Machine.State.endTx s) := by
  dsimp only [Sys2Proof.Machine.State.endTx]
  repeat' first
    | with_reducible assumption
    | with_reducible apply event
    | with_reducible apply foldl
    | with_reducible apply forRange
    | with_reducible rfl
    | with_reducible exact id
    | with_reducible exact Nat.le_refl _
    | split
    | dsimp only
    | with_reducible apply upd
    | exact trivial
    | rfl
    | exact id
    | exact Nat.le_refl _
    | intro _

theorem startTx (h : Kept u s) {a1 a2} : Kept u (@Sys2Proof.Machine.State.startTx s a1 a2) := by
  dsimp only [Sys2Proof.Machine.State.startTx]
  repeat' first
    | with_reducible assumption
    | with_reducible apply wrF
    | with_reducible apply satAdd
    | with_reducible apply setB
    | with_reducible apply event
    | with_reducible apply foldl
    | with_reducible apply forRange
    | with_reducible rfl
    | with_reducible exact id
    | with_reducible exact Nat.le_refl _
    | split
    | dsimp only
    | with_reducible apply upd
    | exact trivial
    | rfl
    | exact id
    | exact Nat.le_refl _
    | intro _

theorem execRangingCaptureEnd (h : Kept u s) {a0} : out u (@Sys2Proof.Machine.execRangingCaptureEnd a0 s) := by
  dsimp only [Sys2Proof.Machine.execRangingCaptureEnd]
  repeat' first
    | with_reducible assumption
    | with_reducible apply event
    | with_reducible apply putBytes
    | with_reducible apply foldl
    | with_reducible apply forRange
    | with_reducible apply out_next
    | with_reducible rfl
    | with_reducible exact id
    | with_reducible exact Nat.le_refl _
    | split
    | dsimp only
    | with_reducible apply upd
    | exact trivial
    | rfl
    | exact id
    | exact Nat.le_refl _
    | intro _

theorem noteLoss (h : Kept u s) {a1 a2} : Kept u (@Sys2Proof.Machine.State.noteLoss s a1 a2) := by
  dsimp only [Sys2Proof.Machine.State.noteLoss]
  repeat' first
    | with_reducible assumption
    | with_reducible apply wrF
    | with_reducible apply event
    | with_reducible apply foldl
    | with_reducible apply forRange
    | with_reducible rfl
    | with_reducible exact id
    | with_reducible exact Nat.le_refl _
    | split
    | dsimp only
    | with_reducible apply upd
    | exact trivial
    | rfl
    | exact id
    | exact Nat.le_refl _
    | intro _

theorem measuredLoss (h : Kept u s) {a1 a2 a3} : Kept u (@Sys2Proof.Machine.State.measuredLoss s a1 a2 a3) := by
  dsimp only [Sys2Proof.Machine.State.measuredLoss]
  repeat' first
    | with_reducible assumption
    | with_reducible apply noteLoss
    | with_reducible apply wrF
    | with_reducible apply event
    | with_reducible apply foldl
    | with_reducible apply forRange
    | with_reducible rfl
    | with_reducible exact id
    | with_reducible exact Nat.le_refl _
    | split
    | dsimp only
    | with_reducible apply upd
    | exact trivial
    | rfl
    | exact id
    | exact Nat.le_refl _
    | intro _

theorem execDetectStage1 (h : Kept u s) {a0} : out u (@Sys2Proof.Machine.execDetectStage1 a0 s) := by
  dsimp only [Sys2Proof.Machine.execDetectStage1]
  repeat' first
    | with_reducible assumption
    | with_reducible apply wr
    | with_reducible apply event
    | with_reducible apply foldl
    | with_reducible apply forRange
    | with_reducible apply out_next
    | with_reducible rfl
    | with_reducible exact id
    | with_reducible exact Nat.le_refl _
    | split
    | dsimp only
    | with_reducible apply upd
    | exact trivial
    | rfl
    | exact id
    | exact Nat.le_refl _
    | intro _

theorem execPreambleQualified (h : Kept u s) {a0} : out u (@Sys2Proof.Machine.execPreambleQualified a0 s) := by
  dsimp only [Sys2Proof.Machine.execPreambleQualified]
  repeat' first
    | with_reducible assumption
    | with_reducible apply event
    | with_reducible apply wrF
    | with_reducible apply foldl
    | with_reducible apply forRange
    | with_reducible apply out_next
    | with_reducible rfl
    | with_reducible exact id
    | with_reducible exact Nat.le_refl _
    | split
    | dsimp only
    | with_reducible apply upd
    | exact trivial
    | rfl
    | exact id
    | exact Nat.le_refl _
    | intro _

theorem execDetectStage2Timeout (h : Kept u s) : out u (@Sys2Proof.Machine.execDetectStage2Timeout s) := by
  dsimp only [Sys2Proof.Machine.execDetectStage2Timeout]
  repeat' first
    | with_reducible assumption
    | with_reducible apply satAdd
    | with_reducible apply frontIdle
    | with_reducible apply foldl
    | with_reducible apply forRange
    | with_reducible apply out_next
    | with_reducible rfl
    | with_reducible exact id
    | with_reducible exact Nat.le_refl _
    | split
    | dsimp only
    | with_reducible apply upd
    | exact trivial
    | rfl
    | exact id
    | exact Nat.le_refl _
    | intro _

theorem execGen1SyncFound (h : Kept u s) {a0 a1} : out u (@Sys2Proof.Machine.execGen1SyncFound a0 a1 s) := by
  dsimp only [Sys2Proof.Machine.execGen1SyncFound]
  repeat' first
    | with_reducible assumption
    | with_reducible apply foldl
    | with_reducible apply forRange
    | with_reducible apply out_next
    | with_reducible rfl
    | with_reducible exact id
    | with_reducible exact Nat.le_refl _
    | split
    | dsimp only
    | with_reducible apply upd
    | exact trivial
    | rfl
    | exact id
    | exact Nat.le_refl _
    | intro _

theorem modemLast (h : Kept u s) {a1 a2 a3 a4 a5} : Kept u (@Sys2Proof.Machine.State.modemLast s a1 a2 a3 a4 a5) := by
  dsimp only [Sys2Proof.Machine.State.modemLast]
  repeat' first
    | with_reducible assumption
    | with_reducible apply wr
    | with_reducible apply foldl
    | with_reducible apply forRange
    | with_reducible rfl
    | with_reducible exact id
    | with_reducible exact Nat.le_refl _
    | split
    | dsimp only
    | with_reducible apply upd
    | exact trivial
    | rfl
    | exact id
    | exact Nat.le_refl _
    | intro _

theorem execHeaderDecoded (h : Kept u s) {a0 a1} : out u (@Sys2Proof.Machine.execHeaderDecoded a0 a1 s) := by
  dsimp only [Sys2Proof.Machine.execHeaderDecoded]
  repeat' first
    | with_reducible assumption
    | with_reducible apply event
    | with_reducible apply satAdd
    | with_reducible apply modemLast
    | with_reducible apply frontIdle
    | with_reducible apply wr
    | with_reducible apply foldl
    | with_reducible apply forRange
    | with_reducible apply out_next
    | with_reducible rfl
    | with_reducible exact id
    | with_reducible exact Nat.le_refl _
    | split
    | dsimp only
    | with_reducible apply upd
    | exact trivial
    | rfl
    | exact id
    | exact Nat.le_refl _
    | intro _

theorem ltsCode (h : Kept u s) {a1} : Kept u (@Sys2Proof.Machine.State.ltsCode s a1) := by
  dsimp only [Sys2Proof.Machine.State.ltsCode]
  repeat' first
    | with_reducible assumption
    | with_reducible apply wrF
    | with_reducible apply foldl
    | with_reducible apply forRange
    | with_reducible rfl
    | with_reducible exact id
    | with_reducible exact Nat.le_refl _
    | split
    | dsimp only
    | with_reducible apply upd
    | exact trivial
    | rfl
    | exact id
    | exact Nat.le_refl _
    | intro _

theorem ltsShow (h : Kept u s) {a1} : Kept u (@Sys2Proof.Machine.State.ltsShow s a1) := by
  dsimp only [Sys2Proof.Machine.State.ltsShow]
  repeat' first
    | with_reducible assumption
    | with_reducible apply forRange
    | with_reducible apply wr
    | with_reducible apply wrF
    | with_reducible apply foldl
    | with_reducible apply forRange
    | with_reducible rfl
    | with_reducible exact id
    | with_reducible exact Nat.le_refl _
    | split
    | dsimp only
    | with_reducible apply upd
    | exact trivial
    | rfl
    | exact id
    | exact Nat.le_refl _
    | intro _

theorem ltsPut (h : Kept u s) {a1 a2} : Kept u (@Sys2Proof.Machine.State.ltsPut s a1 a2).2 := by
  dsimp only [Sys2Proof.Machine.State.ltsPut]
  repeat' first
    | with_reducible assumption
    | with_reducible apply foldl
    | with_reducible apply forRange
    | with_reducible rfl
    | with_reducible exact id
    | with_reducible exact Nat.le_refl _
    | split
    | dsimp only
    | with_reducible apply upd
    | exact trivial
    | rfl
    | exact id
    | exact Nat.le_refl _
    | intro _

theorem execLtsWrite (h : Kept u s) {a0 a1} : out u (@Sys2Proof.Machine.execLtsWrite a0 a1 s) := by
  dsimp only [Sys2Proof.Machine.execLtsWrite]
  repeat' first
    | with_reducible assumption
    | with_reducible apply ltsCode
    | with_reducible apply ltsPut
    | with_reducible apply wrF
    | with_reducible apply foldl
    | with_reducible apply forRange
    | with_reducible apply out_next
    | (with_reducible apply snd_of; with_reducible assumption)
    | with_reducible rfl
    | with_reducible exact id
    | with_reducible exact Nat.le_refl _
    | split
    | dsimp only
    | with_reducible apply upd
    | exact trivial
    | rfl
    | exact id
    | exact Nat.le_refl _
    | intro _

theorem execLtsRead (h : Kept u s) {a0} : out u (@Sys2Proof.Machine.execLtsRead a0 s) := by
  dsimp only [Sys2Proof.Machine.execLtsRead]
  repeat' first
    | with_reducible assumption
    | with_reducible apply ltsCode
    | with_reducible apply ltsShow
    | with_reducible apply foldl
    | with_reducible apply forRange
    | with_reducible apply out_next
    | with_reducible rfl
    | with_reducible exact id
    | with_reducible exact Nat.le_refl _
    | split
    | dsimp only
    | with_reducible apply upd
    | exact trivial
    | rfl
    | exact id
    | exact Nat.le_refl _
    | intro _

theorem execLtsRemove (h : Kept u s) {a0} : out u (@Sys2Proof.Machine.execLtsRemove a0 s) := by
  dsimp only [Sys2Proof.Machine.execLtsRemove]
  repeat' first
    | with_reducible assumption
    | with_reducible apply ltsCode
    | with_reducible apply foldl
    | with_reducible apply forRange
    | with_reducible apply out_next
    | with_reducible rfl
    | with_reducible exact id
    | with_reducible exact Nat.le_refl _
    | split
    | dsimp only
    | with_reducible apply upd
    | exact trivial
    | rfl
    | exact id
    | exact Nat.le_refl _
    | intro _

theorem execLtsDerive (h : Kept u s) {a0} : out u (@Sys2Proof.Machine.execLtsDerive a0 s) := by
  dsimp only [Sys2Proof.Machine.execLtsDerive]
  repeat' first
    | with_reducible assumption
    | with_reducible apply ltsCode
    | with_reducible apply setB
    | with_reducible apply slip
    | with_reducible apply foldl
    | with_reducible apply forRange
    | with_reducible apply out_next
    | with_reducible rfl
    | with_reducible exact id
    | with_reducible exact Nat.le_refl _
    | split
    | dsimp only
    | with_reducible apply upd
    | exact trivial
    | rfl
    | exact id
    | exact Nat.le_refl _
    | intro _

theorem execLtsDeriveDone (h : Kept u s) : out u (@Sys2Proof.Machine.execLtsDeriveDone s) := by
  dsimp only [Sys2Proof.Machine.execLtsDeriveDone]
  repeat' first
    | with_reducible assumption
    | with_reducible apply setB
    | with_reducible apply ltsCode
    | with_reducible apply ltsShow
    | with_reducible apply slip
    | with_reducible apply foldl
    | with_reducible apply forRange
    | with_reducible apply out_next
    | with_reducible rfl
    | with_reducible exact id
    | with_reducible exact Nat.le_refl _
    | split
    | dsimp only
    | with_reducible apply upd
    | exact trivial
    | rfl
    | exact id
    | exact Nat.le_refl _
    | intro _

end Sys2Proof.Machine.Kept
end

