-- ==== Sys2Proof/Laws/Kept/Secure.lean ====
section
/-! SUPPORT. What the operations of the custodian, the tamper logic and the base of the link controller keep: each keeps the queue, the variant, the canonical forms and the
fuses (Laws/Kept.lean), from any state that keeps them. -/

namespace Sys2Proof.Machine.Kept

variable {u s t : State}

theorem fillKey (h : Kept u s) {a1 a2 a3} : Kept u (@Sys2Proof.Machine.State.fillKey s a1 a2 a3) := by
  dsimp only [Sys2Proof.Machine.State.fillKey]
  repeat' first
    | with_reducible assumption
    | with_reducible apply foldl
    | with_reducible apply forRange
    | with_reducible rfl
    | with_reducible exact id
    | with_reducible exact Nat.le_refl _
    | split
    | dsimp only
    | with_reducible apply upd
    | exact trivial
    | rfl
    | exact id
    | exact Nat.le_refl _
    | intro _

theorem purgeKeys (h : Kept u s) {a1} : Kept u (@Sys2Proof.Machine.State.purgeKeys s a1) := by
  dsimp only [Sys2Proof.Machine.State.purgeKeys]
  repeat' first
    | with_reducible assumption
    | with_reducible apply foldl
    | with_reducible apply forRange
    | with_reducible rfl
    | with_reducible exact id
    | with_reducible exact Nat.le_refl _
    | split
    | dsimp only
    | with_reducible apply upd
    | exact trivial
    | rfl
    | exact id
    | exact Nat.le_refl _
    | intro _

theorem audit (h : Kept u s) {a1} : Kept u (@Sys2Proof.Machine.State.audit s a1) := by
  dsimp only [Sys2Proof.Machine.State.audit]
  repeat' first
    | with_reducible assumption
    | with_reducible apply foldl
    | with_reducible apply forRange
    | with_reducible rfl
    | with_reducible exact id
    | with_reducible exact Nat.le_refl _
    | split
    | dsimp only
    | with_reducible apply upd
    | exact trivial
    | rfl
    | exact id
    | exact Nat.le_refl _
    | intro _

theorem setMb (h : Kept u s) {a1 a2} : Kept u (@Sys2Proof.Machine.State.setMb s a1 a2) := by
  dsimp only [Sys2Proof.Machine.State.setMb]
  repeat' first
    | with_reducible assumption
    | with_reducible apply foldl
    | with_reducible apply forRange
    | with_reducible rfl
    | with_reducible exact id
    | with_reducible exact Nat.le_refl _
    | split
    | dsimp only
    | with_reducible apply upd
    | exact trivial
    | rfl
    | exact id
    | exact Nat.le_refl _
    | intro _

theorem mbFree (h : Kept u s) {a1 a2} : Kept u (@Sys2Proof.Machine.State.mbFree s a1 a2) := by
  dsimp only [Sys2Proof.Machine.State.mbFree]
  repeat' first
    | with_reducible assumption
    | with_reducible apply setB
    | with_reducible apply foldl
    | with_reducible apply forRange
    | with_reducible rfl
    | with_reducible exact id
    | with_reducible exact Nat.le_refl _
    | split
    | dsimp only
    | with_reducible apply upd
    | exact trivial
    | rfl
    | exact id
    | exact Nat.le_refl _
    | intro _

theorem refuse (h : Kept u s) {a1 a2} : Kept u (@Sys2Proof.Machine.State.refuse s a1 a2) := by
  dsimp only [Sys2Proof.Machine.State.refuse]
  repeat' first
    | with_reducible assumption
    | with_reducible apply audit
    | with_reducible apply setMb
    | with_reducible apply foldl
    | with_reducible apply forRange
    | with_reducible rfl
    | with_reducible exact id
    | with_reducible exact Nat.le_refl _
    | split
    | dsimp only
    | with_reducible apply upd
    | exact trivial
    | rfl
    | exact id
    | exact Nat.le_refl _
    | intro _

theorem execSecmbDoorbell (h : Kept u s) {a0 a1} : out u (@Sys2Proof.Machine.execSecmbDoorbell a0 a1 s) := by
  dsimp only [Sys2Proof.Machine.execSecmbDoorbell]
  repeat' first
    | with_reducible assumption
    | with_reducible apply wr
    | with_reducible apply mbFree
    | with_reducible apply refuse
    | with_reducible apply setMb
    | with_reducible apply foldl
    | with_reducible apply forRange
    | with_reducible apply out_next
    | with_reducible rfl
    | with_reducible exact id
    | with_reducible exact Nat.le_refl _
    | split
    | dsimp only
    | with_reducible apply upd
    | exact trivial
    | rfl
    | exact id
    | exact Nat.le_refl _
    | intro _

theorem serve (h : Kept u s) {k n f} (hf : ∀ t, Kept u t → svc u (f t)) :
    Kept u (@Sys2Proof.Machine.State.serve s k n f) := by
  dsimp only [Sys2Proof.Machine.State.serve]
  split
  · split
    · exact refuse h
    · split
      · exact refuse h
      · next e => exact setMb (svc_of e (hf _ h))
  · exact h

theorem random (h : Kept u s) {a1} : exc2 u (@Sys2Proof.Machine.State.random s a1) := by
  dsimp only [Sys2Proof.Machine.State.random]
  repeat' first
    | with_reducible assumption
    | with_reducible apply takeFreeBytes
    | with_reducible apply foldl
    | with_reducible apply forRange
    | with_reducible apply exc2_ok
    | (with_reducible apply snd_of; with_reducible assumption)
    | with_reducible rfl
    | with_reducible exact id
    | with_reducible exact Nat.le_refl _
    | split
    | dsimp only
    | with_reducible apply upd
    | exact trivial
    | rfl
    | exact id
    | exact Nat.le_refl _
    | intro _

theorem execAesEcb (h : Kept u s) {a0} : out u (@Sys2Proof.Machine.execAesEcb a0 s) := by
  dsimp only [Sys2Proof.Machine.execAesEcb]
  repeat' first
    | with_reducible assumption
    | with_reducible apply serve
    | with_reducible apply foldl
    | with_reducible apply forRange
    | with_reducible apply out_next
    | with_reducible apply svc_ok
    | with_reducible rfl
    | with_reducible exact id
    | with_reducible exact Nat.le_refl _
    | split
    | dsimp only
    | with_reducible apply upd
    | exact trivial
    | rfl
    | exact id
    | exact Nat.le_refl _
    | intro _

theorem execAesCbc (h : Kept u s) {a0} : out u (@Sys2Proof.Machine.execAesCbc a0 s) := by
  dsimp only [Sys2Proof.Machine.execAesCbc]
  repeat' first
    | with_reducible assumption
    | with_reducible apply serve
    | with_reducible apply foldl
    | with_reducible apply forRange
    | with_reducible apply out_next
    | with_reducible apply svc_ok
    | with_reducible rfl
    | with_reducible exact id
    | with_reducible exact Nat.le_refl _
    | split
    | dsimp only
    | with_reducible apply upd
    | exact trivial
    | rfl
    | exact id
    | exact Nat.le_refl _
    | intro _

theorem execAesCtr (h : Kept u s) {a0} : out u (@Sys2Proof.Machine.execAesCtr a0 s) := by
  dsimp only [Sys2Proof.Machine.execAesCtr]
  repeat' first
    | with_reducible assumption
    | with_reducible apply serve
    | with_reducible apply foldl
    | with_reducible apply forRange
    | with_reducible apply out_next
    | with_reducible apply svc_ok
    | with_reducible rfl
    | with_reducible exact id
    | with_reducible exact Nat.le_refl _
    | split
    | dsimp only
    | with_reducible apply upd
    | exact trivial
    | rfl
    | exact id
    | exact Nat.le_refl _
    | intro _

theorem execAesCcm (h : Kept u s) {a0} : out u (@Sys2Proof.Machine.execAesCcm a0 s) := by
  dsimp only [Sys2Proof.Machine.execAesCcm]
  repeat' first
    | with_reducible assumption
    | with_reducible apply serve
    | with_reducible apply foldl
    | with_reducible apply forRange
    | with_reducible apply out_next
    | with_reducible apply svc_ok
    | with_reducible rfl
    | with_reducible exact id
    | with_reducible exact Nat.le_refl _
    | split
    | dsimp only
    | with_reducible apply upd
    | exact trivial
    | rfl
    | exact id
    | exact Nat.le_refl _
    | intro _

theorem execAesCmac (h : Kept u s) {a0} : out u (@Sys2Proof.Machine.execAesCmac a0 s) := by
  dsimp only [Sys2Proof.Machine.execAesCmac]
  repeat' first
    | with_reducible assumption
    | with_reducible apply serve
    | with_reducible apply foldl
    | with_reducible apply forRange
    | with_reducible apply out_next
    | with_reducible apply svc_ok
    | with_reducible rfl
    | with_reducible exact id
    | with_reducible exact Nat.le_refl _
    | split
    | dsimp only
    | with_reducible apply upd
    | exact trivial
    | rfl
    | exact id
    | exact Nat.le_refl _
    | intro _

theorem digest (h : Kept u s) {a1 a2} : Kept u (@Sys2Proof.Machine.State.digest s a1 a2).st := by
  dsimp only [Sys2Proof.Machine.State.digest]
  repeat' first
    | with_reducible assumption
    | with_reducible apply foldl
    | with_reducible apply forRange
    | with_reducible rfl
    | with_reducible exact id
    | with_reducible exact Nat.le_refl _
    | split
    | dsimp only
    | with_reducible apply upd
    | exact trivial
    | rfl
    | exact id
    | exact Nat.le_refl _
    | intro _

theorem execSha256 (h : Kept u s) {a0} : out u (@Sys2Proof.Machine.execSha256 a0 s) := by
  dsimp only [Sys2Proof.Machine.execSha256]
  repeat' first
    | with_reducible assumption
    | with_reducible apply serve
    | with_reducible apply digest
    | with_reducible apply foldl
    | with_reducible apply forRange
    | with_reducible apply out_next
    | with_reducible apply svc_ok
    | with_reducible rfl
    | with_reducible exact id
    | with_reducible exact Nat.le_refl _
    | split
    | dsimp only
    | with_reducible apply upd
    | exact trivial
    | rfl
    | exact id
    | exact Nat.le_refl _
    | intro _

theorem execHmac (h : Kept u s) {a0} : out u (@Sys2Proof.Machine.execHmac a0 s) := by
  dsimp only [Sys2Proof.Machine.execHmac]
  repeat' first
    | with_reducible assumption
    | with_reducible apply serve
    | with_reducible apply digest
    | with_reducible apply foldl
    | with_reducible apply forRange
    | with_reducible apply out_next
    | with_reducible apply svc_ok
    | with_reducible rfl
    | with_reducible exact id
    | with_reducible exact Nat.le_refl _
    | split
    | dsimp only
    | with_reducible apply upd
    | exact trivial
    | rfl
    | exact id
    | exact Nat.le_refl _
    | intro _

theorem execEcdsaSign (h : Kept u s) {a0} : out u (@Sys2Proof.Machine.execEcdsaSign a0 s) := by
  dsimp only [Sys2Proof.Machine.execEcdsaSign]
  repeat' first
    | with_reducible assumption
    | with_reducible apply serve
    | with_reducible apply random
    | with_reducible apply foldl
    | with_reducible apply forRange
    | with_reducible apply out_next
    | with_reducible apply svc_ok
    | (with_reducible apply exc2_of; with_reducible assumption)
    | with_reducible rfl
    | with_reducible exact id
    | with_reducible exact Nat.le_refl _
    | split
    | dsimp only
    | with_reducible apply upd
    | exact trivial
    | rfl
    | exact id
    | exact Nat.le_refl _
    | intro _

theorem execEcdsaVerify (h : Kept u s) {a0} : out u (@Sys2Proof.Machine.execEcdsaVerify a0 s) := by
  dsimp only [Sys2Proof.Machine.execEcdsaVerify]
  repeat' first
    | with_reducible assumption
    | with_reducible apply serve
    | with_reducible apply foldl
    | with_reducible apply forRange
    | with_reducible apply out_next
    | with_reducible apply svc_ok
    | with_reducible rfl
    | with_reducible exact id
    | with_reducible exact Nat.le_refl _
    | split
    | dsimp only
    | with_reducible apply upd
    | exact trivial
    | rfl
    | exact id
    | exact Nat.le_refl _
    | intro _

theorem execEcdh (h : Kept u s) {a0} : out u (@Sys2Proof.Machine.execEcdh a0 s) := by
  dsimp only [Sys2Proof.Machine.execEcdh]
  repeat' first
    | with_reducible assumption
    | with_reducible apply serve
    | with_reducible apply fillKey
    | with_reducible apply foldl
    | with_reducible apply forRange
    | with_reducible apply out_next
    | with_reducible apply svc_ok
    | with_reducible rfl
    | with_reducible exact id
    | with_reducible exact Nat.le_refl _
    | split
    | dsimp only
    | with_reducible apply upd
    | exact trivial
    | rfl
    | exact id
    | exact Nat.le_refl _
    | intro _

theorem spendMaking (h : Kept u s) {a1} : Kept u (@Sys2Proof.Machine.State.spendMaking s a1) := by
  dsimp only [Sys2Proof.Machine.State.spendMaking]
  repeat' first
    | with_reducible assumption
    | with_reducible apply foldl
    | with_reducible apply forRange
    | with_reducible rfl
    | with_reducible exact id
    | with_reducible exact Nat.le_refl _
    | split
    | dsimp only
    | with_reducible apply upd
    | exact trivial
    | rfl
    | exact id
    | exact Nat.le_refl _
    | intro _

theorem execEcKeygen (h : Kept u s) {a0} : out u (@Sys2Proof.Machine.execEcKeygen a0 s) := by
  dsimp only [Sys2Proof.Machine.execEcKeygen]
  repeat' first
    | with_reducible assumption
    | with_reducible apply spendMaking
    | with_reducible apply serve
    | with_reducible apply random
    | with_reducible apply fillKey
    | with_reducible apply foldl
    | with_reducible apply forRange
    | with_reducible apply out_next
    | with_reducible apply svc_ok
    | (with_reducible apply exc2_of; with_reducible assumption)
    | with_reducible rfl
    | with_reducible exact id
    | with_reducible exact Nat.le_refl _
    | split
    | dsimp only
    | with_reducible apply upd
    | exact trivial
    | rfl
    | exact id
    | exact Nat.le_refl _
    | intro _

theorem execKeyDerive (h : Kept u s) {a0} : out u (@Sys2Proof.Machine.execKeyDerive a0 s) := by
  dsimp only [Sys2Proof.Machine.execKeyDerive]
  repeat' first
    | with_reducible assumption
    | with_reducible apply serve
    | with_reducible apply fillKey
    | with_reducible apply foldl
    | with_reducible apply forRange
    | with_reducible apply out_next
    | with_reducible apply svc_ok
    | with_reducible rfl
    | with_reducible exact id
    | with_reducible exact Nat.le_refl _
    | split
    | dsimp only
    | with_reducible apply upd
    | exact trivial
    | rfl
    | exact id
    | exact Nat.le_refl _
    | intro _

theorem execRandom (h : Kept u s) {a0} : out u (@Sys2Proof.Machine.execRandom a0 s) := by
  dsimp only [Sys2Proof.Machine.execRandom]
  repeat' first
    | with_reducible assumption
    | with_reducible apply serve
    | with_reducible apply random
    | with_reducible apply foldl
    | with_reducible apply forRange
    | with_reducible apply out_next
    | with_reducible apply svc_ok
    | (with_reducible apply exc2_of; with_reducible assumption)
    | with_reducible rfl
    | with_reducible exact id
    | with_reducible exact Nat.le_refl _
    | split
    | dsimp only
    | with_reducible apply upd
    | exact trivial
    | rfl
    | exact id
    | exact Nat.le_refl _
    | intro _

theorem execKeyImport (h : Kept u s) {a0} : out u (@Sys2Proof.Machine.execKeyImport a0 s) := by
  dsimp only [Sys2Proof.Machine.execKeyImport]
  repeat' first
    | with_reducible assumption
    | with_reducible apply serve
    | with_reducible apply fillKey
    | with_reducible apply foldl
    | with_reducible apply forRange
    | with_reducible apply out_next
    | with_reducible apply svc_ok
    | with_reducible rfl
    | with_reducible exact id
    | with_reducible exact Nat.le_refl _
    | split
    | dsimp only
    | with_reducible apply upd
    | exact trivial
    | rfl
    | exact id
    | exact Nat.le_refl _
    | intro _

theorem execKeyExport (h : Kept u s) {a0} : out u (@Sys2Proof.Machine.execKeyExport a0 s) := by
  dsimp only [Sys2Proof.Machine.execKeyExport]
  repeat' first
    | with_reducible assumption
    | with_reducible apply serve
    | with_reducible apply random
    | with_reducible apply foldl
    | with_reducible apply forRange
    | with_reducible apply out_next
    | with_reducible apply svc_ok
    | (with_reducible apply exc2_of; with_reducible assumption)
    | with_reducible rfl
    | with_reducible exact id
    | with_reducible exact Nat.le_refl _
    | split
    | dsimp only
    | with_reducible apply upd
    | exact trivial
    | rfl
    | exact id
    | exact Nat.le_refl _
    | intro _

theorem execKeyPurge (h : Kept u s) {a0} : out u (@Sys2Proof.Machine.execKeyPurge a0 s) := by
  dsimp only [Sys2Proof.Machine.execKeyPurge]
  repeat' first
    | with_reducible assumption
    | with_reducible apply serve
    | with_reducible apply purgeKeys
    | with_reducible apply foldl
    | with_reducible apply forRange
    | with_reducible apply out_next
    | with_reducible apply svc_ok
    | with_reducible rfl
    | with_reducible exact id
    | with_reducible exact Nat.le_refl _
    | split
    | dsimp only
    | with_reducible apply upd
    | exact trivial
    | rfl
    | exact id
    | exact Nat.le_refl _
    | intro _

theorem execKeyInfo (h : Kept u s) {a0} : out u (@Sys2Proof.Machine.execKeyInfo a0 s) := by
  dsimp only [Sys2Proof.Machine.execKeyInfo]
  repeat' first
    | with_reducible assumption
    | with_reducible apply serve
    | with_reducible apply foldl
    | with_reducible apply forRange
    | with_reducible apply out_next
    | with_reducible apply svc_ok
    | with_reducible rfl
    | with_reducible exact id
    | with_reducible exact Nat.le_refl _
    | split
    | dsimp only
    | with_reducible apply upd
    | exact trivial
    | rfl
    | exact id
    | exact Nat.le_refl _
    | intro _

theorem execKeyRestrict (h : Kept u s) {a0} : out u (@Sys2Proof.Machine.execKeyRestrict a0 s) := by
  dsimp only [Sys2Proof.Machine.execKeyRestrict]
  repeat' first
    | with_reducible assumption
    | with_reducible apply serve
    | with_reducible apply fillKey
    | with_reducible apply foldl
    | with_reducible apply forRange
    | with_reducible apply out_next
    | with_reducible apply svc_ok
    | with_reducible rfl
    | with_reducible exact id
    | with_reducible exact Nat.le_refl _
    | split
    | dsimp only
    | with_reducible apply upd
    | exact trivial
    | rfl
    | exact id
    | exact Nat.le_refl _
    | intro _

theorem identitySign (h : Kept u s) {a1} : exc2 u (@Sys2Proof.Machine.State.identitySign s a1) := by
  dsimp only [Sys2Proof.Machine.State.identitySign]
  repeat' first
    | with_reducible assumption
    | with_reducible apply random
    | with_reducible apply foldl
    | with_reducible apply forRange
    | with_reducible apply exc2_ok
    | (with_reducible apply exc2_of; with_reducible assumption)
    | with_reducible rfl
    | with_reducible exact id
    | with_reducible exact Nat.le_refl _
    | split
    | dsimp only
    | with_reducible apply upd
    | exact trivial
    | rfl
    | exact id
    | exact Nat.le_refl _
    | intro _

theorem execIdChallenge (h : Kept u s) {a0} : out u (@Sys2Proof.Machine.execIdChallenge a0 s) := by
  dsimp only [Sys2Proof.Machine.execIdChallenge]
  repeat' first
    | with_reducible assumption
    | with_reducible apply serve
    | with_reducible apply identitySign
    | with_reducible apply foldl
    | with_reducible apply forRange
    | with_reducible apply out_next
    | with_reducible apply svc_ok
    | (with_reducible apply exc2_of; with_reducible assumption)
    | with_reducible rfl
    | with_reducible exact id
    | with_reducible exact Nat.le_refl _
    | split
    | dsimp only
    | with_reducible apply upd
    | exact trivial
    | rfl
    | exact id
    | exact Nat.le_refl _
    | intro _

theorem execAttest (h : Kept u s) {a0} : out u (@Sys2Proof.Machine.execAttest a0 s) := by
  dsimp only [Sys2Proof.Machine.execAttest]
  repeat' first
    | with_reducible assumption
    | with_reducible apply serve
    | with_reducible apply identitySign
    | with_reducible apply random
    | with_reducible apply foldl
    | with_reducible apply forRange
    | with_reducible apply out_next
    | with_reducible apply svc_ok
    | (with_reducible apply exc2_of; with_reducible assumption)
    | with_reducible rfl
    | with_reducible exact id
    | with_reducible exact Nat.le_refl _
    | split
    | dsimp only
    | with_reducible apply upd
    | exact trivial
    | rfl
    | exact id
    | exact Nat.le_refl _
    | intro _

theorem execUnlockNonce (h : Kept u s) {a0} : out u (@Sys2Proof.Machine.execUnlockNonce a0 s) := by
  dsimp only [Sys2Proof.Machine.execUnlockNonce]
  repeat' first
    | with_reducible assumption
    | with_reducible apply serve
    | with_reducible apply random
    | with_reducible apply foldl
    | with_reducible apply forRange
    | with_reducible apply out_next
    | with_reducible apply svc_ok
    | (with_reducible apply exc2_of; with_reducible assumption)
    | with_reducible rfl
    | with_reducible exact id
    | with_reducible exact Nat.le_refl _
    | split
    | dsimp only
    | with_reducible apply upd
    | exact trivial
    | rfl
    | exact id
    | exact Nat.le_refl _
    | intro _

theorem spendNonce (h : Kept u s) : Kept u (@Sys2Proof.Machine.State.spendNonce s) := by
  dsimp only [Sys2Proof.Machine.State.spendNonce]
  repeat' first
    | with_reducible assumption
    | with_reducible apply foldl
    | with_reducible apply forRange
    | with_reducible rfl
    | with_reducible exact id
    | with_reducible exact Nat.le_refl _
    | split
    | dsimp only
    | with_reducible apply upd
    | exact trivial
    | rfl
    | exact id
    | exact Nat.le_refl _
    | intro _

theorem openDebug (h : Kept u s) : Kept u (@Sys2Proof.Machine.State.openDebug s) := by
  dsimp only [Sys2Proof.Machine.State.openDebug]
  repeat' first
    | with_reducible assumption
    | with_reducible apply foldl
    | with_reducible apply forRange
    | with_reducible rfl
    | with_reducible exact id
    | with_reducible exact Nat.le_refl _
    | split
    | dsimp only
    | with_reducible apply upd
    | exact trivial
    | rfl
    | exact id
    | exact Nat.le_refl _
    | intro _

theorem execUnlock (h : Kept u s) {a0} : out u (@Sys2Proof.Machine.execUnlock a0 s) := by
  dsimp only [Sys2Proof.Machine.execUnlock]
  repeat' first
    | with_reducible assumption
    | with_reducible apply serve
    | with_reducible apply openDebug
    | with_reducible apply spendNonce
    | with_reducible apply foldl
    | with_reducible apply forRange
    | with_reducible apply out_next
    | with_reducible apply svc_ok
    | with_reducible rfl
    | with_reducible exact id
    | with_reducible exact Nat.le_refl _
    | split
    | dsimp only
    | with_reducible apply upd
    | exact trivial
    | rfl
    | exact id
    | exact Nat.le_refl _
    | intro _

theorem execMailboxRequestDone (h : Kept u s) {a0} : out u (@Sys2Proof.Machine.execMailboxRequestDone a0 s) := by
  dsimp only [Sys2Proof.Machine.execMailboxRequestDone]
  repeat' first
    | with_reducible assumption
    | with_reducible apply putBytes
    | with_reducible apply forRange
    | with_reducible apply wr
    | with_reducible apply setB
    | with_reducible apply event
    | with_reducible apply setMb
    | with_reducible apply foldl
    | with_reducible apply forRange
    | with_reducible apply out_next
    | with_reducible rfl
    | with_reducible exact id
    | with_reducible exact Nat.le_refl _
    | split
    | dsimp only
    | with_reducible apply upd
    | exact trivial
    | rfl
    | exact id
    | exact Nat.le_refl _
    | intro _

theorem execRefusalWindowEnd (h : Kept u s) {a0} : out u (@Sys2Proof.Machine.execRefusalWindowEnd a0 s) := by
  dsimp only [Sys2Proof.Machine.execRefusalWindowEnd]
  repeat' first
    | with_reducible assumption
    | with_reducible apply wr
    | with_reducible apply putBytes
    | with_reducible apply event
    | with_reducible apply setMb
    | with_reducible apply setB
    | with_reducible apply foldl
    | with_reducible apply forRange
    | with_reducible apply out_next
    | with_reducible rfl
    | with_reducible exact id
    | with_reducible exact Nat.le_refl _
    | split
    | dsimp only
    | with_reducible apply upd
    | exact trivial
    | rfl
    | exact id
    | exact Nat.le_refl _
    | intro _

theorem execSecmbDoneClear (h : Kept u s) {a0} : out u (@Sys2Proof.Machine.execSecmbDoneClear a0 s) := by
  dsimp only [Sys2Proof.Machine.execSecmbDoneClear]
  repeat' first
    | with_reducible assumption
    | with_reducible apply setMb
    | with_reducible apply mbFree
    | with_reducible apply setB
    | with_reducible apply eventIf
    | with_reducible apply foldl
    | with_reducible apply forRange
    | with_reducible apply out_next
    | with_reducible rfl
    | with_reducible exact id
    | with_reducible exact Nat.le_refl _
    | split
    | dsimp only
    | with_reducible apply upd
    | exact trivial
    | rfl
    | exact id
    | exact Nat.le_refl _
    | intro _

theorem refuseAll (h : Kept u s) {a1 a2} : Kept u (@Sys2Proof.Machine.State.refuseAll s a1 a2) :=
  forRange h (fun _ _ ht => ite' (refuse ht) ht)

theorem execTrngHealthFail (h : Kept u s) : out u (@Sys2Proof.Machine.execTrngHealthFail s) := by
  dsimp only [Sys2Proof.Machine.execTrngHealthFail]
  repeat' first
    | with_reducible assumption
    | with_reducible apply setB
    | with_reducible apply refuseAll
    | with_reducible apply foldl
    | with_reducible apply forRange
    | with_reducible apply out_next
    | with_reducible rfl
    | with_reducible exact id
    | with_reducible exact Nat.le_refl _
    | split
    | dsimp only
    | with_reducible apply upd
    | exact trivial
    | rfl
    | exact id
    | exact Nat.le_refl _
    | intro _

theorem execTrngRestartDone (h : Kept u s) : out u (@Sys2Proof.Machine.execTrngRestartDone s) := by
  dsimp only [Sys2Proof.Machine.execTrngRestartDone]
  repeat' first
    | with_reducible assumption
    | with_reducible apply foldl
    | with_reducible apply forRange
    | with_reducible apply out_next
    | with_reducible rfl
    | with_reducible exact id
    | with_reducible exact Nat.le_refl _
    | split
    | dsimp only
    | with_reducible apply upd
    | exact trivial
    | rfl
    | exact id
    | exact Nat.le_refl _
    | intro _

theorem loadKeys (h : Kept u s) : Kept u (@Sys2Proof.Machine.State.loadKeys s) := by
  dsimp only [Sys2Proof.Machine.State.loadKeys]
  repeat' first
    | with_reducible assumption
    | with_reducible apply foldl
    | with_reducible apply forRange
    | with_reducible rfl
    | with_reducible exact id
    | with_reducible exact Nat.le_refl _
    | split
    | dsimp only
    | with_reducible apply upd
    | exact trivial
    | rfl
    | exact id
    | exact Nat.le_refl _
    | intro _

theorem enclaveRestart (h : Kept u s) : Kept u (@Sys2Proof.Machine.State.enclaveRestart s) := by
  dsimp only [Sys2Proof.Machine.State.enclaveRestart]
  repeat' first
    | with_reducible assumption
    | with_reducible apply loadKeys
    | with_reducible apply refuseAll
    | with_reducible apply foldl
    | with_reducible apply forRange
    | with_reducible rfl
    | with_reducible exact id
    | with_reducible exact Nat.le_refl _
    | split
    | dsimp only
    | with_reducible apply upd
    | exact trivial
    | rfl
    | exact id
    | exact Nat.le_refl _
    | intro _

theorem setQd (h : Kept u s) {a1 a2} : Kept u (@Sys2Proof.Machine.State.setQd s a1 a2) := by
  dsimp only [Sys2Proof.Machine.State.setQd]
  repeat' first
    | with_reducible assumption
    | with_reducible apply foldl
    | with_reducible apply forRange
    | with_reducible rfl
    | with_reducible exact id
    | with_reducible exact Nat.le_refl _
    | split
    | dsimp only
    | with_reducible apply upd
    | exact trivial
    | rfl
    | exact id
    | exact Nat.le_refl _
    | intro _

theorem setCell (h : Kept u s) {a1 a2} : Kept u (@Sys2Proof.Machine.State.setCell s a1 a2) := by
  dsimp only [Sys2Proof.Machine.State.setCell]
  repeat' first
    | with_reducible assumption
    | with_reducible apply foldl
    | with_reducible apply forRange
    | with_reducible rfl
    | with_reducible exact id
    | with_reducible exact Nat.le_refl _
    | split
    | dsimp only
    | with_reducible apply upd
    | exact trivial
    | rfl
    | exact id
    | exact Nat.le_refl _
    | intro _

theorem fillCells (h : Kept u s) {a1 a2} : Kept u (@Sys2Proof.Machine.State.fillCells s a1 a2) := by
  induction a1 generalizing s a2 with
  | nil =>
    unfold Sys2Proof.Machine.State.fillCells
    repeat' first
      | with_reducible assumption
      | with_reducible apply putBytes
      | with_reducible apply foldl
      | with_reducible apply forRange
      | with_reducible rfl
      | with_reducible exact id
      | with_reducible exact Nat.le_refl _
      | split
      | dsimp only
      | with_reducible apply upd
      | exact trivial
      | rfl
      | exact id
      | exact Nat.le_refl _
      | intro _
  | cons x l ih =>
    unfold Sys2Proof.Machine.State.fillCells
    repeat' first
      | with_reducible assumption
      | with_reducible apply ih
      | with_reducible apply putBytes
      | with_reducible apply foldl
      | with_reducible apply forRange
      | with_reducible rfl
      | with_reducible exact id
      | with_reducible exact Nat.le_refl _
      | split
      | dsimp only
      | with_reducible apply upd
      | exact trivial
      | rfl
      | exact id
      | exact Nat.le_refl _
      | intro _

theorem ownCells (h : Kept u s) {a1 a2} : Kept u (@Sys2Proof.Machine.State.ownCells s a1 a2) := by
  dsimp only [Sys2Proof.Machine.State.ownCells]
  repeat' first
    | with_reducible assumption
    | with_reducible apply setCell
    | with_reducible apply foldl
    | with_reducible apply forRange
    | with_reducible rfl
    | with_reducible exact id
    | with_reducible exact Nat.le_refl _
    | split
    | dsimp only
    | with_reducible apply upd
    | exact trivial
    | rfl
    | exact id
    | exact Nat.le_refl _
    | intro _

theorem classFrames (h : Kept u s) {a1 a2 a3} : Kept u (@Sys2Proof.Machine.State.classFrames s a1 a2 a3) := by
  dsimp only [Sys2Proof.Machine.State.classFrames]
  repeat' first
    | with_reducible assumption
    | with_reducible apply wrF
    | with_reducible apply eventIf
    | with_reducible apply foldl
    | with_reducible apply forRange
    | with_reducible rfl
    | with_reducible exact id
    | with_reducible exact Nat.le_refl _
    | split
    | dsimp only
    | with_reducible apply upd
    | exact trivial
    | rfl
    | exact id
    | exact Nat.le_refl _
    | intro _

theorem setRing (h : Kept u s) {a1 a2} : Kept u (@Sys2Proof.Machine.State.setRing s a1 a2) := by
  dsimp only [Sys2Proof.Machine.State.setRing]
  repeat' first
    | with_reducible assumption
    | with_reducible apply wrF
    | with_reducible apply foldl
    | with_reducible apply forRange
    | with_reducible rfl
    | with_reducible exact id
    | with_reducible exact Nat.le_refl _
    | split
    | dsimp only
    | with_reducible apply upd
    | exact trivial
    | rfl
    | exact id
    | exact Nat.le_refl _
    | intro _

theorem putQ (h : Kept u s) {a1 a2} : Kept u (@Sys2Proof.Machine.State.putQ s a1 a2) := by
  dsimp only [Sys2Proof.Machine.State.putQ]
  repeat' first
    | with_reducible assumption
    | with_reducible apply setRing
    | with_reducible apply setQd
    | with_reducible apply foldl
    | with_reducible apply forRange
    | with_reducible rfl
    | with_reducible exact id
    | with_reducible exact Nat.le_refl _
    | split
    | dsimp only
    | with_reducible apply upd
    | exact trivial
    | rfl
    | exact id
    | exact Nat.le_refl _
    | intro _

theorem linkCells (h : Kept u s) {a1 a2} : Kept u (@Sys2Proof.Machine.State.linkCells s a1 a2) := by
  induction a1 generalizing s a2 with
  | nil => exact h
  | cons x l ih =>
    cases l with
    | nil => exact setCell h
    | cons d t => exact ih (setCell h)

theorem alloc (h : Kept u s) {a1} : Kept u (@Sys2Proof.Machine.State.alloc s a1).2.2 := by
  dsimp only [Sys2Proof.Machine.State.alloc]
  repeat' first
    | with_reducible assumption
    | with_reducible apply linkCells
    | with_reducible apply foldl
    | with_reducible apply forRange
    | with_reducible rfl
    | with_reducible exact id
    | with_reducible exact Nat.le_refl _
    | split
    | dsimp only
    | with_reducible apply upd
    | exact trivial
    | rfl
    | exact id
    | exact Nat.le_refl _
    | intro _

theorem releaseFrame (h : Kept u s) {a1} : Kept u (@Sys2Proof.Machine.State.releaseFrame s a1).2 := by
  dsimp only [Sys2Proof.Machine.State.releaseFrame]
  repeat' first
    | with_reducible assumption
    | with_reducible apply ownCells
    | with_reducible apply foldl
    | with_reducible apply forRange
    | with_reducible rfl
    | with_reducible exact id
    | with_reducible exact Nat.le_refl _
    | split
    | dsimp only
    | with_reducible apply upd
    | exact trivial
    | rfl
    | exact id
    | exact Nat.le_refl _
    | intro _

theorem shown {r : QRes} (h : Kept u r.s) : Kept u (@Sys2Proof.Machine.QRes.shown r).s := openTaken h

theorem qFull (h : Kept u s) {a1} : Kept u (@Sys2Proof.Machine.State.qFull s a1).s := by
  dsimp only [Sys2Proof.Machine.State.qFull]
  repeat' first
    | with_reducible assumption
    | with_reducible apply satAdd
    | with_reducible apply setQd
    | with_reducible apply foldl
    | with_reducible apply forRange
    | with_reducible rfl
    | with_reducible exact id
    | with_reducible exact Nat.le_refl _
    | split
    | dsimp only
    | with_reducible apply upd
    | exact trivial
    | rfl
    | exact id
    | exact Nat.le_refl _
    | intro _

theorem append (h : Kept u s) {a1 a2 a3} : Kept u (@Sys2Proof.Machine.State.append s a1 a2 a3) := by
  dsimp only [Sys2Proof.Machine.State.append]
  repeat' first
    | with_reducible assumption
    | with_reducible apply ownCells
    | with_reducible apply setCell
    | with_reducible apply putQ
    | with_reducible apply classFrames
    | with_reducible apply foldl
    | with_reducible apply forRange
    | with_reducible rfl
    | with_reducible exact id
    | with_reducible exact Nat.le_refl _
    | split
    | dsimp only
    | with_reducible apply upd
    | exact trivial
    | rfl
    | exact id
    | exact Nat.le_refl _
    | intro _

theorem dropRetries (h : Kept u s) {a1} : Kept u (@Sys2Proof.Machine.State.dropRetries s a1) := by
  dsimp only [Sys2Proof.Machine.State.dropRetries]
  repeat' first
    | with_reducible assumption
    | with_reducible apply foldl
    | with_reducible apply forRange
    | with_reducible rfl
    | with_reducible exact id
    | with_reducible exact Nat.le_refl _
    | split
    | dsimp only
    | with_reducible apply upd
    | exact trivial
    | rfl
    | exact id
    | exact Nat.le_refl _
    | intro _

theorem unlinkHead (h : Kept u s) {a1} : Kept u (@Sys2Proof.Machine.State.unlinkHead s a1) := by
  dsimp only [Sys2Proof.Machine.State.unlinkHead]
  repeat' first
    | with_reducible assumption
    | with_reducible apply dropRetries
    | with_reducible apply setCell
    | with_reducible apply putQ
    | with_reducible apply classFrames
    | with_reducible apply foldl
    | with_reducible apply forRange
    | with_reducible rfl
    | with_reducible exact id
    | with_reducible exact Nat.le_refl _
    | split
    | dsimp only
    | with_reducible apply upd
    | exact trivial
    | rfl
    | exact id
    | exact Nat.le_refl _
    | intro _

theorem endHold (h : Kept u s) {a1} : Kept u (@Sys2Proof.Machine.State.endHold s a1) := by
  dsimp only [Sys2Proof.Machine.State.endHold]
  repeat' first
    | with_reducible assumption
    | with_reducible apply satAdd
    | with_reducible apply ownCells
    | with_reducible apply unlinkHead
    | with_reducible apply foldl
    | with_reducible apply forRange
    | with_reducible rfl
    | with_reducible exact id
    | with_reducible exact Nat.le_refl _
    | split
    | dsimp only
    | with_reducible apply upd
    | exact trivial
    | rfl
    | exact id
    | exact Nat.le_refl _
    | intro _

theorem freeFlushed (h : Kept u s) {a1} : Kept u (@Sys2Proof.Machine.State.freeFlushed s a1).s := by
  dsimp only [Sys2Proof.Machine.State.freeFlushed]
  repeat' first
    | with_reducible assumption
    | with_reducible apply ownCells
    | with_reducible apply satAdd
    | with_reducible apply foldl
    | with_reducible apply forRange
    | with_reducible rfl
    | with_reducible exact id
    | with_reducible exact Nat.le_refl _
    | split
    | dsimp only
    | with_reducible apply upd
    | exact trivial
    | rfl
    | exact id
    | exact Nat.le_refl _
    | intro _

theorem qEnqueue (h : Kept u s) {a1 a2 a3} : Kept u (@Sys2Proof.Machine.State.qEnqueue s a1 a2 a3).s := by
  dsimp only [Sys2Proof.Machine.State.qEnqueue]
  repeat' first
    | with_reducible assumption
    | with_reducible apply qFull
    | with_reducible apply freeFlushed
    | with_reducible apply append
    | with_reducible apply foldl
    | with_reducible apply forRange
    | with_reducible rfl
    | with_reducible exact id
    | with_reducible exact Nat.le_refl _
    | split
    | dsimp only
    | with_reducible apply upd
    | exact trivial
    | rfl
    | exact id
    | exact Nat.le_refl _
    | intro _

theorem qDequeue (h : Kept u s) {a1 a2 a3} : Kept u (@Sys2Proof.Machine.State.qDequeue s a1 a2 a3).s := by
  dsimp only [Sys2Proof.Machine.State.qDequeue]
  repeat' first
    | with_reducible assumption
    | with_reducible apply endHold
    | with_reducible apply ownCells
    | with_reducible apply unlinkHead
    | with_reducible apply foldl
    | with_reducible apply forRange
    | with_reducible rfl
    | with_reducible exact id
    | with_reducible exact Nat.le_refl _
    | split
    | dsimp only
    | with_reducible apply upd
    | exact trivial
    | rfl
    | exact id
    | exact Nat.le_refl _
    | intro _

theorem qPeek (h : Kept u s) {a1 a2} : Kept u (@Sys2Proof.Machine.State.qPeek s a1 a2).s := by
  dsimp only [Sys2Proof.Machine.State.qPeek]
  repeat' first
    | with_reducible assumption
    | with_reducible apply foldl
    | with_reducible apply forRange
    | with_reducible rfl
    | with_reducible exact id
    | with_reducible exact Nat.le_refl _
    | split
    | dsimp only
    | with_reducible apply upd
    | exact trivial
    | rfl
    | exact id
    | exact Nat.le_refl _
    | intro _

theorem qMove (h : Kept u s) {a1 a2 a3 a4} : Kept u (@Sys2Proof.Machine.State.qMove s a1 a2 a3 a4).s := by
  dsimp only [Sys2Proof.Machine.State.qMove]
  repeat' first
    | with_reducible assumption
    | with_reducible apply qFull
    | with_reducible apply unlinkHead
    | with_reducible apply freeFlushed
    | with_reducible apply append
    | with_reducible apply foldl
    | with_reducible apply forRange
    | with_reducible rfl
    | with_reducible exact id
    | with_reducible exact Nat.le_refl _
    | split
    | dsimp only
    | with_reducible apply upd
    | exact trivial
    | rfl
    | exact id
    | exact Nat.le_refl _
    | intro _

theorem freeFrames (h : Kept u s) {a1 a2} : Kept u (@Sys2Proof.Machine.State.freeFrames s a1 a2) := by
  induction a2 generalizing s a1 with
  | zero =>
    unfold Sys2Proof.Machine.State.freeFrames
    repeat' first
      | with_reducible assumption
      | with_reducible apply ownCells
      | with_reducible apply unlinkHead
      | with_reducible apply foldl
      | with_reducible apply forRange
      | with_reducible rfl
      | with_reducible exact id
      | with_reducible exact Nat.le_refl _
      | split
      | dsimp only
      | with_reducible apply upd
      | exact trivial
      | rfl
      | exact id
      | exact Nat.le_refl _
      | intro _
  | succ n ih =>
    unfold Sys2Proof.Machine.State.freeFrames
    repeat' first
      | with_reducible assumption
      | with_reducible apply ih
      | with_reducible apply ownCells
      | with_reducible apply unlinkHead
      | with_reducible apply foldl
      | with_reducible apply forRange
      | with_reducible rfl
      | with_reducible exact id
      | with_reducible exact Nat.le_refl _
      | split
      | dsimp only
      | with_reducible apply upd
      | exact trivial
      | rfl
      | exact id
      | exact Nat.le_refl _
      | intro _

theorem freeSecond (h : Kept u s) {a1} : Kept u (@Sys2Proof.Machine.State.freeSecond s a1) := by
  dsimp only [Sys2Proof.Machine.State.freeSecond]
  repeat' first
    | with_reducible assumption
    | with_reducible apply setCell
    | with_reducible apply putQ
    | with_reducible apply classFrames
    | with_reducible apply ownCells
    | with_reducible apply foldl
    | with_reducible apply forRange
    | with_reducible rfl
    | with_reducible exact id
    | with_reducible exact Nat.le_refl _
    | split
    | dsimp only
    | with_reducible apply upd
    | exact trivial
    | rfl
    | exact id
    | exact Nat.le_refl _
    | intro _

theorem freeRest (h : Kept u s) {a1 a2} : Kept u (@Sys2Proof.Machine.State.freeRest s a1 a2) := by
  induction a2 generalizing s with
  | zero => exact h
  | succ n ih => exact ih (freeSecond h)

theorem qFlush (h : Kept u s) {a1} : Kept u (@Sys2Proof.Machine.State.qFlush s a1).s := by
  dsimp only [Sys2Proof.Machine.State.qFlush]
  repeat' first
    | with_reducible assumption
    | with_reducible apply freeRest
    | with_reducible apply setQd
    | with_reducible apply freeFrames
    | with_reducible apply unlinkHead
    | with_reducible apply append
    | with_reducible apply satAdd
    | with_reducible apply foldl
    | with_reducible apply forRange
    | with_reducible rfl
    | with_reducible exact id
    | with_reducible exact Nat.le_refl _
    | split
    | dsimp only
    | with_reducible apply upd
    | exact trivial
    | rfl
    | exact id
    | exact Nat.le_refl _
    | intro _

theorem keepRings (h : Kept u s) : Kept u (@Sys2Proof.Machine.State.keepRings s) := by
  dsimp only [Sys2Proof.Machine.State.keepRings]
  repeat' first
    | with_reducible assumption
    | with_reducible apply foldl
    | with_reducible apply forRange
    | with_reducible rfl
    | with_reducible exact id
    | with_reducible exact Nat.le_refl _
    | split
    | dsimp only
    | with_reducible apply upd
    | exact trivial
    | rfl
    | exact id
    | exact Nat.le_refl _
    | intro _

theorem qPause (h : Kept u s) {a1 a2} : Kept u (@Sys2Proof.Machine.State.qPause s a1 a2).s := by
  dsimp only [Sys2Proof.Machine.State.qPause]
  repeat' first
    | with_reducible assumption
    | with_reducible apply keepRings
    | with_reducible apply putQ
    | with_reducible apply foldl
    | with_reducible apply forRange
    | with_reducible rfl
    | with_reducible exact id
    | with_reducible exact Nat.le_refl _
    | split
    | dsimp only
    | with_reducible apply upd
    | exact trivial
    | rfl
    | exact id
    | exact Nat.le_refl _
    | intro _

theorem reclass (h : Kept u s) {a1 a2} : Kept u (@Sys2Proof.Machine.State.reclass s a1 a2) := by
  dsimp only [Sys2Proof.Machine.State.reclass]
  repeat' first
    | with_reducible assumption
    | with_reducible apply classFrames
    | with_reducible apply putQ
    | with_reducible apply foldl
    | with_reducible apply forRange
    | with_reducible rfl
    | with_reducible exact id
    | with_reducible exact Nat.le_refl _
    | split
    | dsimp only
    | with_reducible apply upd
    | exact trivial
    | rfl
    | exact id
    | exact Nat.le_refl _
    | intro _

theorem qResume (h : Kept u s) {a1 a2 a3} : Kept u (@Sys2Proof.Machine.State.qResume s a1 a2 a3).s := by
  dsimp only [Sys2Proof.Machine.State.qResume]
  repeat' first
    | with_reducible assumption
    | with_reducible apply reclass
    | with_reducible apply putQ
    | with_reducible apply foldl
    | with_reducible apply forRange
    | with_reducible rfl
    | with_reducible exact id
    | with_reducible exact Nat.le_refl _
    | split
    | dsimp only
    | with_reducible apply upd
    | exact trivial
    | rfl
    | exact id
    | exact Nat.le_refl _
    | intro _

theorem qEffect (h : Kept u s) {a1 a2 a3} : Kept u (@Sys2Proof.Machine.State.qEffect s a1 a2 a3).s := by
  dsimp only [Sys2Proof.Machine.State.qEffect]
  repeat' first
    | with_reducible assumption
    | with_reducible apply qEnqueue
    | with_reducible apply qDequeue
    | with_reducible apply qPeek
    | with_reducible apply qMove
    | with_reducible apply qFlush
    | with_reducible apply qPause
    | with_reducible apply qResume
    | with_reducible apply foldl
    | with_reducible apply forRange
    | with_reducible rfl
    | with_reducible exact id
    | with_reducible exact Nat.le_refl _
    | split
    | dsimp only
    | with_reducible apply upd
    | exact trivial
    | rfl
    | exact id
    | exact Nat.le_refl _
    | intro _

theorem qRun (h : Kept u s) {a1 a2 a3 a4} : Kept u (@Sys2Proof.Machine.State.qRun s a1 a2 a3 a4) := by
  unfold Sys2Proof.Machine.State.qRun
  exact upd (shown (qEffect h)) rfl rfl id id (Nat.le_refl _)

theorem qSubmit (h : Kept u s) {a1 a2 a3} : Kept u (@Sys2Proof.Machine.State.qSubmit s a1 a2 a3).2.2 := by
  dsimp only [Sys2Proof.Machine.State.qSubmit]
  repeat' first
    | with_reducible assumption
    | with_reducible apply satAdd
    | with_reducible apply qRun
    | with_reducible apply foldl
    | with_reducible apply forRange
    | with_reducible rfl
    | with_reducible exact id
    | with_reducible exact Nat.le_refl _
    | split
    | dsimp only
    | with_reducible apply upd
    | exact trivial
    | rfl
    | exact id
    | exact Nat.le_refl _
    | intro _

theorem cpuAccept {m : Master} {r : Nat × Nat × State} (h : Kept u r.2.2) :
    Kept u (@Sys2Proof.Machine.State.cpuAccept s m r) := wr (openTaken h)

theorem qePort (h : Kept u s) {a1 a2 a3 a4} : Kept u (@Sys2Proof.Machine.State.qePort s a1 a2 a3 a4) := by
  dsimp only [Sys2Proof.Machine.State.qePort]
  repeat' first
    | with_reducible assumption
    | with_reducible apply qSubmit
    | with_reducible apply cpuAccept
    | with_reducible apply foldl
    | with_reducible apply forRange
    | (with_reducible apply snd2_of; with_reducible assumption)
    | with_reducible rfl
    | with_reducible exact id
    | with_reducible exact Nat.le_refl _
    | split
    | dsimp only
    | with_reducible apply upd
    | exact trivial
    | rfl
    | exact id
    | exact Nat.le_refl _
    | intro _

theorem qeTake (h : Kept u s) {a1 a2} : Kept u (@Sys2Proof.Machine.State.qeTake s a1 a2) := by
  induction a2 generalizing s a1 with
  | nil => exact h
  | cons p t ih => exact ih (qePort h)

theorem qeCycle (h : Kept u s) {a1 a2} : Kept u (@Sys2Proof.Machine.State.qeCycle s a1 a2) := by
  dsimp only [Sys2Proof.Machine.State.qeCycle]
  repeat' first
    | with_reducible assumption
    | with_reducible apply answerError
    | with_reducible apply qeTake
    | with_reducible apply foldl
    | with_reducible apply forRange
    | with_reducible rfl
    | with_reducible exact id
    | with_reducible exact Nat.le_refl _
    | split
    | dsimp only
    | with_reducible apply upd
    | exact trivial
    | rfl
    | exact id
    | exact Nat.le_refl _
    | intro _

theorem execQeEnqueue (h : Kept u s) {a1 a2 a3 a4 a5} : out u (@Sys2Proof.Machine.execQeEnqueue a1 a2 a3 a4 a5 s) := by
  dsimp only [Sys2Proof.Machine.execQeEnqueue]
  repeat' first
    | with_reducible assumption
    | with_reducible apply qeCycle
    | with_reducible apply foldl
    | with_reducible apply forRange
    | with_reducible apply out_next
    | with_reducible rfl
    | with_reducible exact id
    | with_reducible exact Nat.le_refl _
    | split
    | dsimp only
    | with_reducible apply upd
    | exact trivial
    | rfl
    | exact id
    | exact Nat.le_refl _
    | intro _

theorem execQeDequeue (h : Kept u s) {a1 a2 a3 a4 a5} : out u (@Sys2Proof.Machine.execQeDequeue a1 a2 a3 a4 a5 s) := by
  dsimp only [Sys2Proof.Machine.execQeDequeue]
  repeat' first
    | with_reducible assumption
    | with_reducible apply qeCycle
    | with_reducible apply foldl
    | with_reducible apply forRange
    | with_reducible apply out_next
    | with_reducible rfl
    | with_reducible exact id
    | with_reducible exact Nat.le_refl _
    | split
    | dsimp only
    | with_reducible apply upd
    | exact trivial
    | rfl
    | exact id
    | exact Nat.le_refl _
    | intro _

theorem execQePeek (h : Kept u s) {a1 a2 a3 a4} : out u (@Sys2Proof.Machine.execQePeek a1 a2 a3 a4 s) := by
  dsimp only [Sys2Proof.Machine.execQePeek]
  repeat' first
    | with_reducible assumption
    | with_reducible apply qeCycle
    | with_reducible apply foldl
    | with_reducible apply forRange
    | with_reducible apply out_next
    | with_reducible rfl
    | with_reducible exact id
    | with_reducible exact Nat.le_refl _
    | split
    | dsimp only
    | with_reducible apply upd
    | exact trivial
    | rfl
    | exact id
    | exact Nat.le_refl _
    | intro _

theorem execQeMove (h : Kept u s) {a1 a2 a3 a4 a5} : out u (@Sys2Proof.Machine.execQeMove a1 a2 a3 a4 a5 s) := by
  dsimp only [Sys2Proof.Machine.execQeMove]
  repeat' first
    | with_reducible assumption
    | with_reducible apply qeCycle
    | with_reducible apply foldl
    | with_reducible apply forRange
    | with_reducible apply out_next
    | with_reducible rfl
    | with_reducible exact id
    | with_reducible exact Nat.le_refl _
    | split
    | dsimp only
    | with_reducible apply upd
    | exact trivial
    | rfl
    | exact id
    | exact Nat.le_refl _
    | intro _

theorem execQeFlush (h : Kept u s) {a1 a2 a3 a4} : out u (@Sys2Proof.Machine.execQeFlush a1 a2 a3 a4 s) := by
  dsimp only [Sys2Proof.Machine.execQeFlush]
  repeat' first
    | with_reducible assumption
    | with_reducible apply qeCycle
    | with_reducible apply foldl
    | with_reducible apply forRange
    | with_reducible apply out_next
    | with_reducible rfl
    | with_reducible exact id
    | with_reducible exact Nat.le_refl _
    | split
    | dsimp only
    | with_reducible apply upd
    | exact trivial
    | rfl
    | exact id
    | exact Nat.le_refl _
    | intro _

theorem execQePause (h : Kept u s) {a1 a2 a3 a4 a5} : out u (@Sys2Proof.Machine.execQePause a1 a2 a3 a4 a5 s) := by
  dsimp only [Sys2Proof.Machine.execQePause]
  repeat' first
    | with_reducible assumption
    | with_reducible apply qeCycle
    | with_reducible apply foldl
    | with_reducible apply forRange
    | with_reducible apply out_next
    | with_reducible rfl
    | with_reducible exact id
    | with_reducible exact Nat.le_refl _
    | split
    | dsimp only
    | with_reducible apply upd
    | exact trivial
    | rfl
    | exact id
    | exact Nat.le_refl _
    | intro _

theorem execQeResume (h : Kept u s) {a1 a2 a3 a4 a5 a6} : out u (@Sys2Proof.Machine.execQeResume a1 a2 a3 a4 a5 a6 s) := by
  dsimp only [Sys2Proof.Machine.execQeResume]
  repeat' first
    | with_reducible assumption
    | with_reducible apply qeCycle
    | with_reducible apply foldl
    | with_reducible apply forRange
    | with_reducible apply out_next
    | with_reducible rfl
    | with_reducible exact id
    | with_reducible exact Nat.le_refl _
    | split
    | dsimp only
    | with_reducible apply upd
    | exact trivial
    | rfl
    | exact id
    | exact Nat.le_refl _
    | intro _

theorem postDone (h : Kept u s) {a1} : Kept u (@Sys2Proof.Machine.State.postDone s a1) := by
  dsimp only [Sys2Proof.Machine.State.postDone]
  repeat' first
    | with_reducible assumption
    | with_reducible apply wrF
    | with_reducible apply foldl
    | with_reducible apply forRange
    | with_reducible rfl
    | with_reducible exact id
    | with_reducible exact Nat.le_refl _
    | split
    | dsimp only
    | with_reducible apply upd
    | exact trivial
    | rfl
    | exact id
    | exact Nat.le_refl _
    | intro _

theorem postOldest (h : Kept u s) {a1} : Kept u (@Sys2Proof.Machine.State.postOldest s a1) := by
  dsimp only [Sys2Proof.Machine.State.postOldest]
  repeat' first
    | with_reducible assumption
    | with_reducible apply postDone
    | with_reducible apply foldl
    | with_reducible apply forRange
    | with_reducible rfl
    | with_reducible exact id
    | with_reducible exact Nat.le_refl _
    | split
    | dsimp only
    | with_reducible apply upd
    | exact trivial
    | rfl
    | exact id
    | exact Nat.le_refl _
    | intro _

theorem execQeCompletionPosted (h : Kept u s) {a0} : out u (@Sys2Proof.Machine.execQeCompletionPosted a0 s) := by
  dsimp only [Sys2Proof.Machine.execQeCompletionPosted]
  repeat' first
    | with_reducible assumption
    | with_reducible apply postOldest
    | with_reducible apply postDone
    | with_reducible apply foldl
    | with_reducible apply forRange
    | with_reducible apply out_next
    | with_reducible rfl
    | with_reducible exact id
    | with_reducible exact Nat.le_refl _
    | split
    | dsimp only
    | with_reducible apply upd
    | exact trivial
    | rfl
    | exact id
    | exact Nat.le_refl _
    | intro _

theorem makeRoom (h : Kept u s) {a1} : Kept u (@Sys2Proof.Machine.State.makeRoom s a1) := by
  dsimp only [Sys2Proof.Machine.State.makeRoom]
  repeat' first
    | with_reducible assumption
    | with_reducible apply satAdd
    | with_reducible apply postOldest
    | with_reducible apply foldl
    | with_reducible apply forRange
    | with_reducible rfl
    | with_reducible exact id
    | with_reducible exact Nat.le_refl _
    | split
    | dsimp only
    | with_reducible apply upd
    | exact trivial
    | rfl
    | exact id
    | exact Nat.le_refl _
    | intro _

theorem qeNow (h : Kept u s) {a1 a2} : Kept u (@Sys2Proof.Machine.State.qeNow s a1 a2).s := by
  unfold Sys2Proof.Machine.State.qeNow
  split
  · exact shown h
  · dsimp only
    split
    · exact shown (makeRoom h)
    · exact postDone (shown (qEffect (makeRoom h)))

theorem execQeRingCiWrite (h : Kept u s) {a0} : out u (@Sys2Proof.Machine.execQeRingCiWrite a0 s) := by
  dsimp only [Sys2Proof.Machine.execQeRingCiWrite]
  repeat' first
    | with_reducible assumption
    | with_reducible apply wrF
    | with_reducible apply foldl
    | with_reducible apply forRange
    | with_reducible apply out_next
    | with_reducible rfl
    | with_reducible exact id
    | with_reducible exact Nat.le_refl _
    | split
    | dsimp only
    | with_reducible apply upd
    | exact trivial
    | rfl
    | exact id
    | exact Nat.le_refl _
    | intro _

theorem cellRes (h : Kept u s) {a1 a2 a3 a4} : Kept u (@Sys2Proof.Machine.State.cellRes s a1 a2 a3 a4) := by
  dsimp only [Sys2Proof.Machine.State.cellRes]
  repeat' first
    | with_reducible assumption
    | with_reducible apply wr
    | with_reducible apply openTaken
    | with_reducible apply foldl
    | with_reducible apply forRange
    | with_reducible rfl
    | with_reducible exact id
    | with_reducible exact Nat.le_refl _
    | split
    | dsimp only
    | with_reducible apply upd
    | exact trivial
    | rfl
    | exact id
    | exact Nat.le_refl _
    | intro _

theorem execQeAlloc (h : Kept u s) {a0 a1} : out u (@Sys2Proof.Machine.execQeAlloc a0 a1 s) := by
  dsimp only [Sys2Proof.Machine.execQeAlloc]
  repeat' first
    | with_reducible assumption
    | with_reducible apply answerError
    | with_reducible apply cellRes
    | with_reducible apply setB
    | with_reducible apply alloc
    | with_reducible apply foldl
    | with_reducible apply forRange
    | with_reducible apply out_next
    | (with_reducible apply snd2_of; with_reducible assumption)
    | with_reducible rfl
    | with_reducible exact id
    | with_reducible exact Nat.le_refl _
    | split
    | dsimp only
    | with_reducible apply upd
    | exact trivial
    | rfl
    | exact id
    | exact Nat.le_refl _
    | intro _

theorem execQeRelease (h : Kept u s) {a0 a1} : out u (@Sys2Proof.Machine.execQeRelease a0 a1 s) := by
  dsimp only [Sys2Proof.Machine.execQeRelease]
  repeat' first
    | with_reducible assumption
    | with_reducible apply answerError
    | with_reducible apply releaseFrame
    | with_reducible apply cellRes
    | with_reducible apply foldl
    | with_reducible apply forRange
    | with_reducible apply out_next
    | (with_reducible apply snd_of; with_reducible assumption)
    | with_reducible rfl
    | with_reducible exact id
    | with_reducible exact Nat.le_refl _
    | split
    | dsimp only
    | with_reducible apply upd
    | exact trivial
    | rfl
    | exact id
    | exact Nat.le_refl _
    | intro _

theorem initQueue (h : Kept u s) {a1 a2 a3} : Kept u (@Sys2Proof.Machine.State.initQueue s a1 a2 a3) := by
  dsimp only [Sys2Proof.Machine.State.initQueue]
  repeat' first
    | with_reducible assumption
    | with_reducible apply reclass
    | with_reducible apply putQ
    | with_reducible apply foldl
    | with_reducible apply forRange
    | with_reducible rfl
    | with_reducible exact id
    | with_reducible exact Nat.le_refl _
    | split
    | dsimp only
    | with_reducible apply upd
    | exact trivial
    | rfl
    | exact id
    | exact Nat.le_refl _
    | intro _

theorem initCycle (h : Kept u s) : Kept u (@Sys2Proof.Machine.State.initCycle s) := by
  dsimp only [Sys2Proof.Machine.State.initCycle]
  repeat' first
    | with_reducible assumption
    | with_reducible apply initQueue
    | with_reducible apply setB
    | with_reducible apply foldl
    | with_reducible apply forRange
    | with_reducible rfl
    | with_reducible exact id
    | with_reducible exact Nat.le_refl _
    | split
    | dsimp only
    | with_reducible apply upd
    | exact trivial
    | rfl
    | exact id
    | exact Nat.le_refl _
    | intro _

theorem execQeInit (h : Kept u s) {a0} : out u (@Sys2Proof.Machine.execQeInit a0 s) := by
  dsimp only [Sys2Proof.Machine.execQeInit]
  repeat' first
    | with_reducible assumption
    | with_reducible apply setB
    | with_reducible apply wrF
    | with_reducible apply foldl
    | with_reducible apply forRange
    | with_reducible apply out_next
    | with_reducible rfl
    | with_reducible exact id
    | with_reducible exact Nat.le_refl _
    | split
    | dsimp only
    | with_reducible apply upd
    | exact trivial
    | rfl
    | exact id
    | exact Nat.le_refl _
    | intro _

theorem grant (h : Kept u s) {a1} : opt2 u (@Sys2Proof.Machine.State.grant s a1) := by
  induction a1 generalizing s with
  | zero =>
    unfold Sys2Proof.Machine.State.grant
    repeat' first
      | with_reducible assumption
      | with_reducible apply setRing
      | with_reducible apply foldl
      | with_reducible apply forRange
      | with_reducible apply opt2_some
      | with_reducible rfl
      | with_reducible exact id
      | with_reducible exact Nat.le_refl _
      | split
      | dsimp only
      | with_reducible apply upd
      | exact trivial
      | rfl
      | exact id
      | exact Nat.le_refl _
      | intro _
  | succ n ih =>
    unfold Sys2Proof.Machine.State.grant
    repeat' first
      | with_reducible assumption
      | with_reducible apply ih
      | with_reducible apply setRing
      | with_reducible apply foldl
      | with_reducible apply forRange
      | with_reducible apply opt2_some
      | with_reducible rfl
      | with_reducible exact id
      | with_reducible exact Nat.le_refl _
      | split
      | dsimp only
      | with_reducible apply upd
      | exact trivial
      | rfl
      | exact id
      | exact Nat.le_refl _
      | intro _

theorem takeGrant (h : Kept u s) : opt2 u (@Sys2Proof.Machine.State.takeGrant s) := by
  dsimp only [Sys2Proof.Machine.State.takeGrant]
  repeat' first
    | with_reducible assumption
    | with_reducible apply grant
    | with_reducible apply setRing
    | with_reducible apply foldl
    | with_reducible apply forRange
    | with_reducible apply opt2_some
    | (with_reducible apply opt2_of; with_reducible assumption)
    | with_reducible rfl
    | with_reducible exact id
    | with_reducible exact Nat.le_refl _
    | split
    | dsimp only
    | with_reducible apply upd
    | exact trivial
    | rfl
    | exact id
    | exact Nat.le_refl _
    | intro _

theorem newRound (h : Kept u s) : Kept u (@Sys2Proof.Machine.State.newRound s) := by
  dsimp only [Sys2Proof.Machine.State.newRound]
  repeat' first
    | with_reducible assumption
    | with_reducible apply foldl
    | with_reducible apply forRange
    | with_reducible rfl
    | with_reducible exact id
    | with_reducible exact Nat.le_refl _
    | split
    | dsimp only
    | with_reducible apply upd
    | exact trivial
    | rfl
    | exact id
    | exact Nat.le_refl _
    | intro _

theorem execQeBankRestored (h : Kept u s) {a0} : out u (@Sys2Proof.Machine.execQeBankRestored a0 s) := by
  dsimp only [Sys2Proof.Machine.execQeBankRestored]
  repeat' first
    | with_reducible assumption
    | with_reducible apply qRun
    | with_reducible apply alloc
    | with_reducible apply cellRes
    | with_reducible apply foldl
    | with_reducible apply forRange
    | with_reducible apply out_next
    | (with_reducible apply snd2_of; with_reducible assumption)
    | with_reducible rfl
    | with_reducible exact id
    | with_reducible exact Nat.le_refl _
    | split
    | dsimp only
    | with_reducible apply upd
    | exact trivial
    | rfl
    | exact id
    | exact Nat.le_refl _
    | intro _

-- TODO instDecidableEqQRes.decEq

end Sys2Proof.Machine.Kept
end

