-- ==== Sys2Proof/Laws/Kept/Link.lean ====
section
/-! SUPPORT. What the operations of the link controller, calibration, reception, the catalogue, release and chronicle steps keep: each keeps the queue, the variant, the canonical forms and the
fuses (Laws/Kept.lean), from any state that keeps them. -/

namespace Sys2Proof.Machine.Kept

variable {u s t : State}

theorem checkSync (h : Kept u s) : Kept u (@Sys2Proof.Machine.State.checkSync s) := by
  dsimp only [Sys2Proof.Machine.State.checkSync]
  repeat' first
    | with_reducible assumption
    | with_reducible apply event
    | with_reducible apply satAdd
    | with_reducible apply setB
    | with_reducible apply foldl
    | with_reducible apply forRange
    | with_reducible rfl
    | with_reducible exact id
    | with_reducible exact Nat.le_refl _
    | split
    | dsimp only
    | with_reducible apply upd
    | exact trivial
    | rfl
    | exact id
    | exact Nat.le_refl _
    | intro _

theorem setNbrs (h : Kept u s) {a1} : Kept u (@Sys2Proof.Machine.State.setNbrs s a1) := by
  dsimp only [Sys2Proof.Machine.State.setNbrs]
  repeat' first
    | with_reducible assumption
    | with_reducible apply foldl
    | with_reducible apply forRange
    | with_reducible rfl
    | with_reducible exact id
    | with_reducible exact Nat.le_refl _
    | split
    | dsimp only
    | with_reducible apply upd
    | exact trivial
    | rfl
    | exact id
    | exact Nat.le_refl _
    | intro _

theorem updNbr (h : Kept u s) {a1 a2} : Kept u (@Sys2Proof.Machine.State.updNbr s a1 a2) := by
  dsimp only [Sys2Proof.Machine.State.updNbr]
  repeat' first
    | with_reducible assumption
    | with_reducible apply setNbrs
    | with_reducible apply foldl
    | with_reducible apply forRange
    | with_reducible rfl
    | with_reducible exact id
    | with_reducible exact Nat.le_refl _
    | split
    | dsimp only
    | with_reducible apply upd
    | exact trivial
    | rfl
    | exact id
    | exact Nat.le_refl _
    | intro _

theorem nbrPut (h : Kept u s) {a1} : opt u (@Sys2Proof.Machine.State.nbrPut s a1) := by
  dsimp only [Sys2Proof.Machine.State.nbrPut]
  repeat' first
    | with_reducible assumption
    | with_reducible apply setNbrs
    | with_reducible apply foldl
    | with_reducible apply forRange
    | with_reducible apply opt_some
    | with_reducible rfl
    | with_reducible exact id
    | with_reducible exact Nat.le_refl _
    | split
    | dsimp only
    | with_reducible apply upd
    | exact trivial
    | rfl
    | exact id
    | exact Nat.le_refl _
    | intro _

theorem nbrFull (h : Kept u s) : Kept u (@Sys2Proof.Machine.State.nbrFull s) := by
  dsimp only [Sys2Proof.Machine.State.nbrFull]
  repeat' first
    | with_reducible assumption
    | with_reducible apply event
    | with_reducible apply satAdd
    | with_reducible apply foldl
    | with_reducible apply forRange
    | with_reducible rfl
    | with_reducible exact id
    | with_reducible exact Nat.le_refl _
    | split
    | dsimp only
    | with_reducible apply upd
    | exact trivial
    | rfl
    | exact id
    | exact Nat.le_refl _
    | intro _

theorem noteParent (h : Kept u s) : Kept u (@Sys2Proof.Machine.State.noteParent s) := by
  dsimp only [Sys2Proof.Machine.State.noteParent]
  repeat' first
    | with_reducible assumption
    | with_reducible apply wrF
    | with_reducible apply setB
    | with_reducible apply foldl
    | with_reducible apply forRange
    | with_reducible rfl
    | with_reducible exact id
    | with_reducible exact Nat.le_refl _
    | split
    | dsimp only
    | with_reducible apply upd
    | exact trivial
    | rfl
    | exact id
    | exact Nat.le_refl _
    | intro _

theorem nbrCode (h : Kept u s) {a1} : Kept u (@Sys2Proof.Machine.State.nbrCode s a1) := by
  dsimp only [Sys2Proof.Machine.State.nbrCode]
  repeat' first
    | with_reducible assumption
    | with_reducible apply wr
    | with_reducible apply foldl
    | with_reducible apply forRange
    | with_reducible rfl
    | with_reducible exact id
    | with_reducible exact Nat.le_refl _
    | split
    | dsimp only
    | with_reducible apply upd
    | exact trivial
    | rfl
    | exact id
    | exact Nat.le_refl _
    | intro _

theorem nbrShow (h : Kept u s) {a1} : Kept u (@Sys2Proof.Machine.State.nbrShow s a1) := by
  dsimp only [Sys2Proof.Machine.State.nbrShow]
  repeat' first
    | with_reducible assumption
    | with_reducible apply forRange
    | with_reducible apply wr
    | with_reducible apply foldl
    | with_reducible apply forRange
    | with_reducible rfl
    | with_reducible exact id
    | with_reducible exact Nat.le_refl _
    | split
    | dsimp only
    | with_reducible apply upd
    | exact trivial
    | rfl
    | exact id
    | exact Nat.le_refl _
    | intro _

theorem execNbrAdd (h : Kept u s) : out u (@Sys2Proof.Machine.execNbrAdd s) := by
  dsimp only [Sys2Proof.Machine.execNbrAdd]
  repeat' first
    | with_reducible assumption
    | with_reducible apply nbrCode
    | with_reducible apply nbrPut
    | with_reducible apply noteParent
    | with_reducible apply nbrFull
    | with_reducible apply foldl
    | with_reducible apply forRange
    | with_reducible apply out_next
    | (with_reducible apply opt_of; with_reducible assumption)
    | with_reducible rfl
    | with_reducible exact id
    | with_reducible exact Nat.le_refl _
    | split
    | dsimp only
    | with_reducible apply upd
    | exact trivial
    | rfl
    | exact id
    | exact Nat.le_refl _
    | intro _

theorem execNbrRead (h : Kept u s) {a0} : out u (@Sys2Proof.Machine.execNbrRead a0 s) := by
  dsimp only [Sys2Proof.Machine.execNbrRead]
  repeat' first
    | with_reducible assumption
    | with_reducible apply nbrCode
    | with_reducible apply nbrShow
    | with_reducible apply foldl
    | with_reducible apply forRange
    | with_reducible apply out_next
    | with_reducible rfl
    | with_reducible exact id
    | with_reducible exact Nat.le_refl _
    | split
    | dsimp only
    | with_reducible apply upd
    | exact trivial
    | rfl
    | exact id
    | exact Nat.le_refl _
    | intro _

theorem execNbrRemove (h : Kept u s) {a0} : out u (@Sys2Proof.Machine.execNbrRemove a0 s) := by
  dsimp only [Sys2Proof.Machine.execNbrRemove]
  repeat' first
    | with_reducible assumption
    | with_reducible apply nbrCode
    | with_reducible apply noteParent
    | with_reducible apply setNbrs
    | with_reducible apply foldl
    | with_reducible apply forRange
    | with_reducible apply out_next
    | with_reducible rfl
    | with_reducible exact id
    | with_reducible exact Nat.le_refl _
    | split
    | dsimp only
    | with_reducible apply upd
    | exact trivial
    | rfl
    | exact id
    | exact Nat.le_refl _
    | intro _

theorem execNbrReadIdx (h : Kept u s) {a0} : out u (@Sys2Proof.Machine.execNbrReadIdx a0 s) := by
  dsimp only [Sys2Proof.Machine.execNbrReadIdx]
  repeat' first
    | with_reducible assumption
    | with_reducible apply nbrCode
    | with_reducible apply nbrShow
    | with_reducible apply foldl
    | with_reducible apply forRange
    | with_reducible apply out_next
    | with_reducible rfl
    | with_reducible exact id
    | with_reducible exact Nat.le_refl _
    | split
    | dsimp only
    | with_reducible apply upd
    | exact trivial
    | rfl
    | exact id
    | exact Nat.le_refl _
    | intro _

theorem setBuckets (h : Kept u s) {a1 a2} : Kept u (@Sys2Proof.Machine.State.setBuckets s a1 a2) := by
  dsimp only [Sys2Proof.Machine.State.setBuckets]
  repeat' first
    | with_reducible assumption
    | with_reducible apply eventIf
    | with_reducible apply wr
    | with_reducible apply foldl
    | with_reducible apply forRange
    | with_reducible rfl
    | with_reducible exact id
    | with_reducible exact Nat.le_refl _
    | split
    | dsimp only
    | with_reducible apply upd
    | exact trivial
    | rfl
    | exact id
    | exact Nat.le_refl _
    | intro _

theorem charge (h : Kept u s) {a1 a2} : Kept u (@Sys2Proof.Machine.State.charge s a1 a2) := by
  dsimp only [Sys2Proof.Machine.State.charge]
  repeat' first
    | with_reducible assumption
    | with_reducible apply setBuckets
    | with_reducible apply foldl
    | with_reducible apply forRange
    | with_reducible rfl
    | with_reducible exact id
    | with_reducible exact Nat.le_refl _
    | split
    | dsimp only
    | with_reducible apply upd
    | exact trivial
    | rfl
    | exact id
    | exact Nat.le_refl _
    | intro _

theorem budgetRefused (h : Kept u s) {a1} : Kept u (@Sys2Proof.Machine.State.budgetRefused s a1) := by
  dsimp only [Sys2Proof.Machine.State.budgetRefused]
  repeat' first
    | with_reducible assumption
    | with_reducible apply event
    | with_reducible apply satAdd
    | with_reducible apply foldl
    | with_reducible apply forRange
    | with_reducible rfl
    | with_reducible exact id
    | with_reducible exact Nat.le_refl _
    | split
    | dsimp only
    | with_reducible apply upd
    | exact trivial
    | rfl
    | exact id
    | exact Nat.le_refl _
    | intro _

theorem advanceBuckets (h : Kept u s) {a1} : Kept u (@Sys2Proof.Machine.State.advanceBuckets s a1) := by
  dsimp only [Sys2Proof.Machine.State.advanceBuckets]
  repeat' first
    | with_reducible assumption
    | with_reducible apply setBuckets
    | with_reducible apply foldl
    | with_reducible apply forRange
    | with_reducible rfl
    | with_reducible exact id
    | with_reducible exact Nat.le_refl _
    | split
    | dsimp only
    | with_reducible apply upd
    | exact trivial
    | rfl
    | exact id
    | exact Nat.le_refl _
    | intro _

theorem execBudgetBucketAdvance (h : Kept u s) {a0} : out u (@Sys2Proof.Machine.execBudgetBucketAdvance a0 s) := by
  dsimp only [Sys2Proof.Machine.execBudgetBucketAdvance]
  repeat' first
    | with_reducible assumption
    | with_reducible apply advanceBuckets
    | with_reducible apply foldl
    | with_reducible apply forRange
    | with_reducible apply out_next
    | with_reducible rfl
    | with_reducible exact id
    | with_reducible exact Nat.le_refl _
    | split
    | dsimp only
    | with_reducible apply upd
    | exact trivial
    | rfl
    | exact id
    | exact Nat.le_refl _
    | intro _

theorem setAirOp (h : Kept u s) {a1 a2} : Kept u (@Sys2Proof.Machine.State.setAirOp s a1 a2) := by
  dsimp only [Sys2Proof.Machine.State.setAirOp]
  repeat' first
    | with_reducible assumption
    | with_reducible apply wrF
    | with_reducible apply foldl
    | with_reducible apply forRange
    | with_reducible rfl
    | with_reducible exact id
    | with_reducible exact Nat.le_refl _
    | split
    | dsimp only
    | with_reducible apply upd
    | exact trivial
    | rfl
    | exact id
    | exact Nat.le_refl _
    | intro _

theorem endAirOp (h : Kept u s) {a1 a2} : Kept u (@Sys2Proof.Machine.State.endAirOp s a1 a2) := by
  dsimp only [Sys2Proof.Machine.State.endAirOp]
  repeat' first
    | with_reducible assumption
    | with_reducible apply setAirOp
    | with_reducible apply eventIf
    | with_reducible apply event
    | with_reducible apply setB
    | with_reducible apply foldl
    | with_reducible apply forRange
    | with_reducible rfl
    | with_reducible exact id
    | with_reducible exact Nat.le_refl _
    | split
    | dsimp only
    | with_reducible apply upd
    | exact trivial
    | rfl
    | exact id
    | exact Nat.le_refl _
    | intro _

theorem opResult (h : Kept u s) {a1 a2 a3 a4} : Kept u (@Sys2Proof.Machine.State.opResult s a1 a2 a3 a4) := by
  dsimp only [Sys2Proof.Machine.State.opResult]
  repeat' first
    | with_reducible assumption
    | with_reducible apply wr
    | with_reducible apply openTaken
    | with_reducible apply foldl
    | with_reducible apply forRange
    | with_reducible rfl
    | with_reducible exact id
    | with_reducible exact Nat.le_refl _
    | split
    | dsimp only
    | with_reducible apply upd
    | exact trivial
    | rfl
    | exact id
    | exact Nat.le_refl _
    | intro _

theorem execLinkOpSubmit (h : Kept u s) {a0} : out u (@Sys2Proof.Machine.execLinkOpSubmit a0 s) := by
  dsimp only [Sys2Proof.Machine.execLinkOpSubmit]
  repeat' first
    | with_reducible assumption
    | with_reducible apply answerError
    | with_reducible apply opResult
    | with_reducible apply setAirOp
    | with_reducible apply foldl
    | with_reducible apply forRange
    | with_reducible apply out_next
    | with_reducible rfl
    | with_reducible exact id
    | with_reducible exact Nat.le_refl _
    | split
    | dsimp only
    | with_reducible apply upd
    | exact trivial
    | rfl
    | exact id
    | exact Nat.le_refl _
    | intro _

theorem execLinkOpCancel (h : Kept u s) {a0 a1} : out u (@Sys2Proof.Machine.execLinkOpCancel a0 a1 s) := by
  dsimp only [Sys2Proof.Machine.execLinkOpCancel]
  repeat' first
    | with_reducible assumption
    | with_reducible apply answerError
    | with_reducible apply opResult
    | with_reducible apply setAirOp
    | with_reducible apply foldl
    | with_reducible apply forRange
    | with_reducible apply out_next
    | with_reducible rfl
    | with_reducible exact id
    | with_reducible exact Nat.le_refl _
    | split
    | dsimp only
    | with_reducible apply upd
    | exact trivial
    | rfl
    | exact id
    | exact Nat.le_refl _
    | intro _

theorem execLinkOpRelease (h : Kept u s) {a0 a1} : out u (@Sys2Proof.Machine.execLinkOpRelease a0 a1 s) := by
  dsimp only [Sys2Proof.Machine.execLinkOpRelease]
  repeat' first
    | with_reducible assumption
    | with_reducible apply answerError
    | with_reducible apply opResult
    | with_reducible apply setAirOp
    | with_reducible apply eventIf
    | with_reducible apply foldl
    | with_reducible apply forRange
    | with_reducible apply out_next
    | with_reducible rfl
    | with_reducible exact id
    | with_reducible exact Nat.le_refl _
    | split
    | dsimp only
    | with_reducible apply upd
    | exact trivial
    | rfl
    | exact id
    | exact Nat.le_refl _
    | intro _

theorem execAiropFabricTask (h : Kept u s) {a0} : out u (@Sys2Proof.Machine.execAiropFabricTask a0 s) := by
  dsimp only [Sys2Proof.Machine.execAiropFabricTask]
  repeat' first
    | with_reducible assumption
    | with_reducible apply setAirOp
    | with_reducible apply foldl
    | with_reducible apply forRange
    | with_reducible apply out_next
    | with_reducible rfl
    | with_reducible exact id
    | with_reducible exact Nat.le_refl _
    | split
    | dsimp only
    | with_reducible apply upd
    | exact trivial
    | rfl
    | exact id
    | exact Nat.le_refl _
    | intro _

theorem setFcnt (h : Kept u s) {a1 a2} : Kept u (@Sys2Proof.Machine.State.setFcnt s a1 a2) := by
  dsimp only [Sys2Proof.Machine.State.setFcnt]
  repeat' first
    | with_reducible assumption
    | with_reducible apply wr
    | with_reducible apply setB
    | with_reducible apply foldl
    | with_reducible apply forRange
    | with_reducible rfl
    | with_reducible exact id
    | with_reducible exact Nat.le_refl _
    | split
    | dsimp only
    | with_reducible apply upd
    | exact trivial
    | rfl
    | exact id
    | exact Nat.le_refl _
    | intro _

theorem execLinkFcntWrite (h : Kept u s) {a0 a1} : out u (@Sys2Proof.Machine.execLinkFcntWrite a0 a1 s) := by
  dsimp only [Sys2Proof.Machine.execLinkFcntWrite]
  repeat' first
    | with_reducible assumption
    | with_reducible apply setFcnt
    | with_reducible apply setB
    | with_reducible apply wr
    | with_reducible apply foldl
    | with_reducible apply forRange
    | with_reducible apply out_next
    | with_reducible rfl
    | with_reducible exact id
    | with_reducible exact Nat.le_refl _
    | split
    | dsimp only
    | with_reducible apply upd
    | exact trivial
    | rfl
    | exact id
    | exact Nat.le_refl _
    | intro _

theorem setRelState (h : Kept u s) {a1 a2} : Kept u (@Sys2Proof.Machine.State.setRelState s a1 a2) := by
  dsimp only [Sys2Proof.Machine.State.setRelState]
  repeat' first
    | with_reducible assumption
    | with_reducible apply wrF
    | with_reducible apply foldl
    | with_reducible apply forRange
    | with_reducible rfl
    | with_reducible exact id
    | with_reducible exact Nat.le_refl _
    | split
    | dsimp only
    | with_reducible apply upd
    | exact trivial
    | rfl
    | exact id
    | exact Nat.le_refl _
    | intro _

theorem setExch (h : Kept u s) {a1 a2} : Kept u (@Sys2Proof.Machine.State.setExch s a1 a2) := by
  dsimp only [Sys2Proof.Machine.State.setExch]
  repeat' first
    | with_reducible assumption
    | with_reducible apply setB
    | with_reducible apply foldl
    | with_reducible apply forRange
    | with_reducible rfl
    | with_reducible exact id
    | with_reducible exact Nat.le_refl _
    | split
    | dsimp only
    | with_reducible apply upd
    | exact trivial
    | rfl
    | exact id
    | exact Nat.le_refl _
    | intro _

theorem endExch (h : Kept u s) {a1} : Kept u (@Sys2Proof.Machine.State.endExch s a1) := by
  dsimp only [Sys2Proof.Machine.State.endExch]
  repeat' first
    | with_reducible assumption
    | with_reducible apply setB
    | with_reducible apply foldl
    | with_reducible apply forRange
    | with_reducible rfl
    | with_reducible exact id
    | with_reducible exact Nat.le_refl _
    | split
    | dsimp only
    | with_reducible apply upd
    | exact trivial
    | rfl
    | exact id
    | exact Nat.le_refl _
    | intro _

theorem setLockLine (h : Kept u s) {a1 a2} : Kept u (@Sys2Proof.Machine.State.setLockLine s a1 a2) := by
  dsimp only [Sys2Proof.Machine.State.setLockLine]
  repeat' first
    | with_reducible assumption
    | with_reducible apply foldl
    | with_reducible apply forRange
    | with_reducible rfl
    | with_reducible exact id
    | with_reducible exact Nat.le_refl _
    | split
    | dsimp only
    | with_reducible apply upd
    | exact trivial
    | rfl
    | exact id
    | exact Nat.le_refl _
    | intro _

theorem sendLock (h : Kept u s) {a1 a2 a3 a4} : Kept u (@Sys2Proof.Machine.State.sendLock s a1 a2 a3 a4) := by
  dsimp only [Sys2Proof.Machine.State.sendLock]
  repeat' first
    | with_reducible assumption
    | with_reducible apply setLockLine
    | with_reducible apply foldl
    | with_reducible apply forRange
    | with_reducible rfl
    | with_reducible exact id
    | with_reducible exact Nat.le_refl _
    | split
    | dsimp only
    | with_reducible apply upd
    | exact trivial
    | rfl
    | exact id
    | exact Nat.le_refl _
    | intro _

theorem dropLock (h : Kept u s) {a1 a2} : Kept u (@Sys2Proof.Machine.State.dropLock s a1 a2) := by
  dsimp only [Sys2Proof.Machine.State.dropLock]
  repeat' first
    | with_reducible assumption
    | with_reducible apply setRelState
    | with_reducible apply sendLock
    | with_reducible apply wrF
    | with_reducible apply event
    | with_reducible apply foldl
    | with_reducible apply forRange
    | with_reducible rfl
    | with_reducible exact id
    | with_reducible exact Nat.le_refl _
    | split
    | dsimp only
    | with_reducible apply upd
    | exact trivial
    | rfl
    | exact id
    | exact Nat.le_refl _
    | intro _

theorem execLockLineMessageEnd (h : Kept u s) {a0} : out u (@Sys2Proof.Machine.execLockLineMessageEnd a0 s) := by
  dsimp only [Sys2Proof.Machine.execLockLineMessageEnd]
  repeat' first
    | with_reducible assumption
    | with_reducible apply wr
    | with_reducible apply setLockLine
    | with_reducible apply foldl
    | with_reducible apply forRange
    | with_reducible apply out_next
    | with_reducible rfl
    | with_reducible exact id
    | with_reducible exact Nat.le_refl _
    | split
    | dsimp only
    | with_reducible apply upd
    | exact trivial
    | rfl
    | exact id
    | exact Nat.le_refl _
    | intro _

theorem relTamper (h : Kept u s) : Kept u (@Sys2Proof.Machine.State.relTamper s) := by
  dsimp only [Sys2Proof.Machine.State.relTamper]
  repeat' first
    | with_reducible assumption
    | with_reducible apply forRange
    | with_reducible apply dropLock
    | with_reducible apply setExch
    | with_reducible apply foldl
    | with_reducible apply forRange
    | with_reducible rfl
    | with_reducible exact id
    | with_reducible exact Nat.le_refl _
    | split
    | dsimp only
    | with_reducible apply upd
    | exact trivial
    | rfl
    | exact id
    | exact Nat.le_refl _
    | intro _

theorem finish (h : Kept u s) {a1 a2} : Kept u (@Sys2Proof.Machine.State.finish s a1 a2) := by
  dsimp only [Sys2Proof.Machine.State.finish]
  repeat' first
    | with_reducible assumption
    | with_reducible apply endAirOp
    | with_reducible apply foldl
    | with_reducible apply forRange
    | with_reducible rfl
    | with_reducible exact id
    | with_reducible exact Nat.le_refl _
    | split
    | dsimp only
    | with_reducible apply upd
    | exact trivial
    | rfl
    | exact id
    | exact Nat.le_refl _
    | intro _

theorem setRun (h : Kept u s) {a1} : Kept u (@Sys2Proof.Machine.State.setRun s a1) := by
  dsimp only [Sys2Proof.Machine.State.setRun]
  repeat' first
    | with_reducible assumption
    | with_reducible apply foldl
    | with_reducible apply forRange
    | with_reducible rfl
    | with_reducible exact id
    | with_reducible exact Nat.le_refl _
    | split
    | dsimp only
    | with_reducible apply upd
    | exact trivial
    | rfl
    | exact id
    | exact Nat.le_refl _
    | intro _

theorem serveOp (h : Kept u s) {a1} : Kept u (@Sys2Proof.Machine.State.serveOp s a1) := by
  dsimp only [Sys2Proof.Machine.State.serveOp]
  repeat' first
    | with_reducible assumption
    | with_reducible apply foldl
    | with_reducible apply forRange
    | with_reducible rfl
    | with_reducible exact id
    | with_reducible exact Nat.le_refl _
    | split
    | dsimp only
    | with_reducible apply upd
    | exact trivial
    | rfl
    | exact id
    | exact Nat.le_refl _
    | intro _

theorem linkDequeue (h : Kept u s) {a1} : Kept u (@Sys2Proof.Machine.State.linkDequeue s a1) := by
  dsimp only [Sys2Proof.Machine.State.linkDequeue]
  repeat' first
    | with_reducible assumption
    | with_reducible apply holdCmd
    | with_reducible apply qeNow
    | with_reducible apply foldl
    | with_reducible apply forRange
    | with_reducible rfl
    | with_reducible exact id
    | with_reducible exact Nat.le_refl _
    | split
    | dsimp only
    | with_reducible apply upd
    | exact trivial
    | rfl
    | exact id
    | exact Nat.le_refl _
    | intro _

theorem exhaust (h : Kept u s) {a1} : Kept u (@Sys2Proof.Machine.State.exhaust s a1) := by
  dsimp only [Sys2Proof.Machine.State.exhaust]
  repeat' first
    | with_reducible assumption
    | with_reducible apply event
    | with_reducible apply wrF
    | with_reducible apply satAdd
    | with_reducible apply linkDequeue
    | with_reducible apply foldl
    | with_reducible apply forRange
    | with_reducible rfl
    | with_reducible exact id
    | with_reducible exact Nat.le_refl _
    | split
    | dsimp only
    | with_reducible apply upd
    | exact trivial
    | rfl
    | exact id
    | exact Nat.le_refl _
    | intro _

theorem countRetry (h : Kept u s) {a1} : Kept u (@Sys2Proof.Machine.State.countRetry s a1) := by
  dsimp only [Sys2Proof.Machine.State.countRetry]
  repeat' first
    | with_reducible assumption
    | with_reducible apply exhaust
    | with_reducible apply foldl
    | with_reducible apply forRange
    | with_reducible rfl
    | with_reducible exact id
    | with_reducible exact Nat.le_refl _
    | split
    | dsimp only
    | with_reducible apply upd
    | exact trivial
    | rfl
    | exact id
    | exact Nat.le_refl _
    | intro _

theorem retryOp (h : Kept u s) {a1} : Kept u (@Sys2Proof.Machine.State.retryOp s a1) := by
  dsimp only [Sys2Proof.Machine.State.retryOp]
  repeat' first
    | with_reducible assumption
    | with_reducible apply countRetry
    | with_reducible apply foldl
    | with_reducible apply forRange
    | with_reducible rfl
    | with_reducible exact id
    | with_reducible exact Nat.le_refl _
    | split
    | dsimp only
    | with_reducible apply upd
    | exact trivial
    | rfl
    | exact id
    | exact Nat.le_refl _
    | intro _

theorem missOp (h : Kept u s) {a1} : Kept u (@Sys2Proof.Machine.State.missOp s a1) := by
  dsimp only [Sys2Proof.Machine.State.missOp]
  repeat' first
    | with_reducible assumption
    | with_reducible apply retryOp
    | with_reducible apply satAdd
    | with_reducible apply endAirOp
    | with_reducible apply event
    | with_reducible apply foldl
    | with_reducible apply forRange
    | with_reducible rfl
    | with_reducible exact id
    | with_reducible exact Nat.le_refl _
    | split
    | dsimp only
    | with_reducible apply upd
    | exact trivial
    | rfl
    | exact id
    | exact Nat.le_refl _
    | intro _

theorem missRun (h : Kept u s) : Kept u (@Sys2Proof.Machine.State.missRun s) := by
  dsimp only [Sys2Proof.Machine.State.missRun]
  repeat' first
    | with_reducible assumption
    | with_reducible apply missOp
    | with_reducible apply foldl
    | with_reducible apply forRange
    | with_reducible rfl
    | with_reducible exact id
    | with_reducible exact Nat.le_refl _
    | split
    | dsimp only
    | with_reducible apply upd
    | exact trivial
    | rfl
    | exact id
    | exact Nat.le_refl _
    | intro _

theorem execFrontPllUnlock (h : Kept u s) : out u (@Sys2Proof.Machine.execFrontPllUnlock s) := by
  dsimp only [Sys2Proof.Machine.execFrontPllUnlock]
  repeat' first
    | with_reducible assumption
    | with_reducible apply missRun
    | with_reducible apply slip
    | with_reducible apply frontOff
    | with_reducible apply foldl
    | with_reducible apply forRange
    | with_reducible apply out_next
    | with_reducible rfl
    | with_reducible exact id
    | with_reducible exact Nat.le_refl _
    | split
    | dsimp only
    | with_reducible apply upd
    | exact trivial
    | rfl
    | exact id
    | exact Nat.le_refl _
    | intro _

theorem clashOp (h : Kept u s) {a1} : Kept u (@Sys2Proof.Machine.State.clashOp s a1) := by
  dsimp only [Sys2Proof.Machine.State.clashOp]
  repeat' first
    | with_reducible assumption
    | with_reducible apply satAdd
    | with_reducible apply serveOp
    | with_reducible apply endAirOp
    | with_reducible apply retryOp
    | with_reducible apply foldl
    | with_reducible apply forRange
    | with_reducible rfl
    | with_reducible exact id
    | with_reducible exact Nat.le_refl _
    | split
    | dsimp only
    | with_reducible apply upd
    | exact trivial
    | rfl
    | exact id
    | exact Nat.le_refl _
    | intro _

theorem startOp (h : Kept u s) {a1} : Kept u (@Sys2Proof.Machine.State.startOp s a1) := by
  dsimp only [Sys2Proof.Machine.State.startOp]
  repeat' first
    | with_reducible assumption
    | with_reducible apply setRun
    | with_reducible apply serveOp
    | with_reducible apply setAirOp
    | with_reducible apply foldl
    | with_reducible apply forRange
    | with_reducible rfl
    | with_reducible exact id
    | with_reducible exact Nat.le_refl _
    | split
    | dsimp only
    | with_reducible apply upd
    | exact trivial
    | rfl
    | exact id
    | exact Nat.le_refl _
    | intro _

theorem airTx (h : Kept u s) {a1 a2} : Kept u (@Sys2Proof.Machine.State.airTx s a1 a2) := by
  dsimp only [Sys2Proof.Machine.State.airTx]
  repeat' first
    | with_reducible assumption
    | with_reducible apply startTx
    | with_reducible apply foldl
    | with_reducible apply forRange
    | with_reducible rfl
    | with_reducible exact id
    | with_reducible exact Nat.le_refl _
    | split
    | dsimp only
    | with_reducible apply upd
    | exact trivial
    | rfl
    | exact id
    | exact Nat.le_refl _
    | intro _

theorem sendFrame (h : Kept u s) {a1 a2 a3 a4} : Kept u (@Sys2Proof.Machine.State.sendFrame s a1 a2 a3 a4) := by
  dsimp only [Sys2Proof.Machine.State.sendFrame]
  repeat' first
    | with_reducible assumption
    | with_reducible apply airTx
    | with_reducible apply startTx
    | with_reducible apply foldl
    | with_reducible apply forRange
    | with_reducible rfl
    | with_reducible exact id
    | with_reducible exact Nat.le_refl _
    | split
    | dsimp only
    | with_reducible apply upd
    | exact trivial
    | rfl
    | exact id
    | exact Nat.le_refl _
    | intro _

theorem chargeFrame (h : Kept u s) {a1 a2 a3} : Kept u (@Sys2Proof.Machine.State.chargeFrame s a1 a2 a3).2 := by
  dsimp only [Sys2Proof.Machine.State.chargeFrame]
  repeat' first
    | with_reducible assumption
    | with_reducible apply budgetRefused
    | with_reducible apply charge
    | with_reducible apply foldl
    | with_reducible apply forRange
    | with_reducible rfl
    | with_reducible exact id
    | with_reducible exact Nat.le_refl _
    | split
    | dsimp only
    | with_reducible apply upd
    | exact trivial
    | rfl
    | exact id
    | exact Nat.le_refl _
    | intro _

theorem secureFrame (h : Kept u s) {a1 a2} : secd u (@Sys2Proof.Machine.State.secureFrame s a1 a2) := by
  dsimp only [Sys2Proof.Machine.State.secureFrame]
  repeat' first
    | with_reducible assumption
    | with_reducible apply hold
    | with_reducible apply setFcnt
    | with_reducible apply fillCells
    | with_reducible apply wr
    | with_reducible apply foldl
    | with_reducible apply forRange
    | with_reducible apply secd_mk
    | with_reducible rfl
    | with_reducible exact id
    | with_reducible exact Nat.le_refl _
    | split
    | dsimp only
    | with_reducible apply upd
    | exact trivial
    | rfl
    | exact id
    | exact Nat.le_refl _
    | intro _

theorem openQueued (h : Kept u s) {a1 a2} : Kept u (@Sys2Proof.Machine.State.openQueued s a1 a2) := by
  dsimp only [Sys2Proof.Machine.State.openQueued]
  repeat' first
    | with_reducible assumption
    | with_reducible apply budgetRefused
    | with_reducible apply hold
    | with_reducible apply qeNow
    | with_reducible apply finish
    | with_reducible apply chargeFrame
    | with_reducible apply retryOp
    | with_reducible apply secureFrame
    | with_reducible apply exhaust
    | with_reducible apply setRun
    | with_reducible apply sendFrame
    | with_reducible apply foldl
    | with_reducible apply forRange
    | (with_reducible apply snd_of; with_reducible assumption)
    | (with_reducible apply secd_of; with_reducible assumption)
    | with_reducible rfl
    | with_reducible exact id
    | with_reducible exact Nat.le_refl _
    | split
    | dsimp only
    | with_reducible apply upd
    | exact trivial
    | rfl
    | exact id
    | exact Nat.le_refl _
    | intro _

theorem openOp (h : Kept u s) {a1 a2} (hf : ∀ t, Kept u t → Kept u (a2 t)) : Kept u (@Sys2Proof.Machine.State.openOp s a1 a2) := by
  dsimp only [Sys2Proof.Machine.State.openOp]
  repeat' first
    | with_reducible assumption
    | with_reducible apply hf
    | with_reducible apply finish
    | with_reducible apply missRun
    | with_reducible apply foldl
    | with_reducible apply forRange
    | with_reducible rfl
    | with_reducible exact id
    | with_reducible exact Nat.le_refl _
    | split
    | dsimp only
    | with_reducible apply upd
    | exact trivial
    | rfl
    | exact id
    | exact Nat.le_refl _
    | intro _

theorem execTransmissionOpen (h : Kept u s) : out u (@Sys2Proof.Machine.execTransmissionOpen s) := by
  dsimp only [Sys2Proof.Machine.execTransmissionOpen]
  repeat' first
    | with_reducible assumption
    | with_reducible apply openOp
    | with_reducible apply checkSync
    | with_reducible apply openQueued
    | with_reducible apply foldl
    | with_reducible apply forRange
    | with_reducible apply out_next
    | with_reducible rfl
    | with_reducible exact id
    | with_reducible exact Nat.le_refl _
    | split
    | dsimp only
    | with_reducible apply upd
    | exact trivial
    | rfl
    | exact id
    | exact Nat.le_refl _
    | intro _

theorem execLbtListenEnd (h : Kept u s) {a0} : out u (@Sys2Proof.Machine.execLbtListenEnd a0 s) := by
  dsimp only [Sys2Proof.Machine.execLbtListenEnd]
  repeat' first
    | with_reducible assumption
    | with_reducible apply wr
    | with_reducible apply missRun
    | with_reducible apply finish
    | with_reducible apply retryOp
    | with_reducible apply satAdd
    | with_reducible apply setRun
    | with_reducible apply foldl
    | with_reducible apply forRange
    | with_reducible apply out_next
    | with_reducible rfl
    | with_reducible exact id
    | with_reducible exact Nat.le_refl _
    | split
    | dsimp only
    | with_reducible apply upd
    | exact trivial
    | rfl
    | exact id
    | exact Nat.le_refl _
    | intro _

theorem sent (h : Kept u s) {a1} : Kept u (@Sys2Proof.Machine.State.sent s a1) := by
  dsimp only [Sys2Proof.Machine.State.sent]
  repeat' first
    | with_reducible assumption
    | with_reducible apply finish
    | with_reducible apply event
    | with_reducible apply linkDequeue
    | with_reducible apply foldl
    | with_reducible apply forRange
    | with_reducible rfl
    | with_reducible exact id
    | with_reducible exact Nat.le_refl _
    | split
    | dsimp only
    | with_reducible apply upd
    | exact trivial
    | rfl
    | exact id
    | exact Nat.le_refl _
    | intro _

theorem execTransmitEnded (h : Kept u s) : out u (@Sys2Proof.Machine.execTransmitEnded s) := by
  dsimp only [Sys2Proof.Machine.execTransmitEnded]
  repeat' first
    | with_reducible assumption
    | with_reducible apply endTx
    | with_reducible apply event
    | with_reducible apply setRun
    | with_reducible apply sent
    | with_reducible apply foldl
    | with_reducible apply forRange
    | with_reducible apply out_next
    | with_reducible rfl
    | with_reducible exact id
    | with_reducible exact Nat.le_refl _
    | split
    | dsimp only
    | with_reducible apply upd
    | exact trivial
    | rfl
    | exact id
    | exact Nat.le_refl _
    | intro _

theorem execAckReceived (h : Kept u s) {a0} : out u (@Sys2Proof.Machine.execAckReceived a0 s) := by
  dsimp only [Sys2Proof.Machine.execAckReceived]
  repeat' first
    | with_reducible assumption
    | with_reducible apply sent
    | with_reducible apply event
    | with_reducible apply foldl
    | with_reducible apply forRange
    | with_reducible apply out_next
    | with_reducible rfl
    | with_reducible exact id
    | with_reducible exact Nat.le_refl _
    | split
    | dsimp only
    | with_reducible apply upd
    | exact trivial
    | rfl
    | exact id
    | exact Nat.le_refl _
    | intro _

theorem execAckTimeout (h : Kept u s) : out u (@Sys2Proof.Machine.execAckTimeout s) := by
  dsimp only [Sys2Proof.Machine.execAckTimeout]
  repeat' first
    | with_reducible assumption
    | with_reducible apply finish
    | with_reducible apply retryOp
    | with_reducible apply foldl
    | with_reducible apply forRange
    | with_reducible apply out_next
    | with_reducible rfl
    | with_reducible exact id
    | with_reducible exact Nat.le_refl _
    | split
    | dsimp only
    | with_reducible apply upd
    | exact trivial
    | rfl
    | exact id
    | exact Nat.le_refl _
    | intro _

theorem endHolds (h : Kept u s) : Kept u (@Sys2Proof.Machine.State.endHolds s) := by
  dsimp only [Sys2Proof.Machine.State.endHolds]
  repeat' first
    | with_reducible assumption
    | with_reducible apply endHold
    | with_reducible apply foldl
    | with_reducible apply forRange
    | with_reducible rfl
    | with_reducible exact id
    | with_reducible exact Nat.le_refl _
    | split
    | dsimp only
    | with_reducible apply upd
    | exact trivial
    | rfl
    | exact id
    | exact Nat.le_refl _
    | intro _

theorem newPeriod (h : Kept u s) : Kept u (@Sys2Proof.Machine.State.newPeriod s) := by
  dsimp only [Sys2Proof.Machine.State.newPeriod]
  repeat' first
    | with_reducible assumption
    | with_reducible apply foldl
    | with_reducible apply forRange
    | with_reducible rfl
    | with_reducible exact id
    | with_reducible exact Nat.le_refl _
    | split
    | dsimp only
    | with_reducible apply upd
    | exact trivial
    | rfl
    | exact id
    | exact Nat.le_refl _
    | intro _

theorem execSlotBoundary (h : Kept u s) : out u (@Sys2Proof.Machine.execSlotBoundary s) := by
  dsimp only [Sys2Proof.Machine.execSlotBoundary]
  repeat' first
    | with_reducible assumption
    | with_reducible apply endHolds
    | with_reducible apply checkSync
    | with_reducible apply newPeriod
    | with_reducible apply eventIf
    | with_reducible apply foldl
    | with_reducible apply forRange
    | with_reducible apply out_next
    | with_reducible rfl
    | with_reducible exact id
    | with_reducible exact Nat.le_refl _
    | split
    | dsimp only
    | with_reducible apply upd
    | exact trivial
    | rfl
    | exact id
    | exact Nat.le_refl _
    | intro _

theorem freeTooLong (h : Kept u s) {a1} : Kept u (@Sys2Proof.Machine.State.freeTooLong s a1) := by
  dsimp only [Sys2Proof.Machine.State.freeTooLong]
  repeat' first
    | with_reducible assumption
    | with_reducible apply linkDequeue
    | with_reducible apply satAdd
    | with_reducible apply wrF
    | with_reducible apply event
    | with_reducible apply foldl
    | with_reducible apply forRange
    | with_reducible rfl
    | with_reducible exact id
    | with_reducible exact Nat.le_refl _
    | split
    | dsimp only
    | with_reducible apply upd
    | exact trivial
    | rfl
    | exact id
    | exact Nat.le_refl _
    | intro _

theorem grantCalls (h : Kept u s) {a1 a2 a3 a4} : Kept u (@Sys2Proof.Machine.State.grantCalls s a1 a2 a3 a4) := by
  induction a4 generalizing s with
  | zero => exact h
  | succ n ih =>
    unfold Sys2Proof.Machine.State.grantCalls
    extract_lets base
    split
    · exact h
    · split
      · exact h
      · next q s1 e =>
        have h1 : Kept u s1 := opt2_of e (takeGrant h)
        refine ih ?_
        split
        · exact h1
        · split
          · exact upd h1 rfl rfl id id (Nat.le_refl _)
          · exact ite' (freeTooLong h1) h1

theorem nextSeq (h : Kept u s) : Kept u (@Sys2Proof.Machine.State.nextSeq s).2 := by
  dsimp only [Sys2Proof.Machine.State.nextSeq]
  repeat' first
    | with_reducible assumption
    | with_reducible apply foldl
    | with_reducible apply forRange
    | with_reducible rfl
    | with_reducible exact id
    | with_reducible exact Nat.le_refl _
    | split
    | dsimp only
    | with_reducible apply upd
    | exact trivial
    | rfl
    | exact id
    | exact Nat.le_refl _
    | intro _

theorem sendOwn (h : Kept u s) {a1 a2 a3 a4 a5 a6} (h0 : Kept u a1) (hf : ∀ t, Kept u t → Kept u (a6 t)) :
    Kept u (@Sys2Proof.Machine.State.sendOwn s a1 a2 a3 a4 a5 a6) := by
  unfold Sys2Proof.Machine.State.sendOwn
  exact ite' (hf _ (setRun (sendFrame (chargeFrame h)))) (finish (budgetRefused h0))

theorem planBeacon (h : Kept u s) {a1} : Kept u (@Sys2Proof.Machine.State.planBeacon s a1).2 := by
  dsimp only [Sys2Proof.Machine.State.planBeacon]
  repeat' first
    | with_reducible assumption
    | with_reducible apply takeFree
    | with_reducible apply grantCalls
    | with_reducible apply foldl
    | with_reducible apply forRange
    | (with_reducible apply snd_of; with_reducible assumption)
    | with_reducible rfl
    | with_reducible exact id
    | with_reducible exact Nat.le_refl _
    | split
    | dsimp only
    | with_reducible apply upd
    | exact trivial
    | rfl
    | exact id
    | exact Nat.le_refl _
    | intro _

theorem sendBeacon (h : Kept u s) {a1} : Kept u (@Sys2Proof.Machine.State.sendBeacon s a1) := by
  unfold Sys2Proof.Machine.State.sendBeacon
  exact sendOwn (nextSeq (planBeacon h)) h (fun t ht => event (upd ht rfl rfl id id (Nat.le_refl _)))

theorem execBeaconSend (h : Kept u s) : out u (@Sys2Proof.Machine.execBeaconSend s) := by
  unfold Sys2Proof.Machine.execBeaconSend
  split
  · exact h
  · split
    · exact out_ite (out_next (finish (checkSync h))) (out_next (openOp (checkSync h) (fun t ht => sendBeacon ht)))
    · exact h

theorem execFloodRelay (h : Kept u s) : out u (@Sys2Proof.Machine.execFloodRelay s) := by
  unfold Sys2Proof.Machine.execFloodRelay
  split
  · exact h
  · split
    · split
      · exact finish h
      · exact openOp (checkSync (upd h rfl rfl id id (Nat.le_refl _)))
          (fun t ht => sendOwn ht ht (fun v hv => satAdd (upd hv rfl rfl id id (Nat.le_refl _))))
    · exact h

theorem execJoinSend (h : Kept u s) : out u (@Sys2Proof.Machine.execJoinSend s) := by
  unfold Sys2Proof.Machine.execJoinSend
  split
  · exact h
  · split
    · exact openOp (checkSync h)
        (fun t ht => sendOwn (nextSeq ht) ht (fun v hv => upd hv rfl rfl id id (Nat.le_refl _)))
    · exact h

theorem drawBackoff (h : Kept u s) : Kept u (@Sys2Proof.Machine.State.drawBackoff s) := by
  dsimp only [Sys2Proof.Machine.State.drawBackoff]
  repeat' first
    | with_reducible assumption
    | with_reducible apply takeFree
    | with_reducible apply foldl
    | with_reducible apply forRange
    | (with_reducible apply snd_of; with_reducible assumption)
    | with_reducible rfl
    | with_reducible exact id
    | with_reducible exact Nat.le_refl _
    | split
    | dsimp only
    | with_reducible apply upd
    | exact trivial
    | rfl
    | exact id
    | exact Nat.le_refl _
    | intro _

theorem execJoinRetry (h : Kept u s) : out u (@Sys2Proof.Machine.execJoinRetry s) := by
  dsimp only [Sys2Proof.Machine.execJoinRetry]
  repeat' first
    | with_reducible assumption
    | with_reducible apply drawBackoff
    | with_reducible apply foldl
    | with_reducible apply forRange
    | with_reducible apply out_next
    | with_reducible rfl
    | with_reducible exact id
    | with_reducible exact Nat.le_refl _
    | split
    | dsimp only
    | with_reducible apply upd
    | exact trivial
    | rfl
    | exact id
    | exact Nat.le_refl _
    | intro _

theorem giveWay (h : Kept u s) {a1} : Kept u (@Sys2Proof.Machine.State.giveWay s a1) := by
  dsimp only [Sys2Proof.Machine.State.giveWay]
  repeat' first
    | with_reducible assumption
    | with_reducible apply satAdd
    | with_reducible apply endAirOp
    | with_reducible apply retryOp
    | with_reducible apply foldl
    | with_reducible apply forRange
    | with_reducible rfl
    | with_reducible exact id
    | with_reducible exact Nat.le_refl _
    | split
    | dsimp only
    | with_reducible apply upd
    | exact trivial
    | rfl
    | exact id
    | exact Nat.le_refl _
    | intro _

theorem execAiropStart (h : Kept u s) : out u (@Sys2Proof.Machine.execAiropStart s) := by
  dsimp only [Sys2Proof.Machine.execAiropStart]
  repeat' first
    | with_reducible assumption
    | with_reducible apply giveWay
    | with_reducible apply checkSync
    | with_reducible apply clashOp
    | with_reducible apply startOp
    | with_reducible apply foldl
    | with_reducible apply forRange
    | with_reducible apply out_next
    | with_reducible rfl
    | with_reducible exact id
    | with_reducible exact Nat.le_refl _
    | split
    | dsimp only
    | with_reducible apply upd
    | exact trivial
    | rfl
    | exact id
    | exact Nat.le_refl _
    | intro _

theorem tuneTo (h : Kept u s) {a1} : Kept u (@Sys2Proof.Machine.State.tuneTo s a1) := by
  dsimp only [Sys2Proof.Machine.State.tuneTo]
  repeat' first
    | with_reducible assumption
    | with_reducible apply wr
    | with_reducible apply tunerStart
    | with_reducible apply foldl
    | with_reducible apply forRange
    | with_reducible rfl
    | with_reducible exact id
    | with_reducible exact Nat.le_refl _
    | split
    | dsimp only
    | with_reducible apply upd
    | exact trivial
    | rfl
    | exact id
    | exact Nat.le_refl _
    | intro _

theorem radioLoad (h : Kept u s) : Kept u (@Sys2Proof.Machine.State.radioLoad s) := by
  dsimp only [Sys2Proof.Machine.State.radioLoad]
  repeat' first
    | with_reducible assumption
    | with_reducible apply tuneTo
    | with_reducible apply wr
    | with_reducible apply foldl
    | with_reducible apply forRange
    | with_reducible rfl
    | with_reducible exact id
    | with_reducible exact Nat.le_refl _
    | split
    | dsimp only
    | with_reducible apply upd
    | exact trivial
    | rfl
    | exact id
    | exact Nat.le_refl _
    | intro _

theorem execStrobeReceived (h : Kept u s) {a0} : out u (@Sys2Proof.Machine.execStrobeReceived a0 s) := by
  dsimp only [Sys2Proof.Machine.execStrobeReceived]
  repeat' first
    | with_reducible assumption
    | with_reducible apply missRun
    | with_reducible apply event
    | with_reducible apply satAdd
    | with_reducible apply setB
    | with_reducible apply commandMove
    | with_reducible apply radioLoad
    | with_reducible apply foldl
    | with_reducible apply forRange
    | with_reducible apply out_next
    | with_reducible rfl
    | with_reducible exact id
    | with_reducible exact Nat.le_refl _
    | split
    | dsimp only
    | with_reducible apply upd
    | exact trivial
    | rfl
    | exact id
    | exact Nat.le_refl _
    | intro _

theorem execReturnLossLow (h : Kept u s) {a0 a1} : out u (@Sys2Proof.Machine.execReturnLossLow a0 a1 s) := by
  dsimp only [Sys2Proof.Machine.execReturnLossLow]
  repeat' first
    | with_reducible assumption
    | with_reducible apply measuredLoss
    | with_reducible apply foldl
    | with_reducible apply forRange
    | with_reducible apply out_next
    | with_reducible rfl
    | with_reducible exact id
    | with_reducible exact Nat.le_refl _
    | split
    | dsimp only
    | with_reducible apply upd
    | exact trivial
    | rfl
    | exact id
    | exact Nat.le_refl _
    | intro _

theorem execTuningGapGrant (h : Kept u s) {a1} : out u (@Sys2Proof.Machine.execTuningGapGrant a1 s) := by
  dsimp only [Sys2Proof.Machine.execTuningGapGrant]
  repeat' first
    | with_reducible assumption
    | with_reducible apply budgetRefused
    | with_reducible apply satAdd
    | with_reducible apply charge
    | with_reducible apply foldl
    | with_reducible apply forRange
    | with_reducible apply out_next
    | with_reducible rfl
    | with_reducible exact id
    | with_reducible exact Nat.le_refl _
    | split
    | dsimp only
    | with_reducible apply upd
    | exact trivial
    | rfl
    | exact id
    | exact Nat.le_refl _
    | intro _

theorem execRetuneDone (h : Kept u s) {a1 a2} : out u (@Sys2Proof.Machine.execRetuneDone a1 a2 s) := by
  dsimp only [Sys2Proof.Machine.execRetuneDone]
  repeat' first
    | with_reducible assumption
    | with_reducible apply wr
    | with_reducible apply noteLoss
    | with_reducible apply satAdd
    | with_reducible apply event
    | with_reducible apply foldl
    | with_reducible apply forRange
    | with_reducible apply out_next
    | with_reducible rfl
    | with_reducible exact id
    | with_reducible exact Nat.le_refl _
    | split
    | dsimp only
    | with_reducible apply upd
    | exact trivial
    | rfl
    | exact id
    | exact Nat.le_refl _
    | intro _

theorem applyClock (h : Kept u s) {a1} : Kept u (@Sys2Proof.Machine.State.applyClock s a1) := by
  dsimp only [Sys2Proof.Machine.State.applyClock]
  repeat' first
    | with_reducible assumption
    | with_reducible apply wrF
    | with_reducible apply setB
    | with_reducible apply wr
    | with_reducible apply foldl
    | with_reducible apply forRange
    | with_reducible rfl
    | with_reducible exact id
    | with_reducible exact Nat.le_refl _
    | split
    | dsimp only
    | with_reducible apply upd
    | exact trivial
    | rfl
    | exact id
    | exact Nat.le_refl _
    | intro _

theorem applyCells (h : Kept u s) {a1} : Kept u (@Sys2Proof.Machine.State.applyCells s a1) := by
  dsimp only [Sys2Proof.Machine.State.applyCells]
  repeat' first
    | with_reducible assumption
    | with_reducible apply forRange
    | with_reducible apply wr
    | with_reducible apply wrF
    | with_reducible apply foldl
    | with_reducible apply forRange
    | with_reducible rfl
    | with_reducible exact id
    | with_reducible exact Nat.le_refl _
    | split
    | dsimp only
    | with_reducible apply upd
    | exact trivial
    | rfl
    | exact id
    | exact Nat.le_refl _
    | intro _

theorem applyRoute (h : Kept u s) {a1 a2} : Kept u (@Sys2Proof.Machine.State.applyRoute s a1 a2) := by
  dsimp only [Sys2Proof.Machine.State.applyRoute]
  repeat' first
    | with_reducible assumption
    | with_reducible apply wr
    | with_reducible apply wrF
    | with_reducible apply foldl
    | with_reducible apply forRange
    | with_reducible rfl
    | with_reducible exact id
    | with_reducible exact Nat.le_refl _
    | split
    | dsimp only
    | with_reducible apply upd
    | exact trivial
    | rfl
    | exact id
    | exact Nat.le_refl _
    | intro _

theorem applyChannels (h : Kept u s) {a1 a2} : Kept u (@Sys2Proof.Machine.State.applyChannels s a1 a2) := by
  dsimp only [Sys2Proof.Machine.State.applyChannels]
  repeat' first
    | with_reducible assumption
    | with_reducible apply keepRoute
    | with_reducible apply forRange
    | with_reducible apply applyRoute
    | with_reducible apply foldl
    | with_reducible apply forRange
    | with_reducible rfl
    | with_reducible exact id
    | with_reducible exact Nat.le_refl _
    | split
    | dsimp only
    | with_reducible apply upd
    | exact trivial
    | rfl
    | exact id
    | exact Nat.le_refl _
    | intro _

theorem applyWeights (h : Kept u s) {a1} : Kept u (@Sys2Proof.Machine.State.applyWeights s a1) := by
  dsimp only [Sys2Proof.Machine.State.applyWeights]
  repeat' first
    | with_reducible assumption
    | with_reducible apply forRange
    | with_reducible apply wr
    | with_reducible apply foldl
    | with_reducible apply forRange
    | with_reducible rfl
    | with_reducible exact id
    | with_reducible exact Nat.le_refl _
    | split
    | dsimp only
    | with_reducible apply upd
    | exact trivial
    | rfl
    | exact id
    | exact Nat.le_refl _
    | intro _

theorem applyBands (h : Kept u s) {a1} : Kept u (@Sys2Proof.Machine.State.applyBands s a1) := by
  dsimp only [Sys2Proof.Machine.State.applyBands]
  repeat' first
    | with_reducible assumption
    | with_reducible apply forRange
    | with_reducible apply wr
    | with_reducible apply foldl
    | with_reducible apply forRange
    | with_reducible rfl
    | with_reducible exact id
    | with_reducible exact Nat.le_refl _
    | split
    | dsimp only
    | with_reducible apply upd
    | exact trivial
    | rfl
    | exact id
    | exact Nat.le_refl _
    | intro _

theorem applySequence (h : Kept u s) {a1 a2} : Kept u (@Sys2Proof.Machine.State.applySequence s a1 a2) := by
  dsimp only [Sys2Proof.Machine.State.applySequence]
  repeat' first
    | with_reducible assumption
    | with_reducible apply wr
    | with_reducible apply foldl
    | with_reducible apply forRange
    | with_reducible rfl
    | with_reducible exact id
    | with_reducible exact Nat.le_refl _
    | split
    | dsimp only
    | with_reducible apply upd
    | exact trivial
    | rfl
    | exact id
    | exact Nat.le_refl _
    | intro _

theorem applyTemplates (h : Kept u s) {a1} : Kept u (@Sys2Proof.Machine.State.applyTemplates s a1) := by
  dsimp only [Sys2Proof.Machine.State.applyTemplates]
  repeat' first
    | with_reducible assumption
    | with_reducible apply foldl
    | with_reducible apply forRange
    | with_reducible rfl
    | with_reducible exact id
    | with_reducible exact Nat.le_refl _
    | split
    | dsimp only
    | with_reducible apply upd
    | exact trivial
    | rfl
    | exact id
    | exact Nat.le_refl _
    | intro _

theorem applyFault (h : Kept u s) {a1} : Kept u (@Sys2Proof.Machine.State.applyFault s a1) := by
  dsimp only [Sys2Proof.Machine.State.applyFault]
  repeat' first
    | with_reducible assumption
    | with_reducible apply forRange
    | with_reducible apply wr
    | with_reducible apply foldl
    | with_reducible apply forRange
    | with_reducible rfl
    | with_reducible exact id
    | with_reducible exact Nat.le_refl _
    | split
    | dsimp only
    | with_reducible apply upd
    | exact trivial
    | rfl
    | exact id
    | exact Nat.le_refl _
    | intro _

theorem applySecurity (h : Kept u s) {a1} : Kept u (@Sys2Proof.Machine.State.applySecurity s a1) := by
  dsimp only [Sys2Proof.Machine.State.applySecurity]
  repeat' first
    | with_reducible assumption
    | with_reducible apply wrF
    | with_reducible apply foldl
    | with_reducible apply forRange
    | with_reducible rfl
    | with_reducible exact id
    | with_reducible exact Nat.le_refl _
    | split
    | dsimp only
    | with_reducible apply upd
    | exact trivial
    | rfl
    | exact id
    | exact Nat.le_refl _
    | intro _

theorem applyCal (h : Kept u s) {a1} : Kept u (@Sys2Proof.Machine.State.applyCal s a1) := by
  dsimp only [Sys2Proof.Machine.State.applyCal]
  repeat' first
    | with_reducible assumption
    | with_reducible apply wr
    | with_reducible apply foldl
    | with_reducible apply forRange
    | with_reducible rfl
    | with_reducible exact id
    | with_reducible exact Nat.le_refl _
    | split
    | dsimp only
    | with_reducible apply upd
    | exact trivial
    | rfl
    | exact id
    | exact Nat.le_refl _
    | intro _

theorem applyRelease (h : Kept u s) {a1 a2} : Kept u (@Sys2Proof.Machine.State.applyRelease s a1 a2) := by
  dsimp only [Sys2Proof.Machine.State.applyRelease]
  repeat' first
    | with_reducible assumption
    | with_reducible apply forRange
    | with_reducible apply wr
    | with_reducible apply foldl
    | with_reducible apply forRange
    | with_reducible rfl
    | with_reducible exact id
    | with_reducible exact Nat.le_refl _
    | split
    | dsimp only
    | with_reducible apply upd
    | exact trivial
    | rfl
    | exact id
    | exact Nat.le_refl _
    | intro _

theorem applyPanel (h : Kept u s) {a1} : Kept u (@Sys2Proof.Machine.State.applyPanel s a1) := by
  dsimp only [Sys2Proof.Machine.State.applyPanel]
  repeat' first
    | with_reducible assumption
    | with_reducible apply wr
    | with_reducible apply foldl
    | with_reducible apply forRange
    | with_reducible rfl
    | with_reducible exact id
    | with_reducible exact Nat.le_refl _
    | split
    | dsimp only
    | with_reducible apply upd
    | exact trivial
    | rfl
    | exact id
    | exact Nat.le_refl _
    | intro _

theorem applyLive (h : Kept u s) {a1} : Kept u (@Sys2Proof.Machine.State.applyLive s a1) := by
  dsimp only [Sys2Proof.Machine.State.applyLive]
  repeat' first
    | with_reducible assumption
    | with_reducible apply applyTemplates
    | with_reducible apply applyWeights
    | with_reducible apply applyChannels
    | with_reducible apply applyPanel
    | with_reducible apply applyCal
    | with_reducible apply foldl
    | with_reducible apply forRange
    | with_reducible rfl
    | with_reducible exact id
    | with_reducible exact Nat.le_refl _
    | split
    | dsimp only
    | with_reducible apply upd
    | exact trivial
    | rfl
    | exact id
    | exact Nat.le_refl _
    | intro _

theorem applyBoot (h : Kept u s) {a1} : Kept u (@Sys2Proof.Machine.State.applyBoot s a1) := by
  dsimp only [Sys2Proof.Machine.State.applyBoot]
  repeat' first
    | with_reducible assumption
    | with_reducible apply applyCells
    | with_reducible apply applyClock
    | with_reducible apply applySequence
    | with_reducible apply applyBands
    | with_reducible apply applyRelease
    | with_reducible apply applySecurity
    | with_reducible apply applyFault
    | with_reducible apply applyLive
    | with_reducible apply wr
    | with_reducible apply foldl
    | with_reducible apply forRange
    | with_reducible rfl
    | with_reducible exact id
    | with_reducible exact Nat.le_refl _
    | split
    | dsimp only
    | with_reducible apply upd
    | exact trivial
    | rfl
    | exact id
    | exact Nat.le_refl _
    | intro _

theorem readStored (h : Kept u s) {a1 a2} : rr u (@Sys2Proof.Machine.State.readStored s a1 a2) := by
  dsimp only [Sys2Proof.Machine.State.readStored]
  repeat' first
    | with_reducible assumption
    | with_reducible apply slip
    | with_reducible apply readRun
    | with_reducible apply foldl
    | with_reducible apply forRange
    | with_reducible apply rr_ok
    | with_reducible apply rr_error
    | (with_reducible apply rr_of; with_reducible assumption)
    | (with_reducible apply rr_ofp; with_reducible assumption)
    | (with_reducible apply rr_err; with_reducible assumption)
    | with_reducible rfl
    | with_reducible exact id
    | with_reducible exact Nat.le_refl _
    | split
    | dsimp only
    | with_reducible apply upd
    | exact trivial
    | rfl
    | exact id
    | exact Nat.le_refl _
    | intro _

theorem readSource (h : Kept u s) : pg u (@Sys2Proof.Machine.State.readSource s) := by
  dsimp only [Sys2Proof.Machine.State.readSource]
  repeat' first
    | with_reducible assumption
    | with_reducible apply readStored
    | with_reducible apply foldl
    | with_reducible apply forRange
    | with_reducible apply pg_ok
    | with_reducible apply pg_error
    | (with_reducible apply rr_of; with_reducible assumption)
    | (with_reducible apply rr_ofp; with_reducible assumption)
    | (with_reducible apply rr_err; with_reducible assumption)
    | with_reducible rfl
    | with_reducible exact id
    | with_reducible exact Nat.le_refl _
    | split
    | dsimp only
    | with_reducible apply upd
    | exact trivial
    | rfl
    | exact id
    | exact Nat.le_refl _
    | intro _

theorem setActive (h : Kept u s) {a1 a2} : Kept u (@Sys2Proof.Machine.State.setActive s a1 a2) := by
  dsimp only [Sys2Proof.Machine.State.setActive]
  repeat' first
    | with_reducible assumption
    | with_reducible apply putSlots
    | with_reducible apply setB
    | with_reducible apply foldl
    | with_reducible apply forRange
    | with_reducible rfl
    | with_reducible exact id
    | with_reducible exact Nat.le_refl _
    | split
    | dsimp only
    | with_reducible apply upd
    | exact trivial
    | rfl
    | exact id
    | exact Nat.le_refl _
    | intro _

theorem toPhase (h : Kept u s) {a1} : Kept u (@Sys2Proof.Machine.State.toPhase s a1) := by
  dsimp only [Sys2Proof.Machine.State.toPhase]
  repeat' first
    | with_reducible assumption
    | with_reducible apply wrF
    | with_reducible apply setB
    | with_reducible apply foldl
    | with_reducible apply forRange
    | with_reducible rfl
    | with_reducible exact id
    | with_reducible exact Nat.le_refl _
    | split
    | dsimp only
    | with_reducible apply upd
    | exact trivial
    | rfl
    | exact id
    | exact Nat.le_refl _
    | intro _

theorem catEnd (h : Kept u s) {a1} : Kept u (@Sys2Proof.Machine.State.catEnd s a1) := by
  dsimp only [Sys2Proof.Machine.State.catEnd]
  repeat' first
    | with_reducible assumption
    | with_reducible apply setB
    | with_reducible apply wrF
    | with_reducible apply event
    | with_reducible apply foldl
    | with_reducible apply forRange
    | with_reducible rfl
    | with_reducible exact id
    | with_reducible exact Nat.le_refl _
    | split
    | dsimp only
    | with_reducible apply upd
    | exact trivial
    | rfl
    | exact id
    | exact Nat.le_refl _
    | intro _

theorem catRefuse (h : Kept u s) : Kept u (@Sys2Proof.Machine.State.catRefuse s) := by
  dsimp only [Sys2Proof.Machine.State.catRefuse]
  repeat' first
    | with_reducible assumption
    | with_reducible apply wrF
    | with_reducible apply foldl
    | with_reducible apply forRange
    | with_reducible rfl
    | with_reducible exact id
    | with_reducible exact Nat.le_refl _
    | split
    | dsimp only
    | with_reducible apply upd
    | exact trivial
    | rfl
    | exact id
    | exact Nat.le_refl _
    | intro _

theorem catWait (h : Kept u s) {a1 a2} : Kept u (@Sys2Proof.Machine.State.catWait s a1 a2) := by
  dsimp only [Sys2Proof.Machine.State.catWait]
  repeat' first
    | with_reducible assumption
    | with_reducible apply toPhase
    | with_reducible apply foldl
    | with_reducible apply forRange
    | with_reducible rfl
    | with_reducible exact id
    | with_reducible exact Nat.le_refl _
    | split
    | dsimp only
    | with_reducible apply upd
    | exact trivial
    | rfl
    | exact id
    | exact Nat.le_refl _
    | intro _

theorem catBegin (h : Kept u s) {a1} : Kept u (@Sys2Proof.Machine.State.catBegin s a1) := by
  have hr := readSource h
  unfold Sys2Proof.Machine.State.catBegin
  split
  · next e => exact catEnd (pg_err e hr)
  · next e =>
    split
    · exact catWait (pg_of e hr)
    · exact catEnd (pg_of e hr)

theorem catBeginActive (h : Kept u s) : Kept u (@Sys2Proof.Machine.State.catBeginActive s) := by
  dsimp only [Sys2Proof.Machine.State.catBeginActive]
  repeat' first
    | with_reducible assumption
    | with_reducible apply readStored
    | with_reducible apply catEnd
    | with_reducible apply catWait
    | with_reducible apply foldl
    | with_reducible apply forRange
    | (with_reducible apply rr_of; with_reducible assumption)
    | (with_reducible apply rr_ofp; with_reducible assumption)
    | (with_reducible apply rr_err; with_reducible assumption)
    | with_reducible rfl
    | with_reducible exact id
    | with_reducible exact Nat.le_refl _
    | split
    | dsimp only
    | with_reducible apply upd
    | exact trivial
    | rfl
    | exact id
    | exact Nat.le_refl _
    | intro _

theorem catStart (h : Kept u s) {a1} : Kept u (@Sys2Proof.Machine.State.catStart s a1) := by
  dsimp only [Sys2Proof.Machine.State.catStart]
  repeat' first
    | with_reducible assumption
    | with_reducible apply toPhase
    | with_reducible apply catBeginActive
    | with_reducible apply catBegin
    | with_reducible apply foldl
    | with_reducible apply forRange
    | with_reducible rfl
    | with_reducible exact id
    | with_reducible exact Nat.le_refl _
    | split
    | dsimp only
    | with_reducible apply upd
    | exact trivial
    | rfl
    | exact id
    | exact Nat.le_refl _
    | intro _

theorem catResume (h : Kept u s) : Kept u (@Sys2Proof.Machine.State.catResume s) := by
  dsimp only [Sys2Proof.Machine.State.catResume]
  repeat' first
    | with_reducible assumption
    | with_reducible apply catStart
    | with_reducible apply foldl
    | with_reducible apply forRange
    | with_reducible rfl
    | with_reducible exact id
    | with_reducible exact Nat.le_refl _
    | split
    | dsimp only
    | with_reducible apply upd
    | exact trivial
    | rfl
    | exact id
    | exact Nat.le_refl _
    | intro _

theorem execCatlVerify (h : Kept u s) : out u (@Sys2Proof.Machine.execCatlVerify s) := by
  dsimp only [Sys2Proof.Machine.execCatlVerify]
  repeat' first
    | with_reducible assumption
    | with_reducible apply catStart
    | with_reducible apply catRefuse
    | with_reducible apply catBegin
    | with_reducible apply foldl
    | with_reducible apply forRange
    | with_reducible apply out_next
    | with_reducible rfl
    | with_reducible exact id
    | with_reducible exact Nat.le_refl _
    | split
    | dsimp only
    | with_reducible apply upd
    | exact trivial
    | rfl
    | exact id
    | exact Nat.le_refl _
    | intro _

theorem execCatlApply (h : Kept u s) : out u (@Sys2Proof.Machine.execCatlApply s) := by
  dsimp only [Sys2Proof.Machine.execCatlApply]
  repeat' first
    | with_reducible assumption
    | with_reducible apply catStart
    | with_reducible apply catRefuse
    | with_reducible apply catBegin
    | with_reducible apply setB
    | with_reducible apply wr
    | with_reducible apply foldl
    | with_reducible apply forRange
    | with_reducible apply out_next
    | with_reducible rfl
    | with_reducible exact id
    | with_reducible exact Nat.le_refl _
    | split
    | dsimp only
    | with_reducible apply upd
    | exact trivial
    | rfl
    | exact id
    | exact Nat.le_refl _
    | intro _

theorem execCatlSetActive (h : Kept u s) {a0 a1} : out u (@Sys2Proof.Machine.execCatlSetActive a0 a1 s) := by
  dsimp only [Sys2Proof.Machine.execCatlSetActive]
  repeat' first
    | with_reducible assumption
    | with_reducible apply catStart
    | with_reducible apply catRefuse
    | with_reducible apply setB
    | with_reducible apply readStored
    | with_reducible apply catEnd
    | with_reducible apply catWait
    | with_reducible apply foldl
    | with_reducible apply forRange
    | with_reducible apply out_next
    | (with_reducible apply err_of; with_reducible assumption)
    | with_reducible rfl
    | with_reducible exact id
    | with_reducible exact Nat.le_refl _
    | split
    | dsimp only
    | with_reducible apply upd
    | exact trivial
    | rfl
    | exact id
    | exact Nat.le_refl _
    | intro _

theorem catStaged (h : Kept u s) : Kept u (@Sys2Proof.Machine.State.catStaged s) := by
  dsimp only [Sys2Proof.Machine.State.catStaged]
  repeat' first
    | with_reducible assumption
    | with_reducible apply setB
    | with_reducible apply toPhase
    | with_reducible apply foldl
    | with_reducible apply forRange
    | with_reducible rfl
    | with_reducible exact id
    | with_reducible exact Nat.le_refl _
    | split
    | dsimp only
    | with_reducible apply upd
    | exact trivial
    | rfl
    | exact id
    | exact Nat.le_refl _
    | intro _

theorem catStage (h : Kept u s) {a1} : Kept u (@Sys2Proof.Machine.State.catStage s a1) := by
  dsimp only [Sys2Proof.Machine.State.catStage]
  repeat' first
    | with_reducible assumption
    | with_reducible apply catStaged
    | with_reducible apply toPhase
    | with_reducible apply foldl
    | with_reducible apply forRange
    | with_reducible rfl
    | with_reducible exact id
    | with_reducible exact Nat.le_refl _
    | split
    | dsimp only
    | with_reducible apply upd
    | exact trivial
    | rfl
    | exact id
    | exact Nat.le_refl _
    | intro _

theorem execCatlSignatureDone (h : Kept u s) {a0} : out u (@Sys2Proof.Machine.execCatlSignatureDone a0 s) := by
  dsimp only [Sys2Proof.Machine.execCatlSignatureDone]
  repeat' first
    | with_reducible assumption
    | with_reducible apply catEnd
    | with_reducible apply catStage
    | with_reducible apply toPhase
    | with_reducible apply foldl
    | with_reducible apply forRange
    | with_reducible apply out_next
    | with_reducible rfl
    | with_reducible exact id
    | with_reducible exact Nat.le_refl _
    | split
    | dsimp only
    | with_reducible apply upd
    | exact trivial
    | rfl
    | exact id
    | exact Nat.le_refl _
    | intro _

theorem execCatlStageFolio (h : Kept u s) : out u (@Sys2Proof.Machine.execCatlStageFolio s) := by
  dsimp only [Sys2Proof.Machine.execCatlStageFolio]
  repeat' first
    | with_reducible assumption
    | with_reducible apply satAdd
    | with_reducible apply catStaged
    | with_reducible apply foldl
    | with_reducible apply forRange
    | with_reducible apply out_next
    | with_reducible rfl
    | with_reducible exact id
    | with_reducible exact Nat.le_refl _
    | split
    | dsimp only
    | with_reducible apply upd
    | exact trivial
    | rfl
    | exact id
    | exact Nat.le_refl _
    | intro _

theorem catSwitch (h : Kept u s) {a1} : Kept u (@Sys2Proof.Machine.State.catSwitch s a1) := by
  dsimp only [Sys2Proof.Machine.State.catSwitch]
  repeat' first
    | with_reducible assumption
    | with_reducible apply wr
    | with_reducible apply newRound
    | with_reducible apply applyLive
    | with_reducible apply catEnd
    | with_reducible apply setB
    | with_reducible apply foldl
    | with_reducible apply forRange
    | with_reducible rfl
    | with_reducible exact id
    | with_reducible exact Nat.le_refl _
    | split
    | dsimp only
    | with_reducible apply upd
    | exact trivial
    | rfl
    | exact id
    | exact Nat.le_refl _
    | intro _

theorem execCatlSwitch (h : Kept u s) : out u (@Sys2Proof.Machine.execCatlSwitch s) := by
  dsimp only [Sys2Proof.Machine.execCatlSwitch]
  repeat' first
    | with_reducible assumption
    | with_reducible apply catSwitch
    | with_reducible apply foldl
    | with_reducible apply forRange
    | with_reducible apply out_next
    | with_reducible rfl
    | with_reducible exact id
    | with_reducible exact Nat.le_refl _
    | split
    | dsimp only
    | with_reducible apply upd
    | exact trivial
    | rfl
    | exact id
    | exact Nat.le_refl _
    | intro _

theorem execCatlRecordWritten (h : Kept u s) : out u (@Sys2Proof.Machine.execCatlRecordWritten s) := by
  dsimp only [Sys2Proof.Machine.execCatlRecordWritten]
  repeat' first
    | with_reducible assumption
    | with_reducible apply catEnd
    | with_reducible apply setActive
    | with_reducible apply foldl
    | with_reducible apply forRange
    | with_reducible apply out_next
    | with_reducible rfl
    | with_reducible exact id
    | with_reducible exact Nat.le_refl _
    | split
    | dsimp only
    | with_reducible apply upd
    | exact trivial
    | rfl
    | exact id
    | exact Nat.le_refl _
    | intro _

theorem raiseMin (h : Kept u s) {a1} : Kept u (@Sys2Proof.Machine.State.raiseMin s a1) := by
  dsimp only [Sys2Proof.Machine.State.raiseMin]
  repeat' first
    | with_reducible assumption
    | with_reducible apply wr
    | with_reducible apply foldl
    | with_reducible apply forRange
    | with_reducible rfl
    | with_reducible exact id
    | with_reducible exact Nat.le_refl _
    | split
    | dsimp only
    | with_reducible apply upd
    | exact trivial
    | rfl
    | exact id
    | exact Nat.le_refl _
    | intro _
    | omega

theorem execCatlCommit (h : Kept u s) : out u (@Sys2Proof.Machine.execCatlCommit s) := by
  dsimp only [Sys2Proof.Machine.execCatlCommit]
  repeat' first
    | with_reducible assumption
    | with_reducible apply catRefuse
    | with_reducible apply catEnd
    | with_reducible apply raiseMin
    | with_reducible apply foldl
    | with_reducible apply forRange
    | with_reducible apply out_next
    | with_reducible rfl
    | with_reducible exact id
    | with_reducible exact Nat.le_refl _
    | split
    | dsimp only
    | with_reducible apply upd
    | exact trivial
    | rfl
    | exact id
    | exact Nat.le_refl _
    | intro _

theorem retireKey (h : Kept u s) : Kept u (@Sys2Proof.Machine.State.retireKey s) := by
  dsimp only [Sys2Proof.Machine.State.retireKey]
  repeat' first
    | with_reducible assumption
    | with_reducible apply setB
    | with_reducible apply foldl
    | with_reducible apply forRange
    | with_reducible rfl
    | with_reducible exact id
    | with_reducible exact Nat.le_refl _
    | split
    | dsimp only
    | with_reducible apply upd
    | exact trivial
    | rfl
    | exact id
    | exact Nat.le_refl _
    | intro _

theorem execCatlRetire (h : Kept u s) : out u (@Sys2Proof.Machine.execCatlRetire s) := by
  dsimp only [Sys2Proof.Machine.execCatlRetire]
  repeat' first
    | with_reducible assumption
    | with_reducible apply catRefuse
    | with_reducible apply catEnd
    | with_reducible apply retireKey
    | with_reducible apply foldl
    | with_reducible apply forRange
    | with_reducible apply out_next
    | with_reducible rfl
    | with_reducible exact id
    | with_reducible exact Nat.le_refl _
    | split
    | dsimp only
    | with_reducible apply upd
    | exact trivial
    | rfl
    | exact id
    | exact Nat.le_refl _
    | intro _

theorem spurFigure (h : Kept u s) {a1 a2} : Kept u (@Sys2Proof.Machine.State.spurFigure s a1 a2) := by
  dsimp only [Sys2Proof.Machine.State.spurFigure]
  repeat' first
    | with_reducible assumption
    | with_reducible apply event
    | with_reducible apply wr
    | with_reducible apply foldl
    | with_reducible apply forRange
    | with_reducible rfl
    | with_reducible exact id
    | with_reducible exact Nat.le_refl _
    | split
    | dsimp only
    | with_reducible apply upd
    | exact trivial
    | rfl
    | exact id
    | exact Nat.le_refl _
    | intro _

theorem laneValue (h : Kept u s) {a1 a2 a3} : Kept u (@Sys2Proof.Machine.State.laneValue s a1 a2 a3) := by
  dsimp only [Sys2Proof.Machine.State.laneValue]
  repeat' first
    | with_reducible assumption
    | with_reducible apply wr
    | with_reducible apply foldl
    | with_reducible apply forRange
    | with_reducible rfl
    | with_reducible exact id
    | with_reducible exact Nat.le_refl _
    | split
    | dsimp only
    | with_reducible apply upd
    | exact trivial
    | rfl
    | exact id
    | exact Nat.le_refl _
    | intro _

theorem laneValues (h : Kept u s) {a1 a2} : Kept u (@Sys2Proof.Machine.State.laneValues s a1 a2) := by
  dsimp only [Sys2Proof.Machine.State.laneValues]
  repeat' first
    | with_reducible assumption
    | with_reducible apply forRange
    | with_reducible apply laneValue
    | with_reducible apply foldl
    | with_reducible apply forRange
    | with_reducible rfl
    | with_reducible exact id
    | with_reducible exact Nat.le_refl _
    | split
    | dsimp only
    | with_reducible apply upd
    | exact trivial
    | rfl
    | exact id
    | exact Nat.le_refl _
    | intro _

theorem execLaneEstimateUpdate (h : Kept u s) {a0 a1} : out u (@Sys2Proof.Machine.execLaneEstimateUpdate a0 a1 s) := by
  dsimp only [Sys2Proof.Machine.execLaneEstimateUpdate]
  repeat' first
    | with_reducible assumption
    | with_reducible apply spurFigure
    | with_reducible apply event
    | with_reducible apply laneValues
    | with_reducible apply foldl
    | with_reducible apply forRange
    | with_reducible apply out_next
    | with_reducible rfl
    | with_reducible exact id
    | with_reducible exact Nat.le_refl _
    | split
    | dsimp only
    | with_reducible apply upd
    | exact trivial
    | rfl
    | exact id
    | exact Nat.le_refl _
    | intro _

theorem iqDcUpdate (h : Kept u s) {a1} : Kept u (@Sys2Proof.Machine.State.iqDcUpdate s a1) := by
  dsimp only [Sys2Proof.Machine.State.iqDcUpdate]
  repeat' first
    | with_reducible assumption
    | with_reducible apply event
    | with_reducible apply wr
    | with_reducible apply takeFree
    | with_reducible apply forRange
    | with_reducible apply wrF
    | with_reducible apply foldl
    | with_reducible apply forRange
    | (with_reducible apply snd_of; with_reducible assumption)
    | with_reducible rfl
    | with_reducible exact id
    | with_reducible exact Nat.le_refl _
    | split
    | dsimp only
    | with_reducible apply upd
    | exact trivial
    | rfl
    | exact id
    | exact Nat.le_refl _
    | intro _

theorem eyeUpdate (h : Kept u s) {a1} : Kept u (@Sys2Proof.Machine.State.eyeUpdate s a1) := by
  dsimp only [Sys2Proof.Machine.State.eyeUpdate]
  repeat' first
    | with_reducible assumption
    | with_reducible apply event
    | with_reducible apply wr
    | with_reducible apply foldl
    | with_reducible apply forRange
    | with_reducible rfl
    | with_reducible exact id
    | with_reducible exact Nat.le_refl _
    | split
    | dsimp only
    | with_reducible apply upd
    | exact trivial
    | rfl
    | exact id
    | exact Nat.le_refl _
    | intro _

theorem requestCal (h : Kept u s) : Kept u (@Sys2Proof.Machine.State.requestCal s) := by
  dsimp only [Sys2Proof.Machine.State.requestCal]
  repeat' first
    | with_reducible assumption
    | with_reducible apply event
    | with_reducible apply wrF
    | with_reducible apply setB
    | with_reducible apply foldl
    | with_reducible apply forRange
    | with_reducible rfl
    | with_reducible exact id
    | with_reducible exact Nat.le_refl _
    | split
    | dsimp only
    | with_reducible apply upd
    | exact trivial
    | rfl
    | exact id
    | exact Nat.le_refl _
    | intro _

theorem forceCal (h : Kept u s) : Kept u (@Sys2Proof.Machine.State.forceCal s) := by
  dsimp only [Sys2Proof.Machine.State.forceCal]
  repeat' first
    | with_reducible assumption
    | with_reducible apply setB
    | with_reducible apply foldl
    | with_reducible apply forRange
    | with_reducible rfl
    | with_reducible exact id
    | with_reducible exact Nat.le_refl _
    | split
    | dsimp only
    | with_reducible apply upd
    | exact trivial
    | rfl
    | exact id
    | exact Nat.le_refl _
    | intro _

theorem execTemperatureEvaluation (h : Kept u s) {a0} : out u (@Sys2Proof.Machine.execTemperatureEvaluation a0 s) := by
  dsimp only [Sys2Proof.Machine.execTemperatureEvaluation]
  repeat' first
    | with_reducible assumption
    | with_reducible apply wrF
    | with_reducible apply requestCal
    | with_reducible apply forceCal
    | with_reducible apply foldl
    | with_reducible apply forRange
    | with_reducible apply out_next
    | with_reducible rfl
    | with_reducible exact id
    | with_reducible exact Nat.le_refl _
    | split
    | dsimp only
    | with_reducible apply upd
    | exact trivial
    | rfl
    | exact id
    | exact Nat.le_refl _
    | intro _

theorem execCalRequest (h : Kept u s) : out u (@Sys2Proof.Machine.execCalRequest s) := by
  dsimp only [Sys2Proof.Machine.execCalRequest]
  repeat' first
    | with_reducible assumption
    | with_reducible apply requestCal
    | with_reducible apply foldl
    | with_reducible apply forRange
    | with_reducible apply out_next
    | with_reducible rfl
    | with_reducible exact id
    | with_reducible exact Nat.le_refl _
    | split
    | dsimp only
    | with_reducible apply upd
    | exact trivial
    | rfl
    | exact id
    | exact Nat.le_refl _
    | intro _

theorem execCalForce (h : Kept u s) : out u (@Sys2Proof.Machine.execCalForce s) := by
  dsimp only [Sys2Proof.Machine.execCalForce]
  repeat' first
    | with_reducible assumption
    | with_reducible apply forceCal
    | with_reducible apply requestCal
    | with_reducible apply foldl
    | with_reducible apply forRange
    | with_reducible apply out_next
    | with_reducible rfl
    | with_reducible exact id
    | with_reducible exact Nat.le_refl _
    | split
    | dsimp only
    | with_reducible apply upd
    | exact trivial
    | rfl
    | exact id
    | exact Nat.le_refl _
    | intro _

theorem execCalWaitExpiry (h : Kept u s) : out u (@Sys2Proof.Machine.execCalWaitExpiry s) := by
  dsimp only [Sys2Proof.Machine.execCalWaitExpiry]
  repeat' first
    | with_reducible assumption
    | with_reducible apply satAdd
    | with_reducible apply setB
    | with_reducible apply foldl
    | with_reducible apply forRange
    | with_reducible apply out_next
    | with_reducible rfl
    | with_reducible exact id
    | with_reducible exact Nat.le_refl _
    | split
    | dsimp only
    | with_reducible apply upd
    | exact trivial
    | rfl
    | exact id
    | exact Nat.le_refl _
    | intro _

theorem strobeCal (h : Kept u s) : Kept u (@Sys2Proof.Machine.State.strobeCal s) := by
  dsimp only [Sys2Proof.Machine.State.strobeCal]
  repeat' first
    | with_reducible assumption
    | with_reducible apply foldl
    | with_reducible apply forRange
    | with_reducible rfl
    | with_reducible exact id
    | with_reducible exact Nat.le_refl _
    | split
    | dsimp only
    | with_reducible apply upd
    | exact trivial
    | rfl
    | exact id
    | exact Nat.le_refl _
    | intro _

theorem noteLast (h : Kept u s) : Kept u (@Sys2Proof.Machine.State.noteLast s) := by
  dsimp only [Sys2Proof.Machine.State.noteLast]
  repeat' first
    | with_reducible assumption
    | with_reducible apply wrF
    | with_reducible apply event
    | with_reducible apply foldl
    | with_reducible apply forRange
    | with_reducible rfl
    | with_reducible exact id
    | with_reducible exact Nat.le_refl _
    | split
    | dsimp only
    | with_reducible apply upd
    | exact trivial
    | rfl
    | exact id
    | exact Nat.le_refl _
    | intro _

theorem startGrant (h : Kept u s) {a1} : Kept u (@Sys2Proof.Machine.State.startGrant s a1) := by
  dsimp only [Sys2Proof.Machine.State.startGrant]
  repeat' first
    | with_reducible assumption
    | with_reducible apply noteLast
    | with_reducible apply strobeCal
    | with_reducible apply setB
    | with_reducible apply event
    | with_reducible apply wrF
    | with_reducible apply foldl
    | with_reducible apply forRange
    | with_reducible rfl
    | with_reducible exact id
    | with_reducible exact Nat.le_refl _
    | split
    | dsimp only
    | with_reducible apply upd
    | exact trivial
    | rfl
    | exact id
    | exact Nat.le_refl _
    | intro _

theorem execBlackoutGrant (h : Kept u s) : out u (@Sys2Proof.Machine.execBlackoutGrant s) := by
  dsimp only [Sys2Proof.Machine.execBlackoutGrant]
  repeat' first
    | with_reducible assumption
    | with_reducible apply startGrant
    | with_reducible apply event
    | with_reducible apply foldl
    | with_reducible apply forRange
    | with_reducible apply out_next
    | with_reducible rfl
    | with_reducible exact id
    | with_reducible exact Nat.le_refl _
    | split
    | dsimp only
    | with_reducible apply upd
    | exact trivial
    | rfl
    | exact id
    | exact Nat.le_refl _
    | intro _

theorem execForcedBlackoutStart (h : Kept u s) : out u (@Sys2Proof.Machine.execForcedBlackoutStart s) := by
  dsimp only [Sys2Proof.Machine.execForcedBlackoutStart]
  repeat' first
    | with_reducible assumption
    | with_reducible apply event
    | with_reducible apply satAdd
    | with_reducible apply missOp
    | with_reducible apply serveOp
    | with_reducible apply startGrant
    | with_reducible apply foldl
    | with_reducible apply forRange
    | with_reducible apply out_next
    | with_reducible rfl
    | with_reducible exact id
    | with_reducible exact Nat.le_refl _
    | split
    | dsimp only
    | with_reducible apply upd
    | exact trivial
    | rfl
    | exact id
    | exact Nat.le_refl _
    | intro _

theorem calDone (h : Kept u s) : Kept u (@Sys2Proof.Machine.State.calDone s) := by
  dsimp only [Sys2Proof.Machine.State.calDone]
  repeat' first
    | with_reducible assumption
    | with_reducible apply event
    | with_reducible apply setB
    | with_reducible apply satAdd
    | with_reducible apply wrF
    | with_reducible apply foldl
    | with_reducible apply forRange
    | with_reducible rfl
    | with_reducible exact id
    | with_reducible exact Nat.le_refl _
    | split
    | dsimp only
    | with_reducible apply upd
    | exact trivial
    | rfl
    | exact id
    | exact Nat.le_refl _
    | intro _

theorem folioResult (h : Kept u s) {a1 a2 a3 a4} : Kept u (@Sys2Proof.Machine.State.folioResult s a1 a2 a3 a4) := by
  dsimp only [Sys2Proof.Machine.State.folioResult]
  repeat' first
    | with_reducible assumption
    | with_reducible apply setB
    | with_reducible apply laneValues
    | with_reducible apply event
    | with_reducible apply satAdd
    | with_reducible apply spurFigure
    | with_reducible apply foldl
    | with_reducible apply forRange
    | with_reducible rfl
    | with_reducible exact id
    | with_reducible exact Nat.le_refl _
    | split
    | dsimp only
    | with_reducible apply upd
    | exact trivial
    | rfl
    | exact id
    | exact Nat.le_refl _
    | intro _

theorem calReturn (h : Kept u s) : Kept u (@Sys2Proof.Machine.State.calReturn s) := by
  dsimp only [Sys2Proof.Machine.State.calReturn]
  repeat' first
    | with_reducible assumption
    | with_reducible apply wrF
    | with_reducible apply event
    | with_reducible apply foldl
    | with_reducible apply forRange
    | with_reducible rfl
    | with_reducible exact id
    | with_reducible exact Nat.le_refl _
    | split
    | dsimp only
    | with_reducible apply upd
    | exact trivial
    | rfl
    | exact id
    | exact Nat.le_refl _
    | intro _

theorem calOff (h : Kept u s) : Kept u (@Sys2Proof.Machine.State.calOff s) := by
  dsimp only [Sys2Proof.Machine.State.calOff]
  repeat' first
    | with_reducible assumption
    | with_reducible apply foldl
    | with_reducible apply forRange
    | with_reducible rfl
    | with_reducible exact id
    | with_reducible exact Nat.le_refl _
    | split
    | dsimp only
    | with_reducible apply upd
    | exact trivial
    | rfl
    | exact id
    | exact Nat.le_refl _
    | intro _

theorem execCalFolioEnd (h : Kept u s) {a0 a1 a2} : out u (@Sys2Proof.Machine.execCalFolioEnd a0 a1 a2 s) := by
  dsimp only [Sys2Proof.Machine.execCalFolioEnd]
  repeat' first
    | with_reducible assumption
    | with_reducible apply calReturn
    | with_reducible apply calOff
    | with_reducible apply strobeCal
    | with_reducible apply event
    | with_reducible apply folioResult
    | with_reducible apply calDone
    | with_reducible apply setB
    | with_reducible apply wrF
    | with_reducible apply foldl
    | with_reducible apply forRange
    | with_reducible apply out_next
    | with_reducible rfl
    | with_reducible exact id
    | with_reducible exact Nat.le_refl _
    | split
    | dsimp only
    | with_reducible apply upd
    | exact trivial
    | rfl
    | exact id
    | exact Nat.le_refl _
    | intro _

theorem timerMatch (h : Kept u s) {a1 a2} : Kept u (@Sys2Proof.Machine.State.timerMatch s a1 a2) := by
  dsimp only [Sys2Proof.Machine.State.timerMatch]
  repeat' first
    | with_reducible assumption
    | with_reducible apply event
    | with_reducible apply setB
    | with_reducible apply wr
    | with_reducible apply foldl
    | with_reducible apply forRange
    | with_reducible rfl
    | with_reducible exact id
    | with_reducible exact Nat.le_refl _
    | split
    | dsimp only
    | with_reducible apply upd
    | exact trivial
    | rfl
    | exact id
    | exact Nat.le_refl _
    | intro _

theorem timerTake (h : Kept u s) {a1 a2} : Kept u (@Sys2Proof.Machine.State.timerTake s a1 a2) := by
  dsimp only [Sys2Proof.Machine.State.timerTake]
  repeat' first
    | with_reducible assumption
    | with_reducible apply timerMatch
    | with_reducible apply wr
    | with_reducible apply foldl
    | with_reducible apply forRange
    | with_reducible rfl
    | with_reducible exact id
    | with_reducible exact Nat.le_refl _
    | split
    | dsimp only
    | with_reducible apply upd
    | exact trivial
    | rfl
    | exact id
    | exact Nat.le_refl _
    | intro _

theorem dropC0 (h : Kept u s) {a1} : Kept u (@Sys2Proof.Machine.State.dropC0 s a1) := by
  dsimp only [Sys2Proof.Machine.State.dropC0]
  repeat' first
    | with_reducible assumption
    | with_reducible apply foldl
    | with_reducible apply forRange
    | with_reducible rfl
    | with_reducible exact id
    | with_reducible exact Nat.le_refl _
    | split
    | dsimp only
    | with_reducible apply upd
    | exact trivial
    | rfl
    | exact id
    | exact Nat.le_refl _
    | intro _

theorem timerWrap (h : Kept u s) {a1 a2} : Kept u (@Sys2Proof.Machine.State.timerWrap s a1 a2) := by
  dsimp only [Sys2Proof.Machine.State.timerWrap]
  repeat' first
    | with_reducible assumption
    | with_reducible apply setB
    | with_reducible apply foldl
    | with_reducible apply forRange
    | with_reducible rfl
    | with_reducible exact id
    | with_reducible exact Nat.le_refl _
    | split
    | dsimp only
    | with_reducible apply upd
    | exact trivial
    | rfl
    | exact id
    | exact Nat.le_refl _
    | intro _

theorem timerCount (h : Kept u s) {a1} : Kept u (@Sys2Proof.Machine.State.timerCount s a1) := by
  dsimp only [Sys2Proof.Machine.State.timerCount]
  repeat' first
    | with_reducible assumption
    | with_reducible apply timerWrap
    | with_reducible apply timerMatch
    | with_reducible apply wr
    | with_reducible apply timerTake
    | with_reducible apply dropC0
    | with_reducible apply setB
    | with_reducible apply foldl
    | with_reducible apply forRange
    | with_reducible rfl
    | with_reducible exact id
    | with_reducible exact Nat.le_refl _
    | split
    | dsimp only
    | with_reducible apply upd
    | exact trivial
    | rfl
    | exact id
    | exact Nat.le_refl _
    | intro _

theorem execTimerPrescaleExpiry (h : Kept u s) {a0} : out u (@Sys2Proof.Machine.execTimerPrescaleExpiry a0 s) := by
  dsimp only [Sys2Proof.Machine.execTimerPrescaleExpiry]
  repeat' first
    | with_reducible assumption
    | with_reducible apply timerCount
    | with_reducible apply foldl
    | with_reducible apply forRange
    | with_reducible apply out_next
    | with_reducible rfl
    | with_reducible exact id
    | with_reducible exact Nat.le_refl _
    | split
    | dsimp only
    | with_reducible apply upd
    | exact trivial
    | rfl
    | exact id
    | exact Nat.le_refl _
    | intro _

theorem execTimerStart (h : Kept u s) {a0} : out u (@Sys2Proof.Machine.execTimerStart a0 s) := by
  dsimp only [Sys2Proof.Machine.execTimerStart]
  repeat' first
    | with_reducible assumption
    | with_reducible apply setB
    | with_reducible apply foldl
    | with_reducible apply forRange
    | with_reducible apply out_next
    | with_reducible rfl
    | with_reducible exact id
    | with_reducible exact Nat.le_refl _
    | split
    | dsimp only
    | with_reducible apply upd
    | exact trivial
    | rfl
    | exact id
    | exact Nat.le_refl _
    | intro _

theorem execTimerStop (h : Kept u s) {a0} : out u (@Sys2Proof.Machine.execTimerStop a0 s) := by
  dsimp only [Sys2Proof.Machine.execTimerStop]
  repeat' first
    | with_reducible assumption
    | with_reducible apply setB
    | with_reducible apply foldl
    | with_reducible apply forRange
    | with_reducible apply out_next
    | with_reducible rfl
    | with_reducible exact id
    | with_reducible exact Nat.le_refl _
    | split
    | dsimp only
    | with_reducible apply upd
    | exact trivial
    | rfl
    | exact id
    | exact Nat.le_refl _
    | intro _

theorem execTimerClear (h : Kept u s) {a0} : out u (@Sys2Proof.Machine.execTimerClear a0 s) := by
  dsimp only [Sys2Proof.Machine.execTimerClear]
  repeat' first
    | with_reducible assumption
    | with_reducible apply timerTake
    | with_reducible apply dropC0
    | with_reducible apply foldl
    | with_reducible apply forRange
    | with_reducible apply out_next
    | with_reducible rfl
    | with_reducible exact id
    | with_reducible exact Nat.le_refl _
    | split
    | dsimp only
    | with_reducible apply upd
    | exact trivial
    | rfl
    | exact id
    | exact Nat.le_refl _
    | intro _

theorem execTimerCapture (h : Kept u s) {a0 a1} : out u (@Sys2Proof.Machine.execTimerCapture a0 a1 s) := by
  dsimp only [Sys2Proof.Machine.execTimerCapture]
  repeat' first
    | with_reducible assumption
    | with_reducible apply setB
    | with_reducible apply event
    | with_reducible apply wr
    | with_reducible apply foldl
    | with_reducible apply forRange
    | with_reducible apply out_next
    | with_reducible rfl
    | with_reducible exact id
    | with_reducible exact Nat.le_refl _
    | split
    | dsimp only
    | with_reducible apply upd
    | exact trivial
    | rfl
    | exact id
    | exact Nat.le_refl _
    | intro _

theorem execTimerCntWrite (h : Kept u s) {a0 a1} : out u (@Sys2Proof.Machine.execTimerCntWrite a0 a1 s) := by
  dsimp only [Sys2Proof.Machine.execTimerCntWrite]
  repeat' first
    | with_reducible assumption
    | with_reducible apply wr
    | with_reducible apply dropC0
    | with_reducible apply foldl
    | with_reducible apply forRange
    | with_reducible apply out_next
    | with_reducible rfl
    | with_reducible exact id
    | with_reducible exact Nat.le_refl _
    | split
    | dsimp only
    | with_reducible apply upd
    | exact trivial
    | rfl
    | exact id
    | exact Nat.le_refl _
    | intro _

theorem writeTimerValue (h : Kept u s) {a1 a2} : Kept u (@Sys2Proof.Machine.State.writeTimerValue s a1 a2) := by
  dsimp only [Sys2Proof.Machine.State.writeTimerValue]
  repeat' first
    | with_reducible assumption
    | with_reducible apply wr
    | with_reducible apply foldl
    | with_reducible apply forRange
    | with_reducible rfl
    | with_reducible exact id
    | with_reducible exact Nat.le_refl _
    | split
    | dsimp only
    | with_reducible apply upd
    | exact trivial
    | rfl
    | exact id
    | exact Nat.le_refl _
    | intro _

theorem writeTimerCtrl (h : Kept u s) {a1 a2} : Kept u (@Sys2Proof.Machine.State.writeTimerCtrl s a1 a2) := by
  dsimp only [Sys2Proof.Machine.State.writeTimerCtrl]
  repeat' first
    | with_reducible assumption
    | with_reducible apply wrF
    | with_reducible apply foldl
    | with_reducible apply forRange
    | with_reducible rfl
    | with_reducible exact id
    | with_reducible exact Nat.le_refl _
    | split
    | dsimp only
    | with_reducible apply upd
    | exact trivial
    | rfl
    | exact id
    | exact Nat.le_refl _
    | intro _

theorem timerPerclk (h : Kept u s) {a1} : Kept u (@Sys2Proof.Machine.State.timerPerclk s a1) := by
  dsimp only [Sys2Proof.Machine.State.timerPerclk]
  repeat' first
    | with_reducible assumption
    | with_reducible apply timerTake
    | with_reducible apply dropC0
    | with_reducible apply wr
    | with_reducible apply foldl
    | with_reducible apply forRange
    | with_reducible rfl
    | with_reducible exact id
    | with_reducible exact Nat.le_refl _
    | split
    | dsimp only
    | with_reducible apply upd
    | exact trivial
    | rfl
    | exact id
    | exact Nat.le_refl _
    | intro _

theorem tamperT1 (h : Kept u s) : Kept u (@Sys2Proof.Machine.State.tamperT1 s) := by
  dsimp only [Sys2Proof.Machine.State.tamperT1]
  repeat' first
    | with_reducible assumption
    | with_reducible apply relTamper
    | with_reducible apply purgeKeys
    | with_reducible apply refuseAll
    | with_reducible apply foldl
    | with_reducible apply forRange
    | with_reducible rfl
    | with_reducible exact id
    | with_reducible exact Nat.le_refl _
    | split
    | dsimp only
    | with_reducible apply upd
    | exact trivial
    | rfl
    | exact id
    | exact Nat.le_refl _
    | intro _

theorem tamperSeal (h : Kept u s) : Kept u (@Sys2Proof.Machine.State.tamperSeal s) := by
  dsimp only [Sys2Proof.Machine.State.tamperSeal]
  repeat' first
    | with_reducible assumption
    | with_reducible apply purgeKeys
    | with_reducible apply tamperT1
    | with_reducible apply hold
    | with_reducible apply foldl
    | with_reducible apply forRange
    | with_reducible rfl
    | with_reducible exact id
    | with_reducible exact Nat.le_refl _
    | split
    | dsimp only
    | with_reducible apply upd
    | exact trivial
    | rfl
    | exact id
    | exact Nat.le_refl _
    | intro _

theorem tamperTrip (h : Kept u s) {a1} : Kept u (@Sys2Proof.Machine.State.tamperTrip s a1) := by
  dsimp only [Sys2Proof.Machine.State.tamperTrip]
  repeat' first
    | with_reducible assumption
    | with_reducible apply wrInstant
    | with_reducible apply satAdd
    | with_reducible apply setB
    | with_reducible apply event
    | with_reducible apply wake
    | with_reducible apply tamperT1
    | with_reducible apply tamperSeal
    | with_reducible apply foldl
    | with_reducible apply forRange
    | with_reducible rfl
    | with_reducible exact id
    | with_reducible exact Nat.le_refl _
    | split
    | dsimp only
    | with_reducible apply upd
    | exact trivial
    | rfl
    | exact id
    | exact Nat.le_refl _
    | intro _

theorem loopPin (h : Kept u s) {a1} : Kept u (@Sys2Proof.Machine.State.loopPin s a1) := by
  dsimp only [Sys2Proof.Machine.State.loopPin]
  repeat' first
    | with_reducible assumption
    | with_reducible apply setB
    | with_reducible apply foldl
    | with_reducible apply forRange
    | with_reducible rfl
    | with_reducible exact id
    | with_reducible exact Nat.le_refl _
    | split
    | dsimp only
    | with_reducible apply upd
    | exact trivial
    | rfl
    | exact id
    | exact Nat.le_refl _
    | intro _

theorem execTamperTrip (h : Kept u s) {a0} : out u (@Sys2Proof.Machine.execTamperTrip a0 s) := by
  dsimp only [Sys2Proof.Machine.execTamperTrip]
  repeat' first
    | with_reducible assumption
    | with_reducible apply tamperTrip
    | with_reducible apply loopPin
    | with_reducible apply foldl
    | with_reducible apply forRange
    | with_reducible apply out_next
    | with_reducible rfl
    | with_reducible exact id
    | with_reducible exact Nat.le_refl _
    | split
    | dsimp only
    | with_reducible apply upd
    | exact trivial
    | rfl
    | exact id
    | exact Nat.le_refl _
    | intro _

theorem execTemperatureTamperCheck (h : Kept u s) {a0} : out u (@Sys2Proof.Machine.execTemperatureTamperCheck a0 s) := by
  dsimp only [Sys2Proof.Machine.execTemperatureTamperCheck]
  repeat' first
    | with_reducible assumption
    | with_reducible apply tamperTrip
    | with_reducible apply foldl
    | with_reducible apply forRange
    | with_reducible apply out_next
    | with_reducible rfl
    | with_reducible exact id
    | with_reducible exact Nat.le_refl _
    | split
    | dsimp only
    | with_reducible apply upd
    | exact trivial
    | rfl
    | exact id
    | exact Nat.le_refl _
    | intro _

theorem execSupplyGlitch (h : Kept u s) : out u (@Sys2Proof.Machine.execSupplyGlitch s) := by
  dsimp only [Sys2Proof.Machine.execSupplyGlitch]
  repeat' first
    | with_reducible assumption
    | with_reducible apply tamperTrip
    | with_reducible apply foldl
    | with_reducible apply forRange
    | with_reducible apply out_next
    | with_reducible rfl
    | with_reducible exact id
    | with_reducible exact Nat.le_refl _
    | split
    | dsimp only
    | with_reducible apply upd
    | exact trivial
    | rfl
    | exact id
    | exact Nat.le_refl _
    | intro _

theorem relResult (h : Kept u s) {a1 a2 a3} : Kept u (@Sys2Proof.Machine.State.relResult s a1 a2 a3) := by
  dsimp only [Sys2Proof.Machine.State.relResult]
  repeat' first
    | with_reducible assumption
    | with_reducible apply wr
    | with_reducible apply satAdd
    | with_reducible apply foldl
    | with_reducible apply forRange
    | with_reducible rfl
    | with_reducible exact id
    | with_reducible exact Nat.le_refl _
    | split
    | dsimp only
    | with_reducible apply upd
    | exact trivial
    | rfl
    | exact id
    | exact Nat.le_refl _
    | intro _

theorem relBegin (h : Kept u s) {a1} : Kept u (@Sys2Proof.Machine.State.relBegin s a1) := by
  dsimp only [Sys2Proof.Machine.State.relBegin]
  repeat' first
    | with_reducible assumption
    | with_reducible apply setRelState
    | with_reducible apply foldl
    | with_reducible apply forRange
    | with_reducible rfl
    | with_reducible exact id
    | with_reducible exact Nat.le_refl _
    | split
    | dsimp only
    | with_reducible apply upd
    | exact trivial
    | rfl
    | exact id
    | exact Nat.le_refl _
    | intro _

theorem relAbsent (h : Kept u s) {a1 a2} : Kept u (@Sys2Proof.Machine.State.relAbsent s a1 a2) := by
  dsimp only [Sys2Proof.Machine.State.relAbsent]
  repeat' first
    | with_reducible assumption
    | with_reducible apply absentSlip
    | with_reducible apply answer
    | with_reducible apply foldl
    | with_reducible apply forRange
    | with_reducible rfl
    | with_reducible exact id
    | with_reducible exact Nat.le_refl _
    | split
    | dsimp only
    | with_reducible apply upd
    | exact trivial
    | rfl
    | exact id
    | exact Nat.le_refl _
    | intro _

theorem markStart (h : Kept u s) {a1 a2} : Kept u (@Sys2Proof.Machine.State.markStart s a1 a2) := by
  dsimp only [Sys2Proof.Machine.State.markStart]
  repeat' first
    | with_reducible assumption
    | with_reducible apply foldl
    | with_reducible apply forRange
    | with_reducible rfl
    | with_reducible exact id
    | with_reducible exact Nat.le_refl _
    | split
    | dsimp only
    | with_reducible apply upd
    | exact trivial
    | rfl
    | exact id
    | exact Nat.le_refl _
    | intro _

theorem execRelStart (h : Kept u s) {a0 a1} : out u (@Sys2Proof.Machine.execRelStart a0 a1 s) := by
  dsimp only [Sys2Proof.Machine.execRelStart]
  repeat' first
    | with_reducible assumption
    | with_reducible apply relAbsent
    | with_reducible apply markStart
    | with_reducible apply answerError
    | with_reducible apply relResult
    | with_reducible apply relBegin
    | with_reducible apply foldl
    | with_reducible apply forRange
    | with_reducible apply out_next
    | with_reducible rfl
    | with_reducible exact id
    | with_reducible exact Nat.le_refl _
    | split
    | dsimp only
    | with_reducible apply upd
    | exact trivial
    | rfl
    | exact id
    | exact Nat.le_refl _
    | intro _

theorem markExch (h : Kept u s) {a1 a2} : Kept u (@Sys2Proof.Machine.State.markExch s a1 a2) := by
  dsimp only [Sys2Proof.Machine.State.markExch]
  repeat' first
    | with_reducible assumption
    | with_reducible apply setExch
    | with_reducible apply foldl
    | with_reducible apply forRange
    | with_reducible rfl
    | with_reducible exact id
    | with_reducible exact Nat.le_refl _
    | split
    | dsimp only
    | with_reducible apply upd
    | exact trivial
    | rfl
    | exact id
    | exact Nat.le_refl _
    | intro _

theorem unstart (h : Kept u s) {a1 a2} : Kept u (@Sys2Proof.Machine.State.unstart s a1 a2) := by
  dsimp only [Sys2Proof.Machine.State.unstart]
  repeat' first
    | with_reducible assumption
    | with_reducible apply wr
    | with_reducible apply foldl
    | with_reducible apply forRange
    | with_reducible rfl
    | with_reducible exact id
    | with_reducible exact Nat.le_refl _
    | split
    | dsimp only
    | with_reducible apply upd
    | exact trivial
    | rfl
    | exact id
    | exact Nat.le_refl _
    | intro _

theorem execRelDrop (h : Kept u s) {a0 a1} : out u (@Sys2Proof.Machine.execRelDrop a0 a1 s) := by
  dsimp only [Sys2Proof.Machine.execRelDrop]
  repeat' first
    | with_reducible assumption
    | with_reducible apply relAbsent
    | with_reducible apply unstart
    | with_reducible apply answerError
    | with_reducible apply markExch
    | with_reducible apply dropLock
    | with_reducible apply setRelState
    | with_reducible apply foldl
    | with_reducible apply forRange
    | with_reducible apply out_next
    | with_reducible rfl
    | with_reducible exact id
    | with_reducible exact Nat.le_refl _
    | split
    | dsimp only
    | with_reducible apply upd
    | exact trivial
    | rfl
    | exact id
    | exact Nat.le_refl _
    | intro _

theorem execRelFailclr (h : Kept u s) {a0} : out u (@Sys2Proof.Machine.execRelFailclr a0 s) := by
  dsimp only [Sys2Proof.Machine.execRelFailclr]
  repeat' first
    | with_reducible assumption
    | with_reducible apply absentSlip
    | with_reducible apply answer
    | with_reducible apply event
    | with_reducible apply wr
    | with_reducible apply foldl
    | with_reducible apply forRange
    | with_reducible apply out_next
    | with_reducible rfl
    | with_reducible exact id
    | with_reducible exact Nat.le_refl _
    | split
    | dsimp only
    | with_reducible apply upd
    | exact trivial
    | rfl
    | exact id
    | exact Nat.le_refl _
    | intro _

theorem relCharge (h : Kept u s) {a1 a2} : Kept u (@Sys2Proof.Machine.State.relCharge s a1 a2) := by
  dsimp only [Sys2Proof.Machine.State.relCharge]
  repeat' first
    | with_reducible assumption
    | with_reducible apply charge
    | with_reducible apply foldl
    | with_reducible apply forRange
    | with_reducible rfl
    | with_reducible exact id
    | with_reducible exact Nat.le_refl _
    | split
    | dsimp only
    | with_reducible apply upd
    | exact trivial
    | rfl
    | exact id
    | exact Nat.le_refl _
    | intro _

theorem setSkip (h : Kept u s) {a1 a2} : Kept u (@Sys2Proof.Machine.State.setSkip s a1 a2) := by
  dsimp only [Sys2Proof.Machine.State.setSkip]
  repeat' first
    | with_reducible assumption
    | with_reducible apply wrF
    | with_reducible apply foldl
    | with_reducible apply forRange
    | with_reducible rfl
    | with_reducible exact id
    | with_reducible exact Nat.le_refl _
    | split
    | dsimp only
    | with_reducible apply upd
    | exact trivial
    | rfl
    | exact id
    | exact Nat.le_refl _
    | intro _

theorem noGrant (h : Kept u s) {a1} : Kept u (@Sys2Proof.Machine.State.noGrant s a1) := by
  dsimp only [Sys2Proof.Machine.State.noGrant]
  repeat' first
    | with_reducible assumption
    | with_reducible apply dropLock
    | with_reducible apply foldl
    | with_reducible apply forRange
    | with_reducible rfl
    | with_reducible exact id
    | with_reducible exact Nat.le_refl _
    | split
    | dsimp only
    | with_reducible apply upd
    | exact trivial
    | rfl
    | exact id
    | exact Nat.le_refl _
    | intro _

theorem skipRv (h : Kept u s) {a1 a2} : Kept u (@Sys2Proof.Machine.State.skipRv s a1 a2) := by
  dsimp only [Sys2Proof.Machine.State.skipRv]
  repeat' first
    | with_reducible assumption
    | with_reducible apply noGrant
    | with_reducible apply satAdd
    | with_reducible apply setSkip
    | with_reducible apply foldl
    | with_reducible apply forRange
    | with_reducible rfl
    | with_reducible exact id
    | with_reducible exact Nat.le_refl _
    | split
    | dsimp only
    | with_reducible apply upd
    | exact trivial
    | rfl
    | exact id
    | exact Nat.le_refl _
    | intro _

theorem relStrobes (h : Kept u s) {a1} : Kept u (@Sys2Proof.Machine.State.relStrobes s a1) := by
  dsimp only [Sys2Proof.Machine.State.relStrobes]
  repeat' first
    | with_reducible assumption
    | with_reducible apply foldl
    | with_reducible apply forRange
    | with_reducible rfl
    | with_reducible exact id
    | with_reducible exact Nat.le_refl _
    | split
    | dsimp only
    | with_reducible apply upd
    | exact trivial
    | rfl
    | exact id
    | exact Nat.le_refl _
    | intro _

theorem setWindow (h : Kept u s) {a1 a2} : Kept u (@Sys2Proof.Machine.State.setWindow s a1 a2) := by
  dsimp only [Sys2Proof.Machine.State.setWindow]
  repeat' first
    | with_reducible assumption
    | with_reducible apply foldl
    | with_reducible apply forRange
    | with_reducible rfl
    | with_reducible exact id
    | with_reducible exact Nat.le_refl _
    | split
    | dsimp only
    | with_reducible apply upd
    | exact trivial
    | rfl
    | exact id
    | exact Nat.le_refl _
    | intro _

theorem relSend (h : Kept u s) {a1 a2 a3} : Kept u (@Sys2Proof.Machine.State.relSend s a1 a2 a3) := by
  dsimp only [Sys2Proof.Machine.State.relSend]
  repeat' first
    | with_reducible assumption
    | with_reducible apply endTx
    | with_reducible apply relCharge
    | with_reducible apply airTx
    | with_reducible apply foldl
    | with_reducible apply forRange
    | with_reducible rfl
    | with_reducible exact id
    | with_reducible exact Nat.le_refl _
    | split
    | dsimp only
    | with_reducible apply upd
    | exact trivial
    | rfl
    | exact id
    | exact Nat.le_refl _
    | intro _

theorem relFrame (h : Kept u s) {a1 a2 a3 a4} : Kept u (@Sys2Proof.Machine.State.relFrame s a1 a2 a3 a4) := by
  dsimp only [Sys2Proof.Machine.State.relFrame]
  repeat' first
    | with_reducible assumption
    | with_reducible apply nextSeq
    | with_reducible apply relSend
    | with_reducible apply foldl
    | with_reducible apply forRange
    | (with_reducible apply snd_of; with_reducible assumption)
    | with_reducible rfl
    | with_reducible exact id
    | with_reducible exact Nat.le_refl _
    | split
    | dsimp only
    | (with_reducible apply snd_self; with_reducible assumption)
    | with_reducible apply upd
    | exact trivial
    | rfl
    | exact id
    | exact Nat.le_refl _
    | intro _

theorem relChirps (h : Kept u s) {a1 a2} : Kept u (@Sys2Proof.Machine.State.relChirps s a1 a2) := by
  dsimp only [Sys2Proof.Machine.State.relChirps]
  repeat' first
    | with_reducible assumption
    | with_reducible apply relSend
    | with_reducible apply foldl
    | with_reducible apply forRange
    | with_reducible rfl
    | with_reducible exact id
    | with_reducible exact Nat.le_refl _
    | split
    | dsimp only
    | with_reducible apply upd
    | exact trivial
    | rfl
    | exact id
    | exact Nat.le_refl _
    | intro _

theorem relRapid (h : Kept u s) {a1 a2 a3} : Kept u (@Sys2Proof.Machine.State.relRapid s a1 a2 a3) := by
  dsimp only [Sys2Proof.Machine.State.relRapid]
  repeat' first
    | with_reducible assumption
    | with_reducible apply relSend
    | with_reducible apply relChirps
    | with_reducible apply foldl
    | with_reducible apply forRange
    | with_reducible rfl
    | with_reducible exact id
    | with_reducible exact Nat.le_refl _
    | split
    | dsimp only
    | with_reducible apply upd
    | exact trivial
    | rfl
    | exact id
    | exact Nat.le_refl _
    | intro _

theorem relRandom (h : Kept u s) {a1} : Kept u (@Sys2Proof.Machine.State.relRandom s a1).2.2 := by
  dsimp only [Sys2Proof.Machine.State.relRandom]
  repeat' first
    | with_reducible assumption
    | with_reducible apply random
    | with_reducible apply takeFreeBytes
    | with_reducible apply foldl
    | with_reducible apply forRange
    | (with_reducible apply exc2_of; with_reducible assumption)
    | (with_reducible apply snd_of; with_reducible assumption)
    | with_reducible rfl
    | with_reducible exact id
    | with_reducible exact Nat.le_refl _
    | split
    | dsimp only
    | with_reducible apply upd
    | exact trivial
    | rfl
    | exact id
    | exact Nat.le_refl _
    | intro _

theorem deskExchange (h : Kept u s) {a1 a2} : Kept u (@Sys2Proof.Machine.State.deskExchange s a1 a2) := by
  dsimp only [Sys2Proof.Machine.State.deskExchange]
  repeat' first
    | with_reducible assumption
    | with_reducible apply tuneTo
    | with_reducible apply relFrame
    | with_reducible apply setWindow
    | with_reducible apply relRapid
    | with_reducible apply sent
    | with_reducible apply relRandom
    | with_reducible apply relCharge
    | with_reducible apply noGrant
    | with_reducible apply relStrobes
    | with_reducible apply setSkip
    | with_reducible apply satAdd
    | with_reducible apply setExch
    | with_reducible apply foldl
    | with_reducible apply forRange
    | (with_reducible apply snd2_of; with_reducible assumption)
    | with_reducible rfl
    | with_reducible exact id
    | with_reducible exact Nat.le_refl _
    | split
    | dsimp only
    | with_reducible apply upd
    | exact trivial
    | rfl
    | exact id
    | exact Nat.le_refl _
    | intro _

theorem cardWindow (h : Kept u s) {a1} : Kept u (@Sys2Proof.Machine.State.cardWindow s a1) := by
  dsimp only [Sys2Proof.Machine.State.cardWindow]
  repeat' first
    | with_reducible assumption
    | with_reducible apply tuneTo
    | with_reducible apply setWindow
    | with_reducible apply relStrobes
    | with_reducible apply setSkip
    | with_reducible apply foldl
    | with_reducible apply forRange
    | with_reducible rfl
    | with_reducible exact id
    | with_reducible exact Nat.le_refl _
    | split
    | dsimp only
    | with_reducible apply upd
    | exact trivial
    | rfl
    | exact id
    | exact Nat.le_refl _
    | intro _

theorem relBusy (h : Kept u s) {a1} : Kept u (@Sys2Proof.Machine.State.relBusy s a1) := by
  dsimp only [Sys2Proof.Machine.State.relBusy]
  repeat' first
    | with_reducible assumption
    | with_reducible apply takeFree
    | with_reducible apply satAdd
    | with_reducible apply skipRv
    | with_reducible apply foldl
    | with_reducible apply forRange
    | (with_reducible apply snd_of; with_reducible assumption)
    | with_reducible rfl
    | with_reducible exact id
    | with_reducible exact Nat.le_refl _
    | split
    | dsimp only
    | (with_reducible apply snd_self; with_reducible assumption)
    | with_reducible apply upd
    | exact trivial
    | rfl
    | exact id
    | exact Nat.le_refl _
    | intro _

theorem execRelRendezvous (h : Kept u s) {a1 a2 a3} : out u (@Sys2Proof.Machine.execRelRendezvous a1 a2 a3 s) := by
  dsimp only [Sys2Proof.Machine.execRelRendezvous]
  repeat' first
    | with_reducible assumption
    | with_reducible apply skipRv
    | with_reducible apply relBusy
    | with_reducible apply deskExchange
    | with_reducible apply cardWindow
    | with_reducible apply foldl
    | with_reducible apply forRange
    | with_reducible apply out_next
    | with_reducible rfl
    | with_reducible exact id
    | with_reducible exact Nat.le_refl _
    | split
    | dsimp only
    | with_reducible apply upd
    | exact trivial
    | rfl
    | exact id
    | exact Nat.le_refl _
    | intro _

theorem cardExchange (h : Kept u s) {a1 a2 a3 a4 a5 a6 a7} : Kept u (@Sys2Proof.Machine.State.cardExchange s a1 a2 a3 a4 a5 a6 a7) := by
  dsimp only [Sys2Proof.Machine.State.cardExchange]
  repeat' first
    | with_reducible assumption
    | with_reducible apply relRandom
    | with_reducible apply sent
    | with_reducible apply setWindow
    | with_reducible apply setSkip
    | with_reducible apply satAdd
    | with_reducible apply relFrame
    | with_reducible apply takeFreeBytes
    | with_reducible apply setExch
    | with_reducible apply relRapid
    | with_reducible apply relStrobes
    | with_reducible apply foldl
    | with_reducible apply forRange
    | (with_reducible apply snd2_of; with_reducible assumption)
    | (with_reducible apply snd_of; with_reducible assumption)
    | with_reducible rfl
    | with_reducible exact id
    | with_reducible exact Nat.le_refl _
    | split
    | dsimp only
    | (with_reducible apply snd_self; with_reducible assumption)
    | with_reducible apply upd
    | exact trivial
    | rfl
    | exact id
    | exact Nat.le_refl _
    | intro _

theorem execRelOpenReceived (h : Kept u s) {a1 a2 a3 a4 a5 a6 a7 a8} : out u (@Sys2Proof.Machine.execRelOpenReceived a1 a2 a3 a4 a5 a6 a7 a8 s) := by
  dsimp only [Sys2Proof.Machine.execRelOpenReceived]
  repeat' first
    | with_reducible assumption
    | with_reducible apply takeFree
    | with_reducible apply skipRv
    | with_reducible apply cardExchange
    | with_reducible apply foldl
    | with_reducible apply forRange
    | with_reducible apply out_next
    | (with_reducible apply snd_of; with_reducible assumption)
    | with_reducible rfl
    | with_reducible exact id
    | with_reducible exact Nat.le_refl _
    | split
    | dsimp only
    | (with_reducible apply snd_self; with_reducible assumption)
    | with_reducible apply upd
    | exact trivial
    | rfl
    | exact id
    | exact Nat.le_refl _
    | intro _

theorem setSession (h : Kept u s) {a1 a2} : Kept u (@Sys2Proof.Machine.State.setSession s a1 a2) := by
  dsimp only [Sys2Proof.Machine.State.setSession]
  repeat' first
    | with_reducible assumption
    | with_reducible apply foldl
    | with_reducible apply forRange
    | with_reducible rfl
    | with_reducible exact id
    | with_reducible exact Nat.le_refl _
    | split
    | dsimp only
    | with_reducible apply upd
    | exact trivial
    | rfl
    | exact id
    | exact Nat.le_refl _
    | intro _

theorem relGrant (h : Kept u s) {a1 a2 a3} : Kept u (@Sys2Proof.Machine.State.relGrant s a1 a2 a3) := by
  dsimp only [Sys2Proof.Machine.State.relGrant]
  repeat' first
    | with_reducible assumption
    | with_reducible apply eventIf
    | with_reducible apply takeFree
    | with_reducible apply wrF
    | with_reducible apply setRelState
    | with_reducible apply sendLock
    | with_reducible apply setSession
    | with_reducible apply event
    | with_reducible apply foldl
    | with_reducible apply forRange
    | (with_reducible apply snd_of; with_reducible assumption)
    | with_reducible rfl
    | with_reducible exact id
    | with_reducible exact Nat.le_refl _
    | split
    | dsimp only
    | with_reducible apply upd
    | exact trivial
    | rfl
    | exact id
    | exact Nat.le_refl _
    | intro _

theorem relFail (h : Kept u s) {a1} : Kept u (@Sys2Proof.Machine.State.relFail s a1) := by
  dsimp only [Sys2Proof.Machine.State.relFail]
  repeat' first
    | with_reducible assumption
    | with_reducible apply noGrant
    | with_reducible apply event
    | with_reducible apply satAdd
    | with_reducible apply foldl
    | with_reducible apply forRange
    | with_reducible rfl
    | with_reducible exact id
    | with_reducible exact Nat.le_refl _
    | split
    | dsimp only
    | with_reducible apply upd
    | exact trivial
    | rfl
    | exact id
    | exact Nat.le_refl _
    | intro _

theorem sendVerdict (h : Kept u s) {a1 a2 a3} : Kept u (@Sys2Proof.Machine.State.sendVerdict s a1 a2 a3) := by
  dsimp only [Sys2Proof.Machine.State.sendVerdict]
  repeat' first
    | with_reducible assumption
    | with_reducible apply grant
    | with_reducible apply sent
    | with_reducible apply relFrame
    | with_reducible apply relStrobes
    | with_reducible apply relCharge
    | with_reducible apply setExch
    | with_reducible apply takeFreeBytes
    | with_reducible apply foldl
    | with_reducible apply forRange
    | (with_reducible apply snd_of; with_reducible assumption)
    | (with_reducible apply opt2_of; with_reducible assumption)
    | with_reducible rfl
    | with_reducible exact id
    | with_reducible exact Nat.le_refl _
    | split
    | dsimp only
    | with_reducible apply upd
    | exact trivial
    | rfl
    | exact id
    | exact Nat.le_refl _
    | intro _

theorem execRelDecision (h : Kept u s) {a0 a1 a2 a3 a4 a5} : out u (@Sys2Proof.Machine.execRelDecision a0 a1 a2 a3 a4 a5 s) := by
  dsimp only [Sys2Proof.Machine.execRelDecision]
  repeat' first
    | with_reducible assumption
    | with_reducible apply sendVerdict
    | with_reducible apply relGrant
    | with_reducible apply relFail
    | with_reducible apply foldl
    | with_reducible apply forRange
    | with_reducible apply out_next
    | with_reducible rfl
    | with_reducible exact id
    | with_reducible exact Nat.le_refl _
    | split
    | dsimp only
    | with_reducible apply upd
    | exact trivial
    | rfl
    | exact id
    | exact Nat.le_refl _
    | intro _

theorem execRelExchangeEnd (h : Kept u s) {a0} : out u (@Sys2Proof.Machine.execRelExchangeEnd a0 s) := by
  dsimp only [Sys2Proof.Machine.execRelExchangeEnd]
  repeat' first
    | with_reducible assumption
    | with_reducible apply endTx
    | with_reducible apply setWindow
    | with_reducible apply relStrobes
    | with_reducible apply event
    | with_reducible apply endExch
    | with_reducible apply foldl
    | with_reducible apply forRange
    | with_reducible apply out_next
    | with_reducible rfl
    | with_reducible exact id
    | with_reducible exact Nat.le_refl _
    | split
    | dsimp only
    | with_reducible apply upd
    | exact trivial
    | rfl
    | exact id
    | exact Nat.le_refl _
    | intro _

theorem execRelVerdictReceived (h : Kept u s) {a0 a1} : out u (@Sys2Proof.Machine.execRelVerdictReceived a0 a1 s) := by
  dsimp only [Sys2Proof.Machine.execRelVerdictReceived]
  repeat' first
    | with_reducible assumption
    | with_reducible apply endTx
    | with_reducible apply relStrobes
    | with_reducible apply event
    | with_reducible apply endExch
    | with_reducible apply satAdd
    | with_reducible apply foldl
    | with_reducible apply forRange
    | with_reducible apply out_next
    | with_reducible rfl
    | with_reducible exact id
    | with_reducible exact Nat.le_refl _
    | split
    | dsimp only
    | with_reducible apply upd
    | exact trivial
    | rfl
    | exact id
    | exact Nat.le_refl _
    | intro _

theorem execRelSessionEnd (h : Kept u s) {a0} : out u (@Sys2Proof.Machine.execRelSessionEnd a0 s) := by
  dsimp only [Sys2Proof.Machine.execRelSessionEnd]
  repeat' first
    | with_reducible assumption
    | with_reducible apply dropLock
    | with_reducible apply foldl
    | with_reducible apply forRange
    | with_reducible apply out_next
    | with_reducible rfl
    | with_reducible exact id
    | with_reducible exact Nat.le_refl _
    | split
    | dsimp only
    | with_reducible apply upd
    | exact trivial
    | rfl
    | exact id
    | exact Nat.le_refl _
    | intro _

theorem doorEdge (h : Kept u s) {a1 a2} : Kept u (@Sys2Proof.Machine.State.doorEdge s a1 a2) := by
  dsimp only [Sys2Proof.Machine.State.doorEdge]
  repeat' first
    | with_reducible assumption
    | with_reducible apply event
    | with_reducible apply setB
    | with_reducible apply dropLock
    | with_reducible apply foldl
    | with_reducible apply forRange
    | with_reducible rfl
    | with_reducible exact id
    | with_reducible exact Nat.le_refl _
    | split
    | dsimp only
    | with_reducible apply upd
    | exact trivial
    | rfl
    | exact id
    | exact Nat.le_refl _
    | intro _

theorem execDoorInEdge (h : Kept u s) {a0 a1} : out u (@Sys2Proof.Machine.execDoorInEdge a0 a1 s) := by
  dsimp only [Sys2Proof.Machine.execDoorInEdge]
  repeat' first
    | with_reducible assumption
    | with_reducible apply padWake
    | with_reducible apply doorEdge
    | with_reducible apply foldl
    | with_reducible apply forRange
    | with_reducible apply out_next
    | with_reducible rfl
    | with_reducible exact id
    | with_reducible exact Nat.le_refl _
    | split
    | dsimp only
    | with_reducible apply upd
    | exact trivial
    | rfl
    | exact id
    | exact Nat.le_refl _
    | intro _

theorem skipRendezvous (h : Kept u s) {a1} : Kept u (@Sys2Proof.Machine.State.skipRendezvous s a1) := by
  dsimp only [Sys2Proof.Machine.State.skipRendezvous]
  repeat' first
    | with_reducible assumption
    | with_reducible apply forRange
    | with_reducible apply noGrant
    | with_reducible apply foldl
    | with_reducible apply forRange
    | with_reducible rfl
    | with_reducible exact id
    | with_reducible exact Nat.le_refl _
    | split
    | dsimp only
    | with_reducible apply upd
    | exact trivial
    | rfl
    | exact id
    | exact Nat.le_refl _
    | intro _

theorem fireAlarm (h : Kept u s) : Kept u (@Sys2Proof.Machine.State.fireAlarm s) := by
  dsimp only [Sys2Proof.Machine.State.fireAlarm]
  repeat' first
    | with_reducible assumption
    | with_reducible apply setB
    | with_reducible apply wake
    | with_reducible apply foldl
    | with_reducible apply forRange
    | with_reducible rfl
    | with_reducible exact id
    | with_reducible exact Nat.le_refl _
    | split
    | dsimp only
    | with_reducible apply upd
    | exact trivial
    | rfl
    | exact id
    | exact Nat.le_refl _
    | intro _

theorem execAlarmFire (h : Kept u s) : out u (@Sys2Proof.Machine.execAlarmFire s) := by
  dsimp only [Sys2Proof.Machine.execAlarmFire]
  repeat' first
    | with_reducible assumption
    | with_reducible apply fireAlarm
    | with_reducible apply foldl
    | with_reducible apply forRange
    | with_reducible apply out_next
    | with_reducible rfl
    | with_reducible exact id
    | with_reducible exact Nat.le_refl _
    | split
    | dsimp only
    | with_reducible apply upd
    | exact trivial
    | rfl
    | exact id
    | exact Nat.le_refl _
    | intro _

theorem execPwrAlarmHiWrite (h : Kept u s) {a0} : out u (@Sys2Proof.Machine.execPwrAlarmHiWrite a0 s) := by
  dsimp only [Sys2Proof.Machine.execPwrAlarmHiWrite]
  repeat' first
    | with_reducible assumption
    | with_reducible apply wr
    | with_reducible apply fireAlarm
    | with_reducible apply foldl
    | with_reducible apply forRange
    | with_reducible apply out_next
    | with_reducible rfl
    | with_reducible exact id
    | with_reducible exact Nat.le_refl _
    | split
    | dsimp only
    | with_reducible apply upd
    | exact trivial
    | rfl
    | exact id
    | exact Nat.le_refl _
    | intro _

theorem carried (h : Kept u s) {a1} : Kept u (@Sys2Proof.Machine.State.carried s a1) := by
  dsimp only [Sys2Proof.Machine.State.carried]
  repeat' first
    | with_reducible assumption
    | with_reducible apply skipActions
    | with_reducible apply fireAlarm
    | with_reducible apply setB
    | with_reducible apply skipRendezvous
    | with_reducible apply foldl
    | with_reducible apply forRange
    | with_reducible rfl
    | with_reducible exact id
    | with_reducible exact Nat.le_refl _
    | split
    | dsimp only
    | with_reducible apply upd
    | exact trivial
    | rfl
    | exact id
    | exact Nat.le_refl _
    | intro _

theorem applyStep (h : Kept u s) {a1} : Kept u (@Sys2Proof.Machine.State.applyStep s a1) := by
  dsimp only [Sys2Proof.Machine.State.applyStep]
  repeat' first
    | with_reducible assumption
    | with_reducible apply missOp
    | with_reducible apply serveOp
    | with_reducible apply carried
    | with_reducible apply foldl
    | with_reducible apply forRange
    | with_reducible rfl
    | with_reducible exact id
    | with_reducible exact Nat.le_refl _
    | split
    | dsimp only
    | with_reducible apply upd
    | exact trivial
    | rfl
    | exact id
    | exact Nat.le_refl _
    | intro _

theorem softStep (h : Kept u s) : Kept u (@Sys2Proof.Machine.State.softStep s) := by
  dsimp only [Sys2Proof.Machine.State.softStep]
  repeat' first
    | with_reducible assumption
    | with_reducible apply setB
    | with_reducible apply applyStep
    | with_reducible apply chronFlag
    | with_reducible apply foldl
    | with_reducible apply forRange
    | with_reducible rfl
    | with_reducible exact id
    | with_reducible exact Nat.le_refl _
    | split
    | dsimp only
    | with_reducible apply upd
    | exact trivial
    | rfl
    | exact id
    | exact Nat.le_refl _
    | intro _

theorem execChronStepArm (h : Kept u s) : out u (@Sys2Proof.Machine.execChronStepArm s) := by
  dsimp only [Sys2Proof.Machine.execChronStepArm]
  repeat' first
    | with_reducible assumption
    | with_reducible apply softStep
    | with_reducible apply setB
    | with_reducible apply foldl
    | with_reducible apply forRange
    | with_reducible apply out_next
    | with_reducible rfl
    | with_reducible exact id
    | with_reducible exact Nat.le_refl _
    | split
    | dsimp only
    | with_reducible apply upd
    | exact trivial
    | rfl
    | exact id
    | exact Nat.le_refl _
    | intro _

theorem execChronStepNow (h : Kept u s) : out u (@Sys2Proof.Machine.execChronStepNow s) := by
  dsimp only [Sys2Proof.Machine.execChronStepNow]
  repeat' first
    | with_reducible assumption
    | with_reducible apply softStep
    | with_reducible apply foldl
    | with_reducible apply forRange
    | with_reducible apply out_next
    | with_reducible rfl
    | with_reducible exact id
    | with_reducible exact Nat.le_refl _
    | split
    | dsimp only
    | with_reducible apply upd
    | exact trivial
    | rfl
    | exact id
    | exact Nat.le_refl _
    | intro _

theorem execChronStepCancel (h : Kept u s) : out u (@Sys2Proof.Machine.execChronStepCancel s) := by
  dsimp only [Sys2Proof.Machine.execChronStepCancel]
  repeat' first
    | with_reducible assumption
    | with_reducible apply setB
    | with_reducible apply foldl
    | with_reducible apply forRange
    | with_reducible apply out_next
    | with_reducible rfl
    | with_reducible exact id
    | with_reducible exact Nat.le_refl _
    | split
    | dsimp only
    | with_reducible apply upd
    | exact trivial
    | rfl
    | exact id
    | exact Nat.le_refl _
    | intro _

theorem execChronStepReached (h : Kept u s) : out u (@Sys2Proof.Machine.execChronStepReached s) := by
  dsimp only [Sys2Proof.Machine.execChronStepReached]
  repeat' first
    | with_reducible assumption
    | with_reducible apply softStep
    | with_reducible apply foldl
    | with_reducible apply forRange
    | with_reducible apply out_next
    | with_reducible rfl
    | with_reducible exact id
    | with_reducible exact Nat.le_refl _
    | split
    | dsimp only
    | with_reducible apply upd
    | exact trivial
    | rfl
    | exact id
    | exact Nat.le_refl _
    | intro _

theorem execDisciplineStep (h : Kept u s) : out u (@Sys2Proof.Machine.execDisciplineStep s) := by
  dsimp only [Sys2Proof.Machine.execDisciplineStep]
  repeat' first
    | with_reducible assumption
    | with_reducible apply applyStep
    | with_reducible apply foldl
    | with_reducible apply forRange
    | with_reducible apply out_next
    | with_reducible rfl
    | with_reducible exact id
    | with_reducible exact Nat.le_refl _
    | split
    | dsimp only
    | with_reducible apply upd
    | exact trivial
    | rfl
    | exact id
    | exact Nat.le_refl _
    | intro _

theorem execChronLost (h : Kept u s) {a0} : out u (@Sys2Proof.Machine.execChronLost a0 s) := by
  dsimp only [Sys2Proof.Machine.execChronLost]
  repeat' first
    | with_reducible assumption
    | with_reducible apply checkSync
    | with_reducible apply chronFlag
    | with_reducible apply setB
    | with_reducible apply foldl
    | with_reducible apply forRange
    | with_reducible apply out_next
    | with_reducible rfl
    | with_reducible exact id
    | with_reducible exact Nat.le_refl _
    | split
    | dsimp only
    | with_reducible apply upd
    | exact trivial
    | rfl
    | exact id
    | exact Nat.le_refl _
    | intro _

theorem severe (h : Kept u s) {a1} : Kept u (@Sys2Proof.Machine.State.severe s a1) := by
  dsimp only [Sys2Proof.Machine.State.severe]
  repeat' first
    | with_reducible assumption
    | with_reducible apply event
    | with_reducible apply setB
    | with_reducible apply wrF
    | with_reducible apply foldl
    | with_reducible apply forRange
    | with_reducible rfl
    | with_reducible exact id
    | with_reducible exact Nat.le_refl _
    | split
    | dsimp only
    | with_reducible apply upd
    | exact trivial
    | rfl
    | exact id
    | exact Nat.le_refl _
    | intro _

theorem trace (h : Kept u s) {a1 a2 a3} : Kept u (@Sys2Proof.Machine.State.trace s a1 a2 a3) := by
  dsimp only [Sys2Proof.Machine.State.trace]
  repeat' first
    | with_reducible assumption
    | with_reducible apply satAdd
    | with_reducible apply foldl
    | with_reducible apply forRange
    | with_reducible rfl
    | with_reducible exact id
    | with_reducible exact Nat.le_refl _
    | split
    | dsimp only
    | with_reducible apply upd
    | exact trivial
    | rfl
    | exact id
    | exact Nat.le_refl _
    | intro _

theorem takeSlip (h : Kept u s) {a1} : Kept u (@Sys2Proof.Machine.State.takeSlip s a1) := by
  dsimp only [Sys2Proof.Machine.State.takeSlip]
  repeat' first
    | with_reducible assumption
    | with_reducible apply satAdd
    | with_reducible apply trace
    | with_reducible apply setB
    | with_reducible apply event
    | with_reducible apply severe
    | with_reducible apply graveHold
    | with_reducible apply foldl
    | with_reducible apply forRange
    | with_reducible rfl
    | with_reducible exact id
    | with_reducible exact Nat.le_refl _
    | split
    | dsimp only
    | with_reducible apply upd
    | exact trivial
    | rfl
    | exact id
    | exact Nat.le_refl _
    | intro _

theorem noteSlip (h : Kept u s) {a1} : Kept u (@Sys2Proof.Machine.State.noteSlip s a1) := by
  dsimp only [Sys2Proof.Machine.State.noteSlip]
  repeat' first
    | with_reducible assumption
    | with_reducible apply foldl
    | with_reducible apply forRange
    | with_reducible rfl
    | with_reducible exact id
    | with_reducible exact Nat.le_refl _
    | split
    | dsimp only
    | with_reducible apply upd
    | exact trivial
    | rfl
    | exact id
    | exact Nat.le_refl _
    | intro _

theorem execSlipIntake (h : Kept u s) {a0} : out u (@Sys2Proof.Machine.execSlipIntake a0 s) := by
  dsimp only [Sys2Proof.Machine.execSlipIntake]
  repeat' first
    | with_reducible assumption
    | with_reducible apply noteSlip
    | with_reducible apply takeSlip
    | with_reducible apply foldl
    | with_reducible apply forRange
    | with_reducible apply out_next
    | with_reducible rfl
    | with_reducible exact id
    | with_reducible exact Nat.le_refl _
    | split
    | dsimp only
    | with_reducible apply upd
    | exact trivial
    | rfl
    | exact id
    | exact Nat.le_refl _
    | intro _

theorem execStickyClear (h : Kept u s) {a0 a1} : out u (@Sys2Proof.Machine.execStickyClear a0 a1 s) := by
  dsimp only [Sys2Proof.Machine.execStickyClear]
  repeat' first
    | with_reducible assumption
    | with_reducible apply severe
    | with_reducible apply wr
    | with_reducible apply foldl
    | with_reducible apply forRange
    | with_reducible apply out_next
    | with_reducible rfl
    | with_reducible exact id
    | with_reducible exact Nat.le_refl _
    | split
    | dsimp only
    | with_reducible apply upd
    | exact trivial
    | rfl
    | exact id
    | exact Nat.le_refl _
    | intro _

theorem execGraceExpiry (h : Kept u s) : out u (@Sys2Proof.Machine.execGraceExpiry s) := by
  dsimp only [Sys2Proof.Machine.execGraceExpiry]
  repeat' first
    | with_reducible assumption
    | with_reducible apply severe
    | with_reducible apply warmReset
    | with_reducible apply setB
    | with_reducible apply foldl
    | with_reducible apply forRange
    | with_reducible apply out_next
    | with_reducible rfl
    | with_reducible exact id
    | with_reducible exact Nat.le_refl _
    | split
    | dsimp only
    | with_reducible apply upd
    | exact trivial
    | rfl
    | exact id
    | exact Nat.le_refl _
    | intro _

theorem execFaultInject (h : Kept u s) {a0} : out u (@Sys2Proof.Machine.execFaultInject a0 s) := by
  dsimp only [Sys2Proof.Machine.execFaultInject]
  repeat' first
    | with_reducible assumption
    | with_reducible apply satAdd
    | with_reducible apply slip
    | with_reducible apply foldl
    | with_reducible apply forRange
    | with_reducible apply out_next
    | with_reducible rfl
    | with_reducible exact id
    | with_reducible exact Nat.le_refl _
    | split
    | dsimp only
    | with_reducible apply upd
    | exact trivial
    | rfl
    | exact id
    | exact Nat.le_refl _
    | intro _

theorem readTraceSlip (h : Kept u s) {a1} : Kept u (@Sys2Proof.Machine.State.readTraceSlip s a1).2 := by
  dsimp only [Sys2Proof.Machine.State.readTraceSlip]
  repeat' first
    | with_reducible assumption
    | with_reducible apply trace
    | with_reducible apply slip
    | with_reducible apply foldl
    | with_reducible apply forRange
    | with_reducible rfl
    | with_reducible exact id
    | with_reducible exact Nat.le_refl _
    | split
    | dsimp only
    | with_reducible apply upd
    | exact trivial
    | rfl
    | exact id
    | exact Nat.le_refl _
    | intro _

theorem execTraceSlipRead (h : Kept u s) {a0} : out u (@Sys2Proof.Machine.execTraceSlipRead a0 s) := by
  dsimp only [Sys2Proof.Machine.execTraceSlipRead]
  repeat' first
    | with_reducible assumption
    | with_reducible apply answerError
    | with_reducible apply readTraceSlip
    | with_reducible apply answer
    | with_reducible apply foldl
    | with_reducible apply forRange
    | with_reducible apply out_next
    | (with_reducible apply snd_of; with_reducible assumption)
    | with_reducible rfl
    | with_reducible exact id
    | with_reducible exact Nat.le_refl _
    | split
    | dsimp only
    | with_reducible apply upd
    | exact trivial
    | rfl
    | exact id
    | exact Nat.le_refl _
    | intro _

theorem execTraceStatWrite (h : Kept u s) {a0} : out u (@Sys2Proof.Machine.execTraceStatWrite a0 s) := by
  dsimp only [Sys2Proof.Machine.execTraceStatWrite]
  repeat' first
    | with_reducible assumption
    | with_reducible apply answerError
    | with_reducible apply wrF
    | with_reducible apply foldl
    | with_reducible apply forRange
    | with_reducible apply out_next
    | with_reducible rfl
    | with_reducible exact id
    | with_reducible exact Nat.le_refl _
    | split
    | dsimp only
    | with_reducible apply upd
    | exact trivial
    | rfl
    | exact id
    | exact Nat.le_refl _
    | intro _

theorem execRegulatorOutOfRange (h : Kept u s) {a0} : out u (@Sys2Proof.Machine.execRegulatorOutOfRange a0 s) := by
  dsimp only [Sys2Proof.Machine.execRegulatorOutOfRange]
  repeat' first
    | with_reducible assumption
    | with_reducible apply takeSlip
    | with_reducible apply foldl
    | with_reducible apply forRange
    | with_reducible apply out_next
    | with_reducible rfl
    | with_reducible exact id
    | with_reducible exact Nat.le_refl _
    | split
    | dsimp only
    | with_reducible apply upd
    | exact trivial
    | rfl
    | exact id
    | exact Nat.le_refl _
    | intro _

theorem wdogWarn (h : Kept u s) : Kept u (@Sys2Proof.Machine.State.wdogWarn s) := by
  dsimp only [Sys2Proof.Machine.State.wdogWarn]
  repeat' first
    | with_reducible assumption
    | with_reducible apply wake
    | with_reducible apply slip
    | with_reducible apply event
    | with_reducible apply setB
    | with_reducible apply foldl
    | with_reducible apply forRange
    | with_reducible rfl
    | with_reducible exact id
    | with_reducible exact Nat.le_refl _
    | split
    | dsimp only
    | with_reducible apply upd
    | exact trivial
    | rfl
    | exact id
    | exact Nat.le_refl _
    | intro _

theorem wdogFeed (h : Kept u s) : Kept u (@Sys2Proof.Machine.State.wdogFeed s) := by
  dsimp only [Sys2Proof.Machine.State.wdogFeed]
  repeat' first
    | with_reducible assumption
    | with_reducible apply wr
    | with_reducible apply foldl
    | with_reducible apply forRange
    | with_reducible rfl
    | with_reducible exact id
    | with_reducible exact Nat.le_refl _
    | split
    | dsimp only
    | with_reducible apply upd
    | exact trivial
    | rfl
    | exact id
    | exact Nat.le_refl _
    | intro _

theorem execWdogFeed (h : Kept u s) {a0} : out u (@Sys2Proof.Machine.execWdogFeed a0 s) := by
  dsimp only [Sys2Proof.Machine.execWdogFeed]
  repeat' first
    | with_reducible assumption
    | with_reducible apply wdogFeed
    | with_reducible apply satAdd
    | with_reducible apply wdogWarn
    | with_reducible apply foldl
    | with_reducible apply forRange
    | with_reducible apply out_next
    | with_reducible rfl
    | with_reducible exact id
    | with_reducible exact Nat.le_refl _
    | split
    | dsimp only
    | with_reducible apply upd
    | exact trivial
    | rfl
    | exact id
    | exact Nat.le_refl _
    | intro _

theorem execWdogWarning (h : Kept u s) : out u (@Sys2Proof.Machine.execWdogWarning s) := by
  dsimp only [Sys2Proof.Machine.execWdogWarning]
  repeat' first
    | with_reducible assumption
    | with_reducible apply wdogWarn
    | with_reducible apply foldl
    | with_reducible apply forRange
    | with_reducible apply out_next
    | with_reducible rfl
    | with_reducible exact id
    | with_reducible exact Nat.le_refl _
    | split
    | dsimp only
    | with_reducible apply upd
    | exact trivial
    | rfl
    | exact id
    | exact Nat.le_refl _
    | intro _

theorem execWdogReset (h : Kept u s) : out u (@Sys2Proof.Machine.execWdogReset s) := by
  dsimp only [Sys2Proof.Machine.execWdogReset]
  repeat' first
    | with_reducible assumption
    | with_reducible apply warmReset
    | with_reducible apply foldl
    | with_reducible apply forRange
    | with_reducible apply out_next
    | with_reducible rfl
    | with_reducible exact id
    | with_reducible exact Nat.le_refl _
    | split
    | dsimp only
    | with_reducible apply upd
    | exact trivial
    | rfl
    | exact id
    | exact Nat.le_refl _
    | intro _

theorem execWdogLimitWrite (h : Kept u s) {a0 a1} : out u (@Sys2Proof.Machine.execWdogLimitWrite a0 a1 s) := by
  dsimp only [Sys2Proof.Machine.execWdogLimitWrite]
  repeat' first
    | with_reducible assumption
    | with_reducible apply satAdd
    | with_reducible apply foldl
    | with_reducible apply forRange
    | with_reducible apply out_next
    | with_reducible rfl
    | with_reducible exact id
    | with_reducible exact Nat.le_refl _
    | split
    | dsimp only
    | with_reducible apply upd
    | exact trivial
    | rfl
    | exact id
    | exact Nat.le_refl _
    | intro _

theorem execWdogLock (h : Kept u s) : out u (@Sys2Proof.Machine.execWdogLock s) := by
  dsimp only [Sys2Proof.Machine.execWdogLock]
  repeat' first
    | with_reducible assumption
    | with_reducible apply setB
    | with_reducible apply foldl
    | with_reducible apply forRange
    | with_reducible apply out_next
    | with_reducible rfl
    | with_reducible exact id
    | with_reducible exact Nat.le_refl _
    | split
    | dsimp only
    | with_reducible apply upd
    | exact trivial
    | rfl
    | exact id
    | exact Nat.le_refl _
    | intro _

theorem execDebugHalt (h : Kept u s) : out u (@Sys2Proof.Machine.execDebugHalt s) := by
  dsimp only [Sys2Proof.Machine.execDebugHalt]
  repeat' first
    | with_reducible assumption
    | with_reducible apply foldl
    | with_reducible apply forRange
    | with_reducible apply out_next
    | with_reducible rfl
    | with_reducible exact id
    | with_reducible exact Nat.le_refl _
    | split
    | dsimp only
    | with_reducible apply upd
    | exact trivial
    | rfl
    | exact id
    | exact Nat.le_refl _
    | intro _

theorem execDebugResume (h : Kept u s) : out u (@Sys2Proof.Machine.execDebugResume s) := by
  dsimp only [Sys2Proof.Machine.execDebugResume]
  repeat' first
    | with_reducible assumption
    | with_reducible apply foldl
    | with_reducible apply forRange
    | with_reducible apply out_next
    | with_reducible rfl
    | with_reducible exact id
    | with_reducible exact Nat.le_refl _
    | split
    | dsimp only
    | with_reducible apply upd
    | exact trivial
    | rfl
    | exact id
    | exact Nat.le_refl _
    | intro _

theorem wdogTick (h : Kept u s) : Kept u (@Sys2Proof.Machine.State.wdogTick s) := by
  dsimp only [Sys2Proof.Machine.State.wdogTick]
  repeat' first
    | with_reducible assumption
    | with_reducible apply wrF
    | with_reducible apply foldl
    | with_reducible apply forRange
    | with_reducible rfl
    | with_reducible exact id
    | with_reducible exact Nat.le_refl _
    | split
    | dsimp only
    | with_reducible apply upd
    | exact trivial
    | rfl
    | exact id
    | exact Nat.le_refl _
    | intro _

theorem graceTick (h : Kept u s) : Kept u (@Sys2Proof.Machine.State.graceTick s) := by
  dsimp only [Sys2Proof.Machine.State.graceTick]
  repeat' first
    | with_reducible assumption
    | with_reducible apply wrF
    | with_reducible apply foldl
    | with_reducible apply forRange
    | with_reducible rfl
    | with_reducible exact id
    | with_reducible exact Nat.le_refl _
    | split
    | dsimp only
    | with_reducible apply upd
    | exact trivial
    | rfl
    | exact id
    | exact Nat.le_refl _
    | intro _

theorem recallTick (h : Kept u s) : Kept u (@Sys2Proof.Machine.State.recallTick s) := by
  dsimp only [Sys2Proof.Machine.State.recallTick]
  repeat' first
    | with_reducible assumption
    | with_reducible apply foldl
    | with_reducible apply forRange
    | with_reducible rfl
    | with_reducible exact id
    | with_reducible exact Nat.le_refl _
    | split
    | dsimp only
    | with_reducible apply upd
    | exact trivial
    | rfl
    | exact id
    | exact Nat.le_refl _
    | intro _

end Sys2Proof.Machine.Kept
end

