-- ==== Sys2Proof/Laws/Kept/Units.lean ====
section
/-! SUPPORT. What the operations of the serial units, the pads, the panel, power, the start and annex mode keep: each keeps the queue, the variant, the canonical forms and the
fuses (Laws/Kept.lean), from any state that keeps them. -/

namespace Sys2Proof.Machine.Kept

variable {u s t : State}

theorem panelRead (h : Kept u s) {a1 a2} : pg u (@Sys2Proof.Machine.State.panelRead s a1 a2) := by
  dsimp only [Sys2Proof.Machine.State.panelRead]
  repeat' first
    | with_reducible assumption
    | with_reducible apply dieNotReady
    | with_reducible apply readRun
    | with_reducible apply foldl
    | with_reducible apply forRange
    | with_reducible apply pg_ok
    | with_reducible apply pg_error
    | (with_reducible apply rr_of; with_reducible assumption)
    | (with_reducible apply rr_ofp; with_reducible assumption)
    | (with_reducible apply rr_err; with_reducible assumption)
    | with_reducible rfl
    | with_reducible exact id
    | with_reducible exact Nat.le_refl _
    | split
    | dsimp only
    | with_reducible apply upd
    | exact trivial
    | rfl
    | exact id
    | exact Nat.le_refl _
    | intro _

theorem pageBytes (h : Kept u s) {a1} : pg3 u (@Sys2Proof.Machine.State.pageBytes s a1) := by
  dsimp only [Sys2Proof.Machine.State.pageBytes]
  repeat' first
    | with_reducible assumption
    | with_reducible apply panelRead
    | with_reducible apply foldl
    | with_reducible apply forRange
    | with_reducible apply pg3_ok
    | with_reducible apply pg3_error
    | (with_reducible apply pg_of; with_reducible assumption)
    | (with_reducible apply pg_ofp; with_reducible assumption)
    | (with_reducible apply pg_err; with_reducible assumption)
    | (with_reducible apply pg_errp; with_reducible assumption)
    | with_reducible rfl
    | with_reducible exact id
    | with_reducible exact Nat.le_refl _
    | split
    | dsimp only
    | with_reducible apply upd
    | exact trivial
    | rfl
    | exact id
    | exact Nat.le_refl _
    | intro _

theorem plainPage (h : Kept u s) {a1 a2} : pg u (@Sys2Proof.Machine.State.plainPage s a1 a2) := by
  dsimp only [Sys2Proof.Machine.State.plainPage]
  repeat' first
    | with_reducible assumption
    | with_reducible apply pageBytes
    | with_reducible apply foldl
    | with_reducible apply forRange
    | with_reducible apply pg_ok
    | with_reducible apply pg_error
    | (with_reducible apply pg3_of; with_reducible assumption)
    | (with_reducible apply pg3_err; with_reducible assumption)
    | (with_reducible apply pg3_errp; with_reducible assumption)
    | with_reducible rfl
    | with_reducible exact id
    | with_reducible exact Nat.le_refl _
    | split
    | dsimp only
    | with_reducible apply upd
    | exact trivial
    | rfl
    | exact id
    | exact Nat.le_refl _
    | intro _

theorem validate (h : Kept u s) {a1 a2} : pg u (@Sys2Proof.Machine.State.validate s a1 a2) := by
  dsimp only [Sys2Proof.Machine.State.validate]
  repeat' first
    | with_reducible assumption
    | with_reducible apply pageBytes
    | with_reducible apply plainPage
    | with_reducible apply foldl
    | with_reducible apply forRange
    | with_reducible apply pg_ok
    | with_reducible apply pg_error
    | (with_reducible apply pg3_of; with_reducible assumption)
    | (with_reducible apply pg3_err; with_reducible assumption)
    | (with_reducible apply pg3_errp; with_reducible assumption)
    | (with_reducible apply pg_of; with_reducible assumption)
    | (with_reducible apply pg_ofp; with_reducible assumption)
    | (with_reducible apply pg_err; with_reducible assumption)
    | (with_reducible apply pg_errp; with_reducible assumption)
    | with_reducible rfl
    | with_reducible exact id
    | with_reducible exact Nat.le_refl _
    | split
    | dsimp only
    | with_reducible apply upd
    | exact trivial
    | rfl
    | exact id
    | exact Nat.le_refl _
    | intro _

theorem setPanel (h : Kept u s) {a1 a2} : Kept u (@Sys2Proof.Machine.State.setPanel s a1 a2) := by
  dsimp only [Sys2Proof.Machine.State.setPanel]
  repeat' first
    | with_reducible assumption
    | with_reducible apply wrF
    | with_reducible apply foldl
    | with_reducible apply forRange
    | with_reducible rfl
    | with_reducible exact id
    | with_reducible exact Nat.le_refl _
    | split
    | dsimp only
    | with_reducible apply upd
    | exact trivial
    | rfl
    | exact id
    | exact Nat.le_refl _
    | intro _

theorem panelPower (h : Kept u s) {a1} : Kept u (@Sys2Proof.Machine.State.panelPower s a1) := by
  dsimp only [Sys2Proof.Machine.State.panelPower]
  repeat' first
    | with_reducible assumption
    | with_reducible apply setB
    | with_reducible apply foldl
    | with_reducible apply forRange
    | with_reducible rfl
    | with_reducible exact id
    | with_reducible exact Nat.le_refl _
    | split
    | dsimp only
    | with_reducible apply upd
    | exact trivial
    | rfl
    | exact id
    | exact Nat.le_refl _
    | intro _

theorem endPanel (h : Kept u s) {a1} : Kept u (@Sys2Proof.Machine.State.endPanel s a1) := by
  dsimp only [Sys2Proof.Machine.State.endPanel]
  repeat' first
    | with_reducible assumption
    | with_reducible apply wrF
    | with_reducible apply setPanel
    | with_reducible apply satAdd
    | with_reducible apply panelPower
    | with_reducible apply foldl
    | with_reducible apply forRange
    | with_reducible rfl
    | with_reducible exact id
    | with_reducible exact Nat.le_refl _
    | split
    | dsimp only
    | with_reducible apply upd
    | exact trivial
    | rfl
    | exact id
    | exact Nat.le_refl _
    | intro _

theorem panelSend (h : Kept u s) {a1 a2} : Kept u (@Sys2Proof.Machine.State.panelSend s a1 a2) := by
  dsimp only [Sys2Proof.Machine.State.panelSend]
  repeat' first
    | with_reducible assumption
    | with_reducible apply sent
    | with_reducible apply foldl
    | with_reducible apply forRange
    | with_reducible rfl
    | with_reducible exact id
    | with_reducible exact Nat.le_refl _
    | split
    | dsimp only
    | with_reducible apply upd
    | exact trivial
    | rfl
    | exact id
    | exact Nat.le_refl _
    | intro _

theorem runScript (h : Kept u s) {a1 a2 a3} : Kept u (@Sys2Proof.Machine.State.runScript s a1 a2 a3) := by
  induction a2 generalizing s a3 with
  | zero => exact endPanel h
  | succ n ih =>
    unfold Sys2Proof.Machine.State.runScript
    dsimp only
    split
    · exact endPanel h
    · split
      · exact setPanel h
      · exact setPanel h
      · exact ih (panelSend h)
      · split
        · exact endPanel h
        · exact ih (panelSend h)
      · exact setPanel h
      · split
        · exact endPanel h
        · exact setPanel h
      · exact ih (panelSend h)
      · exact ih (panelSend h)
      · exact endPanel h

theorem scriptBytes (h : Kept u s) : pg u (@Sys2Proof.Machine.State.scriptBytes s) := by
  dsimp only [Sys2Proof.Machine.State.scriptBytes]
  repeat' first
    | with_reducible assumption
    | with_reducible apply panelRead
    | with_reducible apply foldl
    | with_reducible apply forRange
    | with_reducible apply pg_ok
    | with_reducible apply pg_error
    | (with_reducible apply pg_of; with_reducible assumption)
    | (with_reducible apply pg_ofp; with_reducible assumption)
    | (with_reducible apply pg_err; with_reducible assumption)
    | (with_reducible apply pg_errp; with_reducible assumption)
    | with_reducible rfl
    | with_reducible exact id
    | with_reducible exact Nat.le_refl _
    | split
    | dsimp only
    | with_reducible apply upd
    | exact trivial
    | rfl
    | exact id
    | exact Nat.le_refl _
    | intro _

theorem startScript (h : Kept u s) {a1} : Kept u (@Sys2Proof.Machine.State.startScript s a1) := by
  have hr := scriptBytes (event h (a1 := 209))
  unfold Sys2Proof.Machine.State.startScript
  dsimp only
  split
  · next e => exact runScript (setPanel (pg_of e hr))
  · next e => exact endPanel (pg_err e hr)

theorem shownPixels (h : Kept u s) {a1} : Kept u (@Sys2Proof.Machine.State.shownPixels s a1).2 := by
  dsimp only [Sys2Proof.Machine.State.shownPixels]
  repeat' first
    | with_reducible assumption
    | with_reducible apply validate
    | with_reducible apply foldl
    | with_reducible apply forRange
    | (with_reducible apply pg_of; with_reducible assumption)
    | (with_reducible apply pg_ofp; with_reducible assumption)
    | (with_reducible apply pg_err; with_reducible assumption)
    | (with_reducible apply pg_errp; with_reducible assumption)
    | with_reducible rfl
    | with_reducible exact id
    | with_reducible exact Nat.le_refl _
    | split
    | dsimp only
    | with_reducible apply upd
    | exact trivial
    | rfl
    | exact id
    | exact Nat.le_refl _
    | intro _

theorem startPage (h : Kept u s) {a1 a2} : Kept u (@Sys2Proof.Machine.State.startPage s a1 a2) := by
  have hr := validate h (a1 := s.sec 14) (a2 := a2)
  unfold Sys2Proof.Machine.State.startPage
  dsimp only
  split
  · next e => exact endPanel (pg_err e hr)
  · next px t e =>
    have h1 : Kept u { (t.shownPixels (s.sec 14)).2 with panel := { (t.shownPixels (s.sec 14)).2.panel with sent := [] } } :=
      upd (shownPixels (pg_of e hr)) rfl rfl id id (Nat.le_refl _)
    exact ite' (startScript h1) (setPanel (panelPower h1))

theorem startFlip (h : Kept u s) : Kept u (@Sys2Proof.Machine.State.startFlip s) := by
  dsimp only [Sys2Proof.Machine.State.startFlip]
  repeat' first
    | with_reducible assumption
    | with_reducible apply holdCmd
    | with_reducible apply endPanel
    | with_reducible apply startPage
    | with_reducible apply event
    | with_reducible apply wrF
    | with_reducible apply setPanel
    | with_reducible apply foldl
    | with_reducible apply forRange
    | with_reducible rfl
    | with_reducible exact id
    | with_reducible exact Nat.le_refl _
    | split
    | dsimp only
    | with_reducible apply upd
    | exact trivial
    | rfl
    | exact id
    | exact Nat.le_refl _
    | intro _

theorem pendingFlip (h : Kept u s) : Kept u (@Sys2Proof.Machine.State.pendingFlip s) := by
  dsimp only [Sys2Proof.Machine.State.pendingFlip]
  repeat' first
    | with_reducible assumption
    | with_reducible apply startFlip
    | with_reducible apply setB
    | with_reducible apply foldl
    | with_reducible apply forRange
    | with_reducible rfl
    | with_reducible exact id
    | with_reducible exact Nat.le_refl _
    | split
    | dsimp only
    | with_reducible apply upd
    | exact trivial
    | rfl
    | exact id
    | exact Nat.le_refl _
    | intro _

theorem execPanelFlip (h : Kept u s) : out u (@Sys2Proof.Machine.execPanelFlip s) := by
  dsimp only [Sys2Proof.Machine.execPanelFlip]
  repeat' first
    | with_reducible assumption
    | with_reducible apply satAdd
    | with_reducible apply setB
    | with_reducible apply pendingFlip
    | with_reducible apply startFlip
    | with_reducible apply foldl
    | with_reducible apply forRange
    | with_reducible apply out_next
    | with_reducible rfl
    | with_reducible exact id
    | with_reducible exact Nat.le_refl _
    | split
    | dsimp only
    | with_reducible apply upd
    | exact trivial
    | rfl
    | exact id
    | exact Nat.le_refl _
    | intro _

theorem execPanelRefresh (h : Kept u s) : out u (@Sys2Proof.Machine.execPanelRefresh s) := by
  dsimp only [Sys2Proof.Machine.execPanelRefresh]
  repeat' first
    | with_reducible assumption
    | with_reducible apply absentSlip
    | with_reducible apply answer
    | with_reducible apply holdCmd
    | with_reducible apply pendingFlip
    | with_reducible apply startPage
    | with_reducible apply endPanel
    | with_reducible apply foldl
    | with_reducible apply forRange
    | with_reducible apply out_next
    | with_reducible rfl
    | with_reducible exact id
    | with_reducible exact Nat.le_refl _
    | split
    | dsimp only
    | with_reducible apply upd
    | exact trivial
    | rfl
    | exact id
    | exact Nat.le_refl _
    | intro _

theorem execPanelPowerOn (h : Kept u s) : out u (@Sys2Proof.Machine.execPanelPowerOn s) := by
  dsimp only [Sys2Proof.Machine.execPanelPowerOn]
  repeat' first
    | with_reducible assumption
    | with_reducible apply panelPower
    | with_reducible apply foldl
    | with_reducible apply forRange
    | with_reducible apply out_next
    | with_reducible rfl
    | with_reducible exact id
    | with_reducible exact Nat.le_refl _
    | split
    | dsimp only
    | with_reducible apply upd
    | exact trivial
    | rfl
    | exact id
    | exact Nat.le_refl _
    | intro _

theorem execPanelPowerOff (h : Kept u s) : out u (@Sys2Proof.Machine.execPanelPowerOff s) := by
  dsimp only [Sys2Proof.Machine.execPanelPowerOff]
  repeat' first
    | with_reducible assumption
    | with_reducible apply panelPower
    | with_reducible apply foldl
    | with_reducible apply forRange
    | with_reducible apply out_next
    | with_reducible rfl
    | with_reducible exact id
    | with_reducible exact Nat.le_refl _
    | split
    | dsimp only
    | with_reducible apply upd
    | exact trivial
    | rfl
    | exact id
    | exact Nat.le_refl _
    | intro _

theorem continueScript (h : Kept u s) {a1} : Kept u (@Sys2Proof.Machine.State.continueScript s a1) := by
  dsimp only [Sys2Proof.Machine.State.continueScript]
  repeat' first
    | with_reducible assumption
    | with_reducible apply pendingFlip
    | with_reducible apply runScript
    | with_reducible apply foldl
    | with_reducible apply forRange
    | with_reducible rfl
    | with_reducible exact id
    | with_reducible exact Nat.le_refl _
    | split
    | dsimp only
    | with_reducible apply upd
    | exact trivial
    | rfl
    | exact id
    | exact Nat.le_refl _
    | intro _

theorem execPanelPowerDelayEnd (h : Kept u s) : out u (@Sys2Proof.Machine.execPanelPowerDelayEnd s) := by
  dsimp only [Sys2Proof.Machine.execPanelPowerDelayEnd]
  repeat' first
    | with_reducible assumption
    | with_reducible apply holdCmd
    | with_reducible apply pendingFlip
    | with_reducible apply startScript
    | with_reducible apply foldl
    | with_reducible apply forRange
    | with_reducible apply out_next
    | with_reducible rfl
    | with_reducible exact id
    | with_reducible exact Nat.le_refl _
    | split
    | dsimp only
    | with_reducible apply upd
    | exact trivial
    | rfl
    | exact id
    | exact Nat.le_refl _
    | intro _

theorem execPanelDelayEnd (h : Kept u s) : out u (@Sys2Proof.Machine.execPanelDelayEnd s) := by
  dsimp only [Sys2Proof.Machine.execPanelDelayEnd]
  repeat' first
    | with_reducible assumption
    | with_reducible apply continueScript
    | with_reducible apply foldl
    | with_reducible apply forRange
    | with_reducible apply out_next
    | with_reducible rfl
    | with_reducible exact id
    | with_reducible exact Nat.le_refl _
    | split
    | dsimp only
    | with_reducible apply upd
    | exact trivial
    | rfl
    | exact id
    | exact Nat.le_refl _
    | intro _

theorem busyInactive (h : Kept u s) : Kept u (@Sys2Proof.Machine.State.busyInactive s) := by
  dsimp only [Sys2Proof.Machine.State.busyInactive]
  repeat' first
    | with_reducible assumption
    | with_reducible apply foldl
    | with_reducible apply forRange
    | with_reducible rfl
    | with_reducible exact id
    | with_reducible exact Nat.le_refl _
    | split
    | dsimp only
    | with_reducible apply upd
    | exact trivial
    | rfl
    | exact id
    | exact Nat.le_refl _
    | intro _

theorem execPanelBusyInactive (h : Kept u s) : out u (@Sys2Proof.Machine.execPanelBusyInactive s) := by
  dsimp only [Sys2Proof.Machine.execPanelBusyInactive]
  repeat' first
    | with_reducible assumption
    | with_reducible apply continueScript
    | with_reducible apply busyInactive
    | with_reducible apply foldl
    | with_reducible apply forRange
    | with_reducible apply out_next
    | with_reducible rfl
    | with_reducible exact id
    | with_reducible exact Nat.le_refl _
    | split
    | dsimp only
    | with_reducible apply upd
    | exact trivial
    | rfl
    | exact id
    | exact Nat.le_refl _
    | intro _

theorem execPanelBusyTimeout (h : Kept u s) : out u (@Sys2Proof.Machine.execPanelBusyTimeout s) := by
  dsimp only [Sys2Proof.Machine.execPanelBusyTimeout]
  repeat' first
    | with_reducible assumption
    | with_reducible apply pendingFlip
    | with_reducible apply endPanel
    | with_reducible apply event
    | with_reducible apply foldl
    | with_reducible apply forRange
    | with_reducible apply out_next
    | with_reducible rfl
    | with_reducible exact id
    | with_reducible exact Nat.le_refl _
    | split
    | dsimp only
    | with_reducible apply upd
    | exact trivial
    | rfl
    | exact id
    | exact Nat.le_refl _
    | intro _

theorem execPanelScriptEnd (h : Kept u s) : out u (@Sys2Proof.Machine.execPanelScriptEnd s) := by
  dsimp only [Sys2Proof.Machine.execPanelScriptEnd]
  repeat' first
    | with_reducible assumption
    | with_reducible apply satAdd
    | with_reducible apply setB
    | with_reducible apply wr
    | with_reducible apply pendingFlip
    | with_reducible apply event
    | with_reducible apply endPanel
    | with_reducible apply foldl
    | with_reducible apply forRange
    | with_reducible apply out_next
    | with_reducible rfl
    | with_reducible exact id
    | with_reducible exact Nat.le_refl _
    | split
    | dsimp only
    | with_reducible apply upd
    | exact trivial
    | rfl
    | exact id
    | exact Nat.le_refl _
    | intro _

theorem execPanelDeferredFlip (h : Kept u s) : out u (@Sys2Proof.Machine.execPanelDeferredFlip s) := by
  dsimp only [Sys2Proof.Machine.execPanelDeferredFlip]
  repeat' first
    | with_reducible assumption
    | with_reducible apply holdCmd
    | with_reducible apply pendingFlip
    | with_reducible apply startPage
    | with_reducible apply foldl
    | with_reducible apply forRange
    | with_reducible apply out_next
    | with_reducible rfl
    | with_reducible exact id
    | with_reducible exact Nat.le_refl _
    | split
    | dsimp only
    | with_reducible apply upd
    | exact trivial
    | rfl
    | exact id
    | exact Nat.le_refl _
    | intro _

theorem execPanelHoldExpiry (h : Kept u s) : out u (@Sys2Proof.Machine.execPanelHoldExpiry s) := by
  dsimp only [Sys2Proof.Machine.execPanelHoldExpiry]
  repeat' first
    | with_reducible assumption
    | with_reducible apply pendingFlip
    | with_reducible apply endPanel
    | with_reducible apply foldl
    | with_reducible apply forRange
    | with_reducible apply out_next
    | with_reducible rfl
    | with_reducible exact id
    | with_reducible exact Nat.le_refl _
    | split
    | dsimp only
    | with_reducible apply upd
    | exact trivial
    | rfl
    | exact id
    | exact Nat.le_refl _
    | intro _

theorem panelCut (h : Kept u s) : Kept u (@Sys2Proof.Machine.State.panelCut s) := by
  dsimp only [Sys2Proof.Machine.State.panelCut]
  repeat' first
    | with_reducible assumption
    | with_reducible apply endPanel
    | with_reducible apply foldl
    | with_reducible apply forRange
    | with_reducible rfl
    | with_reducible exact id
    | with_reducible exact Nat.le_refl _
    | split
    | dsimp only
    | with_reducible apply upd
    | exact trivial
    | rfl
    | exact id
    | exact Nat.le_refl _
    | intro _

theorem execBrownOutWarning (h : Kept u s) : out u (@Sys2Proof.Machine.execBrownOutWarning s) := by
  dsimp only [Sys2Proof.Machine.execBrownOutWarning]
  repeat' first
    | with_reducible assumption
    | with_reducible apply storeInhibit
    | with_reducible apply setB
    | with_reducible apply event
    | with_reducible apply foldl
    | with_reducible apply forRange
    | with_reducible apply out_next
    | with_reducible rfl
    | with_reducible exact id
    | with_reducible exact Nat.le_refl _
    | split
    | dsimp only
    | with_reducible apply upd
    | exact trivial
    | rfl
    | exact id
    | exact Nat.le_refl _
    | intro _

theorem execBrownOutRelease (h : Kept u s) : out u (@Sys2Proof.Machine.execBrownOutRelease s) := by
  dsimp only [Sys2Proof.Machine.execBrownOutRelease]
  repeat' first
    | with_reducible assumption
    | with_reducible apply setB
    | with_reducible apply foldl
    | with_reducible apply forRange
    | with_reducible apply out_next
    | with_reducible rfl
    | with_reducible exact id
    | with_reducible exact Nat.le_refl _
    | split
    | dsimp only
    | with_reducible apply upd
    | exact trivial
    | rfl
    | exact id
    | exact Nat.le_refl _
    | intro _

theorem doze (h : Kept u s) {a1} : Kept u (@Sys2Proof.Machine.State.doze s a1) := by
  dsimp only [Sys2Proof.Machine.State.doze]
  repeat' first
    | with_reducible assumption
    | with_reducible apply foldl
    | with_reducible apply forRange
    | with_reducible rfl
    | with_reducible exact id
    | with_reducible exact Nat.le_refl _
    | split
    | dsimp only
    | with_reducible apply upd
    | exact trivial
    | rfl
    | exact id
    | exact Nat.le_refl _
    | intro _

theorem countAbort (h : Kept u s) : Kept u (@Sys2Proof.Machine.State.countAbort s) := by
  dsimp only [Sys2Proof.Machine.State.countAbort]
  repeat' first
    | with_reducible assumption
    | with_reducible apply satAdd
    | with_reducible apply foldl
    | with_reducible apply forRange
    | with_reducible rfl
    | with_reducible exact id
    | with_reducible exact Nat.le_refl _
    | split
    | dsimp only
    | with_reducible apply upd
    | exact trivial
    | rfl
    | exact id
    | exact Nat.le_refl _
    | intro _

theorem wfi (h : Kept u s) {a1 a2} : Kept u (@Sys2Proof.Machine.State.wfi s a1 a2) := by
  dsimp only [Sys2Proof.Machine.State.wfi]
  repeat' first
    | with_reducible assumption
    | with_reducible apply wrF
    | with_reducible apply doze
    | with_reducible apply countAbort
    | with_reducible apply foldl
    | with_reducible apply forRange
    | with_reducible rfl
    | with_reducible exact id
    | with_reducible exact Nat.le_refl _
    | split
    | dsimp only
    | with_reducible apply upd
    | exact trivial
    | rfl
    | exact id
    | exact Nat.le_refl _
    | intro _

theorem execWfiDoze (h : Kept u s) : out u (@Sys2Proof.Machine.execWfiDoze s) := by
  dsimp only [Sys2Proof.Machine.execWfiDoze]
  repeat' first
    | with_reducible assumption
    | with_reducible apply wfi
    | with_reducible apply foldl
    | with_reducible apply forRange
    | with_reducible apply out_next
    | with_reducible rfl
    | with_reducible exact id
    | with_reducible exact Nat.le_refl _
    | split
    | dsimp only
    | with_reducible apply upd
    | exact trivial
    | rfl
    | exact id
    | exact Nat.le_refl _
    | intro _

theorem execWfiNap (h : Kept u s) : out u (@Sys2Proof.Machine.execWfiNap s) := by
  dsimp only [Sys2Proof.Machine.execWfiNap]
  repeat' first
    | with_reducible assumption
    | with_reducible apply wfi
    | with_reducible apply foldl
    | with_reducible apply forRange
    | with_reducible apply out_next
    | with_reducible rfl
    | with_reducible exact id
    | with_reducible exact Nat.le_refl _
    | split
    | dsimp only
    | with_reducible apply upd
    | exact trivial
    | rfl
    | exact id
    | exact Nat.le_refl _
    | intro _

theorem execWfiHibernate (h : Kept u s) : out u (@Sys2Proof.Machine.execWfiHibernate s) := by
  dsimp only [Sys2Proof.Machine.execWfiHibernate]
  repeat' first
    | with_reducible assumption
    | with_reducible apply wfi
    | with_reducible apply foldl
    | with_reducible apply forRange
    | with_reducible apply out_next
    | with_reducible rfl
    | with_reducible exact id
    | with_reducible exact Nat.le_refl _
    | split
    | dsimp only
    | with_reducible apply upd
    | exact trivial
    | rfl
    | exact id
    | exact Nat.le_refl _
    | intro _

theorem setWakeAt (h : Kept u s) {a1} : Kept u (@Sys2Proof.Machine.State.setWakeAt s a1) := by
  dsimp only [Sys2Proof.Machine.State.setWakeAt]
  repeat' first
    | with_reducible assumption
    | with_reducible apply wr
    | with_reducible apply foldl
    | with_reducible apply forRange
    | with_reducible rfl
    | with_reducible exact id
    | with_reducible exact Nat.le_refl _
    | split
    | dsimp only
    | with_reducible apply upd
    | exact trivial
    | rfl
    | exact id
    | exact Nat.le_refl _
    | intro _

theorem loseBanks (h : Kept u s) : Kept u (@Sys2Proof.Machine.State.loseBanks s) := by
  dsimp only [Sys2Proof.Machine.State.loseBanks]
  repeat' first
    | with_reducible assumption
    | with_reducible apply forRange
    | with_reducible apply loseArea
    | with_reducible apply foldl
    | with_reducible apply forRange
    | with_reducible rfl
    | with_reducible exact id
    | with_reducible exact Nat.le_refl _
    | split
    | dsimp only
    | with_reducible apply upd
    | exact trivial
    | rfl
    | exact id
    | exact Nat.le_refl _
    | intro _

theorem stopDies (h : Kept u s) : Kept u (@Sys2Proof.Machine.State.stopDies s) := by
  dsimp only [Sys2Proof.Machine.State.stopDies]
  repeat' first
    | with_reducible assumption
    | with_reducible apply spineDown
    | with_reducible apply wrF
    | with_reducible apply panelCut
    | with_reducible apply setSpine
    | with_reducible apply frontOff
    | with_reducible apply endSpine
    | with_reducible apply foldl
    | with_reducible apply forRange
    | with_reducible rfl
    | with_reducible exact id
    | with_reducible exact Nat.le_refl _
    | split
    | dsimp only
    | with_reducible apply upd
    | exact trivial
    | rfl
    | exact id
    | exact Nat.le_refl _
    | intro _

theorem enterSleep (h : Kept u s) {a1 a2} : Kept u (@Sys2Proof.Machine.State.enterSleep s a1 a2) := by
  dsimp only [Sys2Proof.Machine.State.enterSleep]
  repeat' first
    | with_reducible assumption
    | with_reducible apply takeFree
    | with_reducible apply latchBackup
    | with_reducible apply wake
    | with_reducible apply stopDies
    | with_reducible apply wr
    | with_reducible apply setWakeAt
    | with_reducible apply loseAll
    | with_reducible apply wrF
    | with_reducible apply forRange
    | with_reducible apply satAdd
    | with_reducible apply loseBanks
    | with_reducible apply foldl
    | with_reducible apply forRange
    | (with_reducible apply snd_of; with_reducible assumption)
    | with_reducible rfl
    | with_reducible exact id
    | with_reducible exact Nat.le_refl _
    | split
    | dsimp only
    | (with_reducible apply snd_self; with_reducible assumption)
    | with_reducible apply upd
    | exact trivial
    | rfl
    | exact id
    | exact Nat.le_refl _
    | intro _

theorem execSleepBlockersClear (h : Kept u s) : out u (@Sys2Proof.Machine.execSleepBlockersClear s) := by
  dsimp only [Sys2Proof.Machine.execSleepBlockersClear]
  repeat' first
    | with_reducible assumption
    | with_reducible apply doze
    | with_reducible apply endDoze
    | with_reducible apply countAbort
    | with_reducible apply setWakeAt
    | with_reducible apply enterSleep
    | with_reducible apply foldl
    | with_reducible apply forRange
    | with_reducible apply out_next
    | with_reducible rfl
    | with_reducible exact id
    | with_reducible exact Nat.le_refl _
    | split
    | dsimp only
    | with_reducible apply upd
    | exact trivial
    | rfl
    | exact id
    | exact Nat.le_refl _
    | intro _

theorem execNapEntryAbort (h : Kept u s) : out u (@Sys2Proof.Machine.execNapEntryAbort s) := by
  dsimp only [Sys2Proof.Machine.execNapEntryAbort]
  repeat' first
    | with_reducible assumption
    | with_reducible apply countAbort
    | with_reducible apply foldl
    | with_reducible apply forRange
    | with_reducible apply out_next
    | with_reducible rfl
    | with_reducible exact id
    | with_reducible exact Nat.le_refl _
    | split
    | dsimp only
    | with_reducible apply upd
    | exact trivial
    | rfl
    | exact id
    | exact Nat.le_refl _
    | intro _

theorem wakeByTime (h : Kept u s) : Kept u (@Sys2Proof.Machine.State.wakeByTime s) := by
  dsimp only [Sys2Proof.Machine.State.wakeByTime]
  repeat' first
    | with_reducible assumption
    | with_reducible apply fireAlarm
    | with_reducible apply wake
    | with_reducible apply foldl
    | with_reducible apply forRange
    | with_reducible rfl
    | with_reducible exact id
    | with_reducible exact Nat.le_refl _
    | split
    | dsimp only
    | with_reducible apply upd
    | exact trivial
    | rfl
    | exact id
    | exact Nat.le_refl _
    | intro _

theorem execWakeInstantReached (h : Kept u s) : out u (@Sys2Proof.Machine.execWakeInstantReached s) := by
  dsimp only [Sys2Proof.Machine.execWakeInstantReached]
  repeat' first
    | with_reducible assumption
    | with_reducible apply doze
    | with_reducible apply wakeByTime
    | with_reducible apply foldl
    | with_reducible apply forRange
    | with_reducible apply out_next
    | with_reducible rfl
    | with_reducible exact id
    | with_reducible exact Nat.le_refl _
    | split
    | dsimp only
    | with_reducible apply upd
    | exact trivial
    | rfl
    | exact id
    | exact Nat.le_refl _
    | intro _

theorem noteCauses (h : Kept u s) : Kept u (@Sys2Proof.Machine.State.noteCauses s) := by
  dsimp only [Sys2Proof.Machine.State.noteCauses]
  repeat' first
    | with_reducible assumption
    | with_reducible apply setB
    | with_reducible apply wrF
    | with_reducible apply foldl
    | with_reducible apply forRange
    | with_reducible rfl
    | with_reducible exact id
    | with_reducible exact Nat.le_refl _
    | split
    | dsimp only
    | with_reducible apply upd
    | exact trivial
    | rfl
    | exact id
    | exact Nat.le_refl _
    | intro _

theorem lateOps (h : Kept u s) : Kept u (@Sys2Proof.Machine.State.lateOps s) := by
  unfold Sys2Proof.Machine.State.lateOps
  exact foldl _ (fun t o ht => missOp (serveOp (slip (satAdd ht)))) h

theorem fireSlept (h : Kept u s) : Kept u (@Sys2Proof.Machine.State.fireSlept s) := by
  dsimp only [Sys2Proof.Machine.State.fireSlept]
  repeat' first
    | with_reducible assumption
    | with_reducible apply fireChannel
    | with_reducible apply foldl
    | with_reducible apply forRange
    | with_reducible rfl
    | with_reducible exact id
    | with_reducible exact Nat.le_refl _
    | split
    | dsimp only
    | with_reducible apply upd
    | exact trivial
    | rfl
    | exact id
    | exact Nat.le_refl _
    | intro _

theorem wakeCatchUp (h : Kept u s) : Kept u (@Sys2Proof.Machine.State.wakeCatchUp s) := by
  dsimp only [Sys2Proof.Machine.State.wakeCatchUp]
  repeat' first
    | with_reducible assumption
    | with_reducible apply foldl
    | with_reducible apply forRange
    | with_reducible rfl
    | with_reducible exact id
    | with_reducible exact Nat.le_refl _
    | split
    | dsimp only
    | with_reducible apply upd
    | exact trivial
    | rfl
    | exact id
    | exact Nat.le_refl _
    | intro _

theorem wakeClockless (h : Kept u s) : Kept u (@Sys2Proof.Machine.State.wakeClockless s) := by
  dsimp only [Sys2Proof.Machine.State.wakeClockless]
  repeat' first
    | with_reducible assumption
    | with_reducible apply setB
    | with_reducible apply foldl
    | with_reducible apply forRange
    | with_reducible rfl
    | with_reducible exact id
    | with_reducible exact Nat.le_refl _
    | split
    | dsimp only
    | with_reducible apply upd
    | exact trivial
    | rfl
    | exact id
    | exact Nat.le_refl _
    | intro _

theorem execNapWakeResume (h : Kept u s) {a0} : out u (@Sys2Proof.Machine.execNapWakeResume a0 s) := by
  dsimp only [Sys2Proof.Machine.execNapWakeResume]
  repeat' first
    | with_reducible assumption
    | with_reducible apply noteCauses
    | with_reducible apply wakeClockless
    | with_reducible apply storeSync
    | with_reducible apply loadMaps
    | with_reducible apply spineUp
    | with_reducible apply selectSysclk
    | with_reducible apply setB
    | with_reducible apply eventIf
    | with_reducible apply event
    | with_reducible apply pendingFlip
    | with_reducible apply fireSlept
    | with_reducible apply wakeCatchUp
    | with_reducible apply lateOps
    | with_reducible apply foldl
    | with_reducible apply forRange
    | with_reducible apply out_next
    | with_reducible rfl
    | with_reducible exact id
    | with_reducible exact Nat.le_refl _
    | split
    | dsimp only
    | with_reducible apply upd
    | exact trivial
    | rfl
    | exact id
    | exact Nat.le_refl _
    | intro _

theorem execHibernateWake (h : Kept u s) : out u (@Sys2Proof.Machine.execHibernateWake s) := by
  dsimp only [Sys2Proof.Machine.execHibernateWake]
  repeat' first
    | with_reducible assumption
    | with_reducible apply takeFree
    | with_reducible apply noteCauses
    | with_reducible apply wr
    | with_reducible apply keepBow
    | with_reducible apply coreReset
    | with_reducible apply setB
    | with_reducible apply foldl
    | with_reducible apply forRange
    | with_reducible apply out_next
    | (with_reducible apply snd_of; with_reducible assumption)
    | with_reducible rfl
    | with_reducible exact id
    | with_reducible exact Nat.le_refl _
    | split
    | dsimp only
    | (with_reducible apply snd_self; with_reducible assumption)
    | with_reducible apply upd
    | exact trivial
    | rfl
    | exact id
    | exact Nat.le_refl _
    | intro _

theorem setErrCount (h : Kept u s) {a1 a2} : Kept u (@Sys2Proof.Machine.State.setErrCount s a1 a2) := by
  dsimp only [Sys2Proof.Machine.State.setErrCount]
  repeat' first
    | with_reducible assumption
    | with_reducible apply wrF
    | with_reducible apply foldl
    | with_reducible apply forRange
    | with_reducible rfl
    | with_reducible exact id
    | with_reducible exact Nat.le_refl _
    | split
    | dsimp only
    | with_reducible apply upd
    | exact trivial
    | rfl
    | exact id
    | exact Nat.le_refl _
    | intro _

theorem writeMirror (h : Kept u s) : Kept u (@Sys2Proof.Machine.State.writeMirror s) := by
  dsimp only [Sys2Proof.Machine.State.writeMirror]
  repeat' first
    | with_reducible assumption
    | with_reducible apply putRecord
    | with_reducible apply setB
    | with_reducible apply foldl
    | with_reducible apply forRange
    | with_reducible rfl
    | with_reducible exact id
    | with_reducible exact Nat.le_refl _
    | split
    | dsimp only
    | with_reducible apply upd
    | exact trivial
    | rfl
    | exact id
    | exact Nat.le_refl _
    | intro _

theorem countFail (h : Kept u s) {a1 a2 a3} : Kept u (@Sys2Proof.Machine.State.countFail s a1 a2 a3) := by
  dsimp only [Sys2Proof.Machine.State.countFail]
  repeat' first
    | with_reducible assumption
    | with_reducible apply wr
    | with_reducible apply setErrCount
    | with_reducible apply writeMirror
    | with_reducible apply foldl
    | with_reducible apply forRange
    | with_reducible rfl
    | with_reducible exact id
    | with_reducible exact Nat.le_refl _
    | split
    | dsimp only
    | with_reducible apply upd
    | exact trivial
    | rfl
    | exact id
    | exact Nat.le_refl _
    | intro _

theorem checkAnnex (h : Kept u s) : Kept u (@Sys2Proof.Machine.State.checkAnnex s) := by
  dsimp only [Sys2Proof.Machine.State.checkAnnex]
  repeat' first
    | with_reducible assumption
    | with_reducible apply writeMirror
    | with_reducible apply setB
    | with_reducible apply foldl
    | with_reducible apply forRange
    | with_reducible rfl
    | with_reducible exact id
    | with_reducible exact Nat.le_refl _
    | split
    | dsimp only
    | with_reducible apply upd
    | exact trivial
    | rfl
    | exact id
    | exact Nat.le_refl _
    | intro _

theorem restoreMirror (h : Kept u s) : Kept u (@Sys2Proof.Machine.State.restoreMirror s) := by
  dsimp only [Sys2Proof.Machine.State.restoreMirror]
  repeat' first
    | with_reducible assumption
    | with_reducible apply setB
    | with_reducible apply wr
    | with_reducible apply foldl
    | with_reducible apply forRange
    | with_reducible rfl
    | with_reducible exact id
    | with_reducible exact Nat.le_refl _
    | split
    | dsimp only
    | with_reducible apply upd
    | exact trivial
    | rfl
    | exact id
    | exact Nat.le_refl _
    | intro _

theorem bootTrip (h : Kept u s) {a1 a2} : Kept u (@Sys2Proof.Machine.State.bootTrip a1 s a2) := by
  dsimp only [Sys2Proof.Machine.State.bootTrip]
  repeat' first
    | with_reducible assumption
    | with_reducible apply wr
    | with_reducible apply tamperTrip
    | with_reducible apply foldl
    | with_reducible apply forRange
    | with_reducible rfl
    | with_reducible exact id
    | with_reducible exact Nat.le_refl _
    | split
    | dsimp only
    | with_reducible apply upd
    | exact trivial
    | rfl
    | exact id
    | exact Nat.le_refl _
    | intro _

theorem bootTamper (h : Kept u s) {a1 a2} : Kept u (@Sys2Proof.Machine.State.bootTamper s a1 a2) := by
  dsimp only [Sys2Proof.Machine.State.bootTamper]
  repeat' first
    | with_reducible assumption
    | with_reducible apply bootTrip
    | with_reducible apply tamperTrip
    | with_reducible apply wr
    | with_reducible apply foldl
    | with_reducible apply forRange
    | with_reducible rfl
    | with_reducible exact id
    | with_reducible exact Nat.le_refl _
    | split
    | dsimp only
    | with_reducible apply upd
    | exact trivial
    | rfl
    | exact id
    | exact Nat.le_refl _
    | intro _

theorem endPulses (h : Kept u s) : Kept u (@Sys2Proof.Machine.State.endPulses s) := by
  dsimp only [Sys2Proof.Machine.State.endPulses]
  repeat' first
    | with_reducible assumption
    | with_reducible apply cutOp
    | with_reducible apply foldl
    | with_reducible apply forRange
    | with_reducible rfl
    | with_reducible exact id
    | with_reducible exact Nat.le_refl _
    | split
    | dsimp only
    | with_reducible apply upd
    | exact trivial
    | rfl
    | exact id
    | exact Nat.le_refl _
    | intro _

theorem bootVerify (h : Kept u s) {a1} : exc u (@Sys2Proof.Machine.State.bootVerify s a1) := by
  dsimp only [Sys2Proof.Machine.State.bootVerify]
  repeat' first
    | with_reducible assumption
    | with_reducible apply readStored
    | with_reducible apply wrF
    | with_reducible apply foldl
    | with_reducible apply forRange
    | with_reducible apply exc_ok
    | (with_reducible apply rr_of; with_reducible assumption)
    | (with_reducible apply rr_ofp; with_reducible assumption)
    | (with_reducible apply rr_err; with_reducible assumption)
    | with_reducible rfl
    | with_reducible exact id
    | with_reducible exact Nat.le_refl _
    | split
    | dsimp only
    | with_reducible apply upd
    | exact trivial
    | rfl
    | exact id
    | exact Nat.le_refl _
    | intro _

theorem bootInfo (h : Kept u s) {a1 a2 a3} : Kept u (@Sys2Proof.Machine.State.bootInfo s a1 a2 a3) := by
  dsimp only [Sys2Proof.Machine.State.bootInfo]
  repeat' first
    | with_reducible assumption
    | with_reducible apply wr
    | with_reducible apply foldl
    | with_reducible apply forRange
    | with_reducible rfl
    | with_reducible exact id
    | with_reducible exact Nat.le_refl _
    | split
    | dsimp only
    | with_reducible apply upd
    | exact trivial
    | rfl
    | exact id
    | exact Nat.le_refl _
    | intro _

theorem bootApply (h : Kept u s) {a1} : Kept u (@Sys2Proof.Machine.State.bootApply s a1) := by
  dsimp only [Sys2Proof.Machine.State.bootApply]
  repeat' first
    | with_reducible assumption
    | with_reducible apply newRound
    | with_reducible apply bootInfo
    | with_reducible apply applyBoot
    | with_reducible apply wrF
    | with_reducible apply foldl
    | with_reducible apply forRange
    | with_reducible rfl
    | with_reducible exact id
    | with_reducible exact Nat.le_refl _
    | split
    | dsimp only
    | with_reducible apply upd
    | exact trivial
    | rfl
    | exact id
    | exact Nat.le_refl _
    | intro _

theorem noteCal (h : Kept u s) : Kept u (@Sys2Proof.Machine.State.noteCal s) := by
  dsimp only [Sys2Proof.Machine.State.noteCal]
  repeat' first
    | with_reducible assumption
    | with_reducible apply noteRead
    | with_reducible apply foldl
    | with_reducible apply forRange
    | with_reducible rfl
    | with_reducible exact id
    | with_reducible exact Nat.le_refl _
    | split
    | dsimp only
    | with_reducible apply upd
    | exact trivial
    | rfl
    | exact id
    | exact Nat.le_refl _
    | intro _

theorem bootFactory (h : Kept u s) {a1} : Kept u (@Sys2Proof.Machine.State.bootFactory s a1) := by
  dsimp only [Sys2Proof.Machine.State.bootFactory]
  repeat' first
    | with_reducible assumption
    | with_reducible apply noteCal
    | with_reducible apply setB
    | with_reducible apply foldl
    | with_reducible apply forRange
    | with_reducible rfl
    | with_reducible exact id
    | with_reducible exact Nat.le_refl _
    | split
    | dsimp only
    | with_reducible apply upd
    | exact trivial
    | rfl
    | exact id
    | exact Nat.le_refl _
    | intro _

theorem bootFolio (h : Kept u s) {a1} : Kept u (@Sys2Proof.Machine.State.bootFolio s a1) := by
  dsimp only [Sys2Proof.Machine.State.bootFolio]
  repeat' first
    | with_reducible assumption
    | with_reducible apply takeFree
    | with_reducible apply event
    | with_reducible apply folioResult
    | with_reducible apply foldl
    | with_reducible apply forRange
    | (with_reducible apply snd_of; with_reducible assumption)
    | with_reducible rfl
    | with_reducible exact id
    | with_reducible exact Nat.le_refl _
    | split
    | dsimp only
    | with_reducible apply upd
    | exact trivial
    | rfl
    | exact id
    | exact Nat.le_refl _
    | intro _

theorem bootRadio (h : Kept u s) {a1 a2} : Kept u (@Sys2Proof.Machine.State.bootRadio s a1 a2) := by
  dsimp only [Sys2Proof.Machine.State.bootRadio]
  repeat' first
    | with_reducible assumption
    | with_reducible apply wrF
    | with_reducible apply noteLast
    | with_reducible apply setB
    | with_reducible apply forRange
    | with_reducible apply wr
    | with_reducible apply calDone
    | with_reducible apply bootFolio
    | with_reducible apply foldl
    | with_reducible apply forRange
    | with_reducible rfl
    | with_reducible exact id
    | with_reducible exact Nat.le_refl _
    | split
    | dsimp only
    | with_reducible apply upd
    | exact trivial
    | rfl
    | exact id
    | exact Nat.le_refl _
    | intro _

theorem bootApp (h : Kept u s) {a1} : exc u (@Sys2Proof.Machine.State.bootApp s a1) := by
  dsimp only [Sys2Proof.Machine.State.bootApp]
  repeat' first
    | with_reducible assumption
    | with_reducible apply readStored
    | with_reducible apply setB
    | with_reducible apply wrF
    | with_reducible apply foldl
    | with_reducible apply forRange
    | with_reducible apply exc_ok
    | (with_reducible apply rr_of; with_reducible assumption)
    | (with_reducible apply rr_ofp; with_reducible assumption)
    | (with_reducible apply rr_err; with_reducible assumption)
    | with_reducible rfl
    | with_reducible exact id
    | with_reducible exact Nat.le_refl _
    | split
    | dsimp only
    | with_reducible apply upd
    | exact trivial
    | rfl
    | exact id
    | exact Nat.le_refl _
    | intro _

theorem bootJump (h : Kept u s) : Kept u (@Sys2Proof.Machine.State.bootJump s) := by
  dsimp only [Sys2Proof.Machine.State.bootJump]
  repeat' first
    | with_reducible assumption
    | with_reducible apply setB
    | with_reducible apply wdogFeed
    | with_reducible apply wr
    | with_reducible apply eventIf
    | with_reducible apply event
    | with_reducible apply foldl
    | with_reducible apply forRange
    | with_reducible rfl
    | with_reducible exact id
    | with_reducible exact Nat.le_refl _
    | split
    | dsimp only
    | with_reducible apply upd
    | exact trivial
    | rfl
    | exact id
    | exact Nat.le_refl _
    | intro _

theorem takePath (h : Kept u s) {a1 a2} : Kept u (@Sys2Proof.Machine.State.takePath s a1 a2) := by
  dsimp only [Sys2Proof.Machine.State.takePath]
  repeat' first
    | with_reducible assumption
    | with_reducible apply setB
    | with_reducible apply foldl
    | with_reducible apply forRange
    | with_reducible rfl
    | with_reducible exact id
    | with_reducible exact Nat.le_refl _
    | split
    | dsimp only
    | with_reducible apply upd
    | exact trivial
    | rfl
    | exact id
    | exact Nat.le_refl _
    | intro _

theorem bootAct (h : Kept u s) {a1 a2 a3} : exc u (@Sys2Proof.Machine.State.bootAct s a1 a2 a3) := by
  dsimp only [Sys2Proof.Machine.State.bootAct]
  repeat' first
    | with_reducible assumption
    | with_reducible apply checkAnnex
    | with_reducible apply setB
    | with_reducible apply satAdd
    | with_reducible apply loseArea
    | with_reducible apply spineUp
    | with_reducible apply storeSync
    | with_reducible apply restoreMirror
    | with_reducible apply loadMaps
    | with_reducible apply endPulses
    | with_reducible apply loadKeys
    | with_reducible apply bootVerify
    | with_reducible apply bootApply
    | with_reducible apply bootFactory
    | with_reducible apply selectSysclk
    | with_reducible apply bootRadio
    | with_reducible apply bootApp
    | with_reducible apply bootJump
    | with_reducible apply foldl
    | with_reducible apply forRange
    | with_reducible apply exc_ok
    | (with_reducible apply exc_of; with_reducible assumption)
    | with_reducible rfl
    | with_reducible exact id
    | with_reducible exact Nat.le_refl _
    | split
    | dsimp only
    | with_reducible apply upd
    | exact trivial
    | rfl
    | exact id
    | exact Nat.le_refl _
    | intro _

theorem bootFail (h : Kept u s) {a1 a2 a3} : Kept u (@Sys2Proof.Machine.State.bootFail s a1 a2 a3) := by
  dsimp only [Sys2Proof.Machine.State.bootFail]
  repeat' first
    | with_reducible assumption
    | with_reducible apply warmReset
    | with_reducible apply countFail
    | with_reducible apply foldl
    | with_reducible apply forRange
    | with_reducible rfl
    | with_reducible exact id
    | with_reducible exact Nat.le_refl _
    | split
    | dsimp only
    | with_reducible apply upd
    | exact trivial
    | rfl
    | exact id
    | exact Nat.le_refl _
    | intro _

theorem enterAnnex (h : Kept u s) : Kept u (@Sys2Proof.Machine.State.enterAnnex s) := by
  dsimp only [Sys2Proof.Machine.State.enterAnnex]
  repeat' first
    | with_reducible assumption
    | with_reducible apply wr
    | with_reducible apply wrF
    | with_reducible apply setB
    | with_reducible apply foldl
    | with_reducible apply forRange
    | with_reducible rfl
    | with_reducible exact id
    | with_reducible exact Nat.le_refl _
    | split
    | dsimp only
    | with_reducible apply upd
    | exact trivial
    | rfl
    | exact id
    | exact Nat.le_refl _
    | intro _

theorem bootDone (h : Kept u s) {a1 a2} : bres u (@Sys2Proof.Machine.State.bootDone s a1 a2) := by
  dsimp only [Sys2Proof.Machine.State.bootDone]
  repeat' first
    | with_reducible assumption
    | with_reducible apply setErrCount
    | with_reducible apply enterAnnex
    | with_reducible apply wr
    | with_reducible apply foldl
    | with_reducible apply forRange
    | with_reducible apply bres_mk_go
    | with_reducible apply bres_mk_stop
    | with_reducible rfl
    | with_reducible exact id
    | with_reducible exact Nat.le_refl _
    | split
    | dsimp only
    | with_reducible apply upd
    | exact trivial
    | rfl
    | exact id
    | exact Nat.le_refl _
    | intro _

theorem bootStep (h : Kept u s) {a1 a2 a3} : bres u (@Sys2Proof.Machine.State.bootStep s a1 a2 a3) := by
  dsimp only [Sys2Proof.Machine.State.bootStep]
  repeat' first
    | with_reducible assumption
    | with_reducible apply takePath
    | with_reducible apply bootTamper
    | with_reducible apply wr
    | with_reducible apply bootFail
    | with_reducible apply bootAct
    | with_reducible apply bootDone
    | with_reducible apply foldl
    | with_reducible apply forRange
    | with_reducible apply bres_mk_go
    | with_reducible apply bres_mk_stop
    | (with_reducible apply exc_of; with_reducible assumption)
    | (with_reducible apply bres_go; with_reducible assumption)
    | (with_reducible apply bres_stop; with_reducible assumption)
    | with_reducible rfl
    | with_reducible exact id
    | with_reducible exact Nat.le_refl _
    | split
    | dsimp only
    | with_reducible apply upd
    | exact trivial
    | rfl
    | exact id
    | exact Nat.le_refl _
    | intro _

theorem bootSteps (h : Kept u s) {a0 a1 a2} : Kept u (@Sys2Proof.Machine.bootSteps a0 a1 a2 s) := by
  induction a2 generalizing a0 a1 s with
  | nil =>
    unfold Sys2Proof.Machine.bootSteps
    repeat' first
      | with_reducible assumption
      | with_reducible apply bootStep
      | with_reducible apply foldl
      | with_reducible apply forRange
      | (with_reducible apply bres_go; with_reducible assumption)
      | (with_reducible apply bres_stop; with_reducible assumption)
      | with_reducible rfl
      | with_reducible exact id
      | with_reducible exact Nat.le_refl _
      | split
      | dsimp only
      | with_reducible apply upd
      | exact trivial
      | rfl
      | exact id
      | exact Nat.le_refl _
      | intro _
  | cons x l ih =>
    unfold Sys2Proof.Machine.bootSteps
    repeat' first
      | with_reducible assumption
      | with_reducible apply ih
      | with_reducible apply bootStep
      | with_reducible apply foldl
      | with_reducible apply forRange
      | (with_reducible apply bres_go; with_reducible assumption)
      | (with_reducible apply bres_stop; with_reducible assumption)
      | with_reducible rfl
      | with_reducible exact id
      | with_reducible exact Nat.le_refl _
      | split
      | dsimp only
      | with_reducible apply upd
      | exact trivial
      | rfl
      | exact id
      | exact Nat.le_refl _
      | intro _

theorem countHang (h : Kept u s) : Kept u (@Sys2Proof.Machine.State.countHang s) := by
  dsimp only [Sys2Proof.Machine.State.countHang]
  repeat' first
    | with_reducible assumption
    | with_reducible apply countFail
    | with_reducible apply foldl
    | with_reducible apply forRange
    | with_reducible rfl
    | with_reducible exact id
    | with_reducible exact Nat.le_refl _
    | split
    | dsimp only
    | with_reducible apply upd
    | exact trivial
    | rfl
    | exact id
    | exact Nat.le_refl _
    | intro _

theorem runBoot (h : Kept u s) {a1 a2} : Kept u (@Sys2Proof.Machine.State.runBoot s a1 a2) := by
  dsimp only [Sys2Proof.Machine.State.runBoot]
  repeat' first
    | with_reducible assumption
    | with_reducible apply bootSteps
    | with_reducible apply countHang
    | with_reducible apply setB
    | with_reducible apply foldl
    | with_reducible apply forRange
    | with_reducible rfl
    | with_reducible exact id
    | with_reducible exact Nat.le_refl _
    | split
    | dsimp only
    | with_reducible apply upd
    | exact trivial
    | rfl
    | exact id
    | exact Nat.le_refl _
    | intro _

theorem execBootStart (h : Kept u s) {a0} : out u (@Sys2Proof.Machine.execBootStart a0 s) := by
  dsimp only [Sys2Proof.Machine.execBootStart]
  repeat' first
    | with_reducible assumption
    | with_reducible apply runBoot
    | with_reducible apply foldl
    | with_reducible apply forRange
    | with_reducible apply out_next
    | with_reducible rfl
    | with_reducible exact id
    | with_reducible exact Nat.le_refl _
    | split
    | dsimp only
    | with_reducible apply upd
    | exact trivial
    | rfl
    | exact id
    | exact Nat.le_refl _
    | intro _

theorem execBootStepTimeout (h : Kept u s) {a0 a1} : out u (@Sys2Proof.Machine.execBootStepTimeout a0 a1 s) := by
  dsimp only [Sys2Proof.Machine.execBootStepTimeout]
  repeat' first
    | with_reducible assumption
    | with_reducible apply step
    | with_reducible apply runBoot
    | with_reducible apply foldl
    | with_reducible apply forRange
    | with_reducible apply out_next
    | with_reducible rfl
    | with_reducible exact id
    | with_reducible exact Nat.le_refl _
    | split
    | dsimp only
    | with_reducible apply upd
    | exact trivial
    | rfl
    | exact id
    | exact Nat.le_refl _
    | intro _

theorem lowSupply (h : Kept u s) : Kept u (@Sys2Proof.Machine.State.lowSupply s) := by
  dsimp only [Sys2Proof.Machine.State.lowSupply]
  repeat' first
    | with_reducible assumption
    | with_reducible apply storeInhibit
    | with_reducible apply setB
    | with_reducible apply foldl
    | with_reducible apply forRange
    | with_reducible rfl
    | with_reducible exact id
    | with_reducible exact Nat.le_refl _
    | split
    | dsimp only
    | with_reducible apply upd
    | exact trivial
    | rfl
    | exact id
    | exact Nat.le_refl _
    | intro _

theorem execPowerOnReset (h : Kept u s) {a0} : out u (@Sys2Proof.Machine.execPowerOnReset a0 s) := by
  dsimp only [Sys2Proof.Machine.execPowerOnReset]
  repeat' first
    | with_reducible assumption
    | with_reducible apply lowSupply
    | with_reducible apply powerOnReset
    | with_reducible apply foldl
    | with_reducible apply forRange
    | with_reducible apply out_next
    | with_reducible rfl
    | with_reducible exact id
    | with_reducible exact Nat.le_refl _
    | split
    | dsimp only
    | with_reducible apply upd
    | exact trivial
    | rfl
    | exact id
    | exact Nat.le_refl _
    | intro _

theorem execBrownOutReset (h : Kept u s) : out u (@Sys2Proof.Machine.execBrownOutReset s) := by
  dsimp only [Sys2Proof.Machine.execBrownOutReset]
  repeat' first
    | with_reducible assumption
    | with_reducible apply setB
    | with_reducible apply brownOutReset
    | with_reducible apply storeInhibit
    | with_reducible apply foldl
    | with_reducible apply forRange
    | with_reducible apply out_next
    | with_reducible rfl
    | with_reducible exact id
    | with_reducible exact Nat.le_refl _
    | split
    | dsimp only
    | with_reducible apply upd
    | exact trivial
    | rfl
    | exact id
    | exact Nat.le_refl _
    | intro _

theorem execRstNPulse (h : Kept u s) {a0} : out u (@Sys2Proof.Machine.execRstNPulse a0 s) := by
  dsimp only [Sys2Proof.Machine.execRstNPulse]
  repeat' first
    | with_reducible assumption
    | with_reducible apply warmReset
    | with_reducible apply takeFree
    | with_reducible apply foldl
    | with_reducible apply forRange
    | with_reducible apply out_next
    | (with_reducible apply snd_of; with_reducible assumption)
    | with_reducible rfl
    | with_reducible exact id
    | with_reducible exact Nat.le_refl _
    | split
    | dsimp only
    | with_reducible apply upd
    | exact trivial
    | rfl
    | exact id
    | exact Nat.le_refl _
    | intro _

theorem execSoftwareReset (h : Kept u s) {a0} : out u (@Sys2Proof.Machine.execSoftwareReset a0 s) := by
  dsimp only [Sys2Proof.Machine.execSoftwareReset]
  repeat' first
    | with_reducible assumption
    | with_reducible apply warmReset
    | with_reducible apply foldl
    | with_reducible apply forRange
    | with_reducible apply out_next
    | with_reducible rfl
    | with_reducible exact id
    | with_reducible exact Nat.le_refl _
    | split
    | dsimp only
    | with_reducible apply upd
    | exact trivial
    | rfl
    | exact id
    | exact Nat.le_refl _
    | intro _

theorem execDebugReset (h : Kept u s) : out u (@Sys2Proof.Machine.execDebugReset s) := by
  dsimp only [Sys2Proof.Machine.execDebugReset]
  repeat' first
    | with_reducible assumption
    | with_reducible apply warmReset
    | with_reducible apply foldl
    | with_reducible apply forRange
    | with_reducible apply out_next
    | with_reducible rfl
    | with_reducible exact id
    | with_reducible exact Nat.le_refl _
    | split
    | dsimp only
    | with_reducible apply upd
    | exact trivial
    | rfl
    | exact id
    | exact Nat.le_refl _
    | intro _

theorem execResetHoldEnd (h : Kept u s) : out u (@Sys2Proof.Machine.execResetHoldEnd s) := by
  dsimp only [Sys2Proof.Machine.execResetHoldEnd]
  repeat' first
    | with_reducible assumption
    | with_reducible apply foldl
    | with_reducible apply forRange
    | with_reducible apply out_next
    | with_reducible rfl
    | with_reducible exact id
    | with_reducible exact Nat.le_refl _
    | split
    | dsimp only
    | with_reducible apply upd
    | exact trivial
    | rfl
    | exact id
    | exact Nat.le_refl _
    | intro _

theorem execBootOk (h : Kept u s) {a0} : out u (@Sys2Proof.Machine.execBootOk a0 s) := by
  dsimp only [Sys2Proof.Machine.execBootOk]
  repeat' first
    | with_reducible assumption
    | with_reducible apply wrF
    | with_reducible apply foldl
    | with_reducible apply forRange
    | with_reducible apply out_next
    | with_reducible rfl
    | with_reducible exact id
    | with_reducible exact Nat.le_refl _
    | split
    | dsimp only
    | with_reducible apply upd
    | exact trivial
    | rfl
    | exact id
    | exact Nat.le_refl _
    | intro _

theorem errataClr (h : Kept u s) {a1} : Kept u (@Sys2Proof.Machine.State.errataClr s a1) := by
  dsimp only [Sys2Proof.Machine.State.errataClr]
  repeat' first
    | with_reducible assumption
    | with_reducible apply forRange
    | with_reducible apply setErrCount
    | with_reducible apply setB
    | with_reducible apply foldl
    | with_reducible apply forRange
    | with_reducible rfl
    | with_reducible exact id
    | with_reducible exact Nat.le_refl _
    | split
    | dsimp only
    | with_reducible apply upd
    | exact trivial
    | rfl
    | exact id
    | exact Nat.le_refl _
    | intro _

theorem execErrataClr (h : Kept u s) {a0} : out u (@Sys2Proof.Machine.execErrataClr a0 s) := by
  dsimp only [Sys2Proof.Machine.execErrataClr]
  repeat' first
    | with_reducible assumption
    | with_reducible apply errataClr
    | with_reducible apply foldl
    | with_reducible apply forRange
    | with_reducible apply out_next
    | with_reducible rfl
    | with_reducible exact id
    | with_reducible exact Nat.le_refl _
    | split
    | dsimp only
    | with_reducible apply upd
    | exact trivial
    | rfl
    | exact id
    | exact Nat.le_refl _
    | intro _

theorem execErrataMirrorRewrite (h : Kept u s) : out u (@Sys2Proof.Machine.execErrataMirrorRewrite s) := by
  dsimp only [Sys2Proof.Machine.execErrataMirrorRewrite]
  repeat' first
    | with_reducible assumption
    | with_reducible apply setB
    | with_reducible apply writeMirror
    | with_reducible apply foldl
    | with_reducible apply forRange
    | with_reducible apply out_next
    | with_reducible rfl
    | with_reducible exact id
    | with_reducible exact Nat.le_refl _
    | split
    | dsimp only
    | with_reducible apply upd
    | exact trivial
    | rfl
    | exact id
    | exact Nat.le_refl _
    | intro _

theorem holdRelease (h : Kept u s) : Kept u (@Sys2Proof.Machine.State.holdRelease s) := by
  dsimp only [Sys2Proof.Machine.State.holdRelease]
  repeat' first
    | with_reducible assumption
    | with_reducible apply setB
    | with_reducible apply foldl
    | with_reducible apply forRange
    | with_reducible rfl
    | with_reducible exact id
    | with_reducible exact Nat.le_refl _
    | split
    | dsimp only
    | with_reducible apply upd
    | exact trivial
    | rfl
    | exact id
    | exact Nat.le_refl _
    | intro _

theorem execGpioHoldRelease (h : Kept u s) : out u (@Sys2Proof.Machine.execGpioHoldRelease s) := by
  dsimp only [Sys2Proof.Machine.execGpioHoldRelease]
  repeat' first
    | with_reducible assumption
    | with_reducible apply holdRelease
    | with_reducible apply foldl
    | with_reducible apply forRange
    | with_reducible apply out_next
    | with_reducible rfl
    | with_reducible exact id
    | with_reducible exact Nat.le_refl _
    | split
    | dsimp only
    | with_reducible apply upd
    | exact trivial
    | rfl
    | exact id
    | exact Nat.le_refl _
    | intro _

theorem serialSlip (h : Kept u s) {a1 a2} : Kept u (@Sys2Proof.Machine.State.serialSlip s a1 a2) := by
  dsimp only [Sys2Proof.Machine.State.serialSlip]
  repeat' first
    | with_reducible assumption
    | with_reducible apply slip
    | with_reducible apply foldl
    | with_reducible apply forRange
    | with_reducible rfl
    | with_reducible exact id
    | with_reducible exact Nat.le_refl _
    | split
    | dsimp only
    | with_reducible apply upd
    | exact trivial
    | rfl
    | exact id
    | exact Nat.le_refl _
    | intro _

theorem setSpi (h : Kept u s) {a1 a2} : Kept u (@Sys2Proof.Machine.State.setSpi s a1 a2) := by
  dsimp only [Sys2Proof.Machine.State.setSpi]
  repeat' first
    | with_reducible assumption
    | with_reducible apply foldl
    | with_reducible apply forRange
    | with_reducible rfl
    | with_reducible exact id
    | with_reducible exact Nat.le_refl _
    | split
    | dsimp only
    | with_reducible apply upd
    | exact trivial
    | rfl
    | exact id
    | exact Nat.le_refl _
    | intro _

theorem execSpiStart (h : Kept u s) {a0 a1} : out u (@Sys2Proof.Machine.execSpiStart a0 a1 s) := by
  dsimp only [Sys2Proof.Machine.execSpiStart]
  repeat' first
    | with_reducible assumption
    | with_reducible apply sent
    | with_reducible apply satAdd
    | with_reducible apply setB
    | with_reducible apply setSpi
    | with_reducible apply foldl
    | with_reducible apply forRange
    | with_reducible apply out_next
    | with_reducible rfl
    | with_reducible exact id
    | with_reducible exact Nat.le_refl _
    | split
    | dsimp only
    | with_reducible apply upd
    | exact trivial
    | rfl
    | exact id
    | exact Nat.le_refl _
    | intro _

theorem spiFlag (h : Kept u s) {a1 a2} : Kept u (@Sys2Proof.Machine.State.spiFlag s a1 a2) := by
  dsimp only [Sys2Proof.Machine.State.spiFlag]
  repeat' first
    | with_reducible assumption
    | with_reducible apply eventIf
    | with_reducible apply setB
    | with_reducible apply foldl
    | with_reducible apply forRange
    | with_reducible rfl
    | with_reducible exact id
    | with_reducible exact Nat.le_refl _
    | split
    | dsimp only
    | with_reducible apply upd
    | exact trivial
    | rfl
    | exact id
    | exact Nat.le_refl _
    | intro _

theorem execSpiTargetFrame (h : Kept u s) {a0 a1} : out u (@Sys2Proof.Machine.execSpiTargetFrame a0 a1 s) := by
  dsimp only [Sys2Proof.Machine.execSpiTargetFrame]
  repeat' first
    | with_reducible assumption
    | with_reducible apply sent
    | with_reducible apply setSpi
    | with_reducible apply spiFlag
    | with_reducible apply serialSlip
    | with_reducible apply foldl
    | with_reducible apply forRange
    | with_reducible apply out_next
    | with_reducible rfl
    | with_reducible exact id
    | with_reducible exact Nat.le_refl _
    | split
    | dsimp only
    | with_reducible apply upd
    | exact trivial
    | rfl
    | exact id
    | exact Nat.le_refl _
    | intro _

theorem execSpiTransferEnd (h : Kept u s) {a0 a1} : out u (@Sys2Proof.Machine.execSpiTransferEnd a0 a1 s) := by
  dsimp only [Sys2Proof.Machine.execSpiTransferEnd]
  repeat' first
    | with_reducible assumption
    | with_reducible apply eventIf
    | with_reducible apply sent
    | with_reducible apply event
    | with_reducible apply setSpi
    | with_reducible apply setB
    | with_reducible apply foldl
    | with_reducible apply forRange
    | with_reducible apply out_next
    | with_reducible rfl
    | with_reducible exact id
    | with_reducible exact Nat.le_refl _
    | split
    | dsimp only
    | with_reducible apply upd
    | exact trivial
    | rfl
    | exact id
    | exact Nat.le_refl _
    | intro _

theorem spiPush (h : Kept u s) {a1 a2} : Kept u (@Sys2Proof.Machine.State.spiPush s a1 a2) := by
  dsimp only [Sys2Proof.Machine.State.spiPush]
  repeat' first
    | with_reducible assumption
    | with_reducible apply setSpi
    | with_reducible apply foldl
    | with_reducible apply forRange
    | with_reducible rfl
    | with_reducible exact id
    | with_reducible exact Nat.le_refl _
    | split
    | dsimp only
    | with_reducible apply upd
    | exact trivial
    | rfl
    | exact id
    | exact Nat.le_refl _
    | intro _

theorem spiPop (h : Kept u s) {a1} : Kept u (@Sys2Proof.Machine.State.spiPop s a1).2 := by
  dsimp only [Sys2Proof.Machine.State.spiPop]
  repeat' first
    | with_reducible assumption
    | with_reducible apply setSpi
    | with_reducible apply foldl
    | with_reducible apply forRange
    | with_reducible rfl
    | with_reducible exact id
    | with_reducible exact Nat.le_refl _
    | split
    | dsimp only
    | with_reducible apply upd
    | exact trivial
    | rfl
    | exact id
    | exact Nat.le_refl _
    | intro _

theorem setUart (h : Kept u s) {a1 a2} : Kept u (@Sys2Proof.Machine.State.setUart s a1 a2) := by
  dsimp only [Sys2Proof.Machine.State.setUart]
  repeat' first
    | with_reducible assumption
    | with_reducible apply foldl
    | with_reducible apply forRange
    | with_reducible rfl
    | with_reducible exact id
    | with_reducible exact Nat.le_refl _
    | split
    | dsimp only
    | with_reducible apply upd
    | exact trivial
    | rfl
    | exact id
    | exact Nat.le_refl _
    | intro _

theorem uartBusy (h : Kept u s) {a1} : Kept u (@Sys2Proof.Machine.State.uartBusy s a1) := by
  dsimp only [Sys2Proof.Machine.State.uartBusy]
  repeat' first
    | with_reducible assumption
    | with_reducible apply setB
    | with_reducible apply foldl
    | with_reducible apply forRange
    | with_reducible rfl
    | with_reducible exact id
    | with_reducible exact Nat.le_refl _
    | split
    | dsimp only
    | with_reducible apply upd
    | exact trivial
    | rfl
    | exact id
    | exact Nat.le_refl _
    | intro _

theorem uartPush (h : Kept u s) {a1 a2} : Kept u (@Sys2Proof.Machine.State.uartPush s a1 a2) := by
  dsimp only [Sys2Proof.Machine.State.uartPush]
  repeat' first
    | with_reducible assumption
    | with_reducible apply satAdd
    | with_reducible apply uartBusy
    | with_reducible apply setUart
    | with_reducible apply foldl
    | with_reducible apply forRange
    | with_reducible rfl
    | with_reducible exact id
    | with_reducible exact Nat.le_refl _
    | split
    | dsimp only
    | with_reducible apply upd
    | exact trivial
    | rfl
    | exact id
    | exact Nat.le_refl _
    | intro _

theorem execUartDataWrite (h : Kept u s) {a0 a1} : out u (@Sys2Proof.Machine.execUartDataWrite a0 a1 s) := by
  dsimp only [Sys2Proof.Machine.execUartDataWrite]
  repeat' first
    | with_reducible assumption
    | with_reducible apply uartPush
    | with_reducible apply foldl
    | with_reducible apply forRange
    | with_reducible apply out_next
    | with_reducible rfl
    | with_reducible exact id
    | with_reducible exact Nat.le_refl _
    | split
    | dsimp only
    | with_reducible apply upd
    | exact trivial
    | rfl
    | exact id
    | exact Nat.le_refl _
    | intro _

theorem execUartSendTask (h : Kept u s) {a0} : out u (@Sys2Proof.Machine.execUartSendTask a0 s) := by
  dsimp only [Sys2Proof.Machine.execUartSendTask]
  repeat' first
    | with_reducible assumption
    | with_reducible apply uartBusy
    | with_reducible apply setUart
    | with_reducible apply foldl
    | with_reducible apply forRange
    | with_reducible apply out_next
    | with_reducible rfl
    | with_reducible exact id
    | with_reducible exact Nat.le_refl _
    | split
    | dsimp only
    | with_reducible apply upd
    | exact trivial
    | rfl
    | exact id
    | exact Nat.le_refl _
    | intro _

theorem execUartTxEmpty (h : Kept u s) {a0} : out u (@Sys2Proof.Machine.execUartTxEmpty a0 s) := by
  dsimp only [Sys2Proof.Machine.execUartTxEmpty]
  repeat' first
    | with_reducible assumption
    | with_reducible apply sent
    | with_reducible apply uartBusy
    | with_reducible apply setUart
    | with_reducible apply eventIf
    | with_reducible apply foldl
    | with_reducible apply forRange
    | with_reducible apply out_next
    | with_reducible rfl
    | with_reducible exact id
    | with_reducible exact Nat.le_refl _
    | split
    | dsimp only
    | with_reducible apply upd
    | exact trivial
    | rfl
    | exact id
    | exact Nat.le_refl _
    | intro _

theorem uartFlags (h : Kept u s) {a1 a2 a3 a4 a5} : Kept u (@Sys2Proof.Machine.State.uartFlags s a1 a2 a3 a4 a5) := by
  dsimp only [Sys2Proof.Machine.State.uartFlags]
  repeat' first
    | with_reducible assumption
    | with_reducible apply eventIf
    | with_reducible apply wr
    | with_reducible apply foldl
    | with_reducible apply forRange
    | with_reducible rfl
    | with_reducible exact id
    | with_reducible exact Nat.le_refl _
    | split
    | dsimp only
    | with_reducible apply upd
    | exact trivial
    | rfl
    | exact id
    | exact Nat.le_refl _
    | intro _

theorem execUartByteReceived (h : Kept u s) {a0 a1 a2 a3 a4} : out u (@Sys2Proof.Machine.execUartByteReceived a0 a1 a2 a3 a4 s) := by
  dsimp only [Sys2Proof.Machine.execUartByteReceived]
  repeat' first
    | with_reducible assumption
    | with_reducible apply serialSlip
    | with_reducible apply uartFlags
    | with_reducible apply setUart
    | with_reducible apply eventIf
    | with_reducible apply foldl
    | with_reducible apply forRange
    | with_reducible apply out_next
    | with_reducible rfl
    | with_reducible exact id
    | with_reducible exact Nat.le_refl _
    | split
    | dsimp only
    | with_reducible apply upd
    | exact trivial
    | rfl
    | exact id
    | exact Nat.le_refl _
    | intro _

theorem execUartRxTimeout (h : Kept u s) {a0} : out u (@Sys2Proof.Machine.execUartRxTimeout a0 s) := by
  dsimp only [Sys2Proof.Machine.execUartRxTimeout]
  repeat' first
    | with_reducible assumption
    | with_reducible apply eventIf
    | with_reducible apply foldl
    | with_reducible apply forRange
    | with_reducible apply out_next
    | with_reducible rfl
    | with_reducible exact id
    | with_reducible exact Nat.le_refl _
    | split
    | dsimp only
    | with_reducible apply upd
    | exact trivial
    | rfl
    | exact id
    | exact Nat.le_refl _
    | intro _

theorem uartPop (h : Kept u s) {a1} : Kept u (@Sys2Proof.Machine.State.uartPop s a1).2 := by
  dsimp only [Sys2Proof.Machine.State.uartPop]
  repeat' first
    | with_reducible assumption
    | with_reducible apply setUart
    | with_reducible apply takeFreeBytes
    | with_reducible apply foldl
    | with_reducible apply forRange
    | (with_reducible apply snd_of; with_reducible assumption)
    | with_reducible rfl
    | with_reducible exact id
    | with_reducible exact Nat.le_refl _
    | split
    | dsimp only
    | with_reducible apply upd
    | exact trivial
    | rfl
    | exact id
    | exact Nat.le_refl _
    | intro _

theorem setI2c (h : Kept u s) {a1 a2} : Kept u (@Sys2Proof.Machine.State.setI2c s a1 a2) := by
  dsimp only [Sys2Proof.Machine.State.setI2c]
  repeat' first
    | with_reducible assumption
    | with_reducible apply setB
    | with_reducible apply foldl
    | with_reducible apply forRange
    | with_reducible rfl
    | with_reducible exact id
    | with_reducible exact Nat.le_refl _
    | split
    | dsimp only
    | with_reducible apply upd
    | exact trivial
    | rfl
    | exact id
    | exact Nat.le_refl _
    | intro _

theorem busBusy (h : Kept u s) {a1 a2} : Kept u (@Sys2Proof.Machine.State.busBusy s a1 a2) := by
  dsimp only [Sys2Proof.Machine.State.busBusy]
  repeat' first
    | with_reducible assumption
    | with_reducible apply setB
    | with_reducible apply foldl
    | with_reducible apply forRange
    | with_reducible rfl
    | with_reducible exact id
    | with_reducible exact Nat.le_refl _
    | split
    | dsimp only
    | with_reducible apply upd
    | exact trivial
    | rfl
    | exact id
    | exact Nat.le_refl _
    | intro _

theorem i2cEnd (h : Kept u s) {a1 a2} : Kept u (@Sys2Proof.Machine.State.i2cEnd s a1 a2) := by
  dsimp only [Sys2Proof.Machine.State.i2cEnd]
  repeat' first
    | with_reducible assumption
    | with_reducible apply event
    | with_reducible apply wrF
    | with_reducible apply setI2c
    | with_reducible apply foldl
    | with_reducible apply forRange
    | with_reducible rfl
    | with_reducible exact id
    | with_reducible exact Nat.le_refl _
    | split
    | dsimp only
    | with_reducible apply upd
    | exact trivial
    | rfl
    | exact id
    | exact Nat.le_refl _
    | intro _

theorem i2cLoss (h : Kept u s) {a1 a2 a3} : Kept u (@Sys2Proof.Machine.State.i2cLoss s a1 a2 a3) := by
  dsimp only [Sys2Proof.Machine.State.i2cLoss]
  repeat' first
    | with_reducible assumption
    | with_reducible apply wr
    | with_reducible apply foldl
    | with_reducible apply forRange
    | with_reducible rfl
    | with_reducible exact id
    | with_reducible exact Nat.le_refl _
    | split
    | dsimp only
    | with_reducible apply upd
    | exact trivial
    | rfl
    | exact id
    | exact Nat.le_refl _
    | intro _

theorem i2cBegin (h : Kept u s) {a1 a2} : Kept u (@Sys2Proof.Machine.State.i2cBegin s a1 a2) := by
  dsimp only [Sys2Proof.Machine.State.i2cBegin]
  repeat' first
    | with_reducible assumption
    | with_reducible apply busBusy
    | with_reducible apply setI2c
    | with_reducible apply i2cLoss
    | with_reducible apply foldl
    | with_reducible apply forRange
    | with_reducible rfl
    | with_reducible exact id
    | with_reducible exact Nat.le_refl _
    | split
    | dsimp only
    | with_reducible apply upd
    | exact trivial
    | rfl
    | exact id
    | exact Nat.le_refl _
    | intro _

theorem i2cBusClear (h : Kept u s) {a1 a2} : Kept u (@Sys2Proof.Machine.State.i2cBusClear s a1 a2) := by
  dsimp only [Sys2Proof.Machine.State.i2cBusClear]
  repeat' first
    | with_reducible assumption
    | with_reducible apply i2cEnd
    | with_reducible apply busBusy
    | with_reducible apply setI2c
    | with_reducible apply serialSlip
    | with_reducible apply foldl
    | with_reducible apply forRange
    | with_reducible rfl
    | with_reducible exact id
    | with_reducible exact Nat.le_refl _
    | split
    | dsimp only
    | with_reducible apply upd
    | exact trivial
    | rfl
    | exact id
    | exact Nat.le_refl _
    | intro _

theorem i2cStart (h : Kept u s) {a1 a2 a3 a4 a5} : Kept u (@Sys2Proof.Machine.State.i2cStart s a1 a2 a3 a4 a5) := by
  dsimp only [Sys2Proof.Machine.State.i2cStart]
  repeat' first
    | with_reducible assumption
    | with_reducible apply satAdd
    | with_reducible apply i2cBusClear
    | with_reducible apply setI2c
    | with_reducible apply i2cBegin
    | with_reducible apply foldl
    | with_reducible apply forRange
    | with_reducible rfl
    | with_reducible exact id
    | with_reducible exact Nat.le_refl _
    | split
    | dsimp only
    | with_reducible apply upd
    | exact trivial
    | rfl
    | exact id
    | exact Nat.le_refl _
    | intro _

theorem execI2cXfer (h : Kept u s) {a0 a1 a2 a3} : out u (@Sys2Proof.Machine.execI2cXfer a0 a1 a2 a3 s) := by
  dsimp only [Sys2Proof.Machine.execI2cXfer]
  repeat' first
    | with_reducible assumption
    | with_reducible apply takeFree
    | with_reducible apply i2cStart
    | with_reducible apply foldl
    | with_reducible apply forRange
    | with_reducible apply out_next
    | (with_reducible apply snd_of; with_reducible assumption)
    | with_reducible rfl
    | with_reducible exact id
    | with_reducible exact Nat.le_refl _
    | split
    | dsimp only
    | with_reducible apply upd
    | exact trivial
    | rfl
    | exact id
    | exact Nat.le_refl _
    | intro _

theorem execI2cClear (h : Kept u s) {a0 a1} : out u (@Sys2Proof.Machine.execI2cClear a0 a1 s) := by
  dsimp only [Sys2Proof.Machine.execI2cClear]
  repeat' first
    | with_reducible assumption
    | with_reducible apply i2cStart
    | with_reducible apply foldl
    | with_reducible apply forRange
    | with_reducible apply out_next
    | with_reducible rfl
    | with_reducible exact id
    | with_reducible exact Nat.le_refl _
    | split
    | dsimp only
    | with_reducible apply upd
    | exact trivial
    | rfl
    | exact id
    | exact Nat.le_refl _
    | intro _

theorem execI2cBusBusyTimeout (h : Kept u s) {a0} : out u (@Sys2Proof.Machine.execI2cBusBusyTimeout a0 s) := by
  dsimp only [Sys2Proof.Machine.execI2cBusBusyTimeout]
  repeat' first
    | with_reducible assumption
    | with_reducible apply i2cEnd
    | with_reducible apply foldl
    | with_reducible apply forRange
    | with_reducible apply out_next
    | with_reducible rfl
    | with_reducible exact id
    | with_reducible exact Nat.le_refl _
    | split
    | dsimp only
    | with_reducible apply upd
    | exact trivial
    | rfl
    | exact id
    | exact Nat.le_refl _
    | intro _

theorem execI2cSclTimeout (h : Kept u s) {a0} : out u (@Sys2Proof.Machine.execI2cSclTimeout a0 s) := by
  dsimp only [Sys2Proof.Machine.execI2cSclTimeout]
  repeat' first
    | with_reducible assumption
    | with_reducible apply i2cEnd
    | with_reducible apply setI2c
    | with_reducible apply foldl
    | with_reducible apply forRange
    | with_reducible apply out_next
    | with_reducible rfl
    | with_reducible exact id
    | with_reducible exact Nat.le_refl _
    | split
    | dsimp only
    | with_reducible apply upd
    | exact trivial
    | rfl
    | exact id
    | exact Nat.le_refl _
    | intro _

theorem execI2cSdaStuckTimeout (h : Kept u s) {a0 a1} : out u (@Sys2Proof.Machine.execI2cSdaStuckTimeout a0 a1 s) := by
  dsimp only [Sys2Proof.Machine.execI2cSdaStuckTimeout]
  repeat' first
    | with_reducible assumption
    | with_reducible apply i2cBusClear
    | with_reducible apply foldl
    | with_reducible apply forRange
    | with_reducible apply out_next
    | with_reducible rfl
    | with_reducible exact id
    | with_reducible exact Nat.le_refl _
    | split
    | dsimp only
    | with_reducible apply upd
    | exact trivial
    | rfl
    | exact id
    | exact Nat.le_refl _
    | intro _

theorem i2cDisturb (h : Kept u s) {a1 a2} : Kept u (@Sys2Proof.Machine.State.i2cDisturb s a1 a2) := by
  dsimp only [Sys2Proof.Machine.State.i2cDisturb]
  repeat' first
    | with_reducible assumption
    | with_reducible apply i2cLoss
    | with_reducible apply setI2c
    | with_reducible apply foldl
    | with_reducible apply forRange
    | with_reducible rfl
    | with_reducible exact id
    | with_reducible exact Nat.le_refl _
    | split
    | dsimp only
    | with_reducible apply upd
    | exact trivial
    | rfl
    | exact id
    | exact Nat.le_refl _
    | intro _

theorem i2cTargetEnd (h : Kept u s) {a1 a2 a3} : Kept u (@Sys2Proof.Machine.State.i2cTargetEnd s a1 a2 a3) := by
  dsimp only [Sys2Proof.Machine.State.i2cTargetEnd]
  repeat' first
    | with_reducible assumption
    | with_reducible apply event
    | with_reducible apply setI2c
    | with_reducible apply foldl
    | with_reducible apply forRange
    | with_reducible rfl
    | with_reducible exact id
    | with_reducible exact Nat.le_refl _
    | split
    | dsimp only
    | with_reducible apply upd
    | exact trivial
    | rfl
    | exact id
    | exact Nat.le_refl _
    | intro _

theorem execI2cStopSeen (h : Kept u s) {a0 a1 a2 a3} : out u (@Sys2Proof.Machine.execI2cStopSeen a0 a1 a2 a3 s) := by
  dsimp only [Sys2Proof.Machine.execI2cStopSeen]
  repeat' first
    | with_reducible assumption
    | with_reducible apply busBusy
    | with_reducible apply i2cTargetEnd
    | with_reducible apply i2cDisturb
    | with_reducible apply i2cBegin
    | with_reducible apply i2cEnd
    | with_reducible apply foldl
    | with_reducible apply forRange
    | with_reducible apply out_next
    | with_reducible rfl
    | with_reducible exact id
    | with_reducible exact Nat.le_refl _
    | split
    | dsimp only
    | with_reducible apply upd
    | exact trivial
    | rfl
    | exact id
    | exact Nat.le_refl _
    | intro _

theorem execI2cStartSeen (h : Kept u s) {a0 a1 a2} : out u (@Sys2Proof.Machine.execI2cStartSeen a0 a1 a2 s) := by
  dsimp only [Sys2Proof.Machine.execI2cStartSeen]
  repeat' first
    | with_reducible assumption
    | with_reducible apply busBusy
    | with_reducible apply i2cDisturb
    | with_reducible apply setI2c
    | with_reducible apply foldl
    | with_reducible apply forRange
    | with_reducible apply out_next
    | with_reducible rfl
    | with_reducible exact id
    | with_reducible exact Nat.le_refl _
    | split
    | dsimp only
    | with_reducible apply upd
    | exact trivial
    | rfl
    | exact id
    | exact Nat.le_refl _
    | intro _

theorem execI2cTransferDone (h : Kept u s) {a0 a1 a2} : out u (@Sys2Proof.Machine.execI2cTransferDone a0 a1 a2 s) := by
  dsimp only [Sys2Proof.Machine.execI2cTransferDone]
  repeat' first
    | with_reducible assumption
    | with_reducible apply setI2c
    | with_reducible apply busBusy
    | with_reducible apply i2cEnd
    | with_reducible apply wrF
    | with_reducible apply foldl
    | with_reducible apply forRange
    | with_reducible apply out_next
    | with_reducible rfl
    | with_reducible exact id
    | with_reducible exact Nat.le_refl _
    | split
    | dsimp only
    | with_reducible apply upd
    | exact trivial
    | rfl
    | exact id
    | exact Nat.le_refl _
    | intro _

theorem i2cPush (h : Kept u s) {a1 a2} : Kept u (@Sys2Proof.Machine.State.i2cPush s a1 a2) := by
  dsimp only [Sys2Proof.Machine.State.i2cPush]
  repeat' first
    | with_reducible assumption
    | with_reducible apply setI2c
    | with_reducible apply foldl
    | with_reducible apply forRange
    | with_reducible rfl
    | with_reducible exact id
    | with_reducible exact Nat.le_refl _
    | split
    | dsimp only
    | with_reducible apply upd
    | exact trivial
    | rfl
    | exact id
    | exact Nat.le_refl _
    | intro _

theorem i2cPop (h : Kept u s) {a1} : Kept u (@Sys2Proof.Machine.State.i2cPop s a1).2 := by
  dsimp only [Sys2Proof.Machine.State.i2cPop]
  repeat' first
    | with_reducible assumption
    | with_reducible apply setI2c
    | with_reducible apply takeFreeBytes
    | with_reducible apply foldl
    | with_reducible apply forRange
    | (with_reducible apply snd_of; with_reducible assumption)
    | with_reducible rfl
    | with_reducible exact id
    | with_reducible exact Nat.le_refl _
    | split
    | dsimp only
    | with_reducible apply upd
    | exact trivial
    | rfl
    | exact id
    | exact Nat.le_refl _
    | intro _

theorem portAct (h : Kept u s) {a1} : Kept u (@Sys2Proof.Machine.State.portAct s a1) := by
  dsimp only [Sys2Proof.Machine.State.portAct]
  repeat' first
    | with_reducible assumption
    | with_reducible apply setB
    | with_reducible apply foldl
    | with_reducible apply forRange
    | with_reducible rfl
    | with_reducible exact id
    | with_reducible exact Nat.le_refl _
    | split
    | dsimp only
    | with_reducible apply upd
    | exact trivial
    | rfl
    | exact id
    | exact Nat.le_refl _
    | intro _

theorem portsAct (h : Kept u s) : Kept u (@Sys2Proof.Machine.State.portsAct s) := by
  dsimp only [Sys2Proof.Machine.State.portsAct]
  repeat' first
    | with_reducible assumption
    | with_reducible apply portAct
    | with_reducible apply wr
    | with_reducible apply foldl
    | with_reducible apply forRange
    | with_reducible rfl
    | with_reducible exact id
    | with_reducible exact Nat.le_refl _
    | split
    | dsimp only
    | with_reducible apply upd
    | exact trivial
    | rfl
    | exact id
    | exact Nat.le_refl _
    | intro _

theorem setOut (h : Kept u s) {a1 a2} : Kept u (@Sys2Proof.Machine.State.setOut s a1 a2) := by
  dsimp only [Sys2Proof.Machine.State.setOut]
  repeat' first
    | with_reducible assumption
    | with_reducible apply portsAct
    | with_reducible apply wr
    | with_reducible apply foldl
    | with_reducible apply forRange
    | with_reducible rfl
    | with_reducible exact id
    | with_reducible exact Nat.le_refl _
    | split
    | dsimp only
    | with_reducible apply upd
    | exact trivial
    | rfl
    | exact id
    | exact Nat.le_refl _
    | intro _

theorem execGpioSet (h : Kept u s) {a0 a1} : out u (@Sys2Proof.Machine.execGpioSet a0 a1 s) := by
  dsimp only [Sys2Proof.Machine.execGpioSet]
  repeat' first
    | with_reducible assumption
    | with_reducible apply setOut
    | with_reducible apply foldl
    | with_reducible apply forRange
    | with_reducible apply out_next
    | with_reducible rfl
    | with_reducible exact id
    | with_reducible exact Nat.le_refl _
    | split
    | dsimp only
    | with_reducible apply upd
    | exact trivial
    | rfl
    | exact id
    | exact Nat.le_refl _
    | intro _

theorem execGpioClr (h : Kept u s) {a0 a1} : out u (@Sys2Proof.Machine.execGpioClr a0 a1 s) := by
  dsimp only [Sys2Proof.Machine.execGpioClr]
  repeat' first
    | with_reducible assumption
    | with_reducible apply setOut
    | with_reducible apply foldl
    | with_reducible apply forRange
    | with_reducible apply out_next
    | with_reducible rfl
    | with_reducible exact id
    | with_reducible exact Nat.le_refl _
    | split
    | dsimp only
    | with_reducible apply upd
    | exact trivial
    | rfl
    | exact id
    | exact Nat.le_refl _
    | intro _

theorem execGpioTgl (h : Kept u s) {a0 a1} : out u (@Sys2Proof.Machine.execGpioTgl a0 a1 s) := by
  dsimp only [Sys2Proof.Machine.execGpioTgl]
  repeat' first
    | with_reducible assumption
    | with_reducible apply setOut
    | with_reducible apply foldl
    | with_reducible apply forRange
    | with_reducible apply out_next
    | with_reducible rfl
    | with_reducible exact id
    | with_reducible exact Nat.le_refl _
    | split
    | dsimp only
    | with_reducible apply upd
    | exact trivial
    | rfl
    | exact id
    | exact Nat.le_refl _
    | intro _

theorem execGpioTaskPort (h : Kept u s) {a0} : out u (@Sys2Proof.Machine.execGpioTaskPort a0 s) := by
  dsimp only [Sys2Proof.Machine.execGpioTaskPort]
  repeat' first
    | with_reducible assumption
    | with_reducible apply portsAct
    | with_reducible apply setB
    | with_reducible apply foldl
    | with_reducible apply forRange
    | with_reducible apply out_next
    | with_reducible rfl
    | with_reducible exact id
    | with_reducible exact Nat.le_refl _
    | split
    | dsimp only
    | with_reducible apply upd
    | exact trivial
    | rfl
    | exact id
    | exact Nat.le_refl _
    | intro _

theorem drivePin (h : Kept u s) {a1 a2} : Kept u (@Sys2Proof.Machine.State.drivePin s a1 a2) := by
  dsimp only [Sys2Proof.Machine.State.drivePin]
  repeat' first
    | with_reducible assumption
    | with_reducible apply foldl
    | with_reducible apply forRange
    | with_reducible rfl
    | with_reducible exact id
    | with_reducible exact Nat.le_refl _
    | split
    | dsimp only
    | with_reducible apply upd
    | exact trivial
    | rfl
    | exact id
    | exact Nat.le_refl _
    | intro _

theorem execGpioEdge (h : Kept u s) {a0 a1} : out u (@Sys2Proof.Machine.execGpioEdge a0 a1 s) := by
  dsimp only [Sys2Proof.Machine.execGpioEdge]
  repeat' first
    | with_reducible assumption
    | with_reducible apply takeFree
    | with_reducible apply drivePin
    | with_reducible apply padWake
    | with_reducible apply samplePin
    | with_reducible apply foldl
    | with_reducible apply forRange
    | with_reducible apply out_next
    | (with_reducible apply snd_of; with_reducible assumption)
    | with_reducible rfl
    | with_reducible exact id
    | with_reducible exact Nat.le_refl _
    | split
    | dsimp only
    | with_reducible apply upd
    | exact trivial
    | rfl
    | exact id
    | exact Nat.le_refl _
    | intro _

theorem setAdc (h : Kept u s) {a1 a2} : Kept u (@Sys2Proof.Machine.State.setAdc s a1 a2) := by
  dsimp only [Sys2Proof.Machine.State.setAdc]
  repeat' first
    | with_reducible assumption
    | with_reducible apply setB
    | with_reducible apply foldl
    | with_reducible apply forRange
    | with_reducible rfl
    | with_reducible exact id
    | with_reducible exact Nat.le_refl _
    | split
    | dsimp only
    | with_reducible apply upd
    | exact trivial
    | rfl
    | exact id
    | exact Nat.le_refl _
    | intro _

theorem adcBegin (h : Kept u s) {a1} : Kept u (@Sys2Proof.Machine.State.adcBegin s a1) := by
  dsimp only [Sys2Proof.Machine.State.adcBegin]
  repeat' first
    | with_reducible assumption
    | with_reducible apply setAdc
    | with_reducible apply satAdd
    | with_reducible apply foldl
    | with_reducible apply forRange
    | with_reducible rfl
    | with_reducible exact id
    | with_reducible exact Nat.le_refl _
    | split
    | dsimp only
    | with_reducible apply upd
    | exact trivial
    | rfl
    | exact id
    | exact Nat.le_refl _
    | intro _

theorem adcNext (h : Kept u s) : Kept u (@Sys2Proof.Machine.State.adcNext s) := by
  dsimp only [Sys2Proof.Machine.State.adcNext]
  repeat' first
    | with_reducible assumption
    | with_reducible apply setAdc
    | with_reducible apply foldl
    | with_reducible apply forRange
    | with_reducible rfl
    | with_reducible exact id
    | with_reducible exact Nat.le_refl _
    | split
    | dsimp only
    | with_reducible apply upd
    | exact trivial
    | rfl
    | exact id
    | exact Nat.le_refl _
    | intro _

theorem execAdcStart (h : Kept u s) : out u (@Sys2Proof.Machine.execAdcStart s) := by
  dsimp only [Sys2Proof.Machine.execAdcStart]
  repeat' first
    | with_reducible assumption
    | with_reducible apply adcBegin
    | with_reducible apply foldl
    | with_reducible apply forRange
    | with_reducible apply out_next
    | with_reducible rfl
    | with_reducible exact id
    | with_reducible exact Nat.le_refl _
    | split
    | dsimp only
    | with_reducible apply upd
    | exact trivial
    | rfl
    | exact id
    | exact Nat.le_refl _
    | intro _

theorem execAdcSeq (h : Kept u s) : out u (@Sys2Proof.Machine.execAdcSeq s) := by
  dsimp only [Sys2Proof.Machine.execAdcSeq]
  repeat' first
    | with_reducible assumption
    | with_reducible apply adcBegin
    | with_reducible apply foldl
    | with_reducible apply forRange
    | with_reducible apply out_next
    | with_reducible rfl
    | with_reducible exact id
    | with_reducible exact Nat.le_refl _
    | split
    | dsimp only
    | with_reducible apply upd
    | exact trivial
    | rfl
    | exact id
    | exact Nat.le_refl _
    | intro _

theorem execAdcStop (h : Kept u s) : out u (@Sys2Proof.Machine.execAdcStop s) := by
  dsimp only [Sys2Proof.Machine.execAdcStop]
  repeat' first
    | with_reducible assumption
    | with_reducible apply adcNext
    | with_reducible apply foldl
    | with_reducible apply forRange
    | with_reducible apply out_next
    | with_reducible rfl
    | with_reducible exact id
    | with_reducible exact Nat.le_refl _
    | split
    | dsimp only
    | with_reducible apply upd
    | exact trivial
    | rfl
    | exact id
    | exact Nat.le_refl _
    | intro _

theorem adcTemp (h : Kept u s) : Kept u (@Sys2Proof.Machine.State.adcTemp s) := by
  dsimp only [Sys2Proof.Machine.State.adcTemp]
  repeat' first
    | with_reducible assumption
    | with_reducible apply takeFree
    | with_reducible apply wrF
    | with_reducible apply foldl
    | with_reducible apply forRange
    | (with_reducible apply snd_of; with_reducible assumption)
    | with_reducible rfl
    | with_reducible exact id
    | with_reducible exact Nat.le_refl _
    | split
    | dsimp only
    | with_reducible apply upd
    | exact trivial
    | rfl
    | exact id
    | exact Nat.le_refl _
    | intro _

theorem execAdcConversionDone (h : Kept u s) {a0} : out u (@Sys2Proof.Machine.execAdcConversionDone a0 s) := by
  dsimp only [Sys2Proof.Machine.execAdcConversionDone]
  repeat' first
    | with_reducible assumption
    | with_reducible apply event
    | with_reducible apply wr
    | with_reducible apply adcTemp
    | with_reducible apply eventIf
    | with_reducible apply setAdc
    | with_reducible apply adcNext
    | with_reducible apply foldl
    | with_reducible apply forRange
    | with_reducible apply out_next
    | with_reducible rfl
    | with_reducible exact id
    | with_reducible exact Nat.le_refl _
    | split
    | dsimp only
    | with_reducible apply upd
    | exact trivial
    | rfl
    | exact id
    | exact Nat.le_refl _
    | intro _

theorem hifErr (h : Kept u s) {a1} : Kept u (@Sys2Proof.Machine.State.hifErr s a1) := by
  dsimp only [Sys2Proof.Machine.State.hifErr]
  repeat' first
    | with_reducible assumption
    | with_reducible apply satAdd
    | with_reducible apply foldl
    | with_reducible apply forRange
    | with_reducible rfl
    | with_reducible exact id
    | with_reducible exact Nat.le_refl _
    | split
    | dsimp only
    | with_reducible apply upd
    | exact trivial
    | rfl
    | exact id
    | exact Nat.le_refl _
    | intro _

theorem hifErrEvent (h : Kept u s) : Kept u (@Sys2Proof.Machine.State.hifErrEvent s) := by
  dsimp only [Sys2Proof.Machine.State.hifErrEvent]
  repeat' first
    | with_reducible assumption
    | with_reducible apply event
    | with_reducible apply setB
    | with_reducible apply foldl
    | with_reducible apply forRange
    | with_reducible rfl
    | with_reducible exact id
    | with_reducible exact Nat.le_refl _
    | split
    | dsimp only
    | with_reducible apply upd
    | exact trivial
    | rfl
    | exact id
    | exact Nat.le_refl _
    | intro _

theorem doorbellIn (h : Kept u s) {a1 a2} : Kept u (@Sys2Proof.Machine.State.doorbellIn s a1 a2) := by
  dsimp only [Sys2Proof.Machine.State.doorbellIn]
  repeat' first
    | with_reducible assumption
    | with_reducible apply event
    | with_reducible apply wr
    | with_reducible apply foldl
    | with_reducible apply forRange
    | with_reducible rfl
    | with_reducible exact id
    | with_reducible exact Nat.le_refl _
    | split
    | dsimp only
    | with_reducible apply upd
    | exact trivial
    | rfl
    | exact id
    | exact Nat.le_refl _
    | intro _

theorem execHifDbInWrite (h : Kept u s) {a0 a1} : out u (@Sys2Proof.Machine.execHifDbInWrite a0 a1 s) := by
  dsimp only [Sys2Proof.Machine.execHifDbInWrite]
  repeat' first
    | with_reducible assumption
    | with_reducible apply doorbellIn
    | with_reducible apply foldl
    | with_reducible apply forRange
    | with_reducible apply out_next
    | with_reducible rfl
    | with_reducible exact id
    | with_reducible exact Nat.le_refl _
    | split
    | dsimp only
    | with_reducible apply upd
    | exact trivial
    | rfl
    | exact id
    | exact Nat.le_refl _
    | intro _

theorem doorbellOut (h : Kept u s) {a1 a2} : Kept u (@Sys2Proof.Machine.State.doorbellOut s a1 a2) := by
  dsimp only [Sys2Proof.Machine.State.doorbellOut]
  repeat' first
    | with_reducible assumption
    | with_reducible apply setB
    | with_reducible apply wr
    | with_reducible apply foldl
    | with_reducible apply forRange
    | with_reducible rfl
    | with_reducible exact id
    | with_reducible exact Nat.le_refl _
    | split
    | dsimp only
    | with_reducible apply upd
    | exact trivial
    | rfl
    | exact id
    | exact Nat.le_refl _
    | intro _

theorem execHifDbOutWrite (h : Kept u s) {a0 a1} : out u (@Sys2Proof.Machine.execHifDbOutWrite a0 a1 s) := by
  dsimp only [Sys2Proof.Machine.execHifDbOutWrite]
  repeat' first
    | with_reducible assumption
    | with_reducible apply answerError
    | with_reducible apply doorbellOut
    | with_reducible apply foldl
    | with_reducible apply forRange
    | with_reducible apply out_next
    | with_reducible rfl
    | with_reducible exact id
    | with_reducible exact Nat.le_refl _
    | split
    | dsimp only
    | with_reducible apply upd
    | exact trivial
    | rfl
    | exact id
    | exact Nat.le_refl _
    | intro _

theorem rxDone (h : Kept u s) {a1} : Kept u (@Sys2Proof.Machine.State.rxDone s a1) := by
  dsimp only [Sys2Proof.Machine.State.rxDone]
  repeat' first
    | with_reducible assumption
    | with_reducible apply setB
    | with_reducible apply foldl
    | with_reducible apply forRange
    | with_reducible rfl
    | with_reducible exact id
    | with_reducible exact Nat.le_refl _
    | split
    | dsimp only
    | with_reducible apply upd
    | exact trivial
    | rfl
    | exact id
    | exact Nat.le_refl _
    | intro _

theorem execHif1Rxdone (h : Kept u s) {a0} : out u (@Sys2Proof.Machine.execHif1Rxdone a0 s) := by
  dsimp only [Sys2Proof.Machine.execHif1Rxdone]
  repeat' first
    | with_reducible assumption
    | with_reducible apply rxDone
    | with_reducible apply foldl
    | with_reducible apply forRange
    | with_reducible apply out_next
    | with_reducible rfl
    | with_reducible exact id
    | with_reducible exact Nat.le_refl _
    | split
    | dsimp only
    | with_reducible apply upd
    | exact trivial
    | rfl
    | exact id
    | exact Nat.le_refl _
    | intro _

theorem hifSend (h : Kept u s) {a1} : Kept u (@Sys2Proof.Machine.State.hifSend s a1) := by
  dsimp only [Sys2Proof.Machine.State.hifSend]
  repeat' first
    | with_reducible assumption
    | with_reducible apply foldl
    | with_reducible apply forRange
    | with_reducible rfl
    | with_reducible exact id
    | with_reducible exact Nat.le_refl _
    | split
    | dsimp only
    | with_reducible apply upd
    | exact trivial
    | rfl
    | exact id
    | exact Nat.le_refl _
    | intro _

theorem txCtrl (h : Kept u s) {a1} : Kept u (@Sys2Proof.Machine.State.txCtrl s a1) := by
  dsimp only [Sys2Proof.Machine.State.txCtrl]
  repeat' first
    | with_reducible assumption
    | with_reducible apply hifErr
    | with_reducible apply setB
    | with_reducible apply hifSend
    | with_reducible apply foldl
    | with_reducible apply forRange
    | with_reducible rfl
    | with_reducible exact id
    | with_reducible exact Nat.le_refl _
    | split
    | dsimp only
    | with_reducible apply upd
    | exact trivial
    | rfl
    | exact id
    | exact Nat.le_refl _
    | intro _

theorem execHif1Txctrl (h : Kept u s) {a0} : out u (@Sys2Proof.Machine.execHif1Txctrl a0 s) := by
  dsimp only [Sys2Proof.Machine.execHif1Txctrl]
  repeat' first
    | with_reducible assumption
    | with_reducible apply txCtrl
    | with_reducible apply foldl
    | with_reducible apply forRange
    | with_reducible apply out_next
    | with_reducible rfl
    | with_reducible exact id
    | with_reducible exact Nat.le_refl _
    | split
    | dsimp only
    | with_reducible apply upd
    | exact trivial
    | rfl
    | exact id
    | exact Nat.le_refl _
    | intro _

theorem execHif1TxDone (h : Kept u s) : out u (@Sys2Proof.Machine.execHif1TxDone s) := by
  dsimp only [Sys2Proof.Machine.execHif1TxDone]
  repeat' first
    | with_reducible assumption
    | with_reducible apply event
    | with_reducible apply setB
    | with_reducible apply foldl
    | with_reducible apply forRange
    | with_reducible apply out_next
    | with_reducible rfl
    | with_reducible exact id
    | with_reducible exact Nat.le_refl _
    | split
    | dsimp only
    | with_reducible apply upd
    | exact trivial
    | rfl
    | exact id
    | exact Nat.le_refl _
    | intro _

theorem sqTail (h : Kept u s) {a1 a2} : Kept u (@Sys2Proof.Machine.State.sqTail s a1 a2) := by
  dsimp only [Sys2Proof.Machine.State.sqTail]
  repeat' first
    | with_reducible assumption
    | with_reducible apply hifErr
    | with_reducible apply wrF
    | with_reducible apply foldl
    | with_reducible apply forRange
    | with_reducible rfl
    | with_reducible exact id
    | with_reducible exact Nat.le_refl _
    | split
    | dsimp only
    | with_reducible apply upd
    | exact trivial
    | rfl
    | exact id
    | exact Nat.le_refl _
    | intro _

theorem execRingSqTailWrite (h : Kept u s) {a0 a1} : out u (@Sys2Proof.Machine.execRingSqTailWrite a0 a1 s) := by
  dsimp only [Sys2Proof.Machine.execRingSqTailWrite]
  repeat' first
    | with_reducible assumption
    | with_reducible apply absentSlip
    | with_reducible apply answer
    | with_reducible apply sqTail
    | with_reducible apply foldl
    | with_reducible apply forRange
    | with_reducible apply out_next
    | with_reducible rfl
    | with_reducible exact id
    | with_reducible exact Nat.le_refl _
    | split
    | dsimp only
    | with_reducible apply upd
    | exact trivial
    | rfl
    | exact id
    | exact Nat.le_refl _
    | intro _

theorem ringCfg (h : Kept u s) {a1 a2} : Kept u (@Sys2Proof.Machine.State.ringCfg s a1 a2) := by
  dsimp only [Sys2Proof.Machine.State.ringCfg]
  repeat' first
    | with_reducible assumption
    | with_reducible apply setB
    | with_reducible apply wr
    | with_reducible apply foldl
    | with_reducible apply forRange
    | with_reducible rfl
    | with_reducible exact id
    | with_reducible exact Nat.le_refl _
    | split
    | dsimp only
    | with_reducible apply upd
    | exact trivial
    | rfl
    | exact id
    | exact Nat.le_refl _
    | intro _

theorem clearRc (h : Kept u s) {a1 a2} : Kept u (@Sys2Proof.Machine.State.clearRc s a1 a2) := by
  dsimp only [Sys2Proof.Machine.State.clearRc]
  repeat' first
    | with_reducible assumption
    | with_reducible apply wr
    | with_reducible apply foldl
    | with_reducible apply forRange
    | with_reducible rfl
    | with_reducible exact id
    | with_reducible exact Nat.le_refl _
    | split
    | dsimp only
    | with_reducible apply upd
    | exact trivial
    | rfl
    | exact id
    | exact Nat.le_refl _
    | intro _

theorem coreRead (h : Kept u s) {a1 a2} : Kept u (@Sys2Proof.Machine.State.coreRead s a1 a2).2 := by
  dsimp only [Sys2Proof.Machine.State.coreRead]
  repeat' first
    | with_reducible assumption
    | with_reducible apply readClaim
    | with_reducible apply readTraceSlip
    | with_reducible apply spiPop
    | with_reducible apply i2cPop
    | with_reducible apply uartPop
    | with_reducible apply setB
    | with_reducible apply takeFree
    | with_reducible apply clearRc
    | with_reducible apply foldl
    | with_reducible apply forRange
    | (with_reducible apply snd_of; with_reducible assumption)
    | with_reducible rfl
    | with_reducible exact id
    | with_reducible exact Nat.le_refl _
    | split
    | dsimp only
    | with_reducible apply upd
    | exact trivial
    | rfl
    | exact id
    | exact Nat.le_refl _
    | intro _

theorem farRead (h : Kept u s) {a1 a2} : Kept u (@Sys2Proof.Machine.State.farRead s a1 a2).2 := by
  dsimp only [Sys2Proof.Machine.State.farRead]
  repeat' first
    | with_reducible assumption
    | with_reducible apply clearRc
    | with_reducible apply foldl
    | with_reducible apply forRange
    | with_reducible rfl
    | with_reducible exact id
    | with_reducible exact Nat.le_refl _
    | split
    | dsimp only
    | with_reducible apply upd
    | exact trivial
    | rfl
    | exact id
    | exact Nat.le_refl _
    | intro _

theorem queueRead (h : Kept u s) {a1} : Kept u (@Sys2Proof.Machine.State.queueRead s a1).2 := by
  dsimp only [Sys2Proof.Machine.State.queueRead]
  repeat' first
    | with_reducible assumption
    | with_reducible apply takeFree
    | with_reducible apply foldl
    | with_reducible apply forRange
    | (with_reducible apply snd_of; with_reducible assumption)
    | with_reducible rfl
    | with_reducible exact id
    | with_reducible exact Nat.le_refl _
    | split
    | dsimp only
    | with_reducible apply upd
    | exact trivial
    | rfl
    | exact id
    | exact Nat.le_refl _
    | intro _

theorem poolRead (h : Kept u s) {a1} : Kept u (@Sys2Proof.Machine.State.poolRead s a1).2 := by
  dsimp only [Sys2Proof.Machine.State.poolRead]
  repeat' first
    | with_reducible assumption
    | with_reducible apply takeFree
    | with_reducible apply foldl
    | with_reducible apply forRange
    | (with_reducible apply snd_of; with_reducible assumption)
    | with_reducible rfl
    | with_reducible exact id
    | with_reducible exact Nat.le_refl _
    | split
    | dsimp only
    | (with_reducible apply snd_self; with_reducible assumption)
    | with_reducible apply upd
    | exact trivial
    | rfl
    | exact id
    | exact Nat.le_refl _
    | intro _

theorem eraseTarget (h : Kept u s) {a1} : Kept u (@Sys2Proof.Machine.State.eraseTarget s a1) := by
  dsimp only [Sys2Proof.Machine.State.eraseTarget]
  repeat' first
    | with_reducible assumption
    | with_reducible apply forRange
    | with_reducible apply eraseFlash
    | with_reducible apply foldl
    | with_reducible apply forRange
    | with_reducible rfl
    | with_reducible exact id
    | with_reducible exact Nat.le_refl _
    | split
    | dsimp only
    | with_reducible apply upd
    | exact trivial
    | rfl
    | exact id
    | exact Nat.le_refl _
    | intro _

theorem spoilTarget (h : Kept u s) {a1} : Kept u (@Sys2Proof.Machine.State.spoilTarget s a1) := by
  dsimp only [Sys2Proof.Machine.State.spoilTarget]
  repeat' first
    | with_reducible assumption
    | with_reducible apply spoil
    | with_reducible apply foldl
    | with_reducible apply forRange
    | with_reducible rfl
    | with_reducible exact id
    | with_reducible exact Nat.le_refl _
    | split
    | dsimp only
    | with_reducible apply upd
    | exact trivial
    | rfl
    | exact id
    | exact Nat.le_refl _
    | intro _

theorem progWord (h : Kept u s) {a1 a2} : Kept u (@Sys2Proof.Machine.State.progWord s a1 a2) := by
  dsimp only [Sys2Proof.Machine.State.progWord]
  repeat' first
    | with_reducible assumption
    | with_reducible apply setFlash
    | with_reducible apply foldl
    | with_reducible apply forRange
    | with_reducible rfl
    | with_reducible exact id
    | with_reducible exact Nat.le_refl _
    | split
    | dsimp only
    | with_reducible apply upd
    | exact trivial
    | rfl
    | exact id
    | exact Nat.le_refl _
    | intro _

theorem progRun (h : Kept u s) {a1 a2} : Kept u (@Sys2Proof.Machine.State.progRun s a1 a2) := by
  dsimp only [Sys2Proof.Machine.State.progRun]
  repeat' first
    | with_reducible assumption
    | with_reducible apply forRange
    | with_reducible apply progWord
    | with_reducible apply foldl
    | with_reducible apply forRange
    | with_reducible rfl
    | with_reducible exact id
    | with_reducible exact Nat.le_refl _
    | split
    | dsimp only
    | with_reducible apply upd
    | exact trivial
    | rfl
    | exact id
    | exact Nat.le_refl _
    | intro _

theorem annexAccept (h : Kept u s) {a1} : Kept u (@Sys2Proof.Machine.State.annexAccept s a1) := by
  dsimp only [Sys2Proof.Machine.State.annexAccept]
  repeat' first
    | with_reducible assumption
    | with_reducible apply setActive
    | with_reducible apply setErrCount
    | with_reducible apply writeMirror
    | with_reducible apply setB
    | with_reducible apply wrF
    | with_reducible apply foldl
    | with_reducible apply forRange
    | with_reducible rfl
    | with_reducible exact id
    | with_reducible exact Nat.le_refl _
    | split
    | dsimp only
    | with_reducible apply upd
    | exact trivial
    | rfl
    | exact id
    | exact Nat.le_refl _
    | intro _

theorem annexReply (h : Kept u s) {a1 a2 a3} : Kept u (@Sys2Proof.Machine.State.annexReply s a1 a2 a3) := by
  dsimp only [Sys2Proof.Machine.State.annexReply]
  repeat' first
    | with_reducible assumption
    | with_reducible apply hifSend
    | with_reducible apply foldl
    | with_reducible apply forRange
    | with_reducible rfl
    | with_reducible exact id
    | with_reducible exact Nat.le_refl _
    | split
    | dsimp only
    | with_reducible apply upd
    | exact trivial
    | rfl
    | exact id
    | exact Nat.le_refl _
    | intro _

theorem annexFrame (h : Kept u s) {a1 a2 a3} (hf : ∀ f, Kept u (a3 f)) : Kept u (@Sys2Proof.Machine.State.annexFrame s a1 a2 a3) := by
  dsimp only [Sys2Proof.Machine.State.annexFrame]
  repeat' first
    | with_reducible assumption
    | with_reducible apply hf
    | with_reducible apply annexReply
    | with_reducible apply foldl
    | with_reducible apply forRange
    | with_reducible rfl
    | with_reducible exact id
    | with_reducible exact Nat.le_refl _
    | split
    | dsimp only
    | with_reducible apply upd
    | exact trivial
    | rfl
    | exact id
    | exact Nat.le_refl _
    | intro _

theorem execAnnexHello (h : Kept u s) {a0} : out u (@Sys2Proof.Machine.execAnnexHello a0 s) := by
  dsimp only [Sys2Proof.Machine.execAnnexHello]
  repeat' first
    | with_reducible assumption
    | with_reducible apply annexFrame
    | with_reducible apply annexReply
    | with_reducible apply foldl
    | with_reducible apply forRange
    | with_reducible apply out_next
    | with_reducible rfl
    | with_reducible exact id
    | with_reducible exact Nat.le_refl _
    | split
    | dsimp only
    | with_reducible apply upd
    | exact trivial
    | rfl
    | exact id
    | exact Nat.le_refl _
    | intro _

theorem setWrite (h : Kept u s) {a1} : Kept u (@Sys2Proof.Machine.State.setWrite s a1) := by
  dsimp only [Sys2Proof.Machine.State.setWrite]
  repeat' first
    | with_reducible assumption
    | with_reducible apply foldl
    | with_reducible apply forRange
    | with_reducible rfl
    | with_reducible exact id
    | with_reducible exact Nat.le_refl _
    | split
    | dsimp only
    | with_reducible apply upd
    | exact trivial
    | rfl
    | exact id
    | exact Nat.le_refl _
    | intro _

theorem execAnnexBegin (h : Kept u s) {a0} : out u (@Sys2Proof.Machine.execAnnexBegin a0 s) := by
  dsimp only [Sys2Proof.Machine.execAnnexBegin]
  repeat' first
    | with_reducible assumption
    | with_reducible apply annexFrame
    | with_reducible apply annexReply
    | with_reducible apply setWrite
    | with_reducible apply foldl
    | with_reducible apply forRange
    | with_reducible apply out_next
    | with_reducible rfl
    | with_reducible exact id
    | with_reducible exact Nat.le_refl _
    | split
    | dsimp only
    | with_reducible apply upd
    | exact trivial
    | rfl
    | exact id
    | exact Nat.le_refl _
    | intro _

theorem execAnnexBeginErased (h : Kept u s) {a0} : out u (@Sys2Proof.Machine.execAnnexBeginErased a0 s) := by
  dsimp only [Sys2Proof.Machine.execAnnexBeginErased]
  repeat' first
    | with_reducible assumption
    | with_reducible apply spoilTarget
    | with_reducible apply annexReply
    | with_reducible apply setWrite
    | with_reducible apply eraseTarget
    | with_reducible apply foldl
    | with_reducible apply forRange
    | with_reducible apply out_next
    | with_reducible rfl
    | with_reducible exact id
    | with_reducible exact Nat.le_refl _
    | split
    | dsimp only
    | with_reducible apply upd
    | exact trivial
    | rfl
    | exact id
    | exact Nat.le_refl _
    | intro _

theorem execAnnexData (h : Kept u s) {a0 a1} : out u (@Sys2Proof.Machine.execAnnexData a0 a1 s) := by
  dsimp only [Sys2Proof.Machine.execAnnexData]
  repeat' first
    | with_reducible assumption
    | with_reducible apply annexFrame
    | with_reducible apply annexReply
    | with_reducible apply progRun
    | with_reducible apply foldl
    | with_reducible apply forRange
    | with_reducible apply out_next
    | with_reducible rfl
    | with_reducible exact id
    | with_reducible exact Nat.le_refl _
    | split
    | dsimp only
    | with_reducible apply upd
    | exact trivial
    | rfl
    | exact id
    | exact Nat.le_refl _
    | intro _

theorem execAnnexEnd (h : Kept u s) {a1 a2} : out u (@Sys2Proof.Machine.execAnnexEnd a1 a2 s) := by
  dsimp only [Sys2Proof.Machine.execAnnexEnd]
  repeat' first
    | with_reducible assumption
    | with_reducible apply annexFrame
    | with_reducible apply annexReply
    | with_reducible apply annexAccept
    | with_reducible apply setWrite
    | with_reducible apply foldl
    | with_reducible apply forRange
    | with_reducible apply out_next
    | with_reducible rfl
    | with_reducible exact id
    | with_reducible exact Nat.le_refl _
    | split
    | dsimp only
    | with_reducible apply upd
    | exact trivial
    | rfl
    | exact id
    | exact Nat.le_refl _
    | intro _

theorem dueReset (h : Kept u s) : Kept u (@Sys2Proof.Machine.State.dueReset s) := by
  dsimp only [Sys2Proof.Machine.State.dueReset]
  repeat' first
    | with_reducible assumption
    | with_reducible apply foldl
    | with_reducible apply forRange
    | with_reducible rfl
    | with_reducible exact id
    | with_reducible exact Nat.le_refl _
    | split
    | dsimp only
    | with_reducible apply upd
    | exact trivial
    | rfl
    | exact id
    | exact Nat.le_refl _
    | intro _

theorem execAnnexReset (h : Kept u s) {a0} : out u (@Sys2Proof.Machine.execAnnexReset a0 s) := by
  dsimp only [Sys2Proof.Machine.execAnnexReset]
  repeat' first
    | with_reducible assumption
    | with_reducible apply annexFrame
    | with_reducible apply dueReset
    | with_reducible apply annexReply
    | with_reducible apply foldl
    | with_reducible apply forRange
    | with_reducible apply out_next
    | with_reducible rfl
    | with_reducible exact id
    | with_reducible exact Nat.le_refl _
    | split
    | dsimp only
    | with_reducible apply upd
    | exact trivial
    | rfl
    | exact id
    | exact Nat.le_refl _
    | intro _

theorem execAnnexResetDelayExpiry (h : Kept u s) : out u (@Sys2Proof.Machine.execAnnexResetDelayExpiry s) := by
  dsimp only [Sys2Proof.Machine.execAnnexResetDelayExpiry]
  repeat' first
    | with_reducible assumption
    | with_reducible apply warmReset
    | with_reducible apply foldl
    | with_reducible apply forRange
    | with_reducible apply out_next
    | with_reducible rfl
    | with_reducible exact id
    | with_reducible exact Nat.le_refl _
    | split
    | dsimp only
    | with_reducible apply upd
    | exact trivial
    | rfl
    | exact id
    | exact Nat.le_refl _
    | intro _

theorem setRescue (h : Kept u s) {a1} : Kept u (@Sys2Proof.Machine.State.setRescue s a1) := by
  dsimp only [Sys2Proof.Machine.State.setRescue]
  repeat' first
    | with_reducible assumption
    | with_reducible apply foldl
    | with_reducible apply forRange
    | with_reducible rfl
    | with_reducible exact id
    | with_reducible exact Nat.le_refl _
    | split
    | dsimp only
    | with_reducible apply upd
    | exact trivial
    | rfl
    | exact id
    | exact Nat.le_refl _
    | intro _

theorem rescueEnd (h : Kept u s) {a1 a2} : Kept u (@Sys2Proof.Machine.State.rescueEnd s a1 a2) := by
  dsimp only [Sys2Proof.Machine.State.rescueEnd]
  repeat' first
    | with_reducible assumption
    | with_reducible apply annexAccept
    | with_reducible apply setRescue
    | with_reducible apply dueReset
    | with_reducible apply foldl
    | with_reducible apply forRange
    | with_reducible rfl
    | with_reducible exact id
    | with_reducible exact Nat.le_refl _
    | split
    | dsimp only
    | with_reducible apply upd
    | exact trivial
    | rfl
    | exact id
    | exact Nat.le_refl _
    | intro _

theorem rescueBlock (h : Kept u s) {a1 a2 a3} : Kept u (@Sys2Proof.Machine.State.rescueBlock s a1 a2 a3) := by
  dsimp only [Sys2Proof.Machine.State.rescueBlock]
  repeat' first
    | with_reducible assumption
    | with_reducible apply progRun
    | with_reducible apply rescueEnd
    | with_reducible apply setRescue
    | with_reducible apply foldl
    | with_reducible apply forRange
    | with_reducible rfl
    | with_reducible exact id
    | with_reducible exact Nat.le_refl _
    | split
    | dsimp only
    | with_reducible apply upd
    | exact trivial
    | rfl
    | exact id
    | exact Nat.le_refl _
    | intro _

theorem execRescueBlockReceived (h : Kept u s) {a1 a2} : out u (@Sys2Proof.Machine.execRescueBlockReceived a1 a2 s) := by
  dsimp only [Sys2Proof.Machine.execRescueBlockReceived]
  repeat' first
    | with_reducible assumption
    | with_reducible apply setRescue
    | with_reducible apply rescueBlock
    | with_reducible apply foldl
    | with_reducible apply forRange
    | with_reducible apply out_next
    | with_reducible rfl
    | with_reducible exact id
    | with_reducible exact Nat.le_refl _
    | split
    | dsimp only
    | with_reducible apply upd
    | exact trivial
    | rfl
    | exact id
    | exact Nat.le_refl _
    | intro _

theorem execRescueEraseDone (h : Kept u s) : out u (@Sys2Proof.Machine.execRescueEraseDone s) := by
  dsimp only [Sys2Proof.Machine.execRescueEraseDone]
  repeat' first
    | with_reducible assumption
    | with_reducible apply setRescue
    | with_reducible apply eraseTarget
    | with_reducible apply foldl
    | with_reducible apply forRange
    | with_reducible apply out_next
    | with_reducible rfl
    | with_reducible exact id
    | with_reducible exact Nat.le_refl _
    | split
    | dsimp only
    | with_reducible apply upd
    | exact trivial
    | rfl
    | exact id
    | exact Nat.le_refl _
    | intro _

theorem replayDrop (h : Kept u s) {a1} : Kept u (@Sys2Proof.Machine.State.replayDrop s a1) := by
  dsimp only [Sys2Proof.Machine.State.replayDrop]
  repeat' first
    | with_reducible assumption
    | with_reducible apply event
    | with_reducible apply wrF
    | with_reducible apply satAdd
    | with_reducible apply foldl
    | with_reducible apply forRange
    | with_reducible rfl
    | with_reducible exact id
    | with_reducible exact Nat.le_refl _
    | split
    | dsimp only
    | with_reducible apply upd
    | exact trivial
    | rfl
    | exact id
    | exact Nat.le_refl _
    | intro _

theorem checkSecured (h : Kept u s) {a1} : chk u (@Sys2Proof.Machine.State.checkSecured s a1) := by
  dsimp only [Sys2Proof.Machine.State.checkSecured]
  repeat' first
    | with_reducible assumption
    | with_reducible apply satAdd
    | with_reducible apply replayDrop
    | with_reducible apply updNbr
    | with_reducible apply foldl
    | with_reducible apply forRange
    | with_reducible apply chk_mk_accept
    | with_reducible apply chk_mk_drop
    | with_reducible rfl
    | with_reducible exact id
    | with_reducible exact Nat.le_refl _
    | split
    | dsimp only
    | with_reducible apply upd
    | exact trivial
    | rfl
    | exact id
    | exact Nat.le_refl _
    | intro _

theorem checkPlain (h : Kept u s) {a1 a2} : chk u (@Sys2Proof.Machine.State.checkPlain s a1 a2) := by
  dsimp only [Sys2Proof.Machine.State.checkPlain]
  repeat' first
    | with_reducible assumption
    | with_reducible apply updNbr
    | with_reducible apply event
    | with_reducible apply satAdd
    | with_reducible apply foldl
    | with_reducible apply forRange
    | with_reducible apply chk_mk_accept
    | with_reducible apply chk_mk_drop
    | with_reducible rfl
    | with_reducible exact id
    | with_reducible exact Nat.le_refl _
    | split
    | dsimp only
    | with_reducible apply upd
    | exact trivial
    | rfl
    | exact id
    | exact Nat.le_refl _
    | intro _

theorem noBuf (h : Kept u s) : Kept u (@Sys2Proof.Machine.State.noBuf s) := by
  dsimp only [Sys2Proof.Machine.State.noBuf]
  repeat' first
    | with_reducible assumption
    | with_reducible apply satAdd
    | with_reducible apply foldl
    | with_reducible apply forRange
    | with_reducible rfl
    | with_reducible exact id
    | with_reducible exact Nat.le_refl _
    | split
    | dsimp only
    | with_reducible apply upd
    | exact trivial
    | rfl
    | exact id
    | exact Nat.le_refl _
    | intro _

theorem enqueueBytes (h : Kept u s) {a1 a2 a3} : opt u (@Sys2Proof.Machine.State.enqueueBytes s a1 a2 a3) := by
  dsimp only [Sys2Proof.Machine.State.enqueueBytes]
  repeat' first
    | with_reducible assumption
    | with_reducible apply alloc
    | with_reducible apply fillCells
    | with_reducible apply qeNow
    | with_reducible apply foldl
    | with_reducible apply forRange
    | with_reducible apply opt_some
    | (with_reducible apply snd2_of; with_reducible assumption)
    | with_reducible rfl
    | with_reducible exact id
    | with_reducible exact Nat.le_refl _
    | split
    | dsimp only
    | with_reducible apply upd
    | exact trivial
    | rfl
    | exact id
    | exact Nat.le_refl _
    | intro _

theorem putLate (h : Kept u s) {a1 a2 a3} : Kept u (@Sys2Proof.Machine.State.putLate s a1 a2 a3) := by
  dsimp only [Sys2Proof.Machine.State.putLate]
  repeat' first
    | with_reducible assumption
    | with_reducible apply enqueueBytes
    | with_reducible apply event
    | with_reducible apply noBuf
    | with_reducible apply foldl
    | with_reducible apply forRange
    | (with_reducible apply opt_of; with_reducible assumption)
    | with_reducible rfl
    | with_reducible exact id
    | with_reducible exact Nat.le_refl _
    | split
    | dsimp only
    | with_reducible apply upd
    | exact trivial
    | rfl
    | exact id
    | exact Nat.le_refl _
    | intro _

theorem sendAck (h : Kept u s) {a1 a2 a3} : Kept u (@Sys2Proof.Machine.State.sendAck s a1 a2 a3) := by
  dsimp only [Sys2Proof.Machine.State.sendAck]
  repeat' first
    | with_reducible assumption
    | with_reducible apply chargeFrame
    | with_reducible apply sendFrame
    | with_reducible apply foldl
    | with_reducible apply forRange
    | (with_reducible apply snd_of; with_reducible assumption)
    | with_reducible rfl
    | with_reducible exact id
    | with_reducible exact Nat.le_refl _
    | split
    | dsimp only
    | with_reducible apply upd
    | exact trivial
    | rfl
    | exact id
    | exact Nat.le_refl _
    | intro _

theorem deliver (h : Kept u s) {a1 a2} : Kept u (@Sys2Proof.Machine.State.deliver s a1 a2) := by
  dsimp only [Sys2Proof.Machine.State.deliver]
  repeat' first
    | with_reducible assumption
    | with_reducible apply holdCmd
    | with_reducible apply sendAck
    | with_reducible apply enqueueBytes
    | with_reducible apply event
    | with_reducible apply noBuf
    | with_reducible apply checkSecured
    | with_reducible apply checkPlain
    | with_reducible apply foldl
    | with_reducible apply forRange
    | with_reducible apply chk_mk_accept
    | with_reducible apply chk_mk_drop
    | (with_reducible apply opt_of; with_reducible assumption)
    | (with_reducible apply chk_accept; with_reducible assumption)
    | (with_reducible apply chk_drop; with_reducible assumption)
    | with_reducible rfl
    | with_reducible exact id
    | with_reducible exact Nat.le_refl _
    | split
    | dsimp only
    | with_reducible apply upd
    | exact trivial
    | rfl
    | exact id
    | exact Nat.le_refl _
    | intro _

theorem planRelay (h : Kept u s) {a1 a2 a3} : Kept u (@Sys2Proof.Machine.State.planRelay s a1 a2 a3) := by
  dsimp only [Sys2Proof.Machine.State.planRelay]
  repeat' first
    | with_reducible assumption
    | with_reducible apply foldl
    | with_reducible apply forRange
    | with_reducible rfl
    | with_reducible exact id
    | with_reducible exact Nat.le_refl _
    | split
    | dsimp only
    | with_reducible apply upd
    | exact trivial
    | rfl
    | exact id
    | exact Nat.le_refl _
    | intro _

theorem linkReceive (h : Kept u s) {a1 a2 a3 a4 a5} : Kept u (@Sys2Proof.Machine.State.linkReceive s a1 a2 a3 a4 a5) := by
  dsimp only [Sys2Proof.Machine.State.linkReceive]
  repeat' first
    | with_reducible assumption
    | with_reducible apply deliver
    | with_reducible apply planRelay
    | with_reducible apply foldl
    | with_reducible apply forRange
    | with_reducible rfl
    | with_reducible exact id
    | with_reducible exact Nat.le_refl _
    | split
    | dsimp only
    | with_reducible apply upd
    | exact trivial
    | rfl
    | exact id
    | exact Nat.le_refl _
    | intro _

theorem noteMeas (h : Kept u s) {a1 a2} : Kept u (@Sys2Proof.Machine.State.noteMeas s a1 a2) := by
  dsimp only [Sys2Proof.Machine.State.noteMeas]
  repeat' first
    | with_reducible assumption
    | with_reducible apply wr
    | with_reducible apply wrF
    | with_reducible apply forRange
    | with_reducible apply foldl
    | with_reducible apply forRange
    | with_reducible rfl
    | with_reducible exact id
    | with_reducible exact Nat.le_refl _
    | split
    | dsimp only
    | with_reducible apply upd
    | exact trivial
    | rfl
    | exact id
    | exact Nat.le_refl _
    | intro _

theorem rxEnd (h : Kept u s) {a1} : Kept u (@Sys2Proof.Machine.State.rxEnd s a1) := by
  dsimp only [Sys2Proof.Machine.State.rxEnd]
  repeat' first
    | with_reducible assumption
    | with_reducible apply finish
    | with_reducible apply foldl
    | with_reducible apply forRange
    | with_reducible rfl
    | with_reducible exact id
    | with_reducible exact Nat.le_refl _
    | split
    | dsimp only
    | with_reducible apply upd
    | exact trivial
    | rfl
    | exact id
    | exact Nat.le_refl _
    | intro _

theorem endRx (h : Kept u s) {a1} : Kept u (@Sys2Proof.Machine.State.endRx s a1) := by
  dsimp only [Sys2Proof.Machine.State.endRx]
  repeat' first
    | with_reducible assumption
    | with_reducible apply setRun
    | with_reducible apply finish
    | with_reducible apply foldl
    | with_reducible apply forRange
    | with_reducible rfl
    | with_reducible exact id
    | with_reducible exact Nat.le_refl _
    | split
    | dsimp only
    | with_reducible apply upd
    | exact trivial
    | rfl
    | exact id
    | exact Nat.le_refl _
    | intro _

theorem execPayloadEnd (h : Kept u s) {a0 a1} : out u (@Sys2Proof.Machine.execPayloadEnd a0 a1 s) := by
  dsimp only [Sys2Proof.Machine.execPayloadEnd]
  repeat' first
    | with_reducible assumption
    | with_reducible apply noteParent
    | with_reducible apply endRx
    | with_reducible apply modemLast
    | with_reducible apply frontIdle
    | with_reducible apply noteMeas
    | with_reducible apply event
    | with_reducible apply rxEnd
    | with_reducible apply satAdd
    | with_reducible apply iqDcUpdate
    | with_reducible apply eyeUpdate
    | with_reducible apply updNbr
    | with_reducible apply finish
    | with_reducible apply linkReceive
    | with_reducible apply foldl
    | with_reducible apply forRange
    | with_reducible apply out_next
    | with_reducible rfl
    | with_reducible exact id
    | with_reducible exact Nat.le_refl _
    | split
    | dsimp only
    | with_reducible apply upd
    | exact trivial
    | rfl
    | exact id
    | exact Nat.le_refl _
    | intro _

theorem execReceiveWindowClose (h : Kept u s) : out u (@Sys2Proof.Machine.execReceiveWindowClose s) := by
  dsimp only [Sys2Proof.Machine.execReceiveWindowClose]
  repeat' first
    | with_reducible assumption
    | with_reducible apply finish
    | with_reducible apply foldl
    | with_reducible apply forRange
    | with_reducible apply out_next
    | with_reducible rfl
    | with_reducible exact id
    | with_reducible exact Nat.le_refl _
    | split
    | dsimp only
    | with_reducible apply upd
    | exact trivial
    | rfl
    | exact id
    | exact Nat.le_refl _
    | intro _

theorem scanEntry (h : Kept u s) {a1 a2} : Kept u (@Sys2Proof.Machine.State.scanEntry s a1 a2) := by
  dsimp only [Sys2Proof.Machine.State.scanEntry]
  repeat' first
    | with_reducible assumption
    | with_reducible apply updNbr
    | with_reducible apply nbrPut
    | with_reducible apply nbrFull
    | with_reducible apply foldl
    | with_reducible apply forRange
    | (with_reducible apply opt_of; with_reducible assumption)
    | with_reducible rfl
    | with_reducible exact id
    | with_reducible exact Nat.le_refl _
    | split
    | dsimp only
    | with_reducible apply upd
    | exact trivial
    | rfl
    | exact id
    | exact Nat.le_refl _
    | intro _

theorem scanHeard (h : Kept u s) : Kept u (@Sys2Proof.Machine.State.scanHeard s) := by
  dsimp only [Sys2Proof.Machine.State.scanHeard]
  repeat' first
    | with_reducible assumption
    | with_reducible apply setRun
    | with_reducible apply foldl
    | with_reducible apply forRange
    | with_reducible rfl
    | with_reducible exact id
    | with_reducible exact Nat.le_refl _
    | split
    | dsimp only
    | with_reducible apply upd
    | exact trivial
    | rfl
    | exact id
    | exact Nat.le_refl _
    | intro _

theorem joinHear (h : Kept u s) {a1} : Kept u (@Sys2Proof.Machine.State.joinHear s a1) := by
  dsimp only [Sys2Proof.Machine.State.joinHear]
  repeat' first
    | with_reducible assumption
    | with_reducible apply drawBackoff
    | with_reducible apply foldl
    | with_reducible apply forRange
    | with_reducible rfl
    | with_reducible exact id
    | with_reducible exact Nat.le_refl _
    | split
    | dsimp only
    | with_reducible apply upd
    | exact trivial
    | rfl
    | exact id
    | exact Nat.le_refl _
    | intro _

theorem hearBeacon (h : Kept u s) {a1 a2 a3} : Kept u (@Sys2Proof.Machine.State.hearBeacon s a1 a2 a3) := by
  dsimp only [Sys2Proof.Machine.State.hearBeacon]
  repeat' first
    | with_reducible assumption
    | with_reducible apply updNbr
    | with_reducible apply noteParent
    | with_reducible apply scanEntry
    | with_reducible apply scanHeard
    | with_reducible apply captureBeacon
    | with_reducible apply event
    | with_reducible apply setB
    | with_reducible apply joinHear
    | with_reducible apply foldl
    | with_reducible apply forRange
    | with_reducible rfl
    | with_reducible exact id
    | with_reducible exact Nat.le_refl _
    | split
    | dsimp only
    | with_reducible apply upd
    | exact trivial
    | rfl
    | exact id
    | exact Nat.le_refl _
    | intro _

theorem execBeaconAccepted (h : Kept u s) {a0 a1} : out u (@Sys2Proof.Machine.execBeaconAccepted a0 a1 s) := by
  dsimp only [Sys2Proof.Machine.execBeaconAccepted]
  repeat' first
    | with_reducible assumption
    | with_reducible apply checkSecured
    | with_reducible apply checkPlain
    | with_reducible apply hearBeacon
    | with_reducible apply noteParent
    | with_reducible apply scanHeard
    | with_reducible apply scanEntry
    | with_reducible apply event
    | with_reducible apply captureBeacon
    | with_reducible apply updNbr
    | with_reducible apply setB
    | with_reducible apply joinHear
    | with_reducible apply foldl
    | with_reducible apply forRange
    | with_reducible apply out_next
    | (with_reducible apply chk_accept; with_reducible assumption)
    | (with_reducible apply chk_drop; with_reducible assumption)
    | with_reducible rfl
    | with_reducible exact id
    | with_reducible exact Nat.le_refl _
    | split
    | dsimp only
    | with_reducible apply upd
    | exact trivial
    | rfl
    | exact id
    | exact Nat.le_refl _
    | intro _

theorem execMacAssign (h : Kept u s) {a0 a1} : out u (@Sys2Proof.Machine.execMacAssign a0 a1 s) := by
  dsimp only [Sys2Proof.Machine.execMacAssign]
  repeat' first
    | with_reducible assumption
    | with_reducible apply wr
    | with_reducible apply setB
    | with_reducible apply noteParent
    | with_reducible apply updNbr
    | with_reducible apply nbrPut
    | with_reducible apply nbrFull
    | with_reducible apply foldl
    | with_reducible apply forRange
    | with_reducible apply out_next
    | (with_reducible apply opt_of; with_reducible assumption)
    | with_reducible rfl
    | with_reducible exact id
    | with_reducible exact Nat.le_refl _
    | split
    | dsimp only
    | with_reducible apply upd
    | exact trivial
    | rfl
    | exact id
    | exact Nat.le_refl _
    | intro _

theorem execMacLtSet (h : Kept u s) {a0 a1} : out u (@Sys2Proof.Machine.execMacLtSet a0 a1 s) := by
  dsimp only [Sys2Proof.Machine.execMacLtSet]
  repeat' first
    | with_reducible assumption
    | with_reducible apply ltsPut
    | with_reducible apply foldl
    | with_reducible apply forRange
    | with_reducible apply out_next
    | (with_reducible apply snd_of; with_reducible assumption)
    | with_reducible rfl
    | with_reducible exact id
    | with_reducible exact Nat.le_refl _
    | split
    | dsimp only
    | with_reducible apply upd
    | exact trivial
    | rfl
    | exact id
    | exact Nat.le_refl _
    | intro _

theorem execMacLtUse (h : Kept u s) {a0 a1} : out u (@Sys2Proof.Machine.execMacLtUse a0 a1 s) := by
  dsimp only [Sys2Proof.Machine.execMacLtUse]
  repeat' first
    | with_reducible assumption
    | with_reducible apply updNbr
    | with_reducible apply foldl
    | with_reducible apply forRange
    | with_reducible apply out_next
    | with_reducible rfl
    | with_reducible exact id
    | with_reducible exact Nat.le_refl _
    | split
    | dsimp only
    | with_reducible apply upd
    | exact trivial
    | rfl
    | exact id
    | exact Nat.le_refl _
    | intro _

end Sys2Proof.Machine.Kept
end

