-- ==== Sys2Proof/Laws/Kept/Bus.lean ====
section
/-! SUPPORT. What the operations of the address map, the spines, the mover, recall, the host interfaces and idle time keep: each keeps the queue, the variant, the canonical forms and the
fuses (Laws/Kept.lean), from any state that keeps them. -/

namespace Sys2Proof.Machine.Kept

variable {u s t : State}

theorem after (h : Kept u s) {o : Out} (ho : out u o) : Kept u (Sys2Proof.Machine.after o s) := by
  cases o with
  | next t => exact ho
  | fault r => exact h
  | refused r => exact h

theorem writePlain (h : Kept u s) {a1 a2} : Kept u (@Sys2Proof.Machine.State.writePlain s a1 a2) := by
  dsimp only [Sys2Proof.Machine.State.writePlain]
  repeat' first
    | with_reducible assumption
    | with_reducible apply wr
    | with_reducible apply foldl
    | with_reducible apply forRange
    | with_reducible rfl
    | with_reducible exact id
    | with_reducible exact Nat.le_refl _
    | split
    | dsimp only
    | with_reducible apply upd
    | exact trivial
    | rfl
    | exact id
    | exact Nat.le_refl _
    | intro _

theorem sbrFront (h : Kept u s) : Kept u (@Sys2Proof.Machine.State.sbrFront s) := by
  dsimp only [Sys2Proof.Machine.State.sbrFront]
  repeat' first
    | with_reducible assumption
    | with_reducible apply missRun
    | with_reducible apply setSpineSt
    | with_reducible apply frontReset
    | with_reducible apply setSpine
    | with_reducible apply setB
    | with_reducible apply endSpine
    | with_reducible apply foldl
    | with_reducible apply forRange
    | with_reducible rfl
    | with_reducible exact id
    | with_reducible exact Nat.le_refl _
    | split
    | dsimp only
    | with_reducible apply upd
    | exact trivial
    | rfl
    | exact id
    | exact Nat.le_refl _
    | intro _

theorem retrain (h : Kept u s) {a1} : Kept u (@Sys2Proof.Machine.State.retrain s a1) := by
  dsimp only [Sys2Proof.Machine.State.retrain]
  repeat' first
    | with_reducible assumption
    | with_reducible apply wrF
    | with_reducible apply setB
    | with_reducible apply foldl
    | with_reducible apply forRange
    | with_reducible rfl
    | with_reducible exact id
    | with_reducible exact Nat.le_refl _
    | split
    | dsimp only
    | with_reducible apply upd
    | exact trivial
    | rfl
    | exact id
    | exact Nat.le_refl _
    | intro _

theorem writeSpineCtrl (h : Kept u s) {a1} : Kept u (@Sys2Proof.Machine.State.writeSpineCtrl s a1) := by
  dsimp only [Sys2Proof.Machine.State.writeSpineCtrl]
  repeat' first
    | with_reducible assumption
    | with_reducible apply wrF
    | with_reducible apply sbrFront
    | with_reducible apply sbrStore
    | with_reducible apply retrain
    | with_reducible apply foldl
    | with_reducible apply forRange
    | with_reducible rfl
    | with_reducible exact id
    | with_reducible exact Nat.le_refl _
    | split
    | dsimp only
    | with_reducible apply upd
    | exact trivial
    | rfl
    | exact id
    | exact Nat.le_refl _
    | intro _

theorem writeSys (h : Kept u s) {a1 a2} : Kept u (@Sys2Proof.Machine.State.writeSys s a1 a2) := by
  dsimp only [Sys2Proof.Machine.State.writeSys]
  repeat' first
    | with_reducible assumption
    | with_reducible apply writeSpineCtrl
    | with_reducible apply wrF
    | with_reducible apply setB
    | with_reducible apply after
    | with_reducible apply execSoftwareReset
    | with_reducible apply execBootOk
    | with_reducible apply errataClr
    | with_reducible apply writePlain
    | with_reducible apply foldl
    | with_reducible apply forRange
    | with_reducible rfl
    | with_reducible exact id
    | with_reducible exact Nat.le_refl _
    | split
    | dsimp only
    | with_reducible apply upd
    | exact trivial
    | rfl
    | exact id
    | exact Nat.le_refl _
    | intro _

theorem writePwr (h : Kept u s) {a1 a2} : Kept u (@Sys2Proof.Machine.State.writePwr s a1 a2) := by
  dsimp only [Sys2Proof.Machine.State.writePwr]
  repeat' first
    | with_reducible assumption
    | with_reducible apply wr
    | with_reducible apply after
    | with_reducible apply execPwrAlarmHiWrite
    | with_reducible apply execClkCtrlWrite
    | with_reducible apply writePlain
    | with_reducible apply foldl
    | with_reducible apply forRange
    | with_reducible rfl
    | with_reducible exact id
    | with_reducible exact Nat.le_refl _
    | split
    | dsimp only
    | with_reducible apply upd
    | exact trivial
    | rfl
    | exact id
    | exact Nat.le_refl _
    | intro _

theorem writePend (h : Kept u s) {a1 a2} : Kept u (@Sys2Proof.Machine.State.writePend s a1 a2) := by
  dsimp only [Sys2Proof.Machine.State.writePend]
  repeat' first
    | with_reducible assumption
    | with_reducible apply undoOverrun
    | with_reducible apply wr
    | with_reducible apply endDoze
    | with_reducible apply foldl
    | with_reducible apply forRange
    | with_reducible rfl
    | with_reducible exact id
    | with_reducible exact Nat.le_refl _
    | split
    | dsimp only
    | with_reducible apply upd
    | exact trivial
    | rfl
    | exact id
    | exact Nat.le_refl _
    | intro _

theorem writeFault (h : Kept u s) {a1 a2 a3} : Kept u (@Sys2Proof.Machine.State.writeFault s a1 a2 a3) := by
  dsimp only [Sys2Proof.Machine.State.writeFault]
  repeat' first
    | with_reducible assumption
    | with_reducible apply writePend
    | with_reducible apply after
    | with_reducible apply execStickyClear
    | with_reducible apply execFaultInject
    | with_reducible apply execTraceStatWrite
    | with_reducible apply endDoze
    | with_reducible apply wr
    | with_reducible apply writePlain
    | with_reducible apply foldl
    | with_reducible apply forRange
    | with_reducible rfl
    | with_reducible exact id
    | with_reducible exact Nat.le_refl _
    | split
    | dsimp only
    | with_reducible apply upd
    | exact trivial
    | rfl
    | exact id
    | exact Nat.le_refl _
    | intro _

theorem writeFab (h : Kept u s) {a1 a2} : Kept u (@Sys2Proof.Machine.State.writeFab s a1 a2) := by
  dsimp only [Sys2Proof.Machine.State.writeFab]
  repeat' first
    | with_reducible assumption
    | with_reducible apply after
    | with_reducible apply execFabFire
    | with_reducible apply execFabSwev
    | with_reducible apply execFabCfgWrite
    | with_reducible apply execFabTaskWrite
    | with_reducible apply writePlain
    | with_reducible apply foldl
    | with_reducible apply forRange
    | with_reducible rfl
    | with_reducible exact id
    | with_reducible exact Nat.le_refl _
    | split
    | dsimp only
    | with_reducible apply upd
    | exact trivial
    | rfl
    | exact id
    | exact Nat.le_refl _
    | intro _

theorem writeStepCtrl (h : Kept u s) {a1} : Kept u (@Sys2Proof.Machine.State.writeStepCtrl s a1) := by
  dsimp only [Sys2Proof.Machine.State.writeStepCtrl]
  repeat' first
    | with_reducible assumption
    | with_reducible apply setB
    | with_reducible apply softStep
    | with_reducible apply after
    | with_reducible apply execChronStepArm
    | with_reducible apply foldl
    | with_reducible apply forRange
    | with_reducible rfl
    | with_reducible exact id
    | with_reducible exact Nat.le_refl _
    | split
    | dsimp only
    | with_reducible apply upd
    | exact trivial
    | rfl
    | exact id
    | exact Nat.le_refl _
    | intro _

theorem writeTime (h : Kept u s) {a1 a2 a3} : Kept u (@Sys2Proof.Machine.State.writeTime s a1 a2 a3) := by
  have hp := writePlain h (a1 := a2) (a2 := a3)
  unfold Sys2Proof.Machine.State.writeTime
  exact ite' (after h (execChronRateWrite h)) (ite' (ite' h hp) (ite' (writeStepCtrl h)
    (ite' (ite' (after hp (execChronResync hp)) hp) (ite' (after h (execActArm h)) (ite' (after h (execActCancel h))
    (ite' (after h (execActRelease h)) (ite' (after h (execActTmpl h)) (ite' (after h (execActionEntryWrite h))
    (ite' (ite' (setB (ite' h (setB h))) (ite' h (setB h))) (ite' (after h (execWdogLimitWrite h))
    (ite' (after h (execWdogLimitWrite h)) (ite' (after h (execWdogFeed h)) hp))))))))))))

theorem writeTmr (h : Kept u s) {a1 a2} : Kept u (@Sys2Proof.Machine.State.writeTmr s a1 a2) := by
  dsimp only [Sys2Proof.Machine.State.writeTmr]
  repeat' first
    | with_reducible assumption
    | with_reducible apply writeTimerValue
    | with_reducible apply writeTimerCtrl
    | with_reducible apply after
    | with_reducible apply execTimerCntWrite
    | with_reducible apply writePlain
    | with_reducible apply foldl
    | with_reducible apply forRange
    | with_reducible rfl
    | with_reducible exact id
    | with_reducible exact Nat.le_refl _
    | split
    | dsimp only
    | with_reducible apply upd
    | exact trivial
    | rfl
    | exact id
    | exact Nat.le_refl _
    | intro _

theorem writeQe (h : Kept u s) {a1 a2 a3} : Kept u (@Sys2Proof.Machine.State.writeQe s a1 a2 a3) := by
  dsimp only [Sys2Proof.Machine.State.writeQe]
  repeat' first
    | with_reducible assumption
    | with_reducible apply after
    | with_reducible apply execQeInit
    | with_reducible apply writePlain
    | with_reducible apply qePort
    | with_reducible apply execQeRingCiWrite
    | with_reducible apply execQeAlloc
    | with_reducible apply execQeRelease
    | with_reducible apply foldl
    | with_reducible apply forRange
    | with_reducible rfl
    | with_reducible exact id
    | with_reducible exact Nat.le_refl _
    | split
    | dsimp only
    | with_reducible apply upd
    | exact trivial
    | rfl
    | exact id
    | exact Nat.le_refl _
    | intro _

theorem writeLink (h : Kept u s) {a1 a2 a3} : Kept u (@Sys2Proof.Machine.State.writeLink s a1 a2 a3) := by
  dsimp only [Sys2Proof.Machine.State.writeLink]
  repeat' first
    | with_reducible assumption
    | with_reducible apply noteParent
    | with_reducible apply setB
    | with_reducible apply writePlain
    | with_reducible apply after
    | with_reducible apply execLinkOpSubmit
    | with_reducible apply execLinkOpCancel
    | with_reducible apply execLinkOpRelease
    | with_reducible apply execNbrAdd
    | with_reducible apply execNbrRead
    | with_reducible apply execNbrRemove
    | with_reducible apply execNbrReadIdx
    | with_reducible apply execLinkFcntWrite
    | with_reducible apply execLtsWrite
    | with_reducible apply execLtsRead
    | with_reducible apply execLtsRemove
    | with_reducible apply execLtsDerive
    | with_reducible apply foldl
    | with_reducible apply forRange
    | with_reducible rfl
    | with_reducible exact id
    | with_reducible exact Nat.le_refl _
    | split
    | dsimp only
    | with_reducible apply upd
    | exact trivial
    | rfl
    | exact id
    | exact Nat.le_refl _
    | intro _

theorem writeStor (h : Kept u s) {a1 a2 a3} : Kept u (@Sys2Proof.Machine.State.writeStor s a1 a2 a3) := by
  dsimp only [Sys2Proof.Machine.State.writeStor]
  repeat' first
    | with_reducible assumption
    | with_reducible apply storeSubmit
    | with_reducible apply after
    | with_reducible apply execStoreDoneClear
    | with_reducible apply execStoreAbort
    | with_reducible apply execStoreDataPortWrite
    | with_reducible apply execStorPsCfgWrite
    | with_reducible apply writePlain
    | with_reducible apply foldl
    | with_reducible apply forRange
    | with_reducible rfl
    | with_reducible exact id
    | with_reducible exact Nat.le_refl _
    | split
    | dsimp only
    | with_reducible apply upd
    | exact trivial
    | rfl
    | exact id
    | exact Nat.le_refl _
    | intro _

theorem writeSecmb (h : Kept u s) {a1 a2 a3} : Kept u (@Sys2Proof.Machine.State.writeSecmb s a1 a2 a3) := by
  dsimp only [Sys2Proof.Machine.State.writeSecmb]
  repeat' first
    | with_reducible assumption
    | with_reducible apply after
    | with_reducible apply execSecmbDoorbell
    | with_reducible apply execSecmbDoneClear
    | with_reducible apply writePlain
    | with_reducible apply putBytes
    | with_reducible apply foldl
    | with_reducible apply forRange
    | with_reducible rfl
    | with_reducible exact id
    | with_reducible exact Nat.le_refl _
    | split
    | dsimp only
    | with_reducible apply upd
    | exact trivial
    | rfl
    | exact id
    | exact Nat.le_refl _
    | intro _

theorem writeRel (h : Kept u s) {a1 a2 a3} : Kept u (@Sys2Proof.Machine.State.writeRel s a1 a2 a3) := by
  dsimp only [Sys2Proof.Machine.State.writeRel]
  repeat' first
    | with_reducible assumption
    | with_reducible apply after
    | with_reducible apply execRelFailclr
    | with_reducible apply writePlain
    | with_reducible apply execRelDrop
    | with_reducible apply execRelStart
    | with_reducible apply foldl
    | with_reducible apply forRange
    | with_reducible rfl
    | with_reducible exact id
    | with_reducible exact Nat.le_refl _
    | split
    | dsimp only
    | with_reducible apply upd
    | exact trivial
    | rfl
    | exact id
    | exact Nat.le_refl _
    | intro _

theorem writeHif (h : Kept u s) {a1 a2 a3} : Kept u (@Sys2Proof.Machine.State.writeHif s a1 a2 a3) := by
  dsimp only [Sys2Proof.Machine.State.writeHif]
  repeat' first
    | with_reducible assumption
    | with_reducible apply wr
    | with_reducible apply doorbellOut
    | with_reducible apply rxDone
    | with_reducible apply txCtrl
    | with_reducible apply putBytes
    | with_reducible apply writePlain
    | with_reducible apply sqTail
    | with_reducible apply ringCfg
    | with_reducible apply foldl
    | with_reducible apply forRange
    | with_reducible rfl
    | with_reducible exact id
    | with_reducible exact Nat.le_refl _
    | split
    | dsimp only
    | with_reducible apply upd
    | exact trivial
    | rfl
    | exact id
    | exact Nat.le_refl _
    | intro _

theorem writeSerial (h : Kept u s) {a1 a2} : Kept u (@Sys2Proof.Machine.State.writeSerial s a1 a2) := by
  have hp := writePlain h (a1 := a1) (a2 := a2)
  have h2 : Kept u (if bitOf a2 2 = true then Sys2Proof.Machine.after (Sys2Proof.Machine.execAdcStop (s.writePlain a1 a2))
      (s.writePlain a1 a2) else s.writePlain a1 a2) := ite' (after hp (execAdcStop hp)) hp
  have h3 := ite' (c := bitOf a2 0 = true) (adcBegin h2 (a1 := false)) h2
  unfold Sys2Proof.Machine.State.writeSerial
  exact ite' h (ite' (ite' (after h (execSpiStart h)) h) (ite' (spiPush h) (ite' (after h (execI2cXfer h))
    (ite' (i2cPush h) (ite' (uartPush h) (ite' (ite' h (uartBusy hp)) (ite' (ite' (adcBegin h3) h3) hp)))))))

theorem writeGpio (h : Kept u s) {a1 a2} : Kept u (@Sys2Proof.Machine.State.writeGpio s a1 a2) := by
  dsimp only [Sys2Proof.Machine.State.writeGpio]
  repeat' first
    | with_reducible assumption
    | with_reducible apply setOut
    | with_reducible apply wr
    | with_reducible apply after
    | with_reducible apply execGpioSet
    | with_reducible apply execGpioClr
    | with_reducible apply execGpioTgl
    | with_reducible apply holdRelease
    | with_reducible apply writePlain
    | with_reducible apply foldl
    | with_reducible apply forRange
    | with_reducible rfl
    | with_reducible exact id
    | with_reducible exact Nat.le_refl _
    | split
    | dsimp only
    | with_reducible apply upd
    | exact trivial
    | rfl
    | exact id
    | exact Nat.le_refl _
    | intro _

theorem writeCatl (h : Kept u s) {a1 a2} : Kept u (@Sys2Proof.Machine.State.writeCatl s a1 a2) := by
  dsimp only [Sys2Proof.Machine.State.writeCatl]
  repeat' first
    | with_reducible assumption
    | with_reducible apply catRefuse
    | with_reducible apply writePlain
    | with_reducible apply after
    | with_reducible apply execCatlVerify
    | with_reducible apply execCatlApply
    | with_reducible apply execCatlSetActive
    | with_reducible apply execCatlCommit
    | with_reducible apply execCatlRetire
    | with_reducible apply foldl
    | with_reducible apply forRange
    | with_reducible rfl
    | with_reducible exact id
    | with_reducible exact Nat.le_refl _
    | split
    | dsimp only
    | with_reducible apply upd
    | exact trivial
    | rfl
    | exact id
    | exact Nat.le_refl _
    | intro _

theorem coreWrite (h : Kept u s) {a1 a2 a3} : Kept u (@Sys2Proof.Machine.State.coreWrite s a1 a2 a3) := by
  dsimp only [Sys2Proof.Machine.State.coreWrite]
  repeat' first
    | with_reducible assumption
    | with_reducible apply writeSys
    | with_reducible apply writePwr
    | with_reducible apply writeFault
    | with_reducible apply writeFab
    | with_reducible apply writeTime
    | with_reducible apply writeTmr
    | with_reducible apply writeQe
    | with_reducible apply writeLink
    | with_reducible apply writeStor
    | with_reducible apply writeSecmb
    | with_reducible apply writeRel
    | with_reducible apply after
    | with_reducible apply execPanelRefresh
    | with_reducible apply writePlain
    | with_reducible apply writeHif
    | with_reducible apply writeSerial
    | with_reducible apply writeGpio
    | with_reducible apply writeCatl
    | with_reducible apply foldl
    | with_reducible apply forRange
    | with_reducible rfl
    | with_reducible exact id
    | with_reducible exact Nat.le_refl _
    | split
    | dsimp only
    | with_reducible apply upd
    | exact trivial
    | rfl
    | exact id
    | exact Nat.le_refl _
    | intro _

theorem farWrite (h : Kept u s) {a1 a2} : Kept u (@Sys2Proof.Machine.State.farWrite s a1 a2) := by
  dsimp only [Sys2Proof.Machine.State.farWrite]
  repeat' first
    | with_reducible assumption
    | with_reducible apply after
    | with_reducible apply execRadioFsmCmd
    | with_reducible apply execRadioFreqWrite
    | with_reducible apply satAdd
    | with_reducible apply writePlain
    | with_reducible apply forceCal
    | with_reducible apply requestCal
    | with_reducible apply foldl
    | with_reducible apply forRange
    | with_reducible rfl
    | with_reducible exact id
    | with_reducible exact Nat.le_refl _
    | split
    | dsimp only
    | with_reducible apply upd
    | exact trivial
    | rfl
    | exact id
    | exact Nat.le_refl _
    | intro _

theorem farPut (h : Kept u s) {a1 a2} : Kept u (@Sys2Proof.Machine.State.farPut s a1 a2) := by
  dsimp only [Sys2Proof.Machine.State.farPut]
  repeat' first
    | with_reducible assumption
    | with_reducible apply putBytes
    | with_reducible apply farWrite
    | with_reducible apply foldl
    | with_reducible apply forRange
    | with_reducible rfl
    | with_reducible exact id
    | with_reducible exact Nat.le_refl _
    | split
    | dsimp only
    | with_reducible apply upd
    | exact trivial
    | rfl
    | exact id
    | exact Nat.le_refl _
    | intro _

theorem sendReq (h : Kept u s) {a1 a2} : Kept u (@Sys2Proof.Machine.State.sendReq s a1 a2) := by
  dsimp only [Sys2Proof.Machine.State.sendReq]
  repeat' first
    | with_reducible assumption
    | with_reducible apply setSpineSt
    | with_reducible apply answer
    | with_reducible apply answerWait
    | with_reducible apply foldl
    | with_reducible apply forRange
    | with_reducible rfl
    | with_reducible exact id
    | with_reducible exact Nat.le_refl _
    | split
    | dsimp only
    | with_reducible apply upd
    | exact trivial
    | rfl
    | exact id
    | exact Nat.le_refl _
    | intro _

theorem holdReq (h : Kept u s) {a1 a2} : Kept u (@Sys2Proof.Machine.State.holdReq s a1 a2) := by
  dsimp only [Sys2Proof.Machine.State.holdReq]
  repeat' first
    | with_reducible assumption
    | with_reducible apply answerWait
    | with_reducible apply setSpineSt
    | with_reducible apply foldl
    | with_reducible apply forRange
    | with_reducible rfl
    | with_reducible exact id
    | with_reducible exact Nat.le_refl _
    | split
    | dsimp only
    | with_reducible apply upd
    | exact trivial
    | rfl
    | exact id
    | exact Nat.le_refl _
    | intro _

theorem presentReq (h : Kept u s) {a1 a2} : Kept u (@Sys2Proof.Machine.State.presentReq s a1 a2) := by
  dsimp only [Sys2Proof.Machine.State.presentReq]
  repeat' first
    | with_reducible assumption
    | with_reducible apply countFull
    | with_reducible apply holdReq
    | with_reducible apply dieNotReady
    | with_reducible apply satAdd
    | with_reducible apply sendReq
    | with_reducible apply foldl
    | with_reducible apply forRange
    | with_reducible rfl
    | with_reducible exact id
    | with_reducible exact Nat.le_refl _
    | split
    | dsimp only
    | with_reducible apply upd
    | exact trivial
    | rfl
    | exact id
    | exact Nat.le_refl _
    | intro _

theorem present1 (h : Kept u s) {a1 a2} : Kept u (@Sys2Proof.Machine.State.present1 s a1 a2) := by
  dsimp only [Sys2Proof.Machine.State.present1]
  repeat' first
    | with_reducible assumption
    | with_reducible apply xipAnswer
    | with_reducible apply presentReq
    | with_reducible apply foldl
    | with_reducible apply forRange
    | with_reducible rfl
    | with_reducible exact id
    | with_reducible exact Nat.le_refl _
    | split
    | dsimp only
    | with_reducible apply upd
    | exact trivial
    | rfl
    | exact id
    | exact Nat.le_refl _
    | intro _

theorem execFarDieAccess (h : Kept u s) {a0 a1 a2 a3} : out u (@Sys2Proof.Machine.execFarDieAccess a0 a1 a2 a3 s) := by
  dsimp only [Sys2Proof.Machine.execFarDieAccess]
  repeat' first
    | with_reducible assumption
    | with_reducible apply answerError
    | with_reducible apply presentReq
    | with_reducible apply foldl
    | with_reducible apply forRange
    | with_reducible apply out_next
    | with_reducible rfl
    | with_reducible exact id
    | with_reducible exact Nat.le_refl _
    | split
    | dsimp only
    | with_reducible apply upd
    | exact trivial
    | rfl
    | exact id
    | exact Nat.le_refl _
    | intro _

theorem execStoreStatusRead (h : Kept u s) {a0 a1} : out u (@Sys2Proof.Machine.execStoreStatusRead a0 a1 s) := by
  dsimp only [Sys2Proof.Machine.execStoreStatusRead]
  repeat' first
    | with_reducible assumption
    | with_reducible apply answerError
    | with_reducible apply presentReq
    | with_reducible apply foldl
    | with_reducible apply forRange
    | with_reducible apply out_next
    | with_reducible rfl
    | with_reducible exact id
    | with_reducible exact Nat.le_refl _
    | split
    | dsimp only
    | with_reducible apply upd
    | exact trivial
    | rfl
    | exact id
    | exact Nat.le_refl _
    | intro _

theorem represent (h : Kept u s) {a1 a2} : Kept u (@Sys2Proof.Machine.State.represent s a1 a2) := by
  dsimp only [Sys2Proof.Machine.State.represent]
  repeat' first
    | with_reducible assumption
    | with_reducible apply countFull
    | with_reducible apply setSpineSt
    | with_reducible apply xipAnswer
    | with_reducible apply satAdd
    | with_reducible apply sendReq
    | with_reducible apply dieNotReady
    | with_reducible apply foldl
    | with_reducible apply forRange
    | with_reducible rfl
    | with_reducible exact id
    | with_reducible exact Nat.le_refl _
    | split
    | dsimp only
    | with_reducible apply upd
    | exact trivial
    | rfl
    | exact id
    | exact Nat.le_refl _
    | intro _

theorem execSpineRequestRepresented (h : Kept u s) {a0} : out u (@Sys2Proof.Machine.execSpineRequestRepresented a0 s) := by
  dsimp only [Sys2Proof.Machine.execSpineRequestRepresented]
  repeat' first
    | with_reducible assumption
    | with_reducible apply represent
    | with_reducible apply foldl
    | with_reducible apply forRange
    | with_reducible apply out_next
    | with_reducible rfl
    | with_reducible exact id
    | with_reducible exact Nat.le_refl _
    | split
    | dsimp only
    | with_reducible apply upd
    | exact trivial
    | rfl
    | exact id
    | exact Nat.le_refl _
    | intro _

theorem farServe (h : Kept u s) {a1 a2} : Kept u (@Sys2Proof.Machine.State.farServe s a1 a2) := by
  dsimp only [Sys2Proof.Machine.State.farServe]
  repeat' first
    | with_reducible assumption
    | with_reducible apply farPut
    | with_reducible apply setSpineSt
    | with_reducible apply farRead
    | with_reducible apply foldl
    | with_reducible apply forRange
    | (with_reducible apply snd_of; with_reducible assumption)
    | with_reducible rfl
    | with_reducible exact id
    | with_reducible exact Nat.le_refl _
    | split
    | dsimp only
    | with_reducible apply upd
    | exact trivial
    | rfl
    | exact id
    | exact Nat.le_refl _
    | intro _

theorem execSpinePacketReceived (h : Kept u s) {a0 a1 a2 a3} : out u (@Sys2Proof.Machine.execSpinePacketReceived a0 a1 a2 a3 s) := by
  dsimp only [Sys2Proof.Machine.execSpinePacketReceived]
  repeat' first
    | with_reducible assumption
    | with_reducible apply satAdd
    | with_reducible apply farServe
    | with_reducible apply setSpineSt
    | with_reducible apply foldl
    | with_reducible apply forRange
    | with_reducible apply out_next
    | with_reducible rfl
    | with_reducible exact id
    | with_reducible exact Nat.le_refl _
    | split
    | dsimp only
    | with_reducible apply upd
    | exact trivial
    | rfl
    | exact id
    | exact Nat.le_refl _
    | intro _

theorem execFarDieResponse (h : Kept u s) {a0} : out u (@Sys2Proof.Machine.execFarDieResponse a0 s) := by
  dsimp only [Sys2Proof.Machine.execFarDieResponse]
  repeat' first
    | with_reducible assumption
    | with_reducible apply setSpineSt
    | with_reducible apply answer
    | with_reducible apply foldl
    | with_reducible apply forRange
    | with_reducible apply out_next
    | with_reducible rfl
    | with_reducible exact id
    | with_reducible exact Nat.le_refl _
    | split
    | dsimp only
    | with_reducible apply upd
    | exact trivial
    | rfl
    | exact id
    | exact Nat.le_refl _
    | intro _

theorem stuck (h : Kept u s) {a1} : Kept u (@Sys2Proof.Machine.State.stuck s a1) := by
  dsimp only [Sys2Proof.Machine.State.stuck]
  repeat' first
    | with_reducible assumption
    | with_reducible apply setB
    | with_reducible apply endSpine
    | with_reducible apply satAdd
    | with_reducible apply tamperTrip
    | with_reducible apply slip
    | with_reducible apply wrF
    | with_reducible apply foldl
    | with_reducible apply forRange
    | with_reducible rfl
    | with_reducible exact id
    | with_reducible exact Nat.le_refl _
    | split
    | dsimp only
    | with_reducible apply upd
    | exact trivial
    | rfl
    | exact id
    | exact Nat.le_refl _
    | intro _

theorem resend (h : Kept u s) {a1 a2 a3} : Kept u (@Sys2Proof.Machine.State.resend s a1 a2 a3) := by
  dsimp only [Sys2Proof.Machine.State.resend]
  repeat' first
    | with_reducible assumption
    | with_reducible apply stuck
    | with_reducible apply setSpineSt
    | with_reducible apply foldl
    | with_reducible apply forRange
    | with_reducible rfl
    | with_reducible exact id
    | with_reducible exact Nat.le_refl _
    | split
    | dsimp only
    | with_reducible apply upd
    | exact trivial
    | rfl
    | exact id
    | exact Nat.le_refl _
    | intro _

theorem execSpineNakReceived (h : Kept u s) {a0 a1 a2} : out u (@Sys2Proof.Machine.execSpineNakReceived a0 a1 a2 s) := by
  dsimp only [Sys2Proof.Machine.execSpineNakReceived]
  repeat' first
    | with_reducible assumption
    | with_reducible apply resend
    | with_reducible apply foldl
    | with_reducible apply forRange
    | with_reducible apply out_next
    | with_reducible rfl
    | with_reducible exact id
    | with_reducible exact Nat.le_refl _
    | split
    | dsimp only
    | with_reducible apply upd
    | exact trivial
    | rfl
    | exact id
    | exact Nat.le_refl _
    | intro _

theorem execSpineAckTimeout (h : Kept u s) {a0 a1} : out u (@Sys2Proof.Machine.execSpineAckTimeout a0 a1 s) := by
  dsimp only [Sys2Proof.Machine.execSpineAckTimeout]
  repeat' first
    | with_reducible assumption
    | with_reducible apply resend
    | with_reducible apply satAdd
    | with_reducible apply foldl
    | with_reducible apply forRange
    | with_reducible apply out_next
    | with_reducible rfl
    | with_reducible exact id
    | with_reducible exact Nat.le_refl _
    | split
    | dsimp only
    | with_reducible apply upd
    | exact trivial
    | rfl
    | exact id
    | exact Nat.le_refl _
    | intro _

theorem execSpineAckReceived (h : Kept u s) {a0 a1 a2} : out u (@Sys2Proof.Machine.execSpineAckReceived a0 a1 a2 s) := by
  dsimp only [Sys2Proof.Machine.execSpineAckReceived]
  repeat' first
    | with_reducible assumption
    | with_reducible apply setSpineSt
    | with_reducible apply foldl
    | with_reducible apply forRange
    | with_reducible apply out_next
    | with_reducible rfl
    | with_reducible exact id
    | with_reducible exact Nat.le_refl _
    | split
    | dsimp only
    | with_reducible apply upd
    | exact trivial
    | rfl
    | exact id
    | exact Nat.le_refl _
    | intro _

theorem execTimingStrobe (h : Kept u s) {a0} : out u (@Sys2Proof.Machine.execTimingStrobe a0 s) := by
  dsimp only [Sys2Proof.Machine.execTimingStrobe]
  repeat' first
    | with_reducible assumption
    | with_reducible apply foldl
    | with_reducible apply forRange
    | with_reducible apply out_next
    | with_reducible rfl
    | with_reducible exact id
    | with_reducible exact Nat.le_refl _
    | split
    | dsimp only
    | with_reducible apply upd
    | exact trivial
    | rfl
    | exact id
    | exact Nat.le_refl _
    | intro _

theorem execSbrF (h : Kept u s) : out u (@Sys2Proof.Machine.execSbrF s) := by
  dsimp only [Sys2Proof.Machine.execSbrF]
  repeat' first
    | with_reducible assumption
    | with_reducible apply sbrFront
    | with_reducible apply foldl
    | with_reducible apply forRange
    | with_reducible apply out_next
    | with_reducible rfl
    | with_reducible exact id
    | with_reducible exact Nat.le_refl _
    | split
    | dsimp only
    | with_reducible apply upd
    | exact trivial
    | rfl
    | exact id
    | exact Nat.le_refl _
    | intro _

theorem execSbrFRelease (h : Kept u s) : out u (@Sys2Proof.Machine.execSbrFRelease s) := by
  dsimp only [Sys2Proof.Machine.execSbrFRelease]
  repeat' first
    | with_reducible assumption
    | with_reducible apply foldl
    | with_reducible apply forRange
    | with_reducible apply out_next
    | with_reducible rfl
    | with_reducible exact id
    | with_reducible exact Nat.le_refl _
    | split
    | dsimp only
    | with_reducible apply upd
    | exact trivial
    | rfl
    | exact id
    | exact Nat.le_refl _
    | intro _

theorem execFrontPllLocked (h : Kept u s) : out u (@Sys2Proof.Machine.execFrontPllLocked s) := by
  dsimp only [Sys2Proof.Machine.execFrontPllLocked]
  repeat' first
    | with_reducible assumption
    | with_reducible apply wrF
    | with_reducible apply foldl
    | with_reducible apply forRange
    | with_reducible apply out_next
    | with_reducible rfl
    | with_reducible exact id
    | with_reducible exact Nat.le_refl _
    | split
    | dsimp only
    | with_reducible apply upd
    | exact trivial
    | rfl
    | exact id
    | exact Nat.le_refl _
    | intro _

theorem execSbrS (h : Kept u s) : out u (@Sys2Proof.Machine.execSbrS s) := by
  dsimp only [Sys2Proof.Machine.execSbrS]
  repeat' first
    | with_reducible assumption
    | with_reducible apply sbrStore
    | with_reducible apply foldl
    | with_reducible apply forRange
    | with_reducible apply out_next
    | with_reducible rfl
    | with_reducible exact id
    | with_reducible exact Nat.le_refl _
    | split
    | dsimp only
    | with_reducible apply upd
    | exact trivial
    | rfl
    | exact id
    | exact Nat.le_refl _
    | intro _

theorem execSbrSHold (h : Kept u s) : out u (@Sys2Proof.Machine.execSbrSHold s) := by
  dsimp only [Sys2Proof.Machine.execSbrSHold]
  repeat' first
    | with_reducible assumption
    | with_reducible apply wrF
    | with_reducible apply storeSync
    | with_reducible apply loadMaps
    | with_reducible apply foldl
    | with_reducible apply forRange
    | with_reducible apply out_next
    | with_reducible rfl
    | with_reducible exact id
    | with_reducible exact Nat.le_refl _
    | split
    | dsimp only
    | with_reducible apply upd
    | exact trivial
    | rfl
    | exact id
    | exact Nat.le_refl _
    | intro _

theorem releaseWaiting (h : Kept u s) {a1} : Kept u (@Sys2Proof.Machine.State.releaseWaiting s a1) := by
  dsimp only [Sys2Proof.Machine.State.releaseWaiting]
  repeat' first
    | with_reducible assumption
    | with_reducible apply present1
    | with_reducible apply setSpineSt
    | with_reducible apply foldl
    | with_reducible apply forRange
    | with_reducible rfl
    | with_reducible exact id
    | with_reducible exact Nat.le_refl _
    | split
    | dsimp only
    | with_reducible apply upd
    | exact trivial
    | rfl
    | exact id
    | exact Nat.le_refl _
    | intro _

theorem execSpineTrainingDone (h : Kept u s) {a0} : out u (@Sys2Proof.Machine.execSpineTrainingDone a0 s) := by
  dsimp only [Sys2Proof.Machine.execSpineTrainingDone]
  repeat' first
    | with_reducible assumption
    | with_reducible apply servePending
    | with_reducible apply setB
    | with_reducible apply releaseWaiting
    | with_reducible apply spineUp
    | with_reducible apply foldl
    | with_reducible apply forRange
    | with_reducible apply out_next
    | with_reducible rfl
    | with_reducible exact id
    | with_reducible exact Nat.le_refl _
    | split
    | dsimp only
    | with_reducible apply upd
    | exact trivial
    | rfl
    | exact id
    | exact Nat.le_refl _
    | intro _

theorem execRetrainF (h : Kept u s) : out u (@Sys2Proof.Machine.execRetrainF s) := by
  dsimp only [Sys2Proof.Machine.execRetrainF]
  repeat' first
    | with_reducible assumption
    | with_reducible apply retrain
    | with_reducible apply foldl
    | with_reducible apply forRange
    | with_reducible apply out_next
    | with_reducible rfl
    | with_reducible exact id
    | with_reducible exact Nat.le_refl _
    | split
    | dsimp only
    | with_reducible apply upd
    | exact trivial
    | rfl
    | exact id
    | exact Nat.le_refl _
    | intro _

theorem execRetrainS (h : Kept u s) : out u (@Sys2Proof.Machine.execRetrainS s) := by
  dsimp only [Sys2Proof.Machine.execRetrainS]
  repeat' first
    | with_reducible assumption
    | with_reducible apply retrain
    | with_reducible apply foldl
    | with_reducible apply forRange
    | with_reducible apply out_next
    | with_reducible rfl
    | with_reducible exact id
    | with_reducible exact Nat.le_refl _
    | split
    | dsimp only
    | with_reducible apply upd
    | exact trivial
    | rfl
    | exact id
    | exact Nat.le_refl _
    | intro _

theorem unmapped (h : Kept u s) {a1 a2 a3} : Kept u (@Sys2Proof.Machine.State.unmapped s a1 a2 a3) := by
  dsimp only [Sys2Proof.Machine.State.unmapped]
  repeat' first
    | with_reducible assumption
    | with_reducible apply slip
    | with_reducible apply satAdd
    | with_reducible apply wr
    | with_reducible apply foldl
    | with_reducible apply forRange
    | with_reducible rfl
    | with_reducible exact id
    | with_reducible exact Nat.le_refl _
    | split
    | dsimp only
    | with_reducible apply upd
    | exact trivial
    | rfl
    | exact id
    | exact Nat.le_refl _
    | intro _

theorem busXip (h : Kept u s) {a1 a2 a3} : Kept u (@Sys2Proof.Machine.State.busXip s a1 a2 a3).2 := by
  dsimp only [Sys2Proof.Machine.State.busXip]
  repeat' first
    | with_reducible assumption
    | with_reducible apply countFull
    | with_reducible apply countServed
    | with_reducible apply serveLine
    | with_reducible apply dieNotReady
    | with_reducible apply xipRead
    | with_reducible apply foldl
    | with_reducible apply forRange
    | (with_reducible apply snd_of; with_reducible assumption)
    | (with_reducible apply snd2_of; with_reducible assumption)
    | with_reducible rfl
    | with_reducible exact id
    | with_reducible exact Nat.le_refl _
    | split
    | dsimp only
    | with_reducible apply upd
    | exact trivial
    | rfl
    | exact id
    | exact Nat.le_refl _
    | intro _

theorem busFar (h : Kept u s) {a1 a2 a3} (hf : Kept u (a3 s).2) :
    Kept u (@Sys2Proof.Machine.State.busFar s a1 a2 a3).2 := by
  unfold Sys2Proof.Machine.State.busFar
  split
  · exact h
  · split
    · exact h
    · split
      · exact countFull h
      · exact hf
  · exact dieNotReady h

theorem busRead (h : Kept u s) {a1 a2 a3} : Kept u (@Sys2Proof.Machine.State.busRead s a1 a2 a3).2 := by
  unfold Sys2Proof.Machine.State.busRead
  extract_lets w out far
  have hfar : ∀ d, Kept u (far d).2 := fun d => busFar h (farRead h)
  clear_value far
  split
  · exact h
  · split
    · exact absentSlip h
    · split
      · exact h
      · exact busXip h
      · exact h
      · exact queueRead h
      · exact poolRead h
      · exact coreRead h
      · exact hfar _
      · exact hfar _
      · exact hfar _
      · exact Kept.unmapped h

theorem bufferWrite (h : Kept u s) {a1 a2 a3} : Kept u (@Sys2Proof.Machine.State.bufferWrite s a1 a2 a3) := by
  dsimp only [Sys2Proof.Machine.State.bufferWrite]
  repeat' first
    | with_reducible assumption
    | with_reducible apply putBytes
    | with_reducible apply foldl
    | with_reducible apply forRange
    | with_reducible rfl
    | with_reducible exact id
    | with_reducible exact Nat.le_refl _
    | split
    | dsimp only
    | with_reducible apply upd
    | exact trivial
    | rfl
    | exact id
    | exact Nat.le_refl _
    | intro _

theorem poolWrite (h : Kept u s) {a1 a2 a3} : Kept u (@Sys2Proof.Machine.State.poolWrite s a1 a2 a3) := by
  dsimp only [Sys2Proof.Machine.State.poolWrite]
  repeat' first
    | with_reducible assumption
    | with_reducible apply putBytes
    | with_reducible apply foldl
    | with_reducible apply forRange
    | with_reducible rfl
    | with_reducible exact id
    | with_reducible exact Nat.le_refl _
    | split
    | dsimp only
    | with_reducible apply upd
    | exact trivial
    | rfl
    | exact id
    | exact Nat.le_refl _
    | intro _

theorem busWriteCore (h : Kept u s) {a1 a2 a3 a4} : Kept u (@Sys2Proof.Machine.State.busWriteCore s a1 a2 a3 a4).2 := by
  unfold Sys2Proof.Machine.State.busWriteCore
  extract_lets far
  split
  · exact h
  · split
    · exact absentSlip h
    · split
      · exact putBytes h
      · split
        · exact h
        · exact absentSlip h
      · exact poolWrite h
      · exact ite' (bufferWrite h) (coreWrite h)
      · exact busFar h (farWrite h)
      · exact busFar h (putBytes h)
      · exact busFar h h
      · exact Kept.unmapped h

theorem answerWith {r : Ans × State} (h : Kept u r.2) : Kept u (Sys2Proof.Machine.State.answerWith r) := by
  dsimp only [Sys2Proof.Machine.State.answerWith]
  split
  · exact answer h
  · exact answerError h
  · exact answerWait h

theorem setMvState (h : Kept u s) {a1 a2} : Kept u (@Sys2Proof.Machine.State.setMvState s a1 a2) := by
  dsimp only [Sys2Proof.Machine.State.setMvState]
  repeat' first
    | with_reducible assumption
    | with_reducible apply wrF
    | with_reducible apply foldl
    | with_reducible apply forRange
    | with_reducible rfl
    | with_reducible exact id
    | with_reducible exact Nat.le_refl _
    | split
    | dsimp only
    | with_reducible apply upd
    | exact trivial
    | rfl
    | exact id
    | exact Nat.le_refl _
    | intro _

theorem setMvPend (h : Kept u s) {a1 a2} : Kept u (@Sys2Proof.Machine.State.setMvPend s a1 a2) := by
  dsimp only [Sys2Proof.Machine.State.setMvPend]
  repeat' first
    | with_reducible assumption
    | with_reducible apply wrF
    | with_reducible apply foldl
    | with_reducible apply forRange
    | with_reducible rfl
    | with_reducible exact id
    | with_reducible exact Nat.le_refl _
    | split
    | dsimp only
    | with_reducible apply upd
    | exact trivial
    | rfl
    | exact id
    | exact Nat.le_refl _
    | intro _

theorem setMvDesc (h : Kept u s) {a1 a2} : Kept u (@Sys2Proof.Machine.State.setMvDesc s a1 a2) := by
  dsimp only [Sys2Proof.Machine.State.setMvDesc]
  repeat' first
    | with_reducible assumption
    | with_reducible apply foldl
    | with_reducible apply forRange
    | with_reducible rfl
    | with_reducible exact id
    | with_reducible exact Nat.le_refl _
    | split
    | dsimp only
    | with_reducible apply upd
    | exact trivial
    | rfl
    | exact id
    | exact Nat.le_refl _
    | intro _

theorem mvEnd (h : Kept u s) {a1 a2 a3} : Kept u (@Sys2Proof.Machine.State.mvEnd s a1 a2 a3) := by
  dsimp only [Sys2Proof.Machine.State.mvEnd]
  repeat' first
    | with_reducible assumption
    | with_reducible apply event
    | with_reducible apply setMvPend
    | with_reducible apply wrF
    | with_reducible apply setMvState
    | with_reducible apply setMvDesc
    | with_reducible apply foldl
    | with_reducible apply forRange
    | with_reducible rfl
    | with_reducible exact id
    | with_reducible exact Nat.le_refl _
    | split
    | dsimp only
    | with_reducible apply upd
    | exact trivial
    | rfl
    | exact id
    | exact Nat.le_refl _
    | intro _

theorem mvQeFail (h : Kept u s) {a1 a2} : Kept u (@Sys2Proof.Machine.State.mvQeFail s a1 a2) := by
  dsimp only [Sys2Proof.Machine.State.mvQeFail]
  repeat' first
    | with_reducible assumption
    | with_reducible apply mvEnd
    | with_reducible apply wrF
    | with_reducible apply foldl
    | with_reducible apply forRange
    | with_reducible rfl
    | with_reducible exact id
    | with_reducible exact Nat.le_refl _
    | split
    | dsimp only
    | with_reducible apply upd
    | exact trivial
    | rfl
    | exact id
    | exact Nat.le_refl _
    | intro _

theorem mvBusErr (h : Kept u s) {a1 a2} : Kept u (@Sys2Proof.Machine.State.mvBusErr s a1 a2) := by
  dsimp only [Sys2Proof.Machine.State.mvBusErr]
  repeat' first
    | with_reducible assumption
    | with_reducible apply slip
    | with_reducible apply mvEnd
    | with_reducible apply wr
    | with_reducible apply foldl
    | with_reducible apply forRange
    | with_reducible rfl
    | with_reducible exact id
    | with_reducible exact Nat.le_refl _
    | split
    | dsimp only
    | with_reducible apply upd
    | exact trivial
    | rfl
    | exact id
    | exact Nat.le_refl _
    | intro _

theorem keepFull (h : Kept u s) {a1 a2} : Kept u (@Sys2Proof.Machine.State.keepFull s a1 a2) := by
  unfold Sys2Proof.Machine.State.keepFull
  exact ite' (satAdd h) h

theorem keepReads (h : Kept u s) {a1} : Kept u (@Sys2Proof.Machine.State.keepReads s a1) := by
  unfold Sys2Proof.Machine.State.keepReads
  exact upd (keepFull (keepFull h)) rfl rfl id id (Nat.le_refl _)

theorem mvWords (h : Kept u s) {a1 a2} : Kept u (@Sys2Proof.Machine.State.mvWords s a1 a2).2 := by
  induction a2 generalizing s a1 with
  | zero =>
    unfold Sys2Proof.Machine.State.mvWords
    repeat' first
      | with_reducible assumption
      | with_reducible apply busRead
      | with_reducible apply foldl
      | with_reducible apply forRange
      | (with_reducible apply snd_of; with_reducible assumption)
      | with_reducible rfl
      | with_reducible exact id
      | with_reducible exact Nat.le_refl _
      | split
      | dsimp only
      | (with_reducible apply snd_self; with_reducible assumption)
      | with_reducible apply upd
      | exact trivial
      | rfl
      | exact id
      | exact Nat.le_refl _
      | intro _
  | succ n ih =>
    unfold Sys2Proof.Machine.State.mvWords
    repeat' first
      | with_reducible assumption
      | with_reducible apply ih
      | with_reducible apply busRead
      | with_reducible apply foldl
      | with_reducible apply forRange
      | (with_reducible apply snd_of; with_reducible assumption)
      | with_reducible rfl
      | with_reducible exact id
      | with_reducible exact Nat.le_refl _
      | split
      | dsimp only
      | (with_reducible apply snd_self; with_reducible assumption)
      | with_reducible apply upd
      | exact trivial
      | rfl
      | exact id
      | exact Nat.le_refl _
      | intro _

theorem mvLoad (h : Kept u s) {a1 a2} : Kept u (@Sys2Proof.Machine.State.mvLoad s a1 a2) := by
  dsimp only [Sys2Proof.Machine.State.mvLoad]
  repeat' first
    | with_reducible assumption
    | with_reducible apply keepReads
    | with_reducible apply wr
    | with_reducible apply setMvState
    | with_reducible apply mvWords
    | with_reducible apply setMvDesc
    | with_reducible apply mvBusErr
    | with_reducible apply setMvPend
    | with_reducible apply mvEnd
    | with_reducible apply foldl
    | with_reducible apply forRange
    | (with_reducible apply snd_of; with_reducible assumption)
    | with_reducible rfl
    | with_reducible exact id
    | with_reducible exact Nat.le_refl _
    | split
    | dsimp only
    | with_reducible apply upd
    | exact trivial
    | rfl
    | exact id
    | exact Nat.le_refl _
    | intro _

theorem mvStart (h : Kept u s) {a1 a2} : Kept u (@Sys2Proof.Machine.State.mvStart s a1 a2) := by
  dsimp only [Sys2Proof.Machine.State.mvStart]
  repeat' first
    | with_reducible assumption
    | with_reducible apply wr
    | with_reducible apply setMvDesc
    | with_reducible apply setMvPend
    | with_reducible apply wrF
    | with_reducible apply mvLoad
    | with_reducible apply foldl
    | with_reducible apply forRange
    | with_reducible rfl
    | with_reducible exact id
    | with_reducible exact Nat.le_refl _
    | split
    | dsimp only
    | with_reducible apply upd
    | exact trivial
    | rfl
    | exact id
    | exact Nat.le_refl _
    | intro _

theorem execMoverStart (h : Kept u s) {a0 a1} : out u (@Sys2Proof.Machine.execMoverStart a0 a1 s) := by
  dsimp only [Sys2Proof.Machine.execMoverStart]
  repeat' first
    | with_reducible assumption
    | with_reducible apply answerError
    | with_reducible apply mvStart
    | with_reducible apply foldl
    | with_reducible apply forRange
    | with_reducible apply out_next
    | with_reducible rfl
    | with_reducible exact id
    | with_reducible exact Nat.le_refl _
    | split
    | dsimp only
    | with_reducible apply upd
    | exact trivial
    | rfl
    | exact id
    | exact Nat.le_refl _
    | intro _

theorem mvStop (h : Kept u s) {a1 a2} : Kept u (@Sys2Proof.Machine.State.mvStop s a1 a2) := by
  dsimp only [Sys2Proof.Machine.State.mvStop]
  repeat' first
    | with_reducible assumption
    | with_reducible apply mvEnd
    | with_reducible apply foldl
    | with_reducible apply forRange
    | with_reducible rfl
    | with_reducible exact id
    | with_reducible exact Nat.le_refl _
    | split
    | dsimp only
    | with_reducible apply upd
    | exact trivial
    | rfl
    | exact id
    | exact Nat.le_refl _
    | intro _

theorem execMoverStop (h : Kept u s) {a0} : out u (@Sys2Proof.Machine.execMoverStop a0 s) := by
  dsimp only [Sys2Proof.Machine.execMoverStop]
  repeat' first
    | with_reducible assumption
    | with_reducible apply mvStop
    | with_reducible apply foldl
    | with_reducible apply forRange
    | with_reducible apply out_next
    | with_reducible rfl
    | with_reducible exact id
    | with_reducible exact Nat.le_refl _
    | split
    | dsimp only
    | with_reducible apply upd
    | exact trivial
    | rfl
    | exact id
    | exact Nat.le_refl _
    | intro _

theorem writeMover (h : Kept u s) {a1 a2 a3} : Kept u (@Sys2Proof.Machine.State.writeMover s a1 a2 a3) := by
  dsimp only [Sys2Proof.Machine.State.writeMover]
  repeat' first
    | with_reducible assumption
    | with_reducible apply writePlain
    | with_reducible apply mvStop
    | with_reducible apply mvStart
    | with_reducible apply foldl
    | with_reducible apply forRange
    | with_reducible rfl
    | with_reducible exact id
    | with_reducible exact Nat.le_refl _
    | split
    | dsimp only
    | with_reducible apply upd
    | exact trivial
    | rfl
    | exact id
    | exact Nat.le_refl _
    | intro _

theorem busWrite (h : Kept u s) {a1 a2 a3 a4} : Kept u (@Sys2Proof.Machine.State.busWrite s a1 a2 a3 a4).2 := by
  dsimp only [Sys2Proof.Machine.State.busWrite]
  repeat' first
    | with_reducible assumption
    | with_reducible apply writeMover
    | with_reducible apply busWriteCore
    | with_reducible apply foldl
    | with_reducible apply forRange
    | (with_reducible apply snd_of; with_reducible assumption)
    | with_reducible rfl
    | with_reducible exact id
    | with_reducible exact Nat.le_refl _
    | split
    | dsimp only
    | with_reducible apply upd
    | exact trivial
    | rfl
    | exact id
    | exact Nat.le_refl _
    | intro _

theorem mvBeat (h : Kept u s) {a1} : mv u (@Sys2Proof.Machine.State.mvBeat s a1) := by
  dsimp only [Sys2Proof.Machine.State.mvBeat]
  repeat' first
    | with_reducible assumption
    | with_reducible apply busRead
    | with_reducible apply keepReads
    | with_reducible apply busWrite
    | with_reducible apply foldl
    | with_reducible apply forRange
    | with_reducible apply mv_mk_ok
    | with_reducible apply mv_mk_err
    | with_reducible apply mv_mk_wait
    | (with_reducible apply snd_of; with_reducible assumption)
    | with_reducible rfl
    | with_reducible exact id
    | with_reducible exact Nat.le_refl _
    | split
    | dsimp only
    | with_reducible apply upd
    | exact trivial
    | rfl
    | exact id
    | exact Nat.le_refl _
    | intro _

theorem mvBeats (h : Kept u s) {a1 a2} : mv u (@Sys2Proof.Machine.State.mvBeats s a1 a2) := by
  induction a2 generalizing s a1 with
  | zero =>
    unfold Sys2Proof.Machine.State.mvBeats
    repeat' first
      | with_reducible assumption
      | with_reducible apply mvBeat
      | with_reducible apply foldl
      | with_reducible apply forRange
      | with_reducible apply mv_mk_ok
      | with_reducible apply mv_mk_err
      | with_reducible apply mv_mk_wait
      | (with_reducible apply mv_ok; with_reducible assumption)
      | (with_reducible apply mv_err; with_reducible assumption)
      | (with_reducible apply mv_wait; with_reducible assumption)
      | with_reducible rfl
      | with_reducible exact id
      | with_reducible exact Nat.le_refl _
      | split
      | dsimp only
      | with_reducible apply upd
      | exact trivial
      | rfl
      | exact id
      | exact Nat.le_refl _
      | intro _
  | succ n ih =>
    unfold Sys2Proof.Machine.State.mvBeats
    repeat' first
      | with_reducible assumption
      | with_reducible apply ih
      | with_reducible apply mvBeat
      | with_reducible apply foldl
      | with_reducible apply forRange
      | with_reducible apply mv_mk_ok
      | with_reducible apply mv_mk_err
      | with_reducible apply mv_mk_wait
      | (with_reducible apply mv_ok; with_reducible assumption)
      | (with_reducible apply mv_err; with_reducible assumption)
      | (with_reducible apply mv_wait; with_reducible assumption)
      | with_reducible rfl
      | with_reducible exact id
      | with_reducible exact Nat.le_refl _
      | split
      | dsimp only
      | with_reducible apply upd
      | exact trivial
      | rfl
      | exact id
      | exact Nat.le_refl _
      | intro _

theorem mvIn (h : Kept u s) {a1 a2} : Kept u (@Sys2Proof.Machine.State.mvIn s a1 a2).2 := by
  induction a2 generalizing s a1 with
  | zero =>
    unfold Sys2Proof.Machine.State.mvIn
    repeat' first
      | with_reducible assumption
      | with_reducible apply busRead
      | with_reducible apply foldl
      | with_reducible apply forRange
      | (with_reducible apply snd_of; with_reducible assumption)
      | with_reducible rfl
      | with_reducible exact id
      | with_reducible exact Nat.le_refl _
      | split
      | dsimp only
      | (with_reducible apply snd_self; with_reducible assumption)
      | with_reducible apply upd
      | exact trivial
      | rfl
      | exact id
      | exact Nat.le_refl _
      | intro _
  | succ n ih =>
    unfold Sys2Proof.Machine.State.mvIn
    repeat' first
      | with_reducible assumption
      | with_reducible apply ih
      | with_reducible apply busRead
      | with_reducible apply foldl
      | with_reducible apply forRange
      | (with_reducible apply snd_of; with_reducible assumption)
      | with_reducible rfl
      | with_reducible exact id
      | with_reducible exact Nat.le_refl _
      | split
      | dsimp only
      | (with_reducible apply snd_self; with_reducible assumption)
      | with_reducible apply upd
      | exact trivial
      | rfl
      | exact id
      | exact Nat.le_refl _
      | intro _

theorem mvOut (h : Kept u s) {a1 a2 a3} : Kept u (@Sys2Proof.Machine.State.mvOut s a1 a2 a3).2 := by
  induction a2 generalizing s a1 a3 with
  | zero =>
    unfold Sys2Proof.Machine.State.mvOut
    repeat' first
      | with_reducible assumption
      | with_reducible apply busWrite
      | with_reducible apply foldl
      | with_reducible apply forRange
      | (with_reducible apply snd_of; with_reducible assumption)
      | with_reducible rfl
      | with_reducible exact id
      | with_reducible exact Nat.le_refl _
      | split
      | dsimp only
      | (with_reducible apply snd_self; with_reducible assumption)
      | with_reducible apply upd
      | exact trivial
      | rfl
      | exact id
      | exact Nat.le_refl _
      | intro _
  | succ n ih =>
    unfold Sys2Proof.Machine.State.mvOut
    repeat' first
      | with_reducible assumption
      | with_reducible apply ih
      | with_reducible apply busWrite
      | with_reducible apply foldl
      | with_reducible apply forRange
      | (with_reducible apply snd_of; with_reducible assumption)
      | with_reducible rfl
      | with_reducible exact id
      | with_reducible exact Nat.le_refl _
      | split
      | dsimp only
      | (with_reducible apply snd_self; with_reducible assumption)
      | with_reducible apply upd
      | exact trivial
      | rfl
      | exact id
      | exact Nat.le_refl _
      | intro _

theorem mvToQueue (h : Kept u s) {a1 a2} : sum u (@Sys2Proof.Machine.State.mvToQueue s a1 a2) := by
  dsimp only [Sys2Proof.Machine.State.mvToQueue]
  repeat' first
    | with_reducible assumption
    | with_reducible apply mvQeFail
    | with_reducible apply alloc
    | with_reducible apply mvIn
    | with_reducible apply keepReads
    | with_reducible apply qeNow
    | with_reducible apply fillCells
    | with_reducible apply releaseFrame
    | with_reducible apply foldl
    | with_reducible apply forRange
    | with_reducible apply sum_mk_inl
    | with_reducible apply sum_mk_inr
    | with_reducible apply mv_mk_ok
    | with_reducible apply mv_mk_err
    | with_reducible apply mv_mk_wait
    | (with_reducible apply snd2_of; with_reducible assumption)
    | (with_reducible apply snd_of; with_reducible assumption)
    | with_reducible rfl
    | with_reducible exact id
    | with_reducible exact Nat.le_refl _
    | split
    | dsimp only
    | with_reducible apply upd
    | exact trivial
    | rfl
    | exact id
    | exact Nat.le_refl _
    | intro _

theorem mvFromQueue (h : Kept u s) {a1 a2} : sum u (@Sys2Proof.Machine.State.mvFromQueue s a1 a2) := by
  dsimp only [Sys2Proof.Machine.State.mvFromQueue]
  repeat' first
    | with_reducible assumption
    | with_reducible apply mvQeFail
    | with_reducible apply qeNow
    | with_reducible apply mvOut
    | with_reducible apply keepReads
    | with_reducible apply mvWords
    | with_reducible apply busWrite
    | with_reducible apply releaseFrame
    | with_reducible apply foldl
    | with_reducible apply forRange
    | with_reducible apply sum_mk_inl
    | with_reducible apply sum_mk_inr
    | with_reducible apply mv_mk_ok
    | with_reducible apply mv_mk_err
    | with_reducible apply mv_mk_wait
    | (with_reducible apply snd_of; with_reducible assumption)
    | with_reducible rfl
    | with_reducible exact id
    | with_reducible exact Nat.le_refl _
    | split
    | dsimp only
    | with_reducible apply upd
    | exact trivial
    | rfl
    | exact id
    | exact Nat.le_refl _
    | intro _

theorem mvPut (h : Kept u s) {a1 a2} : Kept u (@Sys2Proof.Machine.State.mvPut s a1 a2) := by
  dsimp only [Sys2Proof.Machine.State.mvPut]
  repeat' first
    | with_reducible assumption
    | with_reducible apply wr
    | with_reducible apply setMvDesc
    | with_reducible apply foldl
    | with_reducible apply forRange
    | with_reducible rfl
    | with_reducible exact id
    | with_reducible exact Nat.le_refl _
    | split
    | dsimp only
    | with_reducible apply upd
    | exact trivial
    | rfl
    | exact id
    | exact Nat.le_refl _
    | intro _

theorem mvFinish (h : Kept u s) {a1 a2} : Kept u (@Sys2Proof.Machine.State.mvFinish s a1 a2) := by
  dsimp only [Sys2Proof.Machine.State.mvFinish]
  repeat' first
    | with_reducible assumption
    | with_reducible apply wr
    | with_reducible apply mvEnd
    | with_reducible apply mvLoad
    | with_reducible apply foldl
    | with_reducible apply forRange
    | with_reducible rfl
    | with_reducible exact id
    | with_reducible exact Nat.le_refl _
    | split
    | dsimp only
    | with_reducible apply upd
    | exact trivial
    | rfl
    | exact id
    | exact Nat.le_refl _
    | intro _

theorem mvWork (h : Kept u s) {a1 a2} : sum u (@Sys2Proof.Machine.State.mvWork s a1 a2) := by
  dsimp only [Sys2Proof.Machine.State.mvWork]
  repeat' first
    | with_reducible assumption
    | with_reducible apply mvBeats
    | with_reducible apply mvToQueue
    | with_reducible apply mvFromQueue
    | with_reducible apply foldl
    | with_reducible apply forRange
    | with_reducible apply sum_mk_inl
    | with_reducible apply sum_mk_inr
    | with_reducible apply mv_mk_ok
    | with_reducible apply mv_mk_err
    | with_reducible apply mv_mk_wait
    | (with_reducible apply mv_ok; with_reducible assumption)
    | (with_reducible apply mv_err; with_reducible assumption)
    | (with_reducible apply mv_wait; with_reducible assumption)
    | (with_reducible apply sum_inl; with_reducible assumption)
    | (with_reducible apply sum_inr; with_reducible assumption)
    | with_reducible rfl
    | with_reducible exact id
    | with_reducible exact Nat.le_refl _
    | split
    | dsimp only
    | with_reducible apply upd
    | exact trivial
    | rfl
    | exact id
    | exact Nat.le_refl _
    | intro _

theorem mvComplete (h : Kept u s) {a1 a2} : Kept u (@Sys2Proof.Machine.State.mvComplete s a1 a2) := by
  have hr := mvWork h (a1 := a1) (a2 := a2)
  unfold Sys2Proof.Machine.State.mvComplete
  split
  · next e => exact mvFinish (mv_ok rfl (sum_inl e hr))
  · next e => exact mvBusErr (mv_err rfl (sum_inl e hr))
  · next e => exact ite' (mvPut (mv_wait rfl (sum_inl e hr))) (mv_wait rfl (sum_inl e hr))
  · next e => exact sum_inr e hr

theorem mvHold (h : Kept u s) {a1 a2} : Kept u (@Sys2Proof.Machine.State.mvHold s a1 a2) := by
  dsimp only [Sys2Proof.Machine.State.mvHold]
  repeat' first
    | with_reducible assumption
    | with_reducible apply setMvPend
    | with_reducible apply satAdd
    | with_reducible apply foldl
    | with_reducible apply forRange
    | with_reducible rfl
    | with_reducible exact id
    | with_reducible exact Nat.le_refl _
    | split
    | dsimp only
    | with_reducible apply upd
    | exact trivial
    | rfl
    | exact id
    | exact Nat.le_refl _
    | intro _

theorem mvServe (h : Kept u s) {a1 a2} : Kept u (@Sys2Proof.Machine.State.mvServe s a1 a2) := by
  induction a2 generalizing s a1 with
  | zero =>
    unfold Sys2Proof.Machine.State.mvServe
    repeat' first
      | with_reducible assumption
      | with_reducible apply setMvState
      | with_reducible apply setMvPend
      | with_reducible apply mvHold
      | with_reducible apply wr
      | with_reducible apply mvBeats
      | with_reducible apply mvPut
      | with_reducible apply mvBusErr
      | with_reducible apply keepReads
      | with_reducible apply foldl
      | with_reducible apply forRange
      | (with_reducible apply mv_ok; with_reducible assumption)
      | (with_reducible apply mv_err; with_reducible assumption)
      | (with_reducible apply mv_wait; with_reducible assumption)
      | with_reducible rfl
      | with_reducible exact id
      | with_reducible exact Nat.le_refl _
      | split
      | dsimp only
      | with_reducible apply upd
      | exact trivial
      | rfl
      | exact id
      | exact Nat.le_refl _
      | intro _
  | succ n ih =>
    unfold Sys2Proof.Machine.State.mvServe
    repeat' first
      | with_reducible assumption
      | with_reducible apply ih
      | with_reducible apply setMvState
      | with_reducible apply setMvPend
      | with_reducible apply mvHold
      | with_reducible apply wr
      | with_reducible apply mvBeats
      | with_reducible apply mvPut
      | with_reducible apply mvBusErr
      | with_reducible apply keepReads
      | with_reducible apply foldl
      | with_reducible apply forRange
      | (with_reducible apply mv_ok; with_reducible assumption)
      | (with_reducible apply mv_err; with_reducible assumption)
      | (with_reducible apply mv_wait; with_reducible assumption)
      | with_reducible rfl
      | with_reducible exact id
      | with_reducible exact Nat.le_refl _
      | split
      | dsimp only
      | with_reducible apply upd
      | exact trivial
      | rfl
      | exact id
      | exact Nat.le_refl _
      | intro _

theorem ignoreRequest (h : Kept u s) {a1} : Kept u (@Sys2Proof.Machine.State.ignoreRequest s a1) := by
  dsimp only [Sys2Proof.Machine.State.ignoreRequest]
  repeat' first
    | with_reducible assumption
    | with_reducible apply foldl
    | with_reducible apply forRange
    | with_reducible rfl
    | with_reducible exact id
    | with_reducible exact Nat.le_refl _
    | split
    | dsimp only
    | with_reducible apply upd
    | exact trivial
    | rfl
    | exact id
    | exact Nat.le_refl _
    | intro _

theorem execMoverPacedRequest (h : Kept u s) {a0 a1} : out u (@Sys2Proof.Machine.execMoverPacedRequest a0 a1 s) := by
  dsimp only [Sys2Proof.Machine.execMoverPacedRequest]
  repeat' first
    | with_reducible assumption
    | with_reducible apply ignoreRequest
    | with_reducible apply setMvState
    | with_reducible apply setMvPend
    | with_reducible apply satAdd
    | with_reducible apply mvServe
    | with_reducible apply foldl
    | with_reducible apply forRange
    | with_reducible apply out_next
    | with_reducible rfl
    | with_reducible exact id
    | with_reducible exact Nat.le_refl _
    | split
    | dsimp only
    | with_reducible apply upd
    | exact trivial
    | rfl
    | exact id
    | exact Nat.le_refl _
    | intro _

theorem execMoverDescriptorDone (h : Kept u s) {a0} : out u (@Sys2Proof.Machine.execMoverDescriptorDone a0 s) := by
  dsimp only [Sys2Proof.Machine.execMoverDescriptorDone]
  repeat' first
    | with_reducible assumption
    | with_reducible apply mvLoad
    | with_reducible apply mvComplete
    | with_reducible apply mvServe
    | with_reducible apply foldl
    | with_reducible apply forRange
    | with_reducible apply out_next
    | with_reducible rfl
    | with_reducible exact id
    | with_reducible exact Nat.le_refl _
    | split
    | dsimp only
    | with_reducible apply upd
    | exact trivial
    | rfl
    | exact id
    | exact Nat.le_refl _
    | intro _

theorem execMoverBusError (h : Kept u s) {a0 a1} : out u (@Sys2Proof.Machine.execMoverBusError a0 a1 s) := by
  dsimp only [Sys2Proof.Machine.execMoverBusError]
  repeat' first
    | with_reducible assumption
    | with_reducible apply mvBusErr
    | with_reducible apply foldl
    | with_reducible apply forRange
    | with_reducible apply out_next
    | with_reducible rfl
    | with_reducible exact id
    | with_reducible exact Nat.le_refl _
    | split
    | dsimp only
    | with_reducible apply upd
    | exact trivial
    | rfl
    | exact id
    | exact Nat.le_refl _
    | intro _

theorem access (h : Kept u s) {a1 a2 a3 a4} : Kept u (@Sys2Proof.Machine.State.access s a1 a2 a3 a4) := by
  dsimp only [Sys2Proof.Machine.State.access]
  repeat' first
    | with_reducible assumption
    | with_reducible apply answerError
    | with_reducible apply presentReq
    | with_reducible apply answerWith
    | with_reducible apply busWrite
    | with_reducible apply busRead
    | with_reducible apply foldl
    | with_reducible apply forRange
    | (with_reducible apply snd_of; with_reducible assumption)
    | with_reducible rfl
    | with_reducible exact id
    | with_reducible exact Nat.le_refl _
    | split
    | dsimp only
    | with_reducible apply upd
    | exact trivial
    | rfl
    | exact id
    | exact Nat.le_refl _
    | intro _

theorem execAbsentUnitRead (h : Kept u s) {a0 a1} : out u (@Sys2Proof.Machine.execAbsentUnitRead a0 a1 s) := by
  dsimp only [Sys2Proof.Machine.execAbsentUnitRead]
  repeat' first
    | with_reducible assumption
    | with_reducible apply answerError
    | with_reducible apply answer
    | with_reducible apply absentSlip
    | with_reducible apply foldl
    | with_reducible apply forRange
    | with_reducible apply out_next
    | with_reducible rfl
    | with_reducible exact id
    | with_reducible exact Nat.le_refl _
    | split
    | dsimp only
    | with_reducible apply upd
    | exact trivial
    | rfl
    | exact id
    | exact Nat.le_refl _
    | intro _

theorem execAbsentUnitWrite (h : Kept u s) {a0 a1 a2} : out u (@Sys2Proof.Machine.execAbsentUnitWrite a0 a1 a2 s) := by
  dsimp only [Sys2Proof.Machine.execAbsentUnitWrite]
  repeat' first
    | with_reducible assumption
    | with_reducible apply answerError
    | with_reducible apply unmapped
    | with_reducible apply answer
    | with_reducible apply absentSlip
    | with_reducible apply foldl
    | with_reducible apply forRange
    | with_reducible apply out_next
    | with_reducible rfl
    | with_reducible exact id
    | with_reducible exact Nat.le_refl _
    | split
    | dsimp only
    | with_reducible apply upd
    | exact trivial
    | rfl
    | exact id
    | exact Nat.le_refl _
    | intro _

theorem execRcRegisterRead (h : Kept u s) {a0 a1} : out u (@Sys2Proof.Machine.execRcRegisterRead a0 a1 s) := by
  dsimp only [Sys2Proof.Machine.execRcRegisterRead]
  repeat' first
    | with_reducible assumption
    | with_reducible apply access
    | with_reducible apply foldl
    | with_reducible apply forRange
    | with_reducible apply out_next
    | with_reducible rfl
    | with_reducible exact id
    | with_reducible exact Nat.le_refl _
    | split
    | dsimp only
    | with_reducible apply upd
    | exact trivial
    | rfl
    | exact id
    | exact Nat.le_refl _
    | intro _

theorem execRegisterWrite (h : Kept u s) {a0 a1 a2} : out u (@Sys2Proof.Machine.execRegisterWrite a0 a1 a2 s) := by
  dsimp only [Sys2Proof.Machine.execRegisterWrite]
  repeat' first
    | with_reducible assumption
    | with_reducible apply access
    | with_reducible apply foldl
    | with_reducible apply forRange
    | with_reducible apply out_next
    | with_reducible rfl
    | with_reducible exact id
    | with_reducible exact Nat.le_refl _
    | split
    | dsimp only
    | with_reducible apply upd
    | exact trivial
    | rfl
    | exact id
    | exact Nat.le_refl _
    | intro _

theorem execUnmappedAccess (h : Kept u s) {a0 a1 a2} : out u (@Sys2Proof.Machine.execUnmappedAccess a0 a1 a2 s) := by
  dsimp only [Sys2Proof.Machine.execUnmappedAccess]
  repeat' first
    | with_reducible assumption
    | with_reducible apply answerError
    | with_reducible apply unmapped
    | with_reducible apply foldl
    | with_reducible apply forRange
    | with_reducible apply out_next
    | with_reducible rfl
    | with_reducible exact id
    | with_reducible exact Nat.le_refl _
    | split
    | dsimp only
    | with_reducible apply upd
    | exact trivial
    | rfl
    | exact id
    | exact Nat.le_refl _
    | intro _

theorem execQueueMemoryWrite (h : Kept u s) {a0 a1 a2} : out u (@Sys2Proof.Machine.execQueueMemoryWrite a0 a1 a2 s) := by
  dsimp only [Sys2Proof.Machine.execQueueMemoryWrite]
  repeat' first
    | with_reducible assumption
    | with_reducible apply access
    | with_reducible apply foldl
    | with_reducible apply forRange
    | with_reducible apply out_next
    | with_reducible rfl
    | with_reducible exact id
    | with_reducible exact Nat.le_refl _
    | split
    | dsimp only
    | with_reducible apply upd
    | exact trivial
    | rfl
    | exact id
    | exact Nat.le_refl _
    | intro _

theorem execBufferLinkWordWrite (h : Kept u s) {a0 a1 a2} : out u (@Sys2Proof.Machine.execBufferLinkWordWrite a0 a1 a2 s) := by
  dsimp only [Sys2Proof.Machine.execBufferLinkWordWrite]
  repeat' first
    | with_reducible assumption
    | with_reducible apply access
    | with_reducible apply foldl
    | with_reducible apply forRange
    | with_reducible apply out_next
    | with_reducible rfl
    | with_reducible exact id
    | with_reducible exact Nat.le_refl _
    | split
    | dsimp only
    | with_reducible apply upd
    | exact trivial
    | rfl
    | exact id
    | exact Nat.le_refl _
    | intro _

theorem timerTask (h : Kept u s) {a1 a2} : out u (@Sys2Proof.Machine.timerTask a1 a2 s) := by
  dsimp only [Sys2Proof.Machine.timerTask]
  repeat' first
    | with_reducible assumption
    | with_reducible apply execTimerStart
    | with_reducible apply execTimerStop
    | with_reducible apply execTimerClear
    | with_reducible apply execTimerCapture
    | with_reducible apply foldl
    | with_reducible apply forRange
    | with_reducible apply out_next
    | with_reducible rfl
    | with_reducible exact id
    | with_reducible exact Nat.le_refl _
    | split
    | dsimp only
    | with_reducible apply upd
    | exact trivial
    | rfl
    | exact id
    | exact Nat.le_refl _
    | intro _

theorem runTask (h : Kept u s) {a1} : Kept u (@Sys2Proof.Machine.State.runTask s a1) := by
  unfold Sys2Proof.Machine.State.runTask
  refine after h ?_
  split
  · exact timerTask h
  · split
    · exact execMoverPacedRequest h
    · split
      · split
        · exact execAdcStart h
        · exact execAdcSeq h
        · exact execAdcStop h
        · exact execPanelFlip h
        · exact execPanelPowerOn h
        · exact execPanelPowerOff h
        · exact h
      · split
        · exact execGpioTaskPort h
        · split
          · exact execAiropFabricTask h
          · split
            · exact execTamperTrip h
            · exact execTamperTrip h
            · exact execRelStart h
            · exact execRelStart h
            · exact execRelDrop h
            · exact execRelDrop h
            · exact execSpiStart h
            · exact execSpiStart h
            · exact execUartSendTask h
            · exact execUartSendTask h
            · exact h

theorem fabricPerclk (h : Kept u s) : Kept u (@Sys2Proof.Machine.State.fabricPerclk s) := by
  dsimp only [Sys2Proof.Machine.State.fabricPerclk]
  repeat' first
    | with_reducible assumption
    | with_reducible apply fabricCycle
    | with_reducible apply runTask
    | with_reducible apply foldl
    | with_reducible apply forRange
    | with_reducible rfl
    | with_reducible exact id
    | with_reducible exact Nat.le_refl _
    | split
    | dsimp only
    | with_reducible apply upd
    | exact trivial
    | rfl
    | exact id
    | exact Nat.le_refl _
    | intro _

theorem execFabricChannelFire (h : Kept u s) : out u (@Sys2Proof.Machine.execFabricChannelFire s) := by
  dsimp only [Sys2Proof.Machine.execFabricChannelFire]
  repeat' first
    | with_reducible assumption
    | with_reducible apply fabricPerclk
    | with_reducible apply advanceDeliveries
    | with_reducible apply evalCells
    | with_reducible apply latchBackup
    | with_reducible apply fireChannel
    | with_reducible apply foldl
    | with_reducible apply forRange
    | with_reducible apply out_next
    | (with_reducible apply fst_of; with_reducible assumption)
    | with_reducible rfl
    | with_reducible exact id
    | with_reducible exact Nat.le_refl _
    | split
    | dsimp only
    | with_reducible apply upd
    | exact trivial
    | rfl
    | exact id
    | exact Nat.le_refl _
    | intro _

theorem hostError (h : Kept u s) {a1} : Kept u (@Sys2Proof.Machine.State.hostError s a1) := by
  dsimp only [Sys2Proof.Machine.State.hostError]
  repeat' first
    | with_reducible assumption
    | with_reducible apply foldl
    | with_reducible apply forRange
    | with_reducible rfl
    | with_reducible exact id
    | with_reducible exact Nat.le_refl _
    | split
    | dsimp only
    | with_reducible apply upd
    | exact trivial
    | rfl
    | exact id
    | exact Nat.le_refl _
    | intro _

theorem execHifHostBusError (h : Kept u s) : out u (@Sys2Proof.Machine.execHifHostBusError s) := by
  dsimp only [Sys2Proof.Machine.execHifHostBusError]
  repeat' first
    | with_reducible assumption
    | with_reducible apply hifErrEvent
    | with_reducible apply slip
    | with_reducible apply hifErr
    | with_reducible apply foldl
    | with_reducible apply forRange
    | with_reducible apply out_next
    | with_reducible rfl
    | with_reducible exact id
    | with_reducible exact Nat.le_refl _
    | split
    | dsimp only
    | with_reducible apply upd
    | exact trivial
    | rfl
    | exact id
    | exact Nat.le_refl _
    | intro _

theorem hostIssue (h : Kept u s) {a1 a2 a3 a4} : Kept u (@Sys2Proof.Machine.State.hostIssue s a1 a2 a3 a4).2 := by
  dsimp only [Sys2Proof.Machine.State.hostIssue]
  repeat' first
    | with_reducible assumption
    | with_reducible apply doorbellIn
    | with_reducible apply busWrite
    | with_reducible apply hostError
    | with_reducible apply foldl
    | with_reducible apply forRange
    | (with_reducible apply snd_of; with_reducible assumption)
    | with_reducible rfl
    | with_reducible exact id
    | with_reducible exact Nat.le_refl _
    | split
    | dsimp only
    | (with_reducible apply snd_self; with_reducible assumption)
    | with_reducible apply upd
    | exact trivial
    | rfl
    | exact id
    | exact Nat.le_refl _
    | intro _

theorem keepWord (h : Kept u s) {a1 a2} : Kept u (@Sys2Proof.Machine.State.keepWord s a1 a2) := by
  unfold Sys2Proof.Machine.State.keepWord
  split
  · exact putBytes h
  · split
    · exact wr h
    · exact h

theorem hostWrite (h : Kept u s) {a1 a2 a3 a4} : Kept u (@Sys2Proof.Machine.State.hostWrite s a1 a2 a3 a4).2 := by
  dsimp only [Sys2Proof.Machine.State.hostWrite]
  repeat' first
    | with_reducible assumption
    | with_reducible apply hostIssue
    | with_reducible apply keepWord
    | with_reducible apply doorbellIn
    | with_reducible apply busWrite
    | with_reducible apply hostError
    | with_reducible apply foldl
    | with_reducible apply forRange
    | (with_reducible apply snd_of; with_reducible assumption)
    | with_reducible rfl
    | with_reducible exact id
    | with_reducible exact Nat.le_refl _
    | split
    | dsimp only
    | with_reducible apply upd
    | exact trivial
    | rfl
    | exact id
    | exact Nat.le_refl _
    | intro _

theorem hostRead (h : Kept u s) {a1 a2 a3} : Kept u (@Sys2Proof.Machine.State.hostRead s a1 a2 a3).2 := by
  dsimp only [Sys2Proof.Machine.State.hostRead]
  repeat' first
    | with_reducible assumption
    | with_reducible apply busRead
    | with_reducible apply hostError
    | with_reducible apply foldl
    | with_reducible apply forRange
    | (with_reducible apply snd_of; with_reducible assumption)
    | with_reducible rfl
    | with_reducible exact id
    | with_reducible exact Nat.le_refl _
    | split
    | dsimp only
    | with_reducible apply upd
    | exact trivial
    | rfl
    | exact id
    | exact Nat.le_refl _
    | intro _

theorem hifReply (h : Kept u s) {a1 a2 a3} : Kept u (@Sys2Proof.Machine.State.hifReply s a1 a2 a3) := by
  dsimp only [Sys2Proof.Machine.State.hifReply]
  repeat' first
    | with_reducible assumption
    | with_reducible apply hifSend
    | with_reducible apply foldl
    | with_reducible apply forRange
    | with_reducible rfl
    | with_reducible exact id
    | with_reducible exact Nat.le_refl _
    | split
    | dsimp only
    | with_reducible apply upd
    | exact trivial
    | rfl
    | exact id
    | exact Nat.le_refl _
    | intro _

theorem hif1Frame (h : Kept u s) {a1 a2 a3 a4} (hf : ∀ f, Kept u (a4 f)) : Kept u (@Sys2Proof.Machine.State.hif1Frame s a1 a2 a3 a4) := by
  dsimp only [Sys2Proof.Machine.State.hif1Frame]
  repeat' first
    | with_reducible assumption
    | with_reducible apply hf
    | with_reducible apply hifErr
    | with_reducible apply hifReply
    | with_reducible apply foldl
    | with_reducible apply forRange
    | with_reducible rfl
    | with_reducible exact id
    | with_reducible exact Nat.le_refl _
    | split
    | dsimp only
    | with_reducible apply upd
    | exact trivial
    | rfl
    | exact id
    | exact Nat.le_refl _
    | intro _

theorem execHif1Hello (h : Kept u s) {a0} : out u (@Sys2Proof.Machine.execHif1Hello a0 s) := by
  dsimp only [Sys2Proof.Machine.execHif1Hello]
  repeat' first
    | with_reducible assumption
    | with_reducible apply hif1Frame
    | with_reducible apply hifReply
    | with_reducible apply foldl
    | with_reducible apply forRange
    | with_reducible apply out_next
    | with_reducible rfl
    | with_reducible exact id
    | with_reducible exact Nat.le_refl _
    | split
    | dsimp only
    | with_reducible apply upd
    | exact trivial
    | rfl
    | exact id
    | exact Nat.le_refl _
    | intro _

theorem hostWords (h : Kept u s) {a1 a2 a3} : Kept u (@Sys2Proof.Machine.State.hostWords s a1 a2 a3).2 := by
  induction a3 generalizing s a1 a2 with
  | zero =>
    unfold Sys2Proof.Machine.State.hostWords
    repeat' first
      | with_reducible assumption
      | with_reducible apply hostRead
      | with_reducible apply foldl
      | with_reducible apply forRange
      | (with_reducible apply snd_of; with_reducible assumption)
      | with_reducible rfl
      | with_reducible exact id
      | with_reducible exact Nat.le_refl _
      | split
      | dsimp only
      | (with_reducible apply snd_self; with_reducible assumption)
      | with_reducible apply upd
      | exact trivial
      | rfl
      | exact id
      | exact Nat.le_refl _
      | intro _
  | succ n ih =>
    unfold Sys2Proof.Machine.State.hostWords
    repeat' first
      | with_reducible assumption
      | with_reducible apply ih
      | with_reducible apply hostRead
      | with_reducible apply foldl
      | with_reducible apply forRange
      | (with_reducible apply snd_of; with_reducible assumption)
      | with_reducible rfl
      | with_reducible exact id
      | with_reducible exact Nat.le_refl _
      | split
      | dsimp only
      | (with_reducible apply snd_self; with_reducible assumption)
      | with_reducible apply upd
      | exact trivial
      | rfl
      | exact id
      | exact Nat.le_refl _
      | intro _

theorem hostPuts (h : Kept u s) {a1 a2 a3} : Kept u (@Sys2Proof.Machine.State.hostPuts s a1 a2 a3).2 := by
  induction a3 generalizing s a1 a2 with
  | nil =>
    unfold Sys2Proof.Machine.State.hostPuts
    repeat' first
      | with_reducible assumption
      | with_reducible apply hostWrite
      | with_reducible apply foldl
      | with_reducible apply forRange
      | (with_reducible apply snd_of; with_reducible assumption)
      | with_reducible rfl
      | with_reducible exact id
      | with_reducible exact Nat.le_refl _
      | split
      | dsimp only
      | (with_reducible apply snd_self; with_reducible assumption)
      | with_reducible apply upd
      | exact trivial
      | rfl
      | exact id
      | exact Nat.le_refl _
      | intro _
  | cons x l ih =>
    unfold Sys2Proof.Machine.State.hostPuts
    repeat' first
      | with_reducible assumption
      | with_reducible apply ih
      | with_reducible apply hostWrite
      | with_reducible apply foldl
      | with_reducible apply forRange
      | (with_reducible apply snd_of; with_reducible assumption)
      | with_reducible rfl
      | with_reducible exact id
      | with_reducible exact Nat.le_refl _
      | split
      | dsimp only
      | (with_reducible apply snd_self; with_reducible assumption)
      | with_reducible apply upd
      | exact trivial
      | rfl
      | exact id
      | exact Nat.le_refl _
      | intro _

theorem execHif1Read (h : Kept u s) {a0} : out u (@Sys2Proof.Machine.execHif1Read a0 s) := by
  dsimp only [Sys2Proof.Machine.execHif1Read]
  repeat' first
    | with_reducible assumption
    | with_reducible apply holdCmd
    | with_reducible apply hif1Frame
    | with_reducible apply hifReply
    | with_reducible apply hostWords
    | with_reducible apply keepReads
    | with_reducible apply foldl
    | with_reducible apply forRange
    | with_reducible apply out_next
    | (with_reducible apply snd_of; with_reducible assumption)
    | with_reducible rfl
    | with_reducible exact id
    | with_reducible exact Nat.le_refl _
    | split
    | dsimp only
    | with_reducible apply upd
    | exact trivial
    | rfl
    | exact id
    | exact Nat.le_refl _
    | intro _

theorem execHif1Write (h : Kept u s) {a0} : out u (@Sys2Proof.Machine.execHif1Write a0 s) := by
  dsimp only [Sys2Proof.Machine.execHif1Write]
  repeat' first
    | with_reducible assumption
    | with_reducible apply holdCmd
    | with_reducible apply hif1Frame
    | with_reducible apply hostPuts
    | with_reducible apply hifReply
    | with_reducible apply keepReads
    | with_reducible apply foldl
    | with_reducible apply forRange
    | with_reducible apply out_next
    | (with_reducible apply snd_of; with_reducible assumption)
    | with_reducible rfl
    | with_reducible exact id
    | with_reducible exact Nat.le_refl _
    | split
    | dsimp only
    | with_reducible apply upd
    | exact trivial
    | rfl
    | exact id
    | exact Nat.le_refl _
    | intro _

theorem hifEnqueue (h : Kept u s) {a1 a2} : opt3 u (@Sys2Proof.Machine.State.hifEnqueue s a1 a2) := by
  dsimp only [Sys2Proof.Machine.State.hifEnqueue]
  repeat' first
    | with_reducible assumption
    | with_reducible apply openTaken
    | with_reducible apply alloc
    | with_reducible apply qeNow
    | with_reducible apply fillCells
    | with_reducible apply releaseFrame
    | with_reducible apply foldl
    | with_reducible apply forRange
    | with_reducible apply opt3_some
    | (with_reducible apply snd2_of; with_reducible assumption)
    | (with_reducible apply snd_of; with_reducible assumption)
    | with_reducible rfl
    | with_reducible exact id
    | with_reducible exact Nat.le_refl _
    | split
    | dsimp only
    | with_reducible apply upd
    | exact trivial
    | rfl
    | exact id
    | exact Nat.le_refl _
    | intro _

theorem execHif1Enqueue (h : Kept u s) {a0} : out u (@Sys2Proof.Machine.execHif1Enqueue a0 s) := by
  dsimp only [Sys2Proof.Machine.execHif1Enqueue]
  repeat' first
    | with_reducible assumption
    | with_reducible apply holdCmd
    | with_reducible apply hif1Frame
    | with_reducible apply hifEnqueue
    | with_reducible apply hifReply
    | with_reducible apply foldl
    | with_reducible apply forRange
    | with_reducible apply out_next
    | (with_reducible apply opt3_of; with_reducible assumption)
    | with_reducible rfl
    | with_reducible exact id
    | with_reducible exact Nat.le_refl _
    | split
    | dsimp only
    | with_reducible apply upd
    | exact trivial
    | rfl
    | exact id
    | exact Nat.le_refl _
    | intro _

theorem execHif1SoftwareFrame (h : Kept u s) {a0} : out u (@Sys2Proof.Machine.execHif1SoftwareFrame a0 s) := by
  dsimp only [Sys2Proof.Machine.execHif1SoftwareFrame]
  repeat' first
    | with_reducible assumption
    | with_reducible apply hif1Frame
    | with_reducible apply hifReply
    | with_reducible apply event
    | with_reducible apply wr
    | with_reducible apply putBytes
    | with_reducible apply foldl
    | with_reducible apply forRange
    | with_reducible apply out_next
    | with_reducible rfl
    | with_reducible exact id
    | with_reducible exact Nat.le_refl _
    | split
    | dsimp only
    | with_reducible apply upd
    | exact trivial
    | rfl
    | exact id
    | exact Nat.le_refl _
    | intro _

theorem spiSend (h : Kept u s) {a1} : Kept u (@Sys2Proof.Machine.State.spiSend s a1) := by
  dsimp only [Sys2Proof.Machine.State.spiSend]
  repeat' first
    | with_reducible assumption
    | with_reducible apply foldl
    | with_reducible apply forRange
    | with_reducible rfl
    | with_reducible exact id
    | with_reducible exact Nat.le_refl _
    | split
    | dsimp only
    | with_reducible apply upd
    | exact trivial
    | rfl
    | exact id
    | exact Nat.le_refl _
    | intro _

theorem hostAll (h : Kept u s) {a1 a2} : Kept u (@Sys2Proof.Machine.State.hostAll s a1 a2).2 := by
  induction a2 generalizing s a1 with
  | nil => exact h
  | cons v t ih =>
    have hw := hostWrite h (a1 := 2) (a2 := a1) (a3 := 4) (a4 := v)
    unfold Sys2Proof.Machine.State.hostAll
    split
    · next e => exact snd_of e hw
    · next e => exact ih (snd_of e hw)

theorem execHif2Write (h : Kept u s) {a0 a1} : out u (@Sys2Proof.Machine.execHif2Write a0 a1 s) := by
  dsimp only [Sys2Proof.Machine.execHif2Write]
  repeat' first
    | with_reducible assumption
    | with_reducible apply holdCmd
    | with_reducible apply keepReads
    | with_reducible apply hostAll
    | with_reducible apply hifErr
    | with_reducible apply foldl
    | with_reducible apply forRange
    | with_reducible apply out_next
    | (with_reducible apply snd_of; with_reducible assumption)
    | with_reducible rfl
    | with_reducible exact id
    | with_reducible exact Nat.le_refl _
    | split
    | dsimp only
    | (with_reducible apply snd_self; with_reducible assumption)
    | with_reducible apply upd
    | exact trivial
    | rfl
    | exact id
    | exact Nat.le_refl _
    | intro _

theorem hif2Words (h : Kept u s) {a1 a2} : Kept u (@Sys2Proof.Machine.State.hif2Words s a1 a2).2 := by
  induction a2 generalizing s a1 with
  | zero =>
    unfold Sys2Proof.Machine.State.hif2Words
    repeat' first
      | with_reducible assumption
      | with_reducible apply hostRead
      | with_reducible apply takeFreeBytes
      | with_reducible apply foldl
      | with_reducible apply forRange
      | (with_reducible apply snd_of; with_reducible assumption)
      | with_reducible rfl
      | with_reducible exact id
      | with_reducible exact Nat.le_refl _
      | split
      | dsimp only
      | (with_reducible apply snd_self; with_reducible assumption)
      | with_reducible apply upd
      | exact trivial
      | rfl
      | exact id
      | exact Nat.le_refl _
      | intro _
  | succ n ih =>
    unfold Sys2Proof.Machine.State.hif2Words
    repeat' first
      | with_reducible assumption
      | with_reducible apply ih
      | with_reducible apply hostRead
      | with_reducible apply takeFreeBytes
      | with_reducible apply foldl
      | with_reducible apply forRange
      | (with_reducible apply snd_of; with_reducible assumption)
      | with_reducible rfl
      | with_reducible exact id
      | with_reducible exact Nat.le_refl _
      | split
      | dsimp only
      | (with_reducible apply snd_self; with_reducible assumption)
      | with_reducible apply upd
      | exact trivial
      | rfl
      | exact id
      | exact Nat.le_refl _
      | intro _

theorem execHif2Read (h : Kept u s) {a0 a1 a2} : out u (@Sys2Proof.Machine.execHif2Read a0 a1 a2 s) := by
  dsimp only [Sys2Proof.Machine.execHif2Read]
  repeat' first
    | with_reducible assumption
    | with_reducible apply spiSend
    | with_reducible apply hifErr
    | with_reducible apply hif2Words
    | with_reducible apply keepReads
    | with_reducible apply foldl
    | with_reducible apply forRange
    | with_reducible apply out_next
    | (with_reducible apply snd_of; with_reducible assumption)
    | with_reducible rfl
    | with_reducible exact id
    | with_reducible exact Nat.le_refl _
    | split
    | dsimp only
    | with_reducible apply upd
    | exact trivial
    | rfl
    | exact id
    | exact Nat.le_refl _
    | intro _

theorem statusByte (h : Kept u s) : Kept u (@Sys2Proof.Machine.State.statusByte s) := by
  dsimp only [Sys2Proof.Machine.State.statusByte]
  repeat' first
    | with_reducible assumption
    | with_reducible apply spiSend
    | with_reducible apply foldl
    | with_reducible apply forRange
    | with_reducible rfl
    | with_reducible exact id
    | with_reducible exact Nat.le_refl _
    | split
    | dsimp only
    | with_reducible apply upd
    | exact trivial
    | rfl
    | exact id
    | exact Nat.le_refl _
    | intro _

theorem execHif2Status (h : Kept u s) : out u (@Sys2Proof.Machine.execHif2Status s) := by
  dsimp only [Sys2Proof.Machine.execHif2Status]
  repeat' first
    | with_reducible assumption
    | with_reducible apply statusByte
    | with_reducible apply foldl
    | with_reducible apply forRange
    | with_reducible apply out_next
    | with_reducible rfl
    | with_reducible exact id
    | with_reducible exact Nat.le_refl _
    | split
    | dsimp only
    | with_reducible apply upd
    | exact trivial
    | rfl
    | exact id
    | exact Nat.le_refl _
    | intro _

theorem execHif2Window (h : Kept u s) {a0} : out u (@Sys2Proof.Machine.execHif2Window a0 s) := by
  dsimp only [Sys2Proof.Machine.execHif2Window]
  repeat' first
    | with_reducible assumption
    | with_reducible apply wr
    | with_reducible apply foldl
    | with_reducible apply forRange
    | with_reducible apply out_next
    | with_reducible rfl
    | with_reducible exact id
    | with_reducible exact Nat.le_refl _
    | split
    | dsimp only
    | with_reducible apply upd
    | exact trivial
    | rfl
    | exact id
    | exact Nat.le_refl _
    | intro _

theorem hif3Out (h : Kept u s) {a1} : Kept u (@Sys2Proof.Machine.State.hif3Out s a1) := by
  dsimp only [Sys2Proof.Machine.State.hif3Out]
  repeat' first
    | with_reducible assumption
    | with_reducible apply hifErrEvent
    | with_reducible apply hifErr
    | with_reducible apply foldl
    | with_reducible apply forRange
    | with_reducible rfl
    | with_reducible exact id
    | with_reducible exact Nat.le_refl _
    | split
    | dsimp only
    | with_reducible apply upd
    | exact trivial
    | rfl
    | exact id
    | exact Nat.le_refl _
    | intro _

theorem hif3Put (h : Kept u s) {a1 a2 a3} : Kept u (@Sys2Proof.Machine.State.hif3Put s a1 a2 a3) := by
  induction a2 generalizing s a1 a3 with
  | zero =>
    unfold Sys2Proof.Machine.State.hif3Put
    repeat' first
      | with_reducible assumption
      | with_reducible apply hostWrite
      | with_reducible apply foldl
      | with_reducible apply forRange
      | (with_reducible apply snd_of; with_reducible assumption)
      | with_reducible rfl
      | with_reducible exact id
      | with_reducible exact Nat.le_refl _
      | split
      | dsimp only
      | with_reducible apply upd
      | exact trivial
      | rfl
      | exact id
      | exact Nat.le_refl _
      | intro _
  | succ n ih =>
    unfold Sys2Proof.Machine.State.hif3Put
    repeat' first
      | with_reducible assumption
      | with_reducible apply ih
      | with_reducible apply hostWrite
      | with_reducible apply foldl
      | with_reducible apply forRange
      | (with_reducible apply snd_of; with_reducible assumption)
      | with_reducible rfl
      | with_reducible exact id
      | with_reducible exact Nat.le_refl _
      | split
      | dsimp only
      | with_reducible apply upd
      | exact trivial
      | rfl
      | exact id
      | exact Nat.le_refl _
      | intro _

theorem hif3Get (h : Kept u s) {a1 a2 a3} : Kept u (@Sys2Proof.Machine.State.hif3Get s a1 a2 a3).2 := by
  induction a2 generalizing s a1 a3 with
  | zero =>
    unfold Sys2Proof.Machine.State.hif3Get
    repeat' first
      | with_reducible assumption
      | with_reducible apply hostRead
      | with_reducible apply foldl
      | with_reducible apply forRange
      | (with_reducible apply snd_of; with_reducible assumption)
      | with_reducible rfl
      | with_reducible exact id
      | with_reducible exact Nat.le_refl _
      | split
      | dsimp only
      | (with_reducible apply snd_self; with_reducible assumption)
      | with_reducible apply upd
      | exact trivial
      | rfl
      | exact id
      | exact Nat.le_refl _
      | intro _
  | succ n ih =>
    unfold Sys2Proof.Machine.State.hif3Get
    repeat' first
      | with_reducible assumption
      | with_reducible apply ih
      | with_reducible apply hostRead
      | with_reducible apply foldl
      | with_reducible apply forRange
      | (with_reducible apply snd_of; with_reducible assumption)
      | with_reducible rfl
      | with_reducible exact id
      | with_reducible exact Nat.le_refl _
      | split
      | dsimp only
      | (with_reducible apply snd_self; with_reducible assumption)
      | with_reducible apply upd
      | exact trivial
      | rfl
      | exact id
      | exact Nat.le_refl _
      | intro _

theorem execHif3Write (h : Kept u s) {a0 a1} : out u (@Sys2Proof.Machine.execHif3Write a0 a1 s) := by
  dsimp only [Sys2Proof.Machine.execHif3Write]
  repeat' first
    | with_reducible assumption
    | with_reducible apply hif3Out
    | with_reducible apply hif3Put
    | with_reducible apply foldl
    | with_reducible apply forRange
    | with_reducible apply out_next
    | with_reducible rfl
    | with_reducible exact id
    | with_reducible exact Nat.le_refl _
    | split
    | dsimp only
    | with_reducible apply upd
    | exact trivial
    | rfl
    | exact id
    | exact Nat.le_refl _
    | intro _

theorem execHif3Read (h : Kept u s) {a0 a1} : out u (@Sys2Proof.Machine.execHif3Read a0 a1 s) := by
  dsimp only [Sys2Proof.Machine.execHif3Read]
  repeat' first
    | with_reducible assumption
    | with_reducible apply hif3Get
    | with_reducible apply hif3Out
    | with_reducible apply spiSend
    | with_reducible apply foldl
    | with_reducible apply forRange
    | with_reducible apply out_next
    | (with_reducible apply snd_of; with_reducible assumption)
    | with_reducible rfl
    | with_reducible exact id
    | with_reducible exact Nat.le_refl _
    | split
    | dsimp only
    | with_reducible apply upd
    | exact trivial
    | rfl
    | exact id
    | exact Nat.le_refl _
    | intro _

theorem execHif3Status (h : Kept u s) : out u (@Sys2Proof.Machine.execHif3Status s) := by
  dsimp only [Sys2Proof.Machine.execHif3Status]
  repeat' first
    | with_reducible assumption
    | with_reducible apply statusByte
    | with_reducible apply foldl
    | with_reducible apply forRange
    | with_reducible apply out_next
    | with_reducible rfl
    | with_reducible exact id
    | with_reducible exact Nat.le_refl _
    | split
    | dsimp only
    | with_reducible apply upd
    | exact trivial
    | rfl
    | exact id
    | exact Nat.le_refl _
    | intro _

theorem ringDone (h : Kept u s) {a1 a2 a3 a4} : Kept u (@Sys2Proof.Machine.State.ringDone s a1 a2 a3 a4) := by
  dsimp only [Sys2Proof.Machine.State.ringDone]
  repeat' first
    | with_reducible assumption
    | with_reducible apply wrF
    | with_reducible apply foldl
    | with_reducible apply forRange
    | with_reducible rfl
    | with_reducible exact id
    | with_reducible exact Nat.le_refl _
    | split
    | dsimp only
    | with_reducible apply upd
    | exact trivial
    | rfl
    | exact id
    | exact Nat.le_refl _
    | intro _

theorem ringRow (h : Kept u s) {a1 a2} (hf : ∀ i e, Kept u (a2 i e)) : Kept u (@Sys2Proof.Machine.State.ringRow s a1 a2) := by
  dsimp only [Sys2Proof.Machine.State.ringRow]
  repeat' first
    | with_reducible assumption
    | with_reducible apply hf
    | with_reducible apply ringDone
    | with_reducible apply openTaken
    | with_reducible apply hifErr
    | with_reducible apply foldl
    | with_reducible apply forRange
    | with_reducible rfl
    | with_reducible exact id
    | with_reducible exact Nat.le_refl _
    | split
    | dsimp only
    | with_reducible apply upd
    | exact trivial
    | rfl
    | exact id
    | exact Nat.le_refl _
    | intro _

theorem ringCmd (h : Kept u s) {a1 a2 a3} : Kept u (@Sys2Proof.Machine.State.ringCmd s a1 a2 a3) := by
  dsimp only [Sys2Proof.Machine.State.ringCmd]
  repeat' first
    | with_reducible assumption
    | with_reducible apply qeNow
    | with_reducible apply ringDone
    | with_reducible apply foldl
    | with_reducible apply forRange
    | with_reducible rfl
    | with_reducible exact id
    | with_reducible exact Nat.le_refl _
    | split
    | dsimp only
    | with_reducible apply upd
    | exact trivial
    | rfl
    | exact id
    | exact Nat.le_refl _
    | intro _

theorem execRingEnqueue (h : Kept u s) : out u (@Sys2Proof.Machine.execRingEnqueue s) := by
  dsimp only [Sys2Proof.Machine.execRingEnqueue]
  repeat' first
    | with_reducible assumption
    | with_reducible apply ringRow
    | with_reducible apply hifEnqueue
    | with_reducible apply ringDone
    | with_reducible apply foldl
    | with_reducible apply forRange
    | with_reducible apply out_next
    | (with_reducible apply opt3_of; with_reducible assumption)
    | with_reducible rfl
    | with_reducible exact id
    | with_reducible exact Nat.le_refl _
    | split
    | dsimp only
    | with_reducible apply upd
    | exact trivial
    | rfl
    | exact id
    | exact Nat.le_refl _
    | intro _

theorem execRingFetch (h : Kept u s) : out u (@Sys2Proof.Machine.execRingFetch s) := by
  dsimp only [Sys2Proof.Machine.execRingFetch]
  repeat' first
    | with_reducible assumption
    | with_reducible apply ringRow
    | with_reducible apply qeNow
    | with_reducible apply ringDone
    | with_reducible apply putBytes
    | with_reducible apply releaseFrame
    | with_reducible apply foldl
    | with_reducible apply forRange
    | with_reducible apply out_next
    | (with_reducible apply snd_of; with_reducible assumption)
    | with_reducible rfl
    | with_reducible exact id
    | with_reducible exact Nat.le_refl _
    | split
    | dsimp only
    | with_reducible apply upd
    | exact trivial
    | rfl
    | exact id
    | exact Nat.le_refl _
    | intro _

theorem execRingFlush (h : Kept u s) : out u (@Sys2Proof.Machine.execRingFlush s) := by
  dsimp only [Sys2Proof.Machine.execRingFlush]
  repeat' first
    | with_reducible assumption
    | with_reducible apply ringRow
    | with_reducible apply ringCmd
    | with_reducible apply foldl
    | with_reducible apply forRange
    | with_reducible apply out_next
    | with_reducible rfl
    | with_reducible exact id
    | with_reducible exact Nat.le_refl _
    | split
    | dsimp only
    | with_reducible apply upd
    | exact trivial
    | rfl
    | exact id
    | exact Nat.le_refl _
    | intro _

theorem execRingPause (h : Kept u s) : out u (@Sys2Proof.Machine.execRingPause s) := by
  dsimp only [Sys2Proof.Machine.execRingPause]
  repeat' first
    | with_reducible assumption
    | with_reducible apply ringRow
    | with_reducible apply ringCmd
    | with_reducible apply foldl
    | with_reducible apply forRange
    | with_reducible apply out_next
    | with_reducible rfl
    | with_reducible exact id
    | with_reducible exact Nat.le_refl _
    | split
    | dsimp only
    | with_reducible apply upd
    | exact trivial
    | rfl
    | exact id
    | exact Nat.le_refl _
    | intro _

theorem execRingResume (h : Kept u s) : out u (@Sys2Proof.Machine.execRingResume s) := by
  dsimp only [Sys2Proof.Machine.execRingResume]
  repeat' first
    | with_reducible assumption
    | with_reducible apply ringRow
    | with_reducible apply ringCmd
    | with_reducible apply foldl
    | with_reducible apply forRange
    | with_reducible apply out_next
    | with_reducible rfl
    | with_reducible exact id
    | with_reducible exact Nat.le_refl _
    | split
    | dsimp only
    | with_reducible apply upd
    | exact trivial
    | rfl
    | exact id
    | exact Nat.le_refl _
    | intro _

theorem execRingMove (h : Kept u s) : out u (@Sys2Proof.Machine.execRingMove s) := by
  dsimp only [Sys2Proof.Machine.execRingMove]
  repeat' first
    | with_reducible assumption
    | with_reducible apply ringRow
    | with_reducible apply ringCmd
    | with_reducible apply foldl
    | with_reducible apply forRange
    | with_reducible apply out_next
    | with_reducible rfl
    | with_reducible exact id
    | with_reducible exact Nat.le_refl _
    | split
    | dsimp only
    | with_reducible apply upd
    | exact trivial
    | rfl
    | exact id
    | exact Nat.le_refl _
    | intro _

theorem execRingCompletionPost (h : Kept u s) : out u (@Sys2Proof.Machine.execRingCompletionPost s) := by
  dsimp only [Sys2Proof.Machine.execRingCompletionPost]
  repeat' first
    | with_reducible assumption
    | with_reducible apply hostPuts
    | with_reducible apply wrF
    | with_reducible apply event
    | with_reducible apply setB
    | with_reducible apply foldl
    | with_reducible apply forRange
    | with_reducible apply out_next
    | (with_reducible apply snd_of; with_reducible assumption)
    | with_reducible rfl
    | with_reducible exact id
    | with_reducible exact Nat.le_refl _
    | split
    | dsimp only
    | with_reducible apply upd
    | exact trivial
    | rfl
    | exact id
    | exact Nat.le_refl _
    | intro _

theorem endTransaction (h : Kept u s) {a1 a2} : Kept u (@Sys2Proof.Machine.State.endTransaction s a1 a2) := by
  dsimp only [Sys2Proof.Machine.State.endTransaction]
  repeat' first
    | with_reducible assumption
    | with_reducible apply answerError
    | with_reducible apply setSpineSt
    | with_reducible apply foldl
    | with_reducible apply forRange
    | with_reducible rfl
    | with_reducible exact id
    | with_reducible exact Nat.le_refl _
    | split
    | dsimp only
    | with_reducible apply upd
    | exact trivial
    | rfl
    | exact id
    | exact Nat.le_refl _
    | intro _

theorem recallAction (h : Kept u s) {a1} : Kept u (@Sys2Proof.Machine.State.recallAction s a1) := by
  dsimp only [Sys2Proof.Machine.State.recallAction]
  repeat' first
    | with_reducible assumption
    | with_reducible apply mvStop
    | with_reducible apply storeSync
    | with_reducible apply endOp
    | with_reducible apply sbrStore
    | with_reducible apply endTransaction
    | with_reducible apply sbrFront
    | with_reducible apply enclaveRestart
    | with_reducible apply foldl
    | with_reducible apply forRange
    | with_reducible rfl
    | with_reducible exact id
    | with_reducible exact Nat.le_refl _
    | split
    | dsimp only
    | with_reducible apply upd
    | exact trivial
    | rfl
    | exact id
    | exact Nat.le_refl _
    | intro _

theorem execRecallHolder (h : Kept u s) {a0} : out u (@Sys2Proof.Machine.execRecallHolder a0 s) := by
  have h1 := recallAction h (a1 := a0)
  unfold Sys2Proof.Machine.execRecallHolder
  extract_lets c
  split
  · exact out_next h
  · split
    · exact h
    · exact upd (event (wr (satAdd (ite' (slip h1) (slip h1))))) rfl rfl id id (Nat.le_refl _)

theorem execRecallOutcomeCheck (h : Kept u s) {a0} : out u (@Sys2Proof.Machine.execRecallOutcomeCheck a0 s) := by
  dsimp only [Sys2Proof.Machine.execRecallOutcomeCheck]
  repeat' first
    | with_reducible assumption
    | with_reducible apply setB
    | with_reducible apply slip
    | with_reducible apply foldl
    | with_reducible apply forRange
    | with_reducible apply out_next
    | with_reducible rfl
    | with_reducible exact id
    | with_reducible exact Nat.le_refl _
    | split
    | dsimp only
    | with_reducible apply upd
    | exact trivial
    | rfl
    | exact id
    | exact Nat.le_refl _
    | intro _

theorem presentHeld (h : Kept u s) {a1} : Kept u (@Sys2Proof.Machine.State.presentHeld s a1) := by
  have key : ∀ o : Out, out u o → Kept u (match o with | .next t => t | _ => s) := by
    intro o ho
    cases o with
    | next t => exact ho
    | fault r => exact h
    | refused r => exact h
  unfold Sys2Proof.Machine.State.presentHeld
  refine key _ ?_
  cases a1 with
  | hif1Read l => exact execHif1Read h
  | hif1Write l => exact execHif1Write h
  | hif1Enqueue l => exact execHif1Enqueue h
  | hif2Write a d => exact execHif2Write h
  | panelFlip => exact execPanelFlip h
  | panelRefresh => exact execPanelRefresh h
  | panelPowerDelay => exact execPanelPowerDelayEnd h
  | panelDeferred => exact execPanelDeferredFlip h
  | linkPut q l sec => exact out_ite (out_next (holdCmd h)) (out_next (putLate h))
  | linkDequeue q => exact linkDequeue h

theorem retry (h : Kept u s) : Kept u (@Sys2Proof.Machine.State.retry s) := by
  dsimp only [Sys2Proof.Machine.State.retry]
  repeat' first
    | with_reducible assumption
    | with_reducible apply presentHeld
    | with_reducible apply catResume
    | with_reducible apply pendingFlip
    | with_reducible apply foldl
    | with_reducible apply forRange
    | with_reducible rfl
    | with_reducible exact id
    | with_reducible exact Nat.le_refl _
    | split
    | dsimp only
    | with_reducible apply upd
    | exact trivial
    | rfl
    | exact id
    | exact Nat.le_refl _
    | intro _

theorem calTick (h : Kept u s) : Kept u (@Sys2Proof.Machine.State.calTick s) := by
  dsimp only [Sys2Proof.Machine.State.calTick]
  repeat' first
    | with_reducible assumption
    | with_reducible apply foldl
    | with_reducible apply forRange
    | with_reducible rfl
    | with_reducible exact id
    | with_reducible exact Nat.le_refl _
    | split
    | dsimp only
    | with_reducible apply upd
    | exact trivial
    | rfl
    | exact id
    | exact Nat.le_refl _
    | intro _

theorem bandTick (h : Kept u s) : Kept u (@Sys2Proof.Machine.State.bandTick s) := by
  dsimp only [Sys2Proof.Machine.State.bandTick]
  repeat' first
    | with_reducible assumption
    | with_reducible apply foldl
    | with_reducible apply forRange
    | with_reducible rfl
    | with_reducible exact id
    | with_reducible exact Nat.le_refl _
    | split
    | dsimp only
    | with_reducible apply upd
    | exact trivial
    | rfl
    | exact id
    | exact Nat.le_refl _
    | intro _

theorem slowTick (h : Kept u s) : Kept u (@Sys2Proof.Machine.State.slowTick s) := by
  dsimp only [Sys2Proof.Machine.State.slowTick]
  repeat' first
    | with_reducible assumption
    | with_reducible apply recallTick
    | with_reducible apply bandTick
    | with_reducible apply calTick
    | with_reducible apply evalBackup
    | with_reducible apply graceTick
    | with_reducible apply wdogTick
    | with_reducible apply accTick
    | with_reducible apply foldl
    | with_reducible apply forRange
    | with_reducible rfl
    | with_reducible exact id
    | with_reducible exact Nat.le_refl _
    | split
    | dsimp only
    | with_reducible apply upd
    | exact trivial
    | rfl
    | exact id
    | exact Nat.le_refl _
    | intro _

theorem endPerclkMarks (h : Kept u s) : Kept u (@Sys2Proof.Machine.State.endPerclkMarks s) := by
  dsimp only [Sys2Proof.Machine.State.endPerclkMarks]
  repeat' first
    | with_reducible assumption
    | with_reducible apply foldl
    | with_reducible apply forRange
    | with_reducible rfl
    | with_reducible exact id
    | with_reducible exact Nat.le_refl _
    | split
    | dsimp only
    | with_reducible apply upd
    | exact trivial
    | rfl
    | exact id
    | exact Nat.le_refl _
    | intro _

theorem endSysclkMarks (h : Kept u s) : Kept u (@Sys2Proof.Machine.State.endSysclkMarks s) := by
  dsimp only [Sys2Proof.Machine.State.endSysclkMarks]
  repeat' first
    | with_reducible assumption
    | with_reducible apply severe
    | with_reducible apply foldl
    | with_reducible apply forRange
    | with_reducible rfl
    | with_reducible exact id
    | with_reducible exact Nat.le_refl _
    | split
    | dsimp only
    | with_reducible apply upd
    | exact trivial
    | rfl
    | exact id
    | exact Nat.le_refl _
    | intro _

theorem perclk (h : Kept u s) : Kept u (@Sys2Proof.Machine.State.perclk s) := by
  dsimp only [Sys2Proof.Machine.State.perclk]
  repeat' first
    | with_reducible assumption
    | with_reducible apply endPerclkMarks
    | with_reducible apply fabricPerclk
    | with_reducible apply samplePads
    | with_reducible apply timerPerclk
    | with_reducible apply foldl
    | with_reducible apply forRange
    | with_reducible rfl
    | with_reducible exact id
    | with_reducible exact Nat.le_refl _
    | split
    | dsimp only
    | with_reducible apply upd
    | exact trivial
    | rfl
    | exact id
    | exact Nat.le_refl _
    | intro _

theorem rootStep (h : Kept u s) : Kept u (@Sys2Proof.Machine.State.rootStep s) := by
  dsimp only [Sys2Proof.Machine.State.rootStep]
  repeat' first
    | with_reducible assumption
    | with_reducible apply advance
    | with_reducible apply foldl
    | with_reducible apply forRange
    | with_reducible rfl
    | with_reducible exact id
    | with_reducible exact Nat.le_refl _
    | split
    | dsimp only
    | with_reducible apply upd
    | exact trivial
    | rfl
    | exact id
    | exact Nat.le_refl _
    | intro _

theorem initRoot (h : Kept u s) : Kept u (@Sys2Proof.Machine.State.initRoot s) := by
  dsimp only [Sys2Proof.Machine.State.initRoot]
  repeat' first
    | with_reducible assumption
    | with_reducible apply initCycle
    | with_reducible apply foldl
    | with_reducible apply forRange
    | with_reducible rfl
    | with_reducible exact id
    | with_reducible exact Nat.le_refl _
    | split
    | dsimp only
    | with_reducible apply upd
    | exact trivial
    | rfl
    | exact id
    | exact Nat.le_refl _
    | intro _

theorem rootCycle (h : Kept u s) : Kept u (@Sys2Proof.Machine.State.rootCycle s) := by
  dsimp only [Sys2Proof.Machine.State.rootCycle]
  repeat' first
    | with_reducible assumption
    | with_reducible apply endSysclkMarks
    | with_reducible apply rootStep
    | with_reducible apply initRoot
    | with_reducible apply retry
    | with_reducible apply bandTick
    | with_reducible apply slowTick
    | with_reducible apply perclk
    | with_reducible apply accTick
    | with_reducible apply foldl
    | with_reducible apply forRange
    | with_reducible rfl
    | with_reducible exact id
    | with_reducible exact Nat.le_refl _
    | split
    | dsimp only
    | with_reducible apply upd
    | exact trivial
    | rfl
    | exact id
    | exact Nat.le_refl _
    | intro _

theorem sleepTick (h : Kept u s) : Kept u (@Sys2Proof.Machine.State.sleepTick s) := by
  dsimp only [Sys2Proof.Machine.State.sleepTick]
  repeat' first
    | with_reducible assumption
    | with_reducible apply advance
    | with_reducible apply samplePads
    | with_reducible apply slowTick
    | with_reducible apply foldl
    | with_reducible apply forRange
    | with_reducible rfl
    | with_reducible exact id
    | with_reducible exact Nat.le_refl _
    | split
    | dsimp only
    | with_reducible apply upd
    | exact trivial
    | rfl
    | exact id
    | exact Nat.le_refl _
    | intro _

theorem idle (h : Kept u s) : Kept u (@Sys2Proof.Machine.State.idle s) := by
  dsimp only [Sys2Proof.Machine.State.idle]
  repeat' first
    | with_reducible assumption
    | with_reducible apply sleepTick
    | with_reducible apply rootCycle
    | with_reducible apply foldl
    | with_reducible apply forRange
    | with_reducible rfl
    | with_reducible exact id
    | with_reducible exact Nat.le_refl _
    | split
    | dsimp only
    | with_reducible apply upd
    | exact trivial
    | rfl
    | exact id
    | exact Nat.le_refl _
    | intro _

theorem execRootMonitorFail (h : Kept u s) {a0} : out u (@Sys2Proof.Machine.execRootMonitorFail a0 s) := by
  dsimp only [Sys2Proof.Machine.execRootMonitorFail]
  repeat' first
    | with_reducible assumption
    | with_reducible apply wrF
    | with_reducible apply warmReset
    | with_reducible apply tamperTrip
    | with_reducible apply foldl
    | with_reducible apply forRange
    | with_reducible apply out_next
    | with_reducible rfl
    | with_reducible exact id
    | with_reducible exact Nat.le_refl _
    | split
    | dsimp only
    | with_reducible apply upd
    | exact trivial
    | rfl
    | exact id
    | exact Nat.le_refl _
    | intro _

theorem execSleepCrystalEdge (h : Kept u s) : out u (@Sys2Proof.Machine.execSleepCrystalEdge s) := by
  dsimp only [Sys2Proof.Machine.execSleepCrystalEdge]
  repeat' first
    | with_reducible assumption
    | with_reducible apply sleepTick
    | with_reducible apply foldl
    | with_reducible apply forRange
    | with_reducible apply out_next
    | with_reducible rfl
    | with_reducible exact id
    | with_reducible exact Nat.le_refl _
    | split
    | dsimp only
    | with_reducible apply upd
    | exact trivial
    | rfl
    | exact id
    | exact Nat.le_refl _
    | intro _

end Sys2Proof.Machine.Kept
end

