-- ==== Sys2Proof/Laws/Kept/Exec.lean ====
section
/-! SUPPORT. What every command and every step keep. -/

namespace Sys2Proof.Machine.Kept

variable {u s t : State}

/-- Every command but LIFECYCLE keeps what `Kept` names. -/
theorem exec (h : Kept u s) {c : Instr} (hc : ∀ k, c ≠ .lifecycle k) : out u (Sys2Proof.Machine.exec c s) := by
  cases c with
  | absentUnitRead m addr => exact execAbsentUnitRead h
  | absentUnitWrite m addr v => exact execAbsentUnitWrite (a2 := v) h
  | rcRegisterRead m addr => exact execRcRegisterRead h
  | registerWrite m addr v => exact execRegisterWrite h
  | unmappedAccess m write addr => exact execUnmappedAccess h
  | queueMemoryWrite m addr v => exact execQueueMemoryWrite h
  | bufferLinkWordWrite m addr v => exact execBufferLinkWordWrite h
  | farDieAccess m write addr v => exact execFarDieAccess h
  | farDieResponse die => exact execFarDieResponse h
  | storeStatusRead m addr => exact execStoreStatusRead h
  | spineRequestRepresented m => exact execSpineRequestRepresented h
  | spinePacketReceived die far seq crcOk => exact execSpinePacketReceived h
  | spineNakReceived die far seq => exact execSpineNakReceived h
  | spineAckTimeout die far => exact execSpineAckTimeout h
  | timingStrobe target => exact execTimingStrobe h
  | sbrF => exact execSbrF h
  | sbrFRelease => exact execSbrFRelease h
  | frontPllLocked => exact execFrontPllLocked h
  | spineTrainingDone die => exact execSpineTrainingDone h
  | sbrS => exact execSbrS h
  | sbrSHold => exact execSbrSHold h
  | retrainF => exact execRetrainF h
  | retrainS => exact execRetrainS h
  | catlVerify => exact execCatlVerify h
  | catlApply => exact execCatlApply h
  | catlSignatureDone refused => exact execCatlSignatureDone h
  | catlStageFolio => exact execCatlStageFolio h
  | catlSwitch => exact execCatlSwitch h
  | catlSetActive app slot => exact execCatlSetActive h
  | catlRecordWritten => exact execCatlRecordWritten h
  | catlCommit => exact execCatlCommit h
  | catlRetire => exact execCatlRetire h
  | powerOnReset env => exact execPowerOnReset h
  | brownOutReset => exact execBrownOutReset h
  | rstNPulse ns => exact execRstNPulse h
  | softwareReset key => exact execSoftwareReset h
  | debugReset => exact execDebugReset h
  | resetHoldEnd => exact execResetHoldEnd h
  | bootStart env => exact execBootStart h
  | bootStepTimeout env step => exact execBootStepTimeout h
  | bootOk key => exact execBootOk h
  | errataClr v => exact execErrataClr h
  | errataMirrorRewrite => exact execErrataMirrorRewrite h
  | gpioHoldRelease => exact execGpioHoldRelease h
  | annexHello line => exact execAnnexHello h
  | annexBegin line => exact execAnnexBegin h
  | annexBeginErased failed => exact execAnnexBeginErased h
  | annexData line failed => exact execAnnexData h
  | annexEnd line refused => exact execAnnexEnd h
  | annexReset line => exact execAnnexReset h
  | annexResetDelayExpiry => exact execAnnexResetDelayExpiry h
  | rescueBlockReceived payload refused => exact execRescueBlockReceived h
  | rescueEraseDone => exact execRescueEraseDone h
  | brownOutWarning => exact execBrownOutWarning h
  | brownOutRelease => exact execBrownOutRelease h
  | wfiDoze => exact execWfiDoze h
  | wfiNap => exact execWfiNap h
  | wfiHibernate => exact execWfiHibernate h
  | sleepBlockersClear => exact execSleepBlockersClear h
  | napEntryAbort => exact execNapEntryAbort h
  | wakeInstantReached => exact execWakeInstantReached h
  | napWakeResume pllLocked => exact execNapWakeResume h
  | hibernateWake => exact execHibernateWake h
  | pwrAlarmHiWrite v => exact execPwrAlarmHiWrite h
  | alarmFire => exact execAlarmFire h
  | clkCtrlWrite v => exact execClkCtrlWrite h
  | corePllLock => exact execCorePllLock h
  | corePllLockLoss => exact execCorePllLockLoss h
  | rootMonitorFail count => exact execRootMonitorFail h
  | slowFail => exact execSlowFail h
  | tickMonitorExpiry => exact execTickMonitorExpiry h
  | chronicleTrimStep => exact execChronicleTrimStep h
  | sleepMeasurementDone count => exact execSleepMeasurementDone h
  | chronStepArm => exact execChronStepArm h
  | chronStepNow => exact execChronStepNow h
  | chronStepCancel => exact execChronStepCancel h
  | chronStepReached => exact execChronStepReached h
  | disciplineStep => exact execDisciplineStep h
  | chronResync => exact execChronResync h
  | chronRateWrite v => exact execChronRateWrite h
  | chronLost openAt => exact execChronLost h
  | timerPrescaleExpiry t => exact execTimerPrescaleExpiry h
  | timerStart t => exact execTimerStart h
  | timerStop t => exact execTimerStop h
  | timerClear t => exact execTimerClear h
  | timerCapture t ch => exact execTimerCapture h
  | timerCntWrite t v => exact execTimerCntWrite h
  | actionEntryWrite m i w v => exact execActionEntryWrite h
  | actArm m v => exact execActArm h
  | actCancel m v => exact execActCancel h
  | actRelease m v => exact execActRelease h
  | actTmpl m v => exact execActTmpl h
  | actionFire => exact execActionFire h
  | actionCatchUp => exact execActionCatchUp h
  | fabricChannelFire => exact execFabricChannelFire h
  | fabFire v => exact execFabFire h
  | fabSwev v => exact execFabSwev h
  | fabTaskWrite c second v => exact execFabTaskWrite h
  | fabCfgWrite c v => exact execFabCfgWrite h
  | backupCellRise => exact execBackupCellRise h
  | intcClaim m => exact execIntcClaim h
  | samplerOverload => exact execSamplerOverload h
  | rangingCaptureEnd samples => exact execRangingCaptureEnd h
  | radioFreqWrite tx v => exact execRadioFreqWrite h
  | radioFsmCmd v => exact execRadioFsmCmd h
  | strobeReceived parityOk => exact execStrobeReceived h
  | frontTransitionEnd => exact execFrontTransitionEnd h
  | returnLossLow path24 rl => exact execReturnLossLow h
  | tuningGapGrant power => exact execTuningGapGrant h
  | retuneDone first rest => exact execRetuneDone h
  | detectStage1 power => exact execDetectStage1 h
  | preambleQualified corr => exact execPreambleQualified h
  | detectStage2Timeout => exact execDetectStage2Timeout h
  | gen1SyncFound errors ref => exact execGen1SyncFound h
  | headerDecoded header ref => exact execHeaderDecoded h
  | payloadEnd psdu meas => exact execPayloadEnd h
  | ltsWrite rate id => exact execLtsWrite h
  | ltsRead id => exact execLtsRead h
  | ltsRemove id => exact execLtsRemove h
  | ltsDerive rate => exact execLtsDerive h
  | ltsDeriveDone => exact execLtsDeriveDone h
  | laneEstimateUpdate lanes spur => exact execLaneEstimateUpdate h
  | temperatureEvaluation raw => exact execTemperatureEvaluation h
  | calRequest => exact execCalRequest h
  | calForce => exact execCalForce h
  | calWaitExpiry => exact execCalWaitExpiry h
  | blackoutGrant => exact execBlackoutGrant h
  | forcedBlackoutStart => exact execForcedBlackoutStart h
  | calFolioEnd ok lanes spur => exact execCalFolioEnd h
  | slotBoundary => exact execSlotBoundary h
  | beaconSend => exact execBeaconSend h
  | beaconAccepted psdu ref => exact execBeaconAccepted h
  | airopStart => exact execAiropStart h
  | airopFabricTask k => exact execAiropFabricTask h
  | lbtListenEnd power => exact execLbtListenEnd h
  | transmissionOpen => exact execTransmissionOpen h
  | budgetBucketAdvance band => exact execBudgetBucketAdvance h
  | receiveWindowClose => exact execReceiveWindowClose h
  | ackReceived seq => exact execAckReceived h
  | ackTimeout => exact execAckTimeout h
  | linkFcntWrite k v => exact execLinkFcntWrite h
  | macAssign src body => exact execMacAssign h
  | macLtSet src body => exact execMacLtSet (a0 := src) h
  | macLtUse src body => exact execMacLtUse h
  | joinSend => exact execJoinSend h
  | joinRetry => exact execJoinRetry h
  | floodRelay => exact execFloodRelay h
  | linkOpSubmit m => exact execLinkOpSubmit h
  | linkOpCancel m k => exact execLinkOpCancel h
  | linkOpRelease m k => exact execLinkOpRelease h
  | nbrAdd => exact execNbrAdd h
  | nbrRead key => exact execNbrRead h
  | nbrRemove key => exact execNbrRemove h
  | nbrReadIdx key => exact execNbrReadIdx h
  | qeEnqueue port m queue cell beside => exact execQeEnqueue h
  | qeDequeue port m queue keep beside => exact execQeDequeue h
  | qePeek port m queue beside => exact execQePeek h
  | qeMove port m queue dstq beside => exact execQeMove h
  | qeFlush port m queue beside => exact execQeFlush h
  | qePause port m queue drain beside => exact execQePause h
  | qeResume port m queue cls clr beside => exact execQeResume h
  | qeCompletionPosted port => exact execQeCompletionPosted h
  | qeRingCiWrite v => exact execQeRingCiWrite h
  | qeAlloc m v => exact execQeAlloc h
  | qeRelease m v => exact execQeRelease h
  | qeInit v => exact execQeInit h
  | qeBankRestored bank => exact execQeBankRestored h
  | moverStart m ch => exact execMoverStart h
  | moverStop ch => exact execMoverStop h
  | moverPacedRequest ch stalled => exact execMoverPacedRequest h
  | moverDescriptorDone ch => exact execMoverDescriptorDone h
  | moverBusError ch addr => exact execMoverBusError h
  | storeErase m addr => exact execStoreErase h
  | storeProgram m addr len => exact execStoreProgram h
  | storeCheck m addr => exact execStoreCheck h
  | storeRefresh m addr => exact execStoreRefresh h
  | psCommit m slot => exact execPsCommit h
  | psRetire m slot => exact execPsRetire h
  | storeDataPortWrite plane v => exact execStoreDataPortWrite h
  | storeDoneClear v => exact execStoreDoneClear h
  | storeAbort v => exact execStoreAbort h
  | storePulseEnd plane pass => exact execStorePulseEnd h
  | storeResume plane => exact execStoreResume h
  | xipLineRead m addr decay => exact execXipLineRead h
  | patrolReadDue => exact execPatrolReadDue h
  | patrolReadDone decay => exact execPatrolReadDone h
  | patrolRefreshResume => exact execPatrolRefreshResume h
  | storPsCfgWrite v => exact execStorPsCfgWrite h
  | secmbDoorbell m v => exact execSecmbDoorbell h
  | aesEcb k => exact execAesEcb h
  | aesCbc k => exact execAesCbc h
  | aesCtr k => exact execAesCtr h
  | aesCcm k => exact execAesCcm h
  | aesCmac k => exact execAesCmac h
  | sha256 k => exact execSha256 h
  | hmac k => exact execHmac h
  | ecdsaSign k => exact execEcdsaSign h
  | ecdsaVerify k => exact execEcdsaVerify h
  | ecdh k => exact execEcdh h
  | ecKeygen k => exact execEcKeygen h
  | keyDerive k => exact execKeyDerive h
  | random k => exact execRandom h
  | keyImport k => exact execKeyImport h
  | keyExport k => exact execKeyExport h
  | keyPurge k => exact execKeyPurge h
  | keyInfo k => exact execKeyInfo h
  | keyRestrict k => exact execKeyRestrict h
  | idChallenge k => exact execIdChallenge h
  | attest k => exact execAttest h
  | lifecycle k => exact absurd rfl (hc k)
  | unlockNonce k => exact execUnlockNonce h
  | unlock k => exact execUnlock h
  | mailboxRequestDone k => exact execMailboxRequestDone h
  | refusalWindowEnd k => exact execRefusalWindowEnd h
  | secmbDoneClear v => exact execSecmbDoneClear h
  | trngHealthFail => exact execTrngHealthFail h
  | tamperTrip k => exact execTamperTrip h
  | temperatureTamperCheck temp => exact execTemperatureTamperCheck h
  | supplyGlitch => exact execSupplyGlitch h
  | relStart src ch => exact execRelStart h
  | relDrop src ch => exact execRelDrop h
  | relRendezvous ch power join => exact execRelRendezvous h
  | relOpenReceived ch desk src target nd challenge ranging delta => exact execRelOpenReceived h
  | relDecision ch resp offset replies times confirm => exact execRelDecision h
  | relVerdictReceived ch verdict => exact execRelVerdictReceived h
  | lockLineMessageEnd ch => exact execLockLineMessageEnd h
  | relSessionEnd ch => exact execRelSessionEnd h
  | doorInEdge n level => exact execDoorInEdge h
  | relFailclr v => exact execRelFailclr h
  | slipIntake src => exact execSlipIntake h
  | stickyClear j v => exact execStickyClear h
  | graceExpiry => exact execGraceExpiry h
  | faultInject v => exact execFaultInject h
  | traceSlipRead m => exact execTraceSlipRead h
  | traceStatWrite m => exact execTraceStatWrite h
  | recallHolder res => exact execRecallHolder h
  | recallOutcomeCheck res => exact execRecallOutcomeCheck h
  | frontPllUnlock => exact execFrontPllUnlock h
  | regulatorOutOfRange r => exact execRegulatorOutOfRange h
  | wdogFeed key => exact execWdogFeed h
  | wdogWarning => exact execWdogWarning h
  | wdogReset => exact execWdogReset h
  | wdogLimitWrite limit v => exact execWdogLimitWrite h
  | wdogLock => exact execWdogLock h
  | hif1Hello line => exact execHif1Hello h
  | hif1Read line => exact execHif1Read h
  | hif1Write line => exact execHif1Write h
  | hif1Enqueue line => exact execHif1Enqueue h
  | hif1SoftwareFrame line => exact execHif1SoftwareFrame h
  | hif1Rxdone v => exact execHif1Rxdone h
  | hif1Txctrl v => exact execHif1Txctrl h
  | hif1TxDone => exact execHif1TxDone h
  | hif2Write addr data => exact execHif2Write h
  | hif2Read addr count slow => exact execHif2Read h
  | hif2Status => exact execHif2Status h
  | hif2Window base => exact execHif2Window h
  | hifDbInWrite third v => exact execHifDbInWrite h
  | hifDbOutWrite m v => exact execHifDbOutWrite h
  | hif3Write addr data => exact execHif3Write h
  | hif3Read addr n => exact execHif3Read h
  | hif3Status => exact execHif3Status h
  | ringSqTailWrite r v => exact execRingSqTailWrite h
  | ringEnqueue => exact execRingEnqueue h
  | ringFetch => exact execRingFetch h
  | ringFlush => exact execRingFlush h
  | ringPause => exact execRingPause h
  | ringResume => exact execRingResume h
  | ringMove => exact execRingMove h
  | ringCompletionPost => exact execRingCompletionPost h
  | hifHostBusError => exact execHifHostBusError h
  | panelFlip => exact execPanelFlip h
  | panelRefresh => exact execPanelRefresh h
  | panelPowerOn => exact execPanelPowerOn h
  | panelPowerOff => exact execPanelPowerOff h
  | panelPowerDelayEnd => exact execPanelPowerDelayEnd h
  | panelDelayEnd => exact execPanelDelayEnd h
  | panelBusyInactive => exact execPanelBusyInactive h
  | panelBusyTimeout => exact execPanelBusyTimeout h
  | panelScriptEnd => exact execPanelScriptEnd h
  | panelDeferredFlip => exact execPanelDeferredFlip h
  | panelHoldExpiry => exact execPanelHoldExpiry h
  | spiStart n task => exact execSpiStart (a1 := task) h
  | spiTargetFrame n data => exact execSpiTargetFrame h
  | spiTransferEnd n rx => exact execSpiTransferEnd h
  | uartByteReceived n b ferr perr brk => exact execUartByteReceived h
  | uartRxTimeout n => exact execUartRxTimeout h
  | uartDataWrite n v => exact execUartDataWrite h
  | uartSendTask n => exact execUartSendTask h
  | uartTxEmpty n => exact execUartTxEmpty h
  | i2cXfer n v lost asTarget => exact execI2cXfer h
  | i2cClear n free => exact execI2cClear h
  | i2cBusBusyTimeout n => exact execI2cBusBusyTimeout h
  | i2cSclTimeout n => exact execI2cSclTimeout h
  | i2cSdaStuckTimeout n free => exact execI2cSdaStuckTimeout h
  | i2cStopSeen n at_ data taken => exact execI2cStopSeen h
  | gpioEdge pin ext => exact execGpioEdge h
  | gpioSet j v => exact execGpioSet h
  | gpioClr j v => exact execGpioClr h
  | gpioTgl j v => exact execGpioTgl h
  | gpioTaskPort k => exact execGpioTaskPort h
  | adcStart => exact execAdcStart h
  | adcSeq => exact execAdcSeq h
  | adcStop => exact execAdcStop h
  | adcConversionDone code => exact execAdcConversionDone h
  | spineAckReceived die far seq => exact execSpineAckReceived h
  | transmitEnded => exact execTransmitEnded h
  | relExchangeEnd ch => exact execRelExchangeEnd h
  | i2cTransferDone n rx how => exact execI2cTransferDone h
  | i2cStartSeen n at_ addr => exact execI2cStartSeen h
  | psCommitReadDone plane => exact execPsCommitReadDone h
  | trngRestartDone => exact execTrngRestartDone h
  | debugHalt => exact execDebugHalt h
  | debugResume => exact execDebugResume h
  | sleepCrystalEdge => exact execSleepCrystalEdge h

/-- LIFECYCLE keeps everything that `Kept` names but the lifecycle, which it moves one step or not at all (R476). -/
theorem execLifecycle (k : Fin 4) (s : State) : ∃ n,
    (n = s.cust.life ∨ s.cust.life = 0 ∧ n = 1 ∨ s.cust.life = 1 ∧ n = 2) ∧
      out { s with cust := { s.cust with life := n } } (Sys2Proof.Machine.execLifecycle k s) := by
  unfold Sys2Proof.Machine.execLifecycle State.serve
  dsimp only
  split
  · split
    · exact ⟨_, .inl rfl, out_next (refuse (rfl' s))⟩
    · by_cases hm : s.mbMode k = 1
      · by_cases hl : s.cust.life = 0
        · simp only [hm, hl, if_true, bne_self_eq_false, Bool.false_eq_true, if_false]
          exact ⟨1, .inr (.inl ⟨trivial, rfl⟩), out_next (setMb (wr (rfl' _)))⟩
        · simp only [hm, hl, if_true, bne_iff_ne, ne_eq, not_false_eq_true]
          exact ⟨_, .inl rfl, out_next (refuse (rfl' s))⟩
      · by_cases hl : s.cust.life = 1
        · simp only [hm, hl, if_false, bne_self_eq_false, Bool.false_eq_true]
          by_cases ha : s.authorised k [0x4F, 0x43, 0x56, 0x58] = true
          · simp only [ha, if_true]
            refine ⟨2, .inr (.inr ⟨trivial, rfl⟩), out_next (setMb (wr ?_))⟩
            have hp := purgeKeys (rfl' { s with cust := { s.cust with nonce := none } }) (a1 := fun n => decide (1 ≤ n))
            exact ⟨hp.pending, hp.variant, hp.regs, hp.mem, rfl, hp.zeroised, hp.retired, hp.minBuild⟩
          · simp only [ha, Bool.false_eq_true, if_false]
            have hb : Kept { s with cust := { s.cust with life := 1 } } s := ⟨rfl, rfl, id, id, hl, id, id, Nat.le_refl _⟩
            exact ⟨1, .inl rfl, out_next (refuse hb)⟩
        · simp only [hm, hl, if_false, bne_iff_ne, ne_eq, not_false_eq_true, if_true]
          exact ⟨_, .inl rfl, out_next (refuse (rfl' s))⟩
  · exact ⟨_, .inl rfl, out_next (rfl' s)⟩


end Sys2Proof.Machine.Kept
end

