-- ==== Sys2Proof/Tests/Slice0.lean ====
section
/-! SUPPORT. Tests: ill-formed commands are refused by the check, and for every clause of every statement a state and
operands meet its hypotheses together. -/

namespace Sys2Proof.Tests

open Sys2Proof Sys2Proof.Machine

set_option Elab.async false
set_option linter.unusedVariables false

/-! ### Ill-formed commands -/

/-- A measurement over `n` carriers at a level. -/
def meas (n : Nat) (rssi : Int) : RxMeas :=
  { snr := List.replicate n 1, evm := List.replicate 96 1, iq := 0, dc := 0, cfo := 0, hdrSnr := 0, eye := 0, rssi := rssi }

/-- A boot in which steps fail. -/
def boot (l : List (Fin 14)) : BootEnv := { fails := l, bootSel := some true, tamper := [], refused := [], temp := 2500 }

theorem test_illformed_boot :
    Instr.wf (.bootStart (boot [3, 3])) = false ∧ Instr.wf (.bootStepTimeout (boot [4]) 4) = false := by decide
theorem test_illformed_instants :
    Instr.wf (.chronLost (2 ^ 58)) = false ∧ Instr.wf (.gen1SyncFound 0 (2 ^ 58)) = false ∧
    Instr.wf (.headerDecoded 0 (2 ^ 58)) = false ∧ Instr.wf (.beaconAccepted [] (2 ^ 58)) = false := by decide
theorem test_illformed_capture : Instr.wf (.rangingCaptureEnd (List.replicate 65537 0)) = false := by
  show decide ((List.replicate 65537 (0 : Byte)).length ≤ 65536) = false
  simp only [List.length_replicate]
  decide
theorem test_illformed_measurement :
    Instr.wf (.payloadEnd [] (meas 95 0)) = false ∧ Instr.wf (.payloadEnd [] (meas 96 128)) = false := by decide +kernel
theorem test_illformed_lanes :
    Instr.wf (.laneEstimateUpdate [1, 2] 0) = false ∧ Instr.wf (.calFolioEnd true [1, 2, 3, 4, 5] 0) = false := by decide
theorem test_illformed_decay :
    Instr.wf (.xipLineRead .core 0 [(4, true)]) = false ∧ Instr.wf (.patrolReadDone [(7, true), (7, false)]) = false := by
  decide
theorem test_illformed_exchange :
    Instr.wf (.relOpenReceived 0 0 0 0 0 0 0 [0]) = false ∧ Instr.wf (.relDecision 0 0 0 [] [] none) = false := by decide
theorem test_illformed_transfers :
    Instr.wf (.hif3Write 0 (List.replicate 4097 0)) = false ∧ Instr.wf (.i2cStopSeen 0 (0, 0) (List.replicate 256 0) 0) = false ∧
    Instr.wf (.i2cTransferDone 0 (List.replicate 256 0) .ok) = false := by
  decide +kernel
theorem test_wellformed : Instr.wf (.payloadEnd [] (meas 96 (-20))) = true ∧ Instr.wf (.bootStart (boot [3, 4])) = true := by
  decide +kernel

/-! ### Values from the spec -/

/-- 05, worked case: beacons 2, 3 and 4 with EN 1 and GAIN 1 take CHRON_RATE to −12,897, −19,328 and −22,543. -/
theorem test_discipline_rates :
    ((State.reset.wr Reg.CHRON_DISC 3).rateUpdate (-369) 60000).rate = -12897 ∧
    (((State.reset.wr Reg.CHRON_DISC 3).setRate (-12897)).rateUpdate (-184) 60000).rate = -19328 ∧
    (((State.reset.wr Reg.CHRON_DISC 3).setRate (-19328)).rateUpdate (-92) 60000).rate = -22543 := by decide +kernel

/-- 05, worked case: the guard of a window 2 s after a beacon with ε 2 ppm is 3,318 fraction steps. -/
theorem test_guard : ({ State.reset.wr Reg.CHRON_EPS 2000 with chron := { lastRx := some 0 } } : State).guardAt 61440000 = 3318 := by
  decide +kernel

/-- 06, worked case: the cutover at tick 8,424,000,000 is AT_LO 0x70280000 with AT_HI 0x7D8. -/
theorem test_instant : (8424000000 * 1024 : Nat) = 0x70280000 + 0x7D8 * 2 ^ 32 ∧
    ((State.reset.wr Reg.CHRON_STEP_AT_LO 0x70280000).wr Reg.CHRON_STEP_AT_HI 0x7D8).stepAt / 1024 = 8424000000 := by
  decide +kernel

/-- 16, worked case: the slip of a recall of plane 1 from mover channel 5 has DETAIL 0x8501. -/
theorem test_recall_detail : recallDetail (recallCode (.plane 1)) 0x85 = 0x8501 := by decide

/-! ### States the tests start from -/

def UP : State := { (State.reset.wr Reg.SPINE_F_STAT 0xF3).wr Reg.SPINE_S_STAT 3 with spineF := {}, spineS := {} }
def wImg : List Byte := [0x4F, 0x43, 0x56, 0x43, 0, 1, 32, 0, 7, 0, 1, 0, 5, 0, 0, 0, 96, 0, 0, 0] ++ List.replicate 76 0
def wSram : State := (State.reset.wr Reg.CATL_SRC 0x20000000).putBytes 0x20000000 wImg
def wSlot : State := UP.progBytes 32 0 wImg
def wCat (phase cmd : Nat) : State := { State.reset.toPhase phase with cat := { cmd := cmd, image := wImg, folios := 2 } }
def wEnv : BootEnv := { fails := [], bootSel := some true, tamper := [], refused := [], temp := 2500 }
def wStart : State := { (State.reset.wr Reg.RSTC_BOOT_STEP 0xF) with boot := { phase := .start, coldMirror := false } }
def wLine (op seq : Nat) (p : List Byte) : List Byte := ((hifFrame op seq p).drop 1).dropLast
def wAnnex : State := { State.reset with boot := { phase := .annex } }
def wResc : State := { (State.reset.wr Reg.RADIO_RX_FREQ 869400).wr Reg.RADIO_FSM 3 with boot := { phase := .annex } }
def wBlock : List Byte := [0xA5, 0x5A, 0, 0, 5, 0, 0, 0, 96, 0, 0, 0, 0, 0, 1, 0] ++ List.replicate 224 7
def wApp : State := { UP with boot := { phase := .app } }
def wDoze (e : Option Bool) : State := { wApp with pwr := { mode := .doze, entry := e } }
def wNap : State := { wApp.setWakeAt (some 0) with pwr := { mode := .nap, waking := true, causes := [1, 3], padNum := 5 } }
def wArmed : State := wApp.setEntry 5 { at_ := 0, chan := 7, state := .armed }
def wLocked : State := { UP with cust := { UP.cust with life := 1 } }
def wSecs : List (Nat × List Byte) := [(1, [0xFF, 0xFF, 0xFF, 0xFF]), (6, [1, 0, 0, 0, 0x50, 0xF8, 0x0C, 0, 0x58, 0x44, 0x0E, 0, 0, 0, 1, 0, 60, 0, 28, 0, 176, 0, 0x88, 0x13] ++ List.replicate 20 0), (7, [0, 1, 0, 0, 0xCC, 0x3F, 0x0D, 0, 0, 0, 0, 0]), (8, List.replicate 20 0)]
def wLink (kind : Nat) : State := { ((UP.wr Reg.LINK_CFG0 0x00100064).wr Reg.LINK_CFG1 (word (0x10300 + 16 * kind))).wr Reg.LINK_CTRL 3 with cat := { sections := wSecs } }
def wRun (kind : Nat) (fsm : Nat) (o : RunOp) : State := { (wLink kind).wr Reg.RADIO_FSM (word fsm) with link := { (wLink kind).link with run := some o } }
def wOp (r : OpRef) (p : OpPhase) : RunOp := { ref := r, slot := 0, openAt := 0, chan := 0, phase := p }
def wCall (b : List Byte) : State := (({ (wRun 2 4 (wOp (.call 0) .power)) with qe := { qbankEn := 1 } }.append 0 [5] true).setCell 5 { next := 0xFFFF, used := b.length, end_ := true, own := .queued }).putBytes (cellBytes 5) b
def wQ : State := ({ UP with cat := { sections := wSecs }, qe := { qbankEn := 3 } } : State).wr (Reg.QE_WEIGHT 2) 4
def wQe : State := (wQ.setQd 0 { state := .enabled }).setCell 5 { next := 0xFFFF, used := 20, end_ := true, own := .owned }
def wQf : State := wQe.append 0 [5] true
def wMvD (w2 : Word) : State := ((((wQ.wr (Reg.MOVER_CH_DESC 3) 0x20000100).putBytes 0x20000100 (leBytes 4 0x20000200)).putBytes 0x20000104 (leBytes 4 0x20000300)).putBytes 0x20000108 (leBytes 4 w2.toNat)).putBytes 0x20000200 [11, 12, 13, 14, 15, 16]
def wMv (d : MvDesc) : State := { ((wMvD 0).setMvState 3 1).wr (Reg.MOVER_CH_LEFT 3) (word d.len) with mover := { desc := [(3, d)] } }
def wD : MvDesc := { src := 0x20000200, dst := 0x20000300, len := 6, width := 1, sinc := true, dinc := true, paced := false, burst := 0, qmode := 0, next := 0 }
def wSt : State := UP
def wStOp (o : LongOp) : State := { UP with store := { UP.store with ops := [o], held := [0] } }
def wProg : LongOp := { op := 2, slot := some 0, sector := 100, plane := 0, state := .running, stages := [.prog 100 [(3, 5), (4, 6)]] }
def wLoad : LongOp := { op := 2, slot := some 0, sector := 100, plane := 0, state := .loading, addr := 204824, len := 8 }
def wPs : State := (UP.wr Reg.STOR_PS_CFG 0x10460).setFlash 1120 2 { data := 0xFFFF01005056434F }
def wGap : State := { (UP.wr Reg.CAL_STATUS 1).wr Reg.LINK_CFG0 0x00100064 with chron := { now := 90000 }, link := { ops := [(3, { kind := 1, state := 1, len := 5, slot := 1, first := 1 })] } }
def wForce : State := { wGap.wr Reg.CAL_STATUS 0x21 with cal := { due := true } }
def wRecall : State := { UP with spineS := { UP.spineS with outst := [⟨.core, false, 0x80000000, 0⟩], waiting := [⟨.core, false, 0x80000000, 0⟩] }, fault := { waits := [(8, [0, 1, 0, 0], 70000)] } }
def wKeys : List (Nat × KeySlot) := [(0, { policy := 0x3001004, key := List.replicate 32 1 }), (2, { policy := 0x1000701, key := List.replicate 16 2 }), (3, { policy := 0x1002802, key := List.replicate 32 3 }), (4, { policy := 0x1000403, key := List.replicate 32 4 }),
  (5, { policy := 0x1001804, key := 1 :: List.replicate 31 0 }), (6, { policy := 0x1038005, key := pairBytes p256g }), (7, { policy := 0x1004102, key := List.replicate 32 7 }), (40, { policy := 0x701, key := List.replicate 16 9 })]
def wMb (cmd len : Nat) : State := { (UP.wr (Reg.SECMB_S_CMD 0) (word cmd)).wr (Reg.SECMB_S_LEN 0) (word len) with cust := { UP.cust with order := [0], slots := [(0, { phase := .waiting })], keys := wKeys, store := wKeys.filter (fun e => e.1 < 32) } }
def wRest (cmd len : Nat) : State := { wMb cmd len with cust := { (wMb cmd len).cust with order := [], slots := [] } }
def wRelSecs : List (Nat × List Byte) := [(1, [0xFF, 0xFF, 0xFF, 0xFF]), (2, [1, 0, 0, 0, 33, 0x42, 0, 0]), (6, [1, 0, 0, 0, 0x50, 0xF8, 0x0C, 0, 0x58, 0x44, 0x0E, 0, 0, 0, 1, 0, 60, 0, 28, 0, 176, 0, 0x88, 0x13] ++ List.replicate 20 0), (7, [0, 1, 0, 0, 0x40, 0x3B, 0x25, 0, 0, 0, 0, 0]), (8, List.replicate 20 0)]
def wRel (pol st : Nat) : State := { (((UP.wr (Reg.REL_CH_POLICY 0) (word pol)).wr (Reg.REL_CH_STATUS 0) (word st)).wr (Reg.REL_CH_CFG 0) 0x200).setB Reg.CHRON_STATUS 0 true with cat := { sections := wRelSecs }, cust := { UP.cust with keys := [(2, { policy := 0x80701, key := List.replicate 16 2 })] } }
def wExch : RelExch := { startAt := 0, nd := List.replicate 16 3, nc := List.replicate 16 4, peer := 77, joined := true, challenge := List.replicate 12 0, ranging := [0, 0] }
def wHif : State := ({ UP with boot := { phase := .app }, cat := { sections := [(1, [0xFF, 0xFF, 0xFF, 0xFF]), (2, [3, 0, 0, 0, 34, 0x20, 0, 0, 35, 0x21, 0, 0, 36, 0x23, 0, 0])] } } : State).wr Reg.HIF_CFG 7
def wRing (b : List Byte) : State := (({ wQe with boot := { phase := .app } }.wr (Reg.RING_CFG 0) 0x104).wr (Reg.RING_SQ_BASE 0) 0x20000400 |>.wr (Reg.RING_CQ_BASE 0) 0x20000800 |>.wr (Reg.RING_SQ_TAIL 0) 1).putBytes 0x20000400 b
def wProf : List Byte := [4, 0, 1, 0, 1] ++ List.replicate 11 0 ++ [0, 1] ++ List.replicate 14 0
def wPage : State := ((({ UP with boot := { phase := .app }, cat := { sections := [(1, [0xFF, 0xFF, 0xFF, 0xFF]), (14, wProf)] } } : State).wr Reg.STOR_PS_CFG 0x10460).wr Reg.STOR_PS_STATE 2).wr Reg.PANEL_SCRIPT 0x20000100 |>.progBytes 1120 0 (List.replicate 22 0 ++ [1, 0, 1, 0, 0, 0] ++ List.replicate 8 0 ++ [4, 0, 1, 0, 1] ++ List.replicate 23 0 ++ [5] ++ List.replicate 7 0)
def wFlip : State := wPage.wr Reg.PANEL_STAGE 16
def wPanel (w : PanelWait) (b : List Byte) : State := { wFlip.wr Reg.PANEL_STATUS 2 with panel := { run := some { flip := true, slot := 0, wait := w, script := b, pixels := [1, 0, 1, 0], profile := wProf } } }
def wSer : State := { UP with boot := { phase := .app }, cat := { sections := [(1, [0xFF, 0xFF, 0xFF, 0xFF]), (2, [9, 0, 0, 0, 34, 1, 0x20, 0, 35, 1, 0, 0, 36, 0x10, 0, 0, 37, 0x12, 0, 0, 38, 0x13, 0, 0, 39, 0x18, 0, 0, 40, 0x19, 0, 0, 41, 0x1D, 0, 0, 42, 0x11, 0, 0])] } }
def wNoPad : State := { wSer with cat := { sections := [(1, [0xFF, 0xFF, 0xFF, 0xFF])] } }

/-! ### The hypotheses of each statement can be met -/

theorem met_a_step_runs_the_command_at_the_front :
    (∃ (c : Instr) (q : List Instr) (s : State), (s.pending = c :: q)) ∧
    (∃ (s : State), (s.pending = [])) :=
  ⟨⟨.debugHalt, [.debugResume], { State.reset with pending := [.debugHalt, .debugResume] }, by decide +kernel⟩,
   ⟨State.reset, by decide +kernel⟩⟩

theorem met_every_step_keeps_the_canonical_forms :
    (∃ (s : State), (s.regsWf = true) ∧ (s.memWf = true)) :=
  ⟨State.reset, by decide +kernel⟩

theorem met_no_step_takes_back_a_fuse :
    (∃ (s t : State), (step s = .next t)) :=
  ⟨State.reset, State.reset.idle, by rfl⟩

theorem met_absent_and_unmapped_accesses_are_answered :
    (∃ (m : Master) (addr : Word) (src : Nat) (s : State), (s.absentAt addr.toNat = some src) ∧ (s.locked m = false)) ∧
    (∃ (m : Master) (addr v : Word) (src : Nat) (s : State), (s.absentAt addr.toNat = some src) ∧ (s.locked m = false)) ∧
    (∃ (m : Master) (addr v : Word) (src : Nat) (s : State), (s.absentAt (addr.toNat / 4 * 4) = some src) ∧ (s.locked m = false)) ∧
    (∃ (m : Master) (w : Bool) (addr : Word) (s : State), (region addr.toNat = .unmapped ∨ (w = true ∧ (region addr.toNat = .rom ∨ region addr.toNat = .xip))) ∧ (s.absentAt addr.toNat = none) ∧ (s.locked m = false) ∧ (s.bit Reg.BUS_INFO 31 = false)) ∧
    (∃ (m : Master) (w : Bool) (addr : Word) (s : State), (region addr.toNat = .unmapped ∨ (w = true ∧ (region addr.toNat = .rom ∨ region addr.toNat = .xip))) ∧ (s.absentAt addr.toNat = none) ∧ (s.locked m = false) ∧ (s.bit Reg.BUS_INFO 31 = true)) ∧
    (∃ (m : Master) (addr v : Word) (s : State), (region (addr.toNat / 4 * 4) = .queue) ∧ (s.absentAt (addr.toNat / 4 * 4) = none) ∧ (m ≠ .queue) ∧ (s.locked m = false)) ∧
    (∃ (m : Master) (addr v : Word) (s : State), (region addr.toNat = .pool) ∧ (addr.toNat % 128 < 4) ∧ (s.absentAt (addr.toNat / 4 * 4) = none) ∧ (s.locked m = false)) :=
  ⟨⟨.core, 0x40040000, 64, { State.reset with variant := .label }, by decide +kernel⟩,
   ⟨.core, 0x40044000, 5, 68, { State.reset with variant := .keeper }, by decide +kernel⟩,
   ⟨.core, 0x10400000, 5, 0, { State.reset with variant := .keeper }, by decide +kernel⟩,
   ⟨.host, true, 0xFFFC, State.reset, by decide +kernel⟩,
   ⟨.mover, false, 0xFFFFFFFC, (State.reset.wr Reg.BUS_INFO 0x8000FF02), by decide +kernel⟩,
   ⟨.debug, 0x21000000, 1, State.reset, by decide +kernel⟩,
   ⟨.core, 0x22000083, 1, State.reset, by decide +kernel⟩⟩

theorem met_reads_clear_rc_fields_but_not_for_debug :
    (∃ (m : Master) (a : Nat) (r : RegRow) (s : State), (a ∈ [Reg.SPINE_F_ERR, Reg.SPINE_S_ERR, Reg.PWR_COUNT, Reg.CLK_MON, Reg.FAULT_STATUS, Reg.FAULT_COUNT, Reg.INTC_OVR, Reg.FAB_MERGED, Reg.FAB_STATUS, Reg.ACT_COUNTS, Reg.WDOG_STATUS, Reg.QE_COUNT, Reg.STOR_COUNT, Reg.STOR_COUNT2, Reg.SECMB_TAMP_COUNT, Reg.PANEL_COUNT, Reg.HIF_ERR]) ∧ (rowOf a = some r) ∧ (m ≠ .debug)) ∧
    (∃ (a : Nat) (s : State), (a ∈ [Reg.SPINE_F_ERR, Reg.SPINE_S_ERR, Reg.PWR_COUNT, Reg.CLK_MON, Reg.FAULT_STATUS, Reg.FAULT_COUNT, Reg.INTC_OVR, Reg.FAB_MERGED, Reg.FAB_STATUS, Reg.ACT_COUNTS, Reg.WDOG_STATUS, Reg.QE_COUNT, Reg.STOR_COUNT, Reg.STOR_COUNT2, Reg.SECMB_TAMP_COUNT, Reg.PANEL_COUNT, Reg.HIF_ERR]) ∧ (s.debugOpen = true)) ∧
    (∃ (m : Master) (addr : Word) (die : Die) (s : State), (farDie (addr.toNat / 4 * 4) = some die) ∧ (s.spineState die = 3) ∧ (s.locked m = false) ∧ ((s.spine die).waiting = []) ∧ (s.lineWaits die m = false) ∧ (s.spineOut die < 16) ∧ (s.masterOut m < 8)) ∧
    (∃ (m : Master) (p : Packet) (seq : Byte) (a : Nat) (r : RegRow) (s : State), ((s.spine .front).replay.find? (fun p => !accepted (s.spine .front).farRx p.seq) = some p) ∧ (p.seq = seq) ∧ (p.req = ⟨m, false, a, 0⟩) ∧ (a ∈ [Reg.RADIO_COUNT, Reg.MODEM_COUNT_DET, Reg.MODEM_COUNT_ERR, Reg.MODEM_COUNT_CHORUS, Reg.CAL_COUNT, Reg.TUNER_COUNT]) ∧ (rowOf a = some r) ∧ (m ≠ .debug)) ∧
    (∃ (p : Packet) (seq : Byte) (a : Nat) (s : State), ((s.spine .front).replay.find? (fun p => !accepted (s.spine .front).farRx p.seq) = some p) ∧ (p.seq = seq) ∧ (p.req = ⟨.debug, false, a, 0⟩) ∧ (a ∈ [Reg.RADIO_COUNT, Reg.MODEM_COUNT_DET, Reg.MODEM_COUNT_ERR, Reg.MODEM_COUNT_CHORUS, Reg.CAL_COUNT, Reg.TUNER_COUNT])) :=
  ⟨⟨.host, Reg.FAULT_COUNT, { base := 0x40004028, rc := 0xFFFFFFFF }, State.reset, by decide +kernel⟩,
   ⟨Reg.INTC_OVR, State.reset, by decide +kernel⟩,
   ⟨.core, 0x50000020, .front, UP, by decide +kernel⟩,
   ⟨.core, ⟨0, 1, ⟨.core, false, Reg.RADIO_COUNT, 0⟩⟩, 0, Reg.RADIO_COUNT, { base := 0x50000020, rc := 0xFFFFFFFF }, { UP with spineF := { replay := [⟨0, 1, ⟨.core, false, Reg.RADIO_COUNT, 0⟩⟩] } }, by decide +kernel⟩,
   ⟨⟨0, 1, ⟨.debug, false, Reg.RADIO_COUNT, 0⟩⟩, 0, Reg.RADIO_COUNT, { UP with spineF := { replay := [⟨0, 1, ⟨.debug, false, Reg.RADIO_COUNT, 0⟩⟩] } }, by decide +kernel⟩⟩

theorem met_register_writes_follow_the_access_kinds :
    (∃ (m : Master) (a : Nat) (v : Word) (r : RegRow) (s : State), (a ∈ [Reg.RSTC_HIST, Reg.RSTC_LASTFAIL, Reg.RSTC_BKP 0, Reg.RSTC_BKP 7, Reg.PWR_CTRL, Reg.PWR_STATUS, Reg.PWR_WAKE_CAUSE, Reg.PWR_ALARM_LO, Reg.CLK_STATUS, Reg.FAB_BK_PEND, Reg.FAB_SEEN 0, Reg.CHRON_EPS, Reg.CHRON_SLEEP_WIN, Reg.CHRON_STATUS, Reg.CHRON_EVEN, Reg.ACT_BASE_LO, Reg.ACT_EVEN, Reg.ACT_FIRED 15, Reg.TMR_CC0 0, Reg.TMR_FLAGS 7, Reg.QE_CFG, Reg.LINK_CTRL, Reg.LINK_RANGE, Reg.LINK_OPD 3, Reg.LTS_DATA 8, Reg.STOR_CFG, Reg.STOR_CMD_OP, Reg.SECMB_TAMP_LATCH, Reg.REL_DOOR, Reg.PANEL_STAGE, Reg.PANEL_HOLD, Reg.HIF_CFG, Reg.HIF_IRQ_PEND, Reg.GPIO_FLAG 1, Reg.GPIO_TP_CFG 7, Reg.CATL_SRC, Reg.CATL_STATUS]) ∧ (rowOf a = some r) ∧ (s.locked m = false) ∧ (s.isHeld = false) ∧ (s.variant = .anchor)) ∧
    (∃ (m : Master) (a : Nat) (v : Word) (r : RegRow) (s : State), (a ∈ [Reg.INTC_EN 0, Reg.INTC_EN 7, Reg.INTC_THRESH, Reg.INTC_PRIO 31, Reg.INTC_PEND 0]) ∧ (rowOf a = some r) ∧ (s.locked m = false) ∧ (s.isHeld = false) ∧ ((a = Reg.INTC_PEND 0 → ∀ n ∈ s.fab.pulses, n < 32 → bitOf v n = false))) ∧
    (∃ (m : Master) (n : Nat) (v : Word) (s : State), (s.locked m = false) ∧ (s.isHeld = false) ∧ (n ∈ s.fab.pulses) ∧ (n < 32) ∧ (bitOf v n = true)) ∧
    (∃ (m : Master) (v : Word) (s : State), (s.locked m = false) ∧ (s.isHeld = false)) ∧
    (∃ (m : Master) (v : Word) (s : State), (s.locked m = false) ∧ (s.isHeld = false)) ∧
    (∃ (m : Master) (v : Word) (s : State), (s.locked m = false) ∧ (s.isHeld = false)) ∧
    (∃ (m : Master) (addr v : Word) (s : State), (region (addr.toNat / 4 * 4) = .unmapped) ∧ (s.locked m = false)) ∧
    (∃ (c : Instr) (m : Master) (v : Word) (s : State), (s.locked m = true) ∧ (c ∈ [.actArm m v, .actCancel m v, .actRelease m v, .actTmpl m v])) ∧
    (∃ (m : Master) (s : State), (s.locked m = true)) ∧
    (∃ (m : Master) (s : State), (s.locked m = true)) :=
  ⟨⟨.core, Reg.CHRON_STATUS, 0xFFFFFFFF, { base := 0x4000804C, w1c := 0xF0008, keep := 0x1 }, State.reset, by decide +kernel⟩,
   ⟨.host, Reg.INTC_PEND 0, 1, { base := 0x400050A0, count := 8, stride := 0x4, w1c := 0xFFFFFFFF }, State.reset, by decide +kernel⟩,
   ⟨.core, 5, 0x20, { (State.reset.wr (Reg.INTC_PEND 0) 0x30) with fab := { pulses := [5] } }, by decide +kernel⟩,
   ⟨.core, 0, State.reset, by decide +kernel⟩,
   ⟨.core, 0, State.reset, by decide +kernel⟩,
   ⟨.core, 0x0C96FEED, State.reset, by decide +kernel⟩,
   ⟨.core, 0x60000000, 0, State.reset, by decide +kernel⟩,
   ⟨.actArm .debug 3, .debug, 3, wLocked, by decide +kernel⟩,
   ⟨.debug, wLocked, by decide +kernel⟩,
   ⟨.debug, wLocked, by decide +kernel⟩⟩

theorem met_far_die_accesses_cross_their_spine_in_order :
    (∃ (m : Master) (w : Bool) (addr v : Word) (die : Die) (s : State), (farDie addr.toNat = some die) ∧ (s.locked m = false) ∧ (s.spineState die = 3) ∧ ((s.spine die).waiting.any (fun q => q.master == m) = false) ∧ (s.lineWaits die m = false) ∧ (s.spineOut die < 16) ∧ (s.masterOut m < 8)) ∧
    (∃ (m : Master) (w : Bool) (addr v : Word) (die : Die) (s : State), (farDie addr.toNat = some die) ∧ (s.locked m = false) ∧ (s.spineState die ≠ 2) ∧ (s.spineState die ≠ 3)) ∧
    (∃ (m : Master) (w : Bool) (addr v : Word) (die : Die) (s : State), (farDie addr.toNat = some die) ∧ (s.locked m = false) ∧ (s.spineState die = 2 ∨ (s.spineState die = 3 ∧ ((s.spine die).waiting.any (fun q => q.master == m) = true ∨ s.lineWaits die m = true)))) ∧
    (∃ (m : Master) (w : Bool) (addr v : Word) (die : Die) (s : State), (farDie addr.toNat = some die) ∧ (s.locked m = false) ∧ (s.spineState die = 3) ∧ ((s.spine die).waiting.any (fun q => q.master == m) = false) ∧ (s.lineWaits die m = false) ∧ (16 ≤ s.spineOut die)) ∧
    (∃ (m : Master) (w : Bool) (addr v : Word) (die : Die) (s : State), (farDie addr.toNat = some die) ∧ (s.locked m = false) ∧ (s.spineState die = 3) ∧ ((s.spine die).waiting.any (fun q => q.master == m) = false) ∧ (s.lineWaits die m = false) ∧ (s.spineOut die < 16) ∧ (8 ≤ s.masterOut m)) ∧
    (∃ (m : Master) (addr : Word) (s : State), (region addr.toNat = .store) ∧ (s.locked m = false)) ∧
    (∃ (m : Master) (addr : Word) (s : State), (region addr.toNat = .store) ∧ (s.locked m = false) ∧ (s.spineState .store = 3) ∧ (s.spineS.waiting = []) ∧ (s.lineWaits .store m = false) ∧ (s.spineOut .store < 16) ∧ (s.masterOut m < 8)) ∧
    (∃ (m : Master) (r : SpineReq) (s : State), (s.spineF.waiting.find? (fun r => r.master == m) = some r) ∧ (0x20000000 ≤ r.addr) ∧ (s.spineState .front = 3) ∧ (s.spineF.outst.length < 16) ∧ (s.masterOut m < 8) ∧ (r.master = m)) ∧
    (∃ (m : Master) (r : SpineReq) (s : State), (s.spineF.waiting.find? (fun r => r.master == m) = some r) ∧ (0x20000000 ≤ r.addr) ∧ (s.spineState .front = 3) ∧ (16 ≤ s.spineF.outst.length)) ∧
    (∃ (die : Die) (r : SpineReq) (l : List SpineReq) (s : State), ((s.spine die).arrived = r :: l) ∧ ((s.spine die).outst.any (fun q => !q.write && q.master == r.master && q.addr == r.addr) = true)) :=
  ⟨⟨.core, true, 0x50000008, 5, .front, UP, by decide +kernel⟩,
   ⟨.core, true, 0x50000008, 5, .front, State.reset, by decide +kernel⟩,
   ⟨.core, true, 0x50000008, 5, .front, (UP.wr Reg.SPINE_F_STAT 2), by decide +kernel⟩,
   ⟨.core, true, 0x50000008, 5, .front, { UP with spineF := { outst := List.replicate 16 ⟨.link, true, 0x50000008, 0⟩ } }, by decide +kernel⟩,
   ⟨.core, true, 0x50000008, 5, .front, { UP with spineF := { outst := List.replicate 8 ⟨.core, true, 0x50000008, 0⟩ } }, by decide +kernel⟩,
   ⟨.core, 0x58000004, State.reset, by decide +kernel⟩,
   ⟨.core, 0x58000004, UP, by decide +kernel⟩,
   ⟨.core, ⟨.core, true, 0x50000008, 7⟩, { UP with spineF := { waiting := [⟨.core, true, 0x50000008, 7⟩] } }, by decide +kernel⟩,
   ⟨.core, ⟨.core, true, 0x50000008, 7⟩, { UP with spineF := { waiting := [⟨.core, true, 0x50000008, 7⟩], outst := List.replicate 16 ⟨.link, true, 0x50000008, 0⟩ } }, by decide +kernel⟩,
   ⟨.front, ⟨.core, false, 0x50000008, 9⟩, [], { UP with spineF := { arrived := [⟨.core, false, 0x50000008, 9⟩], outst := [⟨.core, false, 0x50000008, 0⟩] } }, by decide +kernel⟩⟩

theorem met_spine_packets_are_accepted_once_and_resent :
    (∃ (die : Die) (p : Packet) (s : State), ((s.spine die).farReplay.find? (fun p => !accepted (s.spine die).coreRx p.seq) = some p)) ∧
    (∃ (die : Die) (seq : Byte) (s : State), (accepted (s.spine die).coreRx seq = true)) ∧
    (∃ (die : Die) (seq : Byte) (s : State), (accepted (s.spine die).farRx seq = true)) ∧
    (∃ (die : Die) (seq : Byte) (p : Packet) (s : State), ((s.spine die).replay.find? (fun p => p.seq == seq) = some p) ∧ ((s.spine die).replay.all (fun x => !seqLe seq x.seq || decide (x.sends < 4)) = true)) ∧
    (∃ (die : Die) (seq : Byte) (p : Packet) (s : State), ((s.spine die).replay.find? (fun p => p.seq == seq) = some p) ∧ ((s.spine die).replay.any (fun x => seqLe seq x.seq && decide (4 ≤ x.sends)) = true) ∧ (s.rdF Reg.SECMB_TAMP_CLASS (2 * (5 + spineNo die)) 2 = 0)) ∧
    (∃ (die : Die) (p : Packet) (l : List Packet) (s : State), ((s.spine die).replay = p :: l) ∧ ((p :: l).all (fun x => !seqLe p.seq x.seq || decide (x.sends < 4)) = true)) ∧
    (∃ (target : FsmTarget) (s : State), (s.spineState .front = 3)) :=
  ⟨⟨.store, ⟨3, 1, ⟨.core, false, 0x58000000, 4096⟩⟩, { UP with spineS := { farReplay := [⟨3, 1, ⟨.core, false, 0x58000000, 4096⟩⟩] } }, by decide +kernel⟩,
   ⟨.front, 3, { UP with spineF := { coreRx := some 3 } }, by decide +kernel⟩,
   ⟨.front, 255, { UP with spineF := { farRx := some 3 } }, by decide +kernel⟩,
   ⟨.front, 7, ⟨7, 3, ⟨.core, true, 0x50000008, 7⟩⟩, { UP with spineF := { replay := [⟨7, 3, ⟨.core, true, 0x50000008, 7⟩⟩] } }, by decide +kernel⟩,
   ⟨.store, 7, ⟨7, 4, ⟨.core, true, 0x50000008, 7⟩⟩, { UP with spineS := { replay := [⟨7, 4, ⟨.core, true, 0x50000008, 7⟩⟩] } }, by decide +kernel⟩,
   ⟨.front, ⟨7, 3, ⟨.core, true, 0x50000008, 7⟩⟩, [], { UP with spineF := { replay := [⟨7, 3, ⟨.core, true, 0x50000008, 7⟩⟩] } }, by decide +kernel⟩,
   ⟨⟨3, true, false⟩, UP, by decide +kernel⟩⟩

theorem met_die_resets_and_training_follow_their_tables :
    (∃ (s : State), (s.spineState .front = 1)) ∧
    (∃ (s : State), (s.spineState .front = 1 ∨ s.spineState .front = 0) ∧ (s.spineF.resetReq = false) ∧ (s.asleep = false)) ∧
    (∃ (s : State), (s.spineState .store = 1) ∧ (s.spineS.resetReq = true) ∧ (s.store.ops.any (fun o => o.state == .running) = false)) ∧
    (∃ (s : State), (s.spineState .front = 3)) ∧
    (∃ (s : State), (s.spineState .front ≠ 3)) ∧
    (∃ (s : State), (s.spineState .store = 3)) ∧
    (∃ (s : State), (s.spineState .store ≠ 3)) ∧
    (∃ (die : Die) (s : State), (s.spineState die = 2) ∧ ((s.spine die).waiting = []) ∧ (s.store.reads = [])) :=
  ⟨⟨(UP.wr Reg.SPINE_F_STAT 1), by decide +kernel⟩,
   ⟨(UP.wr Reg.SPINE_F_STAT 1), by decide +kernel⟩,
   ⟨{ UP.wr Reg.SPINE_S_STAT 1 with spineS := { resetReq := true } }, by decide +kernel⟩,
   ⟨UP, by decide +kernel⟩,
   ⟨State.reset, by decide +kernel⟩,
   ⟨UP, by decide +kernel⟩,
   ⟨State.reset, by decide +kernel⟩,
   ⟨.front, (UP.wr Reg.SPINE_F_STAT 2), by decide +kernel⟩⟩

theorem met_catalogue_commands_wait_for_their_signature :
    (∃ (a : Nat) (img : List Byte) (s : State), (s.catBusy = false) ∧ ((s.rd Reg.CATL_SRC).toNat = a) ∧ (a % 4 = 0) ∧ (0x20000000 ≤ a ∧ a < 0x20010000) ∧ (img = s.bytesAt a (readLen (b4 (s.bytesAt a 32) 0x10) 96 65536)) ∧ (s.headerCode img = 0)) ∧
    (∃ (a : Nat) (img : List Byte) (s : State), (s.catBusy = false) ∧ ((s.rd Reg.CATL_SRC).toNat = a) ∧ (a % 4 = 0) ∧ (0x20000000 ≤ a ∧ a < 0x20010000) ∧ (img = s.bytesAt a (readLen (b4 (s.bytesAt a 32) 0x10) 96 65536)) ∧ (s.headerCode img ≠ 0)) ∧
    (∃ (a : Nat) (img : List Byte) (s : State), (s.catBusy = false) ∧ ((s.rd Reg.CATL_SRC).toNat = a) ∧ (a % 4 = 0) ∧ (0x20000000 ≤ a ∧ a < 0x20010000) ∧ (img = s.bytesAt a (readLen (b4 (s.bytesAt a 32) 0x10) 96 65536)) ∧ (s.headerCode img = 0)) ∧
    (∃ (slot : Bool) (img : List Byte) (n : Nat) (s : State), (s.catBusy = false) ∧ (s.spineState .store = 3) ∧ (s.readStalls = false) ∧ (s.storeBad (catSlotOff slot) 32 = none) ∧ (n = readLen (b4 (s.storeBytes (catSlotOff slot) 32) 0x10) 96 65536) ∧ (s.storeBad (catSlotOff slot) n = none) ∧ (img = s.storeBytes (catSlotOff slot) n) ∧ (s.headerCode img = 0)) ∧
    (∃ (slot : Bool) (img : List Byte) (n : Nat) (s : State), (s.catBusy = false) ∧ (s.spineState .store = 3) ∧ (s.readStalls = false) ∧ (s.storeBad (appSlotOff slot) 32 = none) ∧ (n = readLen (b4 (s.storeBytes (appSlotOff slot) 32) 0x10) 96 1048576) ∧ (s.storeBad (appSlotOff slot) n = none) ∧ (img = s.storeBytes (appSlotOff slot) n) ∧ (s.appHeaderCode img = 0)) :=
  ⟨⟨0x20000000, wImg, wSram, by decide +kernel⟩,
   ⟨0x20000000, wImg, { wSram with boot := { retired := true } }, by decide +kernel⟩,
   ⟨0x20000000, wImg, wSram, by decide +kernel⟩,
   ⟨false, wImg, 96, wSlot, by decide +kernel⟩,
   ⟨true, [0x4F, 0x43, 0x56, 0x41] ++ wImg.drop 4, 96, (UP.progBytes 608 0 ([0x4F, 0x43, 0x56, 0x41] ++ wImg.drop 4)), by decide +kernel⟩⟩

theorem met_catalogue_commands_complete_in_their_phases :
    (∃ (s : State), (s.catBusy = true) ∧ (s.catPhase = 1) ∧ (s.cat.reading = false)) ∧
    (∃ (s : State), (s.catBusy = true) ∧ (s.catPhase = 1) ∧ (s.cat.reading = false) ∧ (s.cat.cmd = 1)) ∧
    (∃ (s : State), (s.catBusy = true) ∧ (s.catPhase = 1) ∧ (s.cat.reading = false) ∧ (s.cat.cmd = 2)) ∧
    (∃ (s : State), (s.catBusy = true) ∧ (s.catPhase = 1) ∧ (s.cat.reading = false) ∧ (s.cat.cmd = 3)) ∧
    (∃ (s : State), (s.catBusy = true) ∧ (s.catPhase = 3) ∧ (2 ≤ s.cat.folios)) ∧
    (∃ (s : State), (s.catBusy = true) ∧ (s.catPhase = 3) ∧ (s.cat.folios ≤ 1)) ∧
    (∃ (s : State), (s.catBusy = true) ∧ (s.catPhase = 4) ∧ (s.bit Reg.CATL_CTRL 4 = false)) ∧
    (∃ (s : State), (s.catBusy = true) ∧ (s.catPhase = 5) ∧ (s.bit Reg.PWR_STATUS 0 = false) ∧ (s.cat.app = false) ∧ (s.physOf 2 ≠ s.physOf 3) ∧ (s.record.seq + 1 < 2 ^ 32)) ∧
    (∃ (s : State), (s.catBusy = true) ∧ (s.catPhase = 5) ∧ (s.bit Reg.PWR_STATUS 0 = false) ∧ (s.cat.app = true) ∧ (s.physOf 2 ≠ s.physOf 3) ∧ (s.record.seq + 1 < 2 ^ 32)) :=
  ⟨⟨wCat 1 2, by decide +kernel⟩,
   ⟨wCat 1 1, by decide +kernel⟩,
   ⟨wCat 1 2, by decide +kernel⟩,
   ⟨wCat 1 3, by decide +kernel⟩,
   ⟨wCat 3 2, by decide +kernel⟩,
   ⟨{ wCat 3 2 with cat := { cmd := 2, image := wImg, folios := 1 } }, by decide +kernel⟩,
   ⟨wCat 4 2, by decide +kernel⟩,
   ⟨{ wCat 5 3 with cat := { cmd := 3, image := wImg, slot := true } }, by decide +kernel⟩,
   ⟨{ wCat 5 3 with cat := { cmd := 3, image := wImg, slot := true, app := true } }, by decide +kernel⟩⟩

theorem met_commit_raises_and_retire_retires_and_busy_refuses :
    (∃ (s : State), (s.catBusy = false)) ∧
    (∃ (s : State), (s.catBusy = false) ∧ (s.bit Reg.CATL_INFO 3 = true)) ∧
    (∃ (s : State), (s.catBusy = false) ∧ (s.bit Reg.CATL_INFO 3 = false)) ∧
    (∃ (c : Instr) (s : State), (c ∈ [.catlVerify, .catlApply, .catlCommit, .catlRetire, .catlSetActive false false, .catlSetActive false true, .catlSetActive true false, .catlSetActive true true]) ∧ (s.catBusy = true)) ∧
    (∃ (m : Master) (v : Word) (s : State), (s.locked m = false) ∧ (s.isHeld = false) ∧ (fld v 0 4 ≠ 0) ∧ (s.catBusy = true)) :=
  ⟨⟨State.reset.wr Reg.CATL_BUILD 9, by decide +kernel⟩,
   ⟨State.reset.setB Reg.CATL_INFO 3 true, by decide +kernel⟩,
   ⟨State.reset, by decide +kernel⟩,
   ⟨.catlApply, wCat 3 2, by decide +kernel⟩,
   ⟨.core, 0x0F, wCat 3 2, by decide +kernel⟩⟩

theorem met_warm_resets_clear_what_the_table_says :
    (∃ (ns : Nat) (s : State), (10000 < ns) ∧ (s.isHeld = false) ∧ (s.regsWf = true)) ∧
    (∃ (ns : Nat) (s : State), (ns < 2000)) ∧
    (∃ (ns : Nat) (s : State), (2000 ≤ ns) ∧ (ns ≤ 10000)) ∧
    (∃ (s : State), (s.isHeld = false) ∧ (s.regsWf = true)) ∧
    (∃ (key : Word) (s : State), (key ≠ 0x0C965A5A)) ∧
    (∃ (s : State), (s.debugOpen = true) ∧ (s.isHeld = false) ∧ (s.regsWf = true)) ∧
    (∃ (s : State), (s.debugOpen = false)) ∧
    (∃ (s : State), (s.boot.resetDue = true) ∧ (s.isHeld = false) ∧ (s.regsWf = true)) :=
  ⟨⟨10001, State.reset, by decide +kernel⟩,
   ⟨1999, State.reset, by decide +kernel⟩,
   ⟨2000, State.reset, by decide +kernel⟩,
   ⟨State.reset, by decide +kernel⟩,
   ⟨0, State.reset, by decide +kernel⟩,
   ⟨State.reset, by decide +kernel⟩,
   ⟨{ State.reset with cust := { life := 1 } }, by decide +kernel⟩,
   ⟨{ State.reset with boot := { phase := .annex, resetDue := true } }, by decide +kernel⟩⟩

theorem met_cold_resets_clear_also_memory_and_power :
    (∃ (s : State), (s.isHeld = false) ∧ (s.regsWf = true)) ∧
    (∃ (s : State), (s.isHeld = true)) ∧
    (∃ (s : State), (s.boot.phase = .held)) ∧
    (∃ (s : State), (s.boot.phase ≠ .held)) :=
  ⟨⟨State.reset, by decide +kernel⟩,
   ⟨{ State.reset with boot := { phase := .sealed } }, by decide +kernel⟩,
   ⟨State.reset, by decide +kernel⟩,
   ⟨{ State.reset with boot := { phase := .app } }, by decide +kernel⟩⟩

theorem met_a_start_runs_its_steps_or_counts_the_failure :
    (∃ (env : BootEnv) (s : State), (s.boot.phase = .start) ∧ (env.fails = []) ∧ (env.tamper = []) ∧ (env.bootSel = some true) ∧ (s.boot.coldMirror = false)) ∧
    (∃ (env : BootEnv) (s : State), (s.boot.phase = .start) ∧ (env.fails = [1]) ∧ (env.tamper = []) ∧ (s.rd Reg.RSTC_BOOT_STEP = 0xF) ∧ (s.regsWf = true)) ∧
    (∃ (env : BootEnv) (k : Fin 14) (s : State), (s.boot.phase = .start) ∧ (env.fails = []) ∧ (env.tamper = []) ∧ (s.rd Reg.RSTC_BOOT_STEP = 0xF) ∧ (1 ≤ k.val) ∧ (k.val ≤ 5) ∧ (s.boot.coldMirror = false) ∧ (s.regsWf = true)) ∧
    (∃ (env : BootEnv) (s : State), (s.boot.phase = .start) ∧ (env.fails.any (fun k => k.val == 0) = true)) ∧
    (∃ (env : BootEnv) (s : State), (s.boot.phase ≠ .start)) :=
  ⟨⟨wEnv, wStart, by decide +kernel⟩,
   ⟨{ wEnv with fails := [1] }, wStart, by decide +kernel⟩,
   ⟨wEnv, 5, wStart, by decide +kernel⟩,
   ⟨{ wEnv with fails := [0] }, wStart, by decide +kernel⟩,
   ⟨wEnv, State.reset, by decide +kernel⟩⟩

theorem met_reset_controller_keys_act_as_their_rules_say :
    (∃ (key : Word) (s : State), (key ≠ 0x0C96B00C)) ∧
    (∃ (m : Master) (v : Word) (s : State), (s.locked m = false) ∧ (s.isHeld = false)) ∧
    (∃ (s : State), (s.bit Reg.RSTC_CIRC 19 = true) ∧ (s.bit Reg.PWR_STATUS 0 = false)) ∧
    (∃ (s : State), (s.bit Reg.PWR_STATUS 0 = true)) :=
  ⟨⟨0, State.reset, by decide +kernel⟩,
   ⟨.core, 0x0C96B00C, State.reset, by decide +kernel⟩,
   ⟨(State.reset.setB Reg.RSTC_CIRC 19 true), by decide +kernel⟩,
   ⟨(State.reset.setB Reg.PWR_STATUS 0 true), by decide +kernel⟩⟩

theorem met_annex_frames_are_answered_by_the_table :
    (∃ (c : Instr) (x : Bool) (line : List Byte) (s : State), (c ∈ [.annexHello line, .annexBegin line, .annexData line x, .annexEnd line x, .annexReset line]) ∧ (parseFrame line = none)) ∧
    (∃ (line : List Byte) (f : HifFrame) (s : State), (s.boot.phase = .annex) ∧ (parseFrame line = some f) ∧ (f.op = 0 ∨ 5 < f.op)) ∧
    (∃ (line : List Byte) (f : HifFrame) (s : State), (s.boot.phase = .annex) ∧ (parseFrame line = some f) ∧ (f.op = 1) ∧ (f.len = 0) ∧ (f.payload = [])) ∧
    (∃ (line : List Byte) (f : HifFrame) (s : State), (s.boot.phase = .annex) ∧ (parseFrame line = some f) ∧ (f.op = 2) ∧ (f.len = 8) ∧ (f.payload.length = 8) ∧ (b1 f.payload 0 ≤ 3) ∧ (lenOk (b1 f.payload 0) (b4 f.payload 4) = true) ∧ (s.bit Reg.PWR_STATUS 0 = false)) ∧
    (∃ (w : AnnexWrite) (s : State), (s.boot.phase = .annex) ∧ (s.boot.annexW = some w) ∧ (w.erased = false) ∧ (w.target ≤ 3) ∧ (s.bit Reg.PWR_STATUS 0 = false)) ∧
    (∃ (line : List Byte) (f : HifFrame) (w : AnnexWrite) (s : State), (s.boot.phase = .annex) ∧ (parseFrame line = some f) ∧ (f.op = 3) ∧ (f.len = f.payload.length) ∧ (12 ≤ f.len) ∧ (f.len ≤ 1028) ∧ (s.boot.annexW = some w) ∧ (w.erased = true) ∧ (b4 f.payload 0 % 8 = 0) ∧ ((f.payload.drop 4).length % 8 = 0) ∧ (b4 f.payload 0 + (f.payload.drop 4).length ≤ w.len) ∧ (s.bit Reg.PWR_STATUS 0 = false) ∧ (s.runBlank (targetOff w.target + b4 f.payload 0) (f.payload.drop 4).length = true)) ∧
    (∃ (line : List Byte) (x : Bool) (f : HifFrame) (w : AnnexWrite) (s : State), (s.boot.phase = .annex) ∧ (parseFrame line = some f) ∧ (f.op = 4) ∧ (f.len = 0) ∧ (f.payload = []) ∧ (s.boot.annexW = some w) ∧ (w.erased = true) ∧ (s.bit Reg.PWR_STATUS 0 = false) ∧ (s.physOf 2 ≠ s.physOf 3) ∧ (s.physOf 2 ≠ s.physOf 4) ∧ (s.physOf 3 ≠ s.physOf 4) ∧ (s.record.seq + 1 < 2 ^ 32)) ∧
    (∃ (line : List Byte) (f : HifFrame) (w : AnnexWrite) (s : State), (s.boot.phase = .annex) ∧ (parseFrame line = some f) ∧ (f.op = 5) ∧ (f.len = 0) ∧ (f.payload = []) ∧ (s.boot.annexW = some w) ∧ (w.ended = true)) :=
  ⟨⟨.annexHello [1, 0], true, [1, 0], wAnnex, by decide +kernel⟩,
   ⟨wLine 9 3 [], ⟨9, 3, 0, []⟩, wAnnex, by decide +kernel⟩,
   ⟨wLine 1 3 [], ⟨1, 3, 0, []⟩, wAnnex, by decide +kernel⟩,
   ⟨wLine 2 3 [3, 0, 0, 0, 96, 0, 0, 0], ⟨2, 3, 8, [3, 0, 0, 0, 96, 0, 0, 0]⟩, wAnnex, by decide +kernel⟩,
   ⟨⟨0, 96, false, false, 4⟩, { wAnnex with boot := { phase := .annex, annexW := some ⟨0, 96, false, false, 4⟩ } }, by decide +kernel⟩,
   ⟨wLine 3 3 [8, 0, 0, 0, 1, 2, 3, 4, 5, 6, 7, 8], ⟨3, 3, 12, [8, 0, 0, 0, 1, 2, 3, 4, 5, 6, 7, 8]⟩, ⟨0, 96, true, false, 4⟩, { wAnnex with boot := { phase := .annex, annexW := some ⟨0, 96, true, false, 4⟩ } }, by decide +kernel⟩,
   ⟨wLine 4 3 [], false, ⟨4, 3, 0, []⟩, ⟨0, 96, true, false, 4⟩, { wAnnex with boot := { phase := .annex, annexW := some ⟨0, 96, true, false, 4⟩ } }, by decide +kernel⟩,
   ⟨wLine 5 3 [], ⟨5, 3, 0, []⟩, ⟨0, 96, true, true, 4⟩, { wAnnex with boot := { phase := .annex, annexW := some ⟨0, 96, true, true, 4⟩ } }, by decide +kernel⟩⟩

theorem met_rescue_collects_one_image_at_a_time :
    (∃ (p : List Byte) (x : Bool) (s : State), (s.onRescue = true) ∧ (s.boot.phase = .annex) ∧ (s.boot.annexW = none) ∧ (s.boot.resetDue = false) ∧ (s.bit Reg.PWR_STATUS 0 = false) ∧ (blockOk p = true) ∧ (s.boot.rescue = none)) ∧
    (∃ (p : List Byte) (x : Bool) (r : Rescue) (s : State), (s.onRescue = true) ∧ (s.boot.phase = .annex) ∧ (s.boot.annexW = none) ∧ (s.boot.resetDue = false) ∧ (s.bit Reg.PWR_STATUS 0 = false) ∧ (blockOk p = true) ∧ (s.boot.rescue = some r) ∧ (r.erased = true) ∧ (r.build < b4 p 4)) ∧
    (∃ (p : List Byte) (x : Bool) (r : Rescue) (s : State), (s.onRescue = true) ∧ (s.boot.phase = .annex) ∧ (s.boot.annexW = none) ∧ (s.boot.resetDue = false) ∧ (s.bit Reg.PWR_STATUS 0 = false) ∧ (blockOk p = true) ∧ (s.boot.rescue = some r) ∧ (r.erased = false ∨ b4 p 4 < r.build ∨ (b4 p 4 = r.build ∧ (b4 p 8 ≠ r.len ∨ b1 p 2 ≠ r.target ∨ r.blocks.contains (b2 p 12) = true)))) ∧
    (∃ (p : List Byte) (x : Bool) (r : Rescue) (s : State), (s.onRescue = true) ∧ (s.boot.phase = .annex) ∧ (s.boot.annexW = none) ∧ (s.boot.resetDue = false) ∧ (s.bit Reg.PWR_STATUS 0 = false) ∧ (blockOk p = true) ∧ (s.boot.rescue = some r) ∧ (r.erased = true) ∧ (b4 p 4 = r.build) ∧ (b4 p 8 = r.len) ∧ (b1 p 2 = r.target) ∧ (r.blocks.contains (b2 p 12) = false) ∧ (r.blocks.length + 1 < r.total)) ∧
    (∃ (r : Rescue) (s : State), (s.boot.rescue = some r) ∧ (r.erased = false) ∧ (s.bit Reg.PWR_STATUS 0 = false)) :=
  ⟨⟨wBlock, true, wResc, by decide +kernel⟩,
   ⟨wBlock, true, ⟨1, 4, 96, [0], true⟩, { wResc with boot := { phase := .annex, rescue := some ⟨1, 4, 96, [0], true⟩ } }, by decide +kernel⟩,
   ⟨wBlock, true, ⟨0, 5, 96, [0], true⟩, { wResc with boot := { phase := .annex, rescue := some ⟨0, 5, 96, [0], true⟩ } }, by decide +kernel⟩,
   ⟨[0xA5, 0x5A, 0, 0, 5, 0, 0, 0, 0, 2, 0, 0, 1, 0, 3, 0] ++ List.replicate 224 7, false, ⟨0, 5, 512, [0], true⟩, { wResc with boot := { phase := .annex, rescue := some ⟨0, 5, 512, [0], true⟩ } }, by decide +kernel⟩,
   ⟨⟨0, 5, 512, [], false⟩, { wResc with boot := { phase := .annex, rescue := some ⟨0, 5, 512, [], false⟩ } }, by decide +kernel⟩⟩

theorem met_brown_out_warning_and_sleep_entry_follow_power_control_1 :
    (∃ (s : State), (s.bit Reg.PWR_STATUS 0 = false) ∧ (s.isHeld = false) ∧ (s.asleep = false) ∧ (s.boot.phase = .app ∨ s.boot.phase = .annex)) ∧
    (∃ (s : State), (s.bit Reg.PWR_STATUS 0 = false) ∧ (s.asleep = true) ∧ (s.isHeld = false) ∧ (s.store.ops = []) ∧ (s.store.reads = []) ∧ (s.store.checks = [])) ∧
    (∃ (s : State), (s.pwr.mode = .run) ∧ (s.boot.phase = .app) ∧ (s.meip = false)) ∧
    (∃ (s : State), (s.pwr.mode = .run) ∧ (s.boot.phase = .app) ∧ (s.meip = false) ∧ (s.bit Reg.CLK_STATUS 3 = false)) ∧
    (∃ (s : State), (s.pwr.mode = .run) ∧ (s.boot.phase = .app) ∧ (s.meip = false) ∧ (s.bit Reg.CLK_STATUS 3 = false)) ∧
    (∃ (c : Instr) (s : State), (c ∈ [.wfiNap, .wfiHibernate]) ∧ (s.pwr.mode = .run) ∧ (s.boot.phase = .app) ∧ (s.meip = false) ∧ (s.bit Reg.CLK_STATUS 3 = true)) :=
  ⟨⟨wApp, by decide +kernel⟩,
   ⟨wNap, by decide +kernel⟩,
   ⟨wApp, by decide +kernel⟩,
   ⟨wApp, by decide +kernel⟩,
   ⟨wApp, by decide +kernel⟩,
   ⟨.wfiNap, wApp.setB Reg.CLK_STATUS 3 true, by decide +kernel⟩⟩

theorem met_brown_out_warning_and_sleep_entry_follow_power_control_2 :
    (∃ (c : Instr) (s : State), (c ∈ [.wfiDoze, .wfiNap, .wfiHibernate]) ∧ (s.meip = true)) ∧
    (∃ (s : State), (s.pwr.entry = some false) ∧ (s.pwr.mode = .doze) ∧ (s.blocked = false) ∧ (s.meip = false) ∧ (s.spineState .front ≠ 4) ∧ (s.spineState .store ≠ 4) ∧ (s.wakeInstant false = none)) ∧
    (∃ (i : Nat) (s : State), (s.pwr.entry = some true) ∧ (s.pwr.mode = .doze) ∧ (s.blocked = false) ∧ (s.meip = false) ∧ (s.spineState .front ≠ 4) ∧ (s.spineState .store ≠ 4) ∧ (s.wakeInstant true = some i) ∧ (4096 ≤ since i s.chron.now)) ∧
    (∃ (h : Bool) (i : Nat) (s : State), (s.pwr.entry = some h) ∧ (s.pwr.mode = .doze) ∧ (s.blocked = false) ∧ (s.meip = false) ∧ (s.wakeInstant h = some i) ∧ (since i s.chron.now < 4096)) ∧
    (∃ (s : State), (s.pwr.entry.isSome = true) ∧ (s.pwr.mode = .doze) ∧ (s.meip = true)) ∧
    (∃ (s : State), (s.pwr.entry.isSome = true)) :=
  ⟨⟨.wfiNap, (wApp.wr (Reg.INTC_EN 0) 1).wr (Reg.INTC_PEND 0) 1, by decide +kernel⟩,
   ⟨wDoze (some false), by decide +kernel⟩,
   ⟨4096, { (wDoze (some true)).wr Reg.PWR_ALARM_HI 0x80000000 with pwr := { mode := .doze, entry := some true, alarm := 4 } }, by decide +kernel⟩,
   ⟨true, 3072, { (wDoze (some true)).wr Reg.PWR_ALARM_HI 0x80000000 with pwr := { mode := .doze, entry := some true, alarm := 3 } }, by decide +kernel⟩,
   ⟨((wDoze (some false)).wr (Reg.INTC_EN 0) 1).wr (Reg.INTC_PEND 0) 1, by decide +kernel⟩,
   ⟨wDoze (some false), by decide +kernel⟩⟩

theorem met_wakes_resume_the_core_with_their_causes :
    (∃ (i : Nat) (s : State), (s.pwr.mode = .nap) ∧ (s.wakeAt = some i) ∧ (s.reached i = true) ∧ (s.alarmOn = false) ∧ (s.armed = []) ∧ (s.pwr.causes = [])) ∧
    (∃ (i : Nat) (s : State), (s.pwr.mode = .hibernate) ∧ (s.wakeAt = some i) ∧ (s.reached i = true) ∧ (s.alarmOn = true) ∧ (s.reached s.alarmAt = true)) ∧
    (∃ (i : Nat) (s : State), (s.pwr.mode = .doze) ∧ (s.pwr.resumeAt = some i) ∧ (s.reached i = true)) ∧
    (∃ (pll : Bool) (s : State), (s.pwr.mode = .nap) ∧ (s.pwr.waking = true) ∧ (s.pwr.causes.all (fun c => c < 7) = true) ∧ (s.spineState .store ≠ 4)) ∧
    (∃ (s : State), (s.pwr.mode = .hibernate) ∧ (s.pwr.causes ≠ []) ∧ (s.pwr.causes.all (fun c => c < 7) = true) ∧ (s.regsWf = true)) :=
  ⟨⟨0, { wNap with pwr := { mode := .nap } }, by decide +kernel⟩,
   ⟨0, { wNap.wr Reg.PWR_ALARM_HI 0x80000000 with pwr := { mode := .hibernate } }, by decide +kernel⟩,
   ⟨0, { wApp with pwr := { mode := .doze, resumeAt := some 0 } }, by decide +kernel⟩,
   ⟨true, wNap, by decide +kernel⟩,
   ⟨{ wNap with pwr := { mode := .hibernate, causes := [3], padNum := 5 } }, by decide +kernel⟩⟩

theorem met_an_alarm_that_fires_awake_only_clears_its_enable :
    (∃ (s : State), (s.alarmOn = true) ∧ (s.reached s.alarmAt = true) ∧ (s.asleep = false)) ∧
    (∃ (v : Word) (s : State), (bitOf v 31 = true) ∧ (s.reached (((s.rd Reg.PWR_ALARM_LO).toNat + fld v 0 16 * 2 ^ 32) * 1024) = true) ∧ (s.asleep = false)) ∧
    (∃ (v : Word) (s : State), (bitOf v 31 = false ∨ s.reached (((s.rd Reg.PWR_ALARM_LO).toNat + fld v 0 16 * 2 ^ 32) * 1024) = false)) :=
  ⟨⟨wApp.wr Reg.PWR_ALARM_HI 0x80000000, by decide +kernel⟩,
   ⟨0x80000000, wApp, by decide +kernel⟩,
   ⟨0x80000001, wApp, by decide +kernel⟩⟩

theorem met_clock_selection_and_monitors_act_as_stated :
    (∃ (s : State), (s.bit Reg.CLK_STATUS 1 = true)) ∧
    (∃ (count : Nat) (s : State), (s.asleep = false) ∧ (s.isHeld = false) ∧ (s.bit Reg.CLK_STATUS 3 = false) ∧ (s.chron.rootBad = 0 ∨ (1014 ≤ count ∧ count ≤ 1034))) ∧
    (∃ (count : Nat) (s : State), (s.asleep = false) ∧ (s.isHeld = false) ∧ (s.bit Reg.CLK_STATUS 3 = false) ∧ (1 ≤ s.chron.rootBad) ∧ (count < 1014 ∨ 1034 < count) ∧ (s.tampClass 3 < 2) ∧ (s.regsWf = true)) ∧
    (∃ (s : State), (s.asleep = false) ∧ (s.bit Reg.CLK_STATUS 3 = false)) ∧
    (∃ (s : State), (s.asleep = true)) ∧
    (∃ (s : State), (s.asleep = false)) ∧
    (∃ (s : State), (s.asleep = true) ∧ (s.isHeld = false)) :=
  ⟨⟨UP.wr Reg.CLK_STATUS 3, by decide +kernel⟩,
   ⟨1013, wApp, by decide +kernel⟩,
   ⟨1035, { wApp with chron := { rootBad := 1 } }, by decide +kernel⟩,
   ⟨wApp, by decide +kernel⟩,
   ⟨wNap, by decide +kernel⟩,
   ⟨wApp, by decide +kernel⟩,
   ⟨wNap, by decide +kernel⟩⟩

theorem met_phase_steps_obey_the_pending_bit :
    (∃ (m : Master) (a : Nat) (v : Word) (s : State), (a ∈ [Reg.CHRON_STEP_LO, Reg.CHRON_STEP_HI, Reg.CHRON_STEP_AT_LO, Reg.CHRON_STEP_AT_HI]) ∧ (s.stepPending = true) ∧ (s.locked m = false)) ∧
    (∃ (m : Master) (s : State), (s.stepPending = true) ∧ (s.locked m = false)) ∧
    (∃ (s : State), (s.stepPending = true)) ∧
    (∃ (s : State), (s.stepPending = false) ∧ (s.reached s.stepAt = false)) ∧
    (∃ (s : State), (s.stepPending = false) ∧ (s.reached s.stepAt = true)) ∧
    (∃ (s : State), (s.stepPending = true) ∧ (s.reached s.stepAt = true)) ∧
    (∃ (s : State), (s.reached s.stepAt = false)) :=
  ⟨⟨.core, Reg.CHRON_STEP_HI, 5, UP.setB Reg.CHRON_STEP_CTRL 8 true, by decide +kernel⟩,
   ⟨.core, UP.setB Reg.CHRON_STEP_CTRL 8 true, by decide +kernel⟩,
   ⟨UP.setB Reg.CHRON_STEP_CTRL 8 true, by decide +kernel⟩,
   ⟨UP.wr Reg.CHRON_STEP_AT_LO 77, by decide +kernel⟩,
   ⟨UP.wr Reg.CHRON_STEP_LO 77, by decide +kernel⟩,
   ⟨UP.setB Reg.CHRON_STEP_CTRL 8 true, by decide +kernel⟩,
   ⟨UP.wr Reg.CHRON_STEP_AT_LO 77, by decide +kernel⟩⟩

theorem met_the_chronicle_is_trimmed_and_disciplined :
    (∃ (s : State), ((2 ^ 22 : Int) ≤ s.chron.acc) ∧ (s.asleep = false)) ∧
    (∃ (s : State), ((2 ^ 22 : Int) ≤ s.chron.acc) ∧ (s.asleep = true)) ∧
    (∃ (s : State), (s.chron.acc ≤ -(2 ^ 22 : Int)) ∧ (s.asleep = false)) ∧
    (∃ (s : State), (s.chron.acc ≤ -(2 ^ 22 : Int)) ∧ (s.asleep = true)) ∧
    (∃ (s : State), (-(2 ^ 22 : Int) < s.chron.acc) ∧ (s.chron.acc < 2 ^ 22)) ∧
    (∃ (theta : Int) (s : State), (s.chron.discStep = some theta)) ∧
    (∃ (openAt : Nat) (s : State), (s.chron.lastRx.isSome = true) ∧ (s.rdF Reg.CHRON_EPS 16 16 * 1024 < s.guardAt openAt)) ∧
    (∃ (openAt : Nat) (s : State), (s.chron.lastRx = none)) :=
  ⟨⟨{ UP with chron := { acc := 4194305, now := 1023 } }, by decide +kernel⟩,
   ⟨{ wNap with chron := { acc := 4194304 } }, by decide +kernel⟩,
   ⟨{ UP with chron := { acc := -4194304 } }, by decide +kernel⟩,
   ⟨{ wNap with chron := { acc := -4194304 } }, by decide +kernel⟩,
   ⟨UP, by decide +kernel⟩,
   ⟨-5, { UP with chron := { discStep := some (-5) } }, by decide +kernel⟩,
   ⟨2000000000000, { UP with chron := { lastRx := some 0 } }, by decide +kernel⟩,
   ⟨2000000000000, UP, by decide +kernel⟩⟩

theorem met_timers_count_match_and_capture :
    (∃ (n : Fin 8) (s : State), (s.bit (Reg.TMR_CTRL n) 0 = true) ∧ (s.asleep = false) ∧ (s.cyc = {}) ∧ (n.val ∉ s.tmr.c0Due)) ∧
    (∃ (n : Fin 8) (s : State), (s.bit (Reg.TMR_CTRL n) 0 = true) ∧ (s.asleep = false) ∧ (s.cyc = {}) ∧ (n.val ∉ s.tmr.c0Due) ∧ (s.rd (Reg.TMR_CNT n) = 0xFFFFFFFF) ∧ ((∀ m < 4, ¬ ((s.rdF (ccCfg n m) 0 2 = 1 ∨ s.rdF (ccCfg n m) 0 2 = 2) ∧ s.rd (ccValue n m) = 0)))) ∧
    (∃ (n : Fin 8) (s : State), (s.bit (Reg.TMR_CTRL n) 0 = true) ∧ (s.asleep = false) ∧ (s.cyc = {}) ∧ (n.val ∈ s.tmr.c0Due)) ∧
    (∃ (n : Fin 8) (s : State), (s.bit (Reg.TMR_CTRL n) 0 = false ∨ s.asleep = true)) ∧
    (∃ (n : Fin 8) (s : State), (s.cyc = {})) ∧
    (∃ (n : Fin 8) (s : State), (n.val ∈ s.cyc.cntWritten)) ∧
    (∃ (n : Fin 8) (m : Fin 4) (s : State), (s.rdF (ccCfg n m) 0 2 = 3)) ∧
    (∃ (n : Fin 8) (m : Fin 4) (s : State), (s.rdF (ccCfg n m) 0 2 ≠ 3)) :=
  ⟨⟨2, ((((UP.wr (Reg.TMR_CTRL 2) 1).wr (Reg.TMR_CNT 2) 0xFFFFFFFF).wr (ccCfg 2 1) 2).wr (ccStride 2 1) 5).wr (ccCfg 2 3) 1, by decide +kernel⟩,
   ⟨2, (UP.wr (Reg.TMR_CTRL 2) 1).wr (Reg.TMR_CNT 2) 0xFFFFFFFF, by decide +kernel⟩,
   ⟨2, { (UP.wr (Reg.TMR_CTRL 2) 1).wr (ccCfg 2 3) 1 with tmr := { c0Due := [2] } }, by decide +kernel⟩,
   ⟨7, UP, by decide +kernel⟩,
   ⟨2, (UP.wr (Reg.TMR_CNT 2) 9).wr (ccCfg 2 3) 1, by decide +kernel⟩,
   ⟨2, { UP with cyc := { cntWritten := [2] } }, by decide +kernel⟩,
   ⟨2, 1, ((UP.wr (Reg.TMR_CNT 2) 9).wr (ccCfg 2 1) 3).wr (Reg.TMR_FLAGS 2) 2, by decide +kernel⟩,
   ⟨2, 1, UP, by decide +kernel⟩⟩

theorem met_action_commands_answer_by_the_entry_state_1 :
    (∃ (m : Master) (i : Fin 512) (w : Fin 4) (v : Word) (s : State), (s.locked m = false) ∧ (s.cyc = {}) ∧ ((s.entry i).state = .armed)) ∧
    (∃ (m : Master) (i : Fin 512) (v : Word) (s : State), (s.locked m = false) ∧ ((s.entry i).state ≠ .armed)) ∧
    (∃ (m : Master) (v : Word) (i : Nat) (s : State), (s.locked m = false) ∧ (s.cyc = {}) ∧ (i = fld v 0 9) ∧ ((s.entry i).state = .free)) ∧
    (∃ (m : Master) (v : Word) (i : Nat) (s : State), (s.locked m = false) ∧ (s.cyc = {}) ∧ (i = fld v 0 9) ∧ ((s.entry i).state ≠ .free)) ∧
    (∃ (m : Master) (v : Word) (i : Nat) (s : State), (s.locked m = false) ∧ (s.cyc = {}) ∧ (i = fld v 0 9) ∧ ((s.entry i).state = .armed) ∧ (s.reached (s.entry i).at_ = false ∨ (s.entry i).passed = true ∨ s.act.catchUp ≠ [] ∨ s.asleep = true)) ∧
    (∃ (m : Master) (v : Word) (i : Nat) (s : State), (s.locked m = false) ∧ (s.cyc = {}) ∧ (i = fld v 0 9) ∧ ((s.entry i).state = .armed) ∧ (s.reached (s.entry i).at_ = true) ∧ ((s.entry i).passed = false) ∧ (s.act.catchUp = []) ∧ (s.asleep = false) ∧ ((s.entry i).rep = 0)) ∧
    (∃ (m : Master) (v : Word) (i : Nat) (s : State), (s.locked m = false) ∧ (s.cyc = {}) ∧ (i = fld v 0 9) ∧ ((s.entry i).state = .armed) ∧ (s.reached (s.entry i).at_ = true) ∧ ((s.entry i).passed = false) ∧ (s.act.catchUp = []) ∧ (s.asleep = false) ∧ ((s.entry i).rep ≠ 0)) :=
  ⟨⟨.core, 5, 2, 77, UP.setEntry 5 { at_ := 0x800000000000000 % 2 ^ 58 / 2 + 99, chan := 7, state := .armed }, by decide +kernel⟩,
   ⟨.core, 5, 77, UP, by decide +kernel⟩,
   ⟨.core, 5, 5, UP.setEntry 5 { at_ := 0x800000000000000 % 2 ^ 58 / 2 + 99, chan := 7, state := .free, skipped := 3 }, by decide +kernel⟩,
   ⟨.core, 5, 5, UP.setEntry 5 { at_ := 0x800000000000000 % 2 ^ 58 / 2 + 99, chan := 7, state := .fired }, by decide +kernel⟩,
   ⟨.core, 5, 5, UP.setEntry 5 { at_ := 0x800000000000000 % 2 ^ 58 / 2 + 99, chan := 7, state := .armed }, by decide +kernel⟩,
   ⟨.core, 5, 5, wArmed, by decide +kernel⟩,
   ⟨.core, 5, 5, wArmed.setEntry 5 { chan := 7, rep := 3, state := .armed }, by decide +kernel⟩⟩

theorem met_action_commands_answer_by_the_entry_state_2 :
    (∃ (m : Master) (v : Word) (i : Nat) (s : State), (s.locked m = false) ∧ (s.cyc = {}) ∧ (i = fld v 0 9) ∧ ((s.entry i).state = .fired)) ∧
    (∃ (m : Master) (v : Word) (i : Nat) (s : State), (s.locked m = false) ∧ (s.cyc = {}) ∧ (i = fld v 0 9) ∧ ((s.entry i).state = .free ∨ (s.entry i).state = .withdrawn)) ∧
    (∃ (m : Master) (v : Word) (i : Nat) (s : State), (s.locked m = false) ∧ (s.cyc = {}) ∧ (i = fld v 0 9) ∧ ((s.entry i).state = .armed)) ∧
    (∃ (m : Master) (v : Word) (i : Nat) (s : State), (s.locked m = false) ∧ (s.cyc = {}) ∧ (i = fld v 0 9) ∧ ((s.entry i).state ≠ .armed)) ∧
    (∃ (m : Master) (v : Word) (i : Nat) (s : State), (s.locked m = false) ∧ (s.cyc = {}) ∧ (i = fld v 0 9) ∧ ((s.entry i).state ≠ .free)) ∧
    (∃ (m : Master) (v : Word) (i : Nat) (s : State), (s.locked m = false) ∧ (s.cyc = {}) ∧ (i = fld v 0 9) ∧ ((s.entry i).state = .free) ∧ ((∀ x ∈ s.act.templates, x.id ≠ fld v 16 5))) ∧
    (∃ (x : Template) (m : Master) (v : Word) (i : Nat) (s : State), (s.locked m = false) ∧ (s.cyc = {}) ∧ (i = fld v 0 9) ∧ ((s.entry i).state = .free) ∧ (s.act.templates.find? (fun t => t.id == fld v 16 5) = some x)) :=
  ⟨⟨.core, 5, 5, UP.setEntry 5 { at_ := 0x800000000000000 % 2 ^ 58 / 2 + 99, chan := 7, state := .fired }, by decide +kernel⟩,
   ⟨.core, 5, 5, UP.setEntry 5 { at_ := 0x800000000000000 % 2 ^ 58 / 2 + 99, chan := 7, state := .withdrawn }, by decide +kernel⟩,
   ⟨.core, 5, 5, UP.setEntry 5 { at_ := 0x800000000000000 % 2 ^ 58 / 2 + 99, chan := 7, state := .armed }, by decide +kernel⟩,
   ⟨.core, 5, 5, UP.setEntry 5 { at_ := 0x800000000000000 % 2 ^ 58 / 2 + 99, chan := 7, state := .fired }, by decide +kernel⟩,
   ⟨.core, 5, 5, UP.setEntry 5 { at_ := 0x800000000000000 % 2 ^ 58 / 2 + 99, chan := 7, state := .fired }, by decide +kernel⟩,
   ⟨.core, 5, 5, UP, by decide +kernel⟩,
   ⟨{ id := 2, chan := 9, offset := -4, rep := 6 }, .core, 0x20005, 5, { UP.wr Reg.ACT_BASE_LO 9000 with act := { templates := [{ id := 2, chan := 9, offset := -4, rep := 6 }] } }, by decide +kernel⟩⟩

theorem met_armed_actions_fire_when_reached :
    (∃ (s : State), (s.asleep = true ∨ s.act.catchUp ≠ [])) ∧
    (∃ (s : State), (s.asleep = false) ∧ (s.act.catchUp = []) ∧ (mapWf (fun _ => {}) s.act.entries = true) ∧ ((∀ p ∈ s.act.entries, p.1 < 512 ∧ p.2.chan < 128))) ∧
    (∃ (s : State), (s.asleep = false) ∧ (mapWf (fun _ => {}) s.act.entries = true) ∧ ((∀ p ∈ s.act.entries, p.1 < 512 ∧ p.2.chan < 128))) :=
  ⟨⟨wNap, by decide +kernel⟩,
   ⟨(wArmed.setEntry 9 { rep := 3, state := .armed }).setEntry 40 { at_ := 5000, state := .armed }, by decide +kernel⟩,
   ⟨{ (wArmed.setEntry 9 { at_ := 2000, state := .armed }) with chron := { now := 4000 }, act := { (wArmed.setEntry 9 { at_ := 2000, state := .armed }).act with catchUp := [5, 9] } }, by decide +kernel⟩⟩

theorem met_fabric_pulses_fire_channels_and_reach_tasks_1 :
    (∃ (c : Nat) (v : Word) (s : State), (c = fld v 0 7) ∧ (mapGet s.fab.delivery c = none)) ∧
    (∃ (c : Nat) (d : Delivery) (v : Word) (s : State), (c = fld v 0 7) ∧ (mapGet s.fab.delivery c = some d)) ∧
    (∃ (s : State), (s.asleep = true)) ∧
    (∃ (s : State), (s.asleep = false) ∧ (s.usedCells 0 28 = []) ∧ (s.fab.bkRise = []) ∧ (s.fab.delivery = []) ∧ (s.cyc = {})) ∧
    (∃ (c left : Nat) (tasks : List Nat) (s : State), (s.asleep = false) ∧ (s.usedCells 0 32 = []) ∧ (s.fab.bkRise = []) ∧ (s.fab.pulses = []) ∧ (s.fab.delivery = [(c, ⟨left, tasks⟩)]) ∧ (1 < left) ∧ (s.cyc = {})) ∧
    (∃ (c left : Nat) (tasks : List Nat) (s : State), (s.asleep = false) ∧ (s.usedCells 0 32 = []) ∧ (s.fab.bkRise = []) ∧ (s.fab.pulses = []) ∧ (s.fab.delivery = [(c, ⟨left, tasks⟩)]) ∧ (left ≤ 1) ∧ (tasks.Nodup) ∧ (s.cyc = {})) ∧
    (∃ (c d k : Nat) (s : State), (s.asleep = false) ∧ (s.usedCells 0 32 = []) ∧ (s.fab.bkRise = []) ∧ (s.fab.pulses = []) ∧ (s.fab.delivery = [(c, ⟨1, [k]⟩), (d, ⟨1, [k]⟩)]) ∧ (k < 256) ∧ (s.cyc = {})) ∧
    (∃ (c : Instr) (n : Nat) (s t : State), ((c, n) ∈ [(Instr.adcStart, 80), (.adcSeq, 81), (.adcStop, 82), (.panelFlip, 84), (.panelPowerOn, 85), (.panelPowerOff, 86), (.tamperTrip 0, 160), (.tamperTrip 1, 161), (.relStart none 0, 168), (.relStart none 1, 169), (.relDrop none 0, 170), (.relDrop none 1, 171), (.spiStart 0 true, 176), (.spiStart 1 true, 177), (.uartSendTask 0, 178), (.uartSendTask 1, 179)]) ∧ (exec c s = .next t)) ∧
    (∃ (n : Fin 8) (s t : State), (exec (.timerStart n) s = .next t)) :=
  ⟨⟨77, 77, UP, by decide +kernel⟩,
   ⟨77, ⟨1, [3]⟩, 77, { UP with fab := { delivery := [(77, ⟨1, [3]⟩)] } }, by decide +kernel⟩,
   ⟨wNap, by decide +kernel⟩,
   ⟨{ (UP.wr (Reg.FAB_CH_CFG 9) 0x10021).wr (Reg.FAB_CH_CFG 100) 0x10021 with fab := { pulses := [33] } }, by decide +kernel⟩,
   ⟨9, 2, [3, 17], { UP with fab := { delivery := [(9, ⟨2, [3, 17]⟩)] } }, by decide +kernel⟩,
   ⟨9, 1, [3, 17], { UP with fab := { delivery := [(9, ⟨1, [3, 17]⟩)] } }, by decide +kernel⟩,
   ⟨9, 10, 17, { UP with fab := { delivery := [(9, ⟨1, [17]⟩), (10, ⟨1, [17]⟩)] } }, by decide +kernel⟩,
   ⟨.adcSeq, 81, wSer, (match exec .adcSeq wSer with | .next t => t | _ => wSer), ⟨by decide +kernel, by rfl⟩⟩,
   ⟨2, UP, (match exec (.timerStart 2) UP with | .next t => t | _ => UP), by rfl⟩⟩

theorem met_fabric_pulses_fire_channels_and_reach_tasks_2 :
    (∃ (n : Fin 8) (k : Fin 4) (s t : State), (exec (.timerCapture n k) s = .next t)) ∧
    (∃ (n : Fin 8) (s t : State), (exec (.timerStop n) s = .next t)) ∧
    (∃ (n : Fin 8) (s t : State), (exec (.timerClear n) s = .next t)) ∧
    (∃ (k : Fin 8) (s t : State), (exec (.gpioTaskPort k) s = .next t)) ∧
    (∃ (k : Fin 32) (s t : State), (exec (.airopFabricTask k) s = .next t)) ∧
    (∃ (i : Nat) (s : State), (s.asleep = false) ∧ (s.usedCells 0 28 = [i]) ∧ (s.bit (Reg.FAB_CELL_CFG i) 16 = false) ∧ (s.rdF (Reg.FAB_CELL_CFG i) 20 4 = 0) ∧ (s.fab.delivery = [])) ∧
    (∃ (k : Fin 4) (s : State), (s.pwr.mode = .nap) ∧ (s.usedCells 28 4 = [28 + k.val]) ∧ (s.rd (Reg.FAB_CELL_CFG (28 + k)) = 0xFFFF)) ∧
    (∃ (k : Fin 4) (s : State), (s.asleep = false) ∧ (s.usedCells 28 4 = [28 + k.val]) ∧ (s.rd (Reg.FAB_CELL_CFG (28 + k)) = 0xFFFF)) ∧
    (∃ (s : State), (s.asleep = false) ∧ (s.usedCells 28 4 = [])) :=
  ⟨⟨2, 1, UP, (match exec (.timerCapture 2 1) UP with | .next t => t | _ => UP), by rfl⟩,
   ⟨2, UP, (match exec (.timerStop 2) UP with | .next t => t | _ => UP), by rfl⟩,
   ⟨2, UP, (match exec (.timerClear 2) UP with | .next t => t | _ => UP), by rfl⟩,
   ⟨2, UP, (match exec (.gpioTaskPort 2) UP with | .next t => t | _ => UP), by rfl⟩,
   ⟨2, UP, (match exec (.airopFabricTask 2) UP with | .next t => t | _ => UP), by rfl⟩,
   ⟨3, { (UP.wr (Reg.FAB_CELL_CFG 3) 0xAAAA).wr (Reg.FAB_CELL_IN01 3) 40 with fab := { pulses := [40] } }, by decide +kernel⟩,
   ⟨2, wNap.wr (Reg.FAB_CELL_CFG 30) 0xFFFF, by decide +kernel⟩,
   ⟨2, UP.wr (Reg.FAB_CELL_CFG 30) 0xFFFF, by decide +kernel⟩,
   ⟨UP, by decide +kernel⟩⟩

theorem met_route_moves_are_held_and_sealed_channels_refuse :
    (∃ (a : Nat) (c : Fin 128) (b : Bool) (v : Word) (s : State), (s.bit (Reg.FAB_CH_CFG c) 17 = true) ∧ (a = (if b then Reg.FAB_CH_TASK23 c else Reg.FAB_CH_TASK01 c))) ∧
    (∃ (a : Nat) (c : Fin 128) (v : Word) (s : State), (s.bit (Reg.FAB_CH_CFG c) 17 = true) ∧ (a = Reg.FAB_CH_CFG c)) ∧
    (∃ (c : Fin 128) (b : Bool) (v : Word) (s : State), (s.bit (Reg.FAB_CH_CFG c) 17 = false) ∧ ((s.heldRoute c).refused = false) ∧ (taskGuarded (fld v 0 16) = false) ∧ (taskGuarded (fld v 16 16) = false) ∧ (taskReserved (fld v 0 16) = false) ∧ (taskReserved (fld v 16 16) = false)) ∧
    (∃ (c : Fin 128) (b : Bool) (v : Word) (s : State), (s.bit (Reg.FAB_CH_CFG c) 17 = false) ∧ ((s.heldRoute c).refused = true) ∧ (taskGuarded (fld v 0 16) = false) ∧ (taskGuarded (fld v 16 16) = false) ∧ (taskReserved (fld v 0 16) = false) ∧ (taskReserved (fld v 16 16) = false)) ∧
    (∃ (a : Nat) (c : Fin 128) (b : Bool) (v : Word) (s : State), (s.bit (Reg.FAB_CH_CFG c) 17 = false) ∧ (a = (if b then Reg.FAB_CH_TASK23 c else Reg.FAB_CH_TASK01 c)) ∧ (taskGuarded (fld v 0 16) = true ∨ taskGuarded (fld v 16 16) = true) ∧ (taskReserved (fld v 0 16) = false) ∧ (taskReserved (fld v 16 16) = false)) ∧
    (∃ (c : Fin 128) (b : Bool) (v : Word) (s : State), (s.bit (Reg.FAB_CH_CFG c) 17 = false) ∧ (taskReserved (fld v 0 16) = true ∨ taskReserved (fld v 16 16) = true) ∧ (taskGuarded (fld v 0 16) = false) ∧ (taskGuarded (fld v 16 16) = false)) ∧
    (∃ (c : Fin 128) (v : Word) (s : State), (s.bit (Reg.FAB_CH_CFG c) 17 = false) ∧ ((s.heldRoute c).refused = true)) ∧
    (∃ (c : Fin 128) (v : Word) (s : State), (s.bit (Reg.FAB_CH_CFG c) 17 = false) ∧ ((s.heldRoute c).refused = false) ∧ (288 ≤ fld v 0 16) ∧ (fld v 0 16 ≠ 0xFFFF)) ∧
    (∃ (c : Fin 128) (v : Word) (s : State), (s.bit (Reg.FAB_CH_CFG c) 17 = false) ∧ ((s.heldRoute c).refused = false) ∧ (fld v 0 16 < 288 ∨ fld v 0 16 = 0xFFFF)) :=
  ⟨⟨Reg.FAB_CH_TASK23 9, 9, true, 3, UP.wr (Reg.FAB_CH_CFG 9) 0x20000, by decide +kernel⟩,
   ⟨Reg.FAB_CH_CFG 9, 9, 3, UP.wr (Reg.FAB_CH_CFG 9) 0x20000, by decide +kernel⟩,
   ⟨9, true, 0xFFFF0003, UP, by decide +kernel⟩,
   ⟨9, true, 0xFFFF0003, UP.setHeld 9 { refused := true }, by decide +kernel⟩,
   ⟨Reg.FAB_CH_TASK01 9, 9, false, 0xFFFF00A0, UP, by decide +kernel⟩,
   ⟨9, false, 0xFFFF0007, UP, by decide +kernel⟩,
   ⟨9, 0x10003, UP.setHeld 9 { refused := true }, by decide +kernel⟩,
   ⟨9, 0x10120, UP, by decide +kernel⟩,
   ⟨9, 0x10021, UP.setHeld 9 { t01 := some 0xFFFF0003 }, by decide +kernel⟩⟩

theorem met_interrupt_claims_follow_priority :
    (∃ (n : Nat) (s : State), (n ∈ s.intReady) ∧ (s.rdF Reg.INTC_THRESH 0 4 ≤ s.intPrio n) ∧ ((∀ k ∈ s.intReady, k < n → s.intPrio k < s.intPrio n)) ∧ ((∀ k ∈ s.intReady, n < k → s.intPrio k ≤ s.intPrio n)) ∧ (s.locked .core = false)) ∧
    (∃ (n : Nat) (m : Master) (s : State), (n ∈ s.intReady) ∧ (s.rdF Reg.INTC_THRESH 0 4 ≤ s.intPrio n) ∧ ((∀ k ∈ s.intReady, k < n → s.intPrio k < s.intPrio n)) ∧ ((∀ k ∈ s.intReady, n < k → s.intPrio k ≤ s.intPrio n)) ∧ (m ≠ .core) ∧ (s.locked m = false)) ∧
    (∃ (m : Master) (s : State), ((∀ k ∈ s.intReady, s.intPrio k < s.rdF Reg.INTC_THRESH 0 4)) ∧ (s.locked m = false)) ∧
    (∃ (n : Nat) (s : State), (n < 256)) :=
  ⟨⟨4, (((UP.wr (Reg.INTC_EN 0) 0x30).wr (Reg.INTC_PEND 0) 0x30).wr (Reg.INTC_PRIO 0) 0x220000), by decide +kernel⟩,
   ⟨4, .host, (((UP.wr (Reg.INTC_EN 0) 0x30).wr (Reg.INTC_PEND 0) 0x30).wr (Reg.INTC_PRIO 0) 0x220000), by decide +kernel⟩,
   ⟨.core, UP, by decide +kernel⟩,
   ⟨4, (((UP.wr (Reg.INTC_EN 0) 0x30).wr (Reg.INTC_PEND 0) 0x30).wr (Reg.INTC_PRIO 0) 0x220000), by decide +kernel⟩⟩

theorem met_the_front_die_moves_as_commanded_1 :
    (∃ (tx : Bool) (v : Word) (s : State), (s.radioOwned = true)) ∧
    (∃ (v : Word) (s : State), (s.radioOwned = true)) ∧
    (∃ (tx : Bool) (v : Word) (s : State), (s.radioOwned = false) ∧ (¬ ((850000 ≤ fld v 0 22 ∧ fld v 0 22 ≤ 935000) ∨ (2400000 ≤ fld v 0 22 ∧ fld v 0 22 ≤ 2483500)))) ∧
    (∃ (tx : Bool) (v : Word) (s : State), (s.radioOwned = false) ∧ ((850000 ≤ fld v 0 22 ∧ fld v 0 22 ≤ 935000) ∨ (2400000 ≤ fld v 0 22 ∧ fld v 0 22 ≤ 2483500))) ∧
    (∃ (v : Word) (n : Nat) (rest : List Nat) (s : State), (s.radioOwned = false) ∧ (s.front.going = none) ∧ (frontPath s.fsm (fld v 0 3) = n :: rest) ∧ (s.fsm ≠ 3) ∧ (n ≠ 0)) ∧
    (∃ (v : Word) (n : Nat) (rest : List Nat) (s : State), (s.radioOwned = false) ∧ (s.front.going = none) ∧ (frontPath s.fsm (fld v 0 3) = n :: rest) ∧ (s.fsm = 3 ∨ n = 0)) ∧
    (∃ (v : Word) (s : State), (s.radioOwned = false) ∧ (s.front.going.isSome = true)) ∧
    (∃ (g : FsmTarget) (n : Nat) (legs : List Nat) (rest : List FsmTarget) (s : State), (s.front.strobes = g :: rest) ∧ (s.spineState .front ≠ 1) ∧ (s.front.going = none) ∧ (g.state.val ≤ 1 ∨ s.link.run = none) ∧ (frontPath s.fsm g.state = n :: legs)) ∧
    (∃ (g : FsmTarget) (n : Nat) (legs : List Nat) (rest : List FsmTarget) (o : RunOp) (s : State), (s.front.strobes = g :: rest) ∧ (s.spineState .front ≠ 1) ∧ (s.front.going = none) ∧ (2 ≤ g.state.val) ∧ (s.link.run = some o) ∧ (frontPath s.fsm g.state = n :: legs)) :=
  ⟨⟨true, 900000, (UP.wr Reg.LINK_CTRL 1).setAirOp 3 { state := 1 }, by decide +kernel⟩,
   ⟨3, (UP.wr Reg.LINK_CTRL 1).setAirOp 3 { state := 1 }, by decide +kernel⟩,
   ⟨true, 935001, UP, by decide +kernel⟩,
   ⟨true, 935000, UP, by decide +kernel⟩,
   ⟨9, 1, [], (UP.wr Reg.RADIO_FSM 0), by decide +kernel⟩,
   ⟨0, 0, [], { (UP.wr Reg.RADIO_FSM 3) with front := { stage := 2 } }, by decide +kernel⟩,
   ⟨4, { UP with front := { going := some ⟨1, true, false⟩ } }, by decide +kernel⟩,
   ⟨⟨1, true, false⟩, 1, [], [], { UP with front := { strobes := [⟨1, true, false⟩] } }, by decide +kernel⟩,
   ⟨⟨3, true, false⟩, 3, [], [], { ref := .hearBeacon, slot := 1, openAt := 9, chan := 0 }, { (UP.wr Reg.RADIO_FSM 1) with front := { strobes := [⟨3, true, false⟩] }, link := { run := some { ref := .hearBeacon, slot := 1, openAt := 9, chan := 0 } } }, by decide +kernel⟩⟩

theorem met_the_front_die_moves_as_commanded_2 :
    (∃ (g : FsmTarget) (rest : List FsmTarget) (s : State), (s.front.strobes = g :: rest) ∧ (s.spineState .front = 1)) ∧
    (∃ (g : FsmTarget) (rest : List FsmTarget) (s : State), (s.front.strobes = g :: rest) ∧ (s.spineState .front ≠ 1) ∧ (s.link.run = none) ∧ (g.state ≠ 5)) ∧
    (∃ (g : FsmTarget) (rest : List FsmTarget) (o : RunOp) (s : State), (s.front.strobes = g :: rest) ∧ (s.spineState .front ≠ 1) ∧ (s.link.run = some o) ∧ (o.ref ∈ [OpRef.beacon, .relay, .join, .hearBeacon, .hearCall, .hearFlood])) ∧
    (∃ (g : FsmTarget) (s : State), (s.front.going = some g) ∧ (s.front.held = none) ∧ (s.front.legs = []) ∧ (s.fsm ≠ 0) ∧ (g.state ≠ 0)) ∧
    (∃ (g h : FsmTarget) (rest : List FsmTarget) (s : State), (s.front.going = some g) ∧ (s.front.legs = h :: rest) ∧ (s.fsm ≠ 0) ∧ (g.state ≠ 0)) ∧
    (∃ (g : FsmTarget) (s : State), (s.front.going = some g) ∧ (s.front.held = none) ∧ (s.front.legs = []) ∧ (s.fsm = 0) ∧ (g.state ≠ 0) ∧ (s.spineState .front ≠ 4) ∧ (s.link.run = none)) ∧
    (∃ (g : FsmTarget) (s : State), (s.front.going = some g) ∧ (s.spineState .front = 4)) ∧
    (∃ (g : FsmTarget) (s : State), (s.front.going = some g) ∧ (s.front.held = none) ∧ (g.state = 0) ∧ (s.spineState .front ≠ 4)) ∧
    (∃ (g h : FsmTarget) (n : Nat) (legs : List Nat) (s : State), (s.front.going = some g) ∧ (s.front.held = some h) ∧ (s.front.legs = []) ∧ (s.fsm ≠ 0) ∧ (g.state ≠ 0) ∧ (frontPath g.state h.state = n :: legs)) :=
  ⟨⟨⟨3, true, false⟩, [], { UP.wr Reg.SPINE_F_STAT 1 with front := { strobes := [⟨3, true, false⟩] } }, by decide +kernel⟩,
   ⟨⟨3, true, false⟩, [], { UP with front := { strobes := [⟨3, true, false⟩] } }, by decide +kernel⟩,
   ⟨⟨3, true, false⟩, [], { ref := .hearBeacon, slot := 1, openAt := 9, chan := 0 }, { UP with front := { strobes := [⟨3, true, false⟩] }, link := { run := some { ref := .hearBeacon, slot := 1, openAt := 9, chan := 0 } } }, by decide +kernel⟩,
   ⟨⟨3, true, false⟩, { (UP.wr Reg.RADIO_FSM 1) with front := { going := some ⟨3, true, false⟩, lnaStep := 1 } }, by decide +kernel⟩,
   ⟨⟨2, true, false⟩, ⟨4, true, false⟩, [], { (UP.wr Reg.RADIO_FSM 1) with front := { going := some ⟨2, true, false⟩, legs := [⟨4, true, false⟩] } }, by decide +kernel⟩,
   ⟨⟨1, true, false⟩, { UP.wr Reg.SPINE_F_STAT 0 with front := { going := some ⟨1, true, false⟩ } }, by decide +kernel⟩,
   ⟨⟨1, true, false⟩, { (UP.wr Reg.SPINE_F_STAT 4) with front := { going := some ⟨1, true, false⟩ } }, by decide +kernel⟩,
   ⟨⟨0, false, false⟩, { (UP.wr Reg.RADIO_FSM 1) with front := { going := some ⟨0, false, false⟩ } }, by decide +kernel⟩,
   ⟨⟨1, true, false⟩, ⟨3, true, false⟩, 3, [], { (UP.wr Reg.RADIO_FSM 4) with front := { going := some ⟨1, true, false⟩, held := some ⟨3, true, false⟩ } }, by decide +kernel⟩⟩

theorem met_the_front_die_moves_as_commanded_3 :
    (∃ (s : State), (s.fsm = 3 ∨ s.fsm = 7)) ∧
    (∃ (l : List Byte) (s : State), (s.fsm = 7) ∧ (l.length ≤ 65536)) ∧
    (∃ (p : Bool) (rl : Fin 256) (s : State), (s.fsm = 4 ∨ s.fsm = 5) ∧ (s.rdF Reg.TUNER_THRESH 0 6 ≤ rl.val)) ∧
    (∃ (p : Bool) (rl : Fin 256) (s : State), (s.fsm = 4 ∨ s.fsm = 5) ∧ (rl.val < s.rdF Reg.TUNER_THRESH 0 6)) ∧
    (∃ (p : Bool) (b : Nat) (power : Int) (s : State), (s.link.tuneReq = some p) ∧ (s.radioFree = true) ∧ (s.bit Reg.CAL_STATUS 0 = false) ∧ (s.relDue 0 = false) ∧ (s.relDue 1 = false) ∧ (s.gapNow = none) ∧ (s.bandOfKhz (s.rdF Reg.RADIO_TX_FREQ 0 22) = some b) ∧ (s.budgetShort b 140 = false) ∧ (s.listenBusy b power = false)) ∧
    (∃ (p : Bool) (b : Nat) (power : Int) (s : State), (s.link.tuneReq = some p) ∧ (s.radioFree = true) ∧ (s.bit Reg.CAL_STATUS 0 = false) ∧ (s.relDue 0 = false) ∧ (s.relDue 1 = false) ∧ (s.gapNow = none) ∧ (s.bandOfKhz (s.rdF Reg.RADIO_TX_FREQ 0 22) = some b) ∧ (s.budgetShort b 140 = false) ∧ (s.listenBusy b power = true)) ∧
    (∃ (p : Bool) (b : Nat) (power : Int) (s : State), (s.link.tuneReq = some p) ∧ (s.radioFree = true) ∧ (s.bit Reg.CAL_STATUS 0 = false) ∧ (s.relDue 0 = false) ∧ (s.relDue 1 = false) ∧ (s.gapNow = none) ∧ (s.bandOfKhz (s.rdF Reg.RADIO_TX_FREQ 0 22) = some b) ∧ (s.budgetShort b 140 = true)) ∧
    (∃ (p : Bool) (a b rl : Nat) (first : Fin 256) (rest : List (Fin 64 × Fin 64 × Fin 256)) (s : State), (s.front.tuning = some p) ∧ (s.fsm = 5) ∧ ((a, b, rl) ∈ s.retunePairs p first rest) ∧ ((∀ q ∈ s.retunePairs p first rest, q.2.2 ≤ rl))) ∧
    (∃ (s : State), (s.fsm ≠ 0) ∧ (s.front.going = none) ∧ (s.link.run = none) ∧ (s.spineState .front ≠ 4)) :=
  ⟨⟨(UP.wr Reg.RADIO_FSM 3), by decide +kernel⟩,
   ⟨[1, 2, 3], (UP.wr Reg.RADIO_FSM 7), by decide +kernel⟩,
   ⟨true, 30, (UP.wr Reg.RADIO_FSM 4).wr Reg.TUNER_THRESH 20, by decide +kernel⟩,
   ⟨true, 10, (UP.wr Reg.RADIO_FSM 4).wr Reg.TUNER_THRESH 20, by decide +kernel⟩,
   ⟨true, 0, -200, { (UP.wr Reg.RADIO_TX_FREQ 900000) with link := { tuneReq := some true }, cat := { sections := [(6, [1, 0, 0, 0, 0x50, 0xF8, 0x0C, 0, 0x58, 0x44, 0x0E, 0, 0, 0, 1, 0, 60, 0] ++ List.replicate 20 0)] } }, by decide +kernel⟩,
   ⟨true, 0, 0, { (UP.wr Reg.RADIO_TX_FREQ 900000) with link := { tuneReq := some true }, cat := { sections := [(6, [1, 0, 0, 0, 0x50, 0xF8, 0x0C, 0, 0x58, 0x44, 0x0E, 0, 0, 0, 1, 0, 60, 0, 0, 1] ++ List.replicate 18 0)] } }, by decide +kernel⟩,
   ⟨true, 0, 0, { (UP.wr Reg.RADIO_TX_FREQ 900000) with link := { tuneReq := some true }, cat := { sections := [(6, [1, 0, 0, 0, 0x50, 0xF8, 0x0C, 0, 0x58, 0x44, 0x0E, 0, 9, 0, 0, 0, 1, 0] ++ List.replicate 20 0)] } }, by decide +kernel⟩,
   ⟨false, 3, 4, 9, 5, [(3, 4, 9), (1, 1, 2)], { (UP.wr Reg.TUNER_THRESH 20).wr Reg.RADIO_FSM 5 with front := { tuning := some false } }, by decide +kernel⟩,
   ⟨(UP.wr Reg.RADIO_FSM 1), by decide +kernel⟩⟩

theorem met_frames_are_detected_and_decoded_1 :
    (∃ (p : Int) (s : State), (s.fsm = 3) ∧ (s.front.stage = 0) ∧ (2 * s.detThresh < p)) ∧
    (∃ (p : Int) (s : State), (s.fsm = 3) ∧ (s.front.stage ≠ 0 ∨ p ≤ 2 * s.detThresh)) ∧
    (∃ (c : Fin 256) (s : State), (s.front.stage = 1) ∧ (s.rdF Reg.MODEM_CFG 8 8 < c.val)) ∧
    (∃ (s : State), (s.front.stage = 1)) ∧
    (∃ (e : Fin 33) (r : Nat) (s : State), (s.front.stage = 1) ∧ (e.val ≤ s.rdF Reg.MODEM_CFG 20 2)) ∧
    (∃ (h : BitVec 48) (r : Nat) (s : State), (s.front.stage = 2) ∧ (s.front.gen2 = true) ∧ (headerOk h.toNat = false)) :=
  ⟨⟨5, (UP.wr Reg.RADIO_FSM 3), by decide +kernel⟩,
   ⟨-250, (UP.wr Reg.RADIO_FSM 3), by decide +kernel⟩,
   ⟨255, { (UP.wr Reg.RADIO_FSM 3) with front := { stage := 1 } }, by decide +kernel⟩,
   ⟨{ (UP.wr Reg.RADIO_FSM 3) with front := { stage := 1 } }, by decide +kernel⟩,
   ⟨0, 99, { (UP.wr Reg.RADIO_FSM 3) with front := { stage := 1 } }, by decide +kernel⟩,
   ⟨0x123456789ABC, 9, { (UP.wr Reg.RADIO_FSM 3) with front := { stage := 2, gen2 := true } }, by decide +kernel⟩⟩

theorem met_frames_are_detected_and_decoded_2 :
    (∃ (h : BitVec 48) (r : Nat) (s : State), (s.front.stage = 2) ∧ (s.front.gen2 = true) ∧ (headerOk h.toNat = true) ∧ (hdrFld h.toNat 0 2 ≠ 1)) ∧
    (∃ (h : BitVec 48) (r : Nat) (s : State), (s.front.stage = 2) ∧ (s.front.gen2 = true) ∧ (headerOk h.toNat = true) ∧ (hdrFld h.toNat 0 2 = 1) ∧ (s.loadTable (hdrFld h.toNat 6 10) = none)) ∧
    (∃ (h : BitVec 48) (r : Nat) (x : LoadTable) (s : State), (s.front.stage = 2) ∧ (s.front.gen2 = true) ∧ (headerOk h.toNat = true) ∧ (hdrFld h.toNat 0 2 = 1) ∧ (s.loadTable (hdrFld h.toNat 6 10) = some x)) ∧
    (∃ (l : List Byte) (m : RxMeas) (s : State), (s.fsm = 3) ∧ (s.front.gen2 = true) ∧ (s.front.stage = 3) ∧ (s.link.run = none) ∧ (hdrFld s.front.header 16 11 < 12)) ∧
    (∃ (l : List Byte) (m : RxMeas) (s : State), (s.fsm = 3) ∧ (s.front.gen2 = true) ∧ (s.front.stage = 3) ∧ (s.link.run = none) ∧ (12 ≤ hdrFld s.front.header 16 11) ∧ (l.length ≠ hdrFld s.front.header 16 11)) ∧
    (∃ (l : List Byte) (m : RxMeas) (s : State), (s.fsm = 3) ∧ (s.front.gen2 = true) ∧ (s.front.stage = 3) ∧ (s.link.run = none) ∧ ((payloadResult true s.front.header l).1 = 0)) :=
  ⟨⟨BitVec.ofNat 48 (headerCrc 0 * 2 ^ 40), 9, { (UP.wr Reg.RADIO_FSM 3) with front := { stage := 2, gen2 := true } }, by decide +kernel⟩,
   ⟨BitVec.ofNat 48 (mkHeader 1 5 30 false 0), 9, { (UP.wr Reg.RADIO_FSM 3) with front := { stage := 2, gen2 := true } }, by decide +kernel⟩,
   ⟨BitVec.ofNat 48 (mkHeader 1 0 30 false 0), 9, table0, { (UP.wr Reg.RADIO_FSM 3) with front := { stage := 2, gen2 := true } }, by decide +kernel⟩,
   ⟨[], { snr := [], evm := [], iq := 0, dc := 0, cfo := 0, hdrSnr := 0, eye := 0, rssi := 0 }, { (UP.wr Reg.RADIO_FSM 3) with front := { stage := 3, gen2 := true, header := mkHeader 1 0 5 false 0 } }, by decide +kernel⟩,
   ⟨[], { snr := [], evm := [], iq := 0, dc := 0, cfo := 0, hdrSnr := 0, eye := 0, rssi := 0 }, { (UP.wr Reg.RADIO_FSM 3) with front := { stage := 3, gen2 := true, header := mkHeader 1 0 50 true 0 } }, by decide +kernel⟩,
   ⟨(macHeader 1 7 2 3) ++ leBytes 4 (crc32 (macHeader 1 7 2 3)), { snr := [], evm := [], iq := 5, dc := 6, cfo := 0, hdrSnr := 0, eye := 0, rssi := 0 }, { (UP.wr Reg.RADIO_FSM 3) with front := { stage := 3, gen2 := true, header := mkHeader 1 0 12 false 0 } }, by decide +kernel⟩⟩

theorem met_the_loading_table_store_answers_its_commands_1 :
    (∃ (c : Instr) (rate : Bool) (i : Fin 1024) (s : State), (s.link.derive_.isSome = true) ∧ (c ∈ [.ltsWrite rate i, .ltsRead i, .ltsRemove i, .ltsDerive rate])) ∧
    (∃ (rate : Bool) (s : State), (s.link.derive_ = none)) ∧
    (∃ (rate : Bool) (i : Fin 1024) (s : State), (s.link.derive_ = none) ∧ (i.val ≠ 0) ∧ (LoadTable.ok { rate := rate, data := s.ltsData } = false)) ∧
    (∃ (rate : Bool) (i : Fin 1024) (s : State), (s.link.derive_ = none) ∧ (i.val ≠ 0) ∧ (LoadTable.ok { rate := rate, data := s.ltsData } = true) ∧ ((mapGet s.link.lts i).isSome = true ∨ s.link.lts.length < s.ltsCapacity)) ∧
    (∃ (rate : Bool) (i : Fin 1024) (s : State), (s.link.derive_ = none) ∧ (i.val ≠ 0) ∧ (LoadTable.ok { rate := rate, data := s.ltsData } = true) ∧ (mapGet s.link.lts i = none) ∧ (s.ltsCapacity ≤ s.link.lts.length)) ∧
    (∃ (x : LoadTable) (i : Fin 1024) (s : State), (s.link.derive_ = none) ∧ (s.loadTable i = some x)) ∧
    (∃ (i : Fin 1024) (s : State), (s.link.derive_ = none) ∧ (s.loadTable i = none)) :=
  ⟨⟨.ltsRead 5, true, 5, { UP with link := { derive_ := some false } }, by decide +kernel⟩,
   ⟨true, UP, by decide +kernel⟩,
   ⟨true, 5, UP, by decide +kernel⟩,
   ⟨true, 5, (forRange 9 UP (fun u i => u.wr (Reg.LTS_DATA i) 0x49249249)), by decide +kernel⟩,
   ⟨true, 5, { (forRange 9 UP (fun u i => u.wr (Reg.LTS_DATA i) 0x49249249)) with variant := .label, link := { lts := (List.range 128).map (fun k => (k + 100, table0)) } }, by decide +kernel⟩,
   ⟨table0, 0, UP, by decide +kernel⟩,
   ⟨5, UP, by decide +kernel⟩⟩

theorem met_the_loading_table_store_answers_its_commands_2 :
    (∃ (s : State), (s.link.derive_ = none)) ∧
    (∃ (x : LoadTable) (i : Fin 1024) (s : State), (s.link.derive_ = none) ∧ (i.val ≠ 0) ∧ (mapGet s.link.lts i = some x)) ∧
    (∃ (i : Fin 1024) (s : State), (s.link.derive_ = none) ∧ (i.val ≠ 0) ∧ (mapGet s.link.lts i = none)) ∧
    (∃ (rate : Bool) (s : State), (s.link.derive_ = none) ∧ (s.spineState .front = 3 ∨ s.spineState .front = 2)) ∧
    (∃ (rate : Bool) (s : State), (s.link.derive_ = none) ∧ (s.spineState .front ≠ 3) ∧ (s.spineState .front ≠ 2)) ∧
    (∃ (rate : Bool) (s : State), (s.link.derive_ = some rate) ∧ (s.spineState .front = 3)) ∧
    (∃ (rate : Bool) (s : State), (s.link.derive_ = some rate) ∧ (s.spineState .front ≠ 3)) :=
  ⟨⟨UP, by decide +kernel⟩,
   ⟨table0, 5, { UP with link := { lts := [(5, table0)] } }, by decide +kernel⟩,
   ⟨5, UP, by decide +kernel⟩,
   ⟨true, UP, by decide +kernel⟩,
   ⟨true, State.reset, by decide +kernel⟩,
   ⟨true, { UP with link := { derive_ := some true } }, by decide +kernel⟩,
   ⟨true, { State.reset with link := { derive_ := some true } }, by decide +kernel⟩⟩

theorem met_calibration_runs_its_folios_1 :
    (∃ (l : List Word) (p : Fin 256) (s : State), (s.bit Reg.CAL_CTRL 2 = true) ∧ (s.fsm = 3) ∧ (s.bit Reg.RADIO_FSM 3 = true) ∧ (l.length = 4)) ∧
    (∃ (v : Word) (l : List Word) (p : Fin 256) (s : State), (s.bit Reg.CAL_CTRL 2 = true) ∧ (s.fsm = 3) ∧ (s.bit Reg.RADIO_FSM 3 = false) ∧ (l.head? = some v)) ∧
    (∃ (l : List Word) (p : Fin 256) (s : State), (s.bit Reg.CAL_CTRL 2 = false ∨ s.fsm ≠ 3)) ∧
    (∃ (raw : Int) (s : State), (s.fsm = 0) ∧ (s.front.going = none)) ∧
    (∃ (raw : Int) (s : State), (s.fsm ≠ 0) ∧ ((s.sensorTemp raw - signed 10 (s.rdF Reg.CAL_TEMP 16 10)).natAbs ≤ 4 * s.rdF Reg.CAL_POLICY 0 8) ∧ ((s.sensorTemp raw - signed 10 (s.rdF Reg.CAL_TEMP 16 10)).natAbs ≤ 4 * s.rdF Reg.CAL_POLICY 8 8)) ∧
    (∃ (raw : Int) (s : State), (s.fsm ≠ 0) ∧ (s.bit Reg.CAL_STATUS 0 = false) ∧ (4 * s.rdF Reg.CAL_POLICY 0 8 < (s.sensorTemp raw - signed 10 (s.rdF Reg.CAL_TEMP 16 10)).natAbs)) ∧
    (∃ (c : Instr) (s : State), (s.bit Reg.CAL_STATUS 0 = false) ∧ (c ∈ [.calRequest, .calForce])) ∧
    (∃ (s : State), (s.bit Reg.CAL_STATUS 0 = true)) ∧
    (∃ (s : State), (s.bit Reg.CAL_STATUS 0 = true) ∧ (s.bit Reg.CAL_STATUS 5 = false) ∧ (s.cal.began = false) ∧ (s.cal.limit ≤ s.cal.waited) ∧ (s.bit Reg.PWR_STATUS 0 = false)) ∧
    (∃ (s : State), (s.bit Reg.CAL_STATUS 0 = false ∨ s.bit Reg.CAL_STATUS 5 = true ∨ s.cal.began = true ∨ s.cal.waited < s.cal.limit ∨ s.bit Reg.PWR_STATUS 0 = true)) :=
  ⟨⟨[1, 2, 3, 4], 9, (UP.wr Reg.RADIO_FSM 11).setB Reg.CAL_CTRL 2 true, by decide +kernel⟩,
   ⟨1, [1, 2, 3, 4], 9, (UP.wr Reg.RADIO_FSM 3).setB Reg.CAL_CTRL 2 true, by decide +kernel⟩,
   ⟨[], 9, UP, by decide +kernel⟩,
   ⟨2500, UP, by decide +kernel⟩,
   ⟨0, (UP.wr Reg.RADIO_FSM 1), by decide +kernel⟩,
   ⟨9900, (UP.wr Reg.RADIO_FSM 1), by decide +kernel⟩,
   ⟨.calForce, UP, by decide +kernel⟩,
   ⟨UP.wr Reg.CAL_STATUS 1, by decide +kernel⟩,
   ⟨UP.wr Reg.CAL_STATUS 1, by decide +kernel⟩,
   ⟨UP, by decide +kernel⟩⟩

theorem met_calibration_runs_its_folios_2 :
    (∃ (s : State), (s.mayCalibrate = true) ∧ (s.bit Reg.CAL_STATUS 5 = false) ∧ (s.gapNow = none) ∧ (0 < s.foliosLeft)) ∧
    (∃ (g : Int) (s : State), (s.mayCalibrate = true) ∧ (s.bit Reg.CAL_STATUS 5 = false) ∧ (s.gapNow = some g) ∧ (g < 12288)) ∧
    (∃ (s : State), (s.mayCalibrate = false ∨ s.bit Reg.CAL_STATUS 5 = true)) ∧
    (∃ (s : State), (s.mayCalibrate = true) ∧ (s.bit Reg.CAL_STATUS 5 = true) ∧ (s.cal.due = true ∨ s.ticks % s.slotTicks = 0) ∧ (s.comingOps = [])) ∧
    (∃ (o : RunOp) (s : State), (s.mayCalibrate = true) ∧ (s.bit Reg.CAL_STATUS 5 = true) ∧ (s.cal.due = true ∨ s.ticks % s.slotTicks = 0) ∧ (s.comingOps = [o]) ∧ (since (s.powerUpAt o) (s.chron.now + s.foliosLeft * us 400) < 0)) ∧
    (∃ (s : State), (s.mayCalibrate = false ∨ s.bit Reg.CAL_STATUS 5 = false ∨ (s.cal.due = false ∧ s.ticks % s.slotTicks ≠ 0))) ∧
    (∃ (ok : Bool) (l : List Word) (p : Fin 256) (s : State), (s.bit Reg.CAL_STATUS 1 = false ∨ s.fsm ≠ 6 ∨ s.front.going.isSome = true)) ∧
    (∃ (ok : Bool) (l : List Word) (p : Fin 256) (f : Nat) (s : State), (s.bit Reg.CAL_STATUS 1 = true) ∧ (s.fsm = 6) ∧ (s.front.going = none) ∧ (s.rdF Reg.CAL_STATUS 2 3 = f) ∧ (f + 1 < s.folioCount) ∧ (folioAccepted f ok l p = false)) ∧
    (∃ (l : List Word) (p : Fin 256) (f : Nat) (s : State), (s.bit Reg.CAL_STATUS 1 = true) ∧ (s.fsm = 6) ∧ (s.front.going = none) ∧ (s.rdF Reg.CAL_STATUS 2 3 = f) ∧ (f + 1 < s.folioCount) ∧ (folioAccepted f true l p = true)) ∧
    (∃ (ok : Bool) (l : List Word) (p : Fin 256) (s : State), (s.bit Reg.CAL_STATUS 1 = true) ∧ (s.fsm = 6) ∧ (s.front.going = none) ∧ (s.folioCount ≤ s.rdF Reg.CAL_STATUS 2 3 + 1)) :=
  ⟨⟨UP.wr Reg.CAL_STATUS 1, by decide +kernel⟩,
   ⟨(match wGap.gapNow with | some g => g | none => 0), wGap, by decide +kernel⟩,
   ⟨UP, by decide +kernel⟩,
   ⟨UP.wr Reg.CAL_STATUS 0x21, by decide +kernel⟩,
   ⟨(match wForce.comingOps with | o :: _ => o | [] => { ref := .hearBeacon, slot := 1, openAt := 9, chan := 0 }), wForce, by decide +kernel⟩,
   ⟨UP, by decide +kernel⟩,
   ⟨true, [], 0, UP, by decide +kernel⟩,
   ⟨true, [0x00094000], 0, 3, { (UP.wr Reg.CAL_STATUS 0xF).wr Reg.RADIO_FSM 6 with cal := { granted := 2, began := true, folios := 8 } }, by decide +kernel⟩,
   ⟨[], 0, 0, { (UP.wr Reg.CAL_STATUS 0x3).wr Reg.RADIO_FSM 6 with cal := { granted := 3 } }, by decide +kernel⟩,
   ⟨true, [1], 7, (UP.wr Reg.CAL_STATUS 0x0F).wr Reg.RADIO_FSM 6, by decide +kernel⟩⟩

theorem met_slots_open_operations_in_their_order :
    (∃ (s : State), (s.ticks % s.slotTicks ≠ 0)) ∧
    (∃ (s : State), (s.ticks % s.slotTicks = 0) ∧ (s.bit Reg.LINK_STATUS 0 = false ∨ s.lostNow = false) ∧ (s.qe.holds = []) ∧ (s.bit Reg.LINK_CTRL 1 = true) ∧ (s.asleep = false)) ∧
    (∃ (s : State), (s.ticks % s.slotTicks = 0) ∧ (s.bit Reg.LINK_STATUS 0 = false ∨ s.lostNow = false) ∧ (s.qe.holds = []) ∧ (s.bit Reg.LINK_CTRL 1 = false ∨ s.asleep = true)) ∧
    (∃ (s : State), (s.ticks % s.slotTicks = 0) ∧ (s.bit Reg.LINK_STATUS 0 = true) ∧ (s.lostNow = true) ∧ (s.qe.holds = [])) ∧
    (∃ (s : State), (s.bit Reg.LINK_STATUS 0 = false ∨ s.lostNow = false) ∧ ((s.opsFrom s.ticks 2).filter (fun o => s.reached (s.powerUpAt o)) = [])) ∧
    (∃ (o : RunOp) (s : State), (s.bit Reg.LINK_STATUS 0 = false ∨ s.lostNow = false) ∧ ((s.opsFrom s.ticks 2).filter (fun o => s.reached (s.powerUpAt o)) = [o]) ∧ (s.link.run = none) ∧ ((s.opsFrom s.ticks 2).any (fun x => decide (x.ref.rank < o.ref.rank) && s.overlap x o) = false)) ∧
    (∃ (o : RunOp) (k : Nat) (s : State), (s.bit Reg.LINK_STATUS 0 = false ∨ s.lostNow = false) ∧ ((s.opsFrom s.ticks 2).filter (fun o => s.reached (s.powerUpAt o)) = [o]) ∧ (s.link.run.isSome = true) ∧ ((∀ r ∈ s.link.run, r.ref.rank ≤ o.ref.rank ∨ (r.phase ≠ .power ∧ r.phase ≠ .ready))) ∧ (o.ref = .table k) ∧ (k < 32) ∧ ((s.airOp k).state ≠ 0)) ∧
    (∃ (o r : RunOp) (k : Nat) (s : State), (s.bit Reg.LINK_STATUS 0 = false ∨ s.lostNow = false) ∧ ((s.opsFrom s.ticks 2).filter (fun o => s.reached (s.powerUpAt o)) = [o]) ∧ ((s.opsFrom s.ticks 2).any (fun x => decide (x.ref.rank < o.ref.rank) && s.overlap x o) = false) ∧ (s.link.run = some r) ∧ (r.ref = .table k) ∧ (k < 32) ∧ (o.ref.rank < 3 + k) ∧ (r.phase = .power ∨ r.phase = .ready)) ∧
    (∃ (k : Fin 32) (s : State), ((s.airOp k).fabric = true) ∧ ((s.airOp k).state = 1)) ∧
    (∃ (k : Fin 32) (s : State), ((s.airOp k).fabric = false ∨ (s.airOp k).state ≠ 1)) :=
  ⟨⟨{ wLink 2 with chron := { now := 5000 } }, by decide +kernel⟩,
   ⟨wLink 2, by decide +kernel⟩,
   ⟨wLink 2 |>.wr Reg.LINK_CTRL 1, by decide +kernel⟩,
   ⟨((wLink 1).setB Reg.LINK_STATUS 0 true).setB Reg.CHRON_STATUS 2 true, by decide +kernel⟩,
   ⟨wLink 1, by decide +kernel⟩,
   ⟨{ ref := .beacon, slot := 0, openAt := 4096, chan := 0 }, { ((wLink 2).wr Reg.LINK_CFG2 4).wr Reg.LINK_ADDR 5 with chron := { now := 4000 } }, by decide +kernel⟩,
   ⟨{ ref := .table 3, slot := 0, openAt := 4096, chan := 0 }, 3, { ((wLink 1).wr Reg.LINK_CTRL 0) with chron := { now := 4000 }, link := { run := some (wOp .join .power), ops := [(3, { kind := 2, state := 1, offset := 4096 })] } }, by decide +kernel⟩,
   ⟨{ ref := .table 3, slot := 0, openAt := 4096, chan := 0 }, wOp (.table 5) .power, 5, { ((wLink 1).wr Reg.LINK_CTRL 0) with chron := { now := 4000 }, link := { run := some (wOp (.table 5) .power), ops := [(3, { kind := 2, state := 1, offset := 4096 }), (5, { kind := 2, state := 2, offset := 9096 })] } }, by decide +kernel⟩,
   ⟨3, { wLink 1 with link := { ops := [(3, { kind := 2, state := 1, fabric := true })] } }, by decide +kernel⟩,
   ⟨3, wLink 1, by decide +kernel⟩⟩

theorem met_operation_and_neighbour_commands_act_on_their_tables_1 :
    (∃ (c : Instr) (m : Master) (k : Fin 32) (s : State), (s.locked m = true) ∧ (c ∈ [.linkOpSubmit m, .linkOpCancel m k, .linkOpRelease m k])) ∧
    (∃ (m : Master) (k : Nat) (s : State), (s.locked m = false) ∧ (s.submitCode s.opOfRegs = 0) ∧ (k < 32) ∧ ((s.airOp k).state = 0) ∧ ((∀ j < k, (s.airOp j).state ≠ 0))) ∧
    (∃ (m : Master) (s : State), (s.locked m = false) ∧ (s.submitCode s.opOfRegs = 1)) ∧
    (∃ (m : Master) (s : State), (s.locked m = false) ∧ (2 ≤ s.submitCode s.opOfRegs)) ∧
    (∃ (m : Master) (k : Fin 32) (s : State), (s.locked m = false) ∧ ((s.airOp k).state = 1)) ∧
    (∃ (m : Master) (k : Fin 32) (s : State), (s.locked m = false) ∧ ((s.airOp k).state ≠ 1)) ∧
    (∃ (m : Master) (k : Fin 32) (s : State), (s.locked m = false) ∧ ((s.airOp k).state = 3)) ∧
    (∃ (m : Master) (k : Fin 32) (s : State), (s.locked m = false) ∧ ((s.airOp k).state ≠ 3)) ∧
    (∃ (s : State), (s.queueOk (nbrOf ((List.range 8).flatMap (fun j => leBytes 4 (s.rd (Reg.LINK_NBR_DATA j)).toNat))).queue = false)) :=
  ⟨⟨.linkOpCancel .debug 3, .debug, 3, wLocked, by decide +kernel⟩,
   ⟨.core, 0, (((wLink 1).wr (Reg.LINK_OPD 0) 1).wr (Reg.LINK_OPD 1) 5).wr (Reg.LINK_OPD 3) 0x00050009, by decide +kernel⟩,
   ⟨.core, { wLink 1 with link := { ops := (List.range 32).map (fun k => (k, { kind := 1, state := 1 })) } }, by decide +kernel⟩,
   ⟨.core, wLink 1, by decide +kernel⟩,
   ⟨.core, 3, { wLink 1 with link := { ops := [(3, { kind := 1, state := 1 })] } }, by decide +kernel⟩,
   ⟨.core, 3, { wLink 1 with link := { ops := [(3, { kind := 1, state := 2 })] } }, by decide +kernel⟩,
   ⟨.core, 3, { wLink 1 with link := { opsFull := true, ops := [(3, { kind := 1, state := 3 })] } }, by decide +kernel⟩,
   ⟨.core, 3, { wLink 1 with link := { ops := [(3, { kind := 1, state := 2 })] } }, by decide +kernel⟩,
   ⟨UP, by decide +kernel⟩⟩

theorem met_operation_and_neighbour_commands_act_on_their_tables_2 :
    (∃ (n : Nbr) (i : Nat) (s : State), (n = (nbrOf ((List.range 8).flatMap (fun j => leBytes 4 (s.rd (Reg.LINK_NBR_DATA j)).toNat)))) ∧ (s.queueOk n.queue = true) ∧ (s.nbrAt n.addr = none) ∧ (i < s.nbrCapacity) ∧ (mapGet s.link.nbr i = none) ∧ ((∀ j < i, mapGet s.link.nbr j ≠ none))) ∧
    (∃ (n e : Nbr) (i : Nat) (s : State), (n = (nbrOf ((List.range 8).flatMap (fun j => leBytes 4 (s.rd (Reg.LINK_NBR_DATA j)).toNat)))) ∧ (s.queueOk n.queue = true) ∧ (s.nbrAt n.addr = some (i, e))) ∧
    (∃ (n : Nbr) (s : State), (n = (nbrOf ((List.range 8).flatMap (fun j => leBytes 4 (s.rd (Reg.LINK_NBR_DATA j)).toNat)))) ∧ (s.queueOk n.queue = true) ∧ (s.nbrAt n.addr = none) ∧ ((∀ j < s.nbrCapacity, mapGet s.link.nbr j ≠ none))) ∧
    (∃ (k : Fin 65536) (i : Nat) (n : Nbr) (s : State), (s.nbrAt k.val = some (i, n))) ∧
    (∃ (k : Fin 65536) (n : Nbr) (s : State), (mapGet s.link.nbr k = some n)) ∧
    (∃ (k : Fin 65536) (s : State), (mapGet s.link.nbr k = none)) ∧
    (∃ (c : Instr) (k : Fin 65536) (s : State), (s.nbrAt k.val = none) ∧ (c ∈ [.nbrRead k, .nbrRemove k])) ∧
    (∃ (k : Fin 65536) (i : Nat) (n : Nbr) (s : State), (s.nbrAt k.val = some (i, n))) :=
  ⟨⟨{ addr := 9, flags := 3 }, 0, { (UP.wr (Reg.LINK_NBR_DATA 0) 0x00020009) with qe := { qbankEn := 1 } }, by decide +kernel⟩,
   ⟨{ addr := 9, flags := 3 }, { addr := 9 }, 4, { (UP.wr (Reg.LINK_NBR_DATA 0) 0x00020009) with link := { nbr := [(4, { addr := 9 })] }, qe := { qbankEn := 1 } }, by decide +kernel⟩,
   ⟨{ addr := 9, flags := 3 }, { (UP.wr (Reg.LINK_NBR_DATA 0) 0x00020009) with variant := .label, link := { nbr := (List.range 64).map (fun k => (k, { addr := 100 + k })) }, qe := { qbankEn := 1 } }, by decide +kernel⟩,
   ⟨9, 4, { addr := 9 }, { UP with link := { nbr := [(4, { addr := 9 })] } }, by decide +kernel⟩,
   ⟨4, { addr := 9 }, { UP with link := { nbr := [(4, { addr := 9 })] } }, by decide +kernel⟩,
   ⟨4, UP, by decide +kernel⟩,
   ⟨.nbrRemove 4, 4, UP, by decide +kernel⟩,
   ⟨9, 4, { addr := 9 }, { UP with link := { nbr := [(4, { addr := 9 })] } }, by decide +kernel⟩⟩

theorem met_transmissions_listen_are_charged_and_acknowledged_1 :
    (∃ (s : State), (s.link.run = none)) ∧
    (∃ (o : RunOp) (q : Nat) (p : QRes) (bytes : List Byte) (s : State), (s.link.run = some o) ∧ (o.ref = .call q) ∧ (s.mayOpen o = true) ∧ (s.lostNow = false) ∧ (s.fsm = 4) ∧ (s.chanGen2 o.chan = true) ∧ (p = s.qeNow 1 { cmd := 3, queue := q }) ∧ (p.status = 0) ∧ (bytes = p.s.frameBytes (p.word1 % 65536)) ∧ (bytes.length ≤ 2043) ∧ ((parseMac bytes).sec = false) ∧ (p.s.budgetShort (s.chanBand o.chan) (airTime true (p.s.txTable (p.s.callee (parseMac bytes).dst)).2 (bytes.length + 4)) = false)) ∧
    (∃ (o : RunOp) (k : Nat) (s : State), (s.link.run = some o) ∧ (o.ref = .table k) ∧ (k < 32) ∧ ((s.airOp k).kind = 2) ∧ (s.mayOpen o = true) ∧ (s.lostNow = true) ∧ (s.bit Reg.LINK_STATUS 0 = false ∨ s.lostNow = false)) ∧
    (∃ (o : RunOp) (k : Nat) (s : State), (s.link.run = some o) ∧ (o.ref = .table k) ∧ (k < 32) ∧ ((s.airOp k).kind = 2) ∧ (s.mayOpen o = true) ∧ (s.lostNow = false) ∧ (s.fsm ≠ 4)) ∧
    (∃ (o : RunOp) (k : Nat) (s : State), (s.link.run = some o) ∧ (o.ref = .table k) ∧ (k < 32) ∧ ((s.airOp k).kind = 2) ∧ (s.mayOpen o = true) ∧ (s.lostNow = false) ∧ (s.fsm = 4) ∧ (s.qeOn = true) ∧ (s.queueOk (s.airOp k).addr = true) ∧ ((s.qd (s.airOp k).addr).depth = 0)) ∧
    (∃ (o : RunOp) (s : State), (s.link.run = some o) ∧ (s.mayOpen o = false)) ∧
    (∃ (o : RunOp) (p : Int) (s : State), (s.link.run = some o) ∧ (s.listens o = true) ∧ (o.phase = .power) ∧ (s.fsm = 3) ∧ (p < 2 * s.bandThresh (s.chanBand o.chan))) ∧
    (∃ (o : RunOp) (p : Int) (s : State), (s.link.run = some o) ∧ (s.listens o = true) ∧ (o.phase = .power) ∧ (s.fsm ≠ 3) ∧ (o.ref ∈ [OpRef.beacon, .relay, .join])) :=
  ⟨⟨wLink 1, by decide +kernel⟩,
   ⟨wOp (.call 0) .power, 0, (wCall (macHeader 1 7 2 3)).qeNow 1 { cmd := 3, queue := 0 }, macHeader 1 7 2 3, wCall (macHeader 1 7 2 3), by decide +kernel⟩,
   ⟨wOp (.table 3) .power, 3, { ((wLink 1).setB Reg.CHRON_STATUS 2 true) with link := { run := some (wOp (.table 3) .power), ops := [(3, { kind := 2, state := 2 })] } }, by decide +kernel⟩,
   ⟨wOp (.table 3) .power, 3, { (wLink 1) with link := { run := some (wOp (.table 3) .power), ops := [(3, { kind := 2, state := 2 })] } }, by decide +kernel⟩,
   ⟨wOp (.table 3) .power, 3, { ((wLink 1).wr Reg.RADIO_FSM 4) with qe := { qbankEn := 1 }, link := { run := some (wOp (.table 3) .power), ops := [(3, { kind := 2, state := 2 })] } }, by decide +kernel⟩,
   ⟨wOp (.call 0) .onAir, wRun 2 4 (wOp (.call 0) .onAir), by decide +kernel⟩,
   ⟨wOp .join .power, -200, { wRun 1 3 (wOp .join .power) with cat := { sections := [(6, [1, 0, 0, 0, 0x50, 0xF8, 0x0C, 0, 0x58, 0x44, 0x0E, 0, 0, 0, 1, 0, 60, 0, 28, 1, 176, 0, 0x88, 0x13] ++ List.replicate 20 0)] } }, by decide +kernel⟩,
   ⟨wOp .join .power, -200, { wRun 1 1 (wOp .join .power) with cat := { sections := [(6, [1, 0, 0, 0, 0x50, 0xF8, 0x0C, 0, 0x58, 0x44, 0x0E, 0, 0, 0, 1, 0, 60, 0, 28, 1, 176, 0, 0x88, 0x13] ++ List.replicate 20 0)] } }, by decide +kernel⟩⟩

theorem met_transmissions_listen_are_charged_and_acknowledged_2 :
    (∃ (o : RunOp) (p : Int) (s : State), (s.link.run = some o) ∧ (s.listens o = true) ∧ (o.phase = .power) ∧ (s.fsm = 3) ∧ (2 * s.bandThresh (s.chanBand o.chan) ≤ p) ∧ (o.ref ∈ [OpRef.beacon, .relay, .join])) ∧
    (∃ (p : Int) (s : State), (s.link.run = none ∨ (∀ o ∈ s.link.run, s.listens o = false))) ∧
    (∃ (s : State), (s.front.tx = none)) ∧
    (∃ (f : AirFrame) (o : RunOp) (s : State), (s.front.tx = some f) ∧ (s.link.run = some o) ∧ (o.phase = .onAir) ∧ (o.ackReq = true)) ∧
    (∃ (f : AirFrame) (s : State), (s.front.tx = some f) ∧ (s.link.run = none)) ∧
    (∃ (f : AirFrame) (o : RunOp) (s : State), (s.front.tx = some f) ∧ (s.link.run = some o) ∧ (o.phase = .onAir) ∧ (o.ackReq = false) ∧ (o.ref ∈ [OpRef.beacon, .relay, .join])) ∧
    (∃ (o : RunOp) (q : Nat) (n : Fin 65536) (s : State), (s.link.run = some o) ∧ (o.ref = .call q) ∧ (o.phase = .ackWait) ∧ (o.seq = n.val) ∧ (s.qeWaits 1 { cmd := 2, queue := q } = false) ∧ ((s.qeNow 1 { cmd := 2, queue := q }).status = 0)) ∧
    (∃ (n : Fin 65536) (s : State), ((∀ o ∈ s.link.run, o.phase ≠ .ackWait ∨ o.seq ≠ n.val))) :=
  ⟨⟨wOp .join .power, -20, { wRun 1 3 (wOp .join .power) with cat := { sections := [(6, [1, 0, 0, 0, 0x50, 0xF8, 0x0C, 0, 0x58, 0x44, 0x0E, 0, 0, 0, 1, 0, 60, 0, 28, 1, 176, 0, 0x88, 0x13] ++ List.replicate 20 0)] } }, by decide +kernel⟩,
   ⟨5, wLink 1, by decide +kernel⟩,
   ⟨wLink 1, by decide +kernel⟩,
   ⟨gen1Frame [1] 0, { wOp (.call 0) .onAir with ackReq := true }, { wRun 2 4 { wOp (.call 0) .onAir with ackReq := true } with front := { tx := some (gen1Frame [1] 0) } }, by decide +kernel⟩,
   ⟨gen1Frame [1] 0, { wLink 1 with front := { tx := some (gen1Frame [1] 0) } }, by decide +kernel⟩,
   ⟨gen1Frame [1] 0, wOp .join .onAir, { wRun 2 4 (wOp .join .onAir) with front := { tx := some (gen1Frame [1] 0) } }, by decide +kernel⟩,
   ⟨{ wOp (.call 0) .ackWait with seq := 7 }, 0, 7, { wCall (macHeader 1 7 2 3) with link := { run := some { wOp (.call 0) .ackWait with seq := 7 }, retries := [(0, 2)] } }, by decide +kernel⟩,
   ⟨7, wRun 2 4 { wOp (.call 0) .ackWait with seq := 8 }, by decide +kernel⟩⟩

theorem met_transmissions_listen_are_charged_and_acknowledged_3 :
    (∃ (o : RunOp) (q : Nat) (s : State), (s.link.run = some o) ∧ (o.ref = .call q) ∧ (o.phase = .ackWait) ∧ ((mapGet s.link.retries q).getD 0 < s.retryMax)) ∧
    (∃ (o : RunOp) (q : Nat) (s : State), (s.link.run = some o) ∧ (o.ref = .call q) ∧ (o.phase = .ackWait) ∧ (s.retryMax ≤ (mapGet s.link.retries q).getD 0)) ∧
    (∃ (o : RunOp) (k : Nat) (s : State), (s.link.run = some o) ∧ (o.ref = .table k) ∧ (k < 32) ∧ (o.phase = .ackWait)) ∧
    (∃ (s : State), ((∀ o ∈ s.link.run, o.phase ≠ .ackWait))) ∧
    (∃ (b : Fin 8) (s : State), (b.val < s.bandCount) ∧ (s.bandFld b 12 2 * 1875 ≤ (mapGet s.link.bandTicks b).getD 0)) ∧
    (∃ (b : Fin 8) (s : State), (s.bandCount ≤ b.val ∨ (mapGet s.link.bandTicks b).getD 0 < s.bandFld b 12 2 * 1875)) ∧
    (∃ (o : RunOp) (s : State), (s.rxRun = some o) ∧ (s.front.stage = 0) ∧ (s.reached (o.openAt + s.windowTail o) = true)) ∧
    (∃ (s : State), (s.rxRun = none ∨ s.front.stage ≠ 0)) :=
  ⟨⟨wOp (.call 0) .ackWait, 0, (wRun 2 4 (wOp (.call 0) .ackWait)).wr Reg.LINK_CFG1 3, by decide +kernel⟩,
   ⟨wOp (.call 0) .ackWait, 0, { wCall (macHeader 1 7 2 3) with link := { run := some (wOp (.call 0) .ackWait) } }, by decide +kernel⟩,
   ⟨wOp (.table 3) .ackWait, 3, wRun 2 4 (wOp (.table 3) .ackWait), by decide +kernel⟩,
   ⟨wLink 1, by decide +kernel⟩,
   ⟨0, { wLink 1 with link := { bandTicks := [(0, 200000)], buckets := [(0, 5 :: List.replicate 15 1)] } }, by decide +kernel⟩,
   ⟨0, wLink 1, by decide +kernel⟩,
   ⟨wOp .hearBeacon .power, { wRun 1 3 (wOp .hearBeacon .power) with chron := { now := 99000000 } }, by decide +kernel⟩,
   ⟨wLink 1, by decide +kernel⟩⟩

theorem met_beacons_floods_and_joins_follow_the_sequence_1 :
    (∃ (o : RunOp) (s : State), (s.link.run = some o) ∧ (o.ref = .beacon) ∧ (s.mayOpen o = true) ∧ (s.anchorRuns = true) ∧ (s.fsm = 4)) ∧
    (∃ (o : RunOp) (s : State), (s.link.run = some o) ∧ (o.ref = .beacon) ∧ (s.mayOpen o = true) ∧ (s.isAnchor = false) ∧ (s.linkSync = false) ∧ (s.bit Reg.LINK_STATUS 0 = false)) ∧
    (∃ (s : State), ((∀ o ∈ s.link.run, o.ref ≠ .beacon ∨ s.mayOpen o = false))) ∧
    (∃ (l : List Byte) (r : Nat) (s : State), ((parseMac l).type ≠ 0)) ∧
    (∃ (l : List Byte) (r : Nat) (e : Nbr) (s : State), ((parseMac l).type = 0) ∧ ((parseMac l).sec = false) ∧ (s.rxRun = none) ∧ (((s.nbrAt (parseMac l).src).bind (fun p => seqWindow p.2 (parseMac l).seq)) = some e) ∧ (((s.updNbr (parseMac l).src (fun _ => { e with depth := field (parseMac l).body 10 1 })).noteParent.parent.map (fun n => n.addr)) = some (parseMac l).src) ∧ (field (parseMac l).body 8 2 = s.branch) ∧ (s.anchorRuns = false)) ∧
    (∃ (l : List Byte) (r : Nat) (e : Nbr) (s : State), ((parseMac l).type = 0) ∧ ((parseMac l).sec = false) ∧ (s.rxRun = none) ∧ (((s.nbrAt (parseMac l).src).bind (fun p => seqWindow p.2 (parseMac l).seq)) = some e) ∧ (field (parseMac l).body 8 2 ≠ s.branch ∨ s.anchorRuns = true)) ∧
    (∃ (l : List Byte) (r : Nat) (s : State), ((parseMac l).type = 0) ∧ ((parseMac l).sec = false) ∧ (s.rxRun = none) ∧ (s.nbrAt (parseMac l).src = none)) ∧
    (∃ (o : RunOp) (s : State), (s.link.run = some o) ∧ (o.ref = .join) ∧ (s.mayOpen o = true) ∧ (s.lostNow = false) ∧ (s.fsm = 4)) ∧
    (∃ (s : State), ((∀ o ∈ s.link.run, o.ref ≠ .join ∨ s.mayOpen o = false))) ∧
    (∃ (s : State), (s.link.join.waiting = some 0) ∧ (s.bit Reg.LINK_STATUS 2 = false)) :=
  ⟨⟨wOp .beacon .power, wRun 2 4 (wOp .beacon .power), by decide +kernel⟩,
   ⟨wOp .beacon .power, wRun 3 4 (wOp .beacon .power), by decide +kernel⟩,
   ⟨wLink 1, by decide +kernel⟩,
   ⟨[1], 9, wLink 1, by decide +kernel⟩,
   ⟨(macHeader 0 7 0xFFFF 3 ++ List.replicate 16 0), 9, { addr := 3, flags := 3, seqH := 7, seqMap := 1 }, { (wLink 1) with link := { nbr := [(0, { addr := 3, flags := 3 })] } }, by decide +kernel⟩,
   ⟨(macHeader 0 7 0xFFFF 3 ++ List.replicate 16 0), 9, { addr := 3, flags := 3, seqH := 7, seqMap := 1 }, { (wLink 2) with link := { nbr := [(0, { addr := 3, flags := 3 })] } }, by decide +kernel⟩,
   ⟨(macHeader 0 7 0xFFFF 3 ++ List.replicate 16 0), 9, wLink 2, by decide +kernel⟩,
   ⟨wOp .join .power, wRun 1 4 (wOp .join .power), by decide +kernel⟩,
   ⟨wLink 1, by decide +kernel⟩,
   ⟨{ wLink 1 with link := { join := { waiting := some 0 } } }, by decide +kernel⟩⟩

theorem met_beacons_floods_and_joins_follow_the_sequence_2 :
    (∃ (s : State), (s.link.join.waiting ≠ some 0 ∨ s.bit Reg.LINK_STATUS 2 = true)) ∧
    (∃ (o : RunOp) (r : RelayFrame) (s : State), (s.link.run = some o) ∧ (o.ref = .relay) ∧ (s.mayOpen o = true) ∧ (s.lostNow = false) ∧ (s.fsm = 4) ∧ (s.link.relays = [r]) ∧ (r.openAt = o.openAt)) ∧
    (∃ (s : State), ((∀ o ∈ s.link.run, o.ref ≠ .relay ∨ s.mayOpen o = false))) ∧
    (∃ (src : Fin 65536) (body : List Byte) (s : State), (field body 0 1 = 1)) ∧
    (∃ (src : Fin 65536) (body : List Byte) (s : State), (field body 0 1 ≠ 1)) ∧
    (∃ (src : Fin 65536) (body : List Byte) (i : Nat) (s : State), (field body 0 1 = 2) ∧ (i = field body 1 2 % 1024) ∧ (i ≠ 0) ∧ (LoadTable.ok { rate := (field body 1 2).testBit 15, data := field body 3 36 } = true) ∧ (s.link.lts.length < s.ltsCapacity)) ∧
    (∃ (src : Fin 65536) (body : List Byte) (s : State), (field body 0 1 ≠ 2 ∨ field body 1 2 % 1024 = 0)) ∧
    (∃ (src : Fin 65536) (body : List Byte) (s : State), (field body 0 1 = 3)) ∧
    (∃ (src : Fin 65536) (body : List Byte) (s : State), (field body 0 1 ≠ 3)) :=
  ⟨⟨wLink 1, by decide +kernel⟩,
   ⟨wOp .relay .power, { header := 0, psdu := [1, 2, 3, 4, 5, 6, 7, 8, 9, 10, 11, 12], openAt := 0 }, { wRun 3 4 (wOp .relay .power) with link := { run := some (wOp .relay .power), relays := [{ header := 0, psdu := [1, 2, 3, 4, 5, 6, 7, 8, 9, 10, 11, 12], openAt := 0 }] } }, by decide +kernel⟩,
   ⟨wLink 1, by decide +kernel⟩,
   ⟨3, 1 :: (uidBytes ++ [5, 0, 2, 0, 1, 0, 9, 0]), wLink 1, by decide +kernel⟩,
   ⟨3, [2], wLink 1, by decide +kernel⟩,
   ⟨3, [2, 5, 0, 1] ++ List.replicate 35 0, 5, wLink 1, by decide +kernel⟩,
   ⟨3, [1], wLink 1, by decide +kernel⟩,
   ⟨3, [3, 5, 0], wLink 1, by decide +kernel⟩,
   ⟨3, [1], wLink 1, by decide +kernel⟩⟩

theorem met_queue_commands_are_taken_with_a_tag_1 :
    (∃ (c : Instr) (k : QCmd) (p : Fin 4) (m : Master) (q x : Fin 65536) (l : Fin 16) (b : Bool) (s : State), ((c, k) ∈ [(Instr.qeEnqueue p m q x [], { cmd := 1, queue := q.val, arg := x.val }), (.qeDequeue p m q b [], { cmd := 2, flag := b, queue := q.val }), (.qePeek p m q [], { cmd := 3, queue := q.val }), (.qeMove p m q x [], { cmd := 4, queue := q.val, arg := x.val }), (.qeFlush p m q [], { cmd := 5, queue := q.val }), (.qePause p m q b [], { cmd := 6, flag := b, queue := q.val }), (.qeResume p m q l b [], { cmd := 7, flag := b, cls := l.val, queue := q.val })]) ∧ (s.locked m = true)) ∧
    (∃ (c : Instr) (k : QCmd) (p : Fin 4) (m : Master) (q x : Fin 65536) (l : Fin 16) (b : Bool) (s : State), ((c, k) ∈ [(Instr.qeEnqueue p m q x [], { cmd := 1, queue := q.val, arg := x.val }), (.qeDequeue p m q b [], { cmd := 2, flag := b, queue := q.val }), (.qePeek p m q [], { cmd := 3, queue := q.val }), (.qeMove p m q x [], { cmd := 4, queue := q.val, arg := x.val }), (.qeFlush p m q [], { cmd := 5, queue := q.val }), (.qePause p m q b [], { cmd := 6, flag := b, queue := q.val }), (.qeResume p m q l b [], { cmd := 7, flag := b, cls := l.val, queue := q.val })]) ∧ (s.locked m = false) ∧ (s.asleep = false) ∧ (p.val = 0) ∧ (s.freeTag p = none)) ∧
    (∃ (c : Instr) (k : QCmd) (p : Fin 4) (m : Master) (q x : Fin 65536) (l : Fin 16) (b : Bool) (s : State), ((c, k) ∈ [(Instr.qeEnqueue p m q x [], { cmd := 1, queue := q.val, arg := x.val }), (.qeDequeue p m q b [], { cmd := 2, flag := b, queue := q.val }), (.qePeek p m q [], { cmd := 3, queue := q.val }), (.qeMove p m q x [], { cmd := 4, queue := q.val, arg := x.val }), (.qeFlush p m q [], { cmd := 5, queue := q.val }), (.qePause p m q b [], { cmd := 6, flag := b, queue := q.val }), (.qeResume p m q l b [], { cmd := 7, flag := b, cls := l.val, queue := q.val })]) ∧ (s.locked m = false) ∧ (s.asleep = false) ∧ (p.val ≠ 0) ∧ (s.freeTag p = none)) ∧
    (∃ (c : Instr) (k : QCmd) (p : Fin 4) (m : Master) (q x : Fin 65536) (l : Fin 16) (b : Bool) (j : Nat) (s : State), ((c, k) ∈ [(Instr.qeEnqueue p m q x [], { cmd := 1, queue := q.val, arg := x.val }), (.qeDequeue p m q b [], { cmd := 2, flag := b, queue := q.val }), (.qePeek p m q [], { cmd := 3, queue := q.val }), (.qeMove p m q x [], { cmd := 4, queue := q.val, arg := x.val }), (.qeFlush p m q [], { cmd := 5, queue := q.val }), (.qePause p m q b [], { cmd := 6, flag := b, queue := q.val }), (.qeResume p m q l b [], { cmd := 7, flag := b, cls := l.val, queue := q.val })]) ∧ (s.locked m = false) ∧ (s.asleep = false) ∧ (s.freeTag p = some j) ∧ (s.qeOn = false)) ∧
    (∃ (c : Instr) (k : QCmd) (p : Fin 4) (m : Master) (q x : Fin 65536) (l : Fin 16) (b : Bool) (j : Nat) (r : QRes) (s : State), ((c, k) ∈ [(Instr.qeEnqueue p m q x [], { cmd := 1, queue := q.val, arg := x.val }), (.qeDequeue p m q b [], { cmd := 2, flag := b, queue := q.val }), (.qePeek p m q [], { cmd := 3, queue := q.val }), (.qeMove p m q x [], { cmd := 4, queue := q.val, arg := x.val }), (.qeFlush p m q [], { cmd := 5, queue := q.val }), (.qePause p m q b [], { cmd := 6, flag := b, queue := q.val }), (.qeResume p m q l b [], { cmd := 7, flag := b, cls := l.val, queue := q.val })]) ∧ (s.locked m = false) ∧ (s.asleep = false) ∧ (s.freeTag p = some j) ∧ (s.qeOn = true) ∧ (s.cmdDark k = false) ∧ (r = (({ s with qe := { s.qe with tags := s.qe.tags ++ [(p.val, j)] } } : State).qEffect p k []).shown)) ∧
    (∃ (c : Instr) (k : QCmd) (p : Fin 4) (m : Master) (q x : Fin 65536) (l : Fin 16) (b : Bool) (j : Nat) (s : State), ((c, k) ∈ [(Instr.qeEnqueue p m q x [], { cmd := 1, queue := q.val, arg := x.val }), (.qeDequeue p m q b [], { cmd := 2, flag := b, queue := q.val }), (.qePeek p m q [], { cmd := 3, queue := q.val }), (.qeMove p m q x [], { cmd := 4, queue := q.val, arg := x.val }), (.qeFlush p m q [], { cmd := 5, queue := q.val }), (.qePause p m q b [], { cmd := 6, flag := b, queue := q.val }), (.qeResume p m q l b [], { cmd := 7, flag := b, cls := l.val, queue := q.val })]) ∧ (s.locked m = false) ∧ (s.asleep = false) ∧ (s.freeTag p = some j) ∧ (s.qeOn = true) ∧ (s.cmdDark k = true)) ∧
    (∃ (p : Fin 4) (j : Nat) (s : State), (j < 64)) ∧
    (∃ (d : QDone) (s : State), (s.asleep = false) ∧ (s.qe.done = [d]) ∧ (d.port = 0)) :=
  ⟨⟨.qeDequeue 0 .debug 0 true [], { cmd := 2, flag := true, queue := 0 }, 0, .debug, 0, 0, 0, true, wLocked, by decide +kernel⟩,
   ⟨.qeDequeue 0 .core 0 true [], { cmd := 2, flag := true, queue := 0 }, 0, .core, 0, 0, 0, true, { wQe with qe := { wQe.qe with tags := (List.range 64).map (fun t => (0, t)) ++ (List.range 64).map (fun t => (2, t)) } }, by decide +kernel⟩,
   ⟨.qeDequeue 2 .core 0 true [], { cmd := 2, flag := true, queue := 0 }, 2, .core, 0, 0, 0, true, { wQe with qe := { wQe.qe with tags := (List.range 64).map (fun t => (0, t)) ++ (List.range 64).map (fun t => (2, t)) } }, by decide +kernel⟩,
   ⟨.qeDequeue 0 .core 0 true [], { cmd := 2, flag := true, queue := 0 }, 0, .core, 0, 0, 0, true, 0, UP, by decide +kernel⟩,
   ⟨.qeDequeue 0 .core 0 true [], { cmd := 2, flag := true, queue := 0 }, 0, .core, 0, 0, 0, true, 0, (({ wQf with qe := { wQf.qe with tags := [(0, 0)] } } : State).qEffect 0 { cmd := 2, flag := true, queue := 0 } []).shown, wQf, by decide +kernel⟩,
   ⟨.qeDequeue 0 .core 0 true [], { cmd := 2, flag := true, queue := 0 }, 0, .core, 0, 0, 0, true, 0, { wQf with pwr := { dark := [0] } }, by decide +kernel⟩,
   ⟨0, 0, wQf, by decide +kernel⟩,
   ⟨⟨0, 3, { cmd := 2, queue := 9 }, 6, 5⟩, { wQ with qe := { wQ.qe with done := [⟨0, 3, { cmd := 2, queue := 9 }, 6, 5⟩] } }, by decide +kernel⟩⟩

theorem met_queue_commands_are_taken_with_a_tag_2 :
    (∃ (d : QDone) (p : Fin 4) (s : State), (s.asleep = false) ∧ (s.qe.done = [d]) ∧ (d.port = p.val) ∧ (p.val ≠ 0)) ∧
    (∃ (p : Fin 4) (s : State), (s.asleep = true ∨ (∀ d ∈ s.qe.done, d.port ≠ p.val))) ∧
    (∃ (v : Word) (s : State), ((s.rdF Reg.QE_CPU_RING_PI 0 7 + 128 - s.rdF Reg.QE_CPU_RING_CI 0 7) % 128 < (fld v 0 7 + 128 - s.rdF Reg.QE_CPU_RING_CI 0 7) % 128)) ∧
    (∃ (v : Word) (i j : Nat) (s : State), (s.qe.unread = [(i, j)]) ∧ (s.rdF Reg.QE_CPU_RING_CI 0 7 = i) ∧ (s.rdF Reg.QE_CPU_RING_PI 0 7 = (i + 1) % 128) ∧ (fld v 0 7 = (i + 1) % 128)) ∧
    (∃ (c : Instr) (k : QCmd) (p : Fin 4) (m : Master) (q x : Fin 65536) (l : Fin 16) (b : Bool) (s : State), ((c, k) ∈ [(Instr.qeEnqueue p m q x [], { cmd := 1, queue := q.val, arg := x.val }), (.qeDequeue p m q b [], { cmd := 2, flag := b, queue := q.val }), (.qePeek p m q [], { cmd := 3, queue := q.val }), (.qeMove p m q x [], { cmd := 4, queue := q.val, arg := x.val }), (.qeFlush p m q [], { cmd := 5, queue := q.val }), (.qePause p m q b [], { cmd := 6, flag := b, queue := q.val }), (.qeResume p m q l b [], { cmd := 7, flag := b, cls := l.val, queue := q.val })]) ∧ (s.locked m = false) ∧ (s.asleep = true)) ∧
    (∃ (p p' : Fin 4) (m m' : Master) (q q' x x' : Fin 65536) (s : State), (p ≠ p') ∧ (s.locked m = false) ∧ (s.locked m' = false)) ∧
    (∃ (p p' : Fin 4) (m m' : Master) (q x : Fin 65536) (i j : Nat) (cs : List Nat) (s : State), (p.val ≠ 0) ∧ (p'.val ≠ 0) ∧ (p ≠ p') ∧ (s.asleep = false) ∧ (s.locked m = false) ∧ (s.locked m' = false) ∧ (s.qeOn = true) ∧ (s.cmdDark { cmd := 5, queue := q } = false) ∧ (s.freeTag p = some i) ∧ (s.freeTag p' = some j) ∧ (s.queueOk q = true) ∧ ((s.qd q).depth = 0) ∧ (s.headHeld q = false) ∧ ((s.qd q).state = .enabled ∨ (s.qd q).state = .paused) ∧ (0 < s.depthLimit) ∧ (s.ownedFrame x = some cs)) :=
  ⟨⟨⟨2, 3, { cmd := 2, queue := 9 }, 6, 5⟩, 2, { wQ with qe := { wQ.qe with tags := [(2, 3)], done := [⟨2, 3, { cmd := 2, queue := 9 }, 6, 5⟩] } }, by decide +kernel⟩,
   ⟨2, wQ, by decide +kernel⟩,
   ⟨5, wQ, by decide +kernel⟩,
   ⟨1, 0, 3, { wQ.wr Reg.QE_CPU_RING_PI 1 with qe := { wQ.qe with unread := [(0, 3)], tags := [(0, 3), (1, 3)] } }, by decide +kernel⟩,
   ⟨.qeDequeue 2 .core 0 true [], { cmd := 2, flag := true, queue := 0 }, 2, .core, 0, 0, 0, true, { wQf with pwr := { mode := .nap } }, by decide +kernel⟩,
   ⟨1, 3, .core, .core, 0, 9, 5, 6, { wQf with qe := { wQf.qe with tags := [(1, 5)] } }, by decide +kernel⟩,
   ⟨1, 2, .core, .core, 0, 5, 0, 0, [5], wQe, by decide +kernel⟩⟩

theorem met_queue_commands_act_on_their_queues_1 :
    (∃ (p : Nat) (k : QCmd) (s : State), (s.queueOk k.queue = false ∨ (k.cmd = 4 ∧ s.queueOk k.arg = false))) ∧
    (∃ (p q x : Nat) (s : State), (s.queueOk q = true) ∧ ((s.qd q).state = .disabled ∨ (s.qd q).state = .draining)) ∧
    (∃ (p q x : Nat) (s : State), (s.queueOk q = true) ∧ ((s.qd q).state = .enabled ∨ (s.qd q).state = .paused) ∧ (s.depthLimit ≤ (s.qd q).depth)) ∧
    (∃ (p q x : Nat) (s : State), (s.queueOk q = true) ∧ ((s.qd q).state = .enabled ∨ (s.qd q).state = .paused) ∧ ((s.qd q).depth < s.depthLimit) ∧ (s.ownedFrame x = none)) ∧
    (∃ (r : QRes) (cs : List Nat) (p q x : Nat) (s : State), (s.queueOk q = true) ∧ ((s.qd q).state = .enabled ∨ (s.qd q).state = .paused) ∧ ((s.qd q).depth < s.depthLimit) ∧ (s.ownedFrame x = some cs) ∧ ((s.qd q).depth = 0 ∨ (s.qd q).tail ∉ cs) ∧ (r = s.qEffect p { cmd := 1, queue := q, arg := x } [])) ∧
    (∃ (k : QCmd) (p : Nat) (s : State), (k.cmd = 2 ∨ k.cmd = 3 ∨ k.cmd = 4) ∧ (s.queueOk k.queue = true) ∧ (k.cmd ≠ 4 ∨ s.queueOk k.arg = true) ∧ ((s.qd k.queue).depth = 0)) ∧
    (∃ (k : QCmd) (p : Nat) (s : State), (k.cmd = 2 ∨ k.cmd = 4) ∧ (s.queueOk k.queue = true) ∧ (k.cmd ≠ 4 ∨ s.queueOk k.arg = true) ∧ ((s.qd k.queue).depth ≠ 0) ∧ (p ≠ 1) ∧ (s.headHeld k.queue = true)) ∧
    (∃ (r : QRes) (p q : Nat) (b : Bool) (s : State), (s.queueOk q = true) ∧ ((s.qd q).depth ≠ 0) ∧ (s.headHeld q = false) ∧ (q ∉ s.qe.flushDue) ∧ ((s.frame (s.qd q).head) ≠ []) ∧ (r = s.qEffect p { cmd := 2, flag := b, queue := q } [])) ∧
    (∃ (r : QRes) (p q : Nat) (s : State), (s.queueOk q = true) ∧ ((s.qd q).depth ≠ 0) ∧ (r = s.qEffect p { cmd := 3, queue := q } [])) ∧
    (∃ (p q x : Nat) (s : State), (s.queueOk q = true) ∧ (s.queueOk x = true) ∧ ((s.qd q).depth ≠ 0) ∧ (s.headHeld q = false) ∧ ((s.qd x).state = .disabled ∨ (s.qd x).state = .draining)) :=
  ⟨⟨0, { cmd := 2, queue := 60000 }, wQ, by decide +kernel⟩,
   ⟨0, 3, 5, wQ, by decide +kernel⟩,
   ⟨0, 0, 5, wQf.wr Reg.QE_CFG 1, by decide +kernel⟩,
   ⟨0, 0, 6, wQe, by decide +kernel⟩,
   ⟨wQe.qEffect 0 { cmd := 1, queue := 0, arg := 5 } [], [5], 0, 0, 5, wQe, by decide +kernel⟩,
   ⟨{ cmd := 3, queue := 0 }, 1, wQe, by decide +kernel⟩,
   ⟨{ cmd := 2, queue := 0 }, 0, { wQf with qe := { wQf.qe with holds := [0] } }, by decide +kernel⟩,
   ⟨wQf.qEffect 0 { cmd := 2, flag := true, queue := 0 } [], 0, 0, true, wQf, by decide +kernel⟩,
   ⟨wQf.qEffect 1 { cmd := 3, queue := 0 } [], 1, 0, wQf, by decide +kernel⟩,
   ⟨0, 0, 9, wQf, by decide +kernel⟩⟩

theorem met_queue_commands_act_on_their_queues_2 :
    (∃ (r : QRes) (p q x : Nat) (s : State), (s.queueOk q = true) ∧ (s.queueOk x = true) ∧ (q ≠ x) ∧ ((s.qd q).depth ≠ 0) ∧ (s.headHeld q = false) ∧ ((s.qd x).state = .enabled ∨ (s.qd x).state = .paused) ∧ ((s.qd x).depth < s.depthLimit) ∧ (r = s.qEffect p { cmd := 4, queue := q, arg := x } [])) ∧
    (∃ (r : QRes) (p q : Nat) (s : State), (s.queueOk q = true) ∧ (s.headHeld q = false) ∧ (r = s.qEffect p { cmd := 5, queue := q } [])) ∧
    (∃ (r : QRes) (p q : Nat) (b : Bool) (s : State), (s.queueOk q = true) ∧ (r = s.qEffect p { cmd := 6, flag := b, queue := q } [])) ∧
    (∃ (p q l : Nat) (b : Bool) (s : State), (s.queueOk q = true) ∧ (s.weight l = 0)) ∧
    (∃ (r : QRes) (p q l : Nat) (b : Bool) (s : State), (s.queueOk q = true) ∧ (s.weight l ≠ 0) ∧ (r = s.qEffect p { cmd := 7, flag := b, cls := l, queue := q } [])) ∧
    (∃ (d : QDesc) (q : Nat) (s : State), (d.state = .draining) ∧ (d.depth = 0)) ∧
    (∃ (r : QRes) (p q : Nat) (s : State), (s.queueOk q = true) ∧ (s.headHeld q = true) ∧ ((s.qd q).depth ≠ 0) ∧ (r = s.qEffect p { cmd := 5, queue := q } [])) ∧
    (∃ (q : Nat) (b : Bool) (s : State), (s.queueOk q = true) ∧ ((s.qd q).depth ≠ 0) ∧ (q ∈ s.qe.flushDue)) ∧
    (∃ (q x : Nat) (l cs : List Nat) (s : State), (s.queueOk q = true) ∧ ((s.qd q).state = .enabled ∨ (s.qd q).state = .paused) ∧ ((s.qd q).depth < s.depthLimit) ∧ (s.ownedFrame x = some cs) ∧ (q ∈ l)) :=
  ⟨⟨(wQf.setQd 9 { state := .enabled }).qEffect 0 { cmd := 4, queue := 0, arg := 9 } [], 0, 0, 9, wQf.setQd 9 { state := .enabled }, by decide +kernel⟩,
   ⟨wQf.qEffect 0 { cmd := 5, queue := 0 } [], 0, 0, wQf, by decide +kernel⟩,
   ⟨wQf.qEffect 0 { cmd := 6, flag := true, queue := 0 } [], 0, 0, true, wQf, by decide +kernel⟩,
   ⟨0, 0, 3, true, wQf, by decide +kernel⟩,
   ⟨wQf.qEffect 0 { cmd := 7, flag := true, cls := 2, queue := 0 } [], 0, 0, 2, true, wQf, by decide +kernel⟩,
   ⟨{ state := .draining }, 0, wQ, by decide +kernel⟩,
   ⟨({ wQf with qe := { wQf.qe with holds := [0] } } : State).qEffect 0 { cmd := 5, queue := 0 } [], 0, 0, { wQf with qe := { wQf.qe with holds := [0] } }, by decide +kernel⟩,
   ⟨0, true, { wQf with qe := { wQf.qe with holds := [0], flushDue := [0] } }, by decide +kernel⟩,
   ⟨0, 5, [0], [5], wQe, by decide +kernel⟩⟩

theorem met_cells_are_allocated_released_and_queues_set_up_1 :
    (∃ (c : Instr) (m : Master) (v : Word) (s : State), (s.locked m = true) ∧ (c ∈ [.qeAlloc m v, .qeRelease m v])) ∧
    (∃ (m : Master) (v : Word) (s : State), (s.locked m = false) ∧ (s.qeOn = false)) ∧
    (∃ (m : Master) (v : Word) (s : State), (s.locked m = false) ∧ (s.qeOn = true) ∧ (fld v 0 20 = 0 ∨ 2047 < fld v 0 20)) ∧
    (∃ (n : Nat) (m : Master) (v : Word) (s : State), (s.locked m = false) ∧ (s.qeOn = true) ∧ (n = fld v 0 20) ∧ (1 ≤ n) ∧ (n ≤ 2047) ∧ (s.freeCells.length < (n + 123) / 124) ∧ ((∀ b ∈ s.pwr.dark, b < 8))) ∧
    (∃ (n : Nat) (m : Master) (v : Word) (s : State), (s.locked m = false) ∧ (s.qeOn = true) ∧ (n = fld v 0 20) ∧ (1 ≤ n) ∧ (n ≤ 2047) ∧ ((n + 123) / 124 ≤ s.freeCells.length)) ∧
    (∃ (cs : List Nat) (m : Master) (v : Word) (s : State), (s.locked m = false) ∧ (s.ownedFrame (fld v 0 16) = some cs)) ∧
    (∃ (m : Master) (v : Word) (s : State), (s.locked m = false) ∧ (s.ownedFrame (fld v 0 16) = none)) ∧
    (∃ (v : Word) (s : State), (s.bit Reg.QE_INIT_CTRL 9 = true)) ∧
    (∃ (v : Word) (s : State), (s.bit Reg.QE_INIT_CTRL 9 = false) ∧ (s.qeOn = false)) :=
  ⟨⟨.qeAlloc .debug 3, .debug, 3, wLocked, by decide +kernel⟩,
   ⟨.core, 3, UP, by decide +kernel⟩,
   ⟨.core, 2048, wQ, by decide +kernel⟩,
   ⟨2000, .core, 2000, { wQ with variant := .keeper, qe := { wQ.qe with cells := (List.range 512).map (fun c => (c, { own := .owned })) } }, by decide +kernel⟩,
   ⟨300, .core, 300, { wQ with variant := .keeper }, by decide +kernel⟩,
   ⟨[5], .core, 5, wQe, by decide +kernel⟩,
   ⟨.core, 6, wQe, by decide +kernel⟩,
   ⟨0x112, wQ.wr Reg.QE_INIT_CTRL 0x200, by decide +kernel⟩,
   ⟨0x112, UP, by decide +kernel⟩⟩

theorem met_cells_are_allocated_released_and_queues_set_up_2 :
    (∃ (v : Word) (s : State), (s.bit Reg.QE_INIT_CTRL 9 = false) ∧ (s.qeOn = true) ∧ (s.weight (fld v 0 4) = 0)) ∧
    (∃ (v : Word) (s : State), (s.bit Reg.QE_INIT_CTRL 9 = false) ∧ (s.qeOn = true) ∧ (s.weight (fld v 0 4) ≠ 0) ∧ ((∃ q ∈ s.initRange, s.queueOk q = false))) ∧
    (∃ (v : Word) (s : State), (s.bit Reg.QE_INIT_CTRL 9 = false) ∧ (s.qeOn = true) ∧ (s.weight (fld v 0 4) ≠ 0) ∧ (s.rdF Reg.QE_INIT_RANGE 0 16 ≤ s.rdF Reg.QE_INIT_RANGE 16 16) ∧ ((∀ q ∈ s.initRange, s.queueOk q = true))) ∧
    (∃ (v : Word) (s : State), (s.bit Reg.QE_INIT_CTRL 9 = false) ∧ (s.qeOn = true) ∧ (s.weight (fld v 0 4) ≠ 0) ∧ (s.rdF Reg.QE_INIT_RANGE 16 16 < s.rdF Reg.QE_INIT_RANGE 0 16)) ∧
    (∃ (r : InitRun) (s : State), (s.qe.init = some r) ∧ (s.pwr.dark.contains (r.next / 8192) = false)) ∧
    (∃ (r : InitRun) (s : State), (s.qe.init = some r) ∧ (s.pwr.dark.contains (r.next / 8192) = true)) ∧
    (∃ (b : Fin 16) (s : State), (b.val ∉ s.pwr.dark)) ∧
    (∃ (b : Fin 16) (s : State), (b.val ∈ s.pwr.dark) ∧ (s.qe.waitCmd = []) ∧ (s.qe.waitAlloc = none)) :=
  ⟨⟨0x113, wQ, by decide +kernel⟩,
   ⟨0x112, wQ.wr Reg.QE_INIT_RANGE 0xF000F000, by decide +kernel⟩,
   ⟨0x122, wQf, by decide +kernel⟩,
   ⟨0x122, wQf.wr Reg.QE_INIT_RANGE 1, by decide +kernel⟩,
   ⟨⟨0, 3, 2, 2⟩, { wQf with qe := { wQf.qe with init := some ⟨0, 3, 2, 2⟩ } }, by decide +kernel⟩,
   ⟨⟨0, 3, 2, 2⟩, { wQf with pwr := { dark := [0] }, qe := { wQf.qe with init := some ⟨0, 3, 2, 2⟩ } }, by decide +kernel⟩,
   ⟨3, wQ, by decide +kernel⟩,
   ⟨0, { wQf with pwr := { dark := [0, 9] } }, by decide +kernel⟩⟩

theorem met_the_mover_runs_its_descriptors_1 :
    (∃ (m : Master) (k : Fin 16) (s : State), (s.locked m = true)) ∧
    (∃ (m : Master) (k : Fin 16) (s : State), (s.locked m = false) ∧ (s.enabled 4 = false)) ∧
    (∃ (m : Master) (k : Fin 16) (s : State), (s.locked m = false) ∧ (s.enabled 4 = true) ∧ (s.mvState k = 1 ∨ s.mvState k = 2)) ∧
    (∃ (a : Nat) (w0 w1 w2 w3 : Word) (m : Master) (k : Fin 16) (s : State), (s.locked m = false) ∧ (s.enabled 4 = true) ∧ (s.mvState k ≠ 1) ∧ (s.mvState k ≠ 2) ∧ (a = (s.rd (Reg.MOVER_CH_DESC k)).toNat) ∧ (0x20000000 ≤ a) ∧ (a + 16 ≤ 0x20010000) ∧ (w0 = word (leNat (s.bytesAt (a + 0) 4))) ∧ (w1 = word (leNat (s.bytesAt (a + 4) 4))) ∧ (w2 = word (leNat (s.bytesAt (a + 8) 4))) ∧ (w3 = word (leNat (s.bytesAt (a + 12) 4))) ∧ (mvDescOk a (mvDescOf w0 w1 w2 w3) w2 w3 = true)) ∧
    (∃ (a : Nat) (w0 w1 w2 w3 : Word) (m : Master) (k : Fin 16) (s : State), (s.locked m = false) ∧ (s.enabled 4 = true) ∧ (s.mvState k ≠ 1) ∧ (s.mvState k ≠ 2) ∧ (a = (s.rd (Reg.MOVER_CH_DESC k)).toNat) ∧ (0x20000000 ≤ a) ∧ (a + 16 ≤ 0x20010000) ∧ (w0 = word (leNat (s.bytesAt (a + 0) 4))) ∧ (w1 = word (leNat (s.bytesAt (a + 4) 4))) ∧ (w2 = word (leNat (s.bytesAt (a + 8) 4))) ∧ (w3 = word (leNat (s.bytesAt (a + 12) 4))) ∧ (mvDescOk a (mvDescOf w0 w1 w2 w3) w2 w3 = false)) ∧
    (∃ (k : Fin 16) (s : State), (s.mvState k = 1 ∨ s.mvState k = 2)) :=
  ⟨⟨.debug, 3, wLocked, by decide +kernel⟩,
   ⟨.core, 3, UP, by decide +kernel⟩,
   ⟨.core, 3, wMv wD, by decide +kernel⟩,
   ⟨0x20000100, 0x20000200, 0x20000300, 0xE00006, 0, .core, 3, wMvD 0xE00006, by decide +kernel⟩,
   ⟨0x20000100, 0x20000200, 0x20000300, 0xF00006, 0, .core, 3, wMvD 0xF00006, by decide +kernel⟩,
   ⟨3, wMv wD, by decide +kernel⟩⟩

theorem met_the_mover_runs_its_descriptors_2 :
    (∃ (c : Instr) (v : Word) (k : Fin 16) (s : State), (s.mvState k ≠ 1) ∧ (s.mvState k ≠ 2) ∧ (c ∈ [.moverStop k, .moverDescriptorDone k, .moverBusError k v])) ∧
    (∃ (k : Fin 16) (v : Word) (s : State), (s.mvState k = 1 ∨ s.mvState k = 2)) ∧
    (∃ (k : Fin 16) (b : Bool) (s : State), (mapGet s.mover.desc k = none ∨ (s.mvState k ≠ 1 ∧ s.mvState k ≠ 2))) ∧
    (∃ (d : MvDesc) (k : Fin 16) (s : State), (mapGet s.mover.desc k = some d) ∧ (d.paced = true) ∧ (s.mvState k = 1 ∨ s.mvState k = 2)) ∧
    (∃ (d : MvDesc) (n : Nat) (k : Fin 16) (s : State), (mapGet s.mover.desc k = some d) ∧ (d.paced = true) ∧ (s.mvState k = 1 ∨ s.mvState k = 2) ∧ (s.mvPend k = 0) ∧ (d.qmode = 0) ∧ (d.burst = 0) ∧ (0 < d.len) ∧ (d.len < 2 ^ 20) ∧ (s.rdF (Reg.MOVER_CH_LEFT k) 0 20 = d.len) ∧ (n = min (2 ^ d.width) d.len) ∧ (0x20000000 ≤ d.src) ∧ (d.src + d.len ≤ 0x20010000) ∧ (0x20000000 ≤ d.dst) ∧ (d.dst + d.len ≤ 0x20010000)) ∧
    (∃ (d : MvDesc) (k : Fin 16) (s : State), (mapGet s.mover.desc k = some d) ∧ (d.paced = false) ∧ (s.mvState k = 1 ∨ s.mvState k = 2) ∧ (d.qmode = 0) ∧ (d.sinc = true) ∧ (d.dinc = true) ∧ (d.next = 0) ∧ (0 < d.len) ∧ (d.len < 65536) ∧ (0x20000000 ≤ d.src) ∧ (d.src + d.len ≤ 0x20010000) ∧ (0x20000000 ≤ d.dst) ∧ (d.dst + d.len ≤ 0x20010000) ∧ (d.src + d.len ≤ d.dst ∨ d.dst + d.len ≤ d.src)) :=
  ⟨⟨.moverStop 3, 5, 3, wQ, by decide +kernel⟩,
   ⟨3, 0x40, wMv wD, by decide +kernel⟩,
   ⟨3, true, wQ, by decide +kernel⟩,
   ⟨{ wD with paced := true }, 3, wMv { wD with paced := true }, by decide +kernel⟩,
   ⟨{ wD with paced := true }, 2, 3, wMv { wD with paced := true }, by decide +kernel⟩,
   ⟨wD, 3, wMv wD, by decide +kernel⟩⟩

theorem met_store_commands_pass_their_checks_and_start_1 :
    (∃ (c : Instr) (op a len : Nat) (m : Master) (x y : Word) (s : State), (s.locked m = true) ∧ ((c, op, a, len) ∈ [(Instr.storeErase m x, 1, x.toNat % 2 ^ 23, s.rdF Reg.STOR_CMD_LEN 0 12), (.storeProgram m x y, 2, x.toNat % 2 ^ 23, y.toNat % 2 ^ 12), (.storeCheck m x, 3, x.toNat % 2 ^ 23, s.rdF Reg.STOR_CMD_LEN 0 12), (.storeRefresh m x, 4, x.toNat % 2 ^ 23, s.rdF Reg.STOR_CMD_LEN 0 12), (.psCommit m x, 5, x.toNat % 2 ^ 23, s.rdF Reg.STOR_CMD_LEN 0 12), (.psRetire m x, 6, x.toNat % 2 ^ 23, s.rdF Reg.STOR_CMD_LEN 0 12)])) ∧
    (∃ (c : Instr) (op a len : Nat) (m : Master) (x y : Word) (s : State), (s.locked m = false) ∧ ((c, op, a, len) ∈ [(Instr.storeErase m x, 1, x.toNat % 2 ^ 23, s.rdF Reg.STOR_CMD_LEN 0 12), (.storeProgram m x y, 2, x.toNat % 2 ^ 23, y.toNat % 2 ^ 12), (.storeCheck m x, 3, x.toNat % 2 ^ 23, s.rdF Reg.STOR_CMD_LEN 0 12), (.storeRefresh m x, 4, x.toNat % 2 ^ 23, s.rdF Reg.STOR_CMD_LEN 0 12), (.psCommit m x, 5, x.toNat % 2 ^ 23, s.rdF Reg.STOR_CMD_LEN 0 12), (.psRetire m x, 6, x.toNat % 2 ^ 23, s.rdF Reg.STOR_CMD_LEN 0 12)]) ∧ (m ≠ .custodian) ∧ (s.submitStatus m op a len ≠ 0)) ∧
    (∃ (c : Instr) (op a len : Nat) (m : Master) (x y : Word) (s : State), (s.locked m = false) ∧ ((c, op, a, len) ∈ [(Instr.storeErase m x, 1, x.toNat % 2 ^ 23, s.rdF Reg.STOR_CMD_LEN 0 12), (.storeProgram m x y, 2, x.toNat % 2 ^ 23, y.toNat % 2 ^ 12), (.storeCheck m x, 3, x.toNat % 2 ^ 23, s.rdF Reg.STOR_CMD_LEN 0 12), (.storeRefresh m x, 4, x.toNat % 2 ^ 23, s.rdF Reg.STOR_CMD_LEN 0 12), (.psCommit m x, 5, x.toNat % 2 ^ 23, s.rdF Reg.STOR_CMD_LEN 0 12), (.psRetire m x, 6, x.toNat % 2 ^ 23, s.rdF Reg.STOR_CMD_LEN 0 12)]) ∧ (m ≠ .custodian) ∧ (s.submitStatus m op a len = 0)) ∧
    (∃ (m : Master) (x : Word) (s : State), (s.locked m = false) ∧ (m ≠ .custodian) ∧ (s.submitStatus m 1 (x.toNat % 2 ^ 23) (s.rdF Reg.STOR_CMD_LEN 0 12) = 0)) ∧
    (∃ (m : Master) (x y : Word) (s : State), (s.locked m = false) ∧ (m ≠ .custodian) ∧ (s.submitStatus m 2 (x.toNat % 2 ^ 23) (y.toNat % 2 ^ 12) = 0)) ∧
    (∃ (m : Master) (x : Word) (s : State), (s.locked m = false) ∧ (m ≠ .custodian) ∧ (s.submitStatus m 3 (x.toNat % 2 ^ 23) (s.rdF Reg.STOR_CMD_LEN 0 12) = 0) ∧ (s.planeBusy (s.physOf (x.toNat % 2 ^ 23 / 2048) % 2) = false) ∧ ((∀ i < 256, (s.flashAt (s.physOf (x.toNat % 2 ^ 23 / 2048)) i).erased = true))) ∧
    (∃ (i : Nat) (m : Master) (x : Word) (s : State), (s.locked m = false) ∧ (m ≠ .custodian) ∧ (s.submitStatus m 3 (x.toNat % 2 ^ 23) (s.rdF Reg.STOR_CMD_LEN 0 12) = 0) ∧ (s.planeBusy (s.physOf (x.toNat % 2 ^ 23 / 2048) % 2) = false) ∧ (i < 256) ∧ ((s.flashAt (s.physOf (x.toNat % 2 ^ 23 / 2048)) i).erased = false) ∧ ((∀ j < i, (s.flashAt (s.physOf (x.toNat % 2 ^ 23 / 2048)) j).erased = true))) :=
  ⟨⟨.storeErase .debug 0, 1, 0, 0, .debug, 0, 0, wLocked, by decide +kernel⟩,
   ⟨.storeErase .core 3, 1, 3, 0, .core, 3, 0, wSt, by decide +kernel⟩,
   ⟨.storeErase .core 204800, 1, 204800, 0, .core, 204800, 0, wSt, by decide +kernel⟩,
   ⟨.core, 204800, wSt, by decide +kernel⟩,
   ⟨.core, 204808, 16, wSt, by decide +kernel⟩,
   ⟨.core, 204800, wSt, by decide +kernel⟩,
   ⟨4, .core, 204800, UP.setFlash 100 4 { data := 7 }, by decide +kernel⟩⟩

theorem met_store_commands_pass_their_checks_and_start_2 :
    (∃ (m : Master) (x : Word) (s : State), (s.locked m = false) ∧ (m ≠ .custodian) ∧ (s.submitStatus m 3 (x.toNat % 2 ^ 23) (s.rdF Reg.STOR_CMD_LEN 0 12) = 0) ∧ (s.planeBusy (s.physOf (x.toNat % 2 ^ 23 / 2048) % 2) = true)) ∧
    (∃ (m : Master) (x : Word) (s : State), (s.locked m = false) ∧ (m ≠ .custodian) ∧ (s.submitStatus m 4 (x.toNat % 2 ^ 23) (s.rdF Reg.STOR_CMD_LEN 0 12) = 0) ∧ (s.storeBad ((x.toNat % 2 ^ 23) / 2048 * 2048) 2048 = none) ∧ (s.refreshPlan ((x.toNat % 2 ^ 23) / 2048) = none)) ∧
    (∃ (m : Master) (x : Word) (s : State), (s.locked m = false) ∧ (m ≠ .custodian) ∧ (s.submitStatus m 4 (x.toNat % 2 ^ 23) (s.rdF Reg.STOR_CMD_LEN 0 12) = 0) ∧ (s.storeBad ((x.toNat % 2 ^ 23) / 2048 * 2048) 2048 = none) ∧ ((s.refreshPlan ((x.toNat % 2 ^ 23) / 2048)).isSome = true)) ∧
    (∃ (k : Nat) (m : Master) (x : Word) (s : State), (s.locked m = false) ∧ (m ≠ .custodian) ∧ (k = (x.toNat % 2 ^ 23)) ∧ (k < 16) ∧ (s.submitStatus m 5 k (s.rdF Reg.STOR_CMD_LEN 0 12) = 0) ∧ (s.psState k ≠ 1)) ∧
    (∃ (k : Nat) (m : Master) (x : Word) (s : State), (s.locked m = false) ∧ (m ≠ .custodian) ∧ (k = (x.toNat % 2 ^ 23)) ∧ (k < 16) ∧ (s.submitStatus m 5 k (s.rdF Reg.STOR_CMD_LEN 0 12) = 0) ∧ (s.psState k = 1)) ∧
    (∃ (k : Nat) (m : Master) (x : Word) (s : State), (s.locked m = false) ∧ (m ≠ .custodian) ∧ (k = (x.toNat % 2 ^ 23)) ∧ (k < 16) ∧ (s.submitStatus m 6 k (s.rdF Reg.STOR_CMD_LEN 0 12) = 0) ∧ (s.psState k ≠ 2)) ∧
    (∃ (k b n : Nat) (m : Master) (x : Word) (s : State), (s.locked m = false) ∧ (m ≠ .custodian) ∧ (k = (x.toNat % 2 ^ 23)) ∧ (k < 16) ∧ (s.psGeom = some (b, n)) ∧ (s.submitStatus m 6 k (s.rdF Reg.STOR_CMD_LEN 0 12) = 0) ∧ (s.psState k = 2)) :=
  ⟨⟨.core, 204800, wStOp wProg, by decide +kernel⟩,
   ⟨.core, 204800, { UP with store := { UP.store with bad := (List.range 64).map (· + 4000) } }, by decide +kernel⟩,
   ⟨.core, 204800, wSt, by decide +kernel⟩,
   ⟨2, .core, 2, wPs, by decide +kernel⟩,
   ⟨0, .core, 0, wPs.wr Reg.STOR_PS_STATE 1, by decide +kernel⟩,
   ⟨2, .core, 2, wPs, by decide +kernel⟩,
   ⟨0, 1120, 1, .core, 0, wPs.wr Reg.STOR_PS_STATE 2, by decide +kernel⟩⟩

theorem met_long_operations_program_and_erase_by_pulses_1 :
    (∃ (p : Fin 2) (v : Word) (s : State), ((∀ o ∈ s.store.ops, ¬ (o.op = 2 ∧ o.state = .loading ∧ o.sector % 2 = p.val)))) ∧
    (∃ (o : LongOp) (p : Fin 2) (v : Word) (s : State), (s.store.ops = [o]) ∧ (o.op = 2) ∧ (o.state = .loading) ∧ (o.sector % 2 = p.val) ∧ (4 * (o.data.length + 1) < o.len)) ∧
    (∃ (o : LongOp) (w : Word) (p : Fin 2) (v : Word) (s : State), (s.store.ops = [o]) ∧ (o.op = 2) ∧ (o.state = .loading) ∧ (o.sector % 2 = p.val) ∧ (o.len = 8) ∧ (o.data = [w]) ∧ ((s.flashAt (s.physOf o.sector) (o.addr % 2048 / 8)).erased = true)) ∧
    (∃ (o : LongOp) (n : Nat) (w : Word) (p : Fin 2) (v : Word) (s : State), (s.store.ops = [o]) ∧ (o.op = 2) ∧ (o.slot = some n) ∧ (n < 8) ∧ (o.state = .loading) ∧ (o.sector % 2 = p.val) ∧ (o.len = 8) ∧ (o.data = [w]) ∧ ((s.flashAt (s.physOf o.sector) (o.addr % 2048 / 8)).erased = false)) ∧
    (∃ (p : Fin 2) (b : Bool) (s : State), ((∀ o ∈ s.opAt p, o.state ≠ .running))) ∧
    (∃ (o : LongOp) (ph i : Nat) (d : BitVec 64) (w : Nat × BitVec 64) (ws : List (Nat × BitVec 64)) (r : List Stage) (p : Fin 2) (s : State), (s.opAt p = some o) ∧ (o.plane = p.val) ∧ (o.state = .running) ∧ (s.bit Reg.PWR_STATUS 0 = false) ∧ (s.spineS.resetReq = false) ∧ (o.stages = .prog ph ((i, d) :: w :: ws) :: r) ∧ (o.folio + 1 < s.folioPulses) ∧ (i < 256)) ∧
    (∃ (o : LongOp) (n ph i : Nat) (d : BitVec 64) (p : Fin 2) (s : State), (s.opAt p = some o) ∧ (o.plane = p.val) ∧ (o.state = .running) ∧ (o.op = 2) ∧ (o.slot = some n) ∧ (n < 8) ∧ (s.bit Reg.PWR_STATUS 0 = false) ∧ (s.spineS.resetReq = false) ∧ (o.stages = [.prog ph [(i, d)]]) ∧ (i < 256)) ∧
    (∃ (o : LongOp) (n ph : Nat) (p : Fin 2) (s : State), (s.opAt p = some o) ∧ (o.plane = p.val) ∧ (o.state = .running) ∧ (o.op = 1) ∧ (o.slot = some n) ∧ (n < 8) ∧ (s.bit Reg.PWR_STATUS 0 = false) ∧ (s.spineS.resetReq = false) ∧ (o.stages = [.erase ph])) ∧
    (∃ (o : LongOp) (ph i : Nat) (d : BitVec 64) (ws : List (Nat × BitVec 64)) (r : List Stage) (p : Fin 2) (s : State), (s.opAt p = some o) ∧ (o.plane = p.val) ∧ (o.state = .running) ∧ (s.bit Reg.PWR_STATUS 0 = false) ∧ (s.spineS.resetReq = false) ∧ (o.stages = .prog ph ((i, d) :: ws) :: r) ∧ (o.pulses + 1 < 4) ∧ (o.folio + 1 < s.folioPulses)) :=
  ⟨⟨0, 5, wSt, by decide +kernel⟩,
   ⟨wLoad, 0, 5, wStOp wLoad, by decide +kernel⟩,
   ⟨{ wLoad with data := [9] }, 9, 0, 5, wStOp { wLoad with data := [9] }, by decide +kernel⟩,
   ⟨{ wLoad with data := [9] }, 0, 9, 0, 5, (wStOp { wLoad with data := [9] }).setFlash 100 3 { data := 1 }, by decide +kernel⟩,
   ⟨0, true, wStOp wLoad, by decide +kernel⟩,
   ⟨wProg, 100, 3, 5, (4, 6), [], [], 0, (wStOp wProg).wr Reg.STOR_CFG 4, by decide +kernel⟩,
   ⟨{ wProg with stages := [.prog 100 [(3, 5)]] }, 0, 100, 3, 5, 0, wStOp { wProg with stages := [.prog 100 [(3, 5)]] }, by decide +kernel⟩,
   ⟨{ wProg with op := 1, stages := [.erase 100] }, 0, 100, 0, (wStOp { wProg with op := 1, stages := [.erase 100] }).setFlash 100 3 { data := 1 }, by decide +kernel⟩,
   ⟨wProg, 100, 3, 5, [(4, 6)], [], 0, (wStOp wProg).wr Reg.STOR_CFG 4, by decide +kernel⟩⟩

theorem met_long_operations_program_and_erase_by_pulses_2 :
    (∃ (o : LongOp) (ph : Nat) (r : List Stage) (p : Fin 2) (s : State), (s.opAt p = some o) ∧ (o.plane = p.val) ∧ (o.state = .running) ∧ (s.bit Reg.PWR_STATUS 0 = false) ∧ (s.spineS.resetReq = false) ∧ (o.stages = .erase ph :: r) ∧ (o.pulses + 1 < 12) ∧ (o.folio + 1 < s.folioPulses)) ∧
    (∃ (o : LongOp) (n ph i sp : Nat) (d : BitVec 64) (p : Fin 2) (s : State), (s.opAt p = some o) ∧ (o.plane = p.val) ∧ (o.state = .running) ∧ (o.op = 2) ∧ (o.slot = some n) ∧ (n < 8) ∧ (s.bit Reg.PWR_STATUS 0 = false) ∧ (s.spineS.resetReq = false) ∧ (o.stages = [.prog ph [(i, d)]]) ∧ (o.pulses = 3) ∧ ((s.dropOp p).mapRoom o.sector = true) ∧ ((s.dropOp p).pickSpare (ph % 2) = some sp)) ∧
    (∃ (o : LongOp) (n ph i : Nat) (d : BitVec 64) (ws : List (Nat × BitVec 64)) (r : List Stage) (b : Bool) (p : Fin 2) (s : State), (s.opAt p = some o) ∧ (o.plane = p.val) ∧ (o.state = .running) ∧ (o.op ≠ 0) ∧ (o.slot = some n) ∧ (n < 8) ∧ (s.bit Reg.PWR_STATUS 0 = true ∨ s.spineS.resetReq = true) ∧ (o.stages = .prog ph ((i, d) :: ws) :: r)) ∧
    (∃ (o : LongOp) (p : Fin 2) (s : State), (s.opAt p = some o) ∧ (o.plane = p.val) ∧ (o.state = .suspended)) ∧
    (∃ (p : Fin 2) (s : State), ((∀ o ∈ s.opAt p, o.state ≠ .suspended))) ∧
    (∃ (o : LongOp) (n : Nat) (v : Word) (s : State), (n = fld v 0 3) ∧ (s.store.checks = []) ∧ (s.store.ops = [o]) ∧ (o.slot = some n) ∧ (o.state = .loading)) ∧
    (∃ (l n : Nat) (v : Word) (s : State), (n = fld v 0 3) ∧ (s.store.checks = [(n, l)])) ∧
    (∃ (v : Word) (s : State), ((∀ c ∈ s.store.checks, c.1 ≠ fld v 0 3)) ∧ ((∀ o ∈ s.store.ops, ¬ (o.slot = some (fld v 0 3) ∧ o.state = .loading)))) :=
  ⟨⟨{ wProg with op := 1, stages := [.erase 100] }, 100, [], 0, (wStOp { wProg with op := 1, stages := [.erase 100] }).wr Reg.STOR_CFG 4, by decide +kernel⟩,
   ⟨{ wProg with pulses := 3, stages := [.prog 100 [(3, 5)]] }, 0, 100, 3, 4000, 5, 0, wStOp { wProg with pulses := 3, stages := [.prog 100 [(3, 5)]] }, by decide +kernel⟩,
   ⟨wProg, 0, 100, 3, 5, [(4, 6)], [], true, 0, (wStOp wProg).setB Reg.PWR_STATUS 0 true, by decide +kernel⟩,
   ⟨{ wProg with state := .suspended }, 0, wStOp { wProg with state := .suspended }, by decide +kernel⟩,
   ⟨0, wStOp wProg, by decide +kernel⟩,
   ⟨wLoad, 0, 0, wStOp wLoad, by decide +kernel⟩,
   ⟨100, 0, 0, { wStOp wProg with store := { (wStOp wProg).store with checks := [(0, 100)] } }, by decide +kernel⟩,
   ⟨0, wStOp wProg, by decide +kernel⟩⟩

theorem met_lines_are_patrolled_and_pages_committed_1 :
    (∃ (m : Master) (a : Word) (l : List (Nat × Bool)) (s : State), (s.locked m = true)) ∧
    (∃ (m : Master) (a : Word) (l : List (Nat × Bool)) (s : State), (s.locked m = false) ∧ (0x10000000 ≤ a.toNat) ∧ (a.toNat < 0x10800000) ∧ (s.sectorCount * 2048 ≤ a.toNat - 0x10000000)) ∧
    (∃ (m : Master) (a : Word) (l : List (Nat × Bool)) (s : State), (s.locked m = false) ∧ (a.toNat < 0x10000000 ∨ 0x10800000 ≤ a.toNat)) ∧
    (∃ (m : Master) (a : Word) (off : Nat) (s : State), (s.locked m = false) ∧ (off = a.toNat - 0x10000000) ∧ (0x10000000 ≤ a.toNat) ∧ (a.toNat < 0x10800000) ∧ (off < s.sectorCount * 2048) ∧ (s.spineState .store = 3) ∧ (s.spineS.waiting.any (fun r => r.master == m) = false) ∧ (s.spineS.outst.any (fun r => r.master == m) = false) ∧ (s.spineFull .store m = false) ∧ (s.planeBusy (s.physOf (off / 2048) % 2) = false) ∧ (s.store.reads.any (fun r => r.1 == m) = false) ∧ (s.store.ops = []) ∧ (s.inSpares (off / 2048) = false) ∧ (32 ≤ off / 2048 ∨ s.storeTrusted m = true) ∧ ((∀ k < 4, (s.storeWord (off / 32 * 32 + 8 * k)).ecc = .good))) ∧
    (∃ (o : LongOp) (m : Master) (a : Word) (off : Nat) (s : State), (s.locked m = false) ∧ (off = a.toNat - 0x10000000) ∧ (0x10000000 ≤ a.toNat) ∧ (a.toNat < 0x10800000) ∧ (off < s.sectorCount * 2048) ∧ (s.spineState .store = 3) ∧ (s.spineS.waiting.any (fun r => r.master == m) = false) ∧ (s.spineS.outst.any (fun r => r.master == m) = false) ∧ (s.spineFull .store m = false) ∧ (s.opAt (s.physOf (off / 2048) % 2) = some o) ∧ (o.plane = s.physOf (off / 2048) % 2) ∧ (o.state = .suspended) ∧ (o.served < 64) ∧ (s.store.reads.any (fun r => r.1 == m) = false) ∧ (s.inSpares (off / 2048) = false) ∧ (32 ≤ off / 2048 ∨ s.storeTrusted m = true) ∧ ((∀ k < 4, (s.storeWord (off / 32 * 32 + 8 * k)).ecc = .good))) ∧
    (∃ (j : Nat) (m : Master) (a : Word) (off : Nat) (s : State), (s.locked m = false) ∧ (off = a.toNat - 0x10000000) ∧ (0x10000000 ≤ a.toNat) ∧ (a.toNat < 0x10800000) ∧ (off < s.sectorCount * 2048) ∧ (s.spineState .store = 3) ∧ (s.spineS.waiting.any (fun r => r.master == m) = false) ∧ (s.spineS.outst.any (fun r => r.master == m) = false) ∧ (s.spineFull .store m = false) ∧ (s.planeBusy (s.physOf (off / 2048) % 2) = false) ∧ (s.store.reads.any (fun r => r.1 == m) = false) ∧ (s.store.ops = []) ∧ (s.inSpares (off / 2048) = false) ∧ (32 ≤ off / 2048 ∨ s.storeTrusted m = true) ∧ (j < 4) ∧ ((s.storeWord (off / 32 * 32 + 8 * j)).ecc = .uncorr) ∧ ((∀ k < j, (s.storeWord (off / 32 * 32 + 8 * k)).ecc ≠ .uncorr))) ∧
    (∃ (m : Master) (a : Word) (off : Nat) (s : State), (s.locked m = false) ∧ (off = a.toNat - 0x10000000) ∧ (0x10000000 ≤ a.toNat) ∧ (a.toNat < 0x10800000) ∧ (off < s.sectorCount * 2048) ∧ (s.spineState .store = 3) ∧ (s.spineS.waiting.any (fun r => r.master == m) = false) ∧ (s.spineS.outst.any (fun r => r.master == m) = false) ∧ (s.spineFull .store m = false) ∧ (s.planeBusy (s.physOf (off / 2048) % 2) = false) ∧ (s.store.reads.any (fun r => r.1 == m) = false) ∧ (s.store.ops = []) ∧ (s.inSpares (off / 2048) = true ∨ (off / 2048 < 32 ∧ s.storeTrusted m = false))) :=
  ⟨⟨.debug, 0, [], wLocked, by decide +kernel⟩,
   ⟨.core, 0x10400000, [], { UP with variant := .keeper }, by decide +kernel⟩,
   ⟨.core, 5, [], UP, by decide +kernel⟩,
   ⟨.core, 0x10032008, 204808, UP.setFlash 100 1 { data := 77 }, by decide +kernel⟩,
   ⟨{ wProg with state := .suspended }, .core, 0x10032008, 204808, wStOp { wProg with state := .suspended }, by decide +kernel⟩,
   ⟨1, .core, 0x10032008, 204808, UP.setFlash 100 1 { data := 77, ecc := .uncorr }, by decide +kernel⟩,
   ⟨.core, 0x10000008, 8, wApp, by decide +kernel⟩⟩

theorem met_lines_are_patrolled_and_pages_committed_2 :
    (∃ (m : Master) (a : Word) (off : Nat) (s : State), (s.locked m = false) ∧ (off = a.toNat - 0x10000000) ∧ (0x10000000 ≤ a.toNat) ∧ (a.toNat < 0x10800000) ∧ (off < s.sectorCount * 2048) ∧ (s.spineState .store = 3) ∧ (s.spineS.waiting.any (fun r => r.master == m) = false) ∧ (s.spineS.outst.any (fun r => r.master == m) = false) ∧ (s.spineFull .store m = false) ∧ (s.planeBusy (s.physOf (off / 2048) % 2) = true ∨ s.store.reads.any (fun r => r.1 == m) = true)) ∧
    (∃ (s : State), (s.store.patrol = none) ∧ (s.reached s.store.patrolAt = true)) ∧
    (∃ (p : PatrolRead) (s : State), (s.store.patrol = some p) ∧ (p.running = false) ∧ (s.patrolFree p.sector = true)) ∧
    (∃ (s : State), ((s.store.patrol = none ∧ s.reached s.store.patrolAt = false) ∨ (∃ p ∈ s.store.patrol, p.running = true ∨ s.patrolFree p.sector = false))) ∧
    (∃ (p : Nat) (s : State), (s.store.patrol = some ⟨p, true⟩) ∧ (p < s.sectorCount) ∧ ((∀ i < 256, (s.flashAt p i).seen.ecc = .good)) ∧ (s.bit Reg.PWR_STATUS 0 = true)) ∧
    (∃ (p : Nat) (s : State), (s.store.patrol = some ⟨p, true⟩) ∧ (p < s.sectorCount) ∧ ((∀ i < 256, (s.flashAt p i).seen.ecc = .good)) ∧ (s.bit Reg.PWR_STATUS 0 = false) ∧ (s.store.logNext % 256 ≠ 255)) ∧
    (∃ (l : List (Nat × Bool)) (s : State), ((∀ p ∈ s.store.patrol, p.running = false))) :=
  ⟨⟨.core, 0x10032008, 204808, wStOp wProg, by decide +kernel⟩,
   ⟨wApp, by decide +kernel⟩,
   ⟨⟨9, false⟩, { wApp with store := { wApp.store with patrol := some ⟨9, false⟩ } }, by decide +kernel⟩,
   ⟨{ wApp with store := { wApp.store with patrol := some ⟨9, true⟩ } }, by decide +kernel⟩,
   ⟨4095, { wApp.setB Reg.PWR_STATUS 0 true with store := { wApp.store with patrol := some ⟨4095, true⟩ } }, by decide +kernel⟩,
   ⟨9, { wApp with store := { wApp.store with patrol := some ⟨9, true⟩ } }, by decide +kernel⟩,
   ⟨[], UP, by decide +kernel⟩⟩

theorem met_lines_are_patrolled_and_pages_committed_3 :
    (∃ (l : Nat) (r : List Nat) (s : State), (s.store.refresh = l :: r) ∧ (s.bit Reg.PWR_STATUS 0 = false) ∧ (s.patrolFree (s.physOf l) = true) ∧ ((s.refreshPlan l).isSome = true)) ∧
    (∃ (s : State), (s.store.refresh = [] ∨ s.bit Reg.PWR_STATUS 0 = true)) ∧
    (∃ (o : LongOp) (n b ln : Nat) (p : Fin 2) (s : State), (s.opAt p = some o) ∧ (o.plane = p.val) ∧ (o.state = .reading) ∧ (o.slot = some n) ∧ (n < 8) ∧ (s.psGeom = some (b, ln)) ∧ (field (s.storeBytes (o.sector * 2048) 64) 0x18 4 = 0 ∨ ln * 2048 - 64 < field (s.storeBytes (o.sector * 2048) 64) 0x18 4)) ∧
    (∃ (o : LongOp) (b ln len : Nat) (p : Fin 2) (s : State), (s.opAt p = some o) ∧ (o.plane = p.val) ∧ (o.state = .reading) ∧ (s.psGeom = some (b, ln)) ∧ (len = field (s.storeBytes (o.sector * 2048) 64) 0x18 4) ∧ (0 < len) ∧ (len ≤ ln * 2048 - 64) ∧ (s.storeBad (o.sector * 2048) (64 + len) = none) ∧ (crc32 (s.storeBytes (o.sector * 2048 + 64) len) = field (s.storeBytes (o.sector * 2048) 64) 0x20 4)) ∧
    (∃ (p : Fin 2) (s : State), ((∀ o ∈ s.opAt p, o.state ≠ .reading))) ∧
    (∃ (v : Word) (s : State), (1 ≤ fld v 16 5) ∧ (fld v 16 5 ≤ 16) ∧ (fld v 0 12 < 1120 ∨ s.spareBase < fld v 0 12 + 16 * fld v 16 5)) ∧
    (∃ (v : Word) (s : State), (¬ (1 ≤ fld v 16 5 ∧ fld v 16 5 ≤ 16) ∨ (1120 ≤ fld v 0 12 ∧ fld v 0 12 + 16 * fld v 16 5 ≤ s.spareBase))) :=
  ⟨⟨100, [], { wApp with store := { wApp.store with refresh := [100] } }, by decide +kernel⟩,
   ⟨UP, by decide +kernel⟩,
   ⟨{ wProg with op := 5, state := .reading, sector := 1120, stages := [] }, 0, 1120, 1, 0, { wPs with store := { wPs.store with ops := [{ wProg with op := 5, state := .reading, sector := 1120, stages := [] }] } }, by decide +kernel⟩,
   ⟨{ wProg with op := 5, state := .reading, sector := 1120, stages := [] }, 1120, 1, 1, 0, { ((wPs.setFlash 1120 3 { data := 1 }).setFlash 1120 4 { data := BitVec.ofNat 64 (crc32 [0xFF]) }) with store := { ((wPs.setFlash 1120 3 { data := 1 }).setFlash 1120 4 { data := BitVec.ofNat 64 (crc32 [0xFF]) }).store with ops := [{ wProg with op := 5, state := .reading, sector := 1120, stages := [] }] } }, by decide +kernel⟩,
   ⟨0, UP, by decide +kernel⟩,
   ⟨0x10010, UP, by decide +kernel⟩,
   ⟨0x10460, wPs, by decide +kernel⟩⟩

theorem met_the_mailbox_takes_requests_and_completes_them :
    (∃ (k : Nat) (m : Master) (v : Word) (s : State), (k = fld v 0 2) ∧ ((s.mb k).phase ≠ .free)) ∧
    (∃ (k : Nat) (m : Master) (v : Word) (s : State), (k = fld v 0 2) ∧ ((s.mb k).phase = .free) ∧ (s.acceptFault k = none)) ∧
    (∃ (k r : Nat) (m : Master) (v : Word) (s : State), (k = fld v 0 2) ∧ ((s.mb k).phase = .free) ∧ (s.acceptFault k = some r)) ∧
    (∃ (k : Fin 4) (s : State), ((s.mb k).phase = .running) ∧ ((s.mb k).out.length ≤ 896)) ∧
    (∃ (k : Fin 4) (s : State), ((s.mb k).phase = .refusing)) ∧
    (∃ (v : Word) (s : State), ((List.range 4).all (fun k => !(bitOf v k && (s.mb k).phase == .done)) = true)) ∧
    (∃ (v : Word) (s : State), ((List.range 4).any (fun k => bitOf v k && (s.mb k).phase == .done) = true)) ∧
    (∃ (s : State), (s.cust.trngBad < 2)) ∧
    (∃ (s : State), (2 ≤ s.cust.trngBad)) :=
  ⟨⟨0, .core, 0, wMb 513 0, by decide +kernel⟩,
   ⟨0, .core, 0, wRest 513 16, by decide +kernel⟩,
   ⟨0, 2, .core, 0, wRest 513 15, by decide +kernel⟩,
   ⟨0, (wMb 1 0).setMb 0 { phase := .running, out := [1, 2, 3], param := some (List.replicate 16 5) }, by decide +kernel⟩,
   ⟨0, UP.setMb 0 { phase := .refusing }, by decide +kernel⟩,
   ⟨0xF, UP, by decide +kernel⟩,
   ⟨1, (UP.setMb 0 { phase := .done }).setB Reg.SECMB_DONE 0 true, by decide +kernel⟩,
   ⟨wMb 48 262144, by decide +kernel⟩,
   ⟨{ UP with cust := { UP.cust with trngBad := 2 } }, by decide +kernel⟩⟩

theorem met_services_compute_their_outcomes_1 :
    (∃ (n : Nat) (c : Instr) (k : Fin 4) (s : State), ((c, n) ∈ [(Instr.aesEcb k, 1), (.aesCbc k, 2), (.aesCtr k, 3), (.aesCcm k, 4), (.aesCmac k, 5), (.sha256 k, 16), (.hmac k, 17), (.ecdsaSign k, 32), (.ecdsaVerify k, 33), (.ecdh k, 34), (.ecKeygen k, 35), (.keyDerive k, 36), (.random k, 48), (.keyImport k, 64), (.keyExport k, 65), (.keyPurge k, 66), (.keyInfo k, 67), (.keyRestrict k, 68), (.idChallenge k, 80), (.attest k, 81), (.lifecycle k, 96), (.unlockNonce k, 97)]) ∧ (¬ (s.cust.order.head? = some k.val ∧ (s.mb k).phase = .waiting ∧ s.mbSvc k = n))) ∧
    (∃ (n r : Nat) (c : Instr) (k : Fin 4) (s : State), ((c, n) ∈ [(Instr.aesEcb k, 1), (.aesCbc k, 2), (.aesCtr k, 3), (.aesCcm k, 4), (.aesCmac k, 5), (.sha256 k, 16), (.hmac k, 17), (.ecdsaSign k, 32), (.ecdsaVerify k, 33), (.ecdh k, 34), (.ecKeygen k, 35), (.keyDerive k, 36), (.random k, 48), (.keyImport k, 64), (.keyExport k, 65), (.keyPurge k, 66), (.keyInfo k, 67), (.keyRestrict k, 68), (.idChallenge k, 80), (.attest k, 81), (.lifecycle k, 96), (.unlockNonce k, 97)]) ∧ (s.keyFault k = some r) ∧ (s.cust.order.head? = some k.val) ∧ ((s.mb k).phase = .waiting) ∧ (s.mbSvc k = n)) ∧
    (∃ (k : Fin 4) (s : State), (s.cust.order.head? = some k.val) ∧ ((s.mb k).phase = .waiting) ∧ (s.mbSvc k = 1) ∧ (s.keyFault k = none)) ∧
    (∃ (k : Fin 4) (s : State), (s.cust.order.head? = some k.val) ∧ ((s.mb k).phase = .waiting) ∧ (s.mbSvc k = 2) ∧ (s.keyFault k = none) ∧ (s.mbMode k = 0)) ∧
    (∃ (k : Fin 4) (s : State), (s.cust.order.head? = some k.val) ∧ ((s.mb k).phase = .waiting) ∧ (s.mbSvc k = 2) ∧ (s.keyFault k = none) ∧ (s.mbMode k ≠ 0)) ∧
    (∃ (k : Fin 4) (s : State), (s.cust.order.head? = some k.val) ∧ ((s.mb k).phase = .waiting) ∧ (s.mbSvc k = 3) ∧ (s.keyFault k = none)) ∧
    (∃ (a : Nat) (k : Fin 4) (s : State), (a = s.rdF (Reg.SECMB_S_PARAM4 k) 0 10) ∧ (s.cust.order.head? = some k.val) ∧ ((s.mb k).phase = .waiting) ∧ (s.mbSvc k = 4) ∧ (s.keyFault k = none) ∧ (s.mbMode k = 0)) ∧
    (∃ (a : Nat) (k : Fin 4) (s : State), (a = s.rdF (Reg.SECMB_S_PARAM4 k) 0 10) ∧ (s.cust.order.head? = some k.val) ∧ ((s.mb k).phase = .waiting) ∧ (s.mbSvc k = 4) ∧ (s.keyFault k = none) ∧ (s.mbMode k ≠ 0)) ∧
    (∃ (k : Fin 4) (s : State), (s.cust.order.head? = some k.val) ∧ ((s.mb k).phase = .waiting) ∧ (s.mbSvc k = 5) ∧ (s.keyFault k = none)) ∧
    (∃ (k : Fin 4) (s : State), (s.cust.order.head? = some k.val) ∧ ((s.mb k).phase = .waiting) ∧ (s.mbSvc k = 16) ∧ (s.keyFault k = none) ∧ (s.mbMode k = 3)) :=
  ⟨⟨1, .aesEcb 0, 0, wMb 514 0, by decide +kernel⟩,
   ⟨1, 1, .aesEcb 0, 0, wMb 2305 0, by decide +kernel⟩,
   ⟨0, wMb 513 16, by decide +kernel⟩,
   ⟨0, wMb 514 16, by decide +kernel⟩,
   ⟨0, wMb 16777730 16, by decide +kernel⟩,
   ⟨0, wMb 515 16, by decide +kernel⟩,
   ⟨0, 0, wMb 516 4, by decide +kernel⟩,
   ⟨0, 0, wMb 16777732 12, by decide +kernel⟩,
   ⟨0, wMb 517 4, by decide +kernel⟩,
   ⟨0, wMb 50331664 3, by decide +kernel⟩⟩

theorem met_services_compute_their_outcomes_2 :
    (∃ (k : Fin 4) (s : State), (s.cust.order.head? = some k.val) ∧ ((s.mb k).phase = .waiting) ∧ (s.mbSvc k = 16) ∧ (s.keyFault k = none) ∧ (s.mbMode k = 0)) ∧
    (∃ (x : ShaCtx) (k : Fin 4) (s : State), (s.cust.order.head? = some k.val) ∧ ((s.mb k).phase = .waiting) ∧ (s.mbSvc k = 16) ∧ (s.keyFault k = none) ∧ (s.mbMode k = 1) ∧ ((s.mb k).ctx = some x)) ∧
    (∃ (x : ShaCtx) (k : Fin 4) (s : State), (s.cust.order.head? = some k.val) ∧ ((s.mb k).phase = .waiting) ∧ (s.mbSvc k = 16) ∧ (s.keyFault k = none) ∧ (s.mbMode k = 2) ∧ ((s.mb k).ctx = some x) ∧ (x.hmac = none)) ∧
    (∃ (k : Fin 4) (s : State), (s.cust.order.head? = some k.val) ∧ ((s.mb k).phase = .waiting) ∧ (s.mbSvc k = 17) ∧ (s.keyFault k = none) ∧ (s.mbMode k = 3)) ∧
    (∃ (k : Fin 4) (s : State), (s.cust.order.head? = some k.val) ∧ ((s.mb k).phase = .waiting) ∧ (s.mbSvc k = 17) ∧ (s.keyFault k = none) ∧ (s.mbMode k = 0)) ∧
    (∃ (k : Fin 4) (s : State) (u : State), (s.cust.order.head? = some k.val) ∧ ((s.mb k).phase = .waiting) ∧ (s.mbSvc k = 32) ∧ (s.keyFault k = none) ∧ (s.cust.trngWait = false) ∧ (s.cust.trngDead = false) ∧ (u = { s with freeCtr := s.freeCtr + 32, cust := { s.cust with trngBad := 0 } })) ∧
    (∃ (k : Fin 4) (s : State), (s.cust.order.head? = some k.val) ∧ ((s.mb k).phase = .waiting) ∧ (s.mbSvc k = 33) ∧ (s.keyFault k = none)) ∧
    (∃ (k : Fin 4) (s : State), (s.cust.order.head? = some k.val) ∧ ((s.mb k).phase = .waiting) ∧ (s.mbSvc k = 67) ∧ (s.keyFault k = none)) ∧
    (∃ (k : Fin 4) (s : State) (u : State), (s.cust.order.head? = some k.val) ∧ ((s.mb k).phase = .waiting) ∧ (s.mbSvc k = 48) ∧ (s.keyFault k = none) ∧ (s.cust.trngWait = false) ∧ (s.cust.trngDead = false) ∧ (u = { s with freeCtr := s.freeCtr + (s.mbOut k), cust := { s.cust with trngBad := 0 } })) ∧
    (∃ (n : Nat) (c : Instr) (k : Fin 4) (s : State), ((c, n) ∈ [(Instr.ecdsaSign k, 0x20), (.random k, 0x30), (.unlockNonce k, 0x61), (.idChallenge k, 0x50)]) ∧ (s.cust.order.head? = some k.val) ∧ ((s.mb k).phase = .waiting) ∧ (s.mbSvc k = n) ∧ (s.keyFault k = none) ∧ (s.cust.trngWait = true)) :=
  ⟨⟨0, wMb 16 64, by decide +kernel⟩,
   ⟨{ h := [1, 2, 3, 4, 5, 6, 7, 8], len := 64, hmac := none }, 0, (wMb 16777232 64).setMb 0 { phase := .waiting, ctx := some { h := [1, 2, 3, 4, 5, 6, 7, 8], len := 64, hmac := none } }, by decide +kernel⟩,
   ⟨{ h := [1, 2, 3, 4, 5, 6, 7, 8], len := 64, hmac := none }, 0, (wMb 33554448 4).setMb 0 { phase := .waiting, ctx := some { h := [1, 2, 3, 4, 5, 6, 7, 8], len := 64, hmac := none } }, by decide +kernel⟩,
   ⟨0, wMb 50332689 3, by decide +kernel⟩,
   ⟨0, wMb 1041 64, by decide +kernel⟩,
   ⟨0, wMb 1312 32, { wMb 1312 32 with freeCtr := (wMb 1312 32).freeCtr + 32, cust := { (wMb 1312 32).cust with trngBad := 0 } }, by decide +kernel⟩,
   ⟨0, wMb 1569 96, by decide +kernel⟩,
   ⟨0, wMb 1347 0, by decide +kernel⟩,
   ⟨0, wMb 48 524288, { wMb 48 524288 with freeCtr := (wMb 48 524288).freeCtr + 8, cust := { (wMb 48 524288).cust with trngBad := 0 } }, by decide +kernel⟩,
   ⟨0x30, .random 0, 0, { wMb 48 524288 with cust := { (wMb 48 524288).cust with trngWait := true } }, by decide +kernel⟩⟩

theorem met_key_and_lifecycle_services_change_the_enclave_1 :
    (∃ (n : Nat) (c : Instr) (k : Fin 4) (s : State), ((c, n) ∈ [(Instr.ecdh k, 0x22), (.keyDerive k, 0x24), (.keyImport k, 0x40)]) ∧ (s.cust.order.head? = some k.val) ∧ ((s.mb k).phase = .waiting) ∧ (s.mbSvc k = n) ∧ (s.keyFault k = none) ∧ (s.keyType (s.mbKey2 k) ≠ 0)) ∧
    (∃ (z : List Byte) (k : Fin 4) (s : State), (s.cust.order.head? = some k.val) ∧ ((s.mb k).phase = .waiting) ∧ (s.mbSvc k = 34) ∧ (s.keyFault k = none) ∧ (s.keyType (s.mbKey2 k) = 0) ∧ (sharedSecret (leNat (s.keyBytes (s.mbKey k))) (pairOf (s.mbData k)) = some z)) ∧
    (∃ (k : Fin 4) (s : State), (s.cust.order.head? = some k.val) ∧ ((s.mb k).phase = .waiting) ∧ (s.mbSvc k = 34) ∧ (s.keyFault k = none) ∧ (s.keyType (s.mbKey2 k) = 0) ∧ (onCurve (pairOf (s.mbData k)) = false)) ∧
    (∃ (k : Fin 4) (s : State), (s.cust.order.head? = some k.val) ∧ ((s.mb k).phase = .waiting) ∧ (s.mbSvc k = 35) ∧ (s.keyFault k = none) ∧ (s.keyType (s.mbKey k) ≠ 0)) ∧
    (∃ (k : Fin 4) (s : State) (u : State), (s.cust.order.head? = some k.val) ∧ ((s.mb k).phase = .waiting) ∧ (s.mbSvc k = 35) ∧ (s.keyFault k = none) ∧ (s.keyType (s.mbKey k) = 0) ∧ (2 ≤ s.mbKey k) ∧ (s.cust.trngWait = false) ∧ (s.cust.trngDead = false) ∧ (u = { s with freeCtr := s.freeCtr + 32, cust := { s.cust with trngBad := 0 } })) ∧
    (∃ (k : Fin 4) (s : State), (s.cust.order.head? = some k.val) ∧ ((s.mb k).phase = .waiting) ∧ (s.mbSvc k = 36) ∧ (s.keyFault k = none) ∧ (s.keyType (s.mbKey2 k) = 0)) ∧
    (∃ (p : Word) (l : Nat) (k : Fin 4) (s : State), (p = word (field (s.mbData k) 4 4)) ∧ (l = keyLen (fld p 0 3)) ∧ (s.cust.order.head? = some k.val) ∧ ((s.mb k).phase = .waiting) ∧ (s.mbSvc k = 64) ∧ (s.keyFault k = none) ∧ (s.keyType (s.mbKey2 k) = 0) ∧ (field (s.mbData k) 0 4 ≠ 0x4B56434F ∨ policyOk [1, 2, 3, 4, 5] p = false ∨ (s.mbData k).length ≠ 32 + l)) ∧
    (∃ (p : Word) (l : Nat) (k : Fin 4) (s : State), (p = word (field (s.mbData k) 4 4)) ∧ (l = keyLen (fld p 0 3)) ∧ (s.cust.order.head? = some k.val) ∧ ((s.mb k).phase = .waiting) ∧ (s.mbSvc k = 64) ∧ (s.keyFault k = none) ∧ (s.keyType (s.mbKey2 k) = 0) ∧ (field (s.mbData k) 0 4 = 0x4B56434F) ∧ (policyOk [1, 2, 3, 4, 5] p = true) ∧ ((s.mbData k).length = 32 + l) ∧ (field (s.mbData k) 21 3 = 0)) ∧
    (∃ (x : KeySlot) (k : Fin 4) (s : State) (u : State), (s.cust.order.head? = some k.val) ∧ ((s.mb k).phase = .waiting) ∧ (s.mbSvc k = 65) ∧ (s.keyFault k = none) ∧ (mapGet s.cust.keys (s.mbKey2 k) = some x) ∧ (s.cust.trngWait = false) ∧ (s.cust.trngDead = false) ∧ (u = { s with freeCtr := s.freeCtr + 13, cust := { s.cust with trngBad := 0 } })) ∧
    (∃ (k : Fin 4) (s : State), (s.cust.order.head? = some k.val) ∧ ((s.mb k).phase = .waiting) ∧ (s.mbSvc k = 66) ∧ (s.keyFault k = none)) :=
  ⟨⟨0x22, .ecdh 0, 0, wMb 132386 64, by decide +kernel⟩,
   ⟨sha256 (leBytes 32 p256g.1), 0, (wMb 656674 64).putBytes (mbBuf 0) (pairBytes p256g), by decide +kernel⟩,
   ⟨0, wMb 656674 64, by decide +kernel⟩,
   ⟨0, wMb 1315 0, by decide +kernel⟩,
   ⟨0, wMb 2595 0, { wMb 2595 0 with freeCtr := (wMb 2595 0).freeCtr + 32, cust := { (wMb 2595 0).cust with trngBad := 0 } }, by decide +kernel⟩,
   ⟨0, wMb 656164 4, by decide +kernel⟩,
   ⟨0, 0, 0, wMb 656192 32, by decide +kernel⟩,
   ⟨1, 16, 0, (wMb 656192 48).putBytes (mbBuf 0) [0x4F, 0x43, 0x56, 0x4B, 1], by decide +kernel⟩,
   ⟨{ policy := 0x1004102, key := List.replicate 32 7 }, 0, wMb 459585 0, { wMb 459585 0 with freeCtr := (wMb 459585 0).freeCtr + 13, cust := { (wMb 459585 0).cust with trngBad := 0 } }, by decide +kernel⟩,
   ⟨0, wMb 1346 0, by decide +kernel⟩⟩

theorem met_key_and_lifecycle_services_change_the_enclave_2 :
    (∃ (x : KeySlot) (k : Fin 4) (s : State), (s.cust.order.head? = some k.val) ∧ ((s.mb k).phase = .waiting) ∧ (s.mbSvc k = 68) ∧ (s.keyFault k = none) ∧ (mapGet s.cust.keys (s.mbKey k) = some x)) ∧
    (∃ (k : Fin 4) (s : State) (u : State), (s.cust.order.head? = some k.val) ∧ ((s.mb k).phase = .waiting) ∧ (s.mbSvc k = 80) ∧ (s.keyFault k = none) ∧ (s.cust.trngWait = false) ∧ (s.cust.trngDead = false) ∧ (u = { s with freeCtr := s.freeCtr + 32, cust := { s.cust with trngBad := 0 } })) ∧
    (∃ (k : Fin 4) (s : State) (u : State), (s.cust.order.head? = some k.val) ∧ ((s.mb k).phase = .waiting) ∧ (s.mbSvc k = 81) ∧ (s.keyFault k = none) ∧ (s.mbMode k = 0) ∧ (s.cust.trngWait = false) ∧ (s.cust.trngDead = false) ∧ (u = { s with freeCtr := s.freeCtr + 32, cust := { s.cust with trngBad := 0 } })) ∧
    (∃ (k : Fin 4) (s : State), (s.cust.order.head? = some k.val) ∧ ((s.mb k).phase = .waiting) ∧ (s.mbSvc k = 81) ∧ (s.keyFault k = none) ∧ (s.mbMode k ≠ 0) ∧ (ecdsaVerify (pairOf (s.keyBytes (s.mbKey k))) (sha256 ([0x4F, 0x43, 0x56, 0x41] ++ (s.mbData k).take 16 ++ ((s.mbData k).drop 16).take 64)) (pairOf ((s.mbData k).drop 80)) = false)) ∧
    (∃ (k : Fin 4) (s : State) (u : State), (s.cust.order.head? = some k.val) ∧ ((s.mb k).phase = .waiting) ∧ (s.mbSvc k = 97) ∧ (s.keyFault k = none) ∧ (s.cust.trngWait = false) ∧ (s.cust.trngDead = false) ∧ (u = { s with freeCtr := s.freeCtr + 32, cust := { s.cust with trngBad := 0 } })) ∧
    (∃ (k : Fin 4) (s : State), (s.cust.order.head? ≠ some k.val ∨ s.mbSvc k ≠ 0x62)) ∧
    (∃ (k : Fin 4) (s : State), (s.cust.order.head? = some k.val) ∧ ((s.mb k).phase = .waiting) ∧ (s.mbSvc k = 98) ∧ (s.keyFault k = none)) ∧
    (∃ (k : Fin 4) (s : State), (s.cust.order.head? = some k.val) ∧ ((s.mb k).phase = .waiting) ∧ (s.mbSvc k = 96) ∧ (s.keyFault k = none) ∧ (s.cust.life ≠ (if s.mbMode k = 1 then 0 else 1))) ∧
    (∃ (k : Fin 4) (s : State), (s.cust.order.head? = some k.val) ∧ ((s.mb k).phase = .waiting) ∧ (s.mbSvc k = 96) ∧ (s.keyFault k = none) ∧ (s.mbMode k = 1) ∧ (s.cust.life = 0)) ∧
    (∃ (k : Fin 4) (s : State), (s.cust.order.head? = some k.val) ∧ ((s.mb k).phase = .waiting) ∧ (s.mbSvc k = 96) ∧ (s.keyFault k = none) ∧ (s.mbMode k ≠ 1) ∧ (s.cust.life = 1)) :=
  ⟨⟨{ policy := 0x1000701, key := List.replicate 16 2 }, 0, wMb 580 0, by decide +kernel⟩,
   ⟨0, wMb 80 0, { wMb 80 0 with freeCtr := (wMb 80 0).freeCtr + 32, cust := { (wMb 80 0).cust with trngBad := 0 } }, by decide +kernel⟩,
   ⟨0, wMb 81 16, { wMb 81 16 with freeCtr := (wMb 81 16).freeCtr + 32, cust := { (wMb 81 16).cust with trngBad := 0 } }, by decide +kernel⟩,
   ⟨0, wMb 16778833 144, by decide +kernel⟩,
   ⟨0, wMb 97 0, { wMb 97 0 with freeCtr := (wMb 97 0).freeCtr + 32, cust := { (wMb 97 0).cust with trngBad := 0 } }, by decide +kernel⟩,
   ⟨0, UP, by decide +kernel⟩,
   ⟨0, wMb 1634 64, by decide +kernel⟩,
   ⟨0, wMb 33556064 64, by decide +kernel⟩,
   ⟨0, wMb 16777312 0, by decide +kernel⟩,
   ⟨0, { wMb 33556064 64 with cust := { (wMb 33556064 64).cust with life := 1 } }, by decide +kernel⟩⟩

theorem met_tamper_trips_latch_count_and_react :
    (∃ (i : Fin 8) (s : State), (i.val = 7 ∨ s.isHeld = true ∨ (s.pwr.mode = .hibernate ∧ 2 ≤ i.val))) ∧
    (∃ (i : Fin 8) (s : State), (i.val ≠ 7) ∧ (s.isHeld = false) ∧ (s.pwr.mode ≠ .hibernate) ∧ (s.tampClass i < 2)) ∧
    (∃ (i : Fin 8) (s : State), (i.val ≠ 7) ∧ (s.isHeld = false) ∧ (s.pwr.mode ≠ .hibernate) ∧ (2 ≤ s.tampClass i)) ∧
    (∃ (temp : Int) (s : State), (s.asleep = true ∨ s.isHeld = true ∨ (-180 ≤ temp ∧ temp ≤ 440))) ∧
    (∃ (temp : Int) (s : State), (s.asleep = false) ∧ (s.isHeld = false) ∧ (temp < -180 ∨ 440 < temp)) ∧
    (∃ (s : State), (s.pwr.mode = .hibernate ∨ s.isHeld = true)) ∧
    (∃ (s : State), (s.pwr.mode ≠ .hibernate) ∧ (s.isHeld = false)) :=
  ⟨⟨7, UP, by decide +kernel⟩,
   ⟨3, { wMb 0 0 with pwr := wApp.pwr }.wr Reg.SECMB_TAMP_CLASS 0x40, by decide +kernel⟩,
   ⟨3, (wMb 0 0).wr Reg.SECMB_TAMP_CLASS 0x80, by decide +kernel⟩,
   ⟨440, wApp, by decide +kernel⟩,
   ⟨441, wApp, by decide +kernel⟩,
   ⟨{ UP with pwr := { mode := .hibernate } }, by decide +kernel⟩,
   ⟨wApp, by decide +kernel⟩⟩

theorem met_release_channels_start_and_drop_as_commanded_1 :
    (∃ (m : Master) (ch : Fin 2) (s : State), (s.locked m = true)) ∧
    (∃ (src : Option Master) (ch : Fin 2) (s : State), (src.any s.locked = false) ∧ (s.present 24 = true) ∧ (s.droppedNow src ch = true)) ∧
    (∃ (m : Master) (ch : Fin 2) (v : Word) (s : State), (s.locked m = false) ∧ (s.present 24 = false)) ∧
    (∃ (m : Master) (ch : Fin 2) (s : State), (s.locked m = false) ∧ (s.present 24 = true) ∧ (s.droppedNow (some m) ch = false) ∧ (s.enabled 5 = false ∨ s.relay ch = 0)) ∧
    (∃ (ch : Fin 2) (s : State), (s.present 24 = true) ∧ (s.droppedNow none ch = false) ∧ (s.enabled 5 = false ∨ s.relay ch = 0)) ∧
    (∃ (m : Master) (ch : Fin 2) (s : State), (s.locked m = false) ∧ (s.present 24 = true) ∧ (s.droppedNow (some m) ch = false) ∧ (s.enabled 5 = true) ∧ (s.relay ch ≠ 0) ∧ ((s.planCount ≤ (s.rdF (Reg.REL_CH_CFG ch) 0 8) ∨ s.chanGen2 (s.rdF (Reg.REL_CH_CFG ch) 0 8) = false ∨ s.chan24 (s.rdF (Reg.REL_CH_CFG ch) 0 8) = false) ∨ (s.relDesk = true ∧ s.relGpio ch = false ∧ s.rel.lockSet.contains ch.val = false))) ∧
    (∃ (ch : Fin 2) (s : State), (s.present 24 = true) ∧ (s.droppedNow none ch = false) ∧ (s.enabled 5 = true) ∧ (s.relay ch ≠ 0) ∧ ((s.planCount ≤ (s.rdF (Reg.REL_CH_CFG ch) 0 8) ∨ s.chanGen2 (s.rdF (Reg.REL_CH_CFG ch) 0 8) = false ∨ s.chan24 (s.rdF (Reg.REL_CH_CFG ch) 0 8) = false) ∨ (s.relDesk = true ∧ s.relGpio ch = false ∧ s.rel.lockSet.contains ch.val = false))) ∧
    (∃ (m : Master) (ch : Fin 2) (s : State), (s.locked m = false) ∧ (s.present 24 = true) ∧ (s.droppedNow (some m) ch = false) ∧ (s.enabled 5 = true) ∧ (s.relay ch ≠ 0) ∧ (¬ (s.planCount ≤ (s.rdF (Reg.REL_CH_CFG ch) 0 8) ∨ s.chanGen2 (s.rdF (Reg.REL_CH_CFG ch) 0 8) = false ∨ s.chan24 (s.rdF (Reg.REL_CH_CFG ch) 0 8) = false)) ∧ (¬ (s.relDesk = true ∧ s.relGpio ch = false ∧ s.rel.lockSet.contains ch.val = false)) ∧ ((s.relExch ch).isSome = true)) ∧
    (∃ (ch : Fin 2) (s : State), (s.present 24 = true) ∧ (s.droppedNow none ch = false) ∧ (s.enabled 5 = true) ∧ (s.relay ch ≠ 0) ∧ (¬ (s.planCount ≤ (s.rdF (Reg.REL_CH_CFG ch) 0 8) ∨ s.chanGen2 (s.rdF (Reg.REL_CH_CFG ch) 0 8) = false ∨ s.chan24 (s.rdF (Reg.REL_CH_CFG ch) 0 8) = false)) ∧ (¬ (s.relDesk = true ∧ s.relGpio ch = false ∧ s.rel.lockSet.contains ch.val = false)) ∧ ((s.relExch ch).isSome = true)) :=
  ⟨⟨.debug, 0, wLocked, by decide +kernel⟩,
   ⟨none, 0, { UP with cyc := { relDrops := [(0, some .core)] } }, by decide +kernel⟩,
   ⟨.core, 0, 1, { UP with variant := .label }, by decide +kernel⟩,
   ⟨.core, 0, wRel 0 0, by decide +kernel⟩,
   ⟨0, wRel 0 0, by decide +kernel⟩,
   ⟨.core, 0, wRel 0x20001 0, by decide +kernel⟩,
   ⟨0, wRel 0x20001 0, by decide +kernel⟩,
   ⟨.core, 0, (wRel 0x20009 1).setExch 0 wExch, by decide +kernel⟩,
   ⟨0, (wRel 0x20009 1).setExch 0 wExch, by decide +kernel⟩⟩

theorem met_release_channels_start_and_drop_as_commanded_2 :
    (∃ (m : Master) (ch : Fin 2) (s : State), (s.locked m = false) ∧ (s.present 24 = true) ∧ (s.droppedNow (some m) ch = false) ∧ (s.enabled 5 = true) ∧ (s.relay ch ≠ 0) ∧ (¬ (s.planCount ≤ (s.rdF (Reg.REL_CH_CFG ch) 0 8) ∨ s.chanGen2 (s.rdF (Reg.REL_CH_CFG ch) 0 8) = false ∨ s.chan24 (s.rdF (Reg.REL_CH_CFG ch) 0 8) = false)) ∧ (¬ (s.relDesk = true ∧ s.relGpio ch = false ∧ s.rel.lockSet.contains ch.val = false)) ∧ (s.relExch ch = none)) ∧
    (∃ (ch : Fin 2) (s : State), (s.present 24 = true) ∧ (s.droppedNow none ch = false) ∧ (s.enabled 5 = true) ∧ (s.relay ch ≠ 0) ∧ (¬ (s.planCount ≤ (s.rdF (Reg.REL_CH_CFG ch) 0 8) ∨ s.chanGen2 (s.rdF (Reg.REL_CH_CFG ch) 0 8) = false ∨ s.chan24 (s.rdF (Reg.REL_CH_CFG ch) 0 8) = false)) ∧ (¬ (s.relDesk = true ∧ s.relGpio ch = false ∧ s.rel.lockSet.contains ch.val = false)) ∧ (s.relExch ch = none)) ∧
    (∃ (src : Option Master) (ch : Fin 2) (s : State), (src.any s.locked = false) ∧ (s.present 24 = true) ∧ (s.cyc.relStarts.any (fun p => p.1 == ch.val && p.2.1 != src) = false) ∧ (s.relState ch ≠ 2)) ∧
    (∃ (src : Option Master) (ch : Fin 2) (s : State), (src.any s.locked = false) ∧ (s.present 24 = true) ∧ (s.cyc.relStarts.any (fun p => p.1 == ch.val && p.2.1 != src) = false) ∧ (s.relState ch = 2)) ∧
    (∃ (ch : Fin 2) (s : State), (s.lockLine ch = [])) ∧
    (∃ (x : List Byte) (l : List (List Byte)) (ch : Fin 2) (s : State), (s.lockLine ch = x :: l)) ∧
    (∃ (v : Word) (s : State), (s.present 24 = true) ∧ (bitOf v 0 = true)) ∧
    (∃ (v : Word) (s : State), (s.present 24 = true) ∧ (bitOf v 0 = false)) ∧
    (∃ (src other : Option Master) (ch : Fin 2) (s : State), (src.any s.locked = false) ∧ (other.any s.locked = false) ∧ (other ≠ src) ∧ (s.present 24 = true) ∧ (s.cyc.relStarts = []) ∧ (s.cyc.relDrops = []) ∧ (s.relState ch ≠ 2)) :=
  ⟨⟨.core, 0, wRel 0x20009 0, by decide +kernel⟩,
   ⟨0, wRel 0x20009 0, by decide +kernel⟩,
   ⟨some .core, 0, (wRel 0x20009 1).setExch 0 wExch, by decide +kernel⟩,
   ⟨none, 0, wRel 0x20001 0x50002, by decide +kernel⟩,
   ⟨0, UP, by decide +kernel⟩,
   ⟨[1], [[2]], 0, UP.setLockLine 0 [[1], [2]], by decide +kernel⟩,
   ⟨1, UP.wr Reg.REL_FAILCOUNT 5, by decide +kernel⟩,
   ⟨2, UP, by decide +kernel⟩,
   ⟨some .core, none, 0, wRel 0x20009 0, by decide +kernel⟩⟩

theorem met_the_desk_grants_only_when_every_condition_holds_1 :
    (∃ (power : Int) (join : Option (Fin 65536 × BitVec 128)) (ch : Fin 2) (s : State), (s.asleep = true ∨ s.relDue ch = false)) ∧
    (∃ (power : Int) (join : Option (Fin 65536 × BitVec 128)) (ch : Fin 2) (s : State), (s.asleep = false) ∧ (s.relDue ch = true) ∧ (s.bit Reg.CHRON_STATUS 0 = false) ∧ (s.relState ch = 1)) ∧
    (∃ (power : Int) (join : Option (Fin 65536 × BitVec 128)) (ch : Fin 2) (s : State), (s.asleep = false) ∧ (s.relDue ch = true) ∧ (s.bit Reg.CHRON_STATUS 0 = false) ∧ (s.relState ch = 2) ∧ (s.relSession ch = false) ∧ (s.relDesk = true)) ∧
    (∃ (power : Int) (ch : Fin 2) (s : State), (s.asleep = false) ∧ (s.relDue ch = true) ∧ ({ s with rel := { s.rel with lastRv := mapIns (mapErase s.rel.lastRv ch) ch s.ticks } }.relSkip ch = 0) ∧ (s.relDesk = true) ∧ (s.listenBusy (s.chanBand (s.relChan ch)) power = false) ∧ (s.relState ch = 1)) ∧
    (∃ (power : Int) (peer : Fin 65536) (nc : BitVec 128) (ch : Fin 2) (s : State), (s.asleep = false) ∧ (s.relDue ch = true) ∧ ({ s with rel := { s.rel with lastRv := mapIns (mapErase s.rel.lastRv ch) ch s.ticks } }.relSkip ch = 0) ∧ (s.relDesk = true) ∧ (s.listenBusy (s.chanBand (s.relChan ch)) power = false) ∧ (s.relState ch = 1)) ∧
    (∃ (power : Int) (join : Option (Fin 65536 × BitVec 128)) (ch : Fin 2) (s : State), (s.asleep = false) ∧ (s.relDue ch = true) ∧ ({ s with rel := { s.rel with lastRv := mapIns (mapErase s.rel.lastRv ch) ch s.ticks } }.relSkip ch = 0) ∧ (s.relDesk = false)) ∧
    (∃ (desk : Fin 256) (src target : Fin 65536) (nd : BitVec 128) (challenge : BitVec 96) (ranging : BitVec 16) (delta : List Int) (ch : Fin 2) (s : State), (s.relDesk = true ∨ s.asleep = true ∨ s.relState ch ≠ 1 ∨ (s.relExch ch).isSome = true ∨ s.rel.window.contains ch.val = false ∨ (target.val ≠ 0xFFFF ∧ target.val ≠ s.ownAddr))) ∧
    (∃ (desk : Fin 256) (src target : Fin 65536) (nd : BitVec 128) (challenge : BitVec 96) (ranging : BitVec 16) (delta : List Int) (ch : Fin 2) (s : State), (s.relDesk = false) ∧ (s.asleep = false) ∧ (s.relState ch = 1) ∧ (s.relExch ch = none) ∧ (s.rel.window.contains ch.val = true) ∧ (target.val = 0xFFFF ∨ target.val = s.ownAddr) ∧ (s.rel.noVerdict.contains ch.val = false)) :=
  ⟨⟨-200, none, 0, wRel 0x20009 0, by decide +kernel⟩,
   ⟨-200, none, 0, (wRel 0x20009 1).setB Reg.CHRON_STATUS 0 false, by decide +kernel⟩,
   ⟨-200, none, 0, (wRel 0x20009 0x50002).setB Reg.CHRON_STATUS 0 false, by decide +kernel⟩,
   ⟨-200, 0, wRel 0x20009 1, by decide +kernel⟩,
   ⟨-200, 77, 5, 0, wRel 0x20009 1, by decide +kernel⟩,
   ⟨-200, none, 0, (wRel 0x20009 1).setB Reg.REL_CTRL 1 true, by decide +kernel⟩,
   ⟨3, 1, 2, 0, 0, 0, [], 0, UP, by decide +kernel⟩,
   ⟨3, 9, 0xFFFF, 0, 0, 0, [], 0, ((wRel 0x20009 0x11).setB Reg.REL_CTRL 1 true).setWindow 0 true, by decide +kernel⟩⟩

theorem met_the_desk_grants_only_when_every_condition_holds_2 :
    (∃ (e : RelExch) (resp : BitVec 96) (offset : Int) (replies : List (Option Bool)) (times : List Int) (confirm : Option (List Byte)) (ch : Fin 2) (s : State), (s.relExch ch = none ∨ s.relDesk = false ∨ (s.relExch ch = some e ∧ e.decided = true))) ∧
    (∃ (e : RelExch) (key delta tag : List Byte) (resp : BitVec 96) (offset : Int) (replies : List (Option Bool)) (times : List Int) (ch : Fin 2) (s : State), (s.relExch ch = some e) ∧ (s.relDesk = true) ∧ (e.decided = false) ∧ (s.relState ch = 1 ∨ s.relState ch = 2) ∧ (s.relay ch = 1) ∧ (s.exchKey ch = some key) ∧ (e.refused = false) ∧ (e.dropped = false) ∧ (-250 ≤ offset ∧ offset ≤ 250) ∧ (delta.length = 16) ∧ (leBytes 12 resp.toNat = (relAnswer (relPad key e.nd e.nc) e.challenge e.ranging).1) ∧ (tag = confirmTag key e.nd e.nc e.challenge (relAnswer (relPad key e.nd e.nc) e.challenge e.ranging).1 e.ranging (relAnswer (relPad key e.nd e.nc) e.challenge e.ranging).2 delta)) ∧
    (∃ (e : RelExch) (resp : BitVec 96) (offset : Int) (replies : List (Option Bool)) (times : List Int) (confirm : Option (List Byte)) (ch : Fin 2) (s : State), (s.relExch ch = some e) ∧ (s.relDesk = true) ∧ (e.decided = false) ∧ (confirm = none ∨ e.refused = true ∨ e.dropped = true ∨ s.relState ch = 0 ∨ offset < -250 ∨ 250 < offset) ∧ (s.relState ch ≠ 2)) ∧
    (∃ (e : RelExch) (resp : BitVec 96) (offset : Int) (replies : List (Option Bool)) (times : List Int) (confirm : Option (List Byte)) (ch : Fin 2) (s : State), (s.relExch ch = some e) ∧ (s.relDesk = true) ∧ (e.decided = false) ∧ (s.relState ch = 2) ∧ (s.relSession ch = false) ∧ (confirm = none ∨ e.refused = true ∨ e.dropped = true ∨ offset < -250 ∨ 250 < offset)) ∧
    (∃ (e : RelExch) (ch : Fin 2) (s : State), (s.relExch ch = some e) ∧ (s.relDesk = true) ∧ (e.decided = true)) ∧
    (∃ (e : RelExch) (ch : Fin 2) (s : State), ((s.relExch ch = none ∧ s.rel.window.contains ch.val = false) ∨ (s.relExch ch = some e ∧ (s.relDesk = false ∨ e.decided = false)))) ∧
    (∃ (verdict : Option (List Byte)) (ch : Fin 2) (s : State), (s.relExch ch = none ∨ s.relDesk = true)) ∧
    (∃ (e : RelExch) (verdict : Option (List Byte)) (ch : Fin 2) (s : State), (s.relExch ch = some e) ∧ (s.relDesk = false) ∧ ((∀ b ∈ verdict, s.verdictGrants ch e b = false))) :=
  ⟨⟨wExch, 0, 0, [], [], none, 0, UP, by decide +kernel⟩,
   ⟨wExch, List.replicate 16 2, List.replicate 16 0, confirmTag (List.replicate 16 2) wExch.nd wExch.nc wExch.challenge (relAnswer (relPad (List.replicate 16 2) wExch.nd wExch.nc) wExch.challenge wExch.ranging).1 wExch.ranging (relAnswer (relPad (List.replicate 16 2) wExch.nd wExch.nc) wExch.challenge wExch.ranging).2 (List.replicate 16 0), BitVec.ofNat 96 (leNat (relAnswer (relPad (List.replicate 16 2) wExch.nd wExch.nc) wExch.challenge wExch.ranging).1), 250, [], [], 0, (wRel 0x20009 1).setExch 0 wExch, by refine ⟨?_, ?_, ?_, ?_, ?_, ?_, ?_, ?_, ?_, ?_, ?_, ?_⟩ <;> first | with_reducible rfl | decide +kernel⟩,
   ⟨wExch, 0, 251, [], [], none, 0, (wRel 0x20009 1).setExch 0 wExch, by decide +kernel⟩,
   ⟨wExch, 0, 0, [], [], none, 0, (wRel 0x20009 2).setExch 0 wExch, by decide +kernel⟩,
   ⟨{ wExch with decided := true }, 0, (wRel 0x20009 2).setExch 0 { wExch with decided := true }, by decide +kernel⟩,
   ⟨wExch, 0, UP, by decide +kernel⟩,
   ⟨none, 0, UP, by decide +kernel⟩,
   ⟨wExch, none, 0, ((wRel 0x20009 1).setB Reg.REL_CTRL 1 true).setExch 0 wExch, by decide +kernel⟩⟩

theorem met_the_desk_grants_only_when_every_condition_holds_3 :
    (∃ (e : RelExch) (key sl tag : List Byte) (ch : Fin 2) (s : State), (s.relExch ch = some e) ∧ (s.relDesk = false) ∧ (e.desk < 256) ∧ (s.exchKey ch = some key) ∧ (sl = verdictSeal key e.nd e.nc (1 :: List.replicate 7 0)) ∧ (sl.length = 8) ∧ (tag = verdictTag key e.nd e.nc sl)) ∧
    (∃ (x : Nat) (ch : Fin 2) (s : State), (mapGet s.rel.sessions ch = some x) ∧ (s.asleep = false) ∧ (s.relState ch = 2) ∧ (s.reached x = true)) ∧
    (∃ (x : Nat) (ch : Fin 2) (s : State), (mapGet s.rel.sessions ch = none ∨ s.asleep = true ∨ s.relState ch ≠ 2 ∨ (mapGet s.rel.sessions ch = some x ∧ s.reached x = false))) ∧
    (∃ (n : Fin 2) (level : Bool) (s : State), (s.funcPin (0x42 + n) = none)) ∧
    (∃ (p : Nat) (n : Fin 2) (level : Bool) (s : State), (s.funcPin (0x42 + n) = some p) ∧ (s.enabled 5 = true) ∧ (s.asleep = false) ∧ (s.bit Reg.REL_DOOR n ≠ level)) ∧
    (∃ (p : Nat) (n : Fin 2) (level : Bool) (s : State), (s.funcPin (0x42 + n) = some p) ∧ (s.enabled 5 = false ∨ s.bit Reg.REL_DOOR n = level)) ∧
    (∃ (ch : Fin 2) (s : State), (s.relExch ch = none) ∧ (s.rel.window.contains ch.val = true) ∧ (s.front.tx = none)) ∧
    (∃ (power : Int) (join : Option (Fin 65536 × BitVec 128)) (ch : Fin 2) (s : State), (s.asleep = false) ∧ (s.relDue ch = true) ∧ ({ s with rel := { s.rel with lastRv := mapIns (mapErase s.rel.lastRv ch) ch s.ticks } }.relSkip ch = 0) ∧ (s.relDesk = true) ∧ (s.relState ch = 1) ∧ (s.listenBusy (s.chanBand (s.relChan ch)) power = true)) :=
  ⟨⟨wExch, List.replicate 16 2, verdictSeal (List.replicate 16 2) wExch.nd wExch.nc (1 :: List.replicate 7 0), verdictTag (List.replicate 16 2) wExch.nd wExch.nc (verdictSeal (List.replicate 16 2) wExch.nd wExch.nc (1 :: List.replicate 7 0)), 0, ((wRel 0x20009 1).setB Reg.REL_CTRL 1 true).setExch 0 wExch, by refine ⟨?_, ?_, ?_, ?_, ?_, ?_, ?_⟩ <;> first | with_reducible rfl | decide +kernel⟩,
   ⟨0, 0, (wRel 0x2000D 2).setSession 0 0, by decide +kernel⟩,
   ⟨0, 0, UP, by decide +kernel⟩,
   ⟨0, true, UP, by decide +kernel⟩,
   ⟨0, 0, true, wRel 0x2000D 2, by decide +kernel⟩,
   ⟨0, 0, false, wRel 0x2000D 2, by decide +kernel⟩,
   ⟨0, (wRel 0x20009 0x11).setWindow 0 true, by decide +kernel⟩,
   ⟨60, none, 0, { wRel 0x20009 1 with cat := { sections := [(6, [1, 0, 0, 0, 0x50, 0xF8, 0x0C, 0, 0x58, 0x44, 0x0E, 0, 0, 0, 1, 0, 60, 0, 28, 1, 176, 0, 0x88, 0x13] ++ List.replicate 20 0), (7, [0, 1, 0, 0, 0x40, 0x3B, 0x25, 0, 0, 0, 0, 0])] } }, by decide +kernel⟩⟩

theorem met_slips_are_taken_and_react_by_their_class_1 :
    (∃ (w : Word) (rest : List Word) (src : Fin 128) (s : State), (takeFirst src s.fault.waiting = some (w, rest)) ∧ (s.promoted src (fld w 13 2) = 0)) ∧
    (∃ (w : Word) (rest : List Word) (src : Fin 128) (s : State), (takeFirst src s.fault.waiting = some (w, rest)) ∧ (s.promoted src (fld w 13 2) = 1)) ∧
    (∃ (w : Word) (rest : List Word) (src : Fin 128) (s : State), (takeFirst src s.fault.waiting = some (w, rest)) ∧ (s.promoted src (fld w 13 2) = 2) ∧ (s.fault.trace.length < 16)) ∧
    (∃ (w : Word) (rest : List Word) (src : Fin 128) (s : State), (takeFirst src s.fault.waiting = some (w, rest)) ∧ (s.promoted src (fld w 13 2) = 2) ∧ (16 ≤ s.fault.trace.length)) ∧
    (∃ (w : Word) (rest : List Word) (src : Fin 128) (s : State), (takeFirst src s.fault.waiting = some (w, rest)) ∧ (s.promoted src (fld w 13 2) = 3) ∧ (s.isHeld = false)) ∧
    (∃ (r : Fin 3) (s : State), (s.isHeld = false)) ∧
    (∃ (j : Fin 4) (v : Word) (s : State), ((∀ x ∈ s.cyc.slips, x / 32 ≠ j.val))) ∧
    (∃ (s : State), (s.bit Reg.FAULT_STATUS 0 = true) ∧ (s.rdF Reg.FAULT_STATUS 16 16 = 0) ∧ (s.anySevere = true) ∧ (s.wdogDue = false) ∧ (s.isHeld = false) ∧ (s.regsWf = true)) :=
  ⟨⟨slipWord 5 1 0 9, [slipWord 6 1 0 0], 5, { UP with fault := { waiting := [slipWord 5 1 0 9, slipWord 6 1 0 0] } }, by decide +kernel⟩,
   ⟨slipWord 5 1 0 9, [slipWord 6 1 0 0], 5, { UP.wrF (Reg.FAULT_MAP 1) 8 8 5 with fault := { waiting := [slipWord 5 1 0 9, slipWord 6 1 0 0] } }, by decide +kernel⟩,
   ⟨slipWord 5 1 2 9, [slipWord 6 1 0 0], 5, { UP with fault := { waiting := [slipWord 5 1 2 9, slipWord 6 1 0 0] } }, by decide +kernel⟩,
   ⟨slipWord 5 1 2 9, [slipWord 6 1 0 0], 5, { UP with fault := { trace := List.replicate 16 ⟨0, 0⟩, waiting := [slipWord 5 1 2 9, slipWord 6 1 0 0] } }, by decide +kernel⟩,
   ⟨slipWord 5 1 3 9, [slipWord 6 1 0 0], 5, { UP with fault := { waiting := [slipWord 5 1 3 9, slipWord 6 1 0 0] } }, by decide +kernel⟩,
   ⟨1, UP, by decide +kernel⟩,
   ⟨0, 0x10, { UP with fault := { noRecall := [4] } }, by decide +kernel⟩,
   ⟨(UP.wr Reg.FAULT_STATUS 1).wr (Reg.FAULT_SEVPEND 0) 4, by decide +kernel⟩⟩

theorem met_slips_are_taken_and_react_by_their_class_2 :
    (∃ (s : State), (s.bit Reg.FAULT_STATUS 0 = true) ∧ (s.rdF Reg.FAULT_STATUS 16 16 = 0) ∧ (s.anySevere = false) ∧ (s.cyc.severe = false)) ∧
    (∃ (v : Word) (s : State), (fld v 13 2 = 3)) ∧
    (∃ (v : Word) (s : State), (fld v 13 2 ≠ 3)) ∧
    (∃ (m : Master) (s : State), (s.locked m = false) ∧ (m ≠ .debug)) ∧
    (∃ (e : TraceEntry) (l : List TraceEntry) (s : State), (s.locked .debug = false) ∧ (s.fault.trace = e :: l)) ∧
    (∃ (s : State), (s.locked .debug = false) ∧ (s.fault.trace = [])) ∧
    (∃ (s : State), (s.locked .debug = false)) ∧
    (∃ (src : Fin 128) (j : Fin 4) (w : Word) (rest : List Word) (s : State), (takeFirst src s.fault.waiting = some (w, rest)) ∧ (s.promoted src (fld w 13 2) ≠ 3) ∧ (src.val / 32 = j.val)) :=
  ⟨⟨UP.wr Reg.FAULT_STATUS 1, by decide +kernel⟩,
   ⟨0x6000, UP, by decide +kernel⟩,
   ⟨0x12342000, UP, by decide +kernel⟩,
   ⟨.core, { UP with fault := { trace := [⟨7, 8⟩] } }, by decide +kernel⟩,
   ⟨⟨7, 8⟩, [⟨9, 9⟩], { UP with fault := { trace := [⟨7, 8⟩, ⟨9, 9⟩] } }, by decide +kernel⟩,
   ⟨UP, by decide +kernel⟩,
   ⟨UP.wr Reg.FAULT_TRACE_STAT 0x500, by decide +kernel⟩,
   ⟨5, 0, slipWord 5 1 0 9, [], { UP with fault := { waiting := [slipWord 5 1 0 9] } }, by decide +kernel⟩⟩

theorem met_the_watchdog_and_recall_act_on_their_limits_1 :
    (∃ (key : Word) (s : State), (key ≠ 0x0C96FEED) ∧ (s.bit Reg.WDOG_CTRL 0 = true)) ∧
    (∃ (key : Word) (s : State), (key ≠ 0x0C96FEED) ∧ (s.bit Reg.WDOG_CTRL 0 = false)) ∧
    (∃ (s : State), (s.bit Reg.WDOG_CTRL 0 = true) ∧ (s.rdF Reg.WDOG_WARN 0 24 ≠ 0) ∧ (s.rdF Reg.WDOG_WARN 0 24 = s.rdF Reg.WDOG_COUNT 0 24)) ∧
    (∃ (s : State), (s.bit Reg.WDOG_CTRL 0 = false ∨ s.rdF Reg.WDOG_WARN 0 24 = 0 ∨ s.rdF Reg.WDOG_WARN 0 24 ≠ s.rdF Reg.WDOG_COUNT 0 24)) ∧
    (∃ (s : State), (s.bit Reg.WDOG_CTRL 0 = true) ∧ (s.rdF Reg.WDOG_LIMIT 0 24 ≤ s.rdF Reg.WDOG_COUNT 0 24) ∧ (s.isHeld = false) ∧ (s.regsWf = true)) ∧
    (∃ (s : State), (s.bit Reg.WDOG_CTRL 0 = false ∨ s.rdF Reg.WDOG_COUNT 0 24 < s.rdF Reg.WDOG_LIMIT 0 24)) ∧
    (∃ (limit : Bool) (v : Word) (s : State), (s.bit Reg.WDOG_CTRL 1 = true)) ∧
    (∃ (v : Word) (s : State), (s.bit Reg.WDOG_CTRL 1 = false) ∧ (fld v 0 24 < 30 ∨ (s.wdogNext false ≠ 0 ∧ fld v 0 24 ≤ s.wdogNext false))) ∧
    (∃ (v : Word) (s : State), (s.bit Reg.WDOG_CTRL 1 = false) ∧ (30 ≤ fld v 0 24) ∧ (s.wdogNext false < fld v 0 24)) :=
  ⟨⟨0, UP.wr Reg.WDOG_CTRL 1, by decide +kernel⟩,
   ⟨0, UP, by decide +kernel⟩,
   ⟨((UP.wr Reg.WDOG_CTRL 1).wr Reg.WDOG_WARN 40).wr Reg.WDOG_COUNT 40, by decide +kernel⟩,
   ⟨UP, by decide +kernel⟩,
   ⟨((UP.wr Reg.WDOG_CTRL 1).wr Reg.WDOG_LIMIT 40).wr Reg.WDOG_COUNT 40, by decide +kernel⟩,
   ⟨UP, by decide +kernel⟩,
   ⟨true, 99, UP.wr Reg.WDOG_CTRL 2, by decide +kernel⟩,
   ⟨29, UP, by decide +kernel⟩,
   ⟨60, UP, by decide +kernel⟩⟩

theorem met_the_watchdog_and_recall_act_on_their_limits_2 :
    (∃ (v : Word) (s : State), (s.bit Reg.WDOG_CTRL 1 = false) ∧ (s.wdogNext true < 30 ∨ (fld v 0 24 ≠ 0 ∧ s.wdogNext true ≤ fld v 0 24))) ∧
    (∃ (v : Word) (s : State), (s.bit Reg.WDOG_CTRL 1 = false) ∧ (30 ≤ s.wdogNext true) ∧ (fld v 0 24 = 0 ∨ fld v 0 24 < s.wdogNext true)) ∧
    (∃ (res : Recallable) (s : State), (s.holder res = none ∨ recallKey res ∈ s.fault.noRecall ∨ s.recallDue res = false)) ∧
    (∃ (c h : Nat) (res : Recallable) (s : State), (c = recallCode res) ∧ (s.holder res = some h) ∧ (recallKey res ∉ s.fault.noRecall) ∧ (s.recallDue res = true) ∧ (c ≠ 5)) ∧
    (∃ (c h : Nat) (res : Recallable) (s : State), (c = recallCode res) ∧ (s.holder res = some h) ∧ (recallKey res ∉ s.fault.noRecall) ∧ (c = 5)) ∧
    (∃ (r : SpineReq) (m : Master) (s : State), (s.spineF.outst = []) ∧ (s.spineS.outst = [r]) ∧ (r.master = m) ∧ (recallKey (.port m) ∉ s.fault.noRecall) ∧ (s.recallDue (.port m) = true)) ∧
    (∃ (res : Recallable) (s : State), ((∀ p ∈ s.fault.recalled, recallKey p.1 ≠ recallKey res ∨ p.2 < s.recallTicks))) ∧
    (∃ (res : Recallable) (s : State), (s.fault.recalled.any (fun p => recallKey p.1 == recallKey res && decide (s.recallTicks ≤ p.2)) = true) ∧ (s.resIdle res = true)) ∧
    (∃ (res : Recallable) (s : State), (s.fault.recalled.any (fun p => recallKey p.1 == recallKey res && decide (s.recallTicks ≤ p.2)) = true) ∧ (s.resIdle res = false)) :=
  ⟨⟨100, { UP with fault := { heldLimit := some 60 } }, by decide +kernel⟩,
   ⟨50, { UP with fault := { heldLimit := some 60 } }, by decide +kernel⟩,
   ⟨.spineF, UP, by decide +kernel⟩,
   ⟨4, 0, .port .core, wRecall, by decide +kernel⟩,
   ⟨5, 1, .custodian, (wMb 1 0).setMb 0 { phase := .running }, by decide +kernel⟩,
   ⟨⟨.core, false, 0x80000000, 0⟩, .core, wRecall, by decide +kernel⟩,
   ⟨.spineF, UP, by decide +kernel⟩,
   ⟨.spineF, { UP with fault := { recalled := [(.spineF, 70000)] } }, by decide +kernel⟩,
   ⟨.port .core, { { UP with spineS := { UP.spineS with outst := [⟨.core, false, 0x80000000, 0⟩] } } with fault := { recalled := [(.port .core, 70000)] } }, by decide +kernel⟩⟩

theorem met_host_frames_and_transactions_are_served_1 :
    (∃ (lo hi : Nat) (c : Instr) (line : List Byte) (s : State), ((c, lo, hi) ∈ [(Instr.hif1Hello line, 1, 1), (.hif1Read line, 0x10, 0x10), (.hif1Write line, 0x11, 0x11), (.hif1Enqueue line, 0x12, 0x12), (.hif1SoftwareFrame line, 0x40, 0x7F)]) ∧ (s.hifOn 0 = false)) ∧
    (∃ (lo hi : Nat) (c : Instr) (line : List Byte) (s : State), ((c, lo, hi) ∈ [(Instr.hif1Hello line, 1, 1), (.hif1Read line, 0x10, 0x10), (.hif1Write line, 0x11, 0x11), (.hif1Enqueue line, 0x12, 0x12), (.hif1SoftwareFrame line, 0x40, 0x7F)]) ∧ (s.hifOn 0 = true) ∧ (parseFrame line = none)) ∧
    (∃ (lo hi : Nat) (c : Instr) (f : HifFrame) (line : List Byte) (s : State), ((c, lo, hi) ∈ [(Instr.hif1Hello line, 1, 1), (.hif1Read line, 0x10, 0x10), (.hif1Write line, 0x11, 0x11), (.hif1Enqueue line, 0x12, 0x12), (.hif1SoftwareFrame line, 0x40, 0x7F)]) ∧ (s.hifOn 0 = true) ∧ (parseFrame line = some f) ∧ (hif1Known f.op = false ∨ (lo ≤ f.op ∧ f.op ≤ hi ∧ f.whole = false))) ∧
    (∃ (lo hi : Nat) (c : Instr) (f : HifFrame) (line : List Byte) (s : State), ((c, lo, hi) ∈ [(Instr.hif1Hello line, 1, 1), (.hif1Read line, 0x10, 0x10), (.hif1Write line, 0x11, 0x11), (.hif1Enqueue line, 0x12, 0x12), (.hif1SoftwareFrame line, 0x40, 0x7F)]) ∧ (s.hifOn 0 = true) ∧ (parseFrame line = some f) ∧ (hif1Known f.op = true) ∧ (¬ (lo ≤ f.op ∧ f.op ≤ hi))) ∧
    (∃ (f : HifFrame) (line : List Byte) (s : State), (s.hifOn 0 = true) ∧ (parseFrame line = some f) ∧ (f.op = 1) ∧ (f.whole = true)) ∧
    (∃ (a n : Nat) (f : HifFrame) (line : List Byte) (s : State), (a = b4 f.payload 0 / 4 * 4) ∧ (n = b1 f.payload 4) ∧ (s.hifOn 0 = true) ∧ (parseFrame line = some f) ∧ (f.op = 0x10) ∧ (f.whole = true) ∧ (f.len = 5) ∧ (1 ≤ n ∧ n ≤ 64) ∧ (s.hostHeld = false) ∧ ((∀ i < n, region (a + 4 * i) = .sram ∧ s.absentAt (a + 4 * i) = none))) ∧
    (∃ (a n : Nat) (f : HifFrame) (line : List Byte) (s : State), (a = b4 f.payload 0 / 4 * 4) ∧ (n = b1 f.payload 4) ∧ (s.hifOn 0 = true) ∧ (parseFrame line = some f) ∧ (f.op = 0x10) ∧ (f.whole = true) ∧ (f.len ≠ 5 ∨ n = 0 ∨ 64 < n)) ∧
    (∃ (a n : Nat) (f : HifFrame) (line : List Byte) (s : State), (a = b4 f.payload 0 / 4 * 4) ∧ (n = b1 f.payload 4) ∧ (s.hifOn 0 = true) ∧ (parseFrame line = some f) ∧ (f.op = 0x10) ∧ (f.whole = true) ∧ (f.len = 5) ∧ (1 ≤ n ∧ n ≤ 64) ∧ (s.hostHeld = false) ∧ (region a = .unmapped) ∧ (s.absentAt a = none)) ∧
    (∃ (a n : Nat) (f : HifFrame) (line : List Byte) (s : State), (a = b4 f.payload 0 / 4 * 4) ∧ (f.len = 4 + 4 * n) ∧ (s.hifOn 0 = true) ∧ (parseFrame line = some f) ∧ (f.op = 0x11) ∧ (f.whole = true) ∧ (1 ≤ n ∧ n ≤ 256) ∧ (s.hostHeld = false) ∧ (s.cyc.hifWrites.all (fun p => decide (1 ≤ p.1)) = true) ∧ ((∀ i < n, region (a + 4 * i) = .sram ∧ s.absentAt (a + 4 * i) = none))) :=
  ⟨⟨1, 1, .hif1Hello [], [], UP, by decide +kernel⟩,
   ⟨1, 1, .hif1Hello [1], [1], wHif, by decide +kernel⟩,
   ⟨1, 1, .hif1Hello (wLine 2 9 []), ⟨2, 9, (([] : List Byte)).length, ([] : List Byte)⟩, wLine 2 9 (([] : List Byte)), wHif, by decide +kernel⟩,
   ⟨1, 1, .hif1Hello (wLine 16 9 []), ⟨16, 9, (([] : List Byte)).length, ([] : List Byte)⟩, wLine 16 9 (([] : List Byte)), wHif, by decide +kernel⟩,
   ⟨⟨1, 9, (([] : List Byte)).length, ([] : List Byte)⟩, wLine 1 9 (([] : List Byte)), wHif, by decide +kernel⟩,
   ⟨0x20000100, 2, ⟨16, 9, ([0, 1, 0, 0x20, 2]).length, [0, 1, 0, 0x20, 2]⟩, wLine 16 9 ([0, 1, 0, 0x20, 2]), wHif, by decide +kernel⟩,
   ⟨0x20000100, 65, ⟨16, 9, ([0, 1, 0, 0x20, 65]).length, [0, 1, 0, 0x20, 65]⟩, wLine 16 9 ([0, 1, 0, 0x20, 65]), wHif, by decide +kernel⟩,
   ⟨0x90000000, 1, ⟨16, 9, ([0, 0, 0, 0x90, 1]).length, [0, 0, 0, 0x90, 1]⟩, wLine 16 9 ([0, 0, 0, 0x90, 1]), wHif, by decide +kernel⟩,
   ⟨0x20000100, 1, ⟨17, 9, ([0, 1, 0, 0x20, 1, 2, 3, 4]).length, [0, 1, 0, 0x20, 1, 2, 3, 4]⟩, wLine 17 9 ([0, 1, 0, 0x20, 1, 2, 3, 4]), wHif, by decide +kernel⟩⟩

theorem met_host_frames_and_transactions_are_served_2 :
    (∃ (f : HifFrame) (line : List Byte) (s : State), (s.hifOn 0 = true) ∧ (parseFrame line = some f) ∧ (f.op = 0x11) ∧ (f.whole = true) ∧ (f.len < 8 ∨ 1028 < f.len ∨ f.len % 4 ≠ 0)) ∧
    (∃ (f : HifFrame) (line : List Byte) (s : State), (s.hifOn 0 = true) ∧ (parseFrame line = some f) ∧ (f.op = 0x12) ∧ (f.whole = true) ∧ (3 ≤ f.len ∧ f.len ≤ 2049) ∧ ((s.hifEnqueue (b2 f.payload 0) (f.payload.drop 2)).isSome = true)) ∧
    (∃ (f : HifFrame) (line : List Byte) (s : State), (s.hifOn 0 = true) ∧ (parseFrame line = some f) ∧ (0x40 ≤ f.op ∧ f.op < 0x80) ∧ (f.whole = true) ∧ (f.len ≤ 1024) ∧ (s.bit Reg.HIF1_RXINFO 11 = true)) ∧
    (∃ (f : HifFrame) (line : List Byte) (s : State), (s.hifOn 0 = true) ∧ (parseFrame line = some f) ∧ (0x40 ≤ f.op ∧ f.op < 0x80) ∧ (f.whole = true) ∧ (f.len ≤ 1024) ∧ (s.bit Reg.HIF1_RXINFO 11 = false)) ∧
    (∃ (v : Word) (s : State), (s.bit Reg.HIF1_TXSTAT 0 = true)) ∧
    (∃ (v : Word) (s : State), (s.bit Reg.HIF1_TXSTAT 0 = false) ∧ (fld v 0 11 ≤ 1024)) ∧
    (∃ (s : State), (s.bit Reg.HIF1_TXSTAT 0 = true)) ∧
    (∃ (s : State), (s.bit Reg.HIF1_TXSTAT 0 = false)) ∧
    (∃ (addr : Fin 65536) (data : List Byte) (count : Fin 256) (slow : Bool) (base : Word) (s : State), (s.hif2On = false)) :=
  ⟨⟨⟨17, 9, ([0, 1, 0, 0x20, 1, 2]).length, [0, 1, 0, 0x20, 1, 2]⟩, wLine 17 9 ([0, 1, 0, 0x20, 1, 2]), wHif, by decide +kernel⟩,
   ⟨⟨18, 9, ([0, 0, 7]).length, [0, 0, 7]⟩, wLine 18 9 ([0, 0, 7]), wHif, by decide +kernel⟩,
   ⟨⟨64, 9, ([7]).length, [7]⟩, wLine 64 9 ([7]), (wHif.setB Reg.HIF1_RXINFO 11 true), by decide +kernel⟩,
   ⟨⟨64, 9, ([7, 8]).length, [7, 8]⟩, wLine 64 9 ([7, 8]), wHif, by decide +kernel⟩,
   ⟨1, wHif.setB Reg.HIF1_TXSTAT 0 true, by decide +kernel⟩,
   ⟨0x01410003, wHif, by decide +kernel⟩,
   ⟨wHif.setB Reg.HIF1_TXSTAT 0 true, by decide +kernel⟩,
   ⟨wHif, by decide +kernel⟩,
   ⟨0, [], 0, false, 0, UP, by decide +kernel⟩⟩

theorem met_host_frames_and_transactions_are_served_3 :
    (∃ (a n : Nat) (addr : Fin 65536) (data : List Byte) (s : State), (a = s.hif2Addr addr) ∧ (n = min 16 (data.length / 4)) ∧ (s.hif2On = true) ∧ (s.hostHeld = false) ∧ (s.cyc.hifWrites.all (fun p => decide (2 ≤ p.1)) = true) ∧ ((∀ i < n, region (a + 4 * i) = .sram ∧ s.absentAt (a + 4 * i) = none))) ∧
    (∃ (addr : Fin 65536) (count : Fin 256) (s : State), (s.hif2On = true)) ∧
    (∃ (a n : Nat) (addr : Fin 65536) (count : Fin 256) (s : State), (a = s.hif2Addr addr) ∧ (n = min 16 count.val) ∧ (s.hif2On = true) ∧ (s.hostHeld = false) ∧ ((∀ i < n, region (a + 4 * i) = .sram ∧ s.absentAt (a + 4 * i) = none))) ∧
    (∃ (s : State), (s.hif2On = true)) ∧
    (∃ (base : Word) (s : State), (s.hif2On = true)) ∧
    (∃ (m : Master) (v : Word) (s : State), (s.locked m = true)) ∧
    (∃ (m : Master) (v : Word) (s : State), (s.locked m = false)) ∧
    (∃ (addr : Word) (data : List Byte) (n : Fin 4097) (s : State), (s.hif3On = false)) ∧
    (∃ (addr : Word) (data : List Byte) (s : State), (s.hif3On = true) ∧ (data.length ≤ 4096) ∧ (s.cyc.hifWrites.all (fun p => decide (3 ≤ p.1)) = true) ∧ ((∀ i < data.length, region (addr.toNat + 1 * i) = .sram ∧ s.absentAt (addr.toNat + 1 * i) = none))) :=
  ⟨⟨0x20000100, 1, 0x102, [1, 2, 3, 4, 5], wHif.wr Reg.HIF2_WIN 0x20000000, by decide +kernel⟩,
   ⟨0, 1, wHif, by decide +kernel⟩,
   ⟨0x20000100, 16, 0x100, 20, wHif.wr Reg.HIF2_WIN 0x20000000, by decide +kernel⟩,
   ⟨{ wHif with hif := { errSeen := true } }, by decide +kernel⟩,
   ⟨0x20001234, wHif, by decide +kernel⟩,
   ⟨.debug, 0, wLocked, by decide +kernel⟩,
   ⟨.core, 7, wHif, by decide +kernel⟩,
   ⟨0, [], 0, UP, by decide +kernel⟩,
   ⟨0x20000101, [1, 2, 3, 4, 5, 6, 7, 8], wHif, by decide +kernel⟩⟩

theorem met_host_frames_and_transactions_are_served_4 :
    (∃ (addr : Word) (n : Fin 4097) (s : State), (s.hif3On = true) ∧ ((∀ i < n.val, region (addr.toNat + 1 * i) = .sram ∧ s.absentAt (addr.toNat + 1 * i) = none))) ∧
    (∃ (addr : Word) (data : List Byte) (s : State), (s.hif3On = true) ∧ (1 ≤ data.length ∧ data.length ≤ 4096) ∧ ((∀ i < data.length, hif3Reach (addr.toNat + i) = false))) ∧
    (∃ (addr : Word) (n : Fin 4097) (s : State), (s.hif3On = true) ∧ (1 ≤ n.val) ∧ ((∀ i < n.val, hif3Reach (addr.toNat + i) = false))) ∧
    (∃ (s : State), (s.hif3On = true)) ∧
    (∃ (addr : Word) (data : List Byte) (s : State), (s.hif3On = true) ∧ (data.length = 4) ∧ (region addr.toNat = .sram) ∧ (s.absentAt addr.toNat = none) ∧ (addr.toNat % 4 = 0) ∧ (s.cyc.hifWrites.any (fun p => decide (p.1 < 3) && p.2 == addr.toNat) = true)) ∧
    (∃ (addr : Fin 65536) (data : List Byte) (s : State), (s.hif2On = true) ∧ (s.hostHeld = true)) ∧
    (∃ (f : HifFrame) (line : List Byte) (s : State), (s.hifOn 0 = true) ∧ (parseFrame line = some f) ∧ (f.op = 0x11) ∧ (f.whole = true) ∧ (8 ≤ f.len ∧ f.len ≤ 1028 ∧ f.len % 4 = 0) ∧ (s.hostHeld = true)) :=
  ⟨⟨0x20000101, 9, wHif, by decide +kernel⟩,
   ⟨0x40000000, [1], wHif, by decide +kernel⟩,
   ⟨0x40000000, 5, wHif, by decide +kernel⟩,
   ⟨wHif, by decide +kernel⟩,
   ⟨0x20000100, [1, 2, 3, 4], { wHif with cyc := { wHif.cyc with hifWrites := [(2, 0x20000100)] } }, by decide +kernel⟩,
   ⟨0, [1, 2, 3, 4], { wHif with held := [.hif2Write 0 [9, 9, 9, 9]] }, by decide +kernel⟩,
   ⟨⟨17, 9, ([0, 1, 0, 0x20, 1, 2, 3, 4]).length, [0, 1, 0, 0x20, 1, 2, 3, 4]⟩, wLine 17 9 ([0, 1, 0, 0x20, 1, 2, 3, 4]), { wHif with held := [.hif2Write 0 [9, 9, 9, 9]] }, by decide +kernel⟩⟩

theorem met_host_rings_serve_their_entries_in_turn_1 :
    (∃ (op : Nat) (c : Instr) (s : State), ((c, op) ∈ [(Instr.ringEnqueue, 1), (.ringFetch, 2), (.ringFlush, 3), (.ringPause, 4), (.ringResume, 5), (.ringMove, 6)]) ∧ (s.nextRing = none)) ∧
    (∃ (op r : Nat) (e : RingEntry) (c : Instr) (s : State), ((c, op) ∈ [(Instr.ringEnqueue, 1), (.ringFetch, 2), (.ringFlush, 3), (.ringPause, 4), (.ringResume, 5), (.ringMove, 6)]) ∧ (s.nextRing = some r) ∧ (e = s.ringEntry r) ∧ (e.bad = false) ∧ (e.op ≠ op)) ∧
    (∃ (op r : Nat) (e : RingEntry) (c : Instr) (s : State), ((c, op) ∈ [(Instr.ringEnqueue, 1), (.ringFetch, 2), (.ringFlush, 3), (.ringPause, 4), (.ringResume, 5), (.ringMove, 6)]) ∧ (s.nextRing = some r) ∧ (e = s.ringEntry r) ∧ (e.bad = true)) ∧
    (∃ (r : Nat) (e : RingEntry) (x : Nat × Nat × State) (s : State), (s.nextRing = some r) ∧ (e = s.ringEntry r) ∧ (e.op = 1) ∧ (e.bad = false) ∧ (s.hifEnqueue e.queue (s.bytesAt e.addr e.len) = some x)) ∧
    (∃ (op r : Nat) (e : RingEntry) (k : QCmd) (c : Instr) (s : State), (s.nextRing = some r) ∧ (e = s.ringEntry r) ∧ ((c, op, k) ∈ [(Instr.ringFlush, 3, ({ cmd := 5, queue := e.queue } : QCmd)), (.ringPause, 4, { cmd := 6, flag := e.flags.testBit 0, queue := e.queue }), (.ringResume, 5, { cmd := 7, flag := e.flags.testBit 0, cls := e.flags / 16, queue := e.queue }), (.ringMove, 6, { cmd := 4, queue := e.queue, arg := e.addr % 65536 })]) ∧ (e.op = op) ∧ (e.bad = false) ∧ (s.qeWaits 2 k = false)) ∧
    (∃ (op r : Nat) (e : RingEntry) (k : QCmd) (c : Instr) (s : State), (s.nextRing = some r) ∧ (e = s.ringEntry r) ∧ ((c, op, k) ∈ [(Instr.ringFlush, 3, ({ cmd := 5, queue := e.queue } : QCmd)), (.ringPause, 4, { cmd := 6, flag := e.flags.testBit 0, queue := e.queue }), (.ringResume, 5, { cmd := 7, flag := e.flags.testBit 0, cls := e.flags / 16, queue := e.queue }), (.ringMove, 6, { cmd := 4, queue := e.queue, arg := e.addr % 65536 })]) ∧ (e.op = op) ∧ (e.bad = false) ∧ (s.qeWaits 2 k = true)) ∧
    (∃ (r : Nat) (e : RingEntry) (s : State), (s.nextRing = some r) ∧ (e = s.ringEntry r) ∧ (e.op = 2) ∧ (e.bad = false) ∧ (s.qeWaits 2 ({ cmd := 2, flag := true, queue := e.queue } : QCmd) = false) ∧ ((s.qeNow 2 ({ cmd := 2, flag := true, queue := e.queue } : QCmd)).status ≠ 0)) ∧
    (∃ (r : Nat) (e : RingEntry) (s : State), (s.nextRing = some r) ∧ (e = s.ringEntry r) ∧ (e.op = 2) ∧ (e.bad = false) ∧ (s.qeWaits 2 ({ cmd := 2, flag := true, queue := e.queue } : QCmd) = false) ∧ ((s.qeNow 2 ({ cmd := 2, flag := true, queue := e.queue } : QCmd)).status = 0)) :=
  ⟨⟨1, .ringEnqueue, UP, by decide +kernel⟩,
   ⟨1, 0, ⟨3, 0, 0, 0, 0, 119, 0⟩, .ringEnqueue, wRing [3, 0, 0, 0, 0, 0, 0, 0, 0, 0, 119, 0, 0, 0, 0, 0], by decide +kernel⟩,
   ⟨1, 0, ⟨9, 0, 0, 0, 0, 119, 0⟩, .ringEnqueue, wRing [9, 0, 0, 0, 0, 0, 0, 0, 0, 0, 119, 0, 0, 0, 0, 0], by decide +kernel⟩,
   ⟨0, ⟨1, 0, 0, 536873216, 4, 119, 0⟩, ((wRing [1, 0, 0, 0, 0, 9, 0, 32, 4, 0, 119, 0, 0, 0, 0, 0]).hifEnqueue 0 ((wRing [1, 0, 0, 0, 0, 9, 0, 32, 4, 0, 119, 0, 0, 0, 0, 0]).bytesAt 0x20000900 4)).getD (0, 0, UP), wRing [1, 0, 0, 0, 0, 9, 0, 32, 4, 0, 119, 0, 0, 0, 0, 0], by decide +kernel⟩,
   ⟨3, 0, ⟨3, 0, 0, 0, 0, 119, 0⟩, { cmd := 5, queue := 0 }, .ringFlush, wRing [3, 0, 0, 0, 0, 0, 0, 0, 0, 0, 119, 0, 0, 0, 0, 0], by decide +kernel⟩,
   ⟨3, 0, ⟨3, 0, 0, 0, 0, 119, 0⟩, { cmd := 5, queue := 0 }, .ringFlush, { wRing [3, 0, 0, 0, 0, 0, 0, 0, 0, 0, 119, 0, 0, 0, 0, 0] with qe := { qbankEn := 3 }, pwr := { dark := [0] } }, by decide +kernel⟩,
   ⟨0, ⟨2, 0, 0, 536873216, 8, 119, 0⟩, wRing [2, 0, 0, 0, 0, 9, 0, 32, 8, 0, 119, 0, 0, 0, 0, 0], by decide +kernel⟩,
   ⟨0, ⟨2, 0, 0, 536873216, 8, 119, 0⟩, (wRing [2, 0, 0, 0, 0, 9, 0, 32, 8, 0, 119, 0, 0, 0, 0, 0]).append 0 [5] true, by decide +kernel⟩⟩

theorem met_host_rings_serve_their_entries_in_turn_2 :
    (∃ (r : Fin 4) (v : Word) (s : State), (s.present 25 = false)) ∧
    (∃ (n h : Nat) (r : Fin 4) (v : Word) (s : State), (n = s.ringSize r) ∧ (h = s.rdF (Reg.RING_SQ_HEAD r) 0 10) ∧ (s.present 25 = true) ∧ (n ≤ fld v 0 10 ∨ (fld v 0 10 + n - h) % n < (s.rdF (Reg.RING_SQ_TAIL r) 0 10 + n - h) % n)) ∧
    (∃ (n h : Nat) (r : Fin 4) (v : Word) (s : State), (n = s.ringSize r) ∧ (h = s.rdF (Reg.RING_SQ_HEAD r) 0 10) ∧ (s.present 25 = true) ∧ (fld v 0 10 < n) ∧ ((s.rdF (Reg.RING_SQ_TAIL r) 0 10 + n - h) % n ≤ (fld v 0 10 + n - h) % n)) ∧
    (∃ (s : State), (s.hif.posts = [])) ∧
    (∃ (a : Nat) (p : RingPost) (l : List RingPost) (s : State), (s.hif.posts = p :: l) ∧ (p.ring < 4) ∧ (a = (s.rd (Reg.RING_CQ_BASE p.ring)).toNat + 8 * s.rdF (Reg.RING_CQ_TAIL p.ring) 0 10) ∧ (a % 4 = 0) ∧ (s.cyc.hifWrites.all (fun p => decide (3 ≤ p.1)) = true) ∧ ((∀ i < 2, region (a + 4 * i) = .sram ∧ s.absentAt (a + 4 * i) = none))) ∧
    (∃ (s : State), (s.hif.errDue = [])) ∧
    (∃ (i : Nat) (l : List Nat) (s : State), (s.hif.errDue = i :: l)) ∧
    (∃ (r : Nat) (e : RingEntry) (s : State), (s.nextRing = some r) ∧ (e = s.ringEntry r) ∧ (e.op = 1) ∧ (e.bad = false) ∧ (s.hifEnqueue e.queue (s.bytesAt e.addr e.len) = none)) :=
  ⟨⟨0, 1, { UP with variant := .label }, by decide +kernel⟩,
   ⟨16, 0, 0, 16, wHif, by decide +kernel⟩,
   ⟨16, 0, 0, 15, wHif, by decide +kernel⟩,
   ⟨UP, by decide +kernel⟩,
   ⟨0x20000800, ⟨0, 0x77, 0, 3, 5⟩, [], { wRing [] with hif := { posts := [⟨0, 0x77, 0, 3, 5⟩] } }, by decide +kernel⟩,
   ⟨UP, by decide +kernel⟩,
   ⟨2, [1], { UP with hif := { errDue := [2, 1] } }, by decide +kernel⟩,
   ⟨0, ⟨1, 0, 0, 536873216, 4, 119, 0⟩, { wRing [1, 0, 0, 0, 0, 9, 0, 32, 4, 0, 119, 0, 0, 0, 0, 0] with qe := { qbankEn := 3 }, pwr := { dark := [0] } }, by decide +kernel⟩⟩

theorem met_panel_sequences_follow_their_pages_1 :
    (∃ (c : Instr) (s : State), (c ∈ [Instr.panelFlip, .panelRefresh, .panelPowerOn, .panelPowerOff]) ∧ (s.present 27 = true) ∧ (s.panelOn = false)) ∧
    (∃ (c : Instr) (w : PanelWait) (s : State), ((c, w) ∈ [(Instr.panelPowerDelayEnd, PanelWait.power), (.panelDelayEnd, .delay), (.panelBusyTimeout, .busy), (.panelScriptEnd, .ended), (.panelDeferredFlip, .page), (.panelHoldExpiry, .page)]) ∧ (s.panelWaits w = none)) ∧
    (∃ (s : State), (s.panelOn = true) ∧ (s.panelTaken = true)) ∧
    (∃ (k : Nat) (s : State), (k = s.rdF Reg.PANEL_STAGE 0 4) ∧ (s.panelOn = true) ∧ (s.panelTaken = false) ∧ (s.bit Reg.PANEL_STATUS 3 = false) ∧ (s.bit Reg.PANEL_STAGE 4 = false ∨ (s.psState k ≠ 1 ∧ s.psState k ≠ 2))) ∧
    (∃ (k : Nat) (s : State), (k = s.rdF Reg.PANEL_STAGE 0 4) ∧ (s.panelOn = true) ∧ (s.panelTaken = false) ∧ (s.bit Reg.PANEL_STATUS 3 = false) ∧ (s.bit Reg.PANEL_STAGE 4 = true) ∧ (s.psState k = 1)) ∧
    (∃ (k code : Nat) (u : State) (s : State), (k = s.rdF Reg.PANEL_STAGE 0 4) ∧ (s.panelOn = true) ∧ (s.panelTaken = false) ∧ (s.bit Reg.PANEL_STATUS 3 = false) ∧ (s.bit Reg.PANEL_STAGE 4 = true) ∧ (s.psState k = 2) ∧ (s.readStalls = false) ∧ (s.validate (s.sec 14) k = .error (code, u))) ∧
    (∃ (k : Nat) (px : List Nat) (u v : State) (s : State), (k = s.rdF Reg.PANEL_STAGE 0 4) ∧ (s.panelOn = true) ∧ (s.panelTaken = false) ∧ (s.bit Reg.PANEL_STATUS 3 = false) ∧ (s.bit Reg.PANEL_STAGE 4 = true) ∧ (s.psState k = 2) ∧ (s.readStalls = false) ∧ (s.validate (s.sec 14) k = .ok (px, u)) ∧ (v = (u.shownPixels (s.sec 14)).2) ∧ (s.bit Reg.PANEL_STATUS 2 = false)) ∧
    (∃ (k : Nat) (px : List Nat) (l : List Byte) (u v : State) (s : State), (k = s.rdF Reg.PANEL_STAGE 0 4) ∧ (s.panelOn = true) ∧ (s.panelTaken = false) ∧ (s.bit Reg.PANEL_STATUS 3 = false) ∧ (s.bit Reg.PANEL_STAGE 4 = true) ∧ (s.psState k = 2) ∧ (s.readStalls = false) ∧ (s.validate (s.sec 14) k = .ok (px, u)) ∧ (v = (u.shownPixels (s.sec 14)).2) ∧ (s.bit Reg.PANEL_STATUS 2 = true) ∧ (0x20000000 ≤ (s.rd Reg.PANEL_SCRIPT).toNat ∧ (s.rd Reg.PANEL_SCRIPT).toNat < 0x20060000) ∧ (s.bytesAt (s.rd Reg.PANEL_SCRIPT).toNat 256 = 5 :: 0 :: l)) ∧
    (∃ (s : State), (s.panelOn = true) ∧ (s.panelTaken = true)) ∧
    (∃ (s : State), (s.panelOn = true) ∧ (s.panelTaken = false) ∧ (s.bit Reg.PANEL_STATUS 3 = false) ∧ (s.bit Reg.PANEL_SHOWN 4 = false)) :=
  ⟨⟨.panelFlip, UP, by decide +kernel⟩,
   ⟨.panelDelayEnd, .delay, wPanel .power [], by decide +kernel⟩,
   ⟨{ wFlip with held := [.panelRefresh] }, by decide +kernel⟩,
   ⟨0, wPage, by decide +kernel⟩,
   ⟨0, wFlip.wr Reg.STOR_PS_STATE 1, by decide +kernel⟩,
   ⟨0, 4, { wFlip with cat := { sections := [(1, [0xFF, 0xFF, 0xFF, 0xFF])] } }, { wFlip with cat := { sections := [(1, [0xFF, 0xFF, 0xFF, 0xFF])] } }, by decide +kernel⟩,
   ⟨0, [1, 0, 1, 0], wFlip, wFlip, wFlip, by decide +kernel⟩,
   ⟨0, [1, 0, 1, 0], List.replicate 254 0, (wFlip.wr Reg.PANEL_STATUS 4).putBytes 0x20000100 [5], (wFlip.wr Reg.PANEL_STATUS 4).putBytes 0x20000100 [5], (wFlip.wr Reg.PANEL_STATUS 4).putBytes 0x20000100 [5], by decide +kernel⟩,
   ⟨wPanel .power [], by decide +kernel⟩,
   ⟨wPage, by decide +kernel⟩⟩

theorem met_panel_sequences_follow_their_pages_2 :
    (∃ (k : Nat) (px : List Nat) (u v : State) (s : State), (k = s.rdF Reg.PANEL_SHOWN 0 4) ∧ (s.panelOn = true) ∧ (s.panelTaken = false) ∧ (s.bit Reg.PANEL_STATUS 3 = false) ∧ (s.bit Reg.PANEL_SHOWN 4 = true) ∧ (s.readStalls = false) ∧ (s.validate (s.sec 14) k = .ok (px, u)) ∧ (v = (u.shownPixels (s.sec 14)).2) ∧ (s.bit Reg.PANEL_STATUS 2 = false)) ∧
    (∃ (s : State), (s.panelOn = true) ∧ (s.sec 14 ≠ [])) ∧
    (∃ (s : State), (s.panelOn = true) ∧ (s.panelState = 0 ∨ s.panelState = 3)) ∧
    (∃ (s : State), (s.panelOn = true) ∧ (s.panelState = 1 ∨ s.panelState = 2)) ∧
    (∃ (r : PanelRun) (l : List Byte) (s : State), (s.panel.run = some r) ∧ (r.wait = .power) ∧ (s.bit Reg.PANEL_STATUS 3 = false) ∧ (0x20000000 ≤ (s.rd Reg.PANEL_SCRIPT).toNat ∧ (s.rd Reg.PANEL_SCRIPT).toNat < 0x20060000) ∧ (s.bytesAt (s.rd Reg.PANEL_SCRIPT).toNat 256 = 0 :: l)) ∧
    (∃ (r : PanelRun) (l : List Byte) (s : State), (s.panel.run = some r) ∧ (r.wait = .delay) ∧ (s.bit Reg.PANEL_STATUS 3 = false) ∧ (r.script = 3 :: l)) ∧
    (∃ (r : PanelRun) (s : State), (s.panel.run = some r) ∧ (r.wait = .delay) ∧ (s.bit Reg.PANEL_STATUS 3 = false) ∧ (r.script = [])) ∧
    (∃ (x y : Byte) (r : PanelRun) (l : List Byte) (s : State), (s.panel.run = some r) ∧ (r.wait = .busy) ∧ (s.bit Reg.PANEL_STATUS 3 = false) ∧ (r.script = 2 :: 2 :: x :: y :: 1 :: 9 :: 0 :: l)) ∧
    (∃ (s : State), (s.panelWaits .busy = none)) ∧
    (∃ (r : PanelRun) (s : State), (s.panel.run = some r) ∧ (r.wait = .busy) ∧ (s.bit Reg.PANEL_STATUS 3 = false)) :=
  ⟨⟨0, [1, 0, 1, 0], wPage.wr Reg.PANEL_SHOWN 16, wPage.wr Reg.PANEL_SHOWN 16, wPage.wr Reg.PANEL_SHOWN 16, by decide +kernel⟩,
   ⟨wPage, by decide +kernel⟩,
   ⟨wPage.wr Reg.PANEL_STATUS 4, by decide +kernel⟩,
   ⟨wPanel .delay [], by decide +kernel⟩,
   ⟨{ flip := true, slot := 0, wait := .power, script := [0], pixels := [1, 0, 1, 0], profile := wProf }, List.replicate 255 0, (wPanel .power [0]).putBytes 0x20000100 [0], by decide +kernel⟩,
   ⟨{ flip := true, slot := 0, wait := .delay, script := [3, 0], pixels := [1, 0, 1, 0], profile := wProf }, [0], wPanel .delay [3, 0], by decide +kernel⟩,
   ⟨{ flip := true, slot := 0, wait := .delay, script := [], pixels := [1, 0, 1, 0], profile := wProf }, wPanel .delay [], by decide +kernel⟩,
   ⟨7, 8, { flip := true, slot := 0, wait := .busy, script := [2, 2, 7, 8, 1, 9, 0], pixels := [1, 0, 1, 0], profile := wProf }, [], wPanel .busy [2, 2, 7, 8, 1, 9, 0], by decide +kernel⟩,
   ⟨wPage, by decide +kernel⟩,
   ⟨{ flip := true, slot := 0, wait := .busy, script := [0], pixels := [1, 0, 1, 0], profile := wProf }, wPanel .busy [0], by decide +kernel⟩⟩

theorem met_panel_sequences_follow_their_pages_3 :
    (∃ (r : PanelRun) (s : State), (s.panel.run = some r) ∧ (r.wait = .ended) ∧ (s.bit Reg.PANEL_STATUS 3 = false) ∧ (r.flip = true)) ∧
    (∃ (r : PanelRun) (s : State), (s.panel.run = some r) ∧ (r.wait = .ended) ∧ (s.bit Reg.PANEL_STATUS 3 = false) ∧ (r.flip = false)) ∧
    (∃ (r : PanelRun) (s : State), (s.panel.run = some r) ∧ (r.wait = .ended) ∧ (r.flip = true) ∧ (s.bit Reg.PANEL_STATUS 3 = true) ∧ (s.held.any isPanelCmd = false) ∧ (s.readStalls = false)) ∧
    (∃ (r : PanelRun) (s : State), (s.panel.run = some r) ∧ (r.wait = .page) ∧ (s.bit Reg.PANEL_STATUS 3 = false) ∧ (s.psState r.slot ≠ 2)) ∧
    (∃ (r : PanelRun) (k : Nat) (px : List Nat) (u v : State) (s : State), (k = r.slot) ∧ (s.panel.run = some r) ∧ (r.wait = .page) ∧ (s.bit Reg.PANEL_STATUS 3 = false) ∧ (s.psState k = 2) ∧ (s.readStalls = false) ∧ (s.validate (s.sec 14) k = .ok (px, u)) ∧ (v = (u.shownPixels (s.sec 14)).2) ∧ (s.bit Reg.PANEL_STATUS 2 = false)) ∧
    (∃ (r : PanelRun) (s : State), (s.panel.run = some r) ∧ (r.wait = .page) ∧ (s.bit Reg.PANEL_STATUS 3 = false)) ∧
    (∃ (s : State), (s.present 27 = false)) ∧
    (∃ (s : State), (s.sec 14 = [])) ∧
    (∃ (k : Nat) (s : State), (k = s.rdF Reg.PANEL_STAGE 0 4) ∧ (s.panelOn = true) ∧ (s.panelTaken = false) ∧ (s.bit Reg.PANEL_STATUS 3 = false) ∧ (s.bit Reg.PANEL_STAGE 4 = true) ∧ (s.psState k = 2) ∧ (s.readStalls = true)) ∧
    (∃ (s : State), (s.panelOn = true) ∧ (s.panelTaken = false) ∧ (s.bit Reg.PANEL_SHOWN 4 = true) ∧ (s.readStalls = true)) :=
  ⟨⟨{ flip := true, slot := 0, wait := .ended, script := [0], pixels := [1, 0, 1, 0], profile := wProf }, wPanel .ended [0], by decide +kernel⟩,
   ⟨{ flip := false, slot := 0, wait := .ended, script := [0], pixels := [1, 0, 1, 0], profile := wProf }, { wPanel .ended [0] with panel := { run := some { flip := false, slot := 0, wait := .ended, script := [0], pixels := [1, 0, 1, 0], profile := wProf }, offDue := true } }, by decide +kernel⟩,
   ⟨{ flip := true, slot := 0, wait := .ended, script := [0], pixels := [1, 0, 1, 0], profile := wProf }, (wPanel .ended [0]).setB Reg.PANEL_STATUS 3 true, by decide +kernel⟩,
   ⟨{ flip := true, slot := 0, wait := .page, script := [0], pixels := [1, 0, 1, 0], profile := wProf }, (wPanel .page [0]).wr Reg.STOR_PS_STATE 1, by decide +kernel⟩,
   ⟨{ flip := true, slot := 0, wait := .page, script := [0], pixels := [1, 0, 1, 0], profile := wProf }, 0, [1, 0, 1, 0], (wPanel .page [0]).wr Reg.PANEL_STATUS 3, (wPanel .page [0]).wr Reg.PANEL_STATUS 3, (wPanel .page [0]).wr Reg.PANEL_STATUS 3, by decide +kernel⟩,
   ⟨{ flip := true, slot := 0, wait := .page, script := [0], pixels := [1, 0, 1, 0], profile := wProf }, (wPanel .page [0]).wr Reg.PANEL_STATUS 3, by decide +kernel⟩,
   ⟨{ UP with variant := .keeper }, by decide +kernel⟩,
   ⟨{ wPage with cat := { sections := [(1, [0xFF, 0xFF, 0xFF, 0xFF])] } }, by decide +kernel⟩,
   ⟨0, wFlip.setB Reg.SPINE_S_STAT 0 false, by decide +kernel⟩,
   ⟨(wPage.wr Reg.PANEL_SHOWN 16).setB Reg.SPINE_S_STAT 0 false, by decide +kernel⟩⟩

theorem met_serial_units_move_their_frames_1 :
    (∃ (x : Bool) (d : Fin 65536) (l : List (Fin 65536)) (n : Fin 2) (s : State), (s.spiOn n = false)) ∧
    (∃ (v : Word) (b : Byte) (p q x : Bool) (n : Fin 2) (s : State), (s.uartOn n = false)) ∧
    (∃ (v : Word) (lost : Option (Fin 258 × Fin 8)) (at_ : Fin 258 × Fin 8) (l : List Byte) (k : Fin 256) (x : Bool) (b : Byte) (how : I2cEnd) (n : Fin 2) (s : State), (s.i2cOn n = false)) ∧
    (∃ (x : Bool) (n : Fin 2) (s : State), (s.spiOn n = true) ∧ (s.bit (Reg.SPI_CFG n) 0 = true)) ∧
    (∃ (x : Bool) (n : Fin 2) (s : State), (s.spiOn n = true) ∧ (s.bit (Reg.SPI_CFG n) 0 = false) ∧ (s.bit (Reg.SPI_STATUS n) 0 = true)) ∧
    (∃ (x : Bool) (n : Fin 2) (s : State), (s.spiOn n = true) ∧ (s.bit (Reg.SPI_CFG n) 0 = false) ∧ (s.bit (Reg.SPI_STATUS n) 0 = false)) ∧
    (∃ (u : SpiSt) (n : Fin 2) (l : List (Fin 65536)) (s : State), (u = s.spi n) ∧ (s.lineOn (s.spiOn n) = true) ∧ (s.bit (Reg.SPI_CFG n) 0 = false) ∧ (s.bit (Reg.SPI_STATUS n) 0 = true) ∧ (u.left ≤ u.tx.length) ∧ (u.left + u.rx.length ≤ 8) ∧ (u.left ≤ l.length)) ∧
    (∃ (u : SpiSt) (n : Fin 2) (l : List (Fin 65536)) (s : State), (u = s.spi n) ∧ (s.lineOn (s.spiOn n) = true) ∧ (s.bit (Reg.SPI_CFG n) 0 = false) ∧ (s.bit (Reg.SPI_STATUS n) 0 = true) ∧ (u.tx.length < u.left) ∧ (u.tx.length + u.rx.length ≤ 8) ∧ (u.tx.length ≤ l.length)) ∧
    (∃ (l : List (Fin 65536)) (n : Fin 2) (s : State), (s.lineOn (s.spiOn n) = true) ∧ (s.bit (Reg.SPI_CFG n) 0 = true) ∧ (s.wired [0x10 + 4 * n, 0x13 + 4 * n] = true)) ∧
    (∃ (f : Nat) (q : List Nat) (u : SpiSt) (n : Fin 2) (d : Fin 65536) (s : State), (u = s.spi n) ∧ (s.lineOn (s.spiOn n) = true) ∧ (s.bit (Reg.SPI_CFG n) 0 = true) ∧ (s.wired [0x10 + 4 * n, 0x13 + 4 * n] = true) ∧ (u.tx = f :: q) ∧ (u.rx.length < 8)) :=
  ⟨⟨true, 0, [], 0, UP, by decide +kernel⟩,
   ⟨0, 0, true, true, true, 0, UP, by decide +kernel⟩,
   ⟨0, none, (0, 0), [], 0, true, 0, .ok, 0, UP, by decide +kernel⟩,
   ⟨true, 0, wSer.setB (Reg.SPI_CFG 0) 0 true, by decide +kernel⟩,
   ⟨true, 0, wSer.setB (Reg.SPI_STATUS 0) 0 true, by decide +kernel⟩,
   ⟨true, 0, wSer.wr (Reg.SPI_LEN 0) 3, by decide +kernel⟩,
   ⟨{ tx := [5, 6], left := 1 }, 0, [9], (wSer.setB (Reg.SPI_STATUS 0) 0 true).setSpi 0 { tx := [5, 6], left := 1 }, by decide +kernel⟩,
   ⟨{ tx := [5, 6], left := 3 }, 0, [9, 8], (wSer.setB (Reg.SPI_STATUS 0) 0 true).setSpi 0 { tx := [5, 6], left := 3 }, by decide +kernel⟩,
   ⟨[], 0, wSer.setB (Reg.SPI_CFG 0) 0 true, by decide +kernel⟩,
   ⟨7, [], { tx := [7] }, 0, 9, (wSer.setB (Reg.SPI_CFG 0) 0 true).setSpi 0 { tx := [7] }, by decide +kernel⟩⟩

theorem met_serial_units_move_their_frames_2 :
    (∃ (u : SpiSt) (n : Fin 2) (d : Fin 65536) (s : State), (u = s.spi n) ∧ (s.lineOn (s.spiOn n) = true) ∧ (s.bit (Reg.SPI_CFG n) 0 = true) ∧ (s.wired [0x10 + 4 * n, 0x13 + 4 * n] = true) ∧ (u.tx = []) ∧ (u.rx.length < 8)) ∧
    (∃ (u : SpiSt) (n : Fin 2) (d : Fin 65536) (s : State), (u = s.spi n) ∧ (s.lineOn (s.spiOn n) = true) ∧ (s.bit (Reg.SPI_CFG n) 0 = true) ∧ (s.wired [0x10 + 4 * n, 0x13 + 4 * n] = true) ∧ (u.tx ≠ []) ∧ (8 ≤ u.rx.length)) ∧
    (∃ (v : Word) (n : Fin 2) (s : State), (s.uartOn n = true) ∧ (16 ≤ (s.uart n).tx.length)) ∧
    (∃ (v : Word) (n : Fin 2) (s : State), (s.uartOn n = true) ∧ ((s.uart n).tx.length < 16)) ∧
    (∃ (n : Fin 2) (s : State), (s.uartOn n = true) ∧ (s.uartGate n = true)) ∧
    (∃ (n : Fin 2) (s : State), (s.uartOn n = true) ∧ (s.uartGate n = false)) ∧
    (∃ (n : Fin 2) (s : State), (s.lineOn (s.uartOn n) = true) ∧ (s.uartGo n = 0)) ∧
    (∃ (n : Fin 2) (s : State), (s.lineOn (s.uartOn n) = true) ∧ (0 < s.uartGo n)) ∧
    (∃ (b : Byte) (p q x : Bool) (n : Fin 2) (s : State), (s.lineOn (s.uartOn n) = true) ∧ (s.wired [0x1D + 2 * n] = true) ∧ (16 ≤ (s.uart n).rx.length)) ∧
    (∃ (b : Byte) (p q x : Bool) (n : Fin 2) (s : State), (s.lineOn (s.uartOn n) = true) ∧ (s.wired [0x1D + 2 * n] = true) ∧ ((s.uart n).rx.length < 16)) :=
  ⟨⟨{ }, 0, 9, wSer.setB (Reg.SPI_CFG 0) 0 true, by decide +kernel⟩,
   ⟨{ tx := [1], rx := List.replicate 8 3 }, 0, 9, (wSer.setB (Reg.SPI_CFG 0) 0 true).setSpi 0 { tx := [1], rx := List.replicate 8 3 }, by decide +kernel⟩,
   ⟨5, 0, wSer.setUart 0 { tx := List.replicate 16 0 }, by decide +kernel⟩,
   ⟨5, 0, wSer, by decide +kernel⟩,
   ⟨0, (wSer.setB (Reg.UART_CFG 0) 1 true).setUart 0 { tx := [1] }, by decide +kernel⟩,
   ⟨0, wSer, by decide +kernel⟩,
   ⟨0, wSer, by decide +kernel⟩,
   ⟨0, wSer.setUart 0 { tx := [1, 2] }, by decide +kernel⟩,
   ⟨5, false, false, false, 0, wSer.setUart 0 { rx := List.replicate 16 0 }, by decide +kernel⟩,
   ⟨5, true, true, false, 0, wSer, by decide +kernel⟩⟩

theorem met_serial_units_move_their_frames_3 :
    (∃ (n : Fin 2) (s : State), (s.lineOn (s.uartOn n) = true) ∧ ((s.uart n).rx = [])) ∧
    (∃ (n : Fin 2) (s : State), (s.lineOn (s.uartOn n) = true) ∧ ((s.uart n).rx ≠ [])) ∧
    (∃ (v : Word) (lost : Option (Fin 258 × Fin 8)) (x : Bool) (n : Fin 2) (s : State), (s.i2cOn n = true) ∧ ((s.i2c n).run.isSome = true)) ∧
    (∃ (v : Word) (x : Bool) (n : Fin 2) (s : State), (s.i2cOn n = true) ∧ ((s.i2c n).run = none) ∧ (bitOf v 31 = false) ∧ (s.bit (Reg.I2C_STATUS n) 4 = true) ∧ ((s.i2c n).owns = false)) ∧
    (∃ (v : Word) (x : Bool) (n : Fin 2) (s : State), (s.i2cOn n = true) ∧ ((s.i2c n).run = none) ∧ (bitOf v 31 = false) ∧ (s.bit (Reg.I2C_STATUS n) 4 = false ∨ (s.i2c n).owns = true)) ∧
    (∃ (v : Word) (i : Fin 258) (b : Fin 8) (x : Bool) (n : Fin 2) (s : State), (s.i2cOn n = true) ∧ ((s.i2c n).run = none) ∧ (bitOf v 31 = false) ∧ (s.bit (Reg.I2C_STATUS n) 4 = false) ∧ (s.i2cWired n = true)) ∧
    (∃ (n : Fin 2) (s : State), (s.i2cOn n = true) ∧ ((s.i2c n).run = none)) ∧
    (∃ (n : Fin 2) (s : State), (s.i2cOn n = true) ∧ ((s.i2c n).run = none) ∧ (s.i2cWired n = true)) ∧
    (∃ (x : Bool) (n : Fin 2) (s : State), (s.i2cLive n = true) ∧ (s.bit (Reg.I2C_TIMING n) 28 = true)) ∧
    (∃ (x : Bool) (n : Fin 2) (s : State), (s.i2cLive n = true) ∧ (s.bit (Reg.I2C_TIMING n) 28 = false)) :=
  ⟨⟨0, wSer, by decide +kernel⟩,
   ⟨0, wSer.setUart 0 { rx := [1] }, by decide +kernel⟩,
   ⟨0, none, false, 0, wSer.setI2c 0 { run := some ⟨0, 1, false, none, false, (4, 4)⟩ }, by decide +kernel⟩,
   ⟨0x20000, false, 0, wSer.setB (Reg.I2C_STATUS 0) 4 true, by decide +kernel⟩,
   ⟨0x20000, false, 0, wSer, by decide +kernel⟩,
   ⟨0x20000, 0, 7, true, 0, wSer.wr (Reg.I2C_TADDR 0) 0x81, by decide +kernel⟩,
   ⟨0, wSer.setB (Reg.I2C_STATUS 0) 4 true, by decide +kernel⟩,
   ⟨0, wSer, by decide +kernel⟩,
   ⟨false, 0, wSer.setB (Reg.I2C_TIMING 0) 28 true, by decide +kernel⟩,
   ⟨false, 0, wSer.wr (Reg.I2C_TIMING 0) 0, by decide +kernel⟩⟩

theorem met_serial_units_move_their_frames_4 :
    (∃ (r : I2cRun) (n : Fin 2) (s : State), (s.i2cLive n = true) ∧ ((s.i2c n).run = some r)) ∧
    (∃ (r : I2cRun) (n : Fin 2) (s : State), (s.i2cLive n = true) ∧ ((s.i2c n).run = some r) ∧ (r.waiting = true)) ∧
    (∃ (r : I2cRun) (at_ : Fin 258 × Fin 8) (data : List Byte) (k : Fin 256) (n : Fin 2) (s : State), (s.i2cLive n = true) ∧ ((s.i2c n).run = some r) ∧ (r.waiting = false) ∧ ((s.i2c n).target = none)) ∧
    (∃ (at_ : Fin 258 × Fin 8) (data : List Byte) (k : Fin 256) (n : Fin 2) (s : State), (s.i2cLive n = true) ∧ ((s.i2c n).run = none) ∧ ((s.i2c n).target.isSome = true) ∧ (data.length + (s.i2c n).rx.length ≤ 8)) ∧
    (∃ (at_ : Fin 258 × Fin 8) (a : Byte) (n : Fin 2) (s : State), (s.i2cLive n = true) ∧ ((s.i2c n).run = none)) ∧
    (∃ (r : I2cRun) (l : List Byte) (n : Fin 2) (s : State), (s.lineOn (s.i2cOn n) = true) ∧ (s.i2cWired n = true) ∧ ((s.i2c n).run = some r) ∧ (r.waiting = false) ∧ (r.lost = none) ∧ (bitOf r.xfer 11 = false) ∧ (r.left ≤ (s.i2c n).tx.length)) ∧
    (∃ (r : I2cRun) (l : List Byte) (n : Fin 2) (s : State), (s.lineOn (s.i2cOn n) = true) ∧ (s.i2cWired n = true) ∧ ((s.i2c n).run = some r) ∧ (r.waiting = false) ∧ (r.lost = none) ∧ (bitOf r.xfer 11 = true) ∧ (r.left ≤ l.length) ∧ (r.left + (s.i2c n).rx.length ≤ 8)) ∧
    (∃ (r : I2cRun) (n : Fin 2) (s : State), ((s.i2c n).run = none ∨ ((s.i2c n).run = some r ∧ r.waiting = false))) ∧
    (∃ (r : I2cRun) (l : List Byte) (n : Fin 2) (s : State), (s.lineOn (s.i2cOn n) = true) ∧ ((s.i2c n).run = some r) ∧ (r.waiting = false) ∧ (r.lost = none)) ∧
    (∃ (r : I2cRun) (i : Fin 255) (l : List Byte) (n : Fin 2) (s : State), (s.lineOn (s.i2cOn n) = true) ∧ (s.i2cWired n = true) ∧ ((s.i2c n).run = some r) ∧ (r.waiting = false) ∧ (r.lost = none)) :=
  ⟨⟨⟨0, 1, false, none, false, (4, 4)⟩, 0, wSer.setI2c 0 { run := some ⟨0, 1, false, none, false, (4, 4)⟩ }, by decide +kernel⟩,
   ⟨⟨0, 1, true, none, false, (4, 4)⟩, 0, wSer.setI2c 0 { run := some ⟨0, 1, true, none, false, (4, 4)⟩ }, by decide +kernel⟩,
   ⟨⟨0, 1, false, none, false, (4, 4)⟩, (1, 3), [], 0, 0, wSer.setI2c 0 { run := some ⟨0, 1, false, none, false, (4, 4)⟩ }, by decide +kernel⟩,
   ⟨(1, 3), [5], 0, 0, wSer.setI2c 0 { target := some false }, by decide +kernel⟩,
   ⟨(0, 7), 3, 0, wSer.wr (Reg.I2C_TADDR 0) 0x81, by decide +kernel⟩,
   ⟨⟨0x20050, 2, false, none, false, (4, 4)⟩, [], 0, wSer.setI2c 0 { run := some ⟨0x20050, 2, false, none, false, (4, 4)⟩, tx := [1, 2, 3] }, by decide +kernel⟩,
   ⟨⟨0x20850, 2, false, none, false, (4, 4)⟩, [8, 9], 0, wSer.setI2c 0 { run := some ⟨0x20850, 2, false, none, false, (4, 4)⟩ }, by decide +kernel⟩,
   ⟨⟨0, 1, false, none, false, (4, 4)⟩, 0, wSer, by decide +kernel⟩,
   ⟨⟨0x20050, 2, false, none, false, (4, 4)⟩, [], 0, wSer.setI2c 0 { run := some ⟨0x20050, 2, false, none, false, (4, 4)⟩ }, by decide +kernel⟩,
   ⟨⟨0x20050, 2, false, none, false, (4, 4)⟩, 1, [], 0, wSer.setI2c 0 { run := some ⟨0x20050, 2, false, none, false, (4, 4)⟩ }, by decide +kernel⟩⟩

theorem met_serial_units_move_their_frames_5 :
    (∃ (r : I2cRun) (how : I2cEnd) (l : List Byte) (n : Fin 2) (s : State), ((s.i2c n).run = none ∨ ((s.i2c n).run = some r ∧ (r.waiting = true ∨ r.lost ≠ none)))) ∧
    (∃ (f : Nat) (n : Fin 2) (s : State), (s.lineOn (s.spiOn n) = true) ∧ (s.bit (Reg.SPI_CFG n) 0 = true) ∧ (s.wired [0x10 + 4 * n, 0x13 + 4 * n] = true) ∧ (s.bit (Reg.SPI_CFG n) 3 = true) ∧ ((s.spi n).tx.head? = some f)) ∧
    (∃ (d : Fin 65536) (l : List (Fin 65536)) (n : Fin 2) (s : State), (s.asleep = true ∨ (s.bit (Reg.SPI_CFG n) 0 = true ∧ s.wired [0x10 + 4 * n, 0x13 + 4 * n] = false))) ∧
    (∃ (b : Byte) (p q x : Bool) (n : Fin 2) (s : State), (s.asleep = true ∨ s.wired [0x1D + 2 * n] = false)) ∧
    (∃ (at_ : Fin 258 × Fin 8) (l : List Byte) (k : Fin 256) (b : Byte) (x : Bool) (n : Fin 2) (s : State), (s.i2cLive n = false)) ∧
    (∃ (r : I2cRun) (how : I2cEnd) (l : List Byte) (n : Fin 2) (s : State), (s.lineOn (s.i2cOn n) = true) ∧ ((s.i2c n).run = some r) ∧ (r.waiting = false) ∧ (r.lost = none) ∧ (s.i2cWired n = false)) ∧
    (∃ (n : Fin 2) (s : State), (s.i2cOn n = true) ∧ ((s.i2c n).run = none) ∧ (s.i2cWired n = false)) :=
  ⟨⟨⟨0, 1, false, none, false, (4, 4)⟩, .ok, [], 0, wSer, by decide +kernel⟩,
   ⟨5, 0, (wSer.wr (Reg.SPI_CFG 0) 0x29).setSpi 0 { tx := [5] }, by decide +kernel⟩,
   ⟨0, [], 0, { wSer with pwr := { mode := .nap } }, by decide +kernel⟩,
   ⟨5, true, false, false, 0, wNoPad, by decide +kernel⟩,
   ⟨(0, 0), [], 0, 0, true, 0, wNoPad, by decide +kernel⟩,
   ⟨⟨0x20050, 2, false, none, false, (4, 4)⟩, .ok, [], 0, wNoPad.setI2c 0 { run := some ⟨0x20050, 2, false, none, false, (4, 4)⟩ }, by decide +kernel⟩,
   ⟨0, wNoPad, by decide +kernel⟩⟩

theorem met_pins_and_conversions_follow_their_commands_1 :
    (∃ (j : Fin 2) (v : Word) (s : State), (s.cyc.ports = []) ∧ (s.cyc.gpioBase = [])) ∧
    (∃ (j : Fin 2) (v : Word) (s : State), (s.cyc.ports = []) ∧ (s.cyc.gpioBase = [])) ∧
    (∃ (j : Fin 2) (v : Word) (s : State), (s.cyc.ports = []) ∧ (s.cyc.gpioBase = [])) ∧
    (∃ (p : Nat) (k : Fin 8) (s : State), (p = s.rdF (Reg.GPIO_TP_CFG k) 0 6) ∧ (s.cyc.ports = []) ∧ (s.isGpio p = false ∨ s.rdF (Reg.GPIO_TP_CFG k) 8 2 = 0)) ∧
    (∃ (p : Nat) (k : Fin 8) (s : State), (p = s.rdF (Reg.GPIO_TP_CFG k) 0 6) ∧ (s.cyc.ports = []) ∧ (s.isGpio p = true) ∧ (s.rdF (Reg.GPIO_TP_CFG k) 8 2 = 1)) ∧
    (∃ (p : Nat) (k : Fin 8) (s : State), (p = s.rdF (Reg.GPIO_TP_CFG k) 0 6) ∧ (s.cyc.ports = []) ∧ (s.isGpio p = true) ∧ (s.rdF (Reg.GPIO_TP_CFG k) 8 2 = 2)) ∧
    (∃ (p : Nat) (k : Fin 8) (s : State), (p = s.rdF (Reg.GPIO_TP_CFG k) 0 6) ∧ (s.cyc.ports = []) ∧ (s.isGpio p = true) ∧ (s.rdF (Reg.GPIO_TP_CFG k) 8 2 = 3)) ∧
    (∃ (pin : Fin 40) (ext : Option Bool) (s : State), (s.pinCount ≤ pin.val)) :=
  ⟨⟨0, 5, wSer, by decide +kernel⟩,
   ⟨0, 5, wSer, by decide +kernel⟩,
   ⟨0, 5, wSer, by decide +kernel⟩,
   ⟨0, 0, wSer, by decide +kernel⟩,
   ⟨1, 0, wSer.wr (Reg.GPIO_TP_CFG 0) 257, by decide +kernel⟩,
   ⟨1, 0, wSer.wr (Reg.GPIO_TP_CFG 0) 513, by decide +kernel⟩,
   ⟨1, 0, wSer.wr (Reg.GPIO_TP_CFG 0) 769, by decide +kernel⟩,
   ⟨20, none, { wSer with variant := .label }, by decide +kernel⟩⟩

theorem met_pins_and_conversions_follow_their_commands_2 :
    (∃ (pin : Fin 40) (v : Bool) (s : State), (pin.val < s.pinCount) ∧ (s.padOut s.takeFree.1 pin = none) ∧ (s.pinFunc pin < 0x48 ∨ 0x50 ≤ s.pinFunc pin) ∧ (s.asleep = false) ∧ (s.boot.phase = .app) ∧ (s.bit (Reg.GPIO_IN (pin / 32)) (pin % 32) = v)) ∧
    (∃ (pin : Fin 40) (v : Bool) (s : State), (pin.val < s.pinCount) ∧ (s.padOut s.takeFree.1 pin = none) ∧ (s.pinFunc pin < 0x48 ∨ 0x50 ≤ s.pinFunc pin) ∧ (s.asleep = false) ∧ (s.boot.phase = .app) ∧ (s.bit (Reg.GPIO_IN (pin / 32)) (pin % 32) ≠ v) ∧ (s.ser.sampled = true) ∧ (s.edgeMatches pin v = true)) ∧
    (∃ (pin : Fin 40) (v : Bool) (s : State), (pin.val < s.pinCount) ∧ (s.padOut s.takeFree.1 pin = none) ∧ (s.pinFunc pin < 0x48 ∨ 0x50 ≤ s.pinFunc pin) ∧ (s.asleep = false) ∧ (s.boot.phase = .app) ∧ (s.bit (Reg.GPIO_IN (pin / 32)) (pin % 32) ≠ v) ∧ (s.ser.sampled = false ∨ s.edgeMatches pin v = false)) ∧
    (∃ (s : State), (s.adcOn = false)) ∧
    (∃ (c : Instr) (q : Bool) (s : State), ((c, q) ∈ [(Instr.adcStart, false), (.adcSeq, true)]) ∧ (s.adcOn = true) ∧ (s.ser.adc = none)) ∧
    (∃ (r : AdcRun) (c : Instr) (q : Bool) (s : State), ((c, q) ∈ [(Instr.adcStart, false), (.adcSeq, true)]) ∧ (s.adcOn = true) ∧ (s.ser.adc = some r) ∧ (s.ser.adcHeld = none)) ∧
    (∃ (r : AdcRun) (x : Bool) (c : Instr) (q : Bool) (s : State), ((c, q) ∈ [(Instr.adcStart, false), (.adcSeq, true)]) ∧ (s.adcOn = true) ∧ (s.ser.adc = some r) ∧ (s.ser.adcHeld = some x)) ∧
    (∃ (r : AdcRun) (s : State), (s.adcOn = true) ∧ (s.ser.adc = some r) ∧ (s.ser.adcHeld = none)) :=
  ⟨⟨1, false, wSer, by decide +kernel⟩,
   ⟨1, true, { wSer.wr (Reg.GPIO_EDGE 0) 0xC with ser := { sampled := true } }, by decide +kernel⟩,
   ⟨1, true, { wSer with ser := { sampled := true } }, by decide +kernel⟩,
   ⟨UP, by decide +kernel⟩,
   ⟨.adcSeq, true, wSer.wr Reg.ADC_CTRL 0x20, by decide +kernel⟩,
   ⟨⟨0, 0, false, 44⟩, .adcSeq, true, { wSer with ser := { adc := some ⟨0, 0, false, 44⟩ } }, by decide +kernel⟩,
   ⟨⟨0, 0, false, 44⟩, true, .adcSeq, true, { wSer with ser := { adc := some ⟨0, 0, false, 44⟩, adcHeld := some true } }, by decide +kernel⟩,
   ⟨⟨0, 0, false, 44⟩, { wSer with ser := { adc := some ⟨0, 0, false, 44⟩ } }, by decide +kernel⟩⟩

theorem met_pins_and_conversions_follow_their_commands_3 :
    (∃ (r : AdcRun) (q : Bool) (s : State), (s.adcOn = true) ∧ (s.ser.adc = some r) ∧ (s.ser.adcHeld = some q)) ∧
    (∃ (code : Fin 4096) (s : State), (s.ser.adc = none ∨ s.asleep = true)) ∧
    (∃ (c ch : Nat) (r : AdcRun) (code : Fin 4096) (s : State), (s.ser.adc = some r) ∧ (s.asleep = false) ∧ (ch = s.rdF Reg.ADC_SEQ (4 * r.entry) 4) ∧ (c = (if s.adcBonded ch then code.val else 0)) ∧ (r.entry < r.last) ∧ (ch ≠ 9)) ∧
    (∃ (c ch : Nat) (r : AdcRun) (code : Fin 4096) (s : State), (s.ser.adc = some r) ∧ (s.asleep = false) ∧ (ch = s.rdF Reg.ADC_SEQ (4 * r.entry) 4) ∧ (c = (if s.adcBonded ch then code.val else 0)) ∧ (r.last ≤ r.entry) ∧ (s.ser.adcHeld = none)) ∧
    (∃ (q : Bool) (c ch : Nat) (r : AdcRun) (code : Fin 4096) (s : State), (s.ser.adc = some r) ∧ (s.asleep = false) ∧ (ch = s.rdF Reg.ADC_SEQ (4 * r.entry) 4) ∧ (c = (if s.adcBonded ch then code.val else 0)) ∧ (r.last ≤ r.entry) ∧ (s.ser.adcHeld = some q)) ∧
    (∃ (p : Nat) (k : Fin 8) (j : Fin 2) (v : Word) (s : State), (p = s.rdF (Reg.GPIO_TP_CFG k) 0 6) ∧ (s.cyc.ports = [k.val]) ∧ (s.isGpio p = true) ∧ (s.rdF (Reg.GPIO_TP_CFG k) 8 2 = 1) ∧ (j.val = p / 32)) ∧
    (∃ (p : Nat) (k l : Fin 8) (s : State), (s.cyc.ports = [l.val]) ∧ (k.val < l.val) ∧ (p = s.rdF (Reg.GPIO_TP_CFG k) 0 6) ∧ (p = s.rdF (Reg.GPIO_TP_CFG l) 0 6) ∧ (s.isGpio p = true) ∧ (s.rdF (Reg.GPIO_TP_CFG k) 8 2 = 1) ∧ (s.rdF (Reg.GPIO_TP_CFG l) 8 2 = 2)) :=
  ⟨⟨⟨0, 0, false, 44⟩, true, { wSer with ser := { adc := some ⟨0, 0, false, 44⟩, adcHeld := some true } }, by decide +kernel⟩,
   ⟨5, wSer, by decide +kernel⟩,
   ⟨7, 2, ⟨0, 1, true, 44⟩, 7, { wSer.wr Reg.ADC_SEQ 2 with ser := { adc := some ⟨0, 1, true, 44⟩ } }, by decide +kernel⟩,
   ⟨7, 9, ⟨1, 1, true, 44⟩, 7, { wSer.wr Reg.ADC_SEQ 0x90 with ser := { adc := some ⟨1, 1, true, 44⟩ } }, by decide +kernel⟩,
   ⟨false, 7, 2, ⟨0, 0, false, 44⟩, 7, { wSer.wr Reg.ADC_SEQ 2 with ser := { adc := some ⟨0, 0, false, 44⟩, adcHeld := some false } }, by decide +kernel⟩,
   ⟨1, 0, 0, 3, { (wSer.wr (Reg.GPIO_TP_CFG 0) 257).wr (Reg.GPIO_OUT 0) 2 with cyc := { wSer.cyc with ports := [0], gpioBase := [(0, 1), (1, 0)] } }, by decide +kernel⟩,
   ⟨1, 1, 5, { (wSer.wr (Reg.GPIO_TP_CFG 1) 257).wr (Reg.GPIO_TP_CFG 5) 513 with cyc := { wSer.cyc with ports := [5], gpioBase := [(0, 3), (1, 0)] } }, by decide +kernel⟩⟩

theorem met_commands_without_their_premise_change_nothing_1 :
    (∃ (b : Bool) (s : State), (s.front.strobes = [])) ∧
    (∃ (s : State), (s.front.going = none)) ∧
    (∃ (s : State), (s.fsm ≠ 3) ∧ (s.fsm ≠ 7)) ∧
    (∃ (l : List Byte) (s : State), (s.fsm ≠ 7)) ∧
    (∃ (p : Bool) (rl : Fin 256) (s : State), (s.fsm ≠ 4) ∧ (s.fsm ≠ 5)) ∧
    (∃ (power : Int) (s : State), (s.link.tuneReq = none ∨ s.radioFree = false ∨ s.bit Reg.CAL_STATUS 0 = true)) ∧
    (∃ (first : Fin 256) (rest : List (Fin 64 × Fin 64 × Fin 256)) (s : State), (s.front.tuning = none ∨ s.fsm ≠ 5)) ∧
    (∃ (s : State), (s.fsm = 0 ∨ s.front.going.isSome = true)) ∧
    (∃ (p : Int) (s : State), (s.fsm ≠ 3)) ∧
    (∃ (c : Fin 256) (s : State), (s.front.stage ≠ 1 ∨ c.val ≤ s.rdF Reg.MODEM_CFG 8 8)) :=
  ⟨⟨true, UP, by decide +kernel⟩,
   ⟨UP, by decide +kernel⟩,
   ⟨UP, by decide +kernel⟩,
   ⟨[1], UP, by decide +kernel⟩,
   ⟨true, 10, UP, by decide +kernel⟩,
   ⟨5, UP, by decide +kernel⟩,
   ⟨9, [], UP, by decide +kernel⟩,
   ⟨UP, by decide +kernel⟩,
   ⟨5, UP, by decide +kernel⟩,
   ⟨255, UP, by decide +kernel⟩⟩

theorem met_commands_without_their_premise_change_nothing_2 :
    (∃ (s : State), (s.front.stage ≠ 1)) ∧
    (∃ (e : Fin 33) (r : Nat) (s : State), (s.front.stage ≠ 1 ∨ s.rdF Reg.MODEM_CFG 20 2 < e.val)) ∧
    (∃ (h : BitVec 48) (r : Nat) (s : State), (s.front.stage ≠ 2 ∨ s.front.gen2 = false)) ∧
    (∃ (l : List Byte) (m : RxMeas) (s : State), (s.fsm ≠ 3)) ∧
    (∃ (s : State), (s.link.derive_ = none)) ∧
    (∃ (k : Fin 4) (s : State), ((s.mb k).phase ≠ .running)) ∧
    (∃ (k : Fin 4) (s : State), ((s.mb k).phase ≠ .refusing)) ∧
    (∃ (src : Fin 128) (s : State), (s.fault.waiting.all (fun w => fld w 0 7 != src.val) = true)) ∧
    (∃ (s : State), (s.bit Reg.FAULT_STATUS 0 = false ∨ s.rdF Reg.FAULT_STATUS 16 16 ≠ 0)) :=
  ⟨⟨UP, by decide +kernel⟩,
   ⟨9, 99, UP, by decide +kernel⟩,
   ⟨5, 9, UP, by decide +kernel⟩,
   ⟨[], { snr := [], evm := [], iq := 5, dc := 6, cfo := 0, hdrSnr := 0, eye := 0, rssi := 0 }, UP, by decide +kernel⟩,
   ⟨UP, by decide +kernel⟩,
   ⟨0, UP, by decide +kernel⟩,
   ⟨0, UP, by decide +kernel⟩,
   ⟨9, { UP with fault := { waiting := [slipWord 5 1 1 9, slipWord 6 1 0 0] } }, by decide +kernel⟩,
   ⟨UP, by decide +kernel⟩⟩

end Sys2Proof.Tests
end

section
/-! PROOF. Accesses to absent units and banks, to unmapped addresses, to queue memory and to link words of cells: what
each is answered and what it leaves unchanged (00, 01). -/

namespace Sys2Proof.Machine

/-! ### The address map at a word's first byte -/

theorem wordAligned_lt_iff {a c : Nat} (hc : c % 4 = 0) : a / 4 * 4 < c ↔ a < c := by omega

theorem le_wordAligned_iff {a c : Nat} (hc : c % 4 = 0) : c ≤ a / 4 * 4 ↔ c ≤ a := by omega

theorem wordAligned_page (a : Nat) : a / 4 * 4 / 0x1000 = a / 0x1000 := by omega

/-- No region of the map begins or ends inside a word. -/
theorem region_wordAligned (a : Nat) : region (a / 4 * 4) = region a := by
  simp (disch := decide) only [region, wordAligned_lt_iff, le_wordAligned_iff, wordAligned_page]

/-- The mover's page is one of the core die's. -/
theorem region_of_moverPage {a : Nat} (hp : a / 0x1000 = 0x40030) : region a = .core := by
  have hlo : 0x40030000 ≤ a := by omega
  have hhi : a < 0x40031000 := by omega
  have hrom : ¬ a < 0x10000 := by omega
  have hxip : ¬ a < 0x10800000 := by omega
  have hsram : ¬ a < 0x20060000 := by omega
  have hqueue : ¬ a < 0x21080000 := by omega
  have hpool : ¬ a < 0x22080000 := by omega
  simp [region, corePage, hp, hrom, hxip, hsram, hqueue, hpool]

theorem moverPage_ne_of_region_ne_core {a : Nat} (h : region a ≠ .core) : a / 0x1000 ≠ 0x40030 :=
  fun hp => h (region_of_moverPage hp)

variable {s : State} {m : Master} {a src : Nat}

/-- The mover is present on every variant (R4). -/
theorem absentAt_of_moverPage (s : State) (hp : a / 0x1000 = 0x40030) : s.absentAt a = none := by
  have hhif : ¬ 0x40048100 ≤ a := by omega
  simp [State.absentAt, region_of_moverPage hp, hp, hhif]

theorem moverPage_ne_of_absentAt (h : s.absentAt a = some src) : a / 0x1000 ≠ 0x40030 := by
  intro hp
  simp [absentAt_of_moverPage s hp] at h

/-- What is absent on a variant lies on the core die. -/
theorem farDie_of_absentAt (h : s.absentAt a = some src) : farDie a = none := by
  unfold State.absentAt at h
  unfold farDie
  split <;> simp_all

/-! ### Accesses of a master to the interconnect -/

theorem access_write_of_core {addr v : Word} (h : farDie (addr.toNat / 4 * 4) = none) :
    s.access m true addr v = State.answerWith (s.busWrite m (addr.toNat / 4 * 4) 4 v.toNat) := by
  simp [State.access, h]

theorem access_read_of_core {addr v : Word} (h : farDie (addr.toNat / 4 * 4) = none) :
    s.access m false addr v = State.answerWith (s.busRead m (addr.toNat / 4 * 4) 4) := by
  simp [State.access, h]

/-- Away from the mover's registers a write is the interconnect's. -/
theorem busWrite_of_moverPage_ne (n v : Nat) (h : a / 0x1000 ≠ 0x40030) :
    s.busWrite m a n v = s.busWriteCore m a n v := by
  simp [State.busWrite, h]

theorem busRead_of_absentAt (n : Nat) (h : s.absentAt a = some src) (hm : s.locked m = false) :
    s.busRead m a n = (.data 0, s.absentSlip src a) := by
  simp [State.busRead, h, hm]

theorem busWrite_of_absentAt (n v : Nat) (h : s.absentAt a = some src) (hm : s.locked m = false) :
    s.busWrite m a n v = (.data 0, s.absentSlip src a) := by
  rw [busWrite_of_moverPage_ne n v (moverPage_ne_of_absentAt h)]
  simp [State.busWriteCore, h, hm]

/-- Queue memory takes no write but the queue engine's (R365). -/
theorem busWrite_queueMemory (n v : Nat) (hr : region a = .queue) (ha : s.absentAt a = none) (hq : m ≠ .queue)
    (hm : s.locked m = false) : s.busWrite m a n v = (.error, s.absentSlip 32 a) := by
  rw [busWrite_of_moverPage_ne n v (moverPage_ne_of_region_ne_core (by simp [hr]))]
  simp [State.busWriteCore, ha, hm, hr, hq]

/-- A link word of a cell takes no write (R364). -/
theorem busWrite_linkWord (n v : Nat) (hr : region a = .pool) (hl : a % 128 < 4) (ha : s.absentAt a = none)
    (hm : s.locked m = false) : s.busWrite m a n v = (.data 0, s) := by
  rw [busWrite_of_moverPage_ne n v (moverPage_ne_of_region_ne_core (by simp [hr]))]
  simp [State.busWriteCore, ha, hm, hr, State.poolWrite, hl]

/-! ### Absent units and banks (R6 to R8) -/

theorem exec_absentUnitRead_of_absentAt {addr : Word} (h : s.absentAt addr.toNat = some src) (hm : s.locked m = false) :
    exec (.absentUnitRead m addr) s = .next ((s.slip src 0x01 0 addr.toNat).answer 0) := by
  simp [execAbsentUnitRead, h, hm, State.absentSlip]

theorem exec_absentUnitWrite_of_absentAt {addr : Word} (v : Word) (h : s.absentAt addr.toNat = some src)
    (hm : s.locked m = false) :
    exec (.absentUnitWrite m addr v) s = .next ((s.slip src 0x01 0 addr.toNat).answer 0) := by
  simp [execAbsentUnitWrite, h, hm, State.absentSlip]

theorem exec_registerWrite_of_absentAt {addr : Word} (v : Word) (h : s.absentAt (addr.toNat / 4 * 4) = some src)
    (hm : s.locked m = false) :
    exec (.registerWrite m addr v) s = .next ((s.slip src 0x01 0 (addr.toNat / 4 * 4)).answer 0) := by
  rw [exec_registerWrite, execRegisterWrite, access_write_of_core (farDie_of_absentAt h), busWrite_of_absentAt _ _ h hm]
  rfl

theorem exec_rcRegisterRead_of_absentAt {addr : Word} (h : s.absentAt (addr.toNat / 4 * 4) = some src)
    (hm : s.locked m = false) :
    exec (.rcRegisterRead m addr) s = .next ((s.slip src 0x01 0 (addr.toNat / 4 * 4)).answer 0) := by
  rw [exec_rcRegisterRead, execRcRegisterRead, access_read_of_core (farDie_of_absentAt h), busRead_of_absentAt _ h hm]
  rfl

/-! ### Unmapped addresses, boot ROM and the XIP window (R28, R29) -/

/-- An access that R28 and R29 answer as unmapped: to an address of no region, or a write to boot ROM or the XIP window. -/
def unmappedKind (w : Bool) (a : Nat) : Prop := region a = .unmapped ∨ (w = true ∧ (region a = .rom ∨ region a = .xip))

theorem exec_unmappedAccess_of_unmappedKind {w : Bool} {addr : Word} (h : unmappedKind w addr.toNat)
    (ha : s.absentAt addr.toNat = none) (hm : s.locked m = false) :
    exec (.unmappedAccess m w addr) s = .next ((s.unmapped m w addr.toNat).answerError) := by
  rw [exec_unmappedAccess]
  obtain hr | ⟨rfl, hr | hr⟩ := h <;> simp [execUnmappedAccess, hm, ha, hr]

/-- The first unmapped access is captured in SYSCTL_BUS_ADDR and SYSCTL_BUS_INFO. -/
theorem unmapped_captured (w : Bool) (a : Nat) (h : s.bit Reg.BUS_INFO 31 = false) :
    s.unmapped m w a = ((s.slip 0 0x02 1 a).wr Reg.BUS_ADDR (word a)).wr Reg.BUS_INFO
      (word (masterId m + b2n w * 8 + 2 ^ 31)) := by
  simp [State.unmapped, h]

/-- While a capture is held, a further unmapped access is counted. -/
theorem unmapped_counted (w : Bool) (a : Nat) (h : s.bit Reg.BUS_INFO 31 = true) :
    s.unmapped m w a = (s.slip 0 0x02 1 a).satAdd Reg.BUS_INFO 8 8 := by
  simp [State.unmapped, h]

theorem b2n_mul (w : Bool) (k : Nat) : b2n w * k = if w then k else 0 := by
  cases w <;> simp [b2n]

theorem unmapped_captures (w : Bool) (addr : Word) (h : s.bit Reg.BUS_INFO 31 = false) :
    (s.unmapped m w addr.toNat).rd Reg.BUS_ADDR = addr ∧
    (s.unmapped m w addr.toNat).rd Reg.BUS_INFO = word (masterId m + (if w then 8 else 0) + 2 ^ 31) ∧
    OnlyRegs [Reg.BUS_ADDR, Reg.BUS_INFO] (s.slip 0 0x02 1 addr.toNat) (s.unmapped m w addr.toNat) := by
  rw [unmapped_captured w _ h, b2n_mul]
  refine ⟨?_, rd_wr_same _ _ _, ((OnlyRegs.refl _ _).wr (by simp)).wr (by simp)⟩
  rw [rd_wr_ne _ _ (by decide), rd_wr_same]
  simp

theorem unmapped_counts (w : Bool) (a : Nat) (h : s.bit Reg.BUS_INFO 31 = true) :
    (s.unmapped m w a).rdF Reg.BUS_INFO 8 8 = min (s.rdF Reg.BUS_INFO 8 8 + 1) 255 ∧
    (s.unmapped m w a).rdF Reg.BUS_INFO 0 8 = s.rdF Reg.BUS_INFO 0 8 ∧
    (s.unmapped m w a).bit Reg.BUS_INFO 31 = true ∧
    OnlyRegs [Reg.BUS_INFO] (s.slip 0 0x02 1 a) (s.unmapped m w a) := by
  rw [unmapped_counted w a h]
  refine ⟨?_, ?_, ?_, (OnlyRegs.refl _ _).satAdd (by simp)⟩
  · rw [rdF_satAdd_same _ (by decide), rdF_slip]
    rfl
  · rw [State.satAdd, rdF_wrF_ne _ _ (by decide), rdF_slip]
  · rw [State.satAdd, bit_wrF_ne _ (by decide), bit_slip, h]

/-! ### Queue memory and the link words of cells (R364, R365) -/

theorem exec_queueMemoryWrite_of_queue {addr : Word} (v : Word) (hr : region (addr.toNat / 4 * 4) = .queue)
    (ha : s.absentAt (addr.toNat / 4 * 4) = none) (hq : m ≠ .queue) (hm : s.locked m = false) :
    exec (.queueMemoryWrite m addr v) s = .next ((s.slip 32 0x01 0 (addr.toNat / 4 * 4)).answerError) := by
  have hcore : farDie (addr.toNat / 4 * 4) = none := by simp [farDie, hr]
  have hqueue : region addr.toNat = .queue := by rw [← region_wordAligned, hr]
  rw [exec_queueMemoryWrite, execQueueMemoryWrite, hqueue, if_pos (by rfl), access_write_of_core hcore,
    busWrite_queueMemory _ _ hr ha hq hm]
  rfl

theorem exec_bufferLinkWordWrite_of_linkWord {addr : Word} (v : Word) (hr : region addr.toNat = .pool)
    (hl : addr.toNat % 128 < 4) (ha : s.absentAt (addr.toNat / 4 * 4) = none) (hm : s.locked m = false) :
    exec (.bufferLinkWordWrite m addr v) s = .next (s.answer 0) := by
  have hpool : region (addr.toNat / 4 * 4) = .pool := by rw [region_wordAligned, hr]
  have hcore : farDie (addr.toNat / 4 * 4) = none := by simp [farDie, hpool]
  have hlink : addr.toNat / 4 * 4 % 128 < 4 := by omega
  rw [exec_bufferLinkWordWrite, execBufferLinkWordWrite, hr, if_pos (by simp [hl]), access_write_of_core hcore,
    busWrite_linkWord _ _ hpool hlink ha hm]
  rfl

end Sys2Proof.Machine
end

section

open Sys2Proof Sys2Proof.Machine

/-- Settles O5: each row's answer is one lemma about its command; the captures rest on what an unmapped access does to
SYSCTL_BUS_ADDR and SYSCTL_BUS_INFO. -/
theorem absentAndUnmappedAccessesAreAnswered : Obligations.AbsentAndUnmappedAccessesAreAnswered := by
  unfold Obligations.AbsentAndUnmappedAccessesAreAnswered
  refine ⟨?absentRead, ?absentWrite, ?absentRegister, ?captured, ?counted, ?queueMemory, ?linkWord⟩
  case absentRead => exact fun _ _ _ _ ha hm => exec_absentUnitRead_of_absentAt ha hm
  case absentWrite => exact fun _ _ v _ _ ha hm => exec_absentUnitWrite_of_absentAt v ha hm
  case absentRegister =>
    exact fun _ _ v _ _ ha hm => ⟨exec_registerWrite_of_absentAt v ha hm, exec_rcRegisterRead_of_absentAt ha hm⟩
  case captured =>
    intro m w addr s hk ha hm hb
    obtain ⟨haddr, hinfo, honly⟩ := unmapped_captures (m := m) w addr hb
    exact ⟨_, exec_unmappedAccess_of_unmappedKind hk ha hm, haddr, hinfo, honly.answerError⟩
  case counted =>
    intro m w addr s hk ha hm hb
    obtain ⟨hcount, hlow, hheld, honly⟩ := unmapped_counts (m := m) w addr.toNat hb
    exact ⟨_, exec_unmappedAccess_of_unmappedKind hk ha hm, hcount, hlow, hheld, honly.answerError⟩
  case queueMemory => exact fun _ _ v _ hr ha hq hm => exec_queueMemoryWrite_of_queue v hr ha hq hm
  case linkWord => exact fun _ _ v _ hr hl ha hm => exec_bufferLinkWordWrite_of_linkWord v hr hl ha hm

end

section
/-! PROOF. COMMIT, RETIRE and the refusal of a command while another is in progress: how a CATL command ends, what a
refusal leaves unchanged, and how a write of CATL_CTRL reaches the unit (02; R59 to R61, R63). -/

namespace Sys2Proof.Machine

variable (s : State)

/-- A bit of a field that was written reads the bit of the value. -/
theorem bit_wrF_same {a lo len n i : Nat} (hlo : lo ≤ i) (hhi : i < lo + len) (h32 : i < 32) :
    (s.wrF a lo len n).bit a i = n.testBit (i - lo) := by
  rw [State.bit, rd_wrF_same, bitOf, getLsbD_setFld _ _ _ _ _ h32, if_pos ⟨hlo, hhi⟩]

@[simp] theorem catBusy_answer (v : Word) : (s.answer v).catBusy = s.catBusy := bit_answer s v _ 0

@[simp] theorem catPhase_answer (v : Word) : (s.answer v).catPhase = s.catPhase := rdF_answer s v _ 1 3

/-! ### A refused command (R61) -/

@[simp] theorem catBusy_catRefuse : s.catRefuse.catBusy = s.catBusy := bit_wrF_ne s (by decide)

@[simp] theorem catPhase_catRefuse : s.catRefuse.catPhase = s.catPhase := rdF_wrF_ne s _ (by decide)

theorem code_catRefuse : s.catRefuse.rdF Reg.CATL_STATUS 8 5 = 0xE := rdF_wrF_same s _ (by decide)

theorem onlyRegs_catRefuse : OnlyRegs [Reg.CATL_STATUS] s s.catRefuse := (OnlyRegs.refl _ s).wrF (by simp)

/-- The commands of the CATL unit. -/
def catlCommands : List Instr :=
  [.catlVerify, .catlApply, .catlCommit, .catlRetire, .catlSetActive false false, .catlSetActive false true,
    .catlSetActive true false, .catlSetActive true true]

theorem exec_catlSetActive_of_busy (app slot : Bool) (h : s.catBusy = true) :
    exec (.catlSetActive app slot) s = .next s.catRefuse := by
  simp [execCatlSetActive, h]

/-- Each command of the unit starts with the same test of BUSY. -/
theorem exec_catlCommand_of_busy {c : Instr} (hc : c ∈ catlCommands) (h : s.catBusy = true) :
    exec c s = .next s.catRefuse := by
  simp only [catlCommands, List.mem_cons, List.not_mem_nil, or_false] at hc
  obtain rfl | rfl | rfl | rfl | rfl | rfl | rfl | rfl := hc
  · simp [execCatlVerify, h]
  · simp [execCatlApply, h]
  · simp [execCatlCommit, h]
  · simp [execCatlRetire, h]
  all_goals exact exec_catlSetActive_of_busy s _ _ h

/-! ### A word written to a core-die register -/

/-- A whole word at its own address fills every lane. -/
theorem toLane_word {a : Nat} (v : Word) (ha : a % 4 = 0) : toLane v.toNat a 4 = v := by
  have hv : v.toNat % 2 ^ (8 * 4) = v.toNat := Nat.mod_eq_of_lt v.isLt
  rw [toLane, hv, ha, Nat.mul_zero, Nat.pow_zero, Nat.mul_one, word, BitVec.ofNat_toNat, BitVec.setWidth_eq]

variable {s} {m : Master} {a : Nat}

/-- The interconnect hands a word for a register of the core die to its unit. -/
theorem busWrite_of_coreRegister (v : Word) (hr : region a = .core) (hmv : a / 0x1000 ≠ 0x40030)
    (hb : bufferAt a = false) (h4 : a % 4 = 0) (ha : s.absentAt a = none) (hm : s.locked m = false) :
    s.busWrite m a 4 v.toNat = (.data 0, s.coreWrite m a v) := by
  have hword : a / 4 * 4 = a := by omega
  rw [busWrite_of_moverPage_ne 4 v.toNat hmv]
  simp [State.busWriteCore, hm, ha, hr, hb, toLane_word v h4, hword]

theorem exec_registerWrite_of_coreRegister {addr : Word} (v : Word) (h4 : addr.toNat / 4 * 4 = a)
    (hr : region a = .core) (hmv : a / 0x1000 ≠ 0x40030) (hb : bufferAt a = false) (ha : s.absentAt a = none)
    (hm : s.locked m = false) : exec (.registerWrite m addr v) s = .next ((s.coreWrite m a v).answer 0) := by
  have hcore : farDie (addr.toNat / 4 * 4) = none := by simp [h4, farDie, hr]
  rw [exec_registerWrite, execRegisterWrite, access_write_of_core hcore, h4,
    busWrite_of_coreRegister v hr hmv hb (by omega) ha hm]
  rfl

/-- CATL is present on every variant (R4). -/
theorem absentAt_catlCtrl (s : State) : s.absentAt Reg.CATL_CTRL = none := rfl

/-- Unless the part is held, a write of the CATL page is the unit's. -/
theorem coreWrite_catlCtrl (v : Word) (h : s.isHeld = false) :
    s.coreWrite m Reg.CATL_CTRL v = s.writeCatl Reg.CATL_CTRL v := by
  simp [State.coreWrite, h, Reg.CATL_CTRL]

theorem writeCatl_of_busy (v : Word) (hv : fld v 0 4 ≠ 0) (h : s.catBusy = true) :
    s.writeCatl Reg.CATL_CTRL v = s.catRefuse := by
  simp [State.writeCatl, hv, h]

theorem exec_registerWrite_catlCtrl_of_busy (v : Word) (hm : s.locked m = false) (hh : s.isHeld = false)
    (hv : fld v 0 4 ≠ 0) (h : s.catBusy = true) :
    exec (.registerWrite m (word Reg.CATL_CTRL) v) s = .next (s.catRefuse.answer 0) := by
  rw [exec_registerWrite_of_coreRegister (a := Reg.CATL_CTRL) v (by decide) (by decide) (by decide) (by decide)
    (absentAt_catlCtrl s) hm, coreWrite_catlCtrl v hh, writeCatl_of_busy v hv h]

/-! ### The end of a command (R63) -/

variable (s) (code : Nat)

/-- What CATL_STATUS reads as a command ends. -/
theorem rd_catEnd_status : (s.catEnd code).rd Reg.CATL_STATUS =
    (((s.wrF Reg.CATL_STATUS 0 4 0).wrF Reg.CATL_STATUS 8 5 code).setB Reg.CATL_STATUS 16 true).rd Reg.CATL_STATUS :=
  rd_event_ne _ (by decide) (by decide) (by decide)

/-- The end of a command leaves every register alone but CATL_STATUS and those of event 6. -/
theorem rd_catEnd_ne (h : a ∉ Reg.PWR_COUNT :: Reg.CATL_STATUS :: eventRegs 6) : (s.catEnd code).rd a = s.rd a := by
  simp only [eventRegs, List.mem_cons, List.not_mem_nil, or_false, not_or] at h
  obtain ⟨hpwr, hstatus, hpend, hovr⟩ := h
  calc (s.catEnd code).rd a
    _ = (((s.wrF Reg.CATL_STATUS 0 4 0).wrF Reg.CATL_STATUS 8 5 code).setB Reg.CATL_STATUS 16 true).rd a :=
        rd_event_ne _ hpend hovr hpwr
    _ = s.rd a := by rw [rd_setB_ne _ _ _ hstatus, rd_wrF_ne _ _ _ _ hstatus, rd_wrF_ne _ _ _ _ hstatus]

theorem catBusy_catEnd : (s.catEnd code).catBusy = false := by
  rw [State.catBusy, bit_congr (rd_catEnd_status s code), bit_setB_ne _ _ (by decide), bit_wrF_ne _ (by decide),
    bit_wrF_same _ (by decide) (by decide) (by decide)]
  rfl

theorem code_catEnd : (s.catEnd code).rdF Reg.CATL_STATUS 8 5 = code % 32 := by
  rw [rdF_congr (rd_catEnd_status s code), State.setB, rdF_wrF_ne _ _ (by decide), rdF_wrF_same _ _ (by decide)]
  rfl

theorem done_catEnd : (s.catEnd code).bit Reg.CATL_STATUS 16 = true := by
  rw [bit_congr (rd_catEnd_status s code), bit_setB_same _ _ (by decide)]

theorem pending1_catEnd : (s.catEnd code).pending1 6 = true := bit_event_pend _ 6 (by decide)

theorem cat_catEnd : (s.catEnd code).cat = { s.cat with cmd := 0, reading := false, image := [], folios := 0 } :=
  event_cat _ 6

@[simp] theorem boot_catEnd : (s.catEnd code).boot = s.boot := event_boot _ 6

variable {s} {l : List Nat} {t : State}

/-- A frame of register writes says as much about the states with another catalogue state. -/
theorem OnlyRegs.withCat (c : CatSt) (h : OnlyRegs l s t) : OnlyRegs l { s with cat := c } { t with cat := c } := by
  obtain ⟨hregs, hmem, ht⟩ := h
  generalize t.regs = r at ht
  subst ht
  exact ⟨hregs, hmem, rfl⟩

/-- A command that has changed registers only ends: besides the catalogue state, CATL_STATUS and event 6. -/
theorem OnlyRegs.catEnd (h : OnlyRegs l s t) (hstatus : Reg.CATL_STATUS ∈ l) (hpend : Reg.INTC_PEND (6 / 32) ∈ l)
    (hovr : Reg.INTC_OVR ∈ l) : OnlyEvents l { s with cat := (t.catEnd code).cat } (t.catEnd code) := by
  rw [cat_catEnd]
  exact ((((h.wrF hstatus).wrF hstatus).setB hstatus).withCat _).events.event hpend hovr

/-! ### COMMIT (R59) -/

/-- The minimum build is only ever raised. -/
theorem minBuild_raiseMin (n : Nat) : (s.raiseMin n).boot.minBuild = max s.boot.minBuild n := by
  unfold State.raiseMin
  split
  · next h => exact (Nat.max_eq_right (Nat.le_of_lt h)).symm
  · next h => exact (Nat.max_eq_left (Nat.le_of_not_lt h)).symm

theorem onlyRegs_raiseMin (n : Nat) (h : Reg.CATL_MIN_BUILD ∈ l) :
    OnlyRegs l { s with boot := { s.boot with minBuild := (s.raiseMin n).boot.minBuild } } (s.raiseMin n) := by
  unfold State.raiseMin
  split
  · exact (OnlyRegs.refl _ _).wr h
  · exact OnlyRegs.refl _ _

theorem exec_catlCommit_of_not_busy (h : s.catBusy = false) :
    exec .catlCommit s = .next ((s.raiseMin (s.rd Reg.CATL_BUILD).toNat).catEnd 0) := by
  simp [execCatlCommit, h]

/-! ### RETIRE (R60) -/

theorem exec_catlRetire_of_rotationKey (h : s.catBusy = false) (hk : s.bit Reg.CATL_INFO 3 = true) :
    exec .catlRetire s = .next (s.retireKey.catEnd 0) := by
  simp [execCatlRetire, h, hk]

theorem exec_catlRetire_of_primaryKey (h : s.catBusy = false) (hk : s.bit Reg.CATL_INFO 3 = false) :
    exec .catlRetire s = .next (s.catEnd 0x10) := by
  simp [execCatlRetire, h, hk]

theorem onlyRegs_retireKey (h : Reg.CATL_INFO ∈ l) :
    OnlyRegs l { s with boot := { s.boot with retired := true } } s.retireKey :=
  (OnlyRegs.refl _ _).setB h

/-- CATL_INFO shows the primary key retired, and goes on to show it as the command ends. -/
theorem retiredBit_catEnd_retireKey (s : State) (code : Nat) :
    (s.retireKey.catEnd code).bit Reg.CATL_INFO 4 = true := by
  rw [bit_congr (rd_catEnd_ne _ _ (by decide)), State.retireKey, bit_setB_same _ _ (by decide)]

end Sys2Proof.Machine
end

section

open Sys2Proof Sys2Proof.Machine

/-- Settles O13: COMMIT and RETIRE are an update of the boot state followed by the end of a command, which has its own
frame; while a command is in progress all five commands and the write of CATL_CTRL come to the one refusal. -/
theorem commitRaisesAndRetireRetiresAndBusyRefuses : Obligations.CommitRaisesAndRetireRetiresAndBusyRefuses := by
  unfold Obligations.CommitRaisesAndRetireRetiresAndBusyRefuses
  refine ⟨?commit, ?retire, ?retireRefused, ?commandBusy, ?writeBusy⟩
  case commit =>
    intro s h
    refine ⟨_, exec_catlCommit_of_not_busy h, ?_, catBusy_catEnd _ _, done_catEnd _ _, pending1_catEnd _ _,
      by rw [cat_catEnd], code_catEnd _ _, ?_⟩
    · rw [boot_catEnd, minBuild_raiseMin]
    · rw [boot_catEnd]
      exact (onlyRegs_raiseMin _ (by simp)).catEnd 0 (by simp) (by simp [eventRegs]) (by simp [eventRegs])
  case retire =>
    intro s h hk
    refine ⟨_, exec_catlRetire_of_rotationKey h hk, by rw [boot_catEnd]; rfl, retiredBit_catEnd_retireKey s 0,
      catBusy_catEnd _ _, done_catEnd _ _, pending1_catEnd _ _, by rw [cat_catEnd], code_catEnd _ _, ?_⟩
    exact (onlyRegs_retireKey (by simp)).catEnd 0 (by simp) (by simp [eventRegs]) (by simp [eventRegs])
  case retireRefused => exact fun s h hk => ⟨_, exec_catlRetire_of_primaryKey h hk, boot_catEnd s 0x10⟩
  case commandBusy =>
    exact fun c s hc h => ⟨_, exec_catlCommand_of_busy s hc h, code_catRefuse s, by simp [h], catPhase_catRefuse s,
      onlyRegs_catRefuse s⟩
  case writeBusy =>
    exact fun m v s hm hh hv h => ⟨_, exec_registerWrite_catlCtrl_of_busy v hm hh hv h,
      by rw [rdF_answer, code_catRefuse], by simp [h], by simp, (onlyRegs_catRefuse s).answer⟩

end

section
/-! PROOF. The keys of the reset controller: BOOT_OK, ERRATA_CLR, the rewrite of the errata mirror and the release of
the pad hold (03; R71, R86, R88, R90); before them, that a record written to the front matter is read back. -/

namespace Sys2Proof.Machine

/-! ### Byte order -/

@[simp] theorem length_leBytes (n v : Nat) : (leBytes n v).length = n := by
  induction n generalizing v with
  | zero => rfl
  | succ n ih => simp [leBytes, ih]

/-- A number is read back from its low bytes. -/
theorem leNat_leBytes (n v : Nat) : leNat (leBytes n v) = v % 256 ^ n := by
  induction n generalizing v with
  | zero => simp [leBytes, leNat, Nat.mod_one]
  | succ n ih => simp [leBytes, leNat, ih, byte, Nat.pow_succ', Nat.mod_mul]

theorem leNat_lt (l : List Byte) : leNat l < 256 ^ l.length := by
  induction l with
  | nil => simp [leNat]
  | cons b l ih =>
    have hb : b.toNat < 256 := b.isLt
    simp only [leNat, List.length_cons, Nat.pow_succ]
    omega

/-- The bytes of the number that bytes spell are those bytes. -/
theorem byte_leNat_shiftRight {l : List Byte} {i : Nat} (h : i < l.length) : byte (leNat l >>> (8 * i)) = l[i] := by
  induction l generalizing i with
  | nil => simp at h
  | cons b l ih =>
    have hb : b.toNat < 256 := b.isLt
    cases i with
    | zero =>
      apply BitVec.eq_of_toNat_eq
      simpa [byte, leNat] using hb
    | succ i =>
      have hdiv : (b.toNat + 256 * leNat l) / 256 = leNat l := by omega
      have hshift : leNat (b :: l) >>> (8 * (i + 1)) = leNat l >>> (8 * i) := by
        rw [leNat, Nat.mul_succ, Nat.add_comm (8 * i), Nat.shiftRight_add, Nat.shiftRight_eq_div_pow _ 8, hdiv]
      rw [hshift, ih (by simpa using h), List.getElem_cons_succ]

/-! ### The CRC-32 fits its four bytes -/

theorem crcReflStep_lt {poly w : Nat} (hp : poly < 2 ^ w) (n : Nat) {c : Nat} (hc : c < 2 ^ w) :
    crcReflStep poly n c < 2 ^ w := by
  induction n generalizing c with
  | zero => exact hc
  | succ n ih =>
    have hhalf : c / 2 < 2 ^ w := Nat.lt_of_le_of_lt (Nat.div_le_self c 2) hc
    rw [crcReflStep]
    split
    · exact ih (Nat.xor_lt_two_pow hhalf hp)
    · exact ih hhalf

theorem crcRefl_lt {poly init w : Nat} (hp : poly < 2 ^ w) (hi : init < 2 ^ w) (hw : 8 ≤ w) (l : List Byte) :
    crcRefl poly init l < 2 ^ w := by
  induction l generalizing init with
  | nil => exact hi
  | cons b l ih =>
    have hb : b.toNat < 2 ^ w := Nat.lt_of_lt_of_le b.isLt (Nat.pow_le_pow_right (by decide) hw)
    exact ih (crcReflStep_lt hp 8 (Nat.xor_lt_two_pow hi hb))

theorem crc32_lt (l : List Byte) : crc32 l < 2 ^ 32 :=
  Nat.xor_lt_two_pow (crcRefl_lt (by decide) (by decide) (by decide) l) (by decide)

/-! ### Words of the flash -/

variable (s : State)

theorem flashAt_setFlash_same (p i : Nat) (w : FlashWord) : (s.setFlash p i w).flashAt p i = w :=
  mapGet_mapPut_same _ _ _ _

theorem flashAt_setFlash_ne {p i j : Nat} (w : FlashWord) (h : j ≠ i) :
    (s.setFlash p i w).flashAt p j = s.flashAt p j := by
  have hkey : 256 * p + j ≠ 256 * p + i := by omega
  simp only [State.flashAt, State.setFlash, mapGet_mapPut_ne _ _ _ hkey]

@[simp] theorem physOf_setFlash (p i : Nat) (w : FlashWord) (l : Nat) : (s.setFlash p i w).physOf l = s.physOf l := rfl

@[simp] theorem physOf_eraseFlash (p l : Nat) : (s.eraseFlash p).physOf l = s.physOf l := rfl

/-- The word that eight bytes are programmed as. -/
def flashWordOf (l : List Byte) : FlashWord := { data := BitVec.ofNat 64 (leNat l) }

@[simp] theorem seen_flashWordOf (l : List Byte) : (flashWordOf l).seen = flashWordOf l := rfl

@[simp] theorem ecc_flashWordOf (l : List Byte) : (flashWordOf l).ecc = .good := rfl

theorem toNat_data_flashWordOf {l : List Byte} (h : l.length = 8) : (flashWordOf l).data.toNat = leNat l := by
  have hlt : leNat l < 256 ^ 8 := h ▸ leNat_lt l
  exact Nat.mod_eq_of_lt hlt

/-- Two words are programmed from the bytes of both. -/
theorem progBytes_twoWords (p i : Nat) {a b : List Byte} (ha : a.length = 8) (hb : b.length = 8) :
    s.progBytes p i (a ++ b) = (s.setFlash p i (flashWordOf a)).setFlash p (i + 1) (flashWordOf b) := by
  simp [State.progBytes, List.range_succ, flashWordOf, ha, hb, List.take_left' ha, List.drop_left' ha,
    List.take_of_length_le (Nat.le_of_eq hb)]

/-! ### Bytes of the store die -/

variable {s}

theorem storeBytes_add (off m n : Nat) : s.storeBytes off (m + n) = s.storeBytes off m ++ s.storeBytes (off + m) n := by
  simp [State.storeBytes, List.range_add, Nat.add_assoc, Function.comp_def]

/-- All eight bytes of a word are bytes of that word. -/
theorem storeWord_add {off i : Nat} (h8 : off % 8 = 0) (hi : i < 8) : s.storeWord (off + i) = s.storeWord off := by
  have hsector : (off + i) / 2048 = off / 2048 := by omega
  have hword : (off + i) % 2048 / 8 = off % 2048 / 8 := by omega
  rw [State.storeWord, hsector, hword, State.storeWord]

theorem storeBytes_of_storeWord {off : Nat} {l : List Byte} (h8 : off % 8 = 0) (hl : l.length = 8)
    (hw : s.storeWord off = flashWordOf l) : s.storeBytes off 8 = l := by
  apply List.ext_getElem
  · simp [State.storeBytes, hl]
  · intro i h8i hil
    have hi : i < 8 := by simpa [State.storeBytes] using h8i
    have hlane : (off + i) % 8 = i := by omega
    simp [State.storeBytes, State.storeByte, storeWord_add h8 hi, hw, hlane, toNat_data_flashWordOf hl,
      byte_leNat_shiftRight hil]

/-- Two programmed words are read without an error. -/
theorem storeBad_of_twoWords {off : Nat} {a b : List Byte} (h8 : off % 8 = 0)
    (ha : s.storeWord off = flashWordOf a) (hb : s.storeWord (off + 8) = flashWordOf b) : s.storeBad off 16 = none := by
  have hoff : off / 8 * 8 = off := by omega
  simp [State.storeBad, h8, hoff, List.range_succ, ha, hb]

/-! ### Records in the front matter (R56, R86) -/

/-- What follows the content of a record: its CRC-32, filled up to a word. -/
def recordCheck (content : List Byte) : List Byte := leBytes 4 (crc32 content) ++ [0, 0, 0, 0]

@[simp] theorem length_recordCheck (content : List Byte) : (recordCheck content).length = 8 := by simp [recordCheck]

theorem crc_recordCheck (content : List Byte) : leNat ((recordCheck content).take 4) = crc32 content := by
  rw [recordCheck, List.take_left' (length_leBytes 4 _), leNat_leBytes]
  exact Nat.mod_eq_of_lt (crc32_lt content)

variable {content : List Byte}

/-- A record is two words of its erased sector: the content and its check. -/
theorem putRecord_eq (s : State) (sector : Nat) (h : content.length = 8) :
    s.putRecord sector content = ((s.eraseFlash (s.physOf sector)).setFlash (s.physOf sector) 0
      (flashWordOf content)).setFlash (s.physOf sector) 1 (flashWordOf (recordCheck content)) := by
  rw [State.putRecord, List.append_assoc, ← recordCheck, State.writeSector,
    progBytes_twoWords _ _ _ h (length_recordCheck content)]

theorem storeWord_putRecord_content (sector : Nat) (h : content.length = 8) :
    (s.putRecord sector content).storeWord (sector * 2048) = flashWordOf content := by
  rw [putRecord_eq s sector h, State.storeWord, Nat.mul_div_cancel _ (by decide), Nat.mul_mod_left, physOf_setFlash,
    physOf_setFlash, physOf_eraseFlash, flashAt_setFlash_ne _ _ (by decide), flashAt_setFlash_same, seen_flashWordOf]

theorem storeWord_putRecord_check (sector : Nat) (h : content.length = 8) :
    (s.putRecord sector content).storeWord (sector * 2048 + 8) = flashWordOf (recordCheck content) := by
  have hsector : (sector * 2048 + 8) / 2048 = sector := by omega
  have hword : (sector * 2048 + 8) % 2048 / 8 = 1 := by omega
  rw [putRecord_eq s sector h, State.storeWord, hsector, hword, physOf_setFlash, physOf_setFlash, physOf_eraseFlash,
    flashAt_setFlash_same, seen_flashWordOf]

theorem storeBytes_putRecord (sector : Nat) (h : content.length = 8) :
    (s.putRecord sector content).storeBytes (sector * 2048) 16 = content ++ recordCheck content := by
  rw [storeBytes_add _ 8 8, storeBytes_of_storeWord (by omega) h (storeWord_putRecord_content sector h),
    storeBytes_of_storeWord (by omega) (length_recordCheck content) (storeWord_putRecord_check sector h)]

/-- A record that was written is read back. -/
theorem frontRecord_putRecord (sector : Nat) (h : content.length = 8) :
    (s.putRecord sector content).frontRecord sector = some content := by
  have hbad := storeBad_of_twoWords (by omega) (storeWord_putRecord_content (s := s) sector h)
    (storeWord_putRecord_check sector h)
  have hcrc : field (content ++ recordCheck content) 8 4 = crc32 content := by
    rw [field, List.drop_left' h, crc_recordCheck]
  simp [State.frontRecord, storeBytes_putRecord sector h, hbad, List.take_left' h, hcrc]

/-- Writing a record changes the flash alone. -/
theorem putRecord_eq_withFlash (s : State) (sector : Nat) (h : content.length = 8) :
    s.putRecord sector content =
      { s with store := { s.store with flash := (s.putRecord sector content).store.flash } } := by
  rw [putRecord_eq s sector h]
  rfl

/-! ### The errata mirror (R86, R88) -/

/-- The content of the errata mirror: RSTC_ERRATA and ANNEX. -/
def mirrorContent (e : Word) (annex : Bool) : List Byte := leBytes 4 e.toNat ++ [byte (b2n annex), 0, 0, 0]

@[simp] theorem length_mirrorContent (e : Word) (annex : Bool) : (mirrorContent e annex).length = 8 := by
  simp [mirrorContent]

theorem errata_mirrorContent (e : Word) (annex : Bool) : word (field (mirrorContent e annex) 0 4) = e := by
  have he : e.toNat < 256 ^ 4 := e.isLt
  rw [field, List.drop_zero, mirrorContent, List.take_left' (length_leBytes 4 _), leNat_leBytes, Nat.mod_eq_of_lt he,
    word, BitVec.ofNat_toNat, BitVec.setWidth_eq]

theorem annex_mirrorContent (e : Word) (annex : Bool) : (field (mirrorContent e annex) 4 1).testBit 0 = annex := by
  rw [field, mirrorContent, List.drop_left' (length_leBytes 4 _)]
  cases annex <;> rfl

theorem writeMirror_of_noWarning (h : s.bit Reg.PWR_STATUS 0 = false) :
    s.writeMirror = s.putRecord 4 (mirrorContent (s.rd Reg.RSTC_ERRATA) (s.bit Reg.RSTC_CIRC 16)) := by
  simp [State.writeMirror, h, mirrorContent]

/-- The mirror holds what was last written to it. -/
theorem mirror_putRecord (e : Word) (annex : Bool) :
    (s.putRecord 4 (mirrorContent e annex)).mirror = some (e, annex) := by
  rw [State.mirror, frontRecord_putRecord 4 (length_mirrorContent e annex), Option.map_some, errata_mirrorContent,
    annex_mirrorContent]

/-- The mirror is in the flash, no register. -/
@[simp] theorem mirror_setB (a i : Nat) (b : Bool) : (s.setB a i b).mirror = s.mirror := rfl

theorem onlyRegs_writeMirror (l : List Nat) (h : s.bit Reg.PWR_STATUS 0 = false) :
    OnlyRegs l { s with store := { s.store with flash := s.writeMirror.store.flash } } s.writeMirror := by
  rw [writeMirror_of_noWarning h, ← putRecord_eq_withFlash s 4 (length_mirrorContent _ _)]
  exact OnlyRegs.refl l _

theorem exec_errataMirrorRewrite_of_due (hdue : s.bit Reg.RSTC_CIRC 19 = true)
    (h : s.bit Reg.PWR_STATUS 0 = false) :
    exec .errataMirrorRewrite s = .next (s.writeMirror.setB Reg.RSTC_CIRC 19 false) := by
  simp [execErrataMirrorRewrite, hdue, h]

theorem exec_errataMirrorRewrite_of_warning (h : s.bit Reg.PWR_STATUS 0 = true) :
    exec .errataMirrorRewrite s = .next s := by
  simp [execErrataMirrorRewrite, h]

/-! ### BOOT_OK (R90) -/

theorem exec_bootOk_of_key (s : State) : exec (.bootOk 0x0C96B00C) s = .next (s.wrF Reg.RSTC_CIRC 0 4 0) := rfl

theorem exec_bootOk_of_ne {key : Word} (s : State) (h : key ≠ 0x0C96B00C) : exec (.bootOk key) s = .next s := by
  rw [exec_bootOk, execBootOk, if_neg h]

theorem exec_bootOk_eq_after (key : Word) (s : State) : exec (.bootOk key) s = .next (after (execBootOk key s) s) := rfl

/-- RSTC is present on every variant (R4). -/
theorem absentAt_bootOk (s : State) : s.absentAt Reg.RSTC_BOOT_OK = none := rfl

/-- Unless the part is held, a write of RSTC_BOOT_OK is the command. -/
theorem coreWrite_bootOk {m : Master} (v : Word) (h : s.isHeld = false) :
    s.coreWrite m Reg.RSTC_BOOT_OK v = after (execBootOk v s) s := by
  simp [State.coreWrite, h, State.writeSys, Reg.RSTC_BOOT_OK, Reg.SPINE_CTRL, Reg.BUS_INFO, Reg.RSTC_SWRST]

theorem exec_registerWrite_bootOk {m : Master} (v : Word) (hm : s.locked m = false) (h : s.isHeld = false) :
    exec (.registerWrite m (word Reg.RSTC_BOOT_OK) v) s = .next ((after (execBootOk v s) s).answer 0) := by
  rw [exec_registerWrite_of_coreRegister (a := Reg.RSTC_BOOT_OK) v (by decide) (by decide) (by decide) (by decide)
    (absentAt_bootOk s) hm, coreWrite_bootOk v h]

/-! ### ERRATA_CLR (R88) -/

/-- ERRATA_CLR at one step: a one clears the step's count. -/
def State.clearErrCount (v : Word) (s : State) (n : Nat) : State := if bitOf v n then s.setErrCount n 0 else s

/-- The counts of the steps in the list whose bits are ones are cleared. -/
def State.clearErrCounts (v : Word) (s : State) (l : List Nat) : State := l.foldl (State.clearErrCount v) s

theorem errCount_setErrCount_same {n : Nat} (c : Nat) (h : n < 16) : (s.setErrCount n c).errCount n = c % 4 :=
  rdF_wrF_same s c (by omega)

theorem errCount_setErrCount_ne {n k : Nat} (c : Nat) (h : k ≠ n) : (s.setErrCount n c).errCount k = s.errCount k :=
  rdF_wrF_ne s c (by omega)

theorem errCount_clearErrCount (v : Word) {n : Nat} (k : Nat) (h : n < 16) :
    (s.clearErrCount v n).errCount k = if bitOf v k ∧ k = n then 0 else s.errCount k := by
  unfold State.clearErrCount
  by_cases hk : k = n
  · subst hk
    split
    · next hv => simp [hv, errCount_setErrCount_same 0 h]
    · next hv => simp [hv]
  · split <;> simp [hk, errCount_setErrCount_ne]

theorem OnlyRegs.clearErrCount {l : List Nat} {t : State} (v : Word) (n : Nat) (h : OnlyRegs l s t)
    (ha : Reg.RSTC_ERRATA ∈ l) : OnlyRegs l s (t.clearErrCount v n) := by
  unfold State.clearErrCount
  split
  · exact h.wrF ha
  · exact h

theorem errCount_clearErrCounts (v : Word) (k : Nat) (l : List Nat) (hl : ∀ n ∈ l, n < 16) :
    (s.clearErrCounts v l).errCount k = if bitOf v k ∧ k ∈ l then 0 else s.errCount k := by
  induction l generalizing s with
  | nil => simp [State.clearErrCounts]
  | cons n l ih =>
    obtain ⟨hn, hl⟩ := List.forall_mem_cons.mp hl
    calc (s.clearErrCounts v (n :: l)).errCount k
      _ = ((s.clearErrCount v n).clearErrCounts v l).errCount k := rfl
      _ = if bitOf v k ∧ k ∈ n :: l then 0 else s.errCount k := by
        rw [ih hl, errCount_clearErrCount v k hn]
        by_cases hk : k = n
        · subst hk
          by_cases hv : bitOf v k = true <;> simp [hv]
        · simp [hk]

theorem onlyRegs_clearErrCounts {regs : List Nat} (v : Word) (l : List Nat) (s : State) (h : Reg.RSTC_ERRATA ∈ regs) :
    OnlyRegs regs s (s.clearErrCounts v l) :=
  List.foldlRecOn l _ (OnlyRegs.refl _ s) (fun _ ht n _ => ht.clearErrCount v n h)

/-- No count is in RSTC_CIRC. -/
theorem rd_clearErrCounts_circ (v : Word) (l : List Nat) (s : State) :
    (s.clearErrCounts v l).rd Reg.RSTC_CIRC = s.rd Reg.RSTC_CIRC := by
  obtain ⟨hregs, -, -⟩ := onlyRegs_clearErrCounts (regs := [Reg.RSTC_ERRATA]) v l s (by simp)
  exact hregs _ (by simp)

theorem errataClr_of_unchanged {v : Word}
    (h : (s.clearErrCounts v (List.range 14)).rd Reg.RSTC_ERRATA = s.rd Reg.RSTC_ERRATA) :
    s.errataClr v = s.clearErrCounts v (List.range 14) := if_pos h

theorem errataClr_of_changed {v : Word}
    (h : (s.clearErrCounts v (List.range 14)).rd Reg.RSTC_ERRATA ≠ s.rd Reg.RSTC_ERRATA) :
    s.errataClr v = (s.clearErrCounts v (List.range 14)).setB Reg.RSTC_CIRC 19 true := if_neg h

/-- MIRROR_PEND is in another register than the counts. -/
theorem rd_errataClr_errata (v : Word) (s : State) :
    (s.errataClr v).rd Reg.RSTC_ERRATA = (s.clearErrCounts v (List.range 14)).rd Reg.RSTC_ERRATA := by
  by_cases h : (s.clearErrCounts v (List.range 14)).rd Reg.RSTC_ERRATA = s.rd Reg.RSTC_ERRATA
  · rw [errataClr_of_unchanged h]
  · rw [errataClr_of_changed h, rd_setB_ne _ _ _ (by decide)]

theorem errCount_errataClr (v : Word) (s : State) {k : Nat} (h : k < 14) :
    (s.errataClr v).errCount k = if bitOf v k then 0 else s.errCount k := by
  have hsteps : ∀ n ∈ List.range 14, n < 16 := by decide
  calc (s.errataClr v).errCount k
    _ = (s.clearErrCounts v (List.range 14)).errCount k := rdF_congr (rd_errataClr_errata v s) _ _
    _ = if bitOf v k then 0 else s.errCount k := by
      simp only [errCount_clearErrCounts v k _ hsteps, List.mem_range, h, and_true]

/-- A count that changes makes the mirror rewrite due. -/
theorem mirrorPend_errataClr {v : Word} (h : (s.errataClr v).rd Reg.RSTC_ERRATA ≠ s.rd Reg.RSTC_ERRATA) :
    (s.errataClr v).bit Reg.RSTC_CIRC 19 = true := by
  rw [rd_errataClr_errata] at h
  rw [errataClr_of_changed h, bit_setB_same _ _ (by decide)]

theorem rdF_errataClr_circ (v : Word) (s : State) {lo len : Nat} (hlen : lo + len ≤ 19) :
    (s.errataClr v).rdF Reg.RSTC_CIRC lo len = s.rdF Reg.RSTC_CIRC lo len := by
  have hcirc := rdF_congr (rd_clearErrCounts_circ v (List.range 14) s) lo len
  by_cases h : (s.clearErrCounts v (List.range 14)).rd Reg.RSTC_ERRATA = s.rd Reg.RSTC_ERRATA
  · rw [errataClr_of_unchanged h, hcirc]
  · rw [errataClr_of_changed h, State.setB, rdF_wrF_ne _ _ (.inl hlen), hcirc]

theorem onlyRegs_errataClr (v : Word) (s : State) :
    OnlyRegs [Reg.RSTC_ERRATA, Reg.RSTC_CIRC] s (s.errataClr v) := by
  have hcounts : OnlyRegs [Reg.RSTC_ERRATA, Reg.RSTC_CIRC] s (s.clearErrCounts v (List.range 14)) :=
    onlyRegs_clearErrCounts v _ s (by simp)
  by_cases h : (s.clearErrCounts v (List.range 14)).rd Reg.RSTC_ERRATA = s.rd Reg.RSTC_ERRATA
  · rw [errataClr_of_unchanged h]
    exact hcounts
  · rw [errataClr_of_changed h]
    exact hcounts.setB (by simp)

/-! ### The release of the pad hold (R71) -/

theorem holdRelease_eq (s : State) :
    s.holdRelease = ({ s with boot := { s.boot with padHold := [] } } : State).setB Reg.GPIO_HOLD 0 false := rfl

theorem bit_holdRelease (s : State) : s.holdRelease.bit Reg.GPIO_HOLD 0 = false := by
  rw [holdRelease_eq, bit_setB_same _ _ (by decide)]

theorem onlyRegs_holdRelease (s : State) :
    OnlyRegs [Reg.GPIO_HOLD] { s with boot := s.holdRelease.boot } s.holdRelease := by
  rw [holdRelease_eq]
  exact (OnlyRegs.refl _ _).setB (by simp)

end Sys2Proof.Machine
end

section

open Sys2Proof Sys2Proof.Machine

/-- Settles O17: each command is an update of registers with its own frame; the mirror rewrite reads back what it stores
because a record written to the front matter carries its own CRC-32. -/
theorem resetControllerKeysActAsTheirRulesSay : Obligations.ResetControllerKeysActAsTheirRulesSay := by
  unfold Obligations.ResetControllerKeysActAsTheirRulesSay
  refine ⟨?key, ?otherKey, ?keyRegister, ?errataClr, ?mirrorDue, ?mirrorWaits, ?holdRelease⟩
  case key =>
    exact fun s => ⟨_, exec_bootOk_of_key s, rdF_wrF_same s 0 (by decide), rdF_wrF_ne s 0 (.inr (by decide)),
      (OnlyRegs.refl _ s).wrF (by simp)⟩
  case otherKey => exact fun _ s h => exec_bootOk_of_ne s h
  case keyRegister =>
    exact fun m v s hm hh => ⟨_, exec_bootOk_eq_after v s, exec_registerWrite_bootOk v hm hh⟩
  case errataClr =>
    refine fun v s => ⟨_, exec_errataClr s v, ?_, mirrorPend_errataClr, rdF_errataClr_circ v s (by decide),
      onlyRegs_errataClr v s⟩
    simp only [List.all_eq_true, List.mem_range, beq_iff_eq]
    exact fun n hn => errCount_errataClr v s hn
  case mirrorDue =>
    intro s hdue h
    refine ⟨_, exec_errataMirrorRewrite_of_due hdue h, ?_, bit_setB_same _ _ (by decide),
      (onlyRegs_writeMirror _ h).setB (by simp)⟩
    rw [mirror_setB, writeMirror_of_noWarning h, mirror_putRecord]
  case mirrorWaits => exact fun _ h => exec_errataMirrorRewrite_of_warning h
  case holdRelease =>
    exact fun s => ⟨_, exec_gpioHoldRelease s, bit_holdRelease s, rfl, onlyRegs_holdRelease s⟩

end

section
/-! PROOF. The wake alarm of a part that is awake: the instant and the enable that a write of PWR_ALARM_HI loads, and the
alarm that fires in Run or Doze (04; R127, R128, R675). -/

namespace Sys2Proof.Machine

variable {s : State}

/-! ### The alarm fires (R675) -/

/-- Awake, an alarm that fires wakes nothing: its enable is all that it changes. -/
theorem fireAlarm_of_awake (h : s.asleep = false) : s.fireAlarm = s.setB Reg.PWR_ALARM_HI 31 false := by
  simp [State.fireAlarm, h]

theorem OnlyRegs.fireAlarm {l : List Nat} {t : State} (h : OnlyRegs l s t) (hl : Reg.PWR_ALARM_HI ∈ l)
    (ha : t.asleep = false) : OnlyRegs l s t.fireAlarm := by
  rw [fireAlarm_of_awake ha]
  exact h.setB hl

theorem bit_fireAlarm (h : s.asleep = false) : s.fireAlarm.bit Reg.PWR_ALARM_HI 31 = false := by
  rw [fireAlarm_of_awake h, bit_setB_same s false (by decide)]

/-- The instant bits of PWR_ALARM_HI stay. -/
theorem rdF_fireAlarm (h : s.asleep = false) :
    s.fireAlarm.rdF Reg.PWR_ALARM_HI 0 31 = s.rdF Reg.PWR_ALARM_HI 0 31 := by
  rw [fireAlarm_of_awake h, State.setB, rdF_wrF_ne s _ (.inl (by decide))]

theorem exec_alarmFire_of_reached (hon : s.alarmOn = true) (hr : s.reached s.alarmAt = true) :
    exec .alarmFire s = .next s.fireAlarm := by
  simp [execAlarmFire, hon, hr]

/-! ### The alarm is loaded (R127)

The ticks that a write loads are a variable `n` in these lemmas, so that the kernel compares states without computing
with 2 ^ 32. -/

/-- The state with an alarm of `n` ticks loaded and no register written. -/
def State.withAlarm (n : Nat) (s : State) : State := { s with pwr := { s.pwr with alarm := n } }

/-- The state with an alarm of `n` ticks loaded by a write of `v` to PWR_ALARM_HI, before one already reached fires. -/
def State.loadAlarm (n : Nat) (v : Word) (s : State) : State :=
  (s.withAlarm n).wr Reg.PWR_ALARM_HI (v &&& 0x8000FFFF)

variable (n : Nat) (v : Word) (s : State)

theorem rd_loadAlarm : (s.loadAlarm n v).rd Reg.PWR_ALARM_HI = v &&& 0x8000FFFF := rd_wr_same _ _ _

@[simp] theorem alarmOn_loadAlarm : (s.loadAlarm n v).alarmOn = bitOf v 31 := by
  rw [State.alarmOn, State.bit, rd_loadAlarm]
  simp [bitOf]

@[simp] theorem alarmAt_loadAlarm : (s.loadAlarm n v).alarmAt = n * 1024 := rfl

@[simp] theorem asleep_loadAlarm : (s.loadAlarm n v).asleep = s.asleep := rfl

@[simp] theorem reached_loadAlarm (i : Nat) : (s.loadAlarm n v).reached i = s.reached i := rfl

theorem onlyRegs_loadAlarm : OnlyRegs [Reg.PWR_ALARM_HI] (s.withAlarm n) (s.loadAlarm n v) :=
  (OnlyRegs.refl _ _).wr (by simp)

/-- An alarm that fires as it is loaded leaves its instant bits, and EN at 0. -/
theorem rd_fireAlarm_loadAlarm (h : s.asleep = false) :
    (s.loadAlarm n v).fireAlarm.rd Reg.PWR_ALARM_HI = v &&& 0xFFFF := by
  rw [fireAlarm_of_awake (by simp [h]), rd_setB_same, rd_loadAlarm]
  calc setFld (v &&& 0x8000FFFF) 31 1 (b2n false)
    _ = v &&& 0x8000FFFF &&& 0x7FFFFFFF := by simp [setFld, fldMask, b2n, word]
    _ = v &&& 0xFFFF := BitVec.and_assoc v _ _

theorem onlyRegs_fireAlarm_loadAlarm (h : s.asleep = false) :
    OnlyRegs [Reg.PWR_ALARM_HI] (s.withAlarm n) (s.loadAlarm n v).fireAlarm :=
  (onlyRegs_loadAlarm n v s).fireAlarm (by simp) (by simp [h])

/-- The write is the load, after which an alarm that is enabled and reached fires at once (R128). -/
theorem exec_pwrAlarmHiWrite_of_ticks (hn : (s.rd Reg.PWR_ALARM_LO).toNat + fld v 0 16 * 2 ^ 32 = n) :
    exec (.pwrAlarmHiWrite v) s =
      .next (if bitOf v 31 && s.reached (n * 1024) then (s.loadAlarm n v).fireAlarm else s.loadAlarm n v) := by
  rw [exec_pwrAlarmHiWrite, execPwrAlarmHiWrite, hn, ← alarmOn_loadAlarm n v s, ← alarmAt_loadAlarm n v s,
    ← reached_loadAlarm n v s]
  rfl

variable {n v s}

theorem exec_pwrAlarmHiWrite_of_reached (hn : (s.rd Reg.PWR_ALARM_LO).toNat + fld v 0 16 * 2 ^ 32 = n)
    (hon : bitOf v 31 = true) (hr : s.reached (n * 1024) = true) :
    exec (.pwrAlarmHiWrite v) s = .next (s.loadAlarm n v).fireAlarm := by
  rw [exec_pwrAlarmHiWrite_of_ticks n v s hn, hon, hr]
  rfl

theorem exec_pwrAlarmHiWrite_of_ahead (hn : (s.rd Reg.PWR_ALARM_LO).toNat + fld v 0 16 * 2 ^ 32 = n)
    (h : bitOf v 31 = false ∨ s.reached (n * 1024) = false) :
    exec (.pwrAlarmHiWrite v) s = .next (s.loadAlarm n v) := by
  rw [exec_pwrAlarmHiWrite_of_ticks n v s hn]
  obtain h | h := h <;> simp [h]

end Sys2Proof.Machine
end

section

open Sys2Proof Sys2Proof.Machine

/-- Settles O22: awake, the firing is a write of EN alone, whether the command finds the alarm reached or the load does;
where the load finds it ahead or not enabled, the load is all. -/
theorem anAlarmThatFiresAwakeOnlyClearsItsEnable : Obligations.AnAlarmThatFiresAwakeOnlyClearsItsEnable := by
  unfold Obligations.AnAlarmThatFiresAwakeOnlyClearsItsEnable
  refine ⟨?fires, ?loadFires, ?load⟩
  case fires =>
    exact fun s hon hr ha => ⟨_, exec_alarmFire_of_reached hon hr, bit_fireAlarm ha, rdF_fireAlarm ha,
      (OnlyRegs.refl _ s).fireAlarm (by simp) ha⟩
  case loadFires =>
    exact fun v s hon hr ha => ⟨_, exec_pwrAlarmHiWrite_of_reached rfl hon hr, rd_fireAlarm_loadAlarm _ v s ha,
      onlyRegs_fireAlarm_loadAlarm _ v s ha⟩
  case load =>
    exact fun v s h => ⟨_, exec_pwrAlarmHiWrite_of_ahead rfl h, rd_loadAlarm _ v s, onlyRegs_loadAlarm _ v s⟩

end

section
/-! PROOF. Phase steps of the chronicle by software: what a step that is applied does to the chronicle and its flags, and
the writes that a pending step shuts out (05; R145 to R147). -/

namespace Sys2Proof.Machine

variable {s : State} {m : Master} {a : Nat}

/-! ### What a step carries the chronicle past leaves the chronicle alone (R155) -/

variable (s)

@[simp] theorem wake_chron (cause : Nat) : (s.wake cause).chron = s.chron := by
  unfold State.wake
  split
  · rfl
  · rfl
  · split
    · rfl
    · split <;> rfl
  · rfl

@[simp] theorem fireAlarm_chron : s.fireAlarm.chron = s.chron := by
  unfold State.fireAlarm
  dsimp only
  split
  · exact wake_chron _ 0
  · rfl

@[simp] theorem skipActions_chron (old : Nat) : (s.skipActions old).chron = s.chron := rfl

@[simp] theorem sendLock_chron (ch kind validMs card : Nat) : (s.sendLock ch kind validMs card).chron = s.chron := by
  unfold State.sendLock
  split
  · rfl
  · split <;> rfl

@[simp] theorem dropLock_chron (ch next : Nat) : (s.dropLock ch next).chron = s.chron := by
  simp [State.dropLock, State.setRelState]

@[simp] theorem noGrant_chron (ch : Nat) : (s.noGrant ch).chron = s.chron := by
  unfold State.noGrant
  split
  · exact dropLock_chron s ch 1
  · rfl

@[simp] theorem skipRendezvous_chron (old : Nat) : (s.skipRendezvous old).chron = s.chron := by
  unfold State.skipRendezvous forRange
  refine List.foldlRecOn (motive := fun t : State => t.chron = s.chron) _ _ rfl fun t ht ch _ => ?_
  dsimp only
  split
  · rw [noGrant_chron, ht]
  · exact ht

@[simp] theorem carried_chron (old : Nat) : (s.carried old).chron = s.chron := by
  simp only [State.carried, skipRendezvous_chron, apply_ite State.chron, setB_chron, fireAlarm_chron,
    skipActions_chron, ite_self]

/-- A phase step changes the instant, and what it carries the chronicle past does not change it again (R145). -/
theorem now_applyStep (theta : Int) : (s.applyStep theta).chron.now = unsigned 58 (s.chron.now + theta) := by
  unfold State.applyStep
  dsimp only
  split
  · rw [carried_chron]
  · rfl

/-! ### A flag of CHRON_STATUS (R160) -/

@[simp] theorem chronFlag_chron (k : Nat) : (s.chronFlag k).chron = s.chron := by
  rw [State.chronFlag, eventIf_chron, setB_chron]

theorem rd_eventIf_ne {n : Nat} (c : Bool) (h1 : a ≠ Reg.INTC_PEND (n / 32)) (h2 : a ≠ Reg.INTC_OVR)
    (h3 : a ≠ Reg.PWR_COUNT) : (s.eventIf c n).rd a = s.rd a := by
  cases c
  · rfl
  · exact rd_event_ne s h1 h2 h3

/-- Besides the flag, only the registers of event 3 may change. -/
theorem rd_chronFlag_ne {k : Nat} (h : a ∉ Reg.PWR_COUNT :: Reg.CHRON_STATUS :: eventRegs 3) :
    (s.chronFlag k).rd a = s.rd a := by
  simp only [eventRegs, List.mem_cons, List.not_mem_nil, or_false, not_or] at h
  obtain ⟨hpwr, hstatus, hpend, hovr⟩ := h
  rw [State.chronFlag, rd_eventIf_ne _ _ hpend hovr hpwr, rd_setB_ne _ _ _ hstatus]

theorem bit_chronFlag {k : Nat} (hk : 16 + k < 32) : (s.chronFlag k).bit Reg.CHRON_STATUS (16 + k) = true := by
  rw [State.chronFlag, bit_congr (rd_eventIf_ne _ _ (by decide) (by decide) (by decide)), bit_setB_same _ _ hk]

/-! ### A software step is applied (R146, R147) -/

/-- A step that was pending makes the next beacon a new origin (R157). -/
def State.holdBeacon (s : State) (pend : Bool) : State :=
  { s with chron := { s.chron with stepHold := pend || s.chron.stepHold } }

theorem now_holdBeacon (pend : Bool) : (s.holdBeacon pend).chron.now = s.chron.now := rfl

theorem rd_holdBeacon (pend : Bool) (a : Nat) : (s.holdBeacon pend).rd a = s.rd a := rd_congr rfl a

theorem softStep_eq : s.softStep =
    (((s.applyStep s.stepAmount).setB Reg.CHRON_STEP_CTRL 8 false).holdBeacon s.stepPending).chronFlag 3 := rfl

theorem now_softStep : s.softStep.chron.now = unsigned 58 (s.chron.now + s.stepAmount) := by
  rw [softStep_eq, chronFlag_chron, now_holdBeacon, setB_chron, now_applyStep]

theorem pending_softStep : s.softStep.bit Reg.CHRON_STEP_CTRL 8 = false := by
  rw [softStep_eq, bit_congr (rd_chronFlag_ne _ (by decide)), bit_congr (rd_holdBeacon _ _ _),
    bit_setB_same _ _ (by decide)]

theorem stepDone_softStep : s.softStep.bit Reg.CHRON_STATUS 19 = true := by
  rw [softStep_eq]
  exact bit_chronFlag _ (k := 3) (by decide)

/-- What every way to apply a software step comes to. -/
theorem softStep_applied : s.softStep.chron.now = unsigned 58 (s.chron.now + s.stepAmount) ∧
    s.softStep.bit Reg.CHRON_STEP_CTRL 8 = false ∧ s.softStep.bit Reg.CHRON_STATUS 19 = true :=
  ⟨now_softStep s, pending_softStep s, stepDone_softStep s⟩

variable {s}

theorem exec_chronStepArm_of_pending (h : s.stepPending = true) : exec .chronStepArm s = .next s := by
  simp [execChronStepArm, h]

theorem exec_chronStepArm_of_reached (h : s.stepPending = false) (hr : s.reached s.stepAt = true) :
    exec .chronStepArm s = .next s.softStep := by
  simp [execChronStepArm, h, hr]

theorem exec_chronStepArm_of_ahead (h : s.stepPending = false) (hr : s.reached s.stepAt = false) :
    exec .chronStepArm s = .next (s.setB Reg.CHRON_STEP_CTRL 8 true) := by
  simp [execChronStepArm, h, hr]

theorem exec_chronStepReached_of_reached (h : s.stepPending = true) (hr : s.reached s.stepAt = true) :
    exec .chronStepReached s = .next s.softStep := by
  simp [execChronStepReached, h, hr]

theorem exec_chronStepReached_of_ahead (hr : s.reached s.stepAt = false) : exec .chronStepReached s = .next s := by
  simp [execChronStepReached, hr]

theorem onlyRegs_setPending (b : Bool) : OnlyRegs [Reg.CHRON_STEP_CTRL] s (s.setB Reg.CHRON_STEP_CTRL 8 b) :=
  (OnlyRegs.refl _ s).setB (by simp)

/-! ### Writes of the registers of a step (R147) -/

/-- The pages of the core die lie above every memory. -/
theorem corePage_ge {p : Nat} (h : corePage p = true) : 0x40000 ≤ p := by
  simp [corePage] at h
  omega

theorem region_of_corePage (h : corePage (a / 0x1000) = true) : region a = .core := by
  have hge := corePage_ge h
  have hrom : ¬ a < 0x10000 := by omega
  have hxip : ¬ a < 0x10800000 := by omega
  have hsram : ¬ a < 0x20060000 := by omega
  have hqueue : ¬ a < 0x21080000 := by omega
  have hpool : ¬ a < 0x22080000 := by omega
  simp [region, h, hrom, hxip, hsram, hqueue, hpool]

theorem region_of_chronPage (hp : a / 0x1000 = 0x40008) : region a = .core := region_of_corePage (by rw [hp]; rfl)

/-- CHRON is present on every variant (R4). -/
theorem absentAt_of_chronPage (s : State) (hp : a / 0x1000 = 0x40008) : s.absentAt a = none := by
  have hhif : ¬ 0x40048100 ≤ a := by omega
  simp [State.absentAt, region_of_chronPage hp, hp, hhif]

theorem coreWrite_of_writeTime_ignored {v : Word} (hp : a / 0x1000 = 0x40008) (h : s.writeTime m a v = s) :
    s.coreWrite m a v = s := by
  unfold State.coreWrite
  split
  · rfl
  · simp [hp, h]

/-- A write that the chronicle's unit ignores changes nothing but the answer. -/
theorem exec_registerWrite_of_writeTime_ignored {v : Word} (hp : a / 0x1000 = 0x40008) (h4 : a % 4 = 0)
    (hm : s.locked m = false) (h : s.writeTime m a v = s) :
    exec (.registerWrite m (word a) v) s = .next (s.answer 0) := by
  have haddr : (word a).toNat = a := by
    rw [word, BitVec.toNat_ofNat]
    omega
  have hbuf : bufferAt a = false := by
    simp [bufferAt]
    omega
  rw [exec_registerWrite_of_coreRegister (a := a) v (by omega) (region_of_chronPage hp) (by omega) hbuf
    (absentAt_of_chronPage s hp) hm, coreWrite_of_writeTime_ignored hp h]

theorem stepReg_place (h : a ∈ [Reg.CHRON_STEP_LO, Reg.CHRON_STEP_HI, Reg.CHRON_STEP_AT_LO, Reg.CHRON_STEP_AT_HI]) :
    a / 0x1000 = 0x40008 ∧ a % 4 = 0 ∧ Reg.CHRON_STEP_LO ≤ a ∧ a ≤ Reg.CHRON_STEP_AT_HI := by
  revert a
  decide

theorem writeTime_stepReg_of_pending (v : Word) (hlo : Reg.CHRON_STEP_LO ≤ a) (hhi : a ≤ Reg.CHRON_STEP_AT_HI)
    (h : s.stepPending = true) : s.writeTime m a v = s := by
  have hrate : a ≠ Reg.CHRON_RATE := by
    intro e
    subst e
    exact absurd hlo (by decide)
  simp [State.writeTime, hrate, hlo, hhi, h]

theorem writeTime_arm_of_pending (h : s.stepPending = true) : s.writeTime m Reg.CHRON_STEP_CTRL 1 = s :=
  calc s.writeTime m Reg.CHRON_STEP_CTRL 1
    _ = s.writeStepCtrl 1 := by simp [State.writeTime, Reg.CHRON_STEP_CTRL, Reg.CHRON_RATE, Reg.CHRON_STEP_AT_HI]
    _ = after (execChronStepArm s) s := by simp [State.writeStepCtrl, bitOf]
    _ = s := by simp [execChronStepArm, h, after]

end Sys2Proof.Machine
end

section

open Sys2Proof Sys2Proof.Machine

/-- Settles O24: NOW, ARM at an instant reached and the instant of a pending step all apply the same software step, which
changes the chronicle before it clears PENDING and sets STEP_DONE; the writes that R147 ignores leave the unit as it is. -/
theorem phaseStepsObeyThePendingBit : Obligations.PhaseStepsObeyThePendingBit := by
  unfold Obligations.PhaseStepsObeyThePendingBit
  refine ⟨?stepRegs, ?armWrite, ?arm, ?cancel, ?now, ?armAhead, ?armReached, ?reached, ?waits⟩
  case stepRegs =>
    intro m a v s ha hp hm
    obtain ⟨hpage, h4, hlo, hhi⟩ := stepReg_place ha
    exact exec_registerWrite_of_writeTime_ignored hpage h4 hm (writeTime_stepReg_of_pending v hlo hhi hp)
  case armWrite =>
    exact fun m s hp hm =>
      exec_registerWrite_of_writeTime_ignored (by decide) (by decide) hm (writeTime_arm_of_pending hp)
  case arm => exact fun s hp => exec_chronStepArm_of_pending hp
  case cancel =>
    exact fun s => ⟨_, exec_chronStepCancel s, bit_setB_same s false (by decide), onlyRegs_setPending false⟩
  case now => exact fun s => ⟨_, exec_chronStepNow s, softStep_applied s⟩
  case armAhead =>
    exact fun s hp hr => ⟨_, exec_chronStepArm_of_ahead hp hr, bit_setB_same s true (by decide), onlyRegs_setPending true⟩
  case armReached => exact fun s hp hr => ⟨_, exec_chronStepArm_of_reached hp hr, softStep_applied s⟩
  case reached => exact fun s hp hr => ⟨_, exec_chronStepReached_of_reached hp hr, softStep_applied s⟩
  case waits => exact fun s hr => exec_chronStepReached_of_ahead hr

end

section
/-! PROOF. The general timers (06): what the match of a channel does to its flag, its event and its value, what CNT's taking
a value does to all four channels, and the commands that count, start, stop, clear, capture and write. -/

namespace Sys2Proof.Machine

/-! ### Pending bits stay set while events are raised (R213) -/

theorem bit_setB_of_bit {s : State} {a b i j : Nat} (hj : j < 32) (h : s.bit a i = true) :
    (s.setB b j true).bit a i = true := by
  by_cases hab : a = b
  · subst hab
    by_cases hij : i = j
    · rw [hij, bit_setB_same s true hj]
    · rw [bit_setB_ne s true hij, h]
  · rw [bit_congr (rd_setB_ne s _ _ hab), h]

theorem pending1_event_of_pending1 {s : State} {k : Nat} (n : Nat) (hk : k < 256) (h : s.pending1 k = true) :
    (s.event n).pending1 k = true := by
  have hovr : Reg.INTC_PEND (k / 32) ≠ Reg.INTC_OVR := by
    simp only [Reg.INTC_PEND, Reg.INTC_OVR]
    omega
  have hcount : Reg.INTC_PEND (k / 32) ≠ Reg.PWR_COUNT := by
    simp only [Reg.INTC_PEND, Reg.PWR_COUNT]
    omega
  unfold State.pending1 State.event
  rw [bit_congr (rd_endDoze_ne _ hcount)]
  dsimp only
  rw [bit_congr (rd_fab _ _ _)]
  split
  · exact (bit_congr (rd_overrun_ne s hovr) _).trans h
  · exact bit_setB_of_bit (Nat.mod_lt _ (by decide)) h

/-! ### Frames under another state of the timers or of the cycle -/

section

variable {l : List Nat} {s t : State}

/-- The state after such a frame, with what it may change left open. -/
theorem OnlyEvents.exists_eq (h : OnlyEvents l s t) : ∃ regs pulses ovr mode entry resumeAt, t = { s with
    regs := regs
    fab := { s.fab with pulses := pulses, ovr := ovr }
    pwr := { s.pwr with mode := mode, entry := entry, resumeAt := resumeAt } } := by
  obtain ⟨-, -, -, ht⟩ := h
  exact ⟨_, _, _, _, _, _, ht⟩

theorem OnlyEvents.withTmr (x : TmrSt) (h : OnlyEvents l s t) : OnlyEvents l { s with tmr := x } { t with tmr := x } := by
  obtain ⟨_, _, _, _, _, _, rfl⟩ := h.exists_eq
  obtain ⟨hregs, hcount, hmem, -⟩ := h
  exact ⟨hregs, hcount, hmem, rfl⟩

theorem OnlyEvents.withCyc (c : CycSt) (h : OnlyEvents l s t) : OnlyEvents l { s with cyc := c } { t with cyc := c } := by
  obtain ⟨_, _, _, _, _, _, rfl⟩ := h.exists_eq
  obtain ⟨hregs, hcount, hmem, -⟩ := h
  exact ⟨hregs, hcount, hmem, rfl⟩

end

/-! ### A channel sets its flag and raises its event (R167) -/

/-- What a match and a capture have in common: the channel's flag, and event 32 + 4n + m. -/
def State.raiseChannel (s : State) (n m : Nat) : State := (s.setB (Reg.TMR_FLAGS n) m true).event (32 + 4 * n + m)

section

variable {s : State} {n : Fin 8} {m : Nat}

@[simp] theorem raiseChannel_tmr (s : State) (n m : Nat) : (s.raiseChannel n m).tmr = s.tmr := event_tmr _ _
@[simp] theorem raiseChannel_cyc (s : State) (n m : Nat) : (s.raiseChannel n m).cyc = s.cyc := event_cyc _ _

/-- The registers of the interrupt selector and of power control lie below the timers' pages. -/
theorem rd_raiseChannel_ne {a : Nat} (hm : m < 4) (ha : 0x40010000 ≤ a) (hf : a ≠ Reg.TMR_FLAGS n) :
    (s.raiseChannel n m).rd a = s.rd a := by
  have hpend : a ≠ Reg.INTC_PEND ((32 + 4 * n + m) / 32) := by
    simp only [Reg.INTC_PEND]
    omega
  have hovr : a ≠ Reg.INTC_OVR := by
    simp only [Reg.INTC_OVR]
    omega
  have hcount : a ≠ Reg.PWR_COUNT := by
    simp only [Reg.PWR_COUNT]
    omega
  exact (rd_event_ne _ hpend hovr hcount).trans (rd_setB_ne s _ _ hf)

theorem bit_raiseChannel_flags (hm : m < 4) (i : Nat) :
    (s.raiseChannel n m).bit (Reg.TMR_FLAGS n) i = (s.bit (Reg.TMR_FLAGS n) i || i == m) := by
  have hevent : (s.raiseChannel n m).bit (Reg.TMR_FLAGS n) i =
      (s.setB (Reg.TMR_FLAGS n) m true).bit (Reg.TMR_FLAGS n) i := by
    apply bit_congr
    apply rd_event_ne <;> simp only [Reg.TMR_FLAGS, Reg.INTC_PEND, Reg.INTC_OVR, Reg.PWR_COUNT] <;> omega
  rw [hevent]
  by_cases h : i = m
  · simp [h, bit_setB_same s true (show m < 32 by omega)]
  · simp [h, bit_setB_ne s true h]

theorem pending1_raiseChannel (hm : m < 4) : (s.raiseChannel n m).pending1 (32 + 4 * n + m) = true :=
  bit_event_pend _ _ (by omega)

theorem pending1_raiseChannel_of_pending1 {k : Nat} (hm : m < 4) (hk : k < 256) (h : s.pending1 k = true) :
    (s.raiseChannel n m).pending1 k = true :=
  pending1_event_of_pending1 _ hk (bit_setB_of_bit (by omega) h)

theorem OnlyEvents.raiseChannel {l : List Nat} {t : State} (hm : m < 4) (h : OnlyEvents l s t)
    (hf : Reg.TMR_FLAGS n ∈ l) (hp : Reg.INTC_PEND 1 ∈ l) (ho : Reg.INTC_OVR ∈ l) :
    OnlyEvents l s (t.raiseChannel n m) := by
  have hgroup : (32 + 4 * n.val + m) / 32 = 1 := by omega
  exact (h.setB hf).event (by rwa [hgroup]) ho

end

/-! ### The match of one channel (R167, R168) -/

/-- A match of the channel adds its STRIDE: it is in stride mode, and it is not CC0 under C0CLR. -/
def State.strides (s : State) (n m : Nat) : Bool :=
  s.rdF (ccCfg n m) 0 2 == 2 && !(m == 0 && s.bit (Reg.TMR_CTRL n) 5)

/-- The value that a match leaves in the channel. -/
def State.matchedValue (s : State) (n m : Nat) : Word :=
  if s.strides n m then s.rd (ccValue n m) + s.rd (ccStride n m) else s.rd (ccValue n m)

/-- The channel compares, and its value is the one CNT takes (R166). -/
def State.channelHits (s : State) (n m : Nat) (v : Word) : Prop :=
  (s.rdF (ccCfg n m) 0 2 = 1 ∨ s.rdF (ccCfg n m) 0 2 = 2) ∧ s.rd (ccValue n m) = v

theorem ccValue_ne_ccValue {n m m' : Nat} (h : m' ≠ m) : ccValue n m' ≠ ccValue n m := by
  unfold ccValue
  omega

theorem ccValue_ne_flags {n m : Nat} : ccValue n m ≠ Reg.TMR_FLAGS n := by
  simp only [ccValue, Reg.TMR_FLAGS]
  omega

theorem timerPage_le_ccValue {n m : Nat} : 0x40010000 ≤ ccValue n m := by
  unfold ccValue
  omega

section

variable {s : State} {n : Fin 8} {m : Nat}

theorem timerMatch_of_strides (hc : s.cyc.ccWritten = []) (h : s.strides n m = true) :
    s.timerMatch n m = (s.raiseChannel n m).wr (ccValue n m) (s.rd (ccValue n m) + s.rd (ccStride n m)) := by
  obtain ⟨hmode, hclr⟩ : (s.rdF (ccCfg n m) 0 2 == 2) = true ∧ (m == 0 && s.bit (Reg.TMR_CTRL n) 5) = false := by
    simpa only [State.strides, Bool.and_eq_true, Bool.not_eq_true'] using h
  simp only [State.timerMatch, hmode, hclr, hc]
  rfl

/-- Without an addition a match does no more than raise its channel; CC0 under C0CLR has the clear made due. -/
theorem timerMatch_of_not_strides (h : s.strides n m = false) :
    ∃ x, s.timerMatch n m = { s.raiseChannel n m with tmr := x } := by
  have hkeeps : (s.rdF (ccCfg n m) 0 2 == 2 && !(m == 0 && s.bit (Reg.TMR_CTRL n) 5) &&
      (mapGet s.cyc.ccWritten (ccValue n m)).isNone) = false := by
    rw [show (s.rdF (ccCfg n m) 0 2 == 2 && !(m == 0 && s.bit (Reg.TMR_CTRL n) 5)) = false from h, Bool.false_and]
  simp only [State.timerMatch, hkeeps]
  split
  · exact ⟨_, rfl⟩
  · exact ⟨_, rfl⟩

theorem timerMatch_cyc (hc : s.cyc.ccWritten = []) : (s.timerMatch n m).cyc = s.cyc := by
  cases h : s.strides n m
  case false =>
    obtain ⟨x, hx⟩ := timerMatch_of_not_strides h
    rw [hx, raiseChannel_cyc]
  case true => rw [timerMatch_of_strides hc h, wr_cyc, raiseChannel_cyc]

theorem ccWritten_timerMatch (hc : s.cyc.ccWritten = []) : (s.timerMatch n m).cyc.ccWritten = [] := by
  rwa [timerMatch_cyc hc]

theorem rd_timerMatch_ne_value {a : Nat} (hc : s.cyc.ccWritten = []) (ha : a ≠ ccValue n m) :
    (s.timerMatch n m).rd a = (s.raiseChannel n m).rd a := by
  cases h : s.strides n m
  case false =>
    obtain ⟨x, hx⟩ := timerMatch_of_not_strides h
    rw [hx]
    exact rd_congr rfl a
  case true => rw [timerMatch_of_strides hc h, rd_wr_ne _ _ ha]

theorem rd_timerMatch_value (hc : s.cyc.ccWritten = []) (hm : m < 4) :
    (s.timerMatch n m).rd (ccValue n m) = s.matchedValue n m := by
  unfold State.matchedValue
  cases h : s.strides n m
  case false =>
    obtain ⟨x, hx⟩ := timerMatch_of_not_strides h
    rw [hx]
    exact (rd_congr rfl _).trans (rd_raiseChannel_ne hm timerPage_le_ccValue ccValue_ne_flags)
  case true =>
    rw [timerMatch_of_strides hc h, rd_wr_same]
    rfl

theorem rd_timerMatch_ne {a : Nat} (hc : s.cyc.ccWritten = []) (hm : m < 4) (ha : 0x40010000 ≤ a)
    (hf : a ≠ Reg.TMR_FLAGS n) (hv : a ≠ ccValue n m) : (s.timerMatch n m).rd a = s.rd a :=
  (rd_timerMatch_ne_value hc hv).trans (rd_raiseChannel_ne hm ha hf)

theorem bit_timerMatch_flags (hc : s.cyc.ccWritten = []) (hm : m < 4) (i : Nat) :
    (s.timerMatch n m).bit (Reg.TMR_FLAGS n) i = (s.bit (Reg.TMR_FLAGS n) i || i == m) := by
  rw [bit_congr (rd_timerMatch_ne_value hc ccValue_ne_flags.symm), bit_raiseChannel_flags hm]

theorem pending1_timerMatch_eq {k : Nat} (hc : s.cyc.ccWritten = []) (hk : k < 256) :
    (s.timerMatch n m).pending1 k = (s.raiseChannel n m).pending1 k := by
  apply bit_congr
  apply rd_timerMatch_ne_value hc
  simp only [Reg.INTC_PEND, ccValue]
  omega

/-- The other channels' values after a match of their own do not depend on this channel's match. -/
theorem matchedValue_timerMatch_ne {m' : Nat} (hc : s.cyc.ccWritten = []) (hm : m < 4) (h : m' ≠ m) :
    (s.timerMatch n m).matchedValue n m' = s.matchedValue n m' := by
  have hvalue : (s.timerMatch n m).rd (ccValue n m') = s.rd (ccValue n m') :=
    rd_timerMatch_ne hc hm timerPage_le_ccValue ccValue_ne_flags (ccValue_ne_ccValue h)
  have hstride : (s.timerMatch n m).rd (ccStride n m') = s.rd (ccStride n m') := by
    apply rd_timerMatch_ne hc hm <;> simp only [ccStride, ccValue, Reg.TMR_FLAGS] <;> omega
  have hcfg : (s.timerMatch n m).rd (ccCfg n m') = s.rd (ccCfg n m') := by
    apply rd_timerMatch_ne hc hm <;> simp only [ccCfg, ccValue, Reg.TMR_FLAGS] <;> omega
  have hctrl : (s.timerMatch n m).rd (Reg.TMR_CTRL n) = s.rd (Reg.TMR_CTRL n) := by
    apply rd_timerMatch_ne hc hm <;> simp only [Reg.TMR_CTRL, ccValue, Reg.TMR_FLAGS] <;> omega
  unfold State.matchedValue State.strides
  rw [hvalue, hstride, rdF_congr hcfg, bit_congr hctrl]

end

/-! ### The registers of a timer that its counting changes -/

/-- What CNT's taking a value may change besides the timers' own state, the interrupt that it raises included. -/
def timerRegs (n : Nat) : List Nat :=
  [Reg.TMR_CNT n, Reg.TMR_PRECNT n, Reg.TMR_FLAGS n, ccValue n 0, ccValue n 1, ccValue n 2, ccValue n 3,
    Reg.INTC_PEND 1, Reg.INTC_OVR]

theorem ccValue_mem_timerRegs {n m : Nat} (hm : m < 4) : ccValue n m ∈ timerRegs n := by
  obtain rfl | rfl | rfl | rfl : m = 0 ∨ m = 1 ∨ m = 2 ∨ m = 3 := by omega
  all_goals simp [timerRegs]

theorem OnlyEvents.timerMatch {s0 s : State} {n : Fin 8} {m : Nat} (hc : s.cyc.ccWritten = []) (hm : m < 4)
    (h : OnlyEvents (timerRegs n) { s0 with tmr := s.tmr } s) :
    OnlyEvents (timerRegs n) { s0 with tmr := (s.timerMatch n m).tmr } (s.timerMatch n m) := by
  have hraise := h.raiseChannel (n := n) hm (by simp [timerRegs]) (by simp [timerRegs]) (by simp [timerRegs])
  cases hs : s.strides n m
  case false =>
    obtain ⟨x, hx⟩ := timerMatch_of_not_strides hs
    rw [hx]
    exact hraise.withTmr x
  case true =>
    rw [timerMatch_of_strides hc hs, wr_tmr, raiseChannel_tmr]
    exact hraise.wr (ccValue_mem_timerRegs hm)

/-! ### The matches of several channels in turn -/

/-- The listed channels of a timer match, one after the other. -/
def State.matchAll (s : State) (n : Nat) (ms : List Nat) : State := ms.foldl (fun u m => u.timerMatch n m) s

section

variable {s : State} {n : Fin 8} {ms : List Nat}

@[simp] theorem matchAll_nil (s : State) (n : Nat) : s.matchAll n [] = s := rfl

@[simp] theorem matchAll_cons (s : State) (n m : Nat) (ms : List Nat) :
    s.matchAll n (m :: ms) = (s.timerMatch n m).matchAll n ms := rfl

theorem rd_matchAll_ne {a : Nat} (hc : s.cyc.ccWritten = []) (hms : ∀ m ∈ ms, m < 4) (ha : 0x40010000 ≤ a)
    (hf : a ≠ Reg.TMR_FLAGS n) (hv : ∀ m ∈ ms, a ≠ ccValue n m) : (s.matchAll n ms).rd a = s.rd a := by
  induction ms generalizing s with
  | nil => rfl
  | cons m ms ih =>
    obtain ⟨hm, hrest⟩ := List.forall_mem_cons.1 hms
    obtain ⟨hvm, hvrest⟩ := List.forall_mem_cons.1 hv
    rw [matchAll_cons, ih (ccWritten_timerMatch hc) hrest hvrest, rd_timerMatch_ne hc hm ha hf hvm]

theorem bit_matchAll_flags (hc : s.cyc.ccWritten = []) (hms : ∀ m ∈ ms, m < 4) (i : Nat) :
    (s.matchAll n ms).bit (Reg.TMR_FLAGS n) i = (s.bit (Reg.TMR_FLAGS n) i || ms.contains i) := by
  induction ms generalizing s with
  | nil => simp
  | cons m ms ih =>
    obtain ⟨hm, hrest⟩ := List.forall_mem_cons.1 hms
    rw [matchAll_cons, ih (ccWritten_timerMatch hc) hrest, bit_timerMatch_flags hc hm, List.contains_cons, Bool.or_assoc]

theorem pending1_matchAll_of_pending1 {k : Nat} (hc : s.cyc.ccWritten = []) (hms : ∀ m ∈ ms, m < 4) (hk : k < 256)
    (h : s.pending1 k = true) : (s.matchAll n ms).pending1 k = true := by
  induction ms generalizing s with
  | nil => exact h
  | cons m ms ih =>
    obtain ⟨hm, hrest⟩ := List.forall_mem_cons.1 hms
    refine ih (ccWritten_timerMatch hc) hrest ?_
    rw [pending1_timerMatch_eq hc hk]
    exact pending1_raiseChannel_of_pending1 hm hk h

theorem pending1_matchAll {m : Nat} (hc : s.cyc.ccWritten = []) (hms : ∀ m ∈ ms, m < 4) (h : m ∈ ms) :
    (s.matchAll n ms).pending1 (32 + 4 * n + m) = true := by
  induction ms generalizing s with
  | nil => exact absurd h List.not_mem_nil
  | cons m' ms ih =>
    obtain ⟨hm, hrest⟩ := List.forall_mem_cons.1 hms
    have hc' := ccWritten_timerMatch (n := n) (m := m') hc
    rw [matchAll_cons]
    rcases List.mem_cons.1 h with rfl | h
    · have hk : 32 + 4 * n.val + m < 256 := by omega
      refine pending1_matchAll_of_pending1 hc' hrest hk ?_
      rw [pending1_timerMatch_eq hc hk]
      exact pending1_raiseChannel hm
    · exact ih hc' hrest h

/-- A channel that matches once has the value that its own match leaves. -/
theorem rd_matchAll_value {m : Nat} (hc : s.cyc.ccWritten = []) (hms : ∀ m ∈ ms, m < 4) (hnd : ms.Nodup) (h : m ∈ ms) :
    (s.matchAll n ms).rd (ccValue n m) = s.matchedValue n m := by
  induction ms generalizing s with
  | nil => exact absurd h List.not_mem_nil
  | cons m' ms ih =>
    obtain ⟨hm, hrest⟩ := List.forall_mem_cons.1 hms
    obtain ⟨hnot, hndrest⟩ := List.nodup_cons.1 hnd
    have hc' := ccWritten_timerMatch (n := n) (m := m') hc
    rw [matchAll_cons]
    rcases List.mem_cons.1 h with rfl | h
    · have hv : ∀ j ∈ ms, ccValue n m ≠ ccValue n j := fun j hj => ccValue_ne_ccValue fun e => hnot (e ▸ hj)
      rw [rd_matchAll_ne hc' hrest timerPage_le_ccValue ccValue_ne_flags hv, rd_timerMatch_value hc hm]
    · rw [ih hc' hrest hndrest h, matchedValue_timerMatch_ne hc hm fun e => hnot (e ▸ h)]

theorem OnlyEvents.matchAll {s0 : State} (hc : s.cyc.ccWritten = []) (hms : ∀ m ∈ ms, m < 4)
    (h : OnlyEvents (timerRegs n) { s0 with tmr := s.tmr } s) :
    OnlyEvents (timerRegs n) { s0 with tmr := (s.matchAll n ms).tmr } (s.matchAll n ms) := by
  induction ms generalizing s with
  | nil => exact h
  | cons m ms ih =>
    obtain ⟨hm, hrest⟩ := List.forall_mem_cons.1 hms
    exact ih (ccWritten_timerMatch hc) hrest (h.timerMatch hc hm)

end

/-! ### CNT takes a value (R166, R167) -/

/-- What the channels of a timer have done in a state after CNT has taken a value, by the state before. -/
structure ChannelsMatched (s : State) (n : Fin 8) (v : Word) (t : State) : Prop where
  hit : ∀ m < 4, s.channelHits n m v → t.bit (Reg.TMR_FLAGS n) m = true ∧ t.pending1 (32 + 4 * n + m) = true
  miss : ∀ m < 4, ¬ s.channelHits n m v → t.bit (Reg.TMR_FLAGS n) m = s.bit (Reg.TMR_FLAGS n) m
  stride : ∀ m < 4, s.rdF (ccCfg n m) 0 2 = 2 ∧ s.rd (ccValue n m) = v ∧ ¬ (m = 0 ∧ s.bit (Reg.TMR_CTRL n) 5 = true) →
    t.rd (ccValue n m) = v + s.rd (ccStride n m)
  keep : ∀ m < 4, ¬ (s.rdF (ccCfg n m) 0 2 = 2 ∧ s.rd (ccValue n m) = v ∧ ¬ (m = 0 ∧ s.bit (Reg.TMR_CTRL n) 5 = true)) →
    t.rd (ccValue n m) = s.rd (ccValue n m)

section

variable {s : State} {n : Fin 8} {v : Word}

theorem strides_iff {m : Nat} :
    s.strides n m = true ↔ s.rdF (ccCfg n m) 0 2 = 2 ∧ ¬ (m = 0 ∧ s.bit (Reg.TMR_CTRL n) 5 = true) := by
  simp [State.strides, imp_iff_not_or]

theorem timerTake_eq_matchAll (s : State) (n : Nat) (v : Word) :
    s.timerTake n v = (s.wr (Reg.TMR_CNT n) v).matchAll n (s.timerHits n v) := rfl

theorem mem_timerHits {m : Nat} (hc : s.cyc.ccWritten = []) :
    m ∈ s.timerHits n v ↔ m < 4 ∧ s.channelHits n m v := by
  simp [State.timerHits, State.channelHits, State.ccCompare, hc]

theorem lt_of_mem_timerHits {m : Nat} (h : m ∈ s.timerHits n v) : m < 4 :=
  List.mem_range.1 (List.mem_filter.1 h).1

theorem timerHits_nodup : (s.timerHits n v).Nodup := List.nodup_range.filter _

/-- A register of the timer's page that is neither CNT nor a flag nor a value. -/
theorem rd_timerTake_ne {a : Nat} (hc : s.cyc.ccWritten = []) (ha : 0x40010000 ≤ a) (hcnt : a ≠ Reg.TMR_CNT n)
    (hf : a ≠ Reg.TMR_FLAGS n) (hv : ∀ m ∈ s.timerHits n v, a ≠ ccValue n m) : (s.timerTake n v).rd a = s.rd a := by
  rw [timerTake_eq_matchAll, rd_matchAll_ne (s := s.wr _ v) hc (fun _ => lt_of_mem_timerHits) ha hf hv, rd_wr_ne _ _ hcnt]

theorem rd_timerTake_cnt (hc : s.cyc.ccWritten = []) : (s.timerTake n v).rd (Reg.TMR_CNT n) = v := by
  rw [timerTake_eq_matchAll, rd_matchAll_ne (s := s.wr _ v) hc (fun _ => lt_of_mem_timerHits), rd_wr_same]
  · simp only [Reg.TMR_CNT]
    omega
  · simp only [Reg.TMR_CNT, Reg.TMR_FLAGS]
    omega
  · intro m _
    simp only [Reg.TMR_CNT, ccValue]
    omega

theorem rd_timerTake_precnt (hc : s.cyc.ccWritten = []) :
    (s.timerTake n v).rd (Reg.TMR_PRECNT n) = s.rd (Reg.TMR_PRECNT n) := by
  apply rd_timerTake_ne hc
  · simp only [Reg.TMR_PRECNT]
    omega
  · simp only [Reg.TMR_PRECNT, Reg.TMR_CNT]
    omega
  · simp only [Reg.TMR_PRECNT, Reg.TMR_FLAGS]
    omega
  · intro m _
    simp only [Reg.TMR_PRECNT, ccValue]
    omega

theorem bit_timerTake_flags (hc : s.cyc.ccWritten = []) (i : Nat) :
    (s.timerTake n v).bit (Reg.TMR_FLAGS n) i = (s.bit (Reg.TMR_FLAGS n) i || (s.timerHits n v).contains i) := by
  have hcnt : (s.wr (Reg.TMR_CNT n) v).bit (Reg.TMR_FLAGS n) i = s.bit (Reg.TMR_FLAGS n) i := by
    apply bit_congr
    apply rd_wr_ne
    simp only [Reg.TMR_CNT, Reg.TMR_FLAGS]
    omega
  rw [timerTake_eq_matchAll, bit_matchAll_flags (s := s.wr _ v) hc fun _ => lt_of_mem_timerHits, hcnt]

theorem timerTake_of_no_hits (hc : s.cyc.ccWritten = []) (h : ∀ m < 4, ¬ s.channelHits n m v) :
    s.timerTake n v = s.wr (Reg.TMR_CNT n) v := by
  have hnone : s.timerHits n v = [] :=
    List.eq_nil_iff_forall_not_mem.2 fun m hm => (h m (lt_of_mem_timerHits hm)) ((mem_timerHits hc).1 hm).2
  rw [timerTake_eq_matchAll, hnone, matchAll_nil]

theorem matchedValue_wr_cnt {m : Nat} : (s.wr (Reg.TMR_CNT n) v).matchedValue n m = s.matchedValue n m := by
  have hne : ∀ a, a ≠ Reg.TMR_CNT n → (s.wr (Reg.TMR_CNT n) v).rd a = s.rd a := fun a ha => rd_wr_ne s v ha
  have hvalue := hne (ccValue n m) (by simp only [ccValue, Reg.TMR_CNT]; omega)
  have hstride := hne (ccStride n m) (by simp only [ccStride, Reg.TMR_CNT]; omega)
  have hcfg := hne (ccCfg n m) (by simp only [ccCfg, Reg.TMR_CNT]; omega)
  have hctrl := hne (Reg.TMR_CTRL n) (by simp only [Reg.TMR_CTRL, Reg.TMR_CNT]; omega)
  unfold State.matchedValue State.strides
  rw [hvalue, hstride, rdF_congr hcfg, bit_congr hctrl]

theorem rd_timerTake_value_of_not_hit {m : Nat} (hc : s.cyc.ccWritten = []) (h : m ∉ s.timerHits n v) :
    (s.timerTake n v).rd (ccValue n m) = s.rd (ccValue n m) := by
  have hcnt : ccValue n m ≠ Reg.TMR_CNT n := by
    simp only [ccValue, Reg.TMR_CNT]
    omega
  exact rd_timerTake_ne hc timerPage_le_ccValue hcnt ccValue_ne_flags fun j hj => ccValue_ne_ccValue fun e => h (e ▸ hj)

theorem rd_timerTake_value_of_hit {m : Nat} (hc : s.cyc.ccWritten = []) (h : m ∈ s.timerHits n v) :
    (s.timerTake n v).rd (ccValue n m) = s.matchedValue n m := by
  rw [timerTake_eq_matchAll, rd_matchAll_value (s := s.wr _ v) hc (fun _ => lt_of_mem_timerHits) timerHits_nodup h,
    matchedValue_wr_cnt]

theorem channelsMatched_timerTake (hc : s.cyc.ccWritten = []) : ChannelsMatched s n v (s.timerTake n v) where
  hit m hm hhit := by
    have hmem := (mem_timerHits hc).2 ⟨hm, hhit⟩
    refine ⟨?_, pending1_matchAll (s := s.wr _ v) hc (fun _ => lt_of_mem_timerHits) hmem⟩
    rw [bit_timerTake_flags hc, List.contains_iff_mem.2 hmem, Bool.or_true]
  miss m _ hmiss := by
    have hmem : (s.timerHits n v).contains m = false := by simpa using fun h => hmiss ((mem_timerHits hc).1 h).2
    rw [bit_timerTake_flags hc, hmem, Bool.or_false]
  stride m hm hs := by
    obtain ⟨hmode, hval, hclr⟩ := hs
    have hmem : m ∈ s.timerHits n v := (mem_timerHits hc).2 ⟨hm, .inr hmode, hval⟩
    rw [rd_timerTake_value_of_hit hc hmem, State.matchedValue, if_pos (strides_iff.2 ⟨hmode, hclr⟩), hval]
  keep m hm hs := by
    by_cases hmem : m ∈ s.timerHits n v
    · obtain ⟨-, -, hval⟩ := (mem_timerHits hc).1 hmem
      have hstrides : ¬ s.strides n m = true := fun h => hs ⟨(strides_iff.1 h).1, hval, (strides_iff.1 h).2⟩
      rw [rd_timerTake_value_of_hit hc hmem, State.matchedValue, if_neg hstrides]
    · exact rd_timerTake_value_of_not_hit hc hmem

section

variable {u t : State} {m : Nat} (hu : SameRegs [Reg.TMR_PRECNT n, Reg.TMR_FLAGS n] s u)

include hu

theorem rd_of_prepared {a : Nat} (hp : a ≠ Reg.TMR_PRECNT n) (hf : a ≠ Reg.TMR_FLAGS n) : u.rd a = s.rd a :=
  hu a (by simp [hp, hf])

theorem rd_ccValue_of_prepared : u.rd (ccValue n m) = s.rd (ccValue n m) :=
  rd_of_prepared hu (by simp only [ccValue, Reg.TMR_PRECNT]; omega) ccValue_ne_flags

theorem rd_ccCfg_of_prepared : u.rd (ccCfg n m) = s.rd (ccCfg n m) :=
  rd_of_prepared hu (by simp only [ccCfg, Reg.TMR_PRECNT]; omega) (by simp only [ccCfg, Reg.TMR_FLAGS]; omega)

theorem rd_ccStride_of_prepared : u.rd (ccStride n m) = s.rd (ccStride n m) :=
  rd_of_prepared hu (by simp only [ccStride, Reg.TMR_PRECNT]; omega) (by simp only [ccStride, Reg.TMR_FLAGS]; omega)

theorem rd_ctrl_of_prepared : u.rd (Reg.TMR_CTRL n) = s.rd (Reg.TMR_CTRL n) :=
  rd_of_prepared hu (by simp only [Reg.TMR_CTRL, Reg.TMR_PRECNT]; omega) (by simp only [Reg.TMR_CTRL, Reg.TMR_FLAGS]; omega)

theorem channelHits_of_prepared : u.channelHits n m v ↔ s.channelHits n m v := by
  simp only [State.channelHits, State.rdF, rd_ccValue_of_prepared hu, rd_ccCfg_of_prepared hu]

/-- What a command has changed before CNT takes its value, PRECNT and WRAP, no channel sees. -/
theorem ChannelsMatched.of_prepared (hf : ∀ m < 4, u.bit (Reg.TMR_FLAGS n) m = s.bit (Reg.TMR_FLAGS n) m)
    (h : ChannelsMatched u n v t) : ChannelsMatched s n v t := by
  obtain ⟨hit, miss, stride, keep⟩ := h
  simp only [channelHits_of_prepared hu] at hit miss
  simp only [State.rdF, State.bit, rd_ccValue_of_prepared hu, rd_ccCfg_of_prepared hu, rd_ccStride_of_prepared hu,
    rd_ctrl_of_prepared hu] at stride keep
  exact ⟨hit, fun m hm hmiss => (miss m hm hmiss).trans (hf m hm), stride, keep⟩

end

theorem OnlyEvents.timerTake {s0 : State} (hc : s.cyc.ccWritten = [])
    (h : OnlyEvents (timerRegs n) { s0 with tmr := s.tmr } s) :
    OnlyEvents (timerRegs n) { s0 with tmr := (s.timerTake n v).tmr } (s.timerTake n v) :=
  (h.wr (by simp [timerRegs])).matchAll hc fun _ => lt_of_mem_timerHits

end

/-! ### PRECNT of a running timer ends (R161, R162, R168) -/

/-- PRECNT has returned to 0, and a pending PRESCALE applies (R164). -/
def State.endPrecnt (s : State) (n : Nat) : State :=
  ({ s with tmr := { s.tmr with oldPresc := mapErase s.tmr.oldPresc n } }).wr (Reg.TMR_PRECNT n) 0

section

variable {s : State} {n : Fin 8} {v : Word}

theorem OnlyRegs.mono {l l' : List Nat} {s t : State} (h : OnlyRegs l s t) (hl : l ⊆ l') : OnlyRegs l' s t := by
  obtain ⟨hregs, hrest⟩ := h
  exact ⟨fun a ha => hregs a fun hm => ha (hl hm), hrest⟩

theorem exec_timerPrescaleExpiry_of_running (hrun : s.bit (Reg.TMR_CTRL n) 0 = true) (ha : s.asleep = false) :
    exec (.timerPrescaleExpiry n) s = .next (s.timerCount n) := by
  simp [execTimerPrescaleExpiry, hrun, ha]

theorem exec_timerPrescaleExpiry_of_not_running (h : s.bit (Reg.TMR_CTRL n) 0 = false ∨ s.asleep = true) :
    exec (.timerPrescaleExpiry n) s = .next s := by
  obtain h | h := h <;> simp [execTimerPrescaleExpiry, h]

theorem timerCount_of_due (hd : n.val ∈ s.tmr.c0Due) : s.timerCount n = ((s.endPrecnt n).dropC0 n).timerTake n 0 := by
  simp only [State.timerCount, List.contains_iff_mem.2 hd, if_true]
  rfl

theorem timerCount_of_not_due (hc : s.cyc = {}) (hd : n.val ∉ s.tmr.c0Due) :
    s.timerCount n = ((s.endPrecnt n).timerWrap n (s.rd (Reg.TMR_CNT n))).timerTake n (s.rd (Reg.TMR_CNT n) + 1) := by
  have hdue : s.tmr.c0Due.contains n.val = false := by simpa using hd
  have hclear : s.cyc.c0Cleared.contains n.val = false := by simp [hc]
  have htask : mapGet s.cyc.cleared n = none := by simp [hc]
  simp only [State.timerCount, hdue, hclear, htask, Bool.false_eq_true, if_false]
  rfl

@[simp] theorem timerWrap_tmr (s : State) (n : Nat) : (s.timerWrap n v).tmr = s.tmr := by
  unfold State.timerWrap
  split <;> rfl

@[simp] theorem timerWrap_cyc (s : State) (n : Nat) : (s.timerWrap n v).cyc = s.cyc := by
  unfold State.timerWrap
  split <;> rfl

theorem rd_timerWrap_ne {a : Nat} (h : a ≠ Reg.TMR_FLAGS n) : (s.timerWrap n v).rd a = s.rd a := by
  unfold State.timerWrap
  split
  · exact rd_setB_ne s _ _ h
  · rfl

theorem rd_timerWrap_precnt : (s.timerWrap n v).rd (Reg.TMR_PRECNT n) = s.rd (Reg.TMR_PRECNT n) := by
  apply rd_timerWrap_ne
  simp only [Reg.TMR_PRECNT, Reg.TMR_FLAGS]
  omega

theorem bit_timerWrap_channel {m : Nat} (hm : m < 4) :
    (s.timerWrap n v).bit (Reg.TMR_FLAGS n) m = s.bit (Reg.TMR_FLAGS n) m := by
  unfold State.timerWrap
  split
  · exact bit_setB_ne s true (by omega)
  · rfl

theorem bit_timerWrap_wrap :
    (s.timerWrap n v).bit (Reg.TMR_FLAGS n) 8 = (s.bit (Reg.TMR_FLAGS n) 8 || v == 0xFFFFFFFF) := by
  unfold State.timerWrap
  split
  · next h => rw [bit_setB_same s true (by decide), h, Bool.or_true]
  · next h => rw [Bool.eq_false_iff.2 h, Bool.or_false]

theorem OnlyRegs.timerWrap {l : List Nat} {t : State} (h : OnlyRegs l s t) (hf : Reg.TMR_FLAGS n ∈ l) :
    OnlyRegs l s (t.timerWrap n v) := by
  unfold State.timerWrap
  split
  · exact h.setB hf
  · exact h

@[simp] theorem rd_endPrecnt_precnt : (s.endPrecnt n).rd (Reg.TMR_PRECNT n) = 0 := rd_wr_same _ _ _

@[simp] theorem bit_endPrecnt_flags (i : Nat) : (s.endPrecnt n).bit (Reg.TMR_FLAGS n) i = s.bit (Reg.TMR_FLAGS n) i := by
  apply bit_congr
  apply (rd_wr_ne _ _ _).trans (rd_congr rfl _)
  simp only [Reg.TMR_FLAGS, Reg.TMR_PRECNT]
  omega

theorem onlyRegs_endPrecnt (s : State) (n : Nat) :
    OnlyRegs [Reg.TMR_PRECNT n, Reg.TMR_FLAGS n] { s with tmr := (s.endPrecnt n).tmr } (s.endPrecnt n) :=
  (OnlyRegs.refl _ _).wr List.mem_cons_self

theorem onlyRegs_endPrecnt_timerWrap (s : State) (n : Fin 8) (v : Word) :
    OnlyRegs [Reg.TMR_PRECNT n, Reg.TMR_FLAGS n] { s with tmr := ((s.endPrecnt n).timerWrap n v).tmr }
      ((s.endPrecnt n).timerWrap n v) := by
  rw [timerWrap_tmr]
  exact (onlyRegs_endPrecnt s n).timerWrap (by simp)

/-- What CNT's taking a value does, whatever PRECNT and WRAP were made before. -/
theorem timerTake_of_prepared {u : State} (hc : s.cyc = {})
    (hu : OnlyRegs [Reg.TMR_PRECNT n, Reg.TMR_FLAGS n] { s with tmr := u.tmr } u)
    (hf : ∀ m < 4, u.bit (Reg.TMR_FLAGS n) m = s.bit (Reg.TMR_FLAGS n) m) :
    (u.timerTake n v).rd (Reg.TMR_CNT n) = v ∧ ChannelsMatched s n v (u.timerTake n v) ∧
    (u.timerTake n v).rd (Reg.TMR_PRECNT n) = u.rd (Reg.TMR_PRECNT n) ∧
    (u.timerTake n v).bit (Reg.TMR_FLAGS n) 8 = u.bit (Reg.TMR_FLAGS n) 8 ∧
    OnlyEvents (timerRegs n) { s with tmr := (u.timerTake n v).tmr } (u.timerTake n v) := by
  have hcu : u.cyc.ccWritten = [] := by
    obtain ⟨-, -, heq⟩ := hu
    rw [heq, hc]
  have hwrap : (u.timerHits n v).contains 8 = false := by
    simpa using fun h => absurd (lt_of_mem_timerHits (n := n) h) (by decide)
  refine ⟨rd_timerTake_cnt hcu, ?_, rd_timerTake_precnt hcu, ?_, ?_⟩
  · obtain ⟨hregs, -, -⟩ := hu
    exact .of_prepared hregs hf (channelsMatched_timerTake hcu)
  · rw [bit_timerTake_flags hcu, hwrap, Bool.or_false]
  · exact (hu.mono (by simp [timerRegs])).events.timerTake hcu

/-- From 0xFFFF_FFFF, with no channel at 0, CNT becomes 0 and WRAP is set, and no event is raised (R162). -/
theorem timerCount_of_wrap (hc : s.cyc = {}) (hd : n.val ∉ s.tmr.c0Due) (hmax : s.rd (Reg.TMR_CNT n) = 0xFFFFFFFF)
    (hmiss : ∀ m < 4, ¬ s.channelHits n m 0) :
    (s.timerCount n).rd (Reg.TMR_CNT n) = 0 ∧ (s.timerCount n).bit (Reg.TMR_FLAGS n) 8 = true ∧
    OnlyRegs [Reg.TMR_CNT n, Reg.TMR_PRECNT n, Reg.TMR_FLAGS n] { s with tmr := (s.timerCount n).tmr } (s.timerCount n) := by
  have hprep := onlyRegs_endPrecnt_timerWrap s n 0xFFFFFFFF
  have hcyc : ((s.endPrecnt n).timerWrap n 0xFFFFFFFF).cyc.ccWritten = [] := by
    rw [timerWrap_cyc]
    exact congrArg CycSt.ccWritten hc
  have htake : s.timerCount n = ((s.endPrecnt n).timerWrap n 0xFFFFFFFF).wr (Reg.TMR_CNT n) 0 := by
    rw [timerCount_of_not_due hc hd, hmax, show (0xFFFFFFFF : Word) + 1 = 0 by decide]
    obtain ⟨hregs, -, -⟩ := hprep
    exact timerTake_of_no_hits hcyc fun m hm h => hmiss m hm ((channelHits_of_prepared hregs).1 h)
  rw [htake]
  refine ⟨rd_wr_same _ _ _, ?_, (hprep.mono (by simp)).wr (by simp)⟩
  rw [bit_congr (rd_wr_ne _ _ (by simp only [Reg.TMR_FLAGS, Reg.TMR_CNT]; omega)), bit_timerWrap_wrap, beq_self_eq_true,
    Bool.or_true]

end

/-! ### The clear of a timer (R166, R168) -/

section

variable {s : State} {n : Fin 8}

theorem OnlyRegs.dropC0 {l : List Nat} {t : State} (h : OnlyRegs l { s with tmr := t.tmr } t) :
    OnlyRegs l { s with tmr := (t.dropC0 n).tmr } (t.dropC0 n) := by
  obtain ⟨hregs, hmem, heq⟩ := h
  refine ⟨hregs, hmem, ?_⟩
  unfold State.dropC0
  rw [heq]

theorem not_mem_c0Due_dropC0 : n.val ∉ (s.dropC0 n).tmr.c0Due := by
  simp [State.dropC0]

theorem exec_timerClear_of_written (h : n.val ∈ s.cyc.cntWritten) : exec (.timerClear n) s = .next s := by
  simp [execTimerClear, h]

theorem exec_timerClear_of_not_written (h : n.val ∉ s.cyc.cntWritten) :
    exec (.timerClear n) s = .next { (s.dropC0 n).timerTake n 0 with cyc :=
      { ((s.dropC0 n).timerTake n 0).cyc with
        cleared := (n.val, s.rd (Reg.TMR_CNT n)) :: ((s.dropC0 n).timerTake n 0).cyc.cleared } } := by
  simp only [exec_timerClear, execTimerClear, List.contains_iff_mem, h, if_false]

end

/-! ### A capture (R169) -/

/-- The overrun of a capture: OVR is set where the channel's flag was set already. -/
def State.captureOvr (s : State) (n m : Nat) : State :=
  if s.bit (Reg.TMR_FLAGS n) m then s.setB (Reg.TMR_FLAGS n) (4 + m) true else s

/-- The registers and the event of a capture. -/
def State.captured (s : State) (n m : Nat) : State :=
  ((s.captureOvr n m).wr (ccValue n m) (s.rd (Reg.TMR_CNT n))).raiseChannel n m

section

variable {s : State} {n : Fin 8} {m : Fin 4}

theorem exec_timerCapture_of_capture (h : s.rdF (ccCfg n m) 0 2 = 3) :
    exec (.timerCapture n m) s =
      .next { s.captured n m with cyc := { s.cyc with captured := ccValue n m :: s.cyc.captured } } := by
  have hcyc : (s.captured n m).cyc = s.cyc := by
    rw [State.captured, raiseChannel_cyc, wr_cyc, State.captureOvr]
    split <;> rfl
  rw [← hcyc]
  simp only [exec_timerCapture, execTimerCapture, h]
  rfl

theorem exec_timerCapture_of_not_capture (h : s.rdF (ccCfg n m) 0 2 ≠ 3) : exec (.timerCapture n m) s = .next s := by
  simp [execTimerCapture, h]

theorem rd_captured_value : (s.captured n m).rd (ccValue n m) = s.rd (Reg.TMR_CNT n) := by
  rw [State.captured, rd_raiseChannel_ne m.isLt timerPage_le_ccValue ccValue_ne_flags, rd_wr_same]

theorem bit_captureOvr_ovr :
    (s.captureOvr n m).bit (Reg.TMR_FLAGS n) (4 + m) =
      (s.bit (Reg.TMR_FLAGS n) (4 + m) || s.bit (Reg.TMR_FLAGS n) m) := by
  unfold State.captureOvr
  split
  · next h => rw [bit_setB_same s true (by omega), h, Bool.or_true]
  · next h => rw [Bool.eq_false_iff.2 h, Bool.or_false]

theorem bit_captured_flags (i : Nat) :
    (s.captured n m).bit (Reg.TMR_FLAGS n) i = ((s.captureOvr n m).bit (Reg.TMR_FLAGS n) i || i == m) := by
  rw [State.captured, bit_raiseChannel_flags m.isLt, bit_congr (rd_wr_ne _ _ ccValue_ne_flags.symm)]

theorem onlyEvents_captured :
    OnlyEvents [ccValue n m, Reg.TMR_FLAGS n, Reg.INTC_PEND 1, Reg.INTC_OVR] s (s.captured n m) := by
  have hovr : OnlyRegs [ccValue n m, Reg.TMR_FLAGS n, Reg.INTC_PEND 1, Reg.INTC_OVR] s (s.captureOvr n m) := by
    unfold State.captureOvr
    split
    · exact (OnlyRegs.refl _ s).setB (by simp)
    · exact OnlyRegs.refl _ s
  exact (hovr.wr (by simp)).events.raiseChannel m.isLt (by simp) (by simp) (by simp)

end

end Sys2Proof.Machine
end

section

open Sys2Proof Sys2Proof.Machine

/-- Settles O26: a count, a clear that is due and CLEAR all have CNT take a value, and what that does to the four channels
is one lemma about matching each channel of a list without repetition; the other commands write a few registers. -/
theorem timersCountMatchAndCapture : Obligations.TimersCountMatchAndCapture := by
  unfold Obligations.TimersCountMatchAndCapture
  refine ⟨?count, ?wrap, ?due, ?idle, ?start, ?stop, ?clear, ?written, ?capture, ?noCapture, ?cntWrite⟩
  case count =>
    intro n s hrun ha hc hd
    obtain ⟨hcnt, hmatch, hprecnt, hwrap, honly⟩ := timerTake_of_prepared (v := s.rd (Reg.TMR_CNT n) + 1) hc
      (onlyRegs_endPrecnt_timerWrap s n (s.rd (Reg.TMR_CNT n))) fun m hm => by
        rw [bit_timerWrap_channel hm, bit_endPrecnt_flags]
    refine ⟨_, exec_timerPrescaleExpiry_of_running hrun ha, ?_⟩
    rw [timerCount_of_not_due hc hd]
    refine ⟨hcnt, hmatch.hit, hmatch.miss, hmatch.stride, hmatch.keep, ?_, ?_, honly⟩
    · rw [hprecnt, rd_timerWrap_precnt, rd_endPrecnt_precnt]
    · rw [hwrap, bit_timerWrap_wrap, bit_endPrecnt_flags]
  case wrap =>
    intro n s hrun ha hc hd hmax hmiss
    exact ⟨_, exec_timerPrescaleExpiry_of_running hrun ha, timerCount_of_wrap hc hd hmax hmiss⟩
  case due =>
    intro n s hrun ha hc hd
    obtain ⟨hcnt, hmatch, hprecnt, -, honly⟩ := timerTake_of_prepared (v := 0) hc
      (onlyRegs_endPrecnt s n).dropC0 fun m _ => bit_endPrecnt_flags m
    refine ⟨_, exec_timerPrescaleExpiry_of_running hrun ha, ?_⟩
    rw [timerCount_of_due hd]
    exact ⟨hcnt, hmatch.hit, hmatch.miss, hmatch.stride, hmatch.keep, hprecnt.trans rd_endPrecnt_precnt, honly⟩
  case idle => exact fun n s h => exec_timerPrescaleExpiry_of_not_running h
  case start =>
    exact fun n s => ⟨_, exec_timerStart s n, bit_setB_same s _ (by decide), (OnlyRegs.refl _ s).setB (by simp)⟩
  case stop =>
    intro n s
    exact ⟨_, exec_timerStop s n, bit_setB_same s false (by decide), (OnlyRegs.refl _ { s with cyc := _ }).setB (by simp)⟩
  case clear =>
    intro n s hc
    obtain ⟨hcnt, hmatch, -, -, honly⟩ := timerTake_of_prepared (u := s.dropC0 n) (v := 0) hc
      (OnlyRegs.refl _ s).dropC0 fun _ _ => rfl
    exact ⟨_, exec_timerClear_of_not_written (by simp [hc]), hcnt, hmatch.hit, hmatch.miss, hmatch.stride, hmatch.keep,
      honly.withCyc _⟩
  case written => exact fun n s h => exec_timerClear_of_written h
  case capture =>
    intro n m s h
    refine ⟨_, exec_timerCapture_of_capture h, rd_captured_value, ?_, ?_, pending1_raiseChannel m.isLt,
      onlyEvents_captured.withCyc _⟩
    · exact (bit_captured_flags _).trans (by simp)
    · refine (bit_captured_flags _).trans ?_
      rw [bit_captureOvr_ovr, show (4 + m.val == m.val) = false by simp, Bool.or_false]
  case noCapture => exact fun n m s h => exec_timerCapture_of_not_capture h
  case cntWrite =>
    intro n v s
    refine ⟨_, exec_timerCntWrite s n v, ?_, rd_wr_same _ _ _, not_mem_c0Due_dropC0 (s := s), ?_⟩
    · exact (rd_wr_ne _ _ (by simp only [Reg.TMR_CNT, Reg.TMR_PRECNT]; omega)).trans (rd_wr_same _ _ _)
    · exact ((OnlyRegs.refl _ { s with tmr := _, cyc := _ }).wr (by simp)).wr (by simp)

end

section
/-! PROOF. The routes of the event fabric's channels: what a refused write counts and reports, what the moves held for a
channel are after each write, and which registers a CFG write that applies one changes (07; R195 to R198, R677). -/

namespace Sys2Proof.Machine

/-! ### Frames under another state of the fabric, the cycle or power control -/

section

variable {l : List Nat} {s t u : State}

theorem OnlyRegs.trans (h1 : OnlyRegs l s t) (h2 : OnlyRegs l t u) : OnlyRegs l s u := by
  obtain ⟨hregs1, hmem1, ht⟩ := h1
  obtain ⟨hregs2, hmem2, hu⟩ := h2
  refine ⟨fun a ha => (hregs2 a ha).trans (hregs1 a ha), fun a => (hmem2 a).trans (hmem1 a), ?_⟩
  rw [hu, ht]

/-- What does not depend on the registers is the same after such a frame. -/
theorem OnlyRegs.eq_of_indep {α : Type} (f : State → α) (h : OnlyRegs l s t) (hf : ∀ r, f { s with regs := r } = f s) :
    f t = f s := by
  obtain ⟨-, -, ht⟩ := h
  rw [ht, hf]

theorem OnlyRegs.fab_eq (h : OnlyRegs l s t) : t.fab = s.fab := h.eq_of_indep State.fab fun _ => rfl

theorem OnlyRegs.cyc_eq (h : OnlyRegs l s t) : t.cyc = s.cyc := h.eq_of_indep State.cyc fun _ => rfl

theorem OnlyRegs.pwr_eq (h : OnlyRegs l s t) : t.pwr = s.pwr := h.eq_of_indep State.pwr fun _ => rfl

/-- An update that neither reads nor changes the registers keeps such a frame. -/
theorem OnlyRegs.map (f : State → State) (h : OnlyRegs l s t) (hs : (f s).regs = s.regs)
    (hf : ∀ r, f { s with regs := r } = { f s with regs := r }) : OnlyRegs l (f s) (f t) := by
  obtain ⟨hregs, -, ht⟩ := h
  have hft : f t = { f s with regs := t.regs } := by rw [ht, hf]
  refine ⟨fun a ha => ?_, fun a => ?_, ?_⟩
  · exact (rd_congr (by rw [hft]) a).trans ((hregs a ha).trans (rd_congr hs a).symm)
  · exact byteAt_congr (by rw [hft]) (by rw [hft]) a
  · rw [hft]

theorem OnlyRegs.withFab (x : FabSt) (h : OnlyRegs l s t) : OnlyRegs l { s with fab := x } { t with fab := x } :=
  h.map (fun r => { r with fab := x }) rfl fun _ => rfl

theorem OnlyRegs.withCyc (x : CycSt) (h : OnlyRegs l s t) : OnlyRegs l { s with cyc := x } { t with cyc := x } :=
  h.map (fun r => { r with cyc := x }) rfl fun _ => rfl

theorem OnlyRegs.withPwr (x : PwrSt) (h : OnlyRegs l s t) : OnlyRegs l { s with pwr := x } { t with pwr := x } :=
  h.map (fun r => { r with pwr := x }) rfl fun _ => rfl

end

/-! ### Held moves (R195, R677) -/

section

variable (s : State) (c : Nat) (h : HeldRoute)

theorem heldRoute_setHeld : (s.setHeld c h).heldRoute c = h := mapGet_mapPut_same _ _ _ _

@[simp] theorem rd_setHeld (a : Nat) : (s.setHeld c h).rd a = s.rd a := rd_congr rfl a

@[simp] theorem rdF_setHeld (a lo len : Nat) : (s.setHeld c h).rdF a lo len = s.rdF a lo len :=
  rdF_congr (rd_setHeld s c h a) lo len

theorem OnlyRegs.setHeld {s t : State} {l : List Nat} (ht : OnlyRegs l s t) :
    OnlyRegs l { s with fab := { s.fab with held := (t.setHeld c h).fab.held } } (t.setHeld c h) := by
  rw [← ht.fab_eq]
  exact ht.withFab (t.setHeld c h).fab

end

/-! ### Refused writes (R196 to R198) -/

section

variable (s : State)

theorem sealedWrite_eq (a : Nat) :
    s.sealedWrite a = State.satAdd
      { s with fault := { s.fault with waiting := s.fault.waiting ++ [slipWord 6 0x05 0 (a - 0x40006000)] } }
      Reg.FAB_STATUS 0 8 := rfl

theorem sealedWr_sealedWrite (a : Nat) :
    (s.sealedWrite a).rdF Reg.FAB_STATUS 0 8 = min (s.rdF Reg.FAB_STATUS 0 8 + 1) 255 := by
  rw [State.sealedWrite, rdF_slip, rdF_satAdd_same _ (by decide)]
  rfl

theorem onlyRegs_sealedWrite (a : Nat) : OnlyRegs [Reg.FAB_STATUS]
    { s with fault := { s.fault with waiting := s.fault.waiting ++ [slipWord 6 0x05 0 (a - 0x40006000)] } }
    (s.sealedWrite a) := by
  rw [sealedWrite_eq]
  exact (OnlyRegs.refl _ _).satAdd (by simp)

/-- A refused move is counted in BAD_WR. -/
def State.badWrite (s : State) : State := s.satAdd Reg.FAB_STATUS 8 8

theorem badWr_badWrite : s.badWrite.rdF Reg.FAB_STATUS 8 8 = min (s.rdF Reg.FAB_STATUS 8 8 + 1) 255 := by
  rw [State.badWrite, rdF_satAdd_same _ (by decide)]
  rfl

theorem onlyRegs_badWrite : OnlyRegs [Reg.FAB_STATUS] s s.badWrite := (OnlyRegs.refl _ s).satAdd (by simp)

end

/-! ### The task words (R195 to R198, R677) -/

section

variable {s : State} {c : Fin 128} {b : Bool} {v : Word}

theorem exec_fabTaskWrite_of_sealed (h : s.bit (Reg.FAB_CH_CFG c) 17 = true) :
    exec (.fabTaskWrite c b v) s =
      .next (s.sealedWrite (if b then Reg.FAB_CH_TASK23 c else Reg.FAB_CH_TASK01 c)) := by
  simp [execFabTaskWrite, h]

theorem exec_fabTaskWrite_of_guarded (h : s.bit (Reg.FAB_CH_CFG c) 17 = false)
    (hg : taskGuarded (fld v 0 16) = true ∨ taskGuarded (fld v 16 16) = true) (hr0 : taskReserved (fld v 0 16) = false)
    (hr1 : taskReserved (fld v 16 16) = false) :
    exec (.fabTaskWrite c b v) s = .next
      ((s.sealedWrite (if b then Reg.FAB_CH_TASK23 c else Reg.FAB_CH_TASK01 c)).setHeld c { refused := true }) := by
  simp [execFabTaskWrite, h, hg, hr0, hr1]

theorem exec_fabTaskWrite_of_reserved (h : s.bit (Reg.FAB_CH_CFG c) 17 = false)
    (hr : taskReserved (fld v 0 16) = true ∨ taskReserved (fld v 16 16) = true) (hg0 : taskGuarded (fld v 0 16) = false)
    (hg1 : taskGuarded (fld v 16 16) = false) :
    exec (.fabTaskWrite c b v) s = .next (s.badWrite.setHeld c { refused := true }) := by
  simp [execFabTaskWrite, h, hr, hg0, hg1, State.badWrite]

/-- The tasks of a word are not guarded and not reserved. -/
def taskWordAllowed (v : Word) : Prop :=
  taskGuarded (fld v 0 16) = false ∧ taskGuarded (fld v 16 16) = false ∧
    taskReserved (fld v 0 16) = false ∧ taskReserved (fld v 16 16) = false

/-- An allowed word is held, unless a word of the move has been refused before. -/
theorem exec_fabTaskWrite_of_allowed (h : s.bit (Reg.FAB_CH_CFG c) 17 = false) (hv : taskWordAllowed v) :
    exec (.fabTaskWrite c b v) s = .next (if (s.heldRoute c).refused then s else
      s.setHeld c (if b then { s.heldRoute c with t23 := some v } else { s.heldRoute c with t01 := some v })) := by
  obtain ⟨hg0, hg1, hr0, hr1⟩ := hv
  cases hheld : (s.heldRoute c).refused <;> simp [execFabTaskWrite, h, hg0, hg1, hr0, hr1, hheld]

end

/-! ### The CFG word (R195, R196, R198, R677) -/

/-- A held task word, where there is one, takes its register. -/
def State.putHeld (s : State) (a : Nat) (w : Option Word) : State :=
  match w with
  | some v => s.wr a v
  | none => s

section

variable (s : State) (a : Nat) (w : Option Word)

theorem rd_putHeld_same : (s.putHeld a w).rd a = w.getD (s.rd a) := by
  cases w with
  | none => rfl
  | some v => exact rd_wr_same s a v

theorem rd_putHeld_ne {b : Nat} (h : b ≠ a) : (s.putHeld a w).rd b = s.rd b := by
  cases w with
  | none => rfl
  | some v => exact rd_wr_ne s v h

@[simp] theorem putHeld_cyc : (s.putHeld a w).cyc = s.cyc := by
  cases w <;> rfl

theorem OnlyRegs.putHeld {s t : State} {l : List Nat} {a : Nat} (w : Option Word) (h : OnlyRegs l s t) (ha : a ∈ l) :
    OnlyRegs l s (t.putHeld a w) := by
  cases w with
  | none => exact h
  | some v => exact h.wr ha

end

/-- The route of a channel after a CFG write that applies its held move, before the move is closed. -/
def State.applyMove (s : State) (c : Nat) (v : Word) : State :=
  (((s.keepRoute c).wrF (Reg.FAB_CH_CFG c) 0 17 (fld v 0 17)).putHeld (Reg.FAB_CH_TASK01 c) (s.heldRoute c).t01).putHeld
    (Reg.FAB_CH_TASK23 c) (s.heldRoute c).t23

section

variable (s : State) (c : Nat) (v : Word)

/-- Only the route that the running cycle's pulses keep is new. -/
theorem keepRoute_eq :
    s.keepRoute c = { s with cyc := { s.cyc with routes := (s.keepRoute c).cyc.routes } } := by
  unfold State.keepRoute
  split <;> rfl

theorem rd_keepRoute (a : Nat) : (s.keepRoute c).rd a = s.rd a := by
  rw [keepRoute_eq]
  rfl

theorem task01_ne_cfg : Reg.FAB_CH_TASK01 c ≠ Reg.FAB_CH_CFG c := by
  simp only [Reg.FAB_CH_TASK01, Reg.FAB_CH_CFG]
  omega

theorem task23_ne_cfg : Reg.FAB_CH_TASK23 c ≠ Reg.FAB_CH_CFG c := by
  simp only [Reg.FAB_CH_TASK23, Reg.FAB_CH_CFG]
  omega

theorem task01_ne_task23 : Reg.FAB_CH_TASK01 c ≠ Reg.FAB_CH_TASK23 c := by
  simp only [Reg.FAB_CH_TASK01, Reg.FAB_CH_TASK23]
  omega

theorem rdF_applyMove_cfg : (s.applyMove c v).rdF (Reg.FAB_CH_CFG c) 0 17 = fld v 0 17 := by
  have hcfg : (s.applyMove c v).rd (Reg.FAB_CH_CFG c) =
      ((s.keepRoute c).wrF (Reg.FAB_CH_CFG c) 0 17 (fld v 0 17)).rd (Reg.FAB_CH_CFG c) := by
    rw [State.applyMove, rd_putHeld_ne _ _ _ (task23_ne_cfg c).symm, rd_putHeld_ne _ _ _ (task01_ne_cfg c).symm]
  rw [rdF_congr hcfg, rdF_wrF_same _ _ (by decide), fld, Nat.mod_mod]

theorem rd_applyMove_task01 :
    (s.applyMove c v).rd (Reg.FAB_CH_TASK01 c) = (s.heldRoute c).t01.getD (s.rd (Reg.FAB_CH_TASK01 c)) := by
  rw [State.applyMove, rd_putHeld_ne _ _ _ (task01_ne_task23 c), rd_putHeld_same, rd_wrF_ne _ _ _ _ (task01_ne_cfg c),
    rd_keepRoute]

theorem rd_applyMove_task23 :
    (s.applyMove c v).rd (Reg.FAB_CH_TASK23 c) = (s.heldRoute c).t23.getD (s.rd (Reg.FAB_CH_TASK23 c)) := by
  rw [State.applyMove, rd_putHeld_same, rd_putHeld_ne _ _ _ (task01_ne_task23 c).symm,
    rd_wrF_ne _ _ _ _ (task23_ne_cfg c), rd_keepRoute]

@[simp] theorem applyMove_cyc : (s.applyMove c v).cyc = (s.keepRoute c).cyc := by
  simp [State.applyMove]

theorem onlyRegs_applyMove : OnlyRegs [Reg.FAB_CH_CFG c, Reg.FAB_CH_TASK01 c, Reg.FAB_CH_TASK23 c]
    { s with cyc := { s.cyc with routes := (s.applyMove c v).cyc.routes } } (s.applyMove c v) := by
  rw [applyMove_cyc, ← keepRoute_eq]
  exact (((OnlyRegs.refl _ _).wrF (by simp)).putHeld _ (by simp)).putHeld _ (by simp)

end

section

variable {s : State} {c : Fin 128} {v : Word}

theorem exec_fabCfgWrite_of_sealed (h : s.bit (Reg.FAB_CH_CFG c) 17 = true) :
    exec (.fabCfgWrite c v) s = .next (s.sealedWrite (Reg.FAB_CH_CFG c)) := by
  simp [execFabCfgWrite, h]

theorem exec_fabCfgWrite_of_refused (h : s.bit (Reg.FAB_CH_CFG c) 17 = false) (hr : (s.heldRoute c).refused = true) :
    exec (.fabCfgWrite c v) s = .next (s.setHeld c {}) := by
  simp [execFabCfgWrite, h, hr]

theorem nodeReserved_eq_true_iff {n : Nat} : nodeReserved n = true ↔ 288 ≤ n ∧ n ≠ 0xFFFF := by
  simp [nodeReserved]

theorem nodeReserved_eq_false_iff {n : Nat} : nodeReserved n = false ↔ n < 288 ∨ n = 0xFFFF := by
  rw [← Bool.not_eq_true, nodeReserved_eq_true_iff]
  omega

theorem exec_fabCfgWrite_of_nodeReserved (h : s.bit (Reg.FAB_CH_CFG c) 17 = false)
    (hr : (s.heldRoute c).refused = false) (hn : nodeReserved (fld v 0 16) = true) :
    exec (.fabCfgWrite c v) s = .next (s.badWrite.setHeld c {}) := by
  simp [execFabCfgWrite, h, hr, hn, State.badWrite]

theorem exec_fabCfgWrite_of_allowed (h : s.bit (Reg.FAB_CH_CFG c) 17 = false) (hr : (s.heldRoute c).refused = false)
    (hn : nodeReserved (fld v 0 16) = false) :
    exec (.fabCfgWrite c v) s = .next ((s.applyMove c v).setHeld c {}) := by
  rw [exec_fabCfgWrite, execFabCfgWrite, if_neg (by simp [h]), if_neg (by simp [hr]), if_neg (by simp [hn])]
  rfl

end

end Sys2Proof.Machine
end

section

open Sys2Proof Sys2Proof.Machine

/-- Settles O30: each write of an open channel's registers holds, refuses, applies or closes a move, by whether the
tasks or the node it names are allowed and whether the move held for the channel is refused; a write of a sealed channel is
only counted and reported. -/
theorem routeMovesAreHeldAndSealedChannelsRefuse : Obligations.RouteMovesAreHeldAndSealedChannelsRefuse := by
  unfold Obligations.RouteMovesAreHeldAndSealedChannelsRefuse
  refine ⟨?sealedTask, ?sealedCfg, ?held, ?afterRefusal, ?guarded, ?reserved, ?closed, ?node, ?applied⟩
  case sealedTask =>
    rintro _ c b v s h rfl
    exact ⟨_, exec_fabTaskWrite_of_sealed h, sealedWr_sealedWrite s _, onlyRegs_sealedWrite s _⟩
  case sealedCfg =>
    rintro _ c v s h rfl
    exact ⟨_, exec_fabCfgWrite_of_sealed h, sealedWr_sealedWrite s _, onlyRegs_sealedWrite s _⟩
  case held =>
    intro c b v s h hr hg0 hg1 hr0 hr1
    rw [exec_fabTaskWrite_of_allowed h ⟨hg0, hg1, hr0, hr1⟩, hr]
    rfl
  case afterRefusal =>
    intro c b v s h hr hg0 hg1 hr0 hr1
    rw [exec_fabTaskWrite_of_allowed h ⟨hg0, hg1, hr0, hr1⟩, hr]
    rfl
  case guarded =>
    rintro _ c b v s h rfl hg hr0 hr1
    exact ⟨_, exec_fabTaskWrite_of_guarded h hg hr0 hr1, by rw [rdF_setHeld, sealedWr_sealedWrite],
      heldRoute_setHeld _ _ _, (onlyRegs_sealedWrite s _).setHeld _ _⟩
  case reserved =>
    intro c b v s h hr hg0 hg1
    exact ⟨_, exec_fabTaskWrite_of_reserved h hr hg0 hg1, by rw [rdF_setHeld, badWr_badWrite],
      heldRoute_setHeld _ _ _, (onlyRegs_badWrite s).setHeld _ _⟩
  case closed => exact fun c v s h hr => exec_fabCfgWrite_of_refused h hr
  case node =>
    intro c v s h hr hn hnone
    exact ⟨_, exec_fabCfgWrite_of_nodeReserved h hr (nodeReserved_eq_true_iff.2 ⟨hn, hnone⟩),
      by rw [rdF_setHeld, badWr_badWrite], heldRoute_setHeld _ _ _, (onlyRegs_badWrite s).setHeld _ _⟩
  case applied =>
    intro c v s h hr hn
    have hnode : nodeReserved (fld v 0 16) = false := nodeReserved_eq_false_iff.2 hn
    refine ⟨_, exec_fabCfgWrite_of_allowed h hr hnode, ?_, ?_, ?_, heldRoute_setHeld _ _ _, ?_⟩
    · rw [rdF_setHeld, rdF_applyMove_cfg]
    · rw [rd_setHeld, rd_applyMove_task01]
    · rw [rd_setHeld, rd_applyMove_task23]
    · exact (onlyRegs_applyMove s c v).setHeld _ _

end

section
/-! PROOF. The pulses of the event fabric: a channel that fires, the channels that fire together in a PERCLK cycle, the
pulses in delivery, the tasks they reach, software events, and the logic cells (07; R189 to R194, R199 to R206). -/

namespace Sys2Proof.Machine

/-! ### A pulse enters a channel (R192, R194) -/

/-- The SEEN bit of a channel is set. -/
def State.markSeen (s : State) (c : Nat) : State := s.setB (Reg.FAB_SEEN (c / 32)) (c % 32) true

/-- A pulse is in delivery on a channel, on the route in force. -/
def State.enterDelivery (s : State) (c : Nat) : State :=
  { s with fab := { s.fab with delivery := mapIns s.fab.delivery c ⟨2, s.channelTasks c⟩ } }

section

variable (s : State) (c d : Nat)

theorem rd_markSeen_ne {a : Nat} (h : a ≠ Reg.FAB_SEEN (c / 32)) : (s.markSeen c).rd a = s.rd a := rd_setB_ne s _ _ h

theorem bit_markSeen_seen : (s.markSeen c).bit (Reg.FAB_SEEN (d / 32)) (d % 32) =
    (s.bit (Reg.FAB_SEEN (d / 32)) (d % 32) || decide (d = c)) := by
  by_cases h : d = c
  · simp [h, State.markSeen, bit_setB_same s true (Nat.mod_lt c (by decide : 0 < 32))]
  have hkeep : (s.markSeen c).bit (Reg.FAB_SEEN (d / 32)) (d % 32) = s.bit (Reg.FAB_SEEN (d / 32)) (d % 32) := by
    by_cases hw : d / 32 = c / 32
    · rw [State.markSeen, hw]
      exact bit_setB_ne s true (by omega)
    · exact bit_congr (rd_markSeen_ne s c (by simp only [Reg.FAB_SEEN]; omega)) _
  simp [hkeep, h]

/-- A channel's tasks depend on its three registers and on the route that the running cycle keeps. -/
theorem channelTasks_congr {s t : State} {c : Nat} (hcyc : t.cyc = s.cyc)
    (hrd : ∀ a, Reg.FAB_CH_CFG 0 ≤ a → t.rd a = s.rd a) : t.channelTasks c = s.channelTasks c := by
  have hcfg := hrd (Reg.FAB_CH_CFG c) (by simp only [Reg.FAB_CH_CFG]; omega)
  have h01 := hrd (Reg.FAB_CH_TASK01 c) (by simp only [Reg.FAB_CH_CFG, Reg.FAB_CH_TASK01]; omega)
  have h23 := hrd (Reg.FAB_CH_TASK23 c) (by simp only [Reg.FAB_CH_CFG, Reg.FAB_CH_TASK23]; omega)
  simp only [State.channelTasks, State.route, hcyc, hcfg, h01, h23]

/-- The SEEN registers lie below those of the channels. -/
theorem channelTasks_markSeen (hc : c < 128) : (s.markSeen c).channelTasks d = s.channelTasks d :=
  channelTasks_congr rfl fun a ha => rd_markSeen_ne s c (by simp only [Reg.FAB_CH_CFG, Reg.FAB_SEEN] at ha ⊢; omega)

theorem fireChannel_of_free (h : mapGet s.fab.delivery c = none) :
    s.fireChannel c = (s.markSeen c).enterDelivery c := by
  unfold State.fireChannel
  dsimp only
  rw [setB_fab, h]
  rfl

theorem fireChannel_of_inDelivery {p : Delivery} (h : mapGet s.fab.delivery c = some p) :
    s.fireChannel c = ((s.markSeen c).satAdd Reg.FAB_MERGED 0 16).wrF Reg.FAB_LAST 0 7 c := by
  unfold State.fireChannel
  dsimp only
  rw [setB_fab, h]
  rfl

theorem merged_ne_seen : Reg.FAB_MERGED ≠ Reg.FAB_SEEN (c / 32) := by
  simp only [Reg.FAB_MERGED, Reg.FAB_SEEN]
  omega

theorem last_ne_seen : Reg.FAB_LAST ≠ Reg.FAB_SEEN (c / 32) := by
  simp only [Reg.FAB_LAST, Reg.FAB_SEEN]
  omega

variable {s c d}

/-- A pulse that enters a free channel: what is seen, what is in delivery, and nothing else. -/
theorem fireChannel_free (hc : c < 128) (h : mapGet s.fab.delivery c = none) :
    (s.fireChannel c).bit (Reg.FAB_SEEN (c / 32)) (c % 32) = true ∧
    mapGet (s.fireChannel c).fab.delivery c = some ⟨2, s.channelTasks c⟩ ∧
    OnlyRegs [Reg.FAB_SEEN (c / 32)]
      { s with fab := { s.fab with delivery := (s.fireChannel c).fab.delivery } } (s.fireChannel c) := by
  rw [fireChannel_of_free s c h]
  refine ⟨?_, ?_, ?_⟩
  · exact (bit_markSeen_seen s c c).trans (by simp)
  · rw [← channelTasks_markSeen s c c hc]
    exact mapGet_mapIns_same _ _ _ h
  · exact ((OnlyRegs.refl _ s).setB (by simp)).withFab _

/-- A pulse that enters a channel with one in delivery: it is seen and counted, and nothing else. -/
theorem fireChannel_merge (hc : c < 128) {p : Delivery} (h : mapGet s.fab.delivery c = some p) :
    (s.fireChannel c).bit (Reg.FAB_SEEN (c / 32)) (c % 32) = true ∧
    (s.fireChannel c).rdF Reg.FAB_MERGED 0 16 = min (s.rdF Reg.FAB_MERGED 0 16 + 1) 65535 ∧
    (s.fireChannel c).rdF Reg.FAB_LAST 0 7 = c ∧
    OnlyRegs [Reg.FAB_SEEN (c / 32), Reg.FAB_MERGED, Reg.FAB_LAST] s (s.fireChannel c) := by
  rw [fireChannel_of_inDelivery s c h]
  refine ⟨?_, ?_, ?_, ?_⟩
  · rw [bit_congr (rd_wrF_ne _ _ _ _ (last_ne_seen c).symm), bit_congr (rd_satAdd_ne _ _ _ _ (merged_ne_seen c).symm),
      bit_markSeen_seen]
    simp
  · rw [rdF_congr (rd_wrF_ne _ _ _ _ (by decide)), rdF_satAdd_same _ (by decide),
      rdF_congr (rd_markSeen_ne s c (merged_ne_seen c))]
    rfl
  · rw [rdF_wrF_same _ _ (by decide)]
    exact Nat.mod_eq_of_lt hc
  · exact (((OnlyRegs.refl _ s).setB (by simp)).satAdd (by simp)).wrF (by simp)

end

/-! ### Software events (R199) -/

section

variable {s : State} {n k : Nat}

theorem pending1_event (hn : n < 256) (hk : k < 256) : (s.event n).pending1 k = (s.pending1 k || k == n) := by
  by_cases h : k = n
  · simp [h, State.pending1, bit_event_pend s n hn]
  have hovr : Reg.INTC_PEND (k / 32) ≠ Reg.INTC_OVR := by
    simp only [Reg.INTC_PEND, Reg.INTC_OVR]
    omega
  have hcount : Reg.INTC_PEND (k / 32) ≠ Reg.PWR_COUNT := by
    simp only [Reg.INTC_PEND, Reg.PWR_COUNT]
    omega
  have hkeep : (s.event n).pending1 k = s.pending1 k := by
    unfold State.pending1 State.event
    rw [bit_congr (rd_endDoze_ne _ hcount)]
    dsimp only
    rw [bit_congr (rd_fab _ _ _)]
    split
    · exact bit_congr (rd_overrun_ne s hovr) _
    · by_cases hw : k / 32 = n / 32
      · rw [hw]
        exact bit_setB_ne s true (by omega)
      · exact bit_congr (rd_setB_ne s _ _ (by simp only [Reg.INTC_PEND]; omega)) _
  simp [hkeep, h]

theorem mem_pulses_event : k ∈ (s.event n).fab.pulses ↔ k ∈ s.fab.pulses ∨ k = n := by
  have hpulses : (if s.bit (Reg.INTC_PEND (n / 32)) (n % 32) then s.overrun n
      else s.setB (Reg.INTC_PEND (n / 32)) (n % 32) true).fab.pulses = s.fab.pulses := by
    split <;> rfl
  unfold State.event
  rw [endDoze_fab]
  dsimp only
  rw [hpulses]
  split
  · next h => exact ⟨.inl, fun hk => hk.elim id fun e => e ▸ List.contains_iff_mem.1 h⟩
  · simp

theorem pending1_eventIf (b : Bool) (hn : n < 256) (hk : k < 256) :
    (s.eventIf b n).pending1 k = (s.pending1 k || (b && k == n)) := by
  cases b with
  | false => simp [State.eventIf]
  | true => simpa [State.eventIf] using pending1_event hn hk

theorem mem_pulses_eventIf (b : Bool) : k ∈ (s.eventIf b n).fab.pulses ↔ k ∈ s.fab.pulses ∨ (b = true ∧ k = n) := by
  cases b with
  | false => simp [State.eventIf]
  | true => simpa [State.eventIf] using mem_pulses_event

/-- The software events of the bits in the list that are ones, in turn. -/
def State.softEvents (v : Word) (s : State) (l : List Nat) : State :=
  l.foldl (fun t k => t.eventIf (bitOf v k) (248 + k)) s

theorem softEvents_cons (v : Word) (s : State) (j : Nat) (l : List Nat) :
    s.softEvents v (j :: l) = (s.eventIf (bitOf v j) (248 + j)).softEvents v l := rfl

theorem pending1_softEvents {v : Word} {l : List Nat} (hl : ∀ j ∈ l, j < 8) (hk : k < 8) :
    (s.softEvents v l).pending1 (248 + k) = (s.pending1 (248 + k) || (l.contains k && bitOf v k)) := by
  induction l generalizing s with
  | nil => simp [State.softEvents]
  | cons j l ih =>
    have hj : j < 8 := hl j (by simp)
    rw [softEvents_cons, ih fun i hi => hl i (by simp [hi]), pending1_eventIf _ (by omega) (by omega)]
    by_cases h : k = j
    · cases hv : bitOf v j <;> simp [h, hv]
    · simp [h, beq_false_of_ne (show 248 + k ≠ 248 + j by omega)]

theorem mem_pulses_softEvents {v : Word} {l : List Nat}
    (h : n ∈ s.fab.pulses ∨ ∃ k ∈ l, bitOf v k = true ∧ n = 248 + k) : n ∈ (s.softEvents v l).fab.pulses := by
  induction l generalizing s with
  | nil => simpa [State.softEvents] using h
  | cons j l ih =>
    rw [softEvents_cons]
    apply ih
    rw [mem_pulses_eventIf]
    simp only [List.exists_mem_cons_iff] at h
    tauto

theorem onlyEvents_softEvents (v : Word) {l : List Nat} (hl : ∀ j ∈ l, j < 8) (s : State) :
    OnlyEvents (eventRegs 248) s (s.softEvents v l) := by
  refine List.foldlRecOn l _ (OnlyEvents.refl _ s) fun t ht j hj => ht.eventIf ?_ (by simp [eventRegs])
  have hgroup : (248 + j) / 32 = 248 / 32 := by
    have := hl j hj
    omega
  simp [eventRegs, hgroup]

end

/-! ### Tasks (R190) -/

section

variable {s t : State}

theorem after_of_eq_next {o : Out} (h : o = .next t) : after o s = t := by
  rw [h]
  rfl

/-- The tasks of a timer: START, STOP, CLEAR, CAP0 to CAP3. -/
theorem runTask_timer (n : Fin 8) {k : Nat} (hk : k < 8) (s : State) :
    s.runTask (8 * n + k) = after (timerTask n k s) s := by
  have htimer : Fin.ofNat 8 ((8 * n + k) / 8) = n := by
    apply Fin.ext
    simp only [Fin.ofNat]
    omega
  have htask : (8 * n.val + k) % 8 = k := by omega
  unfold State.runTask
  rw [if_pos (by omega), htimer, htask]

theorem timerTask_capture (n : Fin 8) (k : Fin 4) (s : State) : timerTask n (3 + k) s = execTimerCapture n k s := by
  match k with
  | 0 => rfl
  | 1 => rfl
  | 2 => rfl
  | 3 => rfl

theorem runTask_gpio (k : Fin 8) (s : State) : s.runTask (88 + k) = after (execGpioTaskPort k s) s := by
  have hport : Fin.ofNat 8 (88 + k - 88) = k := by
    apply Fin.ext
    simp only [Fin.ofNat]
    omega
  unfold State.runTask
  rw [if_neg (by omega), if_neg (by omega), if_neg (by omega), if_pos (by omega), hport]

theorem runTask_airop (k : Fin 32) (s : State) : s.runTask (96 + k) = after (execAiropFabricTask k s) s := by
  have hentry : Fin.ofNat 32 (96 + k - 96) = k := by
    apply Fin.ext
    simp only [Fin.ofNat]
    omega
  unfold State.runTask
  rw [if_neg (by omega), if_neg (by omega), if_neg (by omega), if_neg (by omega), if_pos (by omega),
    hentry]

end

/-! ### The channels that fire together (R191, R192) -/

/-- From `s` to `t` the channels of the list have fired with no pulse in delivery before. -/
structure Fired (cs : List Nat) (s t : State) : Prop where
  seen (d : Nat) :
    t.bit (Reg.FAB_SEEN (d / 32)) (d % 32) = (s.bit (Reg.FAB_SEEN (d / 32)) (d % 32) || decide (d ∈ cs))
  entered (d : Nat) : d ∈ cs → mapGet t.fab.delivery d = some ⟨2, s.channelTasks d⟩
  untouched (d : Nat) : d ∉ cs → mapGet t.fab.delivery d = mapGet s.fab.delivery d
  fresh (p : Nat × Delivery) : p ∈ t.fab.delivery → p ∈ s.fab.delivery ∨ p.2.left = 2
  frame : OnlyRegs ((List.range 4).map Reg.FAB_SEEN) { s with fab := { s.fab with delivery := t.fab.delivery } } t

section

variable {s t : State} {cs : List Nat}

theorem seen_mem_range {c : Nat} (h : c < 128) : Reg.FAB_SEEN (c / 32) ∈ (List.range 4).map Reg.FAB_SEEN :=
  List.mem_map_of_mem (List.mem_range.2 (by omega))

theorem fired_nil (s : State) : Fired [] s s where
  seen d := by simp
  entered d hd := by simp at hd
  untouched _ _ := rfl
  fresh _ hp := .inl hp
  frame := OnlyRegs.refl _ s

/-- A channel fires before the others of the list. -/
theorem Fired.cons {c : Nat} (hc : c < 128) (hfree : mapGet s.fab.delivery c = none) (hcs : c ∉ cs)
    (h : Fired cs (s.fireChannel c) t) : Fired (c :: cs) s t := by
  rw [fireChannel_of_free s c hfree] at h
  obtain ⟨hseen, hentered, huntouched, hfresh, hframe⟩ := h
  have htasks (d : Nat) : ((s.markSeen c).enterDelivery c).channelTasks d = s.channelTasks d :=
    channelTasks_markSeen s c d hc
  refine ⟨fun d => ?_, fun d hd => ?_, fun d hd => ?_, fun p hp => ?_, ?_⟩
  · rw [hseen d]
    refine (congrArg (· || decide (d ∈ cs)) (bit_markSeen_seen s c d)).trans ?_
    simp [Bool.or_assoc]
  · rcases List.mem_cons.1 hd with rfl | hd
    · rw [huntouched d hcs, ← channelTasks_markSeen s d d hc]
      exact mapGet_mapIns_same _ _ _ hfree
    · rw [hentered d hd, htasks]
  · obtain ⟨hdc, hds⟩ := not_or.1 (List.mem_cons.not.1 hd)
    rw [huntouched d hds]
    exact mapGet_mapIns_ne _ _ hdc
  · rcases hfresh p hp with hp | hp
    · rcases mem_mapIns hp with rfl | hp
      · exact .inr rfl
      · exact .inl hp
    · exact .inr hp
  · have hmark : OnlyRegs ((List.range 4).map Reg.FAB_SEEN) s (s.markSeen c) :=
      (OnlyRegs.refl _ s).setB (seen_mem_range hc)
    exact (hmark.withFab _).trans hframe

/-- Channels without repetition that fire in turn, none with a pulse in delivery. -/
theorem fired_foldl (hnodup : cs.Nodup) (hcs : ∀ c ∈ cs, c < 128) (hfree : ∀ c ∈ cs, mapGet s.fab.delivery c = none) :
    Fired cs s (cs.foldl State.fireChannel s) := by
  induction cs generalizing s with
  | nil => exact fired_nil s
  | cons c cs ih =>
    obtain ⟨hc, hnodup⟩ := List.nodup_cons.1 hnodup
    have hfc := hfree c (by simp)
    refine Fired.cons (hcs c (by simp)) hfc hc (ih hnodup (fun d hd => hcs d (by simp [hd])) fun d hd => ?_)
    rw [fireChannel_of_free s c hfc]
    have hdc : d ≠ c := fun e => hc (e ▸ hd)
    exact (mapGet_mapIns_ne _ _ hdc).trans (hfree d (by simp [hd]))

/-- The channels that fire are the enabled ones whose node rises (R191). -/
theorem mem_firedChannels (hroutes : s.cyc.routes = []) {rises : List Nat} {c : Nat} :
    c ∈ s.firedChannels rises ↔
      c < 128 ∧ s.bit (Reg.FAB_CH_CFG c) 16 = true ∧ s.rdF (Reg.FAB_CH_CFG c) 0 16 ∈ rises := by
  simp [State.firedChannels, State.route, hroutes, State.bit, State.rdF]

theorem nodup_firedChannels (s : State) (rises : List Nat) : (s.firedChannels rises).Nodup :=
  List.nodup_range.filter _

theorem lt_of_mem_firedChannels {rises : List Nat} {c : Nat} (h : c ∈ s.firedChannels rises) : c < 128 :=
  List.mem_range.1 (List.mem_of_mem_filter h)

end

/-! ### Pulses in delivery (R192, R193) -/

section

variable {s : State}

theorem mapGet_map {V W : Type} (f : V → W) (m : List (Nat × V)) (k : Nat) :
    mapGet (m.map fun e => (e.1, f e.2)) k = (mapGet m k).map f := by
  induction m with
  | nil => rfl
  | cons e m ih => by_cases h : e.1 = k <;> simp [mapGet, h, ih]

/-- A pulse in delivery, one PERCLK cycle on. -/
def Delivery.next (d : Delivery) : Delivery := { d with left := d.left - 1 }

/-- The pulses in delivery and the tasks that receive a pulse in the running cycle. -/
def State.withPulses (s : State) (delivery : List (Nat × Delivery)) (tasks : List Nat) : State :=
  { s with fab := { s.fab with delivery := delivery, taskNow := tasks } }

/-- Before the last PERCLK cycle of any pulse no task receives one. -/
theorem advanceDeliveries_of_underWay (h : ∀ p ∈ s.fab.delivery, 1 < p.2.left) :
    s.advanceDeliveries = s.withPulses (s.fab.delivery.map fun p => (p.1, p.2.next)) [] := by
  have hdone : s.fab.delivery.filter (fun d => decide (d.2.left ≤ 1)) = [] :=
    List.filter_eq_nil_iff.2 fun p hp => by simpa using h p hp
  have hrest : s.fab.delivery.filter (fun d => !decide (d.2.left ≤ 1)) = s.fab.delivery :=
    List.filter_eq_self.2 fun p hp => by simpa using h p hp
  unfold State.advanceDeliveries
  dsimp only
  rw [hdone, hrest]
  rfl

/-- Tasks without repetition each receive their pulse. -/
theorem foldl_pulseTask_of_nodup {done tasks : List Nat} (h : (done ++ tasks).Nodup) (m : List (Nat × Delivery)) :
    tasks.foldl State.pulseTask (s.withPulses m done) = s.withPulses m (done ++ tasks) := by
  induction tasks generalizing done with
  | nil => simp
  | cons k tasks ih =>
    have hk : k ∉ done := fun hd => List.disjoint_of_nodup_append h hd (by simp)
    have hstep : (s.withPulses m done).pulseTask k = s.withPulses m (done ++ [k]) := by
      unfold State.pulseTask
      rw [if_neg (by simpa [State.withPulses] using hk)]
      rfl
    have hassoc : done ++ k :: tasks = done ++ [k] ++ tasks := by simp
    rw [hassoc] at h
    rw [List.foldl_cons, hstep, ih h, hassoc]

/-- A pulse at its end, alone in delivery, reaches its tasks. -/
theorem advanceDeliveries_of_end {c left : Nat} {tasks : List Nat} (hd : s.fab.delivery = [(c, ⟨left, tasks⟩)])
    (hleft : left ≤ 1) (hnodup : tasks.Nodup) : s.advanceDeliveries = s.withPulses [] tasks := by
  calc s.advanceDeliveries = tasks.foldl State.pulseTask (s.withPulses [] []) := by
        simp [State.advanceDeliveries, hd, hleft, State.withPulses]
    _ = s.withPulses [] tasks := foldl_pulseTask_of_nodup (done := []) hnodup []

/-- Of two pulses that reach one task together the second is counted (R193). -/
theorem advanceDeliveries_of_meeting {c d k : Nat} (hd : s.fab.delivery = [(c, ⟨1, [k]⟩), (d, ⟨1, [k]⟩)]) :
    s.advanceDeliveries = ((s.withPulses [] [k]).satAdd Reg.FAB_MERGED 16 16).wrF Reg.FAB_LAST 8 8 k := by
  simp [State.advanceDeliveries, hd, State.withPulses, State.pulseTask]

end

/-! ### A PERCLK cycle (R191) -/

/-- The levels at the inputs of a cell 0 to 27. -/
def State.cellLevels (s : State) (L : CellLevels) (i : Nat) : List Bool :=
  (s.cellInputs i).map (nodeLevel s.fab.pulses L i)

/-- Cells 0 to 27 have evaluated, with the cells whose output rose. -/
def State.perclkCells (s : State) : State × List Nat := s.evalCells s.cellLevels (s.usedCells 0 28)

/-- The state in which the channels of the cycle fire: cells 0 to 27 have evaluated, and the backup cells' inputs are
latched. -/
def State.beforeFiring (s : State) : State := s.perclkCells.1.latchBackup s.perclkCells.1.levelsNow

/-- The channels that fire in the cycle. -/
def State.firing (s : State) : List Nat :=
  s.beforeFiring.firedChannels (s.fab.pulses ++ (s.perclkCells.2 ++ s.fab.bkRise).map (· + 256))

/-- The cycle's pulses are over, and so is what the cycle has seen of them. -/
def State.endPerclk (s : State) : State :=
  { s with
    fab := { s.fab with pulses := [], bkRise := [], ovr := [] }
    cyc := { s.cyc with routes := [], sampled := [] } }

theorem fabricCycle_eq (s : State) :
    s.fabricCycle = (s.firing.foldl State.fireChannel s.beforeFiring).advanceDeliveries.endPerclk := rfl

section

variable {s t : State}

theorem exec_fabricChannelFire_of_asleep (h : s.asleep = true) : exec .fabricChannelFire s = .next s := by
  rw [exec_fabricChannelFire, execFabricChannelFire, if_pos h]

/-- Awake, the tasks that the cycle has delivered run in ascending order. -/
theorem exec_fabricChannelFire_of_awake (h : s.asleep = false) (hcycle : s.fabricCycle = t) :
    exec .fabricChannelFire s =
      .next (((List.range 256).filter (fun n => t.fab.taskNow.contains n)).foldl State.runTask t) := by
  rw [exec_fabricChannelFire, execFabricChannelFire, if_neg (by simp [h]), State.fabricPerclk, hcycle]

theorem exec_fabricChannelFire_of_noTask (h : s.asleep = false) (hcycle : s.fabricCycle = t) (ht : t.fab.taskNow = []) :
    exec .fabricChannelFire s = .next t := by
  rw [exec_fabricChannelFire_of_awake h hcycle, ht]
  simp

theorem filter_range_contains_single {n k : Nat} (h : k < n) :
    (List.range n).filter (fun j => [k].contains j) = [k] := by
  have hcount : (List.range n).count k = 1 := List.count_eq_one_of_mem List.nodup_range (List.mem_range.2 h)
  have hbeq : (fun j => [k].contains j) = (· == k) := by
    funext j
    rw [Bool.eq_iff_iff]
    simp
  rw [hbeq, List.filter_beq, hcount, List.replicate_one]

theorem exec_fabricChannelFire_of_oneTask {k : Nat} (h : s.asleep = false) (hcycle : s.fabricCycle = t) (hk : k < 256)
    (ht : t.fab.taskNow = [k]) : exec .fabricChannelFire s = .next (t.runTask k) := by
  rw [exec_fabricChannelFire_of_awake h hcycle, ht, filter_range_contains_single hk]
  rfl

theorem usedCells_eq_nil_iff {lo n : Nat} : s.usedCells lo n = [] ↔ ∀ i < n, s.rd (Reg.FAB_CELL_CFG (i + lo)) = 0 := by
  simp [State.usedCells]

theorem perclkCells_of_unused (h : s.usedCells 0 28 = []) : s.perclkCells = (s, []) := by
  rw [State.perclkCells, h]
  rfl

theorem beforeFiring_of_unused (h : s.usedCells 0 28 = []) : s.beforeFiring = s.latchBackup s.levelsNow := by
  rw [State.beforeFiring, perclkCells_of_unused h]

theorem latchBackup_of_unused (L : CellLevels) (h : s.usedCells 28 4 = []) : s.latchBackup L = s := by
  simp [State.latchBackup, h]

@[simp] theorem cyc_latchBackup (L : CellLevels) : (s.latchBackup L).cyc = s.cyc := rfl
@[simp] theorem delivery_latchBackup (L : CellLevels) : (s.latchBackup L).fab.delivery = s.fab.delivery := rfl
@[simp] theorem rd_latchBackup (L : CellLevels) (a : Nat) : (s.latchBackup L).rd a = s.rd a := rd_congr rfl a

theorem endPerclk_of_idle (hp : s.fab.pulses = []) (hb : s.fab.bkRise = []) (hc : s.cyc = {}) :
    s.endPerclk = { s with fab := { s.fab with ovr := [] } } := by
  simp [State.endPerclk, hp, hb, hc]

/-- A cycle without a pulse at its start and without a cell in use only moves the pulses in delivery. -/
theorem fabricCycle_of_idle (hu : s.usedCells 0 32 = []) (hp : s.fab.pulses = []) (hb : s.fab.bkRise = []) :
    s.fabricCycle = s.advanceDeliveries.endPerclk := by
  rw [usedCells_eq_nil_iff] at hu
  have hmain : s.usedCells 0 28 = [] := usedCells_eq_nil_iff.2 fun i hi => hu i (by omega)
  have hbackup : s.usedCells 28 4 = [] := usedCells_eq_nil_iff.2 fun i hi => hu (i + 28) (by omega)
  have hbefore : s.beforeFiring = s := by
    rw [beforeFiring_of_unused hmain, latchBackup_of_unused _ hbackup]
  have hfiring : s.firing = [] := by
    simp [State.firing, perclkCells_of_unused hmain, hp, hb, State.firedChannels]
  rw [fabricCycle_eq, hbefore, hfiring]
  rfl

end

/-! ### A cycle with no pulse in delivery before it (R191, R192) -/

section

variable {s t : State}

/-- The state after the channels of the cycle have fired. -/
def State.afterFiring (s : State) : State := s.firing.foldl State.fireChannel s.beforeFiring

theorem fired_afterFiring (h : s.beforeFiring.fab.delivery = []) : Fired s.firing s.beforeFiring s.afterFiring :=
  fired_foldl (nodup_firedChannels _ _) (fun _ hc => lt_of_mem_firedChannels hc) fun c _ => by rw [h, mapGet_nil]

/-- The pulses that have just entered advance by one cycle, and no task runs. -/
theorem fabricCycle_of_noDelivery (h : s.beforeFiring.fab.delivery = []) :
    s.fabricCycle =
      (s.afterFiring.withPulses (s.afterFiring.fab.delivery.map fun p => (p.1, p.2.next)) []).endPerclk := by
  have hfresh (p : Nat × Delivery) (hp : p ∈ s.afterFiring.fab.delivery) : 1 < p.2.left := by
    rcases (fired_afterFiring h).fresh p hp with hp | hp
    · simp [h] at hp
    · omega
  rw [fabricCycle_eq, ← advanceDeliveries_of_underWay hfresh]
  rfl

theorem exec_fabricChannelFire_of_noDelivery (ha : s.asleep = false) (h : s.beforeFiring.fab.delivery = []) :
    exec .fabricChannelFire s = .next s.fabricCycle :=
  exec_fabricChannelFire_of_noTask ha rfl (by rw [fabricCycle_of_noDelivery h]; rfl)

theorem rd_fabricCycle_of_noDelivery (h : s.beforeFiring.fab.delivery = []) (a : Nat) :
    s.fabricCycle.rd a = s.afterFiring.rd a := by
  rw [fabricCycle_of_noDelivery h]
  exact rd_congr rfl a

theorem delivery_fabricCycle_of_noDelivery (h : s.beforeFiring.fab.delivery = []) (c : Nat) :
    mapGet s.fabricCycle.fab.delivery c = (mapGet s.afterFiring.fab.delivery c).map Delivery.next := by
  rw [fabricCycle_of_noDelivery h]
  exact mapGet_map Delivery.next _ c

/-- Without a cell 0 to 27 in use the cycle's own pulses alone fire channels. -/
theorem mem_firing (hu : s.usedCells 0 28 = []) (hb : s.fab.bkRise = []) (hc : s.cyc.routes = []) {c : Nat} :
    c ∈ s.firing ↔
      c < 128 ∧ s.bit (Reg.FAB_CH_CFG c) 16 = true ∧ s.rdF (Reg.FAB_CH_CFG c) 0 16 ∈ s.fab.pulses := by
  have hbefore := beforeFiring_of_unused hu
  have hrises : s.fab.pulses ++ (s.perclkCells.2 ++ s.fab.bkRise).map (· + 256) = s.fab.pulses := by
    simp [perclkCells_of_unused hu, hb]
  rw [State.firing, hrises, hbefore, mem_firedChannels (by rw [cyc_latchBackup, hc]),
    bit_congr (rd_latchBackup _ _), rdF_congr (rd_latchBackup _ _)]

/-- What a cycle does when no cell 0 to 27 is in use and nothing is in delivery before it. -/
structure FiredInCycle (s t : State) : Prop where
  pulses : t.fab.pulses = []
  tasks : t.fab.taskNow = []
  seen (d : Nat) :
    t.bit (Reg.FAB_SEEN (d / 32)) (d % 32) = (s.bit (Reg.FAB_SEEN (d / 32)) (d % 32) || decide (d ∈ s.firing))
  entered (d : Nat) : d ∈ s.firing → mapGet t.fab.delivery d = some ⟨1, s.channelTasks d⟩
  untouched (d : Nat) : d ∉ s.firing → mapGet t.fab.delivery d = none
  frame : OnlyRegs ((List.range 4).map Reg.FAB_SEEN) { s with fab := t.fab } t

theorem firedInCycle (hu : s.usedCells 0 28 = []) (hd : s.fab.delivery = []) (hc : s.cyc = {}) :
    FiredInCycle s s.fabricCycle := by
  have hbefore := beforeFiring_of_unused hu
  have hdelivery : s.beforeFiring.fab.delivery = [] := by rw [hbefore, delivery_latchBackup, hd]
  have hrd (a : Nat) : s.beforeFiring.rd a = s.rd a := by rw [hbefore, rd_latchBackup]
  have htasks (d : Nat) : s.beforeFiring.channelTasks d = s.channelTasks d :=
    channelTasks_congr (by rw [hbefore, cyc_latchBackup]) fun a _ => hrd a
  obtain ⟨hseen, hentered, huntouched, -, hframe⟩ := fired_afterFiring hdelivery
  refine ⟨rfl, by rw [fabricCycle_of_noDelivery hdelivery]; rfl, fun d => ?_, fun d hm => ?_, fun d hm => ?_, ?_⟩
  · rw [bit_congr (rd_fabricCycle_of_noDelivery hdelivery _), hseen, bit_congr (hrd _)]
  · rw [delivery_fabricCycle_of_noDelivery hdelivery, hentered d hm, htasks]
    rfl
  · rw [delivery_fabricCycle_of_noDelivery hdelivery, huntouched d hm, hdelivery]
    rfl
  · have hcyc : s.afterFiring.cyc = {} := by rw [hframe.cyc_eq, hbefore, ← hc]; rfl
    have hend : s.fabricCycle = { s.afterFiring with fab := s.fabricCycle.fab, cyc := {} } := by
      rw [fabricCycle_of_noDelivery hdelivery]
      simp [State.endPerclk, State.withPulses, hcyc]
    have hstart : { s with fab := s.fabricCycle.fab } =
        ({ s.beforeFiring with fab := s.fabricCycle.fab, cyc := {} } : State) := by
      rw [hbefore, ← hc]
      rfl
    rw [hstart, hend]
    exact (hframe.withFab s.fabricCycle.fab).withCyc {}

end

/-! ### One logic cell (R200, R201) -/

section

variable {s : State} {ins : CellLevels → Nat → List Bool} {i : Nat}

theorem contains_setMember (l : List Nat) (i : Nat) (b : Bool) : (setMember l i b).contains i = b := by
  cases b with
  | false => simp [setMember]
  | true =>
    by_cases h : i ∈ l <;> simp [setMember, h]

/-- A single cell without flip-flop and filter settles to the LUT bit of its inputs. -/
theorem out_settle_single (hff : s.bit (Reg.FAB_CELL_CFG i) 16 = false) (hw : s.rdF (Reg.FAB_CELL_CFG i) 20 4 = 0) :
    (s.settle ins [i]).out.contains i = s.lut i (ins s.levelsNow i) := by
  have hsettle : s.settle ins [i] = s.evalCell ins s.levelsNow i := rfl
  rw [hsettle]
  unfold State.evalCell
  dsimp only
  rw [hff, hw]
  exact contains_setMember _ _ _

theorem evalCells_single (hff : s.bit (Reg.FAB_CELL_CFG i) 16 = false) (hw : s.rdF (Reg.FAB_CELL_CFG i) 20 4 = 0) :
    s.evalCells ins [i] = (s.clockCell ins (s.settle ins [i]) i,
      if s.lut i (ins s.levelsNow i) && !s.bit (Reg.FAB_CELL_CFG i) 31 then [i] else []) := by
  rw [← out_settle_single hff hw]
  simp only [State.evalCells, List.foldl_cons, List.foldl_nil, List.filter_cons, List.filter_nil]

theorem bit_clockCell (L : CellLevels) :
    (s.clockCell ins L i).bit (Reg.FAB_CELL_CFG i) 31 = L.out.contains i := bit_setB_same _ _ (by decide)

theorem onlyRegs_clockCell (L : CellLevels) :
    OnlyRegs [Reg.FAB_CELL_CFG i] { s with fab := (s.clockCell ins L i).fab } (s.clockCell ins L i) :=
  (OnlyRegs.refl _ { s with fab := _ }).setB (by simp)

theorem lt_of_mem_usedCells {lo n : Nat} (h : i ∈ s.usedCells lo n) : i < lo + n := by
  simp only [State.usedCells, List.mem_filter, List.mem_map, List.mem_range] at h
  omega

theorem cellCfg_not_mem_seen (i : Nat) : Reg.FAB_CELL_CFG i ∉ (List.range 4).map Reg.FAB_SEEN := by
  simp only [List.mem_map, List.mem_range, Reg.FAB_CELL_CFG, Reg.FAB_SEEN, not_exists, not_and]
  omega

/-- The cell that alone of cells 0 to 27 is in use has evaluated when the channels fire. -/
theorem beforeFiring_of_single (hu : s.usedCells 0 28 = [i]) (hff : s.bit (Reg.FAB_CELL_CFG i) 16 = false)
    (hw : s.rdF (Reg.FAB_CELL_CFG i) 20 4 = 0) :
    s.beforeFiring.fab.delivery = s.fab.delivery ∧
    s.beforeFiring.bit (Reg.FAB_CELL_CFG i) 31 = s.lut i (s.cellLevels s.levelsNow i) := by
  have hcells : s.perclkCells.1 = s.clockCell s.cellLevels (s.settle s.cellLevels [i]) i := by
    rw [State.perclkCells, hu, evalCells_single hff hw]
  unfold State.beforeFiring
  rw [hcells]
  refine ⟨rfl, ?_⟩
  rw [bit_congr (rd_latchBackup _ _), bit_clockCell, out_settle_single hff hw]

/-- No channel that fires changes a cell's register. -/
theorem bit_fabricCycle_cell (h : s.beforeFiring.fab.delivery = []) (k : Nat) :
    s.fabricCycle.bit (Reg.FAB_CELL_CFG i) k = s.beforeFiring.bit (Reg.FAB_CELL_CFG i) k := by
  obtain ⟨hregs, -, -⟩ := (fired_afterFiring h).frame
  rw [bit_congr (rd_fabricCycle_of_noDelivery h _)]
  exact bit_congr (hregs _ (cellCfg_not_mem_seen i)) k

end

/-! ### The backup cells (R203, R205, R206) -/

/-- The levels at the inputs of a backup cell: its latches, and the levels that sleep lets it see. -/
def State.backupLevels (s : State) (L : CellLevels) (i : Nat) : List Bool :=
  (List.range 4).map fun k =>
    let node := (s.cellInputs i).getD k 0xFFFF
    s.fab.latched.contains (i, k) ||
      ((!s.asleep || (240 ≤ node && node < 248) || node == 254 || (284 ≤ node && node < 288)) &&
        nodeLevel s.fab.pulses L i node)

/-- The backup cells have evaluated, with the cells whose output rose. -/
def State.backupCells (s : State) : State × List Nat := s.evalCells s.backupLevels (s.usedCells 28 4)

/-- The marks of an evaluation of the backup cells. -/
def State.backupMarks (s : State) : FabSt :=
  { s.backupCells.1.fab with
    latched := []
    pulses := if s.asleep then [] else s.backupCells.1.fab.pulses
    bkRise := if s.asleep then s.backupCells.1.fab.bkRise else s.backupCells.1.fab.bkRise ++ s.backupCells.2
    bkSlept := if s.pwr.mode == .nap then
        s.backupCells.1.fab.bkSlept ++ s.backupCells.2.filter (fun i => !s.backupCells.1.fab.bkSlept.contains i)
      else s.backupCells.1.fab.bkSlept }

/-- The backup cells have evaluated and left their marks. -/
def State.backupMarked (s : State) : State := { s.backupCells.1 with fab := s.backupMarks }

section

variable {s : State}

theorem evalBackup_of_asleep (h : s.asleep = true) :
    s.evalBackup =
      s.backupCells.2.foldl (fun t i => (t.setB Reg.FAB_BK_PEND (i - 28) true).wake 4) s.backupMarked := by
  unfold State.evalBackup
  dsimp only
  rw [if_pos h]
  rfl

theorem evalBackup_of_awake (h : s.asleep = false) :
    s.evalBackup =
      (if s.backupCells.2.isEmpty then s.backupMarked else s.backupMarked.wake 4).noteSampled s.fab.pulses := by
  unfold State.evalBackup
  dsimp only
  rw [if_neg (by simp [h])]
  rfl

theorem backupCells_of_unused (h : s.usedCells 28 4 = []) : s.backupCells = (s, []) := by
  rw [State.backupCells, h]
  rfl

theorem evalBackup_of_unused (ha : s.asleep = false) (h : s.usedCells 28 4 = []) :
    s.evalBackup = ({ s with fab := { s.fab with latched := [] } } : State).noteSampled s.fab.pulses := by
  have hnap : (s.pwr.mode == .nap) = false := by
    rw [State.asleep, Bool.or_eq_false_iff] at ha
    exact ha.1
  rw [evalBackup_of_awake ha]
  simp [State.backupMarked, State.backupMarks, backupCells_of_unused h, ha, hnap]

/-- The index that a cell's input levels form is below the length of its LUT. -/
theorem lutIndex_lt (ins : List Bool) : ins.foldr (fun b n => b2n b + 2 * n) 0 < 2 ^ ins.length := by
  induction ins with
  | nil => simp
  | cons b ins ih =>
    rw [List.foldr_cons, List.length_cons, Nat.pow_succ]
    have hb : b2n b ≤ 1 := by cases b <;> decide
    omega

variable {i : Nat}

theorem lut_of_allOnes (h : s.rd (Reg.FAB_CELL_CFG i) = 0xFFFF) (L : CellLevels) (j : Nat) :
    s.lut i (s.backupLevels L j) = true := by
  have hones : ∀ n < 16, bitOf 0xFFFF n = true := by decide
  have hlen : (s.backupLevels L j).length = 4 := by simp [State.backupLevels]
  have hindex := lutIndex_lt (s.backupLevels L j)
  rw [hlen] at hindex
  rw [State.lut, State.bit, h]
  exact hones _ hindex

/-- A backup cell whose LUT is all ones, without flip-flop and filter and with its output at 0, rises. -/
theorem backupCells_of_allOnes (hu : s.usedCells 28 4 = [i]) (h : s.rd (Reg.FAB_CELL_CFG i) = 0xFFFF) :
    s.backupCells = (s.clockCell s.backupLevels (s.settle s.backupLevels [i]) i, [i]) ∧
    s.backupCells.1.bit (Reg.FAB_CELL_CFG i) 31 = true := by
  have hff : s.bit (Reg.FAB_CELL_CFG i) 16 = false := by
    rw [State.bit, h]
    decide
  have hw : s.rdF (Reg.FAB_CELL_CFG i) 20 4 = 0 := by
    rw [State.rdF, h]
    decide
  have hq : s.bit (Reg.FAB_CELL_CFG i) 31 = false := by
    rw [State.bit, h]
    decide
  have hcells : s.backupCells = (s.clockCell s.backupLevels (s.settle s.backupLevels [i]) i, [i]) := by
    rw [State.backupCells, hu, evalCells_single hff hw, lut_of_allOnes h, hq]
    rfl
  refine ⟨hcells, ?_⟩
  rw [hcells, bit_clockCell, out_settle_single hff hw, lut_of_allOnes h]

/-- What the evaluation of such a cell leaves before the part wakes. -/
theorem backupMarked_of_allOnes (hu : s.usedCells 28 4 = [i]) (h : s.rd (Reg.FAB_CELL_CFG i) = 0xFFFF) :
    s.backupCells.2 = [i] ∧ s.backupMarked.bit (Reg.FAB_CELL_CFG i) 31 = true ∧
    OnlyRegs [Reg.FAB_CELL_CFG i] { s with fab := s.backupMarks } s.backupMarked := by
  obtain ⟨hcells, hbit⟩ := backupCells_of_allOnes hu h
  refine ⟨by rw [hcells], hbit, ?_⟩
  rw [State.backupMarked, congrArg Prod.fst hcells]
  exact (onlyRegs_clockCell _).withFab _

/-! ### A wake source arrives (R122) -/

theorem wake_of_nap (h : s.pwr.mode = .nap) (cause : Nat) : s.wake cause = { s with pwr := { s.pwr with
    waking := true
    causes := if s.pwr.causes.contains cause then s.pwr.causes else s.pwr.causes ++ [cause] } } := by
  unfold State.wake
  rw [h]

theorem mem_causes_wake_of_nap (h : s.pwr.mode = .nap) (cause : Nat) : cause ∈ (s.wake cause).pwr.causes := by
  rw [wake_of_nap h]
  dsimp only
  split
  · next hc => exact List.contains_iff_mem.1 hc
  · simp

theorem wake_of_run (h : s.pwr.mode = .run) (cause : Nat) : s.wake cause = s := by
  unfold State.wake
  rw [h]

theorem onlyRegs_wake (s : State) (cause : Nat) :
    OnlyRegs [Reg.PWR_COUNT] { s with pwr := (s.wake cause).pwr } (s.wake cause) := by
  cases hm : s.pwr.mode with
  | run =>
    rw [wake_of_run hm]
    exact OnlyRegs.refl _ s
  | nap =>
    rw [wake_of_nap hm]
    exact OnlyRegs.refl _ _
  | hibernate =>
    unfold State.wake
    rw [hm]
    exact OnlyRegs.refl _ _
  | doze =>
    unfold State.wake
    rw [hm]
    dsimp only
    split
    · exact (OnlyRegs.refl _ { s with pwr := _ }).satAdd (by simp)
    · split
      · exact OnlyRegs.refl _ _
      · exact OnlyRegs.refl _ s

theorem rd_wake_ne {a : Nat} (cause : Nat) (h : a ≠ Reg.PWR_COUNT) : (s.wake cause).rd a = s.rd a := by
  obtain ⟨hregs, -, -⟩ := onlyRegs_wake s cause
  exact hregs a (by simpa using h)

theorem cellCfg_ne_bkPend (i : Nat) : Reg.FAB_CELL_CFG i ≠ Reg.FAB_BK_PEND := by
  simp only [Reg.FAB_CELL_CFG, Reg.FAB_BK_PEND]
  omega

theorem cellCfg_ne_pwrCount (i : Nat) : Reg.FAB_CELL_CFG i ≠ Reg.PWR_COUNT := by
  simp only [Reg.FAB_CELL_CFG, Reg.PWR_COUNT]
  omega

/-! ### A backup cell rises (R206) -/

/-- In Nap the rise sets the cell's pending bit and wakes the part. -/
theorem evalBackup_of_rise_nap (hnap : s.pwr.mode = .nap) (hu : s.usedCells 28 4 = [i])
    (h : s.rd (Reg.FAB_CELL_CFG i) = 0xFFFF) :
    s.evalBackup = (s.backupMarked.setB Reg.FAB_BK_PEND (i - 28) true).wake 4 := by
  obtain ⟨hcells, -, -⟩ := backupMarked_of_allOnes hu h
  rw [evalBackup_of_asleep (by simp [State.asleep, hnap]), hcells]
  rfl

theorem rise_of_nap (hnap : s.pwr.mode = .nap) (hu : s.usedCells 28 4 = [i])
    (h : s.rd (Reg.FAB_CELL_CFG i) = 0xFFFF) :
    s.evalBackup.bit Reg.FAB_BK_PEND (i - 28) = true ∧ s.evalBackup.bit (Reg.FAB_CELL_CFG i) 31 = true ∧
    s.evalBackup.pwr.waking = true ∧ 4 ∈ s.evalBackup.pwr.causes ∧
    OnlyRegs [Reg.FAB_BK_PEND, Reg.FAB_CELL_CFG i] { s with fab := s.evalBackup.fab, pwr := s.evalBackup.pwr }
      s.evalBackup := by
  have hi : i < 28 + 4 := lt_of_mem_usedCells (s := s) (by simp [hu])
  obtain ⟨-, hq, hframe⟩ := backupMarked_of_allOnes hu h
  have hmode : (s.backupMarked.setB Reg.FAB_BK_PEND (i - 28) true).pwr.mode = .nap := by
    rw [setB_pwr, congrArg PwrSt.mode hframe.pwr_eq]
    exact hnap
  have hset : OnlyRegs [Reg.FAB_BK_PEND, Reg.FAB_CELL_CFG i] { s with fab := s.backupMarks }
      (s.backupMarked.setB Reg.FAB_BK_PEND (i - 28) true) := (hframe.mono (by simp)).setB (by simp)
  rw [evalBackup_of_rise_nap hnap hu h]
  refine ⟨?_, ?_, ?_, mem_causes_wake_of_nap hmode 4, ?_⟩
  · rw [bit_congr (rd_wake_ne _ (by decide)), bit_setB_same _ _ (by omega)]
  · rw [bit_congr (rd_wake_ne _ (cellCfg_ne_pwrCount i)), bit_congr (rd_setB_ne _ _ _ (cellCfg_ne_bkPend i)), hq]
  · rw [wake_of_nap hmode]
  · rw [wake_of_nap hmode]
    exact hset.withPwr _

/-- Awake the rise is kept for the channels, and the pulses of the cycle are sampled. -/
theorem evalBackup_of_rise_awake (ha : s.asleep = false) (hu : s.usedCells 28 4 = [i])
    (h : s.rd (Reg.FAB_CELL_CFG i) = 0xFFFF) :
    s.evalBackup = (s.backupMarked.wake 4).noteSampled s.fab.pulses := by
  obtain ⟨hcells, -, -⟩ := backupMarked_of_allOnes hu h
  rw [evalBackup_of_awake ha, hcells]
  rfl

theorem rise_of_awake (ha : s.asleep = false) (hu : s.usedCells 28 4 = [i]) (h : s.rd (Reg.FAB_CELL_CFG i) = 0xFFFF) :
    s.evalBackup.fab.bkRise = s.fab.bkRise ++ [i] ∧ s.evalBackup.bit (Reg.FAB_CELL_CFG i) 31 = true ∧
    (s.pwr.mode = .run → s.evalBackup.pwr = s.pwr) ∧
    s.evalBackup.cyc = { s.cyc with sampled := s.cyc.sampled ++ s.fab.pulses } ∧
    OnlyRegs [Reg.FAB_CELL_CFG i, Reg.PWR_COUNT]
      { s with fab := s.evalBackup.fab, pwr := s.evalBackup.pwr, cyc := s.evalBackup.cyc } s.evalBackup := by
  obtain ⟨hcells, -⟩ := backupCells_of_allOnes hu h
  obtain ⟨-, hq, hframe⟩ := backupMarked_of_allOnes hu h
  have hwake := onlyRegs_wake s.backupMarked 4
  have hfab : (s.backupMarked.wake 4).fab = s.backupMarks := hwake.fab_eq
  have hcyc : (s.backupMarked.wake 4).cyc = s.cyc := hwake.cyc_eq.trans hframe.cyc_eq
  rw [evalBackup_of_rise_awake ha hu h]
  refine ⟨?_, ?_, fun hrun => ?_, ?_, ?_⟩
  · calc (s.backupMarked.wake 4).fab.bkRise = s.backupCells.1.fab.bkRise ++ s.backupCells.2 := by
          rw [hfab]
          simp [State.backupMarks, ha]
      _ = s.fab.bkRise ++ [i] := by
          rw [hcells]
          rfl
  · exact (bit_congr (rd_wake_ne _ (cellCfg_ne_pwrCount i)) _).trans hq
  · have hmode : s.backupMarked.pwr.mode = .run := by
      rw [hframe.pwr_eq]
      exact hrun
    exact (congrArg State.pwr (wake_of_run hmode 4)).trans hframe.pwr_eq
  · rw [State.noteSampled, hcyc]
  · have hboth := ((hframe.withPwr (s.backupMarked.wake 4).pwr).mono (by simp)).trans
      (hwake.mono (l' := [Reg.FAB_CELL_CFG i, Reg.PWR_COUNT]) (by simp))
    rw [← hfab] at hboth
    exact hboth.withCyc _

end

end Sys2Proof.Machine
end

section

open Sys2Proof Sys2Proof.Machine

/-- Settles O29: a cycle is the evaluation of the cells, the firing of the channels in turn, and the advance of the
pulses in delivery; with nothing in delivery before it the channels that fire meet no pulse and no task runs, and with
no pulse before it only the deliveries move. A backup cell's rise is one evaluation followed by a wake. -/
theorem fabricPulsesFireChannelsAndReachTasks : Obligations.FabricPulsesFireChannelsAndReachTasks := by
  unfold Obligations.FabricPulsesFireChannelsAndReachTasks
  refine ⟨?fire, ?merge, ?softEvents, ?asleep, ?channels, ?underWay, ?reached, ?meeting, ?task, ?timerStart,
    ?timerCapture, ?timerStop, ?timerClear, ?gpio, ?airop, ?cell, ?riseNap, ?riseAwake, ?noBackup⟩
  case fire =>
    rintro c v s rfl h
    obtain ⟨hseen, hdelivery, hframe⟩ := fireChannel_free (Nat.mod_lt _ (by decide)) h
    exact ⟨_, exec_fabFire s v, hseen, hdelivery, hframe⟩
  case merge =>
    rintro c d v s rfl h
    obtain ⟨hseen, hcount, hlast, hframe⟩ := fireChannel_merge (Nat.mod_lt _ (by decide)) h
    exact ⟨_, exec_fabFire s v, hseen, hcount, hlast, hframe⟩
  case softEvents =>
    intro v s
    have hl : ∀ j ∈ List.range 6, j < 8 := by decide
    refine ⟨_, exec_fabSwev s v, fun k hk hv => ⟨?_, ?_⟩, fun k hk hv => ?_, onlyEvents_softEvents v hl s⟩
    · exact (pending1_softEvents hl (by omega)).trans (by simp [hk, hv])
    · exact mem_pulses_softEvents (.inr ⟨k, List.mem_range.2 hk, hv, rfl⟩)
    · exact (pending1_softEvents hl (by omega)).trans (by simp [hv])
  case asleep => exact fun s h => exec_fabricChannelFire_of_asleep h
  case channels =>
    intro s ha hu hb hd hc
    have hfiring (c : Nat) := mem_firing hu hb (c := c) (by rw [hc])
    obtain ⟨hpulses, htasks, hseen, hentered, huntouched, hframe⟩ := firedInCycle hu hd hc
    refine ⟨_, exec_fabricChannelFire_of_noTask ha rfl htasks, hpulses, htasks, fun c hlt h => ?_, fun c hlt h => ?_,
      hframe⟩
    · have hm : c ∈ s.firing := (hfiring c).2 ⟨hlt, h⟩
      exact ⟨by simp [hseen, hm], hentered c hm⟩
    · have hm : c ∉ s.firing := fun hm => h ((hfiring c).1 hm).2
      exact ⟨by simp [hseen, hm], huntouched c hm⟩
  case underWay =>
    intro c left tasks s ha hu hb hp hd hleft hc
    have hcycle := fabricCycle_of_idle hu hp hb
    rw [advanceDeliveries_of_underWay (by simpa [hd] using hleft), hd] at hcycle
    exact exec_fabricChannelFire_of_noTask ha (hcycle.trans (endPerclk_of_idle hp hb hc)) rfl
  case reached =>
    intro c left tasks s ha hu hb hp hd hleft hnodup hc
    have hcycle := fabricCycle_of_idle hu hp hb
    rw [advanceDeliveries_of_end hd hleft hnodup] at hcycle
    exact exec_fabricChannelFire_of_awake ha (hcycle.trans (endPerclk_of_idle hp hb hc))
  case meeting =>
    intro c d k s ha hu hb hp hd hk hc
    have hcycle := fabricCycle_of_idle hu hp hb
    rw [advanceDeliveries_of_meeting hd] at hcycle
    exact exec_fabricChannelFire_of_oneTask ha (hcycle.trans (endPerclk_of_idle hp hb hc)) hk rfl
  case task =>
    intro c n s t hc h
    simp only [List.mem_cons, List.not_mem_nil, or_false, Prod.mk.injEq] at hc
    obtain ⟨rfl, rfl⟩ | ⟨rfl, rfl⟩ | ⟨rfl, rfl⟩ | ⟨rfl, rfl⟩ | ⟨rfl, rfl⟩ | ⟨rfl, rfl⟩ | ⟨rfl, rfl⟩ | ⟨rfl, rfl⟩ |
      ⟨rfl, rfl⟩ | ⟨rfl, rfl⟩ | ⟨rfl, rfl⟩ | ⟨rfl, rfl⟩ | ⟨rfl, rfl⟩ | ⟨rfl, rfl⟩ | ⟨rfl, rfl⟩ | ⟨rfl, rfl⟩ := hc
    all_goals exact after_of_eq_next h
  case timerStart => exact fun n s t h => (runTask_timer n (k := 0) (by decide) s).trans (after_of_eq_next h)
  case timerCapture =>
    intro n k s t h
    rw [Nat.add_assoc, runTask_timer n (by omega), timerTask_capture]
    exact after_of_eq_next h
  case timerStop => exact fun n s t h => (runTask_timer n (k := 1) (by decide) s).trans (after_of_eq_next h)
  case timerClear => exact fun n s t h => (runTask_timer n (k := 2) (by decide) s).trans (after_of_eq_next h)
  case gpio => exact fun k s t h => (runTask_gpio k s).trans (after_of_eq_next h)
  case airop => exact fun k s t h => (runTask_airop k s).trans (after_of_eq_next h)
  case cell =>
    intro i s ha hu hff hw hd
    obtain ⟨hdelivery, hq⟩ := beforeFiring_of_single hu hff hw
    rw [hd] at hdelivery
    exact ⟨_, exec_fabricChannelFire_of_noDelivery ha hdelivery, (bit_fabricCycle_cell hdelivery 31).trans hq⟩
  case riseNap =>
    intro k s hnap hu h
    obtain ⟨hpend, hq, hwaking, hcause, hframe⟩ := rise_of_nap hnap hu h
    rw [Nat.add_sub_cancel_left] at hpend
    exact ⟨_, exec_backupCellRise s, hpend, hq, hwaking, hcause, hframe⟩
  case riseAwake =>
    intro k s ha hu h
    obtain ⟨hrise, hq, hpwr, hcyc, hframe⟩ := rise_of_awake ha hu h
    exact ⟨_, exec_backupCellRise s, hrise, hq, hpwr, hcyc, hframe⟩
  case noBackup =>
    intro s ha h
    rw [exec_backupCellRise, execBackupCellRise, evalBackup_of_unused ha h]
    rfl

end

section
/-! PROOF. Commands and strobes of the front die (08): writes of a frequency and of the state command, the start of a change
along its path, commands held during a transition, and what a strobe does (R217, R231, R233 to R235). The new state at a
transition's end and how the change goes on from there (R231, R232, R235). -/

namespace Sys2Proof.Machine

/-! ### Frames under other parts of the state -/

section

variable {l : List Nat} {s t : State}

theorem OnlyRegs.withFront (x : FrontSt) (h : OnlyRegs l s t) :
    OnlyRegs l { s with front := x } { t with front := x } :=
  h.map (fun r => { r with front := x }) rfl fun _ => rfl

theorem OnlyEvents.withLink (x : LinkSt) (h : OnlyEvents l s t) :
    OnlyEvents l { s with link := x } { t with link := x } := by
  obtain ⟨_, _, _, _, _, _, rfl⟩ := h.exists_eq
  obtain ⟨hregs, hcount, hmem, -⟩ := h
  exact ⟨hregs, hcount, hmem, rfl⟩

theorem OnlyEvents.mono {l' : List Nat} (h : OnlyEvents l s t) (hl : l ⊆ l') : OnlyEvents l' s t := by
  obtain ⟨hregs, hcount, hrest⟩ := h
  exact ⟨fun a ha => hregs a fun hm => ha (List.cons_subset_cons _ hl hm),
    fun he => ⟨(hcount he).1, fun hn => (hcount he).2 fun hm => hn (hl hm)⟩, hrest⟩

end

/-! ### Frequencies and commands (R217, R233) -/

section

variable {s : State}

theorem inPathRange_iff {khz : Nat} :
    inPathRange khz = true ↔ (850000 ≤ khz ∧ khz ≤ 935000) ∨ (2400000 ≤ khz ∧ khz ≤ 2483500) := by
  simp [inPathRange]

theorem exec_radioFreqWrite_of_owned (tx : Bool) (v : Word) (h : s.radioOwned = true) :
    exec (.radioFreqWrite tx v) s = .next (s.satAdd Reg.RADIO_COUNT 12 6) := by
  simp [execRadioFreqWrite, h]

theorem exec_radioFreqWrite_of_outside (tx : Bool) {v : Word} (h : s.radioOwned = false)
    (hr : inPathRange (fld v 0 22) = false) :
    exec (.radioFreqWrite tx v) s = .next (s.satAdd Reg.RADIO_COUNT 18 4) := by
  simp [execRadioFreqWrite, h, hr]

theorem exec_radioFreqWrite_of_inside (tx : Bool) {v : Word} (h : s.radioOwned = false)
    (hr : inPathRange (fld v 0 22) = true) :
    exec (.radioFreqWrite tx v) s =
      .next (s.wr (if tx then Reg.RADIO_TX_FREQ else Reg.RADIO_RX_FREQ) (word (fld v 0 22))) := by
  simp [execRadioFreqWrite, h, hr]

/-- The target that a command word names. -/
def commandTarget (v : Word) : FsmTarget := ⟨⟨fld v 0 3, Nat.mod_lt _ (by decide)⟩, bitOf v 3, bitOf v 4⟩

theorem exec_radioFsmCmd_of_owned (v : Word) (h : s.radioOwned = true) :
    exec (.radioFsmCmd v) s = .next (s.satAdd Reg.RADIO_COUNT 12 6) := by
  simp [execRadioFsmCmd, h]


end

/-! ### The start of a change (R231) -/

section

variable {s : State} {g : FsmTarget} {n : Nat} {rest : List Nat}

/-- One state on the way of a change, with the change's lanes and path. -/
def leg (g : FsmTarget) (n : Nat) : FsmTarget := ⟨Fin.ofNat 8 n, g.lanes, g.path24⟩

theorem mem_frontPath_lt {f t k : Nat} (ht : t < 8) (h : k ∈ frontPath f t) : k < 8 := by
  unfold frontPath fromStandby at h
  split_ifs at h <;> simp at h <;> omega

theorem state_leg_eq_zero_iff (hn : n < 8) : (leg g n).state = 0 ↔ n = 0 := by
  simp [leg, Fin.ext_iff, Nat.mod_eq_of_lt hn]

/-- The front die's own state once a transition has started. -/
def State.legFront (s : State) (g : FsmTarget) : FrontSt :=
  { (if s.fsm = 3 then s.frontIdle else s).front with
    going := some g, tx := if g.state = 0 then none else s.front.tx, tuning := none, tone := none }

theorem startLeg_eq (s : State) (g : FsmTarget) :
    s.startLeg g = ({ s with front := s.legFront g } : State).setB Reg.RADIO_FSM 6 true := by
  unfold State.startLeg State.legFront
  split <;> rfl

variable (s g)

@[simp] theorem legFront_going : (s.legFront g).going = some g := rfl
@[simp] theorem legFront_tx : (s.legFront g).tx = if g.state = 0 then none else s.front.tx := rfl
@[simp] theorem legFront_tuning : (s.legFront g).tuning = none := rfl
@[simp] theorem legFront_tone : (s.legFront g).tone = none := rfl
@[simp] theorem legFront_legs : (s.legFront g).legs = s.front.legs := by
  unfold State.legFront
  split <;> rfl
@[simp] theorem legFront_held : (s.legFront g).held = s.front.held := by
  unfold State.legFront
  split <;> rfl
@[simp] theorem legFront_strobes : (s.legFront g).strobes = s.front.strobes := by
  unfold State.legFront
  split <;> rfl

variable {s g}

theorem detection_legFront (h : s.fsm = 3) : (s.legFront g).stage = 0 ∧ (s.legFront g).table = none := by
  simp [State.legFront, h, State.frontIdle]

theorem legFront_of_not_rx (h : s.fsm ≠ 3) (hg : g.state ≠ 0) :
    s.legFront g = { s.front with going := some g, tuning := none, tone := none } := by
  simp [State.legFront, h, hg]

/-- The states after the first of a change are written down as its further transitions. -/
def State.withLegs (s : State) (legs : List FsmTarget) : State := { s with front := { s.front with legs := legs } }

theorem startMove_of_path (h : frontPath s.fsm g.state = n :: rest) :
    s.startMove g = (s.withLegs (rest.map (leg g))).startLeg (leg g n) := by
  simp only [State.startMove, h, List.map_cons, State.nextLeg]
  rfl

@[simp] theorem fsm_withLegs (legs : List FsmTarget) : (s.withLegs legs).fsm = s.fsm := rdF_congr (rd_congr rfl _) _ _

theorem onlyRegs_startLeg (s : State) (g : FsmTarget) :
    OnlyRegs [Reg.RADIO_FSM] { s with front := s.legFront g } (s.startLeg g) := by
  rw [startLeg_eq]
  exact (OnlyRegs.refl _ _).setB (by simp)

theorem front_startLeg (s : State) (g : FsmTarget) : (s.startLeg g).front = s.legFront g := by
  rw [startLeg_eq, setB_front]

theorem busy_startLeg (s : State) (g : FsmTarget) : (s.startLeg g).bit Reg.RADIO_FSM 6 = true := by
  rw [startLeg_eq, bit_setB_same _ _ (by decide)]

theorem fsm_startLeg (s : State) (g : FsmTarget) : (s.startLeg g).fsm = s.fsm := by
  rw [startLeg_eq]
  exact (rdF_wrF_ne _ _ (by decide)).trans (rdF_congr (rd_congr rfl _) _ _)

/-- What the start of a change leaves: the first transition of its path runs and the others wait; the front die is
still in the state that it leaves. -/
structure MoveStarted (s : State) (g : FsmTarget) (n : Nat) (rest : List Nat) (t : State) : Prop where
  going : t.front.going = some (leg g n)
  legs : t.front.legs = rest.map (leg g)
  held : t.front.held = s.front.held
  strobes : t.front.strobes = s.front.strobes
  tx : t.front.tx = if (leg g n).state = 0 then none else s.front.tx
  tuning : t.front.tuning = none
  tone : t.front.tone = none
  detection : s.fsm = 3 → t.front.stage = 0 ∧ t.front.table = none
  busy : t.bit Reg.RADIO_FSM 6 = true
  fsm : t.fsm = s.fsm
  only : OnlyRegs [Reg.RADIO_FSM] { s with front := t.front } t

theorem moveStarted_of_path (h : frontPath s.fsm g.state = n :: rest) : MoveStarted s g n rest (s.startMove g) := by
  rw [startMove_of_path h]
  have hfront := front_startLeg (s.withLegs (rest.map (leg g))) (leg g n)
  exact {
    going := by rw [hfront, legFront_going]
    legs := by rw [hfront, legFront_legs]; rfl
    held := by rw [hfront, legFront_held]; rfl
    strobes := by rw [hfront, legFront_strobes]; rfl
    tx := by rw [hfront, legFront_tx]; rfl
    tuning := by rw [hfront, legFront_tuning]
    tone := by rw [hfront, legFront_tone]
    detection := fun h => by rw [hfront]; exact detection_legFront ((fsm_withLegs _).trans h)
    busy := busy_startLeg _ _
    fsm := (fsm_startLeg _ _).trans (fsm_withLegs _)
    only := by rw [hfront]; exact onlyRegs_startLeg _ _ }

theorem front_startMove_of_not_rx (h : frontPath s.fsm g.state = n :: rest) (hrx : s.fsm ≠ 3) (hn : n ≠ 0) :
    (s.startMove g).front =
      { s.front with going := some (leg g n), legs := rest.map (leg g), tuning := none, tone := none } := by
  have hlt : n < 8 := mem_frontPath_lt g.state.isLt (h ▸ List.mem_cons_self)
  have hstate : (leg g n).state ≠ 0 := by rwa [ne_eq, state_leg_eq_zero_iff hlt]
  rw [startMove_of_path h, front_startLeg, legFront_of_not_rx (by rwa [fsm_withLegs]) hstate]
  rfl

theorem commandMove_of_idle (h : s.front.going = none) : s.commandMove g = s.startMove g := by
  simp [State.commandMove, h]

/-- A command waits for the end of the transition. -/
def State.holdMove (s : State) (g : FsmTarget) : State := { s with front := { s.front with held := some g } }

theorem commandMove_of_going (h : s.front.going.isSome = true) :
    s.commandMove g = (s.holdMove g).satAdd Reg.RADIO_COUNT 6 6 := by
  simp [State.commandMove, h, State.holdMove]

theorem exec_radioFsmCmd_of_free (v : Word) (h : s.radioOwned = false) :
    exec (.radioFsmCmd v) s = .next (s.commandMove (commandTarget v)) := by
  simp [execRadioFsmCmd, h, commandTarget]

theorem exec_radioFsmCmd_of_idle (v : Word) (h : s.radioOwned = false) (hg : s.front.going = none) :
    exec (.radioFsmCmd v) s = .next (s.startMove (commandTarget v)) := by
  rw [exec_radioFsmCmd_of_free v h, commandMove_of_idle hg]

theorem exec_radioFsmCmd_of_going (v : Word) (h : s.radioOwned = false) (hg : s.front.going.isSome = true) :
    exec (.radioFsmCmd v) s = .next ((s.holdMove (commandTarget v)).satAdd Reg.RADIO_COUNT 6 6) := by
  rw [exec_radioFsmCmd_of_free v h, commandMove_of_going hg]

theorem count_heldMove (s : State) (g : FsmTarget) :
    ((s.holdMove g).satAdd Reg.RADIO_COUNT 6 6).rdF Reg.RADIO_COUNT 6 6 =
      min (s.rdF Reg.RADIO_COUNT 6 6 + 1) 63 := by
  have hrd : (s.holdMove g).rdF Reg.RADIO_COUNT 6 6 = s.rdF Reg.RADIO_COUNT 6 6 := rdF_congr (rd_congr rfl _) _ _
  rw [rdF_satAdd_same _ (by decide), hrd]
  rfl

theorem onlyRegs_heldMove (s : State) (g : FsmTarget) :
    OnlyRegs [Reg.RADIO_COUNT] (s.holdMove g) ((s.holdMove g).satAdd Reg.RADIO_COUNT 6 6) :=
  (OnlyRegs.refl _ _).satAdd (by simp)

end

/-! ### Strobes (R231, R234, R235) -/

section

variable {s : State} {g : FsmTarget} {rest : List FsmTarget}

theorem le_tunerReg (p : Bool) : 0x50009000 ≤ tunerReg p := by cases p <;> decide

theorem ne_tunerReg {a : Nat} (p : Bool) (h : a < 0x50009000) : a ≠ tunerReg p := by
  have := le_tunerReg p
  omega

/-- The registers that the load of a frequency writes: the tuner's where the frequency changes. -/
def tuneRegs (s : State) (khz : Nat) : List Nat :=
  [Reg.RADIO_RX_FREQ, Reg.RADIO_TX_FREQ] ++
    if s.rdF Reg.RADIO_TX_FREQ 0 22 = khz then [] else [tunerReg (decide (2400000 ≤ khz))]

theorem onlyRegs_tuneTo (s : State) (khz : Nat) : OnlyRegs (tuneRegs s khz) s (s.tuneTo khz) := by
  have hfreq (l : List Nat) : OnlyRegs ([Reg.RADIO_RX_FREQ, Reg.RADIO_TX_FREQ] ++ l) s
      ((s.wr Reg.RADIO_RX_FREQ (word khz)).wr Reg.RADIO_TX_FREQ (word khz)) :=
    ((OnlyRegs.refl _ s).wr (by simp)).wr (by simp)
  unfold State.tuneTo tuneRegs
  by_cases h : s.rdF Reg.RADIO_TX_FREQ 0 22 = khz
  · simpa only [h, if_true] using hfreq _
  · simp only [h, if_false]
    exact (hfreq _).wr (List.mem_append_right _ List.mem_cons_self)

theorem rd_tuneTo_of_lt (khz : Nat) {a : Nat} (h : a < 0x50009000) : (s.tuneTo khz).rd a =
    ((s.wr Reg.RADIO_RX_FREQ (word khz)).wr Reg.RADIO_TX_FREQ (word khz)).rd a := by
  unfold State.tuneTo
  dsimp only
  split
  · rfl
  · exact rd_wr_ne _ _ (ne_tunerReg _ h)

theorem rd_tuneTo_rx (khz : Nat) : (s.tuneTo khz).rd Reg.RADIO_RX_FREQ = word khz := by
  rw [rd_tuneTo_of_lt _ (by decide), rd_wr_ne _ _ (by decide), rd_wr_same]

theorem rd_tuneTo_tx (khz : Nat) : (s.tuneTo khz).rd Reg.RADIO_TX_FREQ = word khz := by
  rw [rd_tuneTo_of_lt _ (by decide), rd_wr_same]

theorem fsm_tuneTo (khz : Nat) : (s.tuneTo khz).fsm = s.fsm :=
  rdF_congr ((rd_tuneTo_of_lt _ (by decide)).trans ((rd_wr_ne _ _ (by decide)).trans (rd_wr_ne _ _ (by decide)))) _ _

theorem front_tuneTo (khz : Nat) : (s.tuneTo khz).front = s.front :=
  (onlyRegs_tuneTo s khz).eq_of_indep State.front fun _ => rfl

theorem radioLoad_of_none (h : s.link.run = none) : s.radioLoad = s := by
  simp [State.radioLoad, h]

theorem radioLoad_of_run {o : RunOp} (h : s.link.run = some o) : s.radioLoad = s.tuneTo (s.chanKhz o.chan) := by
  simp [State.radioLoad, h]

/-- The strobes on the way are those of a list. -/
def State.withStrobes (s : State) (l : List FsmTarget) : State := { s with front := { s.front with strobes := l } }

@[simp] theorem rd_withStrobes (l : List FsmTarget) (a : Nat) : (s.withStrobes l).rd a = s.rd a := rd_congr rfl a
@[simp] theorem rdF_withStrobes (l : List FsmTarget) (a lo len : Nat) :
    (s.withStrobes l).rdF a lo len = s.rdF a lo len := rdF_congr (rd_withStrobes l a) lo len
@[simp] theorem fsm_withStrobes (l : List FsmTarget) : (s.withStrobes l).fsm = s.fsm := rdF_withStrobes l _ _ _

theorem exec_strobeReceived_of_reset (b : Bool) (h : s.front.strobes = g :: rest) (hr : s.spineState .front = 1) :
    exec (.strobeReceived b) s = .next (s.withStrobes rest) := by
  simp [execStrobeReceived, h, hr, State.withStrobes]

@[simp] theorem chanKhz_withStrobes (l : List FsmTarget) (c : Nat) : (s.withStrobes l).chanKhz c = s.chanKhz c := rfl

theorem exec_strobeReceived_of_low (h : s.front.strobes = g :: rest) (hr : s.spineState .front ≠ 1)
    (hg : g.state.val ≤ 1) : exec (.strobeReceived true) s = .next ((s.withStrobes rest).commandMove g) := by
  have hstate : g.state = 1 ∨ g.state = 0 := by omega
  simp [execStrobeReceived, h, hr, hstate, State.withStrobes]

theorem exec_strobeReceived_of_high (h : s.front.strobes = g :: rest) (hr : s.spineState .front ≠ 1)
    (hg : 2 ≤ g.state.val) :
    exec (.strobeReceived true) s = .next ((s.withStrobes rest).radioLoad.commandMove g) := by
  have hstate : ¬ (g.state = 1 ∨ g.state = 0) := by omega
  simp [execStrobeReceived, h, hr, hstate, State.withStrobes]

/-- Below SYNTH_SETTLE, or with no operation, no frequency is loaded. -/
theorem exec_strobeReceived_of_untuned (h : s.front.strobes = g :: rest) (hr : s.spineState .front ≠ 1)
    (hi : s.front.going = none) (hg : g.state.val ≤ 1 ∨ s.link.run = none) :
    exec (.strobeReceived true) s = .next ((s.withStrobes rest).startMove g) := by
  have hidle : (s.withStrobes rest).front.going = none := hi
  by_cases hlow : g.state.val ≤ 1
  · rw [exec_strobeReceived_of_low h hr hlow, commandMove_of_idle hidle]
  · have hrun : (s.withStrobes rest).link.run = none := hg.resolve_left hlow
    rw [exec_strobeReceived_of_high h hr (by omega), radioLoad_of_none hrun, commandMove_of_idle hidle]

theorem exec_strobeReceived_of_tuned {o : RunOp} (h : s.front.strobes = g :: rest) (hr : s.spineState .front ≠ 1)
    (hi : s.front.going = none) (hg : 2 ≤ g.state.val) (ho : s.link.run = some o) :
    exec (.strobeReceived true) s = .next (((s.withStrobes rest).tuneTo (s.chanKhz o.chan)).startMove g) := by
  have hrun : (s.withStrobes rest).link.run = some o := ho
  have hidle : ((s.withStrobes rest).tuneTo (s.chanKhz o.chan)).front.going = none := by
    rw [front_tuneTo]
    exact hi
  rw [exec_strobeReceived_of_high h hr hg, radioLoad_of_run hrun, chanKhz_withStrobes, commandMove_of_idle hidle]

/-- What a change leaves that starts with the load of a frequency. -/
theorem onlyRegs_startMove_tuneTo {n : Nat} {legs : List Nat} {khz : Nat} {t : State}
    (hm : MoveStarted ((s.withStrobes rest).tuneTo khz) g n legs t) :
    OnlyRegs (Reg.RADIO_FSM :: tuneRegs s khz) { s with front := t.front } t := by
  have htune : OnlyRegs (tuneRegs s khz) { s with front := t.front }
      { (s.withStrobes rest).tuneTo khz with front := t.front } :=
    (onlyRegs_tuneTo (s.withStrobes rest) khz).withFront _
  exact (htune.mono (List.subset_cons_self _ _)).trans (hm.only.mono (by simp))

/-- A strobe of bad parity is reported and counted. -/
def State.strobeError (s : State) : State := ((s.setB Reg.RADIO_STATUS 1 true).satAdd Reg.RADIO_COUNT 0 6).event 106

/-- The strobe into TUNE that is lost takes its grant with it. -/
def State.dropGrant (s : State) (g : FsmTarget) : State :=
  if g.state = 5 then { s with front := { s.front with tuneGrant := none } } else s

theorem exec_strobeReceived_of_bad (h : s.front.strobes = g :: rest) (hr : s.spineState .front ≠ 1) :
    exec (.strobeReceived false) s = .next (((s.withStrobes rest).dropGrant g).strobeError.missRun) := by
  simp only [exec_strobeReceived, execStrobeReceived, h, hr, if_false, Bool.not_false, if_true]
  rfl

theorem dropGrant_of_ne (h : g.state ≠ 5) : s.dropGrant g = s := if_neg h

theorem rd_dropGrant (a : Nat) : (s.dropGrant g).rd a = s.rd a := by
  unfold State.dropGrant
  split
  · exact rd_congr rfl a
  · rfl

theorem link_dropGrant : (s.dropGrant g).link = s.link := by
  unfold State.dropGrant
  split <;> rfl

theorem link_strobeError : s.strobeError.link = s.link := by
  rw [State.strobeError, event_link, satAdd_link, setB_link]

theorem front_strobeError : s.strobeError.front = s.front := by
  rw [State.strobeError, event_front, satAdd_front, setB_front]

theorem onlyEvents_strobeError (s : State) :
    OnlyEvents ([Reg.RADIO_STATUS, Reg.RADIO_COUNT] ++ eventRegs 106) s s.strobeError :=
  (((OnlyEvents.refl _ s).setB (by simp)).satAdd (by simp)).event (by simp [eventRegs]) (by simp [eventRegs])

theorem bit_strobeError : s.strobeError.bit Reg.RADIO_STATUS 1 = true := by
  rw [State.strobeError, bit_congr (rd_event_ne _ (by decide) (by decide) (by decide)),
    bit_congr (rd_satAdd_ne _ _ _ _ (by decide)), bit_setB_same _ _ (by decide)]

theorem count_strobeError :
    s.strobeError.rdF Reg.RADIO_COUNT 0 6 = min (s.rdF Reg.RADIO_COUNT 0 6 + 1) 63 := by
  rw [State.strobeError, rdF_congr (rd_event_ne _ (by decide) (by decide) (by decide)), rdF_satAdd_same _ (by decide),
    rdF_congr (rd_setB_ne _ _ _ (by decide))]
  rfl

theorem pending1_strobeError : s.strobeError.pending1 106 = true := bit_event_pend _ 106 (by decide)

theorem fsm_strobeError : s.strobeError.fsm = s.fsm := by
  obtain ⟨hregs, -⟩ := onlyEvents_strobeError s
  exact rdF_congr (hregs _ (by decide)) _ _

theorem missRun_of_none (h : s.link.run = none) : s.missRun = s := by simp [State.missRun, h]

/-- The operation that runs is over. -/
def State.endRun (s : State) : State := { s with link := { s.link with run := none } }

/-- An operation of the built-in sequence that is no call is missed: it is counted, with event 78. -/
def State.missed (s : State) : State := (s.endRun.satAdd Reg.LINK_COUNT_TX 16 8).event 78

theorem missRun_of_sequence {o : RunOp} (h : s.link.run = some o)
    (ho : o.ref ∈ [OpRef.beacon, .relay, .join, .hearBeacon, .hearCall, .hearFlood]) :
    s.missRun = s.missed := by
  simp only [List.mem_cons, List.not_mem_nil, or_false] at ho
  obtain ho | ho | ho | ho | ho | ho := ho <;>
    simp [State.missRun, h, State.missOp, State.retryOp, ho, State.endRun, State.missed]

@[simp] theorem rd_endRun (a : Nat) : s.endRun.rd a = s.rd a := rd_congr rfl a

theorem run_missed (s : State) : s.missed.link.run = none := by
  rw [State.missed, event_link, satAdd_link]
  rfl

theorem count_missed (s : State) :
    s.missed.rdF Reg.LINK_COUNT_TX 16 8 = min (s.rdF Reg.LINK_COUNT_TX 16 8 + 1) 255 := by
  rw [State.missed, rdF_congr (rd_event_ne _ (by decide) (by decide) (by decide)), rdF_satAdd_same _ (by decide),
    rdF_congr (rd_endRun _)]
  rfl

theorem pending1_missed (s : State) : s.missed.pending1 78 = true := bit_event_pend _ 78 (by decide)

theorem pending1_missed_of_pending1 (h : s.pending1 106 = true) : s.missed.pending1 106 = true :=
  pending1_event_of_pending1 78 (by decide)
    ((bit_congr ((rd_satAdd_ne _ _ _ _ (by decide)).trans (rd_endRun _)) _).trans h)

theorem fsm_missed (s : State) : s.missed.fsm = s.fsm := by
  rw [State.missed, State.fsm, rdF_congr (rd_event_ne _ (by decide) (by decide) (by decide)),
    rdF_congr (rd_satAdd_ne _ _ _ _ (by decide)), rdF_congr (rd_endRun _), State.fsm]

end

/-! ### The new state at a transition's end (R221, R227, R228, R231, R232) -/

section

variable {s : State} {g h : FsmTarget} {rest : List FsmTarget}

theorem rdF_wrF_low {a lo len len' : Nat} (n : Nat) (hlen : len' ≤ len) (h32 : lo + len ≤ 32) :
    (s.wrF a lo len n).rdF a lo len' = n % 2 ^ len' := by
  have hfld : fld (setFld (s.rd a) lo len n) lo len' = fld (setFld (s.rd a) lo len n) lo len % 2 ^ len' := by
    rw [fld, fld, Nat.mod_mod_of_dvd _ (Nat.pow_dvd_pow 2 hlen)]
  rw [State.rdF, rd_wrF_same, hfld, fld_setFld_same _ _ h32, Nat.mod_mod_of_dvd _ (Nat.pow_dvd_pow 2 hlen)]

/-- What RADIO_FSM reads of a target in its low seven bits. -/
def stateBits (g : FsmTarget) : Nat := g.state + b2n g.lanes * 8 + b2n g.path24 * 16

theorem stateBits_fields (g : FsmTarget) : stateBits g % 8 = g.state ∧ (stateBits g).testBit 3 = g.lanes ∧
    (stateBits g).testBit 4 = g.path24 ∧ (stateBits g).testBit 6 = false := by
  obtain ⟨n, lanes, path24⟩ := g
  revert n lanes path24
  decide

/-- STATE, LANES and PATH take the target, and at RX entry the LNA the step chosen. -/
def State.showTarget (s : State) (g : FsmTarget) (lna : Nat) : State :=
  if g.state = 3 then (s.wrF Reg.RADIO_FSM 0 7 (stateBits g)).wrF Reg.RADIO_LNA 0 2 lna
  else s.wrF Reg.RADIO_FSM 0 7 (stateBits g)

/-- The front die enters a state other than OFF. -/
def State.arrive (s : State) (g : FsmTarget) (lna : Nat) : State :=
  ((if g.state = 5 then (s.showTarget g lna).enterTune else s.showTarget g lna).setB Reg.RADIO_SYNTH_OFS 31
    (synthLocked g.state)).event 96

theorem onlyRegs_showTarget (s : State) (g : FsmTarget) (lna : Nat) :
    OnlyRegs [Reg.RADIO_FSM, Reg.RADIO_LNA] s (s.showTarget g lna) := by
  unfold State.showTarget
  split
  · exact ((OnlyRegs.refl _ s).wrF (by simp)).wrF (by simp)
  · exact (OnlyRegs.refl _ s).wrF (by simp)

theorem rd_showTarget_fsm (lna : Nat) :
    (s.showTarget g lna).rd Reg.RADIO_FSM = (s.wrF Reg.RADIO_FSM 0 7 (stateBits g)).rd Reg.RADIO_FSM := by
  unfold State.showTarget
  split
  · exact rd_wrF_ne _ _ _ _ (by decide)
  · rfl

/-- The front die's own state on arrival: on entry into TUNE the tone is on, and a granted retune runs. -/
def State.arrivedFront (s : State) (g : FsmTarget) : FrontSt :=
  if g.state = 5 then { s.front with
    tuning := s.front.tuneGrant, tuneGrant := none, tone := some (s.rdF Reg.RADIO_TX_FREQ 0 22, -40) }
  else s.front

@[simp] theorem arrivedFront_legs : (s.arrivedFront g).legs = s.front.legs := by
  unfold State.arrivedFront
  split <;> rfl
@[simp] theorem arrivedFront_held : (s.arrivedFront g).held = s.front.held := by
  unfold State.arrivedFront
  split <;> rfl
@[simp] theorem arrivedFront_going : (s.arrivedFront g).going = s.front.going := by
  unfold State.arrivedFront
  split <;> rfl

theorem arrive_eq (s : State) (g : FsmTarget) (lna : Nat) : s.arrive g lna =
    (({ s.showTarget g lna with front := s.arrivedFront g } : State).setB Reg.RADIO_SYNTH_OFS 31
      (synthLocked g.state)).event 96 := by
  obtain ⟨hregs, -⟩ := onlyRegs_showTarget s g lna
  have hfront : (s.showTarget g lna).front = s.front :=
    (onlyRegs_showTarget s g lna).eq_of_indep State.front fun _ => rfl
  have htx := rdF_congr (hregs Reg.RADIO_TX_FREQ (by decide)) 0 22
  unfold State.arrive State.arrivedFront
  split
  · rw [State.enterTune, htx, hfront]
  · rw [← hfront]

theorem front_arrive (s : State) (g : FsmTarget) (lna : Nat) : (s.arrive g lna).front = s.arrivedFront g := by
  rw [arrive_eq, event_front, setB_front]

theorem onlyEvents_arrive (s : State) (g : FsmTarget) (lna : Nat) :
    OnlyEvents ([Reg.RADIO_FSM, Reg.RADIO_LNA, Reg.RADIO_SYNTH_OFS] ++ eventRegs 96)
      { s with front := s.arrivedFront g } (s.arrive g lna) := by
  rw [arrive_eq]
  exact ((((onlyRegs_showTarget s g lna).withFront _).mono (by simp)).setB (by simp)).events.event
    (by simp [eventRegs]) (by simp [eventRegs])

theorem rd_arrive_shown (lna : Nat) {a : Nat} (ha : a ∈ [Reg.RADIO_FSM, Reg.RADIO_LNA]) :
    (s.arrive g lna).rd a = (s.showTarget g lna).rd a := by
  have hne : a ≠ Reg.INTC_PEND (96 / 32) ∧ a ≠ Reg.INTC_OVR ∧ a ≠ Reg.PWR_COUNT ∧ a ≠ Reg.RADIO_SYNTH_OFS := by
    revert a
    decide
  obtain ⟨hpend, hovr, hcount, hofs⟩ := hne
  rw [arrive_eq, rd_event_ne _ hpend hovr hcount, rd_setB_ne _ _ _ hofs]
  exact rd_congr rfl a

theorem rd_arrive_fsm (lna : Nat) :
    (s.arrive g lna).rd Reg.RADIO_FSM = (s.wrF Reg.RADIO_FSM 0 7 (stateBits g)).rd Reg.RADIO_FSM := by
  rw [rd_arrive_shown _ (by simp), rd_showTarget_fsm]

theorem fsm_arrive (lna : Nat) : (s.arrive g lna).fsm = g.state.val := by
  obtain ⟨hstate, -⟩ := stateBits_fields g
  exact (rdF_congr (rd_arrive_fsm lna) 0 3).trans ((rdF_wrF_low _ (by decide) (by decide)).trans hstate)

theorem bits_arrive (lna : Nat) : (s.arrive g lna).bit Reg.RADIO_FSM 3 = g.lanes ∧
    (s.arrive g lna).bit Reg.RADIO_FSM 4 = g.path24 ∧ (s.arrive g lna).bit Reg.RADIO_FSM 6 = false := by
  obtain ⟨-, hlanes, hpath, hbusy⟩ := stateBits_fields g
  have hbit {i : Nat} (hi : i < 7) : (s.arrive g lna).bit Reg.RADIO_FSM i = (stateBits g).testBit i :=
    (bit_congr (rd_arrive_fsm lna) i).trans (bit_wrF_same _ (Nat.zero_le i) hi (by omega))
  exact ⟨(hbit (by decide)).trans hlanes, (hbit (by decide)).trans hpath, (hbit (by decide)).trans hbusy⟩

theorem lna_arrive_of_rx (lna : Nat) (hg : g.state.val = 3) : (s.arrive g lna).rdF Reg.RADIO_LNA 0 2 = lna % 4 := by
  have hstate : g.state = 3 := Fin.ext hg
  rw [rdF_congr (rd_arrive_shown lna (by simp)), State.showTarget, if_pos hstate, rdF_wrF_same _ _ (by decide)]
  rfl

theorem rd_arrive_lna_of_not_rx (lna : Nat) (hg : g.state.val ≠ 3) :
    (s.arrive g lna).rd Reg.RADIO_LNA = s.rd Reg.RADIO_LNA := by
  have hstate : g.state ≠ 3 := fun h => hg (congrArg Fin.val h)
  rw [rd_arrive_shown lna (by simp), State.showTarget, if_neg hstate, rd_wrF_ne _ _ _ _ (by decide)]

theorem synth_arrive (lna : Nat) : (s.arrive g lna).bit Reg.RADIO_SYNTH_OFS 31 = synthLocked g.state := by
  rw [arrive_eq, bit_congr (rd_event_ne _ (by decide) (by decide) (by decide)), bit_setB_same _ _ (by decide)]

theorem spineState_arrive (lna : Nat) : (s.arrive g lna).spineState .front = s.spineState .front := by
  obtain ⟨hregs, -⟩ := onlyEvents_arrive s g lna
  exact rdF_congr ((hregs _ (by decide)).trans (rd_congr rfl _)) _ _

theorem rd_arrive_tuner (lna : Nat) (p : Bool) : (s.arrive g lna).rd (tunerReg p) = s.rd (tunerReg p) := by
  obtain ⟨hregs, -⟩ := onlyEvents_arrive s g lna
  exact (hregs _ (by cases p <;> decide)).trans (rd_congr rfl _)

theorem synthLocked_eq (n : Nat) : synthLocked n = decide (n = 2 ∨ n = 4 ∨ n = 5 ∨ n = 7) := by
  rw [Bool.eq_iff_iff]
  simp [synthLocked, or_assoc]

theorem pending1_arrive (lna : Nat) : (s.arrive g lna).pending1 96 = true := bit_event_pend _ 96 (by decide)

/-! ### How a change goes on (R231, R235) -/

/-- No command waits. -/
def State.dropHeld (s : State) : State := { s with front := { s.front with held := none } }

theorem fsm_dropHeld (s : State) : s.dropHeld.fsm = s.fsm := rdF_congr (rd_congr rfl _) _ _

/-- After a transition the next one of the change starts, and after the change a held command's. -/
def State.goOn (s : State) : State :=
  if !s.front.legs.isEmpty then s.nextLeg
  else match s.front.held with
    | some h => s.dropHeld.startMove h
    | none => s

theorem goOn_of_legs (hl : s.front.legs = h :: rest) : s.goOn = (s.withLegs rest).startLeg h := by
  simp [State.goOn, State.nextLeg, hl, State.withLegs]

theorem goOn_of_held (hl : s.front.legs = []) (hh : s.front.held = some h) :
    s.goOn = s.dropHeld.startMove h := by
  simp [State.goOn, hl, hh]

theorem goOn_of_rest (hl : s.front.legs = []) (hh : s.front.held = none) : s.goOn = s := by
  simp [State.goOn, hl, hh]

theorem goOn_arrive_of_legs (lna : Nat) (hl : s.front.legs = h :: rest) :
    (s.arrive g lna).goOn = ((s.arrive g lna).withLegs rest).startLeg h :=
  goOn_of_legs (by rw [front_arrive, arrivedFront_legs, hl])

theorem goOn_arrive_of_held (lna : Nat) (hl : s.front.legs = []) (hh : s.front.held = some h) :
    (s.arrive g lna).goOn = (s.arrive g lna).dropHeld.startMove h :=
  goOn_of_held (by rw [front_arrive, arrivedFront_legs, hl]) (by rw [front_arrive, arrivedFront_held, hh])

theorem goOn_arrive_of_rest (lna : Nat) (hl : s.front.legs = []) (hh : s.front.held = none) :
    (s.arrive g lna).goOn = s.arrive g lna :=
  goOn_of_rest (by rw [front_arrive, arrivedFront_legs, hl]) (by rw [front_arrive, arrivedFront_held, hh])

theorem rd_nextLeg_ne {a : Nat} (ha : a ≠ Reg.RADIO_FSM) : s.nextLeg.rd a = s.rd a := by
  unfold State.nextLeg
  split
  · rfl
  · rw [startLeg_eq, rd_setB_ne _ _ _ ha]
    exact rd_congr rfl a

theorem rd_goOn_ne {a : Nat} (ha : a ≠ Reg.RADIO_FSM) : s.goOn.rd a = s.rd a := by
  unfold State.goOn
  split
  · exact rd_nextLeg_ne ha
  · split
    · exact (rd_nextLeg_ne ha).trans (rd_congr rfl a)
    · rfl

theorem spineState_goOn : s.goOn.spineState .front = s.spineState .front :=
  rdF_congr (rd_goOn_ne (by decide)) _ _

theorem pending1_goOn {k : Nat} (hk : k < 256) : s.goOn.pending1 k = s.pending1 k := by
  have hne : Reg.INTC_PEND (k / 32) ≠ Reg.RADIO_FSM := by
    simp only [Reg.INTC_PEND, Reg.RADIO_FSM]
    omega
  exact bit_congr (rd_goOn_ne hne) _

/-! ### The command -/

/-- No transition runs. -/
def State.endGoing (s : State) : State := { s with front := { s.front with going := none } }

/-- What a transition's end leaves of the front die's own state on arrival. -/
theorem arrivedFront_endGoing (s : State) (g : FsmTarget) : s.endGoing.arrivedFront g =
    if g.state.val = 5 then { s.front with
      going := none, tuning := s.front.tuneGrant, tuneGrant := none, tone := (s.endGoing.arrivedFront g).tone }
    else { s.front with going := none } := by
  unfold State.arrivedFront
  by_cases h : g.state.val = 5
  · have hstate : g.state = 5 := Fin.ext h
    rw [if_pos h, if_pos hstate]
    rfl
  · have hstate : g.state ≠ 5 := fun e => h (congrArg Fin.val e)
    rw [if_neg h, if_neg hstate]
    rfl

/-- A power-up: Spine-F is UP unless it is STUCK, and the registers are loaded. -/
def State.powerUp (s : State) : State := (if s.spineState .front == 4 then s else s.spineUp .front).frontLoad

theorem next_goOn (s : State) : (.next s.goOn : Out) =
    if !s.front.legs.isEmpty then .next s.nextLeg
    else match s.front.held with
      | some h => .next (({ s with front := { s.front with held := none } } : State).startMove h)
      | none => .next s := by
  unfold State.goOn
  split
  · rfl
  · split <;> rfl

/-- The front die enters OFF. -/
def State.turnOff (s : State) : State := (s.frontOff.setB Reg.RADIO_SYNTH_OFS 31 false).event 96

theorem exec_frontTransitionEnd_of_off (hg : s.front.going = some g) (h0 : g.state = 0) :
    exec .frontTransitionEnd s = .next s.endGoing.turnOff.goOn := by
  have hlock : synthLocked (0 : Fin 8) = false := rfl
  simp only [next_goOn, exec_frontTransitionEnd, execFrontTransitionEnd, hg, h0, bne_self_eq_false, Bool.and_false,
    if_true, Bool.false_eq_true, if_false, hlock, State.endGoing, State.turnOff, show (0 : Fin 8) ≠ 3 by decide,
    show (0 : Fin 8) ≠ 5 by decide] <;> rfl

theorem exec_frontTransitionEnd_of_powered (hg : s.front.going = some g) (h0 : g.state ≠ 0) (hs : s.fsm ≠ 0) :
    exec .frontTransitionEnd s = .next (s.endGoing.arrive g s.front.lnaStep).goOn := by
  have hup : (s.fsm == 0 && g.state != 0) = false := by simp [hs]
  simp only [next_goOn, exec_frontTransitionEnd, execFrontTransitionEnd, hg, hup, if_neg h0, Bool.false_eq_true,
    if_false, State.arrive, State.showTarget, State.endGoing, stateBits] <;> rfl

theorem exec_frontTransitionEnd_of_powerUp (hg : s.front.going = some g) (h0 : g.state ≠ 0) (hs : s.fsm = 0) :
    exec .frontTransitionEnd s = .next (s.endGoing.powerUp.arrive g s.front.lnaStep).goOn := by
  have hup : (s.fsm == 0 && g.state != 0) = true := by simp [hs, h0]
  simp only [next_goOn, exec_frontTransitionEnd, execFrontTransitionEnd, hg, hup, if_neg h0, if_true, State.arrive,
    State.showTarget, State.endGoing, State.powerUp, stateBits] <;> rfl

end

end Sys2Proof.Machine
end

section
/-! PROOF. The power of the front die (08, 01): what a power-up loads and what OFF leaves, with Spine-F's state (R31, R34,
R231, R288, R669). -/

namespace Sys2Proof.Machine

/-! ### A power-up (R34, R77, R285, R288) -/

section

variable {s : State}

theorem fld_word {n lo len : Nat} (h : lo + len ≤ 32) : fld (word n) lo len = n / 2 ^ lo % 2 ^ len := by
  apply Nat.eq_of_testBit_eq
  intro i
  rw [testBit_fld, word, BitVec.getLsbD_ofNat, Nat.testBit_mod_two_pow, Nat.testBit_div_two_pow, Nat.add_comm i lo]
  by_cases hi : i < len
  · simp [hi, show lo + i < 32 by omega]
  · simp [hi]

theorem spineState_setSpine (s : State) (st : Nat) : (s.setSpine .front st).spineState .front = st % 8 := by
  rw [State.setSpine, State.spineState, rdF_congr (rd_setB_ne _ _ _ (by decide)), State.rdF, rd_wr_same,
    fld_word (by decide)]
  simp

theorem spineState_spineUp (s : State) : (s.spineUp .front).spineState .front = 3 := by
  rw [State.spineUp, spineState_setSpine]
  omega

theorem onlyRegs_spineUp (s : State) : OnlyRegs [Reg.SPINE_CTRL, Reg.SPINE_F_STAT]
    { s with spineF := (s.spineUp .front).spineF } (s.spineUp .front) :=
  (((OnlyRegs.refl _ _).setB (by simp)).wr (by simp [spineStat])).setB (by simp)

theorem onlyRegs_synthPowerUp (s : State) : OnlyRegs [Reg.RADIO_SYNTH_OFS] s s.synthPowerUp := by
  unfold State.synthPowerUp
  split
  · exact OnlyRegs.refl _ s
  · split <;> exact (OnlyRegs.refl _ s).wrF (by simp)

/-- The tuners with the codes and return losses that a power-up loads. -/
def State.tunersLoaded (s : State) : State := (s.tunerStart false (s.loadKhz false)).tunerStart true (s.loadKhz true)

theorem onlyRegs_frontLoad_tuners (s : State) :
    OnlyRegs [Reg.TUNER_THRESH, Reg.MODEM_CFG, Reg.RADIO_SYNTH_OFS] s.tunersLoaded s.frontLoad :=
  (((OnlyRegs.refl _ _).wr (by simp)).wrF (by simp)).trans ((onlyRegs_synthPowerUp _).mono (by simp))

theorem onlyRegs_tunersLoaded (s : State) : OnlyRegs [Reg.TUNER_SG, Reg.TUNER_24] s s.tunersLoaded :=
  ((OnlyRegs.refl _ s).wr (by simp)).wr (by simp)

theorem onlyRegs_frontLoad (s : State) :
    OnlyRegs [Reg.TUNER_SG, Reg.TUNER_24, Reg.TUNER_THRESH, Reg.MODEM_CFG, Reg.RADIO_SYNTH_OFS] s s.frontLoad :=
  ((onlyRegs_tunersLoaded s).mono (by simp)).trans ((onlyRegs_frontLoad_tuners s).mono (by simp))

/-- What a power-up without an operation loads into the register of a tuner. -/
def State.tunerWord (s : State) (p : Bool) : Word :=
  word ((s.tunerCodes p (if p then 2400000 else 850000)).1 + (s.tunerCodes p (if p then 2400000 else 850000)).2 * 256 +
    (mapGet s.cal.losses (b2n p)).getD 0 * 65536)

theorem rd_tunerStart_same (p : Bool) (khz : Nat) : (s.tunerStart p khz).rd (tunerReg p) =
    word ((s.tunerCodes p khz).1 + (s.tunerCodes p khz).2 * 256 + (mapGet s.cal.losses (b2n p)).getD 0 * 65536) :=
  rd_wr_same _ _ _

theorem rd_tunerStart_ne {a : Nat} {p : Bool} (khz : Nat) (h : a ≠ tunerReg p) : (s.tunerStart p khz).rd a = s.rd a :=
  rd_wr_ne _ _ h

theorem tunerCodes_congr {t : State} (h : t.cal = s.cal) (p : Bool) (khz : Nat) :
    t.tunerCodes p khz = s.tunerCodes p khz := by
  simp only [State.tunerCodes, h]

theorem tunerWord_congr {t : State} (h : t.cal = s.cal) (p : Bool) : t.tunerWord p = s.tunerWord p := by
  simp only [State.tunerWord, tunerCodes_congr h, h]

theorem rd_tunerStart_tunerWord (p : Bool) :
    (s.tunerStart p (if p then 2400000 else 850000)).rd (tunerReg p) = s.tunerWord p := rd_tunerStart_same p _

theorem rd_frontLoad_tuner (h : s.link.run = none) (p : Bool) : s.frontLoad.rd (tunerReg p) = s.tunerWord p := by
  have hload (p : Bool) : s.loadKhz p = if p then 2400000 else 850000 := by simp [State.loadKhz, h]
  have hregs : s.frontLoad.rd (tunerReg p) = s.tunersLoaded.rd (tunerReg p) :=
    (onlyRegs_frontLoad_tuners s).1 _ (by cases p <;> decide)
  rw [hregs, State.tunersLoaded, hload, hload]
  cases p with
  | true => exact (rd_tunerStart_tunerWord true).trans (tunerWord_congr rfl true)
  | false => exact (rd_tunerStart_ne _ (by decide)).trans (rd_tunerStart_tunerWord false)

theorem powerUp_of_stuck (h : s.spineState .front = 4) : s.powerUp = s.frontLoad := by
  simp [State.powerUp, h]

theorem powerUp_of_not_stuck (h : s.spineState .front ≠ 4) : s.powerUp = (s.spineUp .front).frontLoad := by
  simp [State.powerUp, h]

theorem spineState_frontLoad : s.frontLoad.spineState .front = s.spineState .front := by
  obtain ⟨hregs, -⟩ := onlyRegs_frontLoad s
  exact rdF_congr (hregs _ (by decide)) _ _

theorem spineState_powerUp (s : State) :
    s.powerUp.spineState .front = if s.spineState .front = 4 then 4 else 3 := by
  split
  · next h => rw [powerUp_of_stuck h, spineState_frontLoad, h]
  · next h => rw [powerUp_of_not_stuck h, spineState_frontLoad, spineState_spineUp]

theorem rd_powerUp_tuner (hs : s.spineState .front ≠ 4) (hr : s.link.run = none) (p : Bool) :
    s.powerUp.rd (tunerReg p) = s.tunerWord p := by
  have hrun : (s.spineUp .front).link.run = none := hr
  rw [powerUp_of_not_stuck hs, rd_frontLoad_tuner hrun p]
  exact tunerWord_congr rfl p

theorem front_powerUp (s : State) : s.powerUp.front = s.front := by
  have hload (u : State) : u.frontLoad.front = u.front := (onlyRegs_frontLoad u).eq_of_indep State.front fun _ => rfl
  by_cases h : s.spineState .front = 4
  · rw [powerUp_of_stuck h, hload]
  · rw [powerUp_of_not_stuck h, hload]
    exact (onlyRegs_spineUp s).eq_of_indep State.front fun _ => rfl

end

/-! ### The front die unpowered (R231, R669) -/

section

variable {s : State}

/-- What a reset leaves of the entry of a register. -/
def resetEntry (keep : Nat → Word) (e : Nat × Word) : Option (Nat × Word) :=
  if (e.2 &&& keep e.1) ||| (resetOf e.1 &&& ~~~ keep e.1) = resetOf e.1 then none
  else some (e.1, (e.2 &&& keep e.1) ||| (resetOf e.1 &&& ~~~ keep e.1))

theorem resetRegs_eq (s : State) (keep : Nat → Word) :
    s.resetRegs keep = { s with regs := s.regs.filterMap (resetEntry keep) } := rfl

theorem and_ones (v : Word) : v &&& 0xFFFFFFFF#32 = v := BitVec.and_allOnes

theorem resetEntry_of_cleared {keep : Nat → Word} {a : Nat} (hk : keep a = 0) (v : Word) :
    resetEntry keep (a, v) = none := by
  simp [resetEntry, hk, and_ones]

theorem resetEntry_of_kept {keep : Nat → Word} {a : Nat} {v : Word} (hk : keep a = 0xFFFFFFFF)
    (hv : v ≠ resetOf a) : resetEntry keep (a, v) = some (a, v) := by
  simp [resetEntry, hk, and_ones, hv]

theorem mapGet_filterMap_resetEntry_ne {keep : Nat → Word} {a k : Nat} (v : Word) (m : List (Nat × Word))
    (h : k ≠ a) :
    mapGet (((k, v) :: m).filterMap (resetEntry keep)) a = mapGet (m.filterMap (resetEntry keep)) a := by
  rw [List.filterMap_cons]
  unfold resetEntry
  split
  · rfl
  · next b hb =>
    have hkey : b.1 = k := by
      split at hb
      · exact absurd hb (by simp)
      · rw [← Option.some.inj hb]
    simp only [mapGet, hkey, if_neg h]

/-- Where no bit is kept, a register reads its reset value. -/
theorem rd_resetRegs_of_cleared {keep : Nat → Word} {a : Nat} (s : State) (hk : keep a = 0) :
    (s.resetRegs keep).rd a = resetOf a := by
  have hget (m : List (Nat × Word)) : mapGet (m.filterMap (resetEntry keep)) a = none := by
    induction m with
    | nil => rfl
    | cons e m ih =>
      obtain ⟨k, v⟩ := e
      by_cases h : k = a
      · rw [h, List.filterMap_cons, resetEntry_of_cleared hk, ih]
      · rw [mapGet_filterMap_resetEntry_ne v m h, ih]
  rw [resetRegs_eq, State.rd, hget]
  rfl

/-- Where all bits are kept, a register reads as before unless it was listed with its reset value. -/
theorem rd_resetRegs_of_kept {keep : Nat → Word} {a : Nat} (hk : keep a = 0xFFFFFFFF)
    (hs : mapGet s.regs a ≠ some (resetOf a)) : (s.resetRegs keep).rd a = s.rd a := by
  have hget (m : List (Nat × Word)) (hm : mapGet m a ≠ some (resetOf a)) :
      mapGet (m.filterMap (resetEntry keep)) a = mapGet m a := by
    induction m with
    | nil => rfl
    | cons e m ih =>
      obtain ⟨k, v⟩ := e
      by_cases h : k = a
      · subst h
        simp only [mapGet, if_true, ne_eq, Option.some.injEq] at hm
        rw [List.filterMap_cons, resetEntry_of_kept hk hm]
        simp only [mapGet, if_true]
      · rw [mapGet_filterMap_resetEntry_ne v m h]
        simp only [mapGet, if_neg h] at hm ⊢
        exact ih hm
  rw [resetRegs_eq, State.rd, hget _ hs]
  rfl

theorem mapGet_regs_ne_of_rd_ne {a : Nat} (h : s.rd a ≠ resetOf a) : mapGet s.regs a ≠ some (resetOf a) := by
  intro hget
  exact h (by rw [State.rd, hget]; rfl)

/-- A register that has been written is not listed with its reset value. -/
theorem mapGet_regs_wr_ne (s : State) (a : Nat) (v : Word) : mapGet (s.wr a v).regs a ≠ some (resetOf a) := by
  unfold State.wr mapPut
  split
  · rw [mapGet_mapErase_same]
    simp
  · next hv =>
    rw [mapGet_mapIns_same _ _ _ (mapGet_mapErase_same _ _)]
    simpa using hv

/-- The registers that the reset of the front die clears. -/
def frontKeep (a : Nat) : Word := if isFrontReg a then 0 else 0xFFFFFFFF

theorem rd_frontReset_of_ne {a : Nat} (h : a ≠ Reg.CAL_STATUS) : s.frontReset.rd a = (s.resetRegs frontKeep).rd a :=
  (rd_congr rfl a).trans (rd_setB_ne (s.resetRegs frontKeep) _ _ h)

theorem fsm_frontReset (s : State) : s.frontReset.fsm = 0 := by
  have hrd : s.frontReset.rd Reg.RADIO_FSM = resetOf Reg.RADIO_FSM :=
    (rd_frontReset_of_ne (by decide)).trans (rd_resetRegs_of_cleared s (by decide))
  rw [State.fsm, State.rdF, hrd]
  decide

theorem spineState_frontReset (h : mapGet s.regs Reg.SPINE_F_STAT ≠ some (resetOf Reg.SPINE_F_STAT)) :
    s.frontReset.spineState .front = s.spineState .front :=
  rdF_congr ((rd_frontReset_of_ne (by decide)).trans (rd_resetRegs_of_kept (by decide) h)) _ _

theorem rd_endSpine_front_ne {a : Nat} (h : a ≠ Reg.SPINE_F_ERR) : (s.endSpine .front).rd a = s.rd a := by
  unfold State.endSpine
  dsimp only
  split <;> exact (rd_congr rfl a).trans (rd_satAdd_ne s _ _ _ h)

/-- Spine-F goes down with the die's power unless it is STUCK (R669). -/
theorem spineState_frontOff (s : State) :
    s.frontOff.spineState .front = if s.spineState .front = 4 then 4 else 0 := by
  have hend : (s.endSpine .front).spineState .front = s.spineState .front :=
    rdF_congr (rd_endSpine_front_ne (by decide)) _ _
  have hoff : s.frontOff.spineState .front = ((s.endSpine .front).spineDown .front).frontReset.spineState .front :=
    rdF_congr (rd_congr rfl _) _ _
  rw [hoff, State.spineDown, hend]
  by_cases h : s.spineState .front = 4
  · have hne : (s.endSpine .front).rd Reg.SPINE_F_STAT ≠ resetOf Reg.SPINE_F_STAT := by
      intro hrd
      rw [h, State.spineState, State.rdF, spineStat, hrd] at hend
      exact absurd hend (by decide)
    simp only [h, beq_self_eq_true, if_true]
    rw [spineState_frontReset (mapGet_regs_ne_of_rd_ne hne), hend, h]
  · have hget : mapGet ((s.endSpine .front).setSpine .front 0).regs Reg.SPINE_F_STAT ≠
        some (resetOf Reg.SPINE_F_STAT) := by
      unfold State.setSpine State.setB State.wrF
      rw [State.wr, mapGet_mapPut_ne _ _ _ (by decide)]
      exact mapGet_regs_wr_ne _ _ _
    simp only [h, beq_iff_eq, if_false]
    rw [spineState_frontReset hget, spineState_setSpine]

theorem fsm_frontOff (s : State) : s.frontOff.fsm = 0 :=
  (rdF_congr (rd_congr rfl _) _ _).trans (fsm_frontReset ((s.endSpine .front).spineDown .front))

theorem front_frontOff (s : State) :
    s.frontOff.front = { strobes := s.front.strobes, held := s.front.held } := rfl

theorem fsm_turnOff (s : State) : s.turnOff.fsm = 0 :=
  (rdF_congr ((rd_event_ne _ (by decide) (by decide) (by decide)).trans (rd_setB_ne _ _ _ (by decide))) _ _).trans
    (fsm_frontOff s)

theorem spineState_turnOff (s : State) :
    s.turnOff.spineState .front = if s.spineState .front = 4 then 4 else 0 :=
  (rdF_congr ((rd_event_ne _ (by decide) (by decide) (by decide)).trans (rd_setB_ne _ _ _ (by decide))) _ _).trans
    (spineState_frontOff s)

theorem front_turnOff (s : State) : s.turnOff.front = { strobes := s.front.strobes, held := s.front.held } := by
  rw [State.turnOff, event_front, setB_front, front_frontOff]

theorem pending1_turnOff (s : State) : s.turnOff.pending1 96 = true := bit_event_pend _ 96 (by decide)

theorem fault_frontOff (s : State) : s.frontOff.fault = s.fault := by
  have hend : (s.endSpine .front).fault = s.fault := by
    unfold State.endSpine
    dsimp only
    split <;> rfl
  have hdown : ((s.endSpine .front).spineDown .front).fault = (s.endSpine .front).fault := by
    unfold State.spineDown
    split <;> rfl
  exact hdown.trans hend

end

end Sys2Proof.Machine
end

section
/-! PROOF. What the front die measures (08): overloads, ranging captures, return losses, the tuner's gaps and retunes, and
the loss of lock (R220, R222, R226 to R230, R531). -/

namespace Sys2Proof.Machine

/-! ### Overload (R220) and loss of lock (R531) -/

section

variable {s : State}

/-- An overload is reported and counted. -/
def State.overloaded (s : State) : State := ((s.setB Reg.RADIO_STATUS 0 true).satAdd Reg.RADIO_COUNT 22 5).event 107

/-- Under AUTO the LNA goes down a step. -/
def State.stepLna (s : State) : State :=
  if s.bit Reg.RADIO_LNA 2 then s.wrF Reg.RADIO_LNA 0 2 (s.rdF Reg.RADIO_LNA 0 2 - 1) else s

theorem stepLna_of_auto (h : s.bit Reg.RADIO_LNA 2 = true) :
    s.stepLna = s.wrF Reg.RADIO_LNA 0 2 (s.rdF Reg.RADIO_LNA 0 2 - 1) := if_pos h

theorem stepLna_of_fixed (h : s.bit Reg.RADIO_LNA 2 = false) : s.stepLna = s := by
  simp [State.stepLna, h]

theorem exec_samplerOverload_of_receiving (h : s.fsm = 3 ∨ s.fsm = 7) :
    exec .samplerOverload s = .next s.overloaded.stepLna := by
  have hr : (decide (s.fsm = 3) || decide (s.fsm = 7)) = true := by simpa using h
  cases hauto : s.overloaded.bit Reg.RADIO_LNA 2 with
  | true =>
    rw [stepLna_of_auto hauto]
    rw [State.overloaded] at hauto
    simp only [exec_samplerOverload, execSamplerOverload, hr, hauto, if_true, State.overloaded]
  | false =>
    rw [stepLna_of_fixed hauto]
    rw [State.overloaded] at hauto
    simp only [exec_samplerOverload, execSamplerOverload, hr, hauto, if_true, Bool.false_eq_true, if_false,
      State.overloaded]

theorem rd_stepLna_ne {a : Nat} (h : a ≠ Reg.RADIO_LNA) : s.stepLna.rd a = s.rd a := by
  unfold State.stepLna
  split
  · exact rd_wrF_ne _ _ _ _ h
  · rfl

theorem lna_stepLna (s : State) : s.stepLna.rdF Reg.RADIO_LNA 0 2 =
    if s.bit Reg.RADIO_LNA 2 = true then s.rdF Reg.RADIO_LNA 0 2 - 1 else s.rdF Reg.RADIO_LNA 0 2 := by
  unfold State.stepLna
  split
  · have hlt : s.rdF Reg.RADIO_LNA 0 2 < 2 ^ 2 := Nat.mod_lt _ (by decide)
    rw [rdF_wrF_same _ _ (by decide)]
    omega
  · rfl

theorem rd_overloaded_lna (s : State) : s.overloaded.rd Reg.RADIO_LNA = s.rd Reg.RADIO_LNA := by
  rw [State.overloaded, rd_event_ne _ (by decide) (by decide) (by decide), rd_satAdd_ne _ _ _ _ (by decide),
    rd_setB_ne _ _ _ (by decide)]

theorem bit_overloaded_status (s : State) : s.overloaded.bit Reg.RADIO_STATUS 0 = true := by
  rw [State.overloaded, bit_congr (rd_event_ne _ (by decide) (by decide) (by decide)),
    bit_congr (rd_satAdd_ne _ _ _ _ (by decide)), bit_setB_same _ _ (by decide)]

theorem count_overloaded (s : State) :
    s.overloaded.rdF Reg.RADIO_COUNT 22 5 = min (s.rdF Reg.RADIO_COUNT 22 5 + 1) 31 := by
  rw [State.overloaded, rdF_congr (rd_event_ne _ (by decide) (by decide) (by decide)), rdF_satAdd_same _ (by decide),
    rdF_congr (rd_setB_ne _ _ _ (by decide))]
  rfl

theorem pending1_overloaded (s : State) : s.overloaded.pending1 107 = true := bit_event_pend _ 107 (by decide)

theorem onlyEvents_overload (s : State) :
    OnlyEvents ([Reg.RADIO_STATUS, Reg.RADIO_COUNT, Reg.RADIO_LNA] ++ eventRegs 107) s s.overloaded.stepLna := by
  have hover : OnlyEvents ([Reg.RADIO_STATUS, Reg.RADIO_COUNT, Reg.RADIO_LNA] ++ eventRegs 107) s s.overloaded :=
    (((OnlyEvents.refl _ s).setB (by simp)).satAdd (by simp)).event (by simp [eventRegs]) (by simp [eventRegs])
  unfold State.stepLna
  split
  · exact hover.wrF (by simp)
  · exact hover

theorem exec_frontPllUnlock_of_idle (hp : s.fsm ≠ 0) (hg : s.front.going = none) (hr : s.link.run = none) :
    exec .frontPllUnlock s = .next (s.frontOff.slip 96 0x0E 1 0) := by
  simp [execFrontPllUnlock, State.frontPowered, hp, hg, missRun_of_none hr]

end

/-! ### The ranging capture (R222) -/

section

variable {s : State}

theorem exec_rangingCaptureEnd_of_range {l : List Byte} (h : s.fsm = 7) (hl : l.length ≤ 65536) :
    exec (.rangingCaptureEnd l) s = .next ((s.putBytes 0x50010000 l).event 108) := by
  simp [execRangingCaptureEnd, h, List.take_of_length_le hl]

/-- Bytes stored from `a` upward read back. -/
theorem byteAt_putBytes_of_lt (l : List Byte) : ∀ (s : State) (a : Nat) {i : Nat}, i < l.length →
    (s.putBytes a l).byteAt (a + i) = l.getD i 0 := by
  induction l with
  | nil => exact fun _ _ _ h => absurd h (Nat.not_lt_zero _)
  | cons x l ih =>
    intro s a i h
    cases i with
    | zero => exact (byteAt_putBytes_ne l (s.putByte a x) (.inl (Nat.lt_succ_self a))).trans (byteAt_putByte_same s a x)
    | succ i =>
      rw [show a + (i + 1) = a + 1 + i by omega]
      exact ih (s.putByte a x) (a + 1) (Nat.lt_of_succ_lt_succ h)

theorem byteAt_event (s : State) (n a : Nat) : (s.event n).byteAt a = s.byteAt a := by
  obtain ⟨-, -, hmem, -⟩ := (OnlyEvents.refl (eventRegs n) s).event (n := n) (by simp [eventRegs])
    (by simp [eventRegs])
  exact hmem a

theorem sameRegs_captured (l : List Byte) :
    SameRegs (Reg.PWR_COUNT :: eventRegs 108) s ((s.putBytes 0x50010000 l).event 108) := by
  obtain ⟨hregs, -⟩ := (OnlyEvents.refl (eventRegs 108) (s.putBytes 0x50010000 l)).event (n := 108)
    (by simp [eventRegs]) (by simp [eventRegs])
  exact fun a ha => (hregs a ha).trans (rd_congr (putBytes_regs s _ l) a)

end

/-! ### Return losses (R226, R230, R288, R311) -/

section

variable {s : State} {p : Bool} {rl : Nat}

/-- The return losses of the shadow, that of a port replaced. -/
def CalSt.withLoss (c : CalSt) (p : Bool) (rl : Nat) : CalSt :=
  { c with losses := mapIns (mapErase c.losses (b2n p)) (b2n p) rl }

theorem mapGet_withLoss (c : CalSt) (p : Bool) (rl : Nat) : mapGet (c.withLoss p rl).losses (b2n p) = some rl :=
  mapGet_mapIns_same _ _ _ (mapGet_mapErase_same _ _)

theorem noteLoss_eq (s : State) (p : Bool) (rl : Nat) : s.noteLoss p rl =
    (({ s with cal := s.cal.withLoss p rl } : State).wrF (tunerReg p) 16 8 rl).event 120 := rfl

theorem cal_noteLoss (s : State) (p : Bool) (rl : Nat) : (s.noteLoss p rl).cal = s.cal.withLoss p rl :=
  event_cal _ 120

/-- The tuners' registers are no event source's. -/
theorem rd_event_tunerReg (s : State) (p : Bool) {n : Nat} (hn : n < 256) :
    (s.event n).rd (tunerReg p) = s.rd (tunerReg p) := by
  have hle := le_tunerReg p
  apply rd_event_ne <;> simp only [Reg.INTC_PEND, Reg.INTC_OVR, Reg.PWR_COUNT] <;> omega

theorem rd_noteLoss_tuner (s : State) (p : Bool) (rl : Nat) :
    (s.noteLoss p rl).rd (tunerReg p) = setFld (s.rd (tunerReg p)) 16 8 rl := by
  rw [noteLoss_eq, rd_event_tunerReg _ _ (by decide), rd_wrF_same]
  rfl

theorem loss_noteLoss (s : State) (p : Bool) (h : rl < 256) : (s.noteLoss p rl).rdF (tunerReg p) 16 8 = rl := by
  rw [State.rdF, rd_noteLoss_tuner, fld_setFld_same _ _ (by decide)]
  exact Nat.mod_eq_of_lt h

theorem pending1_noteLoss (s : State) (p : Bool) (rl : Nat) : (s.noteLoss p rl).pending1 120 = true :=
  bit_event_pend _ 120 (by decide)

theorem onlyEvents_noteLoss (s : State) (p : Bool) (rl : Nat) :
    OnlyEvents ([tunerReg p] ++ eventRegs 120) { s with cal := s.cal.withLoss p rl } (s.noteLoss p rl) := by
  rw [noteLoss_eq]
  exact ((OnlyEvents.refl _ _).wrF (by simp)).event (by simp [eventRegs]) (by simp [eventRegs])

theorem thresh_noteLoss (s : State) (p : Bool) (rl : Nat) :
    (s.noteLoss p rl).rdF Reg.TUNER_THRESH 0 6 = s.rdF Reg.TUNER_THRESH 0 6 := by
  obtain ⟨hregs, -⟩ := onlyEvents_noteLoss s p rl
  exact rdF_congr (hregs _ (by cases p <;> decide)) _ _

theorem exec_returnLossLow_of_sending (x : Fin 256) (h : s.fsm = 4 ∨ s.fsm = 5) :
    exec (.returnLossLow p x) s = .next (s.measuredLoss p x s.slotNow) := by
  simp [execReturnLossLow, h]

theorem measuredLoss_of_enough (slot : Nat) (h : s.rdF Reg.TUNER_THRESH 0 6 ≤ rl) :
    s.measuredLoss p rl slot = s.noteLoss p rl := by
  rw [← thresh_noteLoss s p rl] at h
  exact if_pos h

/-- A low return loss raises event 105, and the tuner asks for a gap unless a failed retune holds it off. -/
def State.lossLow (s : State) (p : Bool) (slot : Nat) : State :=
  { s.event 105 with link := { s.link with tuneReq := if slot < s.link.tuneSlot then s.link.tuneReq else some p } }

theorem measuredLoss_of_low (slot : Nat) (h : rl < s.rdF Reg.TUNER_THRESH 0 6) :
    s.measuredLoss p rl slot = (s.noteLoss p rl).lossLow p slot := by
  rw [← thresh_noteLoss s p rl] at h
  simp only [State.measuredLoss, if_neg (Nat.not_le.2 h), State.lossLow, event_link]
  split
  · rw [← event_link (s.noteLoss p rl) 105]
  · rfl

theorem rd_lossLow (slot a : Nat) : (s.lossLow p slot).rd a = (s.event 105).rd a := rd_congr rfl a

theorem loss_lossLow (s : State) (p : Bool) (slot : Nat) (h : rl < 256) :
    ((s.noteLoss p rl).lossLow p slot).rdF (tunerReg p) 16 8 = rl := by
  rw [rdF_congr (rd_lossLow _ _), rdF_congr (rd_event_tunerReg _ _ (by decide)), loss_noteLoss s p h]

theorem pending1_lossLow (s : State) (p : Bool) (slot : Nat) :
    ((s.noteLoss p rl).lossLow p slot).pending1 120 = true ∧ ((s.noteLoss p rl).lossLow p slot).pending1 105 = true :=
  ⟨(bit_congr (rd_lossLow _ _) _).trans (pending1_event_of_pending1 105 (by decide) (pending1_noteLoss s p rl)),
    (bit_congr (rd_lossLow _ _) _).trans (bit_event_pend _ 105 (by decide))⟩

theorem cal_lossLow (s : State) (p : Bool) (slot : Nat) :
    ((s.noteLoss p rl).lossLow p slot).cal = s.cal.withLoss p rl :=
  (event_cal _ 105).trans (cal_noteLoss s p rl)

theorem link_lossLow (s : State) (p : Bool) (slot : Nat) : ((s.noteLoss p rl).lossLow p slot).link =
    { s.link with tuneReq := if slot < s.link.tuneSlot then s.link.tuneReq else some p } := by
  have hlink : (s.noteLoss p rl).link = s.link := event_link _ 120
  unfold State.lossLow
  rw [hlink]

theorem onlyEvents_lossLow (s : State) (p : Bool) (slot : Nat) :
    OnlyEvents ([tunerReg p] ++ eventRegs 120 ++ eventRegs 105)
      { s with cal := s.cal.withLoss p rl, link := ((s.noteLoss p rl).lossLow p slot).link }
      ((s.noteLoss p rl).lossLow p slot) :=
  (((onlyEvents_noteLoss s p rl).mono (by simp)).event (by simp [eventRegs]) (by simp [eventRegs])).withLink _

end

/-! ### A gap for the tuner (R226, R229, R330, R332, R354) -/

section

variable {s : State} {p : Bool} {b : Nat} {power : Int}

/-- A retune is asked for, nothing shuts it out, and its frequency lies in a band. -/
structure GapFound (s : State) (p : Bool) (b : Nat) : Prop where
  asked : s.link.tuneReq = some p
  free : s.radioFree = true
  noBlackout : s.bit Reg.CAL_STATUS 0 = false
  noRendezvous : s.relDue 0 = false ∧ s.relDue 1 = false
  endless : s.gapNow = none
  band : s.bandOfKhz (s.rdF Reg.RADIO_TX_FREQ 0 22) = some b

/-- The retune has its gap, and its strobe is sent. -/
def State.grantTune (s : State) (p : Bool) : State :=
  { s with
    link := { s.link with tuneReq := none }
    front := { s.front with tuneGrant := some p, strobes := s.front.strobes ++ [⟨5, p, p⟩] } }

theorem exec_tuningGapGrant_of_short (h : GapFound s p b) (hb : s.budgetShort b 140 = true) :
    exec (.tuningGapGrant power) s = .next (s.budgetRefused b) := by
  obtain ⟨hasked, hfree, hblack, ⟨h0, h1⟩, hgap, hband⟩ := h
  simp [execTuningGapGrant, hasked, hfree, hblack, h0, h1, hgap, hband, hb]

theorem exec_tuningGapGrant_of_busy (h : GapFound s p b) (hb : s.budgetShort b 140 = false)
    (hl : s.listenBusy b power = true) :
    exec (.tuningGapGrant power) s = .next (s.satAdd (Reg.LINK_BAND_CNT b) 16 16) := by
  obtain ⟨hasked, hfree, hblack, ⟨h0, h1⟩, hgap, hband⟩ := h
  simp [execTuningGapGrant, hasked, hfree, hblack, h0, h1, hgap, hband, hb, hl]

theorem exec_tuningGapGrant_of_free (h : GapFound s p b) (hb : s.budgetShort b 140 = false)
    (hl : s.listenBusy b power = false) :
    exec (.tuningGapGrant power) s = .next ((s.charge b 140).grantTune p) := by
  obtain ⟨hasked, hfree, hblack, ⟨h0, h1⟩, hgap, hband⟩ := h
  simp [execTuningGapGrant, hasked, hfree, hblack, h0, h1, hgap, hband, hb, hl, State.grantTune]

@[simp] theorem front_setBuckets (s : State) (b : Nat) (l : List Nat) : (s.setBuckets b l).front = s.front := by
  rw [State.setBuckets, eventIf_front, wr_front]

theorem buckets_setBuckets (s : State) (b : Nat) (l : List Nat) : (s.setBuckets b l).buckets b = l := by
  rw [State.setBuckets, State.buckets, eventIf_link, wr_link]
  exact mapGet_mapPut_same _ _ _ _

theorem count_budgetRefused (s : State) (b : Nat) : (s.budgetRefused b).rdF (Reg.LINK_BAND_CNT b) 0 16 =
    min (s.rdF (Reg.LINK_BAND_CNT b) 0 16 + 1) 65535 := by
  have hrd : (s.budgetRefused b).rd (Reg.LINK_BAND_CNT b) =
      (s.satAdd (Reg.LINK_BAND_CNT b) 0 16).rd (Reg.LINK_BAND_CNT b) := by
    apply rd_event_ne <;> simp only [Reg.LINK_BAND_CNT, Reg.INTC_PEND, Reg.INTC_OVR, Reg.PWR_COUNT] <;> omega
  rw [rdF_congr hrd, rdF_satAdd_same _ (by decide)]
  rfl

theorem pending1_budgetRefused (s : State) (b : Nat) : (s.budgetRefused b).pending1 70 = true :=
  bit_event_pend _ 70 (by decide)

theorem onlyEvents_budgetRefused (s : State) (b : Nat) :
    OnlyEvents ([Reg.LINK_BAND_CNT b] ++ eventRegs 70) s (s.budgetRefused b) :=
  ((OnlyEvents.refl _ s).satAdd (by simp)).event (by simp [eventRegs]) (by simp [eventRegs])

end

/-! ### A retune (R227, R228, R230) -/

section

variable {s : State} {p : Bool}

theorem bestPair_mem {l : List (Nat × Nat × Nat)} (h : l ≠ []) : bestPair l ∈ l := by
  induction l with
  | nil => exact absurd rfl h
  | cons q t ih =>
    cases t with
    | nil => exact List.mem_cons_self
    | cons r u =>
      unfold bestPair
      dsimp only
      split
      · exact List.mem_cons_self
      · exact List.mem_cons_of_mem _ (ih (by simp))

theorem le_bestPair {l : List (Nat × Nat × Nat)} : ∀ q ∈ l, q.2.2 ≤ (bestPair l).2.2 := by
  induction l with
  | nil => simp
  | cons r t ih =>
    cases t with
    | nil => simp [bestPair]
    | cons u v =>
      intro q hq
      unfold bestPair
      dsimp only
      obtain rfl | hq := List.mem_cons.1 hq
      · split <;> omega
      · have := ih q hq
        split <;> omega

theorem tunerCodes_lt (s : State) (p : Bool) (khz : Nat) :
    (s.tunerCodes p khz).1 < 64 ∧ (s.tunerCodes p khz).2 < 64 := by
  unfold State.tunerCodes
  dsimp only
  split
  · exact ⟨by decide, by decide⟩
  · exact ⟨Nat.mod_lt _ (by decide), Nat.mod_lt _ (by decide)⟩

/-- The codes of a pair have 6 bits and its return loss 8. -/
theorem retunePairs_lt {first : Fin 256} {rest : List (Fin 64 × Fin 64 × Fin 256)} {q : Nat × Nat × Nat}
    (h : q ∈ s.retunePairs p first rest) : q.1 < 64 ∧ q.2.1 < 64 ∧ q.2.2 < 256 := by
  obtain ⟨hseries, hshunt⟩ := tunerCodes_lt s p (s.rdF Reg.RADIO_TX_FREQ 0 22)
  simp only [State.retunePairs, List.mem_cons, List.mem_map] at h
  obtain rfl | ⟨x, -, rfl⟩ := h
  · exact ⟨hseries, hshunt, first.isLt⟩
  · exact ⟨x.1.isLt, x.2.1.isLt, x.2.2.isLt⟩

/-- The codes of a tuner and its return loss make the word of its register. -/
theorem setFld_word_loss {x rl : Nat} (hx : x < 65536) (hrl : rl < 256) :
    setFld (word x) 16 8 rl = word (x + rl * 65536) := by
  apply BitVec.eq_of_getLsbD_eq
  intro i hi
  rw [getLsbD_setFld _ _ _ _ _ hi, word, word, BitVec.getLsbD_ofNat, BitVec.getLsbD_ofNat, 
    show x + rl * 65536 = 2 ^ 16 * rl + x by omega, Nat.testBit_two_pow_mul_add rl (i := 16) hx]
  simp only [hi, decide_true, Bool.true_and]
  by_cases hlo : i < 16
  · simp [hlo, show ¬ 16 ≤ i by omega]
  · by_cases hhi : i < 24
    · simp [hlo, show 16 ≤ i by omega, hhi]
    · have hxi : x.testBit i = false :=
        Nat.testBit_lt_two_pow (hx.trans_le (Nat.pow_le_pow_right (n := 2) (by decide) (show 16 ≤ i by omega)))
      have hri : rl.testBit (i - 16) = false :=
        Nat.testBit_lt_two_pow (hrl.trans_le (Nat.pow_le_pow_right (n := 2) (by decide) (show 8 ≤ i - 16 by omega)))
      simp [hlo, hhi, hxi, hri]

/-- The search of a tuner is over. -/
def State.endTuning (s : State) : State := { s with front := { s.front with tuning := none } }

/-- A retune keeps a pair of codes, with its return loss. -/
def State.retuned (s : State) (p : Bool) (q : Nat × Nat × Nat) : State :=
  (((s.endTuning.wr (tunerReg p) (word (q.1 + q.2.1 * 256))).noteLoss p q.2.2).satAdd Reg.TUNER_COUNT 0 16).event 104

/-- A retune has failed: it is counted, and the next is asked for no sooner than a slot. -/
def State.retuneFailed (s : State) (slot : Nat) : State :=
  ({ s with link := { s.link with tuneSlot := slot } } : State).satAdd Reg.TUNER_COUNT 16 8

/-- The end of a retune that keeps a pair. -/
def State.retuneEnd (s : State) (p : Bool) (q : Nat × Nat × Nat) : State :=
  if q.2.2 < s.rdF Reg.TUNER_THRESH 0 6 then (s.retuned p q).retuneFailed (s.slotNow + 64) else s.retuned p q

theorem exec_retuneDone_of_tune {first : Fin 256} {rest : List (Fin 64 × Fin 64 × Fin 256)}
    (hp : s.front.tuning = some p) (hs : s.fsm = 5) :
    exec (.retuneDone first rest) s = .next (s.retuneEnd p (bestPair (s.retunePairs p first rest))) := by
  unfold State.retuneEnd
  split
  · next h =>
    simp only [exec_retuneDone, execRetuneDone, hp, hs, bne_self_eq_false, Bool.false_eq_true, if_false,
      if_pos h] <;> rfl
  · next h =>
    simp only [exec_retuneDone, execRetuneDone, hp, hs, bne_self_eq_false, Bool.false_eq_true, if_false,
      if_neg h] <;> rfl

section

variable {q : Nat × Nat × Nat}

theorem ne_tunerCount (p : Bool) : tunerReg p ≠ Reg.TUNER_COUNT := by cases p <;> decide

theorem rd_retuned_tuner (h1 : q.1 < 64) (h2 : q.2.1 < 64) (hrl : q.2.2 < 256) :
    (s.retuned p q).rd (tunerReg p) = word (q.1 + q.2.1 * 256 + q.2.2 * 65536) := by
  rw [State.retuned, rd_event_tunerReg _ _ (by decide), rd_satAdd_ne _ _ _ _ (ne_tunerCount p), rd_noteLoss_tuner,
    rd_wr_same, setFld_word_loss (by omega) hrl]

theorem rd_retuned_count_base : ((s.endTuning.wr (tunerReg p) (word (q.1 + q.2.1 * 256))).noteLoss p q.2.2).rd
    Reg.TUNER_COUNT = s.rd Reg.TUNER_COUNT := by
  obtain ⟨hregs, -⟩ := onlyEvents_noteLoss (s.endTuning.wr (tunerReg p) (word (q.1 + q.2.1 * 256))) p q.2.2
  rw [hregs _ (by cases p <;> decide)]
  exact (rd_wr_ne _ _ (ne_tunerCount p).symm).trans (rd_congr rfl _)

theorem count_retuned (s : State) (p : Bool) (q : Nat × Nat × Nat) :
    (s.retuned p q).rdF Reg.TUNER_COUNT 0 16 = min (s.rdF Reg.TUNER_COUNT 0 16 + 1) 65535 := by
  rw [State.retuned, rdF_congr (rd_event_ne _ (by decide) (by decide) (by decide)), rdF_satAdd_same _ (by decide),
    rdF_congr rd_retuned_count_base]
  rfl

theorem failures_retuned (s : State) (p : Bool) (q : Nat × Nat × Nat) :
    (s.retuned p q).rdF Reg.TUNER_COUNT 16 8 = s.rdF Reg.TUNER_COUNT 16 8 := by
  rw [State.retuned, rdF_congr (rd_event_ne _ (by decide) (by decide) (by decide)), State.satAdd,
    rdF_wrF_ne _ _ (by decide), rdF_congr rd_retuned_count_base]

theorem pending1_retuned (s : State) (p : Bool) (q : Nat × Nat × Nat) :
    (s.retuned p q).pending1 104 = true ∧ (s.retuned p q).pending1 120 = true := by
  refine ⟨bit_event_pend _ 104 (by decide), pending1_event_of_pending1 _ (by decide) ?_⟩
  exact (bit_congr (rd_satAdd_ne _ _ _ _ (by decide)) _).trans (pending1_noteLoss _ _ _)

theorem cal_retuned (s : State) (p : Bool) (q : Nat × Nat × Nat) : (s.retuned p q).cal = s.cal.withLoss p q.2.2 := by
  rw [State.retuned, event_cal, satAdd_cal, cal_noteLoss]
  rfl

theorem link_retuned (s : State) (p : Bool) (q : Nat × Nat × Nat) : (s.retuned p q).link = s.link := by
  rw [State.retuned, event_link, satAdd_link]
  exact event_link _ 120

theorem front_retuned (s : State) (p : Bool) (q : Nat × Nat × Nat) :
    (s.retuned p q).front = { s.front with tuning := none } := by
  rw [State.retuned, event_front, satAdd_front]
  exact event_front _ 120

theorem onlyEvents_retuned (s : State) (p : Bool) (q : Nat × Nat × Nat) :
    OnlyEvents ([tunerReg p, Reg.TUNER_COUNT] ++ eventRegs 120 ++ eventRegs 104)
      { s.endTuning with cal := s.cal.withLoss p q.2.2 } (s.retuned p q) :=
  have hnoted : OnlyEvents ([tunerReg p, Reg.TUNER_COUNT] ++ eventRegs 120 ++ eventRegs 104)
      { s.endTuning with cal := s.cal.withLoss p q.2.2 }
      ((s.endTuning.wr (tunerReg p) (word (q.1 + q.2.1 * 256))).noteLoss p q.2.2) :=
    (((OnlyEvents.refl _ { s.endTuning with cal := s.cal.withLoss p q.2.2 }).wr (by simp)).wrF (by simp)).event
      (n := 120) (by simp [eventRegs]) (by simp [eventRegs])
  (hnoted.satAdd (by simp)).event (by simp [eventRegs]) (by simp [eventRegs])

theorem rd_retuneEnd_ne {a : Nat} (h : a ≠ Reg.TUNER_COUNT) : (s.retuneEnd p q).rd a = (s.retuned p q).rd a := by
  unfold State.retuneEnd
  split
  · exact (rd_satAdd_ne _ _ _ _ h).trans (rd_congr rfl a)
  · rfl

theorem cal_retuneEnd (s : State) (p : Bool) (q : Nat × Nat × Nat) :
    (s.retuneEnd p q).cal = s.cal.withLoss p q.2.2 := by
  rw [← cal_retuned]
  unfold State.retuneEnd
  split <;> rfl

theorem front_retuneEnd (s : State) (p : Bool) (q : Nat × Nat × Nat) :
    (s.retuneEnd p q).front = { s.front with tuning := none } := by
  rw [← front_retuned s p q]
  unfold State.retuneEnd
  split <;> rfl

theorem link_retuneEnd (s : State) (p : Bool) (q : Nat × Nat × Nat) : (s.retuneEnd p q).link = { s.link with
    tuneSlot := if q.2.2 < s.rdF Reg.TUNER_THRESH 0 6 then s.slotNow + 64 else s.link.tuneSlot } := by
  unfold State.retuneEnd
  split
  · rw [← link_retuned s p q]
    rfl
  · exact link_retuned s p q

theorem count_retuneEnd (s : State) (p : Bool) (q : Nat × Nat × Nat) :
    (s.retuneEnd p q).rdF Reg.TUNER_COUNT 0 16 = min (s.rdF Reg.TUNER_COUNT 0 16 + 1) 65535 := by
  rw [← count_retuned s p q]
  unfold State.retuneEnd
  split
  · exact (rdF_wrF_ne _ _ (by decide)).trans (rdF_congr (rd_congr rfl _) _ _)
  · rfl

theorem failures_retuneEnd (s : State) (p : Bool) (q : Nat × Nat × Nat) :
    (s.retuneEnd p q).rdF Reg.TUNER_COUNT 16 8 = if q.2.2 < s.rdF Reg.TUNER_THRESH 0 6 then
      min (s.rdF Reg.TUNER_COUNT 16 8 + 1) 255 else s.rdF Reg.TUNER_COUNT 16 8 := by
  rw [← failures_retuned s p q]
  unfold State.retuneEnd
  split
  · exact rdF_satAdd_same _ (by decide)
  · rfl

theorem pending1_retuneEnd (s : State) (p : Bool) (q : Nat × Nat × Nat) :
    (s.retuneEnd p q).pending1 104 = true ∧ (s.retuneEnd p q).pending1 120 = true := by
  obtain ⟨hend, hloss⟩ := pending1_retuned s p q
  exact ⟨(bit_congr (rd_retuneEnd_ne (by decide)) _).trans hend,
    (bit_congr (rd_retuneEnd_ne (by decide)) _).trans hloss⟩

theorem onlyEvents_retuneEnd (s : State) (p : Bool) (q : Nat × Nat × Nat) :
    OnlyEvents ([tunerReg p, Reg.TUNER_COUNT] ++ eventRegs 120 ++ eventRegs 104)
      { s.endTuning with cal := s.cal.withLoss p q.2.2, link := (s.retuneEnd p q).link } (s.retuneEnd p q) := by
  unfold State.retuneEnd
  split
  · exact ((onlyEvents_retuned s p q).withLink _).satAdd (by simp)
  · exact (onlyEvents_retuned s p q).withLink (s.retuned p q).link

end

end

end Sys2Proof.Machine
end

section

open Sys2Proof Sys2Proof.Machine

/-- Settles O32: a commanded change is one equation of `startMove` along its path, a transition's end is a power-down,
a power-up or an arrival followed by what goes on, and every other command is a short chain of register updates and
events with its own frame; the best pair of a retune is one of those measured, with the greatest return loss. -/
theorem theFrontDieMovesAsCommanded : Obligations.TheFrontDieMovesAsCommanded := by
  unfold Obligations.TheFrontDieMovesAsCommanded
  refine ⟨?freqOwned, ?commandOwned, ?freqOutside, ?freqInside, ?paths, ?commandStarts, ?commandLeavesRx, ?commandHeld,
    ?strobeStarts, ?strobeTunes, ?strobeLost, ?strobeBad, ?strobeMissed, ?arrives, ?nextLeg, ?powersUp, ?stuck, ?off,
    ?heldStarts, ?overload, ?capture, ?lossNoted, ?lossLow, ?gapGranted, ?gapBusy, ?gapShort, ?retune, ?unlock⟩
  case freqOwned =>
    exact fun tx v s h => ⟨_, exec_radioFreqWrite_of_owned tx v h, rdF_satAdd_same s (by decide),
      (OnlyRegs.refl _ s).satAdd (by simp)⟩
  case commandOwned =>
    exact fun v s h => ⟨_, exec_radioFsmCmd_of_owned v h, rdF_satAdd_same s (by decide),
      (OnlyRegs.refl _ s).satAdd (by simp)⟩
  case freqOutside =>
    intro tx v s h hr
    have hout : inPathRange (fld v 0 22) = false := by rwa [← inPathRange_iff, Bool.not_eq_true] at hr
    exact ⟨_, exec_radioFreqWrite_of_outside tx h hout, rdF_satAdd_same s (by decide),
      (OnlyRegs.refl _ s).satAdd (by simp)⟩
  case freqInside => exact fun tx v s h hr => exec_radioFreqWrite_of_inside tx h (inPathRange_iff.2 hr)
  case paths => decide
  case commandStarts =>
    intro v n rest s ho hg hp hrx hn
    have hm := moveStarted_of_path (g := commandTarget v) hp
    have hfront := front_startMove_of_not_rx (g := commandTarget v) hp hrx hn
    refine ⟨_, exec_radioFsmCmd_of_idle v ho hg, hm.going, hm.legs, ?_, hm.tuning,
      hm.tone, hm.busy, hm.fsm, ?_⟩
    · rw [hfront]
    · have hframe := hm.only
      rw [hfront] at hframe ⊢
      exact hframe
  case commandLeavesRx =>
    intro v n rest s ho hg hp _
    have hm := moveStarted_of_path (g := commandTarget v) hp
    have hn : n < 8 := mem_frontPath_lt (commandTarget v).state.isLt (hp ▸ List.mem_cons_self)
    refine ⟨_, exec_radioFsmCmd_of_idle v ho hg, hm.going, hm.legs, hm.detection,
      ?_, hm.held, hm.strobes, hm.busy, hm.fsm, hm.only⟩
    simpa only [state_leg_eq_zero_iff hn] using hm.tx
  case commandHeld =>
    exact fun v s ho hg => ⟨_, exec_radioFsmCmd_of_going v ho hg, rfl, rfl, count_heldMove s (commandTarget v),
      onlyRegs_heldMove s (commandTarget v)⟩
  case strobeStarts =>
    intro g n legs rest s hs hsp hg hlow hp
    have hm := moveStarted_of_path (s := s.withStrobes rest) (by rwa [fsm_withStrobes])
    exact ⟨_, exec_strobeReceived_of_untuned hs hsp hg hlow, hm.going, hm.legs, hm.strobes, hm.busy,
      hm.fsm.trans (fsm_withStrobes rest), hm.only⟩
  case strobeTunes =>
    intro g n legs rest o s hs hsp hg hhigh ho hp
    have hm := moveStarted_of_path (s := (s.withStrobes rest).tuneTo (s.chanKhz o.chan))
      (by rwa [fsm_tuneTo, fsm_withStrobes])
    obtain ⟨hregs, -⟩ := hm.only
    refine ⟨_, exec_strobeReceived_of_tuned hs hsp hg hhigh ho, hm.going, hm.legs, ?_, ?_, ?_,
      onlyRegs_startMove_tuneTo hm⟩
    · rw [hm.strobes, front_tuneTo]
      rfl
    · exact (hregs _ (by decide)).trans ((rd_congr rfl _).trans (rd_tuneTo_rx _))
    · exact (hregs _ (by decide)).trans ((rd_congr rfl _).trans (rd_tuneTo_tx _))
  case strobeLost => exact fun g rest s hs hsp b => exec_strobeReceived_of_reset b hs hsp
  case strobeBad =>
    intro g rest s hs hsp hr hg
    have hrun : (s.withStrobes rest).strobeError.link.run = none := by rwa [link_strobeError]
    refine ⟨(s.withStrobes rest).strobeError, ?_, ?_, ?_, ?_, bit_strobeError, ?_, pending1_strobeError,
      onlyEvents_strobeError _⟩
    · rw [exec_strobeReceived_of_bad hs hsp, dropGrant_of_ne hg, missRun_of_none hrun]
    · rw [front_strobeError]
      rfl
    · rw [front_strobeError]
      rfl
    · rw [fsm_strobeError, fsm_withStrobes]
    · rw [count_strobeError, rdF_withStrobes]
  case strobeMissed =>
    intro g rest o s hs hsp hr ho
    have hrun : ((s.withStrobes rest).dropGrant g).strobeError.link.run = some o := by
      rw [link_strobeError, link_dropGrant]
      exact hr
    have hrd : ((s.withStrobes rest).dropGrant g).strobeError.rd Reg.LINK_COUNT_TX = s.rd Reg.LINK_COUNT_TX := by
      obtain ⟨hregs, -⟩ := onlyEvents_strobeError ((s.withStrobes rest).dropGrant g)
      rw [hregs _ (by decide), rd_dropGrant, rd_withStrobes]
    refine ⟨_, (exec_strobeReceived_of_bad hs hsp).trans (by rw [missRun_of_sequence hrun ho]), run_missed _, ?_,
      pending1_missed _, pending1_missed_of_pending1 pending1_strobeError, ?_⟩
    · rw [count_missed, rdF_congr hrd]
    · rw [fsm_missed, fsm_strobeError]
      exact rdF_congr ((rd_dropGrant _).trans (rd_withStrobes _ _)) _ _
  case arrives =>
    intro g s hg hh hl hs h0
    have hrest := goOn_arrive_of_rest (s := s.endGoing) (g := g) s.front.lnaStep hl hh
    obtain ⟨hlanes, hpath, hbusy⟩ := bits_arrive (s := s.endGoing) (g := g) s.front.lnaStep
    refine ⟨_, (exec_frontTransitionEnd_of_powered hg h0 hs).trans (by rw [hrest]), fsm_arrive _, hlanes, hpath, hbusy,
      lna_arrive_of_rx _, rd_arrive_lna_of_not_rx _, pending1_arrive _, fun h5 => ?_, ?_, ?_⟩
    · rw [front_arrive, State.arrivedFront, if_pos (Fin.ext h5)]
      rfl
    · rw [synth_arrive, synthLocked_eq]
    · have hframe := onlyEvents_arrive s.endGoing g s.front.lnaStep
      rw [arrivedFront_endGoing, ← front_arrive s.endGoing g s.front.lnaStep] at hframe
      exact hframe
  case nextLeg =>
    intro g h rest s hg hl hs h0
    have hgo := goOn_arrive_of_legs (s := s.endGoing) (g := g) s.front.lnaStep hl
    refine ⟨_, exec_frontTransitionEnd_of_powered hg h0 hs, ?_, ?_, ?_, ?_, ?_,
      (pending1_goOn (by decide)).trans (pending1_arrive _)⟩
    · rw [hgo, front_startLeg, legFront_going]
    · rw [hgo, front_startLeg, legFront_legs]
      rfl
    · rw [hgo, front_startLeg, legFront_held]
      exact (congrArg FrontSt.held (front_arrive _ _ _)).trans arrivedFront_held
    · rw [hgo, fsm_startLeg, fsm_withLegs, fsm_arrive]
    · rw [hgo, busy_startLeg]
  case powersUp =>
    intro g s hg hh hl hs h0 hsp hr
    have hfront : s.endGoing.powerUp.front = { s.front with going := none } := front_powerUp _
    have hrest := goOn_arrive_of_rest (s := s.endGoing.powerUp) (g := g) s.front.lnaStep (by rw [hfront]; exact hl)
      (by rw [hfront]; exact hh)
    have hsp' : s.endGoing.spineState .front ≠ 4 := hsp
    refine ⟨s.endGoing.powerUp.arrive g s.front.lnaStep, ?_, fsm_arrive _, ?_, pending1_arrive _, ?_, fun p => ?_⟩
    · rw [exec_frontTransitionEnd_of_powerUp hg h0 hs, hrest]
    · rw [spineState_arrive, spineState_powerUp, if_neg hsp']
    · rw [front_arrive, arrivedFront_going, hfront]
    · exact (rd_arrive_tuner _ p).trans ((rd_powerUp_tuner hsp' hr p).trans (tunerWord_congr rfl p))
  case stuck =>
    intro g s hg hstuck
    have hstuck' : s.endGoing.spineState .front = 4 := hstuck
    by_cases h0 : g.state = 0
    · refine ⟨_, exec_frontTransitionEnd_of_off hg h0, ?_⟩
      rw [spineState_goOn, spineState_turnOff, if_pos hstuck']
    · by_cases hs : s.fsm = 0
      · refine ⟨_, exec_frontTransitionEnd_of_powerUp hg h0 hs, ?_⟩
        rw [spineState_goOn, spineState_arrive, spineState_powerUp, if_pos hstuck']
      · refine ⟨_, exec_frontTransitionEnd_of_powered hg h0 hs, ?_⟩
        rw [spineState_goOn, spineState_arrive, hstuck']
  case off =>
    intro g s hg hh h0 hsp
    have hfront : s.endGoing.turnOff.front = { strobes := s.front.strobes } :=
      (front_turnOff s.endGoing).trans (congrArg (fun x => ({ strobes := s.front.strobes, held := x } : FrontSt)) hh)
    have hrest : s.endGoing.turnOff.goOn = s.endGoing.turnOff :=
      goOn_of_rest (by rw [hfront]) (by rw [hfront])
    refine ⟨s.endGoing.turnOff, ?_, fsm_turnOff _, ?_, ?_, ?_, ?_, pending1_turnOff _⟩
    · rw [exec_frontTransitionEnd_of_off hg h0, hrest]
    · exact (spineState_turnOff _).trans (if_neg hsp)
    all_goals rw [hfront]
  case heldStarts =>
    intro g h n legs s hg hh hl hs h0 hp
    have hgo := goOn_arrive_of_held (s := s.endGoing) (g := g) s.front.lnaStep hl hh
    have hfsm : (s.endGoing.arrive g s.front.lnaStep).dropHeld.fsm = g.state := by
      rw [fsm_dropHeld, fsm_arrive]
    have hm := moveStarted_of_path (g := h) (hfsm ▸ hp)
    refine ⟨_, exec_frontTransitionEnd_of_powered hg h0 hs, ?_, ?_, ?_, ?_, ?_,
      (pending1_goOn (by decide)).trans (pending1_arrive _)⟩
    · rw [hgo, hm.going]
      rfl
    · rw [hgo, hm.legs]
      rfl
    · rw [hgo, hm.held]
      rfl
    · rw [hgo, hm.fsm, hfsm]
    · rw [hgo, hm.busy]
  case overload =>
    intro s h
    refine ⟨_, exec_samplerOverload_of_receiving h, ?_, ?_, ?_, ?_, onlyEvents_overload s⟩
    · rw [bit_congr (rd_stepLna_ne (by decide)), bit_overloaded_status]
    · rw [rdF_congr (rd_stepLna_ne (by decide)), count_overloaded]
    · exact (bit_congr (rd_stepLna_ne (by decide)) _).trans (pending1_overloaded s)
    · rw [lna_stepLna, bit_congr (rd_overloaded_lna s), rdF_congr (rd_overloaded_lna s)]
  case capture =>
    intro l s h hl
    refine ⟨_, exec_rangingCaptureEnd_of_range h hl, bit_event_pend _ 108 (by decide), fun i hi => ?_, fun a ha => ?_,
      sameRegs_captured l⟩
    · rw [byteAt_event, byteAt_putBytes_of_lt l s _ hi]
    · rw [byteAt_event, byteAt_putBytes_ne l s ha]
  case lossNoted =>
    intro p rl s h ht
    refine ⟨_, (exec_returnLossLow_of_sending rl h).trans (by rw [measuredLoss_of_enough _ ht]), loss_noteLoss s p rl.isLt,
      ?_, pending1_noteLoss s p rl, ?_⟩
    · rw [cal_noteLoss, mapGet_withLoss]
    · rw [cal_noteLoss]
      exact onlyEvents_noteLoss s p rl
  case lossLow =>
    intro p rl s h ht
    obtain ⟨hnoted, hlow⟩ := pending1_lossLow (rl := rl) s p s.slotNow
    refine ⟨(s.noteLoss p rl).lossLow p s.slotNow, ?_, loss_lossLow s p _ rl.isLt, ?_, hnoted, hlow, ?_, ?_⟩
    · rw [exec_returnLossLow_of_sending rl h, measuredLoss_of_low _ ht]
    · rw [cal_lossLow, mapGet_withLoss]
    · rw [link_lossLow]
    · have hframe := onlyEvents_lossLow (rl := rl) s p s.slotNow
      rw [link_lossLow] at hframe ⊢
      rw [cal_lossLow]
      exact hframe
  case gapGranted =>
    intro p b power s ha hf hb h0 h1 hg hband hshort hl
    refine ⟨_, exec_tuningGapGrant_of_free ⟨ha, hf, hb, ⟨h0, h1⟩, hg, hband⟩ hshort hl, rfl, rfl, ?_, ?_⟩
    · exact congrArg (fun x : FrontSt => x.strobes ++ [⟨5, p, p⟩]) (front_setBuckets s b _)
    · exact buckets_setBuckets s b _
  case gapBusy =>
    exact fun p b power s ha hf hb h0 h1 hg hband hshort hl =>
      ⟨_, exec_tuningGapGrant_of_busy ⟨ha, hf, hb, ⟨h0, h1⟩, hg, hband⟩ hshort hl, rdF_satAdd_same s (by decide),
        (OnlyRegs.refl _ s).satAdd (by simp)⟩
  case gapShort =>
    exact fun p b power s ha hf hb h0 h1 hg hband hshort =>
      ⟨_, exec_tuningGapGrant_of_short ⟨ha, hf, hb, ⟨h0, h1⟩, hg, hband⟩ hshort, count_budgetRefused s b,
        pending1_budgetRefused s b, onlyEvents_budgetRefused s b⟩
  case retune =>
    intro p a b rl first rest s hp hs hmem hmax
    have hq := bestPair_mem (l := s.retunePairs p first rest) (by simp [State.retunePairs])
    have hrl : (bestPair (s.retunePairs p first rest)).2.2 = rl := le_antisymm (hmax _ hq) (le_bestPair _ hmem)
    obtain ⟨hseries, hshunt, hloss⟩ := retunePairs_lt hq
    generalize hpair : bestPair (s.retunePairs p first rest) = q at hq hrl hseries hshunt hloss
    have hword := (rd_retuneEnd_ne (ne_tunerCount p)).trans (rd_retuned_tuner (s := s) (p := p) hseries hshunt hloss)
    obtain ⟨hend, hnoted⟩ := pending1_retuneEnd s p q
    subst hrl
    refine ⟨s.retuneEnd p q, ?_, ?_, ⟨q, hq, rfl, hword⟩, ?_, hend, hnoted, ?_, count_retuneEnd s p q,
      failures_retuneEnd s p q, ?_, ?_⟩
    · rw [exec_retuneDone_of_tune hp hs, hpair]
    · rw [State.rdF, hword, fld_word (by decide)]
      omega
    · rw [cal_retuneEnd, mapGet_withLoss]
    · rw [front_retuneEnd]
    · rw [link_retuneEnd]
    · have hframe := onlyEvents_retuneEnd s p q
      rw [link_retuneEnd] at hframe ⊢
      rw [cal_retuneEnd]
      exact hframe
  case unlock =>
    intro s hp hg hr hs
    refine ⟨_, exec_frontPllUnlock_of_idle hp hg hr, ?_, ?_, ?_⟩
    · exact (rdF_slip _ _ _ _ _ _ _ _).trans (fsm_frontOff s)
    · exact (rdF_slip _ _ _ _ _ _ _ _).trans ((spineState_frontOff s).trans (if_neg hs))
    · exact congrArg (fun x : FaultSt => x.waiting ++ [slipWord 96 0x0E 1 0]) (fault_frontOff s)

end

section
/-! PROOF. The loading-table store (09): how its commands end, what WRITE, READ and REMOVE do to the store and to
LTS_DATA, and the derivation of a table (R263, R264, R284). -/

namespace Sys2Proof.Machine

/-! ### Updates made for a range of numbers -/

section

variable {s : State} {f : State → Nat → State}

theorem forRange_succ (n : Nat) : forRange (n + 1) s f = f (forRange n s f) n := by
  simp [forRange, List.range_succ]

/-- What each update of a range keeps, all of them keep. -/
theorem forRange_induct {P : State → Prop} {n : Nat} (h : P s) (hf : ∀ i < n, ∀ u, P u → P (f u i)) :
    P (forRange n s f) := by
  induction n with
  | zero => exact h
  | succ n ih =>
    rw [forRange_succ]
    exact hf n (Nat.lt_succ_self n) _ (ih fun i hi => hf i (Nat.lt_succ_of_lt hi))

/-- Registers of a range at different addresses read what was written to each. -/
theorem rd_forRange_wr {r : Nat → Nat} (hr : Function.Injective r) (v : Nat → Word) {n j : Nat} (hj : j < n) :
    (forRange n s (fun u i => u.wr (r i) (v i))).rd (r j) = v j := by
  induction n with
  | zero => omega
  | succ n ih =>
    rw [forRange_succ]
    by_cases h : j = n
    · rw [h, rd_wr_same]
    · rw [rd_wr_ne _ _ fun e => h (hr e), ih (by omega)]

end

/-! ### The outcome of a command (R284) -/

section

variable {s : State} {c : Nat}

theorem code_ltsCode (s : State) (h : c < 8) : (s.ltsCode c).rdF Reg.LTS_RESULT 0 3 = c := by
  rw [State.ltsCode, rdF_wrF_same _ _ (by decide)]
  exact Nat.mod_eq_of_lt h

theorem rdF_ltsCode {lo len : Nat} (h : 3 ≤ lo) :
    (s.ltsCode c).rdF Reg.LTS_RESULT lo len = s.rdF Reg.LTS_RESULT lo len :=
  rdF_wrF_ne s c (by omega)

theorem busy_ltsCode : (s.ltsCode c).bit Reg.LTS_RESULT 31 = s.bit Reg.LTS_RESULT 31 := bit_wrF_ne s (by decide)

theorem onlyRegs_ltsCode (s : State) (c : Nat) : OnlyRegs [Reg.LTS_RESULT] s (s.ltsCode c) :=
  (OnlyRegs.refl _ s).wrF (by simp)

end

/-! ### WRITE (R261 to R263) -/

section

variable {s : State} {x : LoadTable} {rate : Bool}

/-- A table is in the store under an id. -/
def State.ltsStore (s : State) (id : Nat) (x : LoadTable) : State :=
  { s with link := { s.link with lts := mapIns (mapErase s.link.lts id) id x } }

/-- A WRITE ends: BITS of its table and its code are shown. -/
def State.endLtsWrite (s : State) (x : LoadTable) (c : Nat) : State := (s.wrF Reg.LTS_RESULT 16 10 x.bits).ltsCode c

theorem bits_endLtsWrite (s : State) (x : LoadTable) (c : Nat) :
    (s.endLtsWrite x c).rdF Reg.LTS_RESULT 16 10 = x.bits % 1024 := by
  rw [State.endLtsWrite, rdF_ltsCode (by decide)]
  exact rdF_wrF_same _ _ (by decide)

theorem onlyRegs_endLtsWrite (s : State) (x : LoadTable) (c : Nat) :
    OnlyRegs [Reg.LTS_RESULT] s (s.endLtsWrite x c) :=
  ((OnlyRegs.refl _ s).wrF (by simp)).trans (onlyRegs_ltsCode _ c)

theorem mapGet_ltsStore_same (s : State) (id : Nat) (x : LoadTable) : mapGet (s.ltsStore id x).link.lts id = some x :=
  mapGet_mapIns_same _ _ _ (mapGet_mapErase_same _ _)

theorem mapGet_ltsStore_ne (s : State) {id j : Nat} (x : LoadTable) (h : j ≠ id) :
    mapGet (s.ltsStore id x).link.lts j = mapGet s.link.lts j :=
  (mapGet_mapIns_ne _ _ h).trans (mapGet_mapErase_ne _ h)

theorem ltsPut_zero (s : State) (x : LoadTable) : s.ltsPut 0 x = (3, s) := rfl

theorem ltsPut_of_bad {id : Nat} (h0 : id ≠ 0) (hx : x.ok = false) : s.ltsPut id x = (2, s) := by
  simp [State.ltsPut, h0, hx]

theorem ltsPut_of_full {id : Nat} (h0 : id ≠ 0) (hx : x.ok = true) (hn : mapGet s.link.lts id = none)
    (hf : s.ltsCapacity ≤ s.link.lts.length) : s.ltsPut id x = (1, s) := by
  simp [State.ltsPut, h0, hx, hn, hf]

theorem ltsPut_of_room {id : Nat} (h0 : id ≠ 0) (hx : x.ok = true)
    (hr : (mapGet s.link.lts id).isSome = true ∨ s.link.lts.length < s.ltsCapacity) :
    s.ltsPut id x = (0, s.ltsStore id x) := by
  have hroom : ¬ ((mapGet s.link.lts id).isNone && decide (s.ltsCapacity ≤ s.link.lts.length)) = true := by
    rw [Bool.and_eq_true, decide_eq_true_eq, Option.isNone_iff_eq_none]
    rintro ⟨hnone, hfull⟩
    obtain hheld | hfree := hr
    · simp [hnone] at hheld
    · omega
  rw [State.ltsPut, if_neg h0, if_neg (by simp [hx]), if_neg hroom, State.ltsStore]

/-- The table that LTS_DATA holds for a WRITE. -/
def State.ltsTable (s : State) (rate : Bool) : LoadTable := { rate := rate, data := s.ltsData }

theorem exec_ltsWrite_of_ltsPut {i : Fin 1024} {t : State} {c : Nat} (hd : s.link.derive_ = none)
    (hp : s.ltsPut i (s.ltsTable rate) = (c, t)) :
    exec (.ltsWrite rate i) s = .next (t.endLtsWrite (s.ltsTable rate) c) := by
  have hidle : s.link.derive_.isSome = false := by rw [hd]; rfl
  rw [State.ltsTable] at hp
  simp only [exec_ltsWrite, execLtsWrite, hidle, hp, Bool.false_eq_true, if_false]
  rfl

end

/-! ### READ and REMOVE -/

section

variable {s : State} {x : LoadTable} {i : Fin 1024}

theorem ltsData_injective : Function.Injective Reg.LTS_DATA := by
  intro i j h
  simp only [Reg.LTS_DATA] at h
  omega

theorem ltsData_ne_ltsResult (j : Nat) : Reg.LTS_DATA j ≠ Reg.LTS_RESULT := by
  simp only [Reg.LTS_DATA, Reg.LTS_RESULT]
  omega

/-- The registers that show a table. -/
def ltsShownRegs : List Nat := Reg.LTS_RESULT :: (List.range 9).map Reg.LTS_DATA

/-- A table is in LTS_DATA. -/
def State.ltsLoad (s : State) (x : LoadTable) : State :=
  forRange 9 s (fun u i => u.wr (Reg.LTS_DATA i) (word (x.data / 2 ^ (32 * i))))

theorem ltsShow_eq (s : State) (x : LoadTable) :
    s.ltsShow x = ((s.ltsLoad x).wrF Reg.LTS_RESULT 8 1 (b2n x.rate)).wrF Reg.LTS_RESULT 16 10 x.bits := rfl

theorem onlyRegs_ltsLoad (s : State) (x : LoadTable) : OnlyRegs ((List.range 9).map Reg.LTS_DATA) s (s.ltsLoad x) :=
  forRange_induct (OnlyRegs.refl _ s) fun _ hi _ h => h.wr (List.mem_map_of_mem (List.mem_range.2 hi))

theorem rd_ltsLoad_ltsResult (s : State) (x : LoadTable) : (s.ltsLoad x).rd Reg.LTS_RESULT = s.rd Reg.LTS_RESULT := by
  obtain ⟨hregs, -⟩ := onlyRegs_ltsLoad s x
  exact hregs _ (by decide)

/-- A table is shown, with a code. -/
def State.ltsShowCode (s : State) (x : LoadTable) (c : Nat) : State := (s.ltsShow x).ltsCode c

theorem onlyRegs_ltsShowCode (s : State) (x : LoadTable) (c : Nat) : OnlyRegs ltsShownRegs s (s.ltsShowCode x c) := by
  have hload : OnlyRegs ltsShownRegs s (s.ltsLoad x) := (onlyRegs_ltsLoad s x).mono (List.subset_cons_self _ _)
  exact ((hload.wrF (by simp [ltsShownRegs])).wrF (by simp [ltsShownRegs])).wrF (by simp [ltsShownRegs])

theorem rd_ltsShowCode_ltsData (s : State) (x : LoadTable) (c : Nat) {j : Nat} (hj : j < 9) :
    (s.ltsShowCode x c).rd (Reg.LTS_DATA j) = word (x.data / 2 ^ (32 * j)) := by
  have hne := ltsData_ne_ltsResult j
  rw [State.ltsShowCode, State.ltsCode, rd_wrF_ne _ _ _ _ hne, ltsShow_eq, rd_wrF_ne _ _ _ _ hne,
    rd_wrF_ne _ _ _ _ hne]
  exact rd_forRange_wr ltsData_injective _ hj

theorem rate_ltsShowCode (s : State) (x : LoadTable) (c : Nat) :
    (s.ltsShowCode x c).rdF Reg.LTS_RESULT 8 1 = b2n x.rate := by
  rw [State.ltsShowCode, rdF_ltsCode (by decide), ltsShow_eq, rdF_wrF_ne _ _ (by decide), rdF_wrF_same _ _ (by decide)]
  cases x.rate <;> rfl

theorem bits_ltsShowCode (s : State) (x : LoadTable) (c : Nat) :
    (s.ltsShowCode x c).rdF Reg.LTS_RESULT 16 10 = x.bits % 1024 := by
  rw [State.ltsShowCode, rdF_ltsCode (by decide), ltsShow_eq]
  exact rdF_wrF_same _ _ (by decide)

theorem busy_ltsShowCode (s : State) (x : LoadTable) (c : Nat) :
    (s.ltsShowCode x c).bit Reg.LTS_RESULT 31 = s.bit Reg.LTS_RESULT 31 := by
  rw [State.ltsShowCode, busy_ltsCode, ltsShow_eq, bit_wrF_ne _ (by decide), bit_wrF_ne _ (by decide),
    bit_congr (rd_ltsLoad_ltsResult s x)]

/-- A table is out of the store. -/
def State.ltsDrop (s : State) (id : Nat) : State :=
  { s with link := { s.link with lts := mapErase s.link.lts id } }

theorem exec_ltsRead_of_held (hd : s.link.derive_ = none) (hx : s.loadTable i = some x) :
    exec (.ltsRead i) s = .next (s.ltsShowCode x 0) := by
  simp [execLtsRead, hd, hx, State.ltsShowCode]

theorem exec_ltsRead_of_none (hd : s.link.derive_ = none) (hx : s.loadTable i = none) :
    exec (.ltsRead i) s = .next (s.ltsCode 4) := by
  simp [execLtsRead, hd, hx]

theorem exec_ltsRemove_zero (hd : s.link.derive_ = none) : exec (.ltsRemove 0) s = .next (s.ltsCode 3) := by
  simp [execLtsRemove, hd]

theorem exec_ltsRemove_of_held (hd : s.link.derive_ = none) (h0 : i.val ≠ 0) (hx : mapGet s.link.lts i = some x) :
    exec (.ltsRemove i) s = .next ((s.ltsDrop i).ltsCode 0) := by
  simp only [exec_ltsRemove, execLtsRemove, hd, hx, if_neg h0, Option.isSome_none, Bool.false_eq_true, if_false,
    State.ltsDrop]

theorem exec_ltsRemove_of_none (hd : s.link.derive_ = none) (h0 : i.val ≠ 0) (hx : mapGet s.link.lts i = none) :
    exec (.ltsRemove i) s = .next (s.ltsCode 4) := by
  simp only [exec_ltsRemove, execLtsRemove, hd, hx, if_neg h0, Option.isSome_none, Bool.false_eq_true, if_false]

end

/-! ### DERIVE (R264) and the refusal while one runs -/

section

variable {s : State} {rate : Bool}

/-- The four commands of the store start with the same test. -/
theorem exec_ltsCommand_of_busy {c : Instr} {i : Fin 1024} (hb : s.link.derive_.isSome = true)
    (hc : c ∈ [.ltsWrite rate i, .ltsRead i, .ltsRemove i, .ltsDerive rate]) : exec c s = .next (s.ltsCode 5) := by
  simp only [List.mem_cons, List.not_mem_nil, or_false] at hc
  obtain rfl | rfl | rfl | rfl := hc
  · simp [execLtsWrite, hb]
  · simp [execLtsRead, hb]
  · simp [execLtsRemove, hb]
  · simp [execLtsDerive, hb]

/-- The derivation that runs, if any. -/
def State.withDerive (s : State) (d : Option Bool) : State := { s with link := { s.link with derive_ := d } }

/-- The table that the SNR figures of the carriers give. -/
def State.derivedTable (s : State) (rate : Bool) : LoadTable :=
  tableOf rate ((List.range 96).map (fun d => deriveCode rate (s.modemSnr d) (s.rdF Reg.MODEM_CFG 16 4)))

/-- A derivation is over: the store is BUSY no more. -/
def State.endDerive (s : State) : State := (s.withDerive none).setB Reg.LTS_RESULT 31 false

theorem busy_endDerive (s : State) : s.endDerive.bit Reg.LTS_RESULT 31 = false := bit_setB_same _ _ (by decide)

theorem exec_ltsDerive_of_readable (hd : s.link.derive_ = none)
    (hs : s.spineState .front = 3 ∨ s.spineState .front = 2) :
    exec (.ltsDerive rate) s = .next ((s.withDerive (some rate)).setB Reg.LTS_RESULT 31 true) := by
  simp [execLtsDerive, hd, hs, State.withDerive]

theorem exec_ltsDerive_of_unreadable (hd : s.link.derive_ = none) (hup : s.spineState .front ≠ 3)
    (htrain : s.spineState .front ≠ 2) : exec (.ltsDerive rate) s = .next ((s.slip 0 0x03 0 0).ltsCode 6) := by
  simp [execLtsDerive, hd, hup, htrain]

theorem exec_ltsDeriveDone_of_up (hd : s.link.derive_ = some rate) (hs : s.spineState .front = 3) :
    exec .ltsDeriveDone s = .next (s.endDerive.ltsShowCode (s.derivedTable rate) 0) := by
  simp [execLtsDeriveDone, hd, hs, State.endDerive, State.withDerive, State.ltsShowCode, State.derivedTable]

theorem exec_ltsDeriveDone_of_not_up (hd : s.link.derive_ = some rate) (hs : s.spineState .front ≠ 3) :
    exec .ltsDeriveDone s = .next ((s.endDerive.slip 0 0x03 0 0).ltsCode 6) := by
  simp [execLtsDeriveDone, hd, hs, State.endDerive, State.withDerive]

end

end Sys2Proof.Machine
end

section

open Sys2Proof Sys2Proof.Machine

/-- Settles O34: each command ends in one equation of what it does to the store and of its code; a table that is shown
is nine register writes at different addresses. -/
theorem theLoadingTableStoreAnswersItsCommands : Obligations.TheLoadingTableStoreAnswersItsCommands := by
  unfold Obligations.TheLoadingTableStoreAnswersItsCommands
  refine ⟨?busy, ?writeZero, ?writeBad, ?writeRoom, ?writeFull, ?readHeld, ?readNone, ?removeZero, ?removeHeld,
    ?removeNone, ?deriveStarts, ?deriveRefused, ?derived, ?deriveLost⟩
  case busy =>
    exact fun c rate i s hb hc => ⟨_, exec_ltsCommand_of_busy hb hc, code_ltsCode s (by decide), onlyRegs_ltsCode s 5⟩
  case writeZero =>
    exact fun rate s hd => ⟨_, exec_ltsWrite_of_ltsPut hd (ltsPut_zero s _), code_ltsCode _ (by decide),
      onlyRegs_endLtsWrite s _ 3⟩
  case writeBad =>
    exact fun rate i s hd h0 hx => ⟨_, exec_ltsWrite_of_ltsPut hd (ltsPut_of_bad h0 hx), code_ltsCode _ (by decide),
      onlyRegs_endLtsWrite s _ 2⟩
  case writeRoom =>
    exact fun rate i s hd h0 hx hr => ⟨_, exec_ltsWrite_of_ltsPut hd (ltsPut_of_room h0 hx hr),
      code_ltsCode _ (by decide), mapGet_ltsStore_same s i _, fun _ hj => mapGet_ltsStore_ne s _ hj,
      bits_endLtsWrite _ _ 0, onlyRegs_endLtsWrite _ _ 0⟩
  case writeFull =>
    exact fun rate i s hd h0 hx hn hf => ⟨_, exec_ltsWrite_of_ltsPut hd (ltsPut_of_full h0 hx hn hf),
      code_ltsCode _ (by decide), onlyRegs_endLtsWrite s _ 1⟩
  case readHeld =>
    exact fun x i s hd hx => ⟨_, exec_ltsRead_of_held hd hx, code_ltsCode _ (by decide),
      fun _ hj => rd_ltsShowCode_ltsData s x 0 hj, rate_ltsShowCode s x 0, bits_ltsShowCode s x 0,
      onlyRegs_ltsShowCode s x 0⟩
  case readNone =>
    exact fun i s hd hx => ⟨_, exec_ltsRead_of_none hd hx, code_ltsCode s (by decide), onlyRegs_ltsCode s 4⟩
  case removeZero =>
    exact fun s hd => ⟨_, exec_ltsRemove_zero hd, code_ltsCode s (by decide), onlyRegs_ltsCode s 3⟩
  case removeHeld =>
    exact fun x i s hd h0 hx => ⟨_, exec_ltsRemove_of_held hd h0 hx, code_ltsCode _ (by decide),
      mapGet_mapErase_same _ _, fun _ hj => mapGet_mapErase_ne _ hj, onlyRegs_ltsCode _ 0⟩
  case removeNone =>
    exact fun i s hd h0 hx => ⟨_, exec_ltsRemove_of_none hd h0 hx, code_ltsCode s (by decide), onlyRegs_ltsCode s 4⟩
  case deriveStarts =>
    exact fun rate s hd hs => ⟨_, exec_ltsDerive_of_readable hd hs, bit_setB_same _ _ (by decide),
      (OnlyRegs.refl _ _).setB (by simp)⟩
  case deriveRefused =>
    exact fun rate s hd hup htrain => ⟨_, exec_ltsDerive_of_unreadable hd hup htrain, code_ltsCode _ (by decide), rfl⟩
  case derived =>
    intro rate s hd hs
    have hend : OnlyRegs ltsShownRegs (s.withDerive none) s.endDerive :=
      (OnlyRegs.refl _ _).setB (by simp [ltsShownRegs])
    exact ⟨_, exec_ltsDeriveDone_of_up hd hs, code_ltsCode _ (by decide),
      (busy_ltsShowCode _ _ 0).trans (busy_endDerive s), rate_ltsShowCode _ _ 0,
      fun _ hj => rd_ltsShowCode_ltsData _ _ 0 hj, hend.trans (onlyRegs_ltsShowCode _ _ 0)⟩
  case deriveLost =>
    intro rate s hd hs
    refine ⟨_, exec_ltsDeriveDone_of_not_up hd hs, code_ltsCode _ (by decide), ?_, rfl⟩
    rw [busy_ltsCode, bit_slip, busy_endDerive]

end

section
/-! PROOF. Detection and headers (09): the two stages, the Gen 1 sync word, and what a header's check, VERSION and
loading table decide (R242, R251, R265, R266, R281 to R283). -/

namespace Sys2Proof.Machine

/-! ### Registers above the interrupt selector, and frames under another front end -/

section

variable {l : List Nat} {s t : State}

/-- The units above the interrupt selector hold no event source's register. -/
theorem rd_event_of_le (s : State) {a n : Nat} (ha : 0x40006000 ≤ a) (hn : n < 256) : (s.event n).rd a = s.rd a := by
  apply rd_event_ne <;> simp only [Reg.INTC_PEND, Reg.INTC_OVR, Reg.PWR_COUNT] <;> omega

theorem pending1_wr_of_le (s : State) {a k : Nat} (v : Word) (ha : 0x40006000 ≤ a) (hk : k < 256) :
    (s.wr a v).pending1 k = s.pending1 k := by
  apply bit_congr (rd_wr_ne s v _)
  simp only [Reg.INTC_PEND]
  omega

theorem pending1_event_self (s : State) {n : Nat} (hn : n < 256) : (s.event n).pending1 n = true :=
  bit_event_pend s n hn

theorem OnlyEvents.withFront (x : FrontSt) (h : OnlyEvents l s t) :
    OnlyEvents l { s with front := x } { t with front := x } := by
  obtain ⟨_, _, _, _, _, _, rfl⟩ := h.exists_eq
  obtain ⟨hregs, hcount, hmem, -⟩ := h
  exact ⟨hregs, hcount, hmem, rfl⟩

/-- The front end with detection at its start. -/
def FrontSt.idle (x : FrontSt) : FrontSt := { x with stage := 0, header := 0, ref := 0, table := none }

theorem frontIdle_eq (s : State) : s.frontIdle = { s with front := s.front.idle } := rfl

@[simp] theorem frontIdle_front (s : State) : s.frontIdle.front = s.front.idle := rfl

@[simp] theorem frontIdle_link (s : State) : s.frontIdle.link = s.link := rfl

@[simp] theorem frontIdle_qe (s : State) : s.frontIdle.qe = s.qe := rfl

/-- Receiving ends in a state that an event has led to. -/
theorem OnlyEvents.frontIdle (h : OnlyEvents l s t) (hf : t.front = s.front) :
    OnlyEvents l s.frontIdle t.frontIdle := by
  rw [frontIdle_eq, frontIdle_eq, hf]
  exact h.withFront _

end

/-! ### Stages 1 and 2, and the sync word (R242, R265, R266) -/

section

variable {s : State} {p : Int} {c : Fin 256} {e : Fin 33}

/-- The channel power is shown. -/
def State.showPower (s : State) (p : Int) : State := s.wr Reg.RADIO_RSSI (word (unsigned 9 p))

/-- The front end with detection at a stage. -/
def State.atStage (s : State) (n : Nat) : State := { s with front := { s.front with stage := n } }

theorem detThresh_showPower (s : State) (p : Int) : (s.showPower p).detThresh = s.detThresh :=
  congrArg (signed 8) (rdF_congr (rd_wr_ne _ _ (by decide)) _ _)

theorem exec_detectStage1_of_above (h3 : s.fsm = 3) (h0 : s.front.stage = 0) (hp : 2 * s.detThresh < p) :
    exec (.detectStage1 p) s = .next (((s.showPower p).atStage 1).event 97) := by
  have hstage : ((s.showPower p).front.stage = 0 && 2 * (s.showPower p).detThresh < p : Bool) = true := by
    rw [detThresh_showPower, State.showPower, wr_front, Bool.and_eq_true, decide_eq_true_eq, decide_eq_true_eq]
    exact ⟨h0, hp⟩
  rw [exec_detectStage1, execDetectStage1, if_pos h3]
  exact if_pos hstage

theorem exec_detectStage1_of_not_above (h3 : s.fsm = 3) (h : s.front.stage ≠ 0 ∨ p ≤ 2 * s.detThresh) :
    exec (.detectStage1 p) s = .next (s.showPower p) := by
  have hstage : ¬ ((s.showPower p).front.stage = 0 && 2 * (s.showPower p).detThresh < p : Bool) = true := by
    rw [detThresh_showPower, State.showPower, wr_front, Bool.and_eq_true, decide_eq_true_eq, decide_eq_true_eq]
    omega
  rw [exec_detectStage1, execDetectStage1, if_pos h3]
  exact if_neg hstage

/-- The Gen 2 preamble is qualified. -/
def State.qualified (s : State) : State := { s with front := { s.front with stage := 2, gen2 := true } }

theorem exec_preambleQualified_of_above (h1 : s.front.stage = 1) (hc : s.rdF Reg.MODEM_CFG 8 8 < c.val) :
    exec (.preambleQualified c) s = .next ((s.qualified.wrF Reg.MODEM_QUAL 0 8 c).event 98) := by
  simp only [exec_preambleQualified, execPreambleQualified, h1, hc, decide_true, Bool.and_true, if_true,
    State.qualified]

theorem exec_detectStage2Timeout_of_stage1 (h1 : s.front.stage = 1) :
    exec .detectStage2Timeout s = .next (s.frontIdle.satAdd Reg.MODEM_COUNT_DET 16 16) := by
  rw [exec_detectStage2Timeout, execDetectStage2Timeout, if_pos h1]

theorem exec_gen1SyncFound_of_within (r : Nat) (h1 : s.front.stage = 1) (he : e.val ≤ s.rdF Reg.MODEM_CFG 20 2) :
    exec (.gen1SyncFound e r) s =
      .next { s with front := { s.front with stage := 2, gen2 := false, ref := r % 2 ^ 58 } } := by
  simp only [exec_gen1SyncFound, execGen1SyncFound, h1, he, decide_true, Bool.and_true, if_true, instant]

end

/-! ### The header (R250, R251, R281 to R283) -/

section

variable {s : State} {h : BitVec 48} {r : Nat} {x : LoadTable}

/-- A Gen 2 frame whose header comes next. -/
structure HeaderDue (s : State) : Prop where
  stage : s.front.stage = 2
  gen2 : s.front.gen2 = true

/-- The result that a frame leaves in MODEM_LAST. -/
theorem result_modemLast (s : State) (gen2 chorus sec : Bool) {result : Nat} (len : Nat) (h : result < 16) :
    (s.modemLast gen2 chorus sec result len).rdF Reg.MODEM_LAST 4 4 = result := by
  have hbits : b2n gen2 + b2n chorus * 2 + b2n sec * 4 < 16 := by cases gen2 <;> cases chorus <;> cases sec <;> decide
  rw [State.rdF, State.modemLast, rd_wr_same, fld_word (by decide)]
  omega

theorem rd_modemLast_ne (s : State) (gen2 chorus sec : Bool) (result len : Nat) {a : Nat} (h : a ≠ Reg.MODEM_LAST) :
    (s.modemLast gen2 chorus sec result len).rd a = s.rd a := rd_wr_ne s _ h

/-- A header's check has failed (R266). -/
def State.headerFailed (s : State) : State :=
  (((s.frontIdle.modemLast true false false 1 0).satAdd Reg.MODEM_COUNT_DET 0 16).satAdd
    Reg.MODEM_COUNT_ERR 0 8).event 100

/-- A header whose check holds is shown, with event 99. -/
def State.showHeader (s : State) (h : Nat) : State :=
  ((s.wr Reg.MODEM_HDR_LO (word h)).wr Reg.MODEM_HDR_HI (word (h / 2 ^ 32))).event 99

/-- A frame is dropped at its header, with its result and the field of its count. -/
def State.dropHeader (s : State) (h result lo len : Nat) : State :=
  ((s.showHeader h).frontIdle.modemLast true (hdrFld h 27 1 == 1) false result (hdrFld h 16 11)).satAdd
    Reg.MODEM_COUNT_ERR lo len

theorem loadTable_showHeader (s : State) (h id : Nat) : (s.showHeader h).loadTable id = s.loadTable id := by
  have hlink : (s.showHeader h).link = s.link := event_link _ 99
  rw [State.loadTable, hlink, State.loadTable]

theorem front_showHeader (s : State) (h : Nat) : (s.showHeader h).front = s.front := event_front _ 99

theorem exec_headerDecoded_of_badCrc (hd : HeaderDue s) (hc : headerOk h.toNat = false) :
    exec (.headerDecoded h r) s = .next s.headerFailed := by
  obtain ⟨hstage, hgen2⟩ := hd
  simp only [exec_headerDecoded, execHeaderDecoded, hstage, hgen2, hc, decide_true, Bool.and_true, Bool.not_false,
    if_true, State.headerFailed]

theorem exec_headerDecoded_of_version (hd : HeaderDue s) (hc : headerOk h.toNat = true) (hv : hdrFld h.toNat 0 2 ≠ 1) :
    exec (.headerDecoded h r) s = .next (s.dropHeader h.toNat 2 28 4) := by
  obtain ⟨hstage, hgen2⟩ := hd
  have hv : (hdrFld h.toNat 0 2 != 1) = true := bne_iff_ne.2 hv
  simp only [exec_headerDecoded, execHeaderDecoded, hstage, hgen2, hc, hv, decide_true, Bool.and_true, Bool.not_true,
    Bool.false_eq_true, if_true, if_false, State.dropHeader, State.showHeader]

theorem exec_headerDecoded_of_noTable (hd : HeaderDue s) (hc : headerOk h.toNat = true) (hv : hdrFld h.toNat 0 2 = 1)
    (hx : s.loadTable (hdrFld h.toNat 6 10) = none) :
    exec (.headerDecoded h r) s = .next (s.dropHeader h.toNat 3 16 8) := by
  obtain ⟨hstage, hgen2⟩ := hd
  rw [← loadTable_showHeader s h.toNat, State.showHeader] at hx
  simp only [exec_headerDecoded, execHeaderDecoded, hstage, hgen2, hc, hv, hx, decide_true, Bool.and_true,
    Bool.not_true, bne_self_eq_false, Bool.false_eq_true, if_true, if_false, State.dropHeader, State.showHeader]

/-- The front end takes a frame's payload: its header, its timing reference and its table. -/
def FrontSt.latch (y : FrontSt) (h r : Nat) (x : LoadTable) : FrontSt :=
  { y with stage := 3, header := h, ref := r % 2 ^ 58, table := some x }

theorem exec_headerDecoded_of_table (hd : HeaderDue s) (hc : headerOk h.toNat = true) (hv : hdrFld h.toNat 0 2 = 1)
    (hx : s.loadTable (hdrFld h.toNat 6 10) = some x) :
    exec (.headerDecoded h r) s =
      .next { s.showHeader h.toNat with front := (s.showHeader h.toNat).front.latch h.toNat r x } := by
  obtain ⟨hstage, hgen2⟩ := hd
  rw [← loadTable_showHeader s h.toNat, State.showHeader] at hx
  simp only [exec_headerDecoded, execHeaderDecoded, hstage, hgen2, hc, hv, hx, decide_true, Bool.and_true,
    Bool.not_true, bne_self_eq_false, Bool.false_eq_true, if_true, if_false, State.showHeader, FrontSt.latch, instant]

theorem onlyEvents_showHeader (s : State) (h : Nat) :
    OnlyEvents ([Reg.MODEM_HDR_LO, Reg.MODEM_HDR_HI] ++ eventRegs 99) s (s.showHeader h) :=
  (((OnlyEvents.refl _ s).wr (by simp)).wr (by simp)).event (by simp [eventRegs]) (by simp [eventRegs])

theorem pending1_showHeader (s : State) (h : Nat) : (s.showHeader h).pending1 99 = true :=
  pending1_event_self _ (by decide)

theorem rd_showHeader (s : State) (h : Nat) :
    (s.showHeader h).rd Reg.MODEM_HDR_LO = word h ∧ (s.showHeader h).rd Reg.MODEM_HDR_HI = word (h / 2 ^ 32) := by
  rw [State.showHeader, rd_event_of_le _ (by decide) (by decide), rd_event_of_le _ (by decide) (by decide),
    rd_wr_ne _ _ (by decide), rd_wr_same, rd_wr_same]
  exact ⟨rfl, rfl⟩

/-- A dropped frame leaves its result, its count and detection at its start. -/
theorem dropHeader_drops (s : State) (h : Nat) {result lo len : Nat} (hr : result < 16) (hl : lo + len ≤ 32) :
    (s.dropHeader h result lo len).front = s.front.idle ∧ (s.dropHeader h result lo len).pending1 99 = true ∧
    (s.dropHeader h result lo len).rdF Reg.MODEM_COUNT_ERR lo len =
      min (s.rdF Reg.MODEM_COUNT_ERR lo len + 1) (2 ^ len - 1) ∧
    (s.dropHeader h result lo len).rdF Reg.MODEM_LAST 4 4 = result := by
  refine ⟨congrArg FrontSt.idle (front_showHeader s h), ?_, ?_, ?_⟩
  · exact (pending1_wr_of_le _ _ (by decide) (by decide)).trans
      ((pending1_wr_of_le _ _ (by decide) (by decide)).trans (pending1_showHeader s h))
  · obtain ⟨hregs, -⟩ := onlyEvents_showHeader s h
    have herr : ((s.showHeader h).frontIdle.modemLast true (hdrFld h 27 1 == 1) false result (hdrFld h 16 11)).rd
        Reg.MODEM_COUNT_ERR = s.rd Reg.MODEM_COUNT_ERR :=
      (rd_modemLast_ne _ _ _ _ _ _ (by decide)).trans (hregs _ (by decide))
    rw [State.dropHeader, rdF_satAdd_same _ hl, rdF_congr herr]
  · exact (rdF_congr (rd_satAdd_ne _ _ _ _ (by decide)) _ _).trans (result_modemLast _ _ _ _ _ hr)

theorem onlyEvents_dropHeader (s : State) (h result lo len : Nat) :
    OnlyEvents ([Reg.MODEM_HDR_LO, Reg.MODEM_HDR_HI, Reg.MODEM_LAST, Reg.MODEM_COUNT_ERR] ++ eventRegs 99)
      s.frontIdle (s.dropHeader h result lo len) :=
  have hidle := (onlyEvents_showHeader s h).frontIdle (front_showHeader s h)
  ((hidle.mono (by simp [eventRegs])).wr (by simp)).satAdd (by simp)

/-- A failed check leaves its event, its result and its two counts. -/
theorem headerFailed_fails (s : State) : s.headerFailed.front = s.front.idle ∧ s.headerFailed.pending1 100 = true ∧
    s.headerFailed.rdF Reg.MODEM_COUNT_DET 0 16 = min (s.rdF Reg.MODEM_COUNT_DET 0 16 + 1) 65535 ∧
    s.headerFailed.rdF Reg.MODEM_COUNT_ERR 0 8 = min (s.rdF Reg.MODEM_COUNT_ERR 0 8 + 1) 255 ∧
    s.headerFailed.rdF Reg.MODEM_LAST 4 4 = 1 := by
  have hevent {a : Nat} (ha : 0x40006000 ≤ a) := rdF_congr (rd_event_of_le
    (((s.frontIdle.modemLast true false false 1 0).satAdd Reg.MODEM_COUNT_DET 0 16).satAdd Reg.MODEM_COUNT_ERR 0 8)
    (n := 100) ha (by decide))
  refine ⟨event_front _ 100, pending1_event_self _ (by decide), ?_, ?_, ?_⟩
  · rw [State.headerFailed, hevent (by decide), rdF_congr (rd_satAdd_ne _ _ _ _ (by decide)),
      rdF_satAdd_same _ (by decide), rdF_congr (rd_modemLast_ne _ _ _ _ _ _ (by decide))]
    rfl
  · rw [State.headerFailed, hevent (by decide), rdF_satAdd_same _ (by decide),
      rdF_congr (rd_satAdd_ne _ _ _ _ (by decide)), rdF_congr (rd_modemLast_ne _ _ _ _ _ _ (by decide))]
    rfl
  · rw [State.headerFailed, hevent (by decide), rdF_congr (rd_satAdd_ne _ _ _ _ (by decide)),
      rdF_congr (rd_satAdd_ne _ _ _ _ (by decide))]
    exact result_modemLast _ _ _ _ _ (by decide)

theorem onlyEvents_headerFailed (s : State) :
    OnlyEvents ([Reg.MODEM_LAST, Reg.MODEM_COUNT_DET, Reg.MODEM_COUNT_ERR] ++ eventRegs 100) s.frontIdle
      s.headerFailed :=
  ((((OnlyEvents.refl _ s.frontIdle).wr (by simp)).satAdd (by simp)).satAdd (by simp)).event (by simp [eventRegs])
    (by simp [eventRegs])

end

end Sys2Proof.Machine
end

section
/-! PROOF. The end of a Gen 2 frame outside an operation of the link controller (09): what it leaves in every case, and
what each result adds (R272, R273, R280, R290). -/

namespace Sys2Proof.Machine

/-! ### The measurements of a frame -/

section

variable {s : State} {m : RxMeas}

/-- The registers that a frame's measurements go to. -/
def measRegs : List Nat := [Reg.MODEM_CFO, Reg.RADIO_RSSI, Reg.MODEM_QUAL] ++ (List.range 24).map Reg.MODEM_SNR

theorem onlyRegs_noteMeas (s : State) (m : RxMeas) : OnlyRegs measRegs s (s.noteMeas true m) := by
  apply forRange_induct
  · exact (((OnlyRegs.refl _ s).wrF (by simp [measRegs])).wr (by simp [measRegs])).wrF (by simp [measRegs])
  · intro d hd u hu
    split
    · have hmem : Reg.MODEM_SNR (d / 4) ∈ (List.range 24).map Reg.MODEM_SNR :=
        List.mem_map_of_mem (List.mem_range.2 (by omega))
      exact hu.wrF (List.mem_append_right _ hmem)
    · exact hu

end

/-! ### The end of a frame -/

section

variable {s : State} {m : RxMeas} {l : List Byte} {a : Nat}

/-- What the end of a Gen 2 frame does whatever its result: event 101, the measurements, detection at its start, and
MODEM_LAST. -/
def State.frameEnded (s : State) (l : List Byte) (m : RxMeas) : State :=
  ((s.event 101).noteMeas true m).frontIdle.modemLast true (hdrFld s.front.header 27 1 == 1)
    ((payloadResult true s.front.header l).1 == 0 && (parseMac (payloadResult true s.front.header l).2.1).sec)
    (payloadResult true s.front.header l).1 (payloadResult true s.front.header l).2.2

theorem noteMeas_eq_of_indep {α : Type} (f : State → α) (hf : ∀ (u : State) r, f { u with regs := r } = f u)
    (s : State) (m : RxMeas) : f (s.noteMeas true m) = f s :=
  (onlyRegs_noteMeas s m).eq_of_indep f (hf s)

theorem front_frameEnded (s : State) (l : List Byte) (m : RxMeas) : (s.frameEnded l m).front = s.front.idle := by
  rw [State.frameEnded, State.modemLast, wr_front, frontIdle_front, noteMeas_eq_of_indep State.front fun _ _ => rfl,
    event_front]

theorem link_frameEnded (s : State) (l : List Byte) (m : RxMeas) : (s.frameEnded l m).link = s.link := by
  rw [State.frameEnded, State.modemLast, wr_link, frontIdle_link, noteMeas_eq_of_indep State.link fun _ _ => rfl,
    event_link]

theorem qe_frameEnded (s : State) (l : List Byte) (m : RxMeas) : (s.frameEnded l m).qe = s.qe := by
  rw [State.frameEnded, State.modemLast, wr_qe, frontIdle_qe, noteMeas_eq_of_indep State.qe fun _ _ => rfl, event_qe]

theorem rd_frameEnded_event (hl : a ≠ Reg.MODEM_LAST) (hm : a ∉ measRegs) :
    (s.frameEnded l m).rd a = (s.event 101).rd a :=
  (rd_modemLast_ne _ _ _ _ _ _ hl).trans ((onlyRegs_noteMeas (s.event 101) m).1 a hm)

/-- The counts are no measurements. -/
theorem rd_frameEnded_count (h : a ∈ [Reg.MODEM_COUNT_ERR, Reg.MODEM_COUNT_CHORUS, Reg.LINK_COUNT_MESH]) :
    (s.frameEnded l m).rd a = s.rd a := by
  have hplace : a ≠ Reg.MODEM_LAST ∧ a ∉ measRegs ∧ 0x40006000 ≤ a := by
    revert a
    decide
  obtain ⟨hlast, hmeas, hle⟩ := hplace
  rw [rd_frameEnded_event hlast hmeas, rd_event_of_le s hle (by decide)]

theorem pending1_frameEnded (s : State) (l : List Byte) (m : RxMeas) : (s.frameEnded l m).pending1 101 = true :=
  (bit_congr (rd_frameEnded_event (by decide) (by decide)) _).trans (pending1_event_self s (by decide))

theorem result_frameEnded (s : State) (m : RxMeas) {n : Nat} (h : (payloadResult true s.front.header l).1 = n)
    (hn : n < 16) : (s.frameEnded l m).rdF Reg.MODEM_LAST 4 4 = n := by
  rw [State.frameEnded, h]
  exact result_modemLast _ _ _ _ _ hn

/-- A Gen 2 frame whose payload is received in RX, no operation of the link controller running. -/
structure PayloadDue (s : State) : Prop where
  rx : s.fsm = 3
  gen2 : s.front.gen2 = true
  stage : s.front.stage = 3
  noRun : s.link.run = none

theorem rxRun_of_noRun (h : s.link.run = none) : s.rxRun = none := by
  simp [State.rxRun, h]

theorem rxEnd_of_noRun (n : Nat) (h : s.link.run = none) : s.rxEnd n = s := by
  simp [State.rxEnd, rxRun_of_noRun h]

/-! ### A bad frame and a failed payload check (R272, R273, R280) -/

theorem payloadResult_of_short (h : hdrFld s.front.header 16 11 < 12) :
    (payloadResult true s.front.header l).1 = 4 := by
  simp [payloadResult, h]

theorem payloadResult_of_length (h : 12 ≤ hdrFld s.front.header 16 11)
    (hl : l.length ≠ hdrFld s.front.header 16 11) : (payloadResult true s.front.header l).1 = 5 := by
  simp [payloadResult, Nat.not_lt.2 h, hl]

/-- A frame of another form than its header says is counted. -/
def State.badFrame (s : State) (l : List Byte) (m : RxMeas) : State :=
  (s.frameEnded l m).satAdd Reg.MODEM_COUNT_ERR 24 4

/-- A frame whose payload check fails is counted. -/
def State.badPayload (s : State) (l : List Byte) (m : RxMeas) : State :=
  (s.frameEnded l m).satAdd Reg.MODEM_COUNT_ERR 8 8

/-- A chorus frame lost is counted by the modem and by the mesh, with event 76. -/
def State.chorusLost (s : State) : State :=
  ((s.satAdd Reg.MODEM_COUNT_CHORUS 0 16).satAdd Reg.LINK_COUNT_MESH 0 8).event 76

theorem exec_payloadEnd_of_badFrame (hd : PayloadDue s) (hr : (payloadResult true s.front.header l).1 = 4) :
    exec (.payloadEnd l m) s = .next (s.badFrame l m) := by
  obtain ⟨hrx, hgen2, hstage, hrun⟩ := hd
  have hend : (s.badFrame l m).rxEnd 2 = s.badFrame l m :=
    rxEnd_of_noRun 2 (by rw [State.badFrame, satAdd_link, link_frameEnded, hrun])
  rw [← hend]
  simp only [exec_payloadEnd, execPayloadEnd, hrx, hgen2, hstage, hr, decide_true, beq_self_eq_true, Bool.and_true,
    if_true, State.badFrame, State.frameEnded]

theorem link_badPayload (s : State) (l : List Byte) (m : RxMeas) : (s.badPayload l m).link = s.link := by
  rw [State.badPayload, satAdd_link, link_frameEnded]

theorem link_chorusLost (s : State) : s.chorusLost.link = s.link := by
  rw [State.chorusLost, event_link, satAdd_link, satAdd_link]

theorem exec_payloadEnd_of_badPayload (hd : PayloadDue s) (hr : (payloadResult true s.front.header l).1 = 5)
    (hc : hdrFld s.front.header 27 1 ≠ 1) : exec (.payloadEnd l m) s = .next (s.badPayload l m) := by
  obtain ⟨hrx, hgen2, hstage, hrun⟩ := hd
  have hend : (s.badPayload l m).rxEnd 2 = s.badPayload l m :=
    rxEnd_of_noRun 2 (by rw [link_badPayload, hrun])
  rw [← hend]
  simp [execPayloadEnd, hrx, hgen2, hstage, hr, hc, State.badPayload, State.frameEnded]

theorem exec_payloadEnd_of_chorusLost (hd : PayloadDue s) (hr : (payloadResult true s.front.header l).1 = 5)
    (hc : hdrFld s.front.header 27 1 = 1) : exec (.payloadEnd l m) s = .next (s.badPayload l m).chorusLost := by
  obtain ⟨hrx, hgen2, hstage, hrun⟩ := hd
  have hend : (s.badPayload l m).chorusLost.rxEnd 2 = (s.badPayload l m).chorusLost :=
    rxEnd_of_noRun 2 (by rw [link_chorusLost, link_badPayload, hrun])
  rw [← hend]
  simp [execPayloadEnd, hrx, hgen2, hstage, hr, hc, State.badPayload, State.chorusLost, State.frameEnded]

/-- A count of the modem's errors leaves what the end of the frame has shown. -/
theorem satAdd_err_frameEnded (s : State) (m : RxMeas) {n lo len : Nat}
    (hr : (payloadResult true s.front.header l).1 = n) (hn : n < 16) (hlen : lo + len ≤ 32) :
    ((s.frameEnded l m).satAdd Reg.MODEM_COUNT_ERR lo len).front.stage = 0 ∧
    ((s.frameEnded l m).satAdd Reg.MODEM_COUNT_ERR lo len).pending1 101 = true ∧
    ((s.frameEnded l m).satAdd Reg.MODEM_COUNT_ERR lo len).rdF Reg.MODEM_LAST 4 4 = n ∧
    ((s.frameEnded l m).satAdd Reg.MODEM_COUNT_ERR lo len).rdF Reg.MODEM_COUNT_ERR lo len =
      min (s.rdF Reg.MODEM_COUNT_ERR lo len + 1) (2 ^ len - 1) := by
  refine ⟨congrArg FrontSt.stage (front_frameEnded s l m), ?_, ?_, ?_⟩
  · exact (pending1_wr_of_le _ _ (by decide) (by decide)).trans (pending1_frameEnded s l m)
  · exact (rdF_congr (rd_satAdd_ne _ _ _ _ (by decide)) _ _).trans (result_frameEnded s m hr hn)
  · rw [rdF_satAdd_same _ hlen, rdF_congr (rd_frameEnded_count (by simp))]

theorem rd_badPayload (h : a ∈ [Reg.MODEM_COUNT_CHORUS, Reg.LINK_COUNT_MESH]) : (s.badPayload l m).rd a = s.rd a := by
  have hne : a ≠ Reg.MODEM_COUNT_ERR := by
    revert a
    decide
  rw [State.badPayload, rd_satAdd_ne _ _ _ _ hne, rd_frameEnded_count (List.mem_cons_of_mem _ h)]

/-- The loss of a chorus frame is counted twice. -/
theorem chorusLost_counts (s : State) :
    s.chorusLost.rdF Reg.MODEM_COUNT_CHORUS 0 16 = min (s.rdF Reg.MODEM_COUNT_CHORUS 0 16 + 1) 65535 ∧
    s.chorusLost.rdF Reg.LINK_COUNT_MESH 0 8 = min (s.rdF Reg.LINK_COUNT_MESH 0 8 + 1) 255 ∧
    s.chorusLost.pending1 76 = true := by
  refine ⟨?_, ?_, pending1_event_self _ (by decide)⟩
  · rw [State.chorusLost, rdF_congr (rd_event_of_le _ (by decide) (by decide)),
      rdF_congr (rd_satAdd_ne _ _ _ _ (by decide)), rdF_satAdd_same _ (by decide)]
    rfl
  · rw [State.chorusLost, rdF_congr (rd_event_of_le _ (by decide) (by decide)), rdF_satAdd_same _ (by decide),
      rdF_congr (rd_satAdd_ne _ _ _ _ (by decide))]
    rfl

theorem rd_chorusLost_modem (s : State) (h : a ∈ [Reg.MODEM_LAST, Reg.MODEM_COUNT_ERR]) :
    s.chorusLost.rd a = s.rd a := by
  have hplace : 0x40006000 ≤ a ∧ a ≠ Reg.LINK_COUNT_MESH ∧ a ≠ Reg.MODEM_COUNT_CHORUS := by
    revert a
    decide
  obtain ⟨hle, hmesh, hchorus⟩ := hplace
  rw [State.chorusLost, rd_event_of_le _ hle (by decide), rd_satAdd_ne _ _ _ _ hmesh, rd_satAdd_ne _ _ _ _ hchorus]

theorem pending1_chorusLost (h : s.pending1 101 = true) : s.chorusLost.pending1 101 = true :=
  pending1_event_of_pending1 76 (by decide) ((pending1_wr_of_le _ _ (by decide) (by decide)).trans
    ((pending1_wr_of_le _ _ (by decide) (by decide)).trans h))

theorem front_chorusLost (s : State) : s.chorusLost.front = s.front := by
  rw [State.chorusLost, event_front, satAdd_front, satAdd_front]

end

/-! ### A frame received OK (R290, R311) -/

section

variable {s : State} {m : RxMeas} {l : List Byte} {a : Nat}

/-- The IQ and DC corrections of a frame are shown, with event 112. -/
def State.noteIqDc (s : State) (m : RxMeas) : State :=
  ((s.wr Reg.CAL_IQ (m.iq &&& 0x0FFF0FFF)).wr Reg.CAL_DC m.dc).event 112

/-- The EVM figures of a frame go into the running averages. -/
def State.noteEvm (s : State) (m : RxMeas) : State :=
  forRange 96 s.takeFree.2 (fun t d => match m.evm[d]? with
    | some e => t.wrF (Reg.CAL_EVM d) 0 8 (average (t.rdF (Reg.CAL_EVM d) 0 8) e.val (s.takeFree.1 / 2 ^ d))
    | none => t)

theorem iqDcUpdate_eq (s : State) (m : RxMeas) : s.iqDcUpdate m = ((s.noteIqDc m).noteEvm m).event 120 := rfl

theorem onlyRegs_noteEvm (s : State) (m : RxMeas) :
    OnlyRegs ((List.range 96).map Reg.CAL_EVM) s.takeFree.2 (s.noteEvm m) := by
  apply forRange_induct (OnlyRegs.refl _ _)
  intro d hd u hu
  split
  · exact hu.wrF (List.mem_map_of_mem (List.mem_range.2 hd))
  · exact hu

theorem rd_noteEvm_of_lt (s : State) (m : RxMeas) (h : a < 0x50008100) : (s.noteEvm m).rd a = s.rd a := by
  obtain ⟨hregs, -⟩ := onlyRegs_noteEvm s m
  have hout : a ∉ (List.range 96).map Reg.CAL_EVM := by
    simp only [List.mem_map, not_exists, not_and]
    intro d _ he
    simp only [Reg.CAL_EVM] at he
    omega
  rw [hregs a hout, rd_takeFree]

theorem noteEvm_eq_of_indep {α : Type} (f : State → α) (hf : ∀ (u : State) r, f { u with regs := r } = f u)
    (s : State) (m : RxMeas) : f (s.noteEvm m) = f s.takeFree.2 :=
  (onlyRegs_noteEvm s m).eq_of_indep f (hf _)

theorem front_iqDcUpdate (s : State) (m : RxMeas) : (s.iqDcUpdate m).front = s.front := by
  rw [iqDcUpdate_eq, event_front, noteEvm_eq_of_indep State.front fun _ _ => rfl, takeFree_front, State.noteIqDc,
    event_front, wr_front, wr_front]

theorem link_iqDcUpdate (s : State) (m : RxMeas) : (s.iqDcUpdate m).link = s.link := by
  rw [iqDcUpdate_eq, event_link, noteEvm_eq_of_indep State.link fun _ _ => rfl, takeFree_link, State.noteIqDc,
    event_link, wr_link, wr_link]

theorem qe_iqDcUpdate (s : State) (m : RxMeas) : (s.iqDcUpdate m).qe = s.qe := by
  rw [iqDcUpdate_eq, event_qe, noteEvm_eq_of_indep State.qe fun _ _ => rfl, takeFree_qe, State.noteIqDc, event_qe,
    wr_qe, wr_qe]

/-- Of the registers above the interrupt selector and below the EVM figures, only the corrections change. -/
theorem rd_iqDcUpdate_noteIqDc (s : State) (m : RxMeas) (hle : 0x40006000 ≤ a) (hlt : a < 0x50008100) :
    (s.iqDcUpdate m).rd a = ((s.wr Reg.CAL_IQ (m.iq &&& 0x0FFF0FFF)).wr Reg.CAL_DC m.dc).rd a := by
  rw [iqDcUpdate_eq, rd_event_of_le _ hle (by decide), rd_noteEvm_of_lt _ _ hlt, State.noteIqDc,
    rd_event_of_le _ hle (by decide)]

theorem rd_iqDcUpdate_corrections (s : State) (m : RxMeas) :
    (s.iqDcUpdate m).rd Reg.CAL_IQ = m.iq &&& 0x0FFF0FFF ∧ (s.iqDcUpdate m).rd Reg.CAL_DC = m.dc := by
  rw [rd_iqDcUpdate_noteIqDc s m (by decide) (by decide), rd_iqDcUpdate_noteIqDc s m (by decide) (by decide),
    rd_wr_ne _ _ (by decide), rd_wr_same, rd_wr_same]
  exact ⟨rfl, rfl⟩

theorem rd_iqDcUpdate_modem (s : State) (m : RxMeas) (hle : 0x40006000 ≤ a) (hlt : a < 0x50008034) :
    (s.iqDcUpdate m).rd a = s.rd a := by
  obtain ⟨hdc, hiq⟩ : a ≠ Reg.CAL_DC ∧ a ≠ Reg.CAL_IQ := by
    simp only [Reg.CAL_DC, Reg.CAL_IQ]
    omega
  rw [rd_iqDcUpdate_noteIqDc s m hle (by omega), rd_wr_ne _ _ hdc, rd_wr_ne _ _ hiq]

theorem pending1_noteEvm (s : State) (m : RxMeas) {k : Nat} (hk : k < 256) :
    (s.noteEvm m).pending1 k = s.pending1 k := by
  apply bit_congr (rd_noteEvm_of_lt s m _)
  simp only [Reg.INTC_PEND]
  omega

theorem pending1_iqDcUpdate (s : State) (m : RxMeas) :
    (s.iqDcUpdate m).pending1 112 = true ∧ (s.iqDcUpdate m).pending1 120 = true := by
  refine ⟨?_, pending1_event_self _ (by decide)⟩
  rw [iqDcUpdate_eq]
  apply pending1_event_of_pending1 120 (by decide)
  rw [pending1_noteEvm _ _ (by decide)]
  exact pending1_event_self _ (by decide)

theorem pending1_iqDcUpdate_of_pending1 (m : RxMeas) {k : Nat} (hk : k < 256) (h : s.pending1 k = true) :
    (s.iqDcUpdate m).pending1 k = true := by
  rw [iqDcUpdate_eq]
  apply pending1_event_of_pending1 120 hk
  rw [pending1_noteEvm _ _ hk]
  apply pending1_event_of_pending1 112 hk
  rw [pending1_wr_of_le _ _ (by decide) hk, pending1_wr_of_le _ _ (by decide) hk, h]

theorem onlyRegs_noteParent (s : State) : OnlyRegs [Reg.LINK_PARENT, Reg.LINK_STATUS] s s.noteParent := by
  unfold State.noteParent
  split
  · exact (((OnlyRegs.refl _ s).wrF (by simp)).setB (by simp)).wrF (by simp)
  · exact ((OnlyRegs.refl _ s).wrF (by simp)).setB (by simp)

/-- The sender's entry takes the power of its frame, and the parent follows the table. -/
def State.noteSender (s : State) (src rssi : Nat) : State :=
  (s.updNbr src (fun n => { n with rssi := rssi })).noteParent

theorem noteSender_eq_of_indep {α : Type} (f : State → α) (hf : ∀ (u : State) r, f { u with regs := r } = f u)
    (s : State) (src rssi : Nat) :
    f (s.noteSender src rssi) = f (s.updNbr src (fun n => { n with rssi := rssi })) :=
  (onlyRegs_noteParent _).eq_of_indep f (hf _)

theorem rd_noteSender_ne (src rssi : Nat) (hp : a ≠ Reg.LINK_PARENT) (hs : a ≠ Reg.LINK_STATUS) :
    (s.noteSender src rssi).rd a = s.rd a := by
  obtain ⟨hregs, -⟩ := onlyRegs_noteParent (s.updNbr src (fun n => { n with rssi := rssi }))
  exact (hregs a (by simp [hp, hs])).trans (rd_congr rfl a)

theorem run_noteSender (s : State) (src rssi : Nat) : (s.noteSender src rssi).link.run = s.link.run :=
  noteSender_eq_of_indep (fun u => u.link.run) (fun _ _ => rfl) s src rssi

theorem front_noteSender (s : State) (src rssi : Nat) : (s.noteSender src rssi).front = s.front :=
  noteSender_eq_of_indep State.front (fun _ _ => rfl) s src rssi

theorem qe_noteSender (s : State) (src rssi : Nat) : (s.noteSender src rssi).qe = s.qe :=
  noteSender_eq_of_indep State.qe (fun _ _ => rfl) s src rssi

theorem pending1_noteSender (s : State) (src rssi : Nat) {k : Nat} (hk : k < 256) :
    (s.noteSender src rssi).pending1 k = s.pending1 k := by
  apply bit_congr (rd_noteSender_ne src rssi _ _) <;> simp only [Reg.INTC_PEND, Reg.LINK_PARENT, Reg.LINK_STATUS] <;>
    omega

/-- A frame received OK is counted, its corrections are taken, and its sender is noted. -/
def State.goodFrame (s : State) (l : List Byte) (m : RxMeas) : State :=
  (((s.frameEnded l m).satAdd Reg.MODEM_COUNT_CHORUS 16 16).iqDcUpdate m).noteSender
    (parseMac (payloadResult true s.front.header l).2.1).src (unsigned 8 (m.rssi / 2))

theorem exec_payloadEnd_of_ok (hd : PayloadDue s) (hr : (payloadResult true s.front.header l).1 = 0) :
    exec (.payloadEnd l m) s = .next (s.goodFrame l m) := by
  obtain ⟨hrx, hgen2, hstage, hrun⟩ := hd
  have hnone : (s.goodFrame l m).rxRun = none :=
    rxRun_of_noRun (by rw [State.goodFrame, run_noteSender, link_iqDcUpdate, satAdd_link, link_frameEnded, hrun])
  have hbad : ¬ (0 : Nat) = 4 ∧ ¬ (0 : Nat) = 5 := by decide
  simp only [State.goodFrame, State.noteSender, State.frameEnded, hr, beq_self_eq_true] at hnone ⊢
  simp only [exec_payloadEnd, execPayloadEnd, hrx, hgen2, hstage, hr, hbad, hnone, decide_true, beq_self_eq_true,
    Bool.and_true, if_true, if_false]

/-- What the end of a frame has shown stays when it is received OK. -/
theorem rd_goodFrame (h : a ∈ [Reg.MODEM_LAST, Reg.MODEM_COUNT_CHORUS]) : (s.goodFrame l m).rd a =
    ((s.frameEnded l m).satAdd Reg.MODEM_COUNT_CHORUS 16 16).rd a := by
  have hplace : a ≠ Reg.LINK_PARENT ∧ a ≠ Reg.LINK_STATUS ∧ 0x40006000 ≤ a ∧ a < 0x50008034 := by
    revert a
    decide
  obtain ⟨hparent, hstatus, hle, hlt⟩ := hplace
  rw [State.goodFrame, rd_noteSender_ne _ _ hparent hstatus, rd_iqDcUpdate_modem _ _ hle hlt]

theorem front_goodFrame (s : State) (l : List Byte) (m : RxMeas) : (s.goodFrame l m).front = s.front.idle := by
  rw [State.goodFrame, front_noteSender, front_iqDcUpdate, satAdd_front, front_frameEnded]

theorem qe_goodFrame (s : State) (l : List Byte) (m : RxMeas) : (s.goodFrame l m).qe = s.qe := by
  rw [State.goodFrame, qe_noteSender, qe_iqDcUpdate, satAdd_qe, qe_frameEnded]

theorem pending1_goodFrame (s : State) (l : List Byte) (m : RxMeas) : (s.goodFrame l m).pending1 101 = true ∧
    (s.goodFrame l m).pending1 112 = true ∧ (s.goodFrame l m).pending1 120 = true := by
  have hended : ((s.frameEnded l m).satAdd Reg.MODEM_COUNT_CHORUS 16 16).pending1 101 = true :=
    (pending1_wr_of_le _ _ (by decide) (by decide)).trans (pending1_frameEnded s l m)
  rw [State.goodFrame, pending1_noteSender _ _ _ (by decide), pending1_noteSender _ _ _ (by decide),
    pending1_noteSender _ _ _ (by decide)]
  exact ⟨pending1_iqDcUpdate_of_pending1 m (by decide) hended, pending1_iqDcUpdate _ m⟩

theorem result_goodFrame (s : State) (m : RxMeas) (hr : (payloadResult true s.front.header l).1 = 0) :
    (s.goodFrame l m).rdF Reg.MODEM_LAST 4 4 = 0 := by
  rw [rdF_congr (rd_goodFrame (by simp)), rdF_congr (rd_satAdd_ne _ _ _ _ (by decide)),
    result_frameEnded s m hr (by decide)]

theorem count_goodFrame (s : State) (l : List Byte) (m : RxMeas) :
    (s.goodFrame l m).rdF Reg.MODEM_COUNT_CHORUS 16 16 = min (s.rdF Reg.MODEM_COUNT_CHORUS 16 16 + 1) 65535 := by
  rw [rdF_congr (rd_goodFrame (by simp)), rdF_satAdd_same _ (by decide), rdF_congr (rd_frameEnded_count (by simp))]
  rfl

theorem corrections_goodFrame (s : State) (l : List Byte) (m : RxMeas) :
    (s.goodFrame l m).rd Reg.CAL_IQ = m.iq &&& 0x0FFF0FFF ∧ (s.goodFrame l m).rd Reg.CAL_DC = m.dc := by
  rw [State.goodFrame, rd_noteSender_ne _ _ (by decide) (by decide), rd_noteSender_ne _ _ (by decide) (by decide)]
  exact rd_iqDcUpdate_corrections _ m

end

end Sys2Proof.Machine
end

section

open Sys2Proof Sys2Proof.Machine

/-- Settles O33: each command is one equation by its premise. A header that drops its frame, and the end of a frame with
each result, is an update that shows the result and counts; the counts and pending bits read through it because its
other writes go to other registers. -/
theorem framesAreDetectedAndDecoded : Obligations.FramesAreDetectedAndDecoded := by
  unfold Obligations.FramesAreDetectedAndDecoded
  refine ⟨?above, ?notAbove, ?qualified, ?unconfirmed, ?gen1, ?badCrc, ?version, ?noTable, ?latched, ?badFrame,
    ?badPayload, ?received⟩
  case above =>
    intro p s h3 h0 hp
    refine ⟨_, exec_detectStage1_of_above h3 h0 hp, ?_, pending1_event_self _ (by decide), ?_⟩
    · rw [rd_event_of_le _ (by decide) (by decide)]
      exact rd_wr_same s _ _
    · exact ((OnlyEvents.refl _ (s.atStage 1)).wr (by simp)).event (by simp [eventRegs]) (by simp [eventRegs])
  case notAbove =>
    exact fun p s h3 h => ⟨_, exec_detectStage1_of_not_above h3 h, rd_wr_same s _ _, (OnlyRegs.refl _ s).wr (by simp)⟩
  case qualified =>
    intro c s h1 hc
    refine ⟨_, exec_preambleQualified_of_above h1 hc, ?_, pending1_event_self _ (by decide), ?_⟩
    · rw [rdF_congr (rd_event_of_le _ (by decide) (by decide)), rdF_wrF_same _ _ (by decide)]
      exact Nat.mod_eq_of_lt c.isLt
    · exact ((OnlyEvents.refl _ s.qualified).wrF (by simp)).event (by simp [eventRegs]) (by simp [eventRegs])
  case unconfirmed =>
    exact fun s h1 => ⟨_, exec_detectStage2Timeout_of_stage1 h1, rdF_satAdd_same s.frontIdle (by decide),
      (OnlyRegs.refl _ s.frontIdle).satAdd (by simp)⟩
  case gen1 => exact fun e r s h1 he => exec_gen1SyncFound_of_within r h1 he
  case badCrc =>
    intro h r s h2 hg hc
    obtain ⟨hfront, hpend, hdet, herr, hlast⟩ := headerFailed_fails s
    refine ⟨_, exec_headerDecoded_of_badCrc ⟨h2, hg⟩ hc, congrArg FrontSt.stage hfront, hpend, hdet, herr, hlast, ?_⟩
    rw [hfront]
    exact onlyEvents_headerFailed s
  case version =>
    intro h r s h2 hg hc hv
    obtain ⟨hfront, hpend, herr, hlast⟩ :=
      dropHeader_drops s h.toNat (result := 2) (lo := 28) (len := 4) (by decide) (by decide)
    refine ⟨_, exec_headerDecoded_of_version ⟨h2, hg⟩ hc hv, congrArg FrontSt.stage hfront, hpend, herr, hlast, ?_⟩
    rw [hfront]
    exact onlyEvents_dropHeader s _ 2 28 4
  case noTable =>
    intro h r s h2 hg hc hv hx
    obtain ⟨hfront, hpend, herr, hlast⟩ :=
      dropHeader_drops s h.toNat (result := 3) (lo := 16) (len := 8) (by decide) (by decide)
    refine ⟨_, exec_headerDecoded_of_noTable ⟨h2, hg⟩ hc hv hx, congrArg FrontSt.stage hfront, hpend, herr, hlast, ?_⟩
    rw [hfront]
    exact onlyEvents_dropHeader s _ 3 16 8
  case latched =>
    intro h r x s h2 hg hc hv hx
    obtain ⟨hlo, hhi⟩ := rd_showHeader s h.toNat
    refine ⟨_, exec_headerDecoded_of_table ⟨h2, hg⟩ hc hv hx, pending1_showHeader s h.toNat, hlo, hhi, ?_⟩
    rw [front_showHeader]
    exact (onlyEvents_showHeader s h.toNat).withFront _
  case badFrame =>
    intro l m s h3 hg h2 hr hlen
    have hres := payloadResult_of_short (l := l) hlen
    obtain ⟨hstage, hpend, hlast, hcount⟩ :=
      satAdd_err_frameEnded s m (lo := 24) (len := 4) hres (by decide) (by decide)
    exact ⟨_, exec_payloadEnd_of_badFrame ⟨h3, hg, h2, hr⟩ hres, hstage, hpend, hlast, hcount⟩
  case badPayload =>
    intro l m s h3 hg h2 hr hlen hl
    have hres := payloadResult_of_length hlen hl
    obtain ⟨hstage, hpend, hlast, hcount⟩ :=
      satAdd_err_frameEnded s m (lo := 8) (len := 8) hres (by decide) (by decide)
    by_cases hc : hdrFld s.front.header 27 1 = 1
    · obtain ⟨hmodem, hmesh, hlost⟩ := chorusLost_counts (s.badPayload l m)
      refine ⟨_, exec_payloadEnd_of_chorusLost ⟨h3, hg, h2, hr⟩ hres hc, ?_, pending1_chorusLost hpend, ?_, ?_,
        fun _ => ⟨?_, ?_, hlost⟩⟩
      · rw [front_chorusLost]
        exact hstage
      · exact (rdF_congr (rd_chorusLost_modem _ (by simp)) _ _).trans hlast
      · exact (rdF_congr (rd_chorusLost_modem _ (by simp)) _ _).trans hcount
      · rw [hmodem, rdF_congr (rd_badPayload (by simp))]
      · rw [hmesh, rdF_congr (rd_badPayload (by simp))]
    · exact ⟨_, exec_payloadEnd_of_badPayload ⟨h3, hg, h2, hr⟩ hres hc, hstage, hpend, hlast, hcount,
        fun h => absurd h hc⟩
  case received =>
    intro l m s h3 hg h2 hr hres
    obtain ⟨hend, hiq, hevm⟩ := pending1_goodFrame s l m
    obtain ⟨hcorr, hdc⟩ := corrections_goodFrame s l m
    exact ⟨_, exec_payloadEnd_of_ok ⟨h3, hg, h2, hr⟩ hres, congrArg FrontSt.stage (front_goodFrame s l m), hend,
      result_goodFrame s m hres, count_goodFrame s l m, hcorr, hdc, hiq, hevm, qe_goodFrame s l m⟩

end

section
/-! PROOF. The queue engine's commands (12): what the updates of descriptors, cells and frames do to the queues, and the
outcome of each command (R362, R366, R373 to R376, R396, R398, R399). -/

namespace Sys2Proof.Machine

/-! ### Descriptors and link words -/

section

variable {s t : State} {q j c i : Nat}

@[simp] theorem qd_setQd_same (s : State) (q : Nat) (d : QDesc) : (s.setQd q d).qd q = d := mapGet_mapPut_same _ _ _ _

theorem qd_setQd_ne (s : State) (d : QDesc) (h : j ≠ q) : (s.setQd q d).qd j = s.qd j := by
  simp only [State.qd, State.setQd, mapGet_mapPut_ne _ _ _ h]

@[simp] theorem linkWord_setCell_same (s : State) (c : Nat) (w : Cell) : (s.setCell c w).linkWord c = w :=
  mapGet_mapPut_same _ _ _ _

theorem linkWord_setCell_ne (s : State) (w : Cell) (h : i ≠ c) : (s.setCell c w).linkWord i = s.linkWord i := by
  simp only [State.linkWord, State.setCell, mapGet_mapPut_ne _ _ _ h]

theorem qd_congr (h : t.qe.desc = s.qe.desc) (q : Nat) : t.qd q = s.qd q := by simp only [State.qd, h]

theorem linkWord_congr (h : t.qe.cells = s.qe.cells) (c : Nat) : t.linkWord c = s.linkWord c := by
  simp only [State.linkWord, h]

@[simp] theorem qd_setCell (s : State) (c : Nat) (w : Cell) (q : Nat) : (s.setCell c w).qd q = s.qd q := qd_congr rfl q

@[simp] theorem qd_satAdd (s : State) (a lo len n q : Nat) : (s.satAdd a lo len n).qd q = s.qd q := qd_congr rfl q

@[simp] theorem qd_dropRetries (s : State) (k q : Nat) : (s.dropRetries k).qd q = s.qd q := qd_congr rfl q

/-- A new NEXT leaves every cell's owner alone. -/
theorem own_setCell_next (s : State) (c n i : Nat) :
    ((s.setCell c { s.linkWord c with next := n }).linkWord i).own = (s.linkWord i).own := by
  by_cases h : i = c
  · rw [h, linkWord_setCell_same]
  · rw [linkWord_setCell_ne _ _ h]

end

/-! ### What the engine's inner updates leave alone -/

theorem SameMem.trans {s t u : State} (h : SameMem s t) (h' : SameMem t u) : SameMem s u := fun a => (h' a).trans (h a)

/-- From `s` to `t` every byte of memory, QE_COUNT, the holds of the LINK port and the flushes they are owed are as they
were: so it is with every update by which the engine takes a frame off a queue. -/
structure QueueFrame (s t : State) : Prop where
  mem : SameMem s t
  count : t.rd Reg.QE_COUNT = s.rd Reg.QE_COUNT
  holds : t.qe.holds = s.qe.holds
  flushDue : t.qe.flushDue = s.qe.flushDue

namespace QueueFrame

variable {s t u : State}

theorem refl (s : State) : QueueFrame s s := ⟨fun _ => rfl, rfl, rfl, rfl⟩

theorem trans (h : QueueFrame s t) (h' : QueueFrame t u) : QueueFrame s u :=
  ⟨h.mem.trans h'.mem, h'.count.trans h.count, h'.holds.trans h.holds, h'.flushDue.trans h.flushDue⟩

theorem setQd (s : State) (q : Nat) (d : QDesc) : QueueFrame s (s.setQd q d) := ⟨fun _ => rfl, rfl, rfl, rfl⟩

theorem setCell (s : State) (c : Nat) (w : Cell) : QueueFrame s (s.setCell c w) := ⟨fun _ => rfl, rfl, rfl, rfl⟩

theorem dropRetries (s : State) (q : Nat) : QueueFrame s (s.dropRetries q) := ⟨fun _ => rfl, rfl, rfl, rfl⟩

/-- QE_COUNT lies below the class registers. -/
theorem wrF_class (s : State) (c lo len n : Nat) : QueueFrame s (s.wrF (Reg.QE_CLASS c) lo len n) :=
  ⟨fun _ => rfl, rd_wrF_ne _ _ _ _ (by simp only [Reg.QE_COUNT, Reg.QE_CLASS]; omega), rfl, rfl⟩

theorem setRing (s : State) (c : Nat) (l : List Nat) : QueueFrame s (s.setRing c l) := by
  refine trans ?_ (wrF_class ..)
  exact ⟨fun _ => rfl, rfl, rfl, rfl⟩

/-- A frame that leaves its class raises no event of the class (R384). -/
theorem classFrames_quiet (s : State) (c n : Nat) : QueueFrame s (s.classFrames c n false) := wrF_class s c 0 13 n

end QueueFrame

theorem sameMem_classFrames (s : State) (c n : Nat) (b : Bool) : SameMem s (s.classFrames c n b) := by
  have heventIf (t : State) (e : Bool) (k : Nat) : SameMem t (t.eventIf e k) := by
    cases e
    · exact fun _ => rfl
    · exact byteAt_event t k
  exact ((QueueFrame.wrF_class s c 0 13 n).mem.trans (heventIf _ _ _)).trans (heventIf _ _ _)

@[simp] theorem classFrames_qe (s : State) (c n : Nat) (b : Bool) : (s.classFrames c n b).qe = s.qe := by
  rw [State.classFrames, eventIf_qe, eventIf_qe, wrF_qe]

@[simp] theorem qd_classFrames (s : State) (c n : Nat) (b : Bool) (q : Nat) : (s.classFrames c n b).qd q = s.qd q :=
  qd_congr (by rw [classFrames_qe]) q

@[simp] theorem linkWord_classFrames (s : State) (c n : Nat) (b : Bool) (i : Nat) :
    (s.classFrames c n b).linkWord i = s.linkWord i :=
  linkWord_congr (by rw [classFrames_qe]) i

/-! ### A queue takes a descriptor (R376, R381) -/

/-- A descriptor as `State.putQ` leaves it: settled, with INRING showing whether the queue is served. -/
def QDesc.placed (d : QDesc) : QDesc := { d.settled with inRing := d.settled.served }

section

variable (d : QDesc)

theorem settled_eq : d.settled = { d with state := d.placed.state } := by
  unfold QDesc.placed QDesc.settled
  split <;> rfl

@[simp] theorem placed_head : d.placed.head = d.head := by rw [QDesc.placed, settled_eq]

@[simp] theorem placed_depth : d.placed.depth = d.depth := by rw [QDesc.placed, settled_eq]

@[simp] theorem placed_cls : d.placed.cls = d.cls := by rw [QDesc.placed, settled_eq]

@[simp] theorem placed_ovf : d.placed.ovf = d.ovf := by rw [QDesc.placed, settled_eq]

/-- R376: a DRAINING queue that is empty is DISABLED. -/
theorem placed_state : d.placed.state = if d.state = .draining ∧ d.depth = 0 then .disabled else d.state := by
  unfold QDesc.placed QDesc.settled
  by_cases h : d.state = .draining ∧ d.depth = 0
  · simp [h]
  · simp only [Bool.and_eq_true, beq_iff_eq, h, if_false]

variable {d}

theorem placed_state_of_not_draining (h : d.state ≠ .draining) : d.placed.state = d.state := by simp [placed_state, h]

end

section

variable (s : State) (q : Nat) (d : QDesc)

@[simp] theorem qd_putQ_same : (s.putQ q d).qd q = d.placed := qd_setQd_same _ _ _

/-- Only rings, the grants left and the class registers change before the descriptor is stored. -/
theorem putQ_eq_setQd : ∃ t, s.putQ q d = t.setQd q d.placed ∧ t.qe.desc = s.qe.desc ∧ t.qe.cells = s.qe.cells ∧
    QueueFrame s t := by
  refine ⟨_, rfl, ?_⟩
  split <;> split
  · exact ⟨rfl, rfl, (QueueFrame.setRing ..).trans (QueueFrame.setRing ..)⟩
  · exact ⟨rfl, rfl, QueueFrame.setRing ..⟩
  · exact ⟨rfl, rfl, QueueFrame.setRing ..⟩
  · exact ⟨rfl, rfl, QueueFrame.refl s⟩

theorem qd_putQ_ne {j : Nat} (h : j ≠ q) : (s.putQ q d).qd j = s.qd j := by
  obtain ⟨t, heq, hdesc, -, -⟩ := putQ_eq_setQd s q d
  rw [heq, qd_setQd_ne _ _ h, qd_congr hdesc]

@[simp] theorem linkWord_putQ (c : Nat) : (s.putQ q d).linkWord c = s.linkWord c := by
  obtain ⟨t, heq, -, hcells, -⟩ := putQ_eq_setQd s q d
  exact linkWord_congr (heq ▸ hcells) c

theorem QueueFrame.putQ : QueueFrame s (s.putQ q d) := by
  obtain ⟨t, heq, -, -, hframe⟩ := putQ_eq_setQd s q d
  exact heq ▸ hframe.trans (QueueFrame.setQd ..)

end

/-! ### Cells take an owner (R363) -/

section

variable {s t : State} {cs : List Nat} {o : Owner} {f : State → Nat → Cell}

theorem foldl_setCell_eq (f : State → Nat → Cell) (cs : List Nat) (s : State) :
    ∃ l, cs.foldl (fun t c => t.setCell c (f t c)) s = { s with qe := { s.qe with cells := l } } := by
  induction cs generalizing s with
  | nil => exact ⟨s.qe.cells, rfl⟩
  | cons c cs ih =>
    obtain ⟨l, hl⟩ := ih (s.setCell c (f s c))
    exact ⟨l, hl⟩

/-- A cell that has the owner already, or takes it from the list, has it in the end. -/
theorem own_foldl_setCell (hf : ∀ t c, (f t c).own = o) {c : Nat} (h : c ∈ cs ∨ (s.linkWord c).own = o) :
    ((cs.foldl (fun t c => t.setCell c (f t c)) s).linkWord c).own = o := by
  induction cs generalizing s with
  | nil => simpa using h
  | cons i cs ih =>
    apply ih
    by_cases hc : c = i
    · right
      rw [hc, linkWord_setCell_same, hf]
    · rw [linkWord_setCell_ne _ _ hc]
      simpa [hc] using h

/-- Only link words and what the link controller has secured change. -/
theorem ownCells_eq (s : State) (cs : List Nat) (o : Owner) :
    ∃ l x, s.ownCells cs o = { s with qe := { s.qe with cells := l }, link := x } := by
  cases o
  case free | owned =>
    obtain ⟨l, hl⟩ := foldl_setCell_eq _ cs { s with link := _ }
    exact ⟨l, _, hl⟩
  case queued =>
    obtain ⟨l, hl⟩ := foldl_setCell_eq _ cs s
    exact ⟨l, s.link, hl⟩

theorem own_ownCells (s : State) (o : Owner) {c : Nat} (h : c ∈ cs) : ((s.ownCells cs o).linkWord c).own = o := by
  cases o
  case free => exact own_foldl_setCell (f := fun _ _ => {}) (fun _ _ => rfl) (.inl h)
  case owned => exact own_foldl_setCell (f := fun t c => { t.linkWord c with own := .owned }) (fun _ _ => rfl) (.inl h)
  case queued => exact own_foldl_setCell (f := fun t c => { t.linkWord c with own := .queued }) (fun _ _ => rfl) (.inl h)

@[simp] theorem desc_ownCells (s : State) (cs : List Nat) (o : Owner) : (s.ownCells cs o).qe.desc = s.qe.desc := by
  obtain ⟨l, x, h⟩ := ownCells_eq s cs o
  rw [h]

@[simp] theorem qd_ownCells (s : State) (cs : List Nat) (o : Owner) (q : Nat) : (s.ownCells cs o).qd q = s.qd q :=
  qd_congr (desc_ownCells s cs o) q

theorem QueueFrame.ownCells (s : State) (cs : List Nat) (o : Owner) : QueueFrame s (s.ownCells cs o) := by
  obtain ⟨l, x, h⟩ := ownCells_eq s cs o
  rw [h]
  exact ⟨fun _ => rfl, rfl, rfl, rfl⟩

end

/-! ### A frame enters a queue -/

section

variable (s : State) (q : Nat) (cs : List Nat) (rise : Bool)

theorem depth_append : ((s.append q cs rise).qd q).depth = (s.qd q).depth + 1 := by
  simp [State.append]

theorem state_append (h : (s.qd q).state ≠ .draining) : ((s.append q cs rise).qd q).state = (s.qd q).state := by
  simp [State.append, placed_state_of_not_draining, h]

theorem qd_append_ne {j : Nat} (h : j ≠ q) : (s.append q cs rise).qd j = s.qd j := by
  simp only [State.append, qd_classFrames, qd_putQ_ne _ _ _ h]
  split <;> simp

theorem own_append {c : Nat} (h : c ∈ cs) : ((s.append q cs rise).linkWord c).own = .queued := by
  simp only [State.append, linkWord_classFrames, linkWord_putQ]
  split
  · exact own_ownCells s .queued h
  · rw [own_setCell_next, own_ownCells s .queued h]

theorem sameMem_append : SameMem s (s.append q cs rise) := by
  rw [State.append]
  refine SameMem.trans ?_ (sameMem_classFrames _ _ _ _)
  refine SameMem.trans ?_ (QueueFrame.putQ ..).mem
  split
  · exact (QueueFrame.ownCells ..).mem
  · exact ((QueueFrame.ownCells ..).trans (QueueFrame.setCell ..)).mem

end

/-! ### The head frame leaves a queue -/

section

variable (s : State) (q : Nat)

theorem depth_unlinkHead : ((s.unlinkHead q).qd q).depth = (s.qd q).depth - 1 := by
  simp [State.unlinkHead]

theorem ovf_unlinkHead : ((s.unlinkHead q).qd q).ovf = (s.qd q).ovf := by
  simp [State.unlinkHead]

theorem qd_unlinkHead_ne {j : Nat} (h : j ≠ q) : (s.unlinkHead q).qd j = s.qd j := by
  simp [State.unlinkHead, qd_putQ_ne _ _ _ h]

theorem QueueFrame.unlinkHead : QueueFrame s (s.unlinkHead q) :=
  (((QueueFrame.dropRetries ..).trans (QueueFrame.setCell ..)).trans (QueueFrame.putQ ..)).trans
    (QueueFrame.classFrames_quiet ..)

end

/-! ### Frames are freed (R373, R399) -/

section

variable (s : State) (q n : Nat)

theorem depth_freeFrames : ((s.freeFrames q n).qd q).depth = (s.qd q).depth - n := by
  induction n generalizing s with
  | zero => rfl
  | succ n ih =>
    rw [State.freeFrames, ih, qd_ownCells, depth_unlinkHead]
    omega

theorem ovf_freeFrames : ((s.freeFrames q n).qd q).ovf = (s.qd q).ovf := by
  induction n generalizing s with
  | zero => rfl
  | succ n ih => rw [State.freeFrames, ih, qd_ownCells, ovf_unlinkHead]

theorem QueueFrame.freeFrames : QueueFrame s (s.freeFrames q n) := by
  induction n generalizing s with
  | zero => exact QueueFrame.refl s
  | succ n ih => exact ((QueueFrame.unlinkHead ..).trans (QueueFrame.ownCells ..)).trans (ih _)

theorem head_freeSecond : ((s.freeSecond q).qd q).head = (s.qd q).head := by simp [State.freeSecond]

theorem depth_freeSecond : ((s.freeSecond q).qd q).depth = (s.qd q).depth - 1 := by simp [State.freeSecond]

theorem ovf_freeSecond : ((s.freeSecond q).qd q).ovf = (s.qd q).ovf := by simp [State.freeSecond]

theorem QueueFrame.freeSecond : QueueFrame s (s.freeSecond q) := by
  rw [State.freeSecond]
  refine QueueFrame.trans ?_ (QueueFrame.ownCells ..)
  exact ((QueueFrame.setCell ..).trans (QueueFrame.putQ ..)).trans (QueueFrame.classFrames_quiet ..)

theorem head_freeRest : ((s.freeRest q n).qd q).head = (s.qd q).head := by
  induction n generalizing s with
  | zero => rfl
  | succ n ih => rw [State.freeRest, ih, head_freeSecond]

theorem depth_freeRest : ((s.freeRest q n).qd q).depth = (s.qd q).depth - n := by
  induction n generalizing s with
  | zero => rfl
  | succ n ih =>
    rw [State.freeRest, ih, depth_freeSecond]
    omega

theorem ovf_freeRest : ((s.freeRest q n).qd q).ovf = (s.qd q).ovf := by
  induction n generalizing s with
  | zero => rfl
  | succ n ih => rw [State.freeRest, ih, ovf_freeSecond]

theorem QueueFrame.freeRest : QueueFrame s (s.freeRest q n) := by
  induction n generalizing s with
  | zero => exact QueueFrame.refl s
  | succ n ih => exact (QueueFrame.freeSecond ..).trans (ih _)

end

/-! ### Holds (R398, R399) -/

section

variable {s t : State} {q : Nat}

theorem headHeld_eq_true_iff : s.headHeld q = true ↔ q ∈ s.qe.holds := List.contains_iff_mem

theorem headHeld_congr (h : t.qe.holds = s.qe.holds) (q : Nat) : t.headHeld q = s.headHeld q := by
  simp only [State.headHeld, h]

/-- A queue that is not held is not in the list of holds. -/
theorem filter_holds_of_not_held (h : s.headHeld q = false) : s.qe.holds.filter (· != q) = s.qe.holds := by
  rw [List.filter_eq_self]
  intro x hx
  rw [bne_iff_ne]
  rintro rfl
  rw [headHeld_eq_true_iff.2 hx] at h
  cases h

theorem holds_endHold (s : State) (q : Nat) : (s.endHold q).qe.holds = s.qe.holds.filter (· != q) := by
  unfold State.endHold
  dsimp only
  split
  · rw [satAdd_qe, (QueueFrame.ownCells ..).holds, (QueueFrame.unlinkHead ..).holds]
  · rfl

theorem headHeld_endHold (s : State) (q : Nat) : (s.endHold q).headHeld q = false := by
  simp [State.headHeld, holds_endHold]

end

/-! ### Which command runs (R366) -/

section

variable {s : State} {p : Nat} {k : QCmd} {l : List Nat}

theorem qEffect_of_bad_bank (h : s.queueOk k.queue = false ∨ (k.cmd = 4 ∧ s.queueOk k.arg = false)) :
    s.qEffect p k l = ⟨0x04, 0, s⟩ := by
  refine if_pos ?_
  rcases h with h | ⟨hcmd, h⟩ <;> simp [*]

variable (h : s.queueOk k.queue = true)

include h

theorem qEffect_enqueue (hk : k.cmd = 1) : s.qEffect p k l = s.qEnqueue k.queue k.arg (l.contains k.queue) := by
  simp [State.qEffect, h, hk]

theorem qEffect_dequeue (hk : k.cmd = 2) : s.qEffect p k l = s.qDequeue (p == 1) k.queue k.flag := by
  simp [State.qEffect, h, hk]

theorem qEffect_peek (hk : k.cmd = 3) : s.qEffect p k l = s.qPeek (p == 1) k.queue := by
  simp [State.qEffect, h, hk]

theorem qEffect_move (hk : k.cmd = 4) (hdst : s.queueOk k.arg = true) :
    s.qEffect p k l = s.qMove (p == 1) k.queue k.arg (l.contains k.arg) := by
  simp [State.qEffect, h, hk, hdst]

theorem qEffect_flush (hk : k.cmd = 5) : s.qEffect p k l = s.qFlush k.queue := by
  simp [State.qEffect, h, hk]

theorem qEffect_pause (hk : k.cmd = 6) : s.qEffect p k l = s.qPause k.queue k.flag := by
  simp [State.qEffect, h, hk]

theorem qEffect_resume (hk : k.cmd = 7) : s.qEffect p k l = s.qResume k.queue k.cls k.flag := by
  simp [State.qEffect, h, hk]

end

/-! ### Queues that take frames, and queues that take none (R374) -/

section

variable {st : QState}

theorem closed_of_disabled_or_draining (h : st = .disabled ∨ st = .draining) : (st == .disabled || st == .draining) = true := by
  rcases h with rfl | rfl <;> rfl

theorem not_closed_of_enabled_or_paused (h : st = .enabled ∨ st = .paused) : ¬ (st == .disabled || st == .draining) = true := by
  rcases h with rfl | rfl <;> decide

theorem not_draining_of_enabled_or_paused (h : st = .enabled ∨ st = .paused) : st ≠ .draining := by
  rcases h with rfl | rfl <;> decide

end

/-! ### ENQUEUE (R373, R374, R396) -/

section

variable {s : State} {q x : Nat} {fl : Bool} {cs : List Nat}

theorem qEnqueue_of_closed (h : (s.qd q).state = .disabled ∨ (s.qd q).state = .draining) :
    s.qEnqueue q x fl = ⟨0x08, 0, s⟩ := if_pos (closed_of_disabled_or_draining h)

variable (h : (s.qd q).state = .enabled ∨ (s.qd q).state = .paused)

include h

theorem qEnqueue_of_full (hd : s.depthLimit ≤ (s.qd q).depth) : s.qEnqueue q x fl = s.qFull q :=
  (if_neg (not_closed_of_enabled_or_paused h)).trans (if_pos hd)

variable (hd : (s.qd q).depth < s.depthLimit)

include hd

theorem qEnqueue_of_no_frame (hx : s.ownedFrame x = none) : s.qEnqueue q x fl = ⟨0x05, 0, s⟩ := by
  rw [State.qEnqueue, if_neg (not_closed_of_enabled_or_paused h), if_neg (Nat.not_le.2 hd), hx]

theorem qEnqueue_of_frame (hx : s.ownedFrame x = some cs) :
    s.qEnqueue q x false = ⟨0, (s.qd q).depth + 1, s.append q cs true⟩ := by
  rw [State.qEnqueue, if_neg (not_closed_of_enabled_or_paused h), if_neg (Nat.not_le.2 hd), hx]
  rfl

theorem qEnqueue_of_flushed (hx : s.ownedFrame x = some cs) : s.qEnqueue q x true = s.freeFlushed cs := by
  rw [State.qEnqueue, if_neg (not_closed_of_enabled_or_paused h), if_neg (Nat.not_le.2 hd), hx]
  rfl

end

/-! ### DEQUEUE, PEEK and MOVE (R373 to R375, R398, R399) -/

section

variable {s : State} {q dst : Nat} {link keep fl : Bool}

theorem qDequeue_of_empty (h : (s.qd q).depth = 0) : s.qDequeue link q keep = ⟨0x06, 0, s⟩ := if_pos h

theorem qPeek_of_empty (h : (s.qd q).depth = 0) : s.qPeek link q = ⟨0x06, 0, s⟩ := if_pos h

theorem qMove_of_empty (h : (s.qd q).depth = 0) : s.qMove link q dst fl = ⟨0x06, 0, s⟩ := if_pos h

variable (h : (s.qd q).depth ≠ 0)

include h

theorem qDequeue_of_held (hh : s.headHeld q = true) : s.qDequeue false q keep = ⟨0x0B, 0, s⟩ := by
  rw [State.qDequeue, if_neg h, hh]
  rfl

theorem qMove_of_held (hh : s.headHeld q = true) : s.qMove false q dst fl = ⟨0x0B, 0, s⟩ := by
  rw [State.qMove, if_neg h, hh]
  rfl

theorem qDequeue_of_flushDue (hf : q ∈ s.qe.flushDue) : s.qDequeue true q keep = ⟨0x0A, 0, s.endHold q⟩ := by
  rw [State.qDequeue, if_neg h, if_neg (by simp), if_pos (List.contains_iff_mem.2 hf)]

/-- Of a queue that is not held the ports all take the head alike. -/
theorem qDequeue_of_head (hh : s.headHeld q = false) (hf : q ∉ s.qe.flushDue) :
    s.qDequeue link q keep = ⟨0, (if keep then (s.qd q).head else 0xFFFF) + s.frameLen (s.qd q).head * 2 ^ 16,
      (s.unlinkHead q).ownCells (s.frame (s.qd q).head) (if keep then .owned else .free)⟩ := by
  rw [State.qDequeue, if_neg h, if_neg (by simp [hh]), if_neg (by simpa using hf)]
  simp only [filter_holds_of_not_held hh, ite_self]

theorem qPeek_of_head : s.qPeek link q = ⟨0, (s.qd q).head + s.frameLen (s.qd q).head * 2 ^ 16,
    if link && !s.headHeld q then { s with qe := { s.qe with holds := s.qe.holds ++ [q] } } else s⟩ := if_neg h

theorem qMove_of_closed (hh : s.headHeld q = false) (hc : (s.qd dst).state = .disabled ∨ (s.qd dst).state = .draining) :
    s.qMove link q dst fl = ⟨0x08, 0, s⟩ := by
  rw [State.qMove, if_neg h, if_neg (by simp [hh]), if_pos (closed_of_disabled_or_draining hc)]

theorem qMove_of_head (hh : s.headHeld q = false) (ho : (s.qd dst).state = .enabled ∨ (s.qd dst).state = .paused)
    (hd : (s.qd dst).depth < s.depthLimit) :
    s.qMove link q dst false =
      ⟨0, (((s.unlinkHead q).append dst (s.frame (s.qd q).head) ((s.qd q).cls != (s.qd dst).cls)).qd dst).depth,
        (s.unlinkHead q).append dst (s.frame (s.qd q).head) ((s.qd q).cls != (s.qd dst).cls)⟩ := by
  rw [State.qMove, if_neg h, if_neg (by simp [hh]), if_neg (not_closed_of_enabled_or_paused ho), if_neg (Nat.not_le.2 hd)]
  simp only [filter_holds_of_not_held hh]
  rfl

end

/-! ### FLUSH (R373, R399) -/

section

variable {s : State} {q : Nat}

theorem qFlush_of_not_held (h : s.headHeld q = false) :
    s.qFlush q = ⟨0, (s.qd q).depth,
      ((s.setQd q { s.qd q with ovf := false }).freeFrames q (s.qd q).depth).satAdd Reg.QE_COUNT 0 16 (s.qd q).depth⟩ :=
  if_neg (by simp [h])

/-- A FLUSH of a queue waits for the end of the queue's hold. -/
def State.oweFlush (s : State) (q : Nat) : State :=
  { s with qe := { s.qe with flushDue := if s.qe.flushDue.contains q then s.qe.flushDue else s.qe.flushDue ++ [q] } }

theorem mem_flushDue_oweFlush (s : State) (q : Nat) : q ∈ (s.oweFlush q).qe.flushDue := by
  unfold State.oweFlush
  dsimp only
  split
  · next h => exact List.contains_iff_mem.1 h
  · simp

theorem qFlush_of_held (h : s.headHeld q = true) (hd : (s.qd q).depth ≠ 0) :
    s.qFlush q = ⟨0, (s.qd q).depth - 1,
      (((s.setQd q { s.qd q with ovf := false }).freeRest q ((s.qd q).depth - 1)).oweFlush q).satAdd Reg.QE_COUNT 0 16
        ((s.qd q).depth - 1)⟩ :=
  if_pos (by simp [h, hd])

end

/-! ### PAUSE and RESUME (R373, R375, R376) -/

section

variable {s : State} {q c j : Nat} {clr : Bool}

@[simp] theorem qd_keepRings (s : State) (q : Nat) : s.keepRings.qd q = s.qd q := by
  unfold State.keepRings
  split <;> rfl

theorem qd_qPause_same (s : State) (q : Nat) (drain : Bool) :
    (s.qPause q drain).s.qd q = ({ s.qd q with state := if drain then .draining else .paused } : QDesc).placed := by
  simp [State.qPause]

theorem qd_qPause_ne (s : State) (drain : Bool) (h : j ≠ q) : (s.qPause q drain).s.qd j = s.qd j := by
  simp [State.qPause, qd_putQ_ne _ _ _ h]

theorem qResume_of_no_weight (h : s.weight c = 0) : s.qResume q c clr = ⟨0x09, 0, s⟩ := if_pos h

theorem qResume_of_weight (h : s.weight c ≠ 0) :
    s.qResume q c clr = ⟨0, 2 ^ 16, (s.reclass q c).putQ q
      { (s.reclass q c).qd q with state := .enabled, ovf := ((s.reclass q c).qd q).ovf && !clr }⟩ := if_neg h

theorem qd_reclass_ne (s : State) (c : Nat) (h : j ≠ q) : (s.reclass q c).qd j = s.qd j := by
  unfold State.reclass
  dsimp only
  split
  · rfl
  · rw [qd_putQ_ne _ _ _ h, qd_classFrames, qd_classFrames]

theorem qd_reclass_same (s : State) (q c : Nat) :
    ((s.reclass q c).qd q).cls = c ∧ ((s.reclass q c).qd q).depth = (s.qd q).depth ∧
      ((s.reclass q c).qd q).ovf = (s.qd q).ovf := by
  unfold State.reclass
  dsimp only
  split
  · next h => exact ⟨h, rfl, rfl⟩
  · simp

end

end Sys2Proof.Machine
end

section

open Sys2Proof Sys2Proof.Machine

/-- Settles O41: each refusal is one equation of its command; the outcome of a command that is carried out is read off
the updates it makes, each of which has one lemma for its queue and one for what it leaves alone. -/
theorem queueCommandsActOnTheirQueues : Obligations.QueueCommandsActOnTheirQueues := by
  unfold Obligations.QueueCommandsActOnTheirQueues
  refine ⟨?badQueue, ?enqueueClosed, ?enqueueFull, ?enqueueNoFrame, ?enqueue, ?empty, ?held, ?dequeue, ?peek,
    ?moveClosed, ?move, ?flush, ?pause, ?resumeNoWeight, ?resume, ?drained, ?flushHeld, ?dequeueFlushed,
    ?enqueueFlushed⟩
  case badQueue => exact fun _ _ _ h => qEffect_of_bad_bank h
  case enqueueClosed => exact fun _ _ _ _ hq hc => (qEffect_enqueue hq rfl).trans (qEnqueue_of_closed hc)
  case enqueueFull => exact fun _ _ _ _ hq ho hd => (qEffect_enqueue hq rfl).trans (qEnqueue_of_full ho hd)
  case enqueueNoFrame =>
    exact fun _ _ _ _ hq ho hd hx => (qEffect_enqueue hq rfl).trans (qEnqueue_of_no_frame ho hd hx)
  case enqueue =>
    intro r cs p q x s hq ho hd hx _ hr
    rw [(qEffect_enqueue hq rfl).trans (qEnqueue_of_frame ho hd hx)] at hr
    subst hr
    exact ⟨rfl, rfl, depth_append .., state_append _ _ _ _ (not_draining_of_enabled_or_paused ho), fun _ h => own_append _ _ _ _ h,
      fun _ h => qd_append_ne _ _ _ _ h, sameMem_append _ _ _ _⟩
  case empty =>
    intro k p s hk hq hdst hd
    rcases hk with hk | hk | hk
    · exact (qEffect_dequeue hq hk).trans (qDequeue_of_empty hd)
    · exact (qEffect_peek hq hk).trans (qPeek_of_empty hd)
    · exact (qEffect_move hq hk (hdst.resolve_left (not_not_intro hk))).trans (qMove_of_empty hd)
  case held =>
    intro k p s hk hq hdst hd hp hh
    have hlink : (p == 1) = false := beq_eq_false_iff_ne.2 hp
    rcases hk with hk | hk
    · rw [qEffect_dequeue hq hk, hlink, qDequeue_of_held hd hh]
    · rw [qEffect_move hq hk (hdst.resolve_left (not_not_intro hk)), hlink, qMove_of_held hd hh]
  case dequeue =>
    intro r p q b s hq hd hh hf _ hr
    rw [(qEffect_dequeue hq rfl).trans (qDequeue_of_head hd hh hf)] at hr
    subst hr
    refine ⟨rfl, rfl, ?_, fun _ h => own_ownCells _ _ h, fun j h => ?_,
      ((QueueFrame.unlinkHead ..).trans (QueueFrame.ownCells ..)).mem⟩
    · rw [qd_ownCells, depth_unlinkHead]
    · rw [qd_ownCells, qd_unlinkHead_ne _ _ h]
  case peek =>
    intro r p q s hq hd hr
    rw [(qEffect_peek hq rfl).trans (qPeek_of_head hd)] at hr
    subst hr
    refine ⟨rfl, rfl, ?_, ?_, ?_⟩
    · rintro rfl
      cases hh : s.headHeld q
      · simp
      · simpa using headHeld_eq_true_iff.1 hh
    · intro hp
      simp [hp]
    · dsimp only
      split <;> rfl
  case moveClosed =>
    exact fun _ _ _ _ hq hx hd hh hc => (qEffect_move hq rfl hx).trans (qMove_of_closed hd hh hc)
  case move =>
    intro r p q x s hq hx hne hd hh ho hlim hr
    rw [(qEffect_move hq rfl hx).trans (qMove_of_head hd hh ho hlim)] at hr
    subst hr
    have hdst : (((s.unlinkHead q).append x (s.frame (s.qd q).head) ((s.qd q).cls != (s.qd x).cls)).qd x).depth =
        (s.qd x).depth + 1 := by
      rw [depth_append, qd_unlinkHead_ne _ _ (Ne.symm hne)]
    refine ⟨rfl, hdst, ?_, hdst, (QueueFrame.unlinkHead ..).mem.trans (sameMem_append _ _ _ _)⟩
    rw [qd_append_ne _ _ _ _ hne, depth_unlinkHead]
  case flush =>
    intro r p q s hq hh hr
    rw [(qEffect_flush hq rfl).trans (qFlush_of_not_held (q := q) hh)] at hr
    subst hr
    have hframe : QueueFrame s ((s.setQd q { s.qd q with ovf := false }).freeFrames q (s.qd q).depth) :=
      (QueueFrame.setQd ..).trans (QueueFrame.freeFrames ..)
    refine ⟨rfl, rfl, ?_, ?_, ?_, hframe.mem⟩
    · rw [qd_satAdd, depth_freeFrames, qd_setQd_same, Nat.sub_self]
    · rw [qd_satAdd, ovf_freeFrames, qd_setQd_same]
    · rw [rdF_satAdd_same _ (by decide), rdF_congr hframe.count]
      rfl
  case pause =>
    intro r p q b s hq hr
    rw [qEffect_pause hq rfl] at hr
    subst hr
    refine ⟨rfl, ?_, ?_, fun _ h => qd_qPause_ne _ _ h⟩
    · rw [qd_qPause_same, placed_state]
      cases b <;> simp
    · rw [qd_qPause_same, placed_depth]
  case resumeNoWeight => exact fun _ _ _ _ _ hq hw => (qEffect_resume hq rfl).trans (qResume_of_no_weight hw)
  case resume =>
    intro r p q l b s hq hw hr
    rw [(qEffect_resume hq rfl).trans (qResume_of_weight hw)] at hr
    subst hr
    obtain ⟨hcls, hdepth, hovf⟩ := qd_reclass_same s q l
    refine ⟨rfl, ?_, ?_, ?_, ?_, fun j h => ?_⟩
    · simp [placed_state]
    · simp [hcls]
    · simp [hdepth]
    · simp [hovf]
    · rw [qd_putQ_ne _ _ _ h, qd_reclass_ne _ _ h]
  case drained =>
    intro d q s hst hd
    simp [placed_state, hst, hd]
  case flushHeld =>
    intro r p q s hq hh hd hr
    rw [(qEffect_flush hq rfl).trans (qFlush_of_held (q := q) hh hd)] at hr
    subst hr
    have hframe : QueueFrame s ((s.setQd q { s.qd q with ovf := false }).freeRest q ((s.qd q).depth - 1)) :=
      (QueueFrame.setQd ..).trans (QueueFrame.freeRest ..)
    refine ⟨rfl, rfl, ?_, ?_, mem_flushDue_oweFlush _ q, (headHeld_congr hframe.holds q).trans hh, ?_⟩
    · refine (depth_freeRest ..).trans ?_
      rw [qd_setQd_same]
      exact Nat.sub_sub_self (Nat.one_le_iff_ne_zero.2 hd)
    · refine (head_freeRest ..).trans ?_
      rw [qd_setQd_same]
    · refine (ovf_freeRest ..).trans ?_
      rw [qd_setQd_same]
  case dequeueFlushed =>
    intro q b s hq hd hf
    rw [(qEffect_dequeue hq rfl).trans (qDequeue_of_flushDue hd hf)]
    exact ⟨rfl, headHeld_endHold s q⟩
  case enqueueFlushed =>
    intro q x l cs s hq ho hd hx hl
    rw [qEffect_enqueue hq rfl, List.contains_iff_mem.2 hl, qEnqueue_of_flushed ho hd hx]
    exact ⟨rfl, desc_ownCells s cs .free⟩

end

section
/-! PROOF. The fuses over one step: what the command at the front, or idle time, leaves of the lifecycle and of the
fuses that are only ever blown (14; R476). -/

namespace Sys2Proof.Machine

variable {s t : State} {c : Instr}

/-! ### What a step runs -/

theorem step_of_pending_nil (h : s.pending = []) : step s = .next s.idle := by simp [step, h]

theorem step_of_pending_cons {q : List Instr} (h : s.pending = c :: q) : step s = exec c { s with pending := q } := by
  simp [step, h]

/-! ### The fuses -/

/-- The lifecycle makes one of its two moves: from OPEN to FIELD, or from FIELD to RETURNED (R476). -/
def LifeMoves (s t : State) : Prop := (s.cust.life = 0 ∧ t.cust.life = 1) ∨ (s.cust.life = 1 ∧ t.cust.life = 2)

/-- From `s` to `t` ZEROISED and the retired key stay set once set, and the minimum accepted build does not fall. -/
def FusesStay (s t : State) : Prop :=
  (s.cust.zeroised = true → t.cust.zeroised = true) ∧ (s.boot.retired = true → t.boot.retired = true) ∧
    s.boot.minBuild ≤ t.boot.minBuild

theorem Kept.fusesStay (h : Kept s t) : FusesStay s t := ⟨h.zeroised, h.retired, h.minBuild⟩

theorem kept_of_exec (hc : ∀ k, c ≠ .lifecycle k) (h : exec c s = .next t) : Kept s t := by
  have hout := Kept.exec (Kept.rfl' s) hc
  rwa [h] at hout

/-- LIFECYCLE moves the lifecycle one step or leaves it, and takes back no fuse. -/
theorem fuses_of_exec_lifecycle {k : Fin 4} (h : exec (.lifecycle k) s = .next t) :
    (t.cust.life = s.cust.life ∨ LifeMoves s t) ∧ FusesStay s t := by
  obtain ⟨n, hmove, hout⟩ := Kept.execLifecycle k s
  rw [← exec_lifecycle, h] at hout
  have hlife : t.cust.life = n := hout.life
  refine ⟨?_, hout.fusesStay⟩
  rcases hmove with hn | ⟨hopen, hn⟩ | ⟨hfield, hn⟩
  · exact .inl (hlife.trans hn)
  · exact .inr (.inl ⟨hopen, hlife.trans hn⟩)
  · exact .inr (.inr ⟨hfield, hlife.trans hn⟩)

end Sys2Proof.Machine
end

section

open Sys2Proof Sys2Proof.Machine

/-- Settles O4: idle time and every command but LIFECYCLE keep the lifecycle and all fuses, by the invariant `Kept`;
LIFECYCLE makes its one move or none. -/
theorem noStepTakesBackAFuse : Obligations.NoStepTakesBackAFuse := by
  unfold Obligations.NoStepTakesBackAFuse
  intro s t h
  cases hp : s.pending with
  | nil =>
    rw [step_of_pending_nil hp] at h
    cases h
    have hkept : Kept s s.idle := Kept.idle (Kept.rfl' s)
    exact ⟨.inl hkept.life, hkept.fusesStay⟩
  | cons c q =>
    rw [step_of_pending_cons hp] at h
    by_cases hc : ∃ k, c = .lifecycle k
    · obtain ⟨k, rfl⟩ := hc
      obtain ⟨hlife, hfuses⟩ := fuses_of_exec_lifecycle h
      exact ⟨hlife.imp_right fun hmoves => ⟨⟨k, rfl⟩, hmoves⟩, hfuses⟩
    · have hkept := kept_of_exec (fun k hk => hc ⟨k, hk⟩) h
      exact ⟨.inl hkept.life, hkept.fusesStay⟩

end

section
/-! PROOF. The mailbox of the custodian (14): what a doorbell does, how a running request and a refusal window end, how
completed slots become free, and the health test of the TRNG (R458 to R465, R472). -/

namespace Sys2Proof.Machine

/-! ### Mailbox slots and refusals -/

section

variable {l : List Nat} {s t : State} {j k r : Nat}

@[simp] theorem mb_setMb_same (s : State) (k : Nat) (m : MbSlot) : (s.setMb k m).mb k = m := mapGet_mapPut_same _ _ _ _

theorem mb_setMb_ne (s : State) (m : MbSlot) (h : j ≠ k) : (s.setMb k m).mb j = s.mb j := by
  simp only [State.mb, State.setMb, mapGet_mapPut_ne _ _ _ h]

theorem mb_congr (h : t.cust = s.cust) (k : Nat) : t.mb k = s.mb k := by simp only [State.mb, h]

theorem OnlyRegs.withCust (x : CustSt) (h : OnlyRegs l s t) : OnlyRegs l { s with cust := x } { t with cust := x } := by
  obtain ⟨hregs, hmem, ht⟩ := h
  generalize t.regs = r at ht
  subst ht
  exact ⟨hregs, hmem, rfl⟩

/-- A refusal is the custodian's own: it writes no register (R463). -/
theorem rd_refuse (s : State) (k r a : Nat) : (s.refuse k r).rd a = s.rd a := rd_congr rfl a

theorem phase_refuse (s : State) (k r : Nat) : ((s.refuse k r).mb k).phase = .refusing := by
  rw [State.refuse, mb_setMb_same]

theorem mb_refuse_ne (s : State) (r : Nat) (h : j ≠ k) : (s.refuse k r).mb j = s.mb j := mb_setMb_ne _ _ h

theorem order_refuse (s : State) (k r : Nat) : (s.refuse k r).cust.order = s.cust.order.filter (· != k) := rfl

/-- The reason counts in its audit counter (R465). -/
theorem audit_refuse (s : State) (k r : Nat) : (s.refuse k r).cust.audit =
    mapPut 0 s.cust.audit r (min ((mapGet s.cust.audit r).getD 0 + 1) 65535) := rfl

theorem OnlyRegs.refuse (k r : Nat) (h : OnlyRegs l s t) :
    OnlyRegs l { s with cust := (t.refuse k r).cust } (t.refuse k r) := h.withCust _

end

/-! ### A doorbell (R458 to R460, R495) -/

section

variable {k r : Nat} {m : Master} {v : Word} {s : State}

/-- What a doorbell of `m` for slot `k` leaves in SECMB_DB_RESULT; `full` is MB_FULL. -/
def State.doorbellWord (s : State) (full : Bool) (m : Master) (k : Nat) : Word :=
  word (b2n full + k * 16 + masterId m * 256 + (s.rdF Reg.SECMB_DB_RESULT 24 8 + 1) % 256 * 2 ^ 24)

theorem doorbellWord_taken (s : State) (m : Master) (k : Nat) : s.doorbellWord false m k =
    word (k * 16 + masterId m * 256 + (s.rdF Reg.SECMB_DB_RESULT 24 8 + 1) % 256 * 2 ^ 24) := by
  simp [State.doorbellWord, b2n]

/-- The registers of a doorbell that takes its slot: the result, the slot no longer free, STATUS PENDING. -/
def State.takeSlot (s : State) (m : Master) (k : Nat) : State :=
  ((s.wr Reg.SECMB_DB_RESULT (s.doorbellWord false m k)).mbFree k false).wr (Reg.SECMB_S_STATUS k) 1

/-- The request of a slot joins the order of doorbells. -/
def State.queueRequest (s : State) (k : Nat) : State :=
  let t := s.setMb k { s.mb k with phase := .waiting }
  { t with cust := { t.cust with order := t.cust.order ++ [k] } }

theorem exec_secmbDoorbell_of_busy (hk : k = fld v 0 2) (h : (s.mb k).phase ≠ .free) :
    exec (.secmbDoorbell m v) s = .next (s.wr Reg.SECMB_DB_RESULT (s.doorbellWord true m k)) := by
  have hfull : ((s.mb k).phase != .free) = true := bne_iff_ne.2 h
  simp [execSecmbDoorbell, ← hk, hfull, State.doorbellWord]

theorem exec_secmbDoorbell_of_accepted (hk : k = fld v 0 2) (h : (s.mb k).phase = .free) (ha : s.acceptFault k = none) :
    exec (.secmbDoorbell m v) s = .next ((s.takeSlot m k).queueRequest k) := by
  simp [execSecmbDoorbell, ← hk, h, ha, State.doorbellWord, State.takeSlot, State.queueRequest]

theorem exec_secmbDoorbell_of_refused (hk : k = fld v 0 2) (h : (s.mb k).phase = .free)
    (ha : s.acceptFault k = some r) :
    exec (.secmbDoorbell m v) s = .next ((s.takeSlot m k).refuse k r) := by
  simp [execSecmbDoorbell, ← hk, h, ha, State.doorbellWord, State.takeSlot]

variable (s) (m)

theorem rd_takeSlot_result (k : Nat) : (s.takeSlot m k).rd Reg.SECMB_DB_RESULT = s.doorbellWord false m k := by
  have hstatus : Reg.SECMB_DB_RESULT ≠ Reg.SECMB_S_STATUS k := by
    simp only [Reg.SECMB_DB_RESULT, Reg.SECMB_S_STATUS]
    omega
  rw [State.takeSlot, rd_wr_ne _ _ hstatus, State.mbFree, rd_setB_ne _ _ _ (by decide), rd_wr_same]

theorem rd_takeSlot_status (k : Nat) : (s.takeSlot m k).rd (Reg.SECMB_S_STATUS k) = 1 := rd_wr_same _ _ _

theorem bit_takeSlot_free (hk : k < 4) : (s.takeSlot m k).bit Reg.SECMB_FREE k = false := by
  have hstatus : Reg.SECMB_FREE ≠ Reg.SECMB_S_STATUS k := by
    simp only [Reg.SECMB_FREE, Reg.SECMB_S_STATUS]
    omega
  rw [State.takeSlot, bit_congr (rd_wr_ne _ _ hstatus)]
  exact bit_setB_same _ _ (by omega)

theorem onlyRegs_takeSlot (k : Nat) :
    OnlyRegs [Reg.SECMB_DB_RESULT, Reg.SECMB_S_STATUS k, Reg.SECMB_FREE] s (s.takeSlot m k) :=
  (((OnlyRegs.refl _ s).wr (by simp)).setB (by simp)).wr (by simp)

@[simp] theorem cust_takeSlot (k : Nat) : (s.takeSlot m k).cust = s.cust := by
  rw [State.takeSlot, wr_cust, State.mbFree, setB_cust, wr_cust]

theorem mb_queueRequest (k : Nat) : (s.queueRequest k).mb k = { s.mb k with phase := .waiting } :=
  mb_setMb_same s k { s.mb k with phase := .waiting }

theorem rd_queueRequest (k a : Nat) : (s.queueRequest k).rd a = s.rd a := rd_congr rfl a

theorem cust_queueRequest (k : Nat) : (s.queueRequest k).cust = { s.cust with
    order := s.cust.order ++ [k], slots := mapPut {} s.cust.slots k { s.mb k with phase := .waiting } } := rfl

theorem OnlyRegs.queueRequest {l : List Nat} {t : State} (k : Nat) (h : OnlyRegs l s t) :
    OnlyRegs l { s with cust := (t.queueRequest k).cust } (t.queueRequest k) := h.withCust _

end

/-! ### The end of a request and of a refusal window (R461 to R463) -/

section

variable {a n k i : Nat} {l out : List Byte} {s : State}

/-- The `n` bytes from `a` upward hold a list, and 0 after it. -/
def State.fillArea (s : State) (a n : Nat) (l : List Byte) : State := (s.putBytes a (List.replicate n 0)).putBytes a l

@[simp] theorem cust_fillArea (s : State) (a n : Nat) (l : List Byte) : (s.fillArea a n l).cust = s.cust := by
  simp [State.fillArea]

theorem fillArea_nil (s : State) (a n : Nat) : s.fillArea a n [] = s.putBytes a (List.replicate n 0) := rfl

theorem rd_fillArea (s : State) (a n : Nat) (l : List Byte) (b : Nat) : (s.fillArea a n l).rd b = s.rd b :=
  rd_congr (by simp [State.fillArea]) b

theorem byteAt_fillArea (h : i < n) : (s.fillArea a n l).byteAt (a + i) = l.getD i 0 := by
  unfold State.fillArea
  by_cases hi : i < l.length
  · exact byteAt_putBytes_of_lt l _ a hi
  · have hl : l.length ≤ i := Nat.le_of_not_lt hi
    have hz : i < (List.replicate n (0 : Byte)).length := by simpa using h
    rw [byteAt_putBytes_ne l _ (.inr (Nat.add_le_add_left hl a)), byteAt_putBytes_of_lt _ s a hz,
      List.getD_eq_default _ _ hl, List.getD_eq_getElem _ _ hz, List.getElem_replicate]

theorem bytesAt_congr {t : State} (h : ∀ b, t.byteAt b = s.byteAt b) (a n : Nat) : t.bytesAt a n = s.bytesAt a n := by
  simp only [State.bytesAt, h]

theorem bytesAt_fillArea (h : l.length ≤ n) :
    (s.fillArea a n l).bytesAt a n = l ++ List.replicate (n - l.length) 0 := by
  refine List.ext_getElem (by simp [State.bytesAt]; omega) fun i hi _ => ?_
  have hin : i < n := by simpa [State.bytesAt] using hi
  simp only [State.bytesAt, List.getElem_map, List.getElem_range, byteAt_fillArea hin, List.getElem_append]
  split
  · next hl => rw [List.getD_eq_getElem _ _ hl]
  · next hl => rw [List.getD_eq_default _ _ (by omega), List.getElem_replicate]

theorem bytesAt_fillArea_nil (s : State) (a n : Nat) : (s.fillArea a n []).bytesAt a n = List.replicate n 0 := by
  rw [bytesAt_fillArea (Nat.zero_le n), List.nil_append, List.length_nil, Nat.sub_zero]

/-- PARAM0 to PARAM3 of a slot take what a chaining mode gives back. -/
def State.giveParam (s : State) (k : Nat) : Option (List Byte) → State
  | some p => forRange 4 s (fun t i => t.wr (Reg.SECMB_S_PARAM0 k + 4 * i) (word (field p (4 * i) 4)))
  | none => s

theorem giveParam_frame (s : State) (k : Nat) (o : Option (List Byte)) :
    (s.giveParam k o).cust = s.cust ∧ ∀ b, (s.giveParam k o).byteAt b = s.byteAt b := by
  cases o with
  | none => exact ⟨rfl, fun _ => rfl⟩
  | some p =>
    exact forRange_induct (P := fun u => u.cust = s.cust ∧ ∀ b, u.byteAt b = s.byteAt b) ⟨rfl, fun _ => rfl⟩
      fun _ _ u ⟨hcust, hmem⟩ => ⟨(wr_cust u _ _).trans hcust, hmem⟩

theorem rd_giveParam {p : List Byte} (hi : i < 4) :
    (s.giveParam k (some p)).rd (Reg.SECMB_S_PARAM0 k + 4 * i) = word (field p (4 * i) 4) :=
  rd_forRange_wr (r := fun i => Reg.SECMB_S_PARAM0 k + 4 * i) (fun x y h => by simpa using h)
    (fun i => word (field p (4 * i) 4)) hi

/-- The requests that wait or run, in their order. -/
def State.setOrder (s : State) (order : List Nat) : State := { s with cust := { s.cust with order := order } }

theorem setOrder_self {order : List Nat} (h : order = s.cust.order) : s.setOrder order = s := by rw [h, State.setOrder]

/-- A slot completes: its STATUS, its DONE bit, the order of the requests that are left, the slot's state, and its
event. -/
def State.completeSlot (s : State) (k : Nat) (status : Word) (order : List Nat) (m : MbSlot) : State :=
  ((((s.wr (Reg.SECMB_S_STATUS k) status).setB Reg.SECMB_DONE k true).setOrder order).setMb k m).event (192 + k)

variable {status : Word} {order : List Nat} {m : MbSlot}

theorem cust_completeSlot : (s.completeSlot k status order m).cust =
    { s.cust with order := order, slots := mapPut {} s.cust.slots k m } := by
  rw [State.completeSlot, event_cust]
  rfl

theorem mb_completeSlot : (s.completeSlot k status order m).mb k = m := by
  rw [State.completeSlot, mb_congr (event_cust _ _), mb_setMb_same]

theorem byteAt_completeSlot (b : Nat) : (s.completeSlot k status order m).byteAt b = s.byteAt b := byteAt_event _ _ b

theorem bytesAt_completeSlot (b n : Nat) : (s.completeSlot k status order m).bytesAt b n = s.bytesAt b n :=
  bytesAt_congr byteAt_completeSlot b n

/-- The event of a slot changes no register of the mailbox. -/
theorem rd_completeSlot (hk : k < 4) (ha : 0x40006000 ≤ a) : (s.completeSlot k status order m).rd a =
    ((s.wr (Reg.SECMB_S_STATUS k) status).setB Reg.SECMB_DONE k true).rd a :=
  (rd_event_of_le _ ha (by omega)).trans (rd_congr rfl a)

theorem rd_completeSlot_status (hk : k < 4) :
    (s.completeSlot k status order m).rd (Reg.SECMB_S_STATUS k) = status := by
  have hdone : Reg.SECMB_S_STATUS k ≠ Reg.SECMB_DONE := by
    simp only [Reg.SECMB_S_STATUS, Reg.SECMB_DONE]
    omega
  have hpage : 0x40006000 ≤ Reg.SECMB_S_STATUS k := by
    simp only [Reg.SECMB_S_STATUS]
    omega
  rw [rd_completeSlot hk hpage, rd_setB_ne _ _ _ hdone, rd_wr_same]

theorem rd_completeSlot_param (hk : k < 4) (hi : i < 4) :
    (s.completeSlot k status order m).rd (Reg.SECMB_S_PARAM0 k + 4 * i) = s.rd (Reg.SECMB_S_PARAM0 k + 4 * i) := by
  have hdone : Reg.SECMB_S_PARAM0 k + 4 * i ≠ Reg.SECMB_DONE := by
    simp only [Reg.SECMB_S_PARAM0, Reg.SECMB_DONE]
    omega
  have hstatus : Reg.SECMB_S_PARAM0 k + 4 * i ≠ Reg.SECMB_S_STATUS k := by
    simp only [Reg.SECMB_S_PARAM0, Reg.SECMB_S_STATUS]
    omega
  have hpage : 0x40006000 ≤ Reg.SECMB_S_PARAM0 k + 4 * i := by
    simp only [Reg.SECMB_S_PARAM0]
    omega
  rw [rd_completeSlot hk hpage, rd_setB_ne _ _ _ hdone, rd_wr_ne _ _ hstatus]

theorem bit_completeSlot_done (hk : k < 4) : (s.completeSlot k status order m).bit Reg.SECMB_DONE k = true := by
  rw [bit_congr (rd_completeSlot hk (by decide)), bit_setB_same _ _ (by omega)]

theorem pending1_completeSlot (hk : k < 4) : (s.completeSlot k status order m).pending1 (192 + k) = true :=
  pending1_event_self _ (by omega)

/-- The state in which a running request has left its output and its parameters. -/
def State.giveOutput (s : State) (k : Nat) : State :=
  (s.fillArea (mbBuf k) 896 (s.mb k).out).giveParam k (s.mb k).param

theorem cust_giveOutput (s : State) (k : Nat) : (s.giveOutput k).cust = s.cust := by
  obtain ⟨hcust, -⟩ := giveParam_frame (s.fillArea (mbBuf k) 896 (s.mb k).out) k (s.mb k).param
  exact hcust.trans (cust_fillArea ..)

theorem bytesAt_giveOutput (h : (s.mb k).out.length ≤ 896) : (s.giveOutput k).bytesAt (mbBuf k) 896 =
    (s.mb k).out ++ List.replicate (896 - (s.mb k).out.length) 0 := by
  obtain ⟨-, hmem⟩ := giveParam_frame (s.fillArea (mbBuf k) 896 (s.mb k).out) k (s.mb k).param
  exact (bytesAt_congr hmem _ _).trans (bytesAt_fillArea h)

theorem rd_giveOutput_of_param {p : List Byte} (h : (s.mb k).param = some p) (hi : i < 4) :
    (s.giveOutput k).rd (Reg.SECMB_S_PARAM0 k + 4 * i) = word (field p (4 * i) 4) := by
  rw [State.giveOutput, h, rd_giveParam hi]

theorem rd_giveOutput_of_no_param (h : (s.mb k).param = none) (b : Nat) : (s.giveOutput k).rd b = s.rd b := by
  rw [State.giveOutput, h]
  exact rd_fillArea ..

theorem exec_mailboxRequestDone_of_running {k : Fin 4} (h : (s.mb k).phase = .running) :
    exec (.mailboxRequestDone k) s = .next ((s.giveOutput k).completeSlot k
      (word ((s.mb k).result * 2 ^ 5 + (s.mb k).out.length * 2 ^ 8)) ((s.giveOutput k).cust.order.filter (· != k.val))
      { phase := .done, ctx := (s.mb k).ctx }) := by
  have hrun : ((s.mb k).phase == .running) = true := beq_iff_eq.2 h
  rw [exec_mailboxRequestDone, execMailboxRequestDone]
  extract_lets s1 s2 s3 c s4
  rw [if_pos hrun]
  have hs2 : s2 = s.giveOutput k := rfl
  rw [← hs2]
  clear_value s2
  rfl

theorem exec_refusalWindowEnd_of_refusing {k : Fin 4} (h : (s.mb k).phase = .refusing) :
    exec (.refusalWindowEnd k) s = .next ((s.fillArea (mbBuf k) 896 []).completeSlot k 0x10
      (s.fillArea (mbBuf k) 896 []).cust.order { s.mb k with phase := .done }) := by
  have hrefusing : ((s.mb k).phase == .refusing) = true := beq_iff_eq.2 h
  rw [exec_refusalWindowEnd, execRefusalWindowEnd, if_pos hrefusing, fillArea_nil, State.completeSlot,
    setOrder_self (by rw [setB_cust, wr_cust])]

end

/-! ### Completed slots become free (R460, R461) -/

section

variable {j k : Nat} {l : List Nat} {v : Word} {s : State}

/-- A slot becomes free. -/
def State.releaseSlot (s : State) (k : Nat) : State :=
  ((s.setB Reg.SECMB_DONE k false).mbFree k true).setMb k { s.mb k with phase := .free }

/-- The completed slots that a write of ones frees. -/
def State.cleared (s : State) (v : Word) : List Nat :=
  (List.range 4).filter (fun k => bitOf v k && (s.mb k).phase == .done)

/-- A slot is free and shows it. -/
def ShownFree (s : State) (k : Nat) : Prop :=
  s.bit Reg.SECMB_DONE k = false ∧ s.bit Reg.SECMB_FREE k = true ∧ (s.mb k).phase = .free

/-- All four slots are busy. -/
def State.allBusy (s : State) : Bool := (List.range 4).all (fun k => (s.mb k).phase != .free)

theorem exec_secmbDoneClear_eq (v : Word) (s : State) : exec (.secmbDoneClear v) s =
    .next (((s.cleared v).foldl State.releaseSlot s).eventIf (s.allBusy && !(s.cleared v).isEmpty) 196) := rfl

theorem mem_cleared : k ∈ s.cleared v ↔ k < 4 ∧ (bitOf v k && (s.mb k).phase == .done) = true := by
  rw [State.cleared, List.mem_filter, List.mem_range]

theorem rd_releaseSlot (s : State) (k a : Nat) : (s.releaseSlot k).rd a =
    ((s.setB Reg.SECMB_DONE k false).setB Reg.SECMB_FREE k true).rd a := rd_congr rfl a

theorem rd_releaseSlot_done (s : State) (k : Nat) :
    (s.releaseSlot k).rd Reg.SECMB_DONE = (s.setB Reg.SECMB_DONE k false).rd Reg.SECMB_DONE := by
  rw [rd_releaseSlot, rd_setB_ne _ _ _ (by decide)]

theorem bit_done_releaseSlot_ne (s : State) (h : k ≠ j) :
    (s.releaseSlot j).bit Reg.SECMB_DONE k = s.bit Reg.SECMB_DONE k := by
  rw [bit_congr (rd_releaseSlot_done s j), bit_setB_ne _ _ h]

theorem bit_free_releaseSlot_ne (s : State) (h : k ≠ j) :
    (s.releaseSlot j).bit Reg.SECMB_FREE k = s.bit Reg.SECMB_FREE k := by
  rw [bit_congr (rd_releaseSlot s j _), bit_setB_ne _ _ h, bit_congr (rd_setB_ne s _ _ (by decide))]

theorem mb_releaseSlot_ne (s : State) (h : k ≠ j) : (s.releaseSlot j).mb k = s.mb k := mb_setMb_ne _ _ h

theorem shownFree_releaseSlot (s : State) (hk : k < 4) : ShownFree (s.releaseSlot k) k := by
  have h32 : k < 32 := by omega
  refine ⟨?_, ?_, congrArg MbSlot.phase (mb_setMb_same _ k { s.mb k with phase := .free })⟩
  · rw [bit_congr (rd_releaseSlot_done s k), bit_setB_same _ _ h32]
  · rw [bit_congr (rd_releaseSlot s k _), bit_setB_same _ _ h32]

theorem ShownFree.releaseSlot (h : ShownFree s k) (hj : j < 4) : ShownFree (s.releaseSlot j) k := by
  by_cases hkj : k = j
  · subst hkj
    exact shownFree_releaseSlot s hj
  · obtain ⟨hdone, hfree, hphase⟩ := h
    exact ⟨(bit_done_releaseSlot_ne s hkj).trans hdone, (bit_free_releaseSlot_ne s hkj).trans hfree,
      (congrArg MbSlot.phase (mb_releaseSlot_ne s hkj)).trans hphase⟩

/-- A slot that shows it is free already, or is of the list, shows it in the end. -/
theorem shownFree_foldl (hl : ∀ j ∈ l, j < 4) (h : k ∈ l ∨ ShownFree s k) :
    ShownFree (l.foldl State.releaseSlot s) k := by
  induction l generalizing s with
  | nil => simpa using h
  | cons j l ih =>
    have hj : j < 4 := hl j List.mem_cons_self
    refine ih (fun i hi => hl i (List.mem_cons_of_mem j hi)) ?_
    rcases h with hmem | hfree
    · rcases List.mem_cons.1 hmem with rfl | hmem
      · exact .inr (shownFree_releaseSlot s hj)
      · exact .inl hmem
    · exact .inr (hfree.releaseSlot hj)

/-- A slot outside the list stays as it is. -/
theorem foldl_releaseSlot_of_notMem (s : State) (h : k ∉ l) :
    (l.foldl State.releaseSlot s).bit Reg.SECMB_DONE k = s.bit Reg.SECMB_DONE k ∧
      (l.foldl State.releaseSlot s).mb k = s.mb k := by
  induction l generalizing s with
  | nil => exact ⟨rfl, rfl⟩
  | cons j l ih =>
    obtain ⟨hkj, hkl⟩ := not_or.1 (mt List.mem_cons.2 h)
    obtain ⟨hdone, hmb⟩ := ih (s.releaseSlot j) hkl
    exact ⟨hdone.trans (bit_done_releaseSlot_ne s hkj), hmb.trans (mb_releaseSlot_ne s hkj)⟩

theorem onlyRegs_foldl_releaseSlot (l : List Nat) (s : State) :
    OnlyRegs [Reg.SECMB_DONE, Reg.SECMB_FREE] { s with cust := (l.foldl State.releaseSlot s).cust }
      (l.foldl State.releaseSlot s) := by
  refine List.foldlRecOn
    (motive := fun t : State => OnlyRegs [Reg.SECMB_DONE, Reg.SECMB_FREE] { s with cust := t.cust } t) l _
    (OnlyRegs.refl _ s) fun t ht j _ => ?_
  exact ((ht.setB (by simp)).setB (by simp)).withCust _

/-- The event of the mailbox changes no register of it. -/
theorem bit_eventIf_mailbox (s : State) (c : Bool) {a : Nat} (i : Nat) (ha : 0x40006000 ≤ a) :
    (s.eventIf c 196).bit a i = s.bit a i := by
  cases c
  · rfl
  · exact bit_congr (rd_event_of_le s ha (by decide)) i

theorem ShownFree.eventIf (c : Bool) (h : ShownFree s k) : ShownFree (s.eventIf c 196) k := by
  obtain ⟨hdone, hfree, hphase⟩ := h
  rw [ShownFree, bit_eventIf_mailbox _ _ _ (by decide), bit_eventIf_mailbox _ _ _ (by decide),
    mb_congr (eventIf_cust s c 196)]
  exact ⟨hdone, hfree, hphase⟩

theorem exec_secmbDoneClear_of_none (h : s.cleared v = []) : exec (.secmbDoneClear v) s = .next s := by
  rw [exec_secmbDoneClear_eq, h, List.isEmpty_nil, Bool.not_true, Bool.and_false]
  rfl

end

/-! ### The TRNG (R464, R472) -/

section

variable {k r n : Nat} {f : Nat → Bool} {l : List Nat} {s t : State}

/-- The part of `State.refuseAll` for one slot. -/
def State.refuseWhere (r : Nat) (f : Nat → Bool) (s : State) (k : Nat) : State :=
  if ((s.mb k).phase == .running || (s.mb k).phase == .waiting) && f k then s.refuse k r else s

theorem refuseAll_eq (s : State) (r : Nat) (f : Nat → Bool) :
    s.refuseAll r f = forRange 4 s (State.refuseWhere r f) := rfl

theorem refuseWhere_induct {P : State → Prop} (h : P s) (hr : P (s.refuse k r)) : P (s.refuseWhere r f k) := by
  unfold State.refuseWhere
  split
  · exact hr
  · exact h

/-- What each refusal keeps, all of them keep. -/
theorem refuseAll_induct {P : State → Prop} (h : P s) (hr : ∀ k u, P u → P (u.refuse k r)) : P (s.refuseAll r f) :=
  forRange_induct h fun k _ u hu => refuseWhere_induct (f := f) hu (hr k u hu)

theorem mb_refuseWhere_ne {j : Nat} (s : State) (h : k ≠ j) : (s.refuseWhere r f j).mb k = s.mb k :=
  refuseWhere_induct (P := fun t => t.mb k = s.mb k) rfl (mb_refuse_ne s r h)

theorem mb_forRange_refuseWhere_of_le (h : n ≤ k) : (forRange n s (State.refuseWhere r f)).mb k = s.mb k := by
  induction n with
  | zero => rfl
  | succ n ih => rw [forRange_succ, mb_refuseWhere_ne _ (by omega), ih (by omega)]

/-- Only its own turn changes a slot. -/
theorem mb_forRange_refuseWhere_of_lt (h : k < n) : (forRange n s (State.refuseWhere r f)).mb k =
    ((forRange k s (State.refuseWhere r f)).refuseWhere r f k).mb k := by
  induction n with
  | zero => omega
  | succ n ih =>
    rw [forRange_succ]
    rcases Nat.lt_succ_iff_lt_or_eq.1 h with hlt | rfl
    · rw [mb_refuseWhere_ne _ (by omega), ih hlt]
    · rfl

theorem phase_refuseAll (hk : k < 4)
    (h : (((s.mb k).phase == .running || (s.mb k).phase == .waiting) && f k) = true) :
    ((s.refuseAll r f).mb k).phase = .refusing := by
  rw [refuseAll_eq, mb_forRange_refuseWhere_of_lt hk, State.refuseWhere,
    mb_forRange_refuseWhere_of_le (Nat.le_refl k), if_pos h]
  exact phase_refuse _ k r

theorem mb_refuseAll_of_not (hk : k < 4)
    (h : (((s.mb k).phase == .running || (s.mb k).phase == .waiting) && f k) = false) :
    (s.refuseAll r f).mb k = s.mb k := by
  have hbefore : (forRange k s (State.refuseWhere r f)).mb k = s.mb k := mb_forRange_refuseWhere_of_le (Nat.le_refl k)
  rw [refuseAll_eq, mb_forRange_refuseWhere_of_lt hk, State.refuseWhere, hbefore, h]
  exact hbefore

/-- What the TRNG has counted. -/
def CustSt.trng (c : CustSt) : Nat × Bool × Bool := (c.trngBad, c.trngWait, c.trngDead)

theorem trng_refuseAll (s : State) (r : Nat) (f : Nat → Bool) : (s.refuseAll r f).cust.trng = s.cust.trng :=
  refuseAll_induct (P := fun u => u.cust.trng = s.cust.trng) rfl fun _ _ hu => hu

theorem OnlyRegs.refuseAll (r : Nat) (f : Nat → Bool) (h : OnlyRegs l { s with cust := t.cust } t) :
    OnlyRegs l { s with cust := (t.refuseAll r f).cust } (t.refuseAll r f) :=
  refuseAll_induct (P := fun u => OnlyRegs l { s with cust := u.cust } u) h fun k u hu =>
    OnlyRegs.refuse (s := { s with cust := u.cust }) k r hu

theorem rd_refuseAll (s : State) (r : Nat) (f : Nat → Bool) (a : Nat) : (s.refuseAll r f).rd a = s.rd a :=
  refuseAll_induct (P := fun u => u.rd a = s.rd a) rfl fun k u hu => (rd_refuse u k r a).trans hu

/-- A health test has failed: one failure more in a row, the TRNG restarts, and `dead` says that it stays failed. -/
def State.trngFailed (s : State) (dead : Bool) : State :=
  { s with cust := { s.cust with trngBad := s.cust.trngBad + 1, trngWait := true, trngDead := dead } }

/-- The slots whose running requests a failing TRNG refuses. -/
def State.starved (s : State) (k : Nat) : Bool := needsRandom (s.mbSvc k) && (s.mb k).phase == .running

theorem State.starved_eq (s : State) (k : Nat) :
    s.starved k = (needsRandom (s.mbSvc k) && (s.mb k).phase == .running) := rfl

/-- A waiting request is not refused: it may start when the TRNG is back. -/
theorem refused_starved (s : State) (k : Nat) :
    (((s.mb k).phase == .running || (s.mb k).phase == .waiting) && s.starved k) =
      ((s.mb k).phase == .running && needsRandom (s.mbSvc k)) := by
  rw [State.starved_eq]
  cases (s.mb k).phase == MbPhase.running
  · simp
  · simp

theorem exec_trngHealthFail_of_few (h : s.cust.trngBad < 2) :
    exec .trngHealthFail s = .next ((s.trngFailed s.cust.trngDead).refuseAll 5 s.starved) := by
  have hbad : ¬ 3 ≤ s.cust.trngBad + 1 := by omega
  simp [execTrngHealthFail, hbad, State.trngFailed, funext s.starved_eq]

theorem exec_trngHealthFail_of_third (h : 2 ≤ s.cust.trngBad) : exec .trngHealthFail s =
    .next (((s.trngFailed true).setB Reg.SECMB_LIFE 4 true).refuseAll 5 s.starved) := by
  have hbad : 3 ≤ s.cust.trngBad + 1 := by omega
  simp [execTrngHealthFail, hbad, State.trngFailed, funext s.starved_eq]

end

end Sys2Proof.Machine
end

section

open Sys2Proof Sys2Proof.Machine

/-- Settles O47: each command is a few updates with rules of their own; the slots that a write frees, or a failing TRNG
refuses, are followed one at a time, each by its own turn. -/
theorem theMailboxTakesRequestsAndCompletesThem : Obligations.TheMailboxTakesRequestsAndCompletesThem := by
  unfold Obligations.TheMailboxTakesRequestsAndCompletesThem
  refine ⟨?busy, ?accepted, ?refused, ?done, ?windowEnd, ?clearNone, ?clear, ?healthFail, ?thirdFail, ?restart⟩
  case busy => exact fun k m v s hk h => exec_secmbDoorbell_of_busy hk h
  case accepted =>
    intro k m v s hk h ha
    have hk4 : k < 4 := hk ▸ Nat.mod_lt _ (by decide)
    refine ⟨_, exec_secmbDoorbell_of_accepted hk h ha, ?_, ?_, ?_, ?_, ?_, ?_, ?_,
      (onlyRegs_takeSlot m s k).queueRequest s k⟩
    · rw [rd_queueRequest, rd_takeSlot_result, doorbellWord_taken]
    · rw [rd_queueRequest, rd_takeSlot_status]
    · rw [bit_congr (rd_queueRequest _ k _), bit_takeSlot_free m s hk4]
    · rw [cust_queueRequest, cust_takeSlot]
    · rw [mb_queueRequest]
    · rw [mb_queueRequest, mb_congr (cust_takeSlot m s k)]
    · rw [cust_queueRequest, cust_takeSlot]
  case refused =>
    intro k r m v s hk h ha
    have hk4 : k < 4 := hk ▸ Nat.mod_lt _ (by decide)
    refine ⟨_, exec_secmbDoorbell_of_refused hk h ha, ?_, ?_, ?_, phase_refuse _ k r, ?_, ?_,
      (onlyRegs_takeSlot m s k).refuse k r⟩
    · rw [rd_refuse, rd_takeSlot_result, doorbellWord_taken]
    · rw [rd_refuse, rd_takeSlot_status]
    · rw [bit_congr (rd_refuse _ k r _), bit_takeSlot_free m s hk4]
    · rw [order_refuse, cust_takeSlot]
    · rw [audit_refuse, cust_takeSlot]
  case done =>
    intro k s h hlen
    refine ⟨_, exec_mailboxRequestDone_of_running h, ?_, rd_completeSlot_status k.isLt, bit_completeSlot_done k.isLt,
      pending1_completeSlot k.isLt, by rw [mb_completeSlot], by rw [mb_completeSlot], ?_, ?_, ?_, ?_⟩
    · rw [bytesAt_completeSlot, bytesAt_giveOutput hlen]
    · rw [cust_completeSlot, cust_giveOutput]
    · rw [cust_completeSlot, cust_giveOutput]
    · exact fun p hp i hi => (rd_completeSlot_param k.isLt hi).trans (rd_giveOutput_of_param hp hi)
    · exact fun hp i hi => (rd_completeSlot_param k.isLt hi).trans (rd_giveOutput_of_no_param hp _)
  case windowEnd =>
    intro k s h
    refine ⟨_, exec_refusalWindowEnd_of_refusing h, ?_, rd_completeSlot_status k.isLt, bit_completeSlot_done k.isLt,
      pending1_completeSlot k.isLt, by rw [mb_completeSlot], ?_⟩
    · rw [bytesAt_completeSlot, bytesAt_fillArea_nil]
    · rw [cust_completeSlot, cust_fillArea]
  case clearNone =>
    intro v s h
    refine exec_secmbDoneClear_of_none (List.filter_eq_nil_iff.2 fun k hk => ?_)
    simpa only [Bool.not_eq_true', Bool.not_eq_true] using List.all_eq_true.1 h k hk
  case clear =>
    intro v s h
    obtain ⟨i, hi, hdone⟩ := List.any_eq_true.1 h
    have hsome : (s.cleared v).isEmpty = false :=
      List.isEmpty_eq_false_iff_exists_mem.2 ⟨i, List.mem_filter.2 ⟨hi, hdone⟩⟩
    refine ⟨_, exec_secmbDoneClear_eq v s, ?_, ?_, ?_, ?_⟩
    · have hlt : ∀ j ∈ s.cleared v, j < 4 := fun j hj => (mem_cleared.1 hj).1
      exact fun k hk hc => (shownFree_foldl hlt (.inl (mem_cleared.2 ⟨hk, hc⟩))).eventIf _
    · intro k _ hc
      have hnot : k ∉ s.cleared v := fun hmem => by simp [mem_cleared.1 hmem] at hc
      obtain ⟨hbit, hmb⟩ := foldl_releaseSlot_of_notMem s hnot
      exact ⟨(bit_eventIf_mailbox _ _ k (by decide)).trans hbit, (mb_congr (eventIf_cust ..) k).trans hmb⟩
    · intro hfull
      rw [State.allBusy, hfull, hsome]
      exact pending1_event_self _ (by decide)
    · intro hfull
      rw [State.allBusy, hfull]
      exact onlyRegs_foldl_releaseSlot _ s
  case healthFail =>
    intro s h
    have htrng := trng_refuseAll (s.trngFailed s.cust.trngDead) 5 s.starved
    simp only [CustSt.trng, Prod.mk.injEq] at htrng
    obtain ⟨hbad, hwait, hdead⟩ := htrng
    refine ⟨_, exec_trngHealthFail_of_few h, hbad, hwait, hdead, ?_, ?_, ?_⟩
    · exact OnlyRegs.refuseAll (s := s) (t := s.trngFailed s.cust.trngDead) 5 s.starved (OnlyRegs.refl [] _)
    · intro k hk hc
      exact phase_refuseAll hk ((refused_starved s k).trans hc)
    · intro k hk hc
      exact mb_refuseAll_of_not hk ((refused_starved s k).trans hc)
  case thirdFail =>
    intro s h
    have htrng := trng_refuseAll ((s.trngFailed true).setB Reg.SECMB_LIFE 4 true) 5 s.starved
    simp only [CustSt.trng, Prod.mk.injEq] at htrng
    obtain ⟨-, -, hdead⟩ := htrng
    refine ⟨_, exec_trngHealthFail_of_third h, hdead, ?_, ?_⟩
    · rw [bit_congr (rd_refuseAll ..), bit_setB_same _ _ (by decide)]
    · exact OnlyRegs.refuseAll (s := s) (t := (s.trngFailed true).setB Reg.SECMB_LIFE 4 true) 5 s.starved
        ((OnlyRegs.refl _ (s.trngFailed true)).setB (by simp))
  case restart => exact exec_trngRestartDone

end

section
/-! PROOF. What a step answers: always a next state, with the canonical forms, the rest of the queue and the variant kept;
and the commands whose premise does not hold. -/

namespace Sys2Proof.Machine

variable {s t : State} {c : Instr}

/-! ### Every command answers a next state -/

/-- A meaning answers a next state. -/
def IsNext (o : Out) : Prop := ∃ t, o = .next t

theorem IsNext.next (t : State) : IsNext (.next t) := ⟨t, rfl⟩

theorem IsNext.ite {p : Prop} [Decidable p] {a b : Out} (ha : IsNext a) (hb : IsNext b) :
    IsNext (if p then a else b) := by
  split
  · exact ha
  · exact hb

/-- The meanings branch by `if` and `match`, and every branch ends in a next state. The named ones branch by `match`. -/
theorem isNext_exec (c : Instr) (s : State) : IsNext (exec c s) := by
  cases c
  all_goals simp only [exec,
    execAbsentUnitRead, execAbsentUnitWrite, execFarDieAccess, execFarDieResponse, execSpineRequestRepresented,
    execSpinePacketReceived, execSpineAckTimeout, execCatlSignatureDone, execAnnexBeginErased,
    execRescueBlockReceived, execRescueEraseDone, execSleepBlockersClear, execWakeInstantReached,
    execDisciplineStep, execActionEntryWrite, execActArm, execActCancel, execActRelease, execActTmpl,
    execStrobeReceived, execFrontTransitionEnd, execTuningGapGrant, execRetuneDone, execHeaderDecoded,
    execPayloadEnd, execLtsRead, execLtsRemove, execLtsDeriveDone, execBeaconSend, execBeaconAccepted,
    execAiropStart, execLbtListenEnd, execTransmissionOpen, execReceiveWindowClose, execAckReceived,
    execAckTimeout, execMacAssign, execJoinSend, execFloodRelay, execLinkOpSubmit, execNbrAdd, execNbrRead,
    execNbrRemove, execNbrReadIdx, execQeBankRestored, execMoverPacedRequest, execMoverDescriptorDone,
    execStoreAbort, execStorePulseEnd, execStoreResume, execPatrolReadDue, execPatrolReadDone,
    execPatrolRefreshResume, execSecmbDoorbell, execRelDecision, execRelVerdictReceived, execLockLineMessageEnd,
    execRelSessionEnd, execDoorInEdge, execSlipIntake, execTraceStatWrite, execRecallHolder, execHif2Read,
    execRingCompletionPost, execHifHostBusError, execPanelPowerDelayEnd, execPanelDelayEnd,
    execPanelBusyInactive, execPanelBusyTimeout, execPanelScriptEnd, execPanelDeferredFlip, execPanelHoldExpiry,
    execI2cBusBusyTimeout, execI2cStopSeen, execAdcConversionDone, execTransmitEnded, execRelExchangeEnd,
    execI2cTransferDone, execPsCommitReadDone]
  all_goals repeat' first
    | exact IsNext.next _
    | refine IsNext.ite ?_ ?_
    | split

/-! ### What every command keeps -/

/-- What a step is to keep: the canonical forms and the variant; the queue is as it was before the step's command ran. -/
def KeepsForms (s t : State) : Prop :=
  (s.regsWf = true → t.regsWf = true) ∧ (s.memWf = true → t.memWf = true) ∧ t.pending = s.pending ∧ t.variant = s.variant

theorem Kept.keepsForms (h : Kept s t) : KeepsForms s t := ⟨h.regs, h.mem, h.pending, h.variant⟩

/-- LIFECYCLE moves the lifecycle and nothing that the forms speak of. -/
theorem keepsForms_of_exec (h : exec c s = .next t) : KeepsForms s t := by
  by_cases hc : ∃ k, c = .lifecycle k
  · obtain ⟨k, rfl⟩ := hc
    obtain ⟨n, -, hout⟩ := Kept.execLifecycle k s
    rw [← exec_lifecycle, h] at hout
    exact Kept.keepsForms (s := { s with cust := { s.cust with life := n } }) hout
  · exact (kept_of_exec (fun k hk => hc ⟨k, hk⟩) h).keepsForms

end Sys2Proof.Machine
end

section

open Sys2Proof Sys2Proof.Machine

/-- Settles O3: idle time keeps the forms by `Kept`, a command by `keepsForms_of_exec`, and every command answers. -/
theorem everyStepKeepsTheCanonicalForms : Obligations.EveryStepKeepsTheCanonicalForms := by
  unfold Obligations.EveryStepKeepsTheCanonicalForms
  intro s hregs hmem
  cases hp : s.pending with
  | nil =>
    have hkept : Kept s s.idle := Kept.idle (Kept.rfl' s)
    exact ⟨s.idle, step_of_pending_nil hp, hkept.regs hregs, hkept.mem hmem, hkept.pending.trans hp, hkept.variant⟩
  | cons c q =>
    obtain ⟨t, ht⟩ := isNext_exec c { s with pending := q }
    obtain ⟨hr, hm, hq, hv⟩ := keepsForms_of_exec ht
    exact ⟨t, (step_of_pending_cons hp).trans ht, hr hregs, hm hmem, hq, hv⟩

/-- Settles O1: the two cases of a step, by the queue. -/
theorem aStepRunsTheCommandAtTheFront : Obligations.AStepRunsTheCommandAtTheFront := by
  unfold Obligations.AStepRunsTheCommandAtTheFront
  exact ⟨fun _ _ _ hp => step_of_pending_cons hp, fun _ hp => step_of_pending_nil hp⟩

end

section
/-! PROOF. Commands for something that has not come about: each leaves the state as it is (log entry 13). -/

namespace Sys2Proof.Machine

variable {s : State}

/-- No slip of a source is taken where none of it waits. -/
theorem takeFirst_eq_none {src : Nat} {l : List Word} (h : l.all (fun w => fld w 0 7 != src) = true) :
    takeFirst src l = none := by
  induction l with
  | nil => rfl
  | cons w l ih =>
    obtain ⟨hw, hl⟩ := Bool.and_eq_true_iff.1 h
    simp [takeFirst, bne_iff_ne.1 hw, ih hl]

theorem exec_slipIntake_of_none {src : Fin 128} (h : takeFirst src s.fault.waiting = none) :
    exec (.slipIntake src) s = .next s := by simp [execSlipIntake, h]

theorem exec_tuningGapGrant_of_no_request (power : Int) (h : s.link.tuneReq = none) :
    exec (.tuningGapGrant power) s = .next s := by simp [execTuningGapGrant, h]

/-- A running operation or recalibration leaves the tuner no gap. -/
theorem exec_tuningGapGrant_of_taken (power : Int) (h : s.radioFree = false ∨ s.bit Reg.CAL_STATUS 0 = true) :
    exec (.tuningGapGrant power) s = .next s := by
  have htaken : (!s.radioFree || s.bit Reg.CAL_STATUS 0) = true := by simpa using h
  rw [exec_tuningGapGrant, execTuningGapGrant]
  cases s.link.tuneReq with
  | none => rfl
  | some path => cases s.bandOfKhz (s.rdF Reg.RADIO_TX_FREQ 0 22) with
    | none => rfl
    | some b => simp [htaken]

theorem exec_retuneDone_of_not_tuning (first : Fin 256) (rest : List (Fin 64 × Fin 64 × Fin 256))
    (h : s.front.tuning = none ∨ s.fsm ≠ 5) : exec (.retuneDone first rest) s = .next s := by
  rw [exec_retuneDone, execRetuneDone]
  cases ht : s.front.tuning with
  | none => rfl
  | some path => simp [h.resolve_left (by simp [ht])]

theorem exec_frontPllUnlock_of_unpowered (h : s.fsm = 0 ∨ s.front.going.isSome = true) :
    exec .frontPllUnlock s = .next s := by
  have hoff : (s.frontPowered && s.front.going.isNone) = false := by
    rcases h with h | h
    · simp [State.frontPowered, h]
    · simp [Option.isNone_eq_false_iff.2 h]
  simp [execFrontPllUnlock, hoff]

theorem exec_preambleQualified_of_not (corr : Fin 256) (h : s.front.stage ≠ 1 ∨ corr.val ≤ s.rdF Reg.MODEM_CFG 8 8) :
    exec (.preambleQualified corr) s = .next s := by
  rcases h with h | h
  · simp [execPreambleQualified, h]
  · simp [execPreambleQualified, Nat.not_lt.2 h]

theorem exec_gen1SyncFound_of_not (errors : Fin 33) (ref : Nat)
    (h : s.front.stage ≠ 1 ∨ s.rdF Reg.MODEM_CFG 20 2 < errors.val) : exec (.gen1SyncFound errors ref) s = .next s := by
  rcases h with h | h
  · simp [execGen1SyncFound, h]
  · simp [execGen1SyncFound, Nat.not_le.2 h]

theorem exec_headerDecoded_of_not (header : BitVec 48) (ref : Nat) (h : s.front.stage ≠ 2 ∨ s.front.gen2 = false) :
    exec (.headerDecoded header ref) s = .next s := by
  rcases h with h | h
  · simp [execHeaderDecoded, h]
  · simp [execHeaderDecoded, h]

theorem exec_graceExpiry_of_not_expired (h : s.bit Reg.FAULT_STATUS 0 = false ∨ s.rdF Reg.FAULT_STATUS 16 16 ≠ 0) :
    exec .graceExpiry s = .next s := by
  rcases h with h | h
  · simp [execGraceExpiry, h]
  · simp [execGraceExpiry, h]

end Sys2Proof.Machine
end

section

open Sys2Proof Sys2Proof.Machine

/-- Settles O60: each command tests its premise first. -/
theorem commandsWithoutTheirPremiseChangeNothing : Obligations.CommandsWithoutTheirPremiseChangeNothing := by
  unfold Obligations.CommandsWithoutTheirPremiseChangeNothing
  refine ⟨?strobe, ?transition, ?overload, ?capture, ?loss, ?gap, ?retune, ?unlock, ?stage1, ?preamble, ?stage2, ?sync,
    ?header, ?payload, ?derive, ?mailbox, ?window, ?slip, ?grace⟩
  case strobe => exact fun b s h => by simp [execStrobeReceived, h]
  case transition => exact fun s h => by simp [execFrontTransitionEnd, h]
  case overload => exact fun s h3 h7 => by simp [execSamplerOverload, h3, h7]
  case capture => exact fun l s h => by simp [execRangingCaptureEnd, h]
  case loss => exact fun p rl s h4 h5 => by simp [execReturnLossLow, h4, h5]
  case gap =>
    exact fun power s h => h.elim (exec_tuningGapGrant_of_no_request power) (exec_tuningGapGrant_of_taken power)
  case retune => exact fun first rest s h => exec_retuneDone_of_not_tuning first rest h
  case unlock => exact fun s h => exec_frontPllUnlock_of_unpowered h
  case stage1 => exact fun p s h => by simp [execDetectStage1, h]
  case preamble => exact fun c s h => exec_preambleQualified_of_not c h
  case stage2 => exact fun s h => by simp [execDetectStage2Timeout, h]
  case sync => exact fun e r s h => exec_gen1SyncFound_of_not e r h
  case header => exact fun h r s hn => exec_headerDecoded_of_not h r hn
  case payload => exact fun l m s h => by simp [execPayloadEnd, h]
  case derive => exact fun s h => by simp [execLtsDeriveDone, h]
  case mailbox => exact fun k s h => by simp [execMailboxRequestDone, h]
  case window => exact fun k s h => by simp [execRefusalWindowEnd, h]
  case slip => exact fun src s h => exec_slipIntake_of_none (takeFirst_eq_none h)
  case grace => exact fun s h => exec_graceExpiry_of_not_expired h

end

section
/-! PROOF. What a reset of the core die leaves (03, table "What a reset clears"): the registers by what the backup domain
keeps, the bytes of main SRAM and the buffer pool, the fuses and the key store, the chronicle and the flash. -/

namespace Sys2Proof.Machine

variable {s t u : State}

/-! ### The store die through a reset (R32, R64) -/

/-- From `s` to `t` only the store die has changed: its own state, free values taken for it, its spine, and of the
registers STOR_PS_STATE. -/
def StoreLeft (s t : State) : Prop :=
  SameRegs [Reg.STOR_PS_STATE] s t ∧
    t = { s with regs := t.regs, freeCtr := t.freeCtr, store := t.store, spineS := t.spineS }

theorem StoreLeft.refl (s : State) : StoreLeft s s := ⟨fun _ _ => rfl, rfl⟩

theorem StoreLeft.trans (h1 : StoreLeft s t) (h2 : StoreLeft t u) : StoreLeft s u := by
  obtain ⟨hregs1, heq1⟩ := h1
  obtain ⟨hregs2, heq2⟩ := h2
  refine ⟨fun a ha => (hregs2 a ha).trans (hregs1 a ha), ?_⟩
  rw [heq1] at heq2
  exact heq2

/-- A change of the store die's own state and of the free values taken for it. -/
theorem StoreLeft.of_regs {r : List (Nat × Word)} {n : Nat} {st : StoreSt} {sp : Spine} (hr : r = s.regs) :
    StoreLeft s { s with regs := r, freeCtr := n, store := st, spineS := sp } := by
  subst hr
  exact ⟨fun _ _ => rfl, rfl⟩

theorem StoreLeft.foldl {α : Type} {f : State → α → State} (hf : ∀ t x, StoreLeft t (f t x)) (l : List α) (s : State) :
    StoreLeft s (l.foldl f s) := by
  induction l generalizing s with
  | nil => exact .refl s
  | cons x l ih => exact (hf s x).trans (ih _)

theorem storeLeft_spoil (s : State) (p : Nat) (is : List Nat) : StoreLeft s (s.spoil p is) :=
  StoreLeft.foldl (f := fun t i => { t.setFlash p i { data := 0, ecc := .undef t.freeCtr } with freeCtr := t.freeCtr + 2 })
    (fun _ _ => ⟨fun _ _ => rfl, rfl⟩) is s

theorem storeLeft_psTouch (s : State) (l : Nat) : StoreLeft s (s.psTouch l) := by
  unfold State.psTouch
  split
  · exact .refl s
  · split
    · exact ⟨fun a ha => rd_wrF_ne s _ _ _ (by simpa using ha), rfl⟩
    · exact .refl s

/-- The word or the sector that a cut leaves undefined (R424, R426). -/
def State.spoilCut (s : State) (o : LongOp) : State :=
  match o.stages.head? with
  | some (.prog p ((i, _) :: _)) => s.spoil p [i]
  | some (.erase p) => s.spoil p (List.range 256)
  | _ => s

theorem storeLeft_spoilCut (s : State) (o : LongOp) : StoreLeft s (s.spoilCut o) := by
  unfold State.spoilCut
  split
  · exact storeLeft_spoil s _ _
  · exact storeLeft_spoil s _ _
  · exact .refl s

/-- A refresh that patrol started waits again (R663). -/
def State.waitAgain (s : State) (o : LongOp) : State :=
  if o.op = 0 then { s with store := { s.store with refresh := s.store.refresh ++ [o.sector] } } else s

theorem cutOp_eq (s : State) (o : LongOp) : s.cutOp o = ((s.spoilCut o).endOp o 9 (opAddr o)).waitAgain o := rfl

theorem storeLeft_waitAgain (s : State) (o : LongOp) : StoreLeft s (s.waitAgain o) := by
  unfold State.waitAgain
  split
  · exact ⟨fun _ _ => rfl, rfl⟩
  · exact .refl s

/-- An operation that reports to no slot is cut. -/
theorem storeLeft_cutOp (s : State) (o : LongOp) : StoreLeft s (s.cutOp { o with slot := none }) := by
  have hend (t : State) (st a : Nat) : StoreLeft t (t.endOp { o with slot := none } st a) :=
    StoreLeft.trans (t := t.dropOp o.plane) ⟨fun _ _ => rfl, rfl⟩ (storeLeft_psTouch _ _)
  rw [cutOp_eq]
  exact ((storeLeft_spoilCut s _).trans (hend _ _ _)).trans (storeLeft_waitAgain _ _)

theorem storeLeft_storeThroughReset (s : State) : StoreLeft s s.storeThroughReset := by
  refine StoreLeft.trans (StoreLeft.foldl (fun t o => ?_) s.store.ops s) ⟨fun _ _ => rfl, rfl⟩
  split
  · exact ⟨fun _ _ => rfl, rfl⟩
  · split
    · exact storeLeft_cutOp t o
    · exact ⟨fun _ _ => rfl, rfl⟩
  · exact ⟨fun _ _ => rfl, rfl⟩

/-- The state whose registers a reset of the core die clears: an active-slot record that was being written is torn, and
the store die's operations have ended. -/
def State.beforeReset (s : State) : State := (if s.writesSlots then s.tearSlots else s).storeThroughReset

theorem storeLeft_beforeReset (s : State) : StoreLeft s s.beforeReset := by
  unfold State.beforeReset
  split
  · exact StoreLeft.trans ⟨fun _ _ => rfl, rfl⟩ (storeLeft_storeThroughReset _)
  · exact storeLeft_storeThroughReset s

theorem regsWf_beforeReset (h : s.regsWf = true) : s.beforeReset.regsWf = true := by
  have hkept : Kept s s.beforeReset := by
    unfold State.beforeReset
    exact Kept.storeThroughReset (Kept.ite' (Kept.tearSlots (Kept.rfl' s)) (Kept.rfl' s))
  exact hkept.regs h

/-- Without a store operation and a write of the slot record the store die keeps its words and maps. -/
theorem store_beforeReset (hops : s.store.ops = []) (hw : s.writesSlots = false) :
    s.beforeReset.store = { s.store with checks := [], reads := [], held := [], patrol := none } := by
  rw [State.beforeReset, hw, if_neg (by decide), State.storeThroughReset, hops]
  rfl

/-! ### The core die in reset (R64, R65) -/

variable {cold : Bool} {a : Nat} {c : ResetCause}

theorem mapGet_regs_ne_of_regsWf (h : s.regsWf = true) : mapGet s.regs a ≠ some (resetOf a) := by
  have hall := ((mapWf_iff _ _).1 h).2
  generalize s.regs = m at hall
  induction m with
  | nil => simp [mapGet]
  | cons e m ih =>
    obtain ⟨k, v⟩ := e
    unfold mapGet
    split
    · next hk =>
      intro hv
      exact hall (k, v) List.mem_cons_self (by rw [Option.some.inj hv, hk])
    · exact ih fun e he => hall e (List.mem_cons_of_mem _ he)

theorem rd_coreReset_of_cleared (hk : keepOverReset cold a = 0) : (s.coreReset cold).rd a = resetOf a :=
  (rd_congr rfl a).trans (rd_resetRegs_of_cleared s.beforeReset hk)

theorem rd_coreReset_of_kept (hwf : s.regsWf = true) (hk : keepOverReset cold a = 0xFFFFFFFF) :
    (s.coreReset cold).rd a = s.rd a := by
  have hne : a ≠ Reg.STOR_PS_STATE := by
    rintro rfl
    cases cold <;> exact absurd hk (by decide)
  calc (s.coreReset cold).rd a = (s.beforeReset.resetRegs (keepOverReset cold)).rd a := rd_congr rfl a
    _ = s.beforeReset.rd a := rd_resetRegs_of_kept hk (mapGet_regs_ne_of_regsWf (regsWf_beforeReset hwf))
    _ = s.rd a := (storeLeft_beforeReset s).1 a (by simpa using hne)

theorem StoreLeft.eq_of_indep {α : Type} (f : State → α) (h : StoreLeft s t)
    (hf : ∀ r n st sp, f { s with regs := r, freeCtr := n, store := st, spineS := sp } = f s) : f t = f s := by
  rw [h.2, hf]

@[simp] theorem coreReset_chron : (s.coreReset cold).chron = s.chron.throughReset :=
  (storeLeft_beforeReset s).eq_of_indep (fun t => t.chron.throughReset) fun _ _ _ _ => rfl

@[simp] theorem coreReset_cust : (s.coreReset cold).cust = s.cust.throughReset :=
  (storeLeft_beforeReset s).eq_of_indep (fun t => t.cust.throughReset) fun _ _ _ _ => rfl

@[simp] theorem coreReset_pwr : (s.coreReset cold).pwr = s.pwr.throughReset :=
  (storeLeft_beforeReset s).eq_of_indep (fun t => t.pwr.throughReset) fun _ _ _ _ => rfl

/-- What a reset of the core die leaves of what the boot ROM keeps. -/
def BootSt.throughReset (b : BootSt) : BootSt :=
  { b with phase := .held, annexW := none, rescue := none, resetDue := false }

@[simp] theorem coreReset_boot : (s.coreReset cold).boot = s.boot.throughReset :=
  (storeLeft_beforeReset s).eq_of_indep (fun t => t.boot.throughReset) fun _ _ _ _ => rfl

@[simp] theorem coreReset_variant : (s.coreReset cold).variant = s.variant :=
  (storeLeft_beforeReset s).eq_of_indep State.variant fun _ _ _ _ => rfl

theorem coreReset_store (hops : s.store.ops = []) (hw : s.writesSlots = false) :
    (s.coreReset cold).store = { s.store with checks := [], reads := [], held := [], patrol := none } :=
  store_beforeReset hops hw

theorem mapGet_filter_of_true {V : Type} {p : Nat → Bool} (m : List (Nat × V)) (h : p a = true) :
    mapGet (m.filter (fun e => p e.1)) a = mapGet m a := by
  induction m with
  | nil => rfl
  | cons e m ih =>
    obtain ⟨k, v⟩ := e
    by_cases hk : k = a
    · simp [mapGet, hk, h]
    · cases hp : p k
      · simp [mapGet, hk, hp, ih]
      · simp [mapGet, hk, hp, ih]

/-- Main SRAM and the buffer pool keep their bytes. -/
theorem byteAt_coreReset (h : memAreas a ≠ []) : (s.coreReset cold).byteAt a = s.byteAt a := by
  have hmem : (s.coreReset cold).mem = s.mem.filter (fun e => !(memAreas e.1).isEmpty) :=
    (storeLeft_beforeReset s).eq_of_indep (fun t : State => t.mem.filter (fun e : Host.Cell => !(memAreas e.1).isEmpty))
      fun _ _ _ _ => rfl
  have hd : (s.coreReset cold).memDflt a = s.memDflt a := by
    rw [State.memDflt, State.memDflt, coreReset_pwr]
    rfl
  rw [State.byteAt, State.byteAt, hmem, hd, mapGet_filter_of_true (p := fun x => !(memAreas x).isEmpty) _ (by simpa using h)]

/-! ### The cause of a reset -/

theorem rd_recordCause_cause (s : State) (c : ResetCause) :
    (s.recordCause c).rd Reg.RSTC_CAUSE = word (2 ^ c.bit) := by
  rw [State.recordCause, rd_setB_ne _ _ _ (by decide), rd_wr_same]

theorem bit_recordCause_hist (s : State) (c : ResetCause) : (s.recordCause c).bit Reg.RSTC_HIST c.bit = true :=
  bit_setB_same _ _ (by cases c <;> decide)

theorem rd_recordCause_ne (s : State) (c : ResetCause) (h1 : a ≠ Reg.RSTC_CAUSE) (h2 : a ≠ Reg.RSTC_HIST) :
    (s.recordCause c).rd a = s.rd a := by
  rw [State.recordCause, rd_setB_ne _ _ _ h2, rd_wr_ne _ _ h1]

/-! ### A warm reset (R64, R70) -/

/-- The state of a warm reset but for the pads' hold. -/
def State.warmed (s : State) (c : ResetCause) : State :=
  (((s.takeFree.2.coreReset false).keepBow (s.bit Reg.PWR_STATUS 0)).setB Reg.GPIO_HOLD 0 true).recordCause c

/-- What the pads are held at is set. -/
def State.withPadHold (s : State) (h : List (Nat × PadHold)) : State := { s with boot := { s.boot with padHold := h } }

@[simp] theorem rd_withPadHold (h : List (Nat × PadHold)) : (s.withPadHold h).rd a = s.rd a := rd_congr rfl a

@[simp] theorem byteAt_withPadHold (h : List (Nat × PadHold)) : (s.withPadHold h).byteAt a = s.byteAt a :=
  byteAt_congr rfl rfl a

@[simp] theorem store_withPadHold (h : List (Nat × PadHold)) : (s.withPadHold h).store = s.store := rfl

theorem warmReset_of_not_held (h : s.isHeld = false) :
    s.warmReset c = (s.warmed c).withPadHold (s.captureHold (Config.freeNat s.freeCtr)) := by
  rw [State.warmReset, h, if_neg (by decide)]
  rfl

theorem rd_warmed_ne (h1 : a ≠ Reg.RSTC_CAUSE) (h2 : a ≠ Reg.RSTC_HIST) (h3 : a ≠ Reg.GPIO_HOLD)
    (h4 : a ≠ Reg.PWR_STATUS) : (s.warmed c).rd a = (s.takeFree.2.coreReset false).rd a := by
  rw [State.warmed, rd_recordCause_ne _ _ h1 h2, rd_setB_ne _ _ _ h3, State.keepBow, rd_setB_ne _ _ _ h4]

theorem rd_warmed_of_cleared (hk : keepOverReset false a = 0)
    (h : a ∉ [Reg.RSTC_CAUSE, Reg.PWR_STATUS, Reg.GPIO_HOLD]) : (s.warmed c).rd a = resetOf a := by
  simp only [List.mem_cons, List.not_mem_nil, or_false, not_or] at h
  obtain ⟨hcause, hstatus, hhold⟩ := h
  have hhist : a ≠ Reg.RSTC_HIST := by
    rintro rfl
    exact absurd hk (by decide)
  rw [rd_warmed_ne hcause hhist hhold hstatus, rd_coreReset_of_cleared hk]

theorem rd_warmed_of_kept (hwf : s.regsWf = true) (hk : keepOverReset false a = 0xFFFFFFFF) (h : a ≠ Reg.RSTC_HIST) :
    (s.warmed c).rd a = s.rd a := by
  have hne {b : Nat} (hb : keepOverReset false b ≠ 0xFFFFFFFF) : a ≠ b := fun hab => hb (hab ▸ hk)
  rw [rd_warmed_ne (hne (by decide)) h (hne (by decide)) (hne (by decide)), rd_coreReset_of_kept (s := s.takeFree.2) hwf hk,
    rd_takeFree]

theorem boot_warmed : (s.warmed c).boot = s.boot.throughReset := by
  simp only [State.warmed, State.recordCause, State.keepBow, setB_boot, wr_boot, coreReset_boot]
  rfl

theorem cust_warmed : (s.warmed c).cust = s.cust.throughReset := by
  simp only [State.warmed, State.recordCause, State.keepBow, setB_cust, wr_cust, coreReset_cust]
  rfl

theorem chron_warmed : (s.warmed c).chron = s.chron.throughReset := by
  simp only [State.warmed, State.recordCause, State.keepBow, setB_chron, wr_chron, coreReset_chron]
  rfl

theorem store_warmed (hops : s.store.ops = []) (hw : s.writesSlots = false) :
    (s.warmed c).store = { s.store with checks := [], reads := [], held := [], patrol := none } := by
  simp only [State.warmed, State.recordCause, State.keepBow, setB_store, wr_store]
  exact coreReset_store (s := s.takeFree.2) hops hw

theorem byteAt_warmed (h : memAreas a ≠ []) : (s.warmed c).byteAt a = s.byteAt a := by
  have hmem : (s.warmed c).mem = (s.takeFree.2.coreReset false).mem := by
    simp only [State.warmed, State.recordCause, State.keepBow, setB_mem, wr_mem]
  have hpwr : (s.warmed c).pwr = (s.takeFree.2.coreReset false).pwr := by
    simp only [State.warmed, State.recordCause, State.keepBow, setB_pwr, wr_pwr]
  rw [byteAt_congr hmem (congrArg PwrSt.lost hpwr), byteAt_coreReset h, byteAt_takeFree]

/-- What the table of 03 says of a warm reset: the cause is recorded, the core die and the pads are held, the chronicle,
the fuses, the key store, flash and memory stay, and the registers are cleared or kept. -/
structure WarmlyReset (s t : State) (n : Nat) : Prop where
  cause : t.rd Reg.RSTC_CAUSE = word (2 ^ n)
  hist : t.bit Reg.RSTC_HIST n = true
  phase : t.boot.phase = .held
  resetDue : t.boot.resetDue = false
  hold : t.bit Reg.GPIO_HOLD 0 = true
  pads : t.boot.padHold = s.captureHold (Config.freeNat s.freeCtr)
  now : t.chron.now = s.chron.now
  keys : t.cust.keys = []
  keyStore : t.cust.store = s.cust.store
  life : t.cust.life = s.cust.life
  minBuild : t.boot.minBuild = s.boot.minBuild
  flash : s.store.ops = [] → s.writesSlots = false → t.store.flash = s.store.flash ∧ t.mirror = s.mirror
  cleared : ∀ a, keepOverReset false a = 0 → a ∉ [Reg.RSTC_CAUSE, Reg.PWR_STATUS, Reg.GPIO_HOLD] → t.rd a = resetOf a
  kept : ∀ a, keepOverReset false a = 0xFFFFFFFF → a ≠ Reg.RSTC_HIST → t.rd a = s.rd a
  memory : ∀ a, memAreas a ≠ [] → t.byteAt a = s.byteAt a

/-- The errata mirror is read from the words and maps of the flash. -/
theorem mirror_congr (h : t.store = { s.store with checks := [], reads := [], held := [], patrol := none }) :
    t.mirror = s.mirror := by
  have hstore : t.mirror = ({ s with store := t.store } : State).mirror := rfl
  rw [hstore, h]
  rfl

theorem warmlyReset_warmReset (hheld : s.isHeld = false) (hwf : s.regsWf = true) :
    WarmlyReset s (s.warmReset c) c.bit := by
  rw [warmReset_of_not_held hheld]
  have hboot : ((s.warmed c).withPadHold (s.captureHold (Config.freeNat s.freeCtr))).boot =
      { s.boot.throughReset with padHold := s.captureHold (Config.freeNat s.freeCtr) } := by
    rw [State.withPadHold, boot_warmed]
  have hcust : ((s.warmed c).withPadHold (s.captureHold (Config.freeNat s.freeCtr))).cust = s.cust.throughReset := by
    rw [State.withPadHold, cust_warmed]
  have hchron : ((s.warmed c).withPadHold (s.captureHold (Config.freeNat s.freeCtr))).chron = s.chron.throughReset := by
    rw [State.withPadHold, chron_warmed]
  exact {
    cause := by rw [rd_withPadHold, State.warmed, rd_recordCause_cause]
    hist := by rw [bit_congr (rd_withPadHold _), State.warmed, bit_recordCause_hist]
    phase := by rw [hboot, BootSt.throughReset]
    resetDue := by rw [hboot, BootSt.throughReset]
    hold := by
      rw [bit_congr (rd_withPadHold _), State.warmed, bit_congr (rd_recordCause_ne _ _ (by decide) (by decide)),
        bit_setB_same _ _ (by decide)]
    pads := by rw [hboot]
    now := by rw [hchron, ChronSt.throughReset]
    keys := by rw [hcust, CustSt.throughReset]
    keyStore := by rw [hcust, CustSt.throughReset]
    life := by rw [hcust, CustSt.throughReset]
    minBuild := by rw [hboot, BootSt.throughReset]
    flash := fun hops hw => by
      have hstore := (store_withPadHold (s := s.warmed c) (s.captureHold (Config.freeNat s.freeCtr))).trans
        (store_warmed hops hw)
      exact ⟨by rw [hstore], mirror_congr hstore⟩
    cleared := fun a hk ha => by rw [rd_withPadHold, rd_warmed_of_cleared hk ha]
    kept := fun a hk ha => by rw [rd_withPadHold, rd_warmed_of_kept hwf hk ha]
    memory := fun a ha => by rw [byteAt_withPadHold, byteAt_warmed ha] }

/-! ### The sources of a warm reset (R66; 03, RSTC registers) -/

theorem exec_rstNPulse_of_long {ns : Nat} (h : 10000 < ns) : exec (.rstNPulse ns) s = .next (s.warmReset .rstN) := by
  have hns : ¬ ns < 2000 := by omega
  simp [execRstNPulse, hns, h]

theorem exec_rstNPulse_of_short {ns : Nat} (h : ns < 2000) : exec (.rstNPulse ns) s = .next s := by
  simp [execRstNPulse, h]

theorem warmReset_of_held (h : s.isHeld = true) : s.warmReset c = s := by simp [State.warmReset, h]

theorem exec_rstNPulse_of_middling {ns : Nat} (hlo : 2000 ≤ ns) (hhi : ns ≤ 10000) : exec (.rstNPulse ns) s =
    .next (if s.takeFree.1 % 2 = 1 then s.takeFree.2.warmReset .rstN else s.takeFree.2) := by
  simp [execRstNPulse, Nat.not_lt.2 hlo, Nat.not_lt.2 hhi]

/-- A pulse of 2 to 10 µs resets by a free choice (log entry 30). -/
theorem exec_rstNPulse_between {ns : Nat} (hlo : 2000 ≤ ns) (hhi : ns ≤ 10000) :
    ∃ t, exec (.rstNPulse ns) s = .next t ∧
      (t = { s with freeCtr := s.freeCtr + 1 } ∨ s.isHeld = true ∨ t.rd Reg.RSTC_CAUSE = 4) := by
  refine ⟨_, exec_rstNPulse_of_middling hlo hhi, ?_⟩
  split
  · by_cases hheld : s.isHeld = true
    · exact .inr (.inl hheld)
    · have hfree : s.takeFree.2.isHeld = false := eq_false_of_ne_true hheld
      rw [warmReset_of_not_held hfree]
      exact .inr (.inr (rd_recordCause_cause _ .rstN))
  · exact .inl (by rfl)

theorem exec_softwareReset_of_key (s : State) : exec (.softwareReset 0x0C965A5A) s = .next (s.warmReset .software) := by
  simp [execSoftwareReset]

theorem exec_softwareReset_of_ne {key : Word} (h : key ≠ 0x0C965A5A) : exec (.softwareReset key) s = .next s := by
  rw [exec_softwareReset, execSoftwareReset, if_neg h]

theorem exec_debugReset_of_open (h : s.debugOpen = true) : exec .debugReset s = .next (s.warmReset .debug) := by
  simp [execDebugReset, h]

theorem exec_annexResetDelayExpiry_of_due (h : s.boot.resetDue = true) :
    exec .annexResetDelayExpiry s = .next (s.warmReset .software) := by
  simp [execAnnexResetDelayExpiry, h]

end Sys2Proof.Machine
end

section

open Sys2Proof Sys2Proof.Machine

/-- Settles O14: the sources of a warm reset take one and the same reset, `warmlyReset_warmReset`. -/
theorem warmResetsClearWhatTheTableSays : Obligations.WarmResetsClearWhatTheTableSays := by
  unfold Obligations.WarmResetsClearWhatTheTableSays
  refine ⟨?pulse, ?short, ?between, ?software, ?otherKey, ?debug, ?closed, ?annex⟩
  case pulse =>
    intro ns s hns hheld hwf
    obtain ⟨hcause, hhist, hphase, -, hhold, hpads, hnow, hkeys, hstore, hlife, hmin, hflash, hcleared, hkept, hmem⟩ :=
      warmlyReset_warmReset (c := .rstN) hheld hwf
    exact ⟨_, exec_rstNPulse_of_long hns, hcause, hhist, hphase, hhold, hpads, hnow, hkeys, hstore, hlife, hmin, hflash,
      hcleared, hkept, hmem⟩
  case short => exact fun ns s hns => exec_rstNPulse_of_short hns
  case between => exact fun ns s hlo hhi => exec_rstNPulse_between hlo hhi
  case software =>
    intro s hheld hwf
    obtain ⟨hcause, hhist, hphase, -, hhold, hpads, hnow, hkeys, hstore, hlife, hmin, hflash, hcleared, hkept, hmem⟩ :=
      warmlyReset_warmReset (c := .software) hheld hwf
    exact ⟨_, exec_softwareReset_of_key s, hcause, hhist, hphase, hhold, hpads, hnow, hkeys, hstore, hlife, hmin, hflash,
      hcleared, hkept, hmem⟩
  case otherKey => exact fun key s hkey => exec_softwareReset_of_ne hkey
  case debug =>
    intro s hopen hheld hwf
    obtain ⟨hcause, hhist, hphase, -, hhold, hpads, hnow, hkeys, hstore, hlife, hmin, hflash, hcleared, hkept, hmem⟩ :=
      warmlyReset_warmReset (c := .debug) hheld hwf
    exact ⟨_, exec_debugReset_of_open hopen, hcause, hhist, hphase, hhold, hpads, hnow, hkeys, hstore, hlife, hmin, hflash,
      hcleared, hkept, hmem⟩
  case closed => exact fun s hclosed => by simp [execDebugReset, hclosed]
  case annex =>
    intro s hdue hheld hwf
    obtain ⟨hcause, hhist, hphase, hreset, hhold, hpads, hnow, hkeys, hstore, hlife, hmin, hflash, hcleared, hkept, hmem⟩ :=
      warmlyReset_warmReset (c := .software) hheld hwf
    exact ⟨_, exec_annexResetDelayExpiry_of_due hdue, hreset, hcause, hhist, hphase, hhold, hpads, hnow, hkeys, hstore,
      hlife, hmin, hflash, hcleared, hkept, hmem⟩

end

section
/-! PROOF. The fault collector (16; R531 to R543, R554): what a slip taken leaves in the collector's registers and in the
trace, the reaction of each class, and the clears, the expiry, the injection and the trace reads. -/

namespace Sys2Proof.Machine

/-! ### Fields and bits of other registers -/

section

variable (s : State) {a b : Nat}

theorem rdF_wr_ne {lo len : Nat} (v : Word) (h : b ≠ a) : (s.wr a v).rdF b lo len = s.rdF b lo len :=
  rdF_congr (rd_wr_ne s v h) lo len

theorem rdF_setB_of_ne {lo len : Nat} (i : Nat) (x : Bool) (h : b ≠ a) : (s.setB a i x).rdF b lo len = s.rdF b lo len :=
  rdF_wr_ne s _ h

theorem rdF_wrF_of_ne {lo len : Nat} (l n v : Nat) (h : b ≠ a) : (s.wrF a l n v).rdF b lo len = s.rdF b lo len :=
  rdF_wr_ne s _ h

theorem rdF_satAdd_of_ne {lo len : Nat} (l n v : Nat) (h : b ≠ a) : (s.satAdd a l n v).rdF b lo len = s.rdF b lo len :=
  rdF_wr_ne s _ h

theorem bit_wr_ne {i : Nat} (v : Word) (h : b ≠ a) : (s.wr a v).bit b i = s.bit b i := bit_congr (rd_wr_ne s v h) i

theorem bit_setB_of_ne {i : Nat} (j : Nat) (x : Bool) (h : b ≠ a) : (s.setB a j x).bit b i = s.bit b i := bit_wr_ne s _ h

theorem bit_wrF_of_ne {i : Nat} (l n v : Nat) (h : b ≠ a) : (s.wrF a l n v).bit b i = s.bit b i := bit_wr_ne s _ h

theorem bit_satAdd_of_ne {i : Nat} (l n v : Nat) (h : b ≠ a) : (s.satAdd a l n v).bit b i = s.bit b i := bit_wr_ne s _ h

theorem pending1_wr_ne {k : Nat} (v : Word) (h : Reg.INTC_PEND (k / 32) ≠ a) : (s.wr a v).pending1 k = s.pending1 k :=
  bit_wr_ne s v h

/-- The units below the interrupt selector, PWR_COUNT apart, hold no event source's register. -/
theorem rd_event_of_lt {n : Nat} (ha : a < 0x40005000) (hp : a ≠ Reg.PWR_COUNT) : (s.event n).rd a = s.rd a := by
  refine rd_event_ne s ?_ ?_ hp
  all_goals
    simp only [Reg.INTC_PEND, Reg.INTC_OVR]
    omega

end

/-! ### A slip is taken (R533, R541, R554) -/

section

variable {s t : State} {w : Word} {src cls n : Nat}

theorem src_of_takeFirst {l rest : List Word} (h : takeFirst src l = some (w, rest)) : fld w 0 7 = src := by
  induction l generalizing rest with
  | nil => simp [takeFirst] at h
  | cons x l ih =>
    unfold takeFirst at h
    split at h
    · next hx =>
      simp only [Option.some.injEq, Prod.mk.injEq] at h
      rw [← h.1, hx]
    · cases hl : takeFirst src l with
      | none => simp [hl] at h
      | some p =>
        simp only [hl, Option.some.injEq, Prod.mk.injEq] at h
        exact ih (rest := p.2) (by rw [hl, ← h.1])

/-- The slips that wait. -/
def State.withWaiting (s : State) (l : List Word) : State := { s with fault := { s.fault with waiting := l } }

theorem exec_slipIntake_of_some {k : Fin 128} {rest : List Word} (h : takeFirst k s.fault.waiting = some (w, rest)) :
    exec (.slipIntake k) s = .next (((s.withWaiting rest).takeSlip w).noteSlip k) := by
  rw [exec_slipIntake, execSlipIntake, h]
  rfl

/-- A further slip of a source whose sticky bit is set is counted. -/
def State.countRepeat (s : State) (src : Nat) : State :=
  if s.bit (Reg.FAULT_STICKY (src / 32)) (src % 32) then s.satAdd Reg.FAULT_COUNT 16 8 else s

/-- The slip is entered in the collector: counted as a repeat, its sticky bit set, and traced. -/
def State.collect (s : State) (w : Word) (src cls : Nat) : State :=
  ((s.countRepeat src).setB (Reg.FAULT_STICKY (src / 32)) (src % 32) true).trace w src cls

/-- The reaction to a note slip: NOTES and event 4. -/
def State.countNote (s : State) : State := (s.satAdd Reg.FAULT_COUNT 0 16).event 4

theorem takeSlip_note (h : s.promoted (fld w 0 7) (fld w 13 2) = 0) : s.takeSlip w =
    (s.collect w (fld w 0 7) 0).countNote := by
  simp only [State.takeSlip, h]
  rfl

theorem takeSlip_recoverable (h : s.promoted (fld w 0 7) (fld w 13 2) = 1) :
    s.takeSlip w = (s.collect w (fld w 0 7) 1).event 5 := by
  simp only [State.takeSlip, h]
  rfl

theorem takeSlip_severe (h : s.promoted (fld w 0 7) (fld w 13 2) = 2) :
    s.takeSlip w = (s.collect w (fld w 0 7) 2).severe (fld w 0 7) := by
  simp only [State.takeSlip, h]
  rfl

theorem takeSlip_grave (h : s.promoted (fld w 0 7) (fld w 13 2) = 3) :
    s.takeSlip w = (s.collect w (fld w 0 7) 3).graveHold w := by
  simp only [State.takeSlip, h]
  rfl

/-- Whether a slip of a class is to enter the trace. -/
def State.traced (s : State) (src cls : Nat) : Prop := 2 ≤ cls ∨ s.faultMap src / 4 % 2 = 1

theorem trace_of_not_traced (h : ¬ s.traced src cls) : s.trace w src cls = s := by
  obtain ⟨hcls, hmap⟩ := not_or.1 h
  simp [State.trace, hcls, hmap]

theorem trace_of_full (h : s.traced src cls) (hfull : 16 ≤ s.fault.trace.length) :
    s.trace w src cls = s.satAdd Reg.FAULT_TRACE_STAT 8 8 := by
  have hc : (decide (2 ≤ cls) || s.faultMap src / 4 % 2 == 1) = true := by simpa [State.traced] using h
  simp only [State.trace, hc, if_true, if_pos hfull]

/-- The trace FIFO. -/
def State.withTrace (s : State) (l : List TraceEntry) : State := { s with fault := { s.fault with trace := l } }

theorem trace_of_room (h : s.traced src cls) (hroom : s.fault.trace.length < 16) :
    s.trace w src cls = s.withTrace (s.fault.trace ++ [⟨setFld w 13 2 cls, word s.ticks⟩]) := by
  have hc : (decide (2 ≤ cls) || s.faultMap src / 4 % 2 == 1) = true := by simpa [State.traced] using h
  simp only [State.trace, hc, if_true, if_neg (Nat.not_le.2 hroom)]
  rfl

@[simp] theorem rd_withTrace (l : List TraceEntry) (a : Nat) : (s.withTrace l).rd a = s.rd a := rd_congr rfl a

@[simp] theorem rd_withWaiting (l : List Word) (a : Nat) : (s.withWaiting l).rd a = s.rd a := rd_congr rfl a

@[simp] theorem rd_noteSlip (k a : Nat) : (s.noteSlip k).rd a = s.rd a := rd_congr rfl a

/-- What tracing may do: nothing, count a slip as lost, or enter it. -/
theorem trace_cases (w : Word) (src cls : Nat) : s.trace w src cls = s ∨
    s.trace w src cls = s.satAdd Reg.FAULT_TRACE_STAT 8 8 ∨
    s.trace w src cls = s.withTrace (s.fault.trace ++ [⟨setFld w 13 2 cls, word s.ticks⟩]) := by
  by_cases h : s.traced src cls
  · by_cases hfull : 16 ≤ s.fault.trace.length
    · exact .inr (.inl (trace_of_full h hfull))
    · exact .inr (.inr (trace_of_room h (by omega)))
  · exact .inl (trace_of_not_traced h)

theorem rd_trace_ne {a : Nat} (w : Word) (src cls : Nat) (h : a ≠ Reg.FAULT_TRACE_STAT) :
    (s.trace w src cls).rd a = s.rd a := by
  rcases trace_cases (s := s) w src cls with e | e | e
  · rw [e]
  · rw [e, rd_satAdd_ne _ _ _ _ h]
  · rw [e, rd_withTrace]

theorem waiting_trace (w : Word) (src cls : Nat) : (s.trace w src cls).fault.waiting = s.fault.waiting := by
  rcases trace_cases (s := s) w src cls with e | e | e
  · rw [e]
  · rw [e, satAdd_fault]
  · rw [e, State.withTrace]

theorem trace_trace (w : Word) (src cls : Nat) :
    (s.traced src cls → s.fault.trace.length < 16 →
      (s.trace w src cls).fault.trace = s.fault.trace ++ [⟨setFld w 13 2 cls, word s.ticks⟩]) ∧
    (¬ s.traced src cls → (s.trace w src cls).fault.trace = s.fault.trace) ∧
    (s.traced src cls → 16 ≤ s.fault.trace.length →
      (s.trace w src cls).rdF Reg.FAULT_TRACE_STAT 8 8 = min (s.rdF Reg.FAULT_TRACE_STAT 8 8 + 1) 255 ∧
        (s.trace w src cls).fault.trace = s.fault.trace) := by
  refine ⟨fun h hroom => ?_, fun h => ?_, fun h hfull => ?_⟩
  · rw [trace_of_room h hroom, State.withTrace]
  · rw [trace_of_not_traced h]
  · rw [trace_of_full h hfull, rdF_satAdd_same _ (by decide), satAdd_fault]
    exact ⟨rfl, rfl⟩

/-- The slip is in the collector but not yet in the trace. -/
def State.enter (s : State) (src : Nat) : State :=
  (s.countRepeat src).setB (Reg.FAULT_STICKY (src / 32)) (src % 32) true

theorem collect_eq (s : State) (w : Word) (src cls : Nat) : s.collect w src cls = (s.enter src).trace w src cls := rfl

theorem count_ne_sticky (h : src < 128) : Reg.FAULT_COUNT ≠ Reg.FAULT_STICKY (src / 32) := by
  simp only [Reg.FAULT_STICKY, Reg.FAULT_COUNT]
  omega

theorem onlyRegs_enter (s : State) (src : Nat) :
    OnlyRegs [Reg.FAULT_STICKY (src / 32), Reg.FAULT_COUNT] s (s.enter src) := by
  unfold State.enter State.countRepeat
  split
  · exact ((OnlyRegs.refl _ s).satAdd (by simp)).setB (by simp)
  · exact (OnlyRegs.refl _ s).setB (by simp)

theorem sticky_enter (s : State) (src : Nat) : (s.enter src).bit (Reg.FAULT_STICKY (src / 32)) (src % 32) = true :=
  bit_setB_same _ _ (Nat.mod_lt _ (by decide))

theorem repeats_enter (s : State) (h : src < 128) : (s.enter src).rdF Reg.FAULT_COUNT 16 8 =
    if s.bit (Reg.FAULT_STICKY (src / 32)) (src % 32) then min (s.rdF Reg.FAULT_COUNT 16 8 + 1) 255
    else s.rdF Reg.FAULT_COUNT 16 8 := by
  rw [State.enter, rdF_setB_of_ne _ _ _ (count_ne_sticky h), State.countRepeat]
  split
  · exact rdF_satAdd_same _ (by decide)
  · rfl

theorem notes_enter (s : State) (h : src < 128) :
    (s.enter src).rdF Reg.FAULT_COUNT 0 16 = s.rdF Reg.FAULT_COUNT 0 16 := by
  rw [State.enter, rdF_setB_of_ne _ _ _ (count_ne_sticky h), State.countRepeat]
  split
  · exact rdF_wrF_ne _ _ (by decide)
  · rfl

@[simp] theorem fault_enter (s : State) (src : Nat) : (s.enter src).fault = s.fault :=
  (onlyRegs_enter s src).eq_of_indep State.fault fun _ => rfl

@[simp] theorem ticks_enter (s : State) (src : Nat) : (s.enter src).ticks = s.ticks :=
  (onlyRegs_enter s src).eq_of_indep State.ticks fun _ => rfl

theorem rd_enter_ne {a : Nat} (s : State) (h1 : a ≠ Reg.FAULT_STICKY (src / 32)) (h2 : a ≠ Reg.FAULT_COUNT) :
    (s.enter src).rd a = s.rd a := (onlyRegs_enter s src).1 a (by simp [h1, h2])

theorem faultMap_enter (s : State) (h : src < 128) : (s.enter src).faultMap src = s.faultMap src := by
  refine rdF_congr (rd_enter_ne s ?_ ?_) _ _
  all_goals
    simp only [Reg.FAULT_MAP, Reg.FAULT_STICKY, Reg.FAULT_COUNT]
    omega

theorem collect_of_indep {α : Type} (f : State → α) (s : State) (w : Word) (src cls : Nat)
    (hr : ∀ u r x, f { u with regs := r, fault := x } = f u) : f (s.collect w src cls) = f s := by
  have henter : f (s.enter src) = f s := (onlyRegs_enter s src).eq_of_indep f fun r => hr s r s.fault
  rw [collect_eq, ← henter]
  rcases trace_cases (s := s.enter src) w src cls with e | e | e
  · rw [e]
  · rw [e]
    exact hr (s.enter src) _ (s.enter src).fault
  · rw [e]
    exact hr (s.enter src) (s.enter src).regs _

@[simp] theorem boot_collect (s : State) (w : Word) (src cls : Nat) : (s.collect w src cls).boot = s.boot :=
  collect_of_indep State.boot s w src cls fun _ _ _ => rfl

@[simp] theorem cust_collect (s : State) (w : Word) (src cls : Nat) : (s.collect w src cls).cust = s.cust :=
  collect_of_indep State.cust s w src cls fun _ _ _ => rfl

theorem byteAt_collect (s : State) (w : Word) (src cls a : Nat) : (s.collect w src cls).byteAt a = s.byteAt a :=
  collect_of_indep (fun t => t.byteAt a) s w src cls fun _ _ _ => rfl

/-- From `s` to `t` the collector has taken a slip of a source with its promoted class, its reaction still to come. -/
structure Collected (s t : State) (w : Word) (src cls : Nat) : Prop where
  waiting : t.fault.waiting = s.fault.waiting
  sticky : t.bit (Reg.FAULT_STICKY (src / 32)) (src % 32) = true
  repeats : t.rdF Reg.FAULT_COUNT 16 8 =
    if s.bit (Reg.FAULT_STICKY (src / 32)) (src % 32) then min (s.rdF Reg.FAULT_COUNT 16 8 + 1) 255
    else s.rdF Reg.FAULT_COUNT 16 8
  notes : t.rdF Reg.FAULT_COUNT 0 16 = s.rdF Reg.FAULT_COUNT 0 16
  entered : s.traced src cls → s.fault.trace.length < 16 →
    t.fault.trace = s.fault.trace ++ [⟨setFld w 13 2 cls, word s.ticks⟩]
  untraced : ¬ s.traced src cls → t.fault.trace = s.fault.trace
  lost : s.traced src cls → 16 ≤ s.fault.trace.length →
    t.rdF Reg.FAULT_TRACE_STAT 8 8 = min (s.rdF Reg.FAULT_TRACE_STAT 8 8 + 1) 255 ∧ t.fault.trace = s.fault.trace
  others : ∀ a, a ∉ [Reg.FAULT_STICKY (src / 32), Reg.FAULT_COUNT, Reg.FAULT_TRACE_STAT] → t.rd a = s.rd a

theorem collected_collect (s : State) (w : Word) (cls : Nat) (h : src < 128) :
    Collected s (s.collect w src cls) w src cls := by
  obtain ⟨hentered, huntraced, hlost⟩ := trace_trace (s := s.enter src) w src cls
  have hstat : Reg.FAULT_TRACE_STAT ≠ Reg.FAULT_STICKY (src / 32) := by
    simp only [Reg.FAULT_STICKY, Reg.FAULT_TRACE_STAT]
    omega
  have htraced : (s.enter src).traced src cls ↔ s.traced src cls := by
    rw [State.traced, faultMap_enter s h, State.traced]
  rw [fault_enter, htraced] at hentered hlost
  rw [fault_enter, htraced] at huntraced
  rw [ticks_enter] at hentered
  rw [rdF_congr (rd_enter_ne s hstat (by decide))] at hlost
  rw [collect_eq]
  have hcount : ((s.enter src).trace w src cls).rd Reg.FAULT_COUNT = (s.enter src).rd Reg.FAULT_COUNT :=
    rd_trace_ne _ _ _ (by decide)
  exact {
    waiting := by rw [waiting_trace, fault_enter]
    sticky := by rw [bit_congr (rd_trace_ne _ _ _ hstat.symm), sticky_enter]
    repeats := by rw [rdF_congr hcount, repeats_enter s h]
    notes := by rw [rdF_congr hcount, notes_enter s h]
    entered := hentered
    untraced := huntraced
    lost := hlost
    others := fun a ha => by
      simp only [List.mem_cons, List.not_mem_nil, or_false, not_or] at ha
      obtain ⟨hsticky, hcount, hstat⟩ := ha
      rw [rd_trace_ne _ _ _ hstat, rd_enter_ne s hsticky hcount] }

/-! ### The severe reaction (R535, R554) -/

/-- The severe reaction but for the grace timer. -/
def State.severePend (s : State) (src : Nat) : State := (s.setB (Reg.FAULT_SEVPEND (src / 32)) (src % 32) true).event 7

theorem rd_severePend_ne {a : Nat} (ha : a < 0x40005000) (hp : a ≠ Reg.PWR_COUNT)
    (hs : a ≠ Reg.FAULT_SEVPEND (src / 32)) : (s.severePend src).rd a = s.rd a := by
  rw [State.severePend, rd_event_of_lt _ ha hp, rd_setB_ne _ _ _ hs]

theorem severe_of_running (h : s.bit Reg.FAULT_STATUS 0 = true) : s.severe src = s.severePend src := by
  simp only [State.severe, h, if_true, State.severePend]

theorem severe_of_idle (h : s.bit Reg.FAULT_STATUS 0 = false) : s.severe src =
    ((s.severePend src).setB Reg.FAULT_STATUS 0 true).wrF Reg.FAULT_STATUS 16 16 (s.rdF Reg.FAULT_CFG 0 16) := by
  simp only [State.severe, h, Bool.false_eq_true, if_false, State.severePend]

theorem rd_severe_ne {a : Nat} (ha : a < 0x40005000) (hp : a ≠ Reg.PWR_COUNT)
    (hs : a ≠ Reg.FAULT_SEVPEND (src / 32)) (ht : a ≠ Reg.FAULT_STATUS) : (s.severe src).rd a = s.rd a := by
  cases h : s.bit Reg.FAULT_STATUS 0 with
  | true => rw [severe_of_running h, rd_severePend_ne ha hp hs]
  | false => rw [severe_of_idle h, rd_wrF_ne _ _ _ _ ht, rd_setB_ne _ _ _ ht, rd_severePend_ne ha hp hs]

@[simp] theorem fault_severe : (s.severe src).fault = s.fault := by
  cases h : s.bit Reg.FAULT_STATUS 0 with
  | true => simp [severe_of_running h, State.severePend]
  | false => simp [severe_of_idle h, State.severePend]

theorem severe_spec (hsrc : src < 128) :
    (s.severe src).bit (Reg.FAULT_SEVPEND (src / 32)) (src % 32) = true ∧ (s.severe src).pending1 7 = true ∧
      (s.severe src).bit Reg.FAULT_STATUS 0 = true ∧
      (s.severe src).rdF Reg.FAULT_STATUS 16 16 =
        if s.bit Reg.FAULT_STATUS 0 then s.rdF Reg.FAULT_STATUS 16 16 else s.rdF Reg.FAULT_CFG 0 16 := by
  have hlt : Reg.FAULT_SEVPEND (src / 32) < 0x40005000 := by
    simp only [Reg.FAULT_SEVPEND]
    omega
  have hne : Reg.FAULT_STATUS ≠ Reg.FAULT_SEVPEND (src / 32) := by
    simp only [Reg.FAULT_SEVPEND, Reg.FAULT_STATUS]
    omega
  have hcount : Reg.FAULT_SEVPEND (src / 32) ≠ Reg.PWR_COUNT := by
    simp only [Reg.FAULT_SEVPEND, Reg.PWR_COUNT]
    omega
  have hpend : (s.severePend src).bit (Reg.FAULT_SEVPEND (src / 32)) (src % 32) = true := by
    rw [State.severePend, bit_congr (rd_event_of_lt _ hlt hcount), bit_setB_same _ _ (Nat.mod_lt _ (by decide))]
  have hevent : (s.severePend src).pending1 7 = true := pending1_event_self _ (by decide)
  have hstatus : (s.severePend src).rd Reg.FAULT_STATUS = s.rd Reg.FAULT_STATUS :=
    rd_severePend_ne (by decide) (by decide) hne
  cases h : s.bit Reg.FAULT_STATUS 0 with
  | true =>
    rw [severe_of_running h]
    exact ⟨hpend, hevent, (bit_congr hstatus 0).trans h, rdF_congr hstatus _ _⟩
  | false =>
    rw [severe_of_idle h]
    refine ⟨?_, ?_, ?_, ?_⟩
    · rw [bit_wrF_of_ne _ _ _ _ hne.symm, bit_setB_of_ne _ _ _ hne.symm, hpend]
    · rw [State.wrF, pending1_wr_ne _ _ (by decide), State.setB, State.wrF, pending1_wr_ne _ _ (by decide), hevent]
    · rw [bit_wrF_ne _ (by decide), bit_setB_same _ _ (by decide)]
    · rw [rdF_wrF_same _ _ (by decide)]
      exact Nat.mod_eq_of_lt (Nat.mod_lt _ (by decide))

theorem OnlyEvents.severe {l : List Nat} (h : OnlyEvents l s t) (hs : Reg.FAULT_SEVPEND (src / 32) ∈ l)
    (hp : Reg.INTC_PEND (7 / 32) ∈ l) (ho : Reg.INTC_OVR ∈ l) (ht : Reg.FAULT_STATUS ∈ l) :
    OnlyEvents l s (t.severe src) := by
  cases hb : t.bit Reg.FAULT_STATUS 0 with
  | true => exact severe_of_running hb ▸ (h.setB hs).event hp ho
  | false => exact severe_of_idle hb ▸ ((((h.setB hs).event hp ho).setB ht).wrF ht)

end

/-! ### The grave hold (R538, R540) -/

section

variable {s t : State} {w : Word} {a b : Nat} {v x : Word} {src cls : Nat}

/-- A register map lists an address with this value alone, or not at all where the value is the reset value. -/
def ListedAs (m : List (Nat × Word)) (a : Nat) (v : Word) : Prop :=
  (∀ e ∈ m, e.1 = a → e.2 = v) ∧ ((∃ e ∈ m, e.1 = a) ∨ v = resetOf a)

theorem mem_mapErase_iff {e : Nat × Word} {m : List (Nat × Word)} (h : e.1 ≠ b) : e ∈ mapErase m b ↔ e ∈ m := by
  induction m with
  | nil => rfl
  | cons d m ih =>
    obtain ⟨k, y⟩ := d
    by_cases hk : k = b
    · have hne : e ≠ (k, y) := fun he => h ((congrArg Prod.fst he).trans hk)
      simp [mapErase, hk, ih, hk ▸ hne]
    · simp [mapErase, hk, ih]

theorem mem_mapIns_iff {e : Nat × Word} {m : List (Nat × Word)} : e ∈ mapIns m b x ↔ e = (b, x) ∨ e ∈ m := by
  induction m with
  | nil => simp [mapIns]
  | cons d m ih =>
    obtain ⟨k, y⟩ := d
    by_cases hk : b < k
    · simp [mapIns, hk]
    · simp [mapIns, hk, ih, or_left_comm]

theorem listedAs_wr_same (s : State) (a : Nat) (v : Word) : ListedAs (s.wr a v).regs a v := by
  unfold State.wr mapPut
  split
  · next hv => exact ⟨fun e he hk => absurd hk (mem_mapErase_ne he), .inr hv⟩
  · refine ⟨fun e he hk => ?_, .inl ⟨(a, v), ?_, rfl⟩⟩
    · rcases mem_mapIns he with rfl | he
      · rfl
      · exact absurd hk (mem_mapErase_ne he)
    · exact mem_mapIns_iff.2 (.inl rfl)

theorem ListedAs.wr (h : ListedAs s.regs a v) (hb : b ≠ a) : ListedAs (s.wr b x).regs a v := by
  have hmem (e : Nat × Word) (he : e.1 = a) : e ∈ (s.wr b x).regs ↔ e ∈ s.regs := by
    unfold State.wr mapPut
    have hne : e.1 ≠ b := fun hk => hb (hk.symm.trans he)
    split
    · exact mem_mapErase_iff hne
    · rw [mem_mapIns_iff, mem_mapErase_iff hne]
      exact or_iff_right fun hk => hne (congrArg Prod.fst hk)
  obtain ⟨hall, hsome⟩ := h
  refine ⟨fun e he hk => hall e ((hmem e hk).1 he) hk, hsome.imp_left ?_⟩
  rintro ⟨e, he, hk⟩
  exact ⟨e, (hmem e hk).2 he, hk⟩

/-- Listed registers that are written over others read as listed. -/
theorem mapGet_restore {m : List (Nat × Word)} {r : List (Nat × Word)} (hm : ListedAs m a v)
    (hr : (mapGet r a).getD (resetOf a) = resetOf a) :
    (mapGet (m.foldl (fun r e => mapPut (resetOf e.1) r e.1 e.2) r) a).getD (resetOf a) = v := by
  have key : ∀ (m : List (Nat × Word)) (r : List (Nat × Word)), (∀ e ∈ m, e.1 = a → e.2 = v) →
      ((∃ e ∈ m, e.1 = a) ∨ (mapGet r a).getD (resetOf a) = v) →
      (mapGet (m.foldl (fun r e => mapPut (resetOf e.1) r e.1 e.2) r) a).getD (resetOf a) = v := by
    intro m
    induction m with
    | nil => exact fun r _ h => h.resolve_left (by simp)
    | cons e m ih =>
      intro r hall h
      refine ih _ (fun e he => hall e (List.mem_cons_of_mem _ he)) ?_
      by_cases hk : e.1 = a
      · right
        rw [← hall e List.mem_cons_self hk, ← hk, mapGet_mapPut_same]
      · rcases h with ⟨e', he', hk'⟩ | h
        · rcases List.mem_cons.1 he' with rfl | he'
          · exact absurd hk' hk
          · exact .inl ⟨e', he', hk'⟩
        · right
          rw [mapGet_mapPut_ne _ _ _ (Ne.symm hk), h]
  obtain ⟨hall, hsome⟩ := hm
  exact key m r hall (hsome.imp_right fun hv => hr.trans hv.symm)

theorem hold_of_not_held (p : BootPhase) (h : s.isHeld = false) :
    s.hold p = { s.coreReset true with boot := { (s.coreReset true).boot with phase := p, padHold := [] } } := by
  simp only [State.hold, h, Bool.false_eq_true, if_false]

/-- A register of the collector reads in the grave hold as it was when the hold began. -/
theorem rd_graveHold (h : s.isHeld = false) (hlist : ListedAs (s.wr Reg.FAULT_GRAVE w).regs a v)
    (hlo : 0x40004000 ≤ a) (hhi : a < 0x40005000) (hk : keepOverReset true a = 0) : (s.graveHold w).rd a = v := by
  have hpage : ListedAs ((s.wr Reg.FAULT_GRAVE w).regs.filter
      (fun e => 0x40004000 ≤ e.1 && e.1 < 0x40005000)) a v := by
    obtain ⟨hall, hsome⟩ := hlist
    refine ⟨fun e he => hall e (List.mem_filter.1 he).1, hsome.imp_left ?_⟩
    rintro ⟨e, he, rfl⟩
    exact ⟨e, List.mem_filter.2 ⟨he, by simp [hlo, hhi]⟩, rfl⟩
  have hreset : (mapGet (s.hold .grave).regs a).getD (resetOf a) = resetOf a := by
    rw [hold_of_not_held _ h]
    exact rd_coreReset_of_cleared hk
  have hrd := mapGet_restore hpage hreset
  simpa only [State.graveHold, h, Bool.false_eq_true, if_false, State.rd] using hrd

theorem cust_graveHold (h : s.isHeld = false) :
    (s.graveHold w).cust = { s.cust.throughReset with unlocked := s.cust.unlocked } := by
  simp only [State.graveHold, hold_of_not_held _ h, coreReset_cust]

theorem boot_graveHold (h : s.isHeld = false) :
    (s.graveHold w).boot = { s.boot.throughReset with phase := .grave, padHold := [] } := by
  simp only [State.graveHold, hold_of_not_held _ h, coreReset_boot]

theorem byteAt_graveHold (h : s.isHeld = false) (ha : memAreas a ≠ []) : (s.graveHold w).byteAt a = s.byteAt a := by
  have hmem : (s.graveHold w).mem = (s.coreReset true).mem := by
    simp only [State.graveHold, hold_of_not_held _ h]
  have hpwr : (s.graveHold w).pwr = (s.coreReset true).pwr := by
    simp only [State.graveHold, hold_of_not_held _ h]
  rw [byteAt_congr hmem (congrArg PwrSt.lost hpwr), byteAt_coreReset ha]

theorem keep_sticky (h : src < 128) : keepOverReset true (Reg.FAULT_STICKY (src / 32)) = 0 := by
  have hall : ∀ j : Fin 4, keepOverReset true (Reg.FAULT_STICKY j) = 0 := by decide
  exact hall ⟨src / 32, by omega⟩

theorem listedAs_sticky_collect (s : State) (w : Word) (cls : Nat) (h : src < 128) :
    ListedAs (s.collect w src cls).regs (Reg.FAULT_STICKY (src / 32))
      ((s.enter src).rd (Reg.FAULT_STICKY (src / 32))) := by
  have henter : ListedAs (s.enter src).regs (Reg.FAULT_STICKY (src / 32))
      ((s.enter src).rd (Reg.FAULT_STICKY (src / 32))) := by
    rw [State.enter, State.setB, State.wrF, rd_wr_same]
    exact listedAs_wr_same _ _ _
  have hstat : Reg.FAULT_TRACE_STAT ≠ Reg.FAULT_STICKY (src / 32) := by
    simp only [Reg.FAULT_STICKY, Reg.FAULT_TRACE_STAT]
    omega
  rw [collect_eq]
  rcases trace_cases (s := s.enter src) w src cls with e | e | e
  · rw [e]
    exact henter
  · rw [e]
    exact henter.wr hstat
  · rw [e]
    exact henter

/-- What the grave hold leaves of the collector, the fuses, the key store, the pads and memory. -/
theorem graveHold_collect (s : State) (w : Word) (hsrc : src < 128) (h : s.isHeld = false) :
    ((s.collect w src 3).graveHold w).boot.phase = .grave ∧
      ((s.collect w src 3).graveHold w).rd Reg.FAULT_GRAVE = w ∧
      ((s.collect w src 3).graveHold w).bit (Reg.FAULT_STICKY (src / 32)) (src % 32) = true ∧
      ((s.collect w src 3).graveHold w).cust = { s.cust.throughReset with unlocked := s.cust.unlocked } ∧
      ((s.collect w src 3).graveHold w).boot.padHold = [] ∧
      ∀ a, memAreas a ≠ [] → ((s.collect w src 3).graveHold w).byteAt a = s.byteAt a := by
  have hheld : (s.collect w src 3).isHeld = false := by rw [State.isHeld, boot_collect, ← State.isHeld, h]
  have hgrave : Reg.FAULT_GRAVE ≠ Reg.FAULT_STICKY (src / 32) := by
    simp only [Reg.FAULT_STICKY, Reg.FAULT_GRAVE]
    omega
  refine ⟨?_, ?_, ?_, ?_, ?_, fun a ha => ?_⟩
  · rw [boot_graveHold hheld]
  · exact rd_graveHold hheld (listedAs_wr_same _ _ _) (by decide) (by decide) (by decide)
  · have hrd := rd_graveHold (w := w) hheld ((listedAs_sticky_collect s w 3 hsrc).wr (x := w) hgrave)
      (by simp only [Reg.FAULT_STICKY]; omega) (by simp only [Reg.FAULT_STICKY]; omega) (keep_sticky hsrc)
    rw [State.bit, hrd]
    exact sticky_enter s src
  · rw [cust_graveHold hheld, cust_collect]
  · rw [boot_graveHold hheld]
  · rw [byteAt_graveHold hheld ha, byteAt_collect]

end

section

variable {s : State} {w : Word} {rest : List Word} {k : Fin 128}

@[simp] theorem cust_noteSlip (s : State) (n : Nat) : (s.noteSlip n).cust = s.cust := rfl

@[simp] theorem boot_noteSlip (s : State) (n : Nat) : (s.noteSlip n).boot = s.boot := rfl

@[simp] theorem byteAt_noteSlip (s : State) (n a : Nat) : (s.noteSlip n).byteAt a = s.byteAt a := byteAt_congr rfl rfl a

@[simp] theorem fault_noteSlip (s : State) (n : Nat) : (s.noteSlip n).fault = s.fault := rfl

theorem exec_slipIntake_of_note (h : takeFirst k s.fault.waiting = some (w, rest))
    (hp : s.promoted k (fld w 13 2) = 0) : exec (.slipIntake k) s =
    .next ((((s.withWaiting rest).collect w k 0).countNote).noteSlip k) := by
  have hsrc := src_of_takeFirst h
  rw [exec_slipIntake_of_some h, takeSlip_note (by rw [hsrc]; exact hp), hsrc]

theorem exec_slipIntake_of_recoverable (h : takeFirst k s.fault.waiting = some (w, rest))
    (hp : s.promoted k (fld w 13 2) = 1) : exec (.slipIntake k) s =
    .next ((((s.withWaiting rest).collect w k 1).event 5).noteSlip k) := by
  have hsrc := src_of_takeFirst h
  rw [exec_slipIntake_of_some h, takeSlip_recoverable (by rw [hsrc]; exact hp), hsrc]

theorem exec_slipIntake_of_severe (h : takeFirst k s.fault.waiting = some (w, rest))
    (hp : s.promoted k (fld w 13 2) = 2) : exec (.slipIntake k) s =
    .next ((((s.withWaiting rest).collect w k 2).severe k).noteSlip k) := by
  have hsrc := src_of_takeFirst h
  rw [exec_slipIntake_of_some h, takeSlip_severe (by rw [hsrc]; exact hp), hsrc]

theorem exec_slipIntake_of_grave (h : takeFirst k s.fault.waiting = some (w, rest))
    (hp : s.promoted k (fld w 13 2) = 3) : exec (.slipIntake k) s =
    .next ((((s.withWaiting rest).collect w k 3).graveHold w).noteSlip k) := by
  have hsrc := src_of_takeFirst h
  rw [exec_slipIntake_of_some h, takeSlip_grave (by rw [hsrc]; exact hp), hsrc]

end

/-! ### What the reactions leave of the collector's registers -/

section

variable {s : State} {src : Nat}

theorem sticky_lt (k : Fin 128) : Reg.FAULT_STICKY (k / 32) < 0x40005000 := by
  simp only [Reg.FAULT_STICKY]
  omega

theorem sticky_ne_pwr (k : Fin 128) : Reg.FAULT_STICKY (k / 32) ≠ Reg.PWR_COUNT := by
  simp only [Reg.FAULT_STICKY, Reg.PWR_COUNT]
  omega

theorem sevpend_lt (k : Fin 128) : Reg.FAULT_SEVPEND (k / 32) < 0x40005000 := by
  simp only [Reg.FAULT_SEVPEND]
  omega

theorem sevpend_ne_pwr (k : Fin 128) : Reg.FAULT_SEVPEND (k / 32) ≠ Reg.PWR_COUNT := by
  simp only [Reg.FAULT_SEVPEND, Reg.PWR_COUNT]
  omega

/-- The registers of the collector that `collect` may change. -/
def collectRegs (k : Nat) : List Nat := [Reg.FAULT_STICKY (k / 32), Reg.FAULT_COUNT, Reg.FAULT_TRACE_STAT]

theorem sevpend_not_mem (k : Fin 128) : Reg.FAULT_SEVPEND (k / 32) ∉ collectRegs k := by
  simp only [collectRegs, List.mem_cons, List.not_mem_nil, or_false, Reg.FAULT_SEVPEND, Reg.FAULT_STICKY,
    Reg.FAULT_COUNT, Reg.FAULT_TRACE_STAT]
  omega

theorem status_not_mem (k : Fin 128) : Reg.FAULT_STATUS ∉ collectRegs k := by
  simp only [collectRegs, List.mem_cons, List.not_mem_nil, or_false, Reg.FAULT_STATUS, Reg.FAULT_STICKY,
    Reg.FAULT_COUNT, Reg.FAULT_TRACE_STAT]
  omega

theorem cfg_not_mem (k : Fin 128) : Reg.FAULT_CFG ∉ collectRegs k := by
  simp only [collectRegs, List.mem_cons, List.not_mem_nil, or_false, Reg.FAULT_CFG, Reg.FAULT_STICKY,
    Reg.FAULT_COUNT, Reg.FAULT_TRACE_STAT]
  omega

theorem not_traced_of_low {cls : Nat} (hc : cls < 2) (h : s.faultMap src / 4 % 2 = 0) : ¬ s.traced src cls := by
  rw [State.traced]
  omega

theorem rd_severe_sticky (s : State) (k : Fin 128) :
    (s.severe k).rd (Reg.FAULT_STICKY (k / 32)) = s.rd (Reg.FAULT_STICKY (k / 32)) := by
  refine rd_severe_ne (sticky_lt k) (sticky_ne_pwr k) ?_ ?_
  all_goals
    simp only [Reg.FAULT_STICKY, Reg.FAULT_SEVPEND, Reg.FAULT_STATUS]
    omega

theorem rd_severe_count (s : State) (k : Fin 128) : (s.severe k).rd Reg.FAULT_COUNT = s.rd Reg.FAULT_COUNT := by
  refine rd_severe_ne (by decide) (by decide) ?_ (by decide)
  simp only [Reg.FAULT_SEVPEND, Reg.FAULT_COUNT]
  omega

theorem rd_severe_traceStat (s : State) (k : Fin 128) :
    (s.severe k).rd Reg.FAULT_TRACE_STAT = s.rd Reg.FAULT_TRACE_STAT := by
  refine rd_severe_ne (by decide) (by decide) ?_ (by decide)
  simp only [Reg.FAULT_SEVPEND, Reg.FAULT_TRACE_STAT]
  omega

theorem rd_countNote_ne {a : Nat} (s : State) (ha : a < 0x40005000) (hp : a ≠ Reg.PWR_COUNT)
    (hc : a ≠ Reg.FAULT_COUNT) : s.countNote.rd a = s.rd a := by
  rw [State.countNote, rd_event_of_lt _ ha hp, rd_satAdd_ne _ _ _ _ hc]

@[simp] theorem fault_countNote (s : State) : s.countNote.fault = s.fault := by simp [State.countNote]

theorem rd_countNote_count (s : State) :
    s.countNote.rd Reg.FAULT_COUNT = (s.satAdd Reg.FAULT_COUNT 0 16).rd Reg.FAULT_COUNT :=
  rd_event_of_lt _ (by decide) (by decide)

theorem OnlyRegs.withFault {l : List Nat} {t : State} (f : FaultSt) (h : OnlyRegs l s t) :
    OnlyRegs l { s with fault := f } { t with fault := f } := h.map (fun u => { u with fault := f }) rfl (fun _ => rfl)

/-- A severe slip that finds room in the trace changes registers of the collector and of event 7 alone. -/
theorem onlyEvents_severeSlip {rest : List Word} {k : Fin 128} (w : Word) (hroom : s.fault.trace.length < 16)
    (c : CycSt) :
    OnlyEvents ([Reg.FAULT_STICKY (k / 32), Reg.FAULT_SEVPEND (k / 32), Reg.FAULT_COUNT, Reg.FAULT_STATUS] ++ eventRegs 7)
      { s with fault := ((s.withWaiting rest).collect w k 2).fault, cyc := c }
      { ((s.withWaiting rest).collect w k 2).severe k with cyc := c } := by
  have hlen : ((s.withWaiting rest).enter k).fault.trace.length < 16 := by
    rw [fault_enter]
    exact hroom
  rw [collect_eq, trace_of_room (.inl (Nat.le_refl 2)) hlen]
  have henter := (onlyRegs_enter (s.withWaiting rest) k).withFault (((s.withWaiting rest).enter k).withTrace
    (((s.withWaiting rest).enter k).fault.trace ++
      [⟨setFld w 13 2 2, word ((s.withWaiting rest).enter k).ticks⟩])).fault
  exact ((henter.events.mono (by simp)).severe (by simp) (by simp [eventRegs]) (by simp [eventRegs]) (by simp)).withCyc c

/-- A slip of a class that does not hold the part leaves its sticky bit set. -/
theorem sticky_takeSlip {w : Word} {k : Fin 128} (s : State) (hsrc : fld w 0 7 = k)
    (hp : s.promoted k (fld w 13 2) ≠ 3) : (s.takeSlip w).bit (Reg.FAULT_STICKY (k / 32)) (k % 32) = true := by
  have hcls : fld w 13 2 < 4 := Nat.mod_lt _ (by decide)
  have hlt : s.promoted k (fld w 13 2) ≤ 3 := by
    unfold State.promoted
    split
    · next h =>
      simp only [Bool.and_eq_true, decide_eq_true_eq] at h
      omega
    · omega
  have hlow : s.promoted k (fld w 13 2) = 0 ∨ s.promoted k (fld w 13 2) = 1 ∨ s.promoted k (fld w 13 2) = 2 := by omega
  rcases hlow with h | h | h
  · rw [takeSlip_note (by rw [hsrc]; exact h), hsrc, bit_congr (rd_countNote_ne _ (sticky_lt k) (sticky_ne_pwr k)
      (count_ne_sticky k.isLt).symm), (collected_collect s w 0 k.isLt).sticky]
  · rw [takeSlip_recoverable (by rw [hsrc]; exact h), hsrc, bit_congr (rd_event_of_lt _ (sticky_lt k) (sticky_ne_pwr k)),
      (collected_collect s w 1 k.isLt).sticky]
  · rw [takeSlip_severe (by rw [hsrc]; exact h), hsrc, bit_congr (rd_severe_sticky _ k),
      (collected_collect s w 2 k.isLt).sticky]

end

/-! ### Clears, expiry, injection and the trace reads (R534, R536, R542, R543) -/

section

variable {s : State} {v w : Word} {j src cls : Nat}

/-- The sources of a register whose slip came in the running cycle. -/
def State.fresh (s : State) (j : Nat) : List Nat := s.cyc.slips.filter (fun src => src / 32 == j)

theorem clearing_of_none (v : Word) (h : ∀ x ∈ s.cyc.slips, x / 32 ≠ j) : s.clearing j v = v := by
  have hnil : s.cyc.slips.filter (fun src => src / 32 == j) = [] :=
    List.filter_eq_nil_iff.2 fun x hx => by simpa using h x hx
  rw [State.clearing, hnil]
  rfl

theorem bitOf_setBit_false {i k : Nat} (v : Word) (h : bitOf v i = false) : bitOf (setFld v k 1 0) i = false := by
  by_cases hik : i = k
  · subst hik
    by_cases hi : i < 32
    · exact bitOf_setBit_same v false hi
    · exact BitVec.getLsbD_of_ge _ _ (by omega)
  · rw [bitOf_setFld_ne _ _ (by omega), h]

theorem bitOf_foldl_clear {l : List Nat} {v : Word} (h : src ∈ l ∨ bitOf v (src % 32) = false) :
    bitOf (l.foldl (fun w x => setFld w (x % 32) 1 0) v) (src % 32) = false := by
  induction l generalizing v with
  | nil => simpa using h
  | cons x l ih =>
    refine ih ?_
    rcases h with h | h
    · rcases List.mem_cons.1 h with rfl | h
      · exact .inr (bitOf_setBit_same v false (Nat.mod_lt _ (by decide)))
      · exact .inl h
    · exact .inr (bitOf_setBit_false v h)

/-- A slip of the cycle keeps its sticky bit over a clear. -/
theorem bitOf_clearing (v : Word) (hmem : src ∈ s.cyc.slips) (hj : src / 32 = j) :
    bitOf (s.clearing j v) (src % 32) = false :=
  bitOf_foldl_clear (.inl (List.mem_filter.2 ⟨hmem, by simpa using hj⟩))

/-- The registers after a clear of the ones of a word. -/
def State.clearSticky (s : State) (j : Nat) (v : Word) : State :=
  (s.wr (Reg.FAULT_STICKY j) (s.rd (Reg.FAULT_STICKY j) &&& ~~~ v)).wr (Reg.FAULT_SEVPEND j)
    (s.rd (Reg.FAULT_SEVPEND j) &&& ~~~ v)

/-- The cycle notes whether a severe-pending bit was set. -/
def State.noteSevere (s : State) (b : Bool) : State := { s with cyc := { s.cyc with severe := b } }

/-- Recall is allowed again for every resource. -/
def State.allowRecall (s : State) : State := { s with fault := { s.fault with noRecall := [] } }

theorem exec_stickyClear_eq (k : Fin 4) (w : Word) (s : State) : exec (.stickyClear k w) s =
    if k = 0 && bitOf (s.clearing k w) 4 then
      .next (((s.clearSticky k (s.clearing k w)).noteSevere (s.cyc.severe || s.anySevere)).allowRecall)
    else .next ((s.clearSticky k (s.clearing k w)).noteSevere (s.cyc.severe || s.anySevere)) := rfl

theorem OnlyRegs.withFaultCyc {l : List Nat} {s t : State} (f : FaultSt) (c : CycSt) (h : OnlyRegs l s t) :
    OnlyRegs l { s with fault := f, cyc := c } { t with fault := f, cyc := c } :=
  h.map (fun u => { u with fault := f, cyc := c }) rfl (fun _ => rfl)

theorem firstRegister_iff (k : Fin 4) (b : Bool) : (k = 0 && b) = true ↔ k.val = 0 ∧ b = true := by
  rw [Bool.and_eq_true, decide_eq_true_eq, Fin.ext_iff]
  rfl

theorem sticky_ne_sevpend (k : Fin 4) : Reg.FAULT_STICKY k ≠ Reg.FAULT_SEVPEND k := by
  simp only [Reg.FAULT_STICKY, Reg.FAULT_SEVPEND]
  omega

@[simp] theorem rd_noteSevere (b : Bool) (a : Nat) : (s.noteSevere b).rd a = s.rd a := rd_congr rfl a

@[simp] theorem rd_allowRecall (a : Nat) : s.allowRecall.rd a = s.rd a := rd_congr rfl a

theorem rd_clearSticky_sticky (k : Fin 4) (v : Word) :
    (s.clearSticky k v).rd (Reg.FAULT_STICKY k) = s.rd (Reg.FAULT_STICKY k) &&& ~~~ v := by
  rw [State.clearSticky, rd_wr_ne _ _ (sticky_ne_sevpend k), rd_wr_same]

theorem rd_clearSticky_sevpend (k : Fin 4) (v : Word) :
    (s.clearSticky k v).rd (Reg.FAULT_SEVPEND k) = s.rd (Reg.FAULT_SEVPEND k) &&& ~~~ v := rd_wr_same _ _ _

theorem onlyRegs_clearSticky (s : State) (j : Nat) (v : Word) :
    OnlyRegs [Reg.FAULT_STICKY j, Reg.FAULT_SEVPEND j] s (s.clearSticky j v) :=
  ((OnlyRegs.refl _ s).wr (by simp)).wr (by simp)

theorem exec_stickyClear_sticky (k : Fin 4) (w : Word) (s : State) : ∃ t, exec (.stickyClear k w) s = .next t ∧
    t.rd (Reg.FAULT_STICKY k) = s.rd (Reg.FAULT_STICKY k) &&& ~~~ s.clearing k w := by
  rw [exec_stickyClear_eq]
  split
  · exact ⟨_, rfl, by rw [rd_allowRecall, rd_noteSevere, rd_clearSticky_sticky]⟩
  · exact ⟨_, rfl, by rw [rd_noteSevere, rd_clearSticky_sticky]⟩

theorem bitOf_and_not (v w : Word) {i : Nat} : bitOf (v &&& ~~~ w) i = (bitOf v i && !bitOf w i) := by
  by_cases hi : i < 32
  · simp [bitOf, hi]
  · simp [bitOf, BitVec.getLsbD_of_ge _ _ (Nat.not_lt.1 hi)]

theorem exec_graceExpiry_of_severe (h0 : s.bit Reg.FAULT_STATUS 0 = true) (hn : s.rdF Reg.FAULT_STATUS 16 16 = 0)
    (hs : s.anySevere = true) (hd : s.wdogDue = false) : exec .graceExpiry s = .next (s.warmReset .fault) := by
  simp [execGraceExpiry, h0, hn, hs, hd]

theorem exec_graceExpiry_of_calm (h0 : s.bit Reg.FAULT_STATUS 0 = true) (hn : s.rdF Reg.FAULT_STATUS 16 16 = 0)
    (hs : s.anySevere = false) (hc : s.cyc.severe = false) :
    exec .graceExpiry s = .next (s.setB Reg.FAULT_STATUS 0 false) := by
  simp [execGraceExpiry, h0, hn, hs, hc]

theorem exec_faultInject_of_grave (h : fld v 13 2 = 3) : exec (.faultInject v) s = .next (s.satAdd Reg.FAULT_STATUS 8 8) := by
  simp [execFaultInject, h]

theorem exec_faultInject_of_not_grave (h : fld v 13 2 ≠ 3) :
    exec (.faultInject v) s = .next (s.slip 127 0x11 (fld v 13 2) (fld v 16 16)) := by
  simp [execFaultInject, h]

theorem exec_traceSlipRead_of_empty {m : Master} (hl : s.locked m = false) (h : m ≠ .debug ∨ s.fault.trace = []) :
    exec (.traceSlipRead m) s = .next (s.answer 0) := by
  have hread : s.readTraceSlip m = (0, s) := by
    unfold State.readTraceSlip
    split
    · next e t hm => simp_all
    · rfl
  simp [execTraceSlipRead, hl, hread]

theorem exec_traceSlipRead_of_debug {e : TraceEntry} {l : List TraceEntry} (hl : s.locked .debug = false)
    (h : s.fault.trace = e :: l) : exec (.traceSlipRead .debug) s = .next ((s.withTrace l).answer e.slip) := by
  simp only [exec_traceSlipRead, execTraceSlipRead, hl, State.readTraceSlip, h, Bool.false_eq_true, if_false]
  rfl

theorem exec_traceStatWrite_of_other {m : Master} (hl : s.locked m = false) (hm : m ≠ .debug) :
    exec (.traceStatWrite m) s = .next s := by
  cases m <;> simp_all [execTraceStatWrite]

theorem exec_traceStatWrite_of_debug (hl : s.locked .debug = false) :
    exec (.traceStatWrite .debug) s = .next (s.wrF Reg.FAULT_TRACE_STAT 8 8 0) := by
  simp [execTraceStatWrite, hl]

/-- A regulator out of range is a grave slip of source 2, which no reaction map promotes (R531, R538). -/
theorem exec_regulatorOutOfRange_eq (r : Fin 3) (s : State) :
    exec (.regulatorOutOfRange r) s = .next ((s.collect (slipWord 2 0x0F 3 r) 2 3).graveHold (slipWord 2 0x0F 3 r)) := by
  have hsrc : fld (slipWord 2 0x0F 3 r) 0 7 = 2 := by fin_cases r <;> decide
  have hcls : fld (slipWord 2 0x0F 3 r) 13 2 = 3 := by fin_cases r <;> decide
  have hprom : s.promoted (fld (slipWord 2 0x0F 3 r) 0 7) (fld (slipWord 2 0x0F 3 r) 13 2) = 3 := by
    simp [State.promoted, hcls]
  rw [exec_regulatorOutOfRange, execRegulatorOutOfRange, takeSlip_grave hprom, hsrc]

end

end Sys2Proof.Machine
end

section

open Sys2Proof Sys2Proof.Machine

/-- Settles O53: what the collector enters (`collected_collect`) comes before the reaction of each class, which changes
other registers; a slip of the cycle keeps its sticky bit (`bitOf_clearing`). -/
theorem slipsAreTakenAndReactByTheirClass : Obligations.SlipsAreTakenAndReactByTheirClass := by
  unfold Obligations.SlipsAreTakenAndReactByTheirClass
  refine ⟨?note, ?recoverable, ?severe, ?severeFull, ?grave, ?regulator, ?clear, ?escalate, ?idle, ?refused, ?inject,
    ?others, ?debugRead, ?debugEmpty, ?debugWrite, ?sameCycle⟩
  case note =>
    intro w rest src s h hp
    obtain ⟨hwait, hsticky, hrepeat, hnotes, hentered, huntraced, hlost, -⟩ :=
      collected_collect (s.withWaiting rest) w 0 src.isLt
    refine ⟨_, exec_slipIntake_of_note h hp, ?_, ?_, ?_, ?_, ?_, ⟨fun hmap hroom => ?_, fun hmap => ?_⟩,
      fun hmap hfull => ?_⟩
    · rw [fault_noteSlip, fault_countNote, hwait]
      rfl
    · rw [bit_congr (rd_noteSlip _ _), bit_congr (rd_countNote_ne _ (sticky_lt src) (sticky_ne_pwr src) (count_ne_sticky src.isLt).symm), hsticky]
    · rw [rdF_congr (rd_noteSlip _ _), rdF_congr (rd_countNote_count _), State.satAdd, rdF_wrF_ne _ _ (by decide), hrepeat]
      rfl
    · rw [rdF_congr (rd_noteSlip _ _), rdF_congr (rd_countNote_count _), rdF_satAdd_same _ (by decide), hnotes]
      rfl
    · rw [State.pending1, bit_congr (rd_noteSlip _ _), ← State.pending1, State.countNote,
        pending1_event_self _ (by decide)]
    · rw [fault_noteSlip, fault_countNote, hentered (.inr hmap) hroom]
      rfl
    · rw [fault_noteSlip, fault_countNote, huntraced (not_traced_of_low (by decide) hmap)]
      rfl
    · obtain ⟨hcount, htrace⟩ := hlost (.inr hmap) hfull
      rw [rdF_congr (rd_noteSlip _ _), rdF_congr (rd_countNote_ne _ (by decide) (by decide) (by decide)), hcount, fault_noteSlip,
        fault_countNote, htrace]
      exact ⟨rfl, rfl⟩
  case recoverable =>
    intro w rest src s h hp
    obtain ⟨hwait, hsticky, hrepeat, hnotes, hentered, huntraced, -, hothers⟩ :=
      collected_collect (s.withWaiting rest) w 1 src.isLt
    have hrd {a : Nat} (ha : a < 0x40005000) (hpwr : a ≠ Reg.PWR_COUNT) :
        ((((s.withWaiting rest).collect w src 1).event 5).noteSlip src).rd a =
          ((s.withWaiting rest).collect w src 1).rd a := by rw [rd_noteSlip, rd_event_of_lt _ ha hpwr]
    refine ⟨_, exec_slipIntake_of_recoverable h hp, ?_, ?_, ?_, ?_, ?_, ⟨fun hmap hroom => ?_, fun hmap => ?_⟩, ?_⟩
    · rw [fault_noteSlip, event_fault, hwait]
      rfl
    · rw [bit_congr (hrd (sticky_lt src) (sticky_ne_pwr src)), hsticky]
    · rw [rdF_congr (hrd (by decide) (by decide)), hrepeat]
      rfl
    · rw [rdF_congr (hrd (by decide) (by decide)), hnotes]
      rfl
    · rw [State.pending1, bit_congr (rd_noteSlip _ _), ← State.pending1, pending1_event_self _ (by decide)]
    · rw [fault_noteSlip, event_fault, hentered (.inr hmap) hroom]
      rfl
    · rw [fault_noteSlip, event_fault, huntraced (not_traced_of_low (by decide) hmap)]
      rfl
    · rw [hrd (sevpend_lt src) (sevpend_ne_pwr src), hothers _ (sevpend_not_mem src), rd_withWaiting]
  case severe =>
    intro w rest src s h hp hroom
    obtain ⟨hwait, hsticky, hrepeat, -, hentered, -, -, hothers⟩ := collected_collect (s.withWaiting rest) w 2 src.isLt
    obtain ⟨hpend, hevent, hrun, htimer⟩ := severe_spec (s := (s.withWaiting rest).collect w src 2) src.isLt
    have htrace := hentered (.inl (Nat.le_refl 2)) hroom
    refine ⟨_, exec_slipIntake_of_severe h hp, ?_, ?_, ?_, ?_, ?_, ?_, ?_, ?_, ?_⟩
    · rw [fault_noteSlip, fault_severe, hwait]
      rfl
    · rw [bit_congr (rd_noteSlip _ _), bit_congr (rd_severe_sticky _ src), hsticky]
    · rw [rdF_congr (rd_noteSlip _ _), rdF_congr (rd_severe_count _ src), hrepeat]
      rfl
    · rw [bit_congr (rd_noteSlip _ _), hpend]
    · rw [State.pending1, bit_congr (rd_noteSlip _ _), ← State.pending1, hevent]
    · rw [bit_congr (rd_noteSlip _ _), hrun]
    · rw [rdF_congr (rd_noteSlip _ _), htimer, bit_congr (hothers _ (status_not_mem src)),
        rdF_congr (hothers _ (status_not_mem src)), rdF_congr (hothers _ (cfg_not_mem src))]
      rfl
    · rw [fault_noteSlip, fault_severe, htrace]
      rfl
    · rw [fault_noteSlip, fault_severe]
      exact onlyEvents_severeSlip w hroom _
  case severeFull =>
    intro w rest src s h hp hfull
    obtain ⟨hwait, hsticky, hrepeat, -, -, -, hlost, -⟩ := collected_collect (s.withWaiting rest) w 2 src.isLt
    obtain ⟨hpend, hevent, -, -⟩ := severe_spec (s := (s.withWaiting rest).collect w src 2) src.isLt
    obtain ⟨hcount, htrace⟩ := hlost (.inl (Nat.le_refl 2)) hfull
    refine ⟨_, exec_slipIntake_of_severe h hp, ?_, ?_, ?_, ?_, ?_, ?_, ?_⟩
    · rw [fault_noteSlip, fault_severe, hwait]
      rfl
    · rw [bit_congr (rd_noteSlip _ _), bit_congr (rd_severe_sticky _ src), hsticky]
    · rw [rdF_congr (rd_noteSlip _ _), rdF_congr (rd_severe_count _ src), hrepeat]
      rfl
    · rw [rdF_congr (rd_noteSlip _ _), rdF_congr (rd_severe_traceStat _ src), hcount]
      rfl
    · rw [fault_noteSlip, fault_severe, htrace]
      rfl
    · rw [bit_congr (rd_noteSlip _ _), hpend]
    · rw [State.pending1, bit_congr (rd_noteSlip _ _), ← State.pending1, hevent]
  case grave =>
    intro w rest src s h hp hheld
    obtain ⟨hphase, hgrave, hsticky, hcust, hpads, hmem⟩ := graveHold_collect (s.withWaiting rest) w src.isLt hheld
    refine ⟨_, exec_slipIntake_of_grave h hp, ?_, ?_, ?_, fun n _ _ => ?_, ?_, ?_, ?_, fun a ha => ?_⟩
    · rw [boot_noteSlip, hphase]
    · rw [rd_noteSlip, hgrave]
    · rw [bit_congr (rd_noteSlip _ _), hsticky]
    · rw [State.keyType, cust_noteSlip, hcust]
      rfl
    · rw [cust_noteSlip, hcust]
      rfl
    · rw [cust_noteSlip, hcust]
      rfl
    · rw [boot_noteSlip, hpads]
    · rw [byteAt_noteSlip, hmem a ha]
      rfl
  case regulator =>
    intro r s hheld
    obtain ⟨hphase, hgrave, hsticky, hcust, -, -⟩ := graveHold_collect s (slipWord 2 0x0F 3 r) (src := 2) (by decide) hheld
    exact ⟨_, exec_regulatorOutOfRange_eq r s, hphase, hgrave, hsticky, by rw [hcust, CustSt.throughReset],
      by rw [hcust, CustSt.throughReset]⟩
  case clear =>
    intro j v s h
    have hv : s.clearing j v = v := clearing_of_none v h
    have honly := onlyRegs_clearSticky s j v
    rw [exec_stickyClear_eq, hv]
    by_cases hc : (j = 0 && bitOf v 4) = true
    · have hj : j.val = 0 ∧ bitOf v 4 = true := (firstRegister_iff j _).1 hc
      rw [if_pos hc]
      refine ⟨_, rfl, ?_, ?_, ?_, ?_⟩
      · rw [rd_allowRecall, rd_noteSevere, rd_clearSticky_sticky]
      · rw [rd_allowRecall, rd_noteSevere, rd_clearSticky_sevpend]
      · rw [if_pos hj, State.allowRecall]
      · exact honly.withFaultCyc _ _
    · have hj : ¬ (j.val = 0 ∧ bitOf v 4 = true) := mt (firstRegister_iff j _).2 hc
      rw [if_neg hc]
      refine ⟨_, rfl, ?_, ?_, ?_, ?_⟩
      · rw [rd_noteSevere, rd_clearSticky_sticky]
      · rw [rd_noteSevere, rd_clearSticky_sevpend]
      · rw [if_neg hj]
        rfl
      · exact honly.withFaultCyc _ _
  case escalate =>
    intro s h0 hn hs hd hheld hwf
    obtain ⟨hcause, hhist, hphase, -, hhold, hpads, hnow, hkeys, hstore, hlife, -, -, -, -, hmem⟩ :=
      warmlyReset_warmReset (c := .fault) hheld hwf
    exact ⟨_, exec_graceExpiry_of_severe h0 hn hs hd, hcause, hhist, hphase, hhold, hpads, hnow, hkeys, hstore, hlife, hmem⟩
  case idle =>
    intro s h0 hn hs hc
    exact ⟨_, exec_graceExpiry_of_calm h0 hn hs hc, bit_setB_same s _ (by decide), (OnlyRegs.refl _ s).setB (by simp)⟩
  case refused =>
    intro v s h
    exact ⟨_, exec_faultInject_of_grave h, rdF_satAdd_same s (by decide), (OnlyRegs.refl _ s).satAdd (by simp)⟩
  case inject => exact fun v s h => exec_faultInject_of_not_grave h
  case others =>
    exact fun m s hl hm => ⟨exec_traceSlipRead_of_empty hl (.inl hm), exec_traceStatWrite_of_other hl hm⟩
  case debugRead =>
    intro e l s hl h
    exact ⟨_, exec_traceSlipRead_of_debug hl h, rfl, rfl, rfl, OnlyRegs.refl _ _⟩
  case debugEmpty => exact fun s hl h => exec_traceSlipRead_of_empty hl (.inr h)
  case debugWrite =>
    intro s hl
    exact ⟨_, exec_traceStatWrite_of_debug hl, rdF_wrF_same s 0 (by decide), rdF_wrF_ne s 0 (by decide),
      (OnlyRegs.refl _ s).wrF (by simp)⟩
  case sameCycle =>
    intro src j w rest s h hp hj
    refine ⟨_, exec_slipIntake_of_some h, ?_⟩
    have hsticky := sticky_takeSlip (s.withWaiting rest) (src_of_takeFirst h) hp
    obtain ⟨t, ht, hclear⟩ := exec_stickyClear_sticky j 0xFFFFFFFF (((s.withWaiting rest).takeSlip w).noteSlip src)
    refine ⟨t, ht, ?_⟩
    rw [hj] at hsticky
    rw [State.bit, hclear, bitOf_and_not, bitOf_clearing _ List.mem_cons_self hj, rd_noteSlip, ← State.bit, hsticky]
    rfl

end

section
/-! PROOF. The watchdog and the recall of resources (16; R544 to R553). -/

namespace Sys2Proof.Machine

/-! ### A register that a reset keeps in part -/

section

variable {s : State} {a : Nat}

theorem mapGet_eq_none_of_ne {V : Type} {m : List (Nat × V)} (h : ∀ e ∈ m, e.1 ≠ a) : mapGet m a = none := by
  induction m with
  | nil => rfl
  | cons e m ih =>
    obtain ⟨k, v⟩ := e
    rw [mapGet, if_neg (h _ List.mem_cons_self), ih fun d hd => h d (List.mem_cons_of_mem _ hd)]

/-- Where a register is listed once, a reset leaves the bits to keep and resets the others. -/
theorem rd_resetRegs (keep : Nat → Word) (h : s.regsWf = true) :
    (s.resetRegs keep).rd a = (s.rd a &&& keep a) ||| (resetOf a &&& ~~~ keep a) := by
  have hreset : (resetOf a &&& keep a) ||| (resetOf a &&& ~~~ keep a) = resetOf a := by
    rw [← BitVec.and_or_distrib_left, BitVec.or_not_self, BitVec.and_allOnes]
  have hrise := ((mapWf_iff _ _).1 h).1
  rw [resetRegs_eq, State.rd, State.rd]
  dsimp only
  generalize s.regs = m at hrise
  induction m with
  | nil => simp [mapGet, hreset]
  | cons e m ih =>
    obtain ⟨k, v⟩ := e
    obtain ⟨hlt, hm⟩ := List.pairwise_cons.1 hrise
    by_cases hk : k = a
    · subst hk
      have hnone : mapGet (m.filterMap (resetEntry keep)) k = none := by
        refine mapGet_eq_none_of_ne fun e he => ?_
        obtain ⟨d, hd, hde⟩ := List.mem_filterMap.1 he
        have hkey : e.1 = d.1 := by
          unfold resetEntry at hde
          split at hde
          · exact absurd hde (by simp)
          · rw [← Option.some.inj hde]
        rw [hkey]
        exact (hlt d hd).ne'
      rw [List.filterMap_cons]
      unfold resetEntry
      split
      · next hv =>
        split at hv
        · next heq =>
          unfold resetEntry at hnone
          simp only [mapGet, if_true, Option.getD_some]
          rw [hnone, heq]
          rfl
        · exact absurd hv (by simp)
      · next hv =>
        split at hv
        · exact absurd hv (by simp)
        · rw [← Option.some.inj hv]
          simp only [mapGet, if_true, Option.getD_some]
    · rw [mapGet_filterMap_resetEntry_ne v m hk, ih hm]
      simp only [mapGet, if_neg hk]

theorem rd_coreReset (cold : Bool) (h : s.regsWf = true) (hne : a ≠ Reg.STOR_PS_STATE) : (s.coreReset cold).rd a =
    (s.rd a &&& keepOverReset cold a) ||| (resetOf a &&& ~~~ keepOverReset cold a) := by
  have hbefore : s.beforeReset.rd a = s.rd a := (storeLeft_beforeReset s).1 a (by simpa using hne)
  rw [← hbefore, ← rd_resetRegs _ (regsWf_beforeReset h)]
  exact rd_congr rfl a

/-- RUN and LOCK of the watchdog are cleared (R547). -/
theorem wdogRun_warmReset {c : ResetCause} (hheld : s.isHeld = false) (h : s.regsWf = true) :
    (s.warmReset c).bit Reg.WDOG_CTRL 0 = false := by
  have hkeep : keepOverReset false Reg.WDOG_CTRL = 4 := by decide
  have hreset : resetOf Reg.WDOG_CTRL = 0 := by decide
  rw [warmReset_of_not_held hheld, bit_congr (rd_withPadHold _), State.bit,
    rd_warmed_ne (by decide) (by decide) (by decide) (by decide), rd_coreReset (s := s.takeFree.2) false h (by decide),
    hkeep, hreset]
  simp [bitOf]

end

/-! ### The watchdog (R548 to R553) -/

section

variable {s : State}

theorem exec_wdogFeed_of_key (s : State) : exec (.wdogFeed 0x0C96FEED) s = .next s.wdogFeed := by
  rw [exec_wdogFeed, execWdogFeed, if_pos rfl]

/-- A held value takes effect. -/
def State.takeHeld (s : State) (a : Nat) : Option Word → State
  | some w => s.wr a w
  | none => s

theorem rd_takeHeld_same (s : State) (a : Nat) (w : Option Word) : (s.takeHeld a w).rd a = w.getD (s.rd a) := by
  cases w with
  | none => rfl
  | some v => exact rd_wr_same s a v

theorem rd_takeHeld_ne {a b : Nat} (s : State) (w : Option Word) (h : b ≠ a) : (s.takeHeld a w).rd b = s.rd b := by
  cases w with
  | none => rfl
  | some v => exact rd_wr_ne s v h

theorem OnlyRegs.takeHeld {l : List Nat} {t : State} {a : Nat} (w : Option Word) (h : OnlyRegs l s t) (ha : a ∈ l) :
    OnlyRegs l s (t.takeHeld a w) := by
  cases w with
  | none => exact h
  | some v => exact h.wr ha

/-- The registers after a feed. -/
def State.fed (s : State) : State :=
  ((s.wr Reg.WDOG_COUNT 0).takeHeld Reg.WDOG_WARN s.fault.heldWarn).takeHeld Reg.WDOG_LIMIT s.fault.heldLimit

theorem wdogFeed_eq (s : State) :
    s.wdogFeed = { s.fed with fault := { s.fed.fault with heldWarn := none, heldLimit := none } } := by
  unfold State.wdogFeed State.fed State.takeHeld
  cases s.fault.heldWarn <;> cases s.fault.heldLimit <;> rfl

theorem rd_fed (s : State) : s.fed.rd Reg.WDOG_COUNT = 0 ∧
    s.fed.rd Reg.WDOG_WARN = s.fault.heldWarn.getD (s.rd Reg.WDOG_WARN) ∧
    s.fed.rd Reg.WDOG_LIMIT = s.fault.heldLimit.getD (s.rd Reg.WDOG_LIMIT) := by
  refine ⟨?_, ?_, ?_⟩
  · rw [State.fed, rd_takeHeld_ne _ _ (by decide), rd_takeHeld_ne _ _ (by decide), rd_wr_same]
  · rw [State.fed, rd_takeHeld_ne _ _ (by decide), rd_takeHeld_same, rd_wr_ne _ _ (by decide)]
  · rw [State.fed, rd_takeHeld_same, rd_takeHeld_ne _ _ (by decide), rd_wr_ne _ _ (by decide)]

theorem onlyRegs_fed (s : State) : OnlyRegs [Reg.WDOG_COUNT, Reg.WDOG_WARN, Reg.WDOG_LIMIT] s s.fed :=
  (((OnlyRegs.refl _ s).wr (by simp)).takeHeld _ (by simp)).takeHeld _ (by simp)

theorem exec_wdogFeed_of_running {key : Word} (hk : key ≠ 0x0C96FEED) (h : s.bit Reg.WDOG_CTRL 0 = true) :
    exec (.wdogFeed key) s = .next (s.satAdd Reg.WDOG_STATUS 8 8).wdogWarn := by
  rw [exec_wdogFeed, execWdogFeed, if_neg hk, if_pos h]

theorem exec_wdogFeed_of_stopped {key : Word} (hk : key ≠ 0x0C96FEED) (h : s.bit Reg.WDOG_CTRL 0 = false) :
    exec (.wdogFeed key) s = .next (s.satAdd Reg.WDOG_STATUS 8 8) := by
  rw [exec_wdogFeed, execWdogFeed, if_neg hk, if_neg (by simp [h])]

theorem rd_wdogWarn_ne {a : Nat} (s : State) (hs : a ≠ Reg.WDOG_STATUS) (hp : a ≠ Reg.INTC_PEND 0)
    (ho : a ≠ Reg.INTC_OVR) (hc : a ≠ Reg.PWR_COUNT) : s.wdogWarn.rd a = s.rd a := by
  rw [State.wdogWarn, rd_wake_ne _ hc, rd_slip, rd_event_ne _ hp ho hc, rd_setB_ne _ _ _ hs]

theorem rd_wdogWarn_status (s : State) :
    s.wdogWarn.rd Reg.WDOG_STATUS = (s.setB Reg.WDOG_STATUS 0 true).rd Reg.WDOG_STATUS := by
  rw [State.wdogWarn, rd_wake_ne _ (by decide), rd_slip, rd_event_ne _ (by decide) (by decide) (by decide)]

theorem warned_wdogWarn (s : State) : s.wdogWarn.bit Reg.WDOG_STATUS 0 = true := by
  rw [bit_congr (rd_wdogWarn_status s), bit_setB_same _ _ (by decide)]

theorem pending1_wdogWarn (s : State) : s.wdogWarn.pending1 15 = true := by
  rw [State.wdogWarn, State.pending1, bit_congr (rd_wake_ne _ (by decide)), bit_slip, ← State.pending1,
    pending1_event_self _ (by decide)]

@[simp] theorem wake_fault (s : State) (cause : Nat) : (s.wake cause).fault = s.fault :=
  (onlyRegs_wake s cause).eq_of_indep State.fault fun _ => rfl

theorem waiting_wdogWarn (s : State) :
    s.wdogWarn.fault.waiting = s.fault.waiting ++ [slipWord 12 0x0A 2 (s.rdF Reg.WDOG_COUNT 0 16)] := by
  rw [State.wdogWarn, wake_fault, State.slip]
  simp only [event_fault, setB_fault]

theorem pwr_endDoze_of_not_doze {t : State} {p : PwrSt} (ht : t.pwr = p) (hmode : (p.mode == .doze) = false) :
    t.endDoze.pwr = p := by
  rw [State.endDoze, ht, hmode, Bool.false_and, if_neg (by decide), ht]

theorem not_doze_of_asleep (h : s.asleep = true) : (s.pwr.mode == .doze) = false := by
  simp only [State.asleep, Bool.or_eq_true, beq_iff_eq] at h
  rcases h with h | h
  · rw [h]
    rfl
  · rw [h]
    rfl

theorem pwr_event_of_asleep (n : Nat) (h : s.asleep = true) : (s.event n).pwr = s.pwr := by
  unfold State.event
  dsimp only
  refine pwr_endDoze_of_not_doze ?_ (not_doze_of_asleep h)
  split <;> rfl

/-- A wake source in sleep begins the wake and is among its causes (R122). -/
theorem wake_of_asleep (cause : Nat) (h : s.asleep = true) :
    (s.wake cause).pwr.waking = true ∧ cause ∈ (s.wake cause).pwr.causes := by
  have hmem (l : List Nat) : cause ∈ if l.contains cause then l else l ++ [cause] := by
    split
    · next hc => exact List.contains_iff_mem.1 hc
    · simp
  simp only [State.asleep, Bool.or_eq_true, beq_iff_eq] at h
  unfold State.wake
  rcases h with h | h
  · rw [h]
    exact ⟨rfl, hmem _⟩
  · rw [h]
    exact ⟨rfl, hmem _⟩

theorem wdogWarn_of_asleep (h : s.asleep = true) : s.wdogWarn.pwr.waking = true ∧ 6 ∈ s.wdogWarn.pwr.causes := by
  rw [State.wdogWarn]
  refine wake_of_asleep 6 ?_
  rw [State.asleep, slip_pwr, pwr_event_of_asleep (s := s.setB Reg.WDOG_STATUS 0 true) 15 h, setB_pwr, ← State.asleep, h]

theorem exec_wdogWarning_of_due (h0 : s.bit Reg.WDOG_CTRL 0 = true) (hw : s.rdF Reg.WDOG_WARN 0 24 ≠ 0)
    (he : s.rdF Reg.WDOG_WARN 0 24 = s.rdF Reg.WDOG_COUNT 0 24) : exec .wdogWarning s = .next s.wdogWarn := by
  have hc : s.rdF Reg.WDOG_COUNT 0 24 ≠ 0 := he ▸ hw
  simp [execWdogWarning, h0, he, hc]

theorem exec_wdogWarning_of_not_due (h : s.bit Reg.WDOG_CTRL 0 = false ∨ s.rdF Reg.WDOG_WARN 0 24 = 0 ∨
    s.rdF Reg.WDOG_WARN 0 24 ≠ s.rdF Reg.WDOG_COUNT 0 24) : exec .wdogWarning s = .next s := by
  rcases h with h | h | h <;> simp [execWdogWarning, h]

theorem wdogDue_of_reached (h0 : s.bit Reg.WDOG_CTRL 0 = true)
    (h : s.rdF Reg.WDOG_LIMIT 0 24 ≤ s.rdF Reg.WDOG_COUNT 0 24) : s.wdogDue = true := by simp [State.wdogDue, h0, h]

theorem wdogDue_of_not (h : s.bit Reg.WDOG_CTRL 0 = false ∨ s.rdF Reg.WDOG_COUNT 0 24 < s.rdF Reg.WDOG_LIMIT 0 24) :
    s.wdogDue = false := by
  rcases h with h | h
  · simp [State.wdogDue, h]
  · simp [State.wdogDue, Nat.not_le.2 h]

theorem exec_wdogLimitWrite_of_refused {limit : Bool} {v : Word} (hl : s.bit Reg.WDOG_CTRL 1 = false)
    (h : (((if limit then s.wdogNext false else fld v 0 24) != 0 &&
        decide ((if limit then fld v 0 24 else s.wdogNext true) ≤ if limit then s.wdogNext false else fld v 0 24)) ||
      decide ((if limit then fld v 0 24 else s.wdogNext true) < 30)) = true) :
    exec (.wdogLimitWrite limit v) s = .next (s.satAdd Reg.WDOG_STATUS 16 8) := by
  rw [exec_wdogLimitWrite, execWdogLimitWrite, hl, if_neg (by decide), if_pos h]

/-- The value that a write offers is refused: the limit below 30, or a warning that would reach it (R551). -/
def limitRefused (warn limit : Nat) : Prop := limit < 30 ∨ (warn ≠ 0 ∧ limit ≤ warn)

theorem limitRefused_iff (warn limit : Nat) :
    ((warn != 0 && decide (limit ≤ warn)) || decide (limit < 30)) = true ↔ limitRefused warn limit := by
  simp [limitRefused, or_comm]

theorem exec_wdogLimit_of_refused {v : Word} (hl : s.bit Reg.WDOG_CTRL 1 = false)
    (h : limitRefused (s.wdogNext false) (fld v 0 24)) :
    exec (.wdogLimitWrite true v) s = .next (s.satAdd Reg.WDOG_STATUS 16 8) :=
  exec_wdogLimitWrite_of_refused hl ((limitRefused_iff _ _).2 h)

theorem exec_wdogWarn_of_refused {v : Word} (hl : s.bit Reg.WDOG_CTRL 1 = false)
    (h : limitRefused (fld v 0 24) (s.wdogNext true)) :
    exec (.wdogLimitWrite false v) s = .next (s.satAdd Reg.WDOG_STATUS 16 8) :=
  exec_wdogLimitWrite_of_refused hl ((limitRefused_iff _ _).2 h)

theorem exec_wdogLimit_of_allowed {v : Word} (hl : s.bit Reg.WDOG_CTRL 1 = false)
    (h : ¬ limitRefused (s.wdogNext false) (fld v 0 24)) : exec (.wdogLimitWrite true v) s =
    .next { s with fault := { s.fault with heldLimit := some (word (fld v 0 24)) } } := by
  have hn := mt (limitRefused_iff (s.wdogNext false) (fld v 0 24)).1 h
  simp only [exec_wdogLimitWrite, execWdogLimitWrite, hl, if_true, if_neg hn, Bool.false_eq_true, if_false]

theorem exec_wdogWarn_of_allowed {v : Word} (hl : s.bit Reg.WDOG_CTRL 1 = false)
    (h : ¬ limitRefused (fld v 0 24) (s.wdogNext true)) : exec (.wdogLimitWrite false v) s =
    .next { s with fault := { s.fault with heldWarn := some (word (fld v 0 24)) } } := by
  have hn := mt (limitRefused_iff (fld v 0 24) (s.wdogNext true)).1 h
  simp only [exec_wdogLimitWrite, execWdogLimitWrite, hl, if_neg hn, Bool.false_eq_true, if_false]

end

/-! ### Recall (R544 to R546) -/

section

variable {s : State} {res : Recallable} {h : Nat}

theorem exec_recallHolder_of_not (hn : s.holder res = none ∨ recallKey res ∈ s.fault.noRecall ∨ s.recallDue res = false) :
    exec (.recallHolder res) s = .next s := by
  rw [exec_recallHolder, execRecallHolder]
  cases hh : s.holder res with
  | none => rfl
  | some h =>
    have hbar : (s.fault.noRecall.contains (recallKey res) || !s.recallDue res) = true := by
      rcases hn with hn | hn | hn
      · rw [hh] at hn
        exact absurd hn (by simp)
      · simp [hn]
      · simp [hn]
    exact if_pos hbar

/-- The slip of a recall (R545). -/
def recallSlip (res : Recallable) (h : Nat) : Word :=
  if recallCode res = 5 then slipWord 4 0x0D 1 0 else slipWord 4 0x0B 1 (recallDetail (recallCode res) h)

@[simp] theorem cust_withWaiting (s : State) (l : List Word) : (s.withWaiting l).cust = s.cust := rfl

@[simp] theorem spineS_withWaiting (s : State) (l : List Word) : (s.withWaiting l).spineS = s.spineS := rfl

@[simp] theorem ans_withWaiting (s : State) (l : List Word) : (s.withWaiting l).ans = s.ans := rfl

@[simp] theorem fault_withWaiting (s : State) (l : List Word) :
    (s.withWaiting l).fault = { s.fault with waiting := l } := rfl

/-- A recall is recorded: its slip, its count, FAULT_RECALL and event 8 (R545). -/
def State.recordRecall (s : State) (res : Recallable) (h : Nat) : State :=
  (((s.withWaiting (s.fault.waiting ++ [recallSlip res h])).satAdd Reg.FAULT_COUNT 24 8).wr Reg.FAULT_RECALL
    (word (recallDetail (recallCode res) h + 2 ^ 31))).event 8

/-- The resource's wait is over, and the watch for its outcome begins. -/
def State.watchRecall (s : State) (res : Recallable) : State :=
  { s with fault := { s.fault with
      waits := mapErase s.fault.waits (recallKey res),
      recalled := s.fault.recalled.filter (fun p => recallKey p.1 != recallKey res) ++ [(res, 0)] } }

theorem exec_recallHolder_of_due (hh : s.holder res = some h) (hb : recallKey res ∉ s.fault.noRecall)
    (hd : s.recallDue res = true) :
    exec (.recallHolder res) s = .next (((s.recallAction res).recordRecall res h).watchRecall res) := by
  have hbar : (s.fault.noRecall.contains (recallKey res) || !s.recallDue res) = false := by simp [hb, hd]
  rw [exec_recallHolder, execRecallHolder, hh]
  simp only [hbar, Bool.false_eq_true, if_false]
  by_cases hc : recallCode res = 5
  · rw [State.recordRecall, recallSlip, if_pos hc, if_pos hc]
    rfl
  · rw [State.recordRecall, recallSlip, if_neg hc, if_neg hc]
    rfl

@[simp] theorem cust_watchRecall : (s.watchRecall res).cust = s.cust := rfl

@[simp] theorem rd_watchRecall (a : Nat) : (s.watchRecall res).rd a = s.rd a := rd_congr rfl a

theorem fault_recordRecall (s : State) (res : Recallable) (h : Nat) : (s.recordRecall res h).fault =
    { s.fault with waiting := s.fault.waiting ++ [recallSlip res h] } := by
  simp only [State.recordRecall, event_fault, wr_fault, satAdd_fault, fault_withWaiting]

/-- What a recall records. -/
theorem recorded (s : State) (res : Recallable) (h : Nat) :
    ((s.recordRecall res h).watchRecall res).rd Reg.FAULT_RECALL = word (recallDetail (recallCode res) h + 2 ^ 31) ∧
    ((s.recordRecall res h).watchRecall res).pending1 8 = true ∧
    (res, 0) ∈ ((s.recordRecall res h).watchRecall res).fault.recalled ∧
    recallSlip res h ∈ ((s.recordRecall res h).watchRecall res).fault.waiting ∧
    ((s.recordRecall res h).watchRecall res).rdF Reg.FAULT_COUNT 24 8 = min (s.rdF Reg.FAULT_COUNT 24 8 + 1) 255 := by
  refine ⟨?_, ?_, ?_, ?_, ?_⟩
  · rw [rd_watchRecall, State.recordRecall, rd_event_of_lt _ (by decide) (by decide), rd_wr_same]
  · rw [State.pending1, bit_congr (rd_watchRecall _), ← State.pending1, State.recordRecall,
      pending1_event_self _ (by decide)]
  · rw [State.watchRecall]
    simp
  · rw [State.watchRecall, fault_recordRecall]
    simp
  · rw [rdF_congr (rd_watchRecall _), State.recordRecall, rdF_congr (rd_event_of_lt _ (by decide) (by decide)),
      rdF_wr_ne _ _ (by decide), rdF_satAdd_same _ (by decide), rdF_congr (rd_withWaiting _ _)]
    rfl

/-- The enclave restarts: its requests are refused, and the volatile slots hold what the key store holds (R458). -/
theorem keys_enclaveRestart (s : State) : s.enclaveRestart.cust.keys = s.cust.store := by
  have hstore : (s.refuseAll 8 (fun _ => true)).cust.store = s.cust.store :=
    refuseAll_induct (P := fun u => u.cust.store = s.cust.store) rfl fun _ _ hu => hu
  rw [State.enclaveRestart, State.loadKeys, ← hstore]

theorem rd_loadKeys (s : State) (a : Nat) : s.loadKeys.rd a = s.rd a := rd_congr rfl a

theorem rd_enclaveRestart (s : State) (a : Nat) : s.enclaveRestart.rd a = s.rd a := by
  rw [State.enclaveRestart, rd_loadKeys, rd_refuseAll]

theorem mb_loadKeys (s : State) (k : Nat) : s.loadKeys.mb k = s.mb k := rfl

theorem phase_enclaveRestart {k : Nat} (hk : k < 4)
    (h : ((s.mb k).phase == .running || (s.mb k).phase == .waiting) = true) :
    (s.enclaveRestart.mb k).phase = .refusing := by
  rw [State.enclaveRestart, mb_loadKeys]
  exact phase_refuseAll hk (by rw [h]; rfl)

theorem cust_recorded (s : State) (res : Recallable) (h : Nat) :
    ((s.recordRecall res h).watchRecall res).cust = s.cust := by
  rw [cust_watchRecall, State.recordRecall, event_cust, wr_cust, satAdd_cust, cust_withWaiting]

/-- The one transaction outstanding on Spine-S is its master's, and a recall of the master's port ends it. -/
theorem recallAction_port {r : SpineReq} (hf : s.spineF.outst = []) (hs : s.spineS.outst = [r]) :
    s.holder (.port r.master) = some (masterId r.master) ∧
    s.recallAction (.port r.master) = ({ s with spineS := { s.spineS with
      outst := [], replay := s.spineS.replay.eraseP (fun p => p.req == r) } }).answerError := by
  have hdie : s.outDie r.master = some .store := by simp [State.outDie, State.outMasters, hf, hs]
  refine ⟨by simp [State.holder, hdie], ?_⟩
  simp [State.recallAction, hdie, State.endTransaction, State.spine, hs, State.setSpineSt]

theorem exec_recallOutcomeCheck_of_not_due (h : s.fault.recalled.any (fun p => recallKey p.1 == recallKey res &&
    decide (s.recallTicks ≤ p.2)) = false) : exec (.recallOutcomeCheck res) s = .next s := by
  simp only [exec_recallOutcomeCheck, execRecallOutcomeCheck, h, Bool.not_false, if_true]

/-- The watch for a resource's outcome is over. -/
def State.endWatch (s : State) (res : Recallable) : State :=
  { s with fault := { s.fault with recalled := s.fault.recalled.filter (fun p => recallKey p.1 != recallKey res) } }

theorem exec_recallOutcomeCheck_of_idle (h : s.fault.recalled.any (fun p => recallKey p.1 == recallKey res &&
    decide (s.recallTicks ≤ p.2)) = true) (hi : s.resIdle res = true) :
    exec (.recallOutcomeCheck res) s = .next (s.endWatch res) := by
  simp only [exec_recallOutcomeCheck, execRecallOutcomeCheck, h, hi, Bool.not_true, Bool.false_eq_true, if_false, if_true]
  rfl

/-- A resource is not to be recalled again. -/
def State.bar (s : State) (res : Recallable) : State :=
  { s with fault := { s.fault with noRecall := s.fault.noRecall ++ [recallKey res] } }

@[simp] theorem rd_bar (s : State) (a : Nat) : (s.bar res).rd a = s.rd a := rd_congr rfl a

/-- A bar and the slip before it touch the fault collection alone. -/
theorem onlyRegs_bar {l : List Nat} {t : State} {src kind cls detail : Nat}
    (h : OnlyRegs l ((s.endWatch res).slip src kind cls detail) t) :
    OnlyRegs l { s with fault := (t.bar res).fault } (t.bar res) :=
  h.withFault (t.bar res).fault

theorem exec_recallOutcomeCheck_of_busy (h : s.fault.recalled.any (fun p => recallKey p.1 == recallKey res &&
    decide (s.recallTicks ≤ p.2)) = true) (hi : s.resIdle res = false) :
    exec (.recallOutcomeCheck res) s = .next ((((s.endWatch res).slip 4 0x0C 2
      (if s.rdF Reg.FAULT_RECALL 0 8 = recallCode res then s.rdF Reg.FAULT_RECALL 0 16
       else recallDetail (recallCode res) ((s.holder res).getD 0))).setB Reg.FAULT_RECALL 16 true).bar res) := by
  simp only [exec_recallOutcomeCheck, execRecallOutcomeCheck, h, hi, Bool.not_true, Bool.false_eq_true, if_false]
  rfl

/-- The fields of a slip word (R529). -/
theorem fld_slipWord (src kind cls detail : Nat) : fld (slipWord src kind cls detail) 0 7 = src % 128 ∧
    fld (slipWord src kind cls detail) 7 6 = kind % 64 ∧ fld (slipWord src kind cls detail) 13 2 = cls % 4 := by
  simp only [fld, slipWord, BitVec.toNat_ofNat, Nat.shiftRight_eq_div_pow]
  omega

end

end Sys2Proof.Machine
end

section

open Sys2Proof Sys2Proof.Machine

/-- Settles O54: the watchdog's commands by their premises; a recall is its action, then what it records (`recorded`). -/
theorem theWatchdogAndRecallActOnTheirLimits : Obligations.TheWatchdogAndRecallActOnTheirLimits := by
  unfold Obligations.TheWatchdogAndRecallActOnTheirLimits
  refine ⟨?feed, ?badRunning, ?badStopped, ?warning, ?noWarning, ?reset, ?noReset, ?locked, ?limitRefused, ?limitHeld,
    ?warnRefused, ?warnHeld, ?lock, ?debug, ?noRecall, ?recalled, ?custodian, ?port, ?noCheck, ?idle, ?busy⟩
  case feed =>
    intro s
    obtain ⟨hcount, hwarn, hlimit⟩ := rd_fed s
    rw [exec_wdogFeed_of_key, wdogFeed_eq]
    exact ⟨_, rfl, hcount, hwarn, hlimit, rfl, rfl, (onlyRegs_fed s).withFault _⟩
  case badRunning =>
    intro key s hk h
    refine ⟨_, exec_wdogFeed_of_running hk h, ?_, warned_wdogWarn _, pending1_wdogWarn _, ?_, ?_⟩
    · rw [rdF_congr (rd_wdogWarn_status _), State.setB, rdF_wrF_ne _ _ (by decide), rdF_satAdd_same _ (by decide)]
      rfl
    · rw [waiting_wdogWarn, satAdd_fault, rdF_satAdd_of_ne _ _ _ _ (by decide)]
    · rw [rd_wdogWarn_ne _ (by decide) (by decide) (by decide) (by decide), rd_satAdd_ne _ _ _ _ (by decide)]
  case badStopped =>
    intro key s hk h
    exact ⟨_, exec_wdogFeed_of_stopped hk h, rdF_satAdd_same s (by decide), (OnlyRegs.refl _ s).satAdd (by simp)⟩
  case warning =>
    intro s h0 hw he
    exact ⟨_, exec_wdogWarning_of_due h0 hw he, warned_wdogWarn s, pending1_wdogWarn s, waiting_wdogWarn s,
      wdogWarn_of_asleep⟩
  case noWarning => exact fun s h => exec_wdogWarning_of_not_due h
  case reset =>
    intro s h0 hl hheld hwf
    obtain ⟨hcause, hhist, hphase, -, hhold, hpads, hnow, hkeys, hstore, hlife, -, -, -, -, hmem⟩ :=
      warmlyReset_warmReset (c := .watchdog) hheld hwf
    have hexec : exec .wdogReset s = .next (s.warmReset .watchdog) := by
      rw [exec_wdogReset, execWdogReset, if_pos (wdogDue_of_reached h0 hl)]
    exact ⟨_, hexec, hcause, hhist, hphase, hhold, hpads, hnow, hkeys, hstore, hlife, hmem, wdogRun_warmReset hheld hwf⟩
  case noReset => exact fun s h => by simp [execWdogReset, wdogDue_of_not h]
  case locked => exact fun limit v s h => by simp [execWdogLimitWrite, h]
  case limitRefused =>
    intro v s hl h
    exact ⟨_, exec_wdogLimit_of_refused hl h, rdF_satAdd_same s (by decide), (OnlyRegs.refl _ s).satAdd (by simp)⟩
  case limitHeld =>
    intro v s hl h30 hlt
    refine exec_wdogLimit_of_allowed hl ?_
    rw [limitRefused]
    omega
  case warnRefused =>
    intro v s hl h
    exact ⟨_, exec_wdogWarn_of_refused hl h, rdF_satAdd_same s (by decide), (OnlyRegs.refl _ s).satAdd (by simp)⟩
  case warnHeld =>
    intro v s hl h30 h
    refine exec_wdogWarn_of_allowed hl ?_
    rw [limitRefused]
    omega
  case lock =>
    exact fun s => ⟨_, rfl, bit_setB_same s _ (by decide), bit_setB_ne s _ (by decide), bit_setB_ne s _ (by decide),
      (OnlyRegs.refl _ s).setB (by simp)⟩
  case debug => exact fun s => ⟨rfl, rfl⟩
  case noRecall => exact fun res s h => exec_recallHolder_of_not h
  case recalled =>
    intro c h res s hc hh hb hd h5
    subst hc
    obtain ⟨hrecall, hevent, hmem, hslip, hcount⟩ := recorded (s.recallAction res) res h
    rw [recallSlip, if_neg h5] at hslip
    exact ⟨_, exec_recallHolder_of_due hh hb hd, hrecall, hevent, hmem, hslip, hcount⟩
  case custodian =>
    intro c h res s hc hh hb h5
    subst hc
    cases res <;> simp [recallCode] at h5
    obtain ⟨hrecall, hevent, hmem, hslip, hcount⟩ := recorded s.enclaveRestart .custodian h
    refine ⟨_, exec_recallHolder_of_due hh hb rfl, ?_, hrecall, hevent, hmem, hslip, ?_, fun k hk hp => ?_⟩
    · exact hcount.trans (by rw [rdF_congr (rd_enclaveRestart s _)])
    · exact (congrArg CustSt.keys (cust_recorded _ _ _)).trans (keys_enclaveRestart s)
    · exact (congrArg MbSlot.phase (mb_congr (cust_recorded _ _ _) k)).trans (phase_enclaveRestart hk hp)
  case port =>
    intro r m s hf hs hm hb hd
    subst hm
    obtain ⟨hholder, haction⟩ := recallAction_port hf hs
    obtain ⟨-, -, -, hslip, -⟩ := recorded (s.recallAction (.port r.master)) (.port r.master) (masterId r.master)
    refine ⟨_, exec_recallHolder_of_due hholder hb hd, ?_, ?_, hslip⟩
    · rw [haction]
      simp [State.watchRecall, State.recordRecall, State.answerError]
    · rw [haction]
      simp [State.watchRecall, State.recordRecall, State.answerError]
  case noCheck =>
    intro res s h
    refine exec_recallOutcomeCheck_of_not_due (List.any_eq_false.2 fun p hp => ?_)
    rcases h p hp with h | h
    · simp [h]
    · simp [Nat.not_le.2 h]
  case idle => exact fun res s h hi => ⟨_, exec_recallOutcomeCheck_of_idle h hi, rfl⟩
  case busy =>
    intro res s h hi
    refine ⟨_, exec_recallOutcomeCheck_of_busy h hi, ?_, ?_, ?_, ?_, ?_⟩
    · simp [State.bar]
    · intro p hp
      have hfilter : p ∈ s.fault.recalled.filter (fun p => recallKey p.1 != recallKey res) := hp
      simpa using (List.mem_filter.1 hfilter).2
    · rw [bit_congr (rd_bar _ _), bit_setB_same _ _ (by decide)]
    · obtain ⟨hsrc, hkind, hcls⟩ := fld_slipWord 4 0x0C 2
        (if s.rdF Reg.FAULT_RECALL 0 8 = recallCode res then s.rdF Reg.FAULT_RECALL 0 16
         else recallDetail (recallCode res) ((s.holder res).getD 0))
      simp [State.bar, State.slip, State.endWatch, hsrc, hkind, hcls]
    · exact onlyRegs_bar ((OnlyRegs.refl _ _).setB (by simp))

end

section
/-! PROOF. The tamper inputs (14; R486, R489). -/

namespace Sys2Proof.Machine

/-- A state out of canonical form: SECMB_TAMP_FIRST_LO is listed twice, and the entry in front holds its reset value.
Input 0 has class T2, and an input has tripped before. -/
def doublyListedFirst : State := { State.reset with regs :=
  [(Reg.SECMB_TAMP_LATCH, 1), (Reg.SECMB_TAMP_CLASS, 2), (Reg.SECMB_TAMP_FIRST_LO, 0), (Reg.SECMB_TAMP_FIRST_LO, 5)] }

theorem exec_tamperTrip_doublyListedFirst :
    exec (.tamperTrip 0) doublyListedFirst = .next ((doublyListedFirst.loopPin 0).tamperTrip 0) := by
  rw [exec_tamperTrip, execTamperTrip, if_neg (by decide)]
  rfl

/-- The reset of the seal drops the entry in front, which holds the reset value, and so uncovers the one behind it. -/
theorem first_tamperTrip_doublyListedFirst : ((doublyListedFirst.loopPin 0).tamperTrip 0).rdInstant
    Reg.SECMB_TAMP_FIRST_LO Reg.SECMB_TAMP_FIRST_HI = 5 := by rfl

end Sys2Proof.Machine
end

section

open Sys2Proof Sys2Proof.Machine

/-- Refutes O50: the statement ranges over every state, and where a register is listed twice (`doublyListedFirst`) the
reset that seals the part changes what SECMB_TAMP_FIRST reads. -/
theorem not_tamperTripsLatchCountAndReact : ¬ Obligations.TamperTripsLatchCountAndReact := by
  unfold Obligations.TamperTripsLatchCountAndReact
  rintro ⟨-, -, hsealed, -⟩
  obtain ⟨t, ht, -, -, -, -, hfirst, -⟩ :=
    hsealed 0 doublyListedFirst (by decide) (by decide) (by decide) (by decide)
  have hread : doublyListedFirst.rdInstant Reg.SECMB_TAMP_FIRST_LO Reg.SECMB_TAMP_FIRST_HI = 0 := by decide
  have hkept := hfirst (by decide)
  rw [exec_tamperTrip_doublyListedFirst] at ht
  rw [← Host.Outcome.next.inj ht, first_tamperTrip_doublyListedFirst, hread] at hkept
  exact absurd hkept (by decide)

end

section
/-! PROOF. What the queue engine's commands leave unchanged (12). -/

namespace Sys2Proof.Machine

section

variable {s t u : State}

/-- A property of states that nothing the queue engine does ends: its registers, events of the classes, the engine's
state, the frames it knows as secured or retried, and the marks and held commands of the cycle. The classes of a
descriptor are any numbers, so registers and events are bounded from below alone. -/
structure EngineClosed (P : State → Prop) : Prop where
  wr : ∀ {t : State} {a : Nat} {v : Word}, Reg.QE_CFG ≤ a → P t → P (t.wr a v)
  event : ∀ {t : State} {n : Nat}, 128 ≤ n → P t → P (t.event n)
  withQe : ∀ {t : State} (q : QeSt), P t → P { t with qe := q }
  withSecured : ∀ {t : State} (l : List Nat), P t → P { t with link := { t.link with secured := l } }
  withRetries : ∀ {t : State} (l : List (Nat × Nat)), P t → P { t with link := { t.link with retries := l } }
  withRings : ∀ {t : State} (r : Option (List (Nat × List Nat) × Nat × Nat)),
    P t → P { t with cyc := { t.cyc with rings := r } }
  holdCmd : ∀ {t : State} (c : HeldCmd), P t → P (t.holdCmd c)
  takeFree : ∀ {t : State}, P t → P t.takeFree.2

namespace EngineClosed

variable {P : State → Prop} (hP : EngineClosed P)

include hP

theorem eventIf {n : Nat} {c : Bool} (hn : 128 ≤ n) (h : P t) : P (t.eventIf c n) := by
  cases c
  · exact h
  · exact hP.event hn h

theorem openTaken (b : Bool) (h : P t) : P (t.openTaken b) := by
  cases b
  · exact hP.takeFree h
  · exact h

/-! ### Descriptors, cells, rings and counts -/

theorem setQd (q : Nat) (d : QDesc) (h : P t) : P (t.setQd q d) := hP.withQe _ h

theorem setCell (c : Nat) (w : Cell) (h : P t) : P (t.setCell c w) := hP.withQe _ h

theorem setCells (f : State → Nat → Cell) (cs : List Nat) (h : P t) :
    P (cs.foldl (fun u c => u.setCell c (f u c)) t) :=
  List.foldlRecOn (motive := P) cs _ h fun _ hu c _ => hP.setCell c _ hu

theorem ownCells (cs : List Nat) (o : Owner) (h : P t) : P (t.ownCells cs o) := by
  cases o with
  | free => exact hP.setCells (fun _ _ => {}) cs (hP.withSecured _ h)
  | owned => exact hP.setCells (fun u c => { u.linkWord c with own := .owned }) cs (hP.withSecured _ h)
  | queued => exact hP.setCells (fun u c => { u.linkWord c with own := .queued }) cs h

omit hP in
theorem qeCfg_le_class (c : Nat) : Reg.QE_CFG ≤ Reg.QE_CLASS c := by
  simp only [Reg.QE_CFG, Reg.QE_CLASS]
  omega

theorem classFrames (c n : Nat) (b : Bool) (h : P t) : P (t.classFrames c n b) :=
  hP.eventIf (by omega) (hP.eventIf (by omega) (hP.wr (qeCfg_le_class c) h))

theorem setRing (c : Nat) (l : List Nat) (h : P t) : P (t.setRing c l) := hP.wr (qeCfg_le_class c) (hP.withQe _ h)

theorem putQ (q : Nat) (d : QDesc) (h : P t) : P (t.putQ q d) := by
  unfold State.putQ
  refine hP.setQd _ _ ?_
  split
  · refine hP.setRing _ _ ?_
    split
    · exact hP.setRing _ _ h
    · exact h
  · split
    · exact hP.setRing _ _ h
    · exact h

theorem linkCells (cs : List Nat) (len : Nat) (h : P t) : P (t.linkCells cs len) := by
  induction cs generalizing t len with
  | nil => exact h
  | cons c cs ih =>
    cases cs with
    | nil => exact hP.setCell c _ h
    | cons d cs => exact ih _ (hP.setCell c _ h)

theorem append (q : Nat) (cs : List Nat) (b : Bool) (h : P t) : P (t.append q cs b) := by
  unfold State.append
  refine hP.classFrames _ _ _ (hP.putQ _ _ ?_)
  dsimp only
  split
  · exact hP.ownCells cs .queued h
  · exact hP.setCell _ _ (hP.ownCells cs .queued h)

theorem unlinkHead (q : Nat) (h : P t) : P (t.unlinkHead q) :=
  hP.classFrames _ _ _ (hP.putQ q _ (hP.setCell _ _ (hP.withRetries _ h)))

theorem count {lo len n : Nat} (h : P t) : P (t.satAdd Reg.QE_COUNT lo len n) := hP.wr (by decide) h

/-! ### The commands (R373 to R376) -/

theorem endHold (q : Nat) (h : P t) : P (t.endHold q) := by
  unfold State.endHold
  dsimp only
  split
  · exact hP.count (hP.ownCells _ .free (hP.unlinkHead q (hP.withQe _ h)))
  · exact hP.withQe _ h

theorem freeFlushed (cs : List Nat) (h : P t) : P (t.freeFlushed cs).s := hP.count (hP.ownCells cs .free h)

theorem qFull (q : Nat) (h : P t) : P (t.qFull q).s := hP.count (hP.setQd q _ h)

theorem qEnqueue (q cell : Nat) (fl : Bool) (h : P t) : P (t.qEnqueue q cell fl).s := by
  unfold State.qEnqueue
  dsimp only
  split
  · exact h
  · split
    · exact hP.qFull q h
    · split
      · exact h
      · split
        · exact hP.freeFlushed _ h
        · exact hP.append q _ true h

theorem qDequeue (link : Bool) (q : Nat) (keep : Bool) (h : P t) : P (t.qDequeue link q keep).s := by
  unfold State.qDequeue
  dsimp only
  split
  · exact h
  · split
    · exact h
    · split
      · exact hP.endHold q h
      · refine hP.ownCells _ _ (hP.unlinkHead q ?_)
        split
        · exact hP.withQe _ h
        · exact h

theorem qPeek (link : Bool) (q : Nat) (h : P t) : P (t.qPeek link q).s := by
  unfold State.qPeek
  dsimp only
  split
  · exact h
  · dsimp only
    split
    · exact hP.withQe _ h
    · exact h

theorem qMove (link : Bool) (q dst : Nat) (fl : Bool) (h : P t) : P (t.qMove link q dst fl).s := by
  unfold State.qMove
  dsimp only
  split
  · exact h
  · split
    · exact h
    · split
      · exact h
      · split
        · exact hP.qFull dst h
        · split
          · exact hP.freeFlushed _ (hP.unlinkHead q (hP.withQe _ h))
          · exact hP.append dst _ _ (hP.unlinkHead q (hP.withQe _ h))

theorem freeFrames (q n : Nat) (h : P t) : P (t.freeFrames q n) := by
  induction n generalizing t with
  | zero => exact h
  | succ n ih => exact ih (hP.ownCells _ .free (hP.unlinkHead q h))

theorem freeSecond (q : Nat) (h : P t) : P (t.freeSecond q) :=
  hP.ownCells _ .free (hP.classFrames _ _ _ (hP.putQ q _ (hP.setCell _ _ h)))

theorem freeRest (q n : Nat) (h : P t) : P (t.freeRest q n) := by
  induction n generalizing t with
  | zero => exact h
  | succ n ih => exact ih (hP.freeSecond q h)

theorem qFlush (q : Nat) (h : P t) : P (t.qFlush q).s := by
  unfold State.qFlush
  dsimp only
  split
  · exact hP.count (hP.withQe _ (hP.freeRest q _ (hP.setQd q _ h)))
  · exact hP.count (hP.freeFrames q _ (hP.setQd q _ h))

theorem keepRings (h : P t) : P t.keepRings := by
  unfold State.keepRings
  split
  · exact h
  · exact hP.withRings _ h

theorem qPause (q : Nat) (drain : Bool) (h : P t) : P (t.qPause q drain).s := hP.putQ q _ (hP.keepRings h)

theorem reclass (q c : Nat) (h : P t) : P (t.reclass q c) := by
  unfold State.reclass
  dsimp only
  split
  · exact h
  · exact hP.putQ q _ (hP.classFrames _ _ _ (hP.classFrames _ _ _ h))

theorem qResume (q c : Nat) (clr : Bool) (h : P t) : P (t.qResume q c clr).s := by
  unfold State.qResume
  split
  · exact h
  · exact hP.putQ q _ (hP.reclass q c h)

theorem qEffect (port : Nat) (c : QCmd) (fl : List Nat) (h : P t) : P (t.qEffect port c fl).s := by
  unfold State.qEffect
  dsimp only
  split
  · exact h
  · split
    · exact hP.qEnqueue _ _ _ h
    · exact hP.qDequeue _ _ _ h
    · exact hP.qPeek _ _ h
    · exact hP.qMove _ _ _ _ h
    · exact hP.qFlush _ h
    · exact hP.qPause _ _ h
    · exact hP.qResume _ _ _ h

/-! ### Tags and completions -/

theorem shown {r : QRes} (h : P r.s) : P r.shown.s := hP.openTaken _ h

theorem postDone (d : QDone) (h : P t) : P (t.postDone d) := by
  unfold State.postDone
  dsimp only
  split
  · exact hP.wr (by decide) (hP.withQe _ (hP.withQe _ h))
  · exact hP.withQe _ (hP.withQe _ h)

theorem postOldest (port : Nat) (h : P t) : P (t.postOldest port) := by
  unfold State.postOldest
  split
  · exact hP.postDone _ (hP.withQe _ h)
  · exact h

theorem makeRoom (port : Nat) (h : P t) : P (t.makeRoom port) := by
  unfold State.makeRoom
  split
  · exact h
  · exact hP.postOldest port (hP.count h)

theorem qeNow (port : Nat) (c : QCmd) (h : P t) : P (t.qeNow port c).s := by
  unfold State.qeNow
  split
  · exact hP.shown h
  · dsimp only
    split
    · exact hP.shown (hP.makeRoom port h)
    · exact hP.postDone _ (hP.shown (hP.qEffect port c [] (hP.makeRoom port h)))

theorem qRun (port tag : Nat) (c : QCmd) (fl : List Nat) (h : P t) : P (t.qRun port tag c fl) :=
  hP.withQe _ (hP.shown (hP.qEffect port c fl h))

theorem linkDequeue (q : Nat) (h : P t) : P (t.linkDequeue q) := by
  unfold State.linkDequeue
  split
  · exact hP.holdCmd _ h
  · exact hP.qeNow 1 _ h

end EngineClosed

/-! ### Closed properties -/

/-- A register below the engine's, and below the pending words of the classes' events, keeps its value; the count of
refused sleep entries is not among them. -/
theorem engineClosed_rd {a : Nat} (v : Word) (ha : a < Reg.INTC_PEND 4) (hne : a ≠ Reg.PWR_COUNT) :
    EngineClosed (fun t => t.rd a = v) where
  wr hb h := (rd_wr_ne _ _ (fun h => by
    simp only [Reg.INTC_PEND, Reg.QE_CFG] at ha hb
    omega)).trans h
  event hn h := by
    refine (rd_event_ne _ (fun h => ?_) (fun h => ?_) hne).trans h
    · simp only [Reg.INTC_PEND] at ha h
      omega
    · simp only [Reg.INTC_PEND, Reg.INTC_OVR] at ha h
      omega
  withQe _ h := (rd_congr rfl a).trans h
  withSecured _ h := (rd_congr rfl a).trans h
  withRetries _ h := (rd_congr rfl a).trans h
  withRings _ h := (rd_congr rfl a).trans h
  holdCmd _ h := (rd_congr rfl a).trans h
  takeFree h := (rd_congr rfl a).trans h

/-- A part of the state that depends on nothing the engine works on is kept. -/
theorem engineClosed_eq {α : Type} (f : State → α) (x : α)
    (hregs : ∀ t r, f { t with regs := r } = f t)
    (hevent : ∀ t n, f (State.event t n) = f t)
    (hqe : ∀ t q, f { t with qe := q } = f t)
    (hsecured : ∀ t l, f { t with link := { t.link with secured := l } } = f t)
    (hretries : ∀ t l, f { t with link := { t.link with retries := l } } = f t)
    (hrings : ∀ t r, f { t with cyc := { t.cyc with rings := r } } = f t)
    (hheld : ∀ t l, f { t with held := l } = f t)
    (hfree : ∀ t n, f { t with freeCtr := n } = f t) : EngineClosed (fun t => f t = x) where
  wr _ h := (hregs _ _).trans h
  event _ h := (hevent _ _).trans h
  withQe _ h := (hqe _ _).trans h
  withSecured _ h := (hsecured _ _).trans h
  withRetries _ h := (hretries _ _).trans h
  withRings _ h := (hrings _ _).trans h
  holdCmd _ h := (hheld _ _).trans h
  takeFree h := (hfree _ _).trans h

end

end Sys2Proof.Machine
end

section
/-! PROOF. The chronicle's trim, its discipline, and the flags of a lost time (05; R148 to R160). -/

namespace Sys2Proof.Machine

section

variable {s t : State}

/-! ### The trim accumulator -/

theorem accTick_eq (h : s.asleep = false) :
    s.accTick = { s with chron := { s.chron with acc := s.chron.acc + s.rate } } := by
  rw [State.accTick, h]
  simp

/-- The chronicle stands at an instant, with an accumulator. -/
def State.trimmedTo (s : State) (now : Nat) (acc : Int) : State :=
  { s with chron := { s.chron with now := now, acc := acc } }

theorem advance_one (n : Nat) (acc : Int) (h : s.asleep = false) : (s.trimmedTo n acc).advance 1 =
    s.trimmedTo ((n + 1) % 2 ^ 58) (acc + (if n % 1024 = 1023 then s.rate else 0)) := by
  have hawake : (s.trimmedTo ((n + 1) % 2 ^ 58) acc).asleep = false := h
  unfold State.advance
  by_cases hl : n % 1024 = 1023
  · rw [if_pos (show 1024 ≤ (s.trimmedTo n acc).chron.now % 1024 + 1 by rw [State.trimmedTo]; dsimp only; omega), if_pos hl]
    exact accTick_eq hawake
  · rw [if_neg (show ¬ 1024 ≤ (s.trimmedTo n acc).chron.now % 1024 + 1 by rw [State.trimmedTo]; dsimp only; omega),
      if_neg hl, Int.add_zero]
    rfl

theorem exec_trim_of_high_awake (h : (2 ^ 22 : Int) ≤ s.chron.acc) (hs : s.asleep = false) :
    exec .chronicleTrimStep s = .next (s.trimmedTo ((s.chron.now + 1) % 2 ^ 58)
      (s.chron.acc - 2 ^ 22 + (if s.chron.now % 1024 = 1023 then s.rate else 0))) := by
  rw [exec_chronicleTrimStep, execChronicleTrimStep, State.trim, if_pos h]
  dsimp only
  rw [if_neg (by simp [hs]), ← advance_one s.chron.now (s.chron.acc - 2 ^ 22) hs]
  rfl

theorem exec_trim_of_high_asleep (h : (2 ^ 22 : Int) ≤ s.chron.acc) (hs : s.asleep = true) :
    exec .chronicleTrimStep s = .next (s.trimmedTo ((s.chron.now + 1) % 2 ^ 58) (s.chron.acc - 2 ^ 22)) := by
  rw [exec_chronicleTrimStep, execChronicleTrimStep, State.trim, if_pos h]
  dsimp only
  rw [if_pos hs]
  rfl

theorem not_high_of_low (h : s.chron.acc ≤ -(2 ^ 22 : Int)) : ¬ (2 ^ 22 : Int) ≤ s.chron.acc := by omega

theorem exec_trim_of_low_awake (h : s.chron.acc ≤ -(2 ^ 22 : Int)) (hs : s.asleep = false) :
    exec .chronicleTrimStep s = .next { s with chron := { s.chron with
      lag := s.chron.lag + 1, acc := s.chron.acc + 2 ^ 22 } } := by
  rw [exec_chronicleTrimStep, execChronicleTrimStep, State.trim, if_neg (not_high_of_low h), if_pos h]
  dsimp only
  rw [if_neg (by simp [hs])]

theorem exec_trim_of_low_asleep (h : s.chron.acc ≤ -(2 ^ 22 : Int)) (hs : s.asleep = true) :
    exec .chronicleTrimStep s = .next (s.trimmedTo ((s.chron.now + (2 ^ 58 - 1)) % 2 ^ 58) (s.chron.acc + 2 ^ 22)) := by
  rw [exec_chronicleTrimStep, execChronicleTrimStep, State.trim, if_neg (not_high_of_low h), if_pos h]
  dsimp only
  rw [if_pos hs]
  rfl

theorem exec_trim_of_between (h : -(2 ^ 22 : Int) < s.chron.acc) (h' : s.chron.acc < 2 ^ 22) :
    exec .chronicleTrimStep s = .next s := by
  rw [exec_chronicleTrimStep, execChronicleTrimStep, State.trim, if_neg (by omega), if_neg (by omega)]

/-! ### The step of a captured beacon (R149) -/

theorem exhaust_chron (s : State) (q : Nat) : (s.exhaust q).chron = s.chron := by
  have hclosed : EngineClosed (fun t => t.chron = s.chron) :=
    engineClosed_eq State.chron _ (fun _ _ => rfl) event_chron (fun _ _ => rfl) (fun _ _ => rfl) (fun _ _ => rfl)
      (fun _ _ => rfl) (fun _ _ => rfl) (fun _ _ => rfl)
  have hdequeue : (s.linkDequeue q).chron = s.chron := hclosed.linkDequeue q rfl
  rw [State.exhaust, event_chron, wrF_chron, satAdd_chron, hdequeue]

theorem retryOp_chron (s : State) (o : RunOp) : (s.retryOp o).chron = s.chron := by
  unfold State.retryOp State.countRetry
  split
  · dsimp only
    split
    · exact exhaust_chron s _
    · rfl
  · rfl

theorem setAirOp_chron (s : State) (k : Nat) (o : AirOp) : (s.setAirOp k o).chron = s.chron := by
  rw [State.setAirOp, wrF_chron]

theorem endAirOp_chron (s : State) (k r : Nat) : (s.endAirOp k r).chron = s.chron := by
  rw [State.endAirOp, eventIf_chron, event_chron, setB_chron, setAirOp_chron]

theorem missOp_chron (s : State) (o : RunOp) : (s.missOp o).chron = s.chron := by
  have hretry : ((s.satAdd Reg.LINK_COUNT_TX 16 8).retryOp o).chron = s.chron := by rw [retryOp_chron, satAdd_chron]
  unfold State.missOp
  generalize (s.satAdd Reg.LINK_COUNT_TX 16 8).retryOp o = t at hretry
  dsimp only
  split
  · rw [endAirOp_chron, hretry]
  · rw [event_chron, hretry]

/-- The air operations that a step passes over are missed. -/
def State.missOps (s : State) (l : List RunOp) : State := l.foldl (fun t o => (t.serveOp o).missOp o) s

theorem missOps_chron (s : State) (l : List RunOp) : (s.missOps l).chron = s.chron := by
  refine List.foldlRecOn (motive := fun t : State => t.chron = s.chron) _ _ rfl fun t ht o _ => ?_
  rw [missOp_chron]
  exact ht

/-- The chronicle and the captured beacon's instant move. -/
def State.movedBy (s : State) (now : Nat) (f : Nat → Nat) : State :=
  { s with chron := { s.chron with now := now, lastRx := s.chron.lastRx.map f } }

theorem applyStep_eq (s : State) (theta : Int) : s.applyStep theta =
    if 0 < theta then
      ((s.missOps (if 0 < theta then s.skippedOps (unsigned 58 (s.chron.now + theta)) else [])).movedBy
        (unsigned 58 (s.chron.now + theta)) fun p => unsigned 58 (p + theta)).carried s.chron.now
    else (s.missOps (if 0 < theta then s.skippedOps (unsigned 58 (s.chron.now + theta)) else [])).movedBy
      (unsigned 58 (s.chron.now + theta)) fun p => unsigned 58 (p + theta) := rfl

theorem discStep_movedBy (s : State) (n : Nat) (f : Nat → Nat) : (s.movedBy n f).chron.discStep = s.chron.discStep := rfl

theorem discStep_applyStep (theta : Int) : (s.applyStep theta).chron.discStep = s.chron.discStep := by
  rw [applyStep_eq]
  split
  · rw [carried_chron, discStep_movedBy, missOps_chron]
  · rw [discStep_movedBy, missOps_chron]

/-- The step to take is taken. -/
def State.takeStep (s : State) : State := { s with chron := { s.chron with discStep := none } }

theorem exec_disciplineStep_of_some {theta : Int} (h : s.chron.discStep = some theta) :
    exec .disciplineStep s = .next (s.takeStep.applyStep theta) := by
  rw [exec_disciplineStep, execDisciplineStep, h]
  rfl

/-! ### The rate (R158) -/

theorem unsigned_signed {n : Nat} (h : n < 2 ^ 24) : unsigned 24 (signed 24 n) = n := by
  unfold unsigned signed
  split <;> omega

theorem fld_lt (w : Word) (lo len : Nat) : fld w lo len < 2 ^ len := Nat.mod_lt _ (Nat.two_pow_pos len)

theorem synthFollow_cases (s : State) : s.synthFollow = s ∨
    s.synthFollow = s.wrF Reg.RADIO_SYNTH_OFS 0 24 (s.rdF Reg.CHRON_RATE 0 24) := by
  unfold State.synthFollow
  split
  · exact .inr rfl
  · exact .inl rfl

theorem setRate_cases (s : State) (r : Int) : s.setRate r = s.wrF Reg.CHRON_RATE 0 24 (unsigned 24 r) ∨
    s.setRate r = (s.wrF Reg.CHRON_RATE 0 24 (unsigned 24 r)).wrF Reg.RADIO_SYNTH_OFS 0 24
      ((s.wrF Reg.CHRON_RATE 0 24 (unsigned 24 r)).rdF Reg.CHRON_RATE 0 24) := by
  unfold State.setRate
  dsimp only
  split
  · exact .inl rfl
  · exact synthFollow_cases _

/-- The rate that a write gives, and the synthesiser offset that follows it or stays. -/
theorem setRate_spec (s : State) (v : Word) :
    (s.setRate (signed 24 (fld v 0 24))).rdF Reg.CHRON_RATE 0 24 = fld v 0 24 ∧
    ((s.setRate (signed 24 (fld v 0 24))).rdF Reg.RADIO_SYNTH_OFS 0 24 = s.rdF Reg.RADIO_SYNTH_OFS 0 24 ∨
      (s.setRate (signed 24 (fld v 0 24))).rdF Reg.RADIO_SYNTH_OFS 0 24 = fld v 0 24) ∧
    OnlyRegs [Reg.CHRON_RATE, Reg.RADIO_SYNTH_OFS] s (s.setRate (signed 24 (fld v 0 24))) := by
  have hw : (s.wrF Reg.CHRON_RATE 0 24 (unsigned 24 (signed 24 (fld v 0 24)))).rdF Reg.CHRON_RATE 0 24 = fld v 0 24 := by
    rw [rdF_wrF_same _ _ (by decide), unsigned_signed (fld_lt v 0 24), Nat.mod_eq_of_lt (fld_lt v 0 24)]
  have hframe : OnlyRegs [Reg.CHRON_RATE, Reg.RADIO_SYNTH_OFS] s
      (s.wrF Reg.CHRON_RATE 0 24 (unsigned 24 (signed 24 (fld v 0 24)))) := (OnlyRegs.refl _ s).wrF (by simp)
  rcases setRate_cases s (signed 24 (fld v 0 24)) with h | h
  · rw [h]
    exact ⟨hw, .inl (rdF_wrF_of_ne _ 0 24 _ (by decide)), hframe⟩
  · rw [h, hw]
    refine ⟨?_, .inr ?_, hframe.wrF (by simp)⟩
    · rw [rdF_wrF_of_ne _ _ _ _ (by decide), hw]
    · rw [rdF_wrF_same _ _ (by decide), Nat.mod_eq_of_lt (fld_lt v 0 24)]

theorem OnlyRegs.withRateW {l : List Nat} (h : OnlyRegs l s t) : OnlyRegs l
    { s with chron := { s.chron with rateW := true } } { t with chron := { t.chron with rateW := true } } :=
  h.map (fun u => { u with chron := { u.chron with rateW := true } }) rfl fun _ => rfl

/-! ### A lost time (R154) -/

theorem checkSync_chron (s : State) : s.checkSync.chron = s.chron := by
  unfold State.checkSync
  split
  · rw [event_chron, satAdd_chron, setB_chron]
  · rfl

theorem rd_checkSync_status (s : State) : s.checkSync.rd Reg.CHRON_STATUS = s.rd Reg.CHRON_STATUS := by
  unfold State.checkSync
  split
  · rw [rd_event_ne _ (by decide) (by decide) (by decide), rd_satAdd_ne _ _ _ _ (by decide), rd_setB_ne _ _ _ (by decide)]
  · rfl

theorem lost_chronFlag (s : State) : ((s.setB Reg.CHRON_STATUS 2 true).chronFlag 2).bit Reg.CHRON_STATUS 2 = true := by
  rw [State.chronFlag, bit_congr (rd_eventIf_ne _ _ (by decide) (by decide) (by decide)), bit_setB_ne _ _ (by decide),
    bit_setB_same _ _ (by decide)]

end

end Sys2Proof.Machine
end

section

open Sys2Proof Sys2Proof.Machine

/-- Settles O25: the trim by the accumulator's place, the step of a beacon through `applyStep`, the rate by its cases. -/
theorem theChronicleIsTrimmedAndDisciplined : Obligations.TheChronicleIsTrimmedAndDisciplined := by
  unfold Obligations.TheChronicleIsTrimmedAndDisciplined
  refine ⟨fun s => exec_trim_of_high_awake, fun s => exec_trim_of_high_asleep, fun s => exec_trim_of_low_awake,
    fun s => exec_trim_of_low_asleep, fun s => exec_trim_of_between, ?step, ?resync, ?rate, ?lost, ?kept⟩
  case step =>
    intro theta s h
    exact ⟨_, exec_disciplineStep_of_some h, now_applyStep _ _, discStep_applyStep _⟩
  case resync =>
    exact fun s => ⟨_, exec_chronResync s, bit_setB_same _ _ (by decide), (OnlyRegs.refl _ _).setB (by simp)⟩
  case rate =>
    intro v s
    obtain ⟨hrate, hofs, hframe⟩ := setRate_spec s v
    exact ⟨_, exec_chronRateWrite s v, hrate, hofs, hframe.withRateW⟩
  case lost =>
    intro openAt s hrx hguard
    refine ⟨((s.setB Reg.CHRON_STATUS 2 true).chronFlag 2).checkSync, ?_, ?_, ?_, ?_⟩
    · rw [exec_chronLost, execChronLost, if_pos (by simp [hrx, hguard])]
    · rw [bit_congr (rd_checkSync_status _), lost_chronFlag]
    · rw [bit_congr (rd_checkSync_status _), bit_chronFlag _ (by decide)]
    · rw [checkSync_chron, chronFlag_chron, setB_chron]
  case kept => exact fun openAt s h => by rw [exec_chronLost, execChronLost, h]; rfl

end

section
/-! PROOF. The source of SYSCLK, and the monitors of the crystals and of the root clock (05; R133 to R143, R676). -/

namespace Sys2Proof.Machine

section

variable {s t : State}

/-! ### The source of SYSCLK (R133) -/

theorem selectSysclk_source (s : State) : s.selectSysclk.bit Reg.CLK_STATUS 0 =
    if s.bit Reg.CLK_CTRL 1 then false
    else if s.bit Reg.CLK_STATUS 1 && s.bit Reg.CLK_CTRL 0 then true else s.bit Reg.CLK_STATUS 0 := by
  unfold State.selectSysclk
  split
  · exact bit_setB_same _ _ (by decide)
  · split
    · exact bit_setB_same _ _ (by decide)
    · rfl

theorem selectSysclk_locked (s : State) : s.selectSysclk.bit Reg.CLK_STATUS 1 = s.bit Reg.CLK_STATUS 1 := by
  unfold State.selectSysclk
  split
  · exact bit_setB_ne _ _ (by decide)
  · split
    · exact bit_setB_ne _ _ (by decide)
    · rfl

theorem OnlyRegs.selectSysclk {l : List Nat} (h : OnlyRegs l s t) (hl : Reg.CLK_STATUS ∈ l) :
    OnlyRegs l s t.selectSysclk := by
  unfold State.selectSysclk
  split
  · exact h.setB hl
  · split
    · exact h.setB hl
    · exact h

theorem rd_selectSysclk_ne {a : Nat} (s : State) (h : a ≠ Reg.CLK_STATUS) : s.selectSysclk.rd a = s.rd a :=
  ((OnlyRegs.refl [Reg.CLK_STATUS] s).selectSysclk (by simp)).1 a (by simpa using h)

/-! ### A trip of class T0 or T1 (R489, R490) -/

/-- Registers and boot state are unchanged, but for what a dropped lock and its event write. -/
def Unlocked (s t : State) : Prop :=
  t.boot = s.boot ∧ ∀ a < Reg.REL_CTRL, a ≠ Reg.PWR_COUNT → a ∉ eventRegs 204 → t.rd a = s.rd a

theorem unlocked_setExch {u : State} {ch : Nat} (e : RelExch) (h : Unlocked s u) : Unlocked s (u.setExch ch e) := by
  refine ⟨h.1, fun a ha hp he => ?_⟩
  have hne : a ≠ Reg.REL_CH_STATUS ch := by
    simp only [Reg.REL_CTRL, Reg.REL_CH_STATUS] at ha ⊢
    omega
  exact (rd_setB_ne _ _ _ hne).trans (h.2 a ha hp he)

theorem sendLock_boot (s : State) (ch kind validMs card : Nat) : (s.sendLock ch kind validMs card).boot = s.boot := by
  unfold State.sendLock
  split
  · rfl
  · split <;> rfl

theorem rd_sendLock (s : State) (ch kind validMs card a : Nat) : (s.sendLock ch kind validMs card).rd a = s.rd a := by
  unfold State.sendLock
  split
  · rfl
  · split
    · exact rd_congr rfl a
    · rfl

/-- The lock drops: the message and the new state of the channel, before the event. -/
def State.unlockTo (s : State) (ch next : Nat) : State :=
  ((s.sendLock ch 2 0 (s.rdF (Reg.REL_CH_STATUS ch) 16 16)).setRelState ch next).wrF (Reg.REL_CH_STATUS ch) 16 16 0

/-- The session of a channel ends. -/
def State.endSession (s : State) (ch : Nat) : State :=
  { s with rel := { s.rel with sessions := mapErase s.rel.sessions ch } }

theorem dropLock_eq (s : State) (ch next : Nat) :
    s.dropLock ch next = ((s.unlockTo ch next).endSession ch).event (204 + ch) := rfl

theorem rd_endSession (s : State) (ch a : Nat) : (s.endSession ch).rd a = s.rd a := rd_congr rfl a

theorem rd_unlockTo_ne {a : Nat} (s : State) (ch next : Nat) (h : a ≠ Reg.REL_CH_STATUS ch) :
    (s.unlockTo ch next).rd a = s.rd a := by
  rw [State.unlockTo, rd_wrF_ne _ _ _ _ h, State.setRelState, rd_wrF_ne _ _ _ _ h, rd_sendLock]

theorem unlockTo_boot (s : State) (ch next : Nat) : (s.unlockTo ch next).boot = s.boot := by
  rw [State.unlockTo, wrF_boot, State.setRelState, wrF_boot, sendLock_boot]

theorem unlocked_dropLock {u : State} {ch : Nat} (hch : ch < 2) (next : Nat) (h : Unlocked s u) :
    Unlocked s (u.dropLock ch next) := by
  refine ⟨?_, fun a ha hp he => ?_⟩
  · rw [dropLock_eq, event_boot]
    exact (unlockTo_boot u ch next).trans h.1
  · have hne : a ≠ Reg.REL_CH_STATUS ch := by
      simp only [Reg.REL_CTRL, Reg.REL_CH_STATUS] at ha ⊢
      omega
    have hreg : (204 + ch) / 32 = 204 / 32 := by omega
    simp only [eventRegs, List.mem_cons, List.not_mem_nil, or_false, not_or] at he
    rw [dropLock_eq, rd_event_ne _ (by rw [hreg]; exact he.1) he.2 hp, rd_endSession, rd_unlockTo_ne _ _ _ hne, h.2 a ha hp]
    simp [eventRegs, he]

theorem unlocked_relTamper (s : State) : Unlocked s s.relTamper := by
  unfold State.relTamper
  refine forRange_induct ⟨rfl, fun _ _ _ _ => rfl⟩ fun ch hch u hu => ?_
  dsimp only
  have hdrop : Unlocked s (if u.relDesk && u.relState ch == 2 then u.dropLock ch (if u.relSession ch then 0 else 1) else u) := by
    split
    · exact unlocked_dropLock hch _ hu
    · exact hu
  split
  · exact unlocked_setExch _ hdrop
  · exact hdrop

theorem rd_purgeKeys (s : State) (f : Nat → Bool) (a : Nat) : (s.purgeKeys f).rd a = s.rd a := rd_congr rfl a

theorem purgeKeys_boot (s : State) (f : Nat → Bool) : (s.purgeKeys f).boot = s.boot := rfl

@[simp] theorem wake_boot (s : State) (cause : Nat) : (s.wake cause).boot = s.boot :=
  (onlyRegs_wake s cause).eq_of_indep State.boot fun _ => rfl

theorem unlocked_tamperT1 (s : State) : Unlocked s s.tamperT1 := by
  have hboot : (s.refuseAll 7 (fun _ => true)).boot = s.boot :=
    refuseAll_induct (P := fun u => u.boot = s.boot) rfl fun _ _ hu => hu
  obtain ⟨hb, hr⟩ := unlocked_relTamper ((s.refuseAll 7 (fun _ => true)).purgeKeys (fun n => 32 ≤ n))
  rw [purgeKeys_boot, hboot] at hb
  refine ⟨hb, fun a ha hp he => ?_⟩
  rw [State.tamperT1, hr a ha hp he, rd_purgeKeys, rd_refuseAll]

/-- The latch, the count and the instant of a trip. -/
def State.latchTrip (s : State) (i : Nat) : State :=
  ((if s.rdF Reg.SECMB_TAMP_LATCH 0 8 = 0 then
      s.wrInstant Reg.SECMB_TAMP_FIRST_LO Reg.SECMB_TAMP_FIRST_HI s.chron.now else s).setB Reg.SECMB_TAMP_LATCH i true).satAdd
    Reg.SECMB_TAMP_COUNT 0 16

theorem tamperTrip_of_awake (i : Nat) (h : s.pwr.mode ≠ .hibernate) (hc : s.tampClass i < 2) :
    s.tamperTrip i = ((s.latchTrip i).event 254).wake 5 ∨ s.tamperTrip i = ((s.latchTrip i).event 254).tamperT1.wake 5 := by
  have hmode : (s.pwr.mode == .hibernate) = false := by simpa using h
  unfold State.tamperTrip
  simp only [hmode, Bool.false_eq_true, if_false]
  interval_cases hcl : s.tampClass i
  · exact .inl rfl
  · exact .inr rfl

theorem latchTrip_boot (s : State) (i : Nat) : (s.latchTrip i).boot = s.boot := by
  rw [State.latchTrip, satAdd_boot, setB_boot]
  split
  · exact wrInstant_boot ..
  · rfl

theorem latched_latchTrip (s : State) {i : Nat} (h : i < 32) : (s.latchTrip i).bit Reg.SECMB_TAMP_LATCH i = true := by
  rw [State.latchTrip, bit_satAdd_of_ne _ _ _ _ (by decide), bit_setB_same _ _ h]

/-- A trip of class T0 or T1 is latched, and the part goes on. -/
theorem tripped {i : Nat} (hi : i < 32) (h : s.pwr.mode ≠ .hibernate) (hc : s.tampClass i < 2) :
    (s.tamperTrip i).boot = s.boot ∧ (s.tamperTrip i).bit Reg.SECMB_TAMP_LATCH i = true := by
  have hlatch : ((s.latchTrip i).event 254).bit Reg.SECMB_TAMP_LATCH i = true := by
    rw [bit_congr (rd_event_ne _ (by decide) (by decide) (by decide)), latched_latchTrip s hi]
  rcases tamperTrip_of_awake i h hc with h | h
  · rw [h, wake_boot, event_boot, latchTrip_boot, bit_congr (rd_wake_ne _ (by decide)), hlatch]
    exact ⟨rfl, rfl⟩
  · obtain ⟨hb, hr⟩ := unlocked_tamperT1 ((s.latchTrip i).event 254)
    rw [h, wake_boot, hb, event_boot, latchTrip_boot, bit_congr (rd_wake_ne _ (by decide)),
      bit_congr (hr _ (by decide) (by decide) (by decide)), hlatch]
    exact ⟨rfl, rfl⟩

/-! ### The root-clock monitor (R138) -/

/-- What the monitor remembers of the last window. -/
def State.withRootBad (s : State) (n : Nat) : State := { s with chron := { s.chron with rootBad := n } }

theorem rd_withRootBad (s : State) (n a : Nat) : (s.withRootBad n).rd a = s.rd a := rd_congr rfl a

theorem OnlyRegs.withRootBad {l : List Nat} (n : Nat) (h : OnlyRegs l s t) :
    OnlyRegs l (s.withRootBad n) (t.withRootBad n) := h.map (fun u => u.withRootBad n) rfl fun _ => rfl

theorem exec_rootMonitorFail_of_first {count : Nat} (hs : s.asleep = false) (hh : s.isHeld = false)
    (h : s.chron.rootBad = 0 ∨ (1014 ≤ count ∧ count ≤ 1034)) : exec (.rootMonitorFail count) s =
      .next ((s.wrF Reg.CLK_MON 0 11 (min count 2047)).withRootBad (if count < 1014 ∨ 1034 < count then 1 else 0)) := by
  have hgood : ((decide (count < 1014) || decide (1034 < count)) && decide (1 ≤ s.chron.rootBad)) = false := by
    rcases h with h | ⟨h1, h2⟩
    · simp [h]
    · simp [Nat.not_lt.2 h1, Nat.not_lt.2 h2]
  rw [exec_rootMonitorFail, execRootMonitorFail]
  simp only [hs, hh, Bool.or_self, Bool.false_eq_true, if_false, hgood]
  simp only [Bool.or_eq_true, decide_eq_true_eq]
  rfl

theorem exec_rootMonitorFail_of_second {count : Nat} (hs : s.asleep = false) (hh : s.isHeld = false)
    (hb : 1 ≤ s.chron.rootBad) (h : count < 1014 ∨ 1034 < count) : exec (.rootMonitorFail count) s =
      .next (((s.wrF Reg.CLK_MON 0 11 (min count 2047)).tamperTrip 3).warmReset .fault) := by
  have hbad : ((decide (count < 1014) || decide (1034 < count)) && decide (1 ≤ s.chron.rootBad)) = true := by
    simp [h, hb]
  rw [exec_rootMonitorFail, execRootMonitorFail]
  simp only [hs, hh, Bool.or_self, Bool.false_eq_true, if_false, hbad, if_true]

/-! ### The sleep crystal (R137, R140) -/

theorem evalCells_chron (s : State) (ins : CellLevels → Nat → List Bool) (cells : List Nat) :
    (s.evalCells ins cells).1.chron = s.chron :=
  List.foldlRecOn (motive := fun u : State => u.chron = s.chron) cells _ rfl fun _ hu _ _ => hu

theorem evalBackup_chron (s : State) : s.evalBackup.chron = s.chron := by
  have hpulse (u : State) (p : List Nat) : (u.noteSampled p).chron = u.chron := rfl
  unfold State.evalBackup
  dsimp only
  split
  · refine List.foldlRecOn (motive := fun u : State => u.chron = s.chron) _ _ (evalCells_chron ..) fun u hu i _ => ?_
    rw [wake_chron, setB_chron, hu]
  · rw [hpulse]
    split
    · exact evalCells_chron ..
    · exact (wake_chron ..).trans (evalCells_chron ..)

theorem slowTick_chron (s : State) : s.slowTick.chron = s.chron := by
  have hwdog : s.wdogTick.chron = s.chron := by
    unfold State.wdogTick
    split <;> rfl
  have hgrace (u : State) : u.graceTick.chron = u.chron := by
    unfold State.graceTick
    split <;> rfl
  have hcal (u : State) : u.calTick.chron = u.chron := by
    unfold State.calTick
    split <;> rfl
  have hrecall (u : State) : u.recallTick.chron = u.chron := rfl
  have hband (u : State) : u.bandTick.chron = u.chron := rfl
  rw [State.slowTick, hband, hcal, evalBackup_chron, hrecall, hgrace, hwdog]

theorem samplePin_chron (s : State) (free n : Nat) : (s.samplePin free n).chron = s.chron := by
  have hpadWake (u : State) : (u.padWake n).chron = u.chron := wake_chron u 3
  unfold State.samplePin
  dsimp only
  split
  · rfl
  · split
    · have hseen : (if s.asleep then (((s.setB (Reg.GPIO_IN (n / 32)) (n % 32) (s.padLevel free n)).setB
          (Reg.GPIO_FLAG (n / 32)) (n % 32) true).pulse (240 + n % 8)) else ((s.setB (Reg.GPIO_IN (n / 32)) (n % 32)
          (s.padLevel free n)).setB (Reg.GPIO_FLAG (n / 32)) (n % 32) true).event (240 + n % 8)).chron = s.chron := by
        split
        · rfl
        · rw [event_chron, setB_chron, setB_chron]
      split
      · rw [hpadWake, hseen]
      · exact hseen
    · exact setB_chron ..

theorem samplePads_chron (s : State) : s.samplePads.chron = s.chron := by
  have hmark (u : State) : u.markSampled.chron = u.chron := rfl
  rw [State.samplePads, hmark]
  refine List.foldlRecOn (motive := fun u : State => u.chron = s.chron) _ _ rfl fun u hu n _ => ?_
  rw [samplePin_chron, hu]

/-- The sleep crystal clocks the monitors again. -/
def State.withClock (s : State) : State := { s with chron := { s.chron with clockless := false } }

/-- The marks of a cycle end with a tick. -/
def State.beginTick (s : State) : State := { s with cyc := {}, chron := { s.chron with slow := 0, rateW := false } }

theorem advance_chron (s : State) (n : Nat) : (s.advance n).chron.clockless = s.chron.clockless ∧
    (s.advance n).chron.now = instant (s.chron.now + n) := by
  unfold State.advance
  dsimp only
  split
  · exact ⟨rfl, rfl⟩
  · exact ⟨rfl, rfl⟩

/-- A crystal edge in sleep advances the chronicle by one tick. -/
theorem sleepTick_chron (s : State) : s.sleepTick.chron.clockless = s.chron.clockless ∧
    s.sleepTick.chron.now = instant (s.chron.now + 1024) := by
  have htick : s.sleepTick.chron = (s.beginTick.advance 1024).chron := by
    rw [State.sleepTick, samplePads_chron, slowTick_chron]
    rfl
  rw [htick]
  exact advance_chron s.beginTick 1024

theorem unsigned_lt (len : Nat) (i : Int) : unsigned len i < 2 ^ len := by
  unfold unsigned
  have hpos : (0 : Int) < (2 ^ len : Nat) := by exact_mod_cast Nat.two_pow_pos len
  have h0 := Int.emod_nonneg i hpos.ne'
  have h1 := Int.emod_lt_of_pos i hpos
  omega

/-- A change of the slips that wait. -/
theorem OnlyEvents.withFault {l : List Nat} (x : FaultSt) (h : OnlyEvents l s t) :
    OnlyEvents l { s with fault := x } { t with fault := x } := by
  obtain ⟨_, _, _, _, _, _, rfl⟩ := h.exists_eq
  obtain ⟨hregs, hentry, hmem, -⟩ := h
  exact ⟨hregs, hentry, hmem, rfl⟩

end

end Sys2Proof.Machine
end

section

open Sys2Proof Sys2Proof.Machine

/-- Settles O23: the source of SYSCLK by its cases, and the monitors; a second bad window is a trip, then a warm reset. -/
theorem clockSelectionAndMonitorsActAsStated : Obligations.ClockSelectionAndMonitorsActAsStated := by
  unfold Obligations.ClockSelectionAndMonitorsActAsStated
  refine ⟨?ctrl, ?lock, ?loss, ?first, ?second, ?silent, ?tick, ?edge, ?edgeAsleep, ?measured⟩
  case ctrl =>
    intro v s
    refine ⟨_, exec_clkCtrlWrite s v, ?_, ?_, ?_, ?_⟩
    · rw [rdF_congr (rd_selectSysclk_ne _ (by decide)), rdF_wrF_same _ _ (by decide), Nat.mod_eq_of_lt (fld_lt v 0 2)]
    · have hbit (i : Nat) (hi : i < 2) : (s.wrF Reg.CLK_CTRL 0 2 (fld v 0 2)).bit Reg.CLK_CTRL i = bitOf v i := by
        rw [bit_wrF_same _ (by omega) (by omega) (by omega), testBit_fld]
        simp [hi, bitOf]
      rw [selectSysclk_source, hbit 1 (by omega), hbit 0 (by omega), bit_wrF_of_ne _ _ _ _ (by decide),
        bit_wrF_of_ne _ _ _ _ (by decide)]
    · rw [selectSysclk_locked, bit_wrF_of_ne _ _ _ _ (by decide)]
    · exact ((OnlyRegs.refl _ s).wrF (by simp)).selectSysclk (by simp)
  case lock =>
    intro s
    refine ⟨_, exec_corePllLock s, ?_, ?_, ((OnlyRegs.refl _ s).setB (by simp)).selectSysclk (by simp)⟩
    · rw [selectSysclk_locked, bit_setB_same _ _ (by decide)]
    · rw [selectSysclk_source, bit_setB_same _ _ (by decide), bit_setB_of_ne _ _ _ (by decide),
        bit_setB_of_ne _ _ _ (by decide), bit_setB_ne _ _ (by decide), Bool.true_and]
  case loss =>
    intro s h
    refine ⟨((((s.wrF Reg.CLK_STATUS 0 2 0).satAdd Reg.CLK_MON 16 8).event 2).slip 3 0x07 1 0), ?_, ?_, ?_, ?_, ?_, ?_⟩
    · rw [exec_corePllLockLoss, execCorePllLockLoss, if_pos h]
    · rw [rdF_congr (rd_slip ..), rdF_congr (rd_event_ne _ (by decide) (by decide) (by decide)),
        rdF_satAdd_of_ne _ _ _ _ (by decide), rdF_wrF_same _ _ (by decide), Nat.zero_mod]
    · rw [rdF_congr (rd_slip ..), rdF_congr (rd_event_ne _ (by decide) (by decide) (by decide)),
        rdF_satAdd_same _ (by decide), rdF_wrF_of_ne _ _ _ _ (by decide)]
      rfl
    · rw [State.pending1, bit_slip, ← State.pending1, pending1_event_self _ (by decide)]
    · rw [State.slip]
      simp only [event_fault, satAdd_fault, wrF_fault]
    · exact OnlyEvents.withFault _ ((((OnlyEvents.refl _ s).wrF (by simp)).satAdd (by simp)).event (by simp [eventRegs])
        (by simp [eventRegs]))
  case first =>
    intro count s hs hh _ h
    exact ⟨_, exec_rootMonitorFail_of_first hs hh h, by
      rw [rdF_congr (rd_withRootBad ..), rdF_wrF_same _ _ (by decide), Nat.mod_eq_of_lt (by omega)], rfl,
      ((OnlyRegs.refl _ s).wrF (by simp)).withRootBad _⟩
  case second =>
    intro count s hs hh _ hb h hcl hwf
    have hmode : (s.wrF Reg.CLK_MON 0 11 (min count 2047)).pwr.mode ≠ .hibernate := by
      intro hm
      rw [wrF_pwr] at hm
      simp [State.asleep, hm] at hs
    have hclass : (s.wrF Reg.CLK_MON 0 11 (min count 2047)).tampClass 3 < 2 := by
      rw [State.tampClass, rdF_wrF_of_ne _ _ _ _ (by decide)]
      exact hcl
    obtain ⟨hboot, hlatch⟩ := tripped (i := 3) (by decide) hmode hclass
    have hheld : ((s.wrF Reg.CLK_MON 0 11 (min count 2047)).tamperTrip 3).isHeld = false := by
      rw [State.isHeld, hboot, wrF_boot, ← State.isHeld, hh]
    have hkept := ((Kept.rfl' s).wrF (a := Reg.CLK_MON) (lo := 0) (len := 11) (n := min count 2047)).tamperTrip (a1 := 3)
    have hreset := warmlyReset_warmReset (c := .fault) hheld (hkept.regs hwf)
    exact ⟨_, exec_rootMonitorFail_of_second hs hh hb h, hreset.cause, by
      rw [bit_congr (hreset.kept _ (by decide) (by decide)), hlatch], hreset.phase⟩
  case silent =>
    intro s hs hf
    refine ⟨(s.setB Reg.CLK_STATUS 3 true).event 2, ?_, ?_, pending1_event_self _ (by decide), ?_⟩
    · rw [exec_slowFail, execSlowFail, hs, hf, Bool.or_self, if_neg (by decide)]
    · rw [bit_congr (rd_event_ne _ (by decide) (by decide) (by decide)), bit_setB_same _ _ (by decide)]
    · exact ((OnlyEvents.refl _ s).setB (by simp)).event (by simp [eventRegs]) (by simp [eventRegs])
  case tick => exact fun s h => by rw [exec_tickMonitorExpiry, execTickMonitorExpiry, if_pos h]
  case edge =>
    intro s h
    rw [exec_sleepCrystalEdge, execSleepCrystalEdge, h, Bool.false_and, if_neg (by decide)]
  case edgeAsleep =>
    intro s h hh
    refine ⟨s.withClock.sleepTick, ?_, ?_, ?_⟩
    · rw [exec_sleepCrystalEdge, execSleepCrystalEdge, h, hh, Bool.not_false, Bool.and_self, if_pos rfl]
      rfl
    · rw [(sleepTick_chron _).1]
      rfl
    · rw [(sleepTick_chron _).2]
      rfl
  case measured =>
    intro count s
    refine ⟨_, exec_sleepMeasurementDone s count, bit_setB_same _ _ (by decide), ?_,
      ((OnlyRegs.refl _ s).wrF (by simp)).setB (by simp)⟩
    rw [State.setB, rdF_wrF_ne _ _ (by decide), rdF_wrF_same _ _ (by decide), Nat.mod_eq_of_lt (unsigned_lt 24 _)]

end

section
/-! PROOF. What a sequence of the panel port leaves unchanged (17). -/

namespace Sys2Proof.Machine

section

variable {t : State} {P : State → Prop}

/-- A property of states that no read of a page ends: the store die's registers, slips and an error response. -/
structure ReadClosed (P : State → Prop) : Prop where
  wr : ∀ {t : State} {a : Nat} {v : Word}, Reg.STOR_CFG ≤ a → a < 0x40040000 → P t → P (t.wr a v)
  slip : ∀ {t : State} (src kind cls detail : Nat), P t → P (t.slip src kind cls detail)
  answerError : ∀ {t : State}, P t → P t.answerError

namespace ReadClosed

variable (hP : ReadClosed P)

include hP

/-! ### Reads of the store die -/

theorem noteRead (off n : Nat) (h : P t) : P (t.noteRead off n) := by
  unfold State.noteRead
  split
  · exact hP.slip _ _ _ _ (hP.wr (by decide) (by decide) (hP.wr (by decide) (by decide) h))
  · exact hP.wr (by decide) (by decide) h

/-- A property of what a page's reading gives: of the state after it, or of the one that a failure leaves. -/
def Reads {α : Type} (P : State → Prop) : Except PageErr (α × State) → Prop
  | .ok r => P r.2
  | .error e => P e.2

theorem panelRead (off n : Nat) (h : P t) : Reads P (t.panelRead off n) := by
  unfold State.panelRead State.readRun
  split
  · exact hP.answerError (hP.slip _ _ _ _ h)
  · split
    · next heq =>
      split at heq
      · exact absurd heq (by simp)
      · cases heq
        exact hP.noteRead off n h
    · next heq =>
      split at heq
      · cases heq
        exact hP.noteRead off n h
      · exact absurd heq (by simp)

theorem pageBytes (k : Nat) (h : P t) : match t.pageBytes k with | .ok r => P r.2.2 | .error e => P e.2 := by
  unfold State.pageBytes
  cases t.psOffset k with
  | none => exact h
  | some off =>
    dsimp only
    by_cases hv : (t.psState k != 2) = true
    · rw [if_pos hv]
      exact h
    · rw [if_neg hv]
      have hhead := hP.panelRead off 64 h
      cases hr : t.panelRead off 64 with
      | error e =>
        rw [hr] at hhead
        exact hhead
      | ok r =>
        obtain ⟨hd, u⟩ := r
        rw [hr] at hhead
        have hbody := hP.panelRead (off + 64) (min (b4 hd 0x18) (16 * 2048)) hhead
        dsimp only at hbody ⊢
        cases hb : u.panelRead (off + 64) (min (b4 hd 0x18) (16 * 2048)) with
        | error e =>
          rw [hb] at hbody
          exact hbody
        | ok r =>
          rw [hb] at hbody
          exact hbody

theorem plainPage (prof : List Byte) (k : Nat) (h : P t) : Reads P (t.plainPage prof k) := by
  have hpage := hP.pageBytes k h
  unfold State.plainPage
  cases hr : t.pageBytes k with
  | error e =>
    rw [hr] at hpage
    exact hpage
  | ok r =>
    obtain ⟨hd, b, u⟩ := r
    rw [hr] at hpage
    dsimp only at hpage ⊢
    split
    · split
      · exact hpage
      · exact hpage
    · exact hpage

theorem validate (prof : List Byte) (k : Nat) (h : P t) : Reads P (t.validate prof k) := by
  have hpage := hP.pageBytes k h
  unfold State.validate
  cases hr : t.pageBytes k with
  | error e =>
    rw [hr] at hpage
    exact hpage
  | ok r =>
    obtain ⟨hd, b, u⟩ := r
    rw [hr] at hpage
    dsimp only at hpage ⊢
    split
    · exact hP.plainPage prof k h
    · split
      · exact hpage
      · split
        · exact hpage
        · next j _ =>
          have hbase := hP.plainPage prof j hpage
          cases hp : u.plainPage prof j with
          | error e =>
            rw [hp] at hbase
            exact hbase
          | ok r =>
            rw [hp] at hbase
            dsimp only
            split
            · exact hbase
            · exact hbase

theorem scriptBytes (h : P t) : Reads P t.scriptBytes := by
  unfold State.scriptBytes
  dsimp only
  split
  · exact h
  · split
    · split
      · exact h
      · exact hP.panelRead _ _ h
    · exact h

theorem shownPixels (prof : List Byte) (h : P t) : P (t.shownPixels prof).2 := by
  unfold State.shownPixels
  dsimp only
  split
  · have hv := hP.validate prof (t.rdF Reg.PANEL_SHOWN 0 4) h
    cases hs : t.validate prof (t.rdF Reg.PANEL_SHOWN 0 4) with
    | error e =>
      rw [hs] at hv
      exact hv
    | ok r =>
      rw [hs] at hv
      exact hv
  · exact h

end ReadClosed

/-- A property of states that nothing a panel sequence does ends: its registers and those of a store-die read, events from
208 on, the port's state, slips, an error response, and a command that waits. -/
structure PanelClosed (P : State → Prop) : Prop where
  wr : ∀ {t : State} {a : Nat} {v : Word}, Reg.STOR_CFG ≤ a → P t → P (t.wr a v)
  event : ∀ {t : State} {n : Nat}, 208 ≤ n → P t → P (t.event n)
  withPanel : ∀ {t : State} (x : PanelSt), P t → P { t with panel := x }
  slip : ∀ {t : State} (src kind cls detail : Nat), P t → P (t.slip src kind cls detail)
  answerError : ∀ {t : State}, P t → P t.answerError
  holdCmd : ∀ {t : State} (c : HeldCmd), P t → P (t.holdCmd c)

namespace PanelClosed

theorem reads (hP : PanelClosed P) : ReadClosed P where
  wr hlo _ h := hP.wr hlo h
  slip := hP.slip
  answerError := hP.answerError

variable (hP : PanelClosed P)

include hP

/-! ### Sequences -/

theorem setPanel (st : Nat) (r : Option PanelRun) (h : P t) : P (t.setPanel st r) :=
  hP.wr (by decide) (hP.withPanel _ h)

theorem panelPower (on : Bool) (h : P t) : P (t.panelPower on) := hP.wr (by decide) h

theorem endPanel (code : Nat) (h : P t) : P (t.endPanel code) := by
  have hlast : P ((t.setPanel 0 none).wrF Reg.PANEL_STATUS 4 4 code) := hP.wr (by decide) (hP.setPanel 0 none h)
  have hcount : P (if code = 0 then (t.setPanel 0 none).wrF Reg.PANEL_STATUS 4 4 code
      else ((t.setPanel 0 none).wrF Reg.PANEL_STATUS 4 4 code).satAdd Reg.PANEL_COUNT 16 8) := by
    split
    · exact hlast
    · exact hP.wr (by decide) hlast
  have hoff (u : State) (hu : P u) :
      P (if u.panel.offDue then ({ u with panel := { u.panel with offDue := false } }).panelPower false else u) := by
    split
    · exact hP.panelPower false (hP.withPanel _ hu)
    · exact hu
  exact hoff _ hcount

theorem panelSend (d : Bool) (l : List Byte) (h : P t) : P (t.panelSend d l) := hP.withPanel _ h

theorem runScript (r : PanelRun) (fuel : Nat) (l : List Byte) (h : P t) : P (t.runScript r fuel l) := by
  induction fuel generalizing t l with
  | zero => exact hP.endPanel 6 h
  | succ n ih =>
    unfold State.runScript
    split
    · exact hP.endPanel 6 h
    · split
      · exact hP.setPanel _ _ h
      · exact hP.setPanel _ _ h
      · exact ih _ (hP.panelSend _ _ h)
      · split
        · exact hP.endPanel 6 h
        · exact ih _ (hP.panelSend _ _ h)
      · exact hP.setPanel _ _ h
      · split
        · exact hP.endPanel 6 h
        · exact hP.setPanel _ _ h
      · exact ih _ (hP.panelSend _ _ h)
      · exact ih _ (hP.panelSend _ _ h)
      · exact hP.endPanel 6 h

theorem startScript (r : PanelRun) (h : P t) : P (t.startScript r) := by
  have hread := hP.reads.scriptBytes (hP.event (n := 209) (by decide) h)
  unfold State.startScript
  dsimp only
  cases hs : (t.event 209).scriptBytes with
  | error e =>
    rw [hs] at hread
    exact hP.endPanel _ hread
  | ok b =>
    rw [hs] at hread
    exact hP.runScript _ _ _ (hP.setPanel _ _ hread)

theorem startPage (flip : Bool) (slot : Nat) (h : P t) : P (t.startPage flip slot) := by
  have hv := hP.reads.validate (t.sec 14) slot h
  unfold State.startPage
  dsimp only
  cases hs : t.validate (t.sec 14) slot with
  | error e =>
    rw [hs] at hv
    exact hP.endPanel _ hv
  | ok r =>
    rw [hs] at hv
    have hshown := hP.withPanel { (r.2.shownPixels (t.sec 14)).2.panel with sent := [] } (hP.reads.shownPixels (t.sec 14) hv)
    dsimp only
    split
    · exact hP.startScript _ hshown
    · exact hP.setPanel _ _ (hP.panelPower true hshown)

theorem startFlip (h : P t) : P t.startFlip := by
  unfold State.startFlip
  dsimp only
  split
  · exact hP.endPanel 3 h
  · split
    · split
      · exact hP.holdCmd _ h
      · exact hP.startPage _ _ h
    · exact hP.event (by decide) (hP.wr (by decide) (hP.setPanel _ _ h))
    · exact hP.endPanel 3 h

theorem pendingFlip (h : P t) : P t.pendingFlip := by
  unfold State.pendingFlip
  split
  · exact hP.startFlip (hP.wr (by decide) h)
  · exact h

end PanelClosed

end

end Sys2Proof.Machine
end

section
/-! PROOF. Wakes from Nap, Hibernate and Doze (04; R119, R122 to R125). -/

namespace Sys2Proof.Machine

section

variable {s t u : State}

/-! ### What follows a wake leaves the core running -/

/-- The registers below the interrupt controller keep their values, but for the counts of power control; the power state,
the custodian and the word of event 255 are the same or raised. -/
structure RunsOn (s t : State) : Prop where
  low : ∀ a < 0x40005000, a ≠ Reg.PWR_COUNT → t.rd a = s.rd a
  pwr : t.pwr = s.pwr
  cust : t.cust = s.cust
  event : s.pending1 255 = true → t.pending1 255 = true

theorem RunsOn.refl (s : State) : RunsOn s s := ⟨fun _ _ _ => rfl, rfl, rfl, id⟩

theorem RunsOn.trans (h : RunsOn s t) (h' : RunsOn t u) : RunsOn s u :=
  ⟨fun a ha hne => (h'.low a ha hne).trans (h.low a ha hne), h'.pwr.trans h.pwr, h'.cust.trans h.cust,
    fun he => h'.event (h.event he)⟩

/-- A change of the state outside registers, power and custodian. -/
theorem RunsOn.of_regs (hregs : t.regs = s.regs) (hpwr : t.pwr = s.pwr) (hcust : t.cust = s.cust) : RunsOn s t :=
  ⟨fun a _ _ => rd_congr hregs a, hpwr, hcust, fun h => (bit_congr (rd_congr hregs _) _).trans h⟩

theorem RunsOn.wr {a : Nat} {v : Word} (h : RunsOn s t) (ha : 0x40006000 ≤ a ∨ a = Reg.PWR_COUNT) :
    RunsOn s (t.wr a v) := by
  have hne {b : Nat} (hb : b < 0x40006000) (hc : b ≠ Reg.PWR_COUNT) : b ≠ a := by
    rcases ha with ha | rfl
    · omega
    · exact hc
  exact h.trans ⟨fun b hb hc => rd_wr_ne _ _ (hne (lt_trans hb (by decide)) hc), rfl, rfl,
    fun he => (pending1_wr_ne t (k := 255) v (hne (by decide) (by decide))).trans he⟩

theorem RunsOn.event_of_run {n : Nat} (h : RunsOn s t) (hrun : s.pwr.mode = .run) : RunsOn s (t.event n) := by
  refine h.trans ⟨fun a ha hne => rd_event_of_lt t ha hne, ?_, event_cust t n, pending1_event_of_pending1 n (by decide)⟩
  unfold State.event
  dsimp only
  refine pwr_endDoze_of_not_doze ?_ (by rw [h.pwr, hrun]; rfl)
  split <;> rfl

theorem engineClosed_runsOn (hrun : s.pwr.mode = .run) : EngineClosed (RunsOn s) where
  wr ha h := h.wr (.inl (le_trans (by decide) ha))
  event _ h := h.event_of_run hrun
  withQe _ h := h.trans (.of_regs rfl rfl rfl)
  withSecured _ h := h.trans (.of_regs rfl rfl rfl)
  withRetries _ h := h.trans (.of_regs rfl rfl rfl)
  withRings _ h := h.trans (.of_regs rfl rfl rfl)
  holdCmd _ h := h.trans (.of_regs rfl rfl rfl)
  takeFree h := h.trans (.of_regs rfl rfl rfl)

theorem panelClosed_runsOn (hrun : s.pwr.mode = .run) : PanelClosed (RunsOn s) where
  wr ha h := h.wr (.inl (le_trans (by decide) ha))
  event _ h := h.event_of_run hrun
  withPanel _ h := h.trans (.of_regs rfl rfl rfl)
  slip _ _ _ _ h := h.trans (.of_regs rfl rfl rfl)
  answerError h := h.trans (.of_regs rfl rfl rfl)
  holdCmd _ h := h.trans (.of_regs rfl rfl rfl)

theorem RunsOn.endAirOp (k r : Nat) (h : RunsOn s t) (hrun : s.pwr.mode = .run) : RunsOn s (t.endAirOp k r) := by
  have hset (o : AirOp) : RunsOn s (t.setAirOp k o) :=
    RunsOn.wr (h.trans (.of_regs rfl rfl rfl)) (.inl (by decide))
  have hended (o : AirOp) : RunsOn s (((t.setAirOp k o).setB Reg.LINK_OP_ENDED k true).event 65) :=
    ((hset o).wr (.inl (by decide))).event_of_run hrun
  unfold State.endAirOp
  dsimp only
  cases hr : r == 6
  · exact hended _
  · exact (hended _).event_of_run hrun

theorem RunsOn.retryOp (o : RunOp) (h : RunsOn s t) (hrun : s.pwr.mode = .run) : RunsOn s (t.retryOp o) := by
  unfold State.retryOp State.countRetry State.exhaust
  split
  · dsimp only
    split
    · exact RunsOn.event_of_run (((engineClosed_runsOn hrun).linkDequeue _ h).wr (.inl (by decide)) |>.wr (.inl (by decide))) hrun
    · exact h.trans (.of_regs rfl rfl rfl)
  · exact h

theorem RunsOn.missOp (o : RunOp) (h : RunsOn s t) (hrun : s.pwr.mode = .run) : RunsOn s (t.missOp o) := by
  have hretry : RunsOn s ((t.satAdd Reg.LINK_COUNT_TX 16 8).retryOp o) := (h.wr (.inl (by decide))).retryOp o hrun
  unfold State.missOp
  generalize (t.satAdd Reg.LINK_COUNT_TX 16 8).retryOp o = u at hretry
  dsimp only
  split
  · exact hretry.endAirOp _ _ hrun
  · exact hretry.event_of_run hrun

theorem RunsOn.lateOps (h : RunsOn s t) (hrun : s.pwr.mode = .run) : RunsOn s t.lateOps := by
  unfold State.lateOps
  refine List.foldlRecOn (motive := RunsOn s) _ _ h fun u hu o _ => ?_
  have hcount : RunsOn s (u.satAdd Reg.PWR_COUNT 24 8) := hu.wr (.inr rfl)
  exact RunsOn.missOp o (hcount.trans (.of_regs rfl rfl rfl)) hrun

theorem RunsOn.fireChannel {c : Nat} (h : RunsOn s t) : RunsOn s (t.fireChannel c) := by
  have hseen : RunsOn s (t.setB (Reg.FAB_SEEN (c / 32)) (c % 32) true) := by
    refine h.wr (.inl ?_)
    simp only [Reg.FAB_SEEN]
    omega
  unfold State.fireChannel
  dsimp only
  split
  · exact (hseen.wr (.inl (by decide))).wr (.inl (by decide))
  · exact hseen.trans (.of_regs rfl rfl rfl)

theorem RunsOn.fireSlept (h : RunsOn s t) : RunsOn s t.fireSlept :=
  (List.foldlRecOn (motive := RunsOn s) _ _ h fun _ hu _ _ => hu.fireChannel).trans (.of_regs rfl rfl rfl)

/-! ### The end of a wake from Nap (R122, R123) -/

/-- The causes that a wake records. -/
theorem bit_foldl_causes (l : List Nat) (hl : ∀ c ∈ l, c < 32) (s : State) (c : Nat) (hc : c ∈ l ∨
    s.bit Reg.PWR_WAKE_CAUSE c = true) (h32 : c < 32) :
    (l.foldl (fun t c => t.setB Reg.PWR_WAKE_CAUSE c true) s).bit Reg.PWR_WAKE_CAUSE c = true := by
  induction l generalizing s with
  | nil => exact hc.resolve_left (by simp)
  | cons d l ih =>
    refine ih (fun e he => hl e (List.mem_cons_of_mem _ he)) _ ?_
    by_cases hd : c = d
    · subst hd
      exact .inr (bit_setB_same _ _ h32)
    · rcases hc with hc | hc
      · exact .inl ((List.mem_cons.1 hc).resolve_left hd)
      · exact .inr ((bit_setB_ne _ _ hd).trans hc)

theorem causes_noteCauses {c : Nat} (hall : s.pwr.causes.all (fun c => c < 7) = true) (hc : c ∈ s.pwr.causes) :
    s.noteCauses.bit Reg.PWR_WAKE_CAUSE c = true := by
  have hlt (d : Nat) (hd : d ∈ s.pwr.causes) : d < 7 := by simpa using List.all_eq_true.1 hall d hd
  have hset := bit_foldl_causes s.pwr.causes (fun d hd => lt_trans (hlt d hd) (by decide)) s c (.inl hc)
    (lt_trans (hlt c hc) (by decide))
  unfold State.noteCauses
  dsimp only
  split
  · rw [bit_wrF_ne _ (.inl (lt_of_lt_of_le (hlt c hc) (by decide)))]
    exact hset
  · exact hset

theorem onlyRegs_noteCauses (s : State) : OnlyRegs [Reg.PWR_WAKE_CAUSE] s s.noteCauses := by
  have hset : OnlyRegs [Reg.PWR_WAKE_CAUSE] s (s.pwr.causes.foldl (fun t c => t.setB Reg.PWR_WAKE_CAUSE c true) s) :=
    List.foldlRecOn (motive := OnlyRegs [Reg.PWR_WAKE_CAUSE] s) _ _ (OnlyRegs.refl _ s) fun _ hu _ _ => hu.setB (by simp)
  unfold State.noteCauses
  dsimp only
  split
  · exact hset.wrF (by simp)
  · exact hset

/-- The part is awake. -/
def State.awoken (s : State) : State :=
  { s with pwr := { s.pwr with mode := .run, waking := false, causes := [], padNum := 0, padLatch := [], bowEvent := false } }

theorem rd_awoken (s : State) (a : Nat) : s.awoken.rd a = s.rd a := rd_congr rfl a

theorem rd_wakeClockless_ne {a : Nat} (s : State) (h : a ≠ Reg.CLK_STATUS) (h' : a ≠ Reg.CHRON_STATUS) :
    s.wakeClockless.rd a = s.rd a := by
  have hclock (u : State) : ({ u with chron := { u.chron with clockless := false } } : State).rd a = u.rd a := rd_congr rfl a
  unfold State.wakeClockless
  split
  · dsimp only
    rw [hclock, rd_setB_ne _ _ _ h', rd_setB_ne _ _ _ h]
  · rfl

theorem wakeClockless_kept (s : State) : s.wakeClockless.pwr = s.pwr ∧ s.wakeClockless.cust = s.cust := by
  unfold State.wakeClockless
  split
  · exact ⟨rfl, rfl⟩
  · exact ⟨rfl, rfl⟩

/-- The clock that a wake resumes on. -/
def State.resumeClock (s : State) (pll : Bool) : State :=
  (s.noteCauses.awoken.wakeClockless.setB Reg.CLK_STATUS 1 pll).selectSysclk

theorem selectSysclk_kept (s : State) : s.selectSysclk.pwr = s.pwr ∧ s.selectSysclk.cust = s.cust := by
  unfold State.selectSysclk
  split
  · exact ⟨rfl, rfl⟩
  · split
    · exact ⟨rfl, rfl⟩
    · exact ⟨rfl, rfl⟩

theorem resumeClock_pwr (s : State) (pll : Bool) : (s.resumeClock pll).pwr = s.noteCauses.awoken.pwr := by
  rw [State.resumeClock, (selectSysclk_kept _).1, setB_pwr, (wakeClockless_kept _).1]

theorem resumeClock_cust (s : State) (pll : Bool) : (s.resumeClock pll).cust = s.cust := by
  rw [State.resumeClock, (selectSysclk_kept _).2, setB_cust, (wakeClockless_kept _).2]
  exact (onlyRegs_noteCauses s).eq_of_indep State.cust fun _ => rfl

theorem rd_resumeClock_ne {a : Nat} (s : State) (pll : Bool) (h1 : a ≠ Reg.CLK_STATUS) (h2 : a ≠ Reg.CHRON_STATUS) :
    (s.resumeClock pll).rd a = s.noteCauses.rd a := by
  rw [State.resumeClock, rd_selectSysclk_ne _ h1, rd_setB_ne _ _ _ h1, rd_wakeClockless_ne _ h1 h2, rd_awoken]

theorem locked_resumeClock (s : State) (pll : Bool) : (s.resumeClock pll).bit Reg.CLK_STATUS 1 = pll := by
  rw [State.resumeClock, selectSysclk_locked, bit_setB_same _ _ (by decide)]

theorem rd_spineUp_store_ne {a : Nat} (s : State) (h1 : a ≠ Reg.SPINE_CTRL) (h2 : a ≠ Reg.SPINE_S_STAT) :
    (s.spineUp .store).rd a = s.rd a := by
  have hsp (sp : Spine) : (s.setSpineSt .store sp).rd a = s.rd a := rd_congr rfl a
  rw [State.spineUp, State.setSpine, spineStat, rd_setB_ne _ _ _ h1, rd_wr_ne _ _ h2, rd_setB_ne _ _ _ h1, hsp]

theorem spineState_spineUp_store (s : State) : (s.spineUp .store).spineState .store = 3 := by
  rw [State.spineUp, State.setSpine, State.spineState, rdF_congr (rd_setB_ne _ _ _ (by decide)), State.rdF, spineStat,
    rd_wr_same, fld_word (by decide)]
  omega

/-- The store die holds other maps. -/
def State.withMaps (s : State) (f m : List MapEntry) : State :=
  { s with store := { s.store with factory := f, map := m } }

theorem withMaps_pwr (s : State) (f m : List MapEntry) : (s.withMaps f m).pwr = s.pwr := rfl

theorem withMaps_cust (s : State) (f m : List MapEntry) : (s.withMaps f m).cust = s.cust := rfl

theorem rd_withMaps (s : State) (f m : List MapEntry) (a : Nat) : (s.withMaps f m).rd a = s.rd a := rd_congr rfl a

theorem loadMaps_cases (s : State) : ∃ f m, s.loadMaps = s.withMaps f m ∨
    s.loadMaps = (s.withMaps f m).setB Reg.STOR_STATE 10 true := by
  unfold State.loadMaps
  dsimp only
  split
  · exact ⟨_, _, .inl rfl⟩
  · exact ⟨_, _, .inr rfl⟩

theorem rd_storeLoad_ne {a : Nat} (s : State) (h : a < 0x40038000) : s.loadMaps.storeSync.rd a = s.rd a := by
  have hstate : a ≠ Reg.STOR_STATE := by
    simp only [Reg.STOR_STATE]
    omega
  have hmaps : s.loadMaps.rd a = s.rd a := by
    obtain ⟨f, m, hl | hl⟩ := loadMaps_cases s
    · rw [hl, rd_withMaps]
    · rw [hl, rd_setB_ne _ _ _ hstate, rd_withMaps]
  rw [State.storeSync, rd_wr_ne _ _ (by simp only [Reg.STORD_OP]; omega), rd_wr_ne _ _ (by simp only [Reg.STORD_OP]; omega),
    rd_wr_ne _ _ (by simp only [Reg.STOR_SPARE]; omega), rd_wr_ne _ _ hstate, hmaps]

theorem storeLoad_kept (s : State) : s.loadMaps.storeSync.pwr = s.pwr ∧ s.loadMaps.storeSync.cust = s.cust := by
  simp only [State.storeSync, wr_pwr, wr_cust]
  obtain ⟨f, m, hl | hl⟩ := loadMaps_cases s
  · rw [hl, withMaps_pwr, withMaps_cust]
    exact ⟨rfl, rfl⟩
  · rw [hl, setB_pwr, setB_cust, withMaps_pwr, withMaps_cust]
    exact ⟨rfl, rfl⟩

theorem spineUp_store_kept (s : State) : (s.spineUp .store).pwr = s.pwr ∧ (s.spineUp .store).cust = s.cust := by
  have hsp (sp : Spine) : (s.setSpineSt .store sp).pwr = s.pwr ∧ (s.setSpineSt .store sp).cust = s.cust := ⟨rfl, rfl⟩
  simp only [State.spineUp, State.setSpine, setB_pwr, setB_cust, wr_pwr, wr_cust]
  exact hsp _

/-- The part after the wake's first steps: clock, spine and maps. -/
def State.resumed (s : State) (pll : Bool) : State := ((s.resumeClock pll).spineUp .store).loadMaps.storeSync

theorem exec_napWakeResume_of_waking {pll : Bool} (hm : s.pwr.mode = .nap) (hw : s.pwr.waking = true)
    (hs : s.spineState .store ≠ 4) : exec (.napWakeResume pll) s =
      .next (((s.resumed pll).event 255).eventIf s.pwr.bowEvent 1).lateOps.wakeCatchUp.fireSlept.pendingFlip := by
  have hspine : ((s.resumeClock pll).spineState .store == 4) = false := by
    rw [State.spineState, rdF_congr (rd_resumeClock_ne _ _ (by decide) (by decide)),
      rdF_congr ((onlyRegs_noteCauses s).1 _ (by decide)), ← State.spineState]
    simpa using hs
  have hnot : (s.pwr.mode != .nap || !s.pwr.waking) = false := by simp [hm, hw]
  rw [exec_napWakeResume, execNapWakeResume, hnot, if_neg (by decide)]
  have hup : (if (s.resumeClock pll).spineState .store == 4 then s.resumeClock pll
      else (s.resumeClock pll).spineUp .store) = (s.resumeClock pll).spineUp .store := by
    rw [hspine, if_neg (by decide)]
  rw [State.resumed, ← hup]
  rfl

theorem rd_resumed_ne {a : Nat} (s : State) (pll : Bool) (h : a < 0x40038000) (h1 : a ≠ Reg.CLK_STATUS)
    (h2 : a ≠ Reg.CHRON_STATUS) (h3 : a ≠ Reg.SPINE_CTRL) (h4 : a ≠ Reg.SPINE_S_STAT) :
    (s.resumed pll).rd a = s.noteCauses.rd a := by
  rw [State.resumed, rd_storeLoad_ne _ h, rd_spineUp_store_ne _ h3 h4, rd_resumeClock_ne _ _ h1 h2]

theorem resumed_kept (s : State) (pll : Bool) : (s.resumed pll).pwr.mode = .run ∧ (s.resumed pll).pwr.waking = false ∧
    (s.resumed pll).pwr.causes = [] ∧ (s.resumed pll).cust = s.cust := by
  obtain ⟨hpwr, hcust⟩ := storeLoad_kept ((s.resumeClock pll).spineUp .store)
  obtain ⟨hup, hupc⟩ := spineUp_store_kept (s.resumeClock pll)
  rw [State.resumed, hpwr, hcust, hup, hupc, resumeClock_pwr, resumeClock_cust]
  exact ⟨rfl, rfl, rfl, rfl⟩

theorem locked_resumed (s : State) (pll : Bool) : (s.resumed pll).bit Reg.CLK_STATUS 1 = pll := by
  rw [State.resumed, bit_congr (rd_storeLoad_ne _ (by decide)), bit_congr (rd_spineUp_store_ne _ (by decide) (by decide)),
    locked_resumeClock]

theorem spineState_resumed (s : State) (pll : Bool) : (s.resumed pll).spineState .store = 3 := by
  rw [State.resumed, State.spineState, rdF_congr (rd_storeLoad_ne _ (by decide)), ← State.spineState,
    spineState_spineUp_store]

theorem RunsOn.wakeCatchUp (h : RunsOn s t) : RunsOn s t.wakeCatchUp := h.trans (.of_regs rfl rfl rfl)

/-- Event 255, and then what leaves a core that runs running. -/
theorem runsOn_afterResume (hrun : s.pwr.mode = .run) (b : Bool) :
    RunsOn s ((s.event 255).eventIf b 1).lateOps.wakeCatchUp.fireSlept.pendingFlip ∧
    ((s.event 255).eventIf b 1).lateOps.wakeCatchUp.fireSlept.pendingFlip.pending1 255 = true := by
  have hfirst : RunsOn s (s.event 255) := (RunsOn.refl s).event_of_run hrun
  have hmode : (s.event 255).pwr.mode = .run := by rw [hfirst.pwr, hrun]
  have hbow : RunsOn (s.event 255) ((s.event 255).eventIf b 1) := by
    cases b
    · exact RunsOn.refl _
    · exact (RunsOn.refl _).event_of_run hmode
  have hafter := (panelClosed_runsOn hmode).pendingFlip (hbow.lateOps hmode).wakeCatchUp.fireSlept
  exact ⟨hfirst.trans hafter, hafter.event (pending1_event_self s (by decide))⟩

/-! ### A wake instant (R116, R119) -/

theorem exec_wakeInstantReached_of_asleep {i : Nat} (hs : s.asleep = true) (hi : s.wakeAt = some i)
    (hr : s.reached i = true) : exec .wakeInstantReached s = .next s.wakeByTime := by
  rw [exec_wakeInstantReached, execWakeInstantReached, if_pos hs, hi]
  dsimp only
  rw [if_pos hr]

theorem wakeByTime_of_air (hm : s.pwr.mode = .nap) (ha : s.alarmOn = false) (harmed : s.armed = [])
    (hc : s.pwr.causes = []) : s.wakeByTime = { s with pwr := { s.pwr with waking := true, causes := [1] } } := by
  have hwake : s.wake 1 = { s with pwr := { s.pwr with waking := true, causes := [1] } } := by
    rw [wake_of_nap hm, hc]
    rfl
  have hnap : (s.pwr.mode == .hibernate) = false := by rw [hm]; rfl
  unfold State.wakeByTime
  simp only [ha, Bool.false_and, Bool.false_eq_true, if_false, hnap, harmed, hc, List.any_nil, Bool.not_false,
    List.isEmpty_nil, Bool.and_self, Bool.or_true, if_true]
  exact hwake

/-- A wake source has come. -/
def State.noteWake (s : State) (cause : Nat) : State :=
  { s with pwr := { s.pwr with
    waking := true
    causes := if s.pwr.causes.contains cause then s.pwr.causes else s.pwr.causes ++ [cause] } }

theorem wake_of_hibernate (h : s.pwr.mode = .hibernate) (cause : Nat) : s.wake cause = s.noteWake cause := by
  unfold State.wake
  rw [h]
  rfl

theorem rd_noteWake (s : State) (cause a : Nat) : (s.noteWake cause).rd a = s.rd a := rd_congr rfl a

theorem contains_noteWake (s : State) (cause : Nat) : (s.noteWake cause).pwr.causes.contains cause = true := by
  rw [State.noteWake]
  dsimp only
  split
  · assumption
  · simp

theorem OnlyRegs.noteWake {l : List Nat} (cause : Nat) (h : OnlyRegs l s t) : OnlyRegs l
    { s with pwr := { s.pwr with waking := true, causes := (t.noteWake cause).pwr.causes } } (t.noteWake cause) := by
  have hpwr : t.pwr = s.pwr := h.pwr_eq
  have hmap := h.withPwr (t.noteWake cause).pwr
  have hleft : (t.noteWake cause).pwr = { s.pwr with waking := true, causes := (t.noteWake cause).pwr.causes } := by
    rw [← hpwr]
    rfl
  rw [← hleft]
  exact hmap

theorem wakeByTime_of_alarm (hm : s.pwr.mode = .hibernate) (ha : s.alarmOn = true) (hr : s.reached s.alarmAt = true) :
    s.wakeByTime = (s.setB Reg.PWR_ALARM_HI 31 false).noteWake 0 := by
  have hasleep : s.asleep = true := by simp [State.asleep, hm]
  have hhib : (s.pwr.mode == .hibernate) = true := by rw [hm]; rfl
  unfold State.wakeByTime
  simp only [ha, hr, Bool.and_self, if_true, hhib, State.fireAlarm, hasleep]
  exact wake_of_hibernate (s := s.setB Reg.PWR_ALARM_HI 31 false) hm 0

theorem exec_wakeInstantReached_of_doze {i : Nat} (hm : s.pwr.mode = .doze) (hi : s.pwr.resumeAt = some i)
    (hr : s.reached i = true) :
    exec .wakeInstantReached s = .next { s with pwr := { s.pwr with mode := .run, resumeAt := none } } := by
  have hasleep : s.asleep = false := by simp [State.asleep, hm]
  have hdoze : (s.pwr.mode == .doze && s.reached i) = true := by rw [hm, hr]; rfl
  rw [exec_wakeInstantReached, execWakeInstantReached, hasleep, if_neg (by decide), hi]
  exact if_pos hdoze

/-! ### A wake from Hibernate (R125) -/

/-- The registers of a start from Hibernate, when the sleep crystal ran or was silent. -/
def State.hibernated (s : State) : State :=
  ((s.takeFree.2.noteCauses.coreReset false).keepBow (s.bit Reg.PWR_STATUS 0)).wr Reg.RSTC_CAUSE 0

/-- SLOW_FAIL reads 1 and SYNCED 0 after a silence of the sleep crystal. -/
def State.noteSilence (s : State) (b : Bool) : State :=
  if b then (s.setB Reg.CLK_STATUS 3 true).setB Reg.CHRON_STATUS 0 false else s

/-- The boot phase of a start, with the pads held. -/
def State.beginStart (s : State) (held : List (Nat × PadHold)) : State :=
  { s with boot := { s.boot with padHold := held, phase := .start }, spineF := { s.spineF with resetReq := false } }

theorem exec_hibernateWake_of_cause (hm : s.pwr.mode = .hibernate) (hc : s.pwr.causes ≠ []) : exec .hibernateWake s =
    .next ((((s.hibernated.noteSilence s.chron.clockless).setB Reg.PWR_STATUS 2 true).setB Reg.GPIO_HOLD 0 true).beginStart
      (s.captureHold (Config.freeNat s.freeCtr))) := by
  have hnot : (s.pwr.mode != .hibernate || s.pwr.causes.isEmpty) = false := by simp [hm, hc]
  rw [exec_hibernateWake, execHibernateWake, hnot, if_neg (by decide)]
  rfl

theorem rd_beginStart (s : State) (held : List (Nat × PadHold)) (a : Nat) : (s.beginStart held).rd a = s.rd a :=
  rd_congr rfl a

theorem rd_noteSilence_ne {a : Nat} (s : State) (b : Bool) (h1 : a ≠ Reg.CLK_STATUS) (h2 : a ≠ Reg.CHRON_STATUS) :
    (s.noteSilence b).rd a = s.rd a := by
  unfold State.noteSilence
  split
  · rw [rd_setB_ne _ _ _ h2, rd_setB_ne _ _ _ h1]
  · rfl

theorem noteSilence_kept (s : State) (b : Bool) :
    (s.noteSilence b).cust = s.cust ∧ (s.noteSilence b).chron = s.chron := by
  unfold State.noteSilence
  split
  · exact ⟨rfl, rfl⟩
  · exact ⟨rfl, rfl⟩

theorem rd_hibernated {a : Nat} (h : s.regsWf = true) (hk : keepOverReset false a = 0xFFFFFFFF)
    (h1 : a ≠ Reg.RSTC_CAUSE) (h2 : a ≠ Reg.PWR_STATUS) : s.hibernated.rd a = s.takeFree.2.noteCauses.rd a := by
  have hwf : s.takeFree.2.noteCauses.regsWf = true := ((Kept.rfl' s.takeFree.2).noteCauses).regs h
  rw [State.hibernated, rd_wr_ne _ _ h1, State.keepBow, rd_setB_ne _ _ _ h2, rd_coreReset_of_kept hwf hk]

theorem hibernated_kept (s : State) : s.hibernated.cust = s.cust.throughReset ∧ s.hibernated.chron = s.chron.throughReset := by
  have hcust : s.takeFree.2.noteCauses.cust = s.cust := (onlyRegs_noteCauses s.takeFree.2).eq_of_indep State.cust fun _ => rfl
  have hchron : s.takeFree.2.noteCauses.chron = s.chron := (onlyRegs_noteCauses s.takeFree.2).eq_of_indep State.chron fun _ => rfl
  rw [State.hibernated, wr_cust, wr_chron, State.keepBow, setB_cust, setB_chron, coreReset_cust, coreReset_chron, hcust, hchron]
  exact ⟨rfl, rfl⟩

end

end Sys2Proof.Machine
end

section

open Sys2Proof Sys2Proof.Machine

/-- Settles O21: a wake instant by the mode it comes in, then what the ends of the wakes from Nap and Hibernate leave. -/
theorem wakesResumeTheCoreWithTheirCauses : Obligations.WakesResumeTheCoreWithTheirCauses := by
  unfold Obligations.WakesResumeTheCoreWithTheirCauses
  refine ⟨?air, ?alarm, fun i s => exec_wakeInstantReached_of_doze, ?nap, ?hibernate⟩
  case air =>
    intro i s hm hi hr ha harmed hc
    have hexec := exec_wakeInstantReached_of_asleep (by simp [State.asleep, hm]) hi hr
    rw [wakeByTime_of_air hm ha harmed hc] at hexec
    exact ⟨_, hexec, rfl, rfl, OnlyRegs.refl _ _⟩
  case alarm =>
    intro i s hm hi hr ha hra
    have hexec := exec_wakeInstantReached_of_asleep (by simp [State.asleep, hm]) hi hr
    rw [wakeByTime_of_alarm hm ha hra] at hexec
    refine ⟨_, hexec, rfl, contains_noteWake _ 0, ?_, ((OnlyRegs.refl _ s).setB (by simp)).noteWake 0⟩
    rw [bit_congr (rd_noteWake _ _ _), bit_setB_same _ _ (by decide)]
  case nap =>
    intro pll s hm hw hc hs
    obtain ⟨hmode, hwaking, hcauses, hcust⟩ := resumed_kept s pll
    obtain ⟨hafter, hevent⟩ := runsOn_afterResume hmode s.pwr.bowEvent
    refine ⟨_, exec_napWakeResume_of_waking hm hw hs, ?_, ?_, ?_, ?_, ?_, ?_, ?_, ?_⟩
    · rw [hafter.pwr, hmode]
    · rw [hafter.pwr, hwaking]
    · rw [hafter.pwr, hcauses]
    · exact hevent
    · refine List.all_eq_true.2 fun c hmem => ?_
      rw [bit_congr (hafter.low _ (by decide) (by decide)),
        bit_congr (rd_resumed_ne _ _ (by decide) (by decide) (by decide) (by decide) (by decide)), causes_noteCauses hc hmem]
    · rw [bit_congr (hafter.low _ (by decide) (by decide)), locked_resumed]
    · rw [State.spineState, rdF_congr (hafter.low _ (by decide) (by decide)), ← State.spineState, spineState_resumed]
    · rw [hafter.cust, hcust]
  case hibernate =>
    intro s hm hne hc hwf
    obtain ⟨hcust, hchron⟩ := hibernated_kept s
    refine ⟨_, exec_hibernateWake_of_cause hm hne, ?_, ?_, ?_, rfl, rfl, ?_, ?_, ?_⟩
    · rw [rd_beginStart, rd_setB_ne _ _ _ (by decide), rd_setB_ne _ _ _ (by decide),
        rd_noteSilence_ne _ _ (by decide) (by decide), State.hibernated, rd_wr_same]
    · rw [bit_congr (rd_beginStart _ _ _), bit_setB_of_ne _ _ _ (by decide), bit_setB_same _ _ (by decide)]
    · rw [bit_congr (rd_beginStart _ _ _), bit_setB_same _ _ (by decide)]
    · refine List.all_eq_true.2 fun c hmem => ?_
      rw [bit_congr (rd_beginStart _ _ _), bit_setB_of_ne _ _ _ (by decide), bit_setB_of_ne _ _ _ (by decide),
        bit_congr (rd_noteSilence_ne _ _ (by decide) (by decide)),
        bit_congr (rd_hibernated hwf (by decide) (by decide) (by decide)), causes_noteCauses (s := s.takeFree.2) hc hmem]
    · exact congrArg CustSt.keys (((noteSilence_kept _ _).1).trans hcust)
    · have hnow := congrArg ChronSt.now (((noteSilence_kept s.hibernated s.chron.clockless).2).trans hchron)
      rw [ChronSt.throughReset] at hnow
      exact hnow

end

section
/-! PROOF. Power control: a brown-out warning with more held operations than STOR_STATE has room for (04; 13). -/

namespace Sys2Proof.Machine

/-- The application runs, and 16 operations are held, where the field of STOR_STATE below bit 8 counts up to 15. -/
def sixteenHeld : State := { State.reset with
  boot := { State.reset.boot with phase := .app }, store := { State.reset.store with held := List.range 16 } }

theorem exec_brownOutWarning_sixteenHeld : exec .brownOutWarning sixteenHeld =
    .next ((((sixteenHeld.setB Reg.PWR_STATUS 0 true).setB Reg.PWR_STATUS 1 true).storeInhibit).event 1) := by
  have hfree : (sixteenHeld.bit Reg.PWR_STATUS 0 || sixteenHeld.isHeld) = false := by rfl
  have hawake : (sixteenHeld.asleep || sixteenHeld.boot.phase == .held || sixteenHeld.boot.phase == .start) = false := by rfl
  rw [exec_brownOutWarning, execBrownOutWarning, hfree, if_neg (by decide), hawake]
  rfl

/-- The carry out of the count of held operations leaves INHIBIT at 0 beside the warning. -/
theorem inhibit_sixteenHeld : ((((sixteenHeld.setB Reg.PWR_STATUS 0 true).setB Reg.PWR_STATUS 1 true).storeInhibit).event
    1).bit Reg.STOR_STATE 8 = false := by rfl

end Sys2Proof.Machine
end

section

open Sys2Proof Sys2Proof.Machine

/-- Refutes O20: the statement ranges over every state, and with 16 held operations (`sixteenHeld`), more than any run
holds, STOR_STATE.INHIBIT reads 0 after a brown-out warning. -/
theorem not_brownOutWarningAndSleepEntryFollowPowerControl :
    ¬ Obligations.BrownOutWarningAndSleepEntryFollowPowerControl := by
  unfold Obligations.BrownOutWarningAndSleepEntryFollowPowerControl
  rintro ⟨hwarning, -⟩
  obtain ⟨t, ht, -, -, hinhibit, -⟩ := hwarning sixteenHeld (by rfl) (by rfl) (by rfl) (.inl rfl)
  rw [exec_brownOutWarning_sixteenHeld] at ht
  rw [← Host.Outcome.next.inj ht, inhibit_sixteenHeld] at hinhibit
  exact absurd hinhibit (by decide)

end

section
/-! PROOF. What the store die's operations leave unchanged (13). -/

namespace Sys2Proof.Machine

section

variable {t : State} {P : State → Prop}

/-- A property of states that nothing the store die does when an operation ends or goes on ends: its registers, events from
176 on, the die's state, a slip, an answer, and a free choice. -/
structure StoreClosed (P : State → Prop) : Prop where
  wr : ∀ {t : State} {a : Nat} {v : Word}, Reg.STOR_CFG ≤ a → P t → P (t.wr a v)
  event : ∀ {t : State} {n : Nat}, 176 ≤ n → P t → P (t.event n)
  withStore : ∀ {t : State} (x : StoreSt), P t → P { t with store := x }
  slip : ∀ {t : State} (src kind cls detail : Nat), P t → P (t.slip src kind cls detail)
  answer : ∀ {t : State} (v : Word), P t → P (t.answer v)
  answerError : ∀ {t : State}, P t → P t.answerError
  takeFree : ∀ {t : State}, P t → P t.takeFree.2

namespace StoreClosed

variable (hP : StoreClosed P)

include hP

theorem openTaken (b : Bool) (h : P t) : P (t.openTaken b) := by
  cases b
  · exact hP.takeFree h
  · exact h

theorem eventIf {n : Nat} {c : Bool} (hn : 176 ≤ n) (h : P t) : P (t.eventIf c n) := by
  cases c
  · exact h
  · exact hP.event hn h

theorem setOp (o : LongOp) (h : P t) : P (t.setOp o) := hP.withStore _ h

theorem dropOp (p : Nat) (h : P t) : P (t.dropOp p) := hP.withStore _ h

theorem setFlash (p i : Nat) (w : FlashWord) (h : P t) : P (t.setFlash p i w) := hP.withStore _ h

/-! ### The end of an operation (R414, R420, R424) -/

theorem psTouch (l : Nat) (h : P t) : P (t.psTouch l) := by
  unfold State.psTouch
  split
  · exact h
  · split
    · exact hP.wr (by decide) h
    · exact h

omit hP in
theorem storCfg_le_result (n : Nat) : Reg.STOR_CFG ≤ Reg.STOR_RESULT n := by
  simp only [Reg.STOR_CFG, Reg.STOR_RESULT]
  omega

theorem endCommand (slot : Option Nat) (status addr : Nat) (re : Bool) (h : P t) :
    P (t.endCommand slot status addr re) := by
  unfold State.endCommand
  split
  · exact h
  · next n =>
    have hdone (v w : Word) : P ((((t.openTaken (addrStatus status)).wr (Reg.STOR_RESULT n) v).setB Reg.STOR_DONE n true).setB
        Reg.STOR_DONE (8 + n) (status != 0)) :=
      hP.wr (by decide) (hP.wr (by decide) (hP.wr (storCfg_le_result n) (hP.openTaken _ h)))
    dsimp only
    split
    · exact hP.event (by decide) (hP.wr (by decide) (hdone _ 0))
    · refine hP.event ?_ (hdone _ 0)
      split <;> decide

theorem endOp (o : LongOp) (status addr : Nat) (re : Bool) (h : P t) : P (t.endOp o status addr re) :=
  hP.endCommand _ _ _ _ (hP.psTouch _ (hP.dropOp _ h))

theorem spoil (p : Nat) (l : List Nat) (h : P t) : P (t.spoil p l) :=
  List.foldlRecOn (motive := P) _ _ h fun u hu i _ =>
    hP.takeFree (hP.takeFree (hP.setFlash p i { data := 0, ecc := .undef u.freeCtr } hu))

theorem waitAgain (o : LongOp) (h : P t) : P (t.waitAgain o) := by
  unfold State.waitAgain
  split
  · exact hP.withStore _ h
  · exact h

theorem cutOp (o : LongOp) (h : P t) : P (t.cutOp o) := by
  rw [cutOp_eq]
  refine hP.waitAgain o (hP.endOp _ _ _ _ ?_)
  unfold State.spoilCut
  split
  · exact hP.spoil _ _ h
  · exact hP.spoil _ _ h
  · exact h

theorem inhibitOp (o : LongOp) (h : P t) : P (t.inhibitOp o) := by
  unfold State.inhibitOp
  split
  · exact hP.setOp _ h
  · split
    · exact hP.cutOp o h
    · exact hP.waitAgain o (hP.endOp o 7 0 false h)
  · exact hP.endOp o 7 0 false h

/-! ### What waits for a plane (R421 to R423) -/

theorem uncorrectable (off : Nat) (h : P t) : P (t.uncorrectable off) :=
  hP.slip _ _ _ _ (hP.wr (by decide) (hP.wr (by decide) h))

theorem serveLine (m : Master) (off : Nat) (h : P t) : P (t.serveLine m off).2.2 := by
  unfold State.serveLine
  dsimp only
  split
  · exact h
  · split
    · exact hP.uncorrectable _ (hP.wr (by decide) h)
    · exact hP.wr (by decide) h

theorem countServed (p : Nat) (h : P t) : P (t.countServed p) := by
  unfold State.countServed
  split
  · split
    · exact hP.setOp _ h
    · exact h
  · exact h

theorem serveRead (r : Master × Nat) (h : P t) : P (t.serveRead r) := by
  unfold State.serveRead
  dsimp only
  split
  · exact hP.withStore _ h
  · split
    · exact h
    · have hline := hP.serveLine r.1 r.2 (hP.countServed (t.physOf (r.2 / 2048) % 2) h)
      split
      · exact hP.answerError hline
      · exact hP.answer _ hline

theorem runCheck (slot l : Nat) (h : P t) : P (t.runCheck slot l) := by
  unfold State.runCheck
  split
  · exact hP.endCommand _ _ _ _ (hP.psTouch _ h)
  · exact hP.endCommand _ _ _ _ (hP.psTouch _ h)

theorem serveCheck (c : Nat × Nat) (h : P t) : P (t.serveCheck c) := by
  unfold State.serveCheck
  split
  · exact hP.withStore _ h
  · exact hP.runCheck _ _ h

theorem servePending (h : P t) : P t.servePending := by
  have hchecks := List.foldlRecOn (motive := P) t.store.checks State.serveCheck
    (hP.withStore { t.store with checks := [] } h) fun _ hu c _ => hP.serveCheck c hu
  exact List.foldlRecOn (motive := P) _ _ (hP.withStore _ hchecks) fun _ hu r _ => hP.serveRead r hu

theorem storeSync (h : P t) : P t.storeSync :=
  hP.wr (by decide) (hP.wr (by decide) (hP.wr (by decide) (hP.wr (by decide) h)))

theorem storeDone (h : P t) : P t.storeDone := hP.storeSync (hP.servePending h)

theorem storeInhibit (h : P t) : P t.storeInhibit :=
  hP.storeDone (List.foldlRecOn (motive := P) _ _ h fun _ hu o _ => hP.inhibitOp o hu)

theorem storeAbortAll (h : P t) : P t.storeAbortAll := by
  have hops : P (t.store.ops.foldl (fun t o =>
      match o.state with
      | .running => t
      | .suspended => if o.anyPulse then t.cutOp o else t.endOp o 12 0
      | _ => t.endOp o 12 0) t) := by
    refine List.foldlRecOn (motive := P) _ _ h fun u hu o _ => ?_
    split
    · exact hu
    · split
      · exact hP.cutOp o hu
      · exact hP.endOp o 12 0 false hu
    · exact hP.endOp o 12 0 false hu
  exact hP.storeSync (hP.withStore _ (List.foldlRecOn (motive := P) _ _ hops fun _ hu c _ =>
    hP.endCommand (some c.1) 12 0 false hu))

end StoreClosed

/-! ### Closed properties -/

theorem storeClosed_rd {a : Nat} (v : Word) (ha : a < 0x40005000) (hne : a ≠ Reg.PWR_COUNT) :
    StoreClosed (fun t => t.rd a = v) where
  wr {t b w} hb h := by
    have hab : a ≠ b := by
      simp only [Reg.STOR_CFG] at hb
      omega
    exact (rd_wr_ne t w hab).trans h
  event {t n} _ h := (rd_event_of_lt t ha hne).trans h
  withStore _ h := (rd_congr rfl a).trans h
  slip _ _ _ _ h := (rd_congr rfl a).trans h
  answer _ h := (rd_congr rfl a).trans h
  answerError h := (rd_congr rfl a).trans h
  takeFree h := (rd_congr rfl a).trans h

/-- A part of the state that depends on nothing the store die works on is kept. -/
theorem storeClosed_eq {α : Type} (f : State → α) (x : α)
    (hregs : ∀ t r, f { t with regs := r } = f t)
    (hevent : ∀ t n, f (State.event t n) = f t)
    (hstore : ∀ t y, f { t with store := y } = f t)
    (hfault : ∀ t y, f { t with fault := y } = f t)
    (hans : ∀ t y, f { t with ans := y } = f t)
    (hfree : ∀ t n, f { t with freeCtr := n } = f t) : StoreClosed (fun t => f t = x) where
  wr _ h := (hregs _ _).trans h
  event _ h := (hevent _ _).trans h
  withStore _ h := (hstore _ _).trans h
  slip _ _ _ _ h := (hfault _ _).trans h
  answer _ h := (hans _ _).trans h
  answerError h := (hans _ _).trans h
  takeFree h := (hfree _ _).trans h

theorem storeClosed_boot (x : BootSt) : StoreClosed (fun t => t.boot = x) :=
  storeClosed_eq State.boot x (fun _ _ => rfl) event_boot (fun _ _ => rfl) (fun _ _ => rfl) (fun _ _ => rfl) (fun _ _ => rfl)

theorem storeClosed_cust (x : CustSt) : StoreClosed (fun t => t.cust = x) :=
  storeClosed_eq State.cust x (fun _ _ => rfl) event_cust (fun _ _ => rfl) (fun _ _ => rfl) (fun _ _ => rfl) (fun _ _ => rfl)

theorem storeClosed_chron (x : ChronSt) : StoreClosed (fun t => t.chron = x) :=
  storeClosed_eq State.chron x (fun _ _ => rfl) event_chron (fun _ _ => rfl) (fun _ _ => rfl) (fun _ _ => rfl) (fun _ _ => rfl)

end

end Sys2Proof.Machine
end

section
/-! PROOF. Resets that lose power: power-on and brown-out (03; R64, R112). -/

namespace Sys2Proof.Machine

section

variable {s t : State}

/-! ### A power-on reset -/

/-- What a loss of power leaves before the causes are recorded: no register, and of the state what does not need power. -/
structure PoweredOff (s u : State) : Prop where
  regs : u.regs = []
  boot : u.boot = { minBuild := s.boot.minBuild, retired := s.boot.retired }
  cust : u.cust = { store := s.cust.store, life := s.cust.life, zeroised := s.cust.zeroised, made := s.cust.made }
  chron : u.chron = {}
  variant : u.variant = s.variant
  pending : u.pending = s.pending
  flash : s.store.ops = [] → s.writesSlots = false → u.store.flash = s.store.flash

theorem powerOnReset_cases (s : State) : ∃ u n, PoweredOff s u ∧
    s.powerOnReset = ((u.loseAll).wrF Reg.STOR_PATROL 0 12 n).recordCause .powerOn := by
  unfold State.powerOnReset
  refine ⟨_, _, ?_, rfl⟩
  refine ⟨rfl, rfl, rfl, rfl, rfl, rfl, fun hops hw => ?_⟩
  dsimp only
  rw [hw, if_neg (by decide), hops, List.foldl_nil]

/-- A loss of the memories touches the memory and the power state alone. -/
theorem loseAll_eq (s : State) : s.loseAll = { s with mem := s.loseAll.mem, pwr := s.loseAll.pwr } := by
  refine List.foldlRecOn (motive := fun u : State => u = { s with mem := u.mem, pwr := u.pwr }) _ _ rfl fun u hu b _ => ?_
  calc u.loseArea b = { u with mem := (u.loseArea b).mem, pwr := (u.loseArea b).pwr } := rfl
    _ = { s with mem := (u.loseArea b).mem, pwr := (u.loseArea b).pwr } :=
      congrArg (fun w : State => { w with mem := (u.loseArea b).mem, pwr := (u.loseArea b).pwr }) hu

/-- A state with another memory and another power state. -/
def State.withPower (s : State) (m : List Host.Cell) (p : PwrSt) : State := { s with mem := m, pwr := p }

theorem rd_withPower (s : State) (m : List Host.Cell) (p : PwrSt) (a : Nat) : (s.withPower m p).rd a = s.rd a := rd_congr rfl a

theorem rd_loseAll (s : State) (a : Nat) : s.loseAll.rd a = s.rd a :=
  (congrArg (fun u : State => u.rd a) (loseAll_eq s)).trans (rd_withPower s _ _ a)

/-- What neither a loss of the memories nor the record of the cause changes. -/
theorem loseAll_kept (s : State) : s.loseAll.boot = s.boot ∧ s.loseAll.cust = s.cust ∧ s.loseAll.chron = s.chron ∧
    s.loseAll.variant = s.variant ∧ s.loseAll.pending = s.pending ∧ s.loseAll.store = s.store ∧ s.loseAll.regs = s.regs := by
  obtain ⟨m, p, h⟩ : ∃ m p, s.loseAll = s.withPower m p := ⟨_, _, loseAll_eq s⟩
  rw [h]
  exact ⟨rfl, rfl, rfl, rfl, rfl, rfl, rfl⟩

theorem recordCause_kept (s : State) (c : ResetCause) : (s.recordCause c).boot = s.boot ∧ (s.recordCause c).cust = s.cust ∧
    (s.recordCause c).chron = s.chron ∧ (s.recordCause c).variant = s.variant ∧ (s.recordCause c).pending = s.pending ∧
    (s.recordCause c).store = s.store := by
  rw [State.recordCause, setB_boot, setB_cust, setB_chron, setB_variant, setB_pending, setB_store]
  exact ⟨rfl, rfl, rfl, rfl, rfl, rfl⟩

theorem poweredOff_powerOnReset (s : State) : (s.powerOnReset).rd Reg.RSTC_CAUSE = 1 ∧
    (s.powerOnReset).bit Reg.RSTC_HIST 0 = true ∧
    (∀ a, a ∉ [Reg.RSTC_CAUSE, Reg.RSTC_HIST, Reg.STOR_PATROL] → (s.powerOnReset).rd a = resetOf a) ∧
    (s.powerOnReset).boot = { minBuild := s.boot.minBuild, retired := s.boot.retired } ∧
    (s.powerOnReset).cust = { store := s.cust.store, life := s.cust.life, zeroised := s.cust.zeroised, made := s.cust.made } ∧
    (s.powerOnReset).chron = {} ∧ (s.powerOnReset).variant = s.variant ∧ (s.powerOnReset).pending = s.pending ∧
    (s.store.ops = [] → s.writesSlots = false → (s.powerOnReset).store.flash = s.store.flash) := by
  obtain ⟨u, n, hu, h⟩ := powerOnReset_cases s
  rw [h]
  refine ⟨?_, ?_, fun a ha => ?_, ?_, ?_, ?_, ?_, ?_, fun hops hw => ?_⟩
  · rw [rd_recordCause_cause]
    rfl
  · exact bit_recordCause_hist _ .powerOn
  · simp only [List.mem_cons, List.not_mem_nil, or_false, not_or] at ha
    obtain ⟨hcause, hhist, hpatrol⟩ := ha
    rw [rd_recordCause_ne _ _ hcause hhist, rd_wrF_ne _ _ _ _ hpatrol, rd_loseAll, State.rd, hu.regs]
    rfl
  all_goals
    obtain ⟨hboot, hcust, hchron, hvariant, hpending, hstore, -⟩ := loseAll_kept u
    obtain ⟨hb, hc, hh, hv, hp, hs⟩ := recordCause_kept (u.loseAll.wrF Reg.STOR_PATROL 0 12 n) .powerOn
  · rw [hb, wrF_boot, hboot, hu.boot]
  · rw [hc, wrF_cust, hcust, hu.cust]
  · rw [hh, wrF_chron, hchron, hu.chron]
  · rw [hv, wrF_variant, hvariant, hu.variant]
  · rw [hp, wrF_pending, hpending, hu.pending]
  · rw [hs, wrF_store, hstore, hu.flash hops hw]

/-- Event 1 is due. -/
def State.oweWarning (s : State) : State := { s with pwr := { s.pwr with bowEvent := true } }

theorem exec_powerOnReset_of_normal (s : State) : exec (.powerOnReset ⟨false⟩) s = .next s.powerOnReset := rfl

theorem exec_powerOnReset_of_low (s : State) : exec (.powerOnReset ⟨true⟩) s = .next s.powerOnReset.lowSupply.oweWarning := rfl

theorem oweWarning_kept (s : State) : s.oweWarning.boot = s.boot ∧ s.oweWarning.cust = s.cust ∧
    s.oweWarning.pwr.bowEvent = true := ⟨rfl, rfl, rfl⟩

theorem rd_oweWarning (s : State) (a : Nat) : s.oweWarning.rd a = s.rd a := rd_congr rfl a

/-- The warning and its record, with the inhibit wire asserted. -/
theorem lowSupply_spec (s : State) : s.lowSupply.bit Reg.PWR_STATUS 0 = true ∧ s.lowSupply.bit Reg.PWR_STATUS 1 = true ∧
    (∀ a < 0x40005000, a ∉ [Reg.PWR_COUNT, Reg.PWR_STATUS] → s.lowSupply.rd a = s.rd a) ∧
    s.lowSupply.boot = s.boot ∧ s.lowSupply.cust = s.cust := by
  have hstatus : s.lowSupply.rd Reg.PWR_STATUS = ((s.setB Reg.PWR_STATUS 0 true).setB Reg.PWR_STATUS 1 true).rd Reg.PWR_STATUS :=
    (storeClosed_rd _ (by decide) (by decide)).storeInhibit rfl
  refine ⟨?_, ?_, fun a ha hl => ?_, (storeClosed_boot _).storeInhibit rfl, (storeClosed_cust _).storeInhibit rfl⟩
  · rw [bit_congr hstatus, bit_setB_ne _ _ (by decide), bit_setB_same _ _ (by decide)]
  · rw [bit_congr hstatus, bit_setB_same _ _ (by decide)]
  · simp only [List.mem_cons, List.not_mem_nil, or_false, not_or] at hl
    obtain ⟨hcount, hne⟩ := hl
    exact (storeClosed_rd _ ha hcount).storeInhibit (by rw [rd_setB_ne _ _ _ hne, rd_setB_ne _ _ _ hne])

/-! ### A brown-out reset -/

/-- The state after a brown-out reset, before the warning is noted. -/
theorem brownOutReset_of_not_held (h : s.isHeld = false) :
    s.brownOutReset = ((s.coreReset true).loseAll.recordCause .brownOut).withPadHold [] := by
  rw [State.brownOutReset, if_neg (by rw [h]; decide)]
  rfl

theorem isHeld_storeInhibit (s : State) : s.storeInhibit.isHeld = s.isHeld := by
  have hboot : s.storeInhibit.boot = s.boot := (storeClosed_boot _).storeInhibit rfl
  rw [State.isHeld, hboot, State.isHeld]

theorem rd_brownOutReset_ne {a : Nat} (h : s.isHeld = false) (h1 : a ≠ Reg.RSTC_CAUSE) (h2 : a ≠ Reg.RSTC_HIST) :
    s.brownOutReset.rd a = (s.coreReset true).rd a := by
  rw [brownOutReset_of_not_held h, rd_withPadHold, rd_recordCause_ne _ _ h1 h2, rd_loseAll]

theorem brownOutReset_kept (h : s.isHeld = false) : s.brownOutReset.boot = { s.boot.throughReset with padHold := [] } ∧
    s.brownOutReset.cust = s.cust.throughReset ∧ s.brownOutReset.chron = s.chron.throughReset := by
  obtain ⟨hboot, hcust, hchron, -, -, -, -⟩ := loseAll_kept (s.coreReset true)
  obtain ⟨hb, hc, hh, -, -, -⟩ := recordCause_kept (s.coreReset true).loseAll .brownOut
  rw [hboot, coreReset_boot] at hb
  rw [hcust, coreReset_cust] at hc
  rw [hchron, coreReset_chron] at hh
  rw [brownOutReset_of_not_held h, State.withPadHold, hb, hc, hh]
  exact ⟨rfl, rfl, rfl⟩

/-- A brown-out reset with the warning noted. -/
def State.brownOut (s : State) : State :=
  (s.storeInhibit.brownOutReset.setB Reg.PWR_STATUS 0 true).setB Reg.PWR_STATUS 1 true

theorem exec_brownOutReset_of_not_held (h : s.isHeld = false) : exec .brownOutReset s = .next s.brownOut := by
  rw [exec_brownOutReset, execBrownOutReset, h, if_neg (by decide)]
  rfl

theorem rd_brownOut_ne {a : Nat} (h : s.isHeld = false) (h1 : a ≠ Reg.RSTC_CAUSE) (h2 : a ≠ Reg.RSTC_HIST)
    (h3 : a ≠ Reg.PWR_STATUS) : s.brownOut.rd a = (s.storeInhibit.coreReset true).rd a := by
  rw [State.brownOut, rd_setB_ne _ _ _ h3, rd_setB_ne _ _ _ h3,
    rd_brownOutReset_ne ((isHeld_storeInhibit s).trans h) h1 h2]

/-- The backup registers keep their values over a brown-out reset. -/
theorem rd_brownOut_backup {i : Nat} (h : s.isHeld = false) (hwf : s.regsWf = true) (hi : i < 8) :
    s.brownOut.rd (Reg.RSTC_BKP i) = s.rd (Reg.RSTC_BKP i) := by
  have hadr : Reg.RSTC_BKP i < 0x40005000 ∧ Reg.RSTC_BKP i ≠ Reg.PWR_COUNT ∧ Reg.RSTC_BKP i ≠ Reg.RSTC_CAUSE ∧
      Reg.RSTC_BKP i ≠ Reg.RSTC_HIST ∧ Reg.RSTC_BKP i ≠ Reg.PWR_STATUS := by
    simp only [Reg.RSTC_BKP, Reg.PWR_COUNT, Reg.RSTC_CAUSE, Reg.RSTC_HIST, Reg.PWR_STATUS]
    omega
  obtain ⟨hlow, hcount, hcause, hhist, hstatus⟩ := hadr
  have hkeep : keepOverReset true (Reg.RSTC_BKP i) = 0xFFFFFFFF := by
    interval_cases i <;> decide
  have hwf' : s.storeInhibit.regsWf = true := (Kept.rfl' s).storeInhibit.regs hwf
  rw [rd_brownOut_ne h hcause hhist hstatus, rd_coreReset_of_kept hwf' hkeep]
  exact (storeClosed_rd _ hlow hcount).storeInhibit rfl

end

end Sys2Proof.Machine
end

section

open Sys2Proof Sys2Proof.Machine

/-- Settles O15: a loss of power by what needs none, a brown-out reset by what a cold reset keeps. -/
theorem coldResetsClearAlsoMemoryAndPower : Obligations.ColdResetsClearAlsoMemoryAndPower := by
  unfold Obligations.ColdResetsClearAlsoMemoryAndPower
  refine ⟨?normal, ?low, ?brownOut, ?held, ?holdEnd, ?noHold⟩
  case normal =>
    intro s
    obtain ⟨hcause, hhist, hregs, hboot, hcust, hchron, hvariant, hpending, hflash⟩ := poweredOff_powerOnReset s
    refine ⟨_, exec_powerOnReset_of_normal s, hcause, hhist, ?_, hregs, ?_, ?_, ?_, ?_, ?_, ?_, hchron, hflash, hvariant,
      hpending⟩
    · rw [hboot]
    · rw [hboot]
    · rw [hboot]
    · rw [hcust]
    · rw [hcust]
    · rw [hcust]
    · rw [hcust]
  case low =>
    intro s
    obtain ⟨hcause, -, -, hboot, hcust, -, -, -, -⟩ := poweredOff_powerOnReset s
    obtain ⟨hbow, hseen, hlow, hlboot, hlcust⟩ := lowSupply_spec s.powerOnReset
    obtain ⟨hb, hc, howed⟩ := oweWarning_kept s.powerOnReset.lowSupply
    rw [hlboot] at hb
    rw [hlcust] at hc
    refine ⟨_, exec_powerOnReset_of_low s, ?_, ?_, ?_, ?_, howed, ?_, ?_, ?_⟩
    · rw [rd_oweWarning, hlow _ (by decide) (by decide), hcause]
    · rw [hb, hboot]
    · rw [bit_congr (rd_oweWarning _ _), hbow]
    · rw [bit_congr (rd_oweWarning _ _), hseen]
    · rw [hc, hcust]
    · rw [hc, hcust]
    · rw [hb, hboot]
  case brownOut =>
    intro s hheld hwf
    have hheld' : s.storeInhibit.isHeld = false := (isHeld_storeInhibit s).trans hheld
    obtain ⟨hboot, hcust, hchron⟩ := brownOutReset_kept hheld'
    have hstore : s.storeInhibit.cust = s.cust := (storeClosed_cust _).storeInhibit rfl
    have hclock : s.storeInhibit.chron = s.chron := (storeClosed_chron _).storeInhibit rfl
    have hb : s.brownOut.boot = s.storeInhibit.brownOutReset.boot := by rw [State.brownOut, setB_boot, setB_boot]
    have hc : s.brownOut.cust = s.storeInhibit.brownOutReset.cust := by rw [State.brownOut, setB_cust, setB_cust]
    have hh : s.brownOut.chron = s.storeInhibit.brownOutReset.chron := by rw [State.brownOut, setB_chron, setB_chron]
    refine ⟨_, exec_brownOutReset_of_not_held hheld, ?_, ?_, ?_, ?_, ?_, ?_, ?_, ?_, fun a hk ha => ?_,
      fun i => rd_brownOut_backup hheld hwf, ?_⟩
    · rw [State.brownOut, rd_setB_ne _ _ _ (by decide), rd_setB_ne _ _ _ (by decide), brownOutReset_of_not_held hheld',
        rd_withPadHold, rd_recordCause_cause]
      rfl
    · rw [State.brownOut, bit_setB_of_ne _ _ _ (by decide), bit_setB_of_ne _ _ _ (by decide),
        brownOutReset_of_not_held hheld', bit_congr (rd_withPadHold _)]
      exact bit_recordCause_hist _ .brownOut
    · rw [hb, hboot, BootSt.throughReset]
    · rw [State.brownOut, bit_setB_ne _ _ (by decide), bit_setB_same _ _ (by decide)]
    · rw [State.brownOut, bit_setB_same _ _ (by decide)]
    · rw [hc, hcust, CustSt.throughReset]
    · rw [hc, hcust, hstore, CustSt.throughReset]
    · rw [hh, hchron, hclock, ChronSt.throughReset]
    · simp only [List.mem_cons, List.not_mem_nil, or_false, not_or] at ha
      obtain ⟨hcause, hstatus⟩ := ha
      have hhist : a ≠ Reg.RSTC_HIST := by
        rintro rfl
        exact absurd hk (by decide)
      rw [rd_brownOut_ne hheld hcause hhist hstatus, rd_coreReset_of_cleared hk]
    · rw [hb, hboot]
  case held => exact fun s h => by rw [exec_brownOutReset, execBrownOutReset, h, if_pos rfl]
  case holdEnd => exact fun s h => by simp [execResetHoldEnd, h]
  case noHold => exact fun s h => by simp [execResetHoldEnd, h]

end

section
/-! PROOF. The training of Spine-S with a CHECK that waits for a plane that is free (01; 13). -/

namespace Sys2Proof.Machine

/-- Spine-S trains, and a CHECK of a sector that is not blank waits although no operation holds its plane. -/
def checkWaits : State := { State.reset with
  regs := [(Reg.SPINE_S_STAT, 2)]
  store := { State.reset.store with
    checks := [(0, 0)], flash := [(0, { data := 0 })] } }

theorem exec_spineTrainingDone_checkWaits : exec (.spineTrainingDone .store) checkWaits =
    .next (((checkWaits.spineUp .store).servePending).releaseWaiting .store) := by rfl

/-- The CHECK is served with the end of the training, and its bits of STOR_DONE set. -/
theorem done_checkWaits : (((checkWaits.spineUp .store).servePending).releaseWaiting .store).rd Reg.STOR_DONE = 257 := by
  decide +kernel

end Sys2Proof.Machine
end

section

open Sys2Proof Sys2Proof.Machine

/-- Refutes O10: the last clause lets no register but Spine-S's change, and where a CHECK waits for a free plane
(`checkWaits`) the end of the training serves it, which sets a bit of STOR_DONE. -/
theorem not_dieResetsAndTrainingFollowTheirTables : ¬ Obligations.DieResetsAndTrainingFollowTheirTables := by
  unfold Obligations.DieResetsAndTrainingFollowTheirTables
  rintro ⟨-, -, -, -, -, -, -, -, -, htraining⟩
  obtain ⟨t, ht, -, -, -, -, -, hregs, -⟩ := htraining .store checkWaits (by rfl) (by rfl) (by rfl)
  rw [exec_spineTrainingDone_checkWaits] at ht
  have hsame := hregs Reg.STOR_DONE (by decide)
  rw [← Host.Outcome.next.inj ht, done_checkWaits] at hsame
  exact absurd hsame (by decide)

end

section
/-! PROOF. The packets and transactions of the spine links (01; R15 to R36). -/

namespace Sys2Proof.Machine

section

variable {s t : State} {die : Die} {m : Master}

/-! ### The state of the links -/

/-- A state with another answer and other link states. -/
def State.withLinks (s : State) (x : Answer) (f g : Spine) : State := { s with ans := x, spineF := f, spineS := g }

/-- A state with the answer and the links of another. -/
def State.linksOf (s t : State) : State := { s with ans := t.ans, spineF := t.spineF, spineS := t.spineS }

/-- The answer and the links may differ, and nothing else. -/
theorem onlyRegs_links {x : Answer} {f g : Spine} (h : t = s.withLinks x f g) : OnlyRegs [] (s.linksOf t) t := by
  subst h
  exact OnlyRegs.refl _ _

theorem spine_setSpineSt (s : State) (die : Die) (sp : Spine) : (s.setSpineSt die sp).spine die = sp := by
  cases die
  · rfl
  · rfl

theorem setSpineSt_eq (s : State) (die : Die) (sp : Spine) : ∃ f g, s.setSpineSt die sp = s.withLinks s.ans f g := by
  cases die
  · exact ⟨_, _, rfl⟩
  · exact ⟨_, _, rfl⟩

theorem rd_setSpineSt (s : State) (die : Die) (sp : Spine) (a : Nat) : (s.setSpineSt die sp).rd a = s.rd a := by
  cases die
  · exact rd_congr rfl a
  · exact rd_congr rfl a

theorem spineState_setSpineSt (s : State) (die : Die) (sp : Spine) : (s.setSpineSt die sp).spineState die = s.spineState die :=
  rdF_congr (rd_setSpineSt s die sp _) _ _

theorem linesOut_setSpineSt (s : State) (die : Die) (sp : Spine) : (s.setSpineSt die sp).linesOut die = s.linesOut die := by
  cases die
  · rfl
  · rfl

/-- What becomes of the answer over a change of a link. -/
theorem answered_setSpineSt (s : State) (die : Die) (sp : Spine) (x : Answer) (f : State → State)
    (hf : ∀ u, f u = { u with ans := x }) : (f (s.setSpineSt die sp)).ans = x ∧ (f (s.setSpineSt die sp)).spine die = sp ∧
    (f (s.setSpineSt die sp)).spineState die = s.spineState die ∧
    (f (s.setSpineSt die sp)).linesOut die = s.linesOut die ∧
    OnlyRegs [] (s.linksOf (f (s.setSpineSt die sp))) (f (s.setSpineSt die sp)) := by
  obtain ⟨g, h, hs⟩ := setSpineSt_eq s die sp
  refine ⟨?_, ?_, ?_, ?_, onlyRegs_links (x := x) (f := g) (g := h) ?_⟩
  · rw [hf]
  · rw [hf]
    exact spine_setSpineSt s die sp
  · rw [hf]
    exact (rdF_congr (rd_congr rfl _) _ _).trans (spineState_setSpineSt s die sp)
  · rw [hf]
    cases die
    · rfl
    · rfl
  · rw [hf, hs]
    rfl

/-! ### Requests of a master (R20 to R24, R33 to R36) -/

theorem sendReq_spec (s : State) (die : Die) (r : SpineReq) : (s.sendReq die r).ans = { waiting := !r.write } ∧
    (s.sendReq die r).spine die = { s.spine die with
      txSeq := (s.spine die).txSeq + 1
      replay := (s.spine die).replay ++ [⟨(s.spine die).txSeq, 1, r⟩]
      outst := (s.spine die).outst ++ [r] } ∧
    (s.sendReq die r).spineState die = s.spineState die ∧ (s.sendReq die r).linesOut die = s.linesOut die ∧
    OnlyRegs [] (s.linksOf (s.sendReq die r)) (s.sendReq die r) := by
  unfold State.sendReq
  dsimp only
  cases r.write
  · exact answered_setSpineSt s die _ _ State.answerWait fun _ => rfl
  · exact answered_setSpineSt s die _ _ (fun u => u.answer 0) fun _ => rfl

theorem holdReq_spec (s : State) (die : Die) (r : SpineReq) : (s.holdReq die r).ans = { waiting := true } ∧
    (s.holdReq die r).spine die = { s.spine die with waiting := (s.spine die).waiting ++ [r] } ∧
    (s.holdReq die r).spineState die = s.spineState die ∧
    OnlyRegs [] (s.linksOf (s.holdReq die r)) (s.holdReq die r) := by
  obtain ⟨hans, hspine, hstate, -, hframe⟩ := answered_setSpineSt s die
    { s.spine die with waiting := (s.spine die).waiting ++ [r] } { waiting := true } State.answerWait fun _ => rfl
  exact ⟨hans, hspine, hstate, hframe⟩

theorem spineOut_sendReq (s : State) (die : Die) (r : SpineReq) : (s.sendReq die r).spineOut die = s.spineOut die + 1 := by
  obtain ⟨-, hspine, -, hlines, -⟩ := sendReq_spec s die r
  rw [State.spineOut, hspine, hlines, State.spineOut]
  simp only [List.length_append, List.length_singleton]
  omega

theorem presentReq_of_room {r : SpineReq} (hup : s.spineState die = 3)
    (hw : (s.spine die).waiting.any (fun q => q.master == r.master) = false) (hl : s.lineWaits die r.master = false)
    (hfull : s.spineFull die r.master = false) : s.presentReq die r = s.sendReq die r := by
  simp [State.presentReq, hup, hw, hl, hfull]

theorem presentReq_of_full {r : SpineReq} (hup : s.spineState die = 3)
    (hw : (s.spine die).waiting.any (fun q => q.master == r.master) = false) (hl : s.lineWaits die r.master = false)
    (hfull : s.spineFull die r.master = true) : s.presentReq die r = (s.countFull die).holdReq die r := by
  simp [State.presentReq, hup, hw, hl, hfull]

theorem presentReq_of_wait {r : SpineReq} (h : s.spineState die = 2 ∨ (s.spineState die = 3 ∧
    ((s.spine die).waiting.any (fun q => q.master == r.master) = true ∨ s.lineWaits die r.master = true))) :
    s.presentReq die r = s.holdReq die r := by
  rcases h with h | ⟨h, hw⟩
  · simp [State.presentReq, h]
  · have hbehind : ((s.spine die).waiting.any (fun q => q.master == r.master) || s.lineWaits die r.master) = true := by
      rwa [Bool.or_eq_true]
    unfold State.presentReq
    dsimp only
    rw [h, if_neg (by decide), if_neg (by decide), if_pos hbehind]

theorem presentReq_of_down {r : SpineReq} (h2 : s.spineState die ≠ 2) (h3 : s.spineState die ≠ 3) :
    s.presentReq die r = s.dieNotReady die := by
  simp [State.presentReq, h2, h3]

theorem exec_farDieAccess_of_far {w : Bool} {addr v : Word} (hd : farDie addr.toNat = some die) (hl : s.locked m = false) :
    exec (.farDieAccess m w addr v) s = .next (s.presentReq die ⟨m, w, addr.toNat, v⟩) := by
  rw [exec_farDieAccess, execFarDieAccess, hl, if_neg (by decide), hd]

theorem farDie_of_store {a : Nat} (h : region a = .store) : farDie a = some .store := by rw [farDie, h]

theorem exec_storeStatusRead_of_store {addr : Word} (hr : region addr.toNat = .store) (hl : s.locked m = false) :
    exec (.storeStatusRead m addr) s = .next (s.presentReq .store ⟨m, false, addr.toNat, 0⟩) := by
  rw [exec_storeStatusRead, execStoreStatusRead, hl, if_neg (by decide), hr]
  exact if_pos rfl

theorem spineFull_of_room (h16 : s.spineOut die < 16) (h8 : s.masterOut m < 8) : s.spineFull die m = false := by
  simp [State.spineFull, h16, h8]

theorem spineFull_of_spine (h16 : 16 ≤ s.spineOut die) : s.spineFull die m = true := by simp [State.spineFull, h16]

theorem spineFull_of_master (h8 : 8 ≤ s.masterOut m) : s.spineFull die m = true := by simp [State.spineFull, h8]

theorem countFull_of_spine (h16 : 16 ≤ s.spineOut die) : s.countFull die = s.satAdd (spineErr die) 16 8 := if_pos h16

theorem countFull_of_room (h16 : s.spineOut die < 16) : s.countFull die = s := if_neg (Nat.not_le.2 h16)

theorem spine_satAdd (s : State) (a lo len n : Nat) : (s.satAdd a lo len n).spine die = s.spine die := by
  cases die
  · rfl
  · rfl

theorem spineErr_ne_stat : spineStat die ≠ spineErr die := by
  cases die <;> decide

/-- The count of refusals, and the request held. -/
theorem held_at_full (s : State) (die : Die) (r : SpineReq) :
    ((s.satAdd (spineErr die) 16 8).holdReq die r).ans = { waiting := true } ∧
    (((s.satAdd (spineErr die) 16 8).holdReq die r).spine die).waiting = (s.spine die).waiting ++ [r] ∧
    (((s.satAdd (spineErr die) 16 8).holdReq die r).spine die).replay = (s.spine die).replay ∧
    ((s.satAdd (spineErr die) 16 8).holdReq die r).rdF (spineErr die) 16 8 = min (s.rdF (spineErr die) 16 8 + 1) 255 ∧
    OnlyRegs [spineErr die] (s.linksOf ((s.satAdd (spineErr die) 16 8).holdReq die r))
      ((s.satAdd (spineErr die) 16 8).holdReq die r) := by
  obtain ⟨hans, hspine, -, hframe⟩ := holdReq_spec (s.satAdd (spineErr die) 16 8) die r
  have hcount : ((s.satAdd (spineErr die) 16 8).holdReq die r).rdF (spineErr die) 16 8 =
      (s.satAdd (spineErr die) 16 8).rdF (spineErr die) 16 8 :=
    rdF_congr ((rd_answerWait _ _).trans (rd_setSpineSt _ die _ _)) _ _
  have hbase := ((OnlyRegs.refl [spineErr die] s).satAdd (lo := 16) (len := 8) (n := 1) (a := spineErr die) (by simp)).map
    (fun u => u.linksOf ((s.satAdd (spineErr die) 16 8).holdReq die r)) rfl fun _ => rfl
  refine ⟨hans, ?_, ?_, ?_, hbase.trans (hframe.mono (by simp))⟩
  · rw [hspine, spine_satAdd]
  · rw [hspine, spine_satAdd]
  · rw [hcount, rdF_satAdd_same _ (by decide)]
    rfl

/-! ### Held requests and responses (R20, R23, R36) -/

/-- A request leaves its master's port for Spine-F. -/
def State.unhold (s : State) (r : SpineReq) : State :=
  { s with spineF := { s.spineF with waiting := s.spineF.waiting.erase r } }

theorem exec_spineRequestRepresented_of_front {r : SpineReq} (h : s.spineF.waiting.find? (fun r => r.master == m) = some r) :
    exec (.spineRequestRepresented m) s = .next (s.represent .front r) := by
  rw [exec_spineRequestRepresented, execSpineRequestRepresented, h]

theorem represent_of_room {r : SpineReq} (ha : 0x20000000 ≤ r.addr) (hup : s.spineState .front = 3)
    (hfull : s.spineFull .front r.master = false) : s.represent .front r = (s.unhold r).sendReq .front r := by
  unfold State.represent
  dsimp only
  rw [if_neg (Nat.not_lt.2 ha), hup]
  have hlines : s.lineWaits .front r.master = false := rfl
  simp only [hlines, hfull, Bool.false_eq_true, if_false]
  rfl

theorem represent_of_full {r : SpineReq} (ha : 0x20000000 ≤ r.addr) (hup : s.spineState .front = 3)
    (hfull : s.spineFull .front r.master = true) : s.represent .front r = s.countFull .front := by
  unfold State.represent
  dsimp only
  rw [if_neg (Nat.not_lt.2 ha), hup]
  have hlines : s.lineWaits .front r.master = false := rfl
  simp only [hlines, hfull, Bool.false_eq_true, if_false, if_true]

theorem sendReq_unhold (s : State) (r : SpineReq) :
    ((s.unhold r).sendReq .front r).spineF.waiting = s.spineF.waiting.erase r ∧
    ((s.unhold r).sendReq .front r).spineF.replay = s.spineF.replay ++ [⟨s.spineF.txSeq, 1, r⟩] ∧
    ((s.unhold r).sendReq .front r).spineF.outst = s.spineF.outst ++ [r] ∧
    ((s.unhold r).sendReq .front r).ans = { waiting := !r.write } ∧
    OnlyRegs [] { s with ans := ((s.unhold r).sendReq .front r).ans, spineF := ((s.unhold r).sendReq .front r).spineF }
      ((s.unhold r).sendReq .front r) := by
  unfold State.sendReq
  dsimp only
  cases r.write
  · exact ⟨rfl, rfl, rfl, rfl, OnlyRegs.refl _ _⟩
  · exact ⟨rfl, rfl, rfl, rfl, OnlyRegs.refl _ _⟩

/-- A read that a response answers. -/
def isAnswered (r q : SpineReq) : Bool := !q.write && q.master == r.master && q.addr == r.addr

theorem exec_farDieResponse_of_waiting {r : SpineReq} {l : List SpineReq} (ha : (s.spine die).arrived = r :: l)
    (ho : (s.spine die).outst.any (isAnswered r) = true) : exec (.farDieResponse die) s = .next ((s.setSpineSt die
      { s.spine die with arrived := l, outst := (s.spine die).outst.eraseP (isAnswered r) }).answer r.data) := by
  rw [exec_farDieResponse, execFarDieResponse]
  dsimp only
  rw [ha]
  exact if_pos ho

/-! ### Packets (R15, R16) -/

/-- The links may differ, and nothing else. -/
theorem onlyRegs_setSpineSt (s : State) (die : Die) (sp : Spine) : OnlyRegs []
    { s with spineF := (s.setSpineSt die sp).spineF, spineS := (s.setSpineSt die sp).spineS } (s.setSpineSt die sp) := by
  cases die
  · exact OnlyRegs.refl _ _
  · exact OnlyRegs.refl _ _

theorem OnlyRegs.setSpineSt {l : List Nat} (die : Die) (sp : Spine) (h : OnlyRegs l s t) : OnlyRegs l
    { s with spineF := (t.setSpineSt die sp).spineF, spineS := (t.setSpineSt die sp).spineS } (t.setSpineSt die sp) := by
  cases die
  · exact h.map (fun u => { u with spineF := sp, spineS := t.spineS }) rfl fun _ => rfl
  · exact h.map (fun u => { u with spineF := t.spineF, spineS := sp }) rfl fun _ => rfl

theorem exec_spinePacketReceived_of_bad {far : Bool} {seq : Byte} :
    exec (.spinePacketReceived die far seq false) s = .next (s.satAdd (spineErr die) 0 16) := rfl

theorem exec_spinePacketReceived_of_next {p : Packet}
    (h : (s.spine die).farReplay.find? (fun p => !accepted (s.spine die).coreRx p.seq) = some p) :
    exec (.spinePacketReceived die false p.seq true) s = .next (s.setSpineSt die
      { s.spine die with coreRx := some p.seq, arrived := (s.spine die).arrived ++ [p.req] }) := by
  rw [exec_spinePacketReceived, execSpinePacketReceived]
  dsimp only
  rw [if_neg (by decide), if_neg (by decide), h]
  exact if_pos rfl

/-- A packet found among those not accepted has no accepted number. -/
theorem seq_ne_of_find {l : List Packet} {last : Option Byte} {p : Packet} {seq : Byte}
    (h : l.find? (fun p => !accepted last p.seq) = some p) (ha : accepted last seq = true) : p.seq ≠ seq := by
  rintro rfl
  have hp := List.find?_some h
  simp [ha] at hp

theorem exec_spinePacketReceived_of_accepted {seq : Byte} (h : accepted (s.spine die).coreRx seq = true) :
    exec (.spinePacketReceived die false seq true) s = .next s := by
  rw [exec_spinePacketReceived, execSpinePacketReceived, if_neg (by decide), if_neg (by decide)]
  split
  · next p hp => exact if_neg (seq_ne_of_find hp h)
  · rfl

theorem exec_spinePacketReceived_of_accepted_far {seq : Byte} (h : accepted (s.spine die).farRx seq = true) :
    exec (.spinePacketReceived die true seq true) s = .next s := by
  rw [exec_spinePacketReceived, execSpinePacketReceived, if_neg (by decide), if_pos rfl]
  split
  · next p hp => exact if_neg (seq_ne_of_find hp h)
  · rfl

/-! ### Sending again, and giving up (R15, R18) -/

/-- A packet and every later one have been sent once more. -/
def resent (seq : Byte) (q : List Packet) : List Packet :=
  q.map (fun x => if seqLe seq x.seq then { x with sends := x.sends + 1 } else x)

theorem resend_of_fresh {seq : Byte} {p : Packet} (hp : (s.spine die).replay.find? (fun p => p.seq == seq) = some p)
    (hs : (s.spine die).replay.all (fun x => !seqLe seq x.seq || decide (x.sends < 4)) = true) :
    s.resend die false seq = s.setSpineSt die { s.spine die with replay := resent seq (s.spine die).replay } := by
  have hfresh : (s.spine die).replay.any (fun p => seqLe seq p.seq && decide (4 ≤ p.sends)) = false := by
    rw [List.any_eq_false]
    intro x hx
    have hx' := List.all_eq_true.1 hs x hx
    simp only [Bool.or_eq_true, Bool.not_eq_true', decide_eq_true_eq] at hx'
    rcases hx' with h | h
    · simp [h]
    · simp [Nat.not_le.2 h]
  unfold State.resend
  simp only [Bool.false_eq_true, if_false, hp, hfresh]
  rfl

theorem resend_of_worn {seq : Byte} {p : Packet} (hp : (s.spine die).replay.find? (fun p => p.seq == seq) = some p)
    (hs : (s.spine die).replay.any (fun x => seqLe seq x.seq && decide (4 ≤ x.sends)) = true) :
    s.resend die false seq = s.stuck die := by
  unfold State.resend
  simp only [Bool.false_eq_true, if_false, hp, hs, if_true]

/-- A link gives up, before the tamper input of its spine rises. -/
def State.giveUp (s : State) (die : Die) : State :=
  ((((s.satAdd (spineErr die) 24 4).endSpine die).wrF (spineStat die) 0 3 4).setB Reg.SPINE_CTRL (2 + spineNo die) false).slip
    0 0x04 2 (spineNo die)

theorem stuck_eq (s : State) (die : Die) : s.stuck die = (s.giveUp die).tamperTrip (5 + spineNo die) := rfl

theorem rd_endSpine_ne {a : Nat} (h : a ≠ spineErr die) : (s.endSpine die).rd a = s.rd a := by
  have hreads (u : State) : ({ u with store := { u.store with reads := [] } } : State).rd a = u.rd a := rd_congr rfl a
  have hlost (u : State) (b : Bool) : (if b then u.answerError else u).rd a = u.rd a := by
    cases b
    · rfl
    · exact rd_answerError u a
  unfold State.endSpine
  cases die
  · dsimp only
    rw [rd_setSpineSt, hlost, rd_satAdd_ne _ _ _ _ h]
  · dsimp only
    rw [hreads, rd_setSpineSt, hlost, rd_satAdd_ne _ _ _ _ h]

theorem endSpine_kept (s : State) (die : Die) : ((s.endSpine die).spine die).replay = [] ∧
    (s.endSpine die).fault = s.fault := by
  have hlost (u : State) (b : Bool) : (if b then u.answerError else u).fault = u.fault := by
    cases b
    · rfl
    · rfl
  unfold State.endSpine
  cases die
  · exact ⟨rfl, hlost _ _⟩
  · exact ⟨rfl, hlost _ _⟩

/-- A trip of class T0: the latch, and event 254, at once or due after a start. -/
def State.noteTrip (s : State) (i : Nat) : State :=
  if s.pwr.mode == .hibernate then { s.latchTrip i with cust := { (s.latchTrip i).cust with eventDue := true } }
  else (s.latchTrip i).event 254

theorem tamperTrip_of_t0 {i : Nat} (h : s.tampClass i = 0) : s.tamperTrip i = (s.noteTrip i).wake 5 := by
  unfold State.tamperTrip
  dsimp only
  rw [h]
  rfl

theorem rd_latchTrip_ne {a i : Nat} (h : a ∉ [Reg.SECMB_TAMP_LATCH, Reg.SECMB_TAMP_COUNT, Reg.SECMB_TAMP_FIRST_LO,
    Reg.SECMB_TAMP_FIRST_HI]) : (s.latchTrip i).rd a = s.rd a := by
  simp only [List.mem_cons, List.not_mem_nil, or_false, not_or] at h
  obtain ⟨h1, h2, h3, h4⟩ := h
  rw [State.latchTrip, rd_satAdd_ne _ _ _ _ h2, rd_setB_ne _ _ _ h1]
  split
  · rw [State.wrInstant, rd_wr_ne _ _ h4, rd_wr_ne _ _ h3]
  · rfl

theorem rd_noteTrip {a i : Nat} (h : a ∉ eventRegs 254) (hc : a ≠ Reg.PWR_COUNT) : (s.noteTrip i).rd a = (s.latchTrip i).rd a := by
  simp only [eventRegs, List.mem_cons, List.not_mem_nil, or_false, not_or] at h
  obtain ⟨hpend, hovr⟩ := h
  unfold State.noteTrip
  split
  · exact rd_congr rfl a
  · exact rd_event_ne _ hpend hovr hc

/-- A part of the state that a trip of class T0 leaves alone. -/
theorem noteTrip_eq_of_indep {α : Type} (f : State → α) (i : Nat) (hregs : ∀ t r, f { t with regs := r } = f t)
    (hevent : ∀ t n, f (State.event t n) = f t) (hcust : ∀ t c, f { t with cust := c } = f t) : f (s.noteTrip i) = f s := by
  have hlatch : f (s.latchTrip i) = f s := by
    unfold State.latchTrip State.wrInstant
    split
    · exact (hregs _ _).trans ((hregs _ _).trans ((hregs _ _).trans (hregs _ _)))
    · exact (hregs _ _).trans (hregs _ _)
  unfold State.noteTrip
  split
  · exact (hcust _ _).trans hlatch
  · exact (hevent _ _).trans hlatch

@[simp] theorem wake_spine (s : State) (cause : Nat) (die : Die) : (s.wake cause).spine die = s.spine die :=
  (onlyRegs_wake s cause).eq_of_indep (fun u => u.spine die) fun _ => by cases die <;> rfl

theorem event_spine (s : State) (n : Nat) (die : Die) : (s.event n).spine die = s.spine die := by
  cases die
  · exact event_spineF s n
  · exact event_spineS s n

theorem fault_tamperTrip_of_t0 {i : Nat} (h : s.tampClass i = 0) : (s.tamperTrip i).fault = s.fault := by
  rw [tamperTrip_of_t0 h, wake_fault]
  exact noteTrip_eq_of_indep State.fault i (fun _ _ => rfl) event_fault fun _ _ => rfl

theorem spine_tamperTrip_of_t0 {i : Nat} (h : s.tampClass i = 0) : (s.tamperTrip i).spine die = s.spine die := by
  rw [tamperTrip_of_t0 h, wake_spine]
  exact noteTrip_eq_of_indep (fun u => u.spine die) i (fun _ _ => by cases die <;> rfl) (fun t n => event_spine t n die)
    fun _ _ => by cases die <;> rfl

theorem rd_tamperTrip_of_t0 {a i : Nat} (h : s.tampClass i = 0) (ha : a ∉ eventRegs 254) (hc : a ≠ Reg.PWR_COUNT) :
    (s.tamperTrip i).rd a = (s.latchTrip i).rd a := by
  rw [tamperTrip_of_t0 h, rd_wake_ne _ hc, rd_noteTrip ha hc]

/-- What a link leaves when it gives up, with its tamper input in class T0. -/
theorem stuck_spec (hc : s.rdF Reg.SECMB_TAMP_CLASS (2 * (5 + spineNo die)) 2 = 0) : (s.stuck die).spineState die = 4 ∧
    ((s.stuck die).spine die).replay = [] ∧
    (s.stuck die).fault.waiting = s.fault.waiting ++ [slipWord 0 0x04 2 (spineNo die)] ∧
    (s.stuck die).bit Reg.SECMB_TAMP_LATCH (5 + spineNo die) = true := by
  have hrd (a : Nat) (h : a ∉ [spineErr die, spineStat die, Reg.SPINE_CTRL]) : (s.giveUp die).rd a = s.rd a := by
    simp only [List.mem_cons, List.not_mem_nil, or_false, not_or] at h
    obtain ⟨herr, hstat, hctrl⟩ := h
    rw [State.giveUp, rd_slip, rd_setB_ne _ _ _ hctrl, rd_wrF_ne _ _ _ _ hstat, rd_endSpine_ne herr,
      rd_satAdd_ne _ _ _ _ herr]
  have hclass : (s.giveUp die).tampClass (5 + spineNo die) = 0 := by
    rw [State.tampClass, rdF_congr (hrd _ (by cases die <;> decide)), hc]
  obtain ⟨hreplay, hfault⟩ := endSpine_kept (s.satAdd (spineErr die) 24 4) die
  have hstate : (s.giveUp die).spineState die = 4 := by
    rw [State.giveUp, State.spineState, rdF_congr (rd_slip ..), rdF_congr (rd_setB_ne _ _ _ (by cases die <;> decide)),
      rdF_wrF_same _ _ (by decide)]
    rfl
  rw [stuck_eq]
  refine ⟨?_, ?_, ?_, ?_⟩
  · rw [State.spineState, rdF_congr (rd_tamperTrip_of_t0 hclass (by cases die <;> decide) (by cases die <;> decide)),
      rdF_congr (rd_latchTrip_ne (by cases die <;> decide)), ← State.spineState, hstate]
  · rw [spine_tamperTrip_of_t0 hclass]
    cases die
    · exact hreplay
    · exact hreplay
  · rw [fault_tamperTrip_of_t0 hclass, State.giveUp, State.slip]
    simp only [setB_fault, wrF_fault, hfault, satAdd_fault]
  · rw [bit_congr (rd_tamperTrip_of_t0 hclass (by decide) (by decide)),
      latched_latchTrip _ (by cases die <;> decide)]

/-! ### Acknowledgements (R15, R22) -/

theorem mem_of_mem_foldl_erase {r : SpineReq} (l o : List SpineReq) (h : r ∈ l.foldl (fun o r => o.erase r) o) : r ∈ o := by
  induction l generalizing o with
  | nil => exact h
  | cons a l ih => exact List.mem_of_mem_erase (ih _ h)

end

end Sys2Proof.Machine
end

section

open Sys2Proof Sys2Proof.Machine

/-- Settles O8: a request by the state and the room of its spine, a held request by the room, a response by its read. -/
theorem farDieAccessesCrossTheirSpineInOrder : Obligations.FarDieAccessesCrossTheirSpineInOrder := by
  unfold Obligations.FarDieAccessesCrossTheirSpineInOrder
  refine ⟨?sent, ?down, ?waits, ?full, ?master, ?status, ?statusSent, ?again, ?againFull, ?response⟩
  case sent =>
    intro m w addr v die s hd hl hup hw hlines h16 h8
    obtain ⟨hans, hspine, hstate, -, hframe⟩ := sendReq_spec s die ⟨m, w, addr.toNat, v⟩
    have hexec := exec_farDieAccess_of_far (v := v) (w := w) hd hl
    rw [presentReq_of_room hup hw hlines (spineFull_of_room h16 h8)] at hexec
    refine ⟨_, hexec, hans, ?_, ?_, ?_, spineOut_sendReq s die _, hstate.trans hup, hframe⟩
    · rw [hspine]
    · rw [hspine]
    · rw [hspine]
  case down =>
    intro m w addr v die s hd hl h2 h3
    rw [exec_farDieAccess_of_far hd hl, presentReq_of_down h2 h3]
    rfl
  case waits =>
    intro m w addr v die s hd hl h
    obtain ⟨hans, hspine, hstate, hframe⟩ := holdReq_spec s die ⟨m, w, addr.toNat, v⟩
    have hexec := exec_farDieAccess_of_far (v := v) (w := w) hd hl
    rw [presentReq_of_wait (r := ⟨m, w, addr.toNat, v⟩) h] at hexec
    refine ⟨_, hexec, hans, ?_, ?_, hstate, hframe⟩
    · rw [hspine]
    · rw [hspine]
  case full =>
    intro m w addr v die s hd hl hup hw hlines h16
    have hexec := exec_farDieAccess_of_far (v := v) (w := w) hd hl
    rw [presentReq_of_full hup hw hlines (spineFull_of_spine h16), countFull_of_spine h16] at hexec
    exact ⟨_, hexec, held_at_full s die _⟩
  case master =>
    intro m w addr v die s hd hl hup hw hlines h16 h8
    obtain ⟨hans, hspine, -, hframe⟩ := holdReq_spec s die ⟨m, w, addr.toNat, v⟩
    have hexec := exec_farDieAccess_of_far (v := v) (w := w) hd hl
    rw [presentReq_of_full hup hw hlines (spineFull_of_master h8), countFull_of_room h16] at hexec
    refine ⟨_, hexec, hans, ?_, ?_, hframe⟩
    · rw [hspine]
    · rw [hspine]
  case status =>
    intro m addr s hr hl
    rw [exec_storeStatusRead_of_store hr hl, exec_farDieAccess_of_far (farDie_of_store hr) hl]
  case statusSent =>
    intro m addr s hr hl hup hwait hlines h16 h8
    have hw : (s.spine .store).waiting.any (fun q => q.master == m) = false := by
      rw [State.spine, hwait]
      rfl
    have hexec := exec_storeStatusRead_of_store hr hl
    rw [presentReq_of_room (die := .store) (r := ⟨m, false, addr.toNat, 0⟩) hup hw hlines (spineFull_of_room h16 h8)] at hexec
    exact ⟨_, hexec, rfl, rfl, rfl, OnlyRegs.refl _ _⟩
  case again =>
    intro m r s hfind ha hup h16 h8 hm
    subst hm
    have hfull : s.spineFull .front r.master = false := spineFull_of_room h16 h8
    have hexec := exec_spineRequestRepresented_of_front hfind
    rw [represent_of_room ha hup hfull] at hexec
    exact ⟨_, hexec, sendReq_unhold s r⟩
  case againFull =>
    intro m r s hfind ha hup h16
    have hfull : s.spineFull .front r.master = true := spineFull_of_spine h16
    have hexec := exec_spineRequestRepresented_of_front hfind
    rw [represent_of_full ha hup hfull, countFull_of_spine (die := .front) h16] at hexec
    exact ⟨_, hexec, rdF_satAdd_same s (by decide), (OnlyRegs.refl _ s).satAdd (by simp [spineErr])⟩
  case response =>
    intro die r l s ha ho
    obtain ⟨hans, hspine, -, -, hframe⟩ := answered_setSpineSt s die
      { s.spine die with arrived := l, outst := (s.spine die).outst.eraseP (isAnswered r) } { value := r.data }
      (fun u => u.answer r.data) fun _ => rfl
    refine ⟨_, exec_farDieResponse_of_waiting ha ho, hans, ?_, ?_, hframe⟩
    · rw [hspine]
    · rw [hspine]
      rfl

/-- Settles O9: packets by their sequence number, a resend by how often its packets were sent, a link that gives up. -/
theorem spinePacketsAreAcceptedOnceAndResent : Obligations.SpinePacketsAreAcceptedOnceAndResent := by
  unfold Obligations.SpinePacketsAreAcceptedOnceAndResent
  refine ⟨?bad, ?next, fun die seq s => exec_spinePacketReceived_of_accepted,
    fun die seq s => exec_spinePacketReceived_of_accepted_far, ?nak, ?stuck, ?timeout, ?ackFar, ?ack, ?strobe⟩
  case bad =>
    exact fun die far seq s => ⟨_, exec_spinePacketReceived_of_bad, rdF_satAdd_same s (by decide),
      (OnlyRegs.refl _ s).satAdd (by simp)⟩
  case next =>
    intro die p s h
    refine ⟨_, exec_spinePacketReceived_of_next h, ?_, ?_, onlyRegs_setSpineSt s die _⟩
    · rw [spine_setSpineSt]
    · rw [spine_setSpineSt]
  case nak =>
    intro die seq p s hp hs
    refine ⟨s.setSpineSt die { s.spine die with replay := resent seq (s.spine die).replay }, ?_, ?_, ?_,
      onlyRegs_setSpineSt s die _⟩
    · rw [exec_spineNakReceived, execSpineNakReceived, resend_of_fresh hp hs]
    · rw [spine_setSpineSt, resent]
    · rw [spine_setSpineSt]
  case stuck =>
    intro die seq p s hp hs hc
    refine ⟨s.stuck die, ?_, stuck_spec hc⟩
    rw [exec_spineNakReceived, execSpineNakReceived, resend_of_worn hp hs]
  case timeout =>
    intro die p l s hq hs
    have hfind : ((s.satAdd (spineErr die) 0 16).spine die).replay.find? (fun x => x.seq == p.seq) = some p := by
      rw [spine_satAdd, hq]
      simp
    have hfresh : ((s.satAdd (spineErr die) 0 16).spine die).replay.all
        (fun x => !seqLe p.seq x.seq || decide (x.sends < 4)) = true := by rwa [spine_satAdd, hq]
    refine ⟨(s.satAdd (spineErr die) 0 16).setSpineSt die { s.spine die with replay := resent p.seq (p :: l) }, ?_, ?_, ?_, ?_⟩
    · rw [exec_spineAckTimeout, execSpineAckTimeout]
      dsimp only
      rw [if_neg (by decide), hq]
      dsimp only
      rw [resend_of_fresh hfind hfresh, spine_satAdd, hq]
    · rw [rdF_congr (rd_setSpineSt ..), rdF_satAdd_same s (by decide)]
      rfl
    · rw [spine_setSpineSt, resent]
    · exact ((OnlyRegs.refl _ s).satAdd (by simp)).setSpineSt die _
  case ackFar =>
    intro die seq s
    refine ⟨_, exec_spineAckReceived s die true seq, ?_, onlyRegs_setSpineSt s die _⟩
    rw [spine_setSpineSt]
  case ack =>
    intro die seq s
    refine ⟨_, exec_spineAckReceived s die false seq, ?_, fun r hr => ?_, onlyRegs_setSpineSt s die _⟩
    · rw [spine_setSpineSt]
    · rw [spine_setSpineSt] at hr
      exact mem_of_mem_foldl_erase _ _ hr
  case strobe => exact fun target s h => by simp [execTimingStrobe, h]

end

section
/-! PROOF. The commands of the operation table and of the neighbour table (11; R339 to R345, R360). -/

namespace Sys2Proof.Machine

section

variable {s : State} {m : Master}

/-! ### The outcome of an operation command -/

/-- An accepted SUBMIT, a CANCEL and a RELEASE show the index; only a refused SUBMIT leaves it open. -/
theorem opResult_of_stated {cmd code : Nat} (s : State) (m : Master) (k : Nat) (h : (cmd != 0 || code == 0) = true) :
    s.opResult m cmd code k = s.wr Reg.LINK_OP_RESULT (word (code + cmd * 16 + k * 256 + masterId m * 65536)) := by
  unfold State.opResult
  simp only [h]
  simp [b2n]

/-- The mask leaves out the index, which a refused SUBMIT leaves open. -/
theorem word_opResult_masked : ∀ code < 5, ∀ i < 32, ∀ id < 7,
    word (code + 0 * 16 + i * 256 + id * 2 ^ 16) &&& 0xFFFFE0FF = word (code + id * 65536) := by decide

theorem masterId_lt (m : Master) : masterId m < 7 := by cases m <;> decide

theorem rd_opResult_refused {code : Nat} (s : State) (m : Master) (k : Nat) (hcode : code < 5) (h0 : code ≠ 0) :
    (s.opResult m 0 code k).rd Reg.LINK_OP_RESULT &&& 0xFFFFE0FF = word (code + masterId m * 65536) := by
  have hu : ((0 != 0 || code == 0) : Bool) = false := by simp [h0]
  unfold State.opResult
  simp only [hu, rd_wr_same]
  exact word_opResult_masked code hcode _ (openVal_lt (s := s) (by simp) (by decide)) _ (masterId_lt m)

/-- The choice of a refused SUBMIT's index takes one free value. -/
theorem onlyRegs_opResult (s : State) (m : Master) (cmd code k : Nat) :
    OnlyRegs [Reg.LINK_OP_RESULT] { s with freeCtr := (s.opResult m cmd code k).freeCtr } (s.opResult m cmd code k) := by
  unfold State.opResult
  dsimp only
  rw [openTaken_eq]
  exact (OnlyRegs.refl _ _).wr (by simp)

theorem submitCode_lt (o : AirOp) : s.submitCode o < 5 := by
  unfold State.submitCode
  dsimp only
  split_ifs <;> omega

/-! ### The operation table -/

/-- A state with another operation table. -/
def State.withOps (s : State) (l : List (Nat × AirOp)) : State := { s with link := { s.link with ops := l } }

/-- The table with one entry set. -/
def State.opsWith (s : State) (k : Nat) (o : AirOp) : List (Nat × AirOp) :=
  mapPut {} s.link.ops k (if o.state = 0 then {} else o)

theorem setAirOp_eq (s : State) (k : Nat) (o : AirOp) : s.setAirOp k o =
    (s.withOps (s.opsWith k o)).wrF Reg.LINK_STATUS 8 6 (s.opsWith k o).length := rfl

theorem airOp_setAirOp_same (k : Nat) {o : AirOp} (h : o.state = 0 → o = {}) : (s.setAirOp k o).airOp k = o := by
  refine (mapGet_mapPut_same _ _ _ _).trans ?_
  split
  next h0 => exact (h h0).symm
  · rfl

theorem airOp_setAirOp_ne {k j : Nat} (o : AirOp) (h : j ≠ k) : (s.setAirOp k o).airOp j = s.airOp j :=
  congrArg (fun x : Option AirOp => x.getD {}) (mapGet_mapPut_ne _ _ _ h)

theorem ops_setAirOp (k : Nat) (o : AirOp) : (s.setAirOp k o).link.ops = s.opsWith k o := rfl

theorem onlyRegs_setAirOp (s : State) (k : Nat) (o : AirOp) :
    OnlyRegs [Reg.LINK_OP_RESULT, Reg.LINK_STATUS] (s.withOps (s.opsWith k o)) (s.setAirOp k o) := by
  rw [setAirOp_eq]
  exact (OnlyRegs.refl _ _).wrF (by simp)

/-- The table with entry `k` set to `o`, and a result that shows the index. -/
theorem setAirOp_recorded {k : Nat} {o : AirOp} (v : Word) (h : o.state = 0 → o = {}) :
    ((s.setAirOp k o).wr Reg.LINK_OP_RESULT v).airOp k = o ∧
      (∀ j, j ≠ k → ((s.setAirOp k o).wr Reg.LINK_OP_RESULT v).airOp j = s.airOp j) ∧
      OnlyRegs [Reg.LINK_OP_RESULT, Reg.LINK_STATUS] (s.withOps (s.opsWith k o))
        ((s.setAirOp k o).wr Reg.LINK_OP_RESULT v) :=
  ⟨airOp_setAirOp_same k h, fun _ => airOp_setAirOp_ne o, (onlyRegs_setAirOp s k o).wr (by simp)⟩

/-- The lowest index of a range that satisfies a test. -/
theorem find?_range_eq_of_lowest {n k : Nat} {p : Nat → Bool} (hk : k < n) (hp : p k = true)
    (h : ∀ j < k, p j = false) : (List.range n).find? p = some k := by
  rw [List.find?_range_eq_some]
  exact ⟨hp, by simpa using hk, fun j hj => by simp [h j hj]⟩

theorem execLinkOpSubmit_of_accepted {k : Nat} (hl : s.locked m = false) (hc : s.submitCode s.opOfRegs = 0)
    (hk : k < 32) (hfree : (s.airOp k).state = 0) (hlow : ∀ j < k, (s.airOp j).state ≠ 0) :
    execLinkOpSubmit m s = .next ((s.setAirOp k s.opOfRegs).opResult m 0 0 k) := by
  have hf : (List.range 32).find? (fun k => (s.airOp k).state == 0) = some k :=
    find?_range_eq_of_lowest hk (by simp [hfree]) fun j hj => by simp [hlow j hj]
  simp [execLinkOpSubmit, hl, hc, hf]

theorem execLinkOpSubmit_of_full (hl : s.locked m = false) (hc : s.submitCode s.opOfRegs = 1) :
    execLinkOpSubmit m s =
      .next (({ s with link := { s.link with opsFull := true } } : State).opResult m 0 1 0) := by
  simp [execLinkOpSubmit, hl, hc]

theorem execLinkOpSubmit_of_refused (hl : s.locked m = false) (hc : 2 ≤ s.submitCode s.opOfRegs) :
    execLinkOpSubmit m s = .next (s.opResult m 0 (s.submitCode s.opOfRegs) 0) := by
  simp only [execLinkOpSubmit, hl]
  split
  · contradiction
  · split <;> first | omega | rfl

/-- A released entry: FREE again, and OPS_FULL forgotten. -/
def State.releaseOp (s : State) (m : Master) (k : Nat) : State :=
  { (s.setAirOp k {}).opResult m 2 0 k with link := { ((s.setAirOp k {}).opResult m 2 0 k).link with opsFull := false } }

theorem execLinkOpRelease_of_ended {k : Fin 32} (hl : s.locked m = false) (h : (s.airOp k).state = 3) :
    execLinkOpRelease m k s = .next ((s.releaseOp m k).eventIf s.link.opsFull 88) := by
  simp [execLinkOpRelease, hl, h, State.releaseOp]

theorem airOp_eventIf (b : Bool) (n k : Nat) : (s.eventIf b n).airOp k = s.airOp k := by
  unfold State.airOp
  rw [eventIf_link]

/-- A state with another operation table and the mark of a full one. -/
def State.withOpsFull (s : State) (l : List (Nat × AirOp)) (b : Bool) : State :=
  { s with link := { s.link with ops := l, opsFull := b } }

theorem releaseOp_recorded (s : State) (m : Master) (k : Nat) :
    (s.releaseOp m k).rd Reg.LINK_OP_RESULT = word (0 + 2 * 16 + k * 256 + masterId m * 65536) ∧
      (s.releaseOp m k).airOp k = {} ∧ (∀ j, j ≠ k → (s.releaseOp m k).airOp j = s.airOp j) ∧
      (s.releaseOp m k).link.opsFull = false ∧
      OnlyRegs [Reg.LINK_OP_RESULT, Reg.LINK_STATUS] (s.withOpsFull (s.releaseOp m k).link.ops false)
        (s.releaseOp m k) := by
  unfold State.releaseOp
  rw [opResult_of_stated _ m k rfl]
  obtain ⟨hsame, hother, honly⟩ := setAirOp_recorded (s := s) (k := k) (o := {})
    (word (0 + 2 * 16 + k * 256 + masterId m * 65536)) fun _ => rfl
  refine ⟨(rd_congr rfl _).trans (rd_wr_same _ _ _), hsame, hother, rfl, ?_⟩
  exact honly.map (fun u => { u with link := { u.link with opsFull := false } }) rfl fun _ => rfl

/-! ### The neighbour table -/

theorem onlyRegs_nbrCode (s : State) (c : Nat) : OnlyRegs [Reg.LINK_NBR_RESULT] s (s.nbrCode c) :=
  (OnlyRegs.refl _ s).wr (by simp)

@[simp] theorem rd_nbrCode (s : State) (c : Nat) :
    (s.nbrCode c).rd Reg.LINK_NBR_RESULT = word (c + s.link.nbr.length * 65536) := rd_wr_same _ _ _

theorem linkNbrData_injective : Function.Injective Reg.LINK_NBR_DATA := by
  intro i j h
  simp only [Reg.LINK_NBR_DATA] at h
  omega

theorem rd_nbrShow (n : Nbr) {j : Nat} (hj : j < 8) :
    (s.nbrShow n).rd (Reg.LINK_NBR_DATA j) = word (field (nbrBytes n) (4 * j) 4) :=
  rd_forRange_wr linkNbrData_injective (fun j => word (field (nbrBytes n) (4 * j) 4)) hj

theorem onlyRegs_nbrShow (s : State) (n : Nbr) :
    OnlyRegs (Reg.LINK_NBR_RESULT :: (List.range 8).map Reg.LINK_NBR_DATA) s (s.nbrShow n) :=
  forRange_induct (OnlyRegs.refl _ s) fun _ hi _ hu =>
    hu.wr (List.mem_cons_of_mem _ (List.mem_map_of_mem (List.mem_range.mpr hi)))

theorem nbr_nbrShow (n : Nbr) : (s.nbrShow n).link = s.link :=
  (onlyRegs_nbrShow s n).eq_of_indep State.link fun _ => rfl

/-- What an entry shown leaves: the code, the 32 bytes, and nothing else. -/
theorem nbrShow_recorded (s : State) (n : Nbr) :
    ((s.nbrShow n).nbrCode 0).rd Reg.LINK_NBR_RESULT = word (0 + s.link.nbr.length * 65536) ∧
      (∀ j < 8, ((s.nbrShow n).nbrCode 0).rd (Reg.LINK_NBR_DATA j) = word (field (nbrBytes n) (4 * j) 4)) ∧
      OnlyRegs (Reg.LINK_NBR_RESULT :: (List.range 8).map Reg.LINK_NBR_DATA) s ((s.nbrShow n).nbrCode 0) := by
  refine ⟨?_, fun j hj => ?_, (onlyRegs_nbrShow s n).wr (by simp)⟩
  · rw [rd_nbrCode, nbr_nbrShow]
  · rw [State.nbrCode, rd_wr_ne _ _ (by simp only [Reg.LINK_NBR_DATA, Reg.LINK_NBR_RESULT]; omega), rd_nbrShow n hj]

/-- What a changed table leaves: the code with the entries in use, and the parent as the table now names it. -/
theorem setNbrs_recorded (s : State) (l : List (Nat × Nbr)) :
    ((s.setNbrs l).noteParent.nbrCode 0).link.nbr = l ∧
      ((s.setNbrs l).noteParent.nbrCode 0).rd Reg.LINK_NBR_RESULT =
        word (0 + ((s.setNbrs l).noteParent.nbrCode 0).link.nbr.length * 65536) ∧
      OnlyRegs [Reg.LINK_NBR_RESULT, Reg.LINK_PARENT, Reg.LINK_STATUS] (s.setNbrs l)
        ((s.setNbrs l).noteParent.nbrCode 0) := by
  have hp : OnlyRegs [Reg.LINK_NBR_RESULT, Reg.LINK_PARENT, Reg.LINK_STATUS] (s.setNbrs l) (s.setNbrs l).noteParent :=
    (onlyRegs_noteParent _).mono (by simp)
  refine ⟨?_, rd_nbrCode _ _, hp.wr (by simp)⟩
  exact congrArg LinkSt.nbr (hp.eq_of_indep State.link fun _ => rfl)

theorem execNbrAdd_of_queueOk {n : Nbr} (hn : n = nbrOf ((List.range 8).flatMap
      (fun j => leBytes 4 (s.rd (Reg.LINK_NBR_DATA j)).toNat))) (hq : s.queueOk n.queue = true) :
    execNbrAdd s = match s.nbrPut n with
      | some t => .next (t.noteParent.nbrCode 0)
      | none => .next (s.nbrFull.nbrCode 1) := by
  subst hn
  simp only [execNbrAdd, hq]
  rfl

theorem nbrPut_of_held {n e : Nbr} {i : Nat} (h : s.nbrAt n.addr = some (i, e)) :
    s.nbrPut n = some (s.setNbrs (mapIns (mapErase s.link.nbr i) i n)) := by simp [State.nbrPut, h]

theorem nbrPut_of_room {n : Nbr} {i : Nat} (h : s.nbrAt n.addr = none) (hi : i < s.nbrCapacity)
    (hfree : mapGet s.link.nbr i = none) (hlow : ∀ j < i, mapGet s.link.nbr j ≠ none) :
    s.nbrPut n = some (s.setNbrs (mapIns s.link.nbr i n)) := by
  have hf : (List.range s.nbrCapacity).find? (fun i => (mapGet s.link.nbr i).isNone) = some i :=
    find?_range_eq_of_lowest hi (by simp [hfree]) fun j hj => by simpa [Option.isSome_iff_ne_none] using hlow j hj
  simp [State.nbrPut, h, hf]

theorem nbrPut_of_full {n : Nbr} (h : s.nbrAt n.addr = none) (hfull : ∀ j < s.nbrCapacity, mapGet s.link.nbr j ≠ none) :
    s.nbrPut n = none := by
  have hf : (List.range s.nbrCapacity).find? (fun i => (mapGet s.link.nbr i).isNone) = none := by
    simpa using hfull
  simp [State.nbrPut, h, hf]

end

end Sys2Proof.Machine
end

section

open Sys2Proof Sys2Proof.Machine

/-- Settles O37: each command is cut at its checks; an entry set or taken out leaves the rest of its table. -/
theorem operationAndNeighbourCommandsActOnTheirTables : Obligations.OperationAndNeighbourCommandsActOnTheirTables := by
  unfold Obligations.OperationAndNeighbourCommandsActOnTheirTables
  refine ⟨?locked, ?submit, ?full, ?refused, ?cancel, ?notWaiting, ?release, ?stillOpen, ?badQueue, ?room, ?held,
    ?nbrFull, ?read, ?readIdx, ?noIdx, ?noAddr, ?remove⟩
  case locked =>
    intro c m k s hl hc
    simp only [List.mem_cons, List.not_mem_nil, or_false] at hc
    rcases hc with rfl | rfl | rfl
    · simp [execLinkOpSubmit, hl]
    · simp [execLinkOpCancel, hl]
    · simp [execLinkOpRelease, hl]
  case submit =>
    intro m k s hl hc hk hfree hlow
    refine ⟨_, execLinkOpSubmit_of_accepted hl hc hk hfree hlow, ?_⟩
    rw [opResult_of_stated _ m k rfl]
    exact ⟨rd_wr_same _ _ _, setAirOp_recorded _ fun h => absurd h (by simp [State.opOfRegs])⟩
  case full =>
    intro m s hl hc
    exact ⟨_, execLinkOpSubmit_of_full hl hc, rd_opResult_refused _ m _ (by decide) (by decide),
      onlyRegs_opResult _ _ _ _ _⟩
  case refused =>
    intro m s hl hc
    exact ⟨_, execLinkOpSubmit_of_refused hl hc, rd_opResult_refused _ m _ (submitCode_lt _) (by omega),
      onlyRegs_opResult _ _ _ _ _⟩
  case cancel =>
    intro m k s hl hk
    refine ⟨((s.setAirOp k { s.airOp k with state := 3, result := 7 }).opResult m 1 0 k),
      by simp [execLinkOpCancel, hl, hk], ?_⟩
    rw [opResult_of_stated _ m k rfl]
    exact ⟨rd_wr_same _ _ _, setAirOp_recorded _ fun h => absurd h (Nat.succ_ne_zero 2)⟩
  case notWaiting =>
    intro m k s hl hk
    refine ⟨s.opResult m 1 (if (s.airOp k).state = 2 then 6 else 5) k, by simp [execLinkOpCancel, hl, hk], ?_⟩
    rw [opResult_of_stated _ m k rfl]
    exact ⟨rd_wr_same _ _ _, (OnlyRegs.refl _ s).wr (by simp)⟩
  case release =>
    intro m k s hl hk
    obtain ⟨hrd, hsame, hother, hfull, honly⟩ := releaseOp_recorded s m k
    refine ⟨_, execLinkOpRelease_of_ended hl hk, ?_, ?_, fun j hj => ?_, ?_, fun h => ?_, ?_⟩
    · rw [rd_eventIf_ne _ s.link.opsFull (by decide) (by decide) (by decide), hrd]
    · rw [airOp_eventIf, hsame]
    · rw [airOp_eventIf, hother j hj]
    · rw [eventIf_link, hfull]
    · rw [h, pending1_eventIf _ (by decide) (by decide)]
      simp
    · rw [eventIf_link]
      exact (honly.mono (by simp)).events.eventIf (by simp [eventRegs]) (by simp [eventRegs])
  case stillOpen =>
    intro m k s hl hk
    refine ⟨s.opResult m 2 (if (s.airOp k).state = 0 then 0 else 7) k, by simp [execLinkOpRelease, hl, hk], ?_⟩
    rw [opResult_of_stated _ m k rfl]
    exact ⟨rd_wr_same _ _ _, (OnlyRegs.refl _ s).wr (by simp)⟩
  case badQueue =>
    intro s hq
    exact ⟨_, by simp [execNbrAdd, hq], rd_nbrCode s 3, onlyRegs_nbrCode s 3⟩
  case room =>
    intro n i s hn hq hat hi hfree hlow
    refine ⟨_, by rw [exec_nbrAdd, execNbrAdd_of_queueOk hn hq, nbrPut_of_room hat hi hfree hlow], ?_⟩
    obtain ⟨hnbr, hrd, honly⟩ := setNbrs_recorded s (mapIns s.link.nbr i n)
    refine ⟨?_, fun j hj => ?_, hrd, ?_⟩
    · rw [hnbr, mapGet_mapIns_same _ _ _ hfree]
    · rw [hnbr, mapGet_mapIns_ne _ _ hj]
    · rw [hnbr]; exact honly
  case held =>
    intro n e i s hn hq hat
    refine ⟨_, by rw [exec_nbrAdd, execNbrAdd_of_queueOk hn hq, nbrPut_of_held hat], ?_⟩
    obtain ⟨hnbr, hrd, honly⟩ := setNbrs_recorded s (mapIns (mapErase s.link.nbr i) i n)
    refine ⟨?_, fun j hj => ?_, hrd, ?_⟩
    · rw [hnbr, mapGet_mapIns_same _ _ _ (mapGet_mapErase_same _ _)]
    · rw [hnbr, mapGet_mapIns_ne _ _ hj, mapGet_mapErase_ne _ hj]
    · rw [hnbr]; exact honly
  case nbrFull =>
    intro n s hn hq hat hfull
    refine ⟨_, by rw [exec_nbrAdd, execNbrAdd_of_queueOk hn hq, nbrPut_of_full hat hfull], ?_, ?_, ?_, ?_⟩
    · rw [rd_nbrCode]
      simp [State.nbrFull]
    · rw [State.nbrCode, rdF_wr_ne _ _ (by decide)]
      rw [State.nbrFull, rdF_congr (rd_event_of_le _ (by decide) (by decide)), rdF_satAdd_same _ (by decide)]
      rfl
    · rw [State.nbrCode, pending1_wr_ne _ _ (by decide)]
      exact pending1_event_self _ (by decide)
    · exact (((OnlyEvents.refl _ s).satAdd (by simp)).event (by simp [eventRegs]) (by simp [eventRegs])).wr (by simp)
  case read =>
    intro k i n s h
    exact ⟨_, by simp [execNbrRead, h], nbrShow_recorded s n⟩
  case readIdx =>
    intro k n s h
    exact ⟨_, by simp [execNbrReadIdx, h], nbrShow_recorded s n⟩
  case noIdx =>
    intro k s h
    exact ⟨_, by simp [execNbrReadIdx, h], rd_nbrCode s 2, onlyRegs_nbrCode s 2⟩
  case noAddr =>
    intro c k s h hc
    refine ⟨s.nbrCode 2, ?_, rd_nbrCode s 2, onlyRegs_nbrCode s 2⟩
    simp only [List.mem_cons, List.not_mem_nil, or_false] at hc
    rcases hc with rfl | rfl
    · simp [execNbrRead, h]
    · simp [execNbrRemove, h]
  case remove =>
    intro k i n s h
    refine ⟨(s.setNbrs (mapErase s.link.nbr i)).noteParent.nbrCode 0, by simp [execNbrRemove, h], ?_⟩
    obtain ⟨hnbr, hrd, honly⟩ := setNbrs_recorded s (mapErase s.link.nbr i)
    refine ⟨?_, fun j hj => ?_, hrd, ?_⟩
    · rw [hnbr, mapGet_mapErase_same]
    · rw [hnbr, mapGet_mapErase_ne _ hj]
    · rw [hnbr]; exact honly

end

section
/-! PROOF. A queue whose class is none of the sixteen: the event of its class's count lands in a register of the
queue engine (12; R381, R384, R385). -/

namespace Sys2Proof.Machine

/-- The engine runs and one OWNED cell waits; queue 0 is of a class whose event is bit 24 of QE_CPU_ACCEPT. -/
def strayClass : State := { State.reset with
  cat := { State.reset.cat with sections := [(1, [8, 0, 0, 0])] }
  qe := { State.reset.qe with
    qbankEn := 1
    desc := [(0, { cls := 883576, state := .enabled })]
    cells := [(0, { used := 1, end_ := true, own := .owned })] } }

/-- The ENQUEUE into queue 0 has run on tag 0, before QE_CPU_ACCEPT is written. -/
def strayClassRun : QRes :=
  (({ strayClass with
      qe := { strayClass.qe with tags := strayClass.qe.tags ++ [(0, 0)] } } : State).qEffect 0
    { cmd := 1, flag := false, cls := 0, queue := 0, arg := 0 } []).shown

theorem exec_qeEnqueue_strayClass : exec (.qeEnqueue 0 .core 0 0 []) strayClass =
    .next (strayClass.qeCycle ⟨0, .core, { cmd := 1, queue := 0, arg := 0 }⟩ []) := by rfl

/-- SEQ goes on from its value before the command. -/
theorem accept_strayClass :
    (strayClass.qeCycle ⟨0, .core, { cmd := 1, queue := 0, arg := 0 }⟩ []).rd Reg.QE_CPU_ACCEPT = 0x1000000 := by
  decide +kernel

/-- The event of the class has set the lowest bit of SEQ. -/
theorem seq_strayClassRun : strayClassRun.s.rdF Reg.QE_CPU_ACCEPT 24 8 = 1 := by decide +kernel

/-- An INIT gives queue 0, which holds a frame, a class whose event is BUSY of QE_INIT_CTRL. -/
def strayInit : State := { State.reset with
  qe := { State.reset.qe with
    desc := [(0, { depth := 1 })]
    init := some ⟨0, 1, 883401, 0⟩ } }

theorem busy_strayInit : strayInit.bit Reg.QE_INIT_CTRL 9 = false ∧ strayInit.initCycle.bit Reg.QE_INIT_CTRL 9 = true := by
  decide +kernel

end Sys2Proof.Machine
end

section

open Sys2Proof Sys2Proof.Machine

/-- Refutes O40: the clause of an accepted command counts SEQ on from what it reads after the effect; where a queue's
class is out of range (`strayClass`), the event of its frame count changes SEQ in between. -/
theorem not_queueCommandsAreTakenWithATag : ¬ Obligations.QueueCommandsAreTakenWithATag := by
  unfold Obligations.QueueCommandsAreTakenWithATag
  rintro ⟨-, -, -, -, haccepted, -⟩
  have h := haccepted (.qeEnqueue 0 .core 0 0 []) { cmd := 1, queue := 0, arg := 0 } 0 .core 0 0 0 false 0 strayClassRun
    strayClass (by simp) (by rfl) (by rfl) (by rfl) (by rfl) (by rfl) (by rfl)
  rw [exec_qeEnqueue_strayClass, if_pos (by rfl)] at h
  have hrd := congrArg (fun t : State => t.rd Reg.QE_CPU_ACCEPT) (Host.Outcome.next.inj h)
  simp only [rd_wr_same, accept_strayClass, seq_strayClassRun] at hrd
  exact absurd hrd (by decide)

/-- Refutes O42: the clause of INIT's cycle keeps BUSY but at the last queue; where an INIT's class is out of range
(`strayInit`), the event of its frame count sets BUSY. -/
theorem not_cellsAreAllocatedReleasedAndQueuesSetUp : ¬ Obligations.CellsAreAllocatedReleasedAndQueuesSetUp := by
  unfold Obligations.CellsAreAllocatedReleasedAndQueuesSetUp
  rintro ⟨-, -, -, -, -, -, -, -, -, -, -, -, -, hcycle, -⟩
  obtain ⟨-, -, -, -, -, -, -, hbusy⟩ := hcycle ⟨0, 1, 883401, 0⟩ strayInit (by rfl) (by rfl)
  rw [busy_strayInit.1, busy_strayInit.2] at hbusy
  exact absurd hbusy (by decide)

end

section
/-! PROOF. The catalogue commands up to their signature, and from it to their end (02; R48 to R57). -/

namespace Sys2Proof.Machine

section

variable {s : State} {app slot : Bool} {cmd n : Nat} {img : List Byte}

/-! ### Reading an image -/

theorem readLen_ge {total lo hi : Nat} (hlo : 32 ≤ lo) : 32 ≤ readLen total lo hi := by
  unfold readLen
  split
  next h =>
    simp only [Bool.and_eq_true, decide_eq_true_eq] at h
    omega
  · exact Nat.le_refl 32

/-- The words of a run's end are words of the run. -/
theorem storeBad_drop {off m : Nat} (hoff : off % 8 = 0) (hm : m % 8 = 0) (h : s.storeBad off (m + n) = none) :
    s.storeBad (off + m) n = none := by
  simp only [State.storeBad, List.find?_eq_none, List.mem_map, List.mem_range, forall_exists_index, and_imp,
    forall_apply_eq_imp_iff₂] at h ⊢
  intro k hk
  have hword : (off + m) / 8 * 8 + 8 * k = off / 8 * 8 + 8 * (k + m / 8) := by omega
  rw [hword]
  exact h (k + m / 8) (by omega)

/-- A run that can be read leaves the count of its corrections. -/
theorem readRun_of_good {off : Nat} (h : s.storeBad off n = none) :
    ∃ c, s.readRun off n = .ok (s.storeBytes off n, s.satAdd Reg.STOR_COUNT 0 16 c) := by
  unfold State.readRun State.noteRead
  simp only [h]
  exact ⟨_, rfl⟩

theorem readStored_of_good {off hi : Nat} (hup : s.spineState .store = 3) (hoff : off % 8 = 0)
    (hhead : s.storeBad off 32 = none) (hn : n = readLen (b4 (s.storeBytes off 32) 0x10) 96 hi)
    (hgood : s.storeBad off n = none) :
    ∃ c d, s.readStored off hi =
      .ok (s.storeBytes off n, (s.satAdd Reg.STOR_COUNT 0 16 c).satAdd Reg.STOR_COUNT 0 16 d) := by
  obtain ⟨k, hk⟩ : ∃ k, n = 32 + k := Nat.exists_eq_add_of_le (hn ▸ readLen_ge (by decide))
  obtain ⟨c, hc⟩ := readRun_of_good hhead
  have htail : (s.satAdd Reg.STOR_COUNT 0 16 c).storeBad (off + 32) k = none :=
    storeBad_drop hoff (by decide) (by rw [← hk]; exact hgood)
  obtain ⟨d, hd⟩ := readRun_of_good htail
  have hlen : readLen (b4 (s.storeBytes off 32) 0x10) 96 hi - 32 = k := by omega
  refine ⟨c, d, ?_⟩
  unfold State.readStored
  simp only [hup, hc, hlen, hd]
  rw [hk, storeBytes_add]
  rfl

theorem bytesAt_of_source {a : Nat} (ha : (s.rd Reg.CATL_SRC).toNat = a) (h4 : a % 4 = 0)
    (hlo : 0x20000000 ≤ a) (hhi : a < 0x20010000) :
    s.readSource = .ok (s.bytesAt a (readLen (b4 (s.bytesAt a 32) 0x10) 96 65536), s) := by
  have hbanks : 1 ≤ ((List.range 6).filter (fun i => s.present (16 + i))).length := by
    unfold State.present
    cases s.variant <;> decide
  have hin : (0x20000000 ≤ a && a < 0x20000000 +
      ((List.range 6).filter (fun i => s.present (16 + i))).length * 0x10000) = true := by
    simp only [Bool.and_eq_true, decide_eq_true_eq]
    omega
  unfold State.readSource
  simp only [ha, h4]
  rw [if_neg (by decide), if_pos hin]

theorem catFromStore_of_sram {a : Nat} (ha : (s.rd Reg.CATL_SRC).toNat = a) (hlo : 0x20000000 ≤ a) (hc : cmd ≠ 3) :
    s.catFromStore cmd = false := by
  unfold State.catFromStore
  simp only [ha, Bool.or_eq_false_iff, Bool.and_eq_false_iff, decide_eq_false_iff_not]
  exact ⟨by simpa using hc, Or.inr (by omega)⟩

/-! ### A command that waits for its signature -/

theorem rd_catWait_ne {a : Nat} (h : a ≠ Reg.CATL_STATUS) : (s.catWait cmd img).rd a = s.rd a := by
  unfold State.catWait State.toPhase
  rw [rd_wrF_ne _ _ _ _ h, rd_setB_ne _ _ _ h]
  exact rd_congr rfl a

theorem catBusy_toPhase (s : State) (n : Nat) : (s.toPhase n).catBusy = true := by
  unfold State.toPhase State.catBusy
  rw [bit_wrF_ne _ (by decide), bit_setB_same _ _ (by decide)]

theorem catPhase_toPhase (s : State) (n : Nat) : (s.toPhase n).catPhase = n % 8 := by
  unfold State.toPhase State.catPhase
  rw [rdF_wrF_same _ _ (by decide)]
  rfl

theorem onlyRegs_toPhase {l : List Nat} {u t : State} (h : OnlyRegs l u t) (hl : Reg.CATL_STATUS ∈ l) (n : Nat) :
    OnlyRegs l u (t.toPhase n) := (h.setB hl).wrF hl

theorem late_catWait : (s.catWait cmd img).bit Reg.CATL_STATUS 13 = s.bit Reg.CATL_STATUS 13 := by
  unfold State.catWait State.toPhase
  rw [bit_wrF_ne _ (by decide), bit_setB_ne _ _ (by decide)]
  exact bit_congr (rd_congr rfl _) _

theorem onlyRegs_catWait {l : List Nat} {t : State} (h : OnlyRegs l s t) (hl : Reg.CATL_STATUS ∈ l) :
    OnlyRegs l { s with cat := (t.catWait cmd img).cat } (t.catWait cmd img) :=
  onlyRegs_toPhase (h.withCat _) hl 1

/-- What a command leaves that waits for the signature of its image. -/
theorem catWait_waits (s : State) (cmd : Nat) (img : List Byte) :
    (s.catWait cmd img).catBusy = true ∧ (s.catWait cmd img).catPhase = 1 ∧ (s.catWait cmd img).cat.image = img ∧
      (s.catWait cmd img).cat.cmd = cmd :=
  ⟨catBusy_toPhase _ 1, catPhase_toPhase _ 1, rfl, rfl⟩

/-- VERIFY and APPLY of an image in main SRAM: its header decides. -/
theorem catStart_of_sram {a : Nat} (hc : cmd ≠ 3) (ha : (s.rd Reg.CATL_SRC).toNat = a) (h4 : a % 4 = 0)
    (hin : 0x20000000 ≤ a ∧ a < 0x20010000)
    (himg : img = s.bytesAt a (readLen (b4 (s.bytesAt a 32) 0x10) 96 65536)) :
    s.catStart cmd = match s.headerCode img with
      | 0 => s.catWait cmd img
      | c => s.catEnd c := by
  obtain ⟨hlo, hhi⟩ := hin
  unfold State.catStart State.catBegin
  rw [catFromStore_of_sram ha hlo hc, bytesAt_of_source ha h4 hlo hhi, ← himg]
  simp only [Bool.false_and, hc]
  rfl

theorem catStart_of_header {a : Nat} (hc : cmd ≠ 3) (ha : (s.rd Reg.CATL_SRC).toNat = a) (h4 : a % 4 = 0)
    (hin : 0x20000000 ≤ a ∧ a < 0x20010000)
    (himg : img = s.bytesAt a (readLen (b4 (s.bytesAt a 32) 0x10) 96 65536)) (h : s.headerCode img = 0) :
    s.catStart cmd = s.catWait cmd img := by
  rw [catStart_of_sram hc ha h4 hin himg, h]
  rfl

theorem catStart_of_badHeader {a : Nat} (hc : cmd ≠ 3) (ha : (s.rd Reg.CATL_SRC).toNat = a) (h4 : a % 4 = 0)
    (hin : 0x20000000 ≤ a ∧ a < 0x20010000)
    (himg : img = s.bytesAt a (readLen (b4 (s.bytesAt a 32) 0x10) 96 65536)) (h : s.headerCode img ≠ 0) :
    s.catStart cmd = s.catEnd (s.headerCode img) := by
  rw [catStart_of_sram hc ha h4 hin himg]
  split
  · contradiction
  · rfl

theorem headerCode_lt (s : State) (img : List Byte) : s.headerCode img < 32 := by
  unfold State.headerCode
  dsimp only
  split_ifs <;> decide

/-- APPLY begins with CATL_FOLIOS and LATE cleared. -/
def State.clearFolios (s : State) : State := (s.wr Reg.CATL_FOLIOS 0).setB Reg.CATL_STATUS 13 false

theorem onlyRegs_clearFolios (s : State) : OnlyRegs [Reg.CATL_STATUS, Reg.CATL_FOLIOS] s s.clearFolios :=
  ((OnlyRegs.refl _ s).wr (by simp)).setB (by simp)

theorem bytesAt_clearFolios (a n : Nat) : s.clearFolios.bytesAt a n = s.bytesAt a n :=
  bytesAt_congr (fun b => (onlyRegs_clearFolios s).2.1 b) a n

/-- SET_ACTIVE names the slot and the kind. -/
def State.nameActive (s : State) (app slot : Bool) : State :=
  { (s.setB Reg.CATL_CTRL 8 slot).setB Reg.CATL_CTRL 9 app with
    cat := { ((s.setB Reg.CATL_CTRL 8 slot).setB Reg.CATL_CTRL 9 app).cat with app := app, slot := slot } }

theorem exec_catlSetActive_of_free (h : s.catBusy = false) :
    exec (.catlSetActive app slot) s = .next ((s.nameActive app slot).catStart 3) := by
  simp only [exec_catlSetActive, execCatlSetActive, h]
  rfl

theorem onlyRegs_nameActive (s : State) (app slot : Bool) :
    OnlyRegs [Reg.CATL_STATUS, Reg.CATL_CTRL, Reg.STOR_COUNT] { s with cat := (s.nameActive app slot).cat }
      (s.nameActive app slot) :=
  (((OnlyRegs.refl _ s).setB (by simp)).setB (by simp)).withCat _

/-- The bits of CATL_CTRL name the slot and the kind until the command is written again. -/
theorem ctrl_nameActive (s : State) (app slot : Bool) :
    (s.nameActive app slot).bit Reg.CATL_CTRL 8 = slot ∧ (s.nameActive app slot).bit Reg.CATL_CTRL 9 = app := by
  have hrd : (s.nameActive app slot).rd Reg.CATL_CTRL =
      ((s.setB Reg.CATL_CTRL 8 slot).setB Reg.CATL_CTRL 9 app).rd Reg.CATL_CTRL := rd_congr rfl _
  constructor
  · rw [bit_congr hrd, bit_setB_ne _ _ (by decide), bit_setB_same _ _ (by decide)]
  · rw [bit_congr hrd, bit_setB_same _ _ (by decide)]

theorem spineState_nameActive : (s.nameActive app slot).spineState .store = s.spineState .store :=
  rdF_congr ((onlyRegs_nameActive s app slot).1 _ (by decide) |>.trans (rd_congr rfl _)) 0 3

theorem readStalls_nameActive (h : s.readStalls = false) : (s.nameActive app slot).readStalls = false := by
  unfold State.readStalls at h ⊢
  rw [spineState_nameActive]
  exact h

/-- A state in which a count of corrections has risen. -/
def State.corrected (s : State) (c d : Nat) : State := (s.satAdd Reg.STOR_COUNT 0 16 c).satAdd Reg.STOR_COUNT 0 16 d

theorem catStart_three (t : State) (h : t.readStalls = false) : t.catStart 3 = t.catBeginActive := by
  unfold State.catStart
  rw [h, Bool.and_false]
  rfl

theorem catBeginActive_of_read {t u : State} {off hi : Nat}
    (hoff : off = if t.cat.app then appSlotOff t.cat.slot else catSlotOff t.cat.slot)
    (hhi : hi = if t.cat.app then 1048576 else 65536) (hread : t.readStored off hi = .ok (img, u))
    (hcode : (if t.cat.app then t.appHeaderCode img else t.headerCode img) = 0) :
    t.catBeginActive = u.catWait 3 img := by
  unfold State.catBeginActive
  simp only [← hoff, ← hhi, hread, hcode]

/-- SET_ACTIVE of a slot that can be read and whose header passes waits for the signature. -/
theorem catStart_setActive {hi off : Nat} (hup : s.spineState .store = 3) (hst : s.readStalls = false)
    (hoff : off = if app then appSlotOff slot else catSlotOff slot) (hhi : hi = if app then 1048576 else 65536)
    (hhead : s.storeBad off 32 = none) (hn : n = readLen (b4 (s.storeBytes off 32) 0x10) 96 hi)
    (hgood : s.storeBad off n = none) (himg : img = s.storeBytes off n)
    (hcode : (if app then s.appHeaderCode img else s.headerCode img) = 0) :
    ∃ c d, (s.nameActive app slot).catStart 3 = ((s.nameActive app slot).corrected c d).catWait 3 img := by
  have h8 : off % 8 = 0 := by
    subst hoff
    cases app <;> cases slot <;> decide
  obtain ⟨c, d, hread⟩ := readStored_of_good (s := s.nameActive app slot) (hi := hi)
    (spineState_nameActive.trans hup) h8 hhead hn hgood
  have himg' : (s.nameActive app slot).storeBytes off n = img := himg.symm
  rw [himg'] at hread
  exact ⟨c, d, (catStart_three _ (readStalls_nameActive hst)).trans (catBeginActive_of_read hoff hhi hread hcode)⟩

/-- The frame of a SET_ACTIVE that waits. -/
theorem catWait_nameActive (s : State) (app slot : Bool) (c d : Nat) (img : List Byte) :
    (((s.nameActive app slot).corrected c d).catWait 3 img).cat.slot = slot ∧
      (((s.nameActive app slot).corrected c d).catWait 3 img).cat.app = app ∧
      (((s.nameActive app slot).corrected c d).catWait 3 img).bit Reg.CATL_CTRL 8 = slot ∧
      (((s.nameActive app slot).corrected c d).catWait 3 img).bit Reg.CATL_CTRL 9 = app ∧
      (((s.nameActive app slot).corrected c d).catWait 3 img).boot = s.boot ∧
      OnlyRegs [Reg.CATL_STATUS, Reg.CATL_CTRL, Reg.STOR_COUNT]
        { s with cat := (((s.nameActive app slot).corrected c d).catWait 3 img).cat }
        (((s.nameActive app slot).corrected c d).catWait 3 img) := by
  have hcor : OnlyRegs [Reg.CATL_STATUS, Reg.CATL_CTRL, Reg.STOR_COUNT] { s with cat := (s.nameActive app slot).cat }
      ((s.nameActive app slot).corrected c d) := ((onlyRegs_nameActive s app slot).satAdd (by simp)).satAdd (by simp)
  have hctrl : (((s.nameActive app slot).corrected c d).catWait 3 img).rd Reg.CATL_CTRL =
      (s.nameActive app slot).rd Reg.CATL_CTRL := by
    rw [rd_catWait_ne (by decide), State.corrected, rd_satAdd_ne _ _ _ _ (by decide), rd_satAdd_ne _ _ _ _ (by decide)]
  obtain ⟨h8, h9⟩ := ctrl_nameActive s app slot
  have hwait := onlyRegs_catWait (s := { s with cat := (s.nameActive app slot).cat }) (cmd := 3) (img := img) hcor (by simp)
  refine ⟨rfl, rfl, ?_, ?_, rfl, hwait⟩
  · rw [bit_congr hctrl, h8]
  · rw [bit_congr hctrl, h9]

end

end Sys2Proof.Machine
end

section

open Sys2Proof Sys2Proof.Machine

/-- Settles O11: where the image can be read, the code of its header decides between the wait and the end. -/
theorem catalogueCommandsWaitForTheirSignature : Obligations.CatalogueCommandsWaitForTheirSignature := by
  unfold Obligations.CatalogueCommandsWaitForTheirSignature
  refine ⟨?verify, ?badHeader, ?apply, ?setActive, ?setActiveApp⟩
  case verify =>
    intro a img s hb ha h4 hin himg hcode
    have hexec : exec .catlVerify s = .next (s.catWait 1 img) := by
      rw [exec_catlVerify, execCatlVerify, hb, catStart_of_header (by decide) ha h4 hin himg hcode]
      rfl
    obtain ⟨hbusy, hphase, hi, hcmd⟩ := catWait_waits s 1 img
    exact ⟨_, hexec, hbusy, hphase, hi, hcmd, rfl, onlyRegs_catWait (OnlyRegs.refl _ s) (by simp)⟩
  case badHeader =>
    intro a img s hb ha h4 hin himg hcode
    have hexec : exec .catlVerify s = .next (s.catEnd (s.headerCode img)) := by
      rw [exec_catlVerify, execCatlVerify, hb, catStart_of_badHeader (by decide) ha h4 hin himg hcode]
      rfl
    refine ⟨_, hexec, catBusy_catEnd s _, ?_, done_catEnd s _, pending1_catEnd s _, ?_,
      OnlyRegs.catEnd _ (OnlyRegs.refl (Reg.CATL_STATUS :: eventRegs 6) s) (by simp) (by simp [eventRegs]) (by simp [eventRegs])⟩
    · rw [code_catEnd, Nat.mod_eq_of_lt (headerCode_lt s img)]
    · rw [cat_catEnd]
  case apply =>
    intro a img s hb ha h4 hin himg hcode
    have ha' : (s.clearFolios.rd Reg.CATL_SRC).toNat = a := by
      rw [(onlyRegs_clearFolios s).1 _ (by decide), ha]
    have himg' : img = s.clearFolios.bytesAt a (readLen (b4 (s.clearFolios.bytesAt a 32) 0x10) 96 65536) := by
      rw [bytesAt_clearFolios, bytesAt_clearFolios, himg]
    have hexec : exec .catlApply s = .next (s.clearFolios.catWait 2 img) := by
      rw [← catStart_of_header (by decide) ha' h4 hin himg' hcode, exec_catlApply, execCatlApply, hb]
      rfl
    obtain ⟨hbusy, hphase, hi, hcmd⟩ := catWait_waits s.clearFolios 2 img
    refine ⟨_, hexec, hbusy, hphase, hi, hcmd, ?_, ?_, rfl, onlyRegs_catWait (onlyRegs_clearFolios s) (by simp)⟩
    · rw [rd_catWait_ne (by decide), State.clearFolios, rd_setB_ne _ _ _ (by decide), rd_wr_same]
    · rw [late_catWait, State.clearFolios, bit_setB_same _ _ (by decide)]
  case setActive =>
    intro slot img n s hb hup hst hhead hn hgood himg hcode
    obtain ⟨c, d, hstart⟩ := catStart_setActive (app := false) (slot := slot) hup hst rfl rfl hhead hn hgood himg hcode
    obtain ⟨hbusy, hphase, hi, hcmd⟩ := catWait_waits ((s.nameActive false slot).corrected c d) 3 img
    obtain ⟨hslot, happ, h8, h9, hboot, honly⟩ := catWait_nameActive s false slot c d img
    exact ⟨_, (exec_catlSetActive_of_free hb).trans (congrArg _ hstart), hbusy, hphase, hi, hcmd, hslot, happ, h8, h9,
      hboot, honly⟩
  case setActiveApp =>
    intro slot img n s hb hup hst hhead hn hgood himg hcode
    obtain ⟨c, d, hstart⟩ := catStart_setActive (app := true) (slot := slot) hup hst rfl rfl hhead hn hgood himg hcode
    obtain ⟨hbusy, hphase, hi, hcmd⟩ := catWait_waits ((s.nameActive true slot).corrected c d) 3 img
    obtain ⟨hslot, happ, -, -, hboot, honly⟩ := catWait_nameActive s true slot c d img
    exact ⟨_, (exec_catlSetActive_of_free hb).trans (congrArg _ hstart), hbusy, hphase, hi, hcmd, hslot, happ, hboot,
      honly⟩

end

section
/-! PROOF. The catalogue commands from the signature's outcome to their end: staging, the switch and the active-slot
record (02; R48, R52 to R58). -/

namespace Sys2Proof.Machine

section

variable {s t : State} {sector other : Nat} {bytes : List Byte}

/-! ### The other records while one is written -/

theorem flashAt_setFlash_of_ne_sector {p q i j : Nat} (w : FlashWord) (hi : i < 256) (hj : j < 256) (h : q ≠ p) :
    (s.setFlash p i w).flashAt q j = s.flashAt q j := by
  have hkey : 256 * q + j ≠ 256 * p + i := by omega
  simp only [State.flashAt, State.setFlash, mapGet_mapPut_ne _ _ _ hkey]

theorem flashAt_eraseFlash_ne {p q j : Nat} (hj : j < 256) (h : q ≠ p) :
    (s.eraseFlash p).flashAt q j = s.flashAt q j := by
  have hkey : (256 * q + j) / 256 = q := by omega
  have hp : ((256 * q + j) / 256 != p) = true := by simp [hkey, h]
  exact congrArg (fun x : Option FlashWord => x.getD {}) (mapGet_filter_of_true (p := fun e => e / 256 != p) _ hp)

theorem storeWord_putRecord_of_ne {off : Nat} (hc : bytes.length = 8) (h : s.physOf (off / 2048) ≠ s.physOf sector) :
    (s.putRecord sector bytes).storeWord off = s.storeWord off := by
  have hi : off % 2048 / 8 < 256 := by omega
  rw [putRecord_eq s sector hc, State.storeWord, physOf_setFlash, physOf_setFlash, physOf_eraseFlash,
    flashAt_setFlash_of_ne_sector _ (by decide) hi h, flashAt_setFlash_of_ne_sector _ (by decide) hi h,
    flashAt_eraseFlash_ne hi h, State.storeWord]

theorem frontRecord_putRecord_of_ne (hc : bytes.length = 8) (h : s.physOf other ≠ s.physOf sector) :
    (s.putRecord sector bytes).frontRecord other = s.frontRecord other := by
  have hword : ∀ i < 16, (s.putRecord sector bytes).storeWord (other * 2048 + i) = s.storeWord (other * 2048 + i) := by
    intro i hi
    refine storeWord_putRecord_of_ne hc ?_
    rwa [show (other * 2048 + i) / 2048 = other by omega]
  have hbytes : (s.putRecord sector bytes).storeBytes (other * 2048) 16 = s.storeBytes (other * 2048) 16 := by
    refine List.map_congr_left fun i hi => ?_
    rw [State.storeByte, hword i (List.mem_range.mp hi), State.storeByte]
  have hbad : (s.putRecord sector bytes).storeBad (other * 2048) 16 = s.storeBad (other * 2048) 16 := by
    have h8 : other * 2048 % 8 = 0 := by omega
    have hoff : other * 2048 / 8 * 8 = other * 2048 := by omega
    have h0 := hword 0 (by decide)
    rw [Nat.add_zero] at h0
    simp [State.storeBad, h8, hoff, List.range_succ, List.find?_cons, hword 8 (by decide), h0]
  simp only [State.frontRecord, hbytes, hbad]

/-! ### The active-slot record (R56, R57) -/

/-- The content of a copy of the active-slot record. -/
def SlotRecord.content (r : SlotRecord) : List Byte := leBytes 4 r.seq ++ [byte (b2n r.cat + b2n r.app * 2), 0, 0, 0]

@[simp] theorem length_slotContent (r : SlotRecord) : r.content.length = 8 := by simp [SlotRecord.content]

theorem putSlots_eq (s : State) (r : SlotRecord) :
    s.putSlots r = s.putRecord (if s.firstCopy then 3 else 2) r.content := rfl

/-- What a copy's content says. -/
def slotOf (l : List Byte) : SlotRecord :=
  { seq := field l 0 4, cat := (field l 4 1).testBit 0, app := (field l 4 1).testBit 1 }

theorem slotCopy_eq (s : State) (k : Nat) : s.slotCopy k = (s.frontRecord (2 + k)).map slotOf := rfl

theorem slotOf_content {r : SlotRecord} (h : r.seq < 2 ^ 32) : slotOf r.content = r := by
  obtain ⟨seq, cat, app⟩ := r
  have hseq : field (SlotRecord.content ⟨seq, cat, app⟩) 0 4 = seq := by
    rw [field, List.drop_zero, SlotRecord.content, List.take_left' (length_leBytes 4 _), leNat_leBytes]
    exact Nat.mod_eq_of_lt h
  have hflags : field (SlotRecord.content ⟨seq, cat, app⟩) 4 1 = b2n cat + b2n app * 2 := by
    rw [field, SlotRecord.content, List.drop_left' (length_leBytes 4 _)]
    cases cat <;> cases app <;> rfl
  simp only [slotOf, hseq, hflags]
  cases cat <;> cases app <;> rfl

theorem slotCopy_putRecord_same {r : SlotRecord} (k : Nat) (h : r.seq < 2 ^ 32) :
    (s.putRecord (2 + k) r.content).slotCopy k = some r := by
  rw [slotCopy_eq, frontRecord_putRecord _ (length_slotContent r), Option.map_some, slotOf_content h]

theorem slotCopy_putRecord_of_ne {r : SlotRecord} {k : Nat} (h : s.physOf (2 + k) ≠ s.physOf sector) :
    (s.putRecord sector r.content).slotCopy k = s.slotCopy k := by
  rw [slotCopy_eq, slotCopy_eq, frontRecord_putRecord_of_ne (length_slotContent r) h]

theorem record_of_firstCopy (h : s.firstCopy = true) : s.record = (s.slotCopy 0).getD {} := by
  rw [State.record, if_pos h]

theorem record_of_secondCopy (h : s.firstCopy = false) : s.record = (s.slotCopy 1).getD {} := by
  rw [State.record, if_neg (by simp [h])]

/-- A copy with the next sequence number is the record. -/
theorem record_putSlots {r : SlotRecord} (hp : s.physOf 2 ≠ s.physOf 3) (hseq : r.seq = s.record.seq + 1)
    (h : r.seq < 2 ^ 32) : (s.putSlots r).record = r := by
  rw [putSlots_eq]
  cases hf : s.firstCopy with
  | true =>
    have hnew : (s.putRecord 3 r.content).slotCopy 1 = some r := slotCopy_putRecord_same 1 h
    have hold : (s.putRecord 3 r.content).slotCopy 0 = s.slotCopy 0 := slotCopy_putRecord_of_ne hp
    have hfirst : (s.putRecord 3 r.content).firstCopy = false := by
      rw [record_of_firstCopy hf] at hseq
      unfold State.firstCopy
      rw [hnew, hold]
      cases hc : s.slotCopy 0 with
      | none => rfl
      | some a =>
        rw [hc] at hseq
        simp [hseq]
    rw [if_pos rfl, record_of_secondCopy hfirst, hnew]
    rfl
  | false =>
    have hnew : (s.putRecord 2 r.content).slotCopy 0 = some r := slotCopy_putRecord_same 0 h
    have hold : (s.putRecord 2 r.content).slotCopy 1 = s.slotCopy 1 := slotCopy_putRecord_of_ne hp.symm
    have hfirst : (s.putRecord 2 r.content).firstCopy = true := by
      rw [record_of_secondCopy hf] at hseq
      unfold State.firstCopy
      rw [hnew, hold]
      cases hc : s.slotCopy 1 with
      | none => rfl
      | some b =>
        rw [hc] at hseq
        simp [hseq]
    rw [if_neg (by decide), record_of_firstCopy hfirst, hnew]
    rfl

theorem record_congr (h : t.store = s.store) : t.record = s.record :=
  congrArg (fun x => State.record { t with store := x }) h

theorem cust_catEnd (s : State) (c : Nat) : (s.catEnd c).cust = s.cust := event_cust _ 6

theorem store_catEnd (s : State) (c : Nat) : (s.catEnd c).store = s.store := event_store _ 6

/-- The record that SET_ACTIVE writes. -/
def State.nextSlots (s : State) (app slot : Bool) : SlotRecord :=
  { seq := s.record.seq + 1, cat := if app then s.record.cat else slot, app := if app then slot else s.record.app }

theorem setActive_eq (s : State) (app slot : Bool) : s.setActive app slot =
    (s.putRecord (if s.firstCopy then 3 else 2) (s.nextSlots app slot).content).setB Reg.CATL_INFO (if app then 5 else 0) slot :=
  rfl

theorem exec_catlRecordWritten_of_phase (hb : s.catBusy = true) (hp : s.catPhase = 5) (hw : s.bit Reg.PWR_STATUS 0 = false) :
    exec .catlRecordWritten s = .next ((s.setActive s.cat.app s.cat.slot).catEnd 0) := by
  simp [execCatlRecordWritten, hb, hp, hw]

/-- A state with another flash content. -/
def State.withFlash (s : State) (f : List (Nat × FlashWord)) : State := { s with store := { s.store with flash := f } }

theorem putRecord_withFlash (s : State) (sector : Nat) (h : bytes.length = 8) :
    s.putRecord sector bytes = s.withFlash (s.putRecord sector bytes).store.flash :=
  putRecord_eq_withFlash s sector h

/-- The end of SET_ACTIVE: the record, CATL_INFO, and nothing else. -/
theorem setActive_recorded (app slot : Bool) (hp : s.physOf 2 ≠ s.physOf 3) (hseq : s.record.seq + 1 < 2 ^ 32) :
    ((s.setActive app slot).catEnd 0).record = s.nextSlots app slot ∧
      ((s.setActive app slot).catEnd 0).bit Reg.CATL_INFO (if app then 5 else 0) = slot ∧
      OnlyEvents (Reg.CATL_STATUS :: Reg.CATL_INFO :: eventRegs 6)
        { s with cat := ((s.setActive app slot).catEnd 0).cat
                 store := { s.store with flash := ((s.setActive app slot).catEnd 0).store.flash } }
        ((s.setActive app slot).catEnd 0) := by
  have hrec : (s.setActive app slot).record = s.nextSlots app slot := record_putSlots hp rfl hseq
  have honly : OnlyRegs (Reg.CATL_STATUS :: Reg.CATL_INFO :: eventRegs 6)
      (s.withFlash (s.setActive app slot).store.flash) (s.setActive app slot) := by
    rw [setActive_eq, putRecord_withFlash _ _ (length_slotContent _)]
    exact (OnlyRegs.refl _ _).setB (by simp)
  refine ⟨(record_congr (store_catEnd _ 0)).trans hrec, ?_, ?_⟩
  · rw [bit_congr (rd_catEnd_ne _ 0 (by decide)), setActive_eq, bit_setB_same]
    cases app <;> decide
  · rw [store_catEnd]
    exact OnlyRegs.catEnd 0 honly (by simp) (by simp [eventRegs]) (by simp [eventRegs])

/-! ### The signature's outcome (R48) -/

theorem exec_catlSignatureDone_refused (hb : s.catBusy = true) (hp : s.catPhase = 1) (hr : s.cat.reading = false) :
    exec (.catlSignatureDone true) s = .next (s.catEnd 0x10) := by
  simp [execCatlSignatureDone, hb, hp, hr]

theorem exec_catlSignatureDone_failed (hb : s.catBusy = true) (hp : s.catPhase = 1) (hr : s.cat.reading = false)
    (hc : s.catContent.1 ≠ 0) : exec (.catlSignatureDone false) s = .next (s.catEnd s.catContent.1) := by
  simp [execCatlSignatureDone, hb, hp, hr, hc]

/-- What a command whose image has passed goes on to. -/
def State.catPassed (s : State) : State :=
  match s.cat.cmd with
  | 2 => s.catStage s.catContent.2
  | 3 => s.toPhase 5
  | _ => s.catEnd 0

theorem exec_catlSignatureDone_passed (hb : s.catBusy = true) (hp : s.catPhase = 1) (hr : s.cat.reading = false)
    (hc : s.catContent.1 = 0) : exec (.catlSignatureDone false) s = .next s.catPassed := by
  simp only [exec_catlSignatureDone, execCatlSignatureDone, hb, hp, hr, hc, State.catPassed]
  simp only [beq_self_eq_true, Bool.not_false, Bool.and_self, if_true, bne_self_eq_false, Bool.false_eq_true, if_false]
  generalize s.cat.cmd = k
  rcases k with _ | _ | _ | _ | k <;> rfl

/-- What the end of a command says. -/
theorem catEnd_ended (s : State) (c : Nat) : (s.catEnd c).catBusy = false ∧ (s.catEnd c).bit Reg.CATL_STATUS 16 = true ∧
    (s.catEnd c).pending1 6 = true ∧ (s.catEnd c).cat.cmd = 0 := by
  refine ⟨catBusy_catEnd s c, done_catEnd s c, pending1_catEnd s c, ?_⟩
  rw [cat_catEnd]

theorem sections_catEnd (s : State) (c : Nat) : (s.catEnd c).cat.sections = s.cat.sections := by rw [cat_catEnd]

theorem onlyEvents_catEnd (s : State) (c : Nat) :
    OnlyEvents (Reg.CATL_STATUS :: eventRegs 6) { s with cat := (s.catEnd c).cat } (s.catEnd c) :=
  OnlyRegs.catEnd c (OnlyRegs.refl _ s) (by simp) (by simp [eventRegs]) (by simp [eventRegs])

/-! ### Staging (R52) -/

/-- A state with another number of folios left. -/
def State.withFolios (s : State) (n : Nat) : State := { s with cat := { s.cat with folios := n } }

theorem catStage_of_some {m : List (Nat × List Byte)} (h : (stagedBytes m + 255) / 256 ≠ 0) :
    s.catStage m = (s.withFolios ((stagedBytes m + 255) / 256)).toPhase 3 := if_neg h

theorem catStage_of_none {m : List (Nat × List Byte)} (h : stagedBytes m = 0) :
    s.catStage m = (s.withFolios 0).catStaged := by
  simp [State.catStage, h, State.withFolios]

theorem sections_catStage (s : State) (m : List (Nat × List Byte)) : (s.catStage m).cat.sections = s.cat.sections := by
  unfold State.catStage
  dsimp only
  split <;> rfl

theorem catPhase_catStaged (s : State) : s.catStaged.catPhase = 4 := by
  unfold State.catStaged State.catPhase State.setB
  rw [rdF_wrF_ne _ _ (by decide)]
  exact catPhase_toPhase s 4

theorem catBusy_catStaged (s : State) : s.catStaged.catBusy = true := by
  unfold State.catStaged State.catBusy
  rw [bit_setB_ne _ _ (by decide)]
  exact catBusy_toPhase s 4

/-- A folio has been staged. -/
def State.folioStaged (s : State) : State := (s.satAdd Reg.CATL_FOLIOS 0 8).withFolios (s.cat.folios - 1)

theorem exec_catlStageFolio_of_more (hb : s.catBusy = true) (hp : s.catPhase = 3) (hn : 2 ≤ s.cat.folios) :
    exec .catlStageFolio s = .next s.folioStaged := by
  have hmore : ¬ s.cat.folios ≤ 1 := by omega
  simp only [exec_catlStageFolio, execCatlStageFolio, hb, hp, if_neg hmore]
  rfl

theorem exec_catlStageFolio_of_last (hb : s.catBusy = true) (hp : s.catPhase = 3) (hn : s.cat.folios ≤ 1) :
    exec .catlStageFolio s = .next s.folioStaged.catStaged := by
  simp only [exec_catlStageFolio, execCatlStageFolio, hb, hp, if_pos hn]
  rfl

theorem rdF_folioStaged : s.folioStaged.rdF Reg.CATL_FOLIOS 0 8 = min (s.rdF Reg.CATL_FOLIOS 0 8 + 1) 255 :=
  rdF_satAdd_same s (by decide)

theorem rd_folioStaged_ne {a : Nat} (h : a ≠ Reg.CATL_FOLIOS) : s.folioStaged.rd a = s.rd a := rd_wr_ne _ _ h

theorem onlyRegs_folioStaged (l : List Nat) (hl : Reg.CATL_FOLIOS ∈ l) :
    OnlyRegs l { s with cat := s.folioStaged.cat } s.folioStaged := ((OnlyRegs.refl l s).satAdd hl).withCat _

theorem rd_catStaged_ne {a : Nat} (h : a ≠ Reg.CATL_STATUS) : s.catStaged.rd a = s.rd a := by
  unfold State.catStaged State.toPhase
  rw [rd_setB_ne _ _ _ h, rd_wrF_ne _ _ _ _ h, rd_setB_ne _ _ _ h]

theorem late_catStaged (s : State) : s.catStaged.bit Reg.CATL_STATUS 13 =
    (s.bit Reg.CATL_CTRL 4 && s.passed (s.rdInstant Reg.CATL_AT_LO Reg.CATL_AT_HI)) := by
  unfold State.catStaged
  rw [bit_setB_same _ _ (by decide)]

theorem late_folioStaged (s : State) : s.folioStaged.catStaged.bit Reg.CATL_STATUS 13 =
    (s.bit Reg.CATL_CTRL 4 && s.passed (s.rdInstant Reg.CATL_AT_LO Reg.CATL_AT_HI)) := by
  have hat : s.folioStaged.rdInstant Reg.CATL_AT_LO Reg.CATL_AT_HI = s.rdInstant Reg.CATL_AT_LO Reg.CATL_AT_HI := by
    unfold State.rdInstant
    rw [rd_folioStaged_ne (by decide), rdF_congr (rd_folioStaged_ne (by decide))]
  rw [late_catStaged, bit_congr (rd_folioStaged_ne (by decide)), hat]
  rfl

/-! ### The switch (R53) -/

/-- The live sections set registers, routes and templates; the catalogue, the store die and the custodian stay. -/
structure Switches (s t : State) : Prop where
  mem : t.mem = s.mem
  pwr : t.pwr = s.pwr
  store : t.store = s.store
  cust : t.cust = s.cust
  cat : t.cat = s.cat

theorem Switches.refl (s : State) : Switches s s := ⟨rfl, rfl, rfl, rfl, rfl⟩

theorem Switches.wr (h : Switches s t) (a : Nat) (v : Word) : Switches s (t.wr a v) := ⟨h.mem, h.pwr, h.store, h.cust, h.cat⟩

theorem Switches.wrF (h : Switches s t) (a lo len n : Nat) : Switches s (t.wrF a lo len n) := h.wr _ _

theorem Switches.keepRoute (h : Switches s t) (c : Nat) : Switches s (t.keepRoute c) := by
  unfold State.keepRoute
  split
  · exact h
  · exact ⟨h.mem, h.pwr, h.store, h.cust, h.cat⟩

theorem Switches.applyRoute (h : Switches s t) (recs : List (List Byte)) (c : Nat) : Switches s (t.applyRoute recs c) := by
  unfold State.applyRoute
  split
  · exact ((h.wrF _ _ _ _).wr _ _).wr _ _
  · exact ((h.wrF _ _ _ _).wr _ _).wr _ _

theorem Switches.applyChannels (h : Switches s t) (p : List Byte) : Switches s (t.applyChannels p true) := by
  refine forRange_induct h fun c _ u hu => ?_
  split
  · exact hu
  · exact (hu.keepRoute c).applyRoute _ c

theorem Switches.applyCal (h : Switches s t) (p : List Byte) : Switches s (t.applyCal p) := by
  unfold State.applyCal
  dsimp only
  split
  · exact ((h.wr _ _).wr _ _).wr _ _
  · exact (h.wr _ _).wr _ _

theorem Switches.applyTemplates (h : Switches s t) (p : List Byte) : Switches s (t.applyTemplates p) :=
  ⟨h.mem, h.pwr, h.store, h.cust, h.cat⟩

theorem Switches.newRound (h : Switches s t) : Switches s t.newRound := ⟨h.mem, h.pwr, h.store, h.cust, h.cat⟩

theorem Switches.applyLive (h : Switches s t) : Switches s (t.applyLive true) := by
  unfold State.applyLive
  dsimp only
  have hchan := h.applyChannels (t.sec 4)
  have hweights : Switches s ((t.applyChannels (t.sec 4) true).applyWeights (t.sec 5)) :=
    forRange_induct hchan fun _ _ _ hu => hu.wr _ _
  exact (((hweights.applyTemplates _).applyCal _).wr _ _).wr _ _

/-- The state in which the live sections take effect: the new sections, and the words held for open channels gone. -/
def State.withSwitched (s : State) (m : List (Nat × List Byte)) : State := { s with
  cat := { s.cat with sections := s.switched m }
  fab := { s.fab with held := s.fab.held.filter (fun p => s.bit (Reg.FAB_CH_CFG p.1) 17) } }

/-- The state before the switch ends its command. -/
def State.switchedOver (s : State) (m : List (Nat × List Byte)) : State :=
  ((((((s.withSwitched m).applyLive true).newRound).wr Reg.CATL_BUILD (word (imgBuild s.cat.image))).setB Reg.CATL_INFO 3
    (imgKey s.cat.image)).wr Reg.CATL_APPLIED (appliedWord (s.switched m)))

theorem catSwitch_eq (s : State) (m : List (Nat × List Byte)) : s.catSwitch m = (s.switchedOver m).catEnd 0 := rfl

theorem switches_switchedOver (s : State) (m : List (Nat × List Byte)) : Switches (s.withSwitched m) (s.switchedOver m) := by
  have hround := (Switches.refl (s.withSwitched m)).applyLive.newRound
  unfold State.switchedOver State.setB
  exact ((hround.wr _ _).wrF _ _ _ _).wr _ _

theorem mapGet_switched {m : List (Nat × List Byte)} {n : Nat} (hn : n ∉ liveTypes) :
    mapGet (s.switched m) n = mapGet s.cat.sections n := by
  have hfold : ∀ (ts : List Nat) (l : List (Nat × List Byte)), n ∉ ts →
      mapGet (ts.foldl (fun l t => match mapGet m t with
        | some p => mapIns (mapErase l t) t p
        | none => mapErase l t) l) n = mapGet l n := by
    intro ts
    induction ts with
    | nil => exact fun _ _ => rfl
    | cons t ts ih =>
      intro l hmem
      rw [List.mem_cons, not_or] at hmem
      obtain ⟨hne, hrest⟩ := hmem
      rw [List.foldl_cons, ih _ hrest]
      split
      · rw [mapGet_mapIns_ne _ _ hne, mapGet_mapErase_ne _ hne]
      · rw [mapGet_mapErase_ne _ hne]
  exact hfold liveTypes s.cat.sections hn

theorem exec_catlSwitch_of_phase (hb : s.catBusy = true) (hp : s.catPhase = 4) (hat : s.bit Reg.CATL_CTRL 4 = false) :
    exec .catlSwitch s = .next (s.catSwitch ((imgSections s.cat.image).elim [] sectionMap)) := by
  simp [execCatlSwitch, State.switchDue, hb, hp, hat]

theorem build_switchedOver (s : State) (m : List (Nat × List Byte)) :
    ((s.switchedOver m).catEnd 0).rd Reg.CATL_BUILD = word (imgBuild s.cat.image) := by
  rw [rd_catEnd_ne _ 0 (by decide), State.switchedOver, rd_wr_ne _ _ (by decide), rd_setB_ne _ _ _ (by decide), rd_wr_same]

theorem bootOnly_switchedOver (s : State) (m : List (Nat × List Byte)) :
    bootOnly.all (fun n => mapGet ((s.switchedOver m).catEnd 0).cat.sections n == mapGet s.cat.sections n) = true := by
  rw [sections_catEnd, (switches_switchedOver s m).cat]
  simp only [List.all_eq_true, beq_iff_eq]
  intro n hn
  refine mapGet_switched ?_
  revert n
  decide

theorem sameMem_switchedOver (s : State) (m : List (Nat × List Byte)) : SameMem s ((s.switchedOver m).catEnd 0) := by
  have h := switches_switchedOver s m
  obtain ⟨-, -, hmem, -⟩ := onlyEvents_catEnd (s.switchedOver m) 0
  intro a
  exact (hmem a).trans (byteAt_congr h.mem (congrArg PwrSt.lost h.pwr) a)

end

end Sys2Proof.Machine
end

section

open Sys2Proof Sys2Proof.Machine

/-- Settles O12: each phase has its next state, and a command's end is one function. -/
theorem catalogueCommandsCompleteInTheirPhases : Obligations.CatalogueCommandsCompleteInTheirPhases := by
  unfold Obligations.CatalogueCommandsCompleteInTheirPhases
  refine ⟨?refused, ?verify, ?apply, ?setActive, ?folio, ?lastFolio, ?switch, ?slot, ?app⟩
  case refused =>
    intro s hb hp hr
    obtain ⟨hbusy, hdone, hev, hcmd⟩ := catEnd_ended s 0x10
    exact ⟨_, exec_catlSignatureDone_refused hb hp hr, hbusy, hdone, hev, hcmd, code_catEnd s _, sections_catEnd s _,
      onlyEvents_catEnd s _⟩
  case verify =>
    intro s hb hp hr hcmd
    have hcontent : s.catContent = s.contentCode none s.cat.image := by simp [State.catContent, hcmd]
    have hexec : exec (.catlSignatureDone false) s = .next (s.catEnd s.catContent.1) := by
      by_cases hc : s.catContent.1 = 0
      · rw [exec_catlSignatureDone_passed hb hp hr hc, State.catPassed, hcmd, hc]
        rfl
      · exact exec_catlSignatureDone_failed hb hp hr hc
    obtain ⟨hbusy, hdone, hev, hcmd'⟩ := catEnd_ended s s.catContent.1
    exact ⟨_, hexec, hbusy, hdone, hev, hcmd', by rw [code_catEnd, hcontent], sections_catEnd s _, onlyEvents_catEnd s _⟩
  case apply =>
    intro s hb hp hr hcmd
    by_cases hc : s.catContent.1 = 0
    · refine ⟨s.catStage s.catContent.2, ?_, sections_catStage s _, fun _ hn => ?_, fun _ hn => ?_, fun h => absurd hc h⟩
      · rw [exec_catlSignatureDone_passed hb hp hr hc, State.catPassed, hcmd]
        rfl
      · rw [catStage_of_some (by omega)]
        exact ⟨catBusy_toPhase _ 3, catPhase_toPhase _ 3, rfl⟩
      · rw [catStage_of_none hn]
        exact ⟨catBusy_catStaged _, catPhase_catStaged _⟩
    · exact ⟨_, exec_catlSignatureDone_failed hb hp hr hc, sections_catEnd s _, fun h => absurd h hc,
        fun h => absurd h hc, fun _ => ⟨catBusy_catEnd s _, code_catEnd s _⟩⟩
  case setActive =>
    intro s hb hp hr hcmd
    by_cases hc : s.catContent.1 = 0
    · refine ⟨s.toPhase 5, ?_, rfl, fun _ => ⟨catBusy_toPhase s 5, catPhase_toPhase s 5⟩, fun h => absurd hc h⟩
      rw [exec_catlSignatureDone_passed hb hp hr hc, State.catPassed, hcmd]
      rfl
    · exact ⟨_, exec_catlSignatureDone_failed hb hp hr hc, boot_catEnd s _, fun h => absurd h hc,
        fun _ => ⟨catBusy_catEnd s _, code_catEnd s _⟩⟩
  case folio =>
    intro s hb hp hn
    refine ⟨_, exec_catlStageFolio_of_more hb hp hn, rdF_folioStaged, ?_, rfl, onlyRegs_folioStaged _ (by simp)⟩
    rw [State.catPhase, rdF_congr (rd_folioStaged_ne (by decide))]
    exact hp
  case lastFolio =>
    intro s hb hp hn
    refine ⟨_, exec_catlStageFolio_of_last hb hp hn, ?_, catPhase_catStaged _, late_folioStaged s, ?_⟩
    · rw [rdF_congr (rd_catStaged_ne (by decide)), rdF_folioStaged]
    · exact (onlyRegs_toPhase (onlyRegs_folioStaged [Reg.CATL_FOLIOS, Reg.CATL_STATUS] (by simp)) (by simp) 4).setB (by simp)
  case switch =>
    intro s hb hp hat
    refine ⟨_, exec_catlSwitch_of_phase hb hp hat, ?_⟩
    rw [catSwitch_eq]
    generalize (imgSections s.cat.image).elim [] sectionMap = m
    have h := switches_switchedOver s m
    obtain ⟨hbusy, hdone, hev, hcmd⟩ := catEnd_ended (s.switchedOver m) 0
    exact ⟨hbusy, hdone, hev, hcmd, code_catEnd _ 0, build_switchedOver s m, bootOnly_switchedOver s m,
      (store_catEnd _ 0).trans h.store, (cust_catEnd _ 0).trans h.cust, sameMem_switchedOver s m⟩
  case slot =>
    intro s hb hp hw happ hphys hseq
    obtain ⟨hrec, hinfo, honly⟩ := setActive_recorded (s := s) false s.cat.slot hphys hseq
    obtain ⟨hbusy, hdone, hev, hcmd⟩ := catEnd_ended (s.setActive false s.cat.slot) 0
    refine ⟨_, exec_catlRecordWritten_of_phase hb hp hw, ?_⟩
    rw [happ]
    exact ⟨hbusy, hdone, hev, hcmd, code_catEnd _ 0, by rw [hrec]; rfl, by rw [hrec]; rfl, by rw [hrec]; rfl, hinfo, honly⟩
  case app =>
    intro s hb hp hw happ hphys hseq
    obtain ⟨hrec, hinfo, honly⟩ := setActive_recorded (s := s) true s.cat.slot hphys hseq
    obtain ⟨hbusy, hdone, hev, hcmd⟩ := catEnd_ended (s.setActive true s.cat.slot) 0
    refine ⟨_, exec_catlRecordWritten_of_phase hb hp hw, ?_⟩
    rw [happ]
    exact ⟨hbusy, hdone, hev, hcmd, by rw [hrec]; rfl, by rw [hrec]; rfl, by rw [hrec]; rfl, hinfo, honly⟩

end

section
/-! PROOF. A START in the cycle of a fabric request on its channel (12, MOVER; R389, R391). -/

namespace Sys2Proof.Machine

/-- A paced descriptor of one word stands at the start of main SRAM, and channel 0 has met a request in this cycle. -/
def requestFirst : State := { State.reset with
  cat := { State.reset.cat with sections := [(1, [16, 0, 0, 0])] }
  regs := [(Reg.MOVER_CH_DESC 0, 0x20000000)]
  mem := [(0x20000008, 4), (0x2000000A, 0x20), (0x2000000B, 1)]
  cyc := { State.reset.cyc with requests := [0] } }

/-- Words 2 and 3 of the descriptor: 4 bytes by words, PACED. -/
theorem words_requestFirst :
    word (leNat (requestFirst.bytesAt (0x20000000 + 0) 4)) = 0 ∧ word (leNat (requestFirst.bytesAt (0x20000000 + 4) 4)) = 0 ∧
      word (leNat (requestFirst.bytesAt (0x20000000 + 8) 4)) = 0x1200004 ∧
      word (leNat (requestFirst.bytesAt (0x20000000 + 12) 4)) = 0 := by
  decide +kernel

theorem mvDescOk_requestFirst : mvDescOk 0x20000000 (mvDescOf 0 0 0x1200004 0) 0x1200004 0 = true := by decide

theorem exec_moverStart_requestFirst :
    exec (.moverStart .core 0) requestFirst = .next (requestFirst.mvStart .core 0) := by rfl

/-- The request pends on the new chain, which so is ACTIVE. -/
theorem mvState_requestFirst : (requestFirst.mvStart .core 0).mvState 0 = 1 := by decide +kernel

end Sys2Proof.Machine
end

section

open Sys2Proof Sys2Proof.Machine

/-- Refutes O43: a paced channel that starts in the cycle of a request on it (`requestFirst`) is ACTIVE, not WAITING. -/
theorem not_theMoverRunsItsDescriptors : ¬ Obligations.TheMoverRunsItsDescriptors := by
  unfold Obligations.TheMoverRunsItsDescriptors
  rintro ⟨-, -, -, hstart, -⟩
  obtain ⟨h0, h1, h2, h3⟩ := words_requestFirst
  obtain ⟨t, ht, -, hstate, -⟩ := hstart 0x20000000 0 0 0x1200004 0 .core 0 requestFirst (by rfl) (by rfl) (by decide)
    (by decide) (by rfl) (by decide) (by decide) h0.symm h1.symm h2.symm h3.symm mvDescOk_requestFirst
  rw [exec_moverStart_requestFirst] at ht
  rw [← Host.Outcome.next.inj ht] at hstate
  exact absurd (mvState_requestFirst.symm.trans hstate) (by decide)

end

section
/-! PROOF. The submission of a store command: its checks, its slot, and how each command starts (13; R413 to R415,
R446 to R450). -/

namespace Sys2Proof.Machine

section

variable {s t : State} {m : Master} {op a n slot : Nat}

/-! ### The status registers and the end of a command -/

@[simp] theorem store_storeSync (s : State) : s.storeSync.store = s.store := by
  simp only [State.storeSync, wr_store]

theorem rd_storeSync_ne (s : State) (h : a ∉ [Reg.STOR_STATE, Reg.STOR_SPARE, Reg.STORD_OP 0, Reg.STORD_OP 1]) :
    s.storeSync.rd a = s.rd a := by
  simp only [List.mem_cons, List.not_mem_nil, or_false, not_or] at h
  obtain ⟨hstate, hspare, h0, h1⟩ := h
  rw [State.storeSync, rd_wr_ne _ _ h1, rd_wr_ne _ _ h0, rd_wr_ne _ _ hspare, rd_wr_ne _ _ hstate]

theorem onlyRegs_storeSync (s : State) :
    OnlyRegs [Reg.STOR_STATE, Reg.STOR_SPARE, Reg.STORD_OP 0, Reg.STORD_OP 1] s s.storeSync :=
  ((((OnlyRegs.refl _ s).wr (by simp)).wr (by simp)).wr (by simp)).wr (by simp)

theorem planeCode_lt (s : State) (p : Nat) : s.planeCode p < 4 := by
  unfold State.planeCode
  split
  · decide
  · split_ifs <;> decide

theorem bitOf_word_add {k : Nat} (b : Bool) (hk : k < 2048) : bitOf (word (k + b2n b * 2048)) 11 = b := by
  unfold bitOf word
  rw [BitVec.getLsbD_ofNat, Nat.testBit_eq_decide_div_mod_eq]
  cases b with
  | false =>
    have hz : (k + b2n false * 2048) / 2 ^ 11 % 2 = 0 := by
      rw [show b2n false = 0 from rfl]
      omega
    rw [hz]
    rfl
  | true =>
    have ho : (k + b2n true * 2048) / 2 ^ 11 % 2 = 1 := by
      rw [show b2n true = 1 from rfl]
      omega
    rw [ho]
    rfl

/-- With at most eight slots held, the fields of STOR_STATE stay apart. -/
theorem bitOf_storStateWord {p0 p1 h : Nat} (h0 : p0 < 4) (h1 : p1 < 4) (hh : h ≤ 8) (b8 b9 b10 b11 : Bool) :
    bitOf (word (p0 + p1 * 4 + h * 16 + b2n b8 * 256 + b2n b9 * 512 + b2n b10 * 1024 + b2n b11 * 2048)) 11 = b11 := by
  have hfld : ∀ b : Bool, b2n b ≤ 1 := by decide
  have h8 := hfld b8
  have h9 := hfld b9
  have h10 := hfld b10
  exact bitOf_word_add b11 (by omega)

theorem blocked_storeSync (h : s.store.held.length ≤ 8) : s.storeSync.bit Reg.STOR_STATE 11 = s.bit Reg.STOR_STATE 11 := by
  rw [State.storeSync, bit_wr_ne _ _ (by decide), bit_wr_ne _ _ (by decide), bit_wr_ne _ _ (by decide), State.bit,
    rd_wr_same]
  exact bitOf_storStateWord (planeCode_lt s 0) (planeCode_lt s 1) h _ _ _ _

/-- A command that ends, but not INCOMPLETE: its result, its bits of STOR_DONE, its event, and nothing else. -/
theorem endCommand_recorded {status : Nat} (s : State) (addr : Nat) (hn : n < 8) (hst : status < 256) (h9 : status ≠ 9) :
    (s.endCommand (some n) status addr).rdF (Reg.STOR_RESULT n) 0 8 = status ∧
      (addrStatus status = true → (s.endCommand (some n) status addr).rdF (Reg.STOR_RESULT n) 8 23 = addr % 2 ^ 23) ∧
      (s.endCommand (some n) status addr).bit Reg.STOR_DONE n = true ∧
      (s.endCommand (some n) status addr).bit Reg.STOR_DONE (8 + n) = (status != 0) ∧
      (s.endCommand (some n) status addr).pending1 (if status = 0 then 176 else 177) = true ∧
      (s.endCommand (some n) status addr).store = s.store := by
  have hresult : Reg.STOR_RESULT n ≠ Reg.STOR_DONE := by simp only [Reg.STOR_RESULT, Reg.STOR_DONE]; omega
  have hle : (0x40006000 : Nat) ≤ Reg.STOR_RESULT n := by simp only [Reg.STOR_RESULT]; omega
  have hev : (if status = 0 then 176 else 177) < 256 := by split <;> decide
  have hat : s.openVal (addrStatus status) (addr % 2 ^ 23) (2 ^ 23) < 2 ^ 23 :=
    openVal_lt (s := s) (v := addr % 2 ^ 23) (n := 2 ^ 23) (fun _ => Nat.mod_lt _ (by decide)) (by decide)
  unfold State.endCommand
  simp only [if_neg h9]
  refine ⟨?_, fun had => ?_, ?_, ?_, pending1_event_self _ hev, ?_⟩
  · rw [rdF_congr (rd_event_of_le _ hle hev), State.setB, rdF_wrF_of_ne _ _ _ _ hresult, State.setB,
      rdF_wrF_of_ne _ _ _ _ hresult, State.rdF, rd_wr_same, fld_word (by decide)]
    simp only [b2n]
    omega
  · rw [rdF_congr (rd_event_of_le _ hle hev), State.setB, rdF_wrF_of_ne _ _ _ _ hresult, State.setB,
      rdF_wrF_of_ne _ _ _ _ hresult, State.rdF, rd_wr_same, fld_word (by decide)]
    rw [had] at hat ⊢
    simp only [b2n, openVal_stated]
    omega
  · rw [bit_congr (rd_event_of_le _ (by decide) hev), bit_setB_ne _ _ (by omega), bit_setB_same _ _ (by omega)]
  · rw [bit_congr (rd_event_of_le _ (by decide) hev), bit_setB_same _ _ (by omega)]
  · rw [event_store, setB_store, setB_store, wr_store, openTaken_eq]

theorem rd_endCommand_ne {status addr : Nat} (s : State) (h9 : status ≠ 9) (hle : 0x40006000 ≤ a)
    (hr : a ≠ Reg.STOR_RESULT n) (hd : a ≠ Reg.STOR_DONE) : (s.endCommand (some n) status addr).rd a = s.rd a := by
  unfold State.endCommand
  simp only [if_neg h9]
  rw [rd_event_of_le _ hle (by split <;> decide), rd_setB_ne _ _ _ hd, rd_setB_ne _ _ _ hd, rd_wr_ne _ _ hr, openTaken_eq]
  exact rd_congr rfl a

/-- What a command that ended shows once the status registers follow. -/
theorem endCommand_shown {status : Nat} (s : State) (addr : Nat) (hn : n < 8) (hst : status < 256) (h9 : status ≠ 9) :
    (s.endCommand (some n) status addr).storeSync.rdF (Reg.STOR_RESULT n) 0 8 = status ∧
      (addrStatus status = true →
        (s.endCommand (some n) status addr).storeSync.rdF (Reg.STOR_RESULT n) 8 23 = addr % 2 ^ 23) ∧
      (s.endCommand (some n) status addr).storeSync.bit Reg.STOR_DONE n = true ∧
      (s.endCommand (some n) status addr).storeSync.bit Reg.STOR_DONE (8 + n) = (status != 0) ∧
      (s.endCommand (some n) status addr).storeSync.pending1 (if status = 0 then 176 else 177) = true ∧
      (s.endCommand (some n) status addr).storeSync.store.flash = s.store.flash := by
  obtain ⟨hres, haddr, hdone, herr, hev, hstore⟩ := endCommand_recorded s addr hn hst h9
  have hresult : Reg.STOR_RESULT n ∉ [Reg.STOR_STATE, Reg.STOR_SPARE, Reg.STORD_OP 0, Reg.STORD_OP 1] := by
    simp only [Reg.STOR_RESULT, Reg.STOR_STATE, Reg.STOR_SPARE, Reg.STORD_OP, List.mem_cons, List.not_mem_nil, or_false]
    omega
  have hpend : Reg.INTC_PEND ((if status = 0 then 176 else 177) / 32) ∉
      [Reg.STOR_STATE, Reg.STOR_SPARE, Reg.STORD_OP 0, Reg.STORD_OP 1] := by
    split <;> decide
  refine ⟨?_, fun had => ?_, ?_, ?_, ?_, by rw [store_storeSync, hstore]⟩
  · rw [rdF_congr (rd_storeSync_ne _ hresult), hres]
  · rw [rdF_congr (rd_storeSync_ne _ hresult), haddr had]
  · rw [bit_congr (rd_storeSync_ne _ (by decide)), hdone]
  · rw [bit_congr (rd_storeSync_ne _ (by decide)), herr]
  · exact (bit_congr (rd_storeSync_ne _ hpend) _).trans hev

/-! ### The operations -/

theorem opAt_setOp (o : LongOp) : (s.setOp o).opAt o.plane = some o := by
  unfold State.setOp State.opAt
  rw [List.find?_append, List.find?_eq_none.mpr fun x hx => by simpa using (List.mem_filter.mp hx).2]
  simp

theorem mem_ops_setOp (s : State) (o : LongOp) : o ∈ (s.setOp o).store.ops := List.mem_append_right _ (by simp)

theorem opAt_congr (h : t.store = s.store) (p : Nat) : t.opAt p = s.opAt p :=
  congrArg (fun x => State.opAt { t with store := x } p) h

/-! ### What the start of a command leaves unchanged -/

/-- The slots held, the patrol and the outcome of the SUBMIT stay. -/
structure KeepsSubmit (s t : State) : Prop where
  accept : t.rd Reg.STOR_ACCEPT = s.rd Reg.STOR_ACCEPT
  held : t.store.held = s.store.held
  patrol : t.store.patrol = s.store.patrol

namespace KeepsSubmit

theorem refl (s : State) : KeepsSubmit s s := ⟨rfl, rfl, rfl⟩

theorem wr (h : KeepsSubmit s t) (v : Word) (ha : Reg.STOR_ACCEPT ≠ a) : KeepsSubmit s (t.wr a v) :=
  ⟨(rd_wr_ne _ _ ha).trans h.accept, h.held, h.patrol⟩

theorem eventIf {e : Nat} (h : KeepsSubmit s t) (b : Bool) (he : e < 256) : KeepsSubmit s (t.eventIf b e) := by
  cases b with
  | false => exact h
  | true =>
    refine ⟨(rd_event_of_le _ (by decide) he).trans h.accept, ?_, ?_⟩
    · rw [State.eventIf, if_pos rfl, event_store, h.held]
    · rw [State.eventIf, if_pos rfl, event_store, h.patrol]

theorem setFlash (h : KeepsSubmit s t) (p i : Nat) (w : FlashWord) : KeepsSubmit s (t.setFlash p i w) :=
  ⟨(rd_congr rfl _).trans h.accept, h.held, h.patrol⟩

theorem eraseFlash (h : KeepsSubmit s t) (p : Nat) : KeepsSubmit s (t.eraseFlash p) :=
  ⟨(rd_congr rfl _).trans h.accept, h.held, h.patrol⟩

theorem withMap (h : KeepsSubmit s t) (l : List MapEntry) (b : List Nat) :
    KeepsSubmit s { t with store := { t.store with map := l, bad := b } } :=
  ⟨(rd_congr rfl _).trans h.accept, h.held, h.patrol⟩

theorem setOp (h : KeepsSubmit s t) (o : LongOp) : KeepsSubmit s (t.setOp o) :=
  ⟨(rd_congr rfl _).trans h.accept, h.held, h.patrol⟩

theorem psTouch (h : KeepsSubmit s t) (l : Nat) : KeepsSubmit s (t.psTouch l) := by
  unfold State.psTouch
  split
  · exact h
  · split
    · exact h.wr _ (by decide)
    · exact h

theorem endCommand {status addr : Nat} (h : KeepsSubmit s t) (hn : n < 8) (hst : status < 256) (h9 : status ≠ 9) :
    KeepsSubmit s (t.endCommand (some n) status addr) := by
  obtain ⟨-, -, -, -, -, hstore⟩ := endCommand_recorded t addr hn hst h9
  have hr : Reg.STOR_ACCEPT ≠ Reg.STOR_RESULT n := by simp only [Reg.STOR_ACCEPT, Reg.STOR_RESULT]; omega
  refine ⟨(rd_endCommand_ne t h9 (by decide) hr (by decide)).trans h.accept, ?_, ?_⟩
  · rw [hstore, h.held]
  · rw [hstore, h.patrol]

theorem runCheck (h : KeepsSubmit s t) (hn : n < 8) (l : Nat) : KeepsSubmit s (t.runCheck n l) := by
  unfold State.runCheck
  split
  · exact (h.psTouch l).endCommand hn (by decide) (by decide)
  · exact (h.psTouch l).endCommand hn (by decide) (by decide)

theorem slip (h : KeepsSubmit s t) (src kind cls detail : Nat) : KeepsSubmit s (t.slip src kind cls detail) :=
  ⟨(rd_slip _ _ _ _ _ _).trans h.accept, h.held, h.patrol⟩

theorem noteRead (h : KeepsSubmit s t) (off len : Nat) : KeepsSubmit s (t.noteRead off len) := by
  unfold State.noteRead
  split
  · exact ((h.wr _ (by decide)).wr _ (by decide)).slip _ _ _ _
  · exact h.wr _ (by decide)

theorem writeGrown (h : KeepsSubmit s t) (l : List MapEntry) (b : List Nat) : KeepsSubmit s (t.writeGrown l b) :=
  withMap (List.foldlRecOn (motive := KeepsSubmit s) _ _ (h.eraseFlash _) fun _ hu _ _ => hu.setFlash _ _ _) l b

theorem settleOp (g : List Stage) : ∀ {t : State}, KeepsSubmit s t → KeepsSubmit s (t.settleOp g).2 := by
  induction g with
  | nil => exact fun h => h
  | cons x g ih =>
    intro t h
    match x with
    | .erase _ => exact h
    | .prog _ [] => exact ih h
    | .prog _ (_ :: _) => exact h
    | .switch _ _ => exact ih (h.writeGrown _ _)

theorem startRefresh (h : KeepsSubmit s t) (hn : n < 8) (l o : Nat) : KeepsSubmit s (t.startRefresh l (some n) o) := by
  unfold State.startRefresh
  split
  · exact ((h.wr _ (by decide)).psTouch l).endCommand hn (by decide) (by decide)
  · exact (KeepsSubmit.setOp (settleOp _ h) _).eventIf _ (by decide)

theorem startCommand (h : KeepsSubmit s t) (hn : n < 8) (m : Master) (op addr len : Nat) :
    KeepsSubmit s (t.startCommand m (some n) op addr len) := by
  unfold State.startCommand
  dsimp only
  split
  · exact h.setOp _
  · exact h.setOp _
  · split
    · exact ⟨(rd_congr rfl _).trans h.accept, h.held, h.patrol⟩
    · exact h.runCheck hn _
  · split
    · exact ((h.noteRead _ _).psTouch _).endCommand hn (by decide) (by decide)
    · exact (h.noteRead _ _).startRefresh hn _ _
  · split
    · exact h.setOp _
    · exact h.endCommand hn (by decide) (by decide)
  · split
    · exact h.setOp _
    · exact h.endCommand hn (by decide) (by decide)

end KeepsSubmit

/-! ### The checks of a SUBMIT (R413) -/

/-- The registers hold the command that is spelt out. -/
def State.withCommand (s : State) (op addr len : Nat) : State :=
  ((s.wrF Reg.STOR_CMD_OP 0 4 op).wrF Reg.STOR_CMD_ADDR 0 23 addr).wrF Reg.STOR_CMD_LEN 0 12 len

/-- The registers of the command interface. -/
def submitRegs : List Nat := [Reg.STOR_CMD_OP, Reg.STOR_CMD_ADDR, Reg.STOR_CMD_LEN, Reg.STOR_ACCEPT, Reg.STOR_COUNT2]

theorem onlyRegs_withCommand (s : State) (op addr len : Nat) : OnlyRegs submitRegs s (s.withCommand op addr len) :=
  (((OnlyRegs.refl _ s).wrF (by simp [submitRegs])).wrF (by simp [submitRegs])).wrF (by simp [submitRegs])

theorem rd_withCommand_ne {addr len : Nat} (h : a ∉ submitRegs) : (s.withCommand op addr len).rd a = s.rd a :=
  (onlyRegs_withCommand s op addr len).1 a h

theorem psGeom_withCommand (op addr len : Nat) : (s.withCommand op addr len).psGeom = s.psGeom := by
  unfold State.psGeom
  rw [rdF_congr (rd_withCommand_ne (by decide)), rdF_congr (rd_withCommand_ne (by decide))]

theorem submitStatus_withCommand (o b c : Nat) (m : Master) (op addr len : Nat) :
    (s.withCommand o b c).submitStatus m op addr len = s.submitStatus m op addr len := by
  have hbow : (s.withCommand o b c).bit Reg.PWR_STATUS 0 = s.bit Reg.PWR_STATUS 0 :=
    bit_congr (rd_withCommand_ne (by decide)) 0
  have hgeom := psGeom_withCommand (s := s) o b c
  have hsecs : ∀ op addr, (s.withCommand o b c).cmdSectors op addr = s.cmdSectors op addr := by
    intro op addr
    unfold State.cmdSectors
    rw [hgeom]
  have hbusy : (s.withCommand o b c).busySectors = s.busySectors := by
    unfold State.busySectors
    simp only [hsecs]
    rfl
  unfold State.submitStatus
  simp only [hbow, hgeom, hsecs, hbusy]
  rfl

theorem submitStatus_lt (s : State) (m : Master) (op addr len : Nat) : s.submitStatus m op addr len < 16 := by
  unfold State.submitStatus
  dsimp only
  split_ifs <;> decide

theorem held_lt_of_accepted {addr len : Nat} (hm : m ≠ .custodian) (h : s.submitStatus m op addr len = 0) :
    s.store.held.length < 8 := by
  by_contra hlen
  have hfull : (m != .custodian && decide (8 ≤ s.store.held.length)) = true := by simp [hm]; omega
  unfold State.submitStatus at h
  simp only [hfull, if_true] at h
  split at h <;> exact absurd h (by decide)

theorem freeSlot_lt (s : State) : s.freeSlot < 8 := by
  unfold State.freeSlot
  cases h : (List.range 8).find? (fun n => !s.store.held.contains n) with
  | none => decide
  | some n => exact List.mem_range.mp (List.mem_of_find?_eq_some h)

/-! ### The outcome of a SUBMIT in STOR_ACCEPT -/

/-- The mask leaves out the slot, which a refused SUBMIT leaves open. -/
theorem word_accept_masked {v c : Nat} (ha : a < 256) (hv : v < 8) :
    word (a + v * 256 + c * 65536) &&& 0xFFFFF8FF = word (a + c * 65536) := by
  have hmask : ∀ j < 32, (0xFFFFF8FF : Word).getLsbD j = decide (j < 8 ∨ 11 ≤ j) := by decide
  have hfull : a + v * 256 + c * 65536 = 2 ^ 11 * (c * 32) + (2 ^ 8 * v + a) := by omega
  have hmasked : a + c * 65536 = 2 ^ 11 * (c * 32) + a := by omega
  apply BitVec.eq_of_getLsbD_eq
  intro j hj
  rw [BitVec.getLsbD_and, hmask j hj, word, word, BitVec.getLsbD_ofNat, BitVec.getLsbD_ofNat, hfull, hmasked,
    Nat.testBit_two_pow_mul_add (i := 11) _ (by omega), Nat.testBit_two_pow_mul_add (i := 8) _ (by omega),
    Nat.testBit_two_pow_mul_add (i := 11) _ (by omega)]
  by_cases h8 : j < 8
  · simp [h8, show j < 11 by omega]
  · by_cases h11 : j < 11
    · have hz : a.testBit j = false :=
        Nat.testBit_lt_two_pow (Nat.lt_of_lt_of_le ha (show 2 ^ 8 ≤ 2 ^ j from Nat.pow_le_pow_right (by decide) (by omega)))
      simp [h8, h11, hz, show ¬ 11 ≤ j by omega]
    · simp [h8, h11, show 11 ≤ j by omega]

/-- A refused SUBMIT: its code and the master, the slot being free. -/
def State.submitRefused (s : State) (m : Master) (code : Nat) : State :=
  (s.openTaken false).wr Reg.STOR_ACCEPT (word (code + s.openVal false s.freeSlot 8 * 2 ^ 8 + masterId m * 2 ^ 16 +
    (s.rdF Reg.STOR_ACCEPT 24 8 + 1) % 256 * 2 ^ 24))

/-- PLANE_BUSY is counted. -/
def State.countBusy (s : State) (code : Nat) : State := if code = 2 then s.satAdd Reg.STOR_COUNT2 16 8 else s

/-- The store die with one more slot held and a patrol read abandoned. -/
def State.holdSlot (s : State) (n : Nat) : State :=
  { s with store := { s.store with patrol := stopRead s.store.patrol, held := s.store.held ++ [n] } }

theorem rd_holdSlot (s : State) (n a : Nat) : (s.holdSlot n).rd a = s.rd a := rd_congr rfl a

/-- An accepted SUBMIT: the outcome, and its slot held. -/
def State.submitAccepted (s : State) (m : Master) : State :=
  (s.wr Reg.STOR_ACCEPT (word (0 + s.freeSlot * 2 ^ 8 + masterId m * 2 ^ 16 +
    (s.rdF Reg.STOR_ACCEPT 24 8 + 1) % 256 * 2 ^ 24))).holdSlot s.freeSlot

theorem openTaken_true (s : State) : s.openTaken true = s := rfl

theorem storeSubmit_of_refused {addr len : Nat} (hm : m ≠ .custodian) (h : s.submitStatus m op addr len ≠ 0) :
    s.storeSubmit m op addr len = ((s.submitRefused m (s.submitStatus m op addr len)).countBusy
      (s.submitStatus m op addr len)).storeSync := by
  have hcust : (m == Master.custodian) = false := by simpa using hm
  have hcode : (s.submitStatus m op addr len == 0) = false := by simpa using h
  unfold State.storeSubmit
  simp only [hcust, hcode, h, if_false, Bool.false_eq_true, State.submitRefused, State.countBusy]

theorem storeSubmit_of_accepted {addr len : Nat} (hm : m ≠ .custodian) (h : s.submitStatus m op addr len = 0) :
    s.storeSubmit m op addr len =
      ((s.submitAccepted m).startCommand m (some s.freeSlot) op addr len).storeSync := by
  have hcust : (m == Master.custodian) = false := by simpa using hm
  unfold State.storeSubmit
  simp only [hcust, h, if_false, Bool.false_eq_true, State.submitAccepted, State.holdSlot, beq_self_eq_true, openTaken_true,
    openVal_stated, if_true, if_neg (show ¬ (0 : Nat) = 2 by decide)]

theorem storeCommand_eq (s : State) (m : Master) (op addr len : Nat) : s.storeCommand m op addr len =
    (s.withCommand op addr len).storeSubmit m op (addr % 2 ^ 23) (len % 2 ^ 12) := rfl

theorem storeCommand_of_refused {addr len : Nat} (hm : m ≠ .custodian)
    (h : s.submitStatus m op (addr % 2 ^ 23) (len % 2 ^ 12) ≠ 0) : s.storeCommand m op addr len =
      (((s.withCommand op addr len).submitRefused m (s.submitStatus m op (addr % 2 ^ 23) (len % 2 ^ 12))).countBusy
        (s.submitStatus m op (addr % 2 ^ 23) (len % 2 ^ 12))).storeSync := by
  rw [storeCommand_eq, storeSubmit_of_refused hm (by rwa [submitStatus_withCommand]), submitStatus_withCommand]

/-- The state in which an accepted command starts. -/
def State.submitted (s : State) (m : Master) (op addr len : Nat) : State := (s.withCommand op addr len).submitAccepted m

theorem storeCommand_of_accepted {addr len : Nat} (hm : m ≠ .custodian)
    (h : s.submitStatus m op (addr % 2 ^ 23) (len % 2 ^ 12) = 0) : s.storeCommand m op addr len =
      ((s.submitted m op addr len).startCommand m (some s.freeSlot) op (addr % 2 ^ 23) (len % 2 ^ 12)).storeSync := by
  rw [storeCommand_eq, storeSubmit_of_accepted hm (by rwa [submitStatus_withCommand])]
  rfl

/-- The registers a SUBMIT may change. -/
def submitFrame : List Nat := submitRegs ++ [Reg.STOR_STATE, Reg.STOR_SPARE, Reg.STORD_OP 0, Reg.STORD_OP 1]

theorem OnlyRegs.storeSync (h : OnlyRegs submitFrame s t) : OnlyRegs submitFrame s t.storeSync :=
  h.trans ((onlyRegs_storeSync t).mono (by simp [submitFrame, submitRegs]))

/-- A state with another count of free values. -/
def State.withFree (s : State) (n : Nat) : State := { s with freeCtr := n }

theorem onlyRegs_withFree {l : List Nat} (h : OnlyRegs l s t) (n : Nat) : OnlyRegs l (s.withFree n) (t.withFree n) :=
  h.map (fun u => u.withFree n) rfl fun _ => rfl

theorem openTaken_false (s : State) : s.openTaken false = s.withFree (s.freeCtr + 1) := rfl

theorem rd_withFree (s : State) (n a : Nat) : (s.withFree n).rd a = s.rd a := rd_congr rfl a

theorem rd_countBusy_ne (s : State) (code : Nat) (h : a ≠ Reg.STOR_COUNT2) : (s.countBusy code).rd a = s.rd a := by
  unfold State.countBusy
  split
  · exact rd_satAdd_ne _ _ _ _ h
  · rfl

theorem rd_submitRefused_ne (s : State) (m : Master) (code : Nat) (h : a ≠ Reg.STOR_ACCEPT) :
    (s.submitRefused m code).rd a = s.rd a := by
  rw [State.submitRefused, rd_wr_ne _ _ h, openTaken_false, rd_withFree]

/-- The state that a refused command leaves. -/
def State.refusedWith (s : State) (m : Master) (op addr len code : Nat) : State :=
  (((s.withCommand op addr len).submitRefused m code).countBusy code).storeSync

theorem rd_refusedWith_ne {code addr len : Nat} (ha : a ∉ [Reg.STOR_STATE, Reg.STOR_SPARE, Reg.STORD_OP 0, Reg.STORD_OP 1])
    (hc : a ≠ Reg.STOR_COUNT2) (h : a ≠ Reg.STOR_ACCEPT) :
    (s.refusedWith m op addr len code).rd a = (s.withCommand op addr len).rd a := by
  rw [State.refusedWith, rd_storeSync_ne _ ha, rd_countBusy_ne _ _ hc, rd_submitRefused_ne _ _ _ h]

theorem acceptSum (c v i q : Nat) : c + v * 2 ^ 8 + i * 2 ^ 16 + q * 2 ^ 24 = c + v * 256 + (i + q * 256) * 65536 := by
  omega

theorem acceptSum_masked (c i q : Nat) : c + i * 65536 + q * 16777216 = c + (i + q * 256) * 65536 := by omega

theorem accept_refusedWith {code addr len : Nat} (hcode : code < 16) :
    (s.refusedWith m op addr len code).rd Reg.STOR_ACCEPT &&& 0xFFFFF8FF =
      word (code + masterId m * 65536 + (s.rdF Reg.STOR_ACCEPT 24 8 + 1) % 256 * 16777216) := by
  have hseq : (s.withCommand op addr len).rdF Reg.STOR_ACCEPT 24 8 = s.rdF Reg.STOR_ACCEPT 24 8 := by
    unfold State.withCommand
    rw [rdF_wrF_of_ne _ _ _ _ (by decide), rdF_wrF_of_ne _ _ _ _ (by decide), rdF_wrF_of_ne _ _ _ _ (by decide)]
  have hslot : (s.withCommand op addr len).openVal false (s.withCommand op addr len).freeSlot 8 < 8 :=
    openVal_lt _ (by simp) (by decide)
  have hmask := word_accept_masked (c := masterId m + (s.rdF Reg.STOR_ACCEPT 24 8 + 1) % 256 * 256) (by omega : code < 256)
    hslot
  rw [State.refusedWith, rd_storeSync_ne _ (by decide), rd_countBusy_ne _ _ (by decide), State.submitRefused, rd_wr_same,
    hseq, acceptSum, hmask, ← acceptSum_masked]

theorem command_refusedWith {code addr len : Nat} (hop : op < 16) :
    (s.refusedWith m op addr len code).rdF Reg.STOR_CMD_OP 0 4 = op ∧
      (s.refusedWith m op addr len code).rdF Reg.STOR_CMD_ADDR 0 23 = addr % 2 ^ 23 := by
  constructor
  · rw [rdF_congr (rd_refusedWith_ne (by decide) (by decide) (by decide)), State.withCommand,
      rdF_wrF_of_ne _ _ _ _ (by decide), rdF_wrF_of_ne _ _ _ _ (by decide), rdF_wrF_same _ _ (by decide)]
    omega
  · rw [rdF_congr (rd_refusedWith_ne (by decide) (by decide) (by decide)), State.withCommand,
      rdF_wrF_of_ne _ _ _ _ (by decide), rdF_wrF_same _ _ (by decide)]

theorem count2_withCommand (op addr len : Nat) : (s.withCommand op addr len).rd Reg.STOR_COUNT2 = s.rd Reg.STOR_COUNT2 := by
  unfold State.withCommand
  rw [rd_wrF_ne _ _ _ _ (by decide), rd_wrF_ne _ _ _ _ (by decide), rd_wrF_ne _ _ _ _ (by decide)]

theorem busy_refusedWith {code addr len : Nat} :
    (code = 2 → (s.refusedWith m op addr len code).rdF Reg.STOR_COUNT2 16 8 =
        min (s.rdF Reg.STOR_COUNT2 16 8 + 1) 255) ∧
      (code ≠ 2 → (s.refusedWith m op addr len code).rd Reg.STOR_COUNT2 = s.rd Reg.STOR_COUNT2) := by
  have hcount : ((s.withCommand op addr len).submitRefused m code).rd Reg.STOR_COUNT2 = s.rd Reg.STOR_COUNT2 := by
    rw [rd_submitRefused_ne _ _ _ (by decide), count2_withCommand]
  constructor
  · intro h
    rw [State.refusedWith, rdF_congr (rd_storeSync_ne _ (by decide)), State.countBusy, if_pos h,
      rdF_satAdd_same _ (by decide), rdF_congr hcount]
    rfl
  · intro h
    rw [State.refusedWith, rd_storeSync_ne _ (by decide), State.countBusy, if_neg h, hcount]

theorem onlyRegs_refusedWith (s : State) (m : Master) (op addr len code : Nat) :
    OnlyRegs submitFrame (s.withFree (s.freeCtr + 1)) (s.refusedWith m op addr len code) := by
  have hcmd : OnlyRegs submitFrame s (s.withCommand op addr len) :=
    (onlyRegs_withCommand s op addr len).mono (by simp [submitFrame])
  have hrefused : OnlyRegs submitFrame (s.withFree (s.freeCtr + 1)) ((s.withCommand op addr len).submitRefused m code) := by
    unfold State.submitRefused
    rw [openTaken_false]
    exact (onlyRegs_withFree hcmd _).wr (by simp [submitFrame, submitRegs])
  refine OnlyRegs.storeSync ?_
  unfold State.countBusy
  split
  · exact hrefused.satAdd (by simp [submitFrame, submitRegs])
  · exact hrefused

theorem freeCtr_refusedWith {code addr len : Nat} : (s.refusedWith m op addr len code).freeCtr = s.freeCtr + 1 :=
  (onlyRegs_refusedWith s m op addr len code).eq_of_indep State.freeCtr fun _ => rfl

/-! ### An accepted command -/

theorem rd_submitted_ne {addr len : Nat} (h : a ∉ submitRegs) : (s.submitted m op addr len).rd a = s.rd a := by
  have ha : a ≠ Reg.STOR_ACCEPT := fun e => h (by simp [e, submitRegs])
  rw [State.submitted, State.submitAccepted, rd_holdSlot, rd_wr_ne _ _ ha, rd_withCommand_ne h]

theorem store_withCommand (s : State) (op addr len : Nat) : (s.withCommand op addr len).store = s.store := by
  simp only [State.withCommand, wrF_store]

theorem store_holdSlot (s : State) (n : Nat) : (s.holdSlot n).store =
    { s.store with patrol := stopRead s.store.patrol, held := s.store.held ++ [n] } := rfl

theorem freeSlot_congr (h : t.store = s.store) : t.freeSlot = s.freeSlot := by
  unfold State.freeSlot
  rw [h]

theorem store_submitted (s : State) (m : Master) (op addr len : Nat) : (s.submitted m op addr len).store =
    { s.store with patrol := stopRead s.store.patrol, held := s.store.held ++ [s.freeSlot] } := by
  rw [State.submitted, State.submitAccepted, store_holdSlot, wr_store, store_withCommand, freeSlot_congr (store_withCommand _ _ _ _)]

theorem physOf_congr (hmap : t.store.map = s.store.map) (hfactory : t.store.factory = s.store.factory) (l : Nat) :
    t.physOf l = s.physOf l := by
  unfold State.physOf State.mapEntry
  rw [hmap, hfactory]

theorem physOf_submitted (addr len l : Nat) : (s.submitted m op addr len).physOf l = s.physOf l :=
  physOf_congr (by rw [store_submitted]) (by rw [store_submitted]) l

theorem accept_submitted (s : State) (m : Master) (op addr len : Nat) :
    (s.submitted m op addr len).rd Reg.STOR_ACCEPT =
      word (s.freeSlot * 256 + masterId m * 65536 + (s.rdF Reg.STOR_ACCEPT 24 8 + 1) % 256 * 16777216) := by
  have hseq : (s.withCommand op addr len).rdF Reg.STOR_ACCEPT 24 8 = s.rdF Reg.STOR_ACCEPT 24 8 := by
    unfold State.withCommand
    rw [rdF_wrF_of_ne _ _ _ _ (by decide), rdF_wrF_of_ne _ _ _ _ (by decide), rdF_wrF_of_ne _ _ _ _ (by decide)]
  rw [State.submitted, State.submitAccepted, rd_holdSlot, rd_wr_same, hseq, Nat.zero_add]
  rfl

theorem running_stopRead (p : Option PatrolRead) : ∀ q ∈ stopRead p, q.running = false := by
  cases p with
  | none => exact fun q h => absurd h (by simp [stopRead])
  | some r =>
    intro q h
    simp only [stopRead, Option.mem_def, Option.some.injEq] at h
    rw [← h]

theorem OnlyRegs.withStore {l : List Nat} (x : StoreSt) (h : OnlyRegs l s t) :
    OnlyRegs l { s with store := x } { t with store := x } :=
  h.map (fun u => { u with store := x }) rfl fun _ => rfl

theorem onlyRegs_submitted (s : State) (m : Master) (op addr len : Nat) :
    OnlyRegs submitFrame { s with store := (s.submitted m op addr len).store } (s.submitted m op addr len) :=
  OnlyRegs.withStore _ (((onlyRegs_withCommand s op addr len).mono (by simp [submitFrame])).wr
    (by simp [submitFrame, submitRegs]))

/-- A command that starts with an operation. -/
theorem onlyRegs_setOp_submitted (s : State) (m : Master) (op addr len : Nat) (o : LongOp) :
    OnlyRegs submitFrame { s with store := ((s.submitted m op addr len).setOp o).storeSync.store }
      ((s.submitted m op addr len).setOp o).storeSync := by
  rw [store_storeSync]
  exact OnlyRegs.storeSync (OnlyRegs.withStore (s := { s with store := (s.submitted m op addr len).store }) _
    (onlyRegs_submitted s m op addr len))

/-- The state of the die but for what a SUBMIT itself changes. -/
def StoreSt.submitted (x : StoreSt) (p : Option PatrolRead) (l : List Nat) : StoreSt := { x with patrol := p, held := l }

section

variable {p : Option PatrolRead} {l : List Nat}

theorem planeBusy_congr (h : t.store = s.store.submitted p l) (k : Nat) : t.planeBusy k = s.planeBusy k :=
  (congrArg (fun x => State.planeBusy { t with store := x } k) h).trans rfl

theorem storeBad_congr (h : t.store = s.store.submitted p l) (off k : Nat) : t.storeBad off k = s.storeBad off k :=
  (congrArg (fun x => State.storeBad { t with store := x } off k) h).trans rfl

theorem flashAt_congr (h : t.store = s.store.submitted p l) (k i : Nat) : t.flashAt k i = s.flashAt k i :=
  (congrArg (fun x => State.flashAt { t with store := x } k i) h).trans rfl

theorem refreshPlan_congr (hv : t.variant = s.variant) (h : t.store = s.store.submitted p l) (k : Nat) :
    t.refreshPlan k = s.refreshPlan k :=
  (congrArg (fun x : Variant × StoreSt => State.refreshPlan { t with variant := x.1, store := x.2 } k)
    (show (t.variant, t.store) = (s.variant, s.store.submitted p l) by rw [hv, h])).trans rfl

end

theorem variant_submitted (s : State) (m : Master) (op addr len : Nat) : (s.submitted m op addr len).variant = s.variant :=
  (onlyRegs_submitted s m op addr len).eq_of_indep State.variant fun _ => rfl

theorem psGeom_submitted (s : State) (m : Master) (op addr len : Nat) : (s.submitted m op addr len).psGeom = s.psGeom := by
  unfold State.psGeom
  rw [rdF_congr (rd_submitted_ne (by decide)), rdF_congr (rd_submitted_ne (by decide))]

theorem psState_submitted (s : State) (m : Master) (op addr len k : Nat) :
    (s.submitted m op addr len).psState k = s.psState k :=
  rdF_congr (rd_submitted_ne (by decide)) _ _

theorem store_psTouch (s : State) (l : Nat) : (s.psTouch l).store = s.store := by
  unfold State.psTouch
  split
  · rfl
  · split
    · exact wrF_store _ _ _ _ _
    · rfl

theorem rd_psTouch_ne (s : State) (l : Nat) (h : a ≠ Reg.STOR_PS_STATE) : (s.psTouch l).rd a = s.rd a := by
  unfold State.psTouch
  split
  · rfl
  · split
    · exact rd_wrF_ne _ _ _ _ h
    · rfl

/-! ### How each command starts (R415, R446 to R448) -/

variable {addr len : Nat}

theorem startCommand_erase (s : State) (m : Master) (n addr len : Nat) : s.startCommand m (some n) 1 addr len =
    s.setOp { op := 1, slot := some n, sector := addr / 2048, plane := s.physOf (addr / 2048) % 2, state := .running
              master := m, stages := [.erase (s.physOf (addr / 2048))] } := rfl

theorem startCommand_program (s : State) (m : Master) (n addr len : Nat) : s.startCommand m (some n) 2 addr len =
    s.setOp { op := 2, slot := some n, sector := addr / 2048, plane := s.physOf (addr / 2048) % 2, state := .loading
              master := m, addr := addr, len := len } := rfl

theorem startCommand_check_waits (h : s.planeBusy (s.physOf (addr / 2048) % 2) = true) :
    s.startCommand m (some n) 3 addr len =
      { s with store := { s.store with checks := s.store.checks ++ [(n, addr / 2048)] } } := if_pos h

theorem startCommand_check (h : s.planeBusy (s.physOf (addr / 2048) % 2) = false) :
    s.startCommand m (some n) 3 addr len = s.runCheck n (addr / 2048) :=
  if_neg (show ¬ s.planeBusy (s.physOf (addr / 2048) % 2) = true by simp [h])

theorem runCheck_blank {l : Nat} (h : ∀ i < 256, (s.flashAt (s.physOf l) i).erased = true) :
    s.runCheck n l = (s.psTouch l).endCommand (some n) 0 0 := by
  have hf : (List.range 256).find? (fun i => !(s.flashAt (s.physOf l) i).erased) = none := by
    simpa using h
  simp only [State.runCheck, hf]

theorem runCheck_notBlank {l i : Nat} (hi : i < 256) (hw : (s.flashAt (s.physOf l) i).erased = false)
    (h : ∀ j < i, (s.flashAt (s.physOf l) j).erased = true) :
    s.runCheck n l = (s.psTouch l).endCommand (some n) 8 (l * 2048 + 8 * i) := by
  have hf : (List.range 256).find? (fun i => !(s.flashAt (s.physOf l) i).erased) = some i :=
    find?_range_eq_of_lowest hi (by simp [hw]) fun j hj => by simp [h j hj]
  simp only [State.runCheck, hf]

theorem noteRead_of_good {off k : Nat} (h : s.storeBad off k = none) :
    ∃ c, s.noteRead off k = s.satAdd Reg.STOR_COUNT 0 16 c := by
  unfold State.noteRead
  rw [h]
  exact ⟨_, rfl⟩

theorem startCommand_refresh (h : s.storeBad (addr / 2048 * 2048) 2048 = none) :
    s.startCommand m (some n) 4 addr len =
      (s.noteRead (addr / 2048 * 2048) 2048).startRefresh (addr / 2048) (some n) 4 := by
  unfold State.startCommand
  have hl : (s.cmdSectors 4 addr).headD 0 = addr / 2048 := rfl
  simp only [hl, h]

theorem startRefresh_of_none {l o : Nat} (h : s.refreshPlan l = none) : s.startRefresh l (some n) o =
    ((s.setB Reg.STOR_STATE 11 true).psTouch l).endCommand (some n) 10 (l * 2048) := by
  unfold State.startRefresh
  rw [h]

/-- The operation that a REFRESH starts. -/
def refreshOp (o n l plane : Nat) (g : List Stage) (b : Bool) : LongOp :=
  { op := o, slot := some n, sector := l, plane := plane, state := .running, stages := g, inPlace := b }

theorem startRefresh_of_some {l o : Nat} {g : List Stage} {b : Bool} (h : s.refreshPlan l = some (g, b)) :
    s.startRefresh l (some n) o = s.spareEvent ((s.settleOp g).2.setOp
      (refreshOp o n l (s.physOf l % 2) (s.settleOp g).1 b)) := by
  unfold State.startRefresh
  rw [h]
  rfl

theorem store_spareEvent (s t : State) : (s.spareEvent t).store = t.store := by
  unfold State.spareEvent
  exact eventIf_store _ _ _

/-- The operation that a PS_COMMIT starts. -/
def commitOp (m : Master) (n l plane k : Nat) : LongOp :=
  { op := 5, slot := some n, sector := l, plane := plane, state := .reading, master := m, addr := k }

theorem startCommand_commit {k : Nat} (hk : k < 16) (h : s.psState k = 1) : s.startCommand m (some n) 5 k len =
    s.setOp (commitOp m n ((s.cmdSectors 5 k).headD 0) (s.physOf ((s.cmdSectors 5 k).headD 0) % 2) k) := by
  have hmod : k % 16 = k := Nat.mod_eq_of_lt hk
  unfold State.startCommand
  simp only [hmod, h, if_true]
  rfl

theorem startCommand_commit_refused {k : Nat} (hk : k < 16) (h : s.psState k ≠ 1) :
    s.startCommand m (some n) 5 k len = s.endCommand (some n) 13 0 := by
  have hmod : k % 16 = k := Nat.mod_eq_of_lt hk
  unfold State.startCommand
  simp only [hmod, h, if_false]

theorem startCommand_retire_refused {k : Nat} (hk : k < 16) (h : s.psState k ≠ 2) :
    s.startCommand m (some n) 6 k len = s.endCommand (some n) 13 0 := by
  have hmod : k % 16 = k := Nat.mod_eq_of_lt hk
  unfold State.startCommand
  simp only [hmod, h, if_false]

/-- The operation that a PS_RETIRE starts. -/
def retireOp (m : Master) (n l p : Nat) : LongOp :=
  { op := 6, slot := some n, sector := l, plane := p % 2, state := .running, master := m, stages := [.prog p [(1, 0)]] }

theorem startCommand_retire {k b c : Nat} (hk : k < 16) (hg : s.psGeom = some (b, c)) (h : s.psState k = 2) :
    s.startCommand m (some n) 6 k len = s.setOp (retireOp m n (b + k * c) (s.physOf (b + k * c))) := by
  have hmod : k % 16 = k := Nat.mod_eq_of_lt hk
  have hl : (s.cmdSectors 6 k).headD 0 = b + k * c := by simp [State.cmdSectors, hg, hmod, List.range_succ]
  unfold State.startCommand
  simp only [hmod, h, hl, if_true]
  rfl

theorem flash_setOp (s : State) (o : LongOp) : (s.setOp o).store.flash = s.store.flash := rfl

/-! ### The instructions -/

theorem rdF_mod (s : State) (a lo len : Nat) : s.rdF a lo len % 2 ^ len = s.rdF a lo len :=
  Nat.mod_eq_of_lt (fld_lt _ _ _)

variable {x y : Word}

/-- Each of the six instructions submits its command. -/
theorem exec_storeForm {c : Instr} {op a len : Nat} (hl : s.locked m = false)
    (hc : (c, op, a, len) ∈ [(Instr.storeErase m x, 1, x.toNat % 2 ^ 23, s.rdF Reg.STOR_CMD_LEN 0 12),
      (.storeProgram m x y, 2, x.toNat % 2 ^ 23, y.toNat % 2 ^ 12),
      (.storeCheck m x, 3, x.toNat % 2 ^ 23, s.rdF Reg.STOR_CMD_LEN 0 12),
      (.storeRefresh m x, 4, x.toNat % 2 ^ 23, s.rdF Reg.STOR_CMD_LEN 0 12),
      (.psCommit m x, 5, x.toNat % 2 ^ 23, s.rdF Reg.STOR_CMD_LEN 0 12),
      (.psRetire m x, 6, x.toNat % 2 ^ 23, s.rdF Reg.STOR_CMD_LEN 0 12)]) :
    ∃ x' l', exec c s = .next (s.storeCommand m op x' l') ∧ a = x' % 2 ^ 23 ∧ len = l' % 2 ^ 12 ∧ op < 7 := by
  have hlen := (rdF_mod s Reg.STOR_CMD_LEN 0 12).symm
  simp only [List.mem_cons, Prod.mk.injEq, List.not_mem_nil, or_false] at hc
  rcases hc with ⟨rfl, rfl, rfl, rfl⟩ | ⟨rfl, rfl, rfl, rfl⟩ | ⟨rfl, rfl, rfl, rfl⟩ | ⟨rfl, rfl, rfl, rfl⟩ |
    ⟨rfl, rfl, rfl, rfl⟩ | ⟨rfl, rfl, rfl, rfl⟩
  · exact ⟨x.toNat, _, by simp [execStoreErase, hl], rfl, hlen, by decide⟩
  · exact ⟨x.toNat, y.toNat, by simp [execStoreProgram, hl], rfl, rfl, by decide⟩
  · exact ⟨x.toNat, _, by simp [execStoreCheck, hl], rfl, hlen, by decide⟩
  · exact ⟨x.toNat, _, by simp [execStoreRefresh, hl], rfl, hlen, by decide⟩
  · exact ⟨x.toNat, _, by simp [execPsCommit, hl], rfl, hlen, by decide⟩
  · exact ⟨x.toNat, _, by simp [execPsRetire, hl], rfl, hlen, by decide⟩

/-- A command whose length the register holds. -/
theorem storeCommand_of_accepted_reg {addr : Nat} (hm : m ≠ .custodian)
    (h : s.submitStatus m op (addr % 2 ^ 23) (s.rdF Reg.STOR_CMD_LEN 0 12) = 0) :
    s.storeCommand m op addr (s.rdF Reg.STOR_CMD_LEN 0 12) =
      ((s.submitted m op addr (s.rdF Reg.STOR_CMD_LEN 0 12)).startCommand m (some s.freeSlot) op (addr % 2 ^ 23)
        (s.rdF Reg.STOR_CMD_LEN 0 12)).storeSync := by
  rw [storeCommand_of_accepted hm (by rwa [rdF_mod]), rdF_mod]

/-- The state of a command with the register's length, before the status registers follow. -/
def State.started (s : State) (m : Master) (op addr : Nat) : State :=
  (s.submitted m op addr (s.rdF Reg.STOR_CMD_LEN 0 12)).startCommand m (some s.freeSlot) op (addr % 2 ^ 23)
    (s.rdF Reg.STOR_CMD_LEN 0 12)

theorem exec_storeCommand_of_accepted {c : Instr} (hl : s.locked m = false) (hm : m ≠ .custodian)
    (hc : (c, op) ∈ [(Instr.storeErase m x, 1), (.storeCheck m x, 3), (.storeRefresh m x, 4), (.psCommit m x, 5),
      (.psRetire m x, 6)])
    (h : s.submitStatus m op (x.toNat % 2 ^ 23) (s.rdF Reg.STOR_CMD_LEN 0 12) = 0) :
    exec c s = .next (s.started m op x.toNat).storeSync := by
  have hcmd := storeCommand_of_accepted_reg hm h
  simp only [List.mem_cons, Prod.mk.injEq, List.not_mem_nil, or_false] at hc
  rcases hc with ⟨rfl, rfl⟩ | ⟨rfl, rfl⟩ | ⟨rfl, rfl⟩ | ⟨rfl, rfl⟩ | ⟨rfl, rfl⟩
  · simp [execStoreErase, hl, hcmd, State.started]
  · simp [execStoreCheck, hl, hcmd, State.started]
  · simp [execStoreRefresh, hl, hcmd, State.started]
  · simp [execPsCommit, hl, hcmd, State.started]
  · simp [execPsRetire, hl, hcmd, State.started]

theorem exec_storeProgram_of_accepted (hl : s.locked m = false) (hm : m ≠ .custodian)
    (h : s.submitStatus m 2 (x.toNat % 2 ^ 23) (y.toNat % 2 ^ 12) = 0) :
    exec (.storeProgram m x y) s = .next ((s.submitted m 2 x.toNat y.toNat).startCommand m (some s.freeSlot) 2
      (x.toNat % 2 ^ 23) (y.toNat % 2 ^ 12)).storeSync := by
  simp [execStoreProgram, hl, storeCommand_of_accepted hm h]

/-- The store die in which a command starts. -/
theorem store_submitted_eq (s : State) (m : Master) (op addr len : Nat) : (s.submitted m op addr len).store =
    s.store.submitted (stopRead s.store.patrol) (s.store.held ++ [s.freeSlot]) := store_submitted s m op addr len

theorem started_check {addr : Nat} (h : s.planeBusy (s.physOf (addr % 2 ^ 23 / 2048) % 2) = false) :
    s.started m 3 addr = (s.submitted m 3 addr (s.rdF Reg.STOR_CMD_LEN 0 12)).runCheck s.freeSlot (addr % 2 ^ 23 / 2048) := by
  rw [State.started, startCommand_check]
  rw [physOf_submitted, planeBusy_congr (store_submitted_eq s m _ _ _), h]

theorem blank_submitted {op addr len l : Nat} (h : ∀ i < 256, (s.flashAt (s.physOf l) i).erased = true) :
    ∀ i < 256, ((s.submitted m op addr len).flashAt ((s.submitted m op addr len).physOf l) i).erased = true := by
  intro i hi
  rw [physOf_submitted, flashAt_congr (store_submitted_eq s m op addr len), h i hi]

theorem flash_psTouch_submitted (s : State) (m : Master) (op addr len l : Nat) :
    ((s.submitted m op addr len).psTouch l).store.flash = s.store.flash := by
  rw [store_psTouch, store_submitted]

theorem noteRead_submitted {op addr len off k : Nat} (h : s.storeBad off k = none) :
    ∃ c, (s.submitted m op addr len).noteRead off k = (s.submitted m op addr len).satAdd Reg.STOR_COUNT 0 16 c :=
  noteRead_of_good (by rw [storeBad_congr (store_submitted_eq s m op addr len), h])

theorem started_refresh {addr : Nat} (h : s.storeBad (addr % 2 ^ 23 / 2048 * 2048) 2048 = none) :
    s.started m 4 addr = ((s.submitted m 4 addr (s.rdF Reg.STOR_CMD_LEN 0 12)).noteRead (addr % 2 ^ 23 / 2048 * 2048)
      2048).startRefresh (addr % 2 ^ 23 / 2048) (some s.freeSlot) 4 := by
  rw [State.started, startCommand_refresh]
  rw [storeBad_congr (store_submitted_eq s m _ _ _), h]

theorem refreshPlan_counted (t : State) (c l : Nat) : (t.satAdd Reg.STOR_COUNT 0 16 c).refreshPlan l = t.refreshPlan l := rfl

theorem physOf_counted (t : State) (c l : Nat) : (t.satAdd Reg.STOR_COUNT 0 16 c).physOf l = t.physOf l := rfl

theorem opAt_setOp_refreshOp (s : State) (o n l p : Nat) (g : List Stage) (b : Bool) :
    (s.setOp (refreshOp o n l p g b)).opAt p = some (refreshOp o n l p g b) := opAt_setOp _

end

end Sys2Proof.Machine
end

section

open Sys2Proof Sys2Proof.Machine

/-- Settles O44: the checks are the same before and after the command registers are set; then each command starts by
its own row. -/
theorem storeCommandsPassTheirChecksAndStart : Obligations.StoreCommandsPassTheirChecksAndStart := by
  unfold Obligations.StoreCommandsPassTheirChecksAndStart
  refine ⟨?locked, ?refused, ?accepted, ?erase, ?program, ?blank, ?notBlank, ?waits, ?noSpare, ?refresh, ?noCommit,
    ?commit, ?noRetire, ?retire⟩
  case locked =>
    intro c op a len m x y s hl hc
    simp only [List.mem_cons, Prod.mk.injEq, List.not_mem_nil, or_false] at hc
    rcases hc with ⟨rfl, -⟩ | ⟨rfl, -⟩ | ⟨rfl, -⟩ | ⟨rfl, -⟩ | ⟨rfl, -⟩ | ⟨rfl, -⟩
    · simp [execStoreErase, hl]
    · simp [execStoreProgram, hl]
    · simp [execStoreCheck, hl]
    · simp [execStoreRefresh, hl]
    · simp [execPsCommit, hl]
    · simp [execPsRetire, hl]
  case refused =>
    intro c op a len m x y s hl hc hm hst
    obtain ⟨x', l', hexec, rfl, rfl, hop⟩ := exec_storeForm hl hc
    obtain ⟨hbusy, hfree⟩ := busy_refusedWith (s := s) (m := m) (op := op) (addr := x') (len := l')
      (code := s.submitStatus m op (x' % 2 ^ 23) (l' % 2 ^ 12))
    obtain ⟨hcop, hcaddr⟩ := command_refusedWith (s := s) (m := m) (op := op) (addr := x') (len := l')
      (code := s.submitStatus m op (x' % 2 ^ 23) (l' % 2 ^ 12)) (by omega)
    refine ⟨s.refusedWith m op x' l' (s.submitStatus m op (x' % 2 ^ 23) (l' % 2 ^ 12)), ?_,
      accept_refusedWith (submitStatus_lt _ _ _ _ _), hbusy, hfree, hcop, hcaddr, ?_⟩
    · rw [hexec, storeCommand_of_refused hm hst, State.refusedWith]
    · rw [freeCtr_refusedWith]
      exact onlyRegs_refusedWith s m op x' l' _
  case accepted =>
    intro c op a len m x y s hl hc hm hst
    obtain ⟨x', l', hexec, rfl, rfl, -⟩ := exec_storeForm hl hc
    have hkept := (KeepsSubmit.refl (s.submitted m op x' l')).startCommand (freeSlot_lt s) m op (x' % 2 ^ 23) (l' % 2 ^ 12)
    refine ⟨_, hexec.trans (congrArg _ (storeCommand_of_accepted hm hst)), ?_, ?_, ?_⟩
    · rw [rd_storeSync_ne _ (by decide), hkept.accept, accept_submitted]
    · rw [store_storeSync, hkept.held, store_submitted]
    · rw [store_storeSync, hkept.patrol, store_submitted]
      exact running_stopRead _
  case erase =>
    intro m x s hl hm hst
    refine ⟨_, exec_storeCommand_of_accepted hl hm (by simp) hst, ?_, ?_, ?_⟩
    · rw [State.started, startCommand_erase, opAt_congr (store_storeSync _), physOf_submitted]
      exact opAt_setOp _
    · rw [State.started, startCommand_erase, store_storeSync, flash_setOp, store_submitted]
    · rw [State.started, startCommand_erase]
      exact onlyRegs_setOp_submitted s m 1 _ _ _
  case program =>
    intro m x y s hl hm hst
    refine ⟨_, exec_storeProgram_of_accepted hl hm hst, ?_, ?_, ?_⟩
    · rw [startCommand_program, opAt_congr (store_storeSync _), physOf_submitted]
      exact opAt_setOp _
    · rw [startCommand_program, store_storeSync, flash_setOp, store_submitted]
    · rw [startCommand_program]
      exact onlyRegs_setOp_submitted s m 2 _ _ _
  case blank =>
    intro m x s hl hm hst hbusy hblank
    obtain ⟨hres, -, hdone, herr, hev, hflash⟩ := endCommand_shown
      ((s.submitted m 3 x.toNat (s.rdF Reg.STOR_CMD_LEN 0 12)).psTouch (x.toNat % 2 ^ 23 / 2048)) 0 (freeSlot_lt s)
      (status := 0) (by decide) (by decide)
    refine ⟨_, exec_storeCommand_of_accepted hl hm (by simp) hst, ?_⟩
    rw [started_check hbusy, runCheck_blank (blank_submitted hblank)]
    exact ⟨hres, hdone, herr, hev, hflash.trans (flash_psTouch_submitted _ _ _ _ _ _)⟩
  case notBlank =>
    intro i m x s hl hm hst hbusy hi hword hblank
    obtain ⟨hres, haddr, hdone, herr, hev, hflash⟩ := endCommand_shown
      ((s.submitted m 3 x.toNat (s.rdF Reg.STOR_CMD_LEN 0 12)).psTouch (x.toNat % 2 ^ 23 / 2048))
      (x.toNat % 2 ^ 23 / 2048 * 2048 + 8 * i) (freeSlot_lt s) (status := 8) (by decide) (by decide)
    refine ⟨_, exec_storeCommand_of_accepted hl hm (by simp) hst, ?_⟩
    rw [started_check hbusy, runCheck_notBlank hi (by rw [physOf_submitted, flashAt_congr (store_submitted_eq s m _ _ _), hword])
      (fun j hj => by rw [physOf_submitted, flashAt_congr (store_submitted_eq s m _ _ _), hblank j hj])]
    exact ⟨hres, hdone, herr, (haddr rfl).trans (Nat.mod_eq_of_lt (by omega)), hev,
      hflash.trans (flash_psTouch_submitted _ _ _ _ _ _)⟩
  case waits =>
    intro m x s hl hm hst hbusy
    refine ⟨_, exec_storeCommand_of_accepted hl hm (by simp) hst, ?_⟩
    rw [State.started, startCommand_check_waits (by rw [physOf_submitted, planeBusy_congr (store_submitted_eq s m _ _ _), hbusy]),
      store_storeSync]
    constructor
    · rw [store_submitted]
    · rw [store_submitted]
  case noSpare =>
    intro m x s hl hm hst hgood hplan
    obtain ⟨c, hnote⟩ := noteRead_submitted (m := m) (op := 4) (addr := x.toNat) (len := s.rdF Reg.STOR_CMD_LEN 0 12) hgood
    have hplan' : ((s.submitted m 4 x.toNat (s.rdF Reg.STOR_CMD_LEN 0 12)).satAdd Reg.STOR_COUNT 0 16 c).refreshPlan
        (x.toNat % 2 ^ 23 / 2048) = none := by
      rw [refreshPlan_counted, refreshPlan_congr (variant_submitted s m _ _ _) (store_submitted_eq s m _ _ _), hplan]
    obtain ⟨hres, -, hdone, herr, -, hflash⟩ := endCommand_shown
      ((((s.submitted m 4 x.toNat (s.rdF Reg.STOR_CMD_LEN 0 12)).satAdd Reg.STOR_COUNT 0 16 c).setB Reg.STOR_STATE 11
        true).psTouch (x.toNat % 2 ^ 23 / 2048)) (x.toNat % 2 ^ 23 / 2048 * 2048) (freeSlot_lt s)
      (status := 10) (by decide) (by decide)
    refine ⟨_, exec_storeCommand_of_accepted hl hm (by simp) hst, ?_⟩
    rw [started_refresh hgood, hnote, startRefresh_of_none hplan']
    refine ⟨hres, hdone, herr, ?_, ?_⟩
    · have hheld := held_lt_of_accepted hm hst
      obtain ⟨-, -, -, -, -, hstore⟩ := endCommand_recorded
        ((((s.submitted m 4 x.toNat (s.rdF Reg.STOR_CMD_LEN 0 12)).satAdd Reg.STOR_COUNT 0 16 c).setB Reg.STOR_STATE 11
          true).psTouch (x.toNat % 2 ^ 23 / 2048)) (x.toNat % 2 ^ 23 / 2048 * 2048) (freeSlot_lt s)
        (status := 10) (by decide) (by decide)
      have hn := freeSlot_lt s
      rw [blocked_storeSync, bit_congr (rd_endCommand_ne _ (by decide) (by decide)
          (by simp only [Reg.STOR_STATE, Reg.STOR_RESULT]; omega) (by decide)), bit_congr (rd_psTouch_ne _ _ (by decide)),
        bit_setB_same _ _ (by decide)]
      rw [hstore, store_psTouch, setB_store, satAdd_store, store_submitted, List.length_append]
      exact hheld
    · rw [hflash, store_psTouch, setB_store, satAdd_store, store_submitted]
  case refresh =>
    intro m x s hl hm hst hgood hplan
    obtain ⟨c, hnote⟩ := noteRead_submitted (m := m) (op := 4) (addr := x.toNat) (len := s.rdF Reg.STOR_CMD_LEN 0 12) hgood
    obtain ⟨⟨g, b⟩, hplan⟩ := Option.isSome_iff_exists.mp hplan
    have hplan' : ((s.submitted m 4 x.toNat (s.rdF Reg.STOR_CMD_LEN 0 12)).satAdd Reg.STOR_COUNT 0 16 c).refreshPlan
        (x.toNat % 2 ^ 23 / 2048) = some (g, b) := by
      rw [refreshPlan_counted, refreshPlan_congr (variant_submitted s m _ _ _) (store_submitted_eq s m _ _ _), hplan]
    refine ⟨_, exec_storeCommand_of_accepted hl hm (by simp) hst, ?_⟩
    rw [started_refresh hgood, hnote, startRefresh_of_some hplan', opAt_congr (store_storeSync _),
      opAt_congr (store_spareEvent _ _), physOf_counted, physOf_submitted, opAt_setOp_refreshOp]
    simp [refreshOp]
  case noCommit =>
    intro k m x s hl hm hk hlt hst hps
    subst hk
    obtain ⟨hres, -, hdone, herr, hev, hflash⟩ := endCommand_shown
      (s.submitted m 5 x.toNat (s.rdF Reg.STOR_CMD_LEN 0 12)) 0 (freeSlot_lt s) (status := 13) (by decide) (by decide)
    refine ⟨_, exec_storeCommand_of_accepted hl hm (by simp) hst, ?_⟩
    rw [State.started, startCommand_commit_refused hlt (by rwa [psState_submitted])]
    exact ⟨hres, hdone, herr, hev, by rw [hflash, store_submitted]⟩
  case commit =>
    intro k m x s hl hm hk hlt hst hps
    subst hk
    refine ⟨_, exec_storeCommand_of_accepted hl hm (by simp) hst, ?_⟩
    rw [State.started, startCommand_commit hlt (by rwa [psState_submitted]), store_storeSync]
    refine ⟨List.any_eq_true.mpr ⟨_, mem_ops_setOp _ _, by simp [commitOp]⟩, ?_⟩
    rw [flash_setOp, store_submitted]
  case noRetire =>
    intro k m x s hl hm hk hlt hst hps
    subst hk
    obtain ⟨hres, -, hdone, herr, hev, hflash⟩ := endCommand_shown
      (s.submitted m 6 x.toNat (s.rdF Reg.STOR_CMD_LEN 0 12)) 0 (freeSlot_lt s) (status := 13) (by decide) (by decide)
    refine ⟨_, exec_storeCommand_of_accepted hl hm (by simp) hst, ?_⟩
    rw [State.started, startCommand_retire_refused hlt (by rwa [psState_submitted])]
    exact ⟨hres, hdone, herr, hev, by rw [hflash, store_submitted]⟩
  case retire =>
    intro k b n m x s hl hm hk hlt hgeom hst hps
    subst hk
    refine ⟨_, exec_storeCommand_of_accepted hl hm (by simp) hst, ?_⟩
    rw [State.started, startCommand_retire hlt (by rwa [psGeom_submitted]) (by rwa [psState_submitted]), store_storeSync,
      physOf_submitted]
    refine ⟨List.any_eq_true.mpr ⟨_, mem_ops_setOp _ _, by simp [retireOp]⟩, ?_⟩
    rw [flash_setOp, store_submitted]

end

section
/-! PROOF. START and DROP of a release channel, its lock line, and the count of failures (15; R500 to R502, R515, R519,
R525, R526). -/

namespace Sys2Proof.Machine

section

variable {s t : State} {src other : Option Master} {m : Master} {ch : Nat}

/-! ### The release unit's part of the state -/

/-- A state with another cycle record. -/
def State.withCycle (s : State) (c : CycSt) : State := { s with cyc := c }

/-- A state with another state of the release unit. -/
def State.withRel (s : State) (r : RelSt) : State := { s with rel := r }

theorem rd_withCycle (s : State) (c : CycSt) (a : Nat) : (s.withCycle c).rd a = s.rd a := rd_congr rfl a

theorem rd_withRel (s : State) (r : RelSt) (a : Nat) : (s.withRel r).rd a = s.rd a := rd_congr rfl a

/-- A frame for states with another release unit and cycle record. -/
def RelFrame (l : List Nat) (s t : State) : Prop := OnlyRegs l ((s.withRel t.rel).withCycle t.cyc) t

theorem RelFrame.wr {l : List Nat} {a : Nat} {v : Word} (h : RelFrame l s t) (ha : a ∈ l) : RelFrame l s (t.wr a v) :=
  OnlyRegs.wr h ha

theorem RelFrame.withRel {l : List Nat} (h : RelFrame l s t) (r : RelSt) : RelFrame l s (t.withRel r) :=
  OnlyRegs.map (s := (s.withRel t.rel).withCycle t.cyc) (fun u => u.withRel r) h rfl fun _ => rfl

theorem RelFrame.withCycle {l : List Nat} (h : RelFrame l s t) (c : CycSt) : RelFrame l s (t.withCycle c) :=
  OnlyRegs.map (s := (s.withRel t.rel).withCycle t.cyc) (fun u => u.withCycle c) h rfl fun _ => rfl

theorem RelFrame.refl (l : List Nat) (s : State) : RelFrame l s s := OnlyRegs.refl l s

theorem locked_congr (h : t.cust = s.cust) (m : Master) : t.locked m = s.locked m := by
  unfold State.locked State.debugOpen
  rw [h]

theorem present_congr (h : t.variant = s.variant) (i : Nat) : t.present i = s.present i := by
  unfold State.present
  rw [h]

/-! ### START (R501, R502) -/

/-- The channel's plan entry is no Gen 2 channel of the 2.4 GHz path. -/
def State.relBadPlan (s : State) (ch : Nat) : Prop :=
  s.planCount ≤ s.rdF (Reg.REL_CH_CFG ch) 0 8 ∨ s.chanGen2 (s.rdF (Reg.REL_CH_CFG ch) 0 8) = false ∨
    s.chan24 (s.rdF (Reg.REL_CH_CFG ch) 0 8) = false

/-- A desk's lock has neither a pad nor a line. -/
def State.relNoLock (s : State) (ch : Nat) : Prop :=
  s.relDesk = true ∧ s.relGpio ch = false ∧ s.rel.lockSet.contains ch = false

theorem badPlan_iff : (decide (s.planCount ≤ s.rdF (Reg.REL_CH_CFG ch) 0 8) || !s.chanGen2 (s.rdF (Reg.REL_CH_CFG ch) 0 8) ||
    !s.chan24 (s.rdF (Reg.REL_CH_CFG ch) 0 8)) = true ↔ s.relBadPlan ch := by
  simp [State.relBadPlan, or_assoc]

theorem noLock_iff : (s.relDesk && !s.relGpio ch && !s.rel.lockSet.contains ch) = true ↔ s.relNoLock ch := by
  simp [State.relNoLock, and_assoc]

theorem relStartCode_off (h : s.enabled 5 = false ∨ s.relay ch = 0) : s.relStartCode ch = 1 := by
  unfold State.relStartCode
  have hoff : (!s.enabled 5 || s.relay ch == 0) = true := by simpa using h
  simp only [hoff, if_true]

/-- Past the first check, the others decide in their order. -/
theorem relStartCode_on (h5 : s.enabled 5 = true) (hr : s.relay ch ≠ 0) [Decidable (s.relBadPlan ch)]
    [Decidable (s.relNoLock ch)] : s.relStartCode ch =
      if s.relBadPlan ch then 2 else if s.relNoLock ch then 2 else if (s.relExch ch).isSome then 3 else 0 := by
  unfold State.relStartCode
  have hon : (!s.enabled 5 || s.relay ch == 0) = false := by simp [h5, hr]
  simp only [hon, Bool.false_eq_true, if_false, badPlan_iff, noLock_iff]

open Classical in
theorem relStartCode_badCfg (h5 : s.enabled 5 = true) (hr : s.relay ch ≠ 0) (h : s.relBadPlan ch ∨ s.relNoLock ch) :
    s.relStartCode ch = 2 := by
  rw [relStartCode_on h5 hr]
  rcases h with h | h
  · rw [if_pos h]
  · rw [if_pos h, ite_self]

open Classical in
theorem relStartCode_good (h5 : s.enabled 5 = true) (hr : s.relay ch ≠ 0) (hp : ¬ s.relBadPlan ch) (hl : ¬ s.relNoLock ch) :
    s.relStartCode ch = if (s.relExch ch).isSome then 3 else 0 := by
  rw [relStartCode_on h5 hr, if_neg hp, if_neg hl]

/-- What a START leaves, by its code. -/
def State.relStarted (s : State) (src : Option Master) (ch : Nat) : State :=
  if s.relStartCode ch = 0 then ((s.markStart src ch).relBegin ch).relResult src ch 0
  else (s.markStart src ch).relResult src ch (s.relStartCode ch)

theorem exec_relStart_of_present {ch : Fin 2} (hl : src.any s.locked = false) (hp : s.present 24 = true)
    (hd : s.droppedNow src ch = false) : exec (.relStart src ch) s = .next (s.relStarted src ch) := by
  simp only [exec_relStart, execRelStart, hl, hp, hd, State.relStarted, Bool.not_true, Bool.false_eq_true, if_false]
  split <;> rfl

theorem relFrame_markStart (l : List Nat) (s : State) (src : Option Master) (ch : Nat) : RelFrame l s (s.markStart src ch) :=
  (RelFrame.refl l s).withCycle _

theorem rd_markStart (s : State) (src : Option Master) (ch a : Nat) : (s.markStart src ch).rd a = s.rd a := rd_congr rfl a

/-- A refused START of a master shows its code. -/
theorem relStarted_refused_master {code : Nat} (hc : s.relStartCode ch = code) (h0 : code ≠ 0) :
    (s.relStarted (some m) ch).rd Reg.REL_RESULT = word (code + ch * 8 + masterId m * 16) ∧
      OnlyRegs [Reg.REL_RESULT] (s.withCycle (s.relStarted (some m) ch).cyc) (s.relStarted (some m) ch) := by
  rw [State.relStarted, hc, if_neg h0]
  exact ⟨rd_wr_same _ _ _, (relFrame_markStart _ s (some m) ch).wr (by simp)⟩

/-- A refused START of a fabric task is counted. -/
theorem relStarted_refused_task {code : Nat} (hc : s.relStartCode ch = code) (h0 : code ≠ 0) :
    (s.relStarted none ch).rdF (Reg.REL_CH_COUNT ch) 24 8 = min (s.rdF (Reg.REL_CH_COUNT ch) 24 8 + 1) 255 ∧
      OnlyRegs [Reg.REL_CH_COUNT ch] (s.withCycle (s.relStarted none ch).cyc) (s.relStarted none ch) := by
  rw [State.relStarted, hc, if_neg h0, State.relResult, if_neg h0]
  exact ⟨(rdF_satAdd_same _ (by decide)).trans (by rw [rdF_congr (rd_markStart s none ch _)]; rfl),
    (relFrame_markStart _ s none ch).wr (by simp)⟩

/-- The channels started, with one more. -/
def State.startedWith (s : State) (ch : Nat) : List Nat :=
  if s.rel.started.contains ch then s.rel.started else s.rel.started ++ [ch]

theorem mem_startedWith (s : State) (ch : Nat) : ch ∈ s.startedWith ch := by
  unfold State.startedWith
  split
  · next h => simpa using h
  · simp

theorem relBegin_eq (s : State) (ch : Nat) : s.relBegin ch =
    if s.relState ch = 0 then (s.withRel { s.rel with started := s.startedWith ch }).setRelState ch 1
    else s.withRel { s.rel with started := s.startedWith ch } := rfl

theorem rel_relBegin (s : State) (ch : Nat) : (s.relBegin ch).rel = { s.rel with started := s.startedWith ch } := by
  rw [relBegin_eq]
  split <;> rfl

theorem rd_relBegin_ne {a : Nat} (h : a ≠ Reg.REL_CH_STATUS ch) : (s.relBegin ch).rd a = s.rd a := by
  rw [relBegin_eq]
  split
  · rw [State.setRelState, rd_wrF_ne _ _ _ _ h, rd_withRel]
  · rw [rd_withRel]

theorem relState_relBegin (s : State) (ch : Nat) :
    (s.relBegin ch).relState ch = if s.relState ch = 0 then 1 else s.relState ch := by
  rw [relBegin_eq]
  split
  · exact rdF_wrF_same _ _ (by decide)
  · exact rdF_congr (rd_withRel _ _ _) 0 2

theorem relFrame_relBegin {l : List Nat} (h : RelFrame l s t) (hl : Reg.REL_CH_STATUS ch ∈ l) :
    RelFrame l s (t.relBegin ch) := by
  rw [relBegin_eq]
  split
  · exact (h.withRel _).wr hl
  · exact h.withRel _

theorem result_ne_status (ch : Nat) : Reg.REL_CH_STATUS ch ≠ Reg.REL_RESULT := by
  simp only [Reg.REL_CH_STATUS, Reg.REL_RESULT]
  omega

theorem count_ne_status (ch : Nat) : Reg.REL_CH_COUNT ch ≠ Reg.REL_CH_STATUS ch := by
  simp only [Reg.REL_CH_STATUS, Reg.REL_CH_COUNT]
  omega

theorem count_ne_result (ch : Nat) : Reg.REL_CH_COUNT ch ≠ Reg.REL_RESULT := by
  simp only [Reg.REL_RESULT, Reg.REL_CH_COUNT]
  omega

theorem status_relResult (s : State) (src : Option Master) (ch code : Nat) :
    (s.relResult src ch code).rd (Reg.REL_CH_STATUS ch) = s.rd (Reg.REL_CH_STATUS ch) := by
  unfold State.relResult
  split
  · exact rd_wr_ne _ _ (result_ne_status ch)
  · split
    · rfl
    · exact rd_satAdd_ne _ _ _ _ (count_ne_status ch).symm

theorem rel_relResult (s : State) (src : Option Master) (ch code : Nat) : (s.relResult src ch code).rel = s.rel := by
  unfold State.relResult
  split
  · rfl
  · split <;> rfl

/-- The channel of an accepted START. -/
theorem relStarted_accepted (hc : s.relStartCode ch = 0) :
    (s.relStarted src ch).relState ch = (if s.relState ch = 0 then 1 else s.relState ch) ∧
      ch ∈ (s.relStarted src ch).rel.started ∧
      (s.relStarted src ch).rel = { s.rel with started := (s.relStarted src ch).rel.started } := by
  rw [State.relStarted, if_pos hc]
  refine ⟨?_, ?_, ?_⟩
  · rw [State.relState, rdF_congr (status_relResult _ _ _ _), ← State.relState, relState_relBegin, State.relState,
      rdF_congr (rd_markStart _ _ _ _), ← State.relState]
  · rw [rel_relResult, rel_relBegin]
    exact mem_startedWith _ _
  · rw [rel_relResult, rel_relBegin]
    rfl

theorem relFrame_relStarted (s : State) (src : Option Master) (ch : Nat) (hc : s.relStartCode ch = 0) :
    RelFrame (match src with | some _ => [Reg.REL_RESULT, Reg.REL_CH_STATUS ch] | none => [Reg.REL_CH_STATUS ch]) s
      (s.relStarted src ch) := by
  rw [State.relStarted, if_pos hc]
  cases src with
  | some m => exact (relFrame_relBegin (relFrame_markStart _ s _ ch) (by simp)).wr (by simp)
  | none => exact relFrame_relBegin (relFrame_markStart _ s _ ch) (by simp)

/-- The frame of an accepted START: of the unit's state only the channels started. -/
theorem onlyRegs_relStarted {l : List Nat} (h : RelFrame l s (s.relStarted src ch)) (hc : s.relStartCode ch = 0) :
    OnlyRegs l ((s.withRel { s.rel with started := (s.relStarted src ch).rel.started }).withCycle (s.relStarted src ch).cyc)
      (s.relStarted src ch) := by
  obtain ⟨-, -, hrel⟩ := relStarted_accepted (src := src) hc
  unfold RelFrame at h
  rwa [hrel] at h

/-! ### DROP (R500, R526) -/

/-- A DROP of another origin leaves a START of the cycle as if it had not come. -/
theorem unstart_of_none (h : s.cyc.relStarts.any (fun p => p.1 == ch && p.2.1 != src) = false) : s.unstart src ch = s := by
  have hf : s.cyc.relStarts.find? (fun p => p.1 == ch && p.2.1 != src) = none := by
    rw [List.find?_eq_none]
    intro p hp hq
    have := List.any_eq_false.mp h p hp
    contradiction
  unfold State.unstart
  rw [hf]

/-- The channel's exchange is marked, and the DROP noted. -/
def State.noteDrop (s : State) (src : Option Master) (ch : Nat) : State :=
  (s.withCycle { s.cyc with relDrops := (ch, src) :: s.cyc.relDrops }).markExch ch (fun e => { e with dropped := true })

theorem exec_relDrop_of_present {ch : Fin 2} (hl : src.any s.locked = false) (hp : s.present 24 = true) :
    exec (.relDrop src ch) s = .next (if s.relState ch = 2 then ((s.unstart src ch).noteDrop src ch).dropLock ch 0
      else ((s.unstart src ch).noteDrop src ch).setRelState ch 0) := by
  simp only [exec_relDrop, execRelDrop, hl, hp, Bool.not_true, Bool.false_eq_true, if_false]
  split <;> rfl

theorem markExch_cases (s : State) (ch : Nat) (f : RelExch → RelExch) : (s.relExch ch = none ∧ s.markExch ch f = s) ∨
    ∃ e, s.relExch ch = some e ∧ s.markExch ch f = s.setExch ch (f e) := by
  unfold State.markExch
  cases h : s.relExch ch with
  | none => exact .inl ⟨rfl, rfl⟩
  | some e => exact .inr ⟨e, rfl, rfl⟩

theorem relExch_setExch (s : State) (ch : Nat) (e : RelExch) : (s.setExch ch e).relExch ch = some e :=
  mapGet_mapIns_same _ _ _ (mapGet_mapErase_same _ _)

theorem rd_setExch_ne {a : Nat} (e : RelExch) (h : a ≠ Reg.REL_CH_STATUS ch) : (s.setExch ch e).rd a = s.rd a :=
  (rd_setB_ne _ _ _ h).trans (rd_withRel s _ a)

theorem card_setExch (s : State) (ch : Nat) (e : RelExch) :
    (s.setExch ch e).rdF (Reg.REL_CH_STATUS ch) 16 16 = s.rdF (Reg.REL_CH_STATUS ch) 16 16 :=
  (rdF_wrF_ne _ _ (by decide)).trans (rdF_congr (rd_withRel s _ _) 16 16)

theorem relFrame_setExch {l : List Nat} (h : RelFrame l s t) (e : RelExch) (hl : Reg.REL_CH_STATUS ch ∈ l) :
    RelFrame l s (t.setExch ch e) := (h.withRel _).wr hl

theorem relExch_withCycle (s : State) (c : CycSt) (ch : Nat) : (s.withCycle c).relExch ch = s.relExch ch := rfl

theorem relExch_noteDrop (s : State) (src : Option Master) (ch : Nat) :
    (∀ e ∈ (s.noteDrop src ch).relExch ch, e.dropped = true) ∧
      ((s.noteDrop src ch).relExch ch).isSome = (s.relExch ch).isSome := by
  unfold State.noteDrop
  rcases markExch_cases (s.withCycle { s.cyc with relDrops := (ch, src) :: s.cyc.relDrops }) ch
    (fun e => { e with dropped := true }) with ⟨hnone, hm⟩ | ⟨e, hsome, hm⟩
  · rw [hm, hnone, ← relExch_withCycle, hnone]
    simp
  · rw [hm, relExch_setExch, ← relExch_withCycle s, hsome]
    simp

theorem noteDrop_kept (s : State) (src : Option Master) (ch : Nat) :
    (∀ a, a ≠ Reg.REL_CH_STATUS ch → (s.noteDrop src ch).rd a = s.rd a) ∧
      (s.noteDrop src ch).rdF (Reg.REL_CH_STATUS ch) 16 16 = s.rdF (Reg.REL_CH_STATUS ch) 16 16 ∧
      (s.noteDrop src ch).rel.lines = s.rel.lines ∧ (s.noteDrop src ch).cust = s.cust := by
  unfold State.noteDrop
  rcases markExch_cases (s.withCycle { s.cyc with relDrops := (ch, src) :: s.cyc.relDrops }) ch
    (fun e => { e with dropped := true }) with ⟨-, hm⟩ | ⟨e, -, hm⟩
  · rw [hm]
    exact ⟨fun a _ => rd_withCycle s _ a, rdF_congr (rd_withCycle s _ _) 16 16, rfl, rfl⟩
  · rw [hm]
    exact ⟨fun a ha => (rd_setExch_ne _ ha).trans (rd_withCycle s _ a),
      (card_setExch _ _ _).trans (rdF_congr (rd_withCycle s _ _) 16 16), rfl, rfl⟩

theorem relFrame_noteDrop (s : State) (src : Option Master) (ch : Nat) :
    RelFrame [Reg.REL_CH_STATUS ch] s (s.noteDrop src ch) := by
  have hc := (RelFrame.refl [Reg.REL_CH_STATUS ch] s).withCycle { s.cyc with relDrops := (ch, src) :: s.cyc.relDrops }
  unfold State.noteDrop
  rcases markExch_cases (s.withCycle { s.cyc with relDrops := (ch, src) :: s.cyc.relDrops }) ch
    (fun e => { e with dropped := true }) with ⟨-, hm⟩ | ⟨e, -, hm⟩
  · rw [hm]
    exact hc
  · rw [hm]
    exact relFrame_setExch hc _ (by simp)

/-! ### The lock line (R519, R520) -/

theorem lockLine_congr (h : t.rel.lines = s.rel.lines) (ch : Nat) : t.lockLine ch = s.lockLine ch := by
  unfold State.lockLine
  rw [h]

theorem lockMessage_congr (hrd : ∀ a, a ≠ Reg.REL_CH_STATUS ch → t.rd a = s.rd a) (hl : t.rel.lines = s.rel.lines)
    (hc : t.cust = s.cust) (kind validMs card : Nat) : t.lockMessage ch kind validMs card = s.lockMessage ch kind validMs card := by
  have hcfg := rdF_congr (hrd (Reg.REL_CH_CFG ch) (by simp only [Reg.REL_CH_CFG, Reg.REL_CH_STATUS]; omega)) 8 6
  have hcnt := hrd (Reg.REL_CH_LOCKCNT ch) (by simp only [Reg.REL_CH_LOCKCNT, Reg.REL_CH_STATUS]; omega)
  have haddr : t.ownAddr = s.ownAddr :=
    rdF_congr (hrd Reg.LINK_ADDR (by simp only [Reg.LINK_ADDR, Reg.REL_CH_STATUS]; omega)) 0 16
  have hkey : ∀ slot bit, t.relKey slot bit = s.relKey slot bit := by
    intro slot bit
    unfold State.relKey State.keyType State.keyBit State.keyBytes
    rw [hc]
  unfold State.lockMessage
  rw [hcfg, hkey, hcnt, haddr, lockLine_congr hl]

theorem lockLine_setLockLine (s : State) (ch : Nat) (l : List (List Byte)) : (s.setLockLine ch l).lockLine ch = l :=
  mapGet_mapPut_same _ _ _ _

theorem sendLock_eq (s : State) (ch kind validMs card : Nat) :
    s.sendLock ch kind validMs card = s.withRel (s.sendLock ch kind validMs card).rel := by
  unfold State.sendLock
  split
  · rfl
  · split <;> rfl

theorem lockLine_sendLock (s : State) (ch kind validMs card : Nat) : (s.sendLock ch kind validMs card).lockLine ch =
    s.lockLine ch ++ (if s.relGpio ch then [] else (s.lockMessage ch kind validMs card).toList) := by
  unfold State.sendLock
  cases s.relGpio ch with
  | true => simp
  | false =>
    cases h : s.lockMessage ch kind validMs card with
    | none => simp
    | some x => simp [lockLine_setLockLine]

theorem relExch_sendLock (s : State) (ch kind validMs card : Nat) :
    (s.sendLock ch kind validMs card).relExch ch = s.relExch ch := by
  unfold State.sendLock
  split
  · rfl
  · split <;> rfl

theorem rel_unlockTo (s : State) (ch next : Nat) :
    (s.unlockTo ch next).rel = (s.sendLock ch 2 0 (s.rdF (Reg.REL_CH_STATUS ch) 16 16)).rel := rfl

theorem status_dropLock (hch : ch < 2) (next : Nat) :
    (s.dropLock ch next).rd (Reg.REL_CH_STATUS ch) = (s.unlockTo ch next).rd (Reg.REL_CH_STATUS ch) := by
  rw [dropLock_eq, rd_event_of_le _ (by simp only [Reg.REL_CH_STATUS]; omega) (by omega), rd_endSession]

theorem relFrame_unlockTo {l : List Nat} (h : RelFrame l s t) (next : Nat) (hl : Reg.REL_CH_STATUS ch ∈ l) :
    RelFrame l s (t.unlockTo ch next) := by
  unfold State.unlockTo
  rw [sendLock_eq]
  exact ((h.withRel _).wr hl).wr hl

/-- What a lock that drops leaves. -/
theorem dropLock_dropped (hch : ch < 2) (s : State) :
    (s.dropLock ch 0).relState ch = 0 ∧ (s.dropLock ch 0).rdF (Reg.REL_CH_STATUS ch) 16 16 = 0 ∧
      (s.dropLock ch 0).pending1 (204 + ch) = true ∧ (s.dropLock ch 0).relExch ch = s.relExch ch ∧
      mapGet (s.dropLock ch 0).rel.sessions ch = none ∧
      (s.dropLock ch 0).lockLine ch = s.lockLine ch ++ (if s.relGpio ch then []
        else (s.lockMessage ch 2 0 (s.rdF (Reg.REL_CH_STATUS ch) 16 16)).toList) := by
  have hrel : (s.dropLock ch 0).rel = ((s.unlockTo ch 0).endSession ch).rel := event_rel _ _
  refine ⟨?_, ?_, pending1_event_self _ (by omega), ?_, ?_, ?_⟩
  · rw [State.relState, rdF_congr (status_dropLock hch 0), State.unlockTo, rdF_wrF_ne _ _ (by decide), State.setRelState,
      rdF_wrF_same _ _ (by decide)]
    rfl
  · rw [rdF_congr (status_dropLock hch 0), State.unlockTo, rdF_wrF_same _ _ (by decide)]
    rfl
  · rw [State.relExch, hrel]
    exact relExch_sendLock s ch 2 0 _
  · rw [hrel]
    exact mapGet_mapErase_same _ _
  · rw [State.lockLine, hrel]
    exact lockLine_sendLock s ch 2 0 _

theorem onlyEvents_dropLock {l : List Nat} (h : RelFrame l s t) (hl : Reg.REL_CH_STATUS ch ∈ l) :
    OnlyEvents (l ++ eventRegs (204 + ch)) ((s.withRel (t.dropLock ch 0).rel).withCycle (t.dropLock ch 0).cyc)
      (t.dropLock ch 0) := by
  have hrel : (t.dropLock ch 0).rel = ((t.unlockTo ch 0).endSession ch).rel := event_rel _ _
  have hcyc : (t.dropLock ch 0).cyc = ((t.unlockTo ch 0).endSession ch).cyc := event_cyc _ _
  have hframe : RelFrame l s ((t.unlockTo ch 0).endSession ch) := (relFrame_unlockTo h 0 hl).withRel _
  rw [hrel, hcyc, dropLock_eq]
  exact (OnlyRegs.mono hframe (List.subset_append_left _ _)).events.event (by simp [eventRegs]) (by simp [eventRegs])

/-! ### A START and a DROP of one cycle (R525) -/

/-- What a START of the cycle can restore: REL_RESULT for a master, the count of refusals for a task. -/
def State.startMark (s : State) (src : Option Master) (ch : Nat) : Word :=
  if src.isSome then s.rd Reg.REL_RESULT else s.rd (Reg.REL_CH_COUNT ch)

theorem cyc_relResult (s : State) (src : Option Master) (ch code : Nat) : (s.relResult src ch code).cyc = s.cyc := by
  unfold State.relResult
  split
  · rfl
  · split <;> rfl

theorem cyc_relBegin (s : State) (ch : Nat) : (s.relBegin ch).cyc = s.cyc := by
  rw [relBegin_eq]
  split <;> rfl

theorem relStarted_marks (s : State) (src : Option Master) (ch : Nat) (hs : s.cyc.relStarts = []) :
    (s.relStarted src ch).cyc.relStarts = [(ch, src, s.startMark src ch)] := by
  have hmark : (s.markStart src ch).cyc.relStarts = [(ch, src, s.startMark src ch)] := by
    unfold State.markStart
    rw [hs]
    cases src <;> rfl
  unfold State.relStarted
  split
  · rw [cyc_relResult, cyc_relBegin, hmark]
  · rw [cyc_relResult, hmark]

theorem relFrame_relResult {l : List Nat} (h : RelFrame l s t) (src : Option Master) (ch code : Nat)
    (h1 : Reg.REL_RESULT ∈ l) (h2 : Reg.REL_CH_COUNT ch ∈ l) : RelFrame l s (t.relResult src ch code) := by
  unfold State.relResult
  split
  · exact h.wr h1
  · split
    · exact h
    · exact h.wr h2

/-- A START changes the unit's state, three registers and the cycle record, whatever its code. -/
theorem relFrame_relStarted_any (s : State) (src : Option Master) (ch : Nat) :
    RelFrame [Reg.REL_RESULT, Reg.REL_CH_COUNT ch, Reg.REL_CH_STATUS ch] s (s.relStarted src ch) := by
  have hmark := relFrame_markStart [Reg.REL_RESULT, Reg.REL_CH_COUNT ch, Reg.REL_CH_STATUS ch] s src ch
  unfold State.relStarted
  split
  · exact relFrame_relResult (relFrame_relBegin hmark (by simp)) _ _ _ (by simp) (by simp)
  · exact relFrame_relResult hmark _ _ _ (by simp) (by simp)

theorem cust_relStarted (s : State) (src : Option Master) (ch : Nat) : (s.relStarted src ch).cust = s.cust :=
  OnlyRegs.eq_of_indep (s := (s.withRel (s.relStarted src ch).rel).withCycle (s.relStarted src ch).cyc) State.cust
    (relFrame_relStarted_any s src ch) fun _ => rfl

theorem variant_relStarted (s : State) (src : Option Master) (ch : Nat) : (s.relStarted src ch).variant = s.variant :=
  OnlyRegs.eq_of_indep (s := (s.withRel (s.relStarted src ch).rel).withCycle (s.relStarted src ch).cyc) State.variant
    (relFrame_relStarted_any s src ch) fun _ => rfl

theorem relStarted_not_held (src : Option Master) (h : s.relState ch ≠ 2) : (s.relStarted src ch).relState ch ≠ 2 := by
  by_cases hc : s.relStartCode ch = 0
  · obtain ⟨hstate, -, -⟩ := relStarted_accepted (src := src) hc
    rw [hstate]
    split
    · decide
    · exact h
  · rw [State.relStarted, if_neg hc, State.relState, rdF_congr (status_relResult _ _ _ _), rdF_congr (rd_markStart _ _ _ _)]
    exact h

theorem rd_relResult_master_ne {a : Nat} (code : Nat) (h : a ≠ Reg.REL_RESULT) :
    (s.relResult (some m) ch code).rd a = s.rd a := rd_wr_ne _ _ h

theorem rd_relResult_task_ne {a : Nat} (code : Nat) (h : a ≠ Reg.REL_CH_COUNT ch) :
    (s.relResult none ch code).rd a = s.rd a := by
  unfold State.relResult
  dsimp only
  split
  · rfl
  · exact rd_satAdd_ne _ _ _ _ h

theorem count_relStarted_master (s : State) (m : Master) (ch : Nat) :
    (s.relStarted (some m) ch).rd (Reg.REL_CH_COUNT ch) = s.rd (Reg.REL_CH_COUNT ch) := by
  unfold State.relStarted
  split
  · rw [rd_relResult_master_ne _ (count_ne_result ch), rd_relBegin_ne (count_ne_status ch), rd_markStart]
  · rw [rd_relResult_master_ne _ (count_ne_result ch), rd_markStart]

theorem result_relStarted_task (s : State) (ch : Nat) :
    (s.relStarted none ch).rd Reg.REL_RESULT = s.rd Reg.REL_RESULT := by
  unfold State.relStarted
  split
  · rw [rd_relResult_task_ne _ (count_ne_result ch).symm, rd_relBegin_ne (result_ne_status ch).symm, rd_markStart]
  · rw [rd_relResult_task_ne _ (count_ne_result ch).symm, rd_markStart]

/-- The register that the START wrote takes back its value; the other has not changed. -/
theorem unstart_relStarted (hs : s.cyc.relStarts = []) (hne : other ≠ src) :
    ((s.relStarted src ch).unstart other ch).rd Reg.REL_RESULT = s.rd Reg.REL_RESULT ∧
      ((s.relStarted src ch).unstart other ch).rd (Reg.REL_CH_COUNT ch) = s.rd (Reg.REL_CH_COUNT ch) := by
  have hp : (src != other) = true := by simpa using hne.symm
  have hfind : (s.relStarted src ch).cyc.relStarts.find? (fun p => p.1 == ch && p.2.1 != other) =
      some (ch, src, s.startMark src ch) := by
    rw [relStarted_marks s src ch hs]
    simp [hp]
  unfold State.unstart
  rw [hfind]
  cases src with
  | some m => exact ⟨rd_wr_same _ _ _, (rd_wr_ne _ _ (count_ne_result ch)).trans (count_relStarted_master s m ch)⟩
  | none => exact ⟨(rd_wr_ne _ _ (count_ne_result ch).symm).trans (result_relStarted_task s ch), rd_wr_same _ _ _⟩

theorem rd_dropped_ne {a : Nat} (s : State) (src : Option Master) (h : a ≠ Reg.REL_CH_STATUS ch) :
    ((s.noteDrop src ch).setRelState ch 0).rd a = s.rd a := by
  obtain ⟨hrd, -⟩ := noteDrop_kept s src ch
  rw [State.setRelState, rd_wrF_ne _ _ _ _ h, hrd a h]

theorem relState_setRelState (s : State) (ch : Nat) : (s.setRelState ch 0).relState ch = 0 := rdF_wrF_same _ _ (by decide)

/-! ### Locked masters and the absent unit -/

theorem any_locked_some (h : s.locked m = false) : (some m).any s.locked = false := h

end

end Sys2Proof.Machine
end

section

open Sys2Proof Sys2Proof.Machine

/-- Settles O51: a START is decided by its code and its outcome recorded, a DROP marks the exchange and lets the lock
drop. -/
theorem releaseChannelsStartAndDropAsCommanded : Obligations.ReleaseChannelsStartAndDropAsCommanded := by
  unfold Obligations.ReleaseChannelsStartAndDropAsCommanded
  refine ⟨?locked, ?dropFirst, ?absent, ?off, ?offTask, ?badCfg, ?badCfgTask, ?busy, ?busyTask, ?start, ?startTask, ?drop,
    ?dropHeld, ?noMessage, ?message, ?failclr, ?noFailclr, ?startDrop⟩
  case locked =>
    intro m ch s hl
    simp [execRelStart, execRelDrop, hl]
  case dropFirst =>
    intro src ch s hl hp hd
    simp only [exec_relStart, execRelStart, hl, hp, hd]
    rfl
  case absent =>
    intro m ch v s hl hp
    simp [execRelStart, execRelDrop, execRelFailclr, hl, hp, State.relAbsent]
  case off =>
    intro m ch s hl hp hd hoff
    exact ⟨_, exec_relStart_of_present (any_locked_some hl) hp hd,
      relStarted_refused_master (relStartCode_off hoff) (by decide)⟩
  case offTask =>
    intro ch s hp hd hoff
    exact ⟨_, exec_relStart_of_present rfl hp hd, relStarted_refused_task (relStartCode_off hoff) (by decide)⟩
  case badCfg =>
    intro m ch s hl hp hd h5 hr hbad
    exact ⟨_, exec_relStart_of_present (any_locked_some hl) hp hd,
      relStarted_refused_master (relStartCode_badCfg h5 hr hbad) (by decide)⟩
  case badCfgTask =>
    intro ch s hp hd h5 hr hbad
    exact ⟨_, exec_relStart_of_present rfl hp hd,
      relStarted_refused_task (relStartCode_badCfg h5 hr hbad) (by decide)⟩
  case busy =>
    intro m ch s hl hp hd h5 hr hplan hlock hexch
    have hcode : s.relStartCode ch = 3 := by rw [relStartCode_good h5 hr hplan hlock, if_pos hexch]
    exact ⟨_, exec_relStart_of_present (any_locked_some hl) hp hd, relStarted_refused_master hcode (by decide)⟩
  case busyTask =>
    intro ch s hp hd h5 hr hplan hlock hexch
    have hcode : s.relStartCode ch = 3 := by rw [relStartCode_good h5 hr hplan hlock, if_pos hexch]
    exact ⟨_, exec_relStart_of_present rfl hp hd, relStarted_refused_task hcode (by decide)⟩
  case start =>
    intro m ch s hl hp hd h5 hr hplan hlock hexch
    have hcode : s.relStartCode ch = 0 := by
      rw [relStartCode_good h5 hr hplan hlock, hexch]
      rfl
    obtain ⟨hstate, hstarted, -⟩ := relStarted_accepted (src := some m) hcode
    refine ⟨_, exec_relStart_of_present (any_locked_some hl) hp hd, ?_, hstate, hstarted,
      onlyRegs_relStarted (relFrame_relStarted s (some m) ch hcode) hcode⟩
    rw [State.relStarted, if_pos hcode]
    exact rd_wr_same _ _ _
  case startTask =>
    intro ch s hp hd h5 hr hplan hlock hexch
    have hcode : s.relStartCode ch = 0 := by
      rw [relStartCode_good h5 hr hplan hlock, hexch]
      rfl
    obtain ⟨hstate, hstarted, -⟩ := relStarted_accepted (src := none) hcode
    exact ⟨_, exec_relStart_of_present rfl hp hd, hstate, hstarted,
      onlyRegs_relStarted (relFrame_relStarted s none ch hcode) hcode⟩
  case drop =>
    intro src ch s hl hp hstarts hstate
    obtain ⟨hdropped, hsome⟩ := relExch_noteDrop s src ch
    obtain ⟨-, -, hlines, -⟩ := noteDrop_kept s src ch
    refine ⟨(s.noteDrop src ch).setRelState ch 0, ?_, relState_setRelState _ _, hdropped, hsome,
      (relFrame_noteDrop s src ch).wr (by simp), lockLine_congr hlines ch⟩
    rw [exec_relDrop_of_present hl hp, if_neg hstate, unstart_of_none hstarts]
  case dropHeld =>
    intro src ch s hl hp hstarts hstate
    obtain ⟨hdropped, -⟩ := relExch_noteDrop s src ch
    obtain ⟨hrd, hcard, hlines, hcust⟩ := noteDrop_kept s src ch
    obtain ⟨hidle, hcard0, hev, hexch, hsession, hline⟩ := dropLock_dropped ch.isLt (s.noteDrop src ch)
    have hgpio : (s.noteDrop src ch).relGpio ch = s.relGpio ch :=
      bit_congr (hrd _ (by simp only [Reg.REL_CH_POLICY, Reg.REL_CH_STATUS]; omega)) 3
    refine ⟨(s.noteDrop src ch).dropLock ch 0, ?_, hidle, hcard0, hev, ?_, hsession,
      onlyEvents_dropLock (relFrame_noteDrop s src ch) (by simp), ?_⟩
    · rw [exec_relDrop_of_present hl hp, if_pos hstate, unstart_of_none hstarts]
    · rw [hexch]
      exact hdropped
    · rw [hline, hgpio, hcard, lockLine_congr hlines, lockMessage_congr hrd hlines hcust]
  case noMessage =>
    intro ch s h
    simp [execLockLineMessageEnd, h]
  case message =>
    intro x l ch s h
    refine ⟨(s.setLockLine ch l).wr (Reg.REL_CH_LOCKCNT ch) (s.rd (Reg.REL_CH_LOCKCNT ch) + 1), ?_,
      lockLine_setLockLine s ch l, rd_wr_same _ _ _, (OnlyRegs.refl _ (s.setLockLine ch l)).wr (by simp)⟩
    simp [execLockLineMessageEnd, h]
  case failclr =>
    intro v s hp hv
    refine ⟨(s.wr Reg.REL_FAILCOUNT 0).event 207, by simp [execRelFailclr, hp, hv], ?_, pending1_event_self _ (by decide),
      ((OnlyEvents.refl _ s).wr (by simp)).event (by simp [eventRegs]) (by simp [eventRegs])⟩
    rw [rd_event_of_le _ (by decide) (by decide), rd_wr_same]
  case noFailclr =>
    intro v s hp hv
    simp [execRelFailclr, hp, hv]
  case startDrop =>
    intro src other ch s hl hlo hne hp hstarts hdrops hstate
    have hd : s.droppedNow src ch = false := by simp [State.droppedNow, hdrops]
    have hpu : (s.relStarted src ch).present 24 = true := by rw [present_congr (variant_relStarted s src ch), hp]
    have hlu : other.any (s.relStarted src ch).locked = false := by
      cases other with
      | none => rfl
      | some m => exact (locked_congr (cust_relStarted s src ch) m).trans hlo
    obtain ⟨hresult, hcount⟩ := unstart_relStarted (s := s) (ch := ch.val) hstarts hne
    refine ⟨_, exec_relStart_of_present hl hp hd,
      (((s.relStarted src ch).unstart other ch).noteDrop other ch).setRelState ch 0, ?_, relState_setRelState _ _, ?_, ?_⟩
    · rw [exec_relDrop_of_present hlu hpu, if_neg (relStarted_not_held src hstate)]
    · rw [rd_dropped_ne _ _ (result_ne_status ch).symm, hresult]
    · rw [rd_dropped_ne _ _ (count_ne_status ch), hcount]

end

section
/-! PROOF. An HIF-3 write of a word that another interface has written in the same cycle (17, HIF-3; R578, R579). -/

namespace Sys2Proof.Machine

/-- HIF-1 has written the first word of main SRAM in this cycle; its zero is listed, though memory reads so unlisted. -/
def wordWritten : State := { State.reset with
  boot := { State.reset.boot with phase := .app }
  regs := [(Reg.HIF_CFG, 4)]
  mem := [(0x20000000, 0)]
  cyc := { State.reset.cyc with hifWrites := [(1, 0x20000000)] } }

theorem exec_hif3Write_wordWritten : exec (.hif3Write 0x20000000 [0, 0, 0, 0]) wordWritten =
    .next ((wordWritten.hif3Put 0x20000000 4 [0, 0, 0, 0]).hif3Out (hif3Beyond 0x20000000 4)) := by rfl

/-- The word is written and given its old bytes again, which takes the listed zero out. -/
theorem mem_hif3Write_wordWritten :
    ((wordWritten.hif3Put 0x20000000 4 [0, 0, 0, 0]).hif3Out (hif3Beyond 0x20000000 4)).mem = [] := by decide +kernel

end Sys2Proof.Machine
end

section

open Sys2Proof Sys2Proof.Machine

/-- Refutes O55: HIF-3's write of a word that HIF-1 has written in the cycle leaves its value, but not the whole state,
where the memory lists a zero (`wordWritten`). -/
theorem not_hostFramesAndTransactionsAreServed : ¬ Obligations.HostFramesAndTransactionsAreServed := by
  unfold Obligations.HostFramesAndTransactionsAreServed
  rintro ⟨-, -, -, -, -, -, -, -, -, -, -, -, -, -, -, -, -, -, -, -, -, -, -, -, -, -, -, -, -, -, -, -, -, -, hkept, -⟩
  have h := hkept 0x20000000 [0, 0, 0, 0] wordWritten (by rfl) (by rfl) (by decide) (by decide +kernel)
    (by decide) (by decide)
  rw [exec_hif3Write_wordWritten] at h
  have hmem := congrArg State.mem (Host.Outcome.next.inj h)
  exact absurd (mem_hif3Write_wordWritten.symm.trans hmem) (by decide)

end

section
/-! PROOF. The desk's decision with a key slot that holds no bytes (15, The desk's decision; R508, R514). -/

namespace Sys2Proof.Machine

/-- A SEEKING desk in response-time mode, its exchange running; the AES slot of channel 0 has the uses of an exchange key
and no key bytes. -/
def hollowKey : State := { State.reset with
  regs := [(Reg.REL_CH_POLICY 0, 1), (Reg.REL_CH_STATUS 0, 5)]
  cust := { State.reset.cust with keys := [(0, { policy := 0x80501, key := [] })] }
  rel := { State.reset.rel with exch := [(0, { startAt := 0 })] } }

/-- The CONFIRM body of that exchange: DELTA and its TAG. -/
def hollowConfirm : List Byte := relBody 3 0 0 (List.replicate 16 0 ++ confirmTag [] [] []
  [] (relAnswer (relPad [] [] []) [] []).1 [] (relAnswer (relPad [] [] []) [] []).2 (List.replicate 16 0))

/-- Without round keys the cipher gives no bytes, so no TAG stands in the body, and it is too short. -/
theorem relGrants_hollowKey :
    hollowKey.relGrants 0 { startAt := 0 } 0 0 [] [] (some hollowConfirm) = false := by decide +kernel

theorem exec_relDecision_of_not_relGrants {s : State} {e : RelExch} {ch : Fin 2} {resp : BitVec 96} {offset : Int}
    {replies : List (Option Bool)} {times : List Int} {confirm : Option (List Byte)} (he : s.relExch ch = some e)
    (hdesk : s.relDesk = true) (hopen : e.decided = false)
    (hno : s.relGrants ch e resp offset replies times confirm = false) :
    exec (.relDecision ch resp offset replies times confirm) s = .next ((s.sendVerdict ch e false).relFail ch) := by
  simp [execRelDecision, he, hdesk, hopen, hno]

theorem relState_hollowKey : ((hollowKey.sendVerdict 0 { startAt := 0 } false).relFail 0).relState 0 = 1 := by
  decide +kernel

end Sys2Proof.Machine
end

section

open Sys2Proof Sys2Proof.Machine

/-- Refutes O52: with a key slot that holds no bytes (`hollowKey`) the TAG is empty and the CONFIRM body too short for a
grant. -/
theorem not_theDeskGrantsOnlyWhenEveryConditionHolds : ¬ Obligations.TheDeskGrantsOnlyWhenEveryConditionHolds := by
  unfold Obligations.TheDeskGrantsOnlyWhenEveryConditionHolds
  rintro ⟨-, -, -, -, -, -, -, -, -, hgrant, -⟩
  obtain ⟨t, ht, hheld, -⟩ := hgrant { startAt := 0 } [] (List.replicate 16 0) _ 0 0 [] [] 0 hollowKey (by rfl) (by rfl)
    (by rfl) (.inl (by rfl)) (by rfl) (by rfl) (by rfl) (by rfl) (by decide) (by rfl) (by decide +kernel) rfl
  have hfail := exec_relDecision_of_not_relGrants (ch := 0) (by rfl) (by rfl) (by rfl) relGrants_hollowKey
  rw [hollowConfirm] at hfail
  rw [← Host.Outcome.next.inj (hfail.symm.trans ht)] at hheld
  exact absurd (relState_hollowKey.symm.trans hheld) (by decide)

end

section
/-! PROOF. What a service gives the request at the front (14, Custodian services; R460, R464, R466 to R468, R472). -/

namespace Sys2Proof.Machine

variable {s : State} {k : Fin 4} {n : Nat}

/-- The request of slot `k` is the waiting front one, and it names service `n`. -/
def State.atTurn (s : State) (k n : Nat) : Prop :=
  s.cust.order.head? = some k ∧ (s.mb k).phase = .waiting ∧ s.mbSvc k = n

/-- The service commands of slot `k` with their numbers, UNLOCK apart, which besides spends its nonce. -/
def serviceRows (k : Fin 4) : List (Instr × Nat) :=
  [(.aesEcb k, 1), (.aesCbc k, 2), (.aesCtr k, 3), (.aesCcm k, 4), (.aesCmac k, 5), (.sha256 k, 16), (.hmac k, 17),
    (.ecdsaSign k, 32), (.ecdsaVerify k, 33), (.ecdh k, 34), (.ecKeygen k, 35), (.keyDerive k, 36), (.random k, 48),
    (.keyImport k, 64), (.keyExport k, 65), (.keyPurge k, 66), (.keyInfo k, 67), (.keyRestrict k, 68),
    (.idChallenge k, 80), (.attest k, 81), (.lifecycle k, 96), (.unlockNonce k, 97)]

theorem exec_serviceRow {c : Instr} (h : (c, n) ∈ serviceRows k) (s : State) :
    ∃ f, exec c s = .next (s.serve k n f) := by
  simp only [serviceRows, List.mem_cons, Prod.mk.injEq, List.not_mem_nil, or_false] at h
  rcases h with ⟨rfl, rfl⟩ | ⟨rfl, rfl⟩ | ⟨rfl, rfl⟩ | ⟨rfl, rfl⟩ | ⟨rfl, rfl⟩ | ⟨rfl, rfl⟩ | ⟨rfl, rfl⟩ | ⟨rfl, rfl⟩ |
    ⟨rfl, rfl⟩ | ⟨rfl, rfl⟩ | ⟨rfl, rfl⟩ | ⟨rfl, rfl⟩ | ⟨rfl, rfl⟩ | ⟨rfl, rfl⟩ | ⟨rfl, rfl⟩ | ⟨rfl, rfl⟩ | ⟨rfl, rfl⟩ |
    ⟨rfl, rfl⟩ | ⟨rfl, rfl⟩ | ⟨rfl, rfl⟩ | ⟨rfl, rfl⟩ | ⟨rfl, rfl⟩ <;> exact ⟨_, rfl⟩

section
variable {f : State → Except Nat SvcOut} {r : Nat}

theorem serve_of_not_atTurn (h : ¬ s.atTurn k n) : s.serve k n f = s := by
  unfold State.atTurn at h
  simp only [State.serve, Bool.and_eq_true, decide_eq_true_eq, beq_iff_eq, and_assoc, if_neg h]

theorem serve_of_keyFault (h : s.atTurn k n) (hr : s.keyFault k = some r) : s.serve k n f = s.refuse k r := by
  obtain ⟨hfront, hphase, hsvc⟩ := h
  simp [State.serve, hfront, hphase, hsvc, hr]

/-- The computation of the service decides. -/
theorem serve_of_atTurn (h : s.atTurn k n) (hk : s.keyFault k = none) :
    s.serve k n f = match f s with
      | .error r => s.refuse k r
      | .ok o => o.st.setMb k { phase := .running, result := o.result, out := o.out, param := o.param, ctx := o.ctx } := by
  obtain ⟨hfront, hphase, hsvc⟩ := h
  simp only [State.serve, hfront, hphase, hsvc, hk, beq_self_eq_true, decide_true, Bool.and_self, if_true] <;> rfl

end

/-! ### Random bits -/

theorem random_of_ready {m : Nat} (hwait : s.cust.trngWait = false) (hdead : s.cust.trngDead = false) :
    s.random m = .ok ((s.takeFreeBytes m).1,
      { s with freeCtr := s.freeCtr + m, cust := { s.cust with trngBad := 0 } }) := by
  simp [State.random, hwait, hdead, State.takeFreeBytes]

theorem random_of_wait {m : Nat} (hwait : s.cust.trngWait = true) : s.random m = .error 5 := by
  simp [State.random, hwait]

/-- The services that draw random bits before anything else are refused while the TRNG restarts. -/
theorem exec_randomRow_of_wait {c : Instr}
    (hc : (c, n) ∈ [(Instr.ecdsaSign k, 0x20), (.random k, 0x30), (.unlockNonce k, 0x61), (.idChallenge k, 0x50)])
    (h : s.atTurn k n) (hk : s.keyFault k = none) (hwait : s.cust.trngWait = true) : exec c s = .next (s.refuse k 5) := by
  simp only [List.mem_cons, Prod.mk.injEq, List.not_mem_nil, or_false] at hc
  obtain ⟨rfl, rfl⟩ | ⟨rfl, rfl⟩ | ⟨rfl, rfl⟩ | ⟨rfl, rfl⟩ := hc
  · simp only [exec_ecdsaSign, execEcdsaSign, serve_of_atTurn h hk, random_of_wait hwait]
  · simp only [exec_random, execRandom, serve_of_atTurn h hk, random_of_wait hwait]
  · simp only [exec_unlockNonce, execUnlockNonce, serve_of_atTurn h hk, random_of_wait hwait]
  · simp only [exec_idChallenge, execIdChallenge, State.identitySign, serve_of_atTurn h hk, random_of_wait hwait]

/-! ### Digests -/

theorem digest_oneShot (key : Option (List Byte)) (hm : s.mbMode k = 3) :
    s.digest k key = { st := s, out := match key with
      | some b => hmacOuter b (shaFinish (shaUpdate shaInit (hmacPad b 0x36)) 64 (s.mbData k))
      | none => sha256 (s.mbData k) } := by
  cases key <;> simp [State.digest, hm, sha256]

theorem digest_start (key : Option (List Byte)) (hm : s.mbMode k = 0) :
    s.digest k key = { st := s, ctx := some (match key with
      | some b => { h := shaUpdate (shaUpdate shaInit (hmacPad b 0x36)) (s.mbData k), len := 64 + (s.mbData k).length,
                    hmac := some b }
      | none => { h := shaUpdate shaInit (s.mbData k), len := (s.mbData k).length, hmac := none }) } := by
  cases key <;> simp [State.digest, hm]

theorem digest_continue {x : ShaCtx} (key : Option (List Byte)) (hm : s.mbMode k = 1) (hx : (s.mb k).ctx = some x) :
    s.digest k key = { st := s, ctx := some (ShaCtx.mk (shaUpdate x.h (s.mbData k))
      (x.len + (s.mbData k).length) x.hmac) } := by
  simp [State.digest, hm, hx]

theorem digest_finish {x : ShaCtx} (key : Option (List Byte)) (hm : s.mbMode k = 2) (hx : (s.mb k).ctx = some x)
    (hplain : x.hmac = none) : s.digest k key = { st := s, out := shaFinish x.h x.len (s.mbData k) } := by
  simp [State.digest, hm, hx, hplain]

end Sys2Proof.Machine
end

section

open Sys2Proof Sys2Proof.Machine

/-- Settles O48: a row is `State.serve` with its computation, which the request at its turn gets or whose reason refuses
it. -/
theorem servicesComputeTheirOutcomes : Obligations.ServicesComputeTheirOutcomes := by
  unfold Obligations.ServicesComputeTheirOutcomes
  refine ⟨?_, ?_, ?_, ?_, ?_, ?_, ?_, ?_, ?_, ?_, ?_, ?_, ?_, ?_, ?_, ?_, ?_, ?_, ?_, ?_⟩
  · intro n c k s hc h
    obtain ⟨f, hf⟩ := exec_serviceRow (k := k) hc s
    rw [hf, serve_of_not_atTurn h]
  · intro n r c k s hc hr hfront hphase hsvc
    obtain ⟨f, hf⟩ := exec_serviceRow (k := k) hc s
    rw [hf, serve_of_keyFault ⟨hfront, hphase, hsvc⟩ hr]
    exact ⟨rfl, phase_refuse s k r, order_refuse s k r⟩
  · intro k s hfront hphase hsvc hk
    simp only [exec_aesEcb, execAesEcb, serve_of_atTurn (k := k) ⟨hfront, hphase, hsvc⟩ hk]
  · intro k s hfront hphase hsvc hk hm
    simp only [exec_aesCbc, execAesCbc, serve_of_atTurn (k := k) ⟨hfront, hphase, hsvc⟩ hk, if_pos hm]
  · intro k s hfront hphase hsvc hk hm
    simp only [exec_aesCbc, execAesCbc, serve_of_atTurn (k := k) ⟨hfront, hphase, hsvc⟩ hk, if_neg hm]
  · intro k s hfront hphase hsvc hk
    simp only [exec_aesCtr, execAesCtr, serve_of_atTurn (k := k) ⟨hfront, hphase, hsvc⟩ hk]
  · rintro _ k s rfl hfront hphase hsvc hk hm
    simp only [exec_aesCcm, execAesCcm, serve_of_atTurn (k := k) ⟨hfront, hphase, hsvc⟩ hk, if_pos hm]
  · rintro _ k s rfl hfront hphase hsvc hk hm
    simp only [exec_aesCcm, execAesCcm, serve_of_atTurn (k := k) ⟨hfront, hphase, hsvc⟩ hk, if_neg hm]
    generalize ccmDec _ _ _ _ _ = msg
    cases msg <;> rfl
  · intro k s hfront hphase hsvc hk
    simp only [exec_aesCmac, execAesCmac, serve_of_atTurn (k := k) ⟨hfront, hphase, hsvc⟩ hk]
  · intro k s hfront hphase hsvc hk hm
    simp only [exec_sha256, execSha256, serve_of_atTurn (k := k) ⟨hfront, hphase, hsvc⟩ hk, digest_oneShot none hm]
  · intro k s hfront hphase hsvc hk hm
    simp only [exec_sha256, execSha256, serve_of_atTurn (k := k) ⟨hfront, hphase, hsvc⟩ hk, digest_start none hm]
  · intro x k s hfront hphase hsvc hk hm hx
    simp only [exec_sha256, execSha256, serve_of_atTurn (k := k) ⟨hfront, hphase, hsvc⟩ hk, digest_continue none hm hx]
  · intro x k s hfront hphase hsvc hk hm hx hplain
    simp only [exec_sha256, execSha256, serve_of_atTurn (k := k) ⟨hfront, hphase, hsvc⟩ hk, digest_finish none hm hx hplain]
  · intro k s hfront hphase hsvc hk hm
    simp only [exec_hmac, execHmac, serve_of_atTurn (k := k) ⟨hfront, hphase, hsvc⟩ hk, digest_oneShot (some _) hm]
  · intro k s hfront hphase hsvc hk hm
    simp only [exec_hmac, execHmac, serve_of_atTurn (k := k) ⟨hfront, hphase, hsvc⟩ hk, digest_start (some _) hm]
  · rintro k s u hfront hphase hsvc hk hwait hdead rfl
    simp only [exec_ecdsaSign, execEcdsaSign, serve_of_atTurn (k := k) ⟨hfront, hphase, hsvc⟩ hk, random_of_ready hwait hdead]
  · intro k s hfront hphase hsvc hk
    simp only [exec_ecdsaVerify, execEcdsaVerify, serve_of_atTurn (k := k) ⟨hfront, hphase, hsvc⟩ hk]
  · intro k s hfront hphase hsvc hk
    simp only [exec_keyInfo, execKeyInfo, serve_of_atTurn (k := k) ⟨hfront, hphase, hsvc⟩ hk]
  · rintro k s u hfront hphase hsvc hk hwait hdead rfl
    simp only [exec_random, execRandom, serve_of_atTurn (k := k) ⟨hfront, hphase, hsvc⟩ hk, random_of_ready hwait hdead]
  · intro n c k s hc hfront hphase hsvc hk hwait
    exact exec_randomRow_of_wait hc ⟨hfront, hphase, hsvc⟩ hk hwait

end

section
/-! PROOF. The end of a folio whose grant counts more folios than CAL_STATUS.FOLIO can show (10, Full recalibration). -/

namespace Sys2Proof.Machine

/-- A blackout runs folio 7 of a grant that counts nine. -/
def nineFolios : State := { State.reset with
  regs := [(Reg.RADIO_FSM, 6), (Reg.CAL_STATUS, 2 + 7 * 4)]
  cal := { State.reset.cal with began := true, folios := 9 } }

end Sys2Proof.Machine
end

section

open Sys2Proof Sys2Proof.Machine

/-- Refutes O35: after folio 7 of a grant of nine (`nineFolios`) the three bits of FOLIO cannot read 8. -/
theorem not_calibrationRunsItsFolios : ¬ Obligations.CalibrationRunsItsFolios := by
  unfold Obligations.CalibrationRunsItsFolios
  rintro ⟨-, -, -, -, -, -, -, -, -, -, -, -, -, -, -, -, -, hrefused, -⟩
  obtain ⟨t, -, -, -, -, -, -, -, -, -, hfolio, -⟩ := hrefused false [] 0 7 nineFolios (by rfl) (by rfl) (by rfl)
    (by rfl) (by decide) (by rfl)
  have hlt : t.rdF Reg.CAL_STATUS 2 3 < 8 := fld_lt _ _ _
  omega

end

section
/-! PROOF. A transmission whose queue lies in a bank that is not yet restored (11; 12, Sleep; R371, R387). -/

namespace Sys2Proof.Machine

/-- Table entry 0 is due to send from queue 0, which is empty, after a Nap that has left its bank dark. -/
def darkQueue : State := { State.reset with
  regs := [(Reg.RADIO_FSM, 4)]
  cat := { State.reset.cat with sections := [(1, [8, 0, 0, 0])] }
  qe := { State.reset.qe with qbankEn := 1 }
  pwr := { State.reset.pwr with dark := [0] }
  link := { State.reset.link with
    run := some { ref := .table 0, slot := 0, openAt := 0, chan := 0 }
    ops := [(0, { kind := 2, state := 2 })] } }

theorem openQueued_of_qeWaits {s : State} {q : Nat} (o : RunOp) (h : s.qeWaits 1 { cmd := 3, queue := q } = true) :
    s.openQueued o q = s := if_pos h

theorem exec_transmissionOpen_table {s : State} {o : RunOp} {k : Nat} (hrun : s.link.run = some o)
    (href : o.ref = .table k) (hkind : (s.airOp k).kind = 2) (hopen : s.mayOpen o = true) (hlost : s.lostNow = false)
    (htx : s.fsm = 4) : exec .transmissionOpen s = .next (s.openQueued o (s.airOp k).addr) := by
  have hsync : s.checkSync = s := by simp [State.checkSync, hlost]
  simp [execTransmissionOpen, hrun, href, hkind, hopen, hsync, State.openOp, hlost, htx]

theorem mayOpen_darkQueue : darkQueue.mayOpen { ref := .table 0, slot := 0, openAt := 0, chan := 0 } = true := by
  decide +kernel

end Sys2Proof.Machine
end

section

open Sys2Proof Sys2Proof.Machine

/-- Refutes O38: a table entry whose queue is empty but lies in a dark bank (`darkQueue`) does not end EMPTY yet. -/
theorem not_transmissionsListenAreChargedAndAcknowledged :
    ¬ Obligations.TransmissionsListenAreChargedAndAcknowledged := by
  unfold Obligations.TransmissionsListenAreChargedAndAcknowledged
  rintro ⟨-, -, -, -, hempty, -⟩
  obtain ⟨t, ht, hend, -⟩ := hempty { ref := .table 0, slot := 0, openAt := 0, chan := 0 } 0 darkQueue (by rfl) (by rfl)
    (by decide) (by rfl) mayOpen_darkQueue (by rfl) (by rfl) (by rfl) (by rfl) (by rfl)
  rw [exec_transmissionOpen_table (by rfl) (by rfl) (by rfl) mayOpen_darkQueue (by rfl) (by rfl),
    openQueued_of_qeWaits _ (by rfl)] at ht
  rw [← Host.Outcome.next.inj ht] at hend
  exact absurd hend (by decide)

end

section
/-! PROOF. A copy relayed on a channel whose band is none of the eight: what the band has used lands in
LINK_COUNT_MESH (11, Chorus floods, Regional budgets; R331, R353). -/

namespace Sys2Proof.Machine

/-- A copy is due on channel 0, in band 26 by the plan, and LINK_COUNT_MESH counts five copies. -/
def strayBand : State := { State.reset with
  regs := [(Reg.RADIO_FSM, 4), (Reg.LINK_COUNT_MESH, 0x5000000)]
  cat := { State.reset.cat with sections := [(6, List.replicate 636 0 ++ [0, 0, 1, 0, 1, 0]), (7, [1, 0, 0, 0, 0, 0, 0, 0, 26])] }
  link := { State.reset.link with
    run := some { ref := .relay, slot := 0, openAt := 0, chan := 0 }
    relays := [{ header := 0, psdu := [], openAt := 0 }] } }

/-- The copies that LINK_COUNT_MESH counts after a command, and whether an operation runs. -/
def copiesAfter (out : Out) : Nat × Bool :=
  match out with
  | .next t => (t.rdF Reg.LINK_COUNT_MESH 24 8, t.link.run.isSome)
  | _ => (0, false)

/-- The copy goes on the air, and the charge of its band has made the count 0 before it counts. -/
theorem copiesAfter_floodRelay_strayBand : copiesAfter (exec .floodRelay strayBand) = (1, true) := by decide +kernel

end Sys2Proof.Machine
end

section

open Sys2Proof Sys2Proof.Machine

/-- Refutes O39: where the plan puts a channel into a band out of range (`strayBand`), a relayed copy does not raise the
count of copies by one. -/
theorem not_beaconsFloodsAndJoinsFollowTheSequence : ¬ Obligations.BeaconsFloodsAndJoinsFollowTheSequence := by
  unfold Obligations.BeaconsFloodsAndJoinsFollowTheSequence
  rintro ⟨-, -, -, -, -, -, -, -, -, -, -, hrelay, -⟩
  obtain ⟨t, ht, -, hsent⟩ := hrelay { ref := .relay, slot := 0, openAt := 0, chan := 0 }
    { header := 0, psdu := [], openAt := 0 } strayBand (by rfl) (by rfl) (by decide +kernel) (by rfl) (by rfl) (by rfl)
    (by rfl)
  have hcopies := copiesAfter_floodRelay_strayBand
  rw [ht, copiesAfter, Prod.mk.injEq] at hcopies
  obtain ⟨hcount, hruns⟩ := hcopies
  obtain ⟨hnone, -⟩ | ⟨-, -, -, -, hsix⟩ := hsent
  · rw [hnone] at hruns
    exact absurd hruns (by decide)
  · rw [hcount] at hsix
    exact absurd hsix (by decide +kernel)

end

section
/-! PROOF. Annex mode: the flash work of the boot ROM, the frames of HIF-1 and the rescue blocks (03; R96 to R104). -/

namespace Sys2Proof.Machine

section

variable {s t : State} {f : HifFrame} {line : List Byte}

/-! ### Flash work -/

theorem mapGet_filter_of_false {V : Type} {p : Nat → Bool} {a : Nat} (m : List (Nat × V)) (h : p a = false) :
    mapGet (m.filter (fun e => p e.1)) a = none := by
  induction m with
  | nil => rfl
  | cons e m ih =>
    obtain ⟨k, v⟩ := e
    by_cases hk : k = a
    · simp [hk, h, ih]
    · cases hp : p k
      · simp [hp, ih]
      · simp [hp, mapGet, hk, ih]

theorem flashAt_eraseFlash_same (p : Nat) {i : Nat} (hi : i < 256) : (s.eraseFlash p).flashAt p i = {} := by
  have hp : ((256 * p + i) / 256 != p) = false := by
    have hkey : (256 * p + i) / 256 = p := by omega
    simp [hkey]
  exact congrArg (fun x : Option FlashWord => x.getD {}) (mapGet_filter_of_false (p := fun e => e / 256 != p) _ hp)

/-- An erased word stays erased over any erase. -/
theorem flashAt_eraseFlash_of_erased {p q i : Nat} (hi : i < 256) (h : s.flashAt q i = {}) :
    (s.eraseFlash p).flashAt q i = {} := by
  by_cases hq : q = p
  · rw [hq, flashAt_eraseFlash_same p hi]
  · rw [flashAt_eraseFlash_ne hi hq, h]

/-- `n` sectors from `a` on are erased. -/
def State.eraseRun (s : State) (a n : Nat) : State := forRange n s (fun u i => u.eraseFlash (u.physOf (a + i)))

theorem eraseTarget_eq (s : State) (x : Nat) :
    s.eraseTarget x = s.eraseRun (targetSectors x).1 (targetSectors x).2 := rfl

theorem eraseRun_succ (s : State) (a n : Nat) :
    s.eraseRun a (n + 1) = (s.eraseRun a n).eraseFlash ((s.eraseRun a n).physOf (a + n)) := forRange_succ n

theorem eraseRun_withFlash (s : State) (a n : Nat) : s.eraseRun a n = s.withFlash (s.eraseRun a n).store.flash := by
  induction n with
  | zero => rfl
  | succ n ih => rw [eraseRun_succ, ih]; rfl

theorem physOf_eraseRun (s : State) (a n l : Nat) : (s.eraseRun a n).physOf l = s.physOf l := by
  rw [eraseRun_withFlash]
  rfl

theorem flashAt_eraseRun (s : State) (a n : Nat) : ∀ k < n, ∀ i < 256,
    (s.eraseRun a n).flashAt (s.physOf (a + k)) i = {} := by
  induction n with
  | zero => intro k hk; omega
  | succ n ih =>
    intro k hk i hi
    rw [eraseRun_succ, physOf_eraseRun]
    obtain hlt | heq : k < n ∨ k = n := by omega
    · exact flashAt_eraseFlash_of_erased hi (ih k hlt i hi)
    · rw [heq, flashAt_eraseFlash_same _ hi]

theorem progRun_withFlash (s : State) (off : Nat) (bytes : List Byte) :
    s.progRun off bytes = s.withFlash (s.progRun off bytes).store.flash :=
  forRange_induct (P := fun u => u = s.withFlash u.store.flash) rfl fun _ _ u hu => by
    rw [hu]
    rfl

/-! ### Frames -/

theorem annexFrame_of_badCrc {op : Nat} {act : HifFrame → State} (h : parseFrame line = none) :
    s.annexFrame op line act = s := by
  simp [State.annexFrame, h]

theorem annexFrame_of_unknown {op : Nat} {act : HifFrame → State} (hphase : s.boot.phase = .annex)
    (h : parseFrame line = some f) (hop : f.op = 0 ∨ 5 < f.op) : s.annexFrame op line act = s.annexReply f 0x21 := by
  simp [State.annexFrame, hphase, h, hop]

/-- A frame of the row's OP and LEN gets the row's action. -/
theorem annexFrame_of_row {op : Nat} {act : HifFrame → State} (hphase : s.boot.phase = .annex)
    (h : parseFrame line = some f) (hop : f.op = op) (h1 : 1 ≤ op) (h5 : op ≤ 5) (hlen : annexLenOk f = true) :
    s.annexFrame op line act = act f := by
  have hknown : ¬ (op = 0 ∨ 5 < op) := by omega
  simp [State.annexFrame, hphase, h, hop, hknown, hlen]

theorem annexLenOk_empty (hop : f.op = 1 ∨ f.op = 4 ∨ f.op = 5) (hlen : f.len = 0) (hp : f.payload = []) :
    annexLenOk f = true := by
  obtain hop | hop | hop := hop <;> simp [annexLenOk, HifFrame.whole, hop, hlen, hp]

theorem openWrite_of_erased {w : AnnexWrite} (hw : s.boot.annexW = some w) (he : w.erased = true) :
    s.openWrite = some w := by
  simp [State.openWrite, hw, he]

/-! ### An image that passes -/

/-- The counts of the image's kind, COUNT and ANNEX are cleared once its slot is active. -/
def State.countsCleared (s : State) (x : Nat) : State :=
  ((if targetApp x then s.setErrCount 12 0 else ((s.setErrCount 6 0).setErrCount 7 0).setErrCount 8 0).wrF
    Reg.RSTC_CIRC 0 4 0).setB Reg.RSTC_CIRC 16 false

theorem annexAccept_eq (s : State) (x : Nat) :
    s.annexAccept x = ((s.setActive (targetApp x) (targetSlot x)).countsCleared x).writeMirror := rfl

theorem store_countsCleared (s : State) (x : Nat) : (s.countsCleared x).store = s.store := by
  simp only [State.countsCleared, State.setErrCount, State.wrF, State.setB]
  split <;> rfl

theorem rd_countsCleared_ne (x : Nat) {a : Nat} (h1 : a ≠ Reg.RSTC_ERRATA) (h2 : a ≠ Reg.RSTC_CIRC) :
    (s.countsCleared x).rd a = s.rd a := by
  simp only [State.countsCleared, State.setErrCount, State.wrF, State.setB]
  split <;> simp only [rd_wr_ne _ _ h1, rd_wr_ne _ _ h2]

theorem count_countsCleared (s : State) (x : Nat) : (s.countsCleared x).rdF Reg.RSTC_CIRC 0 4 = 0 := by
  exact (rdF_wrF_ne _ _ (by decide)).trans (rdF_wrF_same _ 0 (by decide))

theorem annex_countsCleared (s : State) (x : Nat) : (s.countsCleared x).bit Reg.RSTC_CIRC 16 = false := bit_setB_same _ _ (by decide)

/-- The record is that of the other sectors than the mirror's. -/
theorem record_putRecord_mirror {content : List Byte} (hc : content.length = 8) (h24 : s.physOf 2 ≠ s.physOf 4)
    (h34 : s.physOf 3 ≠ s.physOf 4) : (s.putRecord 4 content).record = s.record := by
  have h0 : (s.putRecord 4 content).slotCopy 0 = s.slotCopy 0 := congrArg _ (frontRecord_putRecord_of_ne hc h24)
  have h1 : (s.putRecord 4 content).slotCopy 1 = s.slotCopy 1 := congrArg _ (frontRecord_putRecord_of_ne hc h34)
  rw [State.record, State.firstCopy, h0, h1]
  rfl

theorem setActive_withFlash (s : State) (app slot : Bool) :
    s.setActive app slot = (s.withFlash (s.setActive app slot).store.flash).setB Reg.CATL_INFO (if app then 5 else 0) slot := by
  rw [setActive_eq, putRecord_withFlash _ _ (length_slotContent _)]
  rfl

/-- A target erased: its words, and nothing but the flash. -/
theorem erasedTarget (s : State) (x : Nat) : (∃ fl, s.eraseTarget x = s.withFlash fl) ∧
    ∀ k < (targetSectors x).2, ∀ i < 256,
      (s.eraseTarget x).flashAt ((s.eraseTarget x).physOf ((targetSectors x).1 + k)) i = {} := by
  rw [eraseTarget_eq]
  refine ⟨⟨_, eraseRun_withFlash s _ _⟩, fun k hk i hi => ?_⟩
  rw [physOf_eraseRun]
  exact flashAt_eraseRun s _ _ k hk i hi

/-! ### The replies -/

theorem txd_annexReply (s : State) (n : Nat) (l : List Byte) : (s.annexReply f n l).hif.txd = replyFrame f n l := rfl

/-- A reply to an END that makes a slot active. -/
def State.accepted (s : State) (w : AnnexWrite) (f : HifFrame) : State :=
  ((s.annexAccept w.target).setWrite (some { w with ended := true })).annexReply f 0 [0]

theorem accepted_regs (s : State) (w : AnnexWrite) (a : Nat) : (s.accepted w f).rd a = (s.annexAccept w.target).rd a := rfl

theorem record_accepted (s : State) (w : AnnexWrite) : (s.accepted w f).record = (s.annexAccept w.target).record :=
  record_congr rfl

theorem mirror_accepted (s : State) (w : AnnexWrite) : (s.accepted w f).mirror = (s.annexAccept w.target).mirror := rfl

/-- What an accepted image leaves in RSTC, in the record and in the mirror. -/
theorem annexAccept_recorded (x : Nat) (hw : s.bit Reg.PWR_STATUS 0 = false) (h23 : s.physOf 2 ≠ s.physOf 3)
    (h24 : s.physOf 2 ≠ s.physOf 4) (h34 : s.physOf 3 ≠ s.physOf 4) (hseq : s.record.seq + 1 < 2 ^ 32) :
    (s.annexAccept x).rdF Reg.RSTC_CIRC 0 4 = 0 ∧ (s.annexAccept x).bit Reg.RSTC_CIRC 16 = false ∧
      (s.annexAccept x).record = s.nextSlots (targetApp x) (targetSlot x) ∧
      (s.annexAccept x).mirror = some ((s.annexAccept x).rd Reg.RSTC_ERRATA, false) := by
  have hactive := setActive_withFlash s (targetApp x) (targetSlot x)
  have hphys : ∀ l, ((s.setActive (targetApp x) (targetSlot x)).countsCleared x).physOf l = s.physOf l := by
    intro l
    rw [physOf_congr (congrArg StoreSt.map (store_countsCleared _ x)) (congrArg StoreSt.factory (store_countsCleared _ x)),
      hactive]
    rfl
  have hrec : ((s.setActive (targetApp x) (targetSlot x)).countsCleared x).record =
      s.nextSlots (targetApp x) (targetSlot x) :=
    (record_congr (store_countsCleared _ x)).trans (record_putSlots h23 rfl hseq)
  have hwarn : ((s.setActive (targetApp x) (targetSlot x)).countsCleared x).bit Reg.PWR_STATUS 0 = false := by
    rw [bit_congr (rd_countsCleared_ne x (by decide) (by decide)), hactive, bit_setB_of_ne _ _ _ (by decide)]
    exact hw
  have hcount := count_countsCleared (s.setActive (targetApp x) (targetSlot x)) x
  have hannex := annex_countsCleared (s.setActive (targetApp x) (targetSlot x)) x
  rw [annexAccept_eq]
  generalize (s.setActive (targetApp x) (targetSlot x)).countsCleared x = u at hphys hrec hwarn hcount hannex
  have hregs : ∀ a, (u.putRecord 4 (mirrorContent (u.rd Reg.RSTC_ERRATA) false)).rd a = u.rd a := by
    intro a
    rw [putRecord_withFlash _ _ (length_mirrorContent _ _)]
    exact rd_congr rfl a
  rw [writeMirror_of_noWarning hwarn, hannex, rdF_congr (hregs _), bit_congr (hregs _), hregs]
  refine ⟨hcount, hannex, ?_, mirror_putRecord _ _⟩
  rw [record_putRecord_mirror (length_mirrorContent _ _) (by rwa [hphys, hphys]) (by rwa [hphys, hphys]), hrec]

/-- An END whose image fails a check. -/
theorem execAnnexEnd_of_failed {w : AnnexWrite} {x : Bool} (hphase : s.boot.phase = .annex)
    (h : parseFrame line = some f) (hop : f.op = 4) (hlen : annexLenOk f = true) (hw : s.openWrite = some w)
    (hc : s.annexCheck w.target x ≠ 0) :
    execAnnexEnd line x s = .next (s.annexReply f 0x26 (leBytes 1 (s.annexCheck w.target x))) := by
  simp [execAnnexEnd, annexFrame_of_row hphase h hop (by omega) (by omega) hlen, hw, hc]

/-- An END whose image passes, without a brown-out warning. -/
theorem execAnnexEnd_of_passed {w : AnnexWrite} {x : Bool} (hphase : s.boot.phase = .annex)
    (h : parseFrame line = some f) (hop : f.op = 4) (hlen : annexLenOk f = true) (hw : s.openWrite = some w)
    (hbow : s.bit Reg.PWR_STATUS 0 = false) (hc : s.annexCheck w.target x = 0) :
    execAnnexEnd line x s = .next (s.accepted w f) := by
  simp [execAnnexEnd, annexFrame_of_row hphase h hop (by omega) (by omega) hlen, hw, hc, hbow, State.accepted]

/-! ### Rescue blocks -/

/-- A block that is heard: annex mode, no image write, no reset due, no warning. -/
theorem execRescueBlockReceived_of_heard {p : List Byte} {x : Bool} (hon : s.onRescue = true)
    (hphase : s.boot.phase = .annex) (hw : s.boot.annexW = none) (hdue : s.boot.resetDue = false)
    (hbow : s.bit Reg.PWR_STATUS 0 = false) (hok : blockOk p = true) :
    execRescueBlockReceived p x s = match s.boot.rescue with
      | none => .next (s.setRescue (some { target := b1 p 2, build := b4 p 4, len := b4 p 8 }))
      | some r =>
        if !r.erased then .next s
        else if r.build < b4 p 4 then .next (s.setRescue (some { target := b1 p 2, build := b4 p 4, len := b4 p 8 }))
        else if b4 p 4 < r.build || b4 p 8 ≠ r.len || b1 p 2 ≠ r.target || r.blocks.contains (b2 p 12) then .next s
        else .next (s.rescueBlock r p x) := by
  simp only [execRescueBlockReceived, hon, hphase, hw, hdue, hbow, hok] <;> rfl

end

end Sys2Proof.Machine
end

section

open Sys2Proof Sys2Proof.Machine

/-- Settles O18: `annexFrame` gives each frame its row; the work on the flash changes the flash alone. -/
theorem annexFramesAreAnsweredByTheTable : Obligations.AnnexFramesAreAnsweredByTheTable := by
  unfold Obligations.AnnexFramesAreAnsweredByTheTable
  refine ⟨?_, ?_, ?_, ?_, ?_, ?_, ?_, ?_⟩
  case refine_1 =>
    intro c x line s hc hbad
    simp only [List.mem_cons, List.not_mem_nil, or_false] at hc
    obtain rfl | rfl | rfl | rfl | rfl := hc
    · rw [exec_annexHello, execAnnexHello, annexFrame_of_badCrc hbad]
    · rw [exec_annexBegin, execAnnexBegin, annexFrame_of_badCrc hbad]
    · rw [exec_annexData, execAnnexData, annexFrame_of_badCrc hbad]
    · rw [exec_annexEnd, execAnnexEnd, annexFrame_of_badCrc hbad]
    · rw [exec_annexReset, execAnnexReset, annexFrame_of_badCrc hbad]
  case refine_2 =>
    intro line f s hphase h hop
    rw [exec_annexHello, execAnnexHello, annexFrame_of_unknown hphase h hop]
    rfl
  case refine_3 =>
    intro line f s hphase h hop hlen hp
    rw [exec_annexHello, execAnnexHello,
      annexFrame_of_row hphase h hop (by omega) (by omega) (annexLenOk_empty (.inl hop) hlen hp)]
    rfl
  case refine_4 =>
    intro line f s hphase h hop hlen hp htarget hrange hbow
    have hok : annexLenOk f = true := by simp [annexLenOk, HifFrame.whole, hop, hlen, hp]
    have ht : ¬ 3 < b1 f.payload 0 := by omega
    rw [exec_annexBegin, execAnnexBegin, annexFrame_of_row hphase h hop (by omega) (by omega) hok]
    simp [ht, hrange, hbow, State.setWrite]
  case refine_5 =>
    intro w s hphase hw herased _ hbow
    obtain ⟨⟨fl, hfl⟩, hwords⟩ := erasedTarget s w.target
    refine ⟨((s.eraseTarget w.target).setWrite (some { w with erased := true })).annexReply ⟨2, w.seq.toNat, 0, []⟩ 0, ?_,
      rfl, rfl, hwords, ?_⟩
    · simp [execAnnexBeginErased, hw, herased, hphase, hbow]
    · rw [hfl]
      exact OnlyRegs.refl _ _
  case refine_6 =>
    intro line f w s hphase h hop hlen h12 h1028 hw herased h8 hd8 hfits hbow hblank
    have hok : annexLenOk f = true := by
      simp only [annexLenOk, HifFrame.whole, hop, Bool.and_eq_true, beq_iff_eq, decide_eq_true_eq]
      exact ⟨hlen, h12, h1028⟩
    refine ⟨(s.progRun (targetOff w.target + b4 f.payload 0) (f.payload.drop 4)).annexReply f 0, ?_, rfl, rfl, ?_⟩
    · rw [exec_annexData, execAnnexData, annexFrame_of_row hphase h hop (by omega) (by omega) hok,
        openWrite_of_erased hw herased]
      simp only [h8, hd8, hbow, hblank, Nat.not_lt.mpr hfits]
      rfl
    · rw [progRun_withFlash]
      exact OnlyRegs.refl _ _
  case refine_7 =>
    intro line x f w s hphase h hop hlen hp hw herased hbow h23 h24 h34 hseq
    have hok := annexLenOk_empty (.inr (.inl hop)) hlen hp
    have hopen := openWrite_of_erased hw herased
    rw [exec_annexEnd]
    by_cases hc : s.annexCheck w.target x = 0
    · refine ⟨s.accepted w f, execAnnexEnd_of_passed hphase h hop hok hopen hbow hc, fun hn => absurd hc hn, fun _ => ?_⟩
      obtain ⟨hcount, hannex, hrec, hmirror⟩ := annexAccept_recorded w.target hbow h23 h24 h34 hseq
      refine ⟨rfl, rfl, hcount, hannex, ?_, ?_, hmirror⟩
      · rw [record_accepted, hrec, State.nextSlots]
        split <;> simp_all
      · rw [record_accepted, hrec, State.nextSlots]
    · exact ⟨_, execAnnexEnd_of_failed hphase h hop hok hopen hc, fun _ => rfl, fun hn => absurd hn hc⟩
  case refine_8 =>
    intro line f w s hphase h hop hlen hp hw hended
    rw [exec_annexReset, execAnnexReset, annexFrame_of_row hphase h hop (by omega) (by omega)
      (annexLenOk_empty (.inr (.inr hop)) hlen hp)]
    simp only [hw, hended, if_true]
    simp [State.dueReset, State.annexReply, State.hifSend, hw]

end

section

open Sys2Proof Sys2Proof.Machine

/-- Settles O19: what a heard block does turns on the collection that runs and on the block's fields. -/
theorem rescueCollectsOneImageAtATime : Obligations.RescueCollectsOneImageAtATime := by
  unfold Obligations.RescueCollectsOneImageAtATime
  refine ⟨?_, ?_, ?_, ?_, ?_⟩
  case refine_1 =>
    intro p x s hon hphase hw hdue hbow hok hr
    rw [exec_rescueBlockReceived, execRescueBlockReceived_of_heard hon hphase hw hdue hbow hok, hr]
    rfl
  case refine_2 =>
    intro p x r s hon hphase hw hdue hbow hok hr herased hhigher
    rw [exec_rescueBlockReceived, execRescueBlockReceived_of_heard hon hphase hw hdue hbow hok, hr]
    simp [herased, hhigher, State.setRescue]
  case refine_3 =>
    intro p x r s hon hphase hw hdue hbow hok hr hother
    rw [exec_rescueBlockReceived, execRescueBlockReceived_of_heard hon hphase hw hdue hbow hok, hr]
    obtain herased | hlower | ⟨hsame, hdiff⟩ := hother
    · simp [herased]
    · simp [hlower, Nat.not_lt.mpr hlower.le]
    · have hn : ¬ r.build < b4 p 4 := by omega
      have hskip : (b4 p 4 < r.build || b4 p 8 ≠ r.len || b1 p 2 ≠ r.target || r.blocks.contains (b2 p 12)) = true := by
        simp only [Bool.or_eq_true, decide_eq_true_eq]
        tauto
      simp only [if_neg hn, if_pos hskip, ite_self]
  case refine_4 =>
    intro p x r s hon hphase hw hdue hbow hok hr herased hbuild hlen htarget hnew hmore
    have hmore' : (r.blocks ++ [b2 p 12]).length ≠ r.total := by
      rw [List.length_append, List.length_singleton]
      omega
    refine ⟨(s.progRun (targetOff r.target + 224 * b2 p 12)
      ((p.drop 16).take (min 224 ((r.len + 7) / 8 * 8 - 224 * b2 p 12)))).setRescue
        (some { r with blocks := r.blocks ++ [b2 p 12] }), ?_, rfl, rfl, ?_⟩
    · rw [exec_rescueBlockReceived, execRescueBlockReceived_of_heard hon hphase hw hdue hbow hok, hr]
      simp only [herased, hbuild, hlen, htarget, hnew, State.rescueBlock, if_neg hmore']
      simp
    · rw [progRun_withFlash]
      exact OnlyRegs.refl _ _
  case refine_5 =>
    intro r s hr herased hbow
    obtain ⟨⟨fl, hfl⟩, hwords⟩ := erasedTarget s r.target
    refine ⟨(s.eraseTarget r.target).setRescue (some { r with erased := true }), ?_, rfl, hwords, ?_⟩
    · simp [execRescueEraseDone, hr, herased, hbow]
    · rw [hfl]
      exact OnlyRegs.refl _ _

end

section
/-! PROOF. The slot boundary and the start of an air operation (11, Running an operation; R312, R356, R359, R361). -/

namespace Sys2Proof.Machine

section

variable {s t : State} {o r : RunOp} {k : Nat}

/-! ### SYNC -/

theorem checkSync_of_kept (h : s.bit Reg.LINK_STATUS 0 = false ∨ s.lostNow = false) : s.checkSync = s := by
  obtain h | h := h <;> simp [State.checkSync, h]

theorem checkSync_of_lost (h : s.bit Reg.LINK_STATUS 0 = true) (hl : s.lostNow = true) :
    s.checkSync = ((s.setB Reg.LINK_STATUS 0 false).satAdd Reg.LINK_COUNT_MESH 16 8).event 73 := by
  simp [State.checkSync, h, hl]

/-! ### The end of a table entry -/

/-- Entry `k` as it stands after its end. -/
def State.endedOp (s : State) (k result : Nat) : AirOp :=
  { s.airOp k with state := if (s.airOp k).repeat_ then 1 else 3, result := result, started := false }

theorem endAirOp_eq (s : State) (k result : Nat) : s.endAirOp k result =
    (((s.setAirOp k (s.endedOp k result)).setB Reg.LINK_OP_ENDED k true).event 65).eventIf (result == 6) 78 := rfl

theorem endedOp_state_ne (s : State) (k result : Nat) : (s.endedOp k result).state ≠ 0 := by
  simp only [State.endedOp]
  split <;> decide

theorem link_endAirOp (s : State) (k result : Nat) :
    (s.endAirOp k result).link = (s.setAirOp k (s.endedOp k result)).link := by
  rw [endAirOp_eq, eventIf_link, event_link]
  rfl

theorem run_endAirOp (s : State) (k result : Nat) : (s.endAirOp k result).link.run = s.link.run := by
  rw [link_endAirOp]
  rfl

theorem airOp_endAirOp (s : State) (k result : Nat) : (s.endAirOp k result).airOp k = s.endedOp k result := by
  have hk : (s.setAirOp k (s.endedOp k result)).airOp k = s.endedOp k result :=
    airOp_setAirOp_same k fun h => absurd h (endedOp_state_ne s k result)
  rw [State.airOp, link_endAirOp]
  exact hk

theorem ended_endAirOp (s : State) (hk : k < 32) (result : Nat) : (s.endAirOp k result).bit Reg.LINK_OP_ENDED k = true := by
  rw [endAirOp_eq, bit_congr (rd_eventIf_ne _ _ (by decide) (by decide) (by decide)),
    bit_congr (rd_event_ne _ (by decide) (by decide) (by decide)), bit_setB_same _ _ hk]

theorem pending1_endAirOp_ended (s : State) (k result : Nat) : (s.endAirOp k result).pending1 65 = true := by
  rw [endAirOp_eq, pending1_eventIf _ (by decide) (by decide), pending1_event_self _ (by decide), Bool.true_or]

/-- The end of an entry leaves every register but its own ones and those of an event. -/
theorem rd_endAirOp_ne (s : State) (k result : Nat) {a : Nat} (h1 : a ≠ Reg.LINK_STATUS) (h2 : a ≠ Reg.LINK_OP_ENDED)
    (h3 : a ≠ Reg.INTC_PEND 2) (h4 : a ≠ Reg.INTC_OVR) (h5 : a ≠ Reg.PWR_COUNT) :
    (s.endAirOp k result).rd a = s.rd a := by
  rw [endAirOp_eq, rd_eventIf_ne _ _ h3 h4 h5, rd_event_ne _ h3 h4 h5, State.setB, State.wrF, rd_wr_ne _ _ h2, setAirOp_eq, State.wrF,
    rd_wr_ne _ _ h1]
  exact rd_congr rfl a

theorem pending1_endAirOp_missed (s : State) (k result : Nat) :
    (s.endAirOp k result).pending1 78 = (s.pending1 78 || result == 6) := by
  rw [endAirOp_eq, pending1_eventIf _ (by decide) (by decide), pending1_event (by decide) (by decide)]
  have hregs : ((s.setAirOp k (s.endedOp k result)).setB Reg.LINK_OP_ENDED k true).pending1 78 = s.pending1 78 := by
    refine bit_congr ?_ (78 % 32)
    rw [State.setB, State.wrF, rd_wr_ne _ _ (by decide), setAirOp_eq, State.wrF, rd_wr_ne _ _ (by decide)]
    exact rd_congr rfl _
  simp [hregs]

/-! ### CLASH -/

/-- A table entry has ended CLASH, counted and reported. -/
structure Clashed (s t : State) (k : Nat) : Prop where
  result : (t.airOp k).result = 9
  counted : t.rdF Reg.LINK_COUNT_TX 24 8 = min (s.rdF Reg.LINK_COUNT_TX 24 8 + 1) 255
  pending : t.pending1 65 = true
  ended : t.bit Reg.LINK_OP_ENDED k = true

/-- A state that differs in what the sequence keeps. -/
def State.withSeq (s : State) (sv : List (Nat × OpRef)) (rn : Option RunOp) : State :=
  { s with link := { s.link with served := sv, run := rn } }

theorem rdF_withSeq (s : State) (sv : List (Nat × OpRef)) (rn : Option RunOp) (a lo len : Nat) :
    (s.withSeq sv rn).rdF a lo len = s.rdF a lo len := rdF_congr (rd_congr rfl a) lo len

theorem clashed_endAirOp (s : State) (sv : List (Nat × OpRef)) (rn : Option RunOp) (hk : k < 32) :
    Clashed s (((s.withSeq sv rn).satAdd Reg.LINK_COUNT_TX 24 8).endAirOp k 9) k where
  result := by rw [airOp_endAirOp]; rfl
  counted := by
    rw [rdF_congr (rd_endAirOp_ne _ _ _ (by decide) (by decide) (by decide) (by decide) (by decide)),
      rdF_satAdd_same _ (by decide), rdF_withSeq]
    rfl
  pending := pending1_endAirOp_ended _ _ _
  ended := ended_endAirOp _ hk _

theorem clashOp_table (s : State) (href : o.ref = .table k) : s.clashOp o =
    ((s.withSeq (s.link.served ++ [(o.slot, o.ref)]) s.link.run).satAdd Reg.LINK_COUNT_TX 24 8).endAirOp k 9 := by
  have hserved : s.serveOp o = s.withSeq (s.link.served ++ [(o.slot, o.ref)]) s.link.run := rfl
  simp only [State.clashOp, href, hserved]

theorem giveWay_of_idle (h : s.link.run = none) : s.giveWay o = s := by
  simp [State.giveWay, h]

theorem giveWay_of_kept (h : ∀ r ∈ s.link.run, r.ref.rank ≤ o.ref.rank ∨ (r.phase ≠ .power ∧ r.phase ≠ .ready)) :
    s.giveWay o = s := by
  unfold State.giveWay
  split
  next r hr =>
    refine if_neg fun hc => ?_
    simp only [Bool.and_eq_true, decide_eq_true_eq, Bool.or_eq_true, beq_iff_eq] at hc
    obtain hrank | ⟨hp, hq⟩ := h r hr
    · omega
    · exact hc.2.elim hp hq
  · rfl

theorem giveWay_table (hr : s.link.run = some r) (href : r.ref = .table k) (hrank : o.ref.rank < 3 + k)
    (hphase : r.phase = .power ∨ r.phase = .ready) :
    s.giveWay o = ((s.withSeq s.link.served none).satAdd Reg.LINK_COUNT_TX 24 8).endAirOp k 9 := by
  have hrank' : o.ref.rank < (OpRef.table k).rank := hrank
  have hp : (r.phase == .power || r.phase == .ready) = true := by
    obtain hp | hp := hphase <;> simp [hp]
  simp only [State.giveWay, hr, href, decide_eq_true hrank', hp]
  rfl

/-! ### The start -/

/-- A table entry becomes ACTIVE. -/
def State.activated (s : State) (ref : OpRef) : State :=
  match ref with
  | .table k => s.setAirOp k { s.airOp k with state := 2 }
  | _ => s

theorem onlyRegs_activated (s : State) (ref : OpRef) :
    OnlyRegs [Reg.LINK_STATUS] { s with link := (s.activated ref).link } (s.activated ref) := by
  cases ref with
  | table k => exact (OnlyRegs.refl _ _).wrF (by simp)
  | _ => exact OnlyRegs.refl _ _

theorem seq_activated (s : State) (ref : OpRef) :
    (s.activated ref).link.run = s.link.run ∧ (s.activated ref).link.served = s.link.served ∧
      (s.activated ref).front = s.front := by
  cases ref <;> exact ⟨rfl, rfl, rfl⟩

theorem airOp_activated_ne (s : State) {ref : OpRef} (h : ref ≠ .table k) : (s.activated ref).airOp k = s.airOp k := by
  cases ref with
  | table j =>
    have hne : k ≠ j := fun e => h (e ▸ rfl)
    exact airOp_setAirOp_ne _ hne
  | _ => rfl

/-- The sequence with an operation served and running. -/
def State.running (s : State) (o : RunOp) : State := s.withSeq (s.link.served ++ [(o.slot, o.ref)]) (some o)

theorem startOp_eq (s : State) (o : RunOp) : s.startOp o = ((s.running o).activated o.ref).withStrobes
    (((s.running o).activated o.ref).front.strobes ++ [⟨1, s.chan24 o.chan, s.chan24 o.chan⟩]) := rfl

theorem onlyRegs_startOp (s : State) (o : RunOp) : OnlyRegs [Reg.LINK_STATUS]
    { s with link := (s.startOp o).link, front := { s.front with strobes := (s.startOp o).front.strobes } } (s.startOp o) := by
  obtain ⟨hregs, hmem, hrest⟩ := onlyRegs_activated (s.running o) o.ref
  have heq := startOp_eq s o
  refine ⟨fun a ha => ?_, fun x => ?_, ?_⟩
  · rw [heq, rd_withStrobes, hregs a ha]
    exact rd_congr rfl a
  · rw [heq]
    exact (hmem x).trans (byteAt_congr rfl rfl x)
  · rw [heq, hrest]
    rfl

theorem run_startOp (s : State) (o : RunOp) : (s.startOp o).link.run = some o :=
  (seq_activated (s.running o) o.ref).1

theorem served_startOp (s : State) (o : RunOp) : (s.startOp o).link.served = s.link.served ++ [(o.slot, o.ref)] :=
  (seq_activated (s.running o) o.ref).2.1

theorem strobes_startOp (s : State) (o : RunOp) :
    (s.startOp o).front.strobes = s.front.strobes ++ [⟨1, s.chan24 o.chan, s.chan24 o.chan⟩] :=
  congrArg (fun f : FrontSt => f.strobes ++ [⟨1, s.chan24 o.chan, s.chan24 o.chan⟩]) (seq_activated (s.running o) o.ref).2.2

theorem rd_startOp_ne (s : State) (o : RunOp) {a : Nat} (h : a ≠ Reg.LINK_STATUS) : (s.startOp o).rd a = s.rd a :=
  ((onlyRegs_startOp s o).1 a (by simpa using h)).trans (rd_congr rfl a)

theorem airOp_startOp_ne (s : State) (o : RunOp) (h : o.ref ≠ .table k) : (s.startOp o).airOp k = s.airOp k :=
  airOp_activated_ne (s.running o) h

/-- An entry that has clashed stays so when another operation starts. -/
theorem Clashed.startOp (h : Clashed s t k) (hne : o.ref ≠ .table k) : Clashed s (t.startOp o) k where
  result := by rw [airOp_startOp_ne t o hne]; exact h.result
  counted := by rw [rdF_congr (rd_startOp_ne t o (by decide))]; exact h.counted
  pending := (bit_congr (rd_startOp_ne t o (by decide)) _).trans h.pending
  ended := (bit_congr (rd_startOp_ne t o (by decide)) _).trans h.ended

/-! ### AIROP_START with one due operation -/

/-- The operations that the start considers. -/
def State.startable (s : State) : List RunOp := s.opsFrom s.ticks 2

/-- The operations whose power-up instant has come. -/
def State.dueOps (s : State) : List RunOp := s.startable.filter (fun o => s.reached (s.powerUpAt o))

/-- An operation overlaps one that goes before it. -/
def State.preceded (s : State) (o : RunOp) : Bool :=
  s.startable.any (fun x => decide (x.ref.rank < o.ref.rank) && s.overlap x o)

theorem execAiropStart_of_none (hsync : s.checkSync = s) (h : s.dueOps = []) : execAiropStart s = .next s := by
  have hdue : (s.opsFrom s.ticks 2).filter (fun o => s.reached (s.powerUpAt o)) = [] := h
  simp only [execAiropStart, hsync, hdue]
  rfl

/-- A single due operation starts where nothing goes before it and none runs on. -/
theorem execAiropStart_of_starts (hsync : s.checkSync = s) (h : s.dueOps = [o]) (hp : s.preceded o = false)
    (hrun : (s.giveWay o).link.run = none) : execAiropStart s = .next ((s.giveWay o).startOp o) := by
  have hdue : (s.opsFrom s.ticks 2).filter (fun o => s.reached (s.powerUpAt o)) = [o] := h
  have hfirst : firstOp [o] = some o := rfl
  have hp' : (s.opsFrom s.ticks 2).any (fun x => decide (x.ref.rank < o.ref.rank) && s.overlap x o) = false := hp
  simp only [execAiropStart, hsync, hdue, hfirst, hp']
  simp [hrun]

/-- A single due operation loses to one that runs on. -/
theorem execAiropStart_of_loses (hsync : s.checkSync = s) (h : s.dueOps = [o]) (hway : s.giveWay o = s)
    (hrun : s.link.run.isSome = true) : execAiropStart s = .next (s.clashOp o) := by
  have hdue : (s.opsFrom s.ticks 2).filter (fun o => s.reached (s.powerUpAt o)) = [o] := h
  have hfirst : firstOp [o] = some o := rfl
  simp only [execAiropStart, hsync, hdue, hfirst, hway, ite_self, hrun, Bool.or_true, if_true]
  rfl

/-! ### The slot boundary -/

/-- The calls and the join at the boundary of a slot: a new period clears them at position 0. -/
def State.boundaryLink (s : State) (slot : Nat) (zero : Prop) [Decidable zero] (due : Bool) : State :=
  let s2 : State := { s with link := { s.link with served := s.link.served.filter (fun p => slot ≤ p.1) } }
  let s3 := if zero then s2.newPeriod else s2
  { s3 with cal := { s3.cal with due := s3.cal.due || due } }

theorem execSlotBoundary_of_boundary (h : s.ticks % s.slotTicks = 0) (hholds : s.checkSync.qe.holds = []) :
    execSlotBoundary s = .next ((s.checkSync.boundaryLink s.slotNow (s.position s.slotNow = 0)
      (s.bit Reg.CAL_STATUS 5 && s.link.run.isSome)).eventIf (s.bit Reg.LINK_CTRL 1 && !s.asleep) 64) := by
  have hend : s.checkSync.endHolds = s.checkSync := by rw [State.endHolds, hholds]; rfl
  simp only [execSlotBoundary, if_pos h, hend]
  rfl

theorem boundaryLink_eq (s : State) (slot : Nat) (zero : Prop) [Decidable zero] (due : Bool) :
    s.boundaryLink slot zero due = { s with link := (s.boundaryLink slot zero due).link, cal := (s.boundaryLink slot zero due).cal } := by
  unfold State.boundaryLink
  split <;> rfl

theorem rd_boundaryLink (s : State) (slot : Nat) (zero : Prop) [Decidable zero] (due : Bool) (a : Nat) :
    (s.boundaryLink slot zero due).rd a = s.rd a := by
  rw [boundaryLink_eq]
  exact rd_congr rfl a

/-- What the boundary leaves in the sequence's lists and of the calibration. -/
theorem boundaryLink_lists (s : State) (slot : Nat) (zero : Prop) [Decidable zero] (due : Bool) :
    (s.boundaryLink slot zero due).link.served = s.link.served.filter (fun p => slot ≤ p.1) ∧
      (zero → (s.boundaryLink slot zero due).link.calls = []) ∧
      (¬ zero → (s.boundaryLink slot zero due).link.calls = s.link.calls) ∧
      (s.boundaryLink slot zero due).cal.due = (s.cal.due || due) := by
  unfold State.boundaryLink
  dsimp only
  split
  next hz => exact ⟨rfl, fun _ => rfl, fun hn => absurd hz hn, rfl⟩
  next hz => exact ⟨rfl, fun h => absurd h hz, fun _ => rfl, rfl⟩

end

end Sys2Proof.Machine
end

section

open Sys2Proof Sys2Proof.Machine

/-- Settles O36: the boundary touches the sequence's lists alone; a single due operation starts, or one of two entries
ends CLASH. -/
theorem slotsOpenOperationsInTheirOrder : Obligations.SlotsOpenOperationsInTheirOrder := by
  unfold Obligations.SlotsOpenOperationsInTheirOrder
  refine ⟨?_, ?_, ?_, ?_, ?_, ?_, ?_, ?_, ?_, ?_, ?_⟩
  case refine_1 =>
    intro s h
    rw [exec_slotBoundary, execSlotBoundary, if_neg h]
  case refine_2 =>
    intro s h hsync hholds hen hawake
    have hkept := checkSync_of_kept hsync
    rw [exec_slotBoundary, execSlotBoundary_of_boundary h (by rw [hkept]; exact hholds), hkept, hen, hawake]
    obtain ⟨hserved, hzero, hpos, hdue⟩ := boundaryLink_lists s s.slotNow (s.position s.slotNow = 0)
      (s.bit Reg.CAL_STATUS 5 && s.link.run.isSome)
    have heq := boundaryLink_eq s s.slotNow (s.position s.slotNow = 0) (s.bit Reg.CAL_STATUS 5 && s.link.run.isSome)
    generalize s.boundaryLink s.slotNow (s.position s.slotNow = 0) (s.bit Reg.CAL_STATUS 5 && s.link.run.isSome) = u at *
    refine ⟨u.event 64, rfl, pending1_event_self _ (by decide), ?_, ?_, ?_, ?_, ?_⟩
    · rw [event_link, hserved]
    · rwa [event_link]
    · rwa [event_link]
    · rw [event_cal, hdue]
    · rw [event_link, event_cal, ← heq]
      exact (OnlyEvents.refl _ _).event (by simp [eventRegs]) (by simp [eventRegs])
  case refine_3 =>
    intro s h hsync hholds hoff
    have hkept := checkSync_of_kept hsync
    have hnone : (s.bit Reg.LINK_CTRL 1 && !s.asleep) = false := by
      obtain hoff | hoff := hoff <;> simp [hoff]
    rw [exec_slotBoundary, execSlotBoundary_of_boundary h (by rw [hkept]; exact hholds), hkept, hnone]
    exact ⟨_, rfl, boundaryLink_eq _ _ _ _⟩
  case refine_4 =>
    intro s h hsync hlost hholds
    have hgone := checkSync_of_lost hsync hlost
    rw [exec_slotBoundary, execSlotBoundary_of_boundary h (by rw [hgone, event_qe]; exact hholds), hgone]
    refine ⟨_, rfl, ?_, ?_, ?_⟩
    · rw [bit_congr (rd_eventIf_ne _ _ (by decide) (by decide) (by decide)), bit_congr (rd_boundaryLink _ _ _ _ _),
        bit_congr (rd_event_ne _ (by decide) (by decide) (by decide)), bit_satAdd_of_ne _ _ _ _ (by decide),
        bit_setB_same _ _ (by decide)]
    · rw [rdF_congr (rd_eventIf_ne _ _ (by decide) (by decide) (by decide)), rdF_congr (rd_boundaryLink _ _ _ _ _),
        rdF_congr (rd_event_ne _ (by decide) (by decide) (by decide)), rdF_satAdd_same _ (by decide),
        rdF_setB_of_ne _ _ _ (by decide)]
      rfl
    · rw [pending1_eventIf _ (by decide) (by decide), State.pending1, bit_congr (rd_boundaryLink _ _ _ _ _)]
      exact Bool.or_eq_true_iff.mpr (.inl (pending1_event_self _ (by decide)))
  case refine_5 =>
    intro s hsync hdue
    exact execAiropStart_of_none (checkSync_of_kept hsync) hdue
  case refine_6 =>
    intro o s hsync hdue hrun hfirst
    have hway : s.giveWay o = s := giveWay_of_idle hrun
    have hstart := execAiropStart_of_starts (checkSync_of_kept hsync) hdue hfirst (by rw [hway]; exact hrun)
    rw [hway] at hstart
    exact ⟨_, hstart, run_startOp s o, served_startOp s o, strobes_startOp s o, onlyRegs_startOp s o⟩
  case refine_7 =>
    intro o k s hsync hdue hrun hkept href hk _
    have hclash := clashed_endAirOp s (s.link.served ++ [(o.slot, o.ref)]) s.link.run hk
    refine ⟨_, execAiropStart_of_loses (checkSync_of_kept hsync) hdue (giveWay_of_kept hkept) hrun, ?_⟩
    rw [clashOp_table s href]
    exact ⟨hclash.result, run_endAirOp _ _ _, hclash.counted, hclash.pending, hclash.ended⟩
  case refine_8 =>
    intro o r k s hsync hdue hfirst hr href hk hrank hphase
    have hway := giveWay_table (o := o) hr href hrank hphase
    have hne : o.ref ≠ .table k := by
      intro e
      rw [e, OpRef.rank] at hrank
      omega
    have hclash := (clashed_endAirOp s s.link.served none hk).startOp hne
    rw [exec_airopStart, execAiropStart_of_starts (checkSync_of_kept hsync) hdue hfirst
      (by rw [hway, run_endAirOp]; rfl), hway]
    exact ⟨_, rfl, run_startOp _ _, hclash.result, hclash.counted, hclash.pending, hclash.ended⟩
  case refine_9 =>
    intro k s hfabric hwaiting
    refine ⟨s.setAirOp k { s.airOp k with started := true }, ?_, airOp_setAirOp_same _ ?_, fun j hj => airOp_setAirOp_ne _ hj⟩
    · simp [execAiropFabricTask, hfabric, hwaiting]
    · intro h0
      exact absurd (hwaiting.symm.trans h0) (by decide)
  case refine_10 =>
    intro k s h
    obtain h | h := h <;> simp [execAiropFabricTask, h]
  case refine_11 =>
    intro k r s
    refine ⟨?_, ?_, ended_endAirOp s k.isLt r, pending1_endAirOp_ended s k r, ?_, ?_⟩
    · rw [airOp_endAirOp]
      rfl
    · rw [airOp_endAirOp]
      rfl
    · intro h
      simp [pending1_endAirOp_missed, h]
    · intro h
      simp [pending1_endAirOp_missed, h]

end

section
/-! PROOF. GPIO pins, their task ports and edges, and the ADC (18; R622 to R630). -/

namespace Sys2Proof.Machine

section

variable {s t : State} {n p : Nat} {v : Bool}

/-! ### Task ports -/

theorem filter_ports (k : Fin 8) : (List.range 8).filter (fun i => [k.val].contains i) = [k.val] := by
  revert k
  decide

theorem filter_ports_pair {k l : Fin 8} (h : k.val < l.val) :
    (List.range 8).filter (fun i => [k.val, l.val].contains i) = [k.val, l.val] := by
  revert k l
  decide

/-- The software's values in both output registers. -/
def State.outsSet (s : State) : State := (s.wr (Reg.GPIO_OUT 0) (s.outBase 0)).wr (Reg.GPIO_OUT 1) (s.outBase 1)

theorem portsAct_one {k : Fin 8} (h : s.cyc.ports = [k.val]) : s.portsAct = s.outsSet.portAct k := by
  simp only [State.portsAct, h, filter_ports]
  rfl

theorem portsAct_two {k l : Fin 8} (h : s.cyc.ports = [k.val, l.val]) (hlt : k.val < l.val) :
    s.portsAct = (s.outsSet.portAct k).portAct l := by
  simp only [State.portsAct, h, filter_ports_pair hlt]
  rfl

theorem rd_outsSet_zero (s : State) : s.outsSet.rd (Reg.GPIO_OUT 0) = s.outBase 0 := by
  rw [State.outsSet, rd_wr_ne _ _ (by decide), rd_wr_same]

theorem rd_outsSet_one (s : State) : s.outsSet.rd (Reg.GPIO_OUT 1) = s.outBase 1 := by
  rw [State.outsSet, rd_wr_same]

theorem rd_outsSet_out (s : State) {j : Nat} (hj : j < 2) : s.outsSet.rd (Reg.GPIO_OUT j) = s.outBase j := by
  obtain rfl | rfl : j = 0 ∨ j = 1 := by omega
  · exact rd_outsSet_zero s
  · exact rd_outsSet_one s

theorem rd_outsSet_ne (s : State) {a : Nat} (h0 : a ≠ Reg.GPIO_OUT 0) (h1 : a ≠ Reg.GPIO_OUT 1) :
    s.outsSet.rd a = s.rd a := by
  rw [State.outsSet, rd_wr_ne _ _ h1, rd_wr_ne _ _ h0]

theorem isGpio_outsSet (s : State) (p : Nat) : s.outsSet.isGpio p = s.isGpio p := rfl

theorem isGpio_setB (s : State) (a i : Nat) (b : Bool) (p : Nat) : (s.setB a i b).isGpio p = s.isGpio p := rfl

theorem tpCfg_ne_out (k j : Nat) (hk : k < 8) (hj : j < 2) : Reg.GPIO_TP_CFG k ≠ Reg.GPIO_OUT j := by
  simp only [Reg.GPIO_TP_CFG, Reg.GPIO_OUT]
  omega

theorem tpCfg_outsSet (s : State) (k : Fin 8) (lo len : Nat) :
    s.outsSet.rdF (Reg.GPIO_TP_CFG k) lo len = s.rdF (Reg.GPIO_TP_CFG k) lo len :=
  rdF_congr (rd_outsSet_ne s (tpCfg_ne_out k 0 k.isLt (by decide)) (tpCfg_ne_out k 1 k.isLt (by decide))) lo len

/-- A port that has no GPIO pin or no action leaves the state. -/
theorem portAct_of_none {k : Nat} (hp : p = s.rdF (Reg.GPIO_TP_CFG k) 0 6)
    (h : s.isGpio p = false ∨ s.rdF (Reg.GPIO_TP_CFG k) 8 2 = 0) : s.portAct k = s := by
  subst hp
  obtain h | h := h <;> simp [State.portAct, h]

/-- What a port's action makes of its pin's level. -/
def actLevel (act : Nat) (b : Bool) : Bool :=
  match act with
  | 1 => true
  | 2 => false
  | _ => !b

theorem portAct_of_gpio {k act : Nat} (hp : p = s.rdF (Reg.GPIO_TP_CFG k) 0 6) (hg : s.isGpio p = true)
    (hact : s.rdF (Reg.GPIO_TP_CFG k) 8 2 = act) (h1 : 1 ≤ act) (h3 : act ≤ 3) :
    s.portAct k = s.setB (Reg.GPIO_OUT (p / 32)) (p % 32) (actLevel act (s.bit (Reg.GPIO_OUT (p / 32)) (p % 32))) := by
  subst hp
  obtain h | h | h : act = 1 ∨ act = 2 ∨ act = 3 := by omega
  · simp [State.portAct, hg, hact, h, actLevel]
  · simp [State.portAct, hg, hact, h, actLevel]
  · simp [State.portAct, hg, hact, h, actLevel]

/-- The state in which a lone port of a cycle acts. -/
def State.portDue (s : State) (k : Fin 8) : State :=
  { s with cyc := { s.cyc with
    gpioBase := if s.cyc.ports.isEmpty then [(0, s.rd (Reg.GPIO_OUT 0)), (1, s.rd (Reg.GPIO_OUT 1))] else s.cyc.gpioBase,
    ports := k.val :: s.cyc.ports } }

theorem execGpioTaskPort_eq (k : Fin 8) (s : State) : execGpioTaskPort k s = .next (s.portDue k).portsAct := rfl

/-- The first port of a cycle finds the values of the output registers as they are. -/
theorem outsSet_portDue {k : Fin 8} (h : s.cyc.ports = []) :
    OnlyRegs [] { s with cyc := (s.portDue k).outsSet.cyc } (s.portDue k).outsSet := by
  have h0 : (s.portDue k).outBase 0 = s.rd (Reg.GPIO_OUT 0) := by
    simp [State.portDue, State.outBase, h, mapGet]
  have h1 : (s.portDue k).outBase 1 = s.rd (Reg.GPIO_OUT 1) := by
    simp [State.portDue, State.outBase, h, mapGet]
  refine ⟨fun a _ => ?_, fun x => byteAt_congr rfl rfl x, rfl⟩
  by_cases ha1 : a = Reg.GPIO_OUT 1
  · rw [ha1, rd_outsSet_one, h1]
    exact (rd_congr rfl _).symm
  · by_cases ha0 : a = Reg.GPIO_OUT 0
    · rw [ha0, rd_outsSet_zero, h0]
      exact (rd_congr rfl _).symm
    · rw [rd_outsSet_ne _ ha0 ha1]
      exact rd_congr rfl a

theorem rd_portDue (s : State) (k : Fin 8) (a : Nat) : (s.portDue k).rd a = s.rd a := rd_congr rfl a

theorem isGpio_portDue (s : State) (k : Fin 8) (p : Nat) : (s.portDue k).isGpio p = s.isGpio p := rfl

theorem tpCfg_portDue (s : State) (k i : Fin 8) (lo len : Nat) :
    (s.portDue k).outsSet.rdF (Reg.GPIO_TP_CFG i) lo len = s.rdF (Reg.GPIO_TP_CFG i) lo len := by
  rw [tpCfg_outsSet]
  exact rdF_congr (rd_portDue s k _) lo len

/-- A lone port with an action sets its pin's level, and no other bit of its register. -/
theorem execGpioTaskPort_of_gpio {k : Fin 8} {act : Nat} (hp : p = s.rdF (Reg.GPIO_TP_CFG k) 0 6) (hports : s.cyc.ports = [])
    (hg : s.isGpio p = true) (hact : s.rdF (Reg.GPIO_TP_CFG k) 8 2 = act) (h1 : 1 ≤ act) (h3 : act ≤ 3) :
    ∃ t, execGpioTaskPort k s = .next t ∧
      t.bit (Reg.GPIO_OUT (p / 32)) (p % 32) = actLevel act (s.bit (Reg.GPIO_OUT (p / 32)) (p % 32)) ∧
      OnlyRegs [Reg.GPIO_OUT (p / 32)] { s with cyc := t.cyc } t ∧
      ∀ i < 32, i ≠ p % 32 → t.bit (Reg.GPIO_OUT (p / 32)) i = s.bit (Reg.GPIO_OUT (p / 32)) i := by
  have hone : (s.portDue k).cyc.ports = [k.val] := by rw [State.portDue, hports]
  have hsame := outsSet_portDue (k := k) hports
  have hbit : ∀ i, (s.portDue k).outsSet.bit (Reg.GPIO_OUT (p / 32)) i = s.bit (Reg.GPIO_OUT (p / 32)) i := fun i =>
    bit_congr ((hsame.1 _ (by simp)).trans (rd_congr rfl _)) i
  have hset := portAct_of_gpio (s := (s.portDue k).outsSet) (k := k) (hp.trans (tpCfg_portDue s k k 0 6).symm) hg
    ((tpCfg_portDue s k k 8 2).trans hact) h1 h3
  refine ⟨_, execGpioTaskPort_eq k s, ?_, ?_, fun i hi hne => ?_⟩
  · rw [portsAct_one hone, hset, bit_setB_same _ _ (Nat.mod_lt _ (by decide)), hbit]
  · rw [portsAct_one hone, hset]
    exact OnlyRegs.setB (hsame.mono (by simp)) (by simp)
  · rw [portsAct_one hone, hset, bit_setB_ne _ _ hne, hbit]

/-! ### Software writes -/

theorem setOut_of_alone {j : Nat} (h : s.cyc.ports = []) (hb : s.cyc.gpioBase = []) (w : Word) :
    s.setOut j w = s.wr (Reg.GPIO_OUT j) (w &&& s.gpioMask j) ∧ s.outBase j = s.rd (Reg.GPIO_OUT j) := by
  simp [State.setOut, State.outBase, h, hb]

/-- A software write in a cycle in which ports have come. -/
def State.written (s : State) (j : Nat) (w : Word) : State :=
  { s with cyc := { s.cyc with gpioBase := (j, w &&& s.gpioMask j) :: s.cyc.gpioBase } }

theorem setOut_of_ports {j k : Nat} (h : s.cyc.ports = [k]) (w : Word) : s.setOut j w = (s.written j w).portsAct := by
  simp [State.setOut, State.written, h]

theorem outBase_written (s : State) (j : Nat) (w : Word) : (s.written j w).outBase j = w &&& s.gpioMask j := by
  simp [State.outBase, State.written, mapGet]

theorem rdF_written (s : State) (j : Nat) (w : Word) (a lo len : Nat) : (s.written j w).rdF a lo len = s.rdF a lo len :=
  rdF_congr (rd_congr rfl a) lo len

/-! ### Edges -/

/-- An outside source drives a pin to a level; a free value is taken. -/
def State.driven (s : State) (n : Nat) (v : Bool) : State := s.takeFree.2.drivePin n (some v)

theorem driven_eq (s : State) (n : Nat) (v : Bool) :
    s.driven n v = { s with ser := (s.driven n v).ser, freeCtr := s.freeCtr + 1 } := rfl

theorem rd_driven (s : State) (n : Nat) (v : Bool) (a : Nat) : (s.driven n v).rd a = s.rd a := rd_congr rfl a

theorem pads_driven (s : State) (n : Nat) (v : Bool) : mapGet (s.driven n v).ser.pads n = some v :=
  mapGet_mapIns_same _ _ _ (mapGet_mapErase_same _ _)

theorem padOut_driven (s : State) (n : Nat) (v : Bool) (free m : Nat) : (s.driven n v).padOut free m = s.padOut free m := rfl

theorem edgeMatches_driven (s : State) (n : Nat) (v b : Bool) : (s.driven n v).edgeMatches n b = s.edgeMatches n b :=
  congrArg (fun x : Nat => x.testBit (if b then 0 else 1)) (rdF_congr (rd_driven s n v _) _ _)

/-- A pin that the part does not drive, and that is no analog one, has the level of its outside source. -/
theorem padLevel_driven {free : Nat} (hout : s.padOut free n = none) (hf : s.pinFunc n < 0x48 ∨ 0x50 ≤ s.pinFunc n) :
    (s.driven n v).padLevel free n = v := by
  have hfunc : ¬ ((0x48 ≤ s.pinFunc n && s.pinFunc n < 0x50) = true) := by
    simp only [Bool.and_eq_true, decide_eq_true_eq]
    omega
  have hpin : (s.driven n v).pinFunc n = s.pinFunc n := rfl
  simp only [State.padLevel, hpin, if_neg hfunc, padOut_driven, hout, pads_driven]

theorem execGpioEdge_of_sampled {pin : Fin 40} (hpin : pin.val < s.pinCount) (ha : s.asleep = false)
    (happ : s.boot.phase = .app) :
    execGpioEdge pin (some v) s = .next ((s.driven pin v).samplePin s.takeFree.1 pin) := by
  have hs : s.samples = true := by simp [State.samples, happ]
  simp only [execGpioEdge, if_neg (Nat.not_le.mpr hpin), ha, hs]
  rfl

/-- The level is sampled into GPIO_IN. -/
theorem samplePin_of_kept {free : Nat} (hl : s.padLevel free n = v) (h : s.bit (Reg.GPIO_IN (n / 32)) (n % 32) = v) :
    s.samplePin free n = s := by
  rw [State.samplePin, hl, h]
  exact if_pos rfl

theorem samplePin_of_unmatched {free : Nat} (hl : s.padLevel free n = v) (h : s.bit (Reg.GPIO_IN (n / 32)) (n % 32) ≠ v)
    (hm : s.ser.sampled = false ∨ s.edgeMatches n v = false) :
    s.samplePin free n = s.setB (Reg.GPIO_IN (n / 32)) (n % 32) v := by
  have hne : ¬ v = s.bit (Reg.GPIO_IN (n / 32)) (n % 32) := fun e => h e.symm
  obtain hm | hm := hm <;> simp [State.samplePin, hl, hne, hm]

/-- A pin's edge is flagged, with its event. -/
def State.flagged (s : State) (n : Nat) (v : Bool) : State :=
  ((s.setB (Reg.GPIO_IN (n / 32)) (n % 32) v).setB (Reg.GPIO_FLAG (n / 32)) (n % 32) true).event (240 + n % 8)

theorem samplePin_of_matched {free : Nat} (hl : s.padLevel free n = v) (h : s.bit (Reg.GPIO_IN (n / 32)) (n % 32) ≠ v)
    (ha : s.asleep = false) (hs : s.ser.sampled = true) (hm : s.edgeMatches n v = true) :
    s.samplePin free n = if s.pinWakes n then (s.flagged n v).padWake n else s.flagged n v := by
  have hne : ¬ v = s.bit (Reg.GPIO_IN (n / 32)) (n % 32) := fun e => h e.symm
  simp only [State.samplePin, hl, if_neg hne, hs, hm, ha]
  rfl

theorem ser_wake (s : State) (c : Nat) : (s.wake c).ser = s.ser := by
  unfold State.wake
  split
  · rfl
  · rfl
  · split
    · rfl
    · split <;> rfl
  · rfl

/-- What a flagged edge leaves, whether or not it also wakes. -/
theorem samplePin_flagged {free : Nat} (hl : s.padLevel free n = v)
    (h : s.bit (Reg.GPIO_IN (n / 32)) (n % 32) ≠ v) (ha : s.asleep = false) (hs : s.ser.sampled = true)
    (hm : s.edgeMatches n v = true) :
    (s.samplePin free n).bit (Reg.GPIO_IN (n / 32)) (n % 32) = v ∧
      (s.samplePin free n).bit (Reg.GPIO_FLAG (n / 32)) (n % 32) = true ∧
      (s.samplePin free n).pending1 (240 + n % 8) = true ∧ (s.samplePin free n).ser = s.ser := by
  have hidx : (240 + n % 8) / 32 = 7 := by omega
  have hregs : ∀ a, a ≠ Reg.PWR_COUNT → (s.samplePin free n).rd a = (s.flagged n v).rd a := by
    intro a hne
    rw [samplePin_of_matched hl h ha hs hm]
    split
    · exact (rd_congr rfl a).trans (rd_wake_ne _ hne)
    · rfl
  have hser : (s.samplePin free n).ser = (s.flagged n v).ser := by
    rw [samplePin_of_matched hl h ha hs hm]
    split
    · exact ser_wake _ _
    · rfl
  refine ⟨?_, ?_, ?_, ?_⟩
  · rw [bit_congr (hregs _ (by simp only [Reg.GPIO_IN, Reg.PWR_COUNT]; omega)), State.flagged,
      bit_congr (rd_event_ne _ (by simp only [Reg.GPIO_IN, Reg.INTC_PEND]; omega)
        (by simp only [Reg.GPIO_IN, Reg.INTC_OVR]; omega) (by simp only [Reg.GPIO_IN, Reg.PWR_COUNT]; omega)),
      bit_setB_of_ne _ _ _ (by simp only [Reg.GPIO_IN, Reg.GPIO_FLAG]; omega), bit_setB_same _ _ (Nat.mod_lt _ (by decide))]
  · rw [bit_congr (hregs _ (by simp only [Reg.GPIO_FLAG, Reg.PWR_COUNT]; omega)), State.flagged,
      bit_congr (rd_event_ne _ (by simp only [Reg.GPIO_FLAG, Reg.INTC_PEND]; omega)
        (by simp only [Reg.GPIO_FLAG, Reg.INTC_OVR]; omega) (by simp only [Reg.GPIO_FLAG, Reg.PWR_COUNT]; omega)),
      bit_setB_same _ _ (Nat.mod_lt _ (by decide))]
  · have hpend : (s.samplePin free n).pending1 (240 + n % 8) = (s.flagged n v).pending1 (240 + n % 8) :=
      bit_congr (hregs _ (by simp only [Reg.INTC_PEND, Reg.PWR_COUNT]; omega)) _
    rw [hpend]
    exact pending1_event_self _ (by omega)
  · rw [hser, State.flagged, event_ser]
    rfl

/-! ### ADC -/

theorem bit_setAdc (s : State) (run : Option AdcRun) (held : Option Bool) :
    (s.setAdc run held).bit Reg.ADC_CTRL 7 = run.isSome := bit_setB_same _ _ (by decide)

theorem rd_setAdc_ne (s : State) (run : Option AdcRun) (held : Option Bool) {a : Nat} (h : a ≠ Reg.ADC_CTRL) :
    (s.setAdc run held).rd a = s.rd a := (rd_wr_ne _ _ h).trans (rd_congr rfl a)

theorem onlyRegs_setAdc (s : State) (run : Option AdcRun) (held : Option Bool) : OnlyRegs [Reg.ADC_CTRL]
    { s with ser := { s.ser with adc := (s.setAdc run held).ser.adc, adcHeld := (s.setAdc run held).ser.adcHeld } }
    (s.setAdc run held) := OnlyRegs.setB (OnlyRegs.refl _ _) (by simp)

/-- A start's command, and whether it asks for a sequence. -/
theorem exec_adcBegin {c : Instr} {q : Bool} (hc : (c, q) ∈ [(Instr.adcStart, false), (.adcSeq, true)]) (s : State) :
    exec c s = .next (s.adcBegin q) := by
  simp only [List.mem_cons, Prod.mk.injEq, List.not_mem_nil, or_false] at hc
  obtain ⟨rfl, rfl⟩ | ⟨rfl, rfl⟩ := hc
  · rfl
  · rfl

theorem adcBegin_of_idle {q : Bool} (hon : s.adcOn = true) (h : s.ser.adc = none) :
    s.adcBegin q = s.setAdc (some (s.adcRunOf q)) s.ser.adcHeld := by
  simp [State.adcBegin, hon, h]

theorem adcBegin_of_running {q : Bool} {r : AdcRun} (hon : s.adcOn = true) (h : s.ser.adc = some r)
    (hheld : s.ser.adcHeld = none) : s.adcBegin q = s.setAdc (some r) (some q) := by
  simp [State.adcBegin, hon, h, hheld]

theorem adcBegin_of_held {q x : Bool} {r : AdcRun} (hon : s.adcOn = true) (h : s.ser.adc = some r)
    (hheld : s.ser.adcHeld = some x) : s.adcBegin q = s.satAdd Reg.ADC_STATUS 0 16 := by
  simp [State.adcBegin, hon, h, hheld]

theorem adcBegin_of_off {q : Bool} (hoff : s.adcOn = false) : s.adcBegin q = s := by
  simp [State.adcBegin, hoff]

theorem adcNext_of_none (h : s.ser.adcHeld = none) : s.adcNext = s.setAdc none none := by
  simp [State.adcNext, h]

theorem adcNext_of_held {q : Bool} (h : s.ser.adcHeld = some q) : s.adcNext = s.setAdc (some (s.adcRunOf q)) none := by
  simp [State.adcNext, h]

/-- A code lies outside the window of its channel. -/
def State.outsideWin (s : State) (ch c : Nat) : Bool :=
  ch == s.rdF Reg.ADC_WIN 28 4 && (decide (c < s.rdF Reg.ADC_WIN 0 12) || decide (s.rdF Reg.ADC_WIN 16 12 < c))

theorem outsideWin_of {ch c : Nat} (hch : ch = s.rdF Reg.ADC_WIN 28 4)
    (hc : c < s.rdF Reg.ADC_WIN 0 12 ∨ s.rdF Reg.ADC_WIN 16 12 < c) : s.outsideWin ch c = true := by
  simp only [State.outsideWin, Bool.and_eq_true, beq_iff_eq, Bool.or_eq_true, decide_eq_true_eq]
  exact ⟨hch, hc⟩

/-- A result with its event. -/
def State.resulted (s : State) (e ch c : Nat) : State :=
  (s.wr (Reg.ADC_RES e) (word (c + ch * 2 ^ 16 + 2 ^ 31))).event 236

/-- A conversion's result, its events, and the temperature of channel 9. -/
def State.converted (s : State) (e ch c : Nat) : State :=
  (if ch = 9 then (s.resulted e ch c).adcTemp else s.resulted e ch c).eventIf (s.outsideWin ch c) 238

theorem execAdcConversionDone_of_run {r : AdcRun} {code : Fin 4096} {c ch : Nat} (h : s.ser.adc = some r)
    (ha : s.asleep = false) (hch : ch = s.rdF Reg.ADC_SEQ (4 * r.entry) 4)
    (hc : c = if s.adcBonded ch then code.val else 0) :
    execAdcConversionDone code s = if r.entry < r.last then
      .next ((s.converted r.entry ch c).setAdc (some { r with entry := r.entry + 1 }) (s.converted r.entry ch c).ser.adcHeld)
    else .next (((s.converted r.entry ch c).eventIf r.seq 237).adcNext) := by
  subst hc hch
  simp only [execAdcConversionDone, h, ha]
  rfl

theorem rd_resulted_same (s : State) (e ch c : Nat) :
    (s.resulted e ch c).rd (Reg.ADC_RES e) = word (c + ch * 2 ^ 16 + 2 ^ 31) := by
  rw [State.resulted, rd_event_ne _ (by simp only [Reg.ADC_RES, Reg.INTC_PEND]; omega)
    (by simp only [Reg.ADC_RES, Reg.INTC_OVR]; omega) (by simp only [Reg.ADC_RES, Reg.PWR_COUNT]; omega), rd_wr_same]

theorem rd_adcTemp_ne (s : State) {a : Nat} (h : a ≠ Reg.ADC_TEMP) : s.adcTemp.rd a = s.rd a :=
  (rd_wr_ne _ _ h).trans (rd_congr rfl a)

theorem rd_withTemp_ne (s : State) (ch : Nat) {a : Nat} (h : a ≠ Reg.ADC_TEMP) :
    (if ch = 9 then s.adcTemp else s).rd a = s.rd a := by
  split
  · exact rd_adcTemp_ne s h
  · rfl

theorem rd_converted_same (s : State) (e ch c : Nat) :
    (s.converted e ch c).rd (Reg.ADC_RES e) = word (c + ch * 2 ^ 16 + 2 ^ 31) := by
  rw [State.converted, rd_eventIf_ne _ _ (by simp only [Reg.ADC_RES, Reg.INTC_PEND]; omega)
    (by simp only [Reg.ADC_RES, Reg.INTC_OVR]; omega) (by simp only [Reg.ADC_RES, Reg.PWR_COUNT]; omega),
    rd_withTemp_ne _ _ (by simp only [Reg.ADC_RES, Reg.ADC_TEMP]; omega), rd_resulted_same]

theorem pending1_converted (s : State) (e ch c : Nat) : (s.converted e ch c).pending1 236 = true ∧
    (s.outsideWin ch c = true → (s.converted e ch c).pending1 238 = true) := by
  have h236 : (if ch = 9 then (s.resulted e ch c).adcTemp else s.resulted e ch c).pending1 236 = true :=
    (bit_congr (rd_withTemp_ne _ _ (by decide)) _).trans (pending1_event_self _ (by decide))
  refine ⟨?_, fun hout => ?_⟩
  · rw [State.converted, pending1_eventIf _ (by decide) (by decide), h236, Bool.true_or]
  · rw [State.converted, hout, pending1_eventIf _ (by decide) (by decide)]
    simp

theorem ser_adcTemp (s : State) : s.adcTemp.ser = s.ser := rfl

theorem ser_converted (s : State) (e ch c : Nat) : (s.converted e ch c).ser = s.ser := by
  have hres : (s.resulted e ch c).ser = s.ser := by rw [State.resulted, event_ser, wr_ser]
  rw [State.converted, eventIf_ser]
  split
  · rw [ser_adcTemp, hres]
  · exact hres

theorem held_setAdc (s : State) (run : Option AdcRun) (held : Option Bool) : (s.setAdc run held).ser.adcHeld = held := rfl

/-- What stands after a conversion, whatever the ADC does next. -/
structure Converted (s t : State) (e ch c : Nat) : Prop where
  result : t.rd (Reg.ADC_RES e) = word (c + ch * 2 ^ 16 + 2 ^ 31)
  done : t.pending1 236 = true
  window : ch = s.rdF Reg.ADC_WIN 28 4 → (c < s.rdF Reg.ADC_WIN 0 12 ∨ s.rdF Reg.ADC_WIN 16 12 < c) → t.pending1 238 = true

theorem converted_converted (s : State) (e ch c : Nat) : Converted s (s.converted e ch c) e ch c where
  result := rd_converted_same s e ch c
  done := (pending1_converted s e ch c).1
  window := fun hch hc => (pending1_converted s e ch c).2 (outsideWin_of hch hc)

theorem Converted.setAdc {e ch c : Nat} (h : Converted s t e ch c) (run : Option AdcRun) (held : Option Bool) :
    Converted s (t.setAdc run held) e ch c where
  result := (rd_setAdc_ne t run held (by simp only [Reg.ADC_RES, Reg.ADC_CTRL]; omega)).trans h.result
  done := (bit_congr (rd_setAdc_ne t run held (by decide)) _).trans h.done
  window := fun hch hc => (bit_congr (rd_setAdc_ne t run held (by decide)) _).trans (h.window hch hc)

theorem Converted.sequenced {e ch c : Nat} (h : Converted s t e ch c) (b : Bool) :
    Converted s (t.eventIf b 237) e ch c where
  result := by
    rw [rd_eventIf_ne _ _ (by simp only [Reg.ADC_RES, Reg.INTC_PEND]; omega)
      (by simp only [Reg.ADC_RES, Reg.INTC_OVR]; omega) (by simp only [Reg.ADC_RES, Reg.PWR_COUNT]; omega), h.result]
  done := by rw [pending1_eventIf _ (by decide) (by decide), h.done, Bool.true_or]
  window := fun hch hc => by rw [pending1_eventIf _ (by decide) (by decide), h.window hch hc, Bool.true_or]

end

end Sys2Proof.Machine
end

section

open Sys2Proof Sys2Proof.Machine

/-- Settles O59: ports, edges and conversions by their cases. -/
theorem pinsAndConversionsFollowTheirCommands : Obligations.PinsAndConversionsFollowTheirCommands := by
  unfold Obligations.PinsAndConversionsFollowTheirCommands
  refine ⟨?_, ?_, ?_, ?_, ?_, ?_, ?_, ?_, ?_, ?_, ?_, ?_, ?_, ?_, ?_, ?_, ?_, ?_, ?_, ?_, ?_, ?_, ?_⟩
  case refine_1 =>
    intro j v s hports hbase
    obtain ⟨hset, hold⟩ := setOut_of_alone (j := j.val) hports hbase (s.outBase j ||| v)
    rw [exec_gpioSet, execGpioSet, hset, hold]
    exact ⟨_, rfl, rd_wr_same _ _ _, (OnlyRegs.refl _ _).wr (by simp)⟩
  case refine_2 =>
    intro j v s hports hbase
    obtain ⟨hset, hold⟩ := setOut_of_alone (j := j.val) hports hbase (s.outBase j &&& ~~~ v)
    rw [exec_gpioClr, execGpioClr, hset, hold]
    exact ⟨_, rfl, rd_wr_same _ _ _, (OnlyRegs.refl _ _).wr (by simp)⟩
  case refine_3 =>
    intro j v s hports hbase
    obtain ⟨hset, hold⟩ := setOut_of_alone (j := j.val) hports hbase (s.outBase j ^^^ v)
    rw [exec_gpioTgl, execGpioTgl, hset, hold]
    exact ⟨_, rfl, rd_wr_same _ _ _, (OnlyRegs.refl _ _).wr (by simp)⟩
  case refine_4 =>
    intro p k s hp hports hnone
    have hone : (s.portDue k).cyc.ports = [k.val] := by rw [State.portDue, hports]
    have hstay : (s.portDue k).outsSet.portAct k = (s.portDue k).outsSet :=
      portAct_of_none (hp.trans (tpCfg_portDue s k k 0 6).symm) (hnone.imp id (tpCfg_portDue s k k 8 2).trans)
    refine ⟨_, execGpioTaskPort_eq k s, ?_⟩
    rw [portsAct_one hone, hstay]
    exact outsSet_portDue hports
  case refine_5 =>
    intro p k s hp hports hg hact
    exact execGpioTaskPort_of_gpio hp hports hg hact (by decide) (by decide)
  case refine_6 =>
    intro p k s hp hports hg hact
    exact execGpioTaskPort_of_gpio hp hports hg hact (by decide) (by decide)
  case refine_7 =>
    intro p k s hp hports hg hact
    exact execGpioTaskPort_of_gpio hp hports hg hact (by decide) (by decide)
  case refine_8 =>
    intro pin ext s h
    rw [exec_gpioEdge, execGpioEdge, if_pos h]
  case refine_9 =>
    intro pin v s hpin hout hf ha happ hsame
    rw [exec_gpioEdge, execGpioEdge_of_sampled hpin ha happ,
      samplePin_of_kept (padLevel_driven hout hf) ((bit_congr (rd_driven s pin v _) _).trans hsame)]
    exact ⟨_, rfl, pads_driven s pin v, OnlyRegs.refl _ _⟩
  case refine_10 =>
    intro pin v s hpin hout hf ha happ hnew hsampled hmatch
    obtain ⟨hin, hflag, hpend, hser⟩ := samplePin_flagged (s := s.driven pin v) (n := pin.val)
      (padLevel_driven hout hf) (by rwa [bit_congr (rd_driven s pin v _)]) ha hsampled
      (by rwa [edgeMatches_driven])
    rw [exec_gpioEdge, execGpioEdge_of_sampled hpin ha happ]
    refine ⟨_, rfl, hin, hflag, hpend, ?_⟩
    rw [hser]
    exact pads_driven s pin v
  case refine_11 =>
    intro pin v s hpin hout hf ha happ hnew hnone
    have hnone' : (s.driven pin v).ser.sampled = false ∨ (s.driven pin v).edgeMatches pin v = false := by
      rwa [edgeMatches_driven]
    rw [exec_gpioEdge, execGpioEdge_of_sampled hpin ha happ,
      samplePin_of_unmatched (padLevel_driven hout hf) (by rwa [bit_congr (rd_driven s pin v _)]) hnone']
    exact ⟨_, rfl, bit_setB_same _ _ (Nat.mod_lt _ (by decide)), pads_driven s pin v, OnlyRegs.setB (OnlyRegs.refl _ _) (by simp)⟩
  case refine_12 =>
    intro s hoff
    refine ⟨?_, ?_, ?_⟩
    · rw [exec_adcStart, execAdcStart, adcBegin_of_off hoff]
    · rw [exec_adcSeq, execAdcSeq, adcBegin_of_off hoff]
    · simp [execAdcStop, hoff]
  case refine_13 =>
    intro c q s hc hon hidle
    rw [exec_adcBegin hc, adcBegin_of_idle hon hidle]
    exact ⟨_, rfl, rfl, rfl, bit_setAdc _ _ _, onlyRegs_setAdc _ _ _⟩
  case refine_14 =>
    intro r c q s hc hon hrun hheld
    rw [exec_adcBegin hc, adcBegin_of_running hon hrun hheld]
    exact ⟨_, rfl, rfl, rfl, onlyRegs_setAdc _ _ _⟩
  case refine_15 =>
    intro r x c q s hc hon hrun hheld
    rw [exec_adcBegin hc, adcBegin_of_held hon hrun hheld]
    exact ⟨_, rfl, rdF_satAdd_same _ (by decide), (OnlyRegs.refl _ _).satAdd (by simp)⟩
  case refine_16 =>
    intro r s hon hrun hheld
    have hstop : execAdcStop s = .next (s.setAdc none none) := by
      rw [← adcNext_of_none hheld]
      simp [execAdcStop, hon, hrun]
    exact ⟨_, hstop, rfl, bit_setAdc _ _ _, onlyRegs_setAdc _ _ _⟩
  case refine_17 =>
    intro r q s hon hrun hheld
    have hstop : execAdcStop s = .next (s.setAdc (some (s.adcRunOf q)) none) := by
      rw [← adcNext_of_held hheld]
      simp [execAdcStop, hon, hrun]
    exact ⟨_, hstop, rfl, rfl⟩
  case refine_18 =>
    intro code s h
    obtain h | h := h
    · simp [execAdcConversionDone, h]
    · cases hrun : s.ser.adc <;> simp [execAdcConversionDone, h, hrun]
  case refine_19 =>
    intro c ch r code s hrun ha hch hc hmore _
    have hdone := (converted_converted s r.entry ch c).setAdc (some { r with entry := r.entry + 1 })
      (s.converted r.entry ch c).ser.adcHeld
    rw [exec_adcConversionDone, execAdcConversionDone_of_run hrun ha hch hc, if_pos hmore]
    exact ⟨_, rfl, hdone.result, hdone.done, hdone.window, rfl, by rw [held_setAdc, ser_converted]⟩
  case refine_20 =>
    intro c ch r code s hrun ha hch hc hlast hheld
    have hnone : ((s.converted r.entry ch c).eventIf r.seq 237).ser.adcHeld = none := by
      rw [eventIf_ser, ser_converted, hheld]
    have hdone := ((converted_converted s r.entry ch c).sequenced r.seq).setAdc none none
    rw [exec_adcConversionDone, execAdcConversionDone_of_run hrun ha hch hc, if_neg (Nat.not_lt.mpr hlast),
      adcNext_of_none hnone]
    refine ⟨_, rfl, hdone.result, hdone.done, hdone.window, fun hseq => ?_, rfl, bit_setAdc _ _ _⟩
    refine (bit_congr (rd_setAdc_ne _ _ _ (by decide)) _).trans ?_
    rw [hseq]
    exact pending1_event_self _ (by decide)
  case refine_21 =>
    intro q c ch r code s hrun ha hch hc hlast hheld
    have hsome : ((s.converted r.entry ch c).eventIf r.seq 237).ser.adcHeld = some q := by
      rw [eventIf_ser, ser_converted, hheld]
    have hdone := ((converted_converted s r.entry ch c).sequenced r.seq).setAdc
      (some (((s.converted r.entry ch c).eventIf r.seq 237).adcRunOf q)) none
    rw [exec_adcConversionDone, execAdcConversionDone_of_run hrun ha hch hc, if_neg (Nat.not_lt.mpr hlast),
      adcNext_of_held hsome]
    refine ⟨_, rfl, hdone.result, hdone.done, rfl, fun x hx => ?_, rfl⟩
    obtain rfl : _ = x := Option.some.inj hx
    exact ⟨rfl, rfl⟩
  case refine_22 =>
    intro p k j v s hp hports hg hact hj
    have hone : (s.written j (s.outBase j &&& ~~~ v)).cyc.ports = [k.val] := hports
    have hset := portAct_of_gpio (s := (s.written j (s.outBase j &&& ~~~ v)).outsSet) (k := k)
      (hp.trans ((tpCfg_outsSet _ k 0 6).trans (rdF_written s _ _ _ 0 6)).symm) hg
      (((tpCfg_outsSet _ k 8 2).trans (rdF_written s _ _ _ 8 2)).trans hact) (by decide) (by decide)
    rw [exec_gpioClr, execGpioClr, setOut_of_ports hports, portsAct_one hone, hset, ← hj]
    refine ⟨_, rfl, bit_setB_same _ _ (Nat.mod_lt _ (by decide)), fun i _ hne => ?_⟩
    rw [bit_setB_ne _ _ hne, State.bit, rd_outsSet_out _ j.isLt, outBase_written]
    rfl
  case refine_23 =>
    intro p k l s hports hlt hpk hpl hg hactk hactl
    have htwo : (s.portDue k).cyc.ports = [k.val, l.val] := by rw [State.portDue, hports]
    have hk := portAct_of_gpio (s := (s.portDue k).outsSet) (k := k) (hpk.trans (tpCfg_portDue s k k 0 6).symm) hg
      ((tpCfg_portDue s k k 8 2).trans hactk) (by decide) (by decide)
    have hp2 : p / 32 < 2 := by
      have hlt64 : s.rdF (Reg.GPIO_TP_CFG k) 0 6 < 64 := fld_lt _ 0 6
      omega
    have hcfg : ∀ lo len, ((s.portDue k).outsSet.setB (Reg.GPIO_OUT (p / 32)) (p % 32) true).rdF (Reg.GPIO_TP_CFG l) lo len =
        s.rdF (Reg.GPIO_TP_CFG l) lo len := fun lo len =>
      (rdF_setB_of_ne _ _ _ (tpCfg_ne_out l _ l.isLt hp2)).trans (tpCfg_portDue s k l lo len)
    have hl := portAct_of_gpio (s := (s.portDue k).outsSet.setB (Reg.GPIO_OUT (p / 32)) (p % 32) true) (k := l)
      (hpl.trans (hcfg 0 6).symm) hg ((hcfg 8 2).trans hactl) (by decide) (by decide)
    rw [exec_gpioTaskPort, execGpioTaskPort_eq, portsAct_two htwo hlt, hk, actLevel, hl, actLevel]
    exact ⟨_, rfl, bit_setB_same _ _ (Nat.mod_lt _ (by decide))⟩

end

section
/-! PROOF. The host rings: the entry in turn, its completion and the errors of host accesses (17, Host rings; R569 to
R575). -/

namespace Sys2Proof.Machine

section

variable {s t : State} {r op : Nat} {e : RingEntry}

/-! ### The ring in turn -/

theorem nextRing_lt (h : s.nextRing = some r) : r < 4 := by
  unfold State.nextRing at h
  split at h
  · obtain ⟨i, -, rfl⟩ := List.mem_map.mp (List.mem_of_find?_eq_some h)
    exact Nat.mod_lt _ (by decide)
  · cases h

theorem ringSize_bounds (s : State) (r : Nat) : 0 < s.ringSize r ∧ s.ringSize r ≤ 1024 := by
  simp only [State.ringSize]
  split
  next h =>
    simp only [Bool.and_eq_true, decide_eq_true_eq] at h
    exact ⟨Nat.two_pow_pos _, Nat.pow_le_pow_right (by decide) h.2⟩
  · decide

theorem mod_ringSize_lt (s : State) (r n : Nat) : n % s.ringSize r < 2 ^ 10 :=
  Nat.lt_of_lt_of_le (Nat.mod_lt _ (ringSize_bounds s r).1) (ringSize_bounds s r).2

theorem ringRow_of_none {act : Nat → RingEntry → State} (h : s.nextRing = none) : s.ringRow op act = s := by
  simp [State.ringRow, h]

theorem ringRow_of_bad {act : Nat → RingEntry → State} (h : s.nextRing = some r) (he : e = s.ringEntry r)
    (hbad : e.bad = true) :
    s.ringRow op act = ((s.hifErr 3).openTaken false).ringDone r e 0x10 (s.openVal false 0 (2 ^ 32)) := by
  subst he
  simp [State.ringRow, h, hbad]

theorem ringRow_of_other {act : Nat → RingEntry → State} (h : s.nextRing = some r) (he : e = s.ringEntry r)
    (hgood : e.bad = false) (hop : e.op ≠ op) : s.ringRow op act = s := by
  subst he
  simp [State.ringRow, h, hgood, hop]

theorem ringRow_of_own {act : Nat → RingEntry → State} (h : s.nextRing = some r) (he : e = s.ringEntry r)
    (hgood : e.bad = false) (hop : e.op = op) : s.ringRow op act = act r e := by
  subst he
  simp [State.ringRow, h, hgood, hop]

/-- Each of the six commands is a row of the rings. -/
theorem exec_ringRow {c : Instr}
    (hc : (c, op) ∈ [(Instr.ringEnqueue, 1), (.ringFetch, 2), (.ringFlush, 3), (.ringPause, 4), (.ringResume, 5), (.ringMove, 6)])
    (s : State) : ∃ act, exec c s = .next (s.ringRow op act) := by
  simp only [List.mem_cons, Prod.mk.injEq, List.not_mem_nil, or_false] at hc
  obtain ⟨rfl, rfl⟩ | ⟨rfl, rfl⟩ | ⟨rfl, rfl⟩ | ⟨rfl, rfl⟩ | ⟨rfl, rfl⟩ | ⟨rfl, rfl⟩ := hc
  · exact ⟨_, rfl⟩
  · exact ⟨_, rfl⟩
  · exact ⟨_, rfl⟩
  · exact ⟨_, rfl⟩
  · exact ⟨_, rfl⟩
  · exact ⟨_, rfl⟩

/-- The four rows that are one queue command. -/
theorem exec_ringCmd {c : Instr} {k : QCmd}
    (hc : (c, op, k) ∈ [(Instr.ringFlush, 3, ({ cmd := 5, queue := e.queue } : QCmd)),
      (.ringPause, 4, { cmd := 6, flag := e.flags.testBit 0, queue := e.queue }),
      (.ringResume, 5, { cmd := 7, flag := e.flags.testBit 0, cls := e.flags / 16, queue := e.queue }),
      (.ringMove, 6, { cmd := 4, queue := e.queue, arg := e.addr % 65536 })])
    (h : s.nextRing = some r) (he : e = s.ringEntry r) (hop : e.op = op) (hgood : e.bad = false) :
    exec c s = .next (s.ringCmd r e k) := by
  simp only [List.mem_cons, Prod.mk.injEq, List.not_mem_nil, or_false] at hc
  obtain ⟨rfl, rfl, rfl⟩ | ⟨rfl, rfl, rfl⟩ | ⟨rfl, rfl, rfl⟩ | ⟨rfl, rfl, rfl⟩ := hc
  · rw [exec_ringFlush, execRingFlush, ringRow_of_own h he hgood hop]
  · rw [exec_ringPause, execRingPause, ringRow_of_own h he hgood hop]
  · rw [exec_ringResume, execRingResume, ringRow_of_own h he hgood hop]
  · rw [exec_ringMove, execRingMove, ringRow_of_own h he hgood hop]

/-! ### A completion -/

theorem hif_ringDone (s : State) (r : Nat) (e : RingEntry) (st w : Nat) : (s.ringDone r e st w).hif =
    { s.hif with turn := (r + 1) % 4, posts := s.hif.posts ++ [⟨r, e.cookie, st, e.op, w⟩] } := rfl

theorem rd_ringDone (s : State) (r : Nat) (e : RingEntry) (st w a : Nat) : (s.ringDone r e st w).rd a =
    (s.wrF (Reg.RING_SQ_HEAD r) 0 10 ((s.rdF (Reg.RING_SQ_HEAD r) 0 10 + 1) % s.ringSize r)).rd a := rd_congr rfl a

theorem byteAt_ringDone (s : State) (r : Nat) (e : RingEntry) (st w a : Nat) : (s.ringDone r e st w).byteAt a = s.byteAt a :=
  byteAt_congr rfl rfl a

theorem head_ringDone (s : State) (r : Nat) (e : RingEntry) (st w : Nat) : (s.ringDone r e st w).rdF (Reg.RING_SQ_HEAD r) 0 10 =
    (s.rdF (Reg.RING_SQ_HEAD r) 0 10 + 1) % s.ringSize r := by
  rw [rdF_congr (rd_ringDone s r e st w _), rdF_wrF_same _ _ (by decide), Nat.mod_eq_of_lt (mod_ringSize_lt s r _)]

theorem onlyRegs_ringDone (s : State) (r : Nat) (e : RingEntry) (st w : Nat) :
    OnlyRegs [Reg.RING_SQ_HEAD r] { s with hif := (s.ringDone r e st w).hif } (s.ringDone r e st w) :=
  (OnlyRegs.refl _ _).wrF (by simp)

theorem OnlyRegs.ringDone {l : List Nat} (h : OnlyRegs l s t) (hl : Reg.RING_SQ_HEAD r ∈ l) (e : RingEntry) (st w : Nat) :
    OnlyRegs l { s with hif := (t.ringDone r e st w).hif } (t.ringDone r e st w) :=
  (h.wrF hl).map (fun u => { u with hif := (t.ringDone r e st w).hif }) rfl fun _ => rfl

/-! ### Errors -/

theorem sqHead_ne_err (hr : r < 4) : Reg.RING_SQ_HEAD r ≠ Reg.HIF_ERR := by
  simp only [Reg.RING_SQ_HEAD, Reg.HIF_ERR]
  omega

theorem ringCfg_ne_err (hr : r < 4) : Reg.RING_CFG r ≠ Reg.HIF_ERR := by
  simp only [Reg.RING_CFG, Reg.HIF_ERR]
  omega

theorem rd_hifErr_ne (s : State) (k : Nat) {a : Nat} (h : a ≠ Reg.HIF_ERR) : (s.hifErr k).rd a = s.rd a :=
  (rd_congr rfl a).trans (rd_wr_ne _ _ h)

/-- An error of a kind counts in its byte of HIF_ERR. -/
theorem count_hifErr (s : State) {k : Nat} (hk : k < 4) :
    (s.hifErr k).rdF Reg.HIF_ERR (8 * k) 8 = min (s.rdF Reg.HIF_ERR (8 * k) 8 + 1) 255 := by
  have hregs : (s.hifErr k).rd Reg.HIF_ERR = (s.satAdd Reg.HIF_ERR (8 * k) 8).rd Reg.HIF_ERR := rd_congr rfl _
  rw [rdF_congr hregs, rdF_satAdd_same _ (by omega)]
  rfl

theorem onlyRegs_hifErr (s : State) (k : Nat) : OnlyRegs [Reg.HIF_ERR] { s with hif := (s.hifErr k).hif } (s.hifErr k) :=
  (OnlyRegs.refl _ _).satAdd (by simp)

/-- The state of a bad entry that has completed. -/
def State.badDone (s : State) (r : Nat) (e : RingEntry) : State :=
  ((s.hifErr 3).openTaken false).ringDone r e 0x10 (s.openVal false 0 (2 ^ 32))

theorem rd_openTaken (s : State) (b : Bool) (a : Nat) : (s.openTaken b).rd a = s.rd a := by
  cases b with
  | true => rfl
  | false => exact rd_congr rfl a

theorem ringSize_congr {s t : State} (h : t.rd (Reg.RING_CFG r) = s.rd (Reg.RING_CFG r)) : t.ringSize r = s.ringSize r := by
  simp only [State.ringSize, rdF_congr h]

theorem badDone_recorded (s : State) (hr : r < 4) (e : RingEntry) :
    (s.badDone r e).rdF Reg.HIF_ERR 24 8 = min (s.rdF Reg.HIF_ERR 24 8 + 1) 255 ∧ (s.badDone r e).hif.errSeen = true ∧
      (s.badDone r e).rdF (Reg.RING_SQ_HEAD r) 0 10 = (s.rdF (Reg.RING_SQ_HEAD r) 0 10 + 1) % s.ringSize r ∧
      (∃ w < 2 ^ 32, (s.badDone r e).hif.posts = s.hif.posts ++ [⟨r, e.cookie, 0x10, e.op, w⟩]) ∧
      (s.badDone r e).hif.turn = (r + 1) % 4 ∧
      OnlyRegs [Reg.HIF_ERR, Reg.RING_SQ_HEAD r] { s with hif := (s.badDone r e).hif, freeCtr := (s.badDone r e).freeCtr }
        (s.badDone r e) := by
  have hne := sqHead_ne_err hr
  refine ⟨?_, rfl, ?_, ⟨_, Nat.mod_lt _ (Nat.two_pow_pos 32), rfl⟩, rfl, ?_⟩
  · rw [State.badDone, rdF_congr (rd_ringDone _ _ _ _ _ _), rdF_wrF_of_ne _ _ _ _ hne.symm,
      rdF_congr (rd_openTaken _ _ _)]
    exact count_hifErr s (by decide)
  · rw [State.badDone, head_ringDone, rdF_congr (rd_openTaken _ _ _), rdF_congr (rd_hifErr_ne s 3 hne),
      ringSize_congr ((rd_openTaken _ _ _).trans (rd_hifErr_ne s 3 (ringCfg_ne_err hr)))]
  · have herr : OnlyRegs [Reg.HIF_ERR, Reg.RING_SQ_HEAD r] _ (s.hifErr 3) := (onlyRegs_hifErr s 3).mono (by simp)
    exact (onlyRegs_withFree herr ((s.hifErr 3).freeCtr + 1)).ringDone (by simp) e _ _

/-! ### FETCH -/

theorem ownCells_free_eq (cs : List Nat) (s : State) :
    (s.ownCells cs .free).mem = s.mem ∧ (s.ownCells cs .free).pwr = s.pwr ∧ (s.ownCells cs .free).hif = s.hif := by
  have hfold : ∀ (l : List Nat) (u : State), (l.foldl (fun t c => t.setCell c {}) u).mem = u.mem ∧
      (l.foldl (fun t c => t.setCell c {}) u).pwr = u.pwr ∧ (l.foldl (fun t c => t.setCell c {}) u).hif = u.hif := by
    intro l
    induction l with
    | nil => exact fun u => ⟨rfl, rfl, rfl⟩
    | cons c l ih => exact fun u => ih (u.setCell c {})
  exact hfold cs _

/-- The release of a frame leaves the memory and the host interfaces. -/
theorem releaseFrame_kept (s : State) (c : Nat) :
    (s.releaseFrame c).2.mem = s.mem ∧ (s.releaseFrame c).2.pwr = s.pwr ∧ (s.releaseFrame c).2.hif = s.hif := by
  unfold State.releaseFrame
  split
  · exact ownCells_free_eq _ s
  · exact ⟨rfl, rfl, rfl⟩

/-! ### Host writes -/

/-- A whole word of interface 3, stored. -/
def State.hostStored (s : State) (a v : Nat) : State :=
  { s.putBytes a (leBytes 4 v) with cyc := { s.cyc with hifWrites := (3, a / 4 * 4) :: s.cyc.hifWrites } }

/-- A whole word of a host interface, written to main SRAM with no write of a lower interface in the cycle. -/
theorem hostWrite_sram {a v : Nat} (hsram : region a = .sram) (habs : s.absentAt a = none)
    (hw : s.cyc.hifWrites.all (fun p => decide (3 ≤ p.1)) = true) :
    s.hostWrite 3 a 4 v = (.data 0, s.hostStored a v) := by
  have hrange : 0x20000000 ≤ a ∧ a < 0x20060000 := by
    simp only [region] at hsram
    split_ifs at hsram
    next h => simpa using h
  have hdb : ¬ (a / 4 * 4 = Reg.HIF_DB_IN) := by
    simp only [Reg.HIF_DB_IN]
    omega
  have hmover : ¬ (a / 0x1000 = 0x40030) := by omega
  have hlow : s.cyc.hifWrites.any (fun p => p.1 < 3 && p.2 == a / 4 * 4) = false := by
    rw [List.any_eq_false]
    intro p hp
    have h3 := List.all_eq_true.mp hw p hp
    simp only [decide_eq_true_eq] at h3
    simp [Nat.not_lt.mpr h3]
  have hissue : s.hostIssue 3 a 4 v = (.data 0, s.putBytes a (leBytes 4 v)) := by
    have hunlocked : s.locked .host = false := rfl
    simp [State.hostIssue, hdb, State.busWrite, hmover, State.busWriteCore, hunlocked, habs, hsram]
  rw [State.hostWrite, hissue]
  simp only [hlow, putBytes_cyc]
  rfl

theorem absentAt_congr (h : t.variant = s.variant) (a : Nat) : t.absentAt a = s.absentAt a :=
  congrArg (fun v => State.absentAt { t with variant := v } a) h

/-- Two words of interface 3 in main SRAM. -/
theorem hostPuts_two_sram {a v w : Nat} (hsram : ∀ i < 2, region (a + 4 * i) = .sram ∧ s.absentAt (a + 4 * i) = none)
    (hw : s.cyc.hifWrites.all (fun p => decide (3 ≤ p.1)) = true) :
    (s.hostPuts 3 a [v, w]).2 = (s.hostStored a v).hostStored (a + 4) w := by
  obtain ⟨hr0, ha0⟩ := hsram 0 (by decide)
  obtain ⟨hr1, ha1⟩ := hsram 1 (by decide)
  have hvar : (s.hostStored a v).variant = s.variant := putBytes_variant _ _ _
  have hw1 : (s.hostStored a v).cyc.hifWrites.all (fun p => decide (3 ≤ p.1)) = true := by
    simp only [State.hostStored, List.all_cons, hw]
    rfl
  have h0 := hostWrite_sram (v := v) hr0 ha0 hw
  have h1 := hostWrite_sram (v := w) hr1 ((absentAt_congr hvar _).trans ha1) hw1
  simp only [Nat.mul_zero, Nat.add_zero] at h0
  simp only [State.hostPuts, h0, h1]

theorem byteAt_hostStored (s : State) (a v x : Nat) :
    (s.hostStored a v).byteAt x = (s.putBytes a (leBytes 4 v)).byteAt x := byteAt_congr rfl rfl x

theorem rd_hostStored (s : State) (a v x : Nat) : (s.hostStored a v).rd x = s.rd x := by
  refine rd_congr ?_ x
  exact putBytes_regs _ _ _

theorem hif_hostStored (s : State) (a v : Nat) : (s.hostStored a v).hif = s.hif := putBytes_hif _ _ _

/-- Two words stored: their bytes, and every other byte as it was. -/
theorem bytes_hostStored_two (s : State) (a v w : Nat) :
    ((s.hostStored a v).hostStored (a + 4) w).bytesAt a 8 = leBytes 4 v ++ leBytes 4 w ∧
      ∀ x, (x < a ∨ a + 8 ≤ x) → ((s.hostStored a v).hostStored (a + 4) w).byteAt x = s.byteAt x := by
  have hlow : ∀ x, x < a + 4 → ((s.hostStored a v).hostStored (a + 4) w).byteAt x = (s.putBytes a (leBytes 4 v)).byteAt x := by
    intro x hx
    rw [byteAt_hostStored, byteAt_putBytes_ne _ _ (.inl hx), byteAt_hostStored]
  refine ⟨?_, fun x hx => ?_⟩
  · refine List.ext_getElem (by simp [State.bytesAt]) fun i hi _ => ?_
    have hi8 : i < 8 := by simpa [State.bytesAt] using hi
    simp only [State.bytesAt, List.getElem_map, List.getElem_range]
    obtain h4 | h4 := Nat.lt_or_ge i 4
    · rw [hlow _ (by omega), byteAt_putBytes_of_lt _ _ _ (by simpa using h4), List.getElem_append_left (by simpa using h4),
        List.getD_eq_getElem]
    · have hadd : a + i = a + 4 + (i - 4) := by omega
      rw [byteAt_hostStored, hadd, byteAt_putBytes_of_lt _ _ _ (by rw [length_leBytes]; omega),
        List.getElem_append_right (by simpa using h4), List.getD_eq_getElem _ _ (by rw [length_leBytes]; omega)]
      simp
  · obtain hx | hx := hx
    · rw [hlow _ (by omega), byteAt_putBytes_ne _ _ (.inl hx)]
    · rw [byteAt_hostStored, byteAt_putBytes_ne _ _ (.inr (by rw [length_leBytes]; omega)), byteAt_hostStored,
        byteAt_putBytes_ne _ _ (.inr (by rw [length_leBytes]; omega))]

/-! ### Posting and host errors -/

/-- The completions still to be posted. -/
def State.withPosts (s : State) (l : List RingPost) : State := { s with hif := { s.hif with posts := l } }

/-- The tail, the pending bit and the event of a completion whose bytes are stored. -/
def State.posted (s : State) (r n : Nat) : State :=
  ((s.wrF (Reg.RING_CQ_TAIL r) 0 10 n).setB Reg.HIF_IRQ_PEND r true).event 220

theorem hif_posted (s : State) (r n : Nat) : (s.posted r n).hif = s.hif := by
  rw [State.posted, event_hif, setB_hif, wrF_hif]

theorem byteAt_posted (s : State) (r n x : Nat) : (s.posted r n).byteAt x = s.byteAt x :=
  (byteAt_event _ _ x).trans (byteAt_congr rfl rfl x)

theorem tail_posted (s : State) (hr : r < 4) {n : Nat} (hn : n < 2 ^ 10) :
    (s.posted r n).rdF (Reg.RING_CQ_TAIL r) 0 10 = n := by
  have htail : Reg.RING_CQ_TAIL r ≠ Reg.HIF_IRQ_PEND := by
    simp only [Reg.RING_CQ_TAIL, Reg.HIF_IRQ_PEND]
    omega
  rw [State.posted, rdF_congr (rd_event_ne _ (by simp only [Reg.RING_CQ_TAIL, Reg.INTC_PEND]; omega)
    (by simp only [Reg.RING_CQ_TAIL, Reg.INTC_OVR]; omega) (by simp only [Reg.RING_CQ_TAIL, Reg.PWR_COUNT]; omega)),
    rdF_setB_of_ne _ _ _ htail, rdF_wrF_same _ _ (by decide), Nat.mod_eq_of_lt hn]

theorem pend_posted (s : State) (hr : r < 4) (n : Nat) :
    (s.posted r n).bit Reg.HIF_IRQ_PEND r = true ∧ (s.posted r n).pending1 220 = true := by
  refine ⟨?_, pending1_event_self _ (by decide)⟩
  rw [State.posted, bit_congr (rd_event_ne _ (by decide) (by decide) (by decide)), bit_setB_same _ _ (by omega)]

theorem byteAt_withPosts (s : State) (l : List RingPost) (x : Nat) : (s.withPosts l).byteAt x = s.byteAt x :=
  byteAt_congr rfl rfl x

/-- The first word of a completion. -/
def RingPost.word0 (p : RingPost) : Nat := p.cookie + p.status * 2 ^ 16 + p.op * 2 ^ 24

theorem execRingCompletionPost_of_sram {p : RingPost} {l : List RingPost} {a : Nat} (hp : s.hif.posts = p :: l)
    (ha : a = (s.rd (Reg.RING_CQ_BASE p.ring)).toNat + 8 * s.rdF (Reg.RING_CQ_TAIL p.ring) 0 10)
    (hw : s.cyc.hifWrites.all (fun p => decide (3 ≤ p.1)) = true)
    (hsram : ∀ i < 2, region (a + 4 * i) = .sram ∧ s.absentAt (a + 4 * i) = none) :
    execRingCompletionPost s = .next ((((s.withPosts l).hostStored a p.word0).hostStored (a + 4) p.word1).posted p.ring
      ((s.rdF (Reg.RING_CQ_TAIL p.ring) 0 10 + 1) % s.ringSize p.ring)) := by
  subst ha
  have hputs := hostPuts_two_sram (s := s.withPosts l) (v := p.word0) (w := p.word1) hsram hw
  rw [State.withPosts, RingPost.word0] at hputs
  simp only [execRingCompletionPost, hp, hputs]
  rfl

/-- The state before a host error's event. -/
def State.hostErred (s : State) (i : Nat) (l : List Nat) : State :=
  (({ s with hif := { s.hif with errDue := l } }).hifErr 3).slip 72 0x12 1 i

theorem execHifHostBusError_of_due {i : Nat} {l : List Nat} (h : s.hif.errDue = i :: l) :
    execHifHostBusError s = .next (s.hostErred i l).hifErrEvent := by
  simp only [execHifHostBusError, h]
  rfl

theorem onlyRegs_hostErred (s : State) (i : Nat) (l : List Nat) : OnlyRegs [Reg.HIF_ERR]
    { s with hif := (s.hostErred i l).hif, fault := (s.hostErred i l).fault } (s.hostErred i l) :=
  (OnlyRegs.refl _ _).satAdd (by simp)

theorem count_hostErred (s : State) (i : Nat) (l : List Nat) :
    (s.hostErred i l).rdF Reg.HIF_ERR 24 8 = min (s.rdF Reg.HIF_ERR 24 8 + 1) 255 :=
  count_hifErr ({ s with hif := { s.hif with errDue := l } } : State) (k := 3) (by decide)

/-! ### The tail -/

theorem sqTail_of_refused {n h : Nat} {v : Word} (hn : n = s.ringSize r) (hh : h = s.rdF (Reg.RING_SQ_HEAD r) 0 10)
    (hbad : n ≤ fld v 0 10 ∨ (fld v 0 10 + n - h) % n < (s.rdF (Reg.RING_SQ_TAIL r) 0 10 + n - h) % n) :
    s.sqTail r v = s.hifErr 2 := by
  subst hn hh
  have hb : (s.ringSize r ≤ fld v 0 10 || (fld v 0 10 + s.ringSize r - s.rdF (Reg.RING_SQ_HEAD r) 0 10) % s.ringSize r <
      (s.rdF (Reg.RING_SQ_TAIL r) 0 10 + s.ringSize r - s.rdF (Reg.RING_SQ_HEAD r) 0 10) % s.ringSize r) = true := by
    simpa only [Bool.or_eq_true, decide_eq_true_eq] using hbad
  simp only [State.sqTail, if_pos hb]

theorem sqTail_of_taken {n h : Nat} {v : Word} (hn : n = s.ringSize r) (hh : h = s.rdF (Reg.RING_SQ_HEAD r) 0 10)
    (hlt : fld v 0 10 < n) (hle : (s.rdF (Reg.RING_SQ_TAIL r) 0 10 + n - h) % n ≤ (fld v 0 10 + n - h) % n) :
    s.sqTail r v = s.wrF (Reg.RING_SQ_TAIL r) 0 10 (fld v 0 10) := by
  subst hn hh
  simp only [State.sqTail, Nat.not_le.mpr hlt, Nat.not_lt.mpr hle]
  rfl

end

end Sys2Proof.Machine
end

section

open Sys2Proof Sys2Proof.Machine

/-- Settles O56: the ring in turn has its head entry served by its row; a completion is two words of interface 3. -/
theorem hostRingsServeTheirEntriesInTurn : Obligations.HostRingsServeTheirEntriesInTurn := by
  unfold Obligations.HostRingsServeTheirEntriesInTurn
  refine ⟨?_, ?_, ?_, ?_, ?_, ?_, ?_, ?_, ?_, ?_, ?_, ?_, ?_, ?_, ?_, ?_⟩
  case refine_1 =>
    intro op c s hc hnone
    obtain ⟨act, hexec⟩ := exec_ringRow hc s
    rw [hexec, ringRow_of_none hnone]
  case refine_2 =>
    intro op r e c s hc hr he hgood hop
    obtain ⟨act, hexec⟩ := exec_ringRow hc s
    rw [hexec, ringRow_of_other hr he hgood hop]
  case refine_3 =>
    intro op r e c s hc hr he hbad
    obtain ⟨act, hexec⟩ := exec_ringRow hc s
    rw [hexec, ringRow_of_bad hr he hbad]
    exact ⟨_, rfl, badDone_recorded s (nextRing_lt hr) e⟩
  case refine_4 =>
    intro r e x s hr he hop hgood hx
    refine ⟨?_, fun hoff => ?_⟩
    · rw [exec_ringEnqueue, execRingEnqueue, ringRow_of_own hr he hgood hop, hx]
    · simp only [State.hifEnqueue, hoff] at hx
      exact congrArg Prod.fst (Option.some.inj hx).symm
  case refine_5 =>
    intro op r e k c s hr he hc hop hgood hw
    rw [exec_ringCmd hc hr he hop hgood, State.ringCmd, hw]
    rfl
  case refine_6 =>
    intro op r e k c s hr he hc hop hgood hw
    rw [exec_ringCmd hc hr he hop hgood, State.ringCmd, hw]
    rfl
  case refine_7 =>
    intro r e s hr he hop hgood hw hst
    rw [exec_ringFetch, execRingFetch, ringRow_of_own hr he hgood hop]
    simp only [hw, if_pos hst]
    rfl
  case refine_8 =>
    intro r e s hr he hop hgood hw hst
    have hst' : ¬ ((s.qeNow 2 ({ cmd := 2, flag := true, queue := e.queue } : QCmd)).status ≠ 0) := fun h => h hst
    rw [exec_ringFetch, execRingFetch, ringRow_of_own hr he hgood hop]
    simp only [hw, if_neg hst', Bool.false_eq_true, if_false]
    generalize s.qeNow 2 ({ cmd := 2, flag := true, queue := e.queue } : QCmd) = q
    obtain ⟨hmem, hpwr, hhif⟩ := releaseFrame_kept
      (q.s.putBytes e.addr ((q.s.frameBytes (q.word1 % 65536)).take e.len)) (q.word1 % 65536)
    refine ⟨_, rfl, ?_, rfl, fun i hi hlt => ?_⟩
    · rw [hif_ringDone, hhif, putBytes_hif, hop]
    · rw [byteAt_ringDone, byteAt_congr hmem (congrArg PwrSt.lost hpwr), byteAt_putBytes_of_lt _ _ _ (by rw [List.length_take]; omega)]
      simp [List.getD_eq_getElem?_getD, hlt]
  case refine_9 =>
    intro r v s habs
    simp [execRingSqTailWrite, habs]
  case refine_10 =>
    intro n h r v s hn hh hp hbad
    refine ⟨s.hifErr 2, ?_, count_hifErr s (by decide), rfl, onlyRegs_hifErr s 2⟩
    simp [execRingSqTailWrite, hp, sqTail_of_refused hn hh hbad]
  case refine_11 =>
    intro n h r v s hn hh hp hlt hle
    refine ⟨s.wrF (Reg.RING_SQ_TAIL r) 0 10 (fld v 0 10), ?_, ?_, (OnlyRegs.refl _ _).wrF (by simp)⟩
    · simp [execRingSqTailWrite, hp, sqTail_of_taken hn hh hlt hle]
    · rw [rdF_wrF_same _ _ (by decide), Nat.mod_eq_of_lt (fld_lt v 0 10)]
  case refine_12 =>
    intro s h
    simp [execRingCompletionPost, h]
  case refine_13 =>
    intro a p l s hp hring ha _ hw hsram
    obtain ⟨hbytes, hrest⟩ := bytes_hostStored_two (s.withPosts l) a p.word0 p.word1
    obtain ⟨hpend, hevent⟩ := pend_posted (((s.withPosts l).hostStored a p.word0).hostStored (a + 4) p.word1) hring
      ((s.rdF (Reg.RING_CQ_TAIL p.ring) 0 10 + 1) % s.ringSize p.ring)
    rw [exec_ringCompletionPost, execRingCompletionPost_of_sram hp ha hw hsram]
    refine ⟨_, rfl, ?_, tail_posted _ hring (mod_ringSize_lt s _ _), hpend, hevent, ?_, fun x hx => ?_⟩
    · rw [hif_posted, hif_hostStored, hif_hostStored, State.withPosts]
    · rw [bytesAt_congr (byteAt_posted _ _ _), hbytes, RingPost.word0]
    · rw [byteAt_posted, hrest x hx, byteAt_withPosts]
  case refine_14 =>
    intro s h
    simp [execHifHostBusError, h]
  case refine_15 =>
    intro i l s h
    refine ⟨_, execHifHostBusError_of_due h, ?_, ?_, ?_, pending1_event_self _ (by decide), ?_, ?_⟩
    · rw [State.hifErrEvent, event_hif, setB_hif]
      rfl
    · rw [State.hifErrEvent, rdF_congr (rd_event_ne _ (by decide) (by decide) (by decide)),
        rdF_setB_of_ne _ _ _ (by decide), count_hostErred]
    · rw [State.hifErrEvent, event_hif, setB_hif]
      rfl
    · rw [State.hifErrEvent, event_fault, setB_fault]
      rfl
    · rw [State.hifErrEvent, event_hif, event_fault, setB_hif, setB_fault]
      exact (((onlyRegs_hostErred s i l).mono (by simp)).setB (by simp)).events.event (by simp [eventRegs]) (by simp [eventRegs])
  case refine_16 =>
    intro r e s hr he hop hgood hnone
    rw [exec_ringEnqueue, execRingEnqueue, ringRow_of_own hr he hgood hop, hnone]

end

section
/-! PROOF. A start that reaches annex mode or fails in one of the steps 1 to 5 (03, Start-up steps; R73, R74, R81, R93). -/

namespace Sys2Proof.Machine

section

variable {s t u : State} {env : BootEnv} {late : Option Nat} {n k j : Nat}

/-! ### What the steps leave -/

/-- The start's own state, BOOT_SEL and some registers are left. -/
structure BootFrame (l : List Nat) (s t : State) : Prop where
  boot : t.boot = s.boot
  sel : t.bit Reg.RSTC_CIRC 17 = s.bit Reg.RSTC_CIRC 17
  regs : ∀ a ∈ l, t.rd a = s.rd a

/-- The errata log and the status of both spines. -/
def bootRegs : List Nat := [Reg.RSTC_ERRATA, Reg.SPINE_F_STAT, Reg.SPINE_S_STAT]

theorem BootFrame.refl (l : List Nat) (s : State) : BootFrame l s s := ⟨rfl, rfl, fun _ _ => rfl⟩

theorem BootFrame.trans {l : List Nat} (h : BootFrame l s t) (h' : BootFrame l t u) : BootFrame l s u :=
  ⟨h'.boot.trans h.boot, h'.sel.trans h.sel, fun a ha => (h'.regs a ha).trans (h.regs a ha)⟩

theorem BootFrame.mono {l l' : List Nat} (h : BootFrame l s t) (hl : l' ⊆ l) : BootFrame l' s t :=
  ⟨h.boot, h.sel, fun a ha => h.regs a (hl ha)⟩

theorem BootFrame.of_rd {l : List Nat} (hb : t.boot = s.boot) (h : ∀ a, t.rd a = s.rd a) : BootFrame l s t :=
  ⟨hb, bit_congr (h _) _, fun a _ => h a⟩

theorem BootFrame.wr {l : List Nat} {a : Nat} (v : Word) (hc : a ≠ Reg.RSTC_CIRC) (ha : a ∉ l) (s : State) :
    BootFrame l s (s.wr a v) :=
  ⟨rfl, bit_congr (rd_wr_ne _ _ hc.symm) _, fun _ hb => rd_wr_ne _ _ fun e => ha (e ▸ hb)⟩

theorem BootFrame.circ {l : List Nat} {i : Nat} (b : Bool) (hi : 17 ≠ i) (hl : Reg.RSTC_CIRC ∉ l) (s : State) :
    BootFrame l s (s.setB Reg.RSTC_CIRC i b) :=
  ⟨rfl, bit_setB_ne _ _ hi, fun _ hb => rd_wr_ne _ _ fun e => hl (e ▸ hb)⟩

theorem bootFrame_putRecord {l : List Nat} (content : List Byte) (hc : content.length = 8) (sector : Nat) (s : State) :
    BootFrame l s (s.putRecord sector content) := by
  rw [putRecord_withFlash _ _ hc]
  exact .of_rd rfl fun a => rd_congr rfl a

theorem bootFrame_writeMirror {l : List Nat} (hl : Reg.RSTC_CIRC ∉ l) (s : State) : BootFrame l s s.writeMirror := by
  unfold State.writeMirror
  split
  · exact .circ _ (by decide) hl s
  · exact bootFrame_putRecord _ (by simp) 4 s

theorem bootFrame_checkAnnex {l : List Nat} (hl : Reg.RSTC_CIRC ∉ l) (s : State) : BootFrame l s s.checkAnnex := by
  unfold State.checkAnnex
  split
  · exact (BootFrame.circ true (by decide) hl s).trans (bootFrame_writeMirror hl _)
  · exact .refl _ s

/-- What the store die does leaves the start's registers. -/
theorem bootFrame_of_storeClosed (h : ∀ P : State → Prop, StoreClosed P → P s → P t) : BootFrame bootRegs s t where
  boot := h (fun t => t.boot = s.boot) (storeClosed_boot _) rfl
  sel := bit_congr (h (fun t => t.rd Reg.RSTC_CIRC = s.rd Reg.RSTC_CIRC) (storeClosed_rd _ (by decide) (by decide)) rfl) _
  regs := fun a ha => by
    have hlow : a < 0x40005000 ∧ a ≠ Reg.PWR_COUNT := by
      revert a
      decide
    exact h (fun t => t.rd a = s.rd a) (storeClosed_rd _ hlow.1 hlow.2) rfl

theorem bootFrame_endPulses (s : State) : BootFrame bootRegs s s.endPulses :=
  bootFrame_of_storeClosed fun _ hP h => List.foldlRecOn _ _ h fun _ hu _ _ => hP.cutOp _ hu

theorem bootFrame_storeSync (s : State) : BootFrame bootRegs s s.storeSync :=
  bootFrame_of_storeClosed fun _ hP h => hP.storeSync h

theorem bootFrame_loadMaps (s : State) : BootFrame bootRegs s s.loadMaps := by
  have hset (x : StoreSt) : BootFrame bootRegs s { s with store := x } := .of_rd rfl fun a => rd_congr rfl a
  have hmark (x : StoreSt) : BootFrame bootRegs s (({ s with store := x } : State).setB Reg.STOR_STATE 10 true) :=
    (hset x).trans (.wr _ (by decide) (by decide) _)
  unfold State.loadMaps
  dsimp only
  split
  · split
    · exact hset _
    · exact hset _
  · split
    · exact hmark _
    · exact hmark _

theorem bootFrame_restoreMirror (h : s.boot.coldMirror = false) : BootFrame bootRegs s s.restoreMirror := by
  have hsame : s.restoreMirror = { s with boot := { s.boot with coldMirror := false } } := by
    simp [State.restoreMirror, h]
  have hboot : ({ s.boot with coldMirror := false } : BootSt) = s.boot := by rw [← h]
  rw [hsame]
  exact .of_rd hboot fun a => rd_congr rfl a

/-- The registers of the start but the status of one spine. -/
def otherRegs (die : Die) : List Nat := bootRegs.filter (· ≠ spineStat die)

theorem rd_setSpine_ne (s : State) (die : Die) (st : Nat) {a : Nat} (h : a ≠ spineStat die) (hc : a ≠ Reg.SPINE_CTRL) :
    (s.setSpine die st).rd a = s.rd a := by
  rw [State.setSpine, State.setB, State.wrF, rd_wr_ne _ _ hc, rd_wr_ne _ _ h]

theorem spineStat_ne_ctrl (die : Die) : spineStat die ≠ Reg.SPINE_CTRL := by
  cases die <;> decide

theorem spineState_setSpine_same (s : State) (die : Die) (st : Nat) : (s.setSpine die st).spineState die = st % 8 := by
  rw [State.spineState, State.setSpine, rdF_setB_of_ne _ _ _ (spineStat_ne_ctrl die), State.rdF, rd_wr_same, fld, word,
    BitVec.toNat_ofNat]
  omega

/-- The state before a spine's status is set to UP. -/
def State.spineReady (s : State) (die : Die) : State :=
  (s.setSpineSt die { s.spine die with resetReq := false }).setB Reg.SPINE_CTRL (spineNo die) false

theorem bootFrame_spineReady (s : State) (die : Die) : BootFrame bootRegs s (s.spineReady die) := by
  have hset : BootFrame bootRegs s (s.setSpineSt die { s.spine die with resetReq := false }) := by
    cases die <;> exact .of_rd rfl fun a => rd_congr rfl a
  exact hset.trans (.wr _ (by decide) (by decide) _)

/-- A spine comes up, and nothing else of the start's registers changes. -/
theorem spineUp_spec (s : State) (die : Die) : BootFrame (otherRegs die) s (s.spineUp die) ∧ (s.spineUp die).spineState die = 3 := by
  have hup : ∃ st, st % 8 = 3 ∧ s.spineUp die = (s.spineReady die).setSpine die st := by
    refine ⟨_, ?_, rfl⟩
    cases die <;> dsimp only <;> omega
  obtain ⟨st, hst, heq⟩ := hup
  have hset : BootFrame (otherRegs die) (s.spineReady die) ((s.spineReady die).setSpine die st) := by
    have hcirc : Reg.RSTC_CIRC ≠ spineStat die := by cases die <;> decide
    refine ⟨rfl, bit_congr (rd_setSpine_ne _ _ _ hcirc (by decide)) _, fun a ha => ?_⟩
    obtain ⟨hin, hne⟩ := List.mem_filter.mp ha
    refine rd_setSpine_ne _ _ _ (by simpa using hne) ?_
    rintro rfl
    exact absurd hin (by decide)
  rw [heq]
  exact ⟨((bootFrame_spineReady s die).mono (List.filter_subset_self _)).trans hset, (spineState_setSpine_same _ _ _).trans hst⟩

/-! ### The actions of the first steps -/

/-- The state after the action of a step before the sixth. -/
def State.earlyAct (s : State) (env : BootEnv) (alt : Bool) (n : Nat) : State :=
  match n with
  | 0 => ((s.satAdd Reg.RSTC_CIRC 0 4).setB Reg.RSTC_CIRC 17 (env.bootSel.getD false)).checkAnnex
  | 1 => s.setB Reg.CLK_STATUS 2 (alt || s.startDrive == 3)
  | 2 => (s.spineUp .front).loseArea 16
  | 3 => ((s.endPulses.spineUp .store).loadMaps.restoreMirror).checkAnnex.storeSync
  | 4 => s.loadKeys
  | _ => s

theorem earlyAct_five (s : State) (env : BootEnv) (alt : Bool) : s.earlyAct env alt 5 = s := rfl

theorem bootAct_early (s : State) (env : BootEnv) (alt : Bool) (hn : n ≤ 5) :
    s.bootAct env alt n = .ok (s.earlyAct env alt n) := by
  obtain rfl | rfl | rfl | rfl | rfl | rfl : n = 0 ∨ n = 1 ∨ n = 2 ∨ n = 3 ∨ n = 4 ∨ n = 5 := by omega
  · rfl
  · rfl
  · rfl
  · rfl
  · rfl
  · rfl

/-- A start whose first `j` steps are done. -/
structure Started (env : BootEnv) (j : Nat) (s t : State) : Prop where
  boot : t.boot = s.boot
  sel : 1 ≤ j → t.bit Reg.RSTC_CIRC 17 = env.bootSel.getD false
  front : 3 ≤ j → t.spineState .front = 3
  store : 4 ≤ j → t.spineState .store = 3
  count : ∀ k, j ≤ k → t.errCount k = s.errCount k
  kept : Kept s t

theorem spineState_of_frame (h : BootFrame bootRegs s t) (die : Die) : t.spineState die = s.spineState die := by
  refine rdF_congr (h.regs _ ?_) 0 3
  cases die <;> decide

theorem errCount_of_rd (h : t.rd Reg.RSTC_ERRATA = s.rd Reg.RSTC_ERRATA) (k : Nat) : t.errCount k = s.errCount k :=
  rdF_congr h _ _

/-- Whatever leaves the start's registers leaves what has been reached. -/
theorem Started.frame (h : Started env j s t) (hf : BootFrame bootRegs t u) (hk : Kept t u) : Started env j s u where
  boot := hf.boot.trans h.boot
  sel hj := hf.sel.trans (h.sel hj)
  front hj := (spineState_of_frame hf .front).trans (h.front hj)
  store hj := (spineState_of_frame hf .store).trans (h.store hj)
  count k hj := (errCount_of_rd (hf.regs _ (by decide)) k).trans (h.count k hj)
  kept := h.kept.trans hk

/-- The step reaches what it is for. -/
structure Acted (env : BootEnv) (n : Nat) (s t : State) : Prop where
  boot : t.boot = s.boot
  sel : if n = 0 then t.bit Reg.RSTC_CIRC 17 = env.bootSel.getD false else t.bit Reg.RSTC_CIRC 17 = s.bit Reg.RSTC_CIRC 17
  front : if n = 2 then t.spineState .front = 3 else t.spineState .front = s.spineState .front
  store : if n = 3 then t.spineState .store = 3 else t.spineState .store = s.spineState .store ∨ n = 2
  errata : t.rd Reg.RSTC_ERRATA = s.rd Reg.RSTC_ERRATA

theorem acted_of_frame (h : BootFrame bootRegs s t) (h0 : n ≠ 0) (h2 : n ≠ 2) (h3 : n ≠ 3) : Acted env n s t where
  boot := h.boot
  sel := by rw [if_neg h0]; exact h.sel
  front := by rw [if_neg h2]; exact spineState_of_frame h .front
  store := by rw [if_neg h3]; exact .inl (spineState_of_frame h .store)
  errata := h.regs _ (by decide)

theorem acted_earlyAct (s : State) (env : BootEnv) (alt : Bool) (hn : n ≤ 5) (hcold : n = 3 → s.boot.coldMirror = false) :
    Acted env n s (s.earlyAct env alt n) := by
  obtain rfl | rfl | rfl | rfl | rfl | rfl : n = 0 ∨ n = 1 ∨ n = 2 ∨ n = 3 ∨ n = 4 ∨ n = 5 := by omega
  case inl =>
    have hselected : ∀ a ∈ bootRegs,
        ((s.satAdd Reg.RSTC_CIRC 0 4).setB Reg.RSTC_CIRC 17 (env.bootSel.getD false)).rd a = s.rd a := by
      intro a ha
      have hne : a ≠ Reg.RSTC_CIRC := by
        revert a
        decide
      rw [State.setB, State.wrF, rd_wr_ne _ _ hne, State.satAdd, State.wrF, rd_wr_ne _ _ hne]
    have hcheck := bootFrame_checkAnnex (l := bootRegs) (by decide)
      ((s.satAdd Reg.RSTC_CIRC 0 4).setB Reg.RSTC_CIRC 17 (env.bootSel.getD false))
    exact {
      boot := hcheck.boot
      sel := hcheck.sel.trans (bit_setB_same _ _ (by decide))
      front := rdF_congr ((hcheck.regs _ (by decide)).trans (hselected _ (by decide))) _ _
      store := .inl (rdF_congr ((hcheck.regs _ (by decide)).trans (hselected _ (by decide))) _ _)
      errata := (hcheck.regs _ (by decide)).trans (hselected _ (by decide)) }
  case inr.inl => exact acted_of_frame (.wr _ (by decide) (by decide) s) (by decide) (by decide) (by decide)
  case inr.inr.inl =>
    obtain ⟨hup, hstate⟩ := spineUp_spec s .front
    have hlose (a : Nat) : ((s.spineUp .front).loseArea 16).rd a = (s.spineUp .front).rd a := rd_congr rfl a
    exact {
      boot := hup.boot
      sel := (bit_congr (hlose _) _).trans hup.sel
      front := (rdF_congr (hlose _) _ _).trans hstate
      store := .inr rfl
      errata := (hlose _).trans (hup.regs _ (by decide)) }
  case inr.inr.inr.inl =>
    obtain ⟨hup, hstate⟩ := spineUp_spec s.endPulses .store
    have hpulses := bootFrame_endPulses s
    have hmaps := bootFrame_loadMaps (s.endPulses.spineUp .store)
    have hcold3 : (s.endPulses.spineUp .store).loadMaps.boot.coldMirror = false := by
      rw [hmaps.boot, hup.boot, hpulses.boot, hcold rfl]
    have hafter := ((hmaps.trans (bootFrame_restoreMirror hcold3)).trans
      (bootFrame_checkAnnex (by decide) _)).trans (bootFrame_storeSync _)
    have hother : BootFrame (otherRegs .store) s _ :=
      ((hpulses.mono (List.filter_subset_self _)).trans hup).trans (hafter.mono (List.filter_subset_self _))
    exact {
      boot := hother.boot
      sel := hother.sel
      front := rdF_congr (hother.regs _ (by decide)) _ _
      store := (spineState_of_frame hafter .store).trans hstate
      errata := hother.regs _ (by decide) }
  case inr.inr.inr.inr.inl => exact acted_of_frame (.of_rd rfl fun a => rd_congr rfl a) (by decide) (by decide) (by decide)
  case inr.inr.inr.inr.inr => exact acted_of_frame (.refl _ s) (by decide) (by decide) (by decide)

/-! ### One step -/

/-- The state in which a step without a tamper input acts. -/
def State.entered (s : State) (n : Nat) : State :=
  (s.wr Reg.RSTC_BOOT_STEP (word n)).takePath ((s.wr Reg.RSTC_BOOT_STEP (word n)).takesAlt n) n

theorem bootFrame_takePath (s : State) (alt : Bool) (n : Nat) : BootFrame bootRegs s (s.takePath alt n) := by
  unfold State.takePath
  split
  · exact .wr _ (by decide) (by decide) s
  · exact .refl _ s

theorem bootFrame_entered (s : State) (n : Nat) : BootFrame bootRegs s (s.entered n) :=
  (BootFrame.wr _ (by decide) (by decide) s).trans (bootFrame_takePath _ _ _)

theorem kept_entered (s : State) (n : Nat) : Kept s (s.entered n) := Kept.takePath (Kept.wr (Kept.rfl' s))

theorem step_entered (s : State) (n : Nat) : (s.entered n).rd Reg.RSTC_BOOT_STEP = word n := by
  rw [State.entered, State.takePath]
  split
  · rw [State.setB, State.wrF, rd_wr_ne _ _ (by decide), rd_wr_same]
  · rw [rd_wr_same]

theorem bootTamper_of_none (h : env.tamper = []) (s : State) (n : Nat) : s.bootTamper env n = s := by
  simp [State.bootTamper, envTrips, h]

theorem isHeld_of_start (h : s.boot.phase = .start) : s.isHeld = false := by
  simp [State.isHeld, h]

/-- A step that nothing stops runs its action. -/
theorem bootStep_of_early (htamper : env.tamper = []) (hphase : s.boot.phase = .start) (hlate : late ≠ some n)
    (hfails : envFails env n = false) (hn : n ≤ 5) : s.bootStep env late n =
      ((s.entered n).earlyAct env ((s.wr Reg.RSTC_BOOT_STEP (word n)).takesAlt n) n).bootDone n
        ((s.wr Reg.RSTC_BOOT_STEP (word n)).takesAlt n) := by
  have hheld : (s.entered n).isHeld = false := isHeld_of_start (by rw [(bootFrame_entered s n).boot, hphase])
  rw [State.entered] at hheld
  have hlate' : (decide (late = some n) && n != 0 && n != 13) = false := by simp [hlate]
  simp only [State.bootStep, bootTamper_of_none htamper, hheld, hlate', hfails, bootAct_early _ env _ hn]
  rfl

/-- A step that the environment fails, or that is late. -/
theorem bootStep_of_failed {reason : Nat} (htamper : env.tamper = []) (hphase : s.boot.phase = .start) (h1 : 1 ≤ n)
    (h5 : n ≤ 5) (hreason : (late = some n ∧ reason = 1) ∨ (late ≠ some n ∧ envFails env n = true ∧ reason = 2)) :
    s.bootStep env late n = .stop ((s.entered n).bootFail n reason 0) := by
  have hheld : (s.entered n).isHeld = false := isHeld_of_start (by rw [(bootFrame_entered s n).boot, hphase])
  rw [State.entered] at hheld
  have h0 : (n != 0) = true := bne_iff_ne.mpr (by omega)
  have h13 : (n != 13) = true := bne_iff_ne.mpr (by omega)
  have hcode : envCode n = 0 := by simp [envCode, show n ≠ 7 by omega, show n ≠ 12 by omega]
  obtain ⟨hl, rfl⟩ | ⟨hl, hf, rfl⟩ := hreason
  · simp only [State.bootStep, bootTamper_of_none htamper, hheld, hl, h0, h13]
    rfl
  · have hlate' : (decide (late = some n) && n != 0 && n != 13) = false := by simp [hl]
    simp only [State.bootStep, bootTamper_of_none htamper, hheld, hlate', hf, hcode]
    rfl

theorem bootFrame_setErrCount {l : List Nat} (hl : Reg.RSTC_ERRATA ∉ l) (s : State) (n c : Nat) :
    BootFrame l s (s.setErrCount n c) := .wr _ (by decide) hl s

/-- A step's count becomes 0 on its normal path. -/
def State.stepCounted (s : State) (n : Nat) (alt : Bool) : State := if alt then s else s.setErrCount n 0

theorem bootDone_of_early (alt : Bool) (hn : n < 5) : s.bootDone n alt = .go (s.stepCounted n alt) := by
  have h5 : (decide (n = 5) && (s.stepCounted n alt).annexDue) = false := by simp [show n ≠ 5 by omega]
  have h13 : n ≠ 13 := by omega
  rw [State.stepCounted] at h5 ⊢
  simp only [State.bootDone, h5, if_neg h13]
  rfl

theorem bootFrame_stepCounted (s : State) (n : Nat) (alt : Bool) :
    BootFrame [Reg.SPINE_F_STAT, Reg.SPINE_S_STAT, Reg.RSTC_BOOT_STEP] s (s.stepCounted n alt) := by
  unfold State.stepCounted
  split
  · exact .refl _ s
  · exact bootFrame_setErrCount (by decide) s n 0

theorem errCount_stepCounted_ne (s : State) (alt : Bool) (h : k ≠ n) : (s.stepCounted n alt).errCount k = s.errCount k := by
  unfold State.stepCounted
  split
  · rfl
  · exact errCount_setErrCount_ne 0 h

/-- A step before the fifth that has acted goes on. -/
theorem started_succ (h : Started env n s t) (hn : n < 5) (hcold : n = 3 → s.boot.coldMirror = false)
    (hphase : s.boot.phase = .start) (htamper : env.tamper = []) (hlate : late ≠ some n) (hfails : envFails env n = false) :
    ∃ u, t.bootStep env late n = .go u ∧ Started env (n + 1) s u := by
  have hf := bootFrame_entered t n
  have hact := acted_earlyAct (n := n) (t.entered n) env ((t.wr Reg.RSTC_BOOT_STEP (word n)).takesAlt n) (by omega)
    (fun h3 => by rw [hf.boot, h.boot, hcold h3])
  have hstep := bootStep_of_early (late := late) htamper (by rw [h.boot, hphase]) hlate hfails (by omega : n ≤ 5)
  have hkept : Kept.bres s (t.bootStep env late n) := Kept.bootStep h.kept
  generalize (t.wr Reg.RSTC_BOOT_STEP (word n)).takesAlt n = alt at hact hstep
  generalize (t.entered n).earlyAct env alt n = v at hact hstep
  rw [bootDone_of_early alt hn] at hstep
  have hdone := bootFrame_stepCounted v n alt
  rw [hstep] at hkept
  refine ⟨_, hstep, hdone.boot.trans (hact.boot.trans (hf.boot.trans h.boot)), fun _ => ?_, fun h3 => ?_, fun h4 => ?_,
    fun k hk => ?_, hkept⟩
  · rw [hdone.sel]
    have hsel := hact.sel
    split at hsel
    · exact hsel
    next h0 => exact hsel.trans (hf.sel.trans (h.sel (by omega)))
  · rw [State.spineState, rdF_congr (hdone.regs _ (by decide)) 0 3]
    have hfront := hact.front
    split at hfront
    · exact hfront
    next h2 => exact hfront.trans ((spineState_of_frame hf .front).trans (h.front (by omega)))
  · rw [State.spineState, rdF_congr (hdone.regs _ (by decide)) 0 3]
    have hstore := hact.store
    split at hstore
    · exact hstore
    next h3 =>
      obtain hstore | h2 := hstore
      · exact hstore.trans ((spineState_of_frame hf .store).trans (h.store (by omega)))
      · omega
  · rw [errCount_stepCounted_ne v alt (by omega), errCount_of_rd hact.errata, errCount_of_rd (hf.regs _ (by decide)),
      h.count k (by omega)]

/-- The first steps that nothing stops. -/
theorem bootSteps_early (hcold : 3 < k → s.boot.coldMirror = false) (hphase : s.boot.phase = .start) (htamper : env.tamper = [])
    (hk : k ≤ 5) (hlate : ∀ n < k, late ≠ some n) (hfails : ∀ n < k, envFails env n = false) :
    ∃ t, Started env k s t ∧ bootSteps env late (List.range 14) s = bootSteps env late ((List.range 14).drop k) t := by
  induction k with
  | zero => exact ⟨s, ⟨rfl, by omega, by omega, by omega, fun _ _ => rfl, Kept.rfl' s⟩, rfl⟩
  | succ k ih =>
    obtain ⟨t, ht, hsteps⟩ := ih (fun h => hcold (by omega)) (by omega) (fun n hn => hlate n (by omega)) fun n hn => hfails n (by omega)
    obtain ⟨u, hgo, hu⟩ := started_succ (late := late) ht (by omega) (fun h => hcold (by omega)) hphase htamper (hlate k (by omega)) (hfails k (by omega))
    refine ⟨u, hu, hsteps.trans ?_⟩
    rw [List.drop_eq_getElem_cons (by rw [List.length_range]; omega), List.getElem_range, bootSteps, hgo]

/-! ### A failing step -/

/-- The state of a start when it begins. -/
def State.begun (s : State) : State := (s.setB Reg.RSTC_CIRC 18 false).countHang

theorem runBoot_of_start (hphase : s.boot.phase = .start) (h0 : env.fails.any (fun k => k.val == 0) = false) :
    s.runBoot env late = bootSteps env late (List.range 14) s.begun := by
  have hp : (s.boot.phase != .start) = false := by rw [hphase]; rfl
  simp only [State.runBoot, hp, h0]
  rfl

theorem kept_begun (s : State) : Kept s s.begun := Kept.countHang (Kept.setB (Kept.rfl' s))

theorem bootFrame_countFail (s : State) (n r c : Nat) : BootFrame [Reg.SPINE_F_STAT, Reg.SPINE_S_STAT] s (s.countFail n r c) := by
  have hcounted : BootFrame [Reg.SPINE_F_STAT, Reg.SPINE_S_STAT] s ((s.setErrCount n (min (s.errCount n + 1) 3)).wr
      Reg.RSTC_LASTFAIL (word (n + r * 2 ^ 4 + c * 2 ^ 8 + 2 ^ 31))) :=
    (bootFrame_setErrCount (by decide) s n _).trans (.wr _ (by decide) (by decide) _)
  unfold State.countFail
  dsimp only
  split
  · exact hcounted.trans (bootFrame_writeMirror (by decide) _)
  · exact hcounted

theorem boot_begun (s : State) : s.begun.boot = s.boot := by
  unfold State.begun State.countHang
  dsimp only
  split
  · exact (bootFrame_countFail _ _ _ _).boot
  · rfl

/-- A start after one that has come to its end counts no HANG. -/
theorem begun_of_ended (h : s.rd Reg.RSTC_BOOT_STEP = 0xF) : s.begun = s.setB Reg.RSTC_CIRC 18 false := by
  have hstep : (s.setB Reg.RSTC_CIRC 18 false).rdF Reg.RSTC_BOOT_STEP 0 4 = 15 := by
    rw [rdF_setB_of_ne _ _ _ (by decide), State.rdF, h]
    rfl
  rw [State.begun, State.countHang, hstep]
  rfl

/-- The registers that a failure leaves, over the reset that follows. -/
structure Failed (s t : State) (n reason : Nat) : Prop where
  phase : t.boot.phase = .held
  cause : t.rd Reg.RSTC_CAUSE = 0x20
  count : t.errCount n = min (s.errCount n + 1) 3
  lastFail : t.rd Reg.RSTC_LASTFAIL = word (n + reason * 2 ^ 4 + 2 ^ 31)

/-- What stands after the failure is counted. -/
theorem countFail_recorded (s : State) (hn : n < 14) (r : Nat) :
    (s.countFail n r 0).errCount n = min (s.errCount n + 1) 3 ∧
      (s.countFail n r 0).rd Reg.RSTC_LASTFAIL = word (n + r * 2 ^ 4 + 2 ^ 31) ∧
      (s.countFail n r 0).rd Reg.RSTC_BOOT_STEP = s.rd Reg.RSTC_BOOT_STEP := by
  have hwrites : BootFrame [Reg.RSTC_ERRATA, Reg.RSTC_LASTFAIL, Reg.RSTC_BOOT_STEP]
      ((s.setErrCount n (min (s.errCount n + 1) 3)).wr Reg.RSTC_LASTFAIL (word (n + r * 2 ^ 4 + 0 * 2 ^ 8 + 2 ^ 31)))
      (s.countFail n r 0) := by
    unfold State.countFail
    dsimp only
    split
    · exact bootFrame_writeMirror (by decide) _
    · exact .refl _ _
  refine ⟨?_, ?_, ?_⟩
  · rw [errCount_of_rd (hwrites.regs _ (by decide)), State.errCount, rdF_congr (rd_wr_ne _ _ (by decide)), State.setErrCount,
      rdF_wrF_same _ _ (by omega)]
    omega
  · rw [hwrites.regs _ (by decide), rd_wr_same]
    simp
  · rw [hwrites.regs _ (by decide), rd_wr_ne _ _ (by decide), State.setErrCount, State.wrF, rd_wr_ne _ _ (by decide)]

theorem failed_bootFail (hphase : s.boot.phase = .start) (hwf : s.regsWf = true) (hn : n < 14) (r : Nat) :
    Failed s (s.bootFail n r 0) n r ∧ (s.bootFail n r 0).rd Reg.RSTC_BOOT_STEP = s.rd Reg.RSTC_BOOT_STEP := by
  obtain ⟨hcount, hlast, hstep⟩ := countFail_recorded s hn r
  have hwf' : (s.countFail n r 0).regsWf = true := (Kept.countFail (Kept.rfl' s)).regs hwf
  have hheld : (s.countFail n r 0).isHeld = false := isHeld_of_start (by rw [(bootFrame_countFail s n r 0).boot, hphase])
  have hkept : ∀ a, keepOverReset false a = 0xFFFFFFFF → a ≠ Reg.RSTC_HIST → (s.bootFail n r 0).rd a = (s.countFail n r 0).rd a := by
    intro a hk hne
    rw [State.bootFail, warmReset_of_not_held hheld, rd_withPadHold, rd_warmed_of_kept hwf' hk hne]
  refine ⟨⟨?_, ?_, ?_, ?_⟩, ?_⟩
  · rw [State.bootFail, warmReset_of_not_held hheld, State.withPadHold, boot_warmed]
    rfl
  · rw [State.bootFail, warmReset_of_not_held hheld, rd_withPadHold, State.warmed, rd_recordCause_cause]
    rfl
  · rw [errCount_of_rd (hkept _ (by decide) (by decide)), hcount]
  · rw [hkept _ (by decide) (by decide), hlast]
  · rw [hkept _ (by decide) (by decide), hstep]

/-! ### Annex mode begins -/

theorem rd_enterAnnex_ne (s : State) {a : Nat} (h : a ∉ [Reg.RSTC_CIRC, Reg.GPIO_HOLD, Reg.RADIO_RX_FREQ, Reg.RADIO_FSM]) :
    s.enterAnnex.rd a = s.rd a := by
  simp only [List.mem_cons, List.not_mem_nil, or_false, not_or] at h
  obtain ⟨hcirc, hhold, hfreq, hfsm⟩ := h
  have hregs : s.enterAnnex.rd a = ((((s.setB Reg.RSTC_CIRC 18 true).setB Reg.GPIO_HOLD 0 false).wr Reg.RADIO_RX_FREQ
      (word ((s.setB Reg.RSTC_CIRC 18 true).setB Reg.GPIO_HOLD 0 false).rescueKhz)).wrF Reg.RADIO_FSM 0 7 3).rd a := rd_congr rfl a
  rw [hregs, State.wrF, rd_wr_ne _ _ hfsm, rd_wr_ne _ _ hfreq, State.setB, State.wrF, rd_wr_ne _ _ hhold, State.setB,
    State.wrF, rd_wr_ne _ _ hcirc]

theorem bits_enterAnnex (s : State) : s.enterAnnex.bit Reg.RSTC_CIRC 18 = true ∧
    s.enterAnnex.bit Reg.RSTC_CIRC 17 = s.bit Reg.RSTC_CIRC 17 ∧ s.enterAnnex.bit Reg.GPIO_HOLD 0 = false := by
  have hregs : ∀ a, a ≠ Reg.RADIO_RX_FREQ → a ≠ Reg.RADIO_FSM → s.enterAnnex.rd a =
      ((s.setB Reg.RSTC_CIRC 18 true).setB Reg.GPIO_HOLD 0 false).rd a := by
    intro a hfreq hfsm
    have hset : s.enterAnnex.rd a = ((((s.setB Reg.RSTC_CIRC 18 true).setB Reg.GPIO_HOLD 0 false).wr Reg.RADIO_RX_FREQ
      (word ((s.setB Reg.RSTC_CIRC 18 true).setB Reg.GPIO_HOLD 0 false).rescueKhz)).wrF Reg.RADIO_FSM 0 7 3).rd a := rd_congr rfl a
    rw [hset, State.wrF, rd_wr_ne _ _ hfsm, rd_wr_ne _ _ hfreq]
  refine ⟨?_, ?_, ?_⟩
  · rw [bit_congr (hregs _ (by decide) (by decide)), bit_setB_of_ne _ _ _ (by decide), bit_setB_same _ _ (by decide)]
  · rw [bit_congr (hregs _ (by decide) (by decide)), bit_setB_of_ne _ _ _ (by decide), bit_setB_ne _ _ (by decide)]
  · rw [bit_congr (hregs _ (by decide) (by decide)), bit_setB_same _ _ (by decide)]

/-- After step 5 with BOOT_SEL set the start ends in annex mode. -/
theorem bootDone_of_annex {alt : Bool} (h : (s.stepCounted 5 alt).bit Reg.RSTC_CIRC 17 = true) :
    s.bootDone 5 alt = .stop (s.stepCounted 5 alt).enterAnnex := by
  have hdue : (s.stepCounted 5 alt).annexDue = true := by simp [State.annexDue, h]
  rw [State.stepCounted] at hdue ⊢
  simp only [State.bootDone, decide_true, Bool.true_and, if_pos hdue]

/-- A start whose step `k` fails, the ones before it having run. -/
theorem runBoot_of_failed {reason : Nat} (hphase : s.boot.phase = .start) (hcold : 3 < k → s.boot.coldMirror = false)
    (htamper : env.tamper = []) (hended : s.rd Reg.RSTC_BOOT_STEP = 0xF) (hwf : s.regsWf = true) (h1 : 1 ≤ k) (h5 : k ≤ 5)
    (hlate : ∀ n < k, late ≠ some n) (hfails : ∀ n < k, envFails env n = false)
    (hreason : (late = some k ∧ reason = 1) ∨ (late ≠ some k ∧ envFails env k = true ∧ reason = 2))
    (h0 : env.fails.any (fun k => k.val == 0) = false) :
    Failed s (s.runBoot env late) k reason ∧ (s.runBoot env late).rd Reg.RSTC_BOOT_STEP = word k := by
  have hphase' : s.begun.boot.phase = .start := by rw [boot_begun, hphase]
  obtain ⟨t, ht, hsteps⟩ := bootSteps_early (s := s.begun) (late := late) (fun h => by rw [boot_begun, hcold h]) hphase' htamper
    h5 hlate hfails
  have hstop := bootStep_of_failed (s := t) htamper (by rw [ht.boot, hphase']) h1 h5 hreason
  have hrun : s.runBoot env late = (t.entered k).bootFail k reason 0 := by
    rw [runBoot_of_start hphase h0, hsteps, List.drop_eq_getElem_cons (by rw [List.length_range]; omega), List.getElem_range,
      bootSteps, hstop]
  have hf := bootFrame_entered t k
  obtain ⟨hfailed, hkeep⟩ := failed_bootFail (s := t.entered k) (by rw [hf.boot, ht.boot, hphase'])
    (((kept_begun s).trans (ht.kept.trans (kept_entered t k))).regs hwf) (by omega : k < 14) reason
  have hcount : (t.entered k).errCount k = s.errCount k := by
    rw [errCount_of_rd (hf.regs _ (by decide)), ht.count k (Nat.le_refl k), begun_of_ended hended]
    exact errCount_of_rd (rd_wr_ne _ _ (by decide)) k
  rw [hrun]
  refine ⟨⟨hfailed.phase, hfailed.cause, ?_, hfailed.lastFail⟩, ?_⟩
  · rw [hfailed.count, hcount]
  · rw [hkeep, step_entered]

/-- A start that nothing stops, with BOOT_SEL set, ends in annex mode. -/
theorem runBoot_of_annex (hphase : s.boot.phase = .start) (hcold : s.boot.coldMirror = false) (htamper : env.tamper = [])
    (hfails : env.fails = []) (hsel : env.bootSel = some true) :
    ∃ t, s.runBoot env none = t.enterAnnex ∧ Started env 6 s.begun t ∧ t.rd Reg.RSTC_BOOT_STEP = 5 := by
  have hphase' : s.begun.boot.phase = .start := by rw [boot_begun, hphase]
  obtain ⟨t, ht, hsteps⟩ := bootSteps_early (s := s.begun) (k := 5) (late := none) (fun _ => by rw [boot_begun, hcold]) hphase'
    htamper (by decide) (fun _ _ => by simp) (fun n _ => by simp [envFails, hfails])
  have hfive := bootStep_of_early (n := 5) (env := env) (late := none) (s := t) htamper (by rw [ht.boot, hphase'])
    (by simp) (by simp [envFails, hfails]) (by decide)
  generalize (t.wr Reg.RSTC_BOOT_STEP (word 5)).takesAlt 5 = alt at hfive
  have hentered : Started env 5 s.begun (t.entered 5) := ht.frame (bootFrame_entered t 5) (kept_entered t 5)
  have hf := bootFrame_stepCounted (t.entered 5) 5 alt
  have hselected : ((t.entered 5).stepCounted 5 alt).bit Reg.RSTC_CIRC 17 = true := by
    rw [hf.sel, hentered.sel (by decide), hsel]
    rfl
  have hkept : Kept (t.entered 5) ((t.entered 5).stepCounted 5 alt) := by
    unfold State.stepCounted
    split
    · exact Kept.rfl' _
    · exact Kept.setErrCount (Kept.rfl' _)
  refine ⟨(t.entered 5).stepCounted 5 alt, ?_, ⟨hf.boot.trans hentered.boot, fun _ => by rw [hselected, hsel]; rfl, fun _ => ?_,
    fun _ => ?_, fun k hk => ?_, hentered.kept.trans hkept⟩, ?_⟩
  · have hdone : bootSteps env none ((List.range 14).drop 5) t = ((t.entered 5).stepCounted 5 alt).enterAnnex := by
      rw [List.drop_eq_getElem_cons (by decide), List.getElem_range, bootSteps, hfive, earlyAct_five, bootDone_of_annex hselected]
    rw [runBoot_of_start hphase (by simp [hfails]), hsteps, hdone]
  · exact (rdF_congr (hf.regs _ (by decide)) 0 3).trans (hentered.front (by decide))
  · exact (rdF_congr (hf.regs _ (by decide)) 0 3).trans (hentered.store (by decide))
  · rw [errCount_stepCounted_ne _ alt (by omega), hentered.count k (by omega)]
  · rw [hf.regs _ (by decide), step_entered]
    rfl

end

end Sys2Proof.Machine
end

section

open Sys2Proof Sys2Proof.Machine

/-- Settles O16: the steps before the sixth leave the counts of the others, and a failing one ends in a software reset. -/
theorem aStartRunsItsStepsOrCountsTheFailure : Obligations.AStartRunsItsStepsOrCountsTheFailure := by
  unfold Obligations.AStartRunsItsStepsOrCountsTheFailure
  refine ⟨?_, ?_, ?_, ?_, ?_⟩
  case refine_1 =>
    intro env s hphase hfails htamper hsel hcold
    obtain ⟨t, hrun, ht, hstep⟩ := runBoot_of_annex hphase hcold htamper hfails hsel
    obtain ⟨hin, hboot, hhold⟩ := bits_enterAnnex t
    have hlife : Kept s t.enterAnnex := Kept.enterAnnex ((kept_begun s).trans ht.kept)
    refine ⟨t.enterAnnex, congrArg _ hrun, rfl, hin, ?_, ?_, ?_, ?_, hhold, rfl, hlife.life⟩
    · rw [hboot, ht.sel (by decide), hsel]
      rfl
    · rw [rd_enterAnnex_ne t (by decide), hstep]
    · exact (rdF_congr (rd_enterAnnex_ne t (by decide)) 0 3).trans (ht.front (by decide))
    · exact (rdF_congr (rd_enterAnnex_ne t (by decide)) 0 3).trans (ht.store (by decide))
  case refine_2 =>
    intro env s hphase hfails htamper hended hwf
    obtain ⟨hfailed, hstep⟩ := runBoot_of_failed (env := env) (late := none) (k := 1) (reason := 2) hphase (fun h => absurd h (by decide)) htamper hended hwf
      (by decide) (by decide) (fun _ _ => by simp) (fun n hn => by simp [envFails, show n = 0 by omega])
      (.inr ⟨by simp, by simp [envFails, hfails], rfl⟩) (by simp [hfails])
    exact ⟨_, rfl, hfailed.phase, hfailed.cause, hfailed.count, hfailed.lastFail, hstep⟩
  case refine_3 =>
    intro env k s hphase hfails htamper hended h1 h5 hcold hwf
    obtain ⟨hfailed, hstep⟩ := runBoot_of_failed (env := env) (late := some k.val) (k := k.val) (reason := 1) hphase (fun _ => hcold)
      htamper hended hwf h1 h5 (fun n hn he => by injection he; omega) (fun n _ => by simp [envFails, hfails]) (.inl ⟨rfl, rfl⟩)
      (by simp [hfails])
    exact ⟨_, rfl, hfailed.phase, hfailed.cause, hfailed.count, hfailed.lastFail, hstep⟩
  case refine_4 =>
    intro env s hphase h0
    simp only [exec_bootStart, execBootStart, State.runBoot, hphase, h0]
    rfl
  case refine_5 =>
    intro env s h
    simp [execBootStart, State.runBoot, h]

end

section
/-! PROOF. The panel port's sequences: their pages, scripts and ends (17, Flip and refresh; R580 to R595). -/

namespace Sys2Proof.Machine

section

variable {s t u v : State} {r : PanelRun} {k code : Nat} {px : List Nat}

/-! ### What the read of a page leaves -/

/-- The registers outside the store die's, the memory and the port's state are left. -/
structure PageRead (s t : State) : Prop where
  regs : ∀ a, 0x40040000 ≤ a → t.rd a = s.rd a
  mem : ∀ x, t.byteAt x = s.byteAt x
  panel : t.panel = s.panel

theorem PageRead.refl (s : State) : PageRead s s := ⟨fun _ _ => rfl, fun _ => rfl, rfl⟩

theorem readClosed_pageRead (s : State) : ReadClosed (PageRead s) where
  wr {t a w} _ ha h := by
    refine ⟨fun b hb => ?_, fun x => ?_, h.panel⟩
    · rw [rd_wr_ne _ _ (by omega), h.regs b hb]
    · exact (byteAt_congr rfl rfl x).trans (h.mem x)
  slip _ _ _ _ h := ⟨fun b hb => (rd_congr rfl b).trans (h.regs b hb), fun x => (byteAt_congr rfl rfl x).trans (h.mem x), h.panel⟩
  answerError h := ⟨fun b hb => (rd_congr rfl b).trans (h.regs b hb), fun x => (byteAt_congr rfl rfl x).trans (h.mem x), h.panel⟩

theorem pageRead_validate_ok {prof : List Byte} (h : s.validate prof k = .ok (px, u)) : PageRead s u := by
  have hread := (readClosed_pageRead s).validate prof k (PageRead.refl s)
  rw [h] at hread
  exact hread

theorem pageRead_validate_error {prof : List Byte} (h : s.validate prof k = .error (code, u)) : PageRead s u := by
  have hread := (readClosed_pageRead s).validate prof k (PageRead.refl s)
  rw [h] at hread
  exact hread

theorem pageRead_shownPixels {prof : List Byte} (h : PageRead s u) : PageRead s (u.shownPixels prof).2 :=
  (readClosed_pageRead s).shownPixels prof h

/-! ### The codes of a page that cannot be shown -/

theorem panelRead_code {off n : Nat} {e : PageErr} (h : s.panelRead off n = .error e) : e.1 = 8 := by
  unfold State.panelRead at h
  split at h
  · exact congrArg Prod.fst (Except.error.inj h).symm
  · split at h
    · exact congrArg Prod.fst (Except.error.inj h).symm
    · cases h

theorem pageBytes_code {e : PageErr} (h : s.pageBytes k = .error e) : e.1 = 4 ∨ e.1 = 8 := by
  unfold State.pageBytes at h
  split at h
  · exact .inl (congrArg Prod.fst (Except.error.inj h).symm)
  · split at h
    · exact .inl (congrArg Prod.fst (Except.error.inj h).symm)
    · split at h
      next e' he =>
        cases h
        exact .inr (panelRead_code he)
      · split at h
        next e' he =>
          cases h
          exact .inr (panelRead_code he)
        · cases h

theorem plainPage_code {prof : List Byte} {e : PageErr} (h : s.plainPage prof k = .error e) : e.1 = 4 ∨ e.1 = 8 := by
  unfold State.plainPage at h
  split at h
  next e' he =>
    cases h
    exact pageBytes_code he
  · split at h
    · split at h
      · cases h
      · exact .inl (congrArg Prod.fst (Except.error.inj h).symm)
    · exact .inl (congrArg Prod.fst (Except.error.inj h).symm)

theorem validate_code {prof : List Byte} {e : PageErr} (h : s.validate prof k = .error e) : e.1 = 4 ∨ e.1 = 8 := by
  unfold State.validate at h
  split at h
  next e' he =>
    cases h
    exact pageBytes_code he
  · split at h
    · exact plainPage_code h
    · split at h
      · exact .inl (congrArg Prod.fst (Except.error.inj h).symm)
      · split at h
        · exact .inl (congrArg Prod.fst (Except.error.inj h).symm)
        · split at h
          next e' he =>
            cases h
            exact plainPage_code he
          · split at h
            · cases h
            · exact .inl (congrArg Prod.fst (Except.error.inj h).symm)

/-! ### States of the port -/

theorem panelState_setPanel (s : State) {st : Nat} (h : st < 4) (run : Option PanelRun) : (s.setPanel st run).panelState = st :=
  (rdF_wrF_same _ st (by decide)).trans (Nat.mod_eq_of_lt h)

theorem rd_setPanel_ne (s : State) (st : Nat) (run : Option PanelRun) {a : Nat} (h : a ≠ Reg.PANEL_STATUS) :
    (s.setPanel st run).rd a = s.rd a := (rd_wr_ne _ _ h).trans (rd_congr rfl a)

theorem bit_setPanel (s : State) (st : Nat) (run : Option PanelRun) {i : Nat} (h : 2 ≤ i) :
    (s.setPanel st run).bit Reg.PANEL_STATUS i = s.bit Reg.PANEL_STATUS i :=
  (bit_wrF_ne _ (by omega)).trans (bit_congr (rd_congr rfl _) i)

theorem onlyRegs_setPanel (s : State) (st : Nat) (run : Option PanelRun) :
    OnlyRegs [Reg.PANEL_STATUS] { s with panel := (s.setPanel st run).panel } (s.setPanel st run) :=
  (OnlyRegs.refl _ _).wrF (by simp)

theorem pendingFlip_of_none (h : s.bit Reg.PANEL_STATUS 3 = false) : s.pendingFlip = s := by
  simp [State.pendingFlip, h]

/-! ### The end of a sequence -/

/-- The end before a held task 86. -/
def State.lastCode (s : State) (code : Nat) : State :=
  if code = 0 then (s.setPanel 0 none).wrF Reg.PANEL_STATUS 4 4 code
  else ((s.setPanel 0 none).wrF Reg.PANEL_STATUS 4 4 code).satAdd Reg.PANEL_COUNT 16 8

theorem panel_lastCode (s : State) (code : Nat) : (s.lastCode code).panel = { s.panel with run := none } := by
  unfold State.lastCode
  split <;> rfl

/-- The hold of task 86 has ended. -/
def State.offDone (s : State) : State := { s with panel := { s.panel with offDue := false } }

theorem rd_offDone (s : State) (a : Nat) : s.offDone.rd a = s.rd a := rd_congr rfl a

theorem endPanel_eq (s : State) (code : Nat) : s.endPanel code =
    if s.panel.offDue then (s.lastCode code).offDone.panelPower false else s.lastCode code := by
  have hoff : (s.lastCode code).panel.offDue = s.panel.offDue := by rw [panel_lastCode]
  rw [← hoff]
  rfl

/-- How a sequence leaves the port. -/
structure Ended (s t : State) (code : Nat) : Prop where
  state : t.panelState = 0
  run : t.panel.run = none
  last : t.rdF Reg.PANEL_STATUS 4 4 = code
  shown : t.rd Reg.PANEL_SHOWN = s.rd Reg.PANEL_SHOWN
  failed : code ≠ 0 → t.rdF Reg.PANEL_COUNT 16 8 = min (s.rdF Reg.PANEL_COUNT 16 8 + 1) 255
  power : t.bit Reg.PANEL_STATUS 2 = (s.bit Reg.PANEL_STATUS 2 && !s.panel.offDue)
  pending : t.bit Reg.PANEL_STATUS 3 = s.bit Reg.PANEL_STATUS 3
  regs : OnlyRegs (if code = 0 then [Reg.PANEL_STATUS] else [Reg.PANEL_STATUS, Reg.PANEL_COUNT]) { s with panel := t.panel } t

theorem rd_lastCode_status (s : State) (code : Nat) :
    (s.lastCode code).rd Reg.PANEL_STATUS = ((s.setPanel 0 none).wrF Reg.PANEL_STATUS 4 4 code).rd Reg.PANEL_STATUS := by
  unfold State.lastCode
  split
  · rfl
  · exact rd_wr_ne _ _ (by decide)

theorem onlyRegs_lastCode (s : State) (code : Nat) :
    OnlyRegs (if code = 0 then [Reg.PANEL_STATUS] else [Reg.PANEL_STATUS, Reg.PANEL_COUNT])
      { s with panel := (s.lastCode code).panel } (s.lastCode code) := by
  rw [panel_lastCode]
  unfold State.lastCode
  split
  · exact OnlyRegs.wrF (OnlyRegs.wrF (OnlyRegs.refl _ _) (by simp)) (by simp)
  · exact OnlyRegs.satAdd (OnlyRegs.wrF (OnlyRegs.wrF (OnlyRegs.refl _ _) (by simp)) (by simp)) (by simp)

theorem count_lastCode (s : State) (hc : code ≠ 0) :
    (s.lastCode code).rdF Reg.PANEL_COUNT 16 8 = min (s.rdF Reg.PANEL_COUNT 16 8 + 1) 255 := by
  rw [State.lastCode, if_neg hc, rdF_satAdd_same _ (by decide), rdF_wrF_of_ne _ _ _ _ (by decide),
    rdF_congr (rd_setPanel_ne s 0 none (by decide))]
  rfl

theorem ended_endPanel (s : State) (hc : code < 16) : Ended s (s.endPanel code) code := by
  have hlast : (s.lastCode code).rdF Reg.PANEL_STATUS 4 4 = code :=
    (rdF_congr (rd_lastCode_status s code) 4 4).trans ((rdF_wrF_same _ code (by decide)).trans (Nat.mod_eq_of_lt hc))
  have hstate : (s.lastCode code).panelState = 0 :=
    (rdF_congr (rd_lastCode_status s code) 0 2).trans ((rdF_wrF_ne _ _ (by omega)).trans (panelState_setPanel s (by decide) none))
  have hbit : ∀ i, 2 ≤ i → i < 4 → (s.lastCode code).bit Reg.PANEL_STATUS i = s.bit Reg.PANEL_STATUS i := fun i h2 h4 =>
    (bit_congr (rd_lastCode_status s code) i).trans ((bit_wrF_ne _ (by omega)).trans (bit_setPanel s 0 none h2))
  have honly := onlyRegs_lastCode s code
  have hshown : (s.lastCode code).rd Reg.PANEL_SHOWN = s.rd Reg.PANEL_SHOWN :=
    (honly.1 _ (by split <;> decide)).trans (rd_congr rfl _)
  rw [endPanel_eq]
  split
  next hoff =>
    have hne : ∀ a, a ≠ Reg.PANEL_STATUS → ((s.lastCode code).offDone.panelPower false).rd a = (s.lastCode code).rd a := fun a ha =>
      (rd_wr_ne _ _ ha).trans (rd_offDone _ a)
    exact {
      state := (rdF_wrF_ne _ _ (by omega)).trans ((rdF_congr (rd_offDone _ _) 0 2).trans hstate)
      run := by rw [show ((s.lastCode code).offDone.panelPower false).panel.run = (s.lastCode code).panel.run from rfl, panel_lastCode]
      last := (rdF_wrF_ne _ _ (by omega)).trans ((rdF_congr (rd_offDone _ _) 4 4).trans hlast)
      shown := (hne _ (by decide)).trans hshown
      failed := fun h => (rdF_congr (hne _ (by decide)) 16 8).trans (count_lastCode s h)
      power := by rw [State.panelPower, bit_setB_same _ _ (by decide), hoff]; simp
      pending := (bit_setB_ne _ _ (by decide)).trans ((bit_congr (rd_offDone _ _) 3).trans (hbit 3 (by decide) (by decide)))
      regs := (honly.map (fun x => x.offDone) rfl fun _ => rfl).setB (by split <;> simp) }
  next hoff =>
    exact {
      state := hstate
      run := by rw [panel_lastCode]
      last := hlast
      shown := hshown
      failed := count_lastCode s
      power := by rw [hbit 2 (by decide) (by decide)]; simp [hoff]
      pending := hbit 3 (by decide) (by decide)
      regs := honly }

/-- A sequence that ends leaves nothing pending where nothing was. -/
theorem ended_pendingFlip (hc : code < 16) (h3 : s.bit Reg.PANEL_STATUS 3 = false) :
    (s.endPanel code).pendingFlip = s.endPanel code :=
  pendingFlip_of_none (by rw [(ended_endPanel s hc).pending, h3])

/-- What was read before the end. -/
theorem Ended.after (h : Ended u t code) (hr : PageRead s u) : t.panelState = 0 ∧ t.panel.run = none ∧
    t.rdF Reg.PANEL_STATUS 4 4 = code ∧ t.rd Reg.PANEL_SHOWN = s.rd Reg.PANEL_SHOWN ∧
    (code ≠ 0 → t.rdF Reg.PANEL_COUNT 16 8 = min (s.rdF Reg.PANEL_COUNT 16 8 + 1) 255) ∧
    t.bit Reg.PANEL_STATUS 2 = (s.bit Reg.PANEL_STATUS 2 && !s.panel.offDue) :=
  ⟨h.state, h.run, h.last, h.shown.trans (hr.regs _ (by decide)),
    fun hc => (h.failed hc).trans (by rw [rdF_congr (hr.regs _ (by decide))]),
    h.power.trans (by rw [bit_congr (hr.regs _ (by decide)), hr.panel])⟩

/-! ### Scripts (R580) -/

/-- A script in main SRAM. -/
def State.scriptInSram (s : State) : Prop :=
  0x20000000 ≤ (s.rd Reg.PANEL_SCRIPT).toNat ∧ (s.rd Reg.PANEL_SCRIPT).toNat < 0x20060000

theorem scriptBytes_of_sram (h : s.scriptInSram) :
    s.scriptBytes = .ok (s.bytesAt (s.rd Reg.PANEL_SCRIPT).toNat 256, s) := by
  have hin : (0x20000000 ≤ (s.rd Reg.PANEL_SCRIPT).toNat && (s.rd Reg.PANEL_SCRIPT).toNat < 0x20060000) = true := by
    rw [Bool.and_eq_true, decide_eq_true_eq, decide_eq_true_eq]
    exact h
  simp only [State.scriptBytes, if_pos hin]

theorem scriptInStore_of_sram (h : s.scriptInSram) : s.scriptInStore = false := by
  have hnot : ¬ (s.rd Reg.PANEL_SCRIPT).toNat < 0x20000000 := Nat.not_lt.mpr h.1
  simp [State.scriptInStore, hnot]

/-- A script in main SRAM starts with event 209. -/
theorem startScript_of_sram {l : List Byte} (h : s.scriptInSram)
    (hl : s.bytesAt (s.rd Reg.PANEL_SCRIPT).toNat 256 = l) :
    s.startScript r = ((s.event 209).setPanel 2 (some r)).runScript r 257 l := by
  have hptr : (s.event 209).rd Reg.PANEL_SCRIPT = s.rd Reg.PANEL_SCRIPT := rd_event_ne _ (by decide) (by decide) (by decide)
  have hin : (s.event 209).scriptInSram := by rw [State.scriptInSram, hptr]; exact h
  have hbytes : (s.event 209).bytesAt (s.rd Reg.PANEL_SCRIPT).toNat 256 = l :=
    (bytesAt_congr (fun x => byteAt_event s 209 x) _ _).trans hl
  simp only [State.startScript, scriptBytes_of_sram hin, hptr, hbytes]

/-- A script waits, with what is left of it. -/
def State.waitFor (s : State) (r : PanelRun) (w : PanelWait) (rest : List Byte) : State :=
  s.setPanel 2 (some { r with wait := w, script := rest })

theorem runScript_end (s : State) (r : PanelRun) (n : Nat) (l : List Byte) :
    s.runScript r (n + 1) (0 :: l) = s.waitFor r .ended [] := rfl

theorem runScript_busy (s : State) (r : PanelRun) (n : Nat) (l : List Byte) :
    s.runScript r (n + 1) (3 :: l) = s.waitFor r .busy l := by
  cases l <;> rfl

theorem runScript_page (s : State) (r : PanelRun) (n : Nat) (l : List Byte) :
    s.runScript r (n + 1) (5 :: l) = (s.panelSend true (streamPage r.profile r.pixels)).runScript r n l := by
  cases l <;> rfl

theorem runScript_command (s : State) (r : PanelRun) (n : Nat) (c : Byte) (l : List Byte) :
    s.runScript r (n + 1) (1 :: c :: l) = (s.panelSend false [c]).runScript r n l := rfl

theorem runScript_data_two (s : State) (r : PanelRun) (n : Nat) (x y : Byte) (l : List Byte) :
    s.runScript r (n + 1) (2 :: 2 :: x :: y :: l) = (s.panelSend true [x, y]).runScript r n l := by
  have henough : ((2 : Byte).toNat = 0 || (x :: y :: l).length < (2 : Byte).toNat) = false := by simp
  have hstep : s.runScript r (n + 1) (2 :: 2 :: x :: y :: l) =
      if ((2 : Byte).toNat = 0 || (x :: y :: l).length < (2 : Byte).toNat) = true then s.endPanel 6
      else (s.panelSend true ((x :: y :: l).take (2 : Byte).toNat)).runScript r n ((x :: y :: l).drop (2 : Byte).toNat) := rfl
  rw [hstep, henough]
  rfl

/-- A script that waits keeps the registers but the port's status, and leaves a pending flip pending. -/
theorem waitFor_spec (s : State) (r : PanelRun) (w : PanelWait) (rest : List Byte) :
    (s.waitFor r w rest).panelState = 2 ∧ (s.waitFor r w rest).panel = { s.panel with run := some { r with wait := w, script := rest } } ∧
      (s.waitFor r w rest).bit Reg.PANEL_STATUS 3 = s.bit Reg.PANEL_STATUS 3 ∧
      (∀ a, a ≠ Reg.PANEL_STATUS → (s.waitFor r w rest).rd a = s.rd a) :=
  ⟨panelState_setPanel _ (by decide) _, rfl, bit_setPanel _ _ _ (by decide), fun _ ha => rd_setPanel_ne _ _ _ ha⟩

theorem continueScript_eq (s : State) (r : PanelRun) :
    s.continueScript r = (s.runScript r (r.script.length + 1) r.script).pendingFlip := rfl

theorem bit_panelSend (s : State) (d : Bool) (l : List Byte) (a i : Nat) : (s.panelSend d l).bit a i = s.bit a i :=
  bit_congr (rd_congr rfl a) i

theorem rd_busyInactive (s : State) (a : Nat) : s.busyInactive.rd a = s.rd a := by
  unfold State.busyInactive
  split
  · exact rd_congr rfl a
  · rfl

theorem panel_busyInactive (s : State) : s.busyInactive.panel = s.panel := by
  unfold State.busyInactive
  split <;> rfl

/-! ### The start of a sequence (R586, R587) -/

/-- Nothing has been sent to the panel. -/
def State.sentNone (s : State) : State := { s with panel := { s.panel with sent := [] } }

/-- The sequence of a valid page. -/
def pageRun (flip : Bool) (slot : Nat) (px prev : List Nat) (prof : List Byte) : PanelRun :=
  { flip := flip, slot := slot, wait := .power, pixels := px, prev := prev, profile := prof }

theorem startPage_of_error {flip : Bool} (h : s.validate (s.sec 14) k = .error (code, u)) :
    s.startPage flip k = u.endPanel code := by
  simp only [State.startPage, h]

theorem startPage_of_ok {flip : Bool} (h : s.validate (s.sec 14) k = .ok (px, u)) (hv : v = (u.shownPixels (s.sec 14)).2) :
    s.startPage flip k = if s.bit Reg.PANEL_STATUS 2 then
      v.sentNone.startScript (pageRun flip k px (u.shownPixels (s.sec 14)).1 (s.sec 14))
    else (v.sentNone.panelPower true).setPanel 1 (some (pageRun flip k px (u.shownPixels (s.sec 14)).1 (s.sec 14))) := by
  subst hv
  simp only [State.startPage, h]
  rfl

/-- The running sequence. -/
def State.withRun (s : State) (run : Option PanelRun) : State := { s with panel := { s.panel with run := run } }

/-- The port powers the panel up for a valid page. -/
theorem powered_spec (v : State) (r : PanelRun) (h3 : v.bit Reg.PANEL_STATUS 3 = false) :
    ((v.sentNone.panelPower true).setPanel 1 (some r)).pendingFlip = (v.sentNone.panelPower true).setPanel 1 (some r) ∧
      ((v.sentNone.panelPower true).setPanel 1 (some r)).bit Reg.PANEL_STATUS 2 = true ∧
      ((v.sentNone.panelPower true).setPanel 1 (some r)).panelState = 1 ∧
      ((v.sentNone.panelPower true).setPanel 1 (some r)).panel.run = some r ∧
      OnlyRegs [Reg.PANEL_STATUS] { v with panel := ((v.sentNone.panelPower true).setPanel 1 (some r)).panel }
        ((v.sentNone.panelPower true).setPanel 1 (some r)) := by
  have hsent : ∀ a, v.sentNone.rd a = v.rd a := fun a => rd_congr rfl a
  have hpanel : ((v.sentNone.panelPower true).setPanel 1 (some r)).panel = { v.panel with sent := [], run := some r } := rfl
  have hpower : OnlyRegs [Reg.PANEL_STATUS] (v.sentNone.withRun (some r)) ((v.sentNone.panelPower true).withRun (some r)) :=
    (OnlyRegs.setB (OnlyRegs.refl _ _) (by simp)).map (fun x => x.withRun (some r)) rfl fun _ => rfl
  refine ⟨pendingFlip_of_none ?_, ?_, panelState_setPanel _ (by decide) _, rfl, ?_⟩
  · rw [bit_setPanel _ _ _ (by decide), State.panelPower, bit_setB_ne _ _ (by decide), bit_congr (hsent _), h3]
  · rw [bit_setPanel _ _ _ (by decide), State.panelPower, bit_setB_same _ _ (by decide)]
  · rw [hpanel]
    exact hpower.wrF (by simp)

/-- The state in which a script begins. -/
def State.scripted (s : State) (r : PanelRun) : State := (s.event 209).setPanel 2 (some r)

theorem scripted_spec (s : State) (r : PanelRun) : (s.scripted r).pending1 209 = true ∧
    (s.scripted r).panel = { s.panel with run := some r } ∧
    (s.scripted r).bit Reg.PANEL_STATUS 3 = s.bit Reg.PANEL_STATUS 3 ∧
    (s.scripted r).rd Reg.PANEL_SHOWN = s.rd Reg.PANEL_SHOWN := by
  refine ⟨?_, ?_, ?_, ?_⟩
  · exact (bit_congr (rd_setPanel_ne _ _ _ (by decide)) _).trans (pending1_event_self s (by decide))
  · exact congrArg (fun p : PanelSt => { p with run := some r }) (event_panel s 209)
  · rw [State.scripted, bit_setPanel _ _ _ (by decide), bit_congr (rd_event_ne _ (by decide) (by decide) (by decide))]
  · rw [State.scripted, rd_setPanel_ne _ _ _ (by decide), rd_event_ne _ (by decide) (by decide) (by decide)]

/-- A script that ends at once. -/
theorem startScript_of_end {l : List Byte} (h : s.scriptInSram) (hl : s.bytesAt (s.rd Reg.PANEL_SCRIPT).toNat 256 = 0 :: l) :
    s.startScript r = (s.scripted r).waitFor r .ended [] := by
  rw [startScript_of_sram h hl, runScript_end]
  rfl

/-- A script that streams its page and ends. -/
theorem startScript_of_page {l : List Byte} (h : s.scriptInSram)
    (hl : s.bytesAt (s.rd Reg.PANEL_SCRIPT).toNat 256 = 5 :: 0 :: l) :
    s.startScript r = ((s.scripted r).panelSend true (streamPage r.profile r.pixels)).waitFor r .ended [] := by
  rw [startScript_of_sram h hl, runScript_page, runScript_end]
  rfl

theorem byteAt_sentNone (s : State) (x : Nat) : s.sentNone.byteAt x = s.byteAt x := byteAt_congr rfl rfl x

theorem rd_sentNone (s : State) (a : Nat) : s.sentNone.rd a = s.rd a := rd_congr rfl a

/-- A valid page whose script is the page itself, with the panel powered. -/
theorem streamed_spec {flip : Bool} {l : List Byte} (hok : s.validate (s.sec 14) k = .ok (px, u))
    (hv : v = (u.shownPixels (s.sec 14)).2) (hpow : s.bit Reg.PANEL_STATUS 2 = true) (h3 : s.bit Reg.PANEL_STATUS 3 = false)
    (hin : s.scriptInSram) (hl : s.bytesAt (s.rd Reg.PANEL_SCRIPT).toNat 256 = 5 :: 0 :: l) :
    ∃ t, (s.startPage flip k).pendingFlip = t ∧ t.pending1 209 = true ∧ t.panelState = 2 ∧
      t.panel.sent = (streamPage (s.sec 14) px).map (fun b => (true, b)) ∧
      t.panel.run = some { flip := flip, slot := k, wait := .ended, pixels := px, prev := (u.shownPixels (s.sec 14)).1, profile := s.sec 14 } ∧
      t.rd Reg.PANEL_SHOWN = s.rd Reg.PANEL_SHOWN := by
  have hread : PageRead s v := hv ▸ pageRead_shownPixels (pageRead_validate_ok hok)
  have hptr : v.sentNone.rd Reg.PANEL_SCRIPT = s.rd Reg.PANEL_SCRIPT := (rd_sentNone v _).trans (hread.regs _ (by decide))
  have hin' : v.sentNone.scriptInSram := by rw [State.scriptInSram, hptr]; exact hin
  have hl' : v.sentNone.bytesAt (v.sentNone.rd Reg.PANEL_SCRIPT).toNat 256 = 5 :: 0 :: l := by
    rw [hptr, bytesAt_congr (fun x => (byteAt_sentNone v x).trans (hread.mem x)), hl]
  have hstart := startPage_of_ok (flip := flip) hok hv
  rw [hpow, if_pos rfl, startScript_of_page hin' hl'] at hstart
  obtain ⟨hpend, hpanel, hbit, hshown⟩ := scripted_spec v.sentNone (pageRun flip k px (u.shownPixels (s.sec 14)).1 (s.sec 14))
  have h3v : v.sentNone.bit Reg.PANEL_STATUS 3 = false := by
    rw [bit_congr (rd_sentNone v _), bit_congr (hread.regs _ (by decide)), h3]
  generalize v.sentNone.scripted (pageRun flip k px (u.shownPixels (s.sec 14)).1 (s.sec 14)) = w at *
  generalize hsent : w.panelSend true (streamPage (pageRun flip k px (u.shownPixels (s.sec 14)).1 (s.sec 14)).profile
    (pageRun flip k px (u.shownPixels (s.sec 14)).1 (s.sec 14)).pixels) = x at *
  have hxr : ∀ a, x.rd a = w.rd a := fun a => by rw [← hsent]; exact rd_congr rfl a
  have hxp : x.panel.sent = (streamPage (s.sec 14) px).map (fun b => (true, b)) := by
    rw [← hsent, State.panelSend, hpanel]
    rfl
  obtain ⟨hst, hwp, hwb, hwr⟩ := waitFor_spec x (pageRun flip k px (u.shownPixels (s.sec 14)).1 (s.sec 14)) .ended []
  rw [hstart, pendingFlip_of_none (by rw [hwb, bit_congr (hxr _), hbit, h3v])]
  refine ⟨_, rfl, ?_, hst, ?_, ?_, ?_⟩
  · rw [State.pending1, bit_congr (hwr _ (by decide)), bit_congr (hxr _)]
    exact hpend
  · rw [hwp]
    exact hxp
  · rw [hwp]
    rfl
  · rw [hwr _ (by decide), hxr, hshown, rd_sentNone, hread.regs _ (by decide)]

/-! ### The ends of a script -/

theorem startFlip_of_refused (h : s.bit Reg.PANEL_STAGE 4 = false ∨
    (s.psState (s.rdF Reg.PANEL_STAGE 0 4) ≠ 1 ∧ s.psState (s.rdF Reg.PANEL_STAGE 0 4) ≠ 2)) : s.startFlip = s.endPanel 3 := by
  unfold State.startFlip
  dsimp only
  split
  · rfl
  next hv =>
    obtain h | ⟨h1, h2⟩ := h
    · exact absurd h (by simpa using hv)
    · split
      next heq => exact absurd heq h2
      next heq => exact absurd heq h1
      · rfl

theorem pageRead_event (s : State) (n : Nat) (hn : n < 256) : PageRead s (s.event n) where
  regs a ha := rd_event_ne s (by simp only [Reg.INTC_PEND]; omega) (by simp only [Reg.INTC_OVR]; omega)
    (by simp only [Reg.PWR_COUNT]; omega)
  mem x := byteAt_event s n x
  panel := event_panel s n

theorem Ended.rd_ne (h : Ended s t code) {a : Nat} (h1 : a ≠ Reg.PANEL_STATUS) (h2 : a ≠ Reg.PANEL_COUNT) : t.rd a = s.rd a := by
  refine (h.regs.1 a ?_).trans (rd_congr rfl a)
  split <;> simp [h1, h2]

theorem Ended.rd_ne_of_ok (h : Ended s t 0) {a : Nat} (h1 : a ≠ Reg.PANEL_STATUS) : t.rd a = s.rd a :=
  (h.regs.1 a (by simp [h1])).trans (rd_congr rfl a)

theorem Ended.store (h : Ended s t code) : t.store = s.store := by rw [h.regs.2.2]

theorem Ended.held (h : Ended s t code) : t.held = s.held := by rw [h.regs.2.2]

/-- The registers of a flip that has ended. -/
def State.flipped (s : State) (slot : Nat) : State :=
  ((s.wr Reg.PANEL_SHOWN (word (slot + 16))).setB Reg.PANEL_STAGE 4 false).satAdd Reg.PANEL_COUNT 0 16

/-- A flip has ended, with its events. -/
def State.flipEnded (s : State) (slot : Nat) : State := (((s.flipped slot).endPanel 0).event 210).event 208

theorem rd_flipped_ne (s : State) (slot : Nat) {a : Nat} (h1 : a ≠ Reg.PANEL_SHOWN) (h2 : a ≠ Reg.PANEL_STAGE)
    (h3 : a ≠ Reg.PANEL_COUNT) : (s.flipped slot).rd a = s.rd a := by
  rw [State.flipped, State.satAdd, State.wrF, rd_wr_ne _ _ h3, State.setB, State.wrF, rd_wr_ne _ _ h2, rd_wr_ne _ _ h1]

theorem rd_flipEnded (s : State) (slot : Nat) {a : Nat} (h : 0x40040000 ≤ a) :
    (s.flipEnded slot).rd a = ((s.flipped slot).endPanel 0).rd a :=
  ((pageRead_event _ 208 (by decide)).regs a h).trans ((pageRead_event _ 210 (by decide)).regs a h)

theorem flipEnded_spec (s : State) (slot : Nat) : (s.flipEnded slot).rd Reg.PANEL_SHOWN = word (slot + 16) ∧
    (s.flipEnded slot).bit Reg.PANEL_STAGE 4 = false ∧
    (s.flipEnded slot).rdF Reg.PANEL_COUNT 0 16 = min (s.rdF Reg.PANEL_COUNT 0 16 + 1) 65535 ∧
    (s.flipEnded slot).panelState = 0 ∧ (s.flipEnded slot).panel.run = none ∧
    (s.flipEnded slot).rdF Reg.PANEL_STATUS 4 4 = 0 ∧ (s.flipEnded slot).pending1 210 = true ∧
    (s.flipEnded slot).pending1 208 = true ∧
    (s.flipEnded slot).bit Reg.PANEL_STATUS 2 = (s.bit Reg.PANEL_STATUS 2 && !s.panel.offDue) ∧
    (s.flipEnded slot).bit Reg.PANEL_STATUS 3 = s.bit Reg.PANEL_STATUS 3 := by
  have hend := ended_endPanel (s.flipped slot) (code := 0) (by decide)
  have hstatus : (s.flipped slot).rd Reg.PANEL_STATUS = s.rd Reg.PANEL_STATUS := rd_flipped_ne s slot (by decide) (by decide) (by decide)
  refine ⟨?_, ?_, ?_, ?_, ?_, ?_, ?_, ?_, ?_, ?_⟩
  · rw [rd_flipEnded s slot (by decide), hend.rd_ne_of_ok (by decide), State.flipped, State.satAdd, State.wrF, rd_wr_ne _ _ (by decide),
      State.setB, State.wrF, rd_wr_ne _ _ (by decide), rd_wr_same]
  · rw [bit_congr (rd_flipEnded s slot (by decide)), bit_congr (hend.rd_ne_of_ok (by decide)), State.flipped,
      bit_satAdd_of_ne _ _ _ _ (by decide), bit_setB_same _ _ (by decide)]
  · rw [rdF_congr (rd_flipEnded s slot (by decide)), rdF_congr (hend.rd_ne_of_ok (by decide)), State.flipped,
      rdF_satAdd_same _ (by decide), rdF_setB_of_ne _ _ _ (by decide), rdF_congr (rd_wr_ne _ _ (by decide))]
    rfl
  · exact (rdF_congr (rd_flipEnded s slot (by decide)) 0 2).trans hend.state
  · rw [State.flipEnded, event_panel, event_panel, hend.run]
  · rw [rdF_congr (rd_flipEnded s slot (by decide)), hend.last]
  · exact pending1_event_of_pending1 208 (by decide) (pending1_event_self _ (by decide))
  · exact pending1_event_self _ (by decide)
  · rw [bit_congr (rd_flipEnded s slot (by decide)), hend.power, bit_congr hstatus]
    rfl
  · rw [bit_congr (rd_flipEnded s slot (by decide)), hend.pending, bit_congr hstatus]

theorem readStalls_congr (hst : t.store = s.store) (hr : t.rd Reg.SPINE_S_STAT = s.rd Reg.SPINE_S_STAT) :
    t.readStalls = s.readStalls := by
  have hb : ∀ p, t.planeBusy p = s.planeBusy p := fun p => congrArg (fun x => State.planeBusy { t with store := x } p) hst
  have hs : t.spineState .store = s.spineState .store := rdF_congr hr 0 3
  simp only [State.readStalls, hb, hs]

/-- A flip left pending runs at the end of the first, and finds no staged page. -/
theorem pendingFlip_flipEnded (h3 : s.bit Reg.PANEL_STATUS 3 = true) (hheld : s.held.any isPanelCmd = false)
    (hst : s.readStalls = false) (slot : Nat) :
    (s.flipEnded slot).pendingFlip = ((s.flipEnded slot).setB Reg.PANEL_STATUS 3 false).endPanel 3 := by
  obtain ⟨-, hstage, -, hstate, -, -, -, -, -, hpend⟩ := flipEnded_spec s slot
  have hend := ended_endPanel (s.flipped slot) (code := 0) (by decide)
  have hheld' : (s.flipEnded slot).held = s.held := by
    rw [State.flipEnded, event_held, event_held, hend.held]
    rfl
  have hstall : (s.flipEnded slot).readStalls = false := by
    rw [readStalls_congr (s := s) ?_ ?_, hst]
    · rw [State.flipEnded, event_store, event_store, hend.store]
      rfl
    · rw [State.flipEnded, rd_event_ne _ (by decide) (by decide) (by decide), rd_event_ne _ (by decide) (by decide) (by decide),
        hend.rd_ne (by decide) (by decide), rd_flipped_ne s slot (by decide) (by decide) (by decide)]
  have htaken : (s.flipEnded slot).panelTaken = false := by simp [State.panelTaken, hstate, hheld', hheld]
  rw [State.pendingFlip, hpend, h3, htaken, hstall]
  exact startFlip_of_refused (.inl ((bit_congr (rd_wr_ne _ _ (by decide)) 4).trans hstage))

/-! ### The commands of a flip -/

theorem execPanelFlip_of_idle (hon : s.panelOn = true) (ht : s.panelTaken = false) :
    execPanelFlip s = .next s.startFlip.pendingFlip := by
  simp [execPanelFlip, hon, ht]

theorem startFlip_of_valid (hk : k = s.rdF Reg.PANEL_STAGE 0 4) (hv : s.bit Reg.PANEL_STAGE 4 = true) (h2 : s.psState k = 2) :
    s.startFlip = if s.readStalls then s.holdCmd .panelFlip else s.startPage true k := by
  subst hk
  simp [State.startFlip, hv, h2]

/-- A flip that waits for its slot. -/
def State.deferred (s : State) (k : Nat) : State :=
  (s.setPanel 3 (some { flip := true, slot := k, wait := .page })).wrF Reg.PANEL_STATUS 4 4 1

theorem onlyRegs_deferred (s : State) (k : Nat) :
    OnlyRegs [Reg.PANEL_STATUS] { s with panel := (s.deferred k).panel } (s.deferred k) :=
  (onlyRegs_setPanel s 3 (some { flip := true, slot := k, wait := .page })).wrF (by simp)

theorem startFlip_of_writing (hk : k = s.rdF Reg.PANEL_STAGE 0 4) (hv : s.bit Reg.PANEL_STAGE 4 = true) (h1 : s.psState k = 1) :
    s.startFlip = (s.deferred k).event 213 := by
  subst hk
  simp [State.startFlip, hv, h1, State.deferred]

theorem panelWaits_of_run {w : PanelWait} (h : s.panel.run = some r) (hw : r.wait = w) : s.panelWaits w = some r := by
  simp [State.panelWaits, h, hw]

theorem present_of_panelOn (h : s.panelOn = true) : s.present 27 = true := by
  rw [State.panelOn, Bool.and_eq_true] at h
  exact h.1

end

end Sys2Proof.Machine
end

section

open Sys2Proof Sys2Proof.Machine

/-- Settles O57: a sequence runs to its next wait or to its end; what the reading of its page leaves is said by `PageRead`. -/
theorem panelSequencesFollowTheirPages : Obligations.PanelSequencesFollowTheirPages := by
  unfold Obligations.PanelSequencesFollowTheirPages
  refine ⟨?_, ?_, ?_, ?_, ?_, ?_, ?_, ?_, ?_, ?_, ?_, ?_, ?_, ?_, ?_, ?_, ?_, ?_, ?_, ?_, ?_, ?_, ?_, ?_, ?_, ?_, ?_, ?_, ?_, ?_⟩
  case refine_1 =>
    intro c s hc hp hoff
    simp only [List.mem_cons, List.not_mem_nil, or_false] at hc
    obtain rfl | rfl | rfl | rfl := hc
    · simp [execPanelFlip, hoff]
    · simp [execPanelRefresh, hp, hoff]
    · simp [execPanelPowerOn, hoff]
    · simp [execPanelPowerOff, hoff]
  case refine_2 =>
    intro c w s hc hnone
    simp only [List.mem_cons, Prod.mk.injEq, List.not_mem_nil, or_false] at hc
    obtain ⟨rfl, rfl⟩ | ⟨rfl, rfl⟩ | ⟨rfl, rfl⟩ | ⟨rfl, rfl⟩ | ⟨rfl, rfl⟩ | ⟨rfl, rfl⟩ := hc
    · simp [execPanelPowerDelayEnd, hnone]
    · simp [execPanelDelayEnd, hnone]
    · simp [execPanelBusyTimeout, hnone]
    · simp [execPanelScriptEnd, hnone]
    · simp [execPanelDeferredFlip, hnone]
    · simp [execPanelHoldExpiry, hnone]
  case refine_3 =>
    intro s hon ht
    cases h3 : s.bit Reg.PANEL_STATUS 3 with
    | true =>
      refine ⟨s.satAdd Reg.PANEL_COUNT 24 8, by simp [execPanelFlip, hon, ht, h3], ?_, rdF_satAdd_same _ (by decide),
        (OnlyRegs.refl _ _).satAdd (by simp)⟩
      rw [bit_satAdd_of_ne _ _ _ _ (by decide), h3]
    | false =>
      exact ⟨s.setB Reg.PANEL_STATUS 3 true, by simp [execPanelFlip, hon, ht, h3], bit_setB_same _ _ (by decide),
        rdF_setB_of_ne _ _ _ (by decide), (OnlyRegs.refl _ _).setB (by simp)⟩
  case refine_4 =>
    intro k s hk hon ht h3 hno
    subst hk
    have hend := ended_endPanel s (code := 3) (by decide)
    rw [exec_panelFlip, execPanelFlip_of_idle hon ht, startFlip_of_refused hno, ended_pendingFlip (by decide) h3]
    exact ⟨_, rfl, hend.state, hend.run, hend.last, hend.shown, hend.failed (by decide), hend.power, hend.regs⟩
  case refine_5 =>
    intro k s hk hon ht h3 hv h1
    have hbit : ((s.deferred k).event 213).bit Reg.PANEL_STATUS 3 = false := by
      rw [bit_congr (rd_event_ne _ (by decide) (by decide) (by decide)), State.deferred, bit_wrF_ne _ (by omega),
        bit_setPanel _ _ _ (by decide), h3]
    rw [exec_panelFlip, execPanelFlip_of_idle hon ht, startFlip_of_writing hk hv h1, pendingFlip_of_none hbit]
    refine ⟨_, rfl, ?_, ?_, ?_, pending1_event_self _ (by decide), ?_⟩
    · rw [State.panelState, rdF_congr (rd_event_ne _ (by decide) (by decide) (by decide)), State.deferred, rdF_wrF_ne _ _ (by omega)]
      exact panelState_setPanel s (by decide) _
    · rw [event_panel]
      rfl
    · rw [rdF_congr (rd_event_ne _ (by decide) (by decide) (by decide)), State.deferred, rdF_wrF_same _ _ (by decide)]
      rfl
    · rw [event_panel]
      exact ((onlyRegs_deferred s k).mono (by simp)).events.event (by simp [eventRegs]) (by simp [eventRegs])
  case refine_6 =>
    intro k code u s hk hon ht h3 hv h2 hst herr
    have hread := pageRead_validate_error herr
    have hcode := validate_code herr
    have hlt : code < 16 := by
      obtain h | h := hcode
      · exact h.trans_lt (by decide)
      · exact h.trans_lt (by decide)
    have hne : code ≠ 0 := by
      obtain rfl | rfl := hcode
      · decide
      · decide
    have hend := ended_endPanel u hlt
    obtain ⟨hstate, hrun, hlast, hshown, hfailed, hpower⟩ := hend.after hread
    have h3u : u.bit Reg.PANEL_STATUS 3 = false := by rw [bit_congr (hread.regs _ (by decide)), h3]
    rw [exec_panelFlip, execPanelFlip_of_idle hon ht, startFlip_of_valid hk hv h2, hst, startPage_of_error herr]
    refine ⟨_, rfl, hcode, ?_⟩
    rw [if_neg (by decide), ended_pendingFlip hlt h3u]
    have hregs := hend.regs
    rw [if_neg hne] at hregs
    exact ⟨hstate, hrun, hlast, hshown, hfailed hne, hpower, hregs⟩
  case refine_7 =>
    intro k px u v s hk hon ht h3 hv h2 hst hok hpix hoff
    have hread : PageRead s v := hpix ▸ pageRead_shownPixels (pageRead_validate_ok hok)
    obtain ⟨hpend, hpower, hstate, hrun, honly⟩ := powered_spec v (pageRun true k px (u.shownPixels (s.sec 14)).1 (s.sec 14))
      (by rw [bit_congr (hread.regs _ (by decide)), h3])
    rw [exec_panelFlip, execPanelFlip_of_idle hon ht, startFlip_of_valid hk hv h2, hst, if_neg (by decide), startPage_of_ok hok hpix,
      hoff, if_neg (by decide), hpend]
    exact ⟨_, rfl, hpower, hstate, hrun, honly⟩
  case refine_8 =>
    intro k px l u v s hk hon ht h3 hv h2 hst hok hpix hpow hin hl
    rw [exec_panelFlip, execPanelFlip_of_idle hon ht, startFlip_of_valid hk hv h2, hst, if_neg (by decide)]
    obtain ⟨t, hrun, hfacts⟩ := streamed_spec (flip := true) hok hpix hpow h3 hin hl
    exact ⟨t, congrArg _ hrun, hfacts⟩
  case refine_9 =>
    intro s hon ht
    simp [execPanelRefresh, present_of_panelOn hon, hon, ht]
  case refine_10 =>
    intro s hon ht h3 hno
    have hend := ended_endPanel s (code := 4) (by decide)
    refine ⟨s.endPanel 4, ?_, hend.state, hend.run, hend.last, hend.shown, hend.failed (by decide), hend.power⟩
    simp [execPanelRefresh, present_of_panelOn hon, hon, ht, hno]
  case refine_11 =>
    intro k px u v s hk hon ht h3 hshown hst hok hpix hoff
    have hread : PageRead s v := hpix ▸ pageRead_shownPixels (pageRead_validate_ok hok)
    obtain ⟨hpend, hpower, hstate, hrun, honly⟩ := powered_spec v (pageRun false k px (u.shownPixels (s.sec 14)).1 (s.sec 14))
      (by rw [bit_congr (hread.regs _ (by decide)), h3])
    refine ⟨_, ?_, hpower, hstate, hrun, honly⟩
    have hexec : execPanelRefresh s = .next (s.startPage false k).pendingFlip := by
      simp [execPanelRefresh, present_of_panelOn hon, hon, ht, hshown, hst, hk]
    rw [exec_panelRefresh, hexec, startPage_of_ok hok hpix, hoff, if_neg (by decide), hpend]
  case refine_12 =>
    intro s hon hsec
    refine ⟨s.panelPower true, ?_, bit_setB_same _ _ (by decide), rdF_wrF_ne _ _ (by omega), (OnlyRegs.refl _ _).setB (by simp)⟩
    simp [execPanelPowerOn, hon, hsec]
  case refine_13 =>
    intro s hon hstate
    refine ⟨s.panelPower false, ?_, bit_setB_same _ _ (by decide), rdF_wrF_ne _ _ (by omega), (OnlyRegs.refl _ _).setB (by simp)⟩
    obtain h | h := hstate <;> simp [execPanelPowerOff, hon, h]
  case refine_14 =>
    intro s hon hstate
    obtain h | h := hstate <;> simp [execPanelPowerOff, hon, h]
  case refine_15 =>
    intro r l s hr hw h3 hin hl
    obtain ⟨hpend, hpanel, hbit, hshown⟩ := scripted_spec s r
    obtain ⟨hst, hwp, hwb, hwr⟩ := waitFor_spec (s.scripted r) r .ended []
    have hexec : execPanelPowerDelayEnd s = .next ((s.scripted r).waitFor r .ended []) := by
      rw [← pendingFlip_of_none (s := (s.scripted r).waitFor r .ended []) (by rw [hwb, hbit, h3]), ← startScript_of_end hin hl]
      simp [execPanelPowerDelayEnd, panelWaits_of_run hr hw, scriptInStore_of_sram hin]
    refine ⟨_, hexec, ?_, hst, ?_, ?_, ?_⟩
    · rw [State.pending1, bit_congr (hwr _ (by decide))]
      exact hpend
    · rw [hwp]
    · rw [hwp, hpanel]
    · rw [hwr _ (by decide), hshown]
  case refine_16 =>
    intro r l s hr hw h3 hl
    obtain ⟨hst, hwp, hwb, hwr⟩ := waitFor_spec s r .busy l
    have hexec : execPanelDelayEnd s = .next (s.waitFor r .busy l) := by
      rw [← pendingFlip_of_none (s := s.waitFor r .busy l) (by rw [hwb, h3]), ← runScript_busy s r r.script.length l]
      simp [execPanelDelayEnd, panelWaits_of_run hr hw, continueScript_eq, hl]
    refine ⟨_, hexec, hst, ?_, ?_, onlyRegs_setPanel _ _ _⟩
    · rw [hwp]
    · rw [hwp]
  case refine_17 =>
    intro r s hr hw h3 hl
    have hend := ended_endPanel s (code := 6) (by decide)
    have hexec : execPanelDelayEnd s = .next (s.endPanel 6) := by
      rw [← ended_pendingFlip (code := 6) (by decide) h3]
      simp [execPanelDelayEnd, panelWaits_of_run hr hw, continueScript_eq, hl, State.runScript]
    exact ⟨_, hexec, hend.state, hend.run, hend.last, hend.shown, hend.failed (by decide), hend.power⟩
  case refine_18 =>
    intro x y r l s hr hw h3 hl
    obtain ⟨hst, hwp, hwb, hwr⟩ := waitFor_spec ((s.busyInactive.panelSend true [x, y]).panelSend false [9]) r .ended []
    have hexec : execPanelBusyInactive s = .next (((s.busyInactive.panelSend true [x, y]).panelSend false [9]).waitFor r .ended []) := by
      rw [← pendingFlip_of_none (s := ((s.busyInactive.panelSend true [x, y]).panelSend false [9]).waitFor r .ended [])
        (by rw [hwb, bit_panelSend, bit_panelSend, bit_congr (rd_busyInactive s _), h3]),
        ← runScript_end _ r (l.length + 5) l, ← runScript_command, ← runScript_data_two]
      simp [execPanelBusyInactive, panelWaits_of_run hr hw, continueScript_eq, hl]
    refine ⟨_, hexec, hst, ?_, ?_⟩
    · rw [hwp]
    · rw [hwp, State.panelSend, State.panelSend, panel_busyInactive]
      simp
  case refine_19 =>
    intro s h
    simp [execPanelBusyInactive, h]
  case refine_20 =>
    intro r s hr hw h3
    have hread := pageRead_event s 211 (by decide)
    have hend := ended_endPanel (s.event 211) (code := 5) (by decide)
    obtain ⟨hstate, hrun, hlast, hshown, hfailed, hpower⟩ := hend.after hread
    have hexec : execPanelBusyTimeout s = .next ((s.event 211).endPanel 5) := by
      rw [← ended_pendingFlip (s := s.event 211) (code := 5) (by decide) (by rw [bit_congr (hread.regs _ (by decide)), h3])]
      simp [execPanelBusyTimeout, panelWaits_of_run hr hw]
    exact ⟨_, hexec, hstate, hrun, hlast, hshown, hfailed (by decide), hpower,
      (bit_congr (hend.rd_ne (by decide) (by decide)) _).trans (pending1_event_self s (by decide))⟩
  case refine_21 =>
    intro r s hr hw h3 hf
    obtain ⟨hshown, hstage, hcount, hstate, hrun, hlast, h210, h208, hpower, hpend⟩ := flipEnded_spec s r.slot
    have hexec : execPanelScriptEnd s = .next (s.flipEnded r.slot) := by
      rw [← pendingFlip_of_none (s := s.flipEnded r.slot) (by rw [hpend, h3])]
      simp [execPanelScriptEnd, panelWaits_of_run hr hw, hf, State.flipEnded, State.flipped]
    exact ⟨_, hexec, hshown, hstage, hcount, hstate, hrun, hlast, h210, h208, hpower⟩
  case refine_22 =>
    intro r s hr hw h3 hf
    have hend := ended_endPanel s (code := 0) (by decide)
    have hread := pageRead_event (s.endPanel 0) 210 (by decide)
    have hexec : execPanelScriptEnd s = .next ((s.endPanel 0).event 210) := by
      rw [← pendingFlip_of_none (s := (s.endPanel 0).event 210) (by rw [bit_congr (hread.regs _ (by decide)), hend.pending, h3])]
      simp [execPanelScriptEnd, panelWaits_of_run hr hw, hf]
    refine ⟨_, hexec, (rdF_congr (hread.regs _ (by decide)) 0 2).trans hend.state, ?_, ?_, ?_, pending1_event_self _ (by decide),
      ?_, ?_, ?_⟩
    · rw [hread.panel, hend.run]
    · rw [rdF_congr (hread.regs _ (by decide)), hend.last]
    · rw [hread.regs _ (by decide), hend.shown]
    · rw [hread.regs _ (by decide), hend.rd_ne_of_ok (by decide)]
    · rw [bit_congr (hread.regs _ (by decide)), hend.power]
    · have honly := hend.regs
      rw [if_pos rfl] at honly
      rw [event_panel]
      exact (honly.mono (by simp)).events.event (by simp [eventRegs]) (by simp [eventRegs])
  case refine_23 =>
    intro r s hr hw hf h3 hheld hst
    obtain ⟨hshown, -, -, -, -, -, -, h208, -, -⟩ := flipEnded_spec s r.slot
    have hend := ended_endPanel ((s.flipEnded r.slot).setB Reg.PANEL_STATUS 3 false) (code := 3) (by decide)
    have hexec : execPanelScriptEnd s = .next (((s.flipEnded r.slot).setB Reg.PANEL_STATUS 3 false).endPanel 3) := by
      rw [← pendingFlip_flipEnded h3 hheld hst]
      simp [execPanelScriptEnd, panelWaits_of_run hr hw, hf, State.flipEnded, State.flipped]
    refine ⟨_, hexec, ?_, ?_, hend.last, ?_⟩
    · rw [hend.shown, State.setB, State.wrF, rd_wr_ne _ _ (by decide), hshown]
    · rw [hend.pending, bit_setB_same _ _ (by decide)]
    · rw [State.pending1, bit_congr (hend.rd_ne (by decide) (by decide)), bit_setB_of_ne _ _ _ (by decide)]
      exact h208
  case refine_24 =>
    intro r s hrun hw h3 hps
    simp [execPanelDeferredFlip, panelWaits_of_run hrun hw, hps]
  case refine_25 =>
    intro r k px u v s hk hr hw h3 h2 hst hok hpix hoff
    have hread : PageRead s v := hpix ▸ pageRead_shownPixels (pageRead_validate_ok hok)
    obtain ⟨hpend, hpower, hstate, hrun, honly⟩ := powered_spec v (pageRun true k px (u.shownPixels (s.sec 14)).1 (s.sec 14))
      (by rw [bit_congr (hread.regs _ (by decide)), h3])
    refine ⟨_, ?_, hpower, hstate, hrun, honly⟩
    have hexec : execPanelDeferredFlip s = .next (s.startPage true k).pendingFlip := by
      simp [execPanelDeferredFlip, panelWaits_of_run hr hw, ← hk, h2, hst]
    rw [exec_panelDeferredFlip, hexec, startPage_of_ok hok hpix, hoff, if_neg (by decide), hpend]
  case refine_26 =>
    intro r s hr hw h3
    have hend := ended_endPanel s (code := 2) (by decide)
    refine ⟨s.endPanel 2, ?_, hend.state, hend.run, hend.last, hend.shown, hend.failed (by decide), hend.power, hend.regs⟩
    simp [execPanelHoldExpiry, panelWaits_of_run hr hw, ended_pendingFlip (code := 2) (by decide) h3]
  case refine_27 =>
    intro s habs
    have hoff : s.panelOn = false := by simp [State.panelOn, habs]
    refine ⟨?_, ?_, ?_, ?_⟩
    · simp [execPanelRefresh, habs]
    · simp [execPanelFlip, hoff]
    · simp [execPanelPowerOn, hoff]
    · simp [execPanelPowerOff, hoff]
  case refine_28 =>
    intro s hsec
    simp [execPanelPowerOn, hsec]
  case refine_29 =>
    intro k s hk hon ht h3 hv h2 hst
    have hheld : (s.holdCmd .panelFlip).bit Reg.PANEL_STATUS 3 = false := (bit_congr (rd_congr rfl _) _).trans h3
    rw [exec_panelFlip, execPanelFlip_of_idle hon ht, startFlip_of_valid hk hv h2, hst, if_pos rfl, pendingFlip_of_none hheld]
    rfl
  case refine_30 =>
    intro s hon ht hshown hst
    simp [execPanelRefresh, present_of_panelOn hon, hon, ht, hshown, hst, State.holdCmd]

end

section
/-! PROOF. The SPI units: their frames, flags and transfers (18, SPI; R598 to R604). -/

namespace Sys2Proof.Machine

section

variable {s t : State} {n : Nat}

/-! ### The state of a unit -/

@[simp] theorem spi_setSpi (u : SpiSt) : (s.setSpi n u).spi n = u := mapGet_mapPut_same _ _ _ _

theorem spi_congr (h : t.ser = s.ser) (n : Nat) : t.spi n = s.spi n := by simp only [State.spi, h]

@[simp] theorem rd_setSpi (u : SpiSt) (a : Nat) : (s.setSpi n u).rd a = s.rd a := rd_congr rfl a

@[simp] theorem bit_setSpi (u : SpiSt) (a i : Nat) : (s.setSpi n u).bit a i = s.bit a i := bit_congr (rd_setSpi u a) i

theorem OnlyRegs.of_setSpi (u : SpiSt) : OnlyRegs [] { s with ser := (s.setSpi n u).ser } (s.setSpi n u) := OnlyRegs.refl _ _

/-! ### A flag of the status register -/

section

variable {i : Nat}

theorem spi_spiFlag (s : State) (n i : Nat) : (s.spiFlag n i).spi n = s.spi n := by
  refine spi_congr ?_ n
  simp [State.spiFlag]

theorem fault_spiFlag (s : State) (n i : Nat) : (s.spiFlag n i).fault = s.fault := by simp [State.spiFlag]

theorem bit_spiFlag (s : State) {n : Nat} (hn : n < 2) (hi : i < 32) : (s.spiFlag n i).bit (Reg.SPI_STATUS n) i = true := by
  refine (bit_congr (rd_eventIf_ne _ _ ?_ ?_ ?_) i).trans (bit_setB_same _ _ hi)
  all_goals
    simp only [Reg.SPI_STATUS, Reg.INTC_PEND, Reg.INTC_OVR, Reg.PWR_COUNT]
    omega

theorem pending1_spiFlag (hn : n < 2) (h : s.bit (Reg.SPI_STATUS n) i = false) :
    (s.spiFlag n i).pending1 (225 + 2 * n) = true := by
  rw [State.spiFlag, h]
  exact pending1_event_self _ (by omega)

end

/-! ### A frame in target mode -/

/-- The frame that a target sends: the oldest of its FIFO, or all ones with UDR. -/
def State.spiShift (s : State) (n : Nat) : State :=
  match (s.spi n).tx with
  | f :: q => s.setSpi n { s.spi n with tx := q, sent := [s.spiLine n f] }
  | [] => (s.setSpi n { s.spi n with sent := [2 ^ s.spiBits n - 1] }).spiFlag n 10

/-- The frame that a target receives: into its FIFO, or lost with OVR and a slip. -/
def State.spiTake (s : State) (n v : Nat) : State :=
  if 8 ≤ (s.spi n).rx.length then (s.spiFlag n 9).serialSlip (76 + n) 1
  else s.setSpi n { s.spi n with rx := (s.spi n).rx ++ [v] }

theorem spiShift_of_cons {f : Nat} {q : List Nat} (h : (s.spi n).tx = f :: q) :
    s.spiShift n = s.setSpi n { s.spi n with tx := q, sent := [s.spiLine n f] } := by simp only [State.spiShift, h]

theorem spiShift_of_nil (h : (s.spi n).tx = []) :
    s.spiShift n = (s.setSpi n { s.spi n with sent := [2 ^ s.spiBits n - 1] }).spiFlag n 10 := by simp only [State.spiShift, h]

theorem rx_spiShift (s : State) (n : Nat) : ((s.spiShift n).spi n).rx = (s.spi n).rx := by
  cases h : (s.spi n).tx with
  | nil => rw [spiShift_of_nil h, spi_spiFlag, spi_setSpi]
  | cons f q => rw [spiShift_of_cons h, spi_setSpi]

theorem spiTake_of_room {v : Nat} (h : (s.spi n).rx.length < 8) :
    s.spiTake n v = s.setSpi n { s.spi n with rx := (s.spi n).rx ++ [v] } := if_neg (by omega)

theorem spiTake_of_full {v : Nat} (h : 8 ≤ (s.spi n).rx.length) :
    s.spiTake n v = (s.spiFlag n 9).serialSlip (76 + n) 1 := if_pos h

theorem sent_spiTake (s : State) (n v : Nat) : ((s.spiTake n v).spi n).sent = (s.spi n).sent := by
  unfold State.spiTake
  split
  · exact congrArg SpiSt.sent (spi_spiFlag s n 9)
  · rw [spi_setSpi]

theorem execSpiTargetFrame_of_live {n : Fin 2} (d : Fin 65536) (hon : s.lineOn (s.spiOn n) = true)
    (hmode : s.bit (Reg.SPI_CFG n) 0 = true) (hsel : s.wired [0x10 + 4 * n.val, 0x13 + 4 * n.val] = true) :
    execSpiTargetFrame n d s = .next ((s.spiShift n).spiTake n (s.spiIn n d.val)) := by
  cases h : (s.spi n).tx with
  | nil => simp only [execSpiTargetFrame, hon, hmode, State.spiSelected, hsel, h, spiShift_of_nil h, State.spiTake,
      apply_ite Host.Outcome.next, Bool.not_true, Bool.or_self, Bool.false_eq_true, if_false]
  | cons f q => simp only [execSpiTargetFrame, hon, hmode, State.spiSelected, hsel, h, spiShift_of_cons h, State.spiTake,
      apply_ite Host.Outcome.next, Bool.not_true, Bool.or_self, Bool.false_eq_true, if_false]

/-! ### The order of the bits -/

theorem revBits_succ (b v : Nat) : revBits (b + 1) v = 2 * revBits b v + b2n (v.testBit b) := by
  simp only [revBits, List.range_succ, List.foldl_append, List.foldl_cons, List.foldl_nil]

theorem testBit_revBits (v : Nat) {b i : Nat} (h : i < b) : (revBits b v).testBit i = v.testBit (b - 1 - i) := by
  induction b generalizing i with
  | zero => omega
  | succ b ih =>
    rw [revBits_succ]
    cases i with
    | zero => cases hb : v.testBit b <;> simp [hb, b2n, Nat.testBit_zero]
    | succ i =>
      have hhalf : (2 * revBits b v + b2n (v.testBit b)) / 2 = revBits b v := by
        cases v.testBit b <;> simp only [b2n, if_true, Bool.false_eq_true, if_false] <;> omega
      rw [Nat.testBit_succ, hhalf, ih (by omega)]
      congr 1
      omega

theorem testBit_spiLine_of_lsb {f i : Nat} (h : s.bit (Reg.SPI_CFG n) 3 = true) (hi : i < s.spiBits n) :
    (s.spiLine n f).testBit i = f.testBit (s.spiBits n - 1 - i) := by
  simp only [State.spiLine, h, if_true]
  exact testBit_revBits f hi

/-! ### The start and the end of a controller transfer -/

/-- A unit whose transfer of LEN frames begins. -/
def State.spiBegun (s : State) (n : Nat) : SpiSt := { s.spi n with
  left := max 1 (s.rdF (Reg.SPI_LEN n) 0 16), sent := [],
  mode := s.rdF (Reg.SPI_CFG n) 1 2, sck := s.rdF (Reg.SPI_CFG n) 8 8 + 1 }

theorem execSpiStart_of_idle {n : Fin 2} (x : Bool) (hon : s.spiOn n = true) (hmode : s.bit (Reg.SPI_CFG n) 0 = false)
    (hidle : s.bit (Reg.SPI_STATUS n) 0 = false) :
    execSpiStart n x s = .next ((s.setSpi n (s.spiBegun n)).setB (Reg.SPI_STATUS n) 0 true) := by
  simp [execSpiStart, hon, hmode, hidle, State.spiBegun]

/-- A unit after `k` frames of its transfer have been exchanged. -/
def State.spiMoved (s : State) (n k : Nat) (l : List (Fin 65536)) : SpiSt := { s.spi n with
  tx := (s.spi n).tx.drop k, rx := (s.spi n).rx ++ (l.take k).map (fun f => s.spiIn n f.val), left := (s.spi n).left - k,
  sent := (s.spi n).sent ++ ((s.spi n).tx.take k).map (s.spiLine n) }

section

variable {n : Fin 2} {k : Nat} {l : List (Fin 65536)} (hon : s.lineOn (s.spiOn n) = true)
  (hmode : s.bit (Reg.SPI_CFG n) 0 = false) (hbusy : s.bit (Reg.SPI_STATUS n) 0 = true)
  (hk : k = min (min (s.spi n).left (s.spi n).tx.length) (min (8 - (s.spi n).rx.length) l.length))
include hon hmode hbusy hk

theorem execSpiTransferEnd_of_done (hdone : (s.spi n).left ≤ k) : execSpiTransferEnd n l s =
    .next (((s.setSpi n (s.spiMoved n k l)).setB (Reg.SPI_STATUS n) 0 false).event (224 + 2 * n)) := by
  have hzero : (s.spi n).left - k = 0 := by omega
  simp only [execSpiTransferEnd, hon, hmode, hbusy, Bool.not_true, Bool.false_eq_true, if_false, ← hk, if_pos hzero]
  rfl

theorem execSpiTransferEnd_of_more (hmore : k < (s.spi n).left) :
    execSpiTransferEnd n l s = .next (s.setSpi n (s.spiMoved n k l)) := by
  have hpos : ¬ (s.spi n).left - k = 0 := by omega
  simp only [execSpiTransferEnd, hon, hmode, hbusy, Bool.not_true, Bool.false_eq_true, if_false, ← hk, if_neg hpos]
  rfl

end

end

section

variable {s t : State} {n : Nat}

/-! ### The state of a UART -/

@[simp] theorem uart_setUart (u : UartSt) : (s.setUart n u).uart n = u := mapGet_mapPut_same _ _ _ _

theorem uart_congr (h : t.ser = s.ser) (n : Nat) : t.uart n = s.uart n := by simp only [State.uart, h]

@[simp] theorem rd_setUart (u : UartSt) (a : Nat) : (s.setUart n u).rd a = s.rd a := rd_congr rfl a

@[simp] theorem bit_setUart (u : UartSt) (a i : Nat) : (s.setUart n u).bit a i = s.bit a i := bit_congr (rd_setUart u a) i

theorem uartGate_setUart (u : UartSt) (k : Nat) : (s.setUart n u).uartGate k = s.uartGate k := bit_setUart u _ _

theorem uartGo_setUart (u : UartSt) : (s.setUart n u).uartGo n = if s.uartGate n then min u.gated u.tx.length else u.tx.length := by
  simp only [State.uartGo, uartGate_setUart, uart_setUart]

theorem uart_uartBusy (s : State) (n : Nat) : (s.uartBusy n).uart n = s.uart n := uart_congr rfl n

theorem busy_uartBusy (s : State) (n : Nat) : (s.uartBusy n).bit (Reg.UART_STATUS n) 10 = decide (0 < s.uartGo n) :=
  bit_setB_same _ _ (by decide)

/-! ### Sending -/

/-- A UART with other FIFO contents, its busy flag renewed. -/
theorem onlyRegs_uartBusy (s : State) (n : Nat) (u : UartSt) : OnlyRegs [Reg.UART_STATUS n]
    { s with ser := ((s.setUart n u).uartBusy n).ser } ((s.setUart n u).uartBusy n) :=
  OnlyRegs.setB (t := s.setUart n u) (OnlyRegs.refl _ _) (by simp)

theorem foldl_xor_eq (p : Nat → Bool) (l : List Nat) (x : Bool) :
    l.foldl (fun a i => a ^^ p i) x = (x ^^ (l.countP p % 2 == 1)) := by
  induction l generalizing x with
  | nil => simp
  | cons i l ih =>
    rw [List.foldl_cons, ih, List.countP_cons, Bool.xor_assoc]
    congr 1
    rcases Nat.mod_two_eq_zero_or_one (l.countP p) with h | h <;> cases p i <;> simp [h, Nat.add_mod]

theorem uartChar_eq (s : State) (n : Nat) (b : Byte) : s.uartChar n b = {
    data := b
    parity := if s.bit (Reg.UART_CFG n) 0 then some ((List.range 8).countP (b.toNat.testBit ·) % 2 == 1) else none
    bit := max 64 (s.rdF (Reg.UART_BAUD n) 0 16) } := by
  rw [State.uartChar, foldl_xor_eq, Bool.false_xor]

/-- A UART whose first bytes have been sent. -/
def State.uartDrained (s : State) (n : Nat) : UartSt := { s.uart n with
  tx := (s.uart n).tx.drop (s.uartGo n), gated := 0, sent := ((s.uart n).tx.take (s.uartGo n)).map (s.uartChar n) }

theorem execUartTxEmpty_of_going {n : Fin 2} (hon : s.lineOn (s.uartOn n) = true) (hgo : 0 < s.uartGo n) :
    execUartTxEmpty n s = .next (((s.setUart n (s.uartDrained n)).uartBusy n).eventIf
      ((s.uart n).tx.length == s.uartGo n) (233 + 2 * n)) := by
  have hne : s.uartGo n ≠ 0 := by omega
  simp only [execUartTxEmpty, hon, Bool.not_true, Bool.false_eq_true, if_false, if_neg hne]
  rfl

theorem uartGo_drained (h : s.uartGo n = (s.uart n).tx.length) : (s.setUart n (s.uartDrained n)).uartGo n = 0 := by
  rw [uartGo_setUart]
  split <;> simp [State.uartDrained, h]

theorem execUartDataWrite_of_room {n : Fin 2} (v : Word) (hon : s.uartOn n = true) (h : (s.uart n).tx.length < 16) :
    execUartDataWrite n v s =
      .next ((s.setUart n { s.uart n with tx := (s.uart n).tx ++ [byte v.toNat] }).uartBusy n) := by
  rw [execUartDataWrite, if_pos hon, State.uartPush, if_neg (by omega)]

/-! ### Receiving -/

/-- The flags that a received byte sets, as a word. -/
theorem bitOf_flagWord (f p b o : Bool) :
    let m : Word := word (b2n f * 2 ^ 11 + b2n p * 2 ^ 12 + b2n b * 2 ^ 13 + b2n o * 2 ^ 14)
    bitOf m 11 = f ∧ bitOf m 12 = p ∧ bitOf m 13 = b ∧ bitOf m 14 = o := by
  revert f p b o
  decide

section

variable (s : State) (n : Nat) (f p b o : Bool)

theorem bit_uartFlags {i : Nat} : (s.uartFlags n f p b o).bit (Reg.UART_STATUS n) i =
    (s.bit (Reg.UART_STATUS n) i || bitOf (word (b2n f * 2 ^ 11 + b2n (p && s.bit (Reg.UART_CFG n) 0) * 2 ^ 12 +
      b2n b * 2 ^ 13 + b2n o * 2 ^ 14)) i) := by
  rw [State.uartFlags, bit_congr (rd_eventIf_ne _ _ _ _ _)]
  · simp only [State.bit, rd_wr_same, bitOf, BitVec.getLsbD_or]
  all_goals
    simp only [Reg.UART_STATUS, Reg.INTC_PEND, Reg.INTC_OVR, Reg.PWR_COUNT]
    omega

theorem uart_uartFlags (k : Nat) : (s.uartFlags n f p b o).uart k = s.uart k := by
  refine uart_congr ?_ k
  simp [State.uartFlags]

theorem fault_uartFlags : (s.uartFlags n f p b o).fault = s.fault := by simp [State.uartFlags]

theorem pending1_uartFlags (h : (f || p && s.bit (Reg.UART_CFG n) 0 || b || o) = true) :
    (s.uartFlags n f p b o).pending1 239 = true := by
  simp only [State.uartFlags, h]
  exact pending1_event_self _ (by decide)

end

theorem rd_eventIf_of_le (c : Bool) {a e : Nat} (ha : 0x40006000 ≤ a) (he : e < 256) : (s.eventIf c e).rd a = s.rd a := by
  cases c
  · rfl
  · exact rd_event_of_le s ha he

/-- A byte enters the receive FIFO with its flags; its level may raise the event. -/
def State.uartReceived (s : State) (n : Nat) (b : Byte) (p q x : Bool) : State :=
  ((s.setUart n { s.uart n with rx := (s.uart n).rx ++ [b] }).uartFlags n p q x false).eventIf
    ((s.uart n).rx.length + 1 == s.rdF (Reg.UART_CFG n) 4 4 + 1) (232 + 2 * n)

section

variable {n : Fin 2} (b : Byte) (p q x : Bool)

section

variable (hon : s.lineOn (s.uartOn n) = true) (hwired : s.wired [0x1D + 2 * n.val] = true)
include hon hwired

theorem execUartByteReceived_of_full (hfull : 16 ≤ (s.uart n).rx.length) :
    execUartByteReceived n b p q x s = .next ((s.uartFlags n p q x true).serialSlip (80 + n) 2) := by
  simp only [execUartByteReceived, hon, hwired, Bool.not_true, Bool.or_self, Bool.false_eq_true, if_false, if_pos hfull]

theorem execUartByteReceived_of_room (hroom : (s.uart n).rx.length < 16) :
    execUartByteReceived n b p q x s = .next (s.uartReceived n b p q x) := by
  have hnot : ¬ 16 ≤ (s.uart n).rx.length := by omega
  simp only [execUartByteReceived, hon, hwired, Bool.not_true, Bool.or_self, Bool.false_eq_true, if_false, if_neg hnot]
  rfl

end

theorem uart_uartReceived : (s.uartReceived n b p q x).uart n = { s.uart n with rx := (s.uart n).rx ++ [b] } :=
  (uart_congr (eventIf_ser _ _ _) _).trans ((uart_uartFlags _ _ _ _ _ _ _).trans (uart_setUart _))

theorem pending1_uartReceived (hx : (p || x) = true) : (s.uartReceived n b p q x).pending1 239 = true := by
  rw [State.uartReceived, pending1_eventIf _ (by omega) (by decide),
    pending1_uartFlags _ _ _ _ _ _ (by cases p <;> cases x <;> simp_all), Bool.true_or]

theorem bit_uartReceived (i : Nat) : (s.uartReceived n b p q x).bit (Reg.UART_STATUS n) i =
    (s.bit (Reg.UART_STATUS n) i || bitOf (word (b2n p * 2 ^ 11 + b2n (q && s.bit (Reg.UART_CFG n) 0) * 2 ^ 12 +
      b2n x * 2 ^ 13 + b2n false * 2 ^ 14)) i) := by
  rw [State.uartReceived, bit_congr (rd_eventIf_of_le _ (Nat.le_add_right_of_le (by decide)) (by omega)), bit_uartFlags,
    bit_setUart, bit_setUart]

end

end

section

variable {s t : State} {n : Nat}

/-! ### The state of an I²C unit -/

@[simp] theorem i2c_setI2c (u : I2cSt) : (s.setI2c n u).i2c n = u := mapGet_mapPut_same _ _ _ _

theorem i2c_congr (h : t.ser = s.ser) (n : Nat) : t.i2c n = s.i2c n := by simp only [State.i2c, h]

@[simp] theorem i2c_busBusy (s : State) (n : Nat) (b : Bool) : (s.busBusy n b).i2c n = s.i2c n := i2c_congr rfl n

@[simp] theorem i2c_i2cLoss (s : State) (n x y : Nat) : (s.i2cLoss n x y).i2c n = s.i2c n :=
  i2c_congr (by rw [State.i2cLoss, wr_ser]) n

theorem rd_setI2c (u : I2cSt) {a : Nat} (h : a ≠ Reg.I2C_STATUS n) : (s.setI2c n u).rd a = s.rd a :=
  (rd_setB_ne _ _ _ h).trans (rd_congr rfl a)

theorem bit_setI2c (u : I2cSt) {i : Nat} (h : i ≠ 3) :
    (s.setI2c n u).bit (Reg.I2C_STATUS n) i = s.bit (Reg.I2C_STATUS n) i :=
  (bit_setB_ne _ _ h).trans (bit_congr (rd_congr rfl _) i)

theorem busy_setI2c (u : I2cSt) : (s.setI2c n u).bit (Reg.I2C_STATUS n) 3 = (u.run.isSome || u.target.isSome) :=
  bit_setB_same _ _ (by decide)

theorem busy_busBusy (s : State) (n : Nat) (b : Bool) : (s.busBusy n b).bit (Reg.I2C_STATUS n) 3 = s.bit (Reg.I2C_STATUS n) 3 :=
  bit_setB_ne _ _ (by decide)

theorem bus_busBusy (s : State) (n : Nat) (b : Bool) : (s.busBusy n b).bit (Reg.I2C_STATUS n) 4 = b :=
  bit_setB_same _ _ (by decide)

theorem rd_busBusy (b : Bool) {a : Nat} (h : a ≠ Reg.I2C_STATUS n) : (s.busBusy n b).rd a = s.rd a := rd_setB_ne _ _ _ h

theorem arbLost_ne_status (n : Nat) : Reg.I2C_ARBLOST n ≠ Reg.I2C_STATUS n := by
  simp only [Reg.I2C_ARBLOST, Reg.I2C_STATUS]
  omega

theorem OnlyRegs.withSer {l : List Nat} (x : SerialSt) (h : OnlyRegs l s t) :
    OnlyRegs l { s with ser := x } { t with ser := x } := h.map (fun y => { y with ser := x }) rfl (by intros; rfl)

theorem OnlyRegs.setI2c {l : List Nat} (u : I2cSt) (h : OnlyRegs l { s with ser := t.ser } t) (hl : Reg.I2C_STATUS n ∈ l) :
    OnlyRegs l { s with ser := (t.setI2c n u).ser } (t.setI2c n u) :=
  (h.withSer _).setB hl

theorem onlyRegs_setI2c (s : State) (n : Nat) (u : I2cSt) {l : List Nat} (hl : Reg.I2C_STATUS n ∈ l) :
    OnlyRegs l { s with ser := (s.setI2c n u).ser } (s.setI2c n u) :=
  OnlyRegs.setI2c (s := s) u (OnlyRegs.refl _ _) hl

theorem onlyRegs_busBusy (s : State) (n : Nat) (u : I2cSt) (b : Bool) {l : List Nat} (hl : Reg.I2C_STATUS n ∈ l) :
    OnlyRegs l { s with ser := ((s.setI2c n u).busBusy n b).ser } ((s.setI2c n u).busBusy n b) :=
  (onlyRegs_setI2c s n u hl).setB hl

/-! ### The end of a transfer -/

/-- What the end of a controller transfer with a status shows. -/
structure I2cEnded (s t : State) (n code : Nat) : Prop where
  unit : t.i2c n = { s.i2c n with run := none }
  status : t.rdF (Reg.I2C_STATUS n) 0 3 = code
  event : t.pending1 ((if code = 0 then 228 else 229) + 2 * n) = true
  bus : t.bit (Reg.I2C_STATUS n) 4 = s.bit (Reg.I2C_STATUS n) 4
  loss : t.rd (Reg.I2C_ARBLOST n) = s.rd (Reg.I2C_ARBLOST n)

theorem i2cEnded (s : State) {n code : Nat} (hn : n < 2) (hc : code < 8) : I2cEnded s (s.i2cEnd n code) n code := by
  have hev : (if code = 0 then 228 else 229) + 2 * n < 256 := by split <;> omega
  have hle : 0x40006000 ≤ Reg.I2C_STATUS n := Nat.le_add_right_of_le (by decide)
  have hle' : 0x40006000 ≤ Reg.I2C_ARBLOST n := Nat.le_add_right_of_le (by decide)
  refine ⟨?_, ?_, pending1_event_self _ hev, ?_, ?_⟩
  · exact (i2c_congr (by simp [State.i2cEnd]) n).trans (i2c_setI2c (s := s) { s.i2c n with run := none })
  · exact (rdF_congr (rd_event_of_le _ hle hev) 0 3).trans ((rdF_wrF_same _ _ (by decide)).trans (Nat.mod_eq_of_lt hc))
  · exact (bit_congr (rd_event_of_le _ hle hev) 4).trans ((bit_wrF_ne _ (by omega)).trans (bit_setI2c _ (by decide)))
  · refine (rd_event_of_le _ hle' hev).trans ((rd_wr_ne _ _ (arbLost_ne_status n)).trans (rd_setI2c _ (arbLost_ne_status n)))

theorem fault_i2cEnd (s : State) (n code : Nat) : (s.i2cEnd n code).fault = s.fault := by
  simp [State.i2cEnd, State.setI2c]

theorem I2cEnded.serialSlip {code : Nat} (h : I2cEnded s t n code) (src detail : Nat) :
    I2cEnded s (t.serialSlip src detail) n code where
  unit := (i2c_congr rfl n).trans h.unit
  status := (rdF_congr (rd_slip t src 0x12 1 detail _) 0 3).trans h.status
  event := (bit_congr (rd_slip t src 0x12 1 detail _) _).trans h.event
  bus := (bit_congr (rd_slip t src 0x12 1 detail _) 4).trans h.bus
  loss := (rd_slip t src 0x12 1 detail _).trans h.loss

theorem i2cEnded_of_stuck (s : State) {n : Nat} (hn : n < 2) : I2cEnded s (s.i2cBusClear n false) n 7 := by
  rw [State.i2cBusClear, if_neg Bool.false_ne_true]
  exact (i2cEnded s hn (by decide)).serialSlip _ _

/-- A bus that a bus clear has freed. -/
def State.i2cFreed (s : State) (n : Nat) : State := (s.setI2c n { s.i2c n with owns := false }).busBusy n false

theorem i2cBusClear_of_free (s : State) (n : Nat) : s.i2cBusClear n true = (s.i2cFreed n).i2cEnd n 6 := if_pos rfl

theorem i2cEnded_of_free (s : State) {n : Nat} (hn : n < 2) : I2cEnded (s.i2cFreed n) (s.i2cBusClear n true) n 6 := by
  rw [i2cBusClear_of_free]
  exact i2cEnded _ hn (by decide)

theorem onlyEvents_i2cEnd {code : Nat} {l : List Nat} (hc : code ≠ 0) (h : OnlyRegs l { s with ser := t.ser } t)
    (hl : Reg.I2C_STATUS n ∈ l) (h1 : Reg.INTC_PEND ((229 + 2 * n) / 32) ∈ l) (h2 : Reg.INTC_OVR ∈ l) :
    OnlyEvents l { s with ser := (t.i2cEnd n code).ser } (t.i2cEnd n code) := by
  have hser : (t.i2cEnd n code).ser = (t.setI2c n { t.i2c n with run := none }).ser := by simp [State.i2cEnd]
  rw [hser, State.i2cEnd, if_neg hc]
  exact ((h.setI2c _ hl).wrF hl).events.event h1 h2

/-! ### The start of a transfer -/

/-- A unit whose transfer has the bus. -/
def State.i2cTaken (s : State) (n : Nat) (r : I2cRun) : I2cSt := { s.i2c n with
  run := some { r with
    waiting := false, scl := (max 4 (s.rdF (Reg.I2C_TIMING n) 0 8), max 4 (s.rdF (Reg.I2C_TIMING n) 8 8)) }
  owns := false }

theorem i2cBegin_of_calm {r : I2cRun} (h : r.lost = none) :
    s.i2cBegin n r = (s.setI2c n (s.i2cTaken n r)).busBusy n true := by
  simp only [State.i2cBegin, h, State.i2cTaken]

/-- The unit after a loss of arbitration in the address: it may answer as target. -/
def State.i2cAnswered (s : State) (n : Nat) (c : Bool) : State :=
  if c then s.setI2c n { s.i2c n with target := some false } else s

theorem i2cBegin_of_loss {r : I2cRun} {i b : Nat} (h : r.lost = some (i, b)) : s.i2cBegin n r =
    (((s.setI2c n (s.i2cTaken n r)).busBusy n true).i2cLoss n i b).i2cAnswered n
      (i < addrBytes r.xfer && r.asTarget && s.bit (Reg.I2C_TADDR n) 7) := by
  simp only [State.i2cBegin, h, State.i2cTaken, State.i2cAnswered]

theorem i2c_i2cAnswered (s : State) (n : Nat) (c : Bool) : (s.i2cAnswered n c).i2c n =
    if c then { s.i2c n with target := some false } else s.i2c n := by
  cases c
  · rfl
  · exact i2c_setI2c _

theorem loss_i2cAnswered (s : State) (n : Nat) (c : Bool) :
    (s.i2cAnswered n c).rd (Reg.I2C_ARBLOST n) = s.rd (Reg.I2C_ARBLOST n) := by
  cases c
  · rfl
  · exact rd_setI2c _ (arbLost_ne_status n)

/-- The controller transfer of an XFER word that waits for the bus. -/
def runOf (v : Word) (lost : Option (Nat × Nat)) (x : Bool) : I2cRun :=
  { xfer := v, left := fld v 16 8, waiting := true, lost := lost, asTarget := x }

section

variable {v : Word} {lost : Option (Nat × Nat)} {x free : Bool}

theorem i2cStart_of_running (h : (s.i2c n).run.isSome = true) :
    s.i2cStart n v lost x free = s.satAdd (Reg.I2C_STATUS n) 16 8 := if_pos h

theorem i2cStart_of_clear (hidle : (s.i2c n).run = none) (hv : bitOf v 31 = true) :
    s.i2cStart n v lost x free = s.i2cBusClear n free := by
  simp [State.i2cStart, hidle, hv]

theorem i2cStart_of_busy (hidle : (s.i2c n).run = none) (hv : bitOf v 31 = false)
    (hbus : s.bit (Reg.I2C_STATUS n) 4 = true) (howns : (s.i2c n).owns = false) :
    s.i2cStart n v lost x free = s.setI2c n { s.i2c n with run := some (runOf v lost x) } := by
  simp [State.i2cStart, hidle, hv, hbus, howns, runOf]

theorem i2cStart_of_free (hidle : (s.i2c n).run = none) (hv : bitOf v 31 = false)
    (hbus : s.bit (Reg.I2C_STATUS n) 4 = false ∨ (s.i2c n).owns = true) :
    s.i2cStart n v lost x free = s.i2cBegin n (runOf v lost x) := by
  obtain hbus | hbus := hbus <;> simp [State.i2cStart, hidle, hv, hbus, runOf]

/-- The loss that a transfer will meet: none without pads. -/
def State.i2cLossOf (s : State) (n : Nat) (lost : Option (Fin 258 × Fin 8)) : Option (Nat × Nat) :=
  if s.i2cWired n then lost.map lossAt else none

theorem execI2cXfer_of_on {n : Fin 2} (v : Word) (lost : Option (Fin 258 × Fin 8)) (x : Bool) (hon : s.i2cOn n = true) :
    execI2cXfer n v lost x s = .next (s.takeFree.2.i2cStart n v (s.i2cLossOf n lost) x
      (!s.i2cWired n || s.takeFree.1 % 2 == 1)) := by
  simp only [execI2cXfer, hon, Bool.not_true, Bool.false_eq_true, if_false, State.i2cLossOf]

theorem execI2cClear_of_on {n : Fin 2} {free : Bool} (hon : s.i2cOn n = true) (hidle : (s.i2c n).run = none) :
    execI2cClear n free s = .next (s.i2cBusClear n (free || !s.i2cWired n)) := by
  rw [execI2cClear, if_pos hon, i2cStart_of_clear hidle (by decide)]

end

/-! ### Other controllers on the bus -/

/-- The unit after a loss of arbitration at some bit. -/
def State.i2cLost (s : State) (n : Nat) (r : I2cRun) (p : Nat × Nat) : State :=
  (s.setI2c n { s.i2c n with run := some { r with lost := some p }, owns := false }).i2cLoss n p.1 p.2

section

variable {r : I2cRun} {p : Nat × Nat}

theorem i2cDisturb_of_idle (h : (s.i2c n).run = none) : s.i2cDisturb n p = s := by simp only [State.i2cDisturb, h]

theorem i2cDisturb_of_lost (h : (s.i2c n).run = some r) (hl : r.lost.isSome = true) : s.i2cDisturb n p = s := by
  simp [State.i2cDisturb, h, hl]

theorem i2cDisturb_of_sending (h : (s.i2c n).run = some r) (hw : r.waiting = false) (hl : r.lost = none) :
    s.i2cDisturb n p = s.i2cLost n r p := by
  simp [State.i2cDisturb, h, hw, hl, State.i2cLost]

theorem i2cDisturb_spec (h : (s.i2c n).run = some r) (hw : r.waiting = false) :
    (∃ r', ((s.i2cDisturb n p).i2c n).run = some r' ∧ r'.waiting = false) ∧
    ((s.i2cDisturb n p).i2c n).target = (s.i2c n).target ∧
    (r.lost = none → (s.i2cDisturb n p).rd (Reg.I2C_ARBLOST n) = word (p.1 % 256 + p.2 * 2 ^ 8 + 2 ^ 31)) := by
  cases hl : r.lost with
  | none =>
    rw [i2cDisturb_of_sending h hw hl, State.i2cLost, i2c_i2cLoss, i2c_setI2c]
    exact ⟨⟨_, rfl, hw⟩, rfl, fun _ => rd_wr_same _ _ _⟩
  | some q =>
    rw [i2cDisturb_of_lost h (by rw [hl]; rfl)]
    exact ⟨⟨r, h, hw⟩, rfl, nofun⟩

theorem i2cTargetEnd_of_none {data : List Byte} {k : Nat} (h : (s.i2c n).target = none) : s.i2cTargetEnd n data k = s := by
  simp only [State.i2cTargetEnd, h]

/-- A unit whose transfer as target has ended. -/
def State.i2cReleased (s : State) (n : Nat) (data : List Byte) (k : Nat) : I2cSt := { s.i2c n with
  target := none, rx := (s.i2c n).rx ++ data.take (8 - (s.i2c n).rx.length), tx := (s.i2c n).tx.drop k }

theorem i2cTargetEnd_of_some {data : List Byte} {k : Nat} (h : (s.i2c n).target.isSome = true) :
    s.i2cTargetEnd n data k = (s.setI2c n (s.i2cReleased n data k)).event (228 + 2 * n) := by
  obtain ⟨b, hb⟩ := Option.isSome_iff_exists.mp h
  simp only [State.i2cTargetEnd, hb]
  rfl

end

/-- What the end of the bus's use lets a unit do: a waiting transfer begins, a lost one ends. -/
def State.i2cAfterStop (s : State) (n : Nat) : State :=
  match (s.i2c n).run with
  | some r => if r.waiting then s.i2cBegin n r else s.i2cEnd n 3
  | none => s

theorem i2cAfterStop_of_idle (h : (s.i2c n).run = none) : s.i2cAfterStop n = s := by simp only [State.i2cAfterStop, h]

theorem i2cAfterStop_of_lost {r : I2cRun} (h : (s.i2c n).run = some r) (hw : r.waiting = false) :
    s.i2cAfterStop n = s.i2cEnd n 3 := by
  simp [State.i2cAfterStop, h, hw]

theorem execI2cStopSeen_of_live {n : Fin 2} (p : Fin 258 × Fin 8) {data : List Byte} {k : Fin 256}
    (hlive : s.i2cLive n = true) : execI2cStopSeen n p data k s =
      .next ((((s.i2cDisturb n (lossAt p)).i2cTargetEnd n data k).busBusy n false).i2cAfterStop n) := by
  simp only [execI2cStopSeen, hlive, Bool.not_true, Bool.false_eq_true, if_false, State.i2cAfterStop]
  generalize ((s.i2cDisturb n (lossAt p)).i2cTargetEnd n data k).busBusy n false = t
  cases h : (t.i2c n).run with
  | none => rfl
  | some r => exact (apply_ite Host.Outcome.next _ _ _).symm

/-- A START's address byte is the unit's own address. -/
def State.i2cMine (s : State) (n : Nat) (a : Byte) : Bool :=
  s.bit (Reg.I2C_TADDR n) 7 && a.toNat != 0 && a.toNat / 2 == s.rdF (Reg.I2C_TADDR n) 0 7

theorem execI2cStartSeen_of_live {n : Fin 2} (p : Fin 258 × Fin 8) (a : Byte) (hlive : s.i2cLive n = true) :
    execI2cStartSeen n p a s = .next (((s.i2cDisturb n (lossAt p)).busBusy n true).setI2c n
      { ((s.i2cDisturb n (lossAt p)).busBusy n true).i2c n with
        target := if s.i2cMine n a then some (a.toNat % 2 == 1) else none }) := by
  simp only [execI2cStartSeen, hlive, Bool.not_true, Bool.false_eq_true, if_false, State.i2cMine]
  rfl

/-! ### The bytes of a transfer -/

/-- A unit after `k` bytes of its transfer have moved. -/
def State.i2cMoved (s : State) (n : Nat) (r : I2cRun) (k : Nat) (l : List Byte) : I2cSt := { s.i2c n with
  tx := if bitOf r.xfer 11 then (s.i2c n).tx else (s.i2c n).tx.drop k,
  rx := if bitOf r.xfer 11 then (s.i2c n).rx ++ l.take k else (s.i2c n).rx,
  owns := bitOf r.xfer 12,
  run := some { r with left := r.left - k } }

/-- The bytes that the FIFOs allow. -/
def State.i2cRoom (s : State) (n : Nat) (r : I2cRun) (l : List Byte) : Nat :=
  if bitOf r.xfer 11 then min (8 - (s.i2c n).rx.length) l.length else (s.i2c n).tx.length

/-- The unit after `k` bytes, the bus free or kept for a repeated START. -/
def State.i2cStopped (s : State) (n : Nat) (r : I2cRun) (k : Nat) (l : List Byte) : State :=
  (s.setI2c n (s.i2cMoved n r k l)).busBusy n (bitOf r.xfer 12)

section

variable {n : Fin 2} {r : I2cRun} {how : I2cEnd} {l : List Byte} (hon : s.lineOn (s.i2cOn n) = true)
  (hrun : (s.i2c n).run = some r) (hw : r.waiting = false) (hl : r.lost = none)
include hon hrun hw hl

theorem execI2cTransferDone_of_ok (hhow : s.i2cHow n how = .ok) (hroom : r.left ≤ s.i2cRoom n r l) :
    execI2cTransferDone n l how s = .next ((s.i2cStopped n r r.left l).i2cEnd n 0) := by
  have hk : min r.left (s.i2cRoom n r l) = r.left := Nat.min_eq_left hroom
  rw [State.i2cRoom] at hk
  simp only [execI2cTransferDone, hrun, hon, hw, hl, hhow, hk, Bool.not_true, Option.isSome_none, Bool.or_self,
    Bool.false_eq_true, if_false, le_refl, if_true, State.i2cStopped, State.i2cMoved]

theorem execI2cTransferDone_of_nackAddr (hhow : s.i2cHow n how = .nackAddr) :
    execI2cTransferDone n l how s = .next ((s.i2cStopped n r 0 l).i2cEnd n 1) := by
  simp only [execI2cTransferDone, hrun, hon, hw, hl, hhow, Bool.not_true, Option.isSome_none, Bool.or_self,
    Bool.false_eq_true, if_false, State.i2cStopped, State.i2cMoved]

theorem execI2cTransferDone_of_nackData {i : Fin 255} (hhow : s.i2cHow n how = .nackData i) :
    execI2cTransferDone n l how s = .next (((s.i2cStopped n r (min (min r.left (s.i2cRoom n r l)) (i.val + 1)) l).wrF
      (Reg.I2C_ARBLOST n) 0 8 i.val).i2cEnd n 2) := by
  simp only [execI2cTransferDone, hrun, hon, hw, hl, hhow, Bool.not_true, Option.isSome_none, Bool.or_self,
    Bool.false_eq_true, if_false, State.i2cStopped, State.i2cMoved, State.i2cRoom]

end

theorem i2c_i2cStopped (s : State) (n : Nat) (r : I2cRun) (k : Nat) (l : List Byte) :
    (s.i2cStopped n r k l).i2c n = s.i2cMoved n r k l := (i2c_busBusy _ _ _).trans (i2c_setI2c _)

theorem execI2cTransferDone_nackAddr_spec {n : Fin 2} {r : I2cRun} {how : I2cEnd} {l : List Byte}
    (hon : s.lineOn (s.i2cOn n) = true) (hrun : (s.i2c n).run = some r) (hw : r.waiting = false) (hl : r.lost = none)
    (hhow : s.i2cHow n how = .nackAddr) : ∃ t, execI2cTransferDone n l how s = .next t ∧ (t.i2c n).run = none ∧
      t.rdF (Reg.I2C_STATUS n) 0 3 = 1 ∧ t.pending1 (229 + 2 * n) = true ∧ (t.i2c n).tx = (s.i2c n).tx := by
  have hend := i2cEnded (s.i2cStopped n r 0 l) n.isLt (code := 1) (by decide)
  have hunit := hend.unit
  rw [i2c_i2cStopped] at hunit
  refine ⟨_, execI2cTransferDone_of_nackAddr hon hrun hw hl hhow, congrArg I2cSt.run hend.unit, hend.status, hend.event, ?_⟩
  rw [hunit]
  exact ite_self _

theorem execI2cTransferDone_of_not_sending {n : Fin 2} {r : I2cRun} (how : I2cEnd) (l : List Byte)
    (h : (s.i2c n).run = none ∨ ((s.i2c n).run = some r ∧ (r.waiting = true ∨ r.lost ≠ none))) :
    execI2cTransferDone n l how s = .next s := by
  obtain h | ⟨h, hw | hl⟩ := h
  · simp only [execI2cTransferDone, h]
  · simp [execI2cTransferDone, h, hw]
  · simp [execI2cTransferDone, h, Option.isSome_iff_ne_none.mpr hl]

end

end Sys2Proof.Machine
end

section

open Sys2Proof Sys2Proof.Machine

/-- Settles O58, a lemma per row of each unit: what its FIFOs, flags and transfer are after it. -/
theorem serialUnitsMoveTheirFrames : Obligations.SerialUnitsMoveTheirFrames := by
  unfold Obligations.SerialUnitsMoveTheirFrames
  refine ⟨?_, ?_, ?_, ?_, ?_, ?_, ?_, ?_, ?_, ?_, ?_, ?_, ?_, ?_, ?_, ?_, ?_, ?_, ?_, ?_, ?_, ?_, ?_, ?_, ?_, ?_, ?_, ?_, ?_, ?_, ?_, ?_, ?_, ?_, ?_, ?_, ?_, ?_, ?_, ?_, ?_, ?_, ?_, ?_, ?_, ?_, ?_⟩
  case refine_1 =>
    intro x d l n s hoff
    simp [execSpiStart, execSpiTargetFrame, execSpiTransferEnd, State.lineOn, hoff]
  case refine_2 =>
    intro v b p q x n s hoff
    simp [execUartByteReceived, execUartRxTimeout, execUartDataWrite, execUartSendTask, execUartTxEmpty, State.lineOn,
      State.eventIf, hoff]
  case refine_3 =>
    intro v lost at_ l k x b how n s hoff
    have hdone : execI2cTransferDone n l how s = .next s := by
      cases h : (s.i2c n).run <;> simp [execI2cTransferDone, h, State.lineOn, hoff]
    have hbusy : execI2cBusBusyTimeout n s = .next s := by
      cases h : (s.i2c n).run <;> simp [execI2cBusBusyTimeout, h, State.i2cLive, State.lineOn, hoff]
    simp [execI2cXfer, execI2cClear, execI2cSclTimeout, execI2cSdaStuckTimeout, execI2cStopSeen, execI2cStartSeen,
      State.i2cLive, State.lineOn, hoff, hdone, hbusy]
  case refine_4 =>
    intro x n s hon hmode
    simp [execSpiStart, hmode]
  case refine_5 =>
    intro x n s hon hmode hbusy
    exact ⟨s.satAdd (Reg.SPI_STATUS n) 16 8, by simp [execSpiStart, hon, hmode, hbusy], rdF_satAdd_same _ (by decide),
      (OnlyRegs.refl _ _).satAdd (by simp)⟩
  case refine_6 =>
    intro x n s hon hmode hidle
    have hspi : ((s.setSpi n (s.spiBegun n)).setB (Reg.SPI_STATUS n) 0 true).spi n = s.spiBegun n :=
      (spi_congr rfl _).trans (spi_setSpi _)
    rw [exec_spiStart, execSpiStart_of_idle x hon hmode hidle]
    refine ⟨_, rfl, bit_setB_same _ _ (by decide), ?_⟩
    rw [hspi]
    exact ⟨rfl, rfl, rfl, rfl, rfl, rfl, OnlyRegs.setB (t := s.setSpi n (s.spiBegun n)) (OnlyRegs.refl _ _) (by simp)⟩
  case refine_7 =>
    intro u n l s hu hon hmode hbusy htx hrx hl
    subst hu
    rw [exec_spiTransferEnd, execSpiTransferEnd_of_done hon hmode hbusy (k := (s.spi n).left) (by omega) le_rfl]
    have hspi := (spi_congr (event_ser (s := (s.setSpi n (s.spiMoved n (s.spi n).left l)).setB (Reg.SPI_STATUS n) 0 false)
      (224 + 2 * n.val)) n.val).trans ((spi_congr rfl _).trans (spi_setSpi _))
    refine ⟨_, rfl, ?_, pending1_event_self _ (by omega), ?_⟩
    · exact (bit_congr (rd_event_of_le _ (Nat.le_add_right_of_le (by decide)) (by omega)) 0).trans (bit_setB_same _ _ (by decide))
    rw [hspi, event_ser]
    refine ⟨rfl, rfl, Nat.sub_self _, rfl, ?_⟩
    exact ((OnlyRegs.of_setSpi _).mono (by simp)).setB (by simp) |>.events.event (by simp [eventRegs]) (by simp [eventRegs])
  case refine_8 =>
    intro u n l s hu hon hmode hbusy htx hrx hl
    subst hu
    rw [exec_spiTransferEnd, execSpiTransferEnd_of_more hon hmode hbusy (k := (s.spi n).tx.length) (by omega) htx]
    refine ⟨_, rfl, ?_⟩
    rw [spi_setSpi]
    exact ⟨List.drop_length, rfl, OnlyRegs.refl _ _⟩
  case refine_9 =>
    intro l n s hon hmode hsel
    simp [execSpiTransferEnd, hon, hmode, State.spiSelected, hsel, State.eventIf]
  case refine_10 =>
    intro f q u n d s hu hon hmode hsel htx hrx
    subst hu
    rw [exec_spiTargetFrame, execSpiTargetFrame_of_live d hon hmode hsel, spiTake_of_room (by rwa [rx_spiShift]),
      spiShift_of_cons htx, spi_setSpi]
    refine ⟨_, rfl, ?_⟩
    rw [spi_setSpi]
    exact ⟨rfl, rfl, rfl, OnlyRegs.refl _ _⟩
  case refine_11 =>
    intro u n d s hu hon hmode hsel htx hrx
    subst hu
    rw [exec_spiTargetFrame, execSpiTargetFrame_of_live d hon hmode hsel, spiTake_of_room (by rwa [rx_spiShift]),
      spiShift_of_nil htx, spi_spiFlag, spi_setSpi]
    refine ⟨_, rfl, (bit_setSpi _ _ _).trans (bit_spiFlag _ n.isLt (by decide)), ?_⟩
    rw [spi_setSpi]
    exact ⟨rfl, rfl, fun h => (bit_setSpi _ _ _).trans (pending1_spiFlag n.isLt ((bit_setSpi _ _ _).trans h))⟩
  case refine_12 =>
    intro u n d s hu hon hmode hsel htx hrx
    subst hu
    obtain ⟨f, q, htx⟩ := List.exists_cons_of_ne_nil htx
    rw [exec_spiTargetFrame, execSpiTargetFrame_of_live d hon hmode hsel, spiTake_of_full (by rwa [rx_spiShift]),
      spiShift_of_cons htx]
    refine ⟨_, rfl, bit_spiFlag _ n.isLt (by decide), ?_, ?_, fun h => pending1_spiFlag n.isLt ((bit_setSpi _ _ _).trans h)⟩
    · refine (congrArg SpiSt.rx (spi_spiFlag _ _ _)).trans ?_
      rw [spi_setSpi]
    · exact congrArg (fun x : FaultSt => x.waiting ++ [slipWord (76 + n) 0x12 1 1]) (fault_spiFlag _ n.val 9)
  case refine_13 =>
    intro v n s hon hfull
    exact ⟨s.satAdd (Reg.UART_STATUS n) 16 8, by simp [execUartDataWrite, State.uartPush, hon, hfull],
      rdF_satAdd_same _ (by decide), (OnlyRegs.refl _ _).satAdd (by simp)⟩
  case refine_14 =>
    intro v n s hon hroom
    rw [exec_uartDataWrite, execUartDataWrite_of_room v hon hroom]
    refine ⟨_, rfl, ?_, ?_, ?_, onlyRegs_uartBusy _ _ _⟩
    · rw [uart_uartBusy, uart_setUart]
    · rw [uart_uartBusy, uart_setUart]
    · rw [busy_uartBusy, uartGo_setUart]
      cases s.uartGate n <;> simp
  case refine_15 =>
    intro n s hon hgate
    rw [exec_uartSendTask, execUartSendTask, if_pos (by rw [hon, hgate]; rfl)]
    refine ⟨_, rfl, ?_, ?_, ?_, onlyRegs_uartBusy _ _ _⟩
    · rw [uart_uartBusy, uart_setUart]
    · rw [uart_uartBusy, uart_setUart]
    · rw [busy_uartBusy, uartGo_setUart, if_pos hgate, Nat.min_self]
  case refine_16 =>
    intro n s hon hgate
    simp [execUartSendTask, hgate]
  case refine_17 =>
    intro n s hon hgo
    simp [execUartTxEmpty, hgo]
  case refine_18 =>
    intro n s hon hgo
    have huart : ((((s.setUart n (s.uartDrained n)).uartBusy n).eventIf ((s.uart n).tx.length == s.uartGo n)
        (233 + 2 * n)).uart n) = s.uartDrained n :=
      (uart_congr (eventIf_ser _ _ _) _).trans ((uart_uartBusy _ _).trans (uart_setUart _))
    rw [exec_uartTxEmpty, execUartTxEmpty_of_going hon hgo]
    refine ⟨_, rfl, ?_⟩
    rw [huart]
    refine ⟨rfl, ?_, rfl, fun hall => ?_, fun hall => ?_, fun hsome => ?_⟩
    · exact List.map_congr_left fun b _ => uartChar_eq s n b
    · rw [bit_congr (rd_eventIf_of_le _ (Nat.le_add_right_of_le (by decide)) (by omega)), busy_uartBusy, uartGo_drained hall]
      rfl
    · rw [beq_iff_eq.mpr hall]
      exact pending1_event_self _ (by omega)
    · rw [beq_eq_false_iff_ne.mpr hsome]
      exact onlyRegs_uartBusy s n _
  case refine_19 =>
    intro b p q x n s hon hwired hfull
    rw [exec_uartByteReceived, execUartByteReceived_of_full b p q x hon hwired hfull]
    refine ⟨_, rfl, ?_, ?_, ?_, ?_⟩
    · refine (bit_uartFlags s n p q x true).trans ?_
      rw [(bitOf_flagWord _ _ _ _).2.2.2, Bool.or_true]
    · exact pending1_uartFlags s n p q x true (Bool.or_true _)
    · exact congrArg UartSt.rx (uart_uartFlags s n p q x true n)
    · exact congrArg (fun y : FaultSt => y.waiting ++ [slipWord (80 + n) 0x12 1 2]) (fault_uartFlags s n p q x true)
  case refine_20 =>
    intro b p q x n s hon hwired hroom
    obtain ⟨h11, h12, h13, h14⟩ := bitOf_flagWord p (q && s.bit (Reg.UART_CFG n) 0) x false
    rw [exec_uartByteReceived, execUartByteReceived_of_room b p q x hon hwired hroom]
    refine ⟨_, rfl, ?_, ?_, ?_, ?_, ?_, fun herr => ?_, fun hlevel => ?_⟩
    · exact congrArg UartSt.rx (uart_uartReceived b p q x)
    · rw [bit_uartReceived, h11]
    · rw [bit_uartReceived, h12]
    · rw [bit_uartReceived, h13]
    · rw [bit_uartReceived, h14, Bool.or_false]
    · exact pending1_uartReceived b p q x herr
    · rw [State.uartReceived, beq_iff_eq.mpr hlevel]
      exact pending1_event_self _ (by omega)
  case refine_21 =>
    intro n s hon hrx
    simp [execUartRxTimeout, hrx, State.eventIf]
  case refine_22 =>
    intro n s hon hrx
    simp [execUartRxTimeout, hon, hrx, State.eventIf]
  case refine_23 =>
    intro v lost x n s hon hrun
    have hstart : exec (.i2cXfer n v lost x) s = .next (s.takeFree.2.satAdd (Reg.I2C_STATUS n) 16 8) := by
      rw [exec_i2cXfer, execI2cXfer_of_on v lost x hon]
      exact congrArg Host.Outcome.next (i2cStart_of_running hrun)
    rw [hstart]
    exact ⟨_, rfl, rdF_satAdd_same _ (by decide), (OnlyRegs.refl _ _).satAdd (by simp)⟩
  case refine_24 =>
    intro v x n s hon hidle hv hbus howns
    rw [exec_i2cXfer, execI2cXfer_of_on v none x hon, i2cStart_of_busy (s := s.takeFree.2) hidle hv hbus howns]
    refine ⟨_, rfl, ?_, busy_setI2c _, ?_, ?_⟩
    · rw [i2c_setI2c, State.i2cLossOf, Option.map_none, ite_self]
      rfl
    · exact (bit_setI2c _ (by decide)).trans hbus
    · exact onlyRegs_setI2c s.takeFree.2 n _ (by simp)
  case refine_25 =>
    intro v x n s hon hidle hv hbus
    have hnone : s.i2cLossOf n none = none := by rw [State.i2cLossOf, Option.map_none, ite_self]
    rw [exec_i2cXfer, execI2cXfer_of_on v none x hon, i2cStart_of_free (s := s.takeFree.2) hidle hv hbus, i2cBegin_of_calm hnone]
    refine ⟨_, rfl, ?_, ?_, bus_busBusy _ _ _, ?_⟩
    · rw [i2c_busBusy, i2c_setI2c]
      simp only [State.i2cTaken, runOf, hnone]
      rfl
    · exact (busy_busBusy _ _ _).trans (busy_setI2c _)
    · exact onlyRegs_busBusy s.takeFree.2 n _ true (by simp)
  case refine_26 =>
    intro v i b x n s hon hidle hv hbus hwired
    have hsome : s.i2cLossOf n (some (i, b)) = some (i.val, b.val) := by rw [State.i2cLossOf, if_pos hwired]; rfl
    rw [exec_i2cXfer, execI2cXfer_of_on v _ x hon, i2cStart_of_free (s := s.takeFree.2) hidle hv (.inl hbus), i2cBegin_of_loss hsome]
    refine ⟨_, rfl, (loss_i2cAnswered _ _ _).trans (rd_wr_same _ _ _), ?_, ?_⟩
    · rw [i2c_i2cAnswered, i2c_i2cLoss, i2c_busBusy, i2c_setI2c]
      split <;> rfl
    · rw [i2c_i2cAnswered, i2c_i2cLoss, i2c_busBusy, i2c_setI2c]
      simp only [Bool.and_eq_true, decide_eq_true_eq, and_assoc, apply_ite I2cSt.target]
      rfl
  case refine_27 =>
    intro n s hon hidle
    have hend := i2cEnded_of_free s n.isLt
    rw [exec_i2cClear, execI2cClear_of_on hon hidle, Bool.true_or]
    refine ⟨_, rfl, congrArg I2cSt.run hend.unit, hend.status, hend.event, hend.bus.trans (bus_busBusy _ _ _), ?_⟩
    rw [i2cBusClear_of_free]
    refine onlyEvents_i2cEnd (by decide) ?_ (by simp) (by simp [eventRegs]) (by simp [eventRegs])
    exact onlyRegs_busBusy s n _ false (by simp)
  case refine_28 =>
    intro n s hon hidle hwired
    have hend := i2cEnded_of_stuck s n.isLt
    have hfault : (s.i2cBusClear n false).fault.waiting = s.fault.waiting ++ [slipWord (78 + n) 0x12 1 3] := by
      rw [State.i2cBusClear, if_neg Bool.false_ne_true, ← fault_i2cEnd s n 7]
      rfl
    rw [exec_i2cClear, execI2cClear_of_on hon hidle, hwired]
    exact ⟨_, rfl, congrArg I2cSt.run hend.unit, hend.status, hend.event, hfault, hend.bus⟩
  case refine_29 =>
    intro x n s hlive hauto
    rw [exec_i2cSdaStuckTimeout, execI2cSdaStuckTimeout, if_pos (by rw [hlive, hauto]; rfl)]
    cases x with
    | true =>
      have hend := i2cEnded_of_free s n.isLt
      exact ⟨_, rfl, congrArg I2cSt.run hend.unit, hend.status, hend.event⟩
    | false =>
      have hend := i2cEnded_of_stuck s n.isLt
      exact ⟨_, rfl, congrArg I2cSt.run hend.unit, hend.status, hend.event⟩
  case refine_30 =>
    intro x n s hlive hauto
    simp [execI2cSdaStuckTimeout, hauto]
  case refine_31 =>
    intro r n s hlive hrun
    have hend := i2cEnded (s.setI2c n { s.i2c n with owns := false }) n.isLt (code := 5) (by decide)
    have hunit := hend.unit
    rw [i2c_setI2c] at hunit
    rw [exec_i2cSclTimeout, execI2cSclTimeout, if_pos (by rw [hlive, hrun]; rfl)]
    refine ⟨_, rfl, congrArg I2cSt.run hend.unit, hend.status, hend.event, ?_, ?_⟩
    · rw [hunit]
    · rw [hunit]
  case refine_32 =>
    intro r n s hlive hrun hw
    have hend := i2cEnded s n.isLt (code := 4) (by decide)
    have hexec : execI2cBusBusyTimeout n s = .next (s.i2cEnd n 4) := by simp [execI2cBusBusyTimeout, hrun, hlive, hw]
    exact ⟨_, hexec, congrArg I2cSt.run hend.unit, hend.status, hend.event⟩
  case refine_33 =>
    intro r p data k n s hlive hrun hw htarget
    obtain ⟨⟨r', hrun', hw'⟩, htarget', hloss⟩ := i2cDisturb_spec (p := lossAt p) hrun hw
    have hend := i2cEnded ((s.i2cDisturb n (lossAt p)).busBusy n false) n.isLt (code := 3) (by decide)
    rw [exec_i2cStopSeen, execI2cStopSeen_of_live _ hlive, i2cTargetEnd_of_none (htarget'.trans htarget),
      i2cAfterStop_of_lost ((congrArg I2cSt.run (i2c_busBusy _ _ _)).trans hrun') hw']
    refine ⟨_, rfl, congrArg I2cSt.run hend.unit, hend.status, hend.event, hend.bus.trans (bus_busBusy _ _ _), fun hl => ?_⟩
    exact hend.loss.trans ((rd_busBusy _ (arbLost_ne_status n)).trans (hloss hl))
  case refine_34 =>
    intro p data k n s hlive hidle htarget hroom
    have hunit : ((((s.setI2c n (s.i2cReleased n data k)).event (228 + 2 * n)).busBusy n false).i2c n) =
        s.i2cReleased n data k := (i2c_busBusy _ _ _).trans ((i2c_congr (event_ser _ _) _).trans (i2c_setI2c _))
    rw [exec_i2cStopSeen, execI2cStopSeen_of_live _ hlive, i2cDisturb_of_idle hidle, i2cTargetEnd_of_some htarget,
      i2cAfterStop_of_idle ((congrArg I2cSt.run hunit).trans hidle)]
    refine ⟨_, rfl, ?_, ?_, ?_, bus_busBusy _ _ _, ?_⟩
    · rw [hunit, State.i2cReleased]
    · rw [hunit, State.i2cReleased, List.take_of_length_le (by omega)]
    · rw [hunit, State.i2cReleased]
    · rw [State.busBusy, State.setB, State.wrF, pending1_wr_of_le _ _ (Nat.le_add_right_of_le (by decide)) (by omega)]
      exact pending1_event_self _ (by omega)
  case refine_35 =>
    intro p a n s hlive hidle
    rw [exec_i2cStartSeen, execI2cStartSeen_of_live _ _ hlive, i2cDisturb_of_idle hidle]
    refine ⟨_, rfl, (bit_setI2c _ (by decide)).trans (bus_busBusy _ _ _), ?_, ?_⟩
    · rw [i2c_setI2c]
      simp only [State.i2cMine, Bool.and_eq_true, bne_iff_ne, beq_iff_eq, and_assoc]
    · exact OnlyRegs.setI2c _ ((OnlyRegs.refl _ _).setB (by simp)) (by simp)
  case refine_36 =>
    intro r l n s hon hwired hrun hw hl hread hlen
    have hend := i2cEnded (s.i2cStopped n r r.left l) n.isLt (code := 0) (by decide)
    have hunit := hend.unit
    rw [i2c_i2cStopped] at hunit
    rw [exec_i2cTransferDone, execI2cTransferDone_of_ok hon hrun hw hl (if_pos hwired)
      (by rwa [State.i2cRoom, hread, if_neg Bool.false_ne_true])]
    refine ⟨_, rfl, congrArg I2cSt.run hend.unit, hend.status, hend.event, ?_, ?_, hend.bus.trans (bus_busBusy _ _ _), ?_⟩
    all_goals
      rw [hunit]
      simp [State.i2cMoved, hread]
  case refine_37 =>
    intro r l n s hon hwired hrun hw hl hread hlen hroom
    have hend := i2cEnded (s.i2cStopped n r r.left l) n.isLt (code := 0) (by decide)
    have hunit := hend.unit
    rw [i2c_i2cStopped] at hunit
    rw [exec_i2cTransferDone, execI2cTransferDone_of_ok hon hrun hw hl (if_pos hwired)
      (by rw [State.i2cRoom, hread, if_pos rfl]; omega)]
    refine ⟨_, rfl, congrArg I2cSt.run hend.unit, hend.status, hend.event, ?_, ?_⟩
    all_goals
      rw [hunit]
      simp [State.i2cMoved, hread]
  case refine_38 =>
    intro r n s h
    obtain h | ⟨h, hw⟩ := h
    · simp only [exec_i2cBusBusyTimeout, execI2cBusBusyTimeout, h]
    · simp [execI2cBusBusyTimeout, h, hw]
  case refine_39 =>
    intro r l n s hon hrun hw hl
    have hhow : s.i2cHow n .nackAddr = .nackAddr := ite_self _
    exact execI2cTransferDone_nackAddr_spec hon hrun hw hl hhow
  case refine_40 =>
    intro r i l n s hon hwired hrun hw hl
    rw [exec_i2cTransferDone, execI2cTransferDone_of_nackData hon hrun hw hl (if_pos hwired)]
    generalize s.i2cStopped n r _ l = t
    have hend := i2cEnded (t.wrF (Reg.I2C_ARBLOST n) 0 8 i.val) n.isLt (code := 2) (by decide)
    refine ⟨_, rfl, congrArg I2cSt.run hend.unit, hend.status, hend.event, ?_⟩
    exact (rdF_congr hend.loss 0 8).trans ((rdF_wrF_same _ _ (by decide)).trans (Nat.mod_eq_of_lt (by omega)))
  case refine_41 =>
    intro r how l n s h
    exact execI2cTransferDone_of_not_sending how l h
  case refine_42 =>
    intro f n s hon hmode hsel hlsb hhead
    obtain ⟨q, htx⟩ : ∃ q, (s.spi n).tx = f :: q := List.head?_eq_some_iff.mp hhead
    rw [exec_spiTargetFrame, execSpiTargetFrame_of_live 0 hon hmode hsel]
    refine ⟨_, rfl, fun i hi => ?_⟩
    rw [sent_spiTake, spiShift_of_cons htx, spi_setSpi]
    exact testBit_spiLine_of_lsb hlsb hi
  case refine_43 =>
    intro d l n s h
    obtain h | ⟨hmode, hsel⟩ := h
    · simp [execSpiTargetFrame, execSpiTransferEnd, State.lineOn, h]
    · simp [execSpiTargetFrame, execSpiTransferEnd, hmode, State.spiSelected, hsel, State.eventIf]
  case refine_44 =>
    intro b p q x n s h
    obtain h | h := h <;> simp [execUartByteReceived, State.lineOn, h]
  case refine_45 =>
    intro p l k b x n s hlive
    have hbusy : execI2cBusBusyTimeout n s = .next s := by
      cases h : (s.i2c n).run <;> simp [execI2cBusBusyTimeout, h, hlive]
    simp [execI2cSclTimeout, execI2cSdaStuckTimeout, execI2cStopSeen, execI2cStartSeen, hlive, hbusy]
  case refine_46 =>
    intro r how l n s hon hrun hw hl hwired
    exact execI2cTransferDone_nackAddr_spec hon hrun hw hl (if_neg (by rw [hwired]; decide))
  case refine_47 =>
    intro n s hon hidle hwired
    rw [exec_i2cClear, execI2cClear_of_on hon hidle, hwired]
    exact ⟨_, rfl, (i2cEnded_of_free s n.isLt).status⟩

end
